-- ==== Sys2Proof/Word.lean ====
section
/-! DEFINITION. Sys2Proof/Word.lean: the word types of the register space (R4), the index types of R11. -/
namespace Sys2Proof

/-- A register word: all registers are 32 bits wide (R4). -/
abbrev Word := BitVec 32
/-- A counter or a register pair: 64 bits (R6, R416). -/
abbrev Word64 := BitVec 64
/-- One byte of a payload or of memory. -/
abbrev Byte := BitVec 8

/-- Main lane, Tandem lane and Waggle lane in one numbering: 0-255 main, 256 + j Tandem lane j, 264 Waggle (R11, R418). -/
abbrev LaneIx := Fin 265
/-- Port group PGk (R11). -/
abbrev Pg := Fin 16
/-- Port Pn (R11). -/
abbrev Port := Fin 64
/-- VCS k (R14). -/
abbrev Vcs := Fin 64
/-- Entry n of the vPPB table (R158). -/
abbrev Vppb := Fin 4096
/-- Subscriber, the 12-bit SUBID (R14). -/
abbrev SubId := Fin 4096
/-- Service S0 to S7. -/
abbrev Svc := Fin 8
/-- Hive h (R14). -/
abbrev Hive := Fin 16
/-- Host slot i of a hive (R243). -/
abbrev Slot := Fin 64
/-- Keeper core c (R371). -/
abbrev Core := Fin 4
/-- Tile t, and Ehrurn link EHRt. -/
abbrev Tile := Fin 4
/-- Data-mover channel (R14). -/
abbrev Chan := Fin 64
/-- Data-mover or pool VF (R14). -/
abbrev Vf := Fin 256
/-- Dirty log (R14). -/
abbrev Log := Fin 64
/-- HAT rule (R14). -/
abbrev Rule := Fin 65536
/-- Logical device of a downstream port (R14). -/
abbrev Ld := Fin 16
/-- Mailbox box (R385). -/
abbrev BoxIx := Fin 67

end Sys2Proof
end

