-- ==== Sys2Proof/Machine/Sparse.lean ====
section
/-! DEFINITION. Sys2Proof/Machine/Sparse.lean: sparse maps held as lists of key and value pairs in ONE canonical form (keys
strictly rising, no entry equal to the default of its key), so that equal contents are equal data; and the bit-field helpers. -/
namespace Sys2Proof.Machine

/-- Lookup in a list of key and value pairs. -/
def assoc {α : Type} : List (Nat × α) → Nat → Option α
  | [], _ => none
  | (k, v) :: t, a => if k = a then some v else assoc t a

/-- Put one pair into a list sorted by key, in place of an equal key. -/
def assocPut {α : Type} : List (Nat × α) → Nat → α → List (Nat × α)
  | [], a, x => [(a, x)]
  | (k, v) :: t, a, x =>
    if a < k then (a, x) :: (k, v) :: t else if k = a then (a, x) :: t else (k, v) :: assocPut t a x

/-- Remove a key. -/
def assocDel {α : Type} (m : List (Nat × α)) (a : Nat) : List (Nat × α) := m.filter fun e => e.1 != a

/-- The sparse map's value at a key: the listed one, else the default of the key. -/
def sparseGet {α : Type} (dflt : Nat → α) (m : List (Nat × α)) (a : Nat) : α :=
  match assoc m a with
  | some v => v
  | none => dflt a

/-- Write in canonical form: writing the default removes the entry. -/
def sparsePut {α : Type} [DecidableEq α] (dflt : Nat → α) (m : List (Nat × α)) (a : Nat) (x : α) : List (Nat × α) :=
  if x = dflt a then assocDel m a else assocPut m a x

/-- Keys strictly rising from a lower bound. -/
def keysRise {α : Type} : Option Nat → List (Nat × α) → Bool
  | _, [] => true
  | none, (k, _) :: t => keysRise (some k) t
  | some j, (k, _) :: t => decide (j < k) && keysRise (some k) t

/-- The canonical form: keys strictly rising and no entry equal to the default of its key. -/
def sparseWf {α : Type} [DecidableEq α] (dflt : Nat → α) (m : List (Nat × α)) : Bool :=
  keysRise none m && m.all fun e => decide (e.2 ≠ dflt e.1)

/-- The bits [lo + width - 1 : lo] of a number. -/
def bitsOf (w lo width : Nat) : Nat := w / 2 ^ lo % 2 ^ width

/-- A number with bit i clear. -/
def clearBit (w i : Nat) : Nat := if bitsOf w i 1 = 1 then w - 2 ^ i else w

/-- A Bool as one bit. -/
def bit (b : Bool) : Nat := if b then 1 else 0

end Sys2Proof.Machine
end

