-- ==== Sys2Proof/Machine/Types.lean ====
section
/-! DEFINITION. Sys2Proof/Machine/Types.lean: the data that commands carry and that the state holds: masters, fault messages, log
entries, samples of pins, messages of the switch, records of the mirror stream and the rest, as plain data. -/
namespace Sys2Proof.Machine

/-- A map from indices to values, held as a list sorted by index. -/
abbrev NMap (α : Type) := List (Nat × α)

/-! ### Masters and faults (R4, R343 to R350, R431) -/

/-- A master of the register space (R431). -/
inductive Master where
  | keeper (c : Core)
  | policy
  | host (v : Vcs)
  | board
  | mover (f : Vf)
  /-- The debug port, through SEC_ACCESS (R410). -/
  | dbg
deriving DecidableEq, Repr

/-- A fault message (R346). `addr` is the byte address the block holds (AVALID = 0 where none); `ts` is TS, bits [26:1] of
the time base at detection. -/
structure FaultMsg where
  kind : Nat
  cls : Nat
  source : Nat
  unit : Nat
  atype : Nat
  party : Nat
  addr : Option Nat
  ts : Nat
deriving DecidableEq, Repr

/-- A log entry (R350): the message with CLASS and ESC as decided, SEQ, AFTER_STOP and the full time of detection. -/
structure LogEntry where
  msg : FaultMsg
  esc : Bool
  seq : Nat
  afterStop : Bool
  time : Nat
deriving DecidableEq, Repr

/-- ORIGIN of a stop (R363). -/
inductive StopOrigin where
  | source | escalation | startFail | power | removal
deriving DecidableEq, Repr

/-- MASTER[15:12] kinds of R348. -/
def Party.none : Nat := 0
def Party.sub (n : Nat) : Nat := 0x1000 + n
def Party.chan (n : Nat) : Nat := 0x2000 + n
def Party.core (n : Nat) : Nat := 0x3000 + n
def Party.combClient (n : Nat) : Nat := 0x4000 + n
def Party.slot (h i : Nat) : Nat := 0x5000 + 64 * h + i
def Party.port (n : Nat) : Nat := 0x6000 + n
def Party.pid (n : Nat) : Nat := 0x7000 + n
def Party.lane (n : Nat) : Nat := 0x8000 + n

/-! ### Power entry (R34 to R48) -/

/-- What the hot-swap controller samples in one tick (R34): seating pins, feed voltages in mV, feed currents in mA, whether the pass FET
regulates at ILIM, FET and junction temperatures coded as PWR_TEMP, the intermediate bus in mV, whether every point-of-load rail
is in its window, whether the target path conducts with the converter running, and whether the pass FET is off. -/
structure HsSample where
  seatL : Bool
  seatR : Bool
  vA : Nat
  vB : Nat
  iA : Nat
  iB : Nat
  limiting : Bool
  fetA : Nat
  fetB : Nat
  jmax : Nat
  bus : Nat
  polOk : Bool
  conducting : Bool
  running : Bool
  fetOff : Bool
deriving DecidableEq, Repr

/-- A feed (R43). -/
inductive Feed where
  | a | b
deriving DecidableEq, Repr

/-- Straps as the pins read: MOD_ID[2:0] and TANDEM_ROLE (R30). -/
structure Straps where
  modId : Fin 8
  role : Bool
deriving DecidableEq, Repr

/-! ### Register access messages and telemetry (R420 to R428, R433) -/

/-- An MCTP register access message (R433): its tag, address and count, the words of a WRITE, whether its length matches COUNT, how many
requests the module holds as it arrives, and whether it came over PCIe VDM. -/
structure MctpMsg where
  tag : Byte
  addr : Word
  count : Nat
  words : List Word
  lengthOk : Bool
  held : Nat
  vdm : Bool
deriving DecidableEq, Repr

/-- A timed request (R424): ports, service, subscriber, the one-way and the round-trip latency in ns, and whether it was selected while its
tile had 256 requests in flight, or was answered by a flush, fault or hive-down. -/
structure LatSample where
  inPort : Port
  outPort : Port
  svc : Svc
  sub : SubId
  oneWay : Nat
  roundTrip : Nat
  skipped : Bool
  discarded : Bool
deriving DecidableEq, Repr

/-! ### Start-up and the NV store (R75, R76, R402, R366) -/

/-- A signed firmware or policy partition image (R399 to R401): the 256 bytes of its header, the first eight of its signature block, and the outcome of each check over its other
bytes: whether they are BODY_LEN bytes whose SHA-384 is BODY_HASH, whether its keys match the hash of their slot, the ECDSA and the ML-DSA signature; and the SHA-384 of its header
and body (R406). -/
structure SignedImage where
  header : List Byte
  block : List Byte
  bodyOk : Bool
  keyHashOk : Bool
  eccOk : Bool
  mldsaOk : Bool
  digest : BitVec 384
deriving DecidableEq, Repr

/-- The wires found bad in one module of one direction of an Ehrurn link at boot repair, and whether its spare clock pair is used
(R182, R191; dir 0 tile to hub, 1 hub to tile). -/
structure WireRepair where
  link : Fin 4
  dir : Fin 2
  module : Fin 17
  wires : List (Fin 64)
  clkSpare : Bool
deriving DecidableEq, Repr

/-- The item of the NV store that holds a word (R366, R448). -/
inductive NvItem where
  | param (copy : Fin 2)
  | firmware (b : Bool)
  | fixon (b : Bool)
  | policy
  | record (i : Fin 16)
  | other
deriving DecidableEq, Repr

/-! ### Mailboxes (R386 to R391) -/

/-- Return codes of the mailbox (R418, R386, R391). -/
inductive RetCode where
  | success | background | busy | invalidInput | unsupported | aborted | other
deriving DecidableEq, Repr

/-- Kinds of event record of the fabric manager (R119, R155, R359). -/
inductive FmEventKind where
  | fault | portUp | portDown | hotAdd | hotRemove | surpriseDown | vppb | hiveDown
deriving DecidableEq, Repr

/-- Actions of Transfer FW: a whole image at once, or in parts. -/
inductive XferAct where
  | full | start | continue | finish | abort
deriving DecidableEq, Repr

/-- Actions of Physical Port Control. -/
inductive PortControl where
  | retrain | reset | perst
deriving DecidableEq, Repr

/-- What resets a mailbox box (R389). -/
inductive BoxReset where
  | flr | linkDown | vcsDisabled | fabricReset
deriving DecidableEq, Repr

/-! ### Security (R405 to R412) -/

/-- SPDM transports (R405). -/
inductive Transport where
  | doe (v : Vcs)
  | i3c
  | smbus
  | vdm (v : Vcs)
deriving DecidableEq, Repr

/-- SPDM requests but for KEY_EXCHANGE and GET_MEASUREMENTS (R405). -/
inductive SpdmRequest where
  | getVersion | getCapabilities | negotiateAlgorithms | getDigests | getCertificate (slot : Nat) | challenge | finish | heartbeat | keyUpdate | chunk
  | endSession (id : Nat)
  | unsupported
deriving DecidableEq, Repr

/-- The checks of a token's signature block over its bytes: whether its keys match their slot's hash, and both signatures (R401 checks 3 to 5). -/
structure TokenSignature where
  keyHashOk : Bool
  eccOk : Bool
  mldsaOk : Bool
deriving DecidableEq, Repr

/-! ### Messages of the switch (R165 to R177, R193, R216) -/

/-- Kinds of message that cross the module (R172): CXL.mem M2S requests without and with data, S2M answers, back-invalidates, CXL.cache, CXL.io. -/
inductive MsgKind where
  | memRd | memRdData | memSpecRd | memInv | memInvNT | memClnEvct | biConflict
  | memWr | memWrPtl
  | memData | cmp | cmpS | cmpE | biConflictAck
  | biSnpInv | biSnpData | biSnpCur
  | biRspI | biRspS | biRspE | biRspBlk
  | d2hReq | d2hRsp | d2hData | h2dReq | h2dRsp | h2dData
  | cfgReq | cfgCpl | mctp | fanout
  | ioNp | ioPosted | cpl | bcast
  /-- A Precision Time Measurement request of the partner (R117). -/
  | ptmReq
  /-- A message the module originates for its own use: a hive-down message, a swarm notice. -/
  | own
deriving DecidableEq, Repr

/-- MetaValue of a CXL.mem request; `noOp` stands for MetaField No-Op, which the home treats as I (R218). -/
inductive MetaVal where
  | i | s | a | noOp
deriving DecidableEq, Repr

/-- Type of memory a request addresses (R153). -/
inductive MemType where
  | hdmH | hdmD | hdmDB
deriving DecidableEq, Repr

/-- Where the standard routing of a CXL.io message by the host's own configuration leads (buses and windows of the bridges): function 0 of the USP device, which is the upstream
vPPB; function 1, the management function; a device and function of the VCS's internal bus; what lies behind downstream vPPB i; the host; a VF; every downstream vPPB. -/
inductive IoRoute where
  | here
  | func1
  | bridge (dev : Nat) (fn : Nat)
  | vppb (i : Nat)
  | up
  | vf (v : Vf)
  | broadcast
  | nowhere
deriving DecidableEq, Repr

/-- What a configuration write of a host changes in the functions the module presents (R116, R117, R141, R225, R284, R286): by vPPB its bus range, CacheID, BI-ID
and the enables of DPC and AER; on the management function VF Enable; by VF the PASID enable. -/
inductive CfgItem where
  | busRange (n : Nat) (lo hi : Nat)
  | cacheId (n : Nat) (id : Option Nat)
  | biId (n : Nat) (id : Option Nat)
  | dpcEnable (n : Nat) (on : Bool)
  | vfEnable (on : Bool)
  | pasidEnable (v : Nat) (on : Bool)
  /-- Hot-Plug Interrupt Enable of a downstream vPPB (R117, R146). -/
  | hotPlugEnable (n : Nat) (on : Bool)
  /-- Presence Detect Changed and Data Link Layer State Changed, written 1 to clear (R117, R146). -/
  | slotClear (n : Nat) (presence link : Bool)
deriving DecidableEq, Repr

/-- A register of the configuration space of a function the module presents, of which the manual fixes bits (R117, R140, R141, R286). -/
inductive CfgReg where
  | headerType | deviceCap | slotCap | slotCtl | slotStatus | linkCtl | linkStatus | dpcStatus | ptmCap | totalVfs | vfOffset
  /-- Every other register: what it reads is the standard's. -/
  | other
deriving DecidableEq, Repr

/-- What a flush covers (R153). -/
inductive FlushScope where
  | vppb (n : Nat)
  | port (p : Nat)
  | usp (v : Nat)
deriving DecidableEq, Repr

/-- Routing of a PCI Express Message (R126, R235). -/
inductive VdmRouting where
  | toRoot | byAddress | byId | broadcast | localReceiver | gathered
deriving DecidableEq, Repr

/-- A vendor-defined message without data as it crosses a link: Message Code, routing, traffic class, vendor ID, and bytes 12 to 15 of its header (R126, R235, R337). -/
structure Vdm where
  code : Byte
  routing : VdmRouting
  tc : Fin 8
  vendor : BitVec 16
  b12 : Byte
  b13 : Byte
  b14 : Byte
  b15 : Byte
deriving DecidableEq, Repr

/-- Quinmen's vendor ID (DEV_VENDOR, R126). -/
def quinmenId : BitVec 16 := 0x1F3D

/-- A message of the module's own protocols: Vendor-Defined Type 1, TC0, with its PROTO, OP, VER and two further bytes. -/
def Vdm.of (routing : VdmRouting) (proto op ver x y : Nat) : Vdm :=
  { code := 0x7F, routing := routing, tc := 0, vendor := quinmenId, b12 := BitVec.ofNat 8 proto, b13 := BitVec.ofNat 8 (op % 16 * 16 + ver % 16), b14 := BitVec.ofNat 8 x,
    b15 := BitVec.ofNat 8 y }

/-- The header is that of a message of a protocol with this routing; any other Type 1 message is not for the module and is dropped without notice (R124, R126). -/
def Vdm.headed (v : Vdm) (routing : VdmRouting) : Bool := v.code == 0x7F && v.routing == routing && v.tc == 0 && v.vendor == quinmenId

/-- PROTO, OP, VER, and bytes 14 and 15, which DSX names SEQ and ARG (R126). -/
def Vdm.proto (v : Vdm) : Nat := v.b12.toNat
def Vdm.op (v : Vdm) : Nat := v.b13.toNat / 16
def Vdm.ver (v : Vdm) : Nat := v.b13.toNat % 16
def Vdm.seq (v : Vdm) : Nat := v.b14.toNat
def Vdm.arg (v : Vdm) : Nat := v.b15.toNat

/-- Opcodes of DSX messages (R127). -/
inductive DsxOp where
  | hello | helloAck | sleepReq | sleepAck | sleepNak | wakeReq
deriving DecidableEq, Repr

/-- The OP of each DSX message (R127). -/
def DsxOp.code : DsxOp → Nat
  | .hello => 1
  | .helloAck => 2
  | .sleepReq => 3
  | .sleepAck => 4
  | .sleepNak => 5
  | .wakeReq => 6

/-- A DSX message (R126, R127). -/
def dsxMessage (op : DsxOp) (ver seq arg : Nat) : Vdm := Vdm.of .localReceiver 0xD5 op.code ver seq arg

/-- A message as it arrives on a port, or as the module carries it. `src` and `dst` are a port, or 64 + k for internal endpoint IEPk (R12); `vppb` and `gen` the admitting vPPB and
its generation; `slot` its tracker slot at the egress port; `bytes` the prefixes, header and payload of a CXL.io message; `rdLen` the bytes a CXL.io read asks for; `len` the charged length of R193; `epoch` the
rule epoch it was checked under; `targets` the ports of a multicast message; `vcs` and `vf` the VCS or mover VF it comes from; `hive`, `hslot` and `off` the hive, host slot and hive offset of a request
to IEP0; `status` the completion status of a CXL.io completion; `final` tells the last completion of several; `mover`
the channel, the descriptor's number and the part a data-mover request serves; `cfgReg` the register a configuration read names; `group` the multicast group to which a
management message asks IEP3 to fan out; `orphan` tells that the device it comes from was lost to a port flush; `flush` the flush a synthesized answer belongs to. -/
structure Msg where
  kind : MsgKind
  svc : Nat := 0
  sub : Nat := 0
  src : Nat := 0
  dst : Nat := 0
  vppb : Option Nat := none
  gen : Nat := 0
  slot : Option Nat := none
  tag : Nat := 0
  addr : Nat := 0
  mv : MetaVal := .noOp
  mem : MemType := .hdmH
  ld : Nat := 0
  data : List Byte := []
  rdLen : Nat := 4
  enables : Nat := 2 ^ 64 - 1
  bytes : Nat := 16
  len : Nat := 16
  colour : Nat := 0
  devLoad : Nat := 0
  poison : Bool := false
  status : Nat := 0
  final : Bool := true
  epoch : Option Nat := none
  cacheId : Nat := 0
  biId : Nat := 0
  bus : Nat := 0
  pasid : Option Nat := none
  spid : Option Nat := none
  dpid : Option Nat := none
  route : IoRoute := .here
  cfg : Option CfgItem := none
  targets : List Nat := []
  relaxed : Bool := false
  idOrder : Bool := false
  writeBack : Bool := false
  counted : Bool := false
  vcs : Option Nat := none
  vf : Option Nat := none
  hive : Nat := 0
  hslot : Option Nat := none
  off : Nat := 0
  mover : Option (Nat × Nat × Nat) := none
  cfgReg : CfgReg := .other
  group : Option Nat := none
  orphan : Bool := false
  flush : Option FlushScope := none
  vdm : Option Vdm := none
  looked : Bool := false
  lent : Bool := false
deriving DecidableEq, Repr

/-- A tracker slot by number: of a port and class (R150), of the home's forward tracker, its snoop slots, or IEP2's tracker. -/
inductive TrackId where
  | port (p : Port) (c : Fin 4) (slot : Fin 4096)
  | forward (slot : Fin 16384)
  | snoop (slot : Fin 4096)
  | mover (slot : Fin 20480)
deriving DecidableEq, Repr

/-- A shaper entry (R212, R213). -/
inductive ShaperId where
  | sub (u : SubId)
  | port (p : Port)
deriving DecidableEq, Repr

/-- A service of a port, with the class of CXL.io message on S1 (0 posted, 1 non-posted, 2 completion), for which the tile has granted no staging space (R197). -/
structure Stall where
  port : Port
  svc : Svc
  cls : Fin 3
deriving DecidableEq, Repr

/-- What the protection of the core finds as a message is read (R187). -/
inductive CoreError where
  | clean | cellCe | cellUe | hdrUe | listCe | listUe | refcnt | xbarParity
deriving DecidableEq, Repr

/-- What the protection of the home's storage finds as IEP0 serves a message (R240): nothing, a corrected or an uncorrectable error in the on-die entry of its sector, a parity
error of the home's queues, trackers and snoop slots, or one of the snoop table or write-back queues of the tile of a port. -/
inductive HomeCheck where
  | clean | corrected | dirUe | parity
  | tileParity (p : Port)
deriving DecidableEq, Repr

/-- An entry of the snoop table of a port (R224): the BITag, the PID of the module whose home sent the snoop where it is another, the line, and whether its write-back has arrived. -/
structure SnoopRec where
  tag : Nat
  home : Option Nat
  line : Nat
  back : Bool
deriving DecidableEq, Repr

/-- A beat of an Ehrurn slot (R180): eight granules of data, the control word, and the CRC-32C over both. -/
structure EhrBeat where
  data : List Byte
  control : BitVec 64
  crc : Word
deriving DecidableEq, Repr

/-- A token bucket (R200): subscriber shaper, port shaper, or the policer of a subscriber in a tile. -/
inductive BucketId where
  | sub (u : SubId)
  | port (p : Port)
  | pol (t : Tile) (u : SubId)
deriving DecidableEq, Repr

/-! ### Rules (R301) -/

/-- A word of a rule entry as it is written (R301). -/
inductive RuleWord where
  | ctl (v : Word)
  | base (v : Word64)
  | own (k : Fin 4) (v : Word)
deriving DecidableEq, Repr

/-! ### Directory and mirror records (R219, R305, R320) -/

/-- A directory entry (R219): SHARERS as a mask, OWNER, LSTATE of lines 0 to 3 (0 I, 1 S, 2 O, 3 A), and HGEN. -/
structure DirEntry where
  sharers : Nat
  owner : Nat
  st : List Nat
  hgen : Nat
deriving DecidableEq, Repr

/-- The body of a mirror record from the active (R320). -/
inductive RecBody where
  | dir (hive sector : Nat) (e : Option DirEntry)
  | reg (addr : Nat) (words : List Nat)
  | commit (epoch : Nat) (full : Bool) (rules : List (Nat × List Nat))
  | epoch (mepoch time : Nat)
  | bulkBegin
  | bulkDir (hive group count : Nat) (entries : List (Nat × DirEntry))
  | bulkEnd
deriving DecidableEq, Repr

/-- A mirror record: its SEQ, the region it covers (R305; 20 for an EPOCH record), its body, and whether it has been sent. -/
structure Rec where
  seq : Nat
  region : Nat
  body : RecBody
  sent : Bool
deriving DecidableEq, Repr

/-- A TRAIN payload (R312). -/
structure TrainPayload where
  mpvMin : Nat
  mpvMax : Nat
  modId : Nat
  strap : Bool
  credits : Nat
  serial : List Byte
deriving DecidableEq, Repr

/-- What every Tandem frame carries beside its payload: whether its CRC is intact after correction, its TYPE, CRET and RXCNT (R310). -/
structure TdmHeader where
  intact : Bool
  kind : BitVec 4
  cret : BitVec 16
  rxcnt : BitVec 16
deriving DecidableEq, Repr

/-- A Waggle block (R315). -/
structure WBlock where
  state : Nat
  strap : Bool
  modId : Nat
  msg : Nat
  hseq : Nat
  low : Nat
  rmask : Nat
  rsync : Nat
  tsTx : Nat
  echoTx : Nat
  echoRx : Nat
deriving DecidableEq, Repr

/-! ### Comb (R254 to R261) -/

/-- An error that a Comb read finds (R254, R255): a corrected one with its row, or an uncorrectable one, at a Comb byte address. -/
inductive CombError where
  | corrected (addr row : Nat)
  | uncorrectable (addr : Nat)
deriving DecidableEq, Repr

/-- A client that presents its request at an arbiter decision: the Comb address of its next beat, and the hub core cycles since it first presented it (R251, R259, R419). -/
structure CombReq where
  client : Fin 9
  addr : BitVec 34
  waited : Nat
deriving DecidableEq, Repr

/-! ### Data mover (R290, R291) -/

/-- The fields of a descriptor (R290); `reservedZero` tells that every reserved byte is 0. -/
structure Descriptor where
  op : Nat
  intr : Bool
  fence : Bool
  pasidV : Bool
  pasid : Nat
  src : Nat
  dst : Nat
  len : Nat
  pattern : List Byte
  cmpl : Nat
  user : Nat
  reservedZero : Bool
deriving DecidableEq, Repr

/-- A completion record (R291). -/
structure Completion where
  status : Nat
  poison : Bool
  targetErr : Bool
  faultParts : Nat
  bytes : Nat
  firstFault : Nat
  user : Nat
deriving DecidableEq, Repr

/-! ### Ports and lanes (R90 to R136) -/

/-- A request of the link partner for transmit coefficients (R93): a preset of the standard, or the magnitudes of c−2, c−1, c0 and c+1. -/
inductive EqReq where
  | preset (n : Fin 11)
  | coefs (cm2 cm1 c0 cp1 : Fin 64)
deriving DecidableEq, Repr

/-- A parameter of the Lane Margining at the Receiver capability (R99). -/
inductive MarginParam where
  | maxLanes | numTimingSteps | maxTimingOffset | numVoltageSteps | maxVoltageOffset | indLeftRightTiming | indUpDownVoltage | indErrorSampler | sampleCount
deriving DecidableEq, Repr

/-- A margining command (R99): report a parameter, set the error count limit, go to normal settings, clear the error log, step in time or voltage to a side, or look at the
status, with what the independent sampler has compared and found wrong since the last command. -/
inductive MarginCmd where
  | report (p : MarginParam)
  | errorLimit (n : Fin 64)
  | normal
  | clearLog
  | step (voltage minus : Bool) (n : Fin 128)
  | look (samples errors : Nat)
deriving DecidableEq, Repr

/-- The answer to a margining command (R99): a value, a refusal, or the status of a step: whether it went beyond the error count limit, its errors and its samples. -/
inductive MarginRsp where
  | value (n : Nat)
  | nak
  | status (tooMany : Bool) (errors samples : Nat)
deriving DecidableEq, Repr

/-- What the 8b/10b decoder of a lane passes upward for a symbol: a data or control byte, or an error marker in its place (R87). -/
inductive LineSym where
  | data (b : Byte)
  | ctrl (b : Byte)
  | marker
deriving DecidableEq, Repr

/-- A link as it enters L0 (R116, R121, R136): active lanes, rate code, mode as PORT_STATUS.FLIT codes it, the protocols negotiated, which way the partner faces, lane reversal, the lanes
with inverted polarity, by lane of the port the partner's coefficient requests in their order, the lanes it asks to precode, and the LDs of an MLD partner. -/
structure L0Entry where
  lanes : Nat
  rate : Nat
  flit : Nat
  cxl : Bool
  cache : Bool
  mem : Bool
  partnerDown : Bool
  reversed : Bool
  inverted : List Nat
  requests : List (List EqReq)
  precode : List Nat
  lds : Option Nat
deriving DecidableEq, Repr

/-- A step of background adaptation (R91): an FFE or DFE coefficient by one step, the CTLE by 1 dB with the FFE as it is adjusted to offset that, or an ADC correction. -/
inductive AdaptStep where
  | ffe (k : Fin 16) (up : Bool)
  | dfe (k : Fin 4) (up : Bool)
  | ctle (up : Bool) (ffe : List Nat)
  | adc
deriving DecidableEq, Repr

/-- What a lane has received since it was last told (R87 to R89): 10-bit symbols at 8b/10b in their order, first bit on the left, sync headers of blocks at 128b/130b, and, where FEC
is in use, the bytes it corrected on the lane and those it could not. -/
structure LaneErrors where
  syms : List (BitVec 10)
  headers : List (Fin 4)
  fec : Nat
  fecUe : Nat
deriving DecidableEq, Repr

/-! ### Outputs -/

/-- What a command makes the module put out: on links, to hosts, to the board. -/
inductive Output where
  | read (m : Master) (addr : Nat) (value : Word)
  | unsupported (m : Master)
  /-- An access of the board that R4 refuses, answered over MCTP with INVALID_PARAMETER. -/
  | invalidParam (m : Master)
  | userRead (v : Nat) (value : Nat)
  | msix (vcs vector : Nat)
  | vector (core addr : Nat)
  | timerIrq (core : Nat)
  | mbxResponse (box : Nat) (code : RetCode) (data : List Nat)
  | hostError (vcs : Nat)
  | spdm (t : Transport) (error : Bool) (data : List Nat)
  | ideKm (port : Nat) (cm : Bool) (code : Nat)
  | mctp (tag : Byte) (status : Nat) (words : List Word)
  /-- A NAK on an Ehrurn link for a direction: ACKSEQ, the last slot received in order and intact (R183). -/
  | ehrNak (dir ack : Nat)
  /-- A message leaves on a link. -/
  | tx (port : Nat) (m : Msg)
  /-- What a lane's 8b/10b decoder passes upward (R87). -/
  | symbols (lane : Nat) (l : List LineSym)
  /-- The receivers of these lanes of a port ask their transmitters to precode (R89). -/
  | precode (port : Nat) (lanes : List Nat)
  /-- A coefficient request is rejected as the standard prescribes (R93). -/
  | eqReject (lane : Nat)
  /-- The answer to a margining command (R99). -/
  | margin (lane : Nat) (r : MarginRsp)
  /-- A PTM response to the partner of a port, with the time base (R117). -/
  | ptm (port time : Nat)
  /-- A hot-plug interrupt of a vPPB to its host, as it has enabled it: presence and link state (R146). -/
  | hotPlug (vppb : Nat) (present : Bool)
  /-- A mirror record goes out on the Tandem link, in a RESTART frame or not. -/
  | rec_ (restart : Bool) (r : Rec)
  /-- All Tandem lanes send an alignment block in place of a frame, the block of lane 0 first (R312). -/
  | align (blocks : List (List Byte))
  /-- A TRAIN frame goes out (R312). -/
  | train (p : TrainPayload)
  /-- An ACK or RESEND of the standby: its SEQ, and MEPOCH of an ACK. -/
  | ackRec (ack : Bool) (seq mepoch : Nat)
  /-- A Waggle block goes out; `failstop` tells its comma. -/
  | waggle (failstop : Bool) (b : WBlock)
  /-- A channel reads a descriptor of its ring from its host, with its ring PASID where it has one (R293). -/
  | descFetch (chan addr : Nat) (pasid : Option Nat)
  /-- A channel writes a completion record to its host, with its ring PASID where it has one (R291). -/
  | completion (chan addr : Nat) (pasid : Option Nat) (record : List Byte)
  /-- An MSI-X of a VF. -/
  | vfMsix (vf vector : Nat)
  /-- The outcome of a decoder commit, as its host sees it (R142). -/
  | decoder (vcs d : Nat) (committed : Bool)
  /-- A management command tunnelled to the device on a port (R157). -/
  | tunnel (port : Nat) (data : List Byte)
  /-- A DSX message on a port (R126). -/
  | dsx (port : Nat) (m : Vdm)
  /-- A precise load-access fault of the keeper core that reads a line of its scratch (R255). -/
  | loadFault (addr : Nat)
  /-- An error reported through AER on a vPPB: surprise down, internal error, or one the fabric manager injects. -/
  | aer (vppb : Nat) (code : Nat)
deriving DecidableEq, Repr

end Sys2Proof.Machine
end

