-- ==== Sys2Proof/Syntax.lean ====
section
/-! DEFINITION. Sys2Proof/Syntax.lean: the commands of the module, one constructor for each row of spec/opcode_table.json, with what
each command carries. -/
namespace Sys2Proof
open Sys2Proof.Machine

/-- The commands the module takes, one constructor for each row of the table: 244 that carry operands, in the table's order, then the others, of which 38 carry operands too:
Lean's compiled code can build an operand-carrying constructor only among a type's first 244, so commands least often sent stand there (the kernel evaluates them all alike). -/
inductive Instr where
  /-- A software write to a register that has no row of its own is applied in one management-fabric cycle, in arrival order, under its field map and access types. (R9) -/
  | registerWrite (m : Master) (addr : BitVec 28) (bytes : Nat) (value : Word)
  /-- A read of the low word of a 64-bit pair returns it and latches the high word for that master. (R6) -/
  | read64Low (m : Master) (addr : BitVec 28) (bytes : Nat)
  /-- A read of the high word returns and consumes the master's latch for that pair, or the live high word when no latch is held. (R6) -/
  | read64High (m : Master) (addr : BitVec 28) (bytes : Nat)
  /-- A write of the low word of a 64-bit pair is held for that master and has no effect by itself. (R7) -/
  | write64Low (m : Master) (addr : BitVec 28) (bytes : Nat) (value : Word)
  /-- A write of the high word commits the held low word and the high word together, or the high word alone when no low word is held. (R7) -/
  | write64High (m : Master) (addr : BitVec 28) (bytes : Nat) (value : Word)
  /-- An MCTP register access message with OP READ reads 1 to 16 consecutive words as separate board accesses and is answered with its TAG. (R433) -/
  | mctpRegRead (msg : MctpMsg)
  /-- An MCTP register access message with OP WRITE writes 1 to 16 consecutive words in ascending order as separate board accesses. (R433) -/
  | mctpRegWrite (msg : MctpMsg)
  /-- Each 1 µs tick the controller samples its inputs, updates the fault timer, evaluates power-good, seating and feed qualification, and takes at most one transition. (R34) -/
  | hsTick (smp : HsSample)
  /-- A seating pin reads unseated in two consecutive ticks; in ON or SWITCHING the controller drops PWR_GOOD, warns of power fail and goes to SHUTDOWN. (R42) -/
  | seatLost (right : Bool)
  /-- A feed has stayed between UV_RISE and OV for 10 ms and becomes qualified, raising FEED_x_QUAL. (R43) -/
  | feedQualify (f : Feed)
  /-- A feed reads below UV_FALL or above OV in two consecutive ticks and is disqualified, raising FEED_x_LOST. (R43) -/
  | feedDisqualify (f : Feed)
  /-- The management PLL locks; the MGMT domain leaves reset, the time base starts, the straps are sampled and stage 4 begins. (R74) -/
  | mgmtPllLock (us : Nat)
  /-- A strap pin changes after sampling; the change is ignored and STRAP_CHG is raised. (R30) -/
  | strapChange (pins : Straps)
  /-- A write setting AUTO_REVERT while REFCLK is present switches the PLLs back to REFCLK hitlessly and raises REF_SWITCH. (R62) -/
  | autoRevertSet (m : Master) (value : Word)
  /-- A PLL loses lock, causing a fail-stop. (R21) -/
  | pllUnlock (pll : Fin 9)
  /-- A commit of TIME_SET_HI loads the time base with the held value when the module is not following and the value is not lower, otherwise raises SET_IGNORED. (R66) -/
  | timeSetCommit (m : Master) (hi : Word)
  /-- A write of 0xA5 to CLK_RESET by a keeper core or the board asserts fabric reset for 10 µs. (R82) -/
  | clkResetWrite (m : Master) (value : Word)
  /-- A WRITE record writes its payload words to consecutive registers. (R78) -/
  | fixonWrite (addr : BitVec 28) (words : List Word)
  /-- A MASKED record reads a register and writes back the masked value. (R78) -/
  | fixonMasked (addr : BitVec 28) (mask : Word) (value : Word)
  /-- A FILL record writes one value to count consecutive registers. (R78) -/
  | fixonFill (addr : BitVec 28) (count : Nat) (value : Word)
  /-- A POLL record waits until a masked register read equals its value. (R78) -/
  | fixonPoll (addr : BitVec 28) (mask : Word) (value : Word) (timeout : Nat)
  /-- A DELAY record waits the given number of microseconds. (R78) -/
  | fixonDelay (us : Nat)
  /-- All Comb channels and pseudo-channels are trained and the row repair list is applied. (R252) -/
  | combTrainDone (ok : Bool) (repaired : Fin 65)
  /-- The Ehrurn links finish clock lock, deskew, PRBS test, spare assignment and full-width verification, ending stage 7. (R182) -/
  | ehrurnTrainDone (repairs : List WireRepair) (failed : Option (Fin 4 × Fin 2 × Fin 17))
  /-- A full lane calibration ends, passed or failed; a failure holds the lane's port with CAL_FAIL. (R96) -/
  | laneCalDone (lane : LaneIx) (ok : Bool)
  /-- Background adaptation steps an FFE, DFE, CTLE or ADC correction by at most one step, raising EQ_RAIL at a range end. (R91) -/
  | adaptUpdate (lane : LaneIx) (step : AdaptStep) (snr : Byte)
  /-- Signal detect is lost for 100 ns without an electrical-idle entry sequence, failing the lane with SIGNAL_LOSS. (R97) -/
  | laneSignalLoss (lanes : List LaneIx)
  /-- The CDR reports loss of lock for 50 ns, failing the lane with CDR_UNLOCK. (R97) -/
  | laneCdrUnlock (lanes : List LaneIx)
  /-- The lane's SNR stays below its limit for 1 ms, failing the lane with EQ_DIVERGE. (R97) -/
  | laneEqDiverge (lanes : List LaneIx)
  /-- Error events within one window exceed 2^(WIN − LIMIT), failing the lane with ERROR_RATE. (R97) -/
  | laneErrorLimit (errors : List (LaneIx × LaneErrors)) (flits : List (Port × Nat))
  /-- A window of 2^WIN bits ends and the error count restarts. (R97) -/
  | laneWindowEnd (lane : LaneIx) (e : LaneErrors)
  /-- Signal returns on an idle receiver; the CDR relocks within 100 ns and adaptation resumes from the kept values. (R92) -/
  | signalReturn (lane : LaneIx)
  /-- OP STOP ends a running PRBS test as PASS or FAIL. (R110) -/
  | laneTestStop (m : Master) (lane : LaneIx) (errors bits : Nat)
  /-- OP RECAL starts a full calibration of an idle lane, and is refused on a live lane. (R103) -/
  | laneTestRecal (m : Master) (lane : LaneIx) (value : Word)
  /-- OP PRBS_LOOP starts a PRBS test with near-end loopback on an idle lane. (R103) -/
  | laneTestPrbsLoop (m : Master) (lane : LaneIx) (value : Word)
  /-- OP PRBS_EXT starts a PRBS generator and checker toward the partner on an idle lane. (R103) -/
  | laneTestPrbsExt (m : Master) (lane : LaneIx) (value : Word)
  /-- OP BIST starts the memory BIST of an idle lane. (R103) -/
  | laneTestBist (m : Master) (lane : LaneIx) (value : Word)
  /-- A lane BIST completes and TEST_DONE is raised. (R103) -/
  | laneBistDone (lane : LaneIx) (ok : Bool)
  /-- An unknown OP code is refused as INVALID. (R110) -/
  | laneTestInvalid (m : Master) (lane : LaneIx) (value : Word)
  /-- The dwell at one grid point ends; its error count is stored and the engine moves to the next point. (R100) -/
  | eyePointDone (lane : LaneIx) (errors : Nat)
  /-- A write of PORTG_CFG.BIFUR with every port of the group disabled starts applying the new mode. (R114) -/
  | bifurWrite (m : Master) (k : Pg) (value : Word)
  /-- Application of the mode completes; BIFUR_ACT and PRESENT update and BIFUR_DONE is raised. (R114) -/
  | bifurApplyDone (k : Pg)
  /-- A write to PORT_CFG is checked whole; a change of EN enables the port for calibration and training, or takes it down as a hold does. (R136) -/
  | portCfgWrite (m : Master) (p : Port) (value : Word)
  /-- A write of HOLD = 1 holds the port with reason SOFTWARE, idling its lanes and flushing its queues if the link was up. (R120) -/
  | portHold (m : Master) (p : Port) (value : Word)
  /-- A write of HOLD = 0 clears HOLD_REASON and the lanes' FAILED bits and starts training. (R122) -/
  | portRelease (m : Master) (p : Port) (value : Word)
  /-- A write of RETRAIN while in L0 or L0p starts Recovery. (R133) -/
  | portRetrain (m : Master) (p : Port) (value : Word)
  /-- The link enters L0 and the hold conditions of width, flit mode and protocol are checked. (R121) -/
  | linkL0Entry (p : Port) (e : L0Entry)
  /-- 100 ms after the first L0 entry the link is not at its configured rate, so the port is held with RATE_SHORT. (R121) -/
  | rateCheckTimeout (p : Port)
  /-- The link enters Recovery; it stays up and every DSX request and state is withdrawn. (R452) -/
  | linkRecoveryEntry (p : Port)
  /-- The port's link stops being up without a hold or unbind; LINK_DOWN is raised, the port is flushed and bound vPPBs report surprise down. (R156) -/
  | linkLoss (p : Port)
  /-- A HELLO is received and answered with HELLO_ACK, waking both directions if DSX was negotiated. (R131) -/
  | dsxHelloRx (p : Port) (msg : Vdm)
  /-- A HELLO_ACK with a common version arrives within 10 µs and DSX is negotiated, or DSX_ERR is raised on a tie-break clash. (R124) -/
  | dsxHelloAckRx (p : Port) (msg : Vdm)
  /-- No HELLO_ACK arrives within 10 µs and DSX stays off until the next L0 entry. (R124) -/
  | dsxHelloTimeout (p : Port)
  /-- A SLEEP_REQ is received and answered with SLEEP_ACK or SLEEP_NAK, resolving collisions by R132. (R128) -/
  | dsxSleepReqRx (p : Port) (msg : Vdm)
  /-- A SLEEP_ACK is received; the sender enters ENTERING and sends EIOSQ, or the receiver enters EXPECT. (R128) -/
  | dsxSleepAckRx (p : Port) (msg : Vdm)
  /-- A SLEEP_NAK is received, ending the outstanding request, or is discarded when it matches none. (R131) -/
  | dsxSleepNakRx (p : Port) (msg : Vdm)
  /-- A WAKE_REQ is received and the sender wakes the sleeping direction. (R129) -/
  | dsxWakeReqRx (p : Port) (msg : Vdm)
  /-- The receiver detects EIOSQ in EXPECT; the direction is ASLEEP and its coefficients freeze. (R128) -/
  | dsxEiosqRx (p : Port)
  /-- A DSX request has no answer after 10 µs; the requester returns to AWAKE and raises DSX_ERR, and DSX goes off after three timeouts. (R128) -/
  | dsxRequestTimeout (p : Port) (rx : Bool)
  /-- The receiver detects signal on a sleeping direction, enters WAKING and wakes its clock region. (R130) -/
  | dsxRxSignalDetect (p : Port)
  /-- The first flit after a wake reaches the link layer; the receiver is AWAKE and DSX_WAKE is raised. (R130) -/
  | dsxRxFirstFlit (p : Port)
  /-- PORT_DSX_CMD TX_SLEEP requests sleep of the module's transmit direction. (R137) -/
  | dsxCmdTxSleep (m : Master) (p : Port) (value : Word)
  /-- PORT_DSX_CMD RX_SLEEP asks the partner to put the receive direction to sleep. (R137) -/
  | dsxCmdRxSleep (m : Master) (p : Port) (value : Word)
  /-- PORT_DSX_CMD TX_WAKE wakes the module's transmit direction. (R137) -/
  | dsxCmdTxWake (m : Master) (p : Port) (value : Word)
  /-- PORT_DSX_CMD RX_WAKE sends WAKE_REQ to the partner. (R137) -/
  | dsxCmdRxWake (m : Master) (p : Port) (value : Word)
  /-- A request arriving on a port passes spoof check, binding lookup, HDM decode, rule check and policing, then crosses to the hub. (R16) -/
  | requestIngress (p : Port) (m : Msg)
  /-- An answer is checked against its tracker slot at stage 2 and delivered, or discarded and counted as GEN_DISCARD. (R152) -/
  | answerReceive (p : Port) (m : Msg)
  /-- A STALE tracker slot's quarantine QUAR ends and it becomes FREE. (R151) -/
  | trackerQuarantineExpire (t : TrackId)
  /-- Bind vPPB is checked and, if accepted, binds the vPPB to a port or LD, increments GEN and reports presence. (R145) -/
  | bindVppb (k : BoxIx) (v n p ld : Nat)
  /-- Unbind vPPB option 0 moves the vPPB to UNBIND_WAIT, or to FLUSHING at once where a link condition already holds. (R147) -/
  | unbindOpt0 (k : BoxIx) (v i : Nat)
  /-- Unbind vPPB option 1 completes with Unsupported. (R147) -/
  | unbindOpt1 (k : BoxIx) (v i : Nat)
  /-- Unbind vPPB option 2 moves the vPPB to FLUSHING, reports Surprise Down and triggers DPC where enabled. (R147) -/
  | unbindOpt2 (k : BoxIx) (v i : Nat)
  /-- The host sets or clears Link Disable in a downstream vPPB, affecting only that vPPB. (R141) -/
  | vppbLinkDisable (n : Vppb) (on : Bool)
  /-- The host clears DPC Trigger Status in a vPPB, which then returns to the row its other state selects. (R141) -/
  | vppbDpcClear (n : Vppb)
  /-- A flush completes; FLUSH_DONE is raised and a FLUSHING vPPB becomes UNBOUND and raises UNBIND_DONE. (R154) -/
  | flushComplete (f : FlushScope)
  /-- A write of VCS EN enables or disables a VCS after its checks, moving its vPPB entries between UNUSED, UPSTREAM and UNBOUND. (R160) -/
  | vcsEntryWrite (m : Master) (v : Vcs) (value : Word)
  /-- A host commits an HDM decoder; it is refused on invalid ways, targets, overlap or order, or propagates to the tiles within 200 ns. (R142) -/
  | hdmDecoderCommit (v : Vcs) (d : Fin 32) (base size : BitVec 52) (iw ig : BitVec 4) (lock type : Bool) (targets : List Nat)
  /-- Set LD Allocations is tunneled only if no LD is bound, and the LD table updates. (R149) -/
  | setLdAllocations (k : BoxIx) (p : Port) (lds : Fin 17) (request : List Byte) (response : List Byte)
  /-- The receiver of an Ehrurn direction grants the beats of the next slot from the owners' requests, taking admission decisions in rotating order. (R181) -/
  | ehrurnSlotArbitrate (t : Tile) (down : Bool)
  /-- A message has waited 1 µs for admission and ADMIT_HOLD is raised. (R192) -/
  | admitWaitTimeout (src : Fin 68) (svc : Svc)
  /-- An Ehrurn slot is received and its beats CRC-checked; a failing slot is discarded and NAKed. (R183) -/
  | ehrurnSlotRx (t : Tile) (down : Bool) (beats : List EhrBeat)
  /-- A NAK is received and the sender resends from the NAKed slot. (R183) -/
  | ehrurnNakRx (t : Tile) (down : Bool) (ack : BitVec 12)
  /-- ACKSEQ has not advanced for 128 ns while slots are outstanding, so the sender resends. (R183) -/
  | ehrurnAckTimeout (t : Tile) (down : Bool)
  /-- A slot sent 4 times without acknowledgement, or ACKSEQ stalled for 1 µs, causes a fail-stop. (R183) -/
  | ehrurnFail (t : Tile) (down : Bool)
  /-- A port-group output chooses its next message through the port, service and strand arbiters and reads it from the buffer. (R198) -/
  | schedulerDequeue (g : Pg) (same : Bool) (stalls : List Stall) (err : CoreError)
  /-- A message has waited 1 µs at its strand head for a shaper and SHAPE_HOLD is raised. (R214) -/
  | shapeHoldTimeout (p : Port) (svc : Svc) (u : SubId)
  /-- Every 64 core cycles a shaper or policer bucket is refilled and capped, applying any pending snapshot. (R200) -/
  | bucketRefill (same : Bool) (b : BucketId)
  /-- A write to a shaper CTL word copies the staged words into a pending snapshot that applies at the next refill. (R203) -/
  | shaperCommit (m : Master) (x : ShaperId) (value : Word)
  /-- A write to SUB_POL_CTL stages a snapshot that reaches the tiles within 200 ns and applies at each tile's next refill. (R204) -/
  | policerCommit (m : Master) (u : SubId) (value : Word)
  /-- The busy mark of a line is released as the answer passes the crossbar, and the line's hold starts. (R222) -/
  | homeBusyRelease (h : Hive) (sector : Nat) (line : Fin 4)
  /-- HOLD_NS on a granted line ends and waiting snoops may proceed. (R228) -/
  | holdExpire (h : Hive) (sector : Nat) (line : Fin 4)
  /-- A waiting request in the conflict queue starts in arrival order once its line or resource frees. (R227) -/
  | conflictQueueStart (h : Hive) (sector : Nat)
  /-- A directory bucket fetched from Comb on a miss arrives and the waiting lookup proceeds. (R220) -/
  | dirBucketFetchDone (h : Hive) (sector : Nat)
  /-- A BISnp target has not answered within BI_TIMEOUT, so the hive goes down with cause BI_TIMEOUT. (R230) -/
  | biTimeout (tag : Fin 4096) (slot : Slot)
  /-- A write of HIVE_CTL.EN = 1 in DISABLED is checked and starts CLEARING, or sets CFG_ERR. (R233) -/
  | hiveEnable (m : Master) (h : Hive)
  /-- A write of HIVE_CTL.EN = 0 returns the hive to DISABLED where its state allows it. (R232) -/
  | hiveDisable (m : Master) (h : Hive)
  /-- A write of HIVE_CTL.DOWN = 1 in ACTIVE or RECOVERING brings the hive down with cause SOFTWARE. (R242) -/
  | hiveDownWrite (m : Master) (h : Hive)
  /-- A write of RECOVERED = 1 with TAIL = 1 clears TAIL and makes the hive ACTIVE. (R237) -/
  | hiveRecovered (m : Master) (h : Hive)
  /-- The clearing of a hive's buckets completes and the hive becomes ACTIVE with its enabled slots. (R232) -/
  | hiveClearDone (h : Hive)
  /-- The clearing forced by a reused HGEN completes and HGEN takes its new value. (R242) -/
  | hgenClearDone (h : Hive)
  /-- A write of HOST_CFG.EN = 1 makes an EMPTY slot READY or ACTIVE, subject to check 6. (R236) -/
  | hostSlotEnable (m : Master) (h : Hive) (i : Slot) (value : Word)
  /-- A write of HOST_CFG.EN = 0 moves a LOST slot to EMPTY. (R236) -/
  | hostSlotDisable (m : Master) (h : Hive) (i : Slot) (value : Word)
  /-- A write of LEAVE = 1 in ACTIVE starts the slot's departure sweep. (R236) -/
  | hostLeave (m : Master) (h : Hive) (i : Slot)
  /-- A departure sweep and its snoops complete; the slot becomes EMPTY and HOST_LEFT and SWEEP_DONE are raised. (R236) -/
  | hostSweepDone (h : Hive) (i : Slot)
  /-- An unresolved sector is resolved by snooping every active slot and writing an all-I entry under the current HGEN. (R238) -/
  | sectorResolve (h : Hive) (sector : Nat)
  /-- The last unresolved sector named by an entry is resolved and SWEEP_DONE is raised. (R238) -/
  | recoverySweepDone (h : Hive)
  /-- A commit of DIRC_QSEL_HI starts a read-only directory lookup of one sector. (R245) -/
  | dircLookup (m : Master) (lo hi : Word)
  /-- A channel arbiter grants the earliest-aged requesting client, or the lowest rank, and every other requester loses. (R259) -/
  | combArbDecide (ch : Fin 8) (reqs : List CombReq)
  /-- A client's back-off ends and it presents its request again. (R260) -/
  | combBackoffExpire (ch : Fin 8) (client : Fin 9)
  /-- A grant ends when the owner drops its request or reaches its burst limit, and the next decision follows. (R261) -/
  | combGrantEnd (ch : Fin 8) (beats misses : Nat) (err : Option CombError)
  /-- A pseudo-channel fails by parity error, PHY lock loss or 16 uncorrectable errors in 1 ms, causing a fail-stop. (R253) -/
  | pcFail (pc : Fin 16)
  /-- A client request outside its partition is a fatal error. (R251) -/
  | partBound (client : Fin 9)
  /-- A write of POOL_WIN_CFG.EN = 1 is checked and enables the window, or is ignored and raises CFG_IGNORED. (R269) -/
  | poolWindowEnable (m : Master) (n : Fin 64) (value : Word)
  /-- A write to a shadow rule entry is validated and tracked in HAT_BAD, or is ignored while COMMIT_DONE = 0. (R280) -/
  | hatRuleWrite (m : Master) (n : Rule) (w : RuleWord)
  /-- RULE_COMMIT swaps the hub's banks, starts the epoch and the refill, and is sent to the tiles, or is refused. (R281) -/
  | hatCommit (m : Master) (value : Word)
  /-- Each tile swaps its rule banks in its first core cycle after the commit arrives. (R281) -/
  | hatTileSwap (t : Tile)
  /-- A write of VF_CFG.EN = 1 is checked and enables a mover or pool VF, or raises CFG_IGNORED. (R287) -/
  | vfEnable (m : Master) (v : Vf) (value : Word)
  /-- A VF FLR or VF disable disables every channel of the VF. (R294) -/
  | vfFlr (v : Vf)
  /-- CH_CTL.ENABLE = 1 moves a channel from DISABLED to IDLE. (R293) -/
  | chEnable (m : Master) (c : Chan) (value : Word)
  /-- CH_CTL.ENABLE = 0 stops issuing parts at once and abandons the channel's in-flight requests. (R294) -/
  | chDisable (m : Master) (c : Chan)
  /-- A channel reaches DISABLED, and a pending VF FLR completes with VF_RESET_DONE once all its channels have. (R294) -/
  | chDisabled (c : Chan)
  /-- CH_CTL.RESET = 1 in HALTED returns the channel to IDLE with HEAD and TAIL at 0. (R293) -/
  | chReset (m : Master) (c : Chan)
  /-- A write of CH_TAIL rings the doorbell, starting fetches or halting with BAD_TAIL. (R293) -/
  | chTailWrite (m : Master) (c : Chan) (value : Word)
  /-- A fetched descriptor is PASID-checked and validated, completing with BAD_DESC or PASID_FAULT where it fails. (R290) -/
  | moverDescFetched (c : Chan) (bytes : List Byte) (error : Bool)
  /-- A COPY descriptor issues its parts in ascending order, each resolved and rule-checked. (R289) -/
  | moverCopy (c : Chan)
  /-- A FILL descriptor writes its pattern to the destination parts. (R290) -/
  | moverFill (c : Chan)
  /-- The answer to a data-mover part arrives and the part is accounted. (R292) -/
  | moverPartAnswer (arrives : Option (Port × Msg))
  /-- When all writes of a descriptor are answered, the completion record is written in ring order, HEAD advances and MSI-X is signalled. (R292) -/
  | moverCompletion (c : Chan) (error : Bool)
  /-- A write of LOG_CFG.EN = 1 is checked and starts clearing the log's touch bits. (R297) -/
  | dlogEnable (m : Master) (n : Log) (value : Word)
  /-- The touch bits are cleared and the log becomes ACTIVE and marks. (R297) -/
  | dlogActive (n : Log)
  /-- A dirty-log line fetched from Comb arrives and the waiting mark or harvest proceeds. (R266) -/
  | dlogLineFetchDone (line : Nat)
  /-- A write of DLOG_HCMD starts a harvest-and-clear of 1 to 64 lines, or is refused as INVALID or BUSY. (R298) -/
  | dlogHarvest (m : Master) (value : Word)
  /-- An IDLE Tandem frame is corrected and CRC-checked, updating credits and counts. (R311) -/
  | tandemIdleRx (h : TdmHeader)
  /-- A TRAIN frame is received; eight identical intact frames with enough sent bring the link UP, or a mismatch is flagged. (R312) -/
  | tandemTrainRx (h : TdmHeader) (t : TrainPayload)
  /-- A MIRROR frame is received, its records extracted, and gaps detected. (R319) -/
  | tandemMirrorRx (h : TdmHeader) (fseq : Word) (restart : Bool)
  /-- An alignment block is received, aligning a lane, or, in place of 4 or more frames, sends the link to ALIGN. (R312) -/
  | tandemAlignBlockRx (lane : Fin 8) (block : List Byte)
  /-- A Tandem lane fails and the Tandem link goes DOWN. (R98) -/
  | tandemLaneFail (j : Fin 8) (cause : Fin 5)
  /-- A DIR record with the next SEQ is kept in the standby's open epoch as a new directory entry. (R320) -/
  | recDir (seq : Word) (h : Hive) (sector : Nat) (e : Option DirEntry)
  /-- A REG record is kept in the open epoch and, when applied, writes its words regardless of access types and locks. (R320) -/
  | recReg (seq : Word) (region : Fin 20) (addr : Word) (words : List Word)
  /-- A COMMIT record is kept in the open epoch and, when applied, replaces the HAT rule entries it carries. (R320) -/
  | recCommit (seq : Word) (epoch : BitVec 16) (full : Bool) (rules : List (Nat × List Nat))
  /-- An EPOCH record without a gap makes the standby apply the whole epoch in stream order and send an ACK. (R321) -/
  | recEpoch (seq mepoch : Word) (time : Word64)
  /-- A BULK_BEGIN record marks its region unknown and, for a hive, invalidates its on-die entries. (R326) -/
  | recBulkBegin (seq : Word) (region : Fin 20)
  /-- A BULK_DIR record carries groups of directory entries of a hive. (R320) -/
  | recBulkDir (seq : Word) (h : Hive) (group count : Nat) (entries : List (Nat × DirEntry))
  /-- A BULK_END record ends the region's bulk resynchronization and raises RESYNC_DONE. (R326) -/
  | recBulkEnd (seq : Word) (region : Fin 20)
  /-- An ACK from the standby lets the active free its journal up to ACKSEQ. (R322) -/
  | recAck (ackseq mepoch : Word)
  /-- A RESEND makes the active resend from FROM with a RESTART frame, or resynchronize in bulk. (R322) -/
  | recResend (from_ : Word)
  /-- An intact heartbeat block is received, updating partner state, time offset and role inputs. (R315) -/
  | waggleBlockRx (b : WBlock) (crc : BitVec 16) (damaged : Bool)
  /-- An intact FAILSTOP block is received and the partner is held failed. (R317) -/
  | waggleFailstopRx (b : WBlock) (crc : BitVec 16) (damaged : Bool)
  /-- A block with MSG SWAP_REQ makes an ACTIVE_PAIRED module start a swap. (R327) -/
  | waggleSwapReqRx (b : WBlock) (crc : BitVec 16) (damaged : Bool)
  /-- A block with MSG HANDOVER makes the standby promote once it has applied every record through the final HSEQ. (R332) -/
  | waggleHandoverRx (b : WBlock) (crc : BitVec 16) (damaged : Bool)
  /-- TDM_CFG.EN = 1, or FABRIC_READY with EN set, moves the role from OFF to ARBITRATE and starts Waggle blocks. (R327) -/
  | tdmEnable (m : Master) (value : Word)
  /-- TDM_CFG.EN = 0 in ARBITRATE or ACTIVE_SOLO returns the role to OFF and stops the Waggle blocks. (R327) -/
  | tdmDisable (m : Master) (value : Word)
  /-- TDM_CMD SWAP starts a planned swap, withholding host credits to drain. (R332) -/
  | tdmCmdSwap (m : Master)
  /-- TDM_CMD PROMOTE in PROMOTE_WAIT starts promotion with cause COMMAND. (R327) -/
  | tdmCmdPromote (m : Master)
  /-- TDM_CMD RETRAIN sends the Tandem link from UP to ALIGN. (R312) -/
  | tdmCmdRetrain (m : Master)
  /-- TDM_CMD RESYNC_ALL sets every RSYNC bit. (R325) -/
  | tdmCmdResyncAll (m : Master)
  /-- A PROMOTED notice is forwarded once and makes the home reissue outstanding snoops to slots at that position. (R338) -/
  | swarmNoticeRx (p : Port) (msg : Vdm)
  /-- The collector takes a fault message, assigns SEQ, decides its class with escalation and logs it in FLT_LOG. (R350) -/
  | faultMessage (msg : FaultMsg)
  /-- A keeper core writes FLT_ACK, acknowledging every entry up to that SEQ. (R351) -/
  | fltAckWrite (m : Master) (seq : Word)
  /-- A write of 1 to FLT_FIRST_CTL.CLR clears VALID and re-arms first-error capture of the class. (R356) -/
  | fltFirstClear (m : Master) (c : Fin 3) (value : Word)
  /-- A write of 1 to a page's ERR_ACK clears VALID and re-arms the page's first-error capture. (R357) -/
  | errAckWrite (m : Master) (page : BitVec 12) (value : Word)
  /-- A write to FLT_INJECT delivers a message to the collector as if from SOURCE, with ATYPE 15. (R370) -/
  | fltInject (m : Master) (value : Word)
  /-- A fatal condition drives the stop line: record issuers stop, lanes idle, FAILSTOP blocks are sent, FAULT_N is asserted and FABRIC resets. (R361) -/
  | failStop (msg : FaultMsg)
  /-- A core's outputs differ from its checker copy, raising the fatal KEEPER_LOCKSTEP. (R371) -/
  | keeperLockstep (c : Core)
  /-- A core's watchdog expires after 100 ms without a kick, raising the fatal KEEPER_WATCHDOG. (R371) -/
  | keeperWatchdog (c : Core)
  /-- A write by core c with bit c set in MBX_WDT_KICK restarts that core's watchdog. (R393) -/
  | wdtKick (m : Master) (value : Word)
  /-- A keeper SRAM access corrects an error or reports an uncorrectable one as KEEPER_LOCKSTEP. (R373) -/
  | keeperSramError (c : Core) (addr : Nat) (uncorrectable : Bool)
  /-- MTIME reaches MTIMECMP and raises the core's machine timer interrupt. (R373) -/
  | mtimeCompare (c : Core) (written : Option Word64)
  /-- A source level rises and its pending bit sets, with host forwarding where HOSTFWD is set. (R377) -/
  | intcLevelRise (n : Fin 2048)
  /-- A 1 written at INTC_PEND_SET sets the pending bit of the source. (R377) -/
  | intcPendSet (m : Master) (w : Fin 64) (bits : Word)
  /-- A 1 written at INTC_PEND_CLR clears the pending bit of the source. (R377) -/
  | intcPendClr (m : Master) (w : Fin 64) (bits : Word)
  /-- A 1 written at INTC_EN_SET enables the source. (R377) -/
  | intcEnSet (m : Master) (w : Fin 64) (bits : Word)
  /-- A 1 written at INTC_EN_CLR disables the source. (R377) -/
  | intcEnClr (m : Master) (w : Fin 64) (bits : Word)
  /-- A core's vector fetch claims the named source and pushes its priority, or returns the spurious vector. (R379) -/
  | intcVectorFetch (c : Core) (n : Fin 2048)
  /-- A write to INTC_COMPLETE ends service of the innermost source and re-pends it if its level is 1. (R380) -/
  | intcComplete (m : Master) (c : Core) (value : Word)
  /-- A box doorbell or request message latches the input, enters BUSY and pulses the box's doorbell source. (R389) -/
  | mbxDoorbell (k : BoxIx) (opcode : BitVec 16) (payload : List Byte) (irq : Bool)
  /-- A command completes; the result is stored, RESULT_SEQ advances, the box enters DONE and vector 0 is signalled. (R389) -/
  | mbxCommandDone (k : BoxIx)
  /-- An FLR of function 1, its USP link down, its VCS disabled or fabric reset returns the box to IDLE. (R389) -/
  | mbxBoxReset (k : BoxIx) (cause : BoxReset)
  /-- A change of FM_EN or FM_VCS completes accepted commands under the old designation and raises FM_CHANGED. (R385) -/
  | mbxCfgWrite (m : Master) (value : Word)
  /-- The Identify command returns the module's identification. (R386) -/
  | identify (k : BoxIx)
  /-- Background Operation Status returns the state of the box's background operation. (R391) -/
  | backgroundOperationStatus (k : BoxIx)
  /-- Request Abort Background Operation aborts a running transfer, leaving its slot invalid, and is Unsupported for binding commands. (R391) -/
  | requestAbortBackgroundOp (k : BoxIx)
  /-- Get Event Records returns the fabric manager's event records, or an empty log to other boxes. (R386) -/
  | getEventRecords (k : BoxIx)
  /-- Clear Event Records clears event records. (R386) -/
  | clearEventRecords (k : BoxIx) (all : Bool) (count : Nat)
  /-- Get FW Info returns firmware slot information. (R386) -/
  | getFwInfo (k : BoxIx)
  /-- Transfer FW writes a firmware image to a slot in the background, failing images that do not verify or whose SVN is too low. (R402) -/
  | transferFw (k : BoxIx) (action : XferAct) (slot : Bool) (img : SignedImage)
  /-- Activate FW marks a slot for activation at the next reset. (R386) -/
  | activateFw (k : BoxIx) (atReset : Bool) (slot : Bool)
  /-- Get Timestamp returns the time base plus the stored offset. (R386) -/
  | getTimestamp (k : BoxIx)
  /-- Set Timestamp stores an offset for timestamps without changing the time base. (R386) -/
  | setTimestamp (k : BoxIx) (time : Word64)
  /-- Get Log returns the Command Effects Log. (R386) -/
  | getLog (k : BoxIx) (effects : Bool)
  /-- Get Physical Port State returns the state of physical ports. (R119) -/
  | getPhysicalPortState (k : BoxIx) (ports : List Port)
  /-- Physical Port Control acts on a physical port, a retrain being absorbed by a Recovery in progress. (R119) -/
  | physicalPortControl (k : BoxIx) (p : Port) (op : PortControl)
  /-- Send PPB CXL.io Configuration Request sends a configuration request to a physical port's partner. (R119) -/
  | sendPpbConfigRequest (k : BoxIx) (p : Port) (reg : BitVec 12) (write : Option Word)
  /-- Get Virtual CXL Switch Info returns VCS information. (R119) -/
  | getVirtualSwitchInfo (k : BoxIx) (v : Vcs)
  /-- Generate AER Event injects an AER event on a vPPB. (R119) -/
  | generateAerEvent (k : BoxIx) (v : Vcs) (i code : Nat)
  /-- Send LD CXL.io Configuration Request sends a configuration request to an LD. (R119) -/
  | sendLdConfigRequest (k : BoxIx) (p : Port) (ld : Ld) (reg : BitVec 12) (write : Option Word)
  /-- Send LD CXL.io Memory Request sends a memory request to an LD. (R119) -/
  | sendLdMemoryRequest (k : BoxIx) (p : Port) (ld : Ld) (addr len : Nat) (write : Option (List Byte))
  /-- Get Module State returns BOOT_STATUS, BOOT_SLOTS, TDM_ROLE, CLK_STRAPS and FW_VER. (R387) -/
  | getModuleState (k : BoxIx)
  /-- Get Dirty Log Info returns the configuration and status of a log. (R387) -/
  | getDirtyLogInfo (k : BoxIx)
  /-- Harvest And Clear Dirty Log drives the harvest engine and returns the bitmap lines. (R388) -/
  | harvestAndClearDirtyLog (k : BoxIx)
  /-- Get Fault Log returns up to 64 log entries from a first SEQ. (R387) -/
  | getFaultLog (k : BoxIx)
  /-- Get Fail-Stop Record returns one of the 16 stored records. (R387) -/
  | getFailStopRecord (k : BoxIx)
  /-- Acknowledge Fault Log from box 64 writes FLT_BOARD_ACK. (R387) -/
  | acknowledgeFaultLog (k : BoxIx)
  /-- Pair Command acts exactly as a write of TDM_CMD. (R387) -/
  | pairCommand (k : BoxIx)
  /-- Hive Control acts exactly as a write of DOWN or RECOVERED to a hive. (R387) -/
  | hiveControl (k : BoxIx)
  /-- Transfer Fixon Image with action start begins writing a Fixon slot not in use. (R387) -/
  | fixonXferStart (k : BoxIx)
  /-- Transfer Fixon Image with action continue writes further data at an offset. (R387) -/
  | fixonXferContinue (k : BoxIx)
  /-- Transfer Fixon Image with action end validates the slot by R79, leaving it invalid on failure. (R387) -/
  | fixonXferEnd (k : BoxIx)
  /-- Get Fixon Slots returns BOOT_SLOTS, the applied generation and both slots' generations. (R387) -/
  | getFixonSlots (k : BoxIx)
  /-- The island's known-answer tests pass and its services become available, or a failure raises SEC_SELFTEST. (R396) -/
  | selftestDone (ok : Bool)
  /-- SEC_PROV_CMD PROGRAM_OWNER writes SEC_PROV_DATA into a blank owner slot. (R398) -/
  | programOwner (m : Master) (slot : Fin 4) (confirm : Byte)
  /-- SEC_PROV_CMD REVOKE_OWNER sets the revoke bit of an owner slot. (R398) -/
  | revokeOwner (m : Master) (slot : Fin 4) (confirm : Byte)
  /-- SEC_PROV_CMD REQUIRE_FIXON_SIG sets FIXON_SIG_REQ. (R398) -/
  | requireFixonSig (m : Master) (confirm : Byte)
  /-- A KEY_EXCHANGE opens an SPDM session, or is refused with SessionLimitExceeded when 16 are open. (R405) -/
  | spdmKeyExchange (t : Transport)
  /-- GET_MEASUREMENTS returns the measurement blocks signed with the alias key. (R406) -/
  | spdmGetMeasurements (t : Transport) (index : Nat)
  /-- Any other supported SPDM request is answered as responder. (R405) -/
  | spdmRequest (t : Transport) (req : SpdmRequest)
  /-- SEC_IDE_CMD ESTABLISH sets up a requester-side IDE stream of a DSP or ISL. (R407) -/
  | ideEstablish (m : Master) (p : Port) (cm : Bool)
  /-- SEC_IDE_CMD REKEY programs the idle key set at both ends, sends K_SET_GO and switches. (R407) -/
  | ideRekey (m : Master) (p : Port) (cm : Bool)
  /-- SEC_IDE_CMD STOP stops a requester-side IDE stream. (R407) -/
  | ideStop (m : Master) (p : Port) (cm : Bool)
  /-- REKEY_MIN minutes elapse and a requester-side stream is rekeyed by itself. (R407) -/
  | ideAutoRekey (p : Port) (cm : Bool)
  /-- An IDE_KM KEY_PROG from the host programs a key set, or is refused for the key set in use. (R409) -/
  | ideKeyProg (p : Port) (cm : Bool) (kset : Bool) (tx rx : BitVec 256)
  /-- An IDE_KM K_SET_GO switches to the programmed key set, at the next L0 entry if the link is not in L0. (R409) -/
  | ideKSetGo (p : Port) (cm : Bool) (kset : Bool)
  /-- An IDE_KM K_SET_STOP ends the stream and clears its key registers. (R408) -/
  | ideKSetStop (p : Port) (cm : Bool)
  /-- An IDE integrity check fails; the stream becomes insecure and the port is held. (R366) -/
  | ideCheckFail (p : Port) (cm : Bool)
  /-- A write of NONCE_REQ makes the island draw a 32-byte nonce valid for 60 s. (R412) -/
  | dbgNonceReq (m : Master)
  /-- A write of UNLOCK starts verification of the token in SEC_DBG_TOKEN. (R412) -/
  | dbgUnlock (m : Master)
  /-- Token verification ends: on failure it refuses and may lock out, on success it zeroizes keys, gates UDS and opens DBG. (R412) -/
  | dbgVerifyDone (sig : TokenSignature)
  /-- A write of TAKE fixes TS and starts copying the chosen counter pages into a snapshot slot. (R420) -/
  | perfSnapTake (m : Master) (k : Fin 4) (value : Word)
  /-- A snapshot copy completes; VALID reads 1 and SNAP_DONE is raised. (R420) -/
  | perfSnapDone (k : Fin 4)
  /-- A host read of BAR2 returns a mapped live counter or the time base in one access, or 0 when not enabled. (R422) -/
  | userCounterRead (v : Vcs) (off : Nat) (bytes : Nat)
  /-- A watched counter reaches its threshold; SAMPLE is raised, VAL stored and THR advanced by PERIOD. (R423) -/
  | perfOvfTrigger (k : Fin 16)
  /-- A sampled request's latency is measured and added to every matching histogram. (R424) -/
  | latencySample (x : LatSample)
  /-- A write of PERF_RING_MARK writes a MARK record to the ring. (R427) -/
  | perfRingMark (m : Master) (value : Word)
  /-- A write of PERF_RING_RD clears WIN_READY and starts fetching a 64-record window. (R428) -/
  | perfRingRd (m : Master) (value : Word)
  /-- A 1 written at EVT_PEND_SET sets the page's event bit exactly as a raised event would. (R441) -/
  | evtPendSet (m : Master) (page : BitVec 12) (bits : Word)
  /-- A 1 written at EVT_PEND_CLR clears a page's event bit, unless hardware sets it in the same cycle. (R441) -/
  | evtPendClr (m : Master) (page : BitVec 12) (bits : Word)
  /-- A 1 written at EVT_EN_SET enables a page's event bit. (R441) -/
  | evtEnSet (m : Master) (page : BitVec 12) (bits : Word)
  /-- A 1 written at EVT_EN_CLR disables a page's event bit. (R441) -/
  | evtEnClr (m : Master) (page : BitVec 12) (bits : Word)
  /-- A write of 1 to a page's LOCK makes every RWL field of the page read only until its reset. (R444) -/
  | pageLockWrite (m : Master) (page : BitVec 12) (value : Word)
  /-- A write of 0xC5 to DEV_LOCK_ALL locks every present lockable page within 10 µs. (R446) -/
  | devLockAll (m : Master) (value : Word)
  /-- NVS_CMD COMMIT_PARAM checks the staged words and starts writing them into the older parameter copy with a new GEN and CRC. (R449) -/
  | nvsCommitParam (m : Master) (value : Word)
  /-- An uncorrectable NV store error invalidates the item holding the word and raises ITEM_INVALID. (R366) -/
  | nvUe (item : NvItem)
  /-- The CPRES_N pin of a port group changes level, updating PORTG_STATUS.CPRES and raising CPRES_CHG. (R138) -/
  | cpresChange (k : Pg) (low : Bool)
  /-- A port's link enters the ASPM L1 state, staying up but moving toward the SLEEP mode of its port-group clock region. (R67) -/
  | linkL1Entry (p : Port)
  /-- The auxiliary rail comes up; the hot-swap controller loads its NV parameter block or the defaults and starts in UNSEATED. (R33) -/
  | auxRailUp
  /-- The auxiliary rail falls below 5.5 V, resetting the AUX domain and releasing FAULT_N. (R71) -/
  | auxRailDown
  /-- Both pins have stayed seated for SEAT_DEBOUNCE; the controller enters COOLDOWN if the cool-down flag is set, otherwise READY. (R39) -/
  | seatDebounceExpire
  /-- RETRY_TIME elapses in COOLDOWN or FAULT; the controller clears the cool-down flag and enters READY. (R39) -/
  | retryTimeExpire
  /-- Power-good is reached in RAMP; the controller enters ON, asserts PWR_GOOD and releases power-on reset. (R39) -/
  | rampComplete
  /-- Power-good is not reached 50 ms after entry to RAMP; the controller enters FAULT with cause RAMP_TIMEOUT. (R39) -/
  | rampTimeout
  /-- The fault timer reaches FAULT_TIME and the controller enters FAULT with cause FT_EXPIRED. (R35) -/
  | faultTimerExpire
  /-- The current exceeds twice ILIM; a comparator turns the pass FET off within 500 ns and the controller enters FAULT at the next tick. (R38) -/
  | severeOcTrip
  /-- The preferred feed has been qualified for REVERT_DELAY while running on the other feed with REVERT_EN = 1, so a planned switch is started. (R44) -/
  | revertDelayExpire
  /-- 100 ms have passed since the last switch, releasing a planned switch that was held. (R44) -/
  | switchHoldoffExpire
  /-- Two ticks after the decision, the controller closes the target path under DVDT. (R45) -/
  | switchTargetClose
  /-- The target path conducts and the converter runs; the controller returns to ON, updates FEED_SEL and raises FEED_SWITCH. (R39) -/
  | switchComplete
  /-- The target path does not conduct 20 µs after entry to SWITCHING; the controller enters FAULT with cause SWITCH_FAIL. (R39) -/
  | switchTimeout
  /-- The pass FET is off in SHUTDOWN and the controller enters UNSEATED. (R39) -/
  | fetOffComplete
  /-- A point-of-load rail of the MGMT domain leaves regulation, asserting power-on reset until the next entry to ON from RAMP. (R37) -/
  | mgmtRailOut
  /-- Every 1 ms the monitor updates PWR_MEAS and PWR_POWER with the mean of the last 1,000 samples. (R47) -/
  | pwrMeasUpdate
  /-- Every 60 s, and on every power-fail warning, the energy counts are persisted to the NV store. (R48) -/
  | energyPersist
  /-- A die junction reaches 115 °C and THERM_WARN is raised, with no other action. (R24) -/
  | thermWarn
  /-- A junction reaches 125 °C and the module fail-stops. (R21) -/
  | thermTrip
  /-- TCXO_SETTLE elapses after power-on reset is released, and the management PLL is released. (R61) -/
  | tcxoSettleExpire
  /-- Stage 3 exceeds its maximum time; the controller asserts FAULT_N, records MGMT_PLL and MGMT stays in reset. (R75) -/
  | stage3Timeout
  /-- The clock detector first sees REFCLK edges and starts the REFCLK_SETTLE count. (R61) -/
  | refclkEdgesSeen
  /-- REFCLK_SETTLE elapses and REFCLK counts as present; with AUTO_REVERT = 1 the PLLs switch back hitlessly. (R61) -/
  | refclkSettleExpire
  /-- No REFCLK edge for 1 µs; the hub and tile PLLs switch to the TCXO, REFCLK_LOST is reported, and SSC common-clock ports go down. (R62) -/
  | refclkLoss
  /-- The TCXO is absent or stops; the TCXO-driven PLLs lose lock and the module fail-stops. (R62) -/
  | tcxoLoss
  /-- PERST_N stays low for 1 µs and fabric reset is asserted. (R72) -/
  | perstAssert
  /-- PERST_N goes high and start-up resumes at stage 5, or at stage 4 where R72 requires. (R72) -/
  | perstRelease
  /-- The 10 µs fabric reset of CLK_RESET ends and start-up resumes. (R82) -/
  | fabricResetEnd
  /-- The keeper ROM verifies and starts firmware from the preferred or fallback slot, completing stage 4. (R76) -/
  | secureBootDone
  /-- The hub and tile PLLs lock at stage 5 and FABRIC is released. (R74) -/
  | fabricPllsLock
  /-- A POLL times out; the module goes through fabric reset and applies the other valid slot, recording BOOT_FIXON_ERR. (R80) -/
  | fixonPollTimeout
  /-- The delay of a DELAY record ends and application continues. (R78) -/
  | fixonDelayExpire
  /-- The END record completes application of the image, ending stage 5. (R78) -/
  | fixonEnd
  /-- A stage from 4 to 9 exceeds its maximum time, causing START_FAIL with cause STAGE_TIMEOUT. (R75) -/
  | stageTimeout
  /-- The clearing of all 16 GiB completes; COMB_STATUS reaches UP and stage 6 ends. (R252) -/
  | combClearDone
  /-- Stage 8 calibration ends; training is enabled on configured ports and FABRIC_READY is set. (R74) -/
  | lanesCalibrated
  /-- IEP0 presents a BISnp fan-out or hive-down broadcast and the crossbar writes it into every target's privileged FIFO in one cycle. (R177) -/
  | privFanout
  /-- IEP0 serves a MemRd or MemRdData: it snoops holders as the MetaValue requires, updates the directory and forwards the read. (R221) -/
  | homeMemRd (check : HomeCheck)
  /-- IEP0 serves a MemInv or MemInvNT by snooping holders and answering itself. (R221) -/
  | homeMemInv (check : HomeCheck)
  /-- IEP0 serves a MemWr or MemWrPtl, forwarding owner writes at once and snooping first for any other state. (R221) -/
  | homeMemWr (check : HomeCheck)
  /-- IEP0 answers a MemClnEvct with Cmp, releasing ownership where the requester owned the line. (R221) -/
  | homeMemClnEvct (check : HomeCheck)
  /-- IEP0 forwards a MemSpecRd without changing or busying the line. (R221) -/
  | homeMemSpecRd (check : HomeCheck)
  /-- IEP0 answers a BIConflict with BIConflictAck once every answer owed for the line has entered the crossbar. (R218) -/
  | homeBiConflict (check : HomeCheck)
  /-- A write-back produced by a snoop arrives and is forwarded to the target at once. (R223) -/
  | homeWriteback (check : HomeCheck)
  /-- IEP0 handles a BIRsp, clearing the target from the snoop slot or bringing the hive down on a protocol error. (R226) -/
  | homeBirsp (check : HomeCheck)
  /-- A target's answer to a forwarded request is checked against its forward slot and returned to the host. (R231) -/
  | homeTargetAnswer (check : HomeCheck)
  /-- A DIRC lookup completes, filling DIRC_QSTAT and DIRC_QRESULT and raising LOOKUP_DONE. (R245) -/
  | dircLookupDone
  /-- The patrol scrub completes a pass over Comb and SCRUB_PASS is raised. (R256) -/
  | scrubPassDone
  /-- IEP1 answers a pool access as an HDM-H device, returning poison for poisoned lines. (R268) -/
  | poolRequest
  /-- The refill of the old active bank from the new one completes. (R281) -/
  | hatRefillDone
  /-- An old-epoch access retires; when none remains and the refill is done, COMMIT_DONE sets. (R282) -/
  | oldEpochRetire
  /-- 20 µs after a commit, unretired old-epoch accesses are aborted, counted and answered as rule faults. (R282) -/
  | hatCommitTimeout
  /-- A harvest completes; DLOG_HBUF holds the lines, STATE is DONE and HARVEST_DONE is raised. (R298) -/
  | dlogHarvestDone
  /-- With the journal at most half full, the active resynchronizes the lowest region with its RSYNC bit set. (R325) -/
  | bulkResyncStart
  /-- ALIGN or TRAIN times out after 1 ms and the link returns to ALIGN. (R312) -/
  | tandemTrainTimeout
  /-- 1 ms after going DOWN, the link enters ALIGN and the lanes' FAILED bits clear. (R312) -/
  | tandemDownExpire
  /-- Once in every 16,384 frame times in UP, all lanes send one alignment block in place of a frame. (R312) -/
  | tandemAlignPeriodic
  /-- Every 64 ns the sender computes LEAKED and WINDOW and forces a retrain when WINDOW falls below FLOOR. (R314) -/
  | tandemCreditCheck
  /-- A PAD record is skipped. (R320) -/
  | recPad
  /-- EPOCH_NS has passed with records issued, or 64 MiB issued, so the active closes the epoch with an EPOCH record. (R321) -/
  | epochTimerExpire
  /-- ACKSEQ has not advanced for ACK_TO, so the active resends from ACKSEQ + 1. (R322) -/
  | ackTimeout
  /-- The standby repeats RESEND every ACK_TO / 2 until the RESTART frame arrives. (R323) -/
  | resendRepeat
  /-- The module sends a Waggle heartbeat block every 64 ns with its state, HSEQ, RMASK, RSYNC and timestamps. (R315) -/
  | waggleBlockTx
  /-- No intact block or Tandem frame for 1,024 ns with the cable present holds the partner failed by silence. (R317) -/
  | waggleSilence
  /-- No intact block for 1,024 ns while Tandem frames arrive raises WAGGLE_ONLY without failing the partner. (R317) -/
  | waggleOnly
  /-- Silence with TPRES_N reading the cable absent raises CABLE_OUT without failing the partner. (R317) -/
  | cableOut
  /-- ARB_WAIT elapses in ARBITRATE with nothing received and ARB_SOLO = 1, making the module ACTIVE_SOLO. (R327) -/
  | arbWaitExpire
  /-- The drain completes; the active closes the epoch, sends HANDOVER and becomes passive. (R332) -/
  | swapDrainDone
  /-- SWAP_TO elapses before HANDOVER; the swap is abandoned, credits are restored and SWAP_FAIL is raised. (R327) -/
  | swapTimeout
  /-- Promotion completes: tiles switch to active, vPPBs report presence, the swarm notice is sent and the module enters ACTIVE_SOLO. (R329) -/
  | promotionComplete
  /-- The fail-stop record is written to the NV store ring within 20 µs, clearing the AUX missing-record flag. (R363) -/
  | failstopRecordWritten
  /-- The policy partition accesses outside its bounds and the monitor stops it for good, raising POLICY_STOPPED. (R375) -/
  | policyViolation
  /-- A continuous entropy health test or pairwise consistency test fails, which is fatal. (R396) -/
  | entropyHealthFail
  /-- A provisioning command ends, done or refused, and PROV_DONE is raised. (R398) -/
  | provDone
  /-- A debug nonce's 60 s validity ends. (R412) -/
  | dbgNonceExpire
  /-- Every PERIOD µs with EXPORT = 1, the exported counters are taken at one instant and written as ring records. (R427) -/
  | perfExportTimer
  /-- The ring window has been fetched; WIN_READY sets, and lost records are counted. (R428) -/
  | perfRingWinReady
  /-- A parameter commit ends, DONE or REFUSED, and CMD_DONE is raised. (R449) -/
  | nvsCommitDone
  /-- The RC-held cool-down flag of an unpowered carrier loses its value between 2 s and 6 s after power is gone. (R41) -/
  | cooldownFlagDecay
  /-- A hub or tile PLL has not locked 1 ms after release, so start-up fails with cause FABRIC_PLL. (R75) -/
  | fabricPllTimeout
  /-- A Waggle block time passes with no intact block, raising BLOCK_LOST and advancing WAGGLE_STATUS.LOST and the lost-block counter. (R342) -/
  | waggleBlockLost
  /-- The policy partition ends itself, and MBX_POLICY reads STOPPED with CAUSE EXIT. (R393) -/
  | policyPartitionExit
  /-- A standby that received HANDOVER has not applied every record through the final HSEQ within SWAP_TO, so it promotes under R330. (R332) -/
  | standbySwapToExpire
  /-- CMD START starts an eye scan of the lane, or is refused with ENGINE_BUSY, INVALID or NO_CLOCK. (R101) -/
  | eyeStart (m : Master) (lane : LaneIx)
  /-- CMD STOP ends a running eye scan as ABORTED. (R101) -/
  | eyeStop (m : Master) (lane : LaneIx)
  /-- A standard lane margining command is executed with the independent error sampler, suspending any eye scan on the lane. (R99) -/
  | marginCommand (lane : LaneIx) (c : MarginCmd)
  /-- TX_IDLE elapses with nothing sent and the module requests TX-sleep. (R128) -/
  | dsxTxIdleExpire (p : Port)
  /-- RX_IDLE elapses with nothing received and the module requests RX-sleep. (R128) -/
  | dsxRxIdleExpire (p : Port)
  /-- Something has been owed for RET in a sleeping direction, so the sender wakes it. (R129) -/
  | dsxRetExpire (p : Port)
  /-- A flit for a sleeping direction starts the 160 ns wake preamble. (R129) -/
  | dsxFlitWake (p : Port)
  /-- The wake preamble ends; SKP is sent, then the first flit, and the sender is AWAKE. (R130) -/
  | dsxPreambleEnd (p : Port)
  /-- A NOP descriptor performs nothing and completes. (R290) -/
  | moverNop (c : Chan)
  /-- The board writes FLT_BOARD_ACK, which governs ALERT_N and changes nothing about escalation. (R358) -/
  | fltBoardAckWrite (m : Master) (seq : Word)
  /-- A write to INTC_BAD clears both of its counts. (R392) -/
  | intcBadClear (m : Master) (value : Word)
  /-- Get Response Message Limit returns the box's response limit. (R386) -/
  | getResponseMessageLimit (k : BoxIx)
  /-- Set Response Message Limit accepts limits from 256 bytes to 64 KiB. (R119) -/
  | setResponseMessageLimit (k : BoxIx) (limit : Nat)
  /-- Get Event Interrupt Policy returns the event interrupt vectors. (R386) -/
  | getEventInterruptPolicy (k : BoxIx)
  /-- Set Event Interrupt Policy chooses vectors 1 to 15, completing with Invalid Input otherwise. (R383) -/
  | setEventInterruptPolicy (k : BoxIx) (vector : Nat)
  /-- Get Supported Logs lists the logs available. (R386) -/
  | getSupportedLogs (k : BoxIx)
  /-- The FM API Identify Switch Device command returns switch information. (R119) -/
  | identifySwitchDevice (k : BoxIx)
  /-- Tunnel Management Command passes an MLD, multi-headed or DCD management command to a device unchanged. (R157) -/
  | tunnelManagementCommand (k : BoxIx) (p : Port) (request response : List Byte)
  /-- Transfer Fixon Image with action abort ends the transfer and leaves the slot invalid. (R387) -/
  | fixonXferAbort (k : BoxIx)
  /-- A write of XBAR_PRIV sets its high-water mark to 0. (R188) -/
  | xbarPrivClear (m : Master) (value : Word)
  /-- A write of BUF_LOW_WATER loads it with the current free shared cells. (R189) -/
  | bufLowWaterLoad (m : Master) (value : Word)
  /-- A write of HOME_CQ_HWM sets it to 0. (R241) -/
  | homeCqHwmClear (m : Master) (value : Word)
  /-- A write of CARB_WAIT_MAX sets the client's longest wait to 0. (R271) -/
  | carbWaitMaxClear (m : Master) (c : Fin 9) (value : Word)
  /-- A write of PERF_HIST_MAX sets it to 0. (R429) -/
  | perfHistMaxClear (m : Master) (h : Fin 64) (value : Word)
  /-- A write of PERF_OVF_MISSED sets it to 0. (R429) -/
  | perfOvfMissedClear (m : Master) (k : Fin 16) (value : Word)
  /-- A link enters, leaves or changes width within L0p, idling or returning lanes inside the configured width. (R133) -/
  | linkL0pChange (p : Port) (active : Fin 17)
  /-- The hottest HBM stack die crosses 85 °C, changing COMB_TEMP.REFRESH_2X and raising the REFRESH_2X event. (R273) -/
  | stackRefresh2xChange (temp : Byte)
  /-- The Waggle receiver gains or loses alignment to the comma, changing WAGGLE_STATUS.LOCK and raising the LOCK event. (R340) -/
  | waggleLockChange (lock inverted : Bool)
  /-- During a PRBS test the checker aligns to the pattern, or loses it, changing PRBS_LOCK. (R110) -/
  | prbsCheckerLock (lane : LaneIx) (lock : Bool) (errors bits : Nat)
deriving DecidableEq, Repr

end Sys2Proof
end

