-- ==== Sys2Proof/Config.lean ====
section
/-! DEFINITION. Sys2Proof/Config.lean: what the manual leaves open: free values, each an opaque constant with no body. -/
namespace Sys2Proof

/-- A value the manual leaves open, by the index of its use (State.freeCtr). -/
opaque Config.freeValue : Nat → Nat

/-- The module serial, 128 bits in four words, which the manual fixes per unit (R363). (log 14, DESIGN CHOICE) -/
opaque Config.serial : Nat → Nat

/-- Whether the signature block of a Fixon image passes checks 3 to 5 of R401: of its key slot, the owner hash the slot holds, and the image's bytes. (log 17, DESIGN CHOICE) -/
opaque Config.signatureOk : Nat → List Nat → List Nat → Bool

/-- The secrets of the OTP, UDS and DBG_UDS, which no software reads (R397). -/
opaque Config.uds : BitVec 384
opaque Config.dbgUds : BitVec 384

/-- The SHA-384 of the boot ROM (R406). -/
opaque Config.bootRomHash : BitVec 384

/-- The island's services as the standards define them (R395): the hash of a list of words, HMAC under a key, derivation by a label, the public key of a derived key pair, and a
signature, of which no two need be equal; the key of the HMAC of CDI; and the certificates held in the NV store, from the root to DeviceID, or those chained to the Debug CA (R403, R412).
None is interpreted. (log 238, DESIGN CHOICE) -/
opaque Config.sha384 : List Nat → BitVec 384
opaque Config.hmac : BitVec 384 → List Nat → BitVec 384
opaque Config.kdf : BitVec 384 → String → BitVec 384
opaque Config.publicKey : BitVec 384 → Nat
opaque Config.sign : BitVec 384 → List Nat → Nat → Nat
opaque Config.cdiKey : BitVec 384 → BitVec 384
opaque Config.certChain : Bool → List Nat

/-- The words LOT0, LOT1 and POS of dies 0 to 5, fixed at manufacture (R413). -/
opaque Config.die : Nat → Nat

/-- The fixed hashes that map a sector number to a directory set and to a bucket, before reduction to the hive's ranges (R220). (log 15, DESIGN CHOICE) -/
opaque Config.dirSet : Nat → Nat
opaque Config.dirBucket : Nat → Nat

/-- The set of the dirty-log cache that holds a line of the partition, before reduction to the 256 sets (R297). -/
opaque Config.dlogSet : Nat → Nat

/-- Messages that the tile's queue of one ingress port and service holds before its credits are withheld (R170), and that the input of an internal endpoint holds of one service
(R174): implementation limits, each at least 1. (log 227, DESIGN CHOICE) -/
opaque Config.tileQueue : Nat
opaque Config.endpointQueue : Nat

/-- The coefficients of the standard's transmitter presets, P0 to P10 and at 64.0 GT/s Q0 to Q10, laid out as LANE_TX_COEF (R93): the manual does not repeat them. (log 236, DESIGN CHOICE) -/
opaque Config.preset : Bool → Nat → BitVec 32

/-- The versions of the mirror protocol and of swarm notices that firmware of a version supports (R333, R338). (log 16, DESIGN CHOICE) -/
opaque Config.mpvMin : Nat → Nat
opaque Config.mpvMax : Nat → Nat
opaque Config.noticeMin : Nat → Nat
opaque Config.noticeMax : Nat → Nat

end Sys2Proof
end

