-- ==== Sys2Proof/Machine/RegMap.lean ====
section
/-! DEFINITION. Sys2Proof/Machine/RegMap.lean: the register map of the module: which block a page carries (R435), and every
field map of every chapter as data (offset, repetition, fields with bits, access type and reset value). The rows follow the
register tables of spec/02 to spec/17 one for one; the comment on a row names the register and its rule. Reserved bits have no
field, so they read 0 and ignore writes (R5). -/
namespace Sys2Proof.Machine

/-- Access types of R8. -/
inductive Access where
  | ro | rw | rwl | wo | set | clr | hw
deriving DecidableEq, Repr

/-- A field of a register: bits [hi:lo], access type and reset value. -/
structure RegField where
  hi : Nat
  lo : Nat
  acc : Access
  reset : Nat
deriving DecidableEq, Repr

/-- Which word of a 64-bit pair a register is (R6, R7). -/
inductive PairWord where
  | single | low | high
deriving DecidableEq, Repr

/-- A register, or an array of registers repeated n1 times every s1 bytes, each of these n2 times every s2 bytes. -/
structure RegRow where
  off : Nat
  s1 : Nat
  n1 : Nat
  s2 : Nat
  n2 : Nat
  pair : PairWord
  fields : List RegField
deriving DecidableEq, Repr

/-- The blocks of the page index (R435). -/
inductive Block where
  | dev
  | clk
  | boot
  | pwr
  | flt
  | intc
  | mbx
  | sec
  | time
  | nvs
  | perf
  | portg
  | ehr
  | xbar
  | buf
  | mcast
  | sched
  | hat
  | vcs
  | home
  | dirc
  | comb
  | carb
  | pool
  | mover
  | dlog
  | tdm
  | waggle
  | swarm
  | lane
  | tlane
  | wlane
  | schedTbl
  | hatRules
  | bindTbl
  | perfArr
deriving DecidableEq, Repr

/-- The event registers of the common page header (R438); PAGE_ID to PAGE_EVT_MASK are computed. -/
def headerRows : List RegRow := [
  ⟨0x40, 4, 1, 4, 1, .single, [⟨31, 0, .hw, 0⟩]⟩,  -- EVT_PEND (R438)
  ⟨0x44, 4, 1, 4, 1, .single, [⟨31, 0, .set, 0⟩]⟩,  -- EVT_PEND_SET (R438)
  ⟨0x48, 4, 1, 4, 1, .single, [⟨31, 0, .clr, 0⟩]⟩,  -- EVT_PEND_CLR (R438)
  ⟨0x50, 4, 1, 4, 1, .single, [⟨31, 0, .ro, 0⟩]⟩,  -- EVT_EN (R438)
  ⟨0x54, 4, 1, 4, 1, .single, [⟨31, 0, .set, 0⟩]⟩,  -- EVT_EN_SET (R438)
  ⟨0x58, 4, 1, 4, 1, .single, [⟨31, 0, .clr, 0⟩]⟩]  -- EVT_EN_CLR (R438)

/-- First-error capture of the common page header (R357). -/
def errcapRows : List RegRow := [
  ⟨0x80, 4, 1, 4, 1, .low, [⟨31, 0, .hw, 0⟩]⟩,  -- ERR_FIRST_ADDR_LO (R357)
  ⟨0x84, 4, 1, 4, 1, .high, [⟨19, 0, .hw, 0⟩]⟩,  -- ERR_FIRST_ADDR_HI (R357)
  ⟨0x88, 4, 1, 4, 1, .single, [⟨15, 0, .hw, 0⟩, ⟨23, 16, .hw, 0⟩]⟩,  -- ERR_FIRST_MASTER (R357)
  ⟨0x8C, 4, 1, 4, 1, .single, [⟨11, 0, .hw, 0⟩, ⟨13, 12, .hw, 0⟩, ⟨19, 16, .hw, 0⟩, ⟨31, 31, .hw, 0⟩]⟩,  -- ERR_FIRST_ATYPE (R357)
  ⟨0x98, 4, 1, 4, 1, .single, [⟨0, 0, .wo, 0⟩]⟩,  -- ERR_ACK (R357)
  ⟨0x90, 4, 1, 4, 1, .low, [⟨31, 0, .hw, 0⟩]⟩,  -- ERR_FIRST_TS_LO (R357)
  ⟨0x94, 4, 1, 4, 1, .high, [⟨31, 0, .hw, 0⟩]⟩]  -- ERR_FIRST_TS_HI (R357)

/-- Registers of the dev block. -/
def devRows : List RegRow := [
  ⟨0x1000, 4, 1, 4, 1, .single, [⟨15, 0, .ro, 0x1f3d⟩, ⟨31, 16, .ro, 0xc256⟩]⟩,  -- DEV_VENDOR (R447)
  ⟨0x1004, 4, 1, 4, 1, .single, [⟨15, 0, .ro, 598⟩, ⟨23, 16, .ro, 16⟩]⟩,  -- DEV_MEMBER (R447)
  ⟨0x1008, 4, 1, 4, 1, .single, [⟨4, 0, .ro, 16⟩, ⟨7, 5, .ro, 4⟩, ⟨8, 8, .ro, 1⟩, ⟨9, 9, .ro, 1⟩, ⟨10, 10, .ro, 1⟩, ⟨11, 11, .ro, 1⟩, ⟨12, 12, .ro, 1⟩, ⟨19, 16, .ro, 4⟩]⟩,  -- DEV_SUMMARY (R447)
  ⟨0x100C, 4, 1, 4, 1, .single, [⟨31, 0, .hw, 0⟩]⟩,  -- DEV_FW_VER (R447)
  ⟨0x1010, 4, 1, 4, 1, .single, [⟨31, 0, .ro, 0x10000⟩]⟩,  -- DEV_ROM_VER (R447)
  ⟨0x1014, 4, 1, 4, 1, .single, [⟨3, 0, .hw, 0⟩, ⟨11, 4, .hw, 0⟩]⟩,  -- DEV_MASTER (R447)
  ⟨0x1018, 4, 1, 4, 1, .single, [⟨11, 0, .ro, 2109⟩, ⟨27, 16, .ro, 346⟩]⟩,  -- DEV_PAGES (R447)
  ⟨0x1020, 4, 1, 4, 1, .single, [⟨7, 0, .wo, 0⟩]⟩,  -- DEV_LOCK_ALL (R447)
  ⟨0x1024, 4, 1, 4, 1, .single, [⟨0, 0, .hw, 0⟩, ⟨24, 16, .hw, 303⟩]⟩]  -- DEV_LOCK_STATUS (R447)

def clkRows_0 : List RegRow := [
  ⟨0x1000, 4, 1, 4, 1, .single, [⟨0, 0, .hw, 0⟩, ⟨1, 1, .hw, 0⟩, ⟨16, 8, .hw, 0⟩]⟩,  -- CLK_STATUS (R82)
  ⟨0x1004, 4, 1, 4, 1, .single, [⟨0, 0, .rwl, 0⟩, ⟨1, 1, .rwl, 1⟩]⟩,  -- CLK_REF_CFG (R82)
  ⟨0x1008, 4, 1, 4, 1, .single, [⟨7, 0, .ro, 10⟩, ⟨15, 8, .ro, 100⟩]⟩,  -- CLK_SETTLE (R82)
  ⟨0x100C, 4, 1, 4, 1, .single, [⟨2, 0, .ro, 0⟩, ⟨3, 3, .ro, 0⟩, ⟨6, 4, .hw, 0⟩, ⟨7, 7, .hw, 0⟩]⟩,  -- CLK_STRAPS (R82)
  ⟨0x1010, 4, 1, 4, 1, .single, [⟨7, 0, .wo, 0⟩]⟩,  -- CLK_RESET (R82)
  ⟨0x10FC, 4, 1, 4, 1, .single, [⟨0, 0, .rwl, 0⟩]⟩,  -- CLK_LOCK (R82)
  ⟨0x1014, 4, 1, 4, 1, .single, [⟨1, 0, .hw, 2⟩, ⟨3, 2, .hw, 2⟩, ⟨5, 4, .hw, 2⟩, ⟨7, 6, .hw, 2⟩, ⟨9, 8, .hw, 2⟩, ⟨11, 10, .hw, 2⟩, ⟨13, 12, .hw, 2⟩, ⟨15, 14, .hw, 2⟩, ⟨17, 16, .hw, 2⟩, ⟨19, 18, .hw, 2⟩, ⟨21, 20, .hw, 2⟩, ⟨23, 22, .hw, 2⟩, ⟨25, 24, .hw, 2⟩, ⟨27, 26, .hw, 2⟩, ⟨29, 28, .hw, 2⟩, ⟨31, 30, .hw, 2⟩]⟩,  -- CLK_PG_MODE (R82)
  ⟨0x1100, 4, 4, 4, 1, .single, [⟨0, 0, .ro, 1⟩, ⟨1, 1, .rwl, 0⟩, ⟨2, 2, .rwl, 0⟩, ⟨3, 3, .ro, 0⟩, ⟨5, 4, .hw, 2⟩, ⟨6, 6, .hw, 0⟩, ⟨12, 8, .ro, 0⟩]⟩,  -- CLK_BRANCH (R82)
  ⟨0x1110, 4, 4, 4, 1, .single, [⟨0, 0, .ro, 1⟩, ⟨1, 1, .rwl, 0⟩, ⟨2, 2, .rwl, 0⟩, ⟨3, 3, .ro, 0⟩, ⟨5, 4, .hw, 2⟩, ⟨6, 6, .hw, 0⟩, ⟨12, 8, .ro, 1⟩]⟩,  -- CLK_BRANCH (R82)
  ⟨0x1120, 4, 4, 4, 1, .single, [⟨0, 0, .ro, 1⟩, ⟨1, 1, .rwl, 0⟩, ⟨2, 2, .rwl, 0⟩, ⟨3, 3, .ro, 0⟩, ⟨5, 4, .hw, 2⟩, ⟨6, 6, .hw, 0⟩, ⟨12, 8, .ro, 2⟩]⟩,  -- CLK_BRANCH (R82)
  ⟨0x1130, 4, 4, 4, 1, .single, [⟨0, 0, .ro, 1⟩, ⟨1, 1, .rwl, 0⟩, ⟨2, 2, .rwl, 0⟩, ⟨3, 3, .ro, 0⟩, ⟨5, 4, .hw, 2⟩, ⟨6, 6, .hw, 0⟩, ⟨12, 8, .ro, 3⟩]⟩,  -- CLK_BRANCH (R82)
  ⟨0x1140, 4, 4, 4, 1, .single, [⟨0, 0, .ro, 1⟩, ⟨1, 1, .rwl, 0⟩, ⟨2, 2, .rwl, 0⟩, ⟨3, 3, .ro, 0⟩, ⟨5, 4, .hw, 2⟩, ⟨6, 6, .hw, 0⟩, ⟨12, 8, .ro, 4⟩]⟩]  -- CLK_BRANCH (R82)

def clkRows_1 : List RegRow := [
  ⟨0x1150, 4, 4, 4, 1, .single, [⟨0, 0, .ro, 1⟩, ⟨1, 1, .rwl, 0⟩, ⟨2, 2, .rwl, 0⟩, ⟨3, 3, .ro, 0⟩, ⟨5, 4, .hw, 2⟩, ⟨6, 6, .hw, 0⟩, ⟨12, 8, .ro, 5⟩]⟩,  -- CLK_BRANCH (R82)
  ⟨0x1160, 4, 4, 4, 1, .single, [⟨0, 0, .ro, 1⟩, ⟨1, 1, .rwl, 0⟩, ⟨2, 2, .rwl, 0⟩, ⟨3, 3, .ro, 0⟩, ⟨5, 4, .hw, 2⟩, ⟨6, 6, .hw, 0⟩, ⟨12, 8, .ro, 6⟩]⟩,  -- CLK_BRANCH (R82)
  ⟨0x1170, 4, 4, 4, 1, .single, [⟨0, 0, .ro, 1⟩, ⟨1, 1, .rwl, 0⟩, ⟨2, 2, .rwl, 0⟩, ⟨3, 3, .ro, 0⟩, ⟨5, 4, .hw, 2⟩, ⟨6, 6, .hw, 0⟩, ⟨12, 8, .ro, 7⟩]⟩,  -- CLK_BRANCH (R82)
  ⟨0x1180, 4, 4, 4, 1, .single, [⟨0, 0, .ro, 1⟩, ⟨1, 1, .rwl, 0⟩, ⟨2, 2, .rwl, 0⟩, ⟨3, 3, .ro, 0⟩, ⟨5, 4, .hw, 2⟩, ⟨6, 6, .hw, 0⟩, ⟨12, 8, .ro, 8⟩]⟩,  -- CLK_BRANCH (R82)
  ⟨0x1190, 4, 4, 4, 1, .single, [⟨0, 0, .ro, 1⟩, ⟨1, 1, .rwl, 0⟩, ⟨2, 2, .rwl, 0⟩, ⟨3, 3, .ro, 0⟩, ⟨5, 4, .hw, 2⟩, ⟨6, 6, .hw, 0⟩, ⟨12, 8, .ro, 9⟩]⟩,  -- CLK_BRANCH (R82)
  ⟨0x11A0, 4, 4, 4, 1, .single, [⟨0, 0, .ro, 1⟩, ⟨1, 1, .rwl, 0⟩, ⟨2, 2, .rwl, 0⟩, ⟨3, 3, .ro, 0⟩, ⟨5, 4, .hw, 2⟩, ⟨6, 6, .hw, 0⟩, ⟨12, 8, .ro, 10⟩]⟩,  -- CLK_BRANCH (R82)
  ⟨0x11B0, 4, 4, 4, 1, .single, [⟨0, 0, .ro, 1⟩, ⟨1, 1, .rwl, 0⟩, ⟨2, 2, .rwl, 0⟩, ⟨3, 3, .ro, 0⟩, ⟨5, 4, .hw, 2⟩, ⟨6, 6, .hw, 0⟩, ⟨12, 8, .ro, 11⟩]⟩,  -- CLK_BRANCH (R82)
  ⟨0x11C0, 4, 4, 4, 1, .single, [⟨0, 0, .ro, 1⟩, ⟨1, 1, .rwl, 0⟩, ⟨2, 2, .rwl, 0⟩, ⟨3, 3, .ro, 0⟩, ⟨5, 4, .hw, 2⟩, ⟨6, 6, .hw, 0⟩, ⟨12, 8, .ro, 12⟩]⟩,  -- CLK_BRANCH (R82)
  ⟨0x11D0, 4, 4, 4, 1, .single, [⟨0, 0, .ro, 1⟩, ⟨1, 1, .rwl, 0⟩, ⟨2, 2, .rwl, 0⟩, ⟨3, 3, .ro, 0⟩, ⟨5, 4, .hw, 2⟩, ⟨6, 6, .hw, 0⟩, ⟨12, 8, .ro, 13⟩]⟩,  -- CLK_BRANCH (R82)
  ⟨0x11E0, 4, 4, 4, 1, .single, [⟨0, 0, .ro, 1⟩, ⟨1, 1, .rwl, 0⟩, ⟨2, 2, .rwl, 0⟩, ⟨3, 3, .ro, 0⟩, ⟨5, 4, .hw, 2⟩, ⟨6, 6, .hw, 0⟩, ⟨12, 8, .ro, 14⟩]⟩,  -- CLK_BRANCH (R82)
  ⟨0x11F0, 4, 4, 4, 1, .single, [⟨0, 0, .ro, 1⟩, ⟨1, 1, .rwl, 0⟩, ⟨2, 2, .rwl, 0⟩, ⟨3, 3, .ro, 0⟩, ⟨5, 4, .hw, 2⟩, ⟨6, 6, .hw, 0⟩, ⟨12, 8, .ro, 15⟩]⟩,  -- CLK_BRANCH (R82)
  ⟨0x1200, 4, 3, 4, 1, .single, [⟨0, 0, .ro, 1⟩, ⟨1, 1, .ro, 1⟩, ⟨2, 2, .ro, 1⟩, ⟨3, 3, .ro, 1⟩, ⟨5, 4, .hw, 0⟩, ⟨6, 6, .hw, 1⟩, ⟨12, 8, .ro, 16⟩]⟩]  -- CLK_BRANCH (R82)

def clkRows_2 : List RegRow := [
  ⟨0x120C, 4, 1, 4, 1, .single, [⟨0, 0, .ro, 1⟩, ⟨1, 1, .rwl, 0⟩, ⟨2, 2, .rwl, 0⟩, ⟨3, 3, .ro, 0⟩, ⟨5, 4, .hw, 2⟩, ⟨6, 6, .hw, 0⟩, ⟨12, 8, .ro, 17⟩]⟩,  -- CLK_BRANCH (R82)
  ⟨0x1210, 4, 1, 4, 1, .single, [⟨0, 0, .ro, 1⟩, ⟨1, 1, .ro, 1⟩, ⟨2, 2, .ro, 1⟩, ⟨3, 3, .ro, 1⟩, ⟨5, 4, .hw, 0⟩, ⟨6, 6, .hw, 1⟩, ⟨12, 8, .ro, 16⟩]⟩,  -- CLK_BRANCH (R82)
  ⟨0x1214, 4, 1, 4, 1, .single, [⟨0, 0, .ro, 1⟩, ⟨1, 1, .rwl, 0⟩, ⟨2, 2, .rwl, 0⟩, ⟨3, 3, .ro, 0⟩, ⟨5, 4, .hw, 2⟩, ⟨6, 6, .hw, 0⟩, ⟨12, 8, .ro, 18⟩]⟩,  -- CLK_BRANCH (R82)
  ⟨0x1218, 4, 1, 4, 1, .single, [⟨0, 0, .ro, 1⟩, ⟨1, 1, .rwl, 0⟩, ⟨2, 2, .rwl, 0⟩, ⟨3, 3, .ro, 0⟩, ⟨5, 4, .hw, 2⟩, ⟨6, 6, .hw, 0⟩, ⟨12, 8, .ro, 19⟩]⟩,  -- CLK_BRANCH (R82)
  ⟨0x121C, 4, 1, 4, 1, .single, [⟨0, 0, .ro, 1⟩, ⟨1, 1, .rwl, 0⟩, ⟨2, 2, .rwl, 0⟩, ⟨3, 3, .ro, 0⟩, ⟨5, 4, .hw, 2⟩, ⟨6, 6, .hw, 0⟩, ⟨12, 8, .ro, 20⟩]⟩,  -- CLK_BRANCH (R82)
  ⟨0x1220, 4, 5, 4, 1, .single, [⟨0, 0, .ro, 1⟩, ⟨1, 1, .ro, 1⟩, ⟨2, 2, .ro, 1⟩, ⟨3, 3, .ro, 1⟩, ⟨5, 4, .hw, 0⟩, ⟨6, 6, .hw, 1⟩, ⟨12, 8, .ro, 16⟩]⟩,  -- CLK_BRANCH (R82)
  ⟨0x1234, 4, 1, 4, 1, .single, [⟨0, 0, .ro, 1⟩, ⟨1, 1, .rwl, 0⟩, ⟨2, 2, .rwl, 0⟩, ⟨3, 3, .ro, 0⟩, ⟨5, 4, .hw, 2⟩, ⟨6, 6, .hw, 0⟩, ⟨12, 8, .ro, 21⟩]⟩,  -- CLK_BRANCH (R82)
  ⟨0x1240, 4, 6, 4, 1, .single, [⟨0, 0, .ro, 1⟩, ⟨1, 1, .ro, 1⟩, ⟨2, 2, .ro, 1⟩, ⟨3, 3, .ro, 1⟩, ⟨5, 4, .hw, 0⟩, ⟨6, 6, .hw, 1⟩, ⟨12, 8, .ro, 16⟩]⟩]  -- CLK_BRANCH (R82)

/-- Registers of the clk block. -/
def clkRows : List RegRow := clkRows_0 ++ clkRows_1 ++ clkRows_2

/-- Registers of the boot block. -/
def bootRows : List RegRow := [
  ⟨0x1000, 4, 1, 4, 1, .single, [⟨3, 0, .hw, 3⟩, ⟨4, 4, .hw, 0⟩, ⟨5, 5, .hw, 0⟩, ⟨15, 8, .hw, 0⟩, ⟨19, 16, .hw, 0⟩]⟩,  -- BOOT_STATUS (R84)
  ⟨0x1004, 4, 1, 4, 1, .single, [⟨0, 0, .hw, 0⟩, ⟨1, 1, .hw, 0⟩, ⟨2, 2, .hw, 0⟩, ⟨3, 3, .hw, 0⟩, ⟨7, 4, .hw, 0⟩]⟩,  -- BOOT_SLOTS (R84)
  ⟨0x1008, 4, 1, 4, 1, .single, [⟨31, 0, .hw, 0⟩]⟩,  -- BOOT_FIXON_GEN (R84)
  ⟨0x100C, 4, 1, 4, 1, .single, [⟨31, 0, .hw, 0⟩]⟩,  -- BOOT_FIXON_ERR (R84)
  ⟨0x1010, 4, 8, 4, 1, .single, [⟨31, 0, .hw, 0⟩]⟩]  -- BOOT_STAGE_T (R84)

def pwrRows_0 : List RegRow := [
  ⟨0x1000, 4, 1, 4, 1, .single, [⟨3, 0, .hw, 5⟩, ⟨5, 4, .hw, 1⟩, ⟨6, 6, .hw, 1⟩, ⟨7, 7, .hw, 1⟩, ⟨8, 8, .hw, 1⟩, ⟨9, 9, .hw, 0⟩, ⟨10, 10, .hw, 0⟩, ⟨11, 11, .hw, 1⟩, ⟨12, 12, .hw, 0⟩, ⟨13, 13, .ro, 0⟩, ⟨31, 16, .hw, 0⟩]⟩,  -- PWR_HS_STATUS (R50)
  ⟨0x1004, 4, 1, 4, 1, .single, [⟨7, 0, .rwl, 170⟩, ⟨15, 8, .rwl, 50⟩]⟩,  -- PWR_HS_CFG (R51)
  ⟨0x1008, 4, 1, 4, 1, .single, [⟨6, 0, .ro, 10⟩, ⟨15, 8, .ro, 100⟩, ⟨18, 16, .ro, 2⟩, ⟨24, 24, .ro, 1⟩]⟩,  -- PWR_HS_BOOTCFG (R52)
  ⟨0x100C, 4, 1, 4, 1, .single, [⟨0, 0, .rwl, 0⟩, ⟨1, 1, .rwl, 1⟩, ⟨15, 8, .rwl, 10⟩]⟩,  -- PWR_FEED_CFG (R53)
  ⟨0x1010, 4, 1, 4, 1, .single, [⟨15, 0, .rwl, 0x16a8⟩, ⟨31, 16, .rwl, 0x157c⟩]⟩,  -- PWR_FEED_THR (R53)
  ⟨0x1014, 4, 1, 4, 1, .single, [⟨15, 0, .rwl, 0xf230⟩]⟩,  -- PWR_FEED_OV (R53)
  ⟨0x1020, 4, 1, 4, 1, .single, [⟨15, 0, .hw, 0⟩, ⟨31, 16, .hw, 0⟩]⟩,  -- PWR_MEAS_A (R54)
  ⟨0x1028, 4, 1, 4, 1, .single, [⟨31, 0, .hw, 0⟩]⟩,  -- PWR_POWER_A (R54)
  ⟨0x1030, 4, 1, 4, 1, .low, [⟨31, 0, .hw, 0⟩]⟩,  -- PWR_ENERGY_A_LO (R54)
  ⟨0x1034, 4, 1, 4, 1, .high, [⟨31, 0, .hw, 0⟩]⟩,  -- PWR_ENERGY_A_HI (R54)
  ⟨0x1024, 4, 1, 4, 1, .single, [⟨15, 0, .hw, 0⟩, ⟨31, 16, .hw, 0⟩]⟩,  -- PWR_MEAS_B (R54)
  ⟨0x102C, 4, 1, 4, 1, .single, [⟨31, 0, .hw, 0⟩]⟩]  -- PWR_POWER_B (R54)

def pwrRows_1 : List RegRow := [
  ⟨0x1038, 4, 1, 4, 1, .low, [⟨31, 0, .hw, 0⟩]⟩,  -- PWR_ENERGY_B_LO (R54)
  ⟨0x103C, 4, 1, 4, 1, .high, [⟨31, 0, .hw, 0⟩]⟩,  -- PWR_ENERGY_B_HI (R54)
  ⟨0x1040, 4, 1, 4, 1, .single, [⟨3, 0, .ro, 0⟩, ⟨7, 4, .ro, 0⟩, ⟨8, 8, .ro, 0⟩]⟩,  -- PWR_LAST_FAULT (R55)
  ⟨0x1044, 4, 1, 4, 1, .single, [⟨31, 0, .ro, 0⟩]⟩,  -- PWR_FAULT_COUNT (R55)
  ⟨0x1048, 4, 1, 4, 1, .single, [⟨31, 0, .ro, 0⟩]⟩,  -- PWR_SWITCH_COUNT (R55)
  ⟨0x104C, 4, 1, 4, 1, .single, [⟨7, 0, .hw, 0⟩, ⟨15, 8, .hw, 0⟩, ⟨23, 16, .hw, 0⟩]⟩,  -- PWR_TEMP (R55)
  ⟨0x10FC, 4, 1, 4, 1, .single, [⟨0, 0, .rwl, 0⟩]⟩]  -- PWR_LOCK (R56)

/-- Registers of the pwr block. -/
def pwrRows : List RegRow := pwrRows_0 ++ pwrRows_1

def fltRows_0 : List RegRow := [
  ⟨0x1000, 4, 1, 4, 1, .single, [⟨10, 0, .hw, 0⟩, ⟨11, 11, .hw, 0⟩, ⟨20, 16, .hw, 0⟩, ⟨21, 21, .hw, 0⟩]⟩,  -- FLT_STATUS (R367)
  ⟨0x1004, 4, 1, 4, 1, .single, [⟨31, 0, .hw, 0⟩]⟩,  -- FLT_SEQ (R367)
  ⟨0x1008, 4, 1, 4, 1, .single, [⟨31, 0, .rw, 0⟩]⟩,  -- FLT_ACK (R367)
  ⟨0x100C, 4, 1, 4, 1, .single, [⟨31, 0, .rw, 0⟩]⟩,  -- FLT_BOARD_ACK (R367)
  ⟨0x1010, 4, 1, 4, 1, .single, [⟨3, 0, .rwl, 14⟩]⟩,  -- FLT_ALERT_CFG (R367)
  ⟨0x1014, 4, 1, 4, 1, .single, [⟨11, 0, .wo, 0⟩, ⟨13, 12, .wo, 0⟩, ⟨27, 16, .wo, 0⟩]⟩,  -- FLT_INJECT (R367)
  ⟨0x1018, 4, 1, 4, 1, .single, [⟨31, 0, .hw, 0⟩]⟩,  -- FLT_LOST (R367)
  ⟨0x101C, 4, 1, 4, 1, .single, [⟨3, 0, .rw, 0⟩]⟩,  -- FLT_REC_SEL (R367)
  ⟨0x10FC, 4, 1, 4, 1, .single, [⟨0, 0, .rwl, 0⟩]⟩,  -- FLT_LOCK (R367)
  ⟨0x1100, 64, 3, 4, 8, .single, [⟨31, 0, .hw, 0⟩]⟩,  -- FLT_FIRST (R367)
  ⟨0x1120, 64, 3, 4, 1, .single, [⟨0, 0, .hw, 0⟩, ⟨1, 1, .wo, 0⟩]⟩,  -- FLT_FIRST_CTL (R367)
  ⟨0x2000, 4, 256, 4, 1, .single, [⟨31, 0, .hw, 0⟩]⟩]  -- FLT_REC (R367)

def fltRows_1 : List RegRow := [
  ⟨0x8000, 4, 8192, 4, 1, .single, [⟨31, 0, .hw, 0⟩]⟩]  -- FLT_LOG (R367)

/-- Registers of the flt block. -/
def fltRows : List RegRow := fltRows_0 ++ fltRows_1

def intcRows_0 : List RegRow := [
  ⟨0x1000, 4, 1, 4, 1, .single, [⟨11, 0, .hw, 0⟩]⟩,  -- INTC_STATUS (R392)
  ⟨0x1004, 4, 1, 4, 1, .single, [⟨15, 0, .hw, 0⟩, ⟨31, 16, .hw, 0⟩]⟩,  -- INTC_BAD (R392)
  ⟨0x1100, 64, 4, 4, 1, .low, [⟨31, 15, .rw, 0⟩]⟩,  -- INTC_VEC_LO (R392)
  ⟨0x1104, 64, 4, 4, 1, .high, [⟨31, 0, .rw, 0⟩]⟩,  -- INTC_VEC_HI (R392)
  ⟨0x1108, 64, 4, 4, 1, .single, [⟨3, 0, .rw, 0⟩]⟩,  -- INTC_THRESH (R392)
  ⟨0x110C, 64, 4, 4, 1, .single, [⟨15, 0, .hw, 0xffff⟩]⟩,  -- INTC_CLAIM (R392)
  ⟨0x1110, 64, 4, 4, 1, .single, [⟨11, 0, .wo, 0⟩]⟩,  -- INTC_COMPLETE (R392)
  ⟨0x1114, 64, 4, 4, 1, .single, [⟨3, 0, .hw, 0⟩, ⟨7, 4, .hw, 0⟩]⟩,  -- INTC_RUN (R392)
  ⟨0x2000, 4, 64, 4, 1, .single, [⟨31, 0, .set, 0⟩]⟩,  -- INTC_PEND_SET (R392)
  ⟨0x2100, 4, 64, 4, 1, .single, [⟨31, 0, .clr, 0⟩]⟩,  -- INTC_PEND_CLR (R392)
  ⟨0x2200, 4, 64, 4, 1, .single, [⟨31, 0, .set, 0⟩]⟩,  -- INTC_EN_SET (R392)
  ⟨0x2300, 4, 64, 4, 1, .single, [⟨31, 0, .clr, 0⟩]⟩]  -- INTC_EN_CLR (R392)

def intcRows_1 : List RegRow := [
  ⟨0x2400, 4, 64, 4, 1, .single, [⟨31, 0, .hw, 0⟩]⟩,  -- INTC_LEVEL (R392)
  ⟨0x2500, 4, 64, 4, 1, .single, [⟨31, 0, .hw, 0⟩]⟩,  -- INTC_ACTIVE (R392)
  ⟨0x4000, 4, 2048, 4, 1, .single, [⟨3, 0, .rw, 0⟩, ⟨7, 4, .rw, 0⟩, ⟨8, 8, .rw, 0⟩]⟩]  -- INTC_SRC (R392)

/-- Registers of the intc block. -/
def intcRows : List RegRow := intcRows_0 ++ intcRows_1

/-- Registers of the mbx block. -/
def mbxRows : List RegRow := [
  ⟨0x1000, 4, 1, 4, 1, .single, [⟨0, 0, .rwl, 0⟩, ⟨6, 1, .rwl, 0⟩]⟩,  -- MBX_CFG (R393)
  ⟨0x1004, 4, 1, 4, 1, .single, [⟨1, 0, .hw, 0⟩, ⟨3, 2, .hw, 0⟩]⟩,  -- MBX_POLICY (R393)
  ⟨0x1008, 4, 1, 4, 1, .single, [⟨3, 0, .wo, 0⟩]⟩,  -- MBX_WDT_KICK (R393)
  ⟨0x100C, 4, 1, 4, 1, .single, [⟨3, 0, .hw, 0⟩]⟩,  -- MBX_CORE_STATUS (R393)
  ⟨0x10FC, 4, 1, 4, 1, .single, [⟨0, 0, .rwl, 0⟩]⟩,  -- MBX_LOCK (R56)
  ⟨0x1100, 8, 67, 4, 1, .single, [⟨1, 0, .hw, 0⟩, ⟨2, 2, .hw, 0⟩, ⟨3, 3, .hw, 0⟩, ⟨31, 16, .hw, 0⟩]⟩,  -- MBX_BOX_STATE (R393)
  ⟨0x1104, 8, 67, 4, 1, .single, [⟨15, 0, .hw, 0⟩, ⟨31, 16, .hw, 0⟩]⟩]  -- MBX_BOX_SEQ (R393)

def secRows_0 : List RegRow := [
  ⟨0x1000, 4, 1, 4, 1, .single, [⟨1, 0, .hw, 0⟩, ⟨2, 2, .hw, 0⟩, ⟨3, 3, .hw, 0⟩, ⟨4, 4, .hw, 0⟩, ⟨5, 5, .hw, 0⟩, ⟨6, 6, .hw, 0⟩, ⟨7, 7, .hw, 0⟩, ⟨13, 8, .hw, 0⟩, ⟨19, 16, .hw, 0⟩, ⟨23, 20, .hw, 0⟩]⟩,  -- SEC_STATUS (R414)
  ⟨0x1004, 4, 1, 4, 1, .single, [⟨4, 0, .hw, 0⟩]⟩,  -- SEC_SESSIONS (R414)
  ⟨0x1008, 4, 1, 4, 1, .single, [⟨15, 0, .rwl, 1440⟩]⟩,  -- SEC_IDE_CFG (R414)
  ⟨0x100C, 4, 1, 4, 1, .single, [⟨5, 0, .wo, 0⟩, ⟨9, 8, .wo, 0⟩, ⟨10, 10, .wo, 0⟩]⟩,  -- SEC_IDE_CMD (R414)
  ⟨0x1020, 4, 1, 4, 1, .single, [⟨1, 0, .wo, 0⟩, ⟨5, 4, .wo, 0⟩, ⟨31, 24, .wo, 0⟩]⟩,  -- SEC_PROV_CMD (R414)
  ⟨0x1024, 4, 1, 4, 1, .single, [⟨1, 0, .hw, 0⟩]⟩,  -- SEC_PROV_STATUS (R414)
  ⟨0x10FC, 4, 1, 4, 1, .single, [⟨0, 0, .rwl, 0⟩]⟩,  -- SEC_LOCK (R414)
  ⟨0x1200, 4, 1, 4, 1, .single, [⟨0, 0, .wo, 0⟩, ⟨1, 1, .wo, 0⟩]⟩,  -- SEC_DBG_CTL (R414)
  ⟨0x1204, 4, 1, 4, 1, .single, [⟨2, 0, .hw, 0⟩, ⟨7, 4, .hw, 0⟩, ⟨10, 8, .hw, 0⟩, ⟨23, 16, .hw, 0⟩]⟩,  -- SEC_DBG_STATUS (R414)
  ⟨0x1040, 4, 12, 4, 1, .single, [⟨31, 0, .rw, 0⟩]⟩,  -- SEC_PROV_DATA (R414)
  ⟨0x1100, 4, 64, 4, 1, .single, [⟨1, 0, .hw, 0⟩, ⟨3, 2, .hw, 0⟩, ⟨4, 4, .hw, 0⟩, ⟨5, 5, .hw, 0⟩, ⟨6, 6, .hw, 0⟩, ⟨15, 7, .hw, 0⟩, ⟨31, 16, .hw, 0⟩]⟩,  -- SEC_IDE_PORT (R414)
  ⟨0x1220, 4, 8, 4, 1, .single, [⟨31, 0, .hw, 0⟩]⟩]  -- SEC_DBG_NONCE (R414)

def secRows_1 : List RegRow := [
  ⟨0x3000, 16, 6, 4, 1, .single, [⟨31, 0, .ro, 0⟩]⟩,  -- SEC_DIE_LOT0 (R414)
  ⟨0x3004, 16, 6, 4, 1, .single, [⟨31, 0, .ro, 0⟩]⟩,  -- SEC_DIE_LOT1 (R414)
  ⟨0x3008, 16, 6, 4, 1, .single, [⟨31, 0, .ro, 0⟩]⟩,  -- SEC_DIE_POS (R414)
  ⟨0x3060, 4, 4, 4, 1, .single, [⟨31, 0, .ro, 0⟩]⟩,  -- SEC_SERIAL (R414)
  ⟨0x4000, 4, 1871, 4, 1, .single, [⟨31, 0, .rw, 0⟩]⟩]  -- SEC_DBG_TOKEN (R414)

/-- Registers of the sec block. -/
def secRows : List RegRow := secRows_0 ++ secRows_1

/-- Registers of the time block. -/
def timeRows : List RegRow := [
  ⟨0x1000, 4, 1, 4, 1, .low, [⟨31, 0, .hw, 0⟩]⟩,  -- TIME_NOW_LO (R83)
  ⟨0x1004, 4, 1, 4, 1, .high, [⟨31, 0, .hw, 0⟩]⟩,  -- TIME_NOW_HI (R83)
  ⟨0x1008, 4, 1, 4, 1, .low, [⟨31, 0, .wo, 0⟩]⟩,  -- TIME_SET_LO (R83)
  ⟨0x100C, 4, 1, 4, 1, .high, [⟨31, 0, .wo, 0⟩]⟩,  -- TIME_SET_HI (R83)
  ⟨0x1010, 4, 1, 4, 1, .single, [⟨0, 0, .rwl, 1⟩]⟩,  -- TIME_CFG (R83)
  ⟨0x1014, 4, 1, 4, 1, .single, [⟨0, 0, .hw, 0⟩, ⟨1, 1, .hw, 0⟩, ⟨2, 2, .hw, 0⟩, ⟨31, 16, .hw, 0⟩]⟩,  -- TIME_STATUS (R83)
  ⟨0x10FC, 4, 1, 4, 1, .single, [⟨0, 0, .rwl, 0⟩]⟩]  -- TIME_LOCK (R83)

/-- Registers of the nvs block. -/
def nvsRows : List RegRow := [
  ⟨0x1004, 4, 1, 4, 1, .single, [⟨15, 0, .ro, 64⟩]⟩,  -- NVS_SIZE (R450)
  ⟨0x1008, 4, 1, 4, 1, .single, [⟨3, 0, .wo, 0⟩, ⟨31, 24, .wo, 0⟩]⟩,  -- NVS_CMD (R450)
  ⟨0x100C, 4, 1, 4, 1, .single, [⟨1, 0, .hw, 0⟩]⟩,  -- NVS_CMD_STATUS (R450)
  ⟨0x1010, 4, 1, 4, 1, .single, [⟨15, 0, .hw, 0⟩]⟩,  -- NVS_WEAR (R450)
  ⟨0x1000, 4, 1, 4, 1, .single, [⟨0, 0, .hw, 0⟩, ⟨1, 1, .hw, 1⟩, ⟨2, 2, .hw, 0⟩]⟩,  -- NVS_STATUS (R450)
  ⟨0x1100, 4, 16, 4, 1, .single, [⟨31, 0, .rw, 0⟩]⟩]  -- NVS_PARAM (R450)

def perfRows_0 : List RegRow := [
  ⟨0x1000, 4, 1, 4, 1, .low, [⟨31, 0, .rw, 0⟩]⟩,  -- PERF_CNT_USER_EN_LO (R429)
  ⟨0x1004, 4, 1, 4, 1, .high, [⟨31, 0, .rw, 0⟩]⟩,  -- PERF_CNT_USER_EN_HI (R429)
  ⟨0x1008, 4, 1, 4, 1, .single, [⟨1, 0, .rw, 0⟩, ⟨2, 2, .rw, 0⟩]⟩,  -- PERF_VIEW (R429)
  ⟨0x1010, 16, 4, 4, 1, .single, [⟨7, 0, .rw, 0⟩, ⟨15, 8, .rw, 0⟩, ⟨16, 16, .wo, 0⟩, ⟨17, 17, .hw, 0⟩, ⟨18, 18, .hw, 0⟩]⟩,  -- PERF_SNAP_CTL (R429)
  ⟨0x1018, 16, 4, 4, 1, .low, [⟨31, 0, .hw, 0⟩]⟩,  -- PERF_SNAP_TS_LO (R429)
  ⟨0x101C, 16, 4, 4, 1, .high, [⟨31, 0, .hw, 0⟩]⟩,  -- PERF_SNAP_TS_HI (R429)
  ⟨0x1050, 4, 1, 4, 1, .single, [⟨0, 0, .rw, 0⟩, ⟨5, 1, .rw, 10⟩]⟩,  -- PERF_LAT_CFG (R429)
  ⟨0x1100, 16, 64, 4, 1, .single, [⟨0, 0, .rw, 0⟩, ⟨1, 1, .rw, 0⟩, ⟨7, 2, .rw, 0⟩, ⟨8, 8, .rw, 0⟩, ⟨14, 9, .rw, 0⟩, ⟨15, 15, .rw, 0⟩, ⟨23, 16, .rw, 0⟩, ⟨27, 24, .rw, 1⟩]⟩,  -- PERF_HIST_CFG (R429)
  ⟨0x1104, 16, 64, 4, 1, .single, [⟨19, 0, .rw, 0⟩]⟩,  -- PERF_HIST_BASE (R429)
  ⟨0x1108, 16, 64, 4, 1, .single, [⟨31, 0, .hw, 0⟩]⟩,  -- PERF_HIST_MAX (R429)
  ⟨0x1500, 32, 16, 4, 1, .single, [⟨7, 0, .rw, 0⟩, ⟨20, 8, .rw, 0⟩, ⟨31, 31, .rw, 0⟩]⟩,  -- PERF_OVF_SEL (R429)
  ⟨0x1504, 32, 16, 4, 1, .single, [⟨31, 0, .hw, 0⟩]⟩]  -- PERF_OVF_MISSED (R429)

def perfRows_1 : List RegRow := [
  ⟨0x1508, 32, 16, 4, 1, .low, [⟨31, 0, .rw, 0⟩]⟩,  -- PERF_OVF_PERIOD_LO (R429)
  ⟨0x150C, 32, 16, 4, 1, .high, [⟨31, 0, .rw, 0⟩]⟩,  -- PERF_OVF_PERIOD_HI (R429)
  ⟨0x1510, 32, 16, 4, 1, .low, [⟨31, 0, .rw, 0⟩]⟩,  -- PERF_OVF_THR_LO (R429)
  ⟨0x1514, 32, 16, 4, 1, .high, [⟨31, 0, .rw, 0⟩]⟩,  -- PERF_OVF_THR_HI (R429)
  ⟨0x1518, 32, 16, 4, 1, .low, [⟨31, 0, .hw, 0⟩]⟩,  -- PERF_OVF_VAL_LO (R429)
  ⟨0x151C, 32, 16, 4, 1, .high, [⟨31, 0, .hw, 0⟩]⟩,  -- PERF_OVF_VAL_HI (R429)
  ⟨0x1800, 4, 1, 4, 1, .single, [⟨0, 0, .rw, 0⟩, ⟨1, 1, .rw, 1⟩, ⟨2, 2, .rw, 0⟩, ⟨3, 3, .rw, 0⟩, ⟨23, 8, .rw, 1000⟩]⟩,  -- PERF_RING_CFG (R429)
  ⟨0x1804, 4, 1, 4, 1, .single, [⟨0, 0, .hw, 0⟩]⟩,  -- PERF_RING_STATUS (R429)
  ⟨0x1808, 4, 1, 4, 1, .single, [⟨31, 0, .hw, 0⟩]⟩,  -- PERF_RING_WR (R429)
  ⟨0x180C, 4, 1, 4, 1, .single, [⟨31, 0, .rw, 0⟩]⟩,  -- PERF_RING_RD (R429)
  ⟨0x1810, 4, 1, 4, 1, .single, [⟨31, 0, .hw, 0⟩]⟩,  -- PERF_RING_LOST (R429)
  ⟨0x1814, 4, 1, 4, 1, .single, [⟨31, 0, .hw, 0⟩]⟩]  -- PERF_RING_DROP (R429)

def perfRows_2 : List RegRow := [
  ⟨0x1818, 4, 1, 4, 1, .single, [⟨31, 0, .wo, 0⟩]⟩,  -- PERF_RING_MARK (R429)
  ⟨0x1900, 4, 48, 4, 1, .single, [⟨31, 0, .rw, 0⟩]⟩,  -- PERF_EXP (R429)
  ⟨0x2000, 4, 8192, 4, 1, .single, [⟨7, 0, .rw, 0⟩, ⟨20, 8, .rw, 0⟩, ⟨31, 31, .rw, 0⟩]⟩,  -- PERF_USER_MAP (R429)
  ⟨0xA000, 4, 1024, 4, 1, .single, [⟨31, 0, .hw, 0⟩]⟩]  -- PERF_RING_WIN (R429)

/-- Registers of the perf block. -/
def perfRows : List RegRow := perfRows_0 ++ perfRows_1 ++ perfRows_2

/-- Registers of the portg block. -/
def portgRows : List RegRow := [
  ⟨0x1000, 4, 1, 4, 1, .single, [⟨1, 0, .rwl, 0⟩]⟩,  -- PORTG_CFG (R135)
  ⟨0x1004, 4, 1, 4, 1, .single, [⟨1, 0, .hw, 0⟩, ⟨2, 2, .hw, 0⟩, ⟨3, 3, .hw, 0⟩, ⟨7, 4, .hw, 1⟩]⟩,  -- PORTG_STATUS (R135)
  ⟨0x10FC, 4, 1, 4, 1, .single, [⟨0, 0, .rwl, 0⟩]⟩,  -- PORTG_LOCK (R135)
  ⟨0x1100, 256, 4, 4, 1, .single, [⟨0, 0, .rw, 0⟩, ⟨2, 1, .rwl, 1⟩, ⟨6, 4, .rwl, 6⟩, ⟨9, 8, .rwl, 0⟩, ⟨10, 10, .rwl, 0⟩, ⟨11, 11, .rwl, 0⟩, ⟨12, 12, .rwl, 0⟩]⟩,  -- PORT_CFG (R136)
  ⟨0x1104, 256, 4, 4, 1, .single, [⟨0, 0, .hw, 0⟩, ⟨1, 1, .wo, 0⟩]⟩,  -- PORT_CTL (R136)
  ⟨0x1108, 256, 4, 4, 1, .single, [⟨3, 0, .hw, 0⟩, ⟨8, 4, .hw, 0⟩, ⟨11, 9, .hw, 0⟩, ⟨13, 12, .hw, 0⟩, ⟨14, 14, .hw, 0⟩, ⟨15, 15, .hw, 0⟩, ⟨16, 16, .hw, 0⟩, ⟨17, 17, .hw, 0⟩, ⟨18, 18, .hw, 0⟩, ⟨19, 19, .hw, 0⟩, ⟨23, 20, .hw, 0⟩, ⟨24, 24, .hw, 0⟩]⟩,  -- PORT_STATUS (R136)
  ⟨0x1110, 256, 4, 4, 1, .single, [⟨9, 0, .rwl, 0⟩, ⟨19, 10, .rwl, 0⟩, ⟨29, 20, .rwl, 50⟩]⟩,  -- PORT_DSX_CFG (R137)
  ⟨0x1114, 256, 4, 4, 1, .single, [⟨2, 0, .wo, 0⟩]⟩,  -- PORT_DSX_CMD (R137)
  ⟨0x1118, 256, 4, 4, 1, .single, [⟨0, 0, .hw, 0⟩, ⟨3, 1, .hw, 0⟩, ⟨6, 4, .hw, 0⟩, ⟨7, 7, .hw, 0⟩, ⟨10, 8, .hw, 0⟩, ⟨12, 11, .hw, 0⟩, ⟨19, 16, .hw, 0⟩]⟩]  -- PORT_DSX_STATUS (R137)

/-- Registers of the ehr block. -/
def ehrRows : List RegRow := [
  ⟨0x1000, 4, 1, 4, 1, .single, [⟨1, 0, .hw, 0⟩, ⟨2, 2, .hw, 0⟩, ⟨15, 8, .hw, 0⟩, ⟨20, 16, .hw, 0⟩, ⟨21, 21, .hw, 0⟩]⟩,  -- EHR_STATUS (R191)
  ⟨0x1040, 4, 34, 4, 1, .single, [⟨2, 0, .hw, 0⟩, ⟨3, 3, .hw, 0⟩, ⟨9, 4, .hw, 0⟩, ⟨15, 10, .hw, 0⟩, ⟨21, 16, .hw, 0⟩, ⟨27, 22, .hw, 0⟩]⟩,  -- EHR_REPAIR (R191)
  ⟨0x10FC, 4, 1, 4, 1, .single, [⟨0, 0, .rwl, 0⟩]⟩]  -- EHR_LOCK (R56)

/-- Registers of the xbar block. -/
def xbarRows : List RegRow := [
  ⟨0x1000, 4, 1, 4, 1, .single, [⟨15, 0, .rwl, 0xffff⟩]⟩,  -- XBAR_CFG (R188)
  ⟨0x1004, 4, 1, 4, 1, .single, [⟨7, 0, .hw, 0⟩]⟩,  -- XBAR_PRIV (R188)
  ⟨0x10FC, 4, 1, 4, 1, .single, [⟨0, 0, .rwl, 0⟩]⟩]  -- XBAR_LOCK (R56)

def bufRows_0 : List RegRow := [
  ⟨0x1000, 4, 1, 4, 1, .single, [⟨17, 0, .hw, 0x30000⟩]⟩,  -- BUF_FREE (R189)
  ⟨0x1004, 4, 1, 4, 1, .single, [⟨17, 0, .hw, 0x2be00⟩]⟩,  -- BUF_SFREE (R189)
  ⟨0x100C, 4, 1, 4, 1, .single, [⟨17, 0, .hw, 0x2be00⟩]⟩,  -- BUF_LOW_WATER (R189)
  ⟨0x1008, 4, 1, 4, 1, .single, [⟨16, 0, .hw, 0x10000⟩]⟩,  -- BUF_STRAND (R189)
  ⟨0x1010, 4, 1, 4, 1, .single, [⟨3, 0, .rwl, 6⟩]⟩,  -- BUF_RED_CFG (R189)
  ⟨0x1014, 4, 1, 4, 1, .single, [⟨14, 0, .rw, 0⟩]⟩,  -- BUF_QSEL (R189)
  ⟨0x1018, 4, 1, 4, 1, .single, [⟨17, 0, .hw, 0⟩, ⟨25, 19, .hw, 0⟩]⟩,  -- BUF_QDEPTH (R189)
  ⟨0x101C, 4, 1, 4, 1, .single, [⟨5, 0, .rw, 0⟩, ⟨10, 8, .rw, 0⟩]⟩,  -- BUF_NSEL (R189)
  ⟨0x1020, 4, 1, 4, 1, .single, [⟨17, 0, .hw, 0⟩, ⟨27, 18, .hw, 0⟩]⟩,  -- BUF_NOCC (R189)
  ⟨0x1024, 4, 1, 4, 1, .single, [⟨17, 0, .hw, 0⟩]⟩,  -- BUF_NAVG (R189)
  ⟨0x1040, 4, 1, 4, 1, .single, [⟨9, 0, .rwl, 8⟩]⟩,  -- BUF_SVC_MIN (R189)
  ⟨0x1044, 4, 1, 4, 1, .single, [⟨9, 0, .rwl, 32⟩]⟩]  -- BUF_SVC_MIN (R189)

def bufRows_1 : List RegRow := [
  ⟨0x1048, 4, 1, 4, 1, .single, [⟨9, 0, .rwl, 32⟩]⟩,  -- BUF_SVC_MIN (R189)
  ⟨0x104C, 4, 1, 4, 1, .single, [⟨9, 0, .rwl, 48⟩]⟩,  -- BUF_SVC_MIN (R189)
  ⟨0x1050, 4, 1, 4, 1, .single, [⟨9, 0, .rwl, 64⟩]⟩,  -- BUF_SVC_MIN (R189)
  ⟨0x1054, 4, 1, 4, 1, .single, [⟨9, 0, .rwl, 32⟩]⟩,  -- BUF_SVC_MIN (R189)
  ⟨0x1058, 4, 1, 4, 1, .single, [⟨9, 0, .rwl, 32⟩]⟩,  -- BUF_SVC_MIN (R189)
  ⟨0x105C, 4, 1, 4, 1, .single, [⟨9, 0, .rwl, 16⟩]⟩,  -- BUF_SVC_MIN (R189)
  ⟨0x1100, 12, 8, 4, 1, .single, [⟨11, 0, .rw, 128⟩, ⟨23, 12, .rw, 512⟩, ⟨31, 24, .rw, 32⟩]⟩,  -- BUF_RED (R189)
  ⟨0x1104, 12, 8, 4, 1, .single, [⟨11, 0, .rw, 64⟩, ⟨23, 12, .rw, 256⟩, ⟨31, 24, .rw, 64⟩]⟩,  -- BUF_RED (R189)
  ⟨0x1108, 12, 8, 4, 1, .single, [⟨11, 0, .rw, 16⟩, ⟨23, 12, .rw, 64⟩, ⟨31, 24, .rw, 128⟩]⟩,  -- BUF_RED (R189)
  ⟨0x1200, 4, 4, 4, 1, .single, [⟨1, 0, .rw, 0⟩, ⟨3, 2, .rw, 0⟩, ⟨5, 4, .rw, 0⟩, ⟨7, 6, .rw, 0⟩, ⟨9, 8, .rw, 0⟩, ⟨11, 10, .rw, 0⟩, ⟨13, 12, .rw, 0⟩, ⟨15, 14, .rw, 0⟩, ⟨17, 16, .rw, 0⟩, ⟨19, 18, .rw, 0⟩, ⟨21, 20, .rw, 0⟩, ⟨23, 22, .rw, 0⟩, ⟨25, 24, .rw, 0⟩, ⟨27, 26, .rw, 0⟩, ⟨29, 28, .rw, 0⟩, ⟨31, 30, .rw, 0⟩]⟩,  -- BUF_RED_SEL (R189)
  ⟨0x10FC, 4, 1, 4, 1, .single, [⟨0, 0, .rwl, 0⟩]⟩,  -- BUF_LOCK (R56)
  ⟨0x8000, 4, 4096, 4, 1, .single, [⟨3, 0, .rw, 6⟩, ⟨7, 4, .rw, 6⟩, ⟨11, 8, .rw, 6⟩, ⟨15, 12, .rw, 6⟩, ⟨19, 16, .rw, 6⟩, ⟨23, 20, .rw, 6⟩, ⟨27, 24, .rw, 6⟩, ⟨31, 28, .rw, 6⟩]⟩]  -- BUF_ALPHA (R189)

/-- Registers of the buf block. -/
def bufRows : List RegRow := bufRows_0 ++ bufRows_1

/-- Registers of the mcast block. -/
def mcastRows : List RegRow := [
  ⟨0x1000, 4, 1, 4, 1, .single, [⟨17, 0, .hw, 0⟩]⟩,  -- MCAST_STATUS (R190)
  ⟨0x10FC, 4, 1, 4, 1, .single, [⟨0, 0, .rwl, 0⟩]⟩,  -- MCAST_LOCK (R56)
  ⟨0x2000, 16, 256, 4, 1, .low, [⟨31, 0, .rw, 0⟩]⟩,  -- MC_GROUP_LO (R190)
  ⟨0x2004, 16, 256, 4, 1, .high, [⟨31, 0, .rw, 0⟩]⟩,  -- MC_GROUP_HI (R190)
  ⟨0x2008, 16, 256, 4, 1, .single, [⟨0, 0, .rw, 0⟩]⟩]  -- MC_GROUP_CFG (R190)

/-- Registers of the sched block. -/
def schedRows : List RegRow := [
  ⟨0x1000, 4, 1, 4, 1, .single, [⟨12, 0, .hw, 0⟩]⟩,  -- SCHED_STATUS (R209)
  ⟨0x1004, 4, 1, 4, 1, .single, [⟨11, 0, .rw, 0⟩, ⟨13, 12, .rw, 0⟩, ⟨15, 14, .rw, 0⟩]⟩,  -- SCHED_TSEL (R209)
  ⟨0x1008, 4, 1, 4, 1, .low, [⟨31, 0, .hw, 0⟩]⟩,  -- SCHED_TOK_LO (R209)
  ⟨0x100C, 4, 1, 4, 1, .high, [⟨31, 0, .hw, 0⟩]⟩,  -- SCHED_TOK_HI (R209)
  ⟨0x1010, 4, 1, 4, 1, .low, [⟨31, 0, .hw, 0⟩]⟩,  -- SCHED_TOK2_LO (R209)
  ⟨0x1014, 4, 1, 4, 1, .high, [⟨31, 0, .hw, 0⟩]⟩,  -- SCHED_TOK2_HI (R209)
  ⟨0x10FC, 4, 1, 4, 1, .single, [⟨0, 0, .rwl, 0⟩]⟩]  -- SCHED_LOCK (R209)

/-- Registers of the hat block. -/
def hatRows : List RegRow := [
  ⟨0x1000, 4, 1, 4, 1, .single, [⟨0, 0, .wo, 0⟩]⟩,  -- HAT_COMMIT (R300)
  ⟨0x1004, 4, 1, 4, 1, .single, [⟨0, 0, .hw, 1⟩, ⟨1, 1, .hw, 0⟩, ⟨31, 16, .hw, 0⟩]⟩,  -- HAT_STATUS (R300)
  ⟨0x1008, 4, 1, 4, 1, .single, [⟨23, 0, .hw, 0⟩]⟩,  -- HAT_OLD (R300)
  ⟨0x100C, 4, 1, 4, 1, .single, [⟨31, 0, .hw, 0⟩]⟩,  -- HAT_ABORTS (R300)
  ⟨0x1010, 4, 1, 4, 1, .single, [⟨15, 0, .rw, 0⟩]⟩,  -- HAT_ASEL (R300)
  ⟨0x1014, 4, 1, 4, 1, .single, [⟨16, 0, .hw, 0⟩]⟩,  -- HAT_BAD (R300)
  ⟨0x1018, 4, 1, 4, 1, .single, [⟨15, 0, .hw, 0⟩]⟩,  -- HAT_BAD_FIRST (R300)
  ⟨0x1040, 4, 16, 4, 1, .single, [⟨31, 0, .hw, 0⟩]⟩]  -- HAT_ARULE (R300)

/-- Registers of the vcs block. -/
def vcsRows : List RegRow := [
  ⟨0x1000, 4, 1, 4, 1, .single, [⟨9, 0, .rwl, 100⟩]⟩,  -- VCS_CFG (R163)
  ⟨0x1004, 4, 1, 4, 1, .single, [⟨0, 0, .hw, 0⟩, ⟨2, 1, .hw, 0⟩, ⟨7, 4, .hw, 0⟩, ⟨19, 8, .hw, 0⟩]⟩,  -- VCS_STATUS (R163)
  ⟨0x1008, 4, 1, 4, 1, .single, [⟨12, 0, .hw, 0⟩]⟩,  -- VCS_FLUSH (R163)
  ⟨0x10FC, 4, 1, 4, 1, .single, [⟨0, 0, .rwl, 0⟩]⟩]  -- VCS_LOCK (R163)

def homeRows_0 : List RegRow := [
  ⟨0x1000, 4, 1, 4, 1, .single, [⟨0, 0, .rwl, 0⟩, ⟨15, 8, .rwl, 64⟩]⟩,  -- HOME_CFG (R241)
  ⟨0x1004, 4, 1, 4, 1, .single, [⟨13, 0, .hw, 0⟩, ⟨26, 14, .hw, 0⟩]⟩,  -- HOME_STATUS (R241)
  ⟨0x1008, 4, 1, 4, 1, .single, [⟨14, 0, .hw, 0⟩]⟩,  -- HOME_FWD_STATUS (R241)
  ⟨0x100C, 4, 1, 4, 1, .single, [⟨13, 0, .hw, 0⟩]⟩,  -- HOME_CQ_HWM (R241)
  ⟨0x1010, 4, 1, 4, 1, .single, [⟨15, 0, .hw, 0⟩]⟩,  -- HOME_SWEEP (R241)
  ⟨0x10FC, 4, 1, 4, 1, .single, [⟨0, 0, .rwl, 0⟩]⟩,  -- HOME_LOCK (R56)
  ⟨0x2000, 128, 16, 4, 1, .single, [⟨0, 0, .rwl, 0⟩, ⟨1, 1, .wo, 0⟩, ⟨2, 2, .wo, 0⟩]⟩,  -- HIVE_CTL (R242)
  ⟨0x2004, 128, 16, 4, 1, .single, [⟨3, 0, .rwl, 0⟩, ⟨4, 4, .rwl, 0⟩]⟩,  -- HIVE_CFG (R242)
  ⟨0x2008, 128, 16, 4, 1, .single, [⟨13, 0, .rwl, 256⟩]⟩,  -- HIVE_HOLD (R242)
  ⟨0x200C, 128, 16, 4, 1, .single, [⟨19, 0, .rwl, 0x2710⟩]⟩,  -- HIVE_BITO (R242)
  ⟨0x2010, 128, 16, 4, 1, .single, [⟨6, 0, .rwl, 0⟩, ⟨15, 8, .rwl, 0⟩]⟩,  -- HIVE_DIR (R242)
  ⟨0x2014, 128, 16, 4, 1, .single, [⟨8, 0, .rwl, 0⟩, ⟨25, 16, .rwl, 0⟩]⟩]  -- HIVE_BKT (R242)

def homeRows_1 : List RegRow := [
  ⟨0x2018, 128, 16, 4, 1, .single, [⟨2, 0, .hw, 0⟩, ⟨3, 3, .hw, 0⟩, ⟨11, 4, .hw, 0⟩, ⟨15, 12, .hw, 0⟩, ⟨21, 16, .hw, 0⟩, ⟨24, 22, .hw, 0⟩]⟩,  -- HIVE_STATUS (R242)
  ⟨0x201C, 128, 16, 4, 1, .single, [⟨29, 0, .hw, 0⟩]⟩,  -- HIVE_ENTRIES (R242)
  ⟨0x2020, 128, 16, 4, 1, .single, [⟨29, 0, .hw, 0⟩]⟩,  -- HIVE_UNRESOLVED (R242)
  ⟨0x4000, 16, 1024, 4, 1, .single, [⟨0, 0, .rwl, 0⟩, ⟨1, 1, .rwl, 0⟩, ⟨7, 2, .rwl, 0⟩, ⟨19, 8, .rwl, 0⟩, ⟨24, 24, .wo, 0⟩]⟩,  -- HOST_CFG (R243)
  ⟨0x4004, 16, 1024, 4, 1, .single, [⟨17, 0, .rwl, 0⟩]⟩,  -- HOST_HPA (R243)
  ⟨0x4008, 16, 1024, 4, 1, .single, [⟨2, 0, .hw, 0⟩]⟩,  -- HOST_STATUS (R243)
  ⟨0x400C, 16, 1024, 4, 1, .single, [⟨31, 0, .hw, 0⟩]⟩,  -- HOST_OWNED (R243)
  ⟨0x8000, 32, 1024, 4, 1, .single, [⟨0, 0, .rwl, 0⟩, ⟨1, 1, .rwl, 0⟩, ⟨6, 2, .rwl, 0⟩, ⟨9, 8, .rwl, 0⟩, ⟨12, 10, .rwl, 0⟩]⟩,  -- WIN_CFG (R244)
  ⟨0x8004, 32, 1024, 4, 1, .single, [⟨17, 0, .rwl, 0⟩]⟩,  -- WIN_BASE (R244)
  ⟨0x8008, 32, 1024, 4, 1, .low, [⟨31, 0, .rwl, 0⟩]⟩,  -- WIN_DPA_LO (R244)
  ⟨0x800C, 32, 1024, 4, 1, .high, [⟨31, 0, .rwl, 0⟩]⟩,  -- WIN_DPA_HI (R244)
  ⟨0x8010, 32, 1024, 4, 1, .single, [⟨5, 0, .rwl, 0⟩, ⟨9, 6, .rwl, 0⟩, ⟨10, 10, .rwl, 0⟩, ⟨21, 16, .rwl, 0⟩, ⟨25, 22, .rwl, 0⟩, ⟨26, 26, .rwl, 0⟩]⟩]  -- WIN_TGT01 (R244)

def homeRows_2 : List RegRow := [
  ⟨0x8014, 32, 1024, 4, 1, .single, [⟨5, 0, .rwl, 0⟩, ⟨9, 6, .rwl, 0⟩, ⟨10, 10, .rwl, 0⟩, ⟨21, 16, .rwl, 0⟩, ⟨25, 22, .rwl, 0⟩, ⟨26, 26, .rwl, 0⟩]⟩]  -- WIN_TGT23 (R244)

/-- Registers of the home block. -/
def homeRows : List RegRow := homeRows_0 ++ homeRows_1 ++ homeRows_2

/-- Registers of the dirc block. -/
def dircRows : List RegRow := [
  ⟨0x1000, 4, 1, 4, 1, .single, [⟨9, 0, .hw, 0⟩]⟩,  -- DIRC_CFG (R245)
  ⟨0x1004, 4, 1, 4, 1, .single, [⟨21, 0, .hw, 0⟩]⟩,  -- DIRC_STATUS (R245)
  ⟨0x1008, 4, 1, 4, 1, .low, [⟨31, 0, .rw, 0⟩]⟩,  -- DIRC_QSEL_LO (R245)
  ⟨0x100C, 4, 1, 4, 1, .high, [⟨5, 0, .rw, 0⟩, ⟨11, 8, .rw, 0⟩]⟩,  -- DIRC_QSEL_HI (R245)
  ⟨0x1010, 4, 1, 4, 1, .single, [⟨0, 0, .hw, 0⟩, ⟨1, 1, .hw, 0⟩, ⟨2, 2, .hw, 0⟩, ⟨6, 3, .hw, 0⟩, ⟨10, 7, .hw, 0⟩, ⟨11, 11, .hw, 0⟩]⟩,  -- DIRC_QSTAT (R245)
  ⟨0x1020, 4, 4, 4, 1, .single, [⟨31, 0, .hw, 0⟩]⟩]  -- DIRC_QRESULT (R245)

/-- Registers of the comb block. -/
def combRows : List RegRow := [
  ⟨0x1000, 4, 1, 4, 1, .single, [⟨2, 0, .hw, 0⟩]⟩,  -- COMB_STATUS (R270)
  ⟨0x1004, 4, 1, 4, 1, .single, [⟨3, 0, .rwl, 8⟩, ⟨9, 4, .rwl, 4⟩, ⟨15, 10, .rwl, 8⟩, ⟨21, 16, .rwl, 1⟩, ⟨27, 22, .rwl, 2⟩]⟩,  -- COMB_PART_CFG (R270)
  ⟨0x1008, 4, 1, 4, 1, .single, [⟨27, 0, .hw, 0⟩]⟩,  -- COMB_PART_ACT (R270)
  ⟨0x100C, 4, 1, 4, 1, .single, [⟨7, 0, .hw, 0⟩, ⟨15, 8, .hw, 0⟩]⟩,  -- COMB_POOL (R270)
  ⟨0x1010, 4, 1, 4, 1, .single, [⟨0, 0, .rwl, 1⟩, ⟨15, 8, .rwl, 24⟩]⟩,  -- COMB_SCRUB_CFG (R270)
  ⟨0x1014, 4, 1, 4, 1, .single, [⟨15, 0, .hw, 0⟩, ⟨22, 16, .hw, 0⟩]⟩,  -- COMB_SCRUB_STATUS (R270)
  ⟨0x1018, 4, 1, 4, 1, .single, [⟨7, 0, .rwl, 8⟩]⟩,  -- COMB_ROW_CFG (R270)
  ⟨0x101C, 4, 1, 4, 1, .single, [⟨6, 0, .hw, 0⟩, ⟨7, 7, .hw, 0⟩, ⟨14, 8, .hw, 0⟩]⟩,  -- COMB_REPAIR (R270)
  ⟨0x1020, 4, 1, 4, 1, .single, [⟨7, 0, .hw, 0⟩, ⟨8, 8, .hw, 0⟩]⟩,  -- COMB_TEMP (R270)
  ⟨0x10FC, 4, 1, 4, 1, .single, [⟨0, 0, .rwl, 0⟩]⟩]  -- COMB_LOCK (R56)

def carbRows_0 : List RegRow := [
  ⟨0x1000, 4, 1, 4, 1, .single, [⟨8, 0, .hw, 0⟩]⟩,  -- CARB_STATUS (R271)
  ⟨0x1004, 4, 1, 4, 1, .single, [⟨15, 0, .hw, 0x2c7c⟩]⟩,  -- CARB_BOUND (R271)
  ⟨0x1040, 4, 1, 4, 1, .single, [⟨7, 0, .rwl, 4⟩]⟩,  -- CARB_BURST (R271)
  ⟨0x1044, 4, 1, 4, 1, .single, [⟨7, 0, .rwl, 16⟩]⟩,  -- CARB_BURST (R271)
  ⟨0x1048, 4, 1, 4, 1, .single, [⟨7, 0, .rwl, 1⟩]⟩,  -- CARB_BURST (R271)
  ⟨0x104C, 4, 1, 4, 1, .single, [⟨7, 0, .rwl, 16⟩]⟩,  -- CARB_BURST (R271)
  ⟨0x1050, 4, 1, 4, 1, .single, [⟨7, 0, .rwl, 8⟩]⟩,  -- CARB_BURST (R271)
  ⟨0x1054, 4, 1, 4, 1, .single, [⟨7, 0, .rwl, 8⟩]⟩,  -- CARB_BURST (R271)
  ⟨0x1058, 4, 1, 4, 1, .single, [⟨7, 0, .rwl, 4⟩]⟩,  -- CARB_BURST (R271)
  ⟨0x105C, 4, 1, 4, 1, .single, [⟨7, 0, .rwl, 16⟩]⟩,  -- CARB_BURST (R271)
  ⟨0x1060, 4, 1, 4, 1, .single, [⟨7, 0, .rwl, 32⟩]⟩,  -- CARB_BURST (R271)
  ⟨0x1080, 4, 9, 4, 1, .single, [⟨15, 0, .hw, 0⟩]⟩]  -- CARB_WAIT_MAX (R271)

def carbRows_1 : List RegRow := [
  ⟨0x10FC, 4, 1, 4, 1, .single, [⟨0, 0, .rwl, 0⟩]⟩]  -- CARB_LOCK (R56)

/-- Registers of the carb block. -/
def carbRows : List RegRow := carbRows_0 ++ carbRows_1

/-- Registers of the pool block. -/
def poolRows : List RegRow := [
  ⟨0x1000, 4, 1, 4, 1, .single, [⟨0, 0, .rwl, 0⟩]⟩,  -- POOL_CFG (R272)
  ⟨0x1004, 4, 1, 4, 1, .single, [⟨6, 0, .hw, 0⟩]⟩,  -- POOL_STATUS (R272)
  ⟨0x10FC, 4, 1, 4, 1, .single, [⟨0, 0, .rwl, 0⟩]⟩,  -- POOL_LOCK (R56)
  ⟨0x2000, 16, 64, 4, 1, .single, [⟨0, 0, .rw, 0⟩, ⟨3, 1, .rw, 0⟩, ⟨9, 4, .rw, 0⟩, ⟨20, 16, .rw, 0⟩]⟩,  -- POOL_WIN_CFG (R272)
  ⟨0x2004, 16, 64, 4, 1, .single, [⟨23, 0, .rw, 0⟩]⟩]  -- POOL_WIN_HPA (R272)

def moverRows_0 : List RegRow := [
  ⟨0x1000, 4, 1, 4, 1, .single, [⟨0, 0, .rw, 0⟩]⟩,  -- MOVER_CFG (R302)
  ⟨0x1004, 4, 1, 4, 1, .single, [⟨6, 0, .hw, 0⟩, ⟨22, 8, .hw, 0⟩]⟩,  -- MOVER_STATUS (R302)
  ⟨0x2000, 64, 64, 4, 1, .low, [⟨31, 12, .rw, 0⟩]⟩,  -- CH_RING_LO (R302)
  ⟨0x2004, 64, 64, 4, 1, .high, [⟨31, 0, .rw, 0⟩]⟩,  -- CH_RING_HI (R302)
  ⟨0x2008, 64, 64, 4, 1, .single, [⟨3, 0, .rw, 0⟩, ⟨27, 8, .rw, 0⟩, ⟨28, 28, .rw, 0⟩]⟩,  -- CH_RING_CFG (R302)
  ⟨0x200C, 64, 64, 4, 1, .single, [⟨15, 0, .rw, 0⟩]⟩,  -- CH_TAIL (R302)
  ⟨0x2010, 64, 64, 4, 1, .single, [⟨15, 0, .hw, 0⟩]⟩,  -- CH_HEAD (R302)
  ⟨0x2014, 64, 64, 4, 1, .single, [⟨0, 0, .rw, 0⟩, ⟨1, 1, .wo, 0⟩]⟩,  -- CH_CTL (R302)
  ⟨0x2018, 64, 64, 4, 1, .single, [⟨1, 0, .hw, 0⟩, ⟨7, 4, .hw, 0⟩, ⟨10, 8, .hw, 0⟩]⟩,  -- CH_STATUS (R302)
  ⟨0x4000, 16, 256, 4, 1, .single, [⟨0, 0, .rw, 0⟩, ⟨2, 1, .rw, 0⟩, ⟨9, 4, .rw, 0⟩]⟩,  -- VF_CFG (R302)
  ⟨0x4004, 16, 256, 4, 1, .single, [⟨11, 0, .rw, 0⟩]⟩,  -- VF_SUB (R302)
  ⟨0x4008, 16, 256, 4, 1, .single, [⟨19, 0, .rw, 0⟩, ⟨24, 20, .rw, 0⟩]⟩]  -- VF_PASID (R302)

def moverRows_1 : List RegRow := [
  ⟨0x400C, 16, 256, 4, 1, .single, [⟨5, 0, .rw, 0⟩, ⟨14, 8, .rw, 0⟩, ⟨20, 16, .rw, 0⟩, ⟨23, 21, .rw, 0⟩]⟩]  -- VF_RES (R302)

/-- Registers of the mover block. -/
def moverRows : List RegRow := moverRows_0 ++ moverRows_1

/-- Registers of the dlog block. -/
def dlogRows : List RegRow := [
  ⟨0x1000, 4, 1, 4, 1, .single, [⟨0, 0, .rw, 0⟩]⟩,  -- DLOG_CFG (R303)
  ⟨0x1004, 4, 1, 4, 1, .single, [⟨5, 0, .wo, 0⟩, ⟨13, 8, .wo, 0⟩]⟩,  -- DLOG_HCMD (R303)
  ⟨0x1008, 4, 1, 4, 1, .single, [⟨24, 0, .rw, 0⟩]⟩,  -- DLOG_HSTART (R303)
  ⟨0x100C, 4, 1, 4, 1, .single, [⟨2, 0, .hw, 0⟩, ⟨15, 8, .hw, 0⟩, ⟨22, 16, .hw, 0⟩]⟩,  -- DLOG_HSTATUS (R303)
  ⟨0x1010, 4, 1, 4, 1, .single, [⟨15, 0, .hw, 0⟩]⟩,  -- DLOG_HDIRTY (R303)
  ⟨0x1100, 32, 64, 4, 1, .single, [⟨0, 0, .rw, 0⟩, ⟨1, 1, .rw, 0⟩, ⟨7, 2, .rw, 0⟩, ⟨19, 8, .rw, 0⟩, ⟨25, 20, .rw, 0⟩, ⟨26, 26, .rw, 0⟩]⟩,  -- LOG_CFG (R303)
  ⟨0x1104, 32, 64, 4, 1, .low, [⟨31, 0, .rw, 0⟩]⟩,  -- LOG_BASE_LO (R303)
  ⟨0x1108, 32, 64, 4, 1, .high, [⟨31, 0, .rw, 0⟩]⟩,  -- LOG_BASE_HI (R303)
  ⟨0x110C, 32, 64, 4, 1, .single, [⟨25, 0, .rw, 0⟩]⟩,  -- LOG_LINES (R303)
  ⟨0x1110, 32, 64, 4, 1, .single, [⟨14, 0, .rw, 0⟩]⟩,  -- LOG_OFF (R303)
  ⟨0x1114, 32, 64, 4, 1, .single, [⟨0, 0, .hw, 0⟩]⟩,  -- LOG_STATUS (R303)
  ⟨0x8000, 4, 1024, 4, 1, .single, [⟨31, 0, .hw, 0⟩]⟩]  -- DLOG_HBUF (R303)

def tdmRows_0 : List RegRow := [
  ⟨0x1000, 4, 1, 4, 1, .single, [⟨0, 0, .rwl, 0⟩, ⟨1, 1, .rwl, 0⟩, ⟨2, 2, .rwl, 1⟩, ⟨15, 8, .rwl, 10⟩]⟩,  -- TDM_CFG (R339)
  ⟨0x1004, 4, 1, 4, 1, .single, [⟨7, 0, .rwl, 10⟩, ⟨15, 8, .rwl, 20⟩, ⟨23, 16, .rwl, 10⟩]⟩,  -- TDM_TIMING (R339)
  ⟨0x1008, 4, 1, 4, 1, .single, [⟨10, 0, .rwl, 960⟩, ⟨26, 16, .hw, 0⟩]⟩,  -- TDM_CREDIT (R339)
  ⟨0x100C, 4, 1, 4, 1, .single, [⟨1, 0, .hw, 0⟩, ⟨2, 2, .hw, 0⟩, ⟨11, 4, .hw, 0⟩, ⟨14, 12, .hw, 0⟩, ⟨15, 15, .hw, 0⟩]⟩,  -- TDM_LINK (R339)
  ⟨0x1010, 4, 1, 4, 1, .single, [⟨3, 0, .hw, 0⟩, ⟨7, 4, .hw, 0⟩, ⟨11, 8, .hw, 0⟩]⟩,  -- TDM_ROLE (R339)
  ⟨0x1014, 4, 1, 4, 1, .single, [⟨2, 0, .wo, 0⟩]⟩,  -- TDM_CMD (R339)
  ⟨0x1018, 4, 1, 4, 1, .single, [⟨31, 0, .hw, 0⟩]⟩,  -- TDM_HSEQ (R339)
  ⟨0x101C, 4, 1, 4, 1, .single, [⟨31, 0, .hw, 0⟩]⟩,  -- TDM_ACKSEQ (R339)
  ⟨0x1020, 4, 1, 4, 1, .single, [⟨31, 0, .hw, 0⟩]⟩,  -- TDM_NDSEQ (R339)
  ⟨0x1024, 4, 1, 4, 1, .single, [⟨21, 0, .hw, 0⟩]⟩,  -- TDM_JFILL (R339)
  ⟨0x1028, 4, 1, 4, 1, .single, [⟨19, 0, .hw, 0⟩]⟩,  -- TDM_UNKNOWN (R339)
  ⟨0x102C, 4, 1, 4, 1, .single, [⟨15, 0, .hw, 0⟩, ⟨19, 16, .hw, 0⟩]⟩]  -- TDM_PROMO (R339)

def tdmRows_1 : List RegRow := [
  ⟨0x1030, 4, 1, 4, 1, .single, [⟨31, 0, .hw, 0⟩]⟩,  -- TDM_PROMO_T (R339)
  ⟨0x10FC, 4, 1, 4, 1, .single, [⟨0, 0, .rwl, 0⟩]⟩]  -- TDM_LOCK (R56)

/-- Registers of the tdm block. -/
def tdmRows : List RegRow := tdmRows_0 ++ tdmRows_1

/-- Registers of the waggle block. -/
def waggleRows : List RegRow := [
  ⟨0x1000, 4, 1, 4, 1, .single, [⟨0, 0, .rwl, 1⟩]⟩,  -- WAGGLE_CFG (R340)
  ⟨0x1004, 4, 1, 4, 1, .single, [⟨0, 0, .hw, 0⟩, ⟨1, 1, .hw, 0⟩, ⟨6, 2, .hw, 0⟩, ⟨7, 7, .hw, 0⟩, ⟨15, 8, .hw, 0⟩]⟩,  -- WAGGLE_STATUS (R340)
  ⟨0x1008, 4, 1, 4, 1, .single, [⟨31, 0, .hw, 0⟩]⟩,  -- WAGGLE_PEER_HSEQ (R340)
  ⟨0x100C, 4, 1, 4, 1, .single, [⟨15, 0, .hw, 0⟩]⟩,  -- WAGGLE_RTT (R340)
  ⟨0x10FC, 4, 1, 4, 1, .single, [⟨0, 0, .rwl, 0⟩]⟩]  -- WAGGLE_LOCK (R56)

/-- Registers of the swarm block. -/
def swarmRows : List RegRow := [
  ⟨0x1000, 4, 1, 4, 1, .single, [⟨0, 0, .rwl, 0⟩, ⟨15, 4, .rwl, 0⟩]⟩,  -- SWARM_CFG (R341)
  ⟨0x1004, 4, 1, 4, 1, .single, [⟨12, 0, .hw, 0⟩]⟩,  -- SWARM_STATUS (R341)
  ⟨0x10FC, 4, 1, 4, 1, .single, [⟨0, 0, .rwl, 0⟩]⟩,  -- SWARM_LOCK (R56)
  ⟨0x1100, 4, 64, 4, 1, .single, [⟨11, 0, .rw, 0⟩, ⟨15, 15, .rw, 0⟩]⟩,  -- SWARM_PID (R341)
  ⟨0x2000, 16, 64, 4, 1, .single, [⟨0, 0, .rw, 0⟩, ⟨4, 1, .rw, 0⟩, ⟨11, 6, .rw, 0⟩]⟩,  -- SWARM_RSPAN_CFG (R341)
  ⟨0x2004, 16, 64, 4, 1, .single, [⟨17, 0, .rw, 0⟩]⟩,  -- SWARM_RSPAN_HPA (R341)
  ⟨0x2008, 16, 64, 4, 1, .single, [⟨11, 0, .rw, 0⟩]⟩,  -- SWARM_RSPAN_DPID (R341)
  ⟨0x4000, 4, 4096, 4, 1, .single, [⟨0, 0, .rw, 0⟩, ⟨1, 1, .rw, 0⟩, ⟨7, 2, .rw, 0⟩, ⟨13, 8, .rw, 0⟩, ⟨14, 14, .rw, 0⟩, ⟨17, 15, .rw, 0⟩, ⟨18, 18, .hw, 0⟩, ⟨19, 19, .hw, 0⟩, ⟨31, 20, .rw, 0⟩]⟩]  -- SWARM_RT (R341)

def laneRows_0 : List RegRow := [
  ⟨0x1000, 4, 1, 4, 1, .single, [⟨2, 0, .hw, 0⟩, ⟨3, 3, .hw, 0⟩, ⟨4, 4, .hw, 0⟩, ⟨5, 5, .hw, 0⟩, ⟨6, 6, .hw, 0⟩, ⟨7, 7, .hw, 0⟩, ⟨8, 8, .hw, 1⟩, ⟨9, 9, .hw, 0⟩, ⟨10, 10, .hw, 0⟩, ⟨19, 16, .hw, 0⟩, ⟨31, 24, .hw, 255⟩]⟩,  -- LANE_STATUS (R108)
  ⟨0x1004, 4, 1, 4, 1, .single, [⟨0, 0, .rwl, 0⟩, ⟨1, 1, .rwl, 0⟩]⟩,  -- LANE_CFG (R108)
  ⟨0x1008, 4, 1, 4, 1, .single, [⟨5, 0, .rwl, 32⟩, ⟨13, 8, .rwl, 14⟩, ⟨21, 16, .rwl, 30⟩]⟩,  -- LANE_FAIL_CFG (R108)
  ⟨0x100C, 4, 1, 4, 1, .single, [⟨7, 0, .rwl, 56⟩, ⟨15, 8, .rwl, 68⟩]⟩,  -- LANE_SNR_CFG (R108)
  ⟨0x1010, 4, 1, 4, 1, .single, [⟨4, 0, .hw, 0⟩, ⟨15, 8, .hw, 0⟩]⟩,  -- LANE_EQ_STATUS (R109)
  ⟨0x1014, 4, 1, 4, 1, .single, [⟨5, 0, .hw, 0⟩, ⟨13, 8, .hw, 0⟩, ⟨21, 16, .hw, 0⟩, ⟨29, 24, .hw, 0⟩]⟩,  -- LANE_TX_COEF (R109)
  ⟨0x1040, 4, 16, 4, 1, .single, [⟨7, 0, .hw, 0⟩]⟩,  -- LANE_FFE (R109)
  ⟨0x1080, 4, 4, 4, 1, .single, [⟨7, 0, .hw, 0⟩]⟩,  -- LANE_DFE (R109)
  ⟨0x10FC, 4, 1, 4, 1, .single, [⟨0, 0, .rwl, 0⟩]⟩,  -- LANE_LOCK (R109)
  ⟨0x1100, 4, 1, 4, 1, .single, [⟨3, 0, .wo, 0⟩, ⟨6, 4, .wo, 0⟩, ⟨10, 8, .wo, 0⟩]⟩,  -- LANE_TEST_CTL (R110)
  ⟨0x1104, 4, 1, 4, 1, .single, [⟨3, 0, .hw, 0⟩, ⟨7, 4, .hw, 0⟩, ⟨8, 8, .hw, 0⟩]⟩,  -- LANE_TEST_STATUS (R110)
  ⟨0x1200, 4, 1, 4, 1, .single, [⟨1, 0, .rw, 1⟩, ⟨13, 8, .rw, 20⟩]⟩]  -- LANE_EYE_CFG (R111)

def laneRows_1 : List RegRow := [
  ⟨0x1204, 4, 1, 4, 1, .single, [⟨1, 0, .wo, 0⟩]⟩,  -- LANE_EYE_CMD (R111)
  ⟨0x1208, 4, 1, 4, 1, .single, [⟨3, 0, .hw, 0⟩, ⟨29, 16, .hw, 0⟩]⟩,  -- LANE_EYE_STATUS (R111)
  ⟨0x1110, 4, 1, 4, 1, .low, [⟨31, 0, .hw, 0⟩]⟩,  -- LANE_PRBS_ERR_LO (R107)
  ⟨0x1114, 4, 1, 4, 1, .high, [⟨31, 0, .hw, 0⟩]⟩,  -- LANE_PRBS_ERR_HI (R107)
  ⟨0x1118, 4, 1, 4, 1, .low, [⟨31, 0, .hw, 0⟩]⟩,  -- LANE_PRBS_BITS_LO (R107)
  ⟨0x111C, 4, 1, 4, 1, .high, [⟨31, 0, .hw, 0⟩]⟩,  -- LANE_PRBS_BITS_HI (R107)
  ⟨0x8000, 4, 8192, 4, 1, .single, [⟨31, 0, .hw, 0⟩]⟩]  -- LANE_EYE_RESULT (R111)

/-- Registers of the lane block. -/
def laneRows : List RegRow := laneRows_0 ++ laneRows_1

def tlaneRows_0 : List RegRow := [
  ⟨0x1000, 4, 1, 4, 1, .single, [⟨2, 0, .hw, 0⟩, ⟨3, 3, .hw, 0⟩, ⟨4, 4, .hw, 0⟩, ⟨5, 5, .hw, 0⟩, ⟨6, 6, .hw, 0⟩, ⟨7, 7, .hw, 0⟩, ⟨8, 8, .hw, 1⟩, ⟨9, 9, .hw, 0⟩, ⟨10, 10, .hw, 0⟩, ⟨19, 16, .hw, 0⟩, ⟨31, 24, .hw, 255⟩]⟩,  -- LANE_STATUS (R108)
  ⟨0x1004, 4, 1, 4, 1, .single, [⟨0, 0, .rwl, 0⟩, ⟨1, 1, .rwl, 0⟩]⟩,  -- LANE_CFG (R108)
  ⟨0x1008, 4, 1, 4, 1, .single, [⟨5, 0, .rwl, 32⟩, ⟨13, 8, .rwl, 14⟩, ⟨21, 16, .rwl, 30⟩]⟩,  -- LANE_FAIL_CFG (R108)
  ⟨0x100C, 4, 1, 4, 1, .single, [⟨7, 0, .rwl, 56⟩, ⟨15, 8, .rwl, 68⟩]⟩,  -- LANE_SNR_CFG (R108)
  ⟨0x1010, 4, 1, 4, 1, .single, [⟨4, 0, .hw, 0⟩, ⟨15, 8, .hw, 0⟩]⟩,  -- LANE_EQ_STATUS (R109)
  ⟨0x1014, 4, 1, 4, 1, .single, [⟨5, 0, .hw, 0⟩, ⟨13, 8, .hw, 0⟩, ⟨21, 16, .hw, 0⟩, ⟨29, 24, .hw, 0⟩]⟩,  -- LANE_TX_COEF (R109)
  ⟨0x1018, 4, 1, 4, 1, .single, [⟨5, 0, .rwl, 0⟩, ⟨13, 8, .rwl, 4⟩, ⟨21, 16, .rwl, 51⟩, ⟨29, 24, .rwl, 8⟩]⟩,  -- LANE_TX_CFG (R109)
  ⟨0x1040, 4, 16, 4, 1, .single, [⟨7, 0, .hw, 0⟩]⟩,  -- LANE_FFE (R109)
  ⟨0x1080, 4, 4, 4, 1, .single, [⟨7, 0, .hw, 0⟩]⟩,  -- LANE_DFE (R109)
  ⟨0x10FC, 4, 1, 4, 1, .single, [⟨0, 0, .rwl, 0⟩]⟩,  -- LANE_LOCK (R109)
  ⟨0x1100, 4, 1, 4, 1, .single, [⟨3, 0, .wo, 0⟩, ⟨6, 4, .wo, 0⟩, ⟨10, 8, .wo, 0⟩]⟩,  -- LANE_TEST_CTL (R110)
  ⟨0x1104, 4, 1, 4, 1, .single, [⟨3, 0, .hw, 0⟩, ⟨7, 4, .hw, 0⟩, ⟨8, 8, .hw, 0⟩]⟩]  -- LANE_TEST_STATUS (R110)

def tlaneRows_1 : List RegRow := [
  ⟨0x1200, 4, 1, 4, 1, .single, [⟨1, 0, .rw, 1⟩, ⟨13, 8, .rw, 20⟩]⟩,  -- LANE_EYE_CFG (R111)
  ⟨0x1204, 4, 1, 4, 1, .single, [⟨1, 0, .wo, 0⟩]⟩,  -- LANE_EYE_CMD (R111)
  ⟨0x1208, 4, 1, 4, 1, .single, [⟨3, 0, .hw, 0⟩, ⟨29, 16, .hw, 0⟩]⟩,  -- LANE_EYE_STATUS (R111)
  ⟨0x1110, 4, 1, 4, 1, .low, [⟨31, 0, .hw, 0⟩]⟩,  -- LANE_PRBS_ERR_LO (R107)
  ⟨0x1114, 4, 1, 4, 1, .high, [⟨31, 0, .hw, 0⟩]⟩,  -- LANE_PRBS_ERR_HI (R107)
  ⟨0x1118, 4, 1, 4, 1, .low, [⟨31, 0, .hw, 0⟩]⟩,  -- LANE_PRBS_BITS_LO (R107)
  ⟨0x111C, 4, 1, 4, 1, .high, [⟨31, 0, .hw, 0⟩]⟩,  -- LANE_PRBS_BITS_HI (R107)
  ⟨0x8000, 4, 8192, 4, 1, .single, [⟨31, 0, .hw, 0⟩]⟩]  -- LANE_EYE_RESULT (R111)

/-- Registers of the tlane block. -/
def tlaneRows : List RegRow := tlaneRows_0 ++ tlaneRows_1

def wlaneRows_0 : List RegRow := [
  ⟨0x1000, 4, 1, 4, 1, .single, [⟨2, 0, .hw, 0⟩, ⟨3, 3, .hw, 0⟩, ⟨4, 4, .hw, 0⟩, ⟨5, 5, .hw, 0⟩, ⟨6, 6, .hw, 0⟩, ⟨7, 7, .hw, 0⟩, ⟨8, 8, .hw, 1⟩, ⟨9, 9, .hw, 0⟩, ⟨10, 10, .hw, 0⟩, ⟨19, 16, .hw, 0⟩, ⟨31, 24, .hw, 255⟩]⟩,  -- LANE_STATUS (R108)
  ⟨0x1004, 4, 1, 4, 1, .single, [⟨0, 0, .rwl, 0⟩, ⟨1, 1, .rwl, 0⟩]⟩,  -- LANE_CFG (R108)
  ⟨0x1008, 4, 1, 4, 1, .single, [⟨5, 0, .rwl, 32⟩, ⟨13, 8, .rwl, 14⟩, ⟨21, 16, .rwl, 30⟩]⟩,  -- LANE_FAIL_CFG (R108)
  ⟨0x100C, 4, 1, 4, 1, .single, [⟨7, 0, .rwl, 56⟩, ⟨15, 8, .rwl, 68⟩]⟩,  -- LANE_SNR_CFG (R108)
  ⟨0x1010, 4, 1, 4, 1, .single, [⟨4, 0, .hw, 0⟩, ⟨15, 8, .hw, 0⟩]⟩,  -- LANE_EQ_STATUS (R109)
  ⟨0x1014, 4, 1, 4, 1, .single, [⟨5, 0, .hw, 0⟩, ⟨13, 8, .hw, 0⟩, ⟨21, 16, .hw, 0⟩, ⟨29, 24, .hw, 0⟩]⟩,  -- LANE_TX_COEF (R109)
  ⟨0x1018, 4, 1, 4, 1, .single, [⟨5, 0, .rwl, 0⟩, ⟨13, 8, .rwl, 0⟩, ⟨21, 16, .rwl, 55⟩, ⟨29, 24, .rwl, 8⟩]⟩,  -- LANE_TX_CFG (R109)
  ⟨0x1040, 4, 16, 4, 1, .single, [⟨7, 0, .hw, 0⟩]⟩,  -- LANE_FFE (R109)
  ⟨0x1080, 4, 4, 4, 1, .single, [⟨7, 0, .hw, 0⟩]⟩,  -- LANE_DFE (R109)
  ⟨0x10FC, 4, 1, 4, 1, .single, [⟨0, 0, .rwl, 0⟩]⟩,  -- LANE_LOCK (R109)
  ⟨0x1100, 4, 1, 4, 1, .single, [⟨3, 0, .wo, 0⟩, ⟨6, 4, .wo, 0⟩, ⟨10, 8, .wo, 0⟩]⟩,  -- LANE_TEST_CTL (R110)
  ⟨0x1104, 4, 1, 4, 1, .single, [⟨3, 0, .hw, 0⟩, ⟨7, 4, .hw, 0⟩, ⟨8, 8, .hw, 0⟩]⟩]  -- LANE_TEST_STATUS (R110)

def wlaneRows_1 : List RegRow := [
  ⟨0x1200, 4, 1, 4, 1, .single, [⟨1, 0, .rw, 1⟩, ⟨13, 8, .rw, 20⟩]⟩,  -- LANE_EYE_CFG (R111)
  ⟨0x1204, 4, 1, 4, 1, .single, [⟨1, 0, .wo, 0⟩]⟩,  -- LANE_EYE_CMD (R111)
  ⟨0x1208, 4, 1, 4, 1, .single, [⟨3, 0, .hw, 0⟩, ⟨29, 16, .hw, 0⟩]⟩,  -- LANE_EYE_STATUS (R111)
  ⟨0x1110, 4, 1, 4, 1, .low, [⟨31, 0, .hw, 0⟩]⟩,  -- LANE_PRBS_ERR_LO (R107)
  ⟨0x1114, 4, 1, 4, 1, .high, [⟨31, 0, .hw, 0⟩]⟩,  -- LANE_PRBS_ERR_HI (R107)
  ⟨0x1118, 4, 1, 4, 1, .low, [⟨31, 0, .hw, 0⟩]⟩,  -- LANE_PRBS_BITS_LO (R107)
  ⟨0x111C, 4, 1, 4, 1, .high, [⟨31, 0, .hw, 0⟩]⟩,  -- LANE_PRBS_BITS_HI (R107)
  ⟨0x8000, 4, 8192, 4, 1, .single, [⟨31, 0, .hw, 0⟩]⟩]  -- LANE_EYE_RESULT (R111)

/-- Registers of the wlane block. -/
def wlaneRows : List RegRow := wlaneRows_0 ++ wlaneRows_1

def schedTblRows_0 : List RegRow := [
  ⟨0x0, 4, 32768, 4, 1, .single, [⟨7, 0, .rw, 16⟩]⟩,  -- LEAF (R211)
  ⟨0x60000, 32, 64, 4, 1, .single, [⟨7, 0, .rwl, 4⟩]⟩,  -- SVC_NODE (R211)
  ⟨0x60004, 32, 64, 4, 1, .single, [⟨7, 0, .rwl, 16⟩]⟩,  -- SVC_NODE (R211)
  ⟨0x60008, 32, 64, 4, 1, .single, [⟨7, 0, .rwl, 32⟩]⟩,  -- SVC_NODE (R211)
  ⟨0x6000C, 32, 64, 4, 1, .single, [⟨7, 0, .rwl, 32⟩]⟩,  -- SVC_NODE (R211)
  ⟨0x60010, 32, 64, 4, 1, .single, [⟨7, 0, .ro, 0⟩]⟩,  -- SVC_NODE (R211)
  ⟨0x60014, 32, 64, 4, 1, .single, [⟨7, 0, .ro, 0⟩]⟩,  -- SVC_NODE (R211)
  ⟨0x60018, 32, 64, 4, 1, .single, [⟨7, 0, .rwl, 16⟩]⟩,  -- SVC_NODE (R211)
  ⟨0x6001C, 32, 64, 4, 1, .single, [⟨7, 0, .rwl, 4⟩]⟩,  -- SVC_NODE (R211)
  ⟨0x20000, 64, 4096, 4, 1, .low, [⟨31, 0, .rw, 0⟩]⟩,  -- SUB_SHP_RATE_LO (R212)
  ⟨0x20004, 64, 4096, 4, 1, .high, [⟨31, 0, .rw, 0⟩]⟩,  -- SUB_SHP_RATE_HI (R212)
  ⟨0x20008, 64, 4096, 4, 1, .single, [⟨31, 0, .rw, 0x10000⟩]⟩]  -- SUB_SHP_BURST (R212)

def schedTblRows_1 : List RegRow := [
  ⟨0x2000C, 64, 4096, 4, 1, .single, [⟨0, 0, .rw, 0⟩, ⟨15, 8, .rw, 79⟩, ⟨16, 16, .hw, 0⟩]⟩,  -- SUB_SHP_CTL (R212)
  ⟨0x20010, 64, 4096, 4, 1, .low, [⟨31, 0, .rw, 0⟩]⟩,  -- SUB_POL_CIR_LO (R212)
  ⟨0x20014, 64, 4096, 4, 1, .high, [⟨31, 0, .rw, 0⟩]⟩,  -- SUB_POL_CIR_HI (R212)
  ⟨0x20018, 64, 4096, 4, 1, .low, [⟨31, 0, .rw, 0⟩]⟩,  -- SUB_POL_PIR_LO (R212)
  ⟨0x2001C, 64, 4096, 4, 1, .high, [⟨31, 0, .rw, 0⟩]⟩,  -- SUB_POL_PIR_HI (R212)
  ⟨0x20020, 64, 4096, 4, 1, .single, [⟨31, 0, .rw, 0x8000⟩]⟩,  -- SUB_POL_CBS (R212)
  ⟨0x20024, 64, 4096, 4, 1, .single, [⟨31, 0, .rw, 0x10000⟩]⟩,  -- SUB_POL_PBS (R212)
  ⟨0x20028, 64, 4096, 4, 1, .single, [⟨0, 0, .rw, 0⟩, ⟨16, 16, .hw, 0⟩]⟩,  -- SUB_POL_CTL (R212)
  ⟨0x70000, 32, 64, 4, 1, .low, [⟨31, 0, .rw, 0⟩]⟩,  -- PORT_SHP_RATE_LO (R213)
  ⟨0x70004, 32, 64, 4, 1, .high, [⟨31, 0, .rw, 0⟩]⟩,  -- PORT_SHP_RATE_HI (R213)
  ⟨0x70008, 32, 64, 4, 1, .single, [⟨31, 0, .rw, 0x10000⟩]⟩,  -- PORT_SHP_BURST (R213)
  ⟨0x7000C, 32, 64, 4, 1, .single, [⟨0, 0, .rw, 0⟩, ⟨16, 16, .hw, 0⟩]⟩]  -- PORT_SHP_CTL (R213)

def schedTblRows_2 : List RegRow := [
  ⟨0x70010, 32, 64, 4, 1, .single, [⟨7, 0, .rwl, 0⟩]⟩]  -- PORT_LEN (R213)

/-- Registers of the schedTbl block. -/
def schedTblRows : List RegRow := schedTblRows_0 ++ schedTblRows_1 ++ schedTblRows_2

/-- Registers of the hatRules block. -/
def hatRulesRows : List RegRow := [
  ⟨0x0, 64, 65536, 4, 1, .single, [⟨0, 0, .rw, 0⟩, ⟨1, 1, .rw, 0⟩, ⟨2, 2, .rw, 0⟩, ⟨3, 3, .rw, 0⟩, ⟨4, 4, .rw, 0⟩, ⟨5, 5, .rw, 0⟩, ⟨7, 6, .rw, 0⟩, ⟨15, 8, .rw, 0⟩, ⟨21, 16, .rw, 0⟩]⟩,  -- RULE_CTL (R301)
  ⟨0x4, 64, 65536, 4, 1, .low, [⟨31, 12, .rw, 0⟩]⟩,  -- RULE_BASE_LO (R301)
  ⟨0x8, 64, 65536, 4, 1, .high, [⟨19, 0, .rw, 0⟩]⟩,  -- RULE_BASE_HI (R301)
  ⟨0x10, 64, 65536, 4, 4, .single, [⟨11, 0, .rw, 0⟩, ⟨15, 15, .rw, 0⟩, ⟨27, 16, .rw, 0⟩, ⟨31, 31, .rw, 0⟩]⟩]  -- RULE_OWN (R301)

/-- Registers of the bindTbl block. -/
def bindTblRows : List RegRow := [
  ⟨0x0, 32, 4096, 4, 1, .single, [⟨2, 0, .hw, 7⟩, ⟨3, 3, .hw, 0⟩, ⟨15, 8, .hw, 0⟩, ⟨21, 16, .hw, 0⟩]⟩,  -- VPPB_STATE (R159)
  ⟨0x4, 32, 4096, 4, 1, .single, [⟨5, 0, .hw, 0⟩, ⟨7, 7, .hw, 0⟩, ⟨11, 8, .hw, 0⟩]⟩,  -- VPPB_TARGET (R159)
  ⟨0x8, 32, 4096, 4, 1, .single, [⟨11, 0, .rw, 0⟩]⟩,  -- VPPB_SUBID (R159)
  ⟨0xC, 32, 4096, 4, 1, .single, [⟨13, 0, .hw, 0⟩, ⟨29, 16, .hw, 0⟩]⟩,  -- VPPB_TRACK (R159)
  ⟨0x20000, 64, 64, 4, 1, .single, [⟨0, 0, .rw, 0⟩, ⟨13, 8, .rw, 0⟩, ⟨27, 16, .rw, 0⟩]⟩,  -- VCS_ENTRY_CFG (R160)
  ⟨0x20004, 64, 64, 4, 1, .single, [⟨8, 0, .rw, 0⟩]⟩,  -- VCS_ENTRY_SIZE (R160)
  ⟨0x20008, 64, 64, 4, 1, .single, [⟨1, 0, .hw, 0⟩, ⟨9, 2, .hw, 0⟩]⟩,  -- VCS_ENTRY_STATUS (R160)
  ⟨0x30000, 16, 1024, 4, 1, .single, [⟨0, 0, .hw, 0⟩, ⟨1, 1, .hw, 0⟩, ⟨27, 16, .hw, 0⟩]⟩,  -- LD_STATE (R161)
  ⟨0x40000, 64, 2048, 8, 2, .low, [⟨31, 0, .hw, 0⟩]⟩,  -- HDM_DECODER_LO (R162)
  ⟨0x40004, 64, 2048, 8, 2, .high, [⟨31, 0, .hw, 0⟩]⟩,  -- HDM_DECODER_HI (R162)
  ⟨0x40010, 64, 2048, 4, 1, .single, [⟨31, 0, .hw, 0⟩]⟩,  -- HDM_DECODER_CTL (R162)
  ⟨0x40014, 64, 2048, 4, 1, .low, [⟨31, 0, .hw, 0⟩]⟩,  -- HDM_DECODER_TGT_LO (R162)
  ⟨0x40018, 64, 2048, 4, 1, .high, [⟨31, 0, .hw, 0⟩]⟩,  -- HDM_DECODER_TGT_HI (R162)
  ⟨0x40020, 64, 2048, 4, 4, .single, [⟨31, 0, .hw, 0⟩]⟩]  -- HDM_TARGETS (R162)

/-- The rows of a block. -/
def blockRows : Block → List RegRow
  | .dev => devRows
  | .clk => clkRows
  | .boot => bootRows
  | .pwr => pwrRows
  | .flt => fltRows
  | .intc => intcRows
  | .mbx => mbxRows
  | .sec => secRows
  | .time => timeRows
  | .nvs => nvsRows
  | .perf => perfRows
  | .portg => portgRows
  | .ehr => ehrRows
  | .xbar => xbarRows
  | .buf => bufRows
  | .mcast => mcastRows
  | .sched => schedRows
  | .hat => hatRows
  | .vcs => vcsRows
  | .home => homeRows
  | .dirc => dircRows
  | .comb => combRows
  | .carb => carbRows
  | .pool => poolRows
  | .mover => moverRows
  | .dlog => dlogRows
  | .tdm => tdmRows
  | .waggle => waggleRows
  | .swarm => swarmRows
  | .lane => laneRows
  | .tlane => tlaneRows
  | .wlane => wlaneRows
  | .schedTbl => schedTblRows
  | .hatRules => hatRulesRows
  | .bindTbl => bindTblRows
  | .perfArr => []

/-- The block on a page, and the first page of its table for the table pages (R435, R436); none for an absent page. -/
def blockOf (pg : Nat) : Option (Block × Nat) :=
  if pg < 0x100 then
    if pg < 0x10 then
      match pg with
      | 0 => some (.dev, 0) | 1 => some (.clk, 1) | 2 => some (.boot, 2) | 3 => some (.pwr, 3) | 4 => some (.flt, 4)
      | 5 => some (.intc, 5) | 6 => some (.mbx, 6) | 7 => some (.sec, 7) | 8 => some (.time, 8) | 9 => some (.nvs, 9)
      | 10 => some (.perf, 10) | _ => none
    else if pg < 0x20 then some (.portg, pg)
    else if pg < 0x24 then some (.ehr, pg)
    else match pg with
      | 0x30 => some (.xbar, pg) | 0x31 => some (.buf, pg) | 0x32 => some (.mcast, pg) | 0x40 => some (.sched, pg)
      | 0x50 => some (.hat, pg) | 0x60 => some (.vcs, pg) | 0x70 => some (.home, pg) | 0x71 => some (.dirc, pg)
      | 0x80 => some (.comb, pg) | 0x81 => some (.carb, pg) | 0x82 => some (.pool, pg) | 0x90 => some (.mover, pg)
      | 0x91 => some (.dlog, pg) | 0xA0 => some (.tdm, pg) | 0xA1 => some (.waggle, pg) | 0xA2 => some (.swarm, pg)
      | _ => none
  else if pg < 0x200 then some (.lane, pg)
  else if pg < 0x208 then some (.tlane, pg)
  else if pg = 0x208 then some (.wlane, pg)
  else if pg < 0x400 then none
  else if pg < 0x408 then some (.schedTbl, 0x400)
  else if pg < 0x500 then none
  else if pg < 0x540 then some (.hatRules, 0x500)
  else if pg < 0x600 then none
  else if pg < 0x606 then some (.bindTbl, 0x600)
  else if (0x800 ≤ pg && pg ≤ 0x80B) || (0x810 ≤ pg && pg ≤ 0x817) || (0x820 ≤ pg && pg ≤ 0x827)
      || (0x830 ≤ pg && pg ≤ 0x832) || pg == 0x838 || pg == 0x83C || pg == 0x83D then some (.perfArr, pg)
  else none

/-- The page carries the common header (R436): every present page but the table pages. -/
def hasHeader : Block → Bool
  | .schedTbl | .hatRules | .bindTbl => false
  | _ => true

/-- First-error capture is in use on the page (R435). -/
def hasErrCap : Block → Bool
  | .intc | .mbx | .time | .perf | .pool | .waggle | .swarm | .lane | .perfArr | .schedTbl | .hatRules | .bindTbl => false
  | _ => true

/-- Does a row hold the register at offset o? -/
def RegRow.holds (r : RegRow) (o : Nat) : Bool :=
  decide (r.off ≤ o) && decide ((o - r.off) / r.s1 < r.n1) && decide ((o - r.off) % r.s1 / r.s2 < r.n2)
    && (o - r.off) % r.s1 % r.s2 == 0

/-- All rows of the page at block b: its header rows, its first-error rows and its own. -/
def pageRows (b : Block) : List RegRow :=
  (if hasHeader b then headerRows else []) ++ (if hasErrCap b then errcapRows else []) ++ blockRows b

/-- The register at a register-space byte offset (R5: none where no register lies). -/
def findRow (addr : Nat) : Option RegRow :=
  if addr % 4 ≠ 0 then none
  else match blockOf (addr / 0x10000) with
    | none => none
    | some (b, first) => (pageRows b).find? fun r => r.holds (addr - first * 0x10000)

/-- The reset word of a list of fields. -/
def fieldsReset : List RegField → Nat
  | [] => 0
  | f :: t => f.reset * 2 ^ f.lo + fieldsReset t

/-- Reset values the field maps give per index: VPPB_SUBID n (R159), FFE tap 3 (R109) and the NVS_PARAM words, which hold the
block of defaults with its CRC (R449, R450). -/
def indexedReset (addr : Nat) : Option Nat :=
  if 0x6000000 ≤ addr && addr < 0x6020000 && addr % 32 == 8 then some ((addr - 0x6000000) / 32)
  else if addr % 0x10000 == 0x104C && 0x1000000 ≤ addr && addr < 0x2090000 then some 0x40
  else match addr with
    | 0x91100 => some 0x3150564E
    | 0x91104 => some (10 + 100 * 2 ^ 8 + 2 * 2 ^ 16)
    | 0x91108 => some (170 + 50 * 2 ^ 8 + 2 ^ 17 + 10 * 2 ^ 24)
    | 0x9110C => some 0x157C16A8
    | 0x91110 => some 0xF230
    | 0x91114 => some (10 + 100 * 2 ^ 8)
    | 0x9113C => some 0x4348a243
    | _ => none

/-- The value a register holds after the reset of its block: what an unlisted register reads as (R10). -/
def resetWord (addr : Nat) : Word :=
  match findRow addr with
  | none => 0
  | some r => match indexedReset addr with
    | some v => BitVec.ofNat 32 v
    | none => BitVec.ofNat 32 (fieldsReset r.fields)

end Sys2Proof.Machine
end

