-- ==== Sys2Proof/Machine/RegNames.lean ====
section
/-! DEFINITION. Sys2Proof/Machine/RegNames.lean: every field of every register by the name the manual gives it, as the place
where it lies: register-space byte offset, lowest bit and width. Addr.X is the offset of register X, Fld.X_F its field F.
Arguments: i lane (main 0-255, Tandem 256 + j, Waggle 264), k port group, p port, t Ehrurn link, pg page, then the indices
of the register's own array. -/
namespace Sys2Proof.Machine

/-- The place of a field of a register. -/
structure Field where
  addr : Nat
  lo : Nat
  width : Nat
deriving DecidableEq, Repr

/-- The page of a lane in the numbering of LaneIx (R11). -/
def lanePage (i : Nat) : Nat := if i < 256 then 0x100 + i else 0x200 + (i - 256)

/-- PWR_HS_STATUS (R50). -/
def Addr.PWR_HS_STATUS : Nat := 0x31000
def Fld.PWR_HS_STATUS_STATE : Field := ⟨Addr.PWR_HS_STATUS, 0, 4⟩
def Fld.PWR_HS_STATUS_FEED_SEL : Field := ⟨Addr.PWR_HS_STATUS, 4, 2⟩
def Fld.PWR_HS_STATUS_SEAT_L : Field := ⟨Addr.PWR_HS_STATUS, 6, 1⟩
def Fld.PWR_HS_STATUS_SEAT_R : Field := ⟨Addr.PWR_HS_STATUS, 7, 1⟩
def Fld.PWR_HS_STATUS_PG : Field := ⟨Addr.PWR_HS_STATUS, 8, 1⟩
def Fld.PWR_HS_STATUS_ILIM_ACT : Field := ⟨Addr.PWR_HS_STATUS, 9, 1⟩
def Fld.PWR_HS_STATUS_FT_RUN : Field := ⟨Addr.PWR_HS_STATUS, 10, 1⟩
def Fld.PWR_HS_STATUS_FEED_A_QUAL : Field := ⟨Addr.PWR_HS_STATUS, 11, 1⟩
def Fld.PWR_HS_STATUS_FEED_B_QUAL : Field := ⟨Addr.PWR_HS_STATUS, 12, 1⟩
def Fld.PWR_HS_STATUS_COOLDOWN_SEEN : Field := ⟨Addr.PWR_HS_STATUS, 13, 1⟩
def Fld.PWR_HS_STATUS_FT_COUNT : Field := ⟨Addr.PWR_HS_STATUS, 16, 16⟩
/-- PWR_HS_CFG (R51). -/
def Addr.PWR_HS_CFG : Nat := 0x31004
def Fld.PWR_HS_CFG_ILIM : Field := ⟨Addr.PWR_HS_CFG, 0, 8⟩
def Fld.PWR_HS_CFG_FAULT_TIME : Field := ⟨Addr.PWR_HS_CFG, 8, 8⟩
/-- PWR_HS_BOOTCFG (R52). -/
def Addr.PWR_HS_BOOTCFG : Nat := 0x31008
def Fld.PWR_HS_BOOTCFG_SEAT_DEBOUNCE : Field := ⟨Addr.PWR_HS_BOOTCFG, 0, 7⟩
def Fld.PWR_HS_BOOTCFG_RETRY_TIME : Field := ⟨Addr.PWR_HS_BOOTCFG, 8, 8⟩
def Fld.PWR_HS_BOOTCFG_DVDT : Field := ⟨Addr.PWR_HS_BOOTCFG, 16, 3⟩
def Fld.PWR_HS_BOOTCFG_NV_PARAM_OK : Field := ⟨Addr.PWR_HS_BOOTCFG, 24, 1⟩
/-- PWR_FEED_CFG (R53). -/
def Addr.PWR_FEED_CFG : Nat := 0x3100C
def Fld.PWR_FEED_CFG_PREF : Field := ⟨Addr.PWR_FEED_CFG, 0, 1⟩
def Fld.PWR_FEED_CFG_REVERT_EN : Field := ⟨Addr.PWR_FEED_CFG, 1, 1⟩
def Fld.PWR_FEED_CFG_REVERT_DELAY : Field := ⟨Addr.PWR_FEED_CFG, 8, 8⟩
/-- PWR_FEED_THR (R53). -/
def Addr.PWR_FEED_THR : Nat := 0x31010
def Fld.PWR_FEED_THR_UV_RISE : Field := ⟨Addr.PWR_FEED_THR, 0, 16⟩
def Fld.PWR_FEED_THR_UV_FALL : Field := ⟨Addr.PWR_FEED_THR, 16, 16⟩
/-- PWR_FEED_OV (R53). -/
def Addr.PWR_FEED_OV : Nat := 0x31014
def Fld.PWR_FEED_OV_OV : Field := ⟨Addr.PWR_FEED_OV, 0, 16⟩
/-- PWR_MEAS_A (R54). -/
def Addr.PWR_MEAS_A : Nat := 0x31020
def Fld.PWR_MEAS_A_VOLT : Field := ⟨Addr.PWR_MEAS_A, 0, 16⟩
def Fld.PWR_MEAS_A_CURR : Field := ⟨Addr.PWR_MEAS_A, 16, 16⟩
/-- PWR_POWER_A (R54). -/
def Addr.PWR_POWER_A : Nat := 0x31028
def Fld.PWR_POWER_A_POWER : Field := ⟨Addr.PWR_POWER_A, 0, 32⟩
/-- PWR_ENERGY_A_LO (R54). -/
def Addr.PWR_ENERGY_A_LO : Nat := 0x31030
def Fld.PWR_ENERGY_A_LO_ENERGY : Field := ⟨Addr.PWR_ENERGY_A_LO, 0, 32⟩
/-- PWR_ENERGY_A_HI (R54). -/
def Addr.PWR_ENERGY_A_HI : Nat := 0x31034
def Fld.PWR_ENERGY_A_HI_ENERGY : Field := ⟨Addr.PWR_ENERGY_A_HI, 0, 32⟩
/-- PWR_MEAS_B (R54). -/
def Addr.PWR_MEAS_B : Nat := 0x31024
def Fld.PWR_MEAS_B_VOLT : Field := ⟨Addr.PWR_MEAS_B, 0, 16⟩
def Fld.PWR_MEAS_B_CURR : Field := ⟨Addr.PWR_MEAS_B, 16, 16⟩
/-- PWR_POWER_B (R54). -/
def Addr.PWR_POWER_B : Nat := 0x3102C
def Fld.PWR_POWER_B_POWER : Field := ⟨Addr.PWR_POWER_B, 0, 32⟩
/-- PWR_ENERGY_B_LO (R54). -/
def Addr.PWR_ENERGY_B_LO : Nat := 0x31038
def Fld.PWR_ENERGY_B_LO_ENERGY : Field := ⟨Addr.PWR_ENERGY_B_LO, 0, 32⟩
/-- PWR_ENERGY_B_HI (R54). -/
def Addr.PWR_ENERGY_B_HI : Nat := 0x3103C
def Fld.PWR_ENERGY_B_HI_ENERGY : Field := ⟨Addr.PWR_ENERGY_B_HI, 0, 32⟩
/-- PWR_LAST_FAULT (R55). -/
def Addr.PWR_LAST_FAULT : Nat := 0x31040
def Fld.PWR_LAST_FAULT_CAUSE : Field := ⟨Addr.PWR_LAST_FAULT, 0, 4⟩
def Fld.PWR_LAST_FAULT_STATE : Field := ⟨Addr.PWR_LAST_FAULT, 4, 4⟩
def Fld.PWR_LAST_FAULT_FEED : Field := ⟨Addr.PWR_LAST_FAULT, 8, 1⟩
/-- PWR_FAULT_COUNT (R55). -/
def Addr.PWR_FAULT_COUNT : Nat := 0x31044
def Fld.PWR_FAULT_COUNT_COUNT : Field := ⟨Addr.PWR_FAULT_COUNT, 0, 32⟩
/-- PWR_SWITCH_COUNT (R55). -/
def Addr.PWR_SWITCH_COUNT : Nat := 0x31048
def Fld.PWR_SWITCH_COUNT_COUNT : Field := ⟨Addr.PWR_SWITCH_COUNT, 0, 32⟩
/-- PWR_TEMP (R55). -/
def Addr.PWR_TEMP : Nat := 0x3104C
def Fld.PWR_TEMP_FET_A : Field := ⟨Addr.PWR_TEMP, 0, 8⟩
def Fld.PWR_TEMP_FET_B : Field := ⟨Addr.PWR_TEMP, 8, 8⟩
def Fld.PWR_TEMP_JMAX : Field := ⟨Addr.PWR_TEMP, 16, 8⟩
/-- PWR_LOCK (R56). -/
def Addr.PWR_LOCK : Nat := 0x310FC
def Fld.PWR_LOCK_LOCK : Field := ⟨Addr.PWR_LOCK, 0, 1⟩
/-- CLK_STATUS (R82). -/
def Addr.CLK_STATUS : Nat := 0x11000
def Fld.CLK_STATUS_REF_PRESENT : Field := ⟨Addr.CLK_STATUS, 0, 1⟩
def Fld.CLK_STATUS_REF_SRC : Field := ⟨Addr.CLK_STATUS, 1, 1⟩
def Fld.CLK_STATUS_PLL_LOCK : Field := ⟨Addr.CLK_STATUS, 8, 9⟩
/-- CLK_REF_CFG (R82). -/
def Addr.CLK_REF_CFG : Nat := 0x11004
def Fld.CLK_REF_CFG_SSC : Field := ⟨Addr.CLK_REF_CFG, 0, 1⟩
def Fld.CLK_REF_CFG_AUTO_REVERT : Field := ⟨Addr.CLK_REF_CFG, 1, 1⟩
/-- CLK_SETTLE (R82). -/
def Addr.CLK_SETTLE : Nat := 0x11008
def Fld.CLK_SETTLE_TCXO_SETTLE : Field := ⟨Addr.CLK_SETTLE, 0, 8⟩
def Fld.CLK_SETTLE_REFCLK_SETTLE : Field := ⟨Addr.CLK_SETTLE, 8, 8⟩
/-- CLK_STRAPS (R82). -/
def Addr.CLK_STRAPS : Nat := 0x1100C
def Fld.CLK_STRAPS_MOD_ID : Field := ⟨Addr.CLK_STRAPS, 0, 3⟩
def Fld.CLK_STRAPS_TANDEM_ROLE : Field := ⟨Addr.CLK_STRAPS, 3, 1⟩
def Fld.CLK_STRAPS_MOD_ID_LIVE : Field := ⟨Addr.CLK_STRAPS, 4, 3⟩
def Fld.CLK_STRAPS_ROLE_LIVE : Field := ⟨Addr.CLK_STRAPS, 7, 1⟩
/-- CLK_RESET (R82). -/
def Addr.CLK_RESET : Nat := 0x11010
def Fld.CLK_RESET_FABRIC_KEY : Field := ⟨Addr.CLK_RESET, 0, 8⟩
/-- CLK_LOCK (R82). -/
def Addr.CLK_LOCK : Nat := 0x110FC
def Fld.CLK_LOCK_LOCK : Field := ⟨Addr.CLK_LOCK, 0, 1⟩
/-- CLK_PG_MODE (R82). -/
def Addr.CLK_PG_MODE : Nat := 0x11014
def Fld.CLK_PG_MODE_PG0 : Field := ⟨Addr.CLK_PG_MODE, 0, 2⟩
def Fld.CLK_PG_MODE_PG1 : Field := ⟨Addr.CLK_PG_MODE, 2, 2⟩
def Fld.CLK_PG_MODE_PG2 : Field := ⟨Addr.CLK_PG_MODE, 4, 2⟩
def Fld.CLK_PG_MODE_PG3 : Field := ⟨Addr.CLK_PG_MODE, 6, 2⟩
def Fld.CLK_PG_MODE_PG4 : Field := ⟨Addr.CLK_PG_MODE, 8, 2⟩
def Fld.CLK_PG_MODE_PG5 : Field := ⟨Addr.CLK_PG_MODE, 10, 2⟩
def Fld.CLK_PG_MODE_PG6 : Field := ⟨Addr.CLK_PG_MODE, 12, 2⟩
def Fld.CLK_PG_MODE_PG7 : Field := ⟨Addr.CLK_PG_MODE, 14, 2⟩
def Fld.CLK_PG_MODE_PG8 : Field := ⟨Addr.CLK_PG_MODE, 16, 2⟩
def Fld.CLK_PG_MODE_PG9 : Field := ⟨Addr.CLK_PG_MODE, 18, 2⟩
def Fld.CLK_PG_MODE_PG10 : Field := ⟨Addr.CLK_PG_MODE, 20, 2⟩
def Fld.CLK_PG_MODE_PG11 : Field := ⟨Addr.CLK_PG_MODE, 22, 2⟩
def Fld.CLK_PG_MODE_PG12 : Field := ⟨Addr.CLK_PG_MODE, 24, 2⟩
def Fld.CLK_PG_MODE_PG13 : Field := ⟨Addr.CLK_PG_MODE, 26, 2⟩
def Fld.CLK_PG_MODE_PG14 : Field := ⟨Addr.CLK_PG_MODE, 28, 2⟩
def Fld.CLK_PG_MODE_PG15 : Field := ⟨Addr.CLK_PG_MODE, 30, 2⟩
/-- CLK_BRANCH (R82). -/
def Addr.CLK_BRANCH (n : Nat) : Nat := 0x11100 + 4 * n
def Fld.CLK_BRANCH_EN_RUN (n : Nat) : Field := ⟨Addr.CLK_BRANCH n, 0, 1⟩
def Fld.CLK_BRANCH_EN_SLEEP (n : Nat) : Field := ⟨Addr.CLK_BRANCH n, 1, 1⟩
def Fld.CLK_BRANCH_EN_DEEP (n : Nat) : Field := ⟨Addr.CLK_BRANCH n, 2, 1⟩
def Fld.CLK_BRANCH_FORCED (n : Nat) : Field := ⟨Addr.CLK_BRANCH n, 3, 1⟩
def Fld.CLK_BRANCH_MODE (n : Nat) : Field := ⟨Addr.CLK_BRANCH n, 4, 2⟩
def Fld.CLK_BRANCH_RUNNING (n : Nat) : Field := ⟨Addr.CLK_BRANCH n, 6, 1⟩
def Fld.CLK_BRANCH_REGION (n : Nat) : Field := ⟨Addr.CLK_BRANCH n, 8, 5⟩
/-- TIME_NOW_LO (R83). -/
def Addr.TIME_NOW_LO : Nat := 0x81000
def Fld.TIME_NOW_LO_NOW : Field := ⟨Addr.TIME_NOW_LO, 0, 32⟩
/-- TIME_NOW_HI (R83). -/
def Addr.TIME_NOW_HI : Nat := 0x81004
def Fld.TIME_NOW_HI_NOW : Field := ⟨Addr.TIME_NOW_HI, 0, 32⟩
/-- TIME_SET_LO (R83). -/
def Addr.TIME_SET_LO : Nat := 0x81008
def Fld.TIME_SET_LO_SET : Field := ⟨Addr.TIME_SET_LO, 0, 32⟩
/-- TIME_SET_HI (R83). -/
def Addr.TIME_SET_HI : Nat := 0x8100C
def Fld.TIME_SET_HI_SET : Field := ⟨Addr.TIME_SET_HI, 0, 32⟩
/-- TIME_CFG (R83). -/
def Addr.TIME_CFG : Nat := 0x81010
def Fld.TIME_CFG_FOLLOW_EN : Field := ⟨Addr.TIME_CFG, 0, 1⟩
/-- TIME_STATUS (R83). -/
def Addr.TIME_STATUS : Nat := 0x81014
def Fld.TIME_STATUS_SRC : Field := ⟨Addr.TIME_STATUS, 0, 1⟩
def Fld.TIME_STATUS_ALIGNED : Field := ⟨Addr.TIME_STATUS, 1, 1⟩
def Fld.TIME_STATUS_SLEWING : Field := ⟨Addr.TIME_STATUS, 2, 1⟩
def Fld.TIME_STATUS_OFFSET : Field := ⟨Addr.TIME_STATUS, 16, 16⟩
/-- TIME_LOCK (R83). -/
def Addr.TIME_LOCK : Nat := 0x810FC
def Fld.TIME_LOCK_LOCK : Field := ⟨Addr.TIME_LOCK, 0, 1⟩
/-- BOOT_STATUS (R84). -/
def Addr.BOOT_STATUS : Nat := 0x21000
def Fld.BOOT_STATUS_STAGE : Field := ⟨Addr.BOOT_STATUS, 0, 4⟩
def Fld.BOOT_STATUS_FABRIC_READY : Field := ⟨Addr.BOOT_STATUS, 4, 1⟩
def Fld.BOOT_STATUS_FAIL : Field := ⟨Addr.BOOT_STATUS, 5, 1⟩
def Fld.BOOT_STATUS_CAUSE : Field := ⟨Addr.BOOT_STATUS, 8, 8⟩
def Fld.BOOT_STATUS_FAIL_STAGE : Field := ⟨Addr.BOOT_STATUS, 16, 4⟩
/-- BOOT_SLOTS (R84). -/
def Addr.BOOT_SLOTS : Nat := 0x21004
def Fld.BOOT_SLOTS_FW_SLOT : Field := ⟨Addr.BOOT_SLOTS, 0, 1⟩
def Fld.BOOT_SLOTS_FW_FALLBACK : Field := ⟨Addr.BOOT_SLOTS, 1, 1⟩
def Fld.BOOT_SLOTS_FIXON_SLOT : Field := ⟨Addr.BOOT_SLOTS, 2, 1⟩
def Fld.BOOT_SLOTS_FIXON_FALLBACK : Field := ⟨Addr.BOOT_SLOTS, 3, 1⟩
def Fld.BOOT_SLOTS_VALID : Field := ⟨Addr.BOOT_SLOTS, 4, 4⟩
/-- BOOT_FIXON_GEN (R84). -/
def Addr.BOOT_FIXON_GEN : Nat := 0x21008
def Fld.BOOT_FIXON_GEN_GENERATION : Field := ⟨Addr.BOOT_FIXON_GEN, 0, 32⟩
/-- BOOT_FIXON_ERR (R84). -/
def Addr.BOOT_FIXON_ERR : Nat := 0x2100C
def Fld.BOOT_FIXON_ERR_RECORD : Field := ⟨Addr.BOOT_FIXON_ERR, 0, 32⟩
/-- BOOT_STAGE_T (R84). -/
def Addr.BOOT_STAGE_T (n : Nat) : Nat := 0x21010 + 4 * n
def Fld.BOOT_STAGE_T_TIME (n : Nat) : Field := ⟨Addr.BOOT_STAGE_T n, 0, 32⟩
/-- LANE_STATUS (R108). -/
def Addr.LANE_STATUS (i : Nat) : Nat := lanePage i * 0x10000 + 0x1000
def Fld.LANE_STATUS_RATE (i : Nat) : Field := ⟨Addr.LANE_STATUS i, 0, 3⟩
def Fld.LANE_STATUS_SIG_DET (i : Nat) : Field := ⟨Addr.LANE_STATUS i, 3, 1⟩
def Fld.LANE_STATUS_CDR_LOCK (i : Nat) : Field := ⟨Addr.LANE_STATUS i, 4, 1⟩
def Fld.LANE_STATUS_CAL_DONE (i : Nat) : Field := ⟨Addr.LANE_STATUS i, 5, 1⟩
def Fld.LANE_STATUS_ADAPTING (i : Nat) : Field := ⟨Addr.LANE_STATUS i, 6, 1⟩
def Fld.LANE_STATUS_POL_INV (i : Nat) : Field := ⟨Addr.LANE_STATUS i, 7, 1⟩
def Fld.LANE_STATUS_TX_IDLE (i : Nat) : Field := ⟨Addr.LANE_STATUS i, 8, 1⟩
def Fld.LANE_STATUS_LIVE (i : Nat) : Field := ⟨Addr.LANE_STATUS i, 9, 1⟩
def Fld.LANE_STATUS_FAILED (i : Nat) : Field := ⟨Addr.LANE_STATUS i, 10, 1⟩
def Fld.LANE_STATUS_FAIL_CAUSE (i : Nat) : Field := ⟨Addr.LANE_STATUS i, 16, 4⟩
def Fld.LANE_STATUS_PORT (i : Nat) : Field := ⟨Addr.LANE_STATUS i, 24, 8⟩
/-- LANE_CFG (R108). -/
def Addr.LANE_CFG (i : Nat) : Nat := lanePage i * 0x10000 + 0x1004
def Fld.LANE_CFG_PRECODE_REQ (i : Nat) : Field := ⟨Addr.LANE_CFG i, 0, 1⟩
def Fld.LANE_CFG_ADAPT_FREEZE (i : Nat) : Field := ⟨Addr.LANE_CFG i, 1, 1⟩
/-- LANE_FAIL_CFG (R108). -/
def Addr.LANE_FAIL_CFG (i : Nat) : Nat := lanePage i * 0x10000 + 0x1008
def Fld.LANE_FAIL_CFG_WIN (i : Nat) : Field := ⟨Addr.LANE_FAIL_CFG i, 0, 6⟩
def Fld.LANE_FAIL_CFG_LIMIT_FEC (i : Nat) : Field := ⟨Addr.LANE_FAIL_CFG i, 8, 6⟩
def Fld.LANE_FAIL_CFG_LIMIT_NRZ (i : Nat) : Field := ⟨Addr.LANE_FAIL_CFG i, 16, 6⟩
/-- LANE_SNR_CFG (R108). -/
def Addr.LANE_SNR_CFG (i : Nat) : Nat := lanePage i * 0x10000 + 0x100C
def Fld.LANE_SNR_CFG_SNR_FAIL_NRZ (i : Nat) : Field := ⟨Addr.LANE_SNR_CFG i, 0, 8⟩
def Fld.LANE_SNR_CFG_SNR_FAIL_PAM4 (i : Nat) : Field := ⟨Addr.LANE_SNR_CFG i, 8, 8⟩
/-- LANE_EQ_STATUS (R109). -/
def Addr.LANE_EQ_STATUS (i : Nat) : Nat := lanePage i * 0x10000 + 0x1010
def Fld.LANE_EQ_STATUS_CTLE (i : Nat) : Field := ⟨Addr.LANE_EQ_STATUS i, 0, 5⟩
def Fld.LANE_EQ_STATUS_SNR (i : Nat) : Field := ⟨Addr.LANE_EQ_STATUS i, 8, 8⟩
/-- LANE_TX_COEF (R109). -/
def Addr.LANE_TX_COEF (i : Nat) : Nat := lanePage i * 0x10000 + 0x1014
def Fld.LANE_TX_COEF_CM2 (i : Nat) : Field := ⟨Addr.LANE_TX_COEF i, 0, 6⟩
def Fld.LANE_TX_COEF_CM1 (i : Nat) : Field := ⟨Addr.LANE_TX_COEF i, 8, 6⟩
def Fld.LANE_TX_COEF_C0 (i : Nat) : Field := ⟨Addr.LANE_TX_COEF i, 16, 6⟩
def Fld.LANE_TX_COEF_CP1 (i : Nat) : Field := ⟨Addr.LANE_TX_COEF i, 24, 6⟩
/-- LANE_FFE (R109). -/
def Addr.LANE_FFE (i n : Nat) : Nat := lanePage i * 0x10000 + 0x1040 + 4 * n
def Fld.LANE_FFE_COEF (i n : Nat) : Field := ⟨Addr.LANE_FFE i n, 0, 8⟩
/-- LANE_DFE (R109). -/
def Addr.LANE_DFE (i n : Nat) : Nat := lanePage i * 0x10000 + 0x1080 + 4 * n
def Fld.LANE_DFE_COEF (i n : Nat) : Field := ⟨Addr.LANE_DFE i n, 0, 8⟩
/-- LANE_LOCK (R109). -/
def Addr.LANE_LOCK (i : Nat) : Nat := lanePage i * 0x10000 + 0x10FC
def Fld.LANE_LOCK_LOCK (i : Nat) : Field := ⟨Addr.LANE_LOCK i, 0, 1⟩
/-- LANE_TEST_CTL (R110). -/
def Addr.LANE_TEST_CTL (i : Nat) : Nat := lanePage i * 0x10000 + 0x1100
def Fld.LANE_TEST_CTL_OP (i : Nat) : Field := ⟨Addr.LANE_TEST_CTL i, 0, 4⟩
def Fld.LANE_TEST_CTL_PATTERN (i : Nat) : Field := ⟨Addr.LANE_TEST_CTL i, 4, 3⟩
def Fld.LANE_TEST_CTL_RATE (i : Nat) : Field := ⟨Addr.LANE_TEST_CTL i, 8, 3⟩
/-- LANE_TEST_STATUS (R110). -/
def Addr.LANE_TEST_STATUS (i : Nat) : Nat := lanePage i * 0x10000 + 0x1104
def Fld.LANE_TEST_STATUS_STATE (i : Nat) : Field := ⟨Addr.LANE_TEST_STATUS i, 0, 4⟩
def Fld.LANE_TEST_STATUS_OP (i : Nat) : Field := ⟨Addr.LANE_TEST_STATUS i, 4, 4⟩
def Fld.LANE_TEST_STATUS_PRBS_LOCK (i : Nat) : Field := ⟨Addr.LANE_TEST_STATUS i, 8, 1⟩
/-- LANE_EYE_CFG (R111). -/
def Addr.LANE_EYE_CFG (i : Nat) : Nat := lanePage i * 0x10000 + 0x1200
def Fld.LANE_EYE_CFG_EYE (i : Nat) : Field := ⟨Addr.LANE_EYE_CFG i, 0, 2⟩
def Fld.LANE_EYE_CFG_DWELL (i : Nat) : Field := ⟨Addr.LANE_EYE_CFG i, 8, 6⟩
/-- LANE_EYE_CMD (R111). -/
def Addr.LANE_EYE_CMD (i : Nat) : Nat := lanePage i * 0x10000 + 0x1204
def Fld.LANE_EYE_CMD_CMD (i : Nat) : Field := ⟨Addr.LANE_EYE_CMD i, 0, 2⟩
/-- LANE_EYE_STATUS (R111). -/
def Addr.LANE_EYE_STATUS (i : Nat) : Nat := lanePage i * 0x10000 + 0x1208
def Fld.LANE_EYE_STATUS_STATE (i : Nat) : Field := ⟨Addr.LANE_EYE_STATUS i, 0, 4⟩
def Fld.LANE_EYE_STATUS_POINTS (i : Nat) : Field := ⟨Addr.LANE_EYE_STATUS i, 16, 14⟩
/-- LANE_PRBS_ERR_LO (R107). -/
def Addr.LANE_PRBS_ERR_LO (i : Nat) : Nat := lanePage i * 0x10000 + 0x1110
def Fld.LANE_PRBS_ERR_LO_ERRORS (i : Nat) : Field := ⟨Addr.LANE_PRBS_ERR_LO i, 0, 32⟩
/-- LANE_PRBS_ERR_HI (R107). -/
def Addr.LANE_PRBS_ERR_HI (i : Nat) : Nat := lanePage i * 0x10000 + 0x1114
def Fld.LANE_PRBS_ERR_HI_ERRORS (i : Nat) : Field := ⟨Addr.LANE_PRBS_ERR_HI i, 0, 32⟩
/-- LANE_PRBS_BITS_LO (R107). -/
def Addr.LANE_PRBS_BITS_LO (i : Nat) : Nat := lanePage i * 0x10000 + 0x1118
def Fld.LANE_PRBS_BITS_LO_BITS (i : Nat) : Field := ⟨Addr.LANE_PRBS_BITS_LO i, 0, 32⟩
/-- LANE_PRBS_BITS_HI (R107). -/
def Addr.LANE_PRBS_BITS_HI (i : Nat) : Nat := lanePage i * 0x10000 + 0x111C
def Fld.LANE_PRBS_BITS_HI_BITS (i : Nat) : Field := ⟨Addr.LANE_PRBS_BITS_HI i, 0, 32⟩
/-- LANE_EYE_RESULT (R111). -/
def Addr.LANE_EYE_RESULT (i n : Nat) : Nat := lanePage i * 0x10000 + 0x8000 + 4 * n
def Fld.LANE_EYE_RESULT_ERRORS (i n : Nat) : Field := ⟨Addr.LANE_EYE_RESULT i n, 0, 32⟩
/-- LANE_TX_CFG (R109). -/
def Addr.LANE_TX_CFG (i : Nat) : Nat := lanePage i * 0x10000 + 0x1018
def Fld.LANE_TX_CFG_CM2 (i : Nat) : Field := ⟨Addr.LANE_TX_CFG i, 0, 6⟩
def Fld.LANE_TX_CFG_CM1 (i : Nat) : Field := ⟨Addr.LANE_TX_CFG i, 8, 6⟩
def Fld.LANE_TX_CFG_C0 (i : Nat) : Field := ⟨Addr.LANE_TX_CFG i, 16, 6⟩
def Fld.LANE_TX_CFG_CP1 (i : Nat) : Field := ⟨Addr.LANE_TX_CFG i, 24, 6⟩
/-- PORTG_CFG (R135). -/
def Addr.PORTG_CFG (k : Nat) : Nat := (0x10 + k) * 0x10000 + 0x1000
def Fld.PORTG_CFG_BIFUR (k : Nat) : Field := ⟨Addr.PORTG_CFG k, 0, 2⟩
/-- PORTG_STATUS (R135). -/
def Addr.PORTG_STATUS (k : Nat) : Nat := (0x10 + k) * 0x10000 + 0x1004
def Fld.PORTG_STATUS_BIFUR_ACT (k : Nat) : Field := ⟨Addr.PORTG_STATUS k, 0, 2⟩
def Fld.PORTG_STATUS_APPLYING (k : Nat) : Field := ⟨Addr.PORTG_STATUS k, 2, 1⟩
def Fld.PORTG_STATUS_CPRES (k : Nat) : Field := ⟨Addr.PORTG_STATUS k, 3, 1⟩
def Fld.PORTG_STATUS_PRESENT (k : Nat) : Field := ⟨Addr.PORTG_STATUS k, 4, 4⟩
/-- PORTG_LOCK (R135). -/
def Addr.PORTG_LOCK (k : Nat) : Nat := (0x10 + k) * 0x10000 + 0x10FC
def Fld.PORTG_LOCK_LOCK (k : Nat) : Field := ⟨Addr.PORTG_LOCK k, 0, 1⟩
/-- PORT_CFG (R136). -/
def Addr.PORT_CFG (p : Nat) : Nat := (0x10 + p / 4) * 0x10000 + 0x1100 + 0x100 * (p % 4)
def Fld.PORT_CFG_EN (p : Nat) : Field := ⟨Addr.PORT_CFG p, 0, 1⟩
def Fld.PORT_CFG_ROLE (p : Nat) : Field := ⟨Addr.PORT_CFG p, 1, 2⟩
def Fld.PORT_CFG_RATE (p : Nat) : Field := ⟨Addr.PORT_CFG p, 4, 3⟩
def Fld.PORT_CFG_FLIT (p : Nat) : Field := ⟨Addr.PORT_CFG p, 8, 2⟩
def Fld.PORT_CFG_PCIE_OK (p : Nat) : Field := ⟨Addr.PORT_CFG p, 10, 1⟩
def Fld.PORT_CFG_SRIS (p : Nat) : Field := ⟨Addr.PORT_CFG p, 11, 1⟩
def Fld.PORT_CFG_DSX_EN (p : Nat) : Field := ⟨Addr.PORT_CFG p, 12, 1⟩
/-- PORT_CTL (R136). -/
def Addr.PORT_CTL (p : Nat) : Nat := (0x10 + p / 4) * 0x10000 + 0x1104 + 0x100 * (p % 4)
def Fld.PORT_CTL_HOLD (p : Nat) : Field := ⟨Addr.PORT_CTL p, 0, 1⟩
def Fld.PORT_CTL_RETRAIN (p : Nat) : Field := ⟨Addr.PORT_CTL p, 1, 1⟩
/-- PORT_STATUS (R136). -/
def Addr.PORT_STATUS (p : Nat) : Nat := (0x10 + p / 4) * 0x10000 + 0x1108 + 0x100 * (p % 4)
def Fld.PORT_STATUS_LINK (p : Nat) : Field := ⟨Addr.PORT_STATUS p, 0, 4⟩
def Fld.PORT_STATUS_WIDTH (p : Nat) : Field := ⟨Addr.PORT_STATUS p, 4, 5⟩
def Fld.PORT_STATUS_RATE (p : Nat) : Field := ⟨Addr.PORT_STATUS p, 9, 3⟩
def Fld.PORT_STATUS_FLIT (p : Nat) : Field := ⟨Addr.PORT_STATUS p, 12, 2⟩
def Fld.PORT_STATUS_CXL (p : Nat) : Field := ⟨Addr.PORT_STATUS p, 14, 1⟩
def Fld.PORT_STATUS_CACHE (p : Nat) : Field := ⟨Addr.PORT_STATUS p, 15, 1⟩
def Fld.PORT_STATUS_MEM (p : Nat) : Field := ⟨Addr.PORT_STATUS p, 16, 1⟩
def Fld.PORT_STATUS_IDE_CM (p : Nat) : Field := ⟨Addr.PORT_STATUS p, 17, 1⟩
def Fld.PORT_STATUS_IDE_IO (p : Nat) : Field := ⟨Addr.PORT_STATUS p, 18, 1⟩
def Fld.PORT_STATUS_REVERSED (p : Nat) : Field := ⟨Addr.PORT_STATUS p, 19, 1⟩
def Fld.PORT_STATUS_HOLD_REASON (p : Nat) : Field := ⟨Addr.PORT_STATUS p, 20, 4⟩
def Fld.PORT_STATUS_PRESENT (p : Nat) : Field := ⟨Addr.PORT_STATUS p, 24, 1⟩
/-- PORT_DSX_CFG (R137). -/
def Addr.PORT_DSX_CFG (p : Nat) : Nat := (0x10 + p / 4) * 0x10000 + 0x1110 + 0x100 * (p % 4)
def Fld.PORT_DSX_CFG_TX_IDLE (p : Nat) : Field := ⟨Addr.PORT_DSX_CFG p, 0, 10⟩
def Fld.PORT_DSX_CFG_RX_IDLE (p : Nat) : Field := ⟨Addr.PORT_DSX_CFG p, 10, 10⟩
def Fld.PORT_DSX_CFG_RET (p : Nat) : Field := ⟨Addr.PORT_DSX_CFG p, 20, 10⟩
/-- PORT_DSX_CMD (R137). -/
def Addr.PORT_DSX_CMD (p : Nat) : Nat := (0x10 + p / 4) * 0x10000 + 0x1114 + 0x100 * (p % 4)
def Fld.PORT_DSX_CMD_CMD (p : Nat) : Field := ⟨Addr.PORT_DSX_CMD p, 0, 3⟩
/-- PORT_DSX_STATUS (R137). -/
def Addr.PORT_DSX_STATUS (p : Nat) : Nat := (0x10 + p / 4) * 0x10000 + 0x1118 + 0x100 * (p % 4)
def Fld.PORT_DSX_STATUS_NEG (p : Nat) : Field := ⟨Addr.PORT_DSX_STATUS p, 0, 1⟩
def Fld.PORT_DSX_STATUS_TX (p : Nat) : Field := ⟨Addr.PORT_DSX_STATUS p, 1, 3⟩
def Fld.PORT_DSX_STATUS_RX (p : Nat) : Field := ⟨Addr.PORT_DSX_STATUS p, 4, 3⟩
def Fld.PORT_DSX_STATUS_UPSTREAM (p : Nat) : Field := ⟨Addr.PORT_DSX_STATUS p, 7, 1⟩
def Fld.PORT_DSX_STATUS_LAST_NAK (p : Nat) : Field := ⟨Addr.PORT_DSX_STATUS p, 8, 3⟩
def Fld.PORT_DSX_STATUS_TIMEOUTS (p : Nat) : Field := ⟨Addr.PORT_DSX_STATUS p, 11, 2⟩
def Fld.PORT_DSX_STATUS_VER (p : Nat) : Field := ⟨Addr.PORT_DSX_STATUS p, 16, 4⟩
/-- VPPB_STATE (R159). -/
def Addr.VPPB_STATE (n : Nat) : Nat := 0x6000000 + 32 * n
def Fld.VPPB_STATE_STATE (n : Nat) : Field := ⟨Addr.VPPB_STATE n, 0, 3⟩
def Fld.VPPB_STATE_DPC (n : Nat) : Field := ⟨Addr.VPPB_STATE n, 3, 1⟩
def Fld.VPPB_STATE_GEN (n : Nat) : Field := ⟨Addr.VPPB_STATE n, 8, 8⟩
def Fld.VPPB_STATE_VCS (n : Nat) : Field := ⟨Addr.VPPB_STATE n, 16, 6⟩
/-- VPPB_TARGET (R159). -/
def Addr.VPPB_TARGET (n : Nat) : Nat := 0x6000004 + 32 * n
def Fld.VPPB_TARGET_PORT (n : Nat) : Field := ⟨Addr.VPPB_TARGET n, 0, 6⟩
def Fld.VPPB_TARGET_LD_VALID (n : Nat) : Field := ⟨Addr.VPPB_TARGET n, 7, 1⟩
def Fld.VPPB_TARGET_LD_ID (n : Nat) : Field := ⟨Addr.VPPB_TARGET n, 8, 4⟩
/-- VPPB_SUBID (R159). -/
def Addr.VPPB_SUBID (n : Nat) : Nat := 0x6000008 + 32 * n
def Fld.VPPB_SUBID_SUBID (n : Nat) : Field := ⟨Addr.VPPB_SUBID n, 0, 12⟩
/-- VPPB_TRACK (R159). -/
def Addr.VPPB_TRACK (n : Nat) : Nat := 0x600000C + 32 * n
def Fld.VPPB_TRACK_LIVE (n : Nat) : Field := ⟨Addr.VPPB_TRACK n, 0, 14⟩
def Fld.VPPB_TRACK_STALE (n : Nat) : Field := ⟨Addr.VPPB_TRACK n, 16, 14⟩
/-- VCS_ENTRY_CFG (R160). -/
def Addr.VCS_ENTRY_CFG (n : Nat) : Nat := 0x6020000 + 64 * n
def Fld.VCS_ENTRY_CFG_EN (n : Nat) : Field := ⟨Addr.VCS_ENTRY_CFG n, 0, 1⟩
def Fld.VCS_ENTRY_CFG_USP (n : Nat) : Field := ⟨Addr.VCS_ENTRY_CFG n, 8, 6⟩
def Fld.VCS_ENTRY_CFG_VPPB_BASE (n : Nat) : Field := ⟨Addr.VCS_ENTRY_CFG n, 16, 12⟩
/-- VCS_ENTRY_SIZE (R160). -/
def Addr.VCS_ENTRY_SIZE (n : Nat) : Nat := 0x6020004 + 64 * n
def Fld.VCS_ENTRY_SIZE_VPPB_COUNT (n : Nat) : Field := ⟨Addr.VCS_ENTRY_SIZE n, 0, 9⟩
/-- VCS_ENTRY_STATUS (R160). -/
def Addr.VCS_ENTRY_STATUS (n : Nat) : Nat := 0x6020008 + 64 * n
def Fld.VCS_ENTRY_STATUS_STATE (n : Nat) : Field := ⟨Addr.VCS_ENTRY_STATUS n, 0, 2⟩
def Fld.VCS_ENTRY_STATUS_BOUND (n : Nat) : Field := ⟨Addr.VCS_ENTRY_STATUS n, 2, 8⟩
/-- LD_STATE (R161). -/
def Addr.LD_STATE (n : Nat) : Nat := 0x6030000 + 16 * n
def Fld.LD_STATE_PRESENT (n : Nat) : Field := ⟨Addr.LD_STATE n, 0, 1⟩
def Fld.LD_STATE_BOUND (n : Nat) : Field := ⟨Addr.LD_STATE n, 1, 1⟩
def Fld.LD_STATE_VPPB (n : Nat) : Field := ⟨Addr.LD_STATE n, 16, 12⟩
/-- HDM_DECODER (R162). -/
def Addr.HDM_DECODER (n m : Nat) : Nat := 0x6040000 + 64 * n + 4 * m
def Fld.HDM_DECODER_WORD (n m : Nat) : Field := ⟨Addr.HDM_DECODER n m, 0, 32⟩
/-- HDM_TARGETS (R162). -/
def Addr.HDM_TARGETS (n m : Nat) : Nat := 0x6040020 + 64 * n + 4 * m
def Fld.HDM_TARGETS_WAYS (n m : Nat) : Field := ⟨Addr.HDM_TARGETS n m, 0, 32⟩
/-- VCS_CFG (R163). -/
def Addr.VCS_CFG : Nat := 0x601000
def Fld.VCS_CFG_QUAR : Field := ⟨Addr.VCS_CFG, 0, 10⟩
/-- VCS_STATUS (R163). -/
def Addr.VCS_STATUS : Nat := 0x601004
def Fld.VCS_STATUS_BUSY : Field := ⟨Addr.VCS_STATUS, 0, 1⟩
def Fld.VCS_STATUS_LAST_OP : Field := ⟨Addr.VCS_STATUS, 1, 2⟩
def Fld.VCS_STATUS_LAST_RC : Field := ⟨Addr.VCS_STATUS, 4, 4⟩
def Fld.VCS_STATUS_LAST_VPPB : Field := ⟨Addr.VCS_STATUS, 8, 12⟩
/-- VCS_FLUSH (R163). -/
def Addr.VCS_FLUSH : Nat := 0x601008
def Fld.VCS_FLUSH_ACTIVE : Field := ⟨Addr.VCS_FLUSH, 0, 13⟩
/-- VCS_LOCK (R163). -/
def Addr.VCS_LOCK : Nat := 0x6010FC
def Fld.VCS_LOCK_LOCK : Field := ⟨Addr.VCS_LOCK, 0, 1⟩
/-- XBAR_CFG (R188). -/
def Addr.XBAR_CFG : Nat := 0x301000
def Fld.XBAR_CFG_CUT_EN : Field := ⟨Addr.XBAR_CFG, 0, 16⟩
/-- XBAR_PRIV (R188). -/
def Addr.XBAR_PRIV : Nat := 0x301004
def Fld.XBAR_PRIV_HWM : Field := ⟨Addr.XBAR_PRIV, 0, 8⟩
/-- XBAR_LOCK (R56). -/
def Addr.XBAR_LOCK : Nat := 0x3010FC
def Fld.XBAR_LOCK_LOCK : Field := ⟨Addr.XBAR_LOCK, 0, 1⟩
/-- BUF_FREE (R189). -/
def Addr.BUF_FREE : Nat := 0x311000
def Fld.BUF_FREE_CELLS : Field := ⟨Addr.BUF_FREE, 0, 18⟩
/-- BUF_SFREE (R189). -/
def Addr.BUF_SFREE : Nat := 0x311004
def Fld.BUF_SFREE_CELLS : Field := ⟨Addr.BUF_SFREE, 0, 18⟩
/-- BUF_LOW_WATER (R189). -/
def Addr.BUF_LOW_WATER : Nat := 0x31100C
def Fld.BUF_LOW_WATER_CELLS : Field := ⟨Addr.BUF_LOW_WATER, 0, 18⟩
/-- BUF_STRAND (R189). -/
def Addr.BUF_STRAND : Nat := 0x311008
def Fld.BUF_STRAND_FREE : Field := ⟨Addr.BUF_STRAND, 0, 17⟩
/-- BUF_RED_CFG (R189). -/
def Addr.BUF_RED_CFG : Nat := 0x311010
def Fld.BUF_RED_CFG_W : Field := ⟨Addr.BUF_RED_CFG, 0, 4⟩
/-- BUF_QSEL (R189). -/
def Addr.BUF_QSEL : Nat := 0x311014
def Fld.BUF_QSEL_Q : Field := ⟨Addr.BUF_QSEL, 0, 15⟩
/-- BUF_QDEPTH (R189). -/
def Addr.BUF_QDEPTH : Nat := 0x311018
def Fld.BUF_QDEPTH_DEPTH : Field := ⟨Addr.BUF_QDEPTH, 0, 18⟩
def Fld.BUF_QDEPTH_STRANDS : Field := ⟨Addr.BUF_QDEPTH, 19, 7⟩
/-- BUF_NSEL (R189). -/
def Addr.BUF_NSEL : Nat := 0x31101C
def Fld.BUF_NSEL_PORT : Field := ⟨Addr.BUF_NSEL, 0, 6⟩
def Fld.BUF_NSEL_SVC : Field := ⟨Addr.BUF_NSEL, 8, 3⟩
/-- BUF_NOCC (R189). -/
def Addr.BUF_NOCC : Nat := 0x311020
def Fld.BUF_NOCC_OCC : Field := ⟨Addr.BUF_NOCC, 0, 18⟩
def Fld.BUF_NOCC_RSV : Field := ⟨Addr.BUF_NOCC, 18, 10⟩
/-- BUF_NAVG (R189). -/
def Addr.BUF_NAVG : Nat := 0x311024
def Fld.BUF_NAVG_AVG : Field := ⟨Addr.BUF_NAVG, 0, 18⟩
/-- BUF_SVC_MIN (R189). -/
def Addr.BUF_SVC_MIN (n : Nat) : Nat := 0x311040 + 4 * n
def Fld.BUF_SVC_MIN_MIN (n : Nat) : Field := ⟨Addr.BUF_SVC_MIN n, 0, 10⟩
/-- BUF_RED (R189). -/
def Addr.BUF_RED (n : Nat) : Nat := 0x311100 + 4 * n
def Fld.BUF_RED_MIN_TH (n : Nat) : Field := ⟨Addr.BUF_RED n, 0, 12⟩
def Fld.BUF_RED_MAX_TH (n : Nat) : Field := ⟨Addr.BUF_RED n, 12, 12⟩
def Fld.BUF_RED_MAX_P (n : Nat) : Field := ⟨Addr.BUF_RED n, 24, 8⟩
/-- BUF_RED_SEL (R189). -/
def Addr.BUF_RED_SEL (n : Nat) : Nat := 0x311200 + 4 * n
def Fld.BUF_RED_SEL_SET0 (n : Nat) : Field := ⟨Addr.BUF_RED_SEL n, 0, 2⟩
def Fld.BUF_RED_SEL_SET1 (n : Nat) : Field := ⟨Addr.BUF_RED_SEL n, 2, 2⟩
def Fld.BUF_RED_SEL_SET2 (n : Nat) : Field := ⟨Addr.BUF_RED_SEL n, 4, 2⟩
def Fld.BUF_RED_SEL_SET3 (n : Nat) : Field := ⟨Addr.BUF_RED_SEL n, 6, 2⟩
def Fld.BUF_RED_SEL_SET4 (n : Nat) : Field := ⟨Addr.BUF_RED_SEL n, 8, 2⟩
def Fld.BUF_RED_SEL_SET5 (n : Nat) : Field := ⟨Addr.BUF_RED_SEL n, 10, 2⟩
def Fld.BUF_RED_SEL_SET6 (n : Nat) : Field := ⟨Addr.BUF_RED_SEL n, 12, 2⟩
def Fld.BUF_RED_SEL_SET7 (n : Nat) : Field := ⟨Addr.BUF_RED_SEL n, 14, 2⟩
def Fld.BUF_RED_SEL_SET8 (n : Nat) : Field := ⟨Addr.BUF_RED_SEL n, 16, 2⟩
def Fld.BUF_RED_SEL_SET9 (n : Nat) : Field := ⟨Addr.BUF_RED_SEL n, 18, 2⟩
def Fld.BUF_RED_SEL_SET10 (n : Nat) : Field := ⟨Addr.BUF_RED_SEL n, 20, 2⟩
def Fld.BUF_RED_SEL_SET11 (n : Nat) : Field := ⟨Addr.BUF_RED_SEL n, 22, 2⟩
def Fld.BUF_RED_SEL_SET12 (n : Nat) : Field := ⟨Addr.BUF_RED_SEL n, 24, 2⟩
def Fld.BUF_RED_SEL_SET13 (n : Nat) : Field := ⟨Addr.BUF_RED_SEL n, 26, 2⟩
def Fld.BUF_RED_SEL_SET14 (n : Nat) : Field := ⟨Addr.BUF_RED_SEL n, 28, 2⟩
def Fld.BUF_RED_SEL_SET15 (n : Nat) : Field := ⟨Addr.BUF_RED_SEL n, 30, 2⟩
/-- BUF_LOCK (R56). -/
def Addr.BUF_LOCK : Nat := 0x3110FC
def Fld.BUF_LOCK_LOCK : Field := ⟨Addr.BUF_LOCK, 0, 1⟩
/-- BUF_ALPHA (R189). -/
def Addr.BUF_ALPHA (n : Nat) : Nat := 0x318000 + 4 * n
def Fld.BUF_ALPHA_ALPHA0 (n : Nat) : Field := ⟨Addr.BUF_ALPHA n, 0, 4⟩
def Fld.BUF_ALPHA_ALPHA1 (n : Nat) : Field := ⟨Addr.BUF_ALPHA n, 4, 4⟩
def Fld.BUF_ALPHA_ALPHA2 (n : Nat) : Field := ⟨Addr.BUF_ALPHA n, 8, 4⟩
def Fld.BUF_ALPHA_ALPHA3 (n : Nat) : Field := ⟨Addr.BUF_ALPHA n, 12, 4⟩
def Fld.BUF_ALPHA_ALPHA4 (n : Nat) : Field := ⟨Addr.BUF_ALPHA n, 16, 4⟩
def Fld.BUF_ALPHA_ALPHA5 (n : Nat) : Field := ⟨Addr.BUF_ALPHA n, 20, 4⟩
def Fld.BUF_ALPHA_ALPHA6 (n : Nat) : Field := ⟨Addr.BUF_ALPHA n, 24, 4⟩
def Fld.BUF_ALPHA_ALPHA7 (n : Nat) : Field := ⟨Addr.BUF_ALPHA n, 28, 4⟩
/-- MCAST_STATUS (R190). -/
def Addr.MCAST_STATUS : Nat := 0x321000
def Fld.MCAST_STATUS_CELLS : Field := ⟨Addr.MCAST_STATUS, 0, 18⟩
/-- MCAST_LOCK (R56). -/
def Addr.MCAST_LOCK : Nat := 0x3210FC
def Fld.MCAST_LOCK_LOCK : Field := ⟨Addr.MCAST_LOCK, 0, 1⟩
/-- MC_GROUP_LO (R190). -/
def Addr.MC_GROUP_LO (n : Nat) : Nat := 0x322000 + 16 * n
def Fld.MC_GROUP_LO_MASK (n : Nat) : Field := ⟨Addr.MC_GROUP_LO n, 0, 32⟩
/-- MC_GROUP_HI (R190). -/
def Addr.MC_GROUP_HI (n : Nat) : Nat := 0x322004 + 16 * n
def Fld.MC_GROUP_HI_MASK (n : Nat) : Field := ⟨Addr.MC_GROUP_HI n, 0, 32⟩
/-- MC_GROUP_CFG (R190). -/
def Addr.MC_GROUP_CFG (n : Nat) : Nat := 0x322008 + 16 * n
def Fld.MC_GROUP_CFG_EN (n : Nat) : Field := ⟨Addr.MC_GROUP_CFG n, 0, 1⟩
/-- EHR_STATUS (R191). -/
def Addr.EHR_STATUS (t : Nat) : Nat := (0x20 + t) * 0x10000 + 0x1000
def Fld.EHR_STATUS_STATE (t : Nat) : Field := ⟨Addr.EHR_STATUS t, 0, 2⟩
def Fld.EHR_STATUS_REPLAYING (t : Nat) : Field := ⟨Addr.EHR_STATUS t, 2, 1⟩
def Fld.EHR_STATUS_SPARES (t : Nat) : Field := ⟨Addr.EHR_STATUS t, 8, 8⟩
def Fld.EHR_STATUS_FAIL_MOD (t : Nat) : Field := ⟨Addr.EHR_STATUS t, 16, 5⟩
def Fld.EHR_STATUS_FAIL_DIR (t : Nat) : Field := ⟨Addr.EHR_STATUS t, 21, 1⟩
/-- EHR_REPAIR (R191). -/
def Addr.EHR_REPAIR (t n : Nat) : Nat := (0x20 + t) * 0x10000 + 0x1040 + 4 * n
def Fld.EHR_REPAIR_USED (t n : Nat) : Field := ⟨Addr.EHR_REPAIR t n, 0, 3⟩
def Fld.EHR_REPAIR_CLK_SPARE (t n : Nat) : Field := ⟨Addr.EHR_REPAIR t n, 3, 1⟩
def Fld.EHR_REPAIR_WIRE0 (t n : Nat) : Field := ⟨Addr.EHR_REPAIR t n, 4, 6⟩
def Fld.EHR_REPAIR_WIRE1 (t n : Nat) : Field := ⟨Addr.EHR_REPAIR t n, 10, 6⟩
def Fld.EHR_REPAIR_WIRE2 (t n : Nat) : Field := ⟨Addr.EHR_REPAIR t n, 16, 6⟩
def Fld.EHR_REPAIR_WIRE3 (t n : Nat) : Field := ⟨Addr.EHR_REPAIR t n, 22, 6⟩
/-- EHR_LOCK (R56). -/
def Addr.EHR_LOCK (t : Nat) : Nat := (0x20 + t) * 0x10000 + 0x10FC
def Fld.EHR_LOCK_LOCK (t : Nat) : Field := ⟨Addr.EHR_LOCK t, 0, 1⟩
/-- SCHED_STATUS (R209). -/
def Addr.SCHED_STATUS : Nat := 0x401000
def Fld.SCHED_STATUS_PENDING : Field := ⟨Addr.SCHED_STATUS, 0, 13⟩
/-- SCHED_TSEL (R209). -/
def Addr.SCHED_TSEL : Nat := 0x401004
def Fld.SCHED_TSEL_INDEX : Field := ⟨Addr.SCHED_TSEL, 0, 12⟩
def Fld.SCHED_TSEL_KIND : Field := ⟨Addr.SCHED_TSEL, 12, 2⟩
def Fld.SCHED_TSEL_TILE : Field := ⟨Addr.SCHED_TSEL, 14, 2⟩
/-- SCHED_TOK_LO (R209). -/
def Addr.SCHED_TOK_LO : Nat := 0x401008
def Fld.SCHED_TOK_LO_COUNT : Field := ⟨Addr.SCHED_TOK_LO, 0, 32⟩
/-- SCHED_TOK_HI (R209). -/
def Addr.SCHED_TOK_HI : Nat := 0x40100C
def Fld.SCHED_TOK_HI_COUNT : Field := ⟨Addr.SCHED_TOK_HI, 0, 32⟩
/-- SCHED_TOK2_LO (R209). -/
def Addr.SCHED_TOK2_LO : Nat := 0x401010
def Fld.SCHED_TOK2_LO_COUNT : Field := ⟨Addr.SCHED_TOK2_LO, 0, 32⟩
/-- SCHED_TOK2_HI (R209). -/
def Addr.SCHED_TOK2_HI : Nat := 0x401014
def Fld.SCHED_TOK2_HI_COUNT : Field := ⟨Addr.SCHED_TOK2_HI, 0, 32⟩
/-- SCHED_LOCK (R209). -/
def Addr.SCHED_LOCK : Nat := 0x4010FC
def Fld.SCHED_LOCK_LOCK : Field := ⟨Addr.SCHED_LOCK, 0, 1⟩
/-- LEAF (R211). -/
def Addr.LEAF (n : Nat) : Nat := 0x4000000 + 4 * n
def Fld.LEAF_WEIGHT (n : Nat) : Field := ⟨Addr.LEAF n, 0, 8⟩
/-- SVC_NODE (R211). -/
def Addr.SVC_NODE (n m : Nat) : Nat := 0x4060000 + 32 * n + 4 * m
def Fld.SVC_NODE_WEIGHT (n m : Nat) : Field := ⟨Addr.SVC_NODE n m, 0, 8⟩
/-- SUB_SHP_RATE_LO (R212). -/
def Addr.SUB_SHP_RATE_LO (n : Nat) : Nat := 0x4020000 + 64 * n
def Fld.SUB_SHP_RATE_LO_RATE (n : Nat) : Field := ⟨Addr.SUB_SHP_RATE_LO n, 0, 32⟩
/-- SUB_SHP_RATE_HI (R212). -/
def Addr.SUB_SHP_RATE_HI (n : Nat) : Nat := 0x4020004 + 64 * n
def Fld.SUB_SHP_RATE_HI_RATE (n : Nat) : Field := ⟨Addr.SUB_SHP_RATE_HI n, 0, 32⟩
/-- SUB_SHP_BURST (R212). -/
def Addr.SUB_SHP_BURST (n : Nat) : Nat := 0x4020008 + 64 * n
def Fld.SUB_SHP_BURST_BURST (n : Nat) : Field := ⟨Addr.SUB_SHP_BURST n, 0, 32⟩
/-- SUB_SHP_CTL (R212). -/
def Addr.SUB_SHP_CTL (n : Nat) : Nat := 0x402000C + 64 * n
def Fld.SUB_SHP_CTL_EN (n : Nat) : Field := ⟨Addr.SUB_SHP_CTL n, 0, 1⟩
def Fld.SUB_SHP_CTL_SVC_MASK (n : Nat) : Field := ⟨Addr.SUB_SHP_CTL n, 8, 8⟩
def Fld.SUB_SHP_CTL_PENDING (n : Nat) : Field := ⟨Addr.SUB_SHP_CTL n, 16, 1⟩
/-- SUB_POL_CIR_LO (R212). -/
def Addr.SUB_POL_CIR_LO (n : Nat) : Nat := 0x4020010 + 64 * n
def Fld.SUB_POL_CIR_LO_CIR (n : Nat) : Field := ⟨Addr.SUB_POL_CIR_LO n, 0, 32⟩
/-- SUB_POL_CIR_HI (R212). -/
def Addr.SUB_POL_CIR_HI (n : Nat) : Nat := 0x4020014 + 64 * n
def Fld.SUB_POL_CIR_HI_CIR (n : Nat) : Field := ⟨Addr.SUB_POL_CIR_HI n, 0, 32⟩
/-- SUB_POL_PIR_LO (R212). -/
def Addr.SUB_POL_PIR_LO (n : Nat) : Nat := 0x4020018 + 64 * n
def Fld.SUB_POL_PIR_LO_PIR (n : Nat) : Field := ⟨Addr.SUB_POL_PIR_LO n, 0, 32⟩
/-- SUB_POL_PIR_HI (R212). -/
def Addr.SUB_POL_PIR_HI (n : Nat) : Nat := 0x402001C + 64 * n
def Fld.SUB_POL_PIR_HI_PIR (n : Nat) : Field := ⟨Addr.SUB_POL_PIR_HI n, 0, 32⟩
/-- SUB_POL_CBS (R212). -/
def Addr.SUB_POL_CBS (n : Nat) : Nat := 0x4020020 + 64 * n
def Fld.SUB_POL_CBS_CBS (n : Nat) : Field := ⟨Addr.SUB_POL_CBS n, 0, 32⟩
/-- SUB_POL_PBS (R212). -/
def Addr.SUB_POL_PBS (n : Nat) : Nat := 0x4020024 + 64 * n
def Fld.SUB_POL_PBS_PBS (n : Nat) : Field := ⟨Addr.SUB_POL_PBS n, 0, 32⟩
/-- SUB_POL_CTL (R212). -/
def Addr.SUB_POL_CTL (n : Nat) : Nat := 0x4020028 + 64 * n
def Fld.SUB_POL_CTL_EN (n : Nat) : Field := ⟨Addr.SUB_POL_CTL n, 0, 1⟩
def Fld.SUB_POL_CTL_PENDING (n : Nat) : Field := ⟨Addr.SUB_POL_CTL n, 16, 1⟩
/-- PORT_SHP_RATE_LO (R213). -/
def Addr.PORT_SHP_RATE_LO (n : Nat) : Nat := 0x4070000 + 32 * n
def Fld.PORT_SHP_RATE_LO_RATE (n : Nat) : Field := ⟨Addr.PORT_SHP_RATE_LO n, 0, 32⟩
/-- PORT_SHP_RATE_HI (R213). -/
def Addr.PORT_SHP_RATE_HI (n : Nat) : Nat := 0x4070004 + 32 * n
def Fld.PORT_SHP_RATE_HI_RATE (n : Nat) : Field := ⟨Addr.PORT_SHP_RATE_HI n, 0, 32⟩
/-- PORT_SHP_BURST (R213). -/
def Addr.PORT_SHP_BURST (n : Nat) : Nat := 0x4070008 + 32 * n
def Fld.PORT_SHP_BURST_BURST (n : Nat) : Field := ⟨Addr.PORT_SHP_BURST n, 0, 32⟩
/-- PORT_SHP_CTL (R213). -/
def Addr.PORT_SHP_CTL (n : Nat) : Nat := 0x407000C + 32 * n
def Fld.PORT_SHP_CTL_EN (n : Nat) : Field := ⟨Addr.PORT_SHP_CTL n, 0, 1⟩
def Fld.PORT_SHP_CTL_PENDING (n : Nat) : Field := ⟨Addr.PORT_SHP_CTL n, 16, 1⟩
/-- PORT_LEN (R213). -/
def Addr.PORT_LEN (n : Nat) : Nat := 0x4070010 + 32 * n
def Fld.PORT_LEN_OVH_BYTES (n : Nat) : Field := ⟨Addr.PORT_LEN n, 0, 8⟩
/-- HOME_CFG (R241). -/
def Addr.HOME_CFG : Nat := 0x701000
def Fld.HOME_CFG_EN : Field := ⟨Addr.HOME_CFG, 0, 1⟩
def Fld.HOME_CFG_SWEEP_CONC : Field := ⟨Addr.HOME_CFG, 8, 8⟩
/-- HOME_STATUS (R241). -/
def Addr.HOME_STATUS : Nat := 0x701004
def Fld.HOME_STATUS_CQ_USED : Field := ⟨Addr.HOME_STATUS, 0, 14⟩
def Fld.HOME_STATUS_SNOOP_USED : Field := ⟨Addr.HOME_STATUS, 14, 13⟩
/-- HOME_FWD_STATUS (R241). -/
def Addr.HOME_FWD_STATUS : Nat := 0x701008
def Fld.HOME_FWD_STATUS_FWD_USED : Field := ⟨Addr.HOME_FWD_STATUS, 0, 15⟩
/-- HOME_CQ_HWM (R241). -/
def Addr.HOME_CQ_HWM : Nat := 0x70100C
def Fld.HOME_CQ_HWM_HWM : Field := ⟨Addr.HOME_CQ_HWM, 0, 14⟩
/-- HOME_SWEEP (R241). -/
def Addr.HOME_SWEEP : Nat := 0x701010
def Fld.HOME_SWEEP_HIVES : Field := ⟨Addr.HOME_SWEEP, 0, 16⟩
/-- HOME_LOCK (R56). -/
def Addr.HOME_LOCK : Nat := 0x7010FC
def Fld.HOME_LOCK_LOCK : Field := ⟨Addr.HOME_LOCK, 0, 1⟩
/-- HIVE_CTL (R242). -/
def Addr.HIVE_CTL (n : Nat) : Nat := 0x702000 + 128 * n
def Fld.HIVE_CTL_EN (n : Nat) : Field := ⟨Addr.HIVE_CTL n, 0, 1⟩
def Fld.HIVE_CTL_DOWN (n : Nat) : Field := ⟨Addr.HIVE_CTL n, 1, 1⟩
def Fld.HIVE_CTL_RECOVERED (n : Nat) : Field := ⟨Addr.HIVE_CTL n, 2, 1⟩
/-- HIVE_CFG (R242). -/
def Addr.HIVE_CFG (n : Nat) : Nat := 0x702004 + 128 * n
def Fld.HIVE_CFG_SPAN (n : Nat) : Field := ⟨Addr.HIVE_CFG n, 0, 4⟩
def Fld.HIVE_CFG_TAIL_ACTION (n : Nat) : Field := ⟨Addr.HIVE_CFG n, 4, 1⟩
/-- HIVE_HOLD (R242). -/
def Addr.HIVE_HOLD (n : Nat) : Nat := 0x702008 + 128 * n
def Fld.HIVE_HOLD_HOLD_NS (n : Nat) : Field := ⟨Addr.HIVE_HOLD n, 0, 14⟩
/-- HIVE_BITO (R242). -/
def Addr.HIVE_BITO (n : Nat) : Nat := 0x70200C + 128 * n
def Fld.HIVE_BITO_BI_TIMEOUT (n : Nat) : Field := ⟨Addr.HIVE_BITO n, 0, 20⟩
/-- HIVE_DIR (R242). -/
def Addr.HIVE_DIR (n : Nat) : Nat := 0x702010 + 128 * n
def Fld.HIVE_DIR_SET_BASE (n : Nat) : Field := ⟨Addr.HIVE_DIR n, 0, 7⟩
def Fld.HIVE_DIR_SET_COUNT (n : Nat) : Field := ⟨Addr.HIVE_DIR n, 8, 8⟩
/-- HIVE_BKT (R242). -/
def Addr.HIVE_BKT (n : Nat) : Nat := 0x702014 + 128 * n
def Fld.HIVE_BKT_BKT_BASE (n : Nat) : Field := ⟨Addr.HIVE_BKT n, 0, 9⟩
def Fld.HIVE_BKT_BKT_COUNT (n : Nat) : Field := ⟨Addr.HIVE_BKT n, 16, 10⟩
/-- HIVE_STATUS (R242). -/
def Addr.HIVE_STATUS (n : Nat) : Nat := 0x702018 + 128 * n
def Fld.HIVE_STATUS_STATE (n : Nat) : Field := ⟨Addr.HIVE_STATUS n, 0, 3⟩
def Fld.HIVE_STATUS_TAIL (n : Nat) : Field := ⟨Addr.HIVE_STATUS n, 3, 1⟩
def Fld.HIVE_STATUS_HGEN (n : Nat) : Field := ⟨Addr.HIVE_STATUS n, 4, 8⟩
def Fld.HIVE_STATUS_DOWN_CAUSE (n : Nat) : Field := ⟨Addr.HIVE_STATUS n, 12, 4⟩
def Fld.HIVE_STATUS_DOWN_SLOT (n : Nat) : Field := ⟨Addr.HIVE_STATUS n, 16, 6⟩
def Fld.HIVE_STATUS_CFG_ERR (n : Nat) : Field := ⟨Addr.HIVE_STATUS n, 22, 3⟩
/-- HIVE_ENTRIES (R242). -/
def Addr.HIVE_ENTRIES (n : Nat) : Nat := 0x70201C + 128 * n
def Fld.HIVE_ENTRIES_COUNT (n : Nat) : Field := ⟨Addr.HIVE_ENTRIES n, 0, 30⟩
/-- HIVE_UNRESOLVED (R242). -/
def Addr.HIVE_UNRESOLVED (n : Nat) : Nat := 0x702020 + 128 * n
def Fld.HIVE_UNRESOLVED_COUNT (n : Nat) : Field := ⟨Addr.HIVE_UNRESOLVED n, 0, 30⟩
/-- HOST_CFG (R243). -/
def Addr.HOST_CFG (n : Nat) : Nat := 0x704000 + 16 * n
def Fld.HOST_CFG_EN (n : Nat) : Field := ⟨Addr.HOST_CFG n, 0, 1⟩
def Fld.HOST_CFG_REMOTE (n : Nat) : Field := ⟨Addr.HOST_CFG n, 1, 1⟩
def Fld.HOST_CFG_VCS (n : Nat) : Field := ⟨Addr.HOST_CFG n, 2, 6⟩
def Fld.HOST_CFG_PID (n : Nat) : Field := ⟨Addr.HOST_CFG n, 8, 12⟩
def Fld.HOST_CFG_LEAVE (n : Nat) : Field := ⟨Addr.HOST_CFG n, 24, 1⟩
/-- HOST_HPA (R243). -/
def Addr.HOST_HPA (n : Nat) : Nat := 0x704004 + 16 * n
def Fld.HOST_HPA_BASE (n : Nat) : Field := ⟨Addr.HOST_HPA n, 0, 18⟩
/-- HOST_STATUS (R243). -/
def Addr.HOST_STATUS (n : Nat) : Nat := 0x704008 + 16 * n
def Fld.HOST_STATUS_STATE (n : Nat) : Field := ⟨Addr.HOST_STATUS n, 0, 3⟩
/-- HOST_OWNED (R243). -/
def Addr.HOST_OWNED (n : Nat) : Nat := 0x70400C + 16 * n
def Fld.HOST_OWNED_LINES (n : Nat) : Field := ⟨Addr.HOST_OWNED n, 0, 32⟩
/-- WIN_CFG (R244). -/
def Addr.WIN_CFG (n : Nat) : Nat := 0x708000 + 32 * n
def Fld.WIN_CFG_EN (n : Nat) : Field := ⟨Addr.WIN_CFG n, 0, 1⟩
def Fld.WIN_CFG_POOL (n : Nat) : Field := ⟨Addr.WIN_CFG n, 1, 1⟩
def Fld.WIN_CFG_SIZE (n : Nat) : Field := ⟨Addr.WIN_CFG n, 2, 5⟩
def Fld.WIN_CFG_WAYS (n : Nat) : Field := ⟨Addr.WIN_CFG n, 8, 2⟩
def Fld.WIN_CFG_GRAN (n : Nat) : Field := ⟨Addr.WIN_CFG n, 10, 3⟩
/-- WIN_BASE (R244). -/
def Addr.WIN_BASE (n : Nat) : Nat := 0x708004 + 32 * n
def Fld.WIN_BASE_BASE (n : Nat) : Field := ⟨Addr.WIN_BASE n, 0, 18⟩
/-- WIN_DPA_LO (R244). -/
def Addr.WIN_DPA_LO (n : Nat) : Nat := 0x708008 + 32 * n
def Fld.WIN_DPA_LO_DPA (n : Nat) : Field := ⟨Addr.WIN_DPA_LO n, 0, 32⟩
/-- WIN_DPA_HI (R244). -/
def Addr.WIN_DPA_HI (n : Nat) : Nat := 0x70800C + 32 * n
def Fld.WIN_DPA_HI_DPA (n : Nat) : Field := ⟨Addr.WIN_DPA_HI n, 0, 32⟩
/-- WIN_TGT01 (R244). -/
def Addr.WIN_TGT01 (n : Nat) : Nat := 0x708010 + 32 * n
def Fld.WIN_TGT01_PORT0 (n : Nat) : Field := ⟨Addr.WIN_TGT01 n, 0, 6⟩
def Fld.WIN_TGT01_LD0 (n : Nat) : Field := ⟨Addr.WIN_TGT01 n, 6, 4⟩
def Fld.WIN_TGT01_LDV0 (n : Nat) : Field := ⟨Addr.WIN_TGT01 n, 10, 1⟩
def Fld.WIN_TGT01_PORT1 (n : Nat) : Field := ⟨Addr.WIN_TGT01 n, 16, 6⟩
def Fld.WIN_TGT01_LD1 (n : Nat) : Field := ⟨Addr.WIN_TGT01 n, 22, 4⟩
def Fld.WIN_TGT01_LDV1 (n : Nat) : Field := ⟨Addr.WIN_TGT01 n, 26, 1⟩
/-- WIN_TGT23 (R244). -/
def Addr.WIN_TGT23 (n : Nat) : Nat := 0x708014 + 32 * n
def Fld.WIN_TGT23_PORT2 (n : Nat) : Field := ⟨Addr.WIN_TGT23 n, 0, 6⟩
def Fld.WIN_TGT23_LD2 (n : Nat) : Field := ⟨Addr.WIN_TGT23 n, 6, 4⟩
def Fld.WIN_TGT23_LDV2 (n : Nat) : Field := ⟨Addr.WIN_TGT23 n, 10, 1⟩
def Fld.WIN_TGT23_PORT3 (n : Nat) : Field := ⟨Addr.WIN_TGT23 n, 16, 6⟩
def Fld.WIN_TGT23_LD3 (n : Nat) : Field := ⟨Addr.WIN_TGT23 n, 22, 4⟩
def Fld.WIN_TGT23_LDV3 (n : Nat) : Field := ⟨Addr.WIN_TGT23 n, 26, 1⟩
/-- DIRC_CFG (R245). -/
def Addr.DIRC_CFG : Nat := 0x711000
def Fld.DIRC_CFG_BKT_UNITS : Field := ⟨Addr.DIRC_CFG, 0, 10⟩
/-- DIRC_STATUS (R245). -/
def Addr.DIRC_STATUS : Nat := 0x711004
def Fld.DIRC_STATUS_ONDIE_VALID : Field := ⟨Addr.DIRC_STATUS, 0, 22⟩
/-- DIRC_QSEL_LO (R245). -/
def Addr.DIRC_QSEL_LO : Nat := 0x711008
def Fld.DIRC_QSEL_LO_SECTOR_LO : Field := ⟨Addr.DIRC_QSEL_LO, 0, 32⟩
/-- DIRC_QSEL_HI (R245). -/
def Addr.DIRC_QSEL_HI : Nat := 0x71100C
def Fld.DIRC_QSEL_HI_SECTOR_HI : Field := ⟨Addr.DIRC_QSEL_HI, 0, 6⟩
def Fld.DIRC_QSEL_HI_HIVE : Field := ⟨Addr.DIRC_QSEL_HI, 8, 4⟩
/-- DIRC_QSTAT (R245). -/
def Addr.DIRC_QSTAT : Nat := 0x711010
def Fld.DIRC_QSTAT_DONE : Field := ⟨Addr.DIRC_QSTAT, 0, 1⟩
def Fld.DIRC_QSTAT_FOUND : Field := ⟨Addr.DIRC_QSTAT, 1, 1⟩
def Fld.DIRC_QSTAT_ONDIE : Field := ⟨Addr.DIRC_QSTAT, 2, 1⟩
def Fld.DIRC_QSTAT_BUSY : Field := ⟨Addr.DIRC_QSTAT, 3, 4⟩
def Fld.DIRC_QSTAT_HELD : Field := ⟨Addr.DIRC_QSTAT, 7, 4⟩
def Fld.DIRC_QSTAT_UNRESOLVED : Field := ⟨Addr.DIRC_QSTAT, 11, 1⟩
/-- DIRC_QRESULT (R245). -/
def Addr.DIRC_QRESULT (n : Nat) : Nat := 0x711020 + 4 * n
def Fld.DIRC_QRESULT_WORD (n : Nat) : Field := ⟨Addr.DIRC_QRESULT n, 0, 32⟩
/-- COMB_STATUS (R270). -/
def Addr.COMB_STATUS : Nat := 0x801000
def Fld.COMB_STATUS_STATE : Field := ⟨Addr.COMB_STATUS, 0, 3⟩
/-- COMB_PART_CFG (R270). -/
def Addr.COMB_PART_CFG : Nat := 0x801004
def Fld.COMB_PART_CFG_DIR : Field := ⟨Addr.COMB_PART_CFG, 0, 4⟩
def Fld.COMB_PART_CFG_DLOG : Field := ⟨Addr.COMB_PART_CFG, 4, 6⟩
def Fld.COMB_PART_CFG_JRNL : Field := ⟨Addr.COMB_PART_CFG, 10, 6⟩
def Fld.COMB_PART_CFG_TELEM : Field := ⟨Addr.COMB_PART_CFG, 16, 6⟩
def Fld.COMB_PART_CFG_KEEP : Field := ⟨Addr.COMB_PART_CFG, 22, 6⟩
/-- COMB_PART_ACT (R270). -/
def Addr.COMB_PART_ACT : Nat := 0x801008
def Fld.COMB_PART_ACT_SIZES : Field := ⟨Addr.COMB_PART_ACT, 0, 28⟩
/-- COMB_POOL (R270). -/
def Addr.COMB_POOL : Nat := 0x80100C
def Fld.COMB_POOL_BASE : Field := ⟨Addr.COMB_POOL, 0, 8⟩
def Fld.COMB_POOL_SIZE : Field := ⟨Addr.COMB_POOL, 8, 8⟩
/-- COMB_SCRUB_CFG (R270). -/
def Addr.COMB_SCRUB_CFG : Nat := 0x801010
def Fld.COMB_SCRUB_CFG_EN : Field := ⟨Addr.COMB_SCRUB_CFG, 0, 1⟩
def Fld.COMB_SCRUB_CFG_PERIOD : Field := ⟨Addr.COMB_SCRUB_CFG, 8, 8⟩
/-- COMB_SCRUB_STATUS (R270). -/
def Addr.COMB_SCRUB_STATUS : Nat := 0x801014
def Fld.COMB_SCRUB_STATUS_PASSES : Field := ⟨Addr.COMB_SCRUB_STATUS, 0, 16⟩
def Fld.COMB_SCRUB_STATUS_PROGRESS : Field := ⟨Addr.COMB_SCRUB_STATUS, 16, 7⟩
/-- COMB_ROW_CFG (R270). -/
def Addr.COMB_ROW_CFG : Nat := 0x801018
def Fld.COMB_ROW_CFG_ROW_THR : Field := ⟨Addr.COMB_ROW_CFG, 0, 8⟩
/-- COMB_REPAIR (R270). -/
def Addr.COMB_REPAIR : Nat := 0x80101C
def Fld.COMB_REPAIR_LISTED : Field := ⟨Addr.COMB_REPAIR, 0, 7⟩
def Fld.COMB_REPAIR_FULL : Field := ⟨Addr.COMB_REPAIR, 7, 1⟩
def Fld.COMB_REPAIR_APPLIED : Field := ⟨Addr.COMB_REPAIR, 8, 7⟩
/-- COMB_TEMP (R270). -/
def Addr.COMB_TEMP : Nat := 0x801020
def Fld.COMB_TEMP_STACK : Field := ⟨Addr.COMB_TEMP, 0, 8⟩
def Fld.COMB_TEMP_REFRESH_2X : Field := ⟨Addr.COMB_TEMP, 8, 1⟩
/-- COMB_LOCK (R56). -/
def Addr.COMB_LOCK : Nat := 0x8010FC
def Fld.COMB_LOCK_LOCK : Field := ⟨Addr.COMB_LOCK, 0, 1⟩
/-- CARB_STATUS (R271). -/
def Addr.CARB_STATUS : Nat := 0x811000
def Fld.CARB_STATUS_AGED : Field := ⟨Addr.CARB_STATUS, 0, 9⟩
/-- CARB_BOUND (R271). -/
def Addr.CARB_BOUND : Nat := 0x811004
def Fld.CARB_BOUND_W : Field := ⟨Addr.CARB_BOUND, 0, 16⟩
/-- CARB_BURST (R271). -/
def Addr.CARB_BURST (n : Nat) : Nat := 0x811040 + 4 * n
def Fld.CARB_BURST_LIMIT (n : Nat) : Field := ⟨Addr.CARB_BURST n, 0, 8⟩
/-- CARB_WAIT_MAX (R271). -/
def Addr.CARB_WAIT_MAX (n : Nat) : Nat := 0x811080 + 4 * n
def Fld.CARB_WAIT_MAX_CYCLES (n : Nat) : Field := ⟨Addr.CARB_WAIT_MAX n, 0, 16⟩
/-- CARB_LOCK (R56). -/
def Addr.CARB_LOCK : Nat := 0x8110FC
def Fld.CARB_LOCK_LOCK : Field := ⟨Addr.CARB_LOCK, 0, 1⟩
/-- POOL_CFG (R272). -/
def Addr.POOL_CFG : Nat := 0x821000
def Fld.POOL_CFG_EN : Field := ⟨Addr.POOL_CFG, 0, 1⟩
/-- POOL_STATUS (R272). -/
def Addr.POOL_STATUS : Nat := 0x821004
def Fld.POOL_STATUS_WINDOWS : Field := ⟨Addr.POOL_STATUS, 0, 7⟩
/-- POOL_LOCK (R56). -/
def Addr.POOL_LOCK : Nat := 0x8210FC
def Fld.POOL_LOCK_LOCK : Field := ⟨Addr.POOL_LOCK, 0, 1⟩
/-- POOL_WIN_CFG (R272). -/
def Addr.POOL_WIN_CFG (n : Nat) : Nat := 0x822000 + 16 * n
def Fld.POOL_WIN_CFG_EN (n : Nat) : Field := ⟨Addr.POOL_WIN_CFG n, 0, 1⟩
def Fld.POOL_WIN_CFG_SIZE (n : Nat) : Field := ⟨Addr.POOL_WIN_CFG n, 1, 3⟩
def Fld.POOL_WIN_CFG_VCS (n : Nat) : Field := ⟨Addr.POOL_WIN_CFG n, 4, 6⟩
def Fld.POOL_WIN_CFG_OFF (n : Nat) : Field := ⟨Addr.POOL_WIN_CFG n, 16, 5⟩
/-- POOL_WIN_HPA (R272). -/
def Addr.POOL_WIN_HPA (n : Nat) : Nat := 0x822004 + 16 * n
def Fld.POOL_WIN_HPA_BASE (n : Nat) : Field := ⟨Addr.POOL_WIN_HPA n, 0, 24⟩
/-- HAT_COMMIT (R300). -/
def Addr.HAT_COMMIT : Nat := 0x501000
def Fld.HAT_COMMIT_RULE_COMMIT : Field := ⟨Addr.HAT_COMMIT, 0, 1⟩
/-- HAT_STATUS (R300). -/
def Addr.HAT_STATUS : Nat := 0x501004
def Fld.HAT_STATUS_COMMIT_DONE : Field := ⟨Addr.HAT_STATUS, 0, 1⟩
def Fld.HAT_STATUS_REFUSED : Field := ⟨Addr.HAT_STATUS, 1, 1⟩
def Fld.HAT_STATUS_EPOCH : Field := ⟨Addr.HAT_STATUS, 16, 16⟩
/-- HAT_OLD (R300). -/
def Addr.HAT_OLD : Nat := 0x501008
def Fld.HAT_OLD_COUNT : Field := ⟨Addr.HAT_OLD, 0, 24⟩
/-- HAT_ABORTS (R300). -/
def Addr.HAT_ABORTS : Nat := 0x50100C
def Fld.HAT_ABORTS_COUNT : Field := ⟨Addr.HAT_ABORTS, 0, 32⟩
/-- HAT_ASEL (R300). -/
def Addr.HAT_ASEL : Nat := 0x501010
def Fld.HAT_ASEL_RULE : Field := ⟨Addr.HAT_ASEL, 0, 16⟩
/-- HAT_BAD (R300). -/
def Addr.HAT_BAD : Nat := 0x501014
def Fld.HAT_BAD_COUNT : Field := ⟨Addr.HAT_BAD, 0, 17⟩
/-- HAT_BAD_FIRST (R300). -/
def Addr.HAT_BAD_FIRST : Nat := 0x501018
def Fld.HAT_BAD_FIRST_RULE : Field := ⟨Addr.HAT_BAD_FIRST, 0, 16⟩
/-- HAT_ARULE (R300). -/
def Addr.HAT_ARULE (n : Nat) : Nat := 0x501040 + 4 * n
def Fld.HAT_ARULE_WORD (n : Nat) : Field := ⟨Addr.HAT_ARULE n, 0, 32⟩
/-- RULE_CTL (R301). -/
def Addr.RULE_CTL (n : Nat) : Nat := 0x5000000 + 64 * n
def Fld.RULE_CTL_EN (n : Nat) : Field := ⟨Addr.RULE_CTL n, 0, 1⟩
def Fld.RULE_CTL_R (n : Nat) : Field := ⟨Addr.RULE_CTL n, 1, 1⟩
def Fld.RULE_CTL_W (n : Nat) : Field := ⟨Addr.RULE_CTL n, 2, 1⟩
def Fld.RULE_CTL_CS (n : Nat) : Field := ⟨Addr.RULE_CTL n, 3, 1⟩
def Fld.RULE_CTL_MV (n : Nat) : Field := ⟨Addr.RULE_CTL n, 4, 1⟩
def Fld.RULE_CTL_RANGE (n : Nat) : Field := ⟨Addr.RULE_CTL n, 5, 1⟩
def Fld.RULE_CTL_ASPACE (n : Nat) : Field := ⟨Addr.RULE_CTL n, 6, 2⟩
def Fld.RULE_CTL_SRD (n : Nat) : Field := ⟨Addr.RULE_CTL n, 8, 8⟩
def Fld.RULE_CTL_SIZE (n : Nat) : Field := ⟨Addr.RULE_CTL n, 16, 6⟩
/-- RULE_BASE_LO (R301). -/
def Addr.RULE_BASE_LO (n : Nat) : Nat := 0x5000004 + 64 * n
def Fld.RULE_BASE_LO_BASE (n : Nat) : Field := ⟨Addr.RULE_BASE_LO n, 12, 20⟩
/-- RULE_BASE_HI (R301). -/
def Addr.RULE_BASE_HI (n : Nat) : Nat := 0x5000008 + 64 * n
def Fld.RULE_BASE_HI_BASE (n : Nat) : Field := ⟨Addr.RULE_BASE_HI n, 0, 20⟩
/-- RULE_OWN (R301). -/
def Addr.RULE_OWN (n m : Nat) : Nat := 0x5000010 + 64 * n + 4 * m
def Fld.RULE_OWN_OWNER_E (n m : Nat) : Field := ⟨Addr.RULE_OWN n m, 0, 12⟩
def Fld.RULE_OWN_V_E (n m : Nat) : Field := ⟨Addr.RULE_OWN n m, 15, 1⟩
def Fld.RULE_OWN_OWNER_O (n m : Nat) : Field := ⟨Addr.RULE_OWN n m, 16, 12⟩
def Fld.RULE_OWN_V_O (n m : Nat) : Field := ⟨Addr.RULE_OWN n m, 31, 1⟩
/-- MOVER_CFG (R302). -/
def Addr.MOVER_CFG : Nat := 0x901000
def Fld.MOVER_CFG_EN : Field := ⟨Addr.MOVER_CFG, 0, 1⟩
/-- MOVER_STATUS (R302). -/
def Addr.MOVER_STATUS : Nat := 0x901004
def Fld.MOVER_STATUS_RUNNING : Field := ⟨Addr.MOVER_STATUS, 0, 7⟩
def Fld.MOVER_STATUS_SLOTS : Field := ⟨Addr.MOVER_STATUS, 8, 15⟩
/-- CH_RING_LO (R302). -/
def Addr.CH_RING_LO (n : Nat) : Nat := 0x902000 + 64 * n
def Fld.CH_RING_LO_BASE (n : Nat) : Field := ⟨Addr.CH_RING_LO n, 12, 20⟩
/-- CH_RING_HI (R302). -/
def Addr.CH_RING_HI (n : Nat) : Nat := 0x902004 + 64 * n
def Fld.CH_RING_HI_BASE (n : Nat) : Field := ⟨Addr.CH_RING_HI n, 0, 32⟩
/-- CH_RING_CFG (R302). -/
def Addr.CH_RING_CFG (n : Nat) : Nat := 0x902008 + 64 * n
def Fld.CH_RING_CFG_SIZE (n : Nat) : Field := ⟨Addr.CH_RING_CFG n, 0, 4⟩
def Fld.CH_RING_CFG_PASID (n : Nat) : Field := ⟨Addr.CH_RING_CFG n, 8, 20⟩
def Fld.CH_RING_CFG_PASID_V (n : Nat) : Field := ⟨Addr.CH_RING_CFG n, 28, 1⟩
/-- CH_TAIL (R302). -/
def Addr.CH_TAIL (n : Nat) : Nat := 0x90200C + 64 * n
def Fld.CH_TAIL_TAIL (n : Nat) : Field := ⟨Addr.CH_TAIL n, 0, 16⟩
/-- CH_HEAD (R302). -/
def Addr.CH_HEAD (n : Nat) : Nat := 0x902010 + 64 * n
def Fld.CH_HEAD_HEAD (n : Nat) : Field := ⟨Addr.CH_HEAD n, 0, 16⟩
/-- CH_CTL (R302). -/
def Addr.CH_CTL (n : Nat) : Nat := 0x902014 + 64 * n
def Fld.CH_CTL_ENABLE (n : Nat) : Field := ⟨Addr.CH_CTL n, 0, 1⟩
def Fld.CH_CTL_RESET (n : Nat) : Field := ⟨Addr.CH_CTL n, 1, 1⟩
/-- CH_STATUS (R302). -/
def Addr.CH_STATUS (n : Nat) : Nat := 0x902018 + 64 * n
def Fld.CH_STATUS_STATE (n : Nat) : Field := ⟨Addr.CH_STATUS n, 0, 2⟩
def Fld.CH_STATUS_ERR (n : Nat) : Field := ⟨Addr.CH_STATUS n, 4, 4⟩
def Fld.CH_STATUS_INFLIGHT (n : Nat) : Field := ⟨Addr.CH_STATUS n, 8, 3⟩
/-- VF_CFG (R302). -/
def Addr.VF_CFG (n : Nat) : Nat := 0x904000 + 16 * n
def Fld.VF_CFG_EN (n : Nat) : Field := ⟨Addr.VF_CFG n, 0, 1⟩
def Fld.VF_CFG_KIND (n : Nat) : Field := ⟨Addr.VF_CFG n, 1, 2⟩
def Fld.VF_CFG_VCS (n : Nat) : Field := ⟨Addr.VF_CFG n, 4, 6⟩
/-- VF_SUB (R302). -/
def Addr.VF_SUB (n : Nat) : Nat := 0x904004 + 16 * n
def Fld.VF_SUB_SUBID (n : Nat) : Field := ⟨Addr.VF_SUB n, 0, 12⟩
/-- VF_PASID (R302). -/
def Addr.VF_PASID (n : Nat) : Nat := 0x904008 + 16 * n
def Fld.VF_PASID_PASID_BASE (n : Nat) : Field := ⟨Addr.VF_PASID n, 0, 20⟩
def Fld.VF_PASID_PASID_LOG2 (n : Nat) : Field := ⟨Addr.VF_PASID n, 20, 5⟩
/-- VF_RES (R302). -/
def Addr.VF_RES (n : Nat) : Nat := 0x90400C + 16 * n
def Fld.VF_RES_FIRST (n : Nat) : Field := ⟨Addr.VF_RES n, 0, 6⟩
def Fld.VF_RES_COUNT (n : Nat) : Field := ⟨Addr.VF_RES n, 8, 7⟩
def Fld.VF_RES_OFF (n : Nat) : Field := ⟨Addr.VF_RES n, 16, 5⟩
def Fld.VF_RES_SIZE (n : Nat) : Field := ⟨Addr.VF_RES n, 21, 3⟩
/-- DLOG_CFG (R303). -/
def Addr.DLOG_CFG : Nat := 0x911000
def Fld.DLOG_CFG_EN : Field := ⟨Addr.DLOG_CFG, 0, 1⟩
/-- DLOG_HCMD (R303). -/
def Addr.DLOG_HCMD : Nat := 0x911004
def Fld.DLOG_HCMD_LOG : Field := ⟨Addr.DLOG_HCMD, 0, 6⟩
def Fld.DLOG_HCMD_COUNT : Field := ⟨Addr.DLOG_HCMD, 8, 6⟩
/-- DLOG_HSTART (R303). -/
def Addr.DLOG_HSTART : Nat := 0x911008
def Fld.DLOG_HSTART_LINE : Field := ⟨Addr.DLOG_HSTART, 0, 25⟩
/-- DLOG_HSTATUS (R303). -/
def Addr.DLOG_HSTATUS : Nat := 0x91100C
def Fld.DLOG_HSTATUS_STATE : Field := ⟨Addr.DLOG_HSTATUS, 0, 3⟩
def Fld.DLOG_HSTATUS_SEQ : Field := ⟨Addr.DLOG_HSTATUS, 8, 8⟩
def Fld.DLOG_HSTATUS_LINES : Field := ⟨Addr.DLOG_HSTATUS, 16, 7⟩
/-- DLOG_HDIRTY (R303). -/
def Addr.DLOG_HDIRTY : Nat := 0x911010
def Fld.DLOG_HDIRTY_PAGES : Field := ⟨Addr.DLOG_HDIRTY, 0, 16⟩
/-- LOG_CFG (R303). -/
def Addr.LOG_CFG (n : Nat) : Nat := 0x911100 + 32 * n
def Fld.LOG_CFG_EN (n : Nat) : Field := ⟨Addr.LOG_CFG n, 0, 1⟩
def Fld.LOG_CFG_KIND (n : Nat) : Field := ⟨Addr.LOG_CFG n, 1, 1⟩
def Fld.LOG_CFG_VCS (n : Nat) : Field := ⟨Addr.LOG_CFG n, 2, 6⟩
def Fld.LOG_CFG_OWNER (n : Nat) : Field := ⟨Addr.LOG_CFG n, 8, 12⟩
def Fld.LOG_CFG_HVCS (n : Nat) : Field := ⟨Addr.LOG_CFG n, 20, 6⟩
def Fld.LOG_CFG_HACC (n : Nat) : Field := ⟨Addr.LOG_CFG n, 26, 1⟩
/-- LOG_BASE_LO (R303). -/
def Addr.LOG_BASE_LO (n : Nat) : Nat := 0x911104 + 32 * n
def Fld.LOG_BASE_LO_BASE (n : Nat) : Field := ⟨Addr.LOG_BASE_LO n, 0, 32⟩
/-- LOG_BASE_HI (R303). -/
def Addr.LOG_BASE_HI (n : Nat) : Nat := 0x911108 + 32 * n
def Fld.LOG_BASE_HI_BASE (n : Nat) : Field := ⟨Addr.LOG_BASE_HI n, 0, 32⟩
/-- LOG_LINES (R303). -/
def Addr.LOG_LINES (n : Nat) : Nat := 0x91110C + 32 * n
def Fld.LOG_LINES_LINES (n : Nat) : Field := ⟨Addr.LOG_LINES n, 0, 26⟩
/-- LOG_OFF (R303). -/
def Addr.LOG_OFF (n : Nat) : Nat := 0x911110 + 32 * n
def Fld.LOG_OFF_OFF (n : Nat) : Field := ⟨Addr.LOG_OFF n, 0, 15⟩
/-- LOG_STATUS (R303). -/
def Addr.LOG_STATUS (n : Nat) : Nat := 0x911114 + 32 * n
def Fld.LOG_STATUS_ACTIVE (n : Nat) : Field := ⟨Addr.LOG_STATUS n, 0, 1⟩
/-- DLOG_HBUF (R303). -/
def Addr.DLOG_HBUF (n : Nat) : Nat := 0x918000 + 4 * n
def Fld.DLOG_HBUF_BITS (n : Nat) : Field := ⟨Addr.DLOG_HBUF n, 0, 32⟩
/-- TDM_CFG (R339). -/
def Addr.TDM_CFG : Nat := 0xA01000
def Fld.TDM_CFG_EN : Field := ⟨Addr.TDM_CFG, 0, 1⟩
def Fld.TDM_CFG_PROMOTE_MODE : Field := ⟨Addr.TDM_CFG, 1, 1⟩
def Fld.TDM_CFG_ARB_SOLO : Field := ⟨Addr.TDM_CFG, 2, 1⟩
def Fld.TDM_CFG_ARB_WAIT : Field := ⟨Addr.TDM_CFG, 8, 8⟩
/-- TDM_TIMING (R339). -/
def Addr.TDM_TIMING : Nat := 0xA01004
def Fld.TDM_TIMING_EPOCH_NS : Field := ⟨Addr.TDM_TIMING, 0, 8⟩
def Fld.TDM_TIMING_ACK_TO : Field := ⟨Addr.TDM_TIMING, 8, 8⟩
def Fld.TDM_TIMING_SWAP_TO : Field := ⟨Addr.TDM_TIMING, 16, 8⟩
/-- TDM_CREDIT (R339). -/
def Addr.TDM_CREDIT : Nat := 0xA01008
def Fld.TDM_CREDIT_FLOOR : Field := ⟨Addr.TDM_CREDIT, 0, 11⟩
def Fld.TDM_CREDIT_WINDOW : Field := ⟨Addr.TDM_CREDIT, 16, 11⟩
/-- TDM_LINK (R339). -/
def Addr.TDM_LINK : Nat := 0xA0100C
def Fld.TDM_LINK_STATE : Field := ⟨Addr.TDM_LINK, 0, 2⟩
def Fld.TDM_LINK_MISMATCH : Field := ⟨Addr.TDM_LINK, 2, 1⟩
def Fld.TDM_LINK_MPV : Field := ⟨Addr.TDM_LINK, 4, 8⟩
def Fld.TDM_LINK_PEER_MOD_ID : Field := ⟨Addr.TDM_LINK, 12, 3⟩
def Fld.TDM_LINK_PEER_STRAP : Field := ⟨Addr.TDM_LINK, 15, 1⟩
/-- TDM_ROLE (R339). -/
def Addr.TDM_ROLE : Nat := 0xA01010
def Fld.TDM_ROLE_STATE : Field := ⟨Addr.TDM_ROLE, 0, 4⟩
def Fld.TDM_ROLE_PEER_STATE : Field := ⟨Addr.TDM_ROLE, 4, 4⟩
def Fld.TDM_ROLE_CAUSE : Field := ⟨Addr.TDM_ROLE, 8, 4⟩
/-- TDM_CMD (R339). -/
def Addr.TDM_CMD : Nat := 0xA01014
def Fld.TDM_CMD_CMD : Field := ⟨Addr.TDM_CMD, 0, 3⟩
/-- TDM_HSEQ (R339). -/
def Addr.TDM_HSEQ : Nat := 0xA01018
def Fld.TDM_HSEQ_SEQ : Field := ⟨Addr.TDM_HSEQ, 0, 32⟩
/-- TDM_ACKSEQ (R339). -/
def Addr.TDM_ACKSEQ : Nat := 0xA0101C
def Fld.TDM_ACKSEQ_SEQ : Field := ⟨Addr.TDM_ACKSEQ, 0, 32⟩
/-- TDM_NDSEQ (R339). -/
def Addr.TDM_NDSEQ : Nat := 0xA01020
def Fld.TDM_NDSEQ_SEQ : Field := ⟨Addr.TDM_NDSEQ, 0, 32⟩
/-- TDM_JFILL (R339). -/
def Addr.TDM_JFILL : Nat := 0xA01024
def Fld.TDM_JFILL_KIB : Field := ⟨Addr.TDM_JFILL, 0, 22⟩
/-- TDM_UNKNOWN (R339). -/
def Addr.TDM_UNKNOWN : Nat := 0xA01028
def Fld.TDM_UNKNOWN_REGIONS : Field := ⟨Addr.TDM_UNKNOWN, 0, 20⟩
/-- TDM_PROMO (R339). -/
def Addr.TDM_PROMO : Nat := 0xA0102C
def Fld.TDM_PROMO_TAIL : Field := ⟨Addr.TDM_PROMO, 0, 16⟩
def Fld.TDM_PROMO_UNSURE : Field := ⟨Addr.TDM_PROMO, 16, 4⟩
/-- TDM_PROMO_T (R339). -/
def Addr.TDM_PROMO_T : Nat := 0xA01030
def Fld.TDM_PROMO_T_NS : Field := ⟨Addr.TDM_PROMO_T, 0, 32⟩
/-- TDM_LOCK (R56). -/
def Addr.TDM_LOCK : Nat := 0xA010FC
def Fld.TDM_LOCK_LOCK : Field := ⟨Addr.TDM_LOCK, 0, 1⟩
/-- WAGGLE_CFG (R340). -/
def Addr.WAGGLE_CFG : Nat := 0xA11000
def Fld.WAGGLE_CFG_EN : Field := ⟨Addr.WAGGLE_CFG, 0, 1⟩
/-- WAGGLE_STATUS (R340). -/
def Addr.WAGGLE_STATUS : Nat := 0xA11004
def Fld.WAGGLE_STATUS_LOCK : Field := ⟨Addr.WAGGLE_STATUS, 0, 1⟩
def Fld.WAGGLE_STATUS_ALIVE : Field := ⟨Addr.WAGGLE_STATUS, 1, 1⟩
def Fld.WAGGLE_STATUS_LOST : Field := ⟨Addr.WAGGLE_STATUS, 2, 5⟩
def Fld.WAGGLE_STATUS_FAILSTOP : Field := ⟨Addr.WAGGLE_STATUS, 7, 1⟩
def Fld.WAGGLE_STATUS_PEER_MSG : Field := ⟨Addr.WAGGLE_STATUS, 8, 8⟩
/-- WAGGLE_PEER_HSEQ (R340). -/
def Addr.WAGGLE_PEER_HSEQ : Nat := 0xA11008
def Fld.WAGGLE_PEER_HSEQ_HSEQ : Field := ⟨Addr.WAGGLE_PEER_HSEQ, 0, 32⟩
/-- WAGGLE_RTT (R340). -/
def Addr.WAGGLE_RTT : Nat := 0xA1100C
def Fld.WAGGLE_RTT_NS : Field := ⟨Addr.WAGGLE_RTT, 0, 16⟩
/-- WAGGLE_LOCK (R56). -/
def Addr.WAGGLE_LOCK : Nat := 0xA110FC
def Fld.WAGGLE_LOCK_LOCK : Field := ⟨Addr.WAGGLE_LOCK, 0, 1⟩
/-- SWARM_CFG (R341). -/
def Addr.SWARM_CFG : Nat := 0xA21000
def Fld.SWARM_CFG_EN : Field := ⟨Addr.SWARM_CFG, 0, 1⟩
def Fld.SWARM_CFG_HOME_PID : Field := ⟨Addr.SWARM_CFG, 4, 12⟩
/-- SWARM_STATUS (R341). -/
def Addr.SWARM_STATUS : Nat := 0xA21004
def Fld.SWARM_STATUS_UNREACH : Field := ⟨Addr.SWARM_STATUS, 0, 13⟩
/-- SWARM_LOCK (R56). -/
def Addr.SWARM_LOCK : Nat := 0xA210FC
def Fld.SWARM_LOCK_LOCK : Field := ⟨Addr.SWARM_LOCK, 0, 1⟩
/-- SWARM_PID (R341). -/
def Addr.SWARM_PID (n : Nat) : Nat := 0xA21100 + 4 * n
def Fld.SWARM_PID_PID (n : Nat) : Field := ⟨Addr.SWARM_PID n, 0, 12⟩
def Fld.SWARM_PID_V (n : Nat) : Field := ⟨Addr.SWARM_PID n, 15, 1⟩
/-- SWARM_RSPAN_CFG (R341). -/
def Addr.SWARM_RSPAN_CFG (n : Nat) : Nat := 0xA22000 + 16 * n
def Fld.SWARM_RSPAN_CFG_EN (n : Nat) : Field := ⟨Addr.SWARM_RSPAN_CFG n, 0, 1⟩
def Fld.SWARM_RSPAN_CFG_SPAN (n : Nat) : Field := ⟨Addr.SWARM_RSPAN_CFG n, 1, 4⟩
def Fld.SWARM_RSPAN_CFG_VCS (n : Nat) : Field := ⟨Addr.SWARM_RSPAN_CFG n, 6, 6⟩
/-- SWARM_RSPAN_HPA (R341). -/
def Addr.SWARM_RSPAN_HPA (n : Nat) : Nat := 0xA22004 + 16 * n
def Fld.SWARM_RSPAN_HPA_BASE (n : Nat) : Field := ⟨Addr.SWARM_RSPAN_HPA n, 0, 18⟩
/-- SWARM_RSPAN_DPID (R341). -/
def Addr.SWARM_RSPAN_DPID (n : Nat) : Nat := 0xA22008 + 16 * n
def Fld.SWARM_RSPAN_DPID_DPID (n : Nat) : Field := ⟨Addr.SWARM_RSPAN_DPID n, 0, 12⟩
/-- SWARM_RT (R341). -/
def Addr.SWARM_RT (n : Nat) : Nat := 0xA24000 + 4 * n
def Fld.SWARM_RT_V (n : Nat) : Field := ⟨Addr.SWARM_RT n, 0, 1⟩
def Fld.SWARM_RT_LOCAL (n : Nat) : Field := ⟨Addr.SWARM_RT n, 1, 1⟩
def Fld.SWARM_RT_ISL0 (n : Nat) : Field := ⟨Addr.SWARM_RT n, 2, 6⟩
def Fld.SWARM_RT_ISL1 (n : Nat) : Field := ⟨Addr.SWARM_RT n, 8, 6⟩
def Fld.SWARM_RT_ISL1_V (n : Nat) : Field := ⟨Addr.SWARM_RT n, 14, 1⟩
def Fld.SWARM_RT_POS (n : Nat) : Field := ⟨Addr.SWARM_RT n, 15, 3⟩
def Fld.SWARM_RT_USING (n : Nat) : Field := ⟨Addr.SWARM_RT n, 18, 1⟩
def Fld.SWARM_RT_REACH (n : Nat) : Field := ⟨Addr.SWARM_RT n, 19, 1⟩
def Fld.SWARM_RT_SUBID (n : Nat) : Field := ⟨Addr.SWARM_RT n, 20, 12⟩
/-- FLT_STATUS (R367). -/
def Addr.FLT_STATUS : Nat := 0x41000
def Fld.FLT_STATUS_UNACKED : Field := ⟨Addr.FLT_STATUS, 0, 11⟩
def Fld.FLT_STATUS_STOPPED : Field := ⟨Addr.FLT_STATUS, 11, 1⟩
def Fld.FLT_STATUS_RECORDS : Field := ⟨Addr.FLT_STATUS, 16, 5⟩
def Fld.FLT_STATUS_REC_MISSING : Field := ⟨Addr.FLT_STATUS, 21, 1⟩
/-- FLT_SEQ (R367). -/
def Addr.FLT_SEQ : Nat := 0x41004
def Fld.FLT_SEQ_SEQ : Field := ⟨Addr.FLT_SEQ, 0, 32⟩
/-- FLT_ACK (R367). -/
def Addr.FLT_ACK : Nat := 0x41008
def Fld.FLT_ACK_SEQ : Field := ⟨Addr.FLT_ACK, 0, 32⟩
/-- FLT_BOARD_ACK (R367). -/
def Addr.FLT_BOARD_ACK : Nat := 0x4100C
def Fld.FLT_BOARD_ACK_SEQ : Field := ⟨Addr.FLT_BOARD_ACK, 0, 32⟩
/-- FLT_ALERT_CFG (R367). -/
def Addr.FLT_ALERT_CFG : Nat := 0x41010
def Fld.FLT_ALERT_CFG_MASK : Field := ⟨Addr.FLT_ALERT_CFG, 0, 4⟩
/-- FLT_INJECT (R367). -/
def Addr.FLT_INJECT : Nat := 0x41014
def Fld.FLT_INJECT_KIND : Field := ⟨Addr.FLT_INJECT, 0, 12⟩
def Fld.FLT_INJECT_CLASS : Field := ⟨Addr.FLT_INJECT, 12, 2⟩
def Fld.FLT_INJECT_SOURCE : Field := ⟨Addr.FLT_INJECT, 16, 12⟩
/-- FLT_LOST (R367). -/
def Addr.FLT_LOST : Nat := 0x41018
def Fld.FLT_LOST_COUNT : Field := ⟨Addr.FLT_LOST, 0, 32⟩
/-- FLT_REC_SEL (R367). -/
def Addr.FLT_REC_SEL : Nat := 0x4101C
def Fld.FLT_REC_SEL_INDEX : Field := ⟨Addr.FLT_REC_SEL, 0, 4⟩
/-- FLT_LOCK (R367). -/
def Addr.FLT_LOCK : Nat := 0x410FC
def Fld.FLT_LOCK_LOCK : Field := ⟨Addr.FLT_LOCK, 0, 1⟩
/-- FLT_FIRST (R367). -/
def Addr.FLT_FIRST (n m : Nat) : Nat := 0x41100 + 64 * n + 4 * m
def Fld.FLT_FIRST_ENTRY (n m : Nat) : Field := ⟨Addr.FLT_FIRST n m, 0, 32⟩
/-- FLT_FIRST_CTL (R367). -/
def Addr.FLT_FIRST_CTL (n : Nat) : Nat := 0x41120 + 64 * n
def Fld.FLT_FIRST_CTL_VALID (n : Nat) : Field := ⟨Addr.FLT_FIRST_CTL n, 0, 1⟩
def Fld.FLT_FIRST_CTL_CLR (n : Nat) : Field := ⟨Addr.FLT_FIRST_CTL n, 1, 1⟩
/-- FLT_REC (R367). -/
def Addr.FLT_REC (n : Nat) : Nat := 0x42000 + 4 * n
def Fld.FLT_REC_WORD (n : Nat) : Field := ⟨Addr.FLT_REC n, 0, 32⟩
/-- FLT_LOG (R367). -/
def Addr.FLT_LOG (n : Nat) : Nat := 0x48000 + 4 * n
def Fld.FLT_LOG_WORD (n : Nat) : Field := ⟨Addr.FLT_LOG n, 0, 32⟩
/-- INTC_STATUS (R392). -/
def Addr.INTC_STATUS : Nat := 0x51000
def Fld.INTC_STATUS_PENDING : Field := ⟨Addr.INTC_STATUS, 0, 12⟩
/-- INTC_BAD (R392). -/
def Addr.INTC_BAD : Nat := 0x51004
def Fld.INTC_BAD_BAD_COMPLETE : Field := ⟨Addr.INTC_BAD, 0, 16⟩
def Fld.INTC_BAD_SPURIOUS : Field := ⟨Addr.INTC_BAD, 16, 16⟩
/-- INTC_VEC_LO (R392). -/
def Addr.INTC_VEC_LO (n : Nat) : Nat := 0x51100 + 64 * n
def Fld.INTC_VEC_LO_BASE (n : Nat) : Field := ⟨Addr.INTC_VEC_LO n, 15, 17⟩
/-- INTC_VEC_HI (R392). -/
def Addr.INTC_VEC_HI (n : Nat) : Nat := 0x51104 + 64 * n
def Fld.INTC_VEC_HI_BASE (n : Nat) : Field := ⟨Addr.INTC_VEC_HI n, 0, 32⟩
/-- INTC_THRESH (R392). -/
def Addr.INTC_THRESH (n : Nat) : Nat := 0x51108 + 64 * n
def Fld.INTC_THRESH_THRESH (n : Nat) : Field := ⟨Addr.INTC_THRESH n, 0, 4⟩
/-- INTC_CLAIM (R392). -/
def Addr.INTC_CLAIM (n : Nat) : Nat := 0x5110C + 64 * n
def Fld.INTC_CLAIM_SOURCE (n : Nat) : Field := ⟨Addr.INTC_CLAIM n, 0, 16⟩
/-- INTC_COMPLETE (R392). -/
def Addr.INTC_COMPLETE (n : Nat) : Nat := 0x51110 + 64 * n
def Fld.INTC_COMPLETE_SOURCE (n : Nat) : Field := ⟨Addr.INTC_COMPLETE n, 0, 12⟩
/-- INTC_RUN (R392). -/
def Addr.INTC_RUN (n : Nat) : Nat := 0x51114 + 64 * n
def Fld.INTC_RUN_RUNPRIO (n : Nat) : Field := ⟨Addr.INTC_RUN n, 0, 4⟩
def Fld.INTC_RUN_DEPTH (n : Nat) : Field := ⟨Addr.INTC_RUN n, 4, 4⟩
/-- INTC_PEND_SET (R392). -/
def Addr.INTC_PEND_SET (n : Nat) : Nat := 0x52000 + 4 * n
def Fld.INTC_PEND_SET_PEND (n : Nat) : Field := ⟨Addr.INTC_PEND_SET n, 0, 32⟩
/-- INTC_PEND_CLR (R392). -/
def Addr.INTC_PEND_CLR (n : Nat) : Nat := 0x52100 + 4 * n
def Fld.INTC_PEND_CLR_PEND (n : Nat) : Field := ⟨Addr.INTC_PEND_CLR n, 0, 32⟩
/-- INTC_EN_SET (R392). -/
def Addr.INTC_EN_SET (n : Nat) : Nat := 0x52200 + 4 * n
def Fld.INTC_EN_SET_EN (n : Nat) : Field := ⟨Addr.INTC_EN_SET n, 0, 32⟩
/-- INTC_EN_CLR (R392). -/
def Addr.INTC_EN_CLR (n : Nat) : Nat := 0x52300 + 4 * n
def Fld.INTC_EN_CLR_EN (n : Nat) : Field := ⟨Addr.INTC_EN_CLR n, 0, 32⟩
/-- INTC_LEVEL (R392). -/
def Addr.INTC_LEVEL (n : Nat) : Nat := 0x52400 + 4 * n
def Fld.INTC_LEVEL_LEVEL (n : Nat) : Field := ⟨Addr.INTC_LEVEL n, 0, 32⟩
/-- INTC_ACTIVE (R392). -/
def Addr.INTC_ACTIVE (n : Nat) : Nat := 0x52500 + 4 * n
def Fld.INTC_ACTIVE_ACTIVE (n : Nat) : Field := ⟨Addr.INTC_ACTIVE n, 0, 32⟩
/-- INTC_SRC (R392). -/
def Addr.INTC_SRC (n : Nat) : Nat := 0x54000 + 4 * n
def Fld.INTC_SRC_PRIO (n : Nat) : Field := ⟨Addr.INTC_SRC n, 0, 4⟩
def Fld.INTC_SRC_TARGET (n : Nat) : Field := ⟨Addr.INTC_SRC n, 4, 4⟩
def Fld.INTC_SRC_HOSTFWD (n : Nat) : Field := ⟨Addr.INTC_SRC n, 8, 1⟩
/-- MBX_CFG (R393). -/
def Addr.MBX_CFG : Nat := 0x61000
def Fld.MBX_CFG_FM_EN : Field := ⟨Addr.MBX_CFG, 0, 1⟩
def Fld.MBX_CFG_FM_VCS : Field := ⟨Addr.MBX_CFG, 1, 6⟩
/-- MBX_POLICY (R393). -/
def Addr.MBX_POLICY : Nat := 0x61004
def Fld.MBX_POLICY_STATE : Field := ⟨Addr.MBX_POLICY, 0, 2⟩
def Fld.MBX_POLICY_CAUSE : Field := ⟨Addr.MBX_POLICY, 2, 2⟩
/-- MBX_WDT_KICK (R393). -/
def Addr.MBX_WDT_KICK : Nat := 0x61008
def Fld.MBX_WDT_KICK_CORE : Field := ⟨Addr.MBX_WDT_KICK, 0, 4⟩
/-- MBX_CORE_STATUS (R393). -/
def Addr.MBX_CORE_STATUS : Nat := 0x6100C
def Fld.MBX_CORE_STATUS_RUN : Field := ⟨Addr.MBX_CORE_STATUS, 0, 4⟩
/-- MBX_LOCK (R56). -/
def Addr.MBX_LOCK : Nat := 0x610FC
def Fld.MBX_LOCK_LOCK : Field := ⟨Addr.MBX_LOCK, 0, 1⟩
/-- MBX_BOX_STATE (R393). -/
def Addr.MBX_BOX_STATE (n : Nat) : Nat := 0x61100 + 8 * n
def Fld.MBX_BOX_STATE_STATE (n : Nat) : Field := ⟨Addr.MBX_BOX_STATE n, 0, 2⟩
def Fld.MBX_BOX_STATE_BG (n : Nat) : Field := ⟨Addr.MBX_BOX_STATE n, 2, 1⟩
def Fld.MBX_BOX_STATE_FM (n : Nat) : Field := ⟨Addr.MBX_BOX_STATE n, 3, 1⟩
def Fld.MBX_BOX_STATE_OPCODE (n : Nat) : Field := ⟨Addr.MBX_BOX_STATE n, 16, 16⟩
/-- MBX_BOX_SEQ (R393). -/
def Addr.MBX_BOX_SEQ (n : Nat) : Nat := 0x61104 + 8 * n
def Fld.MBX_BOX_SEQ_RESULT_SEQ (n : Nat) : Field := ⟨Addr.MBX_BOX_SEQ n, 0, 16⟩
def Fld.MBX_BOX_SEQ_IGNORED (n : Nat) : Field := ⟨Addr.MBX_BOX_SEQ n, 16, 16⟩
/-- SEC_STATUS (R414). -/
def Addr.SEC_STATUS : Nat := 0x71000
def Fld.SEC_STATUS_SELFTEST : Field := ⟨Addr.SEC_STATUS, 0, 2⟩
def Fld.SEC_STATUS_APPROVED : Field := ⟨Addr.SEC_STATUS, 2, 1⟩
def Fld.SEC_STATUS_LIFECYCLE : Field := ⟨Addr.SEC_STATUS, 3, 1⟩
def Fld.SEC_STATUS_DBG_OPEN : Field := ⟨Addr.SEC_STATUS, 4, 1⟩
def Fld.SEC_STATUS_UDS_GATED : Field := ⟨Addr.SEC_STATUS, 5, 1⟩
def Fld.SEC_STATUS_OWNER_SET : Field := ⟨Addr.SEC_STATUS, 6, 1⟩
def Fld.SEC_STATUS_FIXON_SIG_REQ : Field := ⟨Addr.SEC_STATUS, 7, 1⟩
def Fld.SEC_STATUS_SVN : Field := ⟨Addr.SEC_STATUS, 8, 6⟩
def Fld.SEC_STATUS_Q_USABLE : Field := ⟨Addr.SEC_STATUS, 16, 4⟩
def Fld.SEC_STATUS_O_USABLE : Field := ⟨Addr.SEC_STATUS, 20, 4⟩
/-- SEC_SESSIONS (R414). -/
def Addr.SEC_SESSIONS : Nat := 0x71004
def Fld.SEC_SESSIONS_ACTIVE : Field := ⟨Addr.SEC_SESSIONS, 0, 5⟩
/-- SEC_IDE_CFG (R414). -/
def Addr.SEC_IDE_CFG : Nat := 0x71008
def Fld.SEC_IDE_CFG_REKEY_MIN : Field := ⟨Addr.SEC_IDE_CFG, 0, 16⟩
/-- SEC_IDE_CMD (R414). -/
def Addr.SEC_IDE_CMD : Nat := 0x7100C
def Fld.SEC_IDE_CMD_PORT : Field := ⟨Addr.SEC_IDE_CMD, 0, 6⟩
def Fld.SEC_IDE_CMD_OP : Field := ⟨Addr.SEC_IDE_CMD, 8, 2⟩
def Fld.SEC_IDE_CMD_KIND : Field := ⟨Addr.SEC_IDE_CMD, 10, 1⟩
/-- SEC_PROV_CMD (R414). -/
def Addr.SEC_PROV_CMD : Nat := 0x71020
def Fld.SEC_PROV_CMD_OP : Field := ⟨Addr.SEC_PROV_CMD, 0, 2⟩
def Fld.SEC_PROV_CMD_SLOT : Field := ⟨Addr.SEC_PROV_CMD, 4, 2⟩
def Fld.SEC_PROV_CMD_CONFIRM : Field := ⟨Addr.SEC_PROV_CMD, 24, 8⟩
/-- SEC_PROV_STATUS (R414). -/
def Addr.SEC_PROV_STATUS : Nat := 0x71024
def Fld.SEC_PROV_STATUS_STATE : Field := ⟨Addr.SEC_PROV_STATUS, 0, 2⟩
/-- SEC_LOCK (R414). -/
def Addr.SEC_LOCK : Nat := 0x710FC
def Fld.SEC_LOCK_LOCK : Field := ⟨Addr.SEC_LOCK, 0, 1⟩
/-- SEC_DBG_CTL (R414). -/
def Addr.SEC_DBG_CTL : Nat := 0x71200
def Fld.SEC_DBG_CTL_NONCE_REQ : Field := ⟨Addr.SEC_DBG_CTL, 0, 1⟩
def Fld.SEC_DBG_CTL_UNLOCK : Field := ⟨Addr.SEC_DBG_CTL, 1, 1⟩
/-- SEC_DBG_STATUS (R414). -/
def Addr.SEC_DBG_STATUS : Nat := 0x71204
def Fld.SEC_DBG_STATUS_STATE : Field := ⟨Addr.SEC_DBG_STATUS, 0, 3⟩
def Fld.SEC_DBG_STATUS_SCOPE : Field := ⟨Addr.SEC_DBG_STATUS, 4, 4⟩
def Fld.SEC_DBG_STATUS_CAUSE : Field := ⟨Addr.SEC_DBG_STATUS, 8, 3⟩
def Fld.SEC_DBG_STATUS_REFUSALS : Field := ⟨Addr.SEC_DBG_STATUS, 16, 8⟩
/-- SEC_PROV_DATA (R414). -/
def Addr.SEC_PROV_DATA (n : Nat) : Nat := 0x71040 + 4 * n
def Fld.SEC_PROV_DATA_HASH (n : Nat) : Field := ⟨Addr.SEC_PROV_DATA n, 0, 32⟩
/-- SEC_IDE_PORT (R414). -/
def Addr.SEC_IDE_PORT (n : Nat) : Nat := 0x71100 + 4 * n
def Fld.SEC_IDE_PORT_IO (n : Nat) : Field := ⟨Addr.SEC_IDE_PORT n, 0, 2⟩
def Fld.SEC_IDE_PORT_CM (n : Nat) : Field := ⟨Addr.SEC_IDE_PORT n, 2, 2⟩
def Fld.SEC_IDE_PORT_IO_KSET (n : Nat) : Field := ⟨Addr.SEC_IDE_PORT n, 4, 1⟩
def Fld.SEC_IDE_PORT_CM_KSET (n : Nat) : Field := ⟨Addr.SEC_IDE_PORT n, 5, 1⟩
def Fld.SEC_IDE_PORT_REQUESTER (n : Nat) : Field := ⟨Addr.SEC_IDE_PORT n, 6, 1⟩
def Fld.SEC_IDE_PORT_IGNORED (n : Nat) : Field := ⟨Addr.SEC_IDE_PORT n, 7, 9⟩
def Fld.SEC_IDE_PORT_REKEYS (n : Nat) : Field := ⟨Addr.SEC_IDE_PORT n, 16, 16⟩
/-- SEC_DBG_NONCE (R414). -/
def Addr.SEC_DBG_NONCE (n : Nat) : Nat := 0x71220 + 4 * n
def Fld.SEC_DBG_NONCE_NONCE (n : Nat) : Field := ⟨Addr.SEC_DBG_NONCE n, 0, 32⟩
/-- SEC_DIE_LOT0 (R414). -/
def Addr.SEC_DIE_LOT0 (n : Nat) : Nat := 0x73000 + 16 * n
def Fld.SEC_DIE_LOT0_LOT (n : Nat) : Field := ⟨Addr.SEC_DIE_LOT0 n, 0, 32⟩
/-- SEC_DIE_LOT1 (R414). -/
def Addr.SEC_DIE_LOT1 (n : Nat) : Nat := 0x73004 + 16 * n
def Fld.SEC_DIE_LOT1_LOT (n : Nat) : Field := ⟨Addr.SEC_DIE_LOT1 n, 0, 32⟩
/-- SEC_DIE_POS (R414). -/
def Addr.SEC_DIE_POS (n : Nat) : Nat := 0x73008 + 16 * n
def Fld.SEC_DIE_POS_POS (n : Nat) : Field := ⟨Addr.SEC_DIE_POS n, 0, 32⟩
/-- SEC_SERIAL (R414). -/
def Addr.SEC_SERIAL (n : Nat) : Nat := 0x73060 + 4 * n
def Fld.SEC_SERIAL_SERIAL (n : Nat) : Field := ⟨Addr.SEC_SERIAL n, 0, 32⟩
/-- SEC_DBG_TOKEN (R414). -/
def Addr.SEC_DBG_TOKEN (n : Nat) : Nat := 0x74000 + 4 * n
def Fld.SEC_DBG_TOKEN_TOKEN (n : Nat) : Field := ⟨Addr.SEC_DBG_TOKEN n, 0, 32⟩
/-- PERF_CNT_USER_EN_LO (R429). -/
def Addr.PERF_CNT_USER_EN_LO : Nat := 0xA1000
def Fld.PERF_CNT_USER_EN_LO_CNT_USER_EN : Field := ⟨Addr.PERF_CNT_USER_EN_LO, 0, 32⟩
/-- PERF_CNT_USER_EN_HI (R429). -/
def Addr.PERF_CNT_USER_EN_HI : Nat := 0xA1004
def Fld.PERF_CNT_USER_EN_HI_CNT_USER_EN : Field := ⟨Addr.PERF_CNT_USER_EN_HI, 0, 32⟩
/-- PERF_VIEW (R429). -/
def Addr.PERF_VIEW : Nat := 0xA1008
def Fld.PERF_VIEW_SLOT : Field := ⟨Addr.PERF_VIEW, 0, 2⟩
def Fld.PERF_VIEW_EN : Field := ⟨Addr.PERF_VIEW, 2, 1⟩
/-- PERF_SNAP_CTL (R429). -/
def Addr.PERF_SNAP_CTL (n : Nat) : Nat := 0xA1010 + 16 * n
def Fld.PERF_SNAP_CTL_FIRST (n : Nat) : Field := ⟨Addr.PERF_SNAP_CTL n, 0, 8⟩
def Fld.PERF_SNAP_CTL_LAST (n : Nat) : Field := ⟨Addr.PERF_SNAP_CTL n, 8, 8⟩
def Fld.PERF_SNAP_CTL_TAKE (n : Nat) : Field := ⟨Addr.PERF_SNAP_CTL n, 16, 1⟩
def Fld.PERF_SNAP_CTL_BUSY (n : Nat) : Field := ⟨Addr.PERF_SNAP_CTL n, 17, 1⟩
def Fld.PERF_SNAP_CTL_VALID (n : Nat) : Field := ⟨Addr.PERF_SNAP_CTL n, 18, 1⟩
/-- PERF_SNAP_TS_LO (R429). -/
def Addr.PERF_SNAP_TS_LO (n : Nat) : Nat := 0xA1018 + 16 * n
def Fld.PERF_SNAP_TS_LO_TS (n : Nat) : Field := ⟨Addr.PERF_SNAP_TS_LO n, 0, 32⟩
/-- PERF_SNAP_TS_HI (R429). -/
def Addr.PERF_SNAP_TS_HI (n : Nat) : Nat := 0xA101C + 16 * n
def Fld.PERF_SNAP_TS_HI_TS (n : Nat) : Field := ⟨Addr.PERF_SNAP_TS_HI n, 0, 32⟩
/-- PERF_LAT_CFG (R429). -/
def Addr.PERF_LAT_CFG : Nat := 0xA1050
def Fld.PERF_LAT_CFG_EN : Field := ⟨Addr.PERF_LAT_CFG, 0, 1⟩
def Fld.PERF_LAT_CFG_LOG2N : Field := ⟨Addr.PERF_LAT_CFG, 1, 5⟩
/-- PERF_HIST_CFG (R429). -/
def Addr.PERF_HIST_CFG (n : Nat) : Nat := 0xA1100 + 16 * n
def Fld.PERF_HIST_CFG_EN (n : Nat) : Field := ⟨Addr.PERF_HIST_CFG n, 0, 1⟩
def Fld.PERF_HIST_CFG_MODE (n : Nat) : Field := ⟨Addr.PERF_HIST_CFG n, 1, 1⟩
def Fld.PERF_HIST_CFG_IN_PORT (n : Nat) : Field := ⟨Addr.PERF_HIST_CFG n, 2, 6⟩
def Fld.PERF_HIST_CFG_IN_ANY (n : Nat) : Field := ⟨Addr.PERF_HIST_CFG n, 8, 1⟩
def Fld.PERF_HIST_CFG_OUT_PORT (n : Nat) : Field := ⟨Addr.PERF_HIST_CFG n, 9, 6⟩
def Fld.PERF_HIST_CFG_OUT_ANY (n : Nat) : Field := ⟨Addr.PERF_HIST_CFG n, 15, 1⟩
def Fld.PERF_HIST_CFG_SVC (n : Nat) : Field := ⟨Addr.PERF_HIST_CFG n, 16, 8⟩
def Fld.PERF_HIST_CFG_SHIFT (n : Nat) : Field := ⟨Addr.PERF_HIST_CFG n, 24, 4⟩
/-- PERF_HIST_BASE (R429). -/
def Addr.PERF_HIST_BASE (n : Nat) : Nat := 0xA1104 + 16 * n
def Fld.PERF_HIST_BASE_BASE (n : Nat) : Field := ⟨Addr.PERF_HIST_BASE n, 0, 20⟩
/-- PERF_HIST_MAX (R429). -/
def Addr.PERF_HIST_MAX (n : Nat) : Nat := 0xA1108 + 16 * n
def Fld.PERF_HIST_MAX_NS (n : Nat) : Field := ⟨Addr.PERF_HIST_MAX n, 0, 32⟩
/-- PERF_OVF_SEL (R429). -/
def Addr.PERF_OVF_SEL (n : Nat) : Nat := 0xA1500 + 32 * n
def Fld.PERF_OVF_SEL_PAGE (n : Nat) : Field := ⟨Addr.PERF_OVF_SEL n, 0, 8⟩
def Fld.PERF_OVF_SEL_INDEX (n : Nat) : Field := ⟨Addr.PERF_OVF_SEL n, 8, 13⟩
def Fld.PERF_OVF_SEL_EN (n : Nat) : Field := ⟨Addr.PERF_OVF_SEL n, 31, 1⟩
/-- PERF_OVF_MISSED (R429). -/
def Addr.PERF_OVF_MISSED (n : Nat) : Nat := 0xA1504 + 32 * n
def Fld.PERF_OVF_MISSED_COUNT (n : Nat) : Field := ⟨Addr.PERF_OVF_MISSED n, 0, 32⟩
/-- PERF_OVF_PERIOD_LO (R429). -/
def Addr.PERF_OVF_PERIOD_LO (n : Nat) : Nat := 0xA1508 + 32 * n
def Fld.PERF_OVF_PERIOD_LO_PERIOD (n : Nat) : Field := ⟨Addr.PERF_OVF_PERIOD_LO n, 0, 32⟩
/-- PERF_OVF_PERIOD_HI (R429). -/
def Addr.PERF_OVF_PERIOD_HI (n : Nat) : Nat := 0xA150C + 32 * n
def Fld.PERF_OVF_PERIOD_HI_PERIOD (n : Nat) : Field := ⟨Addr.PERF_OVF_PERIOD_HI n, 0, 32⟩
/-- PERF_OVF_THR_LO (R429). -/
def Addr.PERF_OVF_THR_LO (n : Nat) : Nat := 0xA1510 + 32 * n
def Fld.PERF_OVF_THR_LO_THR (n : Nat) : Field := ⟨Addr.PERF_OVF_THR_LO n, 0, 32⟩
/-- PERF_OVF_THR_HI (R429). -/
def Addr.PERF_OVF_THR_HI (n : Nat) : Nat := 0xA1514 + 32 * n
def Fld.PERF_OVF_THR_HI_THR (n : Nat) : Field := ⟨Addr.PERF_OVF_THR_HI n, 0, 32⟩
/-- PERF_OVF_VAL_LO (R429). -/
def Addr.PERF_OVF_VAL_LO (n : Nat) : Nat := 0xA1518 + 32 * n
def Fld.PERF_OVF_VAL_LO_VAL (n : Nat) : Field := ⟨Addr.PERF_OVF_VAL_LO n, 0, 32⟩
/-- PERF_OVF_VAL_HI (R429). -/
def Addr.PERF_OVF_VAL_HI (n : Nat) : Nat := 0xA151C + 32 * n
def Fld.PERF_OVF_VAL_HI_VAL (n : Nat) : Field := ⟨Addr.PERF_OVF_VAL_HI n, 0, 32⟩
/-- PERF_RING_CFG (R429). -/
def Addr.PERF_RING_CFG : Nat := 0xA1800
def Fld.PERF_RING_CFG_EN : Field := ⟨Addr.PERF_RING_CFG, 0, 1⟩
def Fld.PERF_RING_CFG_FAULTS : Field := ⟨Addr.PERF_RING_CFG, 1, 1⟩
def Fld.PERF_RING_CFG_LATENCY : Field := ⟨Addr.PERF_RING_CFG, 2, 1⟩
def Fld.PERF_RING_CFG_EXPORT : Field := ⟨Addr.PERF_RING_CFG, 3, 1⟩
def Fld.PERF_RING_CFG_PERIOD : Field := ⟨Addr.PERF_RING_CFG, 8, 16⟩
/-- PERF_RING_STATUS (R429). -/
def Addr.PERF_RING_STATUS : Nat := 0xA1804
def Fld.PERF_RING_STATUS_WIN_READY : Field := ⟨Addr.PERF_RING_STATUS, 0, 1⟩
/-- PERF_RING_WR (R429). -/
def Addr.PERF_RING_WR : Nat := 0xA1808
def Fld.PERF_RING_WR_SEQ : Field := ⟨Addr.PERF_RING_WR, 0, 32⟩
/-- PERF_RING_RD (R429). -/
def Addr.PERF_RING_RD : Nat := 0xA180C
def Fld.PERF_RING_RD_SEQ : Field := ⟨Addr.PERF_RING_RD, 0, 32⟩
/-- PERF_RING_LOST (R429). -/
def Addr.PERF_RING_LOST : Nat := 0xA1810
def Fld.PERF_RING_LOST_COUNT : Field := ⟨Addr.PERF_RING_LOST, 0, 32⟩
/-- PERF_RING_DROP (R429). -/
def Addr.PERF_RING_DROP : Nat := 0xA1814
def Fld.PERF_RING_DROP_COUNT : Field := ⟨Addr.PERF_RING_DROP, 0, 32⟩
/-- PERF_RING_MARK (R429). -/
def Addr.PERF_RING_MARK : Nat := 0xA1818
def Fld.PERF_RING_MARK_VALUE : Field := ⟨Addr.PERF_RING_MARK, 0, 32⟩
/-- PERF_EXP (R429). -/
def Addr.PERF_EXP (n : Nat) : Nat := 0xA1900 + 4 * n
def Fld.PERF_EXP_ENTRY (n : Nat) : Field := ⟨Addr.PERF_EXP n, 0, 32⟩
/-- PERF_USER_MAP (R429). -/
def Addr.PERF_USER_MAP (n : Nat) : Nat := 0xA2000 + 4 * n
def Fld.PERF_USER_MAP_PAGE (n : Nat) : Field := ⟨Addr.PERF_USER_MAP n, 0, 8⟩
def Fld.PERF_USER_MAP_INDEX (n : Nat) : Field := ⟨Addr.PERF_USER_MAP n, 8, 13⟩
def Fld.PERF_USER_MAP_V (n : Nat) : Field := ⟨Addr.PERF_USER_MAP n, 31, 1⟩
/-- PERF_RING_WIN (R429). -/
def Addr.PERF_RING_WIN (n : Nat) : Nat := 0xAA000 + 4 * n
def Fld.PERF_RING_WIN_WORD (n : Nat) : Field := ⟨Addr.PERF_RING_WIN n, 0, 32⟩
/-- DEV_VENDOR (R447). -/
def Addr.DEV_VENDOR : Nat := 0x1000
def Fld.DEV_VENDOR_VENDOR : Field := ⟨Addr.DEV_VENDOR, 0, 16⟩
def Fld.DEV_VENDOR_DEVICE : Field := ⟨Addr.DEV_VENDOR, 16, 16⟩
/-- DEV_MEMBER (R447). -/
def Addr.DEV_MEMBER : Nat := 0x1004
def Fld.DEV_MEMBER_MEMBER : Field := ⟨Addr.DEV_MEMBER, 0, 16⟩
def Fld.DEV_MEMBER_STEPPING : Field := ⟨Addr.DEV_MEMBER, 16, 8⟩
/-- DEV_SUMMARY (R447). -/
def Addr.DEV_SUMMARY : Nat := 0x1008
def Fld.DEV_SUMMARY_PGROUPS : Field := ⟨Addr.DEV_SUMMARY, 0, 5⟩
def Fld.DEV_SUMMARY_TILES : Field := ⟨Addr.DEV_SUMMARY, 5, 3⟩
def Fld.DEV_SUMMARY_COMB : Field := ⟨Addr.DEV_SUMMARY, 8, 1⟩
def Fld.DEV_SUMMARY_TANDEM : Field := ⟨Addr.DEV_SUMMARY, 9, 1⟩
def Fld.DEV_SUMMARY_HOME : Field := ⟨Addr.DEV_SUMMARY, 10, 1⟩
def Fld.DEV_SUMMARY_DLOG : Field := ⟨Addr.DEV_SUMMARY, 11, 1⟩
def Fld.DEV_SUMMARY_POOL : Field := ⟨Addr.DEV_SUMMARY, 12, 1⟩
def Fld.DEV_SUMMARY_CORES : Field := ⟨Addr.DEV_SUMMARY, 16, 4⟩
/-- DEV_FW_VER (R447). -/
def Addr.DEV_FW_VER : Nat := 0x100C
def Fld.DEV_FW_VER_VER : Field := ⟨Addr.DEV_FW_VER, 0, 32⟩
/-- DEV_ROM_VER (R447). -/
def Addr.DEV_ROM_VER : Nat := 0x1010
def Fld.DEV_ROM_VER_VER : Field := ⟨Addr.DEV_ROM_VER, 0, 32⟩
/-- DEV_MASTER (R447). -/
def Addr.DEV_MASTER : Nat := 0x1014
def Fld.DEV_MASTER_KIND : Field := ⟨Addr.DEV_MASTER, 0, 4⟩
def Fld.DEV_MASTER_ID : Field := ⟨Addr.DEV_MASTER, 4, 8⟩
/-- DEV_PAGES (R447). -/
def Addr.DEV_PAGES : Nat := 0x1018
def Fld.DEV_PAGES_LAST : Field := ⟨Addr.DEV_PAGES, 0, 12⟩
def Fld.DEV_PAGES_COUNT : Field := ⟨Addr.DEV_PAGES, 16, 12⟩
/-- DEV_LOCK_ALL (R447). -/
def Addr.DEV_LOCK_ALL : Nat := 0x1020
def Fld.DEV_LOCK_ALL_KEY : Field := ⟨Addr.DEV_LOCK_ALL, 0, 8⟩
/-- DEV_LOCK_STATUS (R447). -/
def Addr.DEV_LOCK_STATUS : Nat := 0x1024
def Fld.DEV_LOCK_STATUS_ALL_LOCKED : Field := ⟨Addr.DEV_LOCK_STATUS, 0, 1⟩
def Fld.DEV_LOCK_STATUS_UNLOCKED : Field := ⟨Addr.DEV_LOCK_STATUS, 16, 9⟩
/-- NVS_SIZE (R450). -/
def Addr.NVS_SIZE : Nat := 0x91004
def Fld.NVS_SIZE_MIB : Field := ⟨Addr.NVS_SIZE, 0, 16⟩
/-- NVS_CMD (R450). -/
def Addr.NVS_CMD : Nat := 0x91008
def Fld.NVS_CMD_OP : Field := ⟨Addr.NVS_CMD, 0, 4⟩
def Fld.NVS_CMD_CONFIRM : Field := ⟨Addr.NVS_CMD, 24, 8⟩
/-- NVS_CMD_STATUS (R450). -/
def Addr.NVS_CMD_STATUS : Nat := 0x9100C
def Fld.NVS_CMD_STATUS_STATE : Field := ⟨Addr.NVS_CMD_STATUS, 0, 2⟩
/-- NVS_WEAR (R450). -/
def Addr.NVS_WEAR : Nat := 0x91010
def Fld.NVS_WEAR_UNITS : Field := ⟨Addr.NVS_WEAR, 0, 16⟩
/-- NVS_STATUS (R450). -/
def Addr.NVS_STATUS : Nat := 0x91000
def Fld.NVS_STATUS_READY : Field := ⟨Addr.NVS_STATUS, 0, 1⟩
def Fld.NVS_STATUS_PARAM_OK : Field := ⟨Addr.NVS_STATUS, 1, 1⟩
def Fld.NVS_STATUS_PARAM_COPY : Field := ⟨Addr.NVS_STATUS, 2, 1⟩
/-- NVS_PARAM (R450). -/
def Addr.NVS_PARAM (n : Nat) : Nat := 0x91100 + 4 * n
def Fld.NVS_PARAM_WORD (n : Nat) : Field := ⟨Addr.NVS_PARAM n, 0, 32⟩
/-- EVT_PEND (R438). -/
def Addr.EVT_PEND (pg : Nat) : Nat := pg * 0x10000 + 0x40
def Fld.EVT_PEND_PEND (pg : Nat) : Field := ⟨Addr.EVT_PEND pg, 0, 32⟩
/-- EVT_PEND_SET (R438). -/
def Addr.EVT_PEND_SET (pg : Nat) : Nat := pg * 0x10000 + 0x44
def Fld.EVT_PEND_SET_PEND (pg : Nat) : Field := ⟨Addr.EVT_PEND_SET pg, 0, 32⟩
/-- EVT_PEND_CLR (R438). -/
def Addr.EVT_PEND_CLR (pg : Nat) : Nat := pg * 0x10000 + 0x48
def Fld.EVT_PEND_CLR_PEND (pg : Nat) : Field := ⟨Addr.EVT_PEND_CLR pg, 0, 32⟩
/-- EVT_EN (R438). -/
def Addr.EVT_EN (pg : Nat) : Nat := pg * 0x10000 + 0x50
def Fld.EVT_EN_EN (pg : Nat) : Field := ⟨Addr.EVT_EN pg, 0, 32⟩
/-- EVT_EN_SET (R438). -/
def Addr.EVT_EN_SET (pg : Nat) : Nat := pg * 0x10000 + 0x54
def Fld.EVT_EN_SET_EN (pg : Nat) : Field := ⟨Addr.EVT_EN_SET pg, 0, 32⟩
/-- EVT_EN_CLR (R438). -/
def Addr.EVT_EN_CLR (pg : Nat) : Nat := pg * 0x10000 + 0x58
def Fld.EVT_EN_CLR_EN (pg : Nat) : Field := ⟨Addr.EVT_EN_CLR pg, 0, 32⟩
/-- ERR_FIRST_ADDR_LO (R357). -/
def Addr.ERR_FIRST_ADDR_LO (pg : Nat) : Nat := pg * 0x10000 + 0x80
def Fld.ERR_FIRST_ADDR_LO_ADDR (pg : Nat) : Field := ⟨Addr.ERR_FIRST_ADDR_LO pg, 0, 32⟩
/-- ERR_FIRST_ADDR_HI (R357). -/
def Addr.ERR_FIRST_ADDR_HI (pg : Nat) : Nat := pg * 0x10000 + 0x84
def Fld.ERR_FIRST_ADDR_HI_ADDR (pg : Nat) : Field := ⟨Addr.ERR_FIRST_ADDR_HI pg, 0, 20⟩
/-- ERR_FIRST_MASTER (R357). -/
def Addr.ERR_FIRST_MASTER (pg : Nat) : Nat := pg * 0x10000 + 0x88
def Fld.ERR_FIRST_MASTER_MASTER (pg : Nat) : Field := ⟨Addr.ERR_FIRST_MASTER pg, 0, 16⟩
def Fld.ERR_FIRST_MASTER_UNIT (pg : Nat) : Field := ⟨Addr.ERR_FIRST_MASTER pg, 16, 8⟩
/-- ERR_FIRST_ATYPE (R357). -/
def Addr.ERR_FIRST_ATYPE (pg : Nat) : Nat := pg * 0x10000 + 0x8C
def Fld.ERR_FIRST_ATYPE_KIND (pg : Nat) : Field := ⟨Addr.ERR_FIRST_ATYPE pg, 0, 12⟩
def Fld.ERR_FIRST_ATYPE_CLASS (pg : Nat) : Field := ⟨Addr.ERR_FIRST_ATYPE pg, 12, 2⟩
def Fld.ERR_FIRST_ATYPE_ATYPE (pg : Nat) : Field := ⟨Addr.ERR_FIRST_ATYPE pg, 16, 4⟩
def Fld.ERR_FIRST_ATYPE_VALID (pg : Nat) : Field := ⟨Addr.ERR_FIRST_ATYPE pg, 31, 1⟩
/-- ERR_ACK (R357). -/
def Addr.ERR_ACK (pg : Nat) : Nat := pg * 0x10000 + 0x98
def Fld.ERR_ACK_ACK (pg : Nat) : Field := ⟨Addr.ERR_ACK pg, 0, 1⟩
/-- ERR_FIRST_TS_LO (R357). -/
def Addr.ERR_FIRST_TS_LO (pg : Nat) : Nat := pg * 0x10000 + 0x90
def Fld.ERR_FIRST_TS_LO_TS (pg : Nat) : Field := ⟨Addr.ERR_FIRST_TS_LO pg, 0, 32⟩
/-- ERR_FIRST_TS_HI (R357). -/
def Addr.ERR_FIRST_TS_HI (pg : Nat) : Nat := pg * 0x10000 + 0x94
def Fld.ERR_FIRST_TS_HI_TS (pg : Nat) : Field := ⟨Addr.ERR_FIRST_TS_HI pg, 0, 32⟩

end Sys2Proof.Machine
end

