-- ==== Sys2Proof/Machine/Events.lean ====
section
/-! DEFINITION. Sys2Proof/Machine/Events.lean: the event bits of every page (R438, R441 and the event tables of the chapters), the
event masks, the fault kinds of the catalogue (R366) and the addresses of the PERF counters (R418). -/
namespace Sys2Proof.Machine

/-- An event: the page and the event bit (R441). -/
structure Event where
  page : Nat
  bit : Nat
deriving DecidableEq, Repr

def Evt.PWR_FEED_SWITCH : Event := ⟨0x003, 0⟩
def Evt.PWR_FEED_A_LOST : Event := ⟨0x003, 1⟩
def Evt.PWR_FEED_B_LOST : Event := ⟨0x003, 2⟩
def Evt.PWR_FEED_A_QUAL : Event := ⟨0x003, 3⟩
def Evt.PWR_FEED_B_QUAL : Event := ⟨0x003, 4⟩
def Evt.PWR_ILIM : Event := ⟨0x003, 5⟩
def Evt.PWR_PG_DROP : Event := ⟨0x003, 6⟩
def Evt.PWR_THERM_WARN : Event := ⟨0x003, 7⟩
def Evt.PWR_NV_DEFAULTS : Event := ⟨0x003, 8⟩
def Evt.VCS_BIND_DONE : Event := ⟨0x060, 0⟩
def Evt.VCS_UNBIND_DONE : Event := ⟨0x060, 1⟩
def Evt.VCS_FLUSH_DONE : Event := ⟨0x060, 2⟩
def Evt.VCS_GEN_DISCARD : Event := ⟨0x060, 3⟩
def Evt.VCS_UNBOUND_ACCESS : Event := ⟨0x060, 4⟩
def Evt.VCS_USP_DOWN : Event := ⟨0x060, 5⟩
def Evt.SCHED_APPLIED : Event := ⟨0x040, 0⟩
def Evt.SCHED_RED : Event := ⟨0x040, 1⟩
def Evt.SCHED_SHAPE_HOLD : Event := ⟨0x040, 2⟩
def Evt.FLT_CORRECTED : Event := ⟨0x004, 0⟩
def Evt.FLT_CONTAINED : Event := ⟨0x004, 1⟩
def Evt.FLT_ESCALATED : Event := ⟨0x004, 2⟩
def Evt.FLT_LOG_HALF : Event := ⟨0x004, 3⟩
def Evt.FLT_ALERT : Event := ⟨0x004, 4⟩
def Evt.FLT_REC_MISSING : Event := ⟨0x004, 5⟩
def Evt.MBX_POLICY_STOPPED : Event := ⟨0x006, 0⟩
def Evt.MBX_FM_CHANGED : Event := ⟨0x006, 1⟩
def Evt.SEC_SELFTEST_DONE : Event := ⟨0x007, 0⟩
def Evt.SEC_IDE_SECURE : Event := ⟨0x007, 1⟩
def Evt.SEC_IDE_INSECURE : Event := ⟨0x007, 2⟩
def Evt.SEC_REKEY_DONE : Event := ⟨0x007, 3⟩
def Evt.SEC_DBG_OPENED : Event := ⟨0x007, 4⟩
def Evt.SEC_DBG_REFUSED : Event := ⟨0x007, 5⟩
def Evt.SEC_SESSION_LIMIT : Event := ⟨0x007, 6⟩
def Evt.SEC_PROV_DONE : Event := ⟨0x007, 7⟩
def Evt.PERF_SNAP_DONE : Event := ⟨0x00A, 16⟩
def Evt.PERF_WIN_READY : Event := ⟨0x00A, 17⟩
def Evt.PERF_RING_LOST : Event := ⟨0x00A, 18⟩
def Evt.PERF_RING_DROP : Event := ⟨0x00A, 19⟩
def Evt.NVS_ITEM_INVALID : Event := ⟨0x009, 0⟩
def Evt.NVS_WEAR_HIGH : Event := ⟨0x009, 1⟩
def Evt.NVS_CMD_DONE : Event := ⟨0x009, 2⟩
def Evt.LANE_CAL_DONE (i : Nat) : Event := ⟨lanePage i, 0⟩
def Evt.LANE_LANE_FAIL (i : Nat) : Event := ⟨lanePage i, 1⟩
def Evt.LANE_TEST_DONE (i : Nat) : Event := ⟨lanePage i, 2⟩
def Evt.LANE_EYE_DONE (i : Nat) : Event := ⟨lanePage i, 3⟩
def Evt.LANE_EQ_RAIL (i : Nat) : Event := ⟨lanePage i, 4⟩
def Evt.LANE_ERR_HALF (i : Nat) : Event := ⟨lanePage i, 5⟩
def Evt.CLK_REFCLK_LOST : Event := ⟨0x001, 0⟩
def Evt.CLK_REFCLK_BACK : Event := ⟨0x001, 1⟩
def Evt.CLK_REF_SWITCH : Event := ⟨0x001, 2⟩
def Evt.CLK_STRAP_CHG : Event := ⟨0x001, 3⟩
def Evt.TIME_SRC_WAGGLE : Event := ⟨0x008, 0⟩
def Evt.TIME_SRC_TCXO : Event := ⟨0x008, 1⟩
def Evt.TIME_ALIGNED : Event := ⟨0x008, 2⟩
def Evt.TIME_SET_IGNORED : Event := ⟨0x008, 3⟩
def Evt.BOOT_STAGE_DONE : Event := ⟨0x002, 0⟩
def Evt.BOOT_FABRIC_READY : Event := ⟨0x002, 1⟩
def Evt.BOOT_START_FAIL : Event := ⟨0x002, 2⟩
def Evt.BOOT_SLOT_FALLBACK : Event := ⟨0x002, 3⟩
def Evt.EHR_TRAINED (t : Nat) : Event := ⟨0x20 + t, 0⟩
def Evt.EHR_REPLAY (t : Nat) : Event := ⟨0x20 + t, 1⟩
def Evt.XBAR_PRIV_STALL : Event := ⟨0x030, 0⟩
def Evt.BUF_ADMIT_HOLD : Event := ⟨0x031, 0⟩
def Evt.BUF_STRAND_EMPTY : Event := ⟨0x031, 1⟩
def Evt.BUF_CELL_POISON : Event := ⟨0x031, 2⟩
def Evt.MCAST_NO_TARGET : Event := ⟨0x032, 0⟩
def Evt.HOME_CQ_FULL : Event := ⟨0x070, 16⟩
def Evt.HOME_HIVE_ACTIVE : Event := ⟨0x070, 17⟩
def Evt.HOME_HOST_LEFT : Event := ⟨0x070, 18⟩
def Evt.HOME_HOST_LOST : Event := ⟨0x070, 19⟩
def Evt.HOME_BIRSP_DISCARD : Event := ⟨0x070, 20⟩
def Evt.HOME_SWEEP_DONE : Event := ⟨0x070, 21⟩
def Evt.DIRC_CAP_EVICT : Event := ⟨0x071, 0⟩
def Evt.DIRC_ECC_CORR : Event := ⟨0x071, 1⟩
def Evt.DIRC_LOOKUP_DONE : Event := ⟨0x071, 2⟩
def Evt.COMB_UP : Event := ⟨0x080, 0⟩
def Evt.COMB_CE : Event := ⟨0x080, 1⟩
def Evt.COMB_UE : Event := ⟨0x080, 2⟩
def Evt.COMB_SCRUB_PASS : Event := ⟨0x080, 3⟩
def Evt.COMB_ROW_LISTED : Event := ⟨0x080, 4⟩
def Evt.COMB_REFRESH_2X : Event := ⟨0x080, 5⟩
def Evt.CARB_AGED : Event := ⟨0x081, 0⟩
def Evt.CARB_BACKOFF_CAP : Event := ⟨0x081, 1⟩
def Evt.POOL_POOL_POISON : Event := ⟨0x082, 0⟩
def Evt.POOL_CFG_IGNORED : Event := ⟨0x082, 1⟩
def Evt.HAT_COMMIT_DONE : Event := ⟨0x050, 0⟩
def Evt.HAT_COMMIT_REFUSED : Event := ⟨0x050, 1⟩
def Evt.HAT_COMMIT_ABORT : Event := ⟨0x050, 2⟩
def Evt.HAT_RULE_FAULT : Event := ⟨0x050, 3⟩
def Evt.HAT_SPOOF : Event := ⟨0x050, 4⟩
def Evt.HAT_WRITE_IGNORED : Event := ⟨0x050, 5⟩
def Evt.MOVER_CH_HALT : Event := ⟨0x090, 0⟩
def Evt.MOVER_CFG_IGNORED : Event := ⟨0x090, 1⟩
def Evt.MOVER_VF_RESET_DONE : Event := ⟨0x090, 2⟩
def Evt.DLOG_HARVEST_DONE : Event := ⟨0x091, 0⟩
def Evt.DLOG_CFG_IGNORED : Event := ⟨0x091, 1⟩
def Evt.TDM_LINK_UP : Event := ⟨0x0A0, 0⟩
def Evt.TDM_LINK_DOWN : Event := ⟨0x0A0, 1⟩
def Evt.TDM_CREDIT_RETRAIN : Event := ⟨0x0A0, 2⟩
def Evt.TDM_MISMATCH : Event := ⟨0x0A0, 3⟩
def Evt.TDM_ROLE_CHG : Event := ⟨0x0A0, 4⟩
def Evt.TDM_PROMOTED : Event := ⟨0x0A0, 5⟩
def Evt.TDM_PARTNER_FAILED : Event := ⟨0x0A0, 6⟩
def Evt.TDM_PAIR_LOST : Event := ⟨0x0A0, 7⟩
def Evt.TDM_SWAP_FAIL : Event := ⟨0x0A0, 8⟩
def Evt.TDM_OVERFLOW : Event := ⟨0x0A0, 9⟩
def Evt.TDM_RESYNC_DONE : Event := ⟨0x0A0, 10⟩
def Evt.TDM_GAP : Event := ⟨0x0A0, 11⟩
def Evt.TDM_VERSION : Event := ⟨0x0A0, 12⟩
def Evt.TDM_SPLIT : Event := ⟨0x0A0, 13⟩
def Evt.TDM_STRAP_CONFLICT : Event := ⟨0x0A0, 14⟩
def Evt.WAGGLE_LANE : Event := ⟨0x0A1, 0⟩
def Evt.WAGGLE_LOCK : Event := ⟨0x0A1, 1⟩
def Evt.WAGGLE_BLOCK_LOST : Event := ⟨0x0A1, 2⟩
def Evt.WAGGLE_WAGGLE_ONLY : Event := ⟨0x0A1, 3⟩
def Evt.WAGGLE_CABLE_OUT : Event := ⟨0x0A1, 4⟩
def Evt.SWARM_UNREACHABLE : Event := ⟨0x0A2, 0⟩
def Evt.SWARM_REACHABLE : Event := ⟨0x0A2, 1⟩
def Evt.SWARM_NOTICE : Event := ⟨0x0A2, 2⟩
def Evt.SWARM_VER_DISCARD : Event := ⟨0x0A2, 3⟩
def Evt.HOME_HIVE_DOWN (h : Nat) : Event := ⟨0x070, h⟩
def Evt.PERF_SAMPLE (k : Nat) : Event := ⟨0x00A, k⟩
def Evt.PORTG_BIFUR_DONE (k : Nat) : Event := ⟨0x10 + k, 0⟩
def Evt.PORTG_CPRES_CHG (k : Nat) : Event := ⟨0x10 + k, 1⟩
/-- Event LINK_UP of port p (R138). -/
def Evt.PORT_LINK_UP (p : Nat) : Event := ⟨0x10 + p / 4, 8 + 6 * (p % 4)⟩
/-- Event LINK_DOWN of port p (R138). -/
def Evt.PORT_LINK_DOWN (p : Nat) : Event := ⟨0x10 + p / 4, 9 + 6 * (p % 4)⟩
/-- Event HELD of port p (R138). -/
def Evt.PORT_HELD (p : Nat) : Event := ⟨0x10 + p / 4, 10 + 6 * (p % 4)⟩
/-- Event DSX_SLEEP of port p (R138). -/
def Evt.PORT_DSX_SLEEP (p : Nat) : Event := ⟨0x10 + p / 4, 11 + 6 * (p % 4)⟩
/-- Event DSX_WAKE of port p (R138). -/
def Evt.PORT_DSX_WAKE (p : Nat) : Event := ⟨0x10 + p / 4, 12 + 6 * (p % 4)⟩
/-- Event DSX_ERR of port p (R138). -/
def Evt.PORT_DSX_ERR (p : Nat) : Event := ⟨0x10 + p / 4, 13 + 6 * (p % 4)⟩

/-- PAGE_EVT_MASK: the event bits a block implements (R438). -/
def evtMask : Block → Nat
  | .pwr => 0x1FF
  | .vcs => 0x3F
  | .sched => 0x7
  | .flt => 0x3F
  | .mbx => 0x3
  | .sec => 0xFF
  | .perf => 0xFFFFF
  | .nvs => 0x7
  | .lane | .tlane | .wlane => 0x3F
  | .clk => 0xF
  | .time => 0xF
  | .boot => 0xF
  | .ehr => 0x3
  | .xbar => 0x1
  | .buf => 0x7
  | .mcast => 0x1
  | .home => 0x3FFFFF
  | .dirc => 0x7
  | .comb => 0x3F
  | .carb => 0x3
  | .pool => 0x3
  | .hat => 0x3F
  | .mover => 0x7
  | .dlog => 0x3
  | .tdm => 0x7FFF
  | .waggle => 0x1F
  | .swarm => 0xF
  | .portg => 0xFFFFFF03
  | .dev | .intc | .schedTbl | .hatRules | .bindTbl | .perfArr => 0

/-- KEEPER_LOCKSTEP, reported fatal (R366). -/
def Kind.KEEPER_LOCKSTEP : Nat := 0x001
/-- KEEPER_WATCHDOG, reported fatal (R366). -/
def Kind.KEEPER_WATCHDOG : Nat := 0x002
/-- KEEPER_SRAM_CE, reported corrected (R366). -/
def Kind.KEEPER_SRAM_CE : Nat := 0x003
/-- PLL_UNLOCK, reported fatal (R366). -/
def Kind.PLL_UNLOCK : Nat := 0x011
/-- TCXO_LOST, reported fatal (R366). -/
def Kind.TCXO_LOST : Nat := 0x012
/-- REFCLK_LOST, reported corrected (R366). -/
def Kind.REFCLK_LOST : Nat := 0x013
/-- START_FAIL, reported fatal (R366). -/
def Kind.START_FAIL : Nat := 0x021
/-- POWER_FAULT, reported fatal (R366). -/
def Kind.POWER_FAULT : Nat := 0x031
/-- REMOVAL, reported stop (R366). -/
def Kind.REMOVAL : Nat := 0x032
/-- THERM_TRIP, reported fatal (R366). -/
def Kind.THERM_TRIP : Nat := 0x033
/-- FLT_LOG_FULL, reported fatal (R366). -/
def Kind.FLT_LOG_FULL : Nat := 0x041
/-- FLT_PARITY, reported fatal (R366). -/
def Kind.FLT_PARITY : Nat := 0x042
/-- INTC_PARITY, reported fatal (R366). -/
def Kind.INTC_PARITY : Nat := 0x051
/-- SEC_SELFTEST, reported fatal (R366). -/
def Kind.SEC_SELFTEST : Nat := 0x071
/-- NV_CE, reported corrected (R366). -/
def Kind.NV_CE : Nat := 0x091
/-- NV_UE, reported contained (R366). -/
def Kind.NV_UE : Nat := 0x092
/-- LANE_FAIL, reported contained (R366). -/
def Kind.LANE_FAIL : Nat := 0x101
/-- CAL_FAIL, reported contained (R366). -/
def Kind.CAL_FAIL : Nat := 0x102
/-- WIDTH_SHORT, reported contained (R366). -/
def Kind.WIDTH_SHORT : Nat := 0x103
/-- RATE_SHORT, reported contained (R366). -/
def Kind.RATE_SHORT : Nat := 0x104
/-- FLIT_MISMATCH, reported contained (R366). -/
def Kind.FLIT_MISMATCH : Nat := 0x105
/-- PROTOCOL_MISMATCH, reported contained (R366). -/
def Kind.PROTOCOL_MISMATCH : Nat := 0x106
/-- REFCLK_SSC, reported contained (R366). -/
def Kind.REFCLK_SSC : Nat := 0x107
/-- IDE_CHECK, reported contained (R366). -/
def Kind.IDE_CHECK : Nat := 0x108
/-- TILE_PARITY, reported fatal (R366). -/
def Kind.TILE_PARITY : Nat := 0x109
/-- EHR_REPLAY, reported corrected (R366). -/
def Kind.EHR_REPLAY : Nat := 0x201
/-- EHR_FAIL, reported fatal (R366). -/
def Kind.EHR_FAIL : Nat := 0x202
/-- XBAR_PARITY, reported fatal (R366). -/
def Kind.XBAR_PARITY : Nat := 0x301
/-- CELL_CE, reported corrected (R366). -/
def Kind.CELL_CE : Nat := 0x311
/-- CELL_UE, reported contained (R366). -/
def Kind.CELL_UE : Nat := 0x312
/-- HDR_UE, reported fatal (R366). -/
def Kind.HDR_UE : Nat := 0x313
/-- LIST_CE, reported corrected (R366). -/
def Kind.LIST_CE : Nat := 0x314
/-- LIST_UE, reported fatal (R366). -/
def Kind.LIST_UE : Nat := 0x315
/-- REFCNT, reported fatal (R366). -/
def Kind.REFCNT : Nat := 0x321
/-- SCHED_PARITY, reported fatal (R366). -/
def Kind.SCHED_PARITY : Nat := 0x401
/-- BIND_PARITY, reported fatal (R366). -/
def Kind.BIND_PARITY : Nat := 0x601
/-- HIVE_BI_TIMEOUT, reported contained (R366). -/
def Kind.HIVE_BI_TIMEOUT : Nat := 0x701
/-- HIVE_HOST_LOST, reported contained (R366). -/
def Kind.HIVE_HOST_LOST : Nat := 0x702
/-- HIVE_DIR_ECC, reported contained (R366). -/
def Kind.HIVE_DIR_ECC : Nat := 0x703
/-- HIVE_PROTOCOL, reported contained (R366). -/
def Kind.HIVE_PROTOCOL : Nat := 0x704
/-- HIVE_SOFTWARE, reported contained (R366). -/
def Kind.HIVE_SOFTWARE : Nat := 0x705
/-- HIVE_RECOVERY_TAIL, reported contained (R366). -/
def Kind.HIVE_RECOVERY_TAIL : Nat := 0x706
/-- HOME_PARITY, reported fatal (R366). -/
def Kind.HOME_PARITY : Nat := 0x708
/-- DIR_CE, reported corrected (R366). -/
def Kind.DIR_CE : Nat := 0x711
/-- COMB_CE, reported corrected (R366). -/
def Kind.COMB_CE : Nat := 0x801
/-- COMB_UE, reported contained (R366). -/
def Kind.COMB_UE : Nat := 0x802
/-- PC_FAIL, reported fatal (R366). -/
def Kind.PC_FAIL : Nat := 0x803
/-- PART_BOUND, reported fatal (R366). -/
def Kind.PART_BOUND : Nat := 0x804
/-- CARB_PARITY, reported fatal (R366). -/
def Kind.CARB_PARITY : Nat := 0x811
/-- MOVER_PARITY, reported fatal (R366). -/
def Kind.MOVER_PARITY : Nat := 0x901
/-- DLOG_CACHE_CE, reported corrected (R366). -/
def Kind.DLOG_CACHE_CE : Nat := 0x911
/-- DLOG_CACHE_UE, reported contained (R366). -/
def Kind.DLOG_CACHE_UE : Nat := 0x912
/-- TDM_PARITY, reported fatal (R366). -/
def Kind.TDM_PARITY : Nat := 0xA01
/-- SPLIT, reported fatal (R366). -/
def Kind.SPLIT : Nat := 0xA02
/-- TLANE_FAIL, reported contained (R366). -/
def Kind.TLANE_FAIL : Nat := 0xB11
/-- WAGGLE_FAIL, reported contained (R366). -/
def Kind.WAGGLE_FAIL : Nat := 0xB12

/-- The register-space offset of the low word of PERF counter e of unit u on array page 0x800 + g (R418). -/
def perfAddr (g stride u e : Nat) : Nat := (0x800 + g) * 0x10000 + 0x1000 + 8 * (stride * u + e)
def Ctr.LANE (u e : Nat) : Nat := perfAddr 0x00 8 u e
def Ctr.PORT (p e : Nat) : Nat := perfAddr 0x01 32 p e
def Ctr.SVC (p s e : Nat) : Nat := perfAddr 0x02 4 (8 * p + s) e
def Ctr.CORE (u e : Nat) : Nat := perfAddr 0x03 4 u e
def Ctr.COMB (u e : Nat) : Nat := perfAddr 0x04 20 u e
def Ctr.HOME (h e : Nat) : Nat := perfAddr 0x05 16 h e
def Ctr.PAIR (u e : Nat) : Nat := perfAddr 0x06 8 u e
def Ctr.MOVER (u e : Nat) : Nat := perfAddr 0x07 8 u e
def Ctr.SPOOF (p e : Nat) : Nat := perfAddr 0x08 8 p e
def Ctr.FLTSRC (g e : Nat) : Nat := perfAddr 0x09 2 g e
def Ctr.MBOX (k e : Nat) : Nat := perfAddr 0x0A 8 k e
def Ctr.SECC (u e : Nat) : Nat := perfAddr 0x0B 4 u e
def Ctr.SUB (u e : Nat) : Nat := perfAddr (0x10 + u / 512) 8 (u % 512) e
def Ctr.VPPB (n e : Nat) : Nat := perfAddr (0x20 + n / 512) 8 (n % 512) e
def Ctr.KIND (k e : Nat) : Nat := perfAddr (0x30 + k / 1536) 4 (k % 1536) e
def Ctr.ICLAIM (n e : Nat) : Nat := perfAddr 0x38 2 n e
def Ctr.HIST (h b : Nat) : Nat := perfAddr 0x3C 32 h b
def Ctr.HSTAT (h e : Nat) : Nat := perfAddr 0x3D 4 h e

/-- The units and STRIDE that the array map table assigns to an array page, with the counters used of each unit (R418). -/
def perfArray : Nat → Option (Nat × Nat × (Nat → Nat))
  | 0x00 => some (265, 8, fun _ => 8) | 0x01 => some (64, 32, fun _ => 30) | 0x02 => some (512, 4, fun _ => 4)
  | 0x03 => some (9, 4, fun _ => 4) | 0x04 => some (33, 20, fun u => if u < 9 then 20 else 2) | 0x05 => some (16, 16, fun _ => 16)
  | 0x06 => some (66, 8, fun u => if u < 2 then 7 else 5) | 0x07 => some (128, 8, fun u => if u < 64 then 7 else 4)
  | 0x08 => some (64, 8, fun _ => 6) | 0x09 => some (256, 2, fun _ => 2) | 0x0A => some (67, 8, fun _ => 8)
  | 0x0B => some (69, 4, fun u => if u < 4 then 2 else if u < 68 then 3 else 2)
  | 0x10 | 0x11 | 0x12 | 0x13 | 0x14 | 0x15 | 0x16 | 0x17 => some (512, 8, fun _ => 8)
  | 0x20 | 0x21 | 0x22 | 0x23 | 0x24 | 0x25 | 0x26 | 0x27 => some (512, 8, fun _ => 4)
  | 0x30 | 0x31 => some (1536, 4, fun _ => 4) | 0x32 => some (1024, 4, fun _ => 4)
  | 0x38 => some (2048, 2, fun _ => 2) | 0x3C => some (64, 32, fun _ => 32) | 0x3D => some (64, 4, fun _ => 3)
  | _ => none

/-- Does array page 0x800 + g assign counter index c = STRIDE * u + e (R418)? -/
def perfAssigned (g c : Nat) : Bool :=
  match perfArray g with
  | none => false
  | some (units, stride, used) => decide (c / stride < units) && decide (c % stride < used (c / stride))
    && !(g == 0x08 && c % stride == 0)

end Sys2Proof.Machine
end

