-- ==== Sys2Proof/Machine/Parts.lean ====
section
/-! DEFINITION. Sys2Proof/Machine/Parts.lean: the state of each unit of the module that is not a register of the register space. -/
namespace Sys2Proof.Machine

/-! ### Carrier: power entry, pins and the AUX domain -/

/-- State of the hot-swap controller and the power monitor beside the PWR page (R33 to R48, AUX domain). -/
structure Hs where
  /-- The AUX domain is powered and out of its reset (R71). -/
  auxUp : Bool
  /-- What the controller sampled in its last tick: seating pins, feed voltages and currents, FET and junction temperatures, bus, limiting (R34). -/
  smp : HsSample
  /-- SEAT_L read unseated in the tick before (R42). -/
  unseatL : Bool
  /-- SEAT_R read unseated in the tick before (R42). -/
  unseatR : Bool
  /-- Feed A was outside its disqualification limits in the tick before (R43). -/
  badA : Bool
  /-- Feed B was outside its disqualification limits in the tick before (R43). -/
  badB : Bool
  /-- Ticks for which feed A has been within its limits, toward 10 ms (R43). -/
  goodA : Nat
  /-- Ticks for which feed B has been within its limits, toward 10 ms (R43). -/
  goodB : Nat
  /-- The cool-down flag (R41). -/
  cooldown : Bool
  /-- Severe overcurrent latched until the controller takes it (R38). -/
  severe : Bool
  /-- The timer of the state under way (debounce, ramp, retry, switching), in ticks (R39). -/
  timer : Nat
  /-- Ticks the preferred feed has been qualified and not in use, toward the planned return (R44). -/
  revert : Nat
  /-- Ticks left of the 100 ms after a switch of feeds (R44). -/
  holdoff : Nat
  /-- The switch under way is a planned return (R44). -/
  planned : Bool
  /-- The feed a switch goes to (R44). -/
  target : Feed
  /-- The target feed's path is closed (R44). -/
  targetClosed : Bool
  /-- The pass FET is on (R36). -/
  fetOn : Bool
  /-- The bus converter is enabled (R36). -/
  convOn : Bool
  /-- A fail-stop record is missing, kept by AUX (R364). -/
  recMissing : Bool
  /-- TCXO_SETTLE in ms, as loaded with the parameter block (R33, R61). -/
  tcxoSettle : Nat
  /-- REFCLK_SETTLE in 10 µs steps, as loaded with the parameter block (R33, R61). -/
  refSettle : Nat
  /-- Samples in the current average of the power monitor (R47). -/
  samples : Nat
  /-- Sum of feed A's voltage samples (R47). -/
  sumVA : Nat
  /-- Sum of feed B's voltage samples (R47). -/
  sumVB : Nat
  /-- Sum of feed A's current samples (R47). -/
  sumIA : Nat
  /-- Sum of feed B's current samples (R47). -/
  sumIB : Nat
  /-- Sum of feed A's power products (R47). -/
  sumPA : Nat
  /-- Sum of feed B's power products (R47). -/
  sumPB : Nat
  /-- Energy of feed A not yet counted as a whole unit (R48). -/
  residA : Nat
  /-- Energy of feed B not yet counted as a whole unit (R48). -/
  residB : Nat
deriving DecidableEq, Repr

/-- A sample of an inserted module running from feed A at 48 V. (log 217, DESIGN CHOICE) -/
def HsSample.nominal : HsSample :=
  { seatL := true, seatR := true, vA := 48000, vB := 0, iA := 0, iB := 0, limiting := false, fetA := 64, fetB := 64, jmax := 64,
    bus := 12000, polOk := true, conducting := true, running := true, fetOff := false }

/-- The controller just after it entered ON (the moment State.reset stands for). -/
def Hs.reset : Hs :=
  { auxUp := true, smp := HsSample.nominal, unseatL := false, unseatR := false, badA := false, badB := false, goodA := 10000, goodB := 0,
    cooldown := false, severe := false, timer := 0, revert := 0, holdoff := 0, planned := false, target := .a, targetClosed := false,
    fetOn := true, convOn := true, recMissing := false, tcxoSettle := 10, refSettle := 100, samples := 0, sumVA := 0, sumVB := 0, sumIA := 0, sumIB := 0, sumPA := 0,
    sumPB := 0, residA := 0, residB := 0 }

/-! ### Clocks, resets and start-up -/

/-- Clock and reset state beside the CLK and TIME pages (R59 to R73). `pllLock` is laid out as CLK_STATUS[16:8]. -/
structure Clk where
  /-- Power-on reset is asserted (R37, R71). -/
  porAsserted : Bool
  /-- The management PLL is released (R61). -/
  pllReleased : Bool
  /-- The MGMT domain is out of reset (R71). -/
  mgmtUp : Bool
  /-- Management clocks have stopped (R82). -/
  mgmtStopped : Bool
  /-- Stage 3 has overrun or failed (R75). -/
  stage3Failed : Bool
  /-- The FABRIC domain is held in reset (R71, R73). -/
  fabricHeld : Bool
  /-- PERST_N is low (R72). -/
  perstLow : Bool
  /-- The reset asked for by CLK_RESET is in progress (R82). -/
  resetPulse : Bool
  /-- A fail-stop holds the fabric (R361). -/
  stopHeld : Bool
  /-- A start-up failure holds the fabric (R75). -/
  startFail : Bool
  /-- REFCLK shows edges (R62). -/
  refEdges : Bool
  /-- REFCLK counts as present (R62). -/
  refPresent : Bool
  /-- The TCXO is the source of the reference (R62). -/
  refSrcTcxo : Bool
  /-- The TCXO has settled (R61). -/
  tcxoOk : Bool
  /-- Lock of each PLL, as CLK_STATUS[16:8] (R82). -/
  pllLock : Nat
  /-- The time base in ns (R63). -/
  timeBase : Nat
  /-- Cycles since the last slew step (R65). -/
  sinceSlew : Nat
  /-- Microseconds from PWR_GOOD to the release of MGMT, from which start-up is timed (R74). -/
  t3 : Nat
  /-- Time at which MGMT left reset (R71). -/
  mgmtUpAt : Nat
  /-- Straps as sampled: MOD_ID, TANDEM_ROLE (R30). -/
  straps : Straps
  /-- Straps at the pins (R30). -/
  strapPins : Straps
  /-- TPRES_N shows a Tandem cable (R26). -/
  tpres : Bool
  /-- Groups whose CPRES_N is low (R26). -/
  cpres : List Nat
deriving DecidableEq, Repr

/-- Power-on reset has just been released: TCXO_SETTLE is being counted, MGMT and FABRIC are held (R37, R61, R71). (log 3, DESIGN CHOICE) -/
def Clk.reset : Clk :=
  { porAsserted := false, pllReleased := false, mgmtUp := false, mgmtStopped := false, stage3Failed := false, fabricHeld := true,
    perstLow := false, resetPulse := false, stopHeld := false, startFail := false, refEdges := false, refPresent := false, refSrcTcxo := true,
    tcxoOk := true, pllLock := 0, timeBase := 0, sinceSlew := 0, t3 := 0, mgmtUpAt := 0, straps := ⟨0, false⟩, strapPins := ⟨7, true⟩,
    tpres := false, cpres := [] }

/-- A POLL record being waited for (R78). -/
structure Poll where
  addr : Nat
  mask : Nat
  value : Nat
deriving DecidableEq, Repr

/-- Start-up state beside the BOOT page (R72 to R80). `applying` is the Fixon slot under application with the index of its next record. -/
structure Boot where
  /-- The keeper's firmware runs (R76). -/
  fwRunning : Bool
  /-- The Fixon slot being applied and its next record (R78). -/
  applying : Option (Bool × Nat)
  /-- The POLL record being waited for (R78). -/
  poll : Option Poll
  /-- A DELAY record is being waited for (R78). -/
  delay : Bool
  /-- Fixon slot A has been tried at this start (R79). -/
  triedA : Bool
  /-- Fixon slot B has been tried at this start (R79). -/
  triedB : Bool
  /-- BOOT_FIXON_ERR holds the first failing record of this start (R79). -/
  errSet : Bool
  /-- COMB_TRAIN has ended and the clearing of Comb is under way (R252). -/
  combTrained : Bool
  /-- Corrected errors by row of Comb since power-up (R257). -/
  rowErrors : NMap Nat
deriving DecidableEq, Repr

def Boot.reset : Boot :=
  { fwRunning := false, applying := none, poll := none, delay := false, triedA := false, triedB := false, errSet := false,
    combTrained := false, rowErrors := [] }

/-! ### Faults -/

/-- What the stop controller latches when STOP is asserted (R363). -/
structure Capture where
  cls : Nat
  origin : StopOrigin
  cause : Option FaultMsg
  time : Nat
  seq : Nat
  state : List Nat
  mirror : List Nat
  temps : List Nat
deriving DecidableEq, Repr

/-- The fault collector beside the FLT page (R345 to R370): the log newest first, the first entries by class, the messages sent and not yet
taken, the stop, and whether its record is still to be written. -/
structure Flt where
  /-- The fault log, newest first (R350). -/
  log : List LogEntry
  /-- First entries by class (R356). -/
  first : NMap LogEntry
  /-- Fault messages sent and not yet taken by the collector (R345). -/
  net : List FaultMsg
  /-- What the stop controller latched (R363). -/
  stop : Option Capture
  /-- The log entry of the cause of the stop (R363). -/
  causeEntry : Option LogEntry
  /-- The stop's record is still to be written (R363). -/
  recordDue : Bool
  /-- When each VCS last had an Uncorrectable Internal Error reported (R360). -/
  internalErr : NMap Nat
  /-- ALERT_N is driven (R358). -/
  alert : Bool
deriving DecidableEq, Repr

def Flt.reset : Flt :=
  { log := [], first := [], net := [], stop := none, causeEntry := none, recordDue := false, internalErr := [], alert := false }

/-- A fail-stop record in the NV ring (R363). -/
structure FailRecord where
  rseq : Nat
  cls : Nat
  origin : StopOrigin
  time : Nat
  fwVer : Nat
  seq : Nat
  state : List Nat
  cause : Option LogEntry
  first : NMap LogEntry
  recent : List LogEntry
  mirror : List Nat
  temps : List Nat
deriving DecidableEq, Repr

/-! ### The NV store (R448) -/

/-- One copy of the parameter block: its 16 words, and whether an uncorrectable error has made it invalid (R449, R366). -/
structure ParamCopy where
  words : List Nat
  bad : Bool
deriving DecidableEq, Repr

/-- A snapshot of PERF counters (R420): the pages copied, the instant, and the counters. -/
structure Snap where
  first : Nat
  last : Nat
  ts : Nat
  counts : NMap Word64
deriving DecidableEq, Repr

/-- A telemetry record before it has its SEQ (R427): TYPE, INFO, TIME, and its body in 12 words. -/
structure TelRecord where
  type : Nat
  info : Nat
  time : Nat
  body : List Nat
deriving DecidableEq, Repr

/-- State of the PERF block beside its page (R420 to R428): the taken copies, each master's PERF_VIEW. -/
structure Perf where
  /-- Copied PERF counters with their pages and instant (R420). -/
  snaps : NMap Snap
  /-- PERF_VIEW of each master (R420). -/
  views : List (Master × Nat)
  /-- Overflow samplers that are disarmed until their counter is rearmed (R423). -/
  disarmed : List Nat
  /-- A fetch of the telemetry ring is under way (R428). -/
  fetching : Bool
deriving DecidableEq, Repr

def Perf.reset : Perf := { snaps := [], views := [], disarmed := [], fetching := false }

/-- The one-time-programmable store (R397): programmed Quinmen slots, owner slot hashes, revoke bits, the SVN counter. A programmed bit never returns to 0. -/
structure Otp where
  /-- Quinmen key slots programmed (R397). -/
  qProgrammed : Nat
  /-- Quinmen key slots revoked (R397). -/
  qRevoke : Nat
  /-- Owner key hashes (R397). -/
  owners : NMap (List Nat)
  /-- Owner key slots revoked (R397). -/
  oRevoke : Nat
  /-- Security version counter (R397). -/
  svn : Nat
  /-- A Fixon image must be signed (R397). -/
  fixonSigReq : Bool
deriving DecidableEq, Repr

/-- As shipped (R397): Q_HASH[0] programmed and every owner slot blank. -/
def Otp.shipped : Otp := { qProgrammed := 1, qRevoke := 0, owners := [], oRevoke := 0, svn := 0, fixonSigReq := false }

/-- A Fixon slot: its bytes, a byte not listed being 0, and whether the slot has been made invalid (R387, R366). -/
structure FixonSlot where
  data : List Host.Cell
  bad : Bool
deriving DecidableEq, Repr

/-- Contents of the NV store that outlive power (R448), with the OTP. `fwPref` and the slots: false A, true B. `commit` holds a parameter commit in progress: the
words it writes, or none where it is refused. -/
structure Nv where
  /-- Parameter block copy 0 (R449). -/
  param0 : ParamCopy
  /-- Parameter block copy 1 (R449). -/
  param1 : ParamCopy
  /-- A parameter commit in progress (or its refusal) (R449, R450). -/
  commit : Option (Option (List Nat))
  /-- Energy count of feed A (R48, R448). -/
  energyA : Nat
  /-- Energy count of feed B (R48, R448). -/
  energyB : Nat
  /-- The last fault of the controller (R55, R448). -/
  lastFault : Word
  /-- Count of controller faults (R55, R448). -/
  faultCount : Word
  /-- Count of feed switches (R55). -/
  switchCount : Word
  /-- A failure of stage 3 kept over the reset (R75). -/
  stage3Fail : Bool
  /-- Fail-stop records (R363). -/
  records : List FailRecord
  /-- RSEQ of the next fail-stop record (R363). -/
  rseq : Nat
  /-- Preferred firmware slot (R76, R402). -/
  fwPref : Bool
  /-- Firmware slot to be used at the next start (R402). -/
  fwPending : Option Bool
  /-- Firmware image of slot A (R402, R448). -/
  fwA : Option SignedImage
  /-- Firmware image of slot B (R402, R448). -/
  fwB : Option SignedImage
  /-- Policy partition image (R375, R448). -/
  policy : Option SignedImage
  /-- Fixon slot A (R77, R387). -/
  fixA : FixonSlot
  /-- Fixon slot B (R77, R387). -/
  fixB : FixonSlot
  /-- The sealed key store has been erased (R404, R412). -/
  sealedErased : Bool
  /-- Repaired rows of Comb (R257). -/
  repairRows : List Nat
  /-- Writes of the most-written word of each item (R450): 0 and 1 parameter copies, 2 boot control, 3 energy counts, 4 fault count, 5 switch count, 6 last fault, 7 repair list,
  8 and 9 Fixon slots, 10 and 11 firmware slots, 16 + i the records. -/
  writes : NMap Nat
  /-- The one-time-programmable store (R397). -/
  otp : Otp
deriving DecidableEq, Repr

/-- An open SPDM session (R405). -/
structure Session where
  id : Nat
  transport : Transport
deriving DecidableEq, Repr

/-- A key set waiting for the link's next entry to L0 (R409), or a rekey due. -/
structure IdePending where
  port : Nat
  cm : Bool
  kset : Bool
deriving DecidableEq, Repr

/-- The module's identity (R403): whether it derives from DBG_UDS, CDI, and the alias certificate as issued. -/
structure Identity where
  debug : Bool
  cdi : BitVec 384
  cert : List Nat
deriving DecidableEq, Repr

/-- The security island beside the SEC page (R395 to R412): sessions, programmed key sets, key sets waiting for L0, the token under verification, whether a
provisioning command under way is done or refused, SEC_STATUS as read at stage 4, and whether the nonce is valid. -/
structure Sec where
  /-- Open SPDM sessions with their transport (R405). -/
  sessions : List Session
  /-- The next session number (R405). -/
  nextId : Nat
  /-- IDE key sets programmed and not yet used (R409). -/
  programmed : List IdePending
  /-- IDE key sets that wait for the link's next L0 (R409). -/
  waiting : List IdePending
  /-- IDE streams whose rekey is due (R409). -/
  rekeyDue : List IdePending
  /-- The key registers of the tiles' IDE engines, by stream and key set: the keys to transmit and to receive with (R408). No read shows them. -/
  ideKeys : List (IdePending × Nat × Nat)
  /-- The transport key under which traffic keys cross to the tiles, drawn at each start-up of the FABRIC domain (R408). -/
  transport : Option Nat
  /-- The debug nonce is valid (R412). -/
  nonceValid : Bool
  /-- The debug token under verification (R411, R412). -/
  token : Option (List Nat)
  /-- A provisioning command under way and its outcome (R398, R414). -/
  prov : Option Bool
  /-- SEC_STATUS as read at stage 4 (R406). -/
  status4 : Nat
  /-- The firmware that stage 4 started (R403, R406). -/
  firmware : Option SignedImage
  /-- The policy partition that stage 4 started (R403, R406). -/
  policy : Option SignedImage
  /-- SHA-384 of the applied Fixon image (R406). -/
  fixon : BitVec 384
  /-- The identity in use, from stage 4 on (R403). -/
  identity : Option Identity
deriving DecidableEq, Repr

def Sec.reset : Sec :=
  { sessions := [], nextId := 1, programmed := [], waiting := [], rekeyDue := [], ideKeys := [], transport := none, nonceValid := false, token := none, prov := none, status4 := 0, firmware := none, policy := none, fixon := 0,
    identity := none }

/-! ### Keeper, interrupt controller, mailboxes (R371 to R394) -/

/-- The keeper and the interrupt controller beside their pages: levels seen high, each core's stack of sources in service with their priorities, innermost
first, the watchdogs' last kicks, MTIMECMP and the timer interrupt of each core, and the policy partition's grant (R375). -/
structure Keeper where
  /-- Interrupt levels last seen high (R377). -/
  sampled : List Nat
  /-- Sources in service with their priorities, innermost first (R379). -/
  inService : NMap (List (Nat × Nat))
  /-- Time of the last watchdog kick (R373, R393). -/
  kicks : NMap Nat
  /-- MTIMECMP (R372). -/
  mtimecmp : NMap Nat
  /-- Timer interrupts of the cores (R372, R373). -/
  timerIrq : List Nat
  /-- Pages the policy partition may write (R375). -/
  grant : List Nat
  /-- The grant includes mailbox commands (R375). -/
  policyCmds : Bool
deriving DecidableEq, Repr

/-- Log 7, DESIGN CHOICE. -/
def Keeper.reset : Keeper := { sampled := [], inService := [], kicks := [], mtimecmp := [], timerIrq := [], grant := [], policyCmds := false }

/-- The result of a mailbox command: its return code and its output payload in bytes. -/
structure MbxResult where
  code : RetCode
  data : List Nat
deriving DecidableEq, Repr

/-- A mailbox box beside MBX_BOX_STATE (R389): the command in service, the permission it was accepted with, its result, the held result, and the response
message limit; the vector of Set Event Interrupt Policy; the code of the last background operation; a command that was running when the box was reset, which
still completes inside the module. -/
structure Box where
  /-- Command in service (R389). -/
  opcode : Nat
  /-- Its latched input (R389). -/
  payload : List Byte
  /-- It was accepted with fabric-manager permission (R385). -/
  fm : Bool
  /-- Its doorbell asked for an interrupt (R389). -/
  irq : Bool
  /-- Result of a command that has run and is not yet shown (R389). -/
  pendingResult : Option MbxResult
  /-- The held result (R389). -/
  result : Option MbxResult
  /-- Response message limit (R386). -/
  limit : Nat
  /-- Vector of Set Event Interrupt Policy (R383). -/
  eventVector : Nat
  /-- Code of the last background operation (R391). -/
  bgCode : Option RetCode
  /-- A command that was running when its box was reset (R389). -/
  orphan : Option (Nat × List Byte × Bool)
  /-- Opcode, payload length and payload bytes written to the mailbox registers, as input of the next command (R383, R390). -/
  inOp : Nat
  inLen : Nat
  input : NMap Byte
  /-- Opcode of the last background operation (R391). -/
  bgOp : Nat
deriving DecidableEq, Repr

def Box.reset : Box :=
  { opcode := 0, payload := [], fm := false, irq := false, pendingResult := none, result := none, limit := 65536, eventVector := 0, bgCode := none, orphan := none,
    inOp := 0, inLen := 0, input := [], bgOp := 0 }

/-- An event record for the fabric manager (R155, R359): what happened, on which port and vPPB or LD, the log entry of a module error, the timestamp. -/
structure FmEvent where
  kind : FmEventKind
  port : Nat
  item : Nat
  entry : Option LogEntry
  time : Nat
deriving DecidableEq, Repr

/-- A transfer of an image into a slot of the NV store (R386, R387): the box, whether it is a Fixon image, and the slot. -/
structure Transfer where
  box : Nat
  fixon : Bool
  slot : Bool
deriving DecidableEq, Repr

/-- The mailbox block beside its page. -/
structure Mbx where
  /-- What each box holds beside MBX_BOX_STATE (R385, R389). -/
  boxes : NMap Box
  /-- Event records for the fabric manager (R155, R359). -/
  events : List FmEvent
  /-- An image transfer under way (R387). -/
  transfer : Option Transfer
  /-- Offset of Set Timestamp (R388). -/
  tsOffset : Nat
  /-- MSI-X tables of the management functions, word k of vector j of VCS v under 4 (2048 v + j) + k (R383). -/
  msix : NMap Word
  /-- Vectors 2048 v + j that wait for their mask, as the PBA shows (R383). -/
  pba : List Nat
deriving DecidableEq, Repr

def Mbx.reset : Mbx := { boxes := [], events := [], transfer := none, tsOffset := 0, msix := [], pba := [] }

/-- Word k of vector j in the MSI-X table of the management function of VCS v: its mask is set at reset (R383). -/
def Mbx.msixWord (x : Mbx) (v j k : Nat) : Word := sparseGet (fun _ => if k = 3 then 1 else 0) x.msix (4 * (2048 * v + j) + k)

/-! ### Switch core and scheduling (R150 to R214) -/

/-- A tracker slot in use (R151): LIVE or STALE, the vPPB and GEN of its request, its place in the order of allocation, the request as it was received, and which of the answers it is owed are data and NDR. -/
structure TSlot where
  stale : Bool
  vppb : Nat
  gen : Nat
  seq : Nat
  msg : Msg
  owesData : Bool
  owesNdr : Bool
deriving DecidableEq, Repr

/-- A message of a strand: the multicast message it points to if it is a pointer granule, its first granule counted along the strand, and its granules. -/
structure SEntry where
  msg : Msg
  mc : Option Nat
  pos : Nat
  n : Nat
deriving DecidableEq, Repr

/-- A cell a strand holds (R165, R166): its place along the strand, its region tag (true: reserve), and its number. -/
structure Cell where
  ix : Nat
  reserve : Bool
  num : Nat
deriving DecidableEq, Repr

/-- The free list of a bank of 2,048 cells (R165, R167): the cells from the `fresh`-th on have never been used since reset; those released follow, oldest first. -/
structure Bank where
  fresh : Nat
  back : List Nat
deriving DecidableEq, Repr

def Bank.reset : Bank := { fresh := 0, back := [] }

/-- A strand (R166): the cells it holds, the granule after its last message, and its messages oldest first. -/
structure Strand where
  cells : List Cell
  next : Nat
  msgs : List SEntry
deriving DecidableEq, Repr

def Strand.empty : Strand := { cells := [], next := 0, msgs := [] }

/-- A message stored once for several targets (R175, R176): the numbers of its cells, its reference count, and the leaf queues it counts in. -/
structure Mcast where
  cells : List Nat
  refs : Nat
  queues : List Nat
deriving DecidableEq, Repr

/-- An entry of an active list of deficit-weighted round robin (R196): a subscriber or service, its deficit, and whether it has had its quantum at the head. -/
structure Active where
  key : Nat
  deficit : Nat
  served : Bool
deriving DecidableEq, Repr

/-- A service node beside its strands: its active list, and the average occupancy of R184 as the exact fraction num / 2^exp. -/
structure SvcNode where
  active : List Active
  avgNum : Nat
  avgExp : Nat
deriving DecidableEq, Repr

def SvcNode.empty : SvcNode := { active := [], avgNum := 0, avgExp := 0 }

/-- The values a shaper or one tile's policer works with, or a pending snapshot of them (R203). For a shaper `rate` and `burst` count; for a policer CIR, CBS, PIR and PBS. -/
structure BucketCfg where
  en : Bool
  mask : Nat
  rate : Nat
  burst : Nat
  rate2 : Nat
  burst2 : Nat
deriving DecidableEq, Repr

def BucketCfg.off : BucketCfg := { en := false, mask := 0x4F, rate := 0, burst := 65536, rate2 := 0, burst2 := 65536 }

/-- A token bucket (R200): its values, its count in 32.32 (Tc of a policer, with Tp beside it), and the pending snapshot. -/
structure Bucket where
  cfg : BucketCfg
  count : Int
  count2 : Int
  next : Option BucketCfg
deriving DecidableEq, Repr

def Bucket.off : Bucket := { cfg := BucketCfg.off, count := 0, count2 := 0, next := none }

/-- One direction of an Ehrurn link (R180 to R183): the sequence number of the next slot, the slots sent and not acknowledged with how often each was sent, the slot the receiver waits
for, and whether it discards until that slot is resent; whether a resend is in progress; the beats left of the message each owner is sending, the owner the next spare beat goes
to first, and the beats granted in the slots not yet received. -/
structure EhrDir where
  replaying : Bool
  grants : List (Nat × Nat)
  seq : Nat
  unacked : List (Nat × Nat)
  expect : Nat
  naked : Bool
  beats : List Nat
  first : Nat
deriving DecidableEq, Repr

def EhrDir.reset : EhrDir := { replaying := false, grants := [], seq := 0, unacked := [], expect := 0, naked := false, beats := [0, 0, 0, 0], first := 0 }

/-- What a host has programmed in a downstream vPPB of its hierarchy (R141, R225, R284). -/
structure VppbCfg where
  linkDisable : Bool
  dpcEn : Bool
  busLo : Nat
  busHi : Nat
  cacheId : Option Nat
  biId : Option Nat
  /-- Presence Detect Changed (R146). -/
  presChanged : Bool
  /-- Data Link Layer State Changed (R146). -/
  linkChanged : Bool
  /-- The host has enabled the hot-plug interrupt (R146). -/
  hotPlugEn : Bool
deriving DecidableEq, Repr

def VppbCfg.reset : VppbCfg :=
  { linkDisable := false, dpcEn := false, busLo := 0, busHi := 0, cacheId := none, biId := none, presChanged := false, linkChanged := false, hotPlugEn := false }

/-- A word of the binding tables that the copy of a tile has not yet taken: the word the copy still holds, and since when (R158). -/
structure OldWord where
  tile : Nat
  addr : Nat
  word : Word
  since : Nat
deriving DecidableEq, Repr

/-- The switch core, the scheduler and the binding engine beside their pages. -/
structure Switch where
  /-- Messages waiting for admission, in the order they came (R170). -/
  waiting : List Msg
  /-- Strands by (port, service, subscriber). -/
  strands : NMap Strand
  /-- Multicast messages with reference counts (R175, R176). -/
  mcasts : NMap Mcast
  /-- Free lists of the banks of the buffer (R167). -/
  banks : NMap Bank
  /-- Bank from which the next cell is allocated (R167). -/
  bankNext : Nat
  /-- The first input in the rotation of each internal-endpoint output (R178). -/
  inputs : NMap Nat
  /-- Subscriber shapers charged in this hub core cycle: the count as it stood at its start, and what has been charged since (R202). -/
  start : NMap (Int × Nat)
  /-- Outputs that have chosen in this hub core cycle (R202). -/
  chosen : List Nat
  /-- Number of the next multicast message (the model's own) (R176). -/
  mcNext : Nat
  /-- Service nodes by 8p + s, the active services of each port, and the first port of each group in its rotation. -/
  nodes : NMap SvcNode
  /-- Active services of each port (R197). -/
  ports : NMap (List Active)
  /-- First port of each group in the rotation (R198). -/
  groups : NMap Nat
  /-- Privileged FIFOs by output (R177). -/
  priv : NMap (List Msg)
  /-- Fan-outs IEP0 presents, each as its messages by target, oldest first (R177). -/
  fan : List (List Msg)
  /-- The snoop table of each port (R224, R239). -/
  snoops : NMap (List SnoopRec)
  /-- Ports whose S2 and S3 credits IEP0 withholds (R227). -/
  withheld : List Nat
  /-- Inputs of the internal endpoints (R178). -/
  iep : NMap (List Msg)
  /-- Tracker slots in use, by port and class, by slot number (R150). -/
  trackers : NMap (NMap TSlot)
  /-- Order of allocation of tracker slots (R151). -/
  slotSeq : Nat
  /-- Subscriber shapers (R200, R202). -/
  subBkt : NMap Bucket
  /-- Port shapers (R200, R202). -/
  portBkt : NMap Bucket
  /-- Policers per tile (R200, R205). -/
  polBkt : NMap Bucket
  /-- Ehrurn directions: SEQ, unacknowledged slots, expected slot, beats, owner rotation (R180 to R183). -/
  ehr : NMap EhrDir
  /-- Requester turn of admission (R169). -/
  turn : Nat
  /-- What the host has programmed in a vPPB: Link Disable, DPC, buses, Cache ID, BI ID (R141, R148, R225, R284). -/
  vcfg : NMap VppbCfg
  /-- LDs of the device's current allocation on each port that holds an MLD (R145). -/
  mlds : NMap Nat
  /-- Flushes in progress, each with whether its own work is done (R154). -/
  flushes : List (FlushScope × Bool)
  /-- The unbind command in progress or waited for: entry, option and box (R144, R147). -/
  binding : Option (Nat × Nat × Nat)
  /-- Entries an option-0 unbind leaves, whose arrival in UNBOUND is recorded (R147). -/
  unbind0 : List Nat
deriving DecidableEq, Repr

def Switch.reset : Switch :=
  { waiting := [], strands := [], mcasts := [], banks := [], bankNext := 0, inputs := [], start := [], chosen := [], mcNext := 0, nodes := [], ports := [], groups := [], priv := [], fan := [], snoops := [], withheld := [], iep := [], trackers := [], slotSeq := 0,
    subBkt := [], portBkt := [], polBkt := [], ehr := [], turn := 0, vcfg := [], mlds := [], flushes := [], binding := none, unbind0 := [] }

/-! ### Coherence home (R219 to R238) -/

/-- A directory entry as the module keeps it: the entry, whether it is on-die, and the stamp of its last use (R220, R229). -/
structure DirSlot where
  e : DirEntry
  onDie : Bool
  stamp : Nat
deriving DecidableEq, Repr

/-- What a transaction of the home is for: a host request, the resolution of a sector, the eviction of an entry, the departure sweep of a slot, or a request
a rule commit has aborted. -/
inductive TxnKind where
  | request (m : Msg)
  | resolve
  | evict
  | leave (slot : Nat)
  | aborted
deriving DecidableEq, Repr

/-- A transaction in progress (R221 to R223): its sector and lines marked busy, the snoop slots it waits for, the forward slots of the write-backs it waits for, the hosts that
answered BIRspS by line, whether its request has been forwarded or answered, its snoops by line (true: BISnpInv), whether it still waits to issue them (R224) and holds an entry of the conflict queue
while it does (R227), and whether its answer grants the line in S or O (R228). -/
structure Txn where
  id : Nat
  hive : Nat
  sector : Nat
  lines : List Nat
  kind : TxnKind
  parked : Bool
  snooped : List (Nat × Bool)
  snoops : List Nat
  wbs : List Nat
  kept : List (Nat × Nat)
  forwarded : Bool
  answered : Bool
  queued : Bool
  grants : Bool
deriving DecidableEq, Repr

/-- A snoop slot in use (R224): LIVE or STALE, the line, whether it is BISnpInv, the host slots that have not answered, and its transaction. -/
structure SnoopSlot where
  stale : Bool
  hive : Nat
  sector : Nat
  line : Nat
  inv : Bool
  mask : List Nat
  txn : Nat
deriving DecidableEq, Repr

/-- A forward-tracker slot in use (R231): LIVE or STALE, the host request, the NDR the home answers with, whether it is a write-back, its
transaction if it has one, and whether its answer has passed the crossbar. -/
structure FwdSlot where
  stale : Bool
  msg : Msg
  ndr : MsgKind
  wb : Bool
  txn : Option Nat
  passed : Bool
deriving DecidableEq, Repr

/-- A line held for the host that won it (R228). -/
structure Hold where
  hive : Nat
  sector : Nat
  line : Nat
  slot : Nat
deriving DecidableEq, Repr

/-- The coherence home beside the HOME and DIRC pages. `dir` is keyed by 2^38 * hive + sector. -/
structure Home where
  /-- Directory: OWNER, SHARERS, states, HGEN, on-die or in its bucket, last use (R219, R220, R229). -/
  dir : NMap DirSlot
  /-- Stamp of the next use of an entry (R229). -/
  clock : Nat
  /-- Buckets being fetched, by hive and sector, with the requests that wait for the lookup (R220). -/
  fetches : List (Nat × Nat)
  /-- Requests that wait for a lookup (R220). -/
  lookups : List Msg
  /-- The conflict queue, in arrival order (R227). -/
  queue : List Msg
  /-- Transactions in progress: sector, lines busy, snoops, write-backs, kept lines (R221 to R223). -/
  txns : List Txn
  /-- Number of the next transaction (the model's own) (R221). -/
  nextTxn : Nat
  /-- Snoop slots in use (R224). -/
  snoops : NMap SnoopSlot
  /-- Forward-tracker slots in use (R231). -/
  fwd : NMap FwdSlot
  /-- Lines held for the host that won them (R228). -/
  holds : List Hold
  /-- HGEN increments of each hive since its buckets were last cleared, and hives whose HGEN waits for a clearing (R242). -/
  bumps : NMap Nat
  /-- Hives whose HGEN waits for a clearing (R242). -/
  clearing : List Nat
  /-- A DIRC lookup under way (R245). -/
  lookup : Option (Nat × Nat)
deriving DecidableEq, Repr

def Home.reset : Home :=
  { dir := [], clock := 0, fetches := [], lookups := [], queue := [], txns := [], nextTxn := 0, snoops := [], fwd := [], holds := [], bumps := [], clearing := [],
    lookup := none }

/-! ### Comb (R248 to R268) -/

/-- One client at one channel's arbiter (R260): consecutive losses, whether it is backing off, and its place in the aging order if it is aged. -/
structure CombClient where
  losses : Nat
  backoff : Bool
  aged : Option Nat
deriving DecidableEq, Repr

def CombClient.idle : CombClient := { losses := 0, backoff := false, aged := none }

/-- A channel's arbiter: the owner with its burst limit, and the clients by rank. -/
structure CombChan where
  owner : Option (Nat × Nat)
  clients : NMap CombClient
  agings : Nat
deriving DecidableEq, Repr

def CombChan.idle : CombChan := { owner := none, clients := [], agings := 0 }

/-- Comb (R247 to R268): the bytes of the Comb pool by pool offset, a byte not listed being 0 (R252); the lines whose poison differs from `poisonAll`; the
arbiters. -/
structure Comb where
  /-- Contents of the Comb pool (R252, R267). -/
  pool : List Host.Cell
  /-- Lines not listed are poisoned (R268, R307). -/
  poisonAll : Bool
  /-- Lines whose poison differs from poisonAll (R255, R268). -/
  poison : NMap Bool
  /-- Arbiter: owner and burst, clients with losses, back-off and aging (R259 to R262). -/
  chans : NMap CombChan
  /-- Times of the uncorrectable errors of each pseudo-channel in the last 1 ms (R253). -/
  ues : NMap (List Nat)
deriving DecidableEq, Repr

def Comb.reset : Comb := { pool := [], poisonAll := false, poison := [], chans := [], ues := [] }

/-! ### Protection, data mover and dirty logs (R274 to R299) -/

/-- The Hive Access Table beside its page: the active bank by word offset, the bank it replaced with the tiles that still use it, whether its refill is done, and
when each VCS last had an error reported (R275, R281). -/
structure Hat where
  /-- The active bank of rules (R280). -/
  active : List (Nat × Word)
  /-- The bank it replaced (R281). -/
  old : List (Nat × Word)
  /-- Tiles that still use the old bank (R281). -/
  tilesOld : List Nat
  /-- The refill of the shadow bank is done (R282). -/
  refilled : Bool
  /-- Time of the last error reported for each VCS (R275). -/
  aer : NMap Nat
deriving DecidableEq, Repr

def Hat.reset : Hat := { active := [], old := [], tilesOld := [], refilled := true, aer := [] }

/-- A part in flight (R279, R289): its place in the descriptor, its source and destination, its length, whether its destination is host memory, what its reads have
brought as (address, bytes, poison), and how many of its answers are awaited. -/
structure PartRun where
  off : Nat
  src : Nat
  dst : Nat
  len : Nat
  up : Bool
  got : List (Nat × List Byte × Bool)
  waits : Nat
  writing : Bool
deriving DecidableEq, Repr

/-- A descriptor in progress on a channel (R292): the descriptor, whether the module has settled that it performs nothing, how many of its bytes have been issued, the parts
in flight, allowed parts so far, the zero-length read that follows its writes to host memory (0 none is due, 1 due, 2 sent), and its completion so far. -/
structure DescRun where
  desc : Descriptor
  void : Bool
  next : Nat
  parts : List PartRun
  allowed : Nat
  zread : Nat
  done : Completion
deriving DecidableEq, Repr

/-- A slot of IEP2's tracker (R288): LIVE or STALE, and the request. Slots from 16,384 on are of CXL.io requests to a host. -/
structure MSlot where
  stale : Bool
  msg : Msg
deriving DecidableEq, Repr

/-- The data mover beside the MOVER page: descriptors in progress by channel, IEP2's tracker slots, VF Enable of each VCS, PASID enables of the VFs, the VFs whose
FLR is pending, and the channels being disabled (R286 to R294). -/
structure Mover where
  /-- Descriptors in progress of each channel, each with its number, oldest first; the next number. -/
  runs : NMap (List (Nat × DescRun))
  /-- Number of the next descriptor (the model's own) (R292). -/
  serial : Nat
  /-- Tracker slots of IEP2 (R288). -/
  slots : NMap MSlot
  /-- VF Enable of each VCS's host (R287). -/
  vfEnable : List Nat
  /-- PASID Enable of the VFs (R284). -/
  pasidOn : List Nat
  /-- VFs whose FLR is pending (R294). -/
  flr : List Nat
  /-- Channels being disabled (R293). -/
  stopping : List Nat
  /-- The channel after the one that took the last turn to issue a part (R288). -/
  turn : Nat
  /-- MSI-X tables of the mover VFs, word k of vector j of VF u under 4 (64 u + j) + k (R286). -/
  msix : NMap Word
  /-- Vectors 64 u + j that wait for their mask, as the PBA shows (R286). -/
  pba : List Nat
deriving DecidableEq, Repr

def Mover.reset : Mover := { runs := [], serial := 0, slots := [], vfEnable := [], pasidOn := [], flr := [], stopping := [], turn := 0, msix := [], pba := [] }

/-- Dirty logs beside the DLOG page: bitmap lines of the partition by line number, the touch bits that are set, the cached lines oldest first, the writes that wait for a
line, each as its subscriber sent it and as it is forwarded, and the harvest under way: log, first line, count (R297, R298). -/
structure Dlog where
  /-- Bitmap lines of the partition (R296). -/
  lines : NMap Nat
  /-- Touch bits (R297). -/
  touch : List Nat
  /-- Cached lines (R297). -/
  cache : List Nat
  /-- Writes that wait for a line (R297). -/
  waiting : List (Msg × Msg)
  /-- The harvest under way (R298). -/
  harvest : Option (Nat × Nat × Nat)
deriving DecidableEq, Repr

def Dlog.reset : Dlog := { lines := [], touch := [], cache := [], waiting := [], harvest := none }

/-! ### Mirrored pair and swarm (R305 to R338) -/

/-- The mirroring engine, the Tandem link and the Waggle lane beside their pages. -/
structure Pair where
  /-- Records above ACKSEQ, oldest first (R324), and the regions of recent records by SEQ. -/
  journal : List Rec
  /-- Regions of recent records by SEQ (R330). -/
  recent : List (Nat × Nat)
  /-- MEPOCH (R321). -/
  mepoch : Nat
  /-- Bytes since the last EPOCH (R321). -/
  sinceEpoch : Nat
  /-- Credits (R313, R314): SENT, the partner's CREDITS, CRET and RXCNT as received, SENT at past checks, and this end's RXCNT and CRET. -/
  sent : Nat
  /-- CREDITS of the partner (R313). -/
  peerCredits : Nat
  /-- CRET received (R313). -/
  cretIn : Nat
  /-- RXCNT received (R314). -/
  rxcntIn : Nat
  /-- SENT at past checks for leaked credits (R314). -/
  sentHist : List Nat
  /-- RXCNT of this end (R314). -/
  rxcnt : Nat
  /-- CRET of this end (R313). -/
  cretOut : Nat
  /-- FSEQ of the frame expected (R312). -/
  fseqIn : Nat
  /-- Training (R312): consecutive intact blocks by lane, the TRAIN payload last received with how many in a row, and TRAIN frames sent since the first of them. -/
  aligned : NMap Nat
  /-- TRAIN payload last received (R312). -/
  train : Option TrainPayload
  /-- Identical TRAIN frames in a row (R312). -/
  trainRx : Nat
  /-- TRAIN frames sent since the first of them (R312). -/
  trainTx : Nat
  /-- The standby: records of the open epoch, whether a gap waits for a RESTART, regions between BULK_BEGIN and BULK_END, regions ended since entry, the partner's RSYNC, and the
  heartbeat blocks above R as HSEQ, LOW and RMASK. -/
  openEpoch : List Rec
  /-- A gap waits for a RESTART (R323). -/
  gap : Bool
  /-- Regions between BULK_BEGIN and BULK_END (R325). -/
  begun : Nat
  /-- Regions ended since entry (R325). -/
  ended : Nat
  /-- A standby that takes up the stream at the next record; the RESTART flag of the frame last received; an ACK or a RESEND that waits for a credit. -/
  adopt : Bool
  /-- RESTART flag of the frame last received (R322). -/
  restartIn : Bool
  /-- An ACK waits for a credit (R322). -/
  ackDue : Bool
  /-- A RESEND waits for a credit (R323). -/
  reqDue : Bool
  /-- Heartbeat blocks above R: HSEQ, LOW, RMASK (R330). -/
  blocks : List (Nat × Nat × Nat)
  /-- When the failure was detected (R331). -/
  detectedAt : Nat
  /-- The active: whether STANDBY_SYNC has been seen, the region being resynchronized and its next record, RESTART owed to the next record sent, HANDOVER sent, the
  state before SWAPPING, MSG of the blocks it sends and how many more carry it, its last four HSEQs. -/
  syncSeen : Bool
  /-- The region being resynchronized and its next record (R325). -/
  bulk : Option (Nat × Nat)
  /-- RESTART is owed to the next record sent (R322). -/
  restartNext : Bool
  /-- MIRROR frames already sent of the first record that has not gone out whole (R313, R319). -/
  part : Nat
  /-- HANDOVER has been sent (R332). -/
  handover : Bool
  /-- The state before SWAPPING (R332). -/
  swapFrom : Nat
  /-- MSG of the Waggle blocks sent (R317). -/
  msgOut : Nat
  /-- How many more blocks carry it (R317). -/
  msgLeft : Nat
  /-- The last four HSEQs sent in blocks, for LOW (R315). -/
  lastHseq : List Nat
  /-- The final HSEQ of a HANDOVER received (R332); the last intact block; how the partner is held failed: 0 not, 1 FAILSTOP, 2 silence (R317); STRAP_CONFLICT and SPLIT raised for
  what the blocks now say; the cause and unknown set of a promotion under way. -/
  swapHseq : Option Nat
  /-- The last intact Waggle block (R316). -/
  peer : Option WBlock
  /-- How the partner is held failed: not, FAILSTOP, silence (R317). -/
  failed : Nat
  /-- STRAP_CONFLICT raised for what the blocks say (R309). -/
  conflict : Bool
  /-- SPLIT raised for what the blocks say (R327). -/
  split : Bool
  /-- The promotion under way (R330). -/
  promo : Option (Nat × Nat)
  /-- Time stamp of the last intact block (R318). -/
  rxTs : Nat
  /-- Time at which it arrived (R318). -/
  rxAt : Nat
  /-- NSEQ of the next swarm notice (R337). -/
  nseq : Nat
  /-- NSEQ last seen of each position (R337). -/
  notices : NMap Nat
  /-- PIDs last found unreachable (R335). -/
  unreachable : List Nat
deriving DecidableEq, Repr

def Pair.reset : Pair :=
  { journal := [], recent := [], mepoch := 0, sinceEpoch := 0, sent := 0, peerCredits := 0, cretIn := 0, rxcntIn := 0, sentHist := [], rxcnt := 0, cretOut := 0, fseqIn := 0,
    aligned := [], train := none, trainRx := 0, trainTx := 0, openEpoch := [], gap := false, begun := 0, ended := 0, adopt := false, restartIn := false, ackDue := false, reqDue := false,
    blocks := [], detectedAt := 0, syncSeen := false, bulk := none, restartNext := false, part := 0, handover := false, swapFrom := 0, msgOut := 0, msgLeft := 0, lastHseq := [],
    swapHseq := none, peer := none, failed := 0, conflict := false, split := false, promo := none, rxTs := 0, rxAt := 0, nseq := 0,
    notices := [], unreachable := [] }

/-! ### Ports and lanes (R96 to R132) -/

/-- A port beside its PORTG block: whether its link has entered L0 since training was enabled, and has been at its rate (R121); active lanes in L0p (R133); the HELLO that waits for its answer (R124),
the SEQ of the module's requests outstanding for its transmit and receive direction, of those R132 has withdrawn (true: receive direction), the next SEQ, and since when each direction is asleep. -/
structure PortX where
  /-- The link has entered L0 since training was enabled (R121). -/
  first : Bool
  /-- The link has been at its rate (R121). -/
  reached : Bool
  /-- Active lanes in L0p (R133). -/
  l0p : Option Nat
  /-- A HELLO waits for its answer (R124). -/
  hello : Bool
  /-- SEQ of the request outstanding for the transmit direction (R127). -/
  txSeq : Option Nat
  /-- SEQ of the request outstanding for the receive direction (R127). -/
  rxSeq : Option Nat
  /-- Requests withdrawn (R132). -/
  withdrawn : List (Bool × Nat)
  /-- The next SEQ (R127). -/
  seq : Nat
  /-- Since when the transmit direction is asleep (R130). -/
  txSince : Nat
  /-- Since when the receive direction is asleep (R130). -/
  rxSince : Nat
deriving DecidableEq, Repr

def PortX.reset : PortX :=
  { first := false, reached := false, l0p := none, hello := false, txSeq := none, rxSeq := none, withdrawn := [], seq := 0, txSince := 0, rxSince := 0 }

/-- Margining of one lane (R99): its error count limit, the step in effect, and the errors and samples counted under it. -/
structure MarginX where
  /-- Error count limit. -/
  limit : Nat
  /-- The step in effect: in voltage or time, to which side, by how many steps. -/
  step : Option (Bool × Bool × Nat)
  /-- Errors counted since the step or the last clear. -/
  errors : Nat
  /-- Samples compared since the step. -/
  samples : Nat
deriving DecidableEq, Repr

def MarginX.reset : MarginX := { limit := 4, step := none, errors := 0, samples := 0 }

/-- Ports and lanes: ports; lanes in a full calibration that their configuration or stage 8 started; the lane last started on each eye-scan engine (0 to 15 by group, 16 Tandem, 17 Waggle);
lanes with a margining command active; error events of each lane's window; the test running on each lane (OP of LANE_TEST_CTL). -/
structure Lanes where
  /-- What each port holds beside its PORTG block (R121 to R132). -/
  port : NMap PortX
  /-- Lanes in a full calibration (R96). -/
  cal : List Nat
  /-- Lane last started on each eye-scan engine (R100). -/
  eye : NMap Nat
  /-- Lanes with a margining command active (R101). -/
  margins : List Nat
  /-- Error events of the lane's window (R97). -/
  errs : NMap Nat
  /-- Test running on each lane (R103, R104). -/
  tests : NMap Nat
  /-- Lanes whose 8b/10b decoder holds positive running disparity (R87). -/
  disparity : List Nat
  /-- Main lanes whose transmitter precodes, as their partner asked (R89). -/
  precoding : List Nat
  /-- Margining of each lane (R99). -/
  margin : NMap MarginX
deriving DecidableEq, Repr

def Lanes.reset : Lanes := { port := [], cal := [], eye := [], margins := [], errs := [], tests := [], disparity := [], precoding := [], margin := [] }

/-- State of the FABRIC domain that is not a register. -/
structure Fabric where
  lanes : Lanes
  /-- Telemetry ring in Comb by position, and the staging buffer, oldest first (R426). -/
  ring : NMap (List Nat)
  /-- Telemetry staging buffer (R426). -/
  stage : List TelRecord
  /-- Ports whose link is up (R452). -/
  up : List Nat
  sw : Switch
  /-- Words of the binding tables that tile copies have not yet taken (R158). -/
  lag : List OldWord
  home : Home
  comb : Comb
  hat : Hat
  mover : Mover
  dlog : Dlog
  pair : Pair
deriving DecidableEq, Repr

/-- Log 6, DESIGN CHOICE. -/
def Fabric.reset : Fabric :=
  { lanes := Lanes.reset, ring := [], stage := [], up := [], sw := Switch.reset, lag := [], home := Home.reset, comb := Comb.reset, hat := Hat.reset, mover := Mover.reset, dlog := Dlog.reset,
    pair := Pair.reset }

end Sys2Proof.Machine
end

