-- ==== Sys2Proof/Machine/State.lean ====
section
/-! DEFINITION. Sys2Proof/Machine/State.lean: the state of the module, its reset, and the reasons a command can stop. -/
namespace Sys2Proof.Machine
open Sys2Proof

/-- Reasons a step stops with a fault. Nothing raises one: the manual gives every command of the table an effect (safe: it adds no behaviour). -/
inductive Fault where
  | none
deriving DecidableEq, Repr

/-- Reasons a command is refused. -/
inductive Refusal where
  /-- Raised by an arm of exec whose command has no meaning yet; safe, since nothing follows from it. -/
  | notModelled (mnemonic : String)
deriving DecidableEq, Repr

/-- What a 64-bit read latch or a held low word keeps for one master and one pair (R6, R7). -/
structure PairLatch where
  master : Master
  addr : Nat
  word : Word
deriving DecidableEq, Repr

/-- The state of the module. -/
structure State where
  /-- Every field of every register of the register space that holds state, by byte offset; an unlisted register reads its reset value. -/
  regs : List (Nat × Word)
  /-- The 64-bit PERF counters (R416), by the offset of the low word; an unlisted counter is 0. -/
  ctrs : List (Nat × Word64)
  /-- The read latches of R6. -/
  latches : List PairLatch
  /-- The held low words of R7. -/
  held : List PairLatch
  hs : Hs
  clk : Clk
  boot : Boot
  nv : Nv
  flt : Flt
  perf : Perf
  keeper : Keeper
  sec : Sec
  mbx : Mbx
  fab : Fabric
  /-- What the last command put out of the module. -/
  out : List Output
  /-- Index of the next free value (values the manual leaves open). -/
  freeCtr : Nat
  /-- The commands that wait, first in, first out. -/
  pending : List Instr
deriving DecidableEq, Repr

/-- The parameter block of defaults with GEN 0 and its CRC (R449). -/
def defaultParams : List Nat :=
  [0x3150564E, 10 + 100 * 2 ^ 8 + 2 * 2 ^ 16, 170 + 50 * 2 ^ 8 + 2 ^ 17 + 10 * 2 ^ 24, 0x157C16A8, 0xF230, 10 + 100 * 2 ^ 8,
   0, 0, 0, 0, 0, 0, 0, 0, 0, 0x4348A243]

/-- An empty NV store but for parameter copy 0 and the energy counts at 0. (log 4, DESIGN CHOICE) -/
def Nv.reset : Nv :=
  { param0 := ⟨defaultParams, false⟩, param1 := ⟨[], false⟩, commit := none, energyA := 0, energyB := 0, lastFault := 0, faultCount := 0, switchCount := 0,
    stage3Fail := false, records := [], rseq := 0, fwPref := false, fwPending := none, fwA := none, fwB := none, policy := none, fixA := ⟨[], false⟩,
    fixB := ⟨[], false⟩, sealedErased := false, repairRows := [], writes := [], otp := Otp.shipped }

/-- The module at the moment power-on reset is released: the hot-swap controller has just entered ON, and the MGMT and FABRIC domains are at
their reset values (R10, R37, R71). (logs 1, DESIGN CHOICE; 2, DESIGN CHOICE; 5, DESIGN CHOICE) -/
def State.reset : State :=
  { regs := [], ctrs := [], latches := [], held := [], hs := Hs.reset, clk := Clk.reset, boot := Boot.reset, nv := Nv.reset, flt := Flt.reset,
    perf := Perf.reset, keeper := Keeper.reset, sec := Sec.reset, mbx := Mbx.reset, fab := Fabric.reset, out := [], freeCtr := 0, pending := [] }

end Sys2Proof.Machine
end

