-- ==== Sys2Proof/Machine/Ops.lean ====
section
/-! DEFINITION. Sys2Proof/Machine/Ops.lean: the named operations over the register space, the counters, the free values and what the module puts out. -/
namespace Sys2Proof.Machine
open Sys2Proof

/-! ### Words and fields -/

/-- w with bits [lo + width - 1 : lo] replaced by v. -/
def insertBits (w lo width v : Nat) : Nat :=
  w % 2 ^ lo + v % 2 ^ width * 2 ^ lo + w / 2 ^ (lo + width) * 2 ^ (lo + width)

/-- The word a register holds (R10). -/
def State.word (s : State) (a : Nat) : Word := sparseGet resetWord s.regs a

/-- Replace the word a register holds. -/
def State.setWord (s : State) (a : Nat) (w : Word) : State := { s with regs := sparsePut resetWord s.regs a w }

/-- The value of a field. -/
def State.get (s : State) (f : Field) : Nat := bitsOf (s.word f.addr).toNat f.lo f.width

/-- Write a field, leaving the other bits of its register alone. -/
def State.put (s : State) (f : Field) (v : Nat) : State :=
  s.setWord f.addr (BitVec.ofNat 32 (insertBits (s.word f.addr).toNat f.lo f.width v))

/-- A one-bit field as a Bool. -/
def State.flag (s : State) (f : Field) : Bool := s.get f == 1

/-- Write a one-bit field. -/
def State.putFlag (s : State) (f : Field) (b : Bool) : State := s.put f (bit b)

/-- The 64-bit value of a register pair at its low word (R6). -/
def State.get64 (s : State) (a : Nat) : Nat := (s.word a).toNat + 2 ^ 32 * (s.word (a + 4)).toNat

/-- Write both words of a register pair. -/
def State.put64 (s : State) (a v : Nat) : State := (s.setWord a (BitVec.ofNat 32 v)).setWord (a + 4) (BitVec.ofNat 32 (v / 2 ^ 32))

/-- Add to a field, saturating at its largest value. -/
def State.addSat (s : State) (f : Field) (n : Nat) : State := s.put f (min (2 ^ f.width - 1) (s.get f + n))

/-- A list of field writes, first to last. -/
def State.puts (s : State) (l : List (Field × Nat)) : State := l.foldl (fun s e => s.put e.1 e.2) s

/-! ### Maps by index -/

/-- Lookup with a default. -/
def mget {α : Type} (d : α) (m : NMap α) (k : Nat) : α := sparseGet (fun _ => d) m k

/-- Update in canonical form. -/
def mput {α : Type} [DecidableEq α] (d : α) (m : NMap α) (k : Nat) (v : α) : NMap α := sparsePut (fun _ => d) m k v

/-- Element n of a list of words, 0 past its end. -/
def nth (l : List Nat) (n : Nat) : Nat := l.getD n 0

/-- The bytes [off, off + 4) of a little-endian 32-bit word list are word off / 4; a list from a function. -/
def tabulate {α : Type} (n : Nat) (f : Nat → α) : List α := (List.range n).map f

/-! ### Counters, free values and outputs -/

/-- The value of a PERF counter (R416). -/
def State.counter (s : State) (c : Nat) : Word64 := sparseGet (fun _ => 0) s.ctrs c

/-- Add to a PERF counter, modulo 2^64 (R416). (log 80, DESIGN CHOICE) -/
def State.count (s : State) (c : Nat) (n : Nat := 1) : State :=
  { s with ctrs := sparsePut (fun _ => 0) s.ctrs c (s.counter c + BitVec.ofNat 64 n) }

/-- The next value the manual leaves open. (log 13, DESIGN CHOICE) -/
def State.free (s : State) : Nat := Config.freeValue s.freeCtr

/-- Go on to the next free value. -/
def State.used (s : State) (n : Nat := 1) : State := { s with freeCtr := s.freeCtr + n }

/-- Put something out of the module. (log 219, DESIGN CHOICE) -/
def State.emit (s : State) (o : Output) : State := { s with out := s.out ++ [o] }

/-- An access R4 refuses: over MCTP, which is the board's path (R431), it is answered with invalid-parameter, on every other path as an unsupported request. -/
def State.badAccess (s : State) (m : Master) : State := s.emit (match m with | .board => .invalidParam m | _ => .unsupported m)

/-- Start of every command: nothing has been put out yet. (log 11, DESIGN CHOICE) -/
def State.begin (s : State) : State := { s with out := [] }

/-- Time base (R63). -/
def State.now (s : State) : Nat := s.clk.timeBase

/-- Signal vector j of the management function of VCS v, or let it wait in the PBA while it is masked (R383). -/
def State.signalVcs (s : State) (v j : Nat) : State :=
  if (s.mbx.msixWord v j 3).toNat % 2 = 0 then s.emit (.msix v j)
  else { s with mbx := { s.mbx with pba := if s.mbx.pba.contains (2048 * v + j) then s.mbx.pba else s.mbx.pba ++ [2048 * v + j] } }

/-- Write a word of the MSI-X table of a management function; a vector that is unmasked is signalled where it waits (R383). -/
def State.setVcsMsix (s : State) (v j k : Nat) (w : Word) : State :=
  let s := { s with mbx := { s.mbx with msix := mput (if k = 3 then 1 else 0) s.mbx.msix (4 * (2048 * v + j) + k) w } }
  if k = 3 && w.toNat % 2 = 0 && s.mbx.pba.contains (2048 * v + j) then
    { s with mbx := { s.mbx with pba := s.mbx.pba.filter fun b => b != 2048 * v + j } }.emit (.msix v j)
  else s

/-- The MSI-X table and PBA of the management function of a VCS at their reset. -/
def State.clearVcsMsix (s : State) (v : Nat) : State :=
  { s with mbx := { s.mbx with msix := s.mbx.msix.filter (fun e => e.1 / 8192 != v), pba := s.mbx.pba.filter fun b => b / 2048 != v } }

/-- Record an event for the fabric manager under Get Event Records (R155, R234); the designated host is signalled by the vector its box's Set Event Interrupt Policy has
chosen (R383). (log 72, DEDUCED) -/
def State.addFmEvent (s : State) (e : FmEvent) : State :=
  let v := s.get Fld.MBX_CFG_FM_VCS
  let s := { s with mbx := { s.mbx with events := s.mbx.events ++ [e] } }
  let x := (mget Box.reset s.mbx.boxes v).eventVector
  if s.flag Fld.MBX_CFG_FM_EN && x != 0 then s.signalVcs v x else s
def State.fmEvent (s : State) (k : FmEventKind) (port item : Nat) : State :=
  s.addFmEvent (FmEvent.mk k port item none ((s.now + s.mbx.tsOffset) % 2 ^ 64))

/-! ### Pages and reset domains (R71, R435) -/

/-- Reset domains (R71). -/
inductive Domain where
  | aux | mgmt | fabric
deriving DecidableEq, Repr

/-- The reset domain of a block (R435). -/
def domainOf : Block → Domain
  | .pwr => .aux
  | .dev | .clk | .boot | .flt | .intc | .mbx | .sec | .time | .nvs | .perf | .perfArr => .mgmt
  | _ => .fabric

/-- The reset domain of a page; an absent page counts as MGMT. -/
def pageDomain (pg : Nat) : Domain :=
  match blockOf pg with
  | some (b, _) => domainOf b
  | none => .mgmt

/-- Is the domain of a page out of reset? -/
def State.live (s : State) (pg : Nat) : Bool :=
  match pageDomain pg with
  | .aux => s.hs.auxUp
  | .mgmt => s.clk.mgmtUp
  | .fabric => s.clk.mgmtUp && !s.clk.fabricHeld

end Sys2Proof.Machine
end

