-- ==== Sys2Proof/Machine/Flags.lean ====
section
/-! DEFINITION. Sys2Proof/Machine/Flags.lean: the event flags of the pages: what sets them, how they read, what enables them (R438, R441). -/
namespace Sys2Proof.Machine
open Sys2Proof

/-! ### Events (R441) -/

/-- EVT_PEND of a page. -/
def evtPendAddr (pg : Nat) : Nat := pg * 0x10000 + 0x40
/-- EVT_EN of a page. -/
def evtEnAddr (pg : Nat) : Nat := pg * 0x10000 + 0x50

/-- The event mask of a page. -/
def pageEvtMask (pg : Nat) : Nat :=
  match blockOf pg with
  | some (b, _) => evtMask b
  | none => 0

/-- Set the event bits of a page that it implements (R441). -/
def State.setEvents (s : State) (pg bits : Nat) : State :=
  s.setWord (evtPendAddr pg) (BitVec.ofNat 32 ((s.word (evtPendAddr pg)).toNat ||| (bits &&& pageEvtMask pg)))

/-- EVT_PEND of a page as it reads: bit 0 of the WAGGLE page is also pending while an enabled event of lane page 0x208 is (R342). (log 24, DEDUCED) -/
def State.pend (s : State) (pg : Nat) : Nat :=
  let w := (s.word (evtPendAddr pg)).toNat
  if pg = 0x0A1 && ((s.word (evtPendAddr 0x208)) &&& (s.word (evtEnAddr 0x208))) != 0 then w ||| 1 else w

/-- Raise an event: its bit of EVT_PEND is set, enabled or not (R441). A page whose domain is in reset latches nothing. -/
def State.raise (s : State) (e : Event) : State :=
  if s.live e.page then s.setEvents e.page (2 ^ e.bit) else s

/-- Raise an event when a condition holds. -/
def State.raiseIf (s : State) (c : Bool) (e : Event) : State := if c then s.raise e else s

end Sys2Proof.Machine
end

