-- ==== Sys2Proof/Machine/Operands.lean ====
section
/-! DEFINITION. Sys2Proof/Machine/Operands.lean: the operand of a register write: which bits of a written word a register takes, by its access types, its ranges and its
page's LOCK (R8, R444, R445). -/
namespace Sys2Proof.Machine
open Sys2Proof

/-- The RWL bits of a register, LOCK among them. -/
def rwlMask (a : Nat) : Nat :=
  match findRow a with
  | none => 0
  | some r => r.fields.foldl (fun n f => if f.acc == .rwl then n ||| (2 ^ (f.hi + 1) - 2 ^ f.lo) else n) 0

/-- The LOCK of a page (R56): its RWL fields ignore writes. -/
def State.locked (s : State) (pg : Nat) : Bool := bitsOf (s.word (pg * 0x10000 + 0x10FC)).toNat 0 1 == 1

/-! ### Storing fields (R8, R445) -/

/-- The bits of a register that software stores: its RW and RWL fields. (log 26, DEDUCED) -/
def storeMask (r : RegRow) : Nat := r.fields.foldl (fun n f => if f.acc == .rw || f.acc == .rwl then n ||| (2 ^ (f.hi + 1) - 2 ^ f.lo) else n) 0

/-- Write the stored fields of the register at an offset. -/
def State.stored (s : State) (a v : Nat) : State :=
  match findRow a with
  | none => s
  | some r =>
    let m := BitVec.ofNat 32 (storeMask r)
    s.setWord a ((s.word a &&& ~~~ m) ||| (BitVec.ofNat 32 v &&& m))

/-- Take one field of a written word. (log 28, DEDUCED) -/
def State.take (s : State) (f : Field) (v : Nat) : State := s.put f (bitsOf v f.lo f.width)

/-- Take one field of a written word where it lies in a range; a value outside it is ignored. -/
def State.takeIn (s : State) (f : Field) (v lo hi : Nat) : State :=
  let x := bitsOf v f.lo f.width
  if lo ≤ x && x ≤ hi then s.put f x else s

/-- Store a word where a condition on it holds; else it is ignored whole. -/
def State.storeIf (s : State) (c : Bool) (a v : Nat) : State := if c then s.stored a v else s

/-- The page whose LOCK covers a page: SCHED_LOCK covers the SCHED tables (R209, R444). -/
def lockPage (pg : Nat) : Nat := if 0x400 ≤ pg ∧ pg < 0x408 then 0x40 else pg

/-- The word a write offers: on a locked page its RWL bits are the current ones (R445). -/
def State.offered (s : State) (a : Nat) (w : Word) : Word :=
  if s.locked (lockPage (a / 0x10000)) then
    let k := BitVec.ofNat 32 (rwlMask a)
    (w &&& ~~~ k) ||| (s.word a &&& k)
  else w

end Sys2Proof.Machine
end

