-- ==== Sys2Proof/Machine/Resets.lean ====
section
/-! DEFINITION. Sys2Proof/Machine/Resets.lean: fault messages and their capture, the resets, the stop and the failure of start-up, which all units share (R71 to R75,
R345 to R363). -/
namespace Sys2Proof.Machine
open Sys2Proof

/-! ### Fault messages (R345 to R357) -/

/-- A message of the module itself, stamped with the time base (R346). (log 55, DEDUCED) -/
def State.message (s : State) (kind cls source unit atype party : Nat) (addr : Option Nat) : FaultMsg :=
  { kind := kind, cls := cls, source := source, unit := unit, atype := atype, party := party, addr := addr, ts := s.now / 2 % 2 ^ 26 }

/-- First-error capture of the page that sent a message (R357). The HAT page captures rule faults in its own layout (R300). -/
def State.captureFirst (s : State) (m : FaultMsg) : State :=
  let pg := m.source
  match blockOf pg with
  | none => s
  | some (b, _) =>
    if !hasErrCap b || s.flag (Fld.ERR_FIRST_ATYPE_VALID pg) then s
    else
      (s.puts [(Fld.ERR_FIRST_ADDR_LO_ADDR pg, m.addr.getD 0), (Fld.ERR_FIRST_ADDR_HI_ADDR pg, m.addr.getD 0 / 2 ^ 32),
        (Fld.ERR_FIRST_MASTER_MASTER pg, m.party), (Fld.ERR_FIRST_MASTER_UNIT pg, m.unit), (Fld.ERR_FIRST_ATYPE_KIND pg, m.kind),
        (Fld.ERR_FIRST_ATYPE_CLASS pg, m.cls), (Fld.ERR_FIRST_ATYPE_ATYPE pg, m.atype), (Fld.ERR_FIRST_ATYPE_VALID pg, 1)]).put64
        (Addr.ERR_FIRST_TS_LO pg) s.now

/-- A block sends a fault message: its page captures it, and it enters the fault network (R345, R357). -/
def State.sendFault (s : State) (m : FaultMsg) : State :=
  if !s.clk.mgmtUp then s
  else
    let s := if s.live m.source then s.captureFirst m else s
    { s with flt := { s.flt with net := s.flt.net ++ [m] } }

/-- ALERT_N is asserted while the log holds an entry above FLT_BOARD_ACK of a class set in MASK (R358). -/
def State.alertLevel (s : State) : Bool :=
  s.flt.log.any fun e => decide (s.get Fld.FLT_BOARD_ACK_SEQ < e.seq) && bitsOf (s.get Fld.FLT_ALERT_CFG_MASK) e.msg.cls 1 == 1

/-- Drive ALERT_N; ALERT is raised when it becomes asserted (R358, R368). -/
def State.driveAlert (s : State) : State :=
  let a := s.alertLevel
  let s := s.raiseIf (a && !s.flt.alert) Evt.FLT_ALERT
  { s with flt := { s.flt with alert := a } }

/-- FAULT_N asserted (low): by a stop, by START_FAIL, by stage 3, or while the hot-swap controller is in FAULT (R358). -/
def State.faultPin (s : State) : Bool :=
  (match s.flt.stop with
    | some c => s.clk.stopHeld && c.cls != 3
    | none => false)
  || s.clk.startFail || s.clk.stage3Failed || (s.hs.auxUp && s.get Fld.PWR_HS_STATUS_STATE == 7)

/-! ### Wear of the NV store (R450, R451) -/

/-- NVS_WEAR: the highest write count, in units of 65,536. -/
def Nv.wear (n : Nv) : Nat := min 65535 ((n.writes.map (·.2)).foldl max 0 / 65536)

/-- An item of the NV store has been written; WEAR_HIGH as NVS_WEAR reaches 12,207. -/
def State.nvWrote (s : State) (item : Nat) : State :=
  let was := s.nv.wear
  let s := { s with nv := { s.nv with writes := mput 0 s.nv.writes item (mget 0 s.nv.writes item + 1) } }
  if s.clk.mgmtUp then (s.put Fld.NVS_WEAR_UNITS s.nv.wear).raiseIf (decide (was < 12207) && decide (12207 ≤ s.nv.wear)) Evt.NVS_WEAR_HIGH else s

/-! ### Resets (R71 to R73) -/

/-- The pages whose LOCK and RWL fields survive fabric reset: COMB, CARB, POOL (R437). -/
def keptPage (pg : Nat) : Bool := pg == 0x80 || pg == 0x81 || pg == 0x82

/-- What fabric reset leaves of one listed register: FABRIC pages lose it but for the kept fields, the mailbox boxes return to
IDLE with RESULT_SEQ 0 (R389), and every IDE stream ends (R408). -/
def fabricKeeps (e : Nat × Word) : Option (Nat × Word) :=
  let pg := e.1 / 0x10000
  match pageDomain pg with
  | .fabric =>
    if keptPage pg then
      let k := rwlMask e.1
      let w := (e.2 &&& BitVec.ofNat 32 k) ||| (resetWord e.1 &&& ~~~ BitVec.ofNat 32 k)
      if w = resetWord e.1 then none else some (e.1, w)
    else none
  | _ =>
    let w := if pg = 6 && 0x61100 ≤ e.1 && e.1 < 0x61318 then
        (if e.1 % 8 = 0 then e.2 &&& 0xFFFFFFFC else e.2 &&& 0xFFFF0000)
      else if 0x71100 ≤ e.1 && e.1 < 0x71200 then e.2 &&& 0xFFFFFFC0
      else e.2
    if w = resetWord e.1 then none else some (e.1, w)

/-- A latch of a pair outside the FABRIC domain. -/
def mgmtLatch (l : PairLatch) : Bool := pageDomain (l.addr / 0x10000) != .fabric

/-- A box keeps its limits and vectors, not its command or result (R389). -/
def Box.toIdle (b : Box) : Box := { b with pendingResult := none, result := none, orphan := none, inOp := 0, inLen := 0, input := [] }

/-- The level of an interrupt source that page events drive: any of the bits `mask` of page pg both pending and enabled (R376). -/
def State.pageLevel (s : State) (pg mask : Nat) : Bool :=
  s.pend pg &&& (s.word (evtEnAddr pg)).toNat &&& mask != 0

/-- Pages whose event bit b drives source base + b (R435). -/
def bitSourcePages : List (Nat × Nat) :=
  [(0x30, 348), (0x31, 356), (0x32, 372), (0x40, 380), (0x60, 504), (0x70, 512), (0x71, 544), (0x80, 768), (0x81, 800), (0x82, 832), (0x50, 1024),
   (0x90, 1040), (0x91, 1056), (0xA0, 1280), (0xA1, 1312), (0xA2, 1344), (4, 1408), (3, 1536), (1, 1552), (8, 1568), (2, 1584), (9, 1600), (10, 1632),
   (7, 1664), (6, 1858)]

/-- The page and the event bits that drive source n (R376, R435). -/
def sourceBits (n : Nat) : Option (Nat × Nat) :=
  if n < 256 then some (0x100 + n, 0xFFFFFFFF)
  else if n < 264 then some (0x200 + (n - 256), 0xFFFFFFFF)
  else if n < 328 then some (0x10 + (n - 264) / 4, 0x3F * 2 ^ (8 + 6 * ((n - 264) % 4)))
  else if n < 344 then some (0x10 + (n - 328), 3)
  else if n < 348 then some (0x20 + (n - 344), 0xFFFFFFFF)
  else
    match bitSourcePages.find? fun e => decide (e.2 ≤ n) && decide (n < e.2 + 32) && pageEvtMask e.1 / 2 ^ (n - e.2) % 2 == 1 with
    | some e => some (e.1, 2 ^ (n - e.2))
    | none => none

/-- The level of source n (R376); a doorbell's level lasts one cycle and reads 0. -/
def State.level (s : State) (n : Nat) : Bool :=
  match sourceBits n with
  | some (pg, mask) => s.pageLevel pg mask
  | none => false

/-- Sources whose level has fallen are no longer held as seen high (R377). -/
def State.dropLevels (s : State) : State := { s with keeper := { s.keeper with sampled := s.keeper.sampled.filter s.level } }

/-- The time base stops following the partner (R64, R65). -/
def State.stopFollow (s : State) : State :=
  if s.flag Fld.TIME_STATUS_SRC then (s.puts [(Fld.TIME_STATUS_SRC, 0), (Fld.TIME_STATUS_ALIGNED, 0), (Fld.TIME_STATUS_SLEWING, 0)]).raise Evt.TIME_SRC_TCXO else s

/-- An unbind that runs in the background ends with the binding engine; its box shows it as aborted (R391). (log 74, DEDUCED) -/
def State.endBinding (s : State) : State :=
  match s.fab.sw.binding with
  | some (_, _, k) =>
    let b := mget Box.reset s.mbx.boxes k
    let s := s.put (Fld.MBX_BOX_STATE_BG k) 0
    { s with mbx := { s.mbx with boxes := mput Box.reset s.mbx.boxes k { b with bgCode := some .aborted } } }
  | none => s

/-- The FABRIC domain enters reset: its registers and contents are lost, Comb among them, lanes go to electrical idle, the hub and tile PLLs stop, and every box returns
to IDLE (R71, R73, R389). (log 255, DESIGN CHOICE) -/
def State.fabricReset (s : State) : State :=
  let s := s.stopFollow.endBinding
  State.dropLevels
    { s with regs := s.regs.filterMap fabricKeeps, fab := Fabric.reset, latches := s.latches.filter mgmtLatch, held := s.held.filter mgmtLatch,
             clk := { s.clk with fabricHeld := true, pllLock := s.clk.pllLock &&& 0x1E0 },
             boot := { s.boot with applying := none, poll := none, delay := false, combTrained := false },
             sec := { s.sec with programmed := [], waiting := [], rekeyDue := [], ideKeys := [], transport := none },
             mbx := { s.mbx with boxes := s.mbx.boxes.map (fun e => (e.1, e.2.toIdle)), msix := [], pba := [] } }

/-- A full fabric reset (R80): every FABRIC register returns to its reset value, those that R437 keeps among them. -/
def State.fullReset (s : State) : State :=
  let s := s.fabricReset
  { s with regs := s.regs.filter fun e => !keptPage (e.1 / 0x10000) }

/-- SEQ a is later than b, modulo 2^32. -/
def seqAfter (a b : Nat) : Bool := a != b && decide ((a + 2 ^ 32 - b) % 2 ^ 32 < 2 ^ 31)

/-- Waggle blocks are sent (R315). -/
def State.waggleOn (s : State) : Bool :=
  s.live 0xA0 && s.flag Fld.TDM_CFG_EN && s.flag Fld.WAGGLE_CFG_EN && s.flag Fld.BOOT_STATUS_FABRIC_READY && !s.clk.stopHeld

/-- Send a Waggle block (R315): HSEQ, LOW, RMASK and RSYNC are those of the records issued so far; while fewer than four blocks precede it, LOW is the first one's HSEQ. (logs 151, DEDUCED; 152, DEDUCED) -/
def State.sendBlock (s : State) (failstop : Bool) : State :=
  let p := s.fab.pair
  let role := s.get Fld.TDM_ROLE_STATE
  let act := role = 0 || role = 2 || role = 3 || role = 8
  let hseq := if act then s.get Fld.TDM_HSEQ_SEQ else 0
  let low := p.lastHseq.headD hseq
  let rmask := (p.recent.filter fun e => decide (e.2 < 20) && seqAfter e.1 low && !seqAfter e.1 hseq).foldl (fun n e => n ||| 2 ^ e.2) 0
  let b : WBlock :=
    { state := role, strap := s.flag Fld.CLK_STRAPS_TANDEM_ROLE, modId := s.get Fld.CLK_STRAPS_MOD_ID, msg := p.msgOut, hseq := hseq, low := low, rmask := rmask,
      rsync := if act then s.get Fld.TDM_UNKNOWN_REGIONS else 0, tsTx := s.now, echoTx := p.rxTs % 2 ^ 32, echoRx := p.rxAt % 2 ^ 32 }
  let l := p.lastHseq ++ [hseq]
  let l := l.drop (l.length - 4)
  let p := { p with lastHseq := l, recent := p.recent.filter fun e => seqAfter e.1 (l.headD 0), msgLeft := p.msgLeft - 1,
                    msgOut := if p.msgLeft = 1 then 0 else p.msgOut }
  { s with fab := { s.fab with pair := p }, out := s.out ++ [.waggle failstop b] }

/-- The module stops (R316): four FAILSTOP blocks with the final HSEQ, RMASK and RSYNC, and no further block. -/
def State.sendFailstop (s : State) : State :=
  if s.waggleOn then (((s.sendBlock true).sendBlock true).sendBlock true).sendBlock true else s

/-- Start-up stands where it resumes (R72, R374): at stage 5 while verified firmware runs and no activation is pending, else at stage 4 with the keeper in its boot ROM. -/
def State.standAt (s : State) : State :=
  let run := s.boot.fwRunning && s.nv.fwPending.isNone
  let s := s.put Fld.BOOT_STATUS_STAGE (if run then 5 else 4)
  let s := if run then s else (s.put Fld.MBX_CORE_STATUS_RUN 1).put Fld.MBX_POLICY_STATE 0
  { s with boot := { s.boot with fwRunning := run } }

/-- Entry to fabric reset by PERST_N, CLK_RESET or a failed Fixon slot (R72, R73): start-up stands at stage 5 again, or at stage 4 where no verified firmware
runs or an activation is pending. (log 42, DEDUCED) -/
def State.enterFabricReset (s : State) : State :=
  let s := s.sendFailstop.fabricReset
  if s.clk.mgmtUp && 4 < s.get Fld.BOOT_STATUS_STAGE || s.clk.startFail then
    let s := s.standAt.puts [(Fld.BOOT_STATUS_FABRIC_READY, 0), (Fld.BOOT_STATUS_FAIL, 0),
      (Fld.BOOT_STATUS_CAUSE, 0), (Fld.BOOT_STATUS_FAIL_STAGE, 0), (Fld.BOOT_FIXON_ERR_RECORD, 0)]
    { s with clk := { s.clk with stopHeld := false, startFail := false },
             boot := { s.boot with triedA := false, triedB := false, errSet := false } }
  else { s with clk := { s.clk with stopHeld := false } }

/-- The capture register of the stop controller (R363): latched before FABRIC enters reset. -/
def State.capture (s : State) (cls : Nat) (origin : StopOrigin) (cause : Option FaultMsg) : Capture :=
  { cls := cls, origin := origin, cause := cause, time := s.now, seq := s.get Fld.FLT_SEQ_SEQ,
    state := [(s.word Addr.PWR_HS_STATUS).toNat, bit s.clk.refPresent + 2 * bit s.clk.refSrcTcxo + 2 ^ 8 * s.clk.pllLock,
      (s.word Addr.BOOT_STATUS).toNat, (s.word Addr.TDM_ROLE).toNat],
    mirror := [(s.word Addr.TDM_HSEQ).toNat, (s.word Addr.TDM_ACKSEQ).toNat, (s.word Addr.TDM_NDSEQ).toNat, (s.word Addr.TDM_UNKNOWN).toNat],
    temps := [(s.word Addr.PWR_TEMP).toNat, (s.word Addr.COMB_TEMP).toNat] }

/-- A stop (R361, R363): the first condition to reach the stop controller is the cause; record issuers stop, the capture register is latched, the FAILSTOP
blocks are sent, every lane idles, FAULT_N is asserted but for a removal, and FABRIC enters reset. Later conditions change nothing. (log 54, DEDUCED) -/
def State.stopNow (s : State) (cls : Nat) (origin : StopOrigin) (cause : Option FaultMsg) : State :=
  if s.clk.stopHeld then s
  else if s.clk.startFail then
    let s := s.fabricReset
    { s with clk := { s.clk with stopHeld := true } }
  else
    let c := s.capture cls origin cause
    let s := s.sendFailstop.fabricReset
    let s := if s.clk.mgmtUp then (s.put Fld.FLT_STATUS_STOPPED 1).put Fld.BOOT_STATUS_FABRIC_READY 0 else s
    { s with clk := { s.clk with stopHeld := true }, hs := { s.hs with recMissing := true },
             flt := { s.flt with stop := some c, causeEntry := none, recordDue := s.clk.mgmtUp && !s.clk.mgmtStopped } }

/-- A fatal condition found by a block: its message is sent and the stop line driven at once (R361). -/
def State.fatal (s : State) (m : FaultMsg) (origin : StopOrigin := .source) : State :=
  (s.sendFault m).stopNow 2 origin (some m)

/-! ### Operations on lanes that the unit of ports shares with START_FAIL -/

/-- Change the home. -/
def State.modHome (s : State) (f : Home → Home) : State := { s with fab := { s.fab with home := f s.fab.home } }

/-- Change what the lanes hold beside their pages. -/
def State.modLanes (s : State) (f : Lanes → Lanes) : State := { s with fab := { s.fab with lanes := f s.fab.lanes } }

/-- What a port holds beside its PORTG block, and a change of it. -/
def State.portX (s : State) (p : Nat) : PortX := mget PortX.reset s.fab.lanes.port p
def State.modPort (s : State) (p : Nat) (f : PortX → PortX) : State :=
  s.modLanes fun l => { l with port := mput PortX.reset l.port p (f (s.portX p)) }

/-- The test running on a lane (R110): 1 RECAL, 2 PRBS_LOOP, 3 PRBS_EXT, 4 BIST. A refusal that sets STATE to BUSY leaves it running (R103). -/
def State.testOp (s : State) (i : Nat) : Option Nat := assoc s.fab.lanes.tests i

/-- An eye scan ends as ABORTED where one is under way (R101). -/
def State.abortEye (s : State) (i : Nat) : State :=
  let st := s.get (Fld.LANE_EYE_STATUS_STATE i)
  if st = 1 ∨ st = 2 then (s.put (Fld.LANE_EYE_STATUS_STATE i) 4).raise (Evt.LANE_EYE_DONE i) else s

/-- A running or suspended scan follows its lane: suspended while a margining command is active on the lane or its receiver sees electrical idle (R101). -/
def State.suspendEye (s : State) (i : Nat) : State :=
  let st := s.get (Fld.LANE_EYE_STATUS_STATE i)
  if st = 1 ∨ st = 2 then
    s.put (Fld.LANE_EYE_STATUS_STATE i) (if s.fab.lanes.margins.contains i || !s.flag (Fld.LANE_STATUS_SIG_DET i) then 2 else 1)
  else s

/-- A lane's receiver sees signal and has locked, or sees electrical idle (R92). -/
def State.laneSignal (s : State) (i : Nat) (on : Bool) : State :=
  (s.puts [(Fld.LANE_STATUS_SIG_DET i, bit on), (Fld.LANE_STATUS_CDR_LOCK i, bit on)]).suspendEye i

/-- A lane goes down with its port: no rate, no signal; its scan, its margining and its precoding end and its error window is dropped. -/
def State.laneDown (s : State) (i : Nat) : State :=
  let s := s.modLanes fun l => { l with margins := l.margins.filter fun x => x != i, errs := assocDel l.errs i, margin := assocDel l.margin i, precoding := l.precoding.filter fun x => x != i }
  ((s.abortEye i).puts [(Fld.LANE_STATUS_RATE i, 0), (Fld.LANE_STATUS_POL_INV i, 0)]).laneSignal i false

/-- A test ends (R110, R112); a PRBS test leaves the lane idle. -/
def State.endTest (s : State) (i st : Nat) : State :=
  match s.testOp i with
  | none => s
  | some op =>
    let s := ((s.modLanes fun l => { l with tests := assocDel l.tests i }).put (Fld.LANE_TEST_STATUS_STATE i) st).raise (Evt.LANE_TEST_DONE i)
    if op = 2 || op = 3 then s.laneDown i else s

/-- START_FAIL drives every transmitter to idle (R75, R95): PRBS tests end as ABORTED. (log 230, DESIGN CHOICE) -/
def State.idleLanes (s : State) : State :=
  (s.fab.lanes.tests.filter fun e => e.2 == 2 || e.2 == 3).foldl (fun s e => s.endTest e.1 6) s

/-- START_FAIL (R75): BOOT_STATUS names the cause and the stage, FAULT_N is asserted, the lanes stay idle, management runs on. (log 41, DEDUCED) -/
def State.failStart (s : State) (cause : Nat) : State :=
  if s.clk.startFail || s.clk.stopHeld then s
  else
    let st := s.get Fld.BOOT_STATUS_STAGE
    let s := (s.puts [(Fld.BOOT_STATUS_FAIL, 1), (Fld.BOOT_STATUS_CAUSE, cause), (Fld.BOOT_STATUS_FAIL_STAGE, st)]).raise Evt.BOOT_START_FAIL
    let m := s.message Kind.START_FAIL 2 0x002 0 8 Party.none none
    let s := s.sendFault m
    let c := s.capture 2 .startFail (some m)
    let s := (s.put Fld.FLT_STATUS_STOPPED 1).idleLanes
    { s with clk := { s.clk with startFail := true }, hs := { s.hs with recMissing := true },
             flt := { s.flt with stop := some c, causeEntry := none, recordDue := s.clk.mgmtUp && !s.clk.mgmtStopped } }

/-- What power-on reset leaves of one listed register: the PWR page but for its LOCK (R56, R71). -/
def porKeeps (e : Nat × Word) : Bool := e.1 / 0x10000 == 3 && e.1 != Addr.PWR_LOCK

/-- Power-on reset is asserted: the MGMT and FABRIC domains lose everything; the NV store, the AUX domain and the pins stay (R37, R71). -/
def State.powerOnReset (s : State) : State :=
  { s with regs := s.regs.filter porKeeps, ctrs := [], latches := [], held := [],
           clk := { s.clk with porAsserted := true, pllReleased := false, mgmtUp := false, mgmtStopped := false, fabricHeld := true, resetPulse := false,
                               stopHeld := false, startFail := false, pllLock := 0, timeBase := 0, sinceSlew := 0, t3 := 0, mgmtUpAt := 0,
                               straps := ⟨0, false⟩, refSrcTcxo := true },
           boot := Boot.reset, flt := Flt.reset, perf := Perf.reset, keeper := Keeper.reset, sec := Sec.reset, mbx := Mbx.reset, fab := Fabric.reset }

/-! ### The end of a command -/

/-- The lines that follow the state settle at the end of every command: ALERT_N and its event (R358), and the interrupt levels held as seen high (R377). (log 12, DESIGN CHOICE) -/
def State.settle (s : State) : State := s.driveAlert.dropLevels

/-- A command ends: the state it leaves, settled, is the next one. -/
def done (s : State) : Host.Outcome State Fault Refusal := .next s.settle

end Sys2Proof.Machine
end

