-- ==== Sys2Proof/Machine/Mirror.lean ====
section
/-! DEFINITION. Sys2Proof/Machine/Mirror.lean: the roles (R308) and the mirror records the active issues for every change of a mirrored region (R305, R306, R320 to R324). -/
namespace Sys2Proof.Machine
open Sys2Proof

/-- TDM_ROLE.STATE. -/
def State.role (s : State) : Nat := s.get Fld.TDM_ROLE_STATE

/-- The module is active (R308): OFF, ACTIVE_SOLO, ACTIVE_PAIRED, and SWAPPING until HANDOVER. -/
def State.isActive (s : State) : Bool := s.role == 0 || s.role == 2 || s.role == 3 || (s.role == 8 && !s.fab.pair.handover)

/-- The active issues records (R306): a module in OFF mirrors nothing. -/
def State.issues (s : State) : Bool := s.isActive && s.role != 0

/-- Change the mirroring engine. -/
def State.modPair (s : State) (f : Pair → Pair) : State := { s with fab := { s.fab with pair := f s.fab.pair } }

/-- The mirror region of a register (R305): the hive blocks, host slots and windows of HOME, the binding tables, the SWARM tables, VF entries and pool windows. -/
def regionOf (a : Nat) : Option Nat :=
  let pg := a / 0x10000
  let o := a % 0x10000
  if pg = 0x70 then
    if 0x2000 ≤ o && o < 0x2800 then some ((o - 0x2000) / 0x80)
    else if 0x4000 ≤ o && o < 0x8000 then some ((o - 0x4000) / 1024)
    else if 0x8000 ≤ o then some ((o - 0x8000) / 2048)
    else none
  else if 0x600 ≤ pg && pg ≤ 0x605 then some 16
  else if pg = 0xA2 then (if 0x1100 ≤ o && o < 0x1200 || 0x2000 ≤ o && o < 0x2400 || 0x4000 ≤ o && o < 0x8000 then some 18 else none)
  else if pg = 0x90 then (if 0x4000 ≤ o && o < 0x5000 then some 19 else none)
  else if pg = 0x82 then (if 0x2000 ≤ o && o < 0x2400 then some 19 else none)
  else none

/-- The length of a record in bytes (R320). -/
def RecBody.length : RecBody → Nat
  | .dir _ _ _ => 32
  | .reg _ w => (20 + 4 * w.length + 7) / 8 * 8
  | .commit _ _ r => 16 + 72 * r.length
  | .epoch _ _ => 24
  | .bulkBegin | .bulkEnd => 16
  | .bulkDir _ _ c _ => 24 + 256 * c

/-- MIRROR frames that a record of n bytes takes (R319). -/
def framesOf (n : Nat) : Nat := (n + 227) / 228

/-- Bytes in the journal, and bytes still in the staging buffer (R324). -/
def Pair.journalBytes (p : Pair) : Nat := (p.journal.map fun r => r.body.length).sum
def Pair.stagedBytes (p : Pair) : Nat := ((p.journal.filter fun r => !r.sent).map fun r => r.body.length).sum

/-- Size of the journal partition in bytes (R249). -/
def State.journalSize (s : State) : Nat := 64 * 2 ^ 20 * bitsOf (s.get Fld.COMB_PART_ACT_SIZES) 10 6

/-- Is the RSYNC bit of a region set? -/
def State.rsync (s : State) (region : Nat) : Bool := bitsOf (s.get Fld.TDM_UNKNOWN_REGIONS) region 1 == 1

/-- Set or clear RSYNC bits. -/
def State.setRsync (s : State) (mask : Nat) : State := s.put Fld.TDM_UNKNOWN_REGIONS (s.get Fld.TDM_UNKNOWN_REGIONS ||| mask)
def State.clearRsync (s : State) (region : Nat) : State :=
  if s.rsync region then s.put Fld.TDM_UNKNOWN_REGIONS (s.get Fld.TDM_UNKNOWN_REGIONS - 2 ^ region) else s

/-- Keep TDM_JFILL at the journal's fill. (log 125, DEDUCED) -/
def State.showFill (s : State) : State := s.put Fld.TDM_JFILL_KIB (s.fab.pair.journalBytes / 1024)

/-- MIRROR frames that the credits allow (R313). -/
def Pair.credit (p : Pair) : Nat := p.peerCredits - (p.sent + 65536 - p.cretIn) % 65536

/-- Credits for n more MIRROR frames (R313). -/
def Pair.hasCredit (p : Pair) (n : Nat) : Bool := decide ((p.sent + 65536 - p.cretIn) % 65536 + n ≤ p.peerCredits)

/-- A frame can be sent: the link is UP with a common version, and credits allow n more (R313, R333). -/
def State.canSend (s : State) (n : Nat) : Bool := s.get Fld.TDM_LINK_STATE == 3 && s.get Fld.TDM_LINK_MPV != 0 && s.fab.pair.hasCredit n

/-- n MIRROR frames go out. (log 86, DEDUCED) -/
def State.sendFrames (s : State) (n : Nat) : State :=
  ((s.modPair fun p => { p with sent := (p.sent + n) % 65536 }).count (Ctr.PAIR 0 0) n).count (Ctr.PAIR 0 1) n

/-- Send the staged records that credits allow, in order; the first owed a RESTART goes in a RESTART frame (R313, R322 to R324). A record of more frames than the credits allow
goes on when more come back, and is put out with its last frame. (log 270, DEDUCED) -/
def State.pumpRecords : List Rec → State → State
  | [], s => s
  | r :: rest, s =>
    if r.sent then s.pumpRecords rest
    else
      let n := framesOf r.body.length - s.fab.pair.part
      if s.canSend n then
        let s := (s.sendFrames n).emit (.rec_ s.fab.pair.restartNext { r with sent := true })
        (s.modPair fun p =>
          { p with restartNext := false, part := 0, journal := p.journal.map fun x => if x.seq = r.seq then { x with sent := true } else x }).pumpRecords rest
      else if s.canSend 1 then
        let k := s.fab.pair.credit
        (s.sendFrames k).modPair fun p => { p with part := p.part + k }
      else s

/-- Send what can be sent: an ACK or RESEND that is due, and records. -/
def State.pump (s : State) : State :=
  let s := if s.fab.pair.ackDue && s.canSend 1 then
      ((s.sendFrames 1).modPair fun p => { p with ackDue := false }).emit (.ackRec true (s.get Fld.TDM_ACKSEQ_SEQ) s.fab.pair.mepoch) else s
  let s := if s.fab.pair.reqDue && s.canSend 1 then
      ((((s.sendFrames 1).modPair fun p => { p with reqDue := false }).emit (.ackRec false ((s.get Fld.TDM_HSEQ_SEQ + 1) % 2 ^ 32) 0)).count (Ctr.PAIR 1 4)) else s
  s.pumpRecords s.fab.pair.journal

/-- Does a record of n bytes fit in the staging buffer and the journal (R324)? -/
def State.recFits (s : State) (n : Nat) : Bool :=
  decide (s.fab.pair.stagedBytes + n ≤ 2 ^ 20) && decide (s.fab.pair.journalBytes + n ≤ s.journalSize)

/-- Append one record: it takes the next SEQ, is journaled, and is sent as credits allow; nothing waits for it (R18, R306). -/
def State.appendOne (s : State) (region : Nat) (b : RecBody) : State :=
  let seq := (s.get Fld.TDM_HSEQ_SEQ + 1) % 2 ^ 32
  let s := s.put Fld.TDM_HSEQ_SEQ seq
  let s := if 16 ≤ region && region < 20 then s.put Fld.TDM_NDSEQ_SEQ seq else s
  let s := s.modPair fun p =>
    { p with journal := p.journal ++ [⟨seq, region, b, false⟩], recent := p.recent ++ [(seq, region)], sinceEpoch := p.sinceEpoch + b.length }
  ((s.count (Ctr.PAIR 0 3)).showFill).pump

/-- Close the mirror epoch (R321). An EPOCH record that cannot be staged or journaled is not issued, and OVERFLOW is raised (R324). -/
def State.closeEpoch (s : State) : State :=
  let e := (s.fab.pair.mepoch + 1) % 2 ^ 32
  let b : RecBody := .epoch e s.now
  if s.recFits b.length then ((s.modPair fun p => { p with mepoch := e }).appendOne 20 b).modPair fun p => { p with sinceEpoch := 0 }
  else s.raise Evt.TDM_OVERFLOW

/-- Bytes of records after which an epoch closes (R321). -/
def epochBytes : Nat := 64 * 2 ^ 20

/-- Append a record; with it the epoch may have reached its 64 MiB, which closes it (R321). -/
def State.append (s : State) (region : Nat) (b : RecBody) : State :=
  let s := s.appendOne region b
  if epochBytes ≤ s.fab.pair.sinceEpoch then s.closeEpoch else s

/-- Issue a record for a change of a region (R306, R324): none while the region's RSYNC bit is set; one that cannot be staged or journaled sets that bit. -/
def State.issue (s : State) (region : Nat) (b : RecBody) : State :=
  if !s.issues || s.rsync region then s
  else if s.recFits b.length then s.append region b
  else (s.setRsync (2 ^ region)).raise Evt.TDM_OVERFLOW

/-- Registers of mirrored regions that differ between two states. -/
def changedRegs (s old : State) : List Nat :=
  ((s.regs.map (·.1)) ++ (old.regs.map (·.1)).filter fun a => (assoc s.regs a).isNone).filter fun a =>
    (regionOf a).isSome && decide (s.word a ≠ old.word a)

/-- Directory entries that differ between two states; of those an HGEN no longer counts, none. -/
def changedDir (s old : State) : List Nat :=
  let e := fun (x : State) (k : Nat) => (assoc x.fab.home.dir k).map (·.e)
  ((s.fab.home.dir.map (·.1)) ++ (old.fab.home.dir.map (·.1)).filter fun k => (assoc s.fab.home.dir k).isNone).filter fun k =>
    decide (e s k ≠ e old k) &&
      match (e s k).or (e old k) with
      | some x => x.hgen == s.get (Fld.HIVE_STATUS_HGEN (k / 2 ^ 38))
      | none => false

/-- The first word of the entry of the binding tables that a register is of (R158): one change of an entry is one record (R149). Every other register is its own. -/
def entryOf (a : Nat) : Nat :=
  let pg := a / 0x10000
  if pg = 0x600 || pg = 0x601 then a / 32 * 32
  else if pg = 0x602 || pg = 0x604 || pg = 0x605 then a / 64 * 64
  else a

/-- The least and the greatest of a list of addresses, from a first one. -/
def bounds (a : Nat) (l : List Nat) : Nat × Nat := l.foldl (fun x b => (min x.1 b, max x.2 b)) (a, a)

/-- A REG record of the words that changed in one entry, from the first of them to the last (R149, R306). -/
def State.issueEntry (s : State) (regs : List Nat) (e : Nat) : State :=
  match regs.filter fun a => entryOf a == e with
  | [] => s
  | a :: l =>
    let b := bounds a l
    s.issue ((regionOf a).getD 0) (.reg b.1 (tabulate ((b.2 - b.1) / 4 + 1) fun i => (s.word (b.1 + 4 * i)).toNat))

/-- A word of which the tiles hold copies: of the binding tables (R158), of the SWARM tables (R335) and of the pool windows (R269). -/
def tileWord (a : Nat) : Bool := regionOf a == some 16 || regionOf a == some 18 || a / 0x10000 == 0x82

/-- Words the tiles hold copies of that differ between two states: for up to 200 ns the copies keep the earlier word, each its oldest (R158); a fabric in reset holds none. -/
def State.lagTiles (s old : State) : State :=
  let l := (changedRegs s old).filter tileWord
  if l.isEmpty || s.clk.fabricHeld then s
  else
    let kept := s.fab.lag.filter fun o => decide (s.now < o.since + 200)
    let new := (List.range 4).flatMap fun t =>
      (l.filter fun a => !kept.any fun o => o.tile == t && o.addr == a).map fun a => ({ tile := t, addr := a, word := old.word a, since := s.now } : OldWord)
    { s with fab := { s.fab with lag := kept ++ new } }

/-- What a command has changed: the copies of the tiles follow within 200 ns (R158); a REG record is issued for every entry or register word, and a DIR record for every
directory entry, of a mirrored region (R306). (log 173, DEDUCED) -/
def State.mirror (s old : State) : State :=
  let s := s.lagTiles old
  if !s.issues then s
  else
    let regs := changedRegs s old
    let dirs := changedDir s old
    let s := (regs.map entryOf).eraseDups.foldl (fun s e => s.issueEntry regs e) s
    dirs.foldl (fun s k => s.issue (k / 2 ^ 38) (.dir (k / 2 ^ 38) (k % 2 ^ 38) ((assoc s.fab.home.dir k).map (·.e)))) s

end Sys2Proof.Machine
end

