-- ==== Sys2Proof/Machine/Masters.lean ====
section
/-! DEFINITION. Sys2Proof/Machine/Masters.lean: which master reaches which register by which path (R375, R431, R434, R437), and the policy partition's stop. -/
namespace Sys2Proof.Machine
open Sys2Proof

/-- The designated fabric-manager host (R385). -/
def State.isFmHost (s : State) (v : Nat) : Bool := s.flag Fld.MBX_CFG_FM_EN && s.get Fld.MBX_CFG_FM_VCS == v

/-- Function 1 of VCS v answers memory requests of its host (R286, R309): the VCS is enabled, the module active. (log 266, DEDUCED) -/
def State.userReached (s : State) (v : Nat) : Bool := s.live 0x60 && s.flag (Fld.VCS_ENTRY_CFG_EN v) && s.isActive

/-- The policy partition is stopped (R375): STOPPED with a cause, POLICY_STOPPED raised; core 3 runs Quinmen firmware from then on. -/
def State.policyStop (s : State) (cause : Nat) : State :=
  if s.get Fld.MBX_POLICY_STATE = 1 then
    let s := s.puts [(Fld.MBX_POLICY_STATE, 2), (Fld.MBX_POLICY_CAUSE, cause)]
    let s := s.raise Evt.MBX_POLICY_STOPPED
    { s with keeper := { s.keeper with grant := [], policyCmds := false } }
  else s

/-- Pages never granted to the policy partition: BOOT, CLK, PWR, FLT, INTC, MBX, SEC, NVS, TDM (R375). -/
def neverGranted (pg : Nat) : Bool := [1, 2, 3, 4, 5, 6, 7, 9, 0xA0].contains pg

/-- Keeper core or board: the masters of CLK_RESET, MBX_CFG, FLT_INJECT, DEV_LOCK_ALL, NVS_CMD, NVS_PARAM. -/
def Master.keeperOrBoard : Master → Bool
  | .keeper _ | .board => true
  | _ => false

/-- Keeper cores alone. (logs 25, DEDUCED; 218, DESIGN CHOICE) -/
def Master.isKeeper : Master → Bool
  | .keeper _ => true
  | _ => false

/-- Does the path of a master carry its write to a page (R431, R434, R382)? BAR4 of a host answers while function 1 of its VCS does. A mover VF reaches only its channel blocks, which the channel registers check. -/
def State.pathWrites (s : State) (m : Master) (pg : Nat) : Bool :=
  match m with
  | .keeper _ => true
  | .policy => s.keeper.grant.contains pg && !neverGranted pg
  | .host v => s.userReached v.val && s.isFmHost v.val && pg != 5
  | .board => pg != 5
  | .mover _ => pg == 0x90
  | .dbg => pg == 7

/-- Does the path of a master carry its read of a page (R431)? -/
def State.pathReads (s : State) (m : Master) (pg : Nat) : Bool :=
  match m with
  | .keeper _ | .board => true
  | .policy => pg != 7
  | .host v => s.userReached v.val && (s.isFmHost v.val || pg == 0 || pg == 0x0A)
  | .mover _ => pg == 0x90
  | .dbg => pg == 7

/-- A write of a register of a page takes its effect f only where the master's path reaches the page and its domain is out of reset (R431, R437); the policy
partition is stopped by a write outside its grant (R375). What it changes in a mirrored region is mirrored (R306). -/
def State.guard (s : State) (m : Master) (pg : Nat) (f : State → State) : State :=
  if !s.clk.mgmtUp || s.clk.mgmtStopped then s
  else if m == .policy && s.get Fld.MBX_POLICY_STATE != 1 then s
  else if s.pathWrites m pg then (if s.live pg then (f s).mirror s else s)
  else if m == .policy then s.policyStop 1
  else s

/-- A write of a mirrored table: a passive module ignores it from every master (R309). -/
def State.guardMirrored (s : State) (m : Master) (pg : Nat) (f : State → State) : State := s.guard m pg fun s => if s.isActive then f s else s

end Sys2Proof.Machine
end

