-- ==== Sys2Proof/Machine/Switch.lean ====
section
/-! DEFINITION. Sys2Proof/Machine/Switch.lean: the switch core: trackers and tags (R150 to R152), cells, strands and admission (R165 to R171), services (R172),
marking (R184, R185), multicast (R175, R176), the removal of messages by a flush (R153, R186), and the answers a flush synthesizes. -/
namespace Sys2Proof.Machine
open Sys2Proof

/-- Change the switch core. -/
def State.modSw (s : State) (f : Switch → Switch) : State := { s with fab := { s.fab with sw := f s.fab.sw } }

/-! ### Reports to hosts (R275, R360) -/

/-- Change the Hive Access Table. -/
def State.modHat (s : State) (f : Hat → Hat) : State := { s with fab := { s.fab with hat := f s.fab.hat } }

/-- Codes of an AER report: the bit of the uncorrectable status it sets. (log 56, PRESUMED) -/
def Aer.surpriseDown : Nat := 5
def Aer.internal : Nat := 22

/-- The upstream vPPB entry of a VCS (R139). -/
def State.upstreamVppb (s : State) (v : Nat) : Nat := s.get (Fld.VCS_ENTRY_CFG_VPPB_BASE v)

/-- Report to the host of a VCS as an Uncorrectable Internal Error, at most once in any 1 ms (R275, R360). -/
def State.aerFault (s : State) (v : Nat) : State :=
  match assoc s.fab.hat.aer v with
  | some t => if s.now < t + 1000000 then s else (s.modHat fun h => { h with aer := assocPut h.aer v s.now }).emit (.aer (s.upstreamVppb v) Aer.internal)
  | none => (s.modHat fun h => { h with aer := assocPut h.aer v s.now }).emit (.aer (s.upstreamVppb v) Aer.internal)

/-! ### Kinds of message -/

/-- The service of a message (R172). -/
def MsgKind.service : MsgKind → Nat
  | .cfgReq | .cfgCpl | .mctp | .fanout => 0
  | .ioNp | .ioPosted | .cpl | .bcast => 1
  | .memRd | .memRdData | .memSpecRd | .memInv | .memInvNT | .memClnEvct | .biConflict => 2
  | .memWr | .memWrPtl => 3
  | .memData | .cmp | .cmpS | .cmpE | .biConflictAck => 4
  | .biSnpInv | .biSnpData | .biSnpCur | .biRspI | .biRspS | .biRspE | .biRspBlk => 5
  | .d2hReq | .d2hRsp | .d2hData | .h2dReq | .h2dRsp | .h2dData => 6
  | .own => 7
  | .ptmReq => 7

/-- CXL.mem M2S requests. -/
def MsgKind.isMem : MsgKind → Bool
  | .memRd | .memRdData | .memSpecRd | .memInv | .memInvNT | .memClnEvct | .biConflict | .memWr | .memWrPtl => true
  | _ => false

/-- CXL.mem requests without data that read (R153). -/
def MsgKind.isMemRead : MsgKind → Bool
  | .memRd | .memRdData | .memSpecRd => true
  | _ => false

/-- CXL.mem writes. -/
def MsgKind.isMemWrite : MsgKind → Bool
  | .memWr | .memWrPtl => true
  | _ => false

/-- Messages of CXL.io. -/
def MsgKind.isIo : MsgKind → Bool
  | .cfgReq | .cfgCpl | .mctp | .fanout | .ioNp | .ioPosted | .cpl | .bcast | .own | .ptmReq => true
  | _ => false

/-- CXL.cache and CXL.mem messages that carry a line of 64 bytes (R193). -/
def MsgKind.hasLine : MsgKind → Bool
  | .memWr | .memWrPtl | .memData | .d2hData | .h2dData => true
  | _ => false

/-- Back-invalidate snoops. -/
def MsgKind.isBiSnp : MsgKind → Bool
  | .biSnpInv | .biSnpData | .biSnpCur => true
  | _ => false

/-- Responses to back-invalidate snoops. -/
def MsgKind.isBiRsp : MsgKind → Bool
  | .biRspI | .biRspS | .biRspE | .biRspBlk => true
  | _ => false

/-- Answers: NDR, DRS, completions, BIRsp and CXL.cache responses (R195). -/
def MsgKind.isAnswer : MsgKind → Bool
  | .memData | .cmp | .cmpS | .cmpE | .biConflictAck | .biRspI | .biRspS | .biRspE | .biRspBlk | .cfgCpl | .cpl | .d2hRsp | .d2hData | .h2dRsp | .h2dData => true
  | _ => false

/-- The tracker class of a message that expects an answer (R150): 0 CXL.mem request, 1 CXL.io non-posted, 2 BISnp, 3 CXL.cache D2H request. -/
def MsgKind.trackClass : MsgKind → Option Nat
  | .memRd | .memRdData | .memInv | .memInvNT | .memClnEvct | .biConflict | .memWr | .memWrPtl => some 0
  | .ioNp | .cfgReq => some 1
  | .biSnpInv | .biSnpData | .biSnpCur => some 2
  | .d2hReq => some 3
  | _ => none

/-! ### Lengths (R165, R193, R194) -/

/-- Round up to whole units. -/
def ceilDiv (a b : Nat) : Nat := (a + b - 1) / b

/-- Granules of a message in the buffer: its header and its data (R165). -/
def Msg.granules (m : Msg) : Nat :=
  if m.kind.isIo then ceilDiv (32 + m.data.length) 16 else if m.kind.hasLine then 5 else 1

/-- Beats of a message on a datapath of 128 bytes (R178, R180). -/
def Msg.beats (m : Msg) : Nat := ceilDiv m.granules 8

/-- Slot bytes S (R193). -/
def Msg.slotBytes (m : Msg) : Nat :=
  if m.kind.isIo then min 544 (16 * ceilDiv m.bytes 16) else if m.kind.hasLine then 80 else 16

/-- The length L charged under the overhead of port p (R193). -/
def State.lengthAt (s : State) (m : Msg) (p : Nat) : Nat :=
  let o := s.get (Fld.PORT_LEN_OVH_BYTES p)
  let l := if o < 128 then m.slotBytes + o else m.slotBytes - (256 - o)
  if l < 16 then 16 else l

/-! ### Ports and trackers (R150 to R152, R452) -/

/-- The link of a port is up (R452). (log 134, DEDUCED) -/
def State.linkUp (s : State) (p : Nat) : Bool := s.fab.up.contains p

/-- Is a port present under the mode in force (R113)? -/
def State.present (s : State) (p : Nat) : Bool := bitsOf (s.get (Fld.PORTG_STATUS_PRESENT (p / 4))) (p % 4) 1 == 1

/-- Roles of a port (R115). -/
def State.roleIs (s : State) (p r : Nat) : Bool := s.present p && s.flag (Fld.PORT_CFG_EN p) && s.get (Fld.PORT_CFG_ROLE p) == r

/-- An ISL is usable. -/
def State.islUsable (s : State) (p : Nat) : Bool := s.roleIs p 2 && s.linkUp p

/-- The port that leads to a PID that is not local: ISL0, or ISL1 while ISL0 is not usable. -/
def State.swarmPort (s : State) (pid : Nat) : Option Nat :=
  let a := s.get (Fld.SWARM_RT_ISL0 pid)
  let b := s.get (Fld.SWARM_RT_ISL1 pid)
  if !s.flag (Fld.SWARM_RT_V pid) then none
  else if s.islUsable a then some a
  else if s.flag (Fld.SWARM_RT_ISL1_V pid) && s.islUsable b then some b
  else none

/-- Non-flit mode on a port: tags are 10 bits wide (R150). -/
def State.nonFlit (s : State) (p : Nat) : Bool := s.get (Fld.PORT_STATUS_FLIT p) == 0

/-- Slots per port of a class (R150). -/
def State.slotCount (s : State) (p c : Nat) : Nat :=
  match c with
  | 0 => 4096
  | 1 => if s.nonFlit p then 256 else 4096
  | _ => 2048

/-- The tag of a slot: bits of GEN above bit 0, and the slot number (R150). -/
def State.trackTag (s : State) (p c gen slot : Nat) : Nat :=
  match c with
  | 0 => bitsOf gen 1 4 * 4096 + slot
  | 1 => if s.nonFlit p then bitsOf gen 1 2 * 256 + slot else bitsOf gen 1 2 * 4096 + slot
  | _ => bitsOf gen 1 1 * 2048 + slot

/-- The slot number in a tag. -/
def State.tagSlot (s : State) (p c tag : Nat) : Nat :=
  match c with
  | 0 => tag % 4096
  | 1 => if s.nonFlit p then tag % 256 else tag % 4096
  | _ => tag % 2048

/-- Slots in use of a port and class, by number. -/
def State.slots (s : State) (p c : Nat) : NMap TSlot := mget [] s.fab.sw.trackers (4 * p + c)

/-- Replace the slots of a port and class. -/
def State.setSlots (s : State) (p c : Nat) (m : NMap TSlot) : State :=
  s.modSw fun w => { w with trackers := mput [] w.trackers (4 * p + c) m }

/-- The first slot not in use at or after `start`, in circular order. -/
def findFree {α : Type} (m : NMap α) (n start : Nat) : Nat → Option Nat
  | 0 => none
  | f + 1 =>
    match assoc m (start % n) with
    | none => some (start % n)
    | some _ => findFree m n (start + 1) f

/-- The NDR a read is owed beside its data, by MetaValue and type of its target (R153): none from an HDM-H target. (log 116, PRESUMED) -/
def readNdr (mem : MemType) (mv : MetaVal) : Option MsgKind :=
  match mem, mv with
  | .hdmH, _ => none
  | _, .a => some .cmpE
  | _, .s => some .cmpS
  | _, _ => some .cmp

/-- The answers a request is owed: data, and NDR. -/
def Msg.owes (m : Msg) : Bool × Bool :=
  if m.kind.isMemRead then (true, (readNdr m.mem m.mv).isSome)
  else if m.kind == .ioNp || m.kind == .cfgReq then (true, false)
  else (false, true)

/-- A back-invalidate snoop of a home, by its BI-ID (R225). (log 185, DEDUCED) -/
def Msg.homeSnoop (m : Msg) : Bool := m.kind.isBiSnp && m.biId == 0xFFF

/-- Take a FREE slot for a message that expects an answer (R150, R151); which one is open. None where the class has no FREE slot. Messages to an internal
endpoint, those that expect no answer, and the snoops of homes, take none. The request of a device that a port flush has lost takes a STALE slot, so that its answer is
discarded (R153). (logs 89, DESIGN CHOICE; 90, DEDUCED) -/
def State.track (s : State) (m : Msg) : Option (State × Msg) :=
  match m.kind.trackClass with
  | none => some (s, m)
  | some c =>
    if 64 ≤ m.dst || m.slot.isSome || 64 ≤ m.src || m.homeSnoop then some (s, m)
    else
      let used := s.slots m.dst c
      let n := s.slotCount m.dst c
      match findFree used n s.free (min n (used.length + 1)) with
      | none => none
      | some k =>
        let m := { m with slot := some k }
        let e : TSlot := { stale := m.orphan, vppb := m.vppb.getD 4096, gen := m.gen, seq := s.fab.sw.slotSeq, msg := m, owesData := m.owes.1, owesNdr := m.owes.2 }
        some ((s.used.modSw fun w => { w with slotSeq := w.slotSeq + 1 }).setSlots m.dst c (assocPut used k e), m)

/-- Record the mark of a request in its tracker slot, or in the forward slot of one that the home forwards (R185). -/
def State.markSlot (s : State) (m : Msg) (load : Nat) : State :=
  match m.kind.trackClass, m.slot with
  | some c, some k =>
    match assoc (s.slots m.dst c) k with
    | some e => s.setSlots m.dst c (assocPut (s.slots m.dst c) k { e with msg := { e.msg with devLoad := load } })
    | none => s
  | _, _ =>
    if m.src == 64 && m.dst < 64 then
      match assoc s.fab.home.fwd m.tag with
      | some f => s.modHome fun o => { o with fwd := assocPut o.fwd m.tag { f with msg := { f.msg with devLoad := load } } }
      | none => s
    else s

/-- A message joins the tile's or endpoint's queue for its ingress port and service (R170). -/
def State.queueMsg (s : State) (m : Msg) : State :=
  let m := { m with svc := m.kind.service }
  match s.track m with
  | some (s, m) => s.modSw fun w => { w with waiting := w.waiting ++ [m] }
  | none => (s.count (Ctr.PORT m.dst 25)).modSw fun w => { w with waiting := w.waiting ++ [m] }

/-! ### Cells and strands (R165 to R167) -/

/-- The key of a strand: port, service, subscriber. -/
def strandKey (p svc sub : Nat) : Nat := (8 * p + svc) * 4096 + sub

/-- The strand of a port, service and subscriber. -/
def State.strand (s : State) (p svc sub : Nat) : Strand := mget Strand.empty s.fab.sw.strands (strandKey p svc sub)

/-- Granules left in the tail cell. -/
def Strand.room (st : Strand) : Nat :=
  if st.next % 16 ≠ 0 && st.cells.any (fun c => c.ix == st.next / 16) then 16 - st.next % 16 else 0

/-- Cells that a message of g granules opens in a strand (R166). -/
def Strand.opens (st : Strand) (g : Nat) : Nat := if g ≤ st.room then 0 else ceilDiv (g - st.room) 16

/-- Append a message of g granules, its new cells those numbered, in the region given. -/
def Strand.push (st : Strand) (m : Msg) (mc : Option Nat) (g : Nat) (reserve : Bool) (nums : List Nat) : Strand :=
  let pos := if st.room = 0 then 16 * ceilDiv st.next 16 else st.next
  let first := ceilDiv pos 16
  { cells := st.cells ++ tabulate (st.opens g) (fun i => { ix := first + i, reserve := reserve, num := nth nums i }), next := pos + g, msgs := st.msgs ++ [⟨m, mc, pos, g⟩] }

/-- Some message of the strand still occupies a cell (R167). -/
def Strand.occupies (st : Strand) (c : Cell) : Bool := st.msgs.any fun e => decide (e.pos < 16 * c.ix + 16) && decide (16 * c.ix < e.pos + e.n)

/-- Keep the cells that some message still occupies; the others are released (R167). -/
def Strand.release (st : Strand) : Strand := { st with cells := st.cells.filter st.occupies }

/-- The numbers of the cells so released. -/
def Strand.freed (st : Strand) : List Nat := (st.cells.filter fun c => !st.occupies c).map (·.num)

/-- Take the cell at the head of the free list of bank k (R167). -/
def Bank.take (b : Bank) (k : Nat) : Option (Nat × Bank) :=
  if b.fresh < 2048 then some (2048 * k + b.fresh, { b with fresh := b.fresh + 1 })
  else
    match b.back with
    | [] => none
    | c :: l => some (c, { b with back := l })

/-- Allocate a cell from the next bank, in rotating order, that has one free (R167). (log 226, DESIGN CHOICE) -/
def State.takeCell (s : State) : State × Nat :=
  match (List.range 96).findSome? fun i =>
      let k := (s.fab.sw.bankNext + i) % 96
      ((mget Bank.reset s.fab.sw.banks k).take k).map fun r => (k, r) with
  | some (k, c, b) => (s.modSw fun w => { w with banks := mput Bank.reset w.banks k b, bankNext := (k + 1) % 96 }, c)
  | none => (s, 0)

/-- Allocate n cells. -/
def State.takeCells (s : State) : Nat → State × List Nat
  | 0 => (s, [])
  | n + 1 =>
    let a := s.takeCell
    let b := a.1.takeCells n
    (b.1, a.2 :: b.2)

/-- Released cells return to the free lists of their banks (R167). -/
def State.freeCells (s : State) (l : List Nat) : State :=
  l.foldl (fun s c =>
    s.modSw fun w =>
      let b := mget Bank.reset w.banks (c / 2048)
      { w with banks := mput Bank.reset w.banks (c / 2048) { b with back := b.back ++ [c] } }) s

/-- All strands of a service node. -/
def State.nodeStrands (s : State) (p svc : Nat) : List (Nat × Strand) := s.fab.sw.strands.filter fun e => e.1 / 4096 == 8 * p + svc

/-- Occupancy of a service node in cells (R167). -/
def State.nodeOcc (s : State) (p svc : Nat) : Nat := ((s.nodeStrands p svc).map fun e => e.2.cells.length).sum

/-- Its cells in the reserve region. -/
def State.nodeRsv (s : State) (p svc : Nat) : Nat := ((s.nodeStrands p svc).map fun e => (e.2.cells.filter (·.reserve)).length).sum

/-- The strands of leaf queue 8 * sub + svc. -/
def State.leafStrands (s : State) (q : Nat) : List (Nat × Strand) :=
  s.fab.sw.strands.filter fun e => e.1 % 4096 == q / 8 && e.1 / 4096 % 8 == q % 8

/-- Depth of a leaf queue: the cells of its strands, and of the multicast messages that target it (R167, R176). -/
def State.depth (s : State) (q : Nat) : Nat :=
  ((s.leafStrands q).map fun e => e.2.cells.length).sum + ((s.fab.sw.mcasts.filter fun e => e.2.queues.contains q).map fun e => e.2.cells.length).sum

/-- Cells held in the shared region. -/
def State.sharedUsed (s : State) : Nat :=
  (s.fab.sw.strands.map fun e => (e.2.cells.filter fun c => !c.reserve).length).sum + (s.fab.sw.mcasts.map fun e => e.2.cells.length).sum

/-- Cells held in the reserve region. -/
def State.reserveUsed (s : State) : Nat := (s.fab.sw.strands.map fun e => (e.2.cells.filter (·.reserve)).length).sum

/-- The sum of BUF_SVC_MIN over the services. -/
def State.minSum (s : State) : Nat := (tabulate 8 fun i => s.get (Fld.BUF_SVC_MIN_MIN i)).sum

/-- Free cells of the shared region, F (R168, R171). -/
def State.sharedFree (s : State) : Nat := 196608 - 64 * s.minSum - s.sharedUsed

/-- Free cells of both regions. -/
def State.cellsFree (s : State) : Nat := 196608 - s.sharedUsed - s.reserveUsed

/-- Free strand heads (R166). -/
def State.headsFree (s : State) : Nat := 65536 - s.fab.sw.strands.length

/-- The α code of a leaf queue (R168). -/
def State.alpha (s : State) (q : Nat) : Nat := bitsOf (s.word (Addr.BUF_ALPHA (q / 8))).toNat (4 * (q % 8)) 4

/-- Rule 3 of R168 for queue q and c cells. -/
def State.sharedAllows (s : State) (q c : Nat) : Bool :=
  decide (s.depth q * 64 < 2 ^ s.alpha q * s.sharedFree) && decide (c ≤ s.sharedFree)

/-- Does R168 admit a message of g granules to the strand of (p, svc, sub), and in which region do its new cells open? -/
def State.admits (s : State) (p svc sub g : Nat) : Option Bool :=
  let st := s.strand p svc sub
  let c := st.opens g
  if st.msgs.isEmpty && s.headsFree == 0 then none
  else if c = 0 then some false
  else if s.nodeRsv p svc + c ≤ s.get (Fld.BUF_SVC_MIN_MIN svc) then some true
  else if s.sharedAllows (8 * sub + svc) c then some false
  else none

/-! ### Marking (R184, R185) -/

/-- Update the average occupancy of a node on an admission, exactly (R184). (log 87, DEDUCED) -/
def State.average (s : State) (p svc : Nat) : State :=
  let n := mget SvcNode.empty s.fab.sw.nodes (8 * p + svc)
  let w := s.get Fld.BUF_RED_CFG_W
  let n := { n with avgNum := n.avgNum * (2 ^ w - 1) + s.nodeOcc p svc * 2 ^ n.avgExp, avgExp := n.avgExp + w }
  s.modSw fun x => { x with nodes := mput SvcNode.empty x.nodes (8 * p + svc) n }

/-- The integer part of the average. -/
def State.avg (s : State) (p svc : Nat) : Nat :=
  let n := mget SvcNode.empty s.fab.sw.nodes (8 * p + svc)
  n.avgNum / 2 ^ n.avgExp

/-- The marking profile of a request: by the set of its port, its service and its colour (R184, R189). -/
def State.profile (s : State) (p svc colour : Nat) : Nat :=
  6 * bitsOf (s.word (Addr.BUF_RED_SEL (p / 16))).toNat (2 * (p % 16)) 2 + 3 * (svc - 2) + colour

/-- The mark a request takes on admission (R185): 0 none, 2 Moderate, 3 Severe. The random value is open. (log 88, DESIGN CHOICE) -/
def State.mark (s : State) (m : Msg) : Nat :=
  let i := s.profile m.dst m.svc m.colour
  let a := s.avg m.dst m.svc / 16
  let lo := s.get (Fld.BUF_RED_MIN_TH i)
  let hi := s.get (Fld.BUF_RED_MAX_TH i)
  if a < lo then 0
  else if hi ≤ a then 3
  else if s.free % 256 < s.get (Fld.BUF_RED_MAX_P i) * (a - lo) / (hi - lo) then 2
  else 0

/-- Mark a request of S2 or S3 that has just been admitted: average, mark, slot and counters. -/
def State.markAdmitted (s : State) (m : Msg) : State × Msg :=
  if m.svc == 2 || m.svc == 3 then
    let s := s.average m.dst m.svc
    let k := s.mark m
    let s := s.used
    if k = 0 then (s, m)
    else
      let m := { m with devLoad := max m.devLoad k }
      ((s.markSlot m m.devLoad).count (Ctr.SVC m.dst m.svc k), m)
  else (s, m)

/-! ### Active lists (R196, R197) -/

/-- A key joins the tail of an active list with a deficit of 0 unless it is there. -/
def joinActive (l : List Active) (k : Nat) : List Active := if l.any (fun a => a.key == k) then l else l ++ [⟨k, 0, false⟩]

/-- A strand that became non-empty joins its service node, and the node its port. -/
def State.activate (s : State) (p svc sub : Nat) : State :=
  s.modSw fun w =>
    let n := mget SvcNode.empty w.nodes (8 * p + svc)
    { w with nodes := mput SvcNode.empty w.nodes (8 * p + svc) { n with active := joinActive n.active sub },
             ports := if svc == 4 || svc == 5 then w.ports else mput [] w.ports p (joinActive (mget [] w.ports p) svc) }

/-- Strands and nodes that have drained empty, or that a flush has removed, leave their active lists, and their deficits with them (R196, R208). -/
def State.deactivate (s : State) : State :=
  s.modSw fun w =>
    let nodes := w.nodes.map fun e =>
      (e.1, { e.2 with active := e.2.active.filter fun a => (assoc w.strands (e.1 * 4096 + a.key)).isSome })
    let busy := fun (p svc : Nat) => w.strands.any fun e => e.1 / 4096 == 8 * p + svc
    { w with nodes := nodes.filter fun e => decide (e.2 ≠ SvcNode.empty),
             ports := (w.ports.map fun e => (e.1, e.2.filter fun a => busy e.1 a.key)).filter fun e => !e.2.isEmpty }

/-- Replace a strand; an empty one returns its head to the pool. -/
def State.setStrand (s : State) (k : Nat) (st : Strand) : State :=
  s.modSw fun w => { w with strands := if st.msgs.isEmpty then assocDel w.strands k else assocPut w.strands k st }

/-- Keep BUF_LOW_WATER at the least F seen (R189). -/
def State.lowWater (s : State) : State :=
  if s.sharedFree < s.get Fld.BUF_LOW_WATER_CELLS then s.put Fld.BUF_LOW_WATER_CELLS s.sharedFree else s

/-! ### Admission (R168 to R170, R175, R176) -/

/-- A message takes its granules in its strand, with the cells it opens; STRAND_EMPTY is raised as the last strand head is drawn (R166, R192). -/
def State.enqueue (s : State) (m : Msg) (mc : Option Nat) (g : Nat) (region : Bool) : State :=
  let st := s.strand m.dst m.svc m.sub
  let r := s.takeCells (st.opens g)
  let s := (r.1.setStrand (strandKey m.dst m.svc m.sub) (st.push m mc g region r.2)).activate m.dst m.svc m.sub
  (s.raiseIf (st.msgs.isEmpty && s.headsFree == 0) Evt.BUF_STRAND_EMPTY).count (Ctr.SVC m.dst m.svc 0)

/-- The message last put into a strand takes the mark of its admission. -/
def State.remark (s : State) (m : Msg) : State :=
  let st := s.strand m.dst m.svc m.sub
  match st.msgs.getLast? with
  | some e => s.setStrand (strandKey m.dst m.svc m.sub) { st with msgs := st.msgs.dropLast ++ [{ e with msg := m }] }
  | none => s

/-- Put an admitted unicast message into its strand. -/
def State.store (s : State) (m : Msg) (region : Bool) : State :=
  let m := { m with len := s.lengthAt m m.dst }
  let r := (s.enqueue m none m.granules region).lowWater.markAdmitted m
  if r.2 = m then r.1 else r.1.remark r.2

/-- Ports that a multicast group names while it is usable (R190). -/
def State.mcGroup (s : State) (g : Nat) : List Nat :=
  if s.flag (Fld.MC_GROUP_CFG_EN g) then (List.range 64).filter fun p => bitsOf (s.get64 (Addr.MC_GROUP_LO g)) p 1 == 1 else []

/-- The copies of a multicast message for its targets that are up when it is admitted (R175, R190): a broadcast for downstream vPPBs, a fan-out for the USPs of its group. (log 95, DEDUCED) -/
def State.liveTargets (s : State) (m : Msg) : List Msg :=
  let up := fun (p : Nat) => s.present p && s.linkUp p && !s.flag (Fld.PORT_CTL_HOLD p)
  if m.kind == .fanout then
    ((s.mcGroup (m.group.getD 0)).filter fun p => up p && s.roleIs p 0).map fun p => { m with dst := p, targets := [] }
  else
    (m.targets.filter fun n => s.get (Fld.VPPB_STATE_STATE n) == 1 && up (s.get (Fld.VPPB_TARGET_PORT n))).map fun n =>
      { m with dst := s.get (Fld.VPPB_TARGET_PORT n), ld := if s.flag (Fld.VPPB_TARGET_LD_VALID n) then s.get (Fld.VPPB_TARGET_LD_ID n) else 0,
               vppb := some n, gen := s.get (Fld.VPPB_STATE_GEN n), targets := [] }

/-- Admit a multicast message for all its targets at once, or tell that it waits (R176). One left with no target is discarded and counted, and NO_TARGET raised (R175). -/
def State.admitMcast (s : State) (m : Msg) : Option State :=
  let ts := s.liveTargets m
  if ts.isEmpty then some ((s.count (Ctr.CORE 8 1)).raise Evt.MCAST_NO_TARGET)
  else
    let n := ceilDiv m.granules 16
    let ports := (ts.map (·.dst)).eraseDups
    let ptr := (ports.map fun p => (s.strand p m.svc m.sub).opens (ts.filter fun x => x.dst == p).length).sum
    let heads := (ports.filter fun p => (s.strand p m.svc m.sub).msgs.isEmpty).length
    if heads ≤ s.headsFree && s.sharedAllows (8 * m.sub + m.svc) (n + ptr) then
      let k := s.fab.sw.mcNext
      let r := s.takeCells n
      let s := r.1.modSw fun w =>
        { w with mcasts := assocPut w.mcasts k { cells := r.2, refs := ts.length, queues := [8 * m.sub + m.svc] }, mcNext := k + 1 }
      let s := ts.foldl (fun s x => s.enqueue { x with len := s.lengthAt x x.dst } (some k) 1 false) s
      some (((s.count (Ctr.CORE 8 0)).count (Ctr.CORE 8 2) ts.length).lowWater)
    else none

/-! ### Internal endpoints (R174, R178) -/

/-- The output of a destination, and the input of a source: a port group, or an endpoint as 16 + k. -/
def outputOf (dst : Nat) : Nat := if dst < 64 then dst / 4 else 16 + (dst - 64)

/-- The rank of a service in an arbiter's order: S5, S4, the rest (R178, R198). -/
def rankOf (svc : Nat) : Nat := if svc = 5 then 0 else if svc = 4 then 1 else 2

/-- Each service has its own room at the input of an internal endpoint (R174). -/
def State.endpointRoom (s : State) (k svc : Nat) : Bool :=
  let n := ((mget [] s.fab.sw.iep k).filter fun m => m.svc == svc).length
  n == 0 || decide (n < Config.endpointQueue)

/-- Messages of the inputs of an endpoint's output in the order its arbiter takes them: S5, then S4, then every other service together, round robin among inputs within each
class; with the input that comes first next (R178). -/
def arbiterOrder : Nat → Nat → List Msg → List Msg × Nat
  | 0, rr, l => (l, rr)
  | f + 1, rr, l =>
    let best := (l.map fun m => rankOf m.svc).foldl min 2
    let far := fun (m : Msg) => (outputOf m.src + 20 - rr) % 20
    let c := l.filter fun m => rankOf m.svc == best
    let near := (c.map far).foldl min 20
    match c.find? fun m => far m == near with
    | none => ([], rr)
    | some m =>
      let r := arbiterOrder f ((outputOf m.src + 1) % 20) (l.erase m)
      (m :: r.1, r.2)

/-- The messages that have entered the input of endpoint k beyond the first n take the order of its arbiter. -/
def State.arbitrateEndpoint (s : State) (k n : Nat) : State :=
  let l := mget [] s.fab.sw.iep k
  let r := arbiterOrder (l.length - n) (mget 0 s.fab.sw.inputs k) (l.drop n)
  s.modSw fun w => { w with iep := mput [] w.iep k (l.take n ++ r.1), inputs := mput 0 w.inputs k r.2 }

/-- One admission decision (R168): none where the message waits. A message to an internal endpoint enters that endpoint's input. -/
def State.admitMsg (s : State) (m : Msg) : Option State :=
  if m.kind == .bcast || m.kind == .fanout then s.admitMcast m
  else if m.dst == 64 && (m.svc == 2 || m.svc == 3) && !m.writeBack && s.fab.sw.withheld.contains m.src then none
  else if 64 ≤ m.dst && !s.endpointRoom (m.dst - 64) m.svc then none
  else if 64 ≤ m.dst then some (s.modSw fun w => { w with iep := mput [] w.iep (m.dst - 64) (mget [] w.iep (m.dst - 64) ++ [m]) })
  else
    match s.track m with
    | none => none
    | some (s, m) =>
      match s.admits m.dst m.svc m.sub m.granules with
      | some region => some (s.store m region)
      | none => none

/-! ### Removal and answers (R153, R186) -/

/-- Lower the reference counts of the multicast messages that removed pointers named; a message whose count reaches 0 releases its cells (R176). -/
def State.unref (s : State) (ks : List Nat) : State :=
  ks.foldl (fun s k =>
    match assoc s.fab.sw.mcasts k with
    | some c =>
      if c.refs ≤ 1 then (s.modSw fun w => { w with mcasts := assocDel w.mcasts k }).freeCells c.cells
      else s.modSw fun w => { w with mcasts := assocPut w.mcasts k { c with refs := c.refs - 1 } }
    | none => s) s

/-- Remove from every strand the messages that `f` picks by port and message; the others remain in their order. -/
def State.unlink (s : State) (f : Nat → Msg → Bool) : State :=
  let hit := fun (k : Nat) (e : SEntry) => f (k / 4096 / 8) e.msg
  let ks := (s.fab.sw.strands.map fun x => (x.2.msgs.filter (hit x.1)).filterMap (·.mc)).flatten
  let left := s.fab.sw.strands.map fun x => (x.1, { x.2 with msgs := x.2.msgs.filter fun e => !hit x.1 e })
  let s := s.modSw fun w =>
    { w with strands := (left.map fun x => (x.1, x.2.release)).filter fun x => !x.2.msgs.isEmpty, waiting := w.waiting.filter fun m => !f m.dst m }
  ((s.freeCells (left.flatMap fun x => x.2.freed)).unref ks).deactivate

/-- The messages that `f` picks of all that wait or are queued, in their order. -/
def State.caught (s : State) (f : Nat → Msg → Bool) : List Msg :=
  (s.fab.sw.strands.map fun x => (x.2.msgs.filter fun e => f (x.1 / 4096 / 8) e.msg).map (·.msg)).flatten ++ s.fab.sw.waiting.filter fun m => f m.dst m

/-- An answer to a request, of the kind given. -/
def Msg.answer (m : Msg) (k : MsgKind) (status : Nat := 0) (poison : Bool := false) : Msg :=
  { kind := k, svc := k.service, sub := m.sub, src := m.dst, dst := m.src, vppb := m.vppb, gen := m.gen, tag := m.tag, addr := m.addr, mv := m.mv, ld := m.ld,
    colour := m.colour, devLoad := m.devLoad, status := status, poison := poison, cacheId := m.cacheId, biId := m.biId, spid := m.dpid, dpid := m.spid, vcs := m.vcs,
    mover := m.mover, flush := m.flush }

/-- A completion with data: its length is that of its header and payload (R193). -/
def Msg.completion (m : Msg) (k : MsgKind) (data : List Byte) (poison : Bool := false) : Msg :=
  { m.answer k 0 poison with data := data, bytes := 16 + data.length }

/-- The answers of the flush outcomes table to a request (R153); BIConflict is answered as R234 states. The data mover sees that they are synthesized (R291). -/
def Msg.flushed (m : Msg) : List Msg :=
  let l := match m.kind with
    | .memRd | .memRdData | .memSpecRd =>
      { m.answer .memData 0 true with data := List.replicate 64 0 } ::
        (match readNdr m.mem m.mv with
          | some k => if m.kind == .memSpecRd then [] else [m.answer k]
          | none => [])
    | .memWr | .memWrPtl | .memInv | .memInvNT | .memClnEvct => [m.answer .cmp]
    | .biConflict => [m.answer .biConflictAck]
    | .ioNp => [m.answer .cpl 1]
    | .cfgReq => [m.answer .cfgCpl 1]
    | .biSnpInv | .biSnpData | .biSnpCur => [m.answer .biRspI]
    | .h2dReq => [m.answer .d2hRsp]
    | _ => []
  if m.src = 66 then l.map fun a => { a with status := 1 } else l

/-- Add to a counter of a vPPB (R164), where the message has one. (log 82, DEDUCED) -/
def State.countVppb (s : State) (v : Option Nat) (e : Nat) : State :=
  match v with
  | some n => s.count (Ctr.VPPB n e)
  | none => s

/-- Answer a request as the flush outcomes table states, counting under its vPPB: one answer for each request answered in counter 2, posted requests dropped in counter 3 (R153, R164). -/
def State.answerFlushed (s : State) (m : Msg) : State :=
  let s := if m.kind == .ioPosted || m.kind == .d2hReq then s.countVppb m.vppb 3 else s
  m.flushed.foldl State.queueMsg (if m.flushed.isEmpty then s else s.countVppb m.vppb 2)

end Sys2Proof.Machine
end

