-- ==== Sys2Proof/Machine/Chan.lean ====
section
/-! DEFINITION. Sys2Proof/Machine/Chan.lean: the data mover's channels as other units stop them (R287, R293, R294), and the held low words of register pairs (R7). -/
namespace Sys2Proof.Machine
open Sys2Proof

/-! ### Register pairs (R6, R7) -/

/-- A master holds the low word of a pair, in place of any it held (R7). -/
def State.holdLow (s : State) (m : Master) (a : Nat) (w : Word) : State := { s with held := s.held.filter (fun l => l.master != m) ++ [⟨m, a, w⟩] }

/-- The low word a master holds for the pair at `a`. -/
def State.heldLow (s : State) (m : Master) (a : Nat) : Option Word := (s.held.find? fun l => l.master == m && l.addr == a).map (·.word)

/-- A high-word write consumes the held low word of the same pair. -/
def State.dropLow (s : State) (m : Master) (a : Nat) : State := { s with held := s.held.filter fun l => !(l.master == m && l.addr == a) }

/-! ### Channels -/

/-- Change the data mover. -/
def State.modMover (s : State) (f : Mover → Mover) : State := { s with fab := { s.fab with mover := f s.fab.mover } }

def State.chState (s : State) (c : Nat) : Nat := s.get (Fld.CH_STATUS_STATE c)

/-- Channels of a VF's entry (R302). -/
def State.vfChannels (s : State) (v : Nat) : List Nat := tabulate (s.get (Fld.VF_RES_COUNT v)) fun j => s.get (Fld.VF_RES_FIRST v) + j

/-- VFs of a kind that are enabled (R287): 1 mover, 2 pool. -/
def State.vfOn (s : State) (v kind : Nat) : Bool := s.flag (Fld.VF_CFG_EN v) && s.get (Fld.VF_CFG_KIND v) == kind

/-- The enabled mover VF a channel belongs to. -/
def State.chanVf (s : State) (c : Nat) : Option Nat := (List.range 256).find? fun v => s.vfOn v 1 && (s.vfChannels v).contains c

/-- A channel stops issuing (R294): its descriptors are dropped, the slots of its requests become STALE; it is on its way to DISABLED. -/
def State.stopChannel (s : State) (c : Nat) : State :=
  if s.chState c = 0 then s
  else
    let s := s.modMover fun x =>
      { x with runs := mput [] x.runs c [], stopping := if x.stopping.contains c then x.stopping else x.stopping ++ [c],
               slots := x.slots.map fun e => match e.2.msg.mover with | some (k, _, _) => if k = c then (e.1, { e.2 with stale := true }) else e | none => e }
    s.puts [(Fld.CH_STATUS_INFLIGHT c, 0), (Fld.CH_CTL_ENABLE c, 0)]

/-- A VF FLR completes once every channel of the VF is DISABLED (R294). -/
def State.endFlr (s : State) (v : Nat) : State :=
  if s.fab.mover.flr.contains v && (s.vfChannels v).all (fun c => s.chState c == 0) then
    (s.modMover fun x => { x with flr := x.flr.filter fun u => u != v }).raise Evt.MOVER_VF_RESET_DONE
  else s

/-- Every channel of a mover VF is disabled. -/
def State.stopVf (s : State) (v : Nat) : State := if s.get (Fld.VF_CFG_KIND v) = 1 then (s.vfChannels v).foldl State.stopChannel s else s

/-- VFs of a VCS. -/
def State.vfsOf (s : State) (v : Nat) : List Nat := (List.range 256).filter fun u => s.flag (Fld.VF_CFG_EN u) && s.get (Fld.VF_CFG_VCS u) == v

/-- The USP link of a VCS goes down: its channels are disabled (R293). -/
def State.stopVcsChannels (s : State) (v : Nat) : State := (s.vfsOf v).foldl State.stopVf s

/-- A VCS is disabled: its VFs lose their EN (R287), and their PASID enables go with them. -/
def State.dropVfs (s : State) (v : Nat) : State :=
  let l := s.vfsOf v
  let s := l.foldl (fun s u => (s.stopVf u).put (Fld.VF_CFG_EN u) 0) s
  s.modMover fun x => { x with vfEnable := x.vfEnable.filter fun k => k != v, pasidOn := x.pasidOn.filter fun u => !l.contains u }

end Sys2Proof.Machine
end

