-- ==== Sys2Proof/Machine/Power.lean ====
section
/-! DEFINITION. Sys2Proof/Machine/Power.lean: the hot-swap and eFuse controller, the power monitor and the AUX domain (R33 to R57). -/
namespace Sys2Proof.Machine
open Sys2Proof

/-! ### The parameter block (R33, R449) -/

/-- One step of CRC-32C on the reflected remainder: polynomial 0x82F63B78. -/
def crcBit (c : Nat) : Nat := if c % 2 = 1 then c / 2 ^^^ 0x82F63B78 else c / 2

/-- CRC-32C remainder over one more byte. -/
def crcByte (c b : Nat) : Nat := (List.range 8).foldl (fun c _ => crcBit c) (c ^^^ b % 256)

/-- CRC-32C with initial value 0xFFFFFFFF and final inversion. -/
def crc32c (bytes : List Nat) : Nat := bytes.foldl crcByte 0xFFFFFFFF ^^^ 0xFFFFFFFF

/-- The four bytes of a 32-bit word, little-endian. -/
def wordBytes (w : Nat) : List Nat := [w % 256, w / 2 ^ 8 % 256, w / 2 ^ 16 % 256, w / 2 ^ 24 % 256]

/-- A copy of the parameter block is valid when its MAGIC and its CRC match (R449). -/
def ParamCopy.valid (p : ParamCopy) : Bool :=
  !p.bad && p.words.length == 16 && nth p.words 0 == 0x3150564E && crc32c ((p.words.take 15).flatMap wordBytes) == nth p.words 15

/-- The copy to load: the valid one with the higher GEN (R449). -/
def Nv.paramSelect (n : Nv) : Option (Nat × List Nat) :=
  match n.param0.valid, n.param1.valid with
  | true, true => if nth n.param0.words 14 < nth n.param1.words 14 then some (1, n.param1.words) else some (0, n.param0.words)
  | true, false => some (0, n.param0.words)
  | false, true => some (1, n.param1.words)
  | false, false => none

/-- A value in its range, or its default (R52). -/
def inRangeOr (lo hi d v : Nat) : Nat := if lo ≤ v && v ≤ hi then v else d

/-- Load the block into the PWR page, or the defaults, and with it the settle delays in force until the next power-up (R33, R51 to R53, R61). -/
def State.loadParams (s : State) : State :=
  let sel := s.nv.paramSelect
  let w := (sel.map (·.2)).getD defaultParams
  let w1 := nth w 1
  let w2 := nth w 2
  let s := s.puts [
    (Fld.PWR_HS_BOOTCFG_SEAT_DEBOUNCE, inRangeOr 1 100 10 (bitsOf w1 0 7)), (Fld.PWR_HS_BOOTCFG_RETRY_TIME, inRangeOr 10 200 100 (bitsOf w1 8 8)),
    (Fld.PWR_HS_BOOTCFG_DVDT, inRangeOr 0 3 2 (bitsOf w1 16 3)), (Fld.PWR_HS_BOOTCFG_NV_PARAM_OK, bit sel.isSome),
    (Fld.PWR_HS_CFG_ILIM, bitsOf w2 0 8), (Fld.PWR_HS_CFG_FAULT_TIME, bitsOf w2 8 8), (Fld.PWR_FEED_CFG_PREF, bitsOf w2 16 1),
    (Fld.PWR_FEED_CFG_REVERT_EN, bitsOf w2 17 1), (Fld.PWR_FEED_CFG_REVERT_DELAY, bitsOf w2 24 8),
    (Fld.PWR_FEED_THR_UV_RISE, bitsOf (nth w 3) 0 16), (Fld.PWR_FEED_THR_UV_FALL, bitsOf (nth w 3) 16 16), (Fld.PWR_FEED_OV_OV, bitsOf (nth w 4) 0 16)]
  let s := { s with hs := { s.hs with tcxoSettle := bitsOf (nth w 5) 0 8, refSettle := bitsOf (nth w 5) 8 8 } }
  s.raiseIf sel.isNone Evt.PWR_NV_DEFAULTS

/-! ### Measurement (R47, R48) -/

/-- The energy counts go to the NV store (R48). -/
def State.persistEnergy (s : State) : State :=
  { s with nv := { s.nv with energyA := s.get64 Addr.PWR_ENERGY_A_LO, energyB := s.get64 Addr.PWR_ENERGY_B_LO } }.nvWrote 3

/-- Each tick adds voltage by current to the energy counts (R47): mV by mA by 1 µs is a picojoule, and 10^6 of them a µJ. (log 36, DEDUCED) -/
def State.measure (s : State) (x : HsSample) : State :=
  let h := s.hs
  let eA := h.residA + x.vA * x.iA
  let eB := h.residB + x.vB * x.iB
  let s := s.put64 Addr.PWR_ENERGY_A_LO (s.get64 Addr.PWR_ENERGY_A_LO + eA / 1000000)
  let s := s.put64 Addr.PWR_ENERGY_B_LO (s.get64 Addr.PWR_ENERGY_B_LO + eB / 1000000)
  { s with hs := { h with samples := h.samples + 1, sumVA := h.sumVA + x.vA, sumVB := h.sumVB + x.vB, sumIA := h.sumIA + x.iA, sumIB := h.sumIB + x.iB,
                          sumPA := h.sumPA + x.vA * x.iA, sumPB := h.sumPB + x.vB * x.iB, residA := eA % 1000000, residB := eB % 1000000 } }

/-! ### Conditions of the state table (R34 to R39) -/

/-- Feed f qualified. -/
def State.qualified (s : State) : Feed → Bool
  | .a => s.flag Fld.PWR_HS_STATUS_FEED_A_QUAL
  | .b => s.flag Fld.PWR_HS_STATUS_FEED_B_QUAL

def Feed.other : Feed → Feed
  | .a => .b
  | .b => .a

/-- The selected feed. -/
def State.selected (s : State) : Feed := if s.get Fld.PWR_HS_STATUS_FEED_SEL = 2 then .b else .a

/-- The preferred feed (R53). -/
def State.preferred (s : State) : Feed := if s.flag Fld.PWR_FEED_CFG_PREF then .b else .a

/-- FEED_SEL code of a feed. -/
def Feed.code : Feed → Nat
  | .a => 1
  | .b => 2

/-- What the transition of a tick tests (R39). -/
structure HsCond where
  seatLost : Bool
  unseated : Bool
  seated : Bool
  debounced : Bool
  retried : Bool
  severe : Bool
  expired : Bool
  overTemp : Bool
  rampLate : Bool
  powerGood : Bool
  busLow : Bool
  switchDue : Bool
  switchLate : Bool
  conducting : Bool
  running : Bool
  fetOff : Bool
deriving DecidableEq, Repr

/-- Power-good (R36). -/
def State.powerGood (s : State) : Bool :=
  decide (11400 ≤ s.hs.smp.bus) && decide (s.hs.smp.bus ≤ 12600) && s.hs.smp.polOk && s.get Fld.PWR_HS_STATUS_FT_COUNT == 0

/-- The fault timer has reached FAULT_TIME, in 100 µs steps (R35, R51). -/
def State.ftExpired (s : State) : Bool := decide (100 * s.get Fld.PWR_HS_CFG_FAULT_TIME ≤ s.get Fld.PWR_HS_STATUS_FT_COUNT)

/-- A switch that the feed-selection rules require (R44): forced at once, planned when none ended in the last 100 ms. -/
def State.switchDue (s : State) : Bool :=
  let sel := s.selected
  (!s.qualified sel && s.qualified sel.other) || (s.hs.planned && s.hs.holdoff == 0 && sel != s.preferred && s.qualified s.preferred)

/-- The conditions as the last samples and the timers give them. (logs 34, DEDUCED; 37, DEDUCED) -/
def State.hsCond (s : State) : HsCond :=
  let x := s.hs.smp
  { seatLost := (s.hs.unseatL && !x.seatL) || (s.hs.unseatR && !x.seatR), unseated := !x.seatL || !x.seatR, seated := x.seatL && x.seatR,
    debounced := decide (1000 * s.get Fld.PWR_HS_BOOTCFG_SEAT_DEBOUNCE ≤ s.hs.timer),
    retried := decide (10000 * s.get Fld.PWR_HS_BOOTCFG_RETRY_TIME ≤ s.hs.timer), severe := s.hs.severe, expired := s.ftExpired,
    overTemp := decide (214 < x.fetA) || decide (214 < x.fetB), rampLate := decide (50000 ≤ s.hs.timer), powerGood := s.powerGood,
    busLow := decide (x.bus < 11000), switchDue := s.switchDue, switchLate := decide (20 ≤ s.hs.timer), conducting := x.conducting && s.hs.targetClosed,
    running := x.running, fetOff := x.fetOff }

/-! ### Transitions (R39 to R45) -/

/-- Enter a state of the hot-swap controller; its timer starts again. -/
def State.hsGoto (s : State) (st : Nat) : State :=
  let s := s.put Fld.PWR_HS_STATUS_STATE st
  { s with hs := { s.hs with timer := 0 } }

/-- Pass FET and converter off; a severe overcurrent not yet taken is forgotten with the path it was on. (log 35, DEDUCED) -/
def State.pathOff (s : State) : State := { s with hs := { s.hs with fetOn := false, convOn := false, severe := false } }

/-- The power-fail warning (R40, R48): the module stops, and the keeper persists the energy counts. -/
def State.powerFailWarning (s : State) (kind cls origin cause : Nat) : State :=
  let m := s.message kind cls 0x003 0 8 Party.none (if kind = Kind.POWER_FAULT then some (64 * cause) else none)
  (((s.sendFault m).stopNow cls (if origin = 3 then .power else .removal) (some m))).persistEnergy

/-- Record the cause and the state left (R40, R55), in the NV store too. (log 39, DEDUCED) -/
def State.recordFault (s : State) (cause from_ : Nat) : State :=
  let s := s.puts [(Fld.PWR_LAST_FAULT_CAUSE, cause), (Fld.PWR_LAST_FAULT_STATE, from_), (Fld.PWR_LAST_FAULT_FEED, s.selected.code - 1)]
  { s with nv := { s.nv with lastFault := s.word Addr.PWR_LAST_FAULT } }.nvWrote 6

/-- Entry to FAULT (R40). (log 40, DEDUCED) -/
def State.hsFault (s : State) (cause : Nat) : State :=
  let from_ := s.get Fld.PWR_HS_STATUS_STATE
  let s := s.recordFault cause from_
  let s := s.addSat Fld.PWR_FAULT_COUNT_COUNT 1
  let s := { s with nv := { s.nv with faultCount := s.word Addr.PWR_FAULT_COUNT } }.nvWrote 4
  let s := { s with hs := { s.hs with severe := false, cooldown := s.hs.cooldown || cause == 1 || cause == 2 || cause == 3 || cause == 4 } }
  let s := if from_ = 5 || from_ = 6 then s.powerFailWarning Kind.POWER_FAULT 2 3 cause else s
  ((s.pathOff.put Fld.PWR_HS_STATUS_PG 0).hsGoto 7)

/-- Seating lost in ON or SWITCHING (R42): PWR_GOOD drops, the module stops without FAULT_N, a removal record is written. -/
def State.hsShutdown (s : State) : State :=
  let s := s.recordFault 6 (s.get Fld.PWR_HS_STATUS_STATE)
  ((s.put Fld.PWR_HS_STATUS_PG 0).powerFailWarning Kind.REMOVAL 3 4 6).hsGoto 8

/-- A switch is decided (R45): the selected path opens and the converter pauses. -/
def State.hsSwitch (s : State) : State :=
  let s := (s.hsGoto 6)
  { s with hs := { s.hs with target := s.selected.other, targetClosed := false, convOn := false, fetOn := false } }

/-- The controller enters ON (R37, R39): from RAMP PWR_GOOD is asserted and power-on reset released, and TCXO_SETTLE starts; a failure of stage 3 lasts until here (R75). -/
def State.enterOn (s : State) : State :=
  let s := (s.hsGoto 5).put Fld.PWR_HS_STATUS_PG 1
  { s with clk := { s.clk with porAsserted := false, stage3Failed := false } }

/-- A switch is complete (R39, R55). -/
def State.switchDone (s : State) : State :=
  let s := (s.hsGoto 5).put Fld.PWR_HS_STATUS_FEED_SEL s.hs.target.code
  let s := (s.addSat Fld.PWR_SWITCH_COUNT_COUNT 1).raise Evt.PWR_FEED_SWITCH
  { s with nv := { s.nv with switchCount := s.word Addr.PWR_SWITCH_COUNT },
           hs := { s.hs with fetOn := true, convOn := true, planned := false, revert := 0, holdoff := 100000 } }.nvWrote 5

/-- At most one transition: the first condition listed for the current state that holds (R34, R39). (log 237, DEDUCED) -/
def State.hsTransition (s : State) (c : HsCond) : State :=
  match s.get Fld.PWR_HS_STATUS_STATE with
  | 0 => if c.seated then s.hsGoto 1 else s
  | 1 => if c.unseated then s.hsGoto 0 else if c.debounced then (if s.hs.cooldown then s.hsGoto 2 else (s.hsGoto 3).put Fld.PWR_HS_STATUS_COOLDOWN_SEEN 0) else s
  | 2 =>
    if c.seatLost then s.hsGoto 0
    else if c.retried then
      let s := (s.hsGoto 3).put Fld.PWR_HS_STATUS_COOLDOWN_SEEN 1
      { s with hs := { s.hs with cooldown := false } }
    else s
  | 3 =>
    if c.seatLost then s.hsGoto 0
    else if s.qualified .a || s.qualified .b then
      let f := if s.qualified s.preferred then s.preferred else s.preferred.other
      let s := (s.hsGoto 4).put Fld.PWR_HS_STATUS_FEED_SEL f.code
      { s with hs := { s.hs with fetOn := true, convOn := true } }
    else s
  | 4 =>
    if c.seatLost then s.pathOff.hsGoto 0
    else if c.severe then s.hsFault 2
    else if c.expired then s.hsFault 1
    else if c.overTemp then s.hsFault 3
    else if c.rampLate && !c.powerGood then s.hsFault 4
    else if !s.qualified s.selected then s.pathOff.hsGoto 3
    else if c.powerGood then s.enterOn
    else s
  | 5 =>
    if c.seatLost then s.hsShutdown
    else if c.severe then s.hsFault 2
    else if c.expired then s.hsFault 1
    else if c.overTemp then s.hsFault 3
    else if c.busLow then s.hsFault 7
    else if !s.qualified .a && !s.qualified .b then s.hsFault 5
    else if c.switchDue then s.hsSwitch
    else s
  | 6 =>
    if c.seatLost then s.hsShutdown
    else if c.severe then s.hsFault 2
    else if !s.qualified s.hs.target then s.hsFault 5
    else if c.switchLate && !c.conducting then s.hsFault 8
    else if c.conducting && c.running then s.switchDone
    else s
  | 7 =>
    if c.seatLost then s.hsGoto 0
    else if c.retried then
      let s := (s.hsGoto 3).put Fld.PWR_HS_STATUS_COOLDOWN_SEEN 0
      { s with hs := { s.hs with cooldown := false } }
    else s
  | 8 => if c.fetOff then s.pathOff.hsGoto 0 else s
  | _ => s

/-! ### One tick (R34) -/

/-- Steps 1 and 2: sample, count the timers, update the fault timer (R34, R35). -/
def State.hsSample (s : State) (x : HsSample) : State :=
  let s := { s with hs := { s.hs with unseatL := !s.hs.smp.seatL, unseatR := !s.hs.smp.seatR, smp := x, timer := s.hs.timer + 1,
                                       holdoff := s.hs.holdoff - 1 } }
  let s := s.measure x
  let n := s.get Fld.PWR_HS_STATUS_FT_COUNT
  let n' := if x.limiting then n + 1 else n - 1
  let s := s.puts [(Fld.PWR_HS_STATUS_SEAT_L, bit x.seatL), (Fld.PWR_HS_STATUS_SEAT_R, bit x.seatR), (Fld.PWR_HS_STATUS_ILIM_ACT, bit x.limiting),
    (Fld.PWR_HS_STATUS_FT_COUNT, min n' 0xFFFF), (Fld.PWR_HS_STATUS_FT_RUN, bit (n' != 0)), (Fld.PWR_TEMP_FET_A, x.fetA), (Fld.PWR_TEMP_FET_B, x.fetB),
    (Fld.PWR_TEMP_JMAX, x.jmax)]
  s.raiseIf (n == 0 && n' != 0) Evt.PWR_ILIM

/-- Feed f becomes qualified (R43). -/
def State.qualify (s : State) (f : Feed) : State :=
  match f with
  | .a => if s.qualified .a then s else (s.put Fld.PWR_HS_STATUS_FEED_A_QUAL 1).raise Evt.PWR_FEED_A_QUAL
  | .b => if s.qualified .b then s else (s.put Fld.PWR_HS_STATUS_FEED_B_QUAL 1).raise Evt.PWR_FEED_B_QUAL

/-- Feed f is disqualified (R43): a new 10 ms qualification must follow. -/
def State.disqualify (s : State) (f : Feed) : State :=
  match f with
  | .a =>
    let s := { s with hs := { s.hs with goodA := 0 } }
    if s.qualified .a then (s.put Fld.PWR_HS_STATUS_FEED_A_QUAL 0).raise Evt.PWR_FEED_A_LOST else s
  | .b =>
    let s := { s with hs := { s.hs with goodB := 0 } }
    if s.qualified .b then (s.put Fld.PWR_HS_STATUS_FEED_B_QUAL 0).raise Evt.PWR_FEED_B_LOST else s

/-- A voltage between UV_RISE and OV. -/
def State.feedGood (s : State) (v : Nat) : Bool := decide (s.get Fld.PWR_FEED_THR_UV_RISE ≤ v) && decide (v ≤ s.get Fld.PWR_FEED_OV_OV)

/-- A voltage below UV_FALL or above OV. -/
def State.feedBad (s : State) (v : Nat) : Bool := decide (v < s.get Fld.PWR_FEED_THR_UV_FALL) || decide (s.get Fld.PWR_FEED_OV_OV < v)

/-- Step 4: feed qualification and the revert delay (R43, R44). (log 248, DESIGN CHOICE) -/
def State.hsFeeds (s : State) (x : HsSample) : State :=
  let gA := if s.feedGood x.vA then s.hs.goodA + 1 else 0
  let gB := if s.feedGood x.vB then s.hs.goodB + 1 else 0
  let bA := s.feedBad x.vA
  let bB := s.feedBad x.vB
  let lostA := s.hs.badA && bA
  let lostB := s.hs.badB && bB
  let s := { s with hs := { s.hs with goodA := gA, goodB := gB, badA := bA, badB := bB } }
  let s := if lostA then s.disqualify .a else if 10000 ≤ gA then s.qualify .a else s
  let s := if lostB then s.disqualify .b else if 10000 ≤ gB then s.qualify .b else s
  let away := s.get Fld.PWR_HS_STATUS_STATE == 5 && s.selected != s.preferred && s.qualified s.preferred
  let r := if away then s.hs.revert + 1 else 0
  let due := away && s.flag Fld.PWR_FEED_CFG_REVERT_EN && decide (100000 * s.get Fld.PWR_FEED_CFG_REVERT_DELAY ≤ r)
  { s with hs := { s.hs with revert := r, planned := (s.hs.planned && away) || due } }

/-- PREF has been written: where the selected feed is no longer the preferred one and that one is qualified, a planned switch follows at the next tick (R44). -/
def State.preferNow (s : State) (was : Feed) : State :=
  if s.selected == was && s.selected != s.preferred && s.qualified s.preferred then { s with hs := { s.hs with planned := true } } else s

/-- Step 3 of a tick in ON or SWITCHING: PWR_GOOD follows power-good (R36). -/
def State.hsPowerGood (s : State) : State :=
  let st := s.get Fld.PWR_HS_STATUS_STATE
  if st = 5 || st = 6 then s.put Fld.PWR_HS_STATUS_PG (bit s.powerGood) else s

/-- The target path closes, and the converter starts again as soon as the path conducts (R45); a severe overcurrent keeps the path open (R38). -/
def State.closeTarget (s : State) : State :=
  if s.hs.severe then s else { s with hs := { s.hs with targetClosed := true, fetOn := true, convOn := s.hs.convOn || s.hs.smp.conducting } }

/-- In SWITCHING the target path closes two ticks after the decision (R45). -/
def State.hsDeadTime (s : State) : State :=
  if s.get Fld.PWR_HS_STATUS_STATE = 6 && (2 ≤ s.hs.timer || s.hs.targetClosed) then s.closeTarget else s

/-- One tick (R34). -/
def State.hsTick (s : State) (x : HsSample) : State :=
  let pg := s.flag Fld.PWR_HS_STATUS_PG
  let s := ((s.hsSample x).hsPowerGood.hsFeeds x).hsDeadTime
  let s := s.hsTransition s.hsCond
  let st := s.get Fld.PWR_HS_STATUS_STATE
  s.raiseIf (pg && !s.flag Fld.PWR_HS_STATUS_PG && (st == 5 || st == 6)) Evt.PWR_PG_DROP

/-! ### Commands -/

/-- Run a controller step only while the auxiliary rail is up. -/
def State.whenAux (s : State) (f : State → State) : State := if s.hs.auxUp then f s else s

/-- Run a controller step only in one of the listed states. -/
def State.inHs (s : State) (states : List Nat) (f : State → State) : State :=
  if s.hs.auxUp && states.contains (s.get Fld.PWR_HS_STATUS_STATE) then f s else s

/-- What the controller shows as it starts, and holds low while it is unpowered: UNSEATED, no feed qualified, PWR_GOOD low (R29, R33). -/
def controllerOff : List (Field × Nat) :=
  [(Fld.PWR_HS_STATUS_STATE, 0), (Fld.PWR_HS_STATUS_SEAT_L, 0), (Fld.PWR_HS_STATUS_SEAT_R, 0), (Fld.PWR_HS_STATUS_PG, 0), (Fld.PWR_HS_STATUS_FEED_A_QUAL, 0)]

/-- AUX_RAIL_UP (R33, R37): the AUX domain leaves reset, the parameter block or the defaults are loaded, the controller starts in UNSEATED with power-on reset
asserted, and the NV-held counts are restored. -/
def execAuxRailUp (s : State) : Host.Outcome State Fault Refusal :=
  let s := s.begin
  if s.hs.auxUp then done s
  else
    let s := s.powerOnReset
    let s := { s with regs := [], hs := { Hs.reset with smp := { HsSample.nominal with seatL := false, seatR := false }, goodA := 0, fetOn := false, convOn := false,
                                                         cooldown := s.hs.cooldown, recMissing := s.hs.recMissing } }
    let s := (s.puts controllerOff).loadParams
    let s := (s.put64 Addr.PWR_ENERGY_A_LO s.nv.energyA).put64 Addr.PWR_ENERGY_B_LO s.nv.energyB
    let s := ((s.setWord Addr.PWR_LAST_FAULT s.nv.lastFault).setWord Addr.PWR_FAULT_COUNT s.nv.faultCount).setWord Addr.PWR_SWITCH_COUNT s.nv.switchCount
    done { s with clk := { s.clk with stage3Failed := false } }

/-- AUX_RAIL_DOWN (R71, R29): the AUX domain is reset and with it everything; FAULT_N is released. The cool-down flag holds (R41). The flag of a missing
record is in the AUX domain and kept for the next power-up (R363). -/
def execAuxRailDown (s : State) : Host.Outcome State Fault Refusal :=
  let s := s.begin.powerOnReset
  let s := ({ s with regs := [] } : State).puts controllerOff
  done { s with hs := { Hs.reset with auxUp := false, smp := { HsSample.nominal with seatL := false, seatR := false }, goodA := 0,
                                                   fetOn := false, convOn := false, cooldown := s.hs.cooldown, recMissing := s.hs.recMissing },
                 clk := { s.clk with stage3Failed := false, refEdges := false, refPresent := false } }

/-- HS_TICK (R34). -/
def execHsTick (smp : HsSample) (s : State) : Host.Outcome State Fault Refusal := done (s.begin.whenAux fun s => s.hsTick smp)

/-- SEAT_LOST (R42, R39): a seating pin has read unseated in two consecutive ticks. -/
def execSeatLost (right : Bool) (s : State) : Host.Outcome State Fault Refusal :=
  done (s.begin.whenAux fun s =>
    let s := s.put (if right then Fld.PWR_HS_STATUS_SEAT_R else Fld.PWR_HS_STATUS_SEAT_L) 0
    let x := s.hs.smp
    let s := { s with hs := { s.hs with smp := { x with seatL := x.seatL && right, seatR := x.seatR && !right }, unseatL := s.hs.unseatL || !right,
                                         unseatR := s.hs.unseatR || right } }
    s.hsTransition { s.hsCond with seatLost := true, unseated := true, seated := false })

/-- SEAT_DEBOUNCE_EXPIRE (R39). -/
def execSeatDebounceExpire (s : State) : Host.Outcome State Fault Refusal :=
  done (s.begin.inHs [1] fun s => s.hsTransition { s.hsCond with debounced := true })

/-- RETRY_TIME_EXPIRE (R39). -/
def execRetryTimeExpire (s : State) : Host.Outcome State Fault Refusal :=
  done (s.begin.inHs [2, 7] fun s => s.hsTransition { s.hsCond with retried := true })

/-- FEED_QUALIFY (R43): the transition that READY makes of it follows in the same tick. -/
def execFeedQualify (f : Feed) (s : State) : Host.Outcome State Fault Refusal :=
  done (s.begin.whenAux fun s =>
    let s := s.qualify f
    s.hsTransition s.hsCond)

/-- FEED_DISQUALIFY (R43, R44). -/
def execFeedDisqualify (f : Feed) (s : State) : Host.Outcome State Fault Refusal :=
  done (s.begin.whenAux fun s =>
    let s := s.disqualify f
    s.hsTransition s.hsCond)

/-- RAMP_COMPLETE (R36, R39): bus and rails are in regulation in RAMP; power-good while the fault timer does not run. -/
def execRampComplete (s : State) : Host.Outcome State Fault Refusal :=
  done (s.begin.inHs [4] fun s => s.hsTransition { s.hsCond with powerGood := s.get Fld.PWR_HS_STATUS_FT_COUNT == 0 })

/-- RAMP_TIMEOUT (R39). -/
def execRampTimeout (s : State) : Host.Outcome State Fault Refusal :=
  done (s.begin.inHs [4] fun s => s.hsTransition { s.hsCond with rampLate := true, powerGood := false })

/-- FAULT_TIMER_EXPIRE (R35, R40). -/
def execFaultTimerExpire (s : State) : Host.Outcome State Fault Refusal :=
  done (s.begin.inHs [4, 5] fun s => s.hsTransition { s.hsCond with expired := true })

/-- SEVERE_OC_TRIP (R38): the comparator turns the pass FET off at once; the controller, where it drives a path (RAMP, ON, SWITCHING), enters FAULT at the next
tick. -/
def execSevereOcTrip (s : State) : Host.Outcome State Fault Refusal :=
  done (s.begin.whenAux fun s =>
    let st := s.get Fld.PWR_HS_STATUS_STATE
    { s with hs := { s.hs with severe := s.hs.severe || st == 4 || st == 5 || st == 6, fetOn := false } })

/-- REVERT_DELAY_EXPIRE (R44): a planned switch to the preferred feed is started, or held within 100 ms of the last. -/
def execRevertDelayExpire (s : State) : Host.Outcome State Fault Refusal :=
  done (s.begin.inHs [5] fun s =>
    if s.selected != s.preferred && s.qualified s.preferred && s.flag Fld.PWR_FEED_CFG_REVERT_EN then
      let s := { s with hs := { s.hs with planned := true } }
      s.hsTransition s.hsCond
    else s)

/-- SWITCH_HOLDOFF_EXPIRE (R44). -/
def execSwitchHoldoffExpire (s : State) : Host.Outcome State Fault Refusal :=
  done (s.begin.whenAux fun s =>
    let s := { s with hs := { s.hs with holdoff := 0 } }
    if s.get Fld.PWR_HS_STATUS_STATE = 5 && s.hs.planned then s.hsTransition s.hsCond else s)

/-- SWITCH_TARGET_CLOSE (R45): the dead time ends and the target path closes under DVDT. -/
def execSwitchTargetClose (s : State) : Host.Outcome State Fault Refusal :=
  done (s.begin.inHs [6] State.closeTarget)

/-- SWITCH_COMPLETE (R39, R45): the target path, once closed, conducts and the converter runs. -/
def execSwitchComplete (s : State) : Host.Outcome State Fault Refusal :=
  done (s.begin.inHs [6] fun s => s.hsTransition { s.hsCond with conducting := s.hs.targetClosed, running := s.hs.targetClosed })

/-- SWITCH_TIMEOUT (R39): the target path does not conduct 20 µs after entry to SWITCHING. -/
def execSwitchTimeout (s : State) : Host.Outcome State Fault Refusal :=
  done (s.begin.inHs [6] fun s => s.hsTransition { s.hsCond with conducting := false, switchLate := true })

/-- FET_OFF_COMPLETE (R39). -/
def execFetOffComplete (s : State) : Host.Outcome State Fault Refusal :=
  done (s.begin.inHs [8] fun s => s.hsTransition { s.hsCond with fetOff := true })

/-- MGMT_RAIL_OUT (R37): power-on reset is asserted until the controller next enters ON from RAMP. (log 38, DEDUCED) -/
def execMgmtRailOut (s : State) : Host.Outcome State Fault Refusal :=
  done (s.begin.whenAux State.powerOnReset)

/-- PWR_MEAS_UPDATE (R47): the registers take the means of the samples since the last update (1,000 in one ms). Voltage in mV, current in 2 mA, power in mW. -/
def execPwrMeasUpdate (s : State) : Host.Outcome State Fault Refusal :=
  done (s.begin.whenAux fun s =>
    let h := s.hs
    let n := h.samples
    if n = 0 then s
    else
      let s := s.puts [(Fld.PWR_MEAS_A_VOLT, min (h.sumVA / n) 0xFFFF), (Fld.PWR_MEAS_A_CURR, min (h.sumIA / n / 2) 0xFFFF),
        (Fld.PWR_MEAS_B_VOLT, min (h.sumVB / n) 0xFFFF), (Fld.PWR_MEAS_B_CURR, min (h.sumIB / n / 2) 0xFFFF),
        (Fld.PWR_POWER_A_POWER, h.sumPA / n / 1000), (Fld.PWR_POWER_B_POWER, h.sumPB / n / 1000)]
      { s with hs := { s.hs with samples := 0, sumVA := 0, sumVB := 0, sumIA := 0, sumIB := 0, sumPA := 0, sumPB := 0 } })

/-- ENERGY_PERSIST (R48). -/
def execEnergyPersist (s : State) : Host.Outcome State Fault Refusal := done (s.begin.whenAux State.persistEnergy)

/-- THERM_WARN (R24): the event, and no other action. -/
def execThermWarn (s : State) : Host.Outcome State Fault Refusal := done (s.begin.raise Evt.PWR_THERM_WARN)

/-- THERM_TRIP (R21, R366): fail-stop. -/
def execThermTrip (s : State) : Host.Outcome State Fault Refusal :=
  let s := s.begin
  done (s.fatal (s.message Kind.THERM_TRIP 2 0x003 0 8 Party.none none))

/-- COOLDOWN_FLAG_DECAY (R41): an unpowered carrier loses the cool-down flag. -/
def execCooldownFlagDecay (s : State) : Host.Outcome State Fault Refusal :=
  let s := s.begin
  done (if s.hs.auxUp then s else { s with hs := { s.hs with cooldown := false } })

end Sys2Proof.Machine
end

