-- ==== Sys2Proof/Machine/Clock.lean ====
section
/-! DEFINITION. Sys2Proof/Machine/Clock.lean: clock sources, PLLs, the time base, resets and the start-up stages (R59 to R85). -/
namespace Sys2Proof.Machine
open Sys2Proof

/-! ### Bits of CLK_STATUS.PLL_LOCK (R82) -/

def Pll.hub : Nat := 0x001
def Pll.tiles : Nat := 0x01E
def Pll.hbm : Nat := 0x020
def Pll.keeper : Nat := 0x040
def Pll.mgmt : Nat := 0x080
def Pll.time : Nat := 0x100

/-- Run a step only while the MGMT domain is out of reset. -/
def State.whenMgmt (s : State) (f : State → State) : State := if s.clk.mgmtUp then f s else s

/-- µs since PWR_GOOD: what BOOT_STAGE_T records (R84); forward sets and steps of the time base are left out of it. -/
def State.usSincePwrGood (s : State) : Nat := s.clk.t3 + (s.now - s.clk.mgmtUpAt) / 1000

/-- Stage n ends (R84, R85): its time is recorded and STAGE_DONE raised; the next stage is in progress. -/
def State.stageDone (s : State) (n : Nat) : State :=
  ((s.put (Fld.BOOT_STAGE_T_TIME (n - 3)) s.usSincePwrGood).put Fld.BOOT_STATUS_STAGE (n + 1)).raise Evt.BOOT_STAGE_DONE

/-- Run a step only in stage n of a start-up that has not failed and is not stopped. -/
def State.inStage (s : State) (n : Nat) (f : State → State) : State :=
  if s.clk.mgmtUp && s.get Fld.BOOT_STATUS_STAGE == n && !s.clk.startFail && !s.clk.stopHeld then f s else s

/-! ### REFCLK (R61, R62) -/

/-- The hub and tile PLLs return to REFCLK, hitlessly (R62). -/
def State.refBack (s : State) : State :=
  if s.clk.refSrcTcxo && s.clk.refPresent then
    let s := { s with clk := { s.clk with refSrcTcxo := false } }
    s.raise Evt.CLK_REF_SWITCH
  else s

/-- REFCLK_EDGES_SEEN (R61): REFCLK_SETTLE starts. -/
def execRefclkEdgesSeen (s : State) : Host.Outcome State Fault Refusal :=
  done (s.begin.whenAux fun s => { s with clk := { s.clk with refEdges := true } })

/-- REFCLK_SETTLE_EXPIRE (R61, R62): REFCLK is present; with AUTO_REVERT the PLLs return to it. -/
def execRefclkSettleExpire (s : State) : Host.Outcome State Fault Refusal :=
  done (s.begin.whenAux fun s =>
    if s.clk.refEdges && !s.clk.refPresent then
      let s := { s with clk := { s.clk with refPresent := true } }
      let s := s.raise Evt.CLK_REFCLK_BACK
      if s.clk.mgmtUp && s.flag Fld.CLK_REF_CFG_AUTO_REVERT then s.refBack else s
    else s)

/-- AUTO_REVERT_SET (R62): a write of CLK_REF_CFG that sets AUTO_REVERT while REFCLK is present switches the PLLs back at that write. -/
def State.writeRefCfg (s : State) (v : Nat) : State :=
  if s.flag Fld.CLK_LOCK_LOCK then s
  else
    let old := s.flag Fld.CLK_REF_CFG_AUTO_REVERT
    let s := s.puts [(Fld.CLK_REF_CFG_SSC, v), (Fld.CLK_REF_CFG_AUTO_REVERT, v / 2)]
    if !old && s.flag Fld.CLK_REF_CFG_AUTO_REVERT then s.refBack else s

/-- The PLLs whose bits are in `mask` lose lock: a fail-stop, without a record where the management or keeper clock is the one lost (R21, R366). -/
def State.pllLost (s : State) (mask unit : Nat) (kind : Nat) : State :=
  let s := { s with clk := { s.clk with pllLock := s.clk.pllLock &&& (0x1FF ^^^ mask),
                                         mgmtStopped := s.clk.mgmtStopped || mask &&& (Pll.mgmt ||| Pll.keeper) != 0 } }
  s.fatal (s.message kind 2 0x001 unit 8 Party.none none)

/-- PLL_UNLOCK (R21, R366): UNIT is the PLL's bit of CLK_STATUS. -/
def execPllUnlock (pll : Fin 9) (s : State) : Host.Outcome State Fault Refusal :=
  done (s.begin.whenMgmt fun s => s.pllLost (2 ^ pll.val) (8 + pll.val) Kind.PLL_UNLOCK)

/-- TCXO_LOSS (R62): the HBM, keeper and management PLLs lose lock, and with REFCLK absent the hub and tile PLLs too; the module fail-stops. -/
def execTcxoLoss (s : State) : Host.Outcome State Fault Refusal :=
  let s := s.begin
  let s := { s with clk := { s.clk with tcxoOk := false } }
  let lost := Pll.hbm ||| Pll.keeper ||| Pll.mgmt ||| (if s.clk.refSrcTcxo then Pll.hub ||| Pll.tiles else 0)
    ||| (if s.flag Fld.TIME_STATUS_SRC then 0 else Pll.time)
  done (s.pllLost lost 0 Kind.TCXO_LOST)

/-! ### Straps (R30) -/

/-- STRAP_CHANGE (R30): the pins change; after sampling the change is ignored but for the live fields and STRAP_CHG. -/
def execStrapChange (pins : Straps) (s : State) : Host.Outcome State Fault Refusal :=
  let s := s.begin
  let s := { s with clk := { s.clk with strapPins := pins } }
  done (s.raiseIf (s.clk.mgmtUp && pins != s.clk.straps) Evt.CLK_STRAP_CHG)

/-! ### The time base (R63 to R66) -/

/-- Is the module following its partner (R64)? TIME_STATUS.SRC says so. -/
def State.following (s : State) : Bool := s.flag Fld.TIME_STATUS_SRC

/-- The time base goes forward by n ns beside its count of cycles, and with it the moment MGMT left reset and those of the watchdogs' kicks (R65, R66, R84, R371). -/
def State.timeForward (s : State) (n : Nat) : State :=
  { s with clk := { s.clk with timeBase := (s.now + n) % 2 ^ 64, mgmtUpAt := s.clk.mgmtUpAt + n },
           keeper := { s.keeper with kicks := (List.range 4).foldl (fun m c => mput 0 m c ((mget 0 m c + n) % 2 ^ 64)) s.keeper.kicks } }

/-- A commit of TIME_SET_HI (R66). -/
def State.timeSet (s : State) (v : Nat) : State :=
  if !s.following && decide (s.now ≤ v) then s.timeForward (v - s.now) else s.raise Evt.TIME_SET_IGNORED

/-- Advance the time base by n cycles of 500 MHz; in at most one cycle per µs a slew adds 1 or 3 instead of 2 (R63, R65). (log 216, DESIGN CHOICE) -/
def State.cycle (s : State) : State :=
  if !s.clk.mgmtUp || s.clk.mgmtStopped then s
  else
    let slew := s.flag Fld.TIME_STATUS_SLEWING && decide (499 ≤ s.clk.sinceSlew)
    let ahead := decide (s.get Fld.TIME_STATUS_OFFSET < 0x8000)
    let step := if slew then (if ahead then 3 else 1) else 2
    { s with clk := { s.clk with timeBase := (s.now + step) % 2 ^ 64, sinceSlew := if slew then 0 else s.clk.sinceSlew + 1 } }

/-! ### Start-up, stage 3 (R61, R71, R74) -/

/-- TCXO_SETTLE_EXPIRE (R59, R61): the TCXO, powered anew since power-on reset was released, has had its delay, and the management PLL is released. -/
def execTcxoSettleExpire (s : State) : Host.Outcome State Fault Refusal :=
  let s := s.begin
  done (if s.hs.auxUp && !s.clk.porAsserted && !s.clk.mgmtUp && !s.clk.stage3Failed then { s with clk := { s.clk with pllReleased := true, tcxoOk := true } } else s)

/-- Quinmen slots that are programmed and not revoked; owner slots likewise (R397). -/
def Otp.qUsable (o : Otp) : Nat := o.qProgrammed &&& (15 ^^^ o.qRevoke)
def Otp.oUsable (o : Otp) : Nat := (o.owners.foldl (fun n e => n ||| 2 ^ e.1) 0) &&& (15 ^^^ o.oRevoke)

/-- The OTP as SEC_STATUS shows it (R414). -/
def State.showOtp (s : State) : State :=
  let o := s.nv.otp
  s.puts [(Fld.SEC_STATUS_LIFECYCLE, 1), (Fld.SEC_STATUS_OWNER_SET, bit (o.oUsable != 0)), (Fld.SEC_STATUS_FIXON_SIG_REQ, bit o.fixonSigReq),
    (Fld.SEC_STATUS_SVN, o.svn), (Fld.SEC_STATUS_Q_USABLE, o.qUsable), (Fld.SEC_STATUS_O_USABLE, o.oUsable)]

/-- NVS_PARAM and NVS_STATUS as loaded, the NV-held counts of the MGMT pages (R449, R450, R367). -/
def State.loadMgmt (s : State) : State :=
  let sel := s.nv.paramSelect
  let w := (sel.map (·.2)).getD defaultParams
  let s := (List.range 16).foldl (fun s k => s.setWord (Addr.NVS_PARAM k) (BitVec.ofNat 32 (nth w k))) s
  let s := s.puts [(Fld.NVS_STATUS_READY, 1), (Fld.NVS_STATUS_PARAM_OK, bit sel.isSome), (Fld.NVS_STATUS_PARAM_COPY, (sel.map (·.1)).getD 0),
    (Fld.CLK_SETTLE_TCXO_SETTLE, s.hs.tcxoSettle), (Fld.CLK_SETTLE_REFCLK_SETTLE, s.hs.refSettle),
    (Fld.FLT_STATUS_RECORDS, s.nv.records.length), (Fld.NVS_WEAR_UNITS, s.nv.wear), (Fld.MBX_CORE_STATUS_RUN, 1)]
  s.showOtp

/-- MGMT_PLL_LOCK (R63, R71, R74, R30): `us` after PWR_GOOD the management PLL locks and MGMT leaves reset: the time base starts at 0, the straps are sampled, the flag
of a missing record is examined (R363), the NV words are loaded, and stage 4 begins. (log 250, DESIGN CHOICE) -/
def execMgmtPllLock (us : Nat) (s : State) : Host.Outcome State Fault Refusal :=
  let s := s.begin
  done (if s.clk.pllReleased && !s.clk.mgmtUp && !s.clk.stage3Failed && s.clk.tcxoOk then
    let s := { s with clk := { s.clk with mgmtUp := true, pllLock := Pll.hbm ||| Pll.keeper ||| Pll.mgmt ||| Pll.time, timeBase := 0, t3 := us,
                                          straps := s.clk.strapPins, refSrcTcxo := !s.clk.refPresent } }
    let s := s.puts [(Fld.CLK_STRAPS_MOD_ID, s.clk.straps.modId.val), (Fld.CLK_STRAPS_TANDEM_ROLE, bit s.clk.straps.role)]
    let s := s.loadMgmt
    let s := if s.hs.recMissing then (s.put Fld.FLT_STATUS_REC_MISSING 1).raise Evt.FLT_REC_MISSING else s
    let s := { s with hs := { s.hs with recMissing := false } }
    s.stageDone 3
  else s)

/-- STAGE3_TIMEOUT (R75): FAULT_N is asserted, cause MGMT_PLL goes to the NV store, MGMT stays in reset until the next power-up. -/
def execStage3Timeout (s : State) : Host.Outcome State Fault Refusal :=
  let s := s.begin
  done (if s.hs.auxUp && !s.clk.porAsserted && !s.clk.mgmtUp then
    { s with clk := { s.clk with stage3Failed := true, pllReleased := false }, nv := { s.nv with stage3Fail := true } } else s)

/-! ### Fabric reset and its end (R72, R73, R82) -/

/-- PERST_ASSERT (R72): a low level of 1 µs asserts fabric reset. -/
def execPerstAssert (s : State) : Host.Outcome State Fault Refusal :=
  let s := s.begin.enterFabricReset
  done { s with clk := { s.clk with perstLow := true } }

/-- Leaving fabric reset (R84): the times of stages 5 to 10 return to 0, and that of stage 4 where it runs again. -/
def State.resumeStartup (s : State) : State :=
  if s.clk.mgmtUp && !s.clk.perstLow && !s.clk.resetPulse then
    let from_ := if s.get Fld.BOOT_STATUS_STAGE ≤ 4 then 4 else 5
    if from_ = 4 && s.boot.fwRunning then s
    else (List.range 8).foldl (fun s i => if from_ ≤ i + 3 then s.put (Fld.BOOT_STAGE_T_TIME i) 0 else s) s
  else s

/-- PERST_RELEASE (R72): start-up resumes. -/
def execPerstRelease (s : State) : Host.Outcome State Fault Refusal :=
  let s := s.begin
  done (if s.clk.perstLow then
    let s := { s with clk := { s.clk with perstLow := false } }
    s.resumeStartup
  else s)

/-- A write of CLK_RESET (R82): 0xA5 by a keeper core or by the board asserts fabric reset for 10 µs; anything else is ignored. -/
def State.writeClkReset (s : State) (m : Master) (v : Nat) : State :=
  let ok := match m with
    | .keeper _ | .board => true
    | _ => false
  if ok && v % 256 == 0xA5 then
    let s := s.enterFabricReset
    { s with clk := { s.clk with resetPulse := true } }
  else s

/-- FABRIC_RESET_END (R82): the 10 µs end; start-up resumes unless PERST_N is low. -/
def execFabricResetEnd (s : State) : Host.Outcome State Fault Refusal :=
  let s := s.begin
  done (if s.clk.resetPulse then
    let s := { s with clk := { s.clk with resetPulse := false } }
    s.resumeStartup
  else s)

/-- STAGE_TIMEOUT (R74, R75): a stage from 4 to 9 exceeds its maximum; that of stage 5 counts only once PERST_N is high. -/
def execStageTimeout (s : State) : Host.Outcome State Fault Refusal :=
  let s := s.begin
  let st := s.get Fld.BOOT_STATUS_STAGE
  done (if s.clk.mgmtUp && decide (4 ≤ st) && decide (st ≤ 9) && !(st == 5 && s.clk.perstLow) then s.failStart 7 else s)

/-- FABRIC_PLL_TIMEOUT (R75): a hub or tile PLL has not locked 1 ms after its release in stage 5. -/
def execFabricPllTimeout (s : State) : Host.Outcome State Fault Refusal :=
  done (s.begin.inStage 5 fun s => if s.clk.fabricHeld && !s.clk.perstLow && !s.clk.resetPulse then s.failStart 4 else s)

end Sys2Proof.Machine
end

