-- ==== Sys2Proof/Machine/Keeper.lean ====
section
/-! DEFINITION. Sys2Proof/Machine/Keeper.lean: the keeper's checks and timers and the interrupt controller (R371 to R382, R393). -/
namespace Sys2Proof.Machine
open Sys2Proof

/-! ### The keeper -/

/-- KEEPER_LOCKSTEP (R371, R366). -/
def execKeeperLockstep (c : Core) (s : State) : Host.Outcome State Fault Refusal :=
  done (s.begin.whenMgmt fun s => s.fatal (s.message Kind.KEEPER_LOCKSTEP 2 0x000 c.val 8 (Party.core c.val) none))

/-- Core c has not written its bit in MBX_WDT_KICK for 100 ms (R371); until its first kick the time counts from when the time base began. (log 275, DEDUCED) -/
def State.watchdogDue (s : State) (c : Nat) : Bool := decide (100000000 ≤ (s.now + 2 ^ 64 - mget 0 s.keeper.kicks c) % 2 ^ 64)

/-- KEEPER_WATCHDOG (R371, R366): a watchdog that has not been kicked for 100 ms. -/
def execKeeperWatchdog (c : Core) (s : State) : Host.Outcome State Fault Refusal :=
  done (s.begin.whenMgmt fun s =>
    if s.watchdogDue c.val then s.fatal (s.message Kind.KEEPER_WATCHDOG 2 0x000 c.val 8 (Party.core c.val) none) else s)

/-- A write of MBX_WDT_KICK (R393): core c with bit c restarts its watchdog; other bits and masters are ignored. -/
def State.writeKick (s : State) (m : Master) (v : Nat) : State :=
  match m with
  | .keeper c =>
    if bitsOf v c.val 1 = 1 then { s with keeper := { s.keeper with kicks := mput 0 s.keeper.kicks c.val s.now } } else s
  | _ => s

/-- WDT_KICK (R393). -/
def execWdtKick (m : Master) (value : Word) (s : State) : Host.Outcome State Fault Refusal :=
  done (s.begin.guard m 6 fun s => s.writeKick m value.toNat)

/-- KEEPER_SRAM_ERROR (R373): a corrected error is reported; an uncorrectable one is fatal and reported as KEEPER_LOCKSTEP with the SRAM address. (log 280, DESIGN CHOICE) -/
def execKeeperSramError (c : Core) (addr : Nat) (uncorrectable : Bool) (s : State) : Host.Outcome State Fault Refusal :=
  done (s.begin.whenMgmt fun s =>
    if uncorrectable then s.fatal (s.message Kind.KEEPER_LOCKSTEP 2 0x000 c.val 1 (Party.core c.val) (some addr))
    else s.sendFault (s.message Kind.KEEPER_SRAM_CE 0 0x000 c.val 1 (Party.core c.val) (some addr)))

/-- MTIME_COMPARE (R372, R373): the core's block compares MTIME with MTIMECMP, which the core may have written; the core's machine timer interrupt is raised, in the core itself, once
MTIME has reached it, and falls where a later MTIMECMP is not reached. (log 276, DEDUCED) -/
def execMtimeCompare (c : Core) (written : Option Word64) (s : State) : Host.Outcome State Fault Refusal :=
  done (s.begin.whenMgmt fun s =>
    let cmp := (written.map (·.toNat)).getD (mget 0 s.keeper.mtimecmp c.val)
    let s := { s with keeper := { s.keeper with mtimecmp := mput 0 s.keeper.mtimecmp c.val cmp } }
    if cmp ≤ s.now then
      let s := s.emit (.timerIrq c.val)
      { s with keeper := { s.keeper with timerIrq := if s.keeper.timerIrq.contains c.val then s.keeper.timerIrq else c.val :: s.keeper.timerIrq } }
    else { s with keeper := { s.keeper with timerIrq := s.keeper.timerIrq.filter fun x => x != c.val } })

/-- POLICY_VIOLATION (R375). -/
def execPolicyViolation (s : State) : Host.Outcome State Fault Refusal := done (s.begin.whenMgmt fun s => s.policyStop 1)

/-- POLICY_PARTITION_EXIT (R393). -/
def execPolicyPartitionExit (s : State) : Host.Outcome State Fault Refusal := done (s.begin.whenMgmt fun s => s.policyStop 2)

/-! ### The interrupt controller -/

/-- Bit n of the bit array whose first word lies at a. -/
def bitField (a n : Nat) : Field := ⟨a + 4 * (n / 32), n % 32, 1⟩

def State.intPending (s : State) (n : Nat) : Bool := s.flag (bitField (Addr.INTC_PEND_SET 0) n)
def State.intEnabled (s : State) (n : Nat) : Bool := s.flag (bitField (Addr.INTC_EN_SET 0) n)
def State.intActive (s : State) (n : Nat) : Bool := s.flag (bitField (Addr.INTC_ACTIVE 0) n)
def State.putPending (s : State) (n : Nat) (b : Bool) : State := s.putFlag (bitField (Addr.INTC_PEND_SET 0) n) b
def State.putActive (s : State) (n : Nat) (b : Bool) : State := s.putFlag (bitField (Addr.INTC_ACTIVE 0) n) b

/-- The pending bit of source n sets (R377); a source with HOSTFWD is forwarded to the designated host once for each setting (R384). -/
def State.setPending (s : State) (n : Nat) : State :=
  if s.intPending n then s
  else
    let s := s.putPending n true
    if n < 1920 && s.flag (Fld.INTC_SRC_HOSTFWD n) && s.flag Fld.MBX_CFG_FM_EN then
      let s := s.signalVcs (s.get Fld.MBX_CFG_FM_VCS) (16 + n)
      if s.get (Fld.INTC_SRC_TARGET n) = 0 then s.putPending n false else s
    else s

/-- Source n is a candidate for core c (R378): pending, enabled, in service on no core, the core a target, its priority above the core's threshold and running priority. -/
def State.candidate (s : State) (c n : Nat) : Bool :=
  s.intPending n && s.intEnabled n && !s.intActive n && bitsOf (s.get (Fld.INTC_SRC_TARGET n)) c 1 == 1
    && decide (s.get (Fld.INTC_THRESH_THRESH c) < s.get (Fld.INTC_SRC_PRIO n)) && decide (s.get (Fld.INTC_RUN_RUNPRIO c) < s.get (Fld.INTC_SRC_PRIO n))

/-- The better of two candidates: the higher priority, and among equals the earlier. -/
def State.better (s : State) (best : Option Nat) (n : Nat) : Option Nat :=
  match best with
  | some b => if s.get (Fld.INTC_SRC_PRIO b) < s.get (Fld.INTC_SRC_PRIO n) then some n else some b
  | none => some n

/-- The source the controller presents to core c in every cycle (R378): its best candidate. -/
def State.presents (s : State) (c : Nat) : Option Nat := ((List.range 2048).filter (s.candidate c)).foldl s.better none

/-- The sources of word w whose bit is set in v, lowest first. -/
def sourcesOf (w v : Nat) : List Nat := ((List.range 32).filter fun i => v.testBit i).map fun i => 32 * w + i

/-- INTC_LEVEL_RISE (R377): a level that has risen sets the pending bit. -/
def execIntcLevelRise (n : Fin 2048) (s : State) : Host.Outcome State Fault Refusal :=
  done (s.begin.whenMgmt fun s =>
    if s.level n.val && !s.keeper.sampled.contains n.val then
      let s := { s with keeper := { s.keeper with sampled := n.val :: s.keeper.sampled } }
      s.setPending n.val
    else s)

/-- Writes of INTC_PEND_SET, INTC_PEND_CLR, INTC_EN_SET, INTC_EN_CLR, from keeper cores only (R377, R382). -/
def State.writePendSet (s : State) (m : Master) (w v : Nat) : State :=
  if m.isKeeper then (sourcesOf w v).foldl State.setPending s else s
def State.writePendClr (s : State) (m : Master) (w v : Nat) : State :=
  if m.isKeeper then s.setWord (Addr.INTC_PEND_SET w) (s.word (Addr.INTC_PEND_SET w) &&& ~~~ BitVec.ofNat 32 v) else s
def State.writeEnSet (s : State) (m : Master) (w v : Nat) : State :=
  if m.isKeeper then s.setWord (Addr.INTC_EN_SET w) (s.word (Addr.INTC_EN_SET w) ||| BitVec.ofNat 32 v) else s
def State.writeEnClr (s : State) (m : Master) (w v : Nat) : State :=
  if m.isKeeper then s.setWord (Addr.INTC_EN_SET w) (s.word (Addr.INTC_EN_SET w) &&& ~~~ BitVec.ofNat 32 v) else s

/-- INTC_PEND_SET (R377). -/
def execIntcPendSet (m : Master) (w : Fin 64) (bits : Word) (s : State) : Host.Outcome State Fault Refusal :=
  done (s.begin.guard m 5 fun s => s.writePendSet m w.val bits.toNat)
/-- INTC_PEND_CLR (R377). -/
def execIntcPendClr (m : Master) (w : Fin 64) (bits : Word) (s : State) : Host.Outcome State Fault Refusal :=
  done (s.begin.guard m 5 fun s => s.writePendClr m w.val bits.toNat)
/-- INTC_EN_SET (R377). -/
def execIntcEnSet (m : Master) (w : Fin 64) (bits : Word) (s : State) : Host.Outcome State Fault Refusal :=
  done (s.begin.guard m 5 fun s => s.writeEnSet m w.val bits.toNat)
/-- INTC_EN_CLR (R377). -/
def execIntcEnClr (m : Master) (w : Fin 64) (bits : Word) (s : State) : Host.Outcome State Fault Refusal :=
  done (s.begin.guard m 5 fun s => s.writeEnClr m w.val bits.toNat)

/-- The stack of core c and its running priority and depth as INTC_RUN shows them (R392). -/
def State.putStack (s : State) (c : Nat) (st : List (Nat × Nat)) : State :=
  let s := s.puts [(Fld.INTC_RUN_RUNPRIO c, ((st.head?).map (·.2)).getD 0), (Fld.INTC_RUN_DEPTH c, st.length)]
  { s with keeper := { s.keeper with inService := mput [] s.keeper.inService c st } }

/-- INTC_VECTOR_FETCH (R379): the core claims the named source, or gets the spurious vector. -/
def execIntcVectorFetch (c : Core) (n : Fin 2048) (s : State) : Host.Outcome State Fault Refusal :=
  done (s.begin.whenMgmt fun s =>
    let base := s.get64 (Addr.INTC_VEC_LO c.val)
    if s.intPending n.val && s.intEnabled n.val && !s.intActive n.val then
      let s := ((s.putPending n.val false).putActive n.val true).put (Fld.INTC_CLAIM_SOURCE c.val) n.val
      let s := s.putStack c.val ((n.val, s.get (Fld.INTC_SRC_PRIO n.val)) :: mget [] s.keeper.inService c.val)
      (s.count (Ctr.ICLAIM n.val 0)).emit (.vector c.val (base + 8 * n.val))
    else
      let s := (s.put (Fld.INTC_CLAIM_SOURCE c.val) 0xFFFF).addSat Fld.INTC_BAD_SPURIOUS 1
      (s.count (Ctr.ICLAIM n.val 1)).emit (.vector c.val (base + 8 * 2048)))

/-- A write of INTC_COMPLETE of core c (R380): only core c writes it, and it must name the innermost source in service. -/
def State.writeComplete (s : State) (m : Master) (c v : Nat) : State :=
  match m with
  | .keeper k =>
    if k.val ≠ c then s
    else
      match mget [] s.keeper.inService c with
      | (n, _) :: rest =>
        if v % 4096 = n then
          let s := (s.putActive n false).putStack c rest
          if s.level n then s.setPending n else s
        else s.addSat Fld.INTC_BAD_BAD_COMPLETE 1
      | [] => s.addSat Fld.INTC_BAD_BAD_COMPLETE 1
  | _ => s

/-- INTC_COMPLETE (R380). -/
def execIntcComplete (m : Master) (c : Core) (value : Word) (s : State) : Host.Outcome State Fault Refusal :=
  done (s.begin.guard m 5 fun s => s.writeComplete m c.val value.toNat)

/-- A write of INTC_BAD clears both counts (R392). -/
def State.writeIntcBad (s : State) (m : Master) : State :=
  if m.isKeeper then s.puts [(Fld.INTC_BAD_BAD_COMPLETE, 0), (Fld.INTC_BAD_SPURIOUS, 0)] else s

/-- INTC_BAD_CLEAR (R392). -/
def execIntcBadClear (m : Master) (_value : Word) (s : State) : Host.Outcome State Fault Refusal :=
  done (s.begin.guard m 5 fun s => s.writeIntcBad m)

/-! ### Clock commands that arrive as register writes -/

/-- AUTO_REVERT_SET (R62): a write of CLK_REF_CFG. -/
def execAutoRevertSet (m : Master) (value : Word) (s : State) : Host.Outcome State Fault Refusal :=
  done (s.begin.guard m 1 fun s => s.writeRefCfg value.toNat)

/-- CLK_RESET_WRITE (R82). -/
def execClkResetWrite (m : Master) (value : Word) (s : State) : Host.Outcome State Fault Refusal :=
  done (s.begin.guard m 1 fun s => s.writeClkReset m value.toNat)

end Sys2Proof.Machine
end

