-- ==== Sys2Proof/Machine/Faults.lean ====
section
/-! DEFINITION. Sys2Proof/Machine/Faults.lean: the fault collector, its log, escalation, first-error capture, stops and their records (R343 to R370). -/
namespace Sys2Proof.Machine
open Sys2Proof

/-! ### Entries as words (R346, R350, R363) -/

/-- The message's four words (R346). -/
def FaultMsg.toWords (m : FaultMsg) (esc : Bool) : List Nat :=
  let a := m.addr.getD 0 / 64 % 2 ^ 46
  [m.kind % 2 ^ 12 + m.cls % 4 * 2 ^ 12 + bit esc * 2 ^ 14 + bit m.addr.isSome * 2 ^ 15 + m.source % 2 ^ 12 * 2 ^ 16 + m.atype % 16 * 2 ^ 28,
   m.unit % 2 ^ 8 + m.party % 2 ^ 16 * 2 ^ 8 + a % 2 ^ 8 * 2 ^ 24,
   a / 2 ^ 8 % 2 ^ 32,
   a / 2 ^ 40 % 2 ^ 6 + m.ts % 2 ^ 26 * 2 ^ 6]

/-- The eight words of a log entry (R350). -/
def LogEntry.toWords (e : LogEntry) : List Nat :=
  e.msg.toWords e.esc ++ [e.seq % 2 ^ 32, bit e.afterStop, e.time % 2 ^ 32, e.time / 2 ^ 32 % 2 ^ 32]

/-- An entry or zeros. -/
def entryWords : Option LogEntry → List Nat
  | some e => e.toWords
  | none => List.replicate 8 0

/-- ORIGIN codes (R363). -/
def StopOrigin.code : StopOrigin → Nat
  | .source => 0
  | .escalation => 1
  | .startFail => 2
  | .power => 3
  | .removal => 4

/-- A list of words cut or filled with zeros to n words. -/
def padTo (n : Nat) (l : List Nat) : List Nat := (l ++ List.replicate n 0).take n

/-- The 256 words of a fail-stop record (R363). -/
def FailRecord.toWords (r : FailRecord) : List Nat :=
  let body := [0x31525346, 1 + 1024 * 2 ^ 16, r.rseq % 2 ^ 32, r.cls % 256 + r.origin.code * 2 ^ 8, r.time % 2 ^ 32, r.time / 2 ^ 32 % 2 ^ 32, r.fwVer % 2 ^ 32,
      r.seq % 2 ^ 32, Config.serial 0 % 2 ^ 32, Config.serial 1 % 2 ^ 32, Config.serial 2 % 2 ^ 32, Config.serial 3 % 2 ^ 32] ++ padTo 4 r.state ++ entryWords r.cause
    ++ entryWords (assoc r.first 0) ++ entryWords (assoc r.first 1) ++ entryWords (assoc r.first 2) ++ padTo 192 (r.recent.flatMap LogEntry.toWords)
    ++ padTo 4 r.mirror ++ padTo 2 r.temps ++ List.replicate 9 0
  body ++ [crc32c (body.flatMap wordBytes)]

/-! ### Telemetry staging (R426, R427) -/

/-- A record enters the 64 KiB staging buffer, or is dropped and counted when it does not fit (R426). -/
def State.stageRecord (s : State) (r : TelRecord) : State :=
  if !s.flag Fld.PERF_RING_CFG_EN || s.clk.fabricHeld then s
  else if 1024 ≤ s.fab.stage.length then (s.addSat Fld.PERF_RING_DROP_COUNT 1).raise Evt.PERF_RING_DROP
  else { s with fab := { s.fab with stage := s.fab.stage ++ [r] } }

/-! ### Reports to hosts (R275, R360) -/

/-- An Uncorrectable Internal Error on the upstream vPPB of VCS k, at most one in any 1 ms (R360). (log 57, DEDUCED) -/
def State.reportHost (s : State) (k : Nat) : State :=
  match assoc s.flt.internalErr k with
  | some t =>
    if s.now < t + 1000000 then s
    else (s.emit (.hostError k)) |> fun s => { s with flt := { s.flt with internalErr := assocPut s.flt.internalErr k s.now } }
  | none => (s.emit (.hostError k)) |> fun s => { s with flt := { s.flt with internalErr := assocPut s.flt.internalErr k s.now } }

/-! ### The collector (R350 to R356) -/

/-- The full time of detection (R346): the latest value not later than the collector's time whose bits [26:1] equal TS. (log 53, DEDUCED) -/
def rebuildTime (now ts : Nat) : Nat :=
  let t := now / 2 ^ 27 * 2 ^ 27 + 2 * (ts % 2 ^ 26)
  if t ≤ now then t else t - 2 ^ 27

/-- Unacknowledged entries (R350). -/
def State.unacked (s : State) : Nat := min 1024 (s.get Fld.FLT_SEQ_SEQ - s.get Fld.FLT_ACK_SEQ)

/-- Show UNACKED; LOG_HALF is raised when it reaches 512 (R368). -/
def State.showUnacked (s : State) : State :=
  let old := s.get Fld.FLT_STATUS_UNACKED
  let s := s.put Fld.FLT_STATUS_UNACKED s.unacked
  s.raiseIf (decide (old < 512) && decide (512 ≤ s.unacked)) Evt.FLT_LOG_HALF

/-- The class a message is logged with (R352): one above the class it reports when an unacknowledged entry of that class from the same source and unit
exists; classes 2 and 3 and messages after a stop are not escalated. -/
def State.escalates (s : State) (m : FaultMsg) (afterStop : Bool) : Bool :=
  !afterStop && decide (m.cls < 2) &&
    s.flt.log.any fun e => decide (s.get Fld.FLT_ACK_SEQ < e.seq) && e.msg.cls == m.cls && e.msg.source == m.source && e.msg.unit == m.unit

/-- Has a stop been decided, by another condition than this message (R364, R365)? -/
def State.isAfterStop (s : State) (m : FaultMsg) : Bool :=
  (s.clk.stopHeld || s.clk.startFail) &&
    match s.flt.stop with
    | some c => c.cause != some m || s.flt.causeEntry.isSome
    | none => true

/-- The entry that stands for a message that finds every entry unacknowledged (R350). (log 52, DEDUCED) -/
def logFullMsg (m : FaultMsg) : FaultMsg :=
  { kind := Kind.FLT_LOG_FULL, cls := 2, source := 0x004, unit := 0, atype := 8, party := 0,
    addr := some (64 * (m.kind % 2 ^ 12 + m.source % 2 ^ 12 * 2 ^ 12 + m.unit % 2 ^ 8 * 2 ^ 24)), ts := m.ts }

/-- The oldest entry goes when 1,024 are held; FLT_LOST and the group's count tell of one the board had not acknowledged (R350, R369). -/
def State.dropOldest (s : State) : State :=
  if s.flt.log.length < 1024 then s
  else
    let old := s.flt.log.getLast?
    let s := { s with flt := { s.flt with log := s.flt.log.take 1023 } }
    match old with
    | some e =>
      if s.get Fld.FLT_BOARD_ACK_SEQ < e.seq then (s.addSat Fld.FLT_LOST_COUNT 1).count (Ctr.FLTSRC (e.msg.kind / 16) 1) else s
    | none => s

/-- Write one entry into the log with everything that follows from it: SEQ, first-entry capture, events, counts, the event record and the telemetry record. -/
def State.writeEntry (s : State) (m : FaultMsg) (esc afterStop : Bool) : State :=
  let s := s.dropOldest
  let seq := (s.get Fld.FLT_SEQ_SEQ + 1) % 2 ^ 32
  let e : LogEntry := { msg := m, esc := esc, seq := seq, afterStop := afterStop, time := rebuildTime s.now m.ts }
  let s := s.put Fld.FLT_SEQ_SEQ seq
  let cause := (s.clk.stopHeld || s.clk.startFail) && !afterStop
  let first := if m.cls < 3 && (assoc s.flt.first m.cls).isNone then assocPut s.flt.first m.cls e else s.flt.first
  let s := { s with flt := { s.flt with log := e :: s.flt.log, first := first, causeEntry := if cause then some e else s.flt.causeEntry } }
  let s := if m.cls < 3 then s.put (Fld.FLT_FIRST_CTL_VALID m.cls) 1 else s
  let s := ((s.raiseIf (m.cls == 0) Evt.FLT_CORRECTED).raiseIf (m.cls == 1) Evt.FLT_CONTAINED).raiseIf esc Evt.FLT_ESCALATED
  let s := s.count (Ctr.KIND m.kind m.cls)
  let s := if esc then s.count (Ctr.FLTSRC (m.kind / 16) 0) else s
  let s := if 1 ≤ m.cls then
      s.addFmEvent { kind := .fault, port := 0, item := 0, entry := some e, time := (s.now + s.mbx.tsOffset) % 2 ^ 64 }
    else s
  let s := if s.flag Fld.PERF_RING_CFG_FAULTS then s.stageRecord { type := 1, info := 0, time := e.time, body := padTo 12 e.toWords } else s
  s.showUnacked.driveAlert

/-- The collector takes a message (R350 to R354): it is logged with its class after escalation; a fatal or stop class drives the stop. -/
def State.collect (s : State) (m : FaultMsg) : State :=
  let after := s.isAfterStop m
  if s.unacked = 1024 then
    let f := logFullMsg m
    ((s.stopNow 2 .escalation (some f)).writeEntry f true after)
  else
    let esc := s.escalates m after
    let m' := if esc then { m with cls := m.cls + 1 } else m
    let s := if esc && m'.cls == 2 then s.stopNow 2 .escalation (some m')
      else if m.cls = 2 && !after then s.stopNow 2 .source (some m)
      else if m.cls = 3 && !after then s.stopNow 3 .removal (some m)
      else s
    s.writeEntry m' esc after

/-- FAULT_MESSAGE (R350): the message leaves the fault network and is logged. (log 279, DESIGN CHOICE) -/
def execFaultMessage (msg : FaultMsg) (s : State) : Host.Outcome State Fault Refusal :=
  done (s.begin.whenMgmt fun s =>
    { s with flt := { s.flt with net := s.flt.net.erase msg } }.collect msg)

/-! ### Acknowledgement and capture (R351, R356 to R358) -/

/-- A write of FLT_ACK (R351, R367): from a keeper core, not below the current value nor above FLT_SEQ. -/
def State.writeFltAck (s : State) (m : Master) (v : Nat) : State :=
  if m.isKeeper && decide (s.get Fld.FLT_ACK_SEQ ≤ v) && decide (v ≤ s.get Fld.FLT_SEQ_SEQ) then (s.put Fld.FLT_ACK_SEQ v).showUnacked else s

/-- A write of FLT_BOARD_ACK (R358, R367): from the board; it governs ALERT_N. -/
def State.writeBoardAck (s : State) (m : Master) (v : Nat) : State :=
  if m == .board && decide (s.get Fld.FLT_BOARD_ACK_SEQ ≤ v) && decide (v ≤ s.get Fld.FLT_SEQ_SEQ) then (s.put Fld.FLT_BOARD_ACK_SEQ v).driveAlert else s

/-- FLT_ACK_WRITE (R351). -/
def execFltAckWrite (m : Master) (seq : Word) (s : State) : Host.Outcome State Fault Refusal :=
  done (s.begin.guard m 4 fun s => s.writeFltAck m seq.toNat)

/-- FLT_BOARD_ACK_WRITE (R358). -/
def execFltBoardAckWrite (m : Master) (seq : Word) (s : State) : Host.Outcome State Fault Refusal :=
  done (s.begin.guard m 4 fun s => s.writeBoardAck m seq.toNat)

/-- A write of FLT_FIRST_CTL[c] (R356): CLR clears VALID and re-arms the capture. -/
def State.writeFirstCtl (s : State) (c v : Nat) : State :=
  if bitsOf v 1 1 = 1 then
    let s := s.put (Fld.FLT_FIRST_CTL_VALID c) 0
    { s with flt := { s.flt with first := assocDel s.flt.first c } }
  else s

/-- FLT_FIRST_CLEAR (R356). -/
def execFltFirstClear (m : Master) (c : Fin 3) (value : Word) (s : State) : Host.Outcome State Fault Refusal :=
  done (s.begin.guard m 4 fun s => s.writeFirstCtl c.val value.toNat)

/-- A write of a page's ERR_ACK (R357): 1 clears VALID and re-arms the capture. -/
def State.writeErrAck (s : State) (pg v : Nat) : State :=
  match blockOf pg with
  | some (b, _) => if hasErrCap b && bitsOf v 0 1 == 1 then s.put (Fld.ERR_FIRST_ATYPE_VALID pg) 0 else s
  | none => s

/-- ERR_ACK_WRITE (R357). -/
def execErrAckWrite (m : Master) (page : BitVec 12) (value : Word) (s : State) : Host.Outcome State Fault Refusal :=
  done (s.begin.guard m page.toNat fun s => s.writeErrAck page.toNat value.toNat)

/-- A write of FLT_INJECT (R370): a message as if from SOURCE, captured in that page and logged at once; from a keeper core or the board. -/
def State.writeInject (s : State) (m : Master) (v : Nat) : State :=
  if m.keeperOrBoard then
    let f := { s.message (bitsOf v 0 12) (bitsOf v 12 2) (bitsOf v 16 12) 0 15 Party.none none with unit := 0 }
    let s := if s.live f.source then s.captureFirst f else s
    s.collect f
  else s

/-- FLT_INJECT (R370). -/
def execFltInject (m : Master) (value : Word) (s : State) : Host.Outcome State Fault Refusal :=
  done (s.begin.guard m 4 fun s => s.writeInject m value.toNat)

/-! ### Stops and their records (R361 to R364) -/

/-- FAIL_STOP (R361). -/
def execFailStop (msg : FaultMsg) (s : State) : Host.Outcome State Fault Refusal := done (s.begin.fatal msg)

/-- The record of the stop in force (R363). -/
def State.failRecord (s : State) (c : Capture) : FailRecord :=
  let before := match s.flt.causeEntry with
    | some e => s.flt.log.filter fun (x : LogEntry) => decide (x.seq < e.seq)
    | none => s.flt.log.filter fun (x : LogEntry) => decide (x.seq ≤ c.seq)
  { rseq := s.nv.rseq + 1, cls := c.cls, origin := c.origin, time := c.time, fwVer := s.get Fld.DEV_FW_VER_VER, seq := c.seq, state := c.state,
    cause := if c.origin = .removal then none else s.flt.causeEntry, first := s.flt.first, recent := before.take 24, mirror := c.mirror, temps := c.temps }

/-- FAILSTOP_RECORD_WRITTEN (R363): the record enters the ring of 16 in the NV store and the flag of a missing record is cleared. -/
def execFailstopRecordWritten (s : State) : Host.Outcome State Fault Refusal :=
  done (s.begin.whenMgmt fun s =>
    match s.flt.stop with
    | none => s
    | some c =>
      if s.flt.recordDue && !s.clk.mgmtStopped then
        let s := match c.cause with
          | some m =>
            if s.flt.net.contains m && s.flt.causeEntry.isNone then
              let s := { s with flt := { s.flt with net := s.flt.net.erase m } }
              s.collect m
            else s
          | none => s
        let r := s.failRecord c
        let s := { s with nv := { s.nv with records := r :: s.nv.records.take 15, rseq := r.rseq }, hs := { s.hs with recMissing := false },
                          flt := { s.flt with recordDue := false } }
        (s.nvWrote (16 + r.rseq % 16)).put Fld.FLT_STATUS_RECORDS s.nv.records.length
      else s)

end Sys2Proof.Machine
end

