-- ==== Sys2Proof/Machine/Sched.lean ====
section
/-! DEFINITION. Sys2Proof/Machine/Sched.lean: Ehrurn (R180 to R183), the admission cycle, the scheduler (R196 to R198), shapers and policers (R200 to R206), and
their commands. -/
namespace Sys2Proof.Machine
open Sys2Proof

/-- Run a function while FABRIC is out of reset; what it changes in a mirrored region is mirrored (R306). (log 9, DESIGN CHOICE) -/
def State.whenFabric (s : State) (f : State → State) : State := if s.live 0x31 && !s.clk.mgmtStopped then (f s).mirror s else s

/-- Run a function of the hardware on an active module: a passive one serves nothing and its tables change only through mirror records (R309). -/
def State.whenActive (s : State) (f : State → State) : State := s.whenFabric fun s => if s.isActive then f s else s

/-! ### Admission cycle (R169, R181) -/

/-- A requester of R169: owner o of tile t, or internal endpoint k as 4 + k. -/
def ownerOf (t o : Nat) (m : Msg) : Bool := if o < 4 then m.src / 16 == t && m.src < 64 && m.src / 4 % 4 == o else m.src == 60 + o

/-- Remove the first message equal to m from the waiting ones. -/
def State.unwait (s : State) (m : Msg) : State := s.modSw fun w => { w with waiting := w.waiting.erase m }

/-- Count the wait of a message that was not admitted, once (R170, R192). -/
def State.countWait (s : State) (m : Msg) : State :=
  let s := s.raiseIf (s.headsFree == 0) Evt.BUF_STRAND_EMPTY
  if m.counted || 64 ≤ m.dst then s
  else
    (s.count (Ctr.SVC m.dst m.svc 1)).modSw fun w =>
      { w with waiting := w.waiting.map fun x => if x = m then { x with counted := true } else x }

/-- The next message of a requester that R168 admits, its queues by ingress port, service and write-back class in arrival order (R170, R224): those behind a
message that waits, wait with it. -/
def State.admitNext (s : State) (mine : Msg → Bool) (blocked : List (Nat × Nat × Bool)) : List Msg → State × Option Msg
  | [] => (s, none)
  | m :: rest =>
    let key := (m.src, m.svc, m.writeBack)
    if !mine m || blocked.contains key then s.admitNext mine blocked rest
    else
      match (s.unwait m).admitMsg m with
      | some s => (s, some m)
      | none => (s.countWait m).admitNext mine (key :: blocked) rest

/-- Grant one beat of a slot to owner o of tile t: a beat of the message it is sending, or the first of its next one (R181). -/
def State.grantBeat (s : State) (t o : Nat) : State × Bool :=
  let d := mget EhrDir.reset s.fab.sw.ehr (2 * t)
  if nth d.beats o ≠ 0 then
    (s.modSw fun w => { w with ehr := mput EhrDir.reset w.ehr (2 * t) { d with beats := d.beats.set o (nth d.beats o - 1) } }, true)
  else
    match s.admitNext (ownerOf t o) [] s.fab.sw.waiting with
    | (s, none) => (s, false)
    | (s, some m) =>
      let d := mget EhrDir.reset s.fab.sw.ehr (2 * t)
      (s.modSw fun w => { w with ehr := mput EhrDir.reset w.ehr (2 * t) { d with beats := d.beats.set o (m.beats - 1) } }, true)

/-- Grant up to n beats to an owner; the beats left come back. -/
def State.grantBeats (s : State) (t o : Nat) : Nat → State × Nat
  | 0 => (s, 0)
  | n + 1 =>
    match s.grantBeat t o with
    | (s, true) => s.grantBeats t o n
    | (s, false) => (s, n + 1)

/-- Change a direction of an Ehrurn link: 2t tile to hub, 2t + 1 hub to tile. -/
def State.modEhr (s : State) (k : Nat) (f : EhrDir → EhrDir) : State :=
  s.modSw fun w => { w with ehr := mput EhrDir.reset w.ehr k (f (mget EhrDir.reset w.ehr k)) }

/-- A slot of n granted beats is sent on a direction of a link: it takes the next sequence number and is kept until acknowledged (R183). -/
def State.sendSlot (s : State) (k n : Nat) : State :=
  (s.modEhr k fun d => { d with seq := (d.seq + 1) % 4096, unacked := d.unacked ++ [(d.seq, 1)], grants := d.grants ++ [(d.seq, n)] }).count (Ctr.CORE k 0)

/-- The requesters of a cycle in the one order of the 16 tile owners and the 4 internal endpoints, which moves on by one position each cycle (R169): here the owners of the tile whose
slot is complete, and the endpoints. -/
def requesters (turn t : Nat) : List Nat := ((List.range 20).map fun i => (turn + i) % 20).filter fun k => decide (16 ≤ k) || k / 4 == t

/-- One slot of the tile-to-hub direction of tile t, with the decisions of its four owners and of the endpoints in the order of R169, then the spare beats in rotating order; what
is admitted to an endpoint takes the order of its arbiter (R169, R178, R181). -/
def State.arbitrateUp (s : State) (t : Nat) : State :=
  let turn := s.fab.sw.turn
  let had := tabulate 4 fun k => (mget [] s.fab.sw.iep k).length
  let (s, spare) := (requesters turn t).foldl (fun (x : State × Nat) k =>
    if k < 16 then
      let r := x.1.grantBeats t (k % 4) 2
      (r.1, x.2 + r.2)
    else ((x.1.admitNext (ownerOf t (k - 12)) [] x.1.fab.sw.waiting).1, x.2)) (s, 0)
  let first := (mget EhrDir.reset s.fab.sw.ehr (2 * t)).first
  let (s, left) := (List.range 4).foldl (fun (x : State × Nat) i => x.1.grantBeats t ((first + i) % 4) x.2) (s, spare)
  let s := (s.modSw fun w => { w with turn := (turn + 1) % 20 }).modEhr (2 * t) fun d => { d with first := (first + 1) % 4 }
  ((List.range 4).foldl (fun s k => s.arbitrateEndpoint k (nth had k)) s).sendSlot (2 * t) (8 - left)

/-- Beats granted to an owner that needs n of them, up to m. -/
def takeBeats (l : List Nat) (o m : Nat) : List Nat × Nat := (l.set o (nth l o - m), min (nth l o) m)

/-- One slot of the hub-to-tile direction of tile t (R181): up to 2 beats for each owner of what its output has sent, then the spare beats in rotating order. (log 228, DESIGN CHOICE) -/
def State.arbitrateDown (s : State) (t : Nat) : State :=
  let d := mget EhrDir.reset s.fab.sw.ehr (2 * t + 1)
  let own := (List.range 4).foldl (fun (x : List Nat × Nat) o => let r := takeBeats x.1 o 2; (r.1, x.2 + r.2)) (d.beats, 0)
  let all := (List.range 4).foldl (fun (x : List Nat × Nat) i => let r := takeBeats x.1 ((d.first + i) % 4) (8 - x.2); (r.1, x.2 + r.2)) own
  (s.modEhr (2 * t + 1) fun d => { d with beats := all.1, first := (d.first + 1) % 4 }).sendSlot (2 * t + 1) all.2

/-- A message that an output has sent needs its beats of the hub-to-tile direction, for the owner of its port group (R180, R181). -/
def State.needBeats (s : State) (m : Msg) : State :=
  if 64 ≤ m.dst then s
  else s.modEhr (2 * (m.dst / 16) + 1) fun d => { d with beats := d.beats.set (m.dst / 4 % 4) (nth d.beats (m.dst / 4 % 4) + m.beats) }

/-- Is a direction free to send a new slot: the link UP, no resend of its own in progress, and fewer than 64 slots kept (R183)? -/
def State.slotFree (s : State) (t k : Nat) : Bool :=
  let d := mget EhrDir.reset s.fab.sw.ehr k
  s.get (Fld.EHR_STATUS_STATE t) == 2 && !d.replaying && decide (d.unacked.length < 64)

/-- ADMIT_WAIT_TIMEOUT (R192): a message of the queue has waited 1 µs for admission. -/
def execAdmitWaitTimeout (src : Fin 68) (svc : Svc) (s : State) : Host.Outcome State Fault Refusal :=
  done (s.begin.whenFabric fun s =>
    s.raiseIf (s.fab.sw.waiting.any fun m => m.src == src.val && m.svc == svc.val) Evt.BUF_ADMIT_HOLD)

/-! ### Replay (R183) -/

/-- REPLAYING shows a resend in either direction (R191). -/
def State.showReplay (s : State) (t : Nat) : State :=
  s.put (Fld.EHR_STATUS_REPLAYING t) (bit ((mget EhrDir.reset s.fab.sw.ehr (2 * t)).replaying || (mget EhrDir.reset s.fab.sw.ehr (2 * t + 1)).replaying))

/-- Acknowledged slots leave the sender's store; with none left outstanding, the resend of that direction is over. -/
def State.ackSlots (s : State) (t k ack : Nat) : State :=
  let d := mget EhrDir.reset s.fab.sw.ehr k
  if d.unacked.any (fun e => e.1 == ack) then
    let rest := (d.unacked.dropWhile fun e => e.1 != ack).drop 1
    (s.modEhr k fun d => { d with unacked := rest, replaying := d.replaying && !rest.isEmpty }).showReplay t
  else s

/-- Resend in order from slot `from_` on: one replay episode, REPLAY raised, a corrected error reported; a slot already sent four times without
acknowledgement stops the module. (log 94, DESIGN CHOICE) -/
def State.resend (s : State) (t k from_ : Nat) : State :=
  let d := mget EhrDir.reset s.fab.sw.ehr k
  let keep := d.unacked.takeWhile fun e => e.1 != from_
  let again := d.unacked.dropWhile fun e => e.1 != from_
  if again.isEmpty then s
  else if again.any fun e => decide (4 ≤ e.2) then s.fatal (s.message Kind.EHR_FAIL 2 (0x20 + t) 0 8 Party.none none)
  else
    let s := if d.replaying then s else s.count (Ctr.CORE k 3)
    let s := (s.modEhr k fun d => { d with unacked := keep ++ again.map fun e => (e.1, e.2 + 1), replaying := true }).showReplay t
    ((s.count (Ctr.CORE k 2) again.length).raise (Evt.EHR_REPLAY t)).sendFault (s.message Kind.EHR_REPLAY 0 (0x20 + t) 0 8 Party.none none)

/-- Fields of the control word of a beat (R180). -/
def EhrBeat.valid (b : EhrBeat) : Bool := bitsOf b.control.toNat 0 1 == 1
def EhrBeat.owner (b : EhrBeat) : Nat := bitsOf b.control.toNat 1 2
def EhrBeat.som (b : EhrBeat) : Nat := bitsOf b.control.toNat 8 8
def EhrBeat.gvalid (b : EhrBeat) : Nat := bitsOf b.control.toNat 16 8
def EhrBeat.seq (b : EhrBeat) : Nat := bitsOf b.control.toNat 24 12
def EhrBeat.ackSeq (b : EhrBeat) : Nat := bitsOf b.control.toNat 36 12
def EhrBeat.ackType (b : EhrBeat) : Nat := bitsOf b.control.toNat 48 2

/-- Bytes 0 to 135 of a beat, over which its CRC-32C runs (R180). -/
def EhrBeat.covered (b : EhrBeat) : List Nat := b.data.map (·.toNat) ++ tabulate 8 fun i => b.control.toNat / 256 ^ i % 256

/-- The CRC of a beat holds (R180). -/
def EhrBeat.intact (b : EhrBeat) : Bool := crc32c b.covered == b.crc.toNat

/-- The receiver checks every beat with VALID = 1 and every beat it expects to be valid from the grant: the first n (R183). -/
def slotIntact (n : Nat) : List EhrBeat → Bool
  | [] => true
  | b :: l => (!(b.valid || decide (0 < n)) || b.intact) && slotIntact (n - 1) l

/-- The receiver of a direction returns a NAK of the slot after the last received in order and intact (R183). -/
def State.nak (s : State) (k : Nat) : State :=
  let d := mget EhrDir.reset s.fab.sw.ehr k
  (s.modEhr k fun d => { d with naked := true }).emit (.ehrNak k ((d.expect + 4095) % 4096))

/-- EHRURN_SLOT_RX (R180, R183): a slot of direction `down` arrives. A slot with any failing beat is discarded and a NAK returned; every later slot is discarded until the resent
one arrives. The beats carry the slot's sequence number and the acknowledgement of the opposite direction, an ACK or a NAK. -/
def execEhrurnSlotRx (t : Tile) (down : Bool) (beats : List EhrBeat) (s : State) : Host.Outcome State Fault Refusal :=
  done (s.begin.whenFabric fun s =>
    let k := 2 * t.val + bit down
    let j := 2 * t.val + bit (!down)
    if s.get (Fld.EHR_STATUS_STATE t.val) != 2 then s
    else
      let d := mget EhrDir.reset s.fab.sw.ehr k
      match beats with
      | [] => s
      | b :: _ =>
        if !slotIntact ((assoc d.grants d.expect).getD 0) beats then (s.nak k).count (Ctr.CORE k 1)
        else
          let s := if b.seq = d.expect then
              s.modEhr k fun d => { d with expect := (d.expect + 1) % 4096, naked := false, grants := d.grants.filter fun g => g.1 != b.seq }
            else s
          let s := if b.ackType = 0 then s else s.ackSlots t.val j b.ackSeq
          if b.ackType = 2 then s.resend t.val j ((b.ackSeq + 1) % 4096) else s)

/-- EHRURN_NAK_RX (R183): the sender of direction `down` resends from the slot after ACKSEQ. -/
def execEhrurnNakRx (t : Tile) (down : Bool) (ack : BitVec 12) (s : State) : Host.Outcome State Fault Refusal :=
  done (s.begin.whenFabric fun s =>
    let k := 2 * t.val + bit down
    (s.ackSlots t.val k ack.toNat).resend t.val k ((ack.toNat + 1) % 4096))

/-- EHRURN_ACK_TIMEOUT (R183): the sender resends its oldest outstanding slot and those after it. -/
def execEhrurnAckTimeout (t : Tile) (down : Bool) (s : State) : Host.Outcome State Fault Refusal :=
  done (s.begin.whenFabric fun s =>
    let k := 2 * t.val + bit down
    match (mget EhrDir.reset s.fab.sw.ehr k).unacked.head? with
    | some e => s.resend t.val k e.1
    | none => s)

/-- EHRURN_FAIL (R183): fail-stop while slots are outstanding. -/
def execEhrurnFail (t : Tile) (down : Bool) (s : State) : Host.Outcome State Fault Refusal :=
  done (s.begin.whenFabric fun s =>
    if (mget EhrDir.reset s.fab.sw.ehr (2 * t.val + bit down)).unacked.isEmpty then s
    else s.fatal (s.message Kind.EHR_FAIL 2 (0x20 + t.val) 0 8 Party.none none))

/-! ### Token buckets (R200 to R206) -/

/-- Whole bytes of a count. -/
def wholeBytes (c : Int) : Int := c / 4294967296

/-- Does a shaper allow a message of length l (R201)? -/
def Bucket.allows (b : Bucket) (l : Nat) : Bool := !b.cfg.en || decide ((l : Int) ≤ wholeBytes b.count)

/-- Charge a message, never below -BURST (R201). -/
def Bucket.charge (b : Bucket) (l : Nat) : Bucket :=
  if b.cfg.en then { b with count := max (b.count - l * 4294967296) (-(b.cfg.burst * 4294967296)) } else b

/-- A refill: the pending snapshot takes effect, then the rate is added and the count capped (R200, R203). -/
def Bucket.refill (b : Bucket) : Bucket :=
  let was := b.cfg.en
  let cfg := b.next.getD b.cfg
  let full : Int := cfg.burst * 4294967296
  let full2 : Int := cfg.burst2 * 4294967296
  if !cfg.en then { b with cfg := cfg, count := 0, count2 := 0, next := none }
  else
    let c := if was then b.count else full
    let c2 := if was then b.count2 else full2
    { cfg := cfg, count := min (c + cfg.rate) full, count2 := min (c2 + cfg.rate2) full2, next := none }

/-- The subscriber shaper holds and charges a service (R201). -/
def Bucket.holds (b : Bucket) (svc : Nat) : Bool := b.cfg.en && bitsOf b.cfg.mask svc 1 == 1

def State.subBucket (s : State) (u : Nat) : Bucket := mget Bucket.off s.fab.sw.subBkt u
def State.portBucket (s : State) (p : Nat) : Bucket := mget Bucket.off s.fab.sw.portBkt p
def State.polBucket (s : State) (t u : Nat) : Bucket := mget Bucket.off s.fab.sw.polBkt (4096 * t + u)

/-- Policing of a request of subscriber u in tile t (R205): the colour, 0 green, 1 yellow, 2 red. -/
def Bucket.police (b : Bucket) (l : Nat) : Bucket × Nat :=
  if !b.cfg.en then (b, 0)
  else if wholeBytes b.count2 < l then (b, 2)
  else if wholeBytes b.count < l then ({ b with count2 := b.count2 - l * 4294967296 }, 1)
  else ({ b with count := b.count - l * 4294967296, count2 := b.count2 - l * 4294967296 }, 0)

/-- Stage 5 (R205, R206): the request is coloured, counted by subscriber and colour, and RED raised. -/
def State.police (s : State) (t u l : Nat) : State × Nat :=
  let r := (s.polBucket t u).police l
  let s := s.modSw fun w => { w with polBkt := mput Bucket.off w.polBkt (4096 * t + u) r.1 }
  ((s.count (Ctr.SUB u r.2)).raiseIf (r.2 == 2) Evt.SCHED_RED, r.2)

/-- A subscriber shaper refills in the cycle of decisions already taken (R202): the refill, then the cap, then the charges of the cycle. -/
def State.refillSub (s : State) (same : Bool) (u : Nat) : Bucket :=
  let b := s.subBucket u
  match if same then assoc s.fab.sw.start u else none with
  | some x => ({ b with count := x.1 } : Bucket).refill.charge x.2
  | none => b.refill

/-- BUCKET_REFILL (R200, R202, R203, R204): `same` tells that it falls in the hub core cycle of the decisions before it; a snapshot applied everywhere it applies clears PENDING and raises APPLIED. -/
def execBucketRefill (same : Bool) (b : BucketId) (s : State) : Host.Outcome State Fault Refusal :=
  done (s.begin.whenFabric fun s =>
    match b with
    | .sub u =>
      let b := s.subBucket u.val
      let s := if b.next.isSome then (s.put (Fld.SUB_SHP_CTL_PENDING u.val) 0).raise Evt.SCHED_APPLIED else s
      s.modSw fun w => { w with subBkt := mput Bucket.off w.subBkt u.val (s.refillSub same u.val) }
    | .port p =>
      let b := s.portBucket p.val
      let s := if b.next.isSome then (s.put (Fld.PORT_SHP_CTL_PENDING p.val) 0).raise Evt.SCHED_APPLIED else s
      s.modSw fun w => { w with portBkt := mput Bucket.off w.portBkt p.val b.refill }
    | .pol t u =>
      let b := s.polBucket t.val u.val
      let s := s.modSw fun w => { w with polBkt := mput Bucket.off w.polBkt (4096 * t.val + u.val) b.refill }
      if b.next.isSome && (List.range 4).all (fun i => (s.polBucket i u.val).next.isNone) then
        (s.put (Fld.SUB_POL_CTL_PENDING u.val) 0).raise Evt.SCHED_APPLIED
      else s)

/-- A bucket that starts full, as at an enable (R203, R208). -/
def Bucket.full (b : Bucket) : Bucket :=
  if b.cfg.en then { b with count := b.cfg.burst * 4294967296, count2 := b.cfg.burst2 * 4294967296 } else b

/-- After a promotion every bucket starts full (R208). -/
def State.fillBuckets (s : State) : State :=
  let all := fun (l : NMap Bucket) => l.map fun e => (e.1, e.2.full)
  s.modSw fun w => { w with subBkt := all w.subBkt, portBkt := all w.portBkt, polBkt := all w.polBkt, start := [] }

/-- Limits of a staged burst (R212). -/
def burstOk (n : Nat) : Bool := decide (1024 ≤ n) && decide (n ≤ 16777216)

/-- A write of a shaper's CTL word (R203, R212, R213): the staged words and the written fields become the pending snapshot. -/
def State.writeShaperCtl (s : State) (x : ShaperId) (v : Nat) : State :=
  match x with
  | .sub u =>
    let burst := s.get (Fld.SUB_SHP_BURST_BURST u.val)
    let rate := s.get64 (Addr.SUB_SHP_RATE_LO u.val)
    if !burstOk burst || 0x10000 < rate / 2 ^ 32 then s
    else
      let mask := bitsOf v 8 8 &&& 0x4F
      let c : BucketCfg := { BucketCfg.off with en := bitsOf v 0 1 == 1, mask := mask, rate := rate, burst := burst }
      let s := s.puts [(Fld.SUB_SHP_CTL_EN u.val, v), (Fld.SUB_SHP_CTL_SVC_MASK u.val, mask), (Fld.SUB_SHP_CTL_PENDING u.val, 1)]
      s.modSw fun w => { w with subBkt := mput Bucket.off w.subBkt u.val { s.subBucket u.val with next := some c } }
  | .port p =>
    let burst := s.get (Fld.PORT_SHP_BURST_BURST p.val)
    let rate := s.get64 (Addr.PORT_SHP_RATE_LO p.val)
    if !s.present p.val || !burstOk burst || 0x10000 < rate / 2 ^ 32 then s
    else
      let c : BucketCfg := { BucketCfg.off with en := bitsOf v 0 1 == 1, rate := rate, burst := burst }
      let s := s.puts [(Fld.PORT_SHP_CTL_EN p.val, v), (Fld.PORT_SHP_CTL_PENDING p.val, 1)]
      s.modSw fun w => { w with portBkt := mput Bucket.off w.portBkt p.val { s.portBucket p.val with next := some c } }

/-- A write of SUB_POL_CTL (R204, R212): the snapshot reaches the copies of all four tiles. -/
def State.writePolicerCtl (s : State) (u : Nat) (v : Nat) : State :=
  let cir := s.get64 (Addr.SUB_POL_CIR_LO u)
  let pir := s.get64 (Addr.SUB_POL_PIR_LO u)
  let cbs := s.get (Fld.SUB_POL_CBS_CBS u)
  let pbs := s.get (Fld.SUB_POL_PBS_PBS u)
  if pir < cir || 0x10000 < pir / 2 ^ 32 || !burstOk cbs || !burstOk pbs then s
  else
    let c : BucketCfg := { en := bitsOf v 0 1 == 1, mask := 0x4F, rate := cir, burst := cbs, rate2 := pir, burst2 := pbs }
    let s := s.puts [(Fld.SUB_POL_CTL_EN u, v), (Fld.SUB_POL_CTL_PENDING u, 1)]
    (List.range 4).foldl (fun s t =>
      s.modSw fun w => { w with polBkt := mput Bucket.off w.polBkt (4096 * t + u) { s.polBucket t u with next := some c } }) s

/-- SHAPER_COMMIT (R203). -/
def execShaperCommit (m : Master) (x : ShaperId) (value : Word) (s : State) : Host.Outcome State Fault Refusal :=
  done (s.begin.guard m (match x with | .sub u => 0x402 + u.val / 1024 | .port _ => 0x407) fun s => s.writeShaperCtl x value.toNat)

/-- POLICER_COMMIT (R204). -/
def execPolicerCommit (m : Master) (u : SubId) (value : Word) (s : State) : Host.Outcome State Fault Refusal :=
  done (s.begin.guard m (0x402 + u.val / 1024) fun s => s.writePolicerCtl u.val value.toNat)

/-! ### What directional sleep and Recovery make of a port that has something to send (R128, R129, R452) -/

/-- The state of directional sleep of a port. -/
def State.dsxNeg (s : State) (p : Nat) : Bool := s.flag (Fld.PORT_DSX_STATUS_NEG p)
def State.dsxTx (s : State) (p : Nat) : Nat := s.get (Fld.PORT_DSX_STATUS_TX p)
def State.dsxRx (s : State) (p : Nat) : Nat := s.get (Fld.PORT_DSX_STATUS_RX p)
def State.putTx (s : State) (p v : Nat) : State := s.put (Fld.PORT_DSX_STATUS_TX p) v
def State.putRx (s : State) (p v : Nat) : State := s.put (Fld.PORT_DSX_STATUS_RX p) v

/-- The sender starts the wake preamble (R129, R130). -/
def State.dsxWake (s : State) (p : Nat) : State :=
  if s.dsxTx p = 3 then (s.count (Ctr.PORT p 13) (s.now - (s.portX p).txSince)).putTx p 4 else s

/-- A flit for the direction: a sleeping one is woken, an entry not yet idle is abandoned (R128, R129). -/
def State.dsxFlit (s : State) (p : Nat) : State := if s.dsxTx p = 2 then s.putTx p 0 else s.dsxWake p

/-- A message may leave on a port now: its link is up, not in Recovery or L1, and its transmit direction does not sleep or wake (R129, R452). -/
def State.flows (s : State) (p : Nat) : Bool :=
  s.linkUp p && s.get (Fld.PORT_STATUS_LINK p) != 6 && s.get (Fld.PORT_STATUS_LINK p) != 8 && decide (s.dsxTx p < 3)

/-- The transmit queue for the link is empty (R128): no strand of the port holds a message, nor the privileged FIFO of its group one for it. -/
def State.txQueueEmpty (s : State) (p : Nat) : Bool :=
  !(s.fab.sw.strands.any fun e => e.1 / 32768 == p && !e.2.msgs.isEmpty) && !((mget [] s.fab.sw.priv (outputOf p)).any fun m => m.dst == p)

/-- Ports of a group that have something to send are woken (R129). -/
def State.wakeSenders (s : State) (g : Nat) : State :=
  (List.range 4).foldl (fun s j => if s.txQueueEmpty (4 * g + j) then s else s.dsxWake (4 * g + j)) s

/-! ### The scheduler (R173, R196 to R198) -/

/-- The CXL.io class of a message on S1: posted, non-posted, completion (R173). -/
def MsgKind.ioClass : MsgKind → Nat
  | .ioNp => 1
  | .cpl => 2
  | _ => 0

/-- May message b pass message a, sent earlier on the same strand, under the ordering rules of PCI Express (R173)? A posted request passes non-posted requests
and completions; nothing passes a posted request but under Relaxed Ordering or ID-Based Ordering; completions pass non-posted requests. (log 91, DEDUCED) -/
def mayPass (a b : Msg) : Bool :=
  match a.kind.ioClass, b.kind.ioClass with
  | 0, _ => b.relaxed || (b.idOrder && a.bus != b.bus)
  | 2, 2 => a.tag != b.tag || a.bus != b.bus
  | _, _ => true

/-- The first message of S1 whose class has credit and that may pass those it would overtake (R173). -/
def pickIo (free : Nat → Bool) : List SEntry → List SEntry → Option SEntry
  | _, [] => none
  | before, e :: rest =>
    if free e.msg.kind.ioClass && before.all (fun a => mayPass a.msg e.msg) then some e else pickIo free (before ++ [e]) rest

/-- Has the tile granted staging space for a service and class of a port? -/
def hasRoom (stalls : List Stall) (p svc cls : Nat) : Bool := !stalls.any fun x => x.port.val == p && x.svc.val == svc && x.cls.val == cls

/-- The message a strand would send next. -/
def State.strandHead (s : State) (stalls : List Stall) (p svc sub : Nat) : Option SEntry :=
  let st := s.strand p svc sub
  if svc = 1 then pickIo (hasRoom stalls p svc) [] st.msgs
  else if hasRoom stalls p svc 0 then st.msgs.head? else none

/-- A subscriber shaper as it stood at the start of the hub core cycle (R202). -/
def State.bucketAtStart (s : State) (u : Nat) : Bucket :=
  let b := s.subBucket u
  match assoc s.fab.sw.start u with
  | some x => { b with count := x.1 }
  | none => b

/-- Does the subscriber shaper let a message of the service go (R196, R201, R202)? -/
def State.subAllows (s : State) (sub svc l : Nat) : Bool :=
  let b := s.bucketAtStart sub
  !b.holds svc || b.allows l

/-- The quantum of a strand (R196). (log 260, DEDUCED) -/
def State.leafQuantum (s : State) (svc sub : Nat) : Nat := if svc = 4 || svc = 5 then 256 else 256 * s.get (Fld.LEAF_WEIGHT (8 * sub + svc))

/-- Deficit-weighted round robin over an active list (R196): `head` tells the length of an entry's next message when it is eligible. The entry chosen stays at the head,
its deficit reduced. -/
def roundRobin (head : Nat → Option Nat) (quantum : Nat → Nat) : Nat → List Active → Option (List Active × Nat)
  | 0, _ => none
  | _ + 1, [] => none
  | f + 1, a :: l =>
    match head a.key with
    | none => roundRobin head quantum f (l ++ [{ a with served := false }])
    | some n =>
      let d := if a.served then a.deficit else a.deficit + quantum a.key
      if n ≤ d then some ({ a with deficit := d - n, served := true } :: l, a.key)
      else roundRobin head quantum f (l ++ [{ a with deficit := d, served := false }])

/-- The strand a service node chooses: its new active list and the message. -/
def State.pickStrand (s : State) (stalls : List Stall) (p svc : Nat) : Option (List Active × SEntry) :=
  let l := (mget SvcNode.empty s.fab.sw.nodes (8 * p + svc)).active
  let head := fun sub =>
    match s.strandHead stalls p svc sub with
    | some e => if s.subAllows sub svc e.msg.len then some e.msg.len else none
    | none => none
  match roundRobin head (s.leafQuantum svc) (4 * l.length + 4) l with
  | some (l, sub) => (s.strandHead stalls p svc sub).map fun e => (l, e)
  | none => none

/-- What a port node chooses (R197): its services' new active list, the service, the service node's new active list, and the message. The node is not eligible while the port shaper
holds the message it has chosen, but for S4 and S5 (R201). -/
def State.pickPort (s : State) (stalls : List Stall) (p : Nat) : Option (List Active × Nat × List Active × SEntry) :=
  let l := mget [] s.fab.sw.ports p
  match s.pickStrand stalls p 5 with
  | some (n, e) => some (l, 5, n, e)
  | none =>
    match s.pickStrand stalls p 4 with
    | some (n, e) => some (l, 4, n, e)
    | none =>
      let head := fun svc => (s.pickStrand stalls p svc).map fun r => r.2.msg.len
      match roundRobin head (fun svc => 256 * s.get (Fld.SVC_NODE_WEIGHT p svc)) (4 * l.length + 4) l with
      | some (l, svc) =>
        match s.pickStrand stalls p svc with
        | some r => if (s.portBucket p).allows r.2.msg.len then some (l, svc, r.1, r.2) else none
        | none => none
      | none => none

/-- The port a group chooses (R198). -/
def State.pickGroup (s : State) (stalls : List Stall) (g : Nat) : Option (Nat × List Active × Nat × List Active × SEntry) :=
  let first := mget 0 s.fab.sw.groups g
  let c := (List.range 4).filterMap fun i =>
    let p := 4 * g + (first + i) % 4
    if s.flows p then (s.pickPort stalls p).map fun r => (p, r) else none
  match c.find? (fun x => rankOf x.2.2.1 == 0) with
  | some x => some x
  | none =>
    match c.find? (fun x => rankOf x.2.2.1 == 1) with
    | some x => some x
    | none => c.head?

/-- The message as it leaves: with its tracker tag (R150). -/
def State.onLink (s : State) (m : Msg) : Msg :=
  match m.kind.trackClass, m.slot with
  | some c, some k => { m with tag := s.trackTag m.dst c m.gen k }
  | _, _ => m

/-- Can a message carry poison (R187)? -/
def MsgKind.canPoison (k : MsgKind) : Bool := k.hasLine || k == .ioPosted || k == .cpl

/-- A message that the scheduler has chosen is charged to the shapers (R201). What a subscriber shaper held at the start of the cycle stays in view of the other outputs (R202). -/
def State.charge (s : State) (m : Msg) : State :=
  let b := s.subBucket m.sub
  let s := if b.holds m.svc then
      s.modSw fun w =>
        { w with subBkt := mput Bucket.off w.subBkt m.sub (b.charge m.len),
                 start := assocPut w.start m.sub (match assoc w.start m.sub with | some x => (x.1, x.2 + m.len) | none => (b.count, m.len)) }
    else s
  s.modSw fun w => { w with portBkt := mput Bucket.off w.portBkt m.dst ((s.portBucket m.dst).charge m.len) }

/-- A message leaves a port: an entry into sleep not yet idle is abandoned (R128), counters, its beats on Ehrurn, output (R181, R214, R418). (log 229, DEDUCED) -/
def State.transmit (s : State) (m : Msg) : State :=
  (((((s.dsxFlit m.dst).count (Ctr.PORT m.dst (16 + m.svc))).count (Ctr.PORT m.dst 3) m.slotBytes).count (Ctr.SUB m.sub 3) m.len).count (Ctr.SUB m.sub 4)).needBeats m
    |>.emit (.tx m.dst (s.onLink m))

/-- Free the tracker slot of a message that is discarded and answered. -/
def State.freeSlotOf (s : State) (m : Msg) : State :=
  match m.kind.trackClass, m.slot with
  | some c, some k => s.setSlots m.dst c (assocDel (s.slots m.dst c) k)
  | _, _ => s

/-- A message whose data are lost is poisoned, or discarded and answered (R187). -/
def State.loseData (s : State) (m : Msg) : State × Option Msg :=
  let s := s.raise Evt.BUF_CELL_POISON
  let s := match m.vcs with
    | some v => s.aerFault v
    | none => s
  if m.kind.canPoison then (s, some { m with poison := true })
  else ((s.freeSlotOf m).answerFlushed m, none)

/-- The effect of an error found as a message is read (R187, R366): the message as it goes on, or none where it is discarded. A corrected cell error whose message the collector
escalates takes the containment of an uncorrectable one (R353). (log 244, DEDUCED) -/
def State.coreError (s : State) (m : Msg) : CoreError → State × Option Msg
  | .clean | .refcnt | .xbarParity | .hdrUe | .listUe => (s, some m)
  | .cellCe =>
    let f := s.message Kind.CELL_CE 0 0x31 0 8 Party.none none
    let t := s.sendFault f
    if s.escalates f (s.isAfterStop f) then t.loseData m else (t, some m)
  | .listCe => (s.sendFault (s.message Kind.LIST_CE 0 0x31 0 8 Party.none none), some m)
  | .cellUe => (s.sendFault (s.message Kind.CELL_UE 1 0x31 0 8 (Party.sub m.sub) none)).loseData m

/-- The fatal errors of the core (R187). -/
def CoreError.fatalKind : CoreError → Option (Nat × Nat)
  | .hdrUe => some (Kind.HDR_UE, 0x31)
  | .listUe => some (Kind.LIST_UE, 0x31)
  | .refcnt => some (Kind.REFCNT, 0x32)
  | .xbarParity => some (Kind.XBAR_PARITY, 0x30)
  | _ => none

/-- The scheduler's choice is read from the buffer: its cells are released as their last granule is read (R167), active lists and rotation move on. -/
def State.dequeue (s : State) (g : Nat) (err : CoreError) (x : Nat × List Active × Nat × List Active × SEntry) : State :=
  let (p, ports, svc, node, e) := x
  let k := strandKey p svc e.msg.sub
  let st := s.strand p svc e.msg.sub
  let s := s.modSw fun w =>
    let n := mget SvcNode.empty w.nodes (8 * p + svc)
    { w with nodes := mput SvcNode.empty w.nodes (8 * p + svc) { n with active := node }, ports := mput [] w.ports p ports,
             groups := mput 0 w.groups g ((mget 0 w.groups g + 1) % 4) }
  let left := { st with msgs := st.msgs.erase e }
  let s := (((s.setStrand k left.release).freeCells left.freed).unref e.mc.toList).deactivate.charge e.msg
  match s.coreError e.msg err with
  | (s, some m) => s.transmit m
  | (s, none) => s

/-- The output of port group g sends its next message (R178): from its privileged FIFO, else the scheduler's choice. A message for a port in Recovery, or whose direction sleeps, waits
(R129, R452). -/
def State.serveGroup (s : State) (g : Nat) (stalls : List Stall) (err : CoreError) : State :=
  match err.fatalKind with
  | some (k, pg) => s.fatal (s.message k 2 pg 0 8 Party.none none)
  | none =>
    let s := s.wakeSenders g
    match mget [] s.fab.sw.priv g with
    | m :: rest =>
      if s.linkUp m.dst && !s.flows m.dst then s
      else
      let s := (s.modSw fun w => { w with priv := mput [] w.priv g rest }).dsxFlit m.dst
      (((s.count (Ctr.PORT m.dst (16 + m.svc))).count (Ctr.PORT m.dst 3) m.slotBytes).needBeats m).emit (.tx m.dst m)
    | [] =>
      match s.pickGroup stalls g with
      | some x => s.dequeue g err x
      | none => s

/-- An output decides in the hub core cycle under way, where it has not yet decided in it, or in a new one (R202). -/
def State.inCycle (s : State) (same : Bool) (g : Nat) : State :=
  s.modSw fun w => if same && !w.chosen.contains g then { w with chosen := w.chosen ++ [g] } else { w with start := [], chosen := [g] }

/-- SCHEDULER_DEQUEUE (R198, R202): `same` tells that the output decides in the cycle of the decision before, `stalls` names what the tile has granted no staging space for, `err` what
the storage checks find. -/
def execSchedulerDequeue (g : Pg) (same : Bool) (stalls : List Stall) (err : CoreError) (s : State) : Host.Outcome State Fault Refusal :=
  done (s.begin.whenFabric fun s => (s.inCycle same g.val).serveGroup g.val stalls err)

/-- SHAPE_HOLD_TIMEOUT (R214): a message has waited 1 µs at the head of its strand for a shaper; the hold is counted for the subscriber or the port. (log 92, DEDUCED) -/
def execShapeHoldTimeout (p : Port) (svc : Svc) (u : SubId) (s : State) : Host.Outcome State Fault Refusal :=
  done (s.begin.whenFabric fun s =>
    match (s.strand p.val svc.val u.val).msgs.head? with
    | none => s
    | some e =>
      if !s.subAllows u.val svc.val e.msg.len then (s.count (Ctr.SUB u.val 5)).raise Evt.SCHED_SHAPE_HOLD
      else if svc.val != 4 && svc.val != 5 && !(s.portBucket p.val).allows e.msg.len then (s.count (Ctr.PORT p.val 24)).raise Evt.SCHED_SHAPE_HOLD
      else s)

/-! ### Privileged fan-out (R177, R224) -/

/-- A snoop passes to the tile of its target port, which records the line; a write waiting there whose line is now recorded moves to the write-back class (R224). A table of 256 entries that is full records no more. (log 186, DEDUCED) -/
def State.recordSnoop (s : State) (m : Msg) : State :=
  if m.homeSnoop && m.dpid.isNone && decide ((mget [] s.fab.sw.snoops m.dst).length < 256) then
    s.modSw fun w =>
      { w with snoops := mput [] w.snoops m.dst (mget [] w.snoops m.dst ++ [{ tag := m.tag, home := m.spid, line := m.addr / 64, back := false }]),
               waiting := w.waiting.map fun x => if x.src == m.dst && x.kind.isMemWrite && x.addr / 64 == m.addr / 64 then { x with writeBack := true } else x }
  else s

/-- One message enters the privileged FIFO of its target's output; one for a port that is down or held is discarded (R177). -/
def State.pushPriv (s : State) (m : Msg) : State :=
  let o := outputOf m.dst
  if m.dst < 64 && !s.linkUp m.dst then s
  else
    let s := s.modSw fun w => { w with priv := mput [] w.priv o (mget [] w.priv o ++ [m]) }
    let s := if s.get Fld.XBAR_PRIV_HWM < (mget [] s.fab.sw.priv o).length then s.put Fld.XBAR_PRIV_HWM (mget [] s.fab.sw.priv o).length else s
    s.recordSnoop m

/-- Every target output has a privileged credit (R177). -/
def State.hasCredits (s : State) (l : List Msg) : Bool :=
  l.all fun m => decide ((mget [] s.fab.sw.priv (outputOf m.dst)).length + (l.filter fun x => outputOf x.dst == outputOf m.dst).length ≤ 128)

/-- PRIV_FANOUT (R177): the oldest fan-out IEP0 presents is written into every target's FIFO in one cycle, or held for lack of credit. -/
def execPrivFanout (s : State) : Host.Outcome State Fault Refusal :=
  done (s.begin.whenFabric fun s =>
    match s.fab.sw.fan with
    | [] => s
    | l :: rest =>
      if s.hasCredits l then l.foldl State.pushPriv (s.modSw fun w => { w with fan := rest })
      else (s.count (Ctr.CORE 8 3)).raise Evt.XBAR_PRIV_STALL)

/-! ### Clears -/

/-- XBAR_PRIV_CLEAR (R188): a write of any value. -/
def execXbarPrivClear (m : Master) (_value : Word) (s : State) : Host.Outcome State Fault Refusal :=
  done (s.begin.guard m 0x30 fun s => s.put Fld.XBAR_PRIV_HWM 0)

/-- BUF_LOW_WATER_LOAD (R189): a write of any value loads the current F. -/
def execBufLowWaterLoad (m : Master) (_value : Word) (s : State) : Host.Outcome State Fault Refusal :=
  done (s.begin.guard m 0x31 fun s => s.put Fld.BUF_LOW_WATER_CELLS s.sharedFree)

end Sys2Proof.Machine
end

