-- ==== Sys2Proof/Machine/Hat.lean ====
section
/-! DEFINITION. Sys2Proof/Machine/Hat.lean: protection: rules and their check (R274 to R278), rule faults (R275, R276), commits (R280 to R283), spoof checks (R284, R285)
and their commands. -/
namespace Sys2Proof.Machine
open Sys2Proof

/-! ### Rules (R277, R278, R301) -/

/-- Field of RULE_CTL, BASE and owners of rule n in a bank. -/
def ruleCtl (bank : List (Nat × Word)) (n lo width : Nat) : Nat := bitsOf (sparseGet resetWord bank (Addr.RULE_CTL n)).toNat lo width
def ruleBase (bank : List (Nat × Word)) (n : Nat) : Nat :=
  (sparseGet resetWord bank (Addr.RULE_BASE_LO n)).toNat + 2 ^ 32 * (sparseGet resetWord bank (Addr.RULE_BASE_HI n)).toNat
/-- Owner k of rule n, and whether it is valid. -/
def ruleOwner (bank : List (Nat × Word)) (n k : Nat) : Nat × Bool :=
  let w := (sparseGet resetWord bank (Addr.RULE_OWN n (k / 2))).toNat
  (bitsOf w (16 * (k % 2)) 12, bitsOf w (16 * (k % 2) + 15) 1 == 1)

/-- Subscriber u is an owner of rule n. -/
def ruleOwns (bank : List (Nat × Word)) (n u : Nat) : Bool :=
  if ruleCtl bank n 5 1 = 1 then decide ((ruleOwner bank n 0).1 ≤ u) && decide (u ≤ (ruleOwner bank n 1).1)
  else (List.range 8).any fun k => (ruleOwner bank n k).2 && (ruleOwner bank n k).1 == u

/-- Rule n matches an access by subscriber u at address a in address space sp (R278). -/
def ruleMatches (bank : List (Nat × Word)) (n u sp a : Nat) : Bool :=
  let size := ruleCtl bank n 16 6
  let b := ruleBase bank n
  ruleCtl bank n 0 1 == 1 && ruleCtl bank n 6 2 == sp && ruleOwns bank n u && decide (b ≤ a) && decide (a < b + 2 ^ (12 + size))
    && bitsOf (ruleCtl bank n 8 8) ((a - b) / 2 ^ (9 + size)) 1 == 0

/-- Rules of a bank that hold anything in RULE_CTL, highest number first. -/
def rulesOf (bank : List (Nat × Word)) : List Nat :=
  ((bank.filter fun e => e.1 / 0x10000 / 64 == 0x14 && e.1 % 64 == 0).map fun e => (e.1 - 0x5000000) / 64).reverse

/-- The rule that decides an access: the matching one with the highest number (R278). -/
def decidingRule (bank : List (Nat × Word)) (u sp a : Nat) : Option Nat := (rulesOf bank).find? fun n => ruleMatches bank n u sp a

/-- Permission bits of RULE_CTL[4:1]: R, W, CS, MV. -/
def Perm.r : Nat := 1
def Perm.w : Nat := 2
def Perm.cs : Nat := 4
def Perm.mv : Nat := 8

/-- An access passes when the deciding rule grants every permission it needs (R274, R278). -/
def ruleGrants (bank : List (Nat × Word)) (u sp a need : Nat) : Bool :=
  match decidingRule bank u sp a with
  | some n => ruleCtl bank n 1 4 &&& need == need
  | none => false

/-- The bank a tile uses, and the hub's (tile 4), after and before its swap (R281). -/
def State.bank (s : State) (t : Nat) : List (Nat × Word) := if s.fab.hat.tilesOld.contains t then s.fab.hat.old else s.fab.hat.active

/-- The epoch under which tile t checks an access (R281). -/
def State.ruleEpoch (s : State) (t : Nat) : Nat :=
  let e := s.get Fld.HAT_STATUS_EPOCH
  if s.fab.hat.tilesOld.contains t then (e + 65535) % 65536 else e

/-- Permissions a CXL.mem request needs; none where stage 4 does not check it (R274). -/
def Msg.needs (m : Msg) : Option Nat :=
  let cs := if m.mv = .s || m.mv = .a then Perm.cs else 0
  match m.kind with
  | .memRd | .memRdData | .memSpecRd | .memInv | .memInvNT => some (Perm.r + cs)
  | .memWr | .memWrPtl => some (Perm.w + cs)
  | _ => none

/-- Enabled shadow entries that fail validation, in order (R280). -/
def State.badRules (s : State) : List Nat :=
  let bank := s.regs
  ((rulesOf bank).filter fun n =>
    let size := ruleCtl bank n 16 6
    ruleCtl bank n 0 1 == 1 &&
      (ruleBase bank n % 2 ^ (12 + size) != 0 || decide (34 < size) || ruleCtl bank n 6 2 == 3
        || (ruleCtl bank n 5 1 == 1 && decide ((ruleOwner bank n 1).1 < (ruleOwner bank n 0).1))
        || (ruleCtl bank n 5 1 == 0 && (List.range 8).all fun k => !(ruleOwner bank n k).2))).reverse

/-! ### Policy events (R275, R276, R285, R300) -/

/-- First-error capture of the HAT page (R300). -/
def State.captureHat (s : State) (addr kind access field sub port vf : Nat) : State :=
  if s.flag (Fld.ERR_FIRST_ATYPE_VALID 0x50) then s
  else
    ((((s.put (Fld.ERR_FIRST_ADDR_LO_ADDR 0x50) addr).put (Fld.ERR_FIRST_ADDR_HI_ADDR 0x50) (addr / 2 ^ 32)).setWord (Addr.ERR_FIRST_MASTER 0x50)
      (BitVec.ofNat 32 (sub % 4096 + port % 64 * 2 ^ 12 + vf % 256 * 2 ^ 18))).setWord (Addr.ERR_FIRST_ATYPE 0x50)
      (BitVec.ofNat 32 (kind + access * 2 ^ 4 + field * 2 ^ 8 + 2 ^ 31))).put64 (Addr.ERR_FIRST_TS_LO 0x50) s.now

/-- ACCESS code of a message (R300). -/
def Msg.access (m : Msg) : Nat :=
  if m.kind.isMemWrite then 1
  else if m.kind.isMem then 0
  else if m.kind == .ioPosted then 3
  else if m.kind.isAnswer then 7
  else 2

/-- A rule fault is counted, captured, raised and reported to the host (R275). -/
def State.ruleFault (s : State) (m : Msg) (port : Nat) : State :=
  let mine := m.src == 66
  let access := if !mine then m.access else if m.kind.isMemWrite then 5 else 4
  let s := ((s.count (Ctr.SUB m.sub 6)).captureHat m.addr 1 access 0 m.sub (if mine then 63 else port) (if mine then m.vf.getD 0 else 0)).raise Evt.HAT_RULE_FAULT
  match m.vcs with
  | some v => if mine then s else s.aerFault v
  | none => s

/-- The answers of a rule fault (R275): those of the flush outcomes table for CXL.mem, Completer Abort for CXL.io. -/
def Msg.faulted (m : Msg) : List Msg :=
  if m.kind == .ioNp || m.kind == .cfgReq then [m.answer .cpl 4] else if m.kind == .ioPosted then [] else m.flushed

/-- A request that fails at stage 3 or 4 is answered as a rule fault (R275, R454). -/
def State.failRule (s : State) (m : Msg) (port : Nat) : State := m.faulted.foldl State.queueMsg (s.ruleFault m port)

/-- A message that fails a spoof check is discarded, counted, raised and captured with ADDR 0 (R285). -/
def State.spoof (s : State) (port field : Nat) (m : Msg) : State :=
  ((s.count (Ctr.SPOOF port field)).captureHat 0 2 m.access field m.sub port 0).raise Evt.HAT_SPOOF

/-! ### Commit (R280 to R283) -/

/-- Write a word of a shadow entry (R280, R283). (log 278, DEDUCED) -/
def State.writeRule (s : State) (n : Nat) (w : RuleWord) : State :=
  if !s.isActive then s
  else if !s.flag Fld.HAT_STATUS_COMMIT_DONE then s.raise Evt.HAT_WRITE_IGNORED
  else
    match w with
    | .ctl v => s.setWord (Addr.RULE_CTL n) (v &&& 0x003FFFFF)
    | .base v => (s.setWord (Addr.RULE_BASE_LO n) (v.setWidth 32 &&& 0xFFFFF000)).setWord (Addr.RULE_BASE_HI n) ((v >>> 32).setWidth 32 &&& 0x000FFFFF)
    | .own k v => s.setWord (Addr.RULE_OWN n k.val) (v &&& 0x8FFF8FFF)

/-- The accesses of an old epoch that have not retired (R282). -/
def State.oldMsgs (s : State) : List Msg :=
  let old := fun (m : Msg) => match m.epoch with | some e => e != s.get Fld.HAT_STATUS_EPOCH | none => false
  (s.caught fun _ m => old m) ++ (mget [] s.fab.sw.iep 0).filter old ++ (mget [] s.fab.sw.iep 1).filter old ++ s.fab.home.queue.filter old ++ s.fab.home.lookups.filter old
    ++ (s.fab.dlog.waiting.map (·.1)).filter old
    ++ s.fab.home.txns.filterMap fun t => match t.kind with | .request m => if !t.forwarded && !t.answered && old m then some m else none | _ => none

/-- COMMIT_DONE sets when every copy has swapped, no old-epoch access remains and the refill is complete (R282). (log 98, DEDUCED) -/
def State.retireEpoch (s : State) : State :=
  if !s.flag Fld.HAT_STATUS_COMMIT_DONE && s.fab.hat.refilled && s.fab.hat.tilesOld.isEmpty && s.oldMsgs.isEmpty then
    (s.put Fld.HAT_STATUS_COMMIT_DONE 1).raise Evt.HAT_COMMIT_DONE
  else s

/-- The words of rule n in a bank. -/
def ruleWords (bank : List (Nat × Word)) (n : Nat) : List Nat := tabulate 16 fun k => (sparseGet resetWord bank (0x5000000 + 64 * n + 4 * k)).toNat

/-- Rules that differ between two banks. -/
def changedRules (a b : List (Nat × Word)) : List Nat :=
  ((rulesOf a ++ rulesOf b).eraseDups).filter fun n => decide (ruleWords a n ≠ ruleWords b n)

/-- The rule entries of the register space. -/
def State.shadow (s : State) : List (Nat × Word) := s.regs.filter fun e => e.1 / 0x10000 / 64 == 0x14

/-- RULE_COMMIT written 1 (R281, R309). -/
def State.commitRules (s : State) : State :=
  if !s.isActive || !s.flag Fld.HAT_STATUS_COMMIT_DONE then s.raise Evt.HAT_WRITE_IGNORED
  else if !s.badRules.isEmpty then (s.put Fld.HAT_STATUS_REFUSED 1).raise Evt.HAT_COMMIT_REFUSED
  else
    let was := s.fab.hat.active
    let now := s.shadow
    let e := (s.get Fld.HAT_STATUS_EPOCH + 1) % 65536
    let s := s.modHat fun h => { h with active := now, old := was, tilesOld := [0, 1, 2, 3], refilled := false }
    let s := s.puts [(Fld.HAT_STATUS_COMMIT_DONE, 0), (Fld.HAT_STATUS_REFUSED, 0), (Fld.HAT_STATUS_EPOCH, e)]
    s.issue 17 (.commit e false ((changedRules now was).map fun n => (n, ruleWords now n)))

/-- HAT_RULE_WRITE (R280). -/
def execHatRuleWrite (m : Master) (n : Rule) (w : RuleWord) (s : State) : Host.Outcome State Fault Refusal :=
  done (s.begin.guard m (0x500 + n.val / 1024) fun s => s.writeRule n.val w)

/-- HAT_COMMIT (R281). -/
def execHatCommit (m : Master) (value : Word) (s : State) : Host.Outcome State Fault Refusal :=
  done (s.begin.guard m 0x50 fun s => if value.toNat % 2 = 1 then s.commitRules else s)

/-- HAT_TILE_SWAP (R281): tile t uses the new bank. -/
def execHatTileSwap (t : Tile) (s : State) : Host.Outcome State Fault Refusal :=
  done (s.begin.whenFabric fun s => s.modHat fun h => { h with tilesOld := h.tilesOld.filter fun x => x != t.val })

/-- HAT_REFILL_DONE (R281). -/
def execHatRefillDone (s : State) : Host.Outcome State Fault Refusal :=
  done (s.begin.whenFabric fun s => (s.modHat fun h => { h with refilled := true }).retireEpoch)

/-- OLD_EPOCH_RETIRE (R282). -/
def execOldEpochRetire (s : State) : Host.Outcome State Fault Refusal := done (s.begin.whenFabric State.retireEpoch)

/-- An old-epoch access is aborted (R282): answered as a rule fault, counted, and its tracker slot freed; it is not reported through AER. (log 99, DEDUCED) -/
def State.abortAccess (s : State) (m : Msg) : State :=
  let s := ((s.freeSlotOf m).count (Ctr.SUB m.sub 7)).addSat Fld.HAT_ABORTS_COUNT 1
  (m.faulted.foldl State.queueMsg s).raise Evt.HAT_COMMIT_ABORT

/-- HAT_COMMIT_TIMEOUT (R282): 20 µs after the commit every old-epoch access that has not retired is aborted. -/
def execHatCommitTimeout (s : State) : Host.Outcome State Fault Refusal :=
  done (s.begin.whenFabric fun s =>
    if s.flag Fld.HAT_STATUS_COMMIT_DONE then s
    else
      let l := s.oldMsgs
      let s := s.unlink fun _ m => l.contains m
      let s := [0, 1].foldl (fun s k => s.modSw fun w => { w with iep := mput [] w.iep k ((mget [] w.iep k).filter fun m => !l.contains m) }) s
      let s := s.modHome fun h =>
        { h with queue := h.queue.filter (fun m => !l.contains m), lookups := h.lookups.filter (fun m => !l.contains m),
                 txns := h.txns.map fun t => match t.kind with | .request m => if !t.forwarded && !t.answered && l.contains m then { t with kind := .aborted } else t | _ => t }
      let s := { s with fab := { s.fab with dlog := { s.fab.dlog with waiting := s.fab.dlog.waiting.filter fun x => !l.contains x.1 } } }
      let s := l.foldl State.abortAccess s
      (s.modHat fun h => { h with tilesOld := [], refilled := true }).retireEpoch)

/-! ### Spoof checks (R284) -/

/-- The vPPB bound to a port and LD (R161). -/
def State.boundVppb (s : State) (p ld : Nat) : Option Nat :=
  if s.flag (Fld.LD_STATE_BOUND (16 * p + ld)) then some (s.get (Fld.LD_STATE_VPPB (16 * p + ld))) else none

/-- Host-programmed values of a vPPB. -/
def State.vppbCfg (s : State) (n : Nat) : VppbCfg := mget VppbCfg.reset s.fab.sw.vcfg n

/-- A port holds an MLD (R145). -/
def State.isMld (s : State) (p : Nat) : Bool := (assoc s.fab.sw.mlds p).isSome

/-- The SPOOF field a message arriving on a port fails, if any (R284). -/
def State.spoofField (s : State) (p : Nat) (m : Msg) : Option Nat :=
  let isl := s.roleIs p 2
  let usp := s.roleIs p 0
  let cfg := ((s.boundVppb p m.ld).map s.vppbCfg).getD VppbCfg.reset
  if isl then
    match m.spid with
    | some i =>
      if s.flag (Fld.SWARM_RT_V i) && !s.flag (Fld.SWARM_RT_LOCAL i)
          && (s.get (Fld.SWARM_RT_ISL0 i) == p || (s.flag (Fld.SWARM_RT_ISL1_V i) && s.get (Fld.SWARM_RT_ISL1 i) == p)) then none
      else some 1
    | none => some 1
  else if m.spid.isSome || m.dpid.isSome then some 1
  else if s.isMld p && !usp && !s.flag (Fld.LD_STATE_PRESENT (16 * p + m.ld)) then some 2
  else if m.ld ≠ 0 && (usp || !s.isMld p) then some 2
  else if usp then none
  else if m.kind == .d2hReq || m.kind == .d2hRsp || m.kind == .d2hData then (if cfg.cacheId = some m.cacheId then none else some 3)
  else if (m.kind == .ioNp || m.kind == .ioPosted || m.kind == .cfgReq || m.kind == .mctp)
      && !(decide (cfg.busLo ≤ m.bus) && decide (m.bus ≤ cfg.busHi)) then some 4
  else none

end Sys2Proof.Machine
end

