-- ==== Sys2Proof/Machine/Dlog.lean ====
section
/-! DEFINITION. Sys2Proof/Machine/Dlog.lean: dirty logs (R17, R295 to R299, R303): marks, the dirty-log cache, enables and harvests, and their commands. -/
namespace Sys2Proof.Machine
open Sys2Proof

def State.modDlog (s : State) (f : Dlog → Dlog) : State := { s with fab := { s.fab with dlog := f s.fab.dlog } }

/-- BASE of a log (R303). -/
def State.logBase (s : State) (n : Nat) : Nat := s.get (Fld.LOG_BASE_LO_BASE n) / 2 ^ 21 * 2 ^ 21 + 2 ^ 32 * (s.get (Fld.LOG_BASE_HI_BASE n) % 2 ^ 20)

/-- First line of a log's bitmap in the partition. -/
def State.logFirst (s : State) (n : Nat) : Nat := 1024 * s.get (Fld.LOG_OFF_OFF n)

/-- Does log n mark a write (R296)? (log 267, DEDUCED) -/
def State.logMarks (s : State) (n : Nat) (m : Msg) : Bool :=
  let owner := s.get (Fld.LOG_CFG_OWNER n)
  let mine := if s.flag (Fld.LOG_CFG_KIND n) then m.vf == some (owner % 256)
    else m.sub == owner && m.vcs == some (s.get (Fld.LOG_CFG_VCS n))
  s.flag (Fld.LOG_CFG_EN n) && s.flag (Fld.LOG_STATUS_ACTIVE n) && mine && decide (s.logBase n ≤ m.addr)
    && decide (m.addr < s.logBase n + 2 ^ 21 * s.get (Fld.LOG_LINES_LINES n))

/-- The logs that mark a write, with the partition line and the bit of its page. -/
def State.logsOf (s : State) (m : Msg) : List (Nat × Nat × Nat) :=
  if !m.kind.isMemWrite then []
  else ((List.range 64).filter fun n => s.logMarks n m).map fun n =>
    (n, s.logFirst n + (m.addr - s.logBase n) / 2 ^ 21, (m.addr - s.logBase n) / 4096 % 512)

/-- A line can be marked at once: it is cached, or its touch bit is clear so that no data is fetched (R297). -/
def State.lineReady (s : State) (l : Nat) : Bool := s.fab.dlog.cache.contains l || !s.fab.dlog.touch.contains l

/-- A line enters the cache as the most recent: 4,096 lines in sets of 16 ways, of which the set's oldest is written back when a set has more (R297). (log 97, DEDUCED) -/
def cacheLine (c : List Nat) (l : Nat) : List Nat :=
  let c := c.filter (fun x => x != l) ++ [l]
  if c.length ≤ 16 then c
  else
    let mine := c.filter fun x => Config.dlogSet x % 256 == Config.dlogSet l % 256
    if mine.length ≤ 16 then c else c.erase (mine.headD l)

/-- Contents of a line: zeros while its touch bit is clear (R297). -/
def State.lineBits (s : State) (l : Nat) : Nat := if s.fab.dlog.touch.contains l then mget 0 s.fab.dlog.lines l else 0

/-- Write a line and set its touch bit. -/
def State.setLine (s : State) (l v : Nat) : State :=
  s.modDlog fun d => { d with lines := mput 0 d.lines l v, touch := if d.touch.contains l then d.touch else d.touch ++ [l], cache := cacheLine d.cache l }

/-- Set the bit of a page in one log. -/
def State.markPage (s : State) (n l b : Nat) : State := (s.setLine l (s.lineBits l ||| 2 ^ b)).count (Ctr.MOVER (64 + n) 0)

/-- Forward a write from the hub: its dirty-log bits are set before (R17); a write whose line must be fetched waits. `orig` is the write as its subscriber issued it, `m`
as it goes on. -/
def State.sendLogged (s : State) (orig m : Msg) : State :=
  let l := s.logsOf orig
  if l.all fun x => s.lineReady x.2.1 then (l.foldl (fun s x => s.markPage x.1 x.2.1 x.2.2) s).queueMsg m
  else s.modDlog fun d => { d with waiting := d.waiting ++ [(orig, m)] }

/-- Retry the writes that wait, in order. -/
def State.retryLogged (s : State) : State :=
  let l := s.fab.dlog.waiting
  l.foldl (fun s x => s.sendLogged x.1 x.2) (s.modDlog fun d => { d with waiting := [] })

/-- DLOG_LINE_FETCH_DONE (R266, R297): a line that a write waits for is in the cache. -/
def execDlogLineFetchDone (line : Nat) (s : State) : Host.Outcome State Fault Refusal :=
  done (s.begin.whenFabric fun s =>
    let logs := (s.fab.dlog.waiting.flatMap fun x => s.logsOf x.1).filter fun y => y.2.1 == line
    match logs.head? with
    | none => s
    | some y => ((s.modDlog fun d => { d with cache := cacheLine d.cache line }).count (Ctr.MOVER (64 + y.1) 2)).retryLogged)

/-- Size of the dirty-log partition in lines (R249). -/
def State.dlogLines (s : State) : Nat := 2 ^ 20 * bitsOf (s.get Fld.COMB_PART_ACT_SIZES) 4 6

/-- Checks of a log enable (R303), on the fields as they would be. (log 268, DEDUCED) -/
def State.logOk (s : State) (n : Nat) : Bool :=
  let lines := s.get (Fld.LOG_LINES_LINES n)
  let first := s.logFirst n
  let vcs := if s.flag (Fld.LOG_CFG_KIND n) then s.get (Fld.VF_CFG_VCS (s.get (Fld.LOG_CFG_OWNER n) % 256)) else s.get (Fld.LOG_CFG_VCS n)
  s.flag Fld.DLOG_CFG_EN && decide (lines ≠ 0) && decide (first + lines ≤ s.dlogLines) && s.flag (Fld.VCS_ENTRY_CFG_EN vcs)
    && (!s.flag (Fld.LOG_CFG_KIND n) || (s.flag (Fld.VF_CFG_EN (s.get (Fld.LOG_CFG_OWNER n) % 256)) && s.get (Fld.VF_CFG_KIND (s.get (Fld.LOG_CFG_OWNER n) % 256)) == 1))
    && (List.range 64).all fun k => k == n || !s.flag (Fld.LOG_CFG_EN k)
      || decide (s.logFirst k + s.get (Fld.LOG_LINES_LINES k) ≤ first) || decide (first + lines ≤ s.logFirst k)

/-- A write of LOG_CFG (R297, R303): while EN = 1 only EN is taken; EN = 1 is checked and starts the clearing of the touch bits. (log 96, DEDUCED) -/
def State.writeLogCfg (s : State) (n v : Nat) : State :=
  let en := bitsOf v 0 1 == 1
  if s.flag (Fld.LOG_CFG_EN n) then (if en then s else (s.put (Fld.LOG_CFG_EN n) 0).put (Fld.LOG_STATUS_ACTIVE n) 0)
  else
    let s' := s.puts [(Fld.LOG_CFG_KIND n, bitsOf v 1 1), (Fld.LOG_CFG_VCS n, bitsOf v 2 6), (Fld.LOG_CFG_OWNER n, bitsOf v 8 12),
      (Fld.LOG_CFG_HVCS n, bitsOf v 20 6), (Fld.LOG_CFG_HACC n, bitsOf v 26 1)]
    if !en then s'
    else if s.isActive && s'.logOk n then (s'.put (Fld.LOG_CFG_EN n) 1).put (Fld.LOG_STATUS_ACTIVE n) 0
    else s.raise Evt.DLOG_CFG_IGNORED

/-- DLOG_ENABLE (R297). -/
def execDlogEnable (m : Master) (n : Log) (value : Word) (s : State) : Host.Outcome State Fault Refusal :=
  done (s.begin.guard m 0x91 fun s => s.writeLogCfg n.val value.toNat)

/-- DLOG_ACTIVE (R297): the touch bits of the log's bitmap are clear, and the log marks. -/
def execDlogActive (n : Log) (s : State) : Host.Outcome State Fault Refusal :=
  done (s.begin.whenFabric fun s =>
    if s.flag (Fld.LOG_CFG_EN n.val) && !s.flag (Fld.LOG_STATUS_ACTIVE n.val) then
      let a := s.logFirst n.val
      let b := a + s.get (Fld.LOG_LINES_LINES n.val)
      (s.modDlog fun d => { d with touch := d.touch.filter fun l => decide (l < a) || decide (b ≤ l) }).put (Fld.LOG_STATUS_ACTIVE n.val) 1
    else s)

/-- A harvest command (R298): refused as INVALID past LINES, as BUSY while one runs. -/
def State.startHarvest (s : State) (n first count : Nat) : State :=
  if s.fab.dlog.harvest.isSome then s.put Fld.DLOG_HSTATUS_STATE 3
  else if s.get (Fld.LOG_LINES_LINES n) < first + count then s.put Fld.DLOG_HSTATUS_STATE 4
  else
    let s := s.puts [(Fld.DLOG_HSTATUS_STATE, 1), (Fld.DLOG_HSTATUS_SEQ, s.get Fld.DLOG_HSTATUS_SEQ + 1)]
    (s.modDlog fun d => { d with harvest := some (n, first, count) }).count (Ctr.MOVER (64 + n) 3)

/-- DLOG_HARVEST (R298): a write of DLOG_HCMD. -/
def execDlogHarvest (m : Master) (value : Word) (s : State) : Host.Outcome State Fault Refusal :=
  done (s.begin.guard m 0x91 fun s => s.startHarvest (bitsOf value.toNat 0 6) (s.get Fld.DLOG_HSTART_LINE) (bitsOf value.toNat 8 6 + 1))

/-- Bits set in a line. -/
def popCount (v : Nat) : Nat := ((List.range 512).filter fun i => bitsOf v i 1 == 1).length

/-- Harvest one line into DLOG_HBUF: read, cleared and its touch bit set in one operation. -/
def State.harvestLine (s : State) (n i l : Nat) : State :=
  let v := s.lineBits l
  let s := s.setLine l 0
  let s := (List.range 16).foldl (fun s k => s.put (Fld.DLOG_HBUF_BITS (16 * i + k)) (bitsOf v (32 * k) 32)) s
  (s.put Fld.DLOG_HDIRTY_PAGES (s.get Fld.DLOG_HDIRTY_PAGES + popCount v)).count (Ctr.MOVER (64 + n) 1) (popCount v)

/-- The engine has read and cleared the lines (R298). -/
def State.endHarvest (s : State) : State :=
  match s.fab.dlog.harvest with
  | none => s
  | some (n, first, count) =>
    let s := (s.put Fld.DLOG_HDIRTY_PAGES 0).modDlog fun d => { d with harvest := none }
    let s := (List.range count).foldl (fun s i => s.harvestLine n i (s.logFirst n + first + i)) s
    (s.puts [(Fld.DLOG_HSTATUS_STATE, 2), (Fld.DLOG_HSTATUS_LINES, count)]).raise Evt.DLOG_HARVEST_DONE

/-- DLOG_HARVEST_DONE (R298). -/
def execDlogHarvestDone (s : State) : Host.Outcome State Fault Refusal := done (s.begin.whenFabric State.endHarvest)

end Sys2Proof.Machine
end

