-- ==== Sys2Proof/Machine/Home.lean ====
section
/-! DEFINITION. Sys2Proof/Machine/Home.lean: the coherence home IEP0 (R215 to R246): directory, requests, snoops, write-backs, conflicts, hives, host slots, and their commands. -/
namespace Sys2Proof.Machine
open Sys2Proof

/-! ### Hives, slots and windows (R215, R217) -/

def State.hiveState (s : State) (h : Nat) : Nat := s.get (Fld.HIVE_STATUS_STATE h)
def State.hgen (s : State) (h : Nat) : Nat := s.get (Fld.HIVE_STATUS_HGEN h)

/-- A hive serves requests in ACTIVE and RECOVERING (R216). -/
def State.hiveServes (s : State) (h : Nat) : Bool := s.hiveState h == 2 || s.hiveState h == 3

/-- State of host slot i of hive h (R243). -/
def State.slotState (s : State) (h i : Nat) : Nat := s.get (Fld.HOST_STATUS_STATE (64 * h + i))
def State.setSlotState (s : State) (h i v : Nat) : State := s.put (Fld.HOST_STATUS_STATE (64 * h + i)) v

/-- A slot whose host may hold lines: ACTIVE or LEAVING. -/
def State.mayHold (s : State) (h i : Nat) : Bool := s.slotState h i == 2 || s.slotState h i == 3

/-- Is the host of a slot on another module (R239)? -/
def State.isRemote (s : State) (h i : Nat) : Bool := s.flag (Fld.HOST_CFG_REMOTE (64 * h + i))

/-- The port that leads to the host of a slot: its USP, or the inter-switch port of its PID, ISL1 while ISL0 is not usable (R239, R335). -/
def State.hostPort (s : State) (h i : Nat) : Nat :=
  if s.isRemote h i then
    let pid := s.get (Fld.HOST_CFG_PID (64 * h + i))
    (s.swarmPort pid).getD (s.get (Fld.SWARM_RT_ISL0 pid))
  else s.get (Fld.VCS_ENTRY_CFG_USP (s.get (Fld.HOST_CFG_VCS (64 * h + i))))

/-- HPA_BASE of a slot, and the span of a hive (R215, R242, R243). -/
def State.hpaBase (s : State) (h i : Nat) : Nat := 2 ^ 34 * s.get (Fld.HOST_HPA_BASE (64 * h + i))
def State.span (s : State) (h : Nat) : Nat := 2 ^ (34 + s.get (Fld.HIVE_CFG_SPAN h))

/-- Base and size of window n = 64 h + w in hive offsets (R244). -/
def State.winBase (s : State) (n : Nat) : Nat := 2 ^ 28 * s.get (Fld.WIN_BASE_BASE n)
def State.winSize (s : State) (n : Nat) : Nat := 2 ^ (28 + s.get (Fld.WIN_CFG_SIZE n))
def State.winDpa (s : State) (n : Nat) : Nat := s.get64 (Addr.WIN_DPA_LO n)

/-- The enabled window that holds a hive offset. -/
def State.windowOf (s : State) (h off : Nat) : Option Nat :=
  ((List.range 64).map fun w => 64 * h + w).find? fun n =>
    s.flag (Fld.WIN_CFG_EN n) && decide (s.winBase n ≤ off) && decide (off < s.winBase n + s.winSize n)

/-- Port, LD, and whether it is an LD, of target k of window n (R244). -/
def State.winTgt (s : State) (n k : Nat) : Nat × Nat × Bool :=
  let w := (s.word (Addr.WIN_TGT01 n + 4 * (k / 2))).toNat
  (bitsOf w (16 * (k % 2)) 6, bitsOf w (16 * (k % 2) + 6) 4, bitsOf w (16 * (k % 2) + 10) 1 == 1)

/-- Where an offset of window n leads by its interleaving (R217): destination, LD (0 of a port that is a target whole) and device address. The Comb pool is destination 65. -/
def State.winRoute (s : State) (n off : Nat) : Nat × Nat × Nat :=
  let o := off - s.winBase n
  let g := 256 * 2 ^ s.get (Fld.WIN_CFG_GRAN n)
  let w := 2 ^ s.get (Fld.WIN_CFG_WAYS n)
  let t := s.winTgt n (o / g % w)
  (if s.flag (Fld.WIN_CFG_POOL n) then 65 else t.1, if t.2.2 then t.2.1 else 0, s.winDpa n + o / (g * w) * g + o % g)

/-- Destination, LD and address of a request in a window. -/
def State.routeOf (s : State) (m : Msg) : Nat × Nat × Nat :=
  match s.windowOf m.hive m.off with
  | some n => s.winRoute n m.off
  | none => (m.src, m.ld, m.addr)

/-- A port or LD is a target of a window of a hive that is not DISABLED (R217). -/
def State.isWindowTarget (s : State) (p ld : Nat) : Bool :=
  (List.range 1024).any fun n =>
    s.hiveState (n / 64) != 0 && s.flag (Fld.WIN_CFG_EN n) && !s.flag (Fld.WIN_CFG_POOL n)
      && (List.range (2 ^ s.get (Fld.WIN_CFG_WAYS n))).any fun k =>
        let t := s.winTgt n k
        t.1 == p && (!t.2.2 || t.2.1 == ld)

/-! ### The directory (R219, R220) -/

def dirKey (h x : Nat) : Nat := 2 ^ 38 * h + x

/-- Line state j of an entry. -/
def DirEntry.line (e : DirEntry) (j : Nat) : Nat := nth e.st j
def DirEntry.blank (hgen : Nat) : DirEntry := { sharers := 0, owner := 0, st := [0, 0, 0, 0], hgen := hgen }
def DirEntry.setLine (e : DirEntry) (j v : Nat) : DirEntry := { e with st := e.st.set j v }
def DirEntry.addSharer (e : DirEntry) (i : Nat) : DirEntry := { e with sharers := e.sharers ||| 2 ^ i }
def DirEntry.dropSharer (e : DirEntry) (i : Nat) : DirEntry := if bitsOf e.sharers i 1 = 1 then { e with sharers := e.sharers - 2 ^ i } else e
def DirEntry.owns (e : DirEntry) (j : Nat) (r : Option Nat) : Bool := e.line j == 2 && r == some e.owner
def DirEntry.allI (e : DirEntry) : Bool := e.st.all fun v => v == 0

/-- A line in S that no slot may hold is in I; SHARERS and OWNER are 0 where no line is in S and in O. (log 102, DEDUCED) -/
def DirEntry.norm (e : DirEntry) : DirEntry :=
  let st := if e.sharers = 0 then e.st.map fun v => if v = 1 then 0 else v else e.st
  { e with st := st, sharers := if st.contains 1 then e.sharers else 0, owner := if st.contains 2 then e.owner else 0 }

/-- The entry that counts for a sector (R219): none in a state that counts none, or while an HGEN waits for its clearing (R242). -/
def State.entry (s : State) (h x : Nat) : Option DirEntry :=
  match assoc s.fab.home.dir (dirKey h x) with
  | some d => if s.hiveServes h && d.e.hgen == s.hgen h && !s.fab.home.clearing.contains h then some d.e else none
  | none => none

/-- Entries of a hive, by sector. -/
def State.hiveDir (s : State) (h : Nat) : List (Nat × DirSlot) := (s.fab.home.dir.filter fun e => e.1 / 2 ^ 38 == h).map fun e => (e.1 % 2 ^ 38, e.2)

/-- Entries that count for a hive. -/
def State.counting (s : State) (h : Nat) : List (Nat × DirSlot) := (s.hiveDir h).filter fun e => s.entry h e.1 == some e.2.e

/-- A sector of a RECOVERING hive is unresolved (R237, R238): it holds an A line, or under TAIL it has no entry of the current HGEN. -/
def State.unresolved (s : State) (h x : Nat) : Bool :=
  s.hiveState h == 3 &&
    match s.entry h x with
    | some e => e.st.contains 3
    | none => s.flag (Fld.HIVE_STATUS_TAIL h) || s.fab.home.clearing.contains h

/-- Entries that name unresolved sectors: those with an A line, and under TAIL the hints of the previous HGEN. -/
def State.unresolvedNamed (s : State) (h : Nat) : List Nat :=
  ((s.hiveDir h).filter fun e =>
    s.unresolved h e.1 && (e.2.e.hgen == s.hgen h || (s.flag (Fld.HIVE_STATUS_TAIL h) && (e.2.e.hgen + 1) % 256 == s.hgen h))).map (·.1)

/-- HOST_OWNED (R236): lines in O whose OWNER is the slot. -/
def State.owned (s : State) (h i : Nat) : Nat :=
  ((s.counting h).map fun e => if e.2.e.owner = i then (e.2.e.st.filter fun v => v == 2).length else 0).sum

def State.hasBuckets (s : State) (h : Nat) : Bool := decide (0 < s.get (Fld.HIVE_BKT_BKT_COUNT h))

/-- The set and the bucket of a sector within its hive, by the fixed hashes (R220). -/
def State.setOf (s : State) (h x : Nat) : Nat := Config.dirSet x % (1024 * s.get (Fld.HIVE_DIR_SET_COUNT h))
def State.bucketOf (s : State) (h x : Nat) : Nat := Config.dirBucket x % (65536 * s.get (Fld.HIVE_BKT_BKT_COUNT h))

/-- Where an entry of a sector must find a way: its bucket, or its set where BKT_COUNT = 0 (R229). -/
def State.placeOf (s : State) (h x : Nat) : Nat := if s.hasBuckets h then s.bucketOf h x else s.setOf h x

/-- Lines busy and held (R222, R228). -/
def State.busy (s : State) (h x j : Nat) : Bool := s.fab.home.txns.any fun t => t.hive == h && t.sector == x && t.lines.contains j
def State.heldBy (s : State) (h x j : Nat) (targets : List Nat) : Bool :=
  s.fab.home.holds.any fun k => k.hive == h && k.sector == x && k.line == j && targets.contains k.slot
def State.sectorBusy (s : State) (h x : Nat) : Bool := s.fab.home.txns.any fun t => t.hive == h && t.sector == x
def State.sectorHeld (s : State) (h x : Nat) : Bool := s.fab.home.holds.any fun k => k.hive == h && k.sector == x

/-- The entry used longest ago of a list. -/
def oldest (l : List (Nat × DirSlot)) : Option (Nat × DirSlot) :=
  l.foldl (fun (b : Option (Nat × DirSlot)) e => match b with
    | some y => if e.2.stamp < y.2.stamp then some e else b
    | none => some e) none

/-- The on-die entry of a full set that was used longest ago moves to its bucket (R220). (log 107, DEDUCED) -/
def State.spill (s : State) (h x : Nat) : State :=
  let l := (s.hiveDir h).filter fun e => e.2.onDie && s.setOf h e.1 == s.setOf h x
  if l.length ≤ 16 || !s.hasBuckets h then s
  else
    match oldest l with
    | some y => s.modHome fun o => { o with dir := assocPut o.dir (dirKey h y.1) { y.2 with onDie := false } }
    | none => s

/-- A bucket or set holds 16 entries (R220): where entries that count and the hints of an earlier HGEN are more, the hint used longest ago gives its way up. (log 262, DEDUCED) -/
def State.dropHint (s : State) (h x : Nat) : State :=
  let l := (s.hiveDir h).filter fun e => s.placeOf h e.1 == s.placeOf h x
  if l.length ≤ 16 then s
  else
    match oldest (l.filter fun e => s.entry h e.1 != some e.2.e) with
    | some y => s.modHome fun o => { o with dir := assocDel o.dir (dirKey h y.1) }
    | none => s

/-- Write the entry of a sector on-die under the current HGEN. -/
def State.writeDir (s : State) (h x : Nat) (e : DirEntry) : State :=
  let d : DirSlot := { e := { e.norm with hgen := s.hgen h }, onDie := true, stamp := s.fab.home.clock }
  ((s.modHome fun o => { o with dir := assocPut o.dir (dirKey h x) d, clock := o.clock + 1 }).spill h x).dropHint h x

/-- Free the entry of a sector whose four lines are in I and none busy (R219); under TAIL it stays, for it tells that the sector is resolved (R238). (log 106, DEDUCED) -/
def State.tidy (s : State) (h x : Nat) : State :=
  match s.entry h x with
  | some e =>
    if e.allI && !s.sectorBusy h x && !(s.hiveState h == 3 && s.flag (Fld.HIVE_STATUS_TAIL h)) then
      s.modHome fun o => { o with dir := assocDel o.dir (dirKey h x) }
    else s
  | none => s

/-- A lookup makes the entry of a sector the last used. -/
def State.touch (s : State) (h x : Nat) : State :=
  match assoc s.fab.home.dir (dirKey h x) with
  | some d => s.modHome fun o => { o with dir := assocPut o.dir (dirKey h x) { d with stamp := o.clock }, clock := o.clock + 1 }
  | none => s

/-! ### Answers -/

/-- The sector and the line of a request. -/
def Msg.sector (m : Msg) : Nat := m.off / 256
def Msg.line (m : Msg) : Nat := m.off / 64 % 4

/-- Answer a request as the flush outcomes table states, counted on the upstream vPPB of its host (R216, R234). (log 81, DEDUCED) -/
def State.answerDown (s : State) (m : Msg) : State :=
  match m.vcs with
  | some v => m.flushed.foldl State.queueMsg (if m.flushed.isEmpty then s else s.count (Ctr.VPPB (s.upstreamVppb v) 2))
  | none => m.flushed.foldl State.queueMsg s

/-- An answer of the home or its targets goes to the requester. -/
def State.reply (s : State) (m : Msg) (k : MsgKind) : State := s.queueMsg (m.answer k)

/-! ### Forwarding (R217, R221, R231) -/

/-- A forward slot is free for an ordinary request, or for a write-back (R224). (log 108, DESIGN CHOICE) -/
def State.fwdFree (s : State) (wb : Bool) : Bool :=
  if wb then decide (s.fab.home.fwd.length < 16384) else decide ((s.fab.home.fwd.filter fun e => !e.2.wb).length < 15360) && decide (s.fab.home.fwd.length < 16384)

/-- A request as the home forwards it: the module is the requester, MetaField No-Op, the tag given. -/
def State.forwarded (s : State) (m : Msg) (tag : Nat) : Msg :=
  let t := s.routeOf m
  { m with src := 64, dst := t.1, ld := t.2.1, addr := t.2.2, mv := .noOp, tag := tag, slot := none, gen := 0, vppb := none, epoch := none, writeBack := false, counted := false,
           spid := none, dpid := none }

/-- Forward a request under a free slot of the forward tracker; the slot's number is open. None where no slot is free. -/
def State.forward (s : State) (m : Msg) (ndr : MsgKind) (wb : Bool) (txn : Option Nat) : Option State :=
  if !s.fwdFree wb then none
  else
    match findFree s.fab.home.fwd 16384 s.free (s.fab.home.fwd.length + 1) with
    | none => none
    | some k =>
      let s := s.used.modHome fun o => { o with fwd := assocPut o.fwd k { stale := false, msg := m, ndr := ndr, wb := wb, txn := txn, passed := false } }
      some (s.sendLogged m (s.forwarded m k))

/-- A speculative read takes a forward slot, whose number it carries; no answer is prescribed for it, so the slot is FREE again once it has been sent (R151, R221, R231). None where
no slot is free. -/
def State.forwardSpec (s : State) (m : Msg) : Option State :=
  match findFree s.fab.home.fwd 16384 s.free (s.fab.home.fwd.length + 1) with
  | some k => if s.fwdFree false then some (s.used.queueMsg (s.forwarded m k)) else none
  | none => none

/-! ### What a request needs (R221) -/

/-- The request leaves its line in O for its requester. -/
def Msg.grantsO (m : Msg) : Bool :=
  m.mv == .a && (m.kind == .memRd || m.kind == .memRdData || m.kind == .memInv || m.kind == .memInvNT || m.kind.isMemWrite)

/-- The request leaves its line in S for its requester. -/
def Msg.grantsS (m : Msg) : Bool := m.mv == .s && (m.kind == .memRd || m.kind == .memRdData)

/-- Every holder of a line but the requester (R221). -/
def State.holders (s : State) (h x j : Nat) (r : Option Nat) : List Nat :=
  let l := match s.entry h x with
    | none => []
    | some e =>
      if e.line j = 1 then (List.range 64).filter fun i => bitsOf e.sharers i 1 == 1
      else if e.line j = 2 then [e.owner]
      else if e.line j = 3 then (List.range 64).filter (s.mayHold h)
      else []
  l.filter fun i => r != some i

/-- The snoops a request needs, each a line and whether it is BISnpInv: for its own line, and for the lines of another owner where it takes its line in O. -/
def State.snoopsOf (s : State) (m : Msg) : List (Nat × Bool) :=
  match s.entry m.hive m.sector with
  | none => []
  | some e =>
    let j := m.line
    let mine := e.owns j m.hslot
    let inv := if (s.holders m.hive m.sector j m.hslot).isEmpty then [] else [(j, true)]
    let own := match m.kind with
      | .memRd | .memRdData => if m.mv == .a then inv else if (e.line j == 2 && !mine) || e.line j == 3 then [(j, false)] else []
      | .memInv | .memInvNT => inv
      | .memWr | .memWrPtl => if mine then [] else inv
      | _ => []
    own ++ if m.grantsO then ((List.range 4).filter fun k => k != j && e.line k == 2 && !e.owns k m.hslot).map fun k => (k, false) else []

/-- The lines snooped take their new states: I by BISnpInv; S with those that kept it by BISnpData, I where none did (R221, R226). (log 101, DEDUCED) -/
def afterSnoops (kept : List (Nat × Nat)) : List (Nat × Bool) → DirEntry → DirEntry
  | [], e => e
  | (j, inv) :: rest, e =>
    let l := (kept.filter fun k => k.1 == j).map (·.2)
    let e' := if inv then e.setLine j 0
      else if e.line j = 2 || e.line j = 3 then (if l.isEmpty then e.setLine j 0 else l.foldl DirEntry.addSharer (e.setLine j 1))
      else l.foldl DirEntry.addSharer e
    afterSnoops kept rest e'

/-- The requester's line afterwards (R221), once the snoops are answered. -/
def Msg.grant (m : Msg) (e : DirEntry) : DirEntry :=
  let j := m.line
  let mine := e.owns j m.hslot
  match m.kind, m.hslot with
  | .memRd, some r | .memRdData, some r =>
    if m.mv == .a then { e.setLine j 2 with owner := r } else if m.mv == .s then (e.setLine j 1).addSharer r else e
  | .memInv, some r | .memInvNT, some r => if m.mv == .a then { e.setLine j 2 with owner := r } else e.setLine j 0
  | .memInv, none | .memInvNT, none => e.setLine j 0
  | .memWr, some r | .memWrPtl, some r =>
    if m.mv == .a then { e.setLine j 2 with owner := r } else if mine && m.mv == .s then (e.setLine j 1).addSharer r else e.setLine j 0
  | .memWr, none | .memWrPtl, none => e.setLine j 0
  | .memClnEvct, _ => if mine then e.setLine j 0 else e
  | _, _ => e

/-- The entry of a sector, or a blank one. -/
def State.entryOr (s : State) (h x : Nat) : DirEntry := (s.entry h x).getD (DirEntry.blank (s.hgen h))

/-- The sector's entry after a request. -/
def State.after (s : State) (m : Msg) (snooped : List (Nat × Bool)) (kept : List (Nat × Nat)) : DirEntry :=
  (m.grant (afterSnoops kept snooped (s.entryOr m.hive m.sector))).norm

/-- Slot r is a holder of line j no more, for it has answered the snoop of a transaction whose effect is still to come without keeping the line (R226). -/
def State.removedHolder (s : State) (h x j r : Nat) : Bool :=
  s.fab.home.txns.any fun t =>
    t.hive == h && t.sector == x && !t.parked && !t.forwarded && !t.answered && t.snooped.any (fun q => q.1 == j) && !t.kept.contains (j, r)
      && !s.fab.home.snoops.any fun e => !e.2.stale && e.2.txn == t.id && e.2.line == j && e.2.mask.contains r

/-- The request changes no line (R222). One that a removed holder sends for a share of the line would make it a holder again. -/
def State.changesNothing (s : State) (m : Msg) : Bool :=
  (s.snoopsOf m).isEmpty && s.after m [] [] == (s.entryOr m.hive m.sector).norm
    && !(m.grantsS && match m.hslot with
      | some r => s.removedHolder m.hive m.sector m.line r
      | none => false)

/-! ### Transactions (R222 to R224) -/

def State.setTxn (s : State) (t : Txn) : State := s.modHome fun o => { o with txns := o.txns.map fun u => if u.id = t.id then t else u }
def State.delTxn (s : State) (t : Txn) : State := (s.modHome fun o => { o with txns := o.txns.filter fun u => u.id != t.id }).tidy t.hive t.sector
def State.txn (s : State) (id : Nat) : Option Txn := s.fab.home.txns.find? fun t => t.id == id

/-- Targets of a snoop of line j in a transaction: every holder but the requester; for a resolution every slot in ACTIVE or LEAVING but the requester of the request that waits
first; for a departure the slot alone (R221, R229, R236, R238). A slot that holds no line is never sent one: it counts as having answered BIRspI (R224). -/
def State.targetsOf (s : State) (t : Txn) (j : Nat) : List Nat :=
  let l := match t.kind with
    | .request m => s.holders t.hive t.sector j m.hslot
    | .resolve =>
      let r := (s.fab.home.queue.find? fun (m : Msg) => m.hive == t.hive && m.sector == t.sector).bind (·.hslot)
      (List.range 64).filter fun i => r != some i
    | .leave i => [i]
    | .evict | .aborted => s.holders t.hive t.sector j none
  l.filter (s.mayHold t.hive)

/-- The host of a slot: a VCS of this module, or a PID. -/
def State.hostOf (s : State) (h i : Nat) : Bool × Nat :=
  if s.isRemote h i then (true, s.get (Fld.HOST_CFG_PID (64 * h + i))) else (false, s.get (Fld.HOST_CFG_VCS (64 * h + i)))

/-- Snoops of any hive outstanding to the host of a slot (R224). -/
def State.outstanding (s : State) (h i : Nat) : Nat :=
  (s.fab.home.snoops.filter fun e => !e.2.stale && e.2.mask.any fun j => s.hostOf e.2.hive j == s.hostOf h i).length

/-- The BISnp of a line to a host slot: its address is the host's own, its BITag the slot number, its BI-ID 0xFFF (R224, R225). (log 111, DEDUCED) -/
def State.snoopMsg (s : State) (t : Txn) (j : Nat) (inv : Bool) (tag i : Nat) : Msg :=
  { kind := if inv then .biSnpInv else .biSnpData, svc := 5, src := 64, dst := s.hostPort t.hive i, tag := tag, addr := s.hpaBase t.hive i + 256 * t.sector + 64 * j,
    biId := 0xFFF, hive := t.hive, off := 256 * t.sector + 64 * j,
    spid := if s.isRemote t.hive i then some (s.get Fld.SWARM_CFG_HOME_PID) else none,
    dpid := if s.isRemote t.hive i then some (s.get (Fld.HOST_CFG_PID (64 * t.hive + i))) else none }

/-- Issue the snoop of one line: it takes a free snoop slot, whose number is open, and its fan-out is presented to the crossbar (R224). -/
def State.issueSnoop (s : State) (t : Txn) (j : Nat) (inv : Bool) (targets : List Nat) : State × Option Nat :=
  match findFree s.fab.home.snoops 4096 s.free (s.fab.home.snoops.length + 1) with
  | none => (s, none)
  | some k =>
    let n : SnoopSlot := { stale := false, hive := t.hive, sector := t.sector, line := j, inv := inv, mask := targets, txn := t.id }
    let s := s.used.modHome fun o => { o with snoops := assocPut o.snoops k n }
    let s := s.modSw fun w => { w with fan := w.fan ++ [targets.map (s.snoopMsg t j inv k)] }
    (s.count (Ctr.HOME t.hive (if inv then 3 else 4)), some k)

/-- A list of snoops, each a line with its targets, can be issued (R224, R228): snoop slots are free, no target host would have more than 256 outstanding, every target output has a
privileged credit beyond the fan-outs presented before, and no line is held. (log 105, DEDUCED) -/
def State.canSnoop (s : State) (t : Txn) (l : List (Nat × Bool × List Nat)) : Bool :=
  decide (s.fab.home.snoops.length + l.length ≤ 4096)
    && ((List.range 64).all fun i => decide (s.outstanding t.hive i + (l.filter fun x => x.2.2.contains i).length ≤ 256) || !l.any fun x => x.2.2.contains i)
    && s.hasCredits (s.fab.sw.fan.flatten ++ l.flatMap fun x => x.2.2.map (s.snoopMsg t x.1 x.2.1 0))
    && !l.any fun x => s.heldBy t.hive t.sector x.1 x.2.2

/-- A transaction issues its snoops, or waits with its lines busy until it can (R224). -/
def State.launch (s : State) (t : Txn) : State × Txn :=
  let l := (t.snooped.map fun x => (x.1, x.2, s.targetsOf t x.1)).filter fun x => !x.2.2.isEmpty
  if !l.isEmpty && !s.canSnoop t l then
    let t := { t with parked := true }
    (s.setTxn t, t)
  else
    let r := l.foldl (fun (a : State × List Nat) x => let b := a.1.issueSnoop t x.1 x.2.1 x.2.2; (b.1, a.2 ++ b.2.toList)) (s, [])
    let t := { t with parked := false, queued := false, snoops := r.2 }
    (r.1.setTxn t, t)

/-- A new transaction. -/
def State.newTxn (s : State) (h x : Nat) (lines : List Nat) (kind : TxnKind) (snooped : List (Nat × Bool)) : State × Txn :=
  let t : Txn :=
    { id := s.fab.home.nextTxn, hive := h, sector := x, lines := lines, kind := kind, parked := false, snooped := snooped, snoops := [], wbs := [], kept := [],
      forwarded := false, answered := false, grants := false, queued := match kind with | .request _ => true | _ => false }
  (s.modHome fun o => { o with txns := o.txns ++ [t], nextTxn := o.nextTxn + 1 }, t)

/-- Count a grant to a host (R416). (log 117, DEDUCED) -/
def State.countGrant (s : State) (m : Msg) : State :=
  if m.grantsO then s.count (Ctr.HOME m.hive 13) else if m.grantsS then s.count (Ctr.HOME m.hive 14) else s

/-- Write the sector's entry where it changes. -/
def State.applyEntry (s : State) (h x : Nat) (e : DirEntry) : State := if (s.entry h x).isNone && e.allI then s else s.writeDir h x e

/-- The NDR that the home returns (R221): of a read beside its data, by the state it grants; of a write by the state it leaves, S only where the requester was the owner. -/
def Msg.grantNdr (m : Msg) (mine : Bool) : MsgKind :=
  if m.mv == .a then .cmpE else if m.mv == .s && (m.kind.isMemRead || mine) then .cmpS else .cmp

/-- Lines of the sector that another owner has come to hold while a request for its own line in O waited for its snoops (R221). (log 121, DEDUCED) -/
def State.lateOwned (s : State) (t : Txn) (m : Msg) : List Nat :=
  if m.grantsO then
    let e := afterSnoops t.kept t.snooped (s.entryOr t.hive t.sector)
    (List.range 4).filter fun k => k != m.line && e.line k == 2 && !e.owns k m.hslot
  else []

/-- The sector rule again (R221): the lines snooped take their new states; the late owner's lines get BISnpData once they are neither busy nor held, and until then the request
waits (R222). -/
def State.resnoop (s : State) (t : Txn) (l : List Nat) : State :=
  let e := (afterSnoops t.kept t.snooped (s.entryOr t.hive t.sector)).norm
  let s := if t.snooped.isEmpty then s else s.applyEntry t.hive t.sector e
  let wait := l.any fun j =>
    s.heldBy t.hive t.sector j [e.owner] || s.fab.home.txns.any fun u => u.id != t.id && u.hive == t.hive && u.sector == t.sector && u.lines.contains j
  if wait then s.setTxn { t with parked := true, snooped := [], kept := [] }
  else (s.launch { t with lines := (t.lines ++ l).eraseDups, snooped := l.map fun j => (j, false), kept := [] }).1

/-- A transaction whose snoops and write-backs are complete takes its effect: the directory takes its new state, and the request is forwarded or answered (R221, R223). A
request that finds no forward slot waits. -/
def State.finish (s : State) (t : Txn) : State :=
  match t.kind with
  | .request m =>
    let e := s.after m t.snooped t.kept
    let late := s.lateOwned t m
    if !late.isEmpty then s.resnoop t late
    else if m.kind.isMemRead || m.kind.isMemWrite then
      match s.forward m (m.grantNdr false) false (some t.id) with
      | none => s
      | some s => ((s.applyEntry t.hive t.sector e).countGrant m).setTxn { t with forwarded := true, grants := m.grantsO || m.grantsS }
    else
      let s := (s.applyEntry t.hive t.sector e).countGrant m
      (s.reply m (if m.grantsO then .cmpE else .cmp)).setTxn { t with answered := true, grants := m.grantsO }
  | .resolve => ((s.writeDir t.hive t.sector (DirEntry.blank (s.hgen t.hive))).count (Ctr.HOME t.hive 8)).delTxn t
  | .evict => (s.modHome fun o => { o with dir := assocDel o.dir (dirKey t.hive t.sector) }).delTxn t
  | .leave i =>
    let e := s.entryOr t.hive t.sector
    let e := { e with st := e.st.map fun v => if v = 2 && e.owner = i then 0 else v }
    (s.applyEntry t.hive t.sector (e.dropSharer i)).delTxn t
  | .aborted => (s.applyEntry t.hive t.sector (afterSnoops t.kept t.snooped (s.entryOr t.hive t.sector)).norm).delTxn t

/-- Finish a transaction that waits for nothing. -/
def State.advance (s : State) (t : Txn) : State :=
  if t.parked || t.forwarded || t.answered || !t.snoops.isEmpty || !t.wbs.isEmpty then s else s.finish t

/-- Start a transaction: it issues its snoops, and with none to wait for it finishes. -/
def State.startTxn (s : State) (h x : Nat) (lines : List Nat) (kind : TxnKind) (snooped : List (Nat × Bool)) : State :=
  let r := s.newTxn h x lines kind snooped
  let r := r.1.launch r.2
  r.1.advance r.2

/-! ### Starting a request (R221, R227, R229, R238) -/

/-- The request needs a new entry (R220). -/
def State.needsEntry (s : State) (m : Msg) : Bool := (s.entry m.hive m.sector).isNone && !(s.after m [] []).allI

/-- Ways in use where a sector's entry must go: counting entries, and entries that transactions under way will write. -/
def State.waysUsed (s : State) (h x : Nat) : Nat :=
  ((s.counting h).filter fun e => s.placeOf h e.1 == s.placeOf h x).length
    + (s.fab.home.txns.filter fun t => t.hive == h && t.sector != x && s.placeOf h t.sector == s.placeOf h x
        && match t.kind with
          | .request m => s.needsEntry m
          | .resolve => (s.entry h t.sector).isNone
          | _ => false).length

/-- The victim of a capacity eviction (R229): the least recently used entry there whose lines are neither busy nor held. -/
def State.victim (s : State) (h x : Nat) : Option Nat :=
  let l := (s.counting h).filter fun e => s.placeOf h e.1 == s.placeOf h x && !s.sectorBusy h e.1 && !s.sectorHeld h e.1
  (oldest l).map (·.1)

/-- Is an eviction under way where a sector's entry must go? -/
def State.evicting (s : State) (h x : Nat) : Bool :=
  s.fab.home.txns.any fun t => t.kind == .evict && t.hive == h && s.placeOf h t.sector == s.placeOf h x

/-- Start a capacity eviction: BISnpInv to every holder of each line that is not in I. -/
def State.evict (s : State) (h x : Nat) : State :=
  if s.evicting h x then s
  else
    match s.victim h x with
    | none => s
    | some v =>
      let e := s.entryOr h v
      ((s.count (Ctr.HOME h 6)).raise Evt.DIRC_CAP_EVICT).startTxn h v [0, 1, 2, 3] .evict (((List.range 4).filter fun j => e.line j != 0).map fun j => (j, true))

/-- The live snoop of a line that a write-back of slot r answers (R223). -/
def State.snoopedBy (s : State) (m : Msg) : Option (Nat × SnoopSlot) :=
  match m.hslot with
  | some r => s.fab.home.snoops.find? fun e => !e.2.stale && e.2.hive == m.hive && e.2.sector == m.sector && e.2.line == m.line && e.2.mask.contains r
  | none => none

/-- A write by the owner of its line (R224): processed at once, forwarded at once; one that a snoop produced is a write-back that the snoop's transaction waits for (R223). None
where no forward slot is free. -/
def State.ownerWrite (s : State) (m : Msg) : Option State :=
  let e := s.entryOr m.hive m.sector
  let mine := e.owns m.line m.hslot
  let e' := (if mine then m.grant e else e).norm
  let ndr := if mine then m.grantNdr true else .cmp
  match s.snoopedBy m with
  | some (_, n) =>
    match s.forward m ndr true (some n.txn) with
    | none => none
    | some s' =>
      let k := s'.fab.home.fwd.find? fun f => (assoc s.fab.home.fwd f.1).isNone
      let s' := match s'.txn n.txn, k with
        | some t, some k => s'.setTxn { t with wbs := t.wbs ++ [k.1] }
        | _, _ => s'
      some ((s'.count (Ctr.HOME m.hive 5)).applyEntry m.hive m.sector e')
  | none =>
    let r := s.newTxn m.hive m.sector [m.line] (.request m) []
    match r.1.forward m ndr m.writeBack (some r.2.id) with
    | none => none
    | some s' => some (((s'.count (Ctr.HOME m.hive (if m.writeBack then 5 else 12))).applyEntry m.hive m.sector e').setTxn { r.2 with forwarded := true, grants := ndr != .cmp, queued := false })

/-- A write that R224 processes at once: by the owner of its line, or of the write-back class. -/
def State.isOwnerWrite (s : State) (m : Msg) : Bool :=
  m.kind.isMemWrite && ((s.entryOr m.hive m.sector).owns m.line m.hslot || m.writeBack)

/-- The home owes the host an answer for the line (R218): to a request or a write-back it has forwarded, whose answers have not all passed. -/
def State.owesAnswer (s : State) (m : Msg) : Bool :=
  s.fab.home.fwd.any fun e => !e.2.stale && e.2.msg.hive == m.hive && e.2.msg.sector == m.sector && e.2.msg.line == m.line && e.2.msg.hslot == m.hslot

/-- Try to start a request; `earlier` are the waiting requests before it. The result tells whether it started; a capacity eviction may have been started for it. -/
def State.tryStart (s : State) (m : Msg) (earlier : List Msg) : State × Bool :=
  let h := m.hive
  let x := m.sector
  let same := earlier.any fun q => q.hive == h && q.sector == x && q.line == m.line && q.kind != .biConflict
  if m.kind == .biConflict then (if s.owesAnswer m then (s, false) else (s.reply m .biConflictAck, true))
  else if s.isOwnerWrite m then
    match s.ownerWrite m with
    | some s => (s, true)
    | none => (s, false)
  else if s.unresolved h x then (s, false)
  else if m.kind == .memSpecRd then
    match s.forwardSpec m with
    | some s => (s, true)
    | none => (s, false)
  else
    let plan := s.snoopsOf m
    let free := s.changesNothing m
    let lines := (m.line :: plan.map (·.1)).eraseDups
    let held := plan.any fun q => s.heldBy h x q.1 (s.holders h x q.1 m.hslot)
    if !free && (same || held || lines.any (s.busy h x)) then (s, false)
    else if s.needsEntry m && 16 ≤ s.waysUsed h x then (s.evict h x, false)
    else (s.startTxn h x lines (.request m) plan, true)

/-- CQ_USED (R227, R241): the requests that wait in the queue, and those whose transaction waits for snoop slots, credits or the end of a hold before its first snoop. -/
def State.cqUsed (s : State) : Nat := s.fab.home.queue.length + (s.fab.home.txns.filter fun t => t.parked && t.queued).length

/-- Keep HOME_CQ_HWM, and tell a queue that has become full since `was` entries were in use. -/
def State.cqHigh (s : State) (was : Nat) : State :=
  let s := if s.get Fld.HOME_CQ_HWM_HWM < s.cqUsed then s.put Fld.HOME_CQ_HWM_HWM s.cqUsed else s
  s.raiseIf (decide (was < 8192 ∧ 8192 ≤ s.cqUsed)) Evt.HOME_CQ_FULL

/-- Put requests back, in their order, at the head of IEP0's input, and withhold credits of their ports (R227). -/
def State.putBack (s : State) (l : List Msg) : State :=
  if l.isEmpty then s
  else
    (s.modSw fun w =>
      { w with iep := mput [] w.iep 0 (l.map (fun m => { m with looked := true }) ++ mget [] w.iep 0),
               withheld := (w.withheld ++ l.map (·.src)).eraseDups }).raise Evt.HOME_CQ_FULL

/-- Start a request or let it wait in the conflict queue, of 8,192 entries (R227); false where the queue has no entry left for it. -/
def State.tryQueue (s : State) (m : Msg) : State × Bool :=
  let s := s.touch m.hive m.sector
  let was := s.cqUsed
  match s.tryStart m s.fab.home.queue with
  | (t, true) => if 8192 < t.cqUsed then (s, false) else (t.cqHigh was, true)
  | (t, false) =>
    if was < 8192 then (((t.modHome fun o => { o with queue := o.queue ++ [m] }).count (Ctr.HOME m.hive 7)).cqHigh was, true)
    else (t, false)

/-- Start a request, let it wait in the conflict queue, or leave it at the head of its input (R227). -/
def State.startOrWait (s : State) (m : Msg) : State :=
  match s.tryQueue m with
  | (s, true) => s
  | (s, false) => s.putBack [m]

/-- Requests that a lookup has kept proceed in their order; one that finds the conflict queue full stays at the head of its input, and those of its ingress port and service behind it. -/
def State.startAll (s : State) (l : List Msg) : State :=
  let r := l.foldl (fun (a : State × List Msg) m =>
    if a.2.any fun q => q.src == m.src && q.svc == m.svc && q.writeBack == m.writeBack then (a.1, a.2 ++ [m])
    else
      match a.1.tryQueue m with
      | (s, true) => (s, a.2)
      | (s, false) => (s, a.2 ++ [m])) (s, [])
  r.1.putBack r.2

/-- Retry the waiting requests of a sector, in arrival order (R227). -/
def State.retry (h x : Nat) : List Msg → List Msg → State → State
  | _, [], s => s
  | before, m :: rest, s =>
    if m.hive = h && m.sector = x then
      match s.tryStart m before with
      | (s, true) => State.retry h x before rest (s.modHome fun o => { o with queue := o.queue.erase m })
      | (s, false) => State.retry h x (before ++ [m]) rest s
    else State.retry h x before rest s

/-- Ports whose queue at IEP0 no longer waits for room get their credits back (R227). -/
def State.unwithhold (s : State) : State := if s.cqUsed < 8192 then s.modSw fun w => { w with withheld := [] } else s

/-- Transactions that wait for snoop slots or a forward slot go on where they can (R224, R231). -/
def State.goOn (s : State) (h x : Nat) : State :=
  (s.fab.home.txns.filter fun t => t.hive == h && t.sector == x).foldl (fun s t =>
    let r := if t.parked then s.launch t else (s, t)
    r.1.advance r.2) s

/-- Departure sweeps of a hive (R236): sectors that name a leaving host get BISnpInv once no line is busy or held, up to SWEEP_CONC at a time. -/
def State.sweepSlot (s : State) (h i : Nat) : State :=
  (s.counting h).foldl (fun s e =>
    let n := (s.fab.home.txns.filter fun t => match t.kind with | .leave _ => true | _ => false).length
    let l := (List.range 4).filter fun j => (e.2.e.line j == 1 && bitsOf e.2.e.sharers i 1 == 1) || (e.2.e.line j == 2 && e.2.e.owner == i)
    if l.isEmpty || s.sectorBusy h e.1 || l.any (fun j => s.heldBy h e.1 j [i]) || s.get Fld.HOME_CFG_SWEEP_CONC ≤ n then s
    else s.startTxn h e.1 l (.leave i) (l.map fun j => (j, true))) s

/-- Go on with every departure sweep of a hive. (log 113, DEDUCED) -/
def State.sweep (s : State) (h : Nat) : State :=
  ((List.range 64).filter fun i => s.slotState h i == 3).foldl (fun s i => s.sweepSlot h i) s

/-! ### Looking a request up (R220, R227) -/

/-- The first message of a kind at IEP0 that heads the queue of its ingress port and service (R170, R224). -/
def homeHead (f : Msg → Bool) : List (Nat × Nat × Bool) → List Msg → Option Msg
  | _, [] => none
  | seen, m :: rest =>
    let k := (m.src, m.svc, m.writeBack)
    if f m && !seen.contains k then some m else homeHead f (k :: seen) rest

/-- Is the sector's lookup a miss (R220)? -/
def State.misses (s : State) (h x : Nat) : Bool :=
  s.hasBuckets h &&
    match assoc s.fab.home.dir (dirKey h x) with
    | some d => !(d.onDie && s.entry h x == some d.e)
    | none => true

/-- Serve a request: answered where its hive no longer serves (R216), looked up, and started or made to wait. A miss fetches the bucket first (R220). One that
stayed at the head of its input has been looked up before (R227). -/
def State.serve (s : State) (m : Msg) : State :=
  let h := m.hive
  let x := m.sector
  if s.hiveState h = 4 then s.answerDown m
  else if !s.hiveServes h then s.failRule m m.src
  else if m.looked then s.startOrWait m
  else
    let s := s.count (Ctr.HOME h 0)
    if m.kind == .biConflict then s.startOrWait m
    else
      let s := s.count (Ctr.HOME h 1)
      if s.fab.home.fetches.contains (h, x) then s.modHome fun o => { o with lookups := o.lookups ++ [m] }
      else if s.misses h x && !s.sectorBusy h x && !s.isOwnerWrite m then
        (s.count (Ctr.HOME h 2)).modHome fun o => { o with fetches := o.fetches ++ [(h, x)], lookups := o.lookups ++ [m] }
      else s.startOrWait m

/-- DIR_BUCKET_FETCH_DONE (R220): the bucket of a sector has arrived; its entry is on-die and the requests that wait for it proceed in order. -/
def execDirBucketFetchDone (h : Hive) (sector : Nat) (s : State) : Host.Outcome State Fault Refusal :=
  done (s.begin.whenActive fun s =>
    if s.fab.home.fetches.contains (h.val, sector) then
      let l := s.fab.home.lookups.filter fun m => m.hive == h.val && m.sector == sector
      let s := s.modHome fun o =>
        { o with fetches := o.fetches.filter fun f => f != (h.val, sector), lookups := o.lookups.filter fun m => !(m.hive == h.val && m.sector == sector) }
      let s := match s.entry h.val sector, assoc s.fab.home.dir (dirKey h.val sector) with
        | some _, some d => (s.modHome fun o => { o with dir := assocPut o.dir (dirKey h.val sector) { d with onDie := true, stamp := o.clock }, clock := o.clock + 1 }).spill h.val sector
        | _, _ => s
      s.startAll l
    else s)

/-- CONFLICT_QUEUE_START (R227): the waiting requests of a sector are retried in arrival order. -/
def execConflictQueueStart (h : Hive) (sector : Nat) (s : State) : Host.Outcome State Fault Refusal :=
  done (s.begin.whenActive fun s =>
    let s := s.goOn h.val sector
    ((State.retry h.val sector [] s.fab.home.queue s).cqHigh s.cqUsed).unwithhold)

/-! ### Hive down (R234, R242) -/

/-- HGEN advances by one; a value that could be in use waits for a clearing of the hive's sets and buckets (R242). -/
def State.bumpHgen (s : State) (h : Nat) : State :=
  let n := mget 0 s.fab.home.bumps h
  if 255 ≤ n then s.modHome fun o => { o with clearing := if o.clearing.contains h then o.clearing else o.clearing ++ [h] }
  else (s.put (Fld.HIVE_STATUS_HGEN h) ((s.hgen h + 1) % 256)).modHome fun o => { o with bumps := mput 0 o.bumps h (n + 1) }

/-- The hive's sets are cleared. -/
def State.clearSets (s : State) (h : Nat) : State :=
  s.modHome fun o => { o with dir := o.dir.map fun e => if e.1 / 2 ^ 38 = h then (e.1, { e.2 with onDie := false }) else e }

/-- The hive's buckets are cleared. -/
def State.clearBuckets (s : State) (h : Nat) : State := s.modHome fun o => { o with dir := o.dir.filter fun e => e.1 / 2 ^ 38 != h, bumps := mput 0 o.bumps h 0 }

/-- A departure completes at once in a hive that is down or disabled (R236). -/
def State.slotLeft (s : State) (h i : Nat) : State := ((s.setSlotState h i 0).put (Fld.HOST_CFG_EN (64 * h + i)) 0).raise Evt.HOME_HOST_LEFT

/-- Slots of a hive in LEAVING complete their departure. -/
def State.leaveAll (s : State) (h : Nat) : State := ((List.range 64).filter fun i => s.slotState h i == 3).foldl (fun s i => s.slotLeft h i) s

/-- The kind of fault of a cause of DOWN (R240, R366). -/
def downKind (cause : Nat) : Nat :=
  match cause with
  | 1 => Kind.HIVE_BI_TIMEOUT
  | 2 => Kind.HIVE_HOST_LOST
  | 3 => Kind.HIVE_DIR_ECC
  | 4 => Kind.HIVE_PROTOCOL
  | 5 => Kind.HIVE_SOFTWARE
  | _ => Kind.HIVE_RECOVERY_TAIL

/-- The hive-down message to a slot (R235): a vendor message with bytes 12 to 15. -/
def State.hiveDownMsg (s : State) (h cause i : Nat) : Msg :=
  { kind := .own, svc := 0, src := 64, dst := s.hostPort h i, hslot := some i, hive := h,
    vdm := some (Vdm.of .toRoot 0xD6 1 1 (h + i / 16 * 16) (cause + i % 16 * 16)),
    dpid := if s.isRemote h i then some (s.get (Fld.HOST_CFG_PID (64 * h + i))) else none }

/-- Everything of a hive that waits for an answer, in its order: the queue, lookups, transactions not yet forwarded, and forward slots whose answer has
not passed the crossbar (R234). -/
def State.hiveWaiting (s : State) (h : Nat) : List Msg :=
  (s.fab.home.queue.filter fun m => m.hive == h) ++ (s.fab.home.lookups.filter fun m => m.hive == h)
    ++ (s.fab.home.txns.filterMap fun t => match t.kind with | .request m => if t.hive == h && !t.forwarded && !t.answered then some m else none | _ => none)
    ++ ((s.fab.home.fwd.filter fun e => !e.2.stale && !e.2.passed && e.2.msg.hive == h).map fun e => e.2.msg)

/-- The state of the hive's requests is dropped: slots STALE, holds and transactions ended. -/
def State.hiveForget (s : State) (h : Nat) : State :=
  s.modHome fun o =>
    { o with queue := o.queue.filter (fun m => m.hive != h), lookups := o.lookups.filter (fun m => m.hive != h), fetches := o.fetches.filter (fun f => f.1 != h),
             txns := o.txns.filter (fun t => t.hive != h), holds := o.holds.filter (fun k => k.hive != h),
             fwd := o.fwd.map (fun e => if e.2.msg.hive = h then (e.1, { e.2 with stale := true }) else e),
             snoops := o.snoops.map (fun e => if e.2.hive = h then (e.1, { e.2 with stale := true }) else e) }

/-- A hive goes down (R234, R360). `addr` is the hive offset of a snoop that was not answered, `atype` the ATYPE of the fault. (logs 112, DEDUCED; 120, DEDUCED) -/
def State.hiveDown (s : State) (h cause slot : Nat) (addr : Option Nat := none) (atype : Nat := 8) : State :=
  let told := (List.range 64).filter fun i => s.slotState h i == 1 || s.mayHold h i
  let l := s.hiveWaiting h
  let s := s.puts [(Fld.HIVE_STATUS_STATE h, 4), (Fld.HIVE_STATUS_DOWN_CAUSE h, cause), (Fld.HIVE_STATUS_DOWN_SLOT h, slot)]
  let s := ((s.bumpHgen h).raise (Evt.HOME_HIVE_DOWN h)).count (Ctr.HOME h 15)
  let s := (l.foldl State.answerDown (s.hiveForget h)).clearSets h
  let s := s.modSw fun w => { w with fan := w.fan ++ if told.isEmpty then [] else [told.map (s.hiveDownMsg h cause)] }
  let s := (told.filter fun i => !s.isRemote h i).foldl (fun s i => s.aerFault (s.get (Fld.HOST_CFG_VCS (64 * h + i)))) s
  let s := s.fmEvent .hiveDown 0 h
  let party := if cause = 1 || cause = 2 || cause = 4 then Party.slot h slot else Party.none
  let s := (s.sendFault (s.message (downKind cause) 1 0x070 h atype party addr)).leaveAll h
  (s.put Fld.HOME_SWEEP_HIVES (clearBit (s.get Fld.HOME_SWEEP_HIVES) h)).unwithhold

/-! ### Requests at IEP0 (R220, R221) -/

/-- What SECDED finds in the on-die entry of a sector as it is looked up (R240): a corrected error is told, one that is not takes the hive down, cause DIR_ECC. (log 261, DEDUCED) -/
def State.dirCheck (s : State) (check : HomeCheck) (h x : Nat) : State :=
  if !((assoc s.fab.home.dir (dirKey h x)).any fun d => d.onDie) || !s.hiveServes h then s
  else
    match check with
    | .corrected => (s.raise Evt.DIRC_ECC_CORR).sendFault (s.message Kind.DIR_CE 0 0x071 0 8 Party.none (some (256 * x)))
    | .dirUe => s.hiveDown h 3 0
    | _ => s

/-- Take from IEP0's input the message that `f` picks, and act on it. A parity error of the home's storage, or of that of a tile, is fatal (R240). -/
def State.takeHome (s : State) (check : HomeCheck) (f : Msg → Bool) (g : State → Msg → State) : State :=
  match check, homeHead f [] (mget [] s.fab.sw.iep 0) with
  | .parity, _ => s.fatal (s.message Kind.HOME_PARITY 2 0x070 0 8 Party.none none)
  | .tileParity p, _ => s.fatal (s.message Kind.HOME_PARITY 2 (0x010 + p.val / 4) 0 8 Party.none none)
  | _, none => s
  | check, some m =>
    let s := s.modSw fun w => { w with iep := mput [] w.iep 0 ((mget [] w.iep 0).erase m) }
    g (if m.kind.isAnswer then s else s.dirCheck check m.hive m.sector) m

/-- HOME_MEM_RD (R221). -/
def execHomeMemRd (check : HomeCheck) (s : State) : Host.Outcome State Fault Refusal :=
  done (s.begin.whenActive fun s => s.takeHome check (fun m => m.kind == .memRd || m.kind == .memRdData) State.serve)

/-- HOME_MEM_INV (R221). -/
def execHomeMemInv (check : HomeCheck) (s : State) : Host.Outcome State Fault Refusal :=
  done (s.begin.whenActive fun s => s.takeHome check (fun m => m.kind == .memInv || m.kind == .memInvNT) State.serve)

/-- HOME_MEM_WR (R221). -/
def execHomeMemWr (check : HomeCheck) (s : State) : Host.Outcome State Fault Refusal :=
  done (s.begin.whenActive fun s => s.takeHome check (fun m => m.kind.isMemWrite && !m.writeBack) State.serve)

/-- HOME_MEM_CLN_EVCT (R221). -/
def execHomeMemClnEvct (check : HomeCheck) (s : State) : Host.Outcome State Fault Refusal :=
  done (s.begin.whenActive fun s => s.takeHome check (fun m => m.kind == .memClnEvct) State.serve)

/-- HOME_MEM_SPEC_RD (R221). (log 114, DEDUCED) -/
def execHomeMemSpecRd (check : HomeCheck) (s : State) : Host.Outcome State Fault Refusal :=
  done (s.begin.whenActive fun s => s.takeHome check (fun m => m.kind == .memSpecRd) State.serve)

/-- HOME_BI_CONFLICT (R218). (log 103, DEDUCED) -/
def execHomeBiConflict (check : HomeCheck) (s : State) : Host.Outcome State Fault Refusal :=
  done (s.begin.whenActive fun s => s.takeHome check (fun m => m.kind == .biConflict) State.serve)

/-- HOME_WRITEBACK (R223): the write-back class is processed as soon as it arrives (R224). -/
def execHomeWriteback (check : HomeCheck) (s : State) : Host.Outcome State Fault Refusal :=
  done (s.begin.whenActive fun s => s.takeHome check (fun m => m.kind.isMemWrite && m.writeBack) State.serve)

/-! ### Responses and answers (R226, R231) -/

/-- A BIRsp is discarded and counted (R226). (log 109, DESIGN CHOICE) -/
def State.discardBiRsp (s : State) (h : Nat) : State := (s.count (Ctr.HOME h 9)).raise Evt.HOME_BIRSP_DISCARD

/-- The host slot of a hive that a message comes from, by its VCS or its PID. -/
def State.senderSlot (s : State) (h : Nat) (m : Msg) : Option Nat :=
  (List.range 64).find? fun i =>
    s.mayHold h i && (match m.spid with
      | some p => s.isRemote h i && s.get (Fld.HOST_CFG_PID (64 * h + i)) == p
      | none => !s.isRemote h i && m.vcs == some (s.get (Fld.HOST_CFG_VCS (64 * h + i))))

/-- A target is answered: cleared from the slot's mask; with the mask empty the slot is freed and the transaction goes on (R226). -/
def State.clearTarget (s : State) (k : Nat) (n : SnoopSlot) (i : Nat) (kept : Bool) : State :=
  let s := match s.entry n.hive n.sector with
    | some e => if !kept && e.owns n.line (some i) then s.writeDir n.hive n.sector (e.setLine n.line 0) else s
    | none => s
  let mask := n.mask.filter fun x => x != i
  let s := s.modHome fun o => { o with snoops := if mask.isEmpty then assocDel o.snoops k else assocPut o.snoops k { n with mask := mask } }
  match s.txn n.txn with
  | none => s
  | some t =>
    let t := { t with kept := if kept then t.kept ++ [(n.line, i)] else t.kept, snoops := if mask.isEmpty then t.snoops.filter fun x => x != k else t.snoops }
    (s.setTxn t).advance t

/-- A BIRsp at IEP0 (R226). Which hive counts a response that names a FREE slot is open. -/
def State.biRsp (s : State) (m : Msg) : State :=
  match assoc s.fab.home.snoops (m.tag % 4096) with
  | none => s.used.discardBiRsp (s.free % 16)
  | some n =>
    match s.senderSlot n.hive m with
    | none => s.discardBiRsp n.hive
    | some i =>
      if n.stale || !n.mask.contains i then s.discardBiRsp n.hive
      else if m.kind == .biRspI then (s.clearTarget (m.tag % 4096) n i false).sweep n.hive
      else if m.kind == .biRspS && !n.inv then (s.clearTarget (m.tag % 4096) n i true).sweep n.hive
      else s.hiveDown n.hive 4 i none 4

/-- HOME_BIRSP (R226): the next BIRsp at IEP0. -/
def execHomeBirsp (check : HomeCheck) (s : State) : Host.Outcome State Fault Refusal :=
  done (s.begin.whenActive fun s => s.takeHome check (fun m => m.kind.isBiRsp) State.biRsp)

/-- An answer of a target is one its forward slot expects (R231). -/
def FwdSlot.expects (f : FwdSlot) (k : MsgKind) : Bool :=
  !f.stale && (k == .cmp || k == .cmpS || k == .cmpE || (k == .memData && f.msg.kind.isMemRead))

/-- The home passes a target's answer on (R221): a read's data with the NDR of the state granted, a write's Cmp, under the greater of the device's DevLoad and the request's mark
(R185). -/
def State.passAnswer (s : State) (f : FwdSlot) (a : Msg) : State :=
  let m := { f.msg with devLoad := max a.devLoad f.msg.devLoad }
  if a.kind == .memData then
    let s := s.queueMsg { m.answer .memData a.status a.poison with data := a.data }
    s.reply m f.ndr
  else if f.msg.kind.isMemWrite then s.reply m f.ndr
  else s

/-- What the answer does to the transaction: a write-back is done, or the request is answered (R222, R223). -/
def State.answeredTxn (s : State) (k : Nat) (f : FwdSlot) (a : Msg) : State :=
  match f.txn.bind s.txn with
  | none => s
  | some t =>
    if t.wbs.contains k then
      let t := { t with wbs := t.wbs.filter fun x => x != k }
      (s.setTxn t).advance t
    else if a.kind == .memData || f.msg.kind.isMemWrite then s.setTxn { t with answered := true }
    else s

/-- An answer of a target to a forwarded request (R231): one that fails the check is discarded and counted. (log 115, DESIGN CHOICE) -/
def State.targetAnswer (s : State) (a : Msg) : State :=
  let k := a.tag % 65536
  match assoc s.fab.home.fwd k with
  | none => s.used.count (Ctr.HOME (s.free % 16) 10)
  | some f =>
    let t := s.routeOf f.msg
    if !f.expects a.kind || t.1 != a.src || (a.src != 65 && t.2.1 != a.ld) then s.count (Ctr.HOME f.msg.hive 10)
    else
      let s := s.passAnswer f a
      let passed := f.passed || a.kind == .memData || f.msg.kind.isMemWrite
      let s := s.modHome fun o => { o with fwd := if a.final then assocDel o.fwd k else match assoc o.fwd k with | some f => assocPut o.fwd k { f with passed := passed } | none => o.fwd }
      let s := s.answeredTxn k f a
      (s.fab.home.txns.foldl State.advance s).sweep f.msg.hive

/-- HOME_TARGET_ANSWER (R231): the next answer of a target at IEP0. -/
def execHomeTargetAnswer (check : HomeCheck) (s : State) : Host.Outcome State Fault Refusal :=
  done (s.begin.whenActive fun s => s.takeHome check (fun m => m.kind.isAnswer && !m.kind.isBiRsp) State.targetAnswer)

/-- HOME_BUSY_RELEASE (R222, R228): the answer passes the crossbar: the busy mark of its line is released, and the line is held for the host it was granted to. -/
def execHomeBusyRelease (h : Hive) (sector : Nat) (line : Fin 4) (s : State) : Host.Outcome State Fault Refusal :=
  done (s.begin.whenActive fun s =>
    match s.fab.home.txns.find? fun t => t.hive == h.val && t.sector == sector && t.lines.contains line.val && t.answered with
    | none => s
    | some t =>
      let s := match t.kind with
        | .request m =>
          match m.hslot with
          | some r =>
            if t.grants && s.get (Fld.HIVE_HOLD_HOLD_NS h.val) != 0 then
              s.modHome fun o => { o with holds := o.holds ++ [Hold.mk h.val sector m.line r] }
            else s
          | none => s
        | _ => s
      (s.delTxn t).sweep h.val)

/-- HOLD_EXPIRE (R228): the oldest hold of a line ends. -/
def execHoldExpire (h : Hive) (sector : Nat) (line : Fin 4) (s : State) : Host.Outcome State Fault Refusal :=
  done (s.begin.whenActive fun s =>
    match s.fab.home.holds.find? fun k => k.hive == h.val && k.sector == sector && k.line == line.val with
    | none => s
    | some k => (s.modHome fun o => { o with holds := o.holds.erase k }).sweep h.val)

/-- BI_TIMEOUT (R230): a target of a live snoop that has entered the crossbar has not answered in time. -/
def execBiTimeout (tag : Fin 4096) (slot : Slot) (s : State) : Host.Outcome State Fault Refusal :=
  done (s.begin.whenActive fun s =>
    match assoc s.fab.home.snoops tag.val with
    | none => s
    | some n =>
      let waits := s.fab.sw.fan.any fun l => l.any fun m => m.kind.isBiSnp && m.tag == tag.val
      if n.stale || waits || !n.mask.contains slot.val || !s.hiveServes n.hive then s
      else s.hiveDown n.hive 1 slot.val (some (256 * n.sector + 64 * n.line)) 3)

/-! ### Hive states (R232, R233) -/

/-- Two ranges overlap: some element lies in both. -/
def overlap (a n b m : Nat) : Bool := decide (0 < n) && decide (0 < m) && decide (a < b + m) && decide (b < a + n)

/-- Another hive that is not DISABLED. -/
def State.otherHives (s : State) (h : Nat) : List Nat := (List.range 16).filter fun k => k != h && s.hiveState k != 0

/-- Size of the Comb pool in bytes (R249, R270). -/
def State.poolBytes (s : State) : Nat := 64 * 2 ^ 20 * s.get Fld.COMB_POOL_SIZE

/-- Pool offset and size of pool window k (R272). -/
def State.poolOff (s : State) (k : Nat) : Nat := 2 ^ 28 * s.get (Fld.POOL_WIN_CFG_OFF k)
def State.poolSize (s : State) (k : Nat) : Nat := 2 ^ (28 + s.get (Fld.POOL_WIN_CFG_SIZE k))

/-- Check 4 of R233 for window n of hive h; the ranges of enabled pool windows do not belong to the Comb pool (R267). -/
def State.windowOk (s : State) (h n : Nat) : Bool :=
  let size := s.winSize n
  let b := s.winBase n
  decide (b + size ≤ s.span h) && b % size == 0 && s.get (Fld.WIN_CFG_WAYS n) != 3 && decide (s.get (Fld.WIN_CFG_GRAN n) ≤ 6)
    && (!s.flag (Fld.WIN_CFG_POOL n) || (s.get (Fld.WIN_CFG_WAYS n) == 0 && decide (s.winDpa n + size ≤ s.poolBytes)
      && (List.range 64).all fun k => !s.flag (Fld.POOL_WIN_CFG_EN k) || !overlap (s.winDpa n) size (s.poolOff k) (s.poolSize k)))
    && (List.range 64).all fun w => 64 * h + w == n || !s.flag (Fld.WIN_CFG_EN (64 * h + w)) || !overlap b size (s.winBase (64 * h + w)) (s.winSize (64 * h + w))

/-- Check 5 of R233 for window n. -/
def State.targetsOk (s : State) (n : Nat) : Bool :=
  s.flag (Fld.WIN_CFG_POOL n) || (List.range (2 ^ s.get (Fld.WIN_CFG_WAYS n))).all fun k =>
    let t := s.winTgt n k
    s.roleIs t.1 1 && (!t.2.2 || decide (t.2.1 < mget 0 s.fab.sw.mlds t.1))
      && (if t.2.2 then (s.boundVppb t.1 t.2.1).isNone else (List.range 16).all fun d => (s.boundVppb t.1 d).isNone)

/-- Check 6 of R233 for slot i of hive h. (log 119, DEDUCED) -/
def State.slotOk (s : State) (h i : Nat) : Bool :=
  let k := 64 * h + i
  let v := s.get (Fld.HOST_CFG_VCS k)
  let b := s.hpaBase h i
  b % s.span h == 0
    && (s.flag (Fld.HOST_CFG_REMOTE k)
      || (s.flag (Fld.VCS_ENTRY_CFG_EN v)
        && (List.range 16).all fun g => (List.range 64).all fun j =>
            (g == h && j == i) || s.slotState g j == 0 || s.isRemote g j || s.get (Fld.HOST_CFG_VCS (64 * g + j)) != v
              || (g != h && !overlap b (s.span h) (s.hpaBase g j) (s.span g))))

/-- Checks of R233: the code of the first that fails, 0 where all pass. -/
def State.hiveCheck (s : State) (h : Nat) : Nat :=
  let sb := s.get (Fld.HIVE_DIR_SET_BASE h)
  let sc := s.get (Fld.HIVE_DIR_SET_COUNT h)
  let bb := s.get (Fld.HIVE_BKT_BKT_BASE h)
  let bc := s.get (Fld.HIVE_BKT_BKT_COUNT h)
  let wins := ((List.range 64).map fun w => 64 * h + w).filter fun n => s.flag (Fld.WIN_CFG_EN n)
  if !s.flag Fld.HOME_CFG_EN || 12 < s.get (Fld.HIVE_CFG_SPAN h) then 1
  else if sc = 0 || 128 < sb + sc || (s.otherHives h).any (fun k => overlap sb sc (s.get (Fld.HIVE_DIR_SET_BASE k)) (s.get (Fld.HIVE_DIR_SET_COUNT k))) then 2
  else if s.get Fld.DIRC_CFG_BKT_UNITS < bb + bc
      || (s.otherHives h).any (fun k => overlap bb bc (s.get (Fld.HIVE_BKT_BKT_BASE k)) (s.get (Fld.HIVE_BKT_BKT_COUNT k))) then 3
  else if !wins.all (s.windowOk h) then 4
  else if !wins.all s.targetsOk then 5
  else if !((List.range 64).filter fun i => s.slotState h i != 0).all (s.slotOk h) then 6
  else 0

/-- EN written 1 (R232): in DISABLED it is checked and starts the clearing. -/
def State.hiveEnable (s : State) (h : Nat) : State :=
  if s.locked 0x70 || s.hiveState h != 0 then s
  else
    match s.hiveCheck h with
    | 0 => (((s.put (Fld.HIVE_CTL_EN h) 1).put (Fld.HIVE_STATUS_STATE h) 1).bumpHgen h).clearSets h
    | c => s.put (Fld.HIVE_STATUS_CFG_ERR h) c

/-- A hive enters DISABLED (R232, R236). (log 104, DEDUCED) -/
def State.hiveOff (s : State) (h : Nat) : State :=
  let s := (s.leaveAll h).puts [(Fld.HIVE_STATUS_STATE h, 0), (Fld.HIVE_CTL_EN h, 0)]
  let s := ((List.range 64).filter fun i => s.slotState h i == 2).foldl (fun s i => s.setSlotState h i 1) s
  s.modHome fun o => { o with holds := o.holds.filter fun k => k.hive != h }

/-- EN written 0 (R232). -/
def State.hiveDisable (s : State) (h : Nat) : State :=
  if s.locked 0x70 then s
  else
    match s.hiveState h with
    | 1 | 4 => s.hiveOff h
    | 2 =>
      if (List.range 64).all (fun i => !s.mayHold h i) && !s.fab.home.txns.any (fun t => t.hive == h) then (s.hiveOff h).bumpHgen h else s
    | _ => s

/-- A hive becomes ACTIVE. -/
def State.hiveActive (s : State) (h : Nat) : State := (s.put (Fld.HIVE_STATUS_STATE h) 2).raise Evt.HOME_HIVE_ACTIVE

/-- The sweep bit of a hive ends with its last sweep (R241). -/
def State.sweepOver (s : State) (h : Nat) : State :=
  if bitsOf (s.get Fld.HOME_SWEEP_HIVES) h 1 == 1 && (List.range 64).all (fun i => s.slotState h i != 3) && s.hiveState h != 3 then
    s.put Fld.HOME_SWEEP_HIVES (s.get Fld.HOME_SWEEP_HIVES - 2 ^ h)
  else s

/-- RECOVERED written 1 (R237): with TAIL = 1 in RECOVERING, the hive is ACTIVE at once; entries of the previous HGEN no longer count. -/
def State.hiveRecovered (s : State) (h : Nat) : State :=
  if s.hiveState h == 3 && s.flag (Fld.HIVE_STATUS_TAIL h) then
    let s := (s.put (Fld.HIVE_STATUS_TAIL h) 0).hiveActive h
    (((s.counting h).map (·.1)).foldl (fun s x => s.tidy h x) s).sweepOver h
  else s

/-- A software DOWN (R232, R242). -/
def State.hiveDownWrite (s : State) (h : Nat) : State := if s.hiveServes h then s.hiveDown h 5 0 else s

/-- A write of HIVE_CTL (R242): one input of the table, DOWN before RECOVERED before EN. (log 110, DEDUCED) -/
def State.writeHiveCtl (s : State) (h v : Nat) : State :=
  if bitsOf v 1 1 == 1 && s.hiveServes h then s.hiveDownWrite h
  else if bitsOf v 2 1 == 1 && s.hiveState h == 3 && s.flag (Fld.HIVE_STATUS_TAIL h) then s.hiveRecovered h
  else if bitsOf v 0 1 == 1 then s.hiveEnable h
  else s.hiveDisable h

/-- HIVE_ENABLE (R233). -/
def execHiveEnable (m : Master) (h : Hive) (s : State) : Host.Outcome State Fault Refusal :=
  done (s.begin.guardMirrored m 0x70 fun s => s.hiveEnable h.val)

/-- HIVE_DISABLE (R232). -/
def execHiveDisable (m : Master) (h : Hive) (s : State) : Host.Outcome State Fault Refusal :=
  done (s.begin.guardMirrored m 0x70 fun s => s.hiveDisable h.val)

/-- HIVE_DOWN_WRITE (R242). -/
def execHiveDownWrite (m : Master) (h : Hive) (s : State) : Host.Outcome State Fault Refusal :=
  done (s.begin.guardMirrored m 0x70 fun s => s.hiveDownWrite h.val)

/-- HIVE_RECOVERED (R237). -/
def execHiveRecovered (m : Master) (h : Hive) (s : State) : Host.Outcome State Fault Refusal :=
  done (s.begin.guardMirrored m 0x70 fun s => s.hiveRecovered h.val)

/-- HIVE_CLEAR_DONE (R232): the buckets of a hive in CLEARING are cleared; HGEN takes a value that waited; every slot with EN = 1 becomes ACTIVE. -/
def execHiveClearDone (h : Hive) (s : State) : Host.Outcome State Fault Refusal :=
  done (s.begin.whenActive fun s =>
    if s.hiveState h.val = 1 then
      let waited := s.fab.home.clearing.contains h.val
      let s := (s.clearBuckets h.val).modHome fun o => { o with clearing := o.clearing.filter fun k => k != h.val }
      let s := if waited then s.put (Fld.HIVE_STATUS_HGEN h.val) ((s.hgen h.val + 1) % 256) else s
      let s := ((List.range 64).filter fun i => s.slotState h.val i == 1).foldl (fun s i => s.setSlotState h.val i 2) s
      s.hiveActive h.val
    else s)

/-- HGEN_CLEAR_DONE (R242). -/
def execHgenClearDone (h : Hive) (s : State) : Host.Outcome State Fault Refusal :=
  done (s.begin.whenActive fun s =>
    if s.fab.home.clearing.contains h.val && s.hiveState h.val != 1 then
      let s := (s.clearBuckets h.val).modHome fun o => { o with clearing := o.clearing.filter fun k => k != h.val }
      s.put (Fld.HIVE_STATUS_HGEN h.val) ((s.hgen h.val + 1) % 256)
    else s)

/-! ### Host slots (R236) -/

/-- A departure starts (R236). -/
def State.startLeave (s : State) (h i : Nat) : State :=
  if s.slotState h i != 2 then s
  else if s.hiveServes h then ((s.setSlotState h i 3).put Fld.HOME_SWEEP_HIVES (s.get Fld.HOME_SWEEP_HIVES ||| 2 ^ h)).sweep h
  else s.slotLeft h i

/-- EN written 1 to a slot (R236): in EMPTY, with the other fields of the write, subject to check 6. -/
def State.slotEnable (s : State) (h i v : Nat) : State :=
  let k := 64 * h + i
  if s.locked 0x70 || s.slotState h i != 0 then s
  else
    let s' := s.puts [(Fld.HOST_CFG_REMOTE k, bitsOf v 1 1), (Fld.HOST_CFG_VCS k, bitsOf v 2 6), (Fld.HOST_CFG_PID k, bitsOf v 8 12)]
    if s'.slotOk h i then (s'.put (Fld.HOST_CFG_EN k) 1).setSlotState h i (if s.hiveServes h then 2 else 1)
    else s.put (Fld.HIVE_STATUS_CFG_ERR h) 6

/-- EN written 0 to a slot: LOST and READY become EMPTY; in EMPTY the other fields are written (R236, R243). -/
def State.slotDisable (s : State) (h i v : Nat) : State :=
  let k := 64 * h + i
  if s.locked 0x70 then s
  else
    match s.slotState h i with
    | 0 => s.puts [(Fld.HOST_CFG_REMOTE k, bitsOf v 1 1), (Fld.HOST_CFG_VCS k, bitsOf v 2 6), (Fld.HOST_CFG_PID k, bitsOf v 8 12)]
    | 1 | 4 => (s.put (Fld.HOST_CFG_EN k) 0).setSlotState h i 0
    | _ => s

/-- A write of HOST_CFG (R243). -/
def State.writeHostCfg (s : State) (h i v : Nat) : State :=
  let leave := bitsOf v 24 1 == 1 && s.slotState h i == 2
  if leave then s.startLeave h i else if bitsOf v 0 1 == 1 then s.slotEnable h i v else s.slotDisable h i v

/-- HOST_SLOT_ENABLE (R236): a write of HOST_CFG with EN = 1. -/
def execHostSlotEnable (m : Master) (h : Hive) (i : Slot) (value : Word) (s : State) : Host.Outcome State Fault Refusal :=
  done (s.begin.guardMirrored m 0x70 fun s => s.slotEnable h.val i.val value.toNat)

/-- HOST_SLOT_DISABLE (R236): a write of HOST_CFG with EN = 0. -/
def execHostSlotDisable (m : Master) (h : Hive) (i : Slot) (value : Word) (s : State) : Host.Outcome State Fault Refusal :=
  done (s.begin.guardMirrored m 0x70 fun s => s.slotDisable h.val i.val value.toNat)

/-- HOST_LEAVE (R236). -/
def execHostLeave (m : Master) (h : Hive) (i : Slot) (s : State) : Host.Outcome State Fault Refusal :=
  done (s.begin.guardMirrored m 0x70 fun s => s.startLeave h.val i.val)

/-- An entry names a slot as a holder. -/
def DirEntry.names (e : DirEntry) (i : Nat) : Bool := (e.st.contains 1 && bitsOf e.sharers i 1 == 1) || (e.st.contains 2 && e.owner == i) || e.st.contains 3

/-- HOST_SWEEP_DONE (R236): no entry names the leaving slot and none of its sweep's snoops is outstanding. -/
def execHostSweepDone (h : Hive) (i : Slot) (s : State) : Host.Outcome State Fault Refusal :=
  done (s.begin.whenActive fun s =>
    if s.slotState h.val i.val = 3 && (s.counting h.val).all (fun e => !e.2.e.names i.val) && !s.fab.home.txns.any (fun t => t.kind == .leave i.val && t.hive == h.val) then
      ((s.slotLeft h.val i.val).raise Evt.HOME_SWEEP_DONE).sweepOver h.val
    else s)

/-- Outstanding snoops to a slot that has become LOST count as answered BIRspI (R224). -/
def State.lostSnoops (s : State) (h i : Nat) : State :=
  (s.fab.home.snoops.filter fun e => !e.2.stale && e.2.hive == h && e.2.mask.contains i).foldl (fun s e =>
    match assoc s.fab.home.snoops e.1 with
    | some n => s.clearTarget e.1 n i false
    | none => s) s

/-- A slot whose host's link has gone down (R236). -/
def State.slotLost (s : State) (h i : Nat) : State :=
  if !s.mayHold h i then s
  else if s.hiveState h == 3 || (s.hiveState h == 2 && s.owned h i != 0) then s.hiveDown h 2 i
  else ((s.setSlotState h i 4).raise Evt.HOME_HOST_LOST).lostSnoops h i |>.sweepOver h

/-- The USP link of VCS v has left L0, L0p and L1: its host's slots are lost (R149, R236). -/
def State.hostLost (s : State) (v : Nat) : State :=
  (List.range 1024).foldl (fun s k =>
    if s.slotState (k / 64) (k % 64) != 0 && !s.flag (Fld.HOST_CFG_REMOTE k) && s.get (Fld.HOST_CFG_VCS k) == v then s.slotLost (k / 64) (k % 64) else s) s

/-- A remote host has become unreachable (R236, R239). -/
def State.pidLost (s : State) (pid : Nat) : State :=
  (List.range 1024).foldl (fun s k =>
    if s.slotState (k / 64) (k % 64) != 0 && s.flag (Fld.HOST_CFG_REMOTE k) && s.get (Fld.HOST_CFG_PID k) == pid then s.slotLost (k / 64) (k % 64) else s) s

/-- Requests the home has forwarded to a port that is flushed are answered; their slots become STALE (R153, R231). -/
def State.homePortLost (s : State) (p : Nat) : State :=
  (s.fab.home.fwd.filter fun e => !e.2.stale && (s.routeOf e.2.msg).1 == p).foldl (fun s e =>
    let s := s.modHome fun o => { o with fwd := assocPut o.fwd e.1 { e.2 with stale := true } }
    let s := if e.2.passed then s else e.2.msg.flushed.foldl State.queueMsg s
    match e.2.txn.bind s.txn with
    | some t =>
      if t.wbs.contains e.1 then
        let t := { t with wbs := t.wbs.filter fun x => x != e.1 }
        (s.setTxn t).advance t
      else s.setTxn { t with answered := true }
    | none => s) s

/-! ### Recovery (R238) -/

/-- SECTOR_RESOLVE (R238): an unresolved sector whose lines are neither busy nor held is resolved; where its entry finds no way, a victim is evicted first (R229). -/
def execSectorResolve (h : Hive) (sector : Nat) (s : State) : Host.Outcome State Fault Refusal :=
  done (s.begin.whenActive fun s =>
    if s.unresolved h.val sector && !s.fab.home.clearing.contains h.val && !s.sectorBusy h.val sector && !s.sectorHeld h.val sector then
      if (s.entry h.val sector).isNone && 16 ≤ s.waysUsed h.val sector then s.evict h.val sector
      else s.startTxn h.val sector [0, 1, 2, 3] .resolve [(0, true), (1, true), (2, true), (3, true)]
    else s)

/-- RECOVERY_SWEEP_DONE (R238, R232): no entry names an unresolved sector: SWEEP_DONE; with TAIL = 0 the hive becomes ACTIVE. -/
def execRecoverySweepDone (h : Hive) (s : State) : Host.Outcome State Fault Refusal :=
  done (s.begin.whenActive fun s =>
    if s.hiveState h.val = 3 && (s.unresolvedNamed h.val).isEmpty && !s.fab.home.clearing.contains h.val && bitsOf (s.get Fld.HOME_SWEEP_HIVES) h.val 1 == 1 then
      let s := s.raise Evt.HOME_SWEEP_DONE
      if s.flag (Fld.HIVE_STATUS_TAIL h.val) then
        (if (List.range 64).all fun i => s.slotState h.val i != 3 then s.put Fld.HOME_SWEEP_HIVES (s.get Fld.HOME_SWEEP_HIVES - 2 ^ h.val) else s)
      else (s.hiveActive h.val).sweepOver h.val
    else s)

/-! ### DIRC lookups and clears (R241, R245) -/

/-- A lookup of one sector is started. -/
def State.startLookup (s : State) : State :=
  let x := s.get Fld.DIRC_QSEL_LO_SECTOR_LO + 2 ^ 32 * s.get Fld.DIRC_QSEL_HI_SECTOR_HI
  (s.put Fld.DIRC_QSTAT_DONE 0).modHome fun o => { o with lookup := some (s.get Fld.DIRC_QSEL_HI_HIVE, x) }

/-- The commit of DIRC_QSEL_HI with a value (R7, R245). -/
def State.writeQselHi (s : State) (v : Nat) : State :=
  (s.puts [(Fld.DIRC_QSEL_HI_SECTOR_HI, bitsOf v 0 6), (Fld.DIRC_QSEL_HI_HIVE, bitsOf v 8 4)]).startLookup

/-- DIRC_LOOKUP (R245): both words of DIRC_QSEL are written. -/
def execDircLookup (m : Master) (lo hi : Word) (s : State) : Host.Outcome State Fault Refusal :=
  done (s.begin.guard m 0x71 fun s => (s.put Fld.DIRC_QSEL_LO_SECTOR_LO lo.toNat).writeQselHi hi.toNat)

/-- The 128 bits of an entry (R219). -/
def DirEntry.bits (e : DirEntry) (x : Nat) : Nat :=
  e.sharers % 2 ^ 64 + e.owner % 64 * 2 ^ 64 + (e.line 0 + 4 * e.line 1 + 16 * e.line 2 + 64 * e.line 3) * 2 ^ 70 + e.hgen % 256 * 2 ^ 78 + 2 ^ 86 + x % 2 ^ 38 * 2 ^ 87

/-- One bit per line. -/
def lineBits (f : Nat → Bool) : Nat := bit (f 0) + 2 * bit (f 1) + 4 * bit (f 2) + 8 * bit (f 3)

/-- DIRC_LOOKUP_DONE (R245). -/
def execDircLookupDone (s : State) : Host.Outcome State Fault Refusal :=
  done (s.begin.whenFabric fun s =>
    match s.fab.home.lookup with
    | none => s
    | some (h, x) =>
      let e := s.entry h x
      let w := match e with
        | some e => e.bits x
        | none => 0
      let onDie := match assoc s.fab.home.dir (dirKey h x) with
        | some d => d.onDie
        | none => false
      let s := s.puts [(Fld.DIRC_QSTAT_DONE, 1), (Fld.DIRC_QSTAT_FOUND, bit e.isSome), (Fld.DIRC_QSTAT_ONDIE, bit (e.isSome && onDie)),
        (Fld.DIRC_QSTAT_BUSY, lineBits (s.busy h x)), (Fld.DIRC_QSTAT_HELD, lineBits fun j => s.heldBy h x j (List.range 64)),
        (Fld.DIRC_QSTAT_UNRESOLVED, bit (s.unresolved h x)), (Fld.DIRC_QRESULT_WORD 0, w), (Fld.DIRC_QRESULT_WORD 1, w / 2 ^ 32),
        (Fld.DIRC_QRESULT_WORD 2, w / 2 ^ 64), (Fld.DIRC_QRESULT_WORD 3, w / 2 ^ 96)]
      (s.modHome fun o => { o with lookup := none }).raise Evt.DIRC_LOOKUP_DONE)

/-- HOME_CQ_HWM_CLEAR (R241): a write of any value. -/
def execHomeCqHwmClear (m : Master) (_value : Word) (s : State) : Host.Outcome State Fault Refusal :=
  done (s.begin.guard m 0x70 fun s => s.put Fld.HOME_CQ_HWM_HWM 0)

end Sys2Proof.Machine
end

