-- ==== Sys2Proof/Machine/Perf.lean ====
section
/-! DEFINITION. Sys2Proof/Machine/Perf.lean: snapshots, host user access, overflow samplers, the latency sampler and the telemetry ring (R416 to R430). -/
namespace Sys2Proof.Machine
open Sys2Proof

/-! ### Naming counters -/

/-- The live counter of array page 0x800 + g and index c, 0 where the array map assigns none (R418). -/
def State.liveCounter (s : State) (g c : Nat) : Nat :=
  if perfAssigned g c then (s.counter ((0x800 + g) * 0x10000 + 0x1000 + 8 * c)).toNat else 0

/-- PERF_VIEW of a master (R420). -/
def State.view (s : State) (m : Master) : Nat := ((s.perf.views.find? fun e => e.1 == m).map (·.2)).getD 0

/-- The counter a master reads at an array address: the snapshot slot its PERF_VIEW selects on the pages of that slot, the live counter elsewhere (R420). -/
def State.viewedCounter (s : State) (m : Master) (a : Nat) : Nat :=
  let v := s.view m
  let g := a / 0x10000 - 0x800
  let live := s.liveCounter g ((a % 0x10000 - 0x1000) / 8)
  if bitsOf v 2 1 = 1 then
    match assoc s.perf.snaps (bitsOf v 0 2) with
    | some x => if x.first ≤ g && g ≤ x.last then (sparseGet (fun _ => (0 : Word64)) x.counts a).toNat else live
    | none => live
  else live

/-- The entry of PERF_USER_MAP or PERF_EXP names a live counter, or 0 when it is invalid (R422, R427). -/
def State.namedCounter (s : State) (entry : Nat) : Nat :=
  if bitsOf entry 31 1 = 1 then s.liveCounter (bitsOf entry 0 8) (bitsOf entry 8 13) else 0

/-! ### Snapshots (R420, R421) -/

/-- A write of PERF_SNAP_CTL[k]. -/
def State.writeSnapCtl (s : State) (k v : Nat) : State :=
  let first := bitsOf v 0 8
  let last := bitsOf v 8 8
  if bitsOf v 16 1 = 0 then s.puts [(Fld.PERF_SNAP_CTL_FIRST k, first), (Fld.PERF_SNAP_CTL_LAST k, last)]
  else if s.flag (Fld.PERF_SNAP_CTL_BUSY k) || last < first then s
  else
    let s := s.puts [(Fld.PERF_SNAP_CTL_FIRST k, first), (Fld.PERF_SNAP_CTL_LAST k, last), (Fld.PERF_SNAP_CTL_BUSY k, 1)]
    let s := s.put64 (Addr.PERF_SNAP_TS_LO k) s.now
    let c := s.ctrs.filter fun e => decide (0x800 + first ≤ e.1 / 0x10000) && decide (e.1 / 0x10000 ≤ 0x800 + last)
    { s with perf := { s.perf with snaps := assocPut s.perf.snaps k { first := first, last := last, ts := s.now, counts := c } } }

/-- PERF_SNAP_TAKE (R420). -/
def execPerfSnapTake (m : Master) (k : Fin 4) (value : Word) (s : State) : Host.Outcome State Fault Refusal :=
  done (s.begin.guard m 0x0A fun s => s.writeSnapCtl k.val value.toNat)

/-- PERF_SNAP_DONE (R420). -/
def execPerfSnapDone (k : Fin 4) (s : State) : Host.Outcome State Fault Refusal :=
  done (s.begin.whenMgmt fun s =>
    if s.flag (Fld.PERF_SNAP_CTL_BUSY k.val) then
      (s.puts [(Fld.PERF_SNAP_CTL_BUSY k.val, 0), (Fld.PERF_SNAP_CTL_VALID k.val, 1)]).raise Evt.PERF_SNAP_DONE
    else s)

/-! ### Host user access (R422) -/

/-- What BAR2 of VCS v returns for an aligned read of 8 bytes at an offset. (log 84, DEDUCED) -/
def State.userValue (s : State) (v off : Nat) : Nat :=
  if off / 8 < 128 then s.namedCounter (s.word (Addr.PERF_USER_MAP (128 * v + off / 8))).toNat
  else if off / 8 = 128 then s.now else 0

/-- USER_COUNTER_READ (R422): one access of 4 or 8 bytes, naturally aligned; 0 while the VCS is not enabled for it. -/
def execUserCounterRead (v : Vcs) (off : Nat) (bytes : Nat) (s : State) : Host.Outcome State Fault Refusal :=
  let s := s.begin
  let en := bitsOf (s.get64 Addr.PERF_CNT_USER_EN_LO) v.val 1 == 1
  let x := if en && s.clk.mgmtUp then s.userValue v.val off else 0
  done (if !s.userReached v.val then s.emit (.unsupported (.host v))
    else if bytes = 8 && off % 8 = 0 then s.emit (.userRead v.val x)
    else if bytes = 4 && off % 4 = 0 then s.emit (.userRead v.val (if off % 8 = 0 then x % 2 ^ 32 else x / 2 ^ 32))
    else s.emit (.unsupported (.host v)))

/-! ### Overflow samplers (R423) -/

/-- PERF_OVF_TRIGGER: the watched counter has reached the threshold, compared modulo 2^64. (log 76, DEDUCED) -/
def execPerfOvfTrigger (k : Fin 16) (s : State) : Host.Outcome State Fault Refusal :=
  done (s.begin.whenMgmt fun s =>
    let c := s.liveCounter (s.get (Fld.PERF_OVF_SEL_PAGE k.val)) (s.get (Fld.PERF_OVF_SEL_INDEX k.val))
    let thr := s.get64 (Addr.PERF_OVF_THR_LO k.val)
    let period := s.get64 (Addr.PERF_OVF_PERIOD_LO k.val)
    if s.flag (Fld.PERF_OVF_SEL_EN k.val) && !s.perf.disarmed.contains k.val && (c + 2 ^ 64 - thr) % 2 ^ 64 < 2 ^ 63 then
      let pending := (s.pend 0x0A).testBit k.val
      let s := if pending then s.addSat (Fld.PERF_OVF_MISSED_COUNT k.val) 1
        else (s.raise (Evt.PERF_SAMPLE k.val)).put64 (Addr.PERF_OVF_VAL_LO k.val) c
      let s := s.put64 (Addr.PERF_OVF_THR_LO k.val) (thr + period)
      if period = 0 then { s with perf := { s.perf with disarmed := k.val :: s.perf.disarmed } } else s
    else s)

/-- A write of THR or SEL arms a sampler that a PERIOD of 0 had disarmed (R423). -/
def State.rearm (s : State) (k : Nat) : State := { s with perf := { s.perf with disarmed := s.perf.disarmed.filter (· != k) } }

/-! ### Latency sampler (R424, R425) -/

/-- Does histogram h match the sample? -/
def State.histMatches (s : State) (h : Nat) (x : LatSample) : Bool :=
  s.flag (Fld.PERF_HIST_CFG_EN h) && (s.flag (Fld.PERF_HIST_CFG_IN_ANY h) || s.get (Fld.PERF_HIST_CFG_IN_PORT h) == x.inPort.val)
    && (s.flag (Fld.PERF_HIST_CFG_OUT_ANY h) || s.get (Fld.PERF_HIST_CFG_OUT_PORT h) == x.outPort.val)
    && (s.get (Fld.PERF_HIST_CFG_SVC h)).testBit x.svc.val

/-- The bin of latency l with BASE and SHIFT (R424). -/
def latencyBin (base shift l : Nat) : Nat := if l < base + 2 ^ shift then 0 else min 31 ((l - base) / 2 ^ shift)

/-- One sample enters histogram h. -/
def State.histAdd (s : State) (h : Nat) (x : LatSample) : State :=
  if !s.histMatches h x then s
  else if x.skipped then s.count (Ctr.HSTAT h 2)
  else
    let l := if s.flag (Fld.PERF_HIST_CFG_MODE h) then x.roundTrip else x.oneWay
    let s := ((s.count (Ctr.HIST h (latencyBin (s.get (Fld.PERF_HIST_BASE_BASE h)) (s.get (Fld.PERF_HIST_CFG_SHIFT h)) l))).count (Ctr.HSTAT h 0)).count (Ctr.HSTAT h 1) l
    s.put (Fld.PERF_HIST_MAX_NS h) (min (2 ^ 32 - 1) (max (s.get (Fld.PERF_HIST_MAX_NS h)) l))

/-- The telemetry record of a timed sample for one MODE (R427). (log 77, DEDUCED) -/
def LatSample.record (x : LatSample) (mode now : Nat) : TelRecord :=
  { type := 2, info := 0, time := now,
    body := padTo 12 [x.inPort.val + x.outPort.val * 2 ^ 8 + x.svc.val * 2 ^ 16 + mode * 2 ^ 24, x.sub.val, (if mode = 1 then x.roundTrip else x.oneWay) % 2 ^ 32] }

/-- LATENCY_SAMPLE (R424, R425): while the sampler is enabled, a timed request enters every matching histogram; one answered by a flush, fault or hive-down is
discarded. (log 281, DESIGN CHOICE) -/
def execLatencySample (x : LatSample) (s : State) : Host.Outcome State Fault Refusal :=
  done (s.begin.whenMgmt fun s =>
    if !s.flag Fld.PERF_LAT_CFG_EN || x.discarded then s
    else
      let used (mode : Nat) := (List.range 64).any fun h => s.histMatches h x && s.get (Fld.PERF_HIST_CFG_MODE h) == mode
      let rec_ := s.flag Fld.PERF_RING_CFG_LATENCY && !x.skipped
      let u0 := used 0
      let u1 := used 1
      let s := (List.range 64).foldl (fun s h => s.histAdd h x) s
      let s := if rec_ && u0 then s.stageRecord (x.record 0 s.now) else s
      if rec_ && u1 then s.stageRecord (x.record 1 s.now) else s)

/-! ### Telemetry ring (R426 to R428) -/

/-- Records the ring holds at most (R426). -/
def State.ringCapacity (s : State) : Nat := 1048576 * bitsOf (s.get Fld.COMB_PART_ACT_SIZES) 16 6

/-- The sixteen words of a record with its SEQ (R427). -/
def TelRecord.words (r : TelRecord) (seq : Nat) : List Nat :=
  [r.type + r.info * 2 ^ 8, seq % 2 ^ 32, r.time % 2 ^ 32, r.time / 2 ^ 32 % 2 ^ 32] ++ padTo 12 r.body

/-- One staged record is written to the ring. -/
def State.ringWrite (s : State) (r : TelRecord) : State :=
  if s.ringCapacity = 0 then s
  else
    let seq := (s.get Fld.PERF_RING_WR_SEQ + 1) % 2 ^ 32
    let s := s.put Fld.PERF_RING_WR_SEQ seq
    { s with fab := { s.fab with ring := assocPut s.fab.ring (seq % s.ringCapacity) (r.words seq) } }

/-- Client TELEM empties the staging buffer into the ring (R426). (log 79, DESIGN CHOICE) -/
def State.drainStage (s : State) : State :=
  let l := s.fab.stage
  let s := { s with fab := { s.fab with stage := [] } }
  l.foldl State.ringWrite s

/-- A write of PERF_RING_CFG (R426, R429): EN = 1 without a partition and a PERIOD of 0 are ignored; enabling starts SEQ again. (log 78, DEDUCED) -/
def State.writeRingCfg (s : State) (v : Nat) : State :=
  let old := s.flag Fld.PERF_RING_CFG_EN
  let en := bitsOf v 0 1 == 1 && s.ringCapacity != 0
  let s := s.puts [(Fld.PERF_RING_CFG_EN, bit en), (Fld.PERF_RING_CFG_FAULTS, bitsOf v 1 1), (Fld.PERF_RING_CFG_LATENCY, bitsOf v 2 1), (Fld.PERF_RING_CFG_EXPORT, bitsOf v 3 1)]
  let s := if bitsOf v 8 16 = 0 then s else s.put Fld.PERF_RING_CFG_PERIOD (bitsOf v 8 16)
  if en && !old then
    let s := s.put Fld.PERF_RING_WR_SEQ 0
    { s with fab := { s.fab with ring := [], stage := [] } }
  else s

/-- PERF_EXPORT_TIMER (R427): the counters of PERF_EXP at one instant, six to a record. -/
def execPerfExportTimer (s : State) : Host.Outcome State Fault Refusal :=
  done (s.begin.whenMgmt fun s =>
    if s.flag Fld.PERF_RING_CFG_EN && s.flag Fld.PERF_RING_CFG_EXPORT then
      let valid := (List.range 48).filter fun i => bitsOf (s.word (Addr.PERF_EXP i)).toNat 31 1 == 1
      let n := ((valid.getLast?).map (· + 1)).getD 0
      let body (r : Nat) := (List.range 6).flatMap fun j =>
        let x := s.namedCounter (s.word (Addr.PERF_EXP (6 * r + j))).toNat
        [x % 2 ^ 32, x / 2 ^ 32]
      let recs := (List.range ((n + 5) / 6)).map fun r => ({ type := 3, info := r, time := s.now, body := body r } : TelRecord)
      recs.foldl State.stageRecord s
    else s)

/-- A write of PERF_RING_MARK (R427). -/
def State.writeRingMark (s : State) (v : Nat) : State := s.stageRecord { type := 4, info := 0, time := s.now, body := [v] }

/-- PERF_RING_MARK (R427). -/
def execPerfRingMark (m : Master) (value : Word) (s : State) : Host.Outcome State Fault Refusal :=
  done (s.begin.guard m 0x0A fun s => s.writeRingMark value.toNat)

/-- A write of PERF_RING_RD (R428) clears WIN_READY and starts the fetch. -/
def State.writeRingRd (s : State) (v : Nat) : State :=
  let s := s.puts [(Fld.PERF_RING_RD_SEQ, v), (Fld.PERF_RING_STATUS_WIN_READY, 0)]
  { s with perf := { s.perf with fetching := true } }

/-- PERF_RING_RD (R428). -/
def execPerfRingRd (m : Master) (value : Word) (s : State) : Host.Outcome State Fault Refusal :=
  done (s.begin.guard m 0x0A fun s => s.writeRingRd value.toNat)

/-- The words of ring record seq, zeros when it is not held (R428). -/
def State.ringRecord (s : State) (seq oldest last : Nat) : List Nat :=
  if oldest ≤ seq && seq ≤ last then
    match assoc s.fab.ring (seq % s.ringCapacity) with
    | some w => if nth w 1 = seq then padTo 16 w else List.replicate 16 0
    | none => List.replicate 16 0
  else List.replicate 16 0

/-- PERF_RING_WIN_READY (R428): 64 records from RD on are in the window; a record already overwritten moves RD to the oldest held. -/
def execPerfRingWinReady (s : State) : Host.Outcome State Fault Refusal :=
  done (s.begin.whenMgmt fun s =>
    if !s.perf.fetching then s
    else
      let last := s.get Fld.PERF_RING_WR_SEQ
      let oldest := max 1 (last + 1 - s.ringCapacity)
      let rd := s.get Fld.PERF_RING_RD_SEQ
      let lost := if 1 < oldest then oldest - rd else 0
      let s := if lost = 0 then s else ((s.put Fld.PERF_RING_RD_SEQ oldest).addSat Fld.PERF_RING_LOST_COUNT lost).raise Evt.PERF_RING_LOST
      let rd := if lost = 0 then rd else oldest
      let words := (List.range 64).flatMap fun i => s.ringRecord (rd + i) oldest last
      let s := ((List.range 1024).zip words).foldl (fun s e => s.put (Fld.PERF_RING_WIN_WORD e.1) e.2) s
      let s := { s with perf := { s.perf with fetching := false } }
      (s.put Fld.PERF_RING_STATUS_WIN_READY 1).raise Evt.PERF_WIN_READY)

/-! ### Clears of maxima (R429) -/

/-- PERF_HIST_MAX_CLEAR: a write of any value. -/
def execPerfHistMaxClear (m : Master) (h : Fin 64) (_value : Word) (s : State) : Host.Outcome State Fault Refusal :=
  done (s.begin.guard m 0x0A fun s => s.put (Fld.PERF_HIST_MAX_NS h.val) 0)

/-- PERF_OVF_MISSED_CLEAR: a write of any value. -/
def execPerfOvfMissedClear (m : Master) (k : Fin 16) (_value : Word) (s : State) : Host.Outcome State Fault Refusal :=
  done (s.begin.guard m 0x0A fun s => s.put (Fld.PERF_OVF_MISSED_COUNT k.val) 0)

end Sys2Proof.Machine
end

