-- ==== Sys2Proof/Machine/Comb.lean ====
section
/-! DEFINITION. Sys2Proof/Machine/Comb.lean: Comb (R247 to R273): partitions, training and clearing, errors, the client arbiters, and the Comb pool behind IEP1. -/
namespace Sys2Proof.Machine
open Sys2Proof

def State.modComb (s : State) (f : Comb → Comb) : State := { s with fab := { s.fab with comb := f s.fab.comb } }

/-- Comb serves its clients (R252). -/
def State.combUp (s : State) : Bool := s.get Fld.COMB_STATUS_STATE == 3

/-! ### Partitions, training, clearing (R249 to R253) -/

/-- Bounds of a partition in 64 MiB units, from the sizes in force: 0 directory, 1 dirty logs, 2 journal, 3 telemetry, 4 keeper scratch, 5 pool (R249). -/
def partBounds (sizes k : Nat) : Nat × Nat :=
  let n := [16 * bitsOf sizes 0 4, bitsOf sizes 4 6, bitsOf sizes 10 6, bitsOf sizes 16 6, bitsOf sizes 22 6]
  ((n.take k).sum, if k < 5 then (n.take (k + 1)).sum else 256)

/-- The partition of a Comb byte address. -/
def State.partOf (s : State) (a : Nat) : Nat :=
  let sizes := s.get Fld.COMB_PART_ACT_SIZES
  ((List.range 5).find? fun k => decide (a / 2 ^ 26 < (partBounds sizes k).2)).getD 5

/-- Byte address at which a partition starts. -/
def State.partBase (s : State) (k : Nat) : Nat := 2 ^ 26 * (partBounds (s.get Fld.COMB_PART_ACT_SIZES) k).1

/-- The partitions a client may address (R249, R251): SCRUB reads them all. -/
def clientParts (client : Nat) : List Nat :=
  match client with
  | 0 | 1 => [0]
  | 2 => [1]
  | 3 => [2]
  | 4 => [3]
  | 5 => [4]
  | 6 => List.range 6
  | _ => [5]

/-- A request of a client lies in its own partition (R251). -/
def State.inBounds (s : State) (client a : Nat) : Bool := (clientParts client).contains (s.partOf a)

/-- A request outside its client's partition is fatal (R251). -/
def State.partFault (s : State) (client : Nat) : State := s.fatal (s.message Kind.PART_BOUND 2 0x080 0 8 (Party.combClient client) none)

/-- COMB_TRAIN_DONE (R252, R257, R75): every channel and pseudo-channel is trained and the repair list applied, `repaired` of its rows having found a spare; or one is
not trained and start-up fails with HBM_TRAIN. -/
def execCombTrainDone (ok : Bool) (repaired : Fin 65) (s : State) : Host.Outcome State Fault Refusal :=
  done (s.begin.inStage 6 fun s =>
    if s.clk.fabricHeld then s
    else if ok then
      let s := s.puts [(Fld.COMB_STATUS_STATE, 2), (Fld.COMB_REPAIR_APPLIED, min repaired.val s.nv.repairRows.length)]
      { s with boot := { s.boot with combTrained := true } }
    else s.failStart 5)

/-- The sizes of COMB_PART_CFG take force (R250). (log 122, DEDUCED) -/
def State.applyParts (s : State) : State :=
  let z := (s.word Addr.COMB_PART_CFG).toNat % 2 ^ 28
  let b := (partBounds z 5).1
  s.puts [(Fld.COMB_PART_ACT_SIZES, z), (Fld.COMB_POOL_BASE, b), (Fld.COMB_POOL_SIZE, 256 - b), (Fld.DIRC_CFG_BKT_UNITS, 64 * bitsOf z 0 4)]

/-- COMB_CLEAR_DONE (R252, R250): all 16 GiB hold zeros; COMB is UP, the partitions are applied, stage 6 ends. -/
def execCombClearDone (s : State) : Host.Outcome State Fault Refusal :=
  done (s.begin.inStage 6 fun s =>
    if s.get Fld.COMB_STATUS_STATE = 2 && s.boot.combTrained then
      let s := (List.range 4).foldl (fun s t => s.put (Fld.EHR_STATUS_STATE t) 1) s
      (((s.applyParts).put Fld.COMB_STATUS_STATE 3).raise Evt.COMB_UP).stageDone 6
    else s)

/-- A pseudo-channel has failed: fail-stop (R253). -/
def State.pcFailed (s : State) (pc : Nat) : State := s.fatal (s.message Kind.PC_FAIL 2 0x080 pc 8 Party.none none)

/-- PC_FAIL (R253): a command or address parity error, or a loss of lock, of a pseudo-channel. -/
def execPcFail (pc : Fin 16) (s : State) : Host.Outcome State Fault Refusal :=
  done (s.begin.whenFabric fun s => s.pcFailed pc.val)

/-- PART_BOUND (R251): a request outside its client's partition, before it reaches the arbiter. -/
def execPartBound (client : Fin 9) (s : State) : Host.Outcome State Fault Refusal :=
  done (s.begin.whenFabric fun s => s.partFault client.val)

/-- SCRUB_PASS_DONE (R256). -/
def execScrubPassDone (s : State) : Host.Outcome State Fault Refusal :=
  done (s.begin.whenFabric fun s =>
    if s.combUp && s.flag Fld.COMB_SCRUB_CFG_EN then
      ((s.addSat Fld.COMB_SCRUB_STATUS_PASSES 1).put Fld.COMB_SCRUB_STATUS_PROGRESS 0).raise Evt.COMB_SCRUB_PASS
    else s)

/-- STACK_REFRESH_2X_CHANGE (R273): the hottest stack die reads `temp` (value - 64 = °C); above 85 °C the refresh rate is doubled. -/
def execStackRefresh2xChange (temp : Byte) (s : State) : Host.Outcome State Fault Refusal :=
  done (s.begin.whenFabric fun s =>
    let hot := decide (149 < temp.toNat)
    let was := s.flag Fld.COMB_TEMP_REFRESH_2X
    ((s.put Fld.COMB_TEMP_STACK temp.toNat).putFlag Fld.COMB_TEMP_REFRESH_2X hot).raiseIf (hot != was) Evt.COMB_REFRESH_2X)

/-! ### Errors (R254, R255, R257) -/

/-- The pseudo-channel of a Comb address (R248). -/
def pcOf (a : Nat) : Nat := 2 * bitsOf a 8 3 + bitsOf a 11 1

/-- A corrected error (R254, R257): counted, raised, reported; the row is listed at its ROW_THR-th. -/
def State.combCe (s : State) (client a row : Nat) : State :=
  let s := ((s.count (Ctr.COMB (17 + pcOf a) 0)).raise Evt.COMB_CE).sendFault (s.message Kind.COMB_CE 0 0x080 (pcOf a) (if client = 6 then 5 else 1) Party.none (some a))
  let n := mget 0 s.boot.rowErrors row + 1
  let s := { s with boot := { s.boot with rowErrors := mput 0 s.boot.rowErrors row n } }
  if s.get Fld.COMB_ROW_CFG_ROW_THR ≤ n && !s.nv.repairRows.contains row && decide (s.nv.repairRows.length < 64) then
    ({ s with nv := { s.nv with repairRows := s.nv.repairRows ++ [row] } }.nvWrote 7).raise Evt.COMB_ROW_LISTED
  else s

/-- The hive whose range holds a bucket (R220). -/
def State.bucketHive (s : State) (b : Nat) : Option Nat :=
  (List.range 16).find? fun h =>
    let base := 65536 * s.get (Fld.HIVE_BKT_BKT_BASE h)
    s.hiveState h != 0 && decide (base ≤ b) && decide (b < base + 65536 * s.get (Fld.HIVE_BKT_BKT_COUNT h))

/-- What an uncorrectable error that a client has read in a line does, by its partition (R255); the bucket of a directory line is rewritten empty. Which journal record a line holds is open. (logs 124, DESIGN CHOICE; 282, DEDUCED) -/
def State.combContain (s : State) (client a : Nat) : State :=
  match s.partOf a with
  | 0 =>
    match s.bucketHive (a / 256) with
    | some h =>
      let s := if s.hiveServes h then s.hiveDown h 3 0 none 1 else s
      let b := a / 256 - 65536 * s.get (Fld.HIVE_BKT_BKT_BASE h)
      s.modHome fun o => { o with dir := o.dir.filter fun e => e.1 / 2 ^ 38 != h || e.2.onDie || s.bucketOf h (e.1 % 2 ^ 38) != b }
    | none => s
  | 1 =>
    let l := (a - s.partBase 1) / 64
    s.modDlog fun d => { d with lines := mput 0 d.lines l (2 ^ 512 - 1), touch := if d.touch.contains l then d.touch else d.touch ++ [l] }
  | 2 =>
    let j := s.fab.pair.journal.filter fun r => r.sent
    match j[s.free % j.length]? with
    | some r =>
      let s := s.used.modPair fun p => { p with journal := p.journal.filter fun x => x.seq != r.seq }
      let s := s.showFill
      if s.issues && r.region < 20 then (s.setRsync (2 ^ r.region)).raise Evt.TDM_OVERFLOW else s
    | none => s
  | 3 =>
    let k := (a - s.partBase 3) / 64
    if (assoc s.fab.ring k).isSome then
      ({ s with fab := { s.fab with ring := assocDel s.fab.ring k } }.addSat Fld.PERF_RING_LOST_COUNT 1).raise Evt.PERF_RING_LOST
    else s
  | 4 => if client = 5 then s.emit (.loadFault a) else s
  | _ =>
    let l := (a - s.partBase 5) / 64
    s.modComb fun c => { c with poison := mput c.poisonAll c.poison l true }

/-- An uncorrectable error in one line (R255): one that takes a hive down is reported as HIVE_DIR_ECC instead of COMB_UE. The 16th of a
pseudo-channel within 1 ms fails it (R253). (log 123, DESIGN CHOICE) -/
def State.combUe (s : State) (client a : Nat) : State :=
  let s := (s.count (Ctr.COMB (17 + pcOf a) 1)).raise Evt.COMB_UE
  let s := if s.partOf a = 0 && (s.bucketHive (a / 256)).any s.hiveServes then s
    else s.sendFault (s.message Kind.COMB_UE 1 0x080 (pcOf a) (if client = 6 then 5 else 1) (Party.combClient client) none)
  let pc := pcOf a
  let recent := (mget [] s.fab.comb.ues pc ++ [s.now]).filter fun x => decide (s.now < x + 1000000)
  let s := (s.modComb fun c => { c with ues := mput [] c.ues pc recent }).combContain client a
  if 16 ≤ recent.length then s.pcFailed pc else s

/-! ### The client arbiters (R258 to R262) -/

def State.chan (s : State) (ch : Nat) : CombChan := mget CombChan.idle s.fab.comb.chans ch
def State.setChan (s : State) (ch : Nat) (c : CombChan) : State := s.modComb fun x => { x with chans := mput CombChan.idle x.chans ch c }
def CombChan.client (c : CombChan) (k : Nat) : CombClient := mget CombClient.idle c.clients k

/-- The winner of a decision (R259): the earliest-aged requesting client, else the one of lowest rank. -/
def CombChan.winner (c : CombChan) (reqs : List CombReq) : Option CombReq :=
  let better := fun (a b : CombReq) =>
    match (c.client a.client.val).aged, (c.client b.client.val).aged with
    | some x, some y => decide (x < y)
    | some _, none => true
    | none, some _ => false
    | none, none => decide (a.client.val < b.client.val)
  reqs.foldl (fun w r => match w with
    | some x => if better r x then some r else w
    | none => some r) none

/-- Bins of the wait histogram that count a wait of w cycles (R419). (log 85, DEDUCED) -/
def waitBins (w : Nat) : List Nat :=
  (List.range 16).filter fun k =>
    if k = 0 then decide (w < 8) else if k = 15 then decide (65536 ≤ w) else decide (2 ^ (k + 2) ≤ w) && decide (w < 2 ^ (k + 3))

/-- A requesting client loses (R260): it backs off, and becomes aged at its 8th consecutive loss, in the place of this decision and its rank. -/
def State.combLose (s : State) (ch place k : Nat) : State :=
  let c := s.chan ch
  let x := c.client k
  let n := x.losses + 1
  let ages := n == 8
  let s := (s.count (Ctr.COMB k 2)).setChan ch { c with clients := mput CombClient.idle c.clients k { losses := n, backoff := true, aged := if ages then some (16 * place + k) else x.aged } }
  let s := if ages then (s.count (Ctr.COMB k 3)).raise Evt.CARB_AGED else s
  s.raiseIf (decide (9 ≤ n)) Evt.CARB_BACKOFF_CAP

/-- The winner owns the channel under its burst limit at this moment (R261, R262). -/
def State.combGrant (s : State) (ch : Nat) (r : CombReq) : State :=
  let k := r.client.val
  let c := s.chan ch
  let s := s.setChan ch { c with owner := some (k, s.get (Fld.CARB_BURST_LIMIT k)), clients := mput CombClient.idle c.clients k CombClient.idle }
  let s := (waitBins r.waited).foldl (fun s b => s.count (Ctr.COMB k (4 + b))) (s.count (Ctr.COMB k 0))
  if s.get (Fld.CARB_WAIT_MAX_CYCLES k) < r.waited then s.put (Fld.CARB_WAIT_MAX_CYCLES k) (min 65535 r.waited) else s

/-- COMB_ARB_DECIDE (R259, R260): a decision of channel ch while no client owns it; a client that backs off takes no part. Each request is checked against its partition first (R251). -/
def execCombArbDecide (ch : Fin 8) (reqs : List CombReq) (s : State) : Host.Outcome State Fault Refusal :=
  done (s.begin.whenFabric fun s =>
    let c := s.chan ch.val
    if !s.combUp || c.owner.isSome then s
    else
      let reqs := reqs.foldl (fun l r => if (c.client r.client.val).backoff || l.any (fun x => x.client == r.client) then l else l ++ [r]) []
      match reqs.find? fun r => !s.inBounds r.client.val r.addr.toNat, c.winner reqs with
      | some r, _ => s.partFault r.client.val
      | none, none => s
      | none, some w =>
        let s := s.combGrant ch.val w
        let place := c.agings
        let s := (reqs.filter fun r => r.client != w.client).foldl (fun s r => s.combLose ch.val place r.client.val) s
        s.setChan ch.val { s.chan ch.val with agings := place + 1 })

/-- COMB_BACKOFF_EXPIRE (R260). -/
def execCombBackoffExpire (ch : Fin 8) (client : Fin 9) (s : State) : Host.Outcome State Fault Refusal :=
  done (s.begin.whenFabric fun s =>
    let c := s.chan ch.val
    let x := c.client client.val
    s.setChan ch.val { c with clients := mput CombClient.idle c.clients client.val { x with backoff := false } })

/-- COMB_GRANT_END (R261): the owner's grant ends after at most its burst limit of beats, of which `misses` opened a row; `err` is what its reads found, which lie on
the channel and in the owner's partition (R248, R251). -/
def execCombGrantEnd (ch : Fin 8) (beats misses : Nat) (err : Option CombError) (s : State) : Host.Outcome State Fault Refusal :=
  done (s.begin.whenFabric fun s =>
    let c := s.chan ch.val
    match c.owner with
    | none => s
    | some (k, limit) =>
      let n := min beats limit
      let s := s.setChan ch.val { c with owner := none }
      let s := ((s.count (Ctr.COMB k 1) n).count (Ctr.COMB (9 + ch.val) 0) n).count (Ctr.COMB (9 + ch.val) 1) (min misses n)
      let mine := fun (a : Nat) => s.inBounds k a && a / 256 % 8 == ch.val
      match err with
      | none => s
      | some (.corrected a row) => if mine (a % 2 ^ 34) then s.combCe k (a % 2 ^ 34) row else s
      | some (.uncorrectable a) => if mine (a % 2 ^ 34) then s.combUe k (a % 2 ^ 34) else s)

/-- CARB_WAIT_MAX_CLEAR (R271): a write of any value. -/
def execCarbWaitMaxClear (m : Master) (c : Fin 9) (_value : Word) (s : State) : Host.Outcome State Fault Refusal :=
  done (s.begin.guard m 0x81 fun s => s.put (Fld.CARB_WAIT_MAX_CYCLES c.val) 0)

/-! ### The Comb pool (R267 to R269) -/

/-- One byte of the pool, by pool offset; a byte not listed is 0 (R252). (log 221, DESIGN CHOICE) -/
def poolByte (p : List Host.Cell) (a : Nat) : Byte := sparseGet (fun _ => 0) p a

/-- Write one byte of the pool in canonical form. -/
def poolPut (p : List Host.Cell) (a : Nat) (b : Byte) : List Host.Cell := sparsePut (fun _ => 0) p a b

/-- The canonical form of the pool's bytes. -/
abbrev poolWf (p : List Host.Cell) : Bool := sparseWf (fun _ => (0 : Byte)) p

/-- The 64 bytes of a line. -/
def poolLine (p : List Host.Cell) (l : Nat) : List Byte := tabulate 64 fun i => poolByte p (64 * l + i)

/-- Write the bytes of a line that `enables` names. -/
def poolWrite (p : List Host.Cell) (l enables : Nat) (data : List Byte) : List Host.Cell :=
  (List.range 64).foldl (fun p i => if bitsOf enables i 1 = 1 then poolPut p (64 * l + i) (data.getD i 0) else p) p

/-- A pool line is poisoned (R268, R307). -/
def State.poolPoisoned (s : State) (l : Nat) : Bool := mget s.fab.comb.poisonAll s.fab.comb.poison l

/-- IEP1 answers a pool access as an HDM-H device, with MetaField No-Op (R268). A write that carries poison leaves its line poisoned. (log 220, DESIGN CHOICE) -/
def State.poolAccess (s : State) (m : Msg) : State :=
  let l := m.addr / 64
  let m := { m with mv := .noOp }
  match m.kind with
  | .memRd | .memRdData =>
    let p := s.poolPoisoned l
    (s.raiseIf p Evt.POOL_POOL_POISON).queueMsg { m.answer .memData 0 p with data := poolLine s.fab.comb.pool l, mem := .hdmH }
  | .memWr => (s.modComb fun c => { c with pool := poolWrite c.pool l (2 ^ 64 - 1) m.data, poison := mput c.poisonAll c.poison l m.poison }).queueMsg (m.answer .cmp)
  | .memWrPtl =>
    (s.modComb fun c =>
      { c with pool := poolWrite c.pool l m.enables m.data, poison := mput c.poisonAll c.poison l (s.poolPoisoned l || m.poison) }).queueMsg (m.answer .cmp)
  | .memInv | .memInvNT | .memClnEvct => s.queueMsg (m.answer .cmp)
  | .ioNp =>
    let p := (tabulate m.rdLen fun i => (m.addr + i) / 64).any s.poolPoisoned
    (s.raiseIf p Evt.POOL_POOL_POISON).queueMsg (m.completion .cpl (tabulate m.rdLen fun i => poolByte s.fab.comb.pool (m.addr + i)) p)
  | .ioPosted =>
    let whole := fun (l : Nat) => decide (m.addr ≤ 64 * l) && decide (64 * l + 64 ≤ m.addr + m.data.length)
    let lines := (tabulate m.data.length fun i => (m.addr + i) / 64).eraseDups
    s.modComb fun c =>
      { c with pool := (List.range m.data.length).foldl (fun q i => poolPut q (m.addr + i) (m.data.getD i 0)) c.pool,
               poison := lines.foldl (fun q l => mput c.poisonAll q l (m.poison || (!whole l && s.poolPoisoned l))) c.poison }
  | _ => s

/-- POOL_REQUEST (R268): IEP1 serves its next request. -/
def execPoolRequest (s : State) : Host.Outcome State Fault Refusal :=
  done (s.begin.whenFabric fun s =>
    match mget [] s.fab.sw.iep 1 with
    | [] => s
    | m :: rest => if s.combUp then (s.modSw fun w => { w with iep := mput [] w.iep 1 rest }).poolAccess m else s)

/-- HPA_BASE of pool window k. -/
def State.poolHpa (s : State) (k : Nat) : Nat := 2 ^ 28 * s.get (Fld.POOL_WIN_HPA_BASE k)

/-- Checks of R269 on pool window n. -/
def State.poolWinOk (s : State) (n : Nat) : Bool :=
  let off := s.poolOff n
  let size := s.poolSize n
  let hpa := s.poolHpa n
  let v := s.get (Fld.POOL_WIN_CFG_VCS n)
  s.flag Fld.POOL_CFG_EN && s.flag (Fld.VCS_ENTRY_CFG_EN v) && off % size == 0 && hpa % size == 0 && decide (off + size ≤ s.poolBytes)
    && (List.range 64).all (fun k => k == n || !s.flag (Fld.POOL_WIN_CFG_EN k)
      || (!overlap off size (s.poolOff k) (s.poolSize k) && (s.get (Fld.POOL_WIN_CFG_VCS k) != v || !overlap hpa size (s.poolHpa k) (s.poolSize k))))
    && (List.range 1024).all (fun w => s.hiveState (w / 64) == 0 || !s.flag (Fld.WIN_CFG_EN w) || !s.flag (Fld.WIN_CFG_POOL w)
      || !overlap off size (s.winDpa w) (s.winSize w))
    && (List.range 1024).all (fun k => s.slotState (k / 64) (k % 64) == 0 || s.flag (Fld.HOST_CFG_REMOTE k) || s.get (Fld.HOST_CFG_VCS k) != v
      || !overlap hpa size (s.hpaBase (k / 64) (k % 64)) (s.span (k / 64)))

/-- A write of POOL_WIN_CFG (R269, R272): while EN = 1 only EN is taken; EN = 1 is checked. -/
def State.writePoolWin (s : State) (n v : Nat) : State :=
  let en := bitsOf v 0 1 == 1
  if s.flag (Fld.POOL_WIN_CFG_EN n) then (if en then s else s.put (Fld.POOL_WIN_CFG_EN n) 0)
  else
    let s' := s.puts [(Fld.POOL_WIN_CFG_SIZE n, bitsOf v 1 3), (Fld.POOL_WIN_CFG_VCS n, bitsOf v 4 6), (Fld.POOL_WIN_CFG_OFF n, bitsOf v 16 5)]
    if !en then s'
    else if bitsOf v 1 3 ≤ 5 && s'.poolWinOk n then s'.put (Fld.POOL_WIN_CFG_EN n) 1
    else s.raise Evt.POOL_CFG_IGNORED

/-- POOL_WINDOW_ENABLE (R269): a write of POOL_WIN_CFG. -/
def execPoolWindowEnable (m : Master) (n : Fin 64) (value : Word) (s : State) : Host.Outcome State Fault Refusal :=
  done (s.begin.guardMirrored m 0x82 fun s => s.writePoolWin n.val value.toNat)

/-- W of R264 for the limits in force (R271). -/
def State.carbBound (s : State) : Nat := 17 * (4 * ((List.range 9).map fun c => s.get (Fld.CARB_BURST_LIMIT c)).foldl max 0) + 9212

/-- CARB_STATUS.AGED (R271). -/
def State.carbAged (s : State) : Nat :=
  ((List.range 9).map fun k => bit (s.fab.comb.chans.any fun e => (e.2.client k).aged.isSome) * 2 ^ k).sum

end Sys2Proof.Machine
end

