-- ==== Sys2Proof/Machine/Mbox.lean ====
section
/-! DEFINITION. Sys2Proof/Machine/Mbox.lean: what every mailbox command shares: boxes, permissions, results and background operations (R385, R386, R389, R391). -/
namespace Sys2Proof.Machine
open Sys2Proof

def State.box (s : State) (k : Nat) : Box := mget Box.reset s.mbx.boxes k
def State.modBox (s : State) (k : Nat) (f : Box → Box) : State := { s with mbx := { s.mbx with boxes := mput Box.reset s.mbx.boxes k (f (s.box k)) } }

/-- Fabric-manager permission of a box (R385): boxes FM_VCS, 64 and 65 while FM_EN = 1. (log 58, DEDUCED) -/
def State.boxIsFm (s : State) (k : Nat) : Bool := s.flag Fld.MBX_CFG_FM_EN && (k == s.get Fld.MBX_CFG_FM_VCS || k == 64 || k == 65)

/-- Permission classes (R386); a command keeps the designation under which it was accepted (R385). -/
inductive CmdClass where
  | g | f | b | fb
  /-- The named log's class. -/
  | l (log : Nat)
  /-- Box 64 only. -/
  | board
deriving DecidableEq, Repr

/-- May box k issue a command of the class? -/
def State.boxMay (s : State) (k : Nat) : CmdClass → Bool
  | .g => true
  | .f => (s.box k).fm || (k == 66 && s.keeper.policyCmds)
  | .b => k == 64 || k == 65
  | .fb => (s.box k).fm || (k == 66 && s.keeper.policyCmds) || k == 64 || k == 65
  | .l n => (s.box k).fm || (k == s.get (Fld.LOG_CFG_HVCS n) && s.flag (Fld.LOG_CFG_HACC n))
  | .board => k == 64

/-! Opcodes. Those of the standard commands are PRESUMED (the CXL Specification 3.1); those of the vendor commands are R387's. -/

/-- Log 60, PRESUMED. -/
def Opc.identify : Nat := 0x0001
def Opc.bgStatus : Nat := 0x0002
def Opc.getLimit : Nat := 0x0003
def Opc.setLimit : Nat := 0x0004
def Opc.abort : Nat := 0x0005
def Opc.getEvents : Nat := 0x0100
def Opc.clearEvents : Nat := 0x0101
def Opc.getEventPolicy : Nat := 0x0102
def Opc.setEventPolicy : Nat := 0x0103
def Opc.getFwInfo : Nat := 0x0200
def Opc.transferFw : Nat := 0x0201
def Opc.activateFw : Nat := 0x0202
def Opc.getTimestamp : Nat := 0x0300
def Opc.setTimestamp : Nat := 0x0301
def Opc.getLogs : Nat := 0x0400
def Opc.getLog : Nat := 0x0401
def Opc.identifySwitch : Nat := 0x5100
def Opc.portState : Nat := 0x5101
def Opc.portControl : Nat := 0x5102
def Opc.ppbConfig : Nat := 0x5103
def Opc.vcsInfo : Nat := 0x5200
def Opc.bind : Nat := 0x5201
def Opc.unbind : Nat := 0x5202
def Opc.aer : Nat := 0x5203
def Opc.tunnel : Nat := 0x5300
def Opc.ldConfig : Nat := 0x5301
def Opc.ldMemory : Nat := 0x5302
def Opc.moduleState : Nat := 0xC000
def Opc.dlogInfo : Nat := 0xC010
def Opc.harvest : Nat := 0xC011
def Opc.faultLog : Nat := 0xC020
def Opc.failRecord : Nat := 0xC021
def Opc.ackLog : Nat := 0xC022
def Opc.pairCmd : Nat := 0xC030
def Opc.hiveCtl : Nat := 0xC031
def Opc.fixonXfer : Nat := 0xC040
def Opc.fixonSlots : Nat := 0xC041

/-- The opcodes the module supports (R119, R386, R387); any other completes with Unsupported. -/
def supportedOpcodes : List Nat :=
  [0x0001, 0x0002, 0x0003, 0x0004, 0x0005, 0x0100, 0x0101, 0x0102, 0x0103, 0x0200, 0x0201, 0x0202, 0x0300, 0x0301, 0x0400, 0x0401, 0x5100, 0x5101, 0x5102,
   0x5103, 0x5200, 0x5201, 0x5202, 0x5203, 0x5300, 0x5301, 0x5302, 0xC000, 0xC010, 0xC011, 0xC020, 0xC021, 0xC022, 0xC030, 0xC031, 0xC040, 0xC041]

/-- The commands that may be tunneled (R119): those of an MLD component, a multi-headed device and DCD management. Their opcodes are those of the standard. (log 242, PRESUMED) -/
def tunneledOpcodes : List Nat :=
  [0x5400, 0x5401, 0x5402, 0x5403, 0x5404, 0x5405, 0x5406, 0x5407, 0x5408, 0x5409, 0x5500, 0x5501, 0x5600, 0x5601, 0x5602, 0x5603, 0x5604, 0x5605]

/-- The opcode of a tunneled command: bytes 3 and 4 of its 12-byte CCI message header. -/
def tunneledOpcode (request : List Byte) : Nat := (request.getD 3 0).toNat + 256 * (request.getD 4 0).toNat

/-- The result a command leaves in its box, until it completes (R389). (log 61, DESIGN CHOICE) -/
def State.answerBox (s : State) (k : Nat) (code : RetCode) (data : List Nat := []) : State := s.modBox k fun b => { b with pendingResult := some ⟨code, data⟩ }

/-- Run the command `op` where box k has it in service: one of a class the box may not issue is Unsupported and has no effect (R386). A command that was
running when the box was reset completes inside the module and its result is discarded (R389). -/
def State.command (s : State) (k op : Nat) (c : CmdClass) (f : State → State) : State :=
  if !s.clk.mgmtUp || s.clk.mgmtStopped then s
  else
    match (s.box k).orphan with
    | some (opcode, payload, fm) =>
      if opcode ≠ op then s
      else
      let b := s.box k
      let s := s.modBox k fun x => { x with orphan := none, opcode := opcode, payload := payload, fm := fm }
      let s := if s.boxMay k c then f s else s
      s.modBox k fun x => { x with opcode := b.opcode, payload := b.payload, fm := b.fm, pendingResult := b.pendingResult }
    | none =>
      if s.get (Fld.MBX_BOX_STATE_STATE k) != 1 || (s.box k).opcode != op || (s.box k).pendingResult.isSome then s
      else if s.boxMay k c then f s
      else s.answerBox k .unsupported

/-- A command that has one result and changes nothing else. -/
def State.report (s : State) (k op : Nat) (c : CmdClass) (data : State → List Nat) : State := s.command k op c fun s => s.answerBox k .success (data s)

/-- Vector 0 of function 1 of a VCS (R383). -/
def State.boxVector (s : State) (k : Nat) : State := if k < 64 && (s.box k).irq then s.signalVcs k 0 else s

/-- A background operation starts on a box (R391): the command returns Background Command Started. -/
def State.bgStart (s : State) (k : Nat) : State :=
  ((s.answerBox k .background).put (Fld.MBX_BOX_STATE_BG k) 1).count (Ctr.MBOX k 7) |>.modBox k fun b => { b with bgCode := none, bgOp := b.opcode }

/-- A background operation ends (R391): its code is kept and vector 0 signalled. -/
def State.bgEnd (s : State) (k : Nat) (code : RetCode) : State :=
  ((s.put (Fld.MBX_BOX_STATE_BG k) 0).modBox k fun b => { b with bgCode := some code }).boxVector k

/-- The bytes of a list of words, little-endian. -/
def bytesOfWords (l : List Nat) : List Nat := l.flatMap fun w => tabulate 4 fun i => w / 256 ^ i % 256

end Sys2Proof.Machine
end

