-- ==== Sys2Proof/Machine/Bind.lean ====
section
/-! DEFINITION. Sys2Proof/Machine/Bind.lean: virtual hierarchies, binding, tracker quarantine and flushes (R139 to R164), and their commands. -/
namespace Sys2Proof.Machine
open Sys2Proof

/-! ### vPPBs and VCSs (R139, R159, R160) -/

def State.vppbState (s : State) (n : Nat) : Nat := s.get (Fld.VPPB_STATE_STATE n)
def State.vppbGen (s : State) (n : Nat) : Nat := s.get (Fld.VPPB_STATE_GEN n)
def State.vppbPort (s : State) (n : Nat) : Nat := s.get (Fld.VPPB_TARGET_PORT n)

/-- GEN + 1 modulo 256 (R146). -/
def State.nextGen (s : State) (n : Nat) : State := s.put (Fld.VPPB_STATE_GEN n) ((s.vppbGen n + 1) % 256)

/-- The entry of vPPB i of a VCS. -/
def State.vppbOf (s : State) (v i : Nat) : Nat := s.get (Fld.VCS_ENTRY_CFG_VPPB_BASE v) + i

def State.vcsEnabled (s : State) (v : Nat) : Bool := s.flag (Fld.VCS_ENTRY_CFG_EN v)
def State.vppbCount (s : State) (v : Nat) : Nat := s.get (Fld.VCS_ENTRY_SIZE_VPPB_COUNT v)

/-- The enabled VCS on a port. -/
def State.vcsOn (s : State) (p : Nat) : Option Nat := (List.range 64).find? fun v => s.vcsEnabled v && s.get (Fld.VCS_ENTRY_CFG_USP v) == p

/-- vPPBs bound to a port, in BOUND, UNBIND_WAIT or FLUSHING, by its LD entries (R161). -/
def State.boundTo (s : State) (p : Nat) : List Nat :=
  (List.range 16).filterMap fun d => if s.flag (Fld.LD_STATE_BOUND (16 * p + d)) then some (s.get (Fld.LD_STATE_VPPB (16 * p + d))) else none

/-- The LD entry of a bound vPPB. -/
def State.ldEntry (s : State) (n : Nat) : Nat := 16 * s.vppbPort n + if s.flag (Fld.VPPB_TARGET_LD_VALID n) then s.get (Fld.VPPB_TARGET_LD_ID n) else 0

/-- The bound LD is present under the device's allocation; an SLD bound as such is present with its link (R141, R161). -/
def State.ldPresent (s : State) (n : Nat) : Bool :=
  (!s.flag (Fld.VPPB_TARGET_LD_VALID n) && !s.isMld (s.vppbPort n)) || s.flag (Fld.LD_STATE_PRESENT (s.ldEntry n))

/-- The port of a vPPB is up, neither held nor disabled. -/
def State.vppbLink (s : State) (n : Nat) : Bool :=
  s.linkUp (s.vppbPort n) && !s.flag (Fld.PORT_CTL_HOLD (s.vppbPort n)) && s.flag (Fld.PORT_CFG_EN (s.vppbPort n))

/-- Presence Detect State and Data Link Layer Link Active that the host of a vPPB sees (R141); a passive module shows 0 and 0 (R309). -/
def State.presence (s : State) (n : Nat) : Bool × Bool :=
  let up := s.vppbLink n && s.ldPresent n
  if !s.isActive || (s.vppbState n != 1 && s.vppbState n != 2) then (false, false)
  else if s.vppbState n == 1 && (s.flag (Fld.VPPB_STATE_DPC n) || (s.vppbCfg n).linkDisable) then (up, false)
  else (up, up)

/-- Traffic from the host is forwarded by a vPPB (R141). -/
def State.vppbForwards (s : State) (n : Nat) : Bool := (s.presence n).2

def State.modVcfg (s : State) (n : Nat) (f : VppbCfg → VppbCfg) : State := s.modSw fun w => { w with vcfg := mput VppbCfg.reset w.vcfg n (f (s.vppbCfg n)) }

/-- The hot-plug interrupt of a vPPB, as its host has enabled it (R146). -/
def State.hotPlugIrq (s : State) (n : Nat) : State := if (s.vppbCfg n).hotPlugEn then s.emit (.hotPlug n (s.presence n).1) else s

/-- The vPPB reports presence to its host (R146): both Changed bits are set, and the interrupt signalled where it is enabled. (log 126, DEDUCED) -/
def State.reportPresence (s : State) (n : Nat) : State :=
  if (s.presence n).1 then (s.modVcfg n fun c => { c with presChanged := true, linkChanged := true }).hotPlugIrq n else s

/-- What the host sees of a vPPB has changed since an earlier state: the Changed bits of the slot follow it, with the interrupt as the host has enabled it (R117). -/
def State.slotFollows (s old : State) (n : Nat) : State :=
  let a := old.presence n
  let b := s.presence n
  if a == b then s
  else (s.modVcfg n fun c => { c with presChanged := c.presChanged || a.1 != b.1, linkChanged := c.linkChanged || a.2 != b.2 }).hotPlugIrq n

/-- A Surprise Down Error on a vPPB, and DPC in it where its host has enabled DPC (R148). -/
def State.surpriseDown (s : State) (n : Nat) : State :=
  let s := s.emit (.aer n Aer.surpriseDown)
  if (s.vppbCfg n).dpcEn then s.put (Fld.VPPB_STATE_DPC n) 1 else s

/-! ### Flushes (R153, R154) -/

/-- Put a tracker slot into its place among slots in order of allocation. -/
def insertSlot (e : TSlot) : List TSlot → List TSlot
  | [] => [e]
  | x :: l => if e.seq ≤ x.seq then e :: x :: l else x :: insertSlot e l

/-- Tracker slots in their order of allocation. -/
def bySeq (l : List TSlot) : List TSlot := l.foldr insertSlot []

/-- LIVE tracker slots that `f` picks by port, class and slot. (log 130, DEDUCED) -/
def State.liveSlots (s : State) (f : Nat → Nat → TSlot → Bool) : List TSlot :=
  bySeq (s.fab.sw.trackers.flatMap fun x => (x.2.filter fun e => !e.2.stale && f (x.1 / 4) (x.1 % 4) e.2).map (·.2))

/-- Those slots become STALE (R151). -/
def State.staleSlots (s : State) (f : Nat → Nat → TSlot → Bool) : State :=
  s.modSw fun w =>
    { w with trackers := w.trackers.map fun x => (x.1, x.2.map fun e => if !e.2.stale && f (x.1 / 4) (x.1 % 4) e.2 then (e.1, { e.2 with stale := true }) else e) }

/-- Answer the requests of a flush: those in flight by their slots, in the order they were sent, then those queued without a slot. `slots` and `queued` pick what is in scope,
`answered` the slots whose requests the module answers. The answers belong to the flush, which is not complete while one of them waits (R154). -/
def State.flushScope (s : State) (f : FlushScope) (slots answered : Nat → Nat → TSlot → Bool) (queued : Nat → Msg → Bool) : State :=
  let live := (s.liveSlots fun p c e => slots p c e && answered p c e).map (·.msg)
  let waiting := (s.caught queued).filter fun m => m.slot.isNone && decide (m.src < 64)
  let s := ((s.staleSlots slots).unlink queued)
  (live ++ waiting).foldl (fun s m => s.answerFlushed { m with flush := some f }) s

/-- Requests of the data mover that `f` picks are answered to IEP2; their slots in its tracker become STALE (R153, R288). -/
def State.flushMover (s : State) (x : FlushScope) (f : Msg → Bool) : State :=
  let hit := fun (e : MSlot) => !e.stale && f e.msg
  let l := (s.fab.mover.slots.filter fun e => hit e.2).map fun e => e.2.msg
  let s := s.modMover fun x => { x with slots := x.slots.map fun e => if hit e.2 then (e.1, { e.2 with stale := true }) else e }
  l.foldl (fun s m => ({ m with flush := some x } : Msg).flushed.foldl State.queueMsg s) s

/-- Is a message toward a device caught by its flush: a request, a BIRsp, or a CXL.cache message of the host (R153)? -/
def Msg.flushable (m : Msg) : Bool := !m.kind.isAnswer || m.kind.isBiRsp || m.kind == .h2dRsp || m.kind == .h2dData

/-- A flush is in progress (R163). (log 131, DEDUCED) -/
def State.beginFlush (s : State) (f : FlushScope) : State :=
  s.modSw fun w => { w with flushes := if w.flushes.any (fun x => x.1 == f) then w.flushes else w.flushes ++ [(f, false)] }

/-- vPPB flush (R153): every message admitted under generation `gen` of vPPB n. What its device originated is delivered; the slots become STALE. -/
def State.flushVppb (s : State) (n gen : Nat) : State :=
  let p := s.vppbPort n
  let mine := fun (m : Msg) => m.vppb == some n && m.gen == gen && m.dst == p && m.flushable
  ((s.flushScope (.vppb n) (fun _ _ e => e.vppb == n && e.gen == gen) (fun _ _ e => e.msg.dst == p) (fun _ m => mine m)).flushMover (.vppb n) mine).beginFlush (.vppb n)

/-- Messages that a tile admitted under an earlier binding of a vPPB that is being flushed are answered by the same table (R154, R158). -/
def State.answerLate (s : State) : State :=
  s.fab.sw.flushes.foldl (fun s x =>
    match x.1 with
    | .vppb n => s.flushScope x.1 (fun _ _ e => e.vppb == n && e.gen != s.vppbGen n) (fun _ _ e => e.msg.dst == s.vppbPort n)
        fun _ m => m.vppb == some n && m.gen != s.vppbGen n && m.dst == s.vppbPort n && m.flushable
    | _ => s) s

/-- Answers toward a port that is down are dropped: messages queued toward it leave the buffer, its privileged entries are discarded (R177). (log 133, DEDUCED) -/
def State.dropToward (s : State) (p : Nat) : State :=
  let s := s.unlink fun q m => q == p || m.dst == p
  s.modSw fun w =>
    { w with priv := (w.priv.map fun e => (e.1, e.2.filter fun m => m.dst != p)).filter fun e => !e.2.isEmpty, snoops := mput [] w.snoops p [] }

/-- Requests of a host at the internal endpoints that have not started (R153). -/
def State.dropFrom (s : State) (p : Nat) : State :=
  let s := s.modSw fun w => { w with iep := (w.iep.map fun e => (e.1, e.2.filter fun m => m.src != p)).filter fun e => !e.2.isEmpty }
  s.modHome fun o => { o with queue := o.queue.filter (fun m => m.src != p), lookups := o.lookups.filter (fun m => m.src != p) }

/-- Requests of a device that its flush leaves queued: they are delivered, and their answers discarded (R153). -/
def State.orphanFrom (s : State) (p : Nat) : State :=
  s.modSw fun w => { w with waiting := w.waiting.map fun m => if m.src == p && !m.kind.isAnswer then { m with orphan := true } else m }

/-- Port flush, and for a port that carries a host the flush of every message from or toward it (R153). What the lost device of a port had requested is delivered, but its slots
become STALE, so that the answers are discarded. Counters 26 and 27 of the PORT array. -/
def State.flushPort (s : State) (p : Nat) : State :=
  let usp := s.roleIs p 0
  let f : FlushScope := if usp then (match s.vcsOn p with | some v => .usp v | none => .port p) else .port p
  let slots := fun (q _c : Nat) (e : TSlot) => q == p || e.msg.src == p
  let answered := fun (q _c : Nat) (_ : TSlot) => q == p || usp
  let queued := fun (q : Nat) (m : Msg) => q == p || m.dst == p || (usp && m.src == p)
  let n := (s.liveSlots fun q c e => slots q c e && answered q c e).length + ((s.caught queued).filter fun m => m.slot.isNone && !m.flushed.isEmpty).length
  let s := s.flushScope f slots answered queued
  let s := (s.count (Ctr.PORT p 26)).count (Ctr.PORT p 27) n
  let s := ((s.dropToward p).homePortLost p).flushMover f fun m => m.dst == p
  let s := if usp then s.dropFrom p else s.orphanFrom p
  s.beginFlush f

/-! ### The vPPB state machine (R148) -/

/-- The vPPB enters FLUSHING: GEN + 1, its flush starts. -/
def State.toFlushing (s : State) (n : Nat) : State :=
  let g := s.vppbGen n
  (((s.nextGen n).put (Fld.VPPB_STATE_STATE n) 3).slotFollows s n).flushVppb n g

/-- A condition under which UNBIND_WAIT ends (R147, R148). -/
def State.unbindReady (s : State) (n : Nat) : Bool := (s.vppbCfg n).linkDisable || s.flag (Fld.VPPB_STATE_DPC n) || !s.vppbLink n

/-- A vPPB in UNBIND_WAIT goes on to FLUSHING where a condition holds. -/
def State.checkUnbind (s : State) (n : Nat) : State := if s.vppbState n = 2 && s.unbindReady n then s.toFlushing n else s

/-- The link of a port stops being up, or it is held or disabled: flush, reports on its vPPBs, and what its host or home is told (R148, R149, R153, R236). -/
def State.portDown (s : State) (p : Nat) : State :=
  let old := s
  let s := { s with fab := { s.fab with up := s.fab.up.filter fun q => q != p } }
  let s := s.flushPort p
  let s := (s.boundTo p).foldl (fun s n => if s.vppbState n = 1 then (s.surpriseDown n).slotFollows old n else s.checkUnbind n) s
  match s.vcsOn p with
  | some v => if s.roleIs p 0 then ((s.raise Evt.VCS_USP_DOWN).hostLost v).stopVcsChannels v else s
  | none => s

/-- A flushed vPPB reaches UNBOUND (R148). (log 127, DEDUCED) -/
def State.toUnbound (s : State) (n : Nat) : State :=
  let e := s.ldEntry n
  let s := (s.put (Fld.LD_STATE_BOUND e) 0).put (Fld.LD_STATE_VPPB e) 0
  let s := (s.puts [(Fld.VPPB_STATE_STATE n, 0), (Fld.VPPB_TARGET_PORT n, 0), (Fld.VPPB_TARGET_LD_VALID n, 0), (Fld.VPPB_TARGET_LD_ID n, 0)]).raise Evt.VCS_UNBIND_DONE
  let s := if s.fab.sw.unbind0.contains n then
      (s.modSw fun w => { w with unbind0 := w.unbind0.filter fun x => x != n }).fmEvent .vppb 0 n
    else s
  match s.fab.sw.binding with
  | some (m, _, k) => if m = n then ((s.modSw fun w => { w with binding := none }).puts [(Fld.VCS_STATUS_BUSY, 0), (Fld.VCS_STATUS_LAST_RC, 0)]).bgEnd k .success else s
  | none => s

/-- The port of a flush, where it has one: a port flush and a vPPB flush of the same port complete together (R154). -/
def State.flushPortOf (s : State) : FlushScope → Option Nat
  | .vppb n => some (s.vppbPort n)
  | .port p => some p
  | .usp _ => none

/-- Completions of flushes whose own work is done and that wait for no other. -/
def State.endFlush (s : State) (f : FlushScope) : State :=
  let s := (s.modSw fun w => { w with flushes := w.flushes.filter fun x => x.1 != f }).raise Evt.VCS_FLUSH_DONE
  match f with
  | .vppb n => if s.vppbState n = 3 then s.toUnbound n else s
  | _ => s

/-- Every answer that a flush synthesizes has been handed to the scheduler (R154). -/
def State.flushAnswered (s : State) (f : FlushScope) : Bool := s.fab.sw.waiting.all fun m => m.flush != some f

/-- FLUSH_COMPLETE (R154): the flush's own work is done, every tile having switched to the new binding state; it is not while an answer of the flush waits for admission. -/
def execFlushComplete (f : FlushScope) (s : State) : Host.Outcome State Fault Refusal :=
  done (s.begin.whenFabric fun s =>
    if (s.fab.sw.flushes.any fun x => x.1 == f) && s.flushAnswered f then
      let s := { s with fab := { s.fab with lag := [] } }
      let s := s.modSw fun w => { w with flushes := w.flushes.map fun x => if x.1 = f then (x.1, true) else x }
      let p := s.flushPortOf f
      let group := s.fab.sw.flushes.filter fun x => x.1 == f || (p.isSome && s.flushPortOf x.1 == p
        && s.fab.sw.flushes.any fun y => match y.1 with | .port q => some q == p | _ => false)
      if group.all (·.2) then (group.map (·.1)).foldl State.endFlush s else s
    else s)

/-! ### Bind and unbind (R144 to R147) -/

/-- The binding engine takes no command (R144, R309). -/
def State.engineBusy (s : State) : Bool :=
  !s.live 0x60 || !s.flag Fld.BOOT_STATUS_FABRIC_READY || !s.isActive || s.flag Fld.VCS_STATUS_BUSY

/-- The engine takes no command of box k: busy, or the box has a background operation running (R391). -/
def State.engineBusyFor (s : State) (k : Nat) : Bool := s.engineBusy || s.flag (Fld.MBX_BOX_STATE_BG k)

/-- Code of an outcome in VCS_STATUS.LAST_RC. -/
def rcCode : RetCode → Nat
  | .success | .background => 0
  | .invalidInput => 1
  | .busy => 2
  | _ => 3

/-- A command of the binding engine ends with an outcome. -/
def State.engineResult (s : State) (k op n : Nat) (c : RetCode) : State :=
  let s := s.puts [(Fld.VCS_STATUS_LAST_OP, op), (Fld.VCS_STATUS_LAST_RC, rcCode c), (Fld.VCS_STATUS_LAST_VPPB, n)]
  if c = .success then (s.bgStart k).bgEnd k .success else s.answerBox k c

/-- A command that the engine refuses (R145, R147). Where it names no entry of an enabled VCS, what LAST_VPPB shows is open (R163). -/
def State.engineRefuses (s : State) (k op v i : Nat) (c : RetCode) : State :=
  if decide (v < 64) && s.vcsEnabled v && decide (i < s.vppbCount v) then s.engineResult k op (s.vppbOf v i) c
  else s.used.engineResult k op (s.free % 4096) c

/-- Another vPPB is bound to the port of an SLD, or to LD d of an MLD (R145). -/
def State.targetBound (s : State) (p ld d : Nat) : Bool :=
  if ld = 0xFFFF then !(s.boundTo p).isEmpty else s.flag (Fld.LD_STATE_BOUND (16 * p + d))

/-- The checks of Bind vPPB, in order (R145); none where all pass. -/
def State.bindCheck (s : State) (v i p ld : Nat) : Option RetCode :=
  let n := s.vppbOf v i
  let d := if ld = 0xFFFF then 0 else ld
  if !(decide (v < 64) && s.vcsEnabled v && decide (1 ≤ i) && decide (i < s.vppbCount v)) then some .invalidInput
  else if s.vppbState n = 2 || s.vppbState n = 3 then some .busy
  else if s.vppbState n ≠ 0 then some .invalidInput
  else if !(decide (p < 64) && s.roleIs p 1) then some .invalidInput
  else if !(match assoc s.fab.sw.mlds p with
      | some c => decide (ld < 16) && decide (ld < c)
      | none => ld == 0xFFFF) then some .invalidInput
  else if s.targetBound p ld d || s.isWindowTarget p d then some .invalidInput
  else none

/-- A bind that passes (R146). (log 132, DEDUCED) -/
def State.bind (s : State) (v i p ld : Nat) : State :=
  let n := s.vppbOf v i
  let d := if ld = 0xFFFF then 0 else ld
  let s := (s.nextGen n).puts [(Fld.VPPB_STATE_STATE n, 1), (Fld.VPPB_TARGET_PORT n, p), (Fld.VPPB_TARGET_LD_VALID n, bit (ld != 0xFFFF)), (Fld.VPPB_TARGET_LD_ID n, d),
    (Fld.LD_STATE_BOUND (16 * p + d), 1), (Fld.LD_STATE_VPPB (16 * p + d), n)]
  s.reportPresence n

/-- BIND_VPPB (R145, R146): the command of box k binds vPPB i of VCS v to a port and LD-ID, 0xFFFF for an SLD. -/
def execBindVppb (k : BoxIx) (v i p ld : Nat) (s : State) : Host.Outcome State Fault Refusal :=
  done (s.begin.command k.val Opc.bind .f fun s0 =>
    if s0.engineBusyFor k.val then s0.answerBox k.val .busy
    else
      match s0.bindCheck v i p ld with
      | some c => s0.engineRefuses k.val 1 v i c
      | none => (((s0.bind v i p ld).engineResult k.val 1 (s0.vppbOf v i) .success).raise Evt.VCS_BIND_DONE).mirror s0)

/-- The checks that options 0 and 2 of Unbind vPPB share: the entry, or the outcome. -/
def State.unbindCheck (s : State) (v i opt : Nat) : Sum RetCode Nat :=
  let n := s.vppbOf v i
  if !(decide (v < 64) && s.vcsEnabled v && decide (1 ≤ i) && decide (i < s.vppbCount v)) then .inl .invalidInput
  else if s.vppbState n = 0 then .inl .invalidInput
  else if s.vppbState n = 3 || (s.vppbState n = 2 && opt != 2) then .inl .busy
  else .inr n

/-- UNBIND_OPT0 (R147): completes with Success as the vPPB enters UNBIND_WAIT; on to FLUSHING at once where a condition holds. -/
def execUnbindOpt0 (k : BoxIx) (v i : Nat) (s : State) : Host.Outcome State Fault Refusal :=
  done (s.begin.command k.val Opc.unbind .f fun s0 =>
    if s0.engineBusyFor k.val then s0.answerBox k.val .busy
    else
      match s0.unbindCheck v i 0 with
      | .inl c => s0.engineRefuses k.val 2 v i c
      | .inr n =>
        let s := (s0.put (Fld.VPPB_STATE_STATE n) 2).modSw fun w => { w with unbind0 := w.unbind0 ++ [n] }
        ((s.engineResult k.val 2 n .success).checkUnbind n).mirror s0)

/-- UNBIND_OPT1 (R147): Unsupported. -/
def execUnbindOpt1 (k : BoxIx) (v i : Nat) (s : State) : Host.Outcome State Fault Refusal :=
  done (s.begin.command k.val Opc.unbind .f fun s =>
    if s.engineBusyFor k.val then s.answerBox k.val .busy
    else
      match s.unbindCheck v i 1 with
      | .inl c => s.engineRefuses k.val 2 v i c
      | .inr n => s.engineResult k.val 2 n .unsupported)

/-- UNBIND_OPT2 (R147): FLUSHING at once, Surprise Down Error, DPC where enabled; the engine is busy until the flush completes. -/
def execUnbindOpt2 (k : BoxIx) (v i : Nat) (s : State) : Host.Outcome State Fault Refusal :=
  done (s.begin.command k.val Opc.unbind .f fun s0 =>
    if s0.engineBusyFor k.val then s0.answerBox k.val .busy
    else
      match s0.unbindCheck v i 2 with
      | .inl c => s0.engineRefuses k.val 2 v i c
      | .inr n =>
        let s := s0.puts [(Fld.VCS_STATUS_BUSY, 1), (Fld.VCS_STATUS_LAST_OP, 2), (Fld.VCS_STATUS_LAST_VPPB, n)]
        let s := (s.bgStart k.val).modSw fun w => { w with binding := some (n, 2, k.val), unbind0 := w.unbind0.filter fun x => x != n }
        ((s.surpriseDown n).toFlushing n).mirror s0)

/-! ### What a host does in its vPPBs (R141, R142) -/

/-- The entry is a downstream vPPB of an enabled VCS, on an active module. -/
def State.isDownstream (s : State) (n : Nat) : Bool := s.isActive && decide (s.vppbState n ≤ 3) && s.vcsEnabled (s.get (Fld.VPPB_STATE_VCS n))

/-- VPPB_LINK_DISABLE (R141, R148): the host sets or clears Link Disable. -/
def execVppbLinkDisable (n : Vppb) (on : Bool) (s : State) : Host.Outcome State Fault Refusal :=
  done (s.begin.whenFabric fun s =>
    if s.isDownstream n.val then (((s.modVcfg n.val fun c => { c with linkDisable := on }).slotFollows s n.val).checkUnbind n.val) else s)

/-- VPPB_DPC_CLEAR (R141). -/
def execVppbDpcClear (n : Vppb) (s : State) : Host.Outcome State Fault Refusal :=
  done (s.begin.whenFabric fun s => if s.isDownstream n.val then (s.put (Fld.VPPB_STATE_DPC n.val) 0).slotFollows s n.val else s)

/-- Base, size, committed, ways and granule of decoder d of a VCS, from its entry in the standard layout (R162). -/
def State.decWord (s : State) (v d k : Nat) : Nat := s.get (Fld.HDM_DECODER_WORD (32 * v + d) k)
def State.decBase (s : State) (v d : Nat) : Nat := s.decWord v d 0 + 2 ^ 32 * s.decWord v d 1
def State.decSize (s : State) (v d : Nat) : Nat := s.decWord v d 2 + 2 ^ 32 * s.decWord v d 3
def State.decCommitted (s : State) (v d : Nat) : Bool := bitsOf (s.decWord v d 4) 10 1 == 1
def State.decGran (s : State) (v d : Nat) : Nat := 256 * 2 ^ bitsOf (s.decWord v d 4) 0 4
def State.decWays (s : State) (v d : Nat) : Nat := 2 ^ bitsOf (s.decWord v d 4) 4 4
def State.decTarget (s : State) (v d w : Nat) : Nat := bitsOf (s.get (Fld.HDM_TARGETS_WAYS (32 * v + d) (w / 4))) (8 * (w % 4)) 8

/-- The committed decoder of a VCS that holds an address (R142). -/
def State.decoderOf (s : State) (v a : Nat) : Option Nat :=
  (List.range 32).find? fun d => s.decCommitted v d && decide (s.decBase v d ≤ a) && decide (a < s.decBase v d + s.decSize v d)

/-- The downstream vPPB of the VCS that a committed decoder routes an address to. -/
def State.decRoute (s : State) (v d a : Nat) : Nat := s.decTarget v d ((a - s.decBase v d) / s.decGran v d % s.decWays v d)

/-- A decoder commit passes (R142): ways 1, 2, 4, 8 or 16, a granule of 256 bytes to 16 KiB, targets in the VCS, no overlap, ascending order. (log 129, PRESUMED) -/
def State.decoderOk (s : State) (v d base size iw ig : Nat) (targets : List Nat) : Bool :=
  decide (iw ≤ 4) && decide (ig ≤ 6) && targets.length == 2 ^ iw && targets.all (fun t => decide (1 ≤ t) && decide (t < s.vppbCount v))
    && decide (0 < size) && decide (base + size ≤ 2 ^ 52)
    && (List.range 32).all fun e => e == d || !s.decCommitted v e
      || (if e < d then decide (s.decBase v e + s.decSize v e ≤ base) else decide (base + size ≤ s.decBase v e))

/-- A decoder committed with Lock On Commit: it keeps what it holds (R142, R162). (log 259, PRESUMED) -/
def State.decLocked (s : State) (v d : Nat) : Bool := s.decCommitted v d && bitsOf (s.decWord v d 4) 8 1 == 1

/-- HDM_DECODER_COMMIT (R142, R162): the host of VCS v commits decoder d: base, size, ways code, granule code, Lock On Commit, Target Range Type, and its targets. A refused commit
leaves the decoder uncommitted; one that was committed with Lock On Commit does not change. -/
def execHdmDecoderCommit (v : Vcs) (d : Fin 32) (base size : BitVec 52) (iw ig : BitVec 4) (lock type : Bool) (targets : List Nat) (s : State) :
    Host.Outcome State Fault Refusal :=
  done (s.begin.whenFabric fun s =>
    if !s.isActive || !s.vcsEnabled v.val || s.decLocked v.val d.val then s
    else
      let n := 32 * v.val + d.val
      let b := base.toNat
      let z := size.toNat
      let ok := s.decoderOk v.val d.val b z iw.toNat ig.toNat targets
      let byte := fun (i : Nat) => targets.getD i 0 % 256
      let four := fun (i : Nat) => byte (4 * i) + 256 * byte (4 * i + 1) + 65536 * byte (4 * i + 2) + 2 ^ 24 * byte (4 * i + 3)
      let words := if ok then [b, b / 2 ^ 32, z, z / 2 ^ 32, ig.toNat + 16 * iw.toNat + 2 ^ 8 * bit lock + 2 ^ 9 + 2 ^ 10 + 2 ^ 12 * bit type, four 0, four 1, 0] else List.replicate 8 0
      let s := (List.range 8).foldl (fun s i => s.put (Fld.HDM_DECODER_WORD n i) (nth words i)) s
      let s := (List.range 4).foldl (fun s i => s.put (Fld.HDM_TARGETS_WAYS n i) (if ok then four i else 0)) s
      s.emit (.decoder v.val d.val ok))

/-! ### VCS entries (R160) -/

/-- Ranges of entries of enabled VCSs but v. -/
def State.vcsFits (s : State) (v base count usp : Nat) : Bool :=
  s.roleIs usp 0 && decide (2 ≤ count) && decide (count ≤ 256) && decide (base + count ≤ 4096)
    && (List.range 64).all fun k => k == v || !s.vcsEnabled k
      || (s.get (Fld.VCS_ENTRY_CFG_USP k) != usp && !overlap base count (s.vppbOf k 0) (s.vppbCount k))

/-- A VCS is enabled: its first entry becomes UPSTREAM with GEN + 1, the rest UNBOUND. -/
def State.enableVcs (s : State) (v usp base : Nat) : State :=
  let s := s.puts [(Fld.VCS_ENTRY_CFG_EN v, 1), (Fld.VCS_ENTRY_CFG_USP v, usp), (Fld.VCS_ENTRY_CFG_VPPB_BASE v, base)]
  let s := (List.range (s.vppbCount v)).foldl (fun s i => s.puts [(Fld.VPPB_STATE_STATE (base + i), 0), (Fld.VPPB_STATE_VCS (base + i), v)]) s
  ((s.put (Fld.VPPB_STATE_STATE base) 4).put (Fld.VPPB_TARGET_PORT base) usp).nextGen base

/-- A VCS is disabled: its entries return to UNUSED, its upstream vPPB has GEN + 1. (log 128, DEDUCED) -/
def State.disableVcs (s : State) (v : Nat) : State :=
  let base := s.vppbOf v 0
  let s := (((s.put (Fld.VCS_ENTRY_CFG_EN v) 0).nextGen base).put (Fld.VPPB_TARGET_PORT base) 0).dropVfs v
  (List.range (s.vppbCount v)).foldl (fun s i => s.puts [(Fld.VPPB_STATE_STATE (base + i), 7), (Fld.VPPB_STATE_VCS (base + i), 0)]) s

/-- A write of VCS_ENTRY_CFG (R149, R160). -/
def State.writeVcs (s : State) (v w : Nat) : State :=
  let en := bitsOf w 0 1 == 1
  let usp := bitsOf w 8 6
  let base := bitsOf w 16 12
  if s.vcsEnabled v then
    if en || (List.range (s.vppbCount v)).any (fun i => i != 0 && s.vppbState (s.vppbOf v i) != 0) then s else s.disableVcs v
  else if en then (if s.vcsFits v base (s.vppbCount v) usp then s.enableVcs v usp base else s)
  else s.puts [(Fld.VCS_ENTRY_CFG_USP v, usp), (Fld.VCS_ENTRY_CFG_VPPB_BASE v, base)]

/-- VCS_ENTRY_WRITE (R160). -/
def execVcsEntryWrite (m : Master) (v : Vcs) (value : Word) (s : State) : Host.Outcome State Fault Refusal :=
  done (s.begin.guardMirrored m 0x602 fun s => s.writeVcs v.val value.toNat)

/-- STATE of a VCS entry (R160): 0 DISABLED, 1 ENABLED with the USP link down, 2 ACTIVE. -/
def State.vcsState (s : State) (v : Nat) : Nat := if !s.vcsEnabled v then 0 else if s.linkUp (s.get (Fld.VCS_ENTRY_CFG_USP v)) then 2 else 1

/-- BOUND of a VCS entry: downstream vPPBs not in UNBOUND. -/
def State.vcsBound (s : State) (v : Nat) : Nat :=
  if s.vcsEnabled v then ((List.range (s.vppbCount v)).filter fun i => i != 0 && s.vppbState (s.vppbOf v i) != 0).length else 0

/-! ### LD allocations and quarantine (R149, R151, R161) -/

/-- The LDs of a port's device by its allocation: none for an SLD (R145, R161). -/
def State.setLds (s : State) (p : Nat) (lds : Option Nat) : State :=
  let s := s.modSw fun w => { w with mlds := match lds with | some n => assocPut w.mlds p n | none => assocDel w.mlds p }
  (List.range 16).foldl (fun s d => s.put (Fld.LD_STATE_PRESENT (16 * p + d)) (bit (decide (d < lds.getD 1)))) s

/-- Bound LDs that a training has removed from the device's allocation: a flush, a Surprise Down Error and DPC for each (R148). -/
def State.lostLds (s : State) (p had : Nat) : State :=
  (List.range 16).foldl (fun s d =>
    let e := 16 * p + d
    let n := s.get (Fld.LD_STATE_VPPB e)
    if bitsOf had d 1 == 1 && !s.flag (Fld.LD_STATE_PRESENT e) && s.flag (Fld.LD_STATE_BOUND e) && s.vppbState n == 1 then (s.surpriseDown n).flushVppb n (s.vppbGen n) else s) s

/-- The LDs of a port whose entries read PRESENT, as a mask (R161). -/
def State.ldMask (s : State) (p : Nat) : Nat := ((List.range 16).map fun d => 2 ^ d * s.get (Fld.LD_STATE_PRESENT (16 * p + d))).sum

/-- Set LD Allocations of `lds` LDs (R149): Busy while an LD of the device is bound; else the command is tunnelled and the LD table follows the new count. -/
def State.tunnelLds (s : State) (k p lds : Nat) (request response : List Byte) : State :=
  if !s.live 0x60 then s.answerBox k .busy
  else if !s.isMld p then s.answerBox k .invalidInput
  else if !(s.boundTo p).isEmpty then s.answerBox k .busy
  else
    let t := (s.emit (.tunnel p request)).setLds p (some lds)
    (t.answerBox k .success (response.map (·.toNat))).mirror s

/-- SET_LD_ALLOCATIONS (R149). -/
def execSetLdAllocations (k : BoxIx) (p : Port) (lds : Fin 17) (request : List Byte) (response : List Byte) (s : State) : Host.Outcome State Fault Refusal :=
  done (s.begin.command k.val Opc.tunnel .f fun s => s.tunnelLds k.val p.val lds.val request response)

/-- TRACKER_QUARANTINE_EXPIRE (R151): QUAR after its flush a STALE slot becomes FREE. -/
def execTrackerQuarantineExpire (t : TrackId) (s : State) : Host.Outcome State Fault Refusal :=
  done (s.begin.whenFabric fun s =>
    match t with
    | .port p c k =>
      match assoc (s.slots p.val c.val) k.val with
      | some e => if e.stale then s.setSlots p.val c.val (assocDel (s.slots p.val c.val) k.val) else s
      | none => s
    | .forward k =>
      match assoc s.fab.home.fwd k.val with
      | some e => if e.stale then (s.modHome fun o => { o with fwd := assocDel o.fwd k.val }).fab.home.txns.foldl State.advance (s.modHome fun o => { o with fwd := assocDel o.fwd k.val }) else s
      | none => s
    | .snoop k =>
      match assoc s.fab.home.snoops k.val with
      | some e => if e.stale then s.modHome fun o => { o with snoops := assocDel o.snoops k.val } else s
      | none => s
    | .mover k =>
      match assoc s.fab.mover.slots k.val with
      | some e => if e.stale then s.modMover fun x => { x with slots := assocDel x.slots k.val } else s
      | none => s)

/-- LIVE and STALE slots recorded against a vPPB (R159). -/
def State.vppbSlots (s : State) (n : Nat) (stale : Bool) : Nat :=
  (s.fab.sw.trackers.map fun x => (x.2.filter fun e => e.2.vppb == n && e.2.stale == stale).length).sum

end Sys2Proof.Machine
end

