-- ==== Sys2Proof/Machine/Line.lean ====
section
/-! DEFINITION. Sys2Proof/Machine/Line.lean: the 8b/10b decoder of a lane (R87): the code itself, the check of a received symbol, and the running disparity. -/
namespace Sys2Proof.Machine

/-- The six bits abcdei of a data byte's low five bits at negative running disparity, by value. -/
def sixBits : List Nat :=
  [0b100111, 0b011101, 0b101101, 0b110001, 0b110101, 0b101001, 0b011001, 0b111000, 0b111001, 0b100101, 0b010101, 0b110100, 0b001101, 0b101100, 0b011100, 0b010111,
   0b011011, 0b100011, 0b010011, 0b110010, 0b001011, 0b101010, 0b011010, 0b111010, 0b110011, 0b100110, 0b010110, 0b110110, 0b001110, 0b101110, 0b011110, 0b101011]

/-- The four bits fghj of the high three bits at negative running disparity: of a data byte, and of a control byte. -/
def fourBits : List Nat := [0b1011, 0b1001, 0b0101, 0b1100, 0b1101, 0b1010, 0b0110, 0b1110]
def fourBitsK : List Nat := [0b1011, 0b0110, 0b1010, 0b1100, 0b1101, 0b0101, 0b1001, 0b0111]

/-- How many of the low n bits are 1. -/
def ones (n v : Nat) : Nat := ((List.range n).filter fun i => v / 2 ^ i % 2 == 1).length

/-- A group of n bits as it is sent at positive running disparity: complemented where it is not balanced, or where its code alternates though balanced. -/
def atDisparity (n : Nat) (alternates positive : Bool) (v : Nat) : Nat := if positive && (ones n v * 2 != n || alternates) then 2 ^ n - 1 - v else v

/-- The 10-bit code abcdeifghj of a byte, as data or control, at a running disparity (8b/10b as the standard has it). (log 235, PRESUMED) -/
def lineCode (control : Bool) (b : Nat) (positive : Bool) : Nat :=
  let x := b % 32
  let y := b / 32 % 8
  let six := if control && x == 28 then atDisparity 6 false positive 0b001111 else atDisparity 6 (x == 7) positive (sixBits.getD x 0)
  let mid := if ones 6 six * 2 == 6 then positive else !positive
  let alt7 := !control && y == 7 && ((!mid && (x == 17 || x == 18 || x == 20)) || (mid && (x == 11 || x == 13 || x == 14)))
  let four := if control then atDisparity 4 true mid (fourBitsK.getD y 0) else if alt7 then atDisparity 4 false mid 0b0111 else atDisparity 4 (y == 3) mid (fourBits.getD y 0)
  six * 16 + four

/-- The K-codes that a main lane accepts at 2.5 and 5.0 GT/s: those the standard defines (R87). -/
def mainK : List Nat := [0xBC, 0xFB, 0x5C, 0xFD, 0xFE, 0xF7, 0x1C, 0x3C, 0x7C, 0xFC]

/-- The K-codes of the Waggle lane: K28.5 and K28.3 (R315). -/
def waggleK : List Nat := [0xBC, 0x7C]

/-- The byte a symbol stands for at a running disparity. -/
def symbolAt (ks : List Nat) (positive : Bool) (v : Nat) : Option LineSym :=
  match (List.range 256).find? fun b => lineCode false b positive == v with
  | some b => some (.data (BitVec.ofNat 8 b))
  | none => (ks.find? fun b => lineCode true b positive == v).map fun b => .ctrl (BitVec.ofNat 8 b)

/-- What a decoder has made of a stretch of symbols: what it passes upward, its code violations and disparity errors, and the running disparity it holds then. -/
structure LineStretch where
  syms : List LineSym
  violations : Nat
  disparities : Nat
  positive : Bool
deriving DecidableEq, Repr

/-- The running disparity a symbol implies; a neutral one leaves it. -/
def disparityAfter (positive : Bool) (v : Nat) : Bool := if 5 < ones 10 v then true else if ones 10 v < 5 then false else positive

/-- One symbol (R87): its byte; or an error marker: a disparity error where the code stands at the other disparity only, a code violation where it stands at neither. -/
def LineStretch.next (ks : List Nat) (d : LineStretch) (v : BitVec 10) : LineStretch :=
  let p := disparityAfter d.positive v.toNat
  match symbolAt ks d.positive v.toNat with
  | some x => { d with syms := d.syms ++ [x], positive := p }
  | none =>
    if (symbolAt ks (!d.positive) v.toNat).isSome then { d with syms := d.syms ++ [.marker], disparities := d.disparities + 1, positive := p }
    else { d with syms := d.syms ++ [.marker], violations := d.violations + 1, positive := p }

/-- A stretch of symbols in their order. -/
def decodeStretch (ks : List Nat) (positive : Bool) (l : List (BitVec 10)) : LineStretch := l.foldl (LineStretch.next ks) ⟨[], 0, 0, positive⟩

end Sys2Proof.Machine
end

