-- ==== Sys2Proof/Machine/Ports.lean ====
section
/-! DEFINITION. Sys2Proof/Machine/Ports.lean: port groups, ports, holds, training and the state of links (R113 to R122, R133 to R136, R155, R156, R452), with the lane operations they need. -/
namespace Sys2Proof.Machine
open Sys2Proof

/-! ### Lanes of ports (R102, R113) -/

/-- Lanes of a port under a mode, and which ports of a group a mode has (R113). -/
def bifurWidth (b : Nat) : Nat := if b = 0 then 16 else if b = 1 then 8 else 4
def bifurPorts (b : Nat) : Nat := if b = 0 then 1 else if b = 1 then 5 else 15

/-- The configured width of a port: the lanes of its slot (R113). -/
def State.portWidth (s : State) (p : Nat) : Nat := bifurWidth (s.get (Fld.PORTG_STATUS_BIFUR_ACT (p / 4)))

/-- Lanes of a port, lowest first. -/
def State.portLanes (s : State) (p : Nat) : List Nat := tabulate (s.portWidth p) fun i => 4 * p + i

/-- The present port whose slot holds a main lane. -/
def State.portOfLane (s : State) (i : Nat) : Option Nat :=
  if 256 ≤ i then none else (List.range 4).findSome? fun j =>
    let p := 4 * (i / 16) + j
    if s.present p && decide (4 * p ≤ i) && decide (i < 4 * p + s.portWidth p) then some p else none

/-- EN and HOLD of a port. -/
def State.portEn (s : State) (p : Nat) : Bool := s.present p && s.flag (Fld.PORT_CFG_EN p)
def State.portHeld (s : State) (p : Nat) : Bool := s.flag (Fld.PORT_CTL_HOLD p)

/-- A lane is live (R102). -/
def State.laneLive (s : State) (i : Nat) : Bool :=
  if i < 256 then (match s.portOfLane i with | some p => s.portEn p && !s.portHeld p | none => false)
  else if i < 264 then s.flag Fld.TDM_CFG_EN
  else s.flag Fld.WAGGLE_CFG_EN

/-- The eye-scan engine of a lane (R100). -/
def eyeEngine (i : Nat) : Nat := if i < 256 then i / 16 else if i < 264 then 16 else 17

/-- FAILED and its cause are cleared (R98, R122). -/
def State.clearFailed (s : State) (i : Nat) : State := s.puts [(Fld.LANE_STATUS_FAILED i, 0), (Fld.LANE_STATUS_FAIL_CAUSE i, 0)]

/-- A full calibration, or RECAL or BIST, is under way on a lane of the port (R96, R104). -/
def State.lanesBusy (s : State) (p : Nat) : Bool :=
  (s.portLanes p).any fun i => s.fab.lanes.cal.contains i
    || s.testOp i == some 1 || s.testOp i == some 4

/-! ### Directional sleep ends with the link or at Recovery (R131) -/

/-- The time a sleeping direction has slept is counted (R418). -/
def State.dsxSlept (s : State) (p : Nat) : State :=
  let s := if s.dsxTx p = 3 then s.count (Ctr.PORT p 13) (s.now - (s.portX p).txSince) else s
  if s.dsxRx p = 3 then s.count (Ctr.PORT p 14) (s.now - (s.portX p).rxSince) else s

/-- Both directions return to AWAKE; a wake is counted and told for one that slept or was waking (R131, R137, R138). -/
def State.dsxRoused (s : State) (p : Nat) : State :=
  let tx := decide (3 ≤ s.dsxTx p)
  let rx := decide (3 ≤ s.dsxRx p)
  let s := s.dsxSlept p
  let s := if tx then s.count (Ctr.PORT p 11) else s
  let s := if rx then s.count (Ctr.PORT p 12) else s
  ((s.raiseIf (tx || rx) (Evt.PORT_DSX_WAKE p)).putTx p 0).putRx p 0

/-- Every DSX request is withdrawn and every state returns to AWAKE; DSX is off until the next HELLO. `wake` tells whether DSX_WAKE is raised for a direction that slept. (log 144, DEDUCED) -/
def State.dsxOff (s : State) (p : Nat) (wake : Bool) : State :=
  let s := if wake then s.dsxRoused p else s.dsxSlept p
  let s := s.modPort p fun x => { x with hello := false, txSeq := none, rxSeq := none, withdrawn := [] }
  s.puts [(Fld.PORT_DSX_STATUS_NEG p, 0), (Fld.PORT_DSX_STATUS_TX p, 0), (Fld.PORT_DSX_STATUS_RX p, 0), (Fld.PORT_DSX_STATUS_UPSTREAM p, 0), (Fld.PORT_DSX_STATUS_VER p, 0)]

/-! ### Reachability over ISLs (R335) -/

/-- PID i is reachable. -/
def State.pidReachable (s : State) (i : Nat) : Bool :=
  s.flag (Fld.SWARM_RT_LOCAL i) || s.islUsable (s.get (Fld.SWARM_RT_ISL0 i)) || (s.flag (Fld.SWARM_RT_ISL1_V i) && s.islUsable (s.get (Fld.SWARM_RT_ISL1 i)))

/-- The valid entries of SWARM_RT. -/
def State.pidsInUse (s : State) : List Nat :=
  s.regs.filterMap fun e =>
    if Addr.SWARM_RT 0 ≤ e.1 ∧ e.1 ≤ Addr.SWARM_RT 4095 ∧ e.2.toNat % 2 = 1 then some ((e.1 - Addr.SWARM_RT 0) / 4) else none

/-- PIDs that have become reachable or unreachable since the last look: events, and hosts at a PID become lost when it is unreachable (R236, R335, R342). (log 149, DEDUCED) -/
def State.updateReach (s : State) : State :=
  let now := s.pidsInUse.filter fun i => !s.pidReachable i
  let old := s.fab.pair.unreachable
  let lost := now.filter fun i => !old.contains i
  let back := old.any fun i => !now.contains i && s.flag (Fld.SWARM_RT_V i)
  let s := s.modPair fun x => { x with unreachable := now }
  let s := (s.raiseIf (!lost.isEmpty) Evt.SWARM_UNREACHABLE).raiseIf back Evt.SWARM_REACHABLE
  lost.foldl State.pidLost s

/-! ### Links that go down (R120, R156, R452) -/

/-- Sessions that `f` picks end (R405, R412). -/
def State.endSessions (s : State) (f : Session → Bool) : State :=
  let l := s.sec.sessions.filter fun x => !f x
  { s with sec := { s.sec with sessions := l } } |>.put Fld.SEC_SESSIONS_ACTIVE l.length

/-- DOE sessions of a VCS end with the link of its USP (R405). (log 75, DEDUCED) -/
def State.endDoe (s : State) (v : Nat) : State :=
  s.endSessions fun x => match x.transport with | .doe u => u.val == v | _ => false

/-- Everything on a port's lanes and in its link state that ends when its link goes to Detect, is disabled or is held. -/
def State.portStops (s : State) (p : Nat) : State :=
  let s := ((s.portLanes p).foldl State.laneDown s).dsxOff p false
  let s := s.modPort p fun x => { x with l0p := none }
  s.puts [(Fld.PORT_STATUS_RATE p, 0), (Fld.PORT_STATUS_FLIT p, 0), (Fld.PORT_STATUS_CXL p, 0), (Fld.PORT_STATUS_CACHE p, 0), (Fld.PORT_STATUS_MEM p, 0),
    (Fld.PORT_STATUS_REVERSED p, 0)]

/-- The port stops being up where it was: LINK_DOWN, the flush, and what its vPPBs, its host, its sessions and the swarm see of it (R138, R148, R149, R156). (log 140, DEDUCED) -/
def State.portLost (s : State) (p : Nat) : State :=
  if s.linkUp p then
    let s := ((s.raise (Evt.PORT_LINK_DOWN p)).count (Ctr.PORT p 7)).portDown p
    let s := match s.vcsOn p with
      | some v => if s.roleIs p 0 then s.endDoe v else s
      | none => s
    if s.get (Fld.PORT_CFG_ROLE p) == 2 then s.updateReach else s
  else s

/-! ### Holds (R120 to R122) -/

/-- HOLD changes from 0 to 1 with a reason (R120, R138). A hold already set changes nothing (R121). -/
def State.holdPort (s : State) (p reason : Nat) : State :=
  if s.portHeld p then s
  else
    let s := (s.puts [(Fld.PORT_CTL_HOLD p, 1), (Fld.PORT_STATUS_HOLD_REASON p, reason), (Fld.PORT_STATUS_LINK p, bit (s.portEn p))]).raise (Evt.PORT_HELD p)
    (s.portLost p).portStops p

/-- Kind of the fault message of a hold reason (R366). -/
def holdKind (reason : Nat) : Nat :=
  match reason with
  | 2 => Kind.WIDTH_SHORT
  | 3 => Kind.RATE_SHORT
  | 4 => Kind.FLIT_MISMATCH
  | 5 => Kind.PROTOCOL_MISMATCH
  | 6 => Kind.LANE_FAIL
  | 7 => Kind.CAL_FAIL
  | _ => Kind.REFCLK_SSC

/-- The hardware holds a port (R121): the hold, its count, and one fault message. (log 138, DEDUCED) -/
def State.hwHold (s : State) (p reason party : Nat) : State :=
  if s.portHeld p then s
  else
    let m := s.message (holdKind reason) 1 (0x10 + p / 4) (p % 4) (if reason ≤ 5 ∨ reason = 7 then 6 else 8) party none
    ((s.holdPort p reason).count (Ctr.PORT p 8)).sendFault m

/-- Training may run: stage 9 has been reached (R74). -/
def State.trains (s : State) : Bool := s.flag Fld.BOOT_STATUS_FABRIC_READY

/-- Training of a port is enabled (R98, R120, R121): it waits while a calibration, RECAL or BIST of its lanes runs (R104). (log 135, DEDUCED) -/
def State.enableTraining (s : State) (p : Nat) : State :=
  if !s.portEn p || s.portHeld p then s
  else if s.lanesBusy p then s.put (Fld.PORT_STATUS_LINK p) 9
  else
    let s := (s.portLanes p).foldl State.clearFailed s
    (s.modPort p fun x => { x with first := false, reached := false }).put (Fld.PORT_STATUS_LINK p) 2

/-- A release (R104, R122): the reason and the FAILED bits of the lanes are cleared, PRBS tests end as ABORTED, and training starts. -/
def State.releasePort (s : State) (p : Nat) : State :=
  if !s.portHeld p then s
  else
    let s := s.puts [(Fld.PORT_CTL_HOLD p, 0), (Fld.PORT_STATUS_HOLD_REASON p, 0)]
    let s := (s.portLanes p).foldl (fun s i =>
      (if s.testOp i == some 2 || s.testOp i == some 3 then s.endTest i 6 else s).clearFailed i) s
    s.enableTraining p

/-- A retrain in L0 or L0p starts Recovery, one during Recovery is absorbed (R133). -/
def State.enterRecovery (s : State) (p : Nat) : State :=
  let s := (s.put (Fld.PORT_STATUS_LINK p) 6).modPort p fun x => { x with l0p := none }
  ((s.portLanes p).foldl (fun s i => s.laneSignal i true) s).dsxOff p true

def State.retrain (s : State) (p : Nat) : State :=
  let l := s.get (Fld.PORT_STATUS_LINK p)
  if l = 5 ∨ l = 7 then s.enterRecovery p else s

/-- A write of PORT_CTL (R122, R136). -/
def State.writePortCtl (s : State) (p v : Nat) : State :=
  if !s.present p then s
  else
    let s := if bitsOf v 0 1 = 1 then s.holdPort p 1 else s.releasePort p
    if bitsOf v 1 1 = 1 then s.retrain p else s

/-- PORT_HOLD (R120): a write of PORT_CTL. -/
def execPortHold (m : Master) (p : Port) (value : Word) (s : State) : Host.Outcome State Fault Refusal :=
  done (s.begin.guard m (0x10 + p.val / 4) fun s => s.writePortCtl p.val value.toNat)

/-- PORT_RELEASE (R122): a write of PORT_CTL. (log 141, DEDUCED) -/
def execPortRelease (m : Master) (p : Port) (value : Word) (s : State) : Host.Outcome State Fault Refusal :=
  done (s.begin.guard m (0x10 + p.val / 4) fun s => s.writePortCtl p.val value.toNat)

/-- PORT_RETRAIN (R133): a write of PORT_CTL. -/
def execPortRetrain (m : Master) (p : Port) (value : Word) (s : State) : Host.Outcome State Fault Refusal :=
  done (s.begin.guard m (0x10 + p.val / 4) fun s => s.writePortCtl p.val value.toNat)

/-! ### Configuration (R114, R115, R136) -/

/-- A value of PORT_CFG that is accepted, from the value in force (R136). -/
def portCfgOk (old v : Nat) : Bool :=
  let role := bitsOf v 1 2
  let rate := bitsOf v 4 3
  let flit := bitsOf v 8 2
  let pcie := bitsOf v 10 1 == 1
  !(bitsOf old 0 1 == 1 && old / 2 != v / 2) && role != 3 && flit != 3 && rate != 0 && rate != 7 && !(flit == 2 && rate == 6)
    && !((rate == 1 || rate == 2) && !(role == 1 && pcie)) && !(pcie && role != 1) && !(role == 2 && flit == 2)

/-- A port has been enabled: its lanes are calibrated, at run time at once and before that in stage 8 (R96, R120). (logs 136, DEDUCED; 254, DESIGN CHOICE) -/
def State.portEnabled (s : State) (p : Nat) : State :=
  let s := if 8 ≤ s.get Fld.BOOT_STATUS_STAGE then s.modLanes fun l => { l with cal := l.cal ++ (s.portLanes p).filter fun i => !l.cal.contains i } else s
  if s.portHeld p then s.put (Fld.PORT_STATUS_LINK p) 1 else s.enableTraining p

/-- A port has been disabled: it goes down as a hold takes it down (R136). (log 251, DESIGN CHOICE) -/
def State.portDisabled (s : State) (p : Nat) : State :=
  let s := s.modLanes fun l => { l with cal := l.cal.filter fun i => !(s.portLanes p).contains i }
  ((s.portLost p).portStops p).put (Fld.PORT_STATUS_LINK p) 0

/-- A write of PORT_CFG (R136). -/
def State.writePortCfg (s : State) (p v : Nat) : State :=
  let old := (s.word (Addr.PORT_CFG p)).toNat
  let v := v % 2 ^ 13 - bitsOf v 3 1 * 2 ^ 3 - bitsOf v 7 1 * 2 ^ 7
  let v := if s.flag (Fld.PORTG_LOCK_LOCK (p / 4)) then old - bitsOf old 0 1 + bitsOf v 0 1 else v
  if s.present p && portCfgOk old v then
    let was := bitsOf old 0 1 == 1
    let on := bitsOf v 0 1 == 1
    if was && !on then
      let s := s.portLost p
      (s.setWord (Addr.PORT_CFG p) (BitVec.ofNat 32 v)).portDisabled p
    else
      let s := s.setWord (Addr.PORT_CFG p) (BitVec.ofNat 32 v)
      if on && !was then s.portEnabled p else s
  else s

/-- PORT_CFG_WRITE (R136). -/
def execPortCfgWrite (m : Master) (p : Port) (value : Word) (s : State) : Host.Outcome State Fault Refusal :=
  done (s.begin.guard m (0x10 + p.val / 4) fun s => s.writePortCfg p.val value.toNat)

/-- A write of PORTG_CFG (R114). -/
def State.writeBifur (s : State) (k v : Nat) : State :=
  let b := bitsOf v 0 2
  if s.flag (Fld.PORTG_LOCK_LOCK k) || b == 3 || s.flag (Fld.PORTG_STATUS_APPLYING k) || (List.range 4).any (fun j => s.portEn (4 * k + j)) then s
  else (s.put (Fld.PORTG_CFG_BIFUR k) b).put (Fld.PORTG_STATUS_APPLYING k) 1

/-- BIFUR_WRITE (R114). -/
def execBifurWrite (m : Master) (k : Pg) (value : Word) (s : State) : Host.Outcome State Fault Refusal :=
  done (s.begin.guard m (0x10 + k.val) fun s => s.writeBifur k.val value.toNat)

/-- The registers of a port's block return to their reset values as the port becomes absent (R113). (log 137, DEDUCED) -/
def State.dropPort (s : State) (p : Nat) : State :=
  let s := (List.range 7).foldl (fun s i => s.setWord (Addr.PORT_CFG p + 4 * i) (resetWord (Addr.PORT_CFG p + 4 * i))) s
  s.modPort p fun _ => PortX.reset

/-- BIFUR_APPLY_DONE (R114, R138). -/
def execBifurApplyDone (k : Pg) (s : State) : Host.Outcome State Fault Refusal :=
  done (s.begin.whenFabric fun s =>
    if s.flag (Fld.PORTG_STATUS_APPLYING k.val) then
      let b := s.get (Fld.PORTG_CFG_BIFUR k.val)
      let s := s.puts [(Fld.PORTG_STATUS_BIFUR_ACT k.val, b), (Fld.PORTG_STATUS_APPLYING k.val, 0), (Fld.PORTG_STATUS_PRESENT k.val, bifurPorts b)]
      let s := (List.range 4).foldl (fun s j => if s.present (4 * k.val + j) then s else s.dropPort (4 * k.val + j)) s
      s.raise (Evt.PORTG_BIFUR_DONE k.val)
    else s)

/-- CPRES_CHANGE (R26, R138): the pin of a port group changes level; `low` tells that it reads low. (log 142, DEDUCED) -/
def execCpresChange (k : Pg) (low : Bool) (s : State) : Host.Outcome State Fault Refusal :=
  let s := s.begin
  let was := s.clk.cpres.contains k.val
  let s := { s with clk := { s.clk with cpres := if low then (if was then s.clk.cpres else k.val :: s.clk.cpres) else s.clk.cpres.filter fun x => x != k.val } }
  done (s.raiseIf (was != low) (Evt.PORTG_CPRES_CHG k.val))

/-! ### Links (R121, R133, R452) -/

/-- Largest CTLE peaking in dB at a rate (R90). -/
def ctleMax (r : Nat) : Nat := if r ≤ 2 then 6 else if r = 5 || r = 6 then 20 else 12

/-- A main lane runs at one of six rates, and a link at no other (R86). -/
def mainRate (r : Nat) : Bool := decide (1 ≤ r) && decide (r ≤ 6)

/-- Modes a port may run in (R116, R117, R121, R136): an ISL and a CXL partner by PORT_CFG.FLIT, which judges a link from 8.0 GT/s on, where flit modes begin; a PCI Express
partner by R117. (log 241, DEDUCED) -/
def State.flitOk (s : State) (p : Nat) (e : L0Entry) : Bool :=
  let flit := s.get (Fld.PORT_CFG_FLIT p)
  if s.get (Fld.PORT_CFG_ROLE p) = 2 || e.cxl then
    match e.flit with
    | 0 => decide (e.rate ≤ 2)
    | 1 => flit == 2 && decide (e.rate ≤ 5)
    | 2 => true
    | _ => decide (1 ≤ flit)
  else !s.flag (Fld.PORT_CFG_PCIE_OK p) || (e.flit == 0 && decide (e.rate ≤ 5)) || (e.flit == 2 && decide (3 ≤ e.rate))

/-- The partner's protocol or role does not fit the port (R121). -/
def State.protocolBad (s : State) (p : Nat) (e : L0Entry) : Bool :=
  let role := s.get (Fld.PORT_CFG_ROLE p)
  (!e.cxl && !s.flag (Fld.PORT_CFG_PCIE_OK p)) || (role == 1 && e.partnerDown) || (role == 0 && !e.partnerDown)

/-- The hold condition an entry to L0 meets, the lowest code first (R121). -/
def State.l0Reason (s : State) (p : Nat) (e : L0Entry) : Option Nat :=
  if e.lanes < s.portWidth p then some 2
  else if (s.portX p).reached && decide (e.rate < s.get (Fld.PORT_CFG_RATE p)) then some 3
  else if !s.flitOk p e then some 4
  else if s.protocolBad p e then some 5
  else none

/-- Coefficients the standard's rules allow at a rate for FS = 63 and LF = 16 (R93): the taps of the rate, their sum, the bounds of the outer taps, the lowest level. (log 231, PRESUMED) -/
def eqAllowed (rate cm2 cm1 c0 cp1 : Nat) : Bool :=
  (rate == 6 || cm2 == 0) && cm2 + cm1 + c0 + cp1 == 63 && decide (cm2 ≤ 63 / 8) && decide (cm1 ≤ 63 / 4) && decide (16 + cm2 + cm1 + cp1 ≤ c0)

/-- The word of LANE_TX_COEF. -/
def coefWord (cm2 cm1 c0 cp1 : Nat) : Word := BitVec.ofNat 32 (cm2 + 2 ^ 8 * cm1 + 2 ^ 16 * c0 + 2 ^ 24 * cp1)

/-- One coefficient request of the partner (R93): an allowed one comes into use, another is rejected; a preset gives the standard's values. -/
def State.eqRequest (s : State) (i rate : Nat) (r : EqReq) : State :=
  match r with
  | .preset n => s.setWord (Addr.LANE_TX_COEF i) (Config.preset (rate == 6) n.val &&& 0x3F3F3F3F)
  | .coefs cm2 cm1 c0 cp1 =>
    if eqAllowed rate cm2.val cm1.val c0.val cp1.val then s.setWord (Addr.LANE_TX_COEF i) (coefWord cm2.val cm1.val c0.val cp1.val) else s.emit (.eqReject i)

/-- The equalizer fits the rate (R90): the CTLE within its range, and at 2.5 and 5.0 GT/s the main tap of the FFE only and no DFE; the FIR of the transmitter likewise (R93). (log 239, DEDUCED) -/
def State.fitEq (s : State) (i rate : Nat) : State :=
  let s := s.put (Fld.LANE_EQ_STATUS_CTLE i) (min (ctleMax rate) (s.get (Fld.LANE_EQ_STATUS_CTLE i)))
  if rate ≤ 2 then
    let s := (List.range 16).foldl (fun s k => s.put (Fld.LANE_FFE_COEF i k) (if k = 3 then 0x40 else 0)) s
    let s := (List.range 4).foldl (fun s k => s.put (Fld.LANE_DFE_COEF i k) 0) s
    s.setWord (Addr.LANE_TX_COEF i) 0
  else s

/-- What the lanes and PORT_STATUS show of a link in L0 (R86, R89, R93, R108, R109, R136): equalization has run where the rate uses it, with the partner's requests in their order,
and each end has asked for the precoding it wants. -/
def State.showL0 (s : State) (p : Nat) (e : L0Entry) : State :=
  let s := s.puts [(Fld.PORT_STATUS_LINK p, 5), (Fld.PORT_STATUS_WIDTH p, e.lanes), (Fld.PORT_STATUS_RATE p, e.rate), (Fld.PORT_STATUS_FLIT p, e.flit),
    (Fld.PORT_STATUS_CXL p, bit e.cxl), (Fld.PORT_STATUS_CACHE p, bit e.cache), (Fld.PORT_STATUS_MEM p, bit e.mem), (Fld.PORT_STATUS_REVERSED p, bit e.reversed)]
  let asks := (s.portLanes p).filter fun i => s.flag (Fld.LANE_CFG_PRECODE_REQ i)
  let s := if 5 ≤ e.rate && !asks.isEmpty then s.emit (.precode p asks) else s
  (s.portLanes p).foldl (fun s i =>
    let s := if s.get (Fld.LANE_STATUS_RATE i) = e.rate then s else s.abortEye i
    let s := s.puts [(Fld.LANE_STATUS_RATE i, e.rate), (Fld.LANE_STATUS_POL_INV i, bit (e.inverted.contains i))]
    let s := s.fitEq i e.rate
    let s := if e.rate ≤ 2 then s else ((e.requests[i - 4 * p]?).getD []).foldl (fun s r => s.eqRequest i e.rate r) s
    (s.modLanes fun l => { l with errs := assocDel l.errs i, precoding := (l.precoding.filter fun x => x != i) ++ if 5 ≤ e.rate && e.precode.contains i then [i] else [] }).laneSignal i true) s

/-! ### IDE streams (R407 to R409) -/

/-- The state and the key set in use of a port's CXL.io or CXL.cache/mem stream in SEC_IDE_PORT. -/
def ideField (p : Nat) (cm : Bool) : Field := if cm then Fld.SEC_IDE_PORT_CM p else Fld.SEC_IDE_PORT_IO p
def ideKset (p : Nat) (cm : Bool) : Field := if cm then Fld.SEC_IDE_PORT_CM_KSET p else Fld.SEC_IDE_PORT_IO_KSET p

/-- A programmed key set comes into use: the stream becomes SECURE, or has been rekeyed if it already was. -/
def State.ideUse (s : State) (p : Nat) (cm kset : Bool) : State :=
  let s := if s.get (ideField p cm) = 2 then (s.addSat (Fld.SEC_IDE_PORT_REKEYS p) 1).raise Evt.SEC_REKEY_DONE else s.raise Evt.SEC_IDE_SECURE
  (s.put (ideField p cm) 2).putFlag (ideKset p cm) kset

/-- IDE_KM messages of the requester side of a port: how many a programming takes the manual leaves to the standard. (log 210, DESIGN CHOICE) -/
def State.ideMessages (s : State) (p : Nat) : State :=
  let s := (s.count (Ctr.SECC (4 + p) 0) s.free).used
  (s.count (Ctr.SECC (4 + p) 1) s.free).used

/-- Keys cross to the key registers of a port's IDE engine, in place of those of the same set (R408). -/
def State.putIdeKeys (s : State) (e : IdePending) (tx rx : Nat) : State :=
  { s with sec := { s.sec with ideKeys := s.sec.ideKeys.filter (fun k => k.1 != e) ++ [(e, tx, rx)] } }

/-- The requester draws the keys of a set from the DRBG and programs both ends with them (R407, R408). (log 277, DESIGN CHOICE) -/
def State.drawIdeKeys (s : State) (p : Nat) (cm kset : Bool) : State :=
  let tx := s.free
  let s := s.used
  (s.putIdeKeys ⟨p, cm, kset⟩ tx s.free).used

/-- The link of a port is in L0. -/
def State.inL0 (s : State) (p : Nat) : Bool := s.get (Fld.PORT_STATUS_LINK p) == 5 || s.get (Fld.PORT_STATUS_LINK p) == 7

/-- A key set comes into use at once in L0, else at the next entry to L0 (R409). -/
def State.ideGo (s : State) (p : Nat) (cm kset : Bool) : State :=
  if s.inL0 p then s.ideUse p cm kset else { s with sec := { s.sec with waiting := s.sec.waiting ++ [⟨p, cm, kset⟩] } }

/-- The module, as requester, rekeys a stream that is SECURE: the idle key set is programmed at both ends and comes into use (R407). -/
def State.ideRekey (s : State) (p : Nat) (cm : Bool) : State :=
  if s.get (ideField p cm) = 2 then ((s.ideMessages p).drawIdeKeys p cm (!s.flag (ideKset p cm))).ideGo p cm (!s.flag (ideKset p cm)) else s

/-- Key sets that wait for the port's next entry to L0 take effect, then rekeys that fell due meanwhile run (R409). -/
def State.ideAtL0 (s : State) (p : Nat) : State :=
  let l := s.sec.waiting.filter fun w => w.port == p
  let due := s.sec.rekeyDue.filter fun w => w.port == p
  let s := { s with sec := { s.sec with waiting := s.sec.waiting.filter fun w => w.port != p, rekeyDue := s.sec.rekeyDue.filter fun w => w.port != p } }
  due.foldl (fun s w => s.ideRekey p w.cm) (l.foldl (fun s w => s.ideUse p w.cm w.kset) s)

/-- A port becomes up (R138, R155, R335, R452): LINK_UP, and for a device its LDs, an event record and presence on each bound vPPB whose LD is present. (log 139, DEDUCED) -/
def State.portUp (s : State) (p : Nat) (lds : Option Nat) : State :=
  let s := ((({ s with fab := { s.fab with up := s.fab.up ++ [p] } }).raise (Evt.PORT_LINK_UP p)).count (Ctr.PORT p 6)).ideAtL0 p
  if s.roleIs p 1 then
    let had := s.ldMask p
    let s := if s.isActive then (s.setLds p lds).lostLds p had else s
    (s.boundTo p).foldl State.reportPresence (s.fmEvent .hotAdd p 0)
  else if s.roleIs p 2 then s.updateReach
  else s

/-- HELLO after an entry to L0 at the configured width and rate (R124, R126, R127). -/
def State.sendHello (s : State) (p : Nat) : State :=
  if s.flag (Fld.PORT_CFG_DSX_EN p) && decide (2 ≤ s.get (Fld.PORT_STATUS_FLIT p)) then
    ((s.put (Fld.PORT_DSX_STATUS_TIMEOUTS p) 0).modPort p fun x => { x with hello := true }).emit (.dsx p (dsxMessage .hello 1 s.clk.straps.modId.val 0x31))
  else s

/-- LINK_L0_ENTRY (R121, R138, R452). -/
def execLinkL0Entry (p : Port) (e : L0Entry) (s : State) : Host.Outcome State Fault Refusal :=
  done (s.begin.whenFabric fun s =>
    let p := p.val
    let l := s.get (Fld.PORT_STATUS_LINK p)
    if s.trains && s.portEn p && !s.portHeld p && (l == 2 || l == 6) && mainRate e.rate then
      let s := s.showL0 p e
      match s.l0Reason p e with
      | some r => s.hwHold p r Party.none
      | none =>
        let full := e.rate == s.get (Fld.PORT_CFG_RATE p)
        let s := s.modPort p fun x => { x with first := true, reached := x.reached || full }
        if full then ((if s.linkUp p then s.ideAtL0 p else s.portUp p e.lds).sendHello p) else s
    else s)

/-- RATE_CHECK_TIMEOUT (R121). -/
def execRateCheckTimeout (p : Port) (s : State) : Host.Outcome State Fault Refusal :=
  done (s.begin.whenFabric fun s =>
    if s.portEn p.val && (s.portX p.val).first && !(s.portX p.val).reached then s.hwHold p.val 3 Party.none else s)

/-- LINK_RECOVERY_ENTRY (R131, R452): the link stays up. -/
def execLinkRecoveryEntry (p : Port) (s : State) : Host.Outcome State Fault Refusal :=
  done (s.begin.whenFabric fun s =>
    let l := s.get (Fld.PORT_STATUS_LINK p.val)
    if l = 5 ∨ l = 7 ∨ l = 8 then s.enterRecovery p.val else s)

/-- LINK_LOSS (R121, R156): the link goes to Detect and trains again whenever a partner is present. -/
def execLinkLoss (p : Port) (s : State) : Host.Outcome State Fault Refusal :=
  done (s.begin.whenFabric fun s =>
    let l := s.get (Fld.PORT_STATUS_LINK p.val)
    if l = 5 ∨ l = 6 ∨ l = 7 ∨ l = 8 then
      let s := ((s.portLost p.val).portStops p.val).put (Fld.PORT_STATUS_LINK p.val) 2
      s.modPort p.val fun x => { x with first := false, reached := false }
    else s)

/-- LINK_L1_ENTRY (R67, R92, R452): the link stays up and its receivers see electrical idle. -/
def execLinkL1Entry (p : Port) (s : State) : Host.Outcome State Fault Refusal :=
  done (s.begin.whenFabric fun s =>
    let l := s.get (Fld.PORT_STATUS_LINK p.val)
    if l = 5 ∨ l = 7 then (s.portLanes p.val).foldl (fun s i => s.laneSignal i false) (s.put (Fld.PORT_STATUS_LINK p.val) 8) else s)

/-- LINK_L0P_CHANGE (R133): the lanes above the active ones idle, within the configured width; all of them active is L0. -/
def execLinkL0pChange (p : Port) (active : Fin 17) (s : State) : Host.Outcome State Fault Refusal :=
  done (s.begin.whenFabric fun s =>
    let p := p.val
    let l := s.get (Fld.PORT_STATUS_LINK p)
    if (l = 5 ∨ l = 7) ∧ 0 < active.val ∧ active.val ≤ s.portWidth p then
      let full := active.val == s.portWidth p
      let s := (s.put (Fld.PORT_STATUS_LINK p) (if full then 5 else 7)).modPort p fun x => { x with l0p := if full then none else some active.val }
      (s.portLanes p).foldl (fun s i => s.laneSignal i (decide (i < 4 * p + active.val))) s
    else s)

/-! ### REFCLK loss (R62) -/

/-- REFCLK_LOSS (R62): the hub and tile PLLs switch to the TCXO, REFCLK_LOST is reported, and ports in common clock with SSC are held. -/
def execRefclkLoss (s : State) : Host.Outcome State Fault Refusal :=
  let s := s.begin
  let was := s.clk.refPresent
  let s := { s with clk := { s.clk with refEdges := false, refPresent := false } }
  done (if was && s.clk.mgmtUp && !s.clk.mgmtStopped then
    let s := ({ s with clk := { s.clk with refSrcTcxo := true } }).raise Evt.CLK_REFCLK_LOST
    let s := s.sendFault (s.message Kind.REFCLK_LOST 0 0x001 0 8 Party.none none)
    if s.flag Fld.CLK_REF_CFG_SSC && s.live 0x10 then
      (List.range 64).foldl (fun s p => if s.portEn p && !s.flag (Fld.PORT_CFG_SRIS p) then s.hwHold p 8 Party.none else s) s
    else s
  else s)

end Sys2Proof.Machine
end

