-- ==== Sys2Proof/Machine/Dsx.lean ====
section
/-! DEFINITION. Sys2Proof/Machine/Dsx.lean: directional sleep (R123 to R132, R137). States of a direction: 0 AWAKE, 1 REQ, 2 ENTERING or EXPECT, 3 ASLEEP, 4 WAKING. -/
namespace Sys2Proof.Machine
open Sys2Proof

/-- A DSX message that cannot be used is discarded and counted (R131). -/
def State.dsxDiscard (s : State) (p : Nat) : State := s.count (Ctr.PORT p 15)

/-- Send a DSX message. -/
def State.dsxSend (s : State) (p : Nat) (op : DsxOp) (ver seq arg : Nat) : State := (s.dsxFlit p).emit (.dsx p (dsxMessage op ver seq arg))

/-- The module may put its transmit direction to sleep: the queue is empty and it owes neither an acknowledgement nor a credit return (R128). What the link layer owes is open. (log 145, DESIGN CHOICE) -/
def State.maySleep (s : State) (p : Nat) : Bool := s.txQueueEmpty p && s.free % 2 == 0

/-- A port whose link carries DSX messages. -/
def State.whenUp (s : State) (p : Port) (f : State → State) : State :=
  s.whenFabric fun s => if s.linkUp p.val && s.get (Fld.PORT_STATUS_LINK p.val) != 6 then f s else s

/-- A message arrives on an up link (R126, R131): one whose header is not that of a DSX message is no business of this unit; one of another PROTO or OP is discarded and counted. -/
def State.dsxArrives (s : State) (p : Port) (msg : Vdm) (op : DsxOp) (f : State → State) : State :=
  s.whenUp p fun s =>
    if !msg.headed .localReceiver then s
    else if msg.proto != 0xD5 || msg.op != op.code then s.dsxDiscard p.val
    else f s

/-! ### Requests of the module (R128, R137) -/

/-- Request sleep of the transmit direction (false) or of the receive direction (true). -/
def State.dsxRequest (s : State) (p : Nat) (rx : Bool) : State :=
  let k := (s.portX p).seq
  let s := (s.dsxSend p .sleepReq 1 k (bit rx)).modPort p fun x => { x with seq := (k + 1) % 256, txSeq := if rx then x.txSeq else some k, rxSeq := if rx then some k else x.rxSeq }
  if rx then s.putRx p 1 else s.putTx p 1

/-- Request TX-sleep where the direction is awake and nothing is queued or owed. -/
def State.dsxTxSleep (s : State) (p : Nat) : State :=
  let ok := s.maySleep p
  let s := s.used
  if s.dsxNeg p && s.dsxTx p == 0 && ok then s.dsxRequest p false else s

/-- Request RX-sleep where the direction is awake. -/
def State.dsxRxSleep (s : State) (p : Nat) : State := if s.dsxNeg p && s.dsxRx p == 0 then s.dsxRequest p true else s

/-- A write of PORT_DSX_CMD (R137): ignored while DSX is not negotiated. -/
def State.writeDsxCmd (s : State) (p v : Nat) : State :=
  if !s.present p || !s.dsxNeg p then s
  else
    match bitsOf v 0 3 with
    | 1 => s.dsxTxSleep p
    | 2 => s.dsxRxSleep p
    | 3 => s.dsxWake p
    | 4 => s.dsxSend p .wakeReq 1 0 0
    | _ => s

/-- DSX_CMD_TX_SLEEP (R137): a write of PORT_DSX_CMD. -/
def execDsxCmdTxSleep (m : Master) (p : Port) (value : Word) (s : State) : Host.Outcome State Fault Refusal :=
  done (s.begin.guard m (0x10 + p.val / 4) fun s => s.writeDsxCmd p.val value.toNat)

/-- DSX_CMD_RX_SLEEP (R137): a write of PORT_DSX_CMD. -/
def execDsxCmdRxSleep (m : Master) (p : Port) (value : Word) (s : State) : Host.Outcome State Fault Refusal :=
  done (s.begin.guard m (0x10 + p.val / 4) fun s => s.writeDsxCmd p.val value.toNat)

/-- DSX_CMD_TX_WAKE (R137): a write of PORT_DSX_CMD. -/
def execDsxCmdTxWake (m : Master) (p : Port) (value : Word) (s : State) : Host.Outcome State Fault Refusal :=
  done (s.begin.guard m (0x10 + p.val / 4) fun s => s.writeDsxCmd p.val value.toNat)

/-- DSX_CMD_RX_WAKE (R137): a write of PORT_DSX_CMD. -/
def execDsxCmdRxWake (m : Master) (p : Port) (value : Word) (s : State) : Host.Outcome State Fault Refusal :=
  done (s.begin.guard m (0x10 + p.val / 4) fun s => s.writeDsxCmd p.val value.toNat)

/-- DSX_TX_IDLE_EXPIRE (R128). -/
def execDsxTxIdleExpire (p : Port) (s : State) : Host.Outcome State Fault Refusal :=
  done (s.begin.whenUp p fun s => if s.get (Fld.PORT_DSX_CFG_TX_IDLE p.val) = 0 then s else s.dsxTxSleep p.val)

/-- DSX_RX_IDLE_EXPIRE (R128). -/
def execDsxRxIdleExpire (p : Port) (s : State) : Host.Outcome State Fault Refusal :=
  done (s.begin.whenUp p fun s => if s.get (Fld.PORT_DSX_CFG_RX_IDLE p.val) = 0 then s else s.dsxRxSleep p.val)

/-! ### Negotiation (R124, R131) -/

/-- DSX_HELLO_RX (R124, R131): answered with the version chosen where the module offers DSX; where DSX is negotiated, every state returns to AWAKE. (log 222, DEDUCED) -/
def execDsxHelloRx (p : Port) (msg : Vdm) (s : State) : Host.Outcome State Fault Refusal :=
  done (s.begin.dsxArrives p msg .hello fun s =>
    let p := p.val
    if !s.flag (Fld.PORT_CFG_DSX_EN p) || s.get (Fld.PORT_STATUS_FLIT p) < 2 then s
    else if msg.ver < 1 ∨ 1 < msg.arg % 16 then s.dsxDiscard p
    else
      let s := if s.dsxNeg p then
          let rx := s.dsxRx p
          let s := (s.dsxRoused p).modPort p fun x => { x with txSeq := none, rxSeq := none }
          if 3 ≤ rx then (s.portLanes p).foldl (fun s i => s.laneSignal i true) s else s
        else s
      s.emit (.dsx p (dsxMessage .helloAck 1 s.clk.straps.modId.val 0x31)))

/-- DSX_HELLO_ACK_RX (R124, R132): DSX is negotiated under version 1; on an ISL the tie-break values must differ. -/
def execDsxHelloAckRx (p : Port) (msg : Vdm) (s : State) : Host.Outcome State Fault Refusal :=
  done (s.begin.dsxArrives p msg .helloAck fun s =>
    let p := p.val
    if msg.ver ≠ 1 ∨ !(s.portX p).hello then s.dsxDiscard p
    else
      let role := s.get (Fld.PORT_CFG_ROLE p)
      let own := s.clk.straps.modId.val
      let s := s.modPort p fun x => { x with hello := false }
      if role = 2 ∧ own = msg.seq then s.raise (Evt.PORT_DSX_ERR p)
      else
        let up := role == 0 || (role == 2 && decide (own < msg.seq))
        s.puts [(Fld.PORT_DSX_STATUS_NEG p, 1), (Fld.PORT_DSX_STATUS_VER p, 1), (Fld.PORT_DSX_STATUS_UPSTREAM p, bit up), (Fld.PORT_DSX_STATUS_TIMEOUTS p, 0)])

/-- DSX_HELLO_TIMEOUT (R124): DSX stays off. -/
def execDsxHelloTimeout (p : Port) (s : State) : Host.Outcome State Fault Refusal :=
  done (s.begin.whenFabric fun s => s.modPort p.val fun x => { x with hello := false })

/-! ### Requests of the partner (R128, R131, R132) -/

/-- The upstream-facing end's request proceeds: the module's own outstanding requests are withdrawn (R132). (log 146, DEDUCED) -/
def State.dsxWithdraw (s : State) (p : Nat) (tx rx : Bool) : State :=
  let x := s.portX p
  let l := (if tx then x.txSeq.toList.map (fun k => (false, k)) else []) ++ if rx then x.rxSeq.toList.map (fun k => (true, k)) else []
  let s := s.modPort p fun x => { x with withdrawn := x.withdrawn ++ l, txSeq := if tx then none else x.txSeq, rxSeq := if rx then none else x.rxSeq }
  let s := if tx && s.dsxTx p == 1 then s.putTx p 0 else s
  if rx && s.dsxRx p == 1 then s.putRx p 0 else s

/-- A SLEEP_REQ that is not refused by its coincidence with another request: direction 0 is the module's receive direction, direction 1 its transmit direction (R128). -/
def State.dsxSleepReq (s : State) (p seq : Nat) (ownTx : Bool) : State :=
  if ownTx then
    let ok := s.maySleep p
    let s := s.used
    if s.dsxTx p = 3 ∨ s.dsxTx p = 2 then s.emit (.dsx p (dsxMessage .sleepAck 1 seq 1))
    else if ok && s.dsxTx p != 4 then (s.dsxSend p .sleepAck 1 seq 1).putTx p 2
    else s.dsxSend p .sleepNak 1 seq (1 + 2)
  else
    let s := s.dsxSend p .sleepAck 1 seq 0
    if s.dsxRx p = 3 then s else s.putRx p 2

/-- DSX_SLEEP_REQ_RX (R128, R131, R132). -/
def execDsxSleepReqRx (p : Port) (msg : Vdm) (s : State) : Host.Outcome State Fault Refusal :=
  done (s.begin.dsxArrives p msg .sleepReq fun s =>
    let p := p.val
    let d := msg.arg % 2
    let l := s.get (Fld.PORT_STATUS_LINK p)
    let own := (s.portX p).txSeq.isSome || (s.portX p).rxSeq.isSome
    if msg.ver ≠ 1 then s.dsxDiscard p
    else if !s.dsxNeg p then s.dsxSend p .sleepNak 1 msg.seq (d + 2 * 3)
    else if l = 7 ∨ l = 8 then s.dsxSend p .sleepNak 1 msg.seq (d + 2 * 4)
    else if own && s.flag (Fld.PORT_DSX_STATUS_UPSTREAM p) then s.dsxSend p .sleepNak 1 msg.seq (d + 2 * 2)
    else (s.dsxWithdraw p true true).dsxSleepReq p msg.seq (d == 1))

/-- A DSX answer that matches no outstanding request: a late one to a request R132 withdrew is not counted (R131). -/
def State.dsxUnmatched (s : State) (p : Nat) (rx : Bool) (seq : Nat) : State :=
  if (s.portX p).withdrawn.contains (rx, seq) then s.modPort p fun x => { x with withdrawn := x.withdrawn.erase (rx, seq) } else s.dsxDiscard p

/-- An answer has come: the request of its direction is no longer outstanding. -/
def State.dsxAnswered (s : State) (p : Nat) (rx : Bool) : State :=
  (s.put (Fld.PORT_DSX_STATUS_TIMEOUTS p) 0).modPort p fun x => if rx then { x with rxSeq := none } else { x with txSeq := none }

/-- Does an answer match the module's outstanding request? -/
def State.dsxMatches (s : State) (p : Nat) (msg : Vdm) : Bool :=
  s.dsxNeg p && (if msg.arg % 2 = 1 then (s.portX p).rxSeq == some msg.seq else (s.portX p).txSeq == some msg.seq)

/-- DSX_SLEEP_ACK_RX (R128, R131): the transmit direction enters ENTERING, or the receive direction EXPECT. -/
def execDsxSleepAckRx (p : Port) (msg : Vdm) (s : State) : Host.Outcome State Fault Refusal :=
  done (s.begin.dsxArrives p msg .sleepAck fun s =>
    let p := p.val
    let rx := msg.arg % 2 == 1
    if msg.ver ≠ 1 then s.dsxDiscard p
    else if s.dsxMatches p msg then
      let s := s.dsxAnswered p rx
      if rx then s.putRx p 2 else s.putTx p 2
    else s.dsxUnmatched p rx msg.seq)

/-- DSX_SLEEP_NAK_RX (R128, R131): the request ends, its direction stays awake. -/
def execDsxSleepNakRx (p : Port) (msg : Vdm) (s : State) : Host.Outcome State Fault Refusal :=
  done (s.begin.dsxArrives p msg .sleepNak fun s =>
    let p := p.val
    let rx := msg.arg % 2 == 1
    if msg.ver ≠ 1 then s.dsxDiscard p
    else if s.dsxMatches p msg then
      let s := (s.dsxAnswered p rx).put (Fld.PORT_DSX_STATUS_LAST_NAK p) (bitsOf msg.arg 1 3)
      if rx then s.putRx p 0 else s.putTx p 0
    else s.dsxUnmatched p rx msg.seq)

/-- DSX_WAKE_REQ_RX (R129, R131, R132). (log 147, DEDUCED) -/
def execDsxWakeReqRx (p : Port) (msg : Vdm) (s : State) : Host.Outcome State Fault Refusal :=
  done (s.begin.dsxArrives p msg .wakeReq fun s =>
    let p := p.val
    if msg.ver ≠ 1 then s.dsxDiscard p
    else if !s.dsxNeg p then s
    else if s.dsxTx p = 1 then s.dsxWithdraw p true false
    else if s.dsxTx p = 2 then s.putTx p 4
    else s.dsxWake p)

/-! ### Sleep and wake on the link (R128 to R130) -/

/-- DSX_EIOSQ_RX (R92, R128, R138): the direction is ASLEEP at the receiver. -/
def execDsxEiosqRx (p : Port) (s : State) : Host.Outcome State Fault Refusal :=
  done (s.begin.whenUp p fun s =>
    let p := p.val
    if s.dsxRx p = 2 then
      let s := (((s.putRx p 3).modPort p fun x => { x with rxSince := s.now }).raise (Evt.PORT_DSX_SLEEP p)).count (Ctr.PORT p 10)
      (s.portLanes p).foldl (fun s i => s.laneSignal i false) s
    else s)

/-- The transmitters of a port in ENTERING idle: the direction is ASLEEP at the sender (R128, R138). (log 148, DEDUCED) -/
def State.dsxAsleep (s : State) (p : Nat) : State :=
  if s.dsxTx p = 2 then (((s.putTx p 3).modPort p fun x => { x with txSince := s.now }).raise (Evt.PORT_DSX_SLEEP p)).count (Ctr.PORT p 9) else s

/-- DSX_REQUEST_TIMEOUT (R128): of the transmit (false) or receive direction. After three in a row DSX is off. -/
def execDsxRequestTimeout (p : Port) (rx : Bool) (s : State) : Host.Outcome State Fault Refusal :=
  done (s.begin.whenUp p fun s =>
    let p := p.val
    if (if rx then (s.portX p).rxSeq else (s.portX p).txSeq).isSome then
      let n := s.get (Fld.PORT_DSX_STATUS_TIMEOUTS p) + 1
      let s := (s.modPort p fun x => if rx then { x with rxSeq := none } else { x with txSeq := none }).raise (Evt.PORT_DSX_ERR p)
      let s := (if rx then s.putRx p 0 else s.putTx p 0).put (Fld.PORT_DSX_STATUS_TIMEOUTS p) (min 3 n)
      if 3 ≤ n then s.dsxOff p true else s
    else s)

/-- DSX_RET_EXPIRE (R129). -/
def execDsxRetExpire (p : Port) (s : State) : Host.Outcome State Fault Refusal :=
  done (s.begin.whenUp p fun s => if s.dsxNeg p.val then s.dsxWake p.val else s)

/-- DSX_FLIT_WAKE (R128, R129). -/
def execDsxFlitWake (p : Port) (s : State) : Host.Outcome State Fault Refusal :=
  done (s.begin.whenUp p fun s => if s.dsxNeg p.val then s.dsxFlit p.val else s)

/-- DSX_PREAMBLE_END (R130, R138): the sender is AWAKE. -/
def execDsxPreambleEnd (p : Port) (s : State) : Host.Outcome State Fault Refusal :=
  done (s.begin.whenUp p fun s =>
    if s.dsxTx p.val = 4 then ((s.putTx p.val 0).raise (Evt.PORT_DSX_WAKE p.val)).count (Ctr.PORT p.val 11) else s)

/-- DSX_RX_SIGNAL_DETECT (R101, R130): the receivers no longer see electrical idle, so scans of the lanes go on. -/
def execDsxRxSignalDetect (p : Port) (s : State) : Host.Outcome State Fault Refusal :=
  done (s.begin.whenUp p fun s =>
    let p := p.val
    if s.dsxRx p = 3 then
      let s := (s.count (Ctr.PORT p 14) (s.now - (s.portX p).rxSince)).putRx p 4
      (s.portLanes p).foldl (fun s i => (s.put (Fld.LANE_STATUS_SIG_DET i) 1).suspendEye i) s
    else s)

/-- DSX_RX_FIRST_FLIT (R128, R130, R138): the receiver is AWAKE; a flit in EXPECT returns it to AWAKE. -/
def execDsxRxFirstFlit (p : Port) (s : State) : Host.Outcome State Fault Refusal :=
  done (s.begin.whenUp p fun s =>
    let p := p.val
    if s.dsxRx p = 4 then
      let s := ((s.putRx p 0).raise (Evt.PORT_DSX_WAKE p)).count (Ctr.PORT p 12)
      (s.portLanes p).foldl (fun s i => s.laneSignal i true) s
    else if s.dsxRx p = 2 then s.putRx p 0
    else s)

/-- One idle cycle of the module: the time base advances, and the transmitters of a direction in ENTERING idle. (log 8, DESIGN CHOICE) -/
def State.idle (s : State) : State :=
  let s := s.cycle
  if s.live 0x10 && !s.clk.mgmtStopped then s.fab.up.foldl State.dsxAsleep s else s

end Sys2Proof.Machine
end

