-- ==== Sys2Proof/Machine/Pair.lean ====
section
/-! DEFINITION. Sys2Proof/Machine/Pair.lean: mirrored pairs and swarms: the Tandem link, the Waggle lane, the mirror stream, roles, promotion, planned swap and
swarm notices (R305 to R342). -/
namespace Sys2Proof.Machine
open Sys2Proof

/-! ### Active: epochs, resends and bulk resynchronization (R321 to R325) -/

/-- The module sends the mirror stream: ACTIVE_SOLO, ACTIVE_PAIRED and SWAPPING (R332). -/
def State.streams (s : State) : Bool := s.role == 2 || s.role == 3 || s.role == 8

/-- Every region (R305). -/
def allRegions : Nat := 2 ^ 20 - 1

/-- Send again every journaled record from SEQ `from_`, the first in a RESTART frame; with none, RESTART goes with the next record (R322, R323). (log 161, DEDUCED) -/
def State.resendFrom (s : State) (from_ : Nat) : State :=
  let again := fun (r : Rec) => !seqAfter from_ r.seq
  let n := (s.fab.pair.journal.filter again).length
  ((s.modPair fun p => { p with journal := p.journal.map (fun r => { r with sent := !again r }), restartNext := true, part := 0 }).count (Ctr.PAIR 0 4) n).pump

/-- Words [a, a + 4n) of the register space. -/
def State.wordsAt (s : State) (a n : Nat) : List Nat := tabulate n fun i => (s.word (a + 4 * i)).toNat

/-- The runs of registers of a region, as their first offset and count of words (R305, R325). -/
def regionRuns (r : Nat) : List (Nat × Nat) :=
  if r < 16 then [(0x702000 + 0x80 * r, 32), (0x704000 + 1024 * r, 256), (0x708000 + 2048 * r, 512)]
  else if r = 16 then tabulate 6 fun i => (0x6000000 + 0x10000 * i, 16384)
  else if r = 18 then [(0xA21100, 64), (0xA22000, 256), (0xA24000, 4096)]
  else if r = 19 then [(0x904000, 1024), (0x822000, 256)]
  else []

/-- Groups of a hive's directory: its buckets, or its sets where BKT_COUNT = 0 (R325). -/
def State.groupsOf (s : State) (h : Nat) : Nat :=
  if s.hasBuckets h then 65536 * s.get (Fld.HIVE_BKT_BKT_COUNT h) else 1024 * s.get (Fld.HIVE_DIR_SET_COUNT h)

/-- Record i of the bulk copy of region r; none past its end (R325). -/
def State.bulkRecord (s : State) (r i : Nat) : Option RecBody :=
  let runs := regionRuns r
  match runs[i]? with
  | some (a, n) => some (.reg a (s.wordsAt a n))
  | none =>
    if r = 17 then
      (if i = 0 then
        let bank := s.fab.hat.active
        some (.commit (s.get Fld.HAT_STATUS_EPOCH) true ((rulesOf bank).map fun n => (n, ruleWords bank n)))
      else none)
    else if r < 16 then
      let g := 64 * (i - runs.length)
      let n := min 64 (s.groupsOf r - g)
      if s.groupsOf r ≤ g then none
      else some (.bulkDir r g n (((s.hiveDir r).filter fun e => decide (g ≤ s.placeOf r e.1) && decide (s.placeOf r e.1 < g + n)).map fun e => (e.1, e.2.e)))
    else none

/-- The lowest region whose RSYNC bit is set. -/
def State.firstRsync (s : State) : Option Nat := (List.range 20).find? s.rsync

/-- One bulk record, counted (R418). -/
def State.appendBulk (s : State) (r : Nat) (b : RecBody) : State := (s.append r b).count (Ctr.PAIR 0 5)

/-- Bulk resynchronization may go on: the journal is at most half full (R325). -/
def State.bulkMay (s : State) : Bool := s.issues && decide (2 * s.fab.pair.journalBytes ≤ s.journalSize)

/-- Bulk resynchronization of the lowest region whose RSYNC bit is set begins: BULK_BEGIN, which must fit, and the bit is cleared (R325). -/
def State.bulkStart (s : State) : State :=
  match s.fab.pair.bulk, s.firstRsync with
  | none, some r => if s.bulkMay && s.recFits 16 then ((s.clearRsync r).modPair fun p => { p with bulk := some (r, 0) }).appendBulk r .bulkBegin else s
  | _, _ => s

/-- The next bulk record, where it fits (R325). A region whose RSYNC bit is set anew is given up, to begin again. (log 157, DEDUCED) -/
def State.bulkStep (s : State) : Option State :=
  match s.fab.pair.bulk with
  | none => none
  | some (r, i) =>
    if !s.bulkMay then none
    else if s.rsync r then some (s.modPair fun p => { p with bulk := none })
    else
      match s.bulkRecord r i with
      | some b => if s.recFits b.length then some ((s.modPair fun p => { p with bulk := some (r, i + 1) }).appendBulk r b) else none
      | none => if s.recFits 16 then some (((s.modPair fun p => { p with bulk := none }).appendBulk r .bulkEnd).raise Evt.TDM_RESYNC_DONE) else none

/-- Bulk resynchronization goes on as far as it can; the bound is more records than the staging buffer holds (R324). -/
def State.resyncSteps : Nat → State → State
  | 0, s => s
  | n + 1, s =>
    match s.bulkStep with
    | some s => s.resyncSteps n
    | none => s

def State.resync (s : State) : State := s.resyncSteps 256

/-- RSYNC bits are set (R323, R325, R327, R342). (log 172, DEDUCED) -/
def State.needResync (s : State) (mask : Nat) : State :=
  let new := mask &&& (allRegions ^^^ s.get Fld.TDM_UNKNOWN_REGIONS)
  if new = 0 then s else (s.setRsync new).raise Evt.TDM_OVERFLOW

/-- BULK_RESYNC_START (R325). -/
def execBulkResyncStart (s : State) : Host.Outcome State Fault Refusal := done (s.begin.whenFabric fun s => s.bulkStart.resync)

/-! ### Standby: receiving and applying the stream (R320, R323, R326) -/

/-- The standby of a pair. -/
def State.isStandby (s : State) : Bool := s.role == 4 || s.role == 5

/-- Regions unknown to the standby (R326). -/
def State.unknownRegions (s : State) : Nat := s.fab.pair.begun ||| ((s.fab.pair.peer.map (·.rsync)).getD 0)

/-- TDM_UNKNOWN of a standby (R339). -/
def State.showUnknown (s : State) : State := if s.isStandby || s.role == 6 then s.put Fld.TDM_UNKNOWN_REGIONS s.unknownRegions else s

/-- Lines that differ between two entries of one sector. -/
def DirEntry.differs (o n : DirEntry) (j : Nat) : Bool :=
  o.line j != n.line j || (n.line j == 1 && o.sharers != n.sharers) || (n.line j == 2 && o.owner != n.owner)

/-- The entry a record leaves, with every line it changed set to A at a promotion (R237, R329). -/
def entryApplied (asA : Bool) (old new : Option DirEntry) : Option DirEntry :=
  if !asA then new
  else
    let o := old.getD (DirEntry.blank ((new.map (·.hgen)).getD 0))
    let n := new.getD (DirEntry.blank o.hgen)
    let o := if o.hgen = n.hgen then o else DirEntry.blank n.hgen
    let e := { n with st := tabulate 4 fun j => if o.differs n j then 3 else n.line j }
    if e.allI && new.isNone then none else some e

/-- Write the standby's copy of an entry. -/
def State.applyDir (s : State) (asA : Bool) (h x : Nat) (new : Option DirEntry) : State :=
  let k := dirKey h x
  match entryApplied asA ((assoc s.fab.home.dir k).map (·.e)) new with
  | some e => s.modHome fun o => { o with dir := assocPut o.dir k { e := e, onDie := !s.hasBuckets h, stamp := 0 } }
  | none => s.modHome fun o => { o with dir := assocDel o.dir k }

/-- A bank with rule n replaced. -/
def setRule (bank : List (Nat × Word)) (n : Nat) (ws : List Nat) : List (Nat × Word) :=
  (List.range 16).foldl (fun b k => sparsePut resetWord b (0x5000000 + 64 * n + 4 * k) (BitVec.ofNat 32 (nth ws k))) bank

/-- A commit is applied to the active bank and to the shadow bank, which a commit leaves equal (R281, R320). (log 158, DEDUCED) -/
def State.applyCommit (s : State) (e : Nat) (full : Bool) (rules : List (Nat × List Nat)) : State :=
  let set_ := fun (b : List (Nat × Word)) => rules.foldl (fun b r => setRule b r.1 r.2) b
  let regs := if full then s.regs.filter fun x => x.1 / 0x10000 / 64 != 0x14 else s.regs
  ({ s with regs := set_ regs }.modHat fun h => { h with active := set_ (if full then [] else h.active) }).put Fld.HAT_STATUS_EPOCH e

/-- REG words go to the same offsets, regardless of access types and locks (R320); a hive seen in CLEARING loses its entries. (log 159, DEDUCED) -/
def State.applyRegs (s : State) (a : Nat) (ws : List Nat) : State :=
  let s := (ws.foldl (fun (x : State × Nat) w => (x.1.setWord x.2 (BitVec.ofNat 32 w), x.2 + 4)) (s, a)).1
  match regionOf a with
  | some h => if h < 16 && s.hiveState h == 1 then s.clearBuckets h else s
  | none => s

/-- Apply a record (R320, R326). (log 160, DEDUCED) -/
def State.applyRec (asA : Bool) (s : State) (r : Rec) : State :=
  let s := s.count (Ctr.PAIR 1 2)
  match r.body with
  | .dir h x e => s.applyDir asA h x e
  | .reg a ws => s.applyRegs a ws
  | .commit e full rules => s.applyCommit e full rules
  | .epoch m _ => s.modPair fun p => { p with mepoch := m }
  | .bulkBegin =>
    if r.region < 16 then
      (if s.hasBuckets r.region then s.clearSets r.region
       else s.modHome fun o => { o with dir := o.dir.filter fun e => e.1 / 2 ^ 38 != r.region })
    else s
  | .bulkDir h g n es =>
    let gone := (s.hiveDir h).filter fun e => decide (g ≤ s.placeOf h e.1) && decide (s.placeOf h e.1 < g + n) && !es.any (fun x => x.1 == e.1)
    let s := gone.foldl (fun s e => s.applyDir asA h e.1 none) s
    es.foldl (fun s e => s.applyDir asA h e.1 (some e.2)) s
  | .bulkEnd => s.raise Evt.TDM_RESYNC_DONE

/-- Apply the open epoch in stream order (R321, R329). -/
def State.applyOpen (s : State) (asA : Bool) : State :=
  let l := s.fab.pair.openEpoch
  (l.foldl (State.applyRec asA) (s.modPair fun p => { p with openEpoch := [] })).updateReach

/-- A gap (R323): records above R are discarded and RESEND is sent, from R + 1. -/
def State.gapSeen (s : State) : State :=
  (((s.raise Evt.TDM_GAP).count (Ctr.PAIR 1 3)).modPair fun p => { p with gap := true, reqDue := true }).pump

/-- A whole record has been received in order: R is its SEQ, and it joins the open epoch; an EPOCH record closes it (R321, R323, R326). -/
def State.acceptRec (s : State) (r : Rec) : State :=
  let s := s.put Fld.TDM_HSEQ_SEQ r.seq
  let s := s.modPair fun p =>
    { p with adopt := false, gap := false, reqDue := false, openEpoch := p.openEpoch ++ [r], blocks := p.blocks.filter fun b => seqAfter b.1 r.seq }
  let bitR := if r.region < 20 then 2 ^ r.region else 0
  match r.body with
  | .bulkBegin => s.modPair fun p => { p with begun := p.begun ||| bitR }
  | .bulkEnd => s.modPair fun p => { p with begun := p.begun &&& (allRegions ^^^ bitR), ended := p.ended ||| bitR }
  | .epoch _ _ => (((s.applyOpen false).put Fld.TDM_ACKSEQ_SEQ r.seq).modPair fun p => { p with ackDue := true }).pump
  | _ => s

/-- A record from the active arrives (R323): taken in order, discarded at or below R, a gap beyond R + 1; after a gap only the RESTART with R + 1 is taken. -/
def State.receiveRec (s : State) (r : Rec) : State :=
  let r := { r with seq := r.seq % 2 ^ 32, sent := true }
  let next := (s.get Fld.TDM_HSEQ_SEQ + 1) % 2 ^ 32
  let first := s.fab.pair.restartIn
  if !s.isStandby || s.get Fld.TDM_LINK_STATE != 3 || s.get Fld.TDM_LINK_MPV == 0 then s
  else
    let p := s.fab.pair
    let s := s.modPair fun p => { p with restartIn := false }
    if p.adopt then (s.modPair fun p => { p with openEpoch := [] }).acceptRec r
    else if p.gap then (if first && r.seq == next then s.acceptRec r else s)
    else if r.seq == next then s.acceptRec r
    else if seqAfter r.seq next then s.gapSeen
    else s

/-! ### The time base (R64, R65, R318) -/

/-- The conditions of R64 hold. -/
def State.mayFollow (s : State) : Bool := s.flag Fld.TIME_CFG_FOLLOW_EN && s.isStandby && s.flag Fld.WAGGLE_STATUS_ALIVE

/-- The time PLL changes its source as R64 tells. -/
def State.updateFollow (s : State) : State :=
  if s.mayFollow then (if s.following then s else (s.put Fld.TIME_STATUS_SRC 1).raise Evt.TIME_SRC_WAGGLE) else s.stopFollow

/-- A signed number in 16 bits, saturating. -/
def toInt16 (i : Int) : Nat := ((max (-32767) (min 32767 i)) % 65536).toNat

/-- The round trip of R318, on bits [31:0]. (log 169, DEDUCED) -/
def State.roundTrip (s : State) (b : WBlock) : Nat :=
  (s.now + 2 ^ 33 - b.echoTx % 2 ^ 32 - (b.tsTx + 2 ^ 32 - b.echoRx % 2 ^ 32) % 2 ^ 32) % 2 ^ 32

/-- The offset of an active partner is measured and corrected while the module follows (R65, R318). (log 51, DEDUCED) -/
def State.measureOffset (s : State) (b : WBlock) (active : Bool) : State :=
  let rtt := s.roundTrip b
  let s := s.put Fld.WAGGLE_RTT_NS rtt
  if !s.following || !active then s
  else
    let off : Int := (b.tsTx : Int) + (rtt / 2 : Nat) - (s.now : Int)
    let s := s.put Fld.TIME_STATUS_OFFSET (toInt16 off)
    if 1000 < off then
      let s := s.puts [(Fld.TIME_STATUS_ALIGNED, 0), (Fld.TIME_STATUS_SLEWING, 0)]
      s.timeForward off.toNat
    else
      let near := decide (-20 ≤ off) && decide (off ≤ 20)
      let s := s.put Fld.TIME_STATUS_SLEWING (bit (off != 0))
      let s := s.raiseIf (near && !s.flag Fld.TIME_STATUS_ALIGNED) Evt.TIME_ALIGNED
      if near then s.put Fld.TIME_STATUS_ALIGNED 1 else s

/-! ### Roles (R307, R308, R327 to R333) -/

/-- On entry to a passive role every dirty log is disabled and the whole Comb pool is poisoned (R307). -/
def State.passiveEntry (s : State) : State :=
  let s := (List.range 64).foldl (fun s n => (s.put (Fld.LOG_CFG_EN n) 0).put (Fld.LOG_STATUS_ACTIVE n) 0) s
  s.modComb fun c => { c with poisonAll := true, poison := [] }

/-- Change the role (R327); a SWAP_REQ ends with STANDBY. -/
def State.setRole (s : State) (st : Nat) : State :=
  let old := s.role
  if old = st then s
  else
    let s := (s.put Fld.TDM_ROLE_STATE st).raise Evt.TDM_ROLE_CHG
    let s := if old = 5 && s.fab.pair.msgOut == 1 then s.modPair fun p => { p with msgOut := 0 } else s
    if st = 1 || st = 4 || st = 5 || st = 6 || st = 7 then s.passiveEntry else s

/-- A block of an active partner (R327). -/
def WBlock.active (b : WBlock) : Bool := b.state = 2 || b.state = 3 || (b.state = 8 && b.msg != 2)

/-- The partner as its last intact block tells, unless it is held failed. -/
def State.partner (s : State) : Option WBlock := if s.fab.pair.failed = 0 then s.fab.pair.peer else none

def State.strapB (s : State) : Bool := s.flag Fld.CLK_STRAPS_TANDEM_ROLE

/-- Nothing is left of the stream the module sent. -/
def State.clearJournal (s : State) : State :=
  (s.modPair fun p => { p with journal := [], recent := [], bulk := none, restartNext := false, part := 0, sinceEpoch := 0 }).showFill

/-- Entry to STANDBY_SYNC: the stream is taken up at the next record (R327). (log 150, DEDUCED) -/
def State.toSync (s : State) : State :=
  ((s.clearJournal.modPair fun p =>
    { p with adopt := true, gap := false, openEpoch := [], begun := 0, ended := 0, swapHseq := none, blocks := [], ackDue := false, reqDue := false, handover := false }).setRole
    4).passiveEntry

/-- A planned swap starts: the drain (R332). The credits of the USPs are withheld while SWAPPING. -/
def State.startSwap (s : State) : State := (s.modPair fun p => { p with swapFrom := s.role, handover := false }).setRole 8

/-- A swap is abandoned: the previous active state (R327). (log 153, DEDUCED) -/
def State.swapFail (s : State) : State :=
  ((s.setRole s.fab.pair.swapFrom).modPair fun p => { p with handover := false, msgOut := 3, msgLeft := 4 }).raise Evt.TDM_SWAP_FAIL

/-- The partner is active after HANDOVER: the module is its standby, and holds every record up to its final HSEQ (R327). -/
def State.swapDone (s : State) : State :=
  (s.clearJournal.modPair fun p =>
    { p with handover := false, msgOut := 0, adopt := false, gap := false, openEpoch := [], begun := 0, ended := allRegions, blocks := [], swapHseq := none }).setRole 5

/-! ### Promotion (R237, R329, R330) -/

/-- The hive enters RECOVERING, and its sweep starts (R237, R238). -/
def State.hiveRecovering (s : State) (h : Nat) : State :=
  (s.put (Fld.HIVE_STATUS_STATE h) 3).put Fld.HOME_SWEEP_HIVES (s.get Fld.HOME_SWEEP_HIVES ||| 2 ^ h)

/-- What the home does with an ACTIVE hive of a promoted module (R237). -/
def State.handActive (s : State) (h : Nat) (tail : Bool) : State :=
  if tail then
    if s.flag (Fld.HIVE_CFG_TAIL_ACTION h) then s.hiveDown h 6 0
    else ((s.hiveRecovering h).put (Fld.HIVE_STATUS_TAIL h) 1).bumpHgen h
  else if (s.counting h).any fun e => e.2.e.st.contains 3 then s.hiveRecovering h
  else if s.hiveState h == 3 then s.hiveActive h
  else s

/-- The engine hands hive h with its TAIL to the home (R237). -/
def State.handHive (u : Nat) (s : State) (h : Nat) : State :=
  let tail := bitsOf u h 1 == 1
  let st := s.hiveState h
  if st = 1 then s.clearBuckets h
  else if st = 2 || (st = 3 && !s.flag (Fld.HIVE_STATUS_TAIL h)) then s.handActive h tail
  else if st = 3 then (if tail then s.handActive h true else s.hiveRecovering h)
  else s

/-- The heartbeats above R cover (R, final HSEQ] without a break (R330). -/
def blocksCover (r : Nat) : List (Nat × Nat × Nat) → Bool
  | [] => true
  | (hseq, low, _) :: rest => !seqAfter low r && blocksCover hseq rest

/-- The unknown set at a promotion (R330). Causes: 1 FAILSTOP, 2 SILENCE, 3 SWAP, 4 COMMAND, 5 PEER_RESTART. -/
def State.unknownSet (s : State) (cause : Nat) : Nat :=
  if cause = 2 || cause = 4 then allRegions
  else if cause = 5 then 0xFFFF
  else
    let l := s.fab.pair.blocks.filter fun b => seqAfter b.1 (s.get Fld.TDM_HSEQ_SEQ)
    if blocksCover (s.get Fld.TDM_HSEQ_SEQ) l then l.foldl (fun u b => u ||| b.2.2) s.unknownRegions else allRegions

/-- Entry to PROMOTING (R329): the module no longer follows, applies the open epoch, computes the unknown set, and hands each hive to the home. -/
def State.promote (s : State) (cause : Nat) : State :=
  let s := ((s.setRole 7).modPair fun p => { p with gap := false, reqDue := false, ackDue := false, swapHseq := none, detectedAt := s.now }).stopFollow
  let s := s.applyOpen true
  let u := s.unknownSet cause
  let s := s.modPair fun p => { p with promo := some (cause, u) }
  (List.range 16).foldl (State.handHive u) s

/-! ### The role table (R327, R328) -/

/-- A partner that is active while this module is (R327): SPLIT on both; the module strapped B fail-stops, the other is in ACTIVE_SOLO. -/
def State.splitSeen (s : State) : State :=
  let s := if s.fab.pair.split then s else (s.raise Evt.TDM_SPLIT).modPair fun p => { p with split := true }
  if s.strapB then s.fatal (s.message Kind.SPLIT 2 0x0A0 0 8 Party.none none) else s.setRole 2

/-- Inputs of ARBITRATE. (log 167, DEDUCED) -/
def State.ruleArbitrate (s : State) : State :=
  match s.partner with
  | some b =>
    if b.strap == s.strapB then
      (if s.fab.pair.conflict then s else (s.raise Evt.TDM_STRAP_CONFLICT).modPair fun p => { p with conflict := true })
    else if b.active then s.toSync
    else if b.state = 1 && !s.strapB then s.setRole 2
    else s
  | none => s

/-- Inputs of ACTIVE_SOLO and ACTIVE_PAIRED. -/
def State.ruleActive (s : State) : State :=
  match s.partner with
  | some b =>
    if b.active then s.splitSeen
    else
      let s := s.modPair fun p => { p with split := false, syncSeen := p.syncSeen && b.state == 4 }
      if s.role == 2 then
        if b.state = 5 then s.setRole 3
        else if b.state = 4 && s.get Fld.TDM_LINK_MPV != 0 && !s.fab.pair.syncSeen then (s.modPair fun p => { p with syncSeen := true }).needResync allRegions
        else s
      else if b.state ≠ 5 then (s.setRole 2).raise Evt.TDM_PAIR_LOST
      else if b.msg = 1 then s.startSwap
      else s
  | none =>
    let s := s.modPair fun p => { p with split := false, syncSeen := false }
    if s.role == 3 then (s.setRole 2).raise Evt.TDM_PAIR_LOST else s

/-- Inputs of STANDBY_SYNC. -/
def State.ruleSync (s : State) : State :=
  if s.fab.pair.failed ≠ 0 then (s.setRole 6).raise Evt.TDM_PAIR_LOST
  else if s.unknownRegions = 0 && s.fab.pair.ended == allRegions then s.setRole 5
  else s

/-- A standby with one of regions 16 to 19 unknown is synchronized anew. -/
def State.standbyUnknown (s : State) : State := if 0xFFFF < s.unknownRegions then (s.modPair fun p => { p with ended := 0 }).setRole 4 else s

/-- Inputs of STANDBY. A FAILSTOP is taken before a HANDOVER of the same block time (R328). -/
def State.ruleStandby (s : State) : State :=
  if s.fab.pair.failed = 1 then s.promote 1
  else
    match s.partner with
    | some b =>
      if b.state = 8 && b.msg = 2 then
        let h := (s.fab.pair.swapHseq).getD b.hseq
        let s := s.modPair fun p => { p with swapHseq := some h }
        if seqAfter h (s.get Fld.TDM_ACKSEQ_SEQ) then s else s.promote 3
      else
        (s.modPair fun p => { p with swapHseq := none }).standbyUnknown
    | none =>
      if s.fab.pair.failed = 2 then
        (if s.flag Fld.TDM_CFG_PROMOTE_MODE then (s.setRole 6).raise Evt.TDM_PAIR_LOST else s.promote 2)
      else s.standbyUnknown

/-- Inputs of PROMOTE_WAIT. -/
def State.ruleWait (s : State) : State :=
  match s.partner with
  | some b => if b.state = 1 && s.unknownRegions ≤ 0xFFFF then s.promote 5 else if b.active then s.toSync else s
  | none => s

/-- Inputs of SWAPPING. -/
def State.ruleSwapping (s : State) : State :=
  if s.fab.pair.failed ≠ 0 then s.swapFail
  else
    match s.partner with
    | some b => if s.fab.pair.handover && b.active then s.swapDone else s
    | none => s

/-- Take the first input that holds in the present state. -/
def State.rule (s : State) : State :=
  match s.role with
  | 1 => s.ruleArbitrate
  | 2 | 3 => s.ruleActive
  | 4 => s.ruleSync
  | 5 => s.ruleStandby
  | 6 => s.ruleWait
  | 8 => s.ruleSwapping
  | _ => s

/-- Inputs are tested until none changes the state. -/
def State.roleSteps : Nat → State → State
  | 0, s => s
  | n + 1, s => let t := s.rule; if t.role == s.role then t else t.roleSteps n

/-- The role follows its inputs; what depends on it is shown. -/
def State.roles (s : State) : State := (s.roleSteps 6).showUnknown.updateFollow

/-! ### The Tandem link (R310 to R314) -/

/-- The Tandem link may run: pair operation from FABRIC_READY on. -/
def State.tandemOn (s : State) : Bool := s.flag Fld.TDM_CFG_EN && s.trains

/-- Training starts and takes up the transmit coefficients of LANE_TX_CFG on the Tandem lanes and the Waggle lane (R94). (log 162, DEDUCED) -/
def State.takeCoefs (s : State) : State := (List.range 9).foldl (fun s j => s.setWord (Addr.LANE_TX_COEF (256 + j)) (s.word (Addr.LANE_TX_CFG (256 + j)))) s

/-- The TRAIN payload of this module (R312). -/
def State.ownTrain (s : State) : TrainPayload :=
  let fw := s.get Fld.DEV_FW_VER_VER
  { mpvMin := Config.mpvMin fw % 256, mpvMax := Config.mpvMax fw % 256, modId := s.get Fld.CLK_STRAPS_MOD_ID, strap := s.strapB, credits := 1024,
    serial := tabulate 16 fun i => BitVec.ofNat 8 (bitsOf (Config.serial (i / 4)) (8 * (i % 4)) 8) }

/-- The alignment block of a lane (R312). -/
def alignBlock (lane : Nat) : List Byte := List.replicate 28 0x0F ++ [0x54, 0x41, 0x4C, BitVec.ofNat 8 lane]

/-- The link changes state; leaving UP raises LINK_DOWN, and a retrain is counted (R312, R418). (log 154, DEDUCED) -/
def State.linkTo (s : State) (st : Nat) : State :=
  let old := s.get Fld.TDM_LINK_STATE
  let s := (s.put Fld.TDM_LINK_STATE st).modPair fun p => { p with aligned := [], train := none, trainRx := 0, trainTx := 0, restartIn := false }
  let s := if st = 1 then s.takeCoefs else s
  let s := if st = 2 then s else s.put Fld.TDM_LINK_MISMATCH 0
  let s := if st = 3 then s else s.put Fld.TDM_LINK_MPV 0
  if old = 3 && st ≠ 3 then
    let s := s.raise Evt.TDM_LINK_DOWN
    if st = 1 then s.count (Ctr.PAIR 0 6) else s
  else s

/-- The highest version both TRAIN payloads admit; 0 for none (R333). -/
def State.commonVersion (s : State) (t : TrainPayload) : Nat :=
  let fw := s.get Fld.DEV_FW_VER_VER
  let hi := min (Config.mpvMax fw) t.mpvMax
  if max (Config.mpvMin fw) t.mpvMin ≤ hi then hi % 256 else 0

/-- The link enters UP: every count of R313 and R314 is 0; frames that resume after a retrain are a gap to a standby (R312, R323). -/
def State.linkUpNow (s : State) (t : TrainPayload) : State :=
  let s := (s.linkTo 3).modPair fun p =>
    { p with sent := 0, part := 0, peerCredits := t.credits, cretIn := 0, rxcntIn := 0, sentHist := [], rxcnt := 0, cretOut := 0, fseqIn := 0 }
  let v := s.commonVersion t
  let s := (s.puts [(Fld.TDM_LINK_MPV, v), (Fld.TDM_CREDIT_WINDOW, min 2047 t.credits)]).raise Evt.TDM_LINK_UP
  let s := s.raiseIf (v == 0) Evt.TDM_VERSION
  let s := if s.isStandby && !s.fab.pair.adopt then s.gapSeen else s
  s.pump.resync.roles

/-- One frame time of training has passed: a TRAIN frame has been sent (R312). -/
def State.trainCheck (s : State) : State :=
  let p := s.fab.pair
  match p.train with
  | some t => if 8 ≤ p.trainRx && 8 ≤ p.trainTx && !s.flag Fld.TDM_LINK_MISMATCH then s.linkUpNow t else s
  | none => s

/-- A frame arrives in TRAIN or UP (R311): one that is damaged or of an unknown TYPE is dropped and counted; any other is counted, and ends a run of alignment blocks. In UP its CRET
and RXCNT are taken (R313, R314). In TRAIN this end sends a TRAIN frame in the same frame time. (logs 271, DEDUCED; 272, DEDUCED) -/
def State.frame (s : State) (h : TdmHeader) (f : State → State) : State :=
  let st := s.get Fld.TDM_LINK_STATE
  if !s.tandemOn || st < 2 then s
  else
    let s := s.modPair fun p => { p with aligned := [], trainTx := if st = 2 then min 8 (p.trainTx + 1) else p.trainTx }
    let s := if st = 2 then s.emit (.train s.ownTrain) else s
    if !h.intact || decide (2 < h.kind.toNat) then
      ((s.count (Ctr.PAIR 1 1)).modPair fun p => { p with trainRx := if p.trainRx < 8 then 0 else p.trainRx, train := if p.trainRx < 8 then none else p.train }).trainCheck
    else
      let s := s.count (Ctr.PAIR 1 0)
      let s := if st = 3 then s.modPair fun p => { p with cretIn := h.cret.toNat, rxcntIn := h.rxcnt.toNat } else s
      (f s).pump.resync

/-- A frame that is not TRAIN breaks a run of TRAIN frames that is not complete. -/
def State.notTrain (s : State) : State :=
  if s.get Fld.TDM_LINK_STATE == 2 then
    (s.modPair fun p => { p with trainRx := if p.trainRx < 8 then 0 else p.trainRx, train := if p.trainRx < 8 then none else p.train }).trainCheck
  else s

/-- TANDEM_IDLE_RX (R311). -/
def execTandemIdleRx (h : TdmHeader) (s : State) : Host.Outcome State Fault Refusal := done (s.begin.whenFabric fun s => s.frame h State.notTrain)

/-- A TRAIN payload in TRAIN (R312): eight identical ones in a row, or a mismatch. -/
def State.trainFrame (s : State) (t : TrainPayload) : State :=
  if s.get Fld.TDM_LINK_STATE != 2 then s
  else
    let bad := t.modId ≠ s.get Fld.CLK_STRAPS_MOD_ID || t.strap == s.strapB
    let s := s.raiseIf (bad && !s.flag Fld.TDM_LINK_MISMATCH) Evt.TDM_MISMATCH
    let s := s.puts [(Fld.TDM_LINK_MISMATCH, bit bad), (Fld.TDM_LINK_PEER_MOD_ID, t.modId), (Fld.TDM_LINK_PEER_STRAP, bit t.strap)]
    let s := s.modPair fun p =>
      if p.train = some t then { p with trainRx := min 8 (p.trainRx + 1) } else { p with train := some t, trainRx := 1, trainTx := 0 }
    s.trainCheck

/-- TANDEM_TRAIN_RX (R312). -/
def execTandemTrainRx (h : TdmHeader) (t : TrainPayload) (s : State) : Host.Outcome State Fault Refusal :=
  done (s.begin.whenFabric fun s => s.frame h fun s => s.trainFrame t)

/-- A MIRROR frame (R313, R319, R323): it is processed, which returns its credit; the standby sees a gap in FSEQ. -/
def State.mirrorFrame (s : State) (fseq : Nat) (restart : Bool) : State :=
  if s.get Fld.TDM_LINK_STATE != 3 then s.notTrain
  else
    let jump := fseq != s.fab.pair.fseqIn
    let s := s.modPair fun p => { p with rxcnt := (p.rxcnt + 1) % 65536, cretOut := (p.cretOut + 1) % 65536, fseqIn := (fseq + 1) % 2 ^ 32, restartIn := restart }
    if jump && s.isStandby && !s.fab.pair.adopt && !s.fab.pair.gap then s.gapSeen else s

/-- TANDEM_MIRROR_RX (R319): the frame; the records it completes arrive as commands of their own. -/
def execTandemMirrorRx (h : TdmHeader) (fseq : Word) (restart : Bool) (s : State) : Host.Outcome State Fault Refusal :=
  done (s.begin.whenFabric fun s => s.frame h fun s => s.mirrorFrame fseq.toNat restart)

/-- TANDEM_ALIGN_BLOCK_RX (R25, R312): 32 bytes on one lane in place of frames, whose polarity the receiver detects: an intact block, one that arrives inverted, or a damaged one. In
ALIGN eight intact ones in a row on every lane lead to TRAIN; in UP four in place of frames lead to ALIGN. (log 273, DEDUCED) -/
def execTandemAlignBlockRx (lane : Fin 8) (block : List Byte) (s : State) : Host.Outcome State Fault Refusal :=
  done (s.begin.whenFabric fun s =>
    let st := s.get Fld.TDM_LINK_STATE
    if !s.tandemOn || (st ≠ 1 && st ≠ 3) then s
    else
      let inverted := block == (alignBlock lane.val).map fun b => ~~~b
      let intact := inverted || block == alignBlock lane.val
      let n := if intact then min 8 (mget 0 s.fab.pair.aligned lane.val + 1) else 0
      let s := (s.modPair fun p => { p with aligned := mput 0 p.aligned lane.val n })
      let s := if intact then s.putFlag (Fld.LANE_STATUS_POL_INV (256 + lane.val)) inverted else s
      let all := fun (k : Nat) => (List.range 8).all fun j => decide (k ≤ mget 0 s.fab.pair.aligned j)
      if st = 1 && all 8 then s.linkTo 2 else if st = 3 && all 4 then s.linkTo 1 else s)

/-- TANDEM_TRAIN_TIMEOUT (R312): ALIGN, and TRAIN without a mismatch, return to ALIGN after 1 ms. -/
def execTandemTrainTimeout (s : State) : Host.Outcome State Fault Refusal :=
  done (s.begin.whenFabric fun s =>
    let st := s.get Fld.TDM_LINK_STATE
    if st = 1 || (st = 2 && !s.flag Fld.TDM_LINK_MISMATCH) then s.linkTo 1 else s)

/-- TANDEM_DOWN_EXPIRE (R312): 1 ms after DOWN the link enters ALIGN, and the lanes' FAILED bits clear. -/
def execTandemDownExpire (s : State) : Host.Outcome State Fault Refusal :=
  done (s.begin.whenFabric fun s =>
    if s.tandemOn && s.get Fld.TDM_LINK_STATE == 0 then ((List.range 8).foldl (fun s j => s.clearFailed (256 + j)) s).linkTo 1 else s)

/-- A Tandem lane fails (R98, R312): FAILED, and the link goes DOWN with one message; outside UP the link sends none (R355). (log 163, DEDUCED) -/
def State.tandemLaneFail (s : State) (j cause : Nat) : State :=
  let i := 256 + j
  if !s.laneLive i || s.flag (Fld.LANE_STATUS_FAILED i) then s
  else
    let up := s.get Fld.TDM_LINK_STATE == 3
    let s := ((s.puts [(Fld.LANE_STATUS_FAILED i, 1), (Fld.LANE_STATUS_FAIL_CAUSE i, cause)]).raise (Evt.LANE_LANE_FAIL i)).count (Ctr.LANE i 7)
    let s := s.linkTo 0
    if up then s.sendFault (s.message Kind.TLANE_FAIL 1 (0x200 + j) 0 8 (Party.lane i) none) else s

/-- TANDEM_LANE_FAIL (R98). -/
def execTandemLaneFail (j : Fin 8) (cause : Fin 5) (s : State) : Host.Outcome State Fault Refusal :=
  done (s.begin.whenFabric fun s => s.tandemLaneFail j.val (cause.val + 1))

/-- TANDEM_ALIGN_PERIODIC (R312): one alignment block in place of a frame. -/
def execTandemAlignPeriodic (s : State) : Host.Outcome State Fault Refusal :=
  done (s.begin.whenFabric fun s => if s.get Fld.TDM_LINK_STATE == 3 then s.emit (.align (tabulate 8 alignBlock)) else s)

/-- The excess of SENT, as it was 2 µs ago, over the partner's RXCNT (R314). (log 155, DEDUCED) -/
def Pair.leaked (p : Pair) : Nat :=
  let old := if p.sentHist.length < 32 then 0 else p.sentHist.headD 0
  let d := (old + 65536 - p.rxcntIn) % 65536
  if d < 32768 then d else 0

/-- TANDEM_CREDIT_CHECK (R314): every 64 ns; a WINDOW below FLOOR retrains the link. -/
def execTandemCreditCheck (s : State) : Host.Outcome State Fault Refusal :=
  done (s.begin.whenFabric fun s =>
    if s.get Fld.TDM_LINK_STATE != 3 then s
    else
      let p := s.fab.pair
      let was := p.peerCredits - s.get Fld.TDM_CREDIT_WINDOW
      let w := min 2047 (p.peerCredits - p.leaked)
      let s := (s.put Fld.TDM_CREDIT_WINDOW w).count (Ctr.PAIR 0 2) (p.leaked - was)
      let hist := p.sentHist ++ [p.sent]
      let s := s.modPair fun p => { p with sentHist := hist.drop (hist.length - 32) }
      if w < s.get Fld.TDM_CREDIT_FLOOR then (s.raise Evt.TDM_CREDIT_RETRAIN).linkTo 1 else s)

/-! ### Records (R320 to R326) -/

/-- A record of the stream arrives whole (R323), and the role may follow from it (R327). -/
def State.takeRec (s : State) (seq : Word) (region : Nat) (b : RecBody) : State :=
  s.begin.whenFabric fun s => (s.receiveRec ⟨seq.toNat, region, b, true⟩).roles

/-- REC_PAD (R320): skipped. -/
def execRecPad (s : State) : Host.Outcome State Fault Refusal := done s.begin

/-- REC_DIR (R320); no entry tells VALID = 0. -/
def execRecDir (seq : Word) (h : Hive) (sector : Nat) (e : Option DirEntry) (s : State) : Host.Outcome State Fault Refusal :=
  done (s.takeRec seq h.val (.dir h.val sector e))

/-- REC_REG (R320). -/
def execRecReg (seq : Word) (region : Fin 20) (addr : Word) (words : List Word) (s : State) : Host.Outcome State Fault Refusal :=
  done (s.takeRec seq region.val (.reg addr.toNat (words.map fun w => w.toNat)))

/-- REC_COMMIT (R320). -/
def execRecCommit (seq : Word) (epoch : BitVec 16) (full : Bool) (rules : List (Nat × List Nat)) (s : State) : Host.Outcome State Fault Refusal :=
  done (s.takeRec seq 17 (.commit epoch.toNat full rules))

/-- REC_EPOCH (R321). -/
def execRecEpoch (seq mepoch : Word) (time : Word64) (s : State) : Host.Outcome State Fault Refusal :=
  done (s.takeRec seq 20 (.epoch mepoch.toNat time.toNat))

/-- REC_BULK_BEGIN (R326). -/
def execRecBulkBegin (seq : Word) (region : Fin 20) (s : State) : Host.Outcome State Fault Refusal := done (s.takeRec seq region.val .bulkBegin)

/-- REC_BULK_DIR (R320). -/
def execRecBulkDir (seq : Word) (h : Hive) (group count : Nat) (entries : List (Nat × DirEntry)) (s : State) : Host.Outcome State Fault Refusal :=
  done (s.takeRec seq h.val (.bulkDir h.val group count entries))

/-- REC_BULK_END (R326). -/
def execRecBulkEnd (seq : Word) (region : Fin 20) (s : State) : Host.Outcome State Fault Refusal := done (s.takeRec seq region.val .bulkEnd)

/-- The stream of this module is being received by its partner: the link is UP with a common version. -/
def State.streamUp (s : State) : Bool := s.get Fld.TDM_LINK_STATE == 3 && s.get Fld.TDM_LINK_MPV != 0

/-- REC_ACK (R322): the journal is freed up to ACKSEQ. -/
def execRecAck (ackseq _mepoch : Word) (s : State) : Host.Outcome State Fault Refusal :=
  done (s.begin.whenFabric fun s =>
    let a := ackseq.toNat
    if s.streams && s.streamUp && seqAfter a (s.get Fld.TDM_ACKSEQ_SEQ) && !seqAfter a (s.get Fld.TDM_HSEQ_SEQ) then
      ((s.put Fld.TDM_ACKSEQ_SEQ a).modPair fun p => { p with journal := p.journal.filter fun r => seqAfter r.seq a }).showFill.pump.resync
    else s)

/-- REC_RESEND (R322, R323): the stream goes on from FROM; a FROM above HSEQ + 1 resynchronizes every region. -/
def execRecResend (from_ : Word) (s : State) : Host.Outcome State Fault Refusal :=
  done (s.begin.whenFabric fun s =>
    if !s.streams || !s.streamUp then s
    else if seqAfter from_.toNat ((s.get Fld.TDM_HSEQ_SEQ + 1) % 2 ^ 32) then s.needResync allRegions
    else s.resendFrom from_.toNat)

/-- EPOCH_TIMER_EXPIRE (R321): a record has been issued since the last EPOCH record. (log 156, DEDUCED) -/
def execEpochTimerExpire (s : State) : Host.Outcome State Fault Refusal :=
  done (s.begin.whenFabric fun s => if s.issues && s.fab.pair.sinceEpoch != 0 then s.closeEpoch else s)

/-- The partner is a standby to be acknowledged by. -/
def State.hasStandby (s : State) : Bool := (s.partner.map fun b => b.state == 4 || b.state == 5).getD false

/-- ACK_TIMEOUT (R322): records above ACKSEQ exist, and are sent again. -/
def execAckTimeout (s : State) : Host.Outcome State Fault Refusal :=
  done (s.begin.whenFabric fun s =>
    if s.streams && s.streamUp && s.hasStandby && !s.fab.pair.journal.isEmpty then s.resendFrom ((s.get Fld.TDM_ACKSEQ_SEQ + 1) % 2 ^ 32) else s)

/-- RESEND_REPEAT (R323). -/
def execResendRepeat (s : State) : Host.Outcome State Fault Refusal :=
  done (s.begin.whenFabric fun s => if s.isStandby && s.fab.pair.gap then (s.modPair fun p => { p with reqDue := true }).pump else s)

/-! ### The Waggle lane (R315 to R318, R340) -/

/-- WAGGLE_BLOCK_TX (R315). -/
def execWaggleBlockTx (s : State) : Host.Outcome State Fault Refusal := done (s.begin.whenFabric fun s => if s.waggleOn then s.sendBlock false else s)

/-- An intact block, as the receiver and the roles take it (R315, R317, R318, R327); a failed lane receives none (R98). A STANDBY keeps what heartbeats above R say (R330). (log 164, DEDUCED) -/
def State.intactBlock (s : State) (b : WBlock) (failstop : Bool) : State :=
  if !s.flag Fld.WAGGLE_CFG_EN || s.flag (Fld.LANE_STATUS_FAILED 264) then s
  else
    let s := (s.puts [(Fld.WAGGLE_STATUS_ALIVE, 1), (Fld.WAGGLE_STATUS_LOST, 0), (Fld.WAGGLE_STATUS_FAILSTOP, bit failstop), (Fld.WAGGLE_STATUS_PEER_MSG, b.msg),
      (Fld.WAGGLE_PEER_HSEQ_HSEQ, b.hseq), (Fld.TDM_ROLE_PEER_STATE, b.state)]).count (Ctr.PAIR 1 5)
    let was := s.fab.pair.failed
    let s := s.modPair fun p =>
      { p with rxTs := b.tsTx, rxAt := s.now, peer := some b, failed := if failstop then 1 else 0,
               msgOut := if p.msgOut = 1 && b.state = 8 then 0 else p.msgOut,
               conflict := p.conflict && b.strap == s.strapB,
               blocks := if seqAfter b.hseq (s.get Fld.TDM_HSEQ_SEQ) && s.isStandby && p.blocks.getLast? != some (b.hseq, b.low, b.rmask) then p.blocks ++ [(b.hseq, b.low, b.rmask)] else p.blocks }
    let s := s.updateFollow.measureOffset b b.active
    (s.raiseIf (failstop && was == 0 && s.flag Fld.TDM_CFG_EN) Evt.TDM_PARTNER_FAILED).roles

/-- n little-endian bytes of a number. -/
def leBytes (n v : Nat) : List Nat := tabulate n fun i => v / 256 ^ i % 256

/-- Symbols 1 to 35 of a Waggle block (R315). -/
def WBlock.symbols (b : WBlock) : List Nat :=
  [b.state % 16 + 16 * bit b.strap + 32 * (b.modId % 8), b.msg % 256, 0] ++ leBytes 4 b.hseq ++ leBytes 4 b.low ++ leBytes 3 b.rmask ++ leBytes 3 b.rsync ++ [0, 0]
    ++ leBytes 8 b.tsTx ++ leBytes 4 b.echoTx ++ leBytes 4 b.echoRx

/-- One bit of the CRC-16 of a Waggle block, most significant bit first: polynomial 0x1021 (R315). -/
def crc16Bit (c : Nat) : Nat := if 0x8000 ≤ c then (2 * c ^^^ 0x1021) % 65536 else 2 * c

/-- The CRC-16 over a list of bytes, with initial value 0xFFFF and no final inversion (R315). -/
def crc16 (l : List Nat) : Nat := l.foldl (fun c x => (List.range 8).foldl (fun c _ => crc16Bit c) (c ^^^ 256 * x)) 0xFFFF

/-- A Waggle block arrives (R315): it is taken where it is intact, no symbol of it damaged and its CRC matching; any other is lost. -/
def State.receiveBlock (s : State) (b : WBlock) (crc : BitVec 16) (damaged failstop : Bool) : State :=
  if !damaged && crc.toNat == crc16 b.symbols then s.intactBlock b failstop else s

/-- WAGGLE_BLOCK_RX (R315). -/
def execWaggleBlockRx (b : WBlock) (crc : BitVec 16) (damaged : Bool) (s : State) : Host.Outcome State Fault Refusal :=
  done (s.begin.whenFabric fun s => s.receiveBlock b crc damaged false)

/-- WAGGLE_FAILSTOP_RX (R317). -/
def execWaggleFailstopRx (b : WBlock) (crc : BitVec 16) (damaged : Bool) (s : State) : Host.Outcome State Fault Refusal :=
  done (s.begin.whenFabric fun s => s.receiveBlock b crc damaged true)

/-- WAGGLE_SWAP_REQ_RX (R327): a heartbeat with MSG SWAP_REQ. -/
def execWaggleSwapReqRx (b : WBlock) (crc : BitVec 16) (damaged : Bool) (s : State) : Host.Outcome State Fault Refusal :=
  done (s.begin.whenFabric fun s => s.receiveBlock { b with msg := 1 } crc damaged false)

/-- WAGGLE_HANDOVER_RX (R332): a heartbeat of a partner in SWAPPING with MSG HANDOVER. -/
def execWaggleHandoverRx (b : WBlock) (crc : BitVec 16) (damaged : Bool) (s : State) : Host.Outcome State Fault Refusal :=
  done (s.begin.whenFabric fun s => s.receiveBlock { b with state := 8, msg := 2 } crc damaged false)

/-- No intact block for 1,024 ns (R317); TPRES_N reads as told. (logs 168, DEDUCED; 240, DEDUCED) -/
def State.noBlocks (s : State) (cable : Option Bool) : State :=
  let s := { s with clk := { s.clk with tpres := cable.getD s.clk.tpres } }
  s.put Fld.WAGGLE_STATUS_ALIVE 0

/-- WAGGLE_SILENCE (R317): no Tandem frame either, with the cable present: the partner is held failed. -/
def execWaggleSilence (s : State) : Host.Outcome State Fault Refusal :=
  done (s.begin.whenFabric fun s =>
    let s := s.noBlocks (some true)
    if s.flag Fld.TDM_CFG_EN && s.fab.pair.failed == 0 then ((s.modPair fun p => { p with failed := 2 }).raise Evt.TDM_PARTNER_FAILED).roles else s.updateFollow)

/-- WAGGLE_ONLY (R317): Tandem frames still arrive. -/
def execWaggleOnly (s : State) : Host.Outcome State Fault Refusal :=
  done (s.begin.whenFabric fun s => ((s.noBlocks none).raise Evt.WAGGLE_WAGGLE_ONLY).updateFollow)

/-- CABLE_OUT (R317): the cable reads absent. -/
def execCableOut (s : State) : Host.Outcome State Fault Refusal :=
  done (s.begin.whenFabric fun s => ((s.noBlocks (some false)).raise Evt.WAGGLE_CABLE_OUT).updateFollow)

/-- WAGGLE_BLOCK_LOST (R340, R342). -/
def execWaggleBlockLost (s : State) : Host.Outcome State Fault Refusal :=
  done (s.begin.whenFabric fun s =>
    if s.flag Fld.WAGGLE_CFG_EN then
      let n := min 16 (s.get Fld.WAGGLE_STATUS_LOST + 1)
      let s := ((s.put Fld.WAGGLE_STATUS_LOST n).raise Evt.WAGGLE_BLOCK_LOST).count (Ctr.PAIR 1 6)
      if n = 16 then (s.put Fld.WAGGLE_STATUS_ALIVE 0).updateFollow else s
    else s)

/-- WAGGLE_LOCK_CHANGE (R25, R98, R340): aligned afresh, the lane has not failed, and its receive polarity is known. -/
def execWaggleLockChange (lock inverted : Bool) (s : State) : Host.Outcome State Fault Refusal :=
  done (s.begin.whenFabric fun s =>
    if s.flag Fld.WAGGLE_STATUS_LOCK == lock then s
    else
      let s := if lock then (s.clearFailed 264).putFlag (Fld.LANE_STATUS_POL_INV 264) inverted else s
      (s.putFlag Fld.WAGGLE_STATUS_LOCK lock).raise Evt.WAGGLE_LOCK)

/-! ### Configuration and commands of the pair (R327, R339, R340) -/

/-- Pair operation starts: ARBITRATE; the Tandem link enters ALIGN and Waggle blocks start (R315, R327). -/
def State.pairStart (s : State) : State :=
  if s.tandemOn && s.role == 0 then
    (((s.clearFailed 264).clearJournal.modPair fun p => { p with peer := none, failed := 0, conflict := false, split := false, syncSeen := false, msgOut := 0, lastHseq := [] }).linkTo 1).setRole 1
  else s

/-- EN written 0 in ARBITRATE or ACTIVE_SOLO (R316, R327): OFF; the Waggle blocks end with FAILSTOP, and the Tandem lanes are not live:
they lose their rate, and their scans end (R101, R102). -/
def State.pairStop (s : State) : State :=
  let s := ((s.sendFailstop.put Fld.TDM_CFG_EN 0).linkTo 0).setRole 0
  (List.range 8).foldl (fun s j => s.laneDown (256 + j)) s

/-- A write of TDM_CFG (R327, R339). (log 166, DEDUCED) -/
def State.writeTdmCfg (s : State) (v : Nat) : State :=
  if s.flag Fld.TDM_LOCK_LOCK then s
  else
    let w := bitsOf v 8 8
    let s := s.puts [(Fld.TDM_CFG_PROMOTE_MODE, v / 2), (Fld.TDM_CFG_ARB_SOLO, v / 4), (Fld.TDM_CFG_ARB_WAIT, if w = 0 then s.get Fld.TDM_CFG_ARB_WAIT else w)]
    if v % 2 = 1 then (s.put Fld.TDM_CFG_EN 1).pairStart
    else if !s.flag Fld.TDM_CFG_EN then s
    else if s.role == 1 || s.role == 2 then s.pairStop
    else if s.role == 0 then (List.range 8).foldl (fun s j => s.laneDown (256 + j)) (s.put Fld.TDM_CFG_EN 0)
    else s

/-- TDM_ENABLE (R327): a write of TDM_CFG with EN = 1. -/
def execTdmEnable (m : Master) (value : Word) (s : State) : Host.Outcome State Fault Refusal :=
  done (s.begin.guard m 0xA0 fun s => s.writeTdmCfg (value ||| 1).toNat)

/-- TDM_DISABLE (R327): a write of TDM_CFG with EN = 0. -/
def execTdmDisable (m : Master) (value : Word) (s : State) : Host.Outcome State Fault Refusal :=
  done (s.begin.guard m 0xA0 fun s => s.writeTdmCfg (value &&& 0xFFFFFFFE).toNat)

/-- A write of TDM_TIMING (R339): a field written 0 keeps its value. -/
def State.writeTdmTiming (s : State) (v : Nat) : State :=
  if s.flag Fld.TDM_LOCK_LOCK then s
  else [Fld.TDM_TIMING_EPOCH_NS, Fld.TDM_TIMING_ACK_TO, Fld.TDM_TIMING_SWAP_TO].foldl (fun s f => if bitsOf v f.lo 8 = 0 then s else s.put f (bitsOf v f.lo 8)) s

/-- A write of TDM_CREDIT (R339). -/
def State.writeTdmCredit (s : State) (v : Nat) : State :=
  let f := v % 2048
  if s.flag Fld.TDM_LOCK_LOCK || f < 64 || 1024 < f then s else s.put Fld.TDM_CREDIT_FLOOR f

/-- A write of WAGGLE_CFG (R316, R340): a drop of EN ends the blocks with FAILSTOP; the lane is not live, and its scan ends (R101). -/
def State.writeWaggleCfg (s : State) (v : Nat) : State :=
  if s.flag Fld.WAGGLE_LOCK_LOCK then s
  else if v % 2 = 1 then (if s.flag Fld.WAGGLE_CFG_EN then s else s.clearFailed 264).put Fld.WAGGLE_CFG_EN 1
  else
    let s := ((s.sendFailstop.put Fld.WAGGLE_CFG_EN 0).modPair fun p => { p with lastHseq := [] }).laneDown 264
    (s.puts [(Fld.WAGGLE_STATUS_ALIVE, 0), (Fld.WAGGLE_STATUS_LOCK, 0)]).updateFollow

/-- ARB_WAIT_EXPIRE (R327): ARB_WAIT has passed in ARBITRATE with nothing received. (log 165, DEDUCED) -/
def execArbWaitExpire (s : State) : Host.Outcome State Fault Refusal :=
  done (s.begin.whenFabric fun s =>
    if s.role == 1 && s.flag Fld.TDM_CFG_ARB_SOLO && !s.flag Fld.WAGGLE_STATUS_ALIVE then (s.setRole 2).roles else s)

/-- SWAP (R327, R332): the active starts the swap; a standby sends SWAP_REQ. -/
def State.cmdSwap (s : State) : State :=
  if s.role == 3 then s.startSwap.roles else if s.role == 5 then s.modPair fun p => { p with msgOut := 1, msgLeft := 0 } else s

/-- PROMOTE (R327). -/
def State.cmdPromote (s : State) : State := if s.role == 6 then (s.promote 4).roles else s

/-- RETRAIN (R312). -/
def State.cmdRetrain (s : State) : State := if s.get Fld.TDM_LINK_STATE == 3 then s.linkTo 1 else s

/-- RESYNC_ALL (R325). -/
def State.cmdResyncAll (s : State) : State := if s.issues then s.needResync allRegions else s

/-- A write of TDM_CMD (R339): from a keeper core or from the board. -/
def State.writeTdmCmd (s : State) (m : Master) (c : Nat) : State :=
  if !m.keeperOrBoard then s
  else
    match c % 8 with
    | 1 => s.cmdSwap
    | 2 => s.cmdPromote
    | 3 => s.cmdRetrain
    | 4 => s.cmdResyncAll
    | _ => s

/-- TDM_CMD_SWAP (R332). -/
def execTdmCmdSwap (m : Master) (s : State) : Host.Outcome State Fault Refusal := done (s.begin.guard m 0xA0 fun s => s.writeTdmCmd m 1)
/-- TDM_CMD_PROMOTE (R327). -/
def execTdmCmdPromote (m : Master) (s : State) : Host.Outcome State Fault Refusal := done (s.begin.guard m 0xA0 fun s => s.writeTdmCmd m 2)
/-- TDM_CMD_RETRAIN (R312). -/
def execTdmCmdRetrain (m : Master) (s : State) : Host.Outcome State Fault Refusal := done (s.begin.guard m 0xA0 fun s => s.writeTdmCmd m 3)
/-- TDM_CMD_RESYNC_ALL (R325). -/
def execTdmCmdResyncAll (m : Master) (s : State) : Host.Outcome State Fault Refusal := done (s.begin.guard m 0xA0 fun s => s.writeTdmCmd m 4)

/-! ### Swap and promotion complete (R329, R332, R337) -/

/-- The drain is complete (R332): nothing waits in the conflict queue, and no tracker slot of a port, of IEP0 or of IEP2 is LIVE. (log 171, DEDUCED) -/
def State.drained (s : State) : Bool :=
  s.fab.home.queue.isEmpty && s.fab.home.lookups.isEmpty && s.fab.home.txns.isEmpty && s.fab.home.fwd.all (fun e => e.2.stale)
    && s.fab.home.snoops.all (fun e => e.2.stale) && s.fab.sw.trackers.all (fun e => e.2.all fun t => t.2.stale) && s.fab.mover.slots.all fun e => e.2.stale

/-- SWAP_DRAIN_DONE (R332): the epoch is closed and HANDOVER is sent; the module is passive from then on. -/
def execSwapDrainDone (s : State) : Host.Outcome State Fault Refusal :=
  done (s.begin.whenFabric fun s =>
    if s.role == 8 && !s.fab.pair.handover && s.drained then
      (s.closeEpoch.modPair fun p => { p with handover := true, msgOut := 2, msgLeft := 0 }).passiveEntry.roles
    else s)

/-- SWAP_TIMEOUT (R327): SWAP_TO has passed before HANDOVER. -/
def execSwapTimeout (s : State) : Host.Outcome State Fault Refusal :=
  done (s.begin.whenFabric fun s => if s.role == 8 && !s.fab.pair.handover then s.swapFail.roles else s)

/-- STANDBY_SWAP_TO_EXPIRE (R332): the records through the final HSEQ are not all applied. -/
def execStandbySwapToExpire (s : State) : Host.Outcome State Fault Refusal :=
  done (s.begin.whenFabric fun s => if s.role == 5 && s.fab.pair.swapHseq.isSome then (s.promote 3).roles else s)

/-- A swarm notice on an ISL (R337). -/
def noticeMsg (p pos nseq : Nat) : Msg :=
  { kind := .own, src := 64, dst := p, vdm := some (Vdm.of .localReceiver 0xD7 1 1 pos nseq) }

/-- Send a notice on every usable ISL but one. (log 170, DEDUCED) -/
def State.sendNotice (s : State) (pos nseq : Nat) (but : Option Nat) : State :=
  ((List.range 64).filter fun p => s.islUsable p && but != some p).foldl (fun s p => s.queueMsg (noticeMsg p pos nseq))
    (s.modPair fun x => { x with notices := assocPut x.notices pos nseq })

/-- PROMOTION_COMPLETE (R329): the tiles serve, bound vPPBs report presence, the notice is sent, the promotion is recorded, and the module is ACTIVE_SOLO; its next record has SEQ R + 1. -/
def execPromotionComplete (s : State) : Host.Outcome State Fault Refusal :=
  done (s.begin.whenFabric fun s =>
    match s.fab.pair.promo with
    | none => s
    | some (cause, u) =>
      if s.role != 7 then s
      else
        let s := (s.clearJournal.modPair fun p =>
          { p with promo := none, begun := 0, ended := 0, blocks := [], openEpoch := [], adopt := false, nseq := (p.nseq + 1) % 256, syncSeen := false, split := false }).puts
          [(Fld.TDM_PROMO_TAIL, u), (Fld.TDM_PROMO_UNSURE, u / 2 ^ 16), (Fld.TDM_PROMO_T_NS, s.now - s.fab.pair.detectedAt), (Fld.TDM_ROLE_CAUSE, cause),
           (Fld.TDM_ACKSEQ_SEQ, s.get Fld.TDM_HSEQ_SEQ), (Fld.TDM_UNKNOWN_REGIONS, 0)]
        let s := (s.setRole 2).fillBuckets
        let s := ((List.range 4096).filter fun n => (s.presence n).2).foldl State.reportPresence s
        ((s.sendNotice (s.get Fld.CLK_STRAPS_MOD_ID) s.fab.pair.nseq none).raise Evt.TDM_PROMOTED).roles)

/-! ### Swarm notices (R337, R338) -/

/-- Reissue an outstanding snoop to its remote slots at position m (R338). -/
def State.reissue (m : Nat) (s : State) (e : Nat × SnoopSlot) : State :=
  match s.txn e.2.txn with
  | none => s
  | some t =>
    let dest := e.2.mask.filter fun i => s.isRemote e.2.hive i && s.get (Fld.SWARM_RT_POS (s.get (Fld.HOST_CFG_PID (64 * e.2.hive + i)))) == m
    if dest.isEmpty then s else s.modSw fun w => { w with fan := w.fan ++ [dest.map (s.snoopMsg t e.2.line e.2.inv e.1)] }

/-- SWARM_NOTICE_RX (R337, R338): a notice that is known is forwarded once on the other usable ISLs, and the home reissues its outstanding snoops to that position. -/
def execSwarmNoticeRx (p : Port) (msg : Vdm) (s : State) : Host.Outcome State Fault Refusal :=
  done (s.begin.whenFabric fun s =>
    if !s.islUsable p.val || !msg.headed .localReceiver then s
    else if !s.isActive then s.count (Ctr.PORT p.val 28)
    else
      let fw := s.get Fld.DEV_FW_VER_VER
      let pos := msg.b14.toNat % 8
      let s := (s.count (Ctr.PAIR (2 + p.val) 3)).raise Evt.SWARM_NOTICE
      if msg.proto != 0xD7 || msg.op != 1 || msg.ver < Config.noticeMin fw || Config.noticeMax fw < msg.ver then (s.count (Ctr.PAIR (2 + p.val) 4)).raise Evt.SWARM_VER_DISCARD
      else
        let seen := assoc s.fab.pair.notices pos == some msg.arg
        let s := if seen then s else s.sendNotice pos msg.arg (some p.val)
        (s.fab.home.snoops.filter fun e => !e.2.stale).foldl (State.reissue pos) s)

end Sys2Proof.Machine
end

