-- ==== Sys2Proof/Machine/Lanes.lean ====
section
/-! DEFINITION. Sys2Proof/Machine/Lanes.lean: lanes: clock regions, calibration, adaptation, failure, margining, eye scans and tests (R67, R68, R86 to R112). -/
namespace Sys2Proof.Machine
open Sys2Proof

/-! ### Clock regions and branches (R67 to R69) -/

/-- Configured ports of a group. -/
def State.groupPorts (s : State) (k : Nat) : List Nat := (tabulate 4 fun j => 4 * k + j).filter s.portEn

/-- A port that keeps its group awake: not held, not in L1, not asleep both ways. -/
def State.portAwake (s : State) (p : Nat) : Bool :=
  !s.portHeld p && s.get (Fld.PORT_STATUS_LINK p) != 8 && !(s.get (Fld.PORT_DSX_STATUS_TX p) == 3 && s.get (Fld.PORT_DSX_STATUS_RX p) == 3)

/-- Mode of a region (R67): 0 RUN, 1 SLEEP, 2 DEEP. Regions: 0 to 15 PGk, 16 CORE, 17 HOME, 18 MOVER, 19 DLOG, 20 TDM, 21 POOL. (log 181, DEDUCED) -/
def State.regionMode (s : State) (r : Nat) : Nat :=
  let deep := fun (f : Field) => if s.flag f then 0 else 2
  if r < 16 then (if (s.groupPorts r).isEmpty then 2 else if (s.groupPorts r).any s.portAwake then 0 else 1)
  else if r = 17 then deep Fld.HOME_CFG_EN
  else if r = 18 then deep Fld.MOVER_CFG_EN
  else if r = 19 then deep Fld.DLOG_CFG_EN
  else if r = 20 then deep Fld.TDM_CFG_EN
  else if r = 21 then deep Fld.POOL_CFG_EN
  else 0

/-- Mode of a branch's region, and whether the branch runs (R68). -/
def State.branchMode (s : State) (n : Nat) : Nat := s.regionMode (s.get (Fld.CLK_BRANCH_REGION n))
def State.branchRuns (s : State) (n : Nat) : Bool :=
  match s.branchMode n with
  | 0 => true
  | 1 => s.flag (Fld.CLK_BRANCH_EN_SLEEP n)
  | _ => s.flag (Fld.CLK_BRANCH_EN_DEEP n)

/-- The clock a lane operation needs runs (R103): branch 4k of the group of a main lane. (log 176, DEDUCED) -/
def State.laneClock (s : State) (i : Nat) : Bool := decide (256 ≤ i) || s.branchRuns (4 * (i / 16))

/-! ### Rates (R86) -/

/-- The rate code of a lane: a Tandem lane and the Waggle lane have their one rate while live. (log 178, DEDUCED) -/
def State.laneRate (s : State) (i : Nat) : Nat :=
  if i < 256 then s.get (Fld.LANE_STATUS_RATE i)
  else if !s.laneLive i then s.get (Fld.LANE_STATUS_RATE i)
  else if i < 264 then 6 else 7

/-- A rate a lane supports (R86). -/
def laneSupports (i r : Nat) : Bool := if i < 256 then mainRate r else if i < 264 then r == 6 else r == 7

/-- FEC is in use on the lane (R97). (log 174, DEDUCED) -/
def State.fecInUse (s : State) (i : Nat) : Bool := s.laneRate i == 6

/-! ### Failure (R97, R98) -/

/-- The lanes among those told that are live and have not failed. -/
def State.canFail (s : State) (lanes : List LaneIx) : List Nat := (lanes.map (·.val)).eraseDups.filter fun i => s.laneLive i && !s.flag (Fld.LANE_STATUS_FAILED i)

/-- A live lane is expected to carry symbols (R97): its port's link is in L0, Recovery or L0p with the lane active and its receive direction does not sleep; the Tandem link is not
DOWN; the Waggle receiver is aligned. (log 232, DEDUCED) -/
def State.carries (s : State) (i : Nat) : Bool :=
  if i = 264 then s.flag Fld.WAGGLE_STATUS_LOCK
  else if 256 ≤ i then s.get Fld.TDM_LINK_STATE != 0
  else match s.portOfLane i with
    | some p =>
      let l := s.get (Fld.PORT_STATUS_LINK p)
      (l == 5 || l == 6 || (l == 7 && decide (i < 4 * p + ((s.portX p).l0p.getD 16)))) && s.get (Fld.PORT_DSX_STATUS_RX p) < 2
    | none => false

/-- The SNR estimate is below the limit that applies (R97). -/
def State.snrLow (s : State) (i : Nat) : Bool :=
  decide (s.get (Fld.LANE_EQ_STATUS_SNR i) < (if s.laneRate i = 6 then s.get (Fld.LANE_SNR_CFG_SNR_FAIL_PAM4 i) else s.get (Fld.LANE_SNR_CFG_SNR_FAIL_NRZ i)))

/-- One lane fails: FAILED, its cause, the event and the count. -/
def State.markFailed (s : State) (i cause : Nat) : State :=
  ((s.puts [(Fld.LANE_STATUS_FAILED i, 1), (Fld.LANE_STATUS_FAIL_CAUSE i, cause)]).raise (Evt.LANE_LANE_FAIL i)).count (Ctr.LANE i 7)

/-- Lanes fail in one cycle (R98): a port goes down whole, its message naming the lowest of them; the Tandem link goes DOWN; the Waggle lane counts as heartbeat loss: no block is received until its receiver has aligned afresh. (log 233, DEDUCED) -/
def State.failLanes (s : State) (lanes : List LaneIx) (cause : Nat) : State :=
  let l := s.canFail lanes
  let main := l.filter fun i => decide (i < 256)
  let s := main.foldl (fun s i => s.markFailed i cause) s
  let s := (List.range 64).foldl (fun s p =>
    match main.filter (fun i => (s.portLanes p).contains i && s.portEn p) with
    | [] => s
    | i :: r => s.hwHold p 6 (Party.lane (r.foldl min i))) s
  let s := (l.filter fun i => decide (256 ≤ i) && decide (i < 264)).foldl (fun s i => s.tandemLaneFail (i - 256) cause) s
  if l.contains 264 then
    let s := (s.markFailed 264 cause).sendFault (s.message Kind.WAGGLE_FAIL 1 0x208 0 8 (Party.lane 264) none)
    let s := s.raiseIf (s.flag Fld.WAGGLE_STATUS_LOCK) Evt.WAGGLE_LOCK
    (s.puts [(Fld.WAGGLE_STATUS_ALIVE, 0), (Fld.WAGGLE_STATUS_LOCK, 0)]).updateFollow
  else s

/-- LANE_SIGNAL_LOSS (R97). -/
def execLaneSignalLoss (lanes : List LaneIx) (s : State) : Host.Outcome State Fault Refusal :=
  done (s.begin.whenFabric fun s =>
    let lanes := lanes.filter fun i => s.carries i.val
    ((s.canFail lanes).foldl (fun s i => (s.count (Ctr.LANE i 4)).laneSignal i false) s).failLanes lanes 1)

/-- LANE_CDR_UNLOCK (R97). -/
def execLaneCdrUnlock (lanes : List LaneIx) (s : State) : Host.Outcome State Fault Refusal :=
  done (s.begin.whenFabric fun s =>
    ((s.canFail lanes).foldl (fun s i => (s.count (Ctr.LANE i 5)).put (Fld.LANE_STATUS_CDR_LOCK i) 0) s).failLanes lanes 2)

/-- LANE_EQ_DIVERGE (R97): 1 ms has passed on these lanes; those whose SNR is below the limit fail. -/
def execLaneEqDiverge (lanes : List LaneIx) (s : State) : Host.Outcome State Fault Refusal :=
  done (s.begin.whenFabric fun s => s.failLanes (lanes.filter fun i => s.snrLow i.val) 3)

/-- The lane is coded 8b/10b, or 128b/130b (R86). -/
def State.coded8b (s : State) (i : Nat) : Bool := s.laneRate i == 1 || s.laneRate i == 2 || s.laneRate i == 7
def State.coded128b (s : State) (i : Nat) : Bool := decide (3 ≤ s.laneRate i) && decide (s.laneRate i ≤ 5)

/-- What the decoder of a lane finds in the symbols told, by its K-codes and from the running disparity it holds (R87). -/
def State.decoded (s : State) (i : Nat) (e : LaneErrors) : LineStretch :=
  if s.coded8b i then decodeStretch (if i = 264 then waggleK else mainK) (s.fab.lanes.disparity.contains i) e.syms else ⟨[], 0, 0, s.fab.lanes.disparity.contains i⟩

/-- Blocks with a sync header of 00b or 11b (R88). -/
def State.syncErrors (s : State) (i : Nat) (e : LaneErrors) : Nat := if s.coded128b i then (e.headers.filter fun h => h == 0 || h == 3).length else 0

/-- The error events of a lane among those counted (R97). -/
def State.errorEvents (s : State) (i : Nat) (e : LaneErrors) : Nat :=
  if s.fecInUse i then e.fec + e.fecUe else (s.decoded i e).violations + (s.decoded i e).disparities + s.syncErrors i e

/-- The largest number of error events a window admits (R97). -/
def State.errorLimit (s : State) (i : Nat) : Nat :=
  2 ^ (s.get (Fld.LANE_FAIL_CFG_WIN i) - (if s.fecInUse i then s.get (Fld.LANE_FAIL_CFG_LIMIT_FEC i) else s.get (Fld.LANE_FAIL_CFG_LIMIT_NRZ i)))

/-- What a lane has received is decoded, passed upward and its errors counted (R87 to R89); ERR_HALF is raised as the window's events pass half the limit (R112). -/
def State.addErrors (s : State) (i : Nat) (e : LaneErrors) : State :=
  let was := mget 0 s.fab.lanes.errs i
  let now := was + s.errorEvents i e
  let lim := s.errorLimit i
  let d := s.decoded i e
  let s := (((s.count (Ctr.LANE i 0) d.violations).count (Ctr.LANE i 1) d.disparities).count (Ctr.LANE i 2) (s.syncErrors i e)).count (Ctr.LANE i 3) (if s.fecInUse i then e.fec else 0)
  let s := s.modLanes fun l => { l with errs := mput 0 l.errs i now, disparity := (l.disparity.filter fun x => x != i) ++ if d.positive then [i] else [] }
  let s := if d.syms.isEmpty then s else s.emit (.symbols i d.syms)
  s.raiseIf (decide (2 * was ≤ lim) && decide (lim < 2 * now)) (Evt.LANE_ERR_HALF i)

/-- LANE_ERROR_LIMIT (R89, R97): errors have been found on lanes, and uncorrectable flits on ports; lanes beyond their limit fail. -/
def execLaneErrorLimit (errors : List (LaneIx × LaneErrors)) (flits : List (Port × Nat)) (s : State) : Host.Outcome State Fault Refusal :=
  done (s.begin.whenFabric fun s =>
    let s := flits.foldl (fun s x => if s.portEn x.1.val then s.count (Ctr.PORT x.1.val 4) x.2 else s) s
    let s := (errors.filter fun x => s.laneLive x.1.val).foldl (fun s x => s.addErrors x.1.val x.2) s
    s.failLanes ((errors.map (·.1)).filter fun i => decide (s.errorLimit i.val < mget 0 s.fab.lanes.errs i.val)) 4)

/-- LANE_WINDOW_END (R97): the errors not yet counted are, and the count restarts. -/
def execLaneWindowEnd (lane : LaneIx) (e : LaneErrors) (s : State) : Host.Outcome State Fault Refusal :=
  done (s.begin.whenFabric fun s =>
    if s.laneLive lane.val then
      let s := s.addErrors lane.val e
      let excess := decide (s.errorLimit lane.val < mget 0 s.fab.lanes.errs lane.val)
      let s := s.modLanes fun l => { l with errs := assocDel l.errs lane.val }
      if excess then s.failLanes [lane] 4 else s
    else s)

/-- The receiver of a lane is held in electrical idle by a full calibration or a RECAL (R96). -/
def State.calibrating (s : State) (i : Nat) : Bool := s.fab.lanes.cal.contains i || s.testOp i == some 1

/-- SIGNAL_RETURN (R92, R96). -/
def execSignalReturn (lane : LaneIx) (s : State) : Host.Outcome State Fault Refusal :=
  done (s.begin.whenFabric fun s => if s.calibrating lane.val then s else s.laneSignal lane.val true)

/-! ### Adaptation (R90, R91) -/

/-- One step of a signed 8-bit coefficient, and whether it has reached the end of its range. -/
def stepCoef (c : Nat) (up : Bool) : Nat × Bool :=
  let v := (c + 128) % 256
  let w := if up then min 255 (v + 1) else v - 1
  ((w + 128) % 256, w != v && (w == 0 || w == 255))

/-- EQ_RAIL and its count where a coefficient or the CTLE has reached an end of its range (R91). -/
def State.eqRail (s : State) (i : Nat) (rail : Bool) : State := if rail then (s.raise (Evt.LANE_EQ_RAIL i)).count (Ctr.LANE i 6) else s

/-- A coefficient that steps; EQ_RAIL at an end of its range (R91). -/
def State.stepTap (s : State) (i : Nat) (f : Field) (up : Bool) : State :=
  let (c, rail) := stepCoef (s.get f) up
  (s.put f c).eqRail i rail

/-- A coefficient adjusted with the CTLE; EQ_RAIL where it reaches 127 or −128 (R91). -/
def State.setTap (s : State) (i : Nat) (f : Field) (v : Nat) : State :=
  let was := s.get f
  let s := s.put f v
  s.eqRail i (s.get f != was && (s.get f == 0x7F || s.get f == 0x80))

/-- ADAPT_UPDATE (R91): one step on a lane that receives symbols, unless frozen; the SNR estimate follows. (log 180, DEDUCED) -/
def execAdaptUpdate (lane : LaneIx) (step : AdaptStep) (snr : Byte) (s : State) : Host.Outcome State Fault Refusal :=
  done (s.begin.whenFabric fun s =>
    let i := lane.val
    let r := s.laneRate i
    if !s.flag (Fld.LANE_STATUS_SIG_DET i) || r = 0 then s
    else
      let s := s.put (Fld.LANE_EQ_STATUS_SNR i) snr.toNat
      if s.flag (Fld.LANE_CFG_ADAPT_FREEZE i) then s
      else
        match step with
        | .ffe k up => if k.val = 3 || r ≤ 2 then s else s.stepTap i (Fld.LANE_FFE_COEF i k.val) up
        | .dfe k up => if r ≤ 2 then s else s.stepTap i (Fld.LANE_DFE_COEF i k.val) up
        | .ctle up ffe =>
          let c := s.get (Fld.LANE_EQ_STATUS_CTLE i)
          let d := if up then (if c < ctleMax r then c + 1 else c) else c - 1
          let s := s.put (Fld.LANE_EQ_STATUS_CTLE i) d
          let s := if r ≤ 2 then s else (List.range 16).foldl (fun s k => if k = 3 then s else s.setTap i (Fld.LANE_FFE_COEF i k) ((ffe[k]?).getD (s.get (Fld.LANE_FFE_COEF i k)))) s
          s.eqRail i (d != c && (d == 0 || d == ctleMax r))
        | .adc => s)

/-! ### Calibration (R96, R75, R104) -/

/-- Training of a port that waits for its lanes is enabled once none of them is busy (R96, R104). -/
def State.lanesReady (s : State) (p : Nat) : State := if s.get (Fld.PORT_STATUS_LINK p) == 9 && !s.lanesBusy p then s.enableTraining p else s

/-- A lane is unusable by a failed calibration or BIST: CAL_FAIL; its configured port is held, or the Tandem link is DOWN (R75, R96, R104). -/
def State.calFail (s : State) (i : Nat) : State :=
  let s := s.puts [(Fld.LANE_STATUS_FAILED i, 1), (Fld.LANE_STATUS_FAIL_CAUSE i, 5)]
  if i < 256 then
    match s.portOfLane i with
    | some p => if s.portEn p then s.hwHold p 7 (Party.lane i) else s
    | none => s
  else if i < 264 then s.linkTo 0
  else s

/-- LANE_CAL_DONE (R96): a full calibration ends. (log 143, DEDUCED) -/
def execLaneCalDone (lane : LaneIx) (ok : Bool) (s : State) : Host.Outcome State Fault Refusal :=
  done (s.begin.whenFabric fun s =>
    let i := lane.val
    let recal := s.testOp i == some 1
    if !s.fab.lanes.cal.contains i && !recal then s
    else
      let s := s.modLanes fun l => { l with cal := l.cal.filter fun x => x != i }
      let s := (s.put (Fld.LANE_STATUS_CAL_DONE i) (bit ok)).raise (Evt.LANE_CAL_DONE i)
      let s := if recal then s.endTest i (if ok then 2 else 3) else s
      let s := if ok then s else s.calFail i
      match s.portOfLane i with
      | some p => s.lanesReady p
      | none => s)

/-- LANES_CALIBRATED (R74): stage 8 ends; in stage 9 training is enabled on every configured port; FABRIC_READY is reached, and role arbitration follows. -/
def execLanesCalibrated (s : State) : Host.Outcome State Fault Refusal :=
  done (s.begin.whenFabric fun s =>
    s.inStage 8 fun s =>
      if !s.fab.lanes.cal.isEmpty then s
      else
        let s := s.stageDone 8
        let s := ((List.range 64).filter s.portEn).foldl State.enableTraining s
        let s := s.stageDone 9
        ((s.put Fld.BOOT_STATUS_FABRIC_READY 1).raise Evt.BOOT_FABRIC_READY).pairStart)

/-! ### Tests (R102 to R104, R110) -/

/-- The rate a PRBS test runs at: the one asked for, else the port's configured rate, else the one rate of a Tandem or Waggle lane. -/
def State.testRate (s : State) (i r : Nat) : Nat :=
  if r ≠ 0 then r
  else if i < 256 then (match s.portOfLane i with | some p => s.get (Fld.PORT_CFG_RATE p) | none => 0)
  else if i < 264 then 6 else 7

/-- What refuses a test, as STATE shows it (R103, R110). In START_FAIL no test may drive a transmitter (R75). (logs 175, DEDUCED; 252, DESIGN CHOICE) -/
def State.testRefusal (s : State) (i op pattern rate : Nat) : Option Nat :=
  let r := s.testRate i rate
  if (s.testOp i).isSome then some 4
  else if 4 < op then some 7
  else if s.laneLive i || s.fab.lanes.cal.contains i || (s.clk.startFail && (op == 2 || op == 3)) then some 4
  else if (op = 2 || op = 3) && (!laneSupports i r || 4 < pattern || (pattern = 4 && r != 6)) then some 7
  else if !s.laneClock i then some 5
  else none

/-- A write of LANE_TEST_CTL (R103, R110). (log 253, DESIGN CHOICE) -/
def State.writeTestCtl (s : State) (i v : Nat) : State :=
  let op := v % 16
  let rate := bitsOf v 8 3
  if op = 0 then
    (if s.testOp i == some 2 || s.testOp i == some 3 then
      (s.endTest i (if s.flag (Fld.LANE_TEST_STATUS_PRBS_LOCK i) && s.get64 (Addr.LANE_PRBS_ERR_LO i) == 0 then 2 else 3)).put (Fld.LANE_TEST_STATUS_OP i) 0
    else s)
  else
    match s.testRefusal i op (bitsOf v 4 3) rate with
    | some st => s.puts [(Fld.LANE_TEST_STATUS_STATE i, st), (Fld.LANE_TEST_STATUS_OP i, op)]
    | none =>
      let s := (s.puts [(Fld.LANE_TEST_STATUS_STATE i, 1), (Fld.LANE_TEST_STATUS_OP i, op), (Fld.LANE_TEST_STATUS_PRBS_LOCK i, 0)]).modLanes fun l => { l with tests := assocPut l.tests i op }
      let s := (s.put64 (Addr.LANE_PRBS_ERR_LO i) 0).put64 (Addr.LANE_PRBS_BITS_LO i) 0
      if op = 2 || op = 3 then (s.put (Fld.LANE_STATUS_RATE i) (s.testRate i rate)).laneSignal i (op = 2)
      else if op = 1 then s.laneSignal i false else s

/-- Bits compared and found wrong by a PRBS checker since they were last told (R110). (log 177, DESIGN CHOICE) -/
def State.addPrbs (s : State) (i errors bits : Nat) : State :=
  if s.testOp i == some 2 || s.testOp i == some 3 then
    (s.put64 (Addr.LANE_PRBS_ERR_LO i) (s.get64 (Addr.LANE_PRBS_ERR_LO i) + errors)).put64 (Addr.LANE_PRBS_BITS_LO i) (s.get64 (Addr.LANE_PRBS_BITS_LO i) + bits)
  else s

/-- A write of LANE_TEST_CTL with its OP. -/
def State.testWrite (s : State) (m : Master) (lane : LaneIx) (value : Word) (op : Nat) : State :=
  s.begin.guard m (lanePage lane.val) fun s => s.writeTestCtl lane.val (value.toNat / 16 * 16 + op)

/-- LANE_TEST_STOP (R110). -/
def execLaneTestStop (m : Master) (lane : LaneIx) (errors bits : Nat) (s : State) : Host.Outcome State Fault Refusal :=
  done (s.begin.guard m (lanePage lane.val) fun s => (s.addPrbs lane.val errors bits).writeTestCtl lane.val 0)

/-- LANE_TEST_RECAL (R103). -/
def execLaneTestRecal (m : Master) (lane : LaneIx) (value : Word) (s : State) : Host.Outcome State Fault Refusal := done (s.testWrite m lane value 1)
/-- LANE_TEST_PRBS_LOOP (R103). -/
def execLaneTestPrbsLoop (m : Master) (lane : LaneIx) (value : Word) (s : State) : Host.Outcome State Fault Refusal := done (s.testWrite m lane value 2)
/-- LANE_TEST_PRBS_EXT (R103). -/
def execLaneTestPrbsExt (m : Master) (lane : LaneIx) (value : Word) (s : State) : Host.Outcome State Fault Refusal := done (s.testWrite m lane value 3)
/-- LANE_TEST_BIST (R103). -/
def execLaneTestBist (m : Master) (lane : LaneIx) (value : Word) (s : State) : Host.Outcome State Fault Refusal := done (s.testWrite m lane value 4)
/-- LANE_TEST_INVALID (R110): an OP from 5 to 15. -/
def execLaneTestInvalid (m : Master) (lane : LaneIx) (value : Word) (s : State) : Host.Outcome State Fault Refusal :=
  done (s.testWrite m lane value (max 5 (value.toNat % 16)))

/-- LANE_BIST_DONE (R103, R104). -/
def execLaneBistDone (lane : LaneIx) (ok : Bool) (s : State) : Host.Outcome State Fault Refusal :=
  done (s.begin.whenFabric fun s =>
    let i := lane.val
    if s.testOp i == some 4 then
      let s := s.endTest i (if ok then 2 else 3)
      let s := if ok then s else s.calFail i
      match s.portOfLane i with
      | some p => s.lanesReady p
      | none => s
    else s)

/-- PRBS_CHECKER_LOCK (R110). -/
def execPrbsCheckerLock (lane : LaneIx) (lock : Bool) (errors bits : Nat) (s : State) : Host.Outcome State Fault Refusal :=
  done (s.begin.whenFabric fun s =>
    let s := s.addPrbs lane.val errors bits
    if s.testOp lane.val == some 2 || s.testOp lane.val == some 3 then s.putFlag (Fld.LANE_TEST_STATUS_PRBS_LOCK lane.val) lock else s)

/-! ### Eye scans and margining (R99 to R101, R111) -/

/-- A scan of a lane is under way. -/
def State.scanning (s : State) (i : Nat) : Bool := s.get (Fld.LANE_EYE_STATUS_STATE i) == 1 || s.get (Fld.LANE_EYE_STATUS_STATE i) == 2

/-- The engine of a lane is scanning another lane. -/
def State.engineTaken (s : State) (i : Nat) : Bool :=
  match assoc s.fab.lanes.eye (eyeEngine i) with
  | some j => j != i && s.scanning j
  | none => false

/-- What refuses the start of a scan, as STATE shows it (R100, R101, R103). -/
def State.eyeRefusal (s : State) (i : Nat) : Option Nat :=
  let eye := s.get (Fld.LANE_EYE_CFG_EYE i)
  if s.engineTaken i then some 5
  else if s.laneRate i = 0 || eye = 3 || (s.laneRate i ≠ 6 && eye ≠ 1) then some 6
  else if !s.laneClock i then some 7
  else none

/-- The result arrays of an engine's lanes are cleared: only the lane last started shows results (R101). -/
def State.clearResults (s : State) (e : Nat) : State :=
  { s with regs := s.regs.filter fun r =>
      let pg := r.1 / 0x10000
      !(decide (0x100 ≤ pg) && decide (pg ≤ 0x208) && decide (0x8000 ≤ r.1 % 0x10000) && eyeEngine (pg - 0x100) == e) }

/-- A write of LANE_EYE_CMD (R101, R111). (log 256, DESIGN CHOICE) -/
def State.writeEyeCmd (s : State) (i v : Nat) : State :=
  if v % 4 = 2 then s.abortEye i
  else if v % 4 = 1 then
    match s.eyeRefusal i with
    | some st => s.put (Fld.LANE_EYE_STATUS_STATE i) st
    | none =>
      let s := (s.clearResults (eyeEngine i)).modLanes fun l => { l with eye := assocPut l.eye (eyeEngine i) i }
      (s.puts [(Fld.LANE_EYE_STATUS_STATE i, 1), (Fld.LANE_EYE_STATUS_POINTS i, 0)]).suspendEye i
  else s

/-- EYE_START (R101). -/
def execEyeStart (m : Master) (lane : LaneIx) (s : State) : Host.Outcome State Fault Refusal :=
  done (s.begin.guard m (lanePage lane.val) fun s => s.writeEyeCmd lane.val 1)

/-- EYE_STOP (R101). -/
def execEyeStop (m : Master) (lane : LaneIx) (s : State) : Host.Outcome State Fault Refusal :=
  done (s.begin.guard m (lanePage lane.val) fun s => s.writeEyeCmd lane.val 2)

/-- EYE_POINT_DONE (R100): the points are taken in the order of their index. (log 179, DEDUCED) -/
def execEyePointDone (lane : LaneIx) (errors : Nat) (s : State) : Host.Outcome State Fault Refusal :=
  done (s.begin.whenFabric fun s =>
    let i := lane.val
    if s.get (Fld.LANE_EYE_STATUS_STATE i) != 1 then s
    else
      let n := s.get (Fld.LANE_EYE_STATUS_POINTS i)
      let s := (s.put (Fld.LANE_EYE_RESULT_ERRORS i n) (min (2 ^ 32 - 1) errors)).put (Fld.LANE_EYE_STATUS_POINTS i) (n + 1)
      if n + 1 = 8192 then (s.put (Fld.LANE_EYE_STATUS_STATE i) 3).raise (Evt.LANE_EYE_DONE i) else s)

/-- The parameters of the margining capability at a rate code (R99); offsets in per cent of a UI and in hundredths of a volt, support as 1. -/
def marginValue (rate : Nat) : MarginParam → Nat
  | .maxLanes => 15
  | .numTimingSteps => 32
  | .maxTimingOffset => if rate = 6 then 25 else 50
  | .numVoltageSteps => 64
  | .maxVoltageOffset => if rate = 6 then 12 else 25
  | .indLeftRightTiming | .indUpDownVoltage | .indErrorSampler | .sampleCount => 1

/-- Margining of a lane changes; a scan of the lane is suspended while a step is in effect, and goes on after it (R101). -/
def State.setMargin (s : State) (i : Nat) (x : MarginX) : State :=
  (s.modLanes fun l => { l with margin := mput MarginX.reset l.margin i x, margins := (l.margins.filter fun j => j != i) ++ if x.step.isSome then [i] else [] }).suspendEye i

/-- One margining command and its answer (R99). (log 234, PRESUMED) -/
def State.marginStep (s : State) (i : Nat) (c : MarginCmd) : State :=
  let x := mget MarginX.reset s.fab.lanes.margin i
  match c with
  | .report p => s.emit (.margin i (.value (marginValue (s.laneRate i) p)))
  | .errorLimit n => (s.setMargin i { x with limit := n.val }).emit (.margin i (.value n.val))
  | .normal => (s.setMargin i { x with step := none }).emit (.margin i (.value 0))
  | .clearLog => (s.setMargin i { x with errors := 0 }).emit (.margin i (.value 0))
  | .step v m n =>
    if n.val ≤ marginValue (s.laneRate i) (if v then .numVoltageSteps else .numTimingSteps) then
      (s.setMargin i { x with step := some (v, m, n.val), errors := 0, samples := 0 }).emit (.margin i (.status false 0 0))
    else s.emit (.margin i .nak)
  | .look n e =>
    if x.step.isSome then
      let x := { x with errors := x.errors + e, samples := x.samples + n }
      let past := decide (x.limit < x.errors)
      (s.setMargin i (if past then { x with step := none } else x)).emit (.margin i (.status past x.errors x.samples))
    else s.emit (.margin i (.value 0))

/-- MARGIN_COMMAND (R99, R101): a command of the standard's margining on a lane of a link in L0 at 16.0 GT/s or above. (log 183, DEDUCED) -/
def execMarginCommand (lane : LaneIx) (c : MarginCmd) (s : State) : Host.Outcome State Fault Refusal :=
  done (s.begin.whenFabric fun s =>
    let i := lane.val
    match s.portOfLane i with
    | some p => if s.get (Fld.PORT_STATUS_LINK p) == 5 && decide (4 ≤ s.laneRate i) then s.marginStep i c else s
    | none => s)

/-! ### Lane configuration (R94, R108, R109, R111) -/

/-- A write of LANE_FAIL_CFG (R108). -/
def State.writeFailCfg (s : State) (i v : Nat) : State :=
  let w := bitsOf v 0 6
  let f := bitsOf v 8 6
  let n := bitsOf v 16 6
  if s.flag (Fld.LANE_LOCK_LOCK i) || w < 24 || 40 < w || f < 8 || 24 < f || n < 20 || 40 < n || w < f || w < n then s
  else s.puts [(Fld.LANE_FAIL_CFG_WIN i, w), (Fld.LANE_FAIL_CFG_LIMIT_FEC i, f), (Fld.LANE_FAIL_CFG_LIMIT_NRZ i, n)]

/-- A write of LANE_TX_CFG (R94). -/
def State.writeTxCfg (s : State) (i v : Nat) : State :=
  let c := [bitsOf v 0 6, bitsOf v 8 6, bitsOf v 16 6, bitsOf v 24 6]
  if i < 256 || s.flag (Fld.LANE_LOCK_LOCK i) || c.sum ≠ 63 || nth c 2 < 32 || (i = 264 && nth c 0 ≠ 0) then s
  else s.puts [(Fld.LANE_TX_CFG_CM2 i, nth c 0), (Fld.LANE_TX_CFG_CM1 i, nth c 1), (Fld.LANE_TX_CFG_C0 i, nth c 2), (Fld.LANE_TX_CFG_CP1 i, nth c 3)]

/-- A write of LANE_EYE_CFG (R111). -/
def State.writeEyeCfg (s : State) (i v : Nat) : State :=
  let d := bitsOf v 8 6
  if d < 10 || 40 < d then s else s.puts [(Fld.LANE_EYE_CFG_EYE i, v), (Fld.LANE_EYE_CFG_DWELL i, d)]

end Sys2Proof.Machine
end

