-- ==== Sys2Proof/Machine/Route.lean ====
section
/-! DEFINITION. Sys2Proof/Machine/Route.lean: stage 3 of the ingress pipeline: where an address of a host leads (R16, R216, R267, R289, R336, R454), and how a request goes
there. -/
namespace Sys2Proof.Machine
open Sys2Proof

/-- Where an address leads: a window of a hive by host slot and hive offset; a request handled as a rule fault; one answered for a hive that is down; a pool offset; a
remote span by its DPID; a downstream vPPB; a downstream vPPB that does not forward; nowhere. -/
inductive Dest where
  | home (h i off : Nat)
  | fault
  | down
  | pool (off : Nat)
  | remote (dpid : Nat)
  | vppb (n : Nat)
  | unbound (n : Nat)
  | nowhere
deriving DecidableEq, Repr

/-- An enabled slot, by 64 h + i, of those that `f` picks, whose span holds the address (R216). -/
def State.spanOf (s : State) (f : Nat → Bool) (a : Nat) : Option Nat :=
  (List.range 1024).find? fun k =>
    let b := s.hpaBase (k / 64) (k % 64)
    s.slotState (k / 64) (k % 64) != 0 && f k && decide (b ≤ a) && decide (a < b + s.span (k / 64))

/-- The slot of a VCS whose span holds an address. -/
def State.vcsSpan (s : State) (v a : Nat) : Option Nat := s.spanOf (fun k => !s.flag (Fld.HOST_CFG_REMOTE k) && s.get (Fld.HOST_CFG_VCS k) == v) a

/-- The slot of a remote host whose span holds an address (R336). -/
def State.pidSpan (s : State) (pid a : Nat) : Option Nat := s.spanOf (fun k => s.flag (Fld.HOST_CFG_REMOTE k) && s.get (Fld.HOST_CFG_PID k) == pid) a

/-- A request inside a hive span (R216). -/
def State.spanDest (s : State) (k a : Nat) : Dest :=
  let h := k / 64
  let off := a - s.hpaBase h (k % 64)
  if s.hiveState h = 4 then .down
  else if s.hiveServes h && s.slotState h (k % 64) == 2 && (s.windowOf h off).isSome then .home h (k % 64) off
  else .fault

/-- The enabled pool window of a VCS that holds an address (R267). -/
def State.poolWindow (s : State) (v a : Nat) : Option Nat :=
  (List.range 64).find? fun n =>
    s.flag (Fld.POOL_WIN_CFG_EN n) && s.get (Fld.POOL_WIN_CFG_VCS n) == v && decide (s.poolHpa n ≤ a) && decide (a < s.poolHpa n + s.poolSize n)

/-- The enabled remote span of a VCS that holds an address (R336, R341). -/
def State.remoteSpan (s : State) (v a : Nat) : Option Nat :=
  (List.range 64).find? fun n =>
    let b := 2 ^ 34 * s.get (Fld.SWARM_RSPAN_HPA_BASE n)
    s.flag (Fld.SWARM_RSPAN_CFG_EN n) && s.get (Fld.SWARM_RSPAN_CFG_VCS n) == v && decide (b ≤ a) && decide (a < b + 2 ^ (34 + s.get (Fld.SWARM_RSPAN_CFG_SPAN n)))

/-- A downstream vPPB, which forwards or not (R141). -/
def State.vppbDest (s : State) (n : Nat) : Dest := if s.vppbForwards n then .vppb n else .unbound n

/-- Where an address of the host of a VCS leads: hive spans, pool windows, remote spans where the requester is the host, HDM decoders. (log 118, DEDUCED) -/
def State.destOf (s : State) (v a : Nat) (host : Bool) : Dest :=
  match s.vcsSpan v a with
  | some k => s.spanDest k a
  | none =>
    match s.poolWindow v a with
    | some n => .pool (s.poolOff n + (a - s.poolHpa n))
    | none =>
      match if host then s.remoteSpan v a else none with
      | some n => .remote (s.get (Fld.SWARM_RSPAN_DPID_DPID n))
      | none =>
        match s.decoderOf v a with
        | some d => s.vppbDest (s.vppbOf v (s.decRoute v d a))
        | none => .nowhere

/-- LD-ID a request carries toward the device of a vPPB. -/
def State.vppbLd (s : State) (n : Nat) : Nat := if s.flag (Fld.VPPB_TARGET_LD_VALID n) then s.get (Fld.VPPB_TARGET_LD_ID n) else 0

/-- A request goes on toward the device of a vPPB, admitted under the vPPB's GEN (R150). -/
def State.towardVppb (s : State) (m : Msg) (n : Nat) : Msg := { m with dst := s.vppbPort n, vppb := some n, gen := s.vppbGen n, ld := s.vppbLd n }

/-- Answer a request whose downstream vPPB does not forward it (R16, R141): counted as UNBOUND_ACCESS of that vPPB. -/
def State.unboundAnswer (s : State) (m : Msg) (n : Nat) : State := m.flushed.foldl State.queueMsg (s.count (Ctr.VPPB n 1))

/-- The same for a request of a host: the event is raised (R164). -/
def State.unboundAccess (s : State) (m : Msg) (n : Nat) : State := (s.raise Evt.VCS_UNBOUND_ACCESS).unboundAnswer m n

/-! ### The swarm (R335, R336) -/

/-- A PID routed to this module. -/
def State.pidLocal (s : State) (pid : Nat) : Bool := s.flag (Fld.SWARM_RT_V pid) && s.flag (Fld.SWARM_RT_LOCAL pid)

/-- A message of this module goes out over its route; one for an unreachable PID is answered as the flush outcomes table states, or discarded and counted at ISL0. (log 187, DEDUCED) -/
def State.sendRemote (s : State) (orig m : Msg) (pid ctr : Nat) : State :=
  match s.swarmPort pid with
  | some p => (s.count (Ctr.PAIR (2 + p) ctr)).sendLogged orig { m with dst := p, dpid := some pid }
  | none =>
    if m.flushed.isEmpty then s.count (Ctr.PAIR (2 + s.get (Fld.SWARM_RT_ISL0 pid)) 2)
    else m.flushed.foldl State.queueMsg s

/-- A CXL.mem request as IEP0 serves it, and as IEP1 does. -/
def Msg.atHome (m : Msg) (h : Nat) (i : Option Nat) (off : Nat) : Msg := { m with dst := 64, hive := h, hslot := i, off := off, mem := .hdmDB }
def Msg.atPool (m : Msg) (off : Nat) : Msg := { m with dst := 65, addr := off, mem := .hdmH, vppb := none }

end Sys2Proof.Machine
end

