-- ==== Sys2Proof/Machine/Mover.lean ====
section
/-! DEFINITION. Sys2Proof/Machine/Mover.lean: the data mover IEP2 (R279, R286 to R294, R302): VFs, channels, descriptors, parts, completions, and their commands. -/
namespace Sys2Proof.Machine
open Sys2Proof

/-! ### Virtual functions (R286, R287) -/

/-- Pool range of a pool VF's entry. -/
def State.vfOff (s : State) (v : Nat) : Nat := 2 ^ 28 * s.get (Fld.VF_RES_OFF v)
def State.vfSize (s : State) (v : Nat) : Nat := 2 ^ (28 + s.get (Fld.VF_RES_SIZE v))

/-- A write of EN = 1 passes the checks of R287: KIND and VCS as written, the rest of the entry as it stands. -/
def State.vfOk (s : State) (v kind vcs : Nat) : Bool :=
  let others := (List.range 256).filter fun u => u != v && s.flag (Fld.VF_CFG_EN u)
  let first := s.get (Fld.VF_RES_FIRST v)
  let n := s.get (Fld.VF_RES_COUNT v)
  let off := s.vfOff v
  let size := s.vfSize v
  s.flag Fld.MOVER_CFG_EN && s.vcsEnabled vcs && decide ((others.filter fun u => s.get (Fld.VF_CFG_VCS u) == vcs).length < 254)
    && (if kind = 1 then
          decide (1 ≤ n) && decide (first + n ≤ 64)
            && others.all fun u => s.get (Fld.VF_CFG_KIND u) != 1 || !overlap first n (s.get (Fld.VF_RES_FIRST u)) (s.get (Fld.VF_RES_COUNT u))
        else if kind = 2 then
          off % size == 0 && decide (off + size ≤ s.poolBytes)
            && others.all (fun u => s.get (Fld.VF_CFG_KIND u) != 2 || !overlap off size (s.vfOff u) (s.vfSize u))
            && (List.range 64).all (fun k => !s.flag (Fld.POOL_WIN_CFG_EN k) || !overlap off size (s.poolOff k) (s.poolSize k))
            && (List.range 1024).all fun w => s.hiveState (w / 64) == 0 || !s.flag (Fld.WIN_CFG_EN w) || !s.flag (Fld.WIN_CFG_POOL w)
              || !overlap off size (s.winDpa w) (s.winSize w)
        else false)

/-- The host of the entry's VCS has VF Enable set: writes to the entry are ignored (R287). -/
def State.vfHeld (s : State) (v : Nat) : Bool := s.fab.mover.vfEnable.contains (s.get (Fld.VF_CFG_VCS v))

/-- A write of VF_CFG (R287). (log 206, DEDUCED) -/
def State.writeVfCfg (s : State) (v w : Nat) : State :=
  let kind := bitsOf w 1 2
  let vcs := bitsOf w 4 6
  if s.vfHeld v then s
  else if bitsOf w 0 1 = 1 then
    if s.vfOk v kind vcs then s.puts [(Fld.VF_CFG_EN v, 1), (Fld.VF_CFG_KIND v, kind), (Fld.VF_CFG_VCS v, vcs)] else s.raise Evt.MOVER_CFG_IGNORED
  else
    let s := if s.flag (Fld.VF_CFG_EN v) then (s.stopVf v).modMover fun x => { x with pasidOn := x.pasidOn.filter fun u => u != v } else s
    s.puts [(Fld.VF_CFG_EN v, 0), (Fld.VF_CFG_KIND v, kind), (Fld.VF_CFG_VCS v, vcs)]

/-- VF_ENABLE (R287). -/
def execVfEnable (m : Master) (v : Vf) (value : Word) (s : State) : Host.Outcome State Fault Refusal :=
  done (s.begin.guardMirrored m 0x90 fun s => s.writeVfCfg v.val value.toNat)

/-- Word k of vector j in the MSI-X table of VF u: its mask is set at reset (R286). (log 243, PRESUMED) -/
def Mover.msixWord (x : Mover) (u j k : Nat) : Word := mget (if k = 3 then 1 else 0) x.msix (4 * (64 * u + j) + k)

/-- Write a word of the MSI-X table; a vector that is unmasked is signalled where it waits. -/
def State.setMsix (s : State) (u j k : Nat) (w : Word) : State :=
  let s := s.modMover fun x => { x with msix := mput (if k = 3 then 1 else 0) x.msix (4 * (64 * u + j) + k) w }
  if k = 3 && w.toNat % 2 = 0 && s.fab.mover.pba.contains (64 * u + j) then
    (s.modMover fun x => { x with pba := x.pba.filter fun b => b != 64 * u + j }).emit (.vfMsix u j)
  else s

/-- Signal vector j of VF u, or let it wait in the PBA while it is masked. -/
def State.signalVf (s : State) (u j : Nat) : State :=
  if (s.fab.mover.msixWord u j 3).toNat % 2 = 0 then s.emit (.vfMsix u j)
  else s.modMover fun x => { x with pba := if x.pba.contains (64 * u + j) then x.pba else x.pba ++ [64 * u + j] }

/-- The MSI-X table and PBA of a VF at their reset. -/
def State.clearMsix (s : State) (u : Nat) : State :=
  s.modMover fun x => { x with msix := x.msix.filter fun e => e.1 / 256 != u, pba := x.pba.filter fun b => b / 64 != u }

/-- A VF is reset by its host, or disabled by it (R294). -/
def State.flrVf (s : State) (v : Nat) : State :=
  if s.flag (Fld.VF_CFG_EN v) then
    (((s.stopVf v).clearMsix v).modMover fun x => { x with flr := if x.flr.contains v then x.flr else x.flr ++ [v], pasidOn := x.pasidOn.filter fun u => u != v }).endFlr v
  else s

/-- VF_FLR (R294). -/
def execVfFlr (v : Vf) (s : State) : Host.Outcome State Fault Refusal := done (s.begin.whenActive fun s => s.flrVf v.val)

/-- The host sets or clears VF Enable in the management function of its VCS (R286, R287). -/
def State.setVfEnable (s : State) (v : Nat) (on : Bool) : State :=
  let l := s.fab.mover.vfEnable.filter fun k => k != v
  let s := s.modMover fun x => { x with vfEnable := if on then l ++ [v] else l }
  if on then s else (s.vfsOf v).foldl State.flrVf s

/-! ### Channels (R293, R294) -/

/-- Ring size in descriptors (R302). -/
def State.ringSize (s : State) (c : Nat) : Nat := 2 ^ (s.get (Fld.CH_RING_CFG_SIZE c) + 4)
def State.chHead (s : State) (c : Nat) : Nat := s.get (Fld.CH_HEAD_HEAD c)
def State.chTail (s : State) (c : Nat) : Nat := s.get (Fld.CH_TAIL_TAIL c)

/-- Descriptors in progress. -/
def State.chRuns (s : State) (c : Nat) : List (Nat × DescRun) := mget [] s.fab.mover.runs c
def State.setRuns (s : State) (c : Nat) (l : List (Nat × DescRun)) : State :=
  (s.modMover fun x => { x with runs := mput [] x.runs c l }).put (Fld.CH_STATUS_INFLIGHT c) l.length

/-- A channel enters HALTED (R293). -/
def State.haltChannel (s : State) (c err : Nat) : State :=
  ((s.puts [(Fld.CH_STATUS_STATE c, 3), (Fld.CH_STATUS_ERR c, err)]).raise Evt.MOVER_CH_HALT).count (Ctr.MOVER c 6)

/-- A PASID a VF may use (R284). -/
def State.pasidOk (s : State) (v pasid : Nat) : Bool :=
  let b := s.get (Fld.VF_PASID_PASID_BASE v)
  s.fab.mover.pasidOn.contains v && decide (b ≤ pasid) && decide (pasid < b + 2 ^ s.get (Fld.VF_PASID_PASID_LOG2 v))

/-- A descriptor or ring PASID fails (R285): counted on the USP of the VF's VCS, captured, SPOOF raised. -/
def State.pasidSpoof (s : State) (v : Nat) : State :=
  let usp := s.get (Fld.VCS_ENTRY_CFG_USP (s.get (Fld.VF_CFG_VCS v)))
  ((s.count (Ctr.SPOOF usp 5)).captureHat 0 2 6 5 (s.get (Fld.VF_SUB_SUBID v)) 63 v).raise Evt.HAT_SPOOF

/-- The channel starts a fetch: its ring PASID is checked, where it has one (R285, R293). -/
def State.checkRing (s : State) (c : Nat) : State :=
  match s.chanVf c with
  | none => s
  | some v =>
    if s.flag (Fld.CH_RING_CFG_PASID_V c) && !s.pasidOk v (s.get (Fld.CH_RING_CFG_PASID c)) then (s.pasidSpoof v).haltChannel c 3 else s

/-- CH_TAIL written (R293): the doorbell. A tail at or above the ring size halts the channel. (log 202, DEDUCED) -/
def State.writeTail (s : State) (c v : Nat) : State :=
  let s := s.put (Fld.CH_TAIL_TAIL c) v
  let st := s.chState c
  if s.fab.mover.stopping.contains c || (st != 1 && st != 2) then s
  else if s.ringSize c ≤ s.chTail c then s.haltChannel c 2
  else if st = 1 && s.chTail c != s.chHead c then (s.put (Fld.CH_STATUS_STATE c) 2).checkRing c
  else s

/-- CH_CTL.ENABLE written 1 (R293). -/
def State.enableChannel (s : State) (c : Nat) : State :=
  if s.chState c = 0 && (s.chanVf c).isSome && s.flag Fld.MOVER_CFG_EN then
    s.puts [(Fld.CH_CTL_ENABLE c, 1), (Fld.CH_STATUS_STATE c, 1), (Fld.CH_HEAD_HEAD c, 0), (Fld.CH_TAIL_TAIL c, 0), (Fld.CH_STATUS_ERR c, 0)]
  else s

/-- CH_CTL.RESET written 1 in HALTED (R293); what its descriptors had not finished is abandoned. -/
def State.resetChannel (s : State) (c : Nat) : State :=
  if s.chState c = 3 && !s.fab.mover.stopping.contains c then
    let s := (s.setRuns c []).modMover fun x =>
      { x with slots := x.slots.map fun e => match e.2.msg.mover with | some (k, _, _) => if k = c then (e.1, { e.2 with stale := true }) else e | none => e }
    s.puts [(Fld.CH_STATUS_STATE c, 1), (Fld.CH_STATUS_ERR c, 0), (Fld.CH_HEAD_HEAD c, 0), (Fld.CH_TAIL_TAIL c, 0)]
  else s

/-- A write of CH_CTL. -/
def State.writeChCtl (s : State) (c v : Nat) : State :=
  if bitsOf v 0 1 = 0 then s.stopChannel c
  else
    let s := if bitsOf v 1 1 = 1 then s.resetChannel c else s
    s.enableChannel c

/-- A write of a channel's ring words (R302): ignored unless the channel is DISABLED; `w` numbers the word of the block. -/
def State.writeRing (s : State) (m : Master) (c w : Nat) (v : Word) : State :=
  let free := s.chState c == 0
  if w = 0 then s.holdLow m (Addr.CH_RING_LO c) v
  else if w = 1 then
    let lo := s.heldLow m (Addr.CH_RING_LO c)
    let s := s.dropLow m (Addr.CH_RING_LO c)
    if !free then s
    else
      let s := s.put (Fld.CH_RING_HI_BASE c) v.toNat
      match lo with
      | some l => s.setWord (Addr.CH_RING_LO c) (l &&& 0xFFFFF000)
      | none => s
  else if w = 2 && free && decide (v.toNat % 16 ≤ 12) then
    s.puts [(Fld.CH_RING_CFG_SIZE c, v.toNat), (Fld.CH_RING_CFG_PASID c, bitsOf v.toNat 8 20), (Fld.CH_RING_CFG_PASID_V c, bitsOf v.toNat 28 1)]
  else s

/-- A write of word w of a channel block (R302). A VF reaches only its own channels. -/
def State.writeChannel (s : State) (m : Master) (c w : Nat) (v : Word) : State :=
  let mine := match m with | .mover f => s.chanVf c == some f.val | _ => true
  if !mine then s
  else if w < 3 then s.writeRing m c w v
  else if w = 3 then s.writeTail c v.toNat
  else if w = 5 then s.writeChCtl c v.toNat
  else s

/-- CH_ENABLE (R293): CH_CTL written with ENABLE = 1. -/
def execChEnable (m : Master) (c : Chan) (value : Word) (s : State) : Host.Outcome State Fault Refusal :=
  done (s.begin.guard m 0x90 fun s => s.writeChannel m c.val 5 (value ||| 1))

/-- CH_DISABLE (R294): CH_CTL written with ENABLE = 0. -/
def execChDisable (m : Master) (c : Chan) (s : State) : Host.Outcome State Fault Refusal :=
  done (s.begin.guard m 0x90 fun s => s.writeChannel m c.val 5 0)

/-- CH_DISABLED (R294): the channel reaches DISABLED; an FLR of its VF that waited for it completes. -/
def execChDisabled (c : Chan) (s : State) : Host.Outcome State Fault Refusal :=
  done (s.begin.whenFabric fun s =>
    if s.fab.mover.stopping.contains c.val then
      let s := s.modMover fun x => { x with stopping := x.stopping.filter fun k => k != c.val }
      let s := s.puts [(Fld.CH_STATUS_STATE c.val, 0), (Fld.CH_STATUS_ERR c.val, 0)]
      s.fab.mover.flr.foldl State.endFlr s
    else s)

/-- CH_RESET (R293): CH_CTL written with RESET = 1 and ENABLE as it stands. -/
def execChReset (m : Master) (c : Chan) (s : State) : Host.Outcome State Fault Refusal :=
  done (s.begin.guard m 0x90 fun s => s.writeChannel m c.val 5 (BitVec.ofNat 32 (2 + s.get (Fld.CH_CTL_ENABLE c.val))))

/-- CH_TAIL_WRITE (R293). -/
def execChTailWrite (m : Master) (c : Chan) (value : Word) (s : State) : Host.Outcome State Fault Refusal :=
  done (s.begin.guard m 0x90 fun s => s.writeChannel m c.val 3 value)

/-! ### Descriptors (R284, R290, R292) -/

/-- The little-endian number in n bytes from an offset. -/
def leAt (b : List Byte) (off n : Nat) : Nat := (List.range n).foldl (fun w j => w + (b.getD (off + j) 0).toNat * 256 ^ j) 0

/-- A number in n little-endian bytes. -/
def leList (n v : Nat) : List Byte := tabulate n fun i => BitVec.ofNat 8 (v / 256 ^ i)

/-- The fields of the 64 bytes of a descriptor (R290). -/
def descriptorOf (b : List Byte) : Descriptor :=
  let flags := leAt b 0x01 1
  { op := leAt b 0x00 1, intr := bitsOf flags 0 1 == 1, fence := bitsOf flags 1 1 == 1, pasidV := bitsOf flags 2 1 == 1, pasid := leAt b 0x04 4 % 2 ^ 20,
    src := leAt b 0x08 8, dst := leAt b 0x10 8, len := leAt b 0x18 4, pattern := tabulate 8 fun i => b.getD (0x20 + i) 0, cmpl := leAt b 0x28 8, user := leAt b 0x30 8,
    reservedZero := flags < 8 && leAt b 0x02 2 == 0 && leAt b 0x04 4 < 2 ^ 20 && leAt b 0x1C 4 == 0 && leAt b 0x38 8 == 0 }

/-- The 32 bytes of a completion record (R291). -/
def Completion.record (c : Completion) : List Byte :=
  leList 1 c.status ++ leList 1 (bit c.poison + 2 * bit c.targetErr) ++ leList 2 0 ++ leList 4 c.faultParts ++ leList 8 c.bytes ++ leList 8 c.firstFault ++ leList 8 c.user

/-- The PASID of ring fetches and completion writes (R302). -/
def State.ringPasid (s : State) (c : Nat) : Option Nat := if s.flag (Fld.CH_RING_CFG_PASID_V c) then some (s.get (Fld.CH_RING_CFG_PASID c)) else none

/-- HPA of descriptor i of a channel's ring (R302). -/
def State.ringAddr (s : State) (c i : Nat) : Nat := (s.word (Addr.CH_RING_LO c)).toNat + 2 ^ 32 * s.get (Fld.CH_RING_HI_BASE c) + 64 * i

/-- Why a descriptor performs nothing (R284, R290), as its completion status: 5 PASID_FAULT, 4 BAD_DESC. (log 201, DEDUCED) -/
def State.descBad (s : State) (v : Nat) (d : Descriptor) : Option Nat :=
  let a := d.src
  let b := d.dst
  if d.pasidV && !s.pasidOk v d.pasid then some 5
  else if !(d.op == 1 || d.op == 2 || d.op == 3) || d.len < 1 || 2 ^ 30 < d.len || !d.reservedZero || d.cmpl % 32 != 0 || (d.op == 1 && overlap a d.len b d.len) then some 4
  else none

/-- A completion with nothing done yet. -/
def Completion.start (status user : Nat) : Completion :=
  { status := status, poison := false, targetErr := false, faultParts := 0, bytes := 0, firstFault := 0, user := user }

/-- A descriptor has been fetched and checked (R284, R290). (log 200, DEDUCED) -/
def State.takeDesc (s : State) (c v : Nat) (d : Descriptor) : State :=
  let bad := s.descBad v d
  let s := match bad with
    | some 5 => (s.pasidSpoof v).count (Ctr.MOVER c 5)
    | some _ => s.count (Ctr.MOVER c 4)
    | none => s
  let r : DescRun := { desc := d, void := bad.isSome, next := 0, parts := [], allowed := 0, zread := 0, done := Completion.start (bad.getD 0) d.user }
  let n := s.fab.mover.serial
  (s.setRuns c (s.chRuns c ++ [(n, r)])).modMover fun x => { x with serial := n + 1 }

/-- The channel fetches: RUNNING, fewer than 4 descriptors in progress, and one it has not fetched. -/
def State.fetches (s : State) (c : Nat) : Bool :=
  let n := (s.chRuns c).length
  s.chState c == 2 && !s.fab.mover.stopping.contains c && decide (n < 4) && (s.chHead c + n) % s.ringSize c != s.chTail c

/-- MOVER_DESC_FETCHED (R290, R292, R293): the channel reads its next descriptor from its ring; the 64 bytes of the answer, or an error. (log 269, DESIGN CHOICE) -/
def execMoverDescFetched (c : Chan) (bytes : List Byte) (error : Bool) (s : State) : Host.Outcome State Fault Refusal :=
  done (s.begin.whenActive fun s =>
    match s.chanVf c.val with
    | none => s
    | some v =>
      if !s.fetches c.val then s
      else
        let s := s.checkRing c.val
        if s.chState c.val != 2 then s
        else
          let s := s.emit (.descFetch c.val (s.ringAddr c.val ((s.chHead c.val + (s.chRuns c.val).length) % s.ringSize c.val)) (s.ringPasid c.val))
          if error then s.haltChannel c.val 1 else s.takeDesc c.val v (descriptorOf bytes))

/-! ### Parts (R279, R289) -/

/-- Bytes of the part at `off` of a descriptor: it lies in one aligned block of 512 bytes of its destination and, for a copy, of its source. -/
def Descriptor.partLen (d : Descriptor) (off : Nat) : Nat :=
  let n := min (d.len - off) (512 - (d.dst + off) % 512)
  if d.op = 1 then min n (512 - (d.src + off) % 512) else n

/-- A request of the data mover for a part (R288, R289): MetaValue I. -/
def State.moverMsg (s : State) (v : Nat) (id : Nat × Nat × Nat) (k : MsgKind) (a : Nat) : Msg :=
  { kind := k, sub := s.get (Fld.VF_SUB_SUBID v), src := 66, dst := 66, addr := a, mv := .i, vcs := some (s.get (Fld.VF_CFG_VCS v)), vf := some v, mover := some id,
    epoch := some (s.ruleEpoch 4) }

/-- Slots of IEP2's tracker free for requests over CXL.mem, and over CXL.io to hosts. -/
def State.moverFree (s : State) : Nat := 16384 - (s.fab.mover.slots.filter fun e => decide (e.1 < 16384)).length
def State.moverIoFree (s : State) : Nat := 4096 - (s.fab.mover.slots.filter fun e => decide (16384 ≤ e.1)).length

/-- Take a free slot, whose number is open. (log 198, DEDUCED) -/
def State.moverSlot (s : State) (io : Bool) (m : Msg) : State × Nat :=
  let used := if io then (s.fab.mover.slots.filter fun e => decide (16384 ≤ e.1)).map fun e => (e.1 - 16384, e.2) else s.fab.mover.slots.filter fun e => decide (e.1 < 16384)
  let size := if io then 4096 else 16384
  let k := ((findFree used size s.free (used.length + 1)).getD 0) + if io then 16384 else 0
  (s.used.modMover fun x => { x with slots := assocPut x.slots k { stale := false, msg := m } }, k)

/-- A CXL.mem request of a part goes where its line leads (R289). -/
def State.moverSend (s : State) (m : Msg) : State :=
  let d := s.destOf (m.vcs.getD 0) m.addr false
  let m := match d with
    | .vppb n => { s.towardVppb m n with dst := s.vppbPort n }
    | _ => m
  let (s, k) := s.moverSlot false m
  let m := { m with tag := k + 16384 * bitsOf m.gen 1 2 }
  match d with
  | .home h _ off => s.queueMsg (m.atHome h none off)
  | .pool off => s.sendLogged m (m.atPool off)
  | .vppb _ => s.sendLogged m m
  | .unbound n => s.unboundAccess m n
  | .down => s.answerDown m
  | .fault | .nowhere | .remote _ => s.failRule m 66

/-- A CXL.io request of a part toward the host (R289). -/
def State.moverUp (s : State) (v : Nat) (d : Descriptor) (m : Msg) : State :=
  let usp := s.get (Fld.VCS_ENTRY_CFG_USP (s.get (Fld.VF_CFG_VCS v)))
  let m := { m with dst := usp, pasid := if d.pasidV then some d.pasid else none, epoch := none, svc := 1 }
  if m.kind == .ioNp then
    let (s, k) := s.moverSlot true m
    s.queueMsg { m with tag := k - 16384 }
  else s.queueMsg m

/-- Lines a byte range touches. -/
def linesOf (a n : Nat) : List Nat := tabulate ((a + n - 1) / 64 - a / 64 + 1) fun i => a / 64 + i

/-- Does an address of the VF's host lead to a fabric target rather than upstream (R289)? (log 197, DEDUCED) -/
def State.isFabric (s : State) (vcs a : Nat) : Bool := decide (s.destOf vcs a false ≠ .nowhere)

/-- A part of one side passes: host memory is not checked; a fabric target needs its permissions in ASPACE 0 of the hub's bank, and an address R216 does not refuse (R274). -/
def State.partAllowed (s : State) (v a need : Nat) : Bool :=
  match s.destOf (s.get (Fld.VF_CFG_VCS v)) a false with
  | .nowhere => true
  | .fault => false
  | _ => ruleGrants (s.bank 4) (s.get (Fld.VF_SUB_SUBID v)) 0 a (need + Perm.mv)

/-- Change one descriptor in progress. -/
def State.modRun (s : State) (c n : Nat) (f : DescRun → DescRun) : State :=
  s.setRuns c ((s.chRuns c).map fun e => if e.1 = n then (e.1, f e.2) else e)

/-- A forbidden part (R275, R279, R292). -/
def State.forbidPart (s : State) (c n v a k : Nat) : State :=
  let m := s.moverMsg v (c, n, 0) (if k = 0 then .memRd else .memWr) a
  ((s.ruleFault m 66).count (Ctr.MOVER c 3)).modRun c n fun r =>
    { r with done := { r.done with faultParts := r.done.faultParts + 1, firstFault := if r.done.faultParts = 0 then a else r.done.firstFault } }

/-- The part has been performed: its bytes count. -/
def State.endPart (s : State) (c n : Nat) (p : PartRun) : State :=
  (s.count (Ctr.MOVER c 1) p.len).modRun c n fun r => { r with parts := r.parts.filter (fun q => q.off != p.off), done := { r.done with bytes := r.done.bytes + p.len } }

/-- The byte a part writes at destination address a: its pattern, or what its reads have brought for the source byte. -/
def PartRun.byte (p : PartRun) (d : Descriptor) (a : Nat) : Byte :=
  if d.op = 2 then d.pattern.getD (a % 8) 0
  else
    let x := p.src + (a - p.dst)
    match p.got.find? fun g => decide (g.1 ≤ x) && decide (x < g.1 + g.2.1.length) with
    | some g => g.2.1.getD (x - g.1) 0
    | none => 0

/-- A source line of a byte range returned poison. -/
def PartRun.bad (p : PartRun) (a n : Nat) : Bool :=
  let x := p.src + (a - p.dst)
  p.got.any fun g => g.2.2 && decide (g.1 < x + n) && decide (x < g.1 + g.2.1.length)

/-- One line of a part's destination: a MemWr, or a MemWrPtl at an unaligned end (R289). -/
def State.lineWrite (s : State) (v : Nat) (id : Nat × Nat × Nat) (d : Descriptor) (p : PartRun) (l : Nat) : Msg :=
  let lo := max p.dst (64 * l)
  let hi := min (p.dst + p.len) (64 * l + 64)
  let whole := lo == 64 * l && hi == 64 * l + 64
  let m := s.moverMsg v id (if whole then .memWr else .memWrPtl) (64 * l)
  { m with data := tabulate 64 fun i => if lo ≤ 64 * l + i ∧ 64 * l + i < hi then p.byte d (64 * l + i) else 0,
           enables := 2 ^ (hi - 64 * l) - 2 ^ (lo - 64 * l), poison := p.bad lo (hi - lo) }

/-- Issue the writes of a part whose reads are answered: to the host in one posted write, else line by line while slots are free. -/
def State.writePart (s : State) (c n v : Nat) (d : Descriptor) (p : PartRun) : State :=
  if p.up then
    let m := s.moverMsg v (c, n, p.off) .ioPosted p.dst
    let m := { m with data := tabulate p.len fun i => p.byte d (p.dst + i), poison := p.bad p.dst p.len, bytes := 16 + p.len }
    ((s.moverUp v d m).endPart c n p).modRun c n fun r => { r with zread := 1 }
  else
    let l := linesOf p.dst p.len
    if s.moverFree < l.length then s
    else
      let s := s.modRun c n fun r => { r with parts := r.parts.map fun q => if q.off = p.off then { q with writing := true, waits := l.length } else q }
      l.foldl (fun s x => s.moverSend (s.lineWrite v (c, n, p.off) d p x)) s

/-- The zero-length read that follows a descriptor's writes to host memory is sent once every part has been performed (R292). (log 204, DEDUCED) -/
def State.drainHost (s : State) (c v n : Nat) (r : DescRun) : State :=
  if r.zread = 1 && decide (r.desc.len ≤ r.next) && r.parts.isEmpty && decide (1 ≤ s.moverIoFree) then
    (s.modRun c n fun r => { r with zread := 2 }).moverUp v r.desc { s.moverMsg v (c, n, r.desc.len) .ioNp (r.desc.dst + r.desc.len - 1) with rdLen := 0 }
  else s

/-- Parts whose reads are answered and whose writes have not been issued go on, and descriptors whose writes to host memory are all issued read after them. -/
def State.kick (s : State) (c : Nat) : State :=
  match s.chanVf c with
  | none => s
  | some v =>
    let s := (s.chRuns c).foldl (fun s e => (e.2.parts.filter fun p => p.waits == 0 && !p.writing).foldl (fun s p => s.writePart c e.1 v e.2.desc p) s) s
    (s.chRuns c).foldl (fun s e => s.drainHost c v e.1 e.2) s

/-- Issue one part of a descriptor: checked (R274, R279), its reads sent for a copy, its writes for a fill. -/
def State.issuePart (s : State) (c n v : Nat) (r : DescRun) : State :=
  let d := r.desc
  let len := d.partLen r.next
  let a := d.src + r.next
  let b := d.dst + r.next
  let vcs := s.get (Fld.VF_CFG_VCS v)
  let up := !s.isFabric vcs b
  let s := s.modRun c n fun r => { r with next := r.next + len }
  if d.op == 1 && !s.partAllowed v a Perm.r then s.forbidPart c n v a 0
  else if !s.partAllowed v b Perm.w then s.forbidPart c n v b 1
  else
    let lines := if d.op = 1 && s.isFabric vcs a then linesOf a len else []
    let p : PartRun := { off := r.next, src := a, dst := b, len := len, up := up, got := [], waits := if d.op = 1 then max 1 lines.length else 0, writing := false }
    let s := (s.count (Ctr.MOVER c 2)).modRun c n fun r => { r with parts := r.parts ++ [p], allowed := r.allowed + 1 }
    if d.op = 2 then s.kick c
    else if lines.isEmpty then s.moverUp v d { s.moverMsg v (c, n, p.off) .ioNp a with rdLen := len }
    else lines.foldl (fun s l => s.moverSend (s.moverMsg v (c, n, p.off) .memRd (64 * l))) s

/-- The descriptor whose part or performance is next: the first not issued whole; one with FENCE waits for every earlier one (R290, R292). -/
def nextRun : Bool → List (Nat × DescRun) → Option (Nat × DescRun)
  | _, [] => none
  | first, e :: rest =>
    if e.2.void || e.2.desc.len ≤ e.2.next then nextRun false rest
    else if e.2.desc.fence && !first then none
    else some e

/-- The channel has a part to issue. -/
def State.mayIssue (s : State) (c : Nat) : Bool :=
  !s.fab.mover.stopping.contains c && (s.chState c == 2 || s.chState c == 3) && (s.chanVf c).isSome && (nextRun true (s.chRuns c)).isSome

/-- The channel whose turn it is: the first that has a part to issue, in round robin (R288). -/
def State.moverTurn (s : State) : Option Nat := (tabulate 64 fun i => (s.fab.mover.turn + i) % 64).find? s.mayIssue

/-- Run the next descriptor of the channel whose turn it is, where its OP is the one given and slots are free for a part. -/
def State.serveChannel (s : State) (c op : Nat) (f : State → Nat → Nat → DescRun → State) : State :=
  if s.moverTurn != some c then s
  else
    match s.chanVf c, nextRun true (s.chRuns c) with
    | some v, some (n, r) =>
      if r.desc.op == op && decide (18 ≤ s.moverFree) && decide (1 ≤ s.moverIoFree) then f (s.modMover fun x => { x with turn := (c + 1) % 64 }) n v r else s
    | _, _ => s

/-- MOVER_COPY (R289, R290): the channel's turn, with a COPY next: one part. -/
def execMoverCopy (c : Chan) (s : State) : Host.Outcome State Fault Refusal :=
  done (s.begin.whenActive fun s => s.serveChannel c.val 1 fun s n v r => s.issuePart c.val n v r)

/-- MOVER_FILL (R290): the channel's turn, with a FILL next: one part. -/
def execMoverFill (c : Chan) (s : State) : Host.Outcome State Fault Refusal :=
  done (s.begin.whenActive fun s => s.serveChannel c.val 2 fun s n v r => s.issuePart c.val n v r)

/-- MOVER_NOP (R290). -/
def execMoverNop (c : Chan) (s : State) : Host.Outcome State Fault Refusal :=
  done (s.begin.whenActive fun s => s.serveChannel c.val 3 fun s n _ r => s.modRun c.val n fun x => { x with next := r.desc.len })

/-! ### Answers and completions (R152, R291, R292) -/

/-- An answer is accounted to its part (R291, R292): data of a read, or the answer of a write; the NDR of a read tells nothing. (log 205, DEDUCED) -/
def State.accountPart (s : State) (m : Msg) : State :=
  match m.mover with
  | none => s
  | some (c, n, off) =>
    match ((s.chRuns c).find? fun e => e.1 == n), s.chanVf c with
    | some (_, r), some _ =>
      match r.parts.find? fun p => p.off == off with
      | none =>
        if off == r.desc.len && r.zread == 2 then
          s.modRun c n fun r => { r with zread := 0, done := { r.done with targetErr := r.done.targetErr || m.status != 0 } }
        else s
      | some p =>
        let data := m.kind == .memData || m.kind == .cpl
        if p.waits = 0 || p.writing == data then s
        else
          let p := { p with waits := p.waits - 1, got := if data then p.got ++ [(m.addr, m.data, m.poison)] else p.got }
          let s := s.modRun c n fun r =>
            { r with parts := r.parts.map (fun q => if q.off = off then p else q),
                     done := { r.done with poison := r.done.poison || (data && m.poison), targetErr := r.done.targetErr || m.status != 0 } }
          if p.writing && p.waits == 0 then s.endPart c n p else s
    | _, _ => s

/-- The module's own answer, from IEP0, IEP1 or synthesized: it frees its slot where that is LIVE, and is accounted. -/
def State.moverInner (s : State) (m : Msg) : State :=
  let k := if m.kind == .cpl then m.tag % 4096 + 16384 else m.tag % 16384
  match assoc s.fab.mover.slots k with
  | some e =>
    if e.msg.mover = m.mover then
      (if e.stale then s else s.modMover fun x => { x with slots := assocDel x.slots k }).accountPart { m with addr := e.msg.addr }
    else s.accountPart m
  | none => s.accountPart m

/-- An answer arrives from a device or host (R152, R288): checked against its slot; one that fails is discarded and counted for the vPPB recorded. -/
def State.moverOuter (s : State) (p : Nat) (m : Msg) : State :=
  let io := m.kind == .cpl
  let k := if io then m.tag % 4096 + 16384 else m.tag % 16384
  match assoc s.fab.mover.slots k with
  | none => s
  | some e =>
    let v := e.msg.vppb
    let live := !e.stale && e.msg.dst == p && (io || (bitsOf m.tag 14 2 == bitsOf e.msg.gen 1 2 && (v.all fun n => s.vppbGen n == e.msg.gen)))
    if !live then (s.countVppb v 0).raise Evt.VCS_GEN_DISCARD
    else
      let s := if m.final then s.modMover fun x => { x with slots := assocDel x.slots k } else s
      s.accountPart { m with mover := e.msg.mover, addr := e.msg.addr }

/-- MOVER_PART_ANSWER (R292): the next answer in IEP2's input, or one that arrives on a port. -/
def execMoverPartAnswer (arrives : Option (Port × Msg)) (s : State) : Host.Outcome State Fault Refusal :=
  done (s.begin.whenActive fun s =>
    let s := match arrives with
      | some (p, m) =>
        if !s.linkUp p.val then s
        else match s.spoofField p.val m with
          | some f => s.spoof p.val f m
          | none => s.moverOuter p.val m
      | none =>
        match mget [] s.fab.sw.iep 2 with
        | [] => s
        | m :: rest => (s.modSw fun w => { w with iep := mput [] w.iep 2 rest }).moverInner m
    (List.range 64).foldl State.kick s)

/-- Completion status of a descriptor (R291). (log 199, DEDUCED) -/
def DescRun.status (r : DescRun) : Nat := if r.void then r.done.status else if r.done.faultParts = 0 then 1 else if r.allowed = 0 then 3 else 2

/-- A descriptor has nothing left to do. -/
def DescRun.over (r : DescRun) : Bool := r.void || (decide (r.desc.len ≤ r.next) && r.parts.isEmpty && r.zread == 0)

/-- A completion (R291 to R293): the record, HEAD, MSI-X; or a completion write answered in error halts the channel. -/
def State.complete (s : State) (c v : Nat) (r : DescRun) (rest : List (Nat × DescRun)) (error : Bool) : State :=
  let s := (s.setRuns c rest).count (Ctr.MOVER c 0)
  let s := if r.desc.cmpl = 0 then s else s.emit (.completion c r.desc.cmpl (s.ringPasid c) { r.done with status := r.status }.record)
  if error && r.desc.cmpl != 0 then (if s.chState c = 2 then s.haltChannel c 1 else s)
  else
    let s := s.put (Fld.CH_HEAD_HEAD c) ((s.chHead c + 1) % s.ringSize c)
    let s := if r.desc.intr then s.signalVf v (c - s.get (Fld.VF_RES_FIRST v)) else s
    if s.chState c = 2 && s.chHead c == s.chTail c && rest.isEmpty then s.put (Fld.CH_STATUS_STATE c) 1 else s

/-- MOVER_COMPLETION (R292): the channel's oldest descriptor, once all its writes are answered; `error` tells that its completion write was answered in error. (log 203, DEDUCED) -/
def execMoverCompletion (c : Chan) (error : Bool) (s : State) : Host.Outcome State Fault Refusal :=
  done (s.begin.whenActive fun s =>
    match s.chanVf c.val, s.chRuns c.val with
    | some v, (_, r) :: rest => if r.over && !s.fab.mover.stopping.contains c.val then s.complete c.val v r rest error else s
    | _, _ => s)

end Sys2Proof.Machine
end

