-- ==== Sys2Proof/Machine/Ingress.lean ====
section
/-! DEFINITION. Sys2Proof/Machine/Ingress.lean: the ingress pipeline (R16, R141, R143, R152, R205, R216, R224, R225, R284, R309, R335, R336, R453 to R455), and its
commands. -/
namespace Sys2Proof.Machine
open Sys2Proof

/-! ### Stages 4 and 5 (R274, R205) -/

/-- Stage 4 passes a request of a host at its address (R274). -/
def State.ruleAllows (s : State) (p : Nat) (m : Msg) : Bool :=
  match m.needs with
  | none => true
  | some need => ruleGrants (s.bank (p / 16)) m.sub 0 m.addr need

/-- Stage 5: the request is policed under the overhead of its ingress port and coloured (R194, R205). -/
def State.colour (s : State) (p : Nat) (m : Msg) : State × Msg :=
  let r := s.police (p / 16) m.sub (s.lengthAt m p)
  (r.1, { m with colour := r.2 })

/-- Stages 4 and 5 for a request that stage 3 has resolved; `f` sends it on. One that stage 4 checks carries its epoch (R281). -/
def State.checked (s : State) (p : Nat) (m : Msg) (f : State → Msg → State) : State :=
  if !s.ruleAllows p m then s.failRule m p
  else
    let m := if m.needs.isSome then { m with epoch := some (s.ruleEpoch (p / 16)) } else m
    let (s, m) := s.colour p m
    f s m

/-! ### CXL.mem requests of hosts (R216, R267, R336, R454) -/

/-- A CXL.mem request of a host after stage 2. -/
def State.hostMem (s : State) (p v : Nat) (m : Msg) : State :=
  match s.destOf v m.addr true with
  | .home h i off => s.checked p { m with mem := .hdmDB } fun s m => s.queueMsg (m.atHome h (some i) off)
  | .fault | .nowhere => s.failRule m p
  | .down => s.answerDown { m with mem := .hdmDB }
  | .pool off => s.checked p { m with mem := .hdmH } fun s m => s.sendLogged m (m.atPool off)
  | .remote pid => s.checked p m fun s m => s.sendRemote m { m with spid := some (s.get (Fld.SWARM_PID_PID p)) } pid 0
  | .vppb n => s.checked p m fun s m => s.sendLogged m (s.towardVppb m n)
  | .unbound n => s.unboundAccess m n

/-! ### CXL.io requests of hosts (R140, R216, R267, R274, R279, R286) -/

/-- CacheIDs assigned in a VCS (R116). -/
def State.cacheIds (s : State) (v : Nat) : List Nat := ((List.range (s.vppbCount v)).filterMap fun i => (s.vppbCfg (s.vppbOf v i)).cacheId).eraseDups

/-- A CacheID can be assigned in a VCS: none, one in use there, or one of at most 16 (R116). -/
def State.cacheIdFits (s : State) (v : Nat) (id : Option Nat) : Bool :=
  match id with
  | none => true
  | some c => (s.cacheIds v).contains c || decide ((s.cacheIds v).length < 16)

/-- A configuration write changes what the command names (R116, R141, R146, R225, R284, R286). -/
def State.applyCfg (s : State) (v : Nat) (c : CfgItem) : State :=
  let mine := fun (n : Nat) => s.isDownstream n && s.get (Fld.VPPB_STATE_VCS n) == v
  match c with
  | .busRange n lo hi => if mine n then s.modVcfg n fun x => { x with busLo := lo, busHi := hi } else s
  | .cacheId n id => if mine n && s.cacheIdFits v id then s.modVcfg n fun x => { x with cacheId := id } else s
  | .biId n id => if mine n then s.modVcfg n fun x => { x with biId := id } else s
  | .dpcEnable n on => if mine n then s.modVcfg n fun x => { x with dpcEn := on } else s
  | .hotPlugEnable n on => if mine n then s.modVcfg n fun x => { x with hotPlugEn := on } else s
  | .slotClear n p l => if mine n then s.modVcfg n fun x => { x with presChanged := x.presChanged && !p, linkChanged := x.linkChanged && !l } else s
  | .vfEnable on => s.setVfEnable v on
  | .pasidEnable u on =>
    if s.vfOn u 1 && s.get (Fld.VF_CFG_VCS u) == v then
      let l := s.fab.mover.pasidOn.filter fun x => x != u
      s.modMover fun x => { x with pasidOn := if on then l ++ [u] else l }
    else s

/-- The parts of an access that may straddle blocks of 512 bytes of its address (R279): start and length within the access. -/
def splitParts (a : Nat) : Nat → Nat → List (Nat × Nat)
  | 0, _ => []
  | f + 1, n => if n = 0 then [] else let k := min n (512 - a % 512); (a, k) :: splitParts (a + k) f (n - k)

/-- A request goes to IEP3. -/
def State.toManagement (s : State) (m : Msg) : State := s.queueMsg { m with dst := 67, vppb := none }

/-- A host's access to BAR0 of a mover VF at stages 4 and 5 (R16, R274, R279): its channel blocks are checked in ASPACE 2 at their offset in the register space, part by part; a
forbidden part of a write is dropped, and aborts a read. -/
def State.toBar0 (s : State) (p u : Nat) (m : Msg) : State :=
  let n := if m.kind == .ioPosted then m.data.length else m.rdLen
  let base := Addr.CH_RING_LO (s.get (Fld.VF_RES_FIRST u))
  let need := if m.kind == .ioPosted then Perm.w else Perm.r
  let parts := splitParts (base + m.addr) (n / 512 + 2) n
  let bad := parts.filter fun x => !ruleGrants (s.bank (p / 16)) m.sub 2 x.1 need
  if 64 * s.get (Fld.VF_RES_COUNT u) ≤ m.addr then
    let (s, m) := s.colour p m
    s.toManagement m
  else
    match bad with
    | [] =>
      let (s, m) := s.colour p m
      s.toManagement m
    | x :: _ =>
      if m.kind == .ioPosted then bad.foldl (fun s x => s.ruleFault { m with addr := x.1 } p) s
      else s.failRule { m with addr := x.1 } p

/-- BAR2 of a pool VF (R274, R279, R286): checked in ASPACE 1 at pool offsets, served by IEP1. -/
def State.bar2 (s : State) (p u : Nat) (m : Msg) : State :=
  let n := if m.kind == .ioPosted then m.data.length else m.rdLen
  let ok := fun (a : Nat) (need : Nat) => ruleGrants (s.bank (p / 16)) m.sub 1 a need
  let base := s.vfOff u
  let parts := splitParts (base + m.addr) (n / 512 + 2) n
  let epoch := some (s.ruleEpoch (p / 16))
  if s.vfSize u < m.addr + n then m.flushed.foldl State.queueMsg s
  else if m.kind == .ioPosted then
    let s := (parts.filter fun x => !ok x.1 Perm.w).foldl (fun s x => s.ruleFault { m with addr := x.1 } p) s
    let parts := parts.filter fun x => ok x.1 Perm.w
    if parts.isEmpty then s
    else
      let (s, m) := s.colour p m
      parts.foldl (fun s x =>
        s.queueMsg { m with dst := 65, addr := x.1, data := (m.data.drop (x.1 - base - m.addr)).take x.2, epoch := epoch, vppb := none }) s
  else
    match parts.find? fun x => !ok x.1 Perm.r with
    | some x => s.failRule { m with addr := x.1 } p
    | none =>
      let (s, m) := s.colour p m
      s.queueMsg { m with dst := 65, addr := base + m.addr, epoch := epoch, vppb := none }

/-- An access to a VF of the host's VCS, where its VFs are enabled: configuration through IEP3, BAR0 of a mover VF, BAR2 of a pool VF. -/
def State.ioVf (s : State) (p v u : Nat) (m : Msg) : State :=
  if !s.fab.mover.vfEnable.contains v || s.get (Fld.VF_CFG_VCS u) != v then m.flushed.foldl State.queueMsg s
  else if m.kind == .cfgReq then
    let (s, m) := s.colour p m
    s.toManagement m
  else if s.vfOn u 1 then s.toBar0 p u m
  else if s.vfOn u 2 then s.bar2 p u m
  else m.flushed.foldl State.queueMsg s

/-- Downstream vPPBs of a VCS that are BOUND with their link up: the targets of a broadcast (R175). -/
def State.broadcastTargets (s : State) (v : Nat) : List Nat :=
  ((List.range (s.vppbCount v)).map fun i => s.vppbOf v i).filter fun n => s.vppbState n == 1 && s.vppbLink n

/-- A CXL.io request of a host after stage 2: inside a hive span or a pool window it is unsupported; else it goes where the host's own configuration routes it. (logs 100, DEDUCED; 191, DEDUCED) -/
def State.hostIo (s : State) (p v : Nat) (m : Msg) : State :=
  let mem := m.kind == .ioNp || m.kind == .ioPosted
  let window := mem && (match m.route with | .vf _ | .func1 => false | _ => true) && ((s.vcsSpan v m.addr).isSome || (s.poolWindow v m.addr).isSome)
  if window then m.flushed.foldl State.queueMsg s
  else
    match m.route with
    | .here | .func1 | .bridge _ _ =>
      let (s, m) := s.colour p m
      s.toManagement m
    | .vppb i =>
      let n := s.vppbOf v i
      if s.vppbForwards n then
        let (s, m) := s.colour p m
        s.queueMsg (s.towardVppb m n)
      else s.unboundAccess m n
    | .vf u => s.ioVf p v u.val m
    | .broadcast =>
      let (s, m) := s.colour p m
      s.queueMsg { m with kind := .bcast, targets := s.broadcastTargets v, vppb := none }
    | .up | .nowhere => m.flushed.foldl State.queueMsg s

/-! ### Requests of hosts (R143, R224, R309, R453) -/

/-- The write-back class (R224): a write whose line is recorded in the snoop table of its port. -/
def State.isWriteBack (s : State) (p : Nat) (m : Msg) : Bool := m.kind.isMemWrite && (mget [] s.fab.sw.snoops p).any fun e => e.line == m.addr / 64

/-- The RwD credits the tile never withholds from a port: one for each recorded snoop whose write-back has not arrived, but for those spent on other writes that still wait (R224). (log 263, DEDUCED) -/
def State.floorCredit (s : State) (p : Nat) : Bool :=
  decide ((s.fab.sw.waiting.filter fun m => m.src == p && m.lent && !m.writeBack).length < ((mget [] s.fab.sw.snoops p).filter fun e => !e.back).length)

/-- The write-back of a recorded snoop has arrived (R224). -/
def State.noteBack (s : State) (p : Nat) (m : Msg) : State :=
  if s.isWriteBack p m then
    s.modSw fun w => { w with snoops := mput [] w.snoops p ((mget [] w.snoops p).map fun e => if e.line = m.addr / 64 then { e with back := true } else e) }
  else s

/-- A request of the host of VCS v: its subscriber, and the stages. H2D messages go to the vPPB their CacheID is assigned to. -/
def State.hostRequest (s : State) (p v : Nat) (m : Msg) : State :=
  if m.kind.isMem then s.hostMem p v m
  else if m.kind == .h2dReq then
    match (((List.range (s.vppbCount v)).map fun i => s.vppbOf v i).drop 1).find? fun n => (s.vppbCfg n).cacheId == some m.cacheId with
    | some n => if s.vppbForwards n then s.queueMsg (s.towardVppb m n) else s.unboundAccess m n
    | none => m.flushed.foldl State.queueMsg s
  else if m.kind.isIo then s.hostIo p v m
  else s

/-- The downstream vPPB that a passive module's tables decode a request to, or the upstream vPPB (R309). -/
def State.passiveVppb (s : State) (v : Nat) (m : Msg) : Nat :=
  let mem := if (s.vcsSpan v m.addr).isSome || (s.poolWindow v m.addr).isSome then none
    else (s.decoderOf v m.addr).map fun d => s.vppbOf v (s.decRoute v d m.addr)
  let io := match m.route with
    | .vppb i => some (s.vppbOf v i)
    | _ => none
  (if m.kind.isMem then mem else io).getD (s.upstreamVppb v)

/-- A request of a host on a passive module (R309): configuration accesses of its vPPBs complete; every other is answered as for an unbound vPPB. -/
def State.passiveRequest (s : State) (v : Nat) (m : Msg) : State :=
  if m.kind == .cfgReq && (match m.route with | .here | .func1 | .bridge _ _ | .vf _ => true | _ => false) then s.toManagement m
  else s.unboundAccess m (s.passiveVppb v m)

/-- Credits the module withholds from hosts while it swaps (R309, R332): S1, S2, S3 and S6, but for the write-back class and the RwD credits of R224. (log 194, DEDUCED) -/
def State.swapWithholds (s : State) (p : Nat) (m : Msg) : Bool :=
  let svc := m.kind.service
  s.role == 8 && (svc == 1 || svc == 2 || svc == 3 || svc == 6) && !m.writeBack && !m.kind.isAnswer && !(m.kind.isMemWrite && s.floorCredit p)

/-- A request from a host at stage 2. -/
def State.fromHost (s : State) (p : Nat) (m : Msg) : State :=
  let m := { m with writeBack := s.isWriteBack p m, lent := m.lent || s.role == 8 }
  if s.swapWithholds p m then s
  else
    let s := s.noteBack p m
    match s.vcsOn p with
    | none => m.flushed.foldl State.queueMsg (s.count (Ctr.PORT p 29))
    | some v =>
      let n := s.upstreamVppb v
      let m := { m with sub := s.get (Fld.VPPB_SUBID_SUBID n), vcs := some v, vppb := some n, gen := s.vppbGen n }
      if s.isActive then s.hostRequest p v m else s.passiveRequest v m

/-! ### Requests of devices (R143, R217, R225) -/

/-- The hive with a window that a port or LD is a target of. (log 190, DEDUCED) -/
def State.targetHive (s : State) (p ld : Nat) : Option Nat :=
  (List.range 16).find? fun h =>
    s.hiveState h != 0 && (List.range 64).any fun w =>
      let n := 64 * h + w
      s.flag (Fld.WIN_CFG_EN n) && !s.flag (Fld.WIN_CFG_POOL n)
        && (List.range (2 ^ s.get (Fld.WIN_CFG_WAYS n))).any fun k =>
          let t := s.winTgt n k
          t.1 == p && (!t.2.2 || t.2.1 == ld)

/-- A request of a device that does not reach its host is answered as the flush outcomes table states (R153). -/
def State.deviceUnreached (s : State) (m : Msg) (n : Option Nat) : State :=
  match n with
  | some n => s.answerFlushed { m with vppb := some n }
  | none => m.flushed.foldl State.queueMsg s

/-- Where a device's CXL.io request goes: a peer's vPPB, or the host. -/
def State.devicePeer (s : State) (v : Nat) (m : Msg) : Option Nat :=
  match m.route with
  | .vppb i => some (s.vppbOf v i)
  | _ => none

/-- A request from a device at stage 2 (R143): to the host of the vPPB it is bound to, under that vPPB's subscriber and GEN. (logs 188, DEDUCED; 189, DEDUCED) -/
def State.fromDevice (s : State) (p : Nat) (m : Msg) : State :=
  match s.targetHive p m.ld with
  | some h => if m.kind.isBiSnp then s.count (Ctr.HOME h 11) else m.flushed.foldl State.queueMsg s
  | none =>
    match s.boundVppb p m.ld with
    | none => s.deviceUnreached m none
    | some n =>
      let v := s.get (Fld.VPPB_STATE_VCS n)
      let usp := s.get (Fld.VCS_ENTRY_CFG_USP v)
      let m := { m with sub := s.get (Fld.VPPB_SUBID_SUBID n), vppb := some n, gen := s.vppbGen n, vcs := some v }
      let id := (s.vppbCfg n).biId
      if m.kind.isBiSnp && id == some 0xFFF then s.unboundAnswer m n
      else if m.kind.isBiSnp && id.isNone then m.flushed.foldl State.queueMsg s
      else if !s.vppbForwards n || !s.linkUp usp then s.deviceUnreached m (some n)
      else
        match s.devicePeer v m with
        | some k =>
          if s.vppbForwards k then
            let (s, m) := s.colour p m
            s.queueMsg (s.towardVppb m k)
          else s.unboundAnswer m k
        | none =>
          let (s, m) := s.colour p m
          s.queueMsg { m with dst := usp, biId := if m.kind.isBiSnp then id.getD 0 else m.biId }

/-! ### Messages over inter-switch ports (R239, R335, R336) -/

/-- The local port that messages address by a PID. -/
def State.portOfPid (s : State) (pid : Nat) : Option Nat := (List.range 64).find? fun p => s.flag (Fld.SWARM_PID_V p) && s.get (Fld.SWARM_PID_PID p) == pid

/-- A request of a remote host at the module that owns its window (R336): by the slot of its PID; not checked at stage 4; policed under the SUBID of its PID. -/
def State.remoteRequest (s : State) (p pid : Nat) (m : Msg) : State :=
  match (s.pidSpan pid m.addr).map fun k => s.spanDest k m.addr with
  | some (.home h i off) =>
    let (s, m) := s.colour p { m with mem := .hdmDB }
    s.queueMsg (m.atHome h (some i) off)
  | some .down => s.answerDown { m with mem := .hdmDB }
  | _ => s.failRule m p

/-- A message arrives on an inter-switch port: for this module, for one of its ports, or for another module. CXL.cache does not cross such a port (R116). (log 184, DEDUCED) -/
def State.fromIsl (s : State) (p : Nat) (m : Msg) : State :=
  let pid := m.spid.getD 0
  let dest := m.dpid.getD 0
  let m := { m with sub := s.get (Fld.SWARM_RT_SUBID pid), dst := p }
  if m.kind.service = 6 then s
  else if !s.pidLocal dest then
    let (s, m) := s.colour p m
    s.sendRemote m m dest 1
  else if m.kind.isMem then s.remoteRequest p pid m
  else
    match s.portOfPid dest with
    | some q => (s.queueMsg { m with dst := q, dpid := none }).recordSnoop { m with dst := q, dpid := none }
    | none => s.count (Ctr.PAIR (2 + p) 2)

/-! ### Answers (R150 to R152, R185, R225) -/

/-- The tracker class whose requests an answer answers. -/
def MsgKind.answerClass : MsgKind → Nat
  | .cfgCpl | .cpl => 1
  | .biRspI | .biRspS | .biRspE | .biRspBlk => 2
  | .h2dRsp | .h2dData => 3
  | _ => 0

/-- An answer is discarded (R152): counted for the vPPB given. -/
def State.genDiscard (s : State) (n : Option Nat) : State := (s.countVppb (n.filter fun k => decide (k < 4096)) 0).raise Evt.VCS_GEN_DISCARD

/-- The slot after an answer: none once the final answer has passed. -/
def TSlot.answered (e : TSlot) (a : Msg) : Option TSlot :=
  let data := a.kind == .memData || a.kind == .cpl || a.kind == .cfgCpl
  let e := { e with owesData := e.owesData && !(data && a.final), owesNdr := e.owesNdr && !(!data && a.final) }
  if e.owesData || e.owesNdr then some e else none

/-- The vPPB through which an answer arrives. -/
def State.arrivalVppb (s : State) (p ld : Nat) : Option Nat :=
  match s.vcsOn p with
  | some v => if s.roleIs p 0 then some (s.upstreamVppb v) else s.boundVppb p ld
  | none => s.boundVppb p ld

/-- An answer that passes goes to its requester with the requester's tag, under the subscriber and colour of the request, with the mark its slot holds (R150, R185, R195). (log 195, DEDUCED) -/
def State.deliver (s : State) (p : Nat) (e : TSlot) (a : Msg) : State :=
  s.queueMsg
    { a with src := p, dst := e.msg.src, tag := e.msg.tag, sub := e.msg.sub, colour := e.msg.colour, devLoad := max a.devLoad e.msg.devLoad, vppb := e.msg.vppb, gen := e.gen,
             addr := e.msg.addr, vcs := e.msg.vcs, spid := e.msg.dpid, dpid := e.msg.spid, slot := none, bus := e.msg.bus,
             ld := if s.roleIs e.msg.src 1 then (e.msg.vppb.map s.vppbLd).getD 0 else 0 }

/-- The check of R152 on an answer of a class at port p. -/
def State.checkAnswer (s : State) (p c : Nat) (a : Msg) : State :=
  let k := s.tagSlot p c a.tag
  match assoc (s.slots p c) k with
  | none => s.genDiscard (s.arrivalVppb p a.ld)
  | some e =>
    if e.stale || a.tag != s.trackTag p c e.gen k || (decide (e.vppb < 4096) && s.vppbGen e.vppb != e.gen) then s.genDiscard (some e.vppb)
    else
      let s := s.setSlots p c (match e.answered a with | some e => assocPut (s.slots p c) k e | none => assocDel (s.slots p c) k)
      s.deliver p e a

/-- The first snoop recorded at a port under a BITag, leaving the table. -/
def takeSnoop (l : List SnoopRec) (tag : Nat) : Option SnoopRec := l.find? fun e => e.tag % 4096 == tag % 4096

/-- A BIRsp that carries BI-ID 0xFFF clears its entry of the snoop table and goes to the home that sent the snoop (R224, R225, R239). -/
def State.homeBiRsp (s : State) (p v : Nat) (a : Msg) : State :=
  let n := s.upstreamVppb v
  let a := { a with src := p, sub := s.get (Fld.VPPB_SUBID_SUBID n), vcs := some v, dst := 64 }
  let l := mget [] s.fab.sw.snoops p
  match takeSnoop l a.tag with
  | some e =>
    let s := s.modSw fun w => { w with snoops := mput [] w.snoops p (l.erase e) }
    match e.home with
    | none => s.queueMsg a
    | some pid => s.sendRemote a { a with spid := some (s.get (Fld.SWARM_PID_PID p)), dst := p } pid 0
  | none => s.queueMsg a

/-- A BIRsp of a host, routed by its BI-ID (R225). -/
def State.hostBiRsp (s : State) (p v : Nat) (a : Msg) : State :=
  if a.biId = 0xFFF then s.homeBiRsp p v a
  else
    match ((List.range (s.vppbCount v)).map fun i => s.vppbOf v i).find? fun n =>
        (s.vppbState n == 1 || s.vppbState n == 2) && (s.vppbCfg n).biId == some a.biId with
    | some n =>
      let k := s.tagSlot p 2 a.tag
      match assoc (s.slots p 2) k with
      | some e => if e.vppb = n then s.checkAnswer p 2 a else s.genDiscard (some e.vppb)
      | none => s.genDiscard (some n)
    | none => s.genDiscard (some (s.upstreamVppb v))

/-- An answer from a device: to the home where it answers the home's request; a CXL.cache message of its own goes to its host; else by its slot. -/
def State.deviceAnswer (s : State) (p : Nat) (a : Msg) : State :=
  if (a.kind == .memData || a.kind == .cmp || a.kind == .cmpS || a.kind == .cmpE) && s.isWindowTarget p a.ld then s.queueMsg { a with src := p, dst := 64 }
  else if a.kind == .d2hRsp || a.kind == .d2hData then
    match s.boundVppb p a.ld with
    | none => s
    | some n =>
      let usp := s.get (Fld.VCS_ENTRY_CFG_USP (s.get (Fld.VPPB_STATE_VCS n)))
      if s.linkUp usp then s.queueMsg { a with src := p, dst := usp, sub := s.get (Fld.VPPB_SUBID_SUBID n), vppb := some n, gen := s.vppbGen n, ld := 0 } else s
  else s.checkAnswer p a.kind.answerClass a

/-- An answer over an inter-switch port: a BIRsp of a remote host to this home or on its way, or one that a slot of the port expects. -/
def State.islAnswer (s : State) (p : Nat) (a : Msg) : State :=
  if a.kind.isBiRsp && a.biId == 0xFFF then
    let a := { a with src := p, sub := s.get (Fld.SWARM_RT_SUBID (a.spid.getD 0)) }
    let dest := a.dpid.getD 0
    if s.pidLocal dest then s.queueMsg { a with dst := 64, dpid := none } else s.sendRemote a { a with dst := p } dest 1
  else s.checkAnswer p a.kind.answerClass a

/-- An answer at stage 2. -/
def State.answerIn (s : State) (p : Nat) (a : Msg) : State :=
  if s.roleIs p 2 then s.islAnswer p a
  else if s.roleIs p 0 then
    match s.vcsOn p with
    | none => s.count (Ctr.PORT p 29)
    | some v => if a.kind.isBiRsp then s.hostBiRsp p v a else s.checkAnswer p a.kind.answerClass a
  else s.deviceAnswer p a

/-! ### The commands -/

/-- Run the ingress of a tile on its own copy of the binding tables (R158): while it may still hold earlier words, whether it has switched is open; a request admitted under
the earlier state of a vPPB that is being flushed is in the scope of the flush. (log 225, DESIGN CHOICE) -/
def State.atTile (s : State) (t : Nat) (f : State → State) : State :=
  let mine := s.fab.lag.filter fun o => o.tile == t && decide (s.now < o.since + 200)
  if mine.isEmpty then f s
  else if s.free % 2 = 0 then f { s.used with fab := { s.used.fab with lag := s.used.fab.lag.filter fun o => o.tile != t } }
  else
    let u := f (mine.foldl (fun s o => s.setWord o.addr o.word) s.used)
    (mine.foldl (fun u o => u.setWord o.addr (s.word o.addr)) u).answerLate

/-- The tile's queue of a port and service has room, so that its credits are not withheld from the partner (R170, R174). -/
def State.tileRoom (s : State) (p svc : Nat) : Bool :=
  let n := (s.fab.sw.waiting.filter fun m => m.src == p && m.svc == svc).length
  n == 0 || decide (n < Config.tileQueue)

/-- A message is received on a port whose link is up and whose credits for its service are not withheld, or a write on a credit of R224. A PTM request is answered with the time base on a DSP or ISL (R117); stage 1 discards one that fails a spoof check (R285); a passive module discards what devices and other modules send
(R309). -/
def State.receive (s : State) (p : Nat) (m : Msg) (f : State → Msg → State) : State :=
  let room := s.tileRoom p m.kind.service
  if !s.linkUp p || !(room || (m.kind.isMemWrite && s.roleIs p 0 && s.floorCredit p)) then s
  else if m.kind == .ptmReq then (if s.roleIs p 1 || s.roleIs p 2 then s.emit (.ptm p s.now) else s)
  else if !s.isActive && !s.roleIs p 0 then s.count (Ctr.PORT p 28)
  else
    let sub := match s.arrivalVppb p m.ld with
      | some n => s.get (Fld.VPPB_SUBID_SUBID n)
      | none => 0
    let s := s.count (Ctr.PORT p 2) m.slotBytes
    let m := { m with src := p, dst := p, sub := sub, slot := none, vppb := none, gen := 0, epoch := none, colour := 0, counted := false, targets := [], vcs := none, vf := none,
                      hive := 0, hslot := none, off := 0, mover := none, orphan := false, flush := none, looked := false, lent := !room,
                      devLoad := if m.kind.isAnswer then m.devLoad else 0, writeBack := m.writeBack && s.roleIs p 2 }
    match s.spoofField p m with
    | some k => s.spoof p k m
    | none => f s m

/-- A request at stage 2. (log 196, DESIGN CHOICE) -/
def State.requestIn (s : State) (p : Nat) (m : Msg) : State :=
  if m.kind.isAnswer then s
  else if s.roleIs p 0 then s.fromHost p m
  else if s.roleIs p 2 then s.fromIsl p m
  else s.fromDevice p m

/-- REQUEST_INGRESS (R16): a request arrives on a port. -/
def execRequestIngress (p : Port) (m : Msg) (s : State) : Host.Outcome State Fault Refusal :=
  done (s.begin.whenFabric fun s => s.atTile (p.val / 16) fun s => s.receive p.val m fun s m => s.requestIn p.val m)

/-- ANSWER_RECEIVE (R152, R453): an answer arrives on a port. A passive module counts what arrives on a USP without a VCS, and drops the rest. -/
def execAnswerReceive (p : Port) (m : Msg) (s : State) : Host.Outcome State Fault Refusal :=
  done (s.begin.whenFabric fun s =>
    if m.kind.isAnswer then
      s.atTile (p.val / 16) fun s => s.receive p.val m fun s m => if s.isActive || (s.vcsOn p.val).isNone then s.answerIn p.val m else s
    else s)

end Sys2Proof.Machine
end

