-- ==== Sys2Proof/Machine/Sec.lean ====
section
/-! DEFINITION. Sys2Proof/Machine/Sec.lean: the security island: self-tests, provisioning, SPDM, IDE keys and the debug port (R395 to R415). -/
namespace Sys2Proof.Machine
open Sys2Proof

/-- The island offers its services: MGMT runs and the self-tests have passed (R396). -/
def State.secUp (s : State) : Bool := s.clk.mgmtUp && !s.clk.mgmtStopped && s.get Fld.SEC_STATUS_SELFTEST == 1

/-- Run a step of the island only while it offers its services. (log 208, DEDUCED) -/
def State.whenSec (s : State) (f : State → State) : State := if s.secUp then f s else s

/-! ### Self-tests (R396) -/

/-- A self-test of the island has failed: the failure is fatal. -/
def State.secFail (s : State) : State :=
  let s := s.puts [(Fld.SEC_STATUS_SELFTEST, 2), (Fld.SEC_STATUS_APPROVED, 0)]
  s.fatal (s.message Kind.SEC_SELFTEST 2 0x007 0 8 Party.none none)

/-- SELFTEST_DONE (R396, R415). -/
def execSelftestDone (ok : Bool) (s : State) : Host.Outcome State Fault Refusal :=
  done (s.begin.whenMgmt fun s =>
    if s.get Fld.SEC_STATUS_SELFTEST != 0 then s
    else if ok then (s.puts [(Fld.SEC_STATUS_SELFTEST, 1), (Fld.SEC_STATUS_APPROVED, 1)]).raise Evt.SEC_SELFTEST_DONE
    else s.secFail)

/-- ENTROPY_HEALTH_FAIL (R396): a conditional test fails. -/
def execEntropyHealthFail (s : State) : Host.Outcome State Fault Refusal := done (s.begin.whenMgmt State.secFail)

/-! ### Provisioning (R398) -/

/-- Is a provisioning command refused? OP 1 PROGRAM_OWNER, 2 REVOKE_OWNER, 3 REQUIRE_FIXON_SIG. -/
def Otp.refuses (o : Otp) (op slot confirm : Nat) : Bool :=
  confirm != 0x5A
    || (op == 1 && (assoc o.owners slot).isSome)
    || (op == 2 && o.fixonSigReq && { o with oRevoke := o.oRevoke ||| 2 ^ slot }.oUsable == 0)

/-- The OTP after a provisioning command. (log 207, DEDUCED) -/
def Otp.provision (o : Otp) (op slot : Nat) (hash : List Nat) : Otp :=
  match op with
  | 1 => { o with owners := assocPut o.owners slot hash }
  | 2 => { o with oRevoke := o.oRevoke ||| 2 ^ slot }
  | _ => { o with fixonSigReq := true }

/-- A write of SEC_PROV_CMD (R398): from the board only; ignored while a command is busy. -/
def State.writeProv (s : State) (m : Master) (op slot confirm : Nat) : State :=
  if m != .board || !s.secUp || op == 0 || s.get Fld.SEC_PROV_STATUS_STATE == 1 then s
  else
    let ok := !s.nv.otp.refuses op slot confirm
    let s := { s.put Fld.SEC_PROV_STATUS_STATE 1 with sec := { s.sec with prov := some ok } }
    if ok then
      let o := s.nv.otp.provision op slot (tabulate 12 fun k => (s.word (Addr.SEC_PROV_DATA k)).toNat)
      { s with nv := { s.nv with otp := o } }.showOtp
    else s

/-- PROGRAM_OWNER (R398). -/
def execProgramOwner (m : Master) (slot : Fin 4) (confirm : Byte) (s : State) : Host.Outcome State Fault Refusal :=
  done (s.begin.guard m 7 fun s => s.writeProv m 1 slot.val confirm.toNat)

/-- REVOKE_OWNER (R398). -/
def execRevokeOwner (m : Master) (slot : Fin 4) (confirm : Byte) (s : State) : Host.Outcome State Fault Refusal :=
  done (s.begin.guard m 7 fun s => s.writeProv m 2 slot.val confirm.toNat)

/-- REQUIRE_FIXON_SIG (R398). -/
def execRequireFixonSig (m : Master) (confirm : Byte) (s : State) : Host.Outcome State Fault Refusal :=
  done (s.begin.guard m 7 fun s => s.writeProv m 3 0 confirm.toNat)

/-- PROV_DONE (R398, R415). -/
def execProvDone (s : State) : Host.Outcome State Fault Refusal :=
  done (s.begin.whenMgmt fun s =>
    match s.sec.prov with
    | some ok => ({ s.put Fld.SEC_PROV_STATUS_STATE (if ok then 2 else 3) with sec := { s.sec with prov := none } }).raise Evt.SEC_PROV_DONE
    | none => s)

/-! ### The header of a signed image (R399, R400) -/

/-- n little-endian bytes of the header at an offset, and its fields (R399). -/
def SignedImage.hdr (i : SignedImage) (off n : Nat) : Nat := ((List.range n).map fun k => 256 ^ k * (i.header.getD (off + k) 0).toNat).sum
def SignedImage.version (i : SignedImage) : Nat := i.hdr 8 4
def SignedImage.svn (i : SignedImage) : Nat := i.hdr 0xC 1
def SignedImage.revoke (i : SignedImage) : Nat := i.hdr 0xD 1
/-- The entries of GRANT: first and last page. -/
def SignedImage.grant (i : SignedImage) : List (Nat × Nat) := tabulate 16 fun k => (i.hdr (0x50 + 4 * k) 2, i.hdr (0x52 + 4 * k) 2)
/-- KEY_SLOT of the signature block (R400). -/
def SignedImage.keySlot (i : SignedImage) : Nat := (i.block.getD 4 0).toNat

/-! ### Measurements and identity (R403, R406) -/

/-- Words of the identity block (R413): six dies of three words, then the serial. -/
def identity : List Nat := (tabulate 18 fun i => Config.die i % 2 ^ 32) ++ tabulate 4 fun i => Config.serial i % 2 ^ 32

/-- The words of a digest, the lowest first. -/
def digestWords (d : BitVec 384) : List Nat := tabulate 12 fun k => bitsOf d.toNat (32 * k) 32

/-- The owner key hashes of the OTP, a blank slot as zeros. (log 265, DEDUCED) -/
def Otp.ownerHashes (o : Otp) : List Nat := (List.range 4).flatMap fun k => (assoc o.owners k).getD (List.replicate 12 0)

/-- A measurement block (R406). (log 215, DESIGN CHOICE) -/
def State.measurement (s : State) (index : Nat) : List Nat :=
  match index with
  | 1 => digestWords Config.bootRomHash
  | 2 => digestWords ((s.sec.firmware.map (·.digest)).getD 0)
  | 3 => [s.get Fld.DEV_FW_VER_VER, (s.sec.firmware.map (·.svn)).getD 0]
  | 4 => digestWords s.sec.fixon ++ [s.get Fld.BOOT_FIXON_GEN_GENERATION]
  | 5 => if s.get Fld.MBX_POLICY_STATE = 1 then digestWords ((s.sec.policy.map (·.digest)).getD 0) else List.replicate 12 0
  | 6 => s.sec.status4 :: digestWords (Config.sha384 s.nv.otp.ownerHashes)
  | 7 => identity
  | _ => []

/-- The measurements that CDI and the alias certificate cover. -/
def State.measured (s : State) : List (List Nat) := [1, 2, 3, 5, 6].map s.measurement

/-- The secret under the identity: UDS, or DBG_UDS once UDS is gated (R403, R412). -/
def rootSecret (debug : Bool) : BitVec 384 := if debug then Config.dbgUds else Config.uds

/-- The key pairs of DeviceID, and those of the alias, by their labels (R403). -/
def deviceIdKey (debug ml : Bool) : BitVec 384 := Config.kdf (rootSecret debug) (if ml then "DEVID-ML" else "DEVID-EC")
def Identity.aliasKey (i : Identity) (ml : Bool) : BitVec 384 := Config.kdf i.cdi (if ml then "ALIAS-ML" else "ALIAS-EC")

/-- The alias certificate (R403): the digests of the measurements, the SVN, the debug state and the alias public keys, with the signatures of DeviceID; `n` makes a signature fresh. -/
def aliasCert (debug : Bool) (cdi : BitVec 384) (measured : List (List Nat)) (svn n : Nat) : List Nat :=
  let i : Identity := { debug := debug, cdi := cdi, cert := [] }
  let tbs := (measured.flatMap fun b => digestWords (Config.sha384 b)) ++ [svn, bit debug, Config.publicKey (i.aliasKey false), Config.publicKey (i.aliasKey true)]
  let ml := Config.sign (deviceIdKey debug true) tbs n
  tbs ++ [ml, Config.sign (deviceIdKey debug false) (tbs ++ [ml]) n]

/-- The island derives CDI, the alias keys and the alias certificate (R403): at stage 4, and at an unlock from DBG_UDS (R412). -/
def State.deriveIdentity (s : State) (debug : Bool) : State :=
  let cdi := Config.hmac (Config.cdiKey (rootSecret debug)) s.measured.flatten
  let cert := aliasCert debug cdi s.measured ((s.sec.firmware.map (·.svn)).getD 0) s.freeCtr
  { s.used with sec := { s.sec with identity := some { debug := debug, cdi := cdi, cert := cert } } }

/-- The certificate chain of slot 0 (R405): root, Device CA, DeviceID, alias. -/
def State.certificates (s : State) : List Nat :=
  match s.sec.identity with
  | some i => Config.certChain i.debug ++ i.cert
  | none => Config.certChain false

/-- A signature of the ECDSA alias key over words of an answer (R406). -/
def State.aliasSign (s : State) (d : List Nat) : Nat :=
  match s.sec.identity with
  | some i => Config.sign (i.aliasKey false) d s.freeCtr
  | none => s.free

/-! ### SPDM (R405, R406) -/

/-- Unit of a transport in the SECC counters (R418). -/
def Transport.unit : Transport → Nat
  | .doe _ => 0
  | .i3c => 1
  | .smbus => 2
  | .vdm _ => 3

/-- Is the module a responder on the transport: DOE of an enabled USP, VDM from the designated fabric-manager host (R405)? -/
def State.hears (s : State) : Transport → Bool
  | .doe v => s.live 0x60 && s.vcsEnabled v.val
  | .vdm v => s.isFmHost v.val
  | _ => true

/-- A request on a transport, answered by f, which tells whether the answer is an error. -/
def State.spdm (s : State) (t : Transport) (f : State → State × Bool × List Nat) : State :=
  s.whenSec fun s =>
    if s.hears t then
      let (s, err, data) := f (s.count (Ctr.SECC t.unit 0))
      (if err then s.count (Ctr.SECC t.unit 1) else s).emit (.spdm t err data)
    else s

/-- SPDM_KEY_EXCHANGE (R405): at most 16 sessions; SessionLimitExceeded is SPDM error 0x0A. -/
def execSpdmKeyExchange (t : Transport) (s : State) : Host.Outcome State Fault Refusal :=
  done (s.begin.spdm t fun s =>
    if 16 ≤ s.sec.sessions.length then (s.raise Evt.SEC_SESSION_LIMIT, true, [0x0A])
    else
      let id := s.sec.nextId
      let l := s.sec.sessions ++ [Session.mk id t]
      ({ s.put Fld.SEC_SESSIONS_ACTIVE l.length with sec := { s.sec with sessions := l, nextId := id + 1 } }, false, [id]))

/-- SPDM_GET_MEASUREMENTS (R406): blocks 1 to 7 with a signature of the alias key; another index is an error. -/
def execSpdmGetMeasurements (t : Transport) (index : Nat) (s : State) : Host.Outcome State Fault Refusal :=
  done (s.begin.spdm t fun s =>
    if 1 ≤ index ∧ index ≤ 7 then
      (s.used, false, s.measurement index ++ [s.aliasSign (s.measurement index)])
    else (s, true, [1]))

/-- SPDM_REQUEST (R405): any other request. What the standard prescribes as the content of an answer is a free value; the certificate chain is in slot 0 only, and
PSK and the like are not supported. (log 214, PRESUMED) -/
def execSpdmRequest (t : Transport) (req : SpdmRequest) (s : State) : Host.Outcome State Fault Refusal :=
  done (s.begin.spdm t fun s =>
    match req with
    | .unsupported => (s, true, [7])
    | .getCertificate slot => if slot = 0 then (s, false, s.certificates) else (s, true, [1])
    | .endSession id =>
      if s.sec.sessions.any fun x => x.id == id && x.transport == t then (s.endSessions (fun x => x.id == id && x.transport == t), false, [])
      else (s, true, [1])
    | _ => (s.used, false, [s.free]))

/-! ### IDE keys (R407 to R409) -/

/-- A command, or a switch of key sets, of the port is still running (R409). -/
def State.ideBusy (s : State) (p : Nat) : Bool := s.sec.waiting.any fun w => w.port == p

/-- A stream ends with its keys (R408). -/
def State.ideEnd (s : State) (p : Nat) (cm : Bool) (state : Nat) : State :=
  let keep := fun (w : IdePending) => !(w.port == p && w.cm == cm)
  let s := { s with sec := { s.sec with programmed := s.sec.programmed.filter keep, waiting := s.sec.waiting.filter keep } }
  let s := { s with sec := { s.sec with rekeyDue := s.sec.rekeyDue.filter keep, ideKeys := s.sec.ideKeys.filter fun k => keep k.1 } }
  let s := s.raiseIf (state == 3 && s.get (ideField p cm) != 3) Evt.SEC_IDE_INSECURE
  s.puts [(ideField p cm, state), (ideKset p cm, 0)]

/-- A write of SEC_IDE_CMD (R407, R409, R414): by a keeper core, the board, or the designated host; ignored for a USP or for a port with EN = 0. OP 1 ESTABLISH,
2 REKEY, 3 STOP. An ESTABLISH of a stream that is SECURE changes nothing. (log 209, DEDUCED) -/
def State.writeIdeCmd (s : State) (m : Master) (p op : Nat) (cm : Bool) : State :=
  let may := m.keeperOrBoard || (match m with | .host _ => true | _ => false)
  if !may || !s.secUp || !s.live 0x10 || !s.portEn p || s.roleIs p 0 || op == 0 then s
  else if s.ideBusy p then s.addSat (Fld.SEC_IDE_PORT_IGNORED p) 1
  else
    let st := s.get (ideField p cm)
    if op = 1 then (if st = 2 then s else ((((s.ideMessages p).drawIdeKeys p cm false).put (ideField p cm) 1).putFlag (ideKset p cm) false).ideGo p cm false)
    else if op = 2 then s.ideRekey p cm
    else if st = 0 then s
    else (s.ideMessages p).ideEnd p cm 0

/-- IDE_ESTABLISH (R407). -/
def execIdeEstablish (m : Master) (p : Port) (cm : Bool) (s : State) : Host.Outcome State Fault Refusal :=
  done (s.begin.guard m 7 fun s => s.writeIdeCmd m p.val 1 cm)

/-- IDE_REKEY (R407). -/
def execIdeRekey (m : Master) (p : Port) (cm : Bool) (s : State) : Host.Outcome State Fault Refusal :=
  done (s.begin.guard m 7 fun s => s.writeIdeCmd m p.val 2 cm)

/-- IDE_STOP (R407). -/
def execIdeStop (m : Master) (p : Port) (cm : Bool) (s : State) : Host.Outcome State Fault Refusal :=
  done (s.begin.guard m 7 fun s => s.writeIdeCmd m p.val 3 cm)

/-- IDE_AUTO_REKEY (R407, R409): one that falls due while a rekey runs starts when that completes. -/
def execIdeAutoRekey (p : Port) (cm : Bool) (s : State) : Host.Outcome State Fault Refusal :=
  done (s.begin.whenSec fun s =>
    if !s.live 0x10 || !s.portEn p.val || s.roleIs p.val 0 || s.get (ideField p.val cm) != 2 then s
    else if s.ideBusy p.val then { s with sec := { s.sec with rekeyDue := s.sec.rekeyDue.filter (fun w => !(w.port == p.val && w.cm == cm)) ++ [⟨p.val, cm, false⟩] } }
    else s.ideRekey p.val cm)

/-- An IDE_KM message from the partner of a port: counted, and answered; on a port where the module is no responder, and where f finds an error, with an error
status (R407, R409). (log 211, DEDUCED) -/
def State.ideKm (s : State) (p : Nat) (cm : Bool) (f : State → Option State) : State :=
  s.whenSec fun s =>
    if s.live 0x10 && s.portEn p then
      let s := s.count (Ctr.SECC (4 + p) 1)
      match if s.roleIs p 0 then f s else none with
      | some s => (s.count (Ctr.SECC (4 + p) 0)).emit (.ideKm p cm 0)
      | none => ((s.count (Ctr.SECC (4 + p) 0)).count (Ctr.SECC (4 + p) 2)).emit (.ideKm p cm 1)
    else s

/-- IDE_KEY_PROG (R408, R409): the keys of a set, for both directions, go into the key registers; the key set in use is not programmed. -/
def execIdeKeyProg (p : Port) (cm : Bool) (kset : Bool) (tx rx : BitVec 256) (s : State) : Host.Outcome State Fault Refusal :=
  done (s.begin.ideKm p.val cm fun s =>
    let e := IdePending.mk p.val cm kset
    if s.get (ideField p.val cm) = 2 ∧ s.flag (ideKset p.val cm) = kset then none
    else
      let s := { s with sec := { s.sec with programmed := s.sec.programmed.filter (· != e) ++ [e] } }.putIdeKeys e tx.toNat rx.toNat
      some (if s.get (ideField p.val cm) = 2 then s else s.put (ideField p.val cm) 1))

/-- IDE_K_SET_GO (R409): the programmed key set comes into use, at the next entry to L0 where the link is not in L0. -/
def execIdeKSetGo (p : Port) (cm : Bool) (kset : Bool) (s : State) : Host.Outcome State Fault Refusal :=
  done (s.begin.ideKm p.val cm fun s =>
    let e := IdePending.mk p.val cm kset
    if s.sec.programmed.contains e then
      some (({ s with sec := { s.sec with programmed := s.sec.programmed.filter (· != e), waiting := s.sec.waiting.filter (· != e) } }).ideGo p.val cm kset)
    else none)

/-- IDE_K_SET_STOP (R408). -/
def execIdeKSetStop (p : Port) (cm : Bool) (s : State) : Host.Outcome State Fault Refusal :=
  done (s.begin.ideKm p.val cm fun s => some (s.ideEnd p.val cm 0))

/-- IDE_CHECK_FAIL (R366, R408): the stream becomes insecure, the key registers of the port are cleared, and the port is held with reason SOFTWARE. -/
def execIdeCheckFail (p : Port) (cm : Bool) (s : State) : Host.Outcome State Fault Refusal :=
  done (s.begin.whenFabric fun s =>
    if s.get (ideField p.val cm) = 2 then
      let other := s.get (ideField p.val (!cm))
      let s := s.ideEnd p.val cm 3
      let s := if other = 0 then s else s.ideEnd p.val (!cm) 3
      (s.sendFault (s.message Kind.IDE_CHECK 1 (0x10 + p.val / 4) (p.val % 4) 8 Party.none none)).holdPort p.val 1
    else s)

/-! ### The debug port (R410 to R412) -/

/-- Who reaches the SEC_DBG registers: keeper cores, the board, and SEC_ACCESS (R410). -/
def Master.debugger : Master → Bool
  | .keeper _ | .board | .dbg => true
  | _ => false

/-- The nonce ends. -/
def State.dropNonce (s : State) : State :=
  { (List.range 8).foldl (fun s k => s.put (Fld.SEC_DBG_NONCE_NONCE k) 0) s with sec := { s.sec with nonceValid := false } }

/-- A write of NONCE_REQ (R412): a new 32-byte nonce, unless a token is being verified, DBG is open or locked out. -/
def State.nonceReq (s : State) (m : Master) : State :=
  let st := s.get Fld.SEC_DBG_STATUS_STATE
  if !m.debugger || !s.secUp || st == 2 || st == 3 || st == 5 then s
  else
    let s := (List.range 8).foldl (fun s k => (s.put (Fld.SEC_DBG_NONCE_NONCE k) s.free).used) s
    { s.puts [(Fld.SEC_DBG_STATUS_STATE, 1), (Fld.SEC_DBG_STATUS_CAUSE, 0)] with sec := { s.sec with nonceValid := true } }

/-- DBG_NONCE_REQ (R412). -/
def execDbgNonceReq (m : Master) (s : State) : Host.Outcome State Fault Refusal := done (s.begin.guard m 7 fun s => s.nonceReq m)

/-- DBG_NONCE_EXPIRE (R412): the 60 s end; a nonce whose token is being verified has been used. -/
def execDbgNonceExpire (s : State) : Host.Outcome State Fault Refusal :=
  done (s.begin.whenMgmt fun s =>
    if s.sec.nonceValid && s.get Fld.SEC_DBG_STATUS_STATE == 1 then s.dropNonce.put Fld.SEC_DBG_STATUS_STATE 0 else s)

/-- An unlock is refused (R412): the eighth refusal since power-up locks DBG out. -/
def State.dbgRefuse (s : State) (cause : Nat) : State :=
  let s := (s.dropNonce.addSat Fld.SEC_DBG_STATUS_REFUSALS 1).count (Ctr.SECC 68 1)
  let out := s.get Fld.SEC_DBG_STATUS_STATE == 5 || decide (8 ≤ s.get Fld.SEC_DBG_STATUS_REFUSALS)
  (s.puts [(Fld.SEC_DBG_STATUS_STATE, if out then 5 else 4), (Fld.SEC_DBG_STATUS_CAUSE, cause)]).raise Evt.SEC_DBG_REFUSED

/-- A write of UNLOCK (R412): the token is taken and its registers are cleared. In LOCKOUT it is refused; while a token is being verified or DBG is open it is ignored. (log 213, DEDUCED) -/
def State.dbgUnlock (s : State) (m : Master) : State :=
  let st := s.get Fld.SEC_DBG_STATUS_STATE
  if !m.debugger || !s.secUp || st == 2 || st == 3 then s
  else
    let t := tabulate 1871 fun k => (s.word (Addr.SEC_DBG_TOKEN k)).toNat
    let s := { s with regs := s.regs.filter fun e => decide (e.1 < Addr.SEC_DBG_TOKEN 0) || decide (Addr.SEC_DBG_TOKEN 1870 < e.1) }
    if st = 5 then s.dbgRefuse (s.get Fld.SEC_DBG_STATUS_CAUSE)
    else { s.puts [(Fld.SEC_DBG_STATUS_STATE, 2), (Fld.SEC_DBG_STATUS_CAUSE, 0)] with sec := { s.sec with token := some t } }

/-- DBG_UNLOCK (R412). -/
def execDbgUnlock (m : Master) (s : State) : Host.Outcome State Fault Refusal := done (s.begin.guard m 7 fun s => s.dbgUnlock m)

/-- The first check of R412 that a token fails, as CAUSE codes it (R411, R414). (log 212, DESIGN CHOICE) -/
def State.tokenCause (s : State) (t : List Nat) (sig : TokenSignature) : Option Nat :=
  let format := nth t 0 == 0x31544244 && nth t 1 == 1 && decide (nth t 14 < 16) && nth t 15 == 0 && nth t 16 == 0x31474953
    && decide (nth t 17 < 256) && decide (nth t 1870 < 2 ^ 24)
  let nonce := s.sec.nonceValid && (List.range 8).all fun k => nth t (2 + k) == (s.word (Addr.SEC_DBG_NONCE k)).toNat
  let serial := (List.range 4).all fun k => nth t (10 + k) == Config.serial k % 2 ^ 32
  let slot := nth t 17
  let key := decide (slot < 4) && bitsOf s.nv.otp.qUsable slot 1 == 1 && sig.keyHashOk
  if !format then some 5
  else if !nonce then some 1
  else if !serial then some 2
  else if !key then some 3
  else if !(sig.eccOk && sig.mldsaOk) then some 4
  else none

/-- IDE keys of a port are zeroized (R408, R409, R412): a stream that has keys becomes insecure, and the port is held with reason SOFTWARE, without a message. -/
def State.zeroizePort (s : State) (p : Nat) : State :=
  let keyed := fun (cm : Bool) => s.get (ideField p cm) == 1 || s.get (ideField p cm) == 2 || s.sec.programmed.any fun w => w.port == p && w.cm == cm
  if keyed false || keyed true then
    let t := if keyed false then s.ideEnd p false 3 else s
    let t := if keyed true then t.ideEnd p true 3 else t
    if t.live 0x10 then t.holdPort p 1 else t
  else s

/-- A successful unlock (R412): IDE keys, sessions, the sealed key store and UDS go, DeviceID, CDI and the alias derive from DBG_UDS with the debug
state in measurement 6, then DBG opens to SCOPE. -/
def State.dbgOpen (s : State) (scope : Nat) : State :=
  let s := (List.range 64).foldl State.zeroizePort s
  let s := s.endSessions fun _ => true
  let s := { s with nv := { s.nv with sealedErased := true }, sec := { s.sec with status4 := s.sec.status4 ||| 0x30 } }.dropNonce
  (((s.puts [(Fld.SEC_STATUS_UDS_GATED, 1), (Fld.SEC_STATUS_DBG_OPEN, 1), (Fld.SEC_DBG_STATUS_STATE, 3), (Fld.SEC_DBG_STATUS_SCOPE, scope),
    (Fld.SEC_DBG_STATUS_CAUSE, 0)]).deriveIdentity true).count (Ctr.SECC 68 0)).raise Evt.SEC_DBG_OPENED

/-- DBG_VERIFY_DONE (R412). (log 83, DEDUCED) -/
def execDbgVerifyDone (sig : TokenSignature) (s : State) : Host.Outcome State Fault Refusal :=
  done (s.begin.whenMgmt fun s =>
    match s.sec.token with
    | none => s
    | some t =>
      let s := { s with sec := { s.sec with token := none } }
      match s.tokenCause t sig with
      | some c => s.dbgRefuse c
      | none => s.dbgOpen (nth t 14))

end Sys2Proof.Machine
end

