-- ==== Sys2Proof/Machine/Read.lean ====
section
/-! DEFINITION. Sys2Proof/Machine/Read.lean: what a read of a register returns (R4 to R9, R431, R434, R437 to R442), with the fields the module derives from its state, and the 64-bit read pairs (R6). -/
namespace Sys2Proof.Machine
open Sys2Proof

/-! ### The common page header (R438 to R442) -/

/-- A page with the common header, so a page of the capability chain (R436, R442). -/
def headerPage (pg : Nat) : Bool := match blockOf pg with | some (b, _) => hasHeader b | none => false

/-- TYPE of a page (R439): the page of instance 0 of its block. -/
def pageType (pg : Nat) : Nat :=
  if 0x800 ≤ pg then 0x800 else if 0x200 ≤ pg then 0x200 else if 0x100 ≤ pg then 0x100
  else if 0x10 ≤ pg && pg < 0x20 then 0x10 else if 0x20 ≤ pg && pg < 0x24 then 0x20 else pg

/-- DIE of a page (R435, R439): 0 hub, 1 + t tile t, 6 carrier. -/
def pageDie (pg : Nat) : Nat :=
  if pg = 3 then 6 else if 0x10 ≤ pg && pg < 0x20 then 1 + (pg - 0x10) / 4 else if 0x100 ≤ pg && pg < 0x200 then 1 + (pg - 0x100) / 64 else 0

/-- PAGE_ID (R439). -/
def pageId (pg : Nat) : Nat := 1 + 16 * pageDie pg + 256 * (pg - pageType pg) + 65536 * pageType pg

/-- NEXT of the capability chain (R442): the next page with a header, 0 after the last. -/
def capNext (pg : Nat) : Nat := (((List.range 0x600).find? fun k => headerPage (pg + 1 + k)).map (pg + 1 + ·)).getD 0

/-- INSTANCES of a TYPE (R440). -/
def pageInstances (pg : Nat) : Nat :=
  match pageType pg with
  | 0x10 => 16 | 0x20 => 4 | 0x100 => 256 | 0x200 => 9 | 0x800 => 34 | _ => 1

/-- The block's pages have a LOCK (R435, R440), and its LOCK survives fabric reset. -/
def lockable : Block → Bool
  | .dev | .boot | .intc | .nvs | .perf | .hat | .dirc | .mover | .dlog | .schedTbl | .hatRules | .bindTbl | .perfArr => false
  | _ => true
def lockPor : Block → Bool
  | .clk | .pwr | .flt | .mbx | .sec | .time | .comb | .carb | .pool => true
  | _ => false

/-- SRC_MODE and SRC_BASE of a page (R435, R440). -/
def pageSource (pg : Nat) : Nat × Nat :=
  match blockOf pg with
  | some (.lane, _) => (1, pg - 0x100)
  | some (.tlane, _) => (1, 256 + (pg - 0x200))
  | some (.wlane, _) => (3, 1312)
  | some (.ehr, _) => (1, 344 + (pg - 0x20))
  | some (.portg, _) => (3, 264 + 4 * (pg - 0x10))
  | _ => match assoc bitSourcePages pg with
    | some base => (2, base)
    | none => (0, 0)

/-- Code of a page's reset domain in PAGE_FEATURES. -/
def Domain.code : Domain → Nat
  | .fabric => 0 | .mgmt => 1 | .aux => 2

/-- PAGE_FEATURES (R440). -/
def pageFeatures (pg : Nat) : Nat :=
  match blockOf pg with
  | none => 0
  | some (b, _) =>
    pageInstances pg + 2 ^ 9 * bit (hasErrCap b) + 2 ^ 10 * bit (lockable b) + 2 ^ 11 * bit (lockPor b) + 2 ^ 12 * (domainOf b).code
      + 2 ^ 14 * (pageSource pg).1 + 2 ^ 16 * (pageSource pg).2

/-- The four words of the header that never change. -/
def headerWord (pg o : Nat) : Nat :=
  if o = 0 then pageId pg else if o = 4 then capNext pg else if o = 8 then pageFeatures pg else pageEvtMask pg

/-- The present lockable pages (R446, R447). -/
def lockPages : List Nat :=
  [1, 3, 4, 6, 7, 8] ++ (List.range 20).map (0x10 + ·) ++ [0x30, 0x31, 0x32, 0x40, 0x60, 0x70, 0x80, 0x81, 0x82, 0xA0, 0xA1, 0xA2]
    ++ (List.range 265).map (0x100 + ·)

/-- A page's LOCK as it reads (R437). (log 23, DEDUCED) -/
def State.lockReads (s : State) (pg : Nat) : Bool := s.live pg && s.locked pg

/-! ### Fields the module derives from its state -/

/-- A register word as it reads with some fields replaced. -/
def State.shows (s : State) (a : Nat) (l : List (Field × Nat)) : Nat := ((s.puts l).word a).toNat

/-- Word w (0 low, 1 high) of a 64-bit value. -/
def half (v w : Nat) : Nat := if w = 0 then v % 2 ^ 32 else v / 2 ^ 32 % 2 ^ 32

/-- A number whose bit i is f i, for i below n. -/
def bitVecOf (n : Nat) (f : Nat → Bool) : Nat := ((List.range n).map fun i => bit (f i) * 2 ^ i).sum

/-- KIND and ID of a master (R447); the debug port reads as none of them. (log 21, DEDUCED) -/
def Master.code : Master → Nat
  | .keeper c => 16 * c.val
  | .host v => 1 + 16 * v.val
  | .board => 2
  | .policy => 3 + 16 * 3
  | .mover _ | .dbg => 15

def State.showClk (s : State) (o : Nat) : Option Nat :=
  let a := 0x10000 + o
  if o = 0x1000 then some (bit s.clk.refPresent + 2 * bit s.clk.refSrcTcxo + 2 ^ 8 * s.clk.pllLock)
  else if o = 0x100C then some (s.shows a [(Fld.CLK_STRAPS_MOD_ID_LIVE, s.clk.strapPins.modId.val), (Fld.CLK_STRAPS_ROLE_LIVE, bit s.clk.strapPins.role)])
  else if o = 0x1014 then some (((List.range 16).map fun k => 4 ^ k * s.regionMode k).sum)
  else if 0x1100 ≤ o then
    let n := (o - 0x1100) / 4
    some (s.shows a [(Fld.CLK_BRANCH_MODE n, s.branchMode n), (Fld.CLK_BRANCH_RUNNING n, bit (s.branchRuns n))])
  else none

def State.showFlt (s : State) (o : Nat) : Option Nat :=
  if 0x1100 ≤ o && o < 0x11C0 && o % 64 < 32 then some (nth (entryWords (assoc s.flt.first ((o - 0x1100) / 64))) (o % 64 / 4))
  else if 0x2000 ≤ o && o < 0x2400 then
    some (match s.nv.records[s.get Fld.FLT_REC_SEL_INDEX]? with
      | some r => nth r.toWords ((o - 0x2000) / 4)
      | none => 0)
  else if 0x8000 ≤ o then
    let i := (o - 0x8000) / 32
    some (nth (entryWords (s.flt.log.find? fun e => e.seq % 1024 == (i + 1) % 1024)) (o % 32 / 4))
  else none

def State.showIntc (s : State) (o : Nat) : Option Nat :=
  let w := o % 256 / 4
  if o = 0x1000 then some ((List.range 64).map fun w => popCount ((s.word (Addr.INTC_PEND_SET w)).toNat &&& (s.word (Addr.INTC_EN_SET w)).toNat)).sum
  else if 0x2100 ≤ o && o < 0x2200 then some (s.word (Addr.INTC_PEND_SET w)).toNat
  else if 0x2300 ≤ o && o < 0x2400 then some (s.word (Addr.INTC_EN_SET w)).toNat
  else if 0x2400 ≤ o && o < 0x2500 then some (bitVecOf 32 fun i => s.level (32 * w + i))
  else none

def State.showSec (s : State) (o : Nat) : Option Nat :=
  if 0x1100 ≤ o && o < 0x1200 then
    let p := (o - 0x1100) / 4
    some (s.shows (0x70000 + o) [(Fld.SEC_IDE_PORT_REQUESTER p, bit (s.present p && !s.roleIs p 0))])
  else if 0x3000 ≤ o && o < 0x3060 then some (Config.die (3 * ((o - 0x3000) / 16) + o % 16 / 4) % 2 ^ 32)
  else if 0x3060 ≤ o && o < 0x3070 then some (Config.serial ((o - 0x3060) / 4) % 2 ^ 32)
  else none

/-- The transmitter of a lane is not in electrical idle (R92, R95, R96, R104, R128, R133). (log 182, DEDUCED) -/
def State.txOn (s : State) (i : Nat) : Bool :=
  if s.clk.startFail || s.fab.lanes.cal.contains i || s.testOp i == some 1 || s.testOp i == some 4 then false
  else if s.testOp i == some 2 || s.testOp i == some 3 then true
  else if i = 264 then s.waggleOn
  else if 256 ≤ i then s.get Fld.TDM_LINK_STATE != 0
  else match s.portOfLane i with
    | some p =>
      let l := s.get (Fld.PORT_STATUS_LINK p)
      (l == 5 || l == 6 || (l == 7 && decide (i < 4 * p + ((s.portX p).l0p.getD 16)))) && s.get (Fld.PORT_DSX_STATUS_TX p) != 3
    | none => false

/-- Log 257, DEDUCED. -/
def State.showLane (s : State) (i o : Nat) : Option Nat :=
  if o = 0x1000 then
    some (s.shows (Addr.LANE_STATUS i) [(Fld.LANE_STATUS_RATE i, s.laneRate i),
      (Fld.LANE_STATUS_ADAPTING i, bit (s.laneRate i != 0 && s.flag (Fld.LANE_STATUS_CDR_LOCK i) && !s.flag (Fld.LANE_CFG_ADAPT_FREEZE i))),
      (Fld.LANE_STATUS_TX_IDLE i, bit !s.txOn i), (Fld.LANE_STATUS_LIVE i, bit (s.laneLive i)), (Fld.LANE_STATUS_PORT i, ((s.portOfLane i).filter s.portEn).getD 255)])
  else none

/-- The port blocks of an absent port read 0 (R113). A port that trains reads DETECT, POLLING or CONFIG: which of them no command tells, so it is a free value (R136).
(log 134, DESIGN CHOICE) -/
def State.showPortg (s : State) (pg o : Nat) : Option Nat :=
  let p := 4 * (pg - 0x10) + (o - 0x1100) / 256
  if o = 0x1004 then
    some (s.shows (pg * 0x10000 + o) [(Fld.PORTG_STATUS_CPRES (pg - 0x10), bit (s.clk.cpres.contains (pg - 0x10)))])
  else if 0x1100 ≤ o && o < 0x1500 then
    if !s.present p then some 0
    else if o % 256 = 8 then
      let training := if s.get (Fld.PORT_STATUS_LINK p) = 2 then [(Fld.PORT_STATUS_LINK p, 2 + s.free % 3)] else []
      some (s.shows (pg * 0x10000 + o) <| training ++ [(Fld.PORT_STATUS_IDE_CM p, bit (s.get (Fld.SEC_IDE_PORT_CM p) == 2)),
        (Fld.PORT_STATUS_IDE_IO p, bit (s.get (Fld.SEC_IDE_PORT_IO p) == 2)), (Fld.PORT_STATUS_PRESENT p, 1)])
    else none
  else none

def State.showBuf (s : State) (o : Nat) : Option Nat :=
  let q := s.get Fld.BUF_QSEL_Q
  let p := s.get Fld.BUF_NSEL_PORT
  let v := s.get Fld.BUF_NSEL_SVC
  if o = 0x1000 then some s.cellsFree
  else if o = 0x1004 then some s.sharedFree
  else if o = 0x1008 then some s.headsFree
  else if o = 0x1018 then some (s.depth q + 2 ^ 19 * (s.leafStrands q).length)
  else if o = 0x1020 then some (s.nodeOcc p v + 2 ^ 18 * s.nodeRsv p v)
  else if o = 0x1024 then some (if v = 2 ∨ v = 3 then s.avg p v else 0)
  else none

/-- The bucket SCHED_TSEL selects, and whether it is a policer's (R209). -/
def State.selectedBucket (s : State) : Option (Bucket × Bool) :=
  let i := s.get Fld.SCHED_TSEL_INDEX
  match s.get Fld.SCHED_TSEL_KIND with
  | 0 => let b := s.subBucket i; if b.cfg.en then some (b, false) else none
  | 1 => let b := s.portBucket i; if b.cfg.en then some (b, false) else none
  | 2 => some (s.polBucket (s.get Fld.SCHED_TSEL_TILE) i, true)
  | _ => none

/-- A signed 32.32 count in two's complement. -/
def tokenWord (c : Int) : Nat := (c % 2 ^ 64).toNat

/-- Entries whose CTL reads PENDING (R203, R204). -/
def State.pendings (s : State) : Nat :=
  (s.regs.filter fun e => bitsOf e.2.toNat 16 1 == 1 &&
    ((Addr.SUB_SHP_CTL 0 ≤ e.1 && e.1 ≤ Addr.SUB_POL_CTL 4095 && (e.1 % 64 == 0xC || e.1 % 64 == 0x28))
      || (Addr.PORT_SHP_CTL 0 ≤ e.1 && e.1 ≤ Addr.PORT_SHP_CTL 63 && e.1 % 32 == 0xC))).length

def State.showSched (s : State) (o : Nat) : Option Nat :=
  if o = 0x1000 then some s.pendings
  else if o = 0x1008 ∨ o = 0x100C then some (match s.selectedBucket with | some (b, _) => half (tokenWord b.count) (o / 4 % 2) | none => 0)
  else if o = 0x1010 ∨ o = 0x1014 then some (match s.selectedBucket with | some (b, true) => half (tokenWord b.count2) (o / 4 % 2) | _ => 0)
  else none

def State.showHat (s : State) (o : Nat) : Option Nat :=
  if o = 0x1008 then some s.oldMsgs.length
  else if o = 0x1014 then some s.badRules.length
  else if o = 0x1018 then some (s.badRules.headD 0)
  else if 0x1040 ≤ o && o < 0x1080 then some (nth (ruleWords s.fab.hat.active (s.get Fld.HAT_ASEL_RULE)) ((o - 0x1040) / 4))
  else none

/-- HOME_STATUS, HOME_FWD_STATUS and the counts of hives and host slots (R241 to R243). -/
def State.showHome (s : State) (o : Nat) : Option Nat :=
  if o = 0x1004 then some (s.cqUsed + 2 ^ 14 * s.fab.home.snoops.length)
  else if o = 0x1008 then some s.fab.home.fwd.length
  else if 0x2000 ≤ o && o < 0x2800 then
    let h := (o - 0x2000) / 128
    if o % 128 = 0x1C then some (s.counting h).length
    else if o % 128 = 0x20 then some (s.unresolvedNamed h).length
    else none
  else if 0x4000 ≤ o && o < 0x8000 && o % 16 = 0xC then some (s.owned ((o - 0x4000) / 1024) ((o - 0x4000) / 16 % 64))
  else none

/-- The routes of SWARM_RT as they stand (R335). -/
def State.showSwarm (s : State) (o : Nat) : Option Nat :=
  if o = 0x1004 then some (s.pidsInUse.filter fun i => !s.pidReachable i).length
  else if 0x4000 ≤ o then
    let i := (o - 0x4000) / 4
    let using0 := s.islUsable (s.get (Fld.SWARM_RT_ISL0 i))
    some (s.shows (Addr.SWARM_RT i)
      [(Fld.SWARM_RT_USING i, bit (!using0 && s.flag (Fld.SWARM_RT_ISL1_V i) && s.islUsable (s.get (Fld.SWARM_RT_ISL1 i)))),
       (Fld.SWARM_RT_REACH i, bit (s.pidReachable i))])
  else none

def State.showBind (s : State) (o : Nat) : Option Nat :=
  if o < 0x20000 && o % 32 = 0xC then some (s.vppbSlots (o / 32) false + 2 ^ 16 * s.vppbSlots (o / 32) true)
  else if 0x20000 ≤ o && o < 0x21000 && o % 64 = 8 then
    let v := (o - 0x20000) / 64
    some (s.vcsState v + 4 * s.vcsBound v)
  else none

/-- What a register of a block reads where the module derives it; `o` is the offset from the first page of the block's table. (log 264, DESIGN CHOICE) -/
def State.derived (s : State) (m : Master) (b : Block) (pg o : Nat) : Option Nat :=
  match b with
  | .dev =>
    if o = 0x1014 then some m.code
    else if o = 0x1024 then
      let n := (lockPages.filter fun p => !s.lockReads p).length
      some (bit (n == 0) + 2 ^ 16 * n)
    else none
  | .clk => s.showClk o
  | .time => if o = 0x1000 ∨ o = 0x1004 then some (half s.now (o / 4 % 2)) else none
  | .flt => s.showFlt o
  | .intc => s.showIntc o
  | .mbx =>
    if 0x1100 ≤ o && o % 8 = 0 then
      let k := (o - 0x1100) / 8
      some (s.shows (0x60000 + o) [(Fld.MBX_BOX_STATE_FM k, bit (s.boxIsFm k))])
    else none
  | .sec => s.showSec o
  | .perf => if o = 0x1008 then some (s.view m) else none
  | .portg => s.showPortg pg o
  | .lane => s.showLane (pg - 0x100) o
  | .tlane | .wlane => s.showLane (256 + (pg - 0x200)) o
  | .buf => s.showBuf o
  | .mcast => if o = 0x1000 then some (s.fab.sw.mcasts.map fun e => e.2.cells.length).sum else none
  | .sched => s.showSched o
  | .hat => s.showHat o
  | .vcs => if o = 0x1008 then some s.fab.sw.flushes.length else none
  | .home => s.showHome o
  | .dirc =>
    if o = 0x1004 then some (s.fab.home.dir.filter fun e => e.2.onDie && (s.entry (e.1 / 2 ^ 38) (e.1 % 2 ^ 38)).isSome).length else none
  | .comb =>
    if o = 0x101C then
      some (s.shows (0x800000 + o) [(Fld.COMB_REPAIR_LISTED, s.nv.repairRows.length), (Fld.COMB_REPAIR_FULL, bit (decide (64 ≤ s.nv.repairRows.length)))])
    else if o = 0x1014 && s.combUp && s.flag Fld.COMB_SCRUB_CFG_EN then some (s.shows (0x800000 + o) [(Fld.COMB_SCRUB_STATUS_PROGRESS, s.free % 100)])
    else none
  | .carb => if o = 0x1000 then some s.carbAged else if o = 0x1004 then some s.carbBound else none
  | .pool => if o = 0x1004 then some ((List.range 64).filter fun n => s.flag (Fld.POOL_WIN_CFG_EN n)).length else none
  | .mover =>
    if o = 0x1004 then
      some (((List.range 64).filter fun c => s.chState c == 1).length + 2 ^ 8 * (s.fab.mover.slots.filter fun e => decide (e.1 < 16384)).length)
    else none
  | .swarm => s.showSwarm o
  | .bindTbl => s.showBind o
  | .schedTbl => if 0x70000 ≤ o && !s.present ((o - 0x70000) / 32) then some 0 else none
  | .boot | .pwr | .nvs | .ehr | .xbar | .dlog | .tdm | .waggle | .hatRules | .perfArr => none

/-- The bits of a register that read as they stand: those of its fields but for WO ones (R8). -/
def readMask (r : RegRow) : Nat := r.fields.foldl (fun n f => if f.acc == .wo then n else n ||| (2 ^ (f.hi + 1) - 2 ^ f.lo)) 0

/-! ### Reads -/

/-- May a master read this offset (R375, R410, R431)? (log 22, DEDUCED) -/
def State.mayRead (s : State) (m : Master) (a : Nat) : Bool :=
  s.pathReads m (a / 0x10000) &&
    match m with
    | .dbg => (0x71200 ≤ a && a < 0x71240) || 0x74000 ≤ a
    | .mover v => 0x902000 ≤ a && a < 0x903000 && s.vfOn v.val 1 && (s.vfChannels v.val).contains ((a - 0x902000) / 64)
    | _ => true

/-- The register word a master reads at an offset: 0 where nothing is present or reachable, and at the event addresses the bits of PAGE_EVT_MASK (R5, R8, R431, R437, R441). -/
def State.readReg (s : State) (m : Master) (a : Nat) : Nat :=
  let pg := a / 0x10000
  let o := a % 0x10000
  if !s.mayRead m a || a % 4 ≠ 0 then 0
  else
    match blockOf pg with
    | none => 0
    | some (b, first) =>
      if hasHeader b && o < 16 then headerWord pg o
      else if !s.live pg then 0
      else if hasHeader b && (o = 0x40 ∨ o = 0x44 ∨ o = 0x48) then s.pend pg &&& evtMask b
      else if hasHeader b && (o = 0x50 ∨ o = 0x54 ∨ o = 0x58) then (s.word (evtEnAddr pg)).toNat &&& evtMask b
      else
        match findRow a with
        | none => if b == .perfArr && 0x1000 ≤ o then half (s.viewedCounter m (a - a % 8)) (a / 4 % 2) else 0
        | some r => ((s.derived m b pg (a - first * 0x10000)).getD (s.word a).toNat) &&& readMask r

/-- Is the offset the low or the high word of a 64-bit pair (R6, R418)? -/
def pairWord (a : Nat) : PairWord :=
  match blockOf (a / 0x10000) with
  | some (.perfArr, _) => if a % 0x10000 < 0x1000 then .single else if a % 8 = 0 then .low else .high
  | _ => match findRow a with
    | some r => r.pair
    | none => .single

/-- A read (R4, R6): a low word latches the high word for the master, in place of its latch of any pair; a high word takes the master's latch of its pair. The policy partition
stops for a read of the SEC page (R375). (log 246, DESIGN CHOICE) -/
def State.softRead (s : State) (m : Master) (a : Nat) : State × Nat :=
  if !s.clk.mgmtUp || s.clk.mgmtStopped then (s, 0)
  else if m == .policy && s.get Fld.MBX_POLICY_STATE != 1 then (s, 0)
  else if m == .policy && !s.pathReads m (a / 0x10000) then (s.policyStop 1, 0)
  else
    match pairWord a with
    | .single => (s, s.readReg m a)
    | .low =>
      let others := s.latches.filter fun l => l.master != m
      ({ s with latches := others ++ [⟨m, a, BitVec.ofNat 32 (s.readReg m (a + 4))⟩] }, s.readReg m a)
    | .high =>
      match s.latches.find? fun l => l.master == m && l.addr + 4 == a with
      | some l => ({ s with latches := s.latches.filter fun l => l.master != m }, l.word.toNat)
      | none => (s, s.readReg m a)

/-- A read of some bytes as its master is answered; any but an aligned one of 4 bytes is refused and has no effect (R4). -/
def State.readOut (s : State) (m : Master) (a bytes : Nat) : State :=
  if bytes = 4 ∧ a % 4 = 0 then
    let x := s.softRead m a
    x.1.emit (.read m a (BitVec.ofNat 32 x.2))
  else s.badAccess m

/-- READ_64_LOW, READ_64_HIGH (R6). -/
def execRead64Low (m : Master) (addr : BitVec 28) (bytes : Nat) (s : State) : Host.Outcome State Fault Refusal := done (s.begin.readOut m addr.toNat bytes)
def execRead64High (m : Master) (addr : BitVec 28) (bytes : Nat) (s : State) : Host.Outcome State Fault Refusal := done (s.begin.readOut m addr.toNat bytes)

end Sys2Proof.Machine
end

