-- ==== Sys2Proof/Machine/Image.lean ====
section
/-! DEFINITION. Sys2Proof/Machine/Image.lean: the images of the NV store and how they are verified: signed firmware and policy images, Fixon images (R77 to R79, R397 to R402). -/
namespace Sys2Proof.Machine
open Sys2Proof

/-! ### Keys (R397, R401) -/

/-- The SEC_STATUS word this start-up verifies under: as read at stage 4, or the OTP as it stands before the first stage 4 (R398). -/
def State.secWord (s : State) : Nat := if bitsOf s.sec.status4 3 1 = 0 then (s.word Addr.SEC_STATUS).toNat else s.sec.status4

/-- A key slot of this start-up is usable: 0 to 3 Quinmen, 4 to 7 owner. -/
def State.keyUsable (s : State) (slot : Nat) : Bool := slot < 8 && bitsOf s.secWord (16 + slot) 1 == 1

/-- Check 1 of R401: MAGIC, FORMAT_VER, TYPE, BODY_LEN and LOAD_ADDR as R399 states them, and every reserved byte 0, those of the signature block among them (R400). (log 274, DEDUCED) -/
def SignedImage.formatOk (i : SignedImage) (policy : Bool) : Bool :=
  i.hdr 0 4 == 0x31474D49 && i.hdr 4 2 == 1 && i.hdr 6 2 == (if policy then 2 else 1) && decide (1 ≤ i.hdr 0x10 4)
    && decide (i.hdr 0x10 4 ≤ if policy then 1048576 else 3145728) && i.hdr 0x14 4 == (if policy then 0x01300000 else 0x01000000)
    && i.hdr 0x0E 2 == 0 && i.hdr 0x1C 4 == 0 && i.hdr 0x90 112 == 0 && i.block.take 4 == [0x53, 0x49, 0x47, 0x31] && i.block.drop 5 == [0, 0, 0]

/-- The checks of R401, of an image of a kind. -/
def SignedImage.verifies (i : SignedImage) (policy : Bool) (s : State) : Bool :=
  i.formatOk policy && i.bodyOk && i.keyHashOk && i.eccOk && i.mldsaOk && s.keyUsable i.keySlot && decide (s.nv.otp.svn ≤ i.svn) && decide (i.svn < 64)

/-- A firmware image and a policy partition image verify (R401): signed with a Quinmen slot, with an owner slot. -/
def SignedImage.fwOk (i : SignedImage) (s : State) : Bool := i.verifies false s && decide (i.keySlot < 4)
def SignedImage.policyOk (i : SignedImage) (s : State) : Bool := i.verifies true s && decide (4 ≤ i.keySlot)

/-- A firmware slot holds an image that verifies. -/
def State.fwSlot (s : State) (b : Bool) : Option SignedImage := (if b then s.nv.fwB else s.nv.fwA).filter fun i => i.fwOk s

/-- The pages a policy image grants (R375, R399): its entries with first not above last, but for those never granted. -/
def SignedImage.pages (i : SignedImage) : List Nat :=
  (i.grant.flatMap fun e => (List.range (min 4096 (e.2 + 1))).filter fun p => decide (e.1 ≤ p)).eraseDups.filter fun p => !neverGranted p

/-! ### Fixon images (R77 to R79) -/

/-- A record of a Fixon image (R78). -/
inductive FixRec where
  | write (addr : Nat) (words : List Nat)
  | masked (addr mask value : Nat)
  | fill (addr count value : Nat)
  | poll (addr mask value timeout : Nat)
  | delay (us : Nat)
  | fin
deriving DecidableEq, Repr

/-- Byte and little-endian word at an offset of a slot; a byte not listed is 0. -/
def FixonSlot.byte (f : FixonSlot) (a : Nat) : Nat := match assoc f.data a with | some b => b.toNat | none => 0
def FixonSlot.word (f : FixonSlot) (a : Nat) : Nat := f.byte a + 2 ^ 8 * f.byte (a + 1) + 2 ^ 16 * f.byte (a + 2) + 2 ^ 24 * f.byte (a + 3)
def FixonSlot.bytes (f : FixonSlot) (a n : Nat) : List Nat := tabulate n fun i => f.byte (a + i)

/-- The record at an offset and the offset after it; none where it does not parse (R78). -/
def FixonSlot.record (f : FixonSlot) (a : Nat) : Option (FixRec × Nat) :=
  let w := f.word a
  let len := w / 2 ^ 16
  let addr := f.word (a + 4)
  let next := a + 8 + 4 * len
  let p := fun i => f.word (a + 8 + 4 * i)
  if w / 256 % 256 ≠ 0 || addr % 4 ≠ 0 || 2 ^ 28 ≤ addr then none
  else match w % 256 with
    | 0x01 => if 1 ≤ len ∧ len ≤ 4096 then some (.write addr (tabulate len p), next) else none
    | 0x02 => if len = 2 then some (.masked addr (p 0) (p 1), next) else none
    | 0x03 => if len = 2 ∧ 1 ≤ p 0 ∧ p 0 ≤ 65536 then some (.fill addr (p 0) (p 1), next) else none
    | 0x04 => if len = 3 then some (.poll addr (p 0) (p 1) (p 2), next) else none
    | 0x05 => if len = 1 ∧ p 0 ≤ 1000000 ∧ addr = 0 then some (.delay (p 0), next) else none
    | 0x7F => if len = 0 ∧ addr = 0 then some (.fin, next) else none
    | _ => none

/-- The records from an offset to exactly the end of the image, END being the last and only the last (R79). -/
def FixonSlot.records (f : FixonSlot) (stop : Nat) : Nat → Nat → Option (List FixRec)
  | 0, _ => none
  | fuel + 1, a =>
    if stop < a + 8 then none
    else match f.record a with
      | none => none
      | some (.fin, next) => if next = stop then some [.fin] else none
      | some (r, next) => (f.records stop fuel next).map (r :: ·)

/-- The registers a record addresses: first offset and count. -/
def FixRec.range : FixRec → Nat × Nat
  | .write a l => (a, l.length)
  | .fill a n _ => (a, n)
  | .masked a _ _ | .poll a _ _ _ => (a, 1)
  | .delay _ | .fin => (0, 0)

/-- A record addresses the BOOT, SEC or NVS page (R79). -/
def FixRec.forbidden (r : FixRec) : Bool :=
  let (a, n) := r.range
  n != 0 && [2, 7, 9].any fun pg => decide (a / 0x10000 ≤ pg) && decide (pg ≤ (a + 4 * n - 4) / 0x10000)

def FixonSlot.imageLen (f : FixonSlot) : Nat := f.word 8
def FixonSlot.generation (f : FixonSlot) : Nat := f.word 0x10
def FixonSlot.signed (f : FixonSlot) : Bool := f.word 0x18 % 2 == 1

/-- The header as R79 asks it: MAGIC, FORMAT_VER, HDR_LEN and MEMBER, both CRCs, a length within the slot (R448). (log 44, DEDUCED) -/
def FixonSlot.headerOk (f : FixonSlot) : Bool :=
  f.word 0 == 0x314E5846 && f.word 4 == 1 + 2 ^ 16 * 64 && f.word 0x14 % 2 ^ 16 == 0x0256 && f.imageLen % 4 == 0 && decide (72 ≤ f.imageLen)
    && decide (f.imageLen + (if f.signed then 7420 else 0) ≤ 8 * 2 ^ 20) && f.word 0x3C == crc32c (f.bytes 0 0x3C)
    && f.word 0x20 == crc32c (f.bytes 64 (f.imageLen - 64))

/-- The signature of a Fixon image (R400, R401): the block's form, a usable slot of either kind, and the checks over its bytes. -/
def FixonSlot.sigOk (f : FixonSlot) (s : State) : Bool :=
  let slot := f.word (f.imageLen + 4)
  f.word 0x1C == 7420 && f.word f.imageLen == 0x31474953 && s.keyUsable slot
    && Config.signatureOk slot (mget [] s.nv.otp.owners (slot - 4)) (f.bytes 0 (f.imageLen + 7420))

/-- The records of a slot that is valid (R79); none where it is not. -/
def State.fixonImage (s : State) (f : FixonSlot) : Option (List FixRec) :=
  if !f.bad && f.headerOk && decide (f.word 0x14 / 2 ^ 16 ≤ s.get Fld.DEV_FW_VER_VER / 2 ^ 16) && (if f.signed then f.sigOk s else bitsOf s.secWord 7 1 == 0) then
    (f.records f.imageLen (f.imageLen / 8 + 1) 64).filter fun l => l.all fun r => !r.forbidden
  else none

def State.fixSlot (s : State) (b : Bool) : FixonSlot := if b then s.nv.fixB else s.nv.fixA
def State.fixonValid (s : State) (b : Bool) : Bool := (s.fixonImage (s.fixSlot b)).isSome

end Sys2Proof.Machine
end

