-- ==== Sys2Proof/Machine/Mailbox.lean ====
section
/-! DEFINITION. Sys2Proof/Machine/Mailbox.lean: the mailbox boxes and their commands but for those of the binding engine (R119, R385 to R391). What a standard command returns is a list of the
values the manual determines; its layout is the standard's. -/
namespace Sys2Proof.Machine
open Sys2Proof

/-! ### Boxes (R385, R389) -/

/-- The host of VCS v reaches its management function: the VCS is enabled and its USP link up. -/
def State.vcsReached (s : State) (v : Nat) : Bool := s.live 0x60 && s.vcsEnabled v && s.linkUp (s.get (Fld.VCS_ENTRY_CFG_USP v))

/-- Requests reach a box: of a CCI while its host reaches it, of the designated host while FM_EN = 1, of the policy partition while it runs. A passive module answers no request of
a host but configuration accesses (R309). -/
def State.boxHears (s : State) (k : Nat) : Bool :=
  if k < 64 then s.isActive && s.vcsReached k
  else if k = 64 then true
  else if k = 65 then s.flag Fld.MBX_CFG_FM_EN && s.isActive && s.vcsReached (s.get Fld.MBX_CFG_FM_VCS)
  else s.get Fld.MBX_POLICY_STATE == 1

/-- The doorbell source of a box (R376). -/
def State.pulseDoorbell (s : State) (k : Nat) : State := if k < 66 then s.setPending (1792 + k) else s

/-- A write ignored in BUSY (R389). -/
def State.ignoreInput (s : State) (k : Nat) : State := (s.addSat (Fld.MBX_BOX_SEQ_IGNORED k) 1).count (Ctr.MBOX k 6)

/-- The doorbell of a box, or a request message on it (R389). -/
def State.doorbell (s : State) (k opcode : Nat) (payload : List Byte) (irq : Bool) : State :=
  if s.clk.mgmtStopped || !s.boxHears k then s
  else if s.get (Fld.MBX_BOX_STATE_STATE k) = 1 then
    if k = 64 ∨ k = 65 then (s.count (Ctr.MBOX k 2)).emit (.mbxResponse k .busy [])
    else s.ignoreInput k
  else
    let fm := s.boxIsFm k
    let s := s.modBox k fun b => { b with opcode := opcode, payload := payload, fm := fm, irq := irq, pendingResult := none, result := none }
    ((s.puts [(Fld.MBX_BOX_STATE_STATE k, 1), (Fld.MBX_BOX_STATE_OPCODE k, opcode)]).count (Ctr.MBOX k 0)).pulseDoorbell k

/-- MBX_DOORBELL (R389): the input is the opcode and payload as the doorbell finds them. (log 63, DEDUCED) -/
def execMbxDoorbell (k : BoxIx) (opcode : BitVec 16) (payload : List Byte) (irq : Bool) (s : State) : Host.Outcome State Fault Refusal :=
  done (s.begin.whenMgmt fun s => s.doorbell k.val opcode.toNat payload irq)

/-- The counter of a return code in the MBOX array (R418). -/
def RetCode.counter : RetCode → Nat
  | .success => 1
  | .busy => 2
  | .invalidInput => 3
  | .unsupported => 4
  | _ => 5

/-- The result of a command is stored (R389). -/
def State.boxDone (s : State) (k : Nat) (r : MbxResult) : State :=
  let s := s.modBox k fun b => { b with pendingResult := none, result := some r }
  let s := (s.puts [(Fld.MBX_BOX_STATE_STATE k, 2), (Fld.MBX_BOX_SEQ_RESULT_SEQ k, s.get (Fld.MBX_BOX_SEQ_RESULT_SEQ k) + 1)]).count (Ctr.MBOX k r.code.counter)
  if k < 64 then s.boxVector k else s.emit (.mbxResponse k r.code r.data)

/-- MBX_COMMAND_DONE (R386, R389): the command's result, or Unsupported for an opcode the module does not support. -/
def execMbxCommandDone (k : BoxIx) (s : State) : Host.Outcome State Fault Refusal :=
  done (s.begin.whenMgmt fun s =>
    let b := s.box k.val
    if s.clk.mgmtStopped || s.get (Fld.MBX_BOX_STATE_STATE k.val) != 1 then s
    else match b.pendingResult with
      | some r => s.boxDone k.val r
      | none => if supportedOpcodes.contains b.opcode then s else s.boxDone k.val ⟨.unsupported, []⟩)

/-- A box returns to IDLE (R389): a command that is running completes inside the module. -/
def State.boxIdle (s : State) (k : Nat) : State :=
  let b := s.box k
  let run := s.get (Fld.MBX_BOX_STATE_STATE k) == 1 && b.pendingResult.isNone
  let s := s.modBox k fun b => { b.toIdle with orphan := if run then some (b.opcode, b.payload, b.fm) else b.orphan }
  (s.put (Fld.MBX_BOX_STATE_STATE k) 0).clearVcsMsix k

/-- MBX_BOX_RESET (R389): it applies while its cause holds. -/
def execMbxBoxReset (k : BoxIx) (cause : BoxReset) (s : State) : Host.Outcome State Fault Refusal :=
  done (s.begin.whenMgmt fun s =>
    let k := k.val
    match cause with
    | .fabricReset => if s.clk.fabricHeld then (s.boxIdle k).put (Fld.MBX_BOX_SEQ_RESULT_SEQ k) 0 else s
    | .flr => if k < 64 && s.vcsReached k then s.boxIdle k else s
    | .linkDown => if k < 64 && s.live 0x60 && s.vcsEnabled k && !s.vcsReached k then s.boxIdle k else s
    | .vcsDisabled => if k < 64 && s.live 0x60 && !s.vcsEnabled k then s.boxIdle k else s)

/-- A write of MBX_CFG (R385): from a keeper core or the board; accepted commands keep the old designation. -/
def State.writeMbxCfg (s : State) (m : Master) (v : Nat) : State :=
  if !m.keeperOrBoard || s.locked 6 then s
  else
    let old := s.word Addr.MBX_CFG
    let s := s.puts [(Fld.MBX_CFG_FM_EN, v), (Fld.MBX_CFG_FM_VCS, v / 2)]
    s.raiseIf (s.word Addr.MBX_CFG != old) Evt.MBX_FM_CHANGED

/-- MBX_CFG_WRITE (R385). -/
def execMbxCfgWrite (m : Master) (value : Word) (s : State) : Host.Outcome State Fault Refusal := done (s.begin.guard m 6 fun s => s.writeMbxCfg m value.toNat)

/-! ### Infrastructure (R386) -/

/-- A value the manual leaves open, as the result of a command. -/
def State.answerFree (s : State) (k : Nat) (known : List Nat) : State := (s.answerBox k .success (known ++ [s.free])).used

/-- Number of a return code in a result. (log 62, DESIGN CHOICE) -/
def RetCode.num : RetCode → Nat
  | .success => 0 | .background => 1 | .invalidInput => 2 | .unsupported => 3 | .busy => 4 | .aborted => 5 | .other => 6

/-- IDENTIFY: vendor and device (R447), the payload size (R383); the standard's other fields are open. -/
def execIdentify (k : BoxIx) (s : State) : Host.Outcome State Fault Refusal :=
  done (s.begin.command k.val Opc.identify .g fun s => s.answerFree k.val [0x1F3D, 0xC256, 16])

/-- BACKGROUND_OPERATION_STATUS (R391): whether one runs, and the code of the last that ended. -/
def execBackgroundOperationStatus (k : BoxIx) (s : State) : Host.Outcome State Fault Refusal :=
  done (s.begin.report k.val Opc.bgStatus .g fun s => [s.get (Fld.MBX_BOX_STATE_BG k.val), (((s.box k.val).bgCode).map RetCode.num).getD 0])

def execGetResponseMessageLimit (k : BoxIx) (s : State) : Host.Outcome State Fault Refusal :=
  done (s.begin.report k.val Opc.getLimit .g fun s => [(s.box k.val).limit])

/-- SET_RESPONSE_MESSAGE_LIMIT (R119): `limit` in bytes. -/
def execSetResponseMessageLimit (k : BoxIx) (limit : Nat) (s : State) : Host.Outcome State Fault Refusal :=
  done (s.begin.command k.val Opc.setLimit .g fun s =>
    if 256 ≤ limit ∧ limit ≤ 65536 then (s.modBox k.val fun b => { b with limit := limit }).answerBox k.val .success else s.answerBox k.val .invalidInput)

/-- The slot a transfer writes becomes invalid, or valid, as BOOT_SLOTS shows it (R84). -/
def validField (fixon slot : Bool) : Field := ⟨Addr.BOOT_SLOTS, 4 + 2 * bit fixon + bit slot, 1⟩

/-- A slot of the NV store is made invalid. -/
def State.dropSlot (s : State) (fixon slot : Bool) : State :=
  let n := s.nv
  let n := match fixon, slot with
    | true, false => { n with fixA := { n.fixA with bad := true } }
    | true, true => { n with fixB := { n.fixB with bad := true } }
    | false, false => { n with fwA := none }
    | false, true => { n with fwB := none }
  { s with nv := n }.put (validField fixon slot) 0

/-- A transfer ends without a valid image. -/
def State.endTransfer (s : State) (t : Transfer) (code : RetCode) : State :=
  (({ s with mbx := { s.mbx with transfer := none } }.dropSlot t.fixon t.slot).bgEnd t.box code)

/-- REQUEST_ABORT_BACKGROUND_OP (R391). (log 66, DEDUCED) -/
def execRequestAbortBackgroundOp (k : BoxIx) (s : State) : Host.Outcome State Fault Refusal :=
  done (s.begin.command k.val Opc.abort .g fun s =>
    match s.mbx.transfer with
    | some t =>
      if t.box = k.val then (s.endTransfer t .aborted).answerBox k.val .success
      else s.answerBox k.val (if s.flag (Fld.MBX_BOX_STATE_BG k.val) then .unsupported else .success)
    | none => s.answerBox k.val (if s.flag (Fld.MBX_BOX_STATE_BG k.val) then .unsupported else .success))

/-! ### Events (R386) -/

def FmEventKind.num : FmEventKind → Nat
  | .fault => 0 | .portUp => 1 | .portDown => 2 | .hotAdd => 3 | .hotRemove => 4 | .surpriseDown => 5 | .vppb => 6 | .hiveDown => 7

/-- An event record: what happened, where, when, and the log entry of a module error (R359). -/
def FmEvent.values (e : FmEvent) : List Nat :=
  [e.kind.num, e.port, e.item, e.time] ++ (match e.entry with | some x => bytesOfWords x.toWords | none => [])

/-- GET_EVENT_RECORDS: a box without fabric-manager permission reads an empty log. -/
def execGetEventRecords (k : BoxIx) (s : State) : Host.Outcome State Fault Refusal :=
  done (s.begin.report k.val Opc.getEvents .g fun s => if (s.box k.val).fm then s.mbx.events.flatMap FmEvent.values else [])

/-- CLEAR_EVENT_RECORDS: the oldest `count` records, or all of them. -/
def execClearEventRecords (k : BoxIx) (all : Bool) (count : Nat) (s : State) : Host.Outcome State Fault Refusal :=
  done (s.begin.command k.val Opc.clearEvents .g fun s =>
    let s := if (s.box k.val).fm then { s with mbx := { s.mbx with events := if all then [] else s.mbx.events.drop count } } else s
    s.answerBox k.val .success)

def execGetEventInterruptPolicy (k : BoxIx) (s : State) : Host.Outcome State Fault Refusal :=
  done (s.begin.report k.val Opc.getEventPolicy .g fun s => [(s.box k.val).eventVector])

/-- SET_EVENT_INTERRUPT_POLICY (R383): vectors 1 to 15. -/
def execSetEventInterruptPolicy (k : BoxIx) (vector : Nat) (s : State) : Host.Outcome State Fault Refusal :=
  done (s.begin.command k.val Opc.setEventPolicy .g fun s =>
    if 1 ≤ vector ∧ vector ≤ 15 then (s.modBox k.val fun b => { b with eventVector := vector }).answerBox k.val .success else s.answerBox k.val .invalidInput)

/-! ### Firmware (R386, R402) -/

/-- GET_FW_INFO: slots, the running slot, the slot pending activation (0 none, 1 A, 2 B), and the versions of the images that verify. -/
def execGetFwInfo (k : BoxIx) (s : State) : Host.Outcome State Fault Refusal :=
  done (s.begin.report k.val Opc.getFwInfo .g fun s =>
    [2, s.get Fld.BOOT_SLOTS_FW_SLOT, (match s.nv.fwPending with | none => 0 | some b => 1 + bit b),
     ((s.fwSlot false).map (·.version)).getD 0, ((s.fwSlot true).map (·.version)).getD 0])

/-- The slot the running firmware, or the applied Fixon image, lies in: it cannot be written (R387). -/
def State.slotInUse (s : State) (fixon slot : Bool) : Bool :=
  if fixon then (match s.boot.applying with
    | some (b, _) => b == slot
    | none => decide (5 < s.get Fld.BOOT_STATUS_STAGE) && s.flag Fld.BOOT_SLOTS_FIXON_SLOT == slot)
  else s.boot.fwRunning && s.flag Fld.BOOT_SLOTS_FW_SLOT == slot

/-- A transfer starts: refused for a slot in use, Busy while any transfer or the box's own background operation runs (R387, R391). (log 64, DEDUCED) -/
def State.startTransfer (s : State) (k : Nat) (fixon slot : Bool) : State :=
  if s.slotInUse fixon slot then s.answerBox k .invalidInput
  else if s.mbx.transfer.isSome || s.flag (Fld.MBX_BOX_STATE_BG k) then s.answerBox k .busy
  else (({ s with mbx := { s.mbx with transfer := some ⟨k, fixon, slot⟩ } }.dropSlot fixon slot).nvWrote (8 + 2 * bit (!fixon) + bit slot)).bgStart k

/-- The transfer box k runs into a slot, or the code with which another part completes. -/
def State.ownTransfer (s : State) (k : Nat) (fixon slot : Bool) : Except RetCode Transfer :=
  match s.mbx.transfer with
  | none => .error .invalidInput
  | some t => if t.box ≠ k then .error .busy else if t.fixon = fixon ∧ t.slot = slot then .ok t else .error .invalidInput

/-- The last part of a firmware transfer (R402): the image verifies and its SVN is not below the counter, or the slot is left invalid. -/
def State.finishFw (s : State) (t : Transfer) (img : SignedImage) : State :=
  if img.fwOk s then
    let s := { s with nv := (if t.slot then { s.nv with fwB := some img } else { s.nv with fwA := some img }), mbx := { s.mbx with transfer := none } }
    (s.put (validField false t.slot) 1).bgEnd t.box .success
  else s.endTransfer t .invalidInput

/-- TRANSFER_FW: `img` is the whole image with its last part. -/
def execTransferFw (k : BoxIx) (action : XferAct) (slot : Bool) (img : SignedImage) (s : State) : Host.Outcome State Fault Refusal :=
  done (s.begin.command k.val Opc.transferFw .b fun s =>
    let k := k.val
    match action with
    | .start => s.startTransfer k false slot
    | .full =>
      let s := s.startTransfer k false slot
      (match s.ownTransfer k false slot with
        | .ok t => if ((s.box k).pendingResult.map (·.code)) = some .background then s.finishFw t img else s
        | .error _ => s)
    | .continue => s.answerBox k (match s.ownTransfer k false slot with | .ok _ => .success | .error c => c)
    | .finish => (match s.ownTransfer k false slot with
        | .ok t => (s.finishFw t img).answerBox k (if img.fwOk s then .success else .invalidInput)
        | .error c => s.answerBox k c)
    | .abort => (match s.ownTransfer k false slot with
        | .ok t => (s.endTransfer t .aborted).answerBox k .success
        | .error c => s.answerBox k c))

/-- ACTIVATE_FW (R374, R386): at the next reset only, of a slot that holds an image that verifies. (log 65, DEDUCED) -/
def execActivateFw (k : BoxIx) (atReset : Bool) (slot : Bool) (s : State) : Host.Outcome State Fault Refusal :=
  done (s.begin.command k.val Opc.activateFw .b fun s =>
    if atReset && (s.fwSlot slot).isSome then ({ s with nv := { s.nv with fwPending := some slot } }.nvWrote 2).answerBox k.val .success
    else s.answerBox k.val .invalidInput)

/-! ### Timestamps and logs (R386) -/

/-- Log 73, DEDUCED. -/
def execGetTimestamp (k : BoxIx) (s : State) : Host.Outcome State Fault Refusal :=
  done (s.begin.report k.val Opc.getTimestamp .g fun s => [(s.now + s.mbx.tsOffset) % 2 ^ 64])

/-- SET_TIMESTAMP: the offset that makes the timestamp `time` now; the time base never changes. -/
def execSetTimestamp (k : BoxIx) (time : Word64) (s : State) : Host.Outcome State Fault Refusal :=
  done (s.begin.command k.val Opc.setTimestamp .b fun s =>
    { s with mbx := { s.mbx with tsOffset := (time.toNat + 2 ^ 64 - s.now) % 2 ^ 64 } }.answerBox k.val .success)

/-- GET_SUPPORTED_LOGS: one log, the Command Effects Log, which has an entry for each opcode. -/
def execGetSupportedLogs (k : BoxIx) (s : State) : Host.Outcome State Fault Refusal :=
  done (s.begin.report k.val Opc.getLogs .g fun _ => [1, supportedOpcodes.length])

/-- GET_LOG: the Command Effects Log only; the effects words are the standard's. (log 71, DEDUCED) -/
def execGetLog (k : BoxIx) (effects : Bool) (s : State) : Host.Outcome State Fault Refusal :=
  done (s.begin.command k.val Opc.getLog .g fun s => if effects then s.answerBox k.val .success supportedOpcodes else s.answerBox k.val .unsupported)

/-! ### Fabric Manager API (R119) -/

/-- IDENTIFY_SWITCH_DEVICE: ports and VCSs, which ports are present and configured, vPPBs and those bound. -/
def execIdentifySwitchDevice (k : BoxIx) (s : State) : Host.Outcome State Fault Refusal :=
  done (s.begin.report k.val Opc.identifySwitch .f fun s =>
    let up := s.live 0x60
    [64, 64, bitVecOf 64 fun p => up && s.present p, bitVecOf 64 fun p => up && s.portEn p, 4096,
     if up then ((List.range 4096).filter fun n => s.vppbState n == 1).length else 0])

/-- GET_PHYSICAL_PORT_STATE: of each port named, PORT_CFG and PORT_STATUS as they read. -/
def execGetPhysicalPortState (k : BoxIx) (ports : List Port) (s : State) : Host.Outcome State Fault Refusal :=
  done (s.begin.report k.val Opc.portState .f fun s =>
    ports.flatMap fun p => [p.val, s.readReg .board (Addr.PORT_CFG p.val), s.readReg .board (Addr.PORT_STATUS p.val)])

/-- PHYSICAL_PORT_CONTROL (R133): a retrain, absorbed by a Recovery in progress; a reset of the link; the module drives no PERST of a partner. (log 68, DEDUCED) -/
def execPhysicalPortControl (k : BoxIx) (p : Port) (op : PortControl) (s : State) : Host.Outcome State Fault Refusal :=
  done (s.begin.command k.val Opc.portControl .f fun s =>
    let s0 := s
    let p := p.val
    if !s.live 0x10 || !s.present p then s.answerBox k.val .invalidInput
    else match op with
      | .retrain => ((s.retrain p).mirror s0).answerBox k.val .success
      | .reset =>
        let l := s.get (Fld.PORT_STATUS_LINK p)
        let s := if 5 ≤ l ∧ l ≤ 8 then (((s.portLost p).portStops p).put (Fld.PORT_STATUS_LINK p) 2).modPort p fun x => { x with first := false, reached := false } else s
        (s.mirror s0).answerBox k.val .success
      | .perst => s.answerBox k.val .unsupported)

/-- A request the module passes to the partner of a port: a configuration or memory request of its own, whose answer's data are the partner's. (log 69, DESIGN CHOICE) -/
def State.passRequest (s : State) (k p : Nat) (m : Msg) (read : Bool) : State :=
  if !s.live 0x10 || !s.linkUp p then s.answerBox k .invalidInput
  else
    let s := s.emit (.tx p { m with dst := p })
    if read then s.answerFree k [] else s.answerBox k .success

/-- SEND_PPB_CONFIG_REQUEST: a read, or a write of a word, of the partner's configuration space. -/
def execSendPpbConfigRequest (k : BoxIx) (p : Port) (reg : BitVec 12) (write : Option Word) (s : State) : Host.Outcome State Fault Refusal :=
  done (s.begin.command k.val Opc.ppbConfig .f fun s =>
    s.passRequest k.val p.val
      { kind := .cfgReq, addr := reg.toNat, data := (match write with | some w => (wordBytes w.toNat).map (BitVec.ofNat 8) | none => []) } write.isNone)

/-- GET_VIRTUAL_SWITCH_INFO: of one VCS its state, its USP, its vPPBs, and of each vPPB its state and binding. -/
def execGetVirtualSwitchInfo (k : BoxIx) (v : Vcs) (s : State) : Host.Outcome State Fault Refusal :=
  done (s.begin.command k.val Opc.vcsInfo .f fun s =>
    let v := v.val
    if !s.live 0x60 || !s.vcsEnabled v then s.answerBox k.val .invalidInput
    else
      s.answerBox k.val .success ([s.vcsState v, s.get (Fld.VCS_ENTRY_CFG_USP v), s.vppbCount v] ++
        (List.range (s.vppbCount v)).flatMap fun i =>
          let n := s.vppbOf v i
          [s.vppbState n, (s.word (Addr.VPPB_TARGET n)).toNat]))

/-- GENERATE_AER_EVENT: an AER error on a vPPB of an enabled VCS. -/
def execGenerateAerEvent (k : BoxIx) (v : Vcs) (i code : Nat) (s : State) : Host.Outcome State Fault Refusal :=
  done (s.begin.command k.val Opc.aer .f fun s =>
    if s.live 0x60 && s.vcsEnabled v.val && decide (i < s.vppbCount v.val) then (s.emit (.aer (s.vppbOf v.val i) code)).answerBox k.val .success
    else s.answerBox k.val .invalidInput)

/-- TUNNEL_MANAGEMENT_COMMAND (R119, R149, R157): a command that may be tunneled is passed unchanged, and `response` is the device's; Set LD Allocations, whose first payload byte
is the number of LDs, by R149; any other is Unsupported. -/
def execTunnelManagementCommand (k : BoxIx) (p : Port) (request response : List Byte) (s : State) : Host.Outcome State Fault Refusal :=
  done (s.begin.command k.val Opc.tunnel .f fun s =>
    if !tunneledOpcodes.contains (tunneledOpcode request) then s.answerBox k.val .unsupported
    else if tunneledOpcode request == 0x5402 then s.tunnelLds k.val p.val (min 16 (request.getD 12 0).toNat) request response
    else if s.live 0x10 && s.linkUp p.val then (s.emit (.tunnel p.val request)).answerBox k.val .success (response.map (·.toNat)) else s.answerBox k.val .invalidInput)

/-- An LD of the MLD on a port. -/
def State.ldKnown (s : State) (p ld : Nat) : Bool := s.isMld p && s.flag (Fld.LD_STATE_PRESENT (16 * p + ld))

/-- SEND_LD_CONFIG_REQUEST. -/
def execSendLdConfigRequest (k : BoxIx) (p : Port) (ld : Ld) (reg : BitVec 12) (write : Option Word) (s : State) : Host.Outcome State Fault Refusal :=
  done (s.begin.command k.val Opc.ldConfig .f fun s =>
    if !s.live 0x60 || !s.ldKnown p.val ld.val then s.answerBox k.val .invalidInput
    else s.passRequest k.val p.val
      { kind := .cfgReq, ld := ld.val, addr := reg.toNat, data := (match write with | some w => (wordBytes w.toNat).map (BitVec.ofNat 8) | none => []) } write.isNone)

/-- SEND_LD_MEMORY_REQUEST: a read of `len` bytes, or a write. -/
def execSendLdMemoryRequest (k : BoxIx) (p : Port) (ld : Ld) (addr len : Nat) (write : Option (List Byte)) (s : State) : Host.Outcome State Fault Refusal :=
  done (s.begin.command k.val Opc.ldMemory .f fun s =>
    if !s.live 0x60 || !s.ldKnown p.val ld.val then s.answerBox k.val .invalidInput
    else s.passRequest k.val p.val
      { kind := if write.isSome then .ioPosted else .ioNp, ld := ld.val, addr := addr, rdLen := len, data := write.getD [] } write.isNone)

/-! ### Vendor commands (R387, R388) -/

/-- n little-endian bytes of the box's payload from an offset; a byte not sent is 0. -/
def Box.arg (b : Box) (off n : Nat) : Nat := ((List.range n).map fun i => 256 ^ i * ((b.payload.getD (off + i) 0).toNat)).sum

/-- GET_MODULE_STATE (0xC000). -/
def execGetModuleState (k : BoxIx) (s : State) : Host.Outcome State Fault Refusal :=
  done (s.begin.report k.val Opc.moduleState .g fun s =>
    bytesOfWords ([Addr.BOOT_STATUS, Addr.BOOT_SLOTS, Addr.TDM_ROLE, Addr.CLK_STRAPS, Addr.DEV_FW_VER].map fun a => s.readReg .board a))

/-- GET_DIRTY_LOG_INFO (0xC010). -/
def execGetDirtyLogInfo (k : BoxIx) (s : State) : Host.Outcome State Fault Refusal :=
  let n := ((s.box k.val).arg 0 1)
  done (s.begin.command k.val Opc.dlogInfo (.l (n % 64)) fun s =>
    if n < 64 then
      s.answerBox k.val .success (bytesOfWords ([Addr.LOG_CFG n, Addr.LOG_LINES n, Addr.LOG_STATUS n, Addr.DLOG_HSTATUS].map fun a => s.readReg .board a))
    else s.answerBox k.val .invalidInput)

/-- HARVEST_AND_CLEAR_DIRTY_LOG (0xC011, R388): checked before the engine starts. (log 70, DEDUCED) -/
def execHarvestAndClearDirtyLog (k : BoxIx) (s : State) : Host.Outcome State Fault Refusal :=
  let n := (s.box k.val).arg 0 1
  let count := (s.box k.val).arg 1 1 + 1
  let first := (s.box k.val).arg 4 4
  done (s.begin.command k.val Opc.harvest (.l (n % 64)) fun s =>
    if !s.live 0x91 || 64 ≤ n || 64 < count || s.get (Fld.LOG_LINES_LINES n) < first + count || (s.box k.val).limit < 8 + 64 * count then
      s.answerBox k.val .invalidInput
    else if s.fab.dlog.harvest.isSome then s.answerBox k.val .busy
    else
      let s := (s.startHarvest n first count).endHarvest
      s.answerBox k.val .success ([s.get Fld.DLOG_HSTATUS_SEQ, count] ++ (tabulate 2 fun i => s.get Fld.DLOG_HDIRTY_PAGES / 256 ^ i % 256) ++ bytesOfWords [first] ++
        bytesOfWords (tabulate (16 * count) fun i => (s.word (Addr.DLOG_HBUF i)).toNat)))

/-- GET_FAULT_LOG (0xC020): entries from the first SEQ still held. -/
def execGetFaultLog (k : BoxIx) (s : State) : Host.Outcome State Fault Refusal :=
  done (s.begin.command k.val Opc.faultLog .fb fun s =>
    let first := (s.box k.val).arg 0 4
    let count := (s.box k.val).arg 4 1
    if count = 0 ∨ 64 < count then s.answerBox k.val .invalidInput
    else
      let l := ((s.flt.log.filter fun e => decide (first ≤ e.seq)).reverse).take count
      s.answerBox k.val .success (bytesOfWords [l.length] ++ l.flatMap fun e => bytesOfWords e.toWords))

/-- GET_FAIL_STOP_RECORD (0xC021): the record as FLT_REC shows it, zeros where the ring holds none. (log 67, DEDUCED) -/
def execGetFailStopRecord (k : BoxIx) (s : State) : Host.Outcome State Fault Refusal :=
  done (s.begin.command k.val Opc.failRecord .fb fun s =>
    let i := (s.box k.val).arg 0 1
    if 16 ≤ i then s.answerBox k.val .invalidInput
    else s.answerBox k.val .success (bytesOfWords (match s.nv.records[i]? with | some r => r.toWords | none => tabulate 256 fun _ => 0)))

/-- ACKNOWLEDGE_FAULT_LOG (0xC022): box 64 writes FLT_BOARD_ACK. -/
def execAcknowledgeFaultLog (k : BoxIx) (s : State) : Host.Outcome State Fault Refusal :=
  done (s.begin.command k.val Opc.ackLog .board fun s => (s.writeBoardAck .board ((s.box k.val).arg 0 4)).answerBox k.val .success)

/-- TDM_CMD would act on this value (R327, R332, R305). -/
def State.tdmCmdActs (s : State) (c : Nat) : Bool :=
  s.live 0xA0 && match c with
    | 1 => s.role == 3 || s.role == 5
    | 2 => s.role == 6
    | 3 => s.get Fld.TDM_LINK_STATE == 3
    | 4 => s.issues
    | _ => false

/-- A command of the policy partition needs its page granted (R375). (log 59, DEDUCED) -/
def State.boxGranted (s : State) (k pg : Nat) : Bool := k != 66 || s.keeper.grant.contains pg

/-- PAIR_COMMAND (0xC030): exactly a write of TDM_CMD, whose page is never granted. -/
def execPairCommand (k : BoxIx) (s : State) : Host.Outcome State Fault Refusal :=
  done (s.begin.command k.val Opc.pairCmd .f fun s0 =>
    let c := (s0.box k.val).arg 0 1
    if !s0.boxGranted k.val 0xA0 then s0.answerBox k.val .unsupported
    else if s0.tdmCmdActs c then ((s0.writeTdmCmd .board c).mirror s0).answerBox k.val .success
    else s0.answerBox k.val .invalidInput)

/-- HIVE_CONTROL (0xC031): exactly a write of DOWN or RECOVERED; a passive module ignores it (R309). -/
def execHiveControl (k : BoxIx) (s : State) : Host.Outcome State Fault Refusal :=
  done (s.begin.command k.val Opc.hiveCtl .f fun s0 =>
    let h := (s0.box k.val).arg 0 1
    let op := (s0.box k.val).arg 1 1
    let acts := s0.live 0x70 && s0.isActive && decide (h < 16) &&
      ((op == 1 && s0.hiveServes h) || (op == 2 && s0.hiveState h == 3 && s0.flag (Fld.HIVE_STATUS_TAIL h)))
    if !s0.boxGranted k.val 0x70 then s0.answerBox k.val .unsupported
    else if acts then ((s0.writeHiveCtl h (s0.get (Fld.HIVE_CTL_EN h) + 2 * op)).mirror s0).answerBox k.val .success
    else s0.answerBox k.val .invalidInput)

/-! ### Fixon transfers (R387) -/

/-- Data of a part go into the slot. -/
def State.putFixon (s : State) (slot : Bool) (off : Nat) (data : List Byte) : State :=
  let put := fun (f : FixonSlot) =>
    { f with data := (List.range data.length).foldl (fun d i => sparsePut (fun _ => (0 : Byte)) d (off + i) (data.getD i 0)) f.data }
  { s with nv := (if slot then { s.nv with fixB := put s.nv.fixB } else { s.nv with fixA := put s.nv.fixA }) }

/-- The part's data and whether it lies within the slot. -/
def Box.part (b : Box) : Nat × List Byte × Bool :=
  let d := b.payload.drop 8
  (b.arg 4 4, d, decide (b.arg 4 4 + d.length ≤ 8 * 2 ^ 20))

/-- One part of Transfer Fixon Image with the action of its row. -/
def State.fixonPart (s : State) (k action : Nat) (f : State → Box → Bool → State) : State :=
  s.command k Opc.fixonXfer .b fun s =>
    let b := s.box k
    if b.arg 0 1 ≠ action then s
    else if 2 ≤ b.arg 1 1 || (action ≤ 2 && !b.part.2.2) then s.answerBox k .invalidInput
    else f s b (b.arg 1 1 == 1)

/-- FIXON_XFER_START: the slot is erased and the part's data written. -/
def execFixonXferStart (k : BoxIx) (s : State) : Host.Outcome State Fault Refusal :=
  done (s.begin.fixonPart k.val 1 fun s b slot =>
    let s := s.startTransfer k.val true slot
    match s.ownTransfer k.val true slot with
    | .ok _ =>
      if ((s.box k.val).pendingResult.map (·.code)) = some .background then
        let s := { s with nv := (if slot then { s.nv with fixB := ⟨[], true⟩ } else { s.nv with fixA := ⟨[], true⟩ }) }
        s.putFixon slot b.part.1 b.part.2.1
      else s
    | .error _ => s)

/-- FIXON_XFER_CONTINUE. -/
def execFixonXferContinue (k : BoxIx) (s : State) : Host.Outcome State Fault Refusal :=
  done (s.begin.fixonPart k.val 2 fun s b slot =>
    match s.ownTransfer k.val true slot with
    | .ok _ => ((s.putFixon slot b.part.1 b.part.2.1).nvWrote (8 + bit slot)).answerBox k.val .success
    | .error c => s.answerBox k.val c)

/-- FIXON_XFER_END: the slot is validated (R79). -/
def execFixonXferEnd (k : BoxIx) (s : State) : Host.Outcome State Fault Refusal :=
  done (s.begin.fixonPart k.val 3 fun s _ slot =>
    match s.ownTransfer k.val true slot with
    | .ok t =>
      let s' := { s with nv := (if slot then { s.nv with fixB := { s.nv.fixB with bad := false } } else { s.nv with fixA := { s.nv.fixA with bad := false } }),
                         mbx := { s.mbx with transfer := none } }
      if s'.fixonValid slot then ((s'.put (validField true slot) 1).bgEnd k.val .success).answerBox k.val .success
      else (s.endTransfer t .invalidInput).answerBox k.val .invalidInput
    | .error c => s.answerBox k.val c)

/-- FIXON_XFER_ABORT. -/
def execFixonXferAbort (k : BoxIx) (s : State) : Host.Outcome State Fault Refusal :=
  done (s.begin.fixonPart k.val 4 fun s _ slot =>
    match s.ownTransfer k.val true slot with
    | .ok t => (s.endTransfer t .aborted).answerBox k.val .success
    | .error c => s.answerBox k.val c)

/-- GET_FIXON_SLOTS (0xC041). -/
def execGetFixonSlots (k : BoxIx) (s : State) : Host.Outcome State Fault Refusal :=
  done (s.begin.report k.val Opc.fixonSlots .fb fun s =>
    let gen := fun b => if s.fixonValid b then (s.fixSlot b).generation else 0
    bytesOfWords [s.readReg .board Addr.BOOT_SLOTS, s.readReg .board Addr.BOOT_FIXON_GEN, gen false, gen true])

end Sys2Proof.Machine
end

