-- ==== Sys2Proof/Machine/Regs.lean ====
section
/-! DEFINITION. Sys2Proof/Machine/Regs.lean: software writes of the register space by the register map (R4 to R9, R431 to R446): what every writable register accepts and does, the
pairs of R7, locks, event registers, MCTP register access messages, and the parameter block of the NV store (R449). -/
namespace Sys2Proof.Machine
open Sys2Proof

/-! ### Event registers (R441) -/

/-- EVT_PEND_SET: a 1 sets the bit exactly as a raised event would; bits outside PAGE_EVT_MASK ignore writes. -/
def State.writePend (s : State) (pg v : Nat) : State := s.setEvents pg v

/-- EVT_PEND_CLR: a 1 clears the bit. -/
def State.clearPend (s : State) (pg v : Nat) : State :=
  (s.setWord (evtPendAddr pg) (s.word (evtPendAddr pg) &&& ~~~ BitVec.ofNat 32 v)).dropLevels

/-- EVT_EN_SET: a 1 enables the bit. -/
def State.writeEn (s : State) (pg v : Nat) : State :=
  s.setWord (evtEnAddr pg) (s.word (evtEnAddr pg) ||| BitVec.ofNat 32 (v &&& pageEvtMask pg))

/-- EVT_EN_CLR: a 1 disables the bit. -/
def State.clearEn (s : State) (pg v : Nat) : State :=
  (s.setWord (evtEnAddr pg) (s.word (evtEnAddr pg) &&& ~~~ BitVec.ofNat 32 v)).dropLevels

/-- A write in the common header of a page (R438). -/
def State.writeHeader (s : State) (pg o v : Nat) : State :=
  match o with
  | 0x44 => s.writePend pg v
  | 0x48 => s.clearPend pg v
  | 0x54 => s.writeEn pg v
  | 0x58 => s.clearEn pg v
  | 0x98 => s.writeErrAck pg v
  | _ => s

/-- Run an event-register write of a page with the common header. -/
def State.eventWrite (s : State) (m : Master) (pg : Nat) (f : State → State) : State :=
  s.begin.guard m pg fun s =>
    match blockOf pg with
    | some (b, _) => if hasHeader b then f s else s
    | none => s

/-! ### Locks (R444, R446) -/

/-- A LOCK write to every present lockable page that is out of reset, in ascending order. (log 30, DEDUCED) -/
def State.lockAll (s : State) : State := (lockPages.filter s.live).foldl (fun s pg => s.setWord (pg * 0x10000 + 0x10FC) 1) s

/-- A write of DEV_LOCK_ALL (R446): 0xC5 by a keeper core or the board. -/
def State.writeLockAll (s : State) (m : Master) (v : Nat) : State := if m.keeperOrBoard && v % 256 == 0xC5 then s.lockAll else s

/-! ### The parameter block (R449, R450) -/

/-- The words 0 to 13 a commit writes: reserved bits 0. -/
def paramWords (w : List Nat) : List Nat :=
  [nth w 0, nth w 1 &&& 0x0007FF7F, nth w 2 &&& 0xFF03FFFF, nth w 3, nth w 4 &&& 0xFFFF, nth w 5 &&& 0xFFFF, 0, 0, 0, 0, 0, 0, 0, 0]

/-- A value lies in a range. -/
def within (lo hi v : Nat) : Bool := decide (lo ≤ v) && decide (v ≤ hi)

/-- MAGIC matches and every field lies in the range its field map gives (R51 to R53). -/
def paramsOk (w : List Nat) : Bool :=
  nth w 0 == 0x3150564E && within 1 100 (bitsOf (nth w 1) 0 7) && within 10 200 (bitsOf (nth w 1) 8 8) && within 0 3 (bitsOf (nth w 1) 16 3)
    && within 10 170 (bitsOf (nth w 2) 0 8) && within 1 255 (bitsOf (nth w 2) 8 8) && within 1 255 (bitsOf (nth w 2) 24 8)
    && within 5000 65535 (bitsOf (nth w 3) 16 16) && decide (bitsOf (nth w 3) 16 16 < bitsOf (nth w 3) 0 16) && within 61000 64000 (bitsOf (nth w 4) 0 16)

/-- The copy a commit writes: the one that is not the newer valid one. (log 31, DEDUCED) -/
def Nv.olderCopy (n : Nv) : Nat := match n.paramSelect with | some (0, _) => 1 | _ => 0

/-- Replace a copy of the block. -/
def Nv.setParam (n : Nv) (k : Nat) (p : ParamCopy) : Nv := if k = 0 then { n with param0 := p } else { n with param1 := p }

/-- GEN of the newer copy; 0 where no copy is valid. -/
def Nv.newerGen (n : Nv) : Nat := (n.paramSelect.map fun c => nth c.2 14).getD 0

/-- The block a commit writes, with GEN one above the newer copy and its CRC. -/
def Nv.newBlock (n : Nv) (w : List Nat) : List Nat :=
  let l := w ++ [(n.newerGen + 1) % 2 ^ 32]
  l ++ [crc32c (l.flatMap wordBytes)]

/-- A write of NVS_CMD (R449, R450): OP 1 with CONFIRM 0x5A, from a keeper core or the board, unless one runs. While a commit writes the older copy, that copy is invalid. -/
def State.writeNvsCmd (s : State) (m : Master) (v : Nat) : State :=
  if !m.keeperOrBoard || bitsOf v 24 8 != 0x5A || bitsOf v 0 4 != 1 || s.get Fld.NVS_CMD_STATUS_STATE == 1 then s
  else
    let w := tabulate 14 fun k => (s.word (Addr.NVS_PARAM k)).toNat
    let s := s.put Fld.NVS_CMD_STATUS_STATE 1
    if paramsOk (paramWords w) then
      let n := s.nv
      let p := if n.olderCopy = 0 then n.param0 else n.param1
      { s with nv := { n.setParam n.olderCopy { p with bad := true } with commit := some (some (paramWords w)) } }
    else { s with nv := { s.nv with commit := some none } }

/-- The commit ends (R449). -/
def State.endCommit (s : State) : State :=
  match s.nv.commit with
  | none => s
  | some none => (({ s with nv := { s.nv with commit := none } } : State).put Fld.NVS_CMD_STATUS_STATE 3).raise Evt.NVS_CMD_DONE
  | some (some w) =>
    let n := s.nv
    let k := n.olderCopy
    let s := ({ s with nv := { n.setParam k ⟨n.newBlock w, false⟩ with commit := none } } : State).nvWrote k
    (s.put Fld.NVS_CMD_STATUS_STATE 2).raise Evt.NVS_CMD_DONE

/-- A write of NVS_PARAM[k] (R450): words 14 and 15 ignore writes. -/
def State.writeParam (s : State) (m : Master) (k v : Nat) : State :=
  if m.keeperOrBoard && decide (k < 14) then s.put (Fld.NVS_PARAM_WORD k) v else s

/-! ### Register blocks: each takes the offset `o` from the block's first page, the register's offset `a` and the word offered `v` -/

/-- PWR (R51 to R53, R56). -/
def State.writePwr (s : State) (o a v : Nat) : State :=
  match o with
  | 0x1004 => (s.takeIn Fld.PWR_HS_CFG_ILIM v 10 170).takeIn Fld.PWR_HS_CFG_FAULT_TIME v 1 255
  | 0x100C => (((s.take Fld.PWR_FEED_CFG_PREF v).take Fld.PWR_FEED_CFG_REVERT_EN v).takeIn Fld.PWR_FEED_CFG_REVERT_DELAY v 1 255).preferNow s.preferred
  | 0x1010 => s.storeIf (decide (5000 ≤ bitsOf v 16 16) && decide (bitsOf v 16 16 < bitsOf v 0 16)) a v
  | 0x1014 => s.storeIf (within 61000 64000 (bitsOf v 0 16)) a v
  | _ => s.stored a v

/-- CLK (R62, R82). -/
def State.writeClk (s : State) (m : Master) (o a v : Nat) : State :=
  match o with
  | 0x1004 => s.writeRefCfg v
  | 0x1010 => s.writeClkReset m v
  | _ => s.stored a v

/-- Commit a pair whose words are plain storage: both words where the master holds the low one, else the high one alone (R7). -/
def State.commitPair (s : State) (lo : Option Word) (a v : Nat) : State :=
  match lo with
  | some l => (s.stored (a - 4) l.toNat).stored a v
  | none => s.stored a v

/-- TIME (R66, R83): TIME_SET keeps the low word last committed. -/
def State.writeTime (s : State) (lo : Option Word) (o a v : Nat) : State :=
  match o with
  | 0x100C =>
    let l := lo.getD (s.word Addr.TIME_SET_LO)
    (s.setWord Addr.TIME_SET_LO l).timeSet (l.toNat + 2 ^ 32 * v)
  | 0x1010 => (s.stored a v).updateFollow
  | _ => s.stored a v

/-- Lane pages (R108 to R111): LANE_CFG.PRECODE_REQ only on main lanes. (log 27, DEDUCED) -/
def State.writeLane (s : State) (i o a v : Nat) : State :=
  match o with
  | 0x1004 => if i < 256 then s.stored a v else s.take (Fld.LANE_CFG_ADAPT_FREEZE i) v
  | 0x1008 => s.writeFailCfg i v
  | 0x1018 => s.writeTxCfg i v
  | 0x1100 => s.writeTestCtl i v
  | 0x1200 => s.writeEyeCfg i v
  | 0x1204 => s.writeEyeCmd i v
  | _ => s.stored a v

/-- PORTG pages (R113 to R115, R135 to R137): an absent port ignores writes. -/
def State.writePortg (s : State) (k o a v : Nat) : State :=
  if o = 0x1000 then s.writeBifur k v
  else if 0x1100 ≤ o && o < 0x1500 then
    let p := 4 * k + (o - 0x1100) / 256
    if !s.present p then s
    else
      match (o - 0x1100) % 256 with
      | 0x00 => s.writePortCfg p v
      | 0x04 => s.writePortCtl p v
      | 0x10 => s.storeIf (decide (10 ≤ bitsOf v 20 10)) a v
      | 0x14 => s.writeDsxCmd p v
      | _ => s
  else s.stored a v

/-- A vPPB takes a new SUBID (R159): in UNBOUND or UNUSED, or as the upstream vPPB of a VCS whose USP link is down. -/
def State.subidFree (s : State) (n : Nat) : Bool :=
  let st := s.vppbState n
  st == 0 || st == 7 || (st == 4 && s.vcsState (s.get (Fld.VPPB_STATE_VCS n)) != 2)

/-- Binding tables (R159, R160). -/
def State.writeBind (s : State) (o a v : Nat) : State :=
  if o < 0x20000 then s.storeIf (o % 32 == 8 && s.subidFree (o / 32)) a v
  else if o < 0x21000 then
    let k := (o - 0x20000) / 64
    if o % 64 = 0 then s.writeVcs k v else if o % 64 = 4 then s.storeIf (!s.vcsEnabled k) a v else s
  else s

/-- VCS page (R163). -/
def State.writeVcsPage (s : State) (o a v : Nat) : State := if o = 0x1000 then s.takeIn Fld.VCS_CFG_QUAR v 1 1000 else s.stored a v

/-- XBAR (R188). -/
def State.writeXbar (s : State) (o a v : Nat) : State := if o = 0x1004 then s.put Fld.XBAR_PRIV_HWM 0 else s.stored a v

/-- A write of BUF_SVC_MIN[k] (R171). -/
def State.writeSvcMin (s : State) (k v : Nat) : State :=
  let x := bitsOf v 0 10
  let sum := ((List.range 8).map fun i => if i = k then x else s.get (Fld.BUF_SVC_MIN_MIN i)).sum
  if (List.range 64).any s.portEn || ((k = 4 || k = 5) && x < 3) || 1024 < sum then s else (s.put (Fld.BUF_SVC_MIN_MIN k) x).lowWater

/-- BUF (R171, R189). -/
def State.writeBuf (s : State) (o a v : Nat) : State :=
  if o = 0x100C then s.put Fld.BUF_LOW_WATER_CELLS s.sharedFree
  else if o = 0x1010 then s.takeIn Fld.BUF_RED_CFG_W v 0 12
  else if 0x1040 ≤ o && o < 0x1060 then s.writeSvcMin ((o - 0x1040) / 4) v
  else if 0x1100 ≤ o && o < 0x1160 then s.storeIf (decide (bitsOf v 0 12 < bitsOf v 12 12)) a v
  else if 0x8000 ≤ o && o < 0xC000 then s.storeIf ((List.range 8).all fun i => decide (bitsOf v (4 * i) 4 ≤ 9)) a v
  else s.stored a v

/-- SCHED tables (R211 to R213). -/
def State.writeSched (s : State) (lo : Option Word) (o a v : Nat) : State :=
  if o < 0x20000 then s.storeIf (bitsOf v 0 8 != 0) a v
  else if o < 0x60000 then
    let u := (o - 0x20000) / 64
    match o % 64 with
    | 0x0C => if h : u < 4096 then s.writeShaperCtl (.sub ⟨u, h⟩) v else s
    | 0x28 => s.writePolicerCtl u v
    | 0x04 | 0x14 | 0x1C => s.commitPair lo a v
    | _ => s.stored a v
  else if o < 0x70000 then s.storeIf (bitsOf v 0 8 != 0) a v
  else
    let p := (o - 0x70000) / 32
    if !s.present p then s
    else
      match o % 32 with
      | 0x0C => if h : p < 64 then s.writeShaperCtl (.port ⟨p, h⟩) v else s
      | 0x10 => s.storeIf (!within 0x80 0xDF (bitsOf v 0 8)) a v
      | 0x04 => s.commitPair lo a v
      | _ => s.stored a v

/-- HOME (R241 to R244). -/
def State.writeHome (s : State) (lo : Option Word) (o a v : Nat) : State :=
  if o = 0x1000 then
    let s := if bitsOf v 0 1 = 0 && (List.range 16).any (fun h => s.hiveState h != 0) then s else s.take Fld.HOME_CFG_EN v
    s.takeIn Fld.HOME_CFG_SWEEP_CONC v 1 255
  else if o = 0x100C then s.put Fld.HOME_CQ_HWM_HWM 0
  else if 0x2000 ≤ o && o < 0x2800 then
    let h := (o - 0x2000) / 128
    match o % 128 with
    | 0x00 => s.writeHiveCtl h v
    | 0x08 => s.storeIf (decide (bitsOf v 0 14 ≤ 10000)) a v
    | 0x0C => s.storeIf (within 1 1000000 (bitsOf v 0 20)) a v
    | _ => s.storeIf (s.hiveState h == 0) a v
  else if 0x4000 ≤ o && o < 0x8000 then
    let h := (o - 0x4000) / 1024
    let i := (o - 0x4000) / 16 % 64
    if o % 16 = 0 then s.writeHostCfg h i v else s.storeIf (o % 16 == 4 && s.slotState h i == 0) a v
  else if 0x8000 ≤ o then
    if s.hiveState ((o - 0x8000) / 2048) ≠ 0 then s
    else if o % 32 = 0x0C then s.commitPair lo a v
    else s.stored a v
  else s.stored a v

/-- DIRC (R245). -/
def State.writeDirc (s : State) (lo : Option Word) (o a v : Nat) : State :=
  if o = 0x100C then
    let s := match lo with
      | some l => s.put Fld.DIRC_QSEL_LO_SECTOR_LO l.toNat
      | none => s
    s.writeQselHi v
  else s.stored a v

/-- Every field of COMB_PART_CFG lies in its range (R270). -/
def partsOk (v : Nat) : Bool :=
  decide (bitsOf v 0 4 ≤ 8) && within 1 32 (bitsOf v 4 6) && within 2 32 (bitsOf v 10 6) && decide (bitsOf v 16 6 ≤ 16) && within 2 16 (bitsOf v 22 6)

/-- COMB (R270). -/
def State.writeComb (s : State) (o a v : Nat) : State :=
  match o with
  | 0x1004 => s.storeIf (partsOk v) a v
  | 0x1010 => (s.take Fld.COMB_SCRUB_CFG_EN v).takeIn Fld.COMB_SCRUB_CFG_PERIOD v 1 168
  | 0x1018 => s.takeIn Fld.COMB_ROW_CFG_ROW_THR v 1 255
  | _ => s.stored a v

/-- CARB (R271). -/
def State.writeCarb (s : State) (o a v : Nat) : State :=
  if 0x1040 ≤ o && o < 0x1064 then s.storeIf (bitsOf v 0 8 != 0) a v
  else if 0x1080 ≤ o && o < 0x10A4 then s.put (Fld.CARB_WAIT_MAX_CYCLES ((o - 0x1080) / 4)) 0
  else s.stored a v

/-- Any pool window, or pool-backed window of a hive, is enabled (R272). -/
def State.poolUsed (s : State) : Bool :=
  (List.range 64).any (fun n => s.flag (Fld.POOL_WIN_CFG_EN n)) || (List.range 1024).any fun w => s.flag (Fld.WIN_CFG_EN w) && s.flag (Fld.WIN_CFG_POOL w)

/-- POOL (R269, R272). -/
def State.writePool (s : State) (o a v : Nat) : State :=
  if o = 0x1000 then s.storeIf (bitsOf v 0 1 == 1 || !s.poolUsed) a v
  else if 0x2000 ≤ o && o < 0x2400 then
    let n := (o - 0x2000) / 16
    if o % 16 = 0 then s.writePoolWin n v else s.storeIf (!s.flag (Fld.POOL_WIN_CFG_EN n)) a v
  else s.stored a v

/-- HAT (R281, R300). -/
def State.writeHat (s : State) (o a v : Nat) : State :=
  if o = 0x1000 then (if bitsOf v 0 1 = 1 then s.commitRules else s) else s.stored a v

/-- Rule entries (R280, R301). -/
def State.writeRuleWord (s : State) (lo : Option Word) (o v : Nat) : State :=
  let n := o / 64
  match o % 64 with
  | 0x00 => s.writeRule n (.ctl (BitVec.ofNat 32 v))
  | 0x08 =>
    let l := lo.getD (s.word (Addr.RULE_BASE_LO n))
    s.writeRule n (.base (BitVec.ofNat 64 (l.toNat + 2 ^ 32 * v)))
  | 0x10 => s.writeRule n (.own 0 (BitVec.ofNat 32 v))
  | 0x14 => s.writeRule n (.own 1 (BitVec.ofNat 32 v))
  | 0x18 => s.writeRule n (.own 2 (BitVec.ofNat 32 v))
  | 0x1C => s.writeRule n (.own 3 (BitVec.ofNat 32 v))
  | _ => s

/-- MOVER (R287, R302), but for the channel blocks. -/
def State.writeMover (s : State) (o a v : Nat) : State :=
  if o = 0x1000 then s.storeIf (bitsOf v 0 1 == 1 || (List.range 64).all fun c => s.chState c == 0) a v
  else if 0x4000 ≤ o && o < 0x5000 then
    let k := (o - 0x4000) / 16
    if o % 16 = 0 then s.writeVfCfg k v else s.storeIf (!s.vfHeld k) a v
  else s.stored a v

/-- DLOG (R297, R298, R303). -/
def State.writeDlog (s : State) (lo : Option Word) (o a v : Nat) : State :=
  if o = 0x1000 then s.storeIf (bitsOf v 0 1 == 1 || (List.range 64).all fun n => !s.flag (Fld.LOG_CFG_EN n)) a v
  else if o = 0x1004 then s.startHarvest (bitsOf v 0 6) (s.get Fld.DLOG_HSTART_LINE) (bitsOf v 8 6 + 1)
  else if 0x1100 ≤ o && o < 0x1900 then
    let n := (o - 0x1100) / 32
    if o % 32 = 0 then s.writeLogCfg n v
    else if s.flag (Fld.LOG_CFG_EN n) then s
    else if o % 32 = 8 then
      let l := lo.map fun w => w &&& 0xFFE00000
      s.commitPair l a (v % 2 ^ 20)
    else s.stored a v
  else s.stored a v

/-- TDM (R339). -/
def State.writeTdm (s : State) (m : Master) (o a v : Nat) : State :=
  match o with
  | 0x1000 => s.writeTdmCfg v
  | 0x1004 => s.writeTdmTiming v
  | 0x1008 => s.writeTdmCredit v
  | 0x1014 => s.writeTdmCmd m v
  | _ => s.stored a v

/-- A remote span may be enabled (R341): aligned to its size, and clear of the hive spans and pool windows of its VCS. -/
def State.rspanOk (s : State) (n : Nat) : Bool :=
  let e := s.get (Fld.SWARM_RSPAN_CFG_SPAN n)
  let size := 2 ^ (34 + e)
  let base := 2 ^ 34 * s.get (Fld.SWARM_RSPAN_HPA_BASE n)
  let v := s.get (Fld.SWARM_RSPAN_CFG_VCS n)
  decide (e ≤ 12) && base % size == 0
    && (List.range 1024).all (fun k => s.slotState (k / 64) (k % 64) == 0 || s.flag (Fld.HOST_CFG_REMOTE k) || s.get (Fld.HOST_CFG_VCS k) != v
      || !overlap base size (s.hpaBase (k / 64) (k % 64)) (s.span (k / 64)))
    && (List.range 64).all fun k => !s.flag (Fld.POOL_WIN_CFG_EN k) || s.get (Fld.POOL_WIN_CFG_VCS k) != v || !overlap base size (s.poolHpa k) (s.poolSize k)

/-- SWARM (R335, R341). (log 29, DEDUCED) -/
def State.writeSwarm (s : State) (o a v : Nat) : State :=
  if o = 0x1000 then s.storeIf (!s.flag Fld.SWARM_CFG_EN) a v
  else if 0x2000 ≤ o && o < 0x2400 && o % 16 = 0 then
    let s' := s.stored a v
    if bitsOf v 0 1 = 1 && !s'.rspanOk ((o - 0x2000) / 16) then s else s'
  else if 0x4000 ≤ o && o < 0x8000 then (s.stored a v).updateReach
  else s.stored a v

/-- FLT (R351, R356, R358, R367, R370). -/
def State.writeFlt (s : State) (m : Master) (o a v : Nat) : State :=
  match o with
  | 0x1008 => s.writeFltAck m v
  | 0x100C => s.writeBoardAck m v
  | 0x1010 => (s.stored a v).driveAlert
  | 0x1014 => s.writeInject m v
  | 0x1120 => s.writeFirstCtl 0 v
  | 0x1160 => s.writeFirstCtl 1 v
  | 0x11A0 => s.writeFirstCtl 2 v
  | _ => s.stored a v

/-- INTC (R377 to R382, R392): keeper cores only. -/
def State.writeIntc (s : State) (m : Master) (lo : Option Word) (o a v : Nat) : State :=
  if o = 0x1004 then s.writeIntcBad m
  else if 0x1100 ≤ o && o < 0x1200 then
    match o % 64 with
    | 0x04 => s.commitPair (lo.map fun w => w &&& 0xFFFF8000) a v
    | 0x10 => s.writeComplete m ((o - 0x1100) / 64) v
    | _ => s.stored a v
  else if 0x2000 ≤ o && o < 0x2400 then
    let w := o % 256 / 4
    match o / 256 % 4 with
    | 0 => s.writePendSet m w v
    | 1 => s.writePendClr m w v
    | 2 => s.writeEnSet m w v
    | _ => s.writeEnClr m w v
  else s.stored a v

/-- MBX (R393). -/
def State.writeMbx (s : State) (m : Master) (o a v : Nat) : State :=
  match o with
  | 0x1000 => s.writeMbxCfg m v
  | 0x1008 => s.writeKick m v
  | _ => s.stored a v

/-- SEC (R398, R409, R412, R414). -/
def State.writeSec (s : State) (m : Master) (o a v : Nat) : State :=
  if o = 0x1008 then s.storeIf (bitsOf v 0 16 != 0) a v
  else if o = 0x100C then s.writeIdeCmd m (bitsOf v 0 6) (bitsOf v 8 2) (bitsOf v 10 1 == 1)
  else if o = 0x1020 then s.writeProv m (bitsOf v 0 2) (bitsOf v 4 2) (bitsOf v 24 8)
  else if 0x1040 ≤ o && o < 0x1070 then s.storeIf (m == .board) a v
  else if o = 0x1200 then
    let s := if bitsOf v 0 1 = 1 then s.nonceReq m else s
    if bitsOf v 1 1 = 1 then s.dbgUnlock m else s
  else if 0x4000 ≤ o then s.storeIf m.debugger a v
  else s.stored a v

/-- The masters whose writes of CNT_USER_EN, PERF_USER_MAP and PERF_EXP are accepted (R429). -/
def State.userMaster (s : State) (m : Master) : Bool := m.keeperOrBoard || (match m with | .host v => s.isFmHost v.val | _ => false)

/-- PERF_VIEW of a master (R420). -/
def State.writeView (s : State) (m : Master) (v : Nat) : State :=
  let others := s.perf.views.filter fun e => e.1 != m
  { s with perf := { s.perf with views := if v % 8 = 0 then others else others ++ [(m, v % 8)] } }

/-- PERF (R420 to R429). -/
def State.writePerf (s : State) (m : Master) (lo : Option Word) (o a v : Nat) : State :=
  if o = 0x1004 then (if s.userMaster m then s.commitPair lo a v else s)
  else if o = 0x1008 then s.writeView m v
  else if 0x1010 ≤ o && o < 0x1050 then (if o % 16 = 0 then s.writeSnapCtl ((o - 0x1010) / 16) v else s)
  else if o = 0x1050 then s.storeIf (decide (bitsOf v 1 5 ≤ 16)) a v
  else if 0x1100 ≤ o && o < 0x1500 then
    let h := (o - 0x1100) / 16
    match o % 16 with
    | 0 => s.stored a (if bitsOf v 24 4 = 0 then v % 2 ^ 24 + 2 ^ 24 * s.get (Fld.PERF_HIST_CFG_SHIFT h) else v)
    | 8 => s.put (Fld.PERF_HIST_MAX_NS h) 0
    | _ => s.stored a v
  else if 0x1500 ≤ o && o < 0x1700 then
    let k := (o - 0x1500) / 32
    match o % 32 with
    | 0x00 => (s.stored a v).rearm k
    | 0x04 => s.put (Fld.PERF_OVF_MISSED_COUNT k) 0
    | 0x0C => s.commitPair lo a v
    | 0x14 => (s.commitPair lo a v).rearm k
    | _ => s
  else if o = 0x1800 then s.writeRingCfg v
  else if o = 0x180C then s.writeRingRd v
  else if o = 0x1818 then s.writeRingMark v
  else if 0x1900 ≤ o && o < 0xA000 then s.storeIf (s.userMaster m) a v
  else s.stored a v

/-- NVS (R450). -/
def State.writeNvs (s : State) (m : Master) (o v : Nat) : State :=
  if o = 0x1008 then s.writeNvsCmd m v else if 0x1100 ≤ o && o < 0x1140 then s.writeParam m ((o - 0x1100) / 4) v else s

/-- A write of a register of a block, high words of pairs with the held low word `lo`. -/
def State.writeBlock (s : State) (m : Master) (b : Block) (lo : Option Word) (o a v : Nat) : State :=
  let pg := a / 0x10000
  match b with
  | .dev => if o = 0x1020 then s.writeLockAll m v else s
  | .clk => s.writeClk m o a v
  | .boot | .perfArr => s
  | .pwr => s.writePwr o a v
  | .flt => s.writeFlt m o a v
  | .intc => s.writeIntc m lo o a v
  | .mbx => s.writeMbx m o a v
  | .sec => s.writeSec m o a v
  | .time => s.writeTime lo o a v
  | .nvs => s.writeNvs m o v
  | .perf => s.writePerf m lo o a v
  | .portg => s.writePortg (pg - 0x10) o a v
  | .ehr | .sched => s.stored a v
  | .xbar => s.writeXbar o a v
  | .buf => s.writeBuf o a v
  | .mcast => if o % 16 = 4 && 0x2000 ≤ o then s.commitPair lo a v else s.stored a v
  | .hat => s.writeHat o a v
  | .vcs => s.writeVcsPage o a v
  | .home => s.writeHome lo o a v
  | .dirc => s.writeDirc lo o a v
  | .comb => s.writeComb o a v
  | .carb => s.writeCarb o a v
  | .pool => s.writePool o a v
  | .mover => s.writeMover o a v
  | .dlog => s.writeDlog lo o a v
  | .tdm => s.writeTdm m o a v
  | .waggle => if o = 0x1000 then s.writeWaggleCfg v else s.stored a v
  | .swarm => s.writeSwarm o a v
  | .lane => s.writeLane (pg - 0x100) o a v
  | .tlane | .wlane => s.writeLane (256 + (pg - 0x200)) o a v
  | .schedTbl => s.writeSched lo o a v
  | .hatRules => s.writeRuleWord lo o v
  | .bindTbl => s.writeBind o a v

/-- A write that has reached its page (R5, R7, R309, R445): a mirrored table ignores it on a passive module; a low word of a pair is held; a high word commits. LOCK keeps the RWL bits of both
words where it is set as they commit. (log 19, DEDUCED) -/
def State.applyWrite (s : State) (m : Master) (a : Nat) (w : Word) : State :=
  let pg := a / 0x10000
  if (regionOf a).isSome && !s.isActive then s
  else
    match blockOf pg with
    | none => s
    | some (b, first) =>
      if hasHeader b && decide (a % 0x10000 < 0x1000) then s.writeHeader pg (a % 0x10000) w.toNat
      else if pg = 0x90 && 0x2000 ≤ a % 0x10000 && a % 0x10000 < 0x3000 then s.writeChannel m ((a % 0x10000 - 0x2000) / 64) (a / 4 % 16) w
      else if (findRow a).isNone then s
      else
        let v := (s.offered a w).toNat
        match pairWord a with
        | .low => s.holdLow m a w
        | .high => (s.dropLow m (a - 4)).writeBlock m b ((s.heldLow m (a - 4)).map (s.offered (a - 4))) (a - first * 0x10000) a v
        | .single => s.writeBlock m b none (a - first * 0x10000) a v

/-- A 32-bit software write (R4, R9, R431). -/
def State.softWrite (s : State) (m : Master) (a : Nat) (w : Word) : State :=
  if a % 4 ≠ 0 then s else s.guard m (a / 0x10000) fun s => s.applyWrite m a w

/-- A write of some bytes: any but an aligned one of 4 bytes is refused and has no effect (R4). -/
def State.writeOut (s : State) (m : Master) (a bytes : Nat) (w : Word) : State :=
  if bytes = 4 ∧ a % 4 = 0 then s.softWrite m a w else s.badAccess m

/-! ### Commands -/

/-- REGISTER_WRITE (R4, R9): any access but an aligned one of 4 bytes is refused and has no effect. (log 20, DEDUCED) -/
def execRegisterWrite (m : Master) (addr : BitVec 28) (bytes : Nat) (value : Word) (s : State) : Host.Outcome State Fault Refusal :=
  done (s.begin.writeOut m addr.toNat bytes value)

/-- WRITE_64_LOW (R7). -/
def execWrite64Low (m : Master) (addr : BitVec 28) (bytes : Nat) (value : Word) (s : State) : Host.Outcome State Fault Refusal :=
  done (s.begin.writeOut m addr.toNat bytes value)

/-- WRITE_64_HIGH (R7). -/
def execWrite64High (m : Master) (addr : BitVec 28) (bytes : Nat) (value : Word) (s : State) : Host.Outcome State Fault Refusal :=
  done (s.begin.writeOut m addr.toNat bytes value)

/-- TIME_SET_COMMIT (R66): a write of TIME_SET_HI. -/
def execTimeSetCommit (m : Master) (hi : Word) (s : State) : Host.Outcome State Fault Refusal :=
  done (s.begin.softWrite m Addr.TIME_SET_HI hi)

/-- The status of a request (R433): BUSY with four held, INVALID_PARAMETER, SUCCESS. (log 33, DEDUCED) -/
def MctpMsg.status (q : MctpMsg) : Nat :=
  if 4 ≤ q.held then 2
  else if q.addr.toNat % 4 ≠ 0 || 0x10000000 < q.addr.toNat + 4 * q.count || q.count = 0 || 16 < q.count || !q.lengthOk then 1
  else 0

/-- A register access message: over PCIe VDM it is discarded and counted; one that is refused has no effect but its answer (R433). (log 32, DEDUCED) -/
def State.mctp (s : State) (q : MctpMsg) (f : State → State) : State :=
  s.whenMgmt fun s =>
    if s.clk.mgmtStopped then s
    else if q.vdm then s.count (Ctr.SECC 3 0)
    else if q.status = 0 then f s
    else s.emit (.mctp q.tag q.status [])

/-- Read consecutive words, in ascending order, each a board access of its own. -/
def State.readWords (s : State) (a : Nat) : Nat → State × List Word
  | 0 => (s, [])
  | n + 1 =>
    let x := s.readWords a n
    let y := x.1.softRead .board (a + 4 * n)
    (y.1, x.2 ++ [BitVec.ofNat 32 y.2])

/-- MCTP_REG_READ (R433). -/
def execMctpRegRead (msg : MctpMsg) (s : State) : Host.Outcome State Fault Refusal :=
  done (s.begin.mctp msg fun s =>
    let x := s.readWords msg.addr.toNat msg.count
    x.1.emit (.mctp msg.tag 0 x.2))

/-- Write consecutive words in ascending order. -/
def State.writeWords (s : State) (m : Master) (a : Nat) (l : List Word) : State :=
  ((List.range l.length).zip l).foldl (fun s e => s.softWrite m (a + 4 * e.1) e.2) s

/-- MCTP_REG_WRITE (R433): a write its field map ignores is still answered with SUCCESS. -/
def execMctpRegWrite (msg : MctpMsg) (s : State) : Host.Outcome State Fault Refusal :=
  done (s.begin.mctp msg fun s =>
    if msg.words.length = msg.count then (s.writeWords .board msg.addr.toNat msg.words).emit (.mctp msg.tag 0 []) else s.emit (.mctp msg.tag 1 []))

/-- EVT_PEND_SET (R441). -/
def execEvtPendSet (m : Master) (page : BitVec 12) (bits : Word) (s : State) : Host.Outcome State Fault Refusal :=
  done (s.eventWrite m page.toNat fun s => s.writePend page.toNat bits.toNat)
/-- EVT_PEND_CLR (R441). -/
def execEvtPendClr (m : Master) (page : BitVec 12) (bits : Word) (s : State) : Host.Outcome State Fault Refusal :=
  done (s.eventWrite m page.toNat fun s => s.clearPend page.toNat bits.toNat)
/-- EVT_EN_SET (R441). -/
def execEvtEnSet (m : Master) (page : BitVec 12) (bits : Word) (s : State) : Host.Outcome State Fault Refusal :=
  done (s.eventWrite m page.toNat fun s => s.writeEn page.toNat bits.toNat)
/-- EVT_EN_CLR (R441). -/
def execEvtEnClr (m : Master) (page : BitVec 12) (bits : Word) (s : State) : Host.Outcome State Fault Refusal :=
  done (s.eventWrite m page.toNat fun s => s.clearEn page.toNat bits.toNat)

/-- PAGE_LOCK_WRITE (R444): a write of a page's LOCK. -/
def execPageLockWrite (m : Master) (page : BitVec 12) (value : Word) (s : State) : Host.Outcome State Fault Refusal :=
  done (s.begin.softWrite m (page.toNat * 0x10000 + 0x10FC) value)

/-- DEV_LOCK_ALL (R446). -/
def execDevLockAll (m : Master) (value : Word) (s : State) : Host.Outcome State Fault Refusal :=
  done (s.begin.guard m 0 fun s => s.writeLockAll m value.toNat)

/-- NVS_COMMIT_PARAM (R449): a write of NVS_CMD. -/
def execNvsCommitParam (m : Master) (value : Word) (s : State) : Host.Outcome State Fault Refusal :=
  done (s.begin.guard m 9 fun s => s.writeNvsCmd m value.toNat)

/-- NVS_COMMIT_DONE (R449). -/
def execNvsCommitDone (s : State) : Host.Outcome State Fault Refusal := done (s.begin.whenMgmt State.endCommit)

/-- The item of the NV store becomes invalid (R366). -/
def Nv.spoil (n : Nv) : NvItem → Nv
  | .param k => let p := if k.val = 0 then n.param0 else n.param1
                n.setParam k.val { p with bad := true }
  | .firmware b => if b then { n with fwB := none } else { n with fwA := none }
  | .fixon b => if b then { n with fixB := { n.fixB with bad := true } } else { n with fixA := { n.fixA with bad := true } }
  | .policy => { n with policy := none }
  | .record i => { n with records := n.records.take i.val ++ n.records.drop (i.val + 1) }
  | .other => n

/-- NV_UE (R366): contained; the item that holds the word is invalid; ITEM_INVALID. -/
def execNvUe (item : NvItem) (s : State) : Host.Outcome State Fault Refusal :=
  done (s.begin.whenMgmt fun s =>
    let s := { s with nv := s.nv.spoil item }
    let s := (s.put Fld.FLT_STATUS_RECORDS s.nv.records.length).raise Evt.NVS_ITEM_INVALID
    s.sendFault (s.message Kind.NV_UE 1 0x009 0 1 Party.none none))

end Sys2Proof.Machine
end

