-- ==== Sys2Proof/Machine/Boot.lean ====
section
/-! DEFINITION. Sys2Proof/Machine/Boot.lean: secure boot, the PLLs of the hub and tiles, the application of the Fixon image, and the training of the Ehrurn links (R74 to R80, R182, R191,
R402). -/
namespace Sys2Proof.Machine
open Sys2Proof

/-! ### Stage 4: secure boot (R76, R374, R375, R401, R402) -/

/-- The ROM has verified both slots: where both verify, the SVN counter rises to the lower of the two, and the Quinmen slots that both images revoke are revoked, but for
the slots they are signed with (R402). -/
def Otp.afterBoot (o : Otp) (a b : Option SignedImage) : Otp :=
  match a, b with
  | some a, some b => { o with svn := max o.svn (min a.svn b.svn), qRevoke := o.qRevoke ||| (List.range 4).foldl (fun n k =>
      if bitsOf a.revoke k 1 = 1 ∧ bitsOf b.revoke k 1 = 1 ∧ a.keySlot ≠ k ∧ b.keySlot ≠ k then n ||| 2 ^ k else n) 0 }
  | _, _ => o

/-- Core 3 runs the policy partition where an owner key is set and the image verifies (R374, R375, R401). -/
def State.startPolicy (s : State) : State :=
  let i := if bitsOf s.secWord 6 1 = 1 then s.nv.policy.filter fun i => i.policyOk s else none
  match i with
  | some i =>
    let s := s.puts [(Fld.MBX_POLICY_STATE, 1), (Fld.MBX_POLICY_CAUSE, 0)]
    { s with keeper := { s.keeper with grant := i.pages, policyCmds := i.pages.contains 0x60 }, sec := { s.sec with policy := some i } }
  | none =>
    let s := s.puts [(Fld.MBX_POLICY_STATE, 0), (Fld.MBX_POLICY_CAUSE, 0)]
    { s with keeper := { s.keeper with grant := [], policyCmds := false }, sec := { s.sec with policy := none } }

/-- A pending activation names the preferred slot from now on (R76, R374). -/
def State.takePending (s : State) : State :=
  match s.nv.fwPending with
  | some b => ({ s with nv := { s.nv with fwPref := b, fwPending := none } } : State).nvWrote 2
  | none => s

/-- The firmware of slot b starts: the cores are released, the alias is derived (R403), and stage 4 ends. -/
def State.startFirmware (s : State) (b fallback : Bool) (i : SignedImage) : State :=
  let both := (s.fwSlot false, s.fwSlot true)
  let s := s.puts [(Fld.BOOT_SLOTS_FW_SLOT, bit b), (Fld.BOOT_SLOTS_FW_FALLBACK, bit fallback), (validField false false, bit both.1.isSome),
    (validField false true, bit both.2.isSome), (Fld.DEV_FW_VER_VER, i.version), (Fld.MBX_CORE_STATUS_RUN, 15)]
  let s := s.raiseIf fallback Evt.BOOT_SLOT_FALLBACK
  let s := ({ s with boot := { s.boot with fwRunning := true }, sec := { s.sec with firmware := some i } } : State).startPolicy
  let s := s.deriveIdentity (s.flag Fld.SEC_STATUS_UDS_GATED)
  let s := { s with nv := { s.nv with otp := s.nv.otp.afterBoot both.1 both.2 } }
  s.showOtp.stageDone 4

/-- SECURE_BOOT_DONE (R76): the preferred slot, or the other one where it does not verify; neither: FW_NONE. (log 48, DEDUCED) -/
def execSecureBootDone (s : State) : Host.Outcome State Fault Refusal :=
  done (s.begin.inStage 4 fun s =>
    if s.get Fld.SEC_STATUS_SELFTEST ≠ 1 then s
    else
      let s := { s with sec := { s.sec with status4 := (s.word Addr.SEC_STATUS).toNat } }
      let s := s.takePending
      let b := s.nv.fwPref
      match s.fwSlot b, s.fwSlot !b with
      | some i, _ => s.startFirmware b false i
      | none, some i => s.startFirmware (!b) true i
      | none, none => (s.puts [(validField false false, 0), (validField false true, 0)]).failStart 1)

/-! ### Stage 5: the Fixon image (R74, R78 to R80) -/

/-- A slot failed to apply in this start-up. -/
def State.tried (s : State) (b : Bool) : Bool := if b then s.boot.triedB else s.boot.triedA

/-- The slot to apply (R79, R80): of those valid and not failed in this start-up the one with the higher GENERATION, A on equal ones. -/
def State.chooseFixon (s : State) : Option Bool :=
  let ok := fun b => s.fixonValid b && !s.tried b
  match ok false, ok true with
  | true, true => some (decide (s.nv.fixA.generation < s.nv.fixB.generation))
  | true, false => some false
  | false, true => some true
  | false, false => none

/-- FABRIC_PLLS_LOCK (R74, R75, R79): FABRIC is released and the Fixon slot is chosen; going on to the other slot sets FIXON_FALLBACK (R80). (log 249, DESIGN CHOICE) -/
def execFabricPllsLock (s : State) : Host.Outcome State Fault Refusal :=
  done (s.begin.inStage 5 fun s =>
    if !s.clk.fabricHeld || s.clk.perstLow || s.clk.resetPulse then s
    else
      let s := { s with clk := { s.clk with fabricHeld := false, pllLock := s.clk.pllLock ||| (Pll.hub ||| Pll.tiles) } }
      let s := { s.used with sec := { s.sec with transport := some s.free } }
      let again := s.boot.triedA || s.boot.triedB
      let s := s.puts [(validField true false, bit (s.fixonValid false)), (validField true true, bit (s.fixonValid true)), (Fld.BOOT_SLOTS_FIXON_FALLBACK, 0)]
      match s.chooseFixon with
      | some b =>
        let s := { s with boot := { s.boot with applying := some (b, 0), poll := none, delay := false } }
        if again then (s.put Fld.BOOT_SLOTS_FIXON_FALLBACK 1).raise Evt.BOOT_SLOT_FALLBACK else s
      | none => s.failStart (if again then 3 else 2))

/-- The next record of the image under application. (log 46, DEDUCED) -/
def State.nextRecord (s : State) : Option FixRec :=
  match s.boot.applying with
  | some (b, i) => (s.fixonImage (s.fixSlot b)).bind fun l => l[i]?
  | none => none

/-- The record is applied; the next one follows. -/
def State.recordDone (s : State) : State :=
  { s with boot := { s.boot with applying := s.boot.applying.map fun x => (x.1, x.2 + 1), poll := none, delay := false } }

/-- Apply a record where it is the next one of the image under application and none waits. -/
def State.fixon (s : State) (r : FixRec) (f : State → State) : State :=
  s.inStage 5 fun s => if !s.boot.delay && s.nextRecord == some r then f s else s

/-- The keeper core that applies the image. (log 45, DEDUCED) -/
def fixonMaster : Master := .keeper 0

/-- FIXON_WRITE (R78): payload word i to ADDR + 4i, in order. (log 47, DEDUCED) -/
def execFixonWrite (addr : BitVec 28) (words : List Word) (s : State) : Host.Outcome State Fault Refusal :=
  done (s.begin.fixon (.write addr.toNat (words.map (·.toNat))) fun s => (s.writeWords fixonMaster addr.toNat words).recordDone)

/-- FIXON_MASKED (R78): reads ADDR, then writes (read and not mask) or (value and mask). -/
def execFixonMasked (addr : BitVec 28) (mask : Word) (value : Word) (s : State) : Host.Outcome State Fault Refusal :=
  done (s.begin.fixon (.masked addr.toNat mask.toNat value.toNat) fun s =>
    let x := s.softRead fixonMaster addr.toNat
    (x.1.softWrite fixonMaster addr.toNat ((BitVec.ofNat 32 x.2 &&& ~~~ mask) ||| (value &&& mask))).recordDone)

/-- FIXON_FILL (R78): one value to count registers from ADDR on. -/
def execFixonFill (addr : BitVec 28) (count : Nat) (value : Word) (s : State) : Host.Outcome State Fault Refusal :=
  done (s.begin.fixon (.fill addr.toNat count value.toNat) fun s => (s.writeWords fixonMaster addr.toNat (List.replicate count value)).recordDone)

/-- FIXON_POLL (R78): the record is done where the masked read equals the value, and else waits. -/
def execFixonPoll (addr : BitVec 28) (mask : Word) (value : Word) (timeout : Nat) (s : State) : Host.Outcome State Fault Refusal :=
  done (s.begin.fixon (.poll addr.toNat mask.toNat value.toNat timeout) fun s =>
    let x := s.softRead fixonMaster addr.toNat
    if BitVec.ofNat 32 x.2 &&& mask = value then x.1.recordDone
    else { x.1 with boot := { x.1.boot with poll := some ⟨addr.toNat, mask.toNat, value.toNat⟩ } })

/-- FIXON_POLL_TIMEOUT (R80): the index of the first record that failed is recorded; a full fabric reset, and start-up resumes where R72 tells. (log 43, DEDUCED) -/
def execFixonPollTimeout (s : State) : Host.Outcome State Fault Refusal :=
  done (s.begin.inStage 5 fun s =>
    match s.boot.applying, s.boot.poll with
    | some (b, i), some _ =>
      let s := if s.boot.errSet then s else s.put Fld.BOOT_FIXON_ERR_RECORD i
      let s := { s with boot := { s.boot with errSet := true, triedA := s.boot.triedA || !b, triedB := s.boot.triedB || b } }
      let s := s.fullReset.standAt
      if s.boot.fwRunning then s else s.put (Fld.BOOT_STAGE_T_TIME 1) 0
    | _, _ => s)

/-- FIXON_DELAY (R78). -/
def execFixonDelay (us : Nat) (s : State) : Host.Outcome State Fault Refusal :=
  done (s.begin.fixon (.delay us) fun s => { s with boot := { s.boot with delay := true } })

/-- FIXON_DELAY_EXPIRE (R78). -/
def execFixonDelayExpire (s : State) : Host.Outcome State Fault Refusal :=
  done (s.begin.inStage 5 fun s => if s.boot.delay then s.recordDone else s)

/-- FIXON_END (R78, R84): the image has applied completely; stage 5 ends and Comb trains. -/
def execFixonEnd (s : State) : Host.Outcome State Fault Refusal :=
  done (s.begin.fixon .fin fun s =>
    match s.boot.applying with
    | some (b, _) =>
      let s := s.puts [(Fld.BOOT_SLOTS_FIXON_SLOT, bit b), (Fld.BOOT_FIXON_GEN_GENERATION, (s.fixSlot b).generation), (Fld.COMB_STATUS_STATE, 1)]
      let hash := Config.sha384 ((s.fixSlot b).bytes 0 (s.fixSlot b).imageLen)
      ({ s with boot := { s.boot with applying := none, poll := none }, sec := { s.sec with fixon := hash } } : State).stageDone 5
    | none => s)

/-! ### Stage 7: Ehrurn (R182, R191) -/

/-- The faulty wires told for a module of a direction of a link. -/
def badWires (l : List WireRepair) (t d m : Nat) : List Nat :=
  ((l.filter fun r => r.link.val == t && r.dir.val == d && r.module.val == m).flatMap fun r => r.wires.map (·.val)).eraseDups

def clkSpare (l : List WireRepair) (t d m : Nat) : Bool := l.any fun r => r.link.val == t && r.dir.val == d && r.module.val == m && r.clkSpare

/-- The modules of a link, as (direction, module). -/
def ehrModules : List (Nat × Nat) := (List.range 34).map fun i => (i / 17, i % 17)

/-- The first module of a link that cannot be repaired: more than 4 faulty wires, or the one told to have failed both clock pairs or the full-width check twice. -/
def ehrFailed (l : List WireRepair) (failed : Option (Fin 4 × Fin 2 × Fin 17)) (t : Nat) : Option (Nat × Nat) :=
  ehrModules.find? fun x => decide (4 < (badWires l t x.1 x.2).length)
    || (match failed with | some (t', d, m) => t'.val == t && d.val == x.1 && m.val == x.2 | none => false)

/-- EHR_REPAIR of one module as its wires move onto the spares. -/
def State.repairModule (s : State) (l : List WireRepair) (t : Nat) (x : Nat × Nat) : State :=
  let w := badWires l t x.1 x.2
  let n := 17 * x.1 + x.2
  s.puts [(Fld.EHR_REPAIR_USED t n, w.length), (Fld.EHR_REPAIR_CLK_SPARE t n, bit (clkSpare l t x.1 x.2)), (Fld.EHR_REPAIR_WIRE0 t n, w.getD 0 0),
    (Fld.EHR_REPAIR_WIRE1 t n, w.getD 1 0), (Fld.EHR_REPAIR_WIRE2 t n, w.getD 2 0), (Fld.EHR_REPAIR_WIRE3 t n, w.getD 3 0)]

/-- A link ends its training: UP at full width, or FAILED. -/
def State.trainLink (s : State) (l : List WireRepair) (failed : Option (Fin 4 × Fin 2 × Fin 17)) (t : Nat) : State :=
  match ehrFailed l failed t with
  | some x => s.puts [(Fld.EHR_STATUS_STATE t, 3), (Fld.EHR_STATUS_FAIL_DIR t, x.1), (Fld.EHR_STATUS_FAIL_MOD t, x.2)]
  | none =>
    let s := ehrModules.foldl (fun s x => s.repairModule l t x) s
    (s.puts [(Fld.EHR_STATUS_STATE t, 2), (Fld.EHR_STATUS_SPARES t, (ehrModules.map fun x => (badWires l t x.1 x.2).length).sum)]).raise (Evt.EHR_TRAINED t)

/-- The lanes that stage 8 calibrates (R96): those of configured ports, the Tandem lanes and the Waggle lane. (log 49, DEDUCED) -/
def State.stage8Lanes (s : State) : List Nat := (List.range 256).filter (fun i => match s.portOfLane i with | some p => s.portEn p | none => false) ++ tabulate 9 fun j => 256 + j

/-- EHRURN_TRAIN_DONE (R182): every link is UP at full width with its spares assigned, or start-up fails with EHRURN_REPAIR. (log 50, DEDUCED) -/
def execEhrurnTrainDone (repairs : List WireRepair) (failed : Option (Fin 4 × Fin 2 × Fin 17)) (s : State) : Host.Outcome State Fault Refusal :=
  done (s.begin.inStage 7 fun s =>
    if s.clk.fabricHeld then s
    else
      let s := (List.range 4).foldl (fun s t => s.trainLink repairs failed t) s
      if (List.range 4).any fun t => s.get (Fld.EHR_STATUS_STATE t) == 3 then s.failStart 6
      else
        let l := s.stage8Lanes
        let s := ((List.range 64).filter fun p => s.portEn p && !s.portHeld p).foldl (fun s p => s.put (Fld.PORT_STATUS_LINK p) 9) s
        (s.modLanes fun x => { x with cal := l }).stageDone 7)

end Sys2Proof.Machine
end

