-- ==== Sys2Proof/Machine/Manage.lean ====
section
/-! DEFINITION. Sys2Proof/Machine/Manage.lean: the management endpoint IEP3 (R12): the functions a host finds in its configuration space (R117, R140, R141, R286), BAR0 of a mover VF,
management fan-out (R175); and the Ehrurn slot through which requests reach it. -/
namespace Sys2Proof.Machine
open Sys2Proof

/-- Bytes the standard configuration space or a window not of the register space holds: open. (log 192, DESIGN CHOICE) -/
def openBytes (w n : Nat) : List Byte := tabulate n fun i => BitVec.ofNat 8 (w / 256 ^ i)

/-! #### The functions a host finds (R117, R140, R141, R286) -/

/-- Downstream vPPBs of a VCS (R139). -/
def State.downCount (s : State) (v : Nat) : Nat := s.vppbCount v - 1

/-- Device d of the VCS's internal bus carries more than one vPPB (R140). -/
def State.multiFunction (s : State) (v d : Nat) : Bool := decide (8 * d + 1 < s.downCount v)

/-- The downstream vPPB that a device and function of the internal bus present (R140): vPPB i is device (i - 1) div 8, function (i - 1) mod 8; functions with a number other than
0 are presented only on a device that carries more than one vPPB. -/
def State.bridgeAt (s : State) (v d f : Nat) : Option Nat :=
  let i := 8 * d + f + 1
  if decide (f < 8) && decide (i ≤ s.downCount v) && (f == 0 || s.multiFunction v d) then some (s.vppbOf v i) else none

/-- The bits that the manual fixes in a register of a function, as position, width and value (R117, R140, R141, R146, R286). (log 258, PRESUMED) -/
def State.cfgBits (s : State) (v : Nat) (m : Msg) : List (Nat × Nat × Nat) :=
  match m.route, m.cfgReg with
  | .here, .headerType => [(7, 1, 1)]
  | .func1, .totalVfs => [(0, 16, min 254 (s.vfsOf v).length)]
  | .func1, .vfOffset => [(0, 16, 1), (16, 16, 1)]
  | _, .deviceCap => [(0, 3, 2)]
  | .bridge d f, .headerType => if f = 0 then [(7, 1, bit (s.multiFunction v d))] else []
  | .bridge _ _, .slotCap => [(0, 5, 0), (5, 1, 1), (6, 1, 1), (17, 1, 0), (18, 1, 1)]
  | .bridge d f, .slotCtl => match s.bridgeAt v d f with
    | some n => [(5, 1, bit (s.vppbCfg n).hotPlugEn)]
    | none => []
  | .bridge d f, .slotStatus => match s.bridgeAt v d f with
    | some n => [(3, 1, bit (s.vppbCfg n).presChanged), (6, 1, bit (s.presence n).1), (8, 1, bit (s.vppbCfg n).linkChanged)]
    | none => []
  | .bridge d f, .linkCtl => match s.bridgeAt v d f with
    | some n => [(4, 1, bit (s.vppbCfg n).linkDisable)]
    | none => []
  | .bridge d f, .linkStatus => match s.bridgeAt v d f with
    | some n => [(13, 1, bit (s.presence n).2)]
    | none => []
  | .bridge d f, .dpcStatus => match s.bridgeAt v d f with
    | some n => [(0, 1, s.get (Fld.VPPB_STATE_DPC n))]
    | none => []
  | .bridge _ _, .ptmCap => [(0, 1, 0), (1, 1, 1), (2, 1, 1)]
  | _, _ => []

/-- What a configuration read of a register answers: the bits that the manual fixes, in a value otherwise open. -/
def State.cfgValue (s : State) (v : Nat) (m : Msg) : Nat := (s.cfgBits v m).foldl (fun w b => insertBits w b.1 b.2.1 b.2.2) (s.free % 2 ^ 32)

/-- The function that a configuration request names is presented (R140, R286). -/
def State.functionThere (s : State) (v : Nat) (m : Msg) : Bool :=
  match m.route with
  | .bridge d f => (s.bridgeAt v d f).isSome
  | .vf u => s.fab.mover.vfEnable.contains v && s.get (Fld.VF_CFG_VCS u.val) == v
  | _ => true

/-- A configuration request to a function the module presents (R140, R286, R309): a write is applied, by an active module, and completed; a read completed. One to a function
that is not presented completes as an Unsupported Request. -/
def State.cfgHere (s : State) (v : Nat) (m : Msg) : State :=
  if !s.functionThere v m then m.flushed.foldl State.queueMsg s
  else if m.data.isEmpty then s.used.queueMsg (m.completion .cfgCpl (openBytes (s.cfgValue v m) m.rdLen))
  else
    let s := match m.cfg with
      | some c => if s.isActive then s.applyCfg v c else s
      | none => s
    s.queueMsg (m.answer .cfgCpl)

/-- The management fan-out that a management message asks IEP3 for (R175, R190): sent to the USPs of its group. (log 223, DESIGN CHOICE) -/
def State.fanout (s : State) (m : Msg) (g : Nat) : State :=
  s.queueMsg { kind := .fanout, src := 67, sub := m.sub, data := m.data, bytes := 16 + m.data.length, group := some g }

/-- The mover VF as a master of the register space (R431): its reads and writes have a latch and a held low word of their own. (log 247, DESIGN CHOICE) -/
def vfMaster (u : Nat) : Master := .mover (Fin.ofNat 256 u)

/-- The little-endian dword at a byte of a write's data. -/
def dwordAt (data : List Byte) (i : Nat) : Nat := leAt data i 4

/-- A write of one word of a channel block through BAR0 of a mover VF (R286). -/
def State.barWrite (s : State) (u reg : Nat) (data : List Byte) : State :=
  let r := reg - Addr.CH_RING_LO 0
  s.writeChannel (vfMaster u) (r / 64) (r % 64 / 4) (BitVec.ofNat 32 (dwordAt data 0))

/-- A read of one word of a channel block through BAR0 of a mover VF, with the latch of its pair (R6, R286). -/
def State.barRead (s : State) (u reg : Nat) : State × List Byte :=
  let x := s.softRead (vfMaster u) reg
  (x.1, tabulate 4 fun i => BitVec.ofNat 8 (x.2 / 256 ^ i))

/-- Byte i of the MSI-X table of a VF, from 0x8000, and of its PBA, from 0x9000 (R286). -/
def State.msixByte (s : State) (u i : Nat) : Byte := BitVec.ofNat 8 ((s.fab.mover.msixWord u (i / 16) (i % 16 / 4)).toNat / 256 ^ (i % 4))
def State.pbaByte (s : State) (u i : Nat) : Byte :=
  BitVec.ofNat 8 ((List.range 8).foldl (fun n b => if s.fab.mover.pba.contains (64 * u + 8 * i + b) then n + 2 ^ b else n) 0)

/-- An access of one or two aligned words to the MSI-X table of a VF, or a read of its PBA (R286). -/
def State.barMsix (s : State) (u n : Nat) (m : Msg) : State :=
  let table := decide (m.addr < 0x9000)
  if m.kind == .ioPosted then
    if table then
      (List.range (n / 4)).foldl (fun s k =>
        let a := m.addr - 0x8000 + 4 * k
        s.setMsix u (a / 16) (a % 16 / 4) (BitVec.ofNat 32 (dwordAt m.data (4 * k)))) s
    else s
  else s.queueMsg (m.completion .cpl (tabulate n fun i => if table then s.msixByte u (m.addr - 0x8000 + i) else s.pbaByte u (m.addr - 0x9000 + i)))

/-- BAR0 of a mover VF at IEP3 (R4, R279, R286): its channel blocks take aligned accesses of 32 bits, every other being an unsupported request without effect; its MSI-X table of a
vector for each channel, and PBA, those of one or two words. (log 193, DEDUCED) -/
def State.bar0 (s : State) (u : Nat) (m : Msg) : State :=
  let reg := Addr.CH_RING_LO (s.get (Fld.VF_RES_FIRST u)) + m.addr
  let n := if m.kind == .ioPosted then m.data.length else m.rdLen
  let count := s.get (Fld.VF_RES_COUNT u)
  let msix := (decide (0x8000 ≤ m.addr ∧ m.addr + n ≤ 0x8000 + 16 * count)) || (decide (0x9000 ≤ m.addr ∧ m.addr + n ≤ 0x9008))
  if msix && (n == 4 || n == 8) && m.addr % n == 0 then s.barMsix u n m
  else if 64 * count ≤ m.addr then
    (if m.kind == .ioNp then s.used.queueMsg (m.completion .cpl (openBytes s.free n)) else s)
  else if m.addr % 4 != 0 || n != 4 then m.flushed.foldl State.queueMsg (s.badAccess (vfMaster u))
  else if m.kind == .ioPosted then s.barWrite u reg m.data
  else
    let r := s.barRead u reg
    r.1.queueMsg (m.completion .cpl r.2)

/-! #### BAR0 of the management function (R383, R390) -/

/-- RESULT_VALID of a box (R390): it is in DONE and holds a result. -/
def State.heldResult (s : State) (k : Nat) : Option MbxResult := if s.get (Fld.MBX_BOX_STATE_STATE k) = 2 then (s.box k).result else none

/-- A dword of the mailbox registers of a box, at its offset in their standard layout (R383, R390): Capabilities, Control, Command, Status, Background Command Status. The fields of the
result read 0 while none is held. (log 245, PRESUMED) -/
def State.mbxWord (s : State) (k o : Nat) : Nat :=
  let b := s.box k
  let len := ((s.heldResult k).map fun r => r.data.length).getD 0
  match o with
  | 0x00 => 16 + 32 + 64
  | 0x04 => bit (s.get (Fld.MBX_BOX_STATE_STATE k) == 1) + 2 * bit b.irq
  | 0x08 => b.inOp % 65536 + 65536 * (len % 65536)
  | 0x0C => len / 65536 % 32
  | 0x10 => if (s.heldResult k).isSome then s.get (Fld.MBX_BOX_STATE_BG k) else 0
  | 0x14 => ((s.heldResult k).map fun r => r.code.num).getD 0
  | 0x18 => b.bgOp % 65536 + 65536 * (if b.bgCode.isSome then 100 else s.free % 100)
  | 0x1C => (b.bgCode.map RetCode.num).getD 0
  | _ => 0

/-- CCI_RESULT of a box (R390). -/
def State.cciResult (s : State) (k : Nat) : Nat := bit (s.heldResult k).isSome + 65536 * s.get (Fld.MBX_BOX_SEQ_RESULT_SEQ k)

/-- Byte a of BAR0 of the management function of VCS k (R383): the mailbox registers and the held result, CCI_RESULT, the MSI-X table and PBA; the Capabilities Array is the standard's. -/
def State.mgmtByte (s : State) (k a : Nat) : Byte :=
  let part := fun (w i : Nat) => BitVec.ofNat 8 (w / 256 ^ i)
  if 0x1000 ≤ a ∧ a < 0x1020 then part (s.mbxWord k ((a - 0x1000) / 4 * 4)) (a % 4)
  else if 0x1020 ≤ a ∧ a < 0x11020 then BitVec.ofNat 8 (((s.heldResult k).map fun r => r.data.getD (a - 0x1020) 0).getD 0)
  else if 0x20000 ≤ a ∧ a < 0x20004 then part (s.cciResult k) (a % 4)
  else if 0x30000 ≤ a ∧ a < 0x38000 then part (s.mbx.msixWord k ((a - 0x30000) / 16) (a % 16 / 4)).toNat (a % 4)
  else if 0x38000 ≤ a ∧ a < 0x38100 then
    BitVec.ofNat 8 ((List.range 8).foldl (fun n b => if s.mbx.pba.contains (2048 * k + 8 * (a - 0x38000) + b) then n + 2 ^ b else n) 0)
  else part s.free (a % 8)

/-- A write of a dword of the mailbox registers (R383, R389): Command stores input; Control sets the interrupt enable and rings the doorbell with the stored input. -/
def State.mbxWrite (s : State) (k o w : Nat) : State :=
  match o with
  | 0x04 =>
    let b := s.box k
    if w % 2 = 1 then s.doorbell k b.inOp (tabulate b.inLen fun i => mget 0 b.input i) (bitsOf w 1 1 == 1)
    else if s.get (Fld.MBX_BOX_STATE_STATE k) = 1 then s
    else s.modBox k fun b => { b with irq := bitsOf w 1 1 == 1 }
  | 0x08 => s.modBox k fun b => { b with inOp := w % 65536, inLen := b.inLen / 65536 * 65536 + w / 65536 }
  | 0x0C => s.modBox k fun b => { b with inLen := b.inLen % 65536 + w % 32 * 65536 }
  | _ => s

/-- A write of BAR0 of the management function of VCS k (R383, R389, R390): in BUSY a write of Command or of the payload is ignored and counted. -/
def State.mgmtWrite (s : State) (k a : Nat) (data : List Byte) : State :=
  let n := data.length
  let words := a % 4 == 0 && n % 4 == 0
  let busy := s.get (Fld.MBX_BOX_STATE_STATE k) == 1
  if 0x1020 ≤ a ∧ a + n ≤ 0x11020 then
    if busy then s.ignoreInput k
    else s.modBox k fun b => { b with input := (List.range n).foldl (fun x i => mput 0 x (a - 0x1020 + i) (data.getD i 0)) b.input }
  else if words && decide (0x1000 ≤ a ∧ a + n ≤ 0x1020) then
    if busy && decide (a < 0x1010 ∧ 0x1008 < a + n) then s.ignoreInput k
    else (List.range (n / 4)).foldl (fun s i => s.mbxWrite k (a - 0x1000 + 4 * i) (dwordAt data (4 * i))) s
  else if words && decide (0x30000 ≤ a ∧ a + n ≤ 0x38000) then
    (List.range (n / 4)).foldl (fun s i => let o := a - 0x30000 + 4 * i; s.setVcsMsix k (o / 16) (o % 16 / 4) (BitVec.ofNat 32 (dwordAt data (4 * i)))) s
  else s

/-- An access to BAR0 of the management function of VCS k (R383). -/
def State.mgmtBar (s : State) (k : Nat) (m : Msg) : State :=
  if m.kind == .ioPosted then s.mgmtWrite k m.addr m.data
  else s.used.queueMsg (m.completion .cpl (tabulate m.rdLen fun i => s.mgmtByte k (m.addr + i)))

/-- A request at IEP3, the management endpoint (R12, R286): configuration and memory requests to the functions the module presents, and management messages. -/
def State.serveManagement (s : State) (m : Msg) : State :=
  let v := m.vcs.getD 0
  match m.kind with
  | .cfgReq => s.cfgHere v m
  | .mctp => match m.group with
    | some g => s.fanout m g
    | none => s
  | .ioNp | .ioPosted =>
    match m.route with
    | .vf u => s.bar0 u.val m
    | .func1 => s.mgmtBar v m
    | _ => if m.kind == .ioNp then s.used.queueMsg (m.completion .cpl (openBytes s.free m.rdLen)) else s
  | _ => s

/-- IEP3 serves its input in its order. (log 224, DESIGN CHOICE) -/
def State.drainManagement (s : State) : State :=
  (mget [] s.fab.sw.iep 3).foldl State.serveManagement (s.modSw fun w => { w with iep := mput [] w.iep 3 [] })

/-- EHRURN_SLOT_ARBITRATE (R181): in the tile-to-hub direction with admission, in the hub-to-tile direction a slot for what the scheduler has dequeued. IEP3 then serves what has
entered its input. (log 93, DEDUCED) -/
def execEhrurnSlotArbitrate (t : Tile) (down : Bool) (s : State) : Host.Outcome State Fault Refusal :=
  done (s.begin.whenFabric fun s =>
    if !s.slotFree t.val (2 * t.val + bit down) then s
    else if down then s.arbitrateDown t.val
    else (s.arbitrateUp t.val).drainManagement)

end Sys2Proof.Machine
end

