-- ==== Sys2Proof/Machine/Dispatch.lean ====
section
/-! DEFINITION. Sys2Proof/Machine/Dispatch.lean: one arm per command, each one direct call of its meaning. -/
namespace Sys2Proof.Machine
open Sys2Proof

def exec (i : Instr) (s : State) : Host.Outcome State Fault Refusal :=
  match i with
  | .registerWrite m addr bytes value => Sys2Proof.Machine.execRegisterWrite m addr bytes value s
  | .read64Low m addr bytes => Sys2Proof.Machine.execRead64Low m addr bytes s
  | .read64High m addr bytes => Sys2Proof.Machine.execRead64High m addr bytes s
  | .write64Low m addr bytes value => Sys2Proof.Machine.execWrite64Low m addr bytes value s
  | .write64High m addr bytes value => Sys2Proof.Machine.execWrite64High m addr bytes value s
  | .mctpRegRead msg => Sys2Proof.Machine.execMctpRegRead msg s
  | .mctpRegWrite msg => Sys2Proof.Machine.execMctpRegWrite msg s
  | .hsTick smp => Sys2Proof.Machine.execHsTick smp s
  | .seatLost right => Sys2Proof.Machine.execSeatLost right s
  | .feedQualify f => Sys2Proof.Machine.execFeedQualify f s
  | .feedDisqualify f => Sys2Proof.Machine.execFeedDisqualify f s
  | .mgmtPllLock us => Sys2Proof.Machine.execMgmtPllLock us s
  | .strapChange pins => Sys2Proof.Machine.execStrapChange pins s
  | .autoRevertSet m value => Sys2Proof.Machine.execAutoRevertSet m value s
  | .pllUnlock pll => Sys2Proof.Machine.execPllUnlock pll s
  | .timeSetCommit m hi => Sys2Proof.Machine.execTimeSetCommit m hi s
  | .clkResetWrite m value => Sys2Proof.Machine.execClkResetWrite m value s
  | .fixonWrite addr words => Sys2Proof.Machine.execFixonWrite addr words s
  | .fixonMasked addr mask value => Sys2Proof.Machine.execFixonMasked addr mask value s
  | .fixonFill addr count value => Sys2Proof.Machine.execFixonFill addr count value s
  | .fixonPoll addr mask value timeout => Sys2Proof.Machine.execFixonPoll addr mask value timeout s
  | .fixonDelay us => Sys2Proof.Machine.execFixonDelay us s
  | .combTrainDone ok repaired => Sys2Proof.Machine.execCombTrainDone ok repaired s
  | .ehrurnTrainDone repairs failed => Sys2Proof.Machine.execEhrurnTrainDone repairs failed s
  | .laneCalDone lane ok => Sys2Proof.Machine.execLaneCalDone lane ok s
  | .adaptUpdate lane step snr => Sys2Proof.Machine.execAdaptUpdate lane step snr s
  | .laneSignalLoss lanes => Sys2Proof.Machine.execLaneSignalLoss lanes s
  | .laneCdrUnlock lanes => Sys2Proof.Machine.execLaneCdrUnlock lanes s
  | .laneEqDiverge lanes => Sys2Proof.Machine.execLaneEqDiverge lanes s
  | .laneErrorLimit errors flits => Sys2Proof.Machine.execLaneErrorLimit errors flits s
  | .laneWindowEnd lane e => Sys2Proof.Machine.execLaneWindowEnd lane e s
  | .signalReturn lane => Sys2Proof.Machine.execSignalReturn lane s
  | .laneTestStop m lane errors bits => Sys2Proof.Machine.execLaneTestStop m lane errors bits s
  | .laneTestRecal m lane value => Sys2Proof.Machine.execLaneTestRecal m lane value s
  | .laneTestPrbsLoop m lane value => Sys2Proof.Machine.execLaneTestPrbsLoop m lane value s
  | .laneTestPrbsExt m lane value => Sys2Proof.Machine.execLaneTestPrbsExt m lane value s
  | .laneTestBist m lane value => Sys2Proof.Machine.execLaneTestBist m lane value s
  | .laneBistDone lane ok => Sys2Proof.Machine.execLaneBistDone lane ok s
  | .laneTestInvalid m lane value => Sys2Proof.Machine.execLaneTestInvalid m lane value s
  | .eyePointDone lane errors => Sys2Proof.Machine.execEyePointDone lane errors s
  | .bifurWrite m k value => Sys2Proof.Machine.execBifurWrite m k value s
  | .bifurApplyDone k => Sys2Proof.Machine.execBifurApplyDone k s
  | .portCfgWrite m p value => Sys2Proof.Machine.execPortCfgWrite m p value s
  | .portHold m p value => Sys2Proof.Machine.execPortHold m p value s
  | .portRelease m p value => Sys2Proof.Machine.execPortRelease m p value s
  | .portRetrain m p value => Sys2Proof.Machine.execPortRetrain m p value s
  | .linkL0Entry p e => Sys2Proof.Machine.execLinkL0Entry p e s
  | .rateCheckTimeout p => Sys2Proof.Machine.execRateCheckTimeout p s
  | .linkRecoveryEntry p => Sys2Proof.Machine.execLinkRecoveryEntry p s
  | .linkLoss p => Sys2Proof.Machine.execLinkLoss p s
  | .dsxHelloRx p msg => Sys2Proof.Machine.execDsxHelloRx p msg s
  | .dsxHelloAckRx p msg => Sys2Proof.Machine.execDsxHelloAckRx p msg s
  | .dsxHelloTimeout p => Sys2Proof.Machine.execDsxHelloTimeout p s
  | .dsxSleepReqRx p msg => Sys2Proof.Machine.execDsxSleepReqRx p msg s
  | .dsxSleepAckRx p msg => Sys2Proof.Machine.execDsxSleepAckRx p msg s
  | .dsxSleepNakRx p msg => Sys2Proof.Machine.execDsxSleepNakRx p msg s
  | .dsxWakeReqRx p msg => Sys2Proof.Machine.execDsxWakeReqRx p msg s
  | .dsxEiosqRx p => Sys2Proof.Machine.execDsxEiosqRx p s
  | .dsxRequestTimeout p rx => Sys2Proof.Machine.execDsxRequestTimeout p rx s
  | .dsxRxSignalDetect p => Sys2Proof.Machine.execDsxRxSignalDetect p s
  | .dsxRxFirstFlit p => Sys2Proof.Machine.execDsxRxFirstFlit p s
  | .dsxCmdTxSleep m p value => Sys2Proof.Machine.execDsxCmdTxSleep m p value s
  | .dsxCmdRxSleep m p value => Sys2Proof.Machine.execDsxCmdRxSleep m p value s
  | .dsxCmdTxWake m p value => Sys2Proof.Machine.execDsxCmdTxWake m p value s
  | .dsxCmdRxWake m p value => Sys2Proof.Machine.execDsxCmdRxWake m p value s
  | .requestIngress p m => Sys2Proof.Machine.execRequestIngress p m s
  | .answerReceive p m => Sys2Proof.Machine.execAnswerReceive p m s
  | .trackerQuarantineExpire t => Sys2Proof.Machine.execTrackerQuarantineExpire t s
  | .bindVppb k v n p ld => Sys2Proof.Machine.execBindVppb k v n p ld s
  | .unbindOpt0 k v j => Sys2Proof.Machine.execUnbindOpt0 k v j s
  | .unbindOpt1 k v j => Sys2Proof.Machine.execUnbindOpt1 k v j s
  | .unbindOpt2 k v j => Sys2Proof.Machine.execUnbindOpt2 k v j s
  | .vppbLinkDisable n on => Sys2Proof.Machine.execVppbLinkDisable n on s
  | .vppbDpcClear n => Sys2Proof.Machine.execVppbDpcClear n s
  | .flushComplete f => Sys2Proof.Machine.execFlushComplete f s
  | .vcsEntryWrite m v value => Sys2Proof.Machine.execVcsEntryWrite m v value s
  | .hdmDecoderCommit v d base size iw ig lock type targets => Sys2Proof.Machine.execHdmDecoderCommit v d base size iw ig lock type targets s
  | .setLdAllocations k p lds request response => Sys2Proof.Machine.execSetLdAllocations k p lds request response s
  | .ehrurnSlotArbitrate t down => Sys2Proof.Machine.execEhrurnSlotArbitrate t down s
  | .admitWaitTimeout src svc => Sys2Proof.Machine.execAdmitWaitTimeout src svc s
  | .ehrurnSlotRx t down beats => Sys2Proof.Machine.execEhrurnSlotRx t down beats s
  | .ehrurnNakRx t down ack => Sys2Proof.Machine.execEhrurnNakRx t down ack s
  | .ehrurnAckTimeout t down => Sys2Proof.Machine.execEhrurnAckTimeout t down s
  | .ehrurnFail t down => Sys2Proof.Machine.execEhrurnFail t down s
  | .schedulerDequeue g same stalls err => Sys2Proof.Machine.execSchedulerDequeue g same stalls err s
  | .shapeHoldTimeout p svc u => Sys2Proof.Machine.execShapeHoldTimeout p svc u s
  | .bucketRefill same b => Sys2Proof.Machine.execBucketRefill same b s
  | .shaperCommit m x value => Sys2Proof.Machine.execShaperCommit m x value s
  | .policerCommit m u value => Sys2Proof.Machine.execPolicerCommit m u value s
  | .homeBusyRelease h sector line => Sys2Proof.Machine.execHomeBusyRelease h sector line s
  | .holdExpire h sector line => Sys2Proof.Machine.execHoldExpire h sector line s
  | .conflictQueueStart h sector => Sys2Proof.Machine.execConflictQueueStart h sector s
  | .dirBucketFetchDone h sector => Sys2Proof.Machine.execDirBucketFetchDone h sector s
  | .biTimeout tag slot => Sys2Proof.Machine.execBiTimeout tag slot s
  | .hiveEnable m h => Sys2Proof.Machine.execHiveEnable m h s
  | .hiveDisable m h => Sys2Proof.Machine.execHiveDisable m h s
  | .hiveDownWrite m h => Sys2Proof.Machine.execHiveDownWrite m h s
  | .hiveRecovered m h => Sys2Proof.Machine.execHiveRecovered m h s
  | .hiveClearDone h => Sys2Proof.Machine.execHiveClearDone h s
  | .hgenClearDone h => Sys2Proof.Machine.execHgenClearDone h s
  | .hostSlotEnable m h j value => Sys2Proof.Machine.execHostSlotEnable m h j value s
  | .hostSlotDisable m h j value => Sys2Proof.Machine.execHostSlotDisable m h j value s
  | .hostLeave m h j => Sys2Proof.Machine.execHostLeave m h j s
  | .hostSweepDone h j => Sys2Proof.Machine.execHostSweepDone h j s
  | .sectorResolve h sector => Sys2Proof.Machine.execSectorResolve h sector s
  | .recoverySweepDone h => Sys2Proof.Machine.execRecoverySweepDone h s
  | .dircLookup m lo hi => Sys2Proof.Machine.execDircLookup m lo hi s
  | .combArbDecide ch reqs => Sys2Proof.Machine.execCombArbDecide ch reqs s
  | .combBackoffExpire ch client => Sys2Proof.Machine.execCombBackoffExpire ch client s
  | .combGrantEnd ch beats misses err => Sys2Proof.Machine.execCombGrantEnd ch beats misses err s
  | .pcFail pc => Sys2Proof.Machine.execPcFail pc s
  | .partBound client => Sys2Proof.Machine.execPartBound client s
  | .poolWindowEnable m n value => Sys2Proof.Machine.execPoolWindowEnable m n value s
  | .hatRuleWrite m n w => Sys2Proof.Machine.execHatRuleWrite m n w s
  | .hatCommit m value => Sys2Proof.Machine.execHatCommit m value s
  | .hatTileSwap t => Sys2Proof.Machine.execHatTileSwap t s
  | .vfEnable m v value => Sys2Proof.Machine.execVfEnable m v value s
  | .vfFlr v => Sys2Proof.Machine.execVfFlr v s
  | .chEnable m c value => Sys2Proof.Machine.execChEnable m c value s
  | .chDisable m c => Sys2Proof.Machine.execChDisable m c s
  | .chDisabled c => Sys2Proof.Machine.execChDisabled c s
  | .chReset m c => Sys2Proof.Machine.execChReset m c s
  | .chTailWrite m c value => Sys2Proof.Machine.execChTailWrite m c value s
  | .moverDescFetched c bytes error => Sys2Proof.Machine.execMoverDescFetched c bytes error s
  | .moverCopy c => Sys2Proof.Machine.execMoverCopy c s
  | .moverFill c => Sys2Proof.Machine.execMoverFill c s
  | .moverPartAnswer arrives => Sys2Proof.Machine.execMoverPartAnswer arrives s
  | .moverCompletion c error => Sys2Proof.Machine.execMoverCompletion c error s
  | .dlogEnable m n value => Sys2Proof.Machine.execDlogEnable m n value s
  | .dlogActive n => Sys2Proof.Machine.execDlogActive n s
  | .dlogLineFetchDone line => Sys2Proof.Machine.execDlogLineFetchDone line s
  | .dlogHarvest m value => Sys2Proof.Machine.execDlogHarvest m value s
  | .tandemIdleRx h => Sys2Proof.Machine.execTandemIdleRx h s
  | .tandemTrainRx h t => Sys2Proof.Machine.execTandemTrainRx h t s
  | .tandemMirrorRx h fseq restart => Sys2Proof.Machine.execTandemMirrorRx h fseq restart s
  | .tandemAlignBlockRx lane block => Sys2Proof.Machine.execTandemAlignBlockRx lane block s
  | .tandemLaneFail j cause => Sys2Proof.Machine.execTandemLaneFail j cause s
  | .recDir seq h sector e => Sys2Proof.Machine.execRecDir seq h sector e s
  | .recReg seq region addr words => Sys2Proof.Machine.execRecReg seq region addr words s
  | .recCommit seq epoch full rules => Sys2Proof.Machine.execRecCommit seq epoch full rules s
  | .recEpoch seq mepoch time => Sys2Proof.Machine.execRecEpoch seq mepoch time s
  | .recBulkBegin seq region => Sys2Proof.Machine.execRecBulkBegin seq region s
  | .recBulkDir seq h group count entries => Sys2Proof.Machine.execRecBulkDir seq h group count entries s
  | .recBulkEnd seq region => Sys2Proof.Machine.execRecBulkEnd seq region s
  | .recAck ackseq mepoch => Sys2Proof.Machine.execRecAck ackseq mepoch s
  | .recResend from_ => Sys2Proof.Machine.execRecResend from_ s
  | .waggleBlockRx b crc damaged => Sys2Proof.Machine.execWaggleBlockRx b crc damaged s
  | .waggleFailstopRx b crc damaged => Sys2Proof.Machine.execWaggleFailstopRx b crc damaged s
  | .waggleSwapReqRx b crc damaged => Sys2Proof.Machine.execWaggleSwapReqRx b crc damaged s
  | .waggleHandoverRx b crc damaged => Sys2Proof.Machine.execWaggleHandoverRx b crc damaged s
  | .tdmEnable m value => Sys2Proof.Machine.execTdmEnable m value s
  | .tdmDisable m value => Sys2Proof.Machine.execTdmDisable m value s
  | .tdmCmdSwap m => Sys2Proof.Machine.execTdmCmdSwap m s
  | .tdmCmdPromote m => Sys2Proof.Machine.execTdmCmdPromote m s
  | .tdmCmdRetrain m => Sys2Proof.Machine.execTdmCmdRetrain m s
  | .tdmCmdResyncAll m => Sys2Proof.Machine.execTdmCmdResyncAll m s
  | .swarmNoticeRx p msg => Sys2Proof.Machine.execSwarmNoticeRx p msg s
  | .faultMessage msg => Sys2Proof.Machine.execFaultMessage msg s
  | .fltAckWrite m seq => Sys2Proof.Machine.execFltAckWrite m seq s
  | .fltFirstClear m c value => Sys2Proof.Machine.execFltFirstClear m c value s
  | .errAckWrite m page value => Sys2Proof.Machine.execErrAckWrite m page value s
  | .fltInject m value => Sys2Proof.Machine.execFltInject m value s
  | .failStop msg => Sys2Proof.Machine.execFailStop msg s
  | .keeperLockstep c => Sys2Proof.Machine.execKeeperLockstep c s
  | .keeperWatchdog c => Sys2Proof.Machine.execKeeperWatchdog c s
  | .wdtKick m value => Sys2Proof.Machine.execWdtKick m value s
  | .keeperSramError c addr uncorrectable => Sys2Proof.Machine.execKeeperSramError c addr uncorrectable s
  | .mtimeCompare c written => Sys2Proof.Machine.execMtimeCompare c written s
  | .intcLevelRise n => Sys2Proof.Machine.execIntcLevelRise n s
  | .intcPendSet m w bits => Sys2Proof.Machine.execIntcPendSet m w bits s
  | .intcPendClr m w bits => Sys2Proof.Machine.execIntcPendClr m w bits s
  | .intcEnSet m w bits => Sys2Proof.Machine.execIntcEnSet m w bits s
  | .intcEnClr m w bits => Sys2Proof.Machine.execIntcEnClr m w bits s
  | .intcVectorFetch c n => Sys2Proof.Machine.execIntcVectorFetch c n s
  | .intcComplete m c value => Sys2Proof.Machine.execIntcComplete m c value s
  | .mbxDoorbell k opcode payload irq => Sys2Proof.Machine.execMbxDoorbell k opcode payload irq s
  | .mbxCommandDone k => Sys2Proof.Machine.execMbxCommandDone k s
  | .mbxBoxReset k cause => Sys2Proof.Machine.execMbxBoxReset k cause s
  | .mbxCfgWrite m value => Sys2Proof.Machine.execMbxCfgWrite m value s
  | .identify k => Sys2Proof.Machine.execIdentify k s
  | .backgroundOperationStatus k => Sys2Proof.Machine.execBackgroundOperationStatus k s
  | .requestAbortBackgroundOp k => Sys2Proof.Machine.execRequestAbortBackgroundOp k s
  | .getEventRecords k => Sys2Proof.Machine.execGetEventRecords k s
  | .clearEventRecords k all count => Sys2Proof.Machine.execClearEventRecords k all count s
  | .getFwInfo k => Sys2Proof.Machine.execGetFwInfo k s
  | .transferFw k action slot img => Sys2Proof.Machine.execTransferFw k action slot img s
  | .activateFw k atReset slot => Sys2Proof.Machine.execActivateFw k atReset slot s
  | .getTimestamp k => Sys2Proof.Machine.execGetTimestamp k s
  | .setTimestamp k time => Sys2Proof.Machine.execSetTimestamp k time s
  | .getLog k effects => Sys2Proof.Machine.execGetLog k effects s
  | .getPhysicalPortState k ports => Sys2Proof.Machine.execGetPhysicalPortState k ports s
  | .physicalPortControl k p op => Sys2Proof.Machine.execPhysicalPortControl k p op s
  | .sendPpbConfigRequest k p reg write => Sys2Proof.Machine.execSendPpbConfigRequest k p reg write s
  | .getVirtualSwitchInfo k v => Sys2Proof.Machine.execGetVirtualSwitchInfo k v s
  | .generateAerEvent k v j code => Sys2Proof.Machine.execGenerateAerEvent k v j code s
  | .sendLdConfigRequest k p ld reg write => Sys2Proof.Machine.execSendLdConfigRequest k p ld reg write s
  | .sendLdMemoryRequest k p ld addr len write => Sys2Proof.Machine.execSendLdMemoryRequest k p ld addr len write s
  | .getModuleState k => Sys2Proof.Machine.execGetModuleState k s
  | .getDirtyLogInfo k => Sys2Proof.Machine.execGetDirtyLogInfo k s
  | .harvestAndClearDirtyLog k => Sys2Proof.Machine.execHarvestAndClearDirtyLog k s
  | .getFaultLog k => Sys2Proof.Machine.execGetFaultLog k s
  | .getFailStopRecord k => Sys2Proof.Machine.execGetFailStopRecord k s
  | .acknowledgeFaultLog k => Sys2Proof.Machine.execAcknowledgeFaultLog k s
  | .pairCommand k => Sys2Proof.Machine.execPairCommand k s
  | .hiveControl k => Sys2Proof.Machine.execHiveControl k s
  | .fixonXferStart k => Sys2Proof.Machine.execFixonXferStart k s
  | .fixonXferContinue k => Sys2Proof.Machine.execFixonXferContinue k s
  | .fixonXferEnd k => Sys2Proof.Machine.execFixonXferEnd k s
  | .getFixonSlots k => Sys2Proof.Machine.execGetFixonSlots k s
  | .selftestDone ok => Sys2Proof.Machine.execSelftestDone ok s
  | .programOwner m slot confirm => Sys2Proof.Machine.execProgramOwner m slot confirm s
  | .revokeOwner m slot confirm => Sys2Proof.Machine.execRevokeOwner m slot confirm s
  | .requireFixonSig m confirm => Sys2Proof.Machine.execRequireFixonSig m confirm s
  | .spdmKeyExchange t => Sys2Proof.Machine.execSpdmKeyExchange t s
  | .spdmGetMeasurements t index => Sys2Proof.Machine.execSpdmGetMeasurements t index s
  | .spdmRequest t req => Sys2Proof.Machine.execSpdmRequest t req s
  | .ideEstablish m p cm => Sys2Proof.Machine.execIdeEstablish m p cm s
  | .ideRekey m p cm => Sys2Proof.Machine.execIdeRekey m p cm s
  | .ideStop m p cm => Sys2Proof.Machine.execIdeStop m p cm s
  | .ideAutoRekey p cm => Sys2Proof.Machine.execIdeAutoRekey p cm s
  | .ideKeyProg p cm kset tx rx => Sys2Proof.Machine.execIdeKeyProg p cm kset tx rx s
  | .ideKSetGo p cm kset => Sys2Proof.Machine.execIdeKSetGo p cm kset s
  | .ideKSetStop p cm => Sys2Proof.Machine.execIdeKSetStop p cm s
  | .ideCheckFail p cm => Sys2Proof.Machine.execIdeCheckFail p cm s
  | .dbgNonceReq m => Sys2Proof.Machine.execDbgNonceReq m s
  | .dbgUnlock m => Sys2Proof.Machine.execDbgUnlock m s
  | .dbgVerifyDone sig => Sys2Proof.Machine.execDbgVerifyDone sig s
  | .perfSnapTake m k value => Sys2Proof.Machine.execPerfSnapTake m k value s
  | .perfSnapDone k => Sys2Proof.Machine.execPerfSnapDone k s
  | .userCounterRead v off bytes => Sys2Proof.Machine.execUserCounterRead v off bytes s
  | .perfOvfTrigger k => Sys2Proof.Machine.execPerfOvfTrigger k s
  | .latencySample x => Sys2Proof.Machine.execLatencySample x s
  | .perfRingMark m value => Sys2Proof.Machine.execPerfRingMark m value s
  | .perfRingRd m value => Sys2Proof.Machine.execPerfRingRd m value s
  | .evtPendSet m page bits => Sys2Proof.Machine.execEvtPendSet m page bits s
  | .evtPendClr m page bits => Sys2Proof.Machine.execEvtPendClr m page bits s
  | .evtEnSet m page bits => Sys2Proof.Machine.execEvtEnSet m page bits s
  | .evtEnClr m page bits => Sys2Proof.Machine.execEvtEnClr m page bits s
  | .pageLockWrite m page value => Sys2Proof.Machine.execPageLockWrite m page value s
  | .devLockAll m value => Sys2Proof.Machine.execDevLockAll m value s
  | .nvsCommitParam m value => Sys2Proof.Machine.execNvsCommitParam m value s
  | .nvUe item => Sys2Proof.Machine.execNvUe item s
  | .cpresChange k low => Sys2Proof.Machine.execCpresChange k low s
  | .linkL1Entry p => Sys2Proof.Machine.execLinkL1Entry p s
  | .auxRailUp => Sys2Proof.Machine.execAuxRailUp s
  | .auxRailDown => Sys2Proof.Machine.execAuxRailDown s
  | .seatDebounceExpire => Sys2Proof.Machine.execSeatDebounceExpire s
  | .retryTimeExpire => Sys2Proof.Machine.execRetryTimeExpire s
  | .rampComplete => Sys2Proof.Machine.execRampComplete s
  | .rampTimeout => Sys2Proof.Machine.execRampTimeout s
  | .faultTimerExpire => Sys2Proof.Machine.execFaultTimerExpire s
  | .severeOcTrip => Sys2Proof.Machine.execSevereOcTrip s
  | .revertDelayExpire => Sys2Proof.Machine.execRevertDelayExpire s
  | .switchHoldoffExpire => Sys2Proof.Machine.execSwitchHoldoffExpire s
  | .switchTargetClose => Sys2Proof.Machine.execSwitchTargetClose s
  | .switchComplete => Sys2Proof.Machine.execSwitchComplete s
  | .switchTimeout => Sys2Proof.Machine.execSwitchTimeout s
  | .fetOffComplete => Sys2Proof.Machine.execFetOffComplete s
  | .mgmtRailOut => Sys2Proof.Machine.execMgmtRailOut s
  | .pwrMeasUpdate => Sys2Proof.Machine.execPwrMeasUpdate s
  | .energyPersist => Sys2Proof.Machine.execEnergyPersist s
  | .thermWarn => Sys2Proof.Machine.execThermWarn s
  | .thermTrip => Sys2Proof.Machine.execThermTrip s
  | .tcxoSettleExpire => Sys2Proof.Machine.execTcxoSettleExpire s
  | .stage3Timeout => Sys2Proof.Machine.execStage3Timeout s
  | .refclkEdgesSeen => Sys2Proof.Machine.execRefclkEdgesSeen s
  | .refclkSettleExpire => Sys2Proof.Machine.execRefclkSettleExpire s
  | .refclkLoss => Sys2Proof.Machine.execRefclkLoss s
  | .tcxoLoss => Sys2Proof.Machine.execTcxoLoss s
  | .perstAssert => Sys2Proof.Machine.execPerstAssert s
  | .perstRelease => Sys2Proof.Machine.execPerstRelease s
  | .fabricResetEnd => Sys2Proof.Machine.execFabricResetEnd s
  | .secureBootDone => Sys2Proof.Machine.execSecureBootDone s
  | .fabricPllsLock => Sys2Proof.Machine.execFabricPllsLock s
  | .fixonPollTimeout => Sys2Proof.Machine.execFixonPollTimeout s
  | .fixonDelayExpire => Sys2Proof.Machine.execFixonDelayExpire s
  | .fixonEnd => Sys2Proof.Machine.execFixonEnd s
  | .stageTimeout => Sys2Proof.Machine.execStageTimeout s
  | .combClearDone => Sys2Proof.Machine.execCombClearDone s
  | .lanesCalibrated => Sys2Proof.Machine.execLanesCalibrated s
  | .privFanout => Sys2Proof.Machine.execPrivFanout s
  | .homeMemRd check => Sys2Proof.Machine.execHomeMemRd check s
  | .homeMemInv check => Sys2Proof.Machine.execHomeMemInv check s
  | .homeMemWr check => Sys2Proof.Machine.execHomeMemWr check s
  | .homeMemClnEvct check => Sys2Proof.Machine.execHomeMemClnEvct check s
  | .homeMemSpecRd check => Sys2Proof.Machine.execHomeMemSpecRd check s
  | .homeBiConflict check => Sys2Proof.Machine.execHomeBiConflict check s
  | .homeWriteback check => Sys2Proof.Machine.execHomeWriteback check s
  | .homeBirsp check => Sys2Proof.Machine.execHomeBirsp check s
  | .homeTargetAnswer check => Sys2Proof.Machine.execHomeTargetAnswer check s
  | .dircLookupDone => Sys2Proof.Machine.execDircLookupDone s
  | .scrubPassDone => Sys2Proof.Machine.execScrubPassDone s
  | .poolRequest => Sys2Proof.Machine.execPoolRequest s
  | .hatRefillDone => Sys2Proof.Machine.execHatRefillDone s
  | .oldEpochRetire => Sys2Proof.Machine.execOldEpochRetire s
  | .hatCommitTimeout => Sys2Proof.Machine.execHatCommitTimeout s
  | .dlogHarvestDone => Sys2Proof.Machine.execDlogHarvestDone s
  | .bulkResyncStart => Sys2Proof.Machine.execBulkResyncStart s
  | .tandemTrainTimeout => Sys2Proof.Machine.execTandemTrainTimeout s
  | .tandemDownExpire => Sys2Proof.Machine.execTandemDownExpire s
  | .tandemAlignPeriodic => Sys2Proof.Machine.execTandemAlignPeriodic s
  | .tandemCreditCheck => Sys2Proof.Machine.execTandemCreditCheck s
  | .recPad => Sys2Proof.Machine.execRecPad s
  | .epochTimerExpire => Sys2Proof.Machine.execEpochTimerExpire s
  | .ackTimeout => Sys2Proof.Machine.execAckTimeout s
  | .resendRepeat => Sys2Proof.Machine.execResendRepeat s
  | .waggleBlockTx => Sys2Proof.Machine.execWaggleBlockTx s
  | .waggleSilence => Sys2Proof.Machine.execWaggleSilence s
  | .waggleOnly => Sys2Proof.Machine.execWaggleOnly s
  | .cableOut => Sys2Proof.Machine.execCableOut s
  | .arbWaitExpire => Sys2Proof.Machine.execArbWaitExpire s
  | .swapDrainDone => Sys2Proof.Machine.execSwapDrainDone s
  | .swapTimeout => Sys2Proof.Machine.execSwapTimeout s
  | .promotionComplete => Sys2Proof.Machine.execPromotionComplete s
  | .failstopRecordWritten => Sys2Proof.Machine.execFailstopRecordWritten s
  | .policyViolation => Sys2Proof.Machine.execPolicyViolation s
  | .entropyHealthFail => Sys2Proof.Machine.execEntropyHealthFail s
  | .provDone => Sys2Proof.Machine.execProvDone s
  | .dbgNonceExpire => Sys2Proof.Machine.execDbgNonceExpire s
  | .perfExportTimer => Sys2Proof.Machine.execPerfExportTimer s
  | .perfRingWinReady => Sys2Proof.Machine.execPerfRingWinReady s
  | .nvsCommitDone => Sys2Proof.Machine.execNvsCommitDone s
  | .cooldownFlagDecay => Sys2Proof.Machine.execCooldownFlagDecay s
  | .fabricPllTimeout => Sys2Proof.Machine.execFabricPllTimeout s
  | .waggleBlockLost => Sys2Proof.Machine.execWaggleBlockLost s
  | .policyPartitionExit => Sys2Proof.Machine.execPolicyPartitionExit s
  | .standbySwapToExpire => Sys2Proof.Machine.execStandbySwapToExpire s
  | .eyeStart m lane => Sys2Proof.Machine.execEyeStart m lane s
  | .eyeStop m lane => Sys2Proof.Machine.execEyeStop m lane s
  | .marginCommand lane c => Sys2Proof.Machine.execMarginCommand lane c s
  | .dsxTxIdleExpire p => Sys2Proof.Machine.execDsxTxIdleExpire p s
  | .dsxRxIdleExpire p => Sys2Proof.Machine.execDsxRxIdleExpire p s
  | .dsxRetExpire p => Sys2Proof.Machine.execDsxRetExpire p s
  | .dsxFlitWake p => Sys2Proof.Machine.execDsxFlitWake p s
  | .dsxPreambleEnd p => Sys2Proof.Machine.execDsxPreambleEnd p s
  | .moverNop c => Sys2Proof.Machine.execMoverNop c s
  | .fltBoardAckWrite m seq => Sys2Proof.Machine.execFltBoardAckWrite m seq s
  | .intcBadClear m value => Sys2Proof.Machine.execIntcBadClear m value s
  | .getResponseMessageLimit k => Sys2Proof.Machine.execGetResponseMessageLimit k s
  | .setResponseMessageLimit k limit => Sys2Proof.Machine.execSetResponseMessageLimit k limit s
  | .getEventInterruptPolicy k => Sys2Proof.Machine.execGetEventInterruptPolicy k s
  | .setEventInterruptPolicy k vector => Sys2Proof.Machine.execSetEventInterruptPolicy k vector s
  | .getSupportedLogs k => Sys2Proof.Machine.execGetSupportedLogs k s
  | .identifySwitchDevice k => Sys2Proof.Machine.execIdentifySwitchDevice k s
  | .tunnelManagementCommand k p request response => Sys2Proof.Machine.execTunnelManagementCommand k p request response s
  | .fixonXferAbort k => Sys2Proof.Machine.execFixonXferAbort k s
  | .xbarPrivClear m value => Sys2Proof.Machine.execXbarPrivClear m value s
  | .bufLowWaterLoad m value => Sys2Proof.Machine.execBufLowWaterLoad m value s
  | .homeCqHwmClear m value => Sys2Proof.Machine.execHomeCqHwmClear m value s
  | .carbWaitMaxClear m c value => Sys2Proof.Machine.execCarbWaitMaxClear m c value s
  | .perfHistMaxClear m h value => Sys2Proof.Machine.execPerfHistMaxClear m h value s
  | .perfOvfMissedClear m k value => Sys2Proof.Machine.execPerfOvfMissedClear m k value s
  | .linkL0pChange p active => Sys2Proof.Machine.execLinkL0pChange p active s
  | .stackRefresh2xChange temp => Sys2Proof.Machine.execStackRefresh2xChange temp s
  | .waggleLockChange lock inverted => Sys2Proof.Machine.execWaggleLockChange lock inverted s
  | .prbsCheckerLock lane lock errors bits => Sys2Proof.Machine.execPrbsCheckerLock lane lock errors bits s

end Sys2Proof.Machine
end

