-- ==== Sys2Proof/Safety.lean ====
section
/-! DEFINITION. Sys2Proof/Safety.lean: what counts as a good state and a completed step, and when a command reaches its own effect: the terms the statements use. -/
namespace Sys2Proof.Machine
open Sys2Proof

/-- The command completes: exec answers a next state, and P holds of it. -/
def Answers (c : Instr) (s : State) (P : State → Prop) : Prop := ∃ t, exec c s = .next t ∧ P t

/-- The management domain is out of reset and not stopped (R71, R437). -/
def State.mgmtRuns (s : State) : Bool := s.clk.mgmtUp && !s.clk.mgmtStopped

/-- The fabric domain is out of reset and the module is not stopped (R71). -/
def State.fabricRuns (s : State) : Bool := s.live 0x31 && !s.clk.mgmtStopped

/-- A write of a master to a page reaches the page's registers: the management fabric runs, the master's path carries the write, and the page's domain is out of reset (R431,
R434, R437); the policy partition runs (R375). -/
def State.takes (s : State) (m : Master) (pg : Nat) : Bool :=
  s.mgmtRuns && (m != .policy || s.get Fld.MBX_POLICY_STATE == 1) && s.pathWrites m pg && s.live pg

/-- Both seating pins read seated, and none of the failures that R39 tests first is present: severe overcurrent, the fault timer, overtemperature. -/
def State.calm (s : State) : Bool :=
  s.hs.smp.seatL && s.hs.smp.seatR && !s.hs.severe && !s.ftExpired && decide (s.hs.smp.fetA ≤ 214) && decide (s.hs.smp.fetB ≤ 214)

/-! ### The home at rest -/

/-- The home has nothing under way: no transaction, wait, snoop, forwarded request, hold, fetch, lookup or clearing. -/
def State.homeIdle (s : State) : Bool :=
  let h := s.fab.home
  h.txns.isEmpty && h.queue.isEmpty && h.snoops.isEmpty && h.fwd.isEmpty && h.holds.isEmpty && h.fetches.isEmpty && h.lookups.isEmpty && h.clearing.isEmpty

/-- No host slot of a hive is LEAVING. -/
def State.noneLeaving (s : State) (h : Nat) : Bool := (List.range 64).all fun i => s.slotState h i != 3

/-- The command works on FABRIC of an active module: FABRIC runs and the role serves (R308). -/
def State.serving (s : State) : Bool := s.fabricRuns && s.isActive

/-- Box k has the command `op` in service, runs it, and may issue its class (R386, R389). -/
def State.runs (s : State) (k op : Nat) (c : CmdClass) : Bool :=
  s.mgmtRuns && (s.box k).orphan.isNone && s.get (Fld.MBX_BOX_STATE_STATE k) == 1 && (s.box k).opcode == op && (s.box k).pendingResult.isNone && s.boxMay k c

/-! ### Frames -/

/-- The parts of the state beside the registers. The settling lines (ALERT_N, the levels seen high) belong to no part: they follow the rest at the end of every command. -/
inductive Part where
  | ctrs | latches | held | hs | clk | boot | nv | flt | perf | keeper | sec | mbx | pair | tiles | fab | out | free | pending
deriving DecidableEq, Repr

/-- Two states agree in a part. -/
def State.Same (s t : State) : Part → Prop
  | .ctrs => t.ctrs = s.ctrs
  | .latches => t.latches = s.latches
  | .held => t.held = s.held
  | .hs => t.hs = s.hs
  | .clk => t.clk = s.clk
  | .boot => t.boot = s.boot
  | .nv => t.nv = s.nv
  | .flt => { t.flt with alert := false } = { s.flt with alert := false }
  | .perf => t.perf = s.perf
  | .keeper => { t.keeper with sampled := [] } = { s.keeper with sampled := [] }
  | .sec => t.sec = s.sec
  | .mbx => t.mbx = s.mbx
  | .pair => t.fab.pair = s.fab.pair
  | .tiles => t.fab.lag = s.fab.lag
  | .fab => { t.fab with pair := Pair.reset, lag := [] } = { s.fab with pair := Pair.reset, lag := [] }
  | .out => t.out = []
  | .free => t.freeCtr = s.freeCtr
  | .pending => t.pending = s.pending

/-- Two fields share no bit. -/
def Field.apart (g f : Field) : Prop := g.addr ≠ f.addr ∨ g.lo + g.width ≤ f.lo ∨ f.lo + f.width ≤ g.lo

/-- A register as one field. -/
def Field.all (a : Nat) : Field := ⟨a, 0, 32⟩

/-- The bit of an event in EVT_PEND of its page (R441). -/
def Event.field (e : Event) : Field := ⟨evtPendAddr e.page, e.bit, 1⟩

/-- The frame of a command: every part but those listed is as before, nothing is put out unless `out` is listed, and every bit of every register but those of the fields listed
reads as before. The ALERT event is the settling line's (R358) and always excepted. -/
def Frame (parts : List Part) (flds : List Field) (s t : State) : Prop :=
  (∀ p, p ∉ parts → s.Same t p) ∧
    ∀ g : Field, g.lo + g.width ≤ 32 → g.apart Evt.FLT_ALERT.field → (∀ f ∈ flds, g.apart f) → t.get g = s.get g

/-- What mirroring a command's changes touches (R306, R320 to R324), the copies of the tiles with it (R158): the parts and the fields. -/
def mirrorParts : List Part := [.ctrs, .pair, .tiles, .out]
def mirrorFields : List Field := [Fld.TDM_HSEQ_SEQ, Fld.TDM_NDSEQ_SEQ, Fld.TDM_JFILL_KIB, Fld.TDM_UNKNOWN_REGIONS, Evt.TDM_OVERFLOW.field]

/-- A block put out on the Waggle lane that opens with the comma of FAILSTOP (R315). -/
def Output.isFailstop : Output → Bool
  | .waggle f _ => f
  | _ => false

/-! ### Settled lines and the canonical form -/

/-- Every interrupt source that is held as seen high has its level high (R377), and ALERT_N is driven as the log and the mask say (R358). -/
def State.LinesSettled (s : State) : Prop := (∀ n ∈ s.keeper.sampled, s.level n = true) ∧ s.flt.alert = s.alertLevel

/-- The register space, the counters and the Comb pool are in their canonical form: equal contents are equal data. -/
def State.Canonical (s : State) : Prop :=
  sparseWf resetWord s.regs = true ∧ sparseWf (fun _ => (0 : Word64)) s.ctrs = true ∧ sparseWf (fun _ => (0 : BitVec 8)) s.fab.comb.pool = true

end Sys2Proof.Machine
namespace Sys2Proof

/-- The commands that work on the FABRIC domain alone, and do nothing while it does not run (R71). -/
def Instr.fabricOnly : Instr → Bool
  | .laneCalDone _ _ | .adaptUpdate _ _ _ | .laneSignalLoss _ | .laneCdrUnlock _ | .laneEqDiverge _ | .laneErrorLimit _ _ | .laneWindowEnd _ _ | .signalReturn _
  | .laneBistDone _ _ | .eyePointDone _ _ | .bifurApplyDone _ | .linkL0Entry _ _ | .rateCheckTimeout _ | .linkRecoveryEntry _ | .linkLoss _ | .dsxHelloTimeout _
  | .requestIngress _ _ | .answerReceive _ _ | .trackerQuarantineExpire _ | .vppbLinkDisable _ _ | .vppbDpcClear _ | .flushComplete _ | .hdmDecoderCommit _ _ _ _ _ _ _ _ _
  | .ehrurnSlotArbitrate _ _ | .admitWaitTimeout _ _ | .ehrurnSlotRx _ _ _ | .ehrurnNakRx _ _ _ | .ehrurnAckTimeout _ _ | .ehrurnFail _ _ | .schedulerDequeue _ _ _ _
  | .shapeHoldTimeout _ _ _ | .bucketRefill _ _ | .combArbDecide _ _ | .combBackoffExpire _ _ | .combGrantEnd _ _ _ _ | .pcFail _ | .partBound _ | .hatTileSwap _
  | .chDisabled _ | .dlogActive _ | .dlogLineFetchDone _ | .tandemIdleRx _ | .tandemTrainRx _ _ | .tandemMirrorRx _ _ _ | .tandemAlignBlockRx _ _ | .tandemLaneFail _ _
  | .recDir _ _ _ _ | .recReg _ _ _ _ | .recCommit _ _ _ _ | .recEpoch _ _ _ | .recBulkBegin _ _ | .recBulkDir _ _ _ _ _ | .recBulkEnd _ _ | .recAck _ _ | .recResend _
  | .waggleBlockRx _ _ _ | .waggleFailstopRx _ _ _ | .waggleSwapReqRx _ _ _ | .waggleHandoverRx _ _ _ | .swarmNoticeRx _ _ | .ideCheckFail _ _ | .linkL1Entry _
  | .lanesCalibrated | .privFanout | .dircLookupDone | .scrubPassDone | .poolRequest | .hatRefillDone | .oldEpochRetire | .hatCommitTimeout | .dlogHarvestDone
  | .bulkResyncStart | .tandemTrainTimeout | .tandemDownExpire | .tandemAlignPeriodic | .tandemCreditCheck | .epochTimerExpire | .ackTimeout | .resendRepeat
  | .waggleBlockTx | .waggleSilence | .waggleOnly | .cableOut | .arbWaitExpire | .swapDrainDone | .swapTimeout | .promotionComplete | .waggleBlockLost
  | .standbySwapToExpire | .marginCommand _ _ | .linkL0pChange _ _ | .stackRefresh2xChange _ | .waggleLockChange _ _ | .prbsCheckerLock _ _ _ _ => true
  | .registerWrite _ _ _ _ | .read64Low _ _ _ | .read64High _ _ _ | .write64Low _ _ _ _ | .write64High _ _ _ _ | .mctpRegRead _ | .mctpRegWrite _ | .hsTick _ | .seatLost _
  | .feedQualify _ | .feedDisqualify _ | .mgmtPllLock _ | .strapChange _ | .autoRevertSet _ _ | .pllUnlock _ | .timeSetCommit _ _ | .clkResetWrite _ _ | .fixonWrite _ _
  | .fixonMasked _ _ _ | .fixonFill _ _ _ | .fixonPoll _ _ _ _ | .fixonDelay _ | .combTrainDone _ _ | .ehrurnTrainDone _ _ | .laneTestStop _ _ _ _ | .laneTestRecal _ _ _
  | .laneTestPrbsLoop _ _ _ | .laneTestPrbsExt _ _ _ | .laneTestBist _ _ _ | .laneTestInvalid _ _ _ | .bifurWrite _ _ _ | .portCfgWrite _ _ _ | .portHold _ _ _
  | .portRelease _ _ _ | .portRetrain _ _ _ | .dsxHelloRx _ _ | .dsxHelloAckRx _ _ | .dsxSleepReqRx _ _ | .dsxSleepAckRx _ _ | .dsxSleepNakRx _ _ | .dsxWakeReqRx _ _
  | .dsxEiosqRx _ | .dsxRequestTimeout _ _ | .dsxRxSignalDetect _ | .dsxRxFirstFlit _ | .dsxCmdTxSleep _ _ _ | .dsxCmdRxSleep _ _ _ | .dsxCmdTxWake _ _ _
  | .dsxCmdRxWake _ _ _ | .bindVppb _ _ _ _ _ | .unbindOpt0 _ _ _ | .unbindOpt1 _ _ _ | .unbindOpt2 _ _ _ | .vcsEntryWrite _ _ _ | .setLdAllocations _ _ _ _ _
  | .shaperCommit _ _ _ | .policerCommit _ _ _ | .homeBusyRelease _ _ _ | .holdExpire _ _ _ | .conflictQueueStart _ _ | .dirBucketFetchDone _ _ | .biTimeout _ _
  | .hiveEnable _ _ | .hiveDisable _ _ | .hiveDownWrite _ _ | .hiveRecovered _ _ | .hiveClearDone _ | .hgenClearDone _ | .hostSlotEnable _ _ _ _
  | .hostSlotDisable _ _ _ _ | .hostLeave _ _ _ | .hostSweepDone _ _ | .sectorResolve _ _ | .recoverySweepDone _ | .dircLookup _ _ _ | .poolWindowEnable _ _ _
  | .hatRuleWrite _ _ _ | .hatCommit _ _ | .vfEnable _ _ _ | .vfFlr _ | .chEnable _ _ _ | .chDisable _ _ | .chReset _ _ | .chTailWrite _ _ _ | .moverDescFetched _ _ _
  | .moverCopy _ | .moverFill _ | .moverPartAnswer _ | .moverCompletion _ _ | .dlogEnable _ _ _ | .dlogHarvest _ _ | .tdmEnable _ _ | .tdmDisable _ _ | .tdmCmdSwap _
  | .tdmCmdPromote _ | .tdmCmdRetrain _ | .tdmCmdResyncAll _ | .faultMessage _ | .fltAckWrite _ _ | .fltFirstClear _ _ _ | .errAckWrite _ _ _ | .fltInject _ _
  | .failStop _ | .keeperLockstep _ | .keeperWatchdog _ | .wdtKick _ _ | .keeperSramError _ _ _ | .mtimeCompare _ _ | .intcLevelRise _ | .intcPendSet _ _ _
  | .intcPendClr _ _ _ | .intcEnSet _ _ _ | .intcEnClr _ _ _ | .intcVectorFetch _ _ | .intcComplete _ _ _ | .mbxDoorbell _ _ _ _ | .mbxCommandDone _ | .mbxBoxReset _ _
  | .mbxCfgWrite _ _ | .identify _ | .backgroundOperationStatus _ | .requestAbortBackgroundOp _ | .getEventRecords _ | .clearEventRecords _ _ _ | .getFwInfo _
  | .transferFw _ _ _ _ | .activateFw _ _ _ | .getTimestamp _ | .setTimestamp _ _ | .getLog _ _ | .getPhysicalPortState _ _ | .physicalPortControl _ _ _
  | .sendPpbConfigRequest _ _ _ _ | .getVirtualSwitchInfo _ _ | .generateAerEvent _ _ _ _ | .sendLdConfigRequest _ _ _ _ _ | .sendLdMemoryRequest _ _ _ _ _ _
  | .getModuleState _ | .getDirtyLogInfo _ | .harvestAndClearDirtyLog _ | .getFaultLog _ | .getFailStopRecord _ | .acknowledgeFaultLog _ | .pairCommand _
  | .hiveControl _ | .fixonXferStart _ | .fixonXferContinue _ | .fixonXferEnd _ | .getFixonSlots _ | .selftestDone _ | .programOwner _ _ _ | .revokeOwner _ _ _
  | .requireFixonSig _ _ | .spdmKeyExchange _ | .spdmGetMeasurements _ _ | .spdmRequest _ _ | .ideEstablish _ _ _ | .ideRekey _ _ _ | .ideStop _ _ _ | .ideAutoRekey _ _
  | .ideKeyProg _ _ _ _ _ | .ideKSetGo _ _ _ | .ideKSetStop _ _ | .dbgNonceReq _ | .dbgUnlock _ | .dbgVerifyDone _ | .perfSnapTake _ _ _ | .perfSnapDone _
  | .userCounterRead _ _ _ | .perfOvfTrigger _ | .latencySample _ | .perfRingMark _ _ | .perfRingRd _ _ | .evtPendSet _ _ _ | .evtPendClr _ _ _ | .evtEnSet _ _ _
  | .evtEnClr _ _ _ | .pageLockWrite _ _ _ | .devLockAll _ _ | .nvsCommitParam _ _ | .nvUe _ | .cpresChange _ _ | .auxRailUp | .auxRailDown | .seatDebounceExpire
  | .retryTimeExpire | .rampComplete | .rampTimeout | .faultTimerExpire | .severeOcTrip | .revertDelayExpire | .switchHoldoffExpire | .switchTargetClose
  | .switchComplete | .switchTimeout | .fetOffComplete | .mgmtRailOut | .pwrMeasUpdate | .energyPersist | .thermWarn | .thermTrip | .tcxoSettleExpire | .stage3Timeout
  | .refclkEdgesSeen | .refclkSettleExpire | .refclkLoss | .tcxoLoss | .perstAssert | .perstRelease | .fabricResetEnd | .secureBootDone | .fabricPllsLock
  | .fixonPollTimeout | .fixonDelayExpire | .fixonEnd | .stageTimeout | .combClearDone | .homeMemRd _ | .homeMemInv _ | .homeMemWr _ | .homeMemClnEvct _ | .homeMemSpecRd _
  | .homeBiConflict _ | .homeWriteback _ | .homeBirsp _ | .homeTargetAnswer _ | .recPad | .failstopRecordWritten | .policyViolation | .entropyHealthFail | .provDone
  | .dbgNonceExpire | .perfExportTimer | .perfRingWinReady | .nvsCommitDone | .cooldownFlagDecay | .fabricPllTimeout | .policyPartitionExit | .eyeStart _ _
  | .eyeStop _ _ | .dsxTxIdleExpire _ | .dsxRxIdleExpire _ | .dsxRetExpire _ | .dsxFlitWake _ | .dsxPreambleEnd _ | .moverNop _ | .fltBoardAckWrite _ _
  | .intcBadClear _ _ | .getResponseMessageLimit _ | .setResponseMessageLimit _ _ | .getEventInterruptPolicy _ | .setEventInterruptPolicy _ _ | .getSupportedLogs _
  | .identifySwitchDevice _ | .tunnelManagementCommand _ _ _ _ | .fixonXferAbort _ | .xbarPrivClear _ _ | .bufLowWaterLoad _ _ | .homeCqHwmClear _ _
  | .carbWaitMaxClear _ _ _ | .perfHistMaxClear _ _ _ | .perfOvfMissedClear _ _ _ => false

end Sys2Proof
end

