-- ==== Sys2Proof/Certificates/Slice0/Obligations.lean ====
section
/-! DEFINITION. Sys2Proof/Certificates/Slice0/Obligations.lean: the statements for the provers, one per family of commands and kind of state. Each says of every command it names that exec
answers a next state, what that state holds, and the frame: what stays as it was. Docstrings name the rules of the spec they follow; the rules of `cites` are stated whole. -/
open Sys2Proof Sys2Proof.Machine

/-- Parts of R39, R41: the waits of the hot-swap controller end as its state table says. With both pins seated the debounce leads to COOLDOWN where the cool-down flag is set
and to READY otherwise, the retry time leads from COOLDOWN and from FAULT to READY and ends the cool-down, and SHUTDOWN ends in UNSEATED with the path off; nothing else
changes. Parts of R39, R45: a switch of feeds. In SWITCHING the target path closes, with the converter started again where it conducts, but not after a severe overcurrent;
where it has closed and conducts with its feed qualified the controller returns to ON on the target feed; where it has not conducted in 20 µs the controller enters FAULT with
the pass FET and the converter off. Parts of R44, R45: a planned return to the preferred feed. In ON, with the preferred feed qualified and not selected and no failure
present, the end of the revert delay starts a switch to it where REVERT_EN is set and no switch ended in the last 100 ms, and within those 100 ms only plans it; their end
starts the planned switch. -/
def Obligations.PowerSwitching : Prop := ∀ s : State, s.hs.auxUp = true →
  (s.hs.smp.seatL = true → s.hs.smp.seatR = true → s.get Fld.PWR_HS_STATUS_STATE = 1 → Answers .seatDebounceExpire s fun t =>
    t.get Fld.PWR_HS_STATUS_STATE = (if s.hs.cooldown then 2 else 3) ∧ t.hs = { s.hs with timer := 0 } ∧ (s.hs.cooldown = false → t.get Fld.PWR_HS_STATUS_COOLDOWN_SEEN = 0) ∧
    Frame [.hs] [Fld.PWR_HS_STATUS_STATE, Fld.PWR_HS_STATUS_COOLDOWN_SEEN] s t) ∧
  (s.hs.smp.seatL = true → s.hs.smp.seatR = true → s.get Fld.PWR_HS_STATUS_STATE = 2 → Answers .retryTimeExpire s fun t => t.get Fld.PWR_HS_STATUS_STATE = 3 ∧
    t.get Fld.PWR_HS_STATUS_COOLDOWN_SEEN = 1 ∧ t.hs = { s.hs with timer := 0, cooldown := false } ∧ Frame [.hs] [Fld.PWR_HS_STATUS_STATE, Fld.PWR_HS_STATUS_COOLDOWN_SEEN] s t) ∧
  (s.hs.smp.seatL = true → s.hs.smp.seatR = true → s.get Fld.PWR_HS_STATUS_STATE = 7 → Answers .retryTimeExpire s fun t => t.get Fld.PWR_HS_STATUS_STATE = 3 ∧
    t.get Fld.PWR_HS_STATUS_COOLDOWN_SEEN = 0 ∧ t.hs = { s.hs with timer := 0, cooldown := false } ∧ Frame [.hs] [Fld.PWR_HS_STATUS_STATE, Fld.PWR_HS_STATUS_COOLDOWN_SEEN] s t) ∧
  (s.hs.smp.seatL = true → s.hs.smp.seatR = true → s.get Fld.PWR_HS_STATUS_STATE = 8 → Answers .fetOffComplete s fun t => t.get Fld.PWR_HS_STATUS_STATE = 0 ∧
    t.hs = { s.hs with timer := 0, fetOn := false, convOn := false, severe := false } ∧ Frame [.hs] [Fld.PWR_HS_STATUS_STATE] s t) ∧
  (s.get Fld.PWR_HS_STATUS_STATE = 6 → s.hs.severe = false → Answers .switchTargetClose s fun t =>
    t.hs = { s.hs with targetClosed := true, fetOn := true, convOn := s.hs.convOn || s.hs.smp.conducting } ∧ Frame [.hs] [] s t) ∧
  (s.get Fld.PWR_HS_STATUS_STATE = 6 → s.hs.severe = true → Answers .switchTargetClose s fun t => t.hs = s.hs ∧ Frame [] [] s t) ∧
  (s.get Fld.PWR_HS_STATUS_STATE = 6 → s.calm = true → s.hs.targetClosed = true → s.qualified s.hs.target = true → Answers .switchComplete s fun t =>
    t.get Fld.PWR_HS_STATUS_STATE = 5 ∧ t.get Fld.PWR_HS_STATUS_FEED_SEL = s.hs.target.code ∧
    t.hs = { s.hs with timer := 0, fetOn := true, convOn := true, planned := false, revert := 0, holdoff := 100000 } ∧
    Frame [.hs, .nv] [Fld.PWR_HS_STATUS_STATE, Fld.PWR_HS_STATUS_FEED_SEL, Fld.PWR_SWITCH_COUNT_COUNT, Evt.PWR_FEED_SWITCH.field, Fld.NVS_WEAR_UNITS,
    Evt.NVS_WEAR_HIGH.field] s t) ∧
  (s.get Fld.PWR_HS_STATUS_STATE = 6 → s.calm = true → Answers .switchTimeout s fun t => t.get Fld.PWR_HS_STATUS_STATE = 7 ∧ t.hs.fetOn = false ∧ t.hs.convOn = false ∧
    t.hs.timer = 0) ∧
  (s.get Fld.PWR_HS_STATUS_STATE = 5 → s.calm = true → 11000 ≤ s.hs.smp.bus → s.selected ≠ s.preferred → s.qualified s.preferred = true →
    s.flag Fld.PWR_FEED_CFG_REVERT_EN = true → s.hs.holdoff = 0 → Answers .revertDelayExpire s fun t => t.get Fld.PWR_HS_STATUS_STATE = 6 ∧
    t.hs = { s.hs with planned := true, timer := 0, target := s.selected.other, targetClosed := false, convOn := false, fetOn := false } ∧
    Frame [.hs] [Fld.PWR_HS_STATUS_STATE] s t) ∧
  (s.get Fld.PWR_HS_STATUS_STATE = 5 → s.calm = true → 11000 ≤ s.hs.smp.bus → s.selected ≠ s.preferred → s.qualified s.preferred = true →
    s.flag Fld.PWR_FEED_CFG_REVERT_EN = true → s.hs.holdoff ≠ 0 → s.qualified s.selected = true → Answers .revertDelayExpire s fun t => t.hs = { s.hs with planned := true } ∧
    Frame [.hs] [] s t) ∧
  (s.get Fld.PWR_HS_STATUS_STATE = 5 → s.calm = true → 11000 ≤ s.hs.smp.bus → s.selected ≠ s.preferred → s.qualified s.preferred = true → s.hs.planned = true →
    Answers .switchHoldoffExpire s fun t => t.get Fld.PWR_HS_STATUS_STATE = 6 ∧
    t.hs = { s.hs with holdoff := 0, timer := 0, target := s.selected.other, targetClosed := false, convOn := false, fetOn := false } ∧
    Frame [.hs] [Fld.PWR_HS_STATUS_STATE] s t)

/-- Parts of R38, R39, R40: the ramp and the faults of the controller. Power-good in RAMP on a qualified feed, while the fault timer does not run, leads to ON with PG set and
power-on reset released; a ramp that is late, and the fault timer in RAMP or ON, lead to FAULT with the path off; the comparator turns the pass FET off at once and leaves the
state to the next tick. Choices and readings of the model it rests on: log 37 (DEDUCED). -/
def Obligations.RampAndFaults : Prop := ∀ s : State, s.hs.auxUp = true →
  (s.get Fld.PWR_HS_STATUS_STATE = 4 → s.calm = true → s.hs.timer < 50000 → s.qualified s.selected = true → s.get Fld.PWR_HS_STATUS_FT_COUNT = 0 → Answers .rampComplete s fun t =>
    t.get Fld.PWR_HS_STATUS_STATE = 5 ∧ t.get Fld.PWR_HS_STATUS_PG = 1 ∧ t.clk = { s.clk with porAsserted := false } ∧ t.hs = { s.hs with timer := 0 } ∧
    Frame [.hs, .clk] [Fld.PWR_HS_STATUS_STATE, Fld.PWR_HS_STATUS_PG] s t) ∧
  (s.get Fld.PWR_HS_STATUS_STATE = 4 → s.calm = true → s.hs.timer < 50000 → s.qualified s.selected = true → s.get Fld.PWR_HS_STATUS_FT_COUNT ≠ 0 → Answers .rampComplete s fun t =>
    t.get Fld.PWR_HS_STATUS_STATE = 4 ∧ t.hs = s.hs ∧ Frame [] [] s t) ∧
  (s.get Fld.PWR_HS_STATUS_STATE = 4 → s.calm = true → Answers .rampTimeout s fun t => t.get Fld.PWR_HS_STATUS_STATE = 7 ∧ t.get Fld.PWR_LAST_FAULT_CAUSE = 4 ∧
    t.get Fld.PWR_LAST_FAULT_STATE = 4 ∧ t.hs.fetOn = false ∧ t.hs.convOn = false ∧ t.hs.cooldown = true) ∧
  ((s.get Fld.PWR_HS_STATUS_STATE = 4 ∨ s.get Fld.PWR_HS_STATUS_STATE = 5) → s.hs.smp.seatL = true → s.hs.smp.seatR = true → s.hs.severe = false →
    Answers .faultTimerExpire s fun t => t.get Fld.PWR_HS_STATUS_STATE = 7 ∧ t.hs.fetOn = false ∧ t.hs.convOn = false ∧ t.hs.cooldown = true) ∧
  (Answers .severeOcTrip s fun t => t.hs = { s.hs with severe := true, fetOn := false } ∧ Frame [.hs] [] s t)

/-- Parts of R34, R39, R42, R43: seating and the feeds. A tick that samples both pins seated takes UNSEATED to SEATED and shows the pins; a pin lost leads from ON and
SWITCHING to SHUTDOWN, and from the other powered states to UNSEATED; in READY a feed that qualifies starts RAMP, and one that is disqualified must qualify anew. -/
def Obligations.SeatAndFeeds : Prop := ∀ s : State, s.hs.auxUp = true →
  (∀ x : HsSample, s.get Fld.PWR_HS_STATUS_STATE = 0 → Answers (.hsTick x) s fun t => t.get Fld.PWR_HS_STATUS_STATE = (if x.seatL && x.seatR then 1 else 0) ∧
    t.get Fld.PWR_HS_STATUS_SEAT_L = bit x.seatL ∧ t.get Fld.PWR_HS_STATUS_SEAT_R = bit x.seatR ∧ t.hs.smp = x) ∧
  (∀ r : Bool, Answers (.seatLost r) s fun t => (s.get Fld.PWR_HS_STATUS_STATE = 5 ∨ s.get Fld.PWR_HS_STATUS_STATE = 6 → t.get Fld.PWR_HS_STATUS_STATE = 8) ∧
    (s.get Fld.PWR_HS_STATUS_STATE ≤ 4 ∨ s.get Fld.PWR_HS_STATUS_STATE = 7 → t.get Fld.PWR_HS_STATUS_STATE = 0)) ∧
  (∀ f : Feed, s.get Fld.PWR_HS_STATUS_STATE = 3 → s.hs.smp.seatL = true → s.hs.smp.seatR = true → Answers (.feedQualify f) s fun t => t.get Fld.PWR_HS_STATUS_STATE = 4 ∧
    t.qualified f = true ∧ t.hs.fetOn = true ∧ t.hs.convOn = true) ∧
  (∀ f : Feed, s.get Fld.PWR_HS_STATUS_STATE = 3 → s.hs.smp.seatL = true → s.hs.smp.seatR = true → s.qualified f.other = false → Answers (.feedDisqualify f) s fun t =>
    t.get Fld.PWR_HS_STATUS_STATE = 3 ∧ t.qualified f = false ∧ (match f with | .a => t.hs.goodA = 0 | .b => t.hs.goodB = 0))

/-- Parts of R29, R33, R37, R41, R47, R48, R71: the rails, the monitor and the module temperature. The auxiliary rail starts the controller in UNSEATED with power-on reset
asserted and its loss ends every domain but the NV store and the cool-down flag, with PWR_GOOD low; a rail of MGMT out of its window takes MGMT and FABRIC into reset and
leaves the controller; the monitor shows its averages; the energy counts go to the NV store; the trip temperature stops the module. Choices and readings of the model it rests
on: log 36, 38 (DEDUCED). -/
def Obligations.AuxDomain : Prop := ∀ s : State,
  (s.hs.auxUp = false → Answers .auxRailUp s fun t => t.hs.auxUp = true ∧ t.get Fld.PWR_HS_STATUS_STATE = 0 ∧ t.clk.porAsserted = true ∧ t.clk.mgmtUp = false ∧
    t.fab = Fabric.reset ∧ t.nv = s.nv) ∧
  (Answers .auxRailDown s fun t => t.hs.auxUp = false ∧ t.clk.mgmtUp = false ∧ t.clk.fabricHeld = true ∧ t.get Fld.PWR_HS_STATUS_PG = 0 ∧
    t.regs = (({ s with regs := [] } : State).puts controllerOff).regs ∧ t.fab = Fabric.reset ∧ t.hs.cooldown = s.hs.cooldown ∧ t.nv = s.nv) ∧
  (s.hs.auxUp = true → Answers .mgmtRailOut s fun t => t.clk.porAsserted = true ∧ t.clk.mgmtUp = false ∧ t.clk.fabricHeld = true ∧ t.clk.timeBase = 0 ∧ t.hs = s.hs ∧
    t.nv = s.nv ∧ t.fab = Fabric.reset ∧ t.keeper = Keeper.reset) ∧
  (s.hs.auxUp = true → s.hs.samples ≠ 0 → Answers .pwrMeasUpdate s fun t => t.get Fld.PWR_MEAS_A_VOLT = min (s.hs.sumVA / s.hs.samples) 0xFFFF ∧
    t.get Fld.PWR_MEAS_B_VOLT = min (s.hs.sumVB / s.hs.samples) 0xFFFF ∧ t.get Fld.PWR_MEAS_A_CURR = min (s.hs.sumIA / s.hs.samples / 2) 0xFFFF ∧
    t.get Fld.PWR_MEAS_B_CURR = min (s.hs.sumIB / s.hs.samples / 2) 0xFFFF ∧ t.hs.samples = 0 ∧
    Frame [.hs] [Fld.PWR_MEAS_A_VOLT, Fld.PWR_MEAS_A_CURR, Fld.PWR_MEAS_B_VOLT, Fld.PWR_MEAS_B_CURR, Fld.PWR_POWER_A_POWER, Fld.PWR_POWER_B_POWER] s t) ∧
  (s.hs.auxUp = true → Answers .energyPersist s fun t => t.nv.energyA = s.get64 Addr.PWR_ENERGY_A_LO ∧ t.nv.energyB = s.get64 Addr.PWR_ENERGY_B_LO ∧
    Frame [.nv] [Fld.NVS_WEAR_UNITS, Evt.NVS_WEAR_HIGH.field] s t) ∧
  (s.hs.auxUp = true → Answers .thermWarn s fun t => t.get Evt.PWR_THERM_WARN.field = 1 ∧ Frame [] [Evt.PWR_THERM_WARN.field] s t) ∧
  (Answers .thermTrip s fun t => t.clk.stopHeld = true ∧ (s.clk.stopHeld = false → t.clk.fabricHeld = true ∧ t.fab = Fabric.reset)) ∧
  (s.hs.auxUp = false → Answers .cooldownFlagDecay s fun t => t.hs = { s.hs with cooldown := false } ∧ Frame [.hs] [] s t)

/-- Parts of R61, R62, R21, R30: the clocks. REFCLK counts as present once it has settled, and the hub and tile PLLs return to it then where AUTO_REVERT is set, or at the
write that sets AUTO_REVERT; its loss puts them on the TCXO; a PLL that loses lock and the loss of the TCXO stop the module; a change of the straps after sampling shows only
in the live pins and as an event. -/
def Obligations.ClockSources : Prop := ∀ s : State, s.hs.auxUp = true →
  (Answers .refclkEdgesSeen s fun t => t.clk = { s.clk with refEdges := true } ∧ Frame [.clk] [] s t) ∧
  (s.clk.refEdges = true → s.clk.refPresent = false → Answers .refclkSettleExpire s fun t => t.clk.refPresent = true ∧ (s.clk.mgmtUp = true →
    t.get Evt.CLK_REFCLK_BACK.field = 1) ∧ t.clk.refSrcTcxo = (s.clk.refSrcTcxo && !(s.clk.mgmtUp && s.flag Fld.CLK_REF_CFG_AUTO_REVERT)) ∧
    Frame [.clk] [Evt.CLK_REFCLK_BACK.field, Evt.CLK_REF_SWITCH.field] s t) ∧
  (∀ m : Master, ∀ value : Word, s.takes m 1 = true → s.flag Fld.CLK_LOCK_LOCK = false → s.flag Fld.CLK_REF_CFG_AUTO_REVERT = false → value.getLsbD 1 = true →
    s.clk.refPresent = true → s.clk.refSrcTcxo = true → Answers (.autoRevertSet m value) s fun t => t.get Fld.CLK_REF_CFG_AUTO_REVERT = 1 ∧
    t.clk = { s.clk with refSrcTcxo := false } ∧ t.get Evt.CLK_REF_SWITCH.field = 1 ∧
    Frame [.clk] [Fld.CLK_REF_CFG_SSC, Fld.CLK_REF_CFG_AUTO_REVERT, Evt.CLK_REF_SWITCH.field] s t) ∧
  (s.mgmtRuns = true → s.clk.refPresent = true → Answers .refclkLoss s fun t => t.clk.refPresent = false ∧ t.clk.refEdges = false ∧ t.clk.refSrcTcxo = true ∧
    t.get Evt.CLK_REFCLK_LOST.field = 1) ∧
  (∀ pll : Fin 9, s.clk.mgmtUp = true → s.clk.stopHeld = false → s.clk.startFail = false → Answers (.pllUnlock pll) s fun t => t.clk.pllLock.testBit pll.val = false ∧
    t.clk.stopHeld = true ∧ t.clk.fabricHeld = true ∧ t.fab = Fabric.reset ∧ t.flt.stop.map (·.cls) = some 2) ∧
  (s.clk.stopHeld = false → s.clk.startFail = false → Answers .tcxoLoss s fun t => t.clk.tcxoOk = false ∧ t.clk.stopHeld = true ∧ t.clk.mgmtStopped = true ∧
    t.clk.fabricHeld = true ∧ t.fab = Fabric.reset) ∧
  (∀ pins : Straps, s.clk.mgmtUp = true → Answers (.strapChange pins) s fun t => t.clk = { s.clk with strapPins := pins } ∧ (pins ≠ s.clk.straps →
    t.get Evt.CLK_STRAP_CHG.field = 1) ∧ Frame [.clk] [Evt.CLK_STRAP_CHG.field] s t)

/-- Parts of R61, R63, R71, R74, R75: stage 3. The TCXO settles and the management PLL is released; when it locks MGMT leaves reset with the time base at 0, the straps
sampled, the parameters shown and stage 4 in progress; when it does not, the module stays in reset with the failure kept in the NV store. Choices and readings of the model it
rests on: log 250 (DESIGN CHOICE). -/
def Obligations.StageThree : Prop := ∀ s : State, s.clk.mgmtUp = false → s.clk.stage3Failed = false →
  (s.hs.auxUp = true → s.clk.porAsserted = false → Answers .tcxoSettleExpire s fun t => t.clk = { s.clk with pllReleased := true } ∧ Frame [.clk] [] s t) ∧
  (∀ us : Nat, s.clk.pllReleased = true → s.clk.tcxoOk = true → Answers (.mgmtPllLock us) s fun t => t.clk.mgmtUp = true ∧ t.clk.timeBase = 0 ∧ t.clk.straps = s.clk.strapPins ∧
    t.get Fld.CLK_STRAPS_MOD_ID = s.clk.strapPins.modId.val ∧ t.get Fld.CLK_STRAPS_TANDEM_ROLE = bit s.clk.strapPins.role ∧ t.get Fld.BOOT_STATUS_STAGE = 4 ∧
    t.get Fld.NVS_STATUS_READY = 1 ∧ t.fab = s.fab ∧ t.nv = s.nv) ∧
  (s.hs.auxUp = true → s.clk.porAsserted = false → Answers .stage3Timeout s fun t => t.clk = { s.clk with stage3Failed := true, pllReleased := false } ∧
    t.nv = { s.nv with stage3Fail := true } ∧ Frame [.clk, .nv] [] s t)

/-- Parts of R72, R73, R82: fabric reset. PERST_N low, or 0xA5 written to CLK_RESET by a keeper core or the board, takes FABRIC into reset: its contents go, the management
clock and the NV store stay, and a start-up past stage 4 stands at stage 5 again; when the pin has risen and the pulse has ended start-up goes on. -/
def Obligations.ResetEntryAndEnd : Prop := ∀ s : State, s.clk.mgmtUp = true →
  (4 < s.get Fld.BOOT_STATUS_STAGE → s.boot.fwRunning = true → s.nv.fwPending = none → Answers .perstAssert s fun t => t.clk.fabricHeld = true ∧ t.clk.mgmtUp = true ∧
    t.fab = Fabric.reset ∧ t.get Fld.BOOT_STATUS_STAGE = 5 ∧ t.get Fld.BOOT_STATUS_FABRIC_READY = 0 ∧ t.clk.stopHeld = false ∧ t.nv = s.nv ∧ t.clk.perstLow = true) ∧
  (∀ m : Master, ∀ value : Word, s.takes m 1 = true → m.keeperOrBoard = true → value.toNat % 256 = 0xA5 → 4 < s.get Fld.BOOT_STATUS_STAGE → s.boot.fwRunning = true →
    s.nv.fwPending = none → Answers (.clkResetWrite m value) s fun t => t.clk.fabricHeld = true ∧ t.clk.mgmtUp = true ∧ t.fab = Fabric.reset ∧ t.get Fld.BOOT_STATUS_STAGE = 5 ∧
    t.get Fld.BOOT_STATUS_FABRIC_READY = 0 ∧ t.clk.stopHeld = false ∧ t.nv = s.nv ∧ t.clk.resetPulse = true) ∧
  (s.clk.perstLow = true → Answers .perstRelease s fun t => t.clk = { s.clk with perstLow := false } ∧ t.get Fld.BOOT_STATUS_STAGE = s.get Fld.BOOT_STATUS_STAGE ∧
    (5 ≤ s.get Fld.BOOT_STATUS_STAGE → s.clk.resetPulse = false → ∀ n : Fin 6, t.get (Fld.BOOT_STAGE_T_TIME (n.val + 2)) = 0) ∧
    Frame [.clk] ((List.range 8).map Fld.BOOT_STAGE_T_TIME) s t) ∧
  (s.clk.resetPulse = true → Answers .fabricResetEnd s fun t => t.clk = { s.clk with resetPulse := false } ∧ t.get Fld.BOOT_STATUS_STAGE = s.get Fld.BOOT_STATUS_STAGE ∧
    (5 ≤ s.get Fld.BOOT_STATUS_STAGE → s.clk.perstLow = false → ∀ n : Fin 6, t.get (Fld.BOOT_STAGE_T_TIME (n.val + 2)) = 0) ∧
    Frame [.clk] ((List.range 8).map Fld.BOOT_STAGE_T_TIME) s t)

/-- Parts of R74 to R76, R79, R84, R182, R252: the stages of start-up from 4 on. The ROM starts the image of the preferred firmware slot, or fails with cause 1 where neither
verifies; the PLLs release FABRIC and the Fixon slot is chosen; Comb trains and is cleared; the Ehrurn links come up; when every lane is calibrated the fabric is ready. A
stage that takes too long fails start-up, with cause 4 for the PLLs of stage 5. Choices and readings of the model it rests on: log 43, 44, 48, 50, 122 (DEDUCED); log 249
(DESIGN CHOICE). -/
def Obligations.StartupStages : Prop := ∀ s : State, s.clk.startFail = false → s.clk.stopHeld = false → s.clk.mgmtUp = true →
  (∀ i : SignedImage, s.get Fld.BOOT_STATUS_STAGE = 4 → s.get Fld.SEC_STATUS_SELFTEST = 1 → s.nv.fwPending = none →
    ({ s with sec := { s.sec with status4 := (s.word Addr.SEC_STATUS).toNat } } : State).fwSlot s.nv.fwPref = some i → Answers .secureBootDone s fun t =>
    t.get Fld.BOOT_SLOTS_FW_SLOT = bit s.nv.fwPref ∧ t.get Fld.BOOT_SLOTS_FW_FALLBACK = 0 ∧ t.get Fld.DEV_FW_VER_VER = i.version % 2 ^ 32 ∧ t.get Fld.MBX_CORE_STATUS_RUN = 15 ∧
    t.boot.fwRunning = true ∧ t.sec.firmware = some i ∧ t.sec.identity.map (·.debug) = some (s.flag Fld.SEC_STATUS_UDS_GATED) ∧ t.get Fld.BOOT_STATUS_STAGE = 5 ∧
    t.get Evt.BOOT_STAGE_DONE.field = 1) ∧
  (s.get Fld.BOOT_STATUS_STAGE = 4 → s.get Fld.SEC_STATUS_SELFTEST = 1 → s.nv.fwPending = none →
    ({ s with sec := { s.sec with status4 := (s.word Addr.SEC_STATUS).toNat } } : State).fwSlot false = none →
    ({ s with sec := { s.sec with status4 := (s.word Addr.SEC_STATUS).toNat } } : State).fwSlot true = none → Answers .secureBootDone s fun t => t.get Fld.BOOT_STATUS_FAIL = 1 ∧
    t.get Fld.BOOT_STATUS_CAUSE = 1 ∧ t.get Fld.BOOT_STATUS_FAIL_STAGE = 4 ∧ t.clk.startFail = true) ∧
  (∀ x : Bool, s.get Fld.BOOT_STATUS_STAGE = 5 → s.clk.fabricHeld = true → s.clk.perstLow = false → s.clk.resetPulse = false → s.chooseFixon = some x →
    Answers .fabricPllsLock s fun t => t.clk = { s.clk with fabricHeld := false, pllLock := s.clk.pllLock ||| 0x1F } ∧ t.boot.applying = some (x, 0) ∧
    t.get (validField true false) = bit (s.fixonValid false) ∧ t.get (validField true true) = bit (s.fixonValid true)) ∧
  (s.get Fld.BOOT_STATUS_STAGE = 5 → s.clk.fabricHeld = true → s.clk.perstLow = false → s.clk.resetPulse = false → Answers .fabricPllTimeout s fun t =>
    t.get Fld.BOOT_STATUS_FAIL = 1 ∧ t.get Fld.BOOT_STATUS_CAUSE = 4 ∧ t.get Fld.BOOT_STATUS_FAIL_STAGE = 5 ∧ t.clk.startFail = true ∧ t.clk.fabricHeld = true) ∧
  (4 ≤ s.get Fld.BOOT_STATUS_STAGE → s.get Fld.BOOT_STATUS_STAGE ≤ 9 → Answers .stageTimeout s fun t => t.get Fld.BOOT_STATUS_FAIL = 1 ∧ t.get Fld.BOOT_STATUS_CAUSE = 7 ∧
    t.get Fld.BOOT_STATUS_FAIL_STAGE = s.get Fld.BOOT_STATUS_STAGE ∧ t.clk.startFail = true ∧ t.flt.recordDue = (!s.clk.mgmtStopped)) ∧
  (∀ ok : Bool, ∀ rows : Fin 65, s.get Fld.BOOT_STATUS_STAGE = 6 → s.clk.fabricHeld = false → Answers (.combTrainDone ok rows) s fun t => (ok = true →
    t.get Fld.COMB_STATUS_STATE = 2 ∧ t.get Fld.COMB_REPAIR_APPLIED = min rows.val s.nv.repairRows.length ∧ t.boot = { s.boot with combTrained := true } ∧
    Frame [.boot] [Fld.COMB_STATUS_STATE, Fld.COMB_REPAIR_APPLIED] s t) ∧ (ok = false → t.get Fld.BOOT_STATUS_CAUSE = 5 ∧ t.clk.startFail = true)) ∧
  (s.get Fld.BOOT_STATUS_STAGE = 6 → s.get Fld.COMB_STATUS_STATE = 2 → s.boot.combTrained = true → s.clk.fabricHeld = false → Answers .combClearDone s fun t =>
    t.get Fld.COMB_STATUS_STATE = 3 ∧ t.get Evt.COMB_UP.field = 1 ∧ t.get Fld.COMB_PART_ACT_SIZES = (s.word Addr.COMB_PART_CFG).toNat % 2 ^ 28 ∧
    t.get Fld.BOOT_STATUS_STAGE = 7) ∧
  (∀ l : List WireRepair, s.get Fld.BOOT_STATUS_STAGE = 7 → s.clk.fabricHeld = false → (List.range 4).all (fun k => (ehrFailed l none k).isNone) = true →
    Answers (.ehrurnTrainDone l none) s fun t => (∀ k : Fin 4, t.get (Fld.EHR_STATUS_STATE k.val) = 2 ∧ t.get (Evt.EHR_TRAINED k.val).field = 1) ∧
    t.get Fld.BOOT_STATUS_STAGE = 8) ∧
  (s.get Fld.BOOT_STATUS_STAGE = 8 → s.fabricRuns = true → s.fab.lanes.cal = [] → Answers .lanesCalibrated s fun t => t.get Fld.BOOT_STATUS_FABRIC_READY = 1 ∧
    t.get Evt.BOOT_FABRIC_READY.field = 1 ∧ t.get Fld.BOOT_STATUS_STAGE = 10)

/-- Parts of R78, R80: the Fixon image applies record by record. A WRITE, MASKED or FILL record makes the register writes it names as a keeper core, in address order, and the
next record follows; a POLL record is done when the masked value matches and else waits; a DELAY record waits for its time; END ends stage 5 with the slot and its generation
shown; a POLL that times out takes FABRIC into reset with the record named, and start-up stands at stage 5 again, or at stage 4 where an activation is pending. Choices and
readings of the model it rests on: log 43, 46, 47 (DEDUCED); log 246 (DESIGN CHOICE). -/
def Obligations.FixonRecords : Prop := ∀ s : State, ∀ x : Bool, ∀ i : Nat, s.clk.mgmtUp = true → s.get Fld.BOOT_STATUS_STAGE = 5 → s.clk.startFail = false → s.clk.stopHeld = false → s.boot.applying = some (x, i) →
  (∀ addr : BitVec 28, ∀ words : List Word, s.boot.delay = false → s.nextRecord = some (.write addr.toNat (words.map (·.toNat))) → Answers (.fixonWrite addr words) s fun t =>
    t = ((s.begin.writeWords (.keeper 0) addr.toNat words).recordDone).settle) ∧
  (∀ addr : BitVec 28, ∀ mask : Word, ∀ value : Word, s.boot.delay = false → s.nextRecord = some (.masked addr.toNat mask.toNat value.toNat) →
    Answers (.fixonMasked addr mask value) s fun t =>
    t = (((s.begin.softRead (.keeper 0) addr.toNat).1.softWrite (.keeper 0) addr.toNat ((BitVec.ofNat 32 (s.begin.softRead (.keeper 0) addr.toNat).2 &&& ~~~ mask) ||| (value &&& mask))).recordDone).settle) ∧
  (∀ addr : BitVec 28, ∀ count : Nat, ∀ value : Word, s.boot.delay = false → s.nextRecord = some (.fill addr.toNat count value.toNat) →
    Answers (.fixonFill addr count value) s fun t => t = ((s.begin.writeWords (.keeper 0) addr.toNat (List.replicate count value)).recordDone).settle) ∧
  (∀ addr : BitVec 28, ∀ mask : Word, ∀ value : Word, ∀ time : Nat, s.boot.delay = false → s.nextRecord = some (.poll addr.toNat mask.toNat value.toNat time) →
    Answers (.fixonPoll addr mask value time) s fun t => (BitVec.ofNat 32 (s.begin.softRead (.keeper 0) addr.toNat).2 &&& mask = value → t.boot.applying = some (x, i + 1) ∧
    t.boot.poll = none) ∧ (BitVec.ofNat 32 (s.begin.softRead (.keeper 0) addr.toNat).2 &&& mask ≠ value → t.boot.applying = some (x, i) ∧
    t.boot.poll = some ⟨addr.toNat, mask.toNat, value.toNat⟩)) ∧
  (∀ us : Nat, s.boot.delay = false → s.nextRecord = some (.delay us) → Answers (.fixonDelay us) s fun t => t.boot = { s.boot with delay := true } ∧ Frame [.boot] [] s t) ∧
  (s.boot.delay = true → Answers .fixonDelayExpire s fun t => t.boot = { s.boot with applying := some (x, i + 1), poll := none, delay := false } ∧ Frame [.boot] [] s t) ∧
  (s.boot.delay = false → s.nextRecord = some .fin → s.clk.fabricHeld = false → Answers .fixonEnd s fun t => t.boot = { s.boot with applying := none, poll := none } ∧
    t.get Fld.BOOT_SLOTS_FIXON_SLOT = bit x ∧ t.get Fld.BOOT_FIXON_GEN_GENERATION = (s.fixSlot x).generation % 2 ^ 32 ∧ t.get Fld.COMB_STATUS_STATE = 1 ∧
    t.get Fld.BOOT_STATUS_STAGE = 6) ∧
  (s.boot.poll.isSome = true → s.boot.errSet = false → s.boot.fwRunning = true → s.nv.fwPending = none → Answers .fixonPollTimeout s fun t =>
    t.get Fld.BOOT_FIXON_ERR_RECORD = i % 2 ^ 32 ∧ t.boot.applying = none ∧ t.clk.fabricHeld = true ∧ t.fab = Fabric.reset ∧ t.get Fld.BOOT_STATUS_STAGE = 5 ∧ t.tried x = true) ∧
  (s.boot.poll.isSome = true → s.nv.fwPending ≠ none → Answers .fixonPollTimeout s fun t => t.clk.fabricHeld = true ∧ t.fab = Fabric.reset ∧ t.get Fld.BOOT_STATUS_STAGE = 4 ∧
    t.tried x = true ∧ t.boot.fwRunning = false)

/-- Parts of R350 to R356, R365: the fault log. A corrected or contained message is logged under the next SEQ with its class, time and message; where an unacknowledged entry
of its class from the same source and unit exists, it is logged one class higher, and a contained one then stops the module; with 1,024 entries unacknowledged FLT_LOG_FULL is
logged and stops the module. Choices and readings of the model it rests on: log 52, 53 (DEDUCED); log 279 (DESIGN CHOICE). -/
def Obligations.FaultLog : Prop := ∀ s : State, ∀ m : FaultMsg, s.clk.mgmtUp = true → s.clk.stopHeld = false → s.clk.startFail = false →
  (m.cls < 2 → s.unacked < 1024 → s.escalates m false = false → Answers (.faultMessage m) s fun t => t.get Fld.FLT_SEQ_SEQ = (s.get Fld.FLT_SEQ_SEQ + 1) % 2 ^ 32 ∧
    t.flt.log.head? = some ⟨m, false, (s.get Fld.FLT_SEQ_SEQ + 1) % 2 ^ 32, false, rebuildTime s.now m.ts⟩ ∧ t.clk.stopHeld = false ∧ t.flt.net = s.flt.net.erase m) ∧
  (m.cls < 2 → s.unacked < 1024 → s.escalates m false = true → Answers (.faultMessage m) s fun t =>
    t.flt.log.head? = some ⟨{ m with cls := m.cls + 1 }, true, (s.get Fld.FLT_SEQ_SEQ + 1) % 2 ^ 32, false, rebuildTime s.now m.ts⟩ ∧ t.clk.stopHeld = decide (m.cls = 1) ∧
    t.get Evt.FLT_ESCALATED.field = 1) ∧
  (s.unacked = 1024 → Answers (.faultMessage m) s fun t => t.flt.log.head?.map (·.msg) = some (logFullMsg m) ∧ t.clk.stopHeld = true ∧ t.clk.fabricHeld = true)

/-- Parts of R351, R356 to R358, R367, R370: the registers of the fault collector. A keeper core moves FLT_ACK and the board FLT_BOARD_ACK up to FLT_SEQ and not down;
FLT_FIRST_CTL and ERR_ACK re-arm a first-error capture; FLT_INJECT logs a message as if from the source named. -/
def Obligations.FaultRegisters : Prop := ∀ s : State, ∀ m : Master,
  (∀ seq : Word, s.takes m 4 = true → m.isKeeper = true → s.get Fld.FLT_ACK_SEQ ≤ seq.toNat → seq.toNat ≤ s.get Fld.FLT_SEQ_SEQ → Answers (.fltAckWrite m seq) s fun t =>
    t.get Fld.FLT_ACK_SEQ = seq.toNat ∧ t.get Fld.FLT_STATUS_UNACKED = min 1024 (s.get Fld.FLT_SEQ_SEQ - seq.toNat) ∧
    Frame [] [Fld.FLT_ACK_SEQ, Fld.FLT_STATUS_UNACKED, Evt.FLT_LOG_HALF.field] s t) ∧
  (∀ seq : Word, s.takes m 4 = true → (m.isKeeper = false ∨ seq.toNat < s.get Fld.FLT_ACK_SEQ ∨ s.get Fld.FLT_SEQ_SEQ < seq.toNat) → Answers (.fltAckWrite m seq) s fun t =>
    Frame [] [] s t) ∧
  (∀ seq : Word, s.takes .board 4 = true → s.get Fld.FLT_BOARD_ACK_SEQ ≤ seq.toNat → seq.toNat ≤ s.get Fld.FLT_SEQ_SEQ → Answers (.fltBoardAckWrite .board seq) s fun t =>
    t.get Fld.FLT_BOARD_ACK_SEQ = seq.toNat ∧ Frame [] [Fld.FLT_BOARD_ACK_SEQ] s t) ∧
  (∀ c : Fin 3, ∀ value : Word, s.takes m 4 = true → value.getLsbD 1 = true → Answers (.fltFirstClear m c value) s fun t => t.get (Fld.FLT_FIRST_CTL_VALID c.val) = 0 ∧
    t.flt.first = assocDel s.flt.first c.val ∧ Frame [.flt] [Fld.FLT_FIRST_CTL_VALID c.val] s t) ∧
  (∀ page : BitVec 12, ∀ x : Block, ∀ f : Nat, ∀ value : Word, s.takes m page.toNat = true → blockOf page.toNat = some (x, f) → hasErrCap x = true → value.getLsbD 0 = true →
    Answers (.errAckWrite m page value) s fun t => t.get (Fld.ERR_FIRST_ATYPE_VALID page.toNat) = 0 ∧ Frame [] [Fld.ERR_FIRST_ATYPE_VALID page.toNat] s t) ∧
  (∀ value : Word, s.takes m 4 = true → m.keeperOrBoard = true → bitsOf value.toNat 12 2 < 2 → s.unacked < 1024 → s.clk.startFail = false → s.clk.stopHeld = false →
    (s.flt.log.any fun e => e.msg.source == bitsOf value.toNat 16 12) = false → Answers (.fltInject m value) s fun t =>
    t.get Fld.FLT_SEQ_SEQ = (s.get Fld.FLT_SEQ_SEQ + 1) % 2 ^ 32 ∧ t.flt.log.head?.map (fun e =>
    (e.msg.kind, e.msg.cls, e.msg.source)) = some (bitsOf value.toNat 0 12, bitsOf value.toNat 12 2, bitsOf value.toNat 16 12) ∧ t.clk.stopHeld = false)

/-- Parts of R361, R363, R365, R366, R371, R373: the stop. A fatal message, lockstep or watchdog error of a keeper core and an uncorrectable error of its memory stop the
module when it is not stopped already: the first condition is the cause, STOPPED is shown, FABRIC enters reset with its contents lost, and MGMT runs on; the record of the stop
then enters the ring of 16 in the NV store. A corrected memory error is only reported. Choices and readings of the model it rests on: log 55, 275 (DEDUCED); log 280 (DESIGN
CHOICE). -/
def Obligations.FailStop : Prop := ∀ s : State, s.clk.mgmtUp = true →
  (∀ m : FaultMsg, s.clk.stopHeld = false → s.clk.startFail = false → Answers (.failStop m) s fun t => t.clk.stopHeld = true ∧ t.clk.fabricHeld = true ∧ t.clk.mgmtUp = true ∧
    t.fab = Fabric.reset ∧ t.get Fld.FLT_STATUS_STOPPED = 1 ∧ t.get Fld.BOOT_STATUS_FABRIC_READY = 0 ∧ t.nv = s.nv ∧ t.flt.stop.map (fun x =>
    (x.cls, x.origin, x.cause)) = some (2, .source, some m)) ∧
  (∀ c : Core, s.clk.stopHeld = false → s.clk.startFail = false → Answers (.keeperLockstep c) s fun t => t.clk.stopHeld = true ∧ t.clk.fabricHeld = true ∧ t.clk.mgmtUp = true ∧
    t.fab = Fabric.reset ∧ t.get Fld.FLT_STATUS_STOPPED = 1 ∧ t.get Fld.BOOT_STATUS_FABRIC_READY = 0 ∧ t.nv = s.nv ∧
    t.flt.net = s.flt.net ++ [s.message Kind.KEEPER_LOCKSTEP 2 0x000 c.val 8 (Party.core c.val) none]) ∧
  (∀ c : Core, s.clk.stopHeld = false → s.clk.startFail = false → s.watchdogDue c.val = true → Answers (.keeperWatchdog c) s fun t => t.clk.stopHeld = true ∧
    t.clk.fabricHeld = true ∧ t.clk.mgmtUp = true ∧ t.fab = Fabric.reset ∧ t.get Fld.FLT_STATUS_STOPPED = 1 ∧ t.get Fld.BOOT_STATUS_FABRIC_READY = 0 ∧ t.nv = s.nv ∧
    t.flt.net = s.flt.net ++ [s.message Kind.KEEPER_WATCHDOG 2 0x000 c.val 8 (Party.core c.val) none]) ∧
  (∀ c : Core, ∀ a : Nat, s.clk.stopHeld = false → s.clk.startFail = false → Answers (.keeperSramError c a true) s fun t => t.clk.stopHeld = true ∧ t.clk.fabricHeld = true ∧
    t.clk.mgmtUp = true ∧ t.fab = Fabric.reset ∧ t.get Fld.FLT_STATUS_STOPPED = 1 ∧ t.get Fld.BOOT_STATUS_FABRIC_READY = 0 ∧ t.nv = s.nv ∧
    t.flt.net = s.flt.net ++ [s.message Kind.KEEPER_LOCKSTEP 2 0x000 c.val 1 (Party.core c.val) (some a)]) ∧
  (∀ c : Core, ∀ a : Nat, Answers (.keeperSramError c a false) s fun t => t.flt.net = s.flt.net ++ [s.message Kind.KEEPER_SRAM_CE 0 0x000 c.val 1 (Party.core c.val) (some a)] ∧
    t.clk = s.clk ∧ t.fab = s.fab ∧ t.nv = s.nv) ∧
  (∀ m : FaultMsg, s.clk.stopHeld = true → Answers (.failStop m) s fun t => t.flt.stop = s.flt.stop ∧ t.flt.net = s.flt.net ++ [m] ∧ t.clk = s.clk ∧ t.nv = s.nv) ∧
  (∀ c : Capture, s.flt.stop = some c → c.cause = none → s.flt.recordDue = true → s.clk.mgmtStopped = false → Answers .failstopRecordWritten s fun t =>
    t.nv.records = s.failRecord c :: s.nv.records.take 15 ∧ t.nv.rseq = s.nv.rseq + 1 ∧ t.hs.recMissing = false ∧ t.flt.recordDue = false ∧
    t.get Fld.FLT_STATUS_RECORDS = min 16 (s.nv.records.length + 1) ∧ Frame [.nv, .hs, .flt] [Fld.FLT_STATUS_RECORDS, Fld.NVS_WEAR_UNITS, Evt.NVS_WEAR_HIGH.field] s t)

/-- Parts of R371, R373, R375, R393: the keeper and the policy partition. A keeper core restarts its own watchdog by its bit of WDT_KICK; its timer interrupt comes when MTIME
has reached MTIMECMP; a running policy partition that exits, or violates its grant, is stopped with its cause and loses its grant. Choices and readings of the model it rests
on: log 275, 276 (DEDUCED); log 280 (DESIGN CHOICE). -/
def Obligations.KeeperAndPolicy : Prop := ∀ s : State,
  (∀ c : Core, ∀ value : Word, s.takes (.keeper c) 6 = true → value.getLsbD c.val = true → Answers (.wdtKick (.keeper c) value) s fun t =>
    t.keeper.kicks = mput 0 s.keeper.kicks c.val s.now ∧ Frame [.keeper] [] s t) ∧
  (∀ c : Core, ∀ w : Option Word64, s.clk.mgmtUp = true → (w.map (·.toNat)).getD (mget 0 s.keeper.mtimecmp c.val) ≤ s.now → Answers (.mtimeCompare c w) s fun t =>
    (c.val ∈ t.keeper.timerIrq) ∧ t.out = [.timerIrq c.val] ∧ mget 0 t.keeper.mtimecmp c.val = (w.map (·.toNat)).getD (mget 0 s.keeper.mtimecmp c.val) ∧
    Frame [.keeper, .out] [] s t) ∧
  (∀ c : Core, ∀ w : Word64, s.clk.mgmtUp = true → s.now < w.toNat → Answers (.mtimeCompare c (some w)) s fun t => (c.val ∉ t.keeper.timerIrq) ∧
    mget 0 t.keeper.mtimecmp c.val = w.toNat ∧ Frame [.keeper] [] s t) ∧
  (∀ c : Core, s.clk.mgmtUp = true → s.watchdogDue c.val = false → Answers (.keeperWatchdog c) s fun t => Frame [] [] s t) ∧
  (s.clk.mgmtUp = true → s.get Fld.MBX_POLICY_STATE = 1 → Answers .policyViolation s fun t => t.get Fld.MBX_POLICY_STATE = 2 ∧ t.get Fld.MBX_POLICY_CAUSE = 1 ∧
    t.get Evt.MBX_POLICY_STOPPED.field = 1 ∧ t.keeper.grant = [] ∧ Frame [.keeper] [Fld.MBX_POLICY_STATE, Fld.MBX_POLICY_CAUSE, Evt.MBX_POLICY_STOPPED.field] s t) ∧
  (s.clk.mgmtUp = true → s.get Fld.MBX_POLICY_STATE = 1 → Answers .policyPartitionExit s fun t => t.get Fld.MBX_POLICY_STATE = 2 ∧ t.get Fld.MBX_POLICY_CAUSE = 2 ∧
    t.get Evt.MBX_POLICY_STOPPED.field = 1 ∧ t.keeper.grant = [] ∧ Frame [.keeper] [Fld.MBX_POLICY_STATE, Fld.MBX_POLICY_CAUSE, Evt.MBX_POLICY_STOPPED.field] s t) ∧
  (∀ w : Fin 64, ∀ bits : Word, s.mgmtRuns = true → s.get Fld.MBX_POLICY_STATE = 1 → Answers (.intcPendSet .policy w bits) s fun t => t.get Fld.MBX_POLICY_STATE = 2 ∧
    t.get Fld.MBX_POLICY_CAUSE = 1 ∧ Frame [.keeper] [Fld.MBX_POLICY_STATE, Fld.MBX_POLICY_CAUSE, Evt.MBX_POLICY_STOPPED.field] s t)

/-- Parts of R377, R382, R392: the pending and enable bits of the interrupt controller, written by keeper cores alone. PEND_SET and EN_SET set the bits that are 1, PEND_CLR
and EN_CLR clear them, other bits stay; a level that has risen sets its pending bit once; a write of INTC_BAD clears both counts. (No source is forwarded here: FM_EN is 0.)
R378 to R381: claims and completions. The controller presents to a core, of the sources that are pending, enabled, in service on no core, targeted at it and of a priority
above its threshold and its running priority, the one of the highest priority, the lowest number among equals, and none where there is none; a source that is claimed is
presented no more. A vector fetch for a source that is pending, enabled and not in service claims it: its pending bit falls, it is in service with its priority innermost on
the stack of the core, INTC_CLAIM names it and the core gets its vector; for another source the core gets the spurious vector, counted. The core that completes its innermost
source ends its service; any other completion is only counted. -/
def Obligations.Interrupts : Prop := ∀ s : State,
  (∀ m : Master, ∀ w : Fin 64, ∀ bits : Word, s.flag Fld.MBX_CFG_FM_EN = false → s.takes m 5 = true → m.isKeeper = true → Answers (.intcPendSet m w bits) s fun t =>
    (∀ i : Fin 32, t.intPending (32 * w.val + i.val) = (s.intPending (32 * w.val + i.val) || bits.getLsbD i.val)) ∧ Frame [] ((List.range 32).map fun i =>
    bitField (Addr.INTC_PEND_SET 0) (32 * w.val + i)) s t) ∧
  (∀ m : Master, ∀ w : Fin 64, ∀ bits : Word, s.flag Fld.MBX_CFG_FM_EN = false → s.takes m 5 = true → m.isKeeper = true → Answers (.intcPendClr m w bits) s fun t =>
    t.word (Addr.INTC_PEND_SET w.val) = s.word (Addr.INTC_PEND_SET w.val) &&& ~~~ bits ∧ Frame [] [Field.all (Addr.INTC_PEND_SET w.val)] s t) ∧
  (∀ m : Master, ∀ w : Fin 64, ∀ bits : Word, s.flag Fld.MBX_CFG_FM_EN = false → s.takes m 5 = true → m.isKeeper = true → Answers (.intcEnSet m w bits) s fun t =>
    t.word (Addr.INTC_EN_SET w.val) = s.word (Addr.INTC_EN_SET w.val) ||| bits ∧ Frame [] [Field.all (Addr.INTC_EN_SET w.val)] s t) ∧
  (∀ m : Master, ∀ w : Fin 64, ∀ bits : Word, s.flag Fld.MBX_CFG_FM_EN = false → s.takes m 5 = true → m.isKeeper = true → Answers (.intcEnClr m w bits) s fun t =>
    t.word (Addr.INTC_EN_SET w.val) = s.word (Addr.INTC_EN_SET w.val) &&& ~~~ bits ∧ Frame [] [Field.all (Addr.INTC_EN_SET w.val)] s t) ∧
  (∀ n : Fin 2048, s.flag Fld.MBX_CFG_FM_EN = false → s.clk.mgmtUp = true → s.level n.val = true → (n.val ∉ s.keeper.sampled) → Answers (.intcLevelRise n) s fun t =>
    t.intPending n.val = true ∧ (n.val ∈ t.keeper.sampled) ∧ Frame [] [bitField (Addr.INTC_PEND_SET 0) n.val] s t) ∧
  (∀ m : Master, ∀ value : Word, s.flag Fld.MBX_CFG_FM_EN = false → s.takes m 5 = true → m.isKeeper = true → Answers (.intcBadClear m value) s fun t =>
    t.get Fld.INTC_BAD_BAD_COMPLETE = 0 ∧ t.get Fld.INTC_BAD_SPURIOUS = 0 ∧ Frame [] [Fld.INTC_BAD_BAD_COMPLETE, Fld.INTC_BAD_SPURIOUS] s t) ∧
  (∀ c : Core, ∀ n : Fin 2048, s.clk.mgmtUp = true → s.intPending n.val = true → s.intEnabled n.val = true → s.intActive n.val = false → Answers (.intcVectorFetch c n) s fun t =>
    t.intPending n.val = false ∧ t.intActive n.val = true ∧ t.get (Fld.INTC_CLAIM_SOURCE c.val) = n.val ∧
    t.keeper.inService = mput [] s.keeper.inService c.val ((n.val, s.get (Fld.INTC_SRC_PRIO n.val)) :: mget [] s.keeper.inService c.val) ∧
    t.counter (Ctr.ICLAIM n.val 0) = s.counter (Ctr.ICLAIM n.val 0) + 1 ∧ t.out = [.vector c.val (s.get64 (Addr.INTC_VEC_LO c.val) + 8 * n.val)] ∧
    Frame [.keeper, .ctrs, .out] [bitField (Addr.INTC_PEND_SET 0) n.val, bitField (Addr.INTC_ACTIVE 0) n.val, Fld.INTC_CLAIM_SOURCE c.val, Fld.INTC_RUN_RUNPRIO c.val,
    Fld.INTC_RUN_DEPTH c.val] s t) ∧
  (∀ c : Core, ∀ n : Fin 2048, s.clk.mgmtUp = true → (s.intPending n.val = false ∨ s.intEnabled n.val = false ∨ s.intActive n.val = true) →
    Answers (.intcVectorFetch c n) s fun t => t.get (Fld.INTC_CLAIM_SOURCE c.val) = 0xFFFF ∧ t.counter (Ctr.ICLAIM n.val 1) = s.counter (Ctr.ICLAIM n.val 1) + 1 ∧
    t.out = [.vector c.val (s.get64 (Addr.INTC_VEC_LO c.val) + 8 * 2048)] ∧ Frame [.ctrs, .out] [Fld.INTC_CLAIM_SOURCE c.val, Fld.INTC_BAD_SPURIOUS] s t) ∧
  (∀ c : Core, ∀ n : Fin 2048, s.clk.mgmtUp = true → s.presents c.val = some n.val → Answers (.intcVectorFetch c n) s fun t => t.intActive n.val = true ∧
    t.intPending n.val = false ∧ t.out = [.vector c.val (s.get64 (Addr.INTC_VEC_LO c.val) + 8 * n.val)] ∧ s.candidate c.val n.val = true ∧
    (∀ k : Fin 2048, s.candidate c.val k.val = true →
    s.get (Fld.INTC_SRC_PRIO k.val) < s.get (Fld.INTC_SRC_PRIO n.val) ∨ (s.get (Fld.INTC_SRC_PRIO k.val) = s.get (Fld.INTC_SRC_PRIO n.val) ∧ n.val ≤ k.val)) ∧
    t.presents c.val ≠ some n.val) ∧
  (∀ c : Core, ∀ n : Fin 2048, s.clk.mgmtUp = true → s.presents c.val = none → Answers (.intcVectorFetch c n) s fun _ => (∀ k : Fin 2048, s.candidate c.val k.val = false)) ∧
  (∀ c : Core, ∀ value : Word, ∀ n : Nat, ∀ p : Nat, ∀ l : List (Nat × Nat), s.takes (.keeper c) 5 = true → mget [] s.keeper.inService c.val = (n, p) :: l →
    value.toNat % 4096 = n → s.level n = false → Answers (.intcComplete (.keeper c) c value) s fun t => t.intActive n = false ∧
    t.keeper.inService = mput [] s.keeper.inService c.val l ∧ t.get (Fld.INTC_RUN_DEPTH c.val) = l.length % 2 ^ (Fld.INTC_RUN_DEPTH c.val).width ∧
    t.get Fld.INTC_BAD_BAD_COMPLETE = s.get Fld.INTC_BAD_BAD_COMPLETE) ∧
  (∀ c : Core, ∀ value : Word, s.takes (.keeper c) 5 = true → (mget [] s.keeper.inService c.val).head?.map (·.1) ≠ some (value.toNat % 4096) →
    Answers (.intcComplete (.keeper c) c value) s fun t => t.keeper.inService = s.keeper.inService ∧
    t.get Fld.INTC_BAD_BAD_COMPLETE = min (2 ^ Fld.INTC_BAD_BAD_COMPLETE.width - 1) (s.get Fld.INTC_BAD_BAD_COMPLETE + 1) ∧ Frame [] [Fld.INTC_BAD_BAD_COMPLETE] s t)

/-- Parts of R4, R5, R8, R9, R444, R445: a register write. A write that is not one aligned word is an unsupported request, over the MCTP path of the board an invalid
parameter, and changes nothing; a write where no page lies is ignored; BUF_RED_CFG.W takes a value in its range and ignores one outside it, and on a locked page it ignores
every write. Parts of R4, R6, R7, R66: the two words of a 64-bit register, each in an aligned access of 4 bytes. A read of the low word answers it and latches the high word
for its master, and the read of the high word answers that latch and ends it; a write of the low word is held, and the write of the high word commits both words, or its own
where none is held. TIME_SET commits to the time base where the value is not in the past, and else only raises TIME_SET_IGNORED. Choices and readings of the model it rests on:
log 20, 275 (DEDUCED). -/
def Obligations.RegisterReadsAndWrites : Prop := ∀ s : State, ∀ m : Master,
  (∀ addr : BitVec 28, ∀ n : Nat, ∀ value : Word, (n ≠ 4 ∨ addr.toNat % 4 ≠ 0) → Answers (.registerWrite m addr n value) s fun t =>
    t.out = [if m = .board then .invalidParam m else .unsupported m] ∧ Frame [.out] [] s t) ∧
  (∀ addr : BitVec 28, ∀ value : Word, m ≠ .policy → addr.toNat % 4 = 0 → blockOf (addr.toNat / 0x10000) = none → Answers (.registerWrite m addr 4 value) s fun t =>
    Frame [] [] s t) ∧
  (∀ value : Word, s.takes m 0x31 = true → s.locked 0x31 = false → bitsOf value.toNat Fld.BUF_RED_CFG_W.lo Fld.BUF_RED_CFG_W.width ≤ 12 →
    Answers (.registerWrite m 0x311010 4 value) s fun t => t.get Fld.BUF_RED_CFG_W = bitsOf value.toNat Fld.BUF_RED_CFG_W.lo Fld.BUF_RED_CFG_W.width ∧
    Frame [] [Fld.BUF_RED_CFG_W] s t) ∧
  (∀ value : Word, s.takes m 0x31 = true → (s.locked 0x31 = true ∨ 12 < bitsOf value.toNat Fld.BUF_RED_CFG_W.lo Fld.BUF_RED_CFG_W.width) →
    Answers (.registerWrite m 0x311010 4 value) s fun t => Frame [] [] s t) ∧
  (∀ addr : BitVec 28, ∀ n : Nat, (n ≠ 4 ∨ addr.toNat % 4 ≠ 0) → Answers (.read64Low m addr n) s fun t => t.out = [if m = .board then .invalidParam m else .unsupported m] ∧
    Frame [.out] [] s t) ∧
  (∀ addr : BitVec 28, ∀ n : Nat, (n ≠ 4 ∨ addr.toNat % 4 ≠ 0) → Answers (.read64High m addr n) s fun t => t.out = [if m = .board then .invalidParam m else .unsupported m] ∧
    Frame [.out] [] s t) ∧
  (∀ addr : BitVec 28, ∀ n : Nat, ∀ value : Word, (n ≠ 4 ∨ addr.toNat % 4 ≠ 0) → Answers (.write64Low m addr n value) s fun t =>
    t.out = [if m = .board then .invalidParam m else .unsupported m] ∧ Frame [.out] [] s t) ∧
  (∀ addr : BitVec 28, ∀ n : Nat, ∀ value : Word, (n ≠ 4 ∨ addr.toNat % 4 ≠ 0) → Answers (.write64High m addr n value) s fun t =>
    t.out = [if m = .board then .invalidParam m else .unsupported m] ∧ Frame [.out] [] s t) ∧
  (∀ addr : BitVec 28, s.mgmtRuns = true → m ≠ .policy → addr.toNat % 4 = 0 → pairWord addr.toNat = .low → Answers (.read64Low m addr 4) s fun t =>
    t.out = [.read m addr.toNat (BitVec.ofNat 32 (s.begin.readReg m addr.toNat))] ∧ t.latches = s.latches.filter (fun l =>
    l.master != m) ++ [⟨m, addr.toNat, BitVec.ofNat 32 (s.begin.readReg m (addr.toNat + 4))⟩] ∧ Frame [.out, .latches] [] s t) ∧
  (∀ addr : BitVec 28, ∀ k : PairLatch, s.mgmtRuns = true → m ≠ .policy → addr.toNat % 4 = 0 → pairWord addr.toNat = .high → (s.latches.find? fun l =>
    l.master == m && l.addr + 4 == addr.toNat) = some k → Answers (.read64High m addr 4) s fun t => t.out = [.read m addr.toNat k.word] ∧ (t.latches = s.latches.filter fun l =>
    l.master != m) ∧ Frame [.out, .latches] [] s t) ∧
  (∀ addr : BitVec 28, ∀ value : Word, s.takes m (addr.toNat / 0x10000) = true → addr.toNat % 4 = 0 → pairWord addr.toNat = .low → regionOf addr.toNat = none →
    0x1000 ≤ addr.toNat % 0x10000 → addr.toNat / 0x10000 ≠ 0x90 → (findRow addr.toNat).isSome = true → Answers (.write64Low m addr 4 value) s fun t =>
    t.held = s.held.filter (fun l => l.master != m) ++ [⟨m, addr.toNat, s.offered addr.toNat value⟩] ∧ Frame [.held] [] s t) ∧
  (∀ k : Fin 16, ∀ value : Word, s.takes m 0x0A = true → Answers (.write64High m (BitVec.ofNat 28 (Addr.PERF_OVF_PERIOD_LO k.val + 4)) 4 value) s fun t =>
    t.word (Addr.PERF_OVF_PERIOD_LO k.val + 4) = value ∧
    t.word (Addr.PERF_OVF_PERIOD_LO k.val) = (s.heldLow m (Addr.PERF_OVF_PERIOD_LO k.val)).getD (s.word (Addr.PERF_OVF_PERIOD_LO k.val)) ∧
    t.heldLow m (Addr.PERF_OVF_PERIOD_LO k.val) = none ∧ Frame [.held] [Field.all (Addr.PERF_OVF_PERIOD_LO k.val), Field.all (Addr.PERF_OVF_PERIOD_LO k.val + 4)] s t) ∧
  (∀ hi : Word, ∀ l : Word, s.takes m 8 = true → s.locked 8 = false → s.heldLow m Addr.TIME_SET_LO = some l → s.following = false → s.now ≤ l.toNat + 2 ^ 32 * hi.toNat →
    Answers (.timeSetCommit m hi) s fun t => t.now = l.toNat + 2 ^ 32 * hi.toNat ∧ t.keeper = { s.keeper with kicks := t.keeper.kicks } ∧
    (∀ c : Core, mget 0 s.keeper.kicks c.val < 2 ^ 64 → t.watchdogDue c.val = s.watchdogDue c.val) ∧ Frame [.clk, .keeper, .held] [Fld.TIME_SET_LO_SET] s t) ∧
  (∀ hi : Word, ∀ l : Word, s.takes m 8 = true → s.locked 8 = false → s.heldLow m Addr.TIME_SET_LO = some l → (s.following = true ∨ l.toNat + 2 ^ 32 * hi.toNat < s.now) →
    Answers (.timeSetCommit m hi) s fun t => t.now = s.now ∧ t.get Evt.TIME_SET_IGNORED.field = 1 ∧ Frame [.held] [Fld.TIME_SET_LO_SET, Evt.TIME_SET_IGNORED.field] s t)

/-- Parts of R433: register access messages. With four requests held the answer is BUSY, and a request that is not well formed is answered INVALID_PARAMETER; neither has an
effect. A request over PCIe VDM is discarded and counted. Else a READ answers the words read in ascending order, and a WRITE makes its writes in ascending order as the board
and answers SUCCESS. Choices and readings of the model it rests on: log 32, 33 (DEDUCED). -/
def Obligations.MctpAccess : Prop := ∀ s : State, ∀ q : MctpMsg, s.mgmtRuns = true →
  (q.vdm = false → q.status ≠ 0 → Answers (.mctpRegRead q) s fun t => t.out = [.mctp q.tag q.status []] ∧ Frame [.out] [] s t) ∧
  (q.vdm = true → Answers (.mctpRegRead q) s fun t => t.counter (Ctr.SECC 3 0) = s.counter (Ctr.SECC 3 0) + 1 ∧ Frame [.ctrs] [] s t) ∧
  (q.vdm = false → q.status = 0 → Answers (.mctpRegRead q) s fun t => t.out = [.mctp q.tag 0 (s.begin.readWords q.addr.toNat q.count).2] ∧ Frame [.out, .latches] [] s t) ∧
  (q.vdm = false → q.status = 0 → q.words.length = q.count → Answers (.mctpRegWrite q) s fun t =>
    t = ((s.begin.writeWords .board q.addr.toNat q.words).emit (.mctp q.tag 0 [])).settle) ∧
  (q.vdm = false → q.status ≠ 0 → Answers (.mctpRegWrite q) s fun t => t.out = [.mctp q.tag q.status []] ∧ Frame [.out] [] s t)

/-- Parts of R438, R441: the event registers of a page with the common header. A 1 written to EVT_PEND_SET sets a pending bit the page has, one written to EVT_PEND_CLR clears
it, and EVT_EN_SET and EVT_EN_CLR do the same for the enable bits; other bits and other registers stay. Parts of R444, R446: locks. A write of a page's LOCK with bit 0 set
locks it, and a locked page stays locked whatever is written; 0xC5 written to DEV_LOCK_ALL by a keeper core or the board locks every lockable page that is out of reset, and
another value does nothing. Choices and readings of the model it rests on: log 23 (DEDUCED). -/
def Obligations.EventsAndLocks : Prop := ∀ s : State, ∀ m : Master,
  (∀ page : BitVec 12, ∀ bits : Word, ∀ x : Block, ∀ f : Nat, s.flt.alert = s.alertLevel → s.takes m page.toNat = true → blockOf page.toNat = some (x, f) → hasHeader x = true →
    Answers (.evtPendSet m page bits) s fun t => t.word (evtPendAddr page.toNat) = s.word (evtPendAddr page.toNat) ||| (bits &&& BitVec.ofNat 32 (pageEvtMask page.toNat)) ∧
    Frame [] [Field.all (evtPendAddr page.toNat)] s t) ∧
  (∀ page : BitVec 12, ∀ bits : Word, ∀ x : Block, ∀ f : Nat, s.flt.alert = s.alertLevel → s.takes m page.toNat = true → blockOf page.toNat = some (x, f) → hasHeader x = true →
    Answers (.evtPendClr m page bits) s fun t => t.word (evtPendAddr page.toNat) = s.word (evtPendAddr page.toNat) &&& ~~~ bits ∧
    Frame [] [Field.all (evtPendAddr page.toNat)] s t) ∧
  (∀ page : BitVec 12, ∀ bits : Word, ∀ x : Block, ∀ f : Nat, s.flt.alert = s.alertLevel → s.takes m page.toNat = true → blockOf page.toNat = some (x, f) → hasHeader x = true →
    Answers (.evtEnSet m page bits) s fun t => t.word (evtEnAddr page.toNat) = s.word (evtEnAddr page.toNat) ||| (bits &&& BitVec.ofNat 32 (pageEvtMask page.toNat)) ∧
    Frame [] [Field.all (evtEnAddr page.toNat)] s t) ∧
  (∀ page : BitVec 12, ∀ bits : Word, ∀ x : Block, ∀ f : Nat, s.flt.alert = s.alertLevel → s.takes m page.toNat = true → blockOf page.toNat = some (x, f) → hasHeader x = true →
    Answers (.evtEnClr m page bits) s fun t => t.word (evtEnAddr page.toNat) = s.word (evtEnAddr page.toNat) &&& ~~~ bits ∧ Frame [] [Field.all (evtEnAddr page.toNat)] s t) ∧
  (∀ page : BitVec 12, ∀ value : Word, ∀ x : Block, ∀ f : Nat, s.takes m page.toNat = true → blockOf page.toNat = some (x, f) → lockable x = true →
    Answers (.pageLockWrite m page value) s fun t => t.locked page.toNat = (value.getLsbD 0 || s.locked page.toNat) ∧ Frame [] [Field.all (page.toNat * 0x10000 + 0x10FC)] s t) ∧
  (∀ value : Word, s.takes m 0 = true → m.keeperOrBoard = true → value.toNat % 256 = 0xC5 → Answers (.devLockAll m value) s fun t => (∀ pg ∈ lockPages, s.live pg = true →
    t.locked pg = true) ∧ Frame [] (lockPages.map fun pg => Field.all (pg * 0x10000 + 0x10FC)) s t) ∧
  (∀ value : Word, m ≠ .policy → (m.keeperOrBoard = false ∨ value.toNat % 256 ≠ 0xC5) → Answers (.devLockAll m value) s fun t => Frame [] [] s t)

/-- Parts of R449, R450, R366: the parameter block and the items of the NV store. NVS_CMD with OP 1 and CONFIRM 0x5A starts a commit, which ends either refused, where a field
is out of its range, or with the older copy holding the block with the next GEN and its CRC. An uncorrectable error makes the item that holds the word invalid and is reported
as contained. Choices and readings of the model it rests on: log 55 (DEDUCED). -/
def Obligations.NvStore : Prop := ∀ s : State,
  (∀ m : Master, ∀ value : Word, s.takes m 9 = true → m.keeperOrBoard = true → bitsOf value.toNat 0 4 = 1 → bitsOf value.toNat 24 8 = 0x5A → s.get Fld.NVS_CMD_STATUS_STATE ≠ 1 →
    Answers (.nvsCommitParam m value) s fun t => t.get Fld.NVS_CMD_STATUS_STATE = 1 ∧ t.nv.commit = some (if paramsOk (paramWords (tabulate 14 fun k =>
    (s.word (Addr.NVS_PARAM k)).toNat)) then some (paramWords (tabulate 14 fun k => (s.word (Addr.NVS_PARAM k)).toNat)) else none) ∧ Frame [.nv] [Fld.NVS_CMD_STATUS_STATE] s t) ∧
  (s.clk.mgmtUp = true → s.nv.commit = some none → Answers .nvsCommitDone s fun t => t.get Fld.NVS_CMD_STATUS_STATE = 3 ∧ t.get Evt.NVS_CMD_DONE.field = 1 ∧
    t.nv = { s.nv with commit := none } ∧ Frame [.nv] [Fld.NVS_CMD_STATUS_STATE, Evt.NVS_CMD_DONE.field] s t) ∧
  (∀ w : List Nat, s.clk.mgmtUp = true → s.nv.commit = some (some w) → Answers .nvsCommitDone s fun t => t.get Fld.NVS_CMD_STATUS_STATE = 2 ∧ t.get Evt.NVS_CMD_DONE.field = 1 ∧
    t.nv.commit = none ∧ (if s.nv.olderCopy = 0 then t.nv.param0 else t.nv.param1) = ⟨s.nv.newBlock w, false⟩ ∧
    (if s.nv.olderCopy = 0 then t.nv.param1 = s.nv.param1 else t.nv.param0 = s.nv.param0) ∧
    Frame [.nv] [Fld.NVS_CMD_STATUS_STATE, Evt.NVS_CMD_DONE.field, Fld.NVS_WEAR_UNITS, Evt.NVS_WEAR_HIGH.field] s t) ∧
  (∀ item : NvItem, s.clk.mgmtUp = true → Answers (.nvUe item) s fun t => t.nv = s.nv.spoil item ∧ t.get Evt.NVS_ITEM_INVALID.field = 1 ∧
    t.flt.net = s.flt.net ++ [s.message Kind.NV_UE 1 0x009 0 1 Party.none none])

/-- Parts of R420 to R425, R429: snapshots, samplers and histograms. A snapshot copies the counters of its pages at one instant and is BUSY until it is done; an overflow
sampler whose counter has reached its threshold takes its value and moves the threshold by PERIOD; a timed request enters every histogram that matches it; a write clears a
maximum or a missed count; a host reads its counters where its VCS is enabled for it, and zero else. Parts of R426 to R428: the telemetry ring. With the ring enabled and room
in the staging buffer, a mark and an export of counters are staged as records of their type; a write of PERF_RING_RD starts the fetch of the window, and when it is ready
WIN_READY is shown and raised. Choices and readings of the model it rests on: log 20, 76, 84, 266 (DEDUCED); log 281 (DESIGN CHOICE). -/
def Obligations.CountersAndTelemetry : Prop := ∀ s : State,
  (∀ m : Master, ∀ k : Fin 4, ∀ value : Word, s.takes m 0x0A = true → value.getLsbD 16 = true → s.flag (Fld.PERF_SNAP_CTL_BUSY k.val) = false →
    bitsOf value.toNat 0 8 ≤ bitsOf value.toNat 8 8 → Answers (.perfSnapTake m k value) s fun t => t.flag (Fld.PERF_SNAP_CTL_BUSY k.val) = true ∧
    t.get64 (Addr.PERF_SNAP_TS_LO k.val) = s.now % 2 ^ 64 ∧ assoc t.perf.snaps k.val = some ⟨(bitsOf value.toNat 0 8), (bitsOf value.toNat 8 8), s.now, s.ctrs.filter fun e =>
    decide (0x800 + (bitsOf value.toNat 0 8) ≤ e.1 / 0x10000) && decide (e.1 / 0x10000 ≤ 0x800 + (bitsOf value.toNat 8 8))⟩ ∧
    Frame [.perf] [Fld.PERF_SNAP_CTL_FIRST k.val, Fld.PERF_SNAP_CTL_LAST k.val, Fld.PERF_SNAP_CTL_BUSY k.val, Field.all (Addr.PERF_SNAP_TS_LO k.val),
    Field.all (Addr.PERF_SNAP_TS_LO k.val + 4)] s t) ∧
  (∀ k : Fin 4, s.clk.mgmtUp = true → s.flag (Fld.PERF_SNAP_CTL_BUSY k.val) = true → Answers (.perfSnapDone k) s fun t => t.flag (Fld.PERF_SNAP_CTL_BUSY k.val) = false ∧
    t.flag (Fld.PERF_SNAP_CTL_VALID k.val) = true ∧ t.get Evt.PERF_SNAP_DONE.field = 1 ∧
    Frame [] [Fld.PERF_SNAP_CTL_BUSY k.val, Fld.PERF_SNAP_CTL_VALID k.val, Evt.PERF_SNAP_DONE.field] s t) ∧
  (∀ v : Vcs, ∀ off : Nat, s.clk.mgmtUp = true → s.userReached v.val = true → off % 8 = 0 → Answers (.userCounterRead v off 8) s fun t =>
    t.out = [.userRead v.val (if bitsOf (s.get64 Addr.PERF_CNT_USER_EN_LO) v.val 1 = 1 then s.begin.userValue v.val off else 0)] ∧ Frame [.out] [] s t) ∧
  (∀ v : Vcs, ∀ off : Nat, ∀ n : Nat, ((n = 8 ∧ off % 8 ≠ 0) ∨ (n = 4 ∧ off % 4 ≠ 0) ∨ (n ≠ 4 ∧ n ≠ 8) ∨ s.userReached v.val = false) →
    Answers (.userCounterRead v off n) s fun t => t.out = [.unsupported (.host v)] ∧ Frame [.out] [] s t) ∧
  (∀ k : Fin 16, s.clk.mgmtUp = true → s.flag (Fld.PERF_OVF_SEL_EN k.val) = true → (k.val ∉ s.perf.disarmed) →
    (s.liveCounter (s.get (Fld.PERF_OVF_SEL_PAGE k.val)) (s.get (Fld.PERF_OVF_SEL_INDEX k.val)) + 2 ^ 64 - s.get64 (Addr.PERF_OVF_THR_LO k.val)) % 2 ^ 64 < 2 ^ 63 →
    s.get (Evt.PERF_SAMPLE k.val).field = 0 → Answers (.perfOvfTrigger k) s fun t =>
    t.get64 (Addr.PERF_OVF_VAL_LO k.val) = s.liveCounter (s.get (Fld.PERF_OVF_SEL_PAGE k.val)) (s.get (Fld.PERF_OVF_SEL_INDEX k.val)) ∧ t.get (Evt.PERF_SAMPLE k.val).field = 1 ∧
    t.get64 (Addr.PERF_OVF_THR_LO k.val) = (s.get64 (Addr.PERF_OVF_THR_LO k.val) + s.get64 (Addr.PERF_OVF_PERIOD_LO k.val)) % 2 ^ 64 ∧
    Frame [.perf] [Field.all (Addr.PERF_OVF_VAL_LO k.val), Field.all (Addr.PERF_OVF_VAL_LO k.val + 4), Field.all (Addr.PERF_OVF_THR_LO k.val),
    Field.all (Addr.PERF_OVF_THR_LO k.val + 4), (Evt.PERF_SAMPLE k.val).field] s t) ∧
  (∀ x : LatSample, s.clk.mgmtUp = true → s.flag Fld.PERF_LAT_CFG_EN = true → x.discarded = false → x.skipped = false → Answers (.latencySample x) s fun t =>
    (∀ h : Fin 64, t.counter (Ctr.HSTAT h.val 0) = s.counter (Ctr.HSTAT h.val 0) + (if s.histMatches h.val x then 1 else 0)) ∧ (∀ h : Fin 64, s.histMatches h.val x = false →
    t.get (Fld.PERF_HIST_MAX_NS h.val) = s.get (Fld.PERF_HIST_MAX_NS h.val))) ∧
  (∀ m : Master, ∀ h : Fin 64, ∀ value : Word, s.takes m 0x0A = true → Answers (.perfHistMaxClear m h value) s fun t => t.get (Fld.PERF_HIST_MAX_NS h.val) = 0 ∧
    Frame [] [Fld.PERF_HIST_MAX_NS h.val] s t) ∧
  (∀ m : Master, ∀ k : Fin 16, ∀ value : Word, s.takes m 0x0A = true → Answers (.perfOvfMissedClear m k value) s fun t => t.get (Fld.PERF_OVF_MISSED_COUNT k.val) = 0 ∧
    Frame [] [Fld.PERF_OVF_MISSED_COUNT k.val] s t) ∧
  (∀ m : Master, ∀ value : Word, s.takes m 0x0A = true → s.flag Fld.PERF_RING_CFG_EN = true → s.clk.fabricHeld = false → s.fab.stage.length < 1024 →
    Answers (.perfRingMark m value) s fun t => t.fab.stage = s.fab.stage ++ [⟨4, 0, s.now, [value.toNat]⟩] ∧ Frame [.fab] [] s t) ∧
  (∀ m : Master, ∀ value : Word, s.takes m 0x0A = true → s.flag Fld.PERF_RING_CFG_EN = true → s.clk.fabricHeld = false → 1024 ≤ s.fab.stage.length →
    Answers (.perfRingMark m value) s fun t => t.get Evt.PERF_RING_DROP.field = 1 ∧ Frame [] [Fld.PERF_RING_DROP_COUNT, Evt.PERF_RING_DROP.field] s t) ∧
  (∀ j : Fin 48, s.clk.mgmtUp = true → s.flag Fld.PERF_RING_CFG_EN = true → s.clk.fabricHeld = false → s.flag Fld.PERF_RING_CFG_EXPORT = true →
    bitsOf (s.word (Addr.PERF_EXP j.val)).toNat 31 1 = 1 → (∀ i : Fin 48, j < i → bitsOf (s.word (Addr.PERF_EXP i.val)).toNat 31 1 = 0) → s.fab.stage.length + 8 ≤ 1024 →
    Answers .perfExportTimer s fun t => t.fab.stage.length = s.fab.stage.length + (j.val / 6 + 1) ∧ (∀ r ∈ t.fab.stage.drop s.fab.stage.length, r.type = 3 ∧ r.time = s.now) ∧
    Frame [.fab] [] s t) ∧
  (∀ m : Master, ∀ value : Word, s.takes m 0x0A = true → Answers (.perfRingRd m value) s fun t => t.get Fld.PERF_RING_RD_SEQ = value.toNat ∧
    t.get Fld.PERF_RING_STATUS_WIN_READY = 0 ∧ t.perf = { s.perf with fetching := true } ∧ Frame [.perf] [Fld.PERF_RING_RD_SEQ, Fld.PERF_RING_STATUS_WIN_READY] s t) ∧
  (s.clk.mgmtUp = true → s.perf.fetching = true → Answers .perfRingWinReady s fun t => t.get Fld.PERF_RING_STATUS_WIN_READY = 1 ∧ t.get Evt.PERF_WIN_READY.field = 1 ∧
    t.perf = { s.perf with fetching := false } ∧ (s.get Fld.PERF_RING_WR_SEQ < s.ringCapacity → t.get Fld.PERF_RING_RD_SEQ = s.get Fld.PERF_RING_RD_SEQ))

/-- Parts of R180, R181, R183: an Ehrurn link. A direction that is free sends a slot under the next sequence number and keeps it; the receiver takes an intact slot that is the
one it waits for and the acknowledgement it brings, and answers a broken one with a NAK; after a NAK or a time-out the slots from the one named on are sent again in order and
a corrected error is reported; a slot sent four times in vain, or a link that fails with slots outstanding, stops the module. Choices and readings of the model it rests on:
log 93 (DEDUCED). -/
def Obligations.EhrurnLink : Prop := ∀ s : State, ∀ k : Tile, s.fabricRuns = true →
  (s.slotFree k.val (2 * k.val + 1) = true → Answers (.ehrurnSlotArbitrate k true) s fun t =>
    (mget EhrDir.reset t.fab.sw.ehr (2 * k.val + 1)).seq = ((mget EhrDir.reset s.fab.sw.ehr (2 * k.val + 1)).seq + 1) % 4096 ∧
    (mget EhrDir.reset t.fab.sw.ehr (2 * k.val + 1)).unacked = (mget EhrDir.reset s.fab.sw.ehr (2 * k.val + 1)).unacked ++ [((mget EhrDir.reset s.fab.sw.ehr (2 * k.val + 1)).seq, 1)] ∧
    (∃ n : Fin 9,
    (mget EhrDir.reset t.fab.sw.ehr (2 * k.val + 1)).grants = (mget EhrDir.reset s.fab.sw.ehr (2 * k.val + 1)).grants ++ [((mget EhrDir.reset s.fab.sw.ehr (2 * k.val + 1)).seq,
    n.val)] ∧ (tabulate 4 (nth (mget EhrDir.reset t.fab.sw.ehr (2 * k.val + 1)).beats)).sum + n.val = (tabulate 4 (nth (mget EhrDir.reset s.fab.sw.ehr (2 * k.val + 1)).beats)).sum ∧
    (n.val = 8 ∨ (tabulate 4 (nth (mget EhrDir.reset t.fab.sw.ehr (2 * k.val + 1)).beats)).sum = 0)) ∧
    t.counter (Ctr.CORE (2 * k.val + 1) 0) = s.counter (Ctr.CORE (2 * k.val + 1) 0) + 1 ∧ Frame [.fab, .ctrs] [] s t) ∧
  (s.slotFree k.val (2 * k.val) = true → s.fab.sw.waiting = [] → Answers (.ehrurnSlotArbitrate k false) s fun t =>
    (mget EhrDir.reset t.fab.sw.ehr (2 * k.val)).seq = ((mget EhrDir.reset s.fab.sw.ehr (2 * k.val)).seq + 1) % 4096 ∧
    (mget EhrDir.reset t.fab.sw.ehr (2 * k.val)).unacked = (mget EhrDir.reset s.fab.sw.ehr (2 * k.val)).unacked ++ [((mget EhrDir.reset s.fab.sw.ehr (2 * k.val)).seq, 1)] ∧
    t.fab.sw.turn = (s.fab.sw.turn + 1) % 20 ∧ Frame [.fab, .ctrs] [] s t) ∧
  (∀ x : EhrBeat, ∀ r : List EhrBeat, ∀ j : Nat, ∀ l : List (Nat × Nat), s.get (Fld.EHR_STATUS_STATE k.val) = 2 →
    slotIntact ((assoc (mget EhrDir.reset s.fab.sw.ehr (2 * k.val)).grants (mget EhrDir.reset s.fab.sw.ehr (2 * k.val)).expect).getD 0) (x :: r) = true →
    x.seq = (mget EhrDir.reset s.fab.sw.ehr (2 * k.val)).expect → x.ackType = 1 → (mget EhrDir.reset s.fab.sw.ehr (2 * k.val + 1)).unacked = (x.ackSeq, j) :: l →
    Answers (.ehrurnSlotRx k false (x :: r)) s fun t => (mget EhrDir.reset t.fab.sw.ehr (2 * k.val)).expect = ((mget EhrDir.reset s.fab.sw.ehr (2 * k.val)).expect + 1) % 4096 ∧
    (mget EhrDir.reset t.fab.sw.ehr (2 * k.val)).naked = false ∧ (mget EhrDir.reset t.fab.sw.ehr (2 * k.val + 1)).unacked = l ∧
    Frame [.fab] [Fld.EHR_STATUS_REPLAYING k.val] s t) ∧
  (∀ x : EhrBeat, ∀ r : List EhrBeat, s.get (Fld.EHR_STATUS_STATE k.val) = 2 →
    slotIntact ((assoc (mget EhrDir.reset s.fab.sw.ehr (2 * k.val)).grants (mget EhrDir.reset s.fab.sw.ehr (2 * k.val)).expect).getD 0) (x :: r) = false →
    Answers (.ehrurnSlotRx k false (x :: r)) s fun t => (mget EhrDir.reset t.fab.sw.ehr (2 * k.val)) = { (mget EhrDir.reset s.fab.sw.ehr (2 * k.val)) with naked := true } ∧
    t.counter (Ctr.CORE (2 * k.val) 1) = s.counter (Ctr.CORE (2 * k.val) 1) + 1 ∧
    t.out = [.ehrNak (2 * k.val) (((mget EhrDir.reset s.fab.sw.ehr (2 * k.val)).expect + 4095) % 4096)] ∧ Frame [.fab, .ctrs, .out] [] s t) ∧
  (∀ a : BitVec 12, ∀ j : Nat, ∀ l : List (Nat × Nat), (mget EhrDir.reset s.fab.sw.ehr (2 * k.val)).unacked = (a.toNat, j) :: l →
    l.head?.map (·.1) = some ((a.toNat + 1) % 4096) → (∀ e ∈ l, e.2 < 4) → Answers (.ehrurnNakRx k false a) s fun t =>
    (mget EhrDir.reset t.fab.sw.ehr (2 * k.val)).unacked = l.map (fun e => (e.1, e.2 + 1)) ∧ t.get (Fld.EHR_STATUS_REPLAYING k.val) = 1 ∧ t.get (Evt.EHR_REPLAY k.val).field = 1 ∧
    t.clk = s.clk) ∧
  (∀ l : List (Nat × Nat), (mget EhrDir.reset s.fab.sw.ehr (2 * k.val)).unacked = l → l ≠ [] → (∀ e ∈ l, e.2 < 4) → Answers (.ehrurnAckTimeout k false) s fun t =>
    (mget EhrDir.reset t.fab.sw.ehr (2 * k.val)).unacked = l.map (fun e => (e.1, e.2 + 1)) ∧ t.get (Fld.EHR_STATUS_REPLAYING k.val) = 1 ∧ t.get (Evt.EHR_REPLAY k.val).field = 1 ∧
    t.clk = s.clk) ∧
  (∀ l : List (Nat × Nat), s.clk.stopHeld = false → s.clk.startFail = false → (mget EhrDir.reset s.fab.sw.ehr (2 * k.val)).unacked = l → (∃ e ∈ l, 4 ≤ e.2) →
    Answers (.ehrurnAckTimeout k false) s fun t => t.clk.stopHeld = true ∧ t.fab = Fabric.reset) ∧
  (s.clk.stopHeld = false → s.clk.startFail = false → (mget EhrDir.reset s.fab.sw.ehr (2 * k.val)).unacked ≠ [] → Answers (.ehrurnFail k false) s fun t => t.clk.stopHeld = true ∧
    t.fab = Fabric.reset)

/-- Parts of R166, R168, R177, R178, R189, R192, R196 to R198, R214: admission and output. A message that is admitted enters its strand; the output of a port group sends the
oldest message of its privileged FIFO, else the one its scheduler chooses, and an error of its storage that cannot be corrected stops the module; a privileged fan-out enters
the FIFO of every target in one cycle or is held for credit; long waits raise their events; writes clear the water marks. Choices and readings of the model it rests on: log 80
(DESIGN CHOICE); log 92, 93, 134, 229 (DEDUCED). -/
def Obligations.SwitchOutput : Prop := ∀ s : State, s.fabricRuns = true →
  (∀ k : Tile, ∀ m : Msg, ∀ o : Nat, ∀ u : State, s.slotFree k.val (2 * k.val) = true → s.fab.sw.waiting = [m] → o < 4 → ownerOf k.val o m = true →
    (∀ i : Fin 4, nth (mget EhrDir.reset s.fab.sw.ehr (2 * k.val)).beats i.val = 0) → (s.begin.unwait m).admitMsg m = some u → u.fab.sw.waiting = [] →
    Answers (.ehrurnSlotArbitrate k false) s fun t => t.fab.sw.waiting = [] ∧ t.fab.sw.strands = u.fab.sw.strands ∧ t.fab.sw.iep = u.fab.sw.iep) ∧
  (∀ p : Fin 68, ∀ q : Svc, (s.fab.sw.waiting.any fun m => m.src == p.val && m.svc == q.val) = true → Answers (.admitWaitTimeout p q) s fun t =>
    t.get Evt.BUF_ADMIT_HOLD.field = 1 ∧ Frame [] [Evt.BUF_ADMIT_HOLD.field] s t) ∧
  (∀ g : Pg, ∀ same : Bool, ∀ l : List Stall, ∀ e : CoreError, ∀ m : Msg, ∀ r : List Msg, e.fatalKind = none → mget [] s.fab.sw.priv g.val = m :: r →
    (∀ j : Fin 4, s.dsxTx (4 * g.val + j.val) ≠ 3) → s.dsxTx m.dst < 2 → (s.linkUp m.dst = false ∨ s.flows m.dst = true) → Answers (.schedulerDequeue g same l e) s fun t =>
    t.out = [.tx m.dst m] ∧ t.fab.sw.priv = mput [] s.fab.sw.priv g.val r ∧
    t.counter (Ctr.PORT m.dst (16 + m.svc)) = s.counter (Ctr.PORT m.dst (16 + m.svc)) + (if 16 + m.svc = 3 then 1 + BitVec.ofNat 64 m.slotBytes else 1) ∧
    t.counter (Ctr.PORT m.dst 3) = s.counter (Ctr.PORT m.dst 3) + BitVec.ofNat 64 m.slotBytes ∧ Frame [.fab, .ctrs, .out] [] s t) ∧
  (∀ g : Pg, ∀ same : Bool, ∀ l : List Stall, ∀ e : CoreError, ∀ m : Msg, ∀ r : List Msg, e.fatalKind = none → mget [] s.fab.sw.priv g.val = m :: r →
    (∀ j : Fin 4, s.dsxTx (4 * g.val + j.val) ≠ 3) → s.linkUp m.dst = true → s.get (Fld.PORT_STATUS_LINK m.dst) = 6 → Answers (.schedulerDequeue g same l e) s fun t =>
    t.fab.sw.priv = s.fab.sw.priv ∧ t.fab.sw.strands = s.fab.sw.strands ∧ Frame [.fab] [] s t) ∧
  (∀ g : Pg, ∀ p : Port, ∀ same : Bool, ∀ l : List Stall, ∀ e : CoreError, e.fatalKind = none → p.val / 4 = g.val → s.dsxTx p.val = 3 → s.txQueueEmpty p.val = false →
    Answers (.schedulerDequeue g same l e) s fun t => t.dsxTx p.val = 4) ∧
  (∀ g : Pg, ∀ same : Bool, ∀ l : List Stall, ∀ p : Nat, ∀ x : List Active, ∀ q : Nat, ∀ y : List Active, ∀ e : SEntry, mget [] s.fab.sw.priv g.val = [] →
    (∀ j : Fin 4, s.dsxTx (4 * g.val + j.val) ≠ 3) → s.dsxTx e.msg.dst < 2 → (s.begin.inCycle same g.val).pickGroup l g.val = some (p, x, q, y, e) →
    Answers (.schedulerDequeue g same l .clean) s fun t => t.out = [.tx e.msg.dst (s.onLink e.msg)] ∧ (t.strand p q e.msg.sub).msgs = (s.strand p q e.msg.sub).msgs.erase e ∧
    mget 0 t.fab.sw.groups g.val = (mget 0 s.fab.sw.groups g.val + 1) % 4 ∧ t.portBucket e.msg.dst = (s.portBucket e.msg.dst).charge e.msg.len ∧
    t.counter (Ctr.PORT e.msg.dst 3) = s.counter (Ctr.PORT e.msg.dst 3) + BitVec.ofNat 64 e.msg.slotBytes ∧
    t.counter (Ctr.SUB e.msg.sub 4) = s.counter (Ctr.SUB e.msg.sub 4) + 1 ∧ Frame [.fab, .ctrs, .out] [] s t) ∧
  (∀ g : Pg, ∀ err : CoreError, ∀ same : Bool, ∀ l : List Stall, ∀ p : Nat, ∀ x : List Active, ∀ q : Nat, ∀ y : List Active, ∀ e : SEntry, err.fatalKind = none →
    mget [] s.fab.sw.priv g.val = [] → (∀ j : Fin 4, s.dsxTx (4 * g.val + j.val) ≠ 3) → s.dsxTx e.msg.dst < 2 →
    (s.begin.inCycle same g.val).pickGroup l g.val = some (p, x, q, y, e) → Answers (.schedulerDequeue g same l err) s fun t =>
    (t.strand p q e.msg.sub).msgs = (s.strand p q e.msg.sub).msgs.erase e ∧ mget 0 t.fab.sw.groups g.val = (mget 0 s.fab.sw.groups g.val + 1) % 4 ∧
    t.portBucket e.msg.dst = (s.portBucket e.msg.dst).charge e.msg.len) ∧
  (∀ g : Pg, ∀ same : Bool, ∀ l : List Stall, ∀ e : CoreError, s.clk.stopHeld = false → s.clk.startFail = false → e.fatalKind ≠ none →
    Answers (.schedulerDequeue g same l e) s fun t => t.clk.stopHeld = true ∧ t.fab = Fabric.reset) ∧
  (∀ p : Port, ∀ q : Svc, ∀ u : SubId, ∀ e : SEntry, (s.strand p.val q.val u.val).msgs.head? = some e → s.subAllows u.val q.val e.msg.len = false →
    Answers (.shapeHoldTimeout p q u) s fun t => t.counter (Ctr.SUB u.val 5) = s.counter (Ctr.SUB u.val 5) + 1 ∧ t.get Evt.SCHED_SHAPE_HOLD.field = 1 ∧
    Frame [.ctrs] [Evt.SCHED_SHAPE_HOLD.field] s t) ∧
  (∀ m : Msg, ∀ r : List (List Msg), s.fab.sw.fan = [m] :: r → (s.linkUp m.dst = true ∨ 64 ≤ m.dst) → s.hasCredits [m] = true → Answers .privFanout s fun t => t.fab.sw.fan = r ∧
    mget [] t.fab.sw.priv (outputOf m.dst) = mget [] s.fab.sw.priv (outputOf m.dst) ++ [m] ∧ Frame [.fab] [Fld.XBAR_PRIV_HWM] s t) ∧
  (∀ l : List Msg, ∀ r : List (List Msg), s.fab.sw.fan = l :: r → s.hasCredits l = false → Answers .privFanout s fun t =>
    t.counter (Ctr.CORE 8 3) = s.counter (Ctr.CORE 8 3) + 1 ∧ t.get Evt.XBAR_PRIV_STALL.field = 1 ∧ Frame [.ctrs] [Evt.XBAR_PRIV_STALL.field] s t) ∧
  (∀ m : Master, ∀ value : Word, s.takes m 0x30 = true → Answers (.xbarPrivClear m value) s fun t => t.get Fld.XBAR_PRIV_HWM = 0 ∧ Frame [] [Fld.XBAR_PRIV_HWM] s t) ∧
  (∀ m : Master, ∀ value : Word, s.takes m 0x31 = true → Answers (.bufLowWaterLoad m value) s fun t =>
    t.get Fld.BUF_LOW_WATER_CELLS = s.sharedFree % 2 ^ Fld.BUF_LOW_WATER_CELLS.width ∧ Frame [] [Fld.BUF_LOW_WATER_CELLS] s t)

/-- Parts of R200, R203, R204, R212: token buckets. A write of a control word with staged values in range makes them the pending snapshot of the shaper, or of the policers of
all four tiles, with PENDING set; the next refill takes the snapshot, adds the rate up to the burst, and clears PENDING with APPLIED raised. -/
def Obligations.TokenBuckets : Prop := ∀ s : State,
  (∀ same : Bool, ∀ u : SubId, s.fabricRuns = true → Answers (.bucketRefill same (.sub u)) s fun t =>
    (t.subBucket u.val = (if same then assoc s.fab.sw.start u.val else none).elim (s.subBucket u.val).refill fun x =>
    ({ s.subBucket u.val with count := x.1 } : Bucket).refill.charge x.2) ∧ ((s.subBucket u.val).next.isSome = true → t.get (Fld.SUB_SHP_CTL_PENDING u.val) = 0 ∧
    t.get Evt.SCHED_APPLIED.field = 1) ∧ Frame [.fab] [Fld.SUB_SHP_CTL_PENDING u.val, Evt.SCHED_APPLIED.field] s t) ∧
  (∀ same : Bool, ∀ p : Port, s.fabricRuns = true → Answers (.bucketRefill same (.port p)) s fun t => t.portBucket p.val = (s.portBucket p.val).refill ∧
    ((s.portBucket p.val).next.isSome = true → t.get (Fld.PORT_SHP_CTL_PENDING p.val) = 0 ∧ t.get Evt.SCHED_APPLIED.field = 1) ∧
    Frame [.fab] [Fld.PORT_SHP_CTL_PENDING p.val, Evt.SCHED_APPLIED.field] s t) ∧
  (∀ same : Bool, ∀ k : Tile, ∀ u : SubId, s.fabricRuns = true → Answers (.bucketRefill same (.pol k u)) s fun t => t.polBucket k.val u.val = (s.polBucket k.val u.val).refill ∧
    ((s.polBucket k.val u.val).next.isSome = true → (∀ j : Tile, j ≠ k → (s.polBucket j.val u.val).next = none) → t.get (Fld.SUB_POL_CTL_PENDING u.val) = 0 ∧
    t.get Evt.SCHED_APPLIED.field = 1) ∧ Frame [.fab] [Fld.SUB_POL_CTL_PENDING u.val, Evt.SCHED_APPLIED.field] s t) ∧
  (∀ m : Master, ∀ u : SubId, ∀ value : Word, s.takes m (0x402 + u.val / 1024) = true → burstOk (s.get (Fld.SUB_SHP_BURST_BURST u.val)) = true →
    s.get64 (Addr.SUB_SHP_RATE_LO u.val) / 2 ^ 32 ≤ 0x10000 → Answers (.shaperCommit m (.sub u) value) s fun t =>
    t.subBucket u.val = { s.subBucket u.val with next := some { BucketCfg.off with en := value.getLsbD 0, mask := bitsOf value.toNat 8 8 &&& 0x4F, rate := s.get64 (Addr.SUB_SHP_RATE_LO u.val), burst := s.get (Fld.SUB_SHP_BURST_BURST u.val) } } ∧
    t.get (Fld.SUB_SHP_CTL_PENDING u.val) = 1 ∧ Frame [.fab] [Fld.SUB_SHP_CTL_EN u.val, Fld.SUB_SHP_CTL_SVC_MASK u.val, Fld.SUB_SHP_CTL_PENDING u.val] s t) ∧
  (∀ m : Master, ∀ u : SubId, ∀ value : Word, s.takes m (0x402 + u.val / 1024) = true → burstOk (s.get (Fld.SUB_POL_CBS_CBS u.val)) = true →
    burstOk (s.get (Fld.SUB_POL_PBS_PBS u.val)) = true → s.get64 (Addr.SUB_POL_CIR_LO u.val) ≤ s.get64 (Addr.SUB_POL_PIR_LO u.val) →
    s.get64 (Addr.SUB_POL_PIR_LO u.val) / 2 ^ 32 ≤ 0x10000 → Answers (.policerCommit m u value) s fun t =>
    (∀ k : Tile, (t.polBucket k.val u.val).next = some ⟨value.getLsbD 0, 0x4F, s.get64 (Addr.SUB_POL_CIR_LO u.val), s.get (Fld.SUB_POL_CBS_CBS u.val),
    s.get64 (Addr.SUB_POL_PIR_LO u.val), s.get (Fld.SUB_POL_PBS_PBS u.val)⟩) ∧ t.get (Fld.SUB_POL_CTL_PENDING u.val) = 1 ∧
    Frame [.fab] [Fld.SUB_POL_CTL_EN u.val, Fld.SUB_POL_CTL_PENDING u.val] s t)

/-- Parts of R280 to R283, R309: the Hive Access Table. Between commits an active module takes the writes of its shadow rules; RULE_COMMIT puts the shadow in force under the
next EPOCH, or is refused where a rule is invalid; while a commit runs a write is ignored and reported; when every tile has swapped, the refill is done and no access of the
old epoch is left, COMMIT_DONE sets, at the latest when the time-out has aborted what was left. Choices and readings of the model it rests on: log 98 (DEDUCED). -/
def Obligations.RuleCommits : Prop := ∀ s : State,
  (∀ m : Master, ∀ n : Rule, ∀ v : Word, s.takes m (0x500 + n.val / 1024) = true → s.isActive = true → s.flag Fld.HAT_STATUS_COMMIT_DONE = true →
    Answers (.hatRuleWrite m n (.ctl v)) s fun t => t.word (Addr.RULE_CTL n.val) = v &&& 0x003FFFFF ∧ Frame [] [Field.all (Addr.RULE_CTL n.val)] s t) ∧
  (∀ m : Master, ∀ n : Rule, ∀ w : RuleWord, s.takes m (0x500 + n.val / 1024) = true → s.isActive = true → s.flag Fld.HAT_STATUS_COMMIT_DONE = false →
    Answers (.hatRuleWrite m n w) s fun t => t.get Evt.HAT_WRITE_IGNORED.field = 1 ∧ Frame [] [Evt.HAT_WRITE_IGNORED.field] s t) ∧
  (∀ m : Master, ∀ value : Word, s.takes m 0x50 = true → value.getLsbD 0 = true → s.isActive = true → s.flag Fld.HAT_STATUS_COMMIT_DONE = true → s.badRules = [] →
    Answers (.hatCommit m value) s fun t => t.fab.hat = { s.fab.hat with active := s.shadow, old := s.fab.hat.active, tilesOld := [0, 1, 2, 3], refilled := false } ∧
    t.get Fld.HAT_STATUS_COMMIT_DONE = 0 ∧ t.get Fld.HAT_STATUS_EPOCH = (s.get Fld.HAT_STATUS_EPOCH + 1) % 65536 ∧
    Frame [.fab, .ctrs, .pair, .out] ([Fld.HAT_STATUS_COMMIT_DONE, Fld.HAT_STATUS_REFUSED, Fld.HAT_STATUS_EPOCH] ++ mirrorFields) s t) ∧
  (∀ m : Master, ∀ value : Word, s.takes m 0x50 = true → value.getLsbD 0 = true → s.isActive = true → s.flag Fld.HAT_STATUS_COMMIT_DONE = true → s.badRules ≠ [] →
    Answers (.hatCommit m value) s fun t => t.get Fld.HAT_STATUS_REFUSED = 1 ∧ t.get Evt.HAT_COMMIT_REFUSED.field = 1 ∧
    Frame [] [Fld.HAT_STATUS_REFUSED, Evt.HAT_COMMIT_REFUSED.field] s t) ∧
  (∀ m : Master, ∀ value : Word, s.takes m 0x50 = true → value.getLsbD 0 = true → (s.isActive = false ∨ s.flag Fld.HAT_STATUS_COMMIT_DONE = false) →
    Answers (.hatCommit m value) s fun t => t.get Evt.HAT_WRITE_IGNORED.field = 1 ∧ Frame [] [Evt.HAT_WRITE_IGNORED.field] s t) ∧
  (∀ k : Tile, s.fabricRuns = true → Answers (.hatTileSwap k) s fun t => t.fab.hat = { s.fab.hat with tilesOld := s.fab.hat.tilesOld.filter fun x => x != k.val } ∧
    Frame [.fab] [] s t) ∧
  (s.fabricRuns = true → s.flag Fld.HAT_STATUS_COMMIT_DONE = false → Answers .hatRefillDone s fun t => t.fab.hat = { s.fab.hat with refilled := true } ∧
    (s.fab.hat.tilesOld = [] → s.oldMsgs = [] → t.get Fld.HAT_STATUS_COMMIT_DONE = 1 ∧ t.get Evt.HAT_COMMIT_DONE.field = 1) ∧
    Frame [.fab] [Fld.HAT_STATUS_COMMIT_DONE, Evt.HAT_COMMIT_DONE.field] s t) ∧
  (s.fabricRuns = true → s.flag Fld.HAT_STATUS_COMMIT_DONE = false → s.fab.hat.tilesOld = [] → s.fab.hat.refilled = true → s.oldMsgs = [] → Answers .oldEpochRetire s fun t =>
    t.get Fld.HAT_STATUS_COMMIT_DONE = 1 ∧ t.get Evt.HAT_COMMIT_DONE.field = 1 ∧ Frame [] [Fld.HAT_STATUS_COMMIT_DONE, Evt.HAT_COMMIT_DONE.field] s t) ∧
  (s.fabricRuns = true → s.flag Fld.HAT_STATUS_COMMIT_DONE = false → Answers .hatCommitTimeout s fun t => t.fab.hat = { s.fab.hat with tilesOld := [], refilled := true } ∧
    t.get Fld.HAT_ABORTS_COUNT = min (2 ^ 32 - 1) (s.get Fld.HAT_ABORTS_COUNT + s.oldMsgs.length) ∧ (s.oldMsgs = [] → t.get Fld.HAT_STATUS_COMMIT_DONE = 1 ∧
    t.get Evt.HAT_COMMIT_DONE.field = 1) ∧ (s.oldMsgs ≠ [] → t.get Evt.HAT_COMMIT_ABORT.field = 1))

/-- Parts of R295 to R299, R303: dirty logs. A log is enabled where its fields pass their checks, marks from when its bitmap counts as clear, and stops at EN = 0; a write that
waits for a line of the bitmap marks its page and goes on when the line is there; a harvest within the log reads and clears its lines and shows the pages they held, and one
past its end or beside another is refused. Choices and readings of the model it rests on: log 70, 268 (DEDUCED). -/
def Obligations.DirtyLogs : Prop := ∀ s : State,
  (∀ m : Master, ∀ n : Log, ∀ value : Word, s.takes m 0x91 = true → s.flag (Fld.LOG_CFG_EN n.val) = false → value.getLsbD 0 = true → s.isActive = true →
    (s.puts [(Fld.LOG_CFG_KIND n.val, bitsOf value.toNat 1 1), (Fld.LOG_CFG_VCS n.val, bitsOf value.toNat 2 6), (Fld.LOG_CFG_OWNER n.val, bitsOf value.toNat 8 12),
    (Fld.LOG_CFG_HVCS n.val, bitsOf value.toNat 20 6), (Fld.LOG_CFG_HACC n.val, bitsOf value.toNat 26 1)]).logOk n.val = true → Answers (.dlogEnable m n value) s fun t =>
    t.flag (Fld.LOG_CFG_EN n.val) = true ∧ t.flag (Fld.LOG_STATUS_ACTIVE n.val) = false ∧ t.get (Fld.LOG_CFG_OWNER n.val) = bitsOf value.toNat 8 12 ∧
    Frame [] [Fld.LOG_CFG_EN n.val, Fld.LOG_CFG_KIND n.val, Fld.LOG_CFG_VCS n.val, Fld.LOG_CFG_OWNER n.val, Fld.LOG_CFG_HVCS n.val, Fld.LOG_CFG_HACC n.val,
    Fld.LOG_STATUS_ACTIVE n.val] s t) ∧
  (∀ m : Master, ∀ n : Log, ∀ value : Word, s.takes m 0x91 = true → s.flag (Fld.LOG_CFG_EN n.val) = false → value.getLsbD 0 = true → s.flag Fld.DLOG_CFG_EN = false →
    Answers (.dlogEnable m n value) s fun t => t.get Evt.DLOG_CFG_IGNORED.field = 1 ∧ Frame [] [Evt.DLOG_CFG_IGNORED.field] s t) ∧
  (∀ m : Master, ∀ n : Log, ∀ value : Word, s.takes m 0x91 = true → s.flag (Fld.LOG_CFG_EN n.val) = true → value.getLsbD 0 = false → Answers (.dlogEnable m n value) s fun t =>
    t.flag (Fld.LOG_CFG_EN n.val) = false ∧ t.flag (Fld.LOG_STATUS_ACTIVE n.val) = false ∧ Frame [] [Fld.LOG_CFG_EN n.val, Fld.LOG_STATUS_ACTIVE n.val] s t) ∧
  (∀ n : Log, s.fabricRuns = true → s.flag (Fld.LOG_CFG_EN n.val) = true → s.flag (Fld.LOG_STATUS_ACTIVE n.val) = false → Answers (.dlogActive n) s fun t =>
    t.flag (Fld.LOG_STATUS_ACTIVE n.val) = true ∧ (∀ l ∈ t.fab.dlog.touch, l ∈ s.fab.dlog.touch ∧ ¬(s.logFirst n.val ≤ l ∧
    l < s.logFirst n.val + s.get (Fld.LOG_LINES_LINES n.val))) ∧ t.fab.dlog.lines = s.fab.dlog.lines ∧ Frame [.fab] [Fld.LOG_STATUS_ACTIVE n.val] s t) ∧
  (∀ l : Nat, ∀ o : Msg, ∀ m : Msg, ∀ n : Nat, ∀ b : Nat, s.fabricRuns = true → s.fab.dlog.waiting = [(o, m)] → s.logsOf o = [(n, l, b)] →
    Answers (.dlogLineFetchDone l) s fun t => t.fab.dlog.waiting = [] ∧ t.lineBits l = s.lineBits l ||| 2 ^ b ∧
    t.counter (Ctr.MOVER (64 + n) 2) = s.counter (Ctr.MOVER (64 + n) 2) + 1 ∧ t.counter (Ctr.MOVER (64 + n) 0) = s.counter (Ctr.MOVER (64 + n) 0) + 1) ∧
  (∀ m : Master, ∀ value : Word, s.takes m 0x91 = true → s.fab.dlog.harvest = none →
    s.get Fld.DLOG_HSTART_LINE + (bitsOf value.toNat 8 6 + 1) ≤ s.get (Fld.LOG_LINES_LINES (bitsOf value.toNat 0 6)) → Answers (.dlogHarvest m value) s fun t =>
    t.get Fld.DLOG_HSTATUS_STATE = 1 ∧ t.get Fld.DLOG_HSTATUS_SEQ = (s.get Fld.DLOG_HSTATUS_SEQ + 1) % 256 ∧
    t.fab.dlog.harvest = some (bitsOf value.toNat 0 6, s.get Fld.DLOG_HSTART_LINE, bitsOf value.toNat 8 6 + 1) ∧
    Frame [.fab, .ctrs] [Fld.DLOG_HSTATUS_STATE, Fld.DLOG_HSTATUS_SEQ] s t) ∧
  (∀ m : Master, ∀ value : Word, s.takes m 0x91 = true →
    (s.fab.dlog.harvest.isSome = true ∨ s.get (Fld.LOG_LINES_LINES (bitsOf value.toNat 0 6)) < s.get Fld.DLOG_HSTART_LINE + (bitsOf value.toNat 8 6 + 1)) →
    Answers (.dlogHarvest m value) s fun t => t.get Fld.DLOG_HSTATUS_STATE = (if s.fab.dlog.harvest.isSome then 3 else 4) ∧ Frame [] [Fld.DLOG_HSTATUS_STATE] s t) ∧
  (∀ n : Nat, ∀ first : Nat, ∀ count : Nat, s.fabricRuns = true → s.fab.dlog.harvest = some (n, first, count) → count ≤ 64 → Answers .dlogHarvestDone s fun t =>
    t.get Fld.DLOG_HSTATUS_STATE = 2 ∧ t.get Fld.DLOG_HSTATUS_LINES = count % 128 ∧ t.get Evt.DLOG_HARVEST_DONE.field = 1 ∧ t.fab.dlog.harvest = none ∧ (∀ i, i < count →
    t.lineBits (s.logFirst n + first + i) = 0))

/-- Parts of R253, R255, R256, R268, R269, R273: Comb and its pool. A failed pseudo-channel or a client outside its partition stops the module; a scrub pass is counted and
raised; the refresh rate doubles above 85 °C; the pool serves a write by writing its line and answering Cmp, and a read by answering the line with its poison; a pool window is
enabled where it passes its checks and disabled by EN = 0. Choices and readings of the model it rests on: log 55 (DEDUCED); log 221 (DESIGN CHOICE). -/
def Obligations.CombAndPool : Prop := ∀ s : State,
  (∀ p : Fin 16, s.fabricRuns = true → s.clk.stopHeld = false → s.clk.startFail = false → Answers (.pcFail p) s fun t => t.clk.stopHeld = true ∧ t.fab = Fabric.reset ∧
    t.flt.net = s.flt.net ++ [s.message Kind.PC_FAIL 2 0x080 p.val 8 Party.none none]) ∧
  (∀ p : Fin 9, s.fabricRuns = true → s.clk.stopHeld = false → s.clk.startFail = false → Answers (.partBound p) s fun t => t.clk.stopHeld = true ∧ t.fab = Fabric.reset ∧
    t.flt.net = s.flt.net ++ [s.message Kind.PART_BOUND 2 0x080 0 8 (Party.combClient p.val) none]) ∧
  (s.fabricRuns = true → s.get Fld.COMB_STATUS_STATE = 3 → s.flag Fld.COMB_SCRUB_CFG_EN = true → Answers .scrubPassDone s fun t =>
    t.get Fld.COMB_SCRUB_STATUS_PASSES = min 65535 (s.get Fld.COMB_SCRUB_STATUS_PASSES + 1) ∧ t.get Fld.COMB_SCRUB_STATUS_PROGRESS = 0 ∧ t.get Evt.COMB_SCRUB_PASS.field = 1 ∧
    Frame [] [Fld.COMB_SCRUB_STATUS_PASSES, Fld.COMB_SCRUB_STATUS_PROGRESS, Evt.COMB_SCRUB_PASS.field] s t) ∧
  (∀ x : Byte, s.fabricRuns = true → Answers (.stackRefresh2xChange x) s fun t => t.get Fld.COMB_TEMP_STACK = x.toNat ∧
    t.get Fld.COMB_TEMP_REFRESH_2X = (if 149 < x.toNat then 1 else 0) ∧ Frame [] [Fld.COMB_TEMP_STACK, Fld.COMB_TEMP_REFRESH_2X, Evt.COMB_REFRESH_2X.field] s t) ∧
  (∀ m : Msg, ∀ r : List Msg, s.fabricRuns = true → s.get Fld.COMB_STATUS_STATE = 3 → mget [] s.fab.sw.iep 1 = m :: r → m.kind = .memWr → Answers .poolRequest s fun t =>
    mget [] t.fab.sw.iep 1 = r ∧ (∀ i : Fin 64, poolByte t.fab.comb.pool (64 * (m.addr / 64) + i.val) = m.data.getD i.val 0) ∧ (∀ a, a / 64 ≠ m.addr / 64 →
    poolByte t.fab.comb.pool a = poolByte s.fab.comb.pool a) ∧ t.fab.sw.waiting = s.fab.sw.waiting ++ [{ m with mv := .noOp }.answer .cmp] ∧ Frame [.fab] [] s t) ∧
  (∀ m : Msg, ∀ r : List Msg, s.fabricRuns = true → s.get Fld.COMB_STATUS_STATE = 3 → mget [] s.fab.sw.iep 1 = m :: r → m.kind = .memRd → Answers .poolRequest s fun t =>
    mget [] t.fab.sw.iep 1 = r ∧ t.fab.comb = s.fab.comb ∧
    t.fab.sw.waiting = s.fab.sw.waiting ++ [{ ({ m with mv := .noOp }.answer .memData 0 (s.poolPoisoned (m.addr / 64))) with data := poolLine s.fab.comb.pool (m.addr / 64), mem := .hdmH }] ∧
    Frame [.fab] [Evt.POOL_POOL_POISON.field] s t) ∧
  (∀ m : Master, ∀ n : Fin 64, ∀ value : Word, s.takes m 0x82 = true → s.isActive = true → s.flag (Fld.POOL_WIN_CFG_EN n.val) = false → value.getLsbD 0 = true →
    bitsOf value.toNat 1 3 ≤ 5 → (s.puts [(Fld.POOL_WIN_CFG_SIZE n.val, bitsOf value.toNat 1 3), (Fld.POOL_WIN_CFG_VCS n.val, bitsOf value.toNat 4 6),
    (Fld.POOL_WIN_CFG_OFF n.val, bitsOf value.toNat 16 5)]).poolWinOk n.val = true → Answers (.poolWindowEnable m n value) s fun t => t.flag (Fld.POOL_WIN_CFG_EN n.val) = true ∧
    t.get (Fld.POOL_WIN_CFG_SIZE n.val) = bitsOf value.toNat 1 3 ∧
    Frame mirrorParts ([Fld.POOL_WIN_CFG_EN n.val, Fld.POOL_WIN_CFG_SIZE n.val, Fld.POOL_WIN_CFG_VCS n.val, Fld.POOL_WIN_CFG_OFF n.val] ++ mirrorFields) s t) ∧
  (∀ m : Master, ∀ n : Fin 64, ∀ value : Word, s.takes m 0x82 = true → s.isActive = true → s.flag (Fld.POOL_WIN_CFG_EN n.val) = true → value.getLsbD 0 = false →
    Answers (.poolWindowEnable m n value) s fun t => t.flag (Fld.POOL_WIN_CFG_EN n.val) = false ∧ Frame mirrorParts (Fld.POOL_WIN_CFG_EN n.val :: mirrorFields) s t) ∧
  (∀ m : Master, ∀ c : Fin 9, ∀ value : Word, s.takes m 0x81 = true → Answers (.carbWaitMaxClear m c value) s fun t => t.get (Fld.CARB_WAIT_MAX_CYCLES c.val) = 0 ∧
    Frame [] [Fld.CARB_WAIT_MAX_CYCLES c.val] s t)

/-- Parts of R254, R259 to R262, R418: the client arbiters of Comb. While no client owns a channel, the client that has been aged longest wins, else the one of lowest rank,
and owns the channel for its burst limit; every other client that asked loses and backs off until its backoff ends; a grant ends after at most its limit of beats, which are
counted, and an error of a read is counted, raised and reported, a corrected one with its row and an uncorrectable one of the pool by poisoning its line. A request outside the
partition of its client stops the module. Choices and readings of the model it rests on: log 55 (DEDUCED); log 123 (DESIGN CHOICE). -/
def Obligations.CombArbiter : Prop := ∀ s : State, ∀ ch : Fin 8, s.fabricRuns = true → s.get Fld.COMB_STATUS_STATE = 3 →
  (∀ l : List CombReq, ∀ w : CombReq, (s.chan ch.val).owner = none → (l.map (·.client)).Nodup → (∀ r ∈ l, ((s.chan ch.val).client r.client.val).backoff = false) →
    (∀ r ∈ l, s.inBounds r.client.val r.addr.toNat = true) → (s.chan ch.val).winner l = some w → Answers (.combArbDecide ch l) s fun t =>
    (t.chan ch.val).owner = some (w.client.val, s.get (Fld.CARB_BURST_LIMIT w.client.val)) ∧ t.counter (Ctr.COMB w.client.val 0) = s.counter (Ctr.COMB w.client.val 0) + 1 ∧
    (∀ r ∈ l, r.client ≠ w.client → ((t.chan ch.val).client r.client.val).backoff = true ∧
    ((t.chan ch.val).client r.client.val).losses = ((s.chan ch.val).client r.client.val).losses + 1)) ∧
  (∀ r : CombReq, s.clk.stopHeld = false → s.clk.startFail = false → (s.chan ch.val).owner = none → ((s.chan ch.val).client r.client.val).backoff = false →
    s.inBounds r.client.val r.addr.toNat = false → Answers (.combArbDecide ch [r]) s fun t => t.clk.stopHeld = true ∧ t.fab = Fabric.reset ∧
    t.flt.net = s.flt.net ++ [s.message Kind.PART_BOUND 2 0x080 0 8 (Party.combClient r.client.val) none]) ∧
  (∀ c : Fin 9, Answers (.combBackoffExpire ch c) s fun t => (t.chan ch.val).client c.val = { (s.chan ch.val).client c.val with backoff := false } ∧
    (t.chan ch.val).owner = (s.chan ch.val).owner ∧ Frame [.fab] [] s t) ∧
  (∀ n : Nat, ∀ misses : Nat, ∀ k : Nat, ∀ limit : Nat, (s.chan ch.val).owner = some (k, limit) → Answers (.combGrantEnd ch n misses none) s fun t =>
    (t.chan ch.val).owner = none ∧ t.counter (Ctr.COMB (9 + ch.val) 0) = s.counter (Ctr.COMB (9 + ch.val) 0) + BitVec.ofNat 64 (min n limit) ∧ Frame [.fab, .ctrs] [] s t) ∧
  (∀ n : Nat, ∀ misses : Nat, ∀ k : Nat, ∀ limit : Nat, ∀ a : Nat, ∀ row : Nat, (s.chan ch.val).owner = some (k, limit) → k < 9 → s.inBounds k (a % 2 ^ 34) = true →
    a % 2 ^ 34 / 256 % 8 = ch.val → Answers (.combGrantEnd ch n misses (some (.corrected a row))) s fun t => (t.chan ch.val).owner = none ∧ t.get Evt.COMB_CE.field = 1 ∧
    t.counter (Ctr.COMB (17 + pcOf (a % 2 ^ 34)) 0) = s.counter (Ctr.COMB (17 + pcOf (a % 2 ^ 34)) 0) + 1 ∧
    t.flt.net = s.flt.net ++ [s.message Kind.COMB_CE 0 0x080 (pcOf (a % 2 ^ 34)) (if k = 6 then 5 else 1) Party.none (some (a % 2 ^ 34))] ∧
    mget 0 t.boot.rowErrors row = mget 0 s.boot.rowErrors row + 1) ∧
  (∀ n : Nat, ∀ misses : Nat, ∀ k : Nat, ∀ limit : Nat, ∀ a : Nat, (s.chan ch.val).owner = some (k, limit) → k < 9 → s.inBounds k (a % 2 ^ 34) = true →
    a % 2 ^ 34 / 256 % 8 = ch.val → s.partOf (a % 2 ^ 34) = 5 → (mget [] s.fab.comb.ues (pcOf (a % 2 ^ 34))).length < 15 →
    Answers (.combGrantEnd ch n misses (some (.uncorrectable a))) s fun t => (t.chan ch.val).owner = none ∧ t.get Evt.COMB_UE.field = 1 ∧
    t.counter (Ctr.COMB (17 + pcOf (a % 2 ^ 34)) 1) = s.counter (Ctr.COMB (17 + pcOf (a % 2 ^ 34)) 1) + 1 ∧
    t.flt.net = s.flt.net ++ [s.message Kind.COMB_UE 1 0x080 (pcOf (a % 2 ^ 34)) (if k = 6 then 5 else 1) (Party.combClient k) none] ∧
    t.poolPoisoned ((a % 2 ^ 34 - s.partBase 5) / 64) = true)

/-- Parts of R218 to R223, R416: requests at the home of a hive that is ACTIVE, with nothing else under way. A read or write of a line that no host holds is forwarded, its
line busy, and a read with MetaValue A leaves the line in O for its host; where another host owns the line, that host is sent a BISnpInv and nothing is forwarded yet; an
invalidation is answered Cmp, a clean eviction by the owner leaves the line in I, a speculative read is forwarded without a trace in the directory, and BIConflict is
acknowledged. Choices and readings of the model it rests on: log 13 (DESIGN CHOICE); log 103, 114 (DEDUCED). -/
def Obligations.HomeRequests : Prop := ∀ s : State, ∀ m : Msg, ∀ r : Nat, s.serving = true → s.homeIdle = true → mget [] s.fab.sw.iep 0 = [m] → s.hiveState m.hive = 2 → s.hasBuckets m.hive = false → m.hslot = some r →
  (m.kind = .memRd → m.mv = .a → s.fab.home.dir = [] → r < 64 → Answers (.homeMemRd .clean) s fun t => t.fab.home.fwd.length = 1 ∧ t.fab.home.snoops = [] ∧
    t.busy m.hive m.sector m.line = true ∧ (t.entryOr m.hive m.sector).line m.line = 2 ∧ (t.entryOr m.hive m.sector).owner = r ∧ mget [] t.fab.sw.iep 0 = [] ∧
    t.counter (Ctr.HOME m.hive 0) = s.counter (Ctr.HOME m.hive 0) + 1 ∧ Frame [.fab, .ctrs, .free, .pair, .out] (Fld.HOME_CQ_HWM_HWM :: mirrorFields) s t) ∧
  (∀ q : Nat, ∀ d : Bool, ∀ k : Nat, m.kind = .memRd → m.mv = .a → s.fab.home.dir = [(dirKey m.hive m.sector, ⟨⟨0, q, [0, 0, 0, 0].set m.line 2, s.hgen m.hive⟩, d, k⟩)] → q ≠ r →
    s.mayHold m.hive q = true → q < 64 → Answers (.homeMemRd .clean) s fun t => t.fab.home.fwd = [] ∧ t.fab.home.snoops.map (fun x =>
    (x.2.line, x.2.inv, x.2.mask, x.2.stale)) = [(m.line, true, [q], false)] ∧ t.fab.sw.fan.getLast?.map (fun l => l.map (fun x =>
    (x.kind, x.dst))) = some [(.biSnpInv, s.hostPort m.hive q)] ∧ t.busy m.hive m.sector m.line = true ∧ (t.entryOr m.hive m.sector).owner = q ∧
    Frame [.fab, .ctrs, .free, .pair, .out] (Fld.HOME_CQ_HWM_HWM :: mirrorFields) s t) ∧
  (m.kind = .memInv → m.mv = .i → s.fab.home.dir = [] → Answers (.homeMemInv .clean) s fun t => t.fab.sw.waiting = s.fab.sw.waiting ++ [m.answer .cmp] ∧ t.fab.home.dir = [] ∧
    t.fab.home.fwd = [] ∧ Frame [.fab, .ctrs, .free, .pair, .out] (Fld.HOME_CQ_HWM_HWM :: mirrorFields) s t) ∧
  (m.kind = .memWr → m.mv = .i → s.fab.home.dir = [] → m.writeBack = false → Answers (.homeMemWr .clean) s fun t => t.fab.home.fwd.length = 1 ∧ t.fab.home.dir = [] ∧
    t.busy m.hive m.sector m.line = true ∧ Frame [.fab, .ctrs, .free, .pair, .out] (Fld.HOME_CQ_HWM_HWM :: mirrorFields) s t) ∧
  (∀ d : Bool, ∀ k : Nat, m.kind = .memClnEvct → s.fab.home.dir = [(dirKey m.hive m.sector, ⟨⟨0, r, [0, 0, 0, 0].set m.line 2, s.hgen m.hive⟩, d, k⟩)] →
    Answers (.homeMemClnEvct .clean) s fun t => t.fab.sw.waiting = s.fab.sw.waiting ++ [m.answer .cmp] ∧ (t.entryOr m.hive m.sector).line m.line = 0 ∧ t.fab.home.fwd = [] ∧
    Frame [.fab, .ctrs, .free, .pair, .out] (Fld.HOME_CQ_HWM_HWM :: mirrorFields) s t) ∧
  (m.kind = .memSpecRd → s.fab.home.dir = [] → Answers (.homeMemSpecRd .clean) s fun t => t.fab.home = s.fab.home ∧
    t.fab.sw.waiting = s.fab.sw.waiting ++ [{ s.forwarded m 0 with svc := 2 }] ∧ Frame [.fab, .ctrs, .free, .pair, .out] (Fld.HOME_CQ_HWM_HWM :: mirrorFields) s t) ∧
  (m.kind = .biConflict → s.fab.home.dir = [] → Answers (.homeBiConflict .clean) s fun t => t.fab.home = s.fab.home ∧
    t.fab.sw.waiting = s.fab.sw.waiting ++ [m.answer .biConflictAck] ∧ Frame [.fab, .ctrs, .free, .pair, .out] (Fld.HOME_CQ_HWM_HWM :: mirrorFields) s t) ∧
  (∀ d : Bool, ∀ k : Nat, m.kind = .memWr → m.mv = .i → m.writeBack = true →
    s.fab.home.dir = [(dirKey m.hive m.sector, ⟨⟨0, r, [0, 0, 0, 0].set m.line 2, s.hgen m.hive⟩, d, k⟩)] → Answers (.homeWriteback .clean) s fun t => t.fab.home.fwd.map (fun x =>
    (x.2.wb, x.2.ndr)) = [(true, .cmp)] ∧ (t.entryOr m.hive m.sector).line m.line = 0 ∧ t.counter (Ctr.HOME m.hive 5) = s.counter (Ctr.HOME m.hive 5) + 1 ∧
    Frame [.fab, .ctrs, .free, .pair, .out] (Fld.HOME_CQ_HWM_HWM :: mirrorFields) s t)

/-- Parts of R220, R222, R226 to R231: the answers the home waits for. The last BIRsp of a transaction frees its snoop slot and lets the request go on, and one that names a
free slot is discarded; the data of a target goes to the requester with the NDR of the state granted, and its forward slot is free; when the answer has passed, the busy mark
ends and the line is held for its host until the hold expires; a fetched bucket and a released line let the requests that wait go on; a snoop that is not answered in time
takes the hive down. Choices and readings of the model it rests on: log 13 (DESIGN CHOICE). -/
def Obligations.HomeAnswers : Prop := ∀ s : State, ∀ m : Msg, ∀ r : Nat, s.serving = true →
  (∀ a : Msg, ∀ n : SnoopSlot, ∀ q : Nat, ∀ d : Bool, ∀ k : Nat, mget [] s.fab.sw.iep 0 = [a] → a.kind = .biRspI → s.fab.home.snoops = [(a.tag % 4096, n)] → n.stale = false →
    n.mask = [q] → s.senderSlot n.hive a = some q → n.hive = m.hive → n.sector = m.sector → n.line = m.line → s.noneLeaving m.hive = true → s.hiveState m.hive = 2 →
    s.fab.home.clearing = [] → s.fab.home.fwd = [] → s.fab.home.holds = [] →
    s.fab.home.txns = [{ id := n.txn, hive := m.hive, sector := m.sector, lines := [m.line], kind := .request m, parked := false, snooped := [(m.line, true)], snoops := [a.tag % 4096], wbs := [], kept := [], forwarded := false, answered := false, queued := false, grants := false }] →
    m.kind = .memRd → m.mv = .a → m.hslot = some r → q ≠ r → s.fab.home.dir = [(dirKey m.hive m.sector, ⟨⟨0, q, [0, 0, 0, 0].set m.line 2, s.hgen m.hive⟩, d, k⟩)] →
    Answers (.homeBirsp .clean) s fun t => t.fab.home.snoops = [] ∧ t.fab.home.fwd.length = 1 ∧ (t.entryOr m.hive m.sector).line m.line = 2 ∧
    (t.entryOr m.hive m.sector).owner = r ∧ t.busy m.hive m.sector m.line = true ∧ Frame [.fab, .ctrs, .free, .pair, .out] (Fld.HOME_CQ_HWM_HWM :: mirrorFields) s t) ∧
  (∀ a : Msg, mget [] s.fab.sw.iep 0 = [a] → a.kind.isBiRsp = true → s.fab.home.snoops = [] → Answers (.homeBirsp .clean) s fun t => t.get Evt.HOME_BIRSP_DISCARD.field = 1 ∧
    mget [] t.fab.sw.iep 0 = [] ∧ t.fab.home = s.fab.home ∧ Frame [.fab, .ctrs, .free] [Evt.HOME_BIRSP_DISCARD.field] s t) ∧
  (∀ a : Msg, ∀ x : Txn, ∀ g : MsgKind, ∀ pas : Bool, mget [] s.fab.sw.iep 0 = [a] → a.kind = .memData → a.final = true →
    s.fab.home.fwd = [(a.tag % 65536, ⟨false, m, g, false, some x.id, pas⟩)] → m.kind = .memRd → (s.routeOf m).1 = a.src → (a.src ≠ 65 → (s.routeOf m).2.1 = a.ld) →
    s.fab.home.txns = [x] → x.wbs = [] → x.forwarded = true → s.noneLeaving m.hive = true → (g = .cmpE ∨ g = .cmpS ∨ g = .cmp) → Answers (.homeTargetAnswer .clean) s fun t =>
    t.fab.home.fwd = [] ∧ t.fab.home.txns = [{ x with answered := true }] ∧
    t.fab.sw.waiting = s.fab.sw.waiting ++ [{ ({ m with devLoad := a.devLoad }.answer .memData a.status a.poison) with data := a.data },
    { m with devLoad := a.devLoad }.answer g] ∧ Frame [.fab] [] s t) ∧
  (∀ h : Hive, ∀ i : Nat, ∀ j : Fin 4, ∀ x : Txn, s.fab.home.txns = [x] → x.hive = h.val → x.sector = i → (j.val ∈ x.lines) → x.answered = true → x.kind = .request m →
    m.hslot = some r → x.grants = true → s.get (Fld.HIVE_HOLD_HOLD_NS h.val) ≠ 0 → s.noneLeaving h.val = true → Answers (.homeBusyRelease h i j) s fun t => t.fab.home.txns = [] ∧
    t.fab.home.holds = s.fab.home.holds ++ [⟨h.val, i, m.line, r⟩] ∧ t.busy h.val i j.val = false) ∧
  (∀ h : Hive, ∀ i : Nat, ∀ j : Fin 4, s.fab.home.holds = [⟨h.val, i, j.val, r⟩] → s.noneLeaving h.val = true → Answers (.holdExpire h i j) s fun t => t.fab.home.holds = [] ∧
    Frame [.fab] [] s t) ∧
  (∀ h : Hive, ∀ i : Nat, s.fab.home.queue = [m] → s.fab.home.txns = [] → s.fab.home.snoops = [] → s.fab.home.holds = [] → s.fab.home.dir = [] → s.fab.home.clearing = [] →
    s.hiveState h.val = 2 → m.hive = h.val → m.sector = i → m.kind = .memInv → m.mv = .i → Answers (.conflictQueueStart h i) s fun t => t.fab.home.queue = [] ∧
    t.fab.sw.waiting = s.fab.sw.waiting ++ [m.answer .cmp] ∧ Frame [.fab, .ctrs, .free, .pair, .out] (Fld.HOME_CQ_HWM_HWM :: mirrorFields) s t) ∧
  (∀ h : Hive, ∀ i : Nat, s.fab.home.fetches = [(h.val, i)] → s.fab.home.lookups = [m] → s.fab.home.txns = [] → s.fab.home.queue = [] → s.fab.home.snoops = [] →
    s.fab.home.holds = [] → s.fab.home.dir = [] → s.fab.home.clearing = [] → s.hiveState h.val = 2 → m.hive = h.val → m.sector = i → m.kind = .memInv → m.mv = .i →
    Answers (.dirBucketFetchDone h i) s fun t => t.fab.home.fetches = [] ∧ t.fab.home.lookups = [] ∧ t.fab.sw.waiting = s.fab.sw.waiting ++ [m.answer .cmp] ∧
    Frame [.fab, .ctrs, .free, .pair, .out] (Fld.HOME_CQ_HWM_HWM :: mirrorFields) s t) ∧
  (∀ k : Fin 4096, ∀ i : Slot, ∀ n : SnoopSlot, assoc s.fab.home.snoops k.val = some n → n.stale = false → (i.val ∈ n.mask) → s.fab.sw.fan = [] → s.hiveServes n.hive = true →
    n.hive < 16 → Answers (.biTimeout k i) s fun t => t.hiveState n.hive = 4 ∧ t.get (Fld.HIVE_STATUS_DOWN_CAUSE n.hive) = 1 ∧ t.get (Fld.HIVE_STATUS_DOWN_SLOT n.hive) = i.val ∧
    t.get (Evt.HOME_HIVE_DOWN n.hive).field = 1)

/-- Parts of R240: what the protection of the storage of the home finds. A corrected error of the on-die entry of the sector looked up is told as ECC_CORR and reported; one
that cannot be corrected takes a hive that serves down with cause DIR_ECC; a parity error of the home, or of the snoop table of a tile, stops the module. Choices and readings
of the model it rests on: log 261 (DEDUCED). -/
def Obligations.HomeProtection : Prop := ∀ s : State, s.serving = true →
  (∀ m : Msg, ∀ e : DirSlot, mget [] s.fab.sw.iep 0 = [m] → s.hiveServes m.hive = true → m.hive < 16 → assoc s.fab.home.dir (dirKey m.hive m.sector) = some e → e.onDie = true →
    m.kind = .memInv → Answers (.homeMemInv .corrected) s fun t => t.get Evt.DIRC_ECC_CORR.field = 1) ∧
  (∀ m : Msg, ∀ e : DirSlot, mget [] s.fab.sw.iep 0 = [m] → s.hiveServes m.hive = true → m.hive < 16 → assoc s.fab.home.dir (dirKey m.hive m.sector) = some e → e.onDie = true →
    m.kind = .memInv → mget 0 s.fab.home.bumps m.hive < 255 → Answers (.homeMemInv .dirUe) s fun t => t.hiveState m.hive = 4 ∧ t.get (Fld.HIVE_STATUS_DOWN_CAUSE m.hive) = 3 ∧
    t.get (Evt.HOME_HIVE_DOWN m.hive).field = 1) ∧
  (s.clk.stopHeld = false → s.clk.startFail = false → Answers (.homeMemRd .parity) s fun t => t.clk.stopHeld = true ∧ t.fab = Fabric.reset) ∧
  (∀ p : Port, s.clk.stopHeld = false → s.clk.startFail = false → Answers (.homeBirsp (.tileParity p)) s fun t => t.clk.stopHeld = true ∧ t.fab = Fabric.reset)

/-- Parts of R232 to R234, R237, R242: the states of a hive. EN = 1 starts the clearing of a DISABLED hive where every check passes and else shows the check that failed; when
the clearing is done the hive is ACTIVE with its READY slots; DOWN takes a serving hive down with its cause, under the next HGEN, with nothing of it waiting; EN = 0 disables a
hive that is DOWN; RECOVERED ends the recovery of a hive in RECOVERING with TAIL = 1; a clearing ends the wait of an HGEN. Choices and readings of the model it rests on: log
110, 112 (DEDUCED). -/
def Obligations.HiveStates : Prop := ∀ s : State,
  (∀ m : Master, ∀ h : Hive, s.takes m 0x70 = true → s.isActive = true → s.locked 0x70 = false → s.hiveState h.val = 0 → s.hiveCheck h.val = 0 →
    mget 0 s.fab.home.bumps h.val < 255 → Answers (.hiveEnable m h) s fun t => t.hiveState h.val = 1 ∧ t.flag (Fld.HIVE_CTL_EN h.val) = true ∧
    t.hgen h.val = (s.hgen h.val + 1) % 256 ∧ Frame [.fab, .ctrs, .pair, .out] ([Fld.HIVE_CTL_EN h.val, Fld.HIVE_STATUS_STATE h.val,
    Fld.HIVE_STATUS_HGEN h.val] ++ mirrorFields) s t) ∧
  (∀ m : Master, ∀ h : Hive, s.takes m 0x70 = true → s.isActive = true → s.locked 0x70 = false → s.hiveState h.val = 0 → s.hiveCheck h.val ≠ 0 →
    Answers (.hiveEnable m h) s fun t => t.get (Fld.HIVE_STATUS_CFG_ERR h.val) = s.hiveCheck h.val ∧ t.hiveState h.val = 0 ∧
    Frame mirrorParts (Fld.HIVE_STATUS_CFG_ERR h.val :: mirrorFields) s t) ∧
  (∀ m : Master, ∀ h : Hive, s.takes m 0x70 = true → s.isActive = true → s.locked 0x70 = false → s.hiveState h.val = 4 → Answers (.hiveDisable m h) s fun t =>
    t.hiveState h.val = 0 ∧ t.flag (Fld.HIVE_CTL_EN h.val) = false ∧ (∀ k ∈ t.fab.home.holds, k.hive ≠ h.val)) ∧
  (∀ m : Master, ∀ h : Hive, s.takes m 0x70 = true → s.isActive = true → s.hiveServes h.val = true → mget 0 s.fab.home.bumps h.val < 255 → Answers (.hiveDownWrite m h) s fun t =>
    t.hiveState h.val = 4 ∧ t.get (Fld.HIVE_STATUS_DOWN_CAUSE h.val) = 5 ∧ t.flag (Fld.HIVE_STATUS_TAIL h.val) = false ∧ t.hgen h.val = (s.hgen h.val + 1) % 256 ∧
    t.get (Evt.HOME_HIVE_DOWN h.val).field = 1 ∧ (∀ q ∈ t.fab.home.queue, q.hive ≠ h.val) ∧ (∀ x ∈ t.fab.home.txns, x.hive ≠ h.val)) ∧
  (∀ m : Master, ∀ h : Hive, s.takes m 0x70 = true → s.isActive = true → s.hiveState h.val = 3 → s.flag (Fld.HIVE_STATUS_TAIL h.val) = true →
    Answers (.hiveRecovered m h) s fun t => t.hiveState h.val = 2 ∧ t.flag (Fld.HIVE_STATUS_TAIL h.val) = false ∧ t.get Evt.HOME_HIVE_ACTIVE.field = 1) ∧
  (∀ h : Hive, s.serving = true → s.hiveState h.val = 1 → Answers (.hiveClearDone h) s fun t => t.hiveState h.val = 2 ∧ t.get Evt.HOME_HIVE_ACTIVE.field = 1 ∧
    t.hiveDir h.val = [] ∧ (∀ i : Slot, t.slotState h.val i.val = (if s.slotState h.val i.val = 1 then 2 else s.slotState h.val i.val))) ∧
  (∀ h : Hive, s.serving = true → (h.val ∈ s.fab.home.clearing) → s.hiveState h.val ≠ 1 → Answers (.hgenClearDone h) s fun t => t.hgen h.val = (s.hgen h.val + 1) % 256 ∧
    (h.val ∉ t.fab.home.clearing) ∧ t.hiveDir h.val = [] ∧ t.hiveState h.val = s.hiveState h.val)

/-- Parts of R236 to R238, R243, R245: host slots, recovery and directory lookups. A slot is enabled where its check passes, ACTIVE in a hive that serves and READY else; LEAVE
starts the departure sweep, which ends when no entry names the slot; a slot in READY or LOST is disabled by EN = 0; an unresolved sector is resolved by snooping all its lines
to I, and with none left the hive is ACTIVE; a lookup shows the entry of one sector. Choices and readings of the model it rests on: log 106, 112, 113, 119 (DEDUCED). -/
def Obligations.HostSlots : Prop := ∀ s : State,
  (∀ m : Master, ∀ h : Hive, ∀ i : Slot, ∀ value : Word, s.takes m 0x70 = true → s.isActive = true → s.locked 0x70 = false → s.slotState h.val i.val = 0 →
    (s.puts [(Fld.HOST_CFG_REMOTE (64 * h.val + i.val), bitsOf value.toNat 1 1), (Fld.HOST_CFG_VCS (64 * h.val + i.val), bitsOf value.toNat 2 6),
    (Fld.HOST_CFG_PID (64 * h.val + i.val), bitsOf value.toNat 8 12)]).slotOk h.val i.val = true → Answers (.hostSlotEnable m h i value) s fun t =>
    t.slotState h.val i.val = (if s.hiveServes h.val then 2 else 1) ∧ t.flag (Fld.HOST_CFG_EN (64 * h.val + i.val)) = true ∧
    t.get (Fld.HOST_CFG_VCS (64 * h.val + i.val)) = bitsOf value.toNat 2 6 ∧
    Frame mirrorParts ([Fld.HOST_STATUS_STATE (64 * h.val + i.val), Fld.HOST_CFG_EN (64 * h.val + i.val), Fld.HOST_CFG_REMOTE (64 * h.val + i.val),
    Fld.HOST_CFG_VCS (64 * h.val + i.val), Fld.HOST_CFG_PID (64 * h.val + i.val)] ++ mirrorFields) s t) ∧
  (∀ m : Master, ∀ h : Hive, ∀ i : Slot, ∀ value : Word, s.takes m 0x70 = true → s.isActive = true → s.locked 0x70 = false →
    (s.slotState h.val i.val = 1 ∨ s.slotState h.val i.val = 4) → Answers (.hostSlotDisable m h i value) s fun t => t.slotState h.val i.val = 0 ∧
    t.flag (Fld.HOST_CFG_EN (64 * h.val + i.val)) = false ∧
    Frame mirrorParts ([Fld.HOST_STATUS_STATE (64 * h.val + i.val), Fld.HOST_CFG_EN (64 * h.val + i.val)] ++ mirrorFields) s t) ∧
  (∀ m : Master, ∀ h : Hive, ∀ i : Slot, s.takes m 0x70 = true → s.isActive = true → s.slotState h.val i.val = 2 → s.hiveServes h.val = true → s.counting h.val = [] →
    Answers (.hostLeave m h i) s fun t => t.slotState h.val i.val = 3 ∧ bitsOf (t.get Fld.HOME_SWEEP_HIVES) h.val 1 = 1 ∧ t.fab.home = s.fab.home) ∧
  (∀ h : Hive, ∀ i : Slot, s.serving = true → s.slotState h.val i.val = 3 → s.counting h.val = [] → s.fab.home.txns = [] → Answers (.hostSweepDone h i) s fun t =>
    t.slotState h.val i.val = 0 ∧ t.flag (Fld.HOST_CFG_EN (64 * h.val + i.val)) = false ∧ t.get Evt.HOME_HOST_LEFT.field = 1 ∧ t.get Evt.HOME_SWEEP_DONE.field = 1) ∧
  (∀ h : Hive, ∀ x : Nat, s.serving = true → s.homeIdle = true → s.unresolved h.val x = true → (∀ i : Slot, s.mayHold h.val i.val = false) →
    Answers (.sectorResolve h x) s fun t => t.unresolved h.val x = false ∧ t.counter (Ctr.HOME h.val 8) = s.counter (Ctr.HOME h.val 8) + 1) ∧
  (∀ h : Hive, s.serving = true → s.hiveState h.val = 3 → s.flag (Fld.HIVE_STATUS_TAIL h.val) = false → s.unresolvedNamed h.val = [] → s.fab.home.clearing = [] →
    bitsOf (s.get Fld.HOME_SWEEP_HIVES) h.val 1 = 1 → Answers (.recoverySweepDone h) s fun t => t.hiveState h.val = 2 ∧ t.get Evt.HOME_SWEEP_DONE.field = 1 ∧
    t.get Evt.HOME_HIVE_ACTIVE.field = 1) ∧
  (∀ m : Master, ∀ lo : Word, ∀ hi : Word, s.takes m 0x71 = true → Answers (.dircLookup m lo hi) s fun t => t.get Fld.DIRC_QSTAT_DONE = 0 ∧
    t.fab.home.lookup = some (bitsOf hi.toNat 8 4, (lo.toNat + 2 ^ 32 * bitsOf hi.toNat 0 6)) ∧
    Frame [.fab] [Fld.DIRC_QSEL_LO_SECTOR_LO, Fld.DIRC_QSEL_HI_SECTOR_HI, Fld.DIRC_QSEL_HI_HIVE, Fld.DIRC_QSTAT_DONE] s t) ∧
  (∀ h : Nat, ∀ x : Nat, s.fabricRuns = true → s.fab.home.lookup = some (h, x) → Answers .dircLookupDone s fun t => t.get Fld.DIRC_QSTAT_DONE = 1 ∧
    t.get Fld.DIRC_QSTAT_FOUND = bit (s.entry h x).isSome ∧ t.get Evt.DIRC_LOOKUP_DONE.field = 1 ∧ t.fab.home.lookup = none ∧ ((s.entry h x) = none →
    t.get (Fld.DIRC_QRESULT_WORD 0) = 0)) ∧
  (∀ m : Master, ∀ value : Word, s.takes m 0x70 = true → Answers (.homeCqHwmClear m value) s fun t => t.get Fld.HOME_CQ_HWM_HWM = 0 ∧ Frame [] [Fld.HOME_CQ_HWM_HWM] s t)

/-- Parts of R385, R389: the mailbox boxes. A doorbell at a box that is not BUSY takes the opcode and the payload, with the permission the box has then; at a BUSY box it is
ignored and counted, or answered Busy; the result of a finished command is stored and the box is DONE, an opcode that is not supported completes with Unsupported; a reset
returns a box to IDLE, and a command that runs goes on without it. MBX_CFG is written by a keeper core or the board only. Choices and readings of the model it rests on: log
58, 63, 75 (DEDUCED); log 60 (PRESUMED); log 255 (DESIGN CHOICE). -/
def Obligations.MailboxProtocol : Prop := ∀ s : State, ∀ k : BoxIx, s.mgmtRuns = true →
  (∀ opcode : BitVec 16, ∀ payload : List Byte, ∀ irq : Bool, s.boxHears k.val = true → s.get (Fld.MBX_BOX_STATE_STATE k.val) ≠ 1 →
    Answers (.mbxDoorbell k opcode payload irq) s fun t => t.get (Fld.MBX_BOX_STATE_STATE k.val) = 1 ∧ t.get (Fld.MBX_BOX_STATE_OPCODE k.val) = opcode.toNat ∧
    t.box k.val = { s.box k.val with opcode := opcode.toNat, payload := payload, fm := s.boxIsFm k.val, irq := irq, pendingResult := none, result := none } ∧
    Frame [.mbx, .ctrs, .out] [Fld.MBX_BOX_STATE_STATE k.val, Fld.MBX_BOX_STATE_OPCODE k.val, Field.all (Addr.INTC_PEND_SET (56 + k.val / 32))] s t) ∧
  (∀ opcode : BitVec 16, ∀ payload : List Byte, ∀ irq : Bool, s.boxHears k.val = true → s.get (Fld.MBX_BOX_STATE_STATE k.val) = 1 → k.val ≠ 64 → k.val ≠ 65 →
    Answers (.mbxDoorbell k opcode payload irq) s fun t => t.counter (Ctr.MBOX k.val 6) = s.counter (Ctr.MBOX k.val 6) + 1 ∧ Frame [.ctrs] [Fld.MBX_BOX_SEQ_IGNORED k.val] s t) ∧
  (∀ opcode : BitVec 16, ∀ payload : List Byte, ∀ irq : Bool, s.boxHears k.val = true → s.get (Fld.MBX_BOX_STATE_STATE k.val) = 1 → (k.val = 64 ∨ k.val = 65) →
    Answers (.mbxDoorbell k opcode payload irq) s fun t => t.out = [.mbxResponse k.val .busy []] ∧ Frame [.ctrs, .out] [] s t) ∧
  (∀ r : MbxResult, s.get (Fld.MBX_BOX_STATE_STATE k.val) = 1 → (s.box k.val).pendingResult = some r → Answers (.mbxCommandDone k) s fun t =>
    t.get (Fld.MBX_BOX_STATE_STATE k.val) = 2 ∧ t.get (Fld.MBX_BOX_SEQ_RESULT_SEQ k.val) = (s.get (Fld.MBX_BOX_SEQ_RESULT_SEQ k.val) + 1) % 65536 ∧
    (t.box k.val).result = some r ∧ (64 ≤ k.val → t.out = [.mbxResponse k.val r.code r.data]) ∧ (k.val < 64 → (s.box k.val).irq = false → t.out = []) ∧
    Frame [.mbx, .ctrs, .out] [Fld.MBX_BOX_STATE_STATE k.val, Fld.MBX_BOX_SEQ_RESULT_SEQ k.val] s t) ∧
  (∀ r : MbxResult, k.val < 64 → (s.box k.val).irq = true → s.get (Fld.MBX_BOX_STATE_STATE k.val) = 1 → (s.box k.val).pendingResult = some r →
    Answers (.mbxCommandDone k) s fun t => t.get (Fld.MBX_BOX_STATE_STATE k.val) = 2 ∧
    t.get (Fld.MBX_BOX_SEQ_RESULT_SEQ k.val) = (s.get (Fld.MBX_BOX_SEQ_RESULT_SEQ k.val) + 1) % 65536 ∧ (t.box k.val).result = some r ∧
    ((s.mbx.msixWord k.val 0 3).toNat % 2 = 0 → t.out = [.msix k.val 0]) ∧ ((s.mbx.msixWord k.val 0 3).toNat % 2 = 1 → t.out = [] ∧ 2048 * k.val ∈ t.mbx.pba) ∧
    Frame [.mbx, .ctrs, .out] [Fld.MBX_BOX_STATE_STATE k.val, Fld.MBX_BOX_SEQ_RESULT_SEQ k.val] s t) ∧
  (s.get (Fld.MBX_BOX_STATE_STATE k.val) = 1 → (s.box k.val).pendingResult = none → ((s.box k.val).opcode ∉ supportedOpcodes) → Answers (.mbxCommandDone k) s fun t =>
    t.get (Fld.MBX_BOX_STATE_STATE k.val) = 2 ∧ (t.box k.val).result = some ⟨.unsupported, []⟩ ∧
    Frame [.mbx, .ctrs, .out] [Fld.MBX_BOX_STATE_STATE k.val, Fld.MBX_BOX_SEQ_RESULT_SEQ k.val] s t) ∧
  (s.clk.fabricHeld = true → Answers (.mbxBoxReset k .fabricReset) s fun t => t.get (Fld.MBX_BOX_STATE_STATE k.val) = 0 ∧ t.get (Fld.MBX_BOX_SEQ_RESULT_SEQ k.val) = 0 ∧
    t.box k.val = { (s.box k.val).toIdle with orphan := if s.get (Fld.MBX_BOX_STATE_STATE k.val) = 1 ∧ (s.box k.val).pendingResult = none then some ((s.box k.val).opcode, (s.box k.val).payload, (s.box k.val).fm) else (s.box k.val).orphan } ∧
    Frame [.mbx] [Fld.MBX_BOX_STATE_STATE k.val, Fld.MBX_BOX_SEQ_RESULT_SEQ k.val] s t) ∧
  (k.val < 64 → s.boxHears k.val = true → Answers (.mbxBoxReset k .flr) s fun t => t.get (Fld.MBX_BOX_STATE_STATE k.val) = 0 ∧
    t.box k.val = { (s.box k.val).toIdle with orphan := if s.get (Fld.MBX_BOX_STATE_STATE k.val) = 1 ∧ (s.box k.val).pendingResult = none then some ((s.box k.val).opcode, (s.box k.val).payload, (s.box k.val).fm) else (s.box k.val).orphan } ∧
    Frame [.mbx] [Fld.MBX_BOX_STATE_STATE k.val] s t) ∧
  (∀ m : Master, ∀ value : Word, m.keeperOrBoard = true → s.locked 6 = false → Answers (.mbxCfgWrite m value) s fun t => t.flag Fld.MBX_CFG_FM_EN = value.getLsbD 0 ∧
    t.get Fld.MBX_CFG_FM_VCS = bitsOf value.toNat 1 6 ∧ (t.word Addr.MBX_CFG ≠ s.word Addr.MBX_CFG → t.get Evt.MBX_FM_CHANGED.field = 1) ∧
    Frame [] [Fld.MBX_CFG_FM_EN, Fld.MBX_CFG_FM_VCS, Evt.MBX_FM_CHANGED.field] s t) ∧
  (∀ m : Master, ∀ value : Word, m.keeperOrBoard = false → m ≠ .policy → Answers (.mbxCfgWrite m value) s fun t => Frame [] [] s t)

/-- Parts of R386, R387, R391: the commands that only report. In the box that runs it, each stores Success with the values the manual determines and changes nothing else; a
box without fabric-manager permission reads an empty event log. Parts of R374, R386, R387, R391: the commands that change the module beside their answer: limits, event policy,
the event log, the timestamp offset, the firmware slot to start from, the harvest of a dirty log, the acknowledged log position, an abort. A command of a class the box may not
issue completes with Unsupported and has no effect. Choices and readings of the model it rests on: log 13, 61, 62 (DESIGN CHOICE); log 44, 45, 65, 66, 67, 70, 71, 73
(DEDUCED); log 60 (PRESUMED). -/
def Obligations.MailboxCommands : Prop := ∀ s : State, ∀ k : BoxIx,
  (s.runs k.val Opc.bgStatus .g = true → Answers (.backgroundOperationStatus k) s fun t =>
    (t.box k.val).pendingResult = some ⟨.success, [s.get (Fld.MBX_BOX_STATE_BG k.val), ((s.box k.val).bgCode.map RetCode.num).getD 0]⟩ ∧ Frame [.mbx] [] s t) ∧
  (s.runs k.val Opc.getLimit .g = true → Answers (.getResponseMessageLimit k) s fun t => (t.box k.val).pendingResult = some ⟨.success, [(s.box k.val).limit]⟩ ∧
    Frame [.mbx] [] s t) ∧
  (s.runs k.val Opc.getEventPolicy .g = true → Answers (.getEventInterruptPolicy k) s fun t => (t.box k.val).pendingResult = some ⟨.success, [(s.box k.val).eventVector]⟩ ∧
    Frame [.mbx] [] s t) ∧
  (s.runs k.val Opc.getEvents .g = true → (s.box k.val).fm = true → Answers (.getEventRecords k) s fun t =>
    (t.box k.val).pendingResult = some ⟨.success, s.mbx.events.flatMap FmEvent.values⟩ ∧ Frame [.mbx] [] s t) ∧
  (s.runs k.val Opc.getEvents .g = true → (s.box k.val).fm = false → Answers (.getEventRecords k) s fun t => (t.box k.val).pendingResult = some ⟨.success, []⟩ ∧
    Frame [.mbx] [] s t) ∧
  (s.runs k.val Opc.getTimestamp .g = true → Answers (.getTimestamp k) s fun t => (t.box k.val).pendingResult = some ⟨.success, [(s.now + s.mbx.tsOffset) % 2 ^ 64]⟩ ∧
    Frame [.mbx] [] s t) ∧
  (s.runs k.val Opc.getLogs .g = true → Answers (.getSupportedLogs k) s fun t => (t.box k.val).pendingResult = some ⟨.success, [1, supportedOpcodes.length]⟩ ∧
    Frame [.mbx] [] s t) ∧
  (s.runs k.val Opc.getLog .g = true → Answers (.getLog k true) s fun t => (t.box k.val).pendingResult = some ⟨.success, supportedOpcodes⟩ ∧ Frame [.mbx] [] s t) ∧
  (s.runs k.val Opc.getFwInfo .g = true → Answers (.getFwInfo k) s fun t =>
    (t.box k.val).pendingResult = some ⟨.success, [2, s.get Fld.BOOT_SLOTS_FW_SLOT, ((s.nv.fwPending.map fun x =>
    1 + bit x).getD 0), ((s.fwSlot false).map (·.version)).getD 0, ((s.fwSlot true).map (·.version)).getD 0]⟩ ∧ Frame [.mbx] [] s t) ∧
  (s.runs k.val Opc.moduleState .g = true → Answers (.getModuleState k) s fun t =>
    (t.box k.val).pendingResult = some ⟨.success, bytesOfWords ([Addr.BOOT_STATUS, Addr.BOOT_SLOTS, Addr.TDM_ROLE, Addr.CLK_STRAPS, Addr.DEV_FW_VER].map fun a =>
    s.readReg .board a)⟩ ∧ Frame [.mbx] [] s t) ∧
  (∀ n : Nat, s.runs k.val Opc.dlogInfo (.l n) = true → n = (s.box k.val).arg 0 1 → n < 64 → Answers (.getDirtyLogInfo k) s fun t =>
    (t.box k.val).pendingResult = some ⟨.success, bytesOfWords ([Addr.LOG_CFG n, Addr.LOG_LINES n, Addr.LOG_STATUS n, Addr.DLOG_HSTATUS].map fun a => s.readReg .board a)⟩ ∧
    Frame [.mbx] [] s t) ∧
  (s.runs k.val Opc.failRecord .fb = true → (s.box k.val).arg 0 1 < 16 → Answers (.getFailStopRecord k) s fun t =>
    (t.box k.val).pendingResult = some ⟨.success, bytesOfWords (match s.nv.records[(s.box k.val).arg 0 1]? with | some r => r.toWords | none => List.replicate 256 0)⟩ ∧
    Frame [.mbx] [] s t) ∧
  (∀ l : List LogEntry, s.runs k.val Opc.faultLog .fb = true → 1 ≤ (s.box k.val).arg 4 1 → (s.box k.val).arg 4 1 ≤ 64 → l = (((s.flt.log.filter fun e =>
    decide ((s.box k.val).arg 0 4 ≤ e.seq)).reverse).take ((s.box k.val).arg 4 1)) → Answers (.getFaultLog k) s fun t =>
    (t.box k.val).pendingResult = some ⟨.success, bytesOfWords [l.length] ++ l.flatMap fun e => bytesOfWords e.toWords⟩ ∧ Frame [.mbx] [] s t) ∧
  (s.runs k.val Opc.fixonSlots .fb = true → Answers (.getFixonSlots k) s fun t =>
    (t.box k.val).pendingResult = some ⟨.success, bytesOfWords [s.readReg .board Addr.BOOT_SLOTS, s.readReg .board Addr.BOOT_FIXON_GEN,
    (if s.fixonValid false then s.nv.fixA.generation else 0), (if s.fixonValid true then s.nv.fixB.generation else 0)]⟩ ∧ Frame [.mbx] [] s t) ∧
  (s.runs k.val Opc.identify .g = true → Answers (.identify k) s fun t => (∃ x, (t.box k.val).pendingResult = some ⟨.success, [0x1F3D, 0xC256, 16, x]⟩) ∧
    Frame [.mbx, .free] [] s t) ∧
  (∀ n : Nat, s.runs k.val Opc.setLimit .g = true → 256 ≤ n → n ≤ 65536 → Answers (.setResponseMessageLimit k n) s fun t => (t.box k.val).pendingResult = some ⟨.success, []⟩ ∧
    (t.box k.val).limit = n ∧ Frame [.mbx] [] s t) ∧
  (∀ n : Nat, s.runs k.val Opc.setLimit .g = true → (n < 256 ∨ 65536 < n) → Answers (.setResponseMessageLimit k n) s fun t =>
    (t.box k.val).pendingResult = some ⟨.invalidInput, []⟩ ∧ (t.box k.val).limit = (s.box k.val).limit ∧ Frame [.mbx] [] s t) ∧
  (∀ n : Nat, s.runs k.val Opc.setEventPolicy .g = true → 1 ≤ n → n ≤ 15 → Answers (.setEventInterruptPolicy k n) s fun t => (t.box k.val).pendingResult = some ⟨.success, []⟩ ∧
    (t.box k.val).eventVector = n ∧ Frame [.mbx] [] s t) ∧
  (∀ n : Nat, s.runs k.val Opc.clearEvents .g = true → (s.box k.val).fm = true → Answers (.clearEventRecords k false n) s fun t =>
    (t.box k.val).pendingResult = some ⟨.success, []⟩ ∧ t.mbx.events = s.mbx.events.drop n ∧ Frame [.mbx] [] s t) ∧
  (∀ n : Nat, s.runs k.val Opc.clearEvents .g = true → (s.box k.val).fm = false → Answers (.clearEventRecords k true n) s fun t =>
    (t.box k.val).pendingResult = some ⟨.success, []⟩ ∧ t.mbx.events = s.mbx.events ∧ Frame [.mbx] [] s t) ∧
  (∀ x : Word64, s.runs k.val Opc.setTimestamp .b = true → Answers (.setTimestamp k x) s fun t => (t.box k.val).pendingResult = some ⟨.success, []⟩ ∧
    (t.now + t.mbx.tsOffset) % 2 ^ 64 = x.toNat ∧ Frame [.mbx] [] s t) ∧
  (∀ x : Word64, s.mgmtRuns = true → (s.box k.val).orphan = none → s.get (Fld.MBX_BOX_STATE_STATE k.val) = 1 → (s.box k.val).opcode = Opc.setTimestamp →
    (s.box k.val).pendingResult = none → k.val ≠ 64 → k.val ≠ 65 → Answers (.setTimestamp k x) s fun t => (t.box k.val).pendingResult = some ⟨.unsupported, []⟩ ∧
    t.mbx.tsOffset = s.mbx.tsOffset ∧ Frame [.mbx] [] s t) ∧
  (∀ slot : Bool, ∀ i : SignedImage, s.runs k.val Opc.activateFw .b = true → s.fwSlot slot = some i → Answers (.activateFw k true slot) s fun t =>
    (t.box k.val).pendingResult = some ⟨.success, []⟩ ∧ t.nv = { s.nv with fwPending := some slot, writes := t.nv.writes } ∧
    Frame [.mbx, .nv] [Fld.NVS_WEAR_UNITS, Evt.NVS_WEAR_HIGH.field] s t) ∧
  (∀ r : Bool, ∀ slot : Bool, s.runs k.val Opc.activateFw .b = true → (r = false ∨ s.fwSlot slot = none) → Answers (.activateFw k r slot) s fun t =>
    (t.box k.val).pendingResult = some ⟨.invalidInput, []⟩ ∧ Frame [.mbx] [] s t) ∧
  (∀ x : Transfer, s.runs k.val Opc.abort .g = true → s.mbx.transfer = some x → x.box = k.val → Answers (.requestAbortBackgroundOp k) s fun t =>
    (t.box k.val).pendingResult = some ⟨.success, []⟩ ∧ t.mbx.transfer = none ∧ (t.box k.val).bgCode = some .aborted ∧ t.get (Fld.MBX_BOX_STATE_BG k.val) = 0 ∧
    t.get (validField x.fixon x.slot) = 0 ∧ Frame [.mbx, .nv, .out] [Fld.MBX_BOX_STATE_BG k.val, validField x.fixon x.slot] s t) ∧
  (s.runs k.val Opc.abort .g = true → s.mbx.transfer = none → s.flag (Fld.MBX_BOX_STATE_BG k.val) = false → Answers (.requestAbortBackgroundOp k) s fun t =>
    (t.box k.val).pendingResult = some ⟨.success, []⟩ ∧ Frame [.mbx] [] s t) ∧
  (∀ n : Nat, s.runs k.val Opc.ackLog .board = true → n = (s.box k.val).arg 0 4 → Answers (.acknowledgeFaultLog k) s fun t => (t.box k.val).pendingResult = some ⟨.success, []⟩ ∧
    (t.box k.val).pendingResult = some ⟨.success, []⟩ ∧ t.get Fld.FLT_BOARD_ACK_SEQ = (if s.get Fld.FLT_BOARD_ACK_SEQ ≤ n ∧
    n ≤ s.get Fld.FLT_SEQ_SEQ then n else s.get Fld.FLT_BOARD_ACK_SEQ) ∧ Frame [.mbx] [Fld.FLT_BOARD_ACK_SEQ] s t) ∧
  (∀ n : Nat, ∀ c : Nat, s.runs k.val Opc.harvest (.l n) = true → n = (s.box k.val).arg 0 1 → c = (s.box k.val).arg 1 1 + 1 → s.live 0x91 = true → n < 64 → c ≤ 64 →
    (s.box k.val).arg 4 4 + c ≤ s.get (Fld.LOG_LINES_LINES n) → 8 + 64 * c ≤ (s.box k.val).limit → s.fab.dlog.harvest = none → Answers (.harvestAndClearDirtyLog k) s fun t =>
    (t.box k.val).pendingResult = some ⟨.success, [t.get Fld.DLOG_HSTATUS_SEQ, c, t.get Fld.DLOG_HDIRTY_PAGES % 256,
    t.get Fld.DLOG_HDIRTY_PAGES / 256 % 256] ++ (bytesOfWords [(s.box k.val).arg 4 4] ++ bytesOfWords (tabulate (16 * ((s.box k.val).arg 1 1 + 1)) fun i =>
    (t.word (Addr.DLOG_HBUF i)).toNat))⟩ ∧ t.get Fld.DLOG_HSTATUS_SEQ = (s.get Fld.DLOG_HSTATUS_SEQ + 1) % 256 ∧ t.get Fld.DLOG_HSTATUS_STATE = 2 ∧
    t.get Evt.DLOG_HARVEST_DONE.field = 1 ∧ Frame [.mbx, .fab, .ctrs] ([Field.all Addr.DLOG_HSTATUS, Fld.DLOG_HDIRTY_PAGES,
    Evt.DLOG_HARVEST_DONE.field] ++ (List.range 1024).map fun i => Field.all (Addr.DLOG_HBUF i)) s t) ∧
  (∀ n : Nat, s.runs k.val Opc.harvest (.l n) = true → n = (s.box k.val).arg 0 1 →
    (64 < (s.box k.val).arg 1 1 + 1 ∨ 64 ≤ n ∨ s.get (Fld.LOG_LINES_LINES n) < (s.box k.val).arg 4 4 + (s.box k.val).arg 1 1 + 1) → Answers (.harvestAndClearDirtyLog k) s fun t =>
    (t.box k.val).pendingResult = some ⟨.invalidInput, []⟩ ∧ Frame [.mbx] [] s t)

/-- Parts of R119, R133, R386, R388: the commands of the fabric manager. They report the ports and the virtual switches, retrain or reset a link, put requests and management
commands out to the partner of a port whose link is up, and put out an AER event; Pair Command and Hive Control are exactly a write of TDM_CMD and of HIVE_CTL, complete with
Invalid Input where it would be ignored, and are never the policy partition's without its grant. Choices and readings of the model it rests on: log 13, 61, 69 (DESIGN CHOICE);
log 59, 68, 134 (DEDUCED); log 242 (PRESUMED). -/
def Obligations.FabricManagerApi : Prop := ∀ s : State, ∀ k : BoxIx,
  (s.runs k.val Opc.identifySwitch .f = true → Answers (.identifySwitchDevice k) s fun t => (t.box k.val).pendingResult = some ⟨.success, [64, 64, bitVecOf 64 fun p =>
    s.live 0x60 && s.present p, bitVecOf 64 fun p => s.live 0x60 && s.portEn p, 4096, (if s.live 0x60 then ((List.range 4096).filter fun n =>
    s.vppbState n == 1).length else 0)]⟩ ∧ Frame [.mbx] [] s t) ∧
  (∀ l : List Port, s.runs k.val Opc.portState .f = true → Answers (.getPhysicalPortState k l) s fun t => (t.box k.val).pendingResult = some ⟨.success, l.flatMap fun p =>
    [p.val, s.readReg .board (Addr.PORT_CFG p.val), s.readReg .board (Addr.PORT_STATUS p.val)]⟩ ∧ Frame [.mbx] [] s t) ∧
  (∀ v : Vcs, s.runs k.val Opc.vcsInfo .f = true → s.live 0x60 = true → s.vcsEnabled v.val = true → Answers (.getVirtualSwitchInfo k v) s fun t =>
    (t.box k.val).pendingResult = some ⟨.success, [s.vcsState v.val, s.get (Fld.VCS_ENTRY_CFG_USP v.val), s.vppbCount v.val] ++ (List.range (s.vppbCount v.val)).flatMap fun i =>
    [s.vppbState (s.vppbOf v.val i), (s.word (Addr.VPPB_TARGET (s.vppbOf v.val i))).toNat]⟩ ∧ Frame [.mbx] [] s t) ∧
  (∀ v : Vcs, ∀ i : Nat, ∀ code : Nat, s.runs k.val Opc.aer .f = true → s.live 0x60 = true → s.vcsEnabled v.val = true → i < s.vppbCount v.val →
    Answers (.generateAerEvent k v i code) s fun t => (t.box k.val).pendingResult = some ⟨.success, []⟩ ∧ t.out = [.aer (s.vppbOf v.val i) code] ∧ Frame [.mbx, .out] [] s t) ∧
  (∀ p : Port, ∀ q : List Byte, ∀ r : List Byte, s.runs k.val Opc.tunnel .f = true → tunneledOpcodes.contains (tunneledOpcode q) = true → tunneledOpcode q ≠ 0x5402 →
    s.live 0x10 = true → s.linkUp p.val = true → Answers (.tunnelManagementCommand k p q r) s fun t => (t.box k.val).pendingResult = some ⟨.success, r.map (·.toNat)⟩ ∧
    t.out = [.tunnel p.val q] ∧ Frame [.mbx, .out] [] s t) ∧
  (∀ p : Port, ∀ q : List Byte, ∀ r : List Byte, s.runs k.val Opc.tunnel .f = true → tunneledOpcodes.contains (tunneledOpcode q) = false →
    Answers (.tunnelManagementCommand k p q r) s fun t => (t.box k.val).pendingResult = some ⟨.unsupported, []⟩ ∧ Frame [.mbx] [] s t) ∧
  (∀ p : Port, ∀ reg : BitVec 12, ∀ w : Word, s.runs k.val Opc.ppbConfig .f = true → s.live 0x10 = true → s.linkUp p.val = true →
    Answers (.sendPpbConfigRequest k p reg (some w)) s fun t => (t.box k.val).pendingResult = some ⟨.success, []⟩ ∧
    t.out = [.tx p.val { kind := .cfgReq, addr := reg.toNat, data := (wordBytes w.toNat).map (BitVec.ofNat 8), dst := p.val }] ∧ Frame [.mbx, .out] [] s t) ∧
  (∀ p : Port, ∀ reg : BitVec 12, ∀ x : Option Word, s.runs k.val Opc.ppbConfig .f = true → s.linkUp p.val = false → Answers (.sendPpbConfigRequest k p reg x) s fun t =>
    (t.box k.val).pendingResult = some ⟨.invalidInput, []⟩ ∧ Frame [.mbx] [] s t) ∧
  (∀ p : Port, ∀ ld : Ld, ∀ reg : BitVec 12, s.runs k.val Opc.ldConfig .f = true → s.live 0x10 = true → s.linkUp p.val = true → s.live 0x60 = true → s.isMld p.val = true →
    s.flag (Fld.LD_STATE_PRESENT (16 * p.val + ld.val)) = true → Answers (.sendLdConfigRequest k p ld reg none) s fun t =>
    t.out = [.tx p.val { kind := .cfgReq, ld := ld.val, addr := reg.toNat, dst := p.val }] ∧ (∃ x, (t.box k.val).pendingResult = some ⟨.success, [x]⟩) ∧
    Frame [.mbx, .out, .free] [] s t) ∧
  (∀ p : Port, ∀ ld : Ld, ∀ addr : Nat, ∀ len : Nat, ∀ l : List Byte, s.runs k.val Opc.ldMemory .f = true → s.live 0x10 = true → s.linkUp p.val = true → s.live 0x60 = true →
    s.isMld p.val = true → s.flag (Fld.LD_STATE_PRESENT (16 * p.val + ld.val)) = true → Answers (.sendLdMemoryRequest k p ld addr len (some l)) s fun t =>
    (t.box k.val).pendingResult = some ⟨.success, []⟩ ∧ t.out = [.tx p.val { kind := .ioPosted, ld := ld.val, addr := addr, rdLen := len, data := l, dst := p.val }] ∧
    Frame [.mbx, .out] [] s t) ∧
  (∀ p : Port, s.runs k.val Opc.portControl .f = true → s.live 0x10 = true → s.present p.val = true → s.get (Fld.PORT_STATUS_LINK p.val) = 5 →
    Answers (.physicalPortControl k p .retrain) s fun t => (t.box k.val).pendingResult = some ⟨.success, []⟩ ∧ t.get (Fld.PORT_STATUS_LINK p.val) = 6 ∧
    Frame [.mbx, .fab, .pair, .ctrs, .out] ([Fld.PORT_STATUS_LINK p.val, Field.all (Addr.PORT_DSX_STATUS p.val),
    (Evt.PORT_DSX_WAKE p.val).field] ++ ((s.portLanes p.val).flatMap fun i =>
    [Field.all (Addr.LANE_STATUS i), Field.all (Addr.LANE_EYE_STATUS i), (Evt.LANE_EYE_DONE i).field]) ++ mirrorFields) s t) ∧
  (∀ p : Port, s.runs k.val Opc.portControl .f = true → s.live 0x10 = true → s.present p.val = true → 5 ≤ s.get (Fld.PORT_STATUS_LINK p.val) →
    s.get (Fld.PORT_STATUS_LINK p.val) ≤ 8 → Answers (.physicalPortControl k p .reset) s fun t => (t.box k.val).pendingResult = some ⟨.success, []⟩ ∧
    t.get (Fld.PORT_STATUS_LINK p.val) = 2) ∧
  (∀ p : Port, s.runs k.val Opc.portControl .f = true → s.live 0x10 = true → s.present p.val = true → Answers (.physicalPortControl k p .perst) s fun t =>
    (t.box k.val).pendingResult = some ⟨.unsupported, []⟩ ∧ Frame [.mbx] [] s t) ∧
  (s.runs k.val Opc.pairCmd .f = true → k.val ≠ 66 → s.tdmCmdActs ((s.box k.val).arg 0 1) = true → Answers (.pairCommand k) s fun t =>
    (t.box k.val).pendingResult = some ⟨.success, []⟩ ∧ t.role = ((s.writeTdmCmd .board ((s.box k.val).arg 0 1)).role) ∧
    t.get Fld.TDM_LINK_STATE = (s.writeTdmCmd .board ((s.box k.val).arg 0 1)).get Fld.TDM_LINK_STATE) ∧
  (s.runs k.val Opc.pairCmd .f = true → k.val ≠ 66 → s.tdmCmdActs ((s.box k.val).arg 0 1) = false → Answers (.pairCommand k) s fun t =>
    (t.box k.val).pendingResult = some ⟨.invalidInput, []⟩ ∧ Frame [.mbx] [] s t) ∧
  (∀ h : Nat, s.runs k.val Opc.hiveCtl .f = true → k.val ≠ 66 → (s.box k.val).arg 0 1 = h → h < 16 → (s.box k.val).arg 1 1 = 1 → s.live 0x70 = true → s.isActive = true →
    s.hiveServes h = true → Answers (.hiveControl k) s fun t => (t.box k.val).pendingResult = some ⟨.success, []⟩ ∧ t.hiveState h = 4 ∧ t.get (Evt.HOME_HIVE_DOWN h).field = 1) ∧
  (s.runs k.val Opc.hiveCtl .f = true → k.val ≠ 66 → (s.isActive = false ∨ 16 ≤ (s.box k.val).arg 0 1) → Answers (.hiveControl k) s fun t =>
    (t.box k.val).pendingResult = some ⟨.invalidInput, []⟩ ∧ Frame [.mbx] [] s t)

/-- Parts of R79, R387, R391, R402: transfers of images into a slot of the NV store. The start erases the slot, shows it invalid and runs as the box's background operation,
with Invalid Input for a slot in use and Busy while another transfer runs; a part goes into the slot; the end validates the image and shows the slot valid, or leaves it
invalid; an abort leaves it invalid. Choices and readings of the model it rests on: log 44, 64 (DEDUCED). -/
def Obligations.ImageTransfers : Prop := ∀ s : State, ∀ k : BoxIx,
  (∀ slot : Bool, s.runs k.val Opc.fixonXfer .b = true → (s.box k.val).arg 0 1 = 1 → (s.box k.val).arg 1 1 = bit slot → (s.box k.val).part.2.2 = true →
    s.slotInUse true slot = false → s.mbx.transfer = none → s.flag (Fld.MBX_BOX_STATE_BG k.val) = false → Answers (.fixonXferStart k) s fun t =>
    (t.box k.val).pendingResult = some ⟨.background, []⟩ ∧ t.mbx.transfer = some ⟨k.val, true, slot⟩ ∧ t.get (Fld.MBX_BOX_STATE_BG k.val) = 1 ∧ t.get (validField true slot) = 0 ∧
    (t.fixSlot slot).bad = true ∧ (∀ i < (s.box k.val).part.2.1.length, (t.fixSlot slot).byte ((s.box k.val).part.1 + i) = ((s.box k.val).part.2.1.getD i 0).toNat) ∧
    t.fixSlot (!slot) = s.fixSlot (!slot) ∧ Frame [.mbx, .nv, .ctrs] [Fld.MBX_BOX_STATE_BG k.val, validField true slot, Fld.NVS_WEAR_UNITS, Evt.NVS_WEAR_HIGH.field] s t) ∧
  (∀ slot : Bool, s.runs k.val Opc.fixonXfer .b = true → (s.box k.val).arg 0 1 = 1 → (s.box k.val).arg 1 1 = bit slot → (s.box k.val).part.2.2 = true →
    s.slotInUse true slot = false → s.mbx.transfer ≠ none → Answers (.fixonXferStart k) s fun t => (t.box k.val).pendingResult = some ⟨.busy, []⟩ ∧ Frame [.mbx] [] s t) ∧
  (∀ slot : Bool, s.runs k.val Opc.fixonXfer .b = true → (s.box k.val).arg 0 1 = 2 → (s.box k.val).arg 1 1 = bit slot → (s.box k.val).part.2.2 = true →
    s.mbx.transfer = some ⟨k.val, true, slot⟩ → Answers (.fixonXferContinue k) s fun t => (t.box k.val).pendingResult = some ⟨.success, []⟩ ∧
    (∀ i < (s.box k.val).part.2.1.length, (t.fixSlot slot).byte ((s.box k.val).part.1 + i) = ((s.box k.val).part.2.1.getD i 0).toNat) ∧ t.fixSlot (!slot) = s.fixSlot (!slot) ∧
    Frame [.mbx, .nv] [Fld.NVS_WEAR_UNITS, Evt.NVS_WEAR_HIGH.field] s t) ∧
  (∀ slot : Bool, s.runs k.val Opc.fixonXfer .b = true → (s.box k.val).arg 0 1 = 3 → (s.box k.val).arg 1 1 = bit slot → s.mbx.transfer = some ⟨k.val, true, slot⟩ →
    ({ s with nv := (if slot then { s.nv with fixB := { s.nv.fixB with bad := false } } else { s.nv with fixA := { s.nv.fixA with bad := false } }) }).fixonValid slot = true →
    Answers (.fixonXferEnd k) s fun t => (t.box k.val).pendingResult = some ⟨.success, []⟩ ∧ t.mbx.transfer = none ∧ t.fixonValid slot = true ∧ t.get (validField true slot) = 1 ∧
    t.get (Fld.MBX_BOX_STATE_BG k.val) = 0 ∧ (t.box k.val).bgCode = some .success ∧
    Frame [.mbx, .nv, .out] [Fld.MBX_BOX_STATE_BG k.val, validField true slot, Fld.NVS_WEAR_UNITS, Evt.NVS_WEAR_HIGH.field] s t) ∧
  (∀ slot : Bool, s.runs k.val Opc.fixonXfer .b = true → (s.box k.val).arg 0 1 = 3 → (s.box k.val).arg 1 1 = bit slot → s.mbx.transfer = some ⟨k.val, true, slot⟩ →
    ({ s with nv := (if slot then { s.nv with fixB := { s.nv.fixB with bad := false } } else { s.nv with fixA := { s.nv.fixA with bad := false } }) }).fixonValid slot = false →
    Answers (.fixonXferEnd k) s fun t => (t.box k.val).pendingResult = some ⟨.invalidInput, []⟩ ∧ t.mbx.transfer = none ∧ (t.fixSlot slot).bad = true ∧
    t.get (validField true slot) = 0 ∧ (t.box k.val).bgCode = some .invalidInput ∧
    Frame [.mbx, .nv, .out] [Fld.MBX_BOX_STATE_BG k.val, validField true slot, Fld.NVS_WEAR_UNITS, Evt.NVS_WEAR_HIGH.field] s t) ∧
  (∀ slot : Bool, s.runs k.val Opc.fixonXfer .b = true → (s.box k.val).arg 0 1 = 4 → (s.box k.val).arg 1 1 = bit slot → s.mbx.transfer = some ⟨k.val, true, slot⟩ →
    Answers (.fixonXferAbort k) s fun t => (t.box k.val).pendingResult = some ⟨.success, []⟩ ∧ t.mbx.transfer = none ∧ (t.fixSlot slot).bad = true ∧
    t.get (validField true slot) = 0 ∧ (t.box k.val).bgCode = some .aborted ∧
    Frame [.mbx, .nv, .out] [Fld.MBX_BOX_STATE_BG k.val, validField true slot, Fld.NVS_WEAR_UNITS, Evt.NVS_WEAR_HIGH.field] s t) ∧
  (∀ slot : Bool, ∀ img : SignedImage, s.runs k.val Opc.transferFw .b = true → s.slotInUse false slot = false → s.mbx.transfer = none →
    s.flag (Fld.MBX_BOX_STATE_BG k.val) = false → Answers (.transferFw k .start slot img) s fun t => (t.box k.val).pendingResult = some ⟨.background, []⟩ ∧
    t.mbx.transfer = some ⟨k.val, false, slot⟩ ∧ (if slot then t.nv.fwB else t.nv.fwA) = none ∧ t.get (validField false slot) = 0 ∧
    Frame [.mbx, .nv, .ctrs] [Fld.MBX_BOX_STATE_BG k.val, validField false slot, Fld.NVS_WEAR_UNITS, Evt.NVS_WEAR_HIGH.field] s t) ∧
  (∀ slot : Bool, ∀ img : SignedImage, s.runs k.val Opc.transferFw .b = true → s.slotInUse false slot = true → Answers (.transferFw k .start slot img) s fun t =>
    (t.box k.val).pendingResult = some ⟨.invalidInput, []⟩ ∧ Frame [.mbx] [] s t) ∧
  (∀ slot : Bool, ∀ img : SignedImage, s.runs k.val Opc.transferFw .b = true → s.mbx.transfer = some ⟨k.val, false, slot⟩ → Answers (.transferFw k .continue slot img) s fun t =>
    (t.box k.val).pendingResult = some ⟨.success, []⟩ ∧ Frame [.mbx] [] s t) ∧
  (∀ slot : Bool, ∀ img : SignedImage, s.runs k.val Opc.transferFw .b = true → s.mbx.transfer = some ⟨k.val, false, slot⟩ → img.fwOk s = true →
    Answers (.transferFw k .finish slot img) s fun t => (t.box k.val).pendingResult = some ⟨.success, []⟩ ∧ t.mbx.transfer = none ∧
    (if slot then t.nv.fwB else t.nv.fwA) = some img ∧ t.get (validField false slot) = 1 ∧
    Frame [.mbx, .nv, .out] [Fld.MBX_BOX_STATE_BG k.val, validField false slot, Fld.NVS_WEAR_UNITS, Evt.NVS_WEAR_HIGH.field] s t) ∧
  (∀ slot : Bool, ∀ img : SignedImage, s.runs k.val Opc.transferFw .b = true → s.mbx.transfer = some ⟨k.val, false, slot⟩ → img.fwOk s = false →
    Answers (.transferFw k .finish slot img) s fun t => (t.box k.val).pendingResult = some ⟨.invalidInput, []⟩ ∧ t.mbx.transfer = none ∧
    (if slot then t.nv.fwB else t.nv.fwA) = none ∧ t.get (validField false slot) = 0 ∧
    Frame [.mbx, .nv, .out] [Fld.MBX_BOX_STATE_BG k.val, validField false slot, Fld.NVS_WEAR_UNITS, Evt.NVS_WEAR_HIGH.field] s t) ∧
  (∀ slot : Bool, ∀ img : SignedImage, s.runs k.val Opc.transferFw .b = true → s.mbx.transfer = some ⟨k.val, false, slot⟩ → Answers (.transferFw k .abort slot img) s fun t =>
    (t.box k.val).pendingResult = some ⟨.success, []⟩ ∧ t.mbx.transfer = none ∧ (if slot then t.nv.fwB else t.nv.fwA) = none ∧ (t.box k.val).bgCode = some .aborted ∧
    Frame [.mbx, .nv, .out] [Fld.MBX_BOX_STATE_BG k.val, validField false slot, Fld.NVS_WEAR_UNITS, Evt.NVS_WEAR_HIGH.field] s t)

/-- Parts of R144 to R147: the binding engine. Bind vPPB binds an UNBOUND entry to a port or an LD under the next GEN and completes in the background with Success; a check
that fails gives its code and changes no binding. Option 0 of Unbind vPPB puts the entry into UNBIND_WAIT and lets it go on to FLUSHING once its link is down, its host has
disabled it or DPC holds it; option 1 is Unsupported; option 2 flushes at once, reports a Surprise Down Error and keeps the engine busy. While the engine is busy it answers
Busy. Parts of R141, R142, R148 to R154, R160 to R162: when the flush of a vPPB is done its entry is UNBOUND and its LD free; a host's Link Disable ends UNBIND_WAIT, and
clearing DPC clears it; a decoder commit that passes shows its values committed and one that fails leaves the decoder uncommitted; a VCS entry is enabled where its range and
its port are free, and disabled with all its vPPBs UNBOUND; Set LD Allocations is Busy while an LD is bound; a STALE tracker slot becomes FREE after its quarantine. Choices
and readings of the model it rests on: log 13, 62 (DESIGN CHOICE); log 129, 259 (PRESUMED); log 131, 132 (DEDUCED). -/
def Obligations.BindingAndFlushes : Prop := ∀ s : State,
  (∀ k : BoxIx, ∀ v : Nat, ∀ i : Nat, ∀ n : Nat, ∀ p : Nat, ∀ ld : Nat, s.runs k.val Opc.bind .f = true → s.engineBusyFor k.val = false → n = s.vppbOf v i → n < 4096 →
    s.bindCheck v i p ld = none → n + 1 < 4096 → Answers (.bindVppb k v i p ld) s fun t => s.vppbState n = 0 ∧ t.vppbState n = 1 ∧ t.vppbPort n = p ∧
    t.vppbGen n = (s.vppbGen n + 1) % 256 ∧ t.flag (Fld.VPPB_TARGET_LD_VALID n) = decide (ld ≠ 0xFFFF) ∧
    t.flag (Fld.LD_STATE_BOUND (16 * p + if ld = 0xFFFF then 0 else ld)) = true ∧ t.get (Fld.LD_STATE_VPPB (16 * p + if ld = 0xFFFF then 0 else ld)) = n ∧
    (t.box k.val).bgCode = some .success ∧ (t.box k.val).pendingResult = some ⟨.background, []⟩ ∧ t.get Fld.VCS_STATUS_LAST_OP = 1 ∧ t.get Fld.VCS_STATUS_LAST_RC = 0 ∧
    t.get Fld.VCS_STATUS_LAST_VPPB = n ∧ t.get Evt.VCS_BIND_DONE.field = 1 ∧ ((t.presence n).1 = true → (t.vppbCfg n).presChanged = true ∧ (t.vppbCfg n).linkChanged = true ∧
    ((s.vppbCfg n).hotPlugEn = true → .hotPlug n true ∈ t.out)) ∧ ((t.presence n).1 = false → t.vppbCfg n = s.vppbCfg n) ∧
    { t.fab with pair := Pair.reset, lag := [], sw := { t.fab.sw with vcfg := [] } } = { s.fab with pair := Pair.reset, lag := [], sw := { s.fab.sw with vcfg := [] } } ∧
    Frame [.mbx, .fab, .ctrs, .pair, .tiles, .out] ([Field.all (Addr.VPPB_STATE n), Field.all (Addr.VPPB_TARGET n),
    Field.all (Addr.LD_STATE (16 * p + if ld = 0xFFFF then 0 else ld)), Field.all Addr.VCS_STATUS, Fld.MBX_BOX_STATE_BG k.val, Evt.VCS_BIND_DONE.field] ++ mirrorFields) s t) ∧
  (∀ k : BoxIx, ∀ v : Nat, ∀ i : Nat, ∀ n : Nat, ∀ p : Nat, ∀ ld : Nat, ∀ c : RetCode, s.runs k.val Opc.bind .f = true → s.engineBusyFor k.val = false → v < 64 →
    s.vcsEnabled v = true → i < s.vppbCount v → n = s.vppbOf v i → n < 4096 → s.bindCheck v i p ld = some c → Answers (.bindVppb k v i p ld) s fun t =>
    (t.box k.val).pendingResult = some ⟨c, []⟩ ∧ t.get Fld.VCS_STATUS_LAST_RC = rcCode c ∧ t.get Fld.VCS_STATUS_LAST_VPPB = n ∧ Frame [.mbx] [Field.all Addr.VCS_STATUS] s t) ∧
  (∀ k : BoxIx, ∀ v : Nat, ∀ i : Nat, ∀ p : Nat, ∀ ld : Nat, s.runs k.val Opc.bind .f = true → s.engineBusyFor k.val = true → Answers (.bindVppb k v i p ld) s fun t =>
    (t.box k.val).pendingResult = some ⟨.busy, []⟩ ∧ Frame [.mbx] [] s t) ∧
  (∀ k : BoxIx, ∀ v : Nat, ∀ i : Nat, s.runs k.val Opc.unbind .f = true → s.engineBusyFor k.val = true → Answers (.unbindOpt2 k v i) s fun t =>
    (t.box k.val).pendingResult = some ⟨.busy, []⟩ ∧ Frame [.mbx] [] s t) ∧
  (∀ k : BoxIx, ∀ v : Nat, ∀ i : Nat, ∀ n : Nat, s.runs k.val Opc.unbind .f = true → s.engineBusyFor k.val = false → n = s.vppbOf v i → n < 4096 → s.unbindCheck v i 0 = .inr n →
    s.unbindReady n = false → Answers (.unbindOpt0 k v i) s fun t => t.vppbState n = 2 ∧ t.vppbGen n = s.vppbGen n ∧ (n ∈ t.fab.sw.unbind0) ∧
    (t.box k.val).bgCode = some .success ∧ t.get Fld.VCS_STATUS_LAST_OP = 2 ∧ t.get Fld.VCS_STATUS_LAST_RC = 0 ∧
    Frame [.mbx, .ctrs, .fab, .pair, .tiles, .out] ([Fld.VPPB_STATE_STATE n, Field.all Addr.VCS_STATUS, Fld.MBX_BOX_STATE_BG k.val] ++ mirrorFields) s t) ∧
  (∀ k : BoxIx, ∀ v : Nat, ∀ i : Nat, ∀ n : Nat, s.runs k.val Opc.unbind .f = true → s.engineBusyFor k.val = false → n = s.vppbOf v i → n < 4096 → s.unbindCheck v i 0 = .inr n →
    s.unbindReady n = true → Answers (.unbindOpt0 k v i) s fun t => t.vppbState n = 3 ∧ t.vppbGen n = (s.vppbGen n + 1) % 256 ∧ ((.vppb n, false) ∈ t.fab.sw.flushes) ∧
    (n ∈ t.fab.sw.unbind0) ∧ Frame [.mbx, .ctrs, .fab, .pair, .tiles, .out, .free] ([Fld.VPPB_STATE_STATE n, Fld.VPPB_STATE_GEN n, Field.all Addr.VCS_STATUS,
    Fld.MBX_BOX_STATE_BG k.val] ++ mirrorFields) s t) ∧
  (∀ k : BoxIx, ∀ v : Nat, ∀ i : Nat, ∀ n : Nat, s.runs k.val Opc.unbind .f = true → s.engineBusyFor k.val = false → n = s.vppbOf v i → n < 4096 → s.unbindCheck v i 1 = .inr n →
    Answers (.unbindOpt1 k v i) s fun t => (t.box k.val).pendingResult = some ⟨.unsupported, []⟩ ∧ t.get Fld.VCS_STATUS_LAST_RC = 3 ∧
    Frame [.mbx] [Field.all Addr.VCS_STATUS] s t) ∧
  (∀ k : BoxIx, ∀ v : Nat, ∀ i : Nat, ∀ n : Nat, s.runs k.val Opc.unbind .f = true → s.engineBusyFor k.val = false → n = s.vppbOf v i → n < 4096 → s.unbindCheck v i 2 = .inr n →
    s.fab.sw.flushes = [] → s.live 0x60 = true → Answers (.unbindOpt2 k v i) s fun t => t.vppbState n = 3 ∧ t.vppbGen n = (s.vppbGen n + 1) % 256 ∧
    t.fab.sw.binding = some (n, 2, k.val) ∧ t.get Fld.VCS_STATUS_BUSY = 1 ∧ t.get (Fld.MBX_BOX_STATE_BG k.val) = 1 ∧ t.fab.sw.flushes = [(.vppb n, false)] ∧
    ((.aer n 5) ∈ t.out) ∧ Frame [.mbx, .ctrs, .fab, .pair, .tiles, .out, .free] ([Field.all (Addr.VPPB_STATE n), Field.all Addr.VCS_STATUS,
    Fld.MBX_BOX_STATE_BG k.val] ++ mirrorFields) s t) ∧
  (∀ n : Vppb, s.fabricRuns = true → s.fab.sw.flushes = [(.vppb n.val, false)] → s.vppbState n.val = 3 → s.fab.sw.binding = none → s.fab.sw.unbind0 = [] →
    s.ldEntry n.val < 1024 → s.flushAnswered (.vppb n.val) = true → Answers (.flushComplete (.vppb n.val)) s fun t => t.vppbState n.val = 0 ∧
    t.flag (Fld.LD_STATE_BOUND (s.ldEntry n.val)) = false ∧ t.get (Fld.LD_STATE_VPPB (s.ldEntry n.val)) = 0 ∧ t.fab.sw.flushes = [] ∧ t.get Evt.VCS_UNBIND_DONE.field = 1 ∧
    t.get Evt.VCS_FLUSH_DONE.field = 1 ∧ t.vppbGen n.val = s.vppbGen n.val ∧
    Frame ([.fab] ++ mirrorParts) ([Fld.VPPB_STATE_STATE n.val, Field.all (Addr.VPPB_TARGET n.val), Field.all (Addr.LD_STATE (s.ldEntry n.val)), Evt.VCS_UNBIND_DONE.field,
    Evt.VCS_FLUSH_DONE.field] ++ mirrorFields) s t) ∧
  (∀ p : Nat, s.fabricRuns = true → s.fab.sw.flushes = [(.port p, false)] → s.flushAnswered (.port p) = true → Answers (.flushComplete (.port p)) s fun t =>
    t.fab.sw.flushes = [] ∧ t.get Evt.VCS_FLUSH_DONE.field = 1 ∧ Frame [.fab, .tiles] [Evt.VCS_FLUSH_DONE.field] s t) ∧
  (∀ f : FlushScope, s.fabricRuns = true → s.flushAnswered f = false → Answers (.flushComplete f) s fun t => Frame [] [] s t) ∧
  (∀ n : Vppb, ∀ on : Bool, s.fabricRuns = true → s.isDownstream n.val = true → s.vppbState n.val = 1 → Answers (.vppbLinkDisable n on) s fun t =>
    t.vppbCfg n.val = { s.vppbCfg n.val with linkDisable := on, presChanged := (s.vppbCfg n.val).presChanged || (s.presence n.val).1 != (t.presence n.val).1, linkChanged := (s.vppbCfg n.val).linkChanged || (s.presence n.val).2 != (t.presence n.val).2 } ∧
    t.vppbState n.val = 1 ∧ Frame [.fab, .out] [] s t) ∧
  (∀ n : Vppb, s.fabricRuns = true → s.isDownstream n.val = true → s.vppbState n.val = 2 → Answers (.vppbLinkDisable n true) s fun t => t.vppbState n.val = 3 ∧
    t.vppbGen n.val = (s.vppbGen n.val + 1) % 256 ∧ (t.vppbCfg n.val).linkDisable = true ∧
    Frame ([.fab, .free] ++ mirrorParts) ([Fld.VPPB_STATE_STATE n.val, Fld.VPPB_STATE_GEN n.val] ++ mirrorFields) s t) ∧
  (∀ n : Vppb, s.fabricRuns = true → s.isDownstream n.val = true → Answers (.vppbDpcClear n) s fun t => t.flag (Fld.VPPB_STATE_DPC n.val) = false ∧
    (t.vppbCfg n.val).linkChanged = ((s.vppbCfg n.val).linkChanged || (s.presence n.val).2 != (t.presence n.val).2) ∧
    Frame ([.fab] ++ mirrorParts) (Fld.VPPB_STATE_DPC n.val :: mirrorFields) s t) ∧
  (∀ v : Vcs, ∀ d : Fin 32, ∀ base : BitVec 52, ∀ size : BitVec 52, ∀ iw : BitVec 4, ∀ ig : BitVec 4, ∀ lk : Bool, ∀ ty : Bool, ∀ l : List Nat, s.fabricRuns = true →
    s.isActive = true → s.vcsEnabled v.val = true → s.decLocked v.val d.val = false → s.decoderOk v.val d.val base.toNat size.toNat iw.toNat ig.toNat l = true →
    Answers (.hdmDecoderCommit v d base size iw ig lk ty l) s fun t => t.decCommitted v.val d.val = true ∧ t.decBase v.val d.val = base.toNat ∧
    t.decSize v.val d.val = size.toNat ∧ t.decWays v.val d.val = l.length ∧ t.decGran v.val d.val = 256 * 2 ^ ig.toNat ∧
    (∀ i < l.length, t.decTarget v.val d.val i = l.getD i 0) ∧ t.decLocked v.val d.val = lk ∧ bitsOf (t.decWord v.val d.val 4) 12 1 = bit ty ∧
    (.decoder v.val d.val true ∈ t.out) ∧ Frame mirrorParts (((((List.range 8).map fun i => Fld.HDM_DECODER_WORD (32 * v.val + d.val) i) ++ (List.range 4).map fun i =>
    Fld.HDM_TARGETS_WAYS (32 * v.val + d.val) i)) ++ mirrorFields) s t) ∧
  (∀ v : Vcs, ∀ d : Fin 32, ∀ base : BitVec 52, ∀ size : BitVec 52, ∀ iw : BitVec 4, ∀ ig : BitVec 4, ∀ lk : Bool, ∀ ty : Bool, ∀ l : List Nat, s.fabricRuns = true →
    s.isActive = true → s.vcsEnabled v.val = true → s.decLocked v.val d.val = false → s.decoderOk v.val d.val base.toNat size.toNat iw.toNat ig.toNat l = false →
    Answers (.hdmDecoderCommit v d base size iw ig lk ty l) s fun t => t.decCommitted v.val d.val = false ∧ (.decoder v.val d.val false ∈ t.out) ∧
    Frame mirrorParts (((((List.range 8).map fun i => Fld.HDM_DECODER_WORD (32 * v.val + d.val) i) ++ (List.range 4).map fun i =>
    Fld.HDM_TARGETS_WAYS (32 * v.val + d.val) i)) ++ mirrorFields) s t) ∧
  (∀ v : Vcs, ∀ d : Fin 32, ∀ base : BitVec 52, ∀ size : BitVec 52, ∀ iw : BitVec 4, ∀ ig : BitVec 4, ∀ lk : Bool, ∀ ty : Bool, ∀ l : List Nat, s.fabricRuns = true →
    s.decLocked v.val d.val = true → Answers (.hdmDecoderCommit v d base size iw ig lk ty l) s fun t => Frame [] [] s t) ∧
  (∀ m : Master, ∀ v : Vcs, ∀ value : Word, s.takes m 0x602 = true → s.isActive = true → s.vcsEnabled v.val = false → value.getLsbD 0 = true →
    s.vcsFits v.val (bitsOf value.toNat 16 12) (s.vppbCount v.val) (bitsOf value.toNat 8 6) = true → Answers (.vcsEntryWrite m v value) s fun t => t.vcsEnabled v.val = true ∧
    t.get (Fld.VCS_ENTRY_CFG_USP v.val) = (bitsOf value.toNat 8 6) ∧ t.get (Fld.VCS_ENTRY_CFG_VPPB_BASE v.val) = (bitsOf value.toNat 16 12) ∧
    t.vppbState (bitsOf value.toNat 16 12) = 4 ∧ t.vppbPort (bitsOf value.toNat 16 12) = (bitsOf value.toNat 8 6) ∧
    t.vppbGen (bitsOf value.toNat 16 12) = (s.vppbGen (bitsOf value.toNat 16 12) + 1) % 256 ∧ (∀ i < s.vppbCount v.val, 0 < i → t.vppbState ((bitsOf value.toNat 16 12) + i) = 0 ∧
    t.get (Fld.VPPB_STATE_VCS ((bitsOf value.toNat 16 12) + i)) = v.val) ∧
    Frame mirrorParts ([Field.all (Addr.VCS_ENTRY_CFG v.val), Fld.VPPB_TARGET_PORT (bitsOf value.toNat 16 12)] ++ (List.range (s.vppbCount v.val)).map (fun i =>
    Field.all (Addr.VPPB_STATE ((bitsOf value.toNat 16 12) + i))) ++ mirrorFields) s t) ∧
  (∀ m : Master, ∀ v : Vcs, ∀ value : Word, s.takes m 0x602 = true → s.isActive = true → s.vcsEnabled v.val = true → value.getLsbD 0 = false → 2 ≤ s.vppbCount v.val →
    s.vppbOf v.val (s.vppbCount v.val) ≤ 4096 → (∀ i < s.vppbCount v.val, 0 < i → s.vppbState (s.vppbOf v.val i) = 0) → Answers (.vcsEntryWrite m v value) s fun t =>
    t.vcsEnabled v.val = false ∧ (∀ i < s.vppbCount v.val, t.vppbState (s.vppbOf v.val i) = 7) ∧ t.vppbGen (s.vppbOf v.val 0) = (s.vppbGen (s.vppbOf v.val 0) + 1) % 256) ∧
  (∀ m : Master, ∀ v : Vcs, ∀ value : Word, ∀ i : Nat, s.takes m 0x602 = true → s.isActive = true → s.vcsEnabled v.val = true → i < s.vppbCount v.val → 0 < i →
    s.vppbState (s.vppbOf v.val i) ≠ 0 → Answers (.vcsEntryWrite m v value) s fun t => t.vcsEnabled v.val = true ∧ Frame mirrorParts mirrorFields s t) ∧
  (∀ k : BoxIx, ∀ p : Port, ∀ x : Fin 17, ∀ q : List Byte, ∀ r : List Byte, s.runs k.val Opc.tunnel .f = true → s.live 0x60 = true → s.isMld p.val = true → s.boundTo p.val = [] →
    Answers (.setLdAllocations k p x q r) s fun t => (∀ d : Fin 16, t.flag (Fld.LD_STATE_PRESENT (16 * p.val + d.val)) = decide (d.val < x.val)) ∧
    (t.box k.val).pendingResult = some ⟨.success, r.map (·.toNat)⟩ ∧ ((.tunnel p.val q) ∈ t.out) ∧ Frame [.mbx, .fab, .ctrs, .pair, .tiles, .out] (((List.range 16).map fun d =>
    Fld.LD_STATE_PRESENT (16 * p.val + d)) ++ mirrorFields) s t) ∧
  (∀ k : BoxIx, ∀ p : Port, ∀ x : Fin 17, ∀ q : List Byte, ∀ r : List Byte, s.runs k.val Opc.tunnel .f = true → s.live 0x60 = true → s.isMld p.val = true → s.boundTo p.val ≠ [] →
    Answers (.setLdAllocations k p x q r) s fun t => (t.box k.val).pendingResult = some ⟨.busy, []⟩ ∧ Frame [.mbx] [] s t) ∧
  (∀ p : Port, ∀ c : Fin 4, ∀ j : Fin 4096, ∀ e : TSlot, s.fabricRuns = true → assoc (s.slots p.val c.val) j.val = some e → e.stale = true →
    Answers (.trackerQuarantineExpire (.port p c j)) s fun t => assoc (t.slots p.val c.val) j.val = none ∧ (∀ q : Nat, ∀ x < 4, q ≠ p.val ∨ x ≠ c.val →
    t.slots q x = s.slots q x) ∧ Frame [.fab] [] s t) ∧
  (∀ p : Port, ∀ c : Fin 4, ∀ j : Fin 4096, ∀ e : TSlot, s.fabricRuns = true → assoc (s.slots p.val c.val) j.val = some e → e.stale = false →
    Answers (.trackerQuarantineExpire (.port p c j)) s fun t => Frame [] [] s t)

/-- Parts of R114, R120 to R122, R133, R136, R138: a write of PORT_CTL holds a port with reason 1, its link down and out of use, releases it to train again, or retrains it; a
write of PORT_CFG that is not accepted has no effect, and of one that is, EN starts or ends the port; a mode of a port group applies only while its ports are disabled, and
then gives the ports it has; a change of CPRES is an event. Parts of R121, R131, R133, R156, R452: the link of a port. An entry to L0 from training or Recovery that meets no
hold condition shows the link in L0, and at the configured rate makes it up, with its event; one that meets a condition holds the port with the lowest code; a link that first
reached L0 but not its rate in time is held with reason 3; Recovery and L1 leave the link up; a loss takes it to Detect. Choices and readings of the model it rests on: log 80,
251 (DESIGN CHOICE); log 134, 141, 142 (DEDUCED). -/
def Obligations.PortsAndLinks : Prop := ∀ s : State, ∀ p : Port,
  (∀ m : Master, ∀ value : Word, s.takes m (0x10 + p.val / 4) = true → s.present p.val = true → s.portHeld p.val = false → value.toNat % 4 = 1 → s.portEn p.val = true →
    s.linkUp p.val = false → Answers (.portHold m p value) s fun t => t.portHeld p.val = true ∧ t.get (Fld.PORT_STATUS_HOLD_REASON p.val) = 1 ∧
    t.get (Fld.PORT_STATUS_LINK p.val) = 1 ∧ t.get (Evt.PORT_HELD p.val).field = 1 ∧
    (∀ f ∈ [Fld.PORT_STATUS_RATE p.val, Fld.PORT_STATUS_FLIT p.val, Fld.PORT_STATUS_CXL p.val, Fld.PORT_STATUS_CACHE p.val, Fld.PORT_STATUS_MEM p.val], t.get f = 0) ∧
    t.linkUp p.val = false ∧ Frame [.fab, .ctrs] ([Field.all (Addr.PORT_STATUS p.val), Field.all (Addr.PORT_CTL p.val),
    Field.all (Addr.PORT_DSX_STATUS p.val)] ++ [(Evt.PORT_HELD p.val).field] ++ ((s.portLanes p.val).flatMap fun i =>
    [Field.all (Addr.LANE_STATUS i), Field.all (Addr.LANE_EYE_STATUS i), (Evt.LANE_EYE_DONE i).field])) s t) ∧
  (∀ m : Master, ∀ value : Word, s.takes m (0x10 + p.val / 4) = true → s.present p.val = true → s.portHeld p.val = false → value.toNat % 4 = 1 → s.portEn p.val = true →
    s.linkUp p.val = true → s.boundTo p.val = [] → s.roleIs p.val 1 = true → Answers (.portHold m p value) s fun t => t.portHeld p.val = true ∧
    t.get (Fld.PORT_STATUS_HOLD_REASON p.val) = 1 ∧ t.get (Fld.PORT_STATUS_LINK p.val) = 1 ∧ t.get (Evt.PORT_HELD p.val).field = 1 ∧ t.get (Evt.PORT_LINK_DOWN p.val).field = 1 ∧
    (∀ f ∈ [Fld.PORT_STATUS_RATE p.val, Fld.PORT_STATUS_FLIT p.val, Fld.PORT_STATUS_CXL p.val, Fld.PORT_STATUS_CACHE p.val, Fld.PORT_STATUS_MEM p.val], t.get f = 0) ∧
    t.linkUp p.val = false ∧ ((.port p.val) ∈ t.fab.sw.flushes.map (·.1))) ∧
  (∀ m : Master, ∀ value : Word, s.takes m (0x10 + p.val / 4) = true → s.present p.val = true → s.portHeld p.val = true → value.toNat % 4 = 1 →
    Answers (.portHold m p value) s fun t => Frame [] [] s t) ∧
  (∀ m : Master, ∀ value : Word, s.takes m (0x10 + p.val / 4) = true → s.present p.val = true → s.portHeld p.val = true → value.toNat % 4 = 0 → s.portEn p.val = true →
    (∀ i ∈ s.portLanes p.val, s.testOp i = none ∧ i ∉ s.fab.lanes.cal) → Answers (.portRelease m p value) s fun t => t.portHeld p.val = false ∧
    t.get (Fld.PORT_STATUS_HOLD_REASON p.val) = 0 ∧ t.get (Fld.PORT_STATUS_LINK p.val) = 2 ∧ (∀ i ∈ s.portLanes p.val, t.get (Fld.LANE_STATUS_FAILED i) = 0 ∧
    t.get (Fld.LANE_STATUS_FAIL_CAUSE i) = 0) ∧ Frame [.fab] ([Fld.PORT_CTL_HOLD p.val, Fld.PORT_STATUS_HOLD_REASON p.val,
    Fld.PORT_STATUS_LINK p.val] ++ (s.portLanes p.val).flatMap fun i => [Fld.LANE_STATUS_FAILED i, Fld.LANE_STATUS_FAIL_CAUSE i]) s t) ∧
  (∀ m : Master, ∀ value : Word, s.takes m (0x10 + p.val / 4) = true → s.present p.val = true → s.portHeld p.val = false → value.toNat % 4 = 2 →
    (s.get (Fld.PORT_STATUS_LINK p.val) = 5 ∨ s.get (Fld.PORT_STATUS_LINK p.val) = 7) → Answers (.portRetrain m p value) s fun t => t.get (Fld.PORT_STATUS_LINK p.val) = 6 ∧
    t.linkUp p.val = s.linkUp p.val ∧ t.get (Fld.PORT_DSX_STATUS_TX p.val) = 0 ∧ t.get (Fld.PORT_DSX_STATUS_RX p.val) = 0 ∧
    Frame [.fab, .ctrs] ([Fld.PORT_STATUS_LINK p.val, Field.all (Addr.PORT_DSX_STATUS p.val), (Evt.PORT_DSX_WAKE p.val).field] ++ ((s.portLanes p.val).flatMap fun i =>
    [Field.all (Addr.LANE_STATUS i), Field.all (Addr.LANE_EYE_STATUS i), (Evt.LANE_EYE_DONE i).field])) s t) ∧
  (∀ m : Master, ∀ value : Word, s.takes m (0x10 + p.val / 4) = true → s.present p.val = true → s.portHeld p.val = false → value.toNat % 4 = 2 →
    s.get (Fld.PORT_STATUS_LINK p.val) = 6 → Answers (.portRetrain m p value) s fun t => Frame [] [] s t) ∧
  (∀ m : Master, ∀ value : Word, s.takes m (0x10 + p.val / 4) = true → s.present p.val = true → s.flag (Fld.PORTG_LOCK_LOCK (p.val / 4)) = false →
    portCfgOk (s.word (Addr.PORT_CFG p.val)).toNat (value.toNat % 8192 - bitsOf value.toNat 3 1 * 8 - bitsOf value.toNat 7 1 * 128) = false →
    Answers (.portCfgWrite m p value) s fun t => t.word (Addr.PORT_CFG p.val) = s.word (Addr.PORT_CFG p.val) ∧ Frame [] [] s t) ∧
  (∀ m : Master, ∀ value : Word, s.takes m (0x10 + p.val / 4) = true → s.present p.val = true → s.flag (Fld.PORTG_LOCK_LOCK (p.val / 4)) = false →
    portCfgOk (s.word (Addr.PORT_CFG p.val)).toNat (value.toNat % 8192 - bitsOf value.toNat 3 1 * 8 - bitsOf value.toNat 7 1 * 128) = true →
    s.flag (Fld.PORT_CFG_EN p.val) = false → value.getLsbD 0 = false → Answers (.portCfgWrite m p value) s fun t =>
    t.word (Addr.PORT_CFG p.val) = BitVec.ofNat 32 (value.toNat % 8192 - bitsOf value.toNat 3 1 * 8 - bitsOf value.toNat 7 1 * 128) ∧
    Frame [] [Field.all (Addr.PORT_CFG p.val)] s t) ∧
  (∀ m : Master, ∀ value : Word, s.takes m (0x10 + p.val / 4) = true → s.present p.val = true → s.flag (Fld.PORTG_LOCK_LOCK (p.val / 4)) = false →
    portCfgOk (s.word (Addr.PORT_CFG p.val)).toNat (value.toNat % 8192 - bitsOf value.toNat 3 1 * 8 - bitsOf value.toNat 7 1 * 128) = true →
    s.flag (Fld.PORT_CFG_EN p.val) = false → value.getLsbD 0 = true → s.portHeld p.val = false → 8 ≤ s.get Fld.BOOT_STATUS_STAGE → Answers (.portCfgWrite m p value) s fun t =>
    t.word (Addr.PORT_CFG p.val) = BitVec.ofNat 32 (value.toNat % 8192 - bitsOf value.toNat 3 1 * 8 - bitsOf value.toNat 7 1 * 128) ∧ t.get (Fld.PORT_STATUS_LINK p.val) = 9 ∧
    (∀ i ∈ t.portLanes p.val, i ∈ t.fab.lanes.cal) ∧ Frame [.fab] [Field.all (Addr.PORT_CFG p.val), Fld.PORT_STATUS_LINK p.val] s t) ∧
  (∀ m : Master, ∀ value : Word, s.takes m (0x10 + p.val / 4) = true → s.present p.val = true → s.flag (Fld.PORTG_LOCK_LOCK (p.val / 4)) = false →
    portCfgOk (s.word (Addr.PORT_CFG p.val)).toNat (value.toNat % 8192 - bitsOf value.toNat 3 1 * 8 - bitsOf value.toNat 7 1 * 128) = true →
    s.flag (Fld.PORT_CFG_EN p.val) = true → value.getLsbD 0 = false → s.linkUp p.val = false → Answers (.portCfgWrite m p value) s fun t =>
    t.flag (Fld.PORT_CFG_EN p.val) = false ∧ t.get (Fld.PORT_STATUS_LINK p.val) = 0 ∧ (∀ i ∈ s.portLanes p.val, i ∉ t.fab.lanes.cal) ∧
    (∀ f ∈ [Fld.PORT_STATUS_RATE p.val, Fld.PORT_STATUS_FLIT p.val, Fld.PORT_STATUS_CXL p.val, Fld.PORT_STATUS_CACHE p.val, Fld.PORT_STATUS_MEM p.val], t.get f = 0) ∧
    Frame [.fab, .ctrs] (Field.all (Addr.PORT_CFG p.val) :: [Field.all (Addr.PORT_STATUS p.val), Field.all (Addr.PORT_CTL p.val),
    Field.all (Addr.PORT_DSX_STATUS p.val)] ++ ((s.portLanes p.val).flatMap fun i =>
    [Field.all (Addr.LANE_STATUS i), Field.all (Addr.LANE_EYE_STATUS i), (Evt.LANE_EYE_DONE i).field])) s t) ∧
  (∀ m : Master, ∀ k : Pg, ∀ value : Word, s.takes m (0x10 + k.val) = true → s.flag (Fld.PORTG_LOCK_LOCK k.val) = false → value.toNat % 4 ≠ 3 →
    s.flag (Fld.PORTG_STATUS_APPLYING k.val) = false → (∀ j : Fin 4, s.portEn (4 * k.val + j.val) = false) → Answers (.bifurWrite m k value) s fun t =>
    t.get (Fld.PORTG_CFG_BIFUR k.val) = value.toNat % 4 ∧ t.flag (Fld.PORTG_STATUS_APPLYING k.val) = true ∧
    Frame [] [Fld.PORTG_CFG_BIFUR k.val, Fld.PORTG_STATUS_APPLYING k.val] s t) ∧
  (∀ m : Master, ∀ k : Pg, ∀ value : Word, s.takes m (0x10 + k.val) = true →
    ((∃ j : Fin 4, s.portEn (4 * k.val + j.val) = true) ∨ bitsOf value.toNat 0 2 = 3 ∨ s.flag (Fld.PORTG_STATUS_APPLYING k.val) = true) →
    Answers (.bifurWrite m k value) s fun t => Frame [] [] s t) ∧
  (∀ k : Pg, s.fabricRuns = true → s.flag (Fld.PORTG_STATUS_APPLYING k.val) = true → Answers (.bifurApplyDone k) s fun t =>
    t.get (Fld.PORTG_STATUS_BIFUR_ACT k.val) = s.get (Fld.PORTG_CFG_BIFUR k.val) ∧ t.flag (Fld.PORTG_STATUS_APPLYING k.val) = false ∧
    t.get (Fld.PORTG_STATUS_PRESENT k.val) = bifurPorts (s.get (Fld.PORTG_CFG_BIFUR k.val)) ∧ t.get (Evt.PORTG_BIFUR_DONE k.val).field = 1 ∧
    (∀ j : Fin 4, t.present (4 * k.val + j.val) = false → t.word (Addr.PORT_CFG (4 * k.val + j.val)) = resetWord (Addr.PORT_CFG (4 * k.val + j.val))) ∧
    Frame [.fab] ([Field.all (Addr.PORTG_STATUS k.val), (Evt.PORTG_BIFUR_DONE k.val).field] ++ (List.range 4).flatMap fun j => (List.range 7).map fun i =>
    Field.all (Addr.PORT_CFG (4 * k.val + j) + 4 * i)) s t) ∧
  (∀ k : Pg, ∀ low : Bool, s.clk.cpres.contains k.val ≠ low → Answers (.cpresChange k low) s fun t => (k.val ∈ t.clk.cpres ↔ low = true) ∧
    t.get (Evt.PORTG_CPRES_CHG k.val).field = 1 ∧ Frame [.clk] [(Evt.PORTG_CPRES_CHG k.val).field] s t) ∧
  (∀ e : L0Entry, s.fabricRuns = true → s.trains = true → s.portEn p.val = true → s.portHeld p.val = false →
    (s.get (Fld.PORT_STATUS_LINK p.val) = 2 ∨ s.get (Fld.PORT_STATUS_LINK p.val) = 6) → e.lanes < 32 → e.rate < 8 → e.flit < 4 → s.l0Reason p.val e = none →
    e.rate = s.get (Fld.PORT_CFG_RATE p.val) → s.linkUp p.val = false → s.flag (Fld.PORT_CFG_DSX_EN p.val) = false → Answers (.linkL0Entry p e) s fun t =>
    t.get (Fld.PORT_STATUS_LINK p.val) = 5 ∧ t.linkUp p.val = true ∧ t.get (Evt.PORT_LINK_UP p.val).field = 1 ∧ t.portHeld p.val = false ∧
    t.get (Fld.PORT_STATUS_RATE p.val) = e.rate ∧ t.get (Fld.PORT_STATUS_FLIT p.val) = e.flit ∧ t.get (Fld.PORT_STATUS_MEM p.val) = bit e.mem ∧
    t.get (Fld.PORT_STATUS_WIDTH p.val) = e.lanes) ∧
  (∀ e : L0Entry, s.fabricRuns = true → s.trains = true → s.portEn p.val = true → s.portHeld p.val = false →
    (s.get (Fld.PORT_STATUS_LINK p.val) = 2 ∨ s.get (Fld.PORT_STATUS_LINK p.val) = 6) → e.lanes < 32 → e.rate < 8 → e.flit < 4 → s.l0Reason p.val e = none →
    e.rate = s.get (Fld.PORT_CFG_RATE p.val) → s.linkUp p.val = false → s.flag (Fld.PORT_CFG_DSX_EN p.val) = true → 2 ≤ e.flit → s.roleIs p.val 0 = true →
    Answers (.linkL0Entry p e) s fun t => t.get (Fld.PORT_STATUS_LINK p.val) = 5 ∧ ((.dsx p.val (dsxMessage .hello 1 s.clk.straps.modId.val 0x31)) ∈ t.out)) ∧
  (∀ e : L0Entry, s.fabricRuns = true → s.trains = true → s.portEn p.val = true → s.portHeld p.val = false →
    (s.get (Fld.PORT_STATUS_LINK p.val) = 2 ∨ s.get (Fld.PORT_STATUS_LINK p.val) = 6) → e.lanes < 32 → e.rate < 8 → e.flit < 4 → s.l0Reason p.val e = none →
    e.rate < s.get (Fld.PORT_CFG_RATE p.val) → Answers (.linkL0Entry p e) s fun t => t.get (Fld.PORT_STATUS_LINK p.val) = 5 ∧ t.linkUp p.val = s.linkUp p.val ∧
    (t.portX p.val).first = true ∧ t.get (Fld.PORT_STATUS_RATE p.val) = e.rate ∧ t.get (Fld.PORT_STATUS_FLIT p.val) = e.flit ∧ t.get (Fld.PORT_STATUS_MEM p.val) = bit e.mem ∧
    t.get (Fld.PORT_STATUS_WIDTH p.val) = e.lanes) ∧
  (∀ e : L0Entry, ∀ r : Nat, s.fabricRuns = true → s.trains = true → s.portEn p.val = true → s.portHeld p.val = false →
    (s.get (Fld.PORT_STATUS_LINK p.val) = 2 ∨ s.get (Fld.PORT_STATUS_LINK p.val) = 6) → e.lanes < 32 → e.rate < 8 → e.flit < 4 → s.l0Reason p.val e = some r →
    Answers (.linkL0Entry p e) s fun t => t.portHeld p.val = true ∧ t.get (Fld.PORT_STATUS_HOLD_REASON p.val) = r ∧ t.get (Fld.PORT_STATUS_LINK p.val) = 1 ∧
    t.get (Evt.PORT_HELD p.val).field = 1 ∧ t.linkUp p.val = false ∧ t.counter (Ctr.PORT p.val 8) = s.counter (Ctr.PORT p.val 8) + 1) ∧
  (s.fabricRuns = true → s.portEn p.val = true → (s.portX p.val).first = true → (s.portX p.val).reached = false → s.portHeld p.val = false →
    Answers (.rateCheckTimeout p) s fun t => t.portHeld p.val = true ∧ t.get (Fld.PORT_STATUS_HOLD_REASON p.val) = 3 ∧ t.get (Fld.PORT_STATUS_LINK p.val) = 1) ∧
  (s.fabricRuns = true → (s.portX p.val).reached = true → Answers (.rateCheckTimeout p) s fun t => Frame [] [] s t) ∧
  (s.fabricRuns = true → (s.get (Fld.PORT_STATUS_LINK p.val) = 5 ∨ s.get (Fld.PORT_STATUS_LINK p.val) = 7 ∨ s.get (Fld.PORT_STATUS_LINK p.val) = 8) →
    Answers (.linkRecoveryEntry p) s fun t => t.get (Fld.PORT_STATUS_LINK p.val) = 6 ∧ t.linkUp p.val = s.linkUp p.val ∧
    Frame [.fab, .ctrs] ([Fld.PORT_STATUS_LINK p.val, Field.all (Addr.PORT_DSX_STATUS p.val), (Evt.PORT_DSX_WAKE p.val).field] ++ ((s.portLanes p.val).flatMap fun i =>
    [Field.all (Addr.LANE_STATUS i), Field.all (Addr.LANE_EYE_STATUS i), (Evt.LANE_EYE_DONE i).field])) s t) ∧
  (s.fabricRuns = true → 5 ≤ s.get (Fld.PORT_STATUS_LINK p.val) → s.get (Fld.PORT_STATUS_LINK p.val) ≤ 8 → s.linkUp p.val = true → Answers (.linkLoss p) s fun t =>
    t.get (Fld.PORT_STATUS_LINK p.val) = 2 ∧ t.linkUp p.val = false ∧ t.get (Evt.PORT_LINK_DOWN p.val).field = 1 ∧ (t.portX p.val).first = false ∧
    (t.portX p.val).reached = false ∧ (∀ f ∈ [Fld.PORT_STATUS_RATE p.val, Fld.PORT_STATUS_FLIT p.val, Fld.PORT_STATUS_CXL p.val, Fld.PORT_STATUS_CACHE p.val,
    Fld.PORT_STATUS_MEM p.val], t.get f = 0)) ∧
  (s.fabricRuns = true → 5 ≤ s.get (Fld.PORT_STATUS_LINK p.val) → s.get (Fld.PORT_STATUS_LINK p.val) ≤ 8 → s.linkUp p.val = false → Answers (.linkLoss p) s fun t =>
    t.get (Fld.PORT_STATUS_LINK p.val) = 2 ∧ (∀ f ∈ [Fld.PORT_STATUS_RATE p.val, Fld.PORT_STATUS_FLIT p.val, Fld.PORT_STATUS_CXL p.val, Fld.PORT_STATUS_CACHE p.val,
    Fld.PORT_STATUS_MEM p.val], t.get f = 0) ∧ Frame [.fab, .ctrs] ([Field.all (Addr.PORT_STATUS p.val), Field.all (Addr.PORT_CTL p.val),
    Field.all (Addr.PORT_DSX_STATUS p.val)] ++ ((s.portLanes p.val).flatMap fun i =>
    [Field.all (Addr.LANE_STATUS i), Field.all (Addr.LANE_EYE_STATUS i), (Evt.LANE_EYE_DONE i).field])) s t) ∧
  (s.fabricRuns = true → (s.get (Fld.PORT_STATUS_LINK p.val) = 5 ∨ s.get (Fld.PORT_STATUS_LINK p.val) = 7) → Answers (.linkL1Entry p) s fun t =>
    t.get (Fld.PORT_STATUS_LINK p.val) = 8 ∧ t.linkUp p.val = s.linkUp p.val ∧ (∀ i ∈ s.portLanes p.val, t.get (Fld.LANE_STATUS_SIG_DET i) = 0 ∧
    t.get (Fld.LANE_STATUS_CDR_LOCK i) = 0) ∧ Frame [] (Fld.PORT_STATUS_LINK p.val :: ((s.portLanes p.val).flatMap fun i =>
    [Field.all (Addr.LANE_STATUS i), Field.all (Addr.LANE_EYE_STATUS i), (Evt.LANE_EYE_DONE i).field])) s t) ∧
  (∀ x : Fin 17, s.fabricRuns = true → (s.get (Fld.PORT_STATUS_LINK p.val) = 5 ∨ s.get (Fld.PORT_STATUS_LINK p.val) = 7) → 0 < x.val → x.val ≤ s.portWidth p.val →
    Answers (.linkL0pChange p x) s fun t => t.get (Fld.PORT_STATUS_LINK p.val) = (if x.val = s.portWidth p.val then 5 else 7) ∧
    (∀ i ∈ s.portLanes p.val, t.get (Fld.LANE_STATUS_SIG_DET i) = bit (decide (i < 4 * p.val + x.val))) ∧
    Frame [.fab] (Fld.PORT_STATUS_LINK p.val :: ((s.portLanes p.val).flatMap fun i =>
    [Field.all (Addr.LANE_STATUS i), Field.all (Addr.LANE_EYE_STATUS i), (Evt.LANE_EYE_DONE i).field])) s t)

/-- Parts of R124, R126 to R128, R131, R132: how directional sleep is agreed. HELLO and HELLO_ACK negotiate it, with the ends of an ISL told apart by their identifiers; a
request, at a command or at an idle time, is put out and outstanding until its answer, which moves its direction on or gives the reason of the refusal; a request of the
partner is answered, refused where the module's own end goes first or data waits, and a message that matches nothing is discarded and counted; a third time-out in a row ends
it. Whether the link layer owes anything is open (maySleep), so what depends on it is stated for both cases. Parts of R128 to R130, R137, R138: how a direction sleeps and
wakes. A receiver that sees the idle set is ASLEEP, with its event; a command, a flit, the retention time or a request of the partner starts the preamble of a sleeping
transmitter, and its end leaves it AWAKE; the receiver goes from its signal over WAKING to AWAKE with the first flit. Choices and readings of the model it rests on: log 13,
80, 145 (DESIGN CHOICE); log 134, 147, 222 (DEDUCED). -/
def Obligations.DirectionalSleep : Prop := ∀ s : State, ∀ p : Port, s.fabricRuns = true → s.linkUp p.val = true → s.get (Fld.PORT_STATUS_LINK p.val) ≠ 6 →
  (∀ q : Vdm, s.flag (Fld.PORT_CFG_DSX_EN p.val) = true → 2 ≤ s.get (Fld.PORT_STATUS_FLIT p.val) → q.headed .localReceiver = true → q.proto = 0xD5 → q.op = DsxOp.hello.code →
    1 ≤ q.ver → q.arg % 16 ≤ 1 → s.dsxNeg p.val = false → Answers (.dsxHelloRx p q) s fun t => t.out = [.dsx p.val (dsxMessage .helloAck 1 s.clk.straps.modId.val 0x31)] ∧
    Frame [.out] [] s t) ∧
  (∀ q : Vdm, s.flag (Fld.PORT_CFG_DSX_EN p.val) = true → 2 ≤ s.get (Fld.PORT_STATUS_FLIT p.val) → q.headed .localReceiver = true → q.proto = 0xD5 → q.op = DsxOp.hello.code →
    1 ≤ q.ver → q.arg % 16 ≤ 1 → s.dsxNeg p.val = true → Answers (.dsxHelloRx p q) s fun t => t.out = [.dsx p.val (dsxMessage .helloAck 1 s.clk.straps.modId.val 0x31)] ∧
    t.dsxTx p.val = 0 ∧ t.dsxRx p.val = 0 ∧ (t.portX p.val).txSeq = none ∧ (t.portX p.val).rxSeq = none ∧ (3 ≤ s.dsxTx p.val ∨ 3 ≤ s.dsxRx p.val →
    t.get (Evt.PORT_DSX_WAKE p.val).field = 1) ∧ t.counter (Ctr.PORT p.val 11) = s.counter (Ctr.PORT p.val 11) + (if 3 ≤ s.dsxTx p.val then 1 else 0) ∧
    t.counter (Ctr.PORT p.val 12) = s.counter (Ctr.PORT p.val 12) + (if 3 ≤ s.dsxRx p.val then 1 else 0) ∧ (3 ≤ s.dsxRx p.val →
    (∀ i ∈ s.portLanes p.val, t.get (Fld.LANE_STATUS_SIG_DET i) = 1)) ∧
    Frame [.out, .fab, .ctrs] ([Fld.PORT_DSX_STATUS_TX p.val, Fld.PORT_DSX_STATUS_RX p.val, (Evt.PORT_DSX_WAKE p.val).field] ++ ((s.portLanes p.val).flatMap fun i =>
    [Field.all (Addr.LANE_STATUS i), Field.all (Addr.LANE_EYE_STATUS i)])) s t) ∧
  (∀ q : Vdm, s.flag (Fld.PORT_CFG_DSX_EN p.val) = true → 2 ≤ s.get (Fld.PORT_STATUS_FLIT p.val) → q.headed .localReceiver = true → q.proto = 0xD5 → q.op = DsxOp.hello.code →
    (q.ver < 1 ∨ 1 < q.arg % 16) → Answers (.dsxHelloRx p q) s fun t => t.counter (Ctr.PORT p.val 15) = s.counter (Ctr.PORT p.val 15) + 1 ∧ Frame [.ctrs] [] s t) ∧
  (∀ q : Vdm, q.headed .localReceiver = true → q.proto = 0xD5 → q.op = DsxOp.helloAck.code → q.ver = 1 → (s.portX p.val).hello = true →
    (s.get (Fld.PORT_CFG_ROLE p.val) ≠ 2 ∨ s.clk.straps.modId.val ≠ q.seq) → Answers (.dsxHelloAckRx p q) s fun t => t.dsxNeg p.val = true ∧
    t.get (Fld.PORT_DSX_STATUS_VER p.val) = 1 ∧
    t.flag (Fld.PORT_DSX_STATUS_UPSTREAM p.val) = (decide (s.get (Fld.PORT_CFG_ROLE p.val) = 0) || (decide (s.get (Fld.PORT_CFG_ROLE p.val) = 2) && decide (s.clk.straps.modId.val < q.seq))) ∧
    Frame [.fab] [Fld.PORT_DSX_STATUS_NEG p.val, Fld.PORT_DSX_STATUS_VER p.val, Fld.PORT_DSX_STATUS_UPSTREAM p.val, Fld.PORT_DSX_STATUS_TIMEOUTS p.val] s t) ∧
  (∀ q : Vdm, q.headed .localReceiver = true → q.proto = 0xD5 → q.op = DsxOp.helloAck.code → q.ver = 1 → (s.portX p.val).hello = true → s.get (Fld.PORT_CFG_ROLE p.val) = 2 →
    s.clk.straps.modId.val = q.seq → Answers (.dsxHelloAckRx p q) s fun t => t.get (Evt.PORT_DSX_ERR p.val).field = 1 ∧ t.dsxNeg p.val = s.dsxNeg p.val ∧
    Frame [.fab] [(Evt.PORT_DSX_ERR p.val).field] s t) ∧
  ((s.portX p.val).hello = true → Answers (.dsxHelloTimeout p) s fun t => (t.portX p.val).hello = false ∧ t.dsxNeg p.val = s.dsxNeg p.val ∧ Frame [.fab] [] s t) ∧
  (∀ q : Vdm, q.headed .localReceiver = true → (q.proto ≠ 0xD5 ∨ q.op ≠ DsxOp.hello.code) → Answers (.dsxHelloRx p q) s fun t =>
    t.counter (Ctr.PORT p.val 15) = s.counter (Ctr.PORT p.val 15) + 1 ∧ t.out = [] ∧ Frame [.ctrs] [] s t) ∧
  (∀ q : Vdm, q.headed .localReceiver = false → Answers (.dsxHelloRx p q) s fun t => Frame [] [] s t) ∧
  (∀ q : Vdm, q.headed .localReceiver = true → (q.proto ≠ 0xD5 ∨ q.op ≠ DsxOp.helloAck.code ∨ q.ver ≠ 1) → Answers (.dsxHelloAckRx p q) s fun t =>
    t.counter (Ctr.PORT p.val 15) = s.counter (Ctr.PORT p.val 15) + 1 ∧ t.out = [] ∧ Frame [.ctrs] [] s t) ∧
  (∀ q : Vdm, q.headed .localReceiver = false → Answers (.dsxHelloAckRx p q) s fun t => Frame [] [] s t) ∧
  (∀ q : Vdm, q.headed .localReceiver = true → (q.proto ≠ 0xD5 ∨ q.op ≠ DsxOp.sleepReq.code ∨ q.ver ≠ 1) → Answers (.dsxSleepReqRx p q) s fun t =>
    t.counter (Ctr.PORT p.val 15) = s.counter (Ctr.PORT p.val 15) + 1 ∧ t.out = [] ∧ Frame [.ctrs] [] s t) ∧
  (∀ q : Vdm, q.headed .localReceiver = false → Answers (.dsxSleepReqRx p q) s fun t => Frame [] [] s t) ∧
  (∀ q : Vdm, q.headed .localReceiver = true → (q.proto ≠ 0xD5 ∨ q.op ≠ DsxOp.sleepAck.code ∨ q.ver ≠ 1) → Answers (.dsxSleepAckRx p q) s fun t =>
    t.counter (Ctr.PORT p.val 15) = s.counter (Ctr.PORT p.val 15) + 1 ∧ t.out = [] ∧ Frame [.ctrs] [] s t) ∧
  (∀ q : Vdm, q.headed .localReceiver = false → Answers (.dsxSleepAckRx p q) s fun t => Frame [] [] s t) ∧
  (∀ q : Vdm, q.headed .localReceiver = true → (q.proto ≠ 0xD5 ∨ q.op ≠ DsxOp.sleepNak.code ∨ q.ver ≠ 1) → Answers (.dsxSleepNakRx p q) s fun t =>
    t.counter (Ctr.PORT p.val 15) = s.counter (Ctr.PORT p.val 15) + 1 ∧ t.out = [] ∧ Frame [.ctrs] [] s t) ∧
  (∀ q : Vdm, q.headed .localReceiver = false → Answers (.dsxSleepNakRx p q) s fun t => Frame [] [] s t) ∧
  (∀ q : Vdm, q.headed .localReceiver = true → (q.proto ≠ 0xD5 ∨ q.op ≠ DsxOp.wakeReq.code ∨ q.ver ≠ 1) → Answers (.dsxWakeReqRx p q) s fun t =>
    t.counter (Ctr.PORT p.val 15) = s.counter (Ctr.PORT p.val 15) + 1 ∧ t.out = [] ∧ Frame [.ctrs] [] s t) ∧
  (∀ q : Vdm, q.headed .localReceiver = false → Answers (.dsxWakeReqRx p q) s fun t => Frame [] [] s t) ∧
  (∀ m : Master, ∀ value : Word, s.takes m (0x10 + p.val / 4) = true → s.present p.val = true → value.toNat % 8 = 1 → s.dsxNeg p.val = true → s.dsxTx p.val = 0 →
    Answers (.dsxCmdTxSleep m p value) s fun t => (s.maySleep p.val = true → (.dsx p.val (dsxMessage .sleepReq 1 (s.portX p.val).seq 0)) ∈ t.out ∧ t.dsxTx p.val = 1 ∧
    (t.portX p.val).txSeq = some (s.portX p.val).seq) ∧ (s.maySleep p.val = false → t.dsxTx p.val = 0 ∧ t.out = []) ∧
    Frame [.out, .fab, .free] [Fld.PORT_DSX_STATUS_TX p.val] s t) ∧
  (∀ m : Master, ∀ value : Word, s.takes m (0x10 + p.val / 4) = true → s.present p.val = true → value.toNat % 8 = 2 → s.dsxNeg p.val = true → s.dsxRx p.val = 0 →
    s.dsxTx p.val = 0 → Answers (.dsxCmdRxSleep m p value) s fun t => ((.dsx p.val (dsxMessage .sleepReq 1 (s.portX p.val).seq 1)) ∈ t.out) ∧ t.dsxRx p.val = 1 ∧
    (t.portX p.val).rxSeq = some (s.portX p.val).seq ∧ Frame [.out, .fab] [Fld.PORT_DSX_STATUS_RX p.val] s t) ∧
  (s.get (Fld.PORT_DSX_CFG_TX_IDLE p.val) ≠ 0 → s.dsxNeg p.val = true → s.dsxTx p.val = 0 → Answers (.dsxTxIdleExpire p) s fun t => (s.maySleep p.val = true →
    (.dsx p.val (dsxMessage .sleepReq 1 (s.portX p.val).seq 0)) ∈ t.out ∧ t.dsxTx p.val = 1 ∧ (t.portX p.val).txSeq = some (s.portX p.val).seq) ∧ (s.maySleep p.val = false →
    t.dsxTx p.val = 0 ∧ t.out = []) ∧ Frame [.out, .fab, .free] [Fld.PORT_DSX_STATUS_TX p.val] s t) ∧
  (s.get (Fld.PORT_DSX_CFG_RX_IDLE p.val) ≠ 0 → s.dsxNeg p.val = true → s.dsxRx p.val = 0 → s.dsxTx p.val = 0 → Answers (.dsxRxIdleExpire p) s fun t =>
    ((.dsx p.val (dsxMessage .sleepReq 1 (s.portX p.val).seq 1)) ∈ t.out) ∧ t.dsxRx p.val = 1 ∧ (t.portX p.val).rxSeq = some (s.portX p.val).seq ∧
    Frame [.out, .fab] [Fld.PORT_DSX_STATUS_RX p.val] s t) ∧
  (∀ q : Vdm, q.headed .localReceiver = true → q.proto = 0xD5 → q.op = DsxOp.sleepReq.code → q.ver = 1 → s.dsxNeg p.val = false → s.dsxTx p.val = 0 →
    Answers (.dsxSleepReqRx p q) s fun t => t.out = [.dsx p.val (dsxMessage .sleepNak 1 q.seq (q.arg % 2 + 2 * 3))] ∧ Frame [.out] [] s t) ∧
  (∀ q : Vdm, q.headed .localReceiver = true → q.proto = 0xD5 → q.op = DsxOp.sleepReq.code → q.ver = 1 → s.dsxNeg p.val = true → s.dsxTx p.val = 0 →
    (s.get (Fld.PORT_STATUS_LINK p.val) = 7 ∨ s.get (Fld.PORT_STATUS_LINK p.val) = 8) → Answers (.dsxSleepReqRx p q) s fun t =>
    t.out = [.dsx p.val (dsxMessage .sleepNak 1 q.seq (q.arg % 2 + 2 * 4))] ∧ Frame [.out] [] s t) ∧
  (∀ q : Vdm, q.headed .localReceiver = true → q.proto = 0xD5 → q.op = DsxOp.sleepReq.code → q.ver = 1 → s.dsxNeg p.val = true → s.get (Fld.PORT_STATUS_LINK p.val) = 5 →
    s.dsxTx p.val = 1 → ((s.portX p.val).txSeq ≠ none ∨ (s.portX p.val).rxSeq ≠ none) → s.flag (Fld.PORT_DSX_STATUS_UPSTREAM p.val) = true →
    Answers (.dsxSleepReqRx p q) s fun t => t.out = [.dsx p.val (dsxMessage .sleepNak 1 q.seq (q.arg % 2 + 2 * 2))] ∧ t.dsxTx p.val = 1 ∧ Frame [.out] [] s t) ∧
  (∀ q : Vdm, ∀ k : Nat, q.headed .localReceiver = true → q.proto = 0xD5 → q.op = DsxOp.sleepReq.code → q.ver = 1 → s.dsxNeg p.val = true →
    s.get (Fld.PORT_STATUS_LINK p.val) = 5 → s.dsxTx p.val = 1 → (s.portX p.val).txSeq = some k → s.flag (Fld.PORT_DSX_STATUS_UPSTREAM p.val) = false → q.arg % 2 = 0 →
    s.dsxRx p.val = 0 → Answers (.dsxSleepReqRx p q) s fun t => t.out = [.dsx p.val (dsxMessage .sleepAck 1 q.seq 0)] ∧ t.dsxTx p.val = 0 ∧ t.dsxRx p.val = 2 ∧
    (t.portX p.val).txSeq = none ∧ ((false, k) ∈ (t.portX p.val).withdrawn) ∧ Frame [.out, .fab] [Fld.PORT_DSX_STATUS_TX p.val, Fld.PORT_DSX_STATUS_RX p.val] s t) ∧
  (∀ q : Vdm, q.headed .localReceiver = true → q.proto = 0xD5 → q.op = DsxOp.sleepReq.code → q.ver = 1 → s.dsxNeg p.val = true → s.get (Fld.PORT_STATUS_LINK p.val) = 5 →
    (s.portX p.val).txSeq = none → (s.portX p.val).rxSeq = none → q.arg % 2 = 0 → s.dsxTx p.val = 0 → s.dsxRx p.val = 0 → Answers (.dsxSleepReqRx p q) s fun t =>
    t.out = [.dsx p.val (dsxMessage .sleepAck 1 q.seq 0)] ∧ t.dsxRx p.val = 2 ∧ t.dsxTx p.val = 0 ∧ Frame [.out, .fab] [Fld.PORT_DSX_STATUS_RX p.val] s t) ∧
  (∀ q : Vdm, q.headed .localReceiver = true → q.proto = 0xD5 → q.op = DsxOp.sleepReq.code → q.ver = 1 → s.dsxNeg p.val = true → s.get (Fld.PORT_STATUS_LINK p.val) = 5 →
    (s.portX p.val).txSeq = none → (s.portX p.val).rxSeq = none → q.arg % 2 = 1 → s.dsxTx p.val = 0 → Answers (.dsxSleepReqRx p q) s fun t => (s.maySleep p.val = true →
    t.out = [.dsx p.val (dsxMessage .sleepAck 1 q.seq 1)] ∧ t.dsxTx p.val = 2) ∧ (s.maySleep p.val = false → t.out = [.dsx p.val (dsxMessage .sleepNak 1 q.seq 3)] ∧
    t.dsxTx p.val = 0) ∧ Frame [.out, .fab, .free] [Fld.PORT_DSX_STATUS_TX p.val] s t) ∧
  (∀ q : Vdm, q.headed .localReceiver = true → q.proto = 0xD5 → q.op = DsxOp.sleepAck.code → q.ver = 1 → s.dsxNeg p.val = true → q.arg % 2 = 0 →
    (s.portX p.val).txSeq = some q.seq → Answers (.dsxSleepAckRx p q) s fun t => (t.portX p.val).txSeq = none ∧ t.dsxTx p.val = 2 ∧
    Frame [.fab] [Fld.PORT_DSX_STATUS_TIMEOUTS p.val, Fld.PORT_DSX_STATUS_TX p.val] s t) ∧
  (∀ q : Vdm, q.headed .localReceiver = true → q.proto = 0xD5 → q.op = DsxOp.sleepAck.code → q.ver = 1 → s.dsxNeg p.val = true → q.arg % 2 = 1 →
    (s.portX p.val).rxSeq = some q.seq → Answers (.dsxSleepAckRx p q) s fun t => (t.portX p.val).rxSeq = none ∧ t.dsxRx p.val = 2 ∧
    Frame [.fab] [Fld.PORT_DSX_STATUS_TIMEOUTS p.val, Fld.PORT_DSX_STATUS_RX p.val] s t) ∧
  (∀ q : Vdm, q.headed .localReceiver = true → q.proto = 0xD5 → q.op = DsxOp.sleepAck.code → q.ver = 1 → q.arg % 2 = 0 → (s.portX p.val).txSeq ≠ some q.seq →
    ((false, q.seq) ∉ (s.portX p.val).withdrawn) → Answers (.dsxSleepAckRx p q) s fun t => t.counter (Ctr.PORT p.val 15) = s.counter (Ctr.PORT p.val 15) + 1 ∧
    Frame [.ctrs] [] s t) ∧
  (∀ q : Vdm, q.headed .localReceiver = true → q.proto = 0xD5 → q.op = DsxOp.sleepAck.code → q.ver = 1 → q.arg % 2 = 0 → (s.portX p.val).txSeq ≠ some q.seq →
    (s.portX p.val).withdrawn = [(false, q.seq)] → Answers (.dsxSleepAckRx p q) s fun t => (t.portX p.val).withdrawn = [] ∧ Frame [.fab] [] s t) ∧
  (∀ q : Vdm, q.headed .localReceiver = true → q.proto = 0xD5 → q.op = DsxOp.sleepNak.code → q.ver = 1 → s.dsxNeg p.val = true → q.arg % 2 = 0 →
    (s.portX p.val).txSeq = some q.seq → Answers (.dsxSleepNakRx p q) s fun t => (t.portX p.val).txSeq = none ∧ t.dsxTx p.val = 0 ∧
    t.get (Fld.PORT_DSX_STATUS_LAST_NAK p.val) = bitsOf q.arg 1 3 ∧
    Frame [.fab] [Fld.PORT_DSX_STATUS_TIMEOUTS p.val, Fld.PORT_DSX_STATUS_TX p.val, Fld.PORT_DSX_STATUS_LAST_NAK p.val] s t) ∧
  (∀ q : Vdm, q.headed .localReceiver = true → q.proto = 0xD5 → q.op = DsxOp.sleepNak.code → q.ver = 1 → s.dsxNeg p.val = true → q.arg % 2 = 1 →
    (s.portX p.val).rxSeq = some q.seq → Answers (.dsxSleepNakRx p q) s fun t => (t.portX p.val).rxSeq = none ∧ t.dsxRx p.val = 0 ∧
    t.get (Fld.PORT_DSX_STATUS_LAST_NAK p.val) = bitsOf q.arg 1 3 ∧
    Frame [.fab] [Fld.PORT_DSX_STATUS_TIMEOUTS p.val, Fld.PORT_DSX_STATUS_RX p.val, Fld.PORT_DSX_STATUS_LAST_NAK p.val] s t) ∧
  ((s.portX p.val).txSeq ≠ none → s.get (Fld.PORT_DSX_STATUS_TIMEOUTS p.val) < 2 → Answers (.dsxRequestTimeout p false) s fun t => t.dsxTx p.val = 0 ∧
    (t.portX p.val).txSeq = none ∧ t.get (Fld.PORT_DSX_STATUS_TIMEOUTS p.val) = s.get (Fld.PORT_DSX_STATUS_TIMEOUTS p.val) + 1 ∧ t.get (Evt.PORT_DSX_ERR p.val).field = 1 ∧
    t.dsxNeg p.val = s.dsxNeg p.val ∧ Frame [.fab] [Fld.PORT_DSX_STATUS_TIMEOUTS p.val, Fld.PORT_DSX_STATUS_TX p.val, (Evt.PORT_DSX_ERR p.val).field] s t) ∧
  ((s.portX p.val).rxSeq ≠ none → 2 ≤ s.get (Fld.PORT_DSX_STATUS_TIMEOUTS p.val) → Answers (.dsxRequestTimeout p true) s fun t => t.dsxNeg p.val = false ∧ t.dsxTx p.val = 0 ∧
    t.dsxRx p.val = 0 ∧ t.get (Evt.PORT_DSX_ERR p.val).field = 1 ∧
    Frame [.fab, .ctrs] [Field.all (Addr.PORT_DSX_STATUS p.val), (Evt.PORT_DSX_ERR p.val).field, (Evt.PORT_DSX_WAKE p.val).field] s t) ∧
  (s.dsxRx p.val = 2 → Answers (.dsxEiosqRx p) s fun t => t.dsxRx p.val = 3 ∧ t.get (Evt.PORT_DSX_SLEEP p.val).field = 1 ∧ (t.portX p.val).rxSince = s.now ∧
    (∀ i ∈ s.portLanes p.val, t.get (Fld.LANE_STATUS_SIG_DET i) = 0) ∧
    Frame [.fab, .ctrs] ([Fld.PORT_DSX_STATUS_RX p.val, (Evt.PORT_DSX_SLEEP p.val).field] ++ ((s.portLanes p.val).flatMap fun i =>
    [Field.all (Addr.LANE_STATUS i), Field.all (Addr.LANE_EYE_STATUS i)])) s t) ∧
  (s.dsxRx p.val = 3 → Answers (.dsxRxSignalDetect p) s fun t => t.dsxRx p.val = 4 ∧ (∀ i ∈ s.portLanes p.val, t.get (Fld.LANE_STATUS_SIG_DET i) = 1) ∧
    t.counter (Ctr.PORT p.val 14) = s.counter (Ctr.PORT p.val 14) + BitVec.ofNat 64 (s.now - (s.portX p.val).rxSince) ∧
    Frame [.fab, .ctrs] (Fld.PORT_DSX_STATUS_RX p.val :: ((s.portLanes p.val).flatMap fun i => [Field.all (Addr.LANE_STATUS i), Field.all (Addr.LANE_EYE_STATUS i)])) s t) ∧
  (s.dsxRx p.val = 4 → Answers (.dsxRxFirstFlit p) s fun t => t.dsxRx p.val = 0 ∧ t.get (Evt.PORT_DSX_WAKE p.val).field = 1 ∧
    (∀ i ∈ s.portLanes p.val, t.get (Fld.LANE_STATUS_SIG_DET i) = 1) ∧
    Frame [.ctrs] ([Fld.PORT_DSX_STATUS_RX p.val, (Evt.PORT_DSX_WAKE p.val).field] ++ ((s.portLanes p.val).flatMap fun i =>
    [Field.all (Addr.LANE_STATUS i), Field.all (Addr.LANE_EYE_STATUS i)])) s t) ∧
  (s.dsxRx p.val = 2 → Answers (.dsxRxFirstFlit p) s fun t => t.dsxRx p.val = 0 ∧ Frame [] [Fld.PORT_DSX_STATUS_RX p.val] s t) ∧
  (∀ m : Master, ∀ value : Word, s.takes m (0x10 + p.val / 4) = true → s.present p.val = true → s.dsxNeg p.val = true → value.toNat % 8 = 3 → s.dsxTx p.val = 3 →
    Answers (.dsxCmdTxWake m p value) s fun t => t.dsxTx p.val = 4 ∧
    t.counter (Ctr.PORT p.val 13) = s.counter (Ctr.PORT p.val 13) + BitVec.ofNat 64 (s.now - (s.portX p.val).txSince) ∧ Frame [.ctrs] [Fld.PORT_DSX_STATUS_TX p.val] s t) ∧
  (∀ m : Master, ∀ value : Word, s.takes m (0x10 + p.val / 4) = true → s.present p.val = true → s.dsxNeg p.val = true → value.toNat % 8 = 4 → s.dsxTx p.val = 0 →
    Answers (.dsxCmdRxWake m p value) s fun t => t.out = [.dsx p.val (dsxMessage .wakeReq 1 0 0)] ∧ Frame [.out] [] s t) ∧
  (∀ m : Master, ∀ value : Word, s.takes m (0x10 + p.val / 4) = true → s.present p.val = true → s.dsxNeg p.val = false → Answers (.dsxCmdRxWake m p value) s fun t =>
    Frame [] [] s t) ∧
  (∀ q : Vdm, q.headed .localReceiver = true → q.proto = 0xD5 → q.op = DsxOp.wakeReq.code → q.ver = 1 → s.dsxNeg p.val = true → s.dsxTx p.val = 3 →
    Answers (.dsxWakeReqRx p q) s fun t => t.dsxTx p.val = 4 ∧ t.counter (Ctr.PORT p.val 13) = s.counter (Ctr.PORT p.val 13) + BitVec.ofNat 64 (s.now - (s.portX p.val).txSince) ∧
    Frame [.ctrs] [Fld.PORT_DSX_STATUS_TX p.val] s t) ∧
  (∀ q : Vdm, q.headed .localReceiver = true → q.proto = 0xD5 → q.op = DsxOp.wakeReq.code → q.ver = 1 → s.dsxNeg p.val = true → s.dsxTx p.val = 0 →
    Answers (.dsxWakeReqRx p q) s fun t => Frame [] [] s t) ∧
  (∀ q : Vdm, ∀ k : Nat, q.headed .localReceiver = true → q.proto = 0xD5 → q.op = DsxOp.wakeReq.code → q.ver = 1 → s.dsxNeg p.val = true → s.dsxTx p.val = 1 →
    (s.portX p.val).txSeq = some k → Answers (.dsxWakeReqRx p q) s fun t => t.dsxTx p.val = 0 ∧ (t.portX p.val).txSeq = none ∧ ((false, k) ∈ (t.portX p.val).withdrawn) ∧
    t.out = [] ∧ Frame [.fab] [Fld.PORT_DSX_STATUS_TX p.val] s t) ∧
  (∀ q : Vdm, q.headed .localReceiver = true → q.proto = 0xD5 → q.op = DsxOp.wakeReq.code → q.ver = 1 → s.dsxNeg p.val = true → s.dsxTx p.val = 2 →
    Answers (.dsxWakeReqRx p q) s fun t => t.dsxTx p.val = 4 ∧ Frame [] [Fld.PORT_DSX_STATUS_TX p.val] s t) ∧
  (s.dsxNeg p.val = true → s.dsxTx p.val = 3 → Answers (.dsxRetExpire p) s fun t => t.dsxTx p.val = 4 ∧
    t.counter (Ctr.PORT p.val 13) = s.counter (Ctr.PORT p.val 13) + BitVec.ofNat 64 (s.now - (s.portX p.val).txSince) ∧ Frame [.ctrs] [Fld.PORT_DSX_STATUS_TX p.val] s t) ∧
  (s.dsxNeg p.val = true → s.dsxTx p.val = 3 → Answers (.dsxFlitWake p) s fun t => t.dsxTx p.val = 4 ∧
    t.counter (Ctr.PORT p.val 13) = s.counter (Ctr.PORT p.val 13) + BitVec.ofNat 64 (s.now - (s.portX p.val).txSince) ∧ Frame [.ctrs] [Fld.PORT_DSX_STATUS_TX p.val] s t) ∧
  (s.dsxNeg p.val = true → s.dsxTx p.val = 2 → Answers (.dsxFlitWake p) s fun t => t.dsxTx p.val = 0 ∧ Frame [] [Fld.PORT_DSX_STATUS_TX p.val] s t) ∧
  (s.dsxTx p.val = 4 → Answers (.dsxPreambleEnd p) s fun t => t.dsxTx p.val = 0 ∧ t.get (Evt.PORT_DSX_WAKE p.val).field = 1 ∧
    t.counter (Ctr.PORT p.val 11) = s.counter (Ctr.PORT p.val 11) + 1 ∧ Frame [.ctrs] [Fld.PORT_DSX_STATUS_TX p.val, (Evt.PORT_DSX_WAKE p.val).field] s t)

/-- Parts of R92, R97, R98: lanes that fail. A live main lane of a configured port that loses its signal, its clock or its equalizer, or whose error events pass the limit of
its window, is FAILED with the cause, counted and raised, and its port is held whole with reason 6; errors within the limit are counted and the count restarts with the window;
a lane that is not live does not fail. Parts of R90, R91, R96, R104: calibration and adaptation. A full calibration that ends well sets CAL_DONE and lets a waiting port train
once none of its lanes is busy; one that fails marks the lane and holds its port with reason 7. Adaptation moves one coefficient by one step on a lane that receives symbols
and is not frozen, and shows the SNR. Choices and readings of the model it rests on: log 80, 177 (DESIGN CHOICE); log 134, 143, 174, 178, 180, 232, 233 (DEDUCED). -/
def Obligations.LaneFailureAndCalibration : Prop := ∀ s : State, ∀ i : LaneIx, s.fabricRuns = true →
  (∀ p : Nat, i.val < 256 → s.laneLive i.val = true → s.flag (Fld.LANE_STATUS_FAILED i.val) = false → s.portOfLane i.val = some p → p < 64 → (i.val ∈ s.portLanes p) →
    (∀ q : Fin 64, q.val ≠ p → i.val ∈ s.portLanes q.val → s.portEn q.val = false) → s.portEn p = true → s.portHeld p = false → s.carries i.val = true →
    Answers (.laneSignalLoss [i]) s fun t => t.get (Fld.LANE_STATUS_FAILED i.val) = 1 ∧ t.get (Fld.LANE_STATUS_FAIL_CAUSE i.val) = 1 ∧
    t.get (Evt.LANE_LANE_FAIL i.val).field = 1 ∧ t.portHeld p = true ∧ t.get (Fld.PORT_STATUS_HOLD_REASON p) = 6 ∧ t.linkUp p = false ∧
    t.counter (Ctr.LANE i.val 7) = s.counter (Ctr.LANE i.val 7) + 1 ∧ t.counter (Ctr.LANE i.val 4) = s.counter (Ctr.LANE i.val 4) + 1) ∧
  (∀ p : Nat, i.val < 256 → s.laneLive i.val = true → s.flag (Fld.LANE_STATUS_FAILED i.val) = false → s.portOfLane i.val = some p → p < 64 → (i.val ∈ s.portLanes p) →
    (∀ q : Fin 64, q.val ≠ p → i.val ∈ s.portLanes q.val → s.portEn q.val = false) → s.portEn p = true → s.portHeld p = false → Answers (.laneCdrUnlock [i]) s fun t =>
    t.get (Fld.LANE_STATUS_FAILED i.val) = 1 ∧ t.get (Fld.LANE_STATUS_FAIL_CAUSE i.val) = 2 ∧ t.get (Evt.LANE_LANE_FAIL i.val).field = 1 ∧ t.portHeld p = true ∧
    t.get (Fld.PORT_STATUS_HOLD_REASON p) = 6 ∧ t.linkUp p = false ∧ t.counter (Ctr.LANE i.val 7) = s.counter (Ctr.LANE i.val 7) + 1 ∧
    t.counter (Ctr.LANE i.val 5) = s.counter (Ctr.LANE i.val 5) + 1) ∧
  (∀ p : Nat, i.val < 256 → s.laneLive i.val = true → s.flag (Fld.LANE_STATUS_FAILED i.val) = false → s.portOfLane i.val = some p → p < 64 → (i.val ∈ s.portLanes p) →
    (∀ q : Fin 64, q.val ≠ p → i.val ∈ s.portLanes q.val → s.portEn q.val = false) → s.portEn p = true → s.portHeld p = false → s.snrLow i.val = true →
    Answers (.laneEqDiverge [i]) s fun t => t.get (Fld.LANE_STATUS_FAILED i.val) = 1 ∧ t.get (Fld.LANE_STATUS_FAIL_CAUSE i.val) = 3 ∧ t.get (Evt.LANE_LANE_FAIL i.val).field = 1 ∧
    t.portHeld p = true ∧ t.get (Fld.PORT_STATUS_HOLD_REASON p) = 6 ∧ t.linkUp p = false ∧ t.counter (Ctr.LANE i.val 7) = s.counter (Ctr.LANE i.val 7) + 1) ∧
  (s.carries i.val = false → Answers (.laneSignalLoss [i]) s fun t => Frame [] [] s t) ∧
  (s.snrLow i.val = false → Answers (.laneEqDiverge [i]) s fun t => Frame [] [] s t) ∧
  (s.laneLive i.val = false → Answers (.laneSignalLoss [i]) s fun t => Frame [] [] s t) ∧
  (s.laneLive i.val = false → Answers (.laneCdrUnlock [i]) s fun t => Frame [] [] s t) ∧
  (s.laneLive i.val = false → Answers (.laneEqDiverge [i]) s fun t => Frame [] [] s t) ∧
  (∀ e : LaneErrors, ∀ p : Nat, i.val < 256 → s.laneLive i.val = true → s.flag (Fld.LANE_STATUS_FAILED i.val) = false → s.portOfLane i.val = some p → p < 64 →
    (i.val ∈ s.portLanes p) → (∀ q : Fin 64, q.val ≠ p → i.val ∈ s.portLanes q.val → s.portEn q.val = false) → s.portEn p = true → s.portHeld p = false →
    s.errorLimit i.val < mget 0 s.fab.lanes.errs i.val + s.errorEvents i.val e → Answers (.laneErrorLimit [(i, e)] []) s fun t => t.get (Fld.LANE_STATUS_FAILED i.val) = 1 ∧
    t.get (Fld.LANE_STATUS_FAIL_CAUSE i.val) = 4 ∧ t.get (Evt.LANE_LANE_FAIL i.val).field = 1 ∧ t.portHeld p = true ∧ t.get (Fld.PORT_STATUS_HOLD_REASON p) = 6 ∧
    t.linkUp p = false ∧ t.counter (Ctr.LANE i.val 7) = s.counter (Ctr.LANE i.val 7) + 1) ∧
  (∀ e : LaneErrors, s.laneLive i.val = true → mget 0 s.fab.lanes.errs i.val + s.errorEvents i.val e ≤ s.errorLimit i.val → Answers (.laneErrorLimit [(i, e)] []) s fun t =>
    mget 0 t.fab.lanes.errs i.val = mget 0 s.fab.lanes.errs i.val + s.errorEvents i.val e ∧
    t.counter (Ctr.LANE i.val 0) = s.counter (Ctr.LANE i.val 0) + BitVec.ofNat 64 (s.decoded i.val e).violations ∧
    t.counter (Ctr.LANE i.val 1) = s.counter (Ctr.LANE i.val 1) + BitVec.ofNat 64 (s.decoded i.val e).disparities ∧
    t.counter (Ctr.LANE i.val 2) = s.counter (Ctr.LANE i.val 2) + BitVec.ofNat 64 (s.syncErrors i.val e) ∧ (i.val ∈ t.fab.lanes.disparity ↔ (s.decoded i.val e).positive = true) ∧
    t.out = (if (s.decoded i.val e).syms = [] then [] else [.symbols i.val (s.decoded i.val e).syms]) ∧ Frame [.fab, .ctrs, .out] [(Evt.LANE_ERR_HALF i.val).field] s t) ∧
  (∀ p : Port, ∀ n : Nat, s.portEn p.val = true → Answers (.laneErrorLimit [] [(p, n)]) s fun t =>
    t.counter (Ctr.PORT p.val 4) = s.counter (Ctr.PORT p.val 4) + BitVec.ofNat 64 n ∧ Frame [.ctrs] [] s t) ∧
  (∀ e : LaneErrors, s.laneLive i.val = true → mget 0 s.fab.lanes.errs i.val + s.errorEvents i.val e ≤ s.errorLimit i.val → Answers (.laneWindowEnd i e) s fun t =>
    mget 0 t.fab.lanes.errs i.val = 0 ∧ t.counter (Ctr.LANE i.val 3) = s.counter (Ctr.LANE i.val 3) + (if s.fecInUse i.val then BitVec.ofNat 64 e.fec else 0) ∧
    t.counter (Ctr.LANE i.val 0) = s.counter (Ctr.LANE i.val 0) + BitVec.ofNat 64 (s.decoded i.val e).violations ∧
    t.counter (Ctr.LANE i.val 1) = s.counter (Ctr.LANE i.val 1) + BitVec.ofNat 64 (s.decoded i.val e).disparities ∧
    t.counter (Ctr.LANE i.val 2) = s.counter (Ctr.LANE i.val 2) + BitVec.ofNat 64 (s.syncErrors i.val e) ∧ (i.val ∈ t.fab.lanes.disparity ↔ (s.decoded i.val e).positive = true) ∧
    t.out = (if (s.decoded i.val e).syms = [] then [] else [.symbols i.val (s.decoded i.val e).syms]) ∧ Frame [.fab, .ctrs, .out] [(Evt.LANE_ERR_HALF i.val).field] s t) ∧
  (∀ e : LaneErrors, ∀ p : Nat, i.val < 256 → s.laneLive i.val = true → s.flag (Fld.LANE_STATUS_FAILED i.val) = false → s.portOfLane i.val = some p → p < 64 →
    (i.val ∈ s.portLanes p) → (∀ q : Fin 64, q.val ≠ p → i.val ∈ s.portLanes q.val → s.portEn q.val = false) → s.portEn p = true → s.portHeld p = false →
    s.errorLimit i.val < mget 0 s.fab.lanes.errs i.val + s.errorEvents i.val e → Answers (.laneWindowEnd i e) s fun t => t.get (Fld.LANE_STATUS_FAILED i.val) = 1 ∧
    t.get (Fld.LANE_STATUS_FAIL_CAUSE i.val) = 4 ∧ t.get (Evt.LANE_LANE_FAIL i.val).field = 1 ∧ t.portHeld p = true ∧ t.get (Fld.PORT_STATUS_HOLD_REASON p) = 6 ∧
    t.linkUp p = false ∧ t.counter (Ctr.LANE i.val 7) = s.counter (Ctr.LANE i.val 7) + 1) ∧
  (s.calibrating i.val = true → Answers (.signalReturn i) s fun t => Frame [] [] s t) ∧
  (s.calibrating i.val = false → Answers (.signalReturn i) s fun t => t.get (Fld.LANE_STATUS_SIG_DET i.val) = 1 ∧ t.get (Fld.LANE_STATUS_CDR_LOCK i.val) = 1 ∧
    Frame [] [Fld.LANE_STATUS_SIG_DET i.val, Fld.LANE_STATUS_CDR_LOCK i.val, Fld.LANE_EYE_STATUS_STATE i.val] s t) ∧
  (∀ p : Nat, (i.val ∈ s.fab.lanes.cal) → s.testOp i.val = none → s.portOfLane i.val = some p → s.get (Fld.PORT_STATUS_LINK p) = 9 → s.portEn p = true → s.portHeld p = false →
    (∀ j ∈ s.portLanes p, (j ∈ s.fab.lanes.cal → j = i.val) ∧ s.testOp j = none) → Answers (.laneCalDone i true) s fun t => t.get (Fld.LANE_STATUS_CAL_DONE i.val) = 1 ∧
    t.get (Evt.LANE_CAL_DONE i.val).field = 1 ∧ (i.val ∉ t.fab.lanes.cal) ∧ t.get (Fld.PORT_STATUS_LINK p) = 2 ∧
    Frame [.fab] ([Fld.LANE_STATUS_CAL_DONE i.val, (Evt.LANE_CAL_DONE i.val).field, Fld.PORT_STATUS_LINK p] ++ (s.portLanes p).flatMap fun j =>
    [Fld.LANE_STATUS_FAILED j, Fld.LANE_STATUS_FAIL_CAUSE j]) s t) ∧
  (∀ p : Nat, ∀ j : Nat, (i.val ∈ s.fab.lanes.cal) → s.testOp i.val = none → s.portOfLane i.val = some p → (j ∈ s.portLanes p) → (j ∈ s.fab.lanes.cal) → j ≠ i.val →
    Answers (.laneCalDone i true) s fun t => t.get (Fld.LANE_STATUS_CAL_DONE i.val) = 1 ∧ t.get (Evt.LANE_CAL_DONE i.val).field = 1 ∧
    t.get (Fld.PORT_STATUS_LINK p) = s.get (Fld.PORT_STATUS_LINK p) ∧ Frame [.fab] [Fld.LANE_STATUS_CAL_DONE i.val, (Evt.LANE_CAL_DONE i.val).field] s t) ∧
  (∀ p : Nat, (i.val ∈ s.fab.lanes.cal) → s.testOp i.val = none → s.portOfLane i.val = some p → p < 64 → s.portEn p = true → s.portHeld p = false → s.linkUp p = false →
    Answers (.laneCalDone i false) s fun t => t.get (Fld.LANE_STATUS_CAL_DONE i.val) = 0 ∧ t.get (Fld.LANE_STATUS_FAILED i.val) = 1 ∧
    t.get (Fld.LANE_STATUS_FAIL_CAUSE i.val) = 5 ∧ t.portHeld p = true ∧ t.get (Fld.PORT_STATUS_HOLD_REASON p) = 7) ∧
  (∀ x : Byte, ∀ k : Fin 4, ∀ up : Bool, s.flag (Fld.LANE_STATUS_SIG_DET i.val) = true → 2 < s.laneRate i.val → s.flag (Fld.LANE_CFG_ADAPT_FREEZE i.val) = false →
    Answers (.adaptUpdate i (.dfe k up) x) s fun t => t.get (Fld.LANE_EQ_STATUS_SNR i.val) = x.toNat ∧
    t.get (Fld.LANE_DFE_COEF i.val k.val) = (stepCoef (s.get (Fld.LANE_DFE_COEF i.val k.val)) up).1 ∧
    Frame [.ctrs] [Fld.LANE_EQ_STATUS_SNR i.val, Fld.LANE_DFE_COEF i.val k.val, (Evt.LANE_EQ_RAIL i.val).field] s t) ∧
  (∀ x : Byte, ∀ k : Fin 16, ∀ up : Bool, s.flag (Fld.LANE_STATUS_SIG_DET i.val) = true → 2 < s.laneRate i.val → s.flag (Fld.LANE_CFG_ADAPT_FREEZE i.val) = false → k.val ≠ 3 →
    Answers (.adaptUpdate i (.ffe k up) x) s fun t => t.get (Fld.LANE_FFE_COEF i.val k.val) = (stepCoef (s.get (Fld.LANE_FFE_COEF i.val k.val)) up).1 ∧
    ((stepCoef (s.get (Fld.LANE_FFE_COEF i.val k.val)) up).2 = true → t.get (Evt.LANE_EQ_RAIL i.val).field = 1) ∧
    Frame [.ctrs] [Fld.LANE_EQ_STATUS_SNR i.val, Fld.LANE_FFE_COEF i.val k.val, (Evt.LANE_EQ_RAIL i.val).field] s t) ∧
  (∀ x : Byte, ∀ a : AdaptStep, s.flag (Fld.LANE_STATUS_SIG_DET i.val) = true → 2 < s.laneRate i.val → s.flag (Fld.LANE_CFG_ADAPT_FREEZE i.val) = true →
    Answers (.adaptUpdate i a x) s fun t => t.get (Fld.LANE_EQ_STATUS_SNR i.val) = x.toNat ∧ Frame [] [Fld.LANE_EQ_STATUS_SNR i.val] s t)

/-- Parts of R102 to R104, R110: tests of lanes. A test starts on a lane that is not live, is not being calibrated and has its clock, with its result registers cleared; one
that is refused shows the code of its refusal; a PRBS test compares until it is stopped, and passes if its checker is locked and no error was counted; BIST and RECAL end by
themselves, and a BIST that fails marks the lane. Parts of R99 to R101, R111: eye scans and margining. A scan that nothing refuses starts at point 0, and waits while the lane
is margined or its receiver idles; it stores a point at a time, and the last ends it with an event; a stop ends it as ABORTED; a margining command of a link in L0 at 16.0 GT/s
or above suspends the scan of its lane until it ends. Choices and readings of the model it rests on: log 175, 178, 179, 183 (DEDUCED); log 177, 252 (DESIGN CHOICE); log 234
(PRESUMED). -/
def Obligations.LaneTestsAndEyes : Prop := ∀ s : State, ∀ i : LaneIx,
  (∀ m : Master, ∀ value : Word, s.takes m (lanePage i.val) = true → s.testRefusal i.val 1 (bitsOf value.toNat 4 3) (bitsOf value.toNat 8 3) = none →
    Answers (.laneTestRecal m i value) s fun t => t.testOp i.val = some 1 ∧ t.get (Fld.LANE_TEST_STATUS_STATE i.val) = 1 ∧ t.get (Fld.LANE_TEST_STATUS_OP i.val) = 1 ∧
    t.get64 (Addr.LANE_PRBS_ERR_LO i.val) = 0 ∧ t.get (Fld.LANE_STATUS_SIG_DET i.val) = 0 ∧
    Frame [.fab] [Field.all (Addr.LANE_TEST_STATUS i.val), Field.all (Addr.LANE_PRBS_ERR_LO i.val), Field.all (Addr.LANE_PRBS_ERR_LO i.val + 4),
    Field.all (Addr.LANE_PRBS_BITS_LO i.val), Field.all (Addr.LANE_PRBS_BITS_LO i.val + 4), Fld.LANE_STATUS_RATE i.val, Fld.LANE_STATUS_SIG_DET i.val,
    Fld.LANE_STATUS_CDR_LOCK i.val, Fld.LANE_EYE_STATUS_STATE i.val] s t) ∧
  (∀ m : Master, ∀ value : Word, ∀ r : Nat, s.takes m (lanePage i.val) = true → s.testRefusal i.val 1 (bitsOf value.toNat 4 3) (bitsOf value.toNat 8 3) = some r → r < 8 →
    Answers (.laneTestRecal m i value) s fun t => t.get (Fld.LANE_TEST_STATUS_STATE i.val) = r ∧ t.testOp i.val = s.testOp i.val ∧
    Frame [] [Fld.LANE_TEST_STATUS_STATE i.val, Fld.LANE_TEST_STATUS_OP i.val] s t) ∧
  (∀ m : Master, ∀ value : Word, s.takes m (lanePage i.val) = true → s.testRefusal i.val 2 (bitsOf value.toNat 4 3) (bitsOf value.toNat 8 3) = none →
    Answers (.laneTestPrbsLoop m i value) s fun t => t.testOp i.val = some 2 ∧ t.get (Fld.LANE_TEST_STATUS_STATE i.val) = 1 ∧ t.get (Fld.LANE_TEST_STATUS_OP i.val) = 2 ∧
    t.get64 (Addr.LANE_PRBS_ERR_LO i.val) = 0 ∧ t.get (Fld.LANE_STATUS_RATE i.val) = s.testRate i.val (bitsOf value.toNat 8 3) ∧ t.get (Fld.LANE_STATUS_SIG_DET i.val) = 1 ∧
    Frame [.fab] [Field.all (Addr.LANE_TEST_STATUS i.val), Field.all (Addr.LANE_PRBS_ERR_LO i.val), Field.all (Addr.LANE_PRBS_ERR_LO i.val + 4),
    Field.all (Addr.LANE_PRBS_BITS_LO i.val), Field.all (Addr.LANE_PRBS_BITS_LO i.val + 4), Fld.LANE_STATUS_RATE i.val, Fld.LANE_STATUS_SIG_DET i.val,
    Fld.LANE_STATUS_CDR_LOCK i.val, Fld.LANE_EYE_STATUS_STATE i.val] s t) ∧
  (∀ m : Master, ∀ value : Word, ∀ r : Nat, s.takes m (lanePage i.val) = true → s.testRefusal i.val 2 (bitsOf value.toNat 4 3) (bitsOf value.toNat 8 3) = some r → r < 8 →
    Answers (.laneTestPrbsLoop m i value) s fun t => t.get (Fld.LANE_TEST_STATUS_STATE i.val) = r ∧ t.testOp i.val = s.testOp i.val ∧
    Frame [] [Fld.LANE_TEST_STATUS_STATE i.val, Fld.LANE_TEST_STATUS_OP i.val] s t) ∧
  (∀ m : Master, ∀ value : Word, s.takes m (lanePage i.val) = true → s.testRefusal i.val 3 (bitsOf value.toNat 4 3) (bitsOf value.toNat 8 3) = none →
    Answers (.laneTestPrbsExt m i value) s fun t => t.testOp i.val = some 3 ∧ t.get (Fld.LANE_TEST_STATUS_STATE i.val) = 1 ∧ t.get (Fld.LANE_TEST_STATUS_OP i.val) = 3 ∧
    t.get64 (Addr.LANE_PRBS_ERR_LO i.val) = 0 ∧ t.get (Fld.LANE_STATUS_RATE i.val) = s.testRate i.val (bitsOf value.toNat 8 3) ∧ t.get (Fld.LANE_STATUS_SIG_DET i.val) = 0 ∧
    Frame [.fab] [Field.all (Addr.LANE_TEST_STATUS i.val), Field.all (Addr.LANE_PRBS_ERR_LO i.val), Field.all (Addr.LANE_PRBS_ERR_LO i.val + 4),
    Field.all (Addr.LANE_PRBS_BITS_LO i.val), Field.all (Addr.LANE_PRBS_BITS_LO i.val + 4), Fld.LANE_STATUS_RATE i.val, Fld.LANE_STATUS_SIG_DET i.val,
    Fld.LANE_STATUS_CDR_LOCK i.val, Fld.LANE_EYE_STATUS_STATE i.val] s t) ∧
  (∀ m : Master, ∀ value : Word, ∀ r : Nat, s.takes m (lanePage i.val) = true → s.testRefusal i.val 3 (bitsOf value.toNat 4 3) (bitsOf value.toNat 8 3) = some r → r < 8 →
    Answers (.laneTestPrbsExt m i value) s fun t => t.get (Fld.LANE_TEST_STATUS_STATE i.val) = r ∧ t.testOp i.val = s.testOp i.val ∧
    Frame [] [Fld.LANE_TEST_STATUS_STATE i.val, Fld.LANE_TEST_STATUS_OP i.val] s t) ∧
  (∀ m : Master, ∀ value : Word, s.takes m (lanePage i.val) = true → s.testRefusal i.val 4 (bitsOf value.toNat 4 3) (bitsOf value.toNat 8 3) = none →
    Answers (.laneTestBist m i value) s fun t => t.testOp i.val = some 4 ∧ t.get (Fld.LANE_TEST_STATUS_STATE i.val) = 1 ∧ t.get (Fld.LANE_TEST_STATUS_OP i.val) = 4 ∧
    t.get64 (Addr.LANE_PRBS_ERR_LO i.val) = 0 ∧ Frame [.fab] [Field.all (Addr.LANE_TEST_STATUS i.val), Field.all (Addr.LANE_PRBS_ERR_LO i.val),
    Field.all (Addr.LANE_PRBS_ERR_LO i.val + 4), Field.all (Addr.LANE_PRBS_BITS_LO i.val), Field.all (Addr.LANE_PRBS_BITS_LO i.val + 4)] s t) ∧
  (∀ m : Master, ∀ value : Word, ∀ r : Nat, s.takes m (lanePage i.val) = true → s.testRefusal i.val 4 (bitsOf value.toNat 4 3) (bitsOf value.toNat 8 3) = some r → r < 8 →
    Answers (.laneTestBist m i value) s fun t => t.get (Fld.LANE_TEST_STATUS_STATE i.val) = r ∧ t.testOp i.val = s.testOp i.val ∧
    Frame [] [Fld.LANE_TEST_STATUS_STATE i.val, Fld.LANE_TEST_STATUS_OP i.val] s t) ∧
  (∀ m : Master, ∀ value : Word, s.takes m (lanePage i.val) = true → s.testOp i.val = none → Answers (.laneTestInvalid m i value) s fun t =>
    t.get (Fld.LANE_TEST_STATUS_STATE i.val) = 7 ∧ Frame [] [Fld.LANE_TEST_STATUS_STATE i.val, Fld.LANE_TEST_STATUS_OP i.val] s t) ∧
  (∀ m : Master, ∀ x : Nat, ∀ y : Nat, s.takes m (lanePage i.val) = true → (s.testOp i.val = some 2 ∨ s.testOp i.val = some 3) → x = 0 →
    s.get64 (Addr.LANE_PRBS_ERR_LO i.val) = 0 → Answers (.laneTestStop m i x y) s fun t => t.testOp i.val = none ∧
    t.get (Fld.LANE_TEST_STATUS_STATE i.val) = (if s.flag (Fld.LANE_TEST_STATUS_PRBS_LOCK i.val) then 2 else 3) ∧ t.get (Fld.LANE_TEST_STATUS_OP i.val) = 0 ∧
    t.get (Evt.LANE_TEST_DONE i.val).field = 1 ∧ t.get (Fld.LANE_STATUS_SIG_DET i.val) = 0) ∧
  (∀ m : Master, ∀ x : Nat, ∀ y : Nat, s.takes m (lanePage i.val) = true → s.testOp i.val = none → Answers (.laneTestStop m i x y) s fun t => Frame [] [] s t) ∧
  (∀ ok : Bool, s.fabricRuns = true → s.testOp i.val = some 4 → ok = true → (∀ p, s.portOfLane i.val = some p → s.get (Fld.PORT_STATUS_LINK p) ≠ 9) →
    Answers (.laneBistDone i ok) s fun t => t.testOp i.val = none ∧ t.get (Fld.LANE_TEST_STATUS_STATE i.val) = 2 ∧ t.get (Evt.LANE_TEST_DONE i.val).field = 1 ∧
    t.get (Fld.LANE_STATUS_FAILED i.val) = s.get (Fld.LANE_STATUS_FAILED i.val) ∧ Frame [.fab] [Fld.LANE_TEST_STATUS_STATE i.val, (Evt.LANE_TEST_DONE i.val).field] s t) ∧
  (s.fabricRuns = true → s.testOp i.val = some 4 → i.val < 256 → s.portOfLane i.val = none → Answers (.laneBistDone i false) s fun t => t.testOp i.val = none ∧
    t.get (Fld.LANE_TEST_STATUS_STATE i.val) = 3 ∧ t.get (Fld.LANE_STATUS_FAILED i.val) = 1 ∧ t.get (Fld.LANE_STATUS_FAIL_CAUSE i.val) = 5 ∧
    Frame [.fab] [Fld.LANE_TEST_STATUS_STATE i.val, (Evt.LANE_TEST_DONE i.val).field, Fld.LANE_STATUS_FAILED i.val, Fld.LANE_STATUS_FAIL_CAUSE i.val] s t) ∧
  (∀ l : Bool, ∀ x : Nat, ∀ y : Nat, s.fabricRuns = true → s.testOp i.val = some 2 → s.get64 (Addr.LANE_PRBS_ERR_LO i.val) + x < 2 ^ 64 →
    Answers (.prbsCheckerLock i l x y) s fun t => t.flag (Fld.LANE_TEST_STATUS_PRBS_LOCK i.val) = l ∧
    t.get64 (Addr.LANE_PRBS_ERR_LO i.val) = s.get64 (Addr.LANE_PRBS_ERR_LO i.val) + x ∧
    Frame [] [Field.all (Addr.LANE_TEST_STATUS i.val), Field.all (Addr.LANE_PRBS_ERR_LO i.val), Field.all (Addr.LANE_PRBS_ERR_LO i.val + 4),
    Field.all (Addr.LANE_PRBS_BITS_LO i.val), Field.all (Addr.LANE_PRBS_BITS_LO i.val + 4)] s t) ∧
  (∀ m : Master, s.takes m (lanePage i.val) = true → s.eyeRefusal i.val = none → Answers (.eyeStart m i) s fun t =>
    t.get (Fld.LANE_EYE_STATUS_STATE i.val) = (if s.fab.lanes.margins.contains i.val || !s.flag (Fld.LANE_STATUS_SIG_DET i.val) then 2 else 1) ∧
    t.get (Fld.LANE_EYE_STATUS_POINTS i.val) = 0 ∧ assoc t.fab.lanes.eye (eyeEngine i.val) = some i.val) ∧
  (∀ m : Master, ∀ r : Nat, s.takes m (lanePage i.val) = true → s.eyeRefusal i.val = some r → r < 8 → Answers (.eyeStart m i) s fun t =>
    t.get (Fld.LANE_EYE_STATUS_STATE i.val) = r ∧ Frame [] [Fld.LANE_EYE_STATUS_STATE i.val] s t) ∧
  (∀ m : Master, s.takes m (lanePage i.val) = true → s.scanning i.val = true → Answers (.eyeStop m i) s fun t => t.get (Fld.LANE_EYE_STATUS_STATE i.val) = 4 ∧
    t.get (Evt.LANE_EYE_DONE i.val).field = 1 ∧ Frame [] [Fld.LANE_EYE_STATUS_STATE i.val, (Evt.LANE_EYE_DONE i.val).field] s t) ∧
  (∀ n : Nat, s.fabricRuns = true → s.get (Fld.LANE_EYE_STATUS_STATE i.val) = 1 → s.get (Fld.LANE_EYE_STATUS_POINTS i.val) < 8191 → Answers (.eyePointDone i n) s fun t =>
    t.get (Fld.LANE_EYE_STATUS_POINTS i.val) = s.get (Fld.LANE_EYE_STATUS_POINTS i.val) + 1 ∧
    t.get (Fld.LANE_EYE_RESULT_ERRORS i.val (s.get (Fld.LANE_EYE_STATUS_POINTS i.val))) = min (2 ^ 32 - 1) n ∧ t.get (Fld.LANE_EYE_STATUS_STATE i.val) = 1 ∧
    Frame [] [Fld.LANE_EYE_RESULT_ERRORS i.val (s.get (Fld.LANE_EYE_STATUS_POINTS i.val)), Fld.LANE_EYE_STATUS_POINTS i.val] s t) ∧
  (∀ n : Nat, s.fabricRuns = true → s.get (Fld.LANE_EYE_STATUS_STATE i.val) = 1 → s.get (Fld.LANE_EYE_STATUS_POINTS i.val) = 8191 → Answers (.eyePointDone i n) s fun t =>
    t.get (Fld.LANE_EYE_STATUS_POINTS i.val) = 8192 ∧ t.get (Fld.LANE_EYE_STATUS_STATE i.val) = 3 ∧ t.get (Evt.LANE_EYE_DONE i.val).field = 1 ∧
    Frame [] [Fld.LANE_EYE_RESULT_ERRORS i.val (s.get (Fld.LANE_EYE_STATUS_POINTS i.val)), Fld.LANE_EYE_STATUS_POINTS i.val, Fld.LANE_EYE_STATUS_STATE i.val,
    (Evt.LANE_EYE_DONE i.val).field] s t) ∧
  (∀ p : Nat, ∀ v : Bool, ∀ h : Bool, ∀ n : Fin 128, s.fabricRuns = true → s.portOfLane i.val = some p → s.get (Fld.PORT_STATUS_LINK p) = 5 → 4 ≤ s.laneRate i.val →
    n.val ≤ marginValue (s.laneRate i.val) (if v then .numVoltageSteps else .numTimingSteps) → s.get (Fld.LANE_EYE_STATUS_STATE i.val) = 1 →
    Answers (.marginCommand i (.step v h n)) s fun t => t.get (Fld.LANE_EYE_STATUS_STATE i.val) = 2 ∧ (i.val ∈ t.fab.lanes.margins) ∧
    t.out = [.margin i.val (.status false 0 0)] ∧ Frame [.fab, .out] [Fld.LANE_EYE_STATUS_STATE i.val] s t) ∧
  (∀ p : Nat, ∀ v : Bool, ∀ h : Bool, ∀ n : Fin 128, s.fabricRuns = true → s.portOfLane i.val = some p → s.get (Fld.PORT_STATUS_LINK p) = 5 → 4 ≤ s.laneRate i.val →
    marginValue (s.laneRate i.val) (if v then .numVoltageSteps else .numTimingSteps) < n.val → Answers (.marginCommand i (.step v h n)) s fun t => t.out = [.margin i.val .nak] ∧
    Frame [.out] [] s t) ∧
  (∀ p : Nat, ∀ q : MarginParam, s.fabricRuns = true → s.portOfLane i.val = some p → s.get (Fld.PORT_STATUS_LINK p) = 5 → 4 ≤ s.laneRate i.val →
    Answers (.marginCommand i (.report q)) s fun t => t.out = [.margin i.val (.value (marginValue (s.laneRate i.val) q))] ∧ Frame [.out] [] s t) ∧
  (∀ p : Nat, s.fabricRuns = true → s.portOfLane i.val = some p → s.get (Fld.PORT_STATUS_LINK p) = 5 → 4 ≤ s.laneRate i.val → s.get (Fld.LANE_EYE_STATUS_STATE i.val) = 2 →
    s.flag (Fld.LANE_STATUS_SIG_DET i.val) = true → Answers (.marginCommand i .normal) s fun t => t.get (Fld.LANE_EYE_STATUS_STATE i.val) = 1 ∧ (i.val ∉ t.fab.lanes.margins) ∧
    Frame [.fab, .out] [Fld.LANE_EYE_STATUS_STATE i.val] s t) ∧
  (∀ p : Nat, ∀ c : MarginCmd, s.fabricRuns = true → s.portOfLane i.val = some p → (s.get (Fld.PORT_STATUS_LINK p) ≠ 5 ∨ s.laneRate i.val < 4) →
    Answers (.marginCommand i c) s fun t => Frame [] [] s t)

/-- Parts of R310 to R314, R333, R98: the Tandem link. ALIGN goes to TRAIN when all lanes are aligned, TRAIN to UP after eight identical TRAIN payloads each way, and a
mismatch keeps it in TRAIN; four blocks in a row on all lanes, a WINDOW below the floor and the time-out lead to ALIGN, a failed lane to DOWN; a frame that is damaged or of an
unknown TYPE is dropped and counted, an intact one takes CRET and RXCNT, and a MIRROR frame returns its credit or shows a gap. Frames are stated with nothing waiting to be
sent. Choices and readings of the model it rests on: log 16 (DESIGN CHOICE); log 55, 155, 163, 164, 273 (DEDUCED). -/
def Obligations.TandemLink : Prop := ∀ s : State, s.fabricRuns = true →
  (∀ lane : Fin 8, ∀ inv : Bool, s.tandemOn = true → s.get Fld.TDM_LINK_STATE = 1 → 7 ≤ mget 0 s.fab.pair.aligned lane.val → (∀ j : Fin 8, j ≠ lane →
    8 ≤ mget 0 s.fab.pair.aligned j.val) → Answers (.tandemAlignBlockRx lane (if inv then (alignBlock lane.val).map fun b => ~~~b else alignBlock lane.val)) s fun t =>
    t.get Fld.TDM_LINK_STATE = 2 ∧ t.flag (Fld.LANE_STATUS_POL_INV (256 + lane.val)) = inv ∧
    Frame [.pair] [Fld.TDM_LINK_STATE, Fld.TDM_LINK_MISMATCH, Fld.TDM_LINK_MPV, Fld.LANE_STATUS_POL_INV (256 + lane.val)] s t) ∧
  (∀ lane : Fin 8, ∀ inv : Bool, s.tandemOn = true → s.get Fld.TDM_LINK_STATE = 1 → mget 0 s.fab.pair.aligned lane.val < 7 →
    Answers (.tandemAlignBlockRx lane (if inv then (alignBlock lane.val).map fun b => ~~~b else alignBlock lane.val)) s fun t =>
    mget 0 t.fab.pair.aligned lane.val = mget 0 s.fab.pair.aligned lane.val + 1 ∧ t.flag (Fld.LANE_STATUS_POL_INV (256 + lane.val)) = inv ∧
    Frame [.pair] [Fld.LANE_STATUS_POL_INV (256 + lane.val)] s t) ∧
  (∀ lane : Fin 8, ∀ blk : List Byte, s.tandemOn = true → s.get Fld.TDM_LINK_STATE = 1 → blk ≠ alignBlock lane.val → (blk ≠ (alignBlock lane.val).map fun b => ~~~b) →
    Answers (.tandemAlignBlockRx lane blk) s fun t => mget 0 t.fab.pair.aligned lane.val = 0 ∧ Frame [.pair] [] s t) ∧
  (∀ lane : Fin 8, ∀ inv : Bool, s.tandemOn = true → s.get Fld.TDM_LINK_STATE = 3 → 3 ≤ mget 0 s.fab.pair.aligned lane.val → (∀ j : Fin 8, j ≠ lane →
    4 ≤ mget 0 s.fab.pair.aligned j.val) → Answers (.tandemAlignBlockRx lane (if inv then (alignBlock lane.val).map fun b => ~~~b else alignBlock lane.val)) s fun t =>
    t.get Fld.TDM_LINK_STATE = 1 ∧ t.get Evt.TDM_LINK_DOWN.field = 1 ∧ t.get Fld.TDM_LINK_MPV = 0 ∧ t.counter (Ctr.PAIR 0 6) = s.counter (Ctr.PAIR 0 6) + 1 ∧
    t.flag (Fld.LANE_STATUS_POL_INV (256 + lane.val)) = inv ∧ (∀ j : Fin 9, t.word (Addr.LANE_TX_COEF (256 + j.val)) = s.word (Addr.LANE_TX_CFG (256 + j.val))) ∧
    Frame [.pair, .ctrs] ([Fld.TDM_LINK_STATE, Fld.TDM_LINK_MISMATCH, Fld.TDM_LINK_MPV, Fld.LANE_STATUS_POL_INV (256 + lane.val),
    Evt.TDM_LINK_DOWN.field] ++ (List.range 9).map fun j => Field.all (Addr.LANE_TX_COEF (256 + j))) s t) ∧
  ((s.get Fld.TDM_LINK_STATE = 1 ∨ (s.get Fld.TDM_LINK_STATE = 2 ∧ s.flag Fld.TDM_LINK_MISMATCH = false)) → Answers .tandemTrainTimeout s fun t => t.get Fld.TDM_LINK_STATE = 1 ∧
    t.fab.pair.aligned = [] ∧ t.fab.pair.train = none ∧ (∀ j : Fin 9, t.word (Addr.LANE_TX_COEF (256 + j.val)) = s.word (Addr.LANE_TX_CFG (256 + j.val))) ∧
    Frame [.pair] ([Fld.TDM_LINK_STATE, Fld.TDM_LINK_MISMATCH, Fld.TDM_LINK_MPV] ++ (List.range 9).map fun j => Field.all (Addr.LANE_TX_COEF (256 + j))) s t) ∧
  (s.get Fld.TDM_LINK_STATE = 2 → s.flag Fld.TDM_LINK_MISMATCH = true → Answers .tandemTrainTimeout s fun t => Frame [] [] s t) ∧
  (s.tandemOn = true → s.get Fld.TDM_LINK_STATE = 0 → Answers .tandemDownExpire s fun t => t.get Fld.TDM_LINK_STATE = 1 ∧
    (∀ j : Fin 8, t.flag (Fld.LANE_STATUS_FAILED (256 + j.val)) = false) ∧
    Frame [.pair] ([Fld.TDM_LINK_STATE, Fld.TDM_LINK_MISMATCH, Fld.TDM_LINK_MPV] ++ ((List.range 8).flatMap fun j =>
    [Fld.LANE_STATUS_FAILED (256 + j), Fld.LANE_STATUS_FAIL_CAUSE (256 + j)]) ++ (List.range 9).map fun j => Field.all (Addr.LANE_TX_COEF (256 + j))) s t) ∧
  (∀ j : Fin 8, ∀ cause : Fin 5, s.flag Fld.TDM_CFG_EN = true → s.flag (Fld.LANE_STATUS_FAILED (256 + j.val)) = false → s.get Fld.TDM_LINK_STATE ≠ 3 →
    Answers (.tandemLaneFail j cause) s fun t => t.get Fld.TDM_LINK_STATE = 0 ∧ t.flag (Fld.LANE_STATUS_FAILED (256 + j.val)) = true ∧
    t.get (Fld.LANE_STATUS_FAIL_CAUSE (256 + j.val)) = cause.val + 1 ∧ t.get (Evt.LANE_LANE_FAIL (256 + j.val)).field = 1 ∧
    t.counter (Ctr.LANE (256 + j.val) 7) = s.counter (Ctr.LANE (256 + j.val) 7) + 1 ∧
    Frame [.pair, .ctrs] [Fld.TDM_LINK_STATE, Fld.TDM_LINK_MISMATCH, Fld.TDM_LINK_MPV, Fld.LANE_STATUS_FAILED (256 + j.val), Fld.LANE_STATUS_FAIL_CAUSE (256 + j.val),
    (Evt.LANE_LANE_FAIL (256 + j.val)).field] s t) ∧
  (∀ j : Fin 8, ∀ cause : Fin 5, s.flag Fld.TDM_CFG_EN = true → s.flag (Fld.LANE_STATUS_FAILED (256 + j.val)) = false → s.get Fld.TDM_LINK_STATE = 3 →
    Answers (.tandemLaneFail j cause) s fun t => t.get Fld.TDM_LINK_STATE = 0 ∧ t.flag (Fld.LANE_STATUS_FAILED (256 + j.val)) = true ∧
    t.get (Fld.LANE_STATUS_FAIL_CAUSE (256 + j.val)) = cause.val + 1 ∧ t.get (Evt.LANE_LANE_FAIL (256 + j.val)).field = 1 ∧
    t.counter (Ctr.LANE (256 + j.val) 7) = s.counter (Ctr.LANE (256 + j.val) 7) + 1 ∧ t.get Evt.TDM_LINK_DOWN.field = 1 ∧
    t.flt.net = s.flt.net ++ [s.message Kind.TLANE_FAIL 1 (0x200 + j.val) 0 8 (Party.lane (256 + j.val)) none]) ∧
  (s.get Fld.TDM_LINK_STATE = 3 → Answers .tandemAlignPeriodic s fun t => t.out = [.align ((List.range 8).map alignBlock)] ∧ Frame [.out] [] s t) ∧
  (s.get Fld.TDM_LINK_STATE = 3 → s.get Fld.TDM_CREDIT_FLOOR ≤ min 2047 (s.fab.pair.peerCredits - s.fab.pair.leaked) → Answers .tandemCreditCheck s fun t =>
    t.get Fld.TDM_CREDIT_WINDOW = min 2047 (s.fab.pair.peerCredits - s.fab.pair.leaked) ∧
    t.counter (Ctr.PAIR 0 2) = s.counter (Ctr.PAIR 0 2) + BitVec.ofNat 64 (s.fab.pair.leaked - (s.fab.pair.peerCredits - s.get Fld.TDM_CREDIT_WINDOW)) ∧
    Frame [.pair, .ctrs] [Fld.TDM_CREDIT_WINDOW] s t) ∧
  (s.get Fld.TDM_LINK_STATE = 3 → min 2047 (s.fab.pair.peerCredits - s.fab.pair.leaked) < s.get Fld.TDM_CREDIT_FLOOR → Answers .tandemCreditCheck s fun t =>
    t.get Fld.TDM_CREDIT_WINDOW = min 2047 (s.fab.pair.peerCredits - s.fab.pair.leaked) ∧
    t.counter (Ctr.PAIR 0 2) = s.counter (Ctr.PAIR 0 2) + BitVec.ofNat 64 (s.fab.pair.leaked - (s.fab.pair.peerCredits - s.get Fld.TDM_CREDIT_WINDOW)) ∧
    t.get Fld.TDM_LINK_STATE = 1 ∧ t.get Evt.TDM_CREDIT_RETRAIN.field = 1 ∧ t.get Evt.TDM_LINK_DOWN.field = 1 ∧
    (∀ j : Fin 9, t.word (Addr.LANE_TX_COEF (256 + j.val)) = s.word (Addr.LANE_TX_CFG (256 + j.val))) ∧
    Frame [.pair, .ctrs] ([Fld.TDM_CREDIT_WINDOW, Fld.TDM_LINK_STATE, Fld.TDM_LINK_MISMATCH, Fld.TDM_LINK_MPV, Evt.TDM_CREDIT_RETRAIN.field,
    Evt.TDM_LINK_DOWN.field] ++ (List.range 9).map fun j => Field.all (Addr.LANE_TX_COEF (256 + j))) s t) ∧
  (∀ h : TdmHeader, s.tandemOn = true → s.get Fld.TDM_LINK_STATE = 3 → (h.intact = false ∨ 3 ≤ h.kind.toNat) → s.fab.pair.train = none → Answers (.tandemIdleRx h) s fun t =>
    t.counter (Ctr.PAIR 1 1) = s.counter (Ctr.PAIR 1 1) + 1 ∧ t.fab.pair.cretIn = s.fab.pair.cretIn ∧ t.fab.pair.rxcntIn = s.fab.pair.rxcntIn ∧ Frame [.pair, .ctrs] [] s t) ∧
  (∀ h : TdmHeader, s.tandemOn = true → s.get Fld.TDM_LINK_STATE = 3 → h.intact = true → h.kind.toNat ≤ 2 → s.fab.pair.journal = [] → s.fab.pair.ackDue = false →
    s.fab.pair.reqDue = false → s.fab.pair.bulk = none → Answers (.tandemIdleRx h) s fun t => t.counter (Ctr.PAIR 1 0) = s.counter (Ctr.PAIR 1 0) + 1 ∧
    t.fab.pair.cretIn = h.cret.toNat ∧ t.fab.pair.rxcntIn = h.rxcnt.toNat ∧ Frame [.pair, .ctrs] [] s t) ∧
  (∀ h : TdmHeader, s.get Fld.TDM_LINK_STATE < 2 → Answers (.tandemIdleRx h) s fun t => Frame [] [] s t) ∧
  (∀ h : TdmHeader, ∀ fseq : Word, ∀ r : Bool, s.tandemOn = true → s.get Fld.TDM_LINK_STATE = 3 → h.intact = true → h.kind.toNat ≤ 2 → fseq.toNat = s.fab.pair.fseqIn →
    s.fab.pair.rxcnt < 65535 → s.fab.pair.cretOut < 65535 → s.fab.pair.journal = [] → s.fab.pair.ackDue = false → s.fab.pair.reqDue = false → s.fab.pair.bulk = none →
    Answers (.tandemMirrorRx h fseq r) s fun t => t.counter (Ctr.PAIR 1 0) = s.counter (Ctr.PAIR 1 0) + 1 ∧ t.fab.pair.cretIn = h.cret.toNat ∧
    t.fab.pair.rxcntIn = h.rxcnt.toNat ∧ t.fab.pair.rxcnt = s.fab.pair.rxcnt + 1 ∧ t.fab.pair.cretOut = s.fab.pair.cretOut + 1 ∧ t.fab.pair.fseqIn = (fseq.toNat + 1) % 2 ^ 32 ∧
    Frame [.pair, .ctrs] [] s t) ∧
  (∀ h : TdmHeader, ∀ fseq : Word, ∀ r : Bool, s.tandemOn = true → s.get Fld.TDM_LINK_STATE = 3 → s.get Fld.TDM_LINK_MPV ≠ 0 → h.intact = true → h.kind.toNat ≤ 2 →
    fseq.toNat ≠ s.fab.pair.fseqIn → s.isStandby = true → s.fab.pair.adopt = false → s.fab.pair.gap = false →
    (s.fab.pair.sent + 65536 - h.cret.toNat) % 65536 < s.fab.pair.peerCredits → s.fab.pair.journal = [] → s.fab.pair.ackDue = false → s.fab.pair.reqDue = false →
    s.fab.pair.bulk = none → Answers (.tandemMirrorRx h fseq r) s fun t => t.get Evt.TDM_GAP.field = 1 ∧ t.fab.pair.gap = true ∧
    t.out = [.ackRec false ((s.get Fld.TDM_HSEQ_SEQ + 1) % 2 ^ 32) 0] ∧ t.counter (Ctr.PAIR 1 3) = s.counter (Ctr.PAIR 1 3) + 1 ∧
    Frame [.pair, .ctrs, .out] [Evt.TDM_GAP.field] s t) ∧
  (∀ h : TdmHeader, ∀ fseq : Word, ∀ r : Bool, s.tandemOn = true → s.get Fld.TDM_LINK_STATE = 3 → (h.intact = false ∨ 3 ≤ h.kind.toNat) → s.fab.pair.train = none →
    Answers (.tandemMirrorRx h fseq r) s fun t => t.counter (Ctr.PAIR 1 1) = s.counter (Ctr.PAIR 1 1) + 1 ∧ t.fab.pair.rxcnt = s.fab.pair.rxcnt ∧
    t.fab.pair.fseqIn = s.fab.pair.fseqIn ∧ Frame [.pair, .ctrs] [] s t) ∧
  (∀ h : TdmHeader, ∀ q : TrainPayload, s.tandemOn = true → s.get Fld.TDM_LINK_STATE = 2 → h.intact = true → h.kind.toNat ≤ 2 → s.flag Fld.TDM_LINK_MISMATCH = false →
    (q.modId ≠ s.get Fld.CLK_STRAPS_MOD_ID ∨ q.strap = s.strapB) → s.fab.pair.journal = [] → s.fab.pair.ackDue = false → s.fab.pair.reqDue = false → s.fab.pair.bulk = none →
    Answers (.tandemTrainRx h q) s fun t => t.get Fld.TDM_LINK_PEER_MOD_ID = q.modId % 8 ∧ t.flag Fld.TDM_LINK_PEER_STRAP = q.strap ∧ t.flag Fld.TDM_LINK_MISMATCH = true ∧
    t.get Evt.TDM_MISMATCH.field = 1 ∧ t.get Fld.TDM_LINK_STATE = 2 ∧ t.out = [.train s.ownTrain] ∧
    Frame [.pair, .ctrs, .out] [Fld.TDM_LINK_PEER_MOD_ID, Fld.TDM_LINK_PEER_STRAP, Fld.TDM_LINK_MISMATCH, Evt.TDM_MISMATCH.field] s t) ∧
  (∀ h : TdmHeader, ∀ q : TrainPayload, s.tandemOn = true → s.get Fld.TDM_LINK_STATE = 2 → h.intact = true → h.kind.toNat ≤ 2 → q.modId = s.get Fld.CLK_STRAPS_MOD_ID →
    q.strap ≠ s.strapB → s.fab.pair.train ≠ some q → s.fab.pair.journal = [] → s.fab.pair.ackDue = false → s.fab.pair.reqDue = false → s.fab.pair.bulk = none →
    Answers (.tandemTrainRx h q) s fun t => t.get Fld.TDM_LINK_PEER_MOD_ID = q.modId % 8 ∧ t.flag Fld.TDM_LINK_PEER_STRAP = q.strap ∧ t.flag Fld.TDM_LINK_MISMATCH = false ∧
    t.fab.pair.train = some q ∧ t.fab.pair.trainRx = 1 ∧ t.fab.pair.trainTx = 0 ∧ t.get Fld.TDM_LINK_STATE = 2 ∧ t.out = [.train s.ownTrain] ∧
    Frame [.pair, .ctrs, .out] [Fld.TDM_LINK_PEER_MOD_ID, Fld.TDM_LINK_PEER_STRAP, Fld.TDM_LINK_MISMATCH] s t) ∧
  (∀ h : TdmHeader, ∀ q : TrainPayload, s.tandemOn = true → s.get Fld.TDM_LINK_STATE = 2 → h.intact = true → h.kind.toNat ≤ 2 → q.modId = s.get Fld.CLK_STRAPS_MOD_ID →
    q.strap ≠ s.strapB → s.fab.pair.train = some q → s.fab.pair.trainRx = 7 → 7 ≤ s.fab.pair.trainTx → s.role = 2 → s.partner = none → s.get Fld.TIME_STATUS_SRC = 0 →
    s.flag Fld.TIME_CFG_FOLLOW_EN = false → s.fab.pair.journal = [] → s.fab.pair.ackDue = false → s.fab.pair.reqDue = false → s.fab.pair.bulk = none →
    Answers (.tandemTrainRx h q) s fun t => t.get Fld.TDM_LINK_STATE = 3 ∧ t.get Evt.TDM_LINK_UP.field = 1 ∧ t.get Fld.TDM_LINK_MPV = s.commonVersion q ∧ (s.commonVersion q = 0 →
    t.get Evt.TDM_VERSION.field = 1) ∧ t.get Fld.TDM_CREDIT_WINDOW = min 2047 q.credits ∧ t.fab.pair.sent = 0 ∧ t.fab.pair.peerCredits = q.credits ∧ t.fab.pair.rxcnt = 0 ∧
    t.fab.pair.cretOut = 0 ∧ t.fab.pair.fseqIn = 0 ∧ Frame [.pair, .ctrs, .out] [Fld.TDM_LINK_PEER_MOD_ID, Fld.TDM_LINK_PEER_STRAP, Fld.TDM_LINK_MISMATCH, Fld.TDM_LINK_STATE,
    Fld.TDM_LINK_MPV, Fld.TDM_CREDIT_WINDOW, Evt.TDM_LINK_UP.field, Evt.TDM_VERSION.field] s t)

/-- Parts of R320, R321, R323, R326: what a standby in STANDBY does with a record. The next record in order moves R and joins the open epoch, an EPOCH record applies the open
epoch and is acknowledged, a record at or below R is discarded, and one beyond R + 1 is a gap, which is answered by RESEND; a region is unknown from its BULK_BEGIN to its
BULK_END. -/
def Obligations.MirrorReceived : Prop := ∀ s : State, ∀ seq : Word, s.fabricRuns = true → s.role = 5 → s.get Fld.TDM_LINK_STATE = 3 → s.get Fld.TDM_LINK_MPV ≠ 0 → s.fab.pair.peer = none → s.fab.pair.failed = 0 → s.get Fld.TIME_STATUS_SRC = 0 → s.flag Fld.TIME_CFG_FOLLOW_EN = false → s.fab.pair.adopt = false →
  (∀ h : Hive, ∀ x : Nat, ∀ e : Option DirEntry, s.fab.pair.gap = false → seq.toNat = (s.get Fld.TDM_HSEQ_SEQ + 1) % 2 ^ 32 → s.fab.pair.begun = 0 →
    Answers (.recDir seq h x e) s fun t => t.get Fld.TDM_HSEQ_SEQ = seq.toNat ∧ t.fab.pair.openEpoch = s.fab.pair.openEpoch ++ [⟨seq.toNat, h.val, .dir h.val x e, true⟩] ∧
    t.fab.home.dir = s.fab.home.dir ∧ Frame [.pair] [Fld.TDM_HSEQ_SEQ, Fld.TDM_UNKNOWN_REGIONS] s t) ∧
  (∀ rg : Fin 20, ∀ a : Word, ∀ ws : List Word, s.fab.pair.gap = false → seq.toNat = (s.get Fld.TDM_HSEQ_SEQ + 1) % 2 ^ 32 → s.fab.pair.begun = 0 →
    Answers (.recReg seq rg a ws) s fun t => t.get Fld.TDM_HSEQ_SEQ = seq.toNat ∧ t.fab.pair.openEpoch = s.fab.pair.openEpoch ++ [⟨seq.toNat, rg.val, .reg a.toNat (ws.map fun w =>
    w.toNat), true⟩] ∧ Frame [.pair] [Fld.TDM_HSEQ_SEQ, Fld.TDM_UNKNOWN_REGIONS] s t) ∧
  (∀ ep : BitVec 16, ∀ full : Bool, ∀ rules : List (Nat × List Nat), s.fab.pair.gap = false → seq.toNat = (s.get Fld.TDM_HSEQ_SEQ + 1) % 2 ^ 32 → s.fab.pair.begun = 0 →
    Answers (.recCommit seq ep full rules) s fun t => t.get Fld.TDM_HSEQ_SEQ = seq.toNat ∧
    t.fab.pair.openEpoch = s.fab.pair.openEpoch ++ [⟨seq.toNat, 17, .commit ep.toNat full rules, true⟩] ∧ t.fab.hat = s.fab.hat ∧
    Frame [.pair] [Fld.TDM_HSEQ_SEQ, Fld.TDM_UNKNOWN_REGIONS] s t) ∧
  (∀ h : Hive, ∀ gr : Nat, ∀ n : Nat, ∀ es : List (Nat × DirEntry), s.fab.pair.gap = false → seq.toNat = (s.get Fld.TDM_HSEQ_SEQ + 1) % 2 ^ 32 → s.fab.pair.begun = 0 →
    Answers (.recBulkDir seq h gr n es) s fun t => t.get Fld.TDM_HSEQ_SEQ = seq.toNat ∧
    t.fab.pair.openEpoch = s.fab.pair.openEpoch ++ [⟨seq.toNat, h.val, .bulkDir h.val gr n es, true⟩] ∧ t.fab.home.dir = s.fab.home.dir ∧
    Frame [.pair] [Fld.TDM_HSEQ_SEQ, Fld.TDM_UNKNOWN_REGIONS] s t) ∧
  (∀ rg : Fin 20, s.fab.pair.gap = false → seq.toNat = (s.get Fld.TDM_HSEQ_SEQ + 1) % 2 ^ 32 → s.fab.pair.begun = 0 → rg.val < 16 → Answers (.recBulkBegin seq rg) s fun t =>
    t.get Fld.TDM_HSEQ_SEQ = seq.toNat ∧ t.fab.pair.openEpoch = s.fab.pair.openEpoch ++ [⟨seq.toNat, rg.val, .bulkBegin, true⟩] ∧ t.get Fld.TDM_UNKNOWN_REGIONS = 2 ^ rg.val ∧
    t.role = 5 ∧ Frame [.pair] [Fld.TDM_HSEQ_SEQ, Fld.TDM_UNKNOWN_REGIONS] s t) ∧
  (∀ rg : Fin 20, s.fab.pair.gap = false → seq.toNat = (s.get Fld.TDM_HSEQ_SEQ + 1) % 2 ^ 32 → s.fab.pair.begun = 0 → 16 ≤ rg.val → Answers (.recBulkBegin seq rg) s fun t =>
    t.get Fld.TDM_HSEQ_SEQ = seq.toNat ∧ t.fab.pair.openEpoch = s.fab.pair.openEpoch ++ [⟨seq.toNat, rg.val, .bulkBegin, true⟩] ∧ t.get Fld.TDM_UNKNOWN_REGIONS = 2 ^ rg.val ∧
    t.role = 4 ∧ t.get Evt.TDM_ROLE_CHG.field = 1 ∧ Frame [.pair, .fab] ([Fld.TDM_HSEQ_SEQ, Fld.TDM_UNKNOWN_REGIONS, Fld.TDM_ROLE_STATE,
    Evt.TDM_ROLE_CHG.field] ++ (List.range 64).flatMap fun n => [Fld.LOG_CFG_EN n, Fld.LOG_STATUS_ACTIVE n]) s t) ∧
  (∀ rg : Fin 20, s.fab.pair.gap = false → seq.toNat = (s.get Fld.TDM_HSEQ_SEQ + 1) % 2 ^ 32 → s.fab.pair.begun = 2 ^ rg.val → rg.val < 16 →
    Answers (.recBulkEnd seq rg) s fun t => t.get Fld.TDM_HSEQ_SEQ = seq.toNat ∧ t.fab.pair.openEpoch = s.fab.pair.openEpoch ++ [⟨seq.toNat, rg.val, .bulkEnd, true⟩] ∧
    t.get Fld.TDM_UNKNOWN_REGIONS = 0 ∧ t.fab.pair.begun = 0 ∧ Frame [.pair] [Fld.TDM_HSEQ_SEQ, Fld.TDM_UNKNOWN_REGIONS] s t) ∧
  (∀ me : Word, ∀ tm : Word64, s.fab.pair.gap = false → seq.toNat = (s.get Fld.TDM_HSEQ_SEQ + 1) % 2 ^ 32 → s.fab.pair.hasCredit 1 = true → s.fab.pair.reqDue = false →
    s.fab.pair.journal = [] → s.fab.pair.openEpoch = [] → Answers (.recEpoch seq me tm) s fun t => t.get Fld.TDM_HSEQ_SEQ = seq.toNat ∧ t.get Fld.TDM_ACKSEQ_SEQ = seq.toNat ∧
    t.fab.pair.mepoch = me.toNat ∧ t.fab.pair.openEpoch = [] ∧ (.ackRec true seq.toNat me.toNat ∈ t.out) ∧ t.counter (Ctr.PAIR 1 2) = s.counter (Ctr.PAIR 1 2) + 1) ∧
  (∀ me : Word, ∀ tm : Word64, ∀ sq : Nat, ∀ a : Nat, ∀ w : Nat, s.fab.pair.gap = false → seq.toNat = (s.get Fld.TDM_HSEQ_SEQ + 1) % 2 ^ 32 → s.fab.pair.hasCredit 1 = true →
    s.fab.pair.reqDue = false → s.fab.pair.journal = [] → s.fab.pair.openEpoch = [⟨sq, 16, .reg a [w], true⟩] → 0x6000000 ≤ a → a < 0x6060000 → 4 ∣ a → w < 2 ^ 32 →
    Answers (.recEpoch seq me tm) s fun t => t.get Fld.TDM_HSEQ_SEQ = seq.toNat ∧ t.get Fld.TDM_ACKSEQ_SEQ = seq.toNat ∧ t.fab.pair.mepoch = me.toNat ∧
    t.fab.pair.openEpoch = [] ∧ (.ackRec true seq.toNat me.toNat ∈ t.out) ∧ (t.word a).toNat = w) ∧
  (∀ me : Word, ∀ tm : Word64, ∀ sq : Nat, ∀ hv : Nat, ∀ x : Nat, ∀ e : DirEntry, s.fab.pair.gap = false → seq.toNat = (s.get Fld.TDM_HSEQ_SEQ + 1) % 2 ^ 32 →
    s.fab.pair.hasCredit 1 = true → s.fab.pair.reqDue = false → s.fab.pair.journal = [] → s.fab.pair.openEpoch = [⟨sq, hv, .dir hv x (some e), true⟩] →
    s.fab.pair.unreachable = [] → s.pidsInUse = [] → Answers (.recEpoch seq me tm) s fun t => t.get Fld.TDM_HSEQ_SEQ = seq.toNat ∧ t.get Fld.TDM_ACKSEQ_SEQ = seq.toNat ∧
    t.fab.pair.mepoch = me.toNat ∧ t.fab.pair.openEpoch = [] ∧ (.ackRec true seq.toNat me.toNat ∈ t.out) ∧ (assoc t.fab.home.dir (dirKey hv x)).map (·.e) = some e) ∧
  (∀ rg : Fin 20, ∀ a : Word, ∀ ws : List Word, s.fab.pair.gap = false → s.fab.pair.begun = 0 → s.fab.pair.ackDue = false →
    seqAfter seq.toNat ((s.get Fld.TDM_HSEQ_SEQ + 1) % 2 ^ 32) = true → s.fab.pair.hasCredit 1 = true → s.fab.pair.reqDue = false → s.fab.pair.journal = [] →
    Answers (.recReg seq rg a ws) s fun t => t.get Evt.TDM_GAP.field = 1 ∧ t.fab.pair.gap = true ∧ t.get Fld.TDM_HSEQ_SEQ = s.get Fld.TDM_HSEQ_SEQ ∧
    t.fab.pair.openEpoch = s.fab.pair.openEpoch ∧ t.out = [.ackRec false ((s.get Fld.TDM_HSEQ_SEQ + 1) % 2 ^ 32) 0] ∧
    Frame [.pair, .ctrs, .out] [Fld.TDM_UNKNOWN_REGIONS, Evt.TDM_GAP.field] s t) ∧
  (∀ rg : Fin 20, ∀ a : Word, ∀ ws : List Word, s.fab.pair.begun = 0 → seq.toNat ≠ (s.get Fld.TDM_HSEQ_SEQ + 1) % 2 ^ 32 →
    seqAfter seq.toNat ((s.get Fld.TDM_HSEQ_SEQ + 1) % 2 ^ 32) = false → Answers (.recReg seq rg a ws) s fun t => t.get Fld.TDM_HSEQ_SEQ = s.get Fld.TDM_HSEQ_SEQ ∧
    t.fab.pair.openEpoch = s.fab.pair.openEpoch ∧ Frame [.pair] [Fld.TDM_UNKNOWN_REGIONS] s t) ∧
  (∀ rg : Fin 20, ∀ a : Word, ∀ ws : List Word, s.fab.pair.gap = true → s.fab.pair.restartIn = false → s.fab.pair.begun = 0 → Answers (.recReg seq rg a ws) s fun t =>
    t.get Fld.TDM_HSEQ_SEQ = s.get Fld.TDM_HSEQ_SEQ ∧ t.fab.pair.gap = true ∧ t.fab.pair.openEpoch = s.fab.pair.openEpoch ∧ Frame [.pair] [Fld.TDM_UNKNOWN_REGIONS] s t) ∧
  (∀ rg : Fin 20, ∀ a : Word, ∀ ws : List Word, s.fab.pair.gap = true → s.fab.pair.restartIn = true → s.fab.pair.begun = 0 → seq.toNat = (s.get Fld.TDM_HSEQ_SEQ + 1) % 2 ^ 32 →
    Answers (.recReg seq rg a ws) s fun t => t.get Fld.TDM_HSEQ_SEQ = seq.toNat ∧ t.fab.pair.gap = false ∧ t.fab.pair.openEpoch.length = s.fab.pair.openEpoch.length + 1 ∧
    Frame [.pair] [Fld.TDM_HSEQ_SEQ, Fld.TDM_UNKNOWN_REGIONS] s t) ∧
  (s.fab.pair.gap = true → s.fab.pair.ackDue = false → s.fab.pair.hasCredit 1 = true → s.fab.pair.journal = [] → Answers .resendRepeat s fun t =>
    t.out = [.ackRec false ((s.get Fld.TDM_HSEQ_SEQ + 1) % 2 ^ 32) 0] ∧ t.counter (Ctr.PAIR 1 4) = s.counter (Ctr.PAIR 1 4) + 1 ∧ Frame [.pair, .ctrs, .out] [] s t) ∧
  (s.fab.pair.gap = false → Answers .resendRepeat s fun t => Frame [] [] s t) ∧
  (Answers .recPad s fun t => Frame [] [] s t)

/-- Parts of R321, R323 to R325: what the active does with its stream. A RESEND within the stream sends again from there in a RESTART frame, and a RESEND beyond the stream has
every region resynchronized; an epoch is closed by an EPOCH record, and bulk resynchronization begins with BULK_BEGIN of the lowest region, whose RSYNC bit it clears. Choices
and readings of the model it rests on: log 156, 157 (DEDUCED). -/
def Obligations.MirrorSent : Prop := ∀ s : State, s.fabricRuns = true → (s.role = 2 ∨ s.role = 3) → s.streamUp = true → s.fab.pair.ackDue = false → s.fab.pair.reqDue = false → s.fab.pair.bulk = none →
  (∀ from_ : Word, ∀ r : Rec, seqAfter from_.toNat ((s.get Fld.TDM_HSEQ_SEQ + 1) % 2 ^ 32) = false → s.fab.pair.journal = [r] → seqAfter from_.toNat r.seq = false →
    s.fab.pair.hasCredit (framesOf r.body.length) = true → Answers (.recResend from_) s fun t => (.rec_ true { r with sent := true } ∈ t.out) ∧
    t.fab.pair.journal = [{ r with sent := true }] ∧ t.fab.pair.restartNext = false ∧ t.counter (Ctr.PAIR 0 4) = s.counter (Ctr.PAIR 0 4) + 1 ∧
    Frame [.pair, .ctrs, .out] [] s t) ∧
  (∀ from_ : Word, seqAfter from_.toNat ((s.get Fld.TDM_HSEQ_SEQ + 1) % 2 ^ 32) = true → s.get Fld.TDM_UNKNOWN_REGIONS ≠ allRegions → Answers (.recResend from_) s fun t =>
    t.get Fld.TDM_UNKNOWN_REGIONS = allRegions ∧ t.get Evt.TDM_OVERFLOW.field = 1 ∧ Frame [] [Fld.TDM_UNKNOWN_REGIONS, Evt.TDM_OVERFLOW.field] s t) ∧
  (s.fab.pair.sinceEpoch ≠ 0 → s.recFits (RecBody.epoch 0 0).length = false → Answers .epochTimerExpire s fun t => t.get Evt.TDM_OVERFLOW.field = 1 ∧
    t.fab.pair.mepoch = s.fab.pair.mepoch ∧ Frame [] [Evt.TDM_OVERFLOW.field] s t) ∧
  (s.fab.pair.sinceEpoch ≠ 0 → s.recFits (RecBody.epoch 0 0).length = true → Answers .epochTimerExpire s fun t => t.get Fld.TDM_HSEQ_SEQ = (s.get Fld.TDM_HSEQ_SEQ + 1) % 2 ^ 32 ∧
    t.fab.pair.mepoch = (s.fab.pair.mepoch + 1) % 2 ^ 32 ∧ t.fab.pair.sinceEpoch = 0 ∧ (∃ x ∈ t.fab.pair.journal, x.seq = t.get Fld.TDM_HSEQ_SEQ ∧ x.region = 20 ∧
    x.body = .epoch t.fab.pair.mepoch s.now) ∧ Frame [.pair, .ctrs, .out] [Fld.TDM_HSEQ_SEQ, Fld.TDM_JFILL_KIB] s t) ∧
  (s.fab.pair.sinceEpoch = 0 → Answers .epochTimerExpire s fun t => Frame [] [] s t) ∧
  (∀ rg : Nat, s.firstRsync = some rg → s.bulkMay = true → s.recFits 16 = true → Answers .bulkResyncStart s fun t =>
    ((s.fab.pair.recent ++ [((s.get Fld.TDM_HSEQ_SEQ + 1) % 2 ^ 32, rg)]) <+: t.fab.pair.recent) ∧ Frame mirrorParts (Evt.TDM_RESYNC_DONE.field :: mirrorFields) s t) ∧
  (s.get Fld.TDM_UNKNOWN_REGIONS = 0 → Answers .bulkResyncStart s fun t => Frame [] [] s t)

/-- Parts of R315 to R318, R327, R340: the Waggle lane. A block put out tells role, strap, MOD_ID and message; an intact block shows its message, its HSEQ and its sender's
role and measures the round trip; a FAILSTOP block holds the partner failed, silence does with the cable present, and blocks lost, silence with Tandem frames and an absent
cable raise their events and no more. Frames are stated for a module outside a pair (OFF) that does not follow its partner's time; what roles do with a block is RolesAndSwap.
Choices and readings of the model it rests on: log 164, 168, 169, 240 (DEDUCED). -/
def Obligations.WaggleLane : Prop := ∀ s : State, s.fabricRuns = true → s.role = 0 → s.get Fld.TIME_STATUS_SRC = 0 → s.flag Fld.TIME_CFG_FOLLOW_EN = false →
  (∀ w : WBlock, ∀ crc : BitVec 16, s.flag (Fld.LANE_STATUS_FAILED 264) = false → crc.toNat = crc16 w.symbols → s.flag Fld.WAGGLE_CFG_EN = true →
    Answers (.waggleBlockRx w crc false) s fun t => t.flag Fld.WAGGLE_STATUS_ALIVE = true ∧ t.get Fld.WAGGLE_STATUS_LOST = 0 ∧ t.get Fld.WAGGLE_STATUS_PEER_MSG = w.msg % 256 ∧
    t.get Fld.WAGGLE_PEER_HSEQ_HSEQ = w.hseq % 2 ^ 32 ∧ t.get Fld.TDM_ROLE_PEER_STATE = w.state % 16 ∧ t.get Fld.WAGGLE_RTT_NS = s.roundTrip w % 2 ^ 16 ∧
    t.counter (Ctr.PAIR 1 5) = s.counter (Ctr.PAIR 1 5) + 1 ∧ t.flag Fld.WAGGLE_STATUS_FAILSTOP = false ∧ t.fab.pair.peer = some w ∧ t.fab.pair.failed = 0 ∧
    Frame [.pair, .ctrs] [Field.all Addr.WAGGLE_STATUS, Field.all Addr.WAGGLE_PEER_HSEQ, Field.all Addr.WAGGLE_RTT, Fld.TDM_ROLE_PEER_STATE] s t) ∧
  (∀ w : WBlock, ∀ crc : BitVec 16, s.flag (Fld.LANE_STATUS_FAILED 264) = false → crc.toNat = crc16 w.symbols → s.flag Fld.WAGGLE_CFG_EN = true → s.fab.pair.failed = 0 →
    s.flag Fld.TDM_CFG_EN = true → Answers (.waggleFailstopRx w crc false) s fun t => t.flag Fld.WAGGLE_STATUS_ALIVE = true ∧ t.get Fld.WAGGLE_STATUS_LOST = 0 ∧
    t.get Fld.WAGGLE_STATUS_PEER_MSG = w.msg % 256 ∧ t.get Fld.WAGGLE_PEER_HSEQ_HSEQ = w.hseq % 2 ^ 32 ∧ t.get Fld.TDM_ROLE_PEER_STATE = w.state % 16 ∧
    t.get Fld.WAGGLE_RTT_NS = s.roundTrip w % 2 ^ 16 ∧ t.counter (Ctr.PAIR 1 5) = s.counter (Ctr.PAIR 1 5) + 1 ∧ t.flag Fld.WAGGLE_STATUS_FAILSTOP = true ∧
    t.fab.pair.failed = 1 ∧ t.get Evt.TDM_PARTNER_FAILED.field = 1 ∧
    Frame [.pair, .ctrs] [Field.all Addr.WAGGLE_STATUS, Field.all Addr.WAGGLE_PEER_HSEQ, Field.all Addr.WAGGLE_RTT, Fld.TDM_ROLE_PEER_STATE, Evt.TDM_PARTNER_FAILED.field] s t) ∧
  (∀ w : WBlock, ∀ crc : BitVec 16, s.flag (Fld.LANE_STATUS_FAILED 264) = false → crc.toNat = crc16 { w with msg := 1 }.symbols → s.flag Fld.WAGGLE_CFG_EN = true →
    Answers (.waggleSwapReqRx w crc false) s fun t => t.flag Fld.WAGGLE_STATUS_ALIVE = true ∧ t.get Fld.WAGGLE_STATUS_LOST = 0 ∧ t.get Fld.WAGGLE_STATUS_PEER_MSG = 1 ∧
    t.get Fld.WAGGLE_PEER_HSEQ_HSEQ = w.hseq % 2 ^ 32 ∧ t.get Fld.TDM_ROLE_PEER_STATE = w.state % 16 ∧ t.get Fld.WAGGLE_RTT_NS = s.roundTrip w % 2 ^ 16 ∧
    t.counter (Ctr.PAIR 1 5) = s.counter (Ctr.PAIR 1 5) + 1 ∧ t.fab.pair.peer = some { w with msg := 1 } ∧
    Frame [.pair, .ctrs] [Field.all Addr.WAGGLE_STATUS, Field.all Addr.WAGGLE_PEER_HSEQ, Field.all Addr.WAGGLE_RTT, Fld.TDM_ROLE_PEER_STATE] s t) ∧
  (∀ w : WBlock, ∀ crc : BitVec 16, s.flag (Fld.LANE_STATUS_FAILED 264) = false → crc.toNat = crc16 { w with state := 8, msg := 2 }.symbols → s.flag Fld.WAGGLE_CFG_EN = true →
    Answers (.waggleHandoverRx w crc false) s fun t => t.flag Fld.WAGGLE_STATUS_ALIVE = true ∧ t.get Fld.WAGGLE_STATUS_LOST = 0 ∧ t.get Fld.WAGGLE_STATUS_PEER_MSG = 2 ∧
    t.get Fld.WAGGLE_PEER_HSEQ_HSEQ = w.hseq % 2 ^ 32 ∧ t.get Fld.TDM_ROLE_PEER_STATE = 8 ∧ t.get Fld.WAGGLE_RTT_NS = s.roundTrip w % 2 ^ 16 ∧
    t.counter (Ctr.PAIR 1 5) = s.counter (Ctr.PAIR 1 5) + 1 ∧ t.fab.pair.peer = some { w with state := 8, msg := 2 } ∧
    Frame [.pair, .ctrs] [Field.all Addr.WAGGLE_STATUS, Field.all Addr.WAGGLE_PEER_HSEQ, Field.all Addr.WAGGLE_RTT, Fld.TDM_ROLE_PEER_STATE] s t) ∧
  (∀ w : WBlock, ∀ crc : BitVec 16, ∀ dm : Bool, (s.flag Fld.WAGGLE_CFG_EN = false ∨ s.flag (Fld.LANE_STATUS_FAILED 264) = true) → Answers (.waggleBlockRx w crc dm) s fun t =>
    Frame [] [] s t) ∧
  (∀ w : WBlock, ∀ crc : BitVec 16, ∀ dm : Bool, (dm = true ∨ crc.toNat ≠ crc16 w.symbols) → Answers (.waggleBlockRx w crc dm) s fun t => Frame [] [] s t) ∧
  (∀ w : WBlock, ∀ crc : BitVec 16, ∀ dm : Bool, (dm = true ∨ crc.toNat ≠ crc16 w.symbols) → Answers (.waggleFailstopRx w crc dm) s fun t => Frame [] [] s t) ∧
  (∀ w : WBlock, ∀ crc : BitVec 16, ∀ dm : Bool, (dm = true ∨ crc.toNat ≠ crc16 { w with msg := 1 }.symbols) → Answers (.waggleSwapReqRx w crc dm) s fun t => Frame [] [] s t) ∧
  (∀ w : WBlock, ∀ crc : BitVec 16, ∀ dm : Bool, (dm = true ∨ crc.toNat ≠ crc16 { w with state := 8, msg := 2 }.symbols) → Answers (.waggleHandoverRx w crc dm) s fun t =>
    Frame [] [] s t) ∧
  (s.waggleOn = true → Answers .waggleBlockTx s fun t => (∃ x : WBlock, t.out = [.waggle false x] ∧ x.state = s.role ∧ x.strap = s.strapB ∧
    x.modId = s.get Fld.CLK_STRAPS_MOD_ID ∧ x.msg = s.fab.pair.msgOut ∧ x.hseq = s.get Fld.TDM_HSEQ_SEQ ∧ x.low = s.fab.pair.lastHseq.headD (s.get Fld.TDM_HSEQ_SEQ) ∧
    x.rsync = s.get Fld.TDM_UNKNOWN_REGIONS ∧ x.tsTx = s.now ∧ x.echoTx = s.fab.pair.rxTs % 2 ^ 32 ∧ x.echoRx = s.fab.pair.rxAt % 2 ^ 32) ∧ Frame [.pair, .out] [] s t) ∧
  (s.waggleOn = false → Answers .waggleBlockTx s fun t => Frame [] [] s t) ∧
  (s.flag Fld.TDM_CFG_EN = true → s.fab.pair.failed = 0 → Answers .waggleSilence s fun t => t.fab.pair.failed = 2 ∧ t.get Evt.TDM_PARTNER_FAILED.field = 1 ∧
    t.flag Fld.WAGGLE_STATUS_ALIVE = false ∧ Frame [.pair, .clk] [Fld.WAGGLE_STATUS_ALIVE, Evt.TDM_PARTNER_FAILED.field] s t) ∧
  (Answers .waggleOnly s fun t => t.get Evt.WAGGLE_WAGGLE_ONLY.field = 1 ∧ t.flag Fld.WAGGLE_STATUS_ALIVE = false ∧
    Frame [] [Fld.WAGGLE_STATUS_ALIVE, Evt.WAGGLE_WAGGLE_ONLY.field] s t) ∧
  (Answers .cableOut s fun t => t.get Evt.WAGGLE_CABLE_OUT.field = 1 ∧ t.flag Fld.WAGGLE_STATUS_ALIVE = false ∧ t.fab.pair.failed = s.fab.pair.failed ∧
    Frame [.clk] [Fld.WAGGLE_STATUS_ALIVE, Evt.WAGGLE_CABLE_OUT.field] s t) ∧
  (s.flag Fld.WAGGLE_CFG_EN = true → s.get Fld.WAGGLE_STATUS_LOST < 15 → Answers .waggleBlockLost s fun t =>
    t.get Fld.WAGGLE_STATUS_LOST = min 16 (s.get Fld.WAGGLE_STATUS_LOST + 1) ∧ t.get Evt.WAGGLE_BLOCK_LOST.field = 1 ∧ t.counter (Ctr.PAIR 1 6) = s.counter (Ctr.PAIR 1 6) + 1 ∧
    Frame [.ctrs] [Fld.WAGGLE_STATUS_LOST, Evt.WAGGLE_BLOCK_LOST.field] s t) ∧
  (s.flag Fld.WAGGLE_CFG_EN = true → 15 ≤ s.get Fld.WAGGLE_STATUS_LOST → Answers .waggleBlockLost s fun t =>
    t.get Fld.WAGGLE_STATUS_LOST = min 16 (s.get Fld.WAGGLE_STATUS_LOST + 1) ∧ t.get Evt.WAGGLE_BLOCK_LOST.field = 1 ∧ t.counter (Ctr.PAIR 1 6) = s.counter (Ctr.PAIR 1 6) + 1 ∧
    t.flag Fld.WAGGLE_STATUS_ALIVE = false ∧ Frame [.ctrs] [Fld.WAGGLE_STATUS_LOST, Fld.WAGGLE_STATUS_ALIVE, Evt.WAGGLE_BLOCK_LOST.field] s t) ∧
  (∀ lock : Bool, ∀ inv : Bool, s.flag Fld.WAGGLE_STATUS_LOCK ≠ lock → Answers (.waggleLockChange lock inv) s fun t => t.flag Fld.WAGGLE_STATUS_LOCK = lock ∧
    t.get Evt.WAGGLE_LOCK.field = 1 ∧ (lock = true → t.flag (Fld.LANE_STATUS_POL_INV 264) = inv ∧ t.flag (Fld.LANE_STATUS_FAILED 264) = false) ∧
    Frame [] [Fld.WAGGLE_STATUS_LOCK, Fld.LANE_STATUS_POL_INV 264, Fld.LANE_STATUS_FAILED 264, Fld.LANE_STATUS_FAIL_CAUSE 264, Evt.WAGGLE_LOCK.field] s t)

/-- Parts of R327, R328, R332, R339: the roles of a pair. EN takes a module from OFF to ARBITRATE and back; the strap, the partner's role and the waiting time decide between
ACTIVE_SOLO and STANDBY_SYNC; a partner in STANDBY pairs and one lost ends the pair; a planned swap drains, hands over, and ends or is abandoned; a standby promotes on a
FAILSTOP, and waits for a command or for the restart of its partner after silence; every change raises ROLE_CHG, and a passive role disables dirty logs and poisons the pool.
Choices and readings of the model it rests on: log 13, 16, 80 (DESIGN CHOICE); log 164, 165, 170, 171 (DEDUCED). -/
def Obligations.RolesAndSwap : Prop := ∀ s : State, s.fabricRuns = true → s.get Fld.TIME_STATUS_SRC = 0 → s.flag Fld.TIME_CFG_FOLLOW_EN = false →
  (∀ m : Master, ∀ value : Word, s.takes m 0xA0 = true → s.flag Fld.TDM_LOCK_LOCK = false → s.role = 0 → s.trains = true → s.get Fld.TDM_LINK_STATE = 0 →
    Answers (.tdmEnable m value) s fun t => t.role = 1 ∧ t.get Evt.TDM_ROLE_CHG.field = 1 ∧ t.get Fld.TDM_LINK_STATE = 1 ∧
    (∀ j : Fin 9, t.word (Addr.LANE_TX_COEF (256 + j.val)) = s.word (Addr.LANE_TX_CFG (256 + j.val))) ∧ t.flag Fld.TDM_CFG_EN = true ∧
    (t.get Fld.TDM_CFG_PROMOTE_MODE = value.toNat / 2 % 2) ∧ (t.get Fld.TDM_CFG_ARB_SOLO = value.toNat / 4 % 2) ∧ (∀ n : Fin 64, t.flag (Fld.LOG_CFG_EN n.val) = false) ∧
    t.fab.comb.poisonAll = true ∧ Frame [.pair, .fab] ([Field.all Addr.TDM_CFG, Fld.TDM_LINK_STATE, Fld.TDM_LINK_MISMATCH, Fld.TDM_LINK_MPV, Fld.TDM_JFILL_KIB,
    Fld.TDM_ROLE_STATE, Evt.TDM_ROLE_CHG.field, Fld.LANE_STATUS_FAILED 264, Fld.LANE_STATUS_FAIL_CAUSE 264] ++ ((List.range 64).flatMap fun n =>
    [Fld.LOG_CFG_EN n, Fld.LOG_STATUS_ACTIVE n]) ++ (List.range 9).map fun j => Field.all (Addr.LANE_TX_COEF (256 + j))) s t) ∧
  (∀ m : Master, ∀ value : Word, s.takes m 0xA0 = true → s.flag Fld.TDM_LOCK_LOCK = false → s.role ≠ 0 → Answers (.tdmEnable m value) s fun t => t.role = s.role ∧
    t.flag Fld.TDM_CFG_EN = true ∧ (t.get Fld.TDM_CFG_PROMOTE_MODE = value.toNat / 2 % 2) ∧ (t.get Fld.TDM_CFG_ARB_SOLO = value.toNat / 4 % 2) ∧
    Frame [] [Field.all Addr.TDM_CFG] s t) ∧
  (∀ m : Master, ∀ value : Word, s.takes m 0xA0 = true → s.flag Fld.TDM_LOCK_LOCK = true → Answers (.tdmEnable m value) s fun t => Frame [] [] s t) ∧
  (∀ m : Master, ∀ value : Word, s.takes m 0xA0 = true → s.flag Fld.TDM_LOCK_LOCK = false → (s.role = 1 ∨ s.role = 2) → s.waggleOn = true →
    Answers (.tdmDisable m value) s fun t => t.role = 0 ∧ t.get Evt.TDM_ROLE_CHG.field = 1 ∧ t.flag Fld.TDM_CFG_EN = false ∧ t.get Fld.TDM_LINK_STATE = 0 ∧ t.out.length = 4 ∧
    (∀ x ∈ t.out, x.isFailstop = true) ∧ Frame [.pair, .out, .ctrs, .fab] ([Field.all Addr.TDM_CFG, Fld.TDM_LINK_STATE, Fld.TDM_LINK_MISMATCH, Fld.TDM_LINK_MPV,
    Fld.TDM_ROLE_STATE, Evt.TDM_ROLE_CHG.field, Evt.TDM_LINK_DOWN.field] ++ (List.range 8).flatMap fun j =>
    [Field.all (Addr.LANE_STATUS (256 + j)), Field.all (Addr.LANE_EYE_STATUS (256 + j)), (Evt.LANE_EYE_DONE (256 + j)).field]) s t) ∧
  (∀ m : Master, ∀ value : Word, s.takes m 0xA0 = true → s.flag Fld.TDM_LOCK_LOCK = false → s.role ≠ 0 → s.role ≠ 1 → s.role ≠ 2 → Answers (.tdmDisable m value) s fun t =>
    t.role = s.role ∧ t.flag Fld.TDM_CFG_EN = s.flag Fld.TDM_CFG_EN ∧ Frame [] [Field.all Addr.TDM_CFG] s t) ∧
  (∀ m : Master, ∀ w : WBlock, s.takes m 0xA0 = true → m.keeperOrBoard = true → s.role = 3 → s.fab.pair.failed = 0 → s.fab.pair.peer = some w → w.state = 5 → w.msg = 0 →
    Answers (.tdmCmdSwap m) s fun t => t.role = 8 ∧ t.get Evt.TDM_ROLE_CHG.field = 1 ∧ t.fab.pair.swapFrom = 3 ∧ Frame [.pair] [Fld.TDM_ROLE_STATE, Evt.TDM_ROLE_CHG.field] s t) ∧
  (∀ m : Master, s.takes m 0xA0 = true → m.keeperOrBoard = true → s.role = 5 → Answers (.tdmCmdSwap m) s fun t => t.role = 5 ∧ t.fab.pair.msgOut = 1 ∧ Frame [.pair] [] s t) ∧
  (∀ m : Master, s.takes m 0xA0 = true → (m.keeperOrBoard = false ∨ (s.role ≠ 3 ∧ s.role ≠ 5)) → Answers (.tdmCmdSwap m) s fun t => Frame [] [] s t) ∧
  (∀ m : Master, s.takes m 0xA0 = true → m.keeperOrBoard = true → s.role = 6 → s.fab.pair.openEpoch = [] → Answers (.tdmCmdPromote m) s fun t => t.role = 7 ∧
    t.get Evt.TDM_ROLE_CHG.field = 1 ∧ t.fab.pair.promo = some (4, allRegions) ∧ t.fab.pair.detectedAt = s.now) ∧
  (∀ m : Master, s.takes m 0xA0 = true → (m.keeperOrBoard = false ∨ s.role ≠ 6) → Answers (.tdmCmdPromote m) s fun t => Frame [] [] s t) ∧
  (∀ m : Master, s.takes m 0xA0 = true → m.keeperOrBoard = true → s.get Fld.TDM_LINK_STATE = 3 → Answers (.tdmCmdRetrain m) s fun t => t.get Fld.TDM_LINK_STATE = 1 ∧
    t.get Evt.TDM_LINK_DOWN.field = 1 ∧ t.counter (Ctr.PAIR 0 6) = s.counter (Ctr.PAIR 0 6) + 1 ∧
    (∀ j : Fin 9, t.word (Addr.LANE_TX_COEF (256 + j.val)) = s.word (Addr.LANE_TX_CFG (256 + j.val))) ∧
    Frame [.pair, .ctrs] ([Fld.TDM_LINK_STATE, Fld.TDM_LINK_MISMATCH, Fld.TDM_LINK_MPV, Evt.TDM_LINK_DOWN.field] ++ (List.range 9).map fun j =>
    Field.all (Addr.LANE_TX_COEF (256 + j))) s t) ∧
  (∀ m : Master, s.takes m 0xA0 = true → (m.keeperOrBoard = false ∨ s.get Fld.TDM_LINK_STATE ≠ 3) → Answers (.tdmCmdRetrain m) s fun t => Frame [] [] s t) ∧
  (∀ m : Master, s.takes m 0xA0 = true → m.keeperOrBoard = true → s.issues = true → s.get Fld.TDM_UNKNOWN_REGIONS ≠ allRegions → Answers (.tdmCmdResyncAll m) s fun t =>
    t.get Fld.TDM_UNKNOWN_REGIONS = allRegions ∧ t.get Evt.TDM_OVERFLOW.field = 1 ∧ Frame [] [Fld.TDM_UNKNOWN_REGIONS, Evt.TDM_OVERFLOW.field] s t) ∧
  (∀ m : Master, s.takes m 0xA0 = true → (m.keeperOrBoard = false ∨ s.issues = false) → Answers (.tdmCmdResyncAll m) s fun t => Frame [] [] s t) ∧
  (s.role = 1 → s.flag Fld.TDM_CFG_ARB_SOLO = true → s.flag Fld.WAGGLE_STATUS_ALIVE = false → s.partner = none → Answers .arbWaitExpire s fun t => t.role = 2 ∧
    t.get Evt.TDM_ROLE_CHG.field = 1 ∧ Frame [.pair] [Fld.TDM_ROLE_STATE, Evt.TDM_ROLE_CHG.field] s t) ∧
  ((s.flag Fld.TDM_CFG_ARB_SOLO = false ∨ s.role ≠ 1) → Answers .arbWaitExpire s fun t => Frame [] [] s t) ∧
  (∀ w : WBlock, ∀ crc : BitVec 16, s.flag Fld.WAGGLE_CFG_EN = true → s.flag (Fld.LANE_STATUS_FAILED 264) = false → crc.toNat = crc16 w.symbols → s.role = 1 →
    s.fab.pair.conflict = false → w.strap = s.strapB → Answers (.waggleBlockRx w crc false) s fun t => t.role = 1 ∧ t.get Evt.TDM_STRAP_CONFLICT.field = 1 ∧
    Frame [.pair, .ctrs] [Field.all Addr.WAGGLE_STATUS, Field.all Addr.WAGGLE_PEER_HSEQ, Field.all Addr.WAGGLE_RTT, Fld.TDM_ROLE_PEER_STATE, Evt.TDM_STRAP_CONFLICT.field] s t) ∧
  (∀ w : WBlock, ∀ crc : BitVec 16, s.flag Fld.WAGGLE_CFG_EN = true → s.flag (Fld.LANE_STATUS_FAILED 264) = false → crc.toNat = crc16 w.symbols → s.role = 1 →
    w.strap ≠ s.strapB → w.active = true → Answers (.waggleBlockRx w crc false) s fun t => t.role = 4 ∧ t.get Evt.TDM_ROLE_CHG.field = 1 ∧
    (∀ n : Fin 64, t.flag (Fld.LOG_CFG_EN n.val) = false) ∧ t.fab.comb.poisonAll = true ∧ t.fab.pair.adopt = true ∧
    Frame [.pair, .ctrs, .fab] ([Field.all Addr.WAGGLE_STATUS, Field.all Addr.WAGGLE_PEER_HSEQ, Field.all Addr.WAGGLE_RTT, Fld.TDM_ROLE_PEER_STATE, Fld.TDM_JFILL_KIB,
    Fld.TDM_UNKNOWN_REGIONS, Fld.TDM_ROLE_STATE, Evt.TDM_ROLE_CHG.field] ++ ((List.range 64).flatMap fun n => [Fld.LOG_CFG_EN n, Fld.LOG_STATUS_ACTIVE n])) s t) ∧
  (∀ w : WBlock, ∀ crc : BitVec 16, s.flag Fld.WAGGLE_CFG_EN = true → s.flag (Fld.LANE_STATUS_FAILED 264) = false → crc.toNat = crc16 w.symbols → s.role = 1 →
    w.strap ≠ s.strapB → w.state = 1 → s.strapB = false → Answers (.waggleBlockRx w crc false) s fun t => t.role = 2 ∧ t.get Evt.TDM_ROLE_CHG.field = 1 ∧
    Frame [.pair, .ctrs] [Field.all Addr.WAGGLE_STATUS, Field.all Addr.WAGGLE_PEER_HSEQ, Field.all Addr.WAGGLE_RTT, Fld.TDM_ROLE_PEER_STATE, Fld.TDM_ROLE_STATE,
    Evt.TDM_ROLE_CHG.field] s t) ∧
  (∀ w : WBlock, ∀ crc : BitVec 16, s.flag Fld.WAGGLE_CFG_EN = true → s.flag (Fld.LANE_STATUS_FAILED 264) = false → crc.toNat = crc16 w.symbols → s.role = 2 → w.state = 5 →
    w.msg = 0 → Answers (.waggleBlockRx w crc false) s fun t => t.role = 3 ∧ t.get Evt.TDM_ROLE_CHG.field = 1 ∧
    Frame [.pair, .ctrs] [Field.all Addr.WAGGLE_STATUS, Field.all Addr.WAGGLE_PEER_HSEQ, Field.all Addr.WAGGLE_RTT, Fld.TDM_ROLE_PEER_STATE, Fld.TDM_ROLE_STATE,
    Evt.TDM_ROLE_CHG.field] s t) ∧
  (∀ w : WBlock, ∀ crc : BitVec 16, s.flag Fld.WAGGLE_CFG_EN = true → s.flag (Fld.LANE_STATUS_FAILED 264) = false → crc.toNat = crc16 w.symbols → s.role = 2 → w.state = 4 →
    s.get Fld.TDM_LINK_MPV ≠ 0 → s.fab.pair.syncSeen = false → s.get Fld.TDM_UNKNOWN_REGIONS ≠ allRegions → Answers (.waggleBlockRx w crc false) s fun t => t.role = 2 ∧
    t.get Fld.TDM_UNKNOWN_REGIONS = allRegions ∧ t.fab.pair.syncSeen = true ∧
    Frame [.pair, .ctrs] [Field.all Addr.WAGGLE_STATUS, Field.all Addr.WAGGLE_PEER_HSEQ, Field.all Addr.WAGGLE_RTT, Fld.TDM_ROLE_PEER_STATE, Fld.TDM_UNKNOWN_REGIONS,
    Evt.TDM_OVERFLOW.field] s t) ∧
  (∀ w : WBlock, ∀ crc : BitVec 16, s.flag Fld.WAGGLE_CFG_EN = true → s.flag (Fld.LANE_STATUS_FAILED 264) = false → crc.toNat = crc16 w.symbols → s.role = 2 → w.active = true →
    s.strapB = false → s.fab.pair.split = false → Answers (.waggleBlockRx w crc false) s fun t => t.role = 2 ∧ t.get Evt.TDM_SPLIT.field = 1 ∧
    Frame [.pair, .ctrs] [Field.all Addr.WAGGLE_STATUS, Field.all Addr.WAGGLE_PEER_HSEQ, Field.all Addr.WAGGLE_RTT, Fld.TDM_ROLE_PEER_STATE, Evt.TDM_SPLIT.field] s t) ∧
  (∀ w : WBlock, ∀ crc : BitVec 16, s.flag Fld.WAGGLE_CFG_EN = true → s.flag (Fld.LANE_STATUS_FAILED 264) = false → crc.toNat = crc16 w.symbols → s.role = 3 → w.state = 6 →
    Answers (.waggleBlockRx w crc false) s fun t => t.role = 2 ∧ t.get Evt.TDM_ROLE_CHG.field = 1 ∧ t.get Evt.TDM_PAIR_LOST.field = 1 ∧
    Frame [.pair, .ctrs] [Field.all Addr.WAGGLE_STATUS, Field.all Addr.WAGGLE_PEER_HSEQ, Field.all Addr.WAGGLE_RTT, Fld.TDM_ROLE_PEER_STATE, Fld.TDM_ROLE_STATE,
    Evt.TDM_ROLE_CHG.field, Evt.TDM_PAIR_LOST.field] s t) ∧
  (∀ w : WBlock, ∀ crc : BitVec 16, s.flag Fld.WAGGLE_CFG_EN = true → s.flag (Fld.LANE_STATUS_FAILED 264) = false → crc.toNat = crc16 { w with msg := 1 }.symbols → s.role = 3 →
    w.state = 5 → Answers (.waggleSwapReqRx w crc false) s fun t => t.role = 8 ∧ t.get Evt.TDM_ROLE_CHG.field = 1 ∧ t.fab.pair.swapFrom = 3 ∧
    Frame [.pair, .ctrs] [Field.all Addr.WAGGLE_STATUS, Field.all Addr.WAGGLE_PEER_HSEQ, Field.all Addr.WAGGLE_RTT, Fld.TDM_ROLE_PEER_STATE, Fld.TDM_ROLE_STATE,
    Evt.TDM_ROLE_CHG.field] s t) ∧
  (∀ w : WBlock, ∀ crc : BitVec 16, s.flag Fld.WAGGLE_CFG_EN = true → s.flag (Fld.LANE_STATUS_FAILED 264) = false → crc.toNat = crc16 w.symbols → s.role = 3 →
    s.fab.pair.failed = 0 → s.flag Fld.TDM_CFG_EN = true → Answers (.waggleFailstopRx w crc false) s fun t => t.role = 2 ∧ t.get Evt.TDM_ROLE_CHG.field = 1 ∧
    t.get Evt.TDM_PAIR_LOST.field = 1 ∧ t.get Evt.TDM_PARTNER_FAILED.field = 1 ∧
    Frame [.pair, .ctrs] [Field.all Addr.WAGGLE_STATUS, Field.all Addr.WAGGLE_PEER_HSEQ, Field.all Addr.WAGGLE_RTT, Fld.TDM_ROLE_PEER_STATE, Fld.TDM_ROLE_STATE,
    Evt.TDM_ROLE_CHG.field, Evt.TDM_PAIR_LOST.field, Evt.TDM_PARTNER_FAILED.field] s t) ∧
  (∀ w : WBlock, ∀ crc : BitVec 16, s.flag Fld.WAGGLE_CFG_EN = true → s.flag (Fld.LANE_STATUS_FAILED 264) = false → crc.toNat = crc16 w.symbols → s.role = 5 →
    s.fab.pair.openEpoch = [] → Answers (.waggleFailstopRx w crc false) s fun t => t.role = 7 ∧ t.get Evt.TDM_ROLE_CHG.field = 1 ∧ (t.fab.pair.promo.map (·.1)) = some 1 ∧
    t.fab.pair.detectedAt = s.now) ∧
  (∀ w : WBlock, ∀ crc : BitVec 16, s.flag Fld.WAGGLE_CFG_EN = true → s.flag (Fld.LANE_STATUS_FAILED 264) = false → crc.toNat = crc16 { w with state := 8, msg := 2 }.symbols →
    s.role = 5 → seqAfter w.hseq (s.get Fld.TDM_ACKSEQ_SEQ) = false → s.fab.pair.swapHseq = none → s.fab.pair.openEpoch = [] → Answers (.waggleHandoverRx w crc false) s fun t =>
    t.role = 7 ∧ t.get Evt.TDM_ROLE_CHG.field = 1 ∧ (t.fab.pair.promo.map (·.1)) = some 3) ∧
  (∀ w : WBlock, ∀ crc : BitVec 16, s.flag Fld.WAGGLE_CFG_EN = true → s.flag (Fld.LANE_STATUS_FAILED 264) = false → crc.toNat = crc16 { w with state := 8, msg := 2 }.symbols →
    s.role = 5 → seqAfter w.hseq (s.get Fld.TDM_ACKSEQ_SEQ) = true → s.fab.pair.swapHseq = none → Answers (.waggleHandoverRx w crc false) s fun t => t.role = 5 ∧
    t.fab.pair.swapHseq = some w.hseq ∧ Frame [.pair, .ctrs] [Field.all Addr.WAGGLE_STATUS, Field.all Addr.WAGGLE_PEER_HSEQ, Field.all Addr.WAGGLE_RTT, Fld.TDM_ROLE_PEER_STATE,
    Fld.TDM_UNKNOWN_REGIONS] s t) ∧
  (∀ w : WBlock, ∀ crc : BitVec 16, s.flag Fld.WAGGLE_CFG_EN = true → s.flag (Fld.LANE_STATUS_FAILED 264) = false → crc.toNat = crc16 w.symbols → s.role = 6 → w.state = 1 →
    s.fab.pair.begun = 0 → w.rsync = 0 → s.fab.pair.openEpoch = [] → Answers (.waggleBlockRx w crc false) s fun t => t.role = 7 ∧ t.get Evt.TDM_ROLE_CHG.field = 1 ∧
    (t.fab.pair.promo.map (·.1)) = some 5) ∧
  (∀ w : WBlock, ∀ crc : BitVec 16, s.flag Fld.WAGGLE_CFG_EN = true → s.flag (Fld.LANE_STATUS_FAILED 264) = false → crc.toNat = crc16 w.symbols → s.role = 6 → w.active = true →
    Answers (.waggleBlockRx w crc false) s fun t => t.role = 4 ∧ t.get Evt.TDM_ROLE_CHG.field = 1 ∧ (∀ n : Fin 64, t.flag (Fld.LOG_CFG_EN n.val) = false) ∧
    t.fab.comb.poisonAll = true ∧ t.fab.pair.adopt = true ∧
    Frame [.pair, .ctrs, .fab] ([Field.all Addr.WAGGLE_STATUS, Field.all Addr.WAGGLE_PEER_HSEQ, Field.all Addr.WAGGLE_RTT, Fld.TDM_ROLE_PEER_STATE, Fld.TDM_JFILL_KIB,
    Fld.TDM_UNKNOWN_REGIONS, Fld.TDM_ROLE_STATE, Evt.TDM_ROLE_CHG.field] ++ ((List.range 64).flatMap fun n => [Fld.LOG_CFG_EN n, Fld.LOG_STATUS_ACTIVE n])) s t) ∧
  (∀ w : WBlock, ∀ crc : BitVec 16, s.flag Fld.WAGGLE_CFG_EN = true → s.flag (Fld.LANE_STATUS_FAILED 264) = false → crc.toNat = crc16 w.symbols → s.role = 8 →
    s.fab.pair.handover = true → w.active = true → Answers (.waggleBlockRx w crc false) s fun t => t.role = 5 ∧ t.get Evt.TDM_ROLE_CHG.field = 1 ∧ t.fab.pair.handover = false ∧
    (∀ n : Fin 64, t.flag (Fld.LOG_CFG_EN n.val) = false) ∧ t.fab.comb.poisonAll = true ∧
    Frame [.pair, .ctrs, .fab] ([Field.all Addr.WAGGLE_STATUS, Field.all Addr.WAGGLE_PEER_HSEQ, Field.all Addr.WAGGLE_RTT, Fld.TDM_ROLE_PEER_STATE, Fld.TDM_JFILL_KIB,
    Fld.TDM_UNKNOWN_REGIONS, Fld.TDM_ROLE_STATE, Evt.TDM_ROLE_CHG.field] ++ ((List.range 64).flatMap fun n => [Fld.LOG_CFG_EN n, Fld.LOG_STATUS_ACTIVE n])) s t) ∧
  (∀ w : WBlock, ∀ crc : BitVec 16, s.flag Fld.WAGGLE_CFG_EN = true → s.flag (Fld.LANE_STATUS_FAILED 264) = false → crc.toNat = crc16 w.symbols → s.role = 8 →
    s.fab.pair.handover = false → s.fab.pair.failed = 0 → s.flag Fld.TDM_CFG_EN = true → s.fab.pair.swapFrom = 3 → Answers (.waggleFailstopRx w crc false) s fun t => t.role = 2 ∧
    t.get Evt.TDM_ROLE_CHG.field = 1 ∧ t.get Evt.TDM_SWAP_FAIL.field = 1 ∧ t.get Evt.TDM_PAIR_LOST.field = 1 ∧
    Frame [.pair, .ctrs] [Field.all Addr.WAGGLE_STATUS, Field.all Addr.WAGGLE_PEER_HSEQ, Field.all Addr.WAGGLE_RTT, Fld.TDM_ROLE_PEER_STATE, Fld.TDM_ROLE_STATE,
    Evt.TDM_ROLE_CHG.field, Evt.TDM_SWAP_FAIL.field, Evt.TDM_PAIR_LOST.field, Evt.TDM_PARTNER_FAILED.field] s t) ∧
  (s.flag Fld.TDM_CFG_EN = true → s.fab.pair.failed = 0 → s.role = 5 → s.flag Fld.TDM_CFG_PROMOTE_MODE = true → Answers .waggleSilence s fun t => t.role = 6 ∧
    t.get Evt.TDM_ROLE_CHG.field = 1 ∧ t.get Evt.TDM_PAIR_LOST.field = 1 ∧ t.get Evt.TDM_PARTNER_FAILED.field = 1 ∧ (∀ n : Fin 64, t.flag (Fld.LOG_CFG_EN n.val) = false) ∧
    t.fab.comb.poisonAll = true ∧ Frame [.pair, .fab, .clk] ([Fld.WAGGLE_STATUS_ALIVE, Fld.TDM_UNKNOWN_REGIONS, Fld.TDM_ROLE_STATE, Evt.TDM_ROLE_CHG.field,
    Evt.TDM_PAIR_LOST.field, Evt.TDM_PARTNER_FAILED.field] ++ ((List.range 64).flatMap fun n => [Fld.LOG_CFG_EN n, Fld.LOG_STATUS_ACTIVE n])) s t) ∧
  (s.flag Fld.TDM_CFG_EN = true → s.fab.pair.failed = 0 → s.role = 5 → s.flag Fld.TDM_CFG_PROMOTE_MODE = false → s.fab.pair.openEpoch = [] → Answers .waggleSilence s fun t =>
    t.role = 7 ∧ t.get Evt.TDM_ROLE_CHG.field = 1 ∧ t.fab.pair.promo = some (2, allRegions)) ∧
  (s.role = 8 → s.fab.pair.handover = false → s.drained = true → s.recFits (RecBody.epoch 0 0).length = true → s.partner = none → s.fab.pair.failed = 0 →
    Answers .swapDrainDone s fun t => t.role = 8 ∧ t.fab.pair.handover = true ∧ t.fab.pair.msgOut = 2 ∧ t.isActive = false ∧
    t.fab.pair.mepoch = (s.fab.pair.mepoch + 1) % 2 ^ 32 ∧ t.get Fld.TDM_HSEQ_SEQ = (s.get Fld.TDM_HSEQ_SEQ + 1) % 2 ^ 32 ∧
    (∀ n : Fin 64, t.flag (Fld.LOG_CFG_EN n.val) = false) ∧ t.fab.comb.poisonAll = true ∧
    Frame [.pair, .fab, .ctrs, .out] ([Fld.TDM_HSEQ_SEQ, Fld.TDM_JFILL_KIB] ++ ((List.range 64).flatMap fun n => [Fld.LOG_CFG_EN n, Fld.LOG_STATUS_ACTIVE n])) s t) ∧
  ((s.role ≠ 8 ∨ s.drained = false) → Answers .swapDrainDone s fun t => Frame [] [] s t) ∧
  (∀ w : WBlock, s.role = 8 → s.fab.pair.handover = false → s.fab.pair.swapFrom = 3 → s.fab.pair.failed = 0 → s.fab.pair.peer = some w → w.state = 5 → w.msg = 0 →
    Answers .swapTimeout s fun t => t.role = 3 ∧ t.get Evt.TDM_ROLE_CHG.field = 1 ∧ t.get Evt.TDM_SWAP_FAIL.field = 1 ∧ t.fab.pair.msgOut = 3 ∧
    Frame [.pair] [Fld.TDM_ROLE_STATE, Evt.TDM_ROLE_CHG.field, Evt.TDM_SWAP_FAIL.field] s t) ∧
  ((s.role ≠ 8 ∨ s.fab.pair.handover = true) → Answers .swapTimeout s fun t => Frame [] [] s t) ∧
  (s.role = 5 → s.fab.pair.swapHseq ≠ none → s.fab.pair.openEpoch = [] → Answers .standbySwapToExpire s fun t => t.role = 7 ∧ t.get Evt.TDM_ROLE_CHG.field = 1 ∧
    (t.fab.pair.promo.map (·.1)) = some 3) ∧
  (s.fab.pair.swapHseq = none → Answers .standbySwapToExpire s fun t => Frame [] [] s t) ∧
  (∀ c : Nat, ∀ u : Nat, s.role = 7 → s.fab.pair.promo = some (c, u) → c < 16 → u < 2 ^ 20 → s.partner = none → Answers .promotionComplete s fun t => t.role = 2 ∧
    t.get Evt.TDM_ROLE_CHG.field = 1 ∧ t.get Evt.TDM_PROMOTED.field = 1 ∧ t.get Fld.TDM_ROLE_CAUSE = c ∧ t.get Fld.TDM_PROMO_TAIL = u % 2 ^ 16 ∧
    t.get Fld.TDM_PROMO_UNSURE = u / 2 ^ 16 ∧ t.get Fld.TDM_PROMO_T_NS = (s.now - s.fab.pair.detectedAt) % 2 ^ 32 ∧ t.get Fld.TDM_HSEQ_SEQ = s.get Fld.TDM_HSEQ_SEQ ∧
    t.fab.pair.nseq = (s.fab.pair.nseq + 1) % 256 ∧ t.fab.pair.promo = none) ∧
  (s.role ≠ 7 → Answers .promotionComplete s fun t => Frame [] [] s t) ∧
  (∀ p : Port, ∀ v : Vdm, (s.islUsable p.val = false ∨ v.headed .localReceiver = false) → Answers (.swarmNoticeRx p v) s fun t => Frame [] [] s t) ∧
  (∀ p : Port, ∀ v : Vdm, s.islUsable p.val = true → v.headed .localReceiver = true → s.isActive = false → Answers (.swarmNoticeRx p v) s fun t =>
    t.counter (Ctr.PORT p.val 28) = s.counter (Ctr.PORT p.val 28) + 1 ∧ Frame [.ctrs] [] s t) ∧
  (∀ p : Port, ∀ v : Vdm, s.islUsable p.val = true → v.headed .localReceiver = true → s.isActive = true → (v.proto ≠ 0xD7 ∨ v.op ≠ 1) → Answers (.swarmNoticeRx p v) s fun t =>
    t.get Evt.SWARM_NOTICE.field = 1 ∧ t.get Evt.SWARM_VER_DISCARD.field = 1 ∧ t.counter (Ctr.PAIR (2 + p.val) 4) = s.counter (Ctr.PAIR (2 + p.val) 4) + 1 ∧
    t.fab.pair.notices = s.fab.pair.notices ∧ Frame [.ctrs] [Evt.SWARM_NOTICE.field, Evt.SWARM_VER_DISCARD.field] s t) ∧
  (∀ p : Port, ∀ v : Vdm, s.islUsable p.val = true → v.headed .localReceiver = true → s.isActive = true → v.proto = 0xD7 → v.op = 1 → s.fab.home.snoops = [] →
    Answers (.swarmNoticeRx p v) s fun t => t.get Evt.SWARM_NOTICE.field = 1 ∧
    (v.ver < Config.noticeMin (s.get Fld.DEV_FW_VER_VER) ∨ Config.noticeMax (s.get Fld.DEV_FW_VER_VER) < v.ver → t.get Evt.SWARM_VER_DISCARD.field = 1) ∧
    (Config.noticeMin (s.get Fld.DEV_FW_VER_VER) ≤ v.ver ∧ v.ver ≤ Config.noticeMax (s.get Fld.DEV_FW_VER_VER) → assoc t.fab.pair.notices (v.b14.toNat % 8) = some v.arg ∧
    t.get Evt.SWARM_VER_DISCARD.field = s.get Evt.SWARM_VER_DISCARD.field) ∧ Frame [.ctrs, .pair, .fab, .free] [Evt.SWARM_NOTICE.field, Evt.SWARM_VER_DISCARD.field] s t)

/-- Parts of R16, R143, R152, R216, R267, R274, R275, R284, R285, R309, R335, R336, R454: messages that arrive on a port whose link is up. One that fails a spoof check is
discarded and counted; a passive module discards what devices and other modules send; a CXL.mem request of a host goes where its address leads, under its subscriber and epoch,
where the rule that decides it grants what it needs, else it is a rule fault answered to its sender; a request for a vPPB that does not forward is answered and counted; an
answer that its tracker slot expects goes to the requester under the requester's tag and frees the slot, and any other is discarded and raised. Choices and readings of the
model it rests on: log 13, 80 (DESIGN CHOICE); log 118, 134 (DEDUCED). -/
def Obligations.IngressChecks : Prop := ∀ s : State, ∀ p : Port, ∀ m : Msg, s.fabricRuns = true → s.linkUp p.val = true → (∀ o ∈ s.fab.lag, o.tile ≠ p.val / 16 ∨ o.since + 200 ≤ s.now) → s.tileRoom p.val m.kind.service = true → m.kind ≠ .ptmReq →
  (∀ k : Nat, (s.isActive = true ∨ s.roleIs p.val 0 = true) → s.spoofField p.val m = some k → Answers (.requestIngress p m) s fun t =>
    t.counter (Ctr.SPOOF p.val k) = s.counter (Ctr.SPOOF p.val k) + 1 ∧ t.get Evt.HAT_SPOOF.field = 1 ∧ (s.get (Fld.ERR_FIRST_ATYPE_VALID 0x50) = 0 →
    t.get (Fld.ERR_FIRST_ATYPE_VALID 0x50) = 1 ∧ t.get (Fld.ERR_FIRST_ADDR_LO_ADDR 0x50) = 0) ∧
    Frame [.ctrs] [Field.all (Addr.ERR_FIRST_ADDR_LO 0x50), Field.all (Addr.ERR_FIRST_ADDR_LO 0x50 + 4), Field.all (Addr.ERR_FIRST_MASTER 0x50),
    Field.all (Addr.ERR_FIRST_ATYPE 0x50), Field.all (Addr.ERR_FIRST_TS_LO 0x50), Field.all (Addr.ERR_FIRST_TS_LO 0x50 + 4), Evt.HAT_SPOOF.field] s t) ∧
  (∀ k : Nat, (s.isActive = true ∨ s.roleIs p.val 0 = true) → s.spoofField p.val m = some k → m.kind.isAnswer = true → Answers (.answerReceive p m) s fun t =>
    t.counter (Ctr.SPOOF p.val k) = s.counter (Ctr.SPOOF p.val k) + 1 ∧ t.get Evt.HAT_SPOOF.field = 1 ∧ (s.get (Fld.ERR_FIRST_ATYPE_VALID 0x50) = 0 →
    t.get (Fld.ERR_FIRST_ATYPE_VALID 0x50) = 1 ∧ t.get (Fld.ERR_FIRST_ADDR_LO_ADDR 0x50) = 0) ∧
    Frame [.ctrs] [Field.all (Addr.ERR_FIRST_ADDR_LO 0x50), Field.all (Addr.ERR_FIRST_ADDR_LO 0x50 + 4), Field.all (Addr.ERR_FIRST_MASTER 0x50),
    Field.all (Addr.ERR_FIRST_ATYPE 0x50), Field.all (Addr.ERR_FIRST_TS_LO 0x50), Field.all (Addr.ERR_FIRST_TS_LO 0x50 + 4), Evt.HAT_SPOOF.field] s t) ∧
  (s.isActive = false → s.roleIs p.val 0 = false → Answers (.requestIngress p m) s fun t => t.counter (Ctr.PORT p.val 28) = s.counter (Ctr.PORT p.val 28) + 1 ∧
    Frame [.ctrs] [] s t) ∧
  (s.isActive = false → s.roleIs p.val 0 = false → m.kind.isAnswer = true → Answers (.answerReceive p m) s fun t =>
    t.counter (Ctr.PORT p.val 28) = s.counter (Ctr.PORT p.val 28) + 1 ∧ Frame [.ctrs] [] s t) ∧
  (∀ v : Nat, ∀ u : Nat, ∀ h : Nat, ∀ i : Nat, ∀ off : Nat, s.isActive = true → s.role ≠ 8 → s.roleIs p.val 0 = true → s.spoofField p.val m = none → s.vcsOn p.val = some v →
    m.kind = .memRd → m.mv = .a → u = s.get (Fld.VPPB_SUBID_SUBID (s.upstreamVppb v)) → s.destOf v m.addr true = .home h i off →
    ruleGrants (s.bank (p.val / 16)) u 0 m.addr (Perm.r + Perm.cs) = true → Answers (.requestIngress p m) s fun t => t.fab.sw.waiting.dropLast = s.fab.sw.waiting ∧
    t.fab.sw.waiting.getLast?.map (fun x => (x.kind, x.dst, x.hive, x.hslot, x.off)) = some (.memRd, 64, h, some i, off) ∧ t.fab.sw.waiting.getLast?.map (fun x =>
    (x.sub, x.tag, x.src, x.epoch)) = some (u, m.tag, p.val, some (s.ruleEpoch (p.val / 16))) ∧ Frame [.fab, .ctrs] [Evt.SCHED_RED.field] s t) ∧
  (∀ v : Nat, ∀ u : Nat, ∀ h : Nat, ∀ i : Nat, ∀ off : Nat, s.isActive = true → s.role ≠ 8 → s.roleIs p.val 0 = true → s.spoofField p.val m = none → s.vcsOn p.val = some v →
    m.kind = .memRd → m.mv = .a → u = s.get (Fld.VPPB_SUBID_SUBID (s.upstreamVppb v)) → s.destOf v m.addr true = .home h i off →
    ruleGrants (s.bank (p.val / 16)) u 0 m.addr (Perm.r + Perm.cs) = false → Answers (.requestIngress p m) s fun t =>
    (∀ x ∈ t.fab.sw.waiting.drop s.fab.sw.waiting.length, x.dst = p.val ∧ x.kind.isAnswer = true ∧ x.tag = m.tag) ∧
    t.fab.sw.waiting.take s.fab.sw.waiting.length = s.fab.sw.waiting ∧ s.fab.sw.waiting.length < t.fab.sw.waiting.length ∧ t.get Evt.HAT_RULE_FAULT.field = 1 ∧
    t.counter (Ctr.SUB u 6) = s.counter (Ctr.SUB u 6) + 1 ∧ t.fab.home = s.fab.home ∧
    Frame [.fab, .ctrs, .out] [Field.all (Addr.ERR_FIRST_ADDR_LO 0x50), Field.all (Addr.ERR_FIRST_ADDR_LO 0x50 + 4), Field.all (Addr.ERR_FIRST_MASTER 0x50),
    Field.all (Addr.ERR_FIRST_ATYPE 0x50), Field.all (Addr.ERR_FIRST_TS_LO 0x50), Field.all (Addr.ERR_FIRST_TS_LO 0x50 + 4), Evt.HAT_RULE_FAULT.field] s t) ∧
  (∀ v : Nat, ∀ u : Nat, s.isActive = true → s.role ≠ 8 → s.roleIs p.val 0 = true → s.spoofField p.val m = none → s.vcsOn p.val = some v → m.kind = .memRd → m.mv = .a →
    u = s.get (Fld.VPPB_SUBID_SUBID (s.upstreamVppb v)) → s.destOf v m.addr true = .nowhere → Answers (.requestIngress p m) s fun t =>
    (∀ x ∈ t.fab.sw.waiting.drop s.fab.sw.waiting.length, x.dst = p.val ∧ x.kind.isAnswer = true ∧ x.tag = m.tag) ∧ s.fab.sw.waiting.length < t.fab.sw.waiting.length ∧
    t.get Evt.HAT_RULE_FAULT.field = 1 ∧ Frame [.fab, .ctrs, .out] [Field.all (Addr.ERR_FIRST_ADDR_LO 0x50), Field.all (Addr.ERR_FIRST_ADDR_LO 0x50 + 4),
    Field.all (Addr.ERR_FIRST_MASTER 0x50), Field.all (Addr.ERR_FIRST_ATYPE 0x50), Field.all (Addr.ERR_FIRST_TS_LO 0x50), Field.all (Addr.ERR_FIRST_TS_LO 0x50 + 4),
    Evt.HAT_RULE_FAULT.field] s t) ∧
  (∀ v : Nat, ∀ u : Nat, ∀ n : Nat, s.isActive = true → s.role ≠ 8 → s.roleIs p.val 0 = true → s.spoofField p.val m = none → s.vcsOn p.val = some v → m.kind = .memRd →
    m.mv = .a → u = s.get (Fld.VPPB_SUBID_SUBID (s.upstreamVppb v)) → s.destOf v m.addr true = .unbound n → Answers (.requestIngress p m) s fun t =>
    (∀ x ∈ t.fab.sw.waiting.drop s.fab.sw.waiting.length, x.dst = p.val ∧ x.kind.isAnswer = true ∧ x.tag = m.tag) ∧ s.fab.sw.waiting.length < t.fab.sw.waiting.length ∧
    t.get Evt.VCS_UNBOUND_ACCESS.field = 1 ∧ t.counter (Ctr.VPPB n 1) = s.counter (Ctr.VPPB n 1) + 1 ∧ Frame [.fab, .ctrs] [Evt.VCS_UNBOUND_ACCESS.field] s t) ∧
  (s.isActive = true → s.roleIs p.val 0 = true → s.role ≠ 8 → s.spoofField p.val m = none → s.vcsOn p.val = none → m.kind = .memRd → Answers (.requestIngress p m) s fun t =>
    t.counter (Ctr.PORT p.val 29) = s.counter (Ctr.PORT p.val 29) + 1 ∧ (∀ x ∈ t.fab.sw.waiting.drop s.fab.sw.waiting.length, x.dst = p.val ∧ x.kind.isAnswer = true ∧
    x.tag = m.tag) ∧ Frame [.fab, .ctrs] [] s t) ∧
  (∀ k : Nat, ∀ e : TSlot, s.isActive = true → s.roleIs p.val 0 = false → s.roleIs p.val 2 = false → s.spoofField p.val m = none → m.kind = .memData →
    s.isWindowTarget p.val m.ld = false → s.tagSlot p.val 0 m.tag = k → assoc (s.slots p.val 0) k = some e → m.tag = s.trackTag p.val 0 e.gen k → e.stale = false →
    e.vppb < 4096 → s.vppbGen e.vppb = e.gen → e.owesData = true → e.owesNdr = false → m.final = true → m.spid = none → m.dpid = none → Answers (.answerReceive p m) s fun t =>
    assoc (t.slots p.val 0) k = none ∧ t.fab.sw.waiting.dropLast = s.fab.sw.waiting ∧ t.fab.sw.waiting.getLast?.map (fun x =>
    (x.kind, x.dst, x.tag, x.sub, x.data)) = some (.memData, e.msg.src, e.msg.tag, e.msg.sub, m.data) ∧ Frame [.fab, .ctrs, .free] [] s t) ∧
  (∀ k : Nat, ∀ e : TSlot, s.isActive = true → s.roleIs p.val 0 = false → s.roleIs p.val 2 = false → s.spoofField p.val m = none → m.kind = .memData →
    s.isWindowTarget p.val m.ld = false → s.tagSlot p.val 0 m.tag = k → assoc (s.slots p.val 0) k = some e → (e.stale = true ∨ s.vppbGen e.vppb ≠ e.gen) → e.vppb < 4096 →
    Answers (.answerReceive p m) s fun t => t.fab = s.fab ∧ t.get Evt.VCS_GEN_DISCARD.field = 1 ∧ t.counter (Ctr.VPPB e.vppb 0) = s.counter (Ctr.VPPB e.vppb 0) + 1 ∧
    Frame [.ctrs] [Evt.VCS_GEN_DISCARD.field] s t)

/-- Parts of R286, R287, R293, R294, R302: the functions and channels of the data mover. A function is enabled where its entry passes the checks and its host has not enabled
functions, and reset by its host; a channel of an enabled function is enabled into READY with an empty ring; a tail starts it or, past the ring, halts it; a disabled channel
stops, forgets its descriptors and reaches DISABLED; a halted one is reset into READY. -/
def Obligations.MoverChannels : Prop := ∀ s : State,
  (∀ m : Master, ∀ u : Vf, ∀ value : Word, s.takes m 0x90 = true → s.isActive = true → s.vfHeld u.val = false → value.getLsbD 0 = true →
    s.vfOk u.val (bitsOf value.toNat 1 2) (bitsOf value.toNat 4 6) = true → Answers (.vfEnable m u value) s fun t => t.vfOn u.val (bitsOf value.toNat 1 2) = true ∧
    t.get (Fld.VF_CFG_VCS u.val) = (bitsOf value.toNat 4 6) ∧ Frame mirrorParts ([Fld.VF_CFG_EN u.val, Fld.VF_CFG_KIND u.val, Fld.VF_CFG_VCS u.val] ++ mirrorFields) s t) ∧
  (∀ m : Master, ∀ u : Vf, ∀ value : Word, s.takes m 0x90 = true → s.isActive = true → s.vfHeld u.val = false → value.getLsbD 0 = true →
    s.vfOk u.val (bitsOf value.toNat 1 2) (bitsOf value.toNat 4 6) = false → Answers (.vfEnable m u value) s fun t => t.get Evt.MOVER_CFG_IGNORED.field = 1 ∧
    Frame mirrorParts (Evt.MOVER_CFG_IGNORED.field :: mirrorFields) s t) ∧
  (∀ m : Master, ∀ u : Vf, ∀ value : Word, s.takes m 0x90 = true → s.isActive = true → s.vfHeld u.val = true → Answers (.vfEnable m u value) s fun t =>
    Frame mirrorParts mirrorFields s t) ∧
  (∀ u : Vf, s.serving = true → s.vfOn u.val 1 = true → (∀ c ∈ s.vfChannels u.val, s.chState c = 0) → Answers (.vfFlr u) s fun t => t.get Evt.MOVER_VF_RESET_DONE.field = 1 ∧
    (u.val ∉ t.fab.mover.pasidOn) ∧ (u.val ∉ t.fab.mover.flr) ∧ Frame [.fab] [Evt.MOVER_VF_RESET_DONE.field] s t) ∧
  (∀ u : Vf, ∀ c : Nat, s.serving = true → s.vfOn u.val 1 = true → (c ∈ s.vfChannels u.val) → s.chState c ≠ 0 → (∀ x ∈ s.vfChannels u.val, x < 64) → Answers (.vfFlr u) s fun t =>
    (u.val ∈ t.fab.mover.flr) ∧ (c ∈ t.fab.mover.stopping) ∧ t.chRuns c = [] ∧ t.get (Fld.CH_CTL_ENABLE c) = 0) ∧
  (∀ m : Master, ∀ c : Chan, ∀ value : Word, ∀ v : Nat, m.keeperOrBoard = true → s.takes m 0x90 = true → value.getLsbD 1 = false → s.chState c.val = 0 → s.chanVf c.val = some v →
    s.flag Fld.MOVER_CFG_EN = true → Answers (.chEnable m c value) s fun t => t.chState c.val = 1 ∧ t.chHead c.val = 0 ∧ t.chTail c.val = 0 ∧
    t.get (Fld.CH_STATUS_ERR c.val) = 0 ∧ t.flag (Fld.CH_CTL_ENABLE c.val) = true ∧
    Frame [] [Field.all (Addr.CH_STATUS c.val), Field.all (Addr.CH_CTL c.val), Field.all (Addr.CH_HEAD c.val), Field.all (Addr.CH_TAIL c.val)] s t) ∧
  (∀ m : Master, ∀ c : Chan, ∀ value : Word, m.keeperOrBoard = true → s.takes m 0x90 = true → value.getLsbD 1 = false → s.chanVf c.val = none →
    Answers (.chEnable m c value) s fun t => Frame [] [] s t) ∧
  (∀ m : Master, ∀ c : Chan, m.keeperOrBoard = true → s.takes m 0x90 = true → s.chState c.val ≠ 0 → Answers (.chDisable m c) s fun t => (c.val ∈ t.fab.mover.stopping) ∧
    t.chRuns c.val = [] ∧ t.flag (Fld.CH_CTL_ENABLE c.val) = false ∧ (∀ e ∈ t.fab.mover.slots, (e.2.msg.mover.map fun x => x.1) = some c.val → e.2.stale = true) ∧
    Frame [.fab] [Fld.CH_STATUS_INFLIGHT c.val, Fld.CH_CTL_ENABLE c.val] s t) ∧
  (∀ c : Chan, s.fabricRuns = true → (c.val ∈ s.fab.mover.stopping) → s.fab.mover.flr = [] → Answers (.chDisabled c) s fun t => t.chState c.val = 0 ∧
    (c.val ∉ t.fab.mover.stopping) ∧ t.get (Fld.CH_STATUS_ERR c.val) = 0 ∧ Frame [.fab] [Fld.CH_STATUS_STATE c.val, Fld.CH_STATUS_ERR c.val] s t) ∧
  (∀ c : Chan, ∀ u : Nat, s.fabricRuns = true → (c.val ∈ s.fab.mover.stopping) → s.fab.mover.flr = [u] → s.vfChannels u = [c.val] → Answers (.chDisabled c) s fun t =>
    t.chState c.val = 0 ∧ t.get Evt.MOVER_VF_RESET_DONE.field = 1 ∧ t.fab.mover.flr = [] ∧
    Frame [.fab] [Fld.CH_STATUS_STATE c.val, Fld.CH_STATUS_ERR c.val, Evt.MOVER_VF_RESET_DONE.field] s t) ∧
  (∀ m : Master, ∀ c : Chan, m.keeperOrBoard = true → s.takes m 0x90 = true → s.chState c.val = 3 → (c.val ∉ s.fab.mover.stopping) → s.flag (Fld.CH_CTL_ENABLE c.val) = true →
    Answers (.chReset m c) s fun t => t.chState c.val = 1 ∧ t.chRuns c.val = [] ∧ t.chHead c.val = 0 ∧ t.chTail c.val = 0 ∧ t.get (Fld.CH_STATUS_ERR c.val) = 0 ∧
    Frame [.fab] [Field.all (Addr.CH_STATUS c.val), Field.all (Addr.CH_CTL c.val), Field.all (Addr.CH_HEAD c.val), Field.all (Addr.CH_TAIL c.val)] s t) ∧
  (∀ m : Master, ∀ c : Chan, ∀ value : Word, m.keeperOrBoard = true → s.takes m 0x90 = true → (c.val ∉ s.fab.mover.stopping) → s.chState c.val = 1 → value.toNat < 65536 →
    value.toNat < s.ringSize c.val → value.toNat ≠ s.chHead c.val → s.flag (Fld.CH_RING_CFG_PASID_V c.val) = false → Answers (.chTailWrite m c value) s fun t =>
    t.chState c.val = 2 ∧ t.chTail c.val = value.toNat ∧ Frame [] [Fld.CH_STATUS_STATE c.val, Fld.CH_TAIL_TAIL c.val] s t) ∧
  (∀ m : Master, ∀ c : Chan, ∀ value : Word, m.keeperOrBoard = true → s.takes m 0x90 = true → (c.val ∉ s.fab.mover.stopping) → s.chState c.val = 1 → value.toNat < 65536 →
    s.ringSize c.val ≤ value.toNat → Answers (.chTailWrite m c value) s fun t => t.chState c.val = 3 ∧ t.get (Fld.CH_STATUS_ERR c.val) = 2 ∧ t.get Evt.MOVER_CH_HALT.field = 1 ∧
    Frame [.ctrs] [Fld.CH_STATUS_STATE c.val, Fld.CH_STATUS_ERR c.val, Fld.CH_TAIL_TAIL c.val, Evt.MOVER_CH_HALT.field] s t)

/-- Parts of R289 to R293: descriptors of the data mover. A fetched descriptor that passes its checks is in progress, one that does not performs nothing and ends with its
status, and an error of the fetch halts the channel; a NOP is done at once, a fill of host memory writes its pattern, a copy from host memory reads first and writes what its
answer brings; a completion puts out the record, moves HEAD on and leaves the channel READY when its ring is empty. Choices and readings of the model it rests on: log 13, 269
(DESIGN CHOICE); log 118, 198, 201, 203, 204 (DEDUCED). -/
def Obligations.MoverDescriptors : Prop := ∀ s : State, ∀ c : Chan, s.serving = true →
  (∀ v : Nat, ∀ bytes : List Byte, s.chanVf c.val = some v → s.fetches c.val = true → s.flag (Fld.CH_RING_CFG_PASID_V c.val) = false → s.descBad v (descriptorOf bytes) = none →
    Answers (.moverDescFetched c bytes false) s fun t => t.out = [.descFetch c.val (s.ringAddr c.val ((s.chHead c.val + (s.chRuns c.val).length) % s.ringSize c.val)) none] ∧
    t.chRuns c.val = s.chRuns c.val ++ [(s.fab.mover.serial,
    { desc := descriptorOf bytes, void := false, next := 0, parts := [], allowed := 0, zread := 0, done := Completion.start 0 (descriptorOf bytes).user })] ∧
    t.chState c.val = 2 ∧ t.get (Fld.CH_STATUS_INFLIGHT c.val) = (s.chRuns c.val).length + 1 ∧ Frame [.fab, .out] [Fld.CH_STATUS_INFLIGHT c.val] s t) ∧
  (∀ v : Nat, ∀ bytes : List Byte, s.chanVf c.val = some v → s.fetches c.val = true → s.flag (Fld.CH_RING_CFG_PASID_V c.val) = false → s.descBad v (descriptorOf bytes) = some 4 →
    Answers (.moverDescFetched c bytes false) s fun t => t.chRuns c.val = s.chRuns c.val ++ [(s.fab.mover.serial,
    { desc := descriptorOf bytes, void := true, next := 0, parts := [], allowed := 0, zread := 0, done := Completion.start 4 (descriptorOf bytes).user })] ∧
    t.counter (Ctr.MOVER c.val 4) = s.counter (Ctr.MOVER c.val 4) + 1 ∧ Frame [.fab, .ctrs, .out] [Fld.CH_STATUS_INFLIGHT c.val] s t) ∧
  (∀ v : Nat, ∀ bytes : List Byte, s.chanVf c.val = some v → s.fetches c.val = true → s.flag (Fld.CH_RING_CFG_PASID_V c.val) = false →
    Answers (.moverDescFetched c bytes true) s fun t => t.chState c.val = 3 ∧ t.get (Fld.CH_STATUS_ERR c.val) = 1 ∧ t.get Evt.MOVER_CH_HALT.field = 1 ∧
    t.chRuns c.val = s.chRuns c.val ∧ Frame [.ctrs, .out] [Fld.CH_STATUS_STATE c.val, Fld.CH_STATUS_ERR c.val, Evt.MOVER_CH_HALT.field] s t) ∧
  (∀ v : Nat, ∀ n : Nat, ∀ r : DescRun, s.moverTurn = some c.val → s.chanVf c.val = some v → s.chState c.val = 2 → (c.val ∉ s.fab.mover.stopping) → s.chRuns c.val = [(n, r)] →
    r.void = false → r.next = 0 → 0 < r.desc.len → 18 ≤ s.moverFree → 1 ≤ s.moverIoFree → r.desc.op = 3 → Answers (.moverNop c) s fun t =>
    t.chRuns c.val = [(n, { r with next := r.desc.len })] ∧ Frame [.fab] [Fld.CH_STATUS_INFLIGHT c.val] s t) ∧
  (∀ v : Nat, ∀ n : Nat, ∀ r : DescRun, s.moverTurn = some c.val → s.chanVf c.val = some v → s.chState c.val = 2 → (c.val ∉ s.fab.mover.stopping) → s.chRuns c.val = [(n, r)] →
    r.void = false → r.next = 0 → 0 < r.desc.len → 18 ≤ s.moverFree → 1 ≤ s.moverIoFree → r.desc.op = 2 → r.desc.len ≤ 512 - r.desc.dst % 512 → r.parts = [] →
    s.destOf (s.get (Fld.VF_CFG_VCS v)) r.desc.dst false = .nowhere → Answers (.moverFill c) s fun t => t.fab.sw.waiting.take s.fab.sw.waiting.length = s.fab.sw.waiting ∧
    (t.fab.sw.waiting.drop s.fab.sw.waiting.length).map (fun x =>
    (x.kind, x.dst, x.addr, x.data)) = [(.ioPosted, s.get (Fld.VCS_ENTRY_CFG_USP (s.get (Fld.VF_CFG_VCS v))), r.desc.dst, (tabulate r.desc.len fun i =>
    r.desc.pattern.getD ((r.desc.dst + i) % 8) 0)), (.ioNp, s.get (Fld.VCS_ENTRY_CFG_USP (s.get (Fld.VF_CFG_VCS v))), r.desc.dst + r.desc.len - 1, [])] ∧
    (∀ x ∈ t.fab.sw.waiting.drop s.fab.sw.waiting.length, x.sub = s.get (Fld.VF_SUB_SUBID v) ∧ (x.kind = .ioNp → x.rdLen = 0)) ∧
    t.chRuns c.val = [(n, { r with next := r.desc.len, allowed := r.allowed + 1, zread := 2, done := { r.done with bytes := r.done.bytes + r.desc.len } })] ∧
    t.counter (Ctr.MOVER c.val 1) = s.counter (Ctr.MOVER c.val 1) + BitVec.ofNat 64 r.desc.len ∧ t.fab.mover.slots.length = s.fab.mover.slots.length + 1 ∧
    Frame [.fab, .ctrs, .free] [Fld.CH_STATUS_INFLIGHT c.val] s t) ∧
  (∀ v : Nat, ∀ n : Nat, ∀ r : DescRun, s.moverTurn = some c.val → s.chanVf c.val = some v → s.chState c.val = 2 → (c.val ∉ s.fab.mover.stopping) → s.chRuns c.val = [(n, r)] →
    r.void = false → r.next = 0 → 0 < r.desc.len → 18 ≤ s.moverFree → 1 ≤ s.moverIoFree → r.desc.op = 1 → r.desc.len ≤ 512 - r.desc.dst % 512 →
    r.desc.len ≤ 512 - r.desc.src % 512 → r.parts = [] → s.destOf (s.get (Fld.VF_CFG_VCS v)) r.desc.dst false = .nowhere →
    s.destOf (s.get (Fld.VF_CFG_VCS v)) r.desc.src false = .nowhere → Answers (.moverCopy c) s fun t => t.fab.sw.waiting.dropLast = s.fab.sw.waiting ∧
    t.fab.sw.waiting.getLast?.map (fun x => (x.kind, x.dst, x.addr, x.rdLen)) = some (.ioNp, s.get (Fld.VCS_ENTRY_CFG_USP (s.get (Fld.VF_CFG_VCS v))), r.desc.src, r.desc.len) ∧
    t.chRuns c.val = [(n,
    { r with next := r.desc.len, allowed := r.allowed + 1, parts := [{ off := 0, src := r.desc.src, dst := r.desc.dst, len := r.desc.len, up := true, got := [], waits := 1, writing := false }] })] ∧
    t.fab.mover.slots.length = s.fab.mover.slots.length + 1 ∧ Frame [.fab, .ctrs, .free] [Fld.CH_STATUS_INFLIGHT c.val] s t) ∧
  (∀ a : Msg, ∀ q : Msg, ∀ y : PartRun, ∀ v : Nat, ∀ n : Nat, ∀ r : DescRun, mget [] s.fab.sw.iep 2 = [a] → a.kind = .cpl → a.poison = false → a.status = 0 →
    a.mover = some (c.val, n, y.off) → s.fab.mover.slots = [(a.tag % 4096 + 16384, ⟨false, q⟩)] → q.mover = a.mover → q.addr = y.src → s.chanVf c.val = some v →
    s.fab.mover.runs = [(c.val, [(n, r)])] → r.parts = [y] → y.up = true → y.writing = false → y.waits = 1 → y.got = [] → r.desc.op = 1 → a.data.length = y.len →
    r.desc.len ≤ r.next → Answers (.moverPartAnswer none) s fun t => mget [] t.fab.sw.iep 2 = [] ∧ t.fab.sw.waiting.take s.fab.sw.waiting.length = s.fab.sw.waiting ∧
    (t.fab.sw.waiting.drop s.fab.sw.waiting.length).map (fun x =>
    (x.kind, x.dst, x.addr, x.data)) = [(.ioPosted, s.get (Fld.VCS_ENTRY_CFG_USP (s.get (Fld.VF_CFG_VCS v))), y.dst, a.data), (.ioNp,
    s.get (Fld.VCS_ENTRY_CFG_USP (s.get (Fld.VF_CFG_VCS v))), r.desc.dst + r.desc.len - 1, [])] ∧
    t.chRuns c.val = [(n, { r with parts := [], zread := 2, done := { r.done with bytes := r.done.bytes + y.len } })] ∧ t.fab.mover.slots.length = 1 ∧
    Frame [.fab, .ctrs, .free] [Fld.CH_STATUS_INFLIGHT c.val] s t) ∧
  (∀ v : Nat, ∀ n : Nat, ∀ r : DescRun, s.chanVf c.val = some v → s.chRuns c.val = [(n, r)] → r.over = true → (c.val ∉ s.fab.mover.stopping) → s.chState c.val = 2 →
    r.desc.cmpl ≠ 0 → (s.chHead c.val + 1) % s.ringSize c.val = s.chTail c.val → r.desc.intr = false → Answers (.moverCompletion c false) s fun t =>
    t.chHead c.val = (s.chHead c.val + 1) % s.ringSize c.val ∧ t.chState c.val = 1 ∧ t.chRuns c.val = [] ∧
    t.out = [.completion c.val r.desc.cmpl (s.ringPasid c.val) { r.done with status := r.status }.record] ∧ t.counter (Ctr.MOVER c.val 0) = s.counter (Ctr.MOVER c.val 0) + 1 ∧
    Frame [.fab, .ctrs, .out] [Fld.CH_HEAD_HEAD c.val, Fld.CH_STATUS_STATE c.val, Fld.CH_STATUS_INFLIGHT c.val] s t) ∧
  (∀ v : Nat, ∀ n : Nat, ∀ r : DescRun, ∀ j : Nat, s.chanVf c.val = some v → s.chRuns c.val = [(n, r)] → r.over = true → (c.val ∉ s.fab.mover.stopping) → s.chState c.val = 2 →
    r.desc.intr = true → j = c.val - s.get (Fld.VF_RES_FIRST v) → Answers (.moverCompletion c false) s fun t => t.chHead c.val = (s.chHead c.val + 1) % s.ringSize c.val ∧
    t.chRuns c.val = [] ∧ ((s.fab.mover.msixWord v j 3).toNat % 2 = 0 → .vfMsix v j ∈ t.out) ∧ ((s.fab.mover.msixWord v j 3).toNat % 2 = 1 → 64 * v + j ∈ t.fab.mover.pba ∧
    .vfMsix v j ∉ t.out) ∧ Frame [.fab, .ctrs, .out] [Fld.CH_HEAD_HEAD c.val, Fld.CH_STATUS_STATE c.val, Fld.CH_STATUS_INFLIGHT c.val] s t) ∧
  (∀ v : Nat, ∀ n : Nat, ∀ r : DescRun, s.chanVf c.val = some v → s.chRuns c.val = [(n, r)] → r.over = true → (c.val ∉ s.fab.mover.stopping) → s.chState c.val = 2 →
    r.desc.cmpl ≠ 0 → Answers (.moverCompletion c true) s fun t => t.chHead c.val = s.chHead c.val ∧ t.chState c.val = 3 ∧ t.get (Fld.CH_STATUS_ERR c.val) = 1 ∧
    t.get Evt.MOVER_CH_HALT.field = 1 ∧ Frame [.fab, .ctrs, .out] [Fld.CH_STATUS_STATE c.val, Fld.CH_STATUS_ERR c.val, Fld.CH_STATUS_INFLIGHT c.val,
    Evt.MOVER_CH_HALT.field] s t)

/-- Parts of R396, R398, R405, R406: the security island. Passed self-tests let it serve, a failed one is fatal; a provisioning command of the board is refused without its
confirmation word or where it may not be done, and else changes the one-time memory, its end shown with an event; a key exchange opens a session, the seventeenth is refused;
measurements 1 to 7 are answered and others are not, sessions end by their transport, and every request is counted. The contents the standard prescribes are open. Choices and
readings of the model it rests on: log 13, 215 (DESIGN CHOICE); log 207 (DEDUCED); log 214 (PRESUMED). -/
def Obligations.IslandServices : Prop := ∀ s : State,
  (s.mgmtRuns = true → s.get Fld.SEC_STATUS_SELFTEST = 0 → Answers (.selftestDone true) s fun t => t.get Fld.SEC_STATUS_SELFTEST = 1 ∧ t.get Fld.SEC_STATUS_APPROVED = 1 ∧
    t.get Evt.SEC_SELFTEST_DONE.field = 1 ∧ Frame [] [Fld.SEC_STATUS_SELFTEST, Fld.SEC_STATUS_APPROVED, Evt.SEC_SELFTEST_DONE.field] s t) ∧
  (∀ ok : Bool, s.mgmtRuns = true → s.get Fld.SEC_STATUS_SELFTEST ≠ 0 → Answers (.selftestDone ok) s fun t => Frame [] [] s t) ∧
  (s.mgmtRuns = true → s.get Fld.SEC_STATUS_SELFTEST = 0 → Answers (.selftestDone false) s fun t => t.get Fld.SEC_STATUS_SELFTEST = 2 ∧ t.get Fld.SEC_STATUS_APPROVED = 0 ∧
    t.clk.stopHeld = true) ∧
  (s.mgmtRuns = true → Answers .entropyHealthFail s fun t => t.get Fld.SEC_STATUS_SELFTEST = 2 ∧ t.get Fld.SEC_STATUS_APPROVED = 0 ∧ t.clk.stopHeld = true) ∧
  (∀ m : Master, ∀ slot : Fin 4, ∀ confirm : Byte, s.takes m 7 = true → m = .board → s.secUp = true → s.get Fld.SEC_PROV_STATUS_STATE ≠ 1 →
    s.nv.otp.refuses 1 slot.val confirm.toNat = false → Answers (.programOwner m slot confirm) s fun t => t.get Fld.SEC_PROV_STATUS_STATE = 1 ∧ t.sec.prov = some true ∧
    t.nv = { s.nv with otp := s.nv.otp.provision 1 slot.val (tabulate 12 fun k => (s.word (Addr.SEC_PROV_DATA k)).toNat) } ∧
    Frame [.nv, .sec] [Fld.SEC_PROV_STATUS_STATE, Field.all Addr.SEC_STATUS] s t) ∧
  (∀ m : Master, ∀ slot : Fin 4, ∀ confirm : Byte, s.takes m 7 = true → m = .board → s.secUp = true → s.get Fld.SEC_PROV_STATUS_STATE ≠ 1 →
    s.nv.otp.refuses 1 slot.val confirm.toNat = true → Answers (.programOwner m slot confirm) s fun t => t.get Fld.SEC_PROV_STATUS_STATE = 1 ∧ t.sec.prov = some false ∧
    t.nv = s.nv ∧ Frame [.sec] [Fld.SEC_PROV_STATUS_STATE] s t) ∧
  (∀ m : Master, ∀ slot : Fin 4, ∀ confirm : Byte, s.takes m 7 = true → m = .board → s.secUp = true → s.get Fld.SEC_PROV_STATUS_STATE ≠ 1 →
    s.nv.otp.refuses 2 slot.val confirm.toNat = false → Answers (.revokeOwner m slot confirm) s fun t => t.get Fld.SEC_PROV_STATUS_STATE = 1 ∧ t.sec.prov = some true ∧
    t.nv = { s.nv with otp := s.nv.otp.provision 2 slot.val (tabulate 12 fun k => (s.word (Addr.SEC_PROV_DATA k)).toNat) } ∧
    Frame [.nv, .sec] [Fld.SEC_PROV_STATUS_STATE, Field.all Addr.SEC_STATUS] s t) ∧
  (∀ m : Master, ∀ slot : Fin 4, ∀ confirm : Byte, s.takes m 7 = true → m = .board → s.secUp = true → s.get Fld.SEC_PROV_STATUS_STATE ≠ 1 →
    s.nv.otp.refuses 2 slot.val confirm.toNat = true → Answers (.revokeOwner m slot confirm) s fun t => t.get Fld.SEC_PROV_STATUS_STATE = 1 ∧ t.sec.prov = some false ∧
    t.nv = s.nv ∧ Frame [.sec] [Fld.SEC_PROV_STATUS_STATE] s t) ∧
  (∀ m : Master, ∀ confirm : Byte, s.takes m 7 = true → m = .board → s.secUp = true → s.get Fld.SEC_PROV_STATUS_STATE ≠ 1 → s.nv.otp.refuses 3 0 confirm.toNat = false →
    Answers (.requireFixonSig m confirm) s fun t => t.get Fld.SEC_PROV_STATUS_STATE = 1 ∧ t.sec.prov = some true ∧
    t.nv = { s.nv with otp := s.nv.otp.provision 3 0 (tabulate 12 fun k => (s.word (Addr.SEC_PROV_DATA k)).toNat) } ∧
    Frame [.nv, .sec] [Fld.SEC_PROV_STATUS_STATE, Field.all Addr.SEC_STATUS] s t) ∧
  (∀ m : Master, ∀ confirm : Byte, s.takes m 7 = true → m = .board → s.secUp = true → s.get Fld.SEC_PROV_STATUS_STATE ≠ 1 → s.nv.otp.refuses 3 0 confirm.toNat = true →
    Answers (.requireFixonSig m confirm) s fun t => t.get Fld.SEC_PROV_STATUS_STATE = 1 ∧ t.sec.prov = some false ∧ t.nv = s.nv ∧ Frame [.sec] [Fld.SEC_PROV_STATUS_STATE] s t) ∧
  (∀ m : Master, ∀ slot : Fin 4, ∀ confirm : Byte, s.takes m 7 = true → m ≠ .board → Answers (.programOwner m slot confirm) s fun t => Frame [] [] s t) ∧
  (∀ m : Master, ∀ confirm : Byte, s.takes m 7 = true → m ≠ .board → Answers (.requireFixonSig m confirm) s fun t => Frame [] [] s t) ∧
  (∀ ok : Bool, s.mgmtRuns = true → s.sec.prov = some ok → Answers .provDone s fun t => t.get Fld.SEC_PROV_STATUS_STATE = (if ok then 2 else 3) ∧ t.sec.prov = none ∧
    t.get Evt.SEC_PROV_DONE.field = 1 ∧ Frame [.sec] [Fld.SEC_PROV_STATUS_STATE, Evt.SEC_PROV_DONE.field] s t) ∧
  (∀ x : Transport, s.secUp = true → s.hears x = true → s.sec.sessions.length < 16 → Answers (.spdmKeyExchange x) s fun t =>
    t.sec.sessions = s.sec.sessions ++ [⟨s.sec.nextId, x⟩] ∧ t.get Fld.SEC_SESSIONS_ACTIVE = s.sec.sessions.length + 1 ∧ t.out = [.spdm x false [s.sec.nextId]] ∧
    t.counter (Ctr.SECC x.unit 0) = s.counter (Ctr.SECC x.unit 0) + 1 ∧ Frame [.sec, .ctrs, .out] [Fld.SEC_SESSIONS_ACTIVE] s t) ∧
  (∀ x : Transport, s.secUp = true → s.hears x = true → 16 ≤ s.sec.sessions.length → Answers (.spdmKeyExchange x) s fun t => t.sec = s.sec ∧ t.out = [.spdm x true [0x0A]] ∧
    t.get Evt.SEC_SESSION_LIMIT.field = 1 ∧ t.counter (Ctr.SECC x.unit 0) = s.counter (Ctr.SECC x.unit 0) + 1 ∧ Frame [.ctrs, .out] [Evt.SEC_SESSION_LIMIT.field] s t) ∧
  (∀ x : Transport, ∀ n : Nat, s.secUp = true → s.hears x = true → 1 ≤ n → n ≤ 7 → Answers (.spdmGetMeasurements x n) s fun t =>
    t.out = [.spdm x false (s.measurement n ++ [s.aliasSign (s.measurement n)])] ∧ t.counter (Ctr.SECC x.unit 0) = s.counter (Ctr.SECC x.unit 0) + 1 ∧
    Frame [.ctrs, .out, .free] [] s t) ∧
  (∀ x : Transport, ∀ n : Nat, s.secUp = true → s.hears x = true → n = 0 → Answers (.spdmRequest x (.getCertificate n)) s fun t => t.out = [.spdm x false s.certificates] ∧
    t.counter (Ctr.SECC x.unit 0) = s.counter (Ctr.SECC x.unit 0) + 1 ∧ Frame [.ctrs, .out] [] s t) ∧
  (∀ x : Transport, ∀ n : Nat, s.secUp = true → s.hears x = true → n ≠ 0 → Answers (.spdmRequest x (.getCertificate n)) s fun t => t.out = [.spdm x true [1]] ∧
    t.counter (Ctr.SECC x.unit 0) = s.counter (Ctr.SECC x.unit 0) + 1 ∧ Frame [.ctrs, .out] [] s t) ∧
  (∀ x : Transport, ∀ n : Nat, s.secUp = true → s.hears x = true → (n = 0 ∨ 7 < n) → Answers (.spdmGetMeasurements x n) s fun t => t.out = [.spdm x true [1]] ∧
    t.counter (Ctr.SECC x.unit 1) = s.counter (Ctr.SECC x.unit 1) + 1 ∧ Frame [.ctrs, .out] [] s t) ∧
  (∀ x : Transport, ∀ n : Nat, s.secUp = true → s.hears x = true → (⟨n, x⟩ ∈ s.sec.sessions) → Answers (.spdmRequest x (.endSession n)) s fun t =>
    t.sec = { s.sec with sessions := s.sec.sessions.filter fun y => !(y.id == n && y.transport == x) } ∧ t.out = [.spdm x false []] ∧
    t.get Fld.SEC_SESSIONS_ACTIVE = t.sec.sessions.length % 32 ∧ Frame [.sec, .ctrs, .out] [Fld.SEC_SESSIONS_ACTIVE] s t) ∧
  (∀ x : Transport, s.secUp = true → s.hears x = true → Answers (.spdmRequest x .unsupported) s fun t => t.out = [.spdm x true [7]] ∧
    t.counter (Ctr.SECC x.unit 0) = s.counter (Ctr.SECC x.unit 0) + 1 ∧ Frame [.ctrs, .out] [] s t) ∧
  (∀ x : Transport, s.secUp = true → s.hears x = true → Answers (.spdmRequest x .getVersion) s fun t => (∃ y, t.out = [.spdm x false [y]]) ∧
    t.counter (Ctr.SECC x.unit 0) = s.counter (Ctr.SECC x.unit 0) + 1 ∧ Frame [.ctrs, .out, .free] [] s t)

/-- Parts of R407 to R409: the IDE streams of a port. A command of the requester side establishes, rekeys or stops a stream, with its key set in use at once in L0 and at the
next entry to L0 else, and is ignored and counted while one runs; as responder the module answers key programming, key set switches and stops of its partner; a failed check
makes the streams insecure and holds the port. Choices and readings of the model it rests on: log 13 (DESIGN CHOICE); log 209, 211 (DEDUCED). -/
def Obligations.IdeStreams : Prop := ∀ s : State, ∀ p : Port, ∀ cm : Bool,
  (∀ m : Master, s.takes m 7 = true → m.keeperOrBoard = true → s.secUp = true → s.live 0x10 = true → s.portEn p.val = true → s.roleIs p.val 0 = false →
    (∀ w ∈ s.sec.waiting, w.port ≠ p.val) → s.inL0 p.val = true → s.get (ideField p.val cm) ≠ 2 → Answers (.ideEstablish m p cm) s fun t => t.get (ideField p.val cm) = 2 ∧
    t.flag (ideKset p.val cm) = false ∧ t.get Evt.SEC_IDE_SECURE.field = 1 ∧ Frame [.ctrs, .free, .sec] [(ideField p.val cm), (ideKset p.val cm), Evt.SEC_IDE_SECURE.field] s t) ∧
  (∀ m : Master, s.takes m 7 = true → m.keeperOrBoard = true → s.secUp = true → s.live 0x10 = true → s.portEn p.val = true → s.roleIs p.val 0 = false →
    (∀ w ∈ s.sec.waiting, w.port ≠ p.val) → s.inL0 p.val = false → s.get (ideField p.val cm) ≠ 2 → Answers (.ideEstablish m p cm) s fun t => t.get (ideField p.val cm) = 1 ∧
    (⟨p.val, cm, false⟩ ∈ t.sec.waiting) ∧ Frame [.ctrs, .free, .sec] [(ideField p.val cm), (ideKset p.val cm)] s t) ∧
  (∀ m : Master, s.takes m 7 = true → m.keeperOrBoard = true → s.secUp = true → s.live 0x10 = true → s.portEn p.val = true → s.roleIs p.val 0 = false →
    (∃ w ∈ s.sec.waiting, w.port = p.val) → Answers (.ideEstablish m p cm) s fun t => t.sec = s.sec ∧ Frame [] [Fld.SEC_IDE_PORT_IGNORED p.val] s t) ∧
  (∀ m : Master, s.takes m 7 = true → m.keeperOrBoard = true → s.secUp = true → s.live 0x10 = true → s.portEn p.val = true → s.roleIs p.val 0 = false →
    (∀ w ∈ s.sec.waiting, w.port ≠ p.val) → s.inL0 p.val = true → s.get (ideField p.val cm) = 2 → Answers (.ideRekey m p cm) s fun t => t.get (ideField p.val cm) = 2 ∧
    t.flag (ideKset p.val cm) = !s.flag (ideKset p.val cm) ∧ t.get Evt.SEC_REKEY_DONE.field = 1 ∧
    Frame [.ctrs, .free, .sec] [(ideKset p.val cm), Fld.SEC_IDE_PORT_REKEYS p.val, Evt.SEC_REKEY_DONE.field] s t) ∧
  (∀ m : Master, s.takes m 7 = true → m.keeperOrBoard = true → s.secUp = true → s.live 0x10 = true → s.portEn p.val = true → s.roleIs p.val 0 = false →
    (∀ w ∈ s.sec.waiting, w.port ≠ p.val) → s.get (ideField p.val cm) ≠ 2 → Answers (.ideRekey m p cm) s fun t => Frame [] [] s t) ∧
  (∀ m : Master, s.takes m 7 = true → m.keeperOrBoard = true → s.secUp = true → s.live 0x10 = true → s.portEn p.val = true → s.roleIs p.val 0 = false →
    (∀ w ∈ s.sec.waiting, w.port ≠ p.val) → s.get (ideField p.val cm) ≠ 0 → Answers (.ideStop m p cm) s fun t => t.get (ideField p.val cm) = 0 ∧
    t.flag (ideKset p.val cm) = false ∧ (∀ w ∈ t.sec.programmed, w.port ≠ p.val ∨ w.cm ≠ cm) ∧ (∀ k ∈ t.sec.ideKeys, k.1.port ≠ p.val ∨ k.1.cm ≠ cm) ∧
    Frame [.ctrs, .free, .sec] [(ideField p.val cm), (ideKset p.val cm)] s t) ∧
  (s.secUp = true → s.live 0x10 = true → s.portEn p.val = true → s.roleIs p.val 0 = false → s.get (ideField p.val cm) = 2 → (∀ w ∈ s.sec.waiting, w.port ≠ p.val) →
    s.inL0 p.val = true → Answers (.ideAutoRekey p cm) s fun t => t.flag (ideKset p.val cm) = !s.flag (ideKset p.val cm) ∧ t.get Evt.SEC_REKEY_DONE.field = 1 ∧
    Frame [.ctrs, .free, .sec] [(ideKset p.val cm), Fld.SEC_IDE_PORT_REKEYS p.val, Evt.SEC_REKEY_DONE.field] s t) ∧
  (s.secUp = true → s.live 0x10 = true → s.portEn p.val = true → s.roleIs p.val 0 = false → s.get (ideField p.val cm) = 2 → (∃ w ∈ s.sec.waiting, w.port = p.val) →
    Answers (.ideAutoRekey p cm) s fun t => (⟨p.val, cm, false⟩ ∈ t.sec.rekeyDue) ∧ Frame [.sec] [] s t) ∧
  (∀ k : Bool, ∀ tx : BitVec 256, ∀ rx : BitVec 256, s.secUp = true → s.live 0x10 = true → s.portEn p.val = true → s.roleIs p.val 0 = true → s.get (ideField p.val cm) ≠ 2 →
    Answers (.ideKeyProg p cm k tx rx) s fun t => t.out = [.ideKm p.val cm 0] ∧ (⟨p.val, cm, k⟩ ∈ t.sec.programmed) ∧ ((⟨p.val, cm, k⟩, tx.toNat, rx.toNat) ∈ t.sec.ideKeys) ∧
    t.get (ideField p.val cm) = 1 ∧ Frame [.ctrs, .out, .sec] [(ideField p.val cm)] s t) ∧
  (∀ k : Bool, ∀ tx : BitVec 256, ∀ rx : BitVec 256, s.secUp = true → s.live 0x10 = true → s.portEn p.val = true → s.roleIs p.val 0 = true → s.get (ideField p.val cm) = 2 →
    s.flag (ideKset p.val cm) = k → Answers (.ideKeyProg p cm k tx rx) s fun t => t.out = [.ideKm p.val cm 1] ∧ t.sec = s.sec ∧ Frame [.ctrs, .out] [] s t) ∧
  (∀ k : Bool, s.secUp = true → s.live 0x10 = true → s.portEn p.val = true → s.roleIs p.val 0 = true → (⟨p.val, cm, k⟩ ∈ s.sec.programmed) → s.inL0 p.val = true →
    s.get (ideField p.val cm) = 1 → Answers (.ideKSetGo p cm k) s fun t => t.out = [.ideKm p.val cm 0] ∧ t.get (ideField p.val cm) = 2 ∧ t.flag (ideKset p.val cm) = k ∧
    t.get Evt.SEC_IDE_SECURE.field = 1 ∧ (⟨p.val, cm, k⟩ ∉ t.sec.programmed) ∧
    Frame [.ctrs, .out, .sec] [(ideField p.val cm), (ideKset p.val cm), Evt.SEC_IDE_SECURE.field] s t) ∧
  (∀ k : Bool, s.secUp = true → s.live 0x10 = true → s.portEn p.val = true → s.roleIs p.val 0 = true → (⟨p.val, cm, k⟩ ∉ s.sec.programmed) → Answers (.ideKSetGo p cm k) s fun t =>
    t.out = [.ideKm p.val cm 1] ∧ Frame [.ctrs, .out] [] s t) ∧
  (s.secUp = true → s.live 0x10 = true → s.portEn p.val = true → s.roleIs p.val 0 = true → Answers (.ideKSetStop p cm) s fun t => t.out = [.ideKm p.val cm 0] ∧
    t.get (ideField p.val cm) = 0 ∧ t.flag (ideKset p.val cm) = false ∧ Frame [.ctrs, .out, .sec] [(ideField p.val cm), (ideKset p.val cm)] s t) ∧
  (s.fabricRuns = true → s.get (ideField p.val cm) = 2 → s.portHeld p.val = false → Answers (.ideCheckFail p cm) s fun t => t.get (ideField p.val cm) = 3 ∧
    t.get Evt.SEC_IDE_INSECURE.field = 1 ∧ t.portHeld p.val = true ∧ t.get (Fld.PORT_STATUS_HOLD_REASON p.val) = 1 ∧ t.flag (ideKset p.val cm) = false)

/-- Parts of R410 to R412: the debug port. A nonce request gives a new nonce, whose value is open, and the nonce ends after its time; an unlock takes the token and clears its
registers, is ignored while a token is verified or the port is open, and is refused in LOCKOUT; a verified token opens the port to its scope, ends every session and erases the
sealed keys, and the first check that a token fails is the cause of its refusal, the eighth of which locks the port out. Choices and readings of the model it rests on: log 13,
212 (DESIGN CHOICE); log 83, 213 (DEDUCED). -/
def Obligations.DebugPort : Prop := ∀ s : State,
  (∀ m : Master, s.takes m 7 = true → m.debugger = true → s.secUp = true → s.get Fld.SEC_DBG_STATUS_STATE ≠ 2 → s.get Fld.SEC_DBG_STATUS_STATE ≠ 3 →
    s.get Fld.SEC_DBG_STATUS_STATE ≠ 5 → Answers (.dbgNonceReq m) s fun t => t.get Fld.SEC_DBG_STATUS_STATE = 1 ∧ t.sec.nonceValid = true ∧ t.get Fld.SEC_DBG_STATUS_CAUSE = 0 ∧
    Frame [.sec, .free] ([Fld.SEC_DBG_STATUS_STATE, Fld.SEC_DBG_STATUS_CAUSE] ++ ((List.range 8).map fun k => Fld.SEC_DBG_NONCE_NONCE k)) s t) ∧
  (∀ m : Master, s.takes m 7 = true → m.debugger = true → s.secUp = true →
    (s.get Fld.SEC_DBG_STATUS_STATE = 2 ∨ s.get Fld.SEC_DBG_STATUS_STATE = 3 ∨ s.get Fld.SEC_DBG_STATUS_STATE = 5) → Answers (.dbgNonceReq m) s fun t => Frame [] [] s t) ∧
  (∀ m : Master, s.takes m 7 = true → m.debugger = false → Answers (.dbgNonceReq m) s fun t => Frame [] [] s t) ∧
  (s.mgmtRuns = true → s.sec.nonceValid = true → s.get Fld.SEC_DBG_STATUS_STATE = 1 → Answers .dbgNonceExpire s fun t => t.get Fld.SEC_DBG_STATUS_STATE = 0 ∧
    t.sec.nonceValid = false ∧ (∀ k : Fin 8, t.word (Addr.SEC_DBG_NONCE k.val) = 0) ∧ Frame [.sec] (Fld.SEC_DBG_STATUS_STATE :: ((List.range 8).map fun k =>
    Fld.SEC_DBG_NONCE_NONCE k)) s t) ∧
  (∀ m : Master, s.takes m 7 = true → m.debugger = true → s.secUp = true → s.get Fld.SEC_DBG_STATUS_STATE ≠ 2 → s.get Fld.SEC_DBG_STATUS_STATE ≠ 3 →
    s.get Fld.SEC_DBG_STATUS_STATE ≠ 5 → Answers (.dbgUnlock m) s fun t => t.get Fld.SEC_DBG_STATUS_STATE = 2 ∧ t.sec.token = some (tabulate 1871 fun k =>
    (s.word (Addr.SEC_DBG_TOKEN k)).toNat) ∧ (∀ k : Fin 1871, t.word (Addr.SEC_DBG_TOKEN k.val) = 0) ∧
    Frame [.sec] ([Fld.SEC_DBG_STATUS_STATE, Fld.SEC_DBG_STATUS_CAUSE] ++ ((List.range 1871).map fun k => Field.all (Addr.SEC_DBG_TOKEN k))) s t) ∧
  (∀ m : Master, s.takes m 7 = true → m.debugger = true → s.secUp = true → (s.get Fld.SEC_DBG_STATUS_STATE = 2 ∨ s.get Fld.SEC_DBG_STATUS_STATE = 3) →
    Answers (.dbgUnlock m) s fun t => Frame [] [] s t) ∧
  (∀ m : Master, s.takes m 7 = true → m.debugger = true → s.secUp = true → s.get Fld.SEC_DBG_STATUS_STATE = 5 → Answers (.dbgUnlock m) s fun t =>
    t.get Fld.SEC_DBG_STATUS_STATE = 5 ∧ t.get Fld.SEC_DBG_STATUS_CAUSE = s.get Fld.SEC_DBG_STATUS_CAUSE ∧ t.get Evt.SEC_DBG_REFUSED.field = 1 ∧
    t.counter (Ctr.SECC 68 1) = s.counter (Ctr.SECC 68 1) + 1 ∧
    Frame [.sec, .ctrs] ([Fld.SEC_DBG_STATUS_STATE, Fld.SEC_DBG_STATUS_CAUSE, Fld.SEC_DBG_STATUS_REFUSALS, Evt.SEC_DBG_REFUSED.field] ++ ((List.range 8).map fun k =>
    Fld.SEC_DBG_NONCE_NONCE k) ++ ((List.range 1871).map fun k => Field.all (Addr.SEC_DBG_TOKEN k))) s t) ∧
  (∀ g : TokenSignature, ∀ k : List Nat, ∀ c : Nat, s.mgmtRuns = true → s.sec.token = some k → s.tokenCause k g = some c → c < 8 → s.get Fld.SEC_DBG_STATUS_STATE = 2 →
    s.get Fld.SEC_DBG_STATUS_REFUSALS < 255 → Answers (.dbgVerifyDone g) s fun t => t.sec.token = none ∧ t.sec.nonceValid = false ∧ t.get Fld.SEC_DBG_STATUS_CAUSE = c ∧
    t.get Fld.SEC_DBG_STATUS_REFUSALS = s.get Fld.SEC_DBG_STATUS_REFUSALS + 1 ∧ t.get Fld.SEC_DBG_STATUS_STATE = (if 7 ≤ s.get Fld.SEC_DBG_STATUS_REFUSALS then 5 else 4) ∧
    t.get Evt.SEC_DBG_REFUSED.field = 1 ∧ Frame [.sec, .ctrs] ([Fld.SEC_DBG_STATUS_STATE, Fld.SEC_DBG_STATUS_CAUSE, Fld.SEC_DBG_STATUS_REFUSALS,
    Evt.SEC_DBG_REFUSED.field] ++ ((List.range 8).map fun k => Fld.SEC_DBG_NONCE_NONCE k)) s t) ∧
  (∀ g : TokenSignature, ∀ k : List Nat, s.mgmtRuns = true → s.sec.token = some k → Answers (.dbgVerifyDone g) s fun t => t.sec.token = none ∧ (s.tokenCause k g = none →
    t.get Fld.SEC_DBG_STATUS_STATE = 3 ∧ t.get Fld.SEC_DBG_STATUS_SCOPE = nth k 14 % 16 ∧ t.get Fld.SEC_STATUS_DBG_OPEN = 1 ∧ t.get Fld.SEC_STATUS_UDS_GATED = 1 ∧
    t.sec.sessions = [] ∧ t.nv.sealedErased = true ∧ t.sec.nonceValid = false ∧ t.sec.identity.map (·.debug) = some true ∧ t.get Evt.SEC_DBG_OPENED.field = 1))

/-- R382: the INTC page accepts writes from keeper cores only. A write of its registers by any other master, and the commands that are such writes, do nothing but what ends
every command; the policy partition is stopped for one (R375). A write of a keeper core enables sources, and sets a threshold and the priority of a source. The page has no RWL
field, and its event and first-error registers read 0 and ignore writes. -/
def Obligations.IntcPageWrites : Prop := ∀ s : State,
  (∀ m : Master, ∀ addr : BitVec 28, ∀ value : Word, addr.toNat / 65536 = 5 → addr.toNat % 4 = 0 → m.isKeeper = false → m ≠ .policy →
    Answers (.registerWrite m addr 4 value) s fun t => t = s.begin.settle) ∧
  (∀ addr : BitVec 28, ∀ value : Word, addr.toNat / 65536 = 5 → addr.toNat % 4 = 0 → s.mgmtRuns = true → s.get Fld.MBX_POLICY_STATE = 1 →
    Answers (.registerWrite .policy addr 4 value) s fun t => t = (s.begin.policyStop 1).settle) ∧
  (∀ m : Master, ∀ w : Fin 64, ∀ bits : Word, m.isKeeper = false → m ≠ .policy → Answers (.intcPendSet m w bits) s fun t => t = s.begin.settle) ∧
  (∀ m : Master, ∀ w : Fin 64, ∀ bits : Word, m.isKeeper = false → m ≠ .policy → Answers (.intcPendClr m w bits) s fun t => t = s.begin.settle) ∧
  (∀ m : Master, ∀ w : Fin 64, ∀ bits : Word, m.isKeeper = false → m ≠ .policy → Answers (.intcEnSet m w bits) s fun t => t = s.begin.settle) ∧
  (∀ m : Master, ∀ w : Fin 64, ∀ bits : Word, m.isKeeper = false → m ≠ .policy → Answers (.intcEnClr m w bits) s fun t => t = s.begin.settle) ∧
  (∀ m : Master, ∀ c : Core, ∀ value : Word, m.isKeeper = false → m ≠ .policy → Answers (.intcComplete m c value) s fun t => t = s.begin.settle) ∧
  (∀ m : Master, ∀ value : Word, m.isKeeper = false → m ≠ .policy → Answers (.intcBadClear m value) s fun t => t = s.begin.settle) ∧
  (∀ c : Core, ∀ addr : BitVec 28, ∀ value : Word, ∀ w : Fin 64, s.mgmtRuns = true → addr.toNat = Addr.INTC_EN_SET w.val →
    Answers (.registerWrite (.keeper c) addr 4 value) s fun t => t.word (Addr.INTC_EN_SET w.val) = s.word (Addr.INTC_EN_SET w.val) ||| value ∧
    Frame [] [Field.all (Addr.INTC_EN_SET w.val)] s t) ∧
  (∀ c : Core, ∀ addr : BitVec 28, ∀ value : Word, ∀ w : Core, s.mgmtRuns = true → addr.toNat = Addr.INTC_THRESH w.val →
    Answers (.registerWrite (.keeper c) addr 4 value) s fun t => t.get (Fld.INTC_THRESH_THRESH w.val) = value.toNat % 16 ∧ Frame [] [Fld.INTC_THRESH_THRESH w.val] s t) ∧
  (∀ c : Core, ∀ addr : BitVec 28, ∀ value : Word, ∀ w : Fin 2048, s.mgmtRuns = true → addr.toNat = Addr.INTC_SRC w.val →
    Answers (.registerWrite (.keeper c) addr 4 value) s fun t => t.get (Fld.INTC_SRC_PRIO w.val) = value.toNat % 16 ∧ Frame [] [Field.all (Addr.INTC_SRC w.val)] s t) ∧
  (∀ c : Core, ∀ m : Master, ∀ addr : BitVec 28, ∀ value : Word, (addr.toNat ∈ [0x50040, 0x50044, 0x50048, 0x50050, 0x50054, 0x50058, 0x50080, 0x50084, 0x50088, 0x5008C,
    0x50090, 0x50094, 0x50098]) → Answers (.registerWrite (.keeper c) addr 4 value) s fun t => t = s.begin.settle ∧ s.readReg m addr.toNat = 0) ∧
  (∀ c : Core, ∀ addr : BitVec 28, ∀ value : Word, Answers (.registerWrite (.keeper c) addr 4 value) s fun _ => ((pageRows .intc).all fun r => r.fields.all fun f =>
    f.acc != .rwl) = true)

/-- R35: the fault timer of the hot-swap controller. In every tick its count goes up by 1 where the pass FET regulates at ILIM and down by 1, to no less than 0, where it does
not; it is shown as running whenever it is not 0; and a tick in ON that brings it to FAULT_TIME, which is given in 100 µs steps of 1 µs ticks, ends in FAULT with the path off.
-/
def Obligations.FaultTimer : Prop := ∀ s : State, s.hs.auxUp = true →
  (∀ x : HsSample, x.limiting = true → s.get Fld.PWR_HS_STATUS_FT_COUNT < 65535 → Answers (.hsTick x) s fun t =>
    t.get Fld.PWR_HS_STATUS_FT_COUNT = s.get Fld.PWR_HS_STATUS_FT_COUNT + 1 ∧ t.get Fld.PWR_HS_STATUS_FT_RUN = 1 ∧ t.get Fld.PWR_HS_STATUS_ILIM_ACT = 1) ∧
  (∀ x : HsSample, x.limiting = false → Answers (.hsTick x) s fun t => t.get Fld.PWR_HS_STATUS_FT_COUNT = s.get Fld.PWR_HS_STATUS_FT_COUNT - 1 ∧
    t.get Fld.PWR_HS_STATUS_FT_RUN = bit (s.get Fld.PWR_HS_STATUS_FT_COUNT - 1 != 0) ∧ t.get Fld.PWR_HS_STATUS_ILIM_ACT = 0) ∧
  (∀ x : HsSample, s.get Fld.PWR_HS_STATUS_STATE = 5 → s.hs.severe = false → x.seatL = true → x.seatR = true → x.limiting = true → s.get Fld.PWR_HS_STATUS_FT_COUNT < 65535 →
    100 * s.get Fld.PWR_HS_CFG_FAULT_TIME ≤ s.get Fld.PWR_HS_STATUS_FT_COUNT + 1 → Answers (.hsTick x) s fun t => t.ftExpired = true ∧ t.get Fld.PWR_HS_STATUS_STATE = 7 ∧
    t.hs.fetOn = false ∧ t.hs.convOn = false) ∧
  (∀ x : HsSample, s.get Fld.PWR_HS_STATUS_STATE = 5 → s.hs.severe = false → x.seatL = true → x.seatR = true →
    s.get Fld.PWR_HS_STATUS_FT_COUNT + 1 < 100 * s.get Fld.PWR_HS_CFG_FAULT_TIME → x.fetA ≤ 214 → x.fetB ≤ 214 → 11000 ≤ x.bus → Answers (.hsTick x) s fun t =>
    t.ftExpired = false ∧ (t.get Fld.PWR_HS_STATUS_STATE = 5 ∨ t.get Fld.PWR_HS_STATUS_STATE = 6 ∨ t.qualified s.selected = false))

/-- R322: an ACK from the standby frees the journal up to its SEQ; where ACKSEQ has not advanced for ACK_TO while records above it exist, the active sends every one of them
again, in order, the first of them in a RESTART frame. The resend is stated with credits for all of it. -/
def Obligations.AckAndResend : Prop := ∀ s : State, s.fabricRuns = true → (s.role = 2 ∨ s.role = 3) → s.streamUp = true → s.fab.pair.ackDue = false → s.fab.pair.reqDue = false → s.fab.pair.bulk = none →
  (∀ a : Word, ∀ me : Word, seqAfter a.toNat (s.get Fld.TDM_ACKSEQ_SEQ) = true → seqAfter a.toNat (s.get Fld.TDM_HSEQ_SEQ) = false → (s.fab.pair.journal.all fun r =>
    r.sent) = true → Answers (.recAck a me) s fun t => t.get Fld.TDM_ACKSEQ_SEQ = a.toNat ∧ (t.fab.pair.journal = s.fab.pair.journal.filter fun r => seqAfter r.seq a.toNat) ∧
    Frame [.pair] [Fld.TDM_ACKSEQ_SEQ, Fld.TDM_JFILL_KIB] s t) ∧
  (∀ a : Word, ∀ me : Word, (seqAfter a.toNat (s.get Fld.TDM_ACKSEQ_SEQ) = false ∨ seqAfter a.toNat (s.get Fld.TDM_HSEQ_SEQ) = true) → Answers (.recAck a me) s fun t =>
    Frame [] [] s t) ∧
  (∀ r : Rec, ∀ rest : List Rec, s.hasStandby = true → s.fab.pair.journal = r :: rest → (∀ x ∈ r :: rest, seqAfter x.seq (s.get Fld.TDM_ACKSEQ_SEQ) = true) →
    s.fab.pair.peerCredits ≤ 65535 → s.fab.pair.hasCredit ((r :: rest).map fun x => framesOf x.body.length).sum = true → Answers .ackTimeout s fun t =>
    (t.out = .rec_ true { r with sent := true } :: rest.map fun x => .rec_ false { x with sent := true }) ∧ (t.fab.pair.journal = (r :: rest).map fun x =>
    { x with sent := true }) ∧ t.counter (Ctr.PAIR 0 4) = s.counter (Ctr.PAIR 0 4) + BitVec.ofNat 64 (rest.length + 1) ∧ t.get Fld.TDM_ACKSEQ_SEQ = s.get Fld.TDM_ACKSEQ_SEQ ∧
    Frame [.pair, .ctrs, .out] [] s t) ∧
  (s.fab.pair.journal = [] → Answers .ackTimeout s fun t => Frame [] [] s t)

/-- One step takes the command at the front of the queue and is exec of it on the state with the rest of the queue; on an empty queue it is the passage of one cycle. Choices
and readings of the model it rests on: log 8 (DESIGN CHOICE). -/
def Obligations.StepRunsFront : Prop :=
  (∀ (c : Instr) (s : State), step { s with pending := c :: s.pending } = exec c s) ∧
  ∀ s : State, s.pending = [] → step s = .next s.idle.settle

/-- Every command, in every state, is answered with a next state: none of them ends in a fault or a refusal (the design of this model; R4, R5 and R9 make ignored accesses
complete). -/
def Obligations.EveryCommandAnswers : Prop :=
  ∀ (c : Instr) (s : State), ∃ t, exec c s = .next t

/-- Parts of R63, R65: on an empty queue, with MGMT running, the time base advances by 2, and while it slews, in at most one cycle of 500, by 3 towards a partner that is ahead
and by 1 towards one that is behind; with no link up nothing else changes. With MGMT in reset it stands still. That an idle step is one cycle of 500 MHz is the choice of this
model (notes/assumptions). Choices and readings of the model it rests on: log 8 (DESIGN CHOICE). -/
def Obligations.TimeBase : Prop :=
  ∀ s : State, s.pending = [] →
    (s.mgmtRuns = true → s.fab.up = [] → s.now + 3 < 2 ^ 64 → ∃ t, step s = .next t ∧ Frame [.clk, .out] [] s t ∧ s.now < t.now ∧ t.now ≤ s.now + 3 ∧
      (s.flag Fld.TIME_STATUS_SLEWING = false ∨ s.clk.sinceSlew < 499 → t.now = s.now + 2 ∧ t.clk.sinceSlew = s.clk.sinceSlew + 1) ∧
      (s.flag Fld.TIME_STATUS_SLEWING = true → 499 ≤ s.clk.sinceSlew → t.clk.sinceSlew = 0 ∧ t.now = s.now + (if s.get Fld.TIME_STATUS_OFFSET < 0x8000 then 3 else 1))) ∧
    (s.mgmtRuns = false → ∃ t, step s = .next t ∧ t.now = s.now)

/-- Parts of R10, R358, R377: at reset the lines are settled and the register space, the counters and the pool are in their canonical form; nothing waits in the queue, and
every register reads its reset value. Choices and readings of the model it rests on: log 1, 2, 3, 5, 6 (DESIGN CHOICE). -/
def Obligations.SettledAtReset : Prop :=
  State.reset.LinesSettled ∧ State.reset.Canonical ∧ State.reset.pending = [] ∧ ∀ a, State.reset.word a = resetWord a

/-- Parts of R358, R377: after every step from a state with settled lines, each interrupt source held as seen high has its level high, and ALERT_N is driven exactly where the
log holds an entry above FLT_BOARD_ACK of a class in MASK; a command that wrote any of what these lines depend on has settled them before it ends. Choices and readings of the
model it rests on: log 8, 12 (DESIGN CHOICE). -/
def Obligations.LinesSettledInvariant : Prop :=
  ∀ s t : State, s.LinesSettled → step s = .next t → t.LinesSettled

/-- Parts of R71: while the FABRIC domain is held in reset or the module is stopped, a command that works on FABRIC alone does nothing but what ends every command
(Instr.fabricOnly names these commands). -/
def Obligations.HeldFabric : Prop :=
  ∀ (c : Instr) (s : State), c.fabricOnly = true → s.fabricRuns = false → exec c s = .next s.begin.settle
end

