-- ==== Sys2Proof/Laws/Sparse.lean ====
section
/-! SUPPORT. Sys2Proof/Laws/Sparse.lean: the laws of sparse maps, bit fields and register words: read after write, and that writing keeps the canonical form. -/
namespace Sys2Proof.Machine
open Sys2Proof

/-! ### Lists of pairs -/

@[simp] theorem assoc_assocPut_same {α : Type} (m : List (Nat × α)) (a : Nat) (x : α) : assoc (assocPut m a x) a = some x := by
  induction m with
  | nil => simp [assocPut, assoc]
  | cons e t ih =>
    obtain ⟨k, v⟩ := e
    simp only [assocPut]
    split
    · simp [assoc]
    · split
      · simp [assoc]
      · simp [assoc, *]

theorem assoc_assocPut_other {α : Type} (m : List (Nat × α)) {a b : Nat} (x : α) (h : b ≠ a) : assoc (assocPut m a x) b = assoc m b := by
  induction m with
  | nil => simp [assocPut, assoc, Ne.symm h]
  | cons e t ih =>
    obtain ⟨k, v⟩ := e
    simp only [assocPut]
    split
    · simp [assoc, Ne.symm h]
    · split
      · rename_i h1
        subst h1
        simp [assoc, Ne.symm h]
      · simp [assoc, ih]

@[simp] theorem assoc_assocDel_same {α : Type} (m : List (Nat × α)) (a : Nat) : assoc (assocDel m a) a = none := by
  induction m with
  | nil => rfl
  | cons e t ih =>
    obtain ⟨k, v⟩ := e
    by_cases h : k = a
    · simpa [assocDel, h] using ih
    · simpa [assocDel, List.filter_cons, h, assoc] using ih

theorem assoc_assocDel_other {α : Type} (m : List (Nat × α)) {a b : Nat} (h : b ≠ a) : assoc (assocDel m a) b = assoc m b := by
  induction m with
  | nil => rfl
  | cons e t ih =>
    obtain ⟨k, v⟩ := e
    by_cases h1 : k = a
    · subst h1
      simpa [assocDel, assoc, Ne.symm h] using ih
    · by_cases h2 : k = b
      · subst h2
        simp [assocDel, h, assoc]
      · simpa [assocDel, List.filter_cons, h1, assoc, h2] using ih

/-! ### Sparse maps -/

@[simp] theorem sparseGet_sparsePut_same {α : Type} [DecidableEq α] (d : Nat → α) (m : List (Nat × α)) (a : Nat) (x : α) :
    sparseGet d (sparsePut d m a x) a = x := by
  by_cases hx : x = d a <;> simp [sparsePut, sparseGet, hx]

theorem sparseGet_sparsePut_other {α : Type} [DecidableEq α] (d : Nat → α) (m : List (Nat × α)) {a b : Nat} (x : α) (h : b ≠ a) :
    sparseGet d (sparsePut d m a x) b = sparseGet d m b := by
  by_cases hx : x = d a <;> simp [sparsePut, sparseGet, hx, assoc_assocDel_other, assoc_assocPut_other, h]

@[simp] theorem mget_mput_same {α : Type} [DecidableEq α] (d : α) (m : NMap α) (k : Nat) (v : α) : mget d (mput d m k v) k = v :=
  sparseGet_sparsePut_same _ _ _ _

theorem mget_mput_other {α : Type} [DecidableEq α] (d : α) (m : NMap α) {k j : Nat} (v : α) (h : j ≠ k) : mget d (mput d m k v) j = mget d m j :=
  sparseGet_sparsePut_other _ _ _ h

/-! ### The canonical form -/

theorem keysRise_weaken {α : Type} (m : List (Nat × α)) {i j : Nat} (h : i ≤ j) (w : keysRise (some j) m = true) : keysRise (some i) m = true := by
  cases m with
  | nil => rfl
  | cons e t =>
    simp only [keysRise, Bool.and_eq_true, decide_eq_true_eq] at *
    exact ⟨by omega, w.2⟩

theorem keysRise_none {α : Type} (m : List (Nat × α)) {j : Nat} (w : keysRise (some j) m = true) : keysRise none m = true := by
  cases m with
  | nil => rfl
  | cons e t =>
    simp only [keysRise, Bool.and_eq_true] at *
    exact w.2

theorem keysRise_filter {α : Type} (p : Nat × α → Bool) (m : List (Nat × α)) : ∀ b : Option Nat, keysRise b m = true → keysRise b (m.filter p) = true := by
  induction m with
  | nil => intro b h; exact h
  | cons e t ih =>
    intro b h
    have ht : keysRise (some e.1) t = true := by
      cases b with
      | none => exact h
      | some j => simp only [keysRise, Bool.and_eq_true] at h; exact h.2
    by_cases hp : p e = true
    · rw [List.filter_cons_of_pos hp]
      cases b with
      | none => exact ih _ ht
      | some j =>
        simp only [keysRise, Bool.and_eq_true] at *
        exact ⟨h.1, ih _ ht⟩
    · rw [List.filter_cons_of_neg hp]
      cases b with
      | none => exact keysRise_none _ (ih _ ht)
      | some j =>
        simp only [keysRise, Bool.and_eq_true, decide_eq_true_eq] at h
        exact keysRise_weaken _ (by omega) (ih _ ht)

theorem keysRise_assocPut {α : Type} (m : List (Nat × α)) (a : Nat) (x : α) :
    ∀ b : Option Nat, (∀ j, b = some j → j < a) → keysRise b m = true → keysRise b (assocPut m a x) = true := by
  induction m with
  | nil =>
    intro b hb _
    cases b with
    | none => rfl
    | some j => simp [assocPut, keysRise, hb j rfl]
  | cons e t ih =>
    obtain ⟨k, v⟩ := e
    intro b hb h
    have ht : keysRise (some k) t = true := by
      cases b with
      | none => exact h
      | some j => simp only [keysRise, Bool.and_eq_true] at h; exact h.2
    simp only [assocPut]
    split
    · rename_i hlt
      cases b with
      | none => simp [keysRise, hlt, ht]
      | some j => simp [keysRise, hb j rfl, hlt, ht]
    · split
      · rename_i _ heq
        subst heq
        cases b with
        | none => exact ht
        | some j => simp [keysRise, hb j rfl, ht]
      · have hk : k < a := by omega
        have := ih (some k) (by intro j hj; cases hj; exact hk) ht
        cases b with
        | none => exact this
        | some j =>
          simp only [keysRise, Bool.and_eq_true] at *
          exact ⟨h.1, this⟩

theorem mem_assocPut {α : Type} (m : List (Nat × α)) (a : Nat) (x : α) (e : Nat × α) (h : e ∈ assocPut m a x) : e = (a, x) ∨ e ∈ m := by
  induction m with
  | nil => simpa [assocPut] using h
  | cons f t ih =>
    obtain ⟨k, v⟩ := f
    simp only [assocPut] at h
    split at h
    · simpa using h
    · split at h
      · simp only [List.mem_cons] at *
        exact h.imp id Or.inr
      · simp only [List.mem_cons] at *
        exact h.elim (fun h => .inr (.inl h)) fun h => (ih h).imp id .inr

/-- Writing keeps the canonical form. -/
theorem sparseWf_sparsePut {α : Type} [DecidableEq α] (d : Nat → α) (m : List (Nat × α)) (a : Nat) (x : α) (h : sparseWf d m = true) :
    sparseWf d (sparsePut d m a x) = true := by
  simp only [sparseWf, Bool.and_eq_true, List.all_eq_true, decide_eq_true_eq] at *
  unfold sparsePut
  split
  · exact ⟨keysRise_filter _ _ _ h.1, fun e he => h.2 e (List.mem_of_mem_filter he)⟩
  · rename_i hx
    refine ⟨keysRise_assocPut _ _ _ none (by simp) h.1, fun e he => ?_⟩
    rcases mem_assocPut _ _ _ _ he with rfl | h2
    · exact hx
    · exact h.2 e h2

/-- A part of a canonical map is canonical. -/
theorem sparseWf_filter {α : Type} [DecidableEq α] (d : Nat → α) (m : List (Nat × α)) (p : Nat × α → Bool) (h : sparseWf d m = true) :
    sparseWf d (m.filter p) = true := by
  simp only [sparseWf, Bool.and_eq_true, List.all_eq_true, decide_eq_true_eq] at *
  exact ⟨keysRise_filter _ _ _ h.1, fun e he => h.2 e (List.mem_of_mem_filter he)⟩

/-! ### Bit fields -/

theorem bitsOf_insertBits_same (w lo width v : Nat) : bitsOf (insertBits w lo width v) lo width = v % 2 ^ width := by
  unfold bitsOf insertBits
  have h1 : (w % 2 ^ lo + v % 2 ^ width * 2 ^ lo + w / 2 ^ (lo + width) * 2 ^ (lo + width)) / 2 ^ lo = v % 2 ^ width + w / 2 ^ (lo + width) * 2 ^ width := by
    rw [Nat.pow_add, ← Nat.mul_assoc, Nat.mul_assoc, Nat.mul_comm (2 ^ lo) (2 ^ width), ← Nat.mul_assoc, Nat.add_assoc, ← Nat.add_mul,
      Nat.add_mul_div_right _ _ (Nat.two_pow_pos lo), Nat.div_eq_of_lt (Nat.mod_lt _ (Nat.two_pow_pos lo)), Nat.zero_add]
  rw [h1, Nat.add_mul_mod_self_right, Nat.mod_mod]

theorem testBit_bitsOf (w lo width i : Nat) : (bitsOf w lo width).testBit i = (decide (i < width) && w.testBit (lo + i)) := by
  simp [bitsOf, Nat.testBit_mod_two_pow, Nat.testBit_div_two_pow, Nat.add_comm]

theorem testBit_insertBits (w lo width v i : Nat) :
    (insertBits w lo width v).testBit i = if lo ≤ i ∧ i < lo + width then v.testBit (i - lo) else w.testBit i := by
  have hform : insertBits w lo width v = 2 ^ lo * (2 ^ width * (w / 2 ^ (lo + width)) + v % 2 ^ width) + w % 2 ^ lo := by
    unfold insertBits
    rw [Nat.pow_add]
    ring
  rw [hform, Nat.testBit_two_pow_mul_add _ (Nat.mod_lt _ (Nat.two_pow_pos lo))]
  by_cases h1 : i < lo
  · have h2 : ¬ (lo ≤ i ∧ i < lo + width) := by omega
    simp [h1, h2, Nat.testBit_mod_two_pow]
  · simp only [h1, if_false]
    rw [Nat.testBit_two_pow_mul_add _ (Nat.mod_lt _ (Nat.two_pow_pos width))]
    by_cases h2 : i - lo < width
    · have h3 : lo ≤ i ∧ i < lo + width := by omega
      simp [h2, h3, Nat.testBit_mod_two_pow]
    · have h3 : ¬ (lo ≤ i ∧ i < lo + width) := by omega
      simp only [h2, h3, if_false, Nat.testBit_div_two_pow]
      congr 1
      omega

theorem bitsOf_insertBits_apart (w lo width v lo' width' : Nat) (h : lo' + width' ≤ lo ∨ lo + width ≤ lo') :
    bitsOf (insertBits w lo width v) lo' width' = bitsOf w lo' width' := by
  apply Nat.eq_of_testBit_eq
  intro i
  rw [testBit_bitsOf, testBit_bitsOf, testBit_insertBits]
  by_cases hi : i < width'
  · rw [if_neg (by omega)]
  · simp [hi]

theorem bitsOf_mod_two_pow (w lo width n : Nat) (h : lo + width ≤ n) : bitsOf (w % 2 ^ n) lo width = bitsOf w lo width := by
  apply Nat.eq_of_testBit_eq
  intro i
  rw [testBit_bitsOf, testBit_bitsOf, Nat.testBit_mod_two_pow]
  by_cases hi : i < width
  · have : lo + i < n := by omega
    simp [this]
  · simp [hi]

@[simp] theorem bit_true : bit true = 1 := rfl
@[simp] theorem bit_false : bit false = 0 := rfl
theorem bit_lt_two (b : Bool) : bit b < 2 := by cases b <;> simp

end Sys2Proof.Machine
end

