-- ==== Sys2Proof/Laws/State.lean ====
section
/-! SUPPORT. Sys2Proof/Laws/State.lean: what each named operation over State leaves alone, field by field, and what a register field reads after a write. -/
namespace Sys2Proof.Machine
open Sys2Proof

/-! ### Register words and fields -/

@[simp] theorem State.word_setWord_same (s : State) (a : Nat) (w : Word) : (s.setWord a w).word a = w := sparseGet_sparsePut_same _ _ _ _

theorem State.word_setWord_other (s : State) {a b : Nat} (w : Word) (h : b ≠ a) : (s.setWord a w).word b = s.word b := sparseGet_sparsePut_other _ _ _ h

/-- A word depends on the registers alone. -/
theorem State.word_congr {s t : State} (h : t.regs = s.regs) (a : Nat) : t.word a = s.word a := by simp [State.word, h]

theorem State.get_congr {s t : State} (h : t.regs = s.regs) (f : Field) : t.get f = s.get f := by simp [State.get, State.word, h]

/-- A field reads the value written, at its width. -/
theorem State.get_put_same (s : State) (f : Field) (v : Nat) (h : f.lo + f.width ≤ 32) : (s.put f v).get f = v % 2 ^ f.width := by
  simp only [State.get, State.put, State.word_setWord_same, BitVec.toNat_ofNat]
  rw [bitsOf_mod_two_pow _ _ _ _ h, bitsOf_insertBits_same]

/-- A field of another register keeps its value. -/
theorem State.get_put_addr (s : State) {f g : Field} (v : Nat) (h : g.addr ≠ f.addr) : (s.put f v).get g = s.get g := by
  simp only [State.get, State.put, State.word_setWord_other _ _ h]

/-- Another field of the register keeps its value. -/
theorem State.get_put_bits (s : State) {f g : Field} (v : Nat) (h : g.lo + g.width ≤ f.lo ∨ f.lo + f.width ≤ g.lo) (hg : g.lo + g.width ≤ 32) :
    (s.put f v).get g = s.get g := by
  by_cases ha : g.addr = f.addr
  · simp only [State.get, State.put, ha, State.word_setWord_same, BitVec.toNat_ofNat]
    rw [bitsOf_mod_two_pow _ _ _ _ hg, bitsOf_insertBits_apart _ _ _ _ _ _ h]
  · exact State.get_put_addr s v ha

theorem State.word_put_other (s : State) {f : Field} {a : Nat} (v : Nat) (h : a ≠ f.addr) : (s.put f v).word a = s.word a := State.word_setWord_other _ _ h

theorem State.get_lt (s : State) (f : Field) : s.get f < 2 ^ f.width := Nat.mod_lt _ (Nat.two_pow_pos _)

theorem State.flag_put_same (s : State) (f : Field) (v : Nat) (h : f.lo + f.width ≤ 32) : (s.put f v).flag f = (v % 2 ^ f.width == 1) := by
  simp [State.flag, State.get_put_same s f v h]

theorem State.flag_put_addr (s : State) {f g : Field} (v : Nat) (h : g.addr ≠ f.addr) : (s.put f v).flag g = s.flag g := by
  simp [State.flag, State.get_put_addr s v h]

theorem State.puts_nil (s : State) : s.puts [] = s := rfl
theorem State.puts_cons (s : State) (e : Field × Nat) (l : List (Field × Nat)) : s.puts (e :: l) = (s.put e.1 e.2).puts l := rfl
@[simp] theorem State.puts_eq_nil (s : State) : s.puts [] = s := rfl

/-- A field of a register that a list of writes does not name keeps its value. -/
theorem State.word_puts_other (l : List (Field × Nat)) (a : Nat) : ∀ s : State, (∀ e ∈ l, a ≠ e.1.addr) → (s.puts l).word a = s.word a := by
  induction l with
  | nil => intro s _; rfl
  | cons e t ih =>
    intro s h
    rw [State.puts_cons, ih _ fun x hx => h x (List.mem_cons_of_mem _ hx), State.word_put_other _ _ (h e List.mem_cons_self)]

/-! ### A record update that keeps the registers, or the counters -/

@[simp] theorem State.word_mk (u : State) (c l h hs ck b n f p k se mb fa o fr pe) (a : Nat) : (State.mk u.regs c l h hs ck b n f p k se mb fa o fr pe).word a = u.word a := rfl
@[simp] theorem State.get_mk (u : State) (c l h hs ck b n f p k se mb fa o fr pe) (g : Field) : (State.mk u.regs c l h hs ck b n f p k se mb fa o fr pe).get g = u.get g := rfl
@[simp] theorem State.flag_mk (u : State) (c l h hs ck b n f p k se mb fa o fr pe) (g : Field) : (State.mk u.regs c l h hs ck b n f p k se mb fa o fr pe).flag g = u.flag g := rfl
@[simp] theorem State.counter_mk (u : State) (r l h hs ck b n f p k se mb fa o fr pe) (c : Nat) : (State.mk r u.ctrs l h hs ck b n f p k se mb fa o fr pe).counter c = u.counter c := rfl

/-! ### What an operation leaves alone -/

/-- It changes regs alone. -/
theorem State.setWord_eq (s : State) (a : Nat) (w : Word) : ∃ r', s.setWord a w = { s with regs := r' } := ⟨_, rfl⟩
@[simp] theorem State.setWord_ctrs (s : State) (a : Nat) (w : Word) : (s.setWord a w).ctrs = s.ctrs := by
  obtain ⟨_, h⟩ := s.setWord_eq a w
  rw [h]
@[simp] theorem State.setWord_latches (s : State) (a : Nat) (w : Word) : (s.setWord a w).latches = s.latches := by
  obtain ⟨_, h⟩ := s.setWord_eq a w
  rw [h]
@[simp] theorem State.setWord_held (s : State) (a : Nat) (w : Word) : (s.setWord a w).held = s.held := by
  obtain ⟨_, h⟩ := s.setWord_eq a w
  rw [h]
@[simp] theorem State.setWord_hs (s : State) (a : Nat) (w : Word) : (s.setWord a w).hs = s.hs := by
  obtain ⟨_, h⟩ := s.setWord_eq a w
  rw [h]
@[simp] theorem State.setWord_clk (s : State) (a : Nat) (w : Word) : (s.setWord a w).clk = s.clk := by
  obtain ⟨_, h⟩ := s.setWord_eq a w
  rw [h]
@[simp] theorem State.setWord_boot (s : State) (a : Nat) (w : Word) : (s.setWord a w).boot = s.boot := by
  obtain ⟨_, h⟩ := s.setWord_eq a w
  rw [h]
@[simp] theorem State.setWord_nv (s : State) (a : Nat) (w : Word) : (s.setWord a w).nv = s.nv := by
  obtain ⟨_, h⟩ := s.setWord_eq a w
  rw [h]
@[simp] theorem State.setWord_flt (s : State) (a : Nat) (w : Word) : (s.setWord a w).flt = s.flt := by
  obtain ⟨_, h⟩ := s.setWord_eq a w
  rw [h]
@[simp] theorem State.setWord_perf (s : State) (a : Nat) (w : Word) : (s.setWord a w).perf = s.perf := by
  obtain ⟨_, h⟩ := s.setWord_eq a w
  rw [h]
@[simp] theorem State.setWord_keeper (s : State) (a : Nat) (w : Word) : (s.setWord a w).keeper = s.keeper := by
  obtain ⟨_, h⟩ := s.setWord_eq a w
  rw [h]
@[simp] theorem State.setWord_sec (s : State) (a : Nat) (w : Word) : (s.setWord a w).sec = s.sec := by
  obtain ⟨_, h⟩ := s.setWord_eq a w
  rw [h]
@[simp] theorem State.setWord_mbx (s : State) (a : Nat) (w : Word) : (s.setWord a w).mbx = s.mbx := by
  obtain ⟨_, h⟩ := s.setWord_eq a w
  rw [h]
@[simp] theorem State.setWord_fab (s : State) (a : Nat) (w : Word) : (s.setWord a w).fab = s.fab := by
  obtain ⟨_, h⟩ := s.setWord_eq a w
  rw [h]
@[simp] theorem State.setWord_out (s : State) (a : Nat) (w : Word) : (s.setWord a w).out = s.out := by
  obtain ⟨_, h⟩ := s.setWord_eq a w
  rw [h]
@[simp] theorem State.setWord_freeCtr (s : State) (a : Nat) (w : Word) : (s.setWord a w).freeCtr = s.freeCtr := by
  obtain ⟨_, h⟩ := s.setWord_eq a w
  rw [h]
@[simp] theorem State.setWord_pending (s : State) (a : Nat) (w : Word) : (s.setWord a w).pending = s.pending := by
  obtain ⟨_, h⟩ := s.setWord_eq a w
  rw [h]

/-- It changes regs alone. -/
theorem State.put_eq (s : State) (f : Field) (v : Nat) : ∃ r', s.put f v = { s with regs := r' } := s.setWord_eq _ _
@[simp] theorem State.put_ctrs (s : State) (f : Field) (v : Nat) : (s.put f v).ctrs = s.ctrs := by
  obtain ⟨_, h⟩ := s.put_eq f v
  rw [h]
@[simp] theorem State.put_latches (s : State) (f : Field) (v : Nat) : (s.put f v).latches = s.latches := by
  obtain ⟨_, h⟩ := s.put_eq f v
  rw [h]
@[simp] theorem State.put_held (s : State) (f : Field) (v : Nat) : (s.put f v).held = s.held := by
  obtain ⟨_, h⟩ := s.put_eq f v
  rw [h]
@[simp] theorem State.put_hs (s : State) (f : Field) (v : Nat) : (s.put f v).hs = s.hs := by
  obtain ⟨_, h⟩ := s.put_eq f v
  rw [h]
@[simp] theorem State.put_clk (s : State) (f : Field) (v : Nat) : (s.put f v).clk = s.clk := by
  obtain ⟨_, h⟩ := s.put_eq f v
  rw [h]
@[simp] theorem State.put_boot (s : State) (f : Field) (v : Nat) : (s.put f v).boot = s.boot := by
  obtain ⟨_, h⟩ := s.put_eq f v
  rw [h]
@[simp] theorem State.put_nv (s : State) (f : Field) (v : Nat) : (s.put f v).nv = s.nv := by
  obtain ⟨_, h⟩ := s.put_eq f v
  rw [h]
@[simp] theorem State.put_flt (s : State) (f : Field) (v : Nat) : (s.put f v).flt = s.flt := by
  obtain ⟨_, h⟩ := s.put_eq f v
  rw [h]
@[simp] theorem State.put_perf (s : State) (f : Field) (v : Nat) : (s.put f v).perf = s.perf := by
  obtain ⟨_, h⟩ := s.put_eq f v
  rw [h]
@[simp] theorem State.put_keeper (s : State) (f : Field) (v : Nat) : (s.put f v).keeper = s.keeper := by
  obtain ⟨_, h⟩ := s.put_eq f v
  rw [h]
@[simp] theorem State.put_sec (s : State) (f : Field) (v : Nat) : (s.put f v).sec = s.sec := by
  obtain ⟨_, h⟩ := s.put_eq f v
  rw [h]
@[simp] theorem State.put_mbx (s : State) (f : Field) (v : Nat) : (s.put f v).mbx = s.mbx := by
  obtain ⟨_, h⟩ := s.put_eq f v
  rw [h]
@[simp] theorem State.put_fab (s : State) (f : Field) (v : Nat) : (s.put f v).fab = s.fab := by
  obtain ⟨_, h⟩ := s.put_eq f v
  rw [h]
@[simp] theorem State.put_out (s : State) (f : Field) (v : Nat) : (s.put f v).out = s.out := by
  obtain ⟨_, h⟩ := s.put_eq f v
  rw [h]
@[simp] theorem State.put_freeCtr (s : State) (f : Field) (v : Nat) : (s.put f v).freeCtr = s.freeCtr := by
  obtain ⟨_, h⟩ := s.put_eq f v
  rw [h]
@[simp] theorem State.put_pending (s : State) (f : Field) (v : Nat) : (s.put f v).pending = s.pending := by
  obtain ⟨_, h⟩ := s.put_eq f v
  rw [h]

/-- It changes regs alone. -/
theorem State.putFlag_eq (s : State) (f : Field) (v : Bool) : ∃ r', s.putFlag f v = { s with regs := r' } := s.put_eq _ _
@[simp] theorem State.putFlag_ctrs (s : State) (f : Field) (v : Bool) : (s.putFlag f v).ctrs = s.ctrs := by
  obtain ⟨_, h⟩ := s.putFlag_eq f v
  rw [h]
@[simp] theorem State.putFlag_latches (s : State) (f : Field) (v : Bool) : (s.putFlag f v).latches = s.latches := by
  obtain ⟨_, h⟩ := s.putFlag_eq f v
  rw [h]
@[simp] theorem State.putFlag_held (s : State) (f : Field) (v : Bool) : (s.putFlag f v).held = s.held := by
  obtain ⟨_, h⟩ := s.putFlag_eq f v
  rw [h]
@[simp] theorem State.putFlag_hs (s : State) (f : Field) (v : Bool) : (s.putFlag f v).hs = s.hs := by
  obtain ⟨_, h⟩ := s.putFlag_eq f v
  rw [h]
@[simp] theorem State.putFlag_clk (s : State) (f : Field) (v : Bool) : (s.putFlag f v).clk = s.clk := by
  obtain ⟨_, h⟩ := s.putFlag_eq f v
  rw [h]
@[simp] theorem State.putFlag_boot (s : State) (f : Field) (v : Bool) : (s.putFlag f v).boot = s.boot := by
  obtain ⟨_, h⟩ := s.putFlag_eq f v
  rw [h]
@[simp] theorem State.putFlag_nv (s : State) (f : Field) (v : Bool) : (s.putFlag f v).nv = s.nv := by
  obtain ⟨_, h⟩ := s.putFlag_eq f v
  rw [h]
@[simp] theorem State.putFlag_flt (s : State) (f : Field) (v : Bool) : (s.putFlag f v).flt = s.flt := by
  obtain ⟨_, h⟩ := s.putFlag_eq f v
  rw [h]
@[simp] theorem State.putFlag_perf (s : State) (f : Field) (v : Bool) : (s.putFlag f v).perf = s.perf := by
  obtain ⟨_, h⟩ := s.putFlag_eq f v
  rw [h]
@[simp] theorem State.putFlag_keeper (s : State) (f : Field) (v : Bool) : (s.putFlag f v).keeper = s.keeper := by
  obtain ⟨_, h⟩ := s.putFlag_eq f v
  rw [h]
@[simp] theorem State.putFlag_sec (s : State) (f : Field) (v : Bool) : (s.putFlag f v).sec = s.sec := by
  obtain ⟨_, h⟩ := s.putFlag_eq f v
  rw [h]
@[simp] theorem State.putFlag_mbx (s : State) (f : Field) (v : Bool) : (s.putFlag f v).mbx = s.mbx := by
  obtain ⟨_, h⟩ := s.putFlag_eq f v
  rw [h]
@[simp] theorem State.putFlag_fab (s : State) (f : Field) (v : Bool) : (s.putFlag f v).fab = s.fab := by
  obtain ⟨_, h⟩ := s.putFlag_eq f v
  rw [h]
@[simp] theorem State.putFlag_out (s : State) (f : Field) (v : Bool) : (s.putFlag f v).out = s.out := by
  obtain ⟨_, h⟩ := s.putFlag_eq f v
  rw [h]
@[simp] theorem State.putFlag_freeCtr (s : State) (f : Field) (v : Bool) : (s.putFlag f v).freeCtr = s.freeCtr := by
  obtain ⟨_, h⟩ := s.putFlag_eq f v
  rw [h]
@[simp] theorem State.putFlag_pending (s : State) (f : Field) (v : Bool) : (s.putFlag f v).pending = s.pending := by
  obtain ⟨_, h⟩ := s.putFlag_eq f v
  rw [h]

/-- It changes regs alone. -/
theorem State.put64_eq (s : State) (a v : Nat) : ∃ r', s.put64 a v = { s with regs := r' } := by
  obtain ⟨r, h⟩ := s.setWord_eq a (BitVec.ofNat 32 v)
  unfold State.put64
  rw [h]
  exact State.setWord_eq _ _ _
@[simp] theorem State.put64_ctrs (s : State) (a v : Nat) : (s.put64 a v).ctrs = s.ctrs := by
  obtain ⟨_, h⟩ := s.put64_eq a v
  rw [h]
@[simp] theorem State.put64_latches (s : State) (a v : Nat) : (s.put64 a v).latches = s.latches := by
  obtain ⟨_, h⟩ := s.put64_eq a v
  rw [h]
@[simp] theorem State.put64_held (s : State) (a v : Nat) : (s.put64 a v).held = s.held := by
  obtain ⟨_, h⟩ := s.put64_eq a v
  rw [h]
@[simp] theorem State.put64_hs (s : State) (a v : Nat) : (s.put64 a v).hs = s.hs := by
  obtain ⟨_, h⟩ := s.put64_eq a v
  rw [h]
@[simp] theorem State.put64_clk (s : State) (a v : Nat) : (s.put64 a v).clk = s.clk := by
  obtain ⟨_, h⟩ := s.put64_eq a v
  rw [h]
@[simp] theorem State.put64_boot (s : State) (a v : Nat) : (s.put64 a v).boot = s.boot := by
  obtain ⟨_, h⟩ := s.put64_eq a v
  rw [h]
@[simp] theorem State.put64_nv (s : State) (a v : Nat) : (s.put64 a v).nv = s.nv := by
  obtain ⟨_, h⟩ := s.put64_eq a v
  rw [h]
@[simp] theorem State.put64_flt (s : State) (a v : Nat) : (s.put64 a v).flt = s.flt := by
  obtain ⟨_, h⟩ := s.put64_eq a v
  rw [h]
@[simp] theorem State.put64_perf (s : State) (a v : Nat) : (s.put64 a v).perf = s.perf := by
  obtain ⟨_, h⟩ := s.put64_eq a v
  rw [h]
@[simp] theorem State.put64_keeper (s : State) (a v : Nat) : (s.put64 a v).keeper = s.keeper := by
  obtain ⟨_, h⟩ := s.put64_eq a v
  rw [h]
@[simp] theorem State.put64_sec (s : State) (a v : Nat) : (s.put64 a v).sec = s.sec := by
  obtain ⟨_, h⟩ := s.put64_eq a v
  rw [h]
@[simp] theorem State.put64_mbx (s : State) (a v : Nat) : (s.put64 a v).mbx = s.mbx := by
  obtain ⟨_, h⟩ := s.put64_eq a v
  rw [h]
@[simp] theorem State.put64_fab (s : State) (a v : Nat) : (s.put64 a v).fab = s.fab := by
  obtain ⟨_, h⟩ := s.put64_eq a v
  rw [h]
@[simp] theorem State.put64_out (s : State) (a v : Nat) : (s.put64 a v).out = s.out := by
  obtain ⟨_, h⟩ := s.put64_eq a v
  rw [h]
@[simp] theorem State.put64_freeCtr (s : State) (a v : Nat) : (s.put64 a v).freeCtr = s.freeCtr := by
  obtain ⟨_, h⟩ := s.put64_eq a v
  rw [h]
@[simp] theorem State.put64_pending (s : State) (a v : Nat) : (s.put64 a v).pending = s.pending := by
  obtain ⟨_, h⟩ := s.put64_eq a v
  rw [h]

/-- It changes regs alone. -/
theorem State.addSat_eq (s : State) (f : Field) (v : Nat) : ∃ r', s.addSat f v = { s with regs := r' } := s.put_eq _ _
@[simp] theorem State.addSat_ctrs (s : State) (f : Field) (v : Nat) : (s.addSat f v).ctrs = s.ctrs := by
  obtain ⟨_, h⟩ := s.addSat_eq f v
  rw [h]
@[simp] theorem State.addSat_latches (s : State) (f : Field) (v : Nat) : (s.addSat f v).latches = s.latches := by
  obtain ⟨_, h⟩ := s.addSat_eq f v
  rw [h]
@[simp] theorem State.addSat_held (s : State) (f : Field) (v : Nat) : (s.addSat f v).held = s.held := by
  obtain ⟨_, h⟩ := s.addSat_eq f v
  rw [h]
@[simp] theorem State.addSat_hs (s : State) (f : Field) (v : Nat) : (s.addSat f v).hs = s.hs := by
  obtain ⟨_, h⟩ := s.addSat_eq f v
  rw [h]
@[simp] theorem State.addSat_clk (s : State) (f : Field) (v : Nat) : (s.addSat f v).clk = s.clk := by
  obtain ⟨_, h⟩ := s.addSat_eq f v
  rw [h]
@[simp] theorem State.addSat_boot (s : State) (f : Field) (v : Nat) : (s.addSat f v).boot = s.boot := by
  obtain ⟨_, h⟩ := s.addSat_eq f v
  rw [h]
@[simp] theorem State.addSat_nv (s : State) (f : Field) (v : Nat) : (s.addSat f v).nv = s.nv := by
  obtain ⟨_, h⟩ := s.addSat_eq f v
  rw [h]
@[simp] theorem State.addSat_flt (s : State) (f : Field) (v : Nat) : (s.addSat f v).flt = s.flt := by
  obtain ⟨_, h⟩ := s.addSat_eq f v
  rw [h]
@[simp] theorem State.addSat_perf (s : State) (f : Field) (v : Nat) : (s.addSat f v).perf = s.perf := by
  obtain ⟨_, h⟩ := s.addSat_eq f v
  rw [h]
@[simp] theorem State.addSat_keeper (s : State) (f : Field) (v : Nat) : (s.addSat f v).keeper = s.keeper := by
  obtain ⟨_, h⟩ := s.addSat_eq f v
  rw [h]
@[simp] theorem State.addSat_sec (s : State) (f : Field) (v : Nat) : (s.addSat f v).sec = s.sec := by
  obtain ⟨_, h⟩ := s.addSat_eq f v
  rw [h]
@[simp] theorem State.addSat_mbx (s : State) (f : Field) (v : Nat) : (s.addSat f v).mbx = s.mbx := by
  obtain ⟨_, h⟩ := s.addSat_eq f v
  rw [h]
@[simp] theorem State.addSat_fab (s : State) (f : Field) (v : Nat) : (s.addSat f v).fab = s.fab := by
  obtain ⟨_, h⟩ := s.addSat_eq f v
  rw [h]
@[simp] theorem State.addSat_out (s : State) (f : Field) (v : Nat) : (s.addSat f v).out = s.out := by
  obtain ⟨_, h⟩ := s.addSat_eq f v
  rw [h]
@[simp] theorem State.addSat_freeCtr (s : State) (f : Field) (v : Nat) : (s.addSat f v).freeCtr = s.freeCtr := by
  obtain ⟨_, h⟩ := s.addSat_eq f v
  rw [h]
@[simp] theorem State.addSat_pending (s : State) (f : Field) (v : Nat) : (s.addSat f v).pending = s.pending := by
  obtain ⟨_, h⟩ := s.addSat_eq f v
  rw [h]

/-- It changes regs alone. -/
theorem State.puts_eq (s : State) (l : List (Field × Nat)) : ∃ r', s.puts l = { s with regs := r' } := by
  induction l generalizing s with
  | nil => exact ⟨s.regs, rfl⟩
  | cons e t ih =>
    obtain ⟨r, h⟩ := s.put_eq e.1 e.2
    rw [State.puts_cons, h]
    exact ih _
@[simp] theorem State.puts_ctrs (s : State) (l : List (Field × Nat)) : (s.puts l).ctrs = s.ctrs := by
  obtain ⟨_, h⟩ := s.puts_eq l
  rw [h]
@[simp] theorem State.puts_latches (s : State) (l : List (Field × Nat)) : (s.puts l).latches = s.latches := by
  obtain ⟨_, h⟩ := s.puts_eq l
  rw [h]
@[simp] theorem State.puts_held (s : State) (l : List (Field × Nat)) : (s.puts l).held = s.held := by
  obtain ⟨_, h⟩ := s.puts_eq l
  rw [h]
@[simp] theorem State.puts_hs (s : State) (l : List (Field × Nat)) : (s.puts l).hs = s.hs := by
  obtain ⟨_, h⟩ := s.puts_eq l
  rw [h]
@[simp] theorem State.puts_clk (s : State) (l : List (Field × Nat)) : (s.puts l).clk = s.clk := by
  obtain ⟨_, h⟩ := s.puts_eq l
  rw [h]
@[simp] theorem State.puts_boot (s : State) (l : List (Field × Nat)) : (s.puts l).boot = s.boot := by
  obtain ⟨_, h⟩ := s.puts_eq l
  rw [h]
@[simp] theorem State.puts_nv (s : State) (l : List (Field × Nat)) : (s.puts l).nv = s.nv := by
  obtain ⟨_, h⟩ := s.puts_eq l
  rw [h]
@[simp] theorem State.puts_flt (s : State) (l : List (Field × Nat)) : (s.puts l).flt = s.flt := by
  obtain ⟨_, h⟩ := s.puts_eq l
  rw [h]
@[simp] theorem State.puts_perf (s : State) (l : List (Field × Nat)) : (s.puts l).perf = s.perf := by
  obtain ⟨_, h⟩ := s.puts_eq l
  rw [h]
@[simp] theorem State.puts_keeper (s : State) (l : List (Field × Nat)) : (s.puts l).keeper = s.keeper := by
  obtain ⟨_, h⟩ := s.puts_eq l
  rw [h]
@[simp] theorem State.puts_sec (s : State) (l : List (Field × Nat)) : (s.puts l).sec = s.sec := by
  obtain ⟨_, h⟩ := s.puts_eq l
  rw [h]
@[simp] theorem State.puts_mbx (s : State) (l : List (Field × Nat)) : (s.puts l).mbx = s.mbx := by
  obtain ⟨_, h⟩ := s.puts_eq l
  rw [h]
@[simp] theorem State.puts_fab (s : State) (l : List (Field × Nat)) : (s.puts l).fab = s.fab := by
  obtain ⟨_, h⟩ := s.puts_eq l
  rw [h]
@[simp] theorem State.puts_out (s : State) (l : List (Field × Nat)) : (s.puts l).out = s.out := by
  obtain ⟨_, h⟩ := s.puts_eq l
  rw [h]
@[simp] theorem State.puts_freeCtr (s : State) (l : List (Field × Nat)) : (s.puts l).freeCtr = s.freeCtr := by
  obtain ⟨_, h⟩ := s.puts_eq l
  rw [h]
@[simp] theorem State.puts_pending (s : State) (l : List (Field × Nat)) : (s.puts l).pending = s.pending := by
  obtain ⟨_, h⟩ := s.puts_eq l
  rw [h]

/-- It changes regs alone. -/
theorem State.setEvents_eq (s : State) (p b : Nat) : ∃ r', s.setEvents p b = { s with regs := r' } := s.setWord_eq _ _
@[simp] theorem State.setEvents_ctrs (s : State) (p b : Nat) : (s.setEvents p b).ctrs = s.ctrs := by
  obtain ⟨_, h⟩ := s.setEvents_eq p b
  rw [h]
@[simp] theorem State.setEvents_latches (s : State) (p b : Nat) : (s.setEvents p b).latches = s.latches := by
  obtain ⟨_, h⟩ := s.setEvents_eq p b
  rw [h]
@[simp] theorem State.setEvents_held (s : State) (p b : Nat) : (s.setEvents p b).held = s.held := by
  obtain ⟨_, h⟩ := s.setEvents_eq p b
  rw [h]
@[simp] theorem State.setEvents_hs (s : State) (p b : Nat) : (s.setEvents p b).hs = s.hs := by
  obtain ⟨_, h⟩ := s.setEvents_eq p b
  rw [h]
@[simp] theorem State.setEvents_clk (s : State) (p b : Nat) : (s.setEvents p b).clk = s.clk := by
  obtain ⟨_, h⟩ := s.setEvents_eq p b
  rw [h]
@[simp] theorem State.setEvents_boot (s : State) (p b : Nat) : (s.setEvents p b).boot = s.boot := by
  obtain ⟨_, h⟩ := s.setEvents_eq p b
  rw [h]
@[simp] theorem State.setEvents_nv (s : State) (p b : Nat) : (s.setEvents p b).nv = s.nv := by
  obtain ⟨_, h⟩ := s.setEvents_eq p b
  rw [h]
@[simp] theorem State.setEvents_flt (s : State) (p b : Nat) : (s.setEvents p b).flt = s.flt := by
  obtain ⟨_, h⟩ := s.setEvents_eq p b
  rw [h]
@[simp] theorem State.setEvents_perf (s : State) (p b : Nat) : (s.setEvents p b).perf = s.perf := by
  obtain ⟨_, h⟩ := s.setEvents_eq p b
  rw [h]
@[simp] theorem State.setEvents_keeper (s : State) (p b : Nat) : (s.setEvents p b).keeper = s.keeper := by
  obtain ⟨_, h⟩ := s.setEvents_eq p b
  rw [h]
@[simp] theorem State.setEvents_sec (s : State) (p b : Nat) : (s.setEvents p b).sec = s.sec := by
  obtain ⟨_, h⟩ := s.setEvents_eq p b
  rw [h]
@[simp] theorem State.setEvents_mbx (s : State) (p b : Nat) : (s.setEvents p b).mbx = s.mbx := by
  obtain ⟨_, h⟩ := s.setEvents_eq p b
  rw [h]
@[simp] theorem State.setEvents_fab (s : State) (p b : Nat) : (s.setEvents p b).fab = s.fab := by
  obtain ⟨_, h⟩ := s.setEvents_eq p b
  rw [h]
@[simp] theorem State.setEvents_out (s : State) (p b : Nat) : (s.setEvents p b).out = s.out := by
  obtain ⟨_, h⟩ := s.setEvents_eq p b
  rw [h]
@[simp] theorem State.setEvents_freeCtr (s : State) (p b : Nat) : (s.setEvents p b).freeCtr = s.freeCtr := by
  obtain ⟨_, h⟩ := s.setEvents_eq p b
  rw [h]
@[simp] theorem State.setEvents_pending (s : State) (p b : Nat) : (s.setEvents p b).pending = s.pending := by
  obtain ⟨_, h⟩ := s.setEvents_eq p b
  rw [h]

/-- It changes regs alone. -/
theorem State.raise_eq (s : State) (e : Event) : ∃ r', s.raise e = { s with regs := r' } := by
  unfold State.raise
  split
  · exact s.setEvents_eq _ _
  · exact ⟨s.regs, rfl⟩
@[simp] theorem State.raise_ctrs (s : State) (e : Event) : (s.raise e).ctrs = s.ctrs := by
  obtain ⟨_, h⟩ := s.raise_eq e
  rw [h]
@[simp] theorem State.raise_latches (s : State) (e : Event) : (s.raise e).latches = s.latches := by
  obtain ⟨_, h⟩ := s.raise_eq e
  rw [h]
@[simp] theorem State.raise_held (s : State) (e : Event) : (s.raise e).held = s.held := by
  obtain ⟨_, h⟩ := s.raise_eq e
  rw [h]
@[simp] theorem State.raise_hs (s : State) (e : Event) : (s.raise e).hs = s.hs := by
  obtain ⟨_, h⟩ := s.raise_eq e
  rw [h]
@[simp] theorem State.raise_clk (s : State) (e : Event) : (s.raise e).clk = s.clk := by
  obtain ⟨_, h⟩ := s.raise_eq e
  rw [h]
@[simp] theorem State.raise_boot (s : State) (e : Event) : (s.raise e).boot = s.boot := by
  obtain ⟨_, h⟩ := s.raise_eq e
  rw [h]
@[simp] theorem State.raise_nv (s : State) (e : Event) : (s.raise e).nv = s.nv := by
  obtain ⟨_, h⟩ := s.raise_eq e
  rw [h]
@[simp] theorem State.raise_flt (s : State) (e : Event) : (s.raise e).flt = s.flt := by
  obtain ⟨_, h⟩ := s.raise_eq e
  rw [h]
@[simp] theorem State.raise_perf (s : State) (e : Event) : (s.raise e).perf = s.perf := by
  obtain ⟨_, h⟩ := s.raise_eq e
  rw [h]
@[simp] theorem State.raise_keeper (s : State) (e : Event) : (s.raise e).keeper = s.keeper := by
  obtain ⟨_, h⟩ := s.raise_eq e
  rw [h]
@[simp] theorem State.raise_sec (s : State) (e : Event) : (s.raise e).sec = s.sec := by
  obtain ⟨_, h⟩ := s.raise_eq e
  rw [h]
@[simp] theorem State.raise_mbx (s : State) (e : Event) : (s.raise e).mbx = s.mbx := by
  obtain ⟨_, h⟩ := s.raise_eq e
  rw [h]
@[simp] theorem State.raise_fab (s : State) (e : Event) : (s.raise e).fab = s.fab := by
  obtain ⟨_, h⟩ := s.raise_eq e
  rw [h]
@[simp] theorem State.raise_out (s : State) (e : Event) : (s.raise e).out = s.out := by
  obtain ⟨_, h⟩ := s.raise_eq e
  rw [h]
@[simp] theorem State.raise_freeCtr (s : State) (e : Event) : (s.raise e).freeCtr = s.freeCtr := by
  obtain ⟨_, h⟩ := s.raise_eq e
  rw [h]
@[simp] theorem State.raise_pending (s : State) (e : Event) : (s.raise e).pending = s.pending := by
  obtain ⟨_, h⟩ := s.raise_eq e
  rw [h]

/-- It changes regs alone. -/
theorem State.raiseIf_eq (s : State) (c : Bool) (e : Event) : ∃ r', s.raiseIf c e = { s with regs := r' } := by
  cases c
  · exact ⟨s.regs, rfl⟩
  · exact s.raise_eq e
@[simp] theorem State.raiseIf_ctrs (s : State) (c : Bool) (e : Event) : (s.raiseIf c e).ctrs = s.ctrs := by
  obtain ⟨_, h⟩ := s.raiseIf_eq c e
  rw [h]
@[simp] theorem State.raiseIf_latches (s : State) (c : Bool) (e : Event) : (s.raiseIf c e).latches = s.latches := by
  obtain ⟨_, h⟩ := s.raiseIf_eq c e
  rw [h]
@[simp] theorem State.raiseIf_held (s : State) (c : Bool) (e : Event) : (s.raiseIf c e).held = s.held := by
  obtain ⟨_, h⟩ := s.raiseIf_eq c e
  rw [h]
@[simp] theorem State.raiseIf_hs (s : State) (c : Bool) (e : Event) : (s.raiseIf c e).hs = s.hs := by
  obtain ⟨_, h⟩ := s.raiseIf_eq c e
  rw [h]
@[simp] theorem State.raiseIf_clk (s : State) (c : Bool) (e : Event) : (s.raiseIf c e).clk = s.clk := by
  obtain ⟨_, h⟩ := s.raiseIf_eq c e
  rw [h]
@[simp] theorem State.raiseIf_boot (s : State) (c : Bool) (e : Event) : (s.raiseIf c e).boot = s.boot := by
  obtain ⟨_, h⟩ := s.raiseIf_eq c e
  rw [h]
@[simp] theorem State.raiseIf_nv (s : State) (c : Bool) (e : Event) : (s.raiseIf c e).nv = s.nv := by
  obtain ⟨_, h⟩ := s.raiseIf_eq c e
  rw [h]
@[simp] theorem State.raiseIf_flt (s : State) (c : Bool) (e : Event) : (s.raiseIf c e).flt = s.flt := by
  obtain ⟨_, h⟩ := s.raiseIf_eq c e
  rw [h]
@[simp] theorem State.raiseIf_perf (s : State) (c : Bool) (e : Event) : (s.raiseIf c e).perf = s.perf := by
  obtain ⟨_, h⟩ := s.raiseIf_eq c e
  rw [h]
@[simp] theorem State.raiseIf_keeper (s : State) (c : Bool) (e : Event) : (s.raiseIf c e).keeper = s.keeper := by
  obtain ⟨_, h⟩ := s.raiseIf_eq c e
  rw [h]
@[simp] theorem State.raiseIf_sec (s : State) (c : Bool) (e : Event) : (s.raiseIf c e).sec = s.sec := by
  obtain ⟨_, h⟩ := s.raiseIf_eq c e
  rw [h]
@[simp] theorem State.raiseIf_mbx (s : State) (c : Bool) (e : Event) : (s.raiseIf c e).mbx = s.mbx := by
  obtain ⟨_, h⟩ := s.raiseIf_eq c e
  rw [h]
@[simp] theorem State.raiseIf_fab (s : State) (c : Bool) (e : Event) : (s.raiseIf c e).fab = s.fab := by
  obtain ⟨_, h⟩ := s.raiseIf_eq c e
  rw [h]
@[simp] theorem State.raiseIf_out (s : State) (c : Bool) (e : Event) : (s.raiseIf c e).out = s.out := by
  obtain ⟨_, h⟩ := s.raiseIf_eq c e
  rw [h]
@[simp] theorem State.raiseIf_freeCtr (s : State) (c : Bool) (e : Event) : (s.raiseIf c e).freeCtr = s.freeCtr := by
  obtain ⟨_, h⟩ := s.raiseIf_eq c e
  rw [h]
@[simp] theorem State.raiseIf_pending (s : State) (c : Bool) (e : Event) : (s.raiseIf c e).pending = s.pending := by
  obtain ⟨_, h⟩ := s.raiseIf_eq c e
  rw [h]

/-- It changes ctrs alone. -/
theorem State.count_eq (s : State) (c n : Nat) : ∃ c', s.count c n = { s with ctrs := c' } := ⟨_, rfl⟩
@[simp] theorem State.count_regs (s : State) (c n : Nat) : (s.count c n).regs = s.regs := by
  obtain ⟨_, h⟩ := s.count_eq c n
  rw [h]
@[simp] theorem State.count_latches (s : State) (c n : Nat) : (s.count c n).latches = s.latches := by
  obtain ⟨_, h⟩ := s.count_eq c n
  rw [h]
@[simp] theorem State.count_held (s : State) (c n : Nat) : (s.count c n).held = s.held := by
  obtain ⟨_, h⟩ := s.count_eq c n
  rw [h]
@[simp] theorem State.count_hs (s : State) (c n : Nat) : (s.count c n).hs = s.hs := by
  obtain ⟨_, h⟩ := s.count_eq c n
  rw [h]
@[simp] theorem State.count_clk (s : State) (c n : Nat) : (s.count c n).clk = s.clk := by
  obtain ⟨_, h⟩ := s.count_eq c n
  rw [h]
@[simp] theorem State.count_boot (s : State) (c n : Nat) : (s.count c n).boot = s.boot := by
  obtain ⟨_, h⟩ := s.count_eq c n
  rw [h]
@[simp] theorem State.count_nv (s : State) (c n : Nat) : (s.count c n).nv = s.nv := by
  obtain ⟨_, h⟩ := s.count_eq c n
  rw [h]
@[simp] theorem State.count_flt (s : State) (c n : Nat) : (s.count c n).flt = s.flt := by
  obtain ⟨_, h⟩ := s.count_eq c n
  rw [h]
@[simp] theorem State.count_perf (s : State) (c n : Nat) : (s.count c n).perf = s.perf := by
  obtain ⟨_, h⟩ := s.count_eq c n
  rw [h]
@[simp] theorem State.count_keeper (s : State) (c n : Nat) : (s.count c n).keeper = s.keeper := by
  obtain ⟨_, h⟩ := s.count_eq c n
  rw [h]
@[simp] theorem State.count_sec (s : State) (c n : Nat) : (s.count c n).sec = s.sec := by
  obtain ⟨_, h⟩ := s.count_eq c n
  rw [h]
@[simp] theorem State.count_mbx (s : State) (c n : Nat) : (s.count c n).mbx = s.mbx := by
  obtain ⟨_, h⟩ := s.count_eq c n
  rw [h]
@[simp] theorem State.count_fab (s : State) (c n : Nat) : (s.count c n).fab = s.fab := by
  obtain ⟨_, h⟩ := s.count_eq c n
  rw [h]
@[simp] theorem State.count_out (s : State) (c n : Nat) : (s.count c n).out = s.out := by
  obtain ⟨_, h⟩ := s.count_eq c n
  rw [h]
@[simp] theorem State.count_freeCtr (s : State) (c n : Nat) : (s.count c n).freeCtr = s.freeCtr := by
  obtain ⟨_, h⟩ := s.count_eq c n
  rw [h]
@[simp] theorem State.count_pending (s : State) (c n : Nat) : (s.count c n).pending = s.pending := by
  obtain ⟨_, h⟩ := s.count_eq c n
  rw [h]

/-- It changes freeCtr alone. -/
theorem State.used_eq (s : State) (n : Nat) : ∃ x', s.used n = { s with freeCtr := x' } := ⟨_, rfl⟩
@[simp] theorem State.used_regs (s : State) (n : Nat) : (s.used n).regs = s.regs := by
  obtain ⟨_, h⟩ := s.used_eq n
  rw [h]
@[simp] theorem State.used_ctrs (s : State) (n : Nat) : (s.used n).ctrs = s.ctrs := by
  obtain ⟨_, h⟩ := s.used_eq n
  rw [h]
@[simp] theorem State.used_latches (s : State) (n : Nat) : (s.used n).latches = s.latches := by
  obtain ⟨_, h⟩ := s.used_eq n
  rw [h]
@[simp] theorem State.used_held (s : State) (n : Nat) : (s.used n).held = s.held := by
  obtain ⟨_, h⟩ := s.used_eq n
  rw [h]
@[simp] theorem State.used_hs (s : State) (n : Nat) : (s.used n).hs = s.hs := by
  obtain ⟨_, h⟩ := s.used_eq n
  rw [h]
@[simp] theorem State.used_clk (s : State) (n : Nat) : (s.used n).clk = s.clk := by
  obtain ⟨_, h⟩ := s.used_eq n
  rw [h]
@[simp] theorem State.used_boot (s : State) (n : Nat) : (s.used n).boot = s.boot := by
  obtain ⟨_, h⟩ := s.used_eq n
  rw [h]
@[simp] theorem State.used_nv (s : State) (n : Nat) : (s.used n).nv = s.nv := by
  obtain ⟨_, h⟩ := s.used_eq n
  rw [h]
@[simp] theorem State.used_flt (s : State) (n : Nat) : (s.used n).flt = s.flt := by
  obtain ⟨_, h⟩ := s.used_eq n
  rw [h]
@[simp] theorem State.used_perf (s : State) (n : Nat) : (s.used n).perf = s.perf := by
  obtain ⟨_, h⟩ := s.used_eq n
  rw [h]
@[simp] theorem State.used_keeper (s : State) (n : Nat) : (s.used n).keeper = s.keeper := by
  obtain ⟨_, h⟩ := s.used_eq n
  rw [h]
@[simp] theorem State.used_sec (s : State) (n : Nat) : (s.used n).sec = s.sec := by
  obtain ⟨_, h⟩ := s.used_eq n
  rw [h]
@[simp] theorem State.used_mbx (s : State) (n : Nat) : (s.used n).mbx = s.mbx := by
  obtain ⟨_, h⟩ := s.used_eq n
  rw [h]
@[simp] theorem State.used_fab (s : State) (n : Nat) : (s.used n).fab = s.fab := by
  obtain ⟨_, h⟩ := s.used_eq n
  rw [h]
@[simp] theorem State.used_out (s : State) (n : Nat) : (s.used n).out = s.out := by
  obtain ⟨_, h⟩ := s.used_eq n
  rw [h]
@[simp] theorem State.used_pending (s : State) (n : Nat) : (s.used n).pending = s.pending := by
  obtain ⟨_, h⟩ := s.used_eq n
  rw [h]

/-- It changes out alone. -/
theorem State.emit_eq (s : State) (x : Output) : ∃ o', s.emit x = { s with out := o' } := ⟨_, rfl⟩
@[simp] theorem State.emit_regs (s : State) (x : Output) : (s.emit x).regs = s.regs := by
  obtain ⟨_, h⟩ := s.emit_eq x
  rw [h]
@[simp] theorem State.emit_ctrs (s : State) (x : Output) : (s.emit x).ctrs = s.ctrs := by
  obtain ⟨_, h⟩ := s.emit_eq x
  rw [h]
@[simp] theorem State.emit_latches (s : State) (x : Output) : (s.emit x).latches = s.latches := by
  obtain ⟨_, h⟩ := s.emit_eq x
  rw [h]
@[simp] theorem State.emit_held (s : State) (x : Output) : (s.emit x).held = s.held := by
  obtain ⟨_, h⟩ := s.emit_eq x
  rw [h]
@[simp] theorem State.emit_hs (s : State) (x : Output) : (s.emit x).hs = s.hs := by
  obtain ⟨_, h⟩ := s.emit_eq x
  rw [h]
@[simp] theorem State.emit_clk (s : State) (x : Output) : (s.emit x).clk = s.clk := by
  obtain ⟨_, h⟩ := s.emit_eq x
  rw [h]
@[simp] theorem State.emit_boot (s : State) (x : Output) : (s.emit x).boot = s.boot := by
  obtain ⟨_, h⟩ := s.emit_eq x
  rw [h]
@[simp] theorem State.emit_nv (s : State) (x : Output) : (s.emit x).nv = s.nv := by
  obtain ⟨_, h⟩ := s.emit_eq x
  rw [h]
@[simp] theorem State.emit_flt (s : State) (x : Output) : (s.emit x).flt = s.flt := by
  obtain ⟨_, h⟩ := s.emit_eq x
  rw [h]
@[simp] theorem State.emit_perf (s : State) (x : Output) : (s.emit x).perf = s.perf := by
  obtain ⟨_, h⟩ := s.emit_eq x
  rw [h]
@[simp] theorem State.emit_keeper (s : State) (x : Output) : (s.emit x).keeper = s.keeper := by
  obtain ⟨_, h⟩ := s.emit_eq x
  rw [h]
@[simp] theorem State.emit_sec (s : State) (x : Output) : (s.emit x).sec = s.sec := by
  obtain ⟨_, h⟩ := s.emit_eq x
  rw [h]
@[simp] theorem State.emit_mbx (s : State) (x : Output) : (s.emit x).mbx = s.mbx := by
  obtain ⟨_, h⟩ := s.emit_eq x
  rw [h]
@[simp] theorem State.emit_fab (s : State) (x : Output) : (s.emit x).fab = s.fab := by
  obtain ⟨_, h⟩ := s.emit_eq x
  rw [h]
@[simp] theorem State.emit_freeCtr (s : State) (x : Output) : (s.emit x).freeCtr = s.freeCtr := by
  obtain ⟨_, h⟩ := s.emit_eq x
  rw [h]
@[simp] theorem State.emit_pending (s : State) (x : Output) : (s.emit x).pending = s.pending := by
  obtain ⟨_, h⟩ := s.emit_eq x
  rw [h]

/-- It changes out alone. -/
theorem State.begin_eq (s : State) : ∃ o', s.begin = { s with out := o' } := ⟨_, rfl⟩
@[simp] theorem State.begin_regs (s : State) : (s.begin).regs = s.regs := by
  obtain ⟨_, h⟩ := s.begin_eq 
  rw [h]
@[simp] theorem State.begin_ctrs (s : State) : (s.begin).ctrs = s.ctrs := by
  obtain ⟨_, h⟩ := s.begin_eq 
  rw [h]
@[simp] theorem State.begin_latches (s : State) : (s.begin).latches = s.latches := by
  obtain ⟨_, h⟩ := s.begin_eq 
  rw [h]
@[simp] theorem State.begin_held (s : State) : (s.begin).held = s.held := by
  obtain ⟨_, h⟩ := s.begin_eq 
  rw [h]
@[simp] theorem State.begin_hs (s : State) : (s.begin).hs = s.hs := by
  obtain ⟨_, h⟩ := s.begin_eq 
  rw [h]
@[simp] theorem State.begin_clk (s : State) : (s.begin).clk = s.clk := by
  obtain ⟨_, h⟩ := s.begin_eq 
  rw [h]
@[simp] theorem State.begin_boot (s : State) : (s.begin).boot = s.boot := by
  obtain ⟨_, h⟩ := s.begin_eq 
  rw [h]
@[simp] theorem State.begin_nv (s : State) : (s.begin).nv = s.nv := by
  obtain ⟨_, h⟩ := s.begin_eq 
  rw [h]
@[simp] theorem State.begin_flt (s : State) : (s.begin).flt = s.flt := by
  obtain ⟨_, h⟩ := s.begin_eq 
  rw [h]
@[simp] theorem State.begin_perf (s : State) : (s.begin).perf = s.perf := by
  obtain ⟨_, h⟩ := s.begin_eq 
  rw [h]
@[simp] theorem State.begin_keeper (s : State) : (s.begin).keeper = s.keeper := by
  obtain ⟨_, h⟩ := s.begin_eq 
  rw [h]
@[simp] theorem State.begin_sec (s : State) : (s.begin).sec = s.sec := by
  obtain ⟨_, h⟩ := s.begin_eq 
  rw [h]
@[simp] theorem State.begin_mbx (s : State) : (s.begin).mbx = s.mbx := by
  obtain ⟨_, h⟩ := s.begin_eq 
  rw [h]
@[simp] theorem State.begin_fab (s : State) : (s.begin).fab = s.fab := by
  obtain ⟨_, h⟩ := s.begin_eq 
  rw [h]
@[simp] theorem State.begin_freeCtr (s : State) : (s.begin).freeCtr = s.freeCtr := by
  obtain ⟨_, h⟩ := s.begin_eq 
  rw [h]
@[simp] theorem State.begin_pending (s : State) : (s.begin).pending = s.pending := by
  obtain ⟨_, h⟩ := s.begin_eq 
  rw [h]

/-- It changes fab alone. -/
theorem State.modPair_eq (s : State) (f : Pair → Pair) : ∃ y', s.modPair f = { s with fab := y' } := ⟨_, rfl⟩
@[simp] theorem State.modPair_regs (s : State) (f : Pair → Pair) : (s.modPair f).regs = s.regs := by
  obtain ⟨_, h⟩ := s.modPair_eq f
  rw [h]
@[simp] theorem State.modPair_ctrs (s : State) (f : Pair → Pair) : (s.modPair f).ctrs = s.ctrs := by
  obtain ⟨_, h⟩ := s.modPair_eq f
  rw [h]
@[simp] theorem State.modPair_latches (s : State) (f : Pair → Pair) : (s.modPair f).latches = s.latches := by
  obtain ⟨_, h⟩ := s.modPair_eq f
  rw [h]
@[simp] theorem State.modPair_held (s : State) (f : Pair → Pair) : (s.modPair f).held = s.held := by
  obtain ⟨_, h⟩ := s.modPair_eq f
  rw [h]
@[simp] theorem State.modPair_hs (s : State) (f : Pair → Pair) : (s.modPair f).hs = s.hs := by
  obtain ⟨_, h⟩ := s.modPair_eq f
  rw [h]
@[simp] theorem State.modPair_clk (s : State) (f : Pair → Pair) : (s.modPair f).clk = s.clk := by
  obtain ⟨_, h⟩ := s.modPair_eq f
  rw [h]
@[simp] theorem State.modPair_boot (s : State) (f : Pair → Pair) : (s.modPair f).boot = s.boot := by
  obtain ⟨_, h⟩ := s.modPair_eq f
  rw [h]
@[simp] theorem State.modPair_nv (s : State) (f : Pair → Pair) : (s.modPair f).nv = s.nv := by
  obtain ⟨_, h⟩ := s.modPair_eq f
  rw [h]
@[simp] theorem State.modPair_flt (s : State) (f : Pair → Pair) : (s.modPair f).flt = s.flt := by
  obtain ⟨_, h⟩ := s.modPair_eq f
  rw [h]
@[simp] theorem State.modPair_perf (s : State) (f : Pair → Pair) : (s.modPair f).perf = s.perf := by
  obtain ⟨_, h⟩ := s.modPair_eq f
  rw [h]
@[simp] theorem State.modPair_keeper (s : State) (f : Pair → Pair) : (s.modPair f).keeper = s.keeper := by
  obtain ⟨_, h⟩ := s.modPair_eq f
  rw [h]
@[simp] theorem State.modPair_sec (s : State) (f : Pair → Pair) : (s.modPair f).sec = s.sec := by
  obtain ⟨_, h⟩ := s.modPair_eq f
  rw [h]
@[simp] theorem State.modPair_mbx (s : State) (f : Pair → Pair) : (s.modPair f).mbx = s.mbx := by
  obtain ⟨_, h⟩ := s.modPair_eq f
  rw [h]
@[simp] theorem State.modPair_out (s : State) (f : Pair → Pair) : (s.modPair f).out = s.out := by
  obtain ⟨_, h⟩ := s.modPair_eq f
  rw [h]
@[simp] theorem State.modPair_freeCtr (s : State) (f : Pair → Pair) : (s.modPair f).freeCtr = s.freeCtr := by
  obtain ⟨_, h⟩ := s.modPair_eq f
  rw [h]
@[simp] theorem State.modPair_pending (s : State) (f : Pair → Pair) : (s.modPair f).pending = s.pending := by
  obtain ⟨_, h⟩ := s.modPair_eq f
  rw [h]

/-- It changes fab alone. -/
theorem State.modHome_eq (s : State) (f : Home → Home) : ∃ y', s.modHome f = { s with fab := y' } := ⟨_, rfl⟩
@[simp] theorem State.modHome_regs (s : State) (f : Home → Home) : (s.modHome f).regs = s.regs := by
  obtain ⟨_, h⟩ := s.modHome_eq f
  rw [h]
@[simp] theorem State.modHome_ctrs (s : State) (f : Home → Home) : (s.modHome f).ctrs = s.ctrs := by
  obtain ⟨_, h⟩ := s.modHome_eq f
  rw [h]
@[simp] theorem State.modHome_latches (s : State) (f : Home → Home) : (s.modHome f).latches = s.latches := by
  obtain ⟨_, h⟩ := s.modHome_eq f
  rw [h]
@[simp] theorem State.modHome_held (s : State) (f : Home → Home) : (s.modHome f).held = s.held := by
  obtain ⟨_, h⟩ := s.modHome_eq f
  rw [h]
@[simp] theorem State.modHome_hs (s : State) (f : Home → Home) : (s.modHome f).hs = s.hs := by
  obtain ⟨_, h⟩ := s.modHome_eq f
  rw [h]
@[simp] theorem State.modHome_clk (s : State) (f : Home → Home) : (s.modHome f).clk = s.clk := by
  obtain ⟨_, h⟩ := s.modHome_eq f
  rw [h]
@[simp] theorem State.modHome_boot (s : State) (f : Home → Home) : (s.modHome f).boot = s.boot := by
  obtain ⟨_, h⟩ := s.modHome_eq f
  rw [h]
@[simp] theorem State.modHome_nv (s : State) (f : Home → Home) : (s.modHome f).nv = s.nv := by
  obtain ⟨_, h⟩ := s.modHome_eq f
  rw [h]
@[simp] theorem State.modHome_flt (s : State) (f : Home → Home) : (s.modHome f).flt = s.flt := by
  obtain ⟨_, h⟩ := s.modHome_eq f
  rw [h]
@[simp] theorem State.modHome_perf (s : State) (f : Home → Home) : (s.modHome f).perf = s.perf := by
  obtain ⟨_, h⟩ := s.modHome_eq f
  rw [h]
@[simp] theorem State.modHome_keeper (s : State) (f : Home → Home) : (s.modHome f).keeper = s.keeper := by
  obtain ⟨_, h⟩ := s.modHome_eq f
  rw [h]
@[simp] theorem State.modHome_sec (s : State) (f : Home → Home) : (s.modHome f).sec = s.sec := by
  obtain ⟨_, h⟩ := s.modHome_eq f
  rw [h]
@[simp] theorem State.modHome_mbx (s : State) (f : Home → Home) : (s.modHome f).mbx = s.mbx := by
  obtain ⟨_, h⟩ := s.modHome_eq f
  rw [h]
@[simp] theorem State.modHome_out (s : State) (f : Home → Home) : (s.modHome f).out = s.out := by
  obtain ⟨_, h⟩ := s.modHome_eq f
  rw [h]
@[simp] theorem State.modHome_freeCtr (s : State) (f : Home → Home) : (s.modHome f).freeCtr = s.freeCtr := by
  obtain ⟨_, h⟩ := s.modHome_eq f
  rw [h]
@[simp] theorem State.modHome_pending (s : State) (f : Home → Home) : (s.modHome f).pending = s.pending := by
  obtain ⟨_, h⟩ := s.modHome_eq f
  rw [h]

/-- It changes regs alone. -/
theorem State.captureFirst_eq (s : State) (m : FaultMsg) : ∃ r', s.captureFirst m = { s with regs := r' } := by
  unfold State.captureFirst
  dsimp only
  split
  · exact ⟨s.regs, rfl⟩
  · split
    · exact ⟨s.regs, rfl⟩
    · rename_i b _ _ _
      obtain ⟨r, h⟩ := s.puts_eq [(Fld.ERR_FIRST_ADDR_LO_ADDR m.source, m.addr.getD 0), (Fld.ERR_FIRST_ADDR_HI_ADDR m.source, m.addr.getD 0 / 2 ^ 32),
        (Fld.ERR_FIRST_MASTER_MASTER m.source, m.party), (Fld.ERR_FIRST_MASTER_UNIT m.source, m.unit), (Fld.ERR_FIRST_ATYPE_KIND m.source, m.kind),
        (Fld.ERR_FIRST_ATYPE_CLASS m.source, m.cls), (Fld.ERR_FIRST_ATYPE_ATYPE m.source, m.atype), (Fld.ERR_FIRST_ATYPE_VALID m.source, 1)]
      rw [h]
      exact State.put64_eq _ _ _
@[simp] theorem State.captureFirst_ctrs (s : State) (m : FaultMsg) : (s.captureFirst m).ctrs = s.ctrs := by
  obtain ⟨_, h⟩ := s.captureFirst_eq m
  rw [h]
@[simp] theorem State.captureFirst_latches (s : State) (m : FaultMsg) : (s.captureFirst m).latches = s.latches := by
  obtain ⟨_, h⟩ := s.captureFirst_eq m
  rw [h]
@[simp] theorem State.captureFirst_held (s : State) (m : FaultMsg) : (s.captureFirst m).held = s.held := by
  obtain ⟨_, h⟩ := s.captureFirst_eq m
  rw [h]
@[simp] theorem State.captureFirst_hs (s : State) (m : FaultMsg) : (s.captureFirst m).hs = s.hs := by
  obtain ⟨_, h⟩ := s.captureFirst_eq m
  rw [h]
@[simp] theorem State.captureFirst_clk (s : State) (m : FaultMsg) : (s.captureFirst m).clk = s.clk := by
  obtain ⟨_, h⟩ := s.captureFirst_eq m
  rw [h]
@[simp] theorem State.captureFirst_boot (s : State) (m : FaultMsg) : (s.captureFirst m).boot = s.boot := by
  obtain ⟨_, h⟩ := s.captureFirst_eq m
  rw [h]
@[simp] theorem State.captureFirst_nv (s : State) (m : FaultMsg) : (s.captureFirst m).nv = s.nv := by
  obtain ⟨_, h⟩ := s.captureFirst_eq m
  rw [h]
@[simp] theorem State.captureFirst_flt (s : State) (m : FaultMsg) : (s.captureFirst m).flt = s.flt := by
  obtain ⟨_, h⟩ := s.captureFirst_eq m
  rw [h]
@[simp] theorem State.captureFirst_perf (s : State) (m : FaultMsg) : (s.captureFirst m).perf = s.perf := by
  obtain ⟨_, h⟩ := s.captureFirst_eq m
  rw [h]
@[simp] theorem State.captureFirst_keeper (s : State) (m : FaultMsg) : (s.captureFirst m).keeper = s.keeper := by
  obtain ⟨_, h⟩ := s.captureFirst_eq m
  rw [h]
@[simp] theorem State.captureFirst_sec (s : State) (m : FaultMsg) : (s.captureFirst m).sec = s.sec := by
  obtain ⟨_, h⟩ := s.captureFirst_eq m
  rw [h]
@[simp] theorem State.captureFirst_mbx (s : State) (m : FaultMsg) : (s.captureFirst m).mbx = s.mbx := by
  obtain ⟨_, h⟩ := s.captureFirst_eq m
  rw [h]
@[simp] theorem State.captureFirst_fab (s : State) (m : FaultMsg) : (s.captureFirst m).fab = s.fab := by
  obtain ⟨_, h⟩ := s.captureFirst_eq m
  rw [h]
@[simp] theorem State.captureFirst_out (s : State) (m : FaultMsg) : (s.captureFirst m).out = s.out := by
  obtain ⟨_, h⟩ := s.captureFirst_eq m
  rw [h]
@[simp] theorem State.captureFirst_freeCtr (s : State) (m : FaultMsg) : (s.captureFirst m).freeCtr = s.freeCtr := by
  obtain ⟨_, h⟩ := s.captureFirst_eq m
  rw [h]
@[simp] theorem State.captureFirst_pending (s : State) (m : FaultMsg) : (s.captureFirst m).pending = s.pending := by
  obtain ⟨_, h⟩ := s.captureFirst_eq m
  rw [h]

/-- It changes regs and flt alone. -/
theorem State.sendFault_eq (s : State) (m : FaultMsg) : ∃ r' l', s.sendFault m = { s with regs := r', flt := l' } := by
  unfold State.sendFault
  split
  · exact ⟨s.regs, s.flt, rfl⟩
  · dsimp only
    split
    · obtain ⟨r, h⟩ := s.captureFirst_eq m
      rw [h]
      exact ⟨_, _, rfl⟩
    · exact ⟨s.regs, _, rfl⟩
@[simp] theorem State.sendFault_ctrs (s : State) (m : FaultMsg) : (s.sendFault m).ctrs = s.ctrs := by
  obtain ⟨_, _, h⟩ := s.sendFault_eq m
  rw [h]
@[simp] theorem State.sendFault_latches (s : State) (m : FaultMsg) : (s.sendFault m).latches = s.latches := by
  obtain ⟨_, _, h⟩ := s.sendFault_eq m
  rw [h]
@[simp] theorem State.sendFault_held (s : State) (m : FaultMsg) : (s.sendFault m).held = s.held := by
  obtain ⟨_, _, h⟩ := s.sendFault_eq m
  rw [h]
@[simp] theorem State.sendFault_hs (s : State) (m : FaultMsg) : (s.sendFault m).hs = s.hs := by
  obtain ⟨_, _, h⟩ := s.sendFault_eq m
  rw [h]
@[simp] theorem State.sendFault_clk (s : State) (m : FaultMsg) : (s.sendFault m).clk = s.clk := by
  obtain ⟨_, _, h⟩ := s.sendFault_eq m
  rw [h]
@[simp] theorem State.sendFault_boot (s : State) (m : FaultMsg) : (s.sendFault m).boot = s.boot := by
  obtain ⟨_, _, h⟩ := s.sendFault_eq m
  rw [h]
@[simp] theorem State.sendFault_nv (s : State) (m : FaultMsg) : (s.sendFault m).nv = s.nv := by
  obtain ⟨_, _, h⟩ := s.sendFault_eq m
  rw [h]
@[simp] theorem State.sendFault_perf (s : State) (m : FaultMsg) : (s.sendFault m).perf = s.perf := by
  obtain ⟨_, _, h⟩ := s.sendFault_eq m
  rw [h]
@[simp] theorem State.sendFault_keeper (s : State) (m : FaultMsg) : (s.sendFault m).keeper = s.keeper := by
  obtain ⟨_, _, h⟩ := s.sendFault_eq m
  rw [h]
@[simp] theorem State.sendFault_sec (s : State) (m : FaultMsg) : (s.sendFault m).sec = s.sec := by
  obtain ⟨_, _, h⟩ := s.sendFault_eq m
  rw [h]
@[simp] theorem State.sendFault_mbx (s : State) (m : FaultMsg) : (s.sendFault m).mbx = s.mbx := by
  obtain ⟨_, _, h⟩ := s.sendFault_eq m
  rw [h]
@[simp] theorem State.sendFault_fab (s : State) (m : FaultMsg) : (s.sendFault m).fab = s.fab := by
  obtain ⟨_, _, h⟩ := s.sendFault_eq m
  rw [h]
@[simp] theorem State.sendFault_out (s : State) (m : FaultMsg) : (s.sendFault m).out = s.out := by
  obtain ⟨_, _, h⟩ := s.sendFault_eq m
  rw [h]
@[simp] theorem State.sendFault_freeCtr (s : State) (m : FaultMsg) : (s.sendFault m).freeCtr = s.freeCtr := by
  obtain ⟨_, _, h⟩ := s.sendFault_eq m
  rw [h]
@[simp] theorem State.sendFault_pending (s : State) (m : FaultMsg) : (s.sendFault m).pending = s.pending := by
  obtain ⟨_, _, h⟩ := s.sendFault_eq m
  rw [h]

/-- It changes regs and flt alone. -/
theorem State.driveAlert_eq (s : State) : ∃ r' l', s.driveAlert = { s with regs := r', flt := l' } := by
  unfold State.driveAlert
  dsimp only
  obtain ⟨r, h⟩ := s.raiseIf_eq (s.alertLevel && !s.flt.alert) Evt.FLT_ALERT
  rw [h]
  exact ⟨_, _, rfl⟩
@[simp] theorem State.driveAlert_ctrs (s : State) : (s.driveAlert).ctrs = s.ctrs := by
  obtain ⟨_, _, h⟩ := s.driveAlert_eq 
  rw [h]
@[simp] theorem State.driveAlert_latches (s : State) : (s.driveAlert).latches = s.latches := by
  obtain ⟨_, _, h⟩ := s.driveAlert_eq 
  rw [h]
@[simp] theorem State.driveAlert_held (s : State) : (s.driveAlert).held = s.held := by
  obtain ⟨_, _, h⟩ := s.driveAlert_eq 
  rw [h]
@[simp] theorem State.driveAlert_hs (s : State) : (s.driveAlert).hs = s.hs := by
  obtain ⟨_, _, h⟩ := s.driveAlert_eq 
  rw [h]
@[simp] theorem State.driveAlert_clk (s : State) : (s.driveAlert).clk = s.clk := by
  obtain ⟨_, _, h⟩ := s.driveAlert_eq 
  rw [h]
@[simp] theorem State.driveAlert_boot (s : State) : (s.driveAlert).boot = s.boot := by
  obtain ⟨_, _, h⟩ := s.driveAlert_eq 
  rw [h]
@[simp] theorem State.driveAlert_nv (s : State) : (s.driveAlert).nv = s.nv := by
  obtain ⟨_, _, h⟩ := s.driveAlert_eq 
  rw [h]
@[simp] theorem State.driveAlert_perf (s : State) : (s.driveAlert).perf = s.perf := by
  obtain ⟨_, _, h⟩ := s.driveAlert_eq 
  rw [h]
@[simp] theorem State.driveAlert_keeper (s : State) : (s.driveAlert).keeper = s.keeper := by
  obtain ⟨_, _, h⟩ := s.driveAlert_eq 
  rw [h]
@[simp] theorem State.driveAlert_sec (s : State) : (s.driveAlert).sec = s.sec := by
  obtain ⟨_, _, h⟩ := s.driveAlert_eq 
  rw [h]
@[simp] theorem State.driveAlert_mbx (s : State) : (s.driveAlert).mbx = s.mbx := by
  obtain ⟨_, _, h⟩ := s.driveAlert_eq 
  rw [h]
@[simp] theorem State.driveAlert_fab (s : State) : (s.driveAlert).fab = s.fab := by
  obtain ⟨_, _, h⟩ := s.driveAlert_eq 
  rw [h]
@[simp] theorem State.driveAlert_out (s : State) : (s.driveAlert).out = s.out := by
  obtain ⟨_, _, h⟩ := s.driveAlert_eq 
  rw [h]
@[simp] theorem State.driveAlert_freeCtr (s : State) : (s.driveAlert).freeCtr = s.freeCtr := by
  obtain ⟨_, _, h⟩ := s.driveAlert_eq 
  rw [h]
@[simp] theorem State.driveAlert_pending (s : State) : (s.driveAlert).pending = s.pending := by
  obtain ⟨_, _, h⟩ := s.driveAlert_eq 
  rw [h]

/-- It changes keeper alone. -/
theorem State.dropLevels_eq (s : State) : ∃ k', s.dropLevels = { s with keeper := k' } := ⟨_, rfl⟩
@[simp] theorem State.dropLevels_regs (s : State) : (s.dropLevels).regs = s.regs := by
  obtain ⟨_, h⟩ := s.dropLevels_eq 
  rw [h]
@[simp] theorem State.dropLevels_ctrs (s : State) : (s.dropLevels).ctrs = s.ctrs := by
  obtain ⟨_, h⟩ := s.dropLevels_eq 
  rw [h]
@[simp] theorem State.dropLevels_latches (s : State) : (s.dropLevels).latches = s.latches := by
  obtain ⟨_, h⟩ := s.dropLevels_eq 
  rw [h]
@[simp] theorem State.dropLevels_held (s : State) : (s.dropLevels).held = s.held := by
  obtain ⟨_, h⟩ := s.dropLevels_eq 
  rw [h]
@[simp] theorem State.dropLevels_hs (s : State) : (s.dropLevels).hs = s.hs := by
  obtain ⟨_, h⟩ := s.dropLevels_eq 
  rw [h]
@[simp] theorem State.dropLevels_clk (s : State) : (s.dropLevels).clk = s.clk := by
  obtain ⟨_, h⟩ := s.dropLevels_eq 
  rw [h]
@[simp] theorem State.dropLevels_boot (s : State) : (s.dropLevels).boot = s.boot := by
  obtain ⟨_, h⟩ := s.dropLevels_eq 
  rw [h]
@[simp] theorem State.dropLevels_nv (s : State) : (s.dropLevels).nv = s.nv := by
  obtain ⟨_, h⟩ := s.dropLevels_eq 
  rw [h]
@[simp] theorem State.dropLevels_flt (s : State) : (s.dropLevels).flt = s.flt := by
  obtain ⟨_, h⟩ := s.dropLevels_eq 
  rw [h]
@[simp] theorem State.dropLevels_perf (s : State) : (s.dropLevels).perf = s.perf := by
  obtain ⟨_, h⟩ := s.dropLevels_eq 
  rw [h]
@[simp] theorem State.dropLevels_sec (s : State) : (s.dropLevels).sec = s.sec := by
  obtain ⟨_, h⟩ := s.dropLevels_eq 
  rw [h]
@[simp] theorem State.dropLevels_mbx (s : State) : (s.dropLevels).mbx = s.mbx := by
  obtain ⟨_, h⟩ := s.dropLevels_eq 
  rw [h]
@[simp] theorem State.dropLevels_fab (s : State) : (s.dropLevels).fab = s.fab := by
  obtain ⟨_, h⟩ := s.dropLevels_eq 
  rw [h]
@[simp] theorem State.dropLevels_out (s : State) : (s.dropLevels).out = s.out := by
  obtain ⟨_, h⟩ := s.dropLevels_eq 
  rw [h]
@[simp] theorem State.dropLevels_freeCtr (s : State) : (s.dropLevels).freeCtr = s.freeCtr := by
  obtain ⟨_, h⟩ := s.dropLevels_eq 
  rw [h]
@[simp] theorem State.dropLevels_pending (s : State) : (s.dropLevels).pending = s.pending := by
  obtain ⟨_, h⟩ := s.dropLevels_eq 
  rw [h]

/-- It changes regs and flt and keeper alone. -/
theorem State.settle_eq (s : State) : ∃ r' l' k', s.settle = { s with regs := r', flt := l', keeper := k' } := by
  unfold State.settle
  obtain ⟨r, f, h⟩ := s.driveAlert_eq
  rw [h]
  exact ⟨_, _, _, rfl⟩
@[simp] theorem State.settle_ctrs (s : State) : (s.settle).ctrs = s.ctrs := by
  obtain ⟨_, _, _, h⟩ := s.settle_eq 
  rw [h]
@[simp] theorem State.settle_latches (s : State) : (s.settle).latches = s.latches := by
  obtain ⟨_, _, _, h⟩ := s.settle_eq 
  rw [h]
@[simp] theorem State.settle_held (s : State) : (s.settle).held = s.held := by
  obtain ⟨_, _, _, h⟩ := s.settle_eq 
  rw [h]
@[simp] theorem State.settle_hs (s : State) : (s.settle).hs = s.hs := by
  obtain ⟨_, _, _, h⟩ := s.settle_eq 
  rw [h]
@[simp] theorem State.settle_clk (s : State) : (s.settle).clk = s.clk := by
  obtain ⟨_, _, _, h⟩ := s.settle_eq 
  rw [h]
@[simp] theorem State.settle_boot (s : State) : (s.settle).boot = s.boot := by
  obtain ⟨_, _, _, h⟩ := s.settle_eq 
  rw [h]
@[simp] theorem State.settle_nv (s : State) : (s.settle).nv = s.nv := by
  obtain ⟨_, _, _, h⟩ := s.settle_eq 
  rw [h]
@[simp] theorem State.settle_perf (s : State) : (s.settle).perf = s.perf := by
  obtain ⟨_, _, _, h⟩ := s.settle_eq 
  rw [h]
@[simp] theorem State.settle_sec (s : State) : (s.settle).sec = s.sec := by
  obtain ⟨_, _, _, h⟩ := s.settle_eq 
  rw [h]
@[simp] theorem State.settle_mbx (s : State) : (s.settle).mbx = s.mbx := by
  obtain ⟨_, _, _, h⟩ := s.settle_eq 
  rw [h]
@[simp] theorem State.settle_fab (s : State) : (s.settle).fab = s.fab := by
  obtain ⟨_, _, _, h⟩ := s.settle_eq 
  rw [h]
@[simp] theorem State.settle_out (s : State) : (s.settle).out = s.out := by
  obtain ⟨_, _, _, h⟩ := s.settle_eq 
  rw [h]
@[simp] theorem State.settle_freeCtr (s : State) : (s.settle).freeCtr = s.freeCtr := by
  obtain ⟨_, _, _, h⟩ := s.settle_eq 
  rw [h]
@[simp] theorem State.settle_pending (s : State) : (s.settle).pending = s.pending := by
  obtain ⟨_, _, _, h⟩ := s.settle_eq 
  rw [h]

@[simp] theorem State.begin_out (s : State) : s.begin.out = [] := rfl
@[simp] theorem State.emit_out (s : State) (x : Output) : (s.emit x).out = s.out ++ [x] := rfl
@[simp] theorem State.used_freeCtr (s : State) (n : Nat) : (s.used n).freeCtr = s.freeCtr + n := rfl
@[simp] theorem State.modPair_fab (s : State) (f : Pair → Pair) : (s.modPair f).fab = { s.fab with pair := f s.fab.pair } := rfl
@[simp] theorem State.modHome_fab (s : State) (f : Home → Home) : (s.modHome f).fab = { s.fab with home := f s.fab.home } := rfl
@[simp] theorem State.settle_flt (s : State) : s.settle.flt = { s.flt with alert := s.alertLevel } := by
  simp [State.settle, State.driveAlert]
theorem State.settle_keeper (s : State) : s.settle.keeper = { s.keeper with sampled := s.keeper.sampled.filter s.driveAlert.level } := by
  simp [State.settle, State.dropLevels]

@[simp] theorem State.nvWrote_ctrs (s : State) (i : Nat) : (s.nvWrote i).ctrs = s.ctrs := by
  unfold State.nvWrote
  dsimp only
  split <;> simp
@[simp] theorem State.nvWrote_latches (s : State) (i : Nat) : (s.nvWrote i).latches = s.latches := by
  unfold State.nvWrote
  dsimp only
  split <;> simp
@[simp] theorem State.nvWrote_held (s : State) (i : Nat) : (s.nvWrote i).held = s.held := by
  unfold State.nvWrote
  dsimp only
  split <;> simp
@[simp] theorem State.nvWrote_hs (s : State) (i : Nat) : (s.nvWrote i).hs = s.hs := by
  unfold State.nvWrote
  dsimp only
  split <;> simp
@[simp] theorem State.nvWrote_clk (s : State) (i : Nat) : (s.nvWrote i).clk = s.clk := by
  unfold State.nvWrote
  dsimp only
  split <;> simp
@[simp] theorem State.nvWrote_boot (s : State) (i : Nat) : (s.nvWrote i).boot = s.boot := by
  unfold State.nvWrote
  dsimp only
  split <;> simp
@[simp] theorem State.nvWrote_flt (s : State) (i : Nat) : (s.nvWrote i).flt = s.flt := by
  unfold State.nvWrote
  dsimp only
  split <;> simp
@[simp] theorem State.nvWrote_perf (s : State) (i : Nat) : (s.nvWrote i).perf = s.perf := by
  unfold State.nvWrote
  dsimp only
  split <;> simp
@[simp] theorem State.nvWrote_keeper (s : State) (i : Nat) : (s.nvWrote i).keeper = s.keeper := by
  unfold State.nvWrote
  dsimp only
  split <;> simp
@[simp] theorem State.nvWrote_sec (s : State) (i : Nat) : (s.nvWrote i).sec = s.sec := by
  unfold State.nvWrote
  dsimp only
  split <;> simp
@[simp] theorem State.nvWrote_mbx (s : State) (i : Nat) : (s.nvWrote i).mbx = s.mbx := by
  unfold State.nvWrote
  dsimp only
  split <;> simp
@[simp] theorem State.nvWrote_fab (s : State) (i : Nat) : (s.nvWrote i).fab = s.fab := by
  unfold State.nvWrote
  dsimp only
  split <;> simp
@[simp] theorem State.nvWrote_out (s : State) (i : Nat) : (s.nvWrote i).out = s.out := by
  unfold State.nvWrote
  dsimp only
  split <;> simp
@[simp] theorem State.nvWrote_freeCtr (s : State) (i : Nat) : (s.nvWrote i).freeCtr = s.freeCtr := by
  unfold State.nvWrote
  dsimp only
  split <;> simp
@[simp] theorem State.nvWrote_pending (s : State) (i : Nat) : (s.nvWrote i).pending = s.pending := by
  unfold State.nvWrote
  dsimp only
  split <;> simp

theorem State.get_nvWrote {s : State} {n : Nat} {g : Field} (h : g.addr ≠ Fld.NVS_WEAR_UNITS.addr) (h2 : g.addr ≠ evtPendAddr 9) : (s.nvWrote n).get g = s.get g := by
  unfold State.nvWrote
  dsimp only
  split
  · have h3 : (Evt.NVS_WEAR_HIGH).page = 9 := rfl
    simp only [State.get, State.raiseIf]
    split
    · simp only [State.raise]
      split
      · simp only [State.setEvents, State.word_setWord_other _ _ (h3 ▸ h2 : g.addr ≠ evtPendAddr (Evt.NVS_WEAR_HIGH).page)]
        simp only [State.put, State.word_setWord_other _ _ h]
        rfl
      · simp only [State.put, State.word_setWord_other _ _ h]
        rfl
    · simp only [State.put, State.word_setWord_other _ _ h]
      rfl
  · rfl

@[simp] theorem State.word_count (s : State) (c n : Nat) (b : Nat) : (s.count c n).word b = s.word b := State.word_congr (by simp) b
@[simp] theorem State.get_count (s : State) (c n : Nat) (g : Field) : (s.count c n).get g = s.get g := State.get_congr (by simp) g
@[simp] theorem State.flag_count (s : State) (c n : Nat) (g : Field) : (s.count c n).flag g = s.flag g := by simp [State.flag]
@[simp] theorem State.word_used (s : State) (n : Nat) (b : Nat) : (s.used n).word b = s.word b := State.word_congr (by simp) b
@[simp] theorem State.get_used (s : State) (n : Nat) (g : Field) : (s.used n).get g = s.get g := State.get_congr (by simp) g
@[simp] theorem State.flag_used (s : State) (n : Nat) (g : Field) : (s.used n).flag g = s.flag g := by simp [State.flag]
@[simp] theorem State.word_emit (s : State) (x : Output) (b : Nat) : (s.emit x).word b = s.word b := State.word_congr (by simp) b
@[simp] theorem State.get_emit (s : State) (x : Output) (g : Field) : (s.emit x).get g = s.get g := State.get_congr (by simp) g
@[simp] theorem State.flag_emit (s : State) (x : Output) (g : Field) : (s.emit x).flag g = s.flag g := by simp [State.flag]
@[simp] theorem State.word_begin (s : State) (b : Nat) : (s.begin).word b = s.word b := State.word_congr (by simp) b
@[simp] theorem State.get_begin (s : State) (g : Field) : (s.begin).get g = s.get g := State.get_congr (by simp) g
@[simp] theorem State.flag_begin (s : State) (g : Field) : (s.begin).flag g = s.flag g := by simp [State.flag]
@[simp] theorem State.word_modPair (s : State) (f : Pair → Pair) (b : Nat) : (s.modPair f).word b = s.word b := State.word_congr (by simp) b
@[simp] theorem State.get_modPair (s : State) (f : Pair → Pair) (g : Field) : (s.modPair f).get g = s.get g := State.get_congr (by simp) g
@[simp] theorem State.flag_modPair (s : State) (f : Pair → Pair) (g : Field) : (s.modPair f).flag g = s.flag g := by simp [State.flag]
@[simp] theorem State.word_modHome (s : State) (f : Home → Home) (b : Nat) : (s.modHome f).word b = s.word b := State.word_congr (by simp) b
@[simp] theorem State.get_modHome (s : State) (f : Home → Home) (g : Field) : (s.modHome f).get g = s.get g := State.get_congr (by simp) g
@[simp] theorem State.flag_modHome (s : State) (f : Home → Home) (g : Field) : (s.modHome f).flag g = s.flag g := by simp [State.flag]
@[simp] theorem State.word_dropLevels (s : State) (b : Nat) : (s.dropLevels).word b = s.word b := State.word_congr (by simp) b
@[simp] theorem State.get_dropLevels (s : State) (g : Field) : (s.dropLevels).get g = s.get g := State.get_congr (by simp) g
@[simp] theorem State.flag_dropLevels (s : State) (g : Field) : (s.dropLevels).flag g = s.flag g := by simp [State.flag]

/-! ### Counters -/

@[simp] theorem State.counter_count_same (s : State) (c n : Nat) : (s.count c n).counter c = s.counter c + BitVec.ofNat 64 n := sparseGet_sparsePut_same _ _ _ _

theorem State.counter_count_other (s : State) {c d : Nat} (n : Nat) (h : d ≠ c) : (s.count c n).counter d = s.counter d := sparseGet_sparsePut_other _ _ _ h

theorem State.counter_congr {s t : State} (h : t.ctrs = s.ctrs) (c : Nat) : t.counter c = s.counter c := by simp [State.counter, h]

/-! ### Events -/

theorem State.word_raise_other (s : State) {e : Event} {a : Nat} (h : a ≠ evtPendAddr e.page) : (s.raise e).word a = s.word a := by
  unfold State.raise
  split
  · exact State.word_setWord_other _ _ h
  · rfl

theorem State.get_raise (s : State) {e : Event} {f : Field} (h : f.addr ≠ evtPendAddr e.page) : (s.raise e).get f = s.get f := by
  simp only [State.get, State.word_raise_other s h]

theorem State.flag_raise (s : State) {e : Event} {f : Field} (h : f.addr ≠ evtPendAddr e.page) : (s.raise e).flag f = s.flag f := by
  simp only [State.flag, State.get_raise s h]

theorem State.word_raiseIf_other (s : State) {c : Bool} {e : Event} {a : Nat} (h : a ≠ evtPendAddr e.page) : (s.raiseIf c e).word a = s.word a := by
  cases c
  · rfl
  · exact State.word_raise_other s h

theorem State.get_raiseIf (s : State) {c : Bool} {e : Event} {f : Field} (h : f.addr ≠ evtPendAddr e.page) : (s.raiseIf c e).get f = s.get f := by
  simp only [State.get, State.word_raiseIf_other s h]

/-- The bit of an event that its page implements reads 1 after it is raised in a page whose domain is out of reset (R441). -/
theorem State.testBit_raise (s : State) {e : Event} (hl : s.live e.page = true) (hm : (pageEvtMask e.page).testBit e.bit = true) (hb : e.bit < 32) :
    ((s.raise e).word (evtPendAddr e.page)).toNat.testBit e.bit = true := by
  rw [State.raise, if_pos hl, State.setEvents, State.word_setWord_same, BitVec.toNat_ofNat, Nat.testBit_mod_two_pow, Nat.testBit_or, Nat.testBit_and, hm,
    Nat.testBit_two_pow_self]
  simp [hb]

/-! ### The lines settle at the end of a command (R358, R377) -/

/-- Settling raises at most FLT's ALERT event: every other register word stays. -/
theorem State.word_settle (s : State) {a : Nat} (h : a ≠ 0x40040) : s.settle.word a = s.word a := by
  have h1 : s.settle.word a = s.driveAlert.word a := rfl
  have h2 : s.driveAlert.word a = (s.raiseIf (s.alertLevel && !s.flt.alert) Evt.FLT_ALERT).word a := rfl
  rw [h1, h2]
  exact State.word_raiseIf_other s (by simpa [Evt.FLT_ALERT, evtPendAddr] using h)

theorem State.get_settle (s : State) {f : Field} (h : f.addr ≠ 0x40040) : s.settle.get f = s.get f := by
  simp only [State.get, State.word_settle s h]

theorem State.flag_settle (s : State) {f : Field} (h : f.addr ≠ 0x40040) : s.settle.flag f = s.flag f := by
  simp only [State.flag, State.get_settle s h]

/-- Settling leaves the events of other pages and FLT's other events alone. -/
theorem State.settle_keeper_kicks (s : State) : s.settle.keeper.kicks = s.keeper.kicks := by simp [State.settle_keeper]

/-! ### The mirror (R306): it changes page TDM, counters, what is put out, and the mirroring engine -/

/-- t differs from s at most in page TDM, the counters, the outputs, the mirroring engine and the words the tiles' copies lag behind. -/
def OnlyPair (s t : State) : Prop :=
  t = { s with regs := t.regs, ctrs := t.ctrs, out := t.out, fab := { s.fab with pair := t.fab.pair, lag := t.fab.lag } } ∧ ∀ a, a / 0x10000 ≠ 0xA0 → t.word a = s.word a

theorem OnlyPair.refl (s : State) : OnlyPair s s := ⟨rfl, fun _ _ => rfl⟩

theorem OnlyPair.trans {s t u : State} (h1 : OnlyPair s t) (h2 : OnlyPair t u) : OnlyPair s u := by
  refine ⟨?_, fun a ha => (h2.2 a ha).trans (h1.2 a ha)⟩
  rw [h2.1]
  conv_lhs => rw [h1.1]

theorem OnlyPair.put {s t : State} (h : OnlyPair s t) (f : Field) (v : Nat) (hf : f.addr / 0x10000 = 0xA0) : OnlyPair s (t.put f v) :=
  h.trans ⟨rfl, fun a ha => State.word_put_other _ _ (by rintro rfl; exact ha hf)⟩

theorem OnlyPair.count {s t : State} (h : OnlyPair s t) (c n : Nat) : OnlyPair s (t.count c n) := h.trans ⟨rfl, fun _ _ => rfl⟩
theorem OnlyPair.emit {s t : State} (h : OnlyPair s t) (x : Output) : OnlyPair s (t.emit x) := h.trans ⟨rfl, fun _ _ => rfl⟩
theorem OnlyPair.modPair {s t : State} (h : OnlyPair s t) (f : Pair → Pair) : OnlyPair s (t.modPair f) := h.trans ⟨rfl, fun _ _ => rfl⟩

theorem OnlyPair.raise {s t : State} (h : OnlyPair s t) (e : Event) (he : e.page = 0xA0) : OnlyPair s (t.raise e) := by
  refine h.trans ?_
  unfold State.raise
  split
  · exact ⟨rfl, fun a ha => State.word_setWord_other _ _ (by rintro rfl; apply ha; simp [evtPendAddr, he])⟩
  · exact OnlyPair.refl _

theorem OnlyPair.sendFrames {s t : State} (h : OnlyPair s t) (n : Nat) : OnlyPair s (t.sendFrames n) := ((h.modPair _).count _ _).count _ _

theorem OnlyPair.pumpRecords (l : List Rec) : ∀ {s t : State}, OnlyPair s t → OnlyPair s (t.pumpRecords l) := by
  induction l with
  | nil => intro s t h; exact h
  | cons r rest ih =>
    intro s t h
    simp only [State.pumpRecords]
    split
    · exact ih h
    · split
      · exact ih (((h.sendFrames _).emit _).modPair _)
      · split
        · exact (h.sendFrames _).modPair _
        · exact h

theorem OnlyPair.pump {s t : State} (h : OnlyPair s t) : OnlyPair s t.pump := by
  unfold State.pump
  apply OnlyPair.pumpRecords
  have h1 : OnlyPair s (if t.fab.pair.ackDue && t.canSend 1 then
      ((t.sendFrames 1).modPair fun p => { p with ackDue := false }).emit (.ackRec true (t.get Fld.TDM_ACKSEQ_SEQ) t.fab.pair.mepoch) else t) := by
    split
    · exact ((h.sendFrames _).modPair _).emit _
    · exact h
  revert h1
  generalize (if t.fab.pair.ackDue && t.canSend 1 then
      ((t.sendFrames 1).modPair fun p => { p with ackDue := false }).emit (.ackRec true (t.get Fld.TDM_ACKSEQ_SEQ) t.fab.pair.mepoch) else t) = u
  intro h1
  split
  · exact (((h1.sendFrames _).modPair _).emit _).count _ _
  · exact h1

theorem OnlyPair.appendOne {s t : State} (h : OnlyPair s t) (g : Nat) (b : RecBody) : OnlyPair s (t.appendOne g b) := by
  unfold State.appendOne
  apply OnlyPair.pump
  apply OnlyPair.put _ _ _ rfl
  apply OnlyPair.count
  apply OnlyPair.modPair
  split
  · exact (h.put _ _ rfl).put _ _ rfl
  · exact h.put _ _ rfl

theorem OnlyPair.closeEpoch {s t : State} (h : OnlyPair s t) : OnlyPair s t.closeEpoch := by
  unfold State.closeEpoch
  dsimp only
  split
  · exact ((h.modPair _).appendOne _ _).modPair _
  · exact h.raise _ rfl

theorem OnlyPair.append {s t : State} (h : OnlyPair s t) (g : Nat) (b : RecBody) : OnlyPair s (t.append g b) := by
  unfold State.append
  dsimp only
  split
  · exact (h.appendOne g b).closeEpoch
  · exact h.appendOne g b

theorem OnlyPair.lagTiles {s t : State} (h : OnlyPair s t) (old : State) : OnlyPair s (t.lagTiles old) := by
  refine h.trans ?_
  unfold State.lagTiles
  dsimp only
  split
  · exact OnlyPair.refl _
  · exact ⟨rfl, fun _ _ => rfl⟩

theorem OnlyPair.issue {s t : State} (h : OnlyPair s t) (g : Nat) (b : RecBody) : OnlyPair s (t.issue g b) := by
  unfold State.issue
  split
  · exact h
  · split
    · exact h.append g b
    · exact (h.put _ _ rfl).raise _ rfl

theorem OnlyPair.issueEntry {s t : State} (h : OnlyPair s t) (regs : List Nat) (e : Nat) : OnlyPair s (t.issueEntry regs e) := by
  unfold State.issueEntry
  split
  · exact h
  · exact h.issue _ _

theorem OnlyPair.foldl {α : Type} (f : State → α → State) (hf : ∀ {s t : State} (x : α), OnlyPair s t → OnlyPair s (f t x)) (l : List α) :
    ∀ {s t : State}, OnlyPair s t → OnlyPair s (l.foldl f t) := by
  induction l with
  | nil => intro s t h; exact h
  | cons x t ih => intro s u h; exact ih (hf x h)

/-- Mirroring what a command has changed leaves everything else alone. -/
theorem State.mirror_onlyPair (s old : State) : OnlyPair s (s.mirror old) := by
  unfold State.mirror
  dsimp only
  split
  · exact (OnlyPair.refl _).lagTiles old
  · exact OnlyPair.foldl _ (fun x h => h.issue _ _) _ (OnlyPair.foldl _ (fun x h => h.issueEntry _ _) _ ((OnlyPair.refl _).lagTiles old))

@[simp] theorem State.mirror_latches (s old : State) : (s.mirror old).latches = s.latches := by rw [(s.mirror_onlyPair old).1]
@[simp] theorem State.mirror_held (s old : State) : (s.mirror old).held = s.held := by rw [(s.mirror_onlyPair old).1]
@[simp] theorem State.mirror_hs (s old : State) : (s.mirror old).hs = s.hs := by rw [(s.mirror_onlyPair old).1]
@[simp] theorem State.mirror_clk (s old : State) : (s.mirror old).clk = s.clk := by rw [(s.mirror_onlyPair old).1]
@[simp] theorem State.mirror_boot (s old : State) : (s.mirror old).boot = s.boot := by rw [(s.mirror_onlyPair old).1]
@[simp] theorem State.mirror_nv (s old : State) : (s.mirror old).nv = s.nv := by rw [(s.mirror_onlyPair old).1]
@[simp] theorem State.mirror_flt (s old : State) : (s.mirror old).flt = s.flt := by rw [(s.mirror_onlyPair old).1]
@[simp] theorem State.mirror_perf (s old : State) : (s.mirror old).perf = s.perf := by rw [(s.mirror_onlyPair old).1]
@[simp] theorem State.mirror_keeper (s old : State) : (s.mirror old).keeper = s.keeper := by rw [(s.mirror_onlyPair old).1]
@[simp] theorem State.mirror_sec (s old : State) : (s.mirror old).sec = s.sec := by rw [(s.mirror_onlyPair old).1]
@[simp] theorem State.mirror_mbx (s old : State) : (s.mirror old).mbx = s.mbx := by rw [(s.mirror_onlyPair old).1]
@[simp] theorem State.mirror_freeCtr (s old : State) : (s.mirror old).freeCtr = s.freeCtr := by rw [(s.mirror_onlyPair old).1]
@[simp] theorem State.mirror_pending (s old : State) : (s.mirror old).pending = s.pending := by rw [(s.mirror_onlyPair old).1]
@[simp] theorem State.mirror_fab_lanes (s old : State) : (s.mirror old).fab.lanes = s.fab.lanes := by rw [(s.mirror_onlyPair old).1]
@[simp] theorem State.mirror_fab_ring (s old : State) : (s.mirror old).fab.ring = s.fab.ring := by rw [(s.mirror_onlyPair old).1]
@[simp] theorem State.mirror_fab_stage (s old : State) : (s.mirror old).fab.stage = s.fab.stage := by rw [(s.mirror_onlyPair old).1]
@[simp] theorem State.mirror_fab_up (s old : State) : (s.mirror old).fab.up = s.fab.up := by rw [(s.mirror_onlyPair old).1]
@[simp] theorem State.mirror_fab_sw (s old : State) : (s.mirror old).fab.sw = s.fab.sw := by rw [(s.mirror_onlyPair old).1]
@[simp] theorem State.mirror_fab_home (s old : State) : (s.mirror old).fab.home = s.fab.home := by rw [(s.mirror_onlyPair old).1]
@[simp] theorem State.mirror_fab_comb (s old : State) : (s.mirror old).fab.comb = s.fab.comb := by rw [(s.mirror_onlyPair old).1]
@[simp] theorem State.mirror_fab_hat (s old : State) : (s.mirror old).fab.hat = s.fab.hat := by rw [(s.mirror_onlyPair old).1]
@[simp] theorem State.mirror_fab_mover (s old : State) : (s.mirror old).fab.mover = s.fab.mover := by rw [(s.mirror_onlyPair old).1]
@[simp] theorem State.mirror_fab_dlog (s old : State) : (s.mirror old).fab.dlog = s.fab.dlog := by rw [(s.mirror_onlyPair old).1]

theorem State.word_mirror (s old : State) {a : Nat} (h : a / 0x10000 ≠ 0xA0) : (s.mirror old).word a = s.word a := (s.mirror_onlyPair old).2 a h

theorem State.get_mirror (s old : State) {f : Field} (h : f.addr / 0x10000 ≠ 0xA0) : (s.mirror old).get f = s.get f := by
  simp only [State.get, State.word_mirror s old h]

theorem State.flag_mirror (s old : State) {f : Field} (h : f.addr / 0x10000 ≠ 0xA0) : (s.mirror old).flag f = s.flag f := by
  simp only [State.flag, State.get_mirror s old h]

/-- The words the tiles' copies lag behind decide nothing of the mirror. -/
@[simp] theorem State.issues_lagTiles (s old : State) : (s.lagTiles old).issues = s.issues := by
  unfold State.lagTiles
  dsimp only
  split <;> rfl

/-- A module that issues no records mirrors nothing (R306): only its tiles' copies follow (R158). -/
theorem State.mirror_of_not_issues {s old : State} (h : s.issues = false) : s.mirror old = s.lagTiles old := by simp [State.mirror, h]

end Sys2Proof.Machine
end

