-- ==== Sys2Proof/Laws/Fabric.lean ====
section
/-! SUPPORT. Sys2Proof/Laws/Fabric.lean: what an update of one unit of the fabric, or of one box, changes, field by field. -/
namespace Sys2Proof.Machine

/-! ### modSw -/

@[simp] theorem State.modSw_fab (s : State) (f : Switch → Switch) : (s.modSw f).fab = { s.fab with sw := f s.fab.sw } := rfl
@[simp] theorem State.modSw_regs (s : State) (f : Switch → Switch) : (s.modSw f).regs = s.regs := rfl
@[simp] theorem State.modSw_ctrs (s : State) (f : Switch → Switch) : (s.modSw f).ctrs = s.ctrs := rfl
@[simp] theorem State.modSw_latches (s : State) (f : Switch → Switch) : (s.modSw f).latches = s.latches := rfl
@[simp] theorem State.modSw_held (s : State) (f : Switch → Switch) : (s.modSw f).held = s.held := rfl
@[simp] theorem State.modSw_hs (s : State) (f : Switch → Switch) : (s.modSw f).hs = s.hs := rfl
@[simp] theorem State.modSw_clk (s : State) (f : Switch → Switch) : (s.modSw f).clk = s.clk := rfl
@[simp] theorem State.modSw_boot (s : State) (f : Switch → Switch) : (s.modSw f).boot = s.boot := rfl
@[simp] theorem State.modSw_nv (s : State) (f : Switch → Switch) : (s.modSw f).nv = s.nv := rfl
@[simp] theorem State.modSw_flt (s : State) (f : Switch → Switch) : (s.modSw f).flt = s.flt := rfl
@[simp] theorem State.modSw_perf (s : State) (f : Switch → Switch) : (s.modSw f).perf = s.perf := rfl
@[simp] theorem State.modSw_keeper (s : State) (f : Switch → Switch) : (s.modSw f).keeper = s.keeper := rfl
@[simp] theorem State.modSw_sec (s : State) (f : Switch → Switch) : (s.modSw f).sec = s.sec := rfl
@[simp] theorem State.modSw_mbx (s : State) (f : Switch → Switch) : (s.modSw f).mbx = s.mbx := rfl
@[simp] theorem State.modSw_out (s : State) (f : Switch → Switch) : (s.modSw f).out = s.out := rfl
@[simp] theorem State.modSw_freeCtr (s : State) (f : Switch → Switch) : (s.modSw f).freeCtr = s.freeCtr := rfl
@[simp] theorem State.modSw_pending (s : State) (f : Switch → Switch) : (s.modSw f).pending = s.pending := rfl
@[simp] theorem State.modSw_get (s : State) (f : Switch → Switch) (g : Field) : (s.modSw f).get g = s.get g := rfl

/-! ### modComb -/

@[simp] theorem State.modComb_fab (s : State) (f : Comb → Comb) : (s.modComb f).fab = { s.fab with comb := f s.fab.comb } := rfl
@[simp] theorem State.modComb_regs (s : State) (f : Comb → Comb) : (s.modComb f).regs = s.regs := rfl
@[simp] theorem State.modComb_ctrs (s : State) (f : Comb → Comb) : (s.modComb f).ctrs = s.ctrs := rfl
@[simp] theorem State.modComb_latches (s : State) (f : Comb → Comb) : (s.modComb f).latches = s.latches := rfl
@[simp] theorem State.modComb_held (s : State) (f : Comb → Comb) : (s.modComb f).held = s.held := rfl
@[simp] theorem State.modComb_hs (s : State) (f : Comb → Comb) : (s.modComb f).hs = s.hs := rfl
@[simp] theorem State.modComb_clk (s : State) (f : Comb → Comb) : (s.modComb f).clk = s.clk := rfl
@[simp] theorem State.modComb_boot (s : State) (f : Comb → Comb) : (s.modComb f).boot = s.boot := rfl
@[simp] theorem State.modComb_nv (s : State) (f : Comb → Comb) : (s.modComb f).nv = s.nv := rfl
@[simp] theorem State.modComb_flt (s : State) (f : Comb → Comb) : (s.modComb f).flt = s.flt := rfl
@[simp] theorem State.modComb_perf (s : State) (f : Comb → Comb) : (s.modComb f).perf = s.perf := rfl
@[simp] theorem State.modComb_keeper (s : State) (f : Comb → Comb) : (s.modComb f).keeper = s.keeper := rfl
@[simp] theorem State.modComb_sec (s : State) (f : Comb → Comb) : (s.modComb f).sec = s.sec := rfl
@[simp] theorem State.modComb_mbx (s : State) (f : Comb → Comb) : (s.modComb f).mbx = s.mbx := rfl
@[simp] theorem State.modComb_out (s : State) (f : Comb → Comb) : (s.modComb f).out = s.out := rfl
@[simp] theorem State.modComb_freeCtr (s : State) (f : Comb → Comb) : (s.modComb f).freeCtr = s.freeCtr := rfl
@[simp] theorem State.modComb_pending (s : State) (f : Comb → Comb) : (s.modComb f).pending = s.pending := rfl
@[simp] theorem State.modComb_get (s : State) (f : Comb → Comb) (g : Field) : (s.modComb f).get g = s.get g := rfl

/-! ### modHat -/

@[simp] theorem State.modHat_fab (s : State) (f : Hat → Hat) : (s.modHat f).fab = { s.fab with hat := f s.fab.hat } := rfl
@[simp] theorem State.modHat_regs (s : State) (f : Hat → Hat) : (s.modHat f).regs = s.regs := rfl
@[simp] theorem State.modHat_ctrs (s : State) (f : Hat → Hat) : (s.modHat f).ctrs = s.ctrs := rfl
@[simp] theorem State.modHat_latches (s : State) (f : Hat → Hat) : (s.modHat f).latches = s.latches := rfl
@[simp] theorem State.modHat_held (s : State) (f : Hat → Hat) : (s.modHat f).held = s.held := rfl
@[simp] theorem State.modHat_hs (s : State) (f : Hat → Hat) : (s.modHat f).hs = s.hs := rfl
@[simp] theorem State.modHat_clk (s : State) (f : Hat → Hat) : (s.modHat f).clk = s.clk := rfl
@[simp] theorem State.modHat_boot (s : State) (f : Hat → Hat) : (s.modHat f).boot = s.boot := rfl
@[simp] theorem State.modHat_nv (s : State) (f : Hat → Hat) : (s.modHat f).nv = s.nv := rfl
@[simp] theorem State.modHat_flt (s : State) (f : Hat → Hat) : (s.modHat f).flt = s.flt := rfl
@[simp] theorem State.modHat_perf (s : State) (f : Hat → Hat) : (s.modHat f).perf = s.perf := rfl
@[simp] theorem State.modHat_keeper (s : State) (f : Hat → Hat) : (s.modHat f).keeper = s.keeper := rfl
@[simp] theorem State.modHat_sec (s : State) (f : Hat → Hat) : (s.modHat f).sec = s.sec := rfl
@[simp] theorem State.modHat_mbx (s : State) (f : Hat → Hat) : (s.modHat f).mbx = s.mbx := rfl
@[simp] theorem State.modHat_out (s : State) (f : Hat → Hat) : (s.modHat f).out = s.out := rfl
@[simp] theorem State.modHat_freeCtr (s : State) (f : Hat → Hat) : (s.modHat f).freeCtr = s.freeCtr := rfl
@[simp] theorem State.modHat_pending (s : State) (f : Hat → Hat) : (s.modHat f).pending = s.pending := rfl
@[simp] theorem State.modHat_get (s : State) (f : Hat → Hat) (g : Field) : (s.modHat f).get g = s.get g := rfl

/-! ### modMover -/

@[simp] theorem State.modMover_fab (s : State) (f : Mover → Mover) : (s.modMover f).fab = { s.fab with mover := f s.fab.mover } := rfl
@[simp] theorem State.modMover_regs (s : State) (f : Mover → Mover) : (s.modMover f).regs = s.regs := rfl
@[simp] theorem State.modMover_ctrs (s : State) (f : Mover → Mover) : (s.modMover f).ctrs = s.ctrs := rfl
@[simp] theorem State.modMover_latches (s : State) (f : Mover → Mover) : (s.modMover f).latches = s.latches := rfl
@[simp] theorem State.modMover_held (s : State) (f : Mover → Mover) : (s.modMover f).held = s.held := rfl
@[simp] theorem State.modMover_hs (s : State) (f : Mover → Mover) : (s.modMover f).hs = s.hs := rfl
@[simp] theorem State.modMover_clk (s : State) (f : Mover → Mover) : (s.modMover f).clk = s.clk := rfl
@[simp] theorem State.modMover_boot (s : State) (f : Mover → Mover) : (s.modMover f).boot = s.boot := rfl
@[simp] theorem State.modMover_nv (s : State) (f : Mover → Mover) : (s.modMover f).nv = s.nv := rfl
@[simp] theorem State.modMover_flt (s : State) (f : Mover → Mover) : (s.modMover f).flt = s.flt := rfl
@[simp] theorem State.modMover_perf (s : State) (f : Mover → Mover) : (s.modMover f).perf = s.perf := rfl
@[simp] theorem State.modMover_keeper (s : State) (f : Mover → Mover) : (s.modMover f).keeper = s.keeper := rfl
@[simp] theorem State.modMover_sec (s : State) (f : Mover → Mover) : (s.modMover f).sec = s.sec := rfl
@[simp] theorem State.modMover_mbx (s : State) (f : Mover → Mover) : (s.modMover f).mbx = s.mbx := rfl
@[simp] theorem State.modMover_out (s : State) (f : Mover → Mover) : (s.modMover f).out = s.out := rfl
@[simp] theorem State.modMover_freeCtr (s : State) (f : Mover → Mover) : (s.modMover f).freeCtr = s.freeCtr := rfl
@[simp] theorem State.modMover_pending (s : State) (f : Mover → Mover) : (s.modMover f).pending = s.pending := rfl
@[simp] theorem State.modMover_get (s : State) (f : Mover → Mover) (g : Field) : (s.modMover f).get g = s.get g := rfl

/-! ### modDlog -/

@[simp] theorem State.modDlog_fab (s : State) (f : Dlog → Dlog) : (s.modDlog f).fab = { s.fab with dlog := f s.fab.dlog } := rfl
@[simp] theorem State.modDlog_regs (s : State) (f : Dlog → Dlog) : (s.modDlog f).regs = s.regs := rfl
@[simp] theorem State.modDlog_ctrs (s : State) (f : Dlog → Dlog) : (s.modDlog f).ctrs = s.ctrs := rfl
@[simp] theorem State.modDlog_latches (s : State) (f : Dlog → Dlog) : (s.modDlog f).latches = s.latches := rfl
@[simp] theorem State.modDlog_held (s : State) (f : Dlog → Dlog) : (s.modDlog f).held = s.held := rfl
@[simp] theorem State.modDlog_hs (s : State) (f : Dlog → Dlog) : (s.modDlog f).hs = s.hs := rfl
@[simp] theorem State.modDlog_clk (s : State) (f : Dlog → Dlog) : (s.modDlog f).clk = s.clk := rfl
@[simp] theorem State.modDlog_boot (s : State) (f : Dlog → Dlog) : (s.modDlog f).boot = s.boot := rfl
@[simp] theorem State.modDlog_nv (s : State) (f : Dlog → Dlog) : (s.modDlog f).nv = s.nv := rfl
@[simp] theorem State.modDlog_flt (s : State) (f : Dlog → Dlog) : (s.modDlog f).flt = s.flt := rfl
@[simp] theorem State.modDlog_perf (s : State) (f : Dlog → Dlog) : (s.modDlog f).perf = s.perf := rfl
@[simp] theorem State.modDlog_keeper (s : State) (f : Dlog → Dlog) : (s.modDlog f).keeper = s.keeper := rfl
@[simp] theorem State.modDlog_sec (s : State) (f : Dlog → Dlog) : (s.modDlog f).sec = s.sec := rfl
@[simp] theorem State.modDlog_mbx (s : State) (f : Dlog → Dlog) : (s.modDlog f).mbx = s.mbx := rfl
@[simp] theorem State.modDlog_out (s : State) (f : Dlog → Dlog) : (s.modDlog f).out = s.out := rfl
@[simp] theorem State.modDlog_freeCtr (s : State) (f : Dlog → Dlog) : (s.modDlog f).freeCtr = s.freeCtr := rfl
@[simp] theorem State.modDlog_pending (s : State) (f : Dlog → Dlog) : (s.modDlog f).pending = s.pending := rfl
@[simp] theorem State.modDlog_get (s : State) (f : Dlog → Dlog) (g : Field) : (s.modDlog f).get g = s.get g := rfl

/-! ### modLanes -/

@[simp] theorem State.modLanes_fab (s : State) (f : Lanes → Lanes) : (s.modLanes f).fab = { s.fab with lanes := f s.fab.lanes } := rfl
@[simp] theorem State.modLanes_regs (s : State) (f : Lanes → Lanes) : (s.modLanes f).regs = s.regs := rfl
@[simp] theorem State.modLanes_ctrs (s : State) (f : Lanes → Lanes) : (s.modLanes f).ctrs = s.ctrs := rfl
@[simp] theorem State.modLanes_latches (s : State) (f : Lanes → Lanes) : (s.modLanes f).latches = s.latches := rfl
@[simp] theorem State.modLanes_held (s : State) (f : Lanes → Lanes) : (s.modLanes f).held = s.held := rfl
@[simp] theorem State.modLanes_hs (s : State) (f : Lanes → Lanes) : (s.modLanes f).hs = s.hs := rfl
@[simp] theorem State.modLanes_clk (s : State) (f : Lanes → Lanes) : (s.modLanes f).clk = s.clk := rfl
@[simp] theorem State.modLanes_boot (s : State) (f : Lanes → Lanes) : (s.modLanes f).boot = s.boot := rfl
@[simp] theorem State.modLanes_nv (s : State) (f : Lanes → Lanes) : (s.modLanes f).nv = s.nv := rfl
@[simp] theorem State.modLanes_flt (s : State) (f : Lanes → Lanes) : (s.modLanes f).flt = s.flt := rfl
@[simp] theorem State.modLanes_perf (s : State) (f : Lanes → Lanes) : (s.modLanes f).perf = s.perf := rfl
@[simp] theorem State.modLanes_keeper (s : State) (f : Lanes → Lanes) : (s.modLanes f).keeper = s.keeper := rfl
@[simp] theorem State.modLanes_sec (s : State) (f : Lanes → Lanes) : (s.modLanes f).sec = s.sec := rfl
@[simp] theorem State.modLanes_mbx (s : State) (f : Lanes → Lanes) : (s.modLanes f).mbx = s.mbx := rfl
@[simp] theorem State.modLanes_out (s : State) (f : Lanes → Lanes) : (s.modLanes f).out = s.out := rfl
@[simp] theorem State.modLanes_freeCtr (s : State) (f : Lanes → Lanes) : (s.modLanes f).freeCtr = s.freeCtr := rfl
@[simp] theorem State.modLanes_pending (s : State) (f : Lanes → Lanes) : (s.modLanes f).pending = s.pending := rfl
@[simp] theorem State.modLanes_get (s : State) (f : Lanes → Lanes) (g : Field) : (s.modLanes f).get g = s.get g := rfl

/-! ### modBox -/

@[simp] theorem State.modBox_regs (s : State) (k : Nat) (f : Box → Box) : (s.modBox k f).regs = s.regs := rfl
@[simp] theorem State.modBox_ctrs (s : State) (k : Nat) (f : Box → Box) : (s.modBox k f).ctrs = s.ctrs := rfl
@[simp] theorem State.modBox_latches (s : State) (k : Nat) (f : Box → Box) : (s.modBox k f).latches = s.latches := rfl
@[simp] theorem State.modBox_held (s : State) (k : Nat) (f : Box → Box) : (s.modBox k f).held = s.held := rfl
@[simp] theorem State.modBox_hs (s : State) (k : Nat) (f : Box → Box) : (s.modBox k f).hs = s.hs := rfl
@[simp] theorem State.modBox_clk (s : State) (k : Nat) (f : Box → Box) : (s.modBox k f).clk = s.clk := rfl
@[simp] theorem State.modBox_boot (s : State) (k : Nat) (f : Box → Box) : (s.modBox k f).boot = s.boot := rfl
@[simp] theorem State.modBox_nv (s : State) (k : Nat) (f : Box → Box) : (s.modBox k f).nv = s.nv := rfl
@[simp] theorem State.modBox_flt (s : State) (k : Nat) (f : Box → Box) : (s.modBox k f).flt = s.flt := rfl
@[simp] theorem State.modBox_perf (s : State) (k : Nat) (f : Box → Box) : (s.modBox k f).perf = s.perf := rfl
@[simp] theorem State.modBox_keeper (s : State) (k : Nat) (f : Box → Box) : (s.modBox k f).keeper = s.keeper := rfl
@[simp] theorem State.modBox_sec (s : State) (k : Nat) (f : Box → Box) : (s.modBox k f).sec = s.sec := rfl
@[simp] theorem State.modBox_out (s : State) (k : Nat) (f : Box → Box) : (s.modBox k f).out = s.out := rfl
@[simp] theorem State.modBox_freeCtr (s : State) (k : Nat) (f : Box → Box) : (s.modBox k f).freeCtr = s.freeCtr := rfl
@[simp] theorem State.modBox_pending (s : State) (k : Nat) (f : Box → Box) : (s.modBox k f).pending = s.pending := rfl
@[simp] theorem State.modBox_fab (s : State) (k : Nat) (f : Box → Box) : (s.modBox k f).fab = s.fab := rfl
@[simp] theorem State.modBox_get (s : State) (k : Nat) (f : Box → Box) (g : Field) : (s.modBox k f).get g = s.get g := rfl

end Sys2Proof.Machine
end

