-- ==== Sys2Proof/Laws/Guards.lean ====
section
/-! SUPPORT. Sys2Proof/Laws/Guards.lean: where a command reaches its own effect, what it answers, and where it leaves all but the settled lines alone. -/
namespace Sys2Proof.Machine
open Sys2Proof

/-! ### What the guards read does not change when a command begins -/

@[simp] theorem State.live_begin (s : State) (pg : Nat) : s.begin.live pg = s.live pg := by simp [State.live]
@[simp] theorem State.mgmtRuns_begin (s : State) : s.begin.mgmtRuns = s.mgmtRuns := by simp [State.mgmtRuns]
@[simp] theorem State.fabricRuns_begin (s : State) : s.begin.fabricRuns = s.fabricRuns := by simp [State.fabricRuns]
@[simp] theorem State.role_begin (s : State) : s.begin.role = s.role := by simp [State.role]
@[simp] theorem State.isActive_begin (s : State) : s.begin.isActive = s.isActive := by simp [State.isActive]
@[simp] theorem State.userReached_begin (s : State) (v : Nat) : s.begin.userReached v = s.userReached v := by simp [State.userReached]
@[simp] theorem State.pathWrites_begin (s : State) (m : Master) (pg : Nat) : s.begin.pathWrites m pg = s.pathWrites m pg := by
  cases m <;> simp [State.pathWrites, State.isFmHost]
@[simp] theorem State.takes_begin (s : State) (m : Master) (pg : Nat) : s.begin.takes m pg = s.takes m pg := by simp [State.takes]
@[simp] theorem State.locked_begin (s : State) (pg : Nat) : s.begin.locked pg = s.locked pg := by simp [State.locked]
@[simp] theorem State.now_begin (s : State) : s.begin.now = s.now := by simp [State.now]
@[simp] theorem State.alertLevel_begin (s : State) : s.begin.alertLevel = s.alertLevel := by simp [State.alertLevel]

/-! ### Guards that hold -/

theorem State.guard_of_takes {s : State} {m : Master} {pg : Nat} (f : State → State) (h : s.takes m pg = true) : s.guard m pg f = (f s).mirror s := by
  simp only [State.takes, State.mgmtRuns, Bool.and_eq_true, Bool.or_eq_true, bne_iff_ne, beq_iff_eq, Bool.not_eq_true'] at h
  obtain ⟨⟨⟨⟨h1, h2⟩, h3⟩, h4⟩, h5⟩ := h
  have h6 : (m == .policy && s.get Fld.MBX_POLICY_STATE != 1) = false := by
    rcases h3 with h3 | h3 <;> simp [h3]
  unfold State.guard
  rw [h1, h2, h6, h4, h5]
  rfl

/-- A register write that reaches its page answers its effect, mirrored and settled. -/
theorem done_guard {s : State} {m : Master} {pg : Nat} (f : State → State) (h : s.takes m pg = true) :
    done (s.begin.guard m pg f) = .next ((f s.begin).mirror s.begin).settle := by
  rw [State.guard_of_takes f (by simpa using h)]
  rfl

theorem done_guardMirrored {s : State} {m : Master} {pg : Nat} (f : State → State) (h : s.takes m pg = true) (ha : s.isActive = true) :
    done (s.begin.guardMirrored m pg f) = .next ((f s.begin).mirror s.begin).settle := by
  rw [State.guardMirrored, done_guard _ h]
  simp [ha]

theorem done_whenMgmt {s : State} (f : State → State) (h : s.clk.mgmtUp = true) : done (s.begin.whenMgmt f) = .next (f s.begin).settle := by
  unfold State.whenMgmt
  rw [State.begin_clk, h]
  rfl

theorem done_whenFabric {s : State} (f : State → State) (h : s.fabricRuns = true) :
    done (s.begin.whenFabric f) = .next ((f s.begin).mirror s.begin).settle := by
  have h' : (s.live 0x31 && !s.clk.mgmtStopped) = true := h
  unfold State.whenFabric
  rw [State.live_begin, State.begin_clk, h']
  rfl

theorem done_whenActive {s : State} (f : State → State) (h : s.fabricRuns = true) (ha : s.isActive = true) :
    done (s.begin.whenActive f) = .next ((f s.begin).mirror s.begin).settle := by
  unfold State.whenActive
  rw [done_whenFabric _ h]
  simp [ha]

/-! ### Guards that fail -/

/-- With the management domain in reset or stopped, a write changes nothing (R437). -/
theorem State.guard_of_not_runs {s : State} (m : Master) (pg : Nat) (f : State → State) (h : s.mgmtRuns = false) : s.guard m pg f = s := by
  unfold State.guard
  rw [if_pos]
  cases h1 : s.clk.mgmtUp <;> cases h2 : s.clk.mgmtStopped <;> simp_all [State.mgmtRuns]

/-- A page whose domain is in reset takes no write (R437). -/
theorem State.guard_of_not_live {s : State} {m : Master} {pg : Nat} (f : State → State) (h : s.live pg = false) (hm : m ≠ .policy) : s.guard m pg f = s := by
  unfold State.guard
  rw [h]
  cases m <;> first | exact absurd rfl hm | (split <;> [rfl; skip]; simp)

theorem State.whenFabric_of_not_runs {s : State} (f : State → State) (h : s.fabricRuns = false) : s.whenFabric f = s := by
  unfold State.whenFabric
  rw [if_neg]
  simpa [State.fabricRuns] using h

theorem State.whenMgmt_of_not_up {s : State} (f : State → State) (h : s.clk.mgmtUp = false) : s.whenMgmt f = s := by
  unfold State.whenMgmt
  rw [h]
  rfl

end Sys2Proof.Machine
end

