-- ==== Sys2Proof/Laws/Frame.lean ====
section
/-! SUPPORT. Sys2Proof/Laws/Frame.lean: how a frame is built up, operation by operation, and what a settled command answers. -/
namespace Sys2Proof.Machine
open Sys2Proof

/-- A command whose meaning ends in a state answers that state, settled. -/
theorem answers_done {c : Instr} {s x : State} {P : State → Prop} (h : exec c s = done x) (hp : P x.settle) : Answers c s P := ⟨_, h, hp⟩

theorem answers_of_eq {c : Instr} {s t : State} {P : State → Prop} (h : exec c s = .next t) (hp : P t) : Answers c s P := ⟨_, h, hp⟩

/-! ### Fields that share no bit -/

theorem State.get_put_apart (s : State) {f g : Field} (v : Nat) (hg : g.lo + g.width ≤ 32) (h : g.apart f) : (s.put f v).get g = s.get g := by
  rcases h with h | h
  · exact State.get_put_addr s v h
  · exact State.get_put_bits s v h hg

/-- A field reads a literal that fits it. -/
theorem State.get_put_lit (s : State) {f : Field} {v : Nat} (h : f.lo + f.width ≤ 32) (hv : v < 2 ^ f.width) : (s.put f v).get f = v := by
  rw [State.get_put_same s f v h, Nat.mod_eq_of_lt hv]

/-- Raising an event touches no other bit. -/
theorem State.get_raise_apart (s : State) {e : Event} {g : Field} (hg : g.lo + g.width ≤ 32) (h : g.apart e.field) : (s.raise e).get g = s.get g := by
  by_cases ha : g.addr = evtPendAddr e.page
  · unfold State.raise
    split
    · have hb : g.lo + g.width ≤ e.bit ∨ e.bit + 1 ≤ g.lo := by
        rcases h with h | h
        · exact absurd ha h
        · exact h
      simp only [State.get, State.setEvents, ha, State.word_setWord_same, BitVec.toNat_ofNat]
      rw [bitsOf_mod_two_pow _ _ _ _ hg]
      apply Nat.eq_of_testBit_eq
      intro i
      rw [testBit_bitsOf, testBit_bitsOf, Nat.testBit_or, Nat.testBit_and, Nat.testBit_two_pow]
      by_cases hi : i < g.width
      · have : e.bit ≠ g.lo + i := by omega
        simp [this]
      · simp [hi]
    · rfl
  · exact State.get_raise s ha

theorem State.get_raiseIf_apart (s : State) {c : Bool} {e : Event} {g : Field} (hg : g.lo + g.width ≤ 32) (h : g.apart e.field) : (s.raiseIf c e).get g = s.get g := by
  cases c
  · rfl
  · exact State.get_raise_apart s hg h

/-- Settling touches no bit but the ALERT event's. -/
theorem State.get_settle_apart (s : State) {g : Field} (hg : g.lo + g.width ≤ 32) (h : g.apart Evt.FLT_ALERT.field) : s.settle.get g = s.get g := by
  have h1 : s.settle.get g = (s.raiseIf (s.alertLevel && !s.flt.alert) Evt.FLT_ALERT).get g := rfl
  rw [h1, State.get_raiseIf_apart s hg h]

/-! ### Frames -/

theorem Frame.refl {ps : List Part} {fs : List Field} (s : State) (h : s.out = []) : Frame ps fs s s :=
  ⟨fun p _ => by cases p <;> first | rfl | exact h, fun _ _ _ _ => rfl⟩

/-- A command begins with nothing put out. -/
theorem Frame.begin {ps : List Part} {fs : List Field} (s : State) : Frame ps fs s s.begin :=
  ⟨fun p _ => by cases p <;> simp [State.Same], fun g _ _ _ => by simp⟩

theorem Frame.settle {ps : List Part} {fs : List Field} {s t : State} (h : Frame ps fs s t) : Frame ps fs s t.settle := by
  refine ⟨fun p hp => ?_, fun g hg ha hf => ?_⟩
  · have := h.1 p hp
    cases p <;> simp_all [State.Same, State.settle_keeper]
  · rw [State.get_settle_apart t hg ha, h.2 g hg ha hf]

/-- An operation that changes the registers alone keeps the other parts' frame. -/
theorem Frame.regs {ps : List Part} {fs : List Field} {s t u : State} (h : Frame ps fs s t) (hr : ∃ r, u = { t with regs := r })
    (hu : ∀ g : Field, g.lo + g.width ≤ 32 → g.apart Evt.FLT_ALERT.field → (∀ f ∈ fs, g.apart f) → u.get g = t.get g) : Frame ps fs s u := by
  obtain ⟨r, rfl⟩ := hr
  refine ⟨fun p hp => ?_, fun g hg ha hf => (hu g hg ha hf).trans (h.2 g hg ha hf)⟩
  have := h.1 p hp
  cases p <;> exact this

theorem Frame.put {ps : List Part} {fs : List Field} {s t : State} (h : Frame ps fs s t) {f : Field} (v : Nat) (hf : f ∈ fs) : Frame ps fs s (t.put f v) :=
  h.regs (t.put_eq f v) fun _ hg _ hx => State.get_put_apart t v hg (hx f hf)

theorem Frame.putFlag {ps : List Part} {fs : List Field} {s t : State} (h : Frame ps fs s t) {f : Field} (v : Bool) (hf : f ∈ fs) : Frame ps fs s (t.putFlag f v) :=
  h.put _ hf

theorem Frame.addSat {ps : List Part} {fs : List Field} {s t : State} (h : Frame ps fs s t) {f : Field} (v : Nat) (hf : f ∈ fs) : Frame ps fs s (t.addSat f v) :=
  h.put _ hf

theorem Frame.puts {ps : List Part} {fs : List Field} {s : State} (l : List (Field × Nat)) :
    ∀ {t : State}, Frame ps fs s t → (∀ e ∈ l, e.1 ∈ fs) → Frame ps fs s (t.puts l) := by
  induction l with
  | nil => intro t h _; exact h
  | cons e l ih => intro t h hl; exact ih (h.put _ (hl e List.mem_cons_self)) fun x hx => hl x (List.mem_cons_of_mem _ hx)

theorem Frame.setWord {ps : List Part} {fs : List Field} {s t : State} (h : Frame ps fs s t) {a : Nat} (w : Word) (hf : Field.all a ∈ fs) :
    Frame ps fs s (t.setWord a w) := by
  refine h.regs (t.setWord_eq a w) fun g hg _ hx => ?_
  rcases hx _ hf with h1 | h1 | h1
  · simp only [State.get, State.word_setWord_other _ _ (show g.addr ≠ a from h1)]
  · have h0 : g.width = 0 := by simp only [Field.all] at h1; omega
    simp [State.get, bitsOf, h0, Nat.mod_one]
  · have h0 : g.width = 0 := by simp only [Field.all] at h1; omega
    simp [State.get, bitsOf, h0, Nat.mod_one]

theorem Frame.put64 {ps : List Part} {fs : List Field} {s t : State} (h : Frame ps fs s t) {a : Nat} (v : Nat) (hf : Field.all a ∈ fs) (hf' : Field.all (a + 4) ∈ fs) :
    Frame ps fs s (t.put64 a v) := (h.setWord _ hf).setWord _ hf'

theorem Frame.raise {ps : List Part} {fs : List Field} {s t : State} (h : Frame ps fs s t) {e : Event} (hf : e.field ∈ fs) : Frame ps fs s (t.raise e) :=
  h.regs (t.raise_eq e) fun _ hg _ hx => State.get_raise_apart t hg (hx _ hf)

theorem Frame.raiseIf {ps : List Part} {fs : List Field} {s t : State} (h : Frame ps fs s t) {e : Event} (c : Bool) (hf : e.field ∈ fs) : Frame ps fs s (t.raiseIf c e) := by
  cases c
  · exact h
  · exact h.raise hf

/-- An operation that changes one listed part alone keeps the frame. -/
theorem Frame.part {ps : List Part} {fs : List Field} {s t u : State} (h : Frame ps fs s t) (q : Part) (hq : q ∈ ps) (hr : u.regs = t.regs)
    (hu : ∀ p, p ≠ q → State.Same s t p → State.Same s u p) : Frame ps fs s u :=
  ⟨fun p hp => hu p (by rintro rfl; exact hp hq) (h.1 p hp), fun g hg ha hf => (State.get_congr hr g).trans (h.2 g hg ha hf)⟩

theorem Frame.count {ps : List Part} {fs : List Field} {s t : State} (h : Frame ps fs s t) (c n : Nat) (hq : Part.ctrs ∈ ps) : Frame ps fs s (t.count c n) :=
  h.part .ctrs hq (by simp) fun p hp hs => by cases p <;> simp_all [State.Same]

theorem Frame.emit {ps : List Part} {fs : List Field} {s t : State} (h : Frame ps fs s t) (x : Output) (hq : Part.out ∈ ps) : Frame ps fs s (t.emit x) :=
  h.part .out hq (by simp) fun p hp hs => by cases p <;> simp_all [State.Same]

theorem Frame.used {ps : List Part} {fs : List Field} {s t : State} (h : Frame ps fs s t) (n : Nat) (hq : Part.free ∈ ps) : Frame ps fs s (t.used n) :=
  h.part .free hq (by simp) fun p hp hs => by cases p <;> simp_all [State.Same]

theorem Frame.hs {ps : List Part} {fs : List Field} {s t : State} (h : Frame ps fs s t) (x : Hs) (hq : Part.hs ∈ ps) : Frame ps fs s { t with hs := x } :=
  h.part .hs hq rfl fun p hp hs => by cases p <;> first | exact absurd rfl hp | exact hs

theorem Frame.clk {ps : List Part} {fs : List Field} {s t : State} (h : Frame ps fs s t) (x : Clk) (hq : Part.clk ∈ ps) : Frame ps fs s { t with clk := x } :=
  h.part .clk hq rfl fun p hp hs => by cases p <;> first | exact absurd rfl hp | exact hs

theorem Frame.boot {ps : List Part} {fs : List Field} {s t : State} (h : Frame ps fs s t) (x : Boot) (hq : Part.boot ∈ ps) : Frame ps fs s { t with boot := x } :=
  h.part .boot hq rfl fun p hp hs => by cases p <;> first | exact absurd rfl hp | exact hs

theorem Frame.nv {ps : List Part} {fs : List Field} {s t : State} (h : Frame ps fs s t) (x : Nv) (hq : Part.nv ∈ ps) : Frame ps fs s { t with nv := x } :=
  h.part .nv hq rfl fun p hp hs => by cases p <;> first | exact absurd rfl hp | exact hs

theorem Frame.flt {ps : List Part} {fs : List Field} {s t : State} (h : Frame ps fs s t) (x : Flt) (hq : Part.flt ∈ ps) : Frame ps fs s { t with flt := x } :=
  h.part .flt hq rfl fun p hp hs => by cases p <;> first | exact absurd rfl hp | exact hs

theorem Frame.perf {ps : List Part} {fs : List Field} {s t : State} (h : Frame ps fs s t) (x : Perf) (hq : Part.perf ∈ ps) : Frame ps fs s { t with perf := x } :=
  h.part .perf hq rfl fun p hp hs => by cases p <;> first | exact absurd rfl hp | exact hs

theorem Frame.keeper {ps : List Part} {fs : List Field} {s t : State} (h : Frame ps fs s t) (x : Keeper) (hq : Part.keeper ∈ ps) : Frame ps fs s { t with keeper := x } :=
  h.part .keeper hq rfl fun p hp hs => by cases p <;> first | exact absurd rfl hp | exact hs

theorem Frame.sec {ps : List Part} {fs : List Field} {s t : State} (h : Frame ps fs s t) (x : Sec) (hq : Part.sec ∈ ps) : Frame ps fs s { t with sec := x } :=
  h.part .sec hq rfl fun p hp hs => by cases p <;> first | exact absurd rfl hp | exact hs

theorem Frame.mbx {ps : List Part} {fs : List Field} {s t : State} (h : Frame ps fs s t) (x : Mbx) (hq : Part.mbx ∈ ps) : Frame ps fs s { t with mbx := x } :=
  h.part .mbx hq rfl fun p hp hs => by cases p <;> first | exact absurd rfl hp | exact hs

/-- Its fabric part changes, but not the mirroring engine and not the tiles' copies. -/
theorem Frame.fab {ps : List Part} {fs : List Field} {s t : State} (h : Frame ps fs s t) (x : Fabric) (hp : x.pair = t.fab.pair) (hl : x.lag = t.fab.lag) (hq : Part.fab ∈ ps) :
    Frame ps fs s { t with fab := x } :=
  h.part .fab hq rfl fun p hpq hs => by
    cases p <;> first
    | exact absurd rfl hpq
    | exact hs
    | (simp only [State.Same] at *; rw [hp]; exact hs)
    | (simp only [State.Same] at *; rw [hl]; exact hs)

theorem Frame.modPair {ps : List Part} {fs : List Field} {s t : State} (h : Frame ps fs s t) (f : Pair → Pair) (hq : Part.pair ∈ ps) : Frame ps fs s (t.modPair f) :=
  h.part .pair hq (by simp) fun p hp hs => by cases p <;> first | exact absurd rfl hp | exact hs

theorem Frame.nvWrote {ps : List Part} {fs : List Field} {s t : State} (h : Frame ps fs s t) (n : Nat) (h1 : Part.nv ∈ ps) (h2 : Fld.NVS_WEAR_UNITS ∈ fs)
    (h3 : Evt.NVS_WEAR_HIGH.field ∈ fs) : Frame ps fs s (t.nvWrote n) := by
  unfold State.nvWrote
  dsimp only
  have := h.nv { t.nv with writes := mput 0 t.nv.writes n (mget 0 t.nv.writes n + 1) } h1
  split
  · exact (this.put _ h2).raiseIf _ h3
  · exact this

/-- A record update of listed parts keeps the frame. -/
theorem Frame.upd {ps : List Part} {fs : List Field} {s t u : State} (h : Frame ps fs s t) (hr : u.regs = t.regs) (ho : u.out = t.out)
    (hu : ∀ p, p ∉ ps → p ≠ .out → State.Same t u p) : Frame ps fs s u := by
  refine ⟨fun p hp => ?_, fun g hg ha hf => (State.get_congr hr g).trans (h.2 g hg ha hf)⟩
  have h1 := h.1 p hp
  by_cases hq : p = .out
  · subst hq
    exact ho.trans h1
  · have h2 := hu p hp hq
    cases p <;> first | exact absurd rfl hq | exact h2.trans h1

/-- A frame of fewer parts and fields is a frame of more. -/
theorem Frame.mono {ps qs : List Part} {fs gs : List Field} {s t : State} (h : Frame ps fs s t) (hp : ∀ p ∈ ps, p ∈ qs) (hf : ∀ f ∈ fs, f ∈ gs) : Frame qs gs s t :=
  ⟨fun p hq => h.1 p fun hc => hq (hp p hc), fun g hg ha hx => h.2 g hg ha fun f hc => hx f (hf f hc)⟩

/-! ### The frame of mirroring (R306) -/

theorem Frame.sendFrames {ps : List Part} {fs : List Field} {s t : State} (h : Frame ps fs s t) (n : Nat) (hp : ∀ p ∈ mirrorParts, p ∈ ps) :
    Frame ps fs s (t.sendFrames n) :=
  ((h.modPair _ (hp _ (by decide))).count _ _ (hp _ (by decide))).count _ _ (hp _ (by decide))

theorem Frame.pumpRecords {ps : List Part} {fs : List Field} (hp : ∀ p ∈ mirrorParts, p ∈ ps) (l : List Rec) :
    ∀ {s t : State}, Frame ps fs s t → Frame ps fs s (t.pumpRecords l) := by
  induction l with
  | nil => intro s t h; exact h
  | cons r rest ih =>
    intro s t h
    simp only [State.pumpRecords]
    split
    · exact ih h
    · split
      · exact ih (((h.sendFrames _ hp).emit _ (hp _ (by decide))).modPair _ (hp _ (by decide)))
      · split
        · exact (h.sendFrames _ hp).modPair _ (hp _ (by decide))
        · exact h

theorem Frame.pump {ps : List Part} {fs : List Field} {s t : State} (h : Frame ps fs s t) (hp : ∀ p ∈ mirrorParts, p ∈ ps) : Frame ps fs s t.pump := by
  unfold State.pump
  apply Frame.pumpRecords hp
  have h1 : Frame ps fs s (if t.fab.pair.ackDue && t.canSend 1 then
      ((t.sendFrames 1).modPair fun p => { p with ackDue := false }).emit (.ackRec true (t.get Fld.TDM_ACKSEQ_SEQ) t.fab.pair.mepoch) else t) := by
    split
    · exact ((h.sendFrames _ hp).modPair _ (hp _ (by decide))).emit _ (hp _ (by decide))
    · exact h
  revert h1
  generalize (if t.fab.pair.ackDue && t.canSend 1 then
      ((t.sendFrames 1).modPair fun p => { p with ackDue := false }).emit (.ackRec true (t.get Fld.TDM_ACKSEQ_SEQ) t.fab.pair.mepoch) else t) = u
  intro h1
  split
  · exact (((h1.sendFrames _ hp).modPair _ (hp _ (by decide))).emit _ (hp _ (by decide))).count _ _ (hp _ (by decide))
  · exact h1

theorem Frame.appendOne {ps : List Part} {fs : List Field} {s t : State} (h : Frame ps fs s t) (g : Nat) (b : RecBody) (hp : ∀ p ∈ mirrorParts, p ∈ ps)
    (hf : ∀ f ∈ mirrorFields, f ∈ fs) : Frame ps fs s (t.appendOne g b) := by
  unfold State.appendOne
  apply Frame.pump _ hp
  apply Frame.put _ _ (hf _ (by decide))
  apply Frame.count _ _ _ (hp _ (by decide))
  apply Frame.modPair _ _ (hp _ (by decide))
  split
  · exact (h.put _ (hf _ (by decide))).put _ (hf _ (by decide))
  · exact h.put _ (hf _ (by decide))

theorem Frame.closeEpoch {ps : List Part} {fs : List Field} {s t : State} (h : Frame ps fs s t) (hp : ∀ p ∈ mirrorParts, p ∈ ps)
    (hf : ∀ f ∈ mirrorFields, f ∈ fs) : Frame ps fs s t.closeEpoch := by
  unfold State.closeEpoch
  dsimp only
  split
  · exact ((h.modPair _ (hp _ (by decide))).appendOne _ _ hp hf).modPair _ (hp _ (by decide))
  · exact h.raise (hf _ (by decide))

theorem Frame.append {ps : List Part} {fs : List Field} {s t : State} (h : Frame ps fs s t) (g : Nat) (b : RecBody) (hp : ∀ p ∈ mirrorParts, p ∈ ps)
    (hf : ∀ f ∈ mirrorFields, f ∈ fs) : Frame ps fs s (t.append g b) := by
  unfold State.append
  dsimp only
  split
  · exact (h.appendOne g b hp hf).closeEpoch hp hf
  · exact h.appendOne g b hp hf

theorem Frame.issue {ps : List Part} {fs : List Field} {s t : State} (h : Frame ps fs s t) (g : Nat) (b : RecBody) (hp : ∀ p ∈ mirrorParts, p ∈ ps)
    (hf : ∀ f ∈ mirrorFields, f ∈ fs) : Frame ps fs s (t.issue g b) := by
  unfold State.issue
  split
  · exact h
  · split
    · exact h.append g b hp hf
    · exact (h.put _ (hf _ (by decide))).raise (hf _ (by decide))

theorem Frame.issueEntry {ps : List Part} {fs : List Field} {s t : State} (h : Frame ps fs s t) (regs : List Nat) (e : Nat) (hp : ∀ p ∈ mirrorParts, p ∈ ps)
    (hf : ∀ f ∈ mirrorFields, f ∈ fs) : Frame ps fs s (t.issueEntry regs e) := by
  unfold State.issueEntry
  split
  · exact h
  · exact h.issue _ _ hp hf

theorem Frame.lagTiles {ps : List Part} {fs : List Field} {s t : State} (h : Frame ps fs s t) (old : State) (hp : ∀ p ∈ mirrorParts, p ∈ ps) :
    Frame ps fs s (t.lagTiles old) := by
  unfold State.lagTiles
  dsimp only
  split
  · exact h
  · exact h.part .tiles (hp _ (by decide)) rfl fun p hpq hs => by cases p <;> first | exact absurd rfl hpq | exact hs

theorem Frame.foldl {α : Type} {ps : List Part} {fs : List Field} (f : State → α → State) (hf : ∀ {s t : State} (x : α), Frame ps fs s t → Frame ps fs s (f t x))
    (l : List α) : ∀ {s t : State}, Frame ps fs s t → Frame ps fs s (l.foldl f t) := by
  induction l with
  | nil => intro s t h; exact h
  | cons x t ih => intro s u h; exact ih (hf x h)

theorem Frame.mirror {ps : List Part} {fs : List Field} {s t : State} (h : Frame ps fs s t) (old : State) (hp : ∀ p ∈ mirrorParts, p ∈ ps)
    (hf : ∀ f ∈ mirrorFields, f ∈ fs) : Frame ps fs s (t.mirror old) := by
  unfold State.mirror
  have h := h.lagTiles old hp
  dsimp only
  split
  · exact h
  · exact Frame.foldl _ (fun x h => h.issue _ _ hp hf) _ (Frame.foldl _ (fun x h => h.issueEntry _ _ hp hf) _ h)

/-- A command that mirrors a change of registers outside the mirrored regions mirrors nothing (R306). -/
theorem State.mirror_eq_self {s old : State} (hr : ∀ a, (regionOf a).isSome = true → s.word a = old.word a) (hd : s.fab.home.dir = old.fab.home.dir) :
    s.mirror old = s := by
  have h1 : changedRegs s old = [] := by
    unfold changedRegs
    rw [List.filter_eq_nil_iff]
    intro a _ hc
    simp only [Bool.and_eq_true, decide_eq_true_eq] at hc
    exact hc.2 (hr a hc.1)
  have h2 : changedDir s old = [] := by
    unfold changedDir
    rw [List.filter_eq_nil_iff]
    intro k _ hc
    simp only [hd, Bool.and_eq_true, decide_eq_true_eq] at hc
    exact hc.1 rfl
  have h3 : s.lagTiles old = s := by simp [State.lagTiles, h1]
  unfold State.mirror
  rw [h3]
  dsimp only
  split
  · rfl
  · rw [h1, h2]
    rfl

/-- The word of a register is its field of 32 bits. -/
theorem State.word_eq_of_get {s t : State} {a : Nat} (h : t.get (Field.all a) = s.get (Field.all a)) : t.word a = s.word a := by
  have h1 : ∀ u : State, u.get (Field.all a) = (u.word a).toNat := fun u => by
    simp only [State.get, Field.all, bitsOf, Nat.pow_zero, Nat.div_one]
    exact Nat.mod_eq_of_lt (u.word a).isLt
  rw [h1, h1] at h
  exact BitVec.eq_of_toNat_eq h

/-- A state whose frame names no register of a mirrored region and whose directory is as before mirrors nothing. -/
theorem Frame.mirror_self {ps : List Part} {fs : List Field} {s x : State} (h : Frame ps fs s x) (hf : ∀ f ∈ fs, regionOf f.addr = none)
    (hd : x.fab.home.dir = s.fab.home.dir) : x.mirror s.begin = x := by
  refine State.mirror_eq_self (fun a ha => ?_) (by simpa using hd)
  rw [State.word_begin]
  refine State.word_eq_of_get (h.2 (Field.all a) (Nat.le_refl 32) (.inl ?_) fun f hfs => .inl ?_)
  · intro hc
    have hc : a = 0x40040 := hc
    rw [hc] at ha
    exact absurd ha (by decide)
  · intro hc
    have hc : a = f.addr := hc
    rw [hc, hf f hfs] at ha
    exact absurd ha (by decide)

/-- A register write outside the mirrored regions answers its effect, settled. -/
theorem done_guard_frame {s : State} {m : Master} {pg : Nat} {f : State → State} {ps : List Part} {fs : List Field} (h : s.takes m pg = true)
    (hx : Frame ps fs s (f s.begin)) (hf : ∀ f ∈ fs, regionOf f.addr = none) (hd : (f s.begin).fab.home.dir = s.fab.home.dir) :
    done (s.begin.guard m pg f) = .next (f s.begin).settle := by
  rw [done_guard f h, hx.mirror_self hf hd]

/-- A fabric command outside the mirrored regions answers its effect, settled. -/
theorem done_whenFabric_frame {s : State} {f : State → State} {ps : List Part} {fs : List Field} (h : s.fabricRuns = true)
    (hx : Frame ps fs s (f s.begin)) (hf : ∀ f ∈ fs, regionOf f.addr = none) (hd : (f s.begin).fab.home.dir = s.fab.home.dir) :
    done (s.begin.whenFabric f) = .next (f s.begin).settle := by
  rw [done_whenFabric f h, hx.mirror_self hf hd]

theorem done_whenActive_frame {s : State} {f : State → State} {ps : List Part} {fs : List Field} (h : s.fabricRuns = true) (ha : s.isActive = true)
    (hx : Frame ps fs s (f s.begin)) (hf : ∀ f ∈ fs, regionOf f.addr = none) (hd : (f s.begin).fab.home.dir = s.fab.home.dir) :
    done (s.begin.whenActive f) = .next (f s.begin).settle := by
  rw [done_whenActive f h ha, hx.mirror_self hf hd]

end Sys2Proof.Machine
end

