-- ==== Sys2Proof/Laws/Stops.lean ====
section
/-! SUPPORT. Sys2Proof/Laws/Stops.lean: what the resets and the stops leave alone, and what they always do. -/
namespace Sys2Proof.Machine
open Sys2Proof

@[simp] theorem State.sendBlock_regs (s : State) (b : Bool) : (s.sendBlock b).regs = s.regs := rfl
@[simp] theorem State.sendBlock_ctrs (s : State) (b : Bool) : (s.sendBlock b).ctrs = s.ctrs := rfl
@[simp] theorem State.sendBlock_latches (s : State) (b : Bool) : (s.sendBlock b).latches = s.latches := rfl
@[simp] theorem State.sendBlock_held (s : State) (b : Bool) : (s.sendBlock b).held = s.held := rfl
@[simp] theorem State.sendBlock_hs (s : State) (b : Bool) : (s.sendBlock b).hs = s.hs := rfl
@[simp] theorem State.sendBlock_clk (s : State) (b : Bool) : (s.sendBlock b).clk = s.clk := rfl
@[simp] theorem State.sendBlock_boot (s : State) (b : Bool) : (s.sendBlock b).boot = s.boot := rfl
@[simp] theorem State.sendBlock_nv (s : State) (b : Bool) : (s.sendBlock b).nv = s.nv := rfl
@[simp] theorem State.sendBlock_flt (s : State) (b : Bool) : (s.sendBlock b).flt = s.flt := rfl
@[simp] theorem State.sendBlock_perf (s : State) (b : Bool) : (s.sendBlock b).perf = s.perf := rfl
@[simp] theorem State.sendBlock_keeper (s : State) (b : Bool) : (s.sendBlock b).keeper = s.keeper := rfl
@[simp] theorem State.sendBlock_sec (s : State) (b : Bool) : (s.sendBlock b).sec = s.sec := rfl
@[simp] theorem State.sendBlock_mbx (s : State) (b : Bool) : (s.sendBlock b).mbx = s.mbx := rfl
@[simp] theorem State.sendBlock_freeCtr (s : State) (b : Bool) : (s.sendBlock b).freeCtr = s.freeCtr := rfl
@[simp] theorem State.sendBlock_pending (s : State) (b : Bool) : (s.sendBlock b).pending = s.pending := rfl
@[simp] theorem State.sendFailstop_regs (s : State) : (s.sendFailstop).regs = s.regs := by unfold State.sendFailstop; split <;> simp
@[simp] theorem State.sendFailstop_ctrs (s : State) : (s.sendFailstop).ctrs = s.ctrs := by unfold State.sendFailstop; split <;> simp
@[simp] theorem State.sendFailstop_latches (s : State) : (s.sendFailstop).latches = s.latches := by unfold State.sendFailstop; split <;> simp
@[simp] theorem State.sendFailstop_held (s : State) : (s.sendFailstop).held = s.held := by unfold State.sendFailstop; split <;> simp
@[simp] theorem State.sendFailstop_hs (s : State) : (s.sendFailstop).hs = s.hs := by unfold State.sendFailstop; split <;> simp
@[simp] theorem State.sendFailstop_clk (s : State) : (s.sendFailstop).clk = s.clk := by unfold State.sendFailstop; split <;> simp
@[simp] theorem State.sendFailstop_boot (s : State) : (s.sendFailstop).boot = s.boot := by unfold State.sendFailstop; split <;> simp
@[simp] theorem State.sendFailstop_nv (s : State) : (s.sendFailstop).nv = s.nv := by unfold State.sendFailstop; split <;> simp
@[simp] theorem State.sendFailstop_flt (s : State) : (s.sendFailstop).flt = s.flt := by unfold State.sendFailstop; split <;> simp
@[simp] theorem State.sendFailstop_perf (s : State) : (s.sendFailstop).perf = s.perf := by unfold State.sendFailstop; split <;> simp
@[simp] theorem State.sendFailstop_keeper (s : State) : (s.sendFailstop).keeper = s.keeper := by unfold State.sendFailstop; split <;> simp
@[simp] theorem State.sendFailstop_sec (s : State) : (s.sendFailstop).sec = s.sec := by unfold State.sendFailstop; split <;> simp
@[simp] theorem State.sendFailstop_mbx (s : State) : (s.sendFailstop).mbx = s.mbx := by unfold State.sendFailstop; split <;> simp
@[simp] theorem State.sendFailstop_freeCtr (s : State) : (s.sendFailstop).freeCtr = s.freeCtr := by unfold State.sendFailstop; split <;> simp
@[simp] theorem State.sendFailstop_pending (s : State) : (s.sendFailstop).pending = s.pending := by unfold State.sendFailstop; split <;> simp
@[simp] theorem State.stopFollow_ctrs (s : State) : (s.stopFollow).ctrs = s.ctrs := by unfold State.stopFollow; split <;> simp
@[simp] theorem State.stopFollow_latches (s : State) : (s.stopFollow).latches = s.latches := by unfold State.stopFollow; split <;> simp
@[simp] theorem State.stopFollow_held (s : State) : (s.stopFollow).held = s.held := by unfold State.stopFollow; split <;> simp
@[simp] theorem State.stopFollow_hs (s : State) : (s.stopFollow).hs = s.hs := by unfold State.stopFollow; split <;> simp
@[simp] theorem State.stopFollow_clk (s : State) : (s.stopFollow).clk = s.clk := by unfold State.stopFollow; split <;> simp
@[simp] theorem State.stopFollow_boot (s : State) : (s.stopFollow).boot = s.boot := by unfold State.stopFollow; split <;> simp
@[simp] theorem State.stopFollow_nv (s : State) : (s.stopFollow).nv = s.nv := by unfold State.stopFollow; split <;> simp
@[simp] theorem State.stopFollow_flt (s : State) : (s.stopFollow).flt = s.flt := by unfold State.stopFollow; split <;> simp
@[simp] theorem State.stopFollow_perf (s : State) : (s.stopFollow).perf = s.perf := by unfold State.stopFollow; split <;> simp
@[simp] theorem State.stopFollow_keeper (s : State) : (s.stopFollow).keeper = s.keeper := by unfold State.stopFollow; split <;> simp
@[simp] theorem State.stopFollow_sec (s : State) : (s.stopFollow).sec = s.sec := by unfold State.stopFollow; split <;> simp
@[simp] theorem State.stopFollow_mbx (s : State) : (s.stopFollow).mbx = s.mbx := by unfold State.stopFollow; split <;> simp
@[simp] theorem State.stopFollow_fab (s : State) : (s.stopFollow).fab = s.fab := by unfold State.stopFollow; split <;> simp
@[simp] theorem State.stopFollow_out (s : State) : (s.stopFollow).out = s.out := by unfold State.stopFollow; split <;> simp
@[simp] theorem State.stopFollow_freeCtr (s : State) : (s.stopFollow).freeCtr = s.freeCtr := by unfold State.stopFollow; split <;> simp
@[simp] theorem State.stopFollow_pending (s : State) : (s.stopFollow).pending = s.pending := by unfold State.stopFollow; split <;> simp
@[simp] theorem State.endBinding_ctrs (s : State) : (s.endBinding).ctrs = s.ctrs := by unfold State.endBinding; split <;> simp
@[simp] theorem State.endBinding_latches (s : State) : (s.endBinding).latches = s.latches := by unfold State.endBinding; split <;> simp
@[simp] theorem State.endBinding_held (s : State) : (s.endBinding).held = s.held := by unfold State.endBinding; split <;> simp
@[simp] theorem State.endBinding_hs (s : State) : (s.endBinding).hs = s.hs := by unfold State.endBinding; split <;> simp
@[simp] theorem State.endBinding_clk (s : State) : (s.endBinding).clk = s.clk := by unfold State.endBinding; split <;> simp
@[simp] theorem State.endBinding_boot (s : State) : (s.endBinding).boot = s.boot := by unfold State.endBinding; split <;> simp
@[simp] theorem State.endBinding_nv (s : State) : (s.endBinding).nv = s.nv := by unfold State.endBinding; split <;> simp
@[simp] theorem State.endBinding_flt (s : State) : (s.endBinding).flt = s.flt := by unfold State.endBinding; split <;> simp
@[simp] theorem State.endBinding_perf (s : State) : (s.endBinding).perf = s.perf := by unfold State.endBinding; split <;> simp
@[simp] theorem State.endBinding_keeper (s : State) : (s.endBinding).keeper = s.keeper := by unfold State.endBinding; split <;> simp
@[simp] theorem State.endBinding_sec (s : State) : (s.endBinding).sec = s.sec := by unfold State.endBinding; split <;> simp
@[simp] theorem State.endBinding_fab (s : State) : (s.endBinding).fab = s.fab := by unfold State.endBinding; split <;> simp
@[simp] theorem State.endBinding_out (s : State) : (s.endBinding).out = s.out := by unfold State.endBinding; split <;> simp
@[simp] theorem State.endBinding_freeCtr (s : State) : (s.endBinding).freeCtr = s.freeCtr := by unfold State.endBinding; split <;> simp
@[simp] theorem State.endBinding_pending (s : State) : (s.endBinding).pending = s.pending := by unfold State.endBinding; split <;> simp
@[simp] theorem State.fabricReset_ctrs (s : State) : (s.fabricReset).ctrs = s.ctrs := by simp [State.fabricReset]
@[simp] theorem State.fabricReset_hs (s : State) : (s.fabricReset).hs = s.hs := by simp [State.fabricReset]
@[simp] theorem State.fabricReset_nv (s : State) : (s.fabricReset).nv = s.nv := by simp [State.fabricReset]
@[simp] theorem State.fabricReset_flt (s : State) : (s.fabricReset).flt = s.flt := by simp [State.fabricReset]
@[simp] theorem State.fabricReset_perf (s : State) : (s.fabricReset).perf = s.perf := by simp [State.fabricReset]
@[simp] theorem State.fabricReset_out (s : State) : (s.fabricReset).out = s.out := by simp [State.fabricReset]
@[simp] theorem State.fabricReset_freeCtr (s : State) : (s.fabricReset).freeCtr = s.freeCtr := by simp [State.fabricReset]
@[simp] theorem State.fabricReset_pending (s : State) : (s.fabricReset).pending = s.pending := by simp [State.fabricReset]

@[simp] theorem State.fabricReset_fab (s : State) : s.fabricReset.fab = Fabric.reset := by simp [State.fabricReset]
@[simp] theorem State.fabricReset_clk (s : State) : s.fabricReset.clk = { s.clk with fabricHeld := true, pllLock := s.clk.pllLock &&& 0x1E0 } := by
  simp [State.fabricReset]

/-- A stop has happened: by now or before (R361). -/
@[simp] theorem State.stopNow_stopHeld (s : State) (c : Nat) (o : StopOrigin) (m : Option FaultMsg) : (s.stopNow c o m).clk.stopHeld = true := by
  unfold State.stopNow
  split
  · assumption
  · split <;> simp

/-- The first stop takes FABRIC into reset (R361, R71). -/
theorem State.stopNow_fabric {s : State} (c : Nat) (o : StopOrigin) (m : Option FaultMsg) (h : s.clk.stopHeld = false) :
    (s.stopNow c o m).clk.fabricHeld = true ∧ (s.stopNow c o m).fab = Fabric.reset := by
  unfold State.stopNow
  simp only [h, Bool.false_eq_true, if_false]
  split
  · simp
  · dsimp only
    split <;> simp

/-- A stop leaves the power entry alone but for the flag of a missing record. -/
theorem State.stopNow_hs (s : State) (c : Nat) (o : StopOrigin) (m : Option FaultMsg) :
    (s.stopNow c o m).hs = s.hs ∨ (s.stopNow c o m).hs = { s.hs with recMissing := true } := by
  unfold State.stopNow
  split
  · exact .inl rfl
  · split
    · exact .inl (by simp)
    · dsimp only
      split <;> exact .inr (by simp)

theorem State.stopNow_cooldown (s : State) (c : Nat) (o : StopOrigin) (m : Option FaultMsg) : (s.stopNow c o m).hs.cooldown = s.hs.cooldown := by
  rcases s.stopNow_hs c o m with h | h <;> simp [h]

theorem State.stopNow_auxUp (s : State) (c : Nat) (o : StopOrigin) (m : Option FaultMsg) : (s.stopNow c o m).hs.auxUp = s.hs.auxUp := by
  rcases s.stopNow_hs c o m with h | h <;> simp [h]

@[simp] theorem State.stopNow_nv (s : State) (c : Nat) (o : StopOrigin) (m : Option FaultMsg) : (s.stopNow c o m).nv = s.nv := by
  unfold State.stopNow
  split
  · rfl
  · split
    · simp
    · dsimp only
      split <;> simp
@[simp] theorem State.stopNow_perf (s : State) (c : Nat) (o : StopOrigin) (m : Option FaultMsg) : (s.stopNow c o m).perf = s.perf := by
  unfold State.stopNow
  split
  · rfl
  · split
    · simp
    · dsimp only
      split <;> simp
@[simp] theorem State.stopNow_freeCtr (s : State) (c : Nat) (o : StopOrigin) (m : Option FaultMsg) : (s.stopNow c o m).freeCtr = s.freeCtr := by
  unfold State.stopNow
  split
  · rfl
  · split
    · simp
    · dsimp only
      split <;> simp
@[simp] theorem State.stopNow_pending (s : State) (c : Nat) (o : StopOrigin) (m : Option FaultMsg) : (s.stopNow c o m).pending = s.pending := by
  unfold State.stopNow
  split
  · rfl
  · split
    · simp
    · dsimp only
      split <;> simp
@[simp] theorem State.stopNow_ctrs (s : State) (c : Nat) (o : StopOrigin) (m : Option FaultMsg) : (s.stopNow c o m).ctrs = s.ctrs := by
  unfold State.stopNow
  split
  · rfl
  · split
    · simp
    · dsimp only
      split <;> simp

@[simp] theorem State.fatal_stopHeld (s : State) (m : FaultMsg) (o : StopOrigin) : (s.fatal m o).clk.stopHeld = true := by simp [State.fatal]

/-- A fatal condition before any stop takes FABRIC into reset (R361). -/
theorem State.fatal_fabric {s : State} (m : FaultMsg) (o : StopOrigin) (h : s.clk.stopHeld = false) :
    (s.fatal m o).clk.fabricHeld = true ∧ (s.fatal m o).fab = Fabric.reset := State.stopNow_fabric _ _ _ (by simpa using h)

end Sys2Proof.Machine
end

