-- ==== Sys2Proof/WellFormed.lean ====
section
/-! DEFINITION. Sys2Proof/WellFormed.lean: which commands the module can be sent at all: operands that their rule bounds lie in their bounds. The meanings are total; a command
that is not well formed is one no sender can send. -/
namespace Sys2Proof
open Sys2Proof.Machine

/-- A value lies in a range. -/
def inRange (lo hi v : Nat) : Bool := decide (lo ≤ v) && decide (v ≤ hi)

/-- The sizes of an access in bytes (R4). -/
def accessSize (n : Nat) : Bool := n == 1 || n == 2 || n == 4 || n == 8

/-- A sector of a hive's span of at most 64 TiB (R215). -/
def sectorOk (x : Nat) : Bool := decide (x < 2 ^ 38)

/-- A list has no repeats. -/
def distinct {α : Type} [DecidableEq α] (l : List α) : Bool := decide l.Nodup

/-- A sample of the hot-swap controller: voltages to 65,535 mV, currents to 131,070 mA, temperatures of one byte (R54, R55). -/
def Machine.HsSample.wf (x : HsSample) : Bool :=
  decide (x.vA < 65536) && decide (x.vB < 65536) && decide (x.iA ≤ 131070) && decide (x.iB ≤ 131070) && decide (x.fetA < 256) && decide (x.fetB < 256)
    && decide (x.jmax < 256)

/-- The fields of a fault message have their widths (R346). -/
def Machine.FaultMsg.wf (m : FaultMsg) : Bool :=
  decide (m.kind < 4096) && decide (m.cls < 4) && decide (m.source < 4096) && decide (m.unit < 256) && decide (m.atype < 16) && decide (m.party < 65536)
    && (match m.addr with | some a => decide (a < 2 ^ 52) | none => true) && decide (m.ts < 2 ^ 26)

/-- A link in L0: at most 16 lanes, a rate of main lanes, a mode of PORT_STATUS.FLIT (R86, R136). -/
def Machine.L0Entry.wf (e : L0Entry) : Bool :=
  inRange 1 16 e.lanes && inRange 1 6 e.rate && decide (e.flit < 4) && decide (e.requests.length ≤ 16) && (match e.lds with | some n => decide (n ≤ 16) | none => true)

/-- A DSX message told by its row carries the row's OP, or one no row has (R127, R131). -/
def Machine.Vdm.dsxFor (v : Vdm) (op : DsxOp) : Bool := v.op == op.code || v.op == 0 || decide (6 < v.op)

/-- A directory entry: 64 sharers, an owner slot, four line states, an 8-bit HGEN (R219). -/
def Machine.DirEntry.wf (e : DirEntry) : Bool :=
  decide (e.sharers < 2 ^ 64) && decide (e.owner < 64) && e.st.length == 4 && e.st.all (fun x => decide (x < 4)) && decide (e.hgen < 256)

/-- The fields of a Waggle block have their widths (R315). -/
def Machine.WBlock.wf (b : WBlock) : Bool :=
  decide (b.state < 16) && decide (b.modId < 8) && decide (b.msg < 256) && decide (b.hseq < 2 ^ 32) && decide (b.low < 2 ^ 32) && decide (b.rmask < 2 ^ 20)
    && decide (b.rsync < 2 ^ 20) && decide (b.tsTx < 2 ^ 64) && decide (b.echoTx < 2 ^ 32) && decide (b.echoRx < 2 ^ 32)

/-- A signed image has its header and the first bytes of its signature block (R399, R400). -/
def Machine.SignedImage.wf (i : SignedImage) : Bool := i.header.length == 256 && i.block.length == 8

/-- TYPE of an IDLE frame, or one that no frame has (R310, R311). -/
def Machine.TdmHeader.idle (h : TdmHeader) : Bool := h.kind != 1 && h.kind != 2

/-- The fields of a TRAIN payload have their widths (R312). -/
def Machine.TrainPayload.wf (t : TrainPayload) : Bool := decide (t.mpvMin < 256) && decide (t.mpvMax < 256) && decide (t.modId < 8) && decide (t.credits < 65536) && t.serial.length == 16

/-- Kinds of message that answer a request (R172). -/
def Machine.MsgKind.isReply : MsgKind → Bool
  | .memData | .cmp | .cmpS | .cmpE | .biConflictAck | .biRspI | .biRspS | .biRspE | .biRspBlk | .d2hRsp | .d2hData | .h2dRsp | .h2dData | .cfgCpl | .cpl => true
  | .memRd | .memRdData | .memSpecRd | .memInv | .memInvNT | .memClnEvct | .biConflict | .memWr | .memWrPtl | .biSnpInv | .biSnpData | .biSnpCur | .d2hReq
  | .h2dReq | .cfgReq | .mctp | .fanout | .ioNp | .ioPosted | .bcast | .own | .ptmReq => false

/-- A message as it arrives on a link: a 16-bit tag, a 64-bit address, an LD-ID of 4 bits, data of at most Max Payload Size (R117), the device and function numbers of a
configuration request and the multicast group in their ranges. -/
def Machine.Msg.wf (m : Msg) : Bool :=
  decide (m.tag < 65536) && decide (m.addr < 2 ^ 64) && decide (m.ld < 16) && decide (m.data.length ≤ 512)
    && (match m.route with | .bridge d f => decide (d < 32) && decide (f < 8) | _ => true)
    && (match m.group with | some g => decide (g < 256) | none => true)

/-- Which commands are well formed. -/
def Instr.wf : Instr → Bool
  | .registerWrite _ _ bytes _ => accessSize bytes
  | .read64Low _ _ bytes => accessSize bytes
  | .read64High _ _ bytes => accessSize bytes
  | .write64Low _ _ bytes _ => accessSize bytes
  | .write64High _ _ bytes _ => accessSize bytes
  | .mctpRegRead msg => msg.words.isEmpty
  | .mctpRegWrite msg => !msg.lengthOk || msg.words.length == msg.count
  | .hsTick smp => smp.wf
  | .fixonWrite addr words => addr.toNat % 4 == 0 && inRange 1 4096 words.length
  | .fixonMasked addr _ _ => addr.toNat % 4 == 0
  | .fixonFill addr count _ => addr.toNat % 4 == 0 && inRange 1 65536 count
  | .fixonPoll addr _ _ timeout => addr.toNat % 4 == 0 && decide (timeout < 2 ^ 32)
  | .fixonDelay us => decide (us ≤ 1000000)
  | .ehrurnTrainDone repairs _ => repairs.all fun r => distinct r.wires
  | .ehrurnSlotRx _ _ beats => beats.length == 8 && beats.all fun b => b.data.length == 128
  | .laneSignalLoss lanes => distinct lanes
  | .laneCdrUnlock lanes => distinct lanes
  | .laneEqDiverge lanes => distinct lanes
  | .laneErrorLimit errors flits => distinct (errors.map (·.1)) && distinct (flits.map (·.1))
  | .linkL0Entry _ e => e.wf
  | .dsxHelloRx _ msg => msg.dsxFor .hello
  | .dsxHelloAckRx _ msg => msg.dsxFor .helloAck
  | .dsxSleepReqRx _ msg => msg.dsxFor .sleepReq
  | .dsxSleepAckRx _ msg => msg.dsxFor .sleepAck
  | .dsxSleepNakRx _ msg => msg.dsxFor .sleepNak
  | .dsxWakeReqRx _ msg => msg.dsxFor .wakeReq
  | .requestIngress _ m => m.wf && !m.kind.isReply
  | .answerReceive _ m => m.wf && m.kind.isReply
  | .hdmDecoderCommit _ _ base size _ _ _ _ targets => base.toNat % 2 ^ 28 == 0 && size.toNat % 2 ^ 28 == 0 && targets.all fun t => decide (t < 256)
  | .homeBusyRelease _ sector _ => sectorOk sector
  | .holdExpire _ sector _ => sectorOk sector
  | .conflictQueueStart _ sector => sectorOk sector
  | .dirBucketFetchDone _ sector => sectorOk sector
  | .sectorResolve _ sector => sectorOk sector
  | .combArbDecide ch reqs => distinct (reqs.map (·.client)) && reqs.all fun r => r.addr.toNat / 256 % 8 == ch.val
  | .combGrantEnd _ beats misses _ => decide (misses ≤ beats)
  | .moverDescFetched _ bytes _ => bytes.length == 64
  | .dlogLineFetchDone line => decide (line < 2 ^ 25)
  | .transferFw _ _ _ i => i.wf
  | .tandemIdleRx h => h.idle
  | .tandemTrainRx h t => h.kind == 1 && t.wf
  | .tandemMirrorRx h _ _ => h.kind == 2
  | .tandemAlignBlockRx _ b => b.length == 32
  | .recDir _ _ sector e => sectorOk sector && match e with | some e => e.wf | none => true
  | .recReg _ _ addr words => addr.toNat % 4 == 0 && !words.isEmpty
  | .recCommit _ _ _ rules => rules.all fun r => decide (r.1 < 65536) && r.2.length == 16
  | .recBulkDir _ _ _ _ entries => entries.all fun x => x.2.wf
  | .waggleBlockRx b _ _ => b.wf
  | .waggleFailstopRx b _ _ => b.wf
  | .waggleSwapReqRx b _ _ => b.wf
  | .waggleHandoverRx b _ _ => b.wf
  | .faultMessage msg => msg.wf
  | .failStop msg => msg.wf
  | .keeperSramError _ addr _ => decide (addr < 2 ^ 32)
  | .mbxDoorbell _ _ payload _ => decide (payload.length ≤ 2 ^ 20)
  | .userCounterRead _ off bytes => accessSize bytes && decide (off < 65536)
  | .auxRailUp | .auxRailDown | .seatLost _ | .seatDebounceExpire | .retryTimeExpire | .feedQualify _ | .feedDisqualify _ | .rampComplete
  | .rampTimeout | .faultTimerExpire | .severeOcTrip | .revertDelayExpire | .switchHoldoffExpire | .switchTargetClose | .switchComplete
  | .switchTimeout | .fetOffComplete | .mgmtRailOut | .pwrMeasUpdate | .energyPersist | .thermWarn | .thermTrip | .tcxoSettleExpire | .mgmtPllLock _
  | .stage3Timeout | .strapChange _ | .refclkEdgesSeen | .refclkSettleExpire | .refclkLoss | .autoRevertSet _ _ | .tcxoLoss | .pllUnlock _
  | .timeSetCommit _ _ | .perstAssert | .perstRelease | .clkResetWrite _ _ | .fabricResetEnd | .secureBootDone | .fabricPllsLock | .fixonPollTimeout
  | .fixonDelayExpire | .fixonEnd | .stageTimeout | .combTrainDone _ _ | .combClearDone | .lanesCalibrated | .laneCalDone _ _ | .adaptUpdate _ _ _
  | .laneWindowEnd _ _ | .signalReturn _ | .laneTestStop _ _ _ _ | .laneTestRecal _ _ _ | .laneTestPrbsLoop _ _ _ | .laneTestPrbsExt _ _ _
  | .laneTestBist _ _ _ | .laneBistDone _ _ | .laneTestInvalid _ _ _ | .eyeStart _ _ | .eyeStop _ _ | .eyePointDone _ _ | .marginCommand _ _
  | .bifurWrite _ _ _ | .bifurApplyDone _ | .portCfgWrite _ _ _ | .portHold _ _ _ | .portRelease _ _ _ | .portRetrain _ _ _
  | .rateCheckTimeout _ | .linkRecoveryEntry _ | .linkLoss _ | .dsxHelloTimeout _ | .dsxEiosqRx _ | .dsxRequestTimeout _ _ | .dsxTxIdleExpire _
  | .dsxRxIdleExpire _ | .dsxRetExpire _ | .dsxFlitWake _ | .dsxPreambleEnd _ | .dsxRxSignalDetect _ | .dsxRxFirstFlit _ | .dsxCmdTxSleep _ _ _
  | .dsxCmdRxSleep _ _ _ | .dsxCmdTxWake _ _ _ | .dsxCmdRxWake _ _ _ | .trackerQuarantineExpire _ | .bindVppb _ _ _ _ _ | .unbindOpt0 _ _ _
  | .unbindOpt1 _ _ _ | .unbindOpt2 _ _ _ | .vppbLinkDisable _ _ | .vppbDpcClear _ | .flushComplete _ | .vcsEntryWrite _ _ _
  | .setLdAllocations _ _ _ _ _ | .ehrurnSlotArbitrate _ _ | .admitWaitTimeout _ _ | .ehrurnNakRx _ _ _
  | .ehrurnAckTimeout _ _ | .ehrurnFail _ _ | .schedulerDequeue _ _ _ _ | .shapeHoldTimeout _ _ _ | .privFanout | .bucketRefill _ _ | .shaperCommit _ _ _
  | .policerCommit _ _ _ | .homeMemRd _ | .homeMemInv _ | .homeMemWr _ | .homeMemClnEvct _ | .homeMemSpecRd _ | .homeBiConflict _ | .homeWriteback _ | .homeBirsp _
  | .homeTargetAnswer _ | .biTimeout _ _ | .hiveEnable _ _ | .hiveDisable _ _ | .hiveDownWrite _ _ | .hiveRecovered _ _ | .hiveClearDone _
  | .hgenClearDone _ | .hostSlotEnable _ _ _ _ | .hostSlotDisable _ _ _ _ | .hostLeave _ _ _ | .hostSweepDone _ _ | .recoverySweepDone _
  | .dircLookup _ _ _ | .dircLookupDone | .combBackoffExpire _ _ | .pcFail _ | .partBound _ | .scrubPassDone | .poolRequest | .poolWindowEnable _ _ _
  | .hatRuleWrite _ _ _ | .hatCommit _ _ | .hatTileSwap _ | .hatRefillDone | .oldEpochRetire | .hatCommitTimeout | .vfEnable _ _ _ | .vfFlr _
  | .chEnable _ _ _ | .chDisable _ _ | .chDisabled _ | .chReset _ _ | .chTailWrite _ _ _ | .moverCopy _ | .moverFill _
  | .moverNop _ | .moverPartAnswer _ | .moverCompletion _ _ | .dlogEnable _ _ _ | .dlogActive _ | .dlogHarvest _ _ | .dlogHarvestDone
  | .bulkResyncStart | .tandemTrainTimeout
  | .tandemDownExpire | .tandemLaneFail _ _ | .tandemAlignPeriodic | .tandemCreditCheck | .recPad | .recEpoch _ _ _ | .recBulkBegin _ _
  | .recBulkEnd _ _ | .recAck _ _ | .recResend _ | .epochTimerExpire | .ackTimeout | .resendRepeat | .waggleBlockTx | .waggleSilence | .waggleOnly
  | .cableOut | .tdmEnable _ _ | .tdmDisable _ _ | .arbWaitExpire | .tdmCmdSwap _ | .tdmCmdPromote _ | .tdmCmdRetrain _ | .tdmCmdResyncAll _
  | .swapDrainDone | .swapTimeout | .promotionComplete | .fltAckWrite _ _ | .fltBoardAckWrite _ _ | .fltFirstClear _ _ _
  | .errAckWrite _ _ _ | .fltInject _ _ | .failstopRecordWritten | .keeperLockstep _ | .keeperWatchdog _ | .wdtKick _ _ | .mtimeCompare _ _
  | .policyViolation | .intcLevelRise _ | .intcPendSet _ _ _ | .intcPendClr _ _ _ | .intcEnSet _ _ _ | .intcEnClr _ _ _ | .intcVectorFetch _ _
  | .intcComplete _ _ _ | .intcBadClear _ _ | .mbxCommandDone _ | .mbxBoxReset _ _ | .mbxCfgWrite _ _ | .identify _ | .backgroundOperationStatus _
  | .getResponseMessageLimit _ | .setResponseMessageLimit _ _ | .requestAbortBackgroundOp _ | .getEventRecords _ | .clearEventRecords _ _ _
  | .getEventInterruptPolicy _ | .setEventInterruptPolicy _ _ | .getFwInfo _ | .activateFw _ _ _ | .getTimestamp _
  | .setTimestamp _ _ | .getSupportedLogs _ | .getLog _ _ | .identifySwitchDevice _ | .getPhysicalPortState _ _ | .physicalPortControl _ _ _
  | .sendPpbConfigRequest _ _ _ _ | .getVirtualSwitchInfo _ _ | .generateAerEvent _ _ _ _ | .tunnelManagementCommand _ _ _ _
  | .sendLdConfigRequest _ _ _ _ _ | .sendLdMemoryRequest _ _ _ _ _ _ | .getModuleState _ | .getDirtyLogInfo _ | .harvestAndClearDirtyLog _
  | .getFaultLog _ | .getFailStopRecord _ | .acknowledgeFaultLog _ | .pairCommand _ | .hiveControl _ | .fixonXferStart _ | .fixonXferContinue _
  | .fixonXferEnd _ | .fixonXferAbort _ | .getFixonSlots _ | .selftestDone _ | .entropyHealthFail | .programOwner _ _ _ | .revokeOwner _ _ _
  | .requireFixonSig _ _ | .provDone | .spdmKeyExchange _ | .spdmGetMeasurements _ _ | .spdmRequest _ _ | .ideEstablish _ _ _ | .ideRekey _ _ _
  | .ideStop _ _ _ | .ideAutoRekey _ _ | .ideKeyProg _ _ _ _ _ | .ideKSetGo _ _ _ | .ideKSetStop _ _ | .ideCheckFail _ _ | .dbgNonceReq _
  | .dbgNonceExpire | .dbgUnlock _ | .dbgVerifyDone _ | .perfSnapTake _ _ _ | .perfSnapDone _ | .perfOvfTrigger _ | .latencySample _
  | .perfExportTimer | .perfRingMark _ _ | .perfRingRd _ _ | .perfRingWinReady | .xbarPrivClear _ _ | .bufLowWaterLoad _ _ | .homeCqHwmClear _ _
  | .carbWaitMaxClear _ _ _ | .perfHistMaxClear _ _ _ | .perfOvfMissedClear _ _ _ | .evtPendSet _ _ _ | .evtPendClr _ _ _ | .evtEnSet _ _ _
  | .evtEnClr _ _ _ | .pageLockWrite _ _ _ | .devLockAll _ _ | .nvsCommitParam _ _ | .nvsCommitDone | .nvUe _ | .cooldownFlagDecay | .cpresChange _ _
  | .linkL1Entry _ | .linkL0pChange _ _ | .fabricPllTimeout | .stackRefresh2xChange _ | .waggleBlockLost | .waggleLockChange _ _ | .swarmNoticeRx _ _ | .policyPartitionExit
  | .standbySwapToExpire | .prbsCheckerLock _ _ _ _ => true

end Sys2Proof
end

