-- ==== Sys2Proof/Tests/Slice0.lean ====
section
/-! SUPPORT. Sys2Proof/Tests/Slice0.lean: small states for tests, one witness for the hypotheses of each clause of each statement, the refusals of WellFormed, and single steps whose
expected results are taken from the spec. -/
open Sys2Proof Sys2Proof.Machine

section
-- The theorems are checked one after another: each thread of its own would reserve a stack of its own.
set_option Elab.async false

/-- The module in operation: MGMT and FABRIC out of reset, every PLL locked, nothing held. -/
def ready : State :=
  { State.reset with
    clk := { Clk.reset with mgmtUp := true, pllReleased := true, fabricHeld := false, pllLock := 0x1FF, timeBase := 4000000, mgmtUpAt := 1000000, t3 := 1000 } }

/-- A Fixon slot that holds these record words after a header that is right for them. -/
def slotOf (recs : List Nat) : FixonSlot :=
  let body := recs.flatMap wordBytes
  let head := [0x314E5846, 1 + 2 ^ 16 * 64, 64 + body.length, 0, 1, 0x0256, 0, 0, crc32c body, 0, 0, 0, 0, 0, 0]
  let h := head.flatMap wordBytes
  let all := h ++ wordBytes (crc32c h) ++ body
  ⟨((List.range all.length).zip all).filterMap fun e => if e.2 = 0 then none else some (e.1, BitVec.ofNat 8 e.2), false⟩

/-- A Fixon slot that writes 5 to TIME_SET_LO, changes it under a mask, fills it, polls it, waits 3 µs and ends. -/
def demoSlot : FixonSlot :=
  slotOf [0x00010001, 0x81008, 5, 0x00020002, 0x81008, 0xF, 3, 0x00020003, 0x81008, 1, 7, 0x00030004, 0x81008, 0xFF, 7, 100, 0x00010005, 0, 3, 0x7F, 0]

/-- The module in a stage of start-up. -/
def Sys2Proof.Machine.State.atStage (s : State) (n : Nat) : State := s.puts [(Fld.BOOT_STATUS_STAGE, n), (Fld.SEC_STATUS_SELFTEST, 1)]

/-- The module applying record i of the demonstration slot. -/
def Sys2Proof.Machine.State.applies (s : State) (i : Nat) : State :=
  { s.atStage 5 with nv := { s.nv with fixA := demoSlot }, boot := { s.boot with applying := some (false, i) } }

/-- A firmware image that verifies under Quinmen slot 0. -/
def goodImage : SignedImage :=
  { header := [0x49, 0x4D, 0x47, 0x31, 1, 0, 1, 0, 7, 0, 0, 0, 1, 0, 0, 0, 64, 0, 0, 0, 0, 0, 0, 1] ++ List.replicate 232 0,
    block := [0x53, 0x49, 0x47, 0x31, 0, 0, 0, 0], bodyOk := true, keyHashOk := true, eccOk := true, mldsaOk := true, digest := 7 }

/-- A contained fault of the shared buffer. -/
def demoFault : FaultMsg := { kind := 0x130, cls := 1, source := 0x031, unit := 3, atype := 8, party := 0, addr := none, ts := 0 }

/-- A read request of subscriber 5 from port 0 to port 1. -/
def demoRead : Msg := { kind := .memRd, svc := 2, sub := 5, src := 0, dst := 1, addr := 64, len := 16 }

/-- Change the switch core of a state. -/
def Sys2Proof.Machine.State.sw (s : State) (f : Switch → Switch) : State := { s with fab := { s.fab with sw := f s.fab.sw } }

/-- One read waits in the strand of port 1, whose link is up. -/
def Sys2Proof.Machine.State.oneQueued (s : State) : State :=
  let s := (s.puts [(Fld.LEAF_WEIGHT (8 * 5 + 2), 4), (Fld.SVC_NODE_WEIGHT 1 2, 4)]).sw fun w =>
    { w with strands := [(strandKey 1 2 5, { cells := [⟨0, false, 0⟩], next := 1, msgs := [⟨demoRead, none, 0, 1⟩] })],
             nodes := [(10, { SvcNode.empty with active := [⟨5, 0, false⟩] })], ports := [(1, [⟨2, 0, false⟩])], groups := [], priv := [], subBkt := [], portBkt := [], start := [], chosen := [] }
  { s with fab := { s.fab with up := [1] } }

/-- A beat with VALID that carries no granule, of a slot with a sequence number and an acknowledgement. -/
def demoBeat (seq ack type : Nat) : EhrBeat :=
  let b : EhrBeat := { data := List.replicate 128 0, control := BitVec.ofNat 64 (1 + 2 ^ 24 * seq + 2 ^ 36 * ack + 2 ^ 48 * type), crc := 0 }
  { b with crc := BitVec.ofNat 32 (crc32c b.covered) }

/-- Slots 3 and 4 of the upward direction of Ehrurn link 1 are sent and not acknowledged. -/
def Sys2Proof.Machine.State.twoSent (s : State) : State :=
  (s.puts [(Fld.EHR_STATUS_STATE 1, 2), (Fld.EHR_STATUS_REPLAYING 1, 0)]).sw fun w =>
    { w with ehr := [(2, { EhrDir.reset with seq := 5, unacked := [(3, 1), (4, 1)], expect := 9 }), (3, { EhrDir.reset with seq := 2, unacked := [(1, 1)], expect := 3 })] }

/-- Hive 0 is ACTIVE with no buckets and 16 sets, its hosts 0 and 1 ACTIVE, one window of 256 MiB on port 2, and nothing under way. -/
def Sys2Proof.Machine.State.hive0 (s : State) : State :=
  let s := s.puts [(Fld.TDM_ROLE_STATE, 0), (Fld.HIVE_STATUS_STATE 0, 2), (Fld.HIVE_STATUS_HGEN 0, 7), (Fld.HIVE_BKT_BKT_COUNT 0, 0), (Fld.HIVE_DIR_SET_COUNT 0, 1), (Fld.HOST_STATUS_STATE 0, 2),
    (Fld.HOST_STATUS_STATE 1, 2), (Fld.HOST_CFG_VCS 1, 1), (Fld.HOST_CFG_REMOTE 0, 0), (Fld.HOST_CFG_REMOTE 1, 0), (Fld.HOST_CFG_VCS 0, 0), (Fld.WIN_CFG_EN 0, 1), (Fld.WIN_CFG_SIZE 0, 0),
    (Fld.WIN_BASE_BASE 0, 0), (Fld.HOME_CFG_EN, 1), (Fld.VCS_ENTRY_CFG_USP 1, 4), (Fld.HIVE_STATUS_TAIL 0, 0), (Fld.WIN_CFG_POOL 0, 0), (Fld.WIN_CFG_WAYS 0, 0), (Fld.WIN_CFG_GRAN 0, 0)]
  { s.setWord (Addr.WIN_TGT01 0) 2 with fab := { s.fab with home := Home.reset, sw := Switch.reset } }

/-- A request of host 0 of hive 0 for line 1 of sector 3. -/
def homeReq (k : MsgKind) (v : MetaVal) : Msg :=
  { kind := k, svc := k.service, src := 0, dst := 64, tag := 9, mv := v, off := 256 * 3 + 64, hive := 0, hslot := some 0, vcs := some 0, data := if k.isMemWrite then List.replicate 64 1 else [] }

/-- Messages wait at the input of IEP0. -/
def Sys2Proof.Machine.State.atHome (s : State) (l : List Msg) : State := s.sw fun w => { w with iep := [(0, l)] }

/-- Change the home of a state. -/
def Sys2Proof.Machine.State.ho (s : State) (f : Home → Home) : State := { s with fab := { s.fab with home := f s.fab.home } }

/-- The directory holds one entry: line 1 of sector 3 of hive 0 in O for a slot. -/
def Sys2Proof.Machine.State.ownedBy (s : State) (q : Nat) : State :=
  s.ho fun h => { h with dir := [(dirKey 0 3, ⟨⟨0, q, [0, 2, 0, 0], 7⟩, true, 0⟩)], clock := 1 }

/-- A transaction of the home for a request of host 0. -/
def homeTxn (m : Msg) : Txn :=
  { id := 0, hive := 0, sector := 3, lines := [1], kind := .request m, parked := false, snooped := [], snoops := [], wbs := [], kept := [], forwarded := false, answered := false, queued := false, grants := false }

/-- Box k, with fabric-manager permission, has a command in service. -/
def Sys2Proof.Machine.State.asks (s : State) (k op : Nat) (payload : List Byte) : State :=
  (s.put (Fld.MBX_BOX_STATE_STATE k) 1).modBox k fun b => { b with opcode := op, payload := payload, fm := true, pendingResult := none, orphan := none }

/-- Port p is present in a group of four x4 ports, enabled with a role, not held, with its link in a state. -/
def Sys2Proof.Machine.State.portAs (s : State) (p role link : Nat) : State :=
  let s := s.puts [(Fld.PORTG_STATUS_PRESENT (p / 4), 15), (Fld.PORTG_STATUS_BIFUR_ACT (p / 4), 2), (Fld.PORTG_LOCK_LOCK (p / 4), 0), (Fld.PORT_CTL_HOLD p, 0), (Fld.PORT_STATUS_LINK p, link),
    (Fld.BOOT_STATUS_FABRIC_READY, 1), (Fld.PORTG_STATUS_APPLYING (p / 4), 0), (Fld.PORT_DSX_STATUS_TX p, 0), (Fld.PORT_DSX_STATUS_RX p, 0), (Fld.BOOT_STATUS_STAGE, 9)]
  let s := s.setWord (Addr.PORT_CFG p) (BitVec.ofNat 32 (1 + 2 * role + 16 * 6 + 256))
  { s with fab := { s.fab with up := if 5 ≤ link then [p] else [], lanes := { s.fab.lanes with port := [], cal := [], tests := [], errs := [], margins := [] },
                               sw := { s.fab.sw with strands := [], priv := [], trackers := [], waiting := [], fan := [], iep := [], flushes := [], snoops := [], unbind0 := [], binding := none, mlds := [] } } }

/-- VCS 2 is enabled on port 4 with entries 16 to 19, and entry 17 is in a state, bound to port 3 unless it is UNBOUND. -/
def Sys2Proof.Machine.State.vcs2 (s : State) (st : Nat) : State :=
  ((s.portAs 3 1 5).puts [(Fld.VCS_ENTRY_CFG_EN 2, 1), (Fld.VCS_ENTRY_CFG_USP 2, 4), (Fld.VCS_ENTRY_CFG_VPPB_BASE 2, 16), (Fld.VCS_ENTRY_SIZE_VPPB_COUNT 2, 4), (Fld.VPPB_STATE_STATE 16, 4),
    (Fld.VPPB_STATE_STATE 17, st), (Fld.VPPB_STATE_VCS 17, 2), (Fld.VPPB_TARGET_PORT 17, if st = 0 then 0 else 3), (Fld.VPPB_TARGET_LD_VALID 17, 0), (Fld.LD_STATE_BOUND 48, bit (st != 0)),
    (Fld.LD_STATE_VPPB 48, if st = 0 then 0 else 17), (Fld.VCS_STATUS_BUSY, 0), (Fld.TDM_ROLE_STATE, 0), (Fld.VPPB_STATE_DPC 17, 0), (Fld.VPPB_STATE_STATE 18, 0), (Fld.VPPB_STATE_STATE 19, 0)]).sw
      fun w => { w with vcfg := [] }

/-- VCS 2 has its host up on port 4, slot 0 of hive 0, and entry 17 bound to the device that is up on port 3; one rule grants everything. -/
def Sys2Proof.Machine.State.host4 (s : State) : State :=
  let s := ((s.hive0.vcs2 1).portAs 4 0 5).puts [(Fld.HOST_CFG_VCS 0, 2), (Fld.VPPB_SUBID_SUBID 16, 5), (Fld.VPPB_SUBID_SUBID 17, 6), (Fld.HOST_CFG_REMOTE 0, 0), (Fld.VCS_ENTRY_CFG_EN 0, 0),
    (Fld.VCS_ENTRY_CFG_EN 1, 0), (Fld.HIVE_STATUS_STATE 1, 0), (Fld.HOST_STATUS_STATE 1, 0), (Fld.HOST_HPA_BASE 0, 0), (Fld.PORT_CFG_ROLE 3, 1),
    (Fld.VPPB_TARGET_PORT 17, 3), (Fld.VPPB_TARGET_LD_VALID 17, 0), (Fld.HAT_STATUS_COMMIT_DONE, 1)]
  { s with fab := { s.fab with up := [3, 4],
                               hat := { s.fab.hat with active := [(Addr.RULE_CTL 0, 0x22003F), (Addr.RULE_OWN 0 0, 0x8FFF8000)], tilesOld := [] },
                               mover := Mover.reset, sw := { s.fab.sw with polBkt := [], iep := [], snoops := [] }, dlog := { s.fab.dlog with waiting := [] } } }

/-- The module is in a role of a pair, with its Tandem link in a state, credits to send, and nothing to send. -/
def Sys2Proof.Machine.State.pairAs (s : State) (role link : Nat) : State :=
  let s := s.puts [(Fld.TDM_CFG_EN, 1), (Fld.WAGGLE_CFG_EN, 1), (Fld.BOOT_STATUS_FABRIC_READY, 1), (Fld.TDM_ROLE_STATE, role), (Fld.TDM_LINK_STATE, link), (Fld.TDM_LINK_MPV, if link = 3 then 1 else 0),
    (Fld.TDM_LINK_MISMATCH, 0), (Fld.TDM_HSEQ_SEQ, 100), (Fld.TDM_ACKSEQ_SEQ, 90), (Fld.TDM_UNKNOWN_REGIONS, 0), (Fld.TDM_JFILL_KIB, 0), (Fld.TIME_STATUS_SRC, 0), (Fld.TIME_CFG_FOLLOW_EN, 0),
    (Fld.COMB_PART_ACT_SIZES, 0x3FFFFFFF), (Fld.CLK_STRAPS_TANDEM_ROLE, 0), (Fld.TDM_LOCK_LOCK, 0), (Fld.TDM_CREDIT_WINDOW, 1000), (Fld.TDM_CREDIT_FLOOR, 960)]
  let s := (List.range 16).foldl (fun s h => s.put (Fld.HIVE_STATUS_STATE h) 0) s
  { s with clk := { s.clk with stopHeld := false }, fab := { s.fab with pair := { Pair.reset with peerCredits := 1000 }, home := Home.reset, up := [], sw := Switch.reset, mover := Mover.reset } }

/-- Change the pair engine of a state. -/
def Sys2Proof.Machine.State.pa (s : State) (f : Pair → Pair) : State := { s with fab := { s.fab with pair := f s.fab.pair } }

/-- A heartbeat of a partner strapped B in a state with a message. -/
def demoBlock (state msg hseq : Nat) : WBlock :=
  { state := state, strap := true, modId := 1, msg := msg, hseq := hseq, low := hseq, rmask := 0, rsync := 0, tsTx := 5000000, echoTx := 0, echoRx := 0 }

/-- No PID is routed. -/
def Sys2Proof.Machine.State.unrouted (s : State) : State := { s with regs := s.regs.filter fun e => e.1 / 0x4000 != Addr.SWARM_RT 0 / 0x4000 }

/-! ### Witnesses of the hypotheses -/

theorem test_meets_PowerSwitching :
    (∃ s : State, s.hs.auxUp = true ∧ s.hs.smp.seatL = true ∧ s.hs.smp.seatR = true ∧ s.get Fld.PWR_HS_STATUS_STATE = 1) ∧
    (∃ s : State, s.hs.auxUp = true ∧ s.hs.smp.seatL = true ∧ s.hs.smp.seatR = true ∧ s.get Fld.PWR_HS_STATUS_STATE = 2) ∧
    (∃ s : State, s.hs.auxUp = true ∧ s.hs.smp.seatL = true ∧ s.hs.smp.seatR = true ∧ s.get Fld.PWR_HS_STATUS_STATE = 7) ∧
    (∃ s : State, s.hs.auxUp = true ∧ s.hs.smp.seatL = true ∧ s.hs.smp.seatR = true ∧ s.get Fld.PWR_HS_STATUS_STATE = 8) ∧
    (∃ s : State, s.hs.auxUp = true ∧ s.get Fld.PWR_HS_STATUS_STATE = 6 ∧ s.hs.severe = false) ∧
    (∃ s : State, s.hs.auxUp = true ∧ s.get Fld.PWR_HS_STATUS_STATE = 6 ∧ s.hs.severe = true) ∧
    (∃ s : State, s.hs.auxUp = true ∧ s.get Fld.PWR_HS_STATUS_STATE = 6 ∧ s.calm = true ∧ s.hs.targetClosed = true ∧ s.qualified s.hs.target = true) ∧
    (∃ s : State, s.hs.auxUp = true ∧ s.get Fld.PWR_HS_STATUS_STATE = 6 ∧ s.calm = true) ∧
    (∃ s : State, s.hs.auxUp = true ∧ s.get Fld.PWR_HS_STATUS_STATE = 5 ∧ s.calm = true ∧ 11000 ≤ s.hs.smp.bus ∧ s.selected ≠ s.preferred ∧ s.qualified s.preferred = true ∧ s.flag Fld.PWR_FEED_CFG_REVERT_EN = true ∧ s.hs.holdoff = 0) ∧
    (∃ s : State, s.hs.auxUp = true ∧ s.get Fld.PWR_HS_STATUS_STATE = 5 ∧ s.calm = true ∧ 11000 ≤ s.hs.smp.bus ∧ s.selected ≠ s.preferred ∧ s.qualified s.preferred = true ∧ s.flag Fld.PWR_FEED_CFG_REVERT_EN = true ∧ s.hs.holdoff ≠ 0 ∧ s.qualified s.selected = true) ∧
    (∃ s : State, s.hs.auxUp = true ∧ s.get Fld.PWR_HS_STATUS_STATE = 5 ∧ s.calm = true ∧ 11000 ≤ s.hs.smp.bus ∧ s.selected ≠ s.preferred ∧ s.qualified s.preferred = true ∧ s.hs.planned = true) :=
  ⟨⟨{ (ready.puts [(Fld.PWR_HS_STATUS_STATE, 1)]) with hs := { Hs.reset with cooldown := true } }, by decide +kernel⟩,
    ⟨{ (ready.puts [(Fld.PWR_HS_STATUS_STATE, 2)]) with hs := Hs.reset }, by decide +kernel⟩,
    ⟨{ (ready.puts [(Fld.PWR_HS_STATUS_STATE, 7)]) with hs := Hs.reset }, by decide +kernel⟩,
    ⟨{ (ready.puts [(Fld.PWR_HS_STATUS_STATE, 8)]) with hs := Hs.reset }, by decide +kernel⟩,
    ⟨{ (ready.puts [(Fld.PWR_HS_STATUS_STATE, 6)]) with hs := Hs.reset }, by decide +kernel⟩,
    ⟨{ (ready.puts [(Fld.PWR_HS_STATUS_STATE, 6)]) with hs := { Hs.reset with severe := true } }, by decide +kernel⟩,
    ⟨{ (ready.puts [(Fld.PWR_HS_STATUS_STATE, 6), (Fld.PWR_HS_STATUS_FEED_A_QUAL, 1)]) with hs := { Hs.reset with targetClosed := true } }, by decide +kernel⟩,
    ⟨{ (ready.puts [(Fld.PWR_HS_STATUS_STATE, 6)]) with hs := Hs.reset }, by decide +kernel⟩,
    ⟨{ (ready.puts [(Fld.PWR_HS_STATUS_STATE, 5), (Fld.PWR_HS_STATUS_FEED_SEL, 2), (Fld.PWR_FEED_CFG_PREF, 0), (Fld.PWR_HS_STATUS_FEED_A_QUAL, 1), (Fld.PWR_HS_STATUS_FEED_B_QUAL, 1), (Fld.PWR_FEED_CFG_REVERT_EN, 1)]) with hs := Hs.reset }, by decide +kernel⟩,
    ⟨{ (ready.puts [(Fld.PWR_HS_STATUS_STATE, 5), (Fld.PWR_HS_STATUS_FEED_SEL, 2), (Fld.PWR_FEED_CFG_PREF, 0), (Fld.PWR_HS_STATUS_FEED_A_QUAL, 1), (Fld.PWR_HS_STATUS_FEED_B_QUAL, 1), (Fld.PWR_FEED_CFG_REVERT_EN, 1)]) with hs := { Hs.reset with holdoff := 5 } }, by decide +kernel⟩,
    ⟨{ (ready.puts [(Fld.PWR_HS_STATUS_STATE, 5), (Fld.PWR_HS_STATUS_FEED_SEL, 2), (Fld.PWR_FEED_CFG_PREF, 0), (Fld.PWR_HS_STATUS_FEED_A_QUAL, 1), (Fld.PWR_HS_STATUS_FEED_B_QUAL, 1), (Fld.PWR_FEED_CFG_REVERT_EN, 1)]) with hs := { Hs.reset with planned := true } }, by decide +kernel⟩⟩

theorem test_meets_RampAndFaults :
    (∃ s : State, s.hs.auxUp = true ∧ s.get Fld.PWR_HS_STATUS_STATE = 4 ∧ s.calm = true ∧ s.hs.timer < 50000 ∧ s.qualified s.selected = true ∧ s.get Fld.PWR_HS_STATUS_FT_COUNT = 0) ∧
    (∃ s : State, s.hs.auxUp = true ∧ s.get Fld.PWR_HS_STATUS_STATE = 4 ∧ s.calm = true ∧ s.hs.timer < 50000 ∧ s.qualified s.selected = true ∧ s.get Fld.PWR_HS_STATUS_FT_COUNT ≠ 0) ∧
    (∃ s : State, s.hs.auxUp = true ∧ s.get Fld.PWR_HS_STATUS_STATE = 4 ∧ s.calm = true) ∧
    (∃ s : State, s.hs.auxUp = true ∧ (s.get Fld.PWR_HS_STATUS_STATE = 4 ∨ s.get Fld.PWR_HS_STATUS_STATE = 5) ∧ s.hs.smp.seatL = true ∧ s.hs.smp.seatR = true ∧ s.hs.severe = false) ∧
    (∃ s : State, s.hs.auxUp = true) :=
  ⟨⟨{ (ready.puts [(Fld.PWR_HS_STATUS_STATE, 4), (Fld.PWR_HS_STATUS_FEED_A_QUAL, 1), (Fld.PWR_HS_STATUS_FEED_SEL, 1)]) with hs := Hs.reset }, by decide +kernel⟩,
    ⟨{ (ready.puts [(Fld.PWR_HS_STATUS_STATE, 4), (Fld.PWR_HS_STATUS_FEED_A_QUAL, 1), (Fld.PWR_HS_STATUS_FEED_SEL, 1), (Fld.PWR_HS_STATUS_FT_COUNT, 1), (Fld.PWR_HS_CFG_FAULT_TIME, 5)]) with hs := Hs.reset }, by decide +kernel⟩,
    ⟨{ (ready.puts [(Fld.PWR_HS_STATUS_STATE, 4), (Fld.PWR_HS_STATUS_FEED_A_QUAL, 1)]) with hs := Hs.reset }, by decide +kernel⟩,
    ⟨{ (ready.puts [(Fld.PWR_HS_STATUS_STATE, 5)]) with hs := Hs.reset }, by decide +kernel⟩,
    ⟨{ (ready.puts [(Fld.PWR_HS_STATUS_STATE, 5)]) with hs := Hs.reset }, by decide +kernel⟩⟩

theorem test_meets_SeatAndFeeds :
    (∃ s : State, s.hs.auxUp = true ∧ s.get Fld.PWR_HS_STATUS_STATE = 0) ∧
    (∃ s : State, s.hs.auxUp = true) ∧
    (∃ s : State, s.hs.auxUp = true ∧ s.get Fld.PWR_HS_STATUS_STATE = 3 ∧ s.hs.smp.seatL = true ∧ s.hs.smp.seatR = true) ∧
    (∃ s : State, ∃ f : Feed, s.hs.auxUp = true ∧ s.get Fld.PWR_HS_STATUS_STATE = 3 ∧ s.hs.smp.seatL = true ∧ s.hs.smp.seatR = true ∧ s.qualified f.other = false) :=
  ⟨⟨{ (ready.puts [(Fld.PWR_HS_STATUS_STATE, 0)]) with hs := Hs.reset }, by decide +kernel⟩,
    ⟨{ (ready.puts [(Fld.PWR_HS_STATUS_STATE, 5)]) with hs := Hs.reset }, by decide +kernel⟩,
    ⟨{ (ready.puts [(Fld.PWR_HS_STATUS_STATE, 3)]) with hs := Hs.reset }, by decide +kernel⟩,
    ⟨{ (ready.puts [(Fld.PWR_HS_STATUS_STATE, 3), (Fld.PWR_HS_STATUS_FEED_A_QUAL, 0), (Fld.PWR_HS_STATUS_FEED_B_QUAL, 0)]) with hs := Hs.reset }, .a, by decide +kernel⟩⟩

theorem test_meets_AuxDomain :
    (∃ s : State, s.hs.auxUp = false) ∧
    (∃ s : State, s.hs.auxUp = true) ∧
    (∃ s : State, s.hs.auxUp = true ∧ s.hs.samples ≠ 0) ∧
    (∃ s : State, s.hs.auxUp = true) ∧
    (∃ s : State, s.hs.auxUp = true) ∧
    (∃ s : State, s.hs.auxUp = false) :=
  ⟨⟨{ ready with hs := { Hs.reset with auxUp := false } }, by decide +kernel⟩,
    ⟨ready, by decide +kernel⟩,
    ⟨{ ready with hs := { Hs.reset with samples := 3, sumVA := 144000, sumIA := 3000, sumPA := 999999 } }, by decide +kernel⟩,
    ⟨ready, by decide +kernel⟩,
    ⟨ready, by decide +kernel⟩,
    ⟨{ ready with hs := { Hs.reset with auxUp := false, cooldown := true } }, by decide +kernel⟩⟩

theorem test_meets_ClockSources :
    (∃ s : State, s.hs.auxUp = true) ∧
    (∃ s : State, s.hs.auxUp = true ∧ s.clk.refEdges = true ∧ s.clk.refPresent = false) ∧
    (∃ s : State, ∃ m : Master, ∃ value : Word, s.hs.auxUp = true ∧ s.takes m 1 = true ∧ s.flag Fld.CLK_LOCK_LOCK = false ∧ s.flag Fld.CLK_REF_CFG_AUTO_REVERT = false ∧ value.getLsbD 1 = true ∧ s.clk.refPresent = true ∧ s.clk.refSrcTcxo = true) ∧
    (∃ s : State, s.hs.auxUp = true ∧ s.mgmtRuns = true ∧ s.clk.refPresent = true) ∧
    (∃ s : State, s.hs.auxUp = true ∧ s.clk.mgmtUp = true ∧ s.clk.stopHeld = false ∧ s.clk.startFail = false) ∧
    (∃ s : State, s.hs.auxUp = true ∧ s.clk.stopHeld = false ∧ s.clk.startFail = false) ∧
    (∃ s : State, s.hs.auxUp = true ∧ s.clk.mgmtUp = true) :=
  ⟨⟨ready, by decide +kernel⟩,
    ⟨{ ready with clk := { ready.clk with refEdges := true } }, by decide +kernel⟩,
    ⟨{ (ready.puts [(Fld.CLK_REF_CFG_AUTO_REVERT, 0), (Fld.CLK_LOCK_LOCK, 0)]) with clk := { ready.clk with refPresent := true } }, .keeper 0, 2, by decide +kernel⟩,
    ⟨{ ready with clk := { ready.clk with refPresent := true, refSrcTcxo := false } }, by decide +kernel⟩,
    ⟨ready, by decide +kernel⟩,
    ⟨ready, by decide +kernel⟩,
    ⟨ready, by decide +kernel⟩⟩

theorem test_meets_StageThree :
    (∃ s : State, s.clk.mgmtUp = false ∧ s.clk.stage3Failed = false ∧ s.hs.auxUp = true ∧ s.clk.porAsserted = false) ∧
    (∃ s : State, s.clk.mgmtUp = false ∧ s.clk.stage3Failed = false ∧ s.clk.pllReleased = true ∧ s.clk.tcxoOk = true) ∧
    (∃ s : State, s.clk.mgmtUp = false ∧ s.clk.stage3Failed = false ∧ s.hs.auxUp = true ∧ s.clk.porAsserted = false) :=
  ⟨⟨{ ready with clk := { ready.clk with mgmtUp := false } }, by decide +kernel⟩,
    ⟨{ ready with clk := { ready.clk with mgmtUp := false, pllReleased := true } }, by decide +kernel⟩,
    ⟨{ ready with clk := { ready.clk with mgmtUp := false } }, by decide +kernel⟩⟩

theorem test_meets_ResetEntryAndEnd :
    (∃ s : State, s.clk.mgmtUp = true ∧ 4 < s.get Fld.BOOT_STATUS_STAGE ∧ s.boot.fwRunning = true ∧ s.nv.fwPending = none) ∧
    (∃ s : State, ∃ m : Master, ∃ value : Word, s.clk.mgmtUp = true ∧ s.takes m 1 = true ∧ m.keeperOrBoard = true ∧ value.toNat % 256 = 0xA5 ∧ 4 < s.get Fld.BOOT_STATUS_STAGE ∧ s.boot.fwRunning = true ∧ s.nv.fwPending = none) ∧
    (∃ s : State, s.clk.mgmtUp = true ∧ s.clk.perstLow = true) ∧
    (∃ s : State, s.clk.mgmtUp = true ∧ s.clk.resetPulse = true) :=
  ⟨⟨{ ready.atStage 11 with boot := { ready.boot with fwRunning := true } }, by decide +kernel⟩,
    ⟨{ ready.atStage 11 with boot := { ready.boot with fwRunning := true } }, .board, 0xA5, by decide +kernel⟩,
    ⟨{ ready with clk := { ready.clk with perstLow := true } }, by decide +kernel⟩,
    ⟨{ ready with clk := { ready.clk with resetPulse := true } }, by decide +kernel⟩⟩

theorem test_meets_StartupStages :
    (∃ s : State, ∃ i : SignedImage, s.clk.startFail = false ∧ s.clk.stopHeld = false ∧ s.clk.mgmtUp = true ∧ s.get Fld.BOOT_STATUS_STAGE = 4 ∧ s.get Fld.SEC_STATUS_SELFTEST = 1 ∧ s.nv.fwPending = none ∧ ({ s with sec := { s.sec with status4 := (s.word Addr.SEC_STATUS).toNat } } : State).fwSlot s.nv.fwPref = some i) ∧
    (∃ s : State, s.clk.startFail = false ∧ s.clk.stopHeld = false ∧ s.clk.mgmtUp = true ∧ s.get Fld.BOOT_STATUS_STAGE = 4 ∧ s.get Fld.SEC_STATUS_SELFTEST = 1 ∧ s.nv.fwPending = none ∧ ({ s with sec := { s.sec with status4 := (s.word Addr.SEC_STATUS).toNat } } : State).fwSlot false = none ∧ ({ s with sec := { s.sec with status4 := (s.word Addr.SEC_STATUS).toNat } } : State).fwSlot true = none) ∧
    (∃ s : State, ∃ x : Bool, s.clk.startFail = false ∧ s.clk.stopHeld = false ∧ s.clk.mgmtUp = true ∧ s.get Fld.BOOT_STATUS_STAGE = 5 ∧ s.clk.fabricHeld = true ∧ s.clk.perstLow = false ∧ s.clk.resetPulse = false ∧ s.chooseFixon = some x) ∧
    (∃ s : State, s.clk.startFail = false ∧ s.clk.stopHeld = false ∧ s.clk.mgmtUp = true ∧ s.get Fld.BOOT_STATUS_STAGE = 5 ∧ s.clk.fabricHeld = true ∧ s.clk.perstLow = false ∧ s.clk.resetPulse = false) ∧
    (∃ s : State, s.clk.startFail = false ∧ s.clk.stopHeld = false ∧ s.clk.mgmtUp = true ∧ 4 ≤ s.get Fld.BOOT_STATUS_STAGE ∧ s.get Fld.BOOT_STATUS_STAGE ≤ 9) ∧
    (∃ s : State, s.clk.startFail = false ∧ s.clk.stopHeld = false ∧ s.clk.mgmtUp = true ∧ s.get Fld.BOOT_STATUS_STAGE = 6 ∧ s.clk.fabricHeld = false) ∧
    (∃ s : State, s.clk.startFail = false ∧ s.clk.stopHeld = false ∧ s.clk.mgmtUp = true ∧ s.get Fld.BOOT_STATUS_STAGE = 6 ∧ s.get Fld.COMB_STATUS_STATE = 2 ∧ s.boot.combTrained = true ∧ s.clk.fabricHeld = false) ∧
    (∃ s : State, ∃ l : List WireRepair, s.clk.startFail = false ∧ s.clk.stopHeld = false ∧ s.clk.mgmtUp = true ∧ s.get Fld.BOOT_STATUS_STAGE = 7 ∧ s.clk.fabricHeld = false ∧ (List.range 4).all (fun k => (ehrFailed l none k).isNone) = true) ∧
    (∃ s : State, s.clk.startFail = false ∧ s.clk.stopHeld = false ∧ s.clk.mgmtUp = true ∧ s.get Fld.BOOT_STATUS_STAGE = 8 ∧ s.fabricRuns = true ∧ s.fab.lanes.cal = []) :=
  ⟨⟨{ (ready.atStage 4).puts [(Fld.SEC_STATUS_Q_USABLE, 1)] with nv := { Nv.reset with fwA := some goodImage } }, goodImage, by decide +kernel⟩,
    ⟨{ (ready.atStage 4) with nv := Nv.reset }, by decide +kernel⟩,
    ⟨{ { (ready.applies 0).puts [(Fld.SEC_STATUS_FIXON_SIG_REQ, 0)] with boot := Boot.reset } with clk := { ready.clk with fabricHeld := true } }, false, by decide +kernel⟩,
    ⟨{ (ready.atStage 5) with clk := { ready.clk with fabricHeld := true } }, by decide +kernel⟩,
    ⟨ready.atStage 7, by decide +kernel⟩,
    ⟨ready.atStage 6, by decide +kernel⟩,
    ⟨{ (ready.atStage 6).puts [(Fld.COMB_STATUS_STATE, 2)] with boot := { ready.boot with combTrained := true } }, by decide +kernel⟩,
    ⟨ready.atStage 7, [⟨1, 0, 3, [5], false⟩], by decide +kernel⟩,
    ⟨ready.atStage 8, by decide +kernel⟩⟩

theorem test_meets_FixonRecords :
    (∃ s : State, ∃ x : Bool, ∃ i : Nat, ∃ addr : BitVec 28, ∃ words : List Word, s.clk.mgmtUp = true ∧ s.get Fld.BOOT_STATUS_STAGE = 5 ∧ s.clk.startFail = false ∧ s.clk.stopHeld = false ∧ s.boot.applying = some (x, i) ∧ s.boot.delay = false ∧ s.nextRecord = some (.write addr.toNat (words.map (·.toNat)))) ∧
    (∃ s : State, ∃ x : Bool, ∃ i : Nat, ∃ addr : BitVec 28, ∃ mask : Word, ∃ value : Word, s.clk.mgmtUp = true ∧ s.get Fld.BOOT_STATUS_STAGE = 5 ∧ s.clk.startFail = false ∧ s.clk.stopHeld = false ∧ s.boot.applying = some (x, i) ∧ s.boot.delay = false ∧ s.nextRecord = some (.masked addr.toNat mask.toNat value.toNat)) ∧
    (∃ s : State, ∃ x : Bool, ∃ i : Nat, ∃ addr : BitVec 28, ∃ count : Nat, ∃ value : Word, s.clk.mgmtUp = true ∧ s.get Fld.BOOT_STATUS_STAGE = 5 ∧ s.clk.startFail = false ∧ s.clk.stopHeld = false ∧ s.boot.applying = some (x, i) ∧ s.boot.delay = false ∧ s.nextRecord = some (.fill addr.toNat count value.toNat)) ∧
    (∃ s : State, ∃ x : Bool, ∃ i : Nat, ∃ addr : BitVec 28, ∃ mask : Word, ∃ value : Word, ∃ time : Nat, s.clk.mgmtUp = true ∧ s.get Fld.BOOT_STATUS_STAGE = 5 ∧ s.clk.startFail = false ∧ s.clk.stopHeld = false ∧ s.boot.applying = some (x, i) ∧ s.boot.delay = false ∧ s.nextRecord = some (.poll addr.toNat mask.toNat value.toNat time)) ∧
    (∃ s : State, ∃ x : Bool, ∃ i : Nat, ∃ us : Nat, s.clk.mgmtUp = true ∧ s.get Fld.BOOT_STATUS_STAGE = 5 ∧ s.clk.startFail = false ∧ s.clk.stopHeld = false ∧ s.boot.applying = some (x, i) ∧ s.boot.delay = false ∧ s.nextRecord = some (.delay us)) ∧
    (∃ s : State, ∃ x : Bool, ∃ i : Nat, s.clk.mgmtUp = true ∧ s.get Fld.BOOT_STATUS_STAGE = 5 ∧ s.clk.startFail = false ∧ s.clk.stopHeld = false ∧ s.boot.applying = some (x, i) ∧ s.boot.delay = true) ∧
    (∃ s : State, ∃ x : Bool, ∃ i : Nat, s.clk.mgmtUp = true ∧ s.get Fld.BOOT_STATUS_STAGE = 5 ∧ s.clk.startFail = false ∧ s.clk.stopHeld = false ∧ s.boot.applying = some (x, i) ∧ s.boot.delay = false ∧ s.nextRecord = some .fin ∧ s.clk.fabricHeld = false) ∧
    (∃ s : State, ∃ x : Bool, ∃ i : Nat, s.clk.mgmtUp = true ∧ s.get Fld.BOOT_STATUS_STAGE = 5 ∧ s.clk.startFail = false ∧ s.clk.stopHeld = false ∧ s.boot.applying = some (x, i) ∧ s.boot.poll.isSome = true ∧ s.boot.errSet = false ∧ s.boot.fwRunning = true ∧ s.nv.fwPending = none) ∧
    (∃ s : State, ∃ x : Bool, ∃ i : Nat, s.clk.mgmtUp = true ∧ s.get Fld.BOOT_STATUS_STAGE = 5 ∧ s.clk.startFail = false ∧ s.clk.stopHeld = false ∧ s.boot.applying = some (x, i) ∧ s.boot.poll.isSome = true ∧ s.nv.fwPending ≠ none) :=
  ⟨⟨ready.applies 0, false, 0, 0x81008, [5], by decide +kernel⟩,
    ⟨ready.applies 1, false, 1, 0x81008, 0xF, 3, by decide +kernel⟩,
    ⟨ready.applies 2, false, 2, 0x81008, 1, 7, by decide +kernel⟩,
    ⟨ready.applies 3, false, 3, 0x81008, 0xFF, 7, 100, by decide +kernel⟩,
    ⟨ready.applies 4, false, 4, 3, by decide +kernel⟩,
    ⟨{ ready.applies 4 with boot := { ready.boot with applying := some (false, 4), delay := true } }, false, 4, by decide +kernel⟩,
    ⟨ready.applies 5, false, 5, by decide +kernel⟩,
    ⟨{ ready.applies 3 with boot := { Boot.reset with fwRunning := true, applying := some (false, 3), poll := some ⟨0x81008, 0xFF, 7⟩ } }, false, 3, by decide +kernel⟩,
    ⟨{ ready.applies 3 with nv := { ready.nv with fixA := demoSlot, fwPending := some true }, boot := { Boot.reset with fwRunning := true, applying := some (false, 3), poll := some ⟨0x81008, 0xFF, 7⟩ } }, false, 3, by decide +kernel⟩⟩

theorem test_meets_FaultLog :
    (∃ s : State, ∃ m : FaultMsg, s.clk.mgmtUp = true ∧ s.clk.stopHeld = false ∧ s.clk.startFail = false ∧ m.cls < 2 ∧ s.unacked < 1024 ∧ s.escalates m false = false) ∧
    (∃ s : State, ∃ m : FaultMsg, s.clk.mgmtUp = true ∧ s.clk.stopHeld = false ∧ s.clk.startFail = false ∧ m.cls < 2 ∧ s.unacked < 1024 ∧ s.escalates m false = true) ∧
    (∃ s : State, s.clk.mgmtUp = true ∧ s.clk.stopHeld = false ∧ s.clk.startFail = false ∧ s.unacked = 1024) :=
  ⟨⟨{ (ready.puts [(Fld.FLT_SEQ_SEQ, 9), (Fld.FLT_ACK_SEQ, 5), (Fld.FLT_BOARD_ACK_SEQ, 4)]) with flt := Flt.reset }, demoFault, by decide +kernel⟩,
    ⟨{ (ready.puts [(Fld.FLT_SEQ_SEQ, 9), (Fld.FLT_ACK_SEQ, 5), (Fld.FLT_BOARD_ACK_SEQ, 4)]) with flt := { Flt.reset with log := [⟨demoFault, false, 7, false, 0⟩] } }, demoFault, by decide +kernel⟩,
    ⟨{ (ready.puts [(Fld.FLT_SEQ_SEQ, 1029), (Fld.FLT_ACK_SEQ, 5)]) with flt := Flt.reset }, by decide +kernel⟩⟩

theorem test_meets_FaultRegisters :
    (∃ s : State, ∃ m : Master, ∃ seq : Word, s.takes m 4 = true ∧ m.isKeeper = true ∧ s.get Fld.FLT_ACK_SEQ ≤ seq.toNat ∧ seq.toNat ≤ s.get Fld.FLT_SEQ_SEQ) ∧
    (∃ s : State, ∃ m : Master, ∃ seq : Word, s.takes m 4 = true ∧ (m.isKeeper = false ∨ seq.toNat < s.get Fld.FLT_ACK_SEQ ∨ s.get Fld.FLT_SEQ_SEQ < seq.toNat)) ∧
    (∃ s : State, ∃ seq : Word, s.takes .board 4 = true ∧ s.get Fld.FLT_BOARD_ACK_SEQ ≤ seq.toNat ∧ seq.toNat ≤ s.get Fld.FLT_SEQ_SEQ) ∧
    (∃ s : State, ∃ m : Master, ∃ value : Word, s.takes m 4 = true ∧ value.getLsbD 1 = true) ∧
    (∃ s : State, ∃ m : Master, ∃ page : BitVec 12, ∃ x : Block, ∃ f : Nat, ∃ value : Word, s.takes m page.toNat = true ∧ blockOf page.toNat = some (x, f) ∧ hasErrCap x = true ∧ value.getLsbD 0 = true) ∧
    (∃ s : State, ∃ m : Master, ∃ value : Word, s.takes m 4 = true ∧ m.keeperOrBoard = true ∧ bitsOf value.toNat 12 2 < 2 ∧ s.unacked < 1024 ∧ s.clk.startFail = false ∧ s.clk.stopHeld = false ∧ (s.flt.log.any fun e => e.msg.source == bitsOf value.toNat 16 12) = false) :=
  ⟨⟨ready.puts [(Fld.FLT_SEQ_SEQ, 9), (Fld.FLT_ACK_SEQ, 5), (Fld.FLT_BOARD_ACK_SEQ, 4)], .keeper 0, 7, by decide +kernel⟩,
    ⟨ready.puts [(Fld.FLT_SEQ_SEQ, 9), (Fld.FLT_ACK_SEQ, 5), (Fld.FLT_BOARD_ACK_SEQ, 4)], .keeper 0, 3, by decide +kernel⟩,
    ⟨ready.puts [(Fld.FLT_SEQ_SEQ, 9), (Fld.FLT_ACK_SEQ, 5), (Fld.FLT_BOARD_ACK_SEQ, 4)], 7, by decide +kernel⟩,
    ⟨ready, .keeper 0, 2, by decide +kernel⟩,
    ⟨ready, .keeper 0, 0x031, .buf, 0x31, 1, by decide +kernel⟩,
    ⟨ready.puts [(Fld.FLT_SEQ_SEQ, 9), (Fld.FLT_ACK_SEQ, 5), (Fld.FLT_BOARD_ACK_SEQ, 4)], .keeper 0, 0x00311130, by decide +kernel⟩⟩

theorem test_meets_FailStop :
    (∃ s : State, s.clk.mgmtUp = true ∧ s.clk.stopHeld = false ∧ s.clk.startFail = false) ∧
    (∃ s : State, s.clk.mgmtUp = true ∧ s.clk.stopHeld = false ∧ s.clk.startFail = false) ∧
    (∃ s : State, ∃ c : Core, s.clk.mgmtUp = true ∧ s.clk.stopHeld = false ∧ s.clk.startFail = false ∧ s.watchdogDue c.val = true) ∧
    (∃ s : State, s.clk.mgmtUp = true ∧ s.clk.stopHeld = false ∧ s.clk.startFail = false) ∧
    (∃ s : State, s.clk.mgmtUp = true) ∧
    (∃ s : State, s.clk.mgmtUp = true ∧ s.clk.stopHeld = true) ∧
    (∃ s : State, ∃ c : Capture, s.clk.mgmtUp = true ∧ s.flt.stop = some c ∧ c.cause = none ∧ s.flt.recordDue = true ∧ s.clk.mgmtStopped = false) :=
  ⟨⟨ready, by decide +kernel⟩,
    ⟨ready, by decide +kernel⟩,
    ⟨{ ready with clk := { ready.clk with timeBase := 200000000 } }, 2, by decide +kernel⟩,
    ⟨ready, by decide +kernel⟩,
    ⟨ready, by decide +kernel⟩,
    ⟨{ ready with clk := { ready.clk with stopHeld := true } }, by decide +kernel⟩,
    ⟨{ ready with flt := { Flt.reset with recordDue := true, stop := some ⟨3, .removal, none, 0, 0, [], [], []⟩ } }, ⟨3, .removal, none, 0, 0, [], [], []⟩, by decide +kernel⟩⟩

theorem test_meets_KeeperAndPolicy :
    (∃ s : State, ∃ c : Core, ∃ value : Word, s.takes (.keeper c) 6 = true ∧ value.getLsbD c.val = true) ∧
    (∃ s : State, ∃ c : Core, ∃ w : Option Word64, s.clk.mgmtUp = true ∧ (w.map (·.toNat)).getD (mget 0 s.keeper.mtimecmp c.val) ≤ s.now) ∧
    (∃ s : State, ∃ w : Word64, s.clk.mgmtUp = true ∧ s.now < w.toNat) ∧
    (∃ s : State, ∃ c : Core, s.clk.mgmtUp = true ∧ s.watchdogDue c.val = false) ∧
    (∃ s : State, s.clk.mgmtUp = true ∧ s.get Fld.MBX_POLICY_STATE = 1) ∧
    (∃ s : State, s.clk.mgmtUp = true ∧ s.get Fld.MBX_POLICY_STATE = 1) ∧
    (∃ s : State, s.mgmtRuns = true ∧ s.get Fld.MBX_POLICY_STATE = 1) :=
  ⟨⟨ready, 1, 2, by decide +kernel⟩,
    ⟨ready, 1, none, by decide +kernel⟩,
    ⟨ready, 0xFFFFFFFFFFFFFF, by decide +kernel⟩,
    ⟨{ ready with keeper := { ready.keeper with kicks := [(2, ready.now)] } }, 2, by decide +kernel⟩,
    ⟨ready.puts [(Fld.MBX_POLICY_STATE, 1)], by decide +kernel⟩,
    ⟨ready.puts [(Fld.MBX_POLICY_STATE, 1)], by decide +kernel⟩,
    ⟨ready.puts [(Fld.MBX_POLICY_STATE, 1)], by decide +kernel⟩⟩

theorem test_meets_Interrupts :
    (∃ s : State, ∃ m : Master, s.flag Fld.MBX_CFG_FM_EN = false ∧ s.takes m 5 = true ∧ m.isKeeper = true) ∧
    (∃ s : State, ∃ m : Master, s.flag Fld.MBX_CFG_FM_EN = false ∧ s.takes m 5 = true ∧ m.isKeeper = true) ∧
    (∃ s : State, ∃ m : Master, s.flag Fld.MBX_CFG_FM_EN = false ∧ s.takes m 5 = true ∧ m.isKeeper = true) ∧
    (∃ s : State, ∃ m : Master, s.flag Fld.MBX_CFG_FM_EN = false ∧ s.takes m 5 = true ∧ m.isKeeper = true) ∧
    (∃ s : State, ∃ n : Fin 2048, s.flag Fld.MBX_CFG_FM_EN = false ∧ s.clk.mgmtUp = true ∧ s.level n.val = true ∧ (n.val ∉ s.keeper.sampled)) ∧
    (∃ s : State, ∃ m : Master, s.flag Fld.MBX_CFG_FM_EN = false ∧ s.takes m 5 = true ∧ m.isKeeper = true) ∧
    (∃ s : State, ∃ n : Fin 2048, s.clk.mgmtUp = true ∧ s.intPending n.val = true ∧ s.intEnabled n.val = true ∧ s.intActive n.val = false) ∧
    (∃ s : State, ∃ n : Fin 2048, s.clk.mgmtUp = true ∧ (s.intPending n.val = false ∨ s.intEnabled n.val = false ∨ s.intActive n.val = true)) ∧
    (∃ s : State, ∃ c : Core, ∃ n : Fin 2048, s.clk.mgmtUp = true ∧ s.presents c.val = some n.val) ∧
    (∃ s : State, ∃ c : Core, s.clk.mgmtUp = true ∧ s.presents c.val = none) ∧
    (∃ s : State, ∃ c : Core, ∃ value : Word, ∃ n : Nat, ∃ p : Nat, ∃ l : List (Nat × Nat), s.takes (.keeper c) 5 = true ∧ mget [] s.keeper.inService c.val = (n, p) :: l ∧ value.toNat % 4096 = n ∧ s.level n = false) ∧
    (∃ s : State, ∃ c : Core, ∃ value : Word, s.takes (.keeper c) 5 = true ∧ (mget [] s.keeper.inService c.val).head?.map (·.1) ≠ some (value.toNat % 4096)) :=
  ⟨⟨ready.puts [(Fld.MBX_CFG_FM_EN, 0)], .keeper 0, by decide +kernel⟩,
    ⟨ready.puts [(Fld.MBX_CFG_FM_EN, 0)], .keeper 0, by decide +kernel⟩,
    ⟨ready.puts [(Fld.MBX_CFG_FM_EN, 0)], .keeper 0, by decide +kernel⟩,
    ⟨ready.puts [(Fld.MBX_CFG_FM_EN, 0)], .keeper 0, by decide +kernel⟩,
    ⟨ready.puts [(Fld.MBX_CFG_FM_EN, 0), (Evt.CLK_REF_SWITCH.field, 1), (⟨evtEnAddr 1, Evt.CLK_REF_SWITCH.bit, 1⟩, 1)], 1554, by decide +kernel⟩,
    ⟨ready.puts [(Fld.MBX_CFG_FM_EN, 0)], .keeper 0, by decide +kernel⟩,
    ⟨(ready.puts [(bitField (Addr.INTC_PEND_SET 0) 70, 1), (bitField (Addr.INTC_EN_SET 0) 70, 1), (bitField (Addr.INTC_ACTIVE 0) 70, 0)]), 70, by decide +kernel⟩,
    ⟨ready, 70, by decide +kernel⟩,
    ⟨((ready.puts [(bitField (Addr.INTC_PEND_SET 0) 70, 1), (bitField (Addr.INTC_EN_SET 0) 70, 1), (bitField (Addr.INTC_ACTIVE 0) 70, 0)]).puts [(Fld.INTC_SRC_TARGET 70, 15), (Fld.INTC_SRC_PRIO 70, 3)]), 1, 70, by decide +kernel⟩,
    ⟨ready, 1, by decide +kernel⟩,
    ⟨{ (ready.setWord (evtPendAddr 0x146) 0) with keeper := { Keeper.reset with inService := mput [] [] 1 [(70, 3), (71, 2)] } }, 1, 70, 70, 3, [(71, 2)], by decide +kernel⟩,
    ⟨{ ready with keeper := { Keeper.reset with inService := mput [] [] 1 [(70, 3), (71, 2)] } }, 1, 9, by decide +kernel⟩⟩

theorem test_meets_RegisterReadsAndWrites :
    (∃ addr : BitVec 28, ∃ n : Nat, (n ≠ 4 ∨ addr.toNat % 4 ≠ 0)) ∧
    (∃ m : Master, ∃ addr : BitVec 28, m ≠ .policy ∧ addr.toNat % 4 = 0 ∧ blockOf (addr.toNat / 0x10000) = none) ∧
    (∃ s : State, ∃ m : Master, ∃ value : Word, s.takes m 0x31 = true ∧ s.locked 0x31 = false ∧ bitsOf value.toNat Fld.BUF_RED_CFG_W.lo Fld.BUF_RED_CFG_W.width ≤ 12) ∧
    (∃ s : State, ∃ m : Master, ∃ value : Word, s.takes m 0x31 = true ∧ (s.locked 0x31 = true ∨ 12 < bitsOf value.toNat Fld.BUF_RED_CFG_W.lo Fld.BUF_RED_CFG_W.width)) ∧
    (∃ addr : BitVec 28, ∃ n : Nat, (n ≠ 4 ∨ addr.toNat % 4 ≠ 0)) ∧
    (∃ addr : BitVec 28, ∃ n : Nat, (n ≠ 4 ∨ addr.toNat % 4 ≠ 0)) ∧
    (∃ addr : BitVec 28, ∃ n : Nat, (n ≠ 4 ∨ addr.toNat % 4 ≠ 0)) ∧
    (∃ addr : BitVec 28, ∃ n : Nat, (n ≠ 4 ∨ addr.toNat % 4 ≠ 0)) ∧
    (∃ s : State, ∃ m : Master, ∃ addr : BitVec 28, s.mgmtRuns = true ∧ m ≠ .policy ∧ addr.toNat % 4 = 0 ∧ pairWord addr.toNat = .low) ∧
    (∃ s : State, ∃ m : Master, ∃ addr : BitVec 28, ∃ k : PairLatch, s.mgmtRuns = true ∧ m ≠ .policy ∧ addr.toNat % 4 = 0 ∧ pairWord addr.toNat = .high ∧ (s.latches.find? fun l => l.master == m && l.addr + 4 == addr.toNat) = some k) ∧
    (∃ s : State, ∃ m : Master, ∃ addr : BitVec 28, s.takes m (addr.toNat / 0x10000) = true ∧ addr.toNat % 4 = 0 ∧ pairWord addr.toNat = .low ∧ regionOf addr.toNat = none ∧ 0x1000 ≤ addr.toNat % 0x10000 ∧ addr.toNat / 0x10000 ≠ 0x90 ∧ (findRow addr.toNat).isSome = true) ∧
    (∃ s : State, ∃ m : Master, s.takes m 0x0A = true) ∧
    (∃ s : State, ∃ m : Master, ∃ hi : Word, ∃ l : Word, s.takes m 8 = true ∧ s.locked 8 = false ∧ s.heldLow m Addr.TIME_SET_LO = some l ∧ s.following = false ∧ s.now ≤ l.toNat + 2 ^ 32 * hi.toNat) ∧
    (∃ s : State, ∃ m : Master, ∃ hi : Word, ∃ l : Word, s.takes m 8 = true ∧ s.locked 8 = false ∧ s.heldLow m Addr.TIME_SET_LO = some l ∧ (s.following = true ∨ l.toNat + 2 ^ 32 * hi.toNat < s.now)) :=
  ⟨⟨0x311010, 2, by decide +kernel⟩,
    ⟨.keeper 0, 0x3000000, by decide +kernel⟩,
    ⟨ready.puts [(Fld.BUF_LOCK_LOCK, 0)], .keeper 0, 5, by decide +kernel⟩,
    ⟨ready.puts [(Fld.BUF_LOCK_LOCK, 1)], .keeper 0, 5, by decide +kernel⟩,
    ⟨0x81008, 8, by decide +kernel⟩,
    ⟨0x8100C, 8, by decide +kernel⟩,
    ⟨0x81008, 8, by decide +kernel⟩,
    ⟨0x8100C, 8, by decide +kernel⟩,
    ⟨ready, .keeper 0, 0x81008, by decide +kernel⟩,
    ⟨{ ready with latches := [⟨.keeper 0, 0x81008, 9⟩] }, .keeper 0, 0x8100C, ⟨.keeper 0, 0x81008, 9⟩, by decide +kernel⟩,
    ⟨ready, .keeper 0, 0x81008, by decide +kernel⟩,
    ⟨{ ready with held := [⟨.keeper 0, Addr.PERF_OVF_PERIOD_LO 3, 5⟩] }, .keeper 0, by decide +kernel⟩,
    ⟨{ ready.puts [(Fld.TIME_STATUS_SRC, 0), (Fld.TIME_LOCK_LOCK, 0)] with held := [⟨.keeper 0, 0x81008, 9⟩] }, .keeper 0, 7, 9, by decide +kernel⟩,
    ⟨{ ready.puts [(Fld.TIME_LOCK_LOCK, 0)] with held := [⟨.keeper 0, 0x81008, 9⟩] }, .keeper 0, 0, 9, by decide +kernel⟩⟩

theorem test_meets_MctpAccess :
    (∃ s : State, ∃ q : MctpMsg, s.mgmtRuns = true ∧ q.vdm = false ∧ q.status ≠ 0) ∧
    (∃ s : State, ∃ q : MctpMsg, s.mgmtRuns = true ∧ q.vdm = true) ∧
    (∃ s : State, ∃ q : MctpMsg, s.mgmtRuns = true ∧ q.vdm = false ∧ q.status = 0) ∧
    (∃ s : State, ∃ q : MctpMsg, s.mgmtRuns = true ∧ q.vdm = false ∧ q.status = 0 ∧ q.words.length = q.count) ∧
    (∃ s : State, ∃ q : MctpMsg, s.mgmtRuns = true ∧ q.vdm = false ∧ q.status ≠ 0) :=
  ⟨⟨ready, ⟨5, 0x81008, 1, [3], true, 4, false⟩, by decide +kernel⟩,
    ⟨ready, ⟨5, 0x81008, 1, [3], true, 0, true⟩, by decide +kernel⟩,
    ⟨ready, ⟨5, 0x81008, 1, [3], true, 0, false⟩, by decide +kernel⟩,
    ⟨ready, ⟨5, 0x81008, 1, [3], true, 0, false⟩, by decide +kernel⟩,
    ⟨ready, ⟨5, 0x81008, 1, [3], true, 4, false⟩, by decide +kernel⟩⟩

theorem test_meets_EventsAndLocks :
    (∃ s : State, ∃ m : Master, ∃ page : BitVec 12, ∃ x : Block, ∃ f : Nat, s.flt.alert = s.alertLevel ∧ s.takes m page.toNat = true ∧ blockOf page.toNat = some (x, f) ∧ hasHeader x = true) ∧
    (∃ s : State, ∃ m : Master, ∃ page : BitVec 12, ∃ x : Block, ∃ f : Nat, s.flt.alert = s.alertLevel ∧ s.takes m page.toNat = true ∧ blockOf page.toNat = some (x, f) ∧ hasHeader x = true) ∧
    (∃ s : State, ∃ m : Master, ∃ page : BitVec 12, ∃ x : Block, ∃ f : Nat, s.flt.alert = s.alertLevel ∧ s.takes m page.toNat = true ∧ blockOf page.toNat = some (x, f) ∧ hasHeader x = true) ∧
    (∃ s : State, ∃ m : Master, ∃ page : BitVec 12, ∃ x : Block, ∃ f : Nat, s.flt.alert = s.alertLevel ∧ s.takes m page.toNat = true ∧ blockOf page.toNat = some (x, f) ∧ hasHeader x = true) ∧
    (∃ s : State, ∃ m : Master, ∃ page : BitVec 12, ∃ x : Block, ∃ f : Nat, s.takes m page.toNat = true ∧ blockOf page.toNat = some (x, f) ∧ lockable x = true) ∧
    (∃ s : State, ∃ m : Master, ∃ value : Word, s.takes m 0 = true ∧ m.keeperOrBoard = true ∧ value.toNat % 256 = 0xC5) ∧
    (∃ m : Master, ∃ value : Word, m ≠ .policy ∧ (m.keeperOrBoard = false ∨ value.toNat % 256 ≠ 0xC5)) :=
  ⟨⟨{ ready with flt := { ready.flt with alert := ready.alertLevel } }, .keeper 0, 0x031, .buf, 0x31, by decide +kernel⟩,
    ⟨{ ready with flt := { ready.flt with alert := ready.alertLevel } }, .keeper 0, 0x031, .buf, 0x31, by decide +kernel⟩,
    ⟨{ ready with flt := { ready.flt with alert := ready.alertLevel } }, .keeper 0, 0x031, .buf, 0x31, by decide +kernel⟩,
    ⟨{ ready with flt := { ready.flt with alert := ready.alertLevel } }, .keeper 0, 0x031, .buf, 0x31, by decide +kernel⟩,
    ⟨ready, .keeper 0, 0x031, .buf, 0x31, by decide +kernel⟩,
    ⟨ready, .keeper 0, 0xC5, by decide +kernel⟩,
    ⟨.keeper 0, 0xC4, by decide +kernel⟩⟩

theorem test_meets_NvStore :
    (∃ s : State, ∃ m : Master, ∃ value : Word, s.takes m 9 = true ∧ m.keeperOrBoard = true ∧ bitsOf value.toNat 0 4 = 1 ∧ bitsOf value.toNat 24 8 = 0x5A ∧ s.get Fld.NVS_CMD_STATUS_STATE ≠ 1) ∧
    (∃ s : State, s.clk.mgmtUp = true ∧ s.nv.commit = some none) ∧
    (∃ s : State, ∃ w : List Nat, s.clk.mgmtUp = true ∧ s.nv.commit = some (some w)) ∧
    (∃ s : State, s.clk.mgmtUp = true) :=
  ⟨⟨ready.puts [(Fld.NVS_CMD_STATUS_STATE, 0)], .keeper 0, 0x5A000001, by decide +kernel⟩,
    ⟨{ ready with nv := { ready.nv with commit := some none } }, by decide +kernel⟩,
    ⟨{ ready with nv := { Nv.reset with commit := some (some defaultParams) } }, defaultParams, by decide +kernel⟩,
    ⟨ready, by decide +kernel⟩⟩

theorem test_meets_CountersAndTelemetry :
    (∃ s : State, ∃ m : Master, ∃ k : Fin 4, ∃ value : Word, s.takes m 0x0A = true ∧ value.getLsbD 16 = true ∧ s.flag (Fld.PERF_SNAP_CTL_BUSY k.val) = false ∧ bitsOf value.toNat 0 8 ≤ bitsOf value.toNat 8 8) ∧
    (∃ s : State, ∃ k : Fin 4, s.clk.mgmtUp = true ∧ s.flag (Fld.PERF_SNAP_CTL_BUSY k.val) = true) ∧
    (∃ s : State, ∃ v : Vcs, ∃ off : Nat, s.clk.mgmtUp = true ∧ s.userReached v.val = true ∧ off % 8 = 0) ∧
    (∃ s : State, ∃ v : Vcs, ∃ off : Nat, ∃ n : Nat, ((n = 8 ∧ off % 8 ≠ 0) ∨ (n = 4 ∧ off % 4 ≠ 0) ∨ (n ≠ 4 ∧ n ≠ 8) ∨ s.userReached v.val = false)) ∧
    (∃ s : State, ∃ k : Fin 16, s.clk.mgmtUp = true ∧ s.flag (Fld.PERF_OVF_SEL_EN k.val) = true ∧ (k.val ∉ s.perf.disarmed) ∧ (s.liveCounter (s.get (Fld.PERF_OVF_SEL_PAGE k.val)) (s.get (Fld.PERF_OVF_SEL_INDEX k.val)) + 2 ^ 64 - s.get64 (Addr.PERF_OVF_THR_LO k.val)) % 2 ^ 64 < 2 ^ 63 ∧ s.get (Evt.PERF_SAMPLE k.val).field = 0) ∧
    (∃ s : State, ∃ x : LatSample, s.clk.mgmtUp = true ∧ s.flag Fld.PERF_LAT_CFG_EN = true ∧ x.discarded = false ∧ x.skipped = false) ∧
    (∃ s : State, ∃ m : Master, s.takes m 0x0A = true) ∧
    (∃ s : State, ∃ m : Master, s.takes m 0x0A = true) ∧
    (∃ s : State, ∃ m : Master, s.takes m 0x0A = true ∧ s.flag Fld.PERF_RING_CFG_EN = true ∧ s.clk.fabricHeld = false ∧ s.fab.stage.length < 1024) ∧
    (∃ s : State, ∃ m : Master, s.takes m 0x0A = true ∧ s.flag Fld.PERF_RING_CFG_EN = true ∧ s.clk.fabricHeld = false ∧ 1024 ≤ s.fab.stage.length) ∧
    (∃ s : State, ∃ j : Fin 48, s.clk.mgmtUp = true ∧ s.flag Fld.PERF_RING_CFG_EN = true ∧ s.clk.fabricHeld = false ∧ s.flag Fld.PERF_RING_CFG_EXPORT = true ∧ bitsOf (s.word (Addr.PERF_EXP j.val)).toNat 31 1 = 1 ∧ (∀ i : Fin 48, j < i → bitsOf (s.word (Addr.PERF_EXP i.val)).toNat 31 1 = 0) ∧ s.fab.stage.length + 8 ≤ 1024) ∧
    (∃ s : State, ∃ m : Master, s.takes m 0x0A = true) ∧
    (∃ s : State, s.clk.mgmtUp = true ∧ s.perf.fetching = true) :=
  ⟨⟨(ready.puts [(Fld.PERF_SNAP_CTL_BUSY 2, 0)]).count (Ctr.PORT 0 0) 5, .keeper 0, 2, 0x13F00, by decide +kernel⟩,
    ⟨ready.puts [(Fld.PERF_SNAP_CTL_BUSY 2, 1)], 2, by decide +kernel⟩,
    ⟨ready.puts [(Fld.VCS_ENTRY_CFG_EN 3, 1), (Fld.TDM_ROLE_STATE, 0)], 3, 1024, by decide +kernel⟩,
    ⟨ready, 3, 3, 4, by decide +kernel⟩,
    ⟨((((ready.put64 (Addr.PERF_OVF_THR_LO 3) 3).puts [(Fld.PERF_OVF_SEL_EN 3, 1), (Fld.PERF_OVF_SEL_PAGE 3, 1), (Fld.PERF_OVF_SEL_INDEX 3, 0), ((Evt.PERF_SAMPLE 3).field, 0)]).count (Ctr.PORT 0 0) 5)), 3, by decide +kernel⟩,
    ⟨ready.puts [(Fld.PERF_LAT_CFG_EN, 1), (Fld.PERF_HIST_CFG_EN 2, 1), (Fld.PERF_HIST_CFG_IN_ANY 2, 1), (Fld.PERF_HIST_CFG_OUT_ANY 2, 1), (Fld.PERF_HIST_CFG_SVC 2, 255)], ⟨1, 2, 0, 5, 300, 700, false, false⟩, by decide +kernel⟩,
    ⟨ready, .keeper 0, by decide +kernel⟩,
    ⟨ready, .keeper 0, by decide +kernel⟩,
    ⟨{ ready.puts [(Fld.PERF_RING_CFG_EN, 1), (Fld.PERF_RING_CFG_EXPORT, 1), (Fld.COMB_PART_ACT_SIZES, 0xFFFFFFF)] with fab := { ready.fab with stage := [] } }, .keeper 0, by decide +kernel⟩,
    ⟨{ ready.puts [(Fld.PERF_RING_CFG_EN, 1), (Fld.PERF_RING_CFG_EXPORT, 1), (Fld.COMB_PART_ACT_SIZES, 0xFFFFFFF)] with fab := { ready.fab with stage := List.replicate 1024 ⟨4, 0, 0, []⟩ } }, .keeper 0, by decide +kernel⟩,
    ⟨(List.range 48).foldl (fun (s : State) i => s.setWord (Addr.PERF_EXP i) (if i == 7 then 0x80000001 else 0)) ({ ready.puts [(Fld.PERF_RING_CFG_EN, 1), (Fld.PERF_RING_CFG_EXPORT, 1), (Fld.COMB_PART_ACT_SIZES, 0xFFFFFFF)] with fab := { ready.fab with stage := [] } }), 7, by decide +kernel⟩,
    ⟨ready, .keeper 0, by decide +kernel⟩,
    ⟨{ (ready.puts [(Fld.COMB_PART_ACT_SIZES, 0xFFFFFFF)]) with perf := { ready.perf with fetching := true } }, by decide +kernel⟩⟩

theorem test_meets_EhrurnLink :
    (∃ s : State, ∃ k : Tile, s.fabricRuns = true ∧ s.slotFree k.val (2 * k.val + 1) = true) ∧
    (∃ s : State, ∃ k : Tile, s.fabricRuns = true ∧ s.slotFree k.val (2 * k.val) = true ∧ s.fab.sw.waiting = []) ∧
    (∃ s : State, ∃ k : Tile, ∃ x : EhrBeat, ∃ r : List EhrBeat, ∃ j : Nat, ∃ l : List (Nat × Nat), s.fabricRuns = true ∧ s.get (Fld.EHR_STATUS_STATE k.val) = 2 ∧ slotIntact ((assoc (mget EhrDir.reset s.fab.sw.ehr (2 * k.val)).grants (mget EhrDir.reset s.fab.sw.ehr (2 * k.val)).expect).getD 0) (x :: r) = true ∧ x.seq = (mget EhrDir.reset s.fab.sw.ehr (2 * k.val)).expect ∧ x.ackType = 1 ∧ (mget EhrDir.reset s.fab.sw.ehr (2 * k.val + 1)).unacked = (x.ackSeq, j) :: l) ∧
    (∃ s : State, ∃ k : Tile, ∃ x : EhrBeat, ∃ r : List EhrBeat, s.fabricRuns = true ∧ s.get (Fld.EHR_STATUS_STATE k.val) = 2 ∧ slotIntact ((assoc (mget EhrDir.reset s.fab.sw.ehr (2 * k.val)).grants (mget EhrDir.reset s.fab.sw.ehr (2 * k.val)).expect).getD 0) (x :: r) = false) ∧
    (∃ s : State, ∃ k : Tile, ∃ a : BitVec 12, ∃ j : Nat, ∃ l : List (Nat × Nat), s.fabricRuns = true ∧ (mget EhrDir.reset s.fab.sw.ehr (2 * k.val)).unacked = (a.toNat, j) :: l ∧ l.head?.map (·.1) = some ((a.toNat + 1) % 4096) ∧ (∀ e ∈ l, e.2 < 4)) ∧
    (∃ s : State, ∃ k : Tile, ∃ l : List (Nat × Nat), s.fabricRuns = true ∧ (mget EhrDir.reset s.fab.sw.ehr (2 * k.val)).unacked = l ∧ l ≠ [] ∧ (∀ e ∈ l, e.2 < 4)) ∧
    (∃ s : State, ∃ k : Tile, ∃ l : List (Nat × Nat), s.fabricRuns = true ∧ s.clk.stopHeld = false ∧ s.clk.startFail = false ∧ (mget EhrDir.reset s.fab.sw.ehr (2 * k.val)).unacked = l ∧ (∃ e ∈ l, 4 ≤ e.2)) ∧
    (∃ s : State, ∃ k : Tile, s.fabricRuns = true ∧ s.clk.stopHeld = false ∧ s.clk.startFail = false ∧ (mget EhrDir.reset s.fab.sw.ehr (2 * k.val)).unacked ≠ []) :=
  ⟨⟨ready.twoSent, 1, by decide +kernel⟩,
    ⟨ready.twoSent, 1, by decide +kernel⟩,
    ⟨ready.twoSent, 1, demoBeat 9 1 1, [], 1, [], by decide +kernel⟩,
    ⟨ready.twoSent, 1, { demoBeat 9 1 1 with crc := 0 }, [], by decide +kernel⟩,
    ⟨ready.twoSent, 1, 3, 1, [(4, 1)], by decide +kernel⟩,
    ⟨ready.twoSent, 1, [(3, 1), (4, 1)], by decide +kernel⟩,
    ⟨ready.sw fun w => { w with ehr := [(2, { EhrDir.reset with unacked := [(3, 4)] })] }, 1, [(3, 4)], by decide +kernel⟩,
    ⟨ready.twoSent, 1, by decide +kernel⟩⟩

theorem test_meets_SwitchOutput :
    (∃ s : State, ∃ k : Tile, ∃ m : Msg, ∃ o : Nat, ∃ u : State, s.fabricRuns = true ∧ s.slotFree k.val (2 * k.val) = true ∧ s.fab.sw.waiting = [m] ∧ o < 4 ∧ ownerOf k.val o m = true ∧ (∀ i : Fin 4, nth (mget EhrDir.reset s.fab.sw.ehr (2 * k.val)).beats i.val = 0) ∧ (s.begin.unwait m).admitMsg m = some u ∧ u.fab.sw.waiting = []) ∧
    (∃ s : State, ∃ p : Fin 68, ∃ q : Svc, s.fabricRuns = true ∧ (s.fab.sw.waiting.any fun m => m.src == p.val && m.svc == q.val) = true) ∧
    (∃ s : State, ∃ g : Pg, ∃ e : CoreError, ∃ m : Msg, ∃ r : List Msg, s.fabricRuns = true ∧ e.fatalKind = none ∧ mget [] s.fab.sw.priv g.val = m :: r ∧ (∀ j : Fin 4, s.dsxTx (4 * g.val + j.val) ≠ 3) ∧ s.dsxTx m.dst < 2 ∧ (s.linkUp m.dst = false ∨ s.flows m.dst = true)) ∧
    (∃ s : State, ∃ g : Pg, ∃ e : CoreError, ∃ m : Msg, ∃ r : List Msg, s.fabricRuns = true ∧ e.fatalKind = none ∧ mget [] s.fab.sw.priv g.val = m :: r ∧ (∀ j : Fin 4, s.dsxTx (4 * g.val + j.val) ≠ 3) ∧ s.linkUp m.dst = true ∧ s.get (Fld.PORT_STATUS_LINK m.dst) = 6) ∧
    (∃ s : State, ∃ g : Pg, ∃ p : Port, ∃ e : CoreError, s.fabricRuns = true ∧ e.fatalKind = none ∧ p.val / 4 = g.val ∧ s.dsxTx p.val = 3 ∧ s.txQueueEmpty p.val = false) ∧
    (∃ s : State, ∃ g : Pg, ∃ same : Bool, ∃ l : List Stall, ∃ p : Nat, ∃ x : List Active, ∃ q : Nat, ∃ y : List Active, ∃ e : SEntry, s.fabricRuns = true ∧ mget [] s.fab.sw.priv g.val = [] ∧ (∀ j : Fin 4, s.dsxTx (4 * g.val + j.val) ≠ 3) ∧ s.dsxTx e.msg.dst < 2 ∧ (s.begin.inCycle same g.val).pickGroup l g.val = some (p, x, q, y, e)) ∧
    (∃ s : State, ∃ g : Pg, ∃ err : CoreError, ∃ same : Bool, ∃ l : List Stall, ∃ p : Nat, ∃ x : List Active, ∃ q : Nat, ∃ y : List Active, ∃ e : SEntry, s.fabricRuns = true ∧ err.fatalKind = none ∧ mget [] s.fab.sw.priv g.val = [] ∧ (∀ j : Fin 4, s.dsxTx (4 * g.val + j.val) ≠ 3) ∧ s.dsxTx e.msg.dst < 2 ∧ (s.begin.inCycle same g.val).pickGroup l g.val = some (p, x, q, y, e)) ∧
    (∃ s : State, ∃ e : CoreError, s.fabricRuns = true ∧ s.clk.stopHeld = false ∧ s.clk.startFail = false ∧ e.fatalKind ≠ none) ∧
    (∃ s : State, ∃ p : Port, ∃ q : Svc, ∃ u : SubId, ∃ e : SEntry, s.fabricRuns = true ∧ (s.strand p.val q.val u.val).msgs.head? = some e ∧ s.subAllows u.val q.val e.msg.len = false) ∧
    (∃ s : State, ∃ m : Msg, ∃ r : List (List Msg), s.fabricRuns = true ∧ s.fab.sw.fan = [m] :: r ∧ (s.linkUp m.dst = true ∨ 64 ≤ m.dst) ∧ s.hasCredits [m] = true) ∧
    (∃ s : State, ∃ l : List Msg, ∃ r : List (List Msg), s.fabricRuns = true ∧ s.fab.sw.fan = l :: r ∧ s.hasCredits l = false) ∧
    (∃ s : State, ∃ m : Master, s.fabricRuns = true ∧ s.takes m 0x30 = true) ∧
    (∃ s : State, ∃ m : Master, s.fabricRuns = true ∧ s.takes m 0x31 = true) :=
  ⟨⟨(ready.twoSent.sw fun w => { w with waiting := [{ demoRead with src := 16, dst := 65 }] }), 1, { demoRead with src := 16, dst := 65 }, 0, (match (((ready.twoSent.sw fun w => { w with waiting := [{ demoRead with src := 16, dst := 65 }] })).begin.unwait { demoRead with src := 16, dst := 65 }).admitMsg { demoRead with src := 16, dst := 65 } with | some u => u | none => ((ready.twoSent.sw fun w => { w with waiting := [{ demoRead with src := 16, dst := 65 }] })).begin), by decide +kernel⟩,
    ⟨ready.sw fun w => { w with waiting := [demoRead] }, 0, 2, by decide +kernel⟩,
    ⟨ready.sw fun w => { w with priv := [(0, [demoRead])] }, 0, .clean, demoRead, [], by decide +kernel⟩,
    ⟨{ (ready.put (Fld.PORT_STATUS_LINK 1) 6).oneQueued.sw (fun w => { w with priv := [(0, [demoRead])] }) with pending := ready.pending }, 0, .clean, demoRead, [], by decide +kernel⟩,
    ⟨(ready.put (Fld.PORT_DSX_STATUS_TX 1) 3).oneQueued, 0, 1, .clean, by decide +kernel⟩,
    ⟨ready.oneQueued, 0, false, [], (match ((ready.oneQueued).begin.inCycle false 0).pickGroup [] 0 with | some r => r.1 | none => 0), (match ((ready.oneQueued).begin.inCycle false 0).pickGroup [] 0 with | some r => r.2.1 | none => []), (match ((ready.oneQueued).begin.inCycle false 0).pickGroup [] 0 with | some r => r.2.2.1 | none => 0), (match ((ready.oneQueued).begin.inCycle false 0).pickGroup [] 0 with | some r => r.2.2.2.1 | none => []), ⟨demoRead, none, 0, 1⟩, by decide +kernel⟩,
    ⟨ready.oneQueued, 0, .cellUe, false, [], (match ((ready.oneQueued).begin.inCycle false 0).pickGroup [] 0 with | some r => r.1 | none => 0), (match ((ready.oneQueued).begin.inCycle false 0).pickGroup [] 0 with | some r => r.2.1 | none => []), (match ((ready.oneQueued).begin.inCycle false 0).pickGroup [] 0 with | some r => r.2.2.1 | none => 0), (match ((ready.oneQueued).begin.inCycle false 0).pickGroup [] 0 with | some r => r.2.2.2.1 | none => []), ⟨demoRead, none, 0, 1⟩, by decide +kernel⟩,
    ⟨ready, .hdrUe, by decide +kernel⟩,
    ⟨ready.oneQueued.sw fun w => { w with subBkt := [(5, { Bucket.off with cfg := { BucketCfg.off with en := true }, count := -1 })] }, 1, 2, 5, ⟨demoRead, none, 0, 1⟩, by decide +kernel⟩,
    ⟨(ready.oneQueued.sw fun w => { w with fan := [[demoRead]] }), demoRead, [], by decide +kernel⟩,
    ⟨ready.sw fun w => { w with fan := [[demoRead]], priv := [(0, List.replicate 128 demoRead)] }, [demoRead], [], by decide +kernel⟩,
    ⟨ready, .keeper 0, by decide +kernel⟩,
    ⟨ready, .keeper 0, by decide +kernel⟩⟩

theorem test_meets_TokenBuckets :
    (∃ s : State, s.fabricRuns = true) ∧
    (∃ s : State, s.fabricRuns = true) ∧
    (∃ s : State, s.fabricRuns = true) ∧
    (∃ s : State, ∃ m : Master, ∃ u : SubId, s.takes m (0x402 + u.val / 1024) = true ∧ burstOk (s.get (Fld.SUB_SHP_BURST_BURST u.val)) = true ∧ s.get64 (Addr.SUB_SHP_RATE_LO u.val) / 2 ^ 32 ≤ 0x10000) ∧
    (∃ s : State, ∃ m : Master, ∃ u : SubId, s.takes m (0x402 + u.val / 1024) = true ∧ burstOk (s.get (Fld.SUB_POL_CBS_CBS u.val)) = true ∧ burstOk (s.get (Fld.SUB_POL_PBS_PBS u.val)) = true ∧ s.get64 (Addr.SUB_POL_CIR_LO u.val) ≤ s.get64 (Addr.SUB_POL_PIR_LO u.val) ∧ s.get64 (Addr.SUB_POL_PIR_LO u.val) / 2 ^ 32 ≤ 0x10000) :=
  ⟨⟨ready.sw fun w => { w with subBkt := [(5, { Bucket.off with next := some { BucketCfg.off with en := true, rate := 4294967296 } })] }, by decide +kernel⟩,
    ⟨ready.sw fun w => { w with portBkt := [(5, { Bucket.off with next := some BucketCfg.off })] }, by decide +kernel⟩,
    ⟨ready.sw fun w => { w with polBkt := [(4096 * 2 + 5, { Bucket.off with next := some BucketCfg.off })] }, by decide +kernel⟩,
    ⟨((ready.put64 (Addr.SUB_SHP_RATE_LO 5) 4294967296).puts [(Fld.SUB_SHP_BURST_BURST 5, 4096)]), .keeper 0, 5, by decide +kernel⟩,
    ⟨(((ready.put64 (Addr.SUB_POL_CIR_LO 5) 4294967296).put64 (Addr.SUB_POL_PIR_LO 5) 8589934592).puts [(Fld.SUB_POL_CBS_CBS 5, 4096), (Fld.SUB_POL_PBS_PBS 5, 4096)]), .keeper 0, 5, by decide +kernel⟩⟩

theorem test_meets_RuleCommits :
    (∃ s : State, ∃ m : Master, ∃ n : Rule, s.takes m (0x500 + n.val / 1024) = true ∧ s.isActive = true ∧ s.flag Fld.HAT_STATUS_COMMIT_DONE = true) ∧
    (∃ s : State, ∃ m : Master, ∃ n : Rule, s.takes m (0x500 + n.val / 1024) = true ∧ s.isActive = true ∧ s.flag Fld.HAT_STATUS_COMMIT_DONE = false) ∧
    (∃ s : State, ∃ m : Master, ∃ value : Word, s.takes m 0x50 = true ∧ value.getLsbD 0 = true ∧ s.isActive = true ∧ s.flag Fld.HAT_STATUS_COMMIT_DONE = true ∧ s.badRules = []) ∧
    (∃ s : State, ∃ m : Master, ∃ value : Word, s.takes m 0x50 = true ∧ value.getLsbD 0 = true ∧ s.isActive = true ∧ s.flag Fld.HAT_STATUS_COMMIT_DONE = true ∧ s.badRules ≠ []) ∧
    (∃ s : State, ∃ m : Master, ∃ value : Word, s.takes m 0x50 = true ∧ value.getLsbD 0 = true ∧ (s.isActive = false ∨ s.flag Fld.HAT_STATUS_COMMIT_DONE = false)) ∧
    (∃ s : State, s.fabricRuns = true) ∧
    (∃ s : State, s.fabricRuns = true ∧ s.flag Fld.HAT_STATUS_COMMIT_DONE = false) ∧
    (∃ s : State, s.fabricRuns = true ∧ s.flag Fld.HAT_STATUS_COMMIT_DONE = false ∧ s.fab.hat.tilesOld = [] ∧ s.fab.hat.refilled = true ∧ s.oldMsgs = []) ∧
    (∃ s : State, s.fabricRuns = true ∧ s.flag Fld.HAT_STATUS_COMMIT_DONE = false) :=
  ⟨⟨ready.puts [(Fld.HAT_STATUS_COMMIT_DONE, 1), (Fld.TDM_ROLE_STATE, 0)], .keeper 0, 70, by decide +kernel⟩,
    ⟨ready.puts [(Fld.HAT_STATUS_COMMIT_DONE, 0), (Fld.TDM_ROLE_STATE, 0)], .keeper 0, 70, by decide +kernel⟩,
    ⟨({ ready with regs := [] } : State).puts [(Fld.HAT_STATUS_COMMIT_DONE, 1)], .keeper 0, 1, by decide +kernel⟩,
    ⟨ready.puts [(Fld.HAT_STATUS_COMMIT_DONE, 1), (Fld.TDM_ROLE_STATE, 0), (Fld.RULE_CTL_EN 0, 1), (Fld.RULE_CTL_ASPACE 0, 3)], .keeper 0, 1, by decide +kernel⟩,
    ⟨ready.puts [(Fld.HAT_STATUS_COMMIT_DONE, 0)], .keeper 0, 1, by decide +kernel⟩,
    ⟨ready, by decide +kernel⟩,
    ⟨ready.puts [(Fld.HAT_STATUS_COMMIT_DONE, 0)], by decide +kernel⟩,
    ⟨ready.puts [(Fld.HAT_STATUS_COMMIT_DONE, 0)], by decide +kernel⟩,
    ⟨(ready.puts [(Fld.HAT_STATUS_COMMIT_DONE, 0), (Fld.HAT_STATUS_EPOCH, 3)]).sw fun w => { w with waiting := [{ demoRead with epoch := some 2 }] }, by decide +kernel⟩⟩

theorem test_meets_DirtyLogs :
    (∃ s : State, ∃ m : Master, ∃ n : Log, ∃ value : Word, s.takes m 0x91 = true ∧ s.flag (Fld.LOG_CFG_EN n.val) = false ∧ value.getLsbD 0 = true ∧ s.isActive = true ∧ (s.puts [(Fld.LOG_CFG_KIND n.val, bitsOf value.toNat 1 1), (Fld.LOG_CFG_VCS n.val, bitsOf value.toNat 2 6), (Fld.LOG_CFG_OWNER n.val, bitsOf value.toNat 8 12), (Fld.LOG_CFG_HVCS n.val, bitsOf value.toNat 20 6), (Fld.LOG_CFG_HACC n.val, bitsOf value.toNat 26 1)]).logOk n.val = true) ∧
    (∃ s : State, ∃ m : Master, ∃ n : Log, ∃ value : Word, s.takes m 0x91 = true ∧ s.flag (Fld.LOG_CFG_EN n.val) = false ∧ value.getLsbD 0 = true ∧ s.flag Fld.DLOG_CFG_EN = false) ∧
    (∃ s : State, ∃ m : Master, ∃ n : Log, ∃ value : Word, s.takes m 0x91 = true ∧ s.flag (Fld.LOG_CFG_EN n.val) = true ∧ value.getLsbD 0 = false) ∧
    (∃ s : State, ∃ n : Log, s.fabricRuns = true ∧ s.flag (Fld.LOG_CFG_EN n.val) = true ∧ s.flag (Fld.LOG_STATUS_ACTIVE n.val) = false) ∧
    (∃ s : State, ∃ l : Nat, ∃ o : Msg, ∃ m : Msg, ∃ n : Nat, ∃ b : Nat, s.fabricRuns = true ∧ s.fab.dlog.waiting = [(o, m)] ∧ s.logsOf o = [(n, l, b)]) ∧
    (∃ s : State, ∃ m : Master, ∃ value : Word, s.takes m 0x91 = true ∧ s.fab.dlog.harvest = none ∧ s.get Fld.DLOG_HSTART_LINE + (bitsOf value.toNat 8 6 + 1) ≤ s.get (Fld.LOG_LINES_LINES (bitsOf value.toNat 0 6))) ∧
    (∃ s : State, ∃ m : Master, ∃ value : Word, s.takes m 0x91 = true ∧ (s.fab.dlog.harvest.isSome = true ∨ s.get (Fld.LOG_LINES_LINES (bitsOf value.toNat 0 6)) < s.get Fld.DLOG_HSTART_LINE + (bitsOf value.toNat 8 6 + 1))) ∧
    (∃ s : State, ∃ n : Nat, ∃ first : Nat, ∃ count : Nat, s.fabricRuns = true ∧ s.fab.dlog.harvest = some (n, first, count) ∧ count ≤ 64) :=
  ⟨⟨((List.range 64).foldl (fun (x : State) n => x.puts [(Fld.LOG_CFG_EN n, 0), (Fld.LOG_STATUS_ACTIVE n, 0)]) ready).puts [(Fld.TDM_ROLE_STATE, 0), (Fld.DLOG_CFG_EN, 1), (Fld.LOG_LINES_LINES 2, 4), (Fld.LOG_OFF_OFF 2, 0), (Fld.COMB_PART_ACT_SIZES, 0x10), (Fld.VCS_ENTRY_CFG_EN 0, 1)], .keeper 0, 2, 1, by decide +kernel⟩,
    ⟨ready.puts [(Fld.DLOG_CFG_EN, 0), (Fld.LOG_CFG_EN 2, 0)], .keeper 0, 2, 1, by decide +kernel⟩,
    ⟨ready.puts [(Fld.LOG_CFG_EN 2, 1)], .keeper 0, 2, 0, by decide +kernel⟩,
    ⟨ready.puts [(Fld.LOG_CFG_EN 2, 1), (Fld.LOG_STATUS_ACTIVE 2, 0)], 2, by decide +kernel⟩,
    ⟨{ (((List.range 64).foldl (fun (x : State) n => x.puts [(Fld.LOG_CFG_EN n, 0), (Fld.LOG_STATUS_ACTIVE n, 0)]) ready).puts [(Fld.TDM_ROLE_STATE, 0), (Fld.DLOG_CFG_EN, 1), (Fld.LOG_LINES_LINES 2, 4), (Fld.LOG_OFF_OFF 2, 0), (Fld.COMB_PART_ACT_SIZES, 0x10), (Fld.VCS_ENTRY_CFG_EN 0, 1)]).puts [(Fld.LOG_CFG_EN 2, 1), (Fld.LOG_STATUS_ACTIVE 2, 1), (Fld.LOG_CFG_KIND 2, 0), (Fld.LOG_CFG_VCS 2, 0), (Fld.LOG_CFG_OWNER 2, 9), (Fld.LOG_BASE_LO_BASE 2, 0), (Fld.LOG_BASE_HI_BASE 2, 0)] with fab := { ready.fab with dlog := { Dlog.reset with waiting := [({ kind := .memWr, svc := 3, sub := 9, src := 0, dst := 1, addr := 4096 * 3, vcs := some 0, data := List.replicate 64 1 }, { kind := .memWr, svc := 3, sub := 9, src := 0, dst := 1, addr := 4096 * 3, vcs := some 0, data := List.replicate 64 1 })] } } }, 0, { kind := .memWr, svc := 3, sub := 9, src := 0, dst := 1, addr := 4096 * 3, vcs := some 0, data := List.replicate 64 1 }, { kind := .memWr, svc := 3, sub := 9, src := 0, dst := 1, addr := 4096 * 3, vcs := some 0, data := List.replicate 64 1 }, 2, 3, by decide +kernel⟩,
    ⟨ready.puts [(Fld.LOG_LINES_LINES 2, 8), (Fld.DLOG_HSTART_LINE, 1)], .keeper 0, 0x102, by decide +kernel⟩,
    ⟨ready.puts [(Fld.LOG_LINES_LINES 2, 2), (Fld.DLOG_HSTART_LINE, 1)], .keeper 0, 0x102, by decide +kernel⟩,
    ⟨{ ready with fab := { ready.fab with dlog := { Dlog.reset with harvest := some (2, 1, 2), touch := [1], lines := [(1, 5)] } } }, 2, 1, 2, by decide +kernel⟩⟩

theorem test_meets_CombAndPool :
    (∃ s : State, s.fabricRuns = true ∧ s.clk.stopHeld = false ∧ s.clk.startFail = false) ∧
    (∃ s : State, s.fabricRuns = true ∧ s.clk.stopHeld = false ∧ s.clk.startFail = false) ∧
    (∃ s : State, s.fabricRuns = true ∧ s.get Fld.COMB_STATUS_STATE = 3 ∧ s.flag Fld.COMB_SCRUB_CFG_EN = true) ∧
    (∃ s : State, s.fabricRuns = true) ∧
    (∃ s : State, ∃ m : Msg, ∃ r : List Msg, s.fabricRuns = true ∧ s.get Fld.COMB_STATUS_STATE = 3 ∧ mget [] s.fab.sw.iep 1 = m :: r ∧ m.kind = .memWr) ∧
    (∃ s : State, ∃ m : Msg, ∃ r : List Msg, s.fabricRuns = true ∧ s.get Fld.COMB_STATUS_STATE = 3 ∧ mget [] s.fab.sw.iep 1 = m :: r ∧ m.kind = .memRd) ∧
    (∃ s : State, ∃ m : Master, ∃ n : Fin 64, ∃ value : Word, s.takes m 0x82 = true ∧ s.isActive = true ∧ s.flag (Fld.POOL_WIN_CFG_EN n.val) = false ∧ value.getLsbD 0 = true ∧ bitsOf value.toNat 1 3 ≤ 5 ∧ (s.puts [(Fld.POOL_WIN_CFG_SIZE n.val, bitsOf value.toNat 1 3), (Fld.POOL_WIN_CFG_VCS n.val, bitsOf value.toNat 4 6), (Fld.POOL_WIN_CFG_OFF n.val, bitsOf value.toNat 16 5)]).poolWinOk n.val = true) ∧
    (∃ s : State, ∃ m : Master, ∃ n : Fin 64, ∃ value : Word, s.takes m 0x82 = true ∧ s.isActive = true ∧ s.flag (Fld.POOL_WIN_CFG_EN n.val) = true ∧ value.getLsbD 0 = false) ∧
    (∃ s : State, ∃ m : Master, s.takes m 0x81 = true) :=
  ⟨⟨ready, by decide +kernel⟩,
    ⟨ready, by decide +kernel⟩,
    ⟨ready.puts [(Fld.COMB_STATUS_STATE, 3), (Fld.COMB_SCRUB_CFG_EN, 1)], by decide +kernel⟩,
    ⟨ready, by decide +kernel⟩,
    ⟨((ready.puts [(Fld.COMB_STATUS_STATE, 3)]).sw fun w => { w with iep := [(1, [{ kind := .memWr, svc := 3, src := 0, dst := 65, addr := 128, data := List.replicate 64 7 }])] }), { kind := .memWr, svc := 3, src := 0, dst := 65, addr := 128, data := List.replicate 64 7 }, [], by decide +kernel⟩,
    ⟨((ready.puts [(Fld.COMB_STATUS_STATE, 3)]).sw fun w => { w with iep := [(1, [{ kind := .memRd, svc := 2, src := 0, dst := 65, addr := 128 }])] }), { kind := .memRd, svc := 2, src := 0, dst := 65, addr := 128 }, [], by decide +kernel⟩,
    ⟨({ ready with regs := [] } : State).puts [(Fld.POOL_CFG_EN, 1), (Fld.VCS_ENTRY_CFG_EN 0, 1), (Fld.COMB_POOL_SIZE, 200), (Fld.POOL_WIN_CFG_EN 2, 0)], .keeper 0, 2, 1, by decide +kernel⟩,
    ⟨ready.puts [(Fld.POOL_WIN_CFG_EN 2, 1)], .keeper 0, 2, 0, by decide +kernel⟩,
    ⟨ready, .keeper 0, by decide +kernel⟩⟩

theorem test_meets_CombArbiter :
    (∃ s : State, ∃ ch : Fin 8, ∃ l : List CombReq, ∃ w : CombReq, s.fabricRuns = true ∧ s.get Fld.COMB_STATUS_STATE = 3 ∧ (s.chan ch.val).owner = none ∧ (l.map (·.client)).Nodup ∧ (∀ r ∈ l, ((s.chan ch.val).client r.client.val).backoff = false) ∧ (∀ r ∈ l, s.inBounds r.client.val r.addr.toNat = true) ∧ (s.chan ch.val).winner l = some w) ∧
    (∃ s : State, ∃ ch : Fin 8, ∃ r : CombReq, s.fabricRuns = true ∧ s.get Fld.COMB_STATUS_STATE = 3 ∧ s.clk.stopHeld = false ∧ s.clk.startFail = false ∧ (s.chan ch.val).owner = none ∧ ((s.chan ch.val).client r.client.val).backoff = false ∧ s.inBounds r.client.val r.addr.toNat = false) ∧
    (∃ s : State, s.fabricRuns = true ∧ s.get Fld.COMB_STATUS_STATE = 3) ∧
    (∃ s : State, ∃ ch : Fin 8, ∃ k : Nat, ∃ limit : Nat, s.fabricRuns = true ∧ s.get Fld.COMB_STATUS_STATE = 3 ∧ (s.chan ch.val).owner = some (k, limit)) ∧
    (∃ s : State, ∃ ch : Fin 8, ∃ k : Nat, ∃ limit : Nat, ∃ a : Nat, s.fabricRuns = true ∧ s.get Fld.COMB_STATUS_STATE = 3 ∧ (s.chan ch.val).owner = some (k, limit) ∧ k < 9 ∧ s.inBounds k (a % 2 ^ 34) = true ∧ a % 2 ^ 34 / 256 % 8 = ch.val) ∧
    (∃ s : State, ∃ ch : Fin 8, ∃ k : Nat, ∃ limit : Nat, ∃ a : Nat, s.fabricRuns = true ∧ s.get Fld.COMB_STATUS_STATE = 3 ∧ (s.chan ch.val).owner = some (k, limit) ∧ k < 9 ∧ s.inBounds k (a % 2 ^ 34) = true ∧ a % 2 ^ 34 / 256 % 8 = ch.val ∧ s.partOf (a % 2 ^ 34) = 5 ∧ (mget [] s.fab.comb.ues (pcOf (a % 2 ^ 34))).length < 15) :=
  ⟨⟨((ready.puts [(Fld.COMB_STATUS_STATE, 3)]).put Fld.COMB_PART_ACT_SIZES 1), 3, [⟨6, 0, 0⟩, ⟨0, 64, 9⟩], ⟨0, 64, 9⟩, by decide +kernel⟩,
    ⟨((ready.puts [(Fld.COMB_STATUS_STATE, 3)]).put Fld.COMB_PART_ACT_SIZES 1), 3, ⟨2, 64, 9⟩, by decide +kernel⟩,
    ⟨(ready.puts [(Fld.COMB_STATUS_STATE, 3)]), by decide +kernel⟩,
    ⟨{ ((ready.puts [(Fld.COMB_STATUS_STATE, 3)]).put Fld.COMB_PART_ACT_SIZES 1) with fab := { ready.fab with comb := { Comb.reset with chans := [(3, { CombChan.idle with owner := some (6, 4) })] } } }, 3, 6, 4, by decide +kernel⟩,
    ⟨{ ((ready.puts [(Fld.COMB_STATUS_STATE, 3)]).put Fld.COMB_PART_ACT_SIZES 1) with fab := { ready.fab with comb := { Comb.reset with chans := [(3, { CombChan.idle with owner := some (6, 4) })] } } }, 3, 6, 4, 768, by decide +kernel⟩,
    ⟨{ ((ready.puts [(Fld.COMB_STATUS_STATE, 3)]).put Fld.COMB_PART_ACT_SIZES 1) with fab := { ready.fab with comb := { Comb.reset with chans := [(3, { CombChan.idle with owner := some (6, 4) })] } } }, 3, 6, 4, 0x40000300, by decide +kernel⟩⟩

theorem test_meets_HomeRequests :
    (∃ s : State, ∃ m : Msg, ∃ r : Nat, s.serving = true ∧ s.homeIdle = true ∧ mget [] s.fab.sw.iep 0 = [m] ∧ s.hiveState m.hive = 2 ∧ s.hasBuckets m.hive = false ∧ m.hslot = some r ∧ m.kind = .memRd ∧ m.mv = .a ∧ s.fab.home.dir = [] ∧ r < 64) ∧
    (∃ s : State, ∃ m : Msg, ∃ r : Nat, ∃ q : Nat, ∃ d : Bool, ∃ k : Nat, s.serving = true ∧ s.homeIdle = true ∧ mget [] s.fab.sw.iep 0 = [m] ∧ s.hiveState m.hive = 2 ∧ s.hasBuckets m.hive = false ∧ m.hslot = some r ∧ m.kind = .memRd ∧ m.mv = .a ∧ s.fab.home.dir = [(dirKey m.hive m.sector, ⟨⟨0, q, [0, 0, 0, 0].set m.line 2, s.hgen m.hive⟩, d, k⟩)] ∧ q ≠ r ∧ s.mayHold m.hive q = true ∧ q < 64) ∧
    (∃ s : State, ∃ m : Msg, ∃ r : Nat, s.serving = true ∧ s.homeIdle = true ∧ mget [] s.fab.sw.iep 0 = [m] ∧ s.hiveState m.hive = 2 ∧ s.hasBuckets m.hive = false ∧ m.hslot = some r ∧ m.kind = .memInv ∧ m.mv = .i ∧ s.fab.home.dir = []) ∧
    (∃ s : State, ∃ m : Msg, ∃ r : Nat, s.serving = true ∧ s.homeIdle = true ∧ mget [] s.fab.sw.iep 0 = [m] ∧ s.hiveState m.hive = 2 ∧ s.hasBuckets m.hive = false ∧ m.hslot = some r ∧ m.kind = .memWr ∧ m.mv = .i ∧ s.fab.home.dir = [] ∧ m.writeBack = false) ∧
    (∃ s : State, ∃ m : Msg, ∃ r : Nat, ∃ d : Bool, ∃ k : Nat, s.serving = true ∧ s.homeIdle = true ∧ mget [] s.fab.sw.iep 0 = [m] ∧ s.hiveState m.hive = 2 ∧ s.hasBuckets m.hive = false ∧ m.hslot = some r ∧ m.kind = .memClnEvct ∧ s.fab.home.dir = [(dirKey m.hive m.sector, ⟨⟨0, r, [0, 0, 0, 0].set m.line 2, s.hgen m.hive⟩, d, k⟩)]) ∧
    (∃ s : State, ∃ m : Msg, ∃ r : Nat, s.serving = true ∧ s.homeIdle = true ∧ mget [] s.fab.sw.iep 0 = [m] ∧ s.hiveState m.hive = 2 ∧ s.hasBuckets m.hive = false ∧ m.hslot = some r ∧ m.kind = .memSpecRd ∧ s.fab.home.dir = []) ∧
    (∃ s : State, ∃ m : Msg, ∃ r : Nat, s.serving = true ∧ s.homeIdle = true ∧ mget [] s.fab.sw.iep 0 = [m] ∧ s.hiveState m.hive = 2 ∧ s.hasBuckets m.hive = false ∧ m.hslot = some r ∧ m.kind = .biConflict ∧ s.fab.home.dir = []) ∧
    (∃ s : State, ∃ m : Msg, ∃ r : Nat, ∃ d : Bool, ∃ k : Nat, s.serving = true ∧ s.homeIdle = true ∧ mget [] s.fab.sw.iep 0 = [m] ∧ s.hiveState m.hive = 2 ∧ s.hasBuckets m.hive = false ∧ m.hslot = some r ∧ m.kind = .memWr ∧ m.mv = .i ∧ m.writeBack = true ∧ s.fab.home.dir = [(dirKey m.hive m.sector, ⟨⟨0, r, [0, 0, 0, 0].set m.line 2, s.hgen m.hive⟩, d, k⟩)]) :=
  ⟨⟨ready.hive0.atHome [(homeReq .memRd .a)], (homeReq .memRd .a), 0, by decide +kernel⟩,
    ⟨(ready.hive0.atHome [(homeReq .memRd .a)]).ownedBy 1, (homeReq .memRd .a), 0, 1, true, 0, by decide +kernel⟩,
    ⟨ready.hive0.atHome [(homeReq .memInv .i)], (homeReq .memInv .i), 0, by decide +kernel⟩,
    ⟨ready.hive0.atHome [(homeReq .memWr .i)], (homeReq .memWr .i), 0, by decide +kernel⟩,
    ⟨(ready.hive0.atHome [(homeReq .memClnEvct .noOp)]).ownedBy 0, (homeReq .memClnEvct .noOp), 0, true, 0, by decide +kernel⟩,
    ⟨ready.hive0.atHome [(homeReq .memSpecRd .noOp)], (homeReq .memSpecRd .noOp), 0, by decide +kernel⟩,
    ⟨ready.hive0.atHome [(homeReq .biConflict .noOp)], (homeReq .biConflict .noOp), 0, by decide +kernel⟩,
    ⟨(ready.hive0.atHome [{ (homeReq .memWr .i) with writeBack := true }]).ownedBy 0, { (homeReq .memWr .i) with writeBack := true }, 0, true, 0, by decide +kernel⟩⟩

theorem test_meets_HomeAnswers :
    (∃ s : State, ∃ m : Msg, ∃ r : Nat, ∃ a : Msg, ∃ n : SnoopSlot, ∃ q : Nat, ∃ d : Bool, ∃ k : Nat, s.serving = true ∧ mget [] s.fab.sw.iep 0 = [a] ∧ a.kind = .biRspI ∧ s.fab.home.snoops = [(a.tag % 4096, n)] ∧ n.stale = false ∧ n.mask = [q] ∧ s.senderSlot n.hive a = some q ∧ n.hive = m.hive ∧ n.sector = m.sector ∧ n.line = m.line ∧ s.noneLeaving m.hive = true ∧ s.hiveState m.hive = 2 ∧ s.fab.home.clearing = [] ∧ s.fab.home.fwd = [] ∧ s.fab.home.holds = [] ∧ s.fab.home.txns = [{ id := n.txn, hive := m.hive, sector := m.sector, lines := [m.line], kind := .request m, parked := false, snooped := [(m.line, true)], snoops := [a.tag % 4096], wbs := [], kept := [], forwarded := false, answered := false, queued := false, grants := false }] ∧ m.kind = .memRd ∧ m.mv = .a ∧ m.hslot = some r ∧ q ≠ r ∧ s.fab.home.dir = [(dirKey m.hive m.sector, ⟨⟨0, q, [0, 0, 0, 0].set m.line 2, s.hgen m.hive⟩, d, k⟩)]) ∧
    (∃ s : State, ∃ a : Msg, s.serving = true ∧ mget [] s.fab.sw.iep 0 = [a] ∧ a.kind.isBiRsp = true ∧ s.fab.home.snoops = []) ∧
    (∃ s : State, ∃ m : Msg, ∃ a : Msg, ∃ x : Txn, ∃ g : MsgKind, ∃ pas : Bool, s.serving = true ∧ mget [] s.fab.sw.iep 0 = [a] ∧ a.kind = .memData ∧ a.final = true ∧ s.fab.home.fwd = [(a.tag % 65536, ⟨false, m, g, false, some x.id, pas⟩)] ∧ m.kind = .memRd ∧ (s.routeOf m).1 = a.src ∧ (a.src ≠ 65 → (s.routeOf m).2.1 = a.ld) ∧ s.fab.home.txns = [x] ∧ x.wbs = [] ∧ x.forwarded = true ∧ s.noneLeaving m.hive = true ∧ (g = .cmpE ∨ g = .cmpS ∨ g = .cmp)) ∧
    (∃ s : State, ∃ m : Msg, ∃ r : Nat, ∃ h : Hive, ∃ i : Nat, ∃ j : Fin 4, ∃ x : Txn, s.serving = true ∧ s.fab.home.txns = [x] ∧ x.hive = h.val ∧ x.sector = i ∧ (j.val ∈ x.lines) ∧ x.answered = true ∧ x.kind = .request m ∧ m.hslot = some r ∧ x.grants = true ∧ s.get (Fld.HIVE_HOLD_HOLD_NS h.val) ≠ 0 ∧ s.noneLeaving h.val = true) ∧
    (∃ s : State, ∃ r : Nat, ∃ h : Hive, ∃ i : Nat, ∃ j : Fin 4, s.serving = true ∧ s.fab.home.holds = [⟨h.val, i, j.val, r⟩] ∧ s.noneLeaving h.val = true) ∧
    (∃ s : State, ∃ m : Msg, ∃ h : Hive, ∃ i : Nat, s.serving = true ∧ s.fab.home.queue = [m] ∧ s.fab.home.txns = [] ∧ s.fab.home.snoops = [] ∧ s.fab.home.holds = [] ∧ s.fab.home.dir = [] ∧ s.fab.home.clearing = [] ∧ s.hiveState h.val = 2 ∧ m.hive = h.val ∧ m.sector = i ∧ m.kind = .memInv ∧ m.mv = .i) ∧
    (∃ s : State, ∃ m : Msg, ∃ h : Hive, ∃ i : Nat, s.serving = true ∧ s.fab.home.fetches = [(h.val, i)] ∧ s.fab.home.lookups = [m] ∧ s.fab.home.txns = [] ∧ s.fab.home.queue = [] ∧ s.fab.home.snoops = [] ∧ s.fab.home.holds = [] ∧ s.fab.home.dir = [] ∧ s.fab.home.clearing = [] ∧ s.hiveState h.val = 2 ∧ m.hive = h.val ∧ m.sector = i ∧ m.kind = .memInv ∧ m.mv = .i) ∧
    (∃ s : State, ∃ k : Fin 4096, ∃ i : Slot, ∃ n : SnoopSlot, s.serving = true ∧ assoc s.fab.home.snoops k.val = some n ∧ n.stale = false ∧ (i.val ∈ n.mask) ∧ s.fab.sw.fan = [] ∧ s.hiveServes n.hive = true ∧ n.hive < 16) :=
  ⟨⟨((ready.hive0.atHome [{ kind := .biRspI, svc := 5, src := 4, dst := 64, tag := 5, vcs := some 1 }]).ownedBy 1).ho fun h => { h with txns := [{ homeTxn (homeReq .memRd .a) with snooped := [(1, true)], snoops := [5] }], snoops := [(5, ⟨false, 0, 3, 1, true, [1], 0⟩)], nextTxn := 1 }, (homeReq .memRd .a), 0, { kind := .biRspI, svc := 5, src := 4, dst := 64, tag := 5, vcs := some 1 }, ⟨false, 0, 3, 1, true, [1], 0⟩, 1, true, 0, by decide +kernel⟩,
    ⟨ready.hive0.atHome [{ kind := .biRspI, svc := 5, src := 4, dst := 64, tag := 5, vcs := some 1 }], { kind := .biRspI, svc := 5, src := 4, dst := 64, tag := 5, vcs := some 1 }, by decide +kernel⟩,
    ⟨(ready.hive0.atHome [{ kind := .memData, svc := 4, src := 2, dst := 64, tag := 9, data := List.replicate 64 3 }]).ho fun h => { h with txns := [{ homeTxn (homeReq .memRd .a) with forwarded := true }], fwd := [(9, ⟨false, (homeReq .memRd .a), .cmpE, false, some 0, false⟩)] }, (homeReq .memRd .a), { kind := .memData, svc := 4, src := 2, dst := 64, tag := 9, data := List.replicate 64 3 }, { homeTxn (homeReq .memRd .a) with forwarded := true }, .cmpE, false, by decide +kernel⟩,
    ⟨(ready.hive0.puts [(Fld.HIVE_HOLD_HOLD_NS 0, 50)]).ho fun h => { h with txns := [{ homeTxn (homeReq .memRd .a) with forwarded := true, answered := true, grants := true }] }, (homeReq .memRd .a), 0, 0, 3, 1, { homeTxn (homeReq .memRd .a) with forwarded := true, answered := true, grants := true }, by decide +kernel⟩,
    ⟨ready.hive0.ho fun h => { h with holds := [⟨0, 3, 1, 0⟩] }, 0, 0, 3, 1, by decide +kernel⟩,
    ⟨ready.hive0.ho fun h => { h with queue := [(homeReq .memInv .i)] }, (homeReq .memInv .i), 0, 3, by decide +kernel⟩,
    ⟨ready.hive0.ho fun h => { h with fetches := [(0, 3)], lookups := [(homeReq .memInv .i)] }, (homeReq .memInv .i), 0, 3, by decide +kernel⟩,
    ⟨ready.hive0.ho fun h => { h with snoops := [(5, ⟨false, 0, 3, 1, true, [1], 0⟩)] }, 5, 1, ⟨false, 0, 3, 1, true, [1], 0⟩, by decide +kernel⟩⟩

theorem test_meets_HomeProtection :
    (∃ s : State, ∃ m : Msg, ∃ e : DirSlot, s.serving = true ∧ mget [] s.fab.sw.iep 0 = [m] ∧ s.hiveServes m.hive = true ∧ m.hive < 16 ∧ assoc s.fab.home.dir (dirKey m.hive m.sector) = some e ∧ e.onDie = true ∧ m.kind = .memInv) ∧
    (∃ s : State, ∃ m : Msg, ∃ e : DirSlot, s.serving = true ∧ mget [] s.fab.sw.iep 0 = [m] ∧ s.hiveServes m.hive = true ∧ m.hive < 16 ∧ assoc s.fab.home.dir (dirKey m.hive m.sector) = some e ∧ e.onDie = true ∧ m.kind = .memInv ∧ mget 0 s.fab.home.bumps m.hive < 255) ∧
    (∃ s : State, s.serving = true ∧ s.clk.stopHeld = false ∧ s.clk.startFail = false) ∧
    (∃ s : State, s.serving = true ∧ s.clk.stopHeld = false ∧ s.clk.startFail = false) :=
  ⟨⟨(ready.hive0.atHome [(homeReq .memInv .i)]).ownedBy 1, (homeReq .memInv .i), ⟨⟨0, 1, [0, 2, 0, 0], 7⟩, true, 0⟩, by decide +kernel⟩,
    ⟨(ready.hive0.atHome [(homeReq .memInv .i)]).ownedBy 1, (homeReq .memInv .i), ⟨⟨0, 1, [0, 2, 0, 0], 7⟩, true, 0⟩, by decide +kernel⟩,
    ⟨ready, by decide +kernel⟩,
    ⟨ready, by decide +kernel⟩⟩

theorem test_meets_HiveStates :
    (∃ s : State, ∃ m : Master, ∃ h : Hive, s.takes m 0x70 = true ∧ s.isActive = true ∧ s.locked 0x70 = false ∧ s.hiveState h.val = 0 ∧ s.hiveCheck h.val = 0 ∧ mget 0 s.fab.home.bumps h.val < 255) ∧
    (∃ s : State, ∃ m : Master, ∃ h : Hive, s.takes m 0x70 = true ∧ s.isActive = true ∧ s.locked 0x70 = false ∧ s.hiveState h.val = 0 ∧ s.hiveCheck h.val ≠ 0) ∧
    (∃ s : State, ∃ m : Master, ∃ h : Hive, s.takes m 0x70 = true ∧ s.isActive = true ∧ s.locked 0x70 = false ∧ s.hiveState h.val = 4) ∧
    (∃ s : State, ∃ m : Master, ∃ h : Hive, s.takes m 0x70 = true ∧ s.isActive = true ∧ s.hiveServes h.val = true ∧ mget 0 s.fab.home.bumps h.val < 255) ∧
    (∃ s : State, ∃ m : Master, ∃ h : Hive, s.takes m 0x70 = true ∧ s.isActive = true ∧ s.hiveState h.val = 3 ∧ s.flag (Fld.HIVE_STATUS_TAIL h.val) = true) ∧
    (∃ s : State, ∃ h : Hive, s.serving = true ∧ s.hiveState h.val = 1) ∧
    (∃ s : State, ∃ h : Hive, s.serving = true ∧ (h.val ∈ s.fab.home.clearing) ∧ s.hiveState h.val ≠ 1) :=
  ⟨⟨({ ready with regs := [] } : State).puts [(Fld.HOME_CFG_EN, 1), (Fld.HIVE_DIR_SET_COUNT 0, 4), (Fld.HIVE_BKT_BKT_COUNT 0, 0)], .keeper 0, 0, by decide +kernel⟩,
    ⟨(ready.puts [(Fld.TDM_ROLE_STATE, 0), (Fld.HOME_LOCK_LOCK, 0), (Fld.HIVE_STATUS_STATE 0, 0), (Fld.HOME_CFG_EN, 0)]), .keeper 0, 0, by decide +kernel⟩,
    ⟨(ready.hive0.puts [(Fld.HIVE_STATUS_STATE 0, 4), (Fld.HOME_LOCK_LOCK, 0)]), .keeper 0, 0, by decide +kernel⟩,
    ⟨(ready.hive0.puts [(Fld.HIVE_STATUS_STATE 0, 2), (Fld.HOME_LOCK_LOCK, 0)]), .keeper 0, 0, by decide +kernel⟩,
    ⟨ready.hive0.puts [(Fld.HIVE_STATUS_STATE 0, 3), (Fld.HIVE_STATUS_TAIL 0, 1)], .keeper 0, 0, by decide +kernel⟩,
    ⟨(ready.hive0.puts [(Fld.HIVE_STATUS_STATE 0, 1), (Fld.HOME_LOCK_LOCK, 0)]), 0, by decide +kernel⟩,
    ⟨ready.hive0.ho fun h => { h with clearing := [0] }, 0, by decide +kernel⟩⟩

theorem test_meets_HostSlots :
    (∃ s : State, ∃ m : Master, ∃ h : Hive, ∃ i : Slot, ∃ value : Word, s.takes m 0x70 = true ∧ s.isActive = true ∧ s.locked 0x70 = false ∧ s.slotState h.val i.val = 0 ∧ (s.puts [(Fld.HOST_CFG_REMOTE (64 * h.val + i.val), bitsOf value.toNat 1 1), (Fld.HOST_CFG_VCS (64 * h.val + i.val), bitsOf value.toNat 2 6), (Fld.HOST_CFG_PID (64 * h.val + i.val), bitsOf value.toNat 8 12)]).slotOk h.val i.val = true) ∧
    (∃ s : State, ∃ m : Master, ∃ h : Hive, ∃ i : Slot, s.takes m 0x70 = true ∧ s.isActive = true ∧ s.locked 0x70 = false ∧ (s.slotState h.val i.val = 1 ∨ s.slotState h.val i.val = 4)) ∧
    (∃ s : State, ∃ m : Master, ∃ h : Hive, ∃ i : Slot, s.takes m 0x70 = true ∧ s.isActive = true ∧ s.slotState h.val i.val = 2 ∧ s.hiveServes h.val = true ∧ s.counting h.val = []) ∧
    (∃ s : State, ∃ h : Hive, ∃ i : Slot, s.serving = true ∧ s.slotState h.val i.val = 3 ∧ s.counting h.val = [] ∧ s.fab.home.txns = []) ∧
    (∃ s : State, ∃ h : Hive, ∃ x : Nat, s.serving = true ∧ s.homeIdle = true ∧ s.unresolved h.val x = true ∧ (∀ i : Slot, s.mayHold h.val i.val = false)) ∧
    (∃ s : State, ∃ h : Hive, s.serving = true ∧ s.hiveState h.val = 3 ∧ s.flag (Fld.HIVE_STATUS_TAIL h.val) = false ∧ s.unresolvedNamed h.val = [] ∧ s.fab.home.clearing = [] ∧ bitsOf (s.get Fld.HOME_SWEEP_HIVES) h.val 1 = 1) ∧
    (∃ s : State, ∃ m : Master, s.takes m 0x71 = true) ∧
    (∃ s : State, ∃ h : Nat, ∃ x : Nat, s.fabricRuns = true ∧ s.fab.home.lookup = some (h, x)) ∧
    (∃ s : State, ∃ m : Master, s.takes m 0x70 = true) :=
  ⟨⟨({ ready with regs := [] } : State).puts [(Fld.VCS_ENTRY_CFG_EN 3, 1), (Fld.HIVE_STATUS_STATE 0, 2)], .keeper 0, 0, 2, 0xD, by decide +kernel⟩,
    ⟨ready.puts [(Fld.TDM_ROLE_STATE, 0), (Fld.HOME_LOCK_LOCK, 0), (Fld.HOST_STATUS_STATE 2, 4)], .keeper 0, 0, 2, by decide +kernel⟩,
    ⟨ready.hive0.puts [(Fld.HOST_STATUS_STATE 2, 2)], .keeper 0, 0, 2, by decide +kernel⟩,
    ⟨ready.hive0.puts [(Fld.HOST_STATUS_STATE 2, 3)], 0, 2, by decide +kernel⟩,
    ⟨ready.hive0.puts [(Fld.HIVE_STATUS_STATE 0, 3), (Fld.HIVE_STATUS_TAIL 0, 1), (Fld.HOST_STATUS_STATE 0, 0), (Fld.HOST_STATUS_STATE 1, 0)], 0, 3, by decide +kernel⟩,
    ⟨ready.hive0.puts [(Fld.HIVE_STATUS_STATE 0, 3), (Fld.HOME_SWEEP_HIVES, 1)], 0, by decide +kernel⟩,
    ⟨ready, .keeper 0, by decide +kernel⟩,
    ⟨(ready.hive0.ownedBy 1).ho fun h => { h with lookup := some (0, 3) }, 0, 3, by decide +kernel⟩,
    ⟨ready, .keeper 0, by decide +kernel⟩⟩

theorem test_meets_MailboxProtocol :
    (∃ s : State, ∃ k : BoxIx, s.mgmtRuns = true ∧ s.boxHears k.val = true ∧ s.get (Fld.MBX_BOX_STATE_STATE k.val) ≠ 1) ∧
    (∃ s : State, ∃ k : BoxIx, s.mgmtRuns = true ∧ s.boxHears k.val = true ∧ s.get (Fld.MBX_BOX_STATE_STATE k.val) = 1 ∧ k.val ≠ 64 ∧ k.val ≠ 65) ∧
    (∃ s : State, ∃ k : BoxIx, s.mgmtRuns = true ∧ s.boxHears k.val = true ∧ s.get (Fld.MBX_BOX_STATE_STATE k.val) = 1 ∧ (k.val = 64 ∨ k.val = 65)) ∧
    (∃ s : State, ∃ k : BoxIx, ∃ r : MbxResult, s.mgmtRuns = true ∧ s.get (Fld.MBX_BOX_STATE_STATE k.val) = 1 ∧ (s.box k.val).pendingResult = some r) ∧
    (∃ s : State, ∃ k : BoxIx, ∃ r : MbxResult, s.mgmtRuns = true ∧ k.val < 64 ∧ (s.box k.val).irq = true ∧ s.get (Fld.MBX_BOX_STATE_STATE k.val) = 1 ∧ (s.box k.val).pendingResult = some r) ∧
    (∃ s : State, ∃ k : BoxIx, s.mgmtRuns = true ∧ s.get (Fld.MBX_BOX_STATE_STATE k.val) = 1 ∧ (s.box k.val).pendingResult = none ∧ ((s.box k.val).opcode ∉ supportedOpcodes)) ∧
    (∃ s : State, s.mgmtRuns = true ∧ s.clk.fabricHeld = true) ∧
    (∃ s : State, ∃ k : BoxIx, s.mgmtRuns = true ∧ k.val < 64 ∧ s.boxHears k.val = true) ∧
    (∃ s : State, ∃ m : Master, s.mgmtRuns = true ∧ m.keeperOrBoard = true ∧ s.locked 6 = false) ∧
    (∃ s : State, ∃ m : Master, s.mgmtRuns = true ∧ m.keeperOrBoard = false ∧ m ≠ .policy) :=
  ⟨⟨ready, 64, by decide +kernel⟩,
    ⟨(ready.asks 66 1 []).puts [(Fld.MBX_POLICY_STATE, 1)], 66, by decide +kernel⟩,
    ⟨ready.asks 64 1 [], 64, by decide +kernel⟩,
    ⟨(ready.asks 64 1 []).answerBox 64 .success [7], 64, ⟨.success, [7]⟩, by decide +kernel⟩,
    ⟨((ready.asks 3 1 []).answerBox 3 .success [7]).modBox 3 fun ready => { ready with irq := true }, 3, ⟨.success, [7]⟩, by decide +kernel⟩,
    ⟨ready.asks 64 0x1234 [], 64, by decide +kernel⟩,
    ⟨{ ready.asks 64 1 [] with clk := { ready.clk with fabricHeld := true } }, by decide +kernel⟩,
    ⟨let ready := (ready.asks 3 1 []).puts [(Fld.VCS_ENTRY_CFG_EN 3, 1), (Fld.VCS_ENTRY_CFG_USP 3, 4)]; { ready with fab := { ready.fab with up := [4] } }, 3, by decide +kernel⟩,
    ⟨ready, .keeper 0, by decide +kernel⟩,
    ⟨ready, .host 2, by decide +kernel⟩⟩

theorem test_meets_MailboxCommands :
    (∃ s : State, ∃ k : BoxIx, s.runs k.val Opc.bgStatus .g = true) ∧
    (∃ s : State, ∃ k : BoxIx, s.runs k.val Opc.getLimit .g = true) ∧
    (∃ s : State, ∃ k : BoxIx, s.runs k.val Opc.getEventPolicy .g = true) ∧
    (∃ s : State, ∃ k : BoxIx, s.runs k.val Opc.getEvents .g = true ∧ (s.box k.val).fm = true) ∧
    (∃ s : State, ∃ k : BoxIx, s.runs k.val Opc.getEvents .g = true ∧ (s.box k.val).fm = false) ∧
    (∃ s : State, ∃ k : BoxIx, s.runs k.val Opc.getTimestamp .g = true) ∧
    (∃ s : State, ∃ k : BoxIx, s.runs k.val Opc.getLogs .g = true) ∧
    (∃ s : State, ∃ k : BoxIx, s.runs k.val Opc.getLog .g = true) ∧
    (∃ s : State, ∃ k : BoxIx, s.runs k.val Opc.getFwInfo .g = true) ∧
    (∃ s : State, ∃ k : BoxIx, s.runs k.val Opc.moduleState .g = true) ∧
    (∃ s : State, ∃ k : BoxIx, ∃ n : Nat, s.runs k.val Opc.dlogInfo (.l n) = true ∧ n = (s.box k.val).arg 0 1 ∧ n < 64) ∧
    (∃ s : State, ∃ k : BoxIx, s.runs k.val Opc.failRecord .fb = true ∧ (s.box k.val).arg 0 1 < 16) ∧
    (∃ s : State, ∃ k : BoxIx, ∃ l : List LogEntry, s.runs k.val Opc.faultLog .fb = true ∧ 1 ≤ (s.box k.val).arg 4 1 ∧ (s.box k.val).arg 4 1 ≤ 64 ∧ l = (((s.flt.log.filter fun e => decide ((s.box k.val).arg 0 4 ≤ e.seq)).reverse).take ((s.box k.val).arg 4 1))) ∧
    (∃ s : State, ∃ k : BoxIx, s.runs k.val Opc.fixonSlots .fb = true) ∧
    (∃ s : State, ∃ k : BoxIx, s.runs k.val Opc.identify .g = true) ∧
    (∃ s : State, ∃ k : BoxIx, ∃ n : Nat, s.runs k.val Opc.setLimit .g = true ∧ 256 ≤ n ∧ n ≤ 65536) ∧
    (∃ s : State, ∃ k : BoxIx, ∃ n : Nat, s.runs k.val Opc.setLimit .g = true ∧ (n < 256 ∨ 65536 < n)) ∧
    (∃ s : State, ∃ k : BoxIx, ∃ n : Nat, s.runs k.val Opc.setEventPolicy .g = true ∧ 1 ≤ n ∧ n ≤ 15) ∧
    (∃ s : State, ∃ k : BoxIx, s.runs k.val Opc.clearEvents .g = true ∧ (s.box k.val).fm = true) ∧
    (∃ s : State, ∃ k : BoxIx, s.runs k.val Opc.clearEvents .g = true ∧ (s.box k.val).fm = false) ∧
    (∃ s : State, ∃ k : BoxIx, s.runs k.val Opc.setTimestamp .b = true) ∧
    (∃ s : State, ∃ k : BoxIx, s.mgmtRuns = true ∧ (s.box k.val).orphan = none ∧ s.get (Fld.MBX_BOX_STATE_STATE k.val) = 1 ∧ (s.box k.val).opcode = Opc.setTimestamp ∧ (s.box k.val).pendingResult = none ∧ k.val ≠ 64 ∧ k.val ≠ 65) ∧
    (∃ s : State, ∃ k : BoxIx, ∃ slot : Bool, ∃ i : SignedImage, s.runs k.val Opc.activateFw .b = true ∧ s.fwSlot slot = some i) ∧
    (∃ s : State, ∃ k : BoxIx, ∃ r : Bool, ∃ slot : Bool, s.runs k.val Opc.activateFw .b = true ∧ (r = false ∨ s.fwSlot slot = none)) ∧
    (∃ s : State, ∃ k : BoxIx, ∃ x : Transfer, s.runs k.val Opc.abort .g = true ∧ s.mbx.transfer = some x ∧ x.box = k.val) ∧
    (∃ s : State, ∃ k : BoxIx, s.runs k.val Opc.abort .g = true ∧ s.mbx.transfer = none ∧ s.flag (Fld.MBX_BOX_STATE_BG k.val) = false) ∧
    (∃ s : State, ∃ k : BoxIx, ∃ n : Nat, s.runs k.val Opc.ackLog .board = true ∧ n = (s.box k.val).arg 0 4) ∧
    (∃ s : State, ∃ k : BoxIx, ∃ n : Nat, ∃ c : Nat, s.runs k.val Opc.harvest (.l n) = true ∧ n = (s.box k.val).arg 0 1 ∧ c = (s.box k.val).arg 1 1 + 1 ∧ s.live 0x91 = true ∧ n < 64 ∧ c ≤ 64 ∧ (s.box k.val).arg 4 4 + c ≤ s.get (Fld.LOG_LINES_LINES n) ∧ 8 + 64 * c ≤ (s.box k.val).limit ∧ s.fab.dlog.harvest = none) ∧
    (∃ s : State, ∃ k : BoxIx, ∃ n : Nat, s.runs k.val Opc.harvest (.l n) = true ∧ n = (s.box k.val).arg 0 1 ∧ (64 < (s.box k.val).arg 1 1 + 1 ∨ 64 ≤ n ∨ s.get (Fld.LOG_LINES_LINES n) < (s.box k.val).arg 4 4 + (s.box k.val).arg 1 1 + 1)) :=
  ⟨⟨ready.asks 64 Opc.bgStatus [], 64, by decide +kernel⟩,
    ⟨ready.asks 64 Opc.getLimit [], 64, by decide +kernel⟩,
    ⟨ready.asks 64 Opc.getEventPolicy [], 64, by decide +kernel⟩,
    ⟨ready.asks 64 Opc.getEvents [], 64, by decide +kernel⟩,
    ⟨(ready.asks 64 Opc.getEvents []).modBox 64 fun ready => { ready with fm := false }, 64, by decide +kernel⟩,
    ⟨ready.asks 64 Opc.getTimestamp [], 64, by decide +kernel⟩,
    ⟨ready.asks 64 Opc.getLogs [], 64, by decide +kernel⟩,
    ⟨ready.asks 64 Opc.getLog [], 64, by decide +kernel⟩,
    ⟨ready.asks 64 Opc.getFwInfo [], 64, by decide +kernel⟩,
    ⟨ready.asks 64 Opc.moduleState [], 64, by decide +kernel⟩,
    ⟨ready.asks 64 Opc.dlogInfo [3], 64, 3, by decide +kernel⟩,
    ⟨ready.asks 64 Opc.failRecord [3], 64, by decide +kernel⟩,
    ⟨ready.asks 64 Opc.faultLog [0, 0, 0, 0, 5], 64, [], by decide +kernel⟩,
    ⟨ready.asks 64 Opc.fixonSlots [], 64, by decide +kernel⟩,
    ⟨ready.asks 64 Opc.identify [], 64, by decide +kernel⟩,
    ⟨ready.asks 64 Opc.setLimit [], 64, 512, by decide +kernel⟩,
    ⟨ready.asks 64 Opc.setLimit [], 64, 5, by decide +kernel⟩,
    ⟨ready.asks 64 Opc.setEventPolicy [], 64, 5, by decide +kernel⟩,
    ⟨ready.asks 64 Opc.clearEvents [], 64, by decide +kernel⟩,
    ⟨(ready.asks 64 Opc.clearEvents []).modBox 64 fun ready => { ready with fm := false }, 64, by decide +kernel⟩,
    ⟨ready.asks 64 Opc.setTimestamp [], 64, by decide +kernel⟩,
    ⟨ready.asks 3 Opc.setTimestamp [], 3, by decide +kernel⟩,
    ⟨{ ready.asks 64 Opc.activateFw [] with nv := { ready.nv with fwB := some goodImage, otp := { ready.nv.otp with svn := 0 } }, sec := { ready.sec with status4 := 0xFF0008 } }, 64, true, goodImage, by decide +kernel⟩,
    ⟨ready.asks 64 Opc.activateFw [], 64, false, true, by decide +kernel⟩,
    ⟨let ready := ready.asks 64 Opc.abort []; { ready with mbx := { ready.mbx with transfer := some ⟨64, true, false⟩ } }, 64, ⟨64, true, false⟩, by decide +kernel⟩,
    ⟨ready.asks 64 Opc.abort [], 64, by decide +kernel⟩,
    ⟨ready.asks 64 Opc.ackLog [1], 64, 1, by decide +kernel⟩,
    ⟨(ready.asks 64 Opc.harvest [3, 1, 0, 0, 0, 0, 0, 0]).puts [(Fld.LOG_LINES_LINES 3, 5)] , 64, 3, 2, by decide +kernel⟩,
    ⟨ready.asks 64 Opc.harvest [3, 65], 64, 3, by decide +kernel⟩⟩

theorem test_meets_FabricManagerApi :
    (∃ s : State, ∃ k : BoxIx, s.runs k.val Opc.identifySwitch .f = true) ∧
    (∃ s : State, ∃ k : BoxIx, s.runs k.val Opc.portState .f = true) ∧
    (∃ s : State, ∃ k : BoxIx, ∃ v : Vcs, s.runs k.val Opc.vcsInfo .f = true ∧ s.live 0x60 = true ∧ s.vcsEnabled v.val = true) ∧
    (∃ s : State, ∃ k : BoxIx, ∃ v : Vcs, ∃ i : Nat, s.runs k.val Opc.aer .f = true ∧ s.live 0x60 = true ∧ s.vcsEnabled v.val = true ∧ i < s.vppbCount v.val) ∧
    (∃ s : State, ∃ k : BoxIx, ∃ p : Port, ∃ q : List Byte, s.runs k.val Opc.tunnel .f = true ∧ tunneledOpcodes.contains (tunneledOpcode q) = true ∧ tunneledOpcode q ≠ 0x5402 ∧ s.live 0x10 = true ∧ s.linkUp p.val = true) ∧
    (∃ s : State, ∃ k : BoxIx, ∃ q : List Byte, s.runs k.val Opc.tunnel .f = true ∧ tunneledOpcodes.contains (tunneledOpcode q) = false) ∧
    (∃ s : State, ∃ k : BoxIx, ∃ p : Port, s.runs k.val Opc.ppbConfig .f = true ∧ s.live 0x10 = true ∧ s.linkUp p.val = true) ∧
    (∃ s : State, ∃ k : BoxIx, ∃ p : Port, s.runs k.val Opc.ppbConfig .f = true ∧ s.linkUp p.val = false) ∧
    (∃ s : State, ∃ k : BoxIx, ∃ p : Port, ∃ ld : Ld, s.runs k.val Opc.ldConfig .f = true ∧ s.live 0x10 = true ∧ s.linkUp p.val = true ∧ s.live 0x60 = true ∧ s.isMld p.val = true ∧ s.flag (Fld.LD_STATE_PRESENT (16 * p.val + ld.val)) = true) ∧
    (∃ s : State, ∃ k : BoxIx, ∃ p : Port, ∃ ld : Ld, s.runs k.val Opc.ldMemory .f = true ∧ s.live 0x10 = true ∧ s.linkUp p.val = true ∧ s.live 0x60 = true ∧ s.isMld p.val = true ∧ s.flag (Fld.LD_STATE_PRESENT (16 * p.val + ld.val)) = true) ∧
    (∃ s : State, ∃ k : BoxIx, ∃ p : Port, s.runs k.val Opc.portControl .f = true ∧ s.live 0x10 = true ∧ s.present p.val = true ∧ s.get (Fld.PORT_STATUS_LINK p.val) = 5) ∧
    (∃ s : State, ∃ k : BoxIx, ∃ p : Port, s.runs k.val Opc.portControl .f = true ∧ s.live 0x10 = true ∧ s.present p.val = true ∧ 5 ≤ s.get (Fld.PORT_STATUS_LINK p.val) ∧ s.get (Fld.PORT_STATUS_LINK p.val) ≤ 8) ∧
    (∃ s : State, ∃ k : BoxIx, ∃ p : Port, s.runs k.val Opc.portControl .f = true ∧ s.live 0x10 = true ∧ s.present p.val = true) ∧
    (∃ s : State, ∃ k : BoxIx, s.runs k.val Opc.pairCmd .f = true ∧ k.val ≠ 66 ∧ s.tdmCmdActs ((s.box k.val).arg 0 1) = true) ∧
    (∃ s : State, ∃ k : BoxIx, s.runs k.val Opc.pairCmd .f = true ∧ k.val ≠ 66 ∧ s.tdmCmdActs ((s.box k.val).arg 0 1) = false) ∧
    (∃ s : State, ∃ k : BoxIx, ∃ h : Nat, s.runs k.val Opc.hiveCtl .f = true ∧ k.val ≠ 66 ∧ (s.box k.val).arg 0 1 = h ∧ h < 16 ∧ (s.box k.val).arg 1 1 = 1 ∧ s.live 0x70 = true ∧ s.isActive = true ∧ s.hiveServes h = true) ∧
    (∃ s : State, ∃ k : BoxIx, s.runs k.val Opc.hiveCtl .f = true ∧ k.val ≠ 66 ∧ (s.isActive = false ∨ 16 ≤ (s.box k.val).arg 0 1)) :=
  ⟨⟨ready.asks 64 Opc.identifySwitch [], 64, by decide +kernel⟩,
    ⟨ready.asks 64 Opc.portState [], 64, by decide +kernel⟩,
    ⟨(ready.asks 64 Opc.vcsInfo []).puts [(Fld.VCS_ENTRY_CFG_EN 3, 1), (Fld.VCS_ENTRY_SIZE_VPPB_COUNT 3, 4)], 64, 3, by decide +kernel⟩,
    ⟨(ready.asks 64 Opc.aer []).puts [(Fld.VCS_ENTRY_CFG_EN 3, 1), (Fld.VCS_ENTRY_SIZE_VPPB_COUNT 3, 4)], 64, 3, 2, by decide +kernel⟩,
    ⟨let ready := (ready.asks 64 Opc.tunnel []).puts [(Fld.LD_STATE_PRESENT 50, 1)]; { ready with fab := { ready.fab with up := [3], sw := { ready.fab.sw with mlds := [(3, 2)] } } }, 64, 3, [0, 0, 0, 0, 0x54], by decide +kernel⟩,
    ⟨ready.asks 64 Opc.tunnel [], 64, [0, 0, 0, 0, 0x51], by decide +kernel⟩,
    ⟨let ready := (ready.asks 64 Opc.ppbConfig []).puts [(Fld.LD_STATE_PRESENT 50, 1)]; { ready with fab := { ready.fab with up := [3], sw := { ready.fab.sw with mlds := [(3, 2)] } } }, 64, 3, by decide +kernel⟩,
    ⟨ready.asks 64 Opc.ppbConfig [], 64, 3, by decide +kernel⟩,
    ⟨let ready := (ready.asks 64 Opc.ldConfig []).puts [(Fld.LD_STATE_PRESENT 50, 1)]; { ready with fab := { ready.fab with up := [3], sw := { ready.fab.sw with mlds := [(3, 2)] } } }, 64, 3, 2, by decide +kernel⟩,
    ⟨let ready := (ready.asks 64 Opc.ldMemory []).puts [(Fld.LD_STATE_PRESENT 50, 1)]; { ready with fab := { ready.fab with up := [3], sw := { ready.fab.sw with mlds := [(3, 2)] } } }, 64, 3, 2, by decide +kernel⟩,
    ⟨(ready.asks 64 Opc.portControl []).puts [(Fld.PORT_STATUS_LINK 3, 5), (Fld.PORTG_STATUS_PRESENT 0, 15)], 64, 3, by decide +kernel⟩,
    ⟨(ready.asks 64 Opc.portControl []).puts [(Fld.PORT_STATUS_LINK 3, 5), (Fld.PORTG_STATUS_PRESENT 0, 15)], 64, 3, by decide +kernel⟩,
    ⟨(ready.asks 64 Opc.portControl []).puts [(Fld.PORTG_STATUS_PRESENT 0, 15)], 64, 3, by decide +kernel⟩,
    ⟨(ready.asks 64 Opc.pairCmd [3]).puts [(Fld.TDM_LINK_STATE, 3)], 64, by decide +kernel⟩,
    ⟨ready.asks 64 Opc.pairCmd [7], 64, by decide +kernel⟩,
    ⟨ready.hive0.asks 64 Opc.hiveCtl [0, 1], 64, 0, by decide +kernel⟩,
    ⟨ready.asks 64 Opc.hiveCtl [16, 1], 64, by decide +kernel⟩⟩

theorem test_meets_ImageTransfers :
    (∃ s : State, ∃ k : BoxIx, ∃ slot : Bool, s.runs k.val Opc.fixonXfer .b = true ∧ (s.box k.val).arg 0 1 = 1 ∧ (s.box k.val).arg 1 1 = bit slot ∧ (s.box k.val).part.2.2 = true ∧ s.slotInUse true slot = false ∧ s.mbx.transfer = none ∧ s.flag (Fld.MBX_BOX_STATE_BG k.val) = false) ∧
    (∃ s : State, ∃ k : BoxIx, ∃ slot : Bool, s.runs k.val Opc.fixonXfer .b = true ∧ (s.box k.val).arg 0 1 = 1 ∧ (s.box k.val).arg 1 1 = bit slot ∧ (s.box k.val).part.2.2 = true ∧ s.slotInUse true slot = false ∧ s.mbx.transfer ≠ none) ∧
    (∃ s : State, ∃ k : BoxIx, ∃ slot : Bool, s.runs k.val Opc.fixonXfer .b = true ∧ (s.box k.val).arg 0 1 = 2 ∧ (s.box k.val).arg 1 1 = bit slot ∧ (s.box k.val).part.2.2 = true ∧ s.mbx.transfer = some ⟨k.val, true, slot⟩) ∧
    (∃ s : State, ∃ k : BoxIx, ∃ slot : Bool, s.runs k.val Opc.fixonXfer .b = true ∧ (s.box k.val).arg 0 1 = 3 ∧ (s.box k.val).arg 1 1 = bit slot ∧ s.mbx.transfer = some ⟨k.val, true, slot⟩ ∧ ({ s with nv := (if slot then { s.nv with fixB := { s.nv.fixB with bad := false } } else { s.nv with fixA := { s.nv.fixA with bad := false } }) }).fixonValid slot = true) ∧
    (∃ s : State, ∃ k : BoxIx, ∃ slot : Bool, s.runs k.val Opc.fixonXfer .b = true ∧ (s.box k.val).arg 0 1 = 3 ∧ (s.box k.val).arg 1 1 = bit slot ∧ s.mbx.transfer = some ⟨k.val, true, slot⟩ ∧ ({ s with nv := (if slot then { s.nv with fixB := { s.nv.fixB with bad := false } } else { s.nv with fixA := { s.nv.fixA with bad := false } }) }).fixonValid slot = false) ∧
    (∃ s : State, ∃ k : BoxIx, ∃ slot : Bool, s.runs k.val Opc.fixonXfer .b = true ∧ (s.box k.val).arg 0 1 = 4 ∧ (s.box k.val).arg 1 1 = bit slot ∧ s.mbx.transfer = some ⟨k.val, true, slot⟩) ∧
    (∃ s : State, ∃ k : BoxIx, ∃ slot : Bool, s.runs k.val Opc.transferFw .b = true ∧ s.slotInUse false slot = false ∧ s.mbx.transfer = none ∧ s.flag (Fld.MBX_BOX_STATE_BG k.val) = false) ∧
    (∃ s : State, ∃ k : BoxIx, ∃ slot : Bool, s.runs k.val Opc.transferFw .b = true ∧ s.slotInUse false slot = true) ∧
    (∃ s : State, ∃ k : BoxIx, ∃ slot : Bool, s.runs k.val Opc.transferFw .b = true ∧ s.mbx.transfer = some ⟨k.val, false, slot⟩) ∧
    (∃ s : State, ∃ k : BoxIx, ∃ slot : Bool, ∃ img : SignedImage, s.runs k.val Opc.transferFw .b = true ∧ s.mbx.transfer = some ⟨k.val, false, slot⟩ ∧ img.fwOk s = true) ∧
    (∃ s : State, ∃ k : BoxIx, ∃ slot : Bool, ∃ img : SignedImage, s.runs k.val Opc.transferFw .b = true ∧ s.mbx.transfer = some ⟨k.val, false, slot⟩ ∧ img.fwOk s = false) ∧
    (∃ s : State, ∃ k : BoxIx, ∃ slot : Bool, s.runs k.val Opc.transferFw .b = true ∧ s.mbx.transfer = some ⟨k.val, false, slot⟩) :=
  ⟨⟨ready.asks 64 Opc.fixonXfer [1, 0, 0, 0, 0, 0, 0, 0, 5, 6], 64, false, by decide +kernel⟩,
    ⟨let ready := ready.asks 64 Opc.fixonXfer [1, 0, 0, 0, 0, 0, 0, 0, 5, 6]; { ready with mbx := { ready.mbx with transfer := some ⟨65, true, false⟩ } }, 64, false, by decide +kernel⟩,
    ⟨let ready := ready.asks 64 Opc.fixonXfer [2, 0, 0, 0, 0, 0, 0, 0, 5, 6]; { ready with mbx := { ready.mbx with transfer := some ⟨64, true, false⟩ } }, 64, false, by decide +kernel⟩,
    ⟨let ready := ready.asks 64 Opc.fixonXfer [3, 0, 0, 0, 0, 0, 0, 0]; { ready.puts [(Fld.DEV_FW_VER_VER, 0x20000)] with mbx := { ready.mbx with transfer := some ⟨64, true, false⟩ }, nv := { ready.nv with fixA := { demoSlot with bad := true } }, sec := { ready.sec with status4 := 0 } }, 64, false, by decide +kernel⟩,
    ⟨let ready := ready.asks 64 Opc.fixonXfer [3, 0, 0, 0, 0, 0, 0, 0]; { ready with mbx := { ready.mbx with transfer := some ⟨64, true, false⟩ } }, 64, false, by decide +kernel⟩,
    ⟨let ready := ready.asks 64 Opc.fixonXfer [4, 0, 0, 0, 0, 0, 0, 0]; { ready with mbx := { ready.mbx with transfer := some ⟨64, true, false⟩ } }, 64, false, by decide +kernel⟩,
    ⟨ready.asks 64 Opc.transferFw [], 64, false, by decide +kernel⟩,
    ⟨{ (ready.asks 64 Opc.transferFw []).puts [(Fld.BOOT_SLOTS_FW_SLOT, 0)] with boot := { ready.boot with fwRunning := true } }, 64, false, by decide +kernel⟩,
    ⟨let ready := ready.asks 64 Opc.transferFw []; { ready with mbx := { ready.mbx with transfer := some ⟨64, false, false⟩ } }, 64, false, by decide +kernel⟩,
    ⟨let c := ready.asks 64 Opc.transferFw []; { c with mbx := { c.mbx with transfer := some ⟨64, false, false⟩ }, sec := { ready.sec with status4 := 0xFF0008 }, nv := { ready.nv with otp := { ready.nv.otp with svn := 0 } } }, 64, false, goodImage, by decide +kernel⟩,
    ⟨let ready := ready.asks 64 Opc.transferFw []; { ready with mbx := { ready.mbx with transfer := some ⟨64, false, false⟩ } }, 64, false, { goodImage with eccOk := false }, by decide +kernel⟩,
    ⟨let ready := ready.asks 64 Opc.transferFw []; { ready with mbx := { ready.mbx with transfer := some ⟨64, false, false⟩ } }, 64, false, by decide +kernel⟩⟩

theorem test_meets_BindingAndFlushes :
    (∃ s : State, ∃ k : BoxIx, ∃ v : Nat, ∃ i : Nat, ∃ n : Nat, ∃ p : Nat, ∃ ld : Nat, s.runs k.val Opc.bind .f = true ∧ s.engineBusyFor k.val = false ∧ n = s.vppbOf v i ∧ n < 4096 ∧ s.bindCheck v i p ld = none ∧ n + 1 < 4096) ∧
    (∃ s : State, ∃ k : BoxIx, ∃ v : Nat, ∃ i : Nat, ∃ n : Nat, ∃ p : Nat, ∃ ld : Nat, ∃ c : RetCode, s.runs k.val Opc.bind .f = true ∧ s.engineBusyFor k.val = false ∧ v < 64 ∧ s.vcsEnabled v = true ∧ i < s.vppbCount v ∧ n = s.vppbOf v i ∧ n < 4096 ∧ s.bindCheck v i p ld = some c) ∧
    (∃ s : State, ∃ k : BoxIx, s.runs k.val Opc.bind .f = true ∧ s.engineBusyFor k.val = true) ∧
    (∃ s : State, ∃ k : BoxIx, s.runs k.val Opc.unbind .f = true ∧ s.engineBusyFor k.val = true) ∧
    (∃ s : State, ∃ k : BoxIx, ∃ v : Nat, ∃ i : Nat, ∃ n : Nat, s.runs k.val Opc.unbind .f = true ∧ s.engineBusyFor k.val = false ∧ n = s.vppbOf v i ∧ n < 4096 ∧ s.unbindCheck v i 0 = .inr n ∧ s.unbindReady n = false) ∧
    (∃ s : State, ∃ k : BoxIx, ∃ v : Nat, ∃ i : Nat, ∃ n : Nat, s.runs k.val Opc.unbind .f = true ∧ s.engineBusyFor k.val = false ∧ n = s.vppbOf v i ∧ n < 4096 ∧ s.unbindCheck v i 0 = .inr n ∧ s.unbindReady n = true) ∧
    (∃ s : State, ∃ k : BoxIx, ∃ v : Nat, ∃ i : Nat, ∃ n : Nat, s.runs k.val Opc.unbind .f = true ∧ s.engineBusyFor k.val = false ∧ n = s.vppbOf v i ∧ n < 4096 ∧ s.unbindCheck v i 1 = .inr n) ∧
    (∃ s : State, ∃ k : BoxIx, ∃ v : Nat, ∃ i : Nat, ∃ n : Nat, s.runs k.val Opc.unbind .f = true ∧ s.engineBusyFor k.val = false ∧ n = s.vppbOf v i ∧ n < 4096 ∧ s.unbindCheck v i 2 = .inr n ∧ s.fab.sw.flushes = [] ∧ s.live 0x60 = true) ∧
    (∃ s : State, ∃ n : Vppb, s.fabricRuns = true ∧ s.fab.sw.flushes = [(.vppb n.val, false)] ∧ s.vppbState n.val = 3 ∧ s.fab.sw.binding = none ∧ s.fab.sw.unbind0 = [] ∧ s.ldEntry n.val < 1024 ∧ s.flushAnswered (.vppb n.val) = true) ∧
    (∃ s : State, ∃ p : Nat, s.fabricRuns = true ∧ s.fab.sw.flushes = [(.port p, false)] ∧ s.flushAnswered (.port p) = true) ∧
    (∃ s : State, ∃ f : FlushScope, s.fabricRuns = true ∧ s.flushAnswered f = false) ∧
    (∃ s : State, ∃ n : Vppb, s.fabricRuns = true ∧ s.isDownstream n.val = true ∧ s.vppbState n.val = 1) ∧
    (∃ s : State, ∃ n : Vppb, s.fabricRuns = true ∧ s.isDownstream n.val = true ∧ s.vppbState n.val = 2) ∧
    (∃ s : State, ∃ n : Vppb, s.fabricRuns = true ∧ s.isDownstream n.val = true) ∧
    (∃ s : State, ∃ v : Vcs, ∃ d : Fin 32, ∃ base : BitVec 52, ∃ size : BitVec 52, ∃ iw : BitVec 4, ∃ ig : BitVec 4, ∃ l : List Nat, s.fabricRuns = true ∧ s.isActive = true ∧ s.vcsEnabled v.val = true ∧ s.decLocked v.val d.val = false ∧ s.decoderOk v.val d.val base.toNat size.toNat iw.toNat ig.toNat l = true) ∧
    (∃ s : State, ∃ v : Vcs, ∃ d : Fin 32, ∃ base : BitVec 52, ∃ size : BitVec 52, ∃ iw : BitVec 4, ∃ ig : BitVec 4, ∃ l : List Nat, s.fabricRuns = true ∧ s.isActive = true ∧ s.vcsEnabled v.val = true ∧ s.decLocked v.val d.val = false ∧ s.decoderOk v.val d.val base.toNat size.toNat iw.toNat ig.toNat l = false) ∧
    (∃ s : State, ∃ v : Vcs, ∃ d : Fin 32, s.fabricRuns = true ∧ s.decLocked v.val d.val = true) ∧
    (∃ s : State, ∃ m : Master, ∃ v : Vcs, ∃ value : Word, s.takes m 0x602 = true ∧ s.isActive = true ∧ s.vcsEnabled v.val = false ∧ value.getLsbD 0 = true ∧ s.vcsFits v.val (bitsOf value.toNat 16 12) (s.vppbCount v.val) (bitsOf value.toNat 8 6) = true) ∧
    (∃ s : State, ∃ m : Master, ∃ v : Vcs, ∃ value : Word, s.takes m 0x602 = true ∧ s.isActive = true ∧ s.vcsEnabled v.val = true ∧ value.getLsbD 0 = false ∧ 2 ≤ s.vppbCount v.val ∧ s.vppbOf v.val (s.vppbCount v.val) ≤ 4096 ∧ (∀ i < s.vppbCount v.val, 0 < i → s.vppbState (s.vppbOf v.val i) = 0)) ∧
    (∃ s : State, ∃ m : Master, ∃ v : Vcs, ∃ i : Nat, s.takes m 0x602 = true ∧ s.isActive = true ∧ s.vcsEnabled v.val = true ∧ i < s.vppbCount v.val ∧ 0 < i ∧ s.vppbState (s.vppbOf v.val i) ≠ 0) ∧
    (∃ s : State, ∃ k : BoxIx, ∃ p : Port, s.runs k.val Opc.tunnel .f = true ∧ s.live 0x60 = true ∧ s.isMld p.val = true ∧ s.boundTo p.val = []) ∧
    (∃ s : State, ∃ k : BoxIx, ∃ p : Port, s.runs k.val Opc.tunnel .f = true ∧ s.live 0x60 = true ∧ s.isMld p.val = true ∧ s.boundTo p.val ≠ []) ∧
    (∃ s : State, ∃ p : Port, ∃ c : Fin 4, ∃ j : Fin 4096, ∃ e : TSlot, s.fabricRuns = true ∧ assoc (s.slots p.val c.val) j.val = some e ∧ e.stale = true) ∧
    (∃ s : State, ∃ p : Port, ∃ c : Fin 4, ∃ j : Fin 4096, ∃ e : TSlot, s.fabricRuns = true ∧ assoc (s.slots p.val c.val) j.val = some e ∧ e.stale = false) :=
  ⟨⟨(ready.vcs2 0).asks 64 Opc.bind [], 64, 2, 1, 17, 3, 0xFFFF, by decide +kernel⟩,
    ⟨(ready.vcs2 3).asks 64 Opc.bind [], 64, 2, 1, 17, 3, 0xFFFF, .busy, by decide +kernel⟩,
    ⟨((ready.vcs2 0).asks 64 Opc.bind []).puts [(Fld.VCS_STATUS_BUSY, 1)], 64, by decide +kernel⟩,
    ⟨((ready.vcs2 0).asks 64 Opc.unbind []).puts [(Fld.VCS_STATUS_BUSY, 1)], 64, by decide +kernel⟩,
    ⟨(ready.vcs2 1).asks 64 Opc.unbind [], 64, 2, 1, 17, by decide +kernel⟩,
    ⟨((ready.vcs2 1).asks 64 Opc.unbind []).puts [(Fld.VPPB_STATE_DPC 17, 1)], 64, 2, 1, 17, by decide +kernel⟩,
    ⟨(ready.vcs2 1).asks 64 Opc.unbind [], 64, 2, 1, 17, by decide +kernel⟩,
    ⟨(ready.vcs2 1).asks 64 Opc.unbind [], 64, 2, 1, 17, by decide +kernel⟩,
    ⟨(ready.vcs2 3).sw fun w => { w with flushes := [(.vppb 17, false)] }, 17, by decide +kernel⟩,
    ⟨(ready.vcs2 1).sw fun w => { w with flushes := [(.port 3, false)] }, 3, by decide +kernel⟩,
    ⟨(ready.vcs2 1).sw fun w => { w with flushes := [(.port 3, false)], waiting := [{ demoRead with flush := some (.port 3) }] }, .port 3, by decide +kernel⟩,
    ⟨ready.vcs2 1, 17, by decide +kernel⟩,
    ⟨ready.vcs2 2, 17, by decide +kernel⟩,
    ⟨ready.vcs2 1, 17, by decide +kernel⟩,
    ⟨(ready.vcs2 1), 2, 5, 0x40000000, 0x20000000, 1, 2, [1, 2], by decide +kernel⟩,
    ⟨(ready.vcs2 1), 2, 5, 0x40000000, 0x20000000, 1, 2, [1], by decide +kernel⟩,
    ⟨(ready.vcs2 1).put (Fld.HDM_DECODER_WORD 69 4) 0x500, 2, 5, by decide +kernel⟩,
    ⟨((ready.vcs2 1).portAs 3 0 2).puts [(Fld.VCS_ENTRY_SIZE_VPPB_COUNT 5, 3), (Fld.VCS_ENTRY_CFG_EN 0, 0), (Fld.VCS_ENTRY_CFG_EN 1, 0)], .keeper 0, 5, 0x00400301, by decide +kernel⟩,
    ⟨ready.vcs2 0, .keeper 0, 2, 0, by decide +kernel⟩,
    ⟨ready.vcs2 1, .keeper 0, 2, 1, by decide +kernel⟩,
    ⟨((ready.vcs2 0).asks 64 Opc.tunnel []).sw fun w => { w with mlds := [(3, 2)] }, 64, 3, by decide +kernel⟩,
    ⟨((ready.vcs2 1).asks 64 Opc.tunnel []).sw fun w => { w with mlds := [(3, 2)] }, 64, 3, by decide +kernel⟩,
    ⟨ready.sw fun w => { w with trackers := [(13, [(7, ⟨true, 17, 5, 0, demoRead, true, false⟩)])] }, 3, 1, 7, ⟨true, 17, 5, 0, demoRead, true, false⟩, by decide +kernel⟩,
    ⟨ready.sw fun w => { w with trackers := [(13, [(7, ⟨false, 17, 5, 0, demoRead, true, false⟩)])] }, 3, 1, 7, ⟨false, 17, 5, 0, demoRead, true, false⟩, by decide +kernel⟩⟩

theorem test_meets_PortsAndLinks :
    (∃ s : State, ∃ p : Port, ∃ m : Master, ∃ value : Word, s.takes m (0x10 + p.val / 4) = true ∧ s.present p.val = true ∧ s.portHeld p.val = false ∧ value.toNat % 4 = 1 ∧ s.portEn p.val = true ∧ s.linkUp p.val = false) ∧
    (∃ s : State, ∃ p : Port, ∃ m : Master, ∃ value : Word, s.takes m (0x10 + p.val / 4) = true ∧ s.present p.val = true ∧ s.portHeld p.val = false ∧ value.toNat % 4 = 1 ∧ s.portEn p.val = true ∧ s.linkUp p.val = true ∧ s.boundTo p.val = [] ∧ s.roleIs p.val 1 = true) ∧
    (∃ s : State, ∃ p : Port, ∃ m : Master, ∃ value : Word, s.takes m (0x10 + p.val / 4) = true ∧ s.present p.val = true ∧ s.portHeld p.val = true ∧ value.toNat % 4 = 1) ∧
    (∃ s : State, ∃ p : Port, ∃ m : Master, ∃ value : Word, s.takes m (0x10 + p.val / 4) = true ∧ s.present p.val = true ∧ s.portHeld p.val = true ∧ value.toNat % 4 = 0 ∧ s.portEn p.val = true ∧ (∀ i ∈ s.portLanes p.val, s.testOp i = none ∧ i ∉ s.fab.lanes.cal)) ∧
    (∃ s : State, ∃ p : Port, ∃ m : Master, ∃ value : Word, s.takes m (0x10 + p.val / 4) = true ∧ s.present p.val = true ∧ s.portHeld p.val = false ∧ value.toNat % 4 = 2 ∧ (s.get (Fld.PORT_STATUS_LINK p.val) = 5 ∨ s.get (Fld.PORT_STATUS_LINK p.val) = 7)) ∧
    (∃ s : State, ∃ p : Port, ∃ m : Master, ∃ value : Word, s.takes m (0x10 + p.val / 4) = true ∧ s.present p.val = true ∧ s.portHeld p.val = false ∧ value.toNat % 4 = 2 ∧ s.get (Fld.PORT_STATUS_LINK p.val) = 6) ∧
    (∃ s : State, ∃ p : Port, ∃ m : Master, ∃ value : Word, s.takes m (0x10 + p.val / 4) = true ∧ s.present p.val = true ∧ s.flag (Fld.PORTG_LOCK_LOCK (p.val / 4)) = false ∧ portCfgOk (s.word (Addr.PORT_CFG p.val)).toNat (value.toNat % 8192 - bitsOf value.toNat 3 1 * 8 - bitsOf value.toNat 7 1 * 128) = false) ∧
    (∃ s : State, ∃ p : Port, ∃ m : Master, ∃ value : Word, s.takes m (0x10 + p.val / 4) = true ∧ s.present p.val = true ∧ s.flag (Fld.PORTG_LOCK_LOCK (p.val / 4)) = false ∧ portCfgOk (s.word (Addr.PORT_CFG p.val)).toNat (value.toNat % 8192 - bitsOf value.toNat 3 1 * 8 - bitsOf value.toNat 7 1 * 128) = true ∧ s.flag (Fld.PORT_CFG_EN p.val) = false ∧ value.getLsbD 0 = false) ∧
    (∃ s : State, ∃ p : Port, ∃ m : Master, ∃ value : Word, s.takes m (0x10 + p.val / 4) = true ∧ s.present p.val = true ∧ s.flag (Fld.PORTG_LOCK_LOCK (p.val / 4)) = false ∧ portCfgOk (s.word (Addr.PORT_CFG p.val)).toNat (value.toNat % 8192 - bitsOf value.toNat 3 1 * 8 - bitsOf value.toNat 7 1 * 128) = true ∧ s.flag (Fld.PORT_CFG_EN p.val) = false ∧ value.getLsbD 0 = true ∧ s.portHeld p.val = false ∧ 8 ≤ s.get Fld.BOOT_STATUS_STAGE) ∧
    (∃ s : State, ∃ p : Port, ∃ m : Master, ∃ value : Word, s.takes m (0x10 + p.val / 4) = true ∧ s.present p.val = true ∧ s.flag (Fld.PORTG_LOCK_LOCK (p.val / 4)) = false ∧ portCfgOk (s.word (Addr.PORT_CFG p.val)).toNat (value.toNat % 8192 - bitsOf value.toNat 3 1 * 8 - bitsOf value.toNat 7 1 * 128) = true ∧ s.flag (Fld.PORT_CFG_EN p.val) = true ∧ value.getLsbD 0 = false ∧ s.linkUp p.val = false) ∧
    (∃ s : State, ∃ m : Master, ∃ k : Pg, ∃ value : Word, s.takes m (0x10 + k.val) = true ∧ s.flag (Fld.PORTG_LOCK_LOCK k.val) = false ∧ value.toNat % 4 ≠ 3 ∧ s.flag (Fld.PORTG_STATUS_APPLYING k.val) = false ∧ (∀ j : Fin 4, s.portEn (4 * k.val + j.val) = false)) ∧
    (∃ s : State, ∃ m : Master, ∃ k : Pg, ∃ value : Word, s.takes m (0x10 + k.val) = true ∧ ((∃ j : Fin 4, s.portEn (4 * k.val + j.val) = true) ∨ bitsOf value.toNat 0 2 = 3 ∨ s.flag (Fld.PORTG_STATUS_APPLYING k.val) = true)) ∧
    (∃ s : State, ∃ k : Pg, s.fabricRuns = true ∧ s.flag (Fld.PORTG_STATUS_APPLYING k.val) = true) ∧
    (∃ s : State, ∃ k : Pg, ∃ low : Bool, s.clk.cpres.contains k.val ≠ low) ∧
    (∃ s : State, ∃ p : Port, ∃ e : L0Entry, s.fabricRuns = true ∧ s.trains = true ∧ s.portEn p.val = true ∧ s.portHeld p.val = false ∧ (s.get (Fld.PORT_STATUS_LINK p.val) = 2 ∨ s.get (Fld.PORT_STATUS_LINK p.val) = 6) ∧ e.lanes < 32 ∧ e.rate < 8 ∧ e.flit < 4 ∧ s.l0Reason p.val e = none ∧ e.rate = s.get (Fld.PORT_CFG_RATE p.val) ∧ s.linkUp p.val = false ∧ s.flag (Fld.PORT_CFG_DSX_EN p.val) = false) ∧
    (∃ s : State, ∃ p : Port, ∃ e : L0Entry, s.fabricRuns = true ∧ s.trains = true ∧ s.portEn p.val = true ∧ s.portHeld p.val = false ∧ (s.get (Fld.PORT_STATUS_LINK p.val) = 2 ∨ s.get (Fld.PORT_STATUS_LINK p.val) = 6) ∧ e.lanes < 32 ∧ e.rate < 8 ∧ e.flit < 4 ∧ s.l0Reason p.val e = none ∧ e.rate = s.get (Fld.PORT_CFG_RATE p.val) ∧ s.linkUp p.val = false ∧ s.flag (Fld.PORT_CFG_DSX_EN p.val) = true ∧ 2 ≤ e.flit ∧ s.roleIs p.val 0 = true) ∧
    (∃ s : State, ∃ p : Port, ∃ e : L0Entry, s.fabricRuns = true ∧ s.trains = true ∧ s.portEn p.val = true ∧ s.portHeld p.val = false ∧ (s.get (Fld.PORT_STATUS_LINK p.val) = 2 ∨ s.get (Fld.PORT_STATUS_LINK p.val) = 6) ∧ e.lanes < 32 ∧ e.rate < 8 ∧ e.flit < 4 ∧ s.l0Reason p.val e = none ∧ e.rate < s.get (Fld.PORT_CFG_RATE p.val)) ∧
    (∃ s : State, ∃ p : Port, ∃ e : L0Entry, ∃ r : Nat, s.fabricRuns = true ∧ s.trains = true ∧ s.portEn p.val = true ∧ s.portHeld p.val = false ∧ (s.get (Fld.PORT_STATUS_LINK p.val) = 2 ∨ s.get (Fld.PORT_STATUS_LINK p.val) = 6) ∧ e.lanes < 32 ∧ e.rate < 8 ∧ e.flit < 4 ∧ s.l0Reason p.val e = some r) ∧
    (∃ s : State, ∃ p : Port, s.fabricRuns = true ∧ s.portEn p.val = true ∧ (s.portX p.val).first = true ∧ (s.portX p.val).reached = false ∧ s.portHeld p.val = false) ∧
    (∃ s : State, ∃ p : Port, s.fabricRuns = true ∧ (s.portX p.val).reached = true) ∧
    (∃ s : State, ∃ p : Port, s.fabricRuns = true ∧ (s.get (Fld.PORT_STATUS_LINK p.val) = 5 ∨ s.get (Fld.PORT_STATUS_LINK p.val) = 7 ∨ s.get (Fld.PORT_STATUS_LINK p.val) = 8)) ∧
    (∃ s : State, ∃ p : Port, s.fabricRuns = true ∧ 5 ≤ s.get (Fld.PORT_STATUS_LINK p.val) ∧ s.get (Fld.PORT_STATUS_LINK p.val) ≤ 8 ∧ s.linkUp p.val = true) ∧
    (∃ s : State, ∃ p : Port, s.fabricRuns = true ∧ 5 ≤ s.get (Fld.PORT_STATUS_LINK p.val) ∧ s.get (Fld.PORT_STATUS_LINK p.val) ≤ 8 ∧ s.linkUp p.val = false) ∧
    (∃ s : State, ∃ p : Port, s.fabricRuns = true ∧ (s.get (Fld.PORT_STATUS_LINK p.val) = 5 ∨ s.get (Fld.PORT_STATUS_LINK p.val) = 7)) ∧
    (∃ s : State, ∃ p : Port, ∃ x : Fin 17, s.fabricRuns = true ∧ (s.get (Fld.PORT_STATUS_LINK p.val) = 5 ∨ s.get (Fld.PORT_STATUS_LINK p.val) = 7) ∧ 0 < x.val ∧ x.val ≤ s.portWidth p.val) :=
  ⟨⟨ready.portAs 3 1 2, 3, .keeper 0, 1, by decide +kernel⟩,
    ⟨(ready.portAs 3 1 5).puts [(Fld.LD_STATE_BOUND 48, 0)], 3, .keeper 0, 1, by decide +kernel⟩,
    ⟨(ready.portAs 3 1 1).puts [(Fld.PORT_CTL_HOLD 3, 1)], 3, .keeper 0, 1, by decide +kernel⟩,
    ⟨(ready.portAs 3 1 1).puts [(Fld.PORT_CTL_HOLD 3, 1), (Fld.PORT_STATUS_HOLD_REASON 3, 6)], 3, .keeper 0, 0, by decide +kernel⟩,
    ⟨ready.portAs 3 1 5, 3, .keeper 0, 2, by decide +kernel⟩,
    ⟨ready.portAs 3 1 6, 3, .keeper 0, 2, by decide +kernel⟩,
    ⟨ready.portAs 3 1 2, 3, .keeper 0, 0x107, by decide +kernel⟩,
    ⟨(ready.portAs 3 1 2).puts [(Fld.PORT_CFG_EN 3, 0)], 3, .keeper 0, 0x162, by decide +kernel⟩,
    ⟨(ready.portAs 3 1 0).puts [(Fld.PORT_CFG_EN 3, 0)], 3, .keeper 0, 0x163, by decide +kernel⟩,
    ⟨ready.portAs 3 1 2, 3, .keeper 0, 0x162, by decide +kernel⟩,
    ⟨(ready.portAs 3 1 2).puts [(Fld.PORTG_STATUS_PRESENT 0, 1), (Fld.PORT_CFG_EN 0, 0)], .keeper 0, 0, 1, by decide +kernel⟩,
    ⟨ready.portAs 3 1 2, .keeper 0, 0, 1, by decide +kernel⟩,
    ⟨((ready.portAs 3 1 2).puts [(Fld.PORTG_STATUS_PRESENT 0, 1), (Fld.PORT_CFG_EN 0, 0)]).puts [(Fld.PORTG_STATUS_APPLYING 0, 1), (Fld.PORTG_CFG_BIFUR 0, 1)], 0, by decide +kernel⟩,
    ⟨{ ready with clk := { ready.clk with cpres := [] } }, 0, true, by decide +kernel⟩,
    ⟨ready.portAs 3 1 2, 3, { lanes := 4, rate := 6, flit := 2, cxl := true, cache := false, mem := true, partnerDown := false, reversed := false, inverted := [], requests := [], precode := [], lds := none }, by decide +kernel⟩,
    ⟨(ready.portAs 3 0 2).puts [(Fld.PORT_CFG_DSX_EN 3, 1)], 3, { lanes := 4, rate := 6, flit := 2, cxl := true, cache := false, mem := true, partnerDown := true, reversed := false, inverted := [], requests := [], precode := [], lds := none }, by decide +kernel⟩,
    ⟨ready.portAs 3 1 2, 3, { lanes := 4, rate := 4, flit := 2, cxl := true, cache := false, mem := true, partnerDown := false, reversed := false, inverted := [], requests := [], precode := [], lds := none }, by decide +kernel⟩,
    ⟨ready.portAs 3 1 2, 3, { lanes := 2, rate := 6, flit := 2, cxl := true, cache := false, mem := true, partnerDown := false, reversed := false, inverted := [], requests := [], precode := [], lds := none }, 2, by decide +kernel⟩,
    ⟨(ready.portAs 3 1 6).modPort 3 fun x => { x with first := true, reached := false }, 3, by decide +kernel⟩,
    ⟨(ready.portAs 3 1 5).modPort 3 fun x => { x with first := true, reached := true }, 3, by decide +kernel⟩,
    ⟨ready.portAs 3 1 8, 3, by decide +kernel⟩,
    ⟨ready.portAs 3 1 5, 3, by decide +kernel⟩,
    ⟨let ready := ready.portAs 3 1 6; { ready with fab := { ready.fab with up := [] } }, 3, by decide +kernel⟩,
    ⟨ready.portAs 3 1 5, 3, by decide +kernel⟩,
    ⟨ready.portAs 3 1 5, 3, 2, by decide +kernel⟩⟩

theorem test_meets_DirectionalSleep :
    (∃ s : State, ∃ p : Port, ∃ q : Vdm, s.fabricRuns = true ∧ s.linkUp p.val = true ∧ s.get (Fld.PORT_STATUS_LINK p.val) ≠ 6 ∧ s.flag (Fld.PORT_CFG_DSX_EN p.val) = true ∧ 2 ≤ s.get (Fld.PORT_STATUS_FLIT p.val) ∧ q.headed .localReceiver = true ∧ q.proto = 0xD5 ∧ q.op = DsxOp.hello.code ∧ 1 ≤ q.ver ∧ q.arg % 16 ≤ 1 ∧ s.dsxNeg p.val = false) ∧
    (∃ s : State, ∃ p : Port, ∃ q : Vdm, s.fabricRuns = true ∧ s.linkUp p.val = true ∧ s.get (Fld.PORT_STATUS_LINK p.val) ≠ 6 ∧ s.flag (Fld.PORT_CFG_DSX_EN p.val) = true ∧ 2 ≤ s.get (Fld.PORT_STATUS_FLIT p.val) ∧ q.headed .localReceiver = true ∧ q.proto = 0xD5 ∧ q.op = DsxOp.hello.code ∧ 1 ≤ q.ver ∧ q.arg % 16 ≤ 1 ∧ s.dsxNeg p.val = true) ∧
    (∃ s : State, ∃ p : Port, ∃ q : Vdm, s.fabricRuns = true ∧ s.linkUp p.val = true ∧ s.get (Fld.PORT_STATUS_LINK p.val) ≠ 6 ∧ s.flag (Fld.PORT_CFG_DSX_EN p.val) = true ∧ 2 ≤ s.get (Fld.PORT_STATUS_FLIT p.val) ∧ q.headed .localReceiver = true ∧ q.proto = 0xD5 ∧ q.op = DsxOp.hello.code ∧ (q.ver < 1 ∨ 1 < q.arg % 16)) ∧
    (∃ s : State, ∃ p : Port, ∃ q : Vdm, s.fabricRuns = true ∧ s.linkUp p.val = true ∧ s.get (Fld.PORT_STATUS_LINK p.val) ≠ 6 ∧ q.headed .localReceiver = true ∧ q.proto = 0xD5 ∧ q.op = DsxOp.helloAck.code ∧ q.ver = 1 ∧ (s.portX p.val).hello = true ∧ (s.get (Fld.PORT_CFG_ROLE p.val) ≠ 2 ∨ s.clk.straps.modId.val ≠ q.seq)) ∧
    (∃ s : State, ∃ p : Port, ∃ q : Vdm, s.fabricRuns = true ∧ s.linkUp p.val = true ∧ s.get (Fld.PORT_STATUS_LINK p.val) ≠ 6 ∧ q.headed .localReceiver = true ∧ q.proto = 0xD5 ∧ q.op = DsxOp.helloAck.code ∧ q.ver = 1 ∧ (s.portX p.val).hello = true ∧ s.get (Fld.PORT_CFG_ROLE p.val) = 2 ∧ s.clk.straps.modId.val = q.seq) ∧
    (∃ s : State, ∃ p : Port, s.fabricRuns = true ∧ s.linkUp p.val = true ∧ s.get (Fld.PORT_STATUS_LINK p.val) ≠ 6 ∧ (s.portX p.val).hello = true) ∧
    (∃ s : State, ∃ p : Port, ∃ q : Vdm, s.fabricRuns = true ∧ s.linkUp p.val = true ∧ s.get (Fld.PORT_STATUS_LINK p.val) ≠ 6 ∧ q.headed .localReceiver = true ∧ (q.proto ≠ 0xD5 ∨ q.op ≠ DsxOp.hello.code)) ∧
    (∃ s : State, ∃ p : Port, ∃ q : Vdm, s.fabricRuns = true ∧ s.linkUp p.val = true ∧ s.get (Fld.PORT_STATUS_LINK p.val) ≠ 6 ∧ q.headed .localReceiver = false) ∧
    (∃ s : State, ∃ p : Port, ∃ q : Vdm, s.fabricRuns = true ∧ s.linkUp p.val = true ∧ s.get (Fld.PORT_STATUS_LINK p.val) ≠ 6 ∧ q.headed .localReceiver = true ∧ (q.proto ≠ 0xD5 ∨ q.op ≠ DsxOp.helloAck.code ∨ q.ver ≠ 1)) ∧
    (∃ s : State, ∃ p : Port, ∃ q : Vdm, s.fabricRuns = true ∧ s.linkUp p.val = true ∧ s.get (Fld.PORT_STATUS_LINK p.val) ≠ 6 ∧ q.headed .localReceiver = false) ∧
    (∃ s : State, ∃ p : Port, ∃ q : Vdm, s.fabricRuns = true ∧ s.linkUp p.val = true ∧ s.get (Fld.PORT_STATUS_LINK p.val) ≠ 6 ∧ q.headed .localReceiver = true ∧ (q.proto ≠ 0xD5 ∨ q.op ≠ DsxOp.sleepReq.code ∨ q.ver ≠ 1)) ∧
    (∃ s : State, ∃ p : Port, ∃ q : Vdm, s.fabricRuns = true ∧ s.linkUp p.val = true ∧ s.get (Fld.PORT_STATUS_LINK p.val) ≠ 6 ∧ q.headed .localReceiver = false) ∧
    (∃ s : State, ∃ p : Port, ∃ q : Vdm, s.fabricRuns = true ∧ s.linkUp p.val = true ∧ s.get (Fld.PORT_STATUS_LINK p.val) ≠ 6 ∧ q.headed .localReceiver = true ∧ (q.proto ≠ 0xD5 ∨ q.op ≠ DsxOp.sleepAck.code ∨ q.ver ≠ 1)) ∧
    (∃ s : State, ∃ p : Port, ∃ q : Vdm, s.fabricRuns = true ∧ s.linkUp p.val = true ∧ s.get (Fld.PORT_STATUS_LINK p.val) ≠ 6 ∧ q.headed .localReceiver = false) ∧
    (∃ s : State, ∃ p : Port, ∃ q : Vdm, s.fabricRuns = true ∧ s.linkUp p.val = true ∧ s.get (Fld.PORT_STATUS_LINK p.val) ≠ 6 ∧ q.headed .localReceiver = true ∧ (q.proto ≠ 0xD5 ∨ q.op ≠ DsxOp.sleepNak.code ∨ q.ver ≠ 1)) ∧
    (∃ s : State, ∃ p : Port, ∃ q : Vdm, s.fabricRuns = true ∧ s.linkUp p.val = true ∧ s.get (Fld.PORT_STATUS_LINK p.val) ≠ 6 ∧ q.headed .localReceiver = false) ∧
    (∃ s : State, ∃ p : Port, ∃ q : Vdm, s.fabricRuns = true ∧ s.linkUp p.val = true ∧ s.get (Fld.PORT_STATUS_LINK p.val) ≠ 6 ∧ q.headed .localReceiver = true ∧ (q.proto ≠ 0xD5 ∨ q.op ≠ DsxOp.wakeReq.code ∨ q.ver ≠ 1)) ∧
    (∃ s : State, ∃ p : Port, ∃ q : Vdm, s.fabricRuns = true ∧ s.linkUp p.val = true ∧ s.get (Fld.PORT_STATUS_LINK p.val) ≠ 6 ∧ q.headed .localReceiver = false) ∧
    (∃ s : State, ∃ p : Port, ∃ m : Master, ∃ value : Word, s.fabricRuns = true ∧ s.linkUp p.val = true ∧ s.get (Fld.PORT_STATUS_LINK p.val) ≠ 6 ∧ s.takes m (0x10 + p.val / 4) = true ∧ s.present p.val = true ∧ value.toNat % 8 = 1 ∧ s.dsxNeg p.val = true ∧ s.dsxTx p.val = 0) ∧
    (∃ s : State, ∃ p : Port, ∃ m : Master, ∃ value : Word, s.fabricRuns = true ∧ s.linkUp p.val = true ∧ s.get (Fld.PORT_STATUS_LINK p.val) ≠ 6 ∧ s.takes m (0x10 + p.val / 4) = true ∧ s.present p.val = true ∧ value.toNat % 8 = 2 ∧ s.dsxNeg p.val = true ∧ s.dsxRx p.val = 0 ∧ s.dsxTx p.val = 0) ∧
    (∃ s : State, ∃ p : Port, s.fabricRuns = true ∧ s.linkUp p.val = true ∧ s.get (Fld.PORT_STATUS_LINK p.val) ≠ 6 ∧ s.get (Fld.PORT_DSX_CFG_TX_IDLE p.val) ≠ 0 ∧ s.dsxNeg p.val = true ∧ s.dsxTx p.val = 0) ∧
    (∃ s : State, ∃ p : Port, s.fabricRuns = true ∧ s.linkUp p.val = true ∧ s.get (Fld.PORT_STATUS_LINK p.val) ≠ 6 ∧ s.get (Fld.PORT_DSX_CFG_RX_IDLE p.val) ≠ 0 ∧ s.dsxNeg p.val = true ∧ s.dsxRx p.val = 0 ∧ s.dsxTx p.val = 0) ∧
    (∃ s : State, ∃ p : Port, ∃ q : Vdm, s.fabricRuns = true ∧ s.linkUp p.val = true ∧ s.get (Fld.PORT_STATUS_LINK p.val) ≠ 6 ∧ q.headed .localReceiver = true ∧ q.proto = 0xD5 ∧ q.op = DsxOp.sleepReq.code ∧ q.ver = 1 ∧ s.dsxNeg p.val = false ∧ s.dsxTx p.val = 0) ∧
    (∃ s : State, ∃ p : Port, ∃ q : Vdm, s.fabricRuns = true ∧ s.linkUp p.val = true ∧ s.get (Fld.PORT_STATUS_LINK p.val) ≠ 6 ∧ q.headed .localReceiver = true ∧ q.proto = 0xD5 ∧ q.op = DsxOp.sleepReq.code ∧ q.ver = 1 ∧ s.dsxNeg p.val = true ∧ s.dsxTx p.val = 0 ∧ (s.get (Fld.PORT_STATUS_LINK p.val) = 7 ∨ s.get (Fld.PORT_STATUS_LINK p.val) = 8)) ∧
    (∃ s : State, ∃ p : Port, ∃ q : Vdm, s.fabricRuns = true ∧ s.linkUp p.val = true ∧ s.get (Fld.PORT_STATUS_LINK p.val) ≠ 6 ∧ q.headed .localReceiver = true ∧ q.proto = 0xD5 ∧ q.op = DsxOp.sleepReq.code ∧ q.ver = 1 ∧ s.dsxNeg p.val = true ∧ s.get (Fld.PORT_STATUS_LINK p.val) = 5 ∧ s.dsxTx p.val = 1 ∧ ((s.portX p.val).txSeq ≠ none ∨ (s.portX p.val).rxSeq ≠ none) ∧ s.flag (Fld.PORT_DSX_STATUS_UPSTREAM p.val) = true) ∧
    (∃ s : State, ∃ p : Port, ∃ q : Vdm, ∃ k : Nat, s.fabricRuns = true ∧ s.linkUp p.val = true ∧ s.get (Fld.PORT_STATUS_LINK p.val) ≠ 6 ∧ q.headed .localReceiver = true ∧ q.proto = 0xD5 ∧ q.op = DsxOp.sleepReq.code ∧ q.ver = 1 ∧ s.dsxNeg p.val = true ∧ s.get (Fld.PORT_STATUS_LINK p.val) = 5 ∧ s.dsxTx p.val = 1 ∧ (s.portX p.val).txSeq = some k ∧ s.flag (Fld.PORT_DSX_STATUS_UPSTREAM p.val) = false ∧ q.arg % 2 = 0 ∧ s.dsxRx p.val = 0) ∧
    (∃ s : State, ∃ p : Port, ∃ q : Vdm, s.fabricRuns = true ∧ s.linkUp p.val = true ∧ s.get (Fld.PORT_STATUS_LINK p.val) ≠ 6 ∧ q.headed .localReceiver = true ∧ q.proto = 0xD5 ∧ q.op = DsxOp.sleepReq.code ∧ q.ver = 1 ∧ s.dsxNeg p.val = true ∧ s.get (Fld.PORT_STATUS_LINK p.val) = 5 ∧ (s.portX p.val).txSeq = none ∧ (s.portX p.val).rxSeq = none ∧ q.arg % 2 = 0 ∧ s.dsxTx p.val = 0 ∧ s.dsxRx p.val = 0) ∧
    (∃ s : State, ∃ p : Port, ∃ q : Vdm, s.fabricRuns = true ∧ s.linkUp p.val = true ∧ s.get (Fld.PORT_STATUS_LINK p.val) ≠ 6 ∧ q.headed .localReceiver = true ∧ q.proto = 0xD5 ∧ q.op = DsxOp.sleepReq.code ∧ q.ver = 1 ∧ s.dsxNeg p.val = true ∧ s.get (Fld.PORT_STATUS_LINK p.val) = 5 ∧ (s.portX p.val).txSeq = none ∧ (s.portX p.val).rxSeq = none ∧ q.arg % 2 = 1 ∧ s.dsxTx p.val = 0) ∧
    (∃ s : State, ∃ p : Port, ∃ q : Vdm, s.fabricRuns = true ∧ s.linkUp p.val = true ∧ s.get (Fld.PORT_STATUS_LINK p.val) ≠ 6 ∧ q.headed .localReceiver = true ∧ q.proto = 0xD5 ∧ q.op = DsxOp.sleepAck.code ∧ q.ver = 1 ∧ s.dsxNeg p.val = true ∧ q.arg % 2 = 0 ∧ (s.portX p.val).txSeq = some q.seq) ∧
    (∃ s : State, ∃ p : Port, ∃ q : Vdm, s.fabricRuns = true ∧ s.linkUp p.val = true ∧ s.get (Fld.PORT_STATUS_LINK p.val) ≠ 6 ∧ q.headed .localReceiver = true ∧ q.proto = 0xD5 ∧ q.op = DsxOp.sleepAck.code ∧ q.ver = 1 ∧ s.dsxNeg p.val = true ∧ q.arg % 2 = 1 ∧ (s.portX p.val).rxSeq = some q.seq) ∧
    (∃ s : State, ∃ p : Port, ∃ q : Vdm, s.fabricRuns = true ∧ s.linkUp p.val = true ∧ s.get (Fld.PORT_STATUS_LINK p.val) ≠ 6 ∧ q.headed .localReceiver = true ∧ q.proto = 0xD5 ∧ q.op = DsxOp.sleepAck.code ∧ q.ver = 1 ∧ q.arg % 2 = 0 ∧ (s.portX p.val).txSeq ≠ some q.seq ∧ ((false, q.seq) ∉ (s.portX p.val).withdrawn)) ∧
    (∃ s : State, ∃ p : Port, ∃ q : Vdm, s.fabricRuns = true ∧ s.linkUp p.val = true ∧ s.get (Fld.PORT_STATUS_LINK p.val) ≠ 6 ∧ q.headed .localReceiver = true ∧ q.proto = 0xD5 ∧ q.op = DsxOp.sleepAck.code ∧ q.ver = 1 ∧ q.arg % 2 = 0 ∧ (s.portX p.val).txSeq ≠ some q.seq ∧ (s.portX p.val).withdrawn = [(false, q.seq)]) ∧
    (∃ s : State, ∃ p : Port, ∃ q : Vdm, s.fabricRuns = true ∧ s.linkUp p.val = true ∧ s.get (Fld.PORT_STATUS_LINK p.val) ≠ 6 ∧ q.headed .localReceiver = true ∧ q.proto = 0xD5 ∧ q.op = DsxOp.sleepNak.code ∧ q.ver = 1 ∧ s.dsxNeg p.val = true ∧ q.arg % 2 = 0 ∧ (s.portX p.val).txSeq = some q.seq) ∧
    (∃ s : State, ∃ p : Port, ∃ q : Vdm, s.fabricRuns = true ∧ s.linkUp p.val = true ∧ s.get (Fld.PORT_STATUS_LINK p.val) ≠ 6 ∧ q.headed .localReceiver = true ∧ q.proto = 0xD5 ∧ q.op = DsxOp.sleepNak.code ∧ q.ver = 1 ∧ s.dsxNeg p.val = true ∧ q.arg % 2 = 1 ∧ (s.portX p.val).rxSeq = some q.seq) ∧
    (∃ s : State, ∃ p : Port, s.fabricRuns = true ∧ s.linkUp p.val = true ∧ s.get (Fld.PORT_STATUS_LINK p.val) ≠ 6 ∧ (s.portX p.val).txSeq ≠ none ∧ s.get (Fld.PORT_DSX_STATUS_TIMEOUTS p.val) < 2) ∧
    (∃ s : State, ∃ p : Port, s.fabricRuns = true ∧ s.linkUp p.val = true ∧ s.get (Fld.PORT_STATUS_LINK p.val) ≠ 6 ∧ (s.portX p.val).rxSeq ≠ none ∧ 2 ≤ s.get (Fld.PORT_DSX_STATUS_TIMEOUTS p.val)) ∧
    (∃ s : State, ∃ p : Port, s.fabricRuns = true ∧ s.linkUp p.val = true ∧ s.get (Fld.PORT_STATUS_LINK p.val) ≠ 6 ∧ s.dsxRx p.val = 2) ∧
    (∃ s : State, ∃ p : Port, s.fabricRuns = true ∧ s.linkUp p.val = true ∧ s.get (Fld.PORT_STATUS_LINK p.val) ≠ 6 ∧ s.dsxRx p.val = 3) ∧
    (∃ s : State, ∃ p : Port, s.fabricRuns = true ∧ s.linkUp p.val = true ∧ s.get (Fld.PORT_STATUS_LINK p.val) ≠ 6 ∧ s.dsxRx p.val = 4) ∧
    (∃ s : State, ∃ p : Port, s.fabricRuns = true ∧ s.linkUp p.val = true ∧ s.get (Fld.PORT_STATUS_LINK p.val) ≠ 6 ∧ s.dsxRx p.val = 2) ∧
    (∃ s : State, ∃ p : Port, ∃ m : Master, ∃ value : Word, s.fabricRuns = true ∧ s.linkUp p.val = true ∧ s.get (Fld.PORT_STATUS_LINK p.val) ≠ 6 ∧ s.takes m (0x10 + p.val / 4) = true ∧ s.present p.val = true ∧ s.dsxNeg p.val = true ∧ value.toNat % 8 = 3 ∧ s.dsxTx p.val = 3) ∧
    (∃ s : State, ∃ p : Port, ∃ m : Master, ∃ value : Word, s.fabricRuns = true ∧ s.linkUp p.val = true ∧ s.get (Fld.PORT_STATUS_LINK p.val) ≠ 6 ∧ s.takes m (0x10 + p.val / 4) = true ∧ s.present p.val = true ∧ s.dsxNeg p.val = true ∧ value.toNat % 8 = 4 ∧ s.dsxTx p.val = 0) ∧
    (∃ s : State, ∃ p : Port, ∃ m : Master, s.fabricRuns = true ∧ s.linkUp p.val = true ∧ s.get (Fld.PORT_STATUS_LINK p.val) ≠ 6 ∧ s.takes m (0x10 + p.val / 4) = true ∧ s.present p.val = true ∧ s.dsxNeg p.val = false) ∧
    (∃ s : State, ∃ p : Port, ∃ q : Vdm, s.fabricRuns = true ∧ s.linkUp p.val = true ∧ s.get (Fld.PORT_STATUS_LINK p.val) ≠ 6 ∧ q.headed .localReceiver = true ∧ q.proto = 0xD5 ∧ q.op = DsxOp.wakeReq.code ∧ q.ver = 1 ∧ s.dsxNeg p.val = true ∧ s.dsxTx p.val = 3) ∧
    (∃ s : State, ∃ p : Port, ∃ q : Vdm, s.fabricRuns = true ∧ s.linkUp p.val = true ∧ s.get (Fld.PORT_STATUS_LINK p.val) ≠ 6 ∧ q.headed .localReceiver = true ∧ q.proto = 0xD5 ∧ q.op = DsxOp.wakeReq.code ∧ q.ver = 1 ∧ s.dsxNeg p.val = true ∧ s.dsxTx p.val = 0) ∧
    (∃ s : State, ∃ p : Port, ∃ q : Vdm, ∃ k : Nat, s.fabricRuns = true ∧ s.linkUp p.val = true ∧ s.get (Fld.PORT_STATUS_LINK p.val) ≠ 6 ∧ q.headed .localReceiver = true ∧ q.proto = 0xD5 ∧ q.op = DsxOp.wakeReq.code ∧ q.ver = 1 ∧ s.dsxNeg p.val = true ∧ s.dsxTx p.val = 1 ∧ (s.portX p.val).txSeq = some k) ∧
    (∃ s : State, ∃ p : Port, ∃ q : Vdm, s.fabricRuns = true ∧ s.linkUp p.val = true ∧ s.get (Fld.PORT_STATUS_LINK p.val) ≠ 6 ∧ q.headed .localReceiver = true ∧ q.proto = 0xD5 ∧ q.op = DsxOp.wakeReq.code ∧ q.ver = 1 ∧ s.dsxNeg p.val = true ∧ s.dsxTx p.val = 2) ∧
    (∃ s : State, ∃ p : Port, s.fabricRuns = true ∧ s.linkUp p.val = true ∧ s.get (Fld.PORT_STATUS_LINK p.val) ≠ 6 ∧ s.dsxNeg p.val = true ∧ s.dsxTx p.val = 3) ∧
    (∃ s : State, ∃ p : Port, s.fabricRuns = true ∧ s.linkUp p.val = true ∧ s.get (Fld.PORT_STATUS_LINK p.val) ≠ 6 ∧ s.dsxNeg p.val = true ∧ s.dsxTx p.val = 3) ∧
    (∃ s : State, ∃ p : Port, s.fabricRuns = true ∧ s.linkUp p.val = true ∧ s.get (Fld.PORT_STATUS_LINK p.val) ≠ 6 ∧ s.dsxNeg p.val = true ∧ s.dsxTx p.val = 2) ∧
    (∃ s : State, ∃ p : Port, s.fabricRuns = true ∧ s.linkUp p.val = true ∧ s.get (Fld.PORT_STATUS_LINK p.val) ≠ 6 ∧ s.dsxTx p.val = 4) :=
  ⟨⟨((ready.portAs 3 1 5).puts [(Fld.PORT_DSX_STATUS_NEG 3, 1), (Fld.PORT_CFG_DSX_EN 3, 1), (Fld.PORT_DSX_STATUS_NEG 3, 0), (Fld.PORT_STATUS_FLIT 3, 2)]), 3, dsxMessage .hello 1 9 49, by decide +kernel⟩,
    ⟨((ready.portAs 3 1 5).puts [(Fld.PORT_DSX_STATUS_NEG 3, 1), (Fld.PORT_CFG_DSX_EN 3, 1), (Fld.PORT_DSX_STATUS_TX 3, 3), (Fld.PORT_DSX_STATUS_RX 3, 3), (Fld.PORT_STATUS_FLIT 3, 2)]), 3, dsxMessage .hello 1 9 49, by decide +kernel⟩,
    ⟨((ready.portAs 3 1 5).puts [(Fld.PORT_DSX_STATUS_NEG 3, 1), (Fld.PORT_CFG_DSX_EN 3, 1), (Fld.PORT_STATUS_FLIT 3, 2)]), 3, dsxMessage .hello 1 9 2, by decide +kernel⟩,
    ⟨(((ready.portAs 3 1 5).puts [(Fld.PORT_DSX_STATUS_NEG 3, 1), (Fld.PORT_CFG_DSX_EN 3, 1)]).modPort 3 fun x => { x with hello := true }), 3, dsxMessage .helloAck 1 9 49, by decide +kernel⟩,
    ⟨(((ready.portAs 3 1 5).puts [(Fld.PORT_DSX_STATUS_NEG 3, 1), (Fld.PORT_CFG_DSX_EN 3, 1), (Fld.PORT_CFG_ROLE 3, 2)]).modPort 3 fun x => { x with hello := true }), 3, dsxMessage .helloAck 1 ((((ready.portAs 3 1 5).puts [(Fld.PORT_DSX_STATUS_NEG 3, 1), (Fld.PORT_CFG_DSX_EN 3, 1), (Fld.PORT_CFG_ROLE 3, 2)]).modPort 3 fun x => { x with hello := true })).clk.straps.modId.val 0x31, by decide +kernel⟩,
    ⟨(((ready.portAs 3 1 5).puts [(Fld.PORT_DSX_STATUS_NEG 3, 1), (Fld.PORT_CFG_DSX_EN 3, 1)]).modPort 3 fun x => { x with hello := true }), 3, by decide +kernel⟩,
    ⟨((ready.portAs 3 1 5).puts [(Fld.PORT_DSX_STATUS_NEG 3, 1), (Fld.PORT_CFG_DSX_EN 3, 1)]), 3, Vdm.of .localReceiver 0xD5 9 1 4 0, by decide +kernel⟩,
    ⟨((ready.portAs 3 1 5).puts [(Fld.PORT_DSX_STATUS_NEG 3, 1), (Fld.PORT_CFG_DSX_EN 3, 1)]), 3, Vdm.of .toRoot 0xD5 1 1 4 0, by decide +kernel⟩,
    ⟨((ready.portAs 3 1 5).puts [(Fld.PORT_DSX_STATUS_NEG 3, 1), (Fld.PORT_CFG_DSX_EN 3, 1)]), 3, Vdm.of .localReceiver 0xD5 9 1 4 0, by decide +kernel⟩,
    ⟨((ready.portAs 3 1 5).puts [(Fld.PORT_DSX_STATUS_NEG 3, 1), (Fld.PORT_CFG_DSX_EN 3, 1)]), 3, Vdm.of .toRoot 0xD5 1 1 4 0, by decide +kernel⟩,
    ⟨((ready.portAs 3 1 5).puts [(Fld.PORT_DSX_STATUS_NEG 3, 1), (Fld.PORT_CFG_DSX_EN 3, 1)]), 3, Vdm.of .localReceiver 0xD5 9 1 4 0, by decide +kernel⟩,
    ⟨((ready.portAs 3 1 5).puts [(Fld.PORT_DSX_STATUS_NEG 3, 1), (Fld.PORT_CFG_DSX_EN 3, 1)]), 3, Vdm.of .toRoot 0xD5 1 1 4 0, by decide +kernel⟩,
    ⟨((ready.portAs 3 1 5).puts [(Fld.PORT_DSX_STATUS_NEG 3, 1), (Fld.PORT_CFG_DSX_EN 3, 1)]), 3, Vdm.of .localReceiver 0xD5 9 1 4 0, by decide +kernel⟩,
    ⟨((ready.portAs 3 1 5).puts [(Fld.PORT_DSX_STATUS_NEG 3, 1), (Fld.PORT_CFG_DSX_EN 3, 1)]), 3, Vdm.of .toRoot 0xD5 1 1 4 0, by decide +kernel⟩,
    ⟨((ready.portAs 3 1 5).puts [(Fld.PORT_DSX_STATUS_NEG 3, 1), (Fld.PORT_CFG_DSX_EN 3, 1)]), 3, Vdm.of .localReceiver 0xD5 9 1 4 0, by decide +kernel⟩,
    ⟨((ready.portAs 3 1 5).puts [(Fld.PORT_DSX_STATUS_NEG 3, 1), (Fld.PORT_CFG_DSX_EN 3, 1)]), 3, Vdm.of .toRoot 0xD5 1 1 4 0, by decide +kernel⟩,
    ⟨((ready.portAs 3 1 5).puts [(Fld.PORT_DSX_STATUS_NEG 3, 1), (Fld.PORT_CFG_DSX_EN 3, 1)]), 3, Vdm.of .localReceiver 0xD5 9 1 4 0, by decide +kernel⟩,
    ⟨((ready.portAs 3 1 5).puts [(Fld.PORT_DSX_STATUS_NEG 3, 1), (Fld.PORT_CFG_DSX_EN 3, 1)]), 3, Vdm.of .toRoot 0xD5 1 1 4 0, by decide +kernel⟩,
    ⟨((ready.portAs 3 1 5).puts [(Fld.PORT_DSX_STATUS_NEG 3, 1), (Fld.PORT_CFG_DSX_EN 3, 1)]), 3, .keeper 0, 1, by decide +kernel⟩,
    ⟨((ready.portAs 3 1 5).puts [(Fld.PORT_DSX_STATUS_NEG 3, 1), (Fld.PORT_CFG_DSX_EN 3, 1)]), 3, .keeper 0, 2, by decide +kernel⟩,
    ⟨((ready.portAs 3 1 5).puts [(Fld.PORT_DSX_STATUS_NEG 3, 1), (Fld.PORT_CFG_DSX_EN 3, 1), (Fld.PORT_DSX_CFG_TX_IDLE 3, 5)]), 3, by decide +kernel⟩,
    ⟨((ready.portAs 3 1 5).puts [(Fld.PORT_DSX_STATUS_NEG 3, 1), (Fld.PORT_CFG_DSX_EN 3, 1), (Fld.PORT_DSX_CFG_RX_IDLE 3, 5)]), 3, by decide +kernel⟩,
    ⟨((ready.portAs 3 1 5).puts [(Fld.PORT_DSX_STATUS_NEG 3, 1), (Fld.PORT_CFG_DSX_EN 3, 1), (Fld.PORT_DSX_STATUS_NEG 3, 0)]), 3, dsxMessage .sleepReq 1 9 0, by decide +kernel⟩,
    ⟨((ready.portAs 3 1 8).puts [(Fld.PORT_DSX_STATUS_NEG 3, 1), (Fld.PORT_CFG_DSX_EN 3, 1)]), 3, dsxMessage .sleepReq 1 9 0, by decide +kernel⟩,
    ⟨(((ready.portAs 3 1 5).puts [(Fld.PORT_DSX_STATUS_NEG 3, 1), (Fld.PORT_CFG_DSX_EN 3, 1), (Fld.PORT_DSX_STATUS_TX 3, 1), (Fld.PORT_DSX_STATUS_UPSTREAM 3, 1)]).modPort 3 fun x => { x with txSeq := some 4 }), 3, dsxMessage .sleepReq 1 9 0, by decide +kernel⟩,
    ⟨(((ready.portAs 3 1 5).puts [(Fld.PORT_DSX_STATUS_NEG 3, 1), (Fld.PORT_CFG_DSX_EN 3, 1), (Fld.PORT_DSX_STATUS_TX 3, 1)]).modPort 3 fun x => { x with txSeq := some 4 }), 3, dsxMessage .sleepReq 1 9 0, 4, by decide +kernel⟩,
    ⟨((ready.portAs 3 1 5).puts [(Fld.PORT_DSX_STATUS_NEG 3, 1), (Fld.PORT_CFG_DSX_EN 3, 1)]), 3, dsxMessage .sleepReq 1 9 0, by decide +kernel⟩,
    ⟨((ready.portAs 3 1 5).puts [(Fld.PORT_DSX_STATUS_NEG 3, 1), (Fld.PORT_CFG_DSX_EN 3, 1)]), 3, dsxMessage .sleepReq 1 9 1, by decide +kernel⟩,
    ⟨(((ready.portAs 3 1 5).puts [(Fld.PORT_DSX_STATUS_NEG 3, 1), (Fld.PORT_CFG_DSX_EN 3, 1), (Fld.PORT_DSX_STATUS_TX 3, 1)]).modPort 3 fun x => { x with txSeq := some 4 }), 3, dsxMessage .sleepAck 1 4 0, by decide +kernel⟩,
    ⟨(((ready.portAs 3 1 5).puts [(Fld.PORT_DSX_STATUS_NEG 3, 1), (Fld.PORT_CFG_DSX_EN 3, 1), (Fld.PORT_DSX_STATUS_RX 3, 1)]).modPort 3 fun x => { x with rxSeq := some 4 }), 3, dsxMessage .sleepAck 1 4 1, by decide +kernel⟩,
    ⟨((ready.portAs 3 1 5).puts [(Fld.PORT_DSX_STATUS_NEG 3, 1), (Fld.PORT_CFG_DSX_EN 3, 1)]), 3, dsxMessage .sleepAck 1 4 0, by decide +kernel⟩,
    ⟨(((ready.portAs 3 1 5).puts [(Fld.PORT_DSX_STATUS_NEG 3, 1), (Fld.PORT_CFG_DSX_EN 3, 1)]).modPort 3 fun x => { x with withdrawn := [(false, 4)] }), 3, dsxMessage .sleepAck 1 4 0, by decide +kernel⟩,
    ⟨(((ready.portAs 3 1 5).puts [(Fld.PORT_DSX_STATUS_NEG 3, 1), (Fld.PORT_CFG_DSX_EN 3, 1), (Fld.PORT_DSX_STATUS_TX 3, 1)]).modPort 3 fun x => { x with txSeq := some 4 }), 3, dsxMessage .sleepNak 1 4 0, by decide +kernel⟩,
    ⟨(((ready.portAs 3 1 5).puts [(Fld.PORT_DSX_STATUS_NEG 3, 1), (Fld.PORT_CFG_DSX_EN 3, 1), (Fld.PORT_DSX_STATUS_RX 3, 1)]).modPort 3 fun x => { x with rxSeq := some 4 }), 3, dsxMessage .sleepNak 1 4 1, by decide +kernel⟩,
    ⟨(((ready.portAs 3 1 5).puts [(Fld.PORT_DSX_STATUS_NEG 3, 1), (Fld.PORT_CFG_DSX_EN 3, 1), (Fld.PORT_DSX_STATUS_TX 3, 1), (Fld.PORT_DSX_STATUS_TIMEOUTS 3, 0)]).modPort 3 fun x => { x with txSeq := some 4 }), 3, by decide +kernel⟩,
    ⟨(((ready.portAs 3 1 5).puts [(Fld.PORT_DSX_STATUS_NEG 3, 1), (Fld.PORT_CFG_DSX_EN 3, 1), (Fld.PORT_DSX_STATUS_RX 3, 1), (Fld.PORT_DSX_STATUS_TIMEOUTS 3, 2)]).modPort 3 fun x => { x with rxSeq := some 4 }), 3, by decide +kernel⟩,
    ⟨((ready.portAs 3 1 5).puts [(Fld.PORT_DSX_STATUS_NEG 3, 1), (Fld.PORT_CFG_DSX_EN 3, 1), (Fld.PORT_DSX_STATUS_RX 3, 2)]), 3, by decide +kernel⟩,
    ⟨((ready.portAs 3 1 5).puts [(Fld.PORT_DSX_STATUS_NEG 3, 1), (Fld.PORT_CFG_DSX_EN 3, 1), (Fld.PORT_DSX_STATUS_RX 3, 3)]), 3, by decide +kernel⟩,
    ⟨((ready.portAs 3 1 5).puts [(Fld.PORT_DSX_STATUS_NEG 3, 1), (Fld.PORT_CFG_DSX_EN 3, 1), (Fld.PORT_DSX_STATUS_RX 3, 4)]), 3, by decide +kernel⟩,
    ⟨((ready.portAs 3 1 5).puts [(Fld.PORT_DSX_STATUS_NEG 3, 1), (Fld.PORT_CFG_DSX_EN 3, 1), (Fld.PORT_DSX_STATUS_RX 3, 2)]), 3, by decide +kernel⟩,
    ⟨((ready.portAs 3 1 5).puts [(Fld.PORT_DSX_STATUS_NEG 3, 1), (Fld.PORT_CFG_DSX_EN 3, 1), (Fld.PORT_DSX_STATUS_TX 3, 3)]), 3, .keeper 0, 3, by decide +kernel⟩,
    ⟨((ready.portAs 3 1 5).puts [(Fld.PORT_DSX_STATUS_NEG 3, 1), (Fld.PORT_CFG_DSX_EN 3, 1)]), 3, .keeper 0, 4, by decide +kernel⟩,
    ⟨((ready.portAs 3 1 5).puts [(Fld.PORT_DSX_STATUS_NEG 3, 1), (Fld.PORT_CFG_DSX_EN 3, 1), (Fld.PORT_DSX_STATUS_NEG 3, 0)]), 3, .keeper 0, by decide +kernel⟩,
    ⟨((ready.portAs 3 1 5).puts [(Fld.PORT_DSX_STATUS_NEG 3, 1), (Fld.PORT_CFG_DSX_EN 3, 1), (Fld.PORT_DSX_STATUS_TX 3, 3)]), 3, dsxMessage .wakeReq 1 0 0, by decide +kernel⟩,
    ⟨((ready.portAs 3 1 5).puts [(Fld.PORT_DSX_STATUS_NEG 3, 1), (Fld.PORT_CFG_DSX_EN 3, 1), (Fld.PORT_DSX_STATUS_TX 3, 0)]), 3, dsxMessage .wakeReq 1 0 0, by decide +kernel⟩,
    ⟨(((ready.portAs 3 1 5).puts [(Fld.PORT_DSX_STATUS_NEG 3, 1), (Fld.PORT_CFG_DSX_EN 3, 1), (Fld.PORT_DSX_STATUS_TX 3, 1)]).modPort 3 fun x => { x with txSeq := some 4 }), 3, dsxMessage .wakeReq 1 0 0, 4, by decide +kernel⟩,
    ⟨((ready.portAs 3 1 5).puts [(Fld.PORT_DSX_STATUS_NEG 3, 1), (Fld.PORT_CFG_DSX_EN 3, 1), (Fld.PORT_DSX_STATUS_TX 3, 2)]), 3, dsxMessage .wakeReq 1 0 0, by decide +kernel⟩,
    ⟨((ready.portAs 3 1 5).puts [(Fld.PORT_DSX_STATUS_NEG 3, 1), (Fld.PORT_CFG_DSX_EN 3, 1), (Fld.PORT_DSX_STATUS_TX 3, 3)]), 3, by decide +kernel⟩,
    ⟨((ready.portAs 3 1 5).puts [(Fld.PORT_DSX_STATUS_NEG 3, 1), (Fld.PORT_CFG_DSX_EN 3, 1), (Fld.PORT_DSX_STATUS_TX 3, 3)]), 3, by decide +kernel⟩,
    ⟨((ready.portAs 3 1 5).puts [(Fld.PORT_DSX_STATUS_NEG 3, 1), (Fld.PORT_CFG_DSX_EN 3, 1), (Fld.PORT_DSX_STATUS_TX 3, 2)]), 3, by decide +kernel⟩,
    ⟨((ready.portAs 3 1 5).puts [(Fld.PORT_DSX_STATUS_NEG 3, 1), (Fld.PORT_CFG_DSX_EN 3, 1), (Fld.PORT_DSX_STATUS_TX 3, 4)]), 3, by decide +kernel⟩⟩

theorem test_meets_LaneFailureAndCalibration :
    (∃ s : State, ∃ i : LaneIx, ∃ p : Nat, s.fabricRuns = true ∧ i.val < 256 ∧ s.laneLive i.val = true ∧ s.flag (Fld.LANE_STATUS_FAILED i.val) = false ∧ s.portOfLane i.val = some p ∧ p < 64 ∧ (i.val ∈ s.portLanes p) ∧ (∀ q : Fin 64, q.val ≠ p → i.val ∈ s.portLanes q.val → s.portEn q.val = false) ∧ s.portEn p = true ∧ s.portHeld p = false ∧ s.carries i.val = true) ∧
    (∃ s : State, ∃ i : LaneIx, ∃ p : Nat, s.fabricRuns = true ∧ i.val < 256 ∧ s.laneLive i.val = true ∧ s.flag (Fld.LANE_STATUS_FAILED i.val) = false ∧ s.portOfLane i.val = some p ∧ p < 64 ∧ (i.val ∈ s.portLanes p) ∧ (∀ q : Fin 64, q.val ≠ p → i.val ∈ s.portLanes q.val → s.portEn q.val = false) ∧ s.portEn p = true ∧ s.portHeld p = false) ∧
    (∃ s : State, ∃ i : LaneIx, ∃ p : Nat, s.fabricRuns = true ∧ i.val < 256 ∧ s.laneLive i.val = true ∧ s.flag (Fld.LANE_STATUS_FAILED i.val) = false ∧ s.portOfLane i.val = some p ∧ p < 64 ∧ (i.val ∈ s.portLanes p) ∧ (∀ q : Fin 64, q.val ≠ p → i.val ∈ s.portLanes q.val → s.portEn q.val = false) ∧ s.portEn p = true ∧ s.portHeld p = false ∧ s.snrLow i.val = true) ∧
    (∃ s : State, ∃ i : LaneIx, s.fabricRuns = true ∧ s.carries i.val = false) ∧
    (∃ s : State, ∃ i : LaneIx, s.fabricRuns = true ∧ s.snrLow i.val = false) ∧
    (∃ s : State, ∃ i : LaneIx, s.fabricRuns = true ∧ s.laneLive i.val = false) ∧
    (∃ s : State, ∃ i : LaneIx, s.fabricRuns = true ∧ s.laneLive i.val = false) ∧
    (∃ s : State, ∃ i : LaneIx, s.fabricRuns = true ∧ s.laneLive i.val = false) ∧
    (∃ s : State, ∃ i : LaneIx, ∃ e : LaneErrors, ∃ p : Nat, s.fabricRuns = true ∧ i.val < 256 ∧ s.laneLive i.val = true ∧ s.flag (Fld.LANE_STATUS_FAILED i.val) = false ∧ s.portOfLane i.val = some p ∧ p < 64 ∧ (i.val ∈ s.portLanes p) ∧ (∀ q : Fin 64, q.val ≠ p → i.val ∈ s.portLanes q.val → s.portEn q.val = false) ∧ s.portEn p = true ∧ s.portHeld p = false ∧ s.errorLimit i.val < mget 0 s.fab.lanes.errs i.val + s.errorEvents i.val e) ∧
    (∃ s : State, ∃ i : LaneIx, ∃ e : LaneErrors, s.fabricRuns = true ∧ s.laneLive i.val = true ∧ mget 0 s.fab.lanes.errs i.val + s.errorEvents i.val e ≤ s.errorLimit i.val) ∧
    (∃ s : State, ∃ p : Port, s.fabricRuns = true ∧ s.portEn p.val = true) ∧
    (∃ s : State, ∃ i : LaneIx, ∃ e : LaneErrors, s.fabricRuns = true ∧ s.laneLive i.val = true ∧ mget 0 s.fab.lanes.errs i.val + s.errorEvents i.val e ≤ s.errorLimit i.val) ∧
    (∃ s : State, ∃ i : LaneIx, ∃ e : LaneErrors, ∃ p : Nat, s.fabricRuns = true ∧ i.val < 256 ∧ s.laneLive i.val = true ∧ s.flag (Fld.LANE_STATUS_FAILED i.val) = false ∧ s.portOfLane i.val = some p ∧ p < 64 ∧ (i.val ∈ s.portLanes p) ∧ (∀ q : Fin 64, q.val ≠ p → i.val ∈ s.portLanes q.val → s.portEn q.val = false) ∧ s.portEn p = true ∧ s.portHeld p = false ∧ s.errorLimit i.val < mget 0 s.fab.lanes.errs i.val + s.errorEvents i.val e) ∧
    (∃ s : State, ∃ i : LaneIx, s.fabricRuns = true ∧ s.calibrating i.val = true) ∧
    (∃ s : State, ∃ i : LaneIx, s.fabricRuns = true ∧ s.calibrating i.val = false) ∧
    (∃ s : State, ∃ i : LaneIx, ∃ p : Nat, s.fabricRuns = true ∧ (i.val ∈ s.fab.lanes.cal) ∧ s.testOp i.val = none ∧ s.portOfLane i.val = some p ∧ s.get (Fld.PORT_STATUS_LINK p) = 9 ∧ s.portEn p = true ∧ s.portHeld p = false ∧ (∀ j ∈ s.portLanes p, (j ∈ s.fab.lanes.cal → j = i.val) ∧ s.testOp j = none)) ∧
    (∃ s : State, ∃ i : LaneIx, ∃ p : Nat, ∃ j : Nat, s.fabricRuns = true ∧ (i.val ∈ s.fab.lanes.cal) ∧ s.testOp i.val = none ∧ s.portOfLane i.val = some p ∧ (j ∈ s.portLanes p) ∧ (j ∈ s.fab.lanes.cal) ∧ j ≠ i.val) ∧
    (∃ s : State, ∃ i : LaneIx, ∃ p : Nat, s.fabricRuns = true ∧ (i.val ∈ s.fab.lanes.cal) ∧ s.testOp i.val = none ∧ s.portOfLane i.val = some p ∧ p < 64 ∧ s.portEn p = true ∧ s.portHeld p = false ∧ s.linkUp p = false) ∧
    (∃ s : State, ∃ i : LaneIx, s.fabricRuns = true ∧ s.flag (Fld.LANE_STATUS_SIG_DET i.val) = true ∧ 2 < s.laneRate i.val ∧ s.flag (Fld.LANE_CFG_ADAPT_FREEZE i.val) = false) ∧
    (∃ s : State, ∃ i : LaneIx, ∃ k : Fin 16, s.fabricRuns = true ∧ s.flag (Fld.LANE_STATUS_SIG_DET i.val) = true ∧ 2 < s.laneRate i.val ∧ s.flag (Fld.LANE_CFG_ADAPT_FREEZE i.val) = false ∧ k.val ≠ 3) ∧
    (∃ s : State, ∃ i : LaneIx, s.fabricRuns = true ∧ s.flag (Fld.LANE_STATUS_SIG_DET i.val) = true ∧ 2 < s.laneRate i.val ∧ s.flag (Fld.LANE_CFG_ADAPT_FREEZE i.val) = true) :=
  ⟨⟨((ready.portAs 3 1 5).puts [(Fld.LANE_STATUS_FAILED 12, 0), (Fld.LANE_STATUS_SIG_DET 12, 1), (Fld.LANE_STATUS_RATE 12, 6), (Fld.LANE_FAIL_CFG_WIN 12, 30), (Fld.LANE_FAIL_CFG_LIMIT_FEC 12, 20)]), 12, 3, by decide +kernel⟩,
    ⟨((ready.portAs 3 1 5).puts [(Fld.LANE_STATUS_FAILED 12, 0), (Fld.LANE_STATUS_SIG_DET 12, 1), (Fld.LANE_STATUS_RATE 12, 6), (Fld.LANE_FAIL_CFG_WIN 12, 30), (Fld.LANE_FAIL_CFG_LIMIT_FEC 12, 20)]), 12, 3, by decide +kernel⟩,
    ⟨((ready.portAs 3 1 5).puts [(Fld.LANE_STATUS_FAILED 12, 0), (Fld.LANE_STATUS_SIG_DET 12, 1), (Fld.LANE_STATUS_RATE 12, 6), (Fld.LANE_FAIL_CFG_WIN 12, 30), (Fld.LANE_FAIL_CFG_LIMIT_FEC 12, 20), (Fld.LANE_SNR_CFG_SNR_FAIL_PAM4 12, 90), (Fld.LANE_EQ_STATUS_SNR 12, 10)]), 12, 3, by decide +kernel⟩,
    ⟨((ready.portAs 3 1 8).puts [(Fld.LANE_STATUS_FAILED 12, 0), (Fld.LANE_STATUS_SIG_DET 12, 1), (Fld.LANE_STATUS_RATE 12, 6), (Fld.LANE_FAIL_CFG_WIN 12, 30), (Fld.LANE_FAIL_CFG_LIMIT_FEC 12, 20)]), 12, by decide +kernel⟩,
    ⟨((ready.portAs 3 1 5).puts [(Fld.LANE_STATUS_FAILED 12, 0), (Fld.LANE_STATUS_SIG_DET 12, 1), (Fld.LANE_STATUS_RATE 12, 6), (Fld.LANE_FAIL_CFG_WIN 12, 30), (Fld.LANE_FAIL_CFG_LIMIT_FEC 12, 20), (Fld.LANE_SNR_CFG_SNR_FAIL_PAM4 12, 9), (Fld.LANE_EQ_STATUS_SNR 12, 10)]), 12, by decide +kernel⟩,
    ⟨((ready.portAs 3 1 5).puts [(Fld.LANE_STATUS_FAILED 12, 0), (Fld.LANE_STATUS_SIG_DET 12, 1), (Fld.LANE_STATUS_RATE 12, 6), (Fld.LANE_FAIL_CFG_WIN 12, 30), (Fld.LANE_FAIL_CFG_LIMIT_FEC 12, 20), (Fld.PORT_CTL_HOLD 3, 1)]), 12, by decide +kernel⟩,
    ⟨((ready.portAs 3 1 5).puts [(Fld.LANE_STATUS_FAILED 12, 0), (Fld.LANE_STATUS_SIG_DET 12, 1), (Fld.LANE_STATUS_RATE 12, 6), (Fld.LANE_FAIL_CFG_WIN 12, 30), (Fld.LANE_FAIL_CFG_LIMIT_FEC 12, 20), (Fld.PORT_CTL_HOLD 3, 1)]), 12, by decide +kernel⟩,
    ⟨((ready.portAs 3 1 5).puts [(Fld.LANE_STATUS_FAILED 12, 0), (Fld.LANE_STATUS_SIG_DET 12, 1), (Fld.LANE_STATUS_RATE 12, 6), (Fld.LANE_FAIL_CFG_WIN 12, 30), (Fld.LANE_FAIL_CFG_LIMIT_FEC 12, 20), (Fld.PORT_CTL_HOLD 3, 1)]), 12, by decide +kernel⟩,
    ⟨((ready.portAs 3 1 5).puts [(Fld.LANE_STATUS_FAILED 12, 0), (Fld.LANE_STATUS_SIG_DET 12, 1), (Fld.LANE_STATUS_RATE 12, 6), (Fld.LANE_FAIL_CFG_WIN 12, 30), (Fld.LANE_FAIL_CFG_LIMIT_FEC 12, 20)]), 12, ⟨[], [], 2000, 0⟩, 3, by decide +kernel⟩,
    ⟨((ready.portAs 3 1 5).puts [(Fld.LANE_STATUS_FAILED 12, 0), (Fld.LANE_STATUS_SIG_DET 12, 1), (Fld.LANE_STATUS_RATE 12, 6), (Fld.LANE_FAIL_CFG_WIN 12, 30), (Fld.LANE_FAIL_CFG_LIMIT_FEC 12, 20)]), 12, ⟨[], [], 2, 0⟩, by decide +kernel⟩,
    ⟨((ready.portAs 3 1 5).puts [(Fld.LANE_STATUS_FAILED 12, 0), (Fld.LANE_STATUS_SIG_DET 12, 1), (Fld.LANE_STATUS_RATE 12, 6), (Fld.LANE_FAIL_CFG_WIN 12, 30), (Fld.LANE_FAIL_CFG_LIMIT_FEC 12, 20)]), 3, by decide +kernel⟩,
    ⟨((ready.portAs 3 1 5).puts [(Fld.LANE_STATUS_FAILED 12, 0), (Fld.LANE_STATUS_SIG_DET 12, 1), (Fld.LANE_STATUS_RATE 12, 6), (Fld.LANE_FAIL_CFG_WIN 12, 30), (Fld.LANE_FAIL_CFG_LIMIT_FEC 12, 20), (Fld.LANE_STATUS_RATE 12, 2), (Fld.LANE_FAIL_CFG_LIMIT_NRZ 12, 20)]), 12, ⟨[0b0011111010, 0b0000000000, 0b1100000101], [], 0, 0⟩, by decide +kernel⟩,
    ⟨((ready.portAs 3 1 5).puts [(Fld.LANE_STATUS_FAILED 12, 0), (Fld.LANE_STATUS_SIG_DET 12, 1), (Fld.LANE_STATUS_RATE 12, 6), (Fld.LANE_FAIL_CFG_WIN 12, 30), (Fld.LANE_FAIL_CFG_LIMIT_FEC 12, 20)]), 12, ⟨[], [], 2000, 0⟩, 3, by decide +kernel⟩,
    ⟨(((ready.portAs 3 1 9).puts [(Fld.LANE_STATUS_FAILED 12, 0), (Fld.LANE_STATUS_SIG_DET 12, 1), (Fld.LANE_STATUS_RATE 12, 6), (Fld.LANE_FAIL_CFG_WIN 12, 30), (Fld.LANE_FAIL_CFG_LIMIT_FEC 12, 20)]).modLanes fun l => { l with cal := [12] }), 12, by decide +kernel⟩,
    ⟨((ready.portAs 3 1 5).puts [(Fld.LANE_STATUS_FAILED 12, 0), (Fld.LANE_STATUS_SIG_DET 12, 1), (Fld.LANE_STATUS_RATE 12, 6), (Fld.LANE_FAIL_CFG_WIN 12, 30), (Fld.LANE_FAIL_CFG_LIMIT_FEC 12, 20)]), 12, by decide +kernel⟩,
    ⟨(((ready.portAs 3 1 9).puts [(Fld.LANE_STATUS_FAILED 12, 0), (Fld.LANE_STATUS_SIG_DET 12, 1), (Fld.LANE_STATUS_RATE 12, 6), (Fld.LANE_FAIL_CFG_WIN 12, 30), (Fld.LANE_FAIL_CFG_LIMIT_FEC 12, 20)]).modLanes fun l => { l with cal := [12] }), 12, 3, by decide +kernel⟩,
    ⟨(((ready.portAs 3 1 9).puts [(Fld.LANE_STATUS_FAILED 12, 0), (Fld.LANE_STATUS_SIG_DET 12, 1), (Fld.LANE_STATUS_RATE 12, 6), (Fld.LANE_FAIL_CFG_WIN 12, 30), (Fld.LANE_FAIL_CFG_LIMIT_FEC 12, 20)]).modLanes fun l => { l with cal := [12, 13] }), 12, 3, 13, by decide +kernel⟩,
    ⟨(let ready := (((ready.portAs 3 1 9).puts [(Fld.LANE_STATUS_FAILED 12, 0), (Fld.LANE_STATUS_SIG_DET 12, 1), (Fld.LANE_STATUS_RATE 12, 6), (Fld.LANE_FAIL_CFG_WIN 12, 30), (Fld.LANE_FAIL_CFG_LIMIT_FEC 12, 20)]).modLanes fun l => { l with cal := [12] }); { ready with fab := { ready.fab with up := [] } }), 12, 3, by decide +kernel⟩,
    ⟨((ready.portAs 3 1 5).puts [(Fld.LANE_STATUS_FAILED 12, 0), (Fld.LANE_STATUS_SIG_DET 12, 1), (Fld.LANE_STATUS_RATE 12, 6), (Fld.LANE_FAIL_CFG_WIN 12, 30), (Fld.LANE_FAIL_CFG_LIMIT_FEC 12, 20), (Fld.LANE_CFG_ADAPT_FREEZE 12, 0)]), 12, by decide +kernel⟩,
    ⟨((ready.portAs 3 1 5).puts [(Fld.LANE_STATUS_FAILED 12, 0), (Fld.LANE_STATUS_SIG_DET 12, 1), (Fld.LANE_STATUS_RATE 12, 6), (Fld.LANE_FAIL_CFG_WIN 12, 30), (Fld.LANE_FAIL_CFG_LIMIT_FEC 12, 20), (Fld.LANE_CFG_ADAPT_FREEZE 12, 0), (Fld.LANE_FFE_COEF 12 4, 126)]), 12, 4, by decide +kernel⟩,
    ⟨((ready.portAs 3 1 5).puts [(Fld.LANE_STATUS_FAILED 12, 0), (Fld.LANE_STATUS_SIG_DET 12, 1), (Fld.LANE_STATUS_RATE 12, 6), (Fld.LANE_FAIL_CFG_WIN 12, 30), (Fld.LANE_FAIL_CFG_LIMIT_FEC 12, 20), (Fld.LANE_CFG_ADAPT_FREEZE 12, 1)]), 12, by decide +kernel⟩⟩

theorem test_meets_LaneTestsAndEyes :
    (∃ s : State, ∃ i : LaneIx, ∃ m : Master, ∃ value : Word, s.takes m (lanePage i.val) = true ∧ s.testRefusal i.val 1 (bitsOf value.toNat 4 3) (bitsOf value.toNat 8 3) = none) ∧
    (∃ s : State, ∃ i : LaneIx, ∃ m : Master, ∃ value : Word, ∃ r : Nat, s.takes m (lanePage i.val) = true ∧ s.testRefusal i.val 1 (bitsOf value.toNat 4 3) (bitsOf value.toNat 8 3) = some r ∧ r < 8) ∧
    (∃ s : State, ∃ i : LaneIx, ∃ m : Master, ∃ value : Word, s.takes m (lanePage i.val) = true ∧ s.testRefusal i.val 2 (bitsOf value.toNat 4 3) (bitsOf value.toNat 8 3) = none) ∧
    (∃ s : State, ∃ i : LaneIx, ∃ m : Master, ∃ value : Word, ∃ r : Nat, s.takes m (lanePage i.val) = true ∧ s.testRefusal i.val 2 (bitsOf value.toNat 4 3) (bitsOf value.toNat 8 3) = some r ∧ r < 8) ∧
    (∃ s : State, ∃ i : LaneIx, ∃ m : Master, ∃ value : Word, s.takes m (lanePage i.val) = true ∧ s.testRefusal i.val 3 (bitsOf value.toNat 4 3) (bitsOf value.toNat 8 3) = none) ∧
    (∃ s : State, ∃ i : LaneIx, ∃ m : Master, ∃ value : Word, ∃ r : Nat, s.takes m (lanePage i.val) = true ∧ s.testRefusal i.val 3 (bitsOf value.toNat 4 3) (bitsOf value.toNat 8 3) = some r ∧ r < 8) ∧
    (∃ s : State, ∃ i : LaneIx, ∃ m : Master, ∃ value : Word, s.takes m (lanePage i.val) = true ∧ s.testRefusal i.val 4 (bitsOf value.toNat 4 3) (bitsOf value.toNat 8 3) = none) ∧
    (∃ s : State, ∃ i : LaneIx, ∃ m : Master, ∃ value : Word, ∃ r : Nat, s.takes m (lanePage i.val) = true ∧ s.testRefusal i.val 4 (bitsOf value.toNat 4 3) (bitsOf value.toNat 8 3) = some r ∧ r < 8) ∧
    (∃ s : State, ∃ i : LaneIx, ∃ m : Master, s.takes m (lanePage i.val) = true ∧ s.testOp i.val = none) ∧
    (∃ s : State, ∃ i : LaneIx, ∃ m : Master, ∃ x : Nat, s.takes m (lanePage i.val) = true ∧ (s.testOp i.val = some 2 ∨ s.testOp i.val = some 3) ∧ x = 0 ∧ s.get64 (Addr.LANE_PRBS_ERR_LO i.val) = 0) ∧
    (∃ s : State, ∃ i : LaneIx, ∃ m : Master, s.takes m (lanePage i.val) = true ∧ s.testOp i.val = none) ∧
    (∃ s : State, ∃ i : LaneIx, ∃ ok : Bool, s.fabricRuns = true ∧ s.testOp i.val = some 4 ∧ ok = true ∧ (∀ p, s.portOfLane i.val = some p → s.get (Fld.PORT_STATUS_LINK p) ≠ 9)) ∧
    (∃ s : State, ∃ i : LaneIx, s.fabricRuns = true ∧ s.testOp i.val = some 4 ∧ i.val < 256 ∧ s.portOfLane i.val = none) ∧
    (∃ s : State, ∃ i : LaneIx, ∃ x : Nat, s.fabricRuns = true ∧ s.testOp i.val = some 2 ∧ s.get64 (Addr.LANE_PRBS_ERR_LO i.val) + x < 2 ^ 64) ∧
    (∃ s : State, ∃ i : LaneIx, ∃ m : Master, s.takes m (lanePage i.val) = true ∧ s.eyeRefusal i.val = none) ∧
    (∃ s : State, ∃ i : LaneIx, ∃ m : Master, ∃ r : Nat, s.takes m (lanePage i.val) = true ∧ s.eyeRefusal i.val = some r ∧ r < 8) ∧
    (∃ s : State, ∃ i : LaneIx, ∃ m : Master, s.takes m (lanePage i.val) = true ∧ s.scanning i.val = true) ∧
    (∃ s : State, ∃ i : LaneIx, s.fabricRuns = true ∧ s.get (Fld.LANE_EYE_STATUS_STATE i.val) = 1 ∧ s.get (Fld.LANE_EYE_STATUS_POINTS i.val) < 8191) ∧
    (∃ s : State, ∃ i : LaneIx, s.fabricRuns = true ∧ s.get (Fld.LANE_EYE_STATUS_STATE i.val) = 1 ∧ s.get (Fld.LANE_EYE_STATUS_POINTS i.val) = 8191) ∧
    (∃ s : State, ∃ i : LaneIx, ∃ p : Nat, ∃ v : Bool, ∃ n : Fin 128, s.fabricRuns = true ∧ s.portOfLane i.val = some p ∧ s.get (Fld.PORT_STATUS_LINK p) = 5 ∧ 4 ≤ s.laneRate i.val ∧ n.val ≤ marginValue (s.laneRate i.val) (if v then .numVoltageSteps else .numTimingSteps) ∧ s.get (Fld.LANE_EYE_STATUS_STATE i.val) = 1) ∧
    (∃ s : State, ∃ i : LaneIx, ∃ p : Nat, ∃ v : Bool, ∃ n : Fin 128, s.fabricRuns = true ∧ s.portOfLane i.val = some p ∧ s.get (Fld.PORT_STATUS_LINK p) = 5 ∧ 4 ≤ s.laneRate i.val ∧ marginValue (s.laneRate i.val) (if v then .numVoltageSteps else .numTimingSteps) < n.val) ∧
    (∃ s : State, ∃ i : LaneIx, ∃ p : Nat, s.fabricRuns = true ∧ s.portOfLane i.val = some p ∧ s.get (Fld.PORT_STATUS_LINK p) = 5 ∧ 4 ≤ s.laneRate i.val) ∧
    (∃ s : State, ∃ i : LaneIx, ∃ p : Nat, s.fabricRuns = true ∧ s.portOfLane i.val = some p ∧ s.get (Fld.PORT_STATUS_LINK p) = 5 ∧ 4 ≤ s.laneRate i.val ∧ s.get (Fld.LANE_EYE_STATUS_STATE i.val) = 2 ∧ s.flag (Fld.LANE_STATUS_SIG_DET i.val) = true) ∧
    (∃ s : State, ∃ i : LaneIx, ∃ p : Nat, s.fabricRuns = true ∧ s.portOfLane i.val = some p ∧ (s.get (Fld.PORT_STATUS_LINK p) ≠ 5 ∨ s.laneRate i.val < 4)) :=
  ⟨⟨((((ready.portAs 3 1 2).puts [(Fld.LANE_STATUS_FAILED 12, 0), (Fld.LANE_STATUS_SIG_DET 12, 1), (Fld.LANE_STATUS_RATE 12, 6), (Fld.LANE_FAIL_CFG_WIN 12, 30), (Fld.LANE_FAIL_CFG_LIMIT_FEC 12, 20)]).puts [(Fld.CLK_BRANCH_REGION 0, 0), (Fld.CLK_BRANCH_EN_SLEEP 0, 1), (Fld.CLK_BRANCH_EN_DEEP 0, 1), (Fld.PORT_CTL_HOLD 3, 1)]).modLanes fun l => { l with tests := [] }), 12, .keeper 0, 0, by decide +kernel⟩,
    ⟨((((ready.portAs 3 1 2).puts [(Fld.LANE_STATUS_FAILED 12, 0), (Fld.LANE_STATUS_SIG_DET 12, 1), (Fld.LANE_STATUS_RATE 12, 6), (Fld.LANE_FAIL_CFG_WIN 12, 30), (Fld.LANE_FAIL_CFG_LIMIT_FEC 12, 20)]).puts [(Fld.CLK_BRANCH_REGION 0, 0), (Fld.CLK_BRANCH_EN_SLEEP 0, 1), (Fld.CLK_BRANCH_EN_DEEP 0, 1), (Fld.PORT_CTL_HOLD 3, 1)]).modLanes fun l => { l with tests := [(12, 4)] }), 12, .keeper 0, 0, 4, by decide +kernel⟩,
    ⟨((((ready.portAs 3 1 2).puts [(Fld.LANE_STATUS_FAILED 12, 0), (Fld.LANE_STATUS_SIG_DET 12, 1), (Fld.LANE_STATUS_RATE 12, 6), (Fld.LANE_FAIL_CFG_WIN 12, 30), (Fld.LANE_FAIL_CFG_LIMIT_FEC 12, 20)]).puts [(Fld.CLK_BRANCH_REGION 0, 0), (Fld.CLK_BRANCH_EN_SLEEP 0, 1), (Fld.CLK_BRANCH_EN_DEEP 0, 1), (Fld.PORT_CTL_HOLD 3, 1)]).modLanes fun l => { l with tests := [] }), 12, .keeper 0, 0, by decide +kernel⟩,
    ⟨((((ready.portAs 3 1 2).puts [(Fld.LANE_STATUS_FAILED 12, 0), (Fld.LANE_STATUS_SIG_DET 12, 1), (Fld.LANE_STATUS_RATE 12, 6), (Fld.LANE_FAIL_CFG_WIN 12, 30), (Fld.LANE_FAIL_CFG_LIMIT_FEC 12, 20)]).puts [(Fld.CLK_BRANCH_REGION 0, 0), (Fld.CLK_BRANCH_EN_SLEEP 0, 1), (Fld.CLK_BRANCH_EN_DEEP 0, 1), (Fld.PORT_CTL_HOLD 3, 1)]).modLanes fun l => { l with tests := [(12, 4)] }), 12, .keeper 0, 0, 4, by decide +kernel⟩,
    ⟨((((ready.portAs 3 1 2).puts [(Fld.LANE_STATUS_FAILED 12, 0), (Fld.LANE_STATUS_SIG_DET 12, 1), (Fld.LANE_STATUS_RATE 12, 6), (Fld.LANE_FAIL_CFG_WIN 12, 30), (Fld.LANE_FAIL_CFG_LIMIT_FEC 12, 20)]).puts [(Fld.CLK_BRANCH_REGION 0, 0), (Fld.CLK_BRANCH_EN_SLEEP 0, 1), (Fld.CLK_BRANCH_EN_DEEP 0, 1), (Fld.PORT_CTL_HOLD 3, 1)]).modLanes fun l => { l with tests := [] }), 12, .keeper 0, 0, by decide +kernel⟩,
    ⟨((((ready.portAs 3 1 2).puts [(Fld.LANE_STATUS_FAILED 12, 0), (Fld.LANE_STATUS_SIG_DET 12, 1), (Fld.LANE_STATUS_RATE 12, 6), (Fld.LANE_FAIL_CFG_WIN 12, 30), (Fld.LANE_FAIL_CFG_LIMIT_FEC 12, 20)]).puts [(Fld.CLK_BRANCH_REGION 0, 0), (Fld.CLK_BRANCH_EN_SLEEP 0, 1), (Fld.CLK_BRANCH_EN_DEEP 0, 1), (Fld.PORT_CTL_HOLD 3, 1)]).modLanes fun l => { l with tests := [(12, 4)] }), 12, .keeper 0, 0, 4, by decide +kernel⟩,
    ⟨((((ready.portAs 3 1 2).puts [(Fld.LANE_STATUS_FAILED 12, 0), (Fld.LANE_STATUS_SIG_DET 12, 1), (Fld.LANE_STATUS_RATE 12, 6), (Fld.LANE_FAIL_CFG_WIN 12, 30), (Fld.LANE_FAIL_CFG_LIMIT_FEC 12, 20)]).puts [(Fld.CLK_BRANCH_REGION 0, 0), (Fld.CLK_BRANCH_EN_SLEEP 0, 1), (Fld.CLK_BRANCH_EN_DEEP 0, 1), (Fld.PORT_CTL_HOLD 3, 1)]).modLanes fun l => { l with tests := [] }), 12, .keeper 0, 0, by decide +kernel⟩,
    ⟨((((ready.portAs 3 1 2).puts [(Fld.LANE_STATUS_FAILED 12, 0), (Fld.LANE_STATUS_SIG_DET 12, 1), (Fld.LANE_STATUS_RATE 12, 6), (Fld.LANE_FAIL_CFG_WIN 12, 30), (Fld.LANE_FAIL_CFG_LIMIT_FEC 12, 20)]).puts [(Fld.CLK_BRANCH_REGION 0, 0), (Fld.CLK_BRANCH_EN_SLEEP 0, 1), (Fld.CLK_BRANCH_EN_DEEP 0, 1), (Fld.PORT_CTL_HOLD 3, 1)]).modLanes fun l => { l with tests := [(12, 4)] }), 12, .keeper 0, 0, 4, by decide +kernel⟩,
    ⟨((((ready.portAs 3 1 2).puts [(Fld.LANE_STATUS_FAILED 12, 0), (Fld.LANE_STATUS_SIG_DET 12, 1), (Fld.LANE_STATUS_RATE 12, 6), (Fld.LANE_FAIL_CFG_WIN 12, 30), (Fld.LANE_FAIL_CFG_LIMIT_FEC 12, 20)]).puts [(Fld.CLK_BRANCH_REGION 0, 0), (Fld.CLK_BRANCH_EN_SLEEP 0, 1), (Fld.CLK_BRANCH_EN_DEEP 0, 1), (Fld.PORT_CTL_HOLD 3, 1)]).modLanes fun l => { l with tests := [] }), 12, .keeper 0, by decide +kernel⟩,
    ⟨(((((ready.portAs 3 1 2).puts [(Fld.LANE_STATUS_FAILED 12, 0), (Fld.LANE_STATUS_SIG_DET 12, 1), (Fld.LANE_STATUS_RATE 12, 6), (Fld.LANE_FAIL_CFG_WIN 12, 30), (Fld.LANE_FAIL_CFG_LIMIT_FEC 12, 20)]).puts [(Fld.CLK_BRANCH_REGION 0, 0), (Fld.CLK_BRANCH_EN_SLEEP 0, 1), (Fld.CLK_BRANCH_EN_DEEP 0, 1), (Fld.PORT_CTL_HOLD 3, 1), (Fld.LANE_TEST_STATUS_PRBS_LOCK 12, 1)]).modLanes fun l => { l with tests := [(12, 2)] }).put64 (Addr.LANE_PRBS_ERR_LO 12) 0), 12, .keeper 0, 0, by decide +kernel⟩,
    ⟨((((ready.portAs 3 1 2).puts [(Fld.LANE_STATUS_FAILED 12, 0), (Fld.LANE_STATUS_SIG_DET 12, 1), (Fld.LANE_STATUS_RATE 12, 6), (Fld.LANE_FAIL_CFG_WIN 12, 30), (Fld.LANE_FAIL_CFG_LIMIT_FEC 12, 20)]).puts [(Fld.CLK_BRANCH_REGION 0, 0), (Fld.CLK_BRANCH_EN_SLEEP 0, 1), (Fld.CLK_BRANCH_EN_DEEP 0, 1), (Fld.PORT_CTL_HOLD 3, 1)]).modLanes fun l => { l with tests := [] }), 12, .keeper 0, by decide +kernel⟩,
    ⟨((((ready.portAs 3 1 2).puts [(Fld.LANE_STATUS_FAILED 12, 0), (Fld.LANE_STATUS_SIG_DET 12, 1), (Fld.LANE_STATUS_RATE 12, 6), (Fld.LANE_FAIL_CFG_WIN 12, 30), (Fld.LANE_FAIL_CFG_LIMIT_FEC 12, 20)]).puts [(Fld.CLK_BRANCH_REGION 0, 0), (Fld.CLK_BRANCH_EN_SLEEP 0, 1), (Fld.CLK_BRANCH_EN_DEEP 0, 1), (Fld.PORT_CTL_HOLD 3, 1)]).modLanes fun l => { l with tests := [(12, 4)] }), 12, true, by decide +kernel⟩,
    ⟨((((ready.portAs 3 1 2).puts [(Fld.LANE_STATUS_FAILED 12, 0), (Fld.LANE_STATUS_SIG_DET 12, 1), (Fld.LANE_STATUS_RATE 12, 6), (Fld.LANE_FAIL_CFG_WIN 12, 30), (Fld.LANE_FAIL_CFG_LIMIT_FEC 12, 20)]).puts [(Fld.CLK_BRANCH_REGION 0, 0), (Fld.CLK_BRANCH_EN_SLEEP 0, 1), (Fld.CLK_BRANCH_EN_DEEP 0, 1), (Fld.PORT_CTL_HOLD 3, 1), (Fld.PORTG_STATUS_PRESENT 0, 0)]).modLanes fun l => { l with tests := [(12, 4)] }), 12, by decide +kernel⟩,
    ⟨((((ready.portAs 3 1 2).puts [(Fld.LANE_STATUS_FAILED 12, 0), (Fld.LANE_STATUS_SIG_DET 12, 1), (Fld.LANE_STATUS_RATE 12, 6), (Fld.LANE_FAIL_CFG_WIN 12, 30), (Fld.LANE_FAIL_CFG_LIMIT_FEC 12, 20)]).puts [(Fld.CLK_BRANCH_REGION 0, 0), (Fld.CLK_BRANCH_EN_SLEEP 0, 1), (Fld.CLK_BRANCH_EN_DEEP 0, 1), (Fld.PORT_CTL_HOLD 3, 1)]).modLanes fun l => { l with tests := [(12, 2)] }), 12, 0, by decide +kernel⟩,
    ⟨((((ready.portAs 3 1 5).puts [(Fld.LANE_STATUS_FAILED 12, 0), (Fld.LANE_STATUS_SIG_DET 12, 1), (Fld.LANE_STATUS_RATE 12, 6), (Fld.LANE_FAIL_CFG_WIN 12, 30), (Fld.LANE_FAIL_CFG_LIMIT_FEC 12, 20)]).puts [(Fld.CLK_BRANCH_REGION 0, 0), (Fld.CLK_BRANCH_EN_SLEEP 0, 1), (Fld.CLK_BRANCH_EN_DEEP 0, 1), (Fld.LANE_EYE_CFG_EYE 12, 1)]).modLanes fun l => { l with eye := [] }), 12, .keeper 0, by decide +kernel⟩,
    ⟨((((ready.portAs 3 1 5).puts [(Fld.LANE_STATUS_FAILED 12, 0), (Fld.LANE_STATUS_SIG_DET 12, 1), (Fld.LANE_STATUS_RATE 12, 6), (Fld.LANE_FAIL_CFG_WIN 12, 30), (Fld.LANE_FAIL_CFG_LIMIT_FEC 12, 20)]).puts [(Fld.CLK_BRANCH_REGION 0, 0), (Fld.CLK_BRANCH_EN_SLEEP 0, 1), (Fld.CLK_BRANCH_EN_DEEP 0, 1), (Fld.LANE_EYE_CFG_EYE 12, 1), (Fld.LANE_EYE_CFG_EYE 12, 3)]).modLanes fun l => { l with eye := [] }), 12, .keeper 0, 6, by decide +kernel⟩,
    ⟨((((ready.portAs 3 1 5).puts [(Fld.LANE_STATUS_FAILED 12, 0), (Fld.LANE_STATUS_SIG_DET 12, 1), (Fld.LANE_STATUS_RATE 12, 6), (Fld.LANE_FAIL_CFG_WIN 12, 30), (Fld.LANE_FAIL_CFG_LIMIT_FEC 12, 20)]).puts [(Fld.CLK_BRANCH_REGION 0, 0), (Fld.CLK_BRANCH_EN_SLEEP 0, 1), (Fld.CLK_BRANCH_EN_DEEP 0, 1), (Fld.LANE_EYE_CFG_EYE 12, 1), (Fld.LANE_EYE_STATUS_STATE 12, 1)]).modLanes fun l => { l with eye := [] }), 12, .keeper 0, by decide +kernel⟩,
    ⟨((((ready.portAs 3 1 5).puts [(Fld.LANE_STATUS_FAILED 12, 0), (Fld.LANE_STATUS_SIG_DET 12, 1), (Fld.LANE_STATUS_RATE 12, 6), (Fld.LANE_FAIL_CFG_WIN 12, 30), (Fld.LANE_FAIL_CFG_LIMIT_FEC 12, 20)]).puts [(Fld.CLK_BRANCH_REGION 0, 0), (Fld.CLK_BRANCH_EN_SLEEP 0, 1), (Fld.CLK_BRANCH_EN_DEEP 0, 1), (Fld.LANE_EYE_CFG_EYE 12, 1), (Fld.LANE_EYE_STATUS_STATE 12, 1), (Fld.LANE_EYE_STATUS_POINTS 12, 7)]).modLanes fun l => { l with eye := [] }), 12, by decide +kernel⟩,
    ⟨((((ready.portAs 3 1 5).puts [(Fld.LANE_STATUS_FAILED 12, 0), (Fld.LANE_STATUS_SIG_DET 12, 1), (Fld.LANE_STATUS_RATE 12, 6), (Fld.LANE_FAIL_CFG_WIN 12, 30), (Fld.LANE_FAIL_CFG_LIMIT_FEC 12, 20)]).puts [(Fld.CLK_BRANCH_REGION 0, 0), (Fld.CLK_BRANCH_EN_SLEEP 0, 1), (Fld.CLK_BRANCH_EN_DEEP 0, 1), (Fld.LANE_EYE_CFG_EYE 12, 1), (Fld.LANE_EYE_STATUS_STATE 12, 1), (Fld.LANE_EYE_STATUS_POINTS 12, 8191)]).modLanes fun l => { l with eye := [] }), 12, by decide +kernel⟩,
    ⟨((((ready.portAs 3 1 5).puts [(Fld.LANE_STATUS_FAILED 12, 0), (Fld.LANE_STATUS_SIG_DET 12, 1), (Fld.LANE_STATUS_RATE 12, 6), (Fld.LANE_FAIL_CFG_WIN 12, 30), (Fld.LANE_FAIL_CFG_LIMIT_FEC 12, 20)]).puts [(Fld.CLK_BRANCH_REGION 0, 0), (Fld.CLK_BRANCH_EN_SLEEP 0, 1), (Fld.CLK_BRANCH_EN_DEEP 0, 1), (Fld.LANE_EYE_CFG_EYE 12, 1), (Fld.LANE_EYE_STATUS_STATE 12, 1)]).modLanes fun l => { l with eye := [] }), 12, 3, false, 32, by decide +kernel⟩,
    ⟨((((ready.portAs 3 1 5).puts [(Fld.LANE_STATUS_FAILED 12, 0), (Fld.LANE_STATUS_SIG_DET 12, 1), (Fld.LANE_STATUS_RATE 12, 6), (Fld.LANE_FAIL_CFG_WIN 12, 30), (Fld.LANE_FAIL_CFG_LIMIT_FEC 12, 20)]).puts [(Fld.CLK_BRANCH_REGION 0, 0), (Fld.CLK_BRANCH_EN_SLEEP 0, 1), (Fld.CLK_BRANCH_EN_DEEP 0, 1), (Fld.LANE_EYE_CFG_EYE 12, 1)]).modLanes fun l => { l with eye := [] }), 12, 3, true, 65, by decide +kernel⟩,
    ⟨((((ready.portAs 3 1 5).puts [(Fld.LANE_STATUS_FAILED 12, 0), (Fld.LANE_STATUS_SIG_DET 12, 1), (Fld.LANE_STATUS_RATE 12, 6), (Fld.LANE_FAIL_CFG_WIN 12, 30), (Fld.LANE_FAIL_CFG_LIMIT_FEC 12, 20)]).puts [(Fld.CLK_BRANCH_REGION 0, 0), (Fld.CLK_BRANCH_EN_SLEEP 0, 1), (Fld.CLK_BRANCH_EN_DEEP 0, 1), (Fld.LANE_EYE_CFG_EYE 12, 1)]).modLanes fun l => { l with eye := [] }), 12, 3, by decide +kernel⟩,
    ⟨((((ready.portAs 3 1 5).puts [(Fld.LANE_STATUS_FAILED 12, 0), (Fld.LANE_STATUS_SIG_DET 12, 1), (Fld.LANE_STATUS_RATE 12, 6), (Fld.LANE_FAIL_CFG_WIN 12, 30), (Fld.LANE_FAIL_CFG_LIMIT_FEC 12, 20)]).puts [(Fld.CLK_BRANCH_REGION 0, 0), (Fld.CLK_BRANCH_EN_SLEEP 0, 1), (Fld.CLK_BRANCH_EN_DEEP 0, 1), (Fld.LANE_EYE_CFG_EYE 12, 1), (Fld.LANE_EYE_STATUS_STATE 12, 2)]).modLanes fun l => { l with eye := [] }), 12, 3, by decide +kernel⟩,
    ⟨ready.portAs 3 1 6, 12, 3, by decide +kernel⟩⟩

theorem test_meets_TandemLink :
    (∃ s : State, ∃ lane : Fin 8, s.fabricRuns = true ∧ s.tandemOn = true ∧ s.get Fld.TDM_LINK_STATE = 1 ∧ 7 ≤ mget 0 s.fab.pair.aligned lane.val ∧ (∀ j : Fin 8, j ≠ lane → 8 ≤ mget 0 s.fab.pair.aligned j.val)) ∧
    (∃ s : State, ∃ lane : Fin 8, s.fabricRuns = true ∧ s.tandemOn = true ∧ s.get Fld.TDM_LINK_STATE = 1 ∧ mget 0 s.fab.pair.aligned lane.val < 7) ∧
    (∃ s : State, ∃ lane : Fin 8, ∃ blk : List Byte, s.fabricRuns = true ∧ s.tandemOn = true ∧ s.get Fld.TDM_LINK_STATE = 1 ∧ blk ≠ alignBlock lane.val ∧ (blk ≠ (alignBlock lane.val).map fun b => ~~~b)) ∧
    (∃ s : State, ∃ lane : Fin 8, s.fabricRuns = true ∧ s.tandemOn = true ∧ s.get Fld.TDM_LINK_STATE = 3 ∧ 3 ≤ mget 0 s.fab.pair.aligned lane.val ∧ (∀ j : Fin 8, j ≠ lane → 4 ≤ mget 0 s.fab.pair.aligned j.val)) ∧
    (∃ s : State, s.fabricRuns = true ∧ (s.get Fld.TDM_LINK_STATE = 1 ∨ (s.get Fld.TDM_LINK_STATE = 2 ∧ s.flag Fld.TDM_LINK_MISMATCH = false))) ∧
    (∃ s : State, s.fabricRuns = true ∧ s.get Fld.TDM_LINK_STATE = 2 ∧ s.flag Fld.TDM_LINK_MISMATCH = true) ∧
    (∃ s : State, s.fabricRuns = true ∧ s.tandemOn = true ∧ s.get Fld.TDM_LINK_STATE = 0) ∧
    (∃ s : State, ∃ j : Fin 8, s.fabricRuns = true ∧ s.flag Fld.TDM_CFG_EN = true ∧ s.flag (Fld.LANE_STATUS_FAILED (256 + j.val)) = false ∧ s.get Fld.TDM_LINK_STATE ≠ 3) ∧
    (∃ s : State, ∃ j : Fin 8, s.fabricRuns = true ∧ s.flag Fld.TDM_CFG_EN = true ∧ s.flag (Fld.LANE_STATUS_FAILED (256 + j.val)) = false ∧ s.get Fld.TDM_LINK_STATE = 3) ∧
    (∃ s : State, s.fabricRuns = true ∧ s.get Fld.TDM_LINK_STATE = 3) ∧
    (∃ s : State, s.fabricRuns = true ∧ s.get Fld.TDM_LINK_STATE = 3 ∧ s.get Fld.TDM_CREDIT_FLOOR ≤ min 2047 (s.fab.pair.peerCredits - s.fab.pair.leaked)) ∧
    (∃ s : State, s.fabricRuns = true ∧ s.get Fld.TDM_LINK_STATE = 3 ∧ min 2047 (s.fab.pair.peerCredits - s.fab.pair.leaked) < s.get Fld.TDM_CREDIT_FLOOR) ∧
    (∃ s : State, ∃ h : TdmHeader, s.fabricRuns = true ∧ s.tandemOn = true ∧ s.get Fld.TDM_LINK_STATE = 3 ∧ (h.intact = false ∨ 3 ≤ h.kind.toNat) ∧ s.fab.pair.train = none) ∧
    (∃ s : State, ∃ h : TdmHeader, s.fabricRuns = true ∧ s.tandemOn = true ∧ s.get Fld.TDM_LINK_STATE = 3 ∧ h.intact = true ∧ h.kind.toNat ≤ 2 ∧ s.fab.pair.journal = [] ∧ s.fab.pair.ackDue = false ∧ s.fab.pair.reqDue = false ∧ s.fab.pair.bulk = none) ∧
    (∃ s : State, s.fabricRuns = true ∧ s.get Fld.TDM_LINK_STATE < 2) ∧
    (∃ s : State, ∃ h : TdmHeader, ∃ fseq : Word, s.fabricRuns = true ∧ s.tandemOn = true ∧ s.get Fld.TDM_LINK_STATE = 3 ∧ h.intact = true ∧ h.kind.toNat ≤ 2 ∧ fseq.toNat = s.fab.pair.fseqIn ∧ s.fab.pair.rxcnt < 65535 ∧ s.fab.pair.cretOut < 65535 ∧ s.fab.pair.journal = [] ∧ s.fab.pair.ackDue = false ∧ s.fab.pair.reqDue = false ∧ s.fab.pair.bulk = none) ∧
    (∃ s : State, ∃ h : TdmHeader, ∃ fseq : Word, s.fabricRuns = true ∧ s.tandemOn = true ∧ s.get Fld.TDM_LINK_STATE = 3 ∧ s.get Fld.TDM_LINK_MPV ≠ 0 ∧ h.intact = true ∧ h.kind.toNat ≤ 2 ∧ fseq.toNat ≠ s.fab.pair.fseqIn ∧ s.isStandby = true ∧ s.fab.pair.adopt = false ∧ s.fab.pair.gap = false ∧ (s.fab.pair.sent + 65536 - h.cret.toNat) % 65536 < s.fab.pair.peerCredits ∧ s.fab.pair.journal = [] ∧ s.fab.pair.ackDue = false ∧ s.fab.pair.reqDue = false ∧ s.fab.pair.bulk = none) ∧
    (∃ s : State, ∃ h : TdmHeader, s.fabricRuns = true ∧ s.tandemOn = true ∧ s.get Fld.TDM_LINK_STATE = 3 ∧ (h.intact = false ∨ 3 ≤ h.kind.toNat) ∧ s.fab.pair.train = none) ∧
    (∃ s : State, ∃ h : TdmHeader, ∃ q : TrainPayload, s.fabricRuns = true ∧ s.tandemOn = true ∧ s.get Fld.TDM_LINK_STATE = 2 ∧ h.intact = true ∧ h.kind.toNat ≤ 2 ∧ s.flag Fld.TDM_LINK_MISMATCH = false ∧ (q.modId ≠ s.get Fld.CLK_STRAPS_MOD_ID ∨ q.strap = s.strapB) ∧ s.fab.pair.journal = [] ∧ s.fab.pair.ackDue = false ∧ s.fab.pair.reqDue = false ∧ s.fab.pair.bulk = none) ∧
    (∃ s : State, ∃ h : TdmHeader, ∃ q : TrainPayload, s.fabricRuns = true ∧ s.tandemOn = true ∧ s.get Fld.TDM_LINK_STATE = 2 ∧ h.intact = true ∧ h.kind.toNat ≤ 2 ∧ q.modId = s.get Fld.CLK_STRAPS_MOD_ID ∧ q.strap ≠ s.strapB ∧ s.fab.pair.train ≠ some q ∧ s.fab.pair.journal = [] ∧ s.fab.pair.ackDue = false ∧ s.fab.pair.reqDue = false ∧ s.fab.pair.bulk = none) ∧
    (∃ s : State, ∃ h : TdmHeader, ∃ q : TrainPayload, s.fabricRuns = true ∧ s.tandemOn = true ∧ s.get Fld.TDM_LINK_STATE = 2 ∧ h.intact = true ∧ h.kind.toNat ≤ 2 ∧ q.modId = s.get Fld.CLK_STRAPS_MOD_ID ∧ q.strap ≠ s.strapB ∧ s.fab.pair.train = some q ∧ s.fab.pair.trainRx = 7 ∧ 7 ≤ s.fab.pair.trainTx ∧ s.role = 2 ∧ s.partner = none ∧ s.get Fld.TIME_STATUS_SRC = 0 ∧ s.flag Fld.TIME_CFG_FOLLOW_EN = false ∧ s.fab.pair.journal = [] ∧ s.fab.pair.ackDue = false ∧ s.fab.pair.reqDue = false ∧ s.fab.pair.bulk = none) :=
  ⟨⟨((ready.pairAs 2 1).pa fun p => { p with aligned := [(0, 8), (1, 8), (2, 7), (3, 8), (4, 8), (5, 8), (6, 8), (7, 8)] }), 2, by decide +kernel⟩,
    ⟨ready.pairAs 2 1, 2, by decide +kernel⟩,
    ⟨ready.pairAs 2 1, 2, List.replicate 32 0, by decide +kernel⟩,
    ⟨((ready.pairAs 2 3).pa fun p => { p with aligned := [(0, 4), (1, 4), (2, 3), (3, 4), (4, 4), (5, 4), (6, 4), (7, 4)] }), 2, by decide +kernel⟩,
    ⟨ready.pairAs 2 2, by decide +kernel⟩,
    ⟨(ready.pairAs 2 2).put Fld.TDM_LINK_MISMATCH 1, by decide +kernel⟩,
    ⟨(ready.pairAs 2 0).put (Fld.LANE_STATUS_FAILED 258) 1, by decide +kernel⟩,
    ⟨(ready.pairAs 2 1).put (Fld.LANE_STATUS_FAILED 259) 0, 3, by decide +kernel⟩,
    ⟨(ready.pairAs 2 3).put (Fld.LANE_STATUS_FAILED 259) 0, 3, by decide +kernel⟩,
    ⟨ready.pairAs 2 3, by decide +kernel⟩,
    ⟨ready.pairAs 2 3, by decide +kernel⟩,
    ⟨((ready.pairAs 2 3).pa fun p => { p with peerCredits := 900 }), by decide +kernel⟩,
    ⟨((ready.pairAs 2 3).pa fun p => { p with trainRx := 8, trainTx := 0 }), ⟨true, 7, 5, 6⟩, by decide +kernel⟩,
    ⟨ready.pairAs 2 3, ⟨true, 0, 5, 6⟩, by decide +kernel⟩,
    ⟨ready.pairAs 2 1, by decide +kernel⟩,
    ⟨((ready.pairAs 5 3).pa fun p => { p with fseqIn := 7 }), ⟨true, 0, 5, 6⟩, 7, by decide +kernel⟩,
    ⟨((ready.pairAs 5 3).pa fun p => { p with sent := 6 }), ⟨true, 0, 5, 6⟩, 7, by decide +kernel⟩,
    ⟨ready.pairAs 5 3, ⟨false, 0, 5, 6⟩, by decide +kernel⟩,
    ⟨ready.pairAs 2 2, ⟨true, 0, 5, 6⟩, ⟨0, 255, (ready.pairAs 2 2).get Fld.CLK_STRAPS_MOD_ID, (ready.pairAs 2 2).strapB, 1024, List.replicate 16 65⟩, by decide +kernel⟩,
    ⟨ready.pairAs 2 2, ⟨true, 0, 5, 6⟩, ⟨0, 255, (ready.pairAs 2 2).get Fld.CLK_STRAPS_MOD_ID, !(ready.pairAs 2 2).strapB, 1024, List.replicate 16 65⟩, by decide +kernel⟩,
    ⟨((ready.pairAs 2 2).pa fun p => { p with train := some ⟨0, 255, ready.get Fld.CLK_STRAPS_MOD_ID, true, 1024, List.replicate 16 65⟩, trainRx := 7, trainTx := 7 }), ⟨true, 0, 5, 6⟩, ⟨0, 255, (((ready.pairAs 2 2).pa fun p => { p with train := some ⟨0, 255, ready.get Fld.CLK_STRAPS_MOD_ID, true, 1024, List.replicate 16 65⟩, trainRx := 7, trainTx := 7 })).get Fld.CLK_STRAPS_MOD_ID, true, 1024, List.replicate 16 65⟩, by decide +kernel⟩⟩

theorem test_meets_MirrorReceived :
    (∃ s : State, ∃ seq : Word, s.fabricRuns = true ∧ s.role = 5 ∧ s.get Fld.TDM_LINK_STATE = 3 ∧ s.get Fld.TDM_LINK_MPV ≠ 0 ∧ s.fab.pair.peer = none ∧ s.fab.pair.failed = 0 ∧ s.get Fld.TIME_STATUS_SRC = 0 ∧ s.flag Fld.TIME_CFG_FOLLOW_EN = false ∧ s.fab.pair.adopt = false ∧ s.fab.pair.gap = false ∧ seq.toNat = (s.get Fld.TDM_HSEQ_SEQ + 1) % 2 ^ 32 ∧ s.fab.pair.begun = 0) ∧
    (∃ s : State, ∃ seq : Word, s.fabricRuns = true ∧ s.role = 5 ∧ s.get Fld.TDM_LINK_STATE = 3 ∧ s.get Fld.TDM_LINK_MPV ≠ 0 ∧ s.fab.pair.peer = none ∧ s.fab.pair.failed = 0 ∧ s.get Fld.TIME_STATUS_SRC = 0 ∧ s.flag Fld.TIME_CFG_FOLLOW_EN = false ∧ s.fab.pair.adopt = false ∧ s.fab.pair.gap = false ∧ seq.toNat = (s.get Fld.TDM_HSEQ_SEQ + 1) % 2 ^ 32 ∧ s.fab.pair.begun = 0) ∧
    (∃ s : State, ∃ seq : Word, s.fabricRuns = true ∧ s.role = 5 ∧ s.get Fld.TDM_LINK_STATE = 3 ∧ s.get Fld.TDM_LINK_MPV ≠ 0 ∧ s.fab.pair.peer = none ∧ s.fab.pair.failed = 0 ∧ s.get Fld.TIME_STATUS_SRC = 0 ∧ s.flag Fld.TIME_CFG_FOLLOW_EN = false ∧ s.fab.pair.adopt = false ∧ s.fab.pair.gap = false ∧ seq.toNat = (s.get Fld.TDM_HSEQ_SEQ + 1) % 2 ^ 32 ∧ s.fab.pair.begun = 0) ∧
    (∃ s : State, ∃ seq : Word, s.fabricRuns = true ∧ s.role = 5 ∧ s.get Fld.TDM_LINK_STATE = 3 ∧ s.get Fld.TDM_LINK_MPV ≠ 0 ∧ s.fab.pair.peer = none ∧ s.fab.pair.failed = 0 ∧ s.get Fld.TIME_STATUS_SRC = 0 ∧ s.flag Fld.TIME_CFG_FOLLOW_EN = false ∧ s.fab.pair.adopt = false ∧ s.fab.pair.gap = false ∧ seq.toNat = (s.get Fld.TDM_HSEQ_SEQ + 1) % 2 ^ 32 ∧ s.fab.pair.begun = 0) ∧
    (∃ s : State, ∃ seq : Word, ∃ rg : Fin 20, s.fabricRuns = true ∧ s.role = 5 ∧ s.get Fld.TDM_LINK_STATE = 3 ∧ s.get Fld.TDM_LINK_MPV ≠ 0 ∧ s.fab.pair.peer = none ∧ s.fab.pair.failed = 0 ∧ s.get Fld.TIME_STATUS_SRC = 0 ∧ s.flag Fld.TIME_CFG_FOLLOW_EN = false ∧ s.fab.pair.adopt = false ∧ s.fab.pair.gap = false ∧ seq.toNat = (s.get Fld.TDM_HSEQ_SEQ + 1) % 2 ^ 32 ∧ s.fab.pair.begun = 0 ∧ rg.val < 16) ∧
    (∃ s : State, ∃ seq : Word, ∃ rg : Fin 20, s.fabricRuns = true ∧ s.role = 5 ∧ s.get Fld.TDM_LINK_STATE = 3 ∧ s.get Fld.TDM_LINK_MPV ≠ 0 ∧ s.fab.pair.peer = none ∧ s.fab.pair.failed = 0 ∧ s.get Fld.TIME_STATUS_SRC = 0 ∧ s.flag Fld.TIME_CFG_FOLLOW_EN = false ∧ s.fab.pair.adopt = false ∧ s.fab.pair.gap = false ∧ seq.toNat = (s.get Fld.TDM_HSEQ_SEQ + 1) % 2 ^ 32 ∧ s.fab.pair.begun = 0 ∧ 16 ≤ rg.val) ∧
    (∃ s : State, ∃ seq : Word, ∃ rg : Fin 20, s.fabricRuns = true ∧ s.role = 5 ∧ s.get Fld.TDM_LINK_STATE = 3 ∧ s.get Fld.TDM_LINK_MPV ≠ 0 ∧ s.fab.pair.peer = none ∧ s.fab.pair.failed = 0 ∧ s.get Fld.TIME_STATUS_SRC = 0 ∧ s.flag Fld.TIME_CFG_FOLLOW_EN = false ∧ s.fab.pair.adopt = false ∧ s.fab.pair.gap = false ∧ seq.toNat = (s.get Fld.TDM_HSEQ_SEQ + 1) % 2 ^ 32 ∧ s.fab.pair.begun = 2 ^ rg.val ∧ rg.val < 16) ∧
    (∃ s : State, ∃ seq : Word, s.fabricRuns = true ∧ s.role = 5 ∧ s.get Fld.TDM_LINK_STATE = 3 ∧ s.get Fld.TDM_LINK_MPV ≠ 0 ∧ s.fab.pair.peer = none ∧ s.fab.pair.failed = 0 ∧ s.get Fld.TIME_STATUS_SRC = 0 ∧ s.flag Fld.TIME_CFG_FOLLOW_EN = false ∧ s.fab.pair.adopt = false ∧ s.fab.pair.gap = false ∧ seq.toNat = (s.get Fld.TDM_HSEQ_SEQ + 1) % 2 ^ 32 ∧ s.fab.pair.hasCredit 1 = true ∧ s.fab.pair.reqDue = false ∧ s.fab.pair.journal = [] ∧ s.fab.pair.openEpoch = []) ∧
    (∃ s : State, ∃ seq : Word, ∃ sq : Nat, ∃ a : Nat, ∃ w : Nat, s.fabricRuns = true ∧ s.role = 5 ∧ s.get Fld.TDM_LINK_STATE = 3 ∧ s.get Fld.TDM_LINK_MPV ≠ 0 ∧ s.fab.pair.peer = none ∧ s.fab.pair.failed = 0 ∧ s.get Fld.TIME_STATUS_SRC = 0 ∧ s.flag Fld.TIME_CFG_FOLLOW_EN = false ∧ s.fab.pair.adopt = false ∧ s.fab.pair.gap = false ∧ seq.toNat = (s.get Fld.TDM_HSEQ_SEQ + 1) % 2 ^ 32 ∧ s.fab.pair.hasCredit 1 = true ∧ s.fab.pair.reqDue = false ∧ s.fab.pair.journal = [] ∧ s.fab.pair.openEpoch = [⟨sq, 16, .reg a [w], true⟩] ∧ 0x6000000 ≤ a ∧ a < 0x6060000 ∧ 4 ∣ a ∧ w < 2 ^ 32) ∧
    (∃ s : State, ∃ seq : Word, ∃ sq : Nat, ∃ hv : Nat, ∃ x : Nat, ∃ e : DirEntry, s.fabricRuns = true ∧ s.role = 5 ∧ s.get Fld.TDM_LINK_STATE = 3 ∧ s.get Fld.TDM_LINK_MPV ≠ 0 ∧ s.fab.pair.peer = none ∧ s.fab.pair.failed = 0 ∧ s.get Fld.TIME_STATUS_SRC = 0 ∧ s.flag Fld.TIME_CFG_FOLLOW_EN = false ∧ s.fab.pair.adopt = false ∧ s.fab.pair.gap = false ∧ seq.toNat = (s.get Fld.TDM_HSEQ_SEQ + 1) % 2 ^ 32 ∧ s.fab.pair.hasCredit 1 = true ∧ s.fab.pair.reqDue = false ∧ s.fab.pair.journal = [] ∧ s.fab.pair.openEpoch = [⟨sq, hv, .dir hv x (some e), true⟩] ∧ s.fab.pair.unreachable = [] ∧ s.pidsInUse = []) ∧
    (∃ s : State, ∃ seq : Word, s.fabricRuns = true ∧ s.role = 5 ∧ s.get Fld.TDM_LINK_STATE = 3 ∧ s.get Fld.TDM_LINK_MPV ≠ 0 ∧ s.fab.pair.peer = none ∧ s.fab.pair.failed = 0 ∧ s.get Fld.TIME_STATUS_SRC = 0 ∧ s.flag Fld.TIME_CFG_FOLLOW_EN = false ∧ s.fab.pair.adopt = false ∧ s.fab.pair.gap = false ∧ s.fab.pair.begun = 0 ∧ s.fab.pair.ackDue = false ∧ seqAfter seq.toNat ((s.get Fld.TDM_HSEQ_SEQ + 1) % 2 ^ 32) = true ∧ s.fab.pair.hasCredit 1 = true ∧ s.fab.pair.reqDue = false ∧ s.fab.pair.journal = []) ∧
    (∃ s : State, ∃ seq : Word, s.fabricRuns = true ∧ s.role = 5 ∧ s.get Fld.TDM_LINK_STATE = 3 ∧ s.get Fld.TDM_LINK_MPV ≠ 0 ∧ s.fab.pair.peer = none ∧ s.fab.pair.failed = 0 ∧ s.get Fld.TIME_STATUS_SRC = 0 ∧ s.flag Fld.TIME_CFG_FOLLOW_EN = false ∧ s.fab.pair.adopt = false ∧ s.fab.pair.begun = 0 ∧ seq.toNat ≠ (s.get Fld.TDM_HSEQ_SEQ + 1) % 2 ^ 32 ∧ seqAfter seq.toNat ((s.get Fld.TDM_HSEQ_SEQ + 1) % 2 ^ 32) = false) ∧
    (∃ s : State, s.fabricRuns = true ∧ s.role = 5 ∧ s.get Fld.TDM_LINK_STATE = 3 ∧ s.get Fld.TDM_LINK_MPV ≠ 0 ∧ s.fab.pair.peer = none ∧ s.fab.pair.failed = 0 ∧ s.get Fld.TIME_STATUS_SRC = 0 ∧ s.flag Fld.TIME_CFG_FOLLOW_EN = false ∧ s.fab.pair.adopt = false ∧ s.fab.pair.gap = true ∧ s.fab.pair.restartIn = false ∧ s.fab.pair.begun = 0) ∧
    (∃ s : State, ∃ seq : Word, s.fabricRuns = true ∧ s.role = 5 ∧ s.get Fld.TDM_LINK_STATE = 3 ∧ s.get Fld.TDM_LINK_MPV ≠ 0 ∧ s.fab.pair.peer = none ∧ s.fab.pair.failed = 0 ∧ s.get Fld.TIME_STATUS_SRC = 0 ∧ s.flag Fld.TIME_CFG_FOLLOW_EN = false ∧ s.fab.pair.adopt = false ∧ s.fab.pair.gap = true ∧ s.fab.pair.restartIn = true ∧ s.fab.pair.begun = 0 ∧ seq.toNat = (s.get Fld.TDM_HSEQ_SEQ + 1) % 2 ^ 32) ∧
    (∃ s : State, s.fabricRuns = true ∧ s.role = 5 ∧ s.get Fld.TDM_LINK_STATE = 3 ∧ s.get Fld.TDM_LINK_MPV ≠ 0 ∧ s.fab.pair.peer = none ∧ s.fab.pair.failed = 0 ∧ s.get Fld.TIME_STATUS_SRC = 0 ∧ s.flag Fld.TIME_CFG_FOLLOW_EN = false ∧ s.fab.pair.adopt = false ∧ s.fab.pair.gap = true ∧ s.fab.pair.ackDue = false ∧ s.fab.pair.hasCredit 1 = true ∧ s.fab.pair.journal = []) ∧
    (∃ s : State, s.fabricRuns = true ∧ s.role = 5 ∧ s.get Fld.TDM_LINK_STATE = 3 ∧ s.get Fld.TDM_LINK_MPV ≠ 0 ∧ s.fab.pair.peer = none ∧ s.fab.pair.failed = 0 ∧ s.get Fld.TIME_STATUS_SRC = 0 ∧ s.flag Fld.TIME_CFG_FOLLOW_EN = false ∧ s.fab.pair.adopt = false ∧ s.fab.pair.gap = false) ∧
    (∃ s : State, s.fabricRuns = true ∧ s.role = 5 ∧ s.get Fld.TDM_LINK_STATE = 3 ∧ s.get Fld.TDM_LINK_MPV ≠ 0 ∧ s.fab.pair.peer = none ∧ s.fab.pair.failed = 0 ∧ s.get Fld.TIME_STATUS_SRC = 0 ∧ s.flag Fld.TIME_CFG_FOLLOW_EN = false ∧ s.fab.pair.adopt = false) :=
  ⟨⟨ready.pairAs 5 3, 101, by decide +kernel⟩,
    ⟨ready.pairAs 5 3, 101, by decide +kernel⟩,
    ⟨ready.pairAs 5 3, 101, by decide +kernel⟩,
    ⟨ready.pairAs 5 3, 101, by decide +kernel⟩,
    ⟨ready.pairAs 5 3, 101, 3, by decide +kernel⟩,
    ⟨ready.pairAs 5 3, 101, 18, by decide +kernel⟩,
    ⟨((ready.pairAs 5 3).pa fun p => { p with begun := 8 }), 101, 3, by decide +kernel⟩,
    ⟨ready.pairAs 5 3, 101, by decide +kernel⟩,
    ⟨((ready.pairAs 5 3).pa fun p => { p with openEpoch := [⟨100, 16, .reg 0x6000010 [9], true⟩] }), 101, 100, 0x6000010, 9, by decide +kernel⟩,
    ⟨((ready.pairAs 5 3).pa fun p => { p with openEpoch := [⟨100, 3, .dir 3 7 (some ⟨5, 2, [0, 2, 0, 0], 7⟩), true⟩] }).unrouted, 101, 100, 3, 7, ⟨5, 2, [0, 2, 0, 0], 7⟩, by decide +kernel⟩,
    ⟨ready.pairAs 5 3, 105, by decide +kernel⟩,
    ⟨ready.pairAs 5 3, 99, by decide +kernel⟩,
    ⟨((ready.pairAs 5 3).pa fun p => { p with gap := true }), by decide +kernel⟩,
    ⟨((ready.pairAs 5 3).pa fun p => { p with gap := true, restartIn := true }), 101, by decide +kernel⟩,
    ⟨((ready.pairAs 5 3).pa fun p => { p with gap := true }), by decide +kernel⟩,
    ⟨ready.pairAs 5 3, by decide +kernel⟩,
    ⟨ready.pairAs 5 3, by decide +kernel⟩⟩

theorem test_meets_MirrorSent :
    (∃ s : State, ∃ from_ : Word, ∃ r : Rec, s.fabricRuns = true ∧ (s.role = 2 ∨ s.role = 3) ∧ s.streamUp = true ∧ s.fab.pair.ackDue = false ∧ s.fab.pair.reqDue = false ∧ s.fab.pair.bulk = none ∧ seqAfter from_.toNat ((s.get Fld.TDM_HSEQ_SEQ + 1) % 2 ^ 32) = false ∧ s.fab.pair.journal = [r] ∧ seqAfter from_.toNat r.seq = false ∧ s.fab.pair.hasCredit (framesOf r.body.length) = true) ∧
    (∃ s : State, ∃ from_ : Word, s.fabricRuns = true ∧ (s.role = 2 ∨ s.role = 3) ∧ s.streamUp = true ∧ s.fab.pair.ackDue = false ∧ s.fab.pair.reqDue = false ∧ s.fab.pair.bulk = none ∧ seqAfter from_.toNat ((s.get Fld.TDM_HSEQ_SEQ + 1) % 2 ^ 32) = true ∧ s.get Fld.TDM_UNKNOWN_REGIONS ≠ allRegions) ∧
    (∃ s : State, s.fabricRuns = true ∧ (s.role = 2 ∨ s.role = 3) ∧ s.streamUp = true ∧ s.fab.pair.ackDue = false ∧ s.fab.pair.reqDue = false ∧ s.fab.pair.bulk = none ∧ s.fab.pair.sinceEpoch ≠ 0 ∧ s.recFits (RecBody.epoch 0 0).length = false) ∧
    (∃ s : State, s.fabricRuns = true ∧ (s.role = 2 ∨ s.role = 3) ∧ s.streamUp = true ∧ s.fab.pair.ackDue = false ∧ s.fab.pair.reqDue = false ∧ s.fab.pair.bulk = none ∧ s.fab.pair.sinceEpoch ≠ 0 ∧ s.recFits (RecBody.epoch 0 0).length = true) ∧
    (∃ s : State, s.fabricRuns = true ∧ (s.role = 2 ∨ s.role = 3) ∧ s.streamUp = true ∧ s.fab.pair.ackDue = false ∧ s.fab.pair.reqDue = false ∧ s.fab.pair.bulk = none ∧ s.fab.pair.sinceEpoch = 0) ∧
    (∃ s : State, ∃ rg : Nat, s.fabricRuns = true ∧ (s.role = 2 ∨ s.role = 3) ∧ s.streamUp = true ∧ s.fab.pair.ackDue = false ∧ s.fab.pair.reqDue = false ∧ s.fab.pair.bulk = none ∧ s.firstRsync = some rg ∧ s.bulkMay = true ∧ s.recFits 16 = true) ∧
    (∃ s : State, s.fabricRuns = true ∧ (s.role = 2 ∨ s.role = 3) ∧ s.streamUp = true ∧ s.fab.pair.ackDue = false ∧ s.fab.pair.reqDue = false ∧ s.fab.pair.bulk = none ∧ s.get Fld.TDM_UNKNOWN_REGIONS = 0) :=
  ⟨⟨((ready.pairAs 3 3).pa fun p => { p with peer := some (demoBlock 5 0 0), journal := [⟨95, 16, .reg 0x6000000 [1], true⟩] }), 95, ⟨95, 16, .reg 0x6000000 [1], true⟩, by decide +kernel⟩,
    ⟨((ready.pairAs 3 3).pa fun p => { p with peer := some (demoBlock 5 0 0), journal := [⟨95, 16, .reg 0x6000000 [1], true⟩] }), 105, by decide +kernel⟩,
    ⟨(((ready.pairAs 3 3).puts [(Fld.COMB_PART_ACT_SIZES, 0)]).pa fun p => { p with sinceEpoch := 24 }), by decide +kernel⟩,
    ⟨((((ready.pairAs 3 3).pa fun p => { p with peer := some (demoBlock 5 0 0), journal := [⟨95, 16, .reg 0x6000000 [1], true⟩] })).pa fun p => { p with sinceEpoch := 24 }), by decide +kernel⟩,
    ⟨((ready.pairAs 3 3).pa fun p => { p with peer := some (demoBlock 5 0 0), journal := [⟨95, 16, .reg 0x6000000 [1], true⟩] }), by decide +kernel⟩,
    ⟨(ready.pairAs 3 3).put Fld.TDM_UNKNOWN_REGIONS 0x80000, 19, by decide +kernel⟩,
    ⟨ready.pairAs 3 3, by decide +kernel⟩⟩

theorem test_meets_WaggleLane :
    (∃ s : State, ∃ w : WBlock, ∃ crc : BitVec 16, s.fabricRuns = true ∧ s.role = 0 ∧ s.get Fld.TIME_STATUS_SRC = 0 ∧ s.flag Fld.TIME_CFG_FOLLOW_EN = false ∧ s.flag (Fld.LANE_STATUS_FAILED 264) = false ∧ crc.toNat = crc16 w.symbols ∧ s.flag Fld.WAGGLE_CFG_EN = true) ∧
    (∃ s : State, ∃ w : WBlock, ∃ crc : BitVec 16, s.fabricRuns = true ∧ s.role = 0 ∧ s.get Fld.TIME_STATUS_SRC = 0 ∧ s.flag Fld.TIME_CFG_FOLLOW_EN = false ∧ s.flag (Fld.LANE_STATUS_FAILED 264) = false ∧ crc.toNat = crc16 w.symbols ∧ s.flag Fld.WAGGLE_CFG_EN = true ∧ s.fab.pair.failed = 0 ∧ s.flag Fld.TDM_CFG_EN = true) ∧
    (∃ s : State, ∃ w : WBlock, ∃ crc : BitVec 16, s.fabricRuns = true ∧ s.role = 0 ∧ s.get Fld.TIME_STATUS_SRC = 0 ∧ s.flag Fld.TIME_CFG_FOLLOW_EN = false ∧ s.flag (Fld.LANE_STATUS_FAILED 264) = false ∧ crc.toNat = crc16 { w with msg := 1 }.symbols ∧ s.flag Fld.WAGGLE_CFG_EN = true) ∧
    (∃ s : State, ∃ w : WBlock, ∃ crc : BitVec 16, s.fabricRuns = true ∧ s.role = 0 ∧ s.get Fld.TIME_STATUS_SRC = 0 ∧ s.flag Fld.TIME_CFG_FOLLOW_EN = false ∧ s.flag (Fld.LANE_STATUS_FAILED 264) = false ∧ crc.toNat = crc16 { w with state := 8, msg := 2 }.symbols ∧ s.flag Fld.WAGGLE_CFG_EN = true) ∧
    (∃ s : State, s.fabricRuns = true ∧ s.role = 0 ∧ s.get Fld.TIME_STATUS_SRC = 0 ∧ s.flag Fld.TIME_CFG_FOLLOW_EN = false ∧ (s.flag Fld.WAGGLE_CFG_EN = false ∨ s.flag (Fld.LANE_STATUS_FAILED 264) = true)) ∧
    (∃ s : State, ∃ w : WBlock, ∃ crc : BitVec 16, ∃ dm : Bool, s.fabricRuns = true ∧ s.role = 0 ∧ s.get Fld.TIME_STATUS_SRC = 0 ∧ s.flag Fld.TIME_CFG_FOLLOW_EN = false ∧ (dm = true ∨ crc.toNat ≠ crc16 w.symbols)) ∧
    (∃ s : State, ∃ w : WBlock, ∃ crc : BitVec 16, ∃ dm : Bool, s.fabricRuns = true ∧ s.role = 0 ∧ s.get Fld.TIME_STATUS_SRC = 0 ∧ s.flag Fld.TIME_CFG_FOLLOW_EN = false ∧ (dm = true ∨ crc.toNat ≠ crc16 w.symbols)) ∧
    (∃ s : State, ∃ w : WBlock, ∃ crc : BitVec 16, ∃ dm : Bool, s.fabricRuns = true ∧ s.role = 0 ∧ s.get Fld.TIME_STATUS_SRC = 0 ∧ s.flag Fld.TIME_CFG_FOLLOW_EN = false ∧ (dm = true ∨ crc.toNat ≠ crc16 { w with msg := 1 }.symbols)) ∧
    (∃ s : State, ∃ w : WBlock, ∃ crc : BitVec 16, ∃ dm : Bool, s.fabricRuns = true ∧ s.role = 0 ∧ s.get Fld.TIME_STATUS_SRC = 0 ∧ s.flag Fld.TIME_CFG_FOLLOW_EN = false ∧ (dm = true ∨ crc.toNat ≠ crc16 { w with state := 8, msg := 2 }.symbols)) ∧
    (∃ s : State, s.fabricRuns = true ∧ s.role = 0 ∧ s.get Fld.TIME_STATUS_SRC = 0 ∧ s.flag Fld.TIME_CFG_FOLLOW_EN = false ∧ s.waggleOn = true) ∧
    (∃ s : State, s.fabricRuns = true ∧ s.role = 0 ∧ s.get Fld.TIME_STATUS_SRC = 0 ∧ s.flag Fld.TIME_CFG_FOLLOW_EN = false ∧ s.waggleOn = false) ∧
    (∃ s : State, s.fabricRuns = true ∧ s.role = 0 ∧ s.get Fld.TIME_STATUS_SRC = 0 ∧ s.flag Fld.TIME_CFG_FOLLOW_EN = false ∧ s.flag Fld.TDM_CFG_EN = true ∧ s.fab.pair.failed = 0) ∧
    (∃ s : State, s.fabricRuns = true ∧ s.role = 0 ∧ s.get Fld.TIME_STATUS_SRC = 0 ∧ s.flag Fld.TIME_CFG_FOLLOW_EN = false) ∧
    (∃ s : State, s.fabricRuns = true ∧ s.role = 0 ∧ s.get Fld.TIME_STATUS_SRC = 0 ∧ s.flag Fld.TIME_CFG_FOLLOW_EN = false) ∧
    (∃ s : State, s.fabricRuns = true ∧ s.role = 0 ∧ s.get Fld.TIME_STATUS_SRC = 0 ∧ s.flag Fld.TIME_CFG_FOLLOW_EN = false ∧ s.flag Fld.WAGGLE_CFG_EN = true ∧ s.get Fld.WAGGLE_STATUS_LOST < 15) ∧
    (∃ s : State, s.fabricRuns = true ∧ s.role = 0 ∧ s.get Fld.TIME_STATUS_SRC = 0 ∧ s.flag Fld.TIME_CFG_FOLLOW_EN = false ∧ s.flag Fld.WAGGLE_CFG_EN = true ∧ 15 ≤ s.get Fld.WAGGLE_STATUS_LOST) ∧
    (∃ s : State, ∃ lock : Bool, s.fabricRuns = true ∧ s.role = 0 ∧ s.get Fld.TIME_STATUS_SRC = 0 ∧ s.flag Fld.TIME_CFG_FOLLOW_EN = false ∧ s.flag Fld.WAGGLE_STATUS_LOCK ≠ lock) :=
  ⟨⟨(ready.pairAs 0 0), demoBlock 5 0 7, BitVec.ofNat 16 (crc16 (demoBlock 5 0 7 : WBlock).symbols), by decide +kernel⟩,
    ⟨(ready.pairAs 0 0), demoBlock 5 0 7, BitVec.ofNat 16 (crc16 (demoBlock 5 0 7 : WBlock).symbols), by decide +kernel⟩,
    ⟨(ready.pairAs 0 0), demoBlock 5 0 7, BitVec.ofNat 16 (crc16 ({ (demoBlock 5 0 7 : WBlock) with msg := 1 } : WBlock).symbols), by decide +kernel⟩,
    ⟨(ready.pairAs 0 0), demoBlock 5 0 7, BitVec.ofNat 16 (crc16 ({ (demoBlock 5 0 7 : WBlock) with state := 8, msg := 2 } : WBlock).symbols), by decide +kernel⟩,
    ⟨(ready.pairAs 0 0).put (Fld.LANE_STATUS_FAILED 264) 1, by decide +kernel⟩,
    ⟨(ready.pairAs 0 0), demoBlock 5 0 7, 0, true, by decide +kernel⟩,
    ⟨(ready.pairAs 0 0), demoBlock 5 0 7, 0, true, by decide +kernel⟩,
    ⟨(ready.pairAs 0 0), demoBlock 5 0 7, 0, true, by decide +kernel⟩,
    ⟨(ready.pairAs 0 0), demoBlock 5 0 7, 0, true, by decide +kernel⟩,
    ⟨(ready.pairAs 0 0), by decide +kernel⟩,
    ⟨(ready.pairAs 0 0).put Fld.WAGGLE_CFG_EN 0, by decide +kernel⟩,
    ⟨(ready.pairAs 0 0), by decide +kernel⟩,
    ⟨(ready.pairAs 0 0), by decide +kernel⟩,
    ⟨(ready.pairAs 0 0), by decide +kernel⟩,
    ⟨(ready.pairAs 0 0).put Fld.WAGGLE_STATUS_LOST 3, by decide +kernel⟩,
    ⟨(ready.pairAs 0 0).put Fld.WAGGLE_STATUS_LOST 15, by decide +kernel⟩,
    ⟨(ready.pairAs 0 0).put Fld.WAGGLE_STATUS_LOCK 0, true, by decide +kernel⟩⟩

theorem test_meets_RolesAndSwap :
    (∃ s : State, ∃ m : Master, s.fabricRuns = true ∧ s.get Fld.TIME_STATUS_SRC = 0 ∧ s.flag Fld.TIME_CFG_FOLLOW_EN = false ∧ s.takes m 0xA0 = true ∧ s.flag Fld.TDM_LOCK_LOCK = false ∧ s.role = 0 ∧ s.trains = true ∧ s.get Fld.TDM_LINK_STATE = 0) ∧
    (∃ s : State, ∃ m : Master, s.fabricRuns = true ∧ s.get Fld.TIME_STATUS_SRC = 0 ∧ s.flag Fld.TIME_CFG_FOLLOW_EN = false ∧ s.takes m 0xA0 = true ∧ s.flag Fld.TDM_LOCK_LOCK = false ∧ s.role ≠ 0) ∧
    (∃ s : State, ∃ m : Master, s.fabricRuns = true ∧ s.get Fld.TIME_STATUS_SRC = 0 ∧ s.flag Fld.TIME_CFG_FOLLOW_EN = false ∧ s.takes m 0xA0 = true ∧ s.flag Fld.TDM_LOCK_LOCK = true) ∧
    (∃ s : State, ∃ m : Master, s.fabricRuns = true ∧ s.get Fld.TIME_STATUS_SRC = 0 ∧ s.flag Fld.TIME_CFG_FOLLOW_EN = false ∧ s.takes m 0xA0 = true ∧ s.flag Fld.TDM_LOCK_LOCK = false ∧ (s.role = 1 ∨ s.role = 2) ∧ s.waggleOn = true) ∧
    (∃ s : State, ∃ m : Master, s.fabricRuns = true ∧ s.get Fld.TIME_STATUS_SRC = 0 ∧ s.flag Fld.TIME_CFG_FOLLOW_EN = false ∧ s.takes m 0xA0 = true ∧ s.flag Fld.TDM_LOCK_LOCK = false ∧ s.role ≠ 0 ∧ s.role ≠ 1 ∧ s.role ≠ 2) ∧
    (∃ s : State, ∃ m : Master, ∃ w : WBlock, s.fabricRuns = true ∧ s.get Fld.TIME_STATUS_SRC = 0 ∧ s.flag Fld.TIME_CFG_FOLLOW_EN = false ∧ s.takes m 0xA0 = true ∧ m.keeperOrBoard = true ∧ s.role = 3 ∧ s.fab.pair.failed = 0 ∧ s.fab.pair.peer = some w ∧ w.state = 5 ∧ w.msg = 0) ∧
    (∃ s : State, ∃ m : Master, s.fabricRuns = true ∧ s.get Fld.TIME_STATUS_SRC = 0 ∧ s.flag Fld.TIME_CFG_FOLLOW_EN = false ∧ s.takes m 0xA0 = true ∧ m.keeperOrBoard = true ∧ s.role = 5) ∧
    (∃ s : State, ∃ m : Master, s.fabricRuns = true ∧ s.get Fld.TIME_STATUS_SRC = 0 ∧ s.flag Fld.TIME_CFG_FOLLOW_EN = false ∧ s.takes m 0xA0 = true ∧ (m.keeperOrBoard = false ∨ (s.role ≠ 3 ∧ s.role ≠ 5))) ∧
    (∃ s : State, ∃ m : Master, s.fabricRuns = true ∧ s.get Fld.TIME_STATUS_SRC = 0 ∧ s.flag Fld.TIME_CFG_FOLLOW_EN = false ∧ s.takes m 0xA0 = true ∧ m.keeperOrBoard = true ∧ s.role = 6 ∧ s.fab.pair.openEpoch = []) ∧
    (∃ s : State, ∃ m : Master, s.fabricRuns = true ∧ s.get Fld.TIME_STATUS_SRC = 0 ∧ s.flag Fld.TIME_CFG_FOLLOW_EN = false ∧ s.takes m 0xA0 = true ∧ (m.keeperOrBoard = false ∨ s.role ≠ 6)) ∧
    (∃ s : State, ∃ m : Master, s.fabricRuns = true ∧ s.get Fld.TIME_STATUS_SRC = 0 ∧ s.flag Fld.TIME_CFG_FOLLOW_EN = false ∧ s.takes m 0xA0 = true ∧ m.keeperOrBoard = true ∧ s.get Fld.TDM_LINK_STATE = 3) ∧
    (∃ s : State, ∃ m : Master, s.fabricRuns = true ∧ s.get Fld.TIME_STATUS_SRC = 0 ∧ s.flag Fld.TIME_CFG_FOLLOW_EN = false ∧ s.takes m 0xA0 = true ∧ (m.keeperOrBoard = false ∨ s.get Fld.TDM_LINK_STATE ≠ 3)) ∧
    (∃ s : State, ∃ m : Master, s.fabricRuns = true ∧ s.get Fld.TIME_STATUS_SRC = 0 ∧ s.flag Fld.TIME_CFG_FOLLOW_EN = false ∧ s.takes m 0xA0 = true ∧ m.keeperOrBoard = true ∧ s.issues = true ∧ s.get Fld.TDM_UNKNOWN_REGIONS ≠ allRegions) ∧
    (∃ s : State, ∃ m : Master, s.fabricRuns = true ∧ s.get Fld.TIME_STATUS_SRC = 0 ∧ s.flag Fld.TIME_CFG_FOLLOW_EN = false ∧ s.takes m 0xA0 = true ∧ (m.keeperOrBoard = false ∨ s.issues = false)) ∧
    (∃ s : State, s.fabricRuns = true ∧ s.get Fld.TIME_STATUS_SRC = 0 ∧ s.flag Fld.TIME_CFG_FOLLOW_EN = false ∧ s.role = 1 ∧ s.flag Fld.TDM_CFG_ARB_SOLO = true ∧ s.flag Fld.WAGGLE_STATUS_ALIVE = false ∧ s.partner = none) ∧
    (∃ s : State, s.fabricRuns = true ∧ s.get Fld.TIME_STATUS_SRC = 0 ∧ s.flag Fld.TIME_CFG_FOLLOW_EN = false ∧ (s.flag Fld.TDM_CFG_ARB_SOLO = false ∨ s.role ≠ 1)) ∧
    (∃ s : State, ∃ w : WBlock, ∃ crc : BitVec 16, s.fabricRuns = true ∧ s.get Fld.TIME_STATUS_SRC = 0 ∧ s.flag Fld.TIME_CFG_FOLLOW_EN = false ∧ s.flag Fld.WAGGLE_CFG_EN = true ∧ s.flag (Fld.LANE_STATUS_FAILED 264) = false ∧ crc.toNat = crc16 w.symbols ∧ s.role = 1 ∧ s.fab.pair.conflict = false ∧ w.strap = s.strapB) ∧
    (∃ s : State, ∃ w : WBlock, ∃ crc : BitVec 16, s.fabricRuns = true ∧ s.get Fld.TIME_STATUS_SRC = 0 ∧ s.flag Fld.TIME_CFG_FOLLOW_EN = false ∧ s.flag Fld.WAGGLE_CFG_EN = true ∧ s.flag (Fld.LANE_STATUS_FAILED 264) = false ∧ crc.toNat = crc16 w.symbols ∧ s.role = 1 ∧ w.strap ≠ s.strapB ∧ w.active = true) ∧
    (∃ s : State, ∃ w : WBlock, ∃ crc : BitVec 16, s.fabricRuns = true ∧ s.get Fld.TIME_STATUS_SRC = 0 ∧ s.flag Fld.TIME_CFG_FOLLOW_EN = false ∧ s.flag Fld.WAGGLE_CFG_EN = true ∧ s.flag (Fld.LANE_STATUS_FAILED 264) = false ∧ crc.toNat = crc16 w.symbols ∧ s.role = 1 ∧ w.strap ≠ s.strapB ∧ w.state = 1 ∧ s.strapB = false) ∧
    (∃ s : State, ∃ w : WBlock, ∃ crc : BitVec 16, s.fabricRuns = true ∧ s.get Fld.TIME_STATUS_SRC = 0 ∧ s.flag Fld.TIME_CFG_FOLLOW_EN = false ∧ s.flag Fld.WAGGLE_CFG_EN = true ∧ s.flag (Fld.LANE_STATUS_FAILED 264) = false ∧ crc.toNat = crc16 w.symbols ∧ s.role = 2 ∧ w.state = 5 ∧ w.msg = 0) ∧
    (∃ s : State, ∃ w : WBlock, ∃ crc : BitVec 16, s.fabricRuns = true ∧ s.get Fld.TIME_STATUS_SRC = 0 ∧ s.flag Fld.TIME_CFG_FOLLOW_EN = false ∧ s.flag Fld.WAGGLE_CFG_EN = true ∧ s.flag (Fld.LANE_STATUS_FAILED 264) = false ∧ crc.toNat = crc16 w.symbols ∧ s.role = 2 ∧ w.state = 4 ∧ s.get Fld.TDM_LINK_MPV ≠ 0 ∧ s.fab.pair.syncSeen = false ∧ s.get Fld.TDM_UNKNOWN_REGIONS ≠ allRegions) ∧
    (∃ s : State, ∃ w : WBlock, ∃ crc : BitVec 16, s.fabricRuns = true ∧ s.get Fld.TIME_STATUS_SRC = 0 ∧ s.flag Fld.TIME_CFG_FOLLOW_EN = false ∧ s.flag Fld.WAGGLE_CFG_EN = true ∧ s.flag (Fld.LANE_STATUS_FAILED 264) = false ∧ crc.toNat = crc16 w.symbols ∧ s.role = 2 ∧ w.active = true ∧ s.strapB = false ∧ s.fab.pair.split = false) ∧
    (∃ s : State, ∃ w : WBlock, ∃ crc : BitVec 16, s.fabricRuns = true ∧ s.get Fld.TIME_STATUS_SRC = 0 ∧ s.flag Fld.TIME_CFG_FOLLOW_EN = false ∧ s.flag Fld.WAGGLE_CFG_EN = true ∧ s.flag (Fld.LANE_STATUS_FAILED 264) = false ∧ crc.toNat = crc16 w.symbols ∧ s.role = 3 ∧ w.state = 6) ∧
    (∃ s : State, ∃ w : WBlock, ∃ crc : BitVec 16, s.fabricRuns = true ∧ s.get Fld.TIME_STATUS_SRC = 0 ∧ s.flag Fld.TIME_CFG_FOLLOW_EN = false ∧ s.flag Fld.WAGGLE_CFG_EN = true ∧ s.flag (Fld.LANE_STATUS_FAILED 264) = false ∧ crc.toNat = crc16 { w with msg := 1 }.symbols ∧ s.role = 3 ∧ w.state = 5) ∧
    (∃ s : State, ∃ w : WBlock, ∃ crc : BitVec 16, s.fabricRuns = true ∧ s.get Fld.TIME_STATUS_SRC = 0 ∧ s.flag Fld.TIME_CFG_FOLLOW_EN = false ∧ s.flag Fld.WAGGLE_CFG_EN = true ∧ s.flag (Fld.LANE_STATUS_FAILED 264) = false ∧ crc.toNat = crc16 w.symbols ∧ s.role = 3 ∧ s.fab.pair.failed = 0 ∧ s.flag Fld.TDM_CFG_EN = true) ∧
    (∃ s : State, ∃ w : WBlock, ∃ crc : BitVec 16, s.fabricRuns = true ∧ s.get Fld.TIME_STATUS_SRC = 0 ∧ s.flag Fld.TIME_CFG_FOLLOW_EN = false ∧ s.flag Fld.WAGGLE_CFG_EN = true ∧ s.flag (Fld.LANE_STATUS_FAILED 264) = false ∧ crc.toNat = crc16 w.symbols ∧ s.role = 5 ∧ s.fab.pair.openEpoch = []) ∧
    (∃ s : State, ∃ w : WBlock, ∃ crc : BitVec 16, s.fabricRuns = true ∧ s.get Fld.TIME_STATUS_SRC = 0 ∧ s.flag Fld.TIME_CFG_FOLLOW_EN = false ∧ s.flag Fld.WAGGLE_CFG_EN = true ∧ s.flag (Fld.LANE_STATUS_FAILED 264) = false ∧ crc.toNat = crc16 { w with state := 8, msg := 2 }.symbols ∧ s.role = 5 ∧ seqAfter w.hseq (s.get Fld.TDM_ACKSEQ_SEQ) = false ∧ s.fab.pair.swapHseq = none ∧ s.fab.pair.openEpoch = []) ∧
    (∃ s : State, ∃ w : WBlock, ∃ crc : BitVec 16, s.fabricRuns = true ∧ s.get Fld.TIME_STATUS_SRC = 0 ∧ s.flag Fld.TIME_CFG_FOLLOW_EN = false ∧ s.flag Fld.WAGGLE_CFG_EN = true ∧ s.flag (Fld.LANE_STATUS_FAILED 264) = false ∧ crc.toNat = crc16 { w with state := 8, msg := 2 }.symbols ∧ s.role = 5 ∧ seqAfter w.hseq (s.get Fld.TDM_ACKSEQ_SEQ) = true ∧ s.fab.pair.swapHseq = none) ∧
    (∃ s : State, ∃ w : WBlock, ∃ crc : BitVec 16, s.fabricRuns = true ∧ s.get Fld.TIME_STATUS_SRC = 0 ∧ s.flag Fld.TIME_CFG_FOLLOW_EN = false ∧ s.flag Fld.WAGGLE_CFG_EN = true ∧ s.flag (Fld.LANE_STATUS_FAILED 264) = false ∧ crc.toNat = crc16 w.symbols ∧ s.role = 6 ∧ w.state = 1 ∧ s.fab.pair.begun = 0 ∧ w.rsync = 0 ∧ s.fab.pair.openEpoch = []) ∧
    (∃ s : State, ∃ w : WBlock, ∃ crc : BitVec 16, s.fabricRuns = true ∧ s.get Fld.TIME_STATUS_SRC = 0 ∧ s.flag Fld.TIME_CFG_FOLLOW_EN = false ∧ s.flag Fld.WAGGLE_CFG_EN = true ∧ s.flag (Fld.LANE_STATUS_FAILED 264) = false ∧ crc.toNat = crc16 w.symbols ∧ s.role = 6 ∧ w.active = true) ∧
    (∃ s : State, ∃ w : WBlock, ∃ crc : BitVec 16, s.fabricRuns = true ∧ s.get Fld.TIME_STATUS_SRC = 0 ∧ s.flag Fld.TIME_CFG_FOLLOW_EN = false ∧ s.flag Fld.WAGGLE_CFG_EN = true ∧ s.flag (Fld.LANE_STATUS_FAILED 264) = false ∧ crc.toNat = crc16 w.symbols ∧ s.role = 8 ∧ s.fab.pair.handover = true ∧ w.active = true) ∧
    (∃ s : State, ∃ w : WBlock, ∃ crc : BitVec 16, s.fabricRuns = true ∧ s.get Fld.TIME_STATUS_SRC = 0 ∧ s.flag Fld.TIME_CFG_FOLLOW_EN = false ∧ s.flag Fld.WAGGLE_CFG_EN = true ∧ s.flag (Fld.LANE_STATUS_FAILED 264) = false ∧ crc.toNat = crc16 w.symbols ∧ s.role = 8 ∧ s.fab.pair.handover = false ∧ s.fab.pair.failed = 0 ∧ s.flag Fld.TDM_CFG_EN = true ∧ s.fab.pair.swapFrom = 3) ∧
    (∃ s : State, s.fabricRuns = true ∧ s.get Fld.TIME_STATUS_SRC = 0 ∧ s.flag Fld.TIME_CFG_FOLLOW_EN = false ∧ s.flag Fld.TDM_CFG_EN = true ∧ s.fab.pair.failed = 0 ∧ s.role = 5 ∧ s.flag Fld.TDM_CFG_PROMOTE_MODE = true) ∧
    (∃ s : State, s.fabricRuns = true ∧ s.get Fld.TIME_STATUS_SRC = 0 ∧ s.flag Fld.TIME_CFG_FOLLOW_EN = false ∧ s.flag Fld.TDM_CFG_EN = true ∧ s.fab.pair.failed = 0 ∧ s.role = 5 ∧ s.flag Fld.TDM_CFG_PROMOTE_MODE = false ∧ s.fab.pair.openEpoch = []) ∧
    (∃ s : State, s.fabricRuns = true ∧ s.get Fld.TIME_STATUS_SRC = 0 ∧ s.flag Fld.TIME_CFG_FOLLOW_EN = false ∧ s.role = 8 ∧ s.fab.pair.handover = false ∧ s.drained = true ∧ s.recFits (RecBody.epoch 0 0).length = true ∧ s.partner = none ∧ s.fab.pair.failed = 0) ∧
    (∃ s : State, s.fabricRuns = true ∧ s.get Fld.TIME_STATUS_SRC = 0 ∧ s.flag Fld.TIME_CFG_FOLLOW_EN = false ∧ (s.role ≠ 8 ∨ s.drained = false)) ∧
    (∃ s : State, ∃ w : WBlock, s.fabricRuns = true ∧ s.get Fld.TIME_STATUS_SRC = 0 ∧ s.flag Fld.TIME_CFG_FOLLOW_EN = false ∧ s.role = 8 ∧ s.fab.pair.handover = false ∧ s.fab.pair.swapFrom = 3 ∧ s.fab.pair.failed = 0 ∧ s.fab.pair.peer = some w ∧ w.state = 5 ∧ w.msg = 0) ∧
    (∃ s : State, s.fabricRuns = true ∧ s.get Fld.TIME_STATUS_SRC = 0 ∧ s.flag Fld.TIME_CFG_FOLLOW_EN = false ∧ (s.role ≠ 8 ∨ s.fab.pair.handover = true)) ∧
    (∃ s : State, s.fabricRuns = true ∧ s.get Fld.TIME_STATUS_SRC = 0 ∧ s.flag Fld.TIME_CFG_FOLLOW_EN = false ∧ s.role = 5 ∧ s.fab.pair.swapHseq ≠ none ∧ s.fab.pair.openEpoch = []) ∧
    (∃ s : State, s.fabricRuns = true ∧ s.get Fld.TIME_STATUS_SRC = 0 ∧ s.flag Fld.TIME_CFG_FOLLOW_EN = false ∧ s.fab.pair.swapHseq = none) ∧
    (∃ s : State, ∃ c : Nat, ∃ u : Nat, s.fabricRuns = true ∧ s.get Fld.TIME_STATUS_SRC = 0 ∧ s.flag Fld.TIME_CFG_FOLLOW_EN = false ∧ s.role = 7 ∧ s.fab.pair.promo = some (c, u) ∧ c < 16 ∧ u < 2 ^ 20 ∧ s.partner = none) ∧
    (∃ s : State, s.fabricRuns = true ∧ s.get Fld.TIME_STATUS_SRC = 0 ∧ s.flag Fld.TIME_CFG_FOLLOW_EN = false ∧ s.role ≠ 7) ∧
    (∃ s : State, ∃ p : Port, ∃ v : Vdm, s.fabricRuns = true ∧ s.get Fld.TIME_STATUS_SRC = 0 ∧ s.flag Fld.TIME_CFG_FOLLOW_EN = false ∧ (s.islUsable p.val = false ∨ v.headed .localReceiver = false)) ∧
    (∃ s : State, ∃ p : Port, ∃ v : Vdm, s.fabricRuns = true ∧ s.get Fld.TIME_STATUS_SRC = 0 ∧ s.flag Fld.TIME_CFG_FOLLOW_EN = false ∧ s.islUsable p.val = true ∧ v.headed .localReceiver = true ∧ s.isActive = false) ∧
    (∃ s : State, ∃ p : Port, ∃ v : Vdm, s.fabricRuns = true ∧ s.get Fld.TIME_STATUS_SRC = 0 ∧ s.flag Fld.TIME_CFG_FOLLOW_EN = false ∧ s.islUsable p.val = true ∧ v.headed .localReceiver = true ∧ s.isActive = true ∧ (v.proto ≠ 0xD7 ∨ v.op ≠ 1)) ∧
    (∃ s : State, ∃ p : Port, ∃ v : Vdm, s.fabricRuns = true ∧ s.get Fld.TIME_STATUS_SRC = 0 ∧ s.flag Fld.TIME_CFG_FOLLOW_EN = false ∧ s.islUsable p.val = true ∧ v.headed .localReceiver = true ∧ s.isActive = true ∧ v.proto = 0xD7 ∧ v.op = 1 ∧ s.fab.home.snoops = []) :=
  ⟨⟨(ready.pairAs 0 0).put Fld.TDM_CFG_EN 0, .keeper 0, by decide +kernel⟩,
    ⟨ready.pairAs 2 3, .keeper 0, by decide +kernel⟩,
    ⟨(ready.pairAs 2 3).put Fld.TDM_LOCK_LOCK 1, .keeper 0, by decide +kernel⟩,
    ⟨ready.pairAs 2 3, .keeper 0, by decide +kernel⟩,
    ⟨ready.pairAs 3 3, .keeper 0, by decide +kernel⟩,
    ⟨((ready.pairAs 3 3).pa fun p => { p with peer := some (demoBlock 5 0 0) }), .keeper 0, demoBlock 5 0 0, by decide +kernel⟩,
    ⟨ready.pairAs 5 3, .keeper 0, by decide +kernel⟩,
    ⟨ready.pairAs 2 3, .keeper 0, by decide +kernel⟩,
    ⟨ready.pairAs 6 3, .keeper 0, by decide +kernel⟩,
    ⟨ready.pairAs 2 3, .keeper 0, by decide +kernel⟩,
    ⟨ready.pairAs 2 3, .keeper 0, by decide +kernel⟩,
    ⟨ready.pairAs 2 1, .keeper 0, by decide +kernel⟩,
    ⟨ready.pairAs 2 3, .keeper 0, by decide +kernel⟩,
    ⟨ready.pairAs 5 3, .keeper 0, by decide +kernel⟩,
    ⟨((ready.pairAs 1 1).puts [(Fld.TDM_CFG_ARB_SOLO, 1), (Fld.WAGGLE_STATUS_ALIVE, 0)]), by decide +kernel⟩,
    ⟨ready.pairAs 2 1, by decide +kernel⟩,
    ⟨ready.pairAs 1 1, { demoBlock 1 0 0 with strap := false }, BitVec.ofNat 16 (crc16 ({ demoBlock 1 0 0 with strap := false } : WBlock).symbols), by decide +kernel⟩,
    ⟨ready.pairAs 1 1, demoBlock 2 0 0, BitVec.ofNat 16 (crc16 (demoBlock 2 0 0 : WBlock).symbols), by decide +kernel⟩,
    ⟨ready.pairAs 1 1, demoBlock 1 0 0, BitVec.ofNat 16 (crc16 (demoBlock 1 0 0 : WBlock).symbols), by decide +kernel⟩,
    ⟨ready.pairAs 2 3, demoBlock 5 0 0, BitVec.ofNat 16 (crc16 (demoBlock 5 0 0 : WBlock).symbols), by decide +kernel⟩,
    ⟨ready.pairAs 2 3, demoBlock 4 0 0, BitVec.ofNat 16 (crc16 (demoBlock 4 0 0 : WBlock).symbols), by decide +kernel⟩,
    ⟨ready.pairAs 2 3, demoBlock 2 0 0, BitVec.ofNat 16 (crc16 (demoBlock 2 0 0 : WBlock).symbols), by decide +kernel⟩,
    ⟨((ready.pairAs 3 3).pa fun p => { p with peer := some (demoBlock 5 0 0) }), demoBlock 6 0 0, BitVec.ofNat 16 (crc16 (demoBlock 6 0 0 : WBlock).symbols), by decide +kernel⟩,
    ⟨((ready.pairAs 3 3).pa fun p => { p with peer := some (demoBlock 5 0 0) }), demoBlock 5 0 0, BitVec.ofNat 16 (crc16 ({ (demoBlock 5 0 0 : WBlock) with msg := 1 } : WBlock).symbols), by decide +kernel⟩,
    ⟨((ready.pairAs 3 3).pa fun p => { p with peer := some (demoBlock 5 0 0) }), demoBlock 5 0 0, BitVec.ofNat 16 (crc16 (demoBlock 5 0 0 : WBlock).symbols), by decide +kernel⟩,
    ⟨((ready.pairAs 5 3).pa fun p => { p with peer := some (demoBlock 3 0 0) }), demoBlock 3 0 100, BitVec.ofNat 16 (crc16 (demoBlock 3 0 100 : WBlock).symbols), by decide +kernel⟩,
    ⟨((ready.pairAs 5 3).pa fun p => { p with peer := some (demoBlock 3 0 0) }), demoBlock 8 2 90, BitVec.ofNat 16 (crc16 ({ (demoBlock 8 2 90 : WBlock) with state := 8, msg := 2 } : WBlock).symbols), by decide +kernel⟩,
    ⟨((ready.pairAs 5 3).pa fun p => { p with peer := some (demoBlock 3 0 0) }), demoBlock 8 2 95, BitVec.ofNat 16 (crc16 ({ (demoBlock 8 2 95 : WBlock) with state := 8, msg := 2 } : WBlock).symbols), by decide +kernel⟩,
    ⟨ready.pairAs 6 3, demoBlock 1 0 0, BitVec.ofNat 16 (crc16 (demoBlock 1 0 0 : WBlock).symbols), by decide +kernel⟩,
    ⟨ready.pairAs 6 3, demoBlock 2 0 0, BitVec.ofNat 16 (crc16 (demoBlock 2 0 0 : WBlock).symbols), by decide +kernel⟩,
    ⟨((ready.pairAs 8 3).pa fun p => { p with peer := some (demoBlock 7 0 0), handover := true }), demoBlock 2 0 0, BitVec.ofNat 16 (crc16 (demoBlock 2 0 0 : WBlock).symbols), by decide +kernel⟩,
    ⟨((ready.pairAs 8 3).pa fun p => { p with peer := some (demoBlock 5 0 0), swapFrom := 3 }), demoBlock 5 0 0, BitVec.ofNat 16 (crc16 (demoBlock 5 0 0 : WBlock).symbols), by decide +kernel⟩,
    ⟨(ready.pairAs 5 3).put Fld.TDM_CFG_PROMOTE_MODE 1, by decide +kernel⟩,
    ⟨(ready.pairAs 5 3).put Fld.TDM_CFG_PROMOTE_MODE 0, by decide +kernel⟩,
    ⟨((ready.pairAs 8 3).pa fun p => { p with swapFrom := 3 }), by decide +kernel⟩,
    ⟨ready.pairAs 2 3, by decide +kernel⟩,
    ⟨((ready.pairAs 8 3).pa fun p => { p with peer := some (demoBlock 5 0 0), swapFrom := 3 }), demoBlock 5 0 0, by decide +kernel⟩,
    ⟨ready.pairAs 2 3, by decide +kernel⟩,
    ⟨((ready.pairAs 5 3).pa fun p => { p with swapHseq := some 120 }), by decide +kernel⟩,
    ⟨ready.pairAs 5 3, by decide +kernel⟩,
    ⟨((ready.pairAs 7 3).pa fun p => { p with promo := some (2, 0x8000F) }), 2, 0x8000F, by decide +kernel⟩,
    ⟨ready.pairAs 2 3, by decide +kernel⟩,
    ⟨(ready.portAs 3 1 5).puts [(Fld.TIME_STATUS_SRC, 0), (Fld.TIME_CFG_FOLLOW_EN, 0)], 3, Vdm.of .localReceiver 0xD7 1 1 5 9, by decide +kernel⟩,
    ⟨((ready.portAs 3 2 5).puts [(Fld.TIME_STATUS_SRC, 0), (Fld.TIME_CFG_FOLLOW_EN, 0)]).put Fld.TDM_ROLE_STATE 5, 3, Vdm.of .localReceiver 0xD7 1 1 5 9, by decide +kernel⟩,
    ⟨((ready.portAs 3 2 5).puts [(Fld.TIME_STATUS_SRC, 0), (Fld.TIME_CFG_FOLLOW_EN, 0)]).put Fld.TDM_ROLE_STATE 0, 3, Vdm.of .localReceiver 0xD7 2 1 5 9, by decide +kernel⟩,
    ⟨(((ready.portAs 3 2 5).puts [(Fld.TIME_STATUS_SRC, 0), (Fld.TIME_CFG_FOLLOW_EN, 0)]).put Fld.TDM_ROLE_STATE 0).ho fun h => { h with snoops := [] }, 3, Vdm.of .localReceiver 0xD7 1 1 5 9, by decide +kernel⟩⟩

theorem test_meets_IngressChecks :
    (∃ s : State, ∃ p : Port, ∃ m : Msg, ∃ k : Nat, s.fabricRuns = true ∧ s.linkUp p.val = true ∧ (∀ o ∈ s.fab.lag, o.tile ≠ p.val / 16 ∨ o.since + 200 ≤ s.now) ∧ s.tileRoom p.val m.kind.service = true ∧ m.kind ≠ .ptmReq ∧ (s.isActive = true ∨ s.roleIs p.val 0 = true) ∧ s.spoofField p.val m = some k) ∧
    (∃ s : State, ∃ p : Port, ∃ m : Msg, ∃ k : Nat, s.fabricRuns = true ∧ s.linkUp p.val = true ∧ (∀ o ∈ s.fab.lag, o.tile ≠ p.val / 16 ∨ o.since + 200 ≤ s.now) ∧ s.tileRoom p.val m.kind.service = true ∧ m.kind ≠ .ptmReq ∧ (s.isActive = true ∨ s.roleIs p.val 0 = true) ∧ s.spoofField p.val m = some k ∧ m.kind.isAnswer = true) ∧
    (∃ s : State, ∃ p : Port, ∃ m : Msg, s.fabricRuns = true ∧ s.linkUp p.val = true ∧ (∀ o ∈ s.fab.lag, o.tile ≠ p.val / 16 ∨ o.since + 200 ≤ s.now) ∧ s.tileRoom p.val m.kind.service = true ∧ m.kind ≠ .ptmReq ∧ s.isActive = false ∧ s.roleIs p.val 0 = false) ∧
    (∃ s : State, ∃ p : Port, ∃ m : Msg, s.fabricRuns = true ∧ s.linkUp p.val = true ∧ (∀ o ∈ s.fab.lag, o.tile ≠ p.val / 16 ∨ o.since + 200 ≤ s.now) ∧ s.tileRoom p.val m.kind.service = true ∧ m.kind ≠ .ptmReq ∧ s.isActive = false ∧ s.roleIs p.val 0 = false ∧ m.kind.isAnswer = true) ∧
    (∃ s : State, ∃ p : Port, ∃ m : Msg, ∃ v : Nat, ∃ u : Nat, ∃ h : Nat, ∃ i : Nat, ∃ off : Nat, s.fabricRuns = true ∧ s.linkUp p.val = true ∧ (∀ o ∈ s.fab.lag, o.tile ≠ p.val / 16 ∨ o.since + 200 ≤ s.now) ∧ s.tileRoom p.val m.kind.service = true ∧ m.kind ≠ .ptmReq ∧ s.isActive = true ∧ s.role ≠ 8 ∧ s.roleIs p.val 0 = true ∧ s.spoofField p.val m = none ∧ s.vcsOn p.val = some v ∧ m.kind = .memRd ∧ m.mv = .a ∧ u = s.get (Fld.VPPB_SUBID_SUBID (s.upstreamVppb v)) ∧ s.destOf v m.addr true = .home h i off ∧ ruleGrants (s.bank (p.val / 16)) u 0 m.addr (Perm.r + Perm.cs) = true) ∧
    (∃ s : State, ∃ p : Port, ∃ m : Msg, ∃ v : Nat, ∃ u : Nat, ∃ h : Nat, ∃ i : Nat, ∃ off : Nat, s.fabricRuns = true ∧ s.linkUp p.val = true ∧ (∀ o ∈ s.fab.lag, o.tile ≠ p.val / 16 ∨ o.since + 200 ≤ s.now) ∧ s.tileRoom p.val m.kind.service = true ∧ m.kind ≠ .ptmReq ∧ s.isActive = true ∧ s.role ≠ 8 ∧ s.roleIs p.val 0 = true ∧ s.spoofField p.val m = none ∧ s.vcsOn p.val = some v ∧ m.kind = .memRd ∧ m.mv = .a ∧ u = s.get (Fld.VPPB_SUBID_SUBID (s.upstreamVppb v)) ∧ s.destOf v m.addr true = .home h i off ∧ ruleGrants (s.bank (p.val / 16)) u 0 m.addr (Perm.r + Perm.cs) = false) ∧
    (∃ s : State, ∃ p : Port, ∃ m : Msg, ∃ v : Nat, ∃ u : Nat, s.fabricRuns = true ∧ s.linkUp p.val = true ∧ (∀ o ∈ s.fab.lag, o.tile ≠ p.val / 16 ∨ o.since + 200 ≤ s.now) ∧ s.tileRoom p.val m.kind.service = true ∧ m.kind ≠ .ptmReq ∧ s.isActive = true ∧ s.role ≠ 8 ∧ s.roleIs p.val 0 = true ∧ s.spoofField p.val m = none ∧ s.vcsOn p.val = some v ∧ m.kind = .memRd ∧ m.mv = .a ∧ u = s.get (Fld.VPPB_SUBID_SUBID (s.upstreamVppb v)) ∧ s.destOf v m.addr true = .nowhere) ∧
    (∃ s : State, ∃ p : Port, ∃ m : Msg, ∃ v : Nat, ∃ u : Nat, ∃ n : Nat, s.fabricRuns = true ∧ s.linkUp p.val = true ∧ (∀ o ∈ s.fab.lag, o.tile ≠ p.val / 16 ∨ o.since + 200 ≤ s.now) ∧ s.tileRoom p.val m.kind.service = true ∧ m.kind ≠ .ptmReq ∧ s.isActive = true ∧ s.role ≠ 8 ∧ s.roleIs p.val 0 = true ∧ s.spoofField p.val m = none ∧ s.vcsOn p.val = some v ∧ m.kind = .memRd ∧ m.mv = .a ∧ u = s.get (Fld.VPPB_SUBID_SUBID (s.upstreamVppb v)) ∧ s.destOf v m.addr true = .unbound n) ∧
    (∃ s : State, ∃ p : Port, ∃ m : Msg, s.fabricRuns = true ∧ s.linkUp p.val = true ∧ (∀ o ∈ s.fab.lag, o.tile ≠ p.val / 16 ∨ o.since + 200 ≤ s.now) ∧ s.tileRoom p.val m.kind.service = true ∧ m.kind ≠ .ptmReq ∧ s.isActive = true ∧ s.roleIs p.val 0 = true ∧ s.role ≠ 8 ∧ s.spoofField p.val m = none ∧ s.vcsOn p.val = none ∧ m.kind = .memRd) ∧
    (∃ s : State, ∃ p : Port, ∃ m : Msg, ∃ k : Nat, ∃ e : TSlot, s.fabricRuns = true ∧ s.linkUp p.val = true ∧ (∀ o ∈ s.fab.lag, o.tile ≠ p.val / 16 ∨ o.since + 200 ≤ s.now) ∧ s.tileRoom p.val m.kind.service = true ∧ m.kind ≠ .ptmReq ∧ s.isActive = true ∧ s.roleIs p.val 0 = false ∧ s.roleIs p.val 2 = false ∧ s.spoofField p.val m = none ∧ m.kind = .memData ∧ s.isWindowTarget p.val m.ld = false ∧ s.tagSlot p.val 0 m.tag = k ∧ assoc (s.slots p.val 0) k = some e ∧ m.tag = s.trackTag p.val 0 e.gen k ∧ e.stale = false ∧ e.vppb < 4096 ∧ s.vppbGen e.vppb = e.gen ∧ e.owesData = true ∧ e.owesNdr = false ∧ m.final = true ∧ m.spid = none ∧ m.dpid = none) ∧
    (∃ s : State, ∃ p : Port, ∃ m : Msg, ∃ k : Nat, ∃ e : TSlot, s.fabricRuns = true ∧ s.linkUp p.val = true ∧ (∀ o ∈ s.fab.lag, o.tile ≠ p.val / 16 ∨ o.since + 200 ≤ s.now) ∧ s.tileRoom p.val m.kind.service = true ∧ m.kind ≠ .ptmReq ∧ s.isActive = true ∧ s.roleIs p.val 0 = false ∧ s.roleIs p.val 2 = false ∧ s.spoofField p.val m = none ∧ m.kind = .memData ∧ s.isWindowTarget p.val m.ld = false ∧ s.tagSlot p.val 0 m.tag = k ∧ assoc (s.slots p.val 0) k = some e ∧ (e.stale = true ∨ s.vppbGen e.vppb ≠ e.gen) ∧ e.vppb < 4096) :=
  ⟨⟨ready.host4, 4, { kind := .memRd, spid := some 3 }, 1, by decide +kernel⟩,
    ⟨ready.host4, 4, { kind := .biRspI, spid := some 3 }, 1, by decide +kernel⟩,
    ⟨(ready.host4).puts [(Fld.TDM_ROLE_STATE, 1), (Fld.PORT_CFG_ROLE 4, 1)], 4, { kind := .memRd }, by decide +kernel⟩,
    ⟨(ready.host4).puts [(Fld.TDM_ROLE_STATE, 1), (Fld.PORT_CFG_ROLE 4, 1)], 4, { kind := .biRspI }, by decide +kernel⟩,
    ⟨ready.host4, 4, { kind := .memRd, mv := .a, addr := 64, tag := 7 }, 2, 5, 0, 0, 64, by decide +kernel⟩,
    ⟨(ready.host4).modHat fun h => { h with active := [] }, 4, { kind := .memRd, mv := .a, addr := 64, tag := 7 }, 2, 5, 0, 0, 64, by decide +kernel⟩,
    ⟨ready.host4, 4, { kind := .memRd, mv := .a, addr := 2 ^ 40, tag := 7 }, 2, 5, by decide +kernel⟩,
    ⟨(ready.host4).puts [(Fld.HDM_DECODER_WORD 64 0, 0), (Fld.HDM_DECODER_WORD 64 1, 256), (Fld.HDM_DECODER_WORD 64 2, 2 ^ 28), (Fld.HDM_DECODER_WORD 64 4, 2 ^ 10), (Fld.HDM_TARGETS_WAYS 64 0, 2)], 4, { kind := .memRd, mv := .a, addr := 2 ^ 40, tag := 7 }, 2, 5, 18, by decide +kernel⟩,
    ⟨(ready.host4).puts [(Fld.VCS_ENTRY_CFG_EN 2, 0)], 4, { kind := .memRd, mv := .a, addr := 64, tag := 7 }, by decide +kernel⟩,
    ⟨(ready.host4).sw fun w => { w with trackers := [(12, [(7, { stale := false, vppb := 17, gen := ready.host4.vppbGen 17, seq := 0, msg := { kind := .memRd, src := 4, dst := 3, tag := 77, sub := 5, vppb := some 17 }, owesData := true, owesNdr := false })])] }, 3, { kind := .memData, tag := ((ready.host4).sw fun w => { w with trackers := [(12, [(7, { stale := false, vppb := 17, gen := ready.host4.vppbGen 17, seq := 0, msg := { kind := .memRd, src := 4, dst := 3, tag := 77, sub := 5, vppb := some 17 }, owesData := true, owesNdr := false })])] }).trackTag 3 0 (((ready.host4).sw fun w => { w with trackers := [(12, [(7, { stale := false, vppb := 17, gen := ready.host4.vppbGen 17, seq := 0, msg := { kind := .memRd, src := 4, dst := 3, tag := 77, sub := 5, vppb := some 17 }, owesData := true, owesNdr := false })])] }).vppbGen 17) 7, data := List.replicate 64 3 }, 7, { stale := false, vppb := 17, gen := ((ready.host4).sw fun w => { w with trackers := [(12, [(7, { stale := false, vppb := 17, gen := ready.host4.vppbGen 17, seq := 0, msg := { kind := .memRd, src := 4, dst := 3, tag := 77, sub := 5, vppb := some 17 }, owesData := true, owesNdr := false })])] }).vppbGen 17, seq := 0, msg := { kind := .memRd, src := 4, dst := 3, tag := 77, sub := 5, vppb := some 17 }, owesData := true, owesNdr := false }, by decide +kernel⟩,
    ⟨(ready.host4).sw fun w => { w with trackers := [(12, [(7, { stale := true, vppb := 17, gen := ready.host4.vppbGen 17, seq := 0, msg := { kind := .memRd, src := 4, dst := 3, tag := 77, sub := 5, vppb := some 17 }, owesData := true, owesNdr := false })])] }, 3, { kind := .memData, tag := ((ready.host4).sw fun w => { w with trackers := [(12, [(7, { stale := true, vppb := 17, gen := ready.host4.vppbGen 17, seq := 0, msg := { kind := .memRd, src := 4, dst := 3, tag := 77, sub := 5, vppb := some 17 }, owesData := true, owesNdr := false })])] }).trackTag 3 0 (((ready.host4).sw fun w => { w with trackers := [(12, [(7, { stale := true, vppb := 17, gen := ready.host4.vppbGen 17, seq := 0, msg := { kind := .memRd, src := 4, dst := 3, tag := 77, sub := 5, vppb := some 17 }, owesData := true, owesNdr := false })])] }).vppbGen 17) 7, data := List.replicate 64 3 }, 7, { stale := true, vppb := 17, gen := ((ready.host4).sw fun w => { w with trackers := [(12, [(7, { stale := true, vppb := 17, gen := ready.host4.vppbGen 17, seq := 0, msg := { kind := .memRd, src := 4, dst := 3, tag := 77, sub := 5, vppb := some 17 }, owesData := true, owesNdr := false })])] }).vppbGen 17, seq := 0, msg := { kind := .memRd, src := 4, dst := 3, tag := 77, sub := 5, vppb := some 17 }, owesData := true, owesNdr := false }, by decide +kernel⟩⟩

theorem test_meets_MoverChannels :
    (∃ s : State, ∃ m : Master, ∃ u : Vf, ∃ value : Word, s.takes m 0x90 = true ∧ s.isActive = true ∧ s.vfHeld u.val = false ∧ value.getLsbD 0 = true ∧ s.vfOk u.val (bitsOf value.toNat 1 2) (bitsOf value.toNat 4 6) = true) ∧
    (∃ s : State, ∃ m : Master, ∃ u : Vf, ∃ value : Word, s.takes m 0x90 = true ∧ s.isActive = true ∧ s.vfHeld u.val = false ∧ value.getLsbD 0 = true ∧ s.vfOk u.val (bitsOf value.toNat 1 2) (bitsOf value.toNat 4 6) = false) ∧
    (∃ s : State, ∃ m : Master, ∃ u : Vf, s.takes m 0x90 = true ∧ s.isActive = true ∧ s.vfHeld u.val = true) ∧
    (∃ s : State, ∃ u : Vf, s.serving = true ∧ s.vfOn u.val 1 = true ∧ (∀ c ∈ s.vfChannels u.val, s.chState c = 0)) ∧
    (∃ s : State, ∃ u : Vf, ∃ c : Nat, s.serving = true ∧ s.vfOn u.val 1 = true ∧ (c ∈ s.vfChannels u.val) ∧ s.chState c ≠ 0 ∧ (∀ x ∈ s.vfChannels u.val, x < 64)) ∧
    (∃ s : State, ∃ m : Master, ∃ c : Chan, ∃ value : Word, ∃ v : Nat, m.keeperOrBoard = true ∧ s.takes m 0x90 = true ∧ value.getLsbD 1 = false ∧ s.chState c.val = 0 ∧ s.chanVf c.val = some v ∧ s.flag Fld.MOVER_CFG_EN = true) ∧
    (∃ s : State, ∃ m : Master, ∃ c : Chan, ∃ value : Word, m.keeperOrBoard = true ∧ s.takes m 0x90 = true ∧ value.getLsbD 1 = false ∧ s.chanVf c.val = none) ∧
    (∃ s : State, ∃ m : Master, ∃ c : Chan, m.keeperOrBoard = true ∧ s.takes m 0x90 = true ∧ s.chState c.val ≠ 0) ∧
    (∃ s : State, ∃ c : Chan, s.fabricRuns = true ∧ (c.val ∈ s.fab.mover.stopping) ∧ s.fab.mover.flr = []) ∧
    (∃ s : State, ∃ c : Chan, ∃ u : Nat, s.fabricRuns = true ∧ (c.val ∈ s.fab.mover.stopping) ∧ s.fab.mover.flr = [u] ∧ s.vfChannels u = [c.val]) ∧
    (∃ s : State, ∃ m : Master, ∃ c : Chan, m.keeperOrBoard = true ∧ s.takes m 0x90 = true ∧ s.chState c.val = 3 ∧ (c.val ∉ s.fab.mover.stopping) ∧ s.flag (Fld.CH_CTL_ENABLE c.val) = true) ∧
    (∃ s : State, ∃ m : Master, ∃ c : Chan, ∃ value : Word, m.keeperOrBoard = true ∧ s.takes m 0x90 = true ∧ (c.val ∉ s.fab.mover.stopping) ∧ s.chState c.val = 1 ∧ value.toNat < 65536 ∧ value.toNat < s.ringSize c.val ∧ value.toNat ≠ s.chHead c.val ∧ s.flag (Fld.CH_RING_CFG_PASID_V c.val) = false) ∧
    (∃ s : State, ∃ m : Master, ∃ c : Chan, ∃ value : Word, m.keeperOrBoard = true ∧ s.takes m 0x90 = true ∧ (c.val ∉ s.fab.mover.stopping) ∧ s.chState c.val = 1 ∧ value.toNat < 65536 ∧ s.ringSize c.val ≤ value.toNat) :=
  ⟨⟨((let ready := ready.host4; let ready := ready.puts [(Fld.MOVER_CFG_EN, 1), (Fld.VF_CFG_EN 0, 1), (Fld.VF_CFG_KIND 0, 1), (Fld.VF_CFG_VCS 0, 2), (Fld.VF_CFG_EN 1, 0), (Fld.VF_RES_FIRST 0, 0), (Fld.VF_RES_COUNT 0, 1), (Fld.VF_SUB_SUBID 0, 5), (Fld.CH_RING_CFG_SIZE 0, 0), (Fld.CH_RING_CFG_PASID_V 0, 0), (Fld.CH_HEAD_HEAD 0, 0), (Fld.CH_TAIL_TAIL 0, 0), (Fld.CH_STATUS_STATE 0, 0), (Fld.CH_STATUS_ERR 0, 0), (Fld.CH_CTL_ENABLE 0, 1)]; { ready with fab := { ready.fab with mover := { Mover.reset with serial := 9 } } })).puts [(Fld.VF_RES_FIRST 1, 3), (Fld.VF_RES_COUNT 1, 2)], .keeper 0, 1, 0x23, by decide +kernel⟩,
    ⟨((let ready := ready.host4; let ready := ready.puts [(Fld.MOVER_CFG_EN, 1), (Fld.VF_CFG_EN 0, 1), (Fld.VF_CFG_KIND 0, 1), (Fld.VF_CFG_VCS 0, 2), (Fld.VF_CFG_EN 1, 0), (Fld.VF_RES_FIRST 0, 0), (Fld.VF_RES_COUNT 0, 1), (Fld.VF_SUB_SUBID 0, 5), (Fld.CH_RING_CFG_SIZE 0, 0), (Fld.CH_RING_CFG_PASID_V 0, 0), (Fld.CH_HEAD_HEAD 0, 0), (Fld.CH_TAIL_TAIL 0, 0), (Fld.CH_STATUS_STATE 0, 0), (Fld.CH_STATUS_ERR 0, 0), (Fld.CH_CTL_ENABLE 0, 1)]; { ready with fab := { ready.fab with mover := { Mover.reset with serial := 9 } } })).puts [(Fld.VF_RES_FIRST 1, 3), (Fld.VF_RES_COUNT 1, 2)], .keeper 0, 1, 0x27, by decide +kernel⟩,
    ⟨((let ready := ready.host4; let ready := ready.puts [(Fld.MOVER_CFG_EN, 1), (Fld.VF_CFG_EN 0, 1), (Fld.VF_CFG_KIND 0, 1), (Fld.VF_CFG_VCS 0, 2), (Fld.VF_CFG_EN 1, 0), (Fld.VF_RES_FIRST 0, 0), (Fld.VF_RES_COUNT 0, 1), (Fld.VF_SUB_SUBID 0, 5), (Fld.CH_RING_CFG_SIZE 0, 0), (Fld.CH_RING_CFG_PASID_V 0, 0), (Fld.CH_HEAD_HEAD 0, 0), (Fld.CH_TAIL_TAIL 0, 0), (Fld.CH_STATUS_STATE 0, 0), (Fld.CH_STATUS_ERR 0, 0), (Fld.CH_CTL_ENABLE 0, 1)]; { ready with fab := { ready.fab with mover := { Mover.reset with vfEnable := [2] } } })).puts [(Fld.VF_CFG_VCS 1, 2)], .keeper 0, 1, by decide +kernel⟩,
    ⟨(let ready := ready.host4; let ready := ready.puts [(Fld.MOVER_CFG_EN, 1), (Fld.VF_CFG_EN 0, 1), (Fld.VF_CFG_KIND 0, 1), (Fld.VF_CFG_VCS 0, 2), (Fld.VF_CFG_EN 1, 0), (Fld.VF_RES_FIRST 0, 0), (Fld.VF_RES_COUNT 0, 1), (Fld.VF_SUB_SUBID 0, 5), (Fld.CH_RING_CFG_SIZE 0, 0), (Fld.CH_RING_CFG_PASID_V 0, 0), (Fld.CH_HEAD_HEAD 0, 0), (Fld.CH_TAIL_TAIL 0, 0), (Fld.CH_STATUS_STATE 0, 0), (Fld.CH_STATUS_ERR 0, 0), (Fld.CH_CTL_ENABLE 0, 1)]; { ready with fab := { ready.fab with mover := { Mover.reset with pasidOn := [0] } } }), 0, by decide +kernel⟩,
    ⟨(let ready := ready.host4; let ready := ready.puts [(Fld.MOVER_CFG_EN, 1), (Fld.VF_CFG_EN 0, 1), (Fld.VF_CFG_KIND 0, 1), (Fld.VF_CFG_VCS 0, 2), (Fld.VF_CFG_EN 1, 0), (Fld.VF_RES_FIRST 0, 0), (Fld.VF_RES_COUNT 0, 1), (Fld.VF_SUB_SUBID 0, 5), (Fld.CH_RING_CFG_SIZE 0, 0), (Fld.CH_RING_CFG_PASID_V 0, 0), (Fld.CH_HEAD_HEAD 0, 0), (Fld.CH_TAIL_TAIL 0, 0), (Fld.CH_STATUS_STATE 0, 2), (Fld.CH_STATUS_ERR 0, 0), (Fld.CH_CTL_ENABLE 0, 1)]; { ready with fab := { ready.fab with mover := { Mover.reset with serial := 9 } } }), 0, 0, by decide +kernel⟩,
    ⟨(let ready := ready.host4; let ready := ready.puts [(Fld.MOVER_CFG_EN, 1), (Fld.VF_CFG_EN 0, 1), (Fld.VF_CFG_KIND 0, 1), (Fld.VF_CFG_VCS 0, 2), (Fld.VF_CFG_EN 1, 0), (Fld.VF_RES_FIRST 0, 0), (Fld.VF_RES_COUNT 0, 1), (Fld.VF_SUB_SUBID 0, 5), (Fld.CH_RING_CFG_SIZE 0, 0), (Fld.CH_RING_CFG_PASID_V 0, 0), (Fld.CH_HEAD_HEAD 0, 0), (Fld.CH_TAIL_TAIL 0, 0), (Fld.CH_STATUS_STATE 0, 0), (Fld.CH_STATUS_ERR 0, 0), (Fld.CH_CTL_ENABLE 0, 1)]; { ready with fab := { ready.fab with mover := { Mover.reset with serial := 9 } } }), .keeper 0, 0, 1, 0, by decide +kernel⟩,
    ⟨((let ready := ready.host4; let ready := ready.puts [(Fld.MOVER_CFG_EN, 1), (Fld.VF_CFG_EN 0, 1), (Fld.VF_CFG_KIND 0, 1), (Fld.VF_CFG_VCS 0, 2), (Fld.VF_CFG_EN 1, 0), (Fld.VF_RES_FIRST 0, 0), (Fld.VF_RES_COUNT 0, 1), (Fld.VF_SUB_SUBID 0, 5), (Fld.CH_RING_CFG_SIZE 0, 0), (Fld.CH_RING_CFG_PASID_V 0, 0), (Fld.CH_HEAD_HEAD 0, 0), (Fld.CH_TAIL_TAIL 0, 0), (Fld.CH_STATUS_STATE 0, 0), (Fld.CH_STATUS_ERR 0, 0), (Fld.CH_CTL_ENABLE 0, 1)]; { ready with fab := { ready.fab with mover := { Mover.reset with serial := 9 } } })).puts [(Fld.VF_CFG_EN 0, 0)], .keeper 0, 0, 1, by decide +kernel⟩,
    ⟨(let ready := ready.host4; let ready := ready.puts [(Fld.MOVER_CFG_EN, 1), (Fld.VF_CFG_EN 0, 1), (Fld.VF_CFG_KIND 0, 1), (Fld.VF_CFG_VCS 0, 2), (Fld.VF_CFG_EN 1, 0), (Fld.VF_RES_FIRST 0, 0), (Fld.VF_RES_COUNT 0, 1), (Fld.VF_SUB_SUBID 0, 5), (Fld.CH_RING_CFG_SIZE 0, 0), (Fld.CH_RING_CFG_PASID_V 0, 0), (Fld.CH_HEAD_HEAD 0, 0), (Fld.CH_TAIL_TAIL 0, 0), (Fld.CH_STATUS_STATE 0, 2), (Fld.CH_STATUS_ERR 0, 0), (Fld.CH_CTL_ENABLE 0, 1)]; { ready with fab := { ready.fab with mover := { Mover.reset with serial := 9 } } }), .keeper 0, 0, by decide +kernel⟩,
    ⟨(let ready := ready.host4; let ready := ready.puts [(Fld.MOVER_CFG_EN, 1), (Fld.VF_CFG_EN 0, 1), (Fld.VF_CFG_KIND 0, 1), (Fld.VF_CFG_VCS 0, 2), (Fld.VF_CFG_EN 1, 0), (Fld.VF_RES_FIRST 0, 0), (Fld.VF_RES_COUNT 0, 1), (Fld.VF_SUB_SUBID 0, 5), (Fld.CH_RING_CFG_SIZE 0, 0), (Fld.CH_RING_CFG_PASID_V 0, 0), (Fld.CH_HEAD_HEAD 0, 0), (Fld.CH_TAIL_TAIL 0, 0), (Fld.CH_STATUS_STATE 0, 2), (Fld.CH_STATUS_ERR 0, 0), (Fld.CH_CTL_ENABLE 0, 1)]; { ready with fab := { ready.fab with mover := { Mover.reset with stopping := [0] } } }), 0, by decide +kernel⟩,
    ⟨(let ready := ready.host4; let ready := ready.puts [(Fld.MOVER_CFG_EN, 1), (Fld.VF_CFG_EN 0, 1), (Fld.VF_CFG_KIND 0, 1), (Fld.VF_CFG_VCS 0, 2), (Fld.VF_CFG_EN 1, 0), (Fld.VF_RES_FIRST 0, 0), (Fld.VF_RES_COUNT 0, 1), (Fld.VF_SUB_SUBID 0, 5), (Fld.CH_RING_CFG_SIZE 0, 0), (Fld.CH_RING_CFG_PASID_V 0, 0), (Fld.CH_HEAD_HEAD 0, 0), (Fld.CH_TAIL_TAIL 0, 0), (Fld.CH_STATUS_STATE 0, 2), (Fld.CH_STATUS_ERR 0, 0), (Fld.CH_CTL_ENABLE 0, 1)]; { ready with fab := { ready.fab with mover := { Mover.reset with stopping := [0], flr := [0] } } }), 0, 0, by decide +kernel⟩,
    ⟨(let ready := ready.host4; let ready := ready.puts [(Fld.MOVER_CFG_EN, 1), (Fld.VF_CFG_EN 0, 1), (Fld.VF_CFG_KIND 0, 1), (Fld.VF_CFG_VCS 0, 2), (Fld.VF_CFG_EN 1, 0), (Fld.VF_RES_FIRST 0, 0), (Fld.VF_RES_COUNT 0, 1), (Fld.VF_SUB_SUBID 0, 5), (Fld.CH_RING_CFG_SIZE 0, 0), (Fld.CH_RING_CFG_PASID_V 0, 0), (Fld.CH_HEAD_HEAD 0, 0), (Fld.CH_TAIL_TAIL 0, 0), (Fld.CH_STATUS_STATE 0, 3), (Fld.CH_STATUS_ERR 0, 0), (Fld.CH_CTL_ENABLE 0, 1)]; { ready with fab := { ready.fab with mover := { Mover.reset with serial := 9 } } }), .keeper 0, 0, by decide +kernel⟩,
    ⟨(let ready := ready.host4; let ready := ready.puts [(Fld.MOVER_CFG_EN, 1), (Fld.VF_CFG_EN 0, 1), (Fld.VF_CFG_KIND 0, 1), (Fld.VF_CFG_VCS 0, 2), (Fld.VF_CFG_EN 1, 0), (Fld.VF_RES_FIRST 0, 0), (Fld.VF_RES_COUNT 0, 1), (Fld.VF_SUB_SUBID 0, 5), (Fld.CH_RING_CFG_SIZE 0, 0), (Fld.CH_RING_CFG_PASID_V 0, 0), (Fld.CH_HEAD_HEAD 0, 0), (Fld.CH_TAIL_TAIL 0, 0), (Fld.CH_STATUS_STATE 0, 1), (Fld.CH_STATUS_ERR 0, 0), (Fld.CH_CTL_ENABLE 0, 1)]; { ready with fab := { ready.fab with mover := { Mover.reset with serial := 9 } } }), .keeper 0, 0, 3, by decide +kernel⟩,
    ⟨(let ready := ready.host4; let ready := ready.puts [(Fld.MOVER_CFG_EN, 1), (Fld.VF_CFG_EN 0, 1), (Fld.VF_CFG_KIND 0, 1), (Fld.VF_CFG_VCS 0, 2), (Fld.VF_CFG_EN 1, 0), (Fld.VF_RES_FIRST 0, 0), (Fld.VF_RES_COUNT 0, 1), (Fld.VF_SUB_SUBID 0, 5), (Fld.CH_RING_CFG_SIZE 0, 0), (Fld.CH_RING_CFG_PASID_V 0, 0), (Fld.CH_HEAD_HEAD 0, 0), (Fld.CH_TAIL_TAIL 0, 0), (Fld.CH_STATUS_STATE 0, 1), (Fld.CH_STATUS_ERR 0, 0), (Fld.CH_CTL_ENABLE 0, 1)]; { ready with fab := { ready.fab with mover := { Mover.reset with serial := 9 } } }), .keeper 0, 0, 16, by decide +kernel⟩⟩

theorem test_meets_MoverDescriptors :
    (∃ s : State, ∃ c : Chan, ∃ v : Nat, ∃ bytes : List Byte, s.serving = true ∧ s.chanVf c.val = some v ∧ s.fetches c.val = true ∧ s.flag (Fld.CH_RING_CFG_PASID_V c.val) = false ∧ s.descBad v (descriptorOf bytes) = none) ∧
    (∃ s : State, ∃ c : Chan, ∃ v : Nat, ∃ bytes : List Byte, s.serving = true ∧ s.chanVf c.val = some v ∧ s.fetches c.val = true ∧ s.flag (Fld.CH_RING_CFG_PASID_V c.val) = false ∧ s.descBad v (descriptorOf bytes) = some 4) ∧
    (∃ s : State, ∃ c : Chan, ∃ v : Nat, s.serving = true ∧ s.chanVf c.val = some v ∧ s.fetches c.val = true ∧ s.flag (Fld.CH_RING_CFG_PASID_V c.val) = false) ∧
    (∃ s : State, ∃ c : Chan, ∃ v : Nat, ∃ n : Nat, ∃ r : DescRun, s.serving = true ∧ s.moverTurn = some c.val ∧ s.chanVf c.val = some v ∧ s.chState c.val = 2 ∧ (c.val ∉ s.fab.mover.stopping) ∧ s.chRuns c.val = [(n, r)] ∧ r.void = false ∧ r.next = 0 ∧ 0 < r.desc.len ∧ 18 ≤ s.moverFree ∧ 1 ≤ s.moverIoFree ∧ r.desc.op = 3) ∧
    (∃ s : State, ∃ c : Chan, ∃ v : Nat, ∃ n : Nat, ∃ r : DescRun, s.serving = true ∧ s.moverTurn = some c.val ∧ s.chanVf c.val = some v ∧ s.chState c.val = 2 ∧ (c.val ∉ s.fab.mover.stopping) ∧ s.chRuns c.val = [(n, r)] ∧ r.void = false ∧ r.next = 0 ∧ 0 < r.desc.len ∧ 18 ≤ s.moverFree ∧ 1 ≤ s.moverIoFree ∧ r.desc.op = 2 ∧ r.desc.len ≤ 512 - r.desc.dst % 512 ∧ r.parts = [] ∧ s.destOf (s.get (Fld.VF_CFG_VCS v)) r.desc.dst false = .nowhere) ∧
    (∃ s : State, ∃ c : Chan, ∃ v : Nat, ∃ n : Nat, ∃ r : DescRun, s.serving = true ∧ s.moverTurn = some c.val ∧ s.chanVf c.val = some v ∧ s.chState c.val = 2 ∧ (c.val ∉ s.fab.mover.stopping) ∧ s.chRuns c.val = [(n, r)] ∧ r.void = false ∧ r.next = 0 ∧ 0 < r.desc.len ∧ 18 ≤ s.moverFree ∧ 1 ≤ s.moverIoFree ∧ r.desc.op = 1 ∧ r.desc.len ≤ 512 - r.desc.dst % 512 ∧ r.desc.len ≤ 512 - r.desc.src % 512 ∧ r.parts = [] ∧ s.destOf (s.get (Fld.VF_CFG_VCS v)) r.desc.dst false = .nowhere ∧ s.destOf (s.get (Fld.VF_CFG_VCS v)) r.desc.src false = .nowhere) ∧
    (∃ s : State, ∃ c : Chan, ∃ a : Msg, ∃ q : Msg, ∃ y : PartRun, ∃ v : Nat, ∃ n : Nat, ∃ r : DescRun, s.serving = true ∧ mget [] s.fab.sw.iep 2 = [a] ∧ a.kind = .cpl ∧ a.poison = false ∧ a.status = 0 ∧ a.mover = some (c.val, n, y.off) ∧ s.fab.mover.slots = [(a.tag % 4096 + 16384, ⟨false, q⟩)] ∧ q.mover = a.mover ∧ q.addr = y.src ∧ s.chanVf c.val = some v ∧ s.fab.mover.runs = [(c.val, [(n, r)])] ∧ r.parts = [y] ∧ y.up = true ∧ y.writing = false ∧ y.waits = 1 ∧ y.got = [] ∧ r.desc.op = 1 ∧ a.data.length = y.len ∧ r.desc.len ≤ r.next) ∧
    (∃ s : State, ∃ c : Chan, ∃ v : Nat, ∃ n : Nat, ∃ r : DescRun, s.serving = true ∧ s.chanVf c.val = some v ∧ s.chRuns c.val = [(n, r)] ∧ r.over = true ∧ (c.val ∉ s.fab.mover.stopping) ∧ s.chState c.val = 2 ∧ r.desc.cmpl ≠ 0 ∧ (s.chHead c.val + 1) % s.ringSize c.val = s.chTail c.val ∧ r.desc.intr = false) ∧
    (∃ s : State, ∃ c : Chan, ∃ v : Nat, ∃ n : Nat, ∃ r : DescRun, ∃ j : Nat, s.serving = true ∧ s.chanVf c.val = some v ∧ s.chRuns c.val = [(n, r)] ∧ r.over = true ∧ (c.val ∉ s.fab.mover.stopping) ∧ s.chState c.val = 2 ∧ r.desc.intr = true ∧ j = c.val - s.get (Fld.VF_RES_FIRST v)) ∧
    (∃ s : State, ∃ c : Chan, ∃ v : Nat, ∃ n : Nat, ∃ r : DescRun, s.serving = true ∧ s.chanVf c.val = some v ∧ s.chRuns c.val = [(n, r)] ∧ r.over = true ∧ (c.val ∉ s.fab.mover.stopping) ∧ s.chState c.val = 2 ∧ r.desc.cmpl ≠ 0) :=
  ⟨⟨(let ready := ready.host4; let ready := ready.puts [(Fld.MOVER_CFG_EN, 1), (Fld.VF_CFG_EN 0, 1), (Fld.VF_CFG_KIND 0, 1), (Fld.VF_CFG_VCS 0, 2), (Fld.VF_CFG_EN 1, 0), (Fld.VF_RES_FIRST 0, 0), (Fld.VF_RES_COUNT 0, 1), (Fld.VF_SUB_SUBID 0, 5), (Fld.CH_RING_CFG_SIZE 0, 0), (Fld.CH_RING_CFG_PASID_V 0, 0), (Fld.CH_HEAD_HEAD 0, 0), (Fld.CH_TAIL_TAIL 0, 3), (Fld.CH_STATUS_STATE 0, 2), (Fld.CH_STATUS_ERR 0, 0), (Fld.CH_CTL_ENABLE 0, 1)]; { ready with fab := { ready.fab with mover := { Mover.reset with serial := 9 } } }), 0, 0, [2, 1, 0, 0, 0, 0, 0, 0, 0, 0, 0, 0, 0, 1, 0, 0, 0, 16, 0, 0, 0, 1, 0, 0, 64, 0, 0, 0, 0, 0, 0, 0, 7, 7, 7, 7, 7, 7, 7, 7, 0, 0, 0, 0, 0, 2, 0, 0, 5, 0, 0, 0, 0, 0, 0, 0, 0, 0, 0, 0, 0, 0, 0, 0], by decide +kernel⟩,
    ⟨(let ready := ready.host4; let ready := ready.puts [(Fld.MOVER_CFG_EN, 1), (Fld.VF_CFG_EN 0, 1), (Fld.VF_CFG_KIND 0, 1), (Fld.VF_CFG_VCS 0, 2), (Fld.VF_CFG_EN 1, 0), (Fld.VF_RES_FIRST 0, 0), (Fld.VF_RES_COUNT 0, 1), (Fld.VF_SUB_SUBID 0, 5), (Fld.CH_RING_CFG_SIZE 0, 0), (Fld.CH_RING_CFG_PASID_V 0, 0), (Fld.CH_HEAD_HEAD 0, 0), (Fld.CH_TAIL_TAIL 0, 3), (Fld.CH_STATUS_STATE 0, 2), (Fld.CH_STATUS_ERR 0, 0), (Fld.CH_CTL_ENABLE 0, 1)]; { ready with fab := { ready.fab with mover := { Mover.reset with serial := 9 } } }), 0, 0, [9, 1, 0, 0, 0, 0, 0, 0, 0, 0, 0, 0, 0, 1, 0, 0, 0, 16, 0, 0, 0, 1, 0, 0, 64, 0, 0, 0, 0, 0, 0, 0, 7, 7, 7, 7, 7, 7, 7, 7, 0, 0, 0, 0, 0, 2, 0, 0, 5, 0, 0, 0, 0, 0, 0, 0, 0, 0, 0, 0, 0, 0, 0, 0], by decide +kernel⟩,
    ⟨(let ready := ready.host4; let ready := ready.puts [(Fld.MOVER_CFG_EN, 1), (Fld.VF_CFG_EN 0, 1), (Fld.VF_CFG_KIND 0, 1), (Fld.VF_CFG_VCS 0, 2), (Fld.VF_CFG_EN 1, 0), (Fld.VF_RES_FIRST 0, 0), (Fld.VF_RES_COUNT 0, 1), (Fld.VF_SUB_SUBID 0, 5), (Fld.CH_RING_CFG_SIZE 0, 0), (Fld.CH_RING_CFG_PASID_V 0, 0), (Fld.CH_HEAD_HEAD 0, 0), (Fld.CH_TAIL_TAIL 0, 3), (Fld.CH_STATUS_STATE 0, 2), (Fld.CH_STATUS_ERR 0, 0), (Fld.CH_CTL_ENABLE 0, 1)]; { ready with fab := { ready.fab with mover := { Mover.reset with serial := 9 } } }), 0, 0, by decide +kernel⟩,
    ⟨(let ready := ready.host4; let ready := ready.puts [(Fld.MOVER_CFG_EN, 1), (Fld.VF_CFG_EN 0, 1), (Fld.VF_CFG_KIND 0, 1), (Fld.VF_CFG_VCS 0, 2), (Fld.VF_CFG_EN 1, 0), (Fld.VF_RES_FIRST 0, 0), (Fld.VF_RES_COUNT 0, 1), (Fld.VF_SUB_SUBID 0, 5), (Fld.CH_RING_CFG_SIZE 0, 0), (Fld.CH_RING_CFG_PASID_V 0, 0), (Fld.CH_HEAD_HEAD 0, 0), (Fld.CH_TAIL_TAIL 0, 1), (Fld.CH_STATUS_STATE 0, 2), (Fld.CH_STATUS_ERR 0, 0), (Fld.CH_CTL_ENABLE 0, 1)]; { ready with fab := { ready.fab with mover := { Mover.reset with serial := 5, runs := [(0, [(4, { desc := { op := 3, intr := true, fence := false, pasidV := false, pasid := 0, src := 0x10000000000, dst := 0x10000001000, len := 64, pattern := List.replicate 8 7, cmpl := 0x20000000000, user := 5, reservedZero := true }, void := false, next := 0, parts := [], allowed := 0, zread := 0, done := Completion.start 0 5 })])] } } }), 0, 0, 4, { desc := { op := 3, intr := true, fence := false, pasidV := false, pasid := 0, src := 0x10000000000, dst := 0x10000001000, len := 64, pattern := List.replicate 8 7, cmpl := 0x20000000000, user := 5, reservedZero := true }, void := false, next := 0, parts := [], allowed := 0, zread := 0, done := Completion.start 0 5 }, by decide +kernel⟩,
    ⟨(let ready := ready.host4; let ready := ready.puts [(Fld.MOVER_CFG_EN, 1), (Fld.VF_CFG_EN 0, 1), (Fld.VF_CFG_KIND 0, 1), (Fld.VF_CFG_VCS 0, 2), (Fld.VF_CFG_EN 1, 0), (Fld.VF_RES_FIRST 0, 0), (Fld.VF_RES_COUNT 0, 1), (Fld.VF_SUB_SUBID 0, 5), (Fld.CH_RING_CFG_SIZE 0, 0), (Fld.CH_RING_CFG_PASID_V 0, 0), (Fld.CH_HEAD_HEAD 0, 0), (Fld.CH_TAIL_TAIL 0, 1), (Fld.CH_STATUS_STATE 0, 2), (Fld.CH_STATUS_ERR 0, 0), (Fld.CH_CTL_ENABLE 0, 1)]; { ready with fab := { ready.fab with mover := { Mover.reset with serial := 5, runs := [(0, [(4, { desc := { op := 2, intr := true, fence := false, pasidV := false, pasid := 0, src := 0x10000000000, dst := 0x10000001000, len := 64, pattern := List.replicate 8 7, cmpl := 0x20000000000, user := 5, reservedZero := true }, void := false, next := 0, parts := [], allowed := 0, zread := 0, done := Completion.start 0 5 })])] } } }), 0, 0, 4, { desc := { op := 2, intr := true, fence := false, pasidV := false, pasid := 0, src := 0x10000000000, dst := 0x10000001000, len := 64, pattern := List.replicate 8 7, cmpl := 0x20000000000, user := 5, reservedZero := true }, void := false, next := 0, parts := [], allowed := 0, zread := 0, done := Completion.start 0 5 }, by decide +kernel⟩,
    ⟨(let ready := ready.host4; let ready := ready.puts [(Fld.MOVER_CFG_EN, 1), (Fld.VF_CFG_EN 0, 1), (Fld.VF_CFG_KIND 0, 1), (Fld.VF_CFG_VCS 0, 2), (Fld.VF_CFG_EN 1, 0), (Fld.VF_RES_FIRST 0, 0), (Fld.VF_RES_COUNT 0, 1), (Fld.VF_SUB_SUBID 0, 5), (Fld.CH_RING_CFG_SIZE 0, 0), (Fld.CH_RING_CFG_PASID_V 0, 0), (Fld.CH_HEAD_HEAD 0, 0), (Fld.CH_TAIL_TAIL 0, 1), (Fld.CH_STATUS_STATE 0, 2), (Fld.CH_STATUS_ERR 0, 0), (Fld.CH_CTL_ENABLE 0, 1)]; { ready with fab := { ready.fab with mover := { Mover.reset with serial := 5, runs := [(0, [(4, { desc := { op := 1, intr := true, fence := false, pasidV := false, pasid := 0, src := 0x10000000000, dst := 0x10000001000, len := 64, pattern := List.replicate 8 7, cmpl := 0x20000000000, user := 5, reservedZero := true }, void := false, next := 0, parts := [], allowed := 0, zread := 0, done := Completion.start 0 5 })])] } } }), 0, 0, 4, { desc := { op := 1, intr := true, fence := false, pasidV := false, pasid := 0, src := 0x10000000000, dst := 0x10000001000, len := 64, pattern := List.replicate 8 7, cmpl := 0x20000000000, user := 5, reservedZero := true }, void := false, next := 0, parts := [], allowed := 0, zread := 0, done := Completion.start 0 5 }, by decide +kernel⟩,
    ⟨((let ready := ready.host4; let ready := ready.puts [(Fld.MOVER_CFG_EN, 1), (Fld.VF_CFG_EN 0, 1), (Fld.VF_CFG_KIND 0, 1), (Fld.VF_CFG_VCS 0, 2), (Fld.VF_CFG_EN 1, 0), (Fld.VF_RES_FIRST 0, 0), (Fld.VF_RES_COUNT 0, 1), (Fld.VF_SUB_SUBID 0, 5), (Fld.CH_RING_CFG_SIZE 0, 0), (Fld.CH_RING_CFG_PASID_V 0, 0), (Fld.CH_HEAD_HEAD 0, 0), (Fld.CH_TAIL_TAIL 0, 1), (Fld.CH_STATUS_STATE 0, 2), (Fld.CH_STATUS_ERR 0, 0), (Fld.CH_CTL_ENABLE 0, 1)]; { ready with fab := { ready.fab with mover := { Mover.reset with serial := 5, runs := [(0, [(4, { desc := { op := 1, intr := true, fence := false, pasidV := false, pasid := 0, src := 0x10000000000, dst := 0x10000001000, len := 64, pattern := List.replicate 8 7, cmpl := 0x20000000000, user := 5, reservedZero := true }, void := false, next := 64, parts := [{ off := 0, src := 0x10000000000, dst := 0x10000001000, len := 64, up := true, got := [], waits := 1, writing := false }], allowed := 1, zread := 0, done := Completion.start 0 5 })])], slots := [(16390, ⟨false, { kind := .ioNp, src := 66, dst := 4, addr := 0x10000000000, mover := some (0, 4, 0), vcs := some 2, vf := some 0 }⟩)] } } })).sw fun w => { w with iep := [(2, [{ kind := .cpl, tag := 6, dst := 66, src := 4, data := List.replicate 64 9, mover := some (0, 4, 0) }])] }, 0, { kind := .cpl, tag := 6, dst := 66, src := 4, data := List.replicate 64 9, mover := some (0, 4, 0) }, { kind := .ioNp, src := 66, dst := 4, addr := 0x10000000000, mover := some (0, 4, 0), vcs := some 2, vf := some 0 }, { off := 0, src := 0x10000000000, dst := 0x10000001000, len := 64, up := true, got := [], waits := 1, writing := false }, 0, 4, { desc := { op := 1, intr := true, fence := false, pasidV := false, pasid := 0, src := 0x10000000000, dst := 0x10000001000, len := 64, pattern := List.replicate 8 7, cmpl := 0x20000000000, user := 5, reservedZero := true }, void := false, next := 64, parts := [{ off := 0, src := 0x10000000000, dst := 0x10000001000, len := 64, up := true, got := [], waits := 1, writing := false }], allowed := 1, zread := 0, done := Completion.start 0 5 }, by decide +kernel⟩,
    ⟨(let ready := ready.host4; let ready := ready.puts [(Fld.MOVER_CFG_EN, 1), (Fld.VF_CFG_EN 0, 1), (Fld.VF_CFG_KIND 0, 1), (Fld.VF_CFG_VCS 0, 2), (Fld.VF_CFG_EN 1, 0), (Fld.VF_RES_FIRST 0, 0), (Fld.VF_RES_COUNT 0, 1), (Fld.VF_SUB_SUBID 0, 5), (Fld.CH_RING_CFG_SIZE 0, 0), (Fld.CH_RING_CFG_PASID_V 0, 0), (Fld.CH_HEAD_HEAD 0, 0), (Fld.CH_TAIL_TAIL 0, 1), (Fld.CH_STATUS_STATE 0, 2), (Fld.CH_STATUS_ERR 0, 0), (Fld.CH_CTL_ENABLE 0, 1)]; { ready with fab := { ready.fab with mover := { Mover.reset with serial := 5, runs := [(0, [(4, { desc := { op := 3, intr := false, fence := false, pasidV := false, pasid := 0, src := 0x10000000000, dst := 0x10000001000, len := 64, pattern := List.replicate 8 7, cmpl := 0x20000000000, user := 5, reservedZero := true }, void := false, next := 64, parts := [], allowed := 0, zread := 0, done := Completion.start 0 5 })])] } } }), 0, 0, 4, { desc := { op := 3, intr := false, fence := false, pasidV := false, pasid := 0, src := 0x10000000000, dst := 0x10000001000, len := 64, pattern := List.replicate 8 7, cmpl := 0x20000000000, user := 5, reservedZero := true }, void := false, next := 64, parts := [], allowed := 0, zread := 0, done := Completion.start 0 5 }, by decide +kernel⟩,
    ⟨(let ready := ready.host4; let ready := ready.puts [(Fld.MOVER_CFG_EN, 1), (Fld.VF_CFG_EN 0, 1), (Fld.VF_CFG_KIND 0, 1), (Fld.VF_CFG_VCS 0, 2), (Fld.VF_CFG_EN 1, 0), (Fld.VF_RES_FIRST 0, 0), (Fld.VF_RES_COUNT 0, 1), (Fld.VF_SUB_SUBID 0, 5), (Fld.CH_RING_CFG_SIZE 0, 0), (Fld.CH_RING_CFG_PASID_V 0, 0), (Fld.CH_HEAD_HEAD 0, 0), (Fld.CH_TAIL_TAIL 0, 1), (Fld.CH_STATUS_STATE 0, 2), (Fld.CH_STATUS_ERR 0, 0), (Fld.CH_CTL_ENABLE 0, 1)]; { ready with fab := { ready.fab with mover := { Mover.reset with serial := 5, runs := [(0, [(4, { desc := { op := 3, intr := true, fence := false, pasidV := false, pasid := 0, src := 0x10000000000, dst := 0x10000001000, len := 64, pattern := List.replicate 8 7, cmpl := 0x20000000000, user := 5, reservedZero := true }, void := false, next := 64, parts := [], allowed := 0, zread := 0, done := Completion.start 0 5 })])] } } }), 0, 0, 4, { desc := { op := 3, intr := true, fence := false, pasidV := false, pasid := 0, src := 0x10000000000, dst := 0x10000001000, len := 64, pattern := List.replicate 8 7, cmpl := 0x20000000000, user := 5, reservedZero := true }, void := false, next := 64, parts := [], allowed := 0, zread := 0, done := Completion.start 0 5 }, 0, by decide +kernel⟩,
    ⟨(let ready := ready.host4; let ready := ready.puts [(Fld.MOVER_CFG_EN, 1), (Fld.VF_CFG_EN 0, 1), (Fld.VF_CFG_KIND 0, 1), (Fld.VF_CFG_VCS 0, 2), (Fld.VF_CFG_EN 1, 0), (Fld.VF_RES_FIRST 0, 0), (Fld.VF_RES_COUNT 0, 1), (Fld.VF_SUB_SUBID 0, 5), (Fld.CH_RING_CFG_SIZE 0, 0), (Fld.CH_RING_CFG_PASID_V 0, 0), (Fld.CH_HEAD_HEAD 0, 0), (Fld.CH_TAIL_TAIL 0, 1), (Fld.CH_STATUS_STATE 0, 2), (Fld.CH_STATUS_ERR 0, 0), (Fld.CH_CTL_ENABLE 0, 1)]; { ready with fab := { ready.fab with mover := { Mover.reset with serial := 5, runs := [(0, [(4, { desc := { op := 3, intr := true, fence := false, pasidV := false, pasid := 0, src := 0x10000000000, dst := 0x10000001000, len := 64, pattern := List.replicate 8 7, cmpl := 0x20000000000, user := 5, reservedZero := true }, void := false, next := 64, parts := [], allowed := 0, zread := 0, done := Completion.start 0 5 })])] } } }), 0, 0, 4, { desc := { op := 3, intr := true, fence := false, pasidV := false, pasid := 0, src := 0x10000000000, dst := 0x10000001000, len := 64, pattern := List.replicate 8 7, cmpl := 0x20000000000, user := 5, reservedZero := true }, void := false, next := 64, parts := [], allowed := 0, zread := 0, done := Completion.start 0 5 }, by decide +kernel⟩⟩

theorem test_meets_IslandServices :
    (∃ s : State, s.mgmtRuns = true ∧ s.get Fld.SEC_STATUS_SELFTEST = 0) ∧
    (∃ s : State, s.mgmtRuns = true ∧ s.get Fld.SEC_STATUS_SELFTEST ≠ 0) ∧
    (∃ s : State, s.mgmtRuns = true ∧ s.get Fld.SEC_STATUS_SELFTEST = 0) ∧
    (∃ s : State, s.mgmtRuns = true) ∧
    (∃ s : State, ∃ m : Master, ∃ slot : Fin 4, ∃ confirm : Byte, s.takes m 7 = true ∧ m = .board ∧ s.secUp = true ∧ s.get Fld.SEC_PROV_STATUS_STATE ≠ 1 ∧ s.nv.otp.refuses 1 slot.val confirm.toNat = false) ∧
    (∃ s : State, ∃ m : Master, ∃ slot : Fin 4, ∃ confirm : Byte, s.takes m 7 = true ∧ m = .board ∧ s.secUp = true ∧ s.get Fld.SEC_PROV_STATUS_STATE ≠ 1 ∧ s.nv.otp.refuses 1 slot.val confirm.toNat = true) ∧
    (∃ s : State, ∃ m : Master, ∃ slot : Fin 4, ∃ confirm : Byte, s.takes m 7 = true ∧ m = .board ∧ s.secUp = true ∧ s.get Fld.SEC_PROV_STATUS_STATE ≠ 1 ∧ s.nv.otp.refuses 2 slot.val confirm.toNat = false) ∧
    (∃ s : State, ∃ m : Master, ∃ slot : Fin 4, ∃ confirm : Byte, s.takes m 7 = true ∧ m = .board ∧ s.secUp = true ∧ s.get Fld.SEC_PROV_STATUS_STATE ≠ 1 ∧ s.nv.otp.refuses 2 slot.val confirm.toNat = true) ∧
    (∃ s : State, ∃ m : Master, ∃ confirm : Byte, s.takes m 7 = true ∧ m = .board ∧ s.secUp = true ∧ s.get Fld.SEC_PROV_STATUS_STATE ≠ 1 ∧ s.nv.otp.refuses 3 0 confirm.toNat = false) ∧
    (∃ s : State, ∃ m : Master, ∃ confirm : Byte, s.takes m 7 = true ∧ m = .board ∧ s.secUp = true ∧ s.get Fld.SEC_PROV_STATUS_STATE ≠ 1 ∧ s.nv.otp.refuses 3 0 confirm.toNat = true) ∧
    (∃ s : State, ∃ m : Master, s.takes m 7 = true ∧ m ≠ .board) ∧
    (∃ s : State, ∃ m : Master, s.takes m 7 = true ∧ m ≠ .board) ∧
    (∃ s : State, ∃ ok : Bool, s.mgmtRuns = true ∧ s.sec.prov = some ok) ∧
    (∃ s : State, ∃ x : Transport, s.secUp = true ∧ s.hears x = true ∧ s.sec.sessions.length < 16) ∧
    (∃ s : State, ∃ x : Transport, s.secUp = true ∧ s.hears x = true ∧ 16 ≤ s.sec.sessions.length) ∧
    (∃ s : State, ∃ x : Transport, ∃ n : Nat, s.secUp = true ∧ s.hears x = true ∧ 1 ≤ n ∧ n ≤ 7) ∧
    (∃ s : State, ∃ x : Transport, ∃ n : Nat, s.secUp = true ∧ s.hears x = true ∧ n = 0) ∧
    (∃ s : State, ∃ x : Transport, ∃ n : Nat, s.secUp = true ∧ s.hears x = true ∧ n ≠ 0) ∧
    (∃ s : State, ∃ x : Transport, ∃ n : Nat, s.secUp = true ∧ s.hears x = true ∧ (n = 0 ∨ 7 < n)) ∧
    (∃ s : State, ∃ x : Transport, ∃ n : Nat, s.secUp = true ∧ s.hears x = true ∧ (⟨n, x⟩ ∈ s.sec.sessions)) ∧
    (∃ s : State, ∃ x : Transport, s.secUp = true ∧ s.hears x = true) ∧
    (∃ s : State, ∃ x : Transport, s.secUp = true ∧ s.hears x = true) :=
  ⟨⟨ready.puts [(Fld.SEC_STATUS_SELFTEST, 0)], by decide +kernel⟩,
    ⟨(ready.puts [(Fld.SEC_STATUS_SELFTEST, 1)]), by decide +kernel⟩,
    ⟨ready.puts [(Fld.SEC_STATUS_SELFTEST, 0)], by decide +kernel⟩,
    ⟨ready, by decide +kernel⟩,
    ⟨({ (ready.puts [(Fld.SEC_STATUS_SELFTEST, 1), (Fld.SEC_PROV_STATUS_STATE, 0)]) with nv := { ready.nv with otp := Otp.shipped } } : State), .board, 2, 0x5A, by decide +kernel⟩,
    ⟨({ (ready.puts [(Fld.SEC_STATUS_SELFTEST, 1), (Fld.SEC_PROV_STATUS_STATE, 0)]) with nv := { ready.nv with otp := Otp.shipped } } : State), .board, 2, 0x5B, by decide +kernel⟩,
    ⟨({ (ready.puts [(Fld.SEC_STATUS_SELFTEST, 1), (Fld.SEC_PROV_STATUS_STATE, 0)]) with nv := { ready.nv with otp := Otp.shipped } } : State), .board, 2, 0x5A, by decide +kernel⟩,
    ⟨({ (ready.puts [(Fld.SEC_STATUS_SELFTEST, 1), (Fld.SEC_PROV_STATUS_STATE, 0)]) with nv := { ready.nv with otp := Otp.shipped } } : State), .board, 2, 0x5B, by decide +kernel⟩,
    ⟨({ (ready.puts [(Fld.SEC_STATUS_SELFTEST, 1), (Fld.SEC_PROV_STATUS_STATE, 0)]) with nv := { ready.nv with otp := Otp.shipped } } : State), .board, 0x5A, by decide +kernel⟩,
    ⟨({ (ready.puts [(Fld.SEC_STATUS_SELFTEST, 1), (Fld.SEC_PROV_STATUS_STATE, 0)]) with nv := { ready.nv with otp := Otp.shipped } } : State), .board, 0x5B, by decide +kernel⟩,
    ⟨ready, .keeper 0, by decide +kernel⟩,
    ⟨ready, .keeper 0, by decide +kernel⟩,
    ⟨{ ready with sec := { ready.sec with prov := some false } }, false, by decide +kernel⟩,
    ⟨{ (ready.puts [(Fld.SEC_STATUS_SELFTEST, 1)]) with sec := { ready.sec with sessions := [] } }, .i3c, by decide +kernel⟩,
    ⟨{ (ready.puts [(Fld.SEC_STATUS_SELFTEST, 1)]) with sec := { ready.sec with sessions := List.replicate 16 ⟨1, .i3c⟩ } }, .i3c, by decide +kernel⟩,
    ⟨(ready.puts [(Fld.SEC_STATUS_SELFTEST, 1)]), .i3c, 7, by decide +kernel⟩,
    ⟨(ready.puts [(Fld.SEC_STATUS_SELFTEST, 1)]), .i3c, 0, by decide +kernel⟩,
    ⟨(ready.puts [(Fld.SEC_STATUS_SELFTEST, 1)]), .i3c, 3, by decide +kernel⟩,
    ⟨(ready.puts [(Fld.SEC_STATUS_SELFTEST, 1)]), .i3c, 8, by decide +kernel⟩,
    ⟨{ (ready.puts [(Fld.SEC_STATUS_SELFTEST, 1)]) with sec := { ready.sec with sessions := [⟨5, .i3c⟩, ⟨6, .smbus⟩] } }, .i3c, 5, by decide +kernel⟩,
    ⟨(ready.puts [(Fld.SEC_STATUS_SELFTEST, 1)]), .i3c, by decide +kernel⟩,
    ⟨(ready.puts [(Fld.SEC_STATUS_SELFTEST, 1)]), .i3c, by decide +kernel⟩⟩

theorem test_meets_IdeStreams :
    (∃ s : State, ∃ p : Port, ∃ cm : Bool, ∃ m : Master, s.takes m 7 = true ∧ m.keeperOrBoard = true ∧ s.secUp = true ∧ s.live 0x10 = true ∧ s.portEn p.val = true ∧ s.roleIs p.val 0 = false ∧ (∀ w ∈ s.sec.waiting, w.port ≠ p.val) ∧ s.inL0 p.val = true ∧ s.get (ideField p.val cm) ≠ 2) ∧
    (∃ s : State, ∃ p : Port, ∃ cm : Bool, ∃ m : Master, s.takes m 7 = true ∧ m.keeperOrBoard = true ∧ s.secUp = true ∧ s.live 0x10 = true ∧ s.portEn p.val = true ∧ s.roleIs p.val 0 = false ∧ (∀ w ∈ s.sec.waiting, w.port ≠ p.val) ∧ s.inL0 p.val = false ∧ s.get (ideField p.val cm) ≠ 2) ∧
    (∃ s : State, ∃ p : Port, ∃ m : Master, s.takes m 7 = true ∧ m.keeperOrBoard = true ∧ s.secUp = true ∧ s.live 0x10 = true ∧ s.portEn p.val = true ∧ s.roleIs p.val 0 = false ∧ (∃ w ∈ s.sec.waiting, w.port = p.val)) ∧
    (∃ s : State, ∃ p : Port, ∃ cm : Bool, ∃ m : Master, s.takes m 7 = true ∧ m.keeperOrBoard = true ∧ s.secUp = true ∧ s.live 0x10 = true ∧ s.portEn p.val = true ∧ s.roleIs p.val 0 = false ∧ (∀ w ∈ s.sec.waiting, w.port ≠ p.val) ∧ s.inL0 p.val = true ∧ s.get (ideField p.val cm) = 2) ∧
    (∃ s : State, ∃ p : Port, ∃ cm : Bool, ∃ m : Master, s.takes m 7 = true ∧ m.keeperOrBoard = true ∧ s.secUp = true ∧ s.live 0x10 = true ∧ s.portEn p.val = true ∧ s.roleIs p.val 0 = false ∧ (∀ w ∈ s.sec.waiting, w.port ≠ p.val) ∧ s.get (ideField p.val cm) ≠ 2) ∧
    (∃ s : State, ∃ p : Port, ∃ cm : Bool, ∃ m : Master, s.takes m 7 = true ∧ m.keeperOrBoard = true ∧ s.secUp = true ∧ s.live 0x10 = true ∧ s.portEn p.val = true ∧ s.roleIs p.val 0 = false ∧ (∀ w ∈ s.sec.waiting, w.port ≠ p.val) ∧ s.get (ideField p.val cm) ≠ 0) ∧
    (∃ s : State, ∃ p : Port, ∃ cm : Bool, s.secUp = true ∧ s.live 0x10 = true ∧ s.portEn p.val = true ∧ s.roleIs p.val 0 = false ∧ s.get (ideField p.val cm) = 2 ∧ (∀ w ∈ s.sec.waiting, w.port ≠ p.val) ∧ s.inL0 p.val = true) ∧
    (∃ s : State, ∃ p : Port, ∃ cm : Bool, s.secUp = true ∧ s.live 0x10 = true ∧ s.portEn p.val = true ∧ s.roleIs p.val 0 = false ∧ s.get (ideField p.val cm) = 2 ∧ (∃ w ∈ s.sec.waiting, w.port = p.val)) ∧
    (∃ s : State, ∃ p : Port, ∃ cm : Bool, s.secUp = true ∧ s.live 0x10 = true ∧ s.portEn p.val = true ∧ s.roleIs p.val 0 = true ∧ s.get (ideField p.val cm) ≠ 2) ∧
    (∃ s : State, ∃ p : Port, ∃ cm : Bool, ∃ k : Bool, s.secUp = true ∧ s.live 0x10 = true ∧ s.portEn p.val = true ∧ s.roleIs p.val 0 = true ∧ s.get (ideField p.val cm) = 2 ∧ s.flag (ideKset p.val cm) = k) ∧
    (∃ s : State, ∃ p : Port, ∃ cm : Bool, ∃ k : Bool, s.secUp = true ∧ s.live 0x10 = true ∧ s.portEn p.val = true ∧ s.roleIs p.val 0 = true ∧ (⟨p.val, cm, k⟩ ∈ s.sec.programmed) ∧ s.inL0 p.val = true ∧ s.get (ideField p.val cm) = 1) ∧
    (∃ s : State, ∃ p : Port, ∃ cm : Bool, ∃ k : Bool, s.secUp = true ∧ s.live 0x10 = true ∧ s.portEn p.val = true ∧ s.roleIs p.val 0 = true ∧ (⟨p.val, cm, k⟩ ∉ s.sec.programmed)) ∧
    (∃ s : State, ∃ p : Port, s.secUp = true ∧ s.live 0x10 = true ∧ s.portEn p.val = true ∧ s.roleIs p.val 0 = true) ∧
    (∃ s : State, ∃ p : Port, ∃ cm : Bool, s.fabricRuns = true ∧ s.get (ideField p.val cm) = 2 ∧ s.portHeld p.val = false) :=
  ⟨⟨((let ready := ready.portAs 3 1 5; { ready with sec := Sec.reset }).puts [(Fld.SEC_STATUS_SELFTEST, 1), (Fld.SEC_IDE_PORT_CM 3, 0), (Fld.SEC_IDE_PORT_CM_KSET 3, 0)]), 3, true, .board, by decide +kernel⟩,
    ⟨((let ready := ready.portAs 3 1 2; { ready with sec := Sec.reset }).puts [(Fld.SEC_STATUS_SELFTEST, 1), (Fld.SEC_IDE_PORT_CM 3, 0), (Fld.SEC_IDE_PORT_CM_KSET 3, 0)]), 3, true, .board, by decide +kernel⟩,
    ⟨(let ready := ((let ready := ready.portAs 3 1 2; { ready with sec := Sec.reset }).puts [(Fld.SEC_STATUS_SELFTEST, 1), (Fld.SEC_IDE_PORT_CM 3, 1), (Fld.SEC_IDE_PORT_CM_KSET 3, 0)]); { ready with sec := { Sec.reset with waiting := [⟨3, true, false⟩] } }), 3, .board, by decide +kernel⟩,
    ⟨((let ready := ready.portAs 3 1 5; { ready with sec := Sec.reset }).puts [(Fld.SEC_STATUS_SELFTEST, 1), (Fld.SEC_IDE_PORT_CM 3, 2), (Fld.SEC_IDE_PORT_CM_KSET 3, 0)]), 3, true, .board, by decide +kernel⟩,
    ⟨((let ready := ready.portAs 3 1 5; { ready with sec := Sec.reset }).puts [(Fld.SEC_STATUS_SELFTEST, 1), (Fld.SEC_IDE_PORT_CM 3, 0), (Fld.SEC_IDE_PORT_CM_KSET 3, 0)]), 3, true, .board, by decide +kernel⟩,
    ⟨((let ready := ready.portAs 3 1 5; { ready with sec := Sec.reset }).puts [(Fld.SEC_STATUS_SELFTEST, 1), (Fld.SEC_IDE_PORT_CM 3, 2), (Fld.SEC_IDE_PORT_CM_KSET 3, 0)]), 3, true, .board, by decide +kernel⟩,
    ⟨((let ready := ready.portAs 3 1 5; { ready with sec := Sec.reset }).puts [(Fld.SEC_STATUS_SELFTEST, 1), (Fld.SEC_IDE_PORT_CM 3, 2), (Fld.SEC_IDE_PORT_CM_KSET 3, 0)]), 3, true, by decide +kernel⟩,
    ⟨(let ready := ((let ready := ready.portAs 3 1 5; { ready with sec := Sec.reset }).puts [(Fld.SEC_STATUS_SELFTEST, 1), (Fld.SEC_IDE_PORT_CM 3, 2), (Fld.SEC_IDE_PORT_CM_KSET 3, 0)]); { ready with sec := { Sec.reset with waiting := [⟨3, true, false⟩] } }), 3, true, by decide +kernel⟩,
    ⟨((let ready := ready.portAs 3 0 5; { ready with sec := Sec.reset }).puts [(Fld.SEC_STATUS_SELFTEST, 1), (Fld.SEC_IDE_PORT_CM 3, 0), (Fld.SEC_IDE_PORT_CM_KSET 3, 0)]), 3, true, by decide +kernel⟩,
    ⟨((let ready := ready.portAs 3 0 5; { ready with sec := Sec.reset }).puts [(Fld.SEC_STATUS_SELFTEST, 1), (Fld.SEC_IDE_PORT_CM 3, 2), (Fld.SEC_IDE_PORT_CM_KSET 3, 0)]), 3, true, false, by decide +kernel⟩,
    ⟨(let ready := ((let ready := ready.portAs 3 0 5; { ready with sec := Sec.reset }).puts [(Fld.SEC_STATUS_SELFTEST, 1), (Fld.SEC_IDE_PORT_CM 3, 1), (Fld.SEC_IDE_PORT_CM_KSET 3, 0)]); { ready with sec := { Sec.reset with programmed := [⟨3, true, false⟩] } }), 3, true, false, by decide +kernel⟩,
    ⟨((let ready := ready.portAs 3 0 5; { ready with sec := Sec.reset }).puts [(Fld.SEC_STATUS_SELFTEST, 1), (Fld.SEC_IDE_PORT_CM 3, 1), (Fld.SEC_IDE_PORT_CM_KSET 3, 0)]), 3, true, false, by decide +kernel⟩,
    ⟨((let ready := ready.portAs 3 0 5; { ready with sec := Sec.reset }).puts [(Fld.SEC_STATUS_SELFTEST, 1), (Fld.SEC_IDE_PORT_CM 3, 2), (Fld.SEC_IDE_PORT_CM_KSET 3, 0)]), 3, by decide +kernel⟩,
    ⟨((let ready := ready.portAs 3 1 5; { ready with sec := Sec.reset }).puts [(Fld.SEC_STATUS_SELFTEST, 1), (Fld.SEC_IDE_PORT_CM 3, 2), (Fld.SEC_IDE_PORT_CM_KSET 3, 0)]), 3, true, by decide +kernel⟩⟩

theorem test_meets_DebugPort :
    (∃ s : State, ∃ m : Master, s.takes m 7 = true ∧ m.debugger = true ∧ s.secUp = true ∧ s.get Fld.SEC_DBG_STATUS_STATE ≠ 2 ∧ s.get Fld.SEC_DBG_STATUS_STATE ≠ 3 ∧ s.get Fld.SEC_DBG_STATUS_STATE ≠ 5) ∧
    (∃ s : State, ∃ m : Master, s.takes m 7 = true ∧ m.debugger = true ∧ s.secUp = true ∧ (s.get Fld.SEC_DBG_STATUS_STATE = 2 ∨ s.get Fld.SEC_DBG_STATUS_STATE = 3 ∨ s.get Fld.SEC_DBG_STATUS_STATE = 5)) ∧
    (∃ s : State, ∃ m : Master, s.takes m 7 = true ∧ m.debugger = false) ∧
    (∃ s : State, s.mgmtRuns = true ∧ s.sec.nonceValid = true ∧ s.get Fld.SEC_DBG_STATUS_STATE = 1) ∧
    (∃ s : State, ∃ m : Master, s.takes m 7 = true ∧ m.debugger = true ∧ s.secUp = true ∧ s.get Fld.SEC_DBG_STATUS_STATE ≠ 2 ∧ s.get Fld.SEC_DBG_STATUS_STATE ≠ 3 ∧ s.get Fld.SEC_DBG_STATUS_STATE ≠ 5) ∧
    (∃ s : State, ∃ m : Master, s.takes m 7 = true ∧ m.debugger = true ∧ s.secUp = true ∧ (s.get Fld.SEC_DBG_STATUS_STATE = 2 ∨ s.get Fld.SEC_DBG_STATUS_STATE = 3)) ∧
    (∃ s : State, ∃ m : Master, s.takes m 7 = true ∧ m.debugger = true ∧ s.secUp = true ∧ s.get Fld.SEC_DBG_STATUS_STATE = 5) ∧
    (∃ s : State, ∃ g : TokenSignature, ∃ k : List Nat, ∃ c : Nat, s.mgmtRuns = true ∧ s.sec.token = some k ∧ s.tokenCause k g = some c ∧ c < 8 ∧ s.get Fld.SEC_DBG_STATUS_STATE = 2 ∧ s.get Fld.SEC_DBG_STATUS_REFUSALS < 255) ∧
    (∃ s : State, ∃ k : List Nat, s.mgmtRuns = true ∧ s.sec.token = some k) :=
  ⟨⟨ready.puts [(Fld.SEC_STATUS_SELFTEST, 1), (Fld.SEC_DBG_STATUS_STATE, 0), (Fld.SEC_DBG_STATUS_REFUSALS, 0)], .board, by decide +kernel⟩,
    ⟨ready.puts [(Fld.SEC_STATUS_SELFTEST, 1), (Fld.SEC_DBG_STATUS_STATE, 3), (Fld.SEC_DBG_STATUS_REFUSALS, 0)], .board, by decide +kernel⟩,
    ⟨ready.host4.puts [(Fld.MBX_CFG_FM_EN, 1), (Fld.MBX_CFG_FM_VCS, 2), (Fld.MBX_POLICY_STATE, 1)], .host 2, by decide +kernel⟩,
    ⟨{ ready.puts [(Fld.SEC_STATUS_SELFTEST, 1), (Fld.SEC_DBG_STATUS_STATE, 1), (Fld.SEC_DBG_STATUS_REFUSALS, 0)] with sec := { ready.sec with nonceValid := true } }, by decide +kernel⟩,
    ⟨ready.puts [(Fld.SEC_STATUS_SELFTEST, 1), (Fld.SEC_DBG_STATUS_STATE, 1), (Fld.SEC_DBG_STATUS_REFUSALS, 0)], .board, by decide +kernel⟩,
    ⟨ready.puts [(Fld.SEC_STATUS_SELFTEST, 1), (Fld.SEC_DBG_STATUS_STATE, 3), (Fld.SEC_DBG_STATUS_REFUSALS, 0)], .board, by decide +kernel⟩,
    ⟨ready.puts [(Fld.SEC_STATUS_SELFTEST, 1), (Fld.SEC_DBG_STATUS_STATE, 5), (Fld.SEC_DBG_STATUS_REFUSALS, 0)], .board, by decide +kernel⟩,
    ⟨{ ready.puts [(Fld.SEC_STATUS_SELFTEST, 1), (Fld.SEC_DBG_STATUS_STATE, 2), (Fld.SEC_DBG_STATUS_REFUSALS, 0)] with sec := { ready.sec with token := some [] } }, ⟨true, true, true⟩, [], 5, by decide +kernel⟩,
    ⟨{ ready.puts [(Fld.SEC_STATUS_SELFTEST, 1), (Fld.SEC_DBG_STATUS_STATE, 2), (Fld.SEC_DBG_STATUS_REFUSALS, 0)] with sec := { ready.sec with token := some [] } }, [], by decide +kernel⟩⟩

theorem test_meets_IntcPageWrites :
    (∃ m : Master, ∃ addr : BitVec 28, addr.toNat / 65536 = 5 ∧ addr.toNat % 4 = 0 ∧ m.isKeeper = false ∧ m ≠ .policy) ∧
    (∃ s : State, ∃ addr : BitVec 28, addr.toNat / 65536 = 5 ∧ addr.toNat % 4 = 0 ∧ s.mgmtRuns = true ∧ s.get Fld.MBX_POLICY_STATE = 1) ∧
    (∃ m : Master, m.isKeeper = false ∧ m ≠ .policy) ∧
    (∃ m : Master, m.isKeeper = false ∧ m ≠ .policy) ∧
    (∃ m : Master, m.isKeeper = false ∧ m ≠ .policy) ∧
    (∃ m : Master, m.isKeeper = false ∧ m ≠ .policy) ∧
    (∃ m : Master, m.isKeeper = false ∧ m ≠ .policy) ∧
    (∃ m : Master, m.isKeeper = false ∧ m ≠ .policy) ∧
    (∃ s : State, ∃ addr : BitVec 28, ∃ w : Fin 64, s.mgmtRuns = true ∧ addr.toNat = Addr.INTC_EN_SET w.val) ∧
    (∃ s : State, ∃ addr : BitVec 28, ∃ w : Core, s.mgmtRuns = true ∧ addr.toNat = Addr.INTC_THRESH w.val) ∧
    (∃ s : State, ∃ addr : BitVec 28, ∃ w : Fin 2048, s.mgmtRuns = true ∧ addr.toNat = Addr.INTC_SRC w.val) ∧
    (∃ addr : BitVec 28, (addr.toNat ∈ [0x50040, 0x50044, 0x50048, 0x50050, 0x50054, 0x50058, 0x50080, 0x50084, 0x50088, 0x5008C, 0x50090, 0x50094, 0x50098])) :=
  ⟨⟨.board, 0x52200, by decide +kernel⟩,
    ⟨ready.put Fld.MBX_POLICY_STATE 1, 0x52200, by decide +kernel⟩,
    ⟨.board, by decide +kernel⟩,
    ⟨.board, by decide +kernel⟩,
    ⟨.board, by decide +kernel⟩,
    ⟨.board, by decide +kernel⟩,
    ⟨.board, by decide +kernel⟩,
    ⟨.board, by decide +kernel⟩,
    ⟨ready, BitVec.ofNat 28 (Addr.INTC_EN_SET 3), 3, by decide +kernel⟩,
    ⟨ready, BitVec.ofNat 28 (Addr.INTC_THRESH 1), 1, by decide +kernel⟩,
    ⟨ready, BitVec.ofNat 28 (Addr.INTC_SRC 1409), 1409, by decide +kernel⟩,
    ⟨0x50044, by decide +kernel⟩⟩

theorem test_meets_FaultTimer :
    (∃ s : State, ∃ x : HsSample, s.hs.auxUp = true ∧ x.limiting = true ∧ s.get Fld.PWR_HS_STATUS_FT_COUNT < 65535) ∧
    (∃ s : State, ∃ x : HsSample, s.hs.auxUp = true ∧ x.limiting = false) ∧
    (∃ s : State, ∃ x : HsSample, s.hs.auxUp = true ∧ s.get Fld.PWR_HS_STATUS_STATE = 5 ∧ s.hs.severe = false ∧ x.seatL = true ∧ x.seatR = true ∧ x.limiting = true ∧ s.get Fld.PWR_HS_STATUS_FT_COUNT < 65535 ∧ 100 * s.get Fld.PWR_HS_CFG_FAULT_TIME ≤ s.get Fld.PWR_HS_STATUS_FT_COUNT + 1) ∧
    (∃ s : State, ∃ x : HsSample, s.hs.auxUp = true ∧ s.get Fld.PWR_HS_STATUS_STATE = 5 ∧ s.hs.severe = false ∧ x.seatL = true ∧ x.seatR = true ∧ s.get Fld.PWR_HS_STATUS_FT_COUNT + 1 < 100 * s.get Fld.PWR_HS_CFG_FAULT_TIME ∧ x.fetA ≤ 214 ∧ x.fetB ≤ 214 ∧ 11000 ≤ x.bus) :=
  ⟨⟨ready, { HsSample.nominal with limiting := true }, by decide +kernel⟩,
    ⟨ready.put Fld.PWR_HS_STATUS_FT_COUNT 7, HsSample.nominal, by decide +kernel⟩,
    ⟨{ (ready.puts [(Fld.PWR_HS_STATUS_STATE, 5), (Fld.PWR_HS_STATUS_FT_COUNT, 999), (Fld.PWR_HS_CFG_FAULT_TIME, 10)]) with hs := Hs.reset }, { HsSample.nominal with limiting := true }, by decide +kernel⟩,
    ⟨{ (ready.puts [(Fld.PWR_HS_STATUS_STATE, 5), (Fld.PWR_HS_STATUS_FT_COUNT, 7), (Fld.PWR_HS_CFG_FAULT_TIME, 10)]) with hs := Hs.reset }, { HsSample.nominal with limiting := true }, by decide +kernel⟩⟩

theorem test_meets_AckAndResend :
    (∃ s : State, ∃ a : Word, s.fabricRuns = true ∧ (s.role = 2 ∨ s.role = 3) ∧ s.streamUp = true ∧ s.fab.pair.ackDue = false ∧ s.fab.pair.reqDue = false ∧ s.fab.pair.bulk = none ∧ seqAfter a.toNat (s.get Fld.TDM_ACKSEQ_SEQ) = true ∧ seqAfter a.toNat (s.get Fld.TDM_HSEQ_SEQ) = false ∧ (s.fab.pair.journal.all fun r => r.sent) = true) ∧
    (∃ s : State, ∃ a : Word, s.fabricRuns = true ∧ (s.role = 2 ∨ s.role = 3) ∧ s.streamUp = true ∧ s.fab.pair.ackDue = false ∧ s.fab.pair.reqDue = false ∧ s.fab.pair.bulk = none ∧ (seqAfter a.toNat (s.get Fld.TDM_ACKSEQ_SEQ) = false ∨ seqAfter a.toNat (s.get Fld.TDM_HSEQ_SEQ) = true)) ∧
    (∃ s : State, ∃ r : Rec, ∃ rest : List Rec, s.fabricRuns = true ∧ (s.role = 2 ∨ s.role = 3) ∧ s.streamUp = true ∧ s.fab.pair.ackDue = false ∧ s.fab.pair.reqDue = false ∧ s.fab.pair.bulk = none ∧ s.hasStandby = true ∧ s.fab.pair.journal = r :: rest ∧ (∀ x ∈ r :: rest, seqAfter x.seq (s.get Fld.TDM_ACKSEQ_SEQ) = true) ∧ s.fab.pair.peerCredits ≤ 65535 ∧ s.fab.pair.hasCredit ((r :: rest).map fun x => framesOf x.body.length).sum = true) ∧
    (∃ s : State, s.fabricRuns = true ∧ (s.role = 2 ∨ s.role = 3) ∧ s.streamUp = true ∧ s.fab.pair.ackDue = false ∧ s.fab.pair.reqDue = false ∧ s.fab.pair.bulk = none ∧ s.fab.pair.journal = []) :=
  ⟨⟨((ready.pairAs 3 3).pa fun p => { p with peer := some (demoBlock 5 0 0), journal := [⟨95, 16, .reg 0x6000000 [1], true⟩, ⟨96, 20, .epoch 3 0, true⟩] }), 95, by decide +kernel⟩,
    ⟨((ready.pairAs 3 3).pa fun p => { p with peer := some (demoBlock 5 0 0), journal := [⟨95, 16, .reg 0x6000000 [1], true⟩, ⟨96, 20, .epoch 3 0, true⟩] }), 90, by decide +kernel⟩,
    ⟨((ready.pairAs 3 3).pa fun p => { p with peer := some (demoBlock 5 0 0), journal := [⟨95, 16, .reg 0x6000000 [1], true⟩, ⟨96, 20, .epoch 3 0, true⟩] }), ⟨95, 16, .reg 0x6000000 [1], true⟩, [⟨96, 20, .epoch 3 0, true⟩], by decide +kernel⟩,
    ⟨ready.pairAs 3 3, by decide +kernel⟩⟩

theorem test_meets_StepRunsFront : ∃ s : State, s.pending = [] := ⟨State.reset, rfl⟩

theorem test_meets_TimeBase :
    (∃ s : State, s.pending = [] ∧ s.mgmtRuns = true ∧ s.fab.up = [] ∧ s.now + 3 < 2 ^ 64 ∧ (s.flag Fld.TIME_STATUS_SLEWING = false ∨ s.clk.sinceSlew < 499)) ∧
    (∃ s : State, s.pending = [] ∧ s.mgmtRuns = true ∧ s.fab.up = [] ∧ s.now + 3 < 2 ^ 64 ∧ s.flag Fld.TIME_STATUS_SLEWING = true ∧ 499 ≤ s.clk.sinceSlew) ∧
    (∃ s : State, s.pending = [] ∧ s.mgmtRuns = false) :=
  ⟨⟨ready, by decide +kernel⟩,
   ⟨{ ready.put Fld.TIME_STATUS_SLEWING 1 with clk := { ready.clk with sinceSlew := 499 } }, by decide +kernel⟩,
   ⟨State.reset, by decide +kernel⟩⟩

theorem test_meets_LinesSettledInvariant : ∃ s t : State, s.LinesSettled ∧ step s = .next t :=
  ⟨State.reset, _, by unfold State.LinesSettled; decide +kernel, rfl⟩

theorem test_meets_HeldFabric : ∃ (c : Instr) (s : State), c.fabricOnly = true ∧ s.fabricRuns = false := ⟨.tandemAlignPeriodic, State.reset, by decide +kernel⟩

/-! ### Commands no sender can send (WellFormed): one ill-formed term for each check -/

theorem test_wf_refuses_access_size : (Instr.registerWrite .board 0x81008 3 0).wf = false := by decide
theorem test_wf_refuses_pair_size : (Instr.read64Low .board 0 3).wf = false ∧ (Instr.read64High .board 4 0).wf = false ∧ (Instr.write64Low .board 0 5 0).wf = false ∧
    (Instr.write64High .board 4 16 0).wf = false := by decide
theorem test_wf_refuses_mctp_words : (Instr.mctpRegRead ⟨1, 0, 1, [5], true, 0, false⟩).wf = false ∧ (Instr.mctpRegWrite ⟨1, 0, 2, [5], true, 0, false⟩).wf = false := by decide
theorem test_wf_refuses_sample : (Instr.hsTick { HsSample.nominal with vA := 65536 }).wf = false := by decide
theorem test_wf_refuses_fixon : (Instr.fixonWrite 2 [1]).wf = false ∧ (Instr.fixonWrite 4 []).wf = false ∧ (Instr.fixonMasked 1 0 0).wf = false ∧ (Instr.fixonFill 4 0 0).wf = false ∧
    (Instr.fixonPoll 4 0 0 (2 ^ 32)).wf = false ∧ (Instr.fixonDelay 1000001).wf = false := by decide
theorem test_wf_refuses_repeated_wires : (Instr.ehrurnTrainDone [⟨0, 0, 1, [3, 3], false⟩] none).wf = false := by decide
theorem test_wf_refuses_repeated_lanes : (Instr.laneSignalLoss [1, 1]).wf = false ∧ (Instr.laneCdrUnlock [1, 1]).wf = false ∧ (Instr.laneEqDiverge [2, 2]).wf = false ∧
    (Instr.laneErrorLimit [(1, ⟨[], [], 0, 0⟩), (1, ⟨[], [], 0, 0⟩)] []).wf = false ∧ (Instr.laneErrorLimit [] [(3, 1), (3, 2)]).wf = false := by decide
theorem test_wf_refuses_dsx_of_another_row : (Instr.dsxHelloRx 0 (dsxMessage .helloAck 1 0 0)).wf = false ∧ (Instr.dsxHelloAckRx 0 (dsxMessage .hello 1 0 0)).wf = false ∧
    (Instr.dsxSleepReqRx 0 (dsxMessage .sleepAck 1 0 0)).wf = false ∧ (Instr.dsxSleepAckRx 0 (dsxMessage .sleepNak 1 0 0)).wf = false ∧
    (Instr.dsxSleepNakRx 0 (dsxMessage .wakeReq 1 0 0)).wf = false ∧ (Instr.dsxWakeReqRx 0 (dsxMessage .sleepReq 1 0 0)).wf = false := by decide
theorem test_wf_refuses_link :
    (Instr.linkL0Entry 0 ⟨0, 6, 2, true, false, true, false, false, [], [], [], none⟩).wf = false ∧ (Instr.linkL0Entry 0 ⟨4, 7, 2, true, false, true, false, false, [], [], [], none⟩).wf = false := by decide
theorem test_wf_refuses_beats : (Instr.ehrurnSlotRx 0 false []).wf = false := by decide
theorem test_wf_refuses_kind_of_message : (Instr.requestIngress 0 { kind := .cmp }).wf = false ∧ (Instr.answerReceive 0 { kind := .memRd }).wf = false ∧
    (Instr.requestIngress 0 { kind := .memRd, tag := 65536 }).wf = false ∧ (Instr.requestIngress 0 { kind := .cfgReq, route := .bridge 32 0 }).wf = false ∧
    (Instr.requestIngress 0 { kind := .fanout, group := some 256 }).wf = false := by decide
theorem test_wf_refuses_decoder : (Instr.hdmDecoderCommit 0 0 1 0 0 0 false false []).wf = false ∧ (Instr.hdmDecoderCommit 0 0 0 0 0 0 false false [256]).wf = false := by decide
theorem test_wf_refuses_sector : (Instr.homeBusyRelease 0 (2 ^ 38) 0).wf = false ∧ (Instr.sectorResolve 0 (2 ^ 38)).wf = false := by decide
theorem test_wf_refuses_repeated_client : (Instr.combArbDecide 0 [⟨1, 0, 0⟩, ⟨1, 0, 3⟩]).wf = false ∧ (Instr.combArbDecide 0 [⟨1, 256, 0⟩]).wf = false := by decide
theorem test_wf_refuses_misses : (Instr.combGrantEnd 0 2 3 none).wf = false := by decide
theorem test_wf_refuses_descriptor : (Instr.moverDescFetched 0 [0x03] false).wf = false := by decide
theorem test_wf_refuses_dlog_line : (Instr.dlogLineFetchDone (2 ^ 25)).wf = false := by decide
theorem test_wf_refuses_training : (Instr.tandemTrainRx ⟨true, 1, 0, 0⟩ ⟨0, 1, 8, true, 1024, List.replicate 16 0⟩).wf = false ∧
    (Instr.tandemTrainRx ⟨true, 1, 0, 0⟩ ⟨0, 1, 7, true, 1024, []⟩).wf = false ∧ (Instr.tandemTrainRx ⟨true, 1, 0, 0⟩ ⟨0, 1, 7, true, 1024, List.replicate 16 0⟩).wf = true := by decide
theorem test_wf_refuses_entry : (Instr.recDir 0 0 1 (some ⟨0, 64, [0, 0, 0, 0], 0⟩)).wf = false ∧ (Instr.recBulkDir 0 0 0 1 [(1, ⟨0, 0, [0, 0, 0], 0⟩)]).wf = false := by decide
theorem test_wf_refuses_record : (Instr.recReg 0 16 0x6000002 [1]).wf = false ∧ (Instr.recReg 0 16 0x6000000 []).wf = false ∧ (Instr.recCommit 0 0 false [(1, [0])]).wf = false := by decide
theorem test_wf_refuses_block : (Instr.waggleBlockRx (demoBlock 16 0 0) 0 false).wf = false ∧ (Instr.waggleHandoverRx (demoBlock 8 2 (2 ^ 32)) 0 false).wf = false := by decide
theorem test_wf_refuses_fault : (Instr.faultMessage { demoFault with cls := 4 }).wf = false ∧ (Instr.failStop { demoFault with atype := 16 }).wf = false := by decide
theorem test_wf_refuses_keeper_address : (Instr.keeperSramError 0 (2 ^ 32) true).wf = false := by decide
theorem test_wf_refuses_user_read : (Instr.userCounterRead 0 65536 4).wf = false ∧ (Instr.userCounterRead 0 0 3).wf = false := by decide
theorem test_wf_accepts_read : (Instr.read64Low .board 0x81000 4).wf = true := by decide

/-! ### Single steps whose results the spec gives -/

/-- What a step from a state with one command waiting puts out. -/
def outOf (s : State) (c : Instr) : List Output :=
  match step { s with pending := [c] } with
  | .next t => t.out
  | _ => []

/-- A field after one command. -/
def after (s : State) (c : Instr) (f : Field) : Nat :=
  match step { s with pending := [c] } with
  | .next t => t.get f
  | _ => 0

/-- DEV_VENDOR (R447). -/
theorem test_vendor_reads : outOf ready (.read64Low .board 0x1000 4) = [.read .board 0x1000 0xC2561F3D] := by decide +kernel

/-- A page that the page index does not list reads 0 (R5, R435). -/
theorem test_unlisted_page_reads_zero : outOf ready (.read64Low .board 0xB0000 4) = [.read .board 0xB0000 0] := by decide +kernel

/-- Any access but an aligned one of 4 bytes is not done: an unsupported request, or invalid parameter to the board (R4). -/
theorem test_byte_access_refused : outOf ready (.registerWrite .board 0x81008 1 5) = [.invalidParam .board] ∧ outOf ready (.read64Low (.keeper 0) 0x81008 8) = [.unsupported (.keeper 0)] := by decide +kernel

/-- The vectors of the example of R382: base 0x0120_0000, source 1,409, and the spurious one. -/
theorem test_vectors_of_the_claim_race :
    let s := (((ready.setWord (Addr.INTC_VEC_LO 1) 0x01200000).put (Fld.INTC_SRC_PRIO 1409) 6).setWord (Addr.INTC_EN_SET 44) 2).setWord (Addr.INTC_PEND_SET 44) 2
    outOf s (.intcVectorFetch 1 1409) = [.vector 1 0x01202C08] ∧ outOf (s.setWord (Addr.INTC_PEND_SET 44) 0) (.intcVectorFetch 1 1409) = [.vector 1 0x01204000] := by decide +kernel

/-- INTC_CLAIM reads 0xFFFF at reset (R392), FLOOR 960 and ARB_WAIT 10 (R339). -/
theorem test_reset_values : State.reset.get (Fld.INTC_CLAIM_SOURCE 0) = 0xFFFF ∧ State.reset.get Fld.TDM_CREDIT_FLOOR = 960 ∧ State.reset.get Fld.TDM_CFG_ARB_WAIT = 10 := by decide +kernel

/-- LOCK once set stays set, and an RWL field of the page keeps its value (R56, R444). -/
theorem test_lock_holds :
    after (ready.put Fld.TDM_LOCK_LOCK 1) (.registerWrite .board 0xA010FC 4 0) Fld.TDM_LOCK_LOCK = 1 ∧
    after (ready.put Fld.TDM_LOCK_LOCK 1) (.registerWrite .board 0xA01008 4 500) Fld.TDM_CREDIT_FLOOR = 960 ∧
    after ready (.registerWrite .board 0xA01008 4 500) Fld.TDM_CREDIT_FLOOR = 500 := by decide +kernel

/-- A write of 0 to ARB_WAIT, and one outside the range of FLOOR, is ignored (R339). -/
theorem test_values_out_of_range_ignored :
    after ready (.registerWrite .board 0xA01000 4 4) Fld.TDM_CFG_ARB_WAIT = 10 ∧ after ready (.registerWrite .board 0xA01008 4 63) Fld.TDM_CREDIT_FLOOR = 960 := by decide +kernel

/-- The defaults of the parameter block have the CRC that R449 tells how to compute over their first 60 bytes. -/
theorem test_parameter_crc : crc32c ((defaultParams.take 15).flatMap wordBytes) = defaultParams.getD 15 0 := by decide +kernel

/-- One idle cycle of 500 MHz adds 2 (R63). -/
theorem test_time_advances : (match step ready with | .next t => t.now | _ => 0) = 4000002 := by decide +kernel

/-- At the failover of the example of R331: after a FAILSTOP the regions unknown are those of the RMASK, where the blocks cover (R, final HSEQ]. -/
theorem test_unknown_set_of_the_failover :
    ((ready.pairAs 5 3).put Fld.TDM_HSEQ_SEQ 0xA47100 |>.pa fun p => { p with blocks := [(0xA47138, 0xA470B6, 8)] }).unknownSet 1 = 8 := by decide +kernel

/-- The same blocks with a break leave every region unknown (R330). -/
theorem test_unknown_set_with_a_break :
    ((ready.pairAs 5 3).put Fld.TDM_HSEQ_SEQ 0xA47100 |>.pa fun p => { p with blocks := [(0xA47138, 0xA47110, 8)] }).unknownSet 1 = allRegions := by decide +kernel

/-- PEER_RESTART makes every hive region unknown, silence every region (R330). -/
theorem test_unknown_set_by_cause : (ready.pairAs 5 3).unknownSet 5 = 0xFFFF ∧ (ready.pairAs 5 3).unknownSet 2 = 0xFFFFF := by decide +kernel

/-- Lengths of records (R320): REG of 1 and 3 words, COMMIT of one rule, BULK_DIR of one group. -/
theorem test_record_lengths : (RecBody.reg 0 [1]).length = 24 ∧ (RecBody.reg 0 [1, 2, 3]).length = 32 ∧ (RecBody.commit 0 false [(1, [])]).length = 88 ∧ (RecBody.bulkDir 0 0 1 []).length = 280 := by
  decide

/-- K28.5 at either running disparity, the comma that opens a Waggle block (R315). -/
theorem test_comma_symbol : lineCode true 0xBC false = 0b0011111010 ∧ lineCode true 0xBC true = 0b1100000101 := by decide

/-- No two bytes share a symbol at one running disparity (8b/10b, R87). -/
theorem test_line_code_distinct : ((List.range 256).map fun b => lineCode false b false).Nodup ∧ ((List.range 256).map fun b => lineCode false b true).Nodup := by decide +kernel

end
end

section
/-! PROOFS. The fault timer of the hot-swap controller (O53, R35).

O53 speaks of every state, those outside the canonical form among them, and there its third clause fails: the stop on the entry to FAULT rebuilds the listed registers and drops
each entry that stands at its reset word, so a second entry of the same register shows. The counting and showing of the first two clauses hold in every state, and the clauses on
expiry wherever PWR_HS_CFG is not listed at its reset word. -/
namespace Sys2Proof.Machine
open Sys2Proof

/-! ### What fabric reset leaves of a register of an AUX page -/

/-- Register a is not listed at its reset word, as the canonical form asks of every register. -/
def State.TidyAt (s : State) (a : Nat) : Prop := assoc s.regs a ≠ some (resetWord a)

theorem assoc_mem {α : Type} (m : List (Nat × α)) (a : Nat) (x : α) (h : assoc m a = some x) : (a, x) ∈ m := by
  induction m with
  | nil => simp [assoc] at h
  | cons e m ih =>
    obtain ⟨k, v⟩ := e
    by_cases hk : k = a <;> simp_all [assoc]

theorem State.Canonical.tidyAt {s : State} (h : s.Canonical) (a : Nat) : s.TidyAt a := by
  obtain ⟨hregs, -, -⟩ := h
  intro hlisted
  have hall := (Bool.and_eq_true_iff.mp hregs).2
  have hne := List.all_eq_true.mp hall _ (assoc_mem _ _ _ hlisted)
  simp at hne

theorem State.tidyAt_congr {s t : State} (h : t.regs = s.regs) {a : Nat} (hs : s.TidyAt a) : t.TidyAt a := by
  rwa [State.TidyAt, h]

theorem State.tidyAt_setWord_same (s : State) (a : Nat) (w : Word) : (s.setWord a w).TidyAt a := by
  by_cases hw : w = resetWord a <;> simp [State.TidyAt, State.setWord, sparsePut, hw]

theorem State.tidyAt_setWord {s : State} {a b : Nat} (w : Word) (h : s.TidyAt b) : (s.setWord a w).TidyAt b := by
  by_cases hab : b = a
  · exact hab ▸ s.tidyAt_setWord_same a w
  · by_cases hw : w = resetWord a
    · simpa [State.TidyAt, State.setWord, sparsePut, hw, assoc_assocDel_other _ hab] using h
    · simpa [State.TidyAt, State.setWord, sparsePut, hw, assoc_assocPut_other _ _ hab] using h

theorem fabricKeeps_key {e e' : Nat × Word} (h : fabricKeeps e = some e') : e'.1 = e.1 := by
  have kept : ∀ {p : Prop} [Decidable p] {w : Word}, (if p then none else some (e.1, w)) = some e' → e'.1 = e.1 := fun hw => by
    obtain ⟨-, heq⟩ := Option.ite_none_left_eq_some.mp hw
    exact (congrArg Prod.fst (Option.some.inj heq)).symm
  unfold fabricKeeps at h
  dsimp only at h
  split at h
  · split at h
    · exact kept h
    · cases h
  · exact kept h

/-- An entry of the power page that is not at its reset word passes fabric reset as it is (R71). -/
theorem fabricKeeps_pwr {a : Nat} {w : Word} (ha : a / 0x10000 = 3) (hw : w ≠ resetWord a) : fabricKeeps (a, w) = some (a, w) := by
  have hd : pageDomain 3 = .aux := rfl
  have hide : ¬ (0x71100 ≤ a ∧ a < 0x71200) := by omega
  simp [fabricKeeps, ha, hd, hide, hw]

theorem assoc_filterMap_fabricKeeps (m : List (Nat × Word)) {a : Nat} (ha : a / 0x10000 = 3) (h : assoc m a ≠ some (resetWord a)) :
    assoc (m.filterMap fabricKeeps) a = assoc m a := by
  induction m with
  | nil => rfl
  | cons e m ih =>
    obtain ⟨k, v⟩ := e
    by_cases hk : k = a
    · subst hk
      have hv : v ≠ resetWord k := by simpa [assoc] using h
      simp [fabricKeeps_pwr ha hv, assoc]
    · have ih' := ih (by simpa [assoc, hk] using h)
      cases hf : fabricKeeps (k, v) with
      | none => simpa [hf, assoc, hk] using ih'
      | some e' =>
        obtain ⟨k', v'⟩ := e'
        have hkey : k' = k := fabricKeeps_key hf
        simpa [hf, assoc, hk, hkey] using ih'

/-! ### Fields that an operation of the controller keeps -/

/-- Field g lies in one word and shares no bit with f. -/
def Field.clearOf (g f : Field) : Bool :=
  decide (g.lo + g.width ≤ 32) && (g.addr != f.addr || decide (g.lo + g.width ≤ f.lo) || decide (f.lo + f.width ≤ g.lo))

theorem Field.clearOf_iff {g f : Field} : g.clearOf f = true ↔ g.lo + g.width ≤ 32 ∧ g.apart f := by
  simp [Field.clearOf, Field.apart, or_assoc]

theorem State.get_put_clear (s : State) {f g : Field} (v : Nat) (h : g.clearOf f = true) : (s.put f v).get g = s.get g := by
  obtain ⟨hg, ha⟩ := Field.clearOf_iff.mp h
  exact State.get_put_apart s v hg ha

/-- The fields of fs whose registers are tidy read in t as they read in s, and their registers are tidy still. -/
def Keeps (fs : List Field) (s t : State) : Prop := ∀ g ∈ fs, s.TidyAt g.addr → t.TidyAt g.addr ∧ t.get g = s.get g

/-- Every field of fs lies clear of f. -/
def clearFields (fs : List Field) (f : Field) : Bool := fs.all fun g => g.clearOf f

theorem clearOf_of_mem {fs : List Field} {f g : Field} (h : clearFields fs f = true) (hg : g ∈ fs) : g.clearOf f = true :=
  List.all_eq_true.mp h g hg

namespace Keeps
variable {fs : List Field} {s t u : State}

theorem refl (s : State) : Keeps fs s s := fun _ _ h => ⟨h, rfl⟩

theorem trans (h : Keeps fs s t) (h' : Keeps fs t u) : Keeps fs s u := fun g hg hs => by
  obtain ⟨ht, hget⟩ := h g hg hs
  obtain ⟨hu, hget'⟩ := h' g hg ht
  exact ⟨hu, hget'.trans hget⟩

theorem regs (h : Keeps fs s t) (hr : u.regs = t.regs) : Keeps fs s u :=
  h.trans fun _ _ ht => ⟨State.tidyAt_congr hr ht, State.get_congr hr _⟩

theorem hs (h : Keeps fs s t) (x : Hs) : Keeps fs s { t with hs := x } := h.regs rfl
theorem nv (h : Keeps fs s t) (x : Nv) : Keeps fs s { t with nv := x } := h.regs rfl
theorem hsNv (h : Keeps fs s t) (x : Hs) (n : Nv) : Keeps fs s { t with hs := x, nv := n } := h.regs rfl

theorem ite {p : Prop} [Decidable p] (h : Keeps fs s t) (h' : Keeps fs s u) : Keeps fs s (if p then t else u) := by
  split
  · exact h
  · exact h'

theorem put (h : Keeps fs s t) {f : Field} (v : Nat) (hf : clearFields fs f = true) : Keeps fs s (t.put f v) :=
  h.trans fun _ hg ht => ⟨State.tidyAt_setWord _ ht, State.get_put_clear t v (clearOf_of_mem hf hg)⟩

theorem puts (l : List (Field × Nat)) : ∀ {t : State}, Keeps fs s t → (∀ e ∈ l, clearFields fs e.1 = true) → Keeps fs s (t.puts l) := by
  induction l with
  | nil => intro t h _; exact h
  | cons e l ih => intro t h hl; exact ih (h.put _ (hl e List.mem_cons_self)) fun x hx => hl x (List.mem_cons_of_mem _ hx)

theorem addSat (h : Keeps fs s t) {f : Field} (n : Nat) (hf : clearFields fs f = true) : Keeps fs s (t.addSat f n) := h.put _ hf

theorem setWord (h : Keeps fs s t) {a : Nat} (w : Word) (ha : ∀ g ∈ fs, g.addr ≠ a) : Keeps fs s (t.setWord a w) :=
  h.trans fun g hg ht => ⟨State.tidyAt_setWord _ ht, by simp only [State.get, State.word_setWord_other t w (ha g hg)]⟩

theorem put64 (h : Keeps fs s t) {a : Nat} (v : Nat) (ha : ∀ g ∈ fs, g.addr ≠ a) (ha' : ∀ g ∈ fs, g.addr ≠ a + 4) : Keeps fs s (t.put64 a v) :=
  (h.setWord _ ha).setWord _ ha'

theorem raise (h : Keeps fs s t) {e : Event} (he : ∀ g ∈ fs, g.addr ≠ evtPendAddr e.page) : Keeps fs s (t.raise e) := by
  unfold State.raise
  exact .ite (h.setWord _ he) h

theorem raiseIf (h : Keeps fs s t) {e : Event} (c : Bool) (he : ∀ g ∈ fs, g.addr ≠ evtPendAddr e.page) : Keeps fs s (t.raiseIf c e) :=
  .ite (h.raise he) h

end Keeps

/-! ### A transition keeps the fault timer -/

/-- What a transition of the controller leaves alone: the fault timer, its limit and the qualification of the feeds. -/
def transitionKept : List Field :=
  [Fld.PWR_HS_STATUS_FT_COUNT, Fld.PWR_HS_STATUS_FT_RUN, Fld.PWR_HS_STATUS_ILIM_ACT, Fld.PWR_HS_STATUS_FEED_A_QUAL, Fld.PWR_HS_STATUS_FEED_B_QUAL,
    Fld.PWR_HS_CFG_FAULT_TIME]

theorem addr_of_transitionKept {g : Field} (h : g ∈ transitionKept) : 0x31000 ≤ g.addr ∧ g.addr < 0x32000 := by
  revert g; decide

theorem page_of_transitionKept {g : Field} (h : g ∈ transitionKept) : g.addr / 0x10000 = 3 := by
  have := addr_of_transitionKept h
  omega

namespace Keeps
variable {s t : State}

theorem nvWrote (h : Keeps transitionKept s t) (i : Nat) : Keeps transitionKept s (t.nvWrote i) := by
  unfold State.nvWrote
  exact .ite (((h.nv _).put _ (by decide)).raiseIf _ (by decide)) (h.nv _)

theorem recordFault (h : Keeps transitionKept s t) (cause from_ : Nat) : Keeps transitionKept s (t.recordFault cause from_) :=
  ((h.puts _ (by simp; decide)).nv _).nvWrote 6

/-- A message of page PWR is captured in the common header of the page (R357). -/
theorem sendFault (h : Keeps transitionKept s t) {m : FaultMsg} (hm : m.source = 0x003) : Keeps transitionKept s (t.sendFault m) := by
  have hcap : Keeps transitionKept s (t.captureFirst m) := by
    unfold State.captureFirst
    rw [hm]
    exact .ite h ((h.puts _ (by simp; decide)).put64 _ (by decide) (by decide))
  unfold State.sendFault
  exact .ite h (Keeps.regs (.ite hcap h) rfl)

theorem stopFollow (h : Keeps transitionKept s t) : Keeps transitionKept s t.stopFollow := by
  unfold State.stopFollow
  exact .ite ((h.puts _ (by simp; decide)).raise (by decide)) h

theorem endBinding (h : Keeps transitionKept s t) : Keeps transitionKept s t.endBinding := by
  unfold State.endBinding
  split
  · exact (h.setWord _ fun g hg => by
      have := page_of_transitionKept hg
      simp only [Fld.MBX_BOX_STATE_BG, Addr.MBX_BOX_STATE]
      omega).regs rfl
  · exact h

theorem fabricReset (h : Keeps transitionKept s t) : Keeps transitionKept s t.fabricReset := by
  have hregs : t.fabricReset.regs = t.stopFollow.endBinding.regs.filterMap fabricKeeps := rfl
  refine h.stopFollow.endBinding.trans fun g hg ht => ?_
  have hsame := assoc_filterMap_fabricKeeps _ (page_of_transitionKept hg) ht
  exact ⟨by rwa [State.TidyAt, hregs, hsame], by simp only [State.get, State.word, sparseGet, hregs, hsame]⟩

theorem stopNow (h : Keeps transitionKept s t) (cls : Nat) (o : StopOrigin) (cause : Option FaultMsg) : Keeps transitionKept s (t.stopNow cls o cause) := by
  have hsend : Keeps transitionKept s t.sendFailstop.fabricReset := (h.regs (State.sendFailstop_regs t)).fabricReset
  unfold State.stopNow
  exact .ite h <| .ite (h.fabricReset.regs rfl) <|
    Keeps.regs (.ite ((hsend.put (f := Fld.FLT_STATUS_STOPPED) 1 (by decide)).put (f := Fld.BOOT_STATUS_FABRIC_READY) 0 (by decide)) hsend) rfl

theorem powerFailWarning (h : Keeps transitionKept s t) (kind cls origin cause : Nat) : Keeps transitionKept s (t.powerFailWarning kind cls origin cause) :=
  (((h.sendFault (m := t.message kind cls 0x003 0 8 Party.none _) rfl).stopNow _ _ _).nv _).nvWrote 3

theorem pathOff (h : Keeps transitionKept s t) : Keeps transitionKept s t.pathOff := h.regs rfl

theorem hsGoto (h : Keeps transitionKept s t) (st : Nat) : Keeps transitionKept s (t.hsGoto st) :=
  (h.put (f := Fld.PWR_HS_STATUS_STATE) st (by decide)).regs rfl

theorem hsFault (h : Keeps transitionKept s t) (cause : Nat) : Keeps transitionKept s (t.hsFault cause) := by
  have hrec : Keeps transitionKept s (t.recordFault cause (t.get Fld.PWR_HS_STATUS_STATE)) := h.recordFault _ _
  have hcount := hrec.addSat (f := Fld.PWR_FAULT_COUNT_COUNT) 1 (by decide)
  unfold State.hsFault
  refine .hsGoto (.put (.pathOff ?_) _ (by decide)) 7
  exact .ite ((((hcount.nv _).nvWrote 4).hs _).powerFailWarning _ _ _ _) (((hcount.nv _).nvWrote 4).hs _)

theorem hsShutdown (h : Keeps transitionKept s t) : Keeps transitionKept s t.hsShutdown :=
  (((h.recordFault _ _).put _ (by decide)).powerFailWarning _ _ _ _).hsGoto 8

theorem hsSwitch (h : Keeps transitionKept s t) : Keeps transitionKept s t.hsSwitch := (h.hsGoto 6).regs rfl

theorem enterOn (h : Keeps transitionKept s t) : Keeps transitionKept s t.enterOn :=
  ((h.hsGoto 5).put (f := Fld.PWR_HS_STATUS_PG) 1 (by decide)).regs rfl

theorem switchDone (h : Keeps transitionKept s t) : Keeps transitionKept s t.switchDone := by
  have hsel : Keeps transitionKept s ((t.hsGoto 5).put Fld.PWR_HS_STATUS_FEED_SEL (t.hsGoto 5).hs.target.code) := (h.hsGoto 5).put _ (by decide)
  exact (((hsel.addSat (f := Fld.PWR_SWITCH_COUNT_COUNT) 1 (by decide)).raise (e := Evt.PWR_FEED_SWITCH) (by decide)).hsNv _ _).nvWrote 5

end Keeps

theorem State.hsTransition_keeps (s : State) (c : HsCond) : Keeps transitionKept s (s.hsTransition c) := by
  have h := Keeps.refl (fs := transitionKept) s
  have toReady (seen : Nat) : Keeps transitionKept s ((s.hsGoto 3).put Fld.PWR_HS_STATUS_COOLDOWN_SEEN seen) := (h.hsGoto 3).put _ (by decide)
  have toRamp (f : Feed) : Keeps transitionKept s ((s.hsGoto 4).put Fld.PWR_HS_STATUS_FEED_SEL f.code) := (h.hsGoto 4).put _ (by decide)
  unfold State.hsTransition
  split
  · exact .ite (h.hsGoto 1) h
  · exact .ite (h.hsGoto 0) <| .ite (.ite (h.hsGoto 2) (toReady 0)) h
  · exact .ite (h.hsGoto 0) <| .ite ((toReady 1).regs rfl) h
  · exact .ite (h.hsGoto 0) <| .ite ((toRamp _).regs rfl) h
  · exact .ite (h.pathOff.hsGoto 0) <| .ite (h.hsFault 2) <| .ite (h.hsFault 1) <| .ite (h.hsFault 3) <| .ite (h.hsFault 4) <| .ite (h.pathOff.hsGoto 3) <|
      .ite h.enterOn h
  · exact .ite h.hsShutdown <| .ite (h.hsFault 2) <| .ite (h.hsFault 1) <| .ite (h.hsFault 3) <| .ite (h.hsFault 7) <| .ite (h.hsFault 5) <| .ite h.hsSwitch h
  · exact .ite h.hsShutdown <| .ite (h.hsFault 2) <| .ite (h.hsFault 5) <| .ite (h.hsFault 8) <| .ite h.switchDone h
  · exact .ite (h.hsGoto 0) <| .ite ((toReady 0).regs rfl) h
  · exact .ite (h.pathOff.hsGoto 0) h
  · exact h

/-! ### The steps of a tick before its transition (R34, R35) -/

/-- What the later steps of a tick leave alone before the transition: the state, the fault timer and its limit. -/
def sampleKept : List Field :=
  [Fld.PWR_HS_STATUS_STATE, Fld.PWR_HS_STATUS_FT_COUNT, Fld.PWR_HS_STATUS_FT_RUN, Fld.PWR_HS_STATUS_ILIM_ACT, Fld.PWR_HS_CFG_FAULT_TIME]

/-- The registers that the power monitor writes in every tick (R47). -/
def energyWords : List Nat := [Addr.PWR_ENERGY_A_LO, Addr.PWR_ENERGY_A_HI, Addr.PWR_ENERGY_B_LO, Addr.PWR_ENERGY_B_HI]

/-- The count of the fault timer after a tick with sample x (R35). -/
def State.nextFtCount (s : State) (x : HsSample) : Nat :=
  if x.limiting then s.get Fld.PWR_HS_STATUS_FT_COUNT + 1 else s.get Fld.PWR_HS_STATUS_FT_COUNT - 1

/-- The state in which a tick tests for a transition: sampled, power-good shown, feeds qualified, dead time counted. -/
def State.hsSampled (s : State) (x : HsSample) : State := ((s.hsSample x).hsPowerGood.hsFeeds x).hsDeadTime

namespace Keeps
variable {s t : State}

theorem measure {fs : List Field} (h : Keeps fs s t) (x : HsSample) (ha : ∀ g ∈ fs, g.addr ∉ energyWords) : Keeps fs s (t.measure x) := by
  have apart {a : Nat} (hm : a ∈ energyWords) : ∀ g ∈ fs, g.addr ≠ a := fun g hg he => ha g hg (he ▸ hm)
  exact ((h.put64 (a := Addr.PWR_ENERGY_A_LO) _ (apart (by decide)) (apart (by decide))).put64 (a := Addr.PWR_ENERGY_B_LO) _ (apart (by decide))
    (apart (by decide))).hs _

theorem hsPowerGood (h : Keeps sampleKept s t) : Keeps sampleKept s t.hsPowerGood := .ite (h.put _ (by decide)) h

theorem qualify (h : Keeps sampleKept s t) (f : Feed) : Keeps sampleKept s (t.qualify f) := by
  cases f
  · exact .ite h ((h.put (f := Fld.PWR_HS_STATUS_FEED_A_QUAL) 1 (by decide)).raise (by decide))
  · exact .ite h ((h.put (f := Fld.PWR_HS_STATUS_FEED_B_QUAL) 1 (by decide)).raise (by decide))

theorem disqualify (h : Keeps sampleKept s t) (f : Feed) : Keeps sampleKept s (t.disqualify f) := by
  cases f
  · exact .ite (((h.hs _).put (f := Fld.PWR_HS_STATUS_FEED_A_QUAL) 0 (by decide)).raise (by decide)) (h.hs _)
  · exact .ite (((h.hs _).put (f := Fld.PWR_HS_STATUS_FEED_B_QUAL) 0 (by decide)).raise (by decide)) (h.hs _)

/-- A feed is disqualified, or qualified, or left as it is. -/
theorem feed (h : Keeps sampleKept s t) (f : Feed) (lost good : Prop) [Decidable lost] [Decidable good] :
    Keeps sampleKept s (if lost then t.disqualify f else if good then t.qualify f else t) :=
  .ite (h.disqualify f) <| .ite (h.qualify f) h

theorem hsFeeds (h : Keeps sampleKept s t) (x : HsSample) : Keeps sampleKept s (t.hsFeeds x) :=
  (((h.hs _).feed .a _ _).feed .b _ _).hs _

theorem hsDeadTime (h : Keeps sampleKept s t) : Keeps sampleKept s t.hsDeadTime := .ite (.ite h (h.hs _)) h

end Keeps

theorem State.hsSampled_keeps (s : State) (x : HsSample) : Keeps sampleKept (s.hsSample x) (s.hsSampled x) :=
  (((Keeps.refl _).hsPowerGood).hsFeeds x).hsDeadTime

theorem State.hsSample_keeps (s : State) (x : HsSample) : Keeps [Fld.PWR_HS_CFG_FAULT_TIME] s (s.hsSample x) := by
  have hmeasure := ((Keeps.refl (fs := [Fld.PWR_HS_CFG_FAULT_TIME]) s).hs
    { s.hs with unseatL := !s.hs.smp.seatL, unseatR := !s.hs.smp.seatR, smp := x, timer := s.hs.timer + 1, holdoff := s.hs.holdoff - 1 }).measure x (by decide)
  exact (hmeasure.puts _ (by simp; decide)).raiseIf _ (by decide)

theorem State.get_put64_other (s : State) {g : Field} {a : Nat} (v : Nat) (h : g.addr ≠ a) (h' : g.addr ≠ a + 4) : (s.put64 a v).get g = s.get g := by
  simp only [State.get, State.put64, State.word_setWord_other _ _ h, State.word_setWord_other _ _ h']

theorem State.get_measure (s : State) (x : HsSample) {g : Field} (h : g.addr ∉ energyWords) : (s.measure x).get g = s.get g := by
  simp only [energyWords, List.mem_cons, List.not_mem_nil, or_false, not_or] at h
  obtain ⟨hAlo, hAhi, hBlo, hBhi⟩ := h
  exact (State.get_put64_other _ _ hBlo hBhi).trans (State.get_put64_other _ _ hAlo hAhi)

/-- Sampling counts the fault timer and shows it (R34, R35). -/
theorem State.hsSample_status (s : State) (x : HsSample) :
    (s.hsSample x).get Fld.PWR_HS_STATUS_STATE = s.get Fld.PWR_HS_STATUS_STATE ∧
      (s.hsSample x).get Fld.PWR_HS_STATUS_FT_COUNT = min (s.nextFtCount x) 0xFFFF ∧
      (s.hsSample x).get Fld.PWR_HS_STATUS_FT_RUN = bit (s.nextFtCount x != 0) ∧ (s.hsSample x).get Fld.PWR_HS_STATUS_ILIM_ACT = bit x.limiting := by
  unfold State.hsSample
  simp (disch := decide) only [State.get_raiseIf, State.puts_cons, State.puts_nil, State.get_put_clear, State.get_put_same, State.get_measure, State.get_mk]
  refine ⟨trivial, Nat.mod_eq_of_lt ?_, Nat.mod_eq_of_lt ?_, Nat.mod_eq_of_lt ?_⟩
  · exact Nat.lt_of_le_of_lt (Nat.min_le_right _ _) (by decide)
  · exact bit_lt_two _
  · exact bit_lt_two _

/-- The status register is written in every tick, so it is tidy after the sample. -/
theorem State.hsSample_tidyAt_status (s : State) (x : HsSample) : (s.hsSample x).TidyAt Addr.PWR_HS_STATUS := by
  have keep {t u : State} (h : Keeps [Fld.PWR_HS_STATUS_FT_COUNT] t u) (ht : t.TidyAt Addr.PWR_HS_STATUS) : u.TidyAt Addr.PWR_HS_STATUS :=
    (h _ List.mem_cons_self ht).1
  unfold State.hsSample
  simp only [State.puts_cons, State.puts_nil]
  exact keep (((((Keeps.refl _).put _ (by decide)).put _ (by decide)).put _ (by decide)).raiseIf _ (by decide)) (State.tidyAt_setWord_same _ _ _)

/-! ### What a tick leaves of the fault timer, in any state of the controller -/

theorem State.hsTick_eq (s : State) (x : HsSample) :
    ∃ c : Bool, s.hsTick x = ((s.hsSampled x).hsTransition (s.hsSampled x).hsCond).raiseIf c Evt.PWR_PG_DROP := ⟨_, rfl⟩

/-- The end of a command and the event of a lost power-good touch no register of the power page above its header. -/
theorem State.get_hsTick_settle (s : State) (x : HsSample) {g : Field} (h : g.addr ≠ 0x40040) (h' : g.addr ≠ 0x30040) :
    (s.hsTick x).settle.get g = ((s.hsSampled x).hsTransition (s.hsSampled x).hsCond).get g := by
  obtain ⟨c, hc⟩ := s.hsTick_eq x
  rw [State.get_settle _ h, hc, State.get_raiseIf _ h']

theorem State.hsTick_settle_hs (s : State) (x : HsSample) :
    (s.hsTick x).settle.hs = ((s.hsSampled x).hsTransition (s.hsSampled x).hsCond).hs := by
  obtain ⟨c, hc⟩ := s.hsTick_eq x
  simp [hc]

/-- A field that both halves of a tick keep reads after it as after the sample. -/
theorem State.get_hsTick_kept (s : State) (x : HsSample) {g : Field} (hs : g ∈ sampleKept) (ht : g ∈ transitionKept) (htidy : (s.hsSample x).TidyAt g.addr) :
    (s.hsTick x).settle.get g = (s.hsSample x).get g := by
  obtain ⟨htidy', hsampled⟩ := s.hsSampled_keeps x g hs htidy
  have haddr := addr_of_transitionKept ht
  rw [State.get_hsTick_settle _ _ (by omega) (by omega), ((s.hsSampled x).hsTransition_keeps _ g ht htidy').2, hsampled]

/-- A tick counts the fault timer up or down and shows it, whatever the state of the controller and the transition that follows (R35). -/
theorem State.hsTick_fault_timer (s : State) (x : HsSample) :
    (s.hsTick x).settle.get Fld.PWR_HS_STATUS_FT_COUNT = min (s.nextFtCount x) 0xFFFF ∧
      (s.hsTick x).settle.get Fld.PWR_HS_STATUS_FT_RUN = bit (s.nextFtCount x != 0) ∧
      (s.hsTick x).settle.get Fld.PWR_HS_STATUS_ILIM_ACT = bit x.limiting := by
  have htidy := s.hsSample_tidyAt_status x
  obtain ⟨-, hcount, hrun, hlim⟩ := s.hsSample_status x
  rw [State.get_hsTick_kept s x (by decide) (by decide) htidy, State.get_hsTick_kept s x (by decide) (by decide) htidy,
    State.get_hsTick_kept s x (by decide) (by decide) htidy]
  exact ⟨hcount, hrun, hlim⟩

/-- A tick leaves FAULT_TIME as it is, where its register is tidy. -/
theorem State.hsTick_faultTime {s : State} (x : HsSample) (h : s.TidyAt Addr.PWR_HS_CFG) :
    (s.hsTick x).settle.get Fld.PWR_HS_CFG_FAULT_TIME = s.get Fld.PWR_HS_CFG_FAULT_TIME := by
  obtain ⟨htidy, hsample⟩ := s.hsSample_keeps x _ List.mem_cons_self h
  rw [State.get_hsTick_kept s x (by decide) (by decide) htidy, hsample]

theorem State.hsTick_ftExpired {s : State} (x : HsSample) (h : s.TidyAt Addr.PWR_HS_CFG) :
    (s.hsTick x).settle.ftExpired = decide (100 * s.get Fld.PWR_HS_CFG_FAULT_TIME ≤ min (s.nextFtCount x) 0xFFFF) := by
  rw [State.ftExpired, State.hsTick_faultTime x h, (s.hsTick_fault_timer x).1]

/-! ### The transition of a tick in ON (R39) -/

theorem State.hsSampled_state (s : State) (x : HsSample) : (s.hsSampled x).get Fld.PWR_HS_STATUS_STATE = s.get Fld.PWR_HS_STATUS_STATE :=
  (s.hsSampled_keeps x _ (by decide) (s.hsSample_tidyAt_status x)).2.trans (s.hsSample_status x).1

theorem State.hsSampled_ftExpired {s : State} (x : HsSample) (h : s.TidyAt Addr.PWR_HS_CFG) :
    (s.hsSampled x).ftExpired = decide (100 * s.get Fld.PWR_HS_CFG_FAULT_TIME ≤ min (s.nextFtCount x) 0xFFFF) := by
  obtain ⟨htidy, hsample⟩ := s.hsSample_keeps x _ List.mem_cons_self h
  have hcount := (s.hsSampled_keeps x Fld.PWR_HS_STATUS_FT_COUNT (by decide) (s.hsSample_tidyAt_status x)).2
  have htime := (s.hsSampled_keeps x Fld.PWR_HS_CFG_FAULT_TIME (by decide) htidy).2
  rw [State.ftExpired, hcount, htime, hsample, (s.hsSample_status x).2.1]

theorem State.qualify_hs (s : State) (f : Feed) : (s.qualify f).hs = s.hs := by
  cases f <;> simp only [State.qualify] <;> split <;> simp

theorem State.disqualify_sample (s : State) (f : Feed) : (s.disqualify f).hs.smp = s.hs.smp ∧ (s.disqualify f).hs.severe = s.hs.severe := by
  cases f <;> simp only [State.disqualify] <;> split <;> simp

theorem State.feed_sample (s : State) (f : Feed) (lost good : Prop) [Decidable lost] [Decidable good] :
    (if lost then s.disqualify f else if good then s.qualify f else s).hs.smp = s.hs.smp ∧
      (if lost then s.disqualify f else if good then s.qualify f else s).hs.severe = s.hs.severe := by
  split
  · exact s.disqualify_sample f
  · split <;> simp [State.qualify_hs]

theorem State.hsFeeds_sample (s : State) (x : HsSample) : (s.hsFeeds x).hs.smp = s.hs.smp ∧ (s.hsFeeds x).hs.severe = s.hs.severe := by
  simp only [State.hsFeeds, State.feed_sample, and_self]

/-- The sample stands as taken when the transition is tested, and a severe overcurrent is as before. -/
theorem State.hsSampled_sample (s : State) (x : HsSample) : (s.hsSampled x).hs.smp = x ∧ (s.hsSampled x).hs.severe = s.hs.severe := by
  have hdead (t : State) : t.hsDeadTime.hs.smp = t.hs.smp ∧ t.hsDeadTime.hs.severe = t.hs.severe := by
    unfold State.hsDeadTime State.closeTarget
    split
    · split <;> simp
    · simp
  have hgood (t : State) : t.hsPowerGood.hs = t.hs := by
    unfold State.hsPowerGood
    dsimp only
    split <;> simp
  have hsample : (s.hsSample x).hs.smp = x ∧ (s.hsSample x).hs.severe = s.hs.severe := by
    simp [State.hsSample, State.measure]
  simpa only [State.hsSampled, hdead, State.hsFeeds_sample, hgood] using hsample

theorem State.hsTransition_on {s : State} (c : HsCond) (h : s.get Fld.PWR_HS_STATUS_STATE = 5) : s.hsTransition c =
    if c.seatLost then s.hsShutdown else if c.severe then s.hsFault 2 else if c.expired then s.hsFault 1 else if c.overTemp then s.hsFault 3
    else if c.busLow then s.hsFault 7 else if !s.qualified .a && !s.qualified .b then s.hsFault 5 else if c.switchDue then s.hsSwitch else s := by
  simp [State.hsTransition, h]

/-- The entry to FAULT opens the path (R40). -/
theorem State.hsFault_path (s : State) (cause : Nat) :
    (s.hsFault cause).get Fld.PWR_HS_STATUS_STATE = 7 ∧ (s.hsFault cause).hs.fetOn = false ∧ (s.hsFault cause).hs.convOn = false := by
  unfold State.hsFault State.hsGoto State.pathOff
  refine ⟨State.get_put_lit _ (by decide) (by decide), ?_, ?_⟩ <;> simp

theorem State.hsSwitch_state (s : State) : s.hsSwitch.get Fld.PWR_HS_STATUS_STATE = 6 := State.get_put_lit _ (by decide) (by decide)

/-- The transition that a tick makes in ON, seated and with no severe overcurrent (R39). -/
theorem State.hsTransition_sampled_on {s : State} {x : HsSample} (hon : s.get Fld.PWR_HS_STATUS_STATE = 5) (hsevere : s.hs.severe = false)
    (hseatL : x.seatL = true) (hseatR : x.seatR = true) : (s.hsSampled x).hsTransition (s.hsSampled x).hsCond =
      if (s.hsSampled x).ftExpired then (s.hsSampled x).hsFault 1 else if 214 < x.fetA ∨ 214 < x.fetB then (s.hsSampled x).hsFault 3
      else if x.bus < 11000 then (s.hsSampled x).hsFault 7
      else if !(s.hsSampled x).qualified .a && !(s.hsSampled x).qualified .b then (s.hsSampled x).hsFault 5
      else if (s.hsSampled x).switchDue then (s.hsSampled x).hsSwitch else s.hsSampled x := by
  obtain ⟨hsmp, hsev⟩ := s.hsSampled_sample x
  rw [State.hsTransition_on _ (by rw [State.hsSampled_state, hon])]
  simp [State.hsCond, hsmp, hsev, hseatL, hseatR, hsevere]

/-- The transition leaves the qualification of the feeds alone. -/
theorem State.hsTick_qualified (s : State) (x : HsSample) (f : Feed) : (s.hsTick x).settle.qualified f = (s.hsSampled x).qualified f := by
  have htidy : (s.hsSampled x).TidyAt Addr.PWR_HS_STATUS :=
    (s.hsSampled_keeps x Fld.PWR_HS_STATUS_FT_COUNT (by decide) (s.hsSample_tidyAt_status x)).1
  have hkept {g : Field} (hg : g ∈ transitionKept) (ha : g.addr = Addr.PWR_HS_STATUS) : (s.hsTick x).settle.get g = (s.hsSampled x).get g := by
    rw [State.get_hsTick_settle _ _ (by rw [ha]; decide) (by rw [ha]; decide), (State.hsTransition_keeps _ _ g hg (ha ▸ htidy)).2]
  cases f
  · simp only [State.qualified, State.flag, hkept (g := Fld.PWR_HS_STATUS_FEED_A_QUAL) (by decide) rfl]
  · simp only [State.qualified, State.flag, hkept (g := Fld.PWR_HS_STATUS_FEED_B_QUAL) (by decide) rfl]

/-! ### The command HS_TICK -/

/-- With the auxiliary rail up a tick answers the state that `State.hsTick` leaves, settled (R34). -/
theorem exec_hsTick_of_aux {x : HsSample} {s : State} (h : s.hs.auxUp = true) : exec (.hsTick x) s = .next (s.begin.hsTick x).settle := by
  have harm : exec (.hsTick x) s = execHsTick x s := rfl
  simp [harm, execHsTick, done, State.whenAux, h]

/-! ### The statement's clauses, where PWR_HS_CFG is tidy

The first two clauses of O53 hold in every state, the last two wherever the register of FAULT_TIME is not listed at its reset word: so in every state in canonical form
(`State.Canonical.tidyAt`). -/

/-- A tick in which the pass FET regulates at ILIM counts the fault timer up (R35). -/
theorem hsTick_limiting_counts_up {s : State} {x : HsSample} (haux : s.hs.auxUp = true) (hlim : x.limiting = true)
    (hmax : s.get Fld.PWR_HS_STATUS_FT_COUNT < 65535) : Answers (.hsTick x) s fun t =>
      t.get Fld.PWR_HS_STATUS_FT_COUNT = s.get Fld.PWR_HS_STATUS_FT_COUNT + 1 ∧ t.get Fld.PWR_HS_STATUS_FT_RUN = 1 ∧ t.get Fld.PWR_HS_STATUS_ILIM_ACT = 1 := by
  obtain ⟨hcount, hrun, hact⟩ := s.begin.hsTick_fault_timer x
  have hnext : s.begin.nextFtCount x = s.get Fld.PWR_HS_STATUS_FT_COUNT + 1 := by simp [State.nextFtCount, hlim]
  refine answers_of_eq (exec_hsTick_of_aux haux) ⟨?_, ?_, ?_⟩
  · rw [hcount, hnext]
    omega
  · simp [hrun, hnext]
  · simp [hact, hlim]

/-- A tick in which it does not counts the fault timer down, to no less than 0 (R35). -/
theorem hsTick_not_limiting_counts_down {s : State} {x : HsSample} (haux : s.hs.auxUp = true) (hlim : x.limiting = false) : Answers (.hsTick x) s fun t =>
    t.get Fld.PWR_HS_STATUS_FT_COUNT = s.get Fld.PWR_HS_STATUS_FT_COUNT - 1 ∧
      t.get Fld.PWR_HS_STATUS_FT_RUN = bit (s.get Fld.PWR_HS_STATUS_FT_COUNT - 1 != 0) ∧ t.get Fld.PWR_HS_STATUS_ILIM_ACT = 0 := by
  obtain ⟨hcount, hrun, hact⟩ := s.begin.hsTick_fault_timer x
  have hnext : s.begin.nextFtCount x = s.get Fld.PWR_HS_STATUS_FT_COUNT - 1 := by simp [State.nextFtCount, hlim]
  have hwidth : s.get Fld.PWR_HS_STATUS_FT_COUNT < 65536 := s.get_lt Fld.PWR_HS_STATUS_FT_COUNT
  refine answers_of_eq (exec_hsTick_of_aux haux) ⟨?_, ?_, ?_⟩
  · rw [hcount, hnext]
    omega
  · rw [hrun, hnext]
  · simp [hact, hlim]

section
variable {s : State} {x : HsSample} (haux : s.hs.auxUp = true) (htidy : s.TidyAt Addr.PWR_HS_CFG) (hon : s.get Fld.PWR_HS_STATUS_STATE = 5)
  (hsevere : s.hs.severe = false) (hseatL : x.seatL = true) (hseatR : x.seatR = true)
include haux htidy hon hsevere hseatL hseatR

/-- The tick in ON that brings the fault timer to FAULT_TIME ends in FAULT with the path off (R35, R39, R40). -/
theorem hsTick_expiry_enters_fault (hlim : x.limiting = true) (hmax : s.get Fld.PWR_HS_STATUS_FT_COUNT < 65535)
    (hdue : 100 * s.get Fld.PWR_HS_CFG_FAULT_TIME ≤ s.get Fld.PWR_HS_STATUS_FT_COUNT + 1) :
    Answers (.hsTick x) s fun t => t.ftExpired = true ∧ t.get Fld.PWR_HS_STATUS_STATE = 7 ∧ t.hs.fetOn = false ∧ t.hs.convOn = false := by
  have htidy' : s.begin.TidyAt Addr.PWR_HS_CFG := State.tidyAt_congr (by simp) htidy
  have hdue' : 100 * s.begin.get Fld.PWR_HS_CFG_FAULT_TIME ≤ min (s.begin.nextFtCount x) 0xFFFF := by
    simp only [State.nextFtCount, hlim, if_true, State.get_begin]
    omega
  have hexpired : (s.begin.hsSampled x).ftExpired = true := by rw [State.hsSampled_ftExpired x htidy', decide_eq_true hdue']
  have hfault : (s.begin.hsSampled x).hsTransition (s.begin.hsSampled x).hsCond = (s.begin.hsSampled x).hsFault 1 := by
    rw [State.hsTransition_sampled_on (by simpa using hon) (by simpa using hsevere) hseatL hseatR, if_pos hexpired]
  obtain ⟨hstate, hfet, hconv⟩ := (s.begin.hsSampled x).hsFault_path 1
  refine answers_of_eq (exec_hsTick_of_aux haux) ⟨?_, ?_, ?_, ?_⟩
  · rw [State.hsTick_ftExpired x htidy', decide_eq_true hdue']
  · rw [State.get_hsTick_settle _ _ (by decide) (by decide), hfault, hstate]
  · rw [State.hsTick_settle_hs, hfault, hfet]
  · rw [State.hsTick_settle_hs, hfault, hconv]

/-- A tick in ON that leaves the fault timer below FAULT_TIME, with no other failure, stays in ON or switches feeds, or no feed is qualified (R35, R39). -/
theorem hsTick_before_expiry_stays_powered (hbefore : s.get Fld.PWR_HS_STATUS_FT_COUNT + 1 < 100 * s.get Fld.PWR_HS_CFG_FAULT_TIME) (hfetA : x.fetA ≤ 214)
    (hfetB : x.fetB ≤ 214) (hbus : 11000 ≤ x.bus) : Answers (.hsTick x) s fun t =>
      t.ftExpired = false ∧ (t.get Fld.PWR_HS_STATUS_STATE = 5 ∨ t.get Fld.PWR_HS_STATUS_STATE = 6 ∨ t.qualified s.selected = false) := by
  have htidy' : s.begin.TidyAt Addr.PWR_HS_CFG := State.tidyAt_congr (by simp) htidy
  have hnext : s.begin.nextFtCount x ≤ s.get Fld.PWR_HS_STATUS_FT_COUNT + 1 := by
    simp only [State.nextFtCount, State.get_begin]
    split <;> omega
  have hbefore' : ¬ 100 * s.begin.get Fld.PWR_HS_CFG_FAULT_TIME ≤ min (s.begin.nextFtCount x) 0xFFFF := by
    rw [State.get_begin]
    omega
  have hrunning : (s.begin.hsSampled x).ftExpired = false := by rw [State.hsSampled_ftExpired x htidy', decide_eq_false hbefore']
  have htrans := State.hsTransition_sampled_on (s := s.begin) (x := x) (by simpa using hon) (by simpa using hsevere) hseatL hseatR
  rw [if_neg (by simp [hrunning]), if_neg (by omega), if_neg (by omega)] at htrans
  refine answers_of_eq (exec_hsTick_of_aux haux) ⟨?_, ?_⟩
  · rw [State.hsTick_ftExpired x htidy', decide_eq_false hbefore']
  · rw [State.get_hsTick_settle _ _ (by decide) (by decide), State.hsTick_qualified, htrans]
    by_cases hnone : (!(s.begin.hsSampled x).qualified .a && !(s.begin.hsSampled x).qualified .b) = true
    · refine .inr (.inr ?_)
      obtain ⟨hA, hB⟩ := Bool.and_eq_true_iff.mp hnone
      cases s.selected
      · simpa using hA
      · simpa using hB
    · rw [if_neg hnone]
      split
      · exact .inr (.inl (State.hsSwitch_state _))
      · exact .inl (by rw [State.hsSampled_state, State.get_begin, hon])

end

/-! ### The refutation: a state that lists PWR_HS_CFG twice -/

/-- A state outside the canonical form: PWR_HS_CFG is listed twice, first at its reset word (FAULT_TIME 50), behind it with FAULT_TIME 255. The module is in ON and the fault
timer stands one tick before its end. -/
def faultTimeListedTwice : State :=
  ({ State.reset with regs := [(Addr.PWR_HS_CFG, 0x32AA), (Addr.PWR_HS_CFG, 0xFFAA)] } : State).put Fld.PWR_HS_STATUS_FT_COUNT 4999

/-- A tick in which the pass FET regulates at ILIM and nothing else is wrong. -/
def limitingSample : HsSample := { HsSample.nominal with limiting := true }

/-- The state of `faultTimeListedTwice` meets what the third clause of the statement asks of it. -/
theorem faultTimeListedTwice_due :
    faultTimeListedTwice.hs.auxUp = true ∧ faultTimeListedTwice.get Fld.PWR_HS_STATUS_STATE = 5 ∧ faultTimeListedTwice.hs.severe = false ∧
      faultTimeListedTwice.get Fld.PWR_HS_STATUS_FT_COUNT = 4999 ∧ faultTimeListedTwice.get Fld.PWR_HS_CFG_FAULT_TIME = 50 := by
  decide +kernel

/-- The tick takes the module to FAULT, and the fabric reset of the stop drops the entry at the reset word, so that the limit of the second one shows. -/
theorem faultTimeListedTwice_tick : ((faultTimeListedTwice.begin.hsTick limitingSample).settle).ftExpired = false := by
  decide +kernel

/-- Refutes O53: its third clause fails where the register space lists PWR_HS_CFG twice. The stop on the entry to FAULT drops the entry that stands at the reset word, the
second one shows, and the count no longer reaches FAULT_TIME. -/
theorem not_faultTimer : ¬ Obligations.FaultTimer := by
  unfold Obligations.FaultTimer
  intro h
  obtain ⟨haux, hstate, hsevere, hcount, htime⟩ := faultTimeListedTwice_due
  obtain ⟨-, -, hexpires, -⟩ := h faultTimeListedTwice haux
  obtain ⟨t, ht, hexp, -⟩ := hexpires limitingSample hstate hsevere rfl rfl rfl (by omega) (by omega)
  obtain rfl : (faultTimeListedTwice.begin.hsTick limitingSample).settle = t := by simpa [exec_hsTick_of_aux haux] using ht
  simp [faultTimeListedTwice_tick] at hexp

end Sys2Proof.Machine
end

section
/-! PROOFS. The journal, its ACK and its resend (O54, R322).

O54 speaks of every state, those whose journal holds a SEQ wider than the 32 bits of the wire among them, and there its third clause fails: a record 2^32 above ACKSEQ passes
for one after ACKSEQ, and for one not due to be sent from ACKSEQ + 1 on. The other clauses hold in every state, and the third wherever the SEQs of the journal are 32 bits wide,
as records are issued (`State.SeqsFit.appendOne`). -/
namespace Sys2Proof.Machine
open Sys2Proof

/-! ### Serial numbers -/

/-- Of 32-bit SEQs, none after b is before b + 1: what is above ACKSEQ is due from ACKSEQ + 1 on. -/
theorem seqAfter_succ_of_seqAfter {x b : Nat} (hx : x < 2 ^ 32) (hb : b < 2 ^ 32) (h : seqAfter x b = true) : seqAfter ((b + 1) % 2 ^ 32) x = false := by
  obtain ⟨hne, hnear⟩ : x ≠ b ∧ (x + 2 ^ 32 - b) % 2 ^ 32 < 2 ^ 31 := by simpa [seqAfter] using h
  by_cases hsucc : (b + 1) % 2 ^ 32 = x
  · simp only [seqAfter, bne_eq_false_iff_eq.mpr hsucc, Bool.false_and]
  · have hfar : ¬ ((b + 1) % 2 ^ 32 + 2 ^ 32 - x) % 2 ^ 32 < 2 ^ 31 := by omega
    simp only [seqAfter, decide_eq_false hfar, Bool.and_false]

/-! ### Credits -/

/-- Sending n frames takes no more than n credits. -/
theorem Pair.hasCredit_after_send {p q : Pair} {n m : Nat} (hsent : q.sent = (p.sent + n) % 65536) (hcret : q.cretIn = p.cretIn) (hpeer : q.peerCredits = p.peerCredits)
    (h : p.hasCredit (n + m) = true) : q.hasCredit m = true := by
  simp only [Pair.hasCredit, decide_eq_true_eq] at h ⊢
  rw [hsent, hcret, hpeer]
  omega

theorem Pair.hasCredit_of_le {p : Pair} {n m : Nat} (hnm : n ≤ m) (h : p.hasCredit m = true) : p.hasCredit n = true := by
  simp only [Pair.hasCredit, decide_eq_true_eq] at h ⊢
  omega

/-! ### One record goes out whole -/

/-- The state after one record has gone out whole: its frames are counted, it is put out, and the journal holds it as sent. -/
def State.sendRecord (s : State) (r : Rec) : State :=
  ((s.sendFrames (framesOf r.body.length)).emit (.rec_ s.fab.pair.restartNext { r with sent := true })).modPair fun p =>
    { p with restartNext := false, part := 0, journal := p.journal.map fun x => if x.seq = r.seq then { x with sent := true } else x }

/-- A record not yet sent, no frame of which has gone out, is sent whole where the link is up and credits allow it. -/
theorem State.pumpRecords_cons_of_credit {s : State} {r : Rec} (rest : List Rec) (hup : s.streamUp = true) (hpart : s.fab.pair.part = 0) (hunsent : r.sent = false)
    (hcredit : s.fab.pair.hasCredit (framesOf r.body.length) = true) : s.pumpRecords (r :: rest) = (s.sendRecord r).pumpRecords rest := by
  have hsend : s.canSend (framesOf r.body.length) = true := by
    rw [State.canSend, hcredit, Bool.and_true]
    exact hup
  simp [State.pumpRecords, hunsent, hpart, hsend, State.sendRecord]

@[simp] theorem State.sendFrames_pair (s : State) (n : Nat) : (s.sendFrames n).fab.pair = { s.fab.pair with sent := (s.fab.pair.sent + n) % 65536 } := by
  simp [State.sendFrames]

@[simp] theorem State.get_sendFrames (s : State) (n : Nat) (g : Field) : (s.sendFrames n).get g = s.get g := by
  simp [State.sendFrames]

@[simp] theorem State.sendFrames_out (s : State) (n : Nat) : (s.sendFrames n).out = s.out := by
  simp [State.sendFrames]

/-- Only the counts of frames sent change (R313). -/
theorem State.counter_sendFrames (s : State) (n : Nat) {c : Nat} (h0 : c ≠ Ctr.PAIR 0 0) (h1 : c ≠ Ctr.PAIR 0 1) : (s.sendFrames n).counter c = s.counter c := by
  rw [State.sendFrames, State.counter_count_other _ _ h1, State.counter_count_other _ _ h0]
  exact State.counter_congr (by simp) c

section
variable (s : State) (r : Rec)

@[simp] theorem State.sendRecord_streamUp : (s.sendRecord r).streamUp = s.streamUp := by
  simp [State.sendRecord, State.streamUp]

@[simp] theorem State.sendRecord_out : (s.sendRecord r).out = s.out ++ [.rec_ s.fab.pair.restartNext { r with sent := true }] := by
  simp [State.sendRecord]

@[simp] theorem State.sendRecord_restartNext : (s.sendRecord r).fab.pair.restartNext = false := rfl

@[simp] theorem State.sendRecord_part : (s.sendRecord r).fab.pair.part = 0 := rfl

@[simp] theorem State.sendRecord_journal :
    (s.sendRecord r).fab.pair.journal = s.fab.pair.journal.map fun x => if x.seq = r.seq then { x with sent := true } else x := rfl

theorem State.counter_sendRecord {c : Nat} (h0 : c ≠ Ctr.PAIR 0 0) (h1 : c ≠ Ctr.PAIR 0 1) : (s.sendRecord r).counter c = s.counter c := by
  rw [State.sendRecord, State.counter_congr (by simp : _ = (s.sendFrames (framesOf r.body.length)).ctrs), State.counter_sendFrames s _ h0 h1]

theorem State.sendRecord_hasCredit {m : Nat} (h : s.fab.pair.hasCredit (framesOf r.body.length + m) = true) : (s.sendRecord r).fab.pair.hasCredit m = true :=
  Pair.hasCredit_after_send rfl rfl rfl h

end

/-! ### Records go out one after the other -/

/-- MIRROR frames that the records of a list take (R319). -/
def framesOfAll (l : List Rec) : Nat := (l.map fun x => framesOf x.body.length).sum

/-- With credits for all of them, records not yet sent go out one after the other. -/
theorem State.pumpRecords_of_credit (l : List Rec) : ∀ s : State, s.streamUp = true → s.fab.pair.part = 0 → (∀ r ∈ l, r.sent = false) →
    s.fab.pair.hasCredit (framesOfAll l) = true → s.pumpRecords l = l.foldl State.sendRecord s := by
  induction l with
  | nil => intro s _ _ _ _; rfl
  | cons r rest ih =>
    intro s hup hpart hunsent hcredit
    have hcredit' : s.fab.pair.hasCredit (framesOf r.body.length + framesOfAll rest) = true := by simpa [framesOfAll] using hcredit
    rw [State.pumpRecords_cons_of_credit rest hup hpart (hunsent r List.mem_cons_self) (Pair.hasCredit_of_le (Nat.le_add_right _ _) hcredit'), List.foldl_cons]
    exact ih _ (by simpa using hup) (by simp) (fun x hx => hunsent x (List.mem_cons_of_mem _ hx)) (s.sendRecord_hasCredit r hcredit')

/-- Records already sent are not sent again. -/
theorem State.pumpRecords_of_sent (l : List Rec) (s : State) (h : ∀ r ∈ l, r.sent = true) : s.pumpRecords l = s := by
  induction l with
  | nil => rfl
  | cons r rest ih =>
    rw [State.pumpRecords, if_pos (h r List.mem_cons_self)]
    exact ih fun x hx => h x (List.mem_cons_of_mem _ hx)

/-- With no ACK and no RESEND due, only records are sent. -/
theorem State.pump_of_nothing_due {s : State} (hack : s.fab.pair.ackDue = false) (hreq : s.fab.pair.reqDue = false) : s.pump = s.pumpRecords s.fab.pair.journal := by
  simp [State.pump, hack, hreq]

theorem State.foldl_sendRecord_out (l : List Rec) : ∀ s : State, s.fab.pair.restartNext = false →
    (l.foldl State.sendRecord s).out = s.out ++ l.map fun x => .rec_ false { x with sent := true } := by
  induction l with
  | nil => intro s _; simp
  | cons r rest ih =>
    intro s hrestart
    rw [List.foldl_cons, ih _ (by simp)]
    simp [hrestart]

theorem State.foldl_sendRecord_journal (l : List Rec) : ∀ s : State,
    (l.foldl State.sendRecord s).fab.pair.journal = s.fab.pair.journal.map fun x => if ∃ r ∈ l, x.seq = r.seq then { x with sent := true } else x := by
  induction l with
  | nil => intro s; simp
  | cons r rest ih =>
    intro s
    rw [List.foldl_cons, ih, State.sendRecord_journal, List.map_map]
    refine List.map_congr_left fun x _ => ?_
    by_cases hr : x.seq = r.seq <;> simp [hr]

theorem State.counter_foldl_sendRecord {c : Nat} (h0 : c ≠ Ctr.PAIR 0 0) (h1 : c ≠ Ctr.PAIR 0 1) (l : List Rec) :
    ∀ s : State, (l.foldl State.sendRecord s).counter c = s.counter c := by
  induction l with
  | nil => intro s; rfl
  | cons r rest ih =>
    intro s
    rw [List.foldl_cons, ih, State.counter_sendRecord s r h0 h1]

/-! ### The resend (R322, R323) -/

/-- The state in which a resend of the whole journal begins: each record is due again, RESTART goes with the first, and the records are counted. -/
def State.rewound (s : State) : State :=
  (s.modPair fun p => { p with journal := p.journal.map fun r => { r with sent := false }, restartNext := true, part := 0 }).count (Ctr.PAIR 0 4) s.fab.pair.journal.length

/-- The whole journal sent again, record by record. -/
def State.resent (s : State) : State := (s.fab.pair.journal.map fun x => { x with sent := false }).foldl State.sendRecord s.rewound

/-- Where every record of the journal is due from SEQ a on, and credits allow all of them, the resend from a sends the whole journal again. -/
theorem State.resendFrom_of_all_due {s : State} {a : Nat} (hdue : ∀ x ∈ s.fab.pair.journal, seqAfter a x.seq = false) (hup : s.streamUp = true)
    (hack : s.fab.pair.ackDue = false) (hreq : s.fab.pair.reqDue = false) (hcredit : s.fab.pair.hasCredit (framesOfAll s.fab.pair.journal) = true) :
    s.resendFrom a = s.resent := by
  have hall : s.fab.pair.journal.filter (fun r => !seqAfter a r.seq) = s.fab.pair.journal := List.filter_eq_self.mpr fun x hx => by simp [hdue x hx]
  have hmarked : (s.fab.pair.journal.map fun r => { r with sent := !!seqAfter a r.seq }) = s.fab.pair.journal.map fun r => { r with sent := false } :=
    List.map_congr_left fun x hx => by simp [hdue x hx]
  have hpair : s.resendFrom a = s.rewound.pump := by
    simp only [State.resendFrom, State.rewound, State.modPair, hall, hmarked]
  have hjournal : s.rewound.fab.pair.journal = s.fab.pair.journal.map fun x => { x with sent := false } := by simp [State.rewound]
  have hframes : framesOfAll (s.fab.pair.journal.map fun x => { x with sent := false }) = framesOfAll s.fab.pair.journal := by simp [framesOfAll, Function.comp_def]
  rw [hpair, State.pump_of_nothing_due (by simpa [State.rewound] using hack) (by simpa [State.rewound] using hreq), hjournal]
  refine State.pumpRecords_of_credit _ _ (by simpa [State.rewound, State.streamUp] using hup) (by simp [State.rewound]) (by simp) ?_
  rw [hframes]
  simpa [State.rewound, Pair.hasCredit] using hcredit

theorem Frame.sendRecord {ps : List Part} {fs : List Field} {s t : State} (h : Frame ps fs s t) (r : Rec) (hp : ∀ p ∈ [Part.pair, .ctrs, .out], p ∈ ps) :
    Frame ps fs s (t.sendRecord r) :=
  ((((h.modPair _ (hp _ (by decide))).count _ _ (hp _ (by decide))).count _ _ (hp _ (by decide))).emit _ (hp _ (by decide))).modPair _ (hp _ (by decide))

theorem Frame.rewound {ps : List Part} {fs : List Field} {s t : State} (h : Frame ps fs s t) (hp : ∀ p ∈ [Part.pair, .ctrs, .out], p ∈ ps) : Frame ps fs s t.rewound :=
  (h.modPair _ (hp _ (by decide))).count _ _ (hp _ (by decide))

theorem Frame.resent {ps : List Part} {fs : List Field} {s t : State} (h : Frame ps fs s t) (hp : ∀ p ∈ [Part.pair, .ctrs, .out], p ∈ ps) : Frame ps fs s t.resent :=
  Frame.foldl _ (fun r h => h.sendRecord r hp) _ (h.rewound hp)

/-- The records go out in order, the first in a RESTART frame. -/
theorem State.resent_out {s : State} {r : Rec} {rest : List Rec} (h : s.fab.pair.journal = r :: rest) :
    s.resent.out = s.out ++ .rec_ true { r with sent := true } :: rest.map fun x => .rec_ false { x with sent := true } := by
  rw [State.resent, h, List.map_cons, List.foldl_cons, State.foldl_sendRecord_out _ _ (by simp)]
  simp [State.rewound, Function.comp_def]

theorem State.resent_journal (s : State) : s.resent.fab.pair.journal = s.fab.pair.journal.map fun x => { x with sent := true } := by
  have hrewound : s.rewound.fab.pair.journal = s.fab.pair.journal.map fun x => { x with sent := false } := by simp [State.rewound]
  rw [State.resent, State.foldl_sendRecord_journal, hrewound, List.map_map]
  exact List.map_congr_left fun x hx => if_pos ⟨_, List.mem_map_of_mem hx, rfl⟩

theorem State.counter_resent (s : State) : s.resent.counter (Ctr.PAIR 0 4) = s.counter (Ctr.PAIR 0 4) + BitVec.ofNat 64 s.fab.pair.journal.length := by
  rw [State.resent, State.counter_foldl_sendRecord (by decide) (by decide), State.rewound, State.counter_count_same, State.counter_congr (State.modPair_ctrs _ _)]

/-! ### The width of the SEQs in the journal -/

/-- The SEQs of the journal are 32 bits wide, as on the wire (R320). -/
def State.SeqsFit (s : State) : Prop := ∀ x ∈ s.fab.pair.journal, x.seq < 2 ^ 32

theorem State.seqsFit_congr {s t : State} (h : t.fab.pair.journal = s.fab.pair.journal) (hs : s.SeqsFit) : t.SeqsFit := by
  rwa [State.SeqsFit, h]

/-- What changes its records but not their SEQs keeps the journal's SEQs at their width. -/
theorem State.seqsFit_map {s t : State} {f : Rec → Rec} (h : t.fab.pair.journal = s.fab.pair.journal.map f) (hf : ∀ x, (f x).seq = x.seq) (hs : s.SeqsFit) :
    t.SeqsFit := by
  intro x hx
  obtain ⟨y, hy, rfl⟩ := List.mem_map.mp (h ▸ hx)
  exact hf y ▸ hs y hy

theorem State.SeqsFit.pumpRecords (l : List Rec) : ∀ {s : State}, s.SeqsFit → (s.pumpRecords l).SeqsFit := by
  induction l with
  | nil => intro s h; exact h
  | cons r rest ih =>
    intro s h
    simp only [State.pumpRecords]
    split
    · exact ih h
    · split
      · exact ih (State.seqsFit_map (f := fun x => if x.seq = r.seq then { x with sent := true } else x) (by simp) (fun x => by split <;> rfl) h)
      · split
        · exact State.seqsFit_congr (by simp) h
        · exact h

theorem State.SeqsFit.pump {s : State} (h : s.SeqsFit) : s.pump.SeqsFit := by
  unfold State.pump
  apply State.SeqsFit.pumpRecords
  refine State.seqsFit_congr ?_ h
  split <;> split <;> simp

/-- A record that is issued takes a SEQ of 32 bits. -/
theorem State.SeqsFit.appendOne {s : State} (h : s.SeqsFit) (region : Nat) (b : RecBody) : (s.appendOne region b).SeqsFit := by
  have hlt : (s.get Fld.TDM_HSEQ_SEQ + 1) % 2 ^ 32 < 2 ^ 32 := Nat.mod_lt _ (Nat.two_pow_pos _)
  unfold State.appendOne
  apply State.SeqsFit.pump
  intro x hx
  have hx : x ∈ s.fab.pair.journal ∨ x = ⟨(s.get Fld.TDM_HSEQ_SEQ + 1) % 2 ^ 32, region, b, false⟩ := by
    simpa [State.showFill, apply_ite State.fab] using hx
  rcases hx with hx | rfl
  · exact h x hx
  · exact hlt

/-- A state whose frame does not list the fabric has the home's directory as it was. -/
theorem Frame.home_dir {ps : List Part} {fs : List Field} {s t : State} (h : Frame ps fs s t) (hfab : Part.fab ∉ ps) : t.fab.home.dir = s.fab.home.dir :=
  congrArg (·.home.dir) (h.1 .fab hfab)

/-! ### The commands REC_ACK and ACK_TIMEOUT -/

theorem State.streams_of_role {s : State} (h : s.role = 2 ∨ s.role = 3) : s.streams = true := by
  rcases h with h | h <;> simp [State.streams, h]

/-- With no region under bulk resynchronization there is none to go on with (R325). -/
theorem State.resync_of_no_bulk {s : State} (h : s.fab.pair.bulk = none) : s.resync = s := by
  have hstep : s.bulkStep = none := by simp [State.bulkStep, h]
  show State.resyncSteps (255 + 1) s = s
  simp only [State.resyncSteps, hstep]

/-- The journal is freed up to SEQ a, which is the new ACKSEQ, and its fill is shown (R322). -/
def State.freed (s : State) (a : Nat) : State :=
  ((s.put Fld.TDM_ACKSEQ_SEQ a).modPair fun p => { p with journal := p.journal.filter fun r => seqAfter r.seq a }).showFill

@[simp] theorem State.freed_pair (s : State) (a : Nat) :
    (s.freed a).fab.pair = { s.fab.pair with journal := s.fab.pair.journal.filter fun r => seqAfter r.seq a } := by
  simp [State.freed, State.showFill]

theorem State.get_freed_ackseq (s : State) {a : Nat} (ha : a < 2 ^ 32) : (s.freed a).get Fld.TDM_ACKSEQ_SEQ = a := by
  rw [State.freed, State.showFill, State.get_put_addr _ _ (by decide), State.get_modPair, State.get_put_lit _ (by decide) ha]

theorem Frame.freed {s t : State} (h : Frame [.pair] [Fld.TDM_ACKSEQ_SEQ, Fld.TDM_JFILL_KIB] s t) (a : Nat) :
    Frame [.pair] [Fld.TDM_ACKSEQ_SEQ, Fld.TDM_JFILL_KIB] s (t.freed a) :=
  ((h.put _ (by decide)).modPair _ (by decide)).put _ (by decide)

/-- With nothing else due and every record sent, freeing the journal sends nothing. -/
theorem State.freed_pump_resync {s : State} {a : Nat} (hack : s.fab.pair.ackDue = false) (hreq : s.fab.pair.reqDue = false) (hbulk : s.fab.pair.bulk = none)
    (hsent : ∀ r ∈ s.fab.pair.journal, r.sent = true) : (s.freed a).pump.resync = s.freed a := by
  have hpump : (s.freed a).pump = s.freed a := by
    rw [State.pump_of_nothing_due (by simpa using hack) (by simpa using hreq)]
    refine State.pumpRecords_of_sent _ _ fun r hr => ?_
    rw [State.freed_pair] at hr
    exact hsent r (List.mem_of_mem_filter hr)
  rw [hpump, State.resync_of_no_bulk (by simpa using hbulk)]

@[simp] theorem State.streams_begin (s : State) : s.begin.streams = s.streams := by simp [State.streams]
@[simp] theorem State.streamUp_begin (s : State) : s.begin.streamUp = s.streamUp := by simp [State.streamUp]
@[simp] theorem State.hasStandby_begin (s : State) : s.begin.hasStandby = s.hasStandby := by simp [State.hasStandby, State.partner]

/-- What REC_ACK does of itself. -/
def ackEffect (a : Nat) (s : State) : State :=
  if s.streams && s.streamUp && seqAfter a (s.get Fld.TDM_ACKSEQ_SEQ) && !seqAfter a (s.get Fld.TDM_HSEQ_SEQ) then (s.freed a).pump.resync else s

/-- What ACK_TIMEOUT does of itself. -/
def timeoutEffect (s : State) : State :=
  if s.streams && s.streamUp && s.hasStandby && !s.fab.pair.journal.isEmpty then s.resendFrom ((s.get Fld.TDM_ACKSEQ_SEQ + 1) % 2 ^ 32) else s

theorem exec_recAck (a me : Word) (s : State) : exec (.recAck a me) s = done (s.begin.whenFabric (ackEffect a.toNat)) := rfl

theorem exec_ackTimeout (s : State) : exec .ackTimeout s = done (s.begin.whenFabric timeoutEffect) := rfl

/-- A fabric command that has no effect of its own leaves all as it is. -/
theorem answers_whenFabric_self {c : Instr} {s : State} {f : State → State} (hexec : exec c s = done (s.begin.whenFabric f)) (hruns : s.fabricRuns = true)
    (hf : f s.begin = s.begin) : Answers c s fun t => Frame [] [] s t := by
  have hframe : Frame [] [] s (f s.begin) := by
    rw [hf]
    exact Frame.begin s
  exact answers_of_eq (hexec.trans (done_whenFabric_frame hruns hframe (by simp) (hframe.home_dir (by simp)))) hframe.settle

/-! ### The statement's clauses -/

section
variable {s : State} (hruns : s.fabricRuns = true) (hrole : s.role = 2 ∨ s.role = 3) (hup : s.streamUp = true) (hack : s.fab.pair.ackDue = false)
  (hreq : s.fab.pair.reqDue = false)

include hruns hrole hup hack hreq in
/-- An ACK between ACKSEQ and HSEQ is the new ACKSEQ, and frees the journal up to it (R322). -/
theorem recAck_frees_journal {a : Word} (me : Word) (hbulk : s.fab.pair.bulk = none) (habove : seqAfter a.toNat (s.get Fld.TDM_ACKSEQ_SEQ) = true)
    (hbelow : seqAfter a.toNat (s.get Fld.TDM_HSEQ_SEQ) = false) (hsent : (s.fab.pair.journal.all fun r => r.sent) = true) :
    Answers (.recAck a me) s fun t => t.get Fld.TDM_ACKSEQ_SEQ = a.toNat ∧ (t.fab.pair.journal = s.fab.pair.journal.filter fun r => seqAfter r.seq a.toNat) ∧
      Frame [.pair] [Fld.TDM_ACKSEQ_SEQ, Fld.TDM_JFILL_KIB] s t := by
  have heffect : ackEffect a.toNat s.begin = s.begin.freed a.toNat := by
    rw [ackEffect, if_pos (by simp [State.streams_of_role hrole, hup, habove, hbelow])]
    exact State.freed_pump_resync (by simpa using hack) (by simpa using hreq) (by simpa using hbulk) (by simpa using hsent)
  have hframe : Frame [.pair] [Fld.TDM_ACKSEQ_SEQ, Fld.TDM_JFILL_KIB] s (ackEffect a.toNat s.begin) := heffect ▸ (Frame.begin s).freed a.toNat
  refine answers_of_eq ((exec_recAck a me s).trans (done_whenFabric_frame hruns hframe (by decide) (hframe.home_dir (by decide)))) ⟨?_, ?_, hframe.settle⟩
  · rw [State.get_settle _ (by decide), heffect, State.get_freed_ackseq _ a.isLt]
  · simp [heffect]

include hruns in
/-- An ACK not above ACKSEQ, or above HSEQ, is ignored. -/
theorem recAck_out_of_range_ignored {a : Word} (me : Word) (h : seqAfter a.toNat (s.get Fld.TDM_ACKSEQ_SEQ) = false ∨ seqAfter a.toNat (s.get Fld.TDM_HSEQ_SEQ) = true) :
    Answers (.recAck a me) s fun t => Frame [] [] s t := by
  refine answers_whenFabric_self (exec_recAck a me s) hruns (if_neg ?_)
  rcases h with h | h <;> simp [h]

include hruns in
/-- With the journal empty there is nothing to send again. -/
theorem ackTimeout_of_empty_journal (h : s.fab.pair.journal = []) : Answers .ackTimeout s fun t => Frame [] [] s t :=
  answers_whenFabric_self (exec_ackTimeout s) hruns (if_neg (by simp [h]))

include hruns hrole hup hack hreq in
/-- After ACK_TO with no progress every record of the journal is sent again in order, the first in a RESTART frame, where their SEQs are 32 bits wide (R322). -/
theorem ackTimeout_resends_journal {r : Rec} {rest : List Rec} (hstandby : s.hasStandby = true) (hjournal : s.fab.pair.journal = r :: rest)
    (hfit : s.SeqsFit) (habove : ∀ x ∈ r :: rest, seqAfter x.seq (s.get Fld.TDM_ACKSEQ_SEQ) = true)
    (hcredit : s.fab.pair.hasCredit (framesOfAll (r :: rest)) = true) :
    Answers .ackTimeout s fun t => (t.out = .rec_ true { r with sent := true } :: rest.map fun x => .rec_ false { x with sent := true }) ∧
      (t.fab.pair.journal = (r :: rest).map fun x => { x with sent := true }) ∧
      t.counter (Ctr.PAIR 0 4) = s.counter (Ctr.PAIR 0 4) + BitVec.ofNat 64 (rest.length + 1) ∧ t.get Fld.TDM_ACKSEQ_SEQ = s.get Fld.TDM_ACKSEQ_SEQ ∧
      Frame [.pair, .ctrs, .out] [] s t := by
  have hdue : ∀ x ∈ s.begin.fab.pair.journal, seqAfter ((s.get Fld.TDM_ACKSEQ_SEQ + 1) % 2 ^ 32) x.seq = false := by
    intro x hx
    rw [State.begin_fab] at hx
    exact seqAfter_succ_of_seqAfter (hfit x hx) (s.get_lt Fld.TDM_ACKSEQ_SEQ) (habove x (hjournal ▸ hx))
  have heffect : timeoutEffect s.begin = s.begin.resent := by
    rw [timeoutEffect, if_pos (by simp [State.streams_of_role hrole, hup, hstandby, hjournal]), State.get_begin]
    exact State.resendFrom_of_all_due hdue (by simpa using hup) (by simpa using hack) (by simpa using hreq) (by simpa [hjournal] using hcredit)
  have hframe : Frame [.pair, .ctrs, .out] [] s (timeoutEffect s.begin) := heffect ▸ (Frame.begin s).resent fun _ h => h
  refine answers_of_eq ((exec_ackTimeout s).trans (done_whenFabric_frame hruns hframe (by simp) (hframe.home_dir (by decide)))) ⟨?_, ?_, ?_, ?_, hframe.settle⟩
  · rw [State.settle_out, heffect, State.resent_out (by simpa using hjournal), State.begin_out, List.nil_append]
  · rw [State.settle_fab, heffect, State.resent_journal, State.begin_fab, hjournal]
  · rw [State.counter_congr (State.settle_ctrs _), heffect, State.counter_resent, State.begin_fab, hjournal, State.counter_congr (State.begin_ctrs s), List.length_cons]
  · exact hframe.settle.2 _ (by decide) (.inl (by decide)) (by simp)

end

/-! ### The refutation: a record whose SEQ is wider than 32 bits -/

/-- A record with SEQ 2^32, which no stream holds: it passes for one after SEQ 0, and for one before SEQ 1. -/
def wideRecord : Rec := ⟨2 ^ 32, 16, .reg 0x6000000 [1], true⟩

/-- The last block of a partner in STANDBY. -/
def standbyBlock : WBlock :=
  { state := 5, strap := true, modId := 1, msg := 0, hseq := 0, low := 0, rmask := 0, rsync := 0, tsTx := 0, echoTx := 0, echoRx := 0 }

/-- An active module in ACTIVE_PAIRED, the Tandem link UP, with credits and a standby, ACKSEQ 0, whose journal holds `wideRecord` alone. -/
def wideJournal : State :=
  (({ State.reset with clk := { Clk.reset with mgmtUp := true, fabricHeld := false } } : State).puts
    [(Fld.TDM_ROLE_STATE, 3), (Fld.TDM_LINK_STATE, 3), (Fld.TDM_LINK_MPV, 1)]).modPair fun p =>
      { p with journal := [wideRecord], peer := some standbyBlock, peerCredits := 8 }

/-- The state of `wideJournal` meets what the statement and its third clause ask of it. -/
theorem wideJournal_due :
    wideJournal.fabricRuns = true ∧ wideJournal.role = 3 ∧ wideJournal.streamUp = true ∧ wideJournal.hasStandby = true ∧
      wideJournal.fab.pair.hasCredit (framesOf wideRecord.body.length) = true := by
  decide +kernel

theorem wideRecord_above_ackseq : ∀ x ∈ [wideRecord], seqAfter x.seq (wideJournal.get Fld.TDM_ACKSEQ_SEQ) = true := by
  decide +kernel

/-- The resend sends nothing. -/
theorem wideJournal_not_resent : ((wideJournal.begin.whenFabric timeoutEffect).settle).out = [] := by
  decide +kernel

/-- Refutes O54: its third clause fails where the journal holds a SEQ of 2^32 and ACKSEQ is 0. The record passes for one above ACKSEQ, and is not among those sent from
ACKSEQ + 1 on. -/
theorem not_ackAndResend : ¬ Obligations.AckAndResend := by
  unfold Obligations.AckAndResend
  intro h
  obtain ⟨hruns, hrole, hup, hstandby, hcredit⟩ := wideJournal_due
  obtain ⟨-, -, hresends, -⟩ := h wideJournal hruns (.inr hrole) hup rfl rfl rfl
  obtain ⟨t, ht, hout, -⟩ := hresends wideRecord [] hstandby rfl wideRecord_above_ackseq (by decide) (by simpa using hcredit)
  obtain rfl : (wideJournal.begin.whenFabric timeoutEffect).settle = t := by simpa [exec_ackTimeout, done] using ht
  rw [wideJournal_not_resent] at hout
  exact List.cons_ne_nil _ _ hout.symm

end Sys2Proof.Machine
end

section
/-! PROOFS. The writes of the INTC page (O52, R382).

O52 speaks of every state, those that hold a bit in the event registers the page does not implement among them, and there its clause on these registers fails: a write of
EVT_PEND_CLR clears the bit and so changes the state. A REG record of the mirror stream, which is written at any offset, can leave such a bit. The other clauses hold in every
state, and this one wherever the event registers of the page are at reset and the lines are settled. -/
namespace Sys2Proof.Machine
open Sys2Proof

/-! ### Writes of other masters -/

/-- No path but a keeper core's carries a write to the INTC page. -/
theorem State.pathWrites_intc_of_not_keeper (s : State) {m : Master} (hm : m.isKeeper = false) : s.pathWrites m 5 = false := by
  cases m with
  | keeper c => cases hm
  | policy => simp [State.pathWrites, neverGranted]
  | host v => simp [State.pathWrites]
  | board | mover | dbg => rfl

theorem State.guard_intc_of_not_keeper (s : State) {m : Master} (f : State → State) (hm : m.isKeeper = false) (hp : m ≠ .policy) : s.guard m 5 f = s := by
  simp [State.guard, s.pathWrites_intc_of_not_keeper hm, hp]

/-- The policy partition is stopped by its write (R375). -/
theorem State.guard_intc_of_policy {s : State} (f : State → State) (hruns : s.mgmtRuns = true) (hpol : s.get Fld.MBX_POLICY_STATE = 1) :
    s.guard .policy 5 f = s.policyStop 1 := by
  obtain ⟨hup, hgo⟩ : s.clk.mgmtUp = true ∧ s.clk.mgmtStopped = false := by simpa [State.mgmtRuns] using hruns
  simp [State.guard, s.pathWrites_intc_of_not_keeper (m := .policy) rfl, hup, hgo, hpol]

theorem exec_registerWrite_intc {addr : BitVec 28} (m : Master) (value : Word) (s : State) (hpage : addr.toNat / 65536 = 5) (halign : addr.toNat % 4 = 0) :
    exec (.registerWrite m addr 4 value) s = done (s.begin.guard m 5 fun x => x.applyWrite m addr.toNat value) := by
  have hwrite : s.begin.writeOut m addr.toNat 4 value = s.begin.guard m 5 fun x => x.applyWrite m addr.toNat value := by
    simp [State.writeOut, State.softWrite, halign, hpage]
  exact congrArg done hwrite

section
variable {s : State} {m : Master}

/-- A command that is a write of the INTC page does nothing for a master other than a keeper core (R382). -/
theorem answers_intc_ignored {c : Instr} {f : State → State} (hexec : exec c s = done (s.begin.guard m 5 f)) (hm : m.isKeeper = false) (hp : m ≠ .policy) :
    Answers c s fun t => t = s.begin.settle :=
  answers_done hexec (by rw [State.guard_intc_of_not_keeper _ _ hm hp])

theorem registerWrite_intc_ignored {addr : BitVec 28} (value : Word) (hpage : addr.toNat / 65536 = 5) (halign : addr.toNat % 4 = 0) (hm : m.isKeeper = false)
    (hp : m ≠ .policy) : Answers (.registerWrite m addr 4 value) s fun t => t = s.begin.settle :=
  answers_intc_ignored (exec_registerWrite_intc m value s hpage halign) hm hp

theorem registerWrite_intc_stops_policy {addr : BitVec 28} (value : Word) (hpage : addr.toNat / 65536 = 5) (halign : addr.toNat % 4 = 0) (hruns : s.mgmtRuns = true)
    (hpol : s.get Fld.MBX_POLICY_STATE = 1) : Answers (.registerWrite .policy addr 4 value) s fun t => t = (s.begin.policyStop 1).settle :=
  answers_done (exec_registerWrite_intc .policy value s hpage halign) (by rw [State.guard_intc_of_policy _ (by simpa using hruns) (by simpa using hpol)])

theorem intc_commands_ignored (w : Fin 64) (c : Core) (v : Word) (hm : m.isKeeper = false) (hp : m ≠ .policy) :
    ∀ i ∈ [Instr.intcPendSet m w v, .intcPendClr m w v, .intcEnSet m w v, .intcEnClr m w v, .intcComplete m c v, .intcBadClear m v],
      Answers i s fun t => t = s.begin.settle := by
  simp only [List.forall_mem_cons, List.not_mem_nil, false_imp_iff, implies_true, and_true]
  exact ⟨answers_intc_ignored rfl hm hp, answers_intc_ignored rfl hm hp, answers_intc_ignored rfl hm hp, answers_intc_ignored rfl hm hp,
    answers_intc_ignored rfl hm hp, answers_intc_ignored rfl hm hp⟩

end

/-! ### The rows of the page -/

/-- The page has no RWL field. -/
theorem intc_no_rwl : ((pageRows .intc).all fun r => r.fields.all fun f => f.acc != .rwl) = true := by decide

theorem foldl_rwl_eq_zero {l : List RegField} (h : ∀ f ∈ l, (f.acc != .rwl) = true) :
    l.foldl (fun n f => if f.acc == .rwl then n ||| (2 ^ (f.hi + 1) - 2 ^ f.lo) else n) 0 = 0 := by
  induction l with
  | nil => rfl
  | cons f l ih =>
    have hf : (f.acc == .rwl) = false := by simpa using h f List.mem_cons_self
    rw [List.foldl_cons, hf]
    exact ih fun x hx => h x (List.mem_cons_of_mem _ hx)

theorem rwlMask_intc {a : Nat} (hpage : a / 0x10000 = 5) : rwlMask a = 0 := by
  unfold rwlMask
  split
  · rfl
  · next r hr =>
    have hmem : r ∈ pageRows .intc := by
      have hblock : blockOf (a / 0x10000) = some (.intc, 5) := by rw [hpage]; rfl
      unfold findRow at hr
      rw [hblock] at hr
      split at hr
      · cases hr
      · exact List.mem_of_find?_eq_some hr
    exact foldl_rwl_eq_zero (List.all_eq_true.mp (List.all_eq_true.mp intc_no_rwl r hmem))

/-- A write of the page offers its whole word, whatever its LOCK. -/
theorem State.offered_intc (s : State) {a : Nat} (w : Word) (hpage : a / 0x10000 = 5) : s.offered a w = w := by
  unfold State.offered
  split
  · simpa [rwlMask_intc hpage] using BitVec.and_allOnes (x := w)
  · rfl

/-- A register lies past every row that ends before it. -/
theorem RegRow.not_holds_past {r : RegRow} {o : Nat} (hs : 0 < r.s1) (h : r.off + r.s1 * r.n1 ≤ o) : r.holds o = false := by
  have hfar : ¬ (o - r.off) / r.s1 < r.n1 := by
    rw [Nat.div_lt_iff_lt_mul hs, Nat.mul_comm]
    omega
  simp [RegRow.holds, hfar]

/-- The row of a register of the INTC page is the one that holds it where the rows before it end before it. -/
theorem findRow_intc_of_split {l l' : List RegRow} {r : RegRow} {o : Nat} (hrows : pageRows .intc = l ++ r :: l') (halign : o % 4 = 0) (hpage : o < 0x10000)
    (hpast : ∀ x ∈ l, 0 < x.s1 ∧ x.off + x.s1 * x.n1 ≤ o) (hr : r.holds o = true) : findRow (0x50000 + o) = some r := by
  have hl : l.find? (fun x => x.holds o) = none := by
    rw [List.find?_eq_none]
    intro x hx
    simp [RegRow.not_holds_past (hpast x hx).1 (hpast x hx).2]
  have ha : (0x50000 + o) % 4 = 0 := by omega
  have hp : (0x50000 + o) / 0x10000 = 5 := by omega
  simp [findRow, ha, hp, blockOf, hrows, hl, hr]

/-- The row of INTC_EN_SET (R392). -/
def enSetRow : RegRow := ⟨0x2200, 4, 64, 4, 1, .single, [⟨31, 0, .set, 0⟩]⟩
/-- The row of INTC_THRESH (R392). -/
def threshRow : RegRow := ⟨0x1108, 64, 4, 4, 1, .single, [⟨3, 0, .rw, 0⟩]⟩
/-- The row of INTC_SRC (R392). -/
def srcRow : RegRow := ⟨0x4000, 4, 2048, 4, 1, .single, [⟨3, 0, .rw, 0⟩, ⟨7, 4, .rw, 0⟩, ⟨8, 8, .rw, 0⟩]⟩

theorem findRow_enSet (w : Fin 64) : findRow (Addr.INTC_EN_SET w.val) = some enSetRow := by
  revert w; decide

theorem findRow_thresh (c : Core) : findRow (Addr.INTC_THRESH c.val) = some threshRow := by
  revert c; decide

theorem findRow_src (n : Fin 2048) : findRow (Addr.INTC_SRC n.val) = some srcRow := by
  have hn := n.isLt
  have hpast : ∀ x ∈ (pageRows .intc).dropLast, 0 < x.s1 ∧ x.off + x.s1 * x.n1 ≤ 0x4000 := by decide
  have haddr : Addr.INTC_SRC n.val = 0x50000 + (0x4000 + 4 * n.val) := by simp only [Addr.INTC_SRC]; omega
  rw [haddr]
  refine findRow_intc_of_split (l := (pageRows .intc).dropLast) (l' := []) (by decide) (by omega) (by omega) (fun x hx => ?_) ?_
  · exact ⟨(hpast x hx).1, (hpast x hx).2.trans (by omega)⟩
  · simp [RegRow.holds, srcRow, hn]

/-! ### Writes of keeper cores -/

theorem State.takes_keeper_intc {s : State} (c : Core) (h : s.mgmtRuns = true) : s.takes (.keeper c) 5 = true := by
  obtain ⟨hup, hgo⟩ : s.clk.mgmtUp = true ∧ s.clk.mgmtStopped = false := by simpa [State.mgmtRuns] using h
  simp [State.takes, h, State.pathWrites, State.live, pageDomain, blockOf, domainOf, hup]

theorem regionOf_intc {a : Nat} (hpage : a / 0x10000 = 5) : regionOf a = none := by
  simp [regionOf, hpage]

/-- A write past the header of a register that is no pair goes to the page's own registers. -/
theorem State.applyWrite_intc (s : State) (m : Master) {a : Nat} (w : Word) {r : RegRow} (hpage : a / 0x10000 = 5) (hpast : 0x1000 ≤ a % 0x10000)
    (hrow : findRow a = some r) (hpair : r.pair = .single) : s.applyWrite m a w = s.writeIntc m none (a - 0x50000) a w.toNat := by
  have hblock : blockOf 5 = some (.intc, 5) := rfl
  have hsingle : pairWord a = .single := by simp [pairWord, hpage, hblock, hrow, hpair]
  have hbody : ¬ a % 0x10000 < 0x1000 := by omega
  simp [State.applyWrite, regionOf_intc hpage, hpage, hblock, hbody, hrow, hsingle, s.offered_intc w hpage, State.writeBlock]

/-- Where the stored bits of a register are its lowest k, storing is a write of these bits as one field. -/
theorem State.stored_eq_put (s : State) {a k v : Nat} {r : RegRow} (hrow : findRow a = some r) (hmask : storeMask r = 2 ^ k - 1) :
    s.stored a v = s.put ⟨a, 0, k⟩ v := by
  simp only [State.stored, hrow, State.put]
  congr 1
  refine BitVec.eq_of_getLsbD_eq fun i hi => ?_
  have hofNat : ∀ n, (BitVec.ofNat 32 n).getLsbD i = n.testBit i := fun n => by simp only [BitVec.getLsbD_ofNat, hi, decide_true, Bool.true_and]
  have hword : (s.word a).toNat.testBit i = (s.word a).getLsbD i := rfl
  simp only [BitVec.getLsbD_or, BitVec.getLsbD_and, BitVec.getLsbD_not, hofNat, hmask, Nat.testBit_two_pow_sub_one, testBit_insertBits, hword, hi]
  by_cases hik : i < k <;> simp [hik]

/-- A write of INTC_EN_SET by a keeper core enables the sources of its word (R377). -/
theorem State.applyWrite_enSet (s : State) (c : Core) (value : Word) (w : Fin 64) :
    s.applyWrite (.keeper c) (Addr.INTC_EN_SET w.val) value = s.setWord (Addr.INTC_EN_SET w.val) (s.word (Addr.INTC_EN_SET w.val) ||| value) := by
  have hw := w.isLt
  rw [s.applyWrite_intc _ value (by simp only [Addr.INTC_EN_SET]; omega) (by simp only [Addr.INTC_EN_SET]; omega) (findRow_enSet w) rfl]
  have hoff : Addr.INTC_EN_SET w.val - 0x50000 = 0x2200 + 4 * w.val := by simp only [Addr.INTC_EN_SET]; omega
  have hword : (0x2200 + 4 * w.val) % 256 / 4 = w.val := by omega
  have harr : (0x2200 + 4 * w.val) / 256 % 4 = 2 := by omega
  have h1 : ¬ 0x2200 + 4 * w.val = 0x1004 := by omega
  have h2 : ¬ 0x2200 + 4 * w.val < 0x1200 := by omega
  have h3 : 0x2000 ≤ 0x2200 + 4 * w.val ∧ 0x2200 + 4 * w.val < 0x2400 := by omega
  simp [State.writeIntc, hoff, hword, harr, h1, h2, h3, State.writeEnSet, Master.isKeeper]

/-- A write of INTC_THRESH stores the threshold. -/
theorem State.applyWrite_thresh (s : State) (c : Core) (value : Word) (k : Core) :
    s.applyWrite (.keeper c) (Addr.INTC_THRESH k.val) value = s.put (Fld.INTC_THRESH_THRESH k.val) value.toNat := by
  have hk := k.isLt
  rw [s.applyWrite_intc _ value (by simp only [Addr.INTC_THRESH]; omega) (by simp only [Addr.INTC_THRESH]; omega) (findRow_thresh k) rfl]
  have hoff : Addr.INTC_THRESH k.val - 0x50000 = 0x1108 + 64 * k.val := by simp only [Addr.INTC_THRESH]; omega
  have hbad : ¬ 0x1108 + 64 * k.val = 0x1004 := by omega
  have hcore : 0x1100 ≤ 0x1108 + 64 * k.val ∧ 0x1108 + 64 * k.val < 0x1200 := by omega
  have hword : (0x1108 + 64 * k.val) % 64 = 8 := by omega
  simp only [State.writeIntc, hoff, if_neg hbad, hcore.1, hcore.2, decide_true, Bool.and_self, if_true, hword]
  exact s.stored_eq_put (k := 4) (findRow_thresh k) rfl

/-- A write of INTC_SRC stores its nine lowest bits. -/
theorem State.applyWrite_src (s : State) (c : Core) (value : Word) (n : Fin 2048) :
    s.applyWrite (.keeper c) (Addr.INTC_SRC n.val) value = s.put ⟨Addr.INTC_SRC n.val, 0, 9⟩ value.toNat := by
  have hn := n.isLt
  rw [s.applyWrite_intc _ value (by simp only [Addr.INTC_SRC]; omega) (by simp only [Addr.INTC_SRC]; omega) (findRow_src n) rfl]
  have hoff : Addr.INTC_SRC n.val - 0x50000 = 0x4000 + 4 * n.val := by simp only [Addr.INTC_SRC]; omega
  have hbad : ¬ 0x4000 + 4 * n.val = 0x1004 := by omega
  have hcore : ¬ 0x4000 + 4 * n.val < 0x1200 := by omega
  have harr : ¬ 0x4000 + 4 * n.val < 0x2400 := by omega
  simp only [State.writeIntc, hoff, if_neg hbad, hcore, harr, decide_false, Bool.and_false, Bool.false_eq_true, if_false]
  exact s.stored_eq_put (findRow_src n) rfl

/-- A write of a keeper core that changes fields of the page alone answers its effect, settled. -/
theorem answers_keeper_intc {s : State} {c : Core} {addr : BitVec 28} {value : Word} {fs : List Field} {P : State → Prop} (hruns : s.mgmtRuns = true)
    (hpage : addr.toNat / 65536 = 5) (halign : addr.toNat % 4 = 0) (hframe : Frame [] fs s (s.begin.applyWrite (.keeper c) addr.toNat value))
    (hfs : ∀ f ∈ fs, f.addr / 65536 = 5) (hP : P (s.begin.applyWrite (.keeper c) addr.toNat value).settle) : Answers (.registerWrite (.keeper c) addr 4 value) s P :=
  answers_of_eq ((exec_registerWrite_intc (.keeper c) value s hpage halign).trans (done_guard_frame (State.takes_keeper_intc c hruns) hframe
    (fun f hf => regionOf_intc (hfs f hf)) (hframe.home_dir (by simp)))) hP

section
variable {s : State} {addr : BitVec 28} (c : Core) (value : Word) (hruns : s.mgmtRuns = true)
include hruns

/-- A write of INTC_EN_SET by a keeper core enables the sources it names (R377). -/
theorem registerWrite_enSet (w : Fin 64) (ha : addr.toNat = Addr.INTC_EN_SET w.val) :
    Answers (.registerWrite (.keeper c) addr 4 value) s fun t => t.word (Addr.INTC_EN_SET w.val) = s.word (Addr.INTC_EN_SET w.val) ||| value ∧
      Frame [] [Field.all (Addr.INTC_EN_SET w.val)] s t := by
  have hw := w.isLt
  have hplace : Addr.INTC_EN_SET w.val / 65536 = 5 ∧ Addr.INTC_EN_SET w.val % 4 = 0 := by simp only [Addr.INTC_EN_SET]; omega
  have heffect := s.begin.applyWrite_enSet c value w
  have hframe : Frame [] [Field.all (Addr.INTC_EN_SET w.val)] s (s.begin.applyWrite (.keeper c) addr.toNat value) := by
    rw [ha, heffect]
    exact (Frame.begin s).setWord _ List.mem_cons_self
  refine answers_keeper_intc hruns (ha ▸ hplace.1) (ha ▸ hplace.2) hframe (by simpa [Field.all] using hplace.1) ⟨?_, hframe.settle⟩
  rw [State.word_settle _ (by omega), ha, heffect, State.word_setWord_same, State.word_begin]

/-- A write of INTC_THRESH by a keeper core sets the threshold of the core (R378). -/
theorem registerWrite_thresh (k : Core) (ha : addr.toNat = Addr.INTC_THRESH k.val) :
    Answers (.registerWrite (.keeper c) addr 4 value) s fun t => t.get (Fld.INTC_THRESH_THRESH k.val) = value.toNat % 16 ∧
      Frame [] [Fld.INTC_THRESH_THRESH k.val] s t := by
  have hk := k.isLt
  have hplace : Addr.INTC_THRESH k.val / 65536 = 5 ∧ Addr.INTC_THRESH k.val % 4 = 0 := by simp only [Addr.INTC_THRESH]; omega
  have heffect := s.begin.applyWrite_thresh c value k
  have hframe : Frame [] [Fld.INTC_THRESH_THRESH k.val] s (s.begin.applyWrite (.keeper c) addr.toNat value) := by
    rw [ha, heffect]
    exact (Frame.begin s).put _ List.mem_cons_self
  refine answers_keeper_intc hruns (ha ▸ hplace.1) (ha ▸ hplace.2) hframe (by simpa [Fld.INTC_THRESH_THRESH] using hplace.1) ⟨?_, hframe.settle⟩
  rw [State.get_settle _ (by simp only [Fld.INTC_THRESH_THRESH]; omega), ha, heffect]
  exact State.get_put_same _ _ _ (by simp [Fld.INTC_THRESH_THRESH])

/-- A write of INTC_SRC by a keeper core sets the priority of the source (R378). -/
theorem registerWrite_src (n : Fin 2048) (ha : addr.toNat = Addr.INTC_SRC n.val) :
    Answers (.registerWrite (.keeper c) addr 4 value) s fun t => t.get (Fld.INTC_SRC_PRIO n.val) = value.toNat % 16 ∧
      Frame [] [Field.all (Addr.INTC_SRC n.val)] s t := by
  have hn := n.isLt
  have hplace : Addr.INTC_SRC n.val / 65536 = 5 ∧ Addr.INTC_SRC n.val % 4 = 0 := by simp only [Addr.INTC_SRC]; omega
  have heffect := s.begin.applyWrite_src c value n
  have hframe : Frame [] [Field.all (Addr.INTC_SRC n.val)] s (s.begin.applyWrite (.keeper c) addr.toNat value) := by
    rw [ha, heffect]
    exact (Frame.begin s).setWord _ List.mem_cons_self
  refine answers_keeper_intc hruns (ha ▸ hplace.1) (ha ▸ hplace.2) hframe (by simpa [Field.all] using hplace.1) ⟨?_, hframe.settle⟩
  have hstored := State.get_put_same s.begin ⟨Addr.INTC_SRC n.val, 0, 9⟩ value.toNat (by simp)
  rw [State.get_settle _ (by simp only [Fld.INTC_SRC_PRIO]; omega), ha, heffect]
  simp only [State.get, bitsOf, Fld.INTC_SRC_PRIO] at hstored ⊢
  omega

end

/-! ### The event and first-error registers -/

/-- The offsets of the event and first-error registers of a header (R438). -/
def intcEventRegs : List Nat := [0x50040, 0x50044, 0x50048, 0x50050, 0x50054, 0x50058, 0x50080, 0x50084, 0x50088, 0x5008C, 0x50090, 0x50094, 0x50098]

/-- Each is EVT_PEND or EVT_EN of the page under one of its offsets (R441), or in no row of it. -/
theorem intcEventRegs_place : ∀ a ∈ intcEventRegs, a / 65536 = 5 ∧ a % 4 = 0 ∧ 16 ≤ a % 65536 ∧ a % 65536 < 0x1000 ∧
    ((a % 65536 = 0x40 ∨ a % 65536 = 0x44 ∨ a % 65536 = 0x48) ∨ (a % 65536 = 0x50 ∨ a % 65536 = 0x54 ∨ a % 65536 = 0x58) ∨ findRow a = none) := by
  decide

/-- They read 0: the page implements no event and has no first-error capture. -/
theorem State.readReg_intcEventRegs (s : State) (m : Master) {a : Nat} (ha : a ∈ intcEventRegs) : s.readReg m a = 0 := by
  obtain ⟨hpage, -, hlo, -, hkind⟩ := intcEventRegs_place a ha
  have hblock : blockOf 5 = some (.intc, 5) := rfl
  have hid : ¬ a % 65536 < 16 := by omega
  rcases hkind with hpend | hen | hrow
  · simp [State.readReg, hpage, hblock, hid, hpend, hasHeader, evtMask]
  · simp [State.readReg, hpage, hblock, hid, hen, hasHeader, evtMask]
  · simp [State.readReg, hpage, hblock, hid, hrow, hasHeader, evtMask]

theorem assocDel_unlisted {α : Type} (m : List (Nat × α)) {a : Nat} (h : assoc m a = none) : assocDel m a = m := by
  induction m with
  | nil => rfl
  | cons e m ih =>
    obtain ⟨k, v⟩ := e
    by_cases hk : k = a
    · simp [assoc, hk] at h
    · have hm : assocDel m a = m := ih (by simpa [assoc, hk] using h)
      simpa [assocDel, hk] using hm

/-- Writing its reset word to a register that is not listed changes nothing. -/
theorem State.setWord_unlisted {s : State} {a : Nat} {w : Word} (h : assoc s.regs a = none) (hw : w = resetWord a) : s.setWord a w = s := by
  simp [State.setWord, sparsePut, hw, assocDel_unlisted _ h]

theorem State.word_unlisted {s : State} {a : Nat} (h : assoc s.regs a = none) : s.word a = resetWord a := by
  simp [State.word, sparseGet, h]

theorem State.dropLevels_of_settled {s : State} (h : ∀ n ∈ s.keeper.sampled, s.level n = true) : s.dropLevels = s := by
  rw [State.dropLevels, List.filter_eq_self.mpr h]

/-- A register write that changes nothing of itself leaves all as it is. -/
theorem State.guard_of_fixed {s : State} {m : Master} {pg : Nat} {f : State → State} (hm : m ≠ .policy) (hf : f s = s) : s.guard m pg f = s := by
  have hmirror : (f s).mirror s = s := by
    rw [hf]
    exact State.mirror_eq_self (fun _ _ => rfl) rfl
  simp [State.guard, hm, hmirror]

/-- The event registers of the page are not listed: they stand at reset. -/
def State.IntcEventsAtReset (s : State) : Prop := assoc s.regs (evtPendAddr 5) = none ∧ assoc s.regs (evtEnAddr 5) = none

theorem State.writeHeader_intc_of_reset {s : State} (o v : Nat) (h : s.IntcEventsAtReset) (hlines : ∀ n ∈ s.keeper.sampled, s.level n = true) :
    s.writeHeader 5 o v = s := by
  obtain ⟨hpend, hen⟩ := h
  have hpend0 : resetWord (evtPendAddr 5) = 0 := by decide
  have hen0 : resetWord (evtEnAddr 5) = 0 := by decide
  have hmask : pageEvtMask 5 = 0 := rfl
  unfold State.writeHeader
  split
  · exact State.setWord_unlisted hpend (by simp [State.word_unlisted hpend, hpend0, hmask])
  · rw [State.clearPend, State.setWord_unlisted hpend (by simp [State.word_unlisted hpend, hpend0]), State.dropLevels_of_settled hlines]
  · exact State.setWord_unlisted hen (by simp [State.word_unlisted hen, hen0, hmask])
  · rw [State.clearEn, State.setWord_unlisted hen (by simp [State.word_unlisted hen, hen0]), State.dropLevels_of_settled hlines]
  · rfl
  · rfl

theorem State.applyWrite_intcEventRegs (s : State) (m : Master) {a : Nat} (w : Word) (ha : a ∈ intcEventRegs) :
    s.applyWrite m a w = s.writeHeader 5 (a % 65536) w.toNat := by
  obtain ⟨hpage, -, -, hheader, -⟩ := intcEventRegs_place a ha
  have hblock : blockOf 5 = some (.intc, 5) := rfl
  simp [State.applyWrite, regionOf_intc hpage, hpage, hblock, hasHeader, hheader]

/-- With its event registers at reset and the lines settled, the page ignores a write of a keeper core to its event and first-error registers, and they read 0. -/
theorem registerWrite_intcEventRegs_ignored {s : State} (c : Core) (m : Master) {addr : BitVec 28} (value : Word) (ha : addr.toNat ∈ intcEventRegs)
    (hreset : s.IntcEventsAtReset) (hlines : s.LinesSettled) :
    Answers (.registerWrite (.keeper c) addr 4 value) s fun t => t = s.begin.settle ∧ s.readReg m addr.toNat = 0 := by
  obtain ⟨hpage, halign, -⟩ := intcEventRegs_place _ ha
  have hfixed : s.begin.applyWrite (.keeper c) addr.toNat value = s.begin := by
    rw [State.applyWrite_intcEventRegs _ _ _ ha]
    exact State.writeHeader_intc_of_reset _ _ hreset hlines.1
  exact answers_done (exec_registerWrite_intc (.keeper c) value s hpage halign) ⟨by rw [State.guard_of_fixed (by simp) hfixed], s.readReg_intcEventRegs m ha⟩

/-! ### The refutation: a bit in EVT_PEND of a page without events -/

/-- The management domain runs, and a REG record has written EVT_PEND of the INTC page, as records do at any offset (R320). -/
def intcEventPlanted : State := ({ State.reset with clk := { Clk.reset with mgmtUp := true } } : State).applyRegs (evtPendAddr 5) [1]

theorem intcEventPlanted_listed : intcEventPlanted.begin.settle.regs = [(evtPendAddr 5, 1)] := by
  decide +kernel

/-- The state is in the canonical form and its lines are settled. -/
theorem intcEventPlanted_canonical : intcEventPlanted.Canonical ∧ intcEventPlanted.LinesSettled := by
  unfold State.Canonical State.LinesSettled
  decide +kernel

/-- The write of EVT_PEND_CLR leaves no register listed. -/
theorem intcEventPlanted_cleared : (intcEventPlanted.begin.writeOut (.keeper 0) 0x50048 4 1).settle.regs = [] := by
  decide +kernel

/-- Refutes O52: its clause on the event registers fails where EVT_PEND of the INTC page holds a bit, which no read shows. A 1 written at EVT_PEND_CLR clears it, where the
clause has the write do nothing but what ends every command. -/
theorem not_intcPageWrites : ¬ Obligations.IntcPageWrites := by
  unfold Obligations.IntcPageWrites
  intro h
  obtain ⟨-, -, -, -, -, -, -, -, -, -, -, hevents, -⟩ := h intcEventPlanted
  obtain ⟨t, ht, hsame, -⟩ := hevents 0 .board 0x50048 1 (by decide)
  obtain rfl : (intcEventPlanted.begin.writeOut (.keeper 0) 0x50048 4 1).settle = t := by simpa [exec, execRegisterWrite, done] using ht
  have hregs := congrArg State.regs hsame
  rw [intcEventPlanted_cleared, intcEventPlanted_listed] at hregs
  cases hregs

end Sys2Proof.Machine
end

section
/-! PROOFS. What every command does: it ends with its lines settled, and on a FABRIC that does not run it does nothing more (O55 to O60).

Every arm of exec is `done` of a state, so a step ends in `State.settle`, and what settled lines are is decided there alone. -/
namespace Sys2Proof.Machine
open Sys2Proof
set_option Elab.async false

/-! ### A command ends with its lines settled (R358, R377) -/

theorem execAuxRailUp_done (s : State) : ∃ x, execAuxRailUp s = done x := by
  unfold execAuxRailUp
  dsimp only
  split <;> exact ⟨_, rfl⟩

/-- The meaning of every command is a state that is settled at its end: none faults and none is refused. -/
theorem exec_done (c : Instr) (s : State) : ∃ x, exec c s = done x := by
  cases c
  case auxRailUp => exact execAuxRailUp_done s
  all_goals exact ⟨_, rfl⟩

theorem step_done (s : State) : ∃ x, step s = done x := by
  unfold step
  split
  · exact ⟨_, rfl⟩
  · exact exec_done _ _

/-- Settling drives ALERT_N by the log, and raises no event that the log's condition reads; it holds as seen high only sources whose level is high. -/
theorem State.linesSettled_settle (s : State) : s.settle.LinesSettled := by
  have hlevel (n : Nat) : s.settle.level n = s.driveAlert.level n := rfl
  have halert : s.settle.alertLevel = s.alertLevel := by
    simp only [State.alertLevel, State.settle_flt]
    rw [State.get_settle s (by decide), State.get_settle s (by decide)]
  refine ⟨fun n hn => ?_, by simp [halert]⟩
  rw [State.settle_keeper] at hn
  rw [hlevel]
  exact (List.mem_filter.mp hn).2

/-- Settles O59: every step ends in `State.settle`. -/
theorem linesSettledInvariant : Obligations.LinesSettledInvariant := by
  unfold Obligations.LinesSettledInvariant
  intro s t _ ht
  obtain ⟨x, hx⟩ := step_done s
  obtain rfl : x.settle = t := by simpa [hx, done] using ht
  exact x.linesSettled_settle

/-- Settles O56, by cases on the command. -/
theorem everyCommandAnswers : Obligations.EveryCommandAnswers := by
  unfold Obligations.EveryCommandAnswers
  intro c s
  obtain ⟨x, hx⟩ := exec_done c s
  exact ⟨x.settle, hx⟩

/-- Settles O55: the two clauses are the two branches of `step`. -/
theorem stepRunsFront : Obligations.StepRunsFront := by
  unfold Obligations.StepRunsFront
  refine ⟨fun _ _ => rfl, fun s hs => ?_⟩
  simp [step, hs, done]

/-- Settles O58: the maps are empty at reset, and with them the log and the list of levels seen high. -/
theorem settledAtReset : Obligations.SettledAtReset := by
  unfold Obligations.SettledAtReset
  refine ⟨?_, ?_, rfl, fun _ => rfl⟩
  · unfold State.LinesSettled
    decide
  · unfold State.Canonical
    decide

/-- Settles O60: each command that works on FABRIC alone runs under `State.whenFabric`, which does nothing while FABRIC does not run. -/
theorem heldFabric : Obligations.HeldFabric := by
  unfold Obligations.HeldFabric
  intro c s hc hs
  have hheld (f : State → State) : s.begin.whenFabric f = s.begin := State.whenFabric_of_not_runs f (by simpa using hs)
  cases c <;> simp only [Instr.fabricOnly, Bool.false_eq_true] at hc
  all_goals exact congrArg done (hheld _)

/-! ### The time base (R63, R65) -/

/-- What one cycle of 500 MHz adds to the time base (R63, R65). -/
def State.cycleStep (s : State) : Nat :=
  if s.flag Fld.TIME_STATUS_SLEWING = true ∧ 499 ≤ s.clk.sinceSlew then (if s.get Fld.TIME_STATUS_OFFSET < 0x8000 then 3 else 1) else 2

theorem State.cycle_of_runs {s : State} (h : s.mgmtRuns = true) : s.cycle =
    { s with clk := { s.clk with timeBase := (s.now + s.cycleStep) % 2 ^ 64,
                                 sinceSlew := if s.flag Fld.TIME_STATUS_SLEWING = true ∧ 499 ≤ s.clk.sinceSlew then 0 else s.clk.sinceSlew + 1 } } := by
  obtain ⟨hup, hstop⟩ : s.clk.mgmtUp = true ∧ s.clk.mgmtStopped = false := by simpa [State.mgmtRuns] using h
  simp [State.cycle, State.cycleStep, hup, hstop]

theorem State.cycle_of_not_runs {s : State} (h : s.mgmtRuns = false) : s.cycle = s := by
  unfold State.cycle
  rw [if_pos]
  cases hup : s.clk.mgmtUp <;> simp_all [State.mgmtRuns]

/-- With no link up, or in reset, an idle step is the cycle of the time base alone. -/
theorem State.idle_of_no_link {s : State} (h : s.fab.up = []) : s.idle = s.cycle := by
  have hup : s.cycle.fab.up = [] := by
    unfold State.cycle
    split <;> exact h
  unfold State.idle
  simp [hup]

theorem State.idle_of_not_runs {s : State} (h : s.mgmtRuns = false) : s.idle = s := by
  have hdown : (s.live 0x10 && !s.clk.mgmtStopped) = false := by
    have hd : pageDomain 0x10 = .fabric := rfl
    cases hup : s.clk.mgmtUp <;> simp_all [State.mgmtRuns, State.live]
  unfold State.idle
  simp [State.cycle_of_not_runs h, hdown]

theorem step_of_empty {s : State} (h : s.pending = []) : step s = .next s.idle.settle := by
  simp [step, h, done]

theorem State.cycleStep_bounds (s : State) : 0 < s.cycleStep ∧ s.cycleStep ≤ 3 := by
  unfold State.cycleStep
  split
  · split <;> decide
  · decide

/-- Settles O57: an idle step is `State.cycle`. -/
theorem timeBase : Obligations.TimeBase := by
  unfold Obligations.TimeBase
  intro s hq
  refine ⟨fun hruns hup hwrap => ?_, fun hruns => ⟨_, step_of_empty hq, by simp [State.idle_of_not_runs hruns, State.now]⟩⟩
  obtain ⟨hpos, hle⟩ := s.cycleStep_bounds
  have hidle := (State.idle_of_no_link hup).trans (State.cycle_of_runs hruns)
  have hmod : (s.now + s.cycleStep) % 2 ^ 64 = s.now + s.cycleStep := Nat.mod_eq_of_lt (by omega)
  have hnow : s.idle.settle.now = s.now + s.cycleStep := by
    rw [State.now, State.settle_clk, hidle]
    exact hmod
  have hsince : s.idle.settle.clk.sinceSlew = if s.flag Fld.TIME_STATUS_SLEWING = true ∧ 499 ≤ s.clk.sinceSlew then 0 else s.clk.sinceSlew + 1 := by
    simp [hidle]
  refine ⟨_, step_of_empty hq, ?_, by omega, by omega, fun hplain => ?_, fun hslew hdue => ?_⟩
  · have hbase : Frame [.clk, .out] [] s s := ⟨fun p hp => by cases p <;> simp_all [State.Same], fun _ _ _ _ => rfl⟩
    rw [hidle]
    exact (hbase.clk _ (by decide)).settle
  · have hno : ¬ (s.flag Fld.TIME_STATUS_SLEWING = true ∧ 499 ≤ s.clk.sinceSlew) := by
      rcases hplain with h | h
      · simp [h]
      · omega
    simp only [hnow, hsince, State.cycleStep, if_neg hno, and_self]
  · simp only [hnow, hsince, State.cycleStep, if_pos (And.intro hslew hdue), and_self]

end Sys2Proof.Machine
end

section
/-! PROOFS. The frame of a chain of operations, built one operation at a time; that a part or a field is among those listed is found by simp. -/
namespace Sys2Proof.Machine
open Sys2Proof
set_option Elab.async false

namespace Frame
variable {ps : List Part} {fs : List Field} {s t u : State}

theorem andPut (h : Frame ps fs s t) {f : Field} (v : Nat) (hf : f ∈ fs := by simp) : Frame ps fs s (t.put f v) := h.put v hf
theorem andRaise (h : Frame ps fs s t) {e : Event} (hf : e.field ∈ fs := by simp) : Frame ps fs s (t.raise e) := h.raise hf
theorem andRaiseIf (h : Frame ps fs s t) {e : Event} (c : Bool) (hf : e.field ∈ fs := by simp) : Frame ps fs s (t.raiseIf c e) := h.raiseIf c hf
theorem andHs (h : Frame ps fs s t) (x : Hs) (hp : Part.hs ∈ ps := by simp) : Frame ps fs s { t with hs := x } := h.hs x hp

/-- A record update that keeps the registers and what is put out, and changes listed parts alone. -/
theorem andParts (h : Frame ps fs s t) (hr : u.regs = t.regs := by rfl) (ho : u.out = t.out := by rfl)
    (hu : ∀ p, p ∈ ps ∨ p = .out ∨ State.Same t u p := by intro p; cases p <;> simp [State.Same]) : Frame ps fs s u :=
  h.upd hr ho fun p hp hout => ((hu p).resolve_left hp).resolve_left hout

end Frame
end Sys2Proof.Machine
end

section
/-! PROOFS. The waits, the feed switches and the planned returns of the hot-swap controller (O1, R39, R41, R44, R45). -/
namespace Sys2Proof.Machine
open Sys2Proof
set_option Elab.async false

/-! ### Running a step of the controller -/

theorem State.inHs_of_mem {s : State} {l : List Nat} (f : State → State) (haux : s.hs.auxUp = true) (hst : s.get Fld.PWR_HS_STATUS_STATE ∈ l) :
    s.begin.inHs l f = f s.begin := by
  simp [State.inHs, haux, hst]

theorem State.whenAux_of_up {s : State} (f : State → State) (haux : s.hs.auxUp = true) : s.begin.whenAux f = f s.begin := by
  simp [State.whenAux, haux]

@[simp] theorem State.hsGoto_hs (s : State) (n : Nat) : (s.hsGoto n).hs = { s.hs with timer := 0 } := rfl
@[simp] theorem State.get_hsGoto (s : State) (n : Nat) (g : Field) : (s.hsGoto n).get g = (s.put Fld.PWR_HS_STATUS_STATE n).get g := rfl

theorem Frame.andHsGoto {ps : List Part} {fs : List Field} {s t : State} (h : Frame ps fs s t) (n : Nat) (hp : Part.hs ∈ ps := by simp)
    (hf : Fld.PWR_HS_STATUS_STATE ∈ fs := by simp) : Frame ps fs s (t.hsGoto n) := (h.put n hf).hs _ hp

@[simp] theorem State.qualified_begin (s : State) (f : Feed) : s.begin.qualified f = s.qualified f := by cases f <;> simp [State.qualified]
@[simp] theorem State.selected_begin (s : State) : s.begin.selected = s.selected := by simp [State.selected]
@[simp] theorem State.preferred_begin (s : State) : s.begin.preferred = s.preferred := by simp [State.preferred]
@[simp] theorem State.ftExpired_begin (s : State) : s.begin.ftExpired = s.ftExpired := by simp [State.ftExpired]
@[simp] theorem State.calm_begin (s : State) : s.begin.calm = s.calm := by simp [State.calm]

/-! ### The transitions of the state table (R39) -/

theorem State.hsTransition_seated {s : State} {c : HsCond} (hst : s.get Fld.PWR_HS_STATUS_STATE = 1) (hu : c.unseated = false) (hd : c.debounced = true) :
    s.hsTransition c = if s.hs.cooldown then s.hsGoto 2 else (s.hsGoto 3).put Fld.PWR_HS_STATUS_COOLDOWN_SEEN 0 := by
  simp [State.hsTransition, hst, hu, hd]

theorem State.hsTransition_cooldown {s : State} {c : HsCond} (hst : s.get Fld.PWR_HS_STATUS_STATE = 2) (hl : c.seatLost = false) (hr : c.retried = true) :
    s.hsTransition c = { (s.hsGoto 3).put Fld.PWR_HS_STATUS_COOLDOWN_SEEN 1 with hs := { s.hs with timer := 0, cooldown := false } } := by
  simp [State.hsTransition, hst, hl, hr]

theorem State.hsTransition_fault {s : State} {c : HsCond} (hst : s.get Fld.PWR_HS_STATUS_STATE = 7) (hl : c.seatLost = false) (hr : c.retried = true) :
    s.hsTransition c = { (s.hsGoto 3).put Fld.PWR_HS_STATUS_COOLDOWN_SEEN 0 with hs := { s.hs with timer := 0, cooldown := false } } := by
  simp [State.hsTransition, hst, hl, hr]

theorem State.hsTransition_shutdown {s : State} {c : HsCond} (hst : s.get Fld.PWR_HS_STATUS_STATE = 8) (hoff : c.fetOff = true) :
    s.hsTransition c = s.pathOff.hsGoto 0 := by
  simp [State.hsTransition, hst, hoff]

/-- In SWITCHING, with the seats and the overcurrent out of the way, the target decides. -/
theorem State.hsTransition_switching {s : State} {c : HsCond} (hst : s.get Fld.PWR_HS_STATUS_STATE = 6) (hl : c.seatLost = false) (hsev : c.severe = false) :
    s.hsTransition c = if !s.qualified s.hs.target then s.hsFault 5 else if c.switchLate && !c.conducting then s.hsFault 8
      else if c.conducting && c.running then s.switchDone else s := by
  simp [State.hsTransition, hst, hl, hsev]

/-- What R39 tests first does not hold of a calm state: no pin is lost, no severe overcurrent, no expiry, no overtemperature. -/
theorem State.hsCond_of_calm {s : State} (h : s.calm = true) :
    s.hsCond.seatLost = false ∧ s.hsCond.severe = false ∧ s.hsCond.expired = false ∧ s.hsCond.overTemp = false := by
  simp only [State.calm, Bool.and_eq_true, Bool.not_eq_true', decide_eq_true_eq] at h
  obtain ⟨⟨⟨⟨⟨hL, hR⟩, hsev⟩, hft⟩, hA⟩, hB⟩ := h
  simp [State.hsCond, hL, hR, hsev, hft, hA, hB]

/-- With both pins seated no condition on a lost pin holds. -/
theorem State.hsCond_of_seated {s : State} (hL : s.hs.smp.seatL = true) (hR : s.hs.smp.seatR = true) : s.hsCond.seatLost = false ∧ s.hsCond.unseated = false := by
  simp [State.hsCond, hL, hR]

/-- In ON, calm, with the bus held up and the preferred feed qualified, a switch takes place where one is due. -/
theorem State.hsTransition_on_calm {s : State} (hst : s.get Fld.PWR_HS_STATUS_STATE = 5) (hcalm : s.calm = true) (hbus : 11000 ≤ s.hs.smp.bus)
    (hq : s.qualified s.preferred = true) : s.hsTransition s.hsCond = if s.switchDue then s.hsSwitch else s := by
  obtain ⟨hl, hsev, hexp, hot⟩ := State.hsCond_of_calm hcalm
  have hlow : s.hsCond.busLow = false := by simp [State.hsCond]; omega
  have hsome : (!s.qualified .a && !s.qualified .b) = false := by
    cases hp : s.preferred <;> simp [hp] at hq <;> simp [hq]
  have hdue : s.hsCond.switchDue = s.switchDue := rfl
  rw [State.hsTransition_on _ hst, hl, hsev, hexp, hot, hlow, hsome, hdue]
  rfl

/-! ### The end of a switch and its decision (R45) -/

theorem State.switchDone_hs (s : State) :
    s.switchDone.hs = { s.hs with timer := 0, fetOn := true, convOn := true, planned := false, revert := 0, holdoff := 100000 } := by
  simp [State.switchDone, State.addSat]

theorem State.get_switchDone_state (s : State) : s.switchDone.get Fld.PWR_HS_STATUS_STATE = 5 ∧ s.switchDone.get Fld.PWR_HS_STATUS_FEED_SEL = s.hs.target.code := by
  have hcode : s.hs.target.code < 2 ^ Fld.PWR_HS_STATUS_FEED_SEL.width := by cases s.hs.target <;> decide
  constructor <;>
    simp (disch := first | decide | exact hcode) [State.switchDone, State.get_nvWrote, State.get_raise, State.addSat, State.get_put_clear, State.get_put_lit]

theorem Frame.switchDone (s : State) : Frame [.hs, .nv] [Fld.PWR_HS_STATUS_STATE, Fld.PWR_HS_STATUS_FEED_SEL, Fld.PWR_SWITCH_COUNT_COUNT, Evt.PWR_FEED_SWITCH.field,
    Fld.NVS_WEAR_UNITS, Evt.NVS_WEAR_HIGH.field] s s.begin.switchDone := by
  refine (andParts (t := (((s.begin.hsGoto 5).put Fld.PWR_HS_STATUS_FEED_SEL s.hs.target.code).addSat Fld.PWR_SWITCH_COUNT_COUNT 1).raise Evt.PWR_FEED_SWITCH)
    ?_).nvWrote 5 (by simp) (by simp) (by simp)
  exact (((Frame.begin s).andHsGoto 5).andPut _).addSat 1 (by simp) |>.andRaise

theorem State.hsSwitch_hs (s : State) :
    s.hsSwitch.hs = { s.hs with timer := 0, target := s.selected.other, targetClosed := false, convOn := false, fetOn := false } := by
  have hsel : (s.hsGoto 6).selected = s.selected := by simp (disch := decide) [State.selected, State.get_put_clear]
  simp [State.hsSwitch, hsel]

theorem Frame.andHsSwitch {ps : List Part} {fs : List Field} {s t : State} (h : Frame ps fs s t) (hp : Part.hs ∈ ps := by simp)
    (hf : Fld.PWR_HS_STATUS_STATE ∈ fs := by simp) : Frame ps fs s t.hsSwitch := (h.andHsGoto 6 hp hf).hs _ hp

theorem State.hsFault_timer (s : State) (cause : Nat) : (s.hsFault cause).hs.timer = 0 := rfl

/-- A switch to the preferred feed that is planned is due once none has ended in the last 100 ms (R44). -/
theorem State.switchDue_of_planned {s : State} (hp : s.hs.planned = true) (hh : s.hs.holdoff = 0) (hsel : s.selected ≠ s.preferred)
    (hq : s.qualified s.preferred = true) : s.switchDue = true := by
  simp [State.switchDue, hp, hh, hsel, hq]

/-- The state with a return to the preferred feed planned (R44). -/
def State.planned (s : State) : State := { s with hs := { s.hs with planned := true } }

/-- The state with the 100 ms after a switch over (R44). -/
def State.heldOff (s : State) : State := { s with hs := { s.hs with holdoff := 0 } }

theorem revertDelayExpire_effect {s : State} (haux : s.hs.auxUp = true) (hst : s.get Fld.PWR_HS_STATUS_STATE = 5) (hsel : s.selected ≠ s.preferred)
    (hq : s.qualified s.preferred = true) (hrev : s.flag Fld.PWR_FEED_CFG_REVERT_EN = true) :
    exec .revertDelayExpire s = done (s.begin.planned.hsTransition s.begin.planned.hsCond) := by
  have harm : exec .revertDelayExpire s = execRevertDelayExpire s := rfl
  rw [harm, execRevertDelayExpire, State.inHs_of_mem _ haux (by simp [hst]), if_pos (by simp [hsel, hq, hrev])]
  rfl

theorem switchHoldoffExpire_effect {s : State} (haux : s.hs.auxUp = true) (hst : s.get Fld.PWR_HS_STATUS_STATE = 5) (hp : s.hs.planned = true) :
    exec .switchHoldoffExpire s = done (s.begin.heldOff.hsTransition s.begin.heldOff.hsCond) := by
  have harm : exec .switchHoldoffExpire s = execSwitchHoldoffExpire s := rfl
  have hst' : s.begin.heldOff.get Fld.PWR_HS_STATUS_STATE = 5 := hst
  have hp' : s.begin.heldOff.hs.planned = true := hp
  rw [harm, execSwitchHoldoffExpire, State.whenAux_of_up _ haux]
  exact congrArg done (if_pos (by rw [Bool.and_eq_true]; exact ⟨decide_eq_true hst', hp'⟩))

/-- Settles O1, clause by clause along the rows of the state table. -/
theorem powerSwitching : Obligations.PowerSwitching := by
  unfold Obligations.PowerSwitching
  intro s haux
  refine ⟨fun hL hR hst => ?_, fun hL hR hst => ?_, fun hL hR hst => ?_, fun hL hR hst => ?_, fun hst hsev => ?_, fun hst hsev => ?_,
    fun hst hcalm hclosed hq => ?_, fun hst hcalm => ?_, fun hst hcalm hbus hsel hq hrev hh => ?_, fun hst hcalm hbus hsel hq hrev hh hqs => ?_,
    fun hst hcalm hbus hsel hq hplan => ?_⟩
  · refine answers_done rfl ?_
    obtain ⟨-, hu⟩ := State.hsCond_of_seated (s := s.begin) hL hR
    rw [State.inHs_of_mem _ haux (by simp [hst]), State.hsTransition_seated (by simpa using hst) (by simpa using hu) rfl, State.begin_hs]
    cases hc : s.hs.cooldown
    · refine ⟨?_, by simp [hc], fun _ => ?_, ((Frame.begin s).andHsGoto 3).andPut 0 |>.settle⟩ <;>
        simp (disch := decide) [State.get_settle, State.get_put_lit, State.get_put_clear]
    · refine ⟨?_, by simp [hc], by simp, ((Frame.begin s).andHsGoto 2).settle⟩
      simp (disch := decide) [State.get_settle, State.get_put_lit]
  · refine answers_done rfl ?_
    obtain ⟨hl, -⟩ := State.hsCond_of_seated (s := s.begin) hL hR
    rw [State.inHs_of_mem _ haux (by simp [hst]), State.hsTransition_cooldown (by simpa using hst) (by simpa using hl) rfl]
    refine ⟨?_, ?_, by simp, (((Frame.begin s).andHsGoto 3).andPut 1).andHs _ |>.settle⟩ <;>
      simp (disch := decide) [State.get_settle, State.get_put_lit, State.get_put_clear]
  · refine answers_done rfl ?_
    obtain ⟨hl, -⟩ := State.hsCond_of_seated (s := s.begin) hL hR
    rw [State.inHs_of_mem _ haux (by simp [hst]), State.hsTransition_fault (by simpa using hst) (by simpa using hl) rfl]
    refine ⟨?_, ?_, by simp, (((Frame.begin s).andHsGoto 3).andPut 0).andHs _ |>.settle⟩ <;>
      simp (disch := decide) [State.get_settle, State.get_put_lit, State.get_put_clear]
  · refine answers_done rfl ?_
    rw [State.inHs_of_mem _ haux (by simp [hst]), State.hsTransition_shutdown (by simpa using hst) rfl]
    refine ⟨?_, by simp [State.pathOff], ((Frame.begin s).andHs _).andHsGoto 0 |>.settle⟩
    simp (disch := decide) [State.get_settle, State.get_put_lit]
  · refine answers_done rfl ?_
    rw [State.inHs_of_mem _ haux (by simp [hst]), State.closeTarget, State.begin_hs, hsev]
    exact ⟨by simp, ((Frame.begin s).andHs _).settle⟩
  · refine answers_done rfl ?_
    rw [State.inHs_of_mem _ haux (by simp [hst]), State.closeTarget, State.begin_hs, hsev]
    exact ⟨by simp, (Frame.begin s).settle⟩
  · refine answers_done rfl ?_
    obtain ⟨hl, hsev, -, -⟩ := State.hsCond_of_calm (s := s.begin) (by simpa using hcalm)
    rw [State.inHs_of_mem _ haux (by simp [hst]), State.hsTransition_switching (by simpa using hst) (by simpa using hl) (by simpa using hsev)]
    simp only [State.qualified_begin, State.begin_hs, hq, hclosed, Bool.not_true, Bool.and_false, Bool.and_self, Bool.false_eq_true, if_true, if_false]
    obtain ⟨hstate, hfeed⟩ := s.begin.get_switchDone_state
    rw [State.get_settle _ (by decide), State.get_settle _ (by decide)]
    exact ⟨hstate, hfeed, by simp [State.switchDone_hs, hclosed], (Frame.switchDone s).settle⟩
  · refine answers_done rfl ?_
    obtain ⟨hl, hsev, -, -⟩ := State.hsCond_of_calm (s := s.begin) (by simpa using hcalm)
    rw [State.inHs_of_mem _ haux (by simp [hst]), State.hsTransition_switching (by simpa using hst) (by simpa using hl) (by simpa using hsev)]
    have hfault (n : Nat) : (s.begin.hsFault n).settle.get Fld.PWR_HS_STATUS_STATE = 7 ∧ (s.begin.hsFault n).settle.hs.fetOn = false ∧
        (s.begin.hsFault n).settle.hs.convOn = false ∧ (s.begin.hsFault n).settle.hs.timer = 0 := by
      obtain ⟨hstate, hfet, hconv⟩ := s.begin.hsFault_path n
      rw [State.get_settle _ (by decide), State.settle_hs]
      exact ⟨hstate, hfet, hconv, State.hsFault_timer _ _⟩
    simp only [Bool.not_false, Bool.and_self, if_true]
    split
    · exact hfault 5
    · exact hfault 8
  · refine answers_done (revertDelayExpire_effect haux hst hsel hq hrev) ?_
    rw [State.hsTransition_on_calm (s := s.begin.planned) hst hcalm hbus hq, if_pos (State.switchDue_of_planned (s := s.begin.planned) rfl hh hsel hq)]
    exact ⟨(State.get_settle _ (by decide)).trans (State.hsSwitch_state _), by rw [State.settle_hs, State.hsSwitch_hs]; rfl,
      (((Frame.begin s).andHs _).andHsSwitch).settle⟩
  · refine answers_done (revertDelayExpire_effect haux hst hsel hq hrev) ?_
    have hstays : ¬ s.begin.planned.switchDue = true := by
      have hqs' : s.begin.planned.qualified s.begin.planned.selected = true := hqs
      have hh' : s.begin.planned.hs.holdoff ≠ 0 := hh
      simp [State.switchDue, hqs', hh']
    rw [State.hsTransition_on_calm (s := s.begin.planned) hst hcalm hbus hq, if_neg hstays]
    exact ⟨by simp [State.planned], ((Frame.begin s).andHs _).settle⟩
  · refine answers_done (switchHoldoffExpire_effect haux hst hplan) ?_
    rw [State.hsTransition_on_calm (s := s.begin.heldOff) hst hcalm hbus hq, if_pos (State.switchDue_of_planned (s := s.begin.heldOff) hplan rfl hsel hq)]
    exact ⟨(State.get_settle _ (by decide)).trans (State.hsSwitch_state _), by rw [State.settle_hs, State.hsSwitch_hs]; rfl,
      (((Frame.begin s).andHs _).andHsSwitch).settle⟩

end Sys2Proof.Machine
end

section
/-! PROOFS. Refutations among the statements on start-up and the fault log (O6, O8, O10). -/
namespace Sys2Proof.Machine
open Sys2Proof
set_option Elab.async false

/-! ### Stage 3 (O6, R61) -/

/-- A module at the release of power-on reset whose TCXO is still counted as lost. -/
def tcxoUnsettled : State := { State.reset with clk := { Clk.reset with porAsserted := false, mgmtUp := false, stage3Failed := false, tcxoOk := false } }

/-- Refutes O6: TCXO_SETTLE_EXPIRE also counts the TCXO as present, so where it did not before, more of the clocks changes than the release of the management PLL. -/
theorem not_stageThree : ¬ Obligations.StageThree := by
  unfold Obligations.StageThree
  intro h
  obtain ⟨hsettle, -⟩ := h tcxoUnsettled rfl rfl
  obtain ⟨t, ht, hclk, -⟩ := hsettle rfl rfl
  obtain rfl : _ = t := Host.Outcome.next.inj ht
  exact absurd (congrArg Clk.tcxoOk hclk) (by decide)

/-! ### Stage time-outs (O8, R74) -/

/-- Start-up stands in stage 5 while PERST_N is low. -/
def stageFivePerstLow : State := ({ State.reset with clk := { Clk.reset with mgmtUp := true, perstLow := true } } : State).put Fld.BOOT_STATUS_STAGE 5

theorem stageFivePerstLow_stage : stageFivePerstLow.get Fld.BOOT_STATUS_STAGE = 5 := by decide

/-- The time of stage 5 counts only once PERST_N is high, so the time-out does nothing. -/
theorem stageFivePerstLow_unfailed (t : State) (h : exec .stageTimeout stageFivePerstLow = .next t) : t.get Fld.BOOT_STATUS_FAIL = 0 := by
  obtain rfl : _ = t := Host.Outcome.next.inj h
  decide

/-- Refutes O8: its clause on STAGE_TIMEOUT leaves out that stage 5 does not time out while PERST_N is low. -/
theorem not_startupStages : ¬ Obligations.StartupStages := by
  unfold Obligations.StartupStages
  intro h
  obtain ⟨-, -, -, -, hlate, -⟩ := h stageFivePerstLow rfl rfl rfl
  rw [stageFivePerstLow_stage] at hlate
  obtain ⟨t, ht, hfail, -⟩ := hlate (by decide) (by decide)
  rw [stageFivePerstLow_unfailed t ht] at hfail
  exact absurd hfail (by decide)

/-! ### The fault log (O10, R352, R361) -/

/-- A contained message of the PWR page. -/
def containedMsg : FaultMsg := { kind := 0, cls := 1, source := 3, unit := 0, atype := 0, party := 0, addr := none, ts := 0 }

/-- A state outside the canonical form: FLT_SEQ is listed twice, first at its reset word 0, behind it at 7. An unacknowledged entry of the message's class, source and unit is
in the log. -/
def faultSeqListedTwice : State :=
  { State.reset with regs := [(Addr.FLT_SEQ, 0), (Addr.FLT_SEQ, 7)], clk := { Clk.reset with mgmtUp := true },
                     flt := { Flt.reset with log := [⟨containedMsg, false, 1, false, 0⟩] } }

theorem faultSeqListedTwice_due :
    faultSeqListedTwice.unacked < 1024 ∧ faultSeqListedTwice.escalates containedMsg false = true ∧ faultSeqListedTwice.get Fld.FLT_SEQ_SEQ = 0 := by
  decide

/-- The stop drops the entry of FLT_SEQ that stands at the reset word, and the message is logged under the number after the second one. -/
theorem faultSeqListedTwice_logged (t : State) (h : exec (.faultMessage containedMsg) faultSeqListedTwice = .next t) :
    t.flt.log.head?.map (·.seq) = some 8 := by
  obtain rfl : _ = t := Host.Outcome.next.inj h
  decide

/-- Refutes O10: its clause on an escalated message fails where the register space lists FLT_SEQ twice. The stop on an escalated contained message rebuilds the listed
registers and drops each entry at its reset word, so the second one gives the number. -/
theorem not_faultLog : ¬ Obligations.FaultLog := by
  unfold Obligations.FaultLog
  intro h
  obtain ⟨hunacked, hesc, hseq⟩ := faultSeqListedTwice_due
  obtain ⟨-, hescalated, -⟩ := h faultSeqListedTwice containedMsg rfl rfl rfl
  obtain ⟨t, ht, hlog, -⟩ := hescalated (by decide) hunacked hesc
  have hnumber := congrArg (Option.map LogEntry.seq) hlog
  rw [faultSeqListedTwice_logged t ht, hseq] at hnumber
  exact absurd hnumber (by decide)

end Sys2Proof.Machine
end

section
/-! PROOFS. Refutation of the statement on register accesses (O15). -/
namespace Sys2Proof.Machine
open Sys2Proof
set_option Elab.async false

/-- MGMT runs, keeper core 0 holds a low word of TIME_SET, and source 0 of the interrupt controller was last seen high though its level is low. -/
def timeSetHeld : State :=
  { State.reset with clk := { Clk.reset with mgmtUp := true }, held := [⟨.keeper 0, Addr.TIME_SET_LO, 0⟩], keeper := { Keeper.reset with sampled := [0] } }

theorem timeSetHeld_due :
    timeSetHeld.takes (.keeper 0) 8 = true ∧ timeSetHeld.locked 8 = false ∧ timeSetHeld.heldLow (.keeper 0) Addr.TIME_SET_LO = some 0 ∧
    timeSetHeld.following = false ∧ timeSetHeld.now ≤ (0 : Word).toNat + 2 ^ 32 * (0 : Word).toNat := by
  decide

/-- The command ends by sampling the levels again, and source 0 is seen low. -/
theorem timeSetHeld_sampled (t : State) (h : exec (.timeSetCommit (.keeper 0) 0) timeSetHeld = .next t) : t.keeper.sampled = [] := by
  obtain rfl : _ = t := Host.Outcome.next.inj h
  decide

/-- Refutes O15: its clause on TIME_SET keeps everything of the keeper but the watchdogs, while the end of a command also samples the interrupt levels anew. -/
theorem not_registerReadsAndWrites : ¬ Obligations.RegisterReadsAndWrites := by
  unfold Obligations.RegisterReadsAndWrites
  intro h
  obtain ⟨-, -, -, -, -, -, -, -, -, -, -, -, hcommit, -⟩ := h timeSetHeld (.keeper 0)
  obtain ⟨htakes, hlocked, hheld, hfollowing, hnow⟩ := timeSetHeld_due
  obtain ⟨t, ht, -, hkeeper, -⟩ := hcommit 0 0 htakes hlocked hheld hfollowing hnow
  have hsampled := congrArg Keeper.sampled hkeeper
  rw [timeSetHeld_sampled t ht] at hsampled
  exact List.cons_ne_nil _ _ hsampled.symm

end Sys2Proof.Machine
end

section
/-! PROOFS. Refutation of the statement on the switch core (O21). -/
namespace Sys2Proof.Machine
open Sys2Proof
set_option Elab.async false

/-- A message of tile 0 for endpoint 1. -/
def toEndpoint : Msg := { kind := .own, dst := 65 }

/-- FABRIC runs with the Ehrurn links up and one message waits. The list of the inputs of the endpoints is outside its canonical form: the empty input of endpoint 0 stands in it. -/
def emptyInputListed : State :=
  ({ State.reset with clk := { Clk.reset with mgmtUp := true, fabricHeld := false },
                      fab := { Fabric.reset with sw := { Fabric.reset.sw with waiting := [toEndpoint], iep := [(0, [])] } } } : State).put (Fld.EHR_STATUS_STATE 0) 2

/-- The message is in the input of endpoint 1. -/
def emptyInputAdmitted : State :=
  (emptyInputListed.begin.unwait toEndpoint).modSw fun w => { w with iep := [(0, []), (1, [toEndpoint])] }

theorem emptyInputListed_due :
    emptyInputListed.fabricRuns = true ∧ emptyInputListed.slotFree 0 (2 * 0) = true ∧ emptyInputListed.fab.sw.waiting = [toEndpoint] ∧ ownerOf 0 0 toEndpoint = true := by
  decide

theorem emptyInputListed_idle (i : Fin 4) : nth (mget EhrDir.reset emptyInputListed.fab.sw.ehr (2 * 0)).beats i.val = 0 := by
  revert i; decide

/-- The end of the cycle writes every input again, and the empty one leaves the list. -/
theorem emptyInputListed_iep (t : State) (h : exec (.ehrurnSlotArbitrate 0 false) emptyInputListed = .next t) : t.fab.sw.iep = [(1, [toEndpoint])] := by
  obtain rfl : _ = t := Host.Outcome.next.inj h
  decide

/-- Refutes O21: its first clause says that the inputs of the endpoints stand after the cycle as the admission left them. The cycle writes each of them again in canonical form. -/
theorem not_switchOutput : ¬ Obligations.SwitchOutput := by
  unfold Obligations.SwitchOutput
  intro h
  obtain ⟨hruns, hfree, hwaiting, howner⟩ := emptyInputListed_due
  obtain ⟨hadmitted, -⟩ := h emptyInputListed hruns
  obtain ⟨t, ht, -, -, hiep⟩ := hadmitted 0 toEndpoint 0 emptyInputAdmitted hfree hwaiting (by decide) howner emptyInputListed_idle rfl rfl
  rw [emptyInputListed_iep t ht] at hiep
  exact absurd (congrArg List.length hiep) (by decide)

end Sys2Proof.Machine
end

section
/-! PROOFS. Refutation of the statement on dirty logs (O24). -/
namespace Sys2Proof.Machine
open Sys2Proof
set_option Elab.async false

/-- A harvest of two lines of a log 888, which there is not: its LOG_OFF would be word 4 of DLOG_HBUF. Line 0 has a page marked that this word shows, line 1 another. -/
def harvestPastTheLogs : State :=
  { State.reset with clk := { Clk.reset with mgmtUp := true, fabricHeld := false },
                     fab := { Fabric.reset with dlog := { Fabric.reset.dlog with harvest := some (888, 0, 2), lines := [(0, 2 ^ 128), (1, 1)], touch := [0, 1] } } }

theorem harvestPastTheLogs_first : harvestPastTheLogs.logFirst 888 = 0 := by decide

set_option maxRecDepth 20000 in
/-- The first line moves the log's offset on by a unit, and line 1 is left as it was. -/
theorem harvestPastTheLogs_left (t : State) (h : exec .dlogHarvestDone harvestPastTheLogs = .next t) : t.lineBits 1 = 1 := by
  obtain rfl : _ = t := Host.Outcome.next.inj h
  decide

/-- Refutes O24: its clause on the end of a harvest holds for any log number, and past the 64 logs the buffer that the lines are read into overlaps the log's own offset. -/
theorem not_dirtyLogs : ¬ Obligations.DirtyLogs := by
  unfold Obligations.DirtyLogs
  intro h
  obtain ⟨-, -, -, -, -, -, -, hdone⟩ := h harvestPastTheLogs
  obtain ⟨t, ht, -, -, -, -, hclear⟩ := hdone 888 0 2 rfl rfl (by decide)
  have hline := hclear 1 (by decide)
  rw [harvestPastTheLogs_first, harvestPastTheLogs_left t ht] at hline
  exact absurd hline (by decide)

end Sys2Proof.Machine
end

section
/-! PROOFS. Refutations among the statements on the coherence home (O27, O28, O30). -/
namespace Sys2Proof.Machine
open Sys2Proof
set_option Elab.async false

/-- A module in which MGMT and FABRIC run. -/
def running : State := { State.reset with clk := { Clk.reset with mgmtUp := true, fabricHeld := false } }

/-! ### A snoop that waits for credit (O27, R224) -/

/-- A read with MetaValue A of line 0 of hive 0, by slot 0. -/
def ownRead : Msg := { kind := .memRd, svc := 2, mv := .a, hslot := some 0 }

/-- Hive 0 is ACTIVE, slot 1 owns line 0, the read of slot 0 heads the input of the home, and the privileged FIFO of port group 0, to which the host of slot 1 belongs, is full. -/
def fifoFull : State :=
  (({ running with
      fab := { Fabric.reset with
        sw := { Fabric.reset.sw with iep := [(0, [ownRead])], priv := [(0, List.replicate 128 { kind := .own })] },
        home := { Fabric.reset.home with dir := [(dirKey 0 0, ⟨⟨0, 1, [2, 0, 0, 0], 0⟩, true, 0⟩)] } } } : State).put (Fld.HIVE_STATUS_STATE 0) 2).put (Fld.HOST_STATUS_STATE 1) 2

theorem fifoFull_due :
    fifoFull.serving = true ∧ fifoFull.homeIdle = true ∧ mget [] fifoFull.fab.sw.iep 0 = [ownRead] ∧ fifoFull.hiveState 0 = 2 ∧ fifoFull.hasBuckets 0 = false ∧
    fifoFull.mayHold 0 1 = true ∧ fifoFull.hgen 0 = 0 := by
  decide

set_option maxRecDepth 20000 in
/-- The transaction waits with no snoop under way. -/
theorem fifoFull_waits (t : State) (h : exec (.homeMemRd .clean) fifoFull = .next t) : t.fab.home.snoops = [] := by
  obtain rfl : _ = t := Host.Outcome.next.inj h
  decide

/-- Refutes O27: its clause on a line of another owner has the snoop under way at once, though it waits where the privileged FIFO of its port group has no credit (R224). -/
theorem not_homeRequests : ¬ Obligations.HomeRequests := by
  unfold Obligations.HomeRequests
  intro h
  obtain ⟨hserving, hidle, hiep, hactive, hbuckets, hholds, hgen⟩ := fifoFull_due
  obtain ⟨-, howned, -⟩ := h fifoFull ownRead 0 hserving hidle hiep hactive hbuckets rfl
  obtain ⟨t, ht, -, hsnoops, -⟩ := howned 1 true 0 rfl rfl (by rw [show fifoFull.hgen ownRead.hive = 0 from hgen]; rfl) (by decide) hholds (by decide)
  rw [fifoFull_waits t ht] at hsnoops
  exact absurd hsnoops.symm (List.cons_ne_nil _ _)

/-! ### The load of an answer (O28, R185) -/

/-- A forwarded read whose request was marked with load 1. -/
def markedRead : Msg := { kind := .memRd, svc := 2, devLoad := 1 }

/-- The data of the target, under load 0. -/
def lightData : Msg := { kind := .memData, svc := 4 }

/-- The transaction of the read. -/
def markedTxn : Txn :=
  { id := 0, hive := 0, sector := 0, lines := [0], kind := .request markedRead, parked := false, snooped := [], snoops := [], wbs := [], kept := [], forwarded := true,
    answered := false, queued := false, grants := false }

/-- The home has forwarded the read and its data has come. -/
def markedWaits : State :=
  { running with fab := { Fabric.reset with sw := { Fabric.reset.sw with iep := [(0, [lightData])] },
                                            home := { Fabric.reset.home with fwd := [(0, ⟨false, markedRead, .cmp, false, some 0, false⟩)], txns := [markedTxn] } } }

theorem markedWaits_due :
    markedWaits.serving = true ∧ mget [] markedWaits.fab.sw.iep 0 = [lightData] ∧ (markedWaits.routeOf markedRead).1 = 0 ∧
    (markedWaits.routeOf markedRead).2.1 = 0 ∧ markedWaits.noneLeaving 0 = true := by
  decide

/-- The answers go on under the greater load, the request's mark. -/
theorem markedWaits_loads (t : State) (h : exec (.homeTargetAnswer .clean) markedWaits = .next t) : t.fab.sw.waiting.map (·.devLoad) = [1, 1] := by
  obtain rfl : _ = t := Host.Outcome.next.inj h
  decide

/-- Refutes O28: its clause on the data of a target gives the answers the load of the device, though they go on under the greater of it and the mark of the request (R185). -/
theorem not_homeAnswers : ¬ Obligations.HomeAnswers := by
  unfold Obligations.HomeAnswers
  intro h
  obtain ⟨hserving, hiep, hport, hld, hleaving⟩ := markedWaits_due
  obtain ⟨-, -, hdata, -⟩ := h markedWaits markedRead 0 hserving
  obtain ⟨t, ht, -, -, hwaiting, -⟩ :=
    hdata lightData markedTxn .cmp false hiep rfl rfl rfl rfl hport (fun _ => hld) rfl rfl rfl hleaving (Or.inr (Or.inr rfl))
  have hloads := congrArg (List.map Msg.devLoad) hwaiting
  rw [markedWaits_loads t ht] at hloads
  exact absurd hloads (by decide)

/-! ### A hive that is taken down while it recovers (O30, R234, R237) -/

/-- Hive 0 is RECOVERING with TAIL = 1. -/
def recoveringTail : State := (running.put (Fld.HIVE_STATUS_STATE 0) 3).put (Fld.HIVE_STATUS_TAIL 0) 1

theorem recoveringTail_due :
    recoveringTail.takes (.keeper 0) 0x70 = true ∧ recoveringTail.isActive = true ∧ recoveringTail.hiveServes 0 = true ∧ mget 0 recoveringTail.fab.home.bumps 0 < 255 := by
  decide

set_option maxRecDepth 20000 in
theorem recoveringTail_kept (t : State) (h : exec (.hiveDownWrite (.keeper 0) 0) recoveringTail = .next t) : t.flag (Fld.HIVE_STATUS_TAIL 0) = true := by
  obtain rfl : _ = t := Host.Outcome.next.inj h
  decide

/-- Refutes O30: its clause on DOWN clears TAIL, which a hive taken down in RECOVERING keeps. -/
theorem not_hiveStates : ¬ Obligations.HiveStates := by
  unfold Obligations.HiveStates
  intro h
  obtain ⟨htakes, hactive, hserves, hbumps⟩ := recoveringTail_due
  obtain ⟨-, -, -, hdown, -⟩ := h recoveringTail
  obtain ⟨t, ht, -, -, htail, -⟩ := hdown (.keeper 0) 0 htakes hactive hserves hbumps
  rw [show t.flag (Fld.HIVE_STATUS_TAIL (0 : Hive).val) = true from recoveringTail_kept t ht] at htail
  exact absurd htail (by decide)

end Sys2Proof.Machine
end

section
/-! PROOFS. Refutation of the statement on the mailbox commands (O33). -/
namespace Sys2Proof.Machine
open Sys2Proof
set_option Elab.async false

/-- Box 64 has a Set Timestamp in service, and the time base stands beyond 64 bits. -/
def timePastWord : State :=
  ({ State.reset with clk := { Clk.reset with mgmtUp := true, timeBase := 2 ^ 65 + 1 },
                      mbx := { Mbx.reset with boxes := [(64, { Box.reset with opcode := Opc.setTimestamp })] } } : State).put (Fld.MBX_BOX_STATE_STATE 64) 1

theorem timePastWord_runs : timePastWord.runs 64 Opc.setTimestamp .b = true := by decide

/-- The offset is cut off at 0, and the timestamp does not read 0. -/
theorem timePastWord_stamp (t : State) (h : exec (.setTimestamp 64 0) timePastWord = .next t) : (t.now + t.mbx.tsOffset) % 2 ^ 64 = 1 := by
  obtain rfl : _ = t := Host.Outcome.next.inj h
  decide

/-- Refutes O33: its clause on Set Timestamp fails where the time base, which no clause keeps within 64 bits, has passed 2^65: the offset that it needs is negative and is cut
off at 0. -/
theorem not_mailboxCommands : ¬ Obligations.MailboxCommands := by
  unfold Obligations.MailboxCommands
  intro h
  obtain ⟨-, -, -, -, -, -, -, -, -, -, -, -, -, -, -, -, -, -, -, -, hset, -⟩ := h timePastWord 64
  obtain ⟨t, ht, -, hstamp, -⟩ := hset 0 timePastWord_runs
  rw [timePastWord_stamp t ht] at hstamp
  exact absurd hstamp (by decide)

end Sys2Proof.Machine
end

section
/-! PROOFS. Refutation of the statement on binding and flushes (O36). -/
namespace Sys2Proof.Machine
open Sys2Proof
set_option Elab.async false

/-- VCS 0 has vPPBs 0 and 1; the link of vPPB 1, which is BOUND, is down, and a flush of it has done its own work and waits for that of its port. Box 64 runs an Unbind vPPB. -/
def flushedBound : State :=
  (({ State.reset with
      clk := { Clk.reset with mgmtUp := true, fabricHeld := false },
      mbx := { Mbx.reset with boxes := [(64, { Box.reset with opcode := Opc.unbind, fm := true })] },
      fab := { Fabric.reset with sw := { Fabric.reset.sw with flushes := [(.vppb 1, true)] } } } : State).puts
    [(Fld.MBX_BOX_STATE_STATE 64, 1), (Fld.BOOT_STATUS_FABRIC_READY, 1), (Fld.VCS_ENTRY_CFG_EN 0, 1), (Fld.VCS_ENTRY_SIZE_VPPB_COUNT 0, 2), (Fld.VPPB_STATE_STATE 1, 1)])

theorem flushedBound_due :
    flushedBound.runs 64 Opc.unbind .f = true ∧ flushedBound.engineBusyFor 64 = false ∧ 1 = flushedBound.vppbOf 0 1 ∧
    flushedBound.unbindCheck 0 1 0 = .inr 1 ∧ flushedBound.unbindReady 1 = true := by
  decide

/-- No second flush of the vPPB is begun. -/
theorem flushedBound_flushes (t : State) (h : exec (.unbindOpt0 64 0 1) flushedBound = .next t) : t.fab.sw.flushes = [(.vppb 1, true)] := by
  obtain rfl : _ = t := Host.Outcome.next.inj h
  decide

/-- Refutes O36: its clause on an unbinding that goes on at once shows a flush whose own work is still to do, though a vPPB whose earlier flush waits for that of its port gets
no second one. -/
theorem not_bindingAndFlushes : ¬ Obligations.BindingAndFlushes := by
  unfold Obligations.BindingAndFlushes
  intro h
  obtain ⟨hruns, hidle, hentry, hcheck, hready⟩ := flushedBound_due
  obtain ⟨-, -, -, -, -, hunbind, -⟩ := h flushedBound
  obtain ⟨t, ht, -, -, hflush, -⟩ := hunbind 64 0 1 1 hruns hidle hentry (by decide) hcheck hready
  rw [flushedBound_flushes t ht] at hflush
  exact absurd hflush (by decide)

end Sys2Proof.Machine
end

section
/-! PROOFS. Refutations among the statements on ports and directional sleep (O37, O38). -/
namespace Sys2Proof.Machine
open Sys2Proof
set_option Elab.async false

/-! ### The cable pin of a port group while FABRIC is in reset (O37, R71, R138) -/

/-- FABRIC is in reset, so the page of the port group latches no event. -/
theorem reset_cpres (t : State) (h : exec (.cpresChange 0 true) State.reset = .next t) : t.get (Evt.PORTG_CPRES_CHG 0).field = 0 := by
  obtain rfl : _ = t := Host.Outcome.next.inj h
  decide

/-- Refutes O37: its clause on CPRES sets the event in every state, though the page of the event is of the FABRIC domain and latches nothing while that is in reset. -/
theorem not_portsAndLinks : ¬ Obligations.PortsAndLinks := by
  unfold Obligations.PortsAndLinks
  intro h
  obtain ⟨-, -, -, -, -, -, -, -, -, -, -, -, -, hcpres, -⟩ := h State.reset 0
  obtain ⟨t, ht, -, hevent, -⟩ := hcpres 0 true (by decide)
  rw [show t.get (Evt.PORTG_CPRES_CHG (0 : Pg).val).field = 0 from reset_cpres t ht] at hevent
  exact absurd hevent (by decide)

/-! ### A sleep request that finds the receive direction in REQ (O38, R132) -/

/-- Port 0 is up in L0 with DSX negotiated, a message waits for it, and its receive direction stands in REQ with no request outstanding. -/
def receiveInReq : State :=
  (({ State.reset with
      clk := { Clk.reset with mgmtUp := true, fabricHeld := false },
      fab := { Fabric.reset with up := [0], sw := { Fabric.reset.sw with priv := [(0, [{ kind := .own }])] } } } : State).puts
    [(Fld.PORT_STATUS_LINK 0, 5), (Fld.PORT_DSX_STATUS_NEG 0, 1), (Fld.PORT_DSX_STATUS_RX 0, 1)])

theorem receiveInReq_due :
    receiveInReq.fabricRuns = true ∧ receiveInReq.linkUp 0 = true ∧ receiveInReq.get (Fld.PORT_STATUS_LINK 0) = 5 ∧ receiveInReq.dsxNeg 0 = true ∧
    receiveInReq.dsxTx 0 = 0 ∧ receiveInReq.dsxRx 0 = 1 := by
  decide

/-- The partner asks the transmit direction to sleep. -/
def sleepAsked : Vdm := dsxMessage .sleepReq 1 0 1

/-- The receive direction returns to AWAKE before the request is answered. -/
theorem receiveInReq_roused (t : State) (h : exec (.dsxSleepReqRx 0 sleepAsked) receiveInReq = .next t) : t.dsxRx 0 = 0 := by
  obtain rfl : _ = t := Host.Outcome.next.inj h
  decide

/-- Refutes O38: its clause on a request for the transmit direction leaves the receive direction as it is, which a request that proceeds takes out of REQ. -/
theorem not_directionalSleep : ¬ Obligations.DirectionalSleep := by
  unfold Obligations.DirectionalSleep
  intro h
  obtain ⟨hruns, hup, hlink, hneg, htx, hrx⟩ := receiveInReq_due
  obtain ⟨-, -, -, -, -, -, -, -, -, -, -, -, -, -, -, -, -, -, -, -, -, -, -, -, -, -, -, hasked, -⟩ := h receiveInReq 0 hruns hup (by rw [show receiveInReq.get (Fld.PORT_STATUS_LINK (0 : Port).val) = 5 from hlink]; decide)
  obtain ⟨t, ht, -, -, hframe⟩ := hasked sleepAsked (by decide) (by decide) (by decide) (by decide) hneg hlink rfl rfl (by decide) htx
  have hkept : t.dsxRx 0 = receiveInReq.dsxRx 0 := hframe.2 (Fld.PORT_DSX_STATUS_RX 0) (by decide) (by unfold Field.apart; decide) fun f hf => by
    obtain rfl := List.mem_singleton.1 hf
    unfold Field.apart
    decide
  rw [receiveInReq_roused t ht, hrx] at hkept
  exact absurd hkept (by decide)

end Sys2Proof.Machine
end

section
/-! PROOFS. Refutations among the statements on roles, descriptors and the debug port (O45, O48, O51). -/
namespace Sys2Proof.Machine
open Sys2Proof
set_option Elab.async false

/-! ### The end of a planned swap with an unknown region (O45, R327, R332) -/

/-- The module has handed over in SWAPPING and receives Waggle blocks. -/
def handedOver : State :=
  ({ State.reset with
      clk := { Clk.reset with mgmtUp := true, fabricHeld := false },
      fab := { Fabric.reset with pair := { Fabric.reset.pair with handover := true } } } : State).puts
    [(Fld.TDM_ROLE_STATE, 8), (Fld.WAGGLE_CFG_EN, 1), (Fld.TIME_CFG_FOLLOW_EN, 0)]

/-- The partner is ACTIVE_SOLO, and its RSYNC names region 16. -/
def resyncingPartner : WBlock := { state := 2, strap := false, modId := 0, msg := 0, hseq := 0, low := 0, rmask := 0, rsync := 2 ^ 16, tsTx := 0, echoTx := 0, echoRx := 0 }

theorem handedOver_due :
    handedOver.fabricRuns = true ∧ handedOver.get Fld.TIME_STATUS_SRC = 0 ∧ handedOver.flag Fld.TIME_CFG_FOLLOW_EN = false ∧
    handedOver.flag Fld.WAGGLE_CFG_EN = true ∧ handedOver.flag (Fld.LANE_STATUS_FAILED 264) = false ∧ handedOver.role = 8 := by
  decide

set_option maxRecDepth 20000 in
theorem resyncingPartner_crc : (BitVec.ofNat 16 (crc16 resyncingPartner.symbols)).toNat = crc16 resyncingPartner.symbols := by
  decide

set_option maxRecDepth 20000 in
/-- The module enters STANDBY, and leaves it at once for STANDBY_SYNC: region 16 is unknown. -/
theorem handedOver_syncs (t : State) (h : exec (.waggleBlockRx resyncingPartner (BitVec.ofNat 16 (crc16 resyncingPartner.symbols)) false) handedOver = .next t) :
    t.role = 4 := by
  obtain rfl : _ = t := Host.Outcome.next.inj h
  decide

/-- Refutes O45: its clause on the end of a swap has the module in STANDBY, whatever regions the partner's block tells to be unknown; with one of regions 16 to 19 among them
the module is synchronized anew. -/
theorem not_rolesAndSwap : ¬ Obligations.RolesAndSwap := by
  unfold Obligations.RolesAndSwap
  intro h
  obtain ⟨hruns, hsrc, hfollow, hen, hlane, hrole⟩ := handedOver_due
  obtain ⟨-, -, -, -, -, -, -, -, -, -, -, -, -, -, -, -, -, -, -, -, -, -, -, -, -, -, -, -, -, -, hswap, -⟩ := h handedOver hruns hsrc hfollow
  obtain ⟨t, ht, hstandby, -⟩ := hswap resyncingPartner _ hen hlane resyncingPartner_crc hrole rfl rfl
  rw [handedOver_syncs t ht] at hstandby
  exact absurd hstandby (by decide)

/-! ### HEAD in a ring longer than its field counts (O48, R293, R302) -/

/-- A NOP that has been performed, with an interrupt. -/
def performedNop : DescRun :=
  { desc := { op := 3, intr := true, fence := false, pasidV := false, pasid := 0, src := 0, dst := 0, len := 1, pattern := [], cmpl := 0, user := 0, reservedZero := true },
    void := false, next := 1, parts := [], allowed := 0, zread := 0, done := Completion.start 0 0 }

/-- Channel 0 of mover function 0 runs it in a ring of SIZE 15, with HEAD at the end of its field. -/
def longRing : State :=
  ({ State.reset with
      clk := { Clk.reset with mgmtUp := true, fabricHeld := false },
      fab := { Fabric.reset with mover := { Fabric.reset.mover with runs := [(0, [(0, performedNop)])] } } } : State).puts
    [(Fld.VF_CFG_EN 0, 1), (Fld.VF_CFG_KIND 0, 1), (Fld.VF_RES_COUNT 0, 1), (Fld.CH_STATUS_STATE 0, 2), (Fld.CH_RING_CFG_SIZE 0, 15), (Fld.CH_HEAD_HEAD 0, 65535)]

theorem longRing_due :
    longRing.serving = true ∧ longRing.chanVf 0 = some 0 ∧ longRing.chState 0 = 2 ∧ performedNop.over = true ∧
    (longRing.chHead 0 + 1) % longRing.ringSize 0 = 65536 := by
  decide

/-- HEAD holds 16 bits. -/
theorem longRing_wraps (t : State) (h : exec (.moverCompletion 0 false) longRing = .next t) : t.chHead 0 = 0 := by
  obtain rfl : _ = t := Host.Outcome.next.inj h
  decide

/-- Refutes O48: its clause on a completion with an interrupt moves HEAD on modulo the ring for any SIZE, and a ring of SIZE 13 or more is longer than HEAD counts. -/
theorem not_moverDescriptors : ¬ Obligations.MoverDescriptors := by
  unfold Obligations.MoverDescriptors
  intro h
  obtain ⟨hserving, hvf, hstate, hover, hnext⟩ := longRing_due
  obtain ⟨-, -, -, -, -, -, -, -, hintr, -⟩ := h longRing 0 hserving
  obtain ⟨t, ht, hhead, -⟩ := hintr 0 0 performedNop _ hvf rfl hover (by decide) hstate rfl rfl
  rw [show t.chHead (0 : Chan).val = 0 from longRing_wraps t ht, show (longRing.chHead (0 : Chan).val + 1) % longRing.ringSize (0 : Chan).val = 65536 from hnext] at hhead
  exact absurd hhead (by decide)

/-! ### The token registers (O51, R412) -/

/-- The island serves, and the register space lists an entry between two words of the token registers. -/
def strayEntry : State :=
  ({ State.reset with regs := [(Addr.SEC_DBG_TOKEN 0 + 1, 1)], clk := { Clk.reset with mgmtUp := true } } : State).put Fld.SEC_STATUS_SELFTEST 1

theorem strayEntry_due :
    strayEntry.takes .board 7 = true ∧ strayEntry.secUp = true ∧ strayEntry.get Fld.SEC_DBG_STATUS_STATE = 0 ∧ strayEntry.get ⟨Addr.SEC_DBG_TOKEN 0 + 1, 0, 1⟩ = 1 := by
  decide

/-- The unlock drops every listed entry from the first to the last token register. -/
theorem strayEntry_dropped (t : State) (h : exec (.dbgUnlock .board) strayEntry = .next t) : t.get ⟨Addr.SEC_DBG_TOKEN 0 + 1, 0, 1⟩ = 0 := by
  obtain rfl : _ = t := Host.Outcome.next.inj h
  decide

/-- The entry lies at the address of no word. -/
theorem apart_stray {f : Field}
    (hf : f ∈ [Fld.SEC_DBG_STATUS_STATE, Fld.SEC_DBG_STATUS_CAUSE] ++ (List.range 1871).map fun k => Field.all (Addr.SEC_DBG_TOKEN k)) :
    (⟨Addr.SEC_DBG_TOKEN 0 + 1, 0, 1⟩ : Field).apart f := by
  refine .inl ?_
  rcases List.mem_append.1 hf with hf | hf
  · rcases List.mem_pair.1 hf with rfl | rfl <;> decide
  · obtain ⟨k, -, rfl⟩ := List.mem_map.1 hf
    simp only [Field.all, Addr.SEC_DBG_TOKEN]
    omega

/-- Refutes O51: its clause on an unlock leaves all but the words of the token registers as they are, and the unlock drops every entry the register space lists in their range,
one at an address that is no word's with them. -/
theorem not_debugPort : ¬ Obligations.DebugPort := by
  unfold Obligations.DebugPort
  intro h
  obtain ⟨htakes, hup, hstate, hone⟩ := strayEntry_due
  obtain ⟨-, -, -, -, hunlock, -⟩ := h strayEntry
  obtain ⟨t, ht, -, -, -, hframe⟩ := hunlock .board htakes rfl hup (by rw [hstate]; decide) (by rw [hstate]; decide) (by rw [hstate]; decide)
  have hkept := hframe.2 ⟨Addr.SEC_DBG_TOKEN 0 + 1, 0, 1⟩ (by decide) (by unfold Field.apart; decide) fun f hf => apart_stray hf
  rw [strayEntry_dropped t ht, hone] at hkept
  exact absurd hkept (by decide)

end Sys2Proof.Machine
end

section
/-! PROOFS. What a command answers, from its effect and its frame; what an event reads once it is raised. -/
namespace Sys2Proof.Machine
open Sys2Proof
set_option Elab.async false

/-! ### Answers from effects -/

section
variable {c : Instr} {s x : State} {ps : List Part} {fs : List Field} {f : State → State} {P : State → Prop}

theorem answers_mgmt (he : exec c s = done (s.begin.whenMgmt f)) (h : s.clk.mgmtUp = true) (hfx : f s.begin = x) (hp : P x.settle) : Answers c s P := by
  subst hfx
  exact answers_of_eq (he.trans (done_whenMgmt f h)) hp

theorem answers_guard {m : Master} {pg : Nat} (he : exec c s = done (s.begin.guard m pg f)) (h : s.takes m pg = true) (hfx : f s.begin = x)
    (hx : Frame ps fs s x) (hd : x.fab.home.dir = s.fab.home.dir) (hf : ∀ g ∈ fs, regionOf g.addr = none) (hp : Frame ps fs s x.settle → P x.settle) :
    Answers c s P := by
  subst hfx
  exact answers_of_eq (he.trans (done_guard_frame h hx hf hd)) (hp hx.settle)

theorem answers_fabric (he : exec c s = done (s.begin.whenFabric f)) (h : s.fabricRuns = true) (hfx : f s.begin = x)
    (hx : Frame ps fs s x) (hd : x.fab.home.dir = s.fab.home.dir) (hf : ∀ g ∈ fs, regionOf g.addr = none) (hp : Frame ps fs s x.settle → P x.settle) :
    Answers c s P := by
  subst hfx
  exact answers_of_eq (he.trans (done_whenFabric_frame h hx hf hd)) (hp hx.settle)

theorem answers_active (he : exec c s = done (s.begin.whenActive f)) (h : s.fabricRuns = true) (ha : s.isActive = true) (hfx : f s.begin = x)
    (hx : Frame ps fs s x) (hd : x.fab.home.dir = s.fab.home.dir) (hf : ∀ g ∈ fs, regionOf g.addr = none) (hp : Frame ps fs s x.settle → P x.settle) :
    Answers c s P := by
  subst hfx
  exact answers_of_eq (he.trans (done_whenActive_frame h ha hx hf hd)) (hp hx.settle)

end

/-! ### Frames, one operation at a time -/

namespace Frame
variable {ps : List Part} {fs : List Field} {s t : State}

theorem andEmit (h : Frame ps fs s t) (x : Output) (hp : Part.out ∈ ps := by simp) : Frame ps fs s (t.emit x) := h.emit x hp
theorem andCount (h : Frame ps fs s t) (c n : Nat) (hp : Part.ctrs ∈ ps := by simp) : Frame ps fs s (t.count c n) := h.count c n hp
theorem andUsed (h : Frame ps fs s t) (n : Nat) (hp : Part.free ∈ ps := by simp) : Frame ps fs s (t.used n) := h.used n hp
theorem andPutFlag (h : Frame ps fs s t) {f : Field} (v : Bool) (hf : f ∈ fs := by simp) : Frame ps fs s (t.putFlag f v) := h.putFlag v hf
theorem andAddSat (h : Frame ps fs s t) {f : Field} (v : Nat) (hf : f ∈ fs := by simp) : Frame ps fs s (t.addSat f v) := h.addSat v hf
theorem andSetWord (h : Frame ps fs s t) {a : Nat} (w : Word) (hf : Field.all a ∈ fs := by simp) : Frame ps fs s (t.setWord a w) := h.setWord w hf
theorem andPut64 (h : Frame ps fs s t) {a : Nat} (v : Nat) (hf : Field.all a ∈ fs := by simp) (hf' : Field.all (a + 4) ∈ fs := by simp) :
    Frame ps fs s (t.put64 a v) := h.put64 v hf hf'
theorem andModPair (h : Frame ps fs s t) (f : Pair → Pair) (hp : Part.pair ∈ ps := by simp) : Frame ps fs s (t.modPair f) := h.modPair f hp
theorem andNvWrote (h : Frame ps fs s t) (n : Nat) (hp : Part.nv ∈ ps := by simp) (hf : Fld.NVS_WEAR_UNITS ∈ fs := by simp)
    (hf' : Evt.NVS_WEAR_HIGH.field ∈ fs := by simp) : Frame ps fs s (t.nvWrote n) := h.nvWrote n hp hf hf'

end Frame

/-! ### Counters -/

section
variable (s : State) (c : Nat)

@[simp] theorem State.counter_begin : s.begin.counter c = s.counter c := rfl
@[simp] theorem State.counter_settle : s.settle.counter c = s.counter c := State.counter_congr (by simp) c
@[simp] theorem State.counter_emit (x : Output) : (s.emit x).counter c = s.counter c := rfl
@[simp] theorem State.counter_used (n : Nat) : (s.used n).counter c = s.counter c := rfl
@[simp] theorem State.counter_put (f : Field) (v : Nat) : (s.put f v).counter c = s.counter c := State.counter_congr (by simp) c
@[simp] theorem State.counter_setWord (a : Nat) (w : Word) : (s.setWord a w).counter c = s.counter c := State.counter_congr (by simp) c
@[simp] theorem State.counter_raise (e : Event) : (s.raise e).counter c = s.counter c := State.counter_congr (by simp) c
@[simp] theorem State.counter_raiseIf (b : Bool) (e : Event) : (s.raiseIf b e).counter c = s.counter c := State.counter_congr (by simp) c
@[simp] theorem State.counter_modPair (f : Pair → Pair) : (s.modPair f).counter c = s.counter c := rfl
@[simp] theorem State.counter_sendFault (m : FaultMsg) : (s.sendFault m).counter c = s.counter c := State.counter_congr (by simp) c

end

/-! ### Fault messages (R345, R357) -/

theorem State.sendFault_flt_of_up {s : State} (m : FaultMsg) (h : s.clk.mgmtUp = true) : (s.sendFault m).flt = { s.flt with net := s.flt.net ++ [m] } := by
  unfold State.sendFault
  rw [h]
  cases s.live m.source <;> simp

theorem State.sendFault_of_down {s : State} (m : FaultMsg) (h : s.clk.mgmtUp = false) : s.sendFault m = s := by simp [State.sendFault, h]

/-- A capture writes its page's first-error registers alone, at offsets 0x80 to 0x94 (R357). -/
theorem State.word_captureFirst (s : State) (m : FaultMsg) {a : Nat} (h : a < m.source * 0x10000 + 0x80 ∨ m.source * 0x10000 + 0x98 ≤ a) :
    (s.captureFirst m).word a = s.word a := by
  unfold State.captureFirst
  dsimp only
  split
  · rfl
  · split
    · rfl
    · rw [State.put64, State.word_setWord_other, State.word_setWord_other, State.word_puts_other]
      · simp only [List.mem_cons, List.not_mem_nil, or_false, forall_eq_or_imp, forall_eq, Fld.ERR_FIRST_ADDR_LO_ADDR, Addr.ERR_FIRST_ADDR_LO,
          Fld.ERR_FIRST_ADDR_HI_ADDR, Addr.ERR_FIRST_ADDR_HI, Fld.ERR_FIRST_MASTER_MASTER, Fld.ERR_FIRST_MASTER_UNIT, Addr.ERR_FIRST_MASTER,
          Fld.ERR_FIRST_ATYPE_KIND, Fld.ERR_FIRST_ATYPE_CLASS, Fld.ERR_FIRST_ATYPE_ATYPE, Fld.ERR_FIRST_ATYPE_VALID, Addr.ERR_FIRST_ATYPE]
        omega
      · simp only [Addr.ERR_FIRST_TS_LO]; omega
      · simp only [Addr.ERR_FIRST_TS_LO]; omega

theorem State.word_sendFault (s : State) (m : FaultMsg) {a : Nat} (h : a < m.source * 0x10000 + 0x80 ∨ m.source * 0x10000 + 0x98 ≤ a) :
    (s.sendFault m).word a = s.word a := by
  unfold State.sendFault
  split
  · rfl
  · dsimp only
    split
    · exact State.word_captureFirst s m h
    · rfl

theorem State.get_sendFault (s : State) (m : FaultMsg) {g : Field} (h : g.addr < m.source * 0x10000 + 0x80 ∨ m.source * 0x10000 + 0x98 ≤ g.addr) :
    (s.sendFault m).get g = s.get g := by
  simp only [State.get, State.word_sendFault s m h]

/-! ### Events -/

/-- An event that its page implements reads 1 once it is raised, while the page's domain is out of reset (R441). -/
theorem State.get_raise_same {s : State} {e : Event} (hl : s.live e.page = true) (hm : (pageEvtMask e.page).testBit e.bit = true) (hb : e.bit < 32) :
    (s.raise e).get e.field = 1 := by
  have h := State.testBit_raise s hl hm hb
  simp only [State.get, Event.field]
  rw [bitsOf, Nat.pow_one, ← Nat.toNat_testBit, h]
  rfl

end Sys2Proof.Machine
end

section
/-! PROOFS. Register access messages over MCTP (O16, R433). -/
namespace Sys2Proof.Machine
open Sys2Proof
set_option Elab.async false

/-- With management running, a message over a path that carries it takes effect, or is answered with the status of its refusal. -/
theorem State.mctp_of_runs {s : State} {q : MctpMsg} (f : State → State) (h : s.mgmtRuns = true) (hv : q.vdm = false) :
    done (s.begin.mctp q f) = done (if q.status = 0 then f s.begin else s.begin.emit (.mctp q.tag q.status [])) := by
  obtain ⟨hup, hstop⟩ : s.clk.mgmtUp = true ∧ s.clk.mgmtStopped = false := by simpa [State.mgmtRuns] using h
  simp [State.mctp, State.whenMgmt, hup, hstop, hv]

theorem State.mctp_of_vdm {s : State} {q : MctpMsg} (f : State → State) (h : s.mgmtRuns = true) (hv : q.vdm = true) :
    done (s.begin.mctp q f) = done (s.begin.count (Ctr.SECC 3 0)) := by
  obtain ⟨hup, hstop⟩ : s.clk.mgmtUp = true ∧ s.clk.mgmtStopped = false := by simpa [State.mgmtRuns] using h
  simp [State.mctp, State.whenMgmt, hup, hstop, hv]

theorem Frame.andLatches {fs : List Field} {ps : List Part} {s t : State} (h : Frame ps fs s t) (x : List PairLatch) (hp : Part.latches ∈ ps := by simp) :
    Frame ps fs s { t with latches := x } := h.part .latches hp rfl fun p hne hs => by cases p <;> simp_all [State.Same]

/-- A read by the board changes its latch alone. -/
theorem Frame.andSoftReadBoard {fs : List Field} {ps : List Part} {s t : State} (h : Frame ps fs s t) (a : Nat) (hp : Part.latches ∈ ps := by simp) :
    Frame ps fs s (t.softRead .board a).1 := by
  unfold State.softRead
  split
  · exact h
  · split
    · exact h
    · split
      · rename_i hpol
        exact absurd hpol (by simp)
      · split
        · exact h
        · exact h.andLatches _ hp
        · split
          · exact h.andLatches _ hp
          · exact h

theorem Frame.andReadWords {fs : List Field} {ps : List Part} {s t : State} (h : Frame ps fs s t) (a n : Nat) (hp : Part.latches ∈ ps := by simp) :
    Frame ps fs s (t.readWords a n).1 := by
  induction n with
  | zero => exact h
  | succ n ih => exact ih.andSoftReadBoard _ hp

/-- Settles O16: the guard of a message decides, then the frame of the reads. -/
theorem mctpAccess : Obligations.MctpAccess := by
  unfold Obligations.MctpAccess
  intro s q h
  refine ⟨fun hv hq => ?_, fun hv => ?_, fun hv hq => ?_, fun hv hq hl => ?_, fun hv hq => ?_⟩
  · refine answers_of_eq (State.mctp_of_runs _ h hv) ?_
    rw [if_neg hq]
    exact ⟨by simp, ((Frame.begin s).andEmit _).settle⟩
  · refine answers_of_eq (State.mctp_of_vdm _ h hv) ?_
    exact ⟨by simp, ((Frame.begin s).andCount _ _).settle⟩
  · refine answers_of_eq (State.mctp_of_runs _ h hv) ?_
    rw [if_pos hq]
    have hf := (Frame.begin s (ps := [.latches]) (fs := [])).andReadWords q.addr.toNat q.count
    have hout : (s.begin.readWords q.addr.toNat q.count).1.out = [] := hf.1 .out (by simp)
    exact ⟨by simp [hout], ((hf.mono (by simp) (by simp)).andEmit _).settle⟩
  · refine answers_of_eq (State.mctp_of_runs _ h hv) ?_
    rw [if_pos hq, if_pos hl]
  · refine answers_of_eq (State.mctp_of_runs _ h hv) ?_
    rw [if_neg hq]
    exact ⟨by simp, ((Frame.begin s).andEmit _).settle⟩

end Sys2Proof.Machine
end

section
/-! PROOFS. Reading events and messages after a chain of operations: the side conditions are closed facts or the domain's being out of reset. -/
namespace Sys2Proof.Machine
open Sys2Proof
set_option Elab.async false

theorem State.live_of_mgmtUp {s : State} {pg : Nat} (h : s.clk.mgmtUp = true) (hd : pageDomain pg = .mgmt) : s.live pg = true := by
  simp [State.live, hd, h]

theorem State.live_of_fabricRuns {s : State} {pg : Nat} (h : s.fabricRuns = true) (hd : pageDomain pg = .fabric) : s.live pg = true := by
  have h31 : s.live 0x31 = true := by
    simp only [State.fabricRuns, Bool.and_eq_true] at h
    exact h.1
  have hf : pageDomain 0x31 = .fabric := by decide
  simpa [State.live, hd, hf] using h31

/-- An event of a page of MGMT reads 1 once raised, with MGMT out of reset. -/
theorem State.get_raise_mgmt {s : State} {e : Event} (h : s.clk.mgmtUp = true) (hd : pageDomain e.page = .mgmt) (hm : (pageEvtMask e.page).testBit e.bit = true)
    (hb : e.bit < 32) : (s.raise e).get e.field = 1 := State.get_raise_same (State.live_of_mgmtUp h hd) hm hb

/-- An event of a page of FABRIC reads 1 once raised, with FABRIC running. -/
theorem State.get_raise_fabric {s : State} {e : Event} (h : s.clk.mgmtUp = true) (hh : s.clk.fabricHeld = false) (hd : pageDomain e.page = .fabric)
    (hm : (pageEvtMask e.page).testBit e.bit = true) (hb : e.bit < 32) : (s.raise e).get e.field = 1 :=
  State.get_raise_same (by simp [State.live, hd, h, hh]) hm hb

theorem State.fabricRuns_iff {s : State} : s.fabricRuns = true ↔ s.clk.mgmtUp = true ∧ s.clk.fabricHeld = false ∧ s.clk.mgmtStopped = false := by
  have hf : pageDomain 0x31 = .fabric := by decide
  simp [State.fabricRuns, State.live, hf, and_assoc]

theorem State.get_raise_clear (s : State) {e : Event} {g : Field} (h : g.clearOf e.field = true) : (s.raise e).get g = s.get g := by
  obtain ⟨hg, ha⟩ := Field.clearOf_iff.mp h
  exact State.get_raise_apart s hg ha

theorem State.get_raiseIf_clear (s : State) {c : Bool} {e : Event} {g : Field} (h : g.clearOf e.field = true) : (s.raiseIf c e).get g = s.get g := by
  obtain ⟨hg, ha⟩ := Field.clearOf_iff.mp h
  exact State.get_raiseIf_apart s hg ha

/-- A message reads the time base alone (R346). -/
theorem State.message_congr {s t : State} (h : t.clk = s.clk) (k c src u a p : Nat) (ad : Option Nat) : t.message k c src u a p ad = s.message k c src u a p ad := by
  simp [State.message, State.now, h]

@[simp] theorem State.message_source (s : State) (k c src u a p : Nat) (ad : Option Nat) : (s.message k c src u a p ad).source = src := rfl

end Sys2Proof.Machine
end

section
/-! PROOFS. Parameter commits and uncorrectable errors of the NV store (O18, R366, R449, R450). -/
namespace Sys2Proof.Machine
open Sys2Proof
set_option Elab.async false

/-- What a commit starts (R449): the older copy is invalid while it is written. -/
def Nv.commitStarted (n : Nv) (w : List Nat) : Nv :=
  if paramsOk w then { n.setParam n.olderCopy { (if n.olderCopy = 0 then n.param0 else n.param1) with bad := true } with commit := some (some w) }
  else { n with commit := some none }

theorem Nv.commitStarted_commit (n : Nv) (w : List Nat) : (n.commitStarted w).commit = some (if paramsOk w then some w else none) := by
  unfold Nv.commitStarted
  split <;> rfl

theorem State.writeNvsCmd_starts {s : State} {m : Master} {v : Nat} (hm : m.keeperOrBoard = true) (hop : bitsOf v 0 4 = 1) (hconf : bitsOf v 24 8 = 0x5A)
    (hidle : s.get Fld.NVS_CMD_STATUS_STATE ≠ 1) :
    s.writeNvsCmd m v = { s.put Fld.NVS_CMD_STATUS_STATE 1 with nv := s.nv.commitStarted (paramWords (tabulate 14 fun k => (s.word (Addr.NVS_PARAM k)).toNat)) } := by
  unfold State.writeNvsCmd Nv.commitStarted
  have hg : (!m.keeperOrBoard || bitsOf v 24 8 != 0x5A || bitsOf v 0 4 != 1 || s.get Fld.NVS_CMD_STATUS_STATE == 1) = false := by
    simp [hm, hop, hconf, hidle]
  rw [hg]
  cases hp : paramsOk (paramWords (tabulate 14 fun k => (s.word (Addr.NVS_PARAM k)).toNat)) <;> simp [hp]

theorem State.nvWrote_nv (s : State) (k : Nat) : (s.nvWrote k).nv = { s.nv with writes := mput 0 s.nv.writes k (mget 0 s.nv.writes k + 1) } := by
  unfold State.nvWrote
  dsimp only
  split <;> simp

/-- The NV store once a commit has ended well: the older copy holds the new block (R449). -/
def Nv.commitEnded (n : Nv) (w : List Nat) : Nv := { n.setParam n.olderCopy ⟨n.newBlock w, false⟩ with commit := none }

theorem State.endCommit_refused {s : State} (h : s.nv.commit = some none) :
    s.endCommit = (({ s with nv := { s.nv with commit := none } } : State).put Fld.NVS_CMD_STATUS_STATE 3).raise Evt.NVS_CMD_DONE := by
  simp [State.endCommit, h]

theorem State.endCommit_done {s : State} {w : List Nat} (h : s.nv.commit = some (some w)) :
    s.endCommit = ((({ s with nv := s.nv.commitEnded w } : State).nvWrote s.nv.olderCopy).put Fld.NVS_CMD_STATUS_STATE 2).raise Evt.NVS_CMD_DONE := by
  simp [State.endCommit, h, Nv.commitEnded]

theorem Nv.commitEnded_copies (n : Nv) (w : List Nat) :
    (if n.olderCopy = 0 then (n.commitEnded w).param0 else (n.commitEnded w).param1) = ⟨n.newBlock w, false⟩ ∧
    (if n.olderCopy = 0 then (n.commitEnded w).param1 = n.param1 else (n.commitEnded w).param0 = n.param0) := by
  unfold Nv.commitEnded Nv.setParam
  split <;> exact ⟨rfl, rfl⟩

/-- Settles O18: the start and the two ends of a commit, and the error of an item. -/
theorem nvStore : Obligations.NvStore := by
  unfold Obligations.NvStore
  intro s
  refine ⟨fun m value htk hm hop hconf hidle => ?_, fun hup hc => ?_, fun w hup hc => ?_, fun item hup => ?_⟩
  · refine answers_guard rfl htk (State.writeNvsCmd_starts hm hop hconf (by simpa using hidle)) (((Frame.begin s).andPut 1).nv _ (by simp)) (by simp) (by decide)
      fun hf => ⟨?_, ?_, hf⟩
    · simp (disch := decide) [State.get_settle, State.get_put_lit]
    · simp [Nv.commitStarted_commit]
  · refine answers_mgmt rfl hup (State.endCommit_refused (s := s.begin) (by simpa using hc)) ⟨?_, ?_, ?_, ?_⟩
    · simp (disch := decide) [State.get_settle, State.get_raise, State.get_put_lit]
    · rw [State.get_settle _ (by decide), State.get_raise_mgmt (by simpa using hup) rfl (by decide) (by decide)]
    · simp
    · exact ((((Frame.begin s).nv _ (by simp)).andPut 3).andRaise).settle
  · refine answers_mgmt rfl hup (State.endCommit_done (s := s.begin) (by simpa using hc)) ⟨?_, ?_, ?_, ?_, ?_, ?_⟩
    · simp (disch := decide) [State.get_settle, State.get_raise, State.get_put_lit]
    · rw [State.get_settle _ (by decide), State.get_raise_mgmt (by simpa using hup) rfl (by decide) (by decide)]
    · simp [State.nvWrote_nv, Nv.commitEnded]
    · simpa [State.nvWrote_nv] using (s.nv.commitEnded_copies w).1
    · simpa [State.nvWrote_nv] using (s.nv.commitEnded_copies w).2
    · exact ((((Frame.begin s).nv _ (by simp)).andNvWrote _).andPut 2).andRaise.settle
  · refine answers_mgmt rfl hup rfl ⟨?_, ?_, ?_⟩
    · simp
    · rw [State.get_settle _ (by decide), State.get_sendFault _ _ (by simp; decide), State.get_raise_mgmt (by simpa using hup) rfl (by decide) (by decide)]
    · rw [State.settle_flt]
      rw [State.sendFault_flt_of_up _ (by simpa using hup)]
      simp [State.message, State.now]

end Sys2Proof.Machine
end

section
/-! PROOFS. Watchdogs, timers and the policy partition (O13, R371, R373, R375, R393). -/
namespace Sys2Proof.Machine
open Sys2Proof
set_option Elab.async false

theorem bitsOf_one (n i : Nat) : bitsOf n i 1 = (n.testBit i).toNat := by
  rw [bitsOf, Nat.pow_one, ← Nat.toNat_testBit]

theorem bitsOf_one_of_getLsbD {n : Nat} {w : BitVec n} {i : Nat} (h : w.getLsbD i = true) : bitsOf w.toNat i 1 = 1 := by
  rw [bitsOf_one, BitVec.testBit_toNat, h]
  rfl

/-- The state with MTIMECMP of a core (R372). -/
def State.withTimeCmp (s : State) (c cmp : Nat) : State := { s with keeper := { s.keeper with mtimecmp := mput 0 s.keeper.mtimecmp c cmp } }

/-- The timer interrupts with that of a core raised, or ended (R373). -/
def Keeper.timerOn (k : Keeper) (c : Nat) : Keeper := { k with timerIrq := if k.timerIrq.contains c then k.timerIrq else c :: k.timerIrq }
def Keeper.timerOff (k : Keeper) (c : Nat) : Keeper := { k with timerIrq := k.timerIrq.filter fun x => x != c }

theorem Keeper.mem_timerOn (k : Keeper) (c : Nat) : c ∈ (k.timerOn c).timerIrq := by
  unfold Keeper.timerOn
  cases h : k.timerIrq.contains c
  · simp
  · simpa using h

theorem Keeper.not_mem_timerOff (k : Keeper) (c : Nat) : c ∉ (k.timerOff c).timerIrq := by simp [Keeper.timerOff]

theorem mtimeCompare_effect (c : Core) (w : Option Word64) (s : State) : ∃ cmp, cmp = (w.map (·.toNat)).getD (mget 0 s.keeper.mtimecmp c.val) ∧
    exec (.mtimeCompare c w) s = done (s.begin.whenMgmt fun u => if cmp ≤ s.now
      then { (u.withTimeCmp c.val cmp).emit (.timerIrq c.val) with keeper := (u.withTimeCmp c.val cmp).keeper.timerOn c.val }
      else { u.withTimeCmp c.val cmp with keeper := (u.withTimeCmp c.val cmp).keeper.timerOff c.val }) := by
  refine ⟨_, rfl, ?_⟩
  have harm : exec (.mtimeCompare c w) s = execMtimeCompare c w s := rfl
  rw [harm, execMtimeCompare, State.whenMgmt, State.whenMgmt]
  rfl

/-- The policy partition is stopped with a cause (R375). -/
theorem State.policyStop_of_running {s : State} (cause : Nat) (h : s.get Fld.MBX_POLICY_STATE = 1) :
    s.policyStop cause = { ((s.put Fld.MBX_POLICY_STATE 2).put Fld.MBX_POLICY_CAUSE cause).raise Evt.MBX_POLICY_STOPPED with
      keeper := { s.keeper with grant := [], policyCmds := false } } := by
  rw [State.policyStop, if_pos h]
  simp [State.puts]

theorem Frame.andPolicyStop {ps : List Part} {fs : List Field} {s t : State} (h : Frame ps fs s t) (cause : Nat) (hp : Part.keeper ∈ ps := by simp)
    (h1 : Fld.MBX_POLICY_STATE ∈ fs := by simp) (h2 : Fld.MBX_POLICY_CAUSE ∈ fs := by simp) (h3 : Evt.MBX_POLICY_STOPPED.field ∈ fs := by simp) :
    Frame ps fs s (t.policyStop cause) := by
  by_cases hr : t.get Fld.MBX_POLICY_STATE = 1
  · rw [State.policyStop_of_running cause hr]
    exact (((h.put 2 h1).put cause h2).raise h3).keeper _ hp
  · rwa [State.policyStop, if_neg hr]

theorem State.get_policyStop {s : State} {cause : Nat} (h : s.get Fld.MBX_POLICY_STATE = 1) (hc : cause < 4) :
    (s.policyStop cause).get Fld.MBX_POLICY_STATE = 2 ∧ (s.policyStop cause).get Fld.MBX_POLICY_CAUSE = cause := by
  rw [State.policyStop_of_running cause h]
  constructor
  · simp (disch := decide) [State.get_raise, State.get_put_lit, State.get_put_clear]
  · rw [State.get_mk, State.get_raise _ (by decide), State.get_put_lit _ (by decide) (by simpa [Fld.MBX_POLICY_CAUSE] using by omega)]

/-- What a stop of the running partition answers, whatever its cause. -/
theorem answers_policyStop {c : Instr} {s : State} {cause : Nat} (he : exec c s = done (s.begin.whenMgmt fun u => u.policyStop cause)) (hup : s.clk.mgmtUp = true)
    (hr : s.get Fld.MBX_POLICY_STATE = 1) (hc : cause < 4) : Answers c s fun t => t.get Fld.MBX_POLICY_STATE = 2 ∧ t.get Fld.MBX_POLICY_CAUSE = cause ∧
    t.get Evt.MBX_POLICY_STOPPED.field = 1 ∧ t.keeper.grant = [] ∧ Frame [.keeper] [Fld.MBX_POLICY_STATE, Fld.MBX_POLICY_CAUSE, Evt.MBX_POLICY_STOPPED.field] s t := by
  have hr' : s.begin.get Fld.MBX_POLICY_STATE = 1 := by simpa using hr
  obtain ⟨hst, hca⟩ := State.get_policyStop hr' hc
  refine answers_mgmt he hup rfl ⟨?_, ?_, ?_, ?_, ((Frame.begin s).andPolicyStop cause).settle⟩
  · rw [State.get_settle _ (by decide), hst]
  · rw [State.get_settle _ (by decide), hca]
  · rw [State.get_settle _ (by decide), State.policyStop_of_running _ hr', State.get_mk, State.get_raise_mgmt (by simpa using hup) rfl (by decide) (by decide)]
  · simp [State.policyStop_of_running _ hr', State.settle_keeper]

/-- The policy partition never holds a grant of INTC: its write there stops it (R375). -/
theorem State.guard_policy_intc {s : State} (f : State → State) (h : s.mgmtRuns = true) (hr : s.get Fld.MBX_POLICY_STATE = 1) : s.guard .policy 5 f = s.policyStop 1 := by
  obtain ⟨hup, hstop⟩ : s.clk.mgmtUp = true ∧ s.clk.mgmtStopped = false := by simpa [State.mgmtRuns] using h
  have hpath : s.pathWrites .policy 5 = false := by simp [State.pathWrites, neverGranted]
  simp [State.guard, hup, hstop, hr, hpath]

/-- Settles O13. -/
theorem keeperAndPolicy : Obligations.KeeperAndPolicy := by
  unfold Obligations.KeeperAndPolicy
  intro s
  refine ⟨fun c value htk hbit => ?_, fun c w hup hcmp => ?_, fun c w hup hcmp => ?_, fun c hup hdue => ?_, fun hup hr => ?_, fun hup hr => ?_, fun w bits hrun hr => ?_⟩
  · have hfx : s.begin.writeKick (.keeper c) value.toNat = { s.begin with keeper := { s.keeper with kicks := mput 0 s.keeper.kicks c.val s.now } } := by
      simp [State.writeKick, bitsOf_one_of_getLsbD hbit]
    exact answers_guard rfl htk hfx ((Frame.begin s).keeper _ (by simp)) rfl (by decide) fun hf => ⟨by simp [State.settle_keeper], hf⟩
  · obtain ⟨cmp, hc, he⟩ := mtimeCompare_effect c w s
    rw [← hc] at hcmp
    refine answers_mgmt he hup (if_pos hcmp) ⟨?_, ?_, ?_, ?_⟩
    · simpa [State.settle_keeper] using Keeper.mem_timerOn _ c.val
    · simp [State.withTimeCmp]
    · rw [← hc]
      simp [State.settle_keeper, State.withTimeCmp, Keeper.timerOn]
    · exact ((((Frame.begin s).keeper _ (by simp)).andEmit _).keeper _ (by simp)).settle
  · obtain ⟨cmp, hc, he⟩ := mtimeCompare_effect c (some w) s
    have hlate : ¬ cmp ≤ s.now := by simp [hc]; omega
    refine answers_mgmt he hup (if_neg hlate) ⟨?_, ?_, ?_⟩
    · simpa [State.settle_keeper] using Keeper.not_mem_timerOff _ c.val
    · simp [State.settle_keeper, State.withTimeCmp, Keeper.timerOff, hc]
    · exact (((Frame.begin s).keeper _ (by simp)).keeper _ (by simp)).settle
  · have hdue' : s.begin.watchdogDue c.val = false := hdue
    exact answers_mgmt (x := s.begin) rfl hup (by simp [hdue']) (Frame.begin s).settle
  · exact answers_policyStop rfl hup hr (by decide)
  · exact answers_policyStop rfl hup hr (by decide)
  · have hr' : s.begin.get Fld.MBX_POLICY_STATE = 1 := by simpa using hr
    obtain ⟨hst, hca⟩ := State.get_policyStop (cause := 1) hr' (by decide)
    have he : exec (.intcPendSet .policy w bits) s = done (s.begin.policyStop 1) := congrArg done (State.guard_policy_intc _ (by simpa using hrun) hr')
    refine answers_done he ⟨?_, ?_, ((Frame.begin s).andPolicyStop 1).settle⟩
    · rw [State.get_settle _ (by decide), hst]
    · rw [State.get_settle _ (by decide), hca]

end Sys2Proof.Machine
end

section
/-! PROOFS. Fail-stop and its record (O12, R361, R363, R365, R366, R371, R373). -/
namespace Sys2Proof.Machine
open Sys2Proof
set_option Elab.async false

/-- What a stop leaves behind, with the module running before (R361). -/
structure State.Stopped (s t : State) : Prop where
  held : t.clk.stopHeld = true
  fabric : t.clk.fabricHeld = true
  mgmt : t.clk.mgmtUp = true
  contents : t.fab = Fabric.reset
  shown : t.get Fld.FLT_STATUS_STOPPED = 1
  notReady : t.get Fld.BOOT_STATUS_FABRIC_READY = 0
  store : t.nv = s.nv

/-- The first stop of a module that has not failed to start: FABRIC enters reset, and FLT_STATUS and BOOT_STATUS tell of it. -/
theorem State.stopNow_of_running {s : State} (cls : Nat) (o : StopOrigin) (m : Option FaultMsg) (hh : s.clk.stopHeld = false) (hf : s.clk.startFail = false)
    (hup : s.clk.mgmtUp = true) : s.stopNow cls o m =
      { (s.sendFailstop.fabricReset.put Fld.FLT_STATUS_STOPPED 1).put Fld.BOOT_STATUS_FABRIC_READY 0 with
        clk := { s.clk with fabricHeld := true, pllLock := s.clk.pllLock &&& 0x1E0, stopHeld := true }, hs := { s.hs with recMissing := true },
        flt := { s.flt with stop := some (s.capture cls o m), causeEntry := none, recordDue := s.clk.mgmtUp && !s.clk.mgmtStopped } } := by
  simp [State.stopNow, hh, hf, hup]

theorem State.stopped_fatal {s : State} (m : FaultMsg) (hup : s.clk.mgmtUp = true) (hh : s.clk.stopHeld = false) (hf : s.clk.startFail = false) :
    s.Stopped (s.fatal m).settle ∧ (s.fatal m).settle.flt.net = s.flt.net ++ [m] ∧
    (s.fatal m).settle.flt.stop.map (fun x => (x.cls, x.origin, x.cause)) = some (2, .source, some m) := by
  rw [State.fatal, State.stopNow_of_running (s := s.sendFault m) 2 .source (some m) (by simpa using hh) (by simpa using hf) (by simpa using hup)]
  refine ⟨⟨?_, ?_, ?_, ?_, ?_, ?_, ?_⟩, ?_, ?_⟩
  · simp
  · simp
  · simpa using hup
  · simp
  · simp (disch := decide) [State.get_settle, State.get_put_lit, State.get_put_clear]
  · simp (disch := decide) [State.get_settle, State.get_put_lit]
  · simp
  · rw [State.settle_flt]
    simp [State.sendFault_flt_of_up m hup]
  · rw [State.settle_flt]
    simp [State.capture]

/-- Once stopped, a fatal condition only sends its message (R365). -/
theorem State.fatal_of_stopped {s : State} (m : FaultMsg) (hh : s.clk.stopHeld = true) : s.fatal m = s.sendFault m := by
  rw [State.fatal, State.stopNow, if_pos (by simpa using hh)]

/-- The state with the record of a stop in the ring (R363). -/
def State.withRecord (s : State) (r : FailRecord) : State :=
  { s with nv := { s.nv with records := r :: s.nv.records.take 15, rseq := r.rseq }, hs := { s.hs with recMissing := false }, flt := { s.flt with recordDue := false } }

theorem Frame.andRecord {ps : List Part} {fs : List Field} {s t : State} (h : Frame ps fs s t) (r : FailRecord) (h1 : Part.nv ∈ ps := by simp)
    (h2 : Part.hs ∈ ps := by simp) (h3 : Part.flt ∈ ps := by simp) : Frame ps fs s (t.withRecord r) :=
  h.upd rfl rfl fun p hp _ => by cases p <;> simp_all [State.Same, State.withRecord]

theorem failstopRecordWritten_effect {s : State} {c : Capture} (hs : s.flt.stop = some c) (hc : c.cause = none) (hdue : s.flt.recordDue = true)
    (hrun : s.clk.mgmtStopped = false) (hup : s.clk.mgmtUp = true) : exec .failstopRecordWritten s =
      done ((((s.begin.withRecord (s.failRecord c)).nvWrote (16 + (s.nv.rseq + 1) % 16)).put Fld.FLT_STATUS_RECORDS ((s.nv.records.take 15).length + 1))) := by
  have harm : exec .failstopRecordWritten s = execFailstopRecordWritten s := rfl
  rw [harm, execFailstopRecordWritten, State.whenMgmt, State.begin_clk, hup]
  have hs' : s.begin.flt.stop = some c := hs
  dsimp only
  rw [if_pos rfl, hs']
  dsimp only
  rw [hc]
  simp only [State.begin_flt, State.begin_clk, hdue, hrun]
  rfl

theorem State.nvWrote_records (s : State) (k : Nat) : (s.nvWrote k).nv.records = s.nv.records ∧ (s.nvWrote k).nv.rseq = s.nv.rseq := by
  unfold State.nvWrote
  dsimp only
  split <;> simp

/-- A core's fatal condition is reported and stops the module. -/
theorem answers_fatal {c : Instr} {s : State} {m : FaultMsg} (he : exec c s = done (s.begin.whenMgmt fun u => u.fatal m)) (hup : s.clk.mgmtUp = true)
    (hh : s.clk.stopHeld = false) (hf : s.clk.startFail = false) : Answers c s fun t => s.Stopped t ∧ t.flt.net = s.flt.net ++ [m] := by
  obtain ⟨hst, hnet, -⟩ := State.stopped_fatal (s := s.begin) m hup hh hf
  exact answers_mgmt he hup rfl ⟨⟨hst.held, hst.fabric, hst.mgmt, hst.contents, hst.shown, hst.notReady, hst.store⟩, hnet⟩

/-- Settles O12. -/
theorem failStop : Obligations.FailStop := by
  unfold Obligations.FailStop
  intro s hup
  refine ⟨fun m hh hf => ?_, fun c hh hf => ?_, fun c hh hf hdue => ?_, fun c a hh hf => ?_, fun c a => ?_, fun m hh => ?_, fun c hs hc hdue hrun => ?_⟩
  · obtain ⟨hst, -, hstop⟩ := State.stopped_fatal (s := s.begin) m hup hh hf
    exact answers_done rfl ⟨hst.held, hst.fabric, hst.mgmt, hst.contents, hst.shown, hst.notReady, hst.store, hstop⟩
  · obtain ⟨t, ht, hst, hnet⟩ := answers_fatal (c := .keeperLockstep c) rfl hup hh hf
    exact ⟨t, ht, hst.held, hst.fabric, hst.mgmt, hst.contents, hst.shown, hst.notReady, hst.store, hnet⟩
  · have hdue' : s.begin.watchdogDue c.val = true := hdue
    have he : exec (.keeperWatchdog c) s = done (s.begin.whenMgmt fun u => u.fatal (s.message Kind.KEEPER_WATCHDOG 2 0x000 c.val 8 (Party.core c.val) none)) := by
      have harm : exec (.keeperWatchdog c) s = execKeeperWatchdog c s := rfl
      rw [harm, execKeeperWatchdog, State.whenMgmt, State.whenMgmt, hdue']
      rfl
    obtain ⟨t, ht, hst, hnet⟩ := answers_fatal he hup hh hf
    exact ⟨t, ht, hst.held, hst.fabric, hst.mgmt, hst.contents, hst.shown, hst.notReady, hst.store, hnet⟩
  · obtain ⟨t, ht, hst, hnet⟩ := answers_fatal (c := .keeperSramError c a true) rfl hup hh hf
    exact ⟨t, ht, hst.held, hst.fabric, hst.mgmt, hst.contents, hst.shown, hst.notReady, hst.store, hnet⟩
  · refine answers_mgmt rfl hup rfl ⟨?_, by simp, by simp, by simp⟩
    rw [State.settle_flt]
    exact congrArg Flt.net (State.sendFault_flt_of_up (s := s.begin) _ hup)
  · refine answers_done (x := s.begin.sendFault m) (congrArg done (State.fatal_of_stopped m hh)) ⟨?_, ?_, by simp, by simp⟩ <;>
      rw [State.settle_flt] <;> simp [State.sendFault_flt_of_up (s := s.begin) m hup]
  · refine answers_done (failstopRecordWritten_effect hs hc hdue hrun hup) ⟨?_, ?_, ?_, ?_, ?_, ?_⟩
    · simp [State.nvWrote_records, State.withRecord]
    · simp [State.nvWrote_records, State.withRecord, State.failRecord]
    · simp [State.withRecord]
    · rw [State.settle_flt]
      simp [State.withRecord]
    · rw [State.get_settle _ (by decide), State.get_put_same _ _ _ (by decide)]
      simp [Fld.FLT_STATUS_RECORDS]
      omega
    · exact ((((Frame.begin s).andRecord _).andNvWrote _).andPut _).settle

end Sys2Proof.Machine
end

section
/-! PROOFS. Which registers lie outside the mirrored regions (R305), and what a field of a register holds that is written whole. -/
namespace Sys2Proof.Machine
open Sys2Proof
set_option Elab.async false

/-- Below offset 0x1100 only the binding tables are mirrored. -/
theorem regionOf_low {a : Nat} (ho : a % 0x10000 < 0x1100) (hpg : a / 0x10000 < 0x600 ∨ 0x605 < a / 0x10000) : regionOf a = none := by
  have h605 : (decide (0x600 ≤ a / 0x10000) && decide (a / 0x10000 ≤ 0x605)) = false := by simp; omega
  simp only [regionOf, h605, Bool.false_eq_true, if_false]
  split
  · rw [if_neg (by simp; omega), if_neg (by simp; omega), if_neg (by omega)]
  · split
    · rw [if_neg (by simp; omega)]
    · split
      · rw [if_neg (by simp; omega)]
      · split
        · rw [if_neg (by simp; omega)]
        · rfl

/-- The pages with mirrored registers are HOME, the binding tables, SWARM, MOVER and POOL. -/
theorem regionOf_page {a : Nat} (h : a / 0x10000 ≠ 0x70 ∧ a / 0x10000 ≠ 0x82 ∧ a / 0x10000 ≠ 0x90 ∧ a / 0x10000 ≠ 0xA2 ∧ (a / 0x10000 < 0x600 ∨ 0x605 < a / 0x10000)) :
    regionOf a = none := by
  obtain ⟨h70, h82, h90, hA2, h600⟩ := h
  simp only [regionOf]
  have h605 : ¬ (decide (0x600 ≤ a / 0x10000) && decide (a / 0x10000 ≤ 0x605)) = true := by simp; omega
  rw [if_neg h70, if_neg h605, if_neg hA2, if_neg h90, if_neg h82]

theorem Field.clearOf_of_addr {g f : Field} (hg : g.lo + g.width ≤ 32) (h : g.addr ≠ f.addr) : g.clearOf f = true :=
  Field.clearOf_iff.mpr ⟨hg, .inl h⟩

end Sys2Proof.Machine
end

section
/-! PROOFS. The registers of the fault collector and its injection (O11, R351, R356 to R358, R367, R370). -/
namespace Sys2Proof.Machine
open Sys2Proof
set_option Elab.async false

/-! ### Acknowledgement -/

theorem State.writeFltAck_taken {s : State} {m : Master} {v : Nat} (hm : m.isKeeper = true) (h1 : s.get Fld.FLT_ACK_SEQ ≤ v) (h2 : v ≤ s.get Fld.FLT_SEQ_SEQ) :
    s.writeFltAck m v = (s.put Fld.FLT_ACK_SEQ v).showUnacked := by
  simp [State.writeFltAck, hm, h1, h2]

theorem State.writeFltAck_ignored {s : State} {m : Master} {v : Nat} (h : m.isKeeper = false ∨ v < s.get Fld.FLT_ACK_SEQ ∨ s.get Fld.FLT_SEQ_SEQ < v) :
    s.writeFltAck m v = s := by
  rw [State.writeFltAck, if_neg]
  simp only [Bool.and_eq_true, decide_eq_true_eq]
  rintro ⟨⟨hm, h1⟩, h2⟩
  rcases h with h | h | h
  · simp [h] at hm
  · omega
  · omega

theorem Frame.andShowUnacked {ps : List Part} {fs : List Field} {s t : State} (h : Frame ps fs s t) (h1 : Fld.FLT_STATUS_UNACKED ∈ fs := by simp)
    (h2 : Evt.FLT_LOG_HALF.field ∈ fs := by simp) : Frame ps fs s t.showUnacked := (h.put _ h1).raiseIf _ h2

theorem State.get_showUnacked_shown (s : State) : s.showUnacked.get Fld.FLT_STATUS_UNACKED = s.unacked := by
  have hlt : s.unacked < 2 ^ Fld.FLT_STATUS_UNACKED.width := by simp [State.unacked, Fld.FLT_STATUS_UNACKED]
  rw [State.showUnacked, State.get_raiseIf_clear _ (by decide), State.get_put_lit _ (by decide) hlt]

theorem State.get_showUnacked {s : State} {g : Field} (h : g.clearOf Fld.FLT_STATUS_UNACKED = true) (h' : g.clearOf Evt.FLT_LOG_HALF.field = true) :
    s.showUnacked.get g = s.get g := by
  rw [State.showUnacked, State.get_raiseIf_clear _ h', State.get_put_clear _ _ h]

theorem State.get_put_word {s : State} {f : Field} (w : Word) (h : f.lo = 0 ∧ f.width = 32) : (s.put f w.toNat).get f = w.toNat := by
  rw [State.get_put_same _ _ _ (by omega), h.2]
  exact Nat.mod_eq_of_lt w.isLt

/-- Driving ALERT_N changes no part and no field but the ALERT event (R358). -/
theorem Frame.andDriveAlert {ps : List Part} {fs : List Field} {s t : State} (h : Frame ps fs s t) (hf : Evt.FLT_ALERT.field ∈ fs) : Frame ps fs s t.driveAlert :=
  (h.raiseIf _ hf).upd rfl rfl fun p _ hp => by cases p <;> simp_all [State.Same, State.driveAlert]

/-- The ALERT event is excepted from every frame. -/
theorem Frame.dropAlert {ps : List Part} {fs : List Field} {s t : State} (h : Frame ps (Evt.FLT_ALERT.field :: fs) s t) : Frame ps fs s t :=
  ⟨h.1, fun g hg ha hf => h.2 g hg ha fun f hm => by
    rcases List.mem_cons.mp hm with rfl | hm
    · exact ha
    · exact hf f hm⟩

theorem State.get_driveAlert {s : State} {g : Field} (h : g.addr ≠ 0x40040) : s.driveAlert.get g = s.get g := State.get_settle s h

theorem State.writeBoardAck_taken {s : State} {v : Nat} (h1 : s.get Fld.FLT_BOARD_ACK_SEQ ≤ v) (h2 : v ≤ s.get Fld.FLT_SEQ_SEQ) :
    s.writeBoardAck .board v = (s.put Fld.FLT_BOARD_ACK_SEQ v).driveAlert := by
  simp [State.writeBoardAck, h1, h2]

/-! ### Injection -/

/-- The log, FLT_SEQ and the clocks stay as they are. -/
structure State.LogKept (s t : State) : Prop where
  clk : t.clk = s.clk
  log : t.flt.log = s.flt.log
  seq : t.get Fld.FLT_SEQ_SEQ = s.get Fld.FLT_SEQ_SEQ

namespace State.LogKept
variable {s t : State}

theorem self (s : State) : s.LogKept s := ⟨rfl, rfl, rfl⟩
theorem put (h : s.LogKept t) (f : Field) (v : Nat) (hf : Fld.FLT_SEQ_SEQ.clearOf f = true) : s.LogKept (t.put f v) :=
  ⟨by simpa using h.clk, by simpa using h.log, (State.get_put_clear t v hf).trans h.seq⟩
theorem raiseIf (h : s.LogKept t) (c : Bool) (e : Event) (hf : Fld.FLT_SEQ_SEQ.clearOf e.field = true) : s.LogKept (t.raiseIf c e) :=
  ⟨by simpa using h.clk, by simpa using h.log, (State.get_raiseIf_clear t hf).trans h.seq⟩
theorem count (h : s.LogKept t) (c n : Nat) : s.LogKept (t.count c n) := ⟨by simpa using h.clk, by simpa using h.log, by simpa using h.seq⟩

theorem addFmEvent (h : s.LogKept t) (e : FmEvent) : s.LogKept (t.addFmEvent e) := by
  obtain ⟨hclk, hlog, hseq⟩ := h
  unfold State.addFmEvent State.signalVcs
  dsimp only
  split
  · split <;> exact ⟨by simpa using hclk, by simpa using hlog, by simpa using hseq⟩
  · exact ⟨hclk, hlog, hseq⟩

theorem stageRecord (h : s.LogKept t) (r : TelRecord) : s.LogKept (t.stageRecord r) := by
  obtain ⟨hclk, hlog, hseq⟩ := h
  unfold State.stageRecord
  split
  · exact ⟨hclk, hlog, hseq⟩
  · split
    · refine ⟨by simpa using hclk, by simpa using hlog, ?_⟩
      rw [State.get_raise _ (by decide), State.addSat, State.get_put_clear _ _ (by decide), hseq]
    · exact ⟨hclk, hlog, hseq⟩

theorem showUnacked (h : s.LogKept t) : s.LogKept t.showUnacked := (h.put _ _ (by decide)).raiseIf _ _ (by decide)

theorem driveAlert (h : s.LogKept t) : s.LogKept t.driveAlert :=
  ⟨by simpa using h.clk, by simpa [State.driveAlert] using h.log, (State.get_driveAlert (by decide)).trans h.seq⟩

/-- A choice between two ways that both keep the log. -/
theorem choose {u : State} (c : Bool) (h : s.LogKept t) (hu : s.LogKept u) : s.LogKept (if c = true then u else t) := by
  cases c
  · exact h
  · exact hu

end State.LogKept

/-- The oldest entry that goes leaves FLT_SEQ and the clocks. -/
theorem State.dropOldest_kept (s : State) : s.dropOldest.clk = s.clk ∧ s.dropOldest.get Fld.FLT_SEQ_SEQ = s.get Fld.FLT_SEQ_SEQ := by
  unfold State.dropOldest
  dsimp only
  split
  · exact ⟨rfl, rfl⟩
  · split
    · split
      · refine ⟨by simp [State.addSat], ?_⟩
        rw [State.get_count, State.addSat, State.get_put_clear _ _ (by decide)]
        rfl
      · exact ⟨rfl, rfl⟩
    · exact ⟨rfl, rfl⟩

theorem seqWidth : Fld.FLT_SEQ_SEQ.width = 32 := rfl

/-- What an entry written for a corrected or contained message shows: it heads the log under the next SEQ, and the clocks stay (R350). -/
theorem State.writeEntry_shows (s : State) (m : FaultMsg) (esc after : Bool) (hm : m.cls < 3) :
    (s.writeEntry m esc after).clk = s.clk ∧ (s.writeEntry m esc after).get Fld.FLT_SEQ_SEQ = (s.get Fld.FLT_SEQ_SEQ + 1) % 2 ^ 32 ∧
    ∃ e, e.msg = m ∧ (s.writeEntry m esc after).flt.log.head? = some e := by
  obtain ⟨hclk, hseq⟩ := s.dropOldest_kept
  unfold State.writeEntry
  dsimp only
  rw [if_pos hm]
  generalize hu : ({ (s.dropOldest.put Fld.FLT_SEQ_SEQ ((s.dropOldest.get Fld.FLT_SEQ_SEQ + 1) % 2 ^ 32)) with flt := _ } : State) = u
  have huclk : u.clk = s.clk := by rw [← hu, ← hclk, ← State.put_clk s.dropOldest Fld.FLT_SEQ_SEQ]
  have huseq : u.get Fld.FLT_SEQ_SEQ = (s.get Fld.FLT_SEQ_SEQ + 1) % 2 ^ 32 := by
    rw [← hu, State.get_mk, State.get_put_same _ _ _ (by decide), hseq, seqWidth, Nat.mod_mod]
  have hulog : ∃ e, e.msg = m ∧ u.flt.log.head? = some e := ⟨_, rfl, by rw [← hu]; rfl⟩
  have hkept : ∀ v, u.LogKept v → v.clk = s.clk ∧ v.get Fld.FLT_SEQ_SEQ = (s.get Fld.FLT_SEQ_SEQ + 1) % 2 ^ 32 ∧ ∃ e, e.msg = m ∧ v.flt.log.head? = some e :=
    fun v hv => ⟨hv.clk.trans huclk, hv.seq.trans huseq, by rw [hv.log]; exact hulog⟩
  refine hkept _ (.driveAlert (.showUnacked ?_))
  have hf : Fld.FLT_SEQ_SEQ.clearOf (Fld.FLT_FIRST_CTL_VALID m.cls) = true := by
    simp only [Field.clearOf, Fld.FLT_SEQ_SEQ, Fld.FLT_FIRST_CTL_VALID, Addr.FLT_SEQ, Addr.FLT_FIRST_CTL]
    simp; omega
  have h1 := ((((((State.LogKept.self u).put _ 1 hf).raiseIf (m.cls == 0) Evt.FLT_CORRECTED (by decide)).raiseIf (m.cls == 1) Evt.FLT_CONTAINED (by decide)).raiseIf
    esc Evt.FLT_ESCALATED (by decide)).count (Ctr.KIND m.kind m.cls) 1)
  have h2 := h1.choose esc (h1.count (Ctr.FLTSRC (m.kind / 16) 0) 1)
  by_cases hc : 1 ≤ m.cls
  · simp only [if_pos hc]
    exact (h2.addFmEvent _).choose _ ((h2.addFmEvent _).stageRecord _)
  · simp only [if_neg hc]
    exact h2.choose _ (h2.stageRecord _)

/-- A message the collector takes before any stop, of class 0 or 1 and not escalated, is logged as it is (R350, R352). -/
theorem State.collect_plain {s : State} {m : FaultMsg} (hc : m.cls < 2) (hu : s.unacked < 1024) (hf : s.clk.startFail = false) (hh : s.clk.stopHeld = false)
    (hsrc : (s.flt.log.any fun e => e.msg.source == m.source) = false) : s.collect m = s.writeEntry m false false := by
  have hafter : s.isAfterStop m = false := by simp [State.isAfterStop, hf, hh]
  have hesc : s.escalates m false = false := by
    simp only [State.escalates, List.any_eq_false, beq_iff_eq] at hsrc ⊢
    simp only [Bool.and_eq_false_iff, List.any_eq_false]
    exact .inr fun e he => by simp [hsrc e he]
  have hfull : ¬ s.unacked = 1024 := by omega
  have h2 : ¬ m.cls = 2 := by omega
  have h3 : ¬ m.cls = 3 := by omega
  simp [State.collect, hafter, hesc, hfull, h2, h3]

/-- The message of an injection (R370). -/
def State.injected (s : State) (v : Nat) : FaultMsg := { s.message (bitsOf v 0 12) (bitsOf v 12 2) (bitsOf v 16 12) 0 15 Party.none none with unit := 0 }

/-- The page named captures the injected message, where it is out of reset. -/
def State.captured (s : State) (m : FaultMsg) : State := if s.live m.source then s.captureFirst m else s

theorem State.captured_kept (s : State) (m : FaultMsg) : (s.captured m).clk = s.clk ∧ (s.captured m).flt = s.flt ∧
    (s.captured m).get Fld.FLT_SEQ_SEQ = s.get Fld.FLT_SEQ_SEQ ∧ (s.captured m).get Fld.FLT_ACK_SEQ = s.get Fld.FLT_ACK_SEQ := by
  unfold State.captured
  split
  · refine ⟨by simp, by simp, ?_, ?_⟩ <;> simp only [State.get] <;> rw [State.word_captureFirst]
    · simp only [Fld.FLT_SEQ_SEQ, Addr.FLT_SEQ]; omega
    · simp only [Fld.FLT_ACK_SEQ, Addr.FLT_ACK]; omega
  · exact ⟨rfl, rfl, rfl, rfl⟩

theorem State.writeInject_of_allowed {s : State} {m : Master} {v : Nat} (h : m.keeperOrBoard = true) :
    s.writeInject m v = (s.captured (s.injected v)).collect (s.injected v) := by
  rw [State.writeInject, if_pos h]
  rfl

/-- The binding tables capture no first error. -/
theorem blockOf_errCap {pg f : Nat} {x : Block} (hb : blockOf pg = some (x, f)) (hcap : hasErrCap x = true) : pg < 0x600 ∨ 0x605 < pg := by
  by_contra hne
  have hbt : blockOf pg = some (.bindTbl, 0x600) := by
    unfold blockOf
    repeat rw [if_neg (by omega)]
    rw [if_pos (by omega)]
  rw [hbt] at hb
  cases hb
  simp [hasErrCap] at hcap

/-- Settles O11. -/
theorem faultRegisters : Obligations.FaultRegisters := by
  unfold Obligations.FaultRegisters
  intro s m
  refine ⟨fun seq htk hm h1 h2 => ?_, fun seq htk h => ?_, fun seq htk h1 h2 => ?_, fun c value htk hbit => ?_, fun page x f value htk hb hcap hbit => ?_,
    fun value htk hm hcls hu hf hh hlog => ?_⟩
  · refine answers_guard rfl htk (State.writeFltAck_taken hm (by simpa using h1) (by simpa using h2)) ((Frame.begin s).andPut _).andShowUnacked (by simp [State.showUnacked])
      (by decide) fun hf => ⟨?_, ?_, hf⟩
    · rw [State.get_settle _ (by decide), State.get_showUnacked (by decide) (by decide), State.get_put_word seq ⟨rfl, rfl⟩]
    · rw [State.get_settle _ (by decide), State.get_showUnacked_shown, State.unacked, State.get_put_word seq ⟨rfl, rfl⟩, State.get_put_clear _ _ (by decide),
        State.get_begin]
  · exact answers_guard rfl htk (State.writeFltAck_ignored (by simpa using h)) (Frame.begin s) rfl (by simp) id
  · refine answers_guard rfl htk (State.writeBoardAck_taken (by simpa using h1) (by simpa using h2)) (((Frame.begin s).andPut _).andDriveAlert (by simp)).dropAlert
      (by simp) (by decide) fun hf => ⟨?_, hf⟩
    rw [State.get_settle _ (by decide), State.get_driveAlert (by decide), State.get_put_word seq ⟨rfl, rfl⟩]
  · have hfx : s.begin.writeFirstCtl c.val value.toNat = { s.begin.put (Fld.FLT_FIRST_CTL_VALID c.val) 0 with flt := { s.flt with first := assocDel s.flt.first c.val } } := by
      simp [State.writeFirstCtl, bitsOf_one_of_getLsbD hbit]
    have hreg : regionOf (Fld.FLT_FIRST_CTL_VALID c.val).addr = none := regionOf_page (by simp only [Fld.FLT_FIRST_CTL_VALID, Addr.FLT_FIRST_CTL]; omega)
    refine answers_guard rfl htk hfx (((Frame.begin s).andPut 0).flt _ (by simp)) (by simp) (by simpa using hreg) fun hf => ⟨?_, ?_, hf⟩
    · rw [State.get_settle _ (by simp only [Fld.FLT_FIRST_CTL_VALID, Addr.FLT_FIRST_CTL]; omega), State.get_mk,
        State.get_put_lit _ (show 0 + 1 ≤ 32 by decide) (show 0 < 2 ^ 1 by decide)]
    · rw [State.settle_flt]
  · have hfx : s.begin.writeErrAck page.toNat value.toNat = s.begin.put (Fld.ERR_FIRST_ATYPE_VALID page.toNat) 0 := by
      simp [State.writeErrAck, hb, hcap, bitsOf_one_of_getLsbD hbit]
    have hpage : page.toNat < 0x600 ∨ 0x605 < page.toNat := blockOf_errCap hb hcap
    have hreg : regionOf (Fld.ERR_FIRST_ATYPE_VALID page.toNat).addr = none :=
      regionOf_low (by simp only [Fld.ERR_FIRST_ATYPE_VALID, Addr.ERR_FIRST_ATYPE]; omega) (by simp only [Fld.ERR_FIRST_ATYPE_VALID, Addr.ERR_FIRST_ATYPE]; omega)
    refine answers_guard rfl htk hfx ((Frame.begin s).andPut 0) (by simp) (by simpa using hreg) fun hf => ⟨?_, hf⟩
    rw [State.get_settle _ (by simp only [Fld.ERR_FIRST_ATYPE_VALID, Addr.ERR_FIRST_ATYPE]; omega),
      State.get_put_lit _ (show 31 + 1 ≤ 32 by decide) (show 0 < 2 ^ 1 by decide)]
  · obtain ⟨hclk, hflt, hseq, hack⟩ := State.captured_kept s.begin (s.begin.injected value.toNat)
    have hcol : s.begin.writeInject m value.toNat = (s.begin.captured (s.begin.injected value.toNat)).writeEntry (s.begin.injected value.toNat) false false := by
      rw [State.writeInject_of_allowed hm, State.collect_plain hcls]
      · rwa [State.unacked, hseq, hack]
      · rwa [hclk]
      · rwa [hclk]
      · rwa [hflt]
    obtain ⟨hc, hs, e, hem, he⟩ := (s.begin.captured (s.begin.injected value.toNat)).writeEntry_shows (s.begin.injected value.toNat) false false (Nat.lt_succ_of_lt hcls)
    refine answers_of_eq (done_guard _ htk) ⟨?_, ?_, ?_⟩
    · rw [State.get_settle _ (by decide), State.get_mirror _ _ (by decide), hcol, hs, hseq, State.get_begin]
    · rw [State.settle_flt, State.mirror_flt, hcol, he]
      simp [hem, State.injected, State.message]
    · rw [State.settle_clk, State.mirror_clk, hcol, hc, hclk]
      exact hh

end Sys2Proof.Machine
end

section
/-! PROOFS. Seating pins and qualification of the feeds (O3, R34, R39, R42, R43). -/
namespace Sys2Proof.Machine
open Sys2Proof
set_option Elab.async false

/-! ### Qualification of a feed (R43) -/

/-- The bit of PWR_HS_STATUS that shows a feed qualified. -/
def Feed.qualField : Feed → Field
  | .a => Fld.PWR_HS_STATUS_FEED_A_QUAL
  | .b => Fld.PWR_HS_STATUS_FEED_B_QUAL

theorem State.qualified_eq (s : State) (f : Feed) : s.qualified f = (s.get f.qualField == 1) := by cases f <;> rfl

/-- What qualification leaves alone: a field of the power page that shows no feed's qualification. -/
theorem State.get_qualify (s : State) (f : Feed) {g : Field} (hA : g.clearOf Fld.PWR_HS_STATUS_FEED_A_QUAL = true) (hB : g.clearOf Fld.PWR_HS_STATUS_FEED_B_QUAL = true)
    (he : g.addr ≠ 0x30040) : (s.qualify f).get g = s.get g := by
  cases f <;> simp only [State.qualify] <;> split
  · rfl
  · rw [State.get_raise _ he, State.get_put_clear _ _ hA]
  · rfl
  · rw [State.get_raise _ he, State.get_put_clear _ _ hB]

theorem State.get_disqualify (s : State) (f : Feed) {g : Field} (hA : g.clearOf Fld.PWR_HS_STATUS_FEED_A_QUAL = true)
    (hB : g.clearOf Fld.PWR_HS_STATUS_FEED_B_QUAL = true) (he : g.addr ≠ 0x30040) : (s.disqualify f).get g = s.get g := by
  cases f <;> simp only [State.disqualify] <;> split
  · rw [State.get_raise _ he, State.get_put_clear _ _ hA, State.get_mk]
  · rfl
  · rw [State.get_raise _ he, State.get_put_clear _ _ hB, State.get_mk]
  · rfl

theorem State.qualified_qualify (s : State) (f : Feed) : (s.qualify f).qualified f = true := by
  cases f <;> simp only [State.qualify] <;> split
  · assumption
  · rw [State.qualified_eq, State.get_raise _ (by decide), Feed.qualField, State.get_put_lit _ (by decide) (by decide)]; rfl
  · assumption
  · rw [State.qualified_eq, State.get_raise _ (by decide), Feed.qualField, State.get_put_lit _ (by decide) (by decide)]; rfl

/-- A feed that is disqualified counts its good samples anew (R43). -/
theorem State.disqualified (s : State) (f : Feed) : (s.disqualify f).qualified f = false ∧ (s.disqualify f).qualified f.other = s.qualified f.other ∧
    (s.disqualify f).hs.smp = s.hs.smp ∧ (match f with | .a => (s.disqualify f).hs.goodA = 0 | .b => (s.disqualify f).hs.goodB = 0) := by
  cases f <;> simp only [State.disqualify] <;> split
  · refine ⟨?_, ?_, by simp, by simp⟩
    · rw [State.qualified_eq, State.get_raise _ (by decide), Feed.qualField, State.get_put_lit _ (by decide) (by decide)]; rfl
    · rw [State.qualified_eq, State.get_raise _ (by decide), State.get_put_clear _ _ (by decide), State.qualified_eq]; rfl
  · rename_i h
    exact ⟨by simpa [State.qualified] using h, rfl, rfl, rfl⟩
  · refine ⟨?_, ?_, by simp, by simp⟩
    · rw [State.qualified_eq, State.get_raise _ (by decide), Feed.qualField, State.get_put_lit _ (by decide) (by decide)]; rfl
    · rw [State.qualified_eq, State.get_raise _ (by decide), State.get_put_clear _ _ (by decide), State.qualified_eq]; rfl
  · rename_i h
    exact ⟨by simpa [State.qualified] using h, rfl, rfl, rfl⟩

/-! ### What a tick shows of the pins (R34) -/

/-- The fields of the status that show the pins. -/
def seatFields : List Field := [Fld.PWR_HS_STATUS_SEAT_L, Fld.PWR_HS_STATUS_SEAT_R]

theorem clear_of_seatField {g f : Field} (hg : g ∈ seatFields) (hf : (seatFields.all fun x => x.clearOf f) = true) : g.clearOf f = true :=
  List.all_eq_true.mp hf g hg

theorem addr_of_seatField {g : Field} (hg : g ∈ seatFields) : g.addr = 0x31000 := by revert g; decide

/-- The later steps of a tick leave the pins shown. -/
theorem State.get_hsSampled_seat (s : State) (x : HsSample) {g : Field} (hg : g ∈ seatFields) : (s.hsSampled x).get g = (s.hsSample x).get g := by
  have haddr : g.addr ≠ 0x30040 := by rw [addr_of_seatField hg]; decide
  have hA := clear_of_seatField hg (f := Fld.PWR_HS_STATUS_FEED_A_QUAL) (by decide)
  have hB := clear_of_seatField hg (f := Fld.PWR_HS_STATUS_FEED_B_QUAL) (by decide)
  have hdead (t : State) : t.hsDeadTime.get g = t.get g := by
    unfold State.hsDeadTime State.closeTarget
    split
    · split <;> rfl
    · rfl
  have hgood (t : State) : t.hsPowerGood.get g = t.get g := by
    unfold State.hsPowerGood
    dsimp only
    split
    · exact State.get_put_clear _ _ (clear_of_seatField hg (by decide))
    · rfl
  have hfeed (t : State) (f : Feed) (lost good : Bool) : (if lost = true then t.disqualify f else if good = true then t.qualify f else t).get g = t.get g := by
    cases lost
    · cases good
      · rfl
      · exact State.get_qualify t f hA hB haddr
    · exact State.get_disqualify t f hA hB haddr
  have hfeeds (t : State) : (t.hsFeeds x).get g = t.get g := by
    have h := fun (u : State) (f : Feed) (l : Bool) (n : Nat) => hfeed u f l (decide (10000 ≤ n))
    simp only [decide_eq_true_eq] at h
    simp only [State.hsFeeds, State.get_mk, h]
  rw [State.hsSampled, hdead, hfeeds, hgood]

theorem State.get_hsSample_seat (s : State) (x : HsSample) : (s.hsSample x).get Fld.PWR_HS_STATUS_SEAT_L = bit x.seatL ∧
    (s.hsSample x).get Fld.PWR_HS_STATUS_SEAT_R = bit x.seatR := by
  unfold State.hsSample
  simp (disch := decide) only [State.get_raiseIf, State.puts_cons, State.puts_nil, State.get_put_clear, State.get_put_same]
  exact ⟨Nat.mod_eq_of_lt (bit_lt_two _), Nat.mod_eq_of_lt (bit_lt_two _)⟩

/-! ### Transitions -/

theorem State.hsTransition_unseated {s : State} {c : HsCond} (hst : s.get Fld.PWR_HS_STATUS_STATE = 0) :
    s.hsTransition c = if c.seated then s.hsGoto 1 else s := by
  simp [State.hsTransition, hst]

/-- In READY a qualified feed starts RAMP, the preferred one before the other (R39). -/
theorem State.hsTransition_ready {s : State} {c : HsCond} (hst : s.get Fld.PWR_HS_STATUS_STATE = 3) (hl : c.seatLost = false) :
    s.hsTransition c = if s.qualified .a || s.qualified .b then
      { (s.hsGoto 4).put Fld.PWR_HS_STATUS_FEED_SEL (if s.qualified s.preferred then s.preferred else s.preferred.other).code with
        hs := { s.hs with timer := 0, fetOn := true, convOn := true } } else s := by
  simp [State.hsTransition, hst, hl]

theorem State.get_hsGoto_state (s : State) {n : Nat} (h : n < 16) : (s.hsGoto n).get Fld.PWR_HS_STATUS_STATE = n :=
  (State.get_hsGoto s n _).trans (State.get_put_lit s (by decide) (by simpa [Fld.PWR_HS_STATUS_STATE] using h))

/-- A lost pin leads from the states that drive the module to SHUTDOWN, and from the others to UNSEATED (R39, R42). -/
theorem State.hsTransition_seatLost {s : State} {c : HsCond} (hl : c.seatLost = true) (hu : c.unseated = true) (hs : c.seated = false) :
    (s.get Fld.PWR_HS_STATUS_STATE = 5 ∨ s.get Fld.PWR_HS_STATUS_STATE = 6 → (s.hsTransition c).get Fld.PWR_HS_STATUS_STATE = 8) ∧
    (s.get Fld.PWR_HS_STATUS_STATE ≤ 4 ∨ s.get Fld.PWR_HS_STATUS_STATE = 7 → (s.hsTransition c).get Fld.PWR_HS_STATUS_STATE = 0) := by
  constructor
  · rintro (h | h) <;> simp (disch := decide) [State.hsTransition, h, hl, State.hsShutdown, State.get_put_lit]
  · intro h
    have hcases : s.get Fld.PWR_HS_STATUS_STATE = 0 ∨ s.get Fld.PWR_HS_STATUS_STATE = 1 ∨ s.get Fld.PWR_HS_STATUS_STATE = 2 ∨ s.get Fld.PWR_HS_STATUS_STATE = 3 ∨
        s.get Fld.PWR_HS_STATUS_STATE = 4 ∨ s.get Fld.PWR_HS_STATUS_STATE = 7 := by omega
    rcases hcases with h | h | h | h | h | h <;> simp (disch := decide) [State.hsTransition, h, hl, hu, hs, State.get_put_lit]

/-- The state once a pin has read unseated (R42). -/
def State.pinLost (s : State) (right : Bool) : State :=
  { s.put (if right then Fld.PWR_HS_STATUS_SEAT_R else Fld.PWR_HS_STATUS_SEAT_L) 0 with
    hs := { s.hs with smp := { s.hs.smp with seatL := s.hs.smp.seatL && right, seatR := s.hs.smp.seatR && !right }, unseatL := s.hs.unseatL || !right,
                      unseatR := s.hs.unseatR || right } }

theorem State.get_pinLost_state (s : State) (right : Bool) : (s.pinLost right).get Fld.PWR_HS_STATUS_STATE = s.get Fld.PWR_HS_STATUS_STATE := by
  cases right <;> exact State.get_put_clear _ _ (by decide)

/-- Settles O3. -/
theorem seatAndFeeds : Obligations.SeatAndFeeds := by
  unfold Obligations.SeatAndFeeds
  intro s haux
  refine ⟨fun x hst => ?_, fun right => ?_, fun f hst hL hR => ?_, fun f hst hL hR hother => ?_⟩
  · have hst' : (s.begin.hsSampled x).get Fld.PWR_HS_STATUS_STATE = 0 := by rw [State.hsSampled_state, State.get_begin, hst]
    obtain ⟨hsmp, -⟩ := s.begin.hsSampled_sample x
    have hseated : (s.begin.hsSampled x).hsCond.seated = (x.seatL && x.seatR) := by simp [State.hsCond, hsmp]
    have htr := State.hsTransition_unseated (c := (s.begin.hsSampled x).hsCond) hst'
    rw [hseated] at htr
    have hseat {g : Field} (hg : g ∈ seatFields) : (s.begin.hsTick x).settle.get g = (s.begin.hsSample x).get g := by
      rw [State.get_hsTick_settle _ _ (by rw [addr_of_seatField hg]; decide) (by rw [addr_of_seatField hg]; decide), htr, ← State.get_hsSampled_seat _ _ hg]
      split
      · exact State.get_put_clear _ _ (clear_of_seatField hg (by decide))
      · rfl
    obtain ⟨hshowL, hshowR⟩ := s.begin.get_hsSample_seat x
    refine answers_of_eq (exec_hsTick_of_aux haux) ⟨?_, (hseat (by decide)).trans hshowL, (hseat (by decide)).trans hshowR, ?_⟩
    · rw [State.get_hsTick_settle _ _ (by decide) (by decide), htr]
      split
      · exact State.get_hsGoto_state _ (by decide)
      · exact hst'
    · rw [State.hsTick_settle_hs, htr]
      split
      · exact hsmp
      · exact hsmp
  · have he : exec (.seatLost right) s = done ((s.begin.pinLost right).hsTransition { (s.begin.pinLost right).hsCond with
        seatLost := true, unseated := true, seated := false }) := congrArg done (State.whenAux_of_up _ haux)
    have htr := State.hsTransition_seatLost (s := s.begin.pinLost right) (c := { (s.begin.pinLost right).hsCond with seatLost := true, unseated := true, seated := false })
      rfl rfl rfl
    rw [State.get_pinLost_state, State.get_begin] at htr
    refine answers_done he ?_
    rw [State.get_settle _ (by decide)]
    exact htr
  · have hst' : (s.begin.qualify f).get Fld.PWR_HS_STATUS_STATE = 3 := by rw [State.get_qualify _ _ (by decide) (by decide) (by decide), State.get_begin, hst]
    have hl : (s.begin.qualify f).hsCond.seatLost = false := by simp [State.hsCond, State.qualify_hs, hL, hR]
    have hq := s.begin.qualified_qualify f
    have hany : ((s.begin.qualify f).qualified .a || (s.begin.qualify f).qualified .b) = true := by cases f <;> simp [hq]
    refine answers_done (congrArg done (State.whenAux_of_up _ haux)) ?_
    rw [State.hsTransition_ready hst' hl, if_pos hany]
    refine ⟨?_, ?_, by simp, by simp⟩
    · rw [State.get_settle _ (by decide), State.get_mk, State.get_put_clear _ _ (by decide), State.get_hsGoto_state _ (by decide)]
    · have hclear : ∀ g ∈ [Feed.a.qualField, Feed.b.qualField], g.clearOf Fld.PWR_HS_STATUS_FEED_SEL = true ∧ g.clearOf Fld.PWR_HS_STATUS_STATE = true := by decide
      obtain ⟨h1, h2⟩ := hclear f.qualField (by cases f <;> simp)
      rw [State.qualified_eq, State.get_settle _ (by cases f <;> decide), State.get_mk, State.get_put_clear _ _ h1, State.get_hsGoto, State.get_put_clear _ _ h2,
        ← State.qualified_eq, hq]
  · have hst' : (s.begin.disqualify f).get Fld.PWR_HS_STATUS_STATE = 3 := by
      rw [State.get_disqualify _ _ (by decide) (by decide) (by decide), State.get_begin, hst]
    obtain ⟨hq, hqo, hsmp, hgood⟩ := s.begin.disqualified f
    have hl : (s.begin.disqualify f).hsCond.seatLost = false := by simp [State.hsCond, hsmp, hL, hR]
    have hnone : ((s.begin.disqualify f).qualified .a || (s.begin.disqualify f).qualified .b) = false := by
      rw [State.qualified_begin, hother] at hqo
      cases f <;> simp_all [Feed.other]
    refine answers_done (congrArg done (State.whenAux_of_up _ haux)) ?_
    rw [State.hsTransition_ready hst' hl, hnone, if_neg Bool.false_ne_true]
    refine ⟨?_, ?_, ?_⟩
    · exact (State.get_settle _ (by decide)).trans hst'
    · rw [State.qualified_eq, State.get_settle _ (by cases f <;> decide), ← State.qualified_eq, hq]
    · cases f <;> simpa using hgood

end Sys2Proof.Machine
end

section
/-! PROOFS. The auxiliary rail, the monitor and the temperature (O4, R29, R33, R37, R41, R47, R48, R71). -/
namespace Sys2Proof.Machine
open Sys2Proof
set_option Elab.async false

theorem State.alertLevel_of_empty {s : State} (h : s.flt.log = []) : s.alertLevel = false := by simp [State.alertLevel, h]

/-- With an empty log ALERT_N is not driven, and settling writes no register. -/
theorem State.settle_regs_of_empty {s : State} (h : s.flt.log = []) : s.settle.regs = s.regs := by
  simp [State.settle, State.driveAlert, State.alertLevel_of_empty h, State.raiseIf]

/-- An event of the power page reads 1 once raised, with the auxiliary rail up. -/
theorem State.get_raise_aux {s : State} {e : Event} (h : s.hs.auxUp = true) (hd : pageDomain e.page = .aux) (hm : (pageEvtMask e.page).testBit e.bit = true)
    (hb : e.bit < 32) : (s.raise e).get e.field = 1 := State.get_raise_same (by simp [State.live, hd, h]) hm hb

/-! ### The auxiliary rail (R33, R71) -/

/-- The controller as its rail comes up: the cool-down flag and the flag of a missing record hold (R41, R363). -/
def Hs.started (h : Hs) : Hs :=
  { Hs.reset with smp := { HsSample.nominal with seatL := false, seatR := false }, goodA := 0, fetOn := false, convOn := false,
                  cooldown := h.cooldown, recMissing := h.recMissing }

/-- The state of AUX as its rail comes up: the registers empty, the controller unpowered. -/
def State.auxStarted (s : State) : State := { s.powerOnReset with regs := [], hs := Hs.started s.hs }

/-- The counts that the NV store holds are shown again (R33). -/
def State.countsRestored (s : State) : State :=
  ((((s.put64 Addr.PWR_ENERGY_A_LO s.nv.energyA).put64 Addr.PWR_ENERGY_B_LO s.nv.energyB).setWord Addr.PWR_LAST_FAULT s.nv.lastFault).setWord Addr.PWR_FAULT_COUNT
    s.nv.faultCount).setWord Addr.PWR_SWITCH_COUNT s.nv.switchCount

/-- Loading the parameters writes fields clear of the controller's state and the settle delays, and may raise NV_DEFAULTS. -/
theorem State.loadParams_eq (s : State) : ∃ (l : List (Field × Nat)) (a b : Nat) (c : Bool),
    s.loadParams = ({ s.puts l with hs := { (s.puts l).hs with tcxoSettle := a, refSettle := b } } : State).raiseIf c Evt.PWR_NV_DEFAULTS ∧
    (l.all fun e => Fld.PWR_HS_STATUS_STATE.clearOf e.1) = true := ⟨_, _, _, _, rfl, rfl⟩

theorem State.loadParams_parts (s : State) : s.loadParams.hs.auxUp = s.hs.auxUp ∧ s.loadParams.clk = s.clk ∧ s.loadParams.fab = s.fab ∧ s.loadParams.nv = s.nv := by
  obtain ⟨l, a, b, c, h, -⟩ := s.loadParams_eq
  simp [h]

theorem State.get_puts_clear (l : List (Field × Nat)) {g : Field} : ∀ (s : State), (l.all fun e => g.clearOf e.1) = true → (s.puts l).get g = s.get g := by
  induction l with
  | nil => intro s _; rfl
  | cons e l ih =>
    intro s h
    simp only [List.all_cons, Bool.and_eq_true] at h
    rw [State.puts_cons, ih _ h.2, State.get_put_clear _ _ h.1]

theorem State.get_loadParams_state (s : State) : s.loadParams.get Fld.PWR_HS_STATUS_STATE = s.get Fld.PWR_HS_STATUS_STATE := by
  obtain ⟨l, a, b, c, h, hl⟩ := s.loadParams_eq
  rw [h, State.get_raiseIf _ (by decide), State.get_mk, State.get_puts_clear _ _ hl]

theorem State.get_countsRestored_state (s : State) : s.countsRestored.get Fld.PWR_HS_STATUS_STATE = s.get Fld.PWR_HS_STATUS_STATE := by
  simp only [State.countsRestored, State.get, State.put64]
  repeat rw [State.word_setWord_other _ _ (by decide)]

theorem auxRailUp_effect {s : State} (h : s.hs.auxUp = false) : exec .auxRailUp s =
    done { (s.begin.auxStarted.puts controllerOff).loadParams.countsRestored with
      clk := { (s.begin.auxStarted.puts controllerOff).loadParams.countsRestored.clk with stage3Failed := false } } := by
  have harm : exec .auxRailUp s = execAuxRailUp s := rfl
  rw [harm, execAuxRailUp]
  dsimp only
  rw [if_neg (by simp [h])]
  rfl

theorem State.get_controllerOff (s : State) : (s.puts controllerOff).get Fld.PWR_HS_STATUS_STATE = 0 ∧ (s.puts controllerOff).get Fld.PWR_HS_STATUS_PG = 0 := by
  constructor <;> simp (disch := decide) [controllerOff, State.puts_cons, State.get_put_clear, State.get_put_lit]

/-! ### The monitor (R47) -/

/-- The means of the samples since the last update, as the monitor shows them. -/
def State.meansShown (s : State) : State :=
  s.puts [(Fld.PWR_MEAS_A_VOLT, min (s.hs.sumVA / s.hs.samples) 0xFFFF), (Fld.PWR_MEAS_A_CURR, min (s.hs.sumIA / s.hs.samples / 2) 0xFFFF),
    (Fld.PWR_MEAS_B_VOLT, min (s.hs.sumVB / s.hs.samples) 0xFFFF), (Fld.PWR_MEAS_B_CURR, min (s.hs.sumIB / s.hs.samples / 2) 0xFFFF),
    (Fld.PWR_POWER_A_POWER, s.hs.sumPA / s.hs.samples / 1000), (Fld.PWR_POWER_B_POWER, s.hs.sumPB / s.hs.samples / 1000)]

/-- The sums start again. -/
def Hs.sumsCleared (h : Hs) : Hs := { h with samples := 0, sumVA := 0, sumVB := 0, sumIA := 0, sumIB := 0, sumPA := 0, sumPB := 0 }

theorem pwrMeasUpdate_effect {s : State} (haux : s.hs.auxUp = true) (hn : s.hs.samples ≠ 0) :
    exec .pwrMeasUpdate s = done { s.begin.meansShown with hs := s.hs.sumsCleared } := by
  have harm : exec .pwrMeasUpdate s = execPwrMeasUpdate s := rfl
  rw [harm, execPwrMeasUpdate, State.whenAux_of_up _ haux]
  simp [hn, State.meansShown, Hs.sumsCleared]

/-- The four means that the monitor shows, each in 16 bits. -/
theorem State.get_meas (s : State) (va ia vb ib pa pb : Nat) (hva : va < 2 ^ 16) (hia : ia < 2 ^ 16) (hvb : vb < 2 ^ 16) (hib : ib < 2 ^ 16) :
    let t : State := s.puts [(Fld.PWR_MEAS_A_VOLT, va), (Fld.PWR_MEAS_A_CURR, ia), (Fld.PWR_MEAS_B_VOLT, vb), (Fld.PWR_MEAS_B_CURR, ib), (Fld.PWR_POWER_A_POWER, pa),
      (Fld.PWR_POWER_B_POWER, pb)]
    t.get Fld.PWR_MEAS_A_VOLT = va ∧ t.get Fld.PWR_MEAS_B_VOLT = vb ∧ t.get Fld.PWR_MEAS_A_CURR = ia ∧ t.get Fld.PWR_MEAS_B_CURR = ib := by
  simp only [State.puts_cons, State.puts_nil]
  refine ⟨?_, ?_, ?_, ?_⟩
  · rw [State.get_put_clear _ _ (by decide), State.get_put_clear _ _ (by decide), State.get_put_clear _ _ (by decide), State.get_put_clear _ _ (by decide),
      State.get_put_clear _ _ (by decide), State.get_put_lit _ (by decide) hva]
  · rw [State.get_put_clear _ _ (by decide), State.get_put_clear _ _ (by decide), State.get_put_clear _ _ (by decide), State.get_put_lit _ (by decide) hvb]
  · rw [State.get_put_clear _ _ (by decide), State.get_put_clear _ _ (by decide), State.get_put_clear _ _ (by decide), State.get_put_clear _ _ (by decide),
      State.get_put_lit _ (by decide) hia]
  · rw [State.get_put_clear _ _ (by decide), State.get_put_clear _ _ (by decide), State.get_put_lit _ (by decide) hib]

theorem min_lt_two_pow (n : Nat) : min n 0xFFFF < 2 ^ 16 := by omega

theorem State.get_meansShown (s : State) : s.meansShown.get Fld.PWR_MEAS_A_VOLT = min (s.hs.sumVA / s.hs.samples) 0xFFFF ∧
    s.meansShown.get Fld.PWR_MEAS_B_VOLT = min (s.hs.sumVB / s.hs.samples) 0xFFFF ∧
    s.meansShown.get Fld.PWR_MEAS_A_CURR = min (s.hs.sumIA / s.hs.samples / 2) 0xFFFF ∧
    s.meansShown.get Fld.PWR_MEAS_B_CURR = min (s.hs.sumIB / s.hs.samples / 2) 0xFFFF :=
  s.get_meas _ _ _ _ _ _ (min_lt_two_pow _) (min_lt_two_pow _) (min_lt_two_pow _) (min_lt_two_pow _)

theorem Frame.meansShown (s : State) : Frame [.hs] [Fld.PWR_MEAS_A_VOLT, Fld.PWR_MEAS_A_CURR, Fld.PWR_MEAS_B_VOLT, Fld.PWR_MEAS_B_CURR, Fld.PWR_POWER_A_POWER,
    Fld.PWR_POWER_B_POWER] s { s.begin.meansShown with hs := s.hs.sumsCleared } :=
  (((((((Frame.begin s).andPut _).andPut _).andPut _).andPut _).andPut _).andPut _).andHs _

/-- Settles O4. -/
theorem auxDomain : Obligations.AuxDomain := by
  unfold Obligations.AuxDomain
  intro s
  refine ⟨fun haux => ?_, ?_, fun haux => ?_, fun haux hn => ?_, fun haux => ?_, fun haux => ?_, ?_, fun haux => ?_⟩
  · refine answers_done (auxRailUp_effect haux) ?_
    obtain ⟨hup, hclk, hfab, hnv⟩ := (s.begin.auxStarted.puts controllerOff).loadParams_parts
    rw [State.puts_hs] at hup
    rw [State.puts_clk] at hclk
    refine ⟨?_, ?_, ?_, ?_, ?_, ?_⟩
    · rw [State.settle_hs]
      exact hup
    · rw [State.get_settle _ (by decide), State.get_mk, State.get_countsRestored_state, State.get_loadParams_state, (State.get_controllerOff _).1]
    · rw [State.settle_clk]
      exact congrArg Clk.porAsserted hclk
    · rw [State.settle_clk]
      exact congrArg Clk.mgmtUp hclk
    · rw [State.settle_fab]
      exact hfab.trans (State.puts_fab _ _)
    · rw [State.settle_nv]
      exact hnv.trans (State.puts_nv _ _)
  · refine answers_done rfl ⟨?_, ?_, ?_, ?_, ?_, ?_, ?_, ?_⟩
    · simp
    · simp [State.powerOnReset]
    · simp [State.powerOnReset]
    · rw [State.get_settle _ (by decide), State.get_mk, (State.get_controllerOff _).2]
    · rw [State.settle_regs_of_empty (by simp [State.powerOnReset, Flt.reset])]
      rfl
    · simp [State.powerOnReset]
    · simp [State.powerOnReset]
    · simp [State.powerOnReset]
  · refine answers_done (congrArg done (State.whenAux_of_up _ haux)) ⟨?_, ?_, ?_, ?_, ?_, ?_, ?_, ?_⟩
    all_goals simp [State.powerOnReset, State.settle_keeper, Keeper.reset]
  · obtain ⟨hva, hvb, hia, hib⟩ := s.begin.get_meansShown
    refine answers_done (pwrMeasUpdate_effect haux hn) ⟨?_, ?_, ?_, ?_, by simp [Hs.sumsCleared], (Frame.meansShown s).settle⟩
    · rw [State.get_settle _ (by decide), State.get_mk, hva, State.begin_hs]
    · rw [State.get_settle _ (by decide), State.get_mk, hvb, State.begin_hs]
    · rw [State.get_settle _ (by decide), State.get_mk, hia, State.begin_hs]
    · rw [State.get_settle _ (by decide), State.get_mk, hib, State.begin_hs]
  · refine answers_done (congrArg done (State.whenAux_of_up _ haux)) ⟨?_, ?_, ?_⟩
    · rw [State.settle_nv, State.persistEnergy, State.nvWrote_nv]
      rfl
    · rw [State.settle_nv, State.persistEnergy, State.nvWrote_nv]
      rfl
    · exact ((Frame.begin s).nv _ (by simp)).andNvWrote 3 |>.settle
  · refine answers_done rfl ⟨?_, (Frame.begin s).andRaise.settle⟩
    rw [State.get_settle _ (by decide)]
    exact State.get_raise_aux haux rfl (by decide) (by decide)
  · refine answers_done rfl ⟨by simp, fun hh => ?_⟩
    obtain ⟨hheld, hfab⟩ := State.fatal_fabric (s := s.begin) (s.begin.message Kind.THERM_TRIP 2 0x003 0 8 Party.none none) .source hh
    exact ⟨by simpa using hheld, by simpa using hfab⟩
  · have he : exec .cooldownFlagDecay s = done { s.begin with hs := { s.hs with cooldown := false } } := congrArg done (if_neg (by simp [haux]))
    exact answers_done he ⟨by simp, ((Frame.begin s).andHs _).settle⟩

end Sys2Proof.Machine
end

section
/-! PROOFS. Event registers and locks of a page (O17, R438, R441, R444, R446). -/
namespace Sys2Proof.Machine
open Sys2Proof
set_option Elab.async false

/-! ### Pages -/

theorem page_of_block {pg f : Nat} {x : Block} (hb : blockOf pg = some (x, f)) (hx : x ≠ .bindTbl) : pg < 0x600 ∨ 0x605 < pg := by
  by_contra hne
  have hbt : blockOf pg = some (.bindTbl, 0x600) := by
    unfold blockOf
    repeat rw [if_neg (by omega)]
    rw [if_pos (by omega)]
  rw [hbt] at hb
  cases hb
  exact hx rfl

/-- In a page that is none of the binding tables no register below 0x1100 is mirrored. -/
theorem regionOf_header {pg f o : Nat} {x : Block} (hb : blockOf pg = some (x, f)) (hx : x ≠ .bindTbl) (ho : o < 0x1100) : regionOf (pg * 0x10000 + o) = none :=
  regionOf_low (by omega) (by have := page_of_block hb hx; omega)

theorem hasHeader_ne_bindTbl {x : Block} (h : hasHeader x = true) : x ≠ .bindTbl := by rintro rfl; simp [hasHeader] at h
theorem lockable_ne_bindTbl {x : Block} (h : lockable x = true) : x ≠ .bindTbl := by rintro rfl; simp [lockable] at h

/-! ### Settling with ALERT_N as it should be -/

/-- ALERT_N depends on the log, the board's acknowledgement and the mask alone (R358). -/
theorem State.alertLevel_congr {s t : State} (hl : t.flt.log = s.flt.log) (ha : t.get Fld.FLT_BOARD_ACK_SEQ = s.get Fld.FLT_BOARD_ACK_SEQ)
    (hm : t.get Fld.FLT_ALERT_CFG_MASK = s.get Fld.FLT_ALERT_CFG_MASK) : t.alertLevel = s.alertLevel := by
  simp only [State.alertLevel, hl, ha, hm]

theorem State.settle_regs_of_level {s : State} (h : s.flt.alert = s.alertLevel) : s.settle.regs = s.regs := by
  simp [State.settle, State.driveAlert, ← h, State.raiseIf]

/-- A write of a register that ALERT_N does not depend on leaves it as it should be. -/
theorem State.level_setWord {s : State} {a : Nat} (w : Word) (h : s.flt.alert = s.alertLevel) (ha : a ≠ Addr.FLT_BOARD_ACK) (hm : a ≠ Addr.FLT_ALERT_CFG) :
    (s.setWord a w).flt.alert = (s.setWord a w).alertLevel := by
  rw [State.setWord_flt, h]
  refine (State.alertLevel_congr (by simp) ?_ ?_).symm <;> simp only [State.get]
  · rw [State.word_setWord_other _ _ (show Fld.FLT_BOARD_ACK_SEQ.addr ≠ a from Ne.symm ha)]
  · rw [State.word_setWord_other _ _ (show Fld.FLT_ALERT_CFG_MASK.addr ≠ a from Ne.symm hm)]

theorem State.level_dropLevels {s : State} (h : s.flt.alert = s.alertLevel) : s.dropLevels.flt.alert = s.dropLevels.alertLevel := by
  rw [State.dropLevels_flt, h]
  exact (State.alertLevel_congr (by simp) (by simp) (by simp)).symm

theorem Frame.andDropLevels {ps : List Part} {fs : List Field} {s t : State} (h : Frame ps fs s t) : Frame ps fs s t.dropLevels :=
  h.upd rfl rfl fun p _ hp => by cases p <;> simp_all [State.Same, State.dropLevels]

/-! ### Event registers (R441) -/

theorem State.eventWrite_of_header {s : State} {m : Master} {pg f : Nat} {x : Block} (g : State → State) (hb : blockOf pg = some (x, f)) (hh : hasHeader x = true) :
    s.eventWrite m pg g = s.begin.guard m pg g := by
  simp only [State.eventWrite, hb, hh, if_true]

theorem BitVec.ofNat_toNat_or (w : Word) (n : Nat) : BitVec.ofNat 32 (w.toNat ||| n) = w ||| BitVec.ofNat 32 n := by
  simp [BitVec.ofNat_or]

theorem BitVec.ofNat_toNat_and (w : Word) (n : Nat) : BitVec.ofNat 32 (w.toNat &&& n) = w &&& BitVec.ofNat 32 n := by
  simp [BitVec.ofNat_and]

theorem State.writePend_eq (s : State) (pg : Nat) (w : Word) :
    s.writePend pg w.toNat = s.setWord (evtPendAddr pg) (s.word (evtPendAddr pg) ||| (w &&& BitVec.ofNat 32 (pageEvtMask pg))) := by
  rw [State.writePend, State.setEvents, BitVec.ofNat_toNat_or, BitVec.ofNat_toNat_and]

theorem State.writeEn_eq (s : State) (pg : Nat) (w : Word) :
    s.writeEn pg w.toNat = s.setWord (evtEnAddr pg) (s.word (evtEnAddr pg) ||| (w &&& BitVec.ofNat 32 (pageEvtMask pg))) := by
  rw [State.writeEn, BitVec.ofNat_toNat_and]

theorem State.clearPend_eq (s : State) (pg : Nat) (w : Word) :
    s.clearPend pg w.toNat = (s.setWord (evtPendAddr pg) (s.word (evtPendAddr pg) &&& ~~~ w)).dropLevels := by
  rw [State.clearPend, BitVec.ofNat_toNat, BitVec.setWidth_eq]

theorem State.clearEn_eq (s : State) (pg : Nat) (w : Word) :
    s.clearEn pg w.toNat = (s.setWord (evtEnAddr pg) (s.word (evtEnAddr pg) &&& ~~~ w)).dropLevels := by
  rw [State.clearEn, BitVec.ofNat_toNat, BitVec.setWidth_eq]

/-- What a write of one register at offset 0x40 or 0x50 of a header answers, where it may drop levels with it. -/
theorem answers_eventWrite {c : Instr} {s : State} {m : Master} {pg f a : Nat} {x : Block} {g : State → State} {w : Word} (he : exec c s = done (s.eventWrite m pg g))
    (hal : s.flt.alert = s.alertLevel) (htk : s.takes m pg = true) (hb : blockOf pg = some (x, f)) (hh : hasHeader x = true) (ha : a = evtPendAddr pg ∨ a = evtEnAddr pg)
    (hg : g s.begin = s.begin.setWord a w ∨ g s.begin = (s.begin.setWord a w).dropLevels) : Answers c s fun t => t.word a = w ∧ Frame [] [Field.all a] s t := by
  have hreg : ∀ y ∈ [Field.all a], regionOf y.addr = none := by
    have hr : regionOf a = none := by
      rcases ha with rfl | rfl
      · exact regionOf_header hb (hasHeader_ne_bindTbl hh) (by decide)
      · exact regionOf_header hb (hasHeader_ne_bindTbl hh) (by decide)
    simpa [Field.all] using hr
  have hset : Frame [] [Field.all a] s (s.begin.setWord a w) := (Frame.begin s).andSetWord w
  have hlevel : (s.begin.setWord a w).flt.alert = (s.begin.setWord a w).alertLevel :=
    State.level_setWord w (by simpa using hal) (by rcases ha with rfl | rfl <;> simp only [evtPendAddr, evtEnAddr, Addr.FLT_BOARD_ACK] <;> omega)
      (by rcases ha with rfl | rfl <;> simp only [evtPendAddr, evtEnAddr, Addr.FLT_ALERT_CFG] <;> omega)
  rw [State.eventWrite_of_header g hb hh] at he
  rcases hg with hg | hg
  · refine answers_guard he htk hg hset (by simp) hreg fun hf => ⟨?_, hf⟩
    rw [State.word_congr (State.settle_regs_of_level hlevel), State.word_setWord_same]
  · refine answers_guard he htk hg hset.andDropLevels (by simp) hreg fun hf => ⟨?_, hf⟩
    rw [State.word_congr (State.settle_regs_of_level (State.level_dropLevels hlevel)), State.word_dropLevels, State.word_setWord_same]

/-! ### Locks (R444, R446) -/

/-- The row of the LOCK of every lockable page (R435). -/
def lockRow : RegRow := ⟨0x10FC, 4, 1, 4, 1, .single, [⟨0, 0, .rwl, 0⟩]⟩

set_option maxRecDepth 20000 in
/-- Below the counter arrays, every lockable page is a block of its own. -/
theorem first_of_lockable_low : ∀ pg < 0x606, (match blockOf pg with | some (x, f) => !lockable x || f == pg | none => true) = true := by decide

theorem first_of_lockable {pg f : Nat} {x : Block} (hb : blockOf pg = some (x, f)) (hl : lockable x = true) : f = pg := by
  rcases Nat.lt_or_ge pg 0x606 with hpg | hpg
  · have h := first_of_lockable_low pg hpg
    simpa [hb, hl] using h
  · exfalso
    unfold blockOf at hb
    repeat rw [if_neg (by omega)] at hb
    split at hb
    · cases hb
      simp [lockable] at hl
    · cases hb

theorem findRow_lock {pg f : Nat} {x : Block} (hb : blockOf pg = some (x, f)) (hl : lockable x = true) : findRow (pg * 0x10000 + 0x10FC) = some lockRow := by
  have hdiv : (pg * 0x10000 + 0x10FC) / 0x10000 = pg := by omega
  obtain rfl := first_of_lockable hb hl
  have hrows : ((pageRows x).find? fun r => r.holds 0x10FC) = some lockRow := by cases x <;> first | rfl | simp [lockable] at hl
  rw [findRow, if_neg (by omega), hdiv, hb]
  simpa using hrows

theorem writeBlock_lock {s : State} {m : Master} {x : Block} {a v : Nat} (hl : lockable x = true) : s.writeBlock m x none 0x10FC a v = s.stored a v := by
  cases x <;> first | rfl | simp [lockable] at hl

/-- A lockable page's LOCK takes bit 0 of the word offered. -/
theorem applyWrite_lock {s : State} {m : Master} {pg f : Nat} {x : Block} (w : Word) (hb : blockOf pg = some (x, f)) (hl : lockable x = true) :
    s.applyWrite m (pg * 0x10000 + 0x10FC) w = s.stored (pg * 0x10000 + 0x10FC) (s.offered (pg * 0x10000 + 0x10FC) w).toNat := by
  have hdiv : (pg * 0x10000 + 0x10FC) / 0x10000 = pg := by omega
  have hmod : (pg * 0x10000 + 0x10FC) % 0x10000 = 0x10FC := by omega
  have hrow := findRow_lock hb hl
  have hpair : pairWord (pg * 0x10000 + 0x10FC) = .single := by
    rw [pairWord, hdiv, hb, hrow]
    cases x <;> simp [lockable, lockRow] at hl ⊢
  have hreg : regionOf (pg * 0x10000 + 0x10FC) = none := regionOf_header hb (lockable_ne_bindTbl hl) (by decide)
  obtain rfl := first_of_lockable hb hl
  rw [State.applyWrite, hreg, hdiv, hb, hmod, hrow, hpair]
  simp [writeBlock_lock hl]

/-- What a write of a lockable page's LOCK leaves there: bit 0 once set stays set, the rest is as before (R444). -/
def State.lockWord (s : State) (pg : Nat) (w : Word) : Word :=
  (s.word (pg * 0x10000 + 0x10FC) &&& ~~~ 1#32) ||| (s.offered (pg * 0x10000 + 0x10FC) w &&& 1#32)

theorem stored_lock {s : State} {pg f : Nat} {x : Block} (w : Word) (hb : blockOf pg = some (x, f)) (hl : lockable x = true) :
    s.stored (pg * 0x10000 + 0x10FC) (s.offered (pg * 0x10000 + 0x10FC) w).toNat = s.setWord (pg * 0x10000 + 0x10FC) (s.lockWord pg w) := by
  have hmask : BitVec.ofNat 32 (storeMask lockRow) = 1#32 := by decide
  rw [State.stored, findRow_lock hb hl]
  simp only [hmask, State.lockWord, BitVec.ofNat_toNat, BitVec.setWidth_eq]

theorem bitsOf_zero_eq_one (w : Word) : (bitsOf w.toNat 0 1 == 1) = w.getLsbD 0 := by
  rw [bitsOf_one, BitVec.testBit_toNat]
  cases w.getLsbD 0 <;> rfl

theorem State.locked_eq (s : State) (pg : Nat) : s.locked pg = (s.word (pg * 0x10000 + 0x10FC)).getLsbD 0 := bitsOf_zero_eq_one _

theorem lockWord_bit {s : State} {pg f : Nat} {x : Block} (w : Word) (hb : blockOf pg = some (x, f)) (hl : lockable x = true) :
    (s.lockWord pg w).getLsbD 0 = (w.getLsbD 0 || s.locked pg) := by
  have hdiv : (pg * 0x10000 + 0x10FC) / 0x10000 = pg := by omega
  have hpg : lockPage pg = pg := by
    rw [lockPage, if_neg]
    intro hc
    have hbt : blockOf pg = some (.schedTbl, 0x400) := by
      unfold blockOf
      repeat rw [if_neg (by omega)]
      rw [if_pos (by omega)]
    rw [hbt] at hb
    cases hb
    simp [lockable] at hl
  have hmask : rwlMask (pg * 0x10000 + 0x10FC) = 1 := by
    rw [rwlMask, findRow_lock hb hl]
    rfl
  rw [State.lockWord, State.offered, hdiv, hpg, hmask]
  cases hlk : s.locked pg
  · simp
  · have hbit := s.locked_eq pg
    rw [hlk] at hbit
    simp [← hbit]

/-- Setting registers to one value, one after the other. -/
theorem word_foldl_setWord (g : Nat → Nat) (w : Word) (l : List Nat) (a : Nat) : ∀ s : State,
    (l.foldl (fun s x => s.setWord (g x) w) s).word a = if a ∈ l.map g then w else s.word a := by
  induction l with
  | nil => intro s; simp
  | cons x l ih =>
    intro s
    rw [List.foldl_cons, ih]
    by_cases hx : a = g x
    · simp [hx]
    · simp [hx, State.word_setWord_other _ _ hx]

theorem Frame.andLockAll {ps : List Part} {s t : State} {fs : List Field} (h : Frame ps fs s t) (hf : ∀ pg ∈ lockPages, Field.all (pg * 0x10000 + 0x10FC) ∈ fs) :
    Frame ps fs s t.lockAll := by
  have key : ∀ l : List Nat, (∀ pg ∈ l, pg ∈ lockPages) → ∀ u : State, Frame ps fs s u → Frame ps fs s (l.foldl (fun s pg => s.setWord (pg * 0x10000 + 0x10FC) 1) u) := by
    intro l
    induction l with
    | nil => intro _ u hu; exact hu
    | cons pg l ih =>
      intro hl u hu
      exact ih (fun p hp => hl p (List.mem_cons_of_mem _ hp)) _ (hu.setWord _ (hf pg (hl pg List.mem_cons_self)))
  exact key _ (fun pg hp => List.mem_of_mem_filter hp) t h

set_option maxRecDepth 20000 in
theorem lockPages_low : ∀ pg ∈ lockPages, pg < 0x600 := by decide

/-- A write that its page takes without effect, or that does not reach it, changes nothing. -/
theorem State.guard_of_noEffect {s : State} {m : Master} {pg : Nat} {f : State → State} (hm : m ≠ .policy) (hf : f s = s) : s.guard m pg f = s := by
  have hmirror : s.mirror s = s := State.mirror_eq_self (fun _ _ => rfl) rfl
  have hpol : (m == .policy) = false := by simpa using hm
  simp only [State.guard, hpol, hf, hmirror, Bool.false_and, Bool.false_eq_true, if_false, ite_self]

/-- Settles O17. -/
theorem eventsAndLocks : Obligations.EventsAndLocks := by
  unfold Obligations.EventsAndLocks
  intro s m
  refine ⟨fun page bits x f hal htk hb hh => ?_, fun page bits x f hal htk hb hh => ?_, fun page bits x f hal htk hb hh => ?_, fun page bits x f hal htk hb hh => ?_,
    fun page value x f htk hb hl => ?_, fun value htk hm hv => ?_, fun value hm hv => ?_⟩
  · exact answers_eventWrite rfl hal htk hb hh (.inl rfl) (.inl (State.writePend_eq _ _ _))
  · exact answers_eventWrite rfl hal htk hb hh (.inl rfl) (.inr (State.clearPend_eq _ _ _))
  · exact answers_eventWrite rfl hal htk hb hh (.inr rfl) (.inl (State.writeEn_eq _ _ _))
  · exact answers_eventWrite rfl hal htk hb hh (.inr rfl) (.inr (State.clearEn_eq _ _ _))
  · have hdiv : (page.toNat * 0x10000 + 0x10FC) / 0x10000 = page.toNat := by omega
    have he : exec (.pageLockWrite m page value) s = done (s.begin.guard m page.toNat fun u => u.applyWrite m (page.toNat * 0x10000 + 0x10FC) value) := by
      have harm : exec (.pageLockWrite m page value) s = execPageLockWrite m page value s := rfl
      rw [harm, execPageLockWrite, State.softWrite, if_neg (by omega), hdiv]
    have hreg := regionOf_header hb (lockable_ne_bindTbl hl) (show 0x10FC < 0x1100 by decide)
    refine answers_guard he htk ((applyWrite_lock value hb hl).trans (stored_lock value hb hl)) ((Frame.begin s).andSetWord _) (by simp) (by simpa [Field.all] using hreg)
      fun hf => ⟨?_, hf⟩
    rw [State.locked_eq, State.word_settle _ (by omega), State.word_setWord_same, lockWord_bit value hb hl, State.locked_begin]
  · have hfx : s.begin.writeLockAll m value.toNat = s.begin.lockAll := by simp [State.writeLockAll, hm, hv]
    have hfr : Frame [] (lockPages.map fun pg => Field.all (pg * 0x10000 + 0x10FC)) s s.begin.lockAll :=
      (Frame.begin s).andLockAll fun pg hp => List.mem_map_of_mem hp
    refine answers_guard rfl htk hfx hfr (hfr.home_dir (by simp)) ?_ fun hf => ⟨fun pg hp hlive => ?_, hf⟩
    · intro y hy
      obtain ⟨pg, hp, rfl⟩ := List.mem_map.mp hy
      have hlow := lockPages_low pg hp
      exact regionOf_low (by simp only [Field.all]; omega) (by simp only [Field.all]; omega)
    · have hmem : pg * 0x10000 + 0x10FC ∈ ((lockPages.filter s.begin.live).map fun pg => pg * 0x10000 + 0x10FC) :=
        List.mem_map_of_mem (List.mem_filter.mpr ⟨hp, by simpa using hlive⟩)
      rw [State.locked_eq, State.word_settle _ (by omega), State.lockAll, word_foldl_setWord, if_pos hmem]
      rfl
  · have hno : s.begin.writeLockAll m value.toNat = s.begin := by
      rw [State.writeLockAll, if_neg]
      rcases hv with hv | hv <;> simp [hv]
    exact answers_done (congrArg done (State.guard_of_noEffect hm hno)) (Frame.begin s).settle

end Sys2Proof.Machine
end

section
/-! PROOFS. Frames of the updates of a fabric unit or of a box. -/
namespace Sys2Proof.Machine
open Sys2Proof
set_option Elab.async false

namespace Frame
variable {ps : List Part} {fs : List Field} {s t : State}

theorem andModSw (h : Frame ps fs s t) (f : Switch → Switch) (hp : Part.fab ∈ ps := by simp) : Frame ps fs s (t.modSw f) := h.fab _ rfl rfl hp
theorem andModHat (h : Frame ps fs s t) (f : Hat → Hat) (hp : Part.fab ∈ ps := by simp) : Frame ps fs s (t.modHat f) := h.fab _ rfl rfl hp
theorem andModComb (h : Frame ps fs s t) (f : Comb → Comb) (hp : Part.fab ∈ ps := by simp) : Frame ps fs s (t.modComb f) := h.fab _ rfl rfl hp
theorem andModMover (h : Frame ps fs s t) (f : Mover → Mover) (hp : Part.fab ∈ ps := by simp) : Frame ps fs s (t.modMover f) := h.fab _ rfl rfl hp
theorem andModDlog (h : Frame ps fs s t) (f : Dlog → Dlog) (hp : Part.fab ∈ ps := by simp) : Frame ps fs s (t.modDlog f) := h.fab _ rfl rfl hp
theorem andModHome (h : Frame ps fs s t) (f : Home → Home) (hp : Part.fab ∈ ps := by simp) : Frame ps fs s (t.modHome f) := h.fab _ rfl rfl hp
theorem andModLanes (h : Frame ps fs s t) (f : Lanes → Lanes) (hp : Part.fab ∈ ps := by simp) : Frame ps fs s (t.modLanes f) := h.fab _ rfl rfl hp
theorem andModBox (h : Frame ps fs s t) (k : Nat) (f : Box → Box) (hp : Part.mbx ∈ ps := by simp) : Frame ps fs s (t.modBox k f) := h.mbx _ hp
theorem andKeeper (h : Frame ps fs s t) (x : Keeper) (hp : Part.keeper ∈ ps := by simp) : Frame ps fs s { t with keeper := x } := h.keeper x hp
theorem andFlt (h : Frame ps fs s t) (x : Flt) (hp : Part.flt ∈ ps := by simp) : Frame ps fs s { t with flt := x } := h.flt x hp
theorem andClk (h : Frame ps fs s t) (x : Clk) (hp : Part.clk ∈ ps := by simp) : Frame ps fs s { t with clk := x } := h.clk x hp
theorem andBoot (h : Frame ps fs s t) (x : Boot) (hp : Part.boot ∈ ps := by simp) : Frame ps fs s { t with boot := x } := h.boot x hp
theorem andNv (h : Frame ps fs s t) (x : Nv) (hp : Part.nv ∈ ps := by simp) : Frame ps fs s { t with nv := x } := h.nv x hp
theorem andPerf (h : Frame ps fs s t) (x : Perf) (hp : Part.perf ∈ ps := by simp) : Frame ps fs s { t with perf := x } := h.perf x hp
theorem andSec (h : Frame ps fs s t) (x : Sec) (hp : Part.sec ∈ ps := by simp) : Frame ps fs s { t with sec := x } := h.sec x hp
theorem andMbx (h : Frame ps fs s t) (x : Mbx) (hp : Part.mbx ∈ ps := by simp) : Frame ps fs s { t with mbx := x } := h.mbx x hp

/-- One of two ways, both within the frame. -/
theorem ite {c : Prop} [Decidable c] {u : State} (h : Frame ps fs s t) (hu : Frame ps fs s u) : Frame ps fs s (if c then t else u) := by
  split
  · exact h
  · exact hu

end Frame
end Sys2Proof.Machine
end

section
/-! PROOFS. Shapers and policers: commit and refill (O22, R200, R203, R204, R212). -/
namespace Sys2Proof.Machine
open Sys2Proof
set_option Elab.async false

/-! ### The refill (R200, R203) -/

/-- PENDING of a bucket clears and APPLIED is raised where a snapshot takes effect. -/
def State.applied (s : State) (f : Field) (c : Bool) : State := if c then (s.put f 0).raise Evt.SCHED_APPLIED else s

theorem Frame.andApplied {ps : List Part} {fs : List Field} {s t : State} (h : Frame ps fs s t) {f : Field} (c : Bool) (hf : f ∈ fs := by simp)
    (he : Evt.SCHED_APPLIED.field ∈ fs := by simp) : Frame ps fs s (t.applied f c) := by
  cases c
  · exact h
  · exact (h.put 0 hf).raise he

@[simp] theorem State.applied_fab (s : State) (f : Field) (c : Bool) : (s.applied f c).fab = s.fab := by cases c <;> simp [State.applied]

/-- A snapshot that took effect: the bucket's PENDING reads 0, APPLIED reads 1. -/
theorem State.get_applied {s : State} {f : Field} (h : s.fabricRuns = true) (hf : f.lo + f.width ≤ 32) (ha : f.addr ≠ evtPendAddr 0x40) :
    (s.applied f true).get f = 0 ∧ (s.applied f true).get Evt.SCHED_APPLIED.field = 1 := by
  obtain ⟨hup, hheld, -⟩ := State.fabricRuns_iff.mp h
  constructor
  · rw [State.applied, if_pos rfl, State.get_raise (e := Evt.SCHED_APPLIED) _ ha, State.get_put_same _ _ _ hf, Nat.zero_mod]
  · rw [State.applied, if_pos rfl, State.get_raise_fabric (by simpa using hup) (by simpa using hheld) rfl (by decide) (by decide)]

/-- The fields of the scheduler's tables: none is mirrored, and settling writes none. -/
structure Field.inSched (f : Field) : Prop where
  low : 0x4020000 ≤ f.addr
  high : f.addr < 0x4080000
  fits : f.lo + f.width ≤ 32

theorem Field.inSched.region {f : Field} (h : f.inSched) : regionOf f.addr = none := regionOf_page (by have := h.low; have := h.high; omega)
theorem Field.inSched.settled {f : Field} (h : f.inSched) : f.addr ≠ 0x40040 := by have := h.low; omega
theorem Field.inSched.apart {f : Field} (h : f.inSched) : f.addr ≠ evtPendAddr 0x40 := by have := h.low; simp only [evtPendAddr]; omega

theorem inSched_subShp (u : SubId) : (Fld.SUB_SHP_CTL_PENDING u.val).inSched ∧ (Fld.SUB_SHP_CTL_EN u.val).inSched ∧ (Fld.SUB_SHP_CTL_SVC_MASK u.val).inSched := by
  refine ⟨⟨?_, ?_, ?_⟩, ⟨?_, ?_, ?_⟩, ⟨?_, ?_, ?_⟩⟩ <;> simp only [Fld.SUB_SHP_CTL_PENDING, Fld.SUB_SHP_CTL_EN, Fld.SUB_SHP_CTL_SVC_MASK, Addr.SUB_SHP_CTL] <;> omega

theorem inSched_portShp (p : Port) : (Fld.PORT_SHP_CTL_PENDING p.val).inSched := by
  refine ⟨?_, ?_, ?_⟩ <;> simp only [Fld.PORT_SHP_CTL_PENDING, Addr.PORT_SHP_CTL] <;> omega

theorem inSched_subPol (u : SubId) : (Fld.SUB_POL_CTL_PENDING u.val).inSched ∧ (Fld.SUB_POL_CTL_EN u.val).inSched := by
  refine ⟨⟨?_, ?_, ?_⟩, ⟨?_, ?_, ?_⟩⟩ <;> simp only [Fld.SUB_POL_CTL_PENDING, Fld.SUB_POL_CTL_EN, Addr.SUB_POL_CTL] <;> omega

/-- What a refill answers: its frame, and PENDING and APPLIED where the snapshot took effect everywhere. -/
theorem answers_refill {c : Instr} {s x : State} {f : Field} {b : Bool} {P : State → Prop} {g : State → State} {h : Switch → Switch}
    (he : exec c s = done (s.begin.whenFabric g)) (hrun : s.fabricRuns = true) (hf : f.inSched) (hg : g s.begin = x)
    (hx : x = (s.begin.applied f b).modSw h ∨ x = (s.begin.modSw h).applied f b)
    (hp : x.fab.sw = h s.fab.sw → (b = true → x.settle.get f = 0 ∧ x.settle.get Evt.SCHED_APPLIED.field = 1) → Frame [.fab] [f, Evt.SCHED_APPLIED.field] s x.settle →
      P x.settle) : Answers c s P := by
  have hrun' : s.begin.fabricRuns = true := by simpa using hrun
  have hreg : ∀ y ∈ [f, Evt.SCHED_APPLIED.field], regionOf y.addr = none := by
    have := hf.region
    simpa using ⟨this, by decide⟩
  have hgets : b = true → x.get f = 0 ∧ x.get Evt.SCHED_APPLIED.field = 1 := by
    rintro rfl
    rcases hx with rfl | rfl
    · exact State.get_applied hrun' hf.fits hf.apart
    · exact State.get_applied (s := s.begin.modSw h) hrun' hf.fits hf.apart
  have hsettled : b = true → x.settle.get f = 0 ∧ x.settle.get Evt.SCHED_APPLIED.field = 1 := by
    rw [State.get_settle _ hf.settled, State.get_settle _ (by decide)]
    exact hgets
  rcases hx with rfl | rfl
  · refine answers_fabric he hrun hg (((Frame.begin s).andApplied b).andModSw h) (by simp) hreg fun hfr => hp (by simp) hsettled hfr
  · refine answers_fabric he hrun hg (((Frame.begin s).andModSw h).andApplied b) (by simp) hreg fun hfr => hp (by simp) hsettled hfr

theorem State.refillSub_eq (s : State) (same : Bool) (u : Nat) : s.refillSub same u =
    (if same then assoc s.fab.sw.start u else none).elim (s.subBucket u).refill fun x => ({ s.subBucket u with count := x.1 } : Bucket).refill.charge x.2 := by
  unfold State.refillSub
  dsimp only
  cases (if same = true then assoc s.fab.sw.start u else none) <;> rfl

/-- The refill of a policer's copy leaves the copies of the other tiles (R204). -/
theorem State.polBucket_other {s : State} {k j u : Nat} (h : j ≠ k) (b : Bucket) :
    (s.modSw fun w => { w with polBkt := mput Bucket.off w.polBkt (4096 * k + u) b }).polBucket j u = s.polBucket j u :=
  mget_mput_other _ _ _ (by omega)

theorem State.polBucket_same (s : State) (k u : Nat) (b : Bucket) :
    (s.modSw fun w => { w with polBkt := mput Bucket.off w.polBkt (4096 * k + u) b }).polBucket k u = b := mget_mput_same _ _ _ _

theorem Bucket.refill_next (b : Bucket) : b.refill.next = none := by
  unfold Bucket.refill
  dsimp only
  split <;> rfl

/-! ### Commits (R203, R204, R212) -/

/-- The snapshot of a policer goes to the copies of the tiles listed. -/
def State.polSnapshot (s : State) (u : Nat) (c : BucketCfg) (l : List Nat) : State :=
  l.foldl (fun s t => s.modSw fun w => { w with polBkt := mput Bucket.off w.polBkt (4096 * t + u) { s.polBucket t u with next := some c } }) s

theorem Frame.andPolSnapshot {ps : List Part} {fs : List Field} {s : State} (u : Nat) (c : BucketCfg) (hp : Part.fab ∈ ps) (l : List Nat) :
    ∀ {t : State}, Frame ps fs s t → Frame ps fs s (t.polSnapshot u c l) := by
  induction l with
  | nil => intro t h; exact h
  | cons k l ih => intro t h; exact ih (h.andModSw _ hp)

theorem State.polSnapshot_get (u : Nat) (c : BucketCfg) (l : List Nat) (g : Field) : ∀ s : State, (s.polSnapshot u c l).get g = s.get g := by
  induction l with
  | nil => intro s; rfl
  | cons k l ih => intro s; exact ih _

theorem State.polSnapshot_dir (u : Nat) (c : BucketCfg) (l : List Nat) : ∀ s : State, (s.polSnapshot u c l).fab.home.dir = s.fab.home.dir := by
  induction l with
  | nil => intro s; rfl
  | cons k l ih => intro s; exact ih _

/-- Every copy listed holds the snapshot as pending. -/
theorem State.polSnapshot_next {u : Nat} (c : BucketCfg) (l : List Nat) (k : Nat) : ∀ s : State,
    (k ∈ l ∨ (s.polBucket k u).next = some c) → ((s.polSnapshot u c l).polBucket k u).next = some c := by
  induction l with
  | nil =>
    intro s h
    exact h.resolve_left (by simp)
  | cons j l ih =>
    intro s h
    refine ih _ ?_
    by_cases hkj : k = j
    · subst hkj
      exact .inr (congrArg Bucket.next (State.polBucket_same s k u _))
    · rcases h with h | h
      · exact .inl ((List.mem_cons.mp h).resolve_left hkj)
      · exact .inr ((congrArg Bucket.next (State.polBucket_other hkj _)).trans h)

theorem bitsOf_toNat_one (w : Word) (i : Nat) : (bitsOf w.toNat i 1 == 1) = w.getLsbD i := by
  rw [bitsOf_one, BitVec.testBit_toNat]
  cases w.getLsbD i <;> rfl

/-- The snapshot that a commit of a subscriber shaper with control word v takes (R203). -/
def State.shaperCfg (s : State) (u : Nat) (v : Word) : BucketCfg :=
  { BucketCfg.off with en := v.getLsbD 0, mask := bitsOf v.toNat 8 8 &&& 0x4F, rate := s.get64 (Addr.SUB_SHP_RATE_LO u), burst := s.get (Fld.SUB_SHP_BURST_BURST u) }

theorem State.writeShaperCtl_of_ok {s : State} {u : SubId} {v : Word} (hb : burstOk (s.get (Fld.SUB_SHP_BURST_BURST u.val)) = true)
    (hr : ¬ 0x10000 < s.get64 (Addr.SUB_SHP_RATE_LO u.val) / 2 ^ 32) :
    s.writeShaperCtl (.sub u) v.toNat = (((s.put (Fld.SUB_SHP_CTL_EN u.val) v.toNat).put (Fld.SUB_SHP_CTL_SVC_MASK u.val) (bitsOf v.toNat 8 8 &&& 0x4F)).put
      (Fld.SUB_SHP_CTL_PENDING u.val) 1).modSw
      fun w => { w with subBkt := mput Bucket.off w.subBkt u.val { s.subBucket u.val with next := some (s.shaperCfg u.val v) } } := by
  rw [State.writeShaperCtl]
  dsimp only
  rw [hb, decide_eq_false hr, bitsOf_toNat_one]
  rfl

/-- The snapshot that a commit of a policer with control word v takes (R204). -/
def State.policerCfg (s : State) (u : Nat) (v : Word) : BucketCfg :=
  ⟨v.getLsbD 0, 0x4F, s.get64 (Addr.SUB_POL_CIR_LO u), s.get (Fld.SUB_POL_CBS_CBS u), s.get64 (Addr.SUB_POL_PIR_LO u), s.get (Fld.SUB_POL_PBS_PBS u)⟩

theorem State.writePolicerCtl_of_ok {s : State} {u : Nat} {v : Word} (hc : burstOk (s.get (Fld.SUB_POL_CBS_CBS u)) = true) (hp : burstOk (s.get (Fld.SUB_POL_PBS_PBS u)) = true)
    (hle : ¬ s.get64 (Addr.SUB_POL_PIR_LO u) < s.get64 (Addr.SUB_POL_CIR_LO u)) (hr : ¬ 0x10000 < s.get64 (Addr.SUB_POL_PIR_LO u) / 2 ^ 32) :
    s.writePolicerCtl u v.toNat = ((s.put (Fld.SUB_POL_CTL_EN u) v.toNat).put (Fld.SUB_POL_CTL_PENDING u) 1).polSnapshot u (s.policerCfg u v) (List.range 4) := by
  rw [State.writePolicerCtl]
  dsimp only
  rw [hc, hp, decide_eq_false hle, decide_eq_false hr, bitsOf_toNat_one]
  rfl

/-- Settles O22. -/
theorem tokenBuckets : Obligations.TokenBuckets := by
  unfold Obligations.TokenBuckets
  intro s
  refine ⟨fun same u hrun => ?_, fun same p hrun => ?_, fun same k u hrun => ?_, fun m u value htk hburst hrate => ?_, fun m u value htk hcbs hpbs hle hrate => ?_⟩
  · obtain ⟨hf, -, -⟩ := inSched_subShp u
    refine answers_refill (b := (s.subBucket u.val).next.isSome) rfl hrun hf rfl (.inl rfl) fun hsw hpend hfr => ⟨?_, hpend, hfr⟩
    have hsub : ∀ t : State, t.settle.subBucket u.val = t.subBucket u.val := fun t => by simp [State.subBucket]
    have hstart : ((s.begin.applied (Fld.SUB_SHP_CTL_PENDING u.val) (s.subBucket u.val).next.isSome).refillSub same u.val) = s.refillSub same u.val := by
      simp [State.refillSub, State.subBucket]
    rw [hsub, ← s.refillSub_eq, ← hstart]
    exact mget_mput_same _ _ _ _
  · refine answers_refill (b := (s.portBucket p.val).next.isSome) rfl hrun (inSched_portShp p) rfl (.inl rfl) fun hsw hpend hfr => ⟨?_, hpend, hfr⟩
    simp [State.portBucket]
  · obtain ⟨hf, -⟩ := inSched_subPol u
    have hb : ∀ j : Nat, ((s.begin.modSw fun w => { w with polBkt := mput Bucket.off w.polBkt (4096 * k.val + u.val) (s.polBucket k.val u.val).refill }).polBucket j u.val) =
        if j = k.val then (s.polBucket k.val u.val).refill else s.polBucket j u.val := by
      intro j
      split
      · subst_vars
        exact State.polBucket_same _ _ _ _
      · exact State.polBucket_other (s := s.begin) (by assumption) _
    refine answers_refill rfl hrun hf rfl (.inr rfl) fun hsw hpend hfr => ⟨?_, fun hnext hothers => hpend ?_, hfr⟩
    · rw [State.polBucket, State.settle_fab, hsw]
      exact mget_mput_same _ _ _ _
    · rw [Bool.and_eq_true, List.all_eq_true]
      refine ⟨hnext, fun j hj => ?_⟩
      have hj4 : j < 4 := List.mem_range.mp hj
      rw [Option.isNone_iff_eq_none]
      refine (congrArg Bucket.next (hb j)).trans ?_
      split
      · exact Bucket.refill_next _
      · exact hothers ⟨j, hj4⟩ (by simpa [Fin.ext_iff] using by assumption)
  · obtain ⟨hf, hen, hmask⟩ := inSched_subShp u
    refine answers_guard (fs := [Fld.SUB_SHP_CTL_EN u.val, Fld.SUB_SHP_CTL_SVC_MASK u.val, Fld.SUB_SHP_CTL_PENDING u.val]) rfl htk
      (State.writeShaperCtl_of_ok hburst (Nat.not_lt.mpr hrate))
      (((((Frame.begin s).andPut _).andPut _).andPut _).andModSw _) rfl (by simp [hf.region, hen.region, hmask.region]) fun hfr => ⟨?_, ?_, hfr⟩
    · rw [State.subBucket, State.settle_fab]
      exact mget_mput_same _ _ _ _
    · rw [State.get_settle _ hf.settled, State.modSw_get, State.get_put_same _ _ _ hf.fits]
      rfl
  · obtain ⟨hf, hen⟩ := inSched_subPol u
    refine answers_guard (fs := [Fld.SUB_POL_CTL_EN u.val, Fld.SUB_POL_CTL_PENDING u.val]) rfl htk
      (State.writePolicerCtl_of_ok hcbs hpbs (Nat.not_lt.mpr hle) (Nat.not_lt.mpr hrate))
      (Frame.andPolSnapshot _ _ (by simp) _ (((Frame.begin s).andPut _).andPut _)) (by rw [State.polSnapshot_dir]; rfl) (by simp [hf.region, hen.region])
      fun hfr => ⟨fun k => ?_, ?_, hfr⟩
    · rw [State.polBucket, State.settle_fab]
      exact State.polSnapshot_next _ _ k.val _ (.inl (List.mem_range.mpr k.isLt))
    · rw [State.get_settle _ hf.settled, State.polSnapshot_get, State.get_put_same _ _ _ hf.fits]
      rfl

end Sys2Proof.Machine
end

section
/-! PROOFS. A stop under FABRIC: its registers are gone, so nothing of it is mirrored (R71, R306, R361). -/
namespace Sys2Proof.Machine
open Sys2Proof
set_option Elab.async false

/-- Fabric reset leaves no entry of a register of FABRIC outside the kept pages (R71, R437). -/
theorem assoc_filterMap_fabricKeeps_none (m : List (Nat × Word)) {a : Nat} (hd : pageDomain (a / 0x10000) = .fabric) (hk : keptPage (a / 0x10000) = false) :
    assoc (m.filterMap fabricKeeps) a = none := by
  induction m with
  | nil => rfl
  | cons e m ih =>
    by_cases hea : e.1 = a
    · have hnone : fabricKeeps e = none := by simp [fabricKeeps, hea, hd, hk]
      rw [List.filterMap_cons_none hnone, ih]
    · cases hf : fabricKeeps e with
      | none => rw [List.filterMap_cons_none hf, ih]
      | some x =>
        have hx : x.1 = e.1 := by
          unfold fabricKeeps at hf
          split at hf <;> grind
        rw [List.filterMap_cons_some hf, assoc, hx, if_neg hea, ih]

theorem State.word_fabricReset (s : State) {a : Nat} (hd : pageDomain (a / 0x10000) = .fabric) (hk : keptPage (a / 0x10000) = false) :
    s.fabricReset.word a = resetWord a := by
  have hregs : s.fabricReset.regs = s.stopFollow.endBinding.regs.filterMap fabricKeeps := rfl
  rw [State.word, sparseGet, hregs, assoc_filterMap_fabricKeeps_none _ hd hk]

/-- After fabric reset the role is OFF. -/
theorem State.role_fabricReset (s : State) : s.fabricReset.role = 0 := by
  rw [State.role, State.get, State.word_fabricReset s (by decide) (by decide)]
  decide

theorem State.issues_of_role {s : State} (h : s.role = 0) : s.issues = false := by simp [State.issues, h]

theorem State.mirror_of_held {s old : State} (hr : s.role = 0) (hh : s.clk.fabricHeld = true) : s.mirror old = s := by
  rw [State.mirror_of_not_issues (State.issues_of_role hr), State.lagTiles]
  simp [hh]

/-- What a first stop of a running module leaves mirrors nothing. -/
theorem State.mirror_fatal {s : State} (m : FaultMsg) (old : State) (hup : s.clk.mgmtUp = true) (hh : s.clk.stopHeld = false) (hf : s.clk.startFail = false) :
    (s.fatal m).mirror old = s.fatal m := by
  have heq := State.stopNow_of_running (s := s.sendFault m) 2 .source (some m) (by simpa using hh) (by simpa using hf) (by simpa using hup)
  refine State.mirror_of_held ?_ ?_
  · rw [State.fatal, heq, State.role, State.get_mk, State.get_put_addr _ _ (by decide), State.get_put_addr _ _ (by decide)]
    exact State.role_fabricReset _
  · rw [State.fatal, heq]

/-- A fatal condition of FABRIC is reported and stops the module. -/
theorem answers_fabricFatal {c : Instr} {s : State} {m : FaultMsg} {f : State → State} (he : exec c s = done (s.begin.whenFabric f)) (hrun : s.fabricRuns = true)
    (hf : f s.begin = s.begin.fatal m) (hh : s.clk.stopHeld = false) (hfail : s.clk.startFail = false) :
    Answers c s fun t => s.Stopped t ∧ t.flt.net = s.flt.net ++ [m] := by
  obtain ⟨hup, -, -⟩ := State.fabricRuns_iff.mp hrun
  obtain ⟨hst, hnet, -⟩ := State.stopped_fatal (s := s.begin) m hup hh hfail
  refine answers_of_eq (he.trans ?_) (t := (s.begin.fatal m).settle) ⟨⟨hst.held, hst.fabric, hst.mgmt, hst.contents, hst.shown, hst.notReady, hst.store⟩, hnet⟩
  rw [done_whenFabric _ hrun, hf, State.mirror_fatal (s := s.begin) m _ hup hh hfail]

/-! ### Answers of mirrored writes -/

section
variable {c : Instr} {s x : State} {m : Master} {pg : Nat} {ps : List Part} {fs : List Field} {f : State → State} {P : State → Prop}

/-- What a write of a mirrored table answers on an active module (R306). -/
theorem answers_guardMirrored (he : exec c s = done (s.begin.guardMirrored m pg f)) (htk : s.takes m pg = true) (ha : s.isActive = true) (hfx : f s.begin = x)
    (hx : Frame ps fs s x) (hps : ∀ p ∈ mirrorParts, p ∈ ps) (hfs : ∀ g ∈ mirrorFields, g ∈ fs)
    (hp : Frame ps fs s (x.mirror s.begin).settle → P (x.mirror s.begin).settle) : Answers c s P := by
  subst hfx
  exact answers_of_eq (he.trans (done_guardMirrored f htk ha)) (hp (hx.mirror _ hps hfs).settle)

end

/-- Mirroring and settling leave a register outside TDM and the fault page. -/
theorem State.get_mirror_settle (s old : State) {g : Field} (h : g.addr / 0x10000 ≠ 0xA0) (h4 : g.addr ≠ 0x40040) : (s.mirror old).settle.get g = s.get g := by
  rw [State.get_settle _ h4, State.get_mirror _ _ h]

/-! ### Messages that need no tracker slot -/

theorem State.queueMsg_of_untracked {s : State} {m : Msg} (h : m.kind.trackClass = none) :
    s.queueMsg m = s.modSw fun w => { w with waiting := w.waiting ++ [{ m with svc := m.kind.service }] } := by
  simp [State.queueMsg, State.track, h]

end Sys2Proof.Machine
end

section
/-! PROOFS. Comb errors, scrub, temperature and the pool (O25, R253, R255, R256, R268, R269, R273). -/
namespace Sys2Proof.Machine
open Sys2Proof
set_option Elab.async false

theorem State.get_addSat (s : State) {f : Field} (n : Nat) (h : f.lo + f.width ≤ 32) : (s.addSat f n).get f = min (2 ^ f.width - 1) (s.get f + n) := by
  rw [State.addSat, State.get_put_same _ _ _ h]
  exact Nat.mod_eq_of_lt (Nat.lt_of_le_of_lt (Nat.min_le_left _ _) (Nat.sub_lt (Nat.two_pow_pos _) Nat.one_pos))

/-! ### The bytes of the pool (R268) -/

/-- Writing every byte of a line below n. -/
theorem poolByte_foldl (q : List Host.Cell) (l e : Nat) (d : List Byte) (a n : Nat) (he : ∀ i < n, bitsOf e i 1 = 1) :
    poolByte ((List.range n).foldl (fun p i => if bitsOf e i 1 = 1 then poolPut p (64 * l + i) (d.getD i 0) else p) q) a =
      if 64 * l ≤ a ∧ a < 64 * l + n then d.getD (a - 64 * l) 0 else poolByte q a := by
  induction n with
  | zero => rw [if_neg (by omega)]; rfl
  | succ n ih =>
    rw [List.range_succ, List.foldl_append, List.foldl_cons, List.foldl_nil, if_pos (he n (Nat.lt_succ_self n))]
    by_cases ha : a = 64 * l + n
    · subst ha
      rw [if_pos (by omega), Nat.add_sub_cancel_left]
      exact sparseGet_sparsePut_same _ _ _ _
    · refine (sparseGet_sparsePut_other _ _ _ ha).trans ((ih fun i hi => he i (Nat.lt_succ_of_lt hi)).trans ?_)
      split <;> split <;> first | rfl | omega

theorem bitsOf_all (n i : Nat) (h : i < n) : bitsOf (2 ^ n - 1) i 1 = 1 := by
  rw [bitsOf_one, Nat.testBit_two_pow_sub_one, decide_eq_true h]
  rfl

theorem poolByte_poolWrite (q : List Host.Cell) (l : Nat) (d : List Byte) (a : Nat) :
    poolByte (poolWrite q l (2 ^ 64 - 1) d) a = if 64 * l ≤ a ∧ a < 64 * l + 64 then d.getD (a - 64 * l) 0 else poolByte q a :=
  poolByte_foldl q l _ d a 64 fun i hi => bitsOf_all 64 i hi

theorem poolByte_poolWrite_in (q : List Host.Cell) (l : Nat) (d : List Byte) (i : Fin 64) :
    poolByte (poolWrite q l (2 ^ 64 - 1) d) (64 * l + i.val) = d.getD i.val 0 := by
  rw [poolByte_poolWrite, if_pos (by omega), Nat.add_sub_cancel_left]

theorem poolByte_poolWrite_out (q : List Host.Cell) {l : Nat} (d : List Byte) {a : Nat} (h : a / 64 ≠ l) :
    poolByte (poolWrite q l (2 ^ 64 - 1) d) a = poolByte q a := by
  rw [poolByte_poolWrite, if_neg (by omega)]

/-! ### Pool windows (R269) -/

/-- The fields of POOL_WIN_CFG. -/
structure Field.inPoolWin (f : Field) (n : Nat) : Prop where
  addr : f.addr = Addr.POOL_WIN_CFG n
  fits : f.lo + f.width ≤ 32

theorem Field.inPoolWin.page {f : Field} {n : Nat} (h : f.inPoolWin n) (hn : n < 64) : f.addr / 0x10000 = 0x82 := by
  rw [h.addr, Addr.POOL_WIN_CFG]; omega

theorem inPoolWin (n : Nat) : (Fld.POOL_WIN_CFG_EN n).inPoolWin n ∧ (Fld.POOL_WIN_CFG_SIZE n).inPoolWin n := ⟨⟨rfl, show 0 + 1 ≤ 32 by decide⟩, ⟨rfl, show 1 + 3 ≤ 32 by decide⟩⟩

/-- A field of a window's register reads on through mirroring and settling. -/
theorem Field.inPoolWin.get_settled {f : Field} {n : Nat} (h : f.inPoolWin n) (hn : n < 64) (x old : State) : (x.mirror old).settle.get f = x.get f := by
  have := h.page hn
  exact State.get_mirror_settle _ _ (by omega) (by omega)

/-- The state with the fields of a window as a write of POOL_WIN_CFG with value v leaves them, EN aside. -/
def State.withPoolWin (s : State) (n v : Nat) : State :=
  s.puts [(Fld.POOL_WIN_CFG_SIZE n, bitsOf v 1 3), (Fld.POOL_WIN_CFG_VCS n, bitsOf v 4 6), (Fld.POOL_WIN_CFG_OFF n, bitsOf v 16 5)]

theorem State.writePoolWin_enable {s : State} {n v : Nat} (hoff : s.flag (Fld.POOL_WIN_CFG_EN n) = false) (hen : bitsOf v 0 1 = 1) (hsz : bitsOf v 1 3 ≤ 5)
    (hok : (s.withPoolWin n v).poolWinOk n = true) : s.writePoolWin n v = (s.withPoolWin n v).put (Fld.POOL_WIN_CFG_EN n) 1 := by
  have hok' := hok
  rw [State.withPoolWin] at hok'
  rw [State.writePoolWin]
  dsimp only
  rw [hoff, hen, decide_eq_true hsz, hok']
  rfl

theorem State.writePoolWin_disable {s : State} {n v : Nat} (hon : s.flag (Fld.POOL_WIN_CFG_EN n) = true) (hen : bitsOf v 0 1 = 0) :
    s.writePoolWin n v = s.put (Fld.POOL_WIN_CFG_EN n) 0 := by
  rw [State.writePoolWin]
  dsimp only
  rw [hon, hen]
  rfl

theorem State.poolWinOk_congr {s t : State} (h : t.regs = s.regs) (n : Nat) : t.poolWinOk n = s.poolWinOk n := by
  obtain ⟨_, _, _, _, _, _, _, _, _, _, _, _, _, _, _, _, _⟩ := s
  obtain ⟨_, _, _, _, _, _, _, _, _, _, _, _, _, _, _, _, _⟩ := t
  cases h
  rfl

/-- IEP1 takes its next request (R268). -/
def State.poolTaken (s : State) (r : List Msg) : State := s.modSw fun w => { w with iep := mput [] w.iep 1 r }

theorem poolRequest_effect {s : State} {m : Msg} {r : List Msg} (hi : mget [] s.fab.sw.iep 1 = m :: r) (hup : s.get Fld.COMB_STATUS_STATE = 3) :
    ∃ f, exec .poolRequest s = done (s.begin.whenFabric f) ∧ f s.begin = (s.begin.poolTaken r).poolAccess m := by
  refine ⟨_, rfl, ?_⟩
  have hi' : mget [] s.begin.fab.sw.iep 1 = m :: r := hi
  have hup' : s.begin.combUp = true := by simp [State.combUp, hup]
  rw [hi']
  dsimp only
  rw [hup']
  rfl

theorem State.poolAccess_memWr {s : State} {m : Msg} (hk : m.kind = .memWr) : s.poolAccess m =
    (s.modComb fun c => { c with pool := poolWrite c.pool (m.addr / 64) (2 ^ 64 - 1) m.data, poison := mput c.poisonAll c.poison (m.addr / 64) m.poison }).modSw
      fun w => { w with waiting := w.waiting ++ [{ m with mv := .noOp }.answer .cmp] } := by
  rw [State.poolAccess]
  dsimp only
  rw [hk]
  exact State.queueMsg_of_untracked rfl

theorem State.poolAccess_memRd {s : State} {m : Msg} (hk : m.kind = .memRd) : s.poolAccess m =
    (s.raiseIf (s.poolPoisoned (m.addr / 64)) Evt.POOL_POOL_POISON).modSw fun w => { w with waiting := w.waiting ++
      [{ ({ m with mv := .noOp }.answer .memData 0 (s.poolPoisoned (m.addr / 64))) with data := poolLine s.fab.comb.pool (m.addr / 64), mem := .hdmH }] } := by
  rw [State.poolAccess]
  dsimp only
  rw [hk]
  exact State.queueMsg_of_untracked rfl

/-- Settles O25. -/
theorem combAndPool : Obligations.CombAndPool := by
  unfold Obligations.CombAndPool
  intro s
  refine ⟨fun p hrun hh hf => ?_, fun p hrun hh hf => ?_, fun hrun hup hen => ?_, fun x hrun => ?_, fun m r hrun hup hiep hk => ?_, fun m r hrun hup hiep hk => ?_,
    fun m n v htk hact hoff hen hsz hok => ?_, fun m n v htk hact hon hen => ?_, fun m c v htk => ?_⟩
  · obtain ⟨t, ht, hst, hnet⟩ := answers_fabricFatal (c := .pcFail p) rfl hrun rfl hh hf
    exact ⟨t, ht, hst.held, hst.contents, hnet⟩
  · obtain ⟨t, ht, hst, hnet⟩ := answers_fabricFatal (c := .partBound p) rfl hrun rfl hh hf
    exact ⟨t, ht, hst.held, hst.contents, hnet⟩
  · have hrun' : s.begin.fabricRuns = true := by simpa using hrun
    obtain ⟨hup', hheld, -⟩ := State.fabricRuns_iff.mp hrun'
    have hfx : (if s.begin.combUp && s.begin.flag Fld.COMB_SCRUB_CFG_EN then
        ((s.begin.addSat Fld.COMB_SCRUB_STATUS_PASSES 1).put Fld.COMB_SCRUB_STATUS_PROGRESS 0).raise Evt.COMB_SCRUB_PASS else s.begin) =
        ((s.begin.addSat Fld.COMB_SCRUB_STATUS_PASSES 1).put Fld.COMB_SCRUB_STATUS_PROGRESS 0).raise Evt.COMB_SCRUB_PASS :=
      if_pos (by simp [State.combUp, hup, hen])
    refine answers_fabric rfl hrun hfx ((((Frame.begin s).andAddSat 1).andPut 0).andRaise) (by simp) (by decide) fun hfr => ⟨?_, ?_, ?_, hfr⟩
    · rw [State.get_settle _ (by decide), State.get_raise _ (by decide), State.get_put_clear _ _ (by decide), State.get_addSat _ _ (by decide)]
      rfl
    · simp (disch := decide) [State.get_settle, State.get_raise, State.get_put_lit]
    · rw [State.get_settle _ (by decide), State.get_raise_fabric (by simpa using hup') (by simpa using hheld) rfl (by decide) (by decide)]
  · refine answers_fabric rfl hrun rfl ((((Frame.begin s).andPut x.toNat).andPutFlag (decide (149 < x.toNat))).andRaiseIf _) (by simp) (by decide) fun hfr => ⟨?_, ?_, hfr⟩
    · have := x.isLt
      simp (disch := decide) only [State.get_settle, State.get_raiseIf_clear, State.putFlag, State.get_put_clear]
      exact State.get_put_lit _ (by decide) this
    · rw [State.get_settle _ (by decide), State.get_raiseIf_clear _ (by decide), State.putFlag, State.get_put_lit _ (by decide) (bit_lt_two _)]
      by_cases hx : 149 < x.toNat <;> simp [hx]
  · obtain ⟨f, he, hf⟩ := poolRequest_effect hiep hup
    refine answers_fabric he hrun (hf.trans (State.poolAccess_memWr hk)) ((((Frame.begin s).andModSw _).andModComb _).andModSw _) (by simp [State.poolTaken]) (by simp)
      fun hfr => ⟨?_, fun i => ?_, fun a ha => ?_, ?_, hfr⟩
    · simp [State.poolTaken]
    · rw [State.settle_fab]
      exact poolByte_poolWrite_in _ _ _ i
    · rw [State.settle_fab]
      exact poolByte_poolWrite_out _ _ ha
    · simp [State.poolTaken]
  · obtain ⟨f, he, hf⟩ := poolRequest_effect hiep hup
    refine answers_fabric he hrun (hf.trans (State.poolAccess_memRd hk)) ((((Frame.begin s).andModSw _).andRaiseIf _).andModSw _) (by simp [State.poolTaken]) (by decide)
      fun hfr => ⟨?_, ?_, ?_, hfr⟩
    · simp [State.poolTaken]
    · simp [State.poolTaken]
    · simp [State.poolTaken, State.poolPoisoned]
  · have hen' : bitsOf v.toNat 0 1 = 1 := bitsOf_one_of_getLsbD hen
    obtain ⟨hf, hsize⟩ := inPoolWin n.val
    refine answers_guardMirrored rfl htk hact (State.writePoolWin_enable (by simpa using hoff) hen' hsz ?_) ?_ (by simp) (fun g hg => List.mem_append_right _ hg) fun hfr => ⟨?_, ?_, hfr⟩
    · rw [← hok]
      exact State.poolWinOk_congr rfl _
    · rw [State.withPoolWin]
      exact Frame.andPut (((Frame.begin s).puts _ (by simp))) 1
    · rw [State.flag, hf.get_settled n.isLt, State.get_put_same _ _ _ hf.fits]
      rfl
    · rw [hsize.get_settled n.isLt, State.get_put_bits _ _ (.inr (show 0 + 1 ≤ 1 by decide)) hsize.fits, State.withPoolWin, State.puts_cons, State.puts_cons, State.puts_cons,
        State.puts_nil, State.get_put_bits _ _ (.inl (show 1 + 3 ≤ 16 by decide)) hsize.fits, State.get_put_bits _ _ (.inl (show 1 + 3 ≤ 4 by decide)) hsize.fits,
        State.get_put_lit _ hsize.fits (Nat.lt_of_le_of_lt hsz (show 5 < 2 ^ 3 by decide))]
  · have hen' : bitsOf v.toNat 0 1 = 0 := by
      rw [bitsOf_one, BitVec.testBit_toNat, hen]; rfl
    obtain ⟨hf, -⟩ := inPoolWin n.val
    refine answers_guardMirrored rfl htk hact (State.writePoolWin_disable (by simpa using hon) hen') ((Frame.begin s).andPut 0) (by simp) (fun g hg => List.mem_cons_of_mem _ hg) fun hfr => ⟨?_, hfr⟩
    rw [State.flag, hf.get_settled n.isLt, State.get_put_same _ _ _ hf.fits]
    rfl
  · refine answers_guard (fs := [Fld.CARB_WAIT_MAX_CYCLES c.val]) rfl htk rfl ((Frame.begin s).andPut 0) rfl ?_ fun hfr => ⟨?_, hfr⟩
    · simpa using regionOf_page (by have := c.isLt; simp only [Fld.CARB_WAIT_MAX_CYCLES, Addr.CARB_WAIT_MAX]; omega)
    · rw [State.get_settle _ (by simp only [Fld.CARB_WAIT_MAX_CYCLES, Addr.CARB_WAIT_MAX]; omega), State.get_put_lit _ (show 0 + 16 ≤ 32 by decide) (show 0 < 2 ^ 16 by decide)]

end Sys2Proof.Machine
end

section
/-! PROOFS. Commands that leave every mirrored register and the directory alone mirror nothing (R306). -/
namespace Sys2Proof.Machine
open Sys2Proof
set_option Elab.async false

/-- Every mirrored register and the directory of the home are as before. -/
structure State.Quiet (s t : State) : Prop where
  word : ∀ a, (regionOf a).isSome = true → t.word a = s.word a
  dir : t.fab.home.dir = s.fab.home.dir

namespace State.Quiet
variable {s t u : State}

theorem refl (s : State) : s.Quiet s := ⟨fun _ _ => rfl, rfl⟩
theorem begin (s : State) : s.Quiet s.begin := ⟨fun _ _ => rfl, rfl⟩
theorem trans (h : s.Quiet t) (h' : t.Quiet u) : s.Quiet u := ⟨fun a ha => (h'.word a ha).trans (h.word a ha), h'.dir.trans h.dir⟩

/-- An update that keeps the registers and the directory. -/
theorem upd (h : s.Quiet t) (hr : u.regs = t.regs := by rfl) (hd : u.fab.home.dir = t.fab.home.dir := by rfl) : s.Quiet u :=
  ⟨fun a ha => (State.word_congr hr a).trans (h.word a ha), hd.trans h.dir⟩

theorem setWord (h : s.Quiet t) {a : Nat} (w : Word) (ha : regionOf a = none) : s.Quiet (t.setWord a w) := by
  refine h.trans ⟨fun b hb => State.word_setWord_other _ _ ?_, by simp⟩
  rintro rfl
  rw [ha] at hb
  cases hb

theorem put (h : s.Quiet t) {f : Field} (v : Nat) (hf : regionOf f.addr = none := by decide) : s.Quiet (t.put f v) := h.setWord _ hf
theorem putFlag (h : s.Quiet t) {f : Field} (v : Bool) (hf : regionOf f.addr = none := by decide) : s.Quiet (t.putFlag f v) := h.put _ hf
theorem addSat (h : s.Quiet t) {f : Field} (v : Nat) (hf : regionOf f.addr = none := by decide) : s.Quiet (t.addSat f v) := h.put _ hf

theorem puts (l : List (Field × Nat)) : ∀ {t : State}, s.Quiet t → (∀ e ∈ l, regionOf e.1.addr = none) → s.Quiet (t.puts l) := by
  induction l with
  | nil => intro t h _; exact h
  | cons e l ih => intro t h hl; exact ih (h.put _ (hl e List.mem_cons_self)) fun x hx => hl x (List.mem_cons_of_mem _ hx)

theorem ite {c : Prop} [Decidable c] (h : s.Quiet t) (hu : s.Quiet u) : s.Quiet (if c then t else u) := by
  split
  · exact h
  · exact hu

theorem raise (h : s.Quiet t) (e : Event) (he : regionOf (evtPendAddr e.page) = none := by decide) : s.Quiet (t.raise e) := by
  unfold State.raise
  exact .ite (h.setWord _ he) h

theorem raiseIf (h : s.Quiet t) (c : Bool) (e : Event) (he : regionOf (evtPendAddr e.page) = none := by decide) : s.Quiet (t.raiseIf c e) := .ite (h.raise e he) h

theorem count (h : s.Quiet t) (c n : Nat) : s.Quiet (t.count c n) := h.upd
theorem emit (h : s.Quiet t) (x : Output) : s.Quiet (t.emit x) := h.upd
theorem modSw (h : s.Quiet t) (f : Switch → Switch) : s.Quiet (t.modSw f) := h.upd
theorem modComb (h : s.Quiet t) (f : Comb → Comb) : s.Quiet (t.modComb f) := h.upd

theorem sendFault (h : s.Quiet t) {m : FaultMsg} (hm : ¬ (0x600 ≤ m.source ∧ m.source ≤ 0x605) := by decide) : s.Quiet (t.sendFault m) := by
  refine h.trans ⟨fun a ha => State.word_sendFault _ _ ?_, by simp⟩
  by_contra hne
  rw [regionOf_low (by omega) (by omega)] at ha
  cases ha

/-- A message of a page outside the binding tables. -/
theorem sendMessage (h : s.Quiet t) (v : State) (k cls src un ty p : Nat) (ad : Option Nat) (hsrc : ¬ (0x600 ≤ src ∧ src ≤ 0x605) := by decide) :
    s.Quiet (t.sendFault (v.message k cls src un ty p ad)) := h.sendFault (by simpa using hsrc)

theorem nvWrote (h : s.Quiet t) (i : Nat) : s.Quiet (t.nvWrote i) := by
  unfold State.nvWrote
  exact .ite ((Quiet.put (h.upd) _ (by decide)).raiseIf _ _ (by decide)) h.upd

theorem foldl {α : Type} (f : State → α → State) (hf : ∀ {t : State} (x : α), s.Quiet t → s.Quiet (f t x)) (l : List α) :
    ∀ {t : State}, s.Quiet t → s.Quiet (l.foldl f t) := by
  induction l with
  | nil => intro t h; exact h
  | cons x l ih => intro t h; exact ih (hf x h)

theorem mirror (h : s.Quiet t) : t.mirror s.begin = t := State.mirror_eq_self (fun a ha => (h.word a ha).trans (State.word_begin s a).symm) (h.dir.trans (by simp))

end State.Quiet

/-- A message of page src leaves the registers outside its page's capture. -/
theorem State.get_sendMessage (s v : State) (k cls src un ty p : Nat) (ad : Option Nat) {g : Field} (h : g.addr < src * 0x10000 + 0x80 ∨ src * 0x10000 + 0x98 ≤ g.addr) :
    (s.sendFault (v.message k cls src un ty p ad)).get g = s.get g := State.get_sendFault _ _ h

section
variable {c : Instr} {s x : State} {f : State → State} {P : State → Prop}

/-- What a command on FABRIC answers that touches nothing mirrored. -/
theorem answers_quiet (he : exec c s = done (s.begin.whenFabric f)) (h : s.fabricRuns = true) (hfx : f s.begin = x) (hx : s.Quiet x) (hp : P x.settle) :
    Answers c s P := by
  subst hfx
  refine answers_of_eq (he.trans ?_) hp
  rw [done_whenFabric f h, hx.mirror]

end
end Sys2Proof.Machine
end

section
/-! PROOFS. The client arbiters of Comb (O26, R254, R259 to R262, R418). -/
namespace Sys2Proof.Machine
open Sys2Proof
set_option Elab.async false

/-! ### Channels and clients -/

@[simp] theorem State.chan_setChan (s : State) (ch : Nat) (c : CombChan) : (s.setChan ch c).chan ch = c := mget_mput_same _ _ _ _

theorem State.chan_congr {s t : State} (h : t.fab.comb.chans = s.fab.comb.chans) (ch : Nat) : t.chan ch = s.chan ch := by simp only [State.chan, h]

theorem State.chan_settle (s : State) (ch : Nat) : s.settle.chan ch = s.chan ch := by simp only [State.chan, State.settle_fab]

theorem CombChan.client_put_same (c : CombChan) (k : Nat) (x : CombClient) :
    ({ c with clients := mput CombClient.idle c.clients k x } : CombChan).client k = x := mget_mput_same _ _ _ _

theorem CombChan.client_put_other (c : CombChan) {k j : Nat} (x : CombClient) (h : j ≠ k) :
    ({ c with clients := mput CombClient.idle c.clients k x } : CombChan).client j = c.client j := mget_mput_other _ _ _ h

theorem Ctr.COMB_ne {u k e f : Nat} (he : e < 20) (hf : f < 20) (h : u ≠ k ∨ e ≠ f) : Ctr.COMB u e ≠ Ctr.COMB k f := by
  simp only [Ctr.COMB, perfAddr]
  omega

/-- What a client is that lost (R260). -/
def CombClient.lost (x : CombClient) (place k : Nat) : CombClient :=
  { losses := x.losses + 1, backoff := true, aged := if x.losses + 1 == 8 then some (16 * place + k) else x.aged }

/-- The place of a loss in its channel, with its counters. -/
def State.lostAt (s : State) (ch place k : Nat) : State :=
  (s.count (Ctr.COMB k 2)).setChan ch { s.chan ch with clients := mput CombClient.idle (s.chan ch).clients k (((s.chan ch).client k).lost place k) }

theorem State.combLose_eq (s : State) (ch place k : Nat) : s.combLose ch place k =
    (if ((s.chan ch).client k).losses + 1 == 8 then ((s.lostAt ch place k).count (Ctr.COMB k 3)).raise Evt.CARB_AGED else s.lostAt ch place k).raiseIf
      (decide (9 ≤ ((s.chan ch).client k).losses + 1)) Evt.CARB_BACKOFF_CAP := rfl

theorem State.chan_combLose (s : State) (ch place k : Nat) :
    (s.combLose ch place k).chan ch = { s.chan ch with clients := mput CombClient.idle (s.chan ch).clients k (((s.chan ch).client k).lost place k) } := by
  rw [State.combLose_eq]
  refine (State.chan_congr (s := s.lostAt ch place k) ?_ ch).trans (State.chan_setChan _ _ _)
  split <;> simp

theorem State.counter_combLose (s : State) (ch place k j : Nat) : (s.combLose ch place k).counter (Ctr.COMB j 0) = s.counter (Ctr.COMB j 0) := by
  have h2 : (s.lostAt ch place k).counter (Ctr.COMB j 0) = s.counter (Ctr.COMB j 0) :=
    State.counter_count_other s 1 (Ctr.COMB_ne (by decide) (by decide) (.inr (by decide)))
  rw [State.combLose_eq, State.counter_raiseIf]
  split
  · rw [State.counter_raise, State.counter_count_other _ _ (Ctr.COMB_ne (by decide) (by decide) (.inr (by decide))), h2]
  · exact h2

theorem State.Quiet.combLose {s t : State} (h : s.Quiet t) (ch place k : Nat) : s.Quiet (t.combLose ch place k) := by
  have hl : s.Quiet (t.lostAt ch place k) := (h.count (Ctr.COMB k 2) 1).upd
  rw [State.combLose_eq]
  exact (Quiet.ite ((hl.count _ _).raise _) hl).raiseIf _ _

/-- What the decision leaves of a channel when the clients ks have lost. -/
structure State.Lost (s t : State) (ch : Nat) (ks : List Nat) : Prop where
  owner : (t.chan ch).owner = (s.chan ch).owner
  counter : ∀ k, t.counter (Ctr.COMB k 0) = s.counter (Ctr.COMB k 0)
  quiet : s.Quiet t
  losers : ∀ k ∈ ks, ((t.chan ch).client k).backoff = true ∧ ((t.chan ch).client k).losses = ((s.chan ch).client k).losses + 1
  others : ∀ k, k ∉ ks → (t.chan ch).client k = (s.chan ch).client k

theorem State.lost_foldl (ch place : Nat) (l : List CombReq) : ∀ s : State, (l.map (·.client)).Nodup →
    s.Lost (l.foldl (fun s r => s.combLose ch place r.client.val) s) ch (l.map (·.client.val)) := by
  induction l with
  | nil => exact fun s _ => ⟨rfl, fun _ => rfl, .refl s, by simp, fun _ _ => rfl⟩
  | cons r l ih =>
    intro s hn
    obtain ⟨hr, hn⟩ := List.nodup_cons.mp hn
    obtain ⟨howner, hcount, hquiet, hlosers, hothers⟩ := ih (s.combLose ch place r.client.val) hn
    have hr' : r.client.val ∉ l.map (·.client.val) := by
      intro hm
      obtain ⟨x, hx, hxr⟩ := List.mem_map.mp hm
      exact hr (List.mem_map.mpr ⟨x, hx, Fin.ext hxr⟩)
    have hclient : ∀ k, k ≠ r.client.val → ((s.combLose ch place r.client.val).chan ch).client k = (s.chan ch).client k := by
      intro k hk
      rw [State.chan_combLose, CombChan.client_put_other _ _ hk]
    refine ⟨howner.trans (by rw [State.chan_combLose]), fun k => (hcount k).trans (State.counter_combLose s ch place _ k),
      (Quiet.combLose (.refl s) _ _ _).trans hquiet, fun k hk => ?_, fun k hk => ?_⟩
    · rcases List.mem_cons.mp hk with hk | hk
      · subst hk
        have h := hothers _ hr'
        rw [State.chan_combLose, CombChan.client_put_same] at h
        rw [List.foldl_cons, h]
        exact ⟨rfl, rfl⟩
      · have hne : k ≠ r.client.val := by rintro rfl; exact hr' hk
        have h := hlosers k hk
        rwa [hclient k hne] at h
    · rw [List.map_cons, List.mem_cons, not_or] at hk
      exact (hothers k hk.2).trans (hclient k hk.1)

/-! ### The grant (R261) -/

theorem State.counter_foldl_wait (k : Nat) (l : List Nat) : ∀ s : State, (∀ b ∈ l, b < 16) →
    (l.foldl (fun s b => s.count (Ctr.COMB k (4 + b))) s).counter (Ctr.COMB k 0) = s.counter (Ctr.COMB k 0) := by
  induction l with
  | nil => exact fun _ _ => rfl
  | cons b l ih =>
    intro s h
    have hb := h b List.mem_cons_self
    exact (ih _ fun x hx => h x (List.mem_cons_of_mem _ hx)).trans (State.counter_count_other _ _ (Ctr.COMB_ne (by decide) (by omega) (.inr (by omega))))

theorem State.foldl_count_fab (g : Nat → Nat) (l : List Nat) : ∀ s : State, (l.foldl (fun s b => s.count (g b)) s).fab = s.fab := by
  induction l with
  | nil => exact fun _ => rfl
  | cons b l ih => exact fun s => ih _

/-- A grant with the wait counted, before the longest wait is shown. -/
def State.granted (s : State) (ch : Nat) (r : CombReq) : State :=
  (waitBins r.waited).foldl (fun s b => s.count (Ctr.COMB r.client.val (4 + b))) ((s.setChan ch { s.chan ch with
    owner := some (r.client.val, s.get (Fld.CARB_BURST_LIMIT r.client.val)), clients := mput CombClient.idle (s.chan ch).clients r.client.val CombClient.idle }).count (Ctr.COMB r.client.val 0))

theorem State.combGrant_eq (s : State) (ch : Nat) (r : CombReq) : s.combGrant ch r =
    if (s.granted ch r).get (Fld.CARB_WAIT_MAX_CYCLES r.client.val) < r.waited then (s.granted ch r).put (Fld.CARB_WAIT_MAX_CYCLES r.client.val) (min 65535 r.waited)
    else s.granted ch r := rfl

theorem waitBins_lt {w b : Nat} (h : b ∈ waitBins w) : b < 16 := List.mem_range.mp (List.mem_filter.mp h).1

theorem State.counter_granted (s : State) (ch : Nat) (r : CombReq) :
    (s.granted ch r).counter (Ctr.COMB r.client.val 0) = s.counter (Ctr.COMB r.client.val 0) + 1 := by
  rw [State.granted, State.counter_foldl_wait _ _ _ fun b hb => waitBins_lt hb]
  exact State.counter_count_same _ _ _

theorem State.combGrant_fab (s : State) (ch : Nat) (r : CombReq) : (s.combGrant ch r).fab = (s.setChan ch { s.chan ch with
    owner := some (r.client.val, s.get (Fld.CARB_BURST_LIMIT r.client.val)), clients := mput CombClient.idle (s.chan ch).clients r.client.val CombClient.idle }).fab := by
  have h : (s.granted ch r).fab = _ := State.foldl_count_fab (fun b => Ctr.COMB r.client.val (4 + b)) _ _
  rw [State.combGrant_eq]
  split
  · rw [State.put_fab, h]; rfl
  · rw [h]; rfl

theorem State.counter_combGrant (s : State) (ch : Nat) (r : CombReq) :
    (s.combGrant ch r).counter (Ctr.COMB r.client.val 0) = s.counter (Ctr.COMB r.client.val 0) + 1 := by
  rw [State.combGrant_eq]
  split
  · rw [State.counter_put, State.counter_granted]
  · exact State.counter_granted _ _ _

theorem State.chan_combGrant (s : State) (ch : Nat) (r : CombReq) : (s.combGrant ch r).chan ch = { s.chan ch with
    owner := some (r.client.val, s.get (Fld.CARB_BURST_LIMIT r.client.val)), clients := mput CombClient.idle (s.chan ch).clients r.client.val CombClient.idle } := by
  rw [State.chan, State.combGrant_fab]
  exact State.chan_setChan _ _ _

theorem regionOf_carbWait (c : Fin 9) : regionOf (Fld.CARB_WAIT_MAX_CYCLES c.val).addr = none :=
  regionOf_page (by have := c.isLt; simp only [Fld.CARB_WAIT_MAX_CYCLES, Addr.CARB_WAIT_MAX]; omega)

theorem State.Quiet.combGrant {s t : State} (h : s.Quiet t) (ch : Nat) (r : CombReq) : s.Quiet (t.combGrant ch r) := by
  have hg : s.Quiet (t.granted ch r) := Quiet.foldl _ (fun _ h => h.count _ _) _ ((h.modComb _).count _ _)
  rw [State.combGrant_eq]
  exact .ite (hg.put _ (regionOf_carbWait _)) hg

/-! ### The decision (R259) -/

/-- Requests of different clients of which none backs off all take part. -/
theorem foldl_requests (p : CombReq → Bool) (l : List CombReq) : ∀ acc : List CombReq, ((acc ++ l).map (·.client)).Nodup → (∀ r ∈ l, p r = false) →
    l.foldl (fun l r => if p r || l.any (fun x => x.client == r.client) then l else l ++ [r]) acc = acc ++ l := by
  induction l with
  | nil => intro acc _ _; simp
  | cons r l ih =>
    intro acc hn hp
    have hfresh : acc.any (fun x => x.client == r.client) = false := by
      rw [List.map_append, List.nodup_append] at hn
      rw [List.any_eq_false]
      intro x hx
      have := hn.2.2 x.client (List.mem_map_of_mem hx) r.client (by simp)
      simpa using this
    rw [List.foldl_cons, hp r List.mem_cons_self, hfresh]
    simpa using ih (acc ++ [r]) (by simpa using hn) fun x hx => hp x (List.mem_cons_of_mem _ hx)

/-- The state after a decision that w won among l. -/
def State.decided (s : State) (ch : Nat) (l : List CombReq) (w : CombReq) : State :=
  (l.filter fun r => r.client != w.client).foldl (fun t r => t.combLose ch (s.chan ch).agings r.client.val) (s.combGrant ch w)

theorem combArbDecide_effect {s : State} {ch : Fin 8} {l : List CombReq} (hup : s.get Fld.COMB_STATUS_STATE = 3) (hfree : (s.chan ch.val).owner = none)
    (hn : (l.map (·.client)).Nodup) (hb : ∀ r ∈ l, ((s.chan ch.val).client r.client.val).backoff = false) :
    ∃ f, exec (.combArbDecide ch l) s = done (s.begin.whenFabric f) ∧ f s.begin =
      match l.find? fun r => !s.begin.inBounds r.client.val r.addr.toNat, (s.chan ch.val).winner l with
      | some r, _ => s.begin.partFault r.client.val
      | none, none => s.begin
      | none, some w => (s.begin.decided ch.val l w).setChan ch.val { (s.begin.decided ch.val l w).chan ch.val with agings := (s.chan ch.val).agings + 1 } := by
  refine ⟨_, rfl, ?_⟩
  have hup' : s.begin.combUp = true := by simp [State.combUp, hup]
  have hchan : s.begin.chan ch.val = s.chan ch.val := rfl
  have hall := foldl_requests (fun r => ((s.chan ch.val).client r.client.val).backoff) l [] (by simpa using hn) hb
  dsimp only
  rw [hup', hchan, hfree, hall]
  rfl

/-! ### The end of a grant (R261) -/

/-- A channel given up, with the beats counted. -/
def State.grantOver (s : State) (ch k n misses : Nat) : State :=
  (((s.setChan ch { s.chan ch with owner := none }).count (Ctr.COMB k 1) n).count (Ctr.COMB (9 + ch) 0) n).count (Ctr.COMB (9 + ch) 1) (min misses n)

theorem State.owner_of_fab {s t : State} {ch k n misses : Nat} (h : t.fab.comb.chans = (s.grantOver ch k n misses).fab.comb.chans) : (t.chan ch).owner = none := by
  rw [State.chan_congr h, State.grantOver]
  exact congrArg CombChan.owner (State.chan_setChan s ch _)

theorem State.counter_grantOver (s : State) (ch k n misses : Nat) :
    (s.grantOver ch k n misses).counter (Ctr.COMB (9 + ch) 0) = s.counter (Ctr.COMB (9 + ch) 0) + BitVec.ofNat 64 n := by
  rw [State.grantOver, State.counter_count_other _ _ (Ctr.COMB_ne (by decide) (by decide) (.inr (by decide))), State.counter_count_same,
    State.counter_count_other _ _ (Ctr.COMB_ne (by decide) (by decide) (.inr (by decide)))]
  rfl

theorem State.counter_grantOver_pc (s : State) {ch k n misses p e : Nat} (hk : k < 9) (hch : ch < 8) (he : e < 20) :
    (s.grantOver ch k n misses).counter (Ctr.COMB (17 + p) e) = s.counter (Ctr.COMB (17 + p) e) := by
  rw [State.grantOver, State.counter_count_other _ _ (Ctr.COMB_ne he (by decide) (.inl (by omega))),
    State.counter_count_other _ _ (Ctr.COMB_ne he (by decide) (.inl (by omega))), State.counter_count_other _ _ (Ctr.COMB_ne he (by decide) (.inl (by omega)))]
  rfl

theorem State.Quiet.grantOver {s t : State} (h : s.Quiet t) (ch k n misses : Nat) : s.Quiet (t.grantOver ch k n misses) := (((h.modComb _).count _ _).count _ _).count _ _

theorem combGrantEnd_effect {s : State} {ch : Fin 8} {n misses k limit : Nat} (err : Option CombError) (ho : (s.chan ch.val).owner = some (k, limit)) :
    ∃ f, exec (.combGrantEnd ch n misses err) s = done (s.begin.whenFabric f) ∧ f s.begin =
      match err with
      | none => s.begin.grantOver ch.val k (min n limit) misses
      | some (.corrected a row) =>
        if s.begin.inBounds k (a % 2 ^ 34) && a % 2 ^ 34 / 256 % 8 == ch.val then (s.begin.grantOver ch.val k (min n limit) misses).combCe k (a % 2 ^ 34) row
        else s.begin.grantOver ch.val k (min n limit) misses
      | some (.uncorrectable a) =>
        if s.begin.inBounds k (a % 2 ^ 34) && a % 2 ^ 34 / 256 % 8 == ch.val then (s.begin.grantOver ch.val k (min n limit) misses).combUe k (a % 2 ^ 34)
        else s.begin.grantOver ch.val k (min n limit) misses := by
  refine ⟨_, rfl, ?_⟩
  have hchan : s.begin.chan ch.val = s.chan ch.val := rfl
  dsimp only
  rw [hchan, ho]
  rfl

/-! ### Errors of a read (R254, R255) -/

/-- A corrected error counted, raised and reported. -/
def State.ceSent (s : State) (client a : Nat) : State :=
  ((s.count (Ctr.COMB (17 + pcOf a) 0)).raise Evt.COMB_CE).sendFault (s.message Kind.COMB_CE 0 0x080 (pcOf a) (if client = 6 then 5 else 1) Party.none (some a))

/-- A corrected error counted for its row as well. -/
def State.ceTold (s : State) (client a row : Nat) : State :=
  { s.ceSent client a with boot := { (s.ceSent client a).boot with rowErrors := mput 0 (s.ceSent client a).boot.rowErrors row (mget 0 (s.ceSent client a).boot.rowErrors row + 1) } }

/-- The state with a row listed for repair. -/
def State.rowListed (s : State) (row : Nat) : State :=
  ({ s with nv := { s.nv with repairRows := s.nv.repairRows ++ [row] } }.nvWrote 7).raise Evt.COMB_ROW_LISTED

theorem State.combCe_cases (s : State) (client a row : Nat) :
    s.combCe client a row = s.ceTold client a row ∨ s.combCe client a row = (s.ceTold client a row).rowListed row := by
  have heq : s.combCe client a row = if decide ((s.ceTold client a row).get Fld.COMB_ROW_CFG_ROW_THR ≤ mget 0 (s.ceSent client a).boot.rowErrors row + 1) &&
      !(s.ceTold client a row).nv.repairRows.contains row && decide ((s.ceTold client a row).nv.repairRows.length < 64)
      then (s.ceTold client a row).rowListed row else s.ceTold client a row := rfl
  rw [heq]
  split
  · exact .inr rfl
  · exact .inl rfl

/-- What a corrected error shows. -/
structure State.CeShown (s t : State) (client a row : Nat) : Prop where
  chans : t.fab.comb.chans = s.fab.comb.chans
  event : t.get Evt.COMB_CE.field = 1
  counter : t.counter (Ctr.COMB (17 + pcOf a) 0) = s.counter (Ctr.COMB (17 + pcOf a) 0) + 1
  net : t.flt.net = s.flt.net ++ [s.message Kind.COMB_CE 0 0x080 (pcOf a) (if client = 6 then 5 else 1) Party.none (some a)]
  row : mget 0 t.boot.rowErrors row = mget 0 s.boot.rowErrors row + 1
  quiet : s.Quiet t

theorem State.ceShown_ceTold {s : State} (client a row : Nat) (hrun : s.fabricRuns = true) : s.CeShown (s.ceTold client a row) client a row := by
  obtain ⟨hup, hheld, -⟩ := State.fabricRuns_iff.mp hrun
  refine ⟨by simp [State.ceTold, State.ceSent], ?_, ?_, ?_, ?_, ?_⟩
  · rw [State.ceTold, State.get_mk, State.ceSent, State.get_sendMessage _ _ _ _ _ _ _ _ _ (by decide), State.get_raise_fabric (by simpa using hup) (by simpa using hheld) rfl (by decide) (by decide)]
  · rw [State.ceTold, State.counter_mk, State.ceSent, State.counter_sendFault, State.counter_raise]
    exact State.counter_count_same _ _ _
  · refine (congrArg Flt.net (State.sendFault_flt_of_up _ (by simpa using hup))).trans ?_
    simp
  · simp [State.ceTold, State.ceSent]
  · exact Quiet.upd (((Quiet.refl s).count _ _).raise Evt.COMB_CE |>.sendMessage s Kind.COMB_CE 0 0x080 (pcOf a) (if client = 6 then 5 else 1) Party.none (some a))

theorem State.CeShown.rowListed {s t : State} {client a row : Nat} (h : s.CeShown t client a row) (r : Nat) : s.CeShown (t.rowListed r) client a row := by
  refine ⟨by simpa [State.rowListed] using h.chans, ?_, ?_, by simpa [State.rowListed] using h.net, by simpa [State.rowListed] using h.row, ?_⟩
  · rw [State.rowListed, State.get_raise_clear _ (by decide), State.get_nvWrote (by decide) (by decide)]
    exact h.event
  · rw [State.rowListed, State.counter_raise, State.counter_congr (s := t) (by simp)]
    exact h.counter
  · exact ((h.quiet.upd (u := { t with nv := _ })).nvWrote 7).raise _

theorem State.ceShown (s : State) (client a row : Nat) (hrun : s.fabricRuns = true) : s.CeShown (s.combCe client a row) client a row := by
  rcases s.combCe_cases client a row with h | h
  · rw [h]; exact State.ceShown_ceTold client a row hrun
  · rw [h]; exact (State.ceShown_ceTold client a row hrun).rowListed row

/-- An uncorrectable error outside the directory counted, raised and reported. -/
def State.ueSent (s : State) (client a : Nat) : State :=
  ((s.count (Ctr.COMB (17 + pcOf a) 1)).raise Evt.COMB_UE).sendFault
    (((s.count (Ctr.COMB (17 + pcOf a) 1)).raise Evt.COMB_UE).message Kind.COMB_UE 1 0x080 (pcOf a) (if client = 6 then 5 else 1) (Party.combClient client) none)

/-- The errors of a pseudo-channel within the last 1 ms, this one among them (R253). -/
def State.recentUes (s : State) (pc : Nat) : List Nat := (mget [] s.fab.comb.ues pc ++ [s.now]).filter fun x => decide (s.now < x + 1000000)

/-- The state with the error noted for its pseudo-channel and the line of the pool poisoned. -/
def State.poisonedAt (s : State) (pc l : Nat) : State :=
  (s.modComb fun c => { c with ues := mput [] c.ues pc (s.recentUes pc) }).modComb fun c => { c with poison := mput c.poisonAll c.poison l true }

theorem State.partOf_congr {s t : State} (h : t.get Fld.COMB_PART_ACT_SIZES = s.get Fld.COMB_PART_ACT_SIZES) (a : Nat) : t.partOf a = s.partOf a := by
  simp only [State.partOf, h]

theorem State.partBase_congr {s t : State} (h : t.get Fld.COMB_PART_ACT_SIZES = s.get Fld.COMB_PART_ACT_SIZES) (k : Nat) : t.partBase k = s.partBase k := by
  simp only [State.partBase, h]

theorem State.get_ueSent_parts (s : State) (client a : Nat) : (s.ueSent client a).get Fld.COMB_PART_ACT_SIZES = s.get Fld.COMB_PART_ACT_SIZES := by
  rw [State.ueSent, State.get_sendMessage _ _ _ _ _ _ _ _ _ (by decide), State.get_raise_clear _ (by decide)]
  rfl

theorem State.combContain_pool {s : State} {client a : Nat} (h : s.partOf a = 5) :
    s.combContain client a = s.modComb fun c => { c with poison := mput c.poisonAll c.poison ((a - s.partBase 5) / 64) true } := by
  rw [State.combContain, h]
  rfl

/-- An uncorrectable error of a line of the pool, with few of its pseudo-channel before it (R255). -/
theorem State.combUe_pool {s : State} {client a : Nat} (h : s.partOf a = 5) (hfew : (mget [] s.fab.comb.ues (pcOf a)).length < 15) :
    s.combUe client a = (s.ueSent client a).poisonedAt (pcOf a) ((a - s.partBase 5) / 64) := by
  have hparts := s.get_ueSent_parts client a
  have hcontain : ∀ f : Comb → Comb, ((s.ueSent client a).modComb f).combContain client a =
      ((s.ueSent client a).modComb f).modComb fun c => { c with poison := mput c.poisonAll c.poison ((a - s.partBase 5) / 64) true } := fun f => by
    rw [State.combContain_pool ((State.partOf_congr (s := s) (t := (s.ueSent client a).modComb f) hparts a).trans h),
      State.partBase_congr (s := s) (t := (s.ueSent client a).modComb f) hparts]
  have hpool : (s.count (Ctr.COMB (17 + pcOf a) 1) |>.raise Evt.COMB_UE).partOf a = 5 := by
    exact (State.partOf_congr (s := s) (State.get_raise_clear (e := Evt.COMB_UE) (s.count _ _) (by decide)) a).trans h
  have hlen : ¬ 16 ≤ ((s.ueSent client a).recentUes (pcOf a)).length := by
    have h1 : ((s.ueSent client a).recentUes (pcOf a)).length ≤ (mget [] (s.ueSent client a).fab.comb.ues (pcOf a) ++ [(s.ueSent client a).now]).length := List.length_filter_le _ _
    have h2 : (s.ueSent client a).fab = s.fab := by simp [State.ueSent]
    rw [h2, List.length_append] at h1
    have h3 : ([(s.ueSent client a).now]).length = 1 := rfl
    omega
  unfold State.combUe
  dsimp only
  rw [hpool]
  exact (if_neg hlen).trans (hcontain _)

/-- Settles O26. -/
theorem combArbiter : Obligations.CombArbiter := by
  unfold Obligations.CombArbiter
  intro s ch hrun hup
  refine ⟨fun l w hfree hn hb hin hw => ?_, fun r hh hf hfree hb hout => ?_, fun c => ?_, fun n misses k limit ho => ?_, fun n misses k limit a row ho hk hin hch => ?_,
    fun n misses k limit a ho hk hin hch hpool hfew => ?_⟩
  · obtain ⟨f, he, hfx⟩ := combArbDecide_effect hup hfree hn hb
    have hfind : (l.find? fun r => !s.begin.inBounds r.client.val r.addr.toNat) = none := by
      rw [List.find?_eq_none]
      intro r hr
      have hr' : s.begin.inBounds r.client.val r.addr.toNat = true := hin r hr
      simp [hr']
    rw [hfind, hw] at hfx
    have hlost := State.lost_foldl ch.val (s.chan ch.val).agings (l.filter fun r => r.client != w.client) (s.begin.combGrant ch.val w)
      (hn.sublist (List.filter_sublist.map _))
    have hfx : f s.begin = (s.begin.decided ch.val l w).setChan ch.val { (s.begin.decided ch.val l w).chan ch.val with agings := (s.chan ch.val).agings + 1 } := hfx
    refine answers_quiet he hrun hfx (((State.Quiet.combGrant (.begin s) ch.val w).trans hlost.quiet).modComb _) ⟨?_, ?_, fun r hr hne => ?_⟩
    · rw [State.chan_settle, State.chan_setChan]
      exact hlost.owner.trans (by rw [State.chan_combGrant]; rfl)
    · rw [State.counter_settle]
      exact (hlost.counter _).trans (State.counter_combGrant _ _ _)
    · rw [State.chan_settle, State.chan_setChan]
      have hother : ((s.begin.combGrant ch.val w).chan ch.val).client r.client.val = (s.chan ch.val).client r.client.val := by
        rw [State.chan_combGrant]
        exact CombChan.client_put_other _ _ fun h => hne (Fin.ext h)
      rw [← hother]
      exact hlost.losers _ (List.mem_map.mpr ⟨r, List.mem_filter.mpr ⟨hr, by simpa using hne⟩, rfl⟩)
  · obtain ⟨f, he, hfx⟩ := combArbDecide_effect (l := [r]) hup hfree (by simp) (by simpa using hb)
    have hout' : s.begin.inBounds r.client.val r.addr.toNat = false := hout
    have hfind : ([r].find? fun r => !s.begin.inBounds r.client.val r.addr.toNat) = some r := by simp [hout']
    rw [hfind] at hfx
    obtain ⟨t, ht, hst, hnet⟩ := answers_fabricFatal he hrun hfx hh hf
    exact ⟨t, ht, hst.held, hst.contents, hnet⟩
  · refine answers_fabric rfl hrun rfl ((Frame.begin s).andModComb _) (by simp [State.setChan]) (by simp) fun hfr => ⟨?_, ?_, hfr⟩
    · rw [State.chan_settle, State.chan_setChan]
      exact CombChan.client_put_same _ _ _
    · rw [State.chan_settle, State.chan_setChan]
      rfl
  · obtain ⟨f, he, hfx⟩ := combGrantEnd_effect none ho
    refine answers_fabric he hrun hfx (((((Frame.begin s).andModComb _).andCount _ _).andCount _ _).andCount _ _) (by simp [State.grantOver, State.setChan]) (by simp) fun hfr => ⟨?_, ?_, hfr⟩
    · exact State.owner_of_fab (by rw [State.settle_fab])
    · rw [State.counter_settle]
      exact State.counter_grantOver _ _ _ _ _
  · obtain ⟨f, he, hfx⟩ := combGrantEnd_effect (s := s) (ch := ch) (n := n) (misses := misses) (some (.corrected a row)) ho
    have hmine : (s.begin.inBounds k (a % 2 ^ 34) && a % 2 ^ 34 / 256 % 8 == ch.val) = true := Bool.and_eq_true_iff.mpr ⟨hin, beq_iff_eq.mpr hch⟩
    have hfx := hfx.trans (if_pos hmine)
    generalize a % 2 ^ 34 = b at *
    have hce := State.ceShown (s.begin.grantOver ch.val k (min n limit) misses) k b row (by simpa [State.fabricRuns, State.live, State.grantOver, State.setChan] using hrun)
    refine answers_quiet he hrun hfx ((State.Quiet.grantOver (.begin s) ch.val k _ misses).trans hce.quiet) ⟨?_, ?_, ?_, ?_, ?_⟩
    · exact State.owner_of_fab (by rw [State.settle_fab, hce.chans])
    · rw [State.get_settle _ (by decide), hce.event]
    · rw [State.counter_settle, hce.counter, State.counter_grantOver_pc _ hk ch.isLt (by decide)]
      rfl
    · rw [State.settle_flt]
      exact hce.net
    · rw [State.settle_boot]
      exact hce.row
  · obtain ⟨f, he, hfx⟩ := combGrantEnd_effect (s := s) (ch := ch) (n := n) (misses := misses) (some (.uncorrectable a)) ho
    have hmine : (s.begin.inBounds k (a % 2 ^ 34) && a % 2 ^ 34 / 256 % 8 == ch.val) = true := Bool.and_eq_true_iff.mpr ⟨hin, beq_iff_eq.mpr hch⟩
    have hfx := hfx.trans (if_pos hmine)
    generalize a % 2 ^ 34 = b at *
    have hfx := hfx.trans (State.combUe_pool (client := k) (s := s.begin.grantOver ch.val k (min n limit) misses) hpool hfew)
    obtain ⟨hmg, hheld, -⟩ := State.fabricRuns_iff.mp hrun
    refine answers_quiet he hrun hfx ?_ ⟨?_, ?_, ?_, ?_, ?_⟩
    · exact (((((State.Quiet.grantOver (.begin s) ch.val k _ misses).count _ _).raise Evt.COMB_UE).sendMessage _ _ _ _ _ _ _ _).modComb _).modComb _
    · exact State.owner_of_fab (s := s.begin) (k := k) (n := min n limit) (misses := misses) (by rw [State.settle_fab]; simp [State.poisonedAt, State.ueSent])
    · rw [State.get_settle _ (by decide), State.poisonedAt, State.modComb_get, State.modComb_get, State.ueSent, State.get_sendMessage _ _ _ _ _ _ _ _ _ (by decide),
        State.get_raise_fabric (by simpa [State.grantOver, State.setChan] using hmg) (by simpa [State.grantOver, State.setChan] using hheld) rfl (by decide) (by decide)]
    · rw [State.counter_settle]
      refine (State.counter_congr (s := (s.begin.grantOver ch.val k (min n limit) misses).count (Ctr.COMB (17 + pcOf b) 1)) (by simp [State.poisonedAt, State.ueSent]) _).trans ?_
      rw [State.counter_count_same, State.counter_grantOver_pc _ hk ch.isLt (by decide)]
      rfl
    · rw [State.settle_flt]
      refine (congrArg Flt.net (State.sendFault_flt_of_up _ (by simpa [State.grantOver, State.setChan] using hmg))).trans ?_
      simp [State.grantOver, State.setChan, State.message, State.now]
    · simp only [State.poolPoisoned, State.settle_fab]
      exact mget_mput_same _ _ _ _

end Sys2Proof.Machine
end

section
/-! PROOFS. The Waggle lane of a module outside a pair (O44, R315 to R318, R327, R340). -/
namespace Sys2Proof.Machine
open Sys2Proof
set_option Elab.async false

/-! ### Frames that name whole registers -/

/-- A frame may name the whole register of a field in its place. -/
theorem Frame.widen {ps : List Part} {fs gs : List Field} {s t : State} (h : Frame ps fs s t) (hf : ∀ f ∈ fs, f ∈ gs ∨ (Field.all f.addr ∈ gs ∧ f.lo + f.width ≤ 32)) :
    Frame ps gs s t := by
  refine ⟨h.1, fun g hg ha hgs => h.2 g hg ha fun f hff => ?_⟩
  rcases hf f hff with hm | ⟨hm, hw⟩
  · exact hgs f hm
  · rcases hgs _ hm with hne | hlo | hhi
    · exact .inl hne
    · exact .inr (.inl (by simp only [Field.all] at hlo; omega))
    · exact .inr (.inr (by simp only [Field.all] at hhi; omega))

/-! ### Roles outside a pair -/

/-- A module in OFF whose time base follows nothing: no input moves its role. -/
structure State.Off (s : State) : Prop where
  role : s.role = 0
  src : s.flag Fld.TIME_STATUS_SRC = false
  follow : s.flag Fld.TIME_CFG_FOLLOW_EN = false

namespace State.Off
variable {s t : State}

/-- What keeps the three registers leaves the module in OFF. -/
theorem of_get (h : s.Off) (hr : t.get Fld.TDM_ROLE_STATE = s.get Fld.TDM_ROLE_STATE) (hs : t.get Fld.TIME_STATUS_SRC = s.get Fld.TIME_STATUS_SRC)
    (hf : t.get Fld.TIME_CFG_FOLLOW_EN = s.get Fld.TIME_CFG_FOLLOW_EN) : t.Off :=
  ⟨hr.trans h.role, by rw [State.flag, hs]; exact h.src, by rw [State.flag, hf]; exact h.follow⟩

theorem upd (h : s.Off) (hr : t.regs = s.regs) : t.Off := h.of_get (State.get_congr hr _) (State.get_congr hr _) (State.get_congr hr _)

theorem modPair (h : s.Off) (f : Pair → Pair) : (s.modPair f).Off := h.upd rfl

theorem put (h : s.Off) {f : Field} (v : Nat) (h1 : Fld.TDM_ROLE_STATE.clearOf f = true := by decide) (h2 : Fld.TIME_STATUS_SRC.clearOf f = true := by decide)
    (h3 : Fld.TIME_CFG_FOLLOW_EN.clearOf f = true := by decide) : (s.put f v).Off :=
  h.of_get (State.get_put_clear _ _ h1) (State.get_put_clear _ _ h2) (State.get_put_clear _ _ h3)

theorem raise (h : s.Off) {e : Event} (h1 : Fld.TDM_ROLE_STATE.clearOf e.field = true := by decide) (h2 : Fld.TIME_STATUS_SRC.clearOf e.field = true := by decide)
    (h3 : Fld.TIME_CFG_FOLLOW_EN.clearOf e.field = true := by decide) : (s.raise e).Off :=
  h.of_get (State.get_raise_clear _ h1) (State.get_raise_clear _ h2) (State.get_raise_clear _ h3)

theorem raiseIf (h : s.Off) (c : Bool) {e : Event} (h1 : Fld.TDM_ROLE_STATE.clearOf e.field = true := by decide)
    (h2 : Fld.TIME_STATUS_SRC.clearOf e.field = true := by decide) (h3 : Fld.TIME_CFG_FOLLOW_EN.clearOf e.field = true := by decide) : (s.raiseIf c e).Off := by
  cases c
  · exact h
  · exact h.raise h1 h2 h3

theorem updateFollow (h : s.Off) : s.updateFollow = s := by simp [State.updateFollow, State.mayFollow, State.stopFollow, h.follow, h.src]

theorem rule (h : s.Off) : s.rule = s := by
  rw [State.rule, h.role]
  rfl

theorem roles (h : s.Off) : s.roles = s := by
  have hsteps : s.roleSteps 6 = s := by simp [State.roleSteps, h.rule]
  have hshow : s.showUnknown = s := by simp [State.showUnknown, State.isStandby, h.role]
  rw [State.roles, hsteps, hshow, h.updateFollow]

end State.Off

/-! ### Blocks taken (R315, R317, R318) -/

/-- What an intact block shows. -/
def State.blockShown (s : State) (w : WBlock) (failstop : Bool) : State :=
  (((((s.put Fld.WAGGLE_STATUS_ALIVE 1).put Fld.WAGGLE_STATUS_LOST 0).put Fld.WAGGLE_STATUS_FAILSTOP (bit failstop)).put Fld.WAGGLE_STATUS_PEER_MSG w.msg).put
    Fld.WAGGLE_PEER_HSEQ_HSEQ w.hseq).put Fld.TDM_ROLE_PEER_STATE w.state

/-- What an intact block leaves of the pair, as seen from state s. -/
def State.pairTold (s : State) (w : WBlock) (failstop : Bool) (p : Pair) : Pair :=
  { p with rxTs := w.tsTx, rxAt := s.now, peer := some w, failed := if failstop then 1 else 0,
           msgOut := if p.msgOut = 1 && w.state = 8 then 0 else p.msgOut,
           conflict := p.conflict && w.strap == s.strapB,
           blocks := if seqAfter w.hseq (s.get Fld.TDM_HSEQ_SEQ) && s.isStandby && p.blocks.getLast? != some (w.hseq, w.low, w.rmask) then p.blocks ++ [(w.hseq, w.low, w.rmask)]
                     else p.blocks }

/-- An intact block taken, shown and counted. -/
def State.blockTaken (s : State) (w : WBlock) (failstop : Bool) : State :=
  ((s.blockShown w failstop).count (Ctr.PAIR 1 5)).modPair (((s.blockShown w failstop).count (Ctr.PAIR 1 5)).pairTold w failstop)

theorem State.Off.blockShown {s : State} (h : s.Off) (w : WBlock) (failstop : Bool) : (s.blockShown w failstop).Off :=
  (((((h.put 1).put 0).put (bit failstop)).put w.msg).put w.hseq).put w.state

theorem State.roundTrip_congr {s t : State} (h : t.clk = s.clk) (w : WBlock) : t.roundTrip w = s.roundTrip w := by
  simp only [State.roundTrip, State.now, h]

/-- An intact block that an enabled lane receives outside a pair. -/
theorem State.intactBlock_of_off {s : State} (h : s.Off) (w : WBlock) (failstop : Bool) (hen : s.flag Fld.WAGGLE_CFG_EN = true)
    (hlane : s.flag (Fld.LANE_STATUS_FAILED 264) = false) : s.intactBlock w failstop = ((s.blockTaken w failstop).put Fld.WAGGLE_RTT_NS (s.roundTrip w)).raiseIf
      (failstop && s.fab.pair.failed == 0 && ((s.blockTaken w failstop).put Fld.WAGGLE_RTT_NS (s.roundTrip w)).flag Fld.TDM_CFG_EN) Evt.TDM_PARTNER_FAILED := by
  have hoff : (s.blockTaken w failstop).Off := (h.blockShown w failstop).upd rfl
  have hrtt : (s.blockTaken w failstop).roundTrip w = s.roundTrip w := State.roundTrip_congr (by simp [State.blockTaken, State.blockShown]) w
  have hmeasure : (s.blockTaken w failstop).measureOffset w w.active = (s.blockTaken w failstop).put Fld.WAGGLE_RTT_NS (s.roundTrip w) := by
    have hfol : ((s.blockTaken w failstop).put Fld.WAGGLE_RTT_NS (s.roundTrip w)).following = false := (hoff.put (s.roundTrip w)).src
    rw [State.measureOffset]
    dsimp only
    rw [hrtt, hfol]
    rfl
  have heq : s.intactBlock w failstop = if (!s.flag Fld.WAGGLE_CFG_EN || s.flag (Fld.LANE_STATUS_FAILED 264)) = true then s else
      (((s.blockTaken w failstop).updateFollow.measureOffset w w.active).raiseIf
        (failstop && ((s.blockShown w failstop).count (Ctr.PAIR 1 5)).fab.pair.failed == 0 &&
          ((s.blockTaken w failstop).updateFollow.measureOffset w w.active).flag Fld.TDM_CFG_EN) Evt.TDM_PARTNER_FAILED).roles := rfl
  rw [heq, hen, hlane, hoff.updateFollow, hmeasure, if_neg (by simp), State.Off.roles (State.Off.raiseIf (State.Off.put hoff _) _)]
  simp [State.blockShown]

theorem State.receiveBlock_intact {s : State} {w : WBlock} {crc : BitVec 16} (failstop : Bool) (h : crc.toNat = crc16 w.symbols) :
    s.receiveBlock w crc false failstop = s.intactBlock w failstop := by simp [State.receiveBlock, h]

theorem State.receiveBlock_lost {s : State} {w : WBlock} {crc : BitVec 16} {damaged : Bool} (failstop : Bool) (h : damaged = true ∨ crc.toNat ≠ crc16 w.symbols) :
    s.receiveBlock w crc damaged failstop = s := by
  rw [State.receiveBlock, if_neg]
  rcases h with h | h <;> simp [h]

/-- What a block says of its sender: 1 for a FAILSTOP (R317). -/
def failedOf (failstop : Bool) : Nat := if failstop then 1 else 0

/-- What a block taken outside a pair shows. -/
structure State.BlockSeen (s t : State) (w : WBlock) (failstop : Bool) : Prop where
  alive : t.flag Fld.WAGGLE_STATUS_ALIVE = true
  lost : t.get Fld.WAGGLE_STATUS_LOST = 0
  msg : t.get Fld.WAGGLE_STATUS_PEER_MSG = w.msg % 256
  hseq : t.get Fld.WAGGLE_PEER_HSEQ_HSEQ = w.hseq % 2 ^ 32
  state : t.get Fld.TDM_ROLE_PEER_STATE = w.state % 16
  rtt : t.get Fld.WAGGLE_RTT_NS = s.roundTrip w % 2 ^ 16
  counter : t.counter (Ctr.PAIR 1 5) = s.counter (Ctr.PAIR 1 5) + 1
  stops : t.flag Fld.WAGGLE_STATUS_FAILSTOP = failstop
  peer : t.fab.pair.peer = some w
  failed : t.fab.pair.failed = failedOf failstop

/-- The registers a block writes, and what else it changes. -/
def blockFields : List Field := [Field.all Addr.WAGGLE_STATUS, Field.all Addr.WAGGLE_PEER_HSEQ, Field.all Addr.WAGGLE_RTT, Fld.TDM_ROLE_PEER_STATE]

theorem State.blockSeen_of_off {s : State} (w : WBlock) (failstop c : Bool) {x : State}
    (hx : x = (((s.begin.blockTaken w failstop).put Fld.WAGGLE_RTT_NS (s.roundTrip w)).raiseIf c Evt.TDM_PARTNER_FAILED).settle) : s.BlockSeen x w failstop := by
  subst hx
  have hword : ∀ g : Field, g.addr ≠ 0x40040 → g.clearOf Evt.TDM_PARTNER_FAILED.field = true → g.clearOf Fld.WAGGLE_RTT_NS = true →
      (((s.begin.blockTaken w failstop).put Fld.WAGGLE_RTT_NS (s.roundTrip w)).raiseIf c Evt.TDM_PARTNER_FAILED).settle.get g = (s.begin.blockShown w failstop).get g := by
    intro g h1 h2 h3
    rw [State.get_settle _ h1, State.get_raiseIf_clear _ h2, State.get_put_clear _ _ h3]
    rfl
  refine ⟨?_, ?_, ?_, ?_, ?_, ?_, ?_, ?_, ?_, ?_⟩
  · rw [State.flag, hword _ (by decide) (by decide) (by decide), State.blockShown]
    simp (disch := decide) only [State.get_put_clear, State.get_put_lit]
    rfl
  · rw [hword _ (by decide) (by decide) (by decide), State.blockShown]
    simp (disch := decide) only [State.get_put_clear, State.get_put_lit]
  · rw [hword _ (by decide) (by decide) (by decide), State.blockShown]
    simp (disch := decide) only [State.get_put_clear, State.get_put_same]
    rfl
  · rw [hword _ (by decide) (by decide) (by decide), State.blockShown]
    rw [State.get_put_clear _ _ (by decide), State.get_put_same _ _ _ (by decide)]
    exact congrArg (fun n => w.hseq % 2 ^ n) (show Fld.WAGGLE_PEER_HSEQ_HSEQ.width = 32 from rfl)
  · rw [hword _ (by decide) (by decide) (by decide), State.blockShown]
    rw [State.get_put_same _ _ _ (by decide)]
    rfl
  · rw [State.get_settle _ (by decide), State.get_raiseIf_clear _ (by decide), State.get_put_same _ _ _ (by decide)]
    exact congrArg (fun n => s.roundTrip w % 2 ^ n) (show Fld.WAGGLE_RTT_NS.width = 16 from rfl)
  · rw [State.counter_settle, State.counter_raiseIf, State.counter_put, State.blockTaken, State.counter_modPair, State.counter_count_same]
    simp [State.blockShown]
  · rw [State.flag, hword _ (by decide) (by decide) (by decide), State.blockShown]
    simp (disch := decide) only [State.get_put_clear, State.get_put_same]
    cases failstop <;> rfl
  · simp [State.blockTaken, State.pairTold]
  · simp [State.blockTaken, State.pairTold, failedOf]

theorem Frame.blockTaken (s : State) (w : WBlock) (failstop : Bool) (v : Nat) :
    Frame [.pair, .ctrs] blockFields s ((s.begin.blockTaken w failstop).put Fld.WAGGLE_RTT_NS v) := by
  have h : Frame [.pair, .ctrs] [Fld.WAGGLE_STATUS_ALIVE, Fld.WAGGLE_STATUS_LOST, Fld.WAGGLE_STATUS_FAILSTOP, Fld.WAGGLE_STATUS_PEER_MSG, Fld.WAGGLE_PEER_HSEQ_HSEQ,
      Fld.TDM_ROLE_PEER_STATE, Fld.WAGGLE_RTT_NS] s ((s.begin.blockTaken w failstop).put Fld.WAGGLE_RTT_NS v) :=
    ((((((((Frame.begin s).andPut _).andPut _).andPut _).andPut _).andPut _).andPut _).andCount _ _ |>.andModPair _).andPut v
  exact h.widen (by decide)

/-- A lane that is disabled or has failed takes no block (R98). -/
theorem State.receiveBlock_dead {s : State} (w : WBlock) (crc : BitVec 16) (damaged failstop : Bool)
    (h : s.flag Fld.WAGGLE_CFG_EN = false ∨ s.flag (Fld.LANE_STATUS_FAILED 264) = true) : s.receiveBlock w crc damaged failstop = s := by
  have hdead : s.intactBlock w failstop = s := if_pos (by rcases h with h | h <;> simp [h])
  rw [State.receiveBlock, hdead, ite_self]

/-- What an intact block answers outside a pair, whichever it is. -/
theorem answers_block {c : Instr} {s : State} {w : WBlock} {crc : BitVec 16} {failstop : Bool} {P : State → Prop}
    (he : exec c s = done (s.begin.whenFabric fun s => s.receiveBlock w crc false failstop)) (hrun : s.fabricRuns = true) (hoff : s.Off)
    (hlane : s.flag (Fld.LANE_STATUS_FAILED 264) = false) (hcrc : crc.toNat = crc16 w.symbols) (hen : s.flag Fld.WAGGLE_CFG_EN = true)
    (hp : ∀ b : Bool, (b = (failstop && s.fab.pair.failed == 0 && s.flag Fld.TDM_CFG_EN)) → ∀ t : State, s.BlockSeen t w failstop →
      (b = true → t.get Evt.TDM_PARTNER_FAILED.field = 1) → (b = false → Frame [.pair, .ctrs] blockFields s t) →
      Frame [.pair, .ctrs] (blockFields ++ [Evt.TDM_PARTNER_FAILED.field]) s t → P t) : Answers c s P := by
  obtain ⟨hup, hheld, -⟩ := State.fabricRuns_iff.mp hrun
  have htdm : ((s.begin.blockTaken w failstop).put Fld.WAGGLE_RTT_NS (s.roundTrip w)).flag Fld.TDM_CFG_EN = s.flag Fld.TDM_CFG_EN := by
    rw [State.flag, State.get_put_clear _ _ (by decide), State.blockTaken]
    simp (disch := decide) only [State.get_modPair, State.get_count, State.blockShown, State.get_put_clear, State.get_begin, State.flag]
  have hfx : s.begin.receiveBlock w crc false failstop = ((s.begin.blockTaken w failstop).put Fld.WAGGLE_RTT_NS (s.roundTrip w)).raiseIf
      (failstop && s.fab.pair.failed == 0 && s.flag Fld.TDM_CFG_EN) Evt.TDM_PARTNER_FAILED := by
    rw [State.receiveBlock_intact failstop hcrc, State.intactBlock_of_off (s := s.begin) (hoff.upd rfl) w failstop (by simpa using hen) (by simpa using hlane),
      State.roundTrip_congr (s := s) (by simp), htdm, State.begin_fab]
  have hframe := Frame.blockTaken s w failstop (s.roundTrip w)
  refine answers_fabric (ps := [.pair, .ctrs]) (fs := blockFields ++ [Evt.TDM_PARTNER_FAILED.field]) he hrun hfx
    ((hframe.mono (fun _ h => h) (fun _ h => List.mem_append_left _ h)).andRaiseIf _ (by simp)) (by simp [State.blockTaken, State.blockShown]) (by decide)
    fun hfr => hp _ rfl _ (State.blockSeen_of_off w failstop _ rfl) (fun hb => ?_) (fun hb => ?_) hfr
  · rw [hb, State.get_settle _ (by decide), State.raiseIf, if_pos rfl]
    generalize s.roundTrip w = v
    exact State.get_raise_fabric (by simpa [State.blockTaken, State.blockShown] using hup) (by simpa [State.blockTaken, State.blockShown] using hheld) rfl (by decide) (by decide)
  · rw [hb]
    exact hframe.settle

/-- A block that is not taken changes nothing. -/
theorem answers_noBlock {c : Instr} {s : State} {w : WBlock} {crc : BitVec 16} {damaged failstop : Bool}
    (he : exec c s = done (s.begin.whenFabric fun s => s.receiveBlock w crc damaged failstop)) (hrun : s.fabricRuns = true)
    (h : s.begin.receiveBlock w crc damaged failstop = s.begin) : Answers c s fun t => Frame [] [] s t :=
  answers_fabric he hrun h (Frame.begin s) rfl (by simp) fun hfr => hfr

/-- The next heartbeat of an active module (R315). -/
def State.nextBlock (s : State) : WBlock :=
  let hseq := s.get Fld.TDM_HSEQ_SEQ
  let low := s.fab.pair.lastHseq.headD hseq
  { state := s.role, strap := s.strapB, modId := s.get Fld.CLK_STRAPS_MOD_ID, msg := s.fab.pair.msgOut, hseq := hseq, low := low,
    rmask := (s.fab.pair.recent.filter fun e => decide (e.2 < 20) && seqAfter e.1 low && !seqAfter e.1 hseq).foldl (fun n e => n ||| 2 ^ e.2) 0,
    rsync := s.get Fld.TDM_UNKNOWN_REGIONS, tsTx := s.now, echoTx := s.fab.pair.rxTs % 2 ^ 32, echoRx := s.fab.pair.rxAt % 2 ^ 32 }

/-- What the heartbeat leaves of the pair (R315). -/
def State.pairSent (s : State) : Pair :=
  let l := s.fab.pair.lastHseq ++ [s.get Fld.TDM_HSEQ_SEQ]
  let l := l.drop (l.length - 4)
  { s.fab.pair with lastHseq := l, recent := s.fab.pair.recent.filter fun e => seqAfter e.1 (l.headD 0), msgLeft := s.fab.pair.msgLeft - 1,
                    msgOut := if s.fab.pair.msgLeft = 1 then 0 else s.fab.pair.msgOut }

theorem State.sendBlock_of_off {s : State} (h : s.role = 0) : s.sendBlock false = (s.modPair fun _ => s.pairSent).emit (.waggle false s.nextBlock) := by
  have hact : (decide (s.get Fld.TDM_ROLE_STATE = 0) || decide (s.get Fld.TDM_ROLE_STATE = 2) || decide (s.get Fld.TDM_ROLE_STATE = 3) ||
      decide (s.get Fld.TDM_ROLE_STATE = 8)) = true := by
    rw [show s.get Fld.TDM_ROLE_STATE = 0 from h]
    rfl
  unfold State.sendBlock
  dsimp only
  rw [hact]
  rfl

/-- Silence with the cable as told (R317). -/
theorem State.Off.noBlocks {s : State} (h : s.Off) (cable : Option Bool) : (s.noBlocks cable).Off :=
  State.Off.put (f := Fld.WAGGLE_STATUS_ALIVE) (s := { s with clk := { s.clk with tpres := cable.getD s.clk.tpres } }) (h.upd rfl) 0

theorem Frame.andNoBlocks {ps : List Part} {fs : List Field} {s t : State} (h : Frame ps fs s t) (cable : Option Bool) (hp : Part.clk ∈ ps := by simp)
    (hf : Fld.WAGGLE_STATUS_ALIVE ∈ fs := by simp) : Frame ps fs s (t.noBlocks cable) := (h.andClk _ hp).andPut 0 hf

theorem State.noBlocks_alive (s : State) (cable : Option Bool) : (s.noBlocks cable).get Fld.WAGGLE_STATUS_ALIVE = 0 := State.get_put_lit _ (by decide) (by decide)

theorem State.noBlocks_none (s : State) : s.noBlocks none = s.put Fld.WAGGLE_STATUS_ALIVE 0 := rfl

@[simp] theorem State.noBlocks_fab (s : State) (cable : Option Bool) : (s.noBlocks cable).fab = s.fab := by simp [State.noBlocks]
@[simp] theorem State.noBlocks_mgmtUp (s : State) (cable : Option Bool) : (s.noBlocks cable).clk.mgmtUp = s.clk.mgmtUp := by simp [State.noBlocks]
@[simp] theorem State.noBlocks_fabricHeld (s : State) (cable : Option Bool) : (s.noBlocks cable).clk.fabricHeld = s.clk.fabricHeld := by simp [State.noBlocks]

/-- The partner held failed for its silence. -/
def State.silenceSeen (s : State) : State := ((s.noBlocks (some true)).modPair fun p => { p with failed := 2 }).raise Evt.TDM_PARTNER_FAILED

theorem waggleSilence_effect {s : State} (hoff : s.Off) (htdm : s.flag Fld.TDM_CFG_EN = true) (hfail : s.fab.pair.failed = 0) :
    ∃ f, exec .waggleSilence s = done (s.begin.whenFabric f) ∧ f s.begin = s.begin.silenceSeen := by
  refine ⟨_, rfl, ?_⟩
  have hc : ((s.begin.noBlocks (some true)).flag Fld.TDM_CFG_EN && (s.begin.noBlocks (some true)).fab.pair.failed == 0) = true := by
    rw [State.noBlocks_fab, State.begin_fab, hfail, State.flag, State.noBlocks, State.get_put_clear _ _ (by decide)]
    exact Bool.and_eq_true_iff.mpr ⟨htdm, rfl⟩
  have hquiet : (s.begin.noBlocks (some true)).Off := State.Off.noBlocks (State.Off.upd (t := s.begin) hoff rfl) _
  exact (if_pos hc).trans (State.Off.roles (State.Off.raise (e := Evt.TDM_PARTNER_FAILED) (hquiet.modPair fun p => { p with failed := 2 })))

/-- A lost block counted and raised. -/
def State.blockMissed (s : State) : State := ((s.put Fld.WAGGLE_STATUS_LOST (min 16 (s.get Fld.WAGGLE_STATUS_LOST + 1))).raise Evt.WAGGLE_BLOCK_LOST).count (Ctr.PAIR 1 6)

theorem waggleBlockLost_effect {s : State} (hen : s.flag Fld.WAGGLE_CFG_EN = true) :
    ∃ f, exec .waggleBlockLost s = done (s.begin.whenFabric f) ∧
      f s.begin = if min 16 (s.get Fld.WAGGLE_STATUS_LOST + 1) = 16 then (s.begin.blockMissed.put Fld.WAGGLE_STATUS_ALIVE 0).updateFollow else s.begin.blockMissed :=
  ⟨_, rfl, if_pos hen⟩

theorem State.Off.blockMissed {s : State} (h : s.Off) : s.blockMissed.Off := State.Off.upd (State.Off.raise (e := Evt.WAGGLE_BLOCK_LOST) (State.Off.put (f := Fld.WAGGLE_STATUS_LOST) h _)) rfl

/-- What a lost block shows. -/
theorem State.blockMissed_shows {s : State} (hup : s.clk.mgmtUp = true) (hheld : s.clk.fabricHeld = false) :
    s.blockMissed.get Fld.WAGGLE_STATUS_LOST = min 16 (s.get Fld.WAGGLE_STATUS_LOST + 1) ∧ s.blockMissed.get Evt.WAGGLE_BLOCK_LOST.field = 1 ∧
    s.blockMissed.counter (Ctr.PAIR 1 6) = s.counter (Ctr.PAIR 1 6) + 1 := by
  refine ⟨?_, ?_, ?_⟩
  · rw [State.blockMissed, State.get_count, State.get_raise _ (by decide), State.get_put_lit _ (by decide)]
    exact Nat.lt_of_le_of_lt (Nat.min_le_left _ _) (show 16 < 2 ^ 5 by decide)
  · rw [State.blockMissed, State.get_count, State.get_raise_fabric (by simpa using hup) (by simpa using hheld) rfl (by decide) (by decide)]
  · rw [State.blockMissed, State.counter_count_same, State.counter_raise, State.counter_put]
    rfl

/-- The state with the lock of the lane as told; a lock finds the lane whole and tells its polarity (R25, R98). -/
def State.lockShown (s : State) (lock inv : Bool) : State :=
  ((if lock then (((s.put (Fld.LANE_STATUS_FAILED 264) 0).put (Fld.LANE_STATUS_FAIL_CAUSE 264) 0).putFlag (Fld.LANE_STATUS_POL_INV 264) inv) else s).putFlag
    Fld.WAGGLE_STATUS_LOCK lock).raise Evt.WAGGLE_LOCK

/-- Settles O44. -/
theorem waggleLane : Obligations.WaggleLane := by
  unfold Obligations.WaggleLane
  intro s hrun hrole hsrc hfol
  have hoff : s.Off := ⟨hrole, by simp [State.flag, hsrc], hfol⟩
  obtain ⟨hup, hheld, -⟩ := State.fabricRuns_iff.mp hrun
  refine ⟨fun w crc hlane hcrc hen => ?_, fun w crc hlane hcrc hen hfail htdm => ?_, fun w crc hlane hcrc hen => ?_, fun w crc hlane hcrc hen => ?_,
    fun w crc dm hdead => ?_, fun w crc dm h => answers_noBlock rfl hrun (State.receiveBlock_lost _ h), fun w crc dm h => answers_noBlock rfl hrun (State.receiveBlock_lost _ h),
    fun w crc dm h => answers_noBlock rfl hrun (State.receiveBlock_lost _ h), fun w crc dm h => answers_noBlock rfl hrun (State.receiveBlock_lost _ h),
    fun hon => ?_, fun hon => ?_, fun htdm hfail => ?_, ?_, ?_, fun hen hlow => ?_, fun hen hhigh => ?_, fun lock inv hne => ?_⟩
  · exact answers_block rfl hrun hoff hlane hcrc hen fun b hb t hs _ hfr _ =>
      ⟨hs.alive, hs.lost, hs.msg, hs.hseq, hs.state, hs.rtt, hs.counter, hs.stops, hs.peer, hs.failed, hfr hb⟩
  · exact answers_block rfl hrun hoff hlane hcrc hen fun b hb t hs he _ hfr =>
      ⟨hs.alive, hs.lost, hs.msg, hs.hseq, hs.state, hs.rtt, hs.counter, hs.stops, hs.failed, he (by simp [hb, hfail, htdm]), hfr⟩
  · exact answers_block (w := { w with msg := 1 }) rfl hrun hoff hlane hcrc hen fun b hb t hs _ hfr _ =>
      ⟨hs.alive, hs.lost, hs.msg, hs.hseq, hs.state, hs.rtt, hs.counter, hs.peer, hfr hb⟩
  · exact answers_block (w := { w with state := 8, msg := 2 }) rfl hrun hoff hlane hcrc hen fun b hb t hs _ hfr _ =>
      ⟨hs.alive, hs.lost, hs.msg, hs.hseq, hs.state, hs.rtt, hs.counter, hs.peer, hfr hb⟩
  · exact answers_noBlock rfl hrun (State.receiveBlock_dead _ _ _ _ hdead)
  · refine answers_fabric rfl hrun ((if_pos (show s.begin.waggleOn = true from hon)).trans (State.sendBlock_of_off (s := s.begin) hrole)) (((Frame.begin s).andModPair _).andEmit _)
      (by simp) (by simp) fun hfr => ⟨⟨s.begin.nextBlock, by simp, ?_⟩, hfr⟩
    simp [State.nextBlock, State.role, State.strapB]
  · exact answers_fabric rfl hrun (if_neg (by simp [show s.begin.waggleOn = false from hon])) (Frame.begin s) rfl (by simp) fun hfr => hfr
  · obtain ⟨f, he, hfx⟩ := waggleSilence_effect hoff htdm hfail
    refine answers_fabric he hrun hfx (((Frame.begin s).andNoBlocks _).andModPair _ |>.andRaise) (by simp [State.silenceSeen]) (by decide) fun hfr => ⟨?_, ?_, ?_, hfr⟩
    · simp [State.silenceSeen]
    · rw [State.get_settle _ (by decide), State.silenceSeen, State.get_raise_fabric (by simpa using hup) (by simpa using hheld) rfl (by decide) (by decide)]
    · rw [State.flag, State.get_settle _ (by decide), State.silenceSeen, State.get_raise _ (by decide), State.get_modPair, State.noBlocks_alive]
      rfl
  · have hfx : ((s.begin.noBlocks none).raise Evt.WAGGLE_WAGGLE_ONLY).updateFollow = (s.begin.put Fld.WAGGLE_STATUS_ALIVE 0).raise Evt.WAGGLE_WAGGLE_ONLY :=
      State.Off.updateFollow (State.Off.raise (e := Evt.WAGGLE_WAGGLE_ONLY) (State.Off.noBlocks (State.Off.upd (t := s.begin) hoff rfl) none))
    refine answers_fabric rfl hrun hfx (((Frame.begin s).andPut 0).andRaise) (by simp) (by decide) fun hfr => ⟨?_, ?_, hfr⟩
    · rw [State.get_settle _ (by decide), State.get_raise_fabric (by simpa using hup) (by simpa using hheld) rfl (by decide) (by decide)]
    · rw [State.flag, State.get_settle _ (by decide), State.get_raise _ (by decide), State.get_put_lit _ (by decide) (by decide)]
      rfl
  · have hfx : ((s.begin.noBlocks (some false)).raise Evt.WAGGLE_CABLE_OUT).updateFollow = (s.begin.noBlocks (some false)).raise Evt.WAGGLE_CABLE_OUT :=
      State.Off.updateFollow (State.Off.raise (e := Evt.WAGGLE_CABLE_OUT) (State.Off.noBlocks (State.Off.upd (t := s.begin) hoff rfl) _))
    refine answers_fabric rfl hrun hfx (((Frame.begin s).andNoBlocks _).andRaise) (by simp) (by decide) fun hfr => ⟨?_, ?_, ?_, hfr⟩
    · rw [State.get_settle _ (by decide), State.get_raise_fabric (by simpa using hup) (by simpa using hheld) rfl (by decide) (by decide)]
    · rw [State.flag, State.get_settle _ (by decide), State.get_raise _ (by decide), State.noBlocks_alive]
      rfl
    · simp
  · obtain ⟨f, he, hfx⟩ := waggleBlockLost_effect hen
    obtain ⟨hlost, hevt, hctr⟩ := State.blockMissed_shows (s := s.begin) hup hheld
    refine answers_fabric he hrun (hfx.trans (if_neg (by omega))) ((((Frame.begin s).andPut _).andRaise).andCount _ _) (by simp [State.blockMissed]) (by decide)
      fun hfr => ⟨?_, ?_, ?_, hfr⟩
    · rw [State.get_settle _ (by decide), hlost, State.get_begin]
    · rw [State.get_settle _ (by decide), hevt]
    · rw [State.counter_settle, hctr, State.counter_begin]
  · obtain ⟨f, he, hfx⟩ := waggleBlockLost_effect hen
    obtain ⟨hlost, hevt, hctr⟩ := State.blockMissed_shows (s := s.begin) hup hheld
    have hrest : (s.begin.blockMissed.put Fld.WAGGLE_STATUS_ALIVE 0).updateFollow = s.begin.blockMissed.put Fld.WAGGLE_STATUS_ALIVE 0 :=
      State.Off.updateFollow (State.Off.put (f := Fld.WAGGLE_STATUS_ALIVE) (State.Off.blockMissed (State.Off.upd (t := s.begin) hoff rfl)) 0)
    refine answers_fabric he hrun (hfx.trans ((if_pos (by omega)).trans hrest)) (((((Frame.begin s).andPut _).andRaise).andCount _ _).andPut 0) (by simp [State.blockMissed])
      (by decide) fun hfr => ⟨?_, ?_, ?_, ?_, hfr⟩
    · rw [State.get_settle _ (by decide), State.get_put_clear _ _ (by decide), hlost, State.get_begin]
    · rw [State.get_settle _ (by decide), State.get_put_clear _ _ (by decide), hevt]
    · rw [State.counter_settle, State.counter_put, hctr, State.counter_begin]
    · rw [State.flag, State.get_settle _ (by decide), State.get_put_lit _ (by decide) (by decide)]
      rfl
  · have hfx : (if s.begin.flag Fld.WAGGLE_STATUS_LOCK == lock then s.begin else
        ((if lock then (s.begin.clearFailed 264).putFlag (Fld.LANE_STATUS_POL_INV 264) inv else s.begin).putFlag Fld.WAGGLE_STATUS_LOCK lock).raise Evt.WAGGLE_LOCK) =
        s.begin.lockShown lock inv := if_neg (by simpa using hne)
    refine answers_fabric rfl hrun hfx ((Frame.andPutFlag (Frame.ite ((((Frame.begin s).andPut 0).andPut 0).andPutFlag inv) (Frame.begin s)) lock).andRaise)
      (by cases lock <;> simp [State.lockShown]) (by decide) fun hfr => ⟨?_, ?_, fun hl => ⟨?_, ?_⟩, hfr⟩
    · rw [State.flag, State.get_settle _ (by decide), State.lockShown, State.get_raise _ (by decide), State.putFlag, State.get_put_lit _ (by decide) (bit_lt_two _)]
      cases lock <;> rfl
    · rw [State.get_settle _ (by decide), State.lockShown, State.get_raise_fabric (by cases lock <;> simpa using hup) (by cases lock <;> simpa using hheld) rfl (by decide) (by decide)]
    · rw [State.flag, State.get_settle _ (by decide), hl, State.lockShown, if_pos rfl, State.get_raise _ (by decide), State.putFlag, State.get_put_clear _ _ (by decide), State.putFlag,
        State.get_put_lit _ (by decide) (bit_lt_two _)]
      cases inv <;> rfl
    · rw [State.flag, State.get_settle _ (by decide), hl, State.lockShown, if_pos rfl, State.get_raise _ (by decide), State.putFlag, State.get_put_clear _ _ (by decide), State.putFlag,
        State.get_put_clear _ _ (by decide), State.get_put_clear _ _ (by decide), State.get_put_lit _ (by decide) (by decide)]
      rfl

end Sys2Proof.Machine
end

section
/-! PROOFS. Fabric reset by the pin and by CLK_RESET, and the records of a Fixon image (O7, O9, R72, R73, R78, R80, R82). -/
namespace Sys2Proof.Machine
open Sys2Proof
set_option Elab.async false

/-! ### Registers that fabric reset leaves (R71, R437) -/

/-- A register outside FABRIC, below the pages of the boxes, the IDE streams and the time base: fabric reset leaves it. -/
structure PlainReg (a : Nat) : Prop where
  domain : pageDomain (a / 0x10000) ≠ .fabric
  low : a < 0x60000

theorem fabricKeeps_plain {a : Nat} {w : Word} (ha : PlainReg a) (hw : w ≠ resetWord a) : fabricKeeps (a, w) = some (a, w) := by
  obtain ⟨hd, hlow⟩ := ha
  have h6 : a / 0x10000 ≠ 6 := by omega
  have hide : ¬ (0x71100 ≤ a ∧ a < 0x71200) := by omega
  unfold fabricKeeps
  dsimp only
  split
  · exact absurd (by assumption) hd
  · simp [h6, hide, hw]

/-- What fabric reset keeps of a register it keeps whole: its word, where that is not the reset word. -/
theorem assoc_filterMap_fabricKeeps_of_kept (m : List (Nat × Word)) {a : Nat} (hkept : ∀ w, w ≠ resetWord a → fabricKeeps (a, w) = some (a, w))
    (h : assoc m a ≠ some (resetWord a)) : assoc (m.filterMap fabricKeeps) a = assoc m a := by
  induction m with
  | nil => rfl
  | cons e m ih =>
    obtain ⟨k, v⟩ := e
    by_cases hk : k = a
    · subst hk
      have hv : v ≠ resetWord k := by simpa [assoc] using h
      simp [hkept v hv, assoc]
    · have ih' := ih (by simpa [assoc, hk] using h)
      cases hf : fabricKeeps (k, v) with
      | none => simpa [hf, assoc, hk] using ih'
      | some e' =>
        obtain ⟨k', v'⟩ := e'
        have hkey : k' = k := fabricKeeps_key hf
        simpa [hf, assoc, hk, hkey] using ih'

theorem assoc_filterMap_fabricKeeps_plain (m : List (Nat × Word)) {a : Nat} (ha : PlainReg a) (h : assoc m a ≠ some (resetWord a)) :
    assoc (m.filterMap fabricKeeps) a = assoc m a := assoc_filterMap_fabricKeeps_of_kept m (fun _ hw => fabricKeeps_plain ha hw) h

/-- A filter by key leaves what is listed under a key it passes. -/
theorem assoc_filter_key (m : List (Nat × Word)) (p : Nat → Bool) {a : Nat} (ha : p a = true) : assoc (m.filter fun e => p e.1) a = assoc m a := by
  induction m with
  | nil => rfl
  | cons e m ih =>
    obtain ⟨k, v⟩ := e
    by_cases hk : k = a
    · subst hk
      simp [ha, assoc]
    · by_cases hpk : p k = true
      · simp [hpk, assoc, hk, ih]
      · simp [hpk, assoc, hk, ih]

namespace Keeps
variable {fs : List Field} {s t : State}

theorem stopFollow_plain (h : Keeps fs s t) (hfs : ∀ g ∈ fs, PlainReg g.addr) : Keeps fs s t.stopFollow := by
  have hclear : ∀ g ∈ fs, ∀ a, 0x60000 ≤ a → g.addr ≠ a := fun g hg a ha => by have := (hfs g hg).low; omega
  unfold State.stopFollow
  refine .ite ?_ h
  exact ((((h.setWord _ fun g hg => hclear g hg _ (by decide)).setWord _ fun g hg => hclear g hg _ (by decide)).setWord _ fun g hg => hclear g hg _ (by decide)).raise fun g hg => hclear g hg _ (by decide))

theorem endBinding_plain (h : Keeps fs s t) (hfs : ∀ g ∈ fs, PlainReg g.addr) : Keeps fs s t.endBinding := by
  unfold State.endBinding
  split
  · refine (h.setWord _ fun g hg => ?_).regs rfl
    have := (hfs g hg).low
    simp only [Fld.MBX_BOX_STATE_BG, Addr.MBX_BOX_STATE]
    omega
  · exact h

theorem fabricReset_plain (h : Keeps fs s t) (hfs : ∀ g ∈ fs, PlainReg g.addr) : Keeps fs s t.fabricReset := by
  have hregs : t.fabricReset.regs = t.stopFollow.endBinding.regs.filterMap fabricKeeps := rfl
  refine ((h.stopFollow_plain hfs).endBinding_plain hfs).trans fun g hg ht => ?_
  have hsame := assoc_filterMap_fabricKeeps_plain _ (hfs g hg) ht
  exact ⟨by rwa [State.TidyAt, hregs, hsame], by simp only [State.get, State.word, sparseGet, hregs, hsame]⟩

theorem sendFailstop_plain (h : Keeps fs s t) : Keeps fs s t.sendFailstop := h.regs (State.sendFailstop_regs t)

theorem fullReset_plain (h : Keeps fs s t) (hfs : ∀ g ∈ fs, PlainReg g.addr) : Keeps fs s t.fullReset := by
  refine (h.fabricReset_plain hfs).trans fun g hg ht => ?_
  have hfilter : assoc (t.fabricReset.regs.filter fun e => !keptPage (e.1 / 0x10000)) g.addr = assoc t.fabricReset.regs g.addr := by
    have hkept : (!keptPage (g.addr / 0x10000)) = true := by
      have := (hfs g hg).low
      simp [keptPage]
      omega
    exact assoc_filter_key t.fabricReset.regs (fun k => !keptPage (k / 0x10000)) hkept
  have hregs : t.fullReset.regs = t.fabricReset.regs.filter fun e => !keptPage (e.1 / 0x10000) := rfl
  exact ⟨by rwa [State.TidyAt, hregs, hfilter], by simp only [State.get, State.word, sparseGet, hregs, hfilter]⟩

end Keeps

/-- A field that reads other than at reset stands in a tidy register. -/
theorem State.tidyAt_of_get {s : State} {g : Field} (h : s.get g ≠ bitsOf (resetWord g.addr).toNat g.lo g.width) : s.TidyAt g.addr := by
  intro hlisted
  exact h (by simp only [State.get, State.word, sparseGet, hlisted])

/-! ### Entry to fabric reset (R72, R73) -/

/-- Start-up stands where it resumes, with its earlier failures cleared. -/
def State.stoodAt (s : State) : State :=
  s.standAt.puts [(Fld.BOOT_STATUS_FABRIC_READY, 0), (Fld.BOOT_STATUS_FAIL, 0), (Fld.BOOT_STATUS_CAUSE, 0), (Fld.BOOT_STATUS_FAIL_STAGE, 0), (Fld.BOOT_FIXON_ERR_RECORD, 0)]

def State.enteredReset (s : State) : State :=
  { s.stoodAt with clk := { s.stoodAt.clk with stopHeld := false, startFail := false }, boot := { s.stoodAt.boot with triedA := false, triedB := false, errSet := false } }

/-- What entry to fabric reset does once FABRIC's contents are gone. -/
def State.resetEntry (u : State) : State :=
  if u.clk.mgmtUp && decide (4 < u.get Fld.BOOT_STATUS_STAGE) || u.clk.startFail then u.enteredReset else { u with clk := { u.clk with stopHeld := false } }

theorem State.enterFabricReset_eq (s : State) : s.enterFabricReset = s.sendFailstop.fabricReset.resetEntry := rfl

theorem State.resetEntry_of_late {u : State} (hup : u.clk.mgmtUp = true) (hst : 4 < u.get Fld.BOOT_STATUS_STAGE) : u.resetEntry = u.enteredReset := by
  rw [State.resetEntry, hup, decide_eq_true hst, Bool.and_self, Bool.true_or, if_pos rfl]

/-- With verified firmware and no activation pending, start-up stands at stage 5 (R72). -/
theorem State.standAt_of_running {u : State} (hfw : u.boot.fwRunning = true) (hp : u.nv.fwPending = none) : u.standAt = u.put Fld.BOOT_STATUS_STAGE 5 := by
  unfold State.standAt
  dsimp only
  rw [hfw, hp]
  obtain ⟨r, hr⟩ := u.put_eq Fld.BOOT_STATUS_STAGE 5
  simp only [Option.isNone_none, Bool.and_self, if_true, State.put_boot]
  rw [hr]
  rw [← hfw]

/-- What entry to fabric reset shows of a module whose firmware runs on. -/
structure State.ResetEntered (s t : State) : Prop where
  held : t.clk.fabricHeld = true
  mgmt : t.clk.mgmtUp = true
  contents : t.fab = Fabric.reset
  stage : t.get Fld.BOOT_STATUS_STAGE = 5
  ready : t.get Fld.BOOT_STATUS_FABRIC_READY = 0
  stop : t.clk.stopHeld = false
  store : t.nv = s.nv
  role : t.role = 0

theorem State.resetEntered_enteredReset {s u : State} (hh : u.clk.fabricHeld = true) (hup : u.clk.mgmtUp = true) (hfab : u.fab = Fabric.reset) (hnv : u.nv = s.nv)
    (hrole : u.role = 0) (hfw : u.boot.fwRunning = true) (hp : u.nv.fwPending = none) : s.ResetEntered u.enteredReset := by
  have hstood : u.stoodAt = (u.put Fld.BOOT_STATUS_STAGE 5).puts [(Fld.BOOT_STATUS_FABRIC_READY, 0), (Fld.BOOT_STATUS_FAIL, 0), (Fld.BOOT_STATUS_CAUSE, 0),
      (Fld.BOOT_STATUS_FAIL_STAGE, 0), (Fld.BOOT_FIXON_ERR_RECORD, 0)] := by rw [State.stoodAt, State.standAt_of_running hfw hp]
  have hclk : u.stoodAt.clk = u.clk := by rw [hstood]; simp
  have hget : ∀ g : Field, u.enteredReset.get g = u.stoodAt.get g := State.get_congr (by rw [State.enteredReset])
  refine ⟨?_, ?_, ?_, ?_, ?_, by rw [State.enteredReset], ?_, ?_⟩
  · rw [State.enteredReset, hclk, hh]
  · rw [State.enteredReset, hclk, hup]
  · rw [State.enteredReset, hstood, State.puts_fab, State.put_fab, hfab]
  · rw [hget, hstood]
    simp (disch := decide) only [State.puts_cons, State.puts_nil, State.get_put_clear, State.get_put_lit]
  · rw [hget, hstood]
    simp (disch := decide) only [State.puts_cons, State.puts_nil, State.get_put_clear, State.get_put_lit]
  · rw [State.enteredReset, hstood, State.puts_nv, State.put_nv, hnv]
  · rw [State.role, hget, hstood]
    simp (disch := decide) only [State.puts_cons, State.puts_nil, State.get_put_clear]
    exact hrole

theorem State.resetEntered {s : State} (hup : s.clk.mgmtUp = true) (hst : 4 < s.get Fld.BOOT_STATUS_STAGE) (hfw : s.boot.fwRunning = true) (hp : s.nv.fwPending = none) :
    s.ResetEntered s.enterFabricReset := by
  have hkept : Keeps [Fld.BOOT_STATUS_STAGE] s s.sendFailstop.fabricReset := (Keeps.refl s).sendFailstop_plain.fabricReset_plain (by simpa using ⟨by decide, by decide⟩)
  have htidy : s.TidyAt Fld.BOOT_STATUS_STAGE.addr := State.tidyAt_of_get (by
    have hreset : bitsOf (resetWord Fld.BOOT_STATUS_STAGE.addr).toNat Fld.BOOT_STATUS_STAGE.lo Fld.BOOT_STATUS_STAGE.width ≤ 4 := by decide
    omega)
  obtain ⟨-, hget⟩ := hkept _ (by simp) htidy
  have hnv : s.sendFailstop.fabricReset.nv = s.nv := by simp
  rw [State.enterFabricReset_eq, State.resetEntry_of_late (by simpa using hup) (by rw [hget]; exact hst)]
  exact State.resetEntered_enteredReset (by simp) (by simpa using hup) (by simp) hnv (State.role_fabricReset _) (by simpa [State.fabricReset] using hfw) (by rw [hnv]; exact hp)

/-- Settling shows the entry to fabric reset on. -/
theorem State.ResetEntered.settle {s t : State} (h : s.ResetEntered t) : s.ResetEntered t.settle := by
  obtain ⟨hheld, hmgmt, hfab, hst, hready, hstop, hnv, hrole⟩ := h
  exact ⟨by simpa using hheld, by simpa using hmgmt, by simpa using hfab, by rw [State.get_settle _ (by decide), hst], by rw [State.get_settle _ (by decide), hready],
    by simpa using hstop, by simpa using hnv, by rw [State.role, State.get_settle _ (by decide)]; exact hrole⟩

/-- The pin reads low. -/
def State.pinLow (s : State) : State := { s with clk := { s.clk with perstLow := true } }

/-- The pulse of CLK_RESET runs. -/
def State.pulseOn (s : State) : State := { s with clk := { s.clk with resetPulse := true } }

theorem State.ResetEntered.pinLow {s t : State} (h : s.ResetEntered t) : s.ResetEntered t.pinLow := ⟨h.held, h.mgmt, h.contents, h.stage, h.ready, h.stop, h.store, h.role⟩
theorem State.ResetEntered.pulseOn {s t : State} (h : s.ResetEntered t) : s.ResetEntered t.pulseOn := ⟨h.held, h.mgmt, h.contents, h.stage, h.ready, h.stop, h.store, h.role⟩

theorem State.writeClkReset_pulse {s : State} {m : Master} {v : Nat} (hm : m.keeperOrBoard = true) (hv : v % 256 = 0xA5) : s.writeClkReset m v = s.enterFabricReset.pulseOn := by
  have hv' : (true && v % 256 == 0xA5) = true := by rw [hv]; rfl
  cases m with
  | keeper c => exact if_pos hv'
  | board => exact if_pos hv'
  | policy => cases hm
  | mover f => cases hm
  | dbg => cases hm
  | host p => cases hm

/-! ### Start-up resumes (R72, R84) -/

/-- The times of the stages that run again return to 0. -/
def State.timesCleared (s : State) (from_ : Nat) : State := (List.range 8).foldl (fun s i => if from_ ≤ i + 3 then s.put (Fld.BOOT_STAGE_T_TIME i) 0 else s) s

theorem State.resumeStartup_cases (s : State) : s.resumeStartup = s ∨ s.resumeStartup = s.timesCleared 4 ∨ s.resumeStartup = s.timesCleared 5 := by
  unfold State.resumeStartup
  dsimp only
  split
  · split
    · split
      · exact .inl rfl
      · exact .inr (.inl rfl)
    · split
      · exact .inl rfl
      · exact .inr (.inr rfl)
  · exact .inl rfl

theorem State.resumeStartup_late {s : State} (hup : s.clk.mgmtUp = true) (hpin : s.clk.perstLow = false) (hpulse : s.clk.resetPulse = false)
    (hst : 5 ≤ s.get Fld.BOOT_STATUS_STAGE) : s.resumeStartup = s.timesCleared 5 := by
  have hlate : ¬ s.get Fld.BOOT_STATUS_STAGE ≤ 4 := by omega
  rw [State.resumeStartup]
  dsimp only
  rw [hup, hpin, hpulse, if_neg hlate]
  rfl

/-- Clearing some of the times leaves what is no time of a stage. -/
theorem State.foldl_times (p : Nat → Prop) [DecidablePred p] (l : List Nat) : ∀ s : State,
    (∀ g : Field, g.addr < 0x21010 → (l.foldl (fun s i => if p i then s.put (Fld.BOOT_STAGE_T_TIME i) 0 else s) s).get g = s.get g) ∧
    (∀ n, p n → (n ∈ l ∨ s.get (Fld.BOOT_STAGE_T_TIME n) = 0) → (l.foldl (fun s i => if p i then s.put (Fld.BOOT_STAGE_T_TIME i) 0 else s) s).get (Fld.BOOT_STAGE_T_TIME n) = 0) := by
  induction l with
  | nil => exact fun s => ⟨fun _ _ => rfl, fun n _ h => h.resolve_left (by simp)⟩
  | cons k l ih =>
    intro s
    obtain ⟨hother, hcleared⟩ := ih (if p k then s.put (Fld.BOOT_STAGE_T_TIME k) 0 else s)
    have hsame : p k → (s.put (Fld.BOOT_STAGE_T_TIME k) 0).get (Fld.BOOT_STAGE_T_TIME k) = 0 := fun _ => by
      rw [State.get_put_same _ _ _ (show 0 + 32 ≤ 32 by decide), Nat.zero_mod]
    refine ⟨fun g hg => (hother g hg).trans ?_, fun n hn h => hcleared n hn ?_⟩
    · split
      · exact State.get_put_addr _ _ (by simp only [Fld.BOOT_STAGE_T_TIME, Addr.BOOT_STAGE_T]; omega)
      · rfl
    · by_cases hk : n = k
      · subst hk
        rw [if_pos hn]
        exact .inr (hsame hn)
      · rcases h with h | h
        · exact .inl ((List.mem_cons.mp h).resolve_left hk)
        · refine .inr ?_
          split
          · rw [State.get_put_addr _ _ (by simp only [Fld.BOOT_STAGE_T_TIME, Addr.BOOT_STAGE_T]; omega)]
            exact h
          · exact h

theorem Frame.andTimesCleared {ps : List Part} {s t : State} (h : Frame ps ((List.range 8).map Fld.BOOT_STAGE_T_TIME) s t) (k : Nat) :
    Frame ps ((List.range 8).map Fld.BOOT_STAGE_T_TIME) s (t.timesCleared k) := by
  have hl : ∀ l : List Nat, (∀ i ∈ l, i ∈ List.range 8) → ∀ u : State, Frame ps ((List.range 8).map Fld.BOOT_STAGE_T_TIME) s u →
      Frame ps ((List.range 8).map Fld.BOOT_STAGE_T_TIME) s (l.foldl (fun s i => if k ≤ i + 3 then s.put (Fld.BOOT_STAGE_T_TIME i) 0 else s) u) := by
    intro l
    induction l with
    | nil => exact fun _ u hu => hu
    | cons i l ih =>
      intro hm u hu
      refine ih (fun j hj => hm j (List.mem_cons_of_mem _ hj)) _ (Frame.ite ?_ hu)
      exact hu.put 0 (List.mem_map_of_mem (hm i List.mem_cons_self))
  exact hl _ (fun _ h => h) t h

theorem State.timesCleared_eq (s : State) (k : Nat) : ∃ r, s.timesCleared k = { s with regs := r } := by
  unfold State.timesCleared
  generalize List.range 8 = l
  induction l generalizing s with
  | nil => exact ⟨s.regs, rfl⟩
  | cons i l ih =>
    obtain ⟨r, hr⟩ := ih (if k ≤ i + 3 then s.put (Fld.BOOT_STAGE_T_TIME i) 0 else s)
    refine ⟨r, ?_⟩
    rw [List.foldl_cons, hr]
    split
    · obtain ⟨r', hr'⟩ := s.put_eq (Fld.BOOT_STAGE_T_TIME i) 0
      rw [hr']
    · rfl

/-- What the end of a cause of fabric reset answers, as start-up resumes. -/
theorem answers_resume {c : Instr} {s u : State} (he : exec c s = done u.resumeStartup) (hu : Frame [.clk] [] s u) (hr : u.regs = s.regs) (hup : u.clk.mgmtUp = true) :
    Answers c s fun t => t.clk = u.clk ∧ t.get Fld.BOOT_STATUS_STAGE = s.get Fld.BOOT_STATUS_STAGE ∧
      (5 ≤ s.get Fld.BOOT_STATUS_STAGE → u.clk.resetPulse = false → u.clk.perstLow = false → ∀ n : Fin 6, t.get (Fld.BOOT_STAGE_T_TIME (n.val + 2)) = 0) ∧
      Frame [.clk] ((List.range 8).map Fld.BOOT_STAGE_T_TIME) s t := by
  have hu' : Frame [.clk] ((List.range 8).map Fld.BOOT_STAGE_T_TIME) s u := hu.mono (fun _ h => h) (fun _ h => absurd h (by simp))
  have hst : u.get Fld.BOOT_STATUS_STAGE = s.get Fld.BOOT_STATUS_STAGE := State.get_congr hr _
  have hkeep : u.resumeStartup.clk = u.clk ∧ u.resumeStartup.get Fld.BOOT_STATUS_STAGE = u.get Fld.BOOT_STATUS_STAGE ∧
      Frame [.clk] ((List.range 8).map Fld.BOOT_STAGE_T_TIME) s u.resumeStartup := by
    have hcleared : ∀ k, (u.timesCleared k).clk = u.clk ∧ (u.timesCleared k).get Fld.BOOT_STATUS_STAGE = u.get Fld.BOOT_STATUS_STAGE := fun k => by
      obtain ⟨r, hr⟩ := u.timesCleared_eq k
      exact ⟨by rw [hr], (State.foldl_times (fun i => k ≤ i + 3) _ u).1 _ (by decide)⟩
    rcases u.resumeStartup_cases with h | h | h
    · rw [h]; exact ⟨rfl, rfl, hu'⟩
    · rw [h]; exact ⟨(hcleared 4).1, (hcleared 4).2, hu'.andTimesCleared 4⟩
    · rw [h]; exact ⟨(hcleared 5).1, (hcleared 5).2, hu'.andTimesCleared 5⟩
  obtain ⟨hclk, hstage, hframe⟩ := hkeep
  refine answers_done he ⟨by rw [State.settle_clk, hclk], by rw [State.get_settle _ (by decide), hstage, hst], fun h5 hpulse hpin n => ?_, hframe.settle⟩
  rw [State.get_settle _ (by simp only [Fld.BOOT_STAGE_T_TIME, Addr.BOOT_STAGE_T]; omega), State.resumeStartup_late hup hpin hpulse (by rw [hst]; exact h5)]
  exact (State.foldl_times (fun i => 5 ≤ i + 3) _ u).2 _ (by omega) (.inl (List.mem_range.mpr (by omega)))

/-- Settles O7. -/
theorem resetEntryAndEnd : Obligations.ResetEntryAndEnd := by
  unfold Obligations.ResetEntryAndEnd
  intro s hup
  refine ⟨fun hst hfw hp => ?_, fun m v htk hm hv hst hfw hp => ?_, fun hpin => ?_, fun hpulse => ?_⟩
  · have h := ((State.resetEntered (s := s.begin) (by simpa using hup) (by simpa using hst) hfw hp).pinLow).settle
    refine answers_done (x := s.begin.enterFabricReset.pinLow) rfl ⟨h.held, h.mgmt, h.contents, h.stage, h.ready, h.stop, h.store, ?_⟩
    rw [State.settle_clk, State.pinLow]
  · have h := (State.resetEntered (s := s.begin) (by simpa using hup) (by simpa using hst) hfw hp).pulseOn
    have hx : exec (.clkResetWrite m v) s = .next (s.begin.enterFabricReset.pulseOn).settle := by
      refine (done_guard (fun s => s.writeClkReset m v.toNat) htk).trans ?_
      rw [State.writeClkReset_pulse hm hv, State.mirror_of_held h.role h.held]
    have h' := h.settle
    refine answers_of_eq hx ⟨h'.held, h'.mgmt, h'.contents, h'.stage, h'.ready, h'.stop, h'.store, ?_⟩
    rw [State.settle_clk, State.pulseOn]
  · have he : exec .perstRelease s = done (State.resumeStartup { s.begin with clk := { s.begin.clk with perstLow := false } }) := congrArg done (if_pos hpin)
    obtain ⟨t, ht, hclk, hst, htimes, hframe⟩ := answers_resume he ((Frame.begin s).andClk _) rfl hup
    exact ⟨t, ht, hclk, hst, fun h5 hp n => htimes h5 hp rfl n, hframe⟩
  · have he : exec .fabricResetEnd s = done (State.resumeStartup { s.begin with clk := { s.begin.clk with resetPulse := false } }) := congrArg done (if_pos hpulse)
    obtain ⟨t, ht, hclk, hst, htimes, hframe⟩ := answers_resume he ((Frame.begin s).andClk _) rfl hup
    exact ⟨t, ht, hclk, hst, fun h5 hp n => htimes h5 rfl hp n, hframe⟩

end Sys2Proof.Machine
end

section
/-! PROOFS. The records of a Fixon image (O9, R78, R80). -/
namespace Sys2Proof.Machine
open Sys2Proof
set_option Elab.async false

/-! ### Commands of stage 5 -/

/-- Stage 5 of a start-up that has neither failed nor stopped. -/
structure State.AtFive (s : State) : Prop where
  mgmt : s.clk.mgmtUp = true
  stage : s.get Fld.BOOT_STATUS_STAGE = 5
  starts : s.clk.startFail = false
  runs : s.clk.stopHeld = false

theorem State.AtFive.inStage {s : State} (h : s.AtFive) (f : State → State) : s.begin.inStage 5 f = f s.begin := by
  obtain ⟨hm, hst, hf, hh⟩ := h
  have hst' : s.begin.get Fld.BOOT_STATUS_STAGE = 5 := hst
  rw [State.inStage, hst', State.begin_clk, hm, hf, hh]
  rfl

theorem State.AtFive.fixon {s : State} (h : s.AtFive) {r : FixRec} (hd : s.boot.delay = false) (hr : s.nextRecord = some r) (f : State → State) :
    s.begin.fixon r f = f s.begin := by
  have hr' : s.begin.nextRecord = some r := hr
  rw [State.fixon, h.inStage, hr', State.begin_boot, hd]
  exact if_pos (by simp)

/-- A read of a keeper core latches the high word of a pair at most. -/
theorem State.softRead_keeper (s : State) (c : Core) (a : Nat) : ∃ l, (s.softRead (.keeper c) a).1 = { s with latches := l } := by
  have hpol : (Master.keeper c == Master.policy) = false := rfl
  unfold State.softRead
  simp only [hpol, Bool.false_and, Bool.false_eq_true, if_false]
  split
  · exact ⟨s.latches, rfl⟩
  · split
    · exact ⟨s.latches, rfl⟩
    · exact ⟨_, rfl⟩
    · split
      · exact ⟨_, rfl⟩
      · exact ⟨s.latches, rfl⟩

/-! ### The end of an image, and a failed one (R78, R80) -/

/-- What the end of an image shows. -/
def State.imageShown (s : State) (x : Bool) : State :=
  ((s.put Fld.BOOT_SLOTS_FIXON_SLOT (bit x)).put Fld.BOOT_FIXON_GEN_GENERATION (s.fixSlot x).generation).put Fld.COMB_STATUS_STATE 1

/-- The state after the end of an image, before stage 5 is done. -/
def State.imageEnded (s : State) (x : Bool) : State :=
  { s.imageShown x with boot := { (s.imageShown x).boot with applying := none, poll := none },
                        sec := { (s.imageShown x).sec with fixon := Config.sha384 (((s.imageShown x).fixSlot x).bytes 0 ((s.imageShown x).fixSlot x).imageLen) } }

theorem fixonEnd_effect {s : State} {x : Bool} {i : Nat} (h : s.AtFive) (ha : s.boot.applying = some (x, i)) (hd : s.boot.delay = false) (hr : s.nextRecord = some .fin) :
    exec .fixonEnd s = done ((s.begin.imageEnded x).stageDone 5) := by
  have harm : exec .fixonEnd s = execFixonEnd s := rfl
  have ha' : s.begin.boot.applying = some (x, i) := ha
  rw [harm, execFixonEnd, h.fixon hd hr]
  dsimp only
  rw [ha']
  rfl

/-- The state with a failed record noted (R80). -/
def State.recordFailed (s : State) (x : Bool) (i : Nat) : State :=
  { (if s.boot.errSet then s else s.put Fld.BOOT_FIXON_ERR_RECORD i) with
    boot := { (if s.boot.errSet then s else s.put Fld.BOOT_FIXON_ERR_RECORD i).boot with
      errSet := true, triedA := (if s.boot.errSet then s else s.put Fld.BOOT_FIXON_ERR_RECORD i).boot.triedA || !x,
      triedB := (if s.boot.errSet then s else s.put Fld.BOOT_FIXON_ERR_RECORD i).boot.triedB || x } }

theorem fixonPollTimeout_effect {s : State} {x : Bool} {i : Nat} (h : s.AtFive) (ha : s.boot.applying = some (x, i)) (hp : s.boot.poll.isSome = true) :
    exec .fixonPollTimeout s = done (if (s.begin.recordFailed x i).fullReset.standAt.boot.fwRunning then (s.begin.recordFailed x i).fullReset.standAt
      else (s.begin.recordFailed x i).fullReset.standAt.put (Fld.BOOT_STAGE_T_TIME 1) 0) := by
  have harm : exec .fixonPollTimeout s = execFixonPollTimeout s := rfl
  obtain ⟨p, hp⟩ := Option.isSome_iff_exists.mp hp
  have ha' : s.begin.boot.applying = some (x, i) := ha
  have hp' : s.begin.boot.poll = some p := hp
  rw [harm, execFixonPollTimeout, h.inStage]
  dsimp only
  rw [ha', hp']
  rfl

theorem State.recordFailed_boot (s : State) (x : Bool) (i : Nat) : (s.recordFailed x i).boot.fwRunning = s.boot.fwRunning ∧ (s.recordFailed x i).nv = s.nv ∧
    (s.recordFailed x i).tried x = true := by
  unfold State.recordFailed
  cases s.boot.errSet <;> cases x <;> simp [State.tried]

@[simp] theorem State.fullReset_nv (s : State) : s.fullReset.nv = s.nv := by simp [State.fullReset]
@[simp] theorem State.fullReset_fab (s : State) : s.fullReset.fab = Fabric.reset := by simp [State.fullReset]
@[simp] theorem State.fullReset_held (s : State) : s.fullReset.clk.fabricHeld = true := by simp [State.fullReset]

/-- Fabric reset drops the record under application; what start-up has tried stays (R80). -/
theorem State.fabricReset_boot (s : State) : s.fabricReset.boot = { s.boot with applying := none, poll := none, delay := false, combTrained := false } := by
  unfold State.fabricReset
  simp [State.dropLevels]

theorem State.fullReset_boot (s : State) : s.fullReset.boot = { s.boot with applying := none, poll := none, delay := false, combTrained := false } := s.fabricReset_boot

/-- With an activation pending, start-up stands at stage 4 (R72, R374). -/
theorem State.standAt_of_pending {u : State} (hp : u.nv.fwPending ≠ none) : u.standAt = { ((u.put Fld.BOOT_STATUS_STAGE 4).put Fld.MBX_CORE_STATUS_RUN 1).put Fld.MBX_POLICY_STATE 0 with
    boot := { u.boot with fwRunning := false } } := by
  obtain ⟨v, hv⟩ := Option.ne_none_iff_exists'.mp hp
  unfold State.standAt
  dsimp only
  rw [hv]
  simp

/-- Settles O9. -/
theorem fixonRecords : Obligations.FixonRecords := by
  unfold Obligations.FixonRecords
  intro s x i hm hst hsf hh ha
  have h5 : s.AtFive := ⟨hm, hst, hsf, hh⟩
  refine ⟨fun a l hd hr => ?_, fun a mk v hd hr => ?_, fun a n v hd hr => ?_, fun a mk v tm hd hr => ?_, fun us hd hr => ?_, fun hd => ?_, fun hd hr hheld => ?_,
    fun hp he hfw hpend => ?_, fun hp hpend => ?_⟩
  · exact answers_done (congrArg done (h5.fixon hd hr _)) rfl
  · exact answers_done (congrArg done (h5.fixon hd hr _)) rfl
  · exact answers_done (congrArg done (h5.fixon hd hr _)) rfl
  · obtain ⟨l, hl⟩ := s.begin.softRead_keeper 0 a.toNat
    have hboot : (s.begin.softRead (.keeper 0) a.toNat).1.boot = s.boot := by rw [hl]; rfl
    by_cases heq : BitVec.ofNat 32 (s.begin.softRead (.keeper 0) a.toNat).2 &&& mk = v
    · refine answers_done (congrArg done ((h5.fixon hd hr _).trans (if_pos heq))) ⟨fun _ => ?_, fun hne => absurd heq hne⟩
      rw [State.settle_boot, State.recordDone]
      dsimp only
      rw [fixonMaster, hboot, ha]
      exact ⟨rfl, rfl⟩
    · refine answers_done (congrArg done ((h5.fixon hd hr _).trans (if_neg heq))) ⟨fun h => absurd h heq, fun _ => ?_⟩
      rw [State.settle_boot]
      dsimp only
      rw [fixonMaster, hboot]
      exact ⟨ha, rfl⟩
  · exact answers_done (congrArg done (h5.fixon hd hr _)) ⟨by simp, ((Frame.begin s).andBoot _).settle⟩
  · have hx : (if s.begin.boot.delay then s.begin.recordDone else s.begin) = s.begin.recordDone := if_pos hd
    refine answers_done (congrArg done ((h5.inStage _).trans hx)) ⟨?_, ((Frame.begin s).andBoot _).settle⟩
    simp [State.recordDone, ha]
  · refine answers_done (fixonEnd_effect h5 ha hd hr) ⟨?_, ?_, ?_, ?_, ?_⟩
    · simp [State.stageDone, State.imageEnded, State.imageShown]
    · rw [State.get_settle _ (by decide), State.stageDone, State.get_raise _ (by decide), State.get_put_clear _ _ (by decide), State.get_put_clear _ _ (by decide),
        State.imageEnded, State.get_mk, State.imageShown, State.get_put_clear _ _ (by decide),
        State.get_put_clear _ _ (by decide), State.get_put_lit _ (by decide) (bit_lt_two x)]
    · rw [State.get_settle _ (by decide), State.stageDone, State.get_raise _ (by decide), State.get_put_clear _ _ (by decide), State.get_put_clear _ _ (by decide),
        State.imageEnded, State.get_mk, State.imageShown, State.get_put_clear _ _ (by decide),
        State.get_put_same _ _ _ (by decide)]
      exact congrArg (fun n => (s.fixSlot x).generation % 2 ^ n) (show Fld.BOOT_FIXON_GEN_GENERATION.width = 32 from rfl)
    · rw [State.get_settle _ (by decide), State.stageDone, State.get_raise _ (by decide), State.get_put_clear _ _ (by decide), State.get_put_clear _ _ (by decide),
        State.imageEnded, State.get_mk, State.imageShown, State.get_put_lit _ (by decide) (by decide)]
    · rw [State.get_settle _ (by decide), State.stageDone, State.get_raise _ (by decide), State.get_put_lit _ (by decide) (by decide)]
  · obtain ⟨hfw', hnv, htried⟩ := State.recordFailed_boot s.begin x i
    have hstand := State.standAt_of_running (u := (s.begin.recordFailed x i).fullReset) (by rw [State.fullReset_boot, hfw']; exact hfw) (by rw [State.fullReset_nv, hnv]; exact hpend)
    have hrun : (s.begin.recordFailed x i).fullReset.standAt.boot.fwRunning = true := by rw [hstand, State.put_boot, State.fullReset_boot, hfw']; exact hfw
    have hrec : (s.begin.recordFailed x i).fullReset.get Fld.BOOT_FIXON_ERR_RECORD = i % 2 ^ 32 := by
      have hput : s.begin.recordFailed x i = { s.begin.put Fld.BOOT_FIXON_ERR_RECORD i with boot := (s.begin.recordFailed x i).boot } := by
        simp [State.recordFailed, he]
      have htidy : (s.begin.recordFailed x i).TidyAt Fld.BOOT_FIXON_ERR_RECORD.addr := by
        rw [hput]
        exact State.tidyAt_congr (s := s.begin.put Fld.BOOT_FIXON_ERR_RECORD i) rfl (State.tidyAt_setWord_same _ _ _)
      obtain ⟨-, hget⟩ := ((Keeps.refl (fs := [Fld.BOOT_FIXON_ERR_RECORD]) (s.begin.recordFailed x i)).fullReset_plain (by simpa using ⟨by decide, by decide⟩)) _ (by simp) htidy
      rw [hget, hput, State.get_mk, State.get_put_same _ _ _ (by decide)]
      exact congrArg (fun n => i % 2 ^ n) (show Fld.BOOT_FIXON_ERR_RECORD.width = 32 from rfl)
    refine answers_done ((fixonPollTimeout_effect h5 ha hp).trans (congrArg done (if_pos hrun))) ⟨?_, ?_, ?_, ?_, ?_, ?_⟩ <;> rw [hstand]
    · rw [State.get_settle _ (by decide), State.get_put_clear _ _ (by decide), hrec]
    · rw [State.settle_boot, State.put_boot, State.fullReset_boot]
    · rw [State.settle_clk, State.put_clk, State.fullReset_held]
    · rw [State.settle_fab, State.put_fab, State.fullReset_fab]
    · rw [State.get_settle _ (by decide), State.get_put_lit _ (by decide) (by decide)]
    · rw [State.tried, State.settle_boot, State.put_boot, State.fullReset_boot]
      exact htried
  · obtain ⟨-, hnv, htried⟩ := State.recordFailed_boot s.begin x i
    have hstand := State.standAt_of_pending (u := (s.begin.recordFailed x i).fullReset) (by rw [State.fullReset_nv, hnv]; exact hpend)
    have hrun : (s.begin.recordFailed x i).fullReset.standAt.boot.fwRunning = false := by rw [hstand]
    refine answers_done ((fixonPollTimeout_effect h5 ha hp).trans (congrArg done (if_neg (by rw [hrun]; exact Bool.false_ne_true)))) ⟨?_, ?_, ?_, ?_, ?_⟩ <;> rw [hstand]
    · simp
    · simp
    · simp (disch := decide) only [State.get_settle, State.get_put_clear, State.get_mk, State.get_put_lit]
    · rw [State.tried, State.settle_boot, State.put_boot]
      rw [State.fullReset_boot]
      exact htried
    · rw [State.settle_boot, State.put_boot]

end Sys2Proof.Machine
end

section
/-! PROOFS. Self-tests, provisioning and SPDM of the security island (O49, R396, R398, R405, R406). -/
namespace Sys2Proof.Machine
open Sys2Proof
set_option Elab.async false

/-! ### When the island serves -/

theorem State.secUp_iff {s : State} : s.secUp = true ↔ s.clk.mgmtUp = true ∧ s.clk.mgmtStopped = false ∧ s.get Fld.SEC_STATUS_SELFTEST = 1 := by
  simp [State.secUp, and_assoc]

@[simp] theorem State.secUp_begin (s : State) : s.begin.secUp = s.secUp := by simp [State.secUp]
@[simp] theorem State.hears_begin (s : State) (x : Transport) : s.begin.hears x = s.hears x := by cases x <;> rfl

theorem State.mgmtRuns_iff {s : State} : s.mgmtRuns = true ↔ s.clk.mgmtUp = true ∧ s.clk.mgmtStopped = false := by simp [State.mgmtRuns]

/-! ### Self-tests (R396) -/

/-- The self-tests show as failed. -/
structure State.SelftestFailed (s : State) : Prop where
  result : s.get Fld.SEC_STATUS_SELFTEST = 2
  approved : s.get Fld.SEC_STATUS_APPROVED = 0

namespace State.SelftestFailed
variable {s t : State}

theorem of_word (h : s.SelftestFailed) (hw : t.word Addr.SEC_STATUS = s.word Addr.SEC_STATUS) : t.SelftestFailed :=
  ⟨(congrArg (fun w : Word => bitsOf w.toNat 0 2) hw).trans h.result, (congrArg (fun w : Word => bitsOf w.toNat 2 1) hw).trans h.approved⟩

theorem regs (h : s.SelftestFailed) (hr : t.regs = s.regs) : t.SelftestFailed := h.of_word (State.word_congr hr _)

theorem put (h : s.SelftestFailed) {f : Field} (v : Nat) (hf : f.addr ≠ Addr.SEC_STATUS := by decide) : (s.put f v).SelftestFailed :=
  h.of_word (State.word_put_other _ _ (Ne.symm hf))

theorem sendFault (h : s.SelftestFailed) (m : FaultMsg) (hm : m.source = 7) : (s.sendFault m).SelftestFailed :=
  h.of_word (State.word_sendFault s m (.inr (by rw [hm]; decide)))

theorem stopFollow (h : s.SelftestFailed) : s.stopFollow.SelftestFailed := by
  unfold State.stopFollow
  split
  · rw [State.puts_cons, State.puts_cons, State.puts_cons, State.puts_nil]
    exact (((h.put 0).put 0).put 0).of_word (State.word_raise_other _ (by decide))
  · exact h

/-- The box of an unbind may be any number; its bit BG lies apart from SELFTEST and is written as 0. -/
theorem endBinding (h : s.SelftestFailed) : s.endBinding.SelftestFailed := by
  unfold State.endBinding
  split
  · rename_i k hb
    have hput : (s.put (Fld.MBX_BOX_STATE_BG k) 0).SelftestFailed := by
      refine ⟨?_, ?_⟩
      · rw [State.get_put_apart _ _ (by decide) (.inr (.inl (show 0 + 2 ≤ 2 by decide))), h.result]
      · by_cases hk : Addr.MBX_BOX_STATE k = Addr.SEC_STATUS
        · have hf : Fld.SEC_STATUS_APPROVED = Fld.MBX_BOX_STATE_BG k := by simp only [Fld.SEC_STATUS_APPROVED, Fld.MBX_BOX_STATE_BG, hk]
          rw [hf, State.get_put_lit _ (by simp [Fld.MBX_BOX_STATE_BG]) (by simp [Fld.MBX_BOX_STATE_BG])]
        · rw [State.get_put_apart _ _ (by decide) (.inl (Ne.symm hk)), h.approved]
    exact hput.regs rfl
  · exact h

theorem fabricReset (h : s.SelftestFailed) : s.fabricReset.SelftestFailed := by
  have h' := h.stopFollow.endBinding
  have hregs : s.fabricReset.regs = s.stopFollow.endBinding.regs.filterMap fabricKeeps := rfl
  have htidy : s.stopFollow.endBinding.TidyAt Addr.SEC_STATUS := State.tidyAt_of_get (g := Fld.SEC_STATUS_SELFTEST) (by rw [h'.result]; decide)
  have hkeep : ∀ w : Word, w ≠ resetWord Addr.SEC_STATUS → fabricKeeps (Addr.SEC_STATUS, w) = some (Addr.SEC_STATUS, w) := by
    intro w hw
    have hd : pageDomain (Addr.SEC_STATUS / 0x10000) = .mgmt := by decide
    have hbox : (decide (Addr.SEC_STATUS / 65536 = 6) && decide (0x61100 ≤ Addr.SEC_STATUS) && decide (Addr.SEC_STATUS < 0x61318)) = false := by decide
    have hide : (decide (0x71100 ≤ Addr.SEC_STATUS) && decide (Addr.SEC_STATUS < 0x71200)) = false := by decide
    simp [fabricKeeps, hd, hbox, hide, hw]
  have hsame := assoc_filterMap_fabricKeeps_of_kept s.stopFollow.endBinding.regs hkeep htidy
  exact h'.of_word (by simp only [State.word, sparseGet, hregs, hsame])

theorem stopNow (h : s.SelftestFailed) (cls : Nat) (o : StopOrigin) (m : Option FaultMsg) : (s.stopNow cls o m).SelftestFailed := by
  unfold State.stopNow
  split
  · exact h
  · split
    · exact h.fabricReset.regs rfl
    · have hr : s.sendFailstop.fabricReset.SelftestFailed := (h.regs (State.sendFailstop_regs s)).fabricReset
      dsimp only
      split
      · exact ((hr.put 1).put 0).regs rfl
      · exact hr.regs rfl

end State.SelftestFailed

theorem State.stopHeld_stopNow (s : State) (cls : Nat) (o : StopOrigin) (m : Option FaultMsg) : (s.stopNow cls o m).clk.stopHeld = true := by
  unfold State.stopNow
  split
  · assumption
  · split <;> simp

/-- A failed self-test shows and stops the module. -/
theorem State.secFail_shown (s : State) : s.secFail.SelftestFailed ∧ s.secFail.clk.stopHeld = true := by
  have hput : ((s.put Fld.SEC_STATUS_SELFTEST 2).put Fld.SEC_STATUS_APPROVED 0).SelftestFailed :=
    ⟨by rw [State.get_put_clear _ _ (by decide), State.get_put_lit _ (by decide) (by decide)], by rw [State.get_put_lit _ (by decide) (by decide)]⟩
  have heq : s.secFail = (((s.put Fld.SEC_STATUS_SELFTEST 2).put Fld.SEC_STATUS_APPROVED 0)).fatal
      (((s.put Fld.SEC_STATUS_SELFTEST 2).put Fld.SEC_STATUS_APPROVED 0).message Kind.SEC_SELFTEST 2 0x007 0 8 Party.none none) := by
    rw [State.secFail, State.puts_cons, State.puts_cons, State.puts_nil]
  rw [heq, State.fatal]
  exact ⟨(hput.sendFault _ rfl).stopNow _ _ _, State.stopHeld_stopNow _ _ _ _⟩

/-- What answers with a failed self-test. -/
theorem answers_secFail {c : Instr} {s : State} (he : exec c s = done s.begin.secFail) :
    Answers c s fun t => t.get Fld.SEC_STATUS_SELFTEST = 2 ∧ t.get Fld.SEC_STATUS_APPROVED = 0 ∧ t.clk.stopHeld = true := by
  obtain ⟨⟨h1, h2⟩, h3⟩ := State.secFail_shown s.begin
  refine answers_done he ⟨?_, ?_, ?_⟩
  · rw [State.get_settle _ (by decide), h1]
  · rw [State.get_settle _ (by decide), h2]
  · simpa using h3

/-! ### Provisioning (R398) -/

/-- A provisioning command taken, with its outcome. -/
def State.provTaken (s : State) (ok : Bool) : State :=
  { s.put Fld.SEC_PROV_STATUS_STATE 1 with sec := { (s.put Fld.SEC_PROV_STATUS_STATE 1).sec with prov := some ok } }

/-- What SEC_STATUS shows of the one-time memory. -/
def otpFields (o : Otp) : List (Field × Nat) :=
  [(Fld.SEC_STATUS_LIFECYCLE, 1), (Fld.SEC_STATUS_OWNER_SET, bit (o.oUsable != 0)), (Fld.SEC_STATUS_FIXON_SIG_REQ, bit o.fixonSigReq), (Fld.SEC_STATUS_SVN, o.svn),
    (Fld.SEC_STATUS_Q_USABLE, o.qUsable), (Fld.SEC_STATUS_O_USABLE, o.oUsable)]

/-- The one-time memory o, shown. -/
def State.withOtp (s : State) (o : Otp) : State := State.puts { s with nv := { s.nv with otp := o } } (otpFields o)

theorem otpFields_addr (o : Otp) : ∀ e ∈ otpFields o, e.1.addr = Addr.SEC_STATUS := by simp [otpFields, Fld.SEC_STATUS_LIFECYCLE, Fld.SEC_STATUS_OWNER_SET,
  Fld.SEC_STATUS_FIXON_SIG_REQ, Fld.SEC_STATUS_SVN, Fld.SEC_STATUS_Q_USABLE, Fld.SEC_STATUS_O_USABLE]

theorem Frame.andWithOtp {ps : List Part} {fs : List Field} {s t : State} (h : Frame ps fs s t) (o : Otp) (hp : Part.nv ∈ ps := by simp)
    (hf : Field.all Addr.SEC_STATUS ∈ fs := by simp) : Frame ps fs s (t.withOtp o) := by
  have hw : Frame ps (Fld.SEC_STATUS_LIFECYCLE :: Fld.SEC_STATUS_OWNER_SET :: Fld.SEC_STATUS_FIXON_SIG_REQ :: Fld.SEC_STATUS_SVN :: Fld.SEC_STATUS_Q_USABLE ::
      Fld.SEC_STATUS_O_USABLE :: fs) s (t.withOtp o) := by
    have h' := h.mono (gs := Fld.SEC_STATUS_LIFECYCLE :: Fld.SEC_STATUS_OWNER_SET :: Fld.SEC_STATUS_FIXON_SIG_REQ :: Fld.SEC_STATUS_SVN :: Fld.SEC_STATUS_Q_USABLE ::
      Fld.SEC_STATUS_O_USABLE :: fs) (fun _ h => h) (fun f hf => by simp [hf])
    exact (((((h'.andNv _ hp).andPut _).andPut _).andPut _).andPut _).andPut _ |>.andPut _
  refine hw.widen fun f hff => ?_
  simp only [List.mem_cons] at hff
  rcases hff with rfl | rfl | rfl | rfl | rfl | rfl | hff
  case inr.inr.inr.inr.inr.inr => exact .inl hff
  all_goals exact .inr ⟨hf, by decide⟩

/-- What a provisioning command that may be done leaves (R398). -/
def State.provisioned (s : State) (op slot : Nat) : State :=
  (s.provTaken true).withOtp (s.nv.otp.provision op slot (tabulate 12 fun k => (s.word (Addr.SEC_PROV_DATA k)).toNat))

theorem State.word_provTaken (s : State) (ok : Bool) (k : Nat) : (s.provTaken ok).word (Addr.SEC_PROV_DATA k) = s.word (Addr.SEC_PROV_DATA k) := by
  refine (State.word_congr rfl _).trans (State.word_put_other _ _ ?_)
  simp only [Fld.SEC_PROV_STATUS_STATE, Addr.SEC_PROV_STATUS, Addr.SEC_PROV_DATA]
  omega

section
variable {s : State} {op slot confirm : Nat} (hup : s.secUp = true) (hst : s.get Fld.SEC_PROV_STATUS_STATE ≠ 1) (hop : op ≠ 0)
include hup hst hop

theorem State.writeProv_refused (h : s.nv.otp.refuses op slot confirm = true) : s.writeProv .board op slot confirm = s.provTaken false := by
  simp [State.writeProv, State.provTaken, hup, hst, hop, h]

theorem State.writeProv_done (h : s.nv.otp.refuses op slot confirm = false) : s.writeProv .board op slot confirm = s.provisioned op slot := by
  have hwords : (fun k => (s.word (Addr.SEC_PROV_DATA k)).toNat) = fun k => ((s.provTaken true).word (Addr.SEC_PROV_DATA k)).toNat :=
    funext fun k => by rw [State.word_provTaken]
  rw [State.provisioned, hwords]
  simp [State.writeProv, hup, hst, hop, h]
  rfl

end

theorem State.writeProv_other {s : State} {m : Master} (hm : m ≠ .board) (op slot confirm : Nat) : s.writeProv m op slot confirm = s := by
  simp [State.writeProv, hm]

/-- A provisioning command of the board that may be done. -/
theorem answers_provisioned {c : Instr} {s : State} {op slot confirm : Nat} (he : exec c s = done (s.begin.guard .board 7 fun s => s.writeProv .board op slot confirm))
    (htk : s.takes .board 7 = true) (hup : s.secUp = true) (hst : s.get Fld.SEC_PROV_STATUS_STATE ≠ 1) (hop : op ≠ 0) (h : s.nv.otp.refuses op slot confirm = false) :
    Answers c s fun t => t.get Fld.SEC_PROV_STATUS_STATE = 1 ∧ t.sec.prov = some true ∧
      t.nv = { s.nv with otp := s.nv.otp.provision op slot (tabulate 12 fun k => (s.word (Addr.SEC_PROV_DATA k)).toNat) } ∧
      Frame [.nv, .sec] [Fld.SEC_PROV_STATUS_STATE, Field.all Addr.SEC_STATUS] s t := by
  have hst' : s.begin.get Fld.SEC_PROV_STATUS_STATE ≠ 1 := by simpa using hst
  refine answers_guard he htk (State.writeProv_done (s := s.begin) (by simpa using hup) hst' hop h) (((Frame.begin s).andPut 1).andSec _ |>.andWithOtp _) (by simp [State.provisioned, State.withOtp, State.provTaken]) (by decide)
    fun hfr => ⟨?_, ?_, ?_, hfr⟩
  · rw [State.get_settle _ (by decide), State.provisioned, State.withOtp, State.get_puts_clear _ _ (by rfl), State.get_mk, State.provTaken, State.get_mk, State.get_put_lit _ (by decide) (by decide)]
  · simp [State.provisioned, State.withOtp, State.provTaken]
  · simp [State.provisioned, State.withOtp, State.provTaken]

/-- A provisioning command of the board that is refused. -/
theorem answers_provRefused {c : Instr} {s : State} {op slot confirm : Nat} (he : exec c s = done (s.begin.guard .board 7 fun s => s.writeProv .board op slot confirm))
    (htk : s.takes .board 7 = true) (hup : s.secUp = true) (hst : s.get Fld.SEC_PROV_STATUS_STATE ≠ 1) (hop : op ≠ 0) (h : s.nv.otp.refuses op slot confirm = true) :
    Answers c s fun t => t.get Fld.SEC_PROV_STATUS_STATE = 1 ∧ t.sec.prov = some false ∧ t.nv = s.nv ∧ Frame [.sec] [Fld.SEC_PROV_STATUS_STATE] s t := by
  have hst' : s.begin.get Fld.SEC_PROV_STATUS_STATE ≠ 1 := by simpa using hst
  refine answers_guard he htk (State.writeProv_refused (s := s.begin) (by simpa using hup) hst' hop h) (((Frame.begin s).andPut 1).andSec _) (by simp [State.provTaken]) (by decide)
    fun hfr => ⟨?_, ?_, ?_, hfr⟩
  · rw [State.get_settle _ (by decide), State.provTaken, State.get_mk, State.get_put_lit _ (by decide) (by decide)]
  · simp [State.provTaken]
  · simp [State.provTaken]

/-- A provisioning command of another master. -/
theorem answers_provIgnored {c : Instr} {s : State} {m : Master} {op slot confirm : Nat} (he : exec c s = done (s.begin.guard m 7 fun s => s.writeProv m op slot confirm))
    (htk : s.takes m 7 = true) (hm : m ≠ .board) : Answers c s fun t => Frame [] [] s t :=
  answers_guard he htk (State.writeProv_other hm op slot confirm) (Frame.begin s) rfl (by simp) fun hfr => hfr

/-! ### SPDM (R405, R406) -/

theorem State.spdm_of_heard {s u : State} {x : Transport} {err : Bool} {data : List Nat} {f : State → State × Bool × List Nat} (hup : s.secUp = true) (hh : s.hears x = true)
    (hf : f (s.count (Ctr.SECC x.unit 0)) = (u, err, data)) : s.spdm x f = (if err then u.count (Ctr.SECC x.unit 1) else u).emit (.spdm x err data) := by
  simp [State.spdm, State.whenSec, hup, hh, hf]

/-- What a request on a transport answers. -/
theorem answers_spdm {c : Instr} {s u : State} {x : Transport} {err : Bool} {data : List Nat} {f : State → State × Bool × List Nat} {P : State → Prop}
    (he : exec c s = done (s.begin.spdm x f)) (hup : s.secUp = true) (hh : s.hears x = true) (hf : f (s.begin.count (Ctr.SECC x.unit 0)) = (u, err, data))
    (hp : P ((if err then u.count (Ctr.SECC x.unit 1) else u).emit (.spdm x err data)).settle) : Answers c s P :=
  answers_done (he.trans (congrArg done (State.spdm_of_heard (by simpa using hup) (by simpa using hh) hf))) hp

/-- What an answer puts out and counts, where the request leaves the counters. -/
structure State.Spoken (s t : State) (x : Transport) (err : Bool) (data : List Nat) : Prop where
  out : t.out = [.spdm x err data]
  counted : t.counter (Ctr.SECC x.unit 0) = s.counter (Ctr.SECC x.unit 0) + 1
  errors : err = true → t.counter (Ctr.SECC x.unit 1) = s.counter (Ctr.SECC x.unit 1) + 1

theorem Ctr.SECC_unit_ne (x : Transport) : Ctr.SECC x.unit 0 ≠ Ctr.SECC x.unit 1 := by
  have h : ∀ u < 4, Ctr.SECC u 0 ≠ Ctr.SECC u 1 := by decide
  exact h _ (by cases x <;> simp [Transport.unit])

theorem State.spoken {s u : State} {x : Transport} {err : Bool} {data : List Nat} (ho : u.out = []) (hc : u.ctrs = (s.begin.count (Ctr.SECC x.unit 0)).ctrs) :
    s.Spoken ((if err then u.count (Ctr.SECC x.unit 1) else u).emit (.spdm x err data)).settle x err data := by
  refine ⟨?_, ?_, fun h => ?_⟩
  · cases err <;> simp [ho]
  · rw [State.counter_settle, State.counter_emit]
    cases err
    · rw [if_neg (by decide), State.counter_congr hc, State.counter_count_same, State.counter_begin]
      rfl
    · rw [if_pos rfl, State.counter_count_other _ _ (Ctr.SECC_unit_ne x), State.counter_congr hc, State.counter_count_same, State.counter_begin]
      rfl
  · subst h
    rw [State.counter_settle, State.counter_emit, if_pos rfl, State.counter_count_same, State.counter_congr hc, State.counter_count_other _ _ (Ctr.SECC_unit_ne x).symm, State.counter_begin]
    rfl

theorem Frame.spoken {ps : List Part} {fs : List Field} {s u : State} (h : Frame ps fs s u) (x : Transport) (err : Bool) (data : List Nat)
    (hc : Part.ctrs ∈ ps := by simp) (ho : Part.out ∈ ps := by simp) : Frame ps fs s ((if err then u.count (Ctr.SECC x.unit 1) else u).emit (.spdm x err data)).settle :=
  ((Frame.ite (h.andCount _ _ hc) h).andEmit _ ho).settle

/-- A request that changes no counter and puts nothing out, answered. -/
theorem answers_spoken {c : Instr} {s u : State} {x : Transport} {err : Bool} {data : List Nat} {f : State → State × Bool × List Nat} {P : State → Prop} {ps : List Part}
    {fs : List Field} (he : exec c s = done (s.begin.spdm x f)) (hup : s.secUp = true) (hh : s.hears x = true)
    (hf : f (s.begin.count (Ctr.SECC x.unit 0)) = (u, err, data)) (ho : u.out = []) (hc : u.ctrs = (s.begin.count (Ctr.SECC x.unit 0)).ctrs) (hfr : Frame ps fs s u)
    (hp : ∀ t, s.Spoken t x err data → Frame ps fs s t → t.sec = u.sec → (∀ g : Field, g.addr ≠ 0x40040 → t.get g = u.get g) → P t)
    (hpc : Part.ctrs ∈ ps := by simp) (hpo : Part.out ∈ ps := by simp) : Answers c s P := by
  refine answers_spdm he hup hh hf (hp _ (State.spoken ho hc) (hfr.spoken x err data hpc hpo) ?_ fun g hg => ?_)
  · cases err <;> simp
  · rw [State.get_settle _ hg]
    cases err <;> rfl

/-- Settles O49. -/
theorem islandServices : Obligations.IslandServices := by
  unfold Obligations.IslandServices
  intro s
  refine ⟨fun hrun hst => ?_, fun ok hrun hst => ?_, fun hrun hst => ?_, fun hrun => ?_, fun m slot confirm htk hm hup hst h => ?_, fun m slot confirm htk hm hup hst h => ?_,
    fun m slot confirm htk hm hup hst h => ?_, fun m slot confirm htk hm hup hst h => ?_, fun m confirm htk hm hup hst h => ?_, fun m confirm htk hm hup hst h => ?_,
    fun m slot confirm htk hm => ?_, fun m confirm htk hm => ?_, fun ok hrun hp => ?_, fun x hup hh hl => ?_, fun x hup hh hl => ?_, fun x n hup hh h1 h7 => ?_,
    fun x n hup hh hn => ?_, fun x n hup hh hn => ?_, fun x n hup hh hn => ?_, fun x n hup hh hn => ?_, fun x hup hh => ?_, fun x hup hh => ?_⟩
  · obtain ⟨hup, -⟩ := State.mgmtRuns_iff.mp hrun
    have hst' : s.begin.get Fld.SEC_STATUS_SELFTEST = 0 := by simpa using hst
    refine answers_mgmt (x := ((s.begin.put Fld.SEC_STATUS_SELFTEST 1).put Fld.SEC_STATUS_APPROVED 1).raise Evt.SEC_SELFTEST_DONE) rfl hup (by simp [hst', State.puts_cons])
      ⟨?_, ?_, ?_, ((((Frame.begin s).andPut _).andPut _).andRaise).settle⟩
    · rw [State.get_settle _ (by decide), State.get_raise_clear _ (by decide), State.get_put_clear _ _ (by decide), State.get_put_lit _ (by decide) (by decide)]
    · rw [State.get_settle _ (by decide), State.get_raise_clear _ (by decide), State.get_put_lit _ (by decide) (by decide)]
    · rw [State.get_settle _ (by decide), State.get_raise_mgmt (by simpa using hup) rfl (by decide) (by decide)]
  · obtain ⟨hup, -⟩ := State.mgmtRuns_iff.mp hrun
    exact answers_mgmt rfl hup (by simp [hst]) (Frame.begin s).settle
  · obtain ⟨hup, -⟩ := State.mgmtRuns_iff.mp hrun
    have hst' : s.begin.get Fld.SEC_STATUS_SELFTEST = 0 := by simpa using hst
    have harm : exec (.selftestDone false) s = execSelftestDone false s := rfl
    refine answers_secFail (harm.trans (congrArg done ?_))
    simp [State.whenMgmt, hup, hst']
  · obtain ⟨hup, -⟩ := State.mgmtRuns_iff.mp hrun
    have harm : exec .entropyHealthFail s = execEntropyHealthFail s := rfl
    exact answers_secFail (harm.trans (congrArg done (if_pos hup)))
  · subst hm
    exact answers_provisioned rfl htk hup hst (by decide) h
  · subst hm
    exact answers_provRefused rfl htk hup hst (by decide) h
  · subst hm
    exact answers_provisioned rfl htk hup hst (by decide) h
  · subst hm
    exact answers_provRefused rfl htk hup hst (by decide) h
  · subst hm
    exact answers_provisioned rfl htk hup hst (by decide) h
  · subst hm
    exact answers_provRefused rfl htk hup hst (by decide) h
  · exact answers_provIgnored rfl htk hm
  · exact answers_provIgnored rfl htk hm
  · obtain ⟨hup, -⟩ := State.mgmtRuns_iff.mp hrun
    have hp' : s.begin.sec.prov = some ok := hp
    refine answers_mgmt rfl hup (by rw [hp']) ⟨?_, by simp, ?_, (((Frame.begin s).andPut _).andSec _).andRaise.settle⟩
    · rw [State.get_settle _ (by decide), State.get_raise_clear _ (by decide), State.get_mk, State.get_put_lit _ (by decide) (by cases ok <;> decide)]
    · rw [State.get_settle _ (by decide), State.get_raise_mgmt (by simpa using hup) rfl (by decide) (by decide)]
  · have hl' : ¬ 16 ≤ (s.begin.count (Ctr.SECC x.unit 0)).sec.sessions.length := by simpa using hl
    refine answers_spoken rfl hup hh (if_neg hl') (by simp) (by simp) ((((Frame.begin s).andCount _ _).andPut _).andSec _) fun t hsp hfr hsec hget => ⟨?_, ?_, hsp.out, hsp.counted, hfr⟩
    · rw [hsec]
      simp
    · rw [hget _ (by decide), State.get_mk, State.get_put_same _ _ _ (by decide), List.length_append]
      exact Nat.mod_eq_of_lt (show s.sec.sessions.length + 1 < 32 by omega)
  · have hl' : 16 ≤ (s.begin.count (Ctr.SECC x.unit 0)).sec.sessions.length := by simpa using hl
    obtain ⟨hmgmt, -⟩ := State.secUp_iff.mp hup
    refine answers_spoken rfl hup hh (if_pos hl') (by simp) (by simp) (((Frame.begin s).andCount _ _).andRaise) fun t hsp hfr hsec hget => ⟨?_, hsp.out, ?_, hsp.counted, hfr⟩
    · rw [hsec]
      simp
    · rw [hget _ (by decide), State.get_raise_mgmt (by simpa using hmgmt) rfl (by decide) (by decide)]
  · exact answers_spoken rfl hup hh (if_pos ⟨h1, h7⟩) rfl rfl (((Frame.begin s).andCount _ _).andUsed _) fun t hsp hfr _ _ => ⟨hsp.out, hsp.counted, hfr⟩
  · exact answers_spoken rfl hup hh (if_pos hn) rfl rfl ((Frame.begin s).andCount _ _) fun t hsp hfr _ _ => ⟨hsp.out, hsp.counted, hfr⟩
  · exact answers_spoken rfl hup hh (if_neg hn) rfl rfl ((Frame.begin s).andCount _ _) fun t hsp hfr _ _ => ⟨hsp.out, hsp.counted, hfr⟩
  · exact answers_spoken rfl hup hh (if_neg (by omega)) rfl rfl ((Frame.begin s).andCount _ _) fun t hsp hfr _ _ => ⟨hsp.out, hsp.errors rfl, hfr⟩
  · have hmem : ((s.begin.count (Ctr.SECC x.unit 0)).sec.sessions.any fun y => y.id == n && y.transport == x) = true :=
      List.any_eq_true.mpr ⟨⟨n, x⟩, hn, by simp⟩
    refine answers_spoken rfl hup hh (if_pos hmem) (by simp [State.endSessions]) (by simp [State.endSessions]) (((Frame.begin s).andCount _ _).andSec _ |>.andPut _) fun t hsp hfr hsec hget =>
      ⟨?_, hsp.out, ?_, hfr⟩
    · rw [hsec]
      simp [State.endSessions]
    · rw [hget _ (by decide), hsec, State.endSessions, State.get_put_same _ _ _ (by decide), State.put_sec]
      rfl
  · exact answers_spoken rfl hup hh rfl rfl rfl ((Frame.begin s).andCount _ _) fun t hsp hfr _ _ => ⟨hsp.out, hsp.counted, hfr⟩
  · exact answers_spoken rfl hup hh rfl rfl rfl (((Frame.begin s).andCount _ _).andUsed _) fun t hsp hfr _ _ => ⟨⟨_, hsp.out⟩, hsp.counted, hfr⟩

end Sys2Proof.Machine
end

section
/-! PROOFS. Functions and channels of the data mover (O47, R286, R287, R293, R294, R302). -/
namespace Sys2Proof.Machine
open Sys2Proof
set_option Elab.async false

/-! ### The registers of a channel -/

/-- Two fields of one block of an array that share no bit. -/
theorem Field.clearOf_of_offset {g f : Field} {c k x y : Nat} (hg : g.addr = x + k * c) (hf : f.addr = y + k * c)
    (h : (decide (g.lo + g.width ≤ 32) && (x != y || decide (g.lo + g.width ≤ f.lo) || decide (f.lo + f.width ≤ g.lo))) = true) : g.clearOf f = true := by
  simp only [Bool.and_eq_true, Bool.or_eq_true, decide_eq_true_eq, bne_iff_ne] at h
  refine Field.clearOf_iff.mpr ⟨h.1, ?_⟩
  rcases h.2 with (hxy | hlo) | hhi
  · exact .inl (by omega)
  · exact .inr (.inl hlo)
  · exact .inr (.inr hhi)

/-- A field that fits reads the value it was given. -/
theorem State.get_put_fit (s : State) {f : Field} {v : Nat} (h : f.lo + f.width ≤ 32 ∧ v < 2 ^ f.width) : (s.put f v).get f = v := State.get_put_lit s h.1 h.2

/-- The channels' blocks lie above the events of their page. -/
theorem State.get_raise_chan (s : State) {e : Event} {g : Field} {x c : Nat} (he : e.page = 0x90) (hg : g.addr = x + 64 * c) (hx : 0x902000 ≤ x) (hw : g.lo + g.width ≤ 32) :
    (s.raise e).get g = s.get g :=
  State.get_raise_clear _ (Field.clearOf_of_addr hw (by
    have ha : e.field.addr = 0x900040 := by simp only [Event.field, evtPendAddr, he]
    omega))

theorem State.get_settle_above (s : State) {g : Field} {x c : Nat} (hg : g.addr = x + c) (hx : 0x40040 < x) : s.settle.get g = s.get g :=
  State.get_settle _ (by omega)

/-- The registers of the channels are of no mirrored region. -/
theorem regionOf_chan {a : Nat} (h : 0x900000 ≤ a ∧ a < 0x904000) : regionOf a = none := by
  have hpg : a / 0x10000 = 0x90 := by omega
  simp [regionOf, hpg]
  omega

/-- A page that takes a write is out of reset. -/
theorem State.live_of_takes {s : State} {m : Master} {pg : Nat} (h : s.takes m pg = true) : s.live pg = true := (Bool.and_eq_true_iff.mp h).2

theorem State.live_congr {s t : State} (hc : t.clk = s.clk) (hs : t.hs = s.hs) (pg : Nat) : t.live pg = s.live pg := by simp [State.live, hc, hs]

/-! ### Functions (R286, R287, R294) -/

theorem State.writeVfCfg_enable {s : State} {u w : Nat} (hheld : s.vfHeld u = false) (hen : bitsOf w 0 1 = 1) (hok : s.vfOk u (bitsOf w 1 2) (bitsOf w 4 6) = true) :
    s.writeVfCfg u w = ((s.put (Fld.VF_CFG_EN u) 1).put (Fld.VF_CFG_KIND u) (bitsOf w 1 2)).put (Fld.VF_CFG_VCS u) (bitsOf w 4 6) := by
  simp [State.writeVfCfg, hheld, hen, hok, State.puts_cons]

theorem State.writeVfCfg_ignored {s : State} {u w : Nat} (hheld : s.vfHeld u = false) (hen : bitsOf w 0 1 = 1) (hok : s.vfOk u (bitsOf w 1 2) (bitsOf w 4 6) = false) :
    s.writeVfCfg u w = s.raise Evt.MOVER_CFG_IGNORED := by simp [State.writeVfCfg, hheld, hen, hok]

theorem State.writeVfCfg_held {s : State} {u w : Nat} (hheld : s.vfHeld u = true) : s.writeVfCfg u w = s := by simp [State.writeVfCfg, hheld]

theorem State.stopChannel_of_disabled {s : State} {c : Nat} (h : s.chState c = 0) : s.stopChannel c = s := if_pos h

theorem State.stopChannels_of_disabled {s : State} (l : List Nat) (h : ∀ c ∈ l, s.chState c = 0) : l.foldl State.stopChannel s = s := by
  induction l with
  | nil => rfl
  | cons c l ih =>
    rw [List.foldl_cons, State.stopChannel_of_disabled (h c List.mem_cons_self)]
    exact ih fun x hx => h x (List.mem_cons_of_mem _ hx)

theorem State.vfOn_iff {s : State} {u k : Nat} : s.vfOn u k = true ↔ s.flag (Fld.VF_CFG_EN u) = true ∧ s.get (Fld.VF_CFG_KIND u) = k := by simp [State.vfOn]

/-- What an FLR of a VF changes beside its channels. -/
def Mover.flrTaken (x : Mover) (u : Nat) : Mover :=
  { x with msix := x.msix.filter (fun e => e.1 / 256 != u), pba := x.pba.filter (fun b => b / 64 != u),
           flr := if x.flr.contains u then x.flr else x.flr ++ [u], pasidOn := x.pasidOn.filter fun k => k != u }

theorem Mover.mem_flrTaken (x : Mover) (u : Nat) : u ∈ (x.flrTaken u).flr := by
  unfold Mover.flrTaken
  dsimp only
  split <;> simp_all

theorem State.flrVf_eq {s : State} {u : Nat} (h : s.vfOn u 1 = true) :
    s.flrVf u = (((s.vfChannels u).foldl State.stopChannel s).modMover fun x => x.flrTaken u).endFlr u := by
  obtain ⟨hen, hkind⟩ := State.vfOn_iff.mp h
  rw [State.flrVf, if_pos hen, State.stopVf, if_pos hkind]
  rfl

/-! ### Channels that stop (R294) -/

/-- A channel of a VF that is being reset: stopped, but not yet DISABLED. -/
structure State.ChStops (s : State) (c : Nat) : Prop where
  state : s.chState c ≠ 0
  stopping : c ∈ s.fab.mover.stopping
  idle : s.chRuns c = []
  off : s.get (Fld.CH_CTL_ENABLE c) = 0

/-- What the mover holds once channel c has stopped issuing. -/
def Mover.chStopped (x : Mover) (c : Nat) : Mover :=
  { x with runs := mput [] x.runs c [], stopping := if x.stopping.contains c then x.stopping else x.stopping ++ [c],
           slots := x.slots.map fun e => match e.2.msg.mover with | some (k, _, _) => if k = c then (e.1, { e.2 with stale := true }) else e | none => e }

theorem Mover.mem_chStopped (x : Mover) (c : Nat) : c ∈ (x.chStopped c).stopping := by
  unfold Mover.chStopped
  dsimp only
  split <;> simp_all

theorem Mover.mem_chStopped_of_mem {x : Mover} {k : Nat} (c : Nat) (h : k ∈ x.stopping) : k ∈ (x.chStopped c).stopping := by
  unfold Mover.chStopped
  dsimp only
  split <;> simp_all

/-- The slots of a stopped channel are stale. -/
theorem Mover.stale_chStopped {x : Mover} {c : Nat} {e : Nat × MSlot} (he : e ∈ (x.chStopped c).slots) (hm : (e.2.msg.mover.map fun y => y.1) = some c) : e.2.stale = true := by
  obtain ⟨e', -, rfl⟩ := List.mem_map.mp he
  cases hk : e'.2.msg.mover with
  | none => simp [hk] at hm
  | some y =>
    obtain ⟨k, n, off⟩ := y
    by_cases hkc : k = c
    · simp [hkc]
    · simp [hk, hkc] at hm

theorem State.stopChannel_eq {s : State} {c : Nat} (h : s.chState c ≠ 0) :
    s.stopChannel c = ((s.modMover fun x => x.chStopped c).put (Fld.CH_STATUS_INFLIGHT c) 0).put (Fld.CH_CTL_ENABLE c) 0 := by
  rw [State.stopChannel, if_neg h]
  rfl

/-- A stop leaves what the registers hold but INFLIGHT and ENABLE of its channel. -/
theorem State.get_stopChannel (s : State) (c : Nat) {g : Field} (hs : g.clearOf (Fld.CH_STATUS_INFLIGHT c) = true) (he : g.clearOf (Fld.CH_CTL_ENABLE c) = true) :
    (s.stopChannel c).get g = s.get g := by
  by_cases h : s.chState c = 0
  · rw [State.stopChannel_of_disabled h]
  · rw [State.stopChannel_eq h, State.get_put_clear _ _ he, State.get_put_clear _ _ hs]
    rfl

theorem State.chState_stopChannel (s : State) (c k : Nat) : (s.stopChannel k).chState c = s.chState c := by
  refine State.get_stopChannel s k (Field.clearOf_iff.mpr ⟨show 0 + 2 ≤ 32 by decide, .inr (.inl (show 0 + 2 ≤ 8 by decide))⟩) (Field.clearOf_of_addr (show 0 + 2 ≤ 32 by decide) ?_)
  simp only [Fld.CH_STATUS_STATE, Fld.CH_CTL_ENABLE, Addr.CH_STATUS, Addr.CH_CTL]
  omega

theorem State.chStops_stopChannel {s : State} {c : Nat} (h : s.chState c ≠ 0) : (s.stopChannel c).ChStops c := by
  refine ⟨by rwa [State.chState_stopChannel], ?_, ?_, ?_⟩
  · rw [State.stopChannel_eq h, State.put_fab, State.put_fab]
    exact Mover.mem_chStopped _ _
  · rw [State.stopChannel_eq h, State.chRuns, State.put_fab, State.put_fab]
    exact mget_mput_same [] s.fab.mover.runs c []
  · rw [State.stopChannel_eq h, State.get_put_lit _ (show 0 + 1 ≤ 32 by decide) (show 0 < 2 ^ 1 by decide)]

/-- A channel that stops is still stopping when another one does. -/
theorem State.ChStops.stopChannel {s : State} {c : Nat} (h : s.ChStops c) (k : Nat) : (s.stopChannel k).ChStops c := by
  by_cases hk : k = c
  · subst hk
    exact State.chStops_stopChannel h.state
  by_cases hs : s.chState k = 0
  · rwa [State.stopChannel_of_disabled hs]
  refine ⟨by rw [State.chState_stopChannel]; exact h.state, ?_, ?_, ?_⟩
  · rw [State.stopChannel_eq hs, State.put_fab, State.put_fab]
    exact Mover.mem_chStopped_of_mem _ h.stopping
  · rw [State.stopChannel_eq hs, State.chRuns, State.put_fab, State.put_fab]
    exact (mget_mput_other [] s.fab.mover.runs [] (Ne.symm hk)).trans h.idle
  · rw [State.get_stopChannel, h.off]
    · refine Field.clearOf_of_addr (show 0 + 1 ≤ 32 by decide) ?_
      simp only [Fld.CH_CTL_ENABLE, Fld.CH_STATUS_INFLIGHT, Addr.CH_STATUS, Addr.CH_CTL]
      omega
    · refine Field.clearOf_of_addr (show 0 + 1 ≤ 32 by decide) ?_
      simp only [Fld.CH_CTL_ENABLE, Addr.CH_CTL]
      omega

theorem State.chStops_stopChannels {c : Nat} : ∀ (l : List Nat) (s : State), (s.ChStops c ∨ (c ∈ l ∧ s.chState c ≠ 0)) → (l.foldl State.stopChannel s).ChStops c
  | [], s, h => h.resolve_right (by simp)
  | k :: l, s, h => by
    refine State.chStops_stopChannels l (s.stopChannel k) ?_
    rcases h with h | ⟨hm, hs⟩
    · exact .inl (h.stopChannel k)
    · rcases List.mem_cons.mp hm with rfl | hm
      · exact .inl (State.chStops_stopChannel hs)
      · exact .inr ⟨hm, by rwa [State.chState_stopChannel]⟩

/-- The stops leave the registers above those of the channels. -/
theorem State.get_stopChannels {g : Field} (hg : 0x903000 ≤ g.addr) (hw : g.lo + g.width ≤ 32) :
    ∀ (l : List Nat) (s : State), (∀ c ∈ l, c < 64) → (l.foldl State.stopChannel s).get g = s.get g
  | [], _, _ => rfl
  | k :: l, s, h => by
    have hk : k < 64 := h k List.mem_cons_self
    refine (State.get_stopChannels hg hw l (s.stopChannel k) fun x hx => h x (List.mem_cons_of_mem _ hx)).trans (State.get_stopChannel s k ?_ ?_) <;>
      refine Field.clearOf_of_addr hw ?_
    · simp only [Fld.CH_STATUS_INFLIGHT, Addr.CH_STATUS]
      omega
    · simp only [Fld.CH_CTL_ENABLE, Addr.CH_CTL]
      omega

theorem State.vfChannels_congr {s t : State} {u : Nat} (h1 : t.get (Fld.VF_RES_COUNT u) = s.get (Fld.VF_RES_COUNT u))
    (h2 : t.get (Fld.VF_RES_FIRST u) = s.get (Fld.VF_RES_FIRST u)) : t.vfChannels u = s.vfChannels u := by rw [State.vfChannels, State.vfChannels, h1, h2]

/-- An FLR waits for a channel that is not DISABLED yet. -/
theorem State.endFlr_waits {s : State} {u c : Nat} (hc : c ∈ s.vfChannels u) (h : s.chState c ≠ 0) : s.endFlr u = s := by
  rw [State.endFlr, if_neg]
  intro hall
  obtain ⟨-, hall⟩ := Bool.and_eq_true_iff.mp hall
  exact h (by simpa using List.all_eq_true.mp hall c hc)

theorem State.endFlr_done {s : State} {u : Nat} (hu : u ∈ s.fab.mover.flr) (h : ∀ c ∈ s.vfChannels u, s.chState c = 0) :
    s.endFlr u = (s.modMover fun x => { x with flr := x.flr.filter fun k => k != u }).raise Evt.MOVER_VF_RESET_DONE := by
  refine if_pos ?_
  simp only [Bool.and_eq_true, List.contains_iff_mem, List.all_eq_true, beq_iff_eq]
  exact ⟨hu, h⟩

/-! ### Enabling, resetting and halting a channel (R293) -/

theorem State.writeChannel_keeperOrBoard {s : State} {m : Master} (hm : m.keeperOrBoard = true) (c w : Nat) (v : Word) :
    s.writeChannel m c w v = if w < 3 then s.writeRing m c w v else if w = 3 then s.writeTail c v.toNat else if w = 5 then s.writeChCtl c v.toNat else s := by
  cases m with
  | mover f => cases hm
  | _ => rfl

/-- A channel enabled with an empty ring. -/
def State.chReady (s : State) (c : Nat) : State :=
  ((((s.put (Fld.CH_CTL_ENABLE c) 1).put (Fld.CH_STATUS_STATE c) 1).put (Fld.CH_HEAD_HEAD c) 0).put (Fld.CH_TAIL_TAIL c) 0).put (Fld.CH_STATUS_ERR c) 0

theorem State.enableChannel_eq {s : State} {c v : Nat} (h0 : s.chState c = 0) (hv : s.chanVf c = some v) (hen : s.flag Fld.MOVER_CFG_EN = true) :
    s.enableChannel c = s.chReady c := by simp [State.enableChannel, h0, hv, hen, State.puts_cons, State.chReady]

theorem State.enableChannel_none {s : State} {c : Nat} (hv : s.chanVf c = none) : s.enableChannel c = s := by simp [State.enableChannel, hv]

/-- A halted channel reset. -/
def State.chReset (s : State) (c : Nat) : State :=
  (((((s.setRuns c []).modMover fun x =>
      { x with slots := x.slots.map fun e => match e.2.msg.mover with | some (k, _, _) => if k = c then (e.1, { e.2 with stale := true }) else e | none => e }).put
    (Fld.CH_STATUS_STATE c) 1).put (Fld.CH_STATUS_ERR c) 0).put (Fld.CH_HEAD_HEAD c) 0).put (Fld.CH_TAIL_TAIL c) 0

theorem State.resetChannel_eq {s : State} {c : Nat} (h3 : s.chState c = 3) (hs : c ∉ s.fab.mover.stopping) : s.resetChannel c = s.chReset c := by
  have hs' : s.fab.mover.stopping.contains c = false := by simpa using hs
  simp only [State.resetChannel, h3, hs', State.puts_cons, State.puts_nil]
  rfl

/-- The frame of a whole channel. -/
def chanRegs (c : Nat) : List Field := [Field.all (Addr.CH_STATUS c), Field.all (Addr.CH_CTL c), Field.all (Addr.CH_HEAD c), Field.all (Addr.CH_TAIL c)]

theorem regionOf_chanRegs (c : Chan) : ∀ g ∈ chanRegs c.val, regionOf g.addr = none := by
  intro g hg
  simp only [chanRegs, List.mem_cons, List.not_mem_nil, or_false] at hg
  have hc := c.isLt
  rcases hg with rfl | rfl | rfl | rfl <;> refine regionOf_chan ?_ <;> simp only [Field.all, Addr.CH_STATUS, Addr.CH_CTL, Addr.CH_HEAD, Addr.CH_TAIL] <;> omega

theorem State.bit_or_one (v : Word) : bitsOf (v ||| 1).toNat 0 1 = 1 ∧ (v.getLsbD 1 = false → bitsOf (v ||| 1).toNat 1 1 = 0) := by
  refine ⟨bitsOf_one_of_getLsbD (by simp), fun h => ?_⟩
  rw [bitsOf_one, BitVec.testBit_toNat, BitVec.getLsbD_or, h]
  rfl

theorem State.writeChCtl_enable {s : State} {c : Nat} {v : Word} (h : v.getLsbD 1 = false) : s.writeChCtl c (v ||| 1).toNat = s.enableChannel c := by
  obtain ⟨h0, h1⟩ := State.bit_or_one v
  rw [State.writeChCtl, h0, h1 h]
  rfl

theorem State.writeChCtl_reset {s : State} {c : Nat} (h : s.get (Fld.CH_CTL_ENABLE c) = 1) :
    s.writeChCtl c (BitVec.ofNat 32 (2 + s.get (Fld.CH_CTL_ENABLE c))).toNat = (s.resetChannel c).enableChannel c := by
  rw [h]
  rfl

/-- What a channel with an empty ring reads. -/
structure State.ChEmpty (s : State) (c : Nat) : Prop where
  state : s.chState c = 1
  head : s.chHead c = 0
  tail : s.chTail c = 0
  err : s.get (Fld.CH_STATUS_ERR c) = 0

theorem State.ChEmpty.settle {s : State} {c : Nat} (h : s.ChEmpty c) : s.settle.ChEmpty c := by
  refine ⟨?_, ?_, ?_, ?_⟩
  · exact (State.get_settle_above s rfl (by decide)).trans h.state
  · exact (State.get_settle_above s rfl (by decide)).trans h.head
  · exact (State.get_settle_above s rfl (by decide)).trans h.tail
  · exact (State.get_settle_above s rfl (by decide)).trans h.err

theorem State.chEmpty_chReady (s : State) (c : Nat) : (s.chReady c).ChEmpty c ∧ (s.chReady c).get (Fld.CH_CTL_ENABLE c) = 1 := by
  refine ⟨⟨?_, ?_, ?_, ?_⟩, ?_⟩ <;> simp (disch := first | exact of_decide_eq_true rfl | exact Field.clearOf_of_offset rfl rfl rfl) only [State.chReady, State.chState, State.chHead, State.chTail, State.get_put_clear, State.get_put_fit]

theorem State.chEmpty_chReset (s : State) (c : Nat) : (s.chReset c).ChEmpty c := by
  refine ⟨?_, ?_, ?_, ?_⟩ <;> simp (disch := first | exact of_decide_eq_true rfl | exact Field.clearOf_of_offset rfl rfl rfl) only [State.chReset, State.chState, State.chHead, State.chTail, State.get_put_clear, State.get_put_fit]

theorem Frame.chReady (s : State) (c : Nat) : Frame [] (chanRegs c) s (s.begin.chReady c) := by
  have h : Frame [] [Fld.CH_CTL_ENABLE c, Fld.CH_STATUS_STATE c, Fld.CH_HEAD_HEAD c, Fld.CH_TAIL_TAIL c, Fld.CH_STATUS_ERR c] s (s.begin.chReady c) :=
    (((((Frame.begin s).andPut 1).andPut 1).andPut 0).andPut 0).andPut 0
  exact h.widen (by simp [chanRegs, Fld.CH_CTL_ENABLE, Fld.CH_STATUS_STATE, Fld.CH_HEAD_HEAD, Fld.CH_TAIL_TAIL, Fld.CH_STATUS_ERR])

theorem Frame.chReset (s : State) (c : Nat) : Frame [.fab] (chanRegs c) s (s.begin.chReset c) := by
  have h : Frame [.fab] [Fld.CH_STATUS_INFLIGHT c, Fld.CH_STATUS_STATE c, Fld.CH_STATUS_ERR c, Fld.CH_HEAD_HEAD c, Fld.CH_TAIL_TAIL c] s (s.begin.chReset c) :=
    (((((((Frame.begin s).andModMover _).andPut 0).andModMover _).andPut 1).andPut 0).andPut 0).andPut 0
  exact h.widen (by simp [chanRegs, Fld.CH_STATUS_STATE, Fld.CH_HEAD_HEAD, Fld.CH_TAIL_TAIL, Fld.CH_STATUS_ERR, Fld.CH_STATUS_INFLIGHT])

theorem regionOf_chanField (c : Chan) {a x : Nat} (h : a = x + 64 * c.val) (hx : 0x902000 ≤ x ∧ x < 0x902040) : regionOf a = none :=
  regionOf_chan (by have := c.isLt; omega)

/-- A channel that reaches DISABLED. -/
def State.chDisabled (s : State) (c : Nat) : State :=
  ((s.modMover fun x => { x with stopping := x.stopping.filter fun k => k != c }).put (Fld.CH_STATUS_STATE c) 0).put (Fld.CH_STATUS_ERR c) 0

theorem chDisabled_effect (c : Chan) (s : State) (hs : c.val ∈ s.fab.mover.stopping) :
    ∃ f, exec (.chDisabled c) s = done (s.begin.whenFabric f) ∧ f s.begin = s.fab.mover.flr.foldl State.endFlr (s.begin.chDisabled c.val) := by
  refine ⟨_, rfl, ?_⟩
  have hs' : s.begin.fab.mover.stopping.contains c.val = true := by simpa using hs
  dsimp only
  rw [if_pos hs', State.puts_cons, State.puts_cons, State.puts_nil]
  rfl

theorem State.chDisabled_reads (s : State) (c : Nat) : (s.chDisabled c).chState c = 0 ∧ (s.chDisabled c).get (Fld.CH_STATUS_ERR c) = 0 := by
  refine ⟨?_, ?_⟩ <;> simp (disch := first | exact of_decide_eq_true rfl | exact Field.clearOf_of_offset rfl rfl rfl) only [State.chDisabled, State.chState, State.get_put_clear, State.get_put_fit]

theorem Frame.chDisabled (s : State) (c : Nat) : Frame [.fab] [Fld.CH_STATUS_STATE c, Fld.CH_STATUS_ERR c] s (s.begin.chDisabled c) :=
  (((Frame.begin s).andModMover _).andPut 0).andPut 0

/-- A tail accepted: the channel fetches. -/
theorem State.writeTail_runs {s : State} {c v : Nat} (hs : c ∉ s.fab.mover.stopping) (h1 : s.chState c = 1) (hv : v < 65536) (hsz : v < s.ringSize c)
    (hne : v ≠ s.chHead c) (hp : s.flag (Fld.CH_RING_CFG_PASID_V c) = false) : s.writeTail c v = (s.put (Fld.CH_TAIL_TAIL c) v).put (Fld.CH_STATUS_STATE c) 2 := by
  have hs' : (s.put (Fld.CH_TAIL_TAIL c) v).fab.mover.stopping.contains c = false := by simpa using hs
  have hst : (s.put (Fld.CH_TAIL_TAIL c) v).chState c = 1 := (State.get_put_clear _ _ (Field.clearOf_of_offset rfl rfl rfl)).trans h1
  have hhead : (s.put (Fld.CH_TAIL_TAIL c) v).chHead c = s.chHead c := State.get_put_clear _ _ (Field.clearOf_of_offset rfl rfl rfl)
  have htail : (s.put (Fld.CH_TAIL_TAIL c) v).chTail c = v := State.get_put_lit _ (show 0 + 16 ≤ 32 by decide) hv
  have hsize : (s.put (Fld.CH_TAIL_TAIL c) v).ringSize c = s.ringSize c := by
    rw [State.ringSize, State.ringSize, State.get_put_clear _ _ (Field.clearOf_of_offset rfl rfl rfl)]
  have hpv : ((s.put (Fld.CH_TAIL_TAIL c) v).put (Fld.CH_STATUS_STATE c) 2).flag (Fld.CH_RING_CFG_PASID_V c) = false := by
    rw [State.flag, State.get_put_clear _ _ (Field.clearOf_of_offset rfl rfl rfl), State.get_put_clear _ _ (Field.clearOf_of_offset rfl rfl rfl)]
    exact hp
  have hring : ((s.put (Fld.CH_TAIL_TAIL c) v).put (Fld.CH_STATUS_STATE c) 2).checkRing c = (s.put (Fld.CH_TAIL_TAIL c) v).put (Fld.CH_STATUS_STATE c) 2 := by
    rw [State.checkRing, hpv]
    split <;> rfl
  have hroom : ¬ s.ringSize c ≤ v := by omega
  unfold State.writeTail
  dsimp only
  rw [hst, hs', hsize, htail, hhead, if_neg (by decide), if_neg hroom, if_pos (by simpa using hne), hring]

/-- A tail past the ring halts the channel. -/
theorem State.writeTail_halts {s : State} {c v : Nat} (hs : c ∉ s.fab.mover.stopping) (h1 : s.chState c = 1) (hv : v < 65536) (hsz : s.ringSize c ≤ v) :
    s.writeTail c v = ((((s.put (Fld.CH_TAIL_TAIL c) v).put (Fld.CH_STATUS_STATE c) 3).put (Fld.CH_STATUS_ERR c) 2).raise Evt.MOVER_CH_HALT).count (Ctr.MOVER c 6) := by
  have hs' : (s.put (Fld.CH_TAIL_TAIL c) v).fab.mover.stopping.contains c = false := by simpa using hs
  have hst : (s.put (Fld.CH_TAIL_TAIL c) v).chState c = 1 := (State.get_put_clear _ _ (Field.clearOf_of_offset rfl rfl rfl)).trans h1
  have htail : (s.put (Fld.CH_TAIL_TAIL c) v).chTail c = v := State.get_put_lit _ (show 0 + 16 ≤ 32 by decide) hv
  have hsize : (s.put (Fld.CH_TAIL_TAIL c) v).ringSize c = s.ringSize c := by
    rw [State.ringSize, State.ringSize, State.get_put_clear _ _ (Field.clearOf_of_offset rfl rfl rfl)]
  unfold State.writeTail
  dsimp only
  rw [hst, hs', hsize, htail, if_neg (by decide), if_pos hsz, State.haltChannel, State.puts_cons, State.puts_cons, State.puts_nil]

/-- Settles O47. -/
theorem moverChannels : Obligations.MoverChannels := by
  unfold Obligations.MoverChannels
  intro s
  refine ⟨fun m u value htk hact hheld hen hok => ?_, fun m u value htk hact hheld hen hok => ?_, fun m u value htk hact hheld => ?_, fun u hsv hon hall => ?_,
    fun u c hsv hon hc hst hlt => ?_, fun m c value v hm htk hr h0 hv hen => ?_, fun m c value hm htk hr hv => ?_, fun m c hm htk hst => ?_, fun c hrun hs hflr => ?_,
    fun c u hrun hs hflr hch => ?_, fun m c hm htk h3 hs hen => ?_, fun m c value hm htk hs h1 hlt hsz hne hpv => ?_, fun m c value hm htk hs h1 hlt hsz => ?_⟩
  · have hfx := State.writeVfCfg_enable (s := s.begin) hheld (bitsOf_one_of_getLsbD hen) hok
    have hkind : bitsOf value.toNat 1 2 < 2 ^ 2 := Nat.mod_lt _ (by decide)
    have hvcs : bitsOf value.toNat 4 6 < 2 ^ 6 := Nat.mod_lt _ (by decide)
    have hpage : ∀ g : Field, g.addr = Addr.VF_CFG u.val → g.addr / 0x10000 ≠ 0xA0 ∧ g.addr ≠ 0x40040 := by
      intro g hg
      have := u.isLt
      simp only [hg, Addr.VF_CFG]
      omega
    have hget : ∀ (x : State) (g : Field), g.addr = Addr.VF_CFG u.val → (x.mirror s.begin).settle.get g = x.get g :=
      fun x g hg => State.get_mirror_settle _ _ (hpage g hg).1 (hpage g hg).2
    refine answers_guardMirrored rfl htk hact hfx ((((Frame.begin s).andPut 1).andPut _).andPut _) (by simp) (fun g hg => List.mem_append_right _ hg) fun hfr => ⟨?_, ?_, hfr⟩
    · rw [State.vfOn_iff, State.flag, hget _ _ rfl, hget _ _ rfl]
      refine ⟨?_, ?_⟩
      · simp (disch := first | exact of_decide_eq_true rfl | exact Field.clearOf_of_offset rfl rfl rfl) only [State.get_put_clear, State.get_put_fit]
        rfl
      · rw [State.get_put_clear _ _ (Field.clearOf_of_offset rfl rfl rfl), State.get_put_lit _ (show 1 + 2 ≤ 32 by decide) hkind]
    · rw [hget _ _ rfl, State.get_put_lit _ (show 4 + 6 ≤ 32 by decide) hvcs]
  · have hfx := State.writeVfCfg_ignored (s := s.begin) hheld (bitsOf_one_of_getLsbD hen) hok
    have hlive : s.live 0x90 = true := State.live_of_takes htk
    refine answers_guardMirrored rfl htk hact hfx ((Frame.begin s).andRaise) (by simp) (fun g hg => List.mem_cons_of_mem _ hg) fun hfr => ⟨?_, hfr⟩
    rw [State.get_mirror_settle _ _ (by decide) (by decide), State.get_raise_same hlive (by decide) (by decide)]
  · exact answers_guardMirrored rfl htk hact (State.writeVfCfg_held (s := s.begin) hheld) (Frame.begin s) (fun _ h => h) (fun _ h => h) fun hfr => hfr
  · obtain ⟨hrun, hact⟩ := Bool.and_eq_true_iff.mp hsv
    obtain ⟨hup, hheld, -⟩ := State.fabricRuns_iff.mp hrun
    have hfx : s.begin.flrVf u.val = ((s.begin.modMover fun x => x.flrTaken u.val).modMover fun x => { x with flr := x.flr.filter fun k => k != u.val }).raise Evt.MOVER_VF_RESET_DONE := by
      rw [State.flrVf_eq (s := s.begin) hon, State.stopChannels_of_disabled (s := s.begin) (s.begin.vfChannels u.val) hall]
      exact State.endFlr_done (Mover.mem_flrTaken _ _) hall
    refine answers_active rfl hrun hact hfx (((Frame.begin s).andModMover _).andModMover _).andRaise (by simp) (by decide) fun hfr => ⟨?_, ?_, ?_, hfr⟩
    · rw [State.get_settle _ (by decide)]
      exact State.get_raise_fabric hup hheld rfl (by decide) (by decide)
    · rw [State.settle_fab, State.raise_fab]
      simp [State.modMover, Mover.flrTaken]
    · rw [State.settle_fab, State.raise_fab]
      simp [State.modMover, Mover.flrTaken]
  · obtain ⟨hrun, hact⟩ := Bool.and_eq_true_iff.mp hsv
    have hstops := State.chStops_stopChannels (s.begin.vfChannels u.val) s.begin (.inr ⟨hc, hst⟩)
    have hchans : (((s.begin.vfChannels u.val).foldl State.stopChannel s.begin).modMover fun x => x.flrTaken u.val).vfChannels u.val = s.vfChannels u.val := by
      have hin : ∀ g : Field, g.addr = Addr.VF_RES u.val → 0x903000 ≤ g.addr := fun g hg => by simp only [hg, Addr.VF_RES]; omega
      exact State.vfChannels_congr (State.get_stopChannels (hin _ rfl) (show 8 + 7 ≤ 32 by decide) _ s.begin hlt) (State.get_stopChannels (hin _ rfl) (show 0 + 6 ≤ 32 by decide) _ s.begin hlt)
    have hfx := (State.flrVf_eq (s := s.begin) hon).trans (State.endFlr_waits (c := c) (hchans.symm ▸ hc) hstops.state)
    refine answers_of_eq ((done_whenActive _ hrun hact).trans (congrArg (fun x => Host.Outcome.next (State.mirror x s.begin).settle) hfx)) ⟨?_, ?_, ?_, ?_⟩
    · rw [State.settle_fab, State.mirror_fab_mover]
      exact Mover.mem_flrTaken _ _
    · rw [State.settle_fab, State.mirror_fab_mover]
      exact hstops.stopping
    · rw [State.chRuns, State.settle_fab, State.mirror_fab_mover]
      exact hstops.idle
    · have hpage : (Fld.CH_CTL_ENABLE c).addr / 0x10000 ≠ 0xA0 ∧ (Fld.CH_CTL_ENABLE c).addr ≠ 0x40040 := by
        have := hlt c hc
        simp only [Fld.CH_CTL_ENABLE, Addr.CH_CTL]
        omega
      exact (State.get_mirror_settle _ _ hpage.1 hpage.2).trans hstops.off
  · have hfx : s.begin.writeChannel m c.val 5 (value ||| 1) = s.begin.chReady c.val :=
      (State.writeChannel_keeperOrBoard hm _ _ _).trans ((State.writeChCtl_enable hr).trans (State.enableChannel_eq h0 hv hen))
    obtain ⟨hempty, hon⟩ := State.chEmpty_chReady s.begin c.val
    refine answers_guard (fs := chanRegs c.val) rfl htk hfx (Frame.chReady s c.val) (by simp [State.chReady]) (regionOf_chanRegs c)
      fun hfr => ⟨hempty.settle.state, hempty.settle.head, hempty.settle.tail, hempty.settle.err, ?_, hfr⟩
    rw [State.flag, State.get_settle_above _ rfl (by decide), hon]
    rfl
  · exact answers_guard rfl htk ((State.writeChannel_keeperOrBoard hm _ _ _).trans ((State.writeChCtl_enable hr).trans (State.enableChannel_none hv))) (Frame.begin s) rfl (by simp)
      fun hfr => hfr
  · have hfx : s.begin.writeChannel m c.val 5 0 = ((s.begin.modMover fun x => x.chStopped c.val).put (Fld.CH_STATUS_INFLIGHT c.val) 0).put (Fld.CH_CTL_ENABLE c.val) 0 :=
      (State.writeChannel_keeperOrBoard hm _ _ _).trans (State.stopChannel_eq (s := s.begin) hst)
    have hstops := State.chStops_stopChannel (s := s.begin) hst
    rw [State.stopChannel_eq (s := s.begin) hst] at hstops
    refine answers_guard rfl htk hfx (((Frame.begin s).andModMover _).andPut 0 |>.andPut 0) (by simp) ?_ fun hfr => ⟨?_, ?_, ?_, fun e he hm => ?_, hfr⟩
    · exact List.forall_mem_cons.mpr ⟨regionOf_chanField c rfl (by decide), List.forall_mem_cons.mpr ⟨regionOf_chanField c rfl (by decide), by simp⟩⟩
    · rw [State.settle_fab]
      exact hstops.stopping
    · rw [State.chRuns, State.settle_fab]
      exact hstops.idle
    · rw [State.flag, State.get_settle_above _ rfl (by decide), hstops.off]
      rfl
    · rw [State.settle_fab] at he
      exact Mover.stale_chStopped he hm
  · obtain ⟨f, he, hf⟩ := chDisabled_effect c s hs
    rw [hflr] at hf
    obtain ⟨hst, herr⟩ := State.chDisabled_reads s.begin c.val
    refine answers_fabric he hrun hf (Frame.chDisabled s c.val) (by simp [State.chDisabled]) ?_ fun hfr => ⟨?_, ?_, ?_, hfr⟩
    · exact List.forall_mem_cons.mpr ⟨regionOf_chanField c rfl (by decide), List.forall_mem_cons.mpr ⟨regionOf_chanField c rfl (by decide), by simp⟩⟩
    · exact (State.get_settle_above _ rfl (by decide)).trans hst
    · rw [State.settle_fab]
      simp [State.chDisabled, State.modMover]
    · exact (State.get_settle_above _ rfl (by decide)).trans herr
  · obtain ⟨f, he, hf⟩ := chDisabled_effect c s hs
    rw [hflr] at hf
    obtain ⟨hst, herr⟩ := State.chDisabled_reads s.begin c.val
    have hchans : (s.begin.chDisabled c.val).vfChannels u = [c.val] := by
      have hk := c.isLt
      have hin : ∀ g : Field, g.addr = Addr.VF_RES u → g.lo + g.width ≤ 32 → (s.begin.chDisabled c.val).get g = s.get g := by
        intro g hg hw
        have hne : g.addr ≠ Addr.CH_STATUS c.val := by simp only [hg, Addr.VF_RES, Addr.CH_STATUS]; omega
        rw [State.chDisabled, State.get_put_clear _ _ (Field.clearOf_of_addr hw hne), State.get_put_clear _ _ (Field.clearOf_of_addr hw hne)]
        rfl
      rw [State.vfChannels_congr (hin _ rfl (show 8 + 7 ≤ 32 by decide)) (hin _ rfl (show 0 + 6 ≤ 32 by decide)), hch]
    have hu : u ∈ (s.begin.chDisabled c.val).fab.mover.flr := by simp [State.chDisabled, State.modMover, hflr]
    obtain ⟨hup, hheld, -⟩ := State.fabricRuns_iff.mp hrun
    have hfx := hf.trans (State.endFlr_done hu (by rw [hchans]; simpa using hst))
    refine answers_fabric he hrun hfx (((((Frame.begin s).andModMover _).andPut 0).andPut 0).andModMover _).andRaise (by simp [State.chDisabled]) ?_ fun hfr => ⟨?_, ?_, ?_, hfr⟩
    · exact List.forall_mem_cons.mpr ⟨regionOf_chanField c rfl (by decide), List.forall_mem_cons.mpr ⟨regionOf_chanField c rfl (by decide), by decide⟩⟩
    · exact (State.get_settle_above _ rfl (by decide)).trans ((State.get_raise_chan _ rfl rfl (by decide) (show 0 + 2 ≤ 32 by decide)).trans hst)
    · rw [State.get_settle _ (by decide)]
      exact State.get_raise_fabric (by simpa [State.chDisabled] using hup) (by simpa [State.chDisabled] using hheld) rfl (by decide) (by decide)
    · rw [State.settle_fab, State.raise_fab]
      simp [State.chDisabled, State.modMover, hflr]
  · have hoff : s.begin.get (Fld.CH_CTL_ENABLE c.val) = 1 := by
      have hlt := State.get_lt s (Fld.CH_CTL_ENABLE c.val)
      simpa [State.flag] using hen
    obtain hempty := State.chEmpty_chReset s.begin c.val
    have hfx : s.begin.writeChannel m c.val 5 (BitVec.ofNat 32 (2 + s.begin.get (Fld.CH_CTL_ENABLE c.val))) = s.begin.chReset c.val := by
      refine (State.writeChannel_keeperOrBoard hm _ _ _).trans ((State.writeChCtl_reset hoff).trans ?_)
      rw [State.resetChannel_eq (s := s.begin) h3 hs, State.enableChannel, hempty.state]
      rfl
    refine answers_guard (fs := chanRegs c.val) (ps := [.fab]) rfl htk hfx (Frame.chReset s c.val) (by simp [State.chReset, State.setRuns]) (regionOf_chanRegs c)
      fun hfr => ⟨hempty.settle.state, ?_, hempty.settle.head, hempty.settle.tail, hempty.settle.err, hfr⟩
    rw [State.chRuns, State.settle_fab]
    simp [State.chReset, State.setRuns, State.modMover]
  · have hfx : s.begin.writeChannel m c.val 3 value = (s.begin.put (Fld.CH_TAIL_TAIL c.val) value.toNat).put (Fld.CH_STATUS_STATE c.val) 2 :=
      (State.writeChannel_keeperOrBoard hm _ _ _).trans (State.writeTail_runs (s := s.begin) hs h1 hlt hsz hne hpv)
    refine answers_guard rfl htk hfx ((Frame.begin s).andPut _ |>.andPut 2) (by simp) ?_ fun hfr => ⟨?_, ?_, hfr⟩
    · exact List.forall_mem_cons.mpr ⟨regionOf_chanField c rfl (by decide), List.forall_mem_cons.mpr ⟨regionOf_chanField c rfl (by decide), by simp⟩⟩
    · rw [State.chState, State.get_settle_above _ rfl (by decide), State.get_put_lit _ (show 0 + 2 ≤ 32 by decide) (show 2 < 2 ^ 2 by decide)]
    · rw [State.chTail, State.get_settle_above _ rfl (by decide), State.get_put_clear _ _ (Field.clearOf_of_offset rfl rfl rfl),
        State.get_put_lit _ (show 0 + 16 ≤ 32 by decide) hlt]
  · have hfx := (State.writeChannel_keeperOrBoard hm c.val 3 value).trans (State.writeTail_halts (s := s.begin) hs h1 hlt hsz)
    have hlive : s.live 0x90 = true := State.live_of_takes htk
    refine answers_guard rfl htk hfx (((((Frame.begin s).andPut _).andPut 3).andPut 2).andRaise.andCount _ _) (by simp) ?_ fun hfr => ⟨?_, ?_, ?_, hfr⟩
    · exact List.forall_mem_cons.mpr ⟨regionOf_chanField c rfl (by decide), List.forall_mem_cons.mpr ⟨regionOf_chanField c rfl (by decide),
        List.forall_mem_cons.mpr ⟨regionOf_chanField c rfl (by decide), by decide⟩⟩⟩
    · rw [State.chState, State.get_settle_above _ rfl (by decide), State.get_count, State.get_raise_chan _ rfl rfl (by decide) (show 0 + 2 ≤ 32 by decide),
        State.get_put_clear _ _ (Field.clearOf_of_offset rfl rfl rfl), State.get_put_lit _ (show 0 + 2 ≤ 32 by decide) (show 3 < 2 ^ 2 by decide)]
    · rw [State.get_settle_above _ rfl (by decide), State.get_count, State.get_raise_chan _ rfl rfl (by decide) (show 4 + 4 ≤ 32 by decide),
        State.get_put_lit _ (show 4 + 4 ≤ 32 by decide) (show 2 < 2 ^ 4 by decide)]
    · rw [State.get_settle _ (by decide), State.get_count, State.get_raise_same (by rw [State.live_congr (s := s) (by simp) (by simp)]; exact hlive) (by decide) (by decide)]

end Sys2Proof.Machine
end

section
/-! PROOFS. The registers, events and operations of a lane (R92, R98, R101, R102, R110). -/
namespace Sys2Proof.Machine
open Sys2Proof
set_option Elab.async false

/-! ### Lane pages -/

theorem lanePage_bounds (i : LaneIx) : 0x100 ≤ lanePage i.val ∧ lanePage i.val ≤ 0x208 := by
  have h := i.isLt
  unfold lanePage
  split <;> omega

theorem blockOf_lanePage (i : LaneIx) : blockOf (lanePage i.val) = some (if i.val < 256 then .lane else if i.val < 264 then .tlane else .wlane, lanePage i.val) := by
  obtain ⟨hlo, hhi⟩ := lanePage_bounds i
  have h := i.isLt
  unfold blockOf
  rw [if_neg (by omega)]
  by_cases hm : i.val < 256
  · have hp : lanePage i.val < 0x200 := by simp only [lanePage, if_pos hm]; omega
    rw [if_pos hp, if_pos hm]
  · have hp : lanePage i.val = 0x200 + (i.val - 256) := if_neg hm
    rw [if_neg (by omega), if_neg hm]
    by_cases ht : i.val < 264
    · rw [if_pos (by omega), if_pos ht]
    · rw [if_neg (by omega), if_pos (by omega), if_neg ht]

theorem pageEvtMask_lanePage (i : LaneIx) : pageEvtMask (lanePage i.val) = 0x3F := by
  rw [pageEvtMask, blockOf_lanePage]
  dsimp only
  split
  · rfl
  · split <;> rfl

theorem pageDomain_lanePage (i : LaneIx) : pageDomain (lanePage i.val) = .fabric := by
  rw [pageDomain, blockOf_lanePage]
  dsimp only
  split
  · rfl
  · split <;> rfl

/-- A register of a lane is of no mirrored region. -/
theorem regionOf_lane (i : LaneIx) {a x : Nat} (h : a = lanePage i.val * 0x10000 + x) (hx : x < 0x10000) : regionOf a = none := by
  obtain ⟨hlo, hhi⟩ := lanePage_bounds i
  have hpg : a / 0x10000 = lanePage i.val := by omega
  exact regionOf_page (by rw [hpg]; omega)

/-- Two fields of one page that share no bit. -/
theorem Field.clearOf_of_base {g f : Field} {b x y : Nat} (hg : g.addr = b + x) (hf : f.addr = b + y)
    (h : (decide (g.lo + g.width ≤ 32) && (x != y || decide (g.lo + g.width ≤ f.lo) || decide (f.lo + f.width ≤ g.lo))) = true) : g.clearOf f = true :=
  Field.clearOf_of_offset (c := b) (k := 1) (x := x) (y := y) (by omega) (by omega) h

/-- A value that a field holds as it is. -/
def Field.Fits (f : Field) (v : Nat) : Prop := f.lo + f.width ≤ 32 ∧ v < 2 ^ f.width

theorem Field.fits_of {f : Field} {v : Nat} (h : (decide (f.lo + f.width ≤ 32) && decide (v < 2 ^ f.width)) = true) : f.Fits v := by
  simpa only [Field.Fits, Bool.and_eq_true, decide_eq_true_eq] using h

theorem State.get_put_fits (s : State) {f : Field} {v : Nat} (h : f.Fits v) : (s.put f v).get f = v := State.get_put_lit s h.1 h.2

@[simp] theorem State.get_modLanes (s : State) (f : Lanes → Lanes) (g : Field) : (s.modLanes f).get g = s.get g := rfl

/-- A field of neither word of the pair at a. -/
def Field.Off64 (g : Field) (a : Nat) : Prop := g.addr ≠ a ∧ g.addr ≠ a + 4

theorem Field.off64_of_base {g : Field} {a b x y : Nat} (hg : g.addr = b + x) (ha : a = b + y) (h : (x != y && x != y + 4) = true) : g.Off64 a := by
  simp only [Bool.and_eq_true, bne_iff_ne] at h
  exact ⟨by omega, by omega⟩

theorem State.get_put64_off (s : State) {g : Field} {a : Nat} (v : Nat) (h : g.Off64 a) : (s.put64 a v).get g = s.get g := State.get_put64_other s v h.1 h.2

theorem State.get_settle_lane (s : State) (i : LaneIx) {g : Field} {x : Nat} (hg : g.addr = lanePage i.val * 0x10000 + x) : s.settle.get g = s.get g := by
  obtain ⟨hlo, -⟩ := lanePage_bounds i
  exact State.get_settle _ (by omega)

theorem State.get_mirror_settle_lane (s old : State) (i : LaneIx) {g : Field} {x : Nat} (hg : g.addr = lanePage i.val * 0x10000 + x) (hx : x < 0x10000) :
    (s.mirror old).settle.get g = s.get g := by
  obtain ⟨hlo, -⟩ := lanePage_bounds i
  exact State.get_mirror_settle _ _ (by omega) (by omega)

/-- An event of a lane, raised while FABRIC is out of reset. -/
theorem State.get_raise_lane {s : State} (i : LaneIx) {e : Event} (he : e.page = lanePage i.val) (hl : s.live (lanePage i.val) = true) (hb : e.bit < 6) :
    (s.raise e).get e.field = 1 := by
  refine State.get_raise_same (by rwa [he]) ?_ (by omega)
  rw [he, pageEvtMask_lanePage]
  have h : ∀ b < 6, (0x3F : Nat).testBit b = true := by decide
  exact h _ hb

theorem State.live_lanePage {s : State} (i : LaneIx) (h : s.fabricRuns = true) : s.live (lanePage i.val) = true := State.live_of_fabricRuns h (pageDomain_lanePage i)

/-! ### Register pairs -/

theorem State.get64_put_other (s : State) {a : Nat} {f : Field} (v : Nat) (h : a ≠ f.addr) (h' : a + 4 ≠ f.addr) : (s.put f v).get64 a = s.get64 a := by
  rw [State.get64, State.get64, State.word_put_other _ _ h, State.word_put_other _ _ h']

theorem State.get64_put64_same (s : State) {a v : Nat} (h : v < 2 ^ 64) : (s.put64 a v).get64 a = v := by
  rw [State.get64, State.put64, State.word_setWord_other _ _ (by omega), State.word_setWord_same, State.word_setWord_same, BitVec.toNat_ofNat, BitVec.toNat_ofNat]
  omega

theorem State.word_put64_other (s : State) {a b : Nat} (v : Nat) (h : b ≠ a) (h' : b ≠ a + 4) : (s.put64 a v).word b = s.word b := by
  rw [State.put64, State.word_setWord_other _ _ h', State.word_setWord_other _ _ h]

theorem State.get64_put64_other (s : State) {a b : Nat} (v : Nat) (h : a + 8 ≤ b ∨ b + 8 ≤ a) : (s.put64 b v).get64 a = s.get64 a := by
  rw [State.get64, State.get64, State.word_put64_other _ _ (by omega) (by omega), State.word_put64_other _ _ (by omega) (by omega)]

theorem State.get64_congr {s t : State} (h : t.regs = s.regs) (a : Nat) : t.get64 a = s.get64 a := by rw [State.get64, State.get64, State.word_congr h, State.word_congr h]

/-! ### What a lane's operations leave -/

/-- Eye scans that follow their lane write their state alone. -/
theorem State.suspendEye_cases (s : State) (i : Nat) : s.suspendEye i = s ∨ ∃ v, v < 3 ∧ s.suspendEye i = s.put (Fld.LANE_EYE_STATUS_STATE i) v := by
  unfold State.suspendEye
  dsimp only
  split
  · refine .inr ⟨_, ?_, rfl⟩
    split <;> omega
  · exact .inl rfl

theorem State.get_suspendEye (s : State) (i : Nat) {g : Field} (h : g.clearOf (Fld.LANE_EYE_STATUS_STATE i) = true) : (s.suspendEye i).get g = s.get g := by
  rcases s.suspendEye_cases i with hs | ⟨v, -, hs⟩
  · rw [hs]
  · rw [hs, State.get_put_clear _ _ h]

/-- What a test leaves before it drives its lane: STATE 1, its OP, no lock, and the result registers cleared. -/
def State.testShown (s : State) (i op : Nat) : State :=
  (((((s.put (Fld.LANE_TEST_STATUS_STATE i) 1).put (Fld.LANE_TEST_STATUS_OP i) op).put (Fld.LANE_TEST_STATUS_PRBS_LOCK i) 0).modLanes fun l =>
    { l with tests := assocPut l.tests i op }).put64 (Addr.LANE_PRBS_ERR_LO i) 0).put64 (Addr.LANE_PRBS_BITS_LO i) 0

/-- The operand of LANE_TEST_CTL with its OP. -/
theorem testOperand (x : Nat) {op : Nat} (h : op < 16) :
    (x / 16 * 16 + op) % 16 = op ∧ bitsOf (x / 16 * 16 + op) 4 3 = bitsOf x 4 3 ∧ bitsOf (x / 16 * 16 + op) 8 3 = bitsOf x 8 3 := by
  simp only [bitsOf]
  omega

section
variable {s : State} {i op v : Nat} (h0 : op ≠ 0) (h1 : op < 16)
include h0 h1

theorem State.writeTestCtl_refused {r : Nat} (h : s.testRefusal i op (bitsOf v 4 3) (bitsOf v 8 3) = some r) :
    s.writeTestCtl i (v / 16 * 16 + op) = (s.put (Fld.LANE_TEST_STATUS_STATE i) r).put (Fld.LANE_TEST_STATUS_OP i) op := by
  obtain ⟨hop, hpat, hrate⟩ := testOperand v h1
  unfold State.writeTestCtl
  dsimp only
  rw [hop, hpat, hrate, if_neg h0, h]
  rfl

theorem State.writeTestCtl_taken (h : s.testRefusal i op (bitsOf v 4 3) (bitsOf v 8 3) = none) :
    s.writeTestCtl i (v / 16 * 16 + op) = if op = 2 || op = 3 then
        ((s.testShown i op).put (Fld.LANE_STATUS_RATE i) ((s.testShown i op).testRate i (bitsOf v 8 3))).laneSignal i (op = 2)
      else if op = 1 then (s.testShown i op).laneSignal i false else s.testShown i op := by
  obtain ⟨hop, hpat, hrate⟩ := testOperand v h1
  unfold State.writeTestCtl
  dsimp only
  rw [hop, hpat, hrate, if_neg h0, h]
  rfl

end

/-! ### Registers below the lanes' pages -/

/-- Two states whose registers below the lanes' pages agree, as after an operation on a lane. -/
def State.SameBelow (s t : State) : Prop := ∀ a < 0x1000000, t.word a = s.word a

theorem State.SameBelow.get {s t : State} (h : s.SameBelow t) {g : Field} (hg : g.addr < 0x1000000) : t.get g = s.get g := by rw [State.get, State.get, h _ hg]

theorem State.SameBelow.present {s t : State} (h : s.SameBelow t) {p : Nat} (hp : p < 64) : t.present p = s.present p := by
  have hget := h.get (g := Fld.PORTG_STATUS_PRESENT (p / 4)) (by simp only [Fld.PORTG_STATUS_PRESENT, Addr.PORTG_STATUS]; omega)
  rw [State.present, State.present, hget]

theorem State.SameBelow.portWidth {s t : State} (h : s.SameBelow t) {p : Nat} (hp : p < 64) : t.portWidth p = s.portWidth p := by
  have hget := h.get (g := Fld.PORTG_STATUS_BIFUR_ACT (p / 4)) (by simp only [Fld.PORTG_STATUS_BIFUR_ACT, Addr.PORTG_STATUS]; omega)
  rw [State.portWidth, State.portWidth, hget]

theorem State.SameBelow.portOfLane {s t : State} (h : s.SameBelow t) (i : Nat) : t.portOfLane i = s.portOfLane i := by
  unfold State.portOfLane
  split
  · rfl
  · next hi =>
    have hstep : ∀ j ∈ List.range 4, t.present (4 * (i / 16) + j) = s.present (4 * (i / 16) + j) ∧ t.portWidth (4 * (i / 16) + j) = s.portWidth (4 * (i / 16) + j) := by
      intro j hj
      have hj' : j < 4 := List.mem_range.mp hj
      exact ⟨h.present (by omega), h.portWidth (by omega)⟩
    generalize List.range 4 = l at hstep
    induction l with
    | nil => rfl
    | cons j l ih =>
      obtain ⟨h1, h2⟩ := hstep j List.mem_cons_self
      rw [List.findSome?_cons, List.findSome?_cons, ih fun k hk => hstep k (List.mem_cons_of_mem _ hk)]
      dsimp only
      rw [h1, h2]

/-- The port of a lane is one of 64. -/
theorem State.portOfLane_lt {s : State} {i p : Nat} (h : s.portOfLane i = some p) : p < 64 := by
  unfold State.portOfLane at h
  split at h
  · cases h
  · obtain ⟨j, hj, hp⟩ := List.exists_of_findSome?_eq_some h
    have hj' : j < 4 := List.mem_range.mp hj
    dsimp only at hp
    split at hp
    · cases hp
      omega
    · cases hp

theorem State.SameBelow.testRate {s t : State} (h : s.SameBelow t) (i r : Nat) : t.testRate i r = s.testRate i r := by
  unfold State.testRate
  rw [h.portOfLane i]
  cases hp : s.portOfLane i with
  | none => rfl
  | some p =>
    have hlt := State.portOfLane_lt hp
    have hget := h.get (g := Fld.PORT_CFG_RATE p) (by simp only [Fld.PORT_CFG_RATE, Addr.PORT_CFG]; omega)
    dsimp only
    rw [hget]

theorem State.SameBelow.refl (s : State) : s.SameBelow s := fun _ _ => rfl

theorem State.SameBelow.regs {s t u : State} (h : s.SameBelow t) (hu : u.regs = t.regs) : s.SameBelow u := fun a ha => (State.word_congr hu a).trans (h a ha)

theorem State.SameBelow.modLanes {s t : State} (h : s.SameBelow t) (f : Lanes → Lanes) : s.SameBelow (t.modLanes f) := h

theorem State.SameBelow.put {s t : State} (h : s.SameBelow t) {f : Field} (v : Nat) (hf : 0x1000000 ≤ f.addr) : s.SameBelow (t.put f v) :=
  fun a ha => (State.word_put_other _ _ (by omega)).trans (h a ha)

theorem State.SameBelow.put64 {s t : State} (h : s.SameBelow t) {b : Nat} (v : Nat) (hb : 0x1000000 ≤ b) : s.SameBelow (t.put64 b v) :=
  fun a ha => (State.word_put64_other _ _ (by omega) (by omega)).trans (h a ha)

theorem State.SameBelow.raise {s t : State} (h : s.SameBelow t) {e : Event} (he : 0x100 ≤ e.page) : s.SameBelow (t.raise e) :=
  fun a ha => (State.word_raise_other _ (by simp only [evtPendAddr]; omega)).trans (h a ha)

/-- An address in a lane's page. -/
theorem lane_addr_above (i : LaneIx) {a x : Nat} (h : a = lanePage i.val * 0x10000 + x) : 0x1000000 ≤ a := by
  obtain ⟨hlo, -⟩ := lanePage_bounds i
  omega

theorem State.sameBelow_testShown (s : State) (i : LaneIx) (op : Nat) : s.SameBelow (s.testShown i.val op) :=
  (((((State.SameBelow.refl s).put 1 (lane_addr_above i rfl)).put op (lane_addr_above i rfl)).put 0 (lane_addr_above i rfl)).modLanes _ |>.put64 0 (lane_addr_above i rfl)).put64 0
    (lane_addr_above i rfl)

/-! ### What a test shows -/

/-- What a test that starts shows in its registers. -/
structure State.TestStarted (s : State) (i op : Nat) : Prop where
  runs : s.testOp i = some op
  state : s.get (Fld.LANE_TEST_STATUS_STATE i) = 1
  op : s.get (Fld.LANE_TEST_STATUS_OP i) = op
  errors : s.get64 (Addr.LANE_PRBS_ERR_LO i) = 0

theorem State.testStarted_testShown (s : State) {i op : Nat} (hop : op < 16) : (s.testShown i op).TestStarted i op := by
  refine ⟨?_, ?_, ?_, ?_⟩
  · simp [State.testShown, State.testOp, State.modLanes]
  · simp (disch := first | exact Field.fits_of rfl | exact Field.clearOf_of_base rfl rfl rfl | exact Field.off64_of_base rfl rfl rfl) only [State.testShown, State.get_put64_off, State.get_modLanes, State.get_put_clear, State.get_put_fits]
  · simp (disch := first | exact Field.fits_of rfl | exact Field.clearOf_of_base rfl rfl rfl | exact Field.off64_of_base rfl rfl rfl) only [State.testShown, State.get_put64_off, State.get_modLanes, State.get_put_clear]
    exact State.get_put_lit _ (show 4 + 4 ≤ 32 by decide) hop
  · rw [State.testShown, State.get64_put64_other _ _ (by simp only [Addr.LANE_PRBS_ERR_LO, Addr.LANE_PRBS_BITS_LO]; omega), State.get64_put64_same _ (by decide)]

/-! ### A lane's signal (R92) -/

theorem State.word_suspendEye (s : State) (i : Nat) {a : Nat} (h : a ≠ Addr.LANE_EYE_STATUS i) : (s.suspendEye i).word a = s.word a := by
  rcases s.suspendEye_cases i with hs | ⟨v, -, hs⟩
  · rw [hs]
  · rw [hs, State.word_put_other _ _ h]

theorem State.suspendEye_fab (s : State) (i : Nat) : (s.suspendEye i).fab = s.fab := by
  rcases s.suspendEye_cases i with hs | ⟨v, -, hs⟩ <;> simp [hs]

theorem State.suspendEye_out (s : State) (i : Nat) : (s.suspendEye i).out = s.out := by
  rcases s.suspendEye_cases i with hs | ⟨v, -, hs⟩ <;> simp [hs]

theorem State.laneSignal_eq (s : State) (i : Nat) (on : Bool) :
    s.laneSignal i on = ((s.put (Fld.LANE_STATUS_SIG_DET i) (bit on)).put (Fld.LANE_STATUS_CDR_LOCK i) (bit on)).suspendEye i := rfl

theorem State.laneSignal_fab (s : State) (i : Nat) (on : Bool) : (s.laneSignal i on).fab = s.fab := by simp [State.laneSignal_eq, State.suspendEye_fab]

theorem State.word_laneSignal (s : State) (i : Nat) (on : Bool) {a : Nat} (h : a ≠ Addr.LANE_STATUS i) (h' : a ≠ Addr.LANE_EYE_STATUS i) : (s.laneSignal i on).word a = s.word a := by
  rw [State.laneSignal_eq, State.word_suspendEye _ _ h', State.word_put_other _ _ h, State.word_put_other _ _ h]

theorem State.sigDet_laneSignal (s : State) (i : Nat) (on : Bool) : (s.laneSignal i on).get (Fld.LANE_STATUS_SIG_DET i) = bit on := by
  rw [State.laneSignal_eq, State.get_suspendEye _ _ (Field.clearOf_of_base rfl rfl rfl), State.get_put_clear _ _ (Field.clearOf_of_base rfl rfl rfl)]
  exact State.get_put_lit _ (show 3 + 1 ≤ 32 by decide) (bit_lt_two on)

/-- A field of LANE_STATUS apart from SIG_DET and CDR_LOCK. -/
theorem State.get_laneSignal (s : State) (i : Nat) (on : Bool) {g : Field} (h1 : g.clearOf (Fld.LANE_STATUS_SIG_DET i) = true) (h2 : g.clearOf (Fld.LANE_STATUS_CDR_LOCK i) = true)
    (h3 : g.clearOf (Fld.LANE_EYE_STATUS_STATE i) = true) : (s.laneSignal i on).get g = s.get g := by
  rw [State.laneSignal_eq, State.get_suspendEye _ _ h3, State.get_put_clear _ _ h2, State.get_put_clear _ _ h1]

theorem Frame.andSuspendEye {ps : List Part} {fs : List Field} {s t : State} (h : Frame ps fs s t) (i : Nat) (hf : Fld.LANE_EYE_STATUS_STATE i ∈ fs := by simp) :
    Frame ps fs s (t.suspendEye i) := by
  rcases t.suspendEye_cases i with hs | ⟨v, -, hs⟩
  · rwa [hs]
  · rw [hs]
    exact h.andPut v hf

theorem Frame.andLaneSignal {ps : List Part} {fs : List Field} {s t : State} (h : Frame ps fs s t) (i : Nat) (on : Bool) (h1 : Fld.LANE_STATUS_SIG_DET i ∈ fs := by simp)
    (h2 : Fld.LANE_STATUS_CDR_LOCK i ∈ fs := by simp) (h3 : Fld.LANE_EYE_STATUS_STATE i ∈ fs := by simp) : Frame ps fs s (t.laneSignal i on) :=
  ((h.andPut _ h1).andPut _ h2).andSuspendEye i h3

/-! ### Tests that start (R103, R110) -/

theorem State.TestStarted.of_word {s t : State} {i op : Nat} (h : s.TestStarted i op) (hf : t.fab = s.fab) (ht : t.word (Addr.LANE_TEST_STATUS i) = s.word (Addr.LANE_TEST_STATUS i))
    (hlo : t.word (Addr.LANE_PRBS_ERR_LO i) = s.word (Addr.LANE_PRBS_ERR_LO i)) (hhi : t.word (Addr.LANE_PRBS_ERR_LO i + 4) = s.word (Addr.LANE_PRBS_ERR_LO i + 4)) :
    t.TestStarted i op := by
  refine ⟨by rw [State.testOp, hf]; exact h.runs, ?_, ?_, by rw [State.get64, hlo, hhi]; exact h.errors⟩
  · exact (congrArg (fun w : Word => bitsOf w.toNat 0 4) ht).trans h.state
  · exact (congrArg (fun w : Word => bitsOf w.toNat 4 4) ht).trans h.op

theorem State.TestStarted.laneSignal {s : State} {i op : Nat} (h : s.TestStarted i op) (on : Bool) : (s.laneSignal i on).TestStarted i op := by
  refine h.of_word (State.laneSignal_fab s i on) ?_ ?_ ?_ <;> refine State.word_laneSignal s i on ?_ ?_ <;>
    simp only [Addr.LANE_TEST_STATUS, Addr.LANE_PRBS_ERR_LO, Addr.LANE_STATUS, Addr.LANE_EYE_STATUS] <;> omega

theorem State.TestStarted.putRate {s : State} {i op : Nat} (h : s.TestStarted i op) (v : Nat) : (s.put (Fld.LANE_STATUS_RATE i) v).TestStarted i op := by
  refine h.of_word (State.put_fab _ _ _) ?_ ?_ ?_ <;> refine State.word_put_other _ _ ?_ <;>
    simp only [Addr.LANE_TEST_STATUS, Addr.LANE_PRBS_ERR_LO, Fld.LANE_STATUS_RATE, Addr.LANE_STATUS] <;> omega

theorem State.TestStarted.settle {s : State} {i : LaneIx} {op : Nat} (h : s.TestStarted i.val op) : s.settle.TestStarted i.val op := by
  have hlo := (lanePage_bounds i).1
  refine h.of_word (State.settle_fab s) ?_ ?_ ?_ <;> refine State.word_settle _ ?_ <;> simp only [Addr.LANE_TEST_STATUS, Addr.LANE_PRBS_ERR_LO] <;> omega

/-- The registers of a test's results. -/
def testRegs (i : Nat) : List Field :=
  [Field.all (Addr.LANE_TEST_STATUS i), Field.all (Addr.LANE_PRBS_ERR_LO i), Field.all (Addr.LANE_PRBS_ERR_LO i + 4), Field.all (Addr.LANE_PRBS_BITS_LO i),
    Field.all (Addr.LANE_PRBS_BITS_LO i + 4)]

/-- The fields that show a lane's rate, its signal and the state of its scan. -/
def signalFields (i : Nat) : List Field := [Fld.LANE_STATUS_RATE i, Fld.LANE_STATUS_SIG_DET i, Fld.LANE_STATUS_CDR_LOCK i, Fld.LANE_EYE_STATUS_STATE i]

theorem regionOf_testRegs (i : LaneIx) : ∀ g ∈ testRegs i.val ++ signalFields i.val, regionOf g.addr = none := by
  intro g hg
  simp only [testRegs, signalFields, List.cons_append, List.nil_append, List.mem_cons, List.not_mem_nil, or_false] at hg
  rcases hg with rfl | rfl | rfl | rfl | rfl | rfl | rfl | rfl | rfl
  · exact regionOf_lane i (x := 0x1104) rfl (by decide)
  · exact regionOf_lane i (x := 0x1110) rfl (by decide)
  · exact regionOf_lane i (x := 0x1114) (by simp only [Field.all, Addr.LANE_PRBS_ERR_LO]) (by decide)
  · exact regionOf_lane i (x := 0x1118) rfl (by decide)
  · exact regionOf_lane i (x := 0x111C) (by simp only [Field.all, Addr.LANE_PRBS_BITS_LO]) (by decide)
  · exact regionOf_lane i (x := 0x1000) rfl (by decide)
  · exact regionOf_lane i (x := 0x1000) rfl (by decide)
  · exact regionOf_lane i (x := 0x1000) rfl (by decide)
  · exact regionOf_lane i (x := 0x1208) rfl (by decide)

theorem Frame.testShown (s : State) (i op : Nat) : Frame [.fab] (testRegs i) s (s.begin.testShown i op) := by
  have h : Frame [.fab] ([Fld.LANE_TEST_STATUS_STATE i, Fld.LANE_TEST_STATUS_OP i, Fld.LANE_TEST_STATUS_PRBS_LOCK i] ++ testRegs i) s (s.begin.testShown i op) :=
    ((((((Frame.begin s).andPut 1).andPut op).andPut 0).andModLanes _).andPut64 0 (by simp [testRegs]) (by simp [testRegs])).andPut64 0 (by simp [testRegs]) (by simp [testRegs])
  exact h.widen (by simp [testRegs, Fld.LANE_TEST_STATUS_STATE, Fld.LANE_TEST_STATUS_OP, Fld.LANE_TEST_STATUS_PRBS_LOCK])

/-- A test that is refused shows why. -/
theorem answers_testRefused {c : Instr} {s : State} {m : Master} {i : LaneIx} {value : Word} {op r : Nat}
    (he : exec c s = done (s.begin.guard m (lanePage i.val) fun s => s.writeTestCtl i.val (value.toNat / 16 * 16 + op))) (htk : s.takes m (lanePage i.val) = true)
    (h0 : op ≠ 0) (h1 : op < 16) (h : s.testRefusal i.val op (bitsOf value.toNat 4 3) (bitsOf value.toNat 8 3) = some r) (hr : r < 8) :
    Answers c s fun t => t.get (Fld.LANE_TEST_STATUS_STATE i.val) = r ∧ t.testOp i.val = s.testOp i.val ∧
      Frame [] [Fld.LANE_TEST_STATUS_STATE i.val, Fld.LANE_TEST_STATUS_OP i.val] s t := by
  refine answers_guard he htk (State.writeTestCtl_refused (s := s.begin) h0 h1 h) (((Frame.begin s).andPut r).andPut op) (by simp)
    (List.forall_mem_cons.mpr ⟨regionOf_lane i (x := 0x1104) rfl (by decide), List.forall_mem_cons.mpr ⟨regionOf_lane i (x := 0x1104) rfl (by decide), by simp⟩⟩)
    fun hfr => ⟨?_, ?_, hfr⟩
  · rw [State.get_settle_lane _ i rfl, State.get_put_clear _ _ (Field.clearOf_of_base rfl rfl rfl)]
    exact State.get_put_lit _ (show 0 + 4 ≤ 32 by decide) (show r < 16 by omega)
  · simp [State.testOp]

theorem Frame.andDriven {ps : List Part} {s t : State} {i : Nat} (h : Frame ps (testRegs i) s t) (on : Bool) : Frame ps (testRegs i ++ signalFields i) s (t.laneSignal i on) :=
  Frame.andLaneSignal (h.mono (fun _ h => h) fun _ h => List.mem_append_left _ h) i on (by simp [signalFields]) (by simp [signalFields]) (by simp [signalFields])

theorem Frame.andDrivenRate {ps : List Part} {s t : State} {i : Nat} (h : Frame ps (testRegs i) s t) (r : Nat) (on : Bool) :
    Frame ps (testRegs i ++ signalFields i) s ((t.put (Fld.LANE_STATUS_RATE i) r).laneSignal i on) :=
  Frame.andLaneSignal ((h.mono (gs := testRegs i ++ signalFields i) (fun _ h => h) fun _ h => List.mem_append_left _ h).andPut r (by simp [signalFields])) i on (by simp [signalFields])
    (by simp [signalFields]) (by simp [signalFields])

/-- A test's rate is a rate code. -/
theorem State.testRate_lt (s : State) (i : Nat) {r : Nat} (hr : r < 8) : s.testRate i r < 8 := by
  unfold State.testRate
  split
  · exact hr
  · split
    · split
      · exact State.get_lt s _
      · decide
    · split <;> decide

/-- A PRBS test that starts drives its lane at the rate it runs at. -/
theorem answers_prbsTaken {c : Instr} {s : State} {m : Master} {i : LaneIx} {value : Word} {op : Nat}
    (he : exec c s = done (s.begin.guard m (lanePage i.val) fun s => s.writeTestCtl i.val (value.toNat / 16 * 16 + op))) (htk : s.takes m (lanePage i.val) = true)
    (hop : op = 2 ∨ op = 3) (h : s.testRefusal i.val op (bitsOf value.toNat 4 3) (bitsOf value.toNat 8 3) = none) :
    Answers c s fun t => t.TestStarted i.val op ∧ t.get (Fld.LANE_STATUS_RATE i.val) = s.testRate i.val (bitsOf value.toNat 8 3) ∧
      t.get (Fld.LANE_STATUS_SIG_DET i.val) = bit (op = 2) ∧ Frame [.fab] (testRegs i.val ++ signalFields i.val) s t := by
  have hfx := State.writeTestCtl_taken (s := s.begin) (i := i.val) (by omega) (by omega) h
  have hrate : (s.begin.testShown i.val op).testRate i.val (bitsOf value.toNat 8 3) = s.testRate i.val (bitsOf value.toNat 8 3) :=
    ((State.sameBelow_testShown s.begin i op).testRate _ _).trans ((State.SameBelow.regs (State.SameBelow.refl s) rfl).testRate _ _)
  rw [if_pos (by simpa using hop), hrate] at hfx
  refine answers_guard he htk hfx ((Frame.testShown s i.val op).andDrivenRate _ _) (by simp [State.laneSignal_fab, State.testShown, State.modLanes]) (regionOf_testRegs i) fun hfr => ⟨?_, ?_, ?_, hfr⟩
  · exact (((State.testStarted_testShown s.begin (by omega)).putRate _).laneSignal _).settle
  · rw [State.get_settle_lane _ i rfl, State.get_laneSignal _ _ _ (Field.clearOf_of_base rfl rfl rfl) (Field.clearOf_of_base rfl rfl rfl) (Field.clearOf_of_base rfl rfl rfl)]
    exact State.get_put_lit _ (show 0 + 3 ≤ 32 by decide) (State.testRate_lt s i.val (Nat.mod_lt _ (by decide)))
  · rw [State.get_settle_lane _ i rfl, State.sigDet_laneSignal]

/-! ### Tests that run and end (R103, R104, R110) -/

/-- A test ended with its state shown, before its lane goes idle. -/
def State.testOver (s : State) (i st : Nat) : State :=
  ((s.modLanes fun l => { l with tests := assocDel l.tests i }).put (Fld.LANE_TEST_STATUS_STATE i) st).raise (Evt.LANE_TEST_DONE i)

theorem State.endTest_prbs {s : State} {i op st : Nat} (h : s.testOp i = some op) (hop : op = 2 ∨ op = 3) : s.endTest i st = (s.testOver i st).laneDown i := by
  have hop' : (op == 2 || op == 3) = true := by simpa using hop
  unfold State.endTest
  rw [h]
  exact if_pos (by simpa using hop)

theorem State.endTest_bist {s : State} {i st : Nat} (h : s.testOp i = some 4) : s.endTest i st = s.testOver i st := by
  unfold State.endTest
  rw [h]
  rfl

theorem State.testOver_reads (s : State) (i : LaneIx) {st : Nat} (hst : st < 16) (hl : s.live (lanePage i.val) = true) :
    (s.testOver i.val st).testOp i.val = none ∧ (s.testOver i.val st).get (Fld.LANE_TEST_STATUS_STATE i.val) = st ∧
    (s.testOver i.val st).get (Evt.LANE_TEST_DONE i.val).field = 1 := by
  refine ⟨?_, ?_, ?_⟩
  · simp [State.testOver, State.testOp, State.modLanes]
  · rw [State.testOver, State.get_raise_clear _ (Field.clearOf_of_base rfl rfl rfl)]
    exact State.get_put_lit _ (show 0 + 4 ≤ 32 by decide) hst
  · exact State.get_raise_lane i rfl (by rw [State.live_congr (s := s) (by simp [State.modLanes]) (by simp [State.modLanes])]; exact hl) (show 2 < 6 by decide)

theorem Frame.andTestOver {ps : List Part} {fs : List Field} {s t : State} (h : Frame ps fs s t) (i st : Nat) (hp : Part.fab ∈ ps := by simp)
    (h1 : Fld.LANE_TEST_STATUS_STATE i ∈ fs := by simp) (h2 : (Evt.LANE_TEST_DONE i).field ∈ fs := by simp) : Frame ps fs s (t.testOver i st) :=
  ((h.andModLanes _ hp).andPut st h1).andRaise h2

/-- A scan under way that is aborted. -/
def State.eyeAborted (s : State) (i : Nat) : State := (s.put (Fld.LANE_EYE_STATUS_STATE i) 4).raise (Evt.LANE_EYE_DONE i)

theorem State.abortEye_scanning {s : State} {i : Nat} (h : s.scanning i = true) : s.abortEye i = s.eyeAborted i :=
  if_pos (by simpa [State.scanning] using h)

theorem State.abortEye_idle {s : State} {i : Nat} (h : s.scanning i = false) : s.abortEye i = s := by
  refine if_neg ?_
  simpa [State.scanning] using h

theorem State.abortEye_eq (s : State) (i : Nat) : ∃ r, s.abortEye i = { s with regs := r } := by
  cases h : s.scanning i
  · exact ⟨s.regs, State.abortEye_idle h⟩
  · obtain ⟨r, hr⟩ := (s.put (Fld.LANE_EYE_STATUS_STATE i) 4).raise_eq (Evt.LANE_EYE_DONE i)
    exact ⟨r, (State.abortEye_scanning h).trans hr⟩

theorem State.get_abortEye (s : State) (i : Nat) {g : Field} (h1 : g.clearOf (Fld.LANE_EYE_STATUS_STATE i) = true) (h2 : g.clearOf (Evt.LANE_EYE_DONE i).field = true) :
    (s.abortEye i).get g = s.get g := by
  cases h : s.scanning i
  · rw [State.abortEye_idle h]
  · rw [State.abortEye_scanning h, State.eyeAborted, State.get_raise_clear _ h2, State.get_put_clear _ _ h1]

/-- What a lane that goes idle drops beside its registers. -/
def Lanes.quiet (l : Lanes) (i : Nat) : Lanes :=
  { l with margins := l.margins.filter (fun x => x != i), errs := assocDel l.errs i, margin := assocDel l.margin i, precoding := l.precoding.filter (fun x => x != i) }

/-- A lane's registers before its receiver sees electrical idle. -/
def State.laneQuiet (s : State) (i : Nat) : State :=
  (((s.modLanes fun l => l.quiet i).abortEye i).put (Fld.LANE_STATUS_RATE i) 0).put (Fld.LANE_STATUS_POL_INV i) 0

theorem State.laneDown_eq (s : State) (i : Nat) : s.laneDown i = (s.laneQuiet i).laneSignal i false := rfl

/-- A lane that goes idle keeps what its tests show. -/
theorem State.testOp_laneDown (s : State) (i : Nat) : (s.laneDown i).testOp i = s.testOp i := by
  obtain ⟨r, hr⟩ := State.abortEye_eq (s.modLanes fun l => l.quiet i) i
  rw [State.laneDown_eq, State.testOp, State.laneSignal_fab, State.laneQuiet, hr]
  simp [State.testOp, State.modLanes, Lanes.quiet]

theorem State.get_laneDown (s : State) (i : Nat) {g : Field} (h1 : g.clearOf (Fld.LANE_EYE_STATUS_STATE i) = true) (h2 : g.clearOf (Evt.LANE_EYE_DONE i).field = true)
    (h3 : g.lo + g.width ≤ 32) (h4 : g.addr ≠ Addr.LANE_STATUS i) : (s.laneDown i).get g = s.get g := by
  rw [State.laneDown_eq, State.get_laneSignal _ _ _ (Field.clearOf_of_addr h3 h4) (Field.clearOf_of_addr h3 h4) h1, State.laneQuiet, State.get_put_clear _ _ (Field.clearOf_of_addr h3 h4),
    State.get_put_clear _ _ (Field.clearOf_of_addr h3 h4), State.get_abortEye _ _ h1 h2, State.get_modLanes]

theorem State.addPrbs_of_running {s : State} {i op : Nat} (h : s.testOp i = some op) (hop : op = 2 ∨ op = 3) (x y : Nat) :
    s.addPrbs i x y = (s.put64 (Addr.LANE_PRBS_ERR_LO i) (s.get64 (Addr.LANE_PRBS_ERR_LO i) + x)).put64 (Addr.LANE_PRBS_BITS_LO i) (s.get64 (Addr.LANE_PRBS_BITS_LO i) + y) := by
  rw [State.addPrbs, h]
  exact if_pos (by simpa using hop)

theorem State.addPrbs_idle {s : State} {i : Nat} (h : s.testOp i = none) (x y : Nat) : s.addPrbs i x y = s := by
  rw [State.addPrbs, h]
  rfl

/-- A write of OP 0 ends a PRBS test. -/
theorem State.writeTestCtl_stop {s : State} {i op : Nat} (h : s.testOp i = some op) (hop : op = 2 ∨ op = 3) : s.writeTestCtl i 0 =
    (((s.testOver i (if s.flag (Fld.LANE_TEST_STATUS_PRBS_LOCK i) && s.get64 (Addr.LANE_PRBS_ERR_LO i) == 0 then 2 else 3)).laneDown i).put (Fld.LANE_TEST_STATUS_OP i) 0) := by
  have hc : (s.testOp i == some 2 || s.testOp i == some 3) = true := by simpa [h] using hop
  unfold State.writeTestCtl
  dsimp only
  rw [if_pos (by decide), if_pos hc, State.endTest_prbs h hop]

theorem State.writeTestCtl_idle {s : State} {i : Nat} (h : s.testOp i = none) : s.writeTestCtl i 0 = s := by
  unfold State.writeTestCtl
  dsimp only
  rw [if_pos (by decide), h]
  rfl

/-- The port of a lane trains once none of its lanes is busy. -/
def State.portReady (s : State) (i : Nat) : State :=
  match s.portOfLane i with
  | some p => s.lanesReady p
  | none => s

/-- A BIST over. -/
def State.bistOver (s : State) (i : Nat) (ok : Bool) : State := if ok then s.testOver i 2 else (s.testOver i 3).calFail i

theorem laneBistDone_effect (i : LaneIx) (s : State) (ok : Bool) (h : s.testOp i.val = some 4) :
    ∃ f, exec (.laneBistDone i ok) s = done (s.begin.whenFabric f) ∧ f s.begin = (s.begin.bistOver i.val ok).portReady i.val := by
  refine ⟨_, rfl, ?_⟩
  have h' : s.begin.testOp i.val = some 4 := h
  dsimp only
  rw [if_pos (by rw [h']; rfl), State.endTest_bist h']
  cases ok <;> simp only [State.portReady, State.bistOver, if_true, Bool.false_eq_true, if_false] <;> rfl

/-! ### Eye scans (R100, R101) -/

/-- Clearing result arrays leaves the registers in the lower half of every page. -/
theorem State.word_clearResults (s : State) (e : Nat) {a : Nat} (h : a % 0x10000 < 0x8000) : (s.clearResults e).word a = s.word a := by
  have hp : ∀ n : Nat, (!(decide (0x100 ≤ n) && decide (n ≤ 0x208) && decide (0x8000 ≤ a % 0x10000) && eyeEngine (n - 0x100) == e)) = true := by
    intro n
    have hlow : decide (0x8000 ≤ a % 0x10000) = false := by simpa using h
    simp [hlow]
  have hkept := assoc_filter_key s.regs (fun k => !(decide (0x100 ≤ k / 0x10000) && decide (k / 0x10000 ≤ 0x208) && decide (0x8000 ≤ k % 0x10000) && eyeEngine (k / 0x10000 - 0x100) == e)) (hp _)
  have hregs : (s.clearResults e).regs = s.regs.filter fun r =>
    !(decide (0x100 ≤ r.1 / 0x10000) && decide (r.1 / 0x10000 ≤ 0x208) && decide (0x8000 ≤ r.1 % 0x10000) && eyeEngine (r.1 / 0x10000 - 0x100) == e) := rfl
  simp only [State.word, sparseGet, hregs, hkept]

theorem State.get_clearResults (s : State) (e : Nat) {g : Field} (h : g.addr % 0x10000 < 0x8000) : (s.clearResults e).get g = s.get g := by
  rw [State.get, State.get, State.word_clearResults _ _ h]

/-- A scan started at point 0, before it follows its lane. -/
def State.eyeBegun (s : State) (i : Nat) : State :=
  (((s.clearResults (eyeEngine i)).modLanes fun l => { l with eye := assocPut l.eye (eyeEngine i) i }).put (Fld.LANE_EYE_STATUS_STATE i) 1).put (Fld.LANE_EYE_STATUS_POINTS i) 0

theorem State.writeEyeCmd_start {s : State} {i : Nat} (h : s.eyeRefusal i = none) : s.writeEyeCmd i 1 = (s.eyeBegun i).suspendEye i := by
  unfold State.writeEyeCmd
  dsimp only
  rw [if_neg (by decide), if_pos (by decide), h]
  rfl

theorem State.writeEyeCmd_refused {s : State} {i r : Nat} (h : s.eyeRefusal i = some r) : s.writeEyeCmd i 1 = s.put (Fld.LANE_EYE_STATUS_STATE i) r := by
  unfold State.writeEyeCmd
  dsimp only
  rw [if_neg (by decide), if_pos (by decide), h]

theorem State.writeEyeCmd_stop (s : State) (i : Nat) : s.writeEyeCmd i 2 = s.abortEye i := by
  unfold State.writeEyeCmd
  rw [if_pos (by decide)]

/-- The state of a scan that follows its lane: suspended while the lane is margined or its receiver idles. -/
def State.scanState (s : State) (i : Nat) : Nat := if s.fab.lanes.margins.contains i || !s.flag (Fld.LANE_STATUS_SIG_DET i) then 2 else 1

theorem State.scanState_lt (s : State) (i : Nat) : s.scanState i < 16 := by
  unfold State.scanState
  split <;> decide

theorem State.get_suspendEye_scanning {s : State} {i : Nat} (h : s.scanning i = true) : (s.suspendEye i).get (Fld.LANE_EYE_STATUS_STATE i) = s.scanState i := by
  have hc : s.get (Fld.LANE_EYE_STATUS_STATE i) = 1 ∨ s.get (Fld.LANE_EYE_STATUS_STATE i) = 2 := by simpa [State.scanning] using h
  have heq : s.suspendEye i = s.put (Fld.LANE_EYE_STATUS_STATE i) (s.scanState i) := if_pos hc
  rw [heq]
  exact State.get_put_lit _ (show 0 + 4 ≤ 32 by decide) (State.scanState_lt s i)

/-! ### Points of a scan (R100) -/

/-- A point of a scan stored. -/
def State.pointStored (s : State) (i n errors : Nat) : State :=
  (s.put (Fld.LANE_EYE_RESULT_ERRORS i n) (min (2 ^ 32 - 1) errors)).put (Fld.LANE_EYE_STATUS_POINTS i) (n + 1)

theorem eyePointDone_effect (i : LaneIx) (s : State) (errors : Nat) (h : s.get (Fld.LANE_EYE_STATUS_STATE i.val) = 1) :
    ∃ f, exec (.eyePointDone i errors) s = done (s.begin.whenFabric f) ∧ f s.begin =
      if s.get (Fld.LANE_EYE_STATUS_POINTS i.val) + 1 = 8192 then
        ((s.begin.pointStored i.val (s.get (Fld.LANE_EYE_STATUS_POINTS i.val)) errors).put (Fld.LANE_EYE_STATUS_STATE i.val) 3).raise (Evt.LANE_EYE_DONE i.val)
      else s.begin.pointStored i.val (s.get (Fld.LANE_EYE_STATUS_POINTS i.val)) errors := by
  refine ⟨_, rfl, ?_⟩
  have h' : s.begin.get (Fld.LANE_EYE_STATUS_STATE i.val) = 1 := h
  dsimp only
  rw [h', if_neg (by decide), State.get_begin, State.pointStored]

/-! ### Margining (R99, R101) -/

/-- A margining command on a lane of a link in L0. -/
theorem marginCommand_effect {i : LaneIx} {s : State} {p : Nat} {c : MarginCmd} (hp : s.portOfLane i.val = some p) :
    ∃ f, exec (.marginCommand i c) s = done (s.begin.whenFabric f) ∧ f s.begin =
      if s.get (Fld.PORT_STATUS_LINK p) == 5 && decide (4 ≤ s.laneRate i.val) then s.begin.marginStep i.val c else s.begin := by
  refine ⟨_, rfl, ?_⟩
  have hp' : s.begin.portOfLane i.val = some p := hp
  dsimp only
  rw [hp']
  rfl

/-- A margining step changed, before the scan of the lane follows. -/
def State.marginSet (s : State) (i : Nat) (x : MarginX) : State :=
  s.modLanes fun l => { l with margin := mput MarginX.reset l.margin i x, margins := (l.margins.filter fun j => j != i) ++ if x.step.isSome then [i] else [] }

theorem State.setMargin_eq (s : State) (i : Nat) (x : MarginX) : s.setMargin i x = (s.marginSet i x).suspendEye i := rfl

theorem State.scanState_marginSet (s : State) (i : Nat) (x : MarginX) : (s.marginSet i x).scanState i = if x.step.isSome || !s.flag (Fld.LANE_STATUS_SIG_DET i) then 2 else 1 := by
  have hm : (s.marginSet i x).fab.lanes.margins.contains i = x.step.isSome := by
    cases h : x.step <;> simp [State.marginSet, State.modLanes, h]
  rw [State.scanState, hm]
  rfl

theorem Frame.setMargin (s : State) (i : Nat) (x : MarginX) (y : Output) : Frame [.fab, .out] [Fld.LANE_EYE_STATUS_STATE i] s ((s.begin.setMargin i x).emit y) :=
  (((Frame.begin s).andModLanes _).andSuspendEye i).andEmit y

/-- A running scan that is margined. -/
theorem State.scanning_of_one {s : State} {i : Nat} (h : s.get (Fld.LANE_EYE_STATUS_STATE i) = 1) : s.scanning i = true := by simp [State.scanning, h]

/-- Results added to a PRBS test leave its state and its lock. -/
theorem State.get_addPrbs (s : State) (i x y : Nat) {g : Field} (h1 : g.Off64 (Addr.LANE_PRBS_ERR_LO i)) (h2 : g.Off64 (Addr.LANE_PRBS_BITS_LO i)) : (s.addPrbs i x y).get g = s.get g := by
  unfold State.addPrbs
  split
  · rw [State.get_put64_off _ _ h2, State.get_put64_off _ _ h1]
  · rfl

theorem State.addPrbs_eq (s : State) (i x y : Nat) : ∃ r, s.addPrbs i x y = { s with regs := r } := by
  unfold State.addPrbs
  split
  · obtain ⟨r, hr⟩ := s.put64_eq (Addr.LANE_PRBS_ERR_LO i) (s.get64 (Addr.LANE_PRBS_ERR_LO i) + x)
    obtain ⟨r', hr'⟩ := (s.put64 (Addr.LANE_PRBS_ERR_LO i) (s.get64 (Addr.LANE_PRBS_ERR_LO i) + x)).put64_eq (Addr.LANE_PRBS_BITS_LO i) (s.get64 (Addr.LANE_PRBS_BITS_LO i) + y)
    exact ⟨r', hr'.trans (by rw [hr])⟩
  · exact ⟨s.regs, rfl⟩

theorem State.testOp_addPrbs (s : State) (i x y j : Nat) : (s.addPrbs i x y).testOp j = s.testOp j := by
  obtain ⟨r, hr⟩ := s.addPrbs_eq i x y
  rw [hr]
  rfl

theorem State.live_addPrbs (s : State) (i x y pg : Nat) : (s.addPrbs i x y).live pg = s.live pg := by
  obtain ⟨r, hr⟩ := s.addPrbs_eq i x y
  rw [hr]
  rfl

/-- The error count of a running PRBS test. -/
theorem State.errors_addPrbs {s : State} {i op : Nat} (h : s.testOp i = some op) (hop : op = 2 ∨ op = 3) (x y : Nat) (hx : s.get64 (Addr.LANE_PRBS_ERR_LO i) + x < 2 ^ 64) :
    (s.addPrbs i x y).get64 (Addr.LANE_PRBS_ERR_LO i) = s.get64 (Addr.LANE_PRBS_ERR_LO i) + x := by
  rw [State.addPrbs_of_running h hop, State.get64_put64_other _ _ (by simp only [Addr.LANE_PRBS_ERR_LO, Addr.LANE_PRBS_BITS_LO]; omega), State.get64_put64_same _ hx]

/-- Settles O40. -/
theorem laneTestsAndEyes : Obligations.LaneTestsAndEyes := by
  unfold Obligations.LaneTestsAndEyes
  intro s i
  have hone : ∀ {f : Field} {x : Nat}, f.addr = lanePage i.val * 0x10000 + x → x < 0x10000 → regionOf f.addr = none := fun h hx => regionOf_lane i h hx
  refine ⟨fun m value htk h => ?_, fun m value r htk h hr => answers_testRefused rfl htk (by decide) (by decide) h hr, fun m value htk h => ?_,
    fun m value r htk h hr => answers_testRefused rfl htk (by decide) (by decide) h hr, fun m value htk h => ?_,
    fun m value r htk h hr => answers_testRefused rfl htk (by decide) (by decide) h hr, fun m value htk h => ?_,
    fun m value r htk h hr => answers_testRefused rfl htk (by decide) (by decide) h hr, fun m value htk h => ?_, fun m x y htk hop hx herr => ?_, fun m x y htk h => ?_,
    fun ok hrun h hok hp => ?_, fun hrun h hlt hp => ?_, fun l x y hrun h herr => ?_, fun m htk h => ?_, fun m r htk h hr => ?_, fun m htk h => ?_, fun n hrun h hlt => ?_,
    fun n hrun h hlt => ?_, fun p v h n hrun hp hl hr hn h1 => ?_, fun p v h n hrun hp hl hr hn => ?_, fun p q hrun hp hl hr => ?_, fun p hrun hp hl hr h2 hsig => ?_,
    fun p c hrun hp hl => ?_⟩
  · have hfx := State.writeTestCtl_taken (s := s.begin) (i := i.val) (by decide) (by decide) h
    rw [if_neg (by decide), if_pos rfl] at hfx
    refine answers_guard rfl htk hfx ((Frame.testShown s i.val 1).andDriven false) (by simp [State.laneSignal_fab, State.testShown, State.modLanes]) (regionOf_testRegs i) fun hfr => ?_
    have hst := ((State.testStarted_testShown s.begin (i := i.val) (op := 1) (by decide)).laneSignal false).settle
    exact ⟨hst.runs, hst.state, hst.op, hst.errors, by rw [State.get_settle_lane _ i rfl, State.sigDet_laneSignal]; rfl, hfr⟩
  · obtain ⟨t, ht, hst, hrate, hsig, hfr⟩ := answers_prbsTaken (c := .laneTestPrbsLoop m i value) rfl htk (.inl rfl) h
    exact ⟨t, ht, hst.runs, hst.state, hst.op, hst.errors, hrate, hsig, hfr⟩
  · obtain ⟨t, ht, hst, hrate, hsig, hfr⟩ := answers_prbsTaken (c := .laneTestPrbsExt m i value) rfl htk (.inr rfl) h
    exact ⟨t, ht, hst.runs, hst.state, hst.op, hst.errors, hrate, hsig, hfr⟩
  · have hfx := State.writeTestCtl_taken (s := s.begin) (i := i.val) (by decide) (by decide) h
    rw [if_neg (by decide), if_neg (by decide)] at hfx
    refine answers_guard rfl htk hfx (Frame.testShown s i.val 4) (by simp [State.testShown, State.modLanes]) (fun g hg => regionOf_testRegs i g (List.mem_append_left _ hg)) fun hfr => ?_
    have hst := (State.testStarted_testShown s.begin (i := i.val) (op := 4) (by decide)).settle
    exact ⟨hst.runs, hst.state, hst.op, hst.errors, hfr⟩
  · have hop : max 5 (value.toNat % 16) < 16 := by omega
    have hop4 : 4 < max 5 (value.toNat % 16) := by omega
    have href : s.testRefusal i.val (max 5 (value.toNat % 16)) (bitsOf value.toNat 4 3) (bitsOf value.toNat 8 3) = some 7 := by
      unfold State.testRefusal
      dsimp only
      rw [h, if_neg (by decide), if_pos hop4]
    obtain ⟨t, ht, hst, -, hfr⟩ := answers_testRefused (c := .laneTestInvalid m i value) rfl htk (by omega) hop href (by decide)
    exact ⟨t, ht, hst, hfr⟩
  · subst hx
    obtain ⟨op, hop', hop⟩ : ∃ op, s.testOp i.val = some op ∧ (op = 2 ∨ op = 3) := by
      rcases hop with h | h
      · exact ⟨2, h, .inl rfl⟩
      · exact ⟨3, h, .inr rfl⟩
    have hrun : (s.begin.addPrbs i.val 0 y).testOp i.val = some op := (State.testOp_addPrbs s.begin i.val 0 y i.val).trans hop'
    have herrs : (s.begin.addPrbs i.val 0 y).get64 (Addr.LANE_PRBS_ERR_LO i.val) = 0 :=
      (State.errors_addPrbs (s := s.begin) hop' hop 0 y (by rw [Nat.add_zero]; exact lt_of_eq_of_lt herr (by decide))).trans herr
    have hlock : (s.begin.addPrbs i.val 0 y).flag (Fld.LANE_TEST_STATUS_PRBS_LOCK i.val) = s.flag (Fld.LANE_TEST_STATUS_PRBS_LOCK i.val) := by
      rw [State.flag, State.get_addPrbs _ _ _ _ (Field.off64_of_base rfl rfl rfl) (Field.off64_of_base rfl rfl rfl)]
      rfl
    have hfx := State.writeTestCtl_stop hrun hop
    rw [herrs, hlock, show (s.flag (Fld.LANE_TEST_STATUS_PRBS_LOCK i.val) && (0 : Nat) == 0) = s.flag (Fld.LANE_TEST_STATUS_PRBS_LOCK i.val) from Bool.and_true _] at hfx
    have hlive : (s.begin.addPrbs i.val 0 y).live (lanePage i.val) = true := (State.live_addPrbs s.begin i.val 0 y _).trans (State.live_of_takes htk)
    have hst : (if s.flag (Fld.LANE_TEST_STATUS_PRBS_LOCK i.val) = true then 2 else 3) < 16 := by split <;> decide
    obtain ⟨hnone, hstate, hdone⟩ := State.testOver_reads (s.begin.addPrbs i.val 0 y) i hst hlive
    refine answers_of_eq ((done_guard _ htk).trans (congrArg (fun x => Host.Outcome.next (State.mirror x s.begin).settle) hfx)) ⟨?_, ?_, ?_, ?_, ?_⟩
    · rw [State.testOp, State.settle_fab, State.mirror_fab_lanes, State.put_fab]
      exact (State.testOp_laneDown _ _).trans hnone
    · rw [State.get_mirror_settle_lane _ _ i rfl (by decide), State.get_put_clear _ _ (Field.clearOf_of_base rfl rfl rfl),
        State.get_laneDown _ _ (Field.clearOf_of_base rfl rfl rfl) (Field.clearOf_of_base rfl rfl rfl) (show 0 + 4 ≤ 32 by decide)
        (by simp only [Fld.LANE_TEST_STATUS_STATE, Addr.LANE_TEST_STATUS, Addr.LANE_STATUS]; omega)]
      exact hstate
    · rw [State.get_mirror_settle_lane _ _ i rfl (by decide), State.get_put_fits _ (Field.fits_of rfl)]
    · rw [State.get_mirror_settle_lane _ _ i rfl (by decide), State.get_put_clear _ _ (Field.clearOf_of_base rfl rfl rfl),
        State.get_laneDown _ _ (Field.clearOf_of_base rfl rfl rfl) (Field.clearOf_of_base rfl rfl rfl) (show 2 + 1 ≤ 32 by decide)
        (by simp only [Event.field, Evt.LANE_TEST_DONE, evtPendAddr, Addr.LANE_STATUS]; omega)]
      exact hdone
    · rw [State.get_mirror_settle_lane _ _ i rfl (by decide), State.get_put_clear _ _ (Field.clearOf_of_base rfl rfl rfl), State.laneDown_eq, State.sigDet_laneSignal]
      rfl
  · exact answers_guard rfl htk ((congrArg (fun u => State.writeTestCtl u i.val 0) (State.addPrbs_idle (s := s.begin) h x y)).trans (State.writeTestCtl_idle (s := s.begin) h)) (Frame.begin s) rfl (by simp) fun hfr => hfr
  · subst hok
    obtain ⟨f, he, hf⟩ := laneBistDone_effect i s true h
    have hbelow : s.begin.SameBelow (s.begin.testOver i.val 2) :=
      ((((State.SameBelow.refl s.begin).modLanes _).put 2 (lane_addr_above i rfl)).raise (lanePage_bounds i).1)
    have hready : (s.begin.bistOver i.val true).portReady i.val = s.begin.testOver i.val 2 := by
      have hport : (s.begin.testOver i.val 2).portOfLane i.val = s.portOfLane i.val := hbelow.portOfLane i.val
      rw [State.bistOver, if_pos rfl, State.portReady, hport]
      cases hpl : s.portOfLane i.val with
      | none => rfl
      | some p =>
        have hlt := State.portOfLane_lt hpl
        have hlink : (s.begin.testOver i.val 2).get (Fld.PORT_STATUS_LINK p) = s.get (Fld.PORT_STATUS_LINK p) := hbelow.get (by simp only [Fld.PORT_STATUS_LINK, Addr.PORT_STATUS]; omega)
        have hne : (s.get (Fld.PORT_STATUS_LINK p) == 9) = false := by simpa using hp p hpl
        simp only [State.lanesReady, hlink, hne, Bool.false_and, Bool.false_eq_true, if_false]
    obtain ⟨hnone, hstate, hdone⟩ := State.testOver_reads s.begin i (st := 2) (by decide) (State.live_lanePage i hrun)
    refine answers_fabric he hrun (hf.trans hready) ((Frame.begin s).andTestOver i.val 2) (by simp [State.testOver, State.modLanes])
      (List.forall_mem_cons.mpr ⟨hone (x := 0x1104) rfl (by decide), List.forall_mem_cons.mpr ⟨hone (x := 0x40) rfl (by decide), by simp⟩⟩) fun hfr => ⟨?_, ?_, ?_, ?_, hfr⟩
    · rw [State.testOp, State.settle_fab]
      exact hnone
    · rw [State.get_settle_lane _ i rfl, hstate]
    · rw [State.get_settle_lane _ i rfl, hdone]
    · rw [State.get_settle_lane _ i rfl, State.testOver, State.get_raise_clear _ (Field.clearOf_of_base rfl rfl rfl), State.get_put_clear _ _ (Field.clearOf_of_base rfl rfl rfl)]
      rfl
  · obtain ⟨f, he, hf⟩ := laneBistDone_effect i s false h
    have hbelow : s.begin.SameBelow (s.begin.testOver i.val 3) :=
      ((((State.SameBelow.refl s.begin).modLanes _).put 3 (lane_addr_above i rfl)).raise (lanePage_bounds i).1)
    have hport : (s.begin.testOver i.val 3).portOfLane i.val = none := (hbelow.portOfLane i.val).trans hp
    have hport' : (((s.begin.testOver i.val 3).put (Fld.LANE_STATUS_FAILED i.val) 1).put (Fld.LANE_STATUS_FAIL_CAUSE i.val) 5).portOfLane i.val = none :=
      (((hbelow.put 1 (lane_addr_above i rfl)).put 5 (lane_addr_above i rfl)).portOfLane i.val).trans hp
    have hready : (s.begin.bistOver i.val false).portReady i.val =
        ((s.begin.testOver i.val 3).put (Fld.LANE_STATUS_FAILED i.val) 1).put (Fld.LANE_STATUS_FAIL_CAUSE i.val) 5 := by
      have hfail : (s.begin.testOver i.val 3).calFail i.val = ((s.begin.testOver i.val 3).put (Fld.LANE_STATUS_FAILED i.val) 1).put (Fld.LANE_STATUS_FAIL_CAUSE i.val) 5 := by
        rw [State.calFail, State.puts_cons, State.puts_cons, State.puts_nil]
        dsimp only
        rw [if_pos hlt, hport']
      rw [State.bistOver, if_neg (by decide), hfail, State.portReady, hport']
    obtain ⟨hnone, hstate, hdone⟩ := State.testOver_reads s.begin i (st := 3) (by decide) (State.live_lanePage i hrun)
    refine answers_fabric he hrun (hf.trans hready) (((Frame.begin s).andTestOver i.val 3).andPut 1 |>.andPut 5) (by simp [State.testOver, State.modLanes])
      (List.forall_mem_cons.mpr ⟨hone (x := 0x1104) rfl (by decide), List.forall_mem_cons.mpr ⟨hone (x := 0x40) rfl (by decide),
        List.forall_mem_cons.mpr ⟨hone (x := 0x1000) rfl (by decide), List.forall_mem_cons.mpr ⟨hone (x := 0x1000) rfl (by decide), by simp⟩⟩⟩⟩) fun hfr => ⟨?_, ?_, ?_, ?_, hfr⟩
    · rw [State.testOp, State.settle_fab, State.put_fab, State.put_fab]
      exact hnone
    · rw [State.get_settle_lane _ i rfl, State.get_put_clear _ _ (Field.clearOf_of_base rfl rfl rfl), State.get_put_clear _ _ (Field.clearOf_of_base rfl rfl rfl), hstate]
    · rw [State.get_settle_lane _ i rfl, State.get_put_clear _ _ (Field.clearOf_of_base rfl rfl rfl), State.get_put_fits _ (Field.fits_of rfl)]
    · rw [State.get_settle_lane _ i rfl, State.get_put_fits _ (Field.fits_of rfl)]
  · have hrunning : (s.begin.addPrbs i.val x y).testOp i.val = some 2 := (State.testOp_addPrbs s.begin i.val x y i.val).trans h
    have hfx : (if (s.begin.addPrbs i.val x y).testOp i.val == some 2 || (s.begin.addPrbs i.val x y).testOp i.val == some 3 then
        (s.begin.addPrbs i.val x y).putFlag (Fld.LANE_TEST_STATUS_PRBS_LOCK i.val) l else s.begin.addPrbs i.val x y) =
        (s.begin.addPrbs i.val x y).putFlag (Fld.LANE_TEST_STATUS_PRBS_LOCK i.val) l := by
      rw [hrunning]
      rfl
    have hframe : Frame [] (testRegs i.val) s ((s.begin.addPrbs i.val x y).putFlag (Fld.LANE_TEST_STATUS_PRBS_LOCK i.val) l) := by
      rw [State.addPrbs_of_running (s := s.begin) h (.inl rfl)]
      have hfine : Frame [] (Fld.LANE_TEST_STATUS_PRBS_LOCK i.val :: testRegs i.val) s (((s.begin.put64 (Addr.LANE_PRBS_ERR_LO i.val) (s.begin.get64 (Addr.LANE_PRBS_ERR_LO i.val) + x)).put64
          (Addr.LANE_PRBS_BITS_LO i.val) (s.begin.get64 (Addr.LANE_PRBS_BITS_LO i.val) + y)).putFlag (Fld.LANE_TEST_STATUS_PRBS_LOCK i.val) l) :=
        (((Frame.begin s).andPut64 _ (by simp [testRegs]) (by simp [testRegs])).andPut64 _ (by simp [testRegs]) (by simp [testRegs])).andPutFlag l
      exact hfine.widen (by simp [testRegs, Fld.LANE_TEST_STATUS_PRBS_LOCK])
    refine answers_fabric rfl hrun hfx hframe (hframe.home_dir (by simp)) (fun g hg => regionOf_testRegs i g (List.mem_append_left _ hg)) fun hfr => ⟨?_, ?_, hfr⟩
    · rw [State.flag, State.get_settle_lane _ i rfl, State.putFlag]
      have hget := State.get_put_lit (s.begin.addPrbs i.val x y) (f := Fld.LANE_TEST_STATUS_PRBS_LOCK i.val) (show 8 + 1 ≤ 32 by decide) (bit_lt_two l)
      rw [hget]
      cases l <;> rfl
    · rw [State.get64, State.word_settle _ (by have := (lanePage_bounds i).1; simp only [Addr.LANE_PRBS_ERR_LO]; omega),
        State.word_settle _ (by have := (lanePage_bounds i).1; simp only [Addr.LANE_PRBS_ERR_LO]; omega), ← State.get64, State.putFlag,
        State.get64_put_other _ _ (by simp only [Addr.LANE_PRBS_ERR_LO, Fld.LANE_TEST_STATUS_PRBS_LOCK, Addr.LANE_TEST_STATUS]; omega)
          (by simp only [Addr.LANE_PRBS_ERR_LO, Fld.LANE_TEST_STATUS_PRBS_LOCK, Addr.LANE_TEST_STATUS]; omega)]
      exact State.errors_addPrbs (s := s.begin) h (.inl rfl) x y herr
  · have hfx := State.writeEyeCmd_start (s := s.begin) h
    have hscan : (s.begin.eyeBegun i.val).scanning i.val = true := by
      refine State.scanning_of_one ?_
      rw [State.eyeBegun, State.get_put_clear _ _ (Field.clearOf_of_base rfl rfl rfl), State.get_put_fits _ (Field.fits_of rfl)]
    have hsig : (s.begin.eyeBegun i.val).flag (Fld.LANE_STATUS_SIG_DET i.val) = s.flag (Fld.LANE_STATUS_SIG_DET i.val) := by
      rw [State.flag, State.eyeBegun, State.get_put_clear _ _ (Field.clearOf_of_base rfl rfl rfl), State.get_put_clear _ _ (Field.clearOf_of_base rfl rfl rfl), State.get_modLanes,
        State.get_clearResults _ _ (by simp only [Fld.LANE_STATUS_SIG_DET, Addr.LANE_STATUS]; omega)]
      rfl
    have hmargins : (s.begin.eyeBegun i.val).fab.lanes.margins = s.fab.lanes.margins := by simp [State.eyeBegun, State.modLanes, State.clearResults]
    refine answers_of_eq ((done_guard _ htk).trans (congrArg (fun x => Host.Outcome.next (State.mirror x s.begin).settle) hfx)) ⟨?_, ?_, ?_⟩
    · rw [State.get_mirror_settle_lane _ _ i rfl (by decide), State.get_suspendEye_scanning hscan, State.scanState, hmargins, hsig]
    · rw [State.get_mirror_settle_lane _ _ i rfl (by decide), State.get_suspendEye _ _ (Field.clearOf_of_base rfl rfl rfl), State.eyeBegun, State.get_put_fits _ (Field.fits_of rfl)]
    · rw [State.settle_fab, State.mirror_fab_lanes, State.suspendEye_fab]
      simp [State.eyeBegun, State.modLanes]
  · refine answers_guard rfl htk (State.writeEyeCmd_refused (s := s.begin) h) ((Frame.begin s).andPut r) (by simp)
      (List.forall_mem_cons.mpr ⟨hone (x := 0x1208) rfl (by decide), by simp⟩) fun hfr => ⟨?_, hfr⟩
    rw [State.get_settle_lane _ i rfl]
    exact State.get_put_lit _ (show 0 + 4 ≤ 32 by decide) (show r < 16 by omega)
  · have hlive := State.live_of_takes htk
    refine answers_guard rfl htk ((State.writeEyeCmd_stop s.begin i.val).trans (State.abortEye_scanning (s := s.begin) h)) (((Frame.begin s).andPut 4).andRaise) (by simp [State.eyeAborted])
      (List.forall_mem_cons.mpr ⟨hone (x := 0x1208) rfl (by decide), List.forall_mem_cons.mpr ⟨hone (x := 0x40) rfl (by decide), by simp⟩⟩) fun hfr => ⟨?_, ?_, hfr⟩
    · rw [State.get_settle_lane _ i rfl, State.eyeAborted, State.get_raise_clear _ (Field.clearOf_of_base rfl rfl rfl), State.get_put_fits _ (Field.fits_of rfl)]
    · rw [State.get_settle_lane _ i rfl, State.eyeAborted, State.get_raise_lane i rfl ((State.live_congr (by simp) (by simp) _).trans hlive) (show 3 < 6 by decide)]
  · obtain ⟨f, he, hf⟩ := eyePointDone_effect i s n h
    rw [if_neg (by omega)] at hf
    have hpts : (Fld.LANE_EYE_STATUS_POINTS i.val).lo + (Fld.LANE_EYE_STATUS_POINTS i.val).width ≤ 32 := show 16 + 14 ≤ 32 by decide
    refine answers_fabric he hrun hf (((Frame.begin s).andPut _).andPut _) (by simp [State.pointStored]) (List.forall_mem_cons.mpr ⟨?_, List.forall_mem_cons.mpr ⟨hone (x := 0x1208) rfl (by decide), by simp⟩⟩)
      fun hfr => ⟨?_, ?_, ?_, hfr⟩
    · exact hone (x := 0x8000 + 4 * s.get (Fld.LANE_EYE_STATUS_POINTS i.val)) (by simp only [Fld.LANE_EYE_RESULT_ERRORS, Addr.LANE_EYE_RESULT]; omega) (by omega)
    · rw [State.get_settle_lane _ i rfl, State.pointStored]
      exact State.get_put_lit _ hpts (show s.get (Fld.LANE_EYE_STATUS_POINTS i.val) + 1 < 2 ^ 14 by omega)
    · rw [State.get_settle_lane _ i (x := 0x8000 + 4 * s.get (Fld.LANE_EYE_STATUS_POINTS i.val)) (by simp only [Fld.LANE_EYE_RESULT_ERRORS, Addr.LANE_EYE_RESULT]; omega), State.pointStored,
        State.get_put_clear _ _ (Field.clearOf_of_addr (show 0 + 32 ≤ 32 by decide) (by
          simp only [Fld.LANE_EYE_RESULT_ERRORS, Addr.LANE_EYE_RESULT, Fld.LANE_EYE_STATUS_POINTS, Addr.LANE_EYE_STATUS]; omega))]
      exact State.get_put_lit _ (show 0 + 32 ≤ 32 by decide) (show min (2 ^ 32 - 1) n < 2 ^ 32 by omega)
    · rw [State.get_settle_lane _ i rfl, State.pointStored, State.get_put_clear _ _ (Field.clearOf_of_base rfl rfl rfl), State.get_put_clear _ _ (Field.clearOf_of_addr (show 0 + 4 ≤ 32 by decide) (by
        simp only [Fld.LANE_EYE_RESULT_ERRORS, Addr.LANE_EYE_RESULT, Fld.LANE_EYE_STATUS_STATE, Addr.LANE_EYE_STATUS]; omega))]
      exact h
  · obtain ⟨f, he, hf⟩ := eyePointDone_effect i s n h
    rw [if_pos (by omega)] at hf
    refine answers_fabric he hrun hf ((((Frame.begin s).andPut _).andPut _).andPut 3).andRaise (by simp [State.pointStored])
      (List.forall_mem_cons.mpr ⟨?_, List.forall_mem_cons.mpr ⟨hone (x := 0x1208) rfl (by decide), List.forall_mem_cons.mpr ⟨hone (x := 0x1208) rfl (by decide),
        List.forall_mem_cons.mpr ⟨hone (x := 0x40) rfl (by decide), by simp⟩⟩⟩⟩) fun hfr => ⟨?_, ?_, ?_, hfr⟩
    · exact hone (x := 0x8000 + 4 * s.get (Fld.LANE_EYE_STATUS_POINTS i.val)) (by simp only [Fld.LANE_EYE_RESULT_ERRORS, Addr.LANE_EYE_RESULT]; omega) (by omega)
    · rw [State.get_settle_lane _ i rfl, State.get_raise_clear _ (Field.clearOf_of_base rfl rfl rfl), State.get_put_clear _ _ (Field.clearOf_of_base rfl rfl rfl), State.pointStored, hlt]
      exact State.get_put_lit _ (show 16 + 14 ≤ 32 by decide) (show 8191 + 1 < 2 ^ 14 by decide)
    · rw [State.get_settle_lane _ i rfl, State.get_raise_clear _ (Field.clearOf_of_base rfl rfl rfl), State.get_put_fits _ (Field.fits_of rfl)]
    · rw [State.get_settle_lane _ i rfl, State.get_raise_lane i rfl ((State.live_congr (by simp [State.pointStored]) (by simp [State.pointStored]) _).trans (State.live_lanePage i hrun)) (show 3 < 6 by decide)]
  · obtain ⟨f, he, hf⟩ := marginCommand_effect (c := .step v h n) hp
    have hlink : (s.get (Fld.PORT_STATUS_LINK p) == 5 && decide (4 ≤ s.laneRate i.val)) = true := by simp [hl, hr]
    rw [if_pos hlink] at hf
    have hstep : s.begin.marginStep i.val (.step v h n) = _ := if_pos hn
    have hscan : (s.begin.marginSet i.val { mget MarginX.reset s.fab.lanes.margin i.val with step := some (v, h, n.val), errors := 0, samples := 0 }).scanning i.val = true := State.scanning_of_one h1
    refine answers_fabric he hrun (hf.trans hstep) (Frame.setMargin s i.val _ _) (by simp [State.setMargin_eq, State.suspendEye_fab, State.marginSet, State.modLanes]) (List.forall_mem_cons.mpr ⟨hone (x := 0x1208) rfl (by decide), by simp⟩)
      fun hfr => ⟨?_, ?_, ?_, hfr⟩
    · rw [State.get_settle_lane _ i rfl, State.get_emit, State.setMargin_eq]
      exact (State.get_suspendEye_scanning hscan).trans (State.scanState_marginSet _ _ _)
    · rw [State.settle_fab, State.emit_fab, State.setMargin_eq, State.suspendEye_fab]
      simp [State.marginSet, State.modLanes]
    · rw [State.settle_out, State.emit_out, State.setMargin_eq, State.suspendEye_out]
      rfl
  · obtain ⟨f, he, hf⟩ := marginCommand_effect (c := .step v h n) hp
    have hlink : (s.get (Fld.PORT_STATUS_LINK p) == 5 && decide (4 ≤ s.laneRate i.val)) = true := by simp [hl, hr]
    rw [if_pos hlink] at hf
    have hstep : s.begin.marginStep i.val (.step v h n) = s.begin.emit (.margin i.val .nak) := if_neg (Nat.not_le.mpr hn)
    exact answers_fabric he hrun (hf.trans hstep) ((Frame.begin s).andEmit _) rfl (by simp) fun hfr => ⟨by simp, hfr⟩
  · obtain ⟨f, he, hf⟩ := marginCommand_effect (c := .report q) hp
    have hlink : (s.get (Fld.PORT_STATUS_LINK p) == 5 && decide (4 ≤ s.laneRate i.val)) = true := by simp [hl, hr]
    rw [if_pos hlink] at hf
    exact answers_fabric he hrun hf ((Frame.begin s).andEmit _) rfl (by simp) fun hfr => ⟨by simp; rfl, hfr⟩
  · obtain ⟨f, he, hf⟩ := marginCommand_effect (c := .normal) hp
    have hlink : (s.get (Fld.PORT_STATUS_LINK p) == 5 && decide (4 ≤ s.laneRate i.val)) = true := by simp [hl, hr]
    rw [if_pos hlink] at hf
    have hscan : (s.begin.marginSet i.val { mget MarginX.reset s.fab.lanes.margin i.val with step := none }).scanning i.val = true := by
      have h2' : s.scanning i.val = true := by simp [State.scanning, h2]
      exact h2'
    have hstep : s.begin.marginStep i.val .normal =
        (s.begin.setMargin i.val { mget MarginX.reset s.fab.lanes.margin i.val with step := none }).emit (.margin i.val (.value 0)) := rfl
    refine answers_fabric he hrun (hf.trans hstep) (Frame.setMargin s i.val _ _) (by simp [State.setMargin_eq, State.suspendEye_fab, State.marginSet, State.modLanes]) (List.forall_mem_cons.mpr ⟨hone (x := 0x1208) rfl (by decide), by simp⟩)
      fun hfr => ⟨?_, ?_, hfr⟩
    · rw [State.get_settle_lane _ i rfl, State.get_emit, State.setMargin_eq]
      refine (State.get_suspendEye_scanning hscan).trans ((State.scanState_marginSet _ _ _).trans ?_)
      rw [State.flag_begin, hsig]
      rfl
    · rw [State.settle_fab, State.emit_fab, State.setMargin_eq, State.suspendEye_fab]
      simp [State.marginSet, State.modLanes]
  · obtain ⟨f, he, hf⟩ := marginCommand_effect (c := c) hp
    have hlink : (s.get (Fld.PORT_STATUS_LINK p) == 5 && decide (4 ≤ s.laneRate i.val)) = false := by
      rcases hl with hl | hl
      · simp [hl]
      · have hr : ¬ 4 ≤ s.laneRate i.val := by omega
        simp [hr]
    rw [hlink] at hf
    exact answers_fabric he hrun hf (Frame.begin s) rfl (by simp) fun hfr => hfr

end Sys2Proof.Machine
end

section
/-! PROOFS. States, frames and credits of the Tandem link (O41, R310 to R314, R333, R98). -/
namespace Sys2Proof.Machine
open Sys2Proof
set_option Elab.async false

/-! ### Nothing waits to be sent -/

/-- The stream has nothing to send: no record, no acknowledgement or request due, no bulk copy under way. -/
structure State.StreamIdle (s : State) : Prop where
  journal : s.fab.pair.journal = []
  ack : s.fab.pair.ackDue = false
  req : s.fab.pair.reqDue = false
  bulk : s.fab.pair.bulk = none

theorem State.StreamIdle.pump {s : State} (h : s.StreamIdle) : s.pump = s := by
  simp [State.pump, h.ack, h.req, h.journal, State.pumpRecords]

theorem State.resync_of_none {s : State} (h : s.fab.pair.bulk = none) : s.resync = s := by
  have hstep : s.bulkStep = none := by simp [State.bulkStep, h]
  have hsteps : s.resyncSteps (255 + 1) = s := by rw [State.resyncSteps, hstep]
  exact hsteps

theorem State.StreamIdle.resync {s : State} (h : s.StreamIdle) : s.resync = s := State.resync_of_none h.bulk

theorem State.StreamIdle.of_eq {s t : State} (h : s.StreamIdle) (h1 : t.fab.pair.journal = s.fab.pair.journal) (h2 : t.fab.pair.ackDue = s.fab.pair.ackDue)
    (h3 : t.fab.pair.reqDue = s.fab.pair.reqDue) (h4 : t.fab.pair.bulk = s.fab.pair.bulk) : t.StreamIdle :=
  ⟨h1.trans h.journal, h2.trans h.ack, h3.trans h.req, h4.trans h.bulk⟩

/-! ### Transmit coefficients (R94) -/

/-- The coefficient registers of the Tandem lanes and the Waggle lane. -/
def coefRegs : List Field := (List.range 9).map fun j => Field.all (Addr.LANE_TX_COEF (256 + j))

theorem lanePage_tandem (j : Nat) : lanePage (256 + j) = 0x200 + j := by simp [lanePage]

theorem State.word_takeCoefs_list (l : List Nat) : ∀ s : State,
    (∀ j ∈ l, (l.foldl (fun s j => s.setWord (Addr.LANE_TX_COEF (256 + j)) (s.word (Addr.LANE_TX_CFG (256 + j)))) s).word (Addr.LANE_TX_COEF (256 + j)) =
      s.word (Addr.LANE_TX_CFG (256 + j))) ∧
    (∀ a, (∀ j ∈ l, a ≠ Addr.LANE_TX_COEF (256 + j)) →
      (l.foldl (fun s j => s.setWord (Addr.LANE_TX_COEF (256 + j)) (s.word (Addr.LANE_TX_CFG (256 + j)))) s).word a = s.word a) := by
  induction l with
  | nil => exact fun s => ⟨by simp, fun _ _ => rfl⟩
  | cons k l ih =>
    intro s
    have hcfg : ∀ j, (s.setWord (Addr.LANE_TX_COEF (256 + k)) (s.word (Addr.LANE_TX_CFG (256 + k)))).word (Addr.LANE_TX_CFG (256 + j)) = s.word (Addr.LANE_TX_CFG (256 + j)) :=
      fun j => State.word_setWord_other _ _ (by simp only [Addr.LANE_TX_CFG, Addr.LANE_TX_COEF, lanePage_tandem]; omega)
    obtain ⟨hin, hout⟩ := ih (s.setWord (Addr.LANE_TX_COEF (256 + k)) (s.word (Addr.LANE_TX_CFG (256 + k))))
    refine ⟨fun j hj => ?_, fun a ha => ?_⟩
    · by_cases hm : j ∈ l
      · exact (hin j hm).trans (hcfg j)
      · obtain rfl : j = k := (List.mem_cons.mp hj).resolve_right hm
        refine (hout _ fun i hi => ?_).trans (State.word_setWord_same _ _ _)
        have hne : i ≠ j := fun h => hm (h ▸ hi)
        simp only [Addr.LANE_TX_COEF, lanePage_tandem]
        omega
    · exact (hout a fun j hj => ha j (List.mem_cons_of_mem _ hj)).trans (State.word_setWord_other _ _ (ha k List.mem_cons_self))

theorem State.coef_takeCoefs (s : State) (j : Fin 9) : s.takeCoefs.word (Addr.LANE_TX_COEF (256 + j.val)) = s.word (Addr.LANE_TX_CFG (256 + j.val)) :=
  (State.word_takeCoefs_list (List.range 9) s).1 _ (List.mem_range.mpr j.isLt)

/-- The coefficients lie in the lanes' pages. -/
theorem State.word_takeCoefs (s : State) {a : Nat} (h : ∀ j, a ≠ Addr.LANE_TX_COEF (256 + j)) : s.takeCoefs.word a = s.word a :=
  (State.word_takeCoefs_list (List.range 9) s).2 a fun j _ => h j

theorem State.get_takeCoefs_low (s : State) {g : Field} (h : g.addr < 0x2000000) : s.takeCoefs.get g = s.get g := by
  rw [State.get, State.get, State.word_takeCoefs _ fun j => by simp only [Addr.LANE_TX_COEF, lanePage_tandem]; omega]

theorem State.takeCoefs_eq (s : State) : ∃ r, s.takeCoefs = { s with regs := r } := by
  unfold State.takeCoefs
  generalize List.range 9 = l
  induction l generalizing s with
  | nil => exact ⟨s.regs, rfl⟩
  | cons k l ih =>
    obtain ⟨r, hr⟩ := ih (s.setWord (Addr.LANE_TX_COEF (256 + k)) (s.word (Addr.LANE_TX_CFG (256 + k))))
    exact ⟨r, hr⟩

theorem State.takeCoefs_fab (s : State) : s.takeCoefs.fab = s.fab := by
  obtain ⟨r, hr⟩ := s.takeCoefs_eq
  rw [hr]

theorem State.takeCoefs_clk (s : State) : s.takeCoefs.clk = s.clk := by
  obtain ⟨r, hr⟩ := s.takeCoefs_eq
  rw [hr]

theorem State.takeCoefs_counter (s : State) (c : Nat) : s.takeCoefs.counter c = s.counter c := by
  obtain ⟨r, hr⟩ := s.takeCoefs_eq
  rw [hr]
  rfl

theorem Frame.andTakeCoefs {ps : List Part} {fs : List Field} {s t : State} (h : Frame ps fs s t) (hf : ∀ g ∈ coefRegs, g ∈ fs) : Frame ps fs s t.takeCoefs := by
  have hstep : ∀ l : List Nat, (∀ j ∈ l, j < 9) → ∀ {u : State}, Frame ps fs s u →
      Frame ps fs s (l.foldl (fun s j => s.setWord (Addr.LANE_TX_COEF (256 + j)) (s.word (Addr.LANE_TX_CFG (256 + j)))) u) := by
    intro l
    induction l with
    | nil => exact fun _ _ hu => hu
    | cons k l ih =>
      intro hl u hu
      exact ih (fun j hj => hl j (List.mem_cons_of_mem _ hj)) (hu.andSetWord _ (hf _ (List.mem_map.mpr ⟨k, List.mem_range.mpr (hl k List.mem_cons_self), rfl⟩)))
  exact hstep _ (fun j hj => List.mem_range.mp hj) h

theorem regionOf_coefRegs : ∀ g ∈ coefRegs, regionOf g.addr = none := by
  intro g hg
  obtain ⟨j, hj, rfl⟩ := List.mem_map.mp hg
  have hj' : j < 9 := List.mem_range.mp hj
  exact regionOf_lane ⟨256 + j, by omega⟩ (x := 0x1014) rfl (by decide)

/-! ### The link changes state (R312) -/

/-- What a change of the link's state leaves of training. -/
def Pair.relinked (p : Pair) : Pair := { p with aligned := [], train := none, trainRx := 0, trainTx := 0, restartIn := false }

/-- The link in another state, before the rest of TDM_LINK follows. -/
def State.relinked (s : State) (st : Nat) : State := (s.put Fld.TDM_LINK_STATE st).modPair Pair.relinked

/-- The link in ALIGN or DOWN shows neither a mismatch nor a version. -/
def State.unlinked (s : State) : State := (s.put Fld.TDM_LINK_MISMATCH 0).put Fld.TDM_LINK_MPV 0

/-- TDM_LINK as the state entered leaves it. -/
def State.linkShown (s : State) (st : Nat) : State :=
  let s := if st = 1 then (s.relinked st).takeCoefs else s.relinked st
  let s := if st = 2 then s else s.put Fld.TDM_LINK_MISMATCH 0
  if st = 3 then s else s.put Fld.TDM_LINK_MPV 0

theorem State.linkTo_eq (s : State) (st : Nat) : s.linkTo st =
    if s.get Fld.TDM_LINK_STATE = 3 && st ≠ 3 then (if st = 1 then ((s.linkShown st).raise Evt.TDM_LINK_DOWN).count (Ctr.PAIR 0 6) else (s.linkShown st).raise Evt.TDM_LINK_DOWN)
    else s.linkShown st := rfl

theorem State.linkTo_align {s : State} (h : s.get Fld.TDM_LINK_STATE ≠ 3) : s.linkTo 1 = (s.relinked 1).takeCoefs.unlinked := by
  simp [State.linkTo_eq, State.linkShown, h, State.unlinked]

theorem State.linkTo_align_up {s : State} (h : s.get Fld.TDM_LINK_STATE = 3) :
    s.linkTo 1 = ((s.relinked 1).takeCoefs.unlinked.raise Evt.TDM_LINK_DOWN).count (Ctr.PAIR 0 6) := by
  simp [State.linkTo_eq, State.linkShown, h, State.unlinked]

theorem State.linkTo_train {s : State} (h : s.get Fld.TDM_LINK_STATE ≠ 3) : s.linkTo 2 = (s.relinked 2).put Fld.TDM_LINK_MPV 0 := by
  simp [State.linkTo_eq, State.linkShown, h]

theorem State.linkTo_up (s : State) : s.linkTo 3 = (s.relinked 3).put Fld.TDM_LINK_MISMATCH 0 := by
  simp [State.linkTo_eq, State.linkShown]

theorem State.linkTo_down {s : State} (h : s.get Fld.TDM_LINK_STATE ≠ 3) : s.linkTo 0 = (s.relinked 0).unlinked := by
  simp [State.linkTo_eq, State.linkShown, h, State.unlinked]

theorem State.linkTo_down_up {s : State} (h : s.get Fld.TDM_LINK_STATE = 3) : s.linkTo 0 = (s.relinked 0).unlinked.raise Evt.TDM_LINK_DOWN := by
  simp [State.linkTo_eq, State.linkShown, h, State.unlinked]

/-- The fields of TDM_LINK that a change of state writes. -/
def linkFields : List Field := [Fld.TDM_LINK_STATE, Fld.TDM_LINK_MISMATCH, Fld.TDM_LINK_MPV]

/-- A link that has left for ALIGN. -/
structure State.Aligns (s t : State) : Prop where
  state : t.get Fld.TDM_LINK_STATE = 1
  version : t.get Fld.TDM_LINK_MPV = 0
  aligned : t.fab.pair.aligned = []
  train : t.fab.pair.train = none
  coefs : ∀ j : Fin 9, t.word (Addr.LANE_TX_COEF (256 + j.val)) = s.word (Addr.LANE_TX_CFG (256 + j.val))

/-- The coefficients lie above the events and the settings of the pair. -/
theorem State.coef_of_low {s t : State} (h : ∀ a, 0x2000000 ≤ a → t.word a = s.word a) (j : Nat) : t.word (Addr.LANE_TX_COEF (256 + j)) = s.word (Addr.LANE_TX_COEF (256 + j)) :=
  h _ (by simp only [Addr.LANE_TX_COEF, lanePage_tandem]; omega)

theorem State.aligns_linkTo (s : State) : s.Aligns (s.linkTo 1) := by
  have hshown : s.Aligns (s.relinked 1).takeCoefs.unlinked := by
    refine ⟨?_, ?_, ?_, ?_, fun j => ?_⟩
    · rw [State.unlinked, State.get_put_clear _ _ (by decide), State.get_put_clear _ _ (by decide), State.get_takeCoefs_low _ (by decide), State.relinked, State.get_modPair,
        State.get_put_lit _ (by decide) (by decide)]
    · rw [State.unlinked, State.get_put_lit _ (by decide) (by decide)]
    · simp [State.unlinked, State.takeCoefs_fab, State.relinked, Pair.relinked]
    · simp [State.unlinked, State.takeCoefs_fab, State.relinked, Pair.relinked]
    · have hlow : Addr.LANE_TX_COEF (256 + j.val) ≠ Addr.TDM_LINK := by simp only [Addr.LANE_TX_COEF, lanePage_tandem, Addr.TDM_LINK]; omega
      have hcfg : Addr.LANE_TX_CFG (256 + j.val) ≠ Addr.TDM_LINK := by simp only [Addr.LANE_TX_CFG, lanePage_tandem, Addr.TDM_LINK]; omega
      rw [State.unlinked, State.word_put_other _ _ hlow, State.word_put_other _ _ hlow, State.coef_takeCoefs]
      exact State.word_put_other _ _ hcfg
  by_cases h : s.get Fld.TDM_LINK_STATE = 3
  · rw [State.linkTo_align_up h]
    obtain ⟨h1, h2, h3, h4, h5⟩ := hshown
    refine ⟨?_, ?_, by simpa using h3, by simpa using h4, fun j => ?_⟩
    · rw [State.get_count, State.get_raise_clear _ (by decide), h1]
    · rw [State.get_count, State.get_raise_clear _ (by decide), h2]
    · exact (State.word_raise_other _ (by simp only [Addr.LANE_TX_COEF, lanePage_tandem, evtPendAddr, Evt.TDM_LINK_DOWN]; omega)).trans (h5 j)
  · rw [State.linkTo_align h]
    exact hshown

theorem Frame.andLinkAlign {ps : List Part} {fs : List Field} {s t : State} (h : Frame ps fs s t) (hst : t.get Fld.TDM_LINK_STATE ≠ 3) (hp : Part.pair ∈ ps := by simp)
    (hf : ∀ g ∈ linkFields ++ coefRegs, g ∈ fs := by simp [linkFields]) : Frame ps fs s (t.linkTo 1) := by
  rw [State.linkTo_align hst]
  have hl : ∀ g ∈ linkFields, g ∈ fs := fun g hg => hf g (List.mem_append_left _ hg)
  exact (((((h.andPut 1 (hl _ (by simp [linkFields]))).andModPair _ hp).andTakeCoefs fun g hg => hf g (List.mem_append_right _ hg)).andPut 0 (hl _ (by simp [linkFields]))).andPut 0
    (hl _ (by simp [linkFields])))

theorem Frame.andLinkAlignUp {ps : List Part} {fs : List Field} {s t : State} (h : Frame ps fs s t) (hst : t.get Fld.TDM_LINK_STATE = 3) (hp : Part.pair ∈ ps := by simp)
    (hc : Part.ctrs ∈ ps := by simp) (hf : ∀ g ∈ linkFields ++ coefRegs, g ∈ fs := by simp [linkFields]) (he : Evt.TDM_LINK_DOWN.field ∈ fs := by simp) : Frame ps fs s (t.linkTo 1) := by
  rw [State.linkTo_align_up hst]
  have hl : ∀ g ∈ linkFields, g ∈ fs := fun g hg => hf g (List.mem_append_left _ hg)
  exact (((((((h.andPut 1 (hl _ (by simp [linkFields]))).andModPair _ hp).andTakeCoefs fun g hg => hf g (List.mem_append_right _ hg)).andPut 0 (hl _ (by simp [linkFields]))).andPut 0
    (hl _ (by simp [linkFields]))).andRaise he).andCount _ _ hc)

theorem State.Aligns.settle {s t : State} (h : s.Aligns t) : s.Aligns t.settle := by
  obtain ⟨h1, h2, h3, h4, h5⟩ := h
  refine ⟨?_, ?_, by simpa using h3, by simpa using h4, fun j => ?_⟩
  · rw [State.get_settle _ (by decide), h1]
  · rw [State.get_settle _ (by decide), h2]
  · exact (State.word_settle _ (by simp only [Addr.LANE_TX_COEF, lanePage_tandem]; omega)).trans (h5 j)

/-! ### Alignment blocks (R25, R312) -/

theorem alignBlock_ne_inverted (lane : Fin 8) : alignBlock lane.val ≠ (alignBlock lane.val).map fun b => ~~~b := by
  have h : (alignBlock lane.val).head? ≠ ((alignBlock lane.val).map fun b => ~~~b).head? := by
    simp [alignBlock, List.replicate]
  exact fun heq => h (congrArg List.head? heq)

/-- The run of alignment blocks of a lane, as state s leaves it. -/
def State.alignedAs (s : State) (lane n : Nat) : State := s.modPair fun p => { p with aligned := mput 0 p.aligned lane n }

/-- Every lane has a run of k alignment blocks. -/
def State.allAligned (s : State) (k : Nat) : Bool := (List.range 8).all fun j => decide (k ≤ mget 0 s.fab.pair.aligned j)

/-- A Tandem lane's run and its polarity. -/
def State.blockSeen (s : State) (lane : Fin 8) (n : Nat) (inv : Bool) : State := (s.alignedAs lane.val n).putFlag (Fld.LANE_STATUS_POL_INV (256 + lane.val)) inv

/-- An alignment block that a lane receives intact, inverted or not. -/
theorem alignBlockRx_intact {lane : Fin 8} {inv : Bool} {s : State} (hon : s.tandemOn = true) (hst : s.get Fld.TDM_LINK_STATE = 1 ∨ s.get Fld.TDM_LINK_STATE = 3) :
    ∃ f, exec (.tandemAlignBlockRx lane (if inv then (alignBlock lane.val).map fun b => ~~~b else alignBlock lane.val)) s = done (s.begin.whenFabric f) ∧ f s.begin =
      (let t := s.begin.blockSeen lane (min 8 (mget 0 s.fab.pair.aligned lane.val + 1)) inv
       if s.get Fld.TDM_LINK_STATE = 1 && t.allAligned 8 then t.linkTo 2 else if s.get Fld.TDM_LINK_STATE = 3 && t.allAligned 4 then t.linkTo 1 else t) := by
  refine ⟨_, rfl, ?_⟩
  have hon' : s.begin.tandemOn = true := hon
  have hgo : (!s.begin.tandemOn || (decide (s.begin.get Fld.TDM_LINK_STATE ≠ 1) && decide (s.begin.get Fld.TDM_LINK_STATE ≠ 3))) = false := by
    rcases hst with h | h <;> simp [hon', h]
  have hne := alignBlock_ne_inverted lane
  dsimp only
  rw [if_neg (by rw [hgo]; decide)]
  cases inv
  · have hinv : ((alignBlock lane.val == (alignBlock lane.val).map fun b => ~~~b)) = false := by simpa using hne
    simp only [Bool.false_eq_true, if_false, hinv, beq_self_eq_true, Bool.or_true, if_true]
    rfl
  · simp only [if_true, beq_self_eq_true, Bool.true_or]
    rfl

/-- A block that is no alignment block of its lane ends the lane's run. -/
theorem alignBlockRx_damaged {lane : Fin 8} {blk : List Byte} {s : State} (hon : s.tandemOn = true) (hst : s.get Fld.TDM_LINK_STATE = 1) (h1 : blk ≠ alignBlock lane.val)
    (h2 : blk ≠ (alignBlock lane.val).map fun b => ~~~b) : ∃ f, exec (.tandemAlignBlockRx lane blk) s = done (s.begin.whenFabric f) ∧ f s.begin = s.begin.alignedAs lane.val 0 := by
  refine ⟨_, rfl, ?_⟩
  have hon' : s.begin.tandemOn = true := hon
  have hst' : s.begin.get Fld.TDM_LINK_STATE = 1 := hst
  have hi1 : (blk == (alignBlock lane.val).map fun b => ~~~b) = false := by simpa using h2
  have hi2 : (blk == alignBlock lane.val) = false := by simpa using h1
  have hall : (s.begin.alignedAs lane.val 0).allAligned 8 = false := by
    refine Bool.eq_false_iff.mpr fun hall => ?_
    have hlane := List.all_eq_true.mp hall lane.val (List.mem_range.mpr lane.isLt)
    simp [State.alignedAs] at hlane
  dsimp only
  rw [hon', hst', hi1, hi2]
  simp only [Bool.or_false, Bool.false_eq_true, if_false]
  change (if (_ : Bool) then s.begin else if (decide (1 = 1) && (s.begin.alignedAs lane.val 0).allAligned 8) = true then (s.begin.alignedAs lane.val 0).linkTo 2
    else if (decide (1 = 3) && (s.begin.alignedAs lane.val 0).allAligned 4) = true then (s.begin.alignedAs lane.val 0).linkTo 1 else s.begin.alignedAs lane.val 0) = _
  rw [hall]
  rfl

theorem State.aligned_alignedAs (s : State) (lane n j : Nat) : mget 0 (s.alignedAs lane n).fab.pair.aligned j = if j = lane then n else mget 0 s.fab.pair.aligned j := by
  by_cases h : j = lane
  · simp [State.alignedAs, h]
  · rw [if_neg h]
    exact mget_mput_other _ _ _ h

theorem State.allAligned_alignedAs {s : State} {lane : Fin 8} {n k : Nat} (hn : k ≤ n) (h : ∀ j : Fin 8, j ≠ lane → k ≤ mget 0 s.fab.pair.aligned j.val) :
    (s.alignedAs lane.val n).allAligned k = true := by
  refine List.all_eq_true.mpr fun j hj => ?_
  have hj' : j < 8 := List.mem_range.mp hj
  rw [decide_eq_true_eq, State.aligned_alignedAs]
  split
  · exact hn
  · next hne => exact h ⟨j, hj'⟩ fun heq => hne (congrArg Fin.val heq)

theorem State.allAligned_congr {s t : State} (h : t.fab = s.fab) (k : Nat) : t.allAligned k = s.allAligned k := by simp only [State.allAligned, h]

/-- The Tandem lane as a lane of the module. -/
def tandemLane (j : Fin 8) : LaneIx := ⟨256 + j.val, by omega⟩

theorem State.linkState_blockSeen (s : State) (lane : Fin 8) (n : Nat) (inv : Bool) {g : Field} (hg : g.addr < 0x2000000) (hw : g.lo + g.width ≤ 32) :
    (s.blockSeen lane n inv).get g = s.get g :=
  State.get_put_clear _ _ (Field.clearOf_of_addr hw (by simp only [Fld.LANE_STATUS_POL_INV, Addr.LANE_STATUS, lanePage_tandem]; omega))

theorem State.polInv_blockSeen (s : State) (lane : Fin 8) (n : Nat) (inv : Bool) : (s.blockSeen lane n inv).flag (Fld.LANE_STATUS_POL_INV (256 + lane.val)) = inv := by
  rw [State.flag, State.blockSeen, State.putFlag]
  rw [State.get_put_lit _ (show 7 + 1 ≤ 32 by decide) (bit_lt_two inv)]
  cases inv <;> rfl

theorem Frame.andBlockSeen {ps : List Part} {fs : List Field} {s t : State} (h : Frame ps fs s t) (lane : Fin 8) (n : Nat) (inv : Bool) (hp : Part.pair ∈ ps := by simp)
    (hf : Fld.LANE_STATUS_POL_INV (256 + lane.val) ∈ fs := by simp) : Frame ps fs s (t.blockSeen lane n inv) :=
  (h.andModPair _ hp).andPutFlag inv hf

/-! ### Frames (R311, R313, R323) -/

/-- A frame ends the runs of alignment blocks; in TRAIN one more TRAIN frame has been sent. -/
def Pair.framed (p : Pair) (st : Nat) : Pair := { p with aligned := [], trainTx := if st = 2 then min 8 (p.trainTx + 1) else p.trainTx }

/-- A frame that is not TRAIN breaks a run of TRAIN frames. -/
def Pair.untrained (p : Pair) : Pair := { p with trainRx := if p.trainRx < 8 then 0 else p.trainRx, train := if p.trainRx < 8 then none else p.train }

/-- CRET and RXCNT of a frame in UP. -/
def Pair.credited (p : Pair) (h : TdmHeader) : Pair := { p with cretIn := h.cret.toNat, rxcntIn := h.rxcnt.toNat }

/-- A damaged frame in UP is counted. -/
def State.frameMissed (s : State) : State := ((s.modPair fun p => p.framed 3).count (Ctr.PAIR 1 1)).modPair Pair.untrained

/-- An intact frame in UP is counted, and its credits are taken. -/
def State.frameTaken (s : State) (h : TdmHeader) : State := ((s.modPair fun p => p.framed 3).count (Ctr.PAIR 1 0)).modPair fun p => p.credited h

/-- An intact frame in TRAIN is counted, and this end sends a TRAIN frame in its time. -/
def State.frameTrained (s : State) : State := ((s.modPair fun p => p.framed 2).emit (.train s.ownTrain)).count (Ctr.PAIR 1 0)

section
variable {s : State} {h : TdmHeader} {f : State → State} (hon : s.tandemOn = true)
include hon

theorem State.frame_eq {st : Nat} (hst : s.get Fld.TDM_LINK_STATE = st) (h2 : 2 ≤ st) : s.frame h f =
    (let u := if st = 2 then (s.modPair fun p => p.framed st).emit (.train s.ownTrain) else s.modPair fun p => p.framed st
     if !h.intact || decide (2 < h.kind.toNat) then ((u.count (Ctr.PAIR 1 1)).modPair Pair.untrained).trainCheck
     else (f (if st = 3 then (u.count (Ctr.PAIR 1 0)).modPair fun p => p.credited h else u.count (Ctr.PAIR 1 0))).pump.resync) := by
  have hgo : (!s.tandemOn || decide (s.get Fld.TDM_LINK_STATE < 2)) = false := by
    rw [hon, hst]
    simp
    omega
  unfold State.frame
  dsimp only
  rw [hgo, if_neg (by decide), hst]
  rfl

theorem State.frame_damaged (hst : s.get Fld.TDM_LINK_STATE = 3) (hbad : h.intact = false ∨ 3 ≤ h.kind.toNat) (ht : s.fab.pair.train = none) :
    s.frame h f = s.frameMissed := by
  have hbad' : (!h.intact || decide (2 < h.kind.toNat)) = true := by
    rcases hbad with hb | hb
    · simp [hb]
    · simp [show 2 < h.kind.toNat by omega]
  have hnone : (((s.modPair fun p => p.framed 3).count (Ctr.PAIR 1 1)).modPair Pair.untrained).fab.pair.train = none := by
    simp [Pair.untrained, Pair.framed, ht]
  rw [State.frame_eq hon hst (by decide)]
  dsimp only
  rw [hbad', if_pos rfl, if_neg (by decide : ¬ (3 : Nat) = 2), State.trainCheck]
  rw [hnone]
  rfl

theorem State.frame_intact (hst : s.get Fld.TDM_LINK_STATE = 3) (hi : h.intact = true) (hk : h.kind.toNat ≤ 2) :
    s.frame h f = (f (s.frameTaken h)).pump.resync := by
  have hok : (!h.intact || decide (2 < h.kind.toNat)) = false := by simp [hi, hk]
  rw [State.frame_eq hon hst (by decide)]
  dsimp only
  rw [hok, if_neg Bool.false_ne_true, if_pos rfl, if_neg (by decide : ¬ (3 : Nat) = 2)]
  rfl

theorem State.frame_training (hst : s.get Fld.TDM_LINK_STATE = 2) (hi : h.intact = true) (hk : h.kind.toNat ≤ 2) :
    s.frame h f = (f s.frameTrained).pump.resync := by
  have hok : (!h.intact || decide (2 < h.kind.toNat)) = false := by simp [hi, hk]
  rw [State.frame_eq hon hst (by decide)]
  dsimp only
  rw [hok, if_neg Bool.false_ne_true, if_neg (by decide : ¬ (2 : Nat) = 3), if_pos rfl]
  rfl

end

theorem State.frame_off {s : State} {h : TdmHeader} {f : State → State} (hst : s.get Fld.TDM_LINK_STATE < 2) : s.frame h f = s := by
  unfold State.frame
  dsimp only
  rw [if_pos (by simp [hst])]

theorem State.notTrain_up {s : State} (h : s.get Fld.TDM_LINK_STATE ≠ 2) : s.notTrain = s := by
  rw [State.notTrain, if_neg (by simpa using h)]

/-! ### MIRROR frames (R313, R323) -/

/-- A MIRROR frame that has been processed returns its credit. -/
def Pair.mirrored (p : Pair) (fseq : Nat) (restart : Bool) : Pair :=
  { p with rxcnt := (p.rxcnt + 1) % 65536, cretOut := (p.cretOut + 1) % 65536, fseqIn := (fseq + 1) % 2 ^ 32, restartIn := restart }

theorem State.mirrorFrame_next {s : State} {fseq : Nat} (restart : Bool) (hst : s.get Fld.TDM_LINK_STATE = 3) (h : fseq = s.fab.pair.fseqIn) :
    s.mirrorFrame fseq restart = s.modPair fun p => p.mirrored fseq restart := by
  simp [State.mirrorFrame, hst, h]
  rfl

theorem State.mirrorFrame_gap {s : State} {fseq : Nat} (restart : Bool) (hst : s.get Fld.TDM_LINK_STATE = 3) (h : fseq ≠ s.fab.pair.fseqIn) (hsb : s.isStandby = true)
    (ha : s.fab.pair.adopt = false) (hg : s.fab.pair.gap = false) : s.mirrorFrame fseq restart = (s.modPair fun p => p.mirrored fseq restart).gapSeen := by
  have hjump : (fseq != s.fab.pair.fseqIn) = true := by simpa using h
  have hsb' : (s.modPair fun p => p.mirrored fseq restart).isStandby = true := hsb
  have ha' : (s.modPair fun p => p.mirrored fseq restart).fab.pair.adopt = false := ha
  have hg' : (s.modPair fun p => p.mirrored fseq restart).fab.pair.gap = false := hg
  rw [State.mirrorFrame, if_neg (by simp [hst])]
  exact if_pos (by rw [hjump]; simpa using ⟨⟨hsb', ha'⟩, hg'⟩)

/-- The request of a resend goes out where a credit is left. -/
def State.resendAsked (s : State) : State :=
  ((((s.sendFrames 1).modPair fun p => { p with reqDue := false }).emit (.ackRec false ((s.get Fld.TDM_HSEQ_SEQ + 1) % 2 ^ 32) 0)).count (Ctr.PAIR 1 4))

theorem State.pump_request {s : State} (hj : s.fab.pair.journal = []) (ha : s.fab.pair.ackDue = false) (hr : s.fab.pair.reqDue = true) (hc : s.canSend 1 = true) :
    s.pump = s.resendAsked := by
  simp [State.pump, ha, hr, hc, hj, State.sendFrames, State.pumpRecords, State.resendAsked]

/-- A gap is told, and a request of the missing records is due. -/
def State.gapTold (s : State) : State := ((s.raise Evt.TDM_GAP).count (Ctr.PAIR 1 3)).modPair fun p => { p with gap := true, reqDue := true }

theorem State.canSend_one {s : State} (hst : s.get Fld.TDM_LINK_STATE = 3) (hv : s.get Fld.TDM_LINK_MPV ≠ 0)
    (hc : (s.fab.pair.sent + 65536 - s.fab.pair.cretIn) % 65536 < s.fab.pair.peerCredits) : s.canSend 1 = true := by
  have hcr : s.fab.pair.hasCredit 1 = true := decide_eq_true hc
  simp [State.canSend, hst, hv, hcr]

theorem State.gapSeen_asked {s : State} (hj : s.fab.pair.journal = []) (ha : s.fab.pair.ackDue = false) (hc : s.canSend 1 = true) : s.gapSeen = s.gapTold.resendAsked := by
  have hc' : s.gapTold.canSend 1 = true := by
    have hst : s.gapTold.get Fld.TDM_LINK_STATE = s.get Fld.TDM_LINK_STATE := State.get_raise_clear s (by decide)
    have hv : s.gapTold.get Fld.TDM_LINK_MPV = s.get Fld.TDM_LINK_MPV := State.get_raise_clear s (by decide)
    have hp : s.gapTold.fab.pair.hasCredit 1 = s.fab.pair.hasCredit 1 := by simp [State.gapTold, Pair.hasCredit]
    rw [State.canSend, hst, hv, hp]
    exact hc
  exact State.pump_request (s := s.gapTold) (by simpa [State.gapTold] using hj) (by simpa [State.gapTold] using ha) (by simp [State.gapTold]) hc'

/-- A gap in the order of MIRROR frames, and the request that goes out for it. -/
def State.gapAsked (s : State) (fseq : Nat) (r : Bool) : State := (s.modPair fun p => p.mirrored fseq r).gapTold.resendAsked

/-- What a gap leaves of the stream's state. -/
def Pair.asked (p : Pair) : Pair := { p with gap := true, reqDue := false, sent := (p.sent + 1) % 65536 }

theorem State.pair_gapAsked (s : State) (fseq : Nat) (r : Bool) : (s.gapAsked fseq r).fab.pair = (s.fab.pair.mirrored fseq r).asked := by
  simp [State.gapAsked, State.resendAsked, State.gapTold, State.sendFrames, Pair.asked]

theorem State.get_gapAsked (s : State) (fseq : Nat) (r : Bool) (g : Field) : (s.gapAsked fseq r).get g = ((s.modPair fun p => p.mirrored fseq r).raise Evt.TDM_GAP).get g := by
  rw [State.gapAsked, State.resendAsked, State.get_count, State.get_emit, State.get_modPair, State.sendFrames, State.get_count, State.get_count, State.get_modPair, State.gapTold,
    State.get_modPair, State.get_count]

theorem State.counter_gapAsked (s : State) (fseq : Nat) (r : Bool) : (s.gapAsked fseq r).counter (Ctr.PAIR 1 3) = s.counter (Ctr.PAIR 1 3) + 1 := by
  rw [State.gapAsked, State.resendAsked, State.counter_count_other _ _ (by decide), State.counter_emit, State.counter_modPair, State.counter_sendFrames _ _ (by decide) (by decide),
    State.gapTold, State.counter_modPair, State.counter_count_same, State.counter_raise, State.counter_modPair]
  rfl

/-! ### TRAIN frames (R312) -/

/-- What a TRAIN payload shows of the partner. -/
def State.peerShown (s : State) (bad : Bool) (q : TrainPayload) : State :=
  ((s.put Fld.TDM_LINK_MISMATCH (bit bad)).put Fld.TDM_LINK_PEER_MOD_ID q.modId).put Fld.TDM_LINK_PEER_STRAP (bit q.strap)

/-- A TRAIN payload continues a run of its like or starts one. -/
def Pair.trained (p : Pair) (q : TrainPayload) : Pair := if p.train = some q then { p with trainRx := min 8 (p.trainRx + 1) } else { p with train := some q, trainRx := 1, trainTx := 0 }

theorem State.trainCheck_of_short {s : State} (h : s.fab.pair.trainRx < 8 ∨ s.fab.pair.trainTx < 8 ∨ s.flag Fld.TDM_LINK_MISMATCH = true) : s.trainCheck = s := by
  rw [State.trainCheck]
  split
  · refine if_neg ?_
    rcases h with h | h | h
    · simp [show ¬ 8 ≤ s.fab.pair.trainRx by omega]
    · simp [show ¬ 8 ≤ s.fab.pair.trainTx by omega]
    · simp [h]
  · rfl

theorem State.trainCheck_complete {s : State} {q : TrainPayload} (ht : s.fab.pair.train = some q) (hrx : 8 ≤ s.fab.pair.trainRx) (htx : 8 ≤ s.fab.pair.trainTx)
    (hm : s.flag Fld.TDM_LINK_MISMATCH = false) : s.trainCheck = s.linkUpNow q := by
  rw [State.trainCheck]
  split
  · next t heq =>
    obtain rfl : t = q := Option.some.inj (heq.symm.trans ht)
    exact if_pos (by simp [hrx, htx, hm])
  · next heq => rw [heq] at ht; cases ht

theorem State.trainFrame_bad {s : State} {q : TrainPayload} (hst : s.get Fld.TDM_LINK_STATE = 2) (hm : s.flag Fld.TDM_LINK_MISMATCH = false)
    (h : q.modId ≠ s.get Fld.CLK_STRAPS_MOD_ID ∨ q.strap = s.strapB) :
    s.trainFrame q = ((s.raise Evt.TDM_MISMATCH).peerShown true q).modPair fun p => p.trained q := by
  have hbad : (decide (q.modId ≠ s.get Fld.CLK_STRAPS_MOD_ID) || q.strap == s.strapB) = true := by simpa using h
  have hshown : (((s.raise Evt.TDM_MISMATCH).peerShown true q).modPair fun p => p.trained q).flag Fld.TDM_LINK_MISMATCH = true := by
    rw [State.flag, State.get_modPair, State.peerShown, State.get_put_clear _ _ (by decide), State.get_put_clear _ _ (by decide), State.get_put_lit _ (by decide) (by decide)]
    rfl
  rw [State.trainFrame, if_neg (by simp [hst])]
  dsimp only
  rw [hbad, hm]
  exact State.trainCheck_of_short (Or.inr (Or.inr hshown))

/-- A payload that fits the pair is shown and continues its run. -/
def State.trainShown (s : State) (q : TrainPayload) : State := (s.peerShown false q).modPair fun p => p.trained q

theorem State.trainFrame_good {s : State} {q : TrainPayload} (hst : s.get Fld.TDM_LINK_STATE = 2) (hid : q.modId = s.get Fld.CLK_STRAPS_MOD_ID) (hs : q.strap ≠ s.strapB) :
    s.trainFrame q = (s.trainShown q).trainCheck := by
  have hbad : (decide (q.modId ≠ s.get Fld.CLK_STRAPS_MOD_ID) || q.strap == s.strapB) = false := by simpa using ⟨hid, hs⟩
  rw [State.trainFrame, if_neg (by simp [hst])]
  dsimp only
  rw [hbad]
  rfl

/-- What the partner's payload shows reads as written. -/
theorem State.shows_peerShown (s : State) (bad : Bool) (q : TrainPayload) : (s.peerShown bad q).flag Fld.TDM_LINK_MISMATCH = bad ∧
    (s.peerShown bad q).get Fld.TDM_LINK_PEER_MOD_ID = q.modId % 8 ∧ (s.peerShown bad q).flag Fld.TDM_LINK_PEER_STRAP = q.strap := by
  refine ⟨?_, ?_, ?_⟩
  · rw [State.flag, State.peerShown, State.get_put_clear _ _ (by decide), State.get_put_clear _ _ (by decide), State.get_put_lit _ (by decide) (bit_lt_two bad)]
    cases bad <;> rfl
  · rw [State.peerShown, State.get_put_clear _ _ (by decide), State.get_put_same _ _ _ (by decide)]
    rfl
  · rw [State.flag, State.peerShown, State.get_put_lit _ (by decide) (bit_lt_two q.strap)]
    cases q.strap <;> rfl

theorem State.get_peerShown (s : State) (bad : Bool) (q : TrainPayload) {g : Field}
    (h : ∀ f ∈ [Fld.TDM_LINK_MISMATCH, Fld.TDM_LINK_PEER_MOD_ID, Fld.TDM_LINK_PEER_STRAP], g.clearOf f = true) : (s.peerShown bad q).get g = s.get g := by
  simp only [List.forall_mem_cons] at h
  obtain ⟨h1, h2, h3, -⟩ := h
  rw [State.peerShown, State.get_put_clear _ _ h3, State.get_put_clear _ _ h2, State.get_put_clear _ _ h1]

/-- A TRAIN frame leaves nothing to send. -/
theorem State.idle_trained {s t : State} {q : TrainPayload} (h : t.StreamIdle) (hp : s.fab.pair = t.fab.pair.framed 2) : (s.modPair fun p => p.trained q).StreamIdle := by
  have hkeep : ∀ p : Pair, (p.trained q).journal = p.journal ∧ (p.trained q).ackDue = p.ackDue ∧ (p.trained q).reqDue = p.reqDue ∧ (p.trained q).bulk = p.bulk := by
    intro p
    unfold Pair.trained
    split <;> exact ⟨rfl, rfl, rfl, rfl⟩
  obtain ⟨h1, h2, h3, h4⟩ := hkeep s.fab.pair
  exact h.of_eq (h1.trans (by rw [hp]; rfl)) (h2.trans (by rw [hp]; rfl)) (h3.trans (by rw [hp]; rfl)) (h4.trans (by rw [hp]; rfl))

theorem State.get_trainShown (s : State) (q : TrainPayload) (g : Field) : (s.trainShown q).get g = (s.peerShown false q).get g := State.get_modPair _ _ _

theorem State.pair_trainShown (s : State) (q : TrainPayload) : (s.begin.frameTrained.trainShown q).fab.pair = (s.fab.pair.framed 2).trained q := by
  simp [State.trainShown, State.frameTrained, State.peerShown]

/-- A run of payloads leaves the partner. -/
theorem State.partner_trainShown (s : State) (q : TrainPayload) : (s.begin.frameTrained.trainShown q).partner = s.partner := by
  have hkeep : ∀ p : Pair, (p.trained q).failed = p.failed ∧ (p.trained q).peer = p.peer := by
    intro p
    unfold Pair.trained
    split <;> exact ⟨rfl, rfl⟩
  obtain ⟨h1, h2⟩ := hkeep (s.fab.pair.framed 2)
  rw [State.partner, State.partner, State.pair_trainShown, h1, h2]
  rfl

/-! ### The link comes up (R312, R313, R333) -/

/-- Every count of the link begins at 0. -/
def Pair.fresh (p : Pair) (q : TrainPayload) : Pair :=
  { p with sent := 0, part := 0, peerCredits := q.credits, cretIn := 0, rxcntIn := 0, sentHist := [], rxcnt := 0, cretOut := 0, fseqIn := 0 }

/-- A link that comes up: its version and its window. -/
def State.upBase (s : State) (q : TrainPayload) : State :=
  (((s.linkTo 3).modPair fun p => p.fresh q).put Fld.TDM_LINK_MPV (s.commonVersion q)).put Fld.TDM_CREDIT_WINDOW (min 2047 q.credits)

/-- A link that comes up, with its events. -/
def State.upShown (s : State) (q : TrainPayload) : State := ((s.upBase q).raise Evt.TDM_LINK_UP).raiseIf (s.commonVersion q == 0) Evt.TDM_VERSION

/-- Without a partner there is neither a split nor a synchronization seen. -/
def Pair.alone (p : Pair) : Pair := { p with split := false, syncSeen := false }

theorem State.roles_solo {s : State} (hr : s.role = 2) (hp : s.partner = none) (hsrc : s.get Fld.TIME_STATUS_SRC = 0) (hfo : s.flag Fld.TIME_CFG_FOLLOW_EN = false) :
    s.roles = s.modPair Pair.alone := by
  have hrole : (s.modPair Pair.alone).role = 2 := hr
  have hrule : s.rule = s.modPair Pair.alone := by
    rw [State.rule, hr, State.ruleActive, hp]
    exact if_neg (by simp [show (s.modPair fun p => { p with split := false, syncSeen := false }).role = 2 from hr])
  have hsteps : s.roleSteps 6 = s.modPair Pair.alone := by
    rw [State.roleSteps, hrule]
    exact if_pos (by simp [hrole, hr])
  have hshow : (s.modPair Pair.alone).showUnknown = s.modPair Pair.alone := by simp [State.showUnknown, State.isStandby, hrole]
  have hfollow : (s.modPair Pair.alone).updateFollow = s.modPair Pair.alone := by
    have hfo' : (s.modPair Pair.alone).flag Fld.TIME_CFG_FOLLOW_EN = false := hfo
    have hsrc' : (s.modPair Pair.alone).following = false := by simp [State.following, State.flag, hsrc]
    rw [State.following] at hsrc'
    simp [State.updateFollow, State.mayFollow, State.stopFollow, hfo', hsrc']
  rw [State.roles, hsteps, hshow, hfollow]

/-- The fields that a link that comes up writes. -/
def upFields : List Field :=
  [Fld.TDM_LINK_STATE, Fld.TDM_LINK_MISMATCH, Fld.TDM_LINK_MPV, Fld.TDM_CREDIT_WINDOW, Evt.TDM_LINK_UP.field, Evt.TDM_VERSION.field]

theorem State.get_upShown_base (s : State) (q : TrainPayload) {g : Field} (h1 : g.clearOf Evt.TDM_LINK_UP.field = true) (h2 : g.clearOf Evt.TDM_VERSION.field = true) :
    (s.upShown q).get g = (s.upBase q).get g := (State.get_raiseIf_clear _ h2).trans (State.get_raise_clear _ h1)

theorem State.clk_upBase (s : State) (q : TrainPayload) : (s.upBase q).clk = s.clk := by simp [State.upBase, State.linkTo_up, State.relinked]

theorem State.get_upShown (s : State) (q : TrainPayload) {g : Field} (h : ∀ f ∈ upFields, g.clearOf f = true) : (s.upShown q).get g = s.get g := by
  simp only [upFields, List.forall_mem_cons] at h
  obtain ⟨h1, h2, h3, h4, h5, h6, -⟩ := h
  rw [State.get_upShown_base s q h5 h6, State.upBase, State.get_put_clear _ _ h4, State.get_put_clear _ _ h3, State.get_modPair, State.linkTo_up,
    State.get_put_clear _ _ h2, State.relinked, State.get_modPair, State.get_put_clear _ _ h1]

/-- What a link that comes up shows. -/
structure State.UpShows (s t : State) (q : TrainPayload) : Prop where
  state : t.get Fld.TDM_LINK_STATE = 3
  event : t.get Evt.TDM_LINK_UP.field = 1
  version : t.get Fld.TDM_LINK_MPV = s.commonVersion q
  none_common : s.commonVersion q = 0 → t.get Evt.TDM_VERSION.field = 1
  window : t.get Fld.TDM_CREDIT_WINDOW = min 2047 q.credits

theorem State.commonVersion_lt (s : State) (q : TrainPayload) : s.commonVersion q < 2 ^ 8 := by
  unfold State.commonVersion
  dsimp only
  split
  · exact Nat.mod_lt _ (by decide)
  · decide

theorem State.upShows_upShown {s : State} (q : TrainPayload) (hup : s.clk.mgmtUp = true) (hheld : s.clk.fabricHeld = false) : s.UpShows (s.upShown q) q := by
  have hwin : min 2047 q.credits < 2 ^ 11 := Nat.lt_of_le_of_lt (Nat.min_le_left _ _) (by decide)
  refine ⟨?_, ?_, ?_, fun hz => ?_, ?_⟩
  · rw [State.get_upShown_base s q (by decide) (by decide), State.upBase, State.get_put_clear _ _ (by decide), State.get_put_clear _ _ (by decide), State.get_modPair,
      State.linkTo_up, State.get_put_clear _ _ (by decide), State.relinked, State.get_modPair, State.get_put_lit _ (by decide) (by decide)]
  · refine (State.get_raiseIf_clear _ (by decide)).trans (State.get_raise_fabric (s := s.upBase q) ?_ ?_ rfl (by decide) (by decide))
    · rw [s.clk_upBase q, hup]
    · rw [s.clk_upBase q, hheld]
  · rw [State.get_upShown_base s q (by decide) (by decide), State.upBase, State.get_put_clear _ _ (by decide), State.get_put_lit _ (by decide) (s.commonVersion_lt q)]
  · rw [State.upShown, State.raiseIf, if_pos (by simpa using hz)]
    refine State.get_raise_fabric ?_ ?_ rfl (by decide) (by decide)
    · rw [State.raise_clk, s.clk_upBase q, hup]
    · rw [State.raise_clk, s.clk_upBase q, hheld]
  · rw [State.get_upShown_base s q (by decide) (by decide), State.upBase, State.get_put_lit _ (by decide) hwin]

theorem Frame.andUpShown {ps : List Part} {fs : List Field} {s t : State} (h : Frame ps fs s t) (q : TrainPayload) (hf : ∀ g ∈ upFields, g ∈ fs) (hp : Part.pair ∈ ps := by simp) :
    Frame ps fs s (t.upShown q) := by
  simp only [upFields, List.forall_mem_cons] at hf
  obtain ⟨h1, h2, h3, h4, h5, h6, -⟩ := hf
  rw [State.upShown, State.upBase, State.linkTo_up]
  exact ((((((((h.andPut 3 h1).andModPair _ hp).andPut 0 h2).andModPair _ hp).andPut _ h3).andPut _ h4).andRaise h5).andRaiseIf _ h6)

theorem State.pair_upShown (s : State) (q : TrainPayload) : (s.upShown q).fab.pair = s.fab.pair.relinked.fresh q := by
  simp [State.upShown, State.upBase, State.linkTo_up, State.relinked]

theorem State.linkUpNow_solo {s : State} {q : TrainPayload} (hidle : s.StreamIdle) (hr : s.role = 2) (hp : s.partner = none) (hsrc : s.get Fld.TIME_STATUS_SRC = 0)
    (hfo : s.flag Fld.TIME_CFG_FOLLOW_EN = false) : s.linkUpNow q = (s.upShown q).modPair Pair.alone := by
  have hpair := s.pair_upShown q
  have hr' : (s.upShown q).role = 2 := (s.get_upShown q (by decide)).trans hr
  have hp' : (s.upShown q).partner = none := by
    simp only [State.partner, hpair]
    exact hp
  have hidle' : (s.upShown q).StreamIdle := hidle.of_eq (by rw [hpair]; rfl) (by rw [hpair]; rfl) (by rw [hpair]; rfl) (by rw [hpair]; rfl)
  have hsrc' : (s.upShown q).get Fld.TIME_STATUS_SRC = 0 := (s.get_upShown q (by decide)).trans hsrc
  have hfo' : (s.upShown q).flag Fld.TIME_CFG_FOLLOW_EN = false := by rwa [State.flag, s.get_upShown q (by decide)]
  have hver : ((s.linkTo 3).modPair fun p => p.fresh q).commonVersion q = s.commonVersion q := by
    have hfw : ((s.linkTo 3).modPair fun p => p.fresh q).get Fld.DEV_FW_VER_VER = s.get Fld.DEV_FW_VER_VER := by
      rw [State.get_modPair, State.linkTo_up, State.get_put_clear _ _ (by decide), State.relinked, State.get_modPair, State.get_put_clear _ _ (by decide)]
    simp only [State.commonVersion, hfw]
  have hstep : s.linkUpNow q = (if (s.upShown q).isStandby && !(s.upShown q).fab.pair.adopt then (s.upShown q).gapSeen else s.upShown q).pump.resync.roles := by
    rw [State.upShown, State.upBase, ← hver]
    rfl
  rw [hstep, if_neg (by simp [State.isStandby, hr']), hidle'.pump, hidle'.resync, State.roles_solo hr' hp' hsrc' hfo']

/-! ### Readings of a link that leaves for ALIGN -/

theorem State.get_linkTo_align (s : State) {g : Field} (h : ∀ f ∈ linkFields ++ [Evt.TDM_LINK_DOWN.field], g.clearOf f = true) (hc : ∀ j, g.addr ≠ Addr.LANE_TX_COEF (256 + j)) :
    (s.linkTo 1).get g = s.get g := by
  simp only [linkFields, List.cons_append, List.nil_append, List.forall_mem_cons] at h
  obtain ⟨h1, h2, h3, h4, -⟩ := h
  have hshown : (s.relinked 1).takeCoefs.unlinked.get g = s.get g := by
    rw [State.unlinked, State.get_put_clear _ _ h3, State.get_put_clear _ _ h2, State.get, State.word_takeCoefs _ hc]
    exact State.get_put_clear _ _ h1
  by_cases hst : s.get Fld.TDM_LINK_STATE = 3
  · rw [State.linkTo_align_up hst, State.get_count, State.get_raise_clear _ h4, hshown]
  · rw [State.linkTo_align hst, hshown]

theorem State.down_linkTo_align {s : State} (hst : s.get Fld.TDM_LINK_STATE = 3) (hup : s.clk.mgmtUp = true) (hheld : s.clk.fabricHeld = false) :
    (s.linkTo 1).get Evt.TDM_LINK_DOWN.field = 1 := by
  rw [State.linkTo_align_up hst, State.get_count]
  exact State.get_raise_fabric (by simpa [State.unlinked, State.takeCoefs_clk, State.relinked] using hup) (by simpa [State.unlinked, State.takeCoefs_clk, State.relinked] using hheld) rfl
    (by decide) (by decide)

theorem State.counter_linkTo_align {s : State} (hst : s.get Fld.TDM_LINK_STATE = 3) (c : Nat) :
    (s.linkTo 1).counter c = if c = Ctr.PAIR 0 6 then s.counter c + 1 else s.counter c := by
  have hbase : ((s.relinked 1).takeCoefs.unlinked.raise Evt.TDM_LINK_DOWN).counter c = s.counter c := by
    simp [State.unlinked, State.takeCoefs_counter, State.relinked]
  rw [State.linkTo_align_up hst]
  split
  · next h =>
    subst h
    rw [State.counter_count_same, hbase]
    rfl
  · next h => rw [State.counter_count_other _ _ h, hbase]

theorem State.dir_linkTo_align (s : State) : (s.linkTo 1).fab.home.dir = s.fab.home.dir := by
  by_cases hst : s.get Fld.TDM_LINK_STATE = 3
  · simp [State.linkTo_align_up hst, State.unlinked, State.takeCoefs_fab, State.relinked]
  · simp [State.linkTo_align hst, State.unlinked, State.takeCoefs_fab, State.relinked]

/-! ### Failed Tandem lanes (R98, R312) -/

/-- A Tandem lane that has failed. -/
def State.tandemFailed (s : State) (j cause : Nat) : State :=
  ((((s.put (Fld.LANE_STATUS_FAILED (256 + j)) 1).put (Fld.LANE_STATUS_FAIL_CAUSE (256 + j)) cause).raise (Evt.LANE_LANE_FAIL (256 + j))).count (Ctr.LANE (256 + j) 7))

theorem State.tandemLaneFail_eq {s : State} {j : Fin 8} {cause : Nat} (hen : s.flag Fld.TDM_CFG_EN = true) (hf : s.flag (Fld.LANE_STATUS_FAILED (256 + j.val)) = false) :
    s.tandemLaneFail j.val cause = if s.get Fld.TDM_LINK_STATE = 3 then
      ((s.tandemFailed j.val cause).linkTo 0).sendFault (((s.tandemFailed j.val cause).linkTo 0).message Kind.TLANE_FAIL 1 (0x200 + j.val) 0 8 (Party.lane (256 + j.val)) none)
      else (s.tandemFailed j.val cause).linkTo 0 := by
  have hlive : s.laneLive (256 + j.val) = true := by
    rw [State.laneLive, if_neg (by omega), if_pos (by omega), hen]
  unfold State.tandemLaneFail
  dsimp only
  rw [hlive, hf, if_neg (by decide)]
  by_cases hst : s.get Fld.TDM_LINK_STATE = 3
  · rw [if_pos hst, if_pos (by simp [hst])]
    rfl
  · rw [if_neg hst, if_neg (by simp [hst])]
    rfl

/-- A link in UP that a failed lane takes down. -/
def State.tandemLost (s : State) (j cause : Nat) : State := ((s.tandemFailed j cause).relinked 0).unlinked.raise Evt.TDM_LINK_DOWN

theorem tandemLaneFail_effect {s : State} {j : Fin 8} {cause : Fin 5} (hen : s.flag Fld.TDM_CFG_EN = true) (hf : s.flag (Fld.LANE_STATUS_FAILED (256 + j.val)) = false) :
    ∃ f, exec (.tandemLaneFail j cause) s = done (s.begin.whenFabric f) ∧ f s.begin = if s.get Fld.TDM_LINK_STATE = 3 then
      ((s.begin.tandemFailed j.val (cause.val + 1)).linkTo 0).sendFault
        (((s.begin.tandemFailed j.val (cause.val + 1)).linkTo 0).message Kind.TLANE_FAIL 1 (0x200 + j.val) 0 8 (Party.lane (256 + j.val)) none)
      else (s.begin.tandemFailed j.val (cause.val + 1)).linkTo 0 :=
  ⟨_, rfl, State.tandemLaneFail_eq (s := s.begin) hen hf⟩

theorem State.get_tandemFailed (s : State) (j : Fin 8) (cause : Nat) {g : Field} (hw : g.lo + g.width ≤ 32) (h : g.addr < 0x2000000) :
    (s.tandemFailed j.val cause).get g = s.get g := by
  have hst : g.addr ≠ Addr.LANE_STATUS (256 + j.val) := by simp only [Addr.LANE_STATUS, lanePage_tandem]; omega
  have hevt : g.addr ≠ (Evt.LANE_LANE_FAIL (256 + j.val)).field.addr := by
    change g.addr ≠ lanePage (256 + j.val) * 0x10000 + 0x40
    rw [lanePage_tandem]
    omega
  rw [State.tandemFailed, State.get_count, State.get_raise_clear _ (Field.clearOf_of_addr hw hevt)]
  exact (State.get_put_clear _ _ (Field.clearOf_of_addr (f := Fld.LANE_STATUS_FAIL_CAUSE (256 + j.val)) hw hst)).trans
    (State.get_put_clear _ _ (Field.clearOf_of_addr (f := Fld.LANE_STATUS_FAILED (256 + j.val)) hw hst))

/-! ### Credits that leak (R314) -/

/-- The credits the partner grants, less those lost. -/
def Pair.window (p : Pair) : Nat := min 2047 (p.peerCredits - p.leaked)

/-- SENT as it was is kept for the next checks. -/
def Pair.checked (p : Pair) (hist : List Nat) : Pair := { p with sentHist := hist.drop (hist.length - 32) }

/-- A check of the credits shows the window. -/
def State.windowShown (s : State) : State :=
  ((s.put Fld.TDM_CREDIT_WINDOW s.fab.pair.window).count (Ctr.PAIR 0 2) (s.fab.pair.leaked - (s.fab.pair.peerCredits - s.get Fld.TDM_CREDIT_WINDOW))).modPair fun p =>
    p.checked (s.fab.pair.sentHist ++ [s.fab.pair.sent])

theorem creditCheck_effect {s : State} (hst : s.get Fld.TDM_LINK_STATE = 3) : ∃ f, exec .tandemCreditCheck s = done (s.begin.whenFabric f) ∧
    f s.begin = if s.fab.pair.window < s.get Fld.TDM_CREDIT_FLOOR then (s.begin.windowShown.raise Evt.TDM_CREDIT_RETRAIN).linkTo 1 else s.begin.windowShown := by
  refine ⟨_, rfl, ?_⟩
  have hfloor : s.begin.windowShown.get Fld.TDM_CREDIT_FLOOR = s.get Fld.TDM_CREDIT_FLOOR := by
    rw [State.windowShown, State.get_modPair, State.get_count, State.get_put_clear _ _ (by decide)]
    rfl
  rw [← hfloor]
  exact if_neg (by simp [hst])

theorem State.get_windowShown (s : State) {g : Field} (h : g.clearOf Fld.TDM_CREDIT_WINDOW = true) : s.windowShown.get g = s.get g := by
  rw [State.windowShown, State.get_modPair, State.get_count, State.get_put_clear _ _ h]

theorem State.window_windowShown (s : State) : s.windowShown.get Fld.TDM_CREDIT_WINDOW = s.fab.pair.window := by
  have hfit : s.fab.pair.window < 2 ^ 11 := by
    have h : s.fab.pair.window ≤ 2047 := Nat.min_le_left _ _
    omega
  rw [State.windowShown, State.get_modPair, State.get_count]
  exact State.get_put_lit _ (by decide) hfit

theorem State.counter_windowShown (s : State) : s.windowShown.counter (Ctr.PAIR 0 2) =
    s.counter (Ctr.PAIR 0 2) + BitVec.ofNat 64 (s.fab.pair.leaked - (s.fab.pair.peerCredits - s.get Fld.TDM_CREDIT_WINDOW)) := by
  rw [State.windowShown, State.counter_modPair, State.counter_count_same, State.counter_put]

theorem State.frame_windowShown (s : State) {ps : List Part} {fs : List Field} (hp : Part.pair ∈ ps) (hc : Part.ctrs ∈ ps) (hf : Fld.TDM_CREDIT_WINDOW ∈ fs) :
    Frame ps fs s s.begin.windowShown :=
  (((Frame.begin s).andPut _ hf).andCount _ _ hc).andModPair _ hp

/-- A link that goes down leaves the lanes' registers. -/
theorem State.get_unlinked_lane (s : State) {g : Field} (hw : g.lo + g.width ≤ 32) (h : 0x2000000 ≤ g.addr) : ((s.relinked 0).unlinked).get g = s.get g := by
  have hc : ∀ f : Field, f.addr < 0x2000000 → g.clearOf f = true := fun f hf => Field.clearOf_of_addr hw (by omega)
  rw [State.unlinked, State.get_put_clear _ _ (hc _ (by decide)), State.get_put_clear _ _ (hc _ (by decide)), State.relinked, State.get_modPair, State.get_put_clear _ _ (hc _ (by decide))]

theorem State.state_unlinked (s : State) : ((s.relinked 0).unlinked).get Fld.TDM_LINK_STATE = 0 := by
  rw [State.unlinked, State.get_put_clear _ _ (by decide), State.get_put_clear _ _ (by decide), State.relinked, State.get_modPair, State.get_put_lit _ (by decide) (by decide)]

theorem State.counter_unlinked (s : State) (c : Nat) : ((s.relinked 0).unlinked).counter c = s.counter c := by simp [State.unlinked, State.relinked]

/-- What the registers of a failed Tandem lane show. -/
structure State.FailShown (s t : State) (j : Fin 8) (cause : Fin 5) : Prop where
  failed : t.flag (Fld.LANE_STATUS_FAILED (256 + j.val)) = true
  cause : t.get (Fld.LANE_STATUS_FAIL_CAUSE (256 + j.val)) = cause.val + 1
  event : t.get (Evt.LANE_LANE_FAIL (256 + j.val)).field = 1
  counter : t.counter (Ctr.LANE (256 + j.val) 7) = s.counter (Ctr.LANE (256 + j.val) 7) + 1

theorem State.failShown_tandemFailed {s : State} (hrun : s.fabricRuns = true) (j : Fin 8) (cause : Fin 5) : s.FailShown (s.tandemFailed j.val (cause.val + 1)) j cause := by
  have hlive : s.live (lanePage (tandemLane j).val) = true := State.live_lanePage _ hrun
  refine ⟨?_, ?_, ?_, ?_⟩
  · have hget : (s.tandemFailed j.val (cause.val + 1)).get (Fld.LANE_STATUS_FAILED (256 + j.val)) = 1 := by
      rw [State.tandemFailed, State.get_count, State.get_raise_clear _ (Field.clearOf_of_base rfl rfl rfl), State.get_put_clear _ _ (Field.clearOf_of_base rfl rfl rfl),
        State.get_put_fits _ (Field.fits_of rfl)]
    rw [State.flag, hget]
    rfl
  · have hfit : cause.val + 1 < 2 ^ 4 := by omega
    rw [State.tandemFailed, State.get_count, State.get_raise_clear _ (Field.clearOf_of_base rfl rfl rfl)]
    exact State.get_put_lit _ (show 16 + 4 ≤ 32 by decide) hfit
  · rw [State.tandemFailed, State.get_count]
    exact State.get_raise_lane (tandemLane j) rfl ((State.live_congr (s := s) (by simp) (by simp) _).trans hlive) (show 1 < 6 by decide)
  · simp [State.tandemFailed]

theorem State.FailShown.unlinked {s t : State} {j : Fin 8} {cause : Fin 5} (h : s.FailShown t j cause) : s.FailShown ((t.relinked 0).unlinked) j cause := by
  have hhigh : 0x2000000 ≤ Addr.LANE_STATUS (256 + j.val) := by simp only [Addr.LANE_STATUS, lanePage_tandem]; omega
  have hevt : 0x2000000 ≤ lanePage (256 + j.val) * 0x10000 + 0x40 := by simp only [lanePage_tandem]; omega
  refine ⟨?_, ?_, ?_, (State.counter_unlinked t _).trans h.counter⟩
  · rw [State.flag, State.get_unlinked_lane _ (show 10 + 1 ≤ 32 by decide) hhigh]
    exact h.failed
  · exact (State.get_unlinked_lane _ (show 16 + 4 ≤ 32 by decide) hhigh).trans h.cause
  · exact (State.get_unlinked_lane _ (show 1 + 1 ≤ 32 by decide) hevt).trans h.event

theorem State.FailShown.settle {s t : State} {j : Fin 8} {cause : Fin 5} (h : s.FailShown t j cause) : s.FailShown t.settle j cause := by
  have hst : Addr.LANE_STATUS (256 + j.val) = lanePage (tandemLane j).val * 0x10000 + 0x1000 := rfl
  refine ⟨?_, (State.get_settle_lane _ (tandemLane j) hst).trans h.cause, (State.get_settle_lane _ (tandemLane j) (x := 0x40) rfl).trans h.event, ?_⟩
  · rw [State.flag, State.get_settle_lane _ (tandemLane j) hst]
    exact h.failed
  · rw [State.counter_settle, h.counter]

/-- The registers of the failed lane lie above the pair's page and outside the captures of messages. -/
theorem State.FailShown.of_eq {s t u : State} {j : Fin 8} {cause : Fin 5} (h : s.FailShown t j cause) (hc : ∀ c, u.counter c = t.counter c)
    (hw : ∀ g : Field, 0x2000000 ≤ g.addr → (g.addr % 0x10000 < 0x80 ∨ 0x98 ≤ g.addr % 0x10000) → g.lo + g.width ≤ 32 → u.get g = t.get g) : s.FailShown u j cause := by
  have hhigh : 0x2000000 ≤ Addr.LANE_STATUS (256 + j.val) := by simp only [Addr.LANE_STATUS, lanePage_tandem]; omega
  have hoff : 0x98 ≤ Addr.LANE_STATUS (256 + j.val) % 0x10000 := by simp only [Addr.LANE_STATUS]; omega
  have hevt : 0x2000000 ≤ evtPendAddr (lanePage (256 + j.val)) := by simp only [evtPendAddr, lanePage_tandem]; omega
  have hevo : evtPendAddr (lanePage (256 + j.val)) % 0x10000 < 0x80 := by simp only [evtPendAddr]; omega
  refine ⟨?_, (hw (Fld.LANE_STATUS_FAIL_CAUSE (256 + j.val)) hhigh (Or.inr hoff) (show 16 + 4 ≤ 32 by decide)).trans h.cause, (hw (Evt.LANE_LANE_FAIL (256 + j.val)).field hevt (Or.inl hevo) (show 1 + 1 ≤ 32 by decide)).trans h.event, (hc _).trans h.counter⟩
  rw [State.flag, hw (Fld.LANE_STATUS_FAILED (256 + j.val)) hhigh (Or.inr hoff) (show 10 + 1 ≤ 32 by decide)]
  exact h.failed

theorem State.quiet_tandemFailed (s : State) (j : Fin 8) (cause : Nat) : s.Quiet (s.begin.tandemLost j.val cause) := by
  have hst : regionOf (Addr.LANE_STATUS (256 + j.val)) = none := regionOf_lane (tandemLane j) (x := 0x1000) rfl (by decide)
  have hevt : regionOf (evtPendAddr (lanePage (256 + j.val))) = none := regionOf_lane (tandemLane j) (x := 0x40) rfl (by decide)
  have hlane : s.Quiet (s.begin.tandemFailed j.val cause) :=
    ((((State.Quiet.begin s).put (f := Fld.LANE_STATUS_FAILED (256 + j.val)) 1 hst).put (f := Fld.LANE_STATUS_FAIL_CAUSE (256 + j.val)) _ hst).raise
      (Evt.LANE_LANE_FAIL (256 + j.val)) hevt).count _ _
  have hlink : s.Quiet ((s.begin.tandemFailed j.val cause).relinked 0) := (hlane.put (f := Fld.TDM_LINK_STATE) 0).upd
  exact ((hlink.put (f := Fld.TDM_LINK_MISMATCH) 0).put (f := Fld.TDM_LINK_MPV) 0).raise _

theorem State.get_settle_tandem (s : State) (j : Fin 8) {g : Field} (h : g.addr / 0x10000 = 0x200 + j.val) : s.settle.get g = s.get g := State.get_settle _ (by omega)

/-- The registers of failed Tandem lanes. -/
def failRegs : List Field := (List.range 8).flatMap fun j => [Fld.LANE_STATUS_FAILED (256 + j), Fld.LANE_STATUS_FAIL_CAUSE (256 + j)]

/-- The Tandem lanes' FAILED bits are cleared. -/
def State.lanesCleared (s : State) : State := (List.range 8).foldl (fun s j => s.clearFailed (256 + j)) s

theorem Frame.andLanesCleared {ps : List Part} {fs : List Field} {s t : State} (h : Frame ps fs s t) (hf : ∀ g ∈ failRegs, g ∈ fs) : Frame ps fs s t.lanesCleared := by
  have hstep : ∀ l : List Nat, (∀ j ∈ l, j < 8) → ∀ {u : State}, Frame ps fs s u → Frame ps fs s (l.foldl (fun s j => s.clearFailed (256 + j)) u) := by
    intro l
    induction l with
    | nil => exact fun _ _ hu => hu
    | cons k l ih =>
      intro hl u hu
      have hk : k ∈ List.range 8 := List.mem_range.mpr (hl k List.mem_cons_self)
      exact ih (fun j hj => hl j (List.mem_cons_of_mem _ hj)) ((hu.andPut 0 (hf _ (List.mem_flatMap.mpr ⟨k, hk, by simp⟩))).andPut 0 (hf _ (List.mem_flatMap.mpr ⟨k, hk, by simp⟩)))
  exact hstep _ (fun j hj => List.mem_range.mp hj) h

theorem State.get_of_word {s t : State} {g : Field} (h : t.word g.addr = s.word g.addr) : t.get g = s.get g := by rw [State.get, State.get, h]

theorem State.word_clearFailed (s : State) (k : Nat) {a : Nat} (h : a ≠ Addr.LANE_STATUS (256 + k)) : (s.clearFailed (256 + k)).word a = s.word a :=
  (State.word_put_other (f := Fld.LANE_STATUS_FAIL_CAUSE (256 + k)) _ _ h).trans (State.word_put_other (f := Fld.LANE_STATUS_FAILED (256 + k)) _ _ h)

theorem State.failed_clearFailed (s : State) (j k : Nat) :
    (s.clearFailed (256 + k)).get (Fld.LANE_STATUS_FAILED (256 + j)) = if j = k then 0 else s.get (Fld.LANE_STATUS_FAILED (256 + j)) := by
  split
  · next h =>
    subst h
    exact (State.get_put_clear _ _ (Field.clearOf_of_base rfl rfl rfl)).trans (State.get_put_fits _ (Field.fits_of rfl))
  · next h => exact State.get_of_word (State.word_clearFailed s k (show Addr.LANE_STATUS (256 + j) ≠ Addr.LANE_STATUS (256 + k) by simp only [Addr.LANE_STATUS, lanePage_tandem]; omega))

theorem State.word_lanesCleared (s : State) {a : Nat} (h : ∀ j, a ≠ Addr.LANE_STATUS (256 + j)) : s.lanesCleared.word a = s.word a := by
  unfold State.lanesCleared
  generalize List.range 8 = l
  induction l generalizing s with
  | nil => rfl
  | cons k l ih => exact (ih (s.clearFailed (256 + k))).trans (s.word_clearFailed k (h k))

theorem State.get_lanesCleared_low (s : State) {g : Field} (h : g.addr < 0x2000000) : s.lanesCleared.get g = s.get g :=
  State.get_of_word (s.word_lanesCleared fun j => by simp only [Addr.LANE_STATUS, lanePage_tandem]; omega)

theorem State.failed_lanesCleared (s : State) (j : Fin 8) : s.lanesCleared.get (Fld.LANE_STATUS_FAILED (256 + j.val)) = 0 := by
  have hfold : ∀ (l : List Nat) (t : State), j.val ∈ l ∨ t.get (Fld.LANE_STATUS_FAILED (256 + j.val)) = 0 →
      (l.foldl (fun s j => s.clearFailed (256 + j)) t).get (Fld.LANE_STATUS_FAILED (256 + j.val)) = 0 := by
    intro l
    induction l with
    | nil => exact fun _ h => h.resolve_left (by simp)
    | cons k l ih =>
      intro t h
      refine ih _ ?_
      rw [State.failed_clearFailed]
      by_cases hk : j.val = k
      · exact Or.inr (if_pos hk)
      · rw [if_neg hk]
        exact h.imp_left fun hm => (List.mem_cons.mp hm).resolve_left hk
  exact hfold _ _ (Or.inl (List.mem_range.mpr j.isLt))

/-! ### The obligation -/

theorem regionOf_failRegs : ∀ g ∈ failRegs, regionOf g.addr = none := by
  intro g hg
  obtain ⟨j, hj, hg⟩ := List.mem_flatMap.mp hg
  have hj' : j < 8 := List.mem_range.mp hj
  have haddr : g.addr = Addr.LANE_STATUS (256 + j) := by
    rcases List.mem_cons.mp hg with rfl | hg
    · rfl
    · rw [List.mem_singleton.mp hg]
      rfl
  rw [haddr]
  exact regionOf_lane ⟨256 + j, by omega⟩ (x := 0x1000) rfl (by decide)

theorem regionOf_linkCoefs {fs : List Field} (h : ∀ g ∈ fs, regionOf g.addr = none) : ∀ g ∈ fs ++ coefRegs, regionOf g.addr = none :=
  List.forall_mem_append.mpr ⟨h, regionOf_coefRegs⟩

theorem mem_linkCoefs {fs : List Field} (h : ∀ g ∈ linkFields, g ∈ fs) : ∀ g ∈ linkFields ++ coefRegs, g ∈ fs ++ coefRegs :=
  List.forall_mem_append.mpr ⟨fun g hg => List.mem_append_left _ (h g hg), fun _ hg => List.mem_append_right _ hg⟩

theorem regionOf_tandemStatus (j : Fin 8) : regionOf (Addr.LANE_STATUS (256 + j.val)) = none := regionOf_lane (tandemLane j) (x := 0x1000) rfl (by decide)

theorem regionOf_polInv (j : Fin 8) : regionOf (Fld.LANE_STATUS_POL_INV (256 + j.val)).addr = none := regionOf_tandemStatus j

theorem tandemStatus_ne (j : Fin 8) {a : Nat} (h : a < 0x2000000) : Addr.LANE_STATUS (256 + j.val) ≠ a := by
  simp only [Addr.LANE_STATUS, lanePage_tandem]
  omega

theorem clearOf_polInv (j : Fin 8) (g : Field) (h : g.addr < 0x2000000) : (Fld.LANE_STATUS_POL_INV (256 + j.val)).clearOf g = true :=
  Field.clearOf_of_addr (show 7 + 1 ≤ 32 by decide) (tandemStatus_ne j h)

theorem clearOf_failed (j : Fin 8) (g : Field) (h : g.addr < 0x2000000) : (Fld.LANE_STATUS_FAILED (256 + j.val)).clearOf g = true :=
  Field.clearOf_of_addr (show 10 + 1 ≤ 32 by decide) (tandemStatus_ne j h)

section
variable {s : State} (hrun : s.fabricRuns = true)
include hrun

/-- The last intact alignment block of the last lane leads to TRAIN. -/
theorem alignBlock_completes : ∀ lane : Fin 8, ∀ inv : Bool, s.tandemOn = true → s.get Fld.TDM_LINK_STATE = 1 → 7 ≤ mget 0 s.fab.pair.aligned lane.val → (∀ j : Fin 8, j ≠ lane →
    8 ≤ mget 0 s.fab.pair.aligned j.val) → Answers (.tandemAlignBlockRx lane (if inv then (alignBlock lane.val).map fun b => ~~~b else alignBlock lane.val)) s fun t =>
    t.get Fld.TDM_LINK_STATE = 2 ∧ t.flag (Fld.LANE_STATUS_POL_INV (256 + lane.val)) = inv ∧
    Frame [.pair] [Fld.TDM_LINK_STATE, Fld.TDM_LINK_MISMATCH, Fld.TDM_LINK_MPV, Fld.LANE_STATUS_POL_INV (256 + lane.val)] s t := by
  intro lane inv hon hst hlane hall
  obtain ⟨f, he, hf⟩ := alignBlockRx_intact (lane := lane) (inv := inv) hon (Or.inl hst)
  have hn : min 8 (mget 0 s.fab.pair.aligned lane.val + 1) = 8 := by omega
  have hst' : (s.begin.blockSeen lane 8 inv).get Fld.TDM_LINK_STATE = 1 := (State.linkState_blockSeen s.begin lane 8 inv (by decide) (by decide)).trans hst
  have hall' : (s.begin.blockSeen lane 8 inv).allAligned 8 = true := State.allAligned_alignedAs (s := s.begin) (Nat.le_refl 8) hall
  have hfx : f s.begin = ((s.begin.blockSeen lane 8 inv).relinked 2).put Fld.TDM_LINK_MPV 0 := by
    rw [hf, hn]
    exact (if_pos (by rw [hst]; simpa using hall')).trans (State.linkTo_train (by rw [hst']; decide))
  have hframe : Frame [.pair] [Fld.TDM_LINK_STATE, Fld.TDM_LINK_MISMATCH, Fld.TDM_LINK_MPV, Fld.LANE_STATUS_POL_INV (256 + lane.val)] s
      (((s.begin.blockSeen lane 8 inv).relinked 2).put Fld.TDM_LINK_MPV 0) := ((((Frame.begin s).andBlockSeen lane 8 inv).andPut 2).andModPair Pair.relinked).andPut 0
  refine answers_fabric he hrun hfx hframe (hframe.home_dir (by simp)) (by simpa using ⟨by decide, by decide, by decide, regionOf_polInv lane⟩) fun hfr => ⟨?_, ?_, hfr⟩
  · rw [State.get_settle _ (by decide), State.get_put_clear _ _ (by decide), State.relinked, State.get_modPair, State.get_put_lit _ (by decide) (by decide)]
  · rw [State.flag, State.get_settle_lane _ (tandemLane lane) rfl, State.get_put_clear _ _ (clearOf_polInv lane _ (by decide)), State.relinked,
      State.get_modPair, State.get_put_clear _ _ (clearOf_polInv lane _ (by decide))]
    exact State.polInv_blockSeen s.begin lane 8 inv

/-- An intact alignment block is counted. -/
theorem alignBlock_counted : ∀ lane : Fin 8, ∀ inv : Bool, s.tandemOn = true → s.get Fld.TDM_LINK_STATE = 1 → mget 0 s.fab.pair.aligned lane.val < 7 →
    Answers (.tandemAlignBlockRx lane (if inv then (alignBlock lane.val).map fun b => ~~~b else alignBlock lane.val)) s fun t =>
    mget 0 t.fab.pair.aligned lane.val = mget 0 s.fab.pair.aligned lane.val + 1 ∧ t.flag (Fld.LANE_STATUS_POL_INV (256 + lane.val)) = inv ∧
    Frame [.pair] [Fld.LANE_STATUS_POL_INV (256 + lane.val)] s t := by
  intro lane inv hon hst hlane
  obtain ⟨f, he, hf⟩ := alignBlockRx_intact (lane := lane) (inv := inv) hon (Or.inl hst)
  have hn : min 8 (mget 0 s.fab.pair.aligned lane.val + 1) = mget 0 s.fab.pair.aligned lane.val + 1 := by omega
  have hnot : (s.begin.blockSeen lane (mget 0 s.fab.pair.aligned lane.val + 1) inv).allAligned 8 = false := by
    refine Bool.eq_false_iff.mpr fun hall => ?_
    have hl := List.all_eq_true.mp hall lane.val (List.mem_range.mpr lane.isLt)
    have hl' : 8 ≤ mget 0 (s.begin.alignedAs lane.val (mget 0 s.fab.pair.aligned lane.val + 1)).fab.pair.aligned lane.val := of_decide_eq_true hl
    rw [State.aligned_alignedAs, if_pos rfl] at hl'
    omega
  have hfx : f s.begin = s.begin.blockSeen lane (mget 0 s.fab.pair.aligned lane.val + 1) inv := by
    rw [hf, hn]
    refine (if_neg ?_).trans (if_neg ?_)
    · rw [hst]
      exact fun h => Bool.false_ne_true (hnot.symm.trans (by simpa using h))
    · simp [hst]
  have hframe : Frame [.pair] [Fld.LANE_STATUS_POL_INV (256 + lane.val)] s (s.begin.blockSeen lane (mget 0 s.fab.pair.aligned lane.val + 1) inv) :=
    (Frame.begin s).andBlockSeen lane _ inv
  refine answers_fabric he hrun hfx hframe (hframe.home_dir (by simp)) (by simpa using regionOf_polInv lane) fun hfr => ⟨?_, ?_, hfr⟩
  · rw [State.settle_fab]
    exact (State.aligned_alignedAs s.begin lane.val _ lane.val).trans (if_pos rfl)
  · rw [State.flag, State.get_settle_lane _ (tandemLane lane) rfl]
    exact State.polInv_blockSeen s.begin lane _ inv

/-- A damaged alignment block ends the run of its lane. -/
theorem alignBlock_broken : ∀ lane : Fin 8, ∀ blk : List Byte, s.tandemOn = true → s.get Fld.TDM_LINK_STATE = 1 → blk ≠ alignBlock lane.val → (blk ≠ (alignBlock lane.val).map fun b => ~~~b) →
    Answers (.tandemAlignBlockRx lane blk) s fun t => mget 0 t.fab.pair.aligned lane.val = 0 ∧ Frame [.pair] [] s t := by
  intro lane blk hon hst h1 h2
  obtain ⟨f, he, hf⟩ := alignBlockRx_damaged hon hst h1 h2
  have hframe : Frame [.pair] [] s (s.begin.alignedAs lane.val 0) := (Frame.begin s).andModPair _
  exact answers_fabric he hrun hf hframe (hframe.home_dir (by simp)) (by simp) fun hfr =>
    ⟨by rw [State.settle_fab]; exact (State.aligned_alignedAs s.begin lane.val 0 lane.val).trans (if_pos rfl), hfr⟩

/-- Four alignment blocks on every lane of a link in UP lead to ALIGN. -/
theorem alignBlock_retrains : ∀ lane : Fin 8, ∀ inv : Bool, s.tandemOn = true → s.get Fld.TDM_LINK_STATE = 3 → 3 ≤ mget 0 s.fab.pair.aligned lane.val → (∀ j : Fin 8, j ≠ lane →
    4 ≤ mget 0 s.fab.pair.aligned j.val) → Answers (.tandemAlignBlockRx lane (if inv then (alignBlock lane.val).map fun b => ~~~b else alignBlock lane.val)) s fun t =>
    t.get Fld.TDM_LINK_STATE = 1 ∧ t.get Evt.TDM_LINK_DOWN.field = 1 ∧ t.get Fld.TDM_LINK_MPV = 0 ∧ t.counter (Ctr.PAIR 0 6) = s.counter (Ctr.PAIR 0 6) + 1 ∧
    t.flag (Fld.LANE_STATUS_POL_INV (256 + lane.val)) = inv ∧ (∀ j : Fin 9, t.word (Addr.LANE_TX_COEF (256 + j.val)) = s.word (Addr.LANE_TX_CFG (256 + j.val))) ∧
    Frame [.pair, .ctrs] ([Fld.TDM_LINK_STATE, Fld.TDM_LINK_MISMATCH, Fld.TDM_LINK_MPV, Fld.LANE_STATUS_POL_INV (256 + lane.val),
    Evt.TDM_LINK_DOWN.field] ++ (List.range 9).map fun j => Field.all (Addr.LANE_TX_COEF (256 + j))) s t := by
  intro lane inv hon hst hlane hall
  obtain ⟨hup, hheld, -⟩ := State.fabricRuns_iff.mp hrun
  obtain ⟨f, he, hf⟩ := alignBlockRx_intact (lane := lane) (inv := inv) hon (Or.inr hst)
  have hst' : ∀ n, (s.begin.blockSeen lane n inv).get Fld.TDM_LINK_STATE = 3 := fun n => (State.linkState_blockSeen s.begin lane n inv (by decide) (by decide)).trans hst
  have hall' : (s.begin.blockSeen lane (min 8 (mget 0 s.fab.pair.aligned lane.val + 1)) inv).allAligned 4 = true :=
    State.allAligned_alignedAs (s := s.begin) (by omega) hall
  have hfx : f s.begin = (s.begin.blockSeen lane (min 8 (mget 0 s.fab.pair.aligned lane.val + 1)) inv).linkTo 1 := by
    rw [hf]
    refine (if_neg ?_).trans (if_pos ?_)
    · simp [hst]
    · rw [hst]
      simpa using hall'
  generalize min 8 (mget 0 s.fab.pair.aligned lane.val + 1) = n at hfx
  have hframe : Frame [.pair, .ctrs] ([Fld.TDM_LINK_STATE, Fld.TDM_LINK_MISMATCH, Fld.TDM_LINK_MPV, Fld.LANE_STATUS_POL_INV (256 + lane.val), Evt.TDM_LINK_DOWN.field] ++ coefRegs) s
      ((s.begin.blockSeen lane n inv).linkTo 1) :=
    ((Frame.begin s).andBlockSeen lane n inv).andLinkAlignUp (hst' n) (hf := mem_linkCoefs (by simp [linkFields]))
  have hals := (s.begin.blockSeen lane n inv).aligns_linkTo.settle
  refine answers_fabric he hrun hfx hframe (hframe.home_dir (by simp)) (regionOf_linkCoefs (by simpa using ⟨by decide, by decide, by decide, regionOf_polInv lane, by decide⟩)) fun hfr =>
    ⟨hals.state, ?_, hals.version, ?_, ?_, fun j => (hals.coefs j).trans ?_, hfr⟩
  · rw [State.get_settle _ (by decide), State.down_linkTo_align (hst' n) hup hheld]
  · rw [State.counter_settle, State.counter_linkTo_align (hst' n), if_pos rfl]
    rfl
  · rw [State.flag, State.get_settle_lane _ (tandemLane lane) rfl, State.get_linkTo_align]
    · exact State.polInv_blockSeen s.begin lane n inv
    · exact List.forall_mem_cons.mpr ⟨clearOf_polInv lane _ (by decide), List.forall_mem_cons.mpr ⟨clearOf_polInv lane _ (by decide), List.forall_mem_cons.mpr ⟨clearOf_polInv lane _ (by decide),
        List.forall_mem_singleton.mpr (clearOf_polInv lane _ (by decide))⟩⟩⟩
    · intro k
      simp only [Fld.LANE_STATUS_POL_INV, Addr.LANE_STATUS, Addr.LANE_TX_COEF, lanePage_tandem]
      omega
  · exact State.word_put_other (f := Fld.LANE_STATUS_POL_INV (256 + lane.val)) _ _
      (show Addr.LANE_TX_CFG (256 + j.val) ≠ Addr.LANE_STATUS (256 + lane.val) by simp only [Addr.LANE_STATUS, Addr.LANE_TX_CFG, lanePage_tandem]; omega)

/-- Training that takes too long begins again. -/
theorem trainTimeout_aligns : (s.get Fld.TDM_LINK_STATE = 1 ∨ (s.get Fld.TDM_LINK_STATE = 2 ∧ s.flag Fld.TDM_LINK_MISMATCH = false)) → Answers .tandemTrainTimeout s fun t => t.get Fld.TDM_LINK_STATE = 1 ∧
    t.fab.pair.aligned = [] ∧ t.fab.pair.train = none ∧ (∀ j : Fin 9, t.word (Addr.LANE_TX_COEF (256 + j.val)) = s.word (Addr.LANE_TX_CFG (256 + j.val))) ∧
    Frame [.pair] ([Fld.TDM_LINK_STATE, Fld.TDM_LINK_MISMATCH, Fld.TDM_LINK_MPV] ++ (List.range 9).map fun j => Field.all (Addr.LANE_TX_COEF (256 + j))) s t := by
  intro hst
  have hfx : (if s.begin.get Fld.TDM_LINK_STATE = 1 || (s.begin.get Fld.TDM_LINK_STATE = 2 && !s.begin.flag Fld.TDM_LINK_MISMATCH) then s.begin.linkTo 1 else s.begin) = s.begin.linkTo 1 :=
    if_pos (by rcases hst with h | ⟨h, hm⟩ <;> simp [h] ; simpa using hm)
  have hne : s.begin.get Fld.TDM_LINK_STATE ≠ 3 := by
    have h' : s.begin.get Fld.TDM_LINK_STATE = s.get Fld.TDM_LINK_STATE := rfl
    omega
  have hframe : Frame [.pair] ([Fld.TDM_LINK_STATE, Fld.TDM_LINK_MISMATCH, Fld.TDM_LINK_MPV] ++ coefRegs) s (s.begin.linkTo 1) :=
    (Frame.begin s).andLinkAlign hne (hf := mem_linkCoefs (by simp [linkFields]))
  have hals := s.begin.aligns_linkTo.settle
  exact answers_fabric rfl hrun hfx hframe (hframe.home_dir (by simp)) (regionOf_linkCoefs (by decide)) fun hfr => ⟨hals.state, hals.aligned, hals.train, hals.coefs, hfr⟩

/-- A mismatch keeps the link in TRAIN. -/
theorem trainTimeout_mismatched : s.get Fld.TDM_LINK_STATE = 2 → s.flag Fld.TDM_LINK_MISMATCH = true → Answers .tandemTrainTimeout s fun t => Frame [] [] s t := by
  intro hst hm
  have hfx : (if s.begin.get Fld.TDM_LINK_STATE = 1 || (s.begin.get Fld.TDM_LINK_STATE = 2 && !s.begin.flag Fld.TDM_LINK_MISMATCH) then s.begin.linkTo 1 else s.begin) = s.begin :=
    if_neg (by simp [hst, hm])
  exact answers_fabric rfl hrun hfx (Frame.begin s) rfl (by simp) fun hfr => hfr

/-- DOWN ends in ALIGN with no lane failed. -/
theorem downExpire_aligns : s.tandemOn = true → s.get Fld.TDM_LINK_STATE = 0 → Answers .tandemDownExpire s fun t => t.get Fld.TDM_LINK_STATE = 1 ∧
    (∀ j : Fin 8, t.flag (Fld.LANE_STATUS_FAILED (256 + j.val)) = false) ∧
    Frame [.pair] ([Fld.TDM_LINK_STATE, Fld.TDM_LINK_MISMATCH, Fld.TDM_LINK_MPV] ++ ((List.range 8).flatMap fun j =>
    [Fld.LANE_STATUS_FAILED (256 + j), Fld.LANE_STATUS_FAIL_CAUSE (256 + j)]) ++ (List.range 9).map fun j => Field.all (Addr.LANE_TX_COEF (256 + j))) s t := by
  intro hon hst
  have hfx : (if s.begin.tandemOn && s.begin.get Fld.TDM_LINK_STATE == 0 then s.begin.lanesCleared.linkTo 1 else s.begin) = s.begin.lanesCleared.linkTo 1 :=
    if_pos (by simp [hst, show s.begin.tandemOn = true from hon])
  have hst' : s.begin.lanesCleared.get Fld.TDM_LINK_STATE = 0 := (State.get_lanesCleared_low _ (by decide)).trans hst
  have hframe : Frame [.pair] ([Fld.TDM_LINK_STATE, Fld.TDM_LINK_MISMATCH, Fld.TDM_LINK_MPV] ++ failRegs ++ coefRegs) s (s.begin.lanesCleared.linkTo 1) :=
    ((Frame.begin s).andLanesCleared fun g hg => by simp [hg]).andLinkAlign (by rw [hst']; decide) (hf := mem_linkCoefs (by simp [linkFields]))
  refine answers_fabric rfl hrun hfx hframe (hframe.home_dir (by simp)) (regionOf_linkCoefs (List.forall_mem_append.mpr ⟨by decide, regionOf_failRegs⟩)) fun hfr =>
    ⟨s.begin.lanesCleared.aligns_linkTo.settle.state, fun j => ?_, hfr⟩
  have hlane : Addr.LANE_STATUS (256 + j.val) / 0x10000 = 0x200 + j.val := by simp only [Addr.LANE_STATUS, lanePage_tandem]; omega
  rw [State.flag, State.get_settle_tandem _ j hlane, State.get_linkTo_align _ ?_ ?_, State.failed_lanesCleared]
  · rfl
  · exact List.forall_mem_cons.mpr ⟨clearOf_failed j _ (by decide), List.forall_mem_cons.mpr ⟨clearOf_failed j _ (by decide), List.forall_mem_cons.mpr ⟨clearOf_failed j _ (by decide),
      List.forall_mem_singleton.mpr (clearOf_failed j _ (by decide))⟩⟩⟩
  · intro k
    simp only [Fld.LANE_STATUS_FAILED, Addr.LANE_STATUS, Addr.LANE_TX_COEF, lanePage_tandem]
    omega

/-- A lane that fails outside UP takes the link down without a message. -/
theorem tandemLaneFail_down : ∀ j : Fin 8, ∀ cause : Fin 5, s.flag Fld.TDM_CFG_EN = true → s.flag (Fld.LANE_STATUS_FAILED (256 + j.val)) = false → s.get Fld.TDM_LINK_STATE ≠ 3 →
    Answers (.tandemLaneFail j cause) s fun t => t.get Fld.TDM_LINK_STATE = 0 ∧ t.flag (Fld.LANE_STATUS_FAILED (256 + j.val)) = true ∧
    t.get (Fld.LANE_STATUS_FAIL_CAUSE (256 + j.val)) = cause.val + 1 ∧ t.get (Evt.LANE_LANE_FAIL (256 + j.val)).field = 1 ∧
    t.counter (Ctr.LANE (256 + j.val) 7) = s.counter (Ctr.LANE (256 + j.val) 7) + 1 ∧
    Frame [.pair, .ctrs] [Fld.TDM_LINK_STATE, Fld.TDM_LINK_MISMATCH, Fld.TDM_LINK_MPV, Fld.LANE_STATUS_FAILED (256 + j.val), Fld.LANE_STATUS_FAIL_CAUSE (256 + j.val),
    (Evt.LANE_LANE_FAIL (256 + j.val)).field] s t := by
  intro j cause hen hf hst
  obtain ⟨f, he, hf⟩ := tandemLaneFail_effect (cause := cause) hen hf
  have hlow : (s.begin.tandemFailed j.val (cause.val + 1)).get Fld.TDM_LINK_STATE = s.get Fld.TDM_LINK_STATE := State.get_tandemFailed _ j _ (by decide) (by decide)
  have hfx := hf.trans ((if_neg hst).trans (State.linkTo_down (by rw [hlow]; exact hst)))
  have hframe : Frame [.pair, .ctrs] [Fld.TDM_LINK_STATE, Fld.TDM_LINK_MISMATCH, Fld.TDM_LINK_MPV, Fld.LANE_STATUS_FAILED (256 + j.val), Fld.LANE_STATUS_FAIL_CAUSE (256 + j.val),
      (Evt.LANE_LANE_FAIL (256 + j.val)).field] s (((s.begin.tandemFailed j.val (cause.val + 1)).relinked 0).unlinked) :=
    ((((((((Frame.begin s).andPut 1).andPut _).andRaise).andCount _ _).andPut 0).andModPair Pair.relinked).andPut 0).andPut 0
  have hshown := (State.failShown_tandemFailed (s := s.begin) hrun j cause).unlinked.settle
  refine answers_fabric he hrun hfx hframe (hframe.home_dir (by simp)) ?_ fun hfr => ⟨?_, hshown.failed, hshown.cause, hshown.event, hshown.counter, hfr⟩
  · have hevt : regionOf (Evt.LANE_LANE_FAIL (256 + j.val)).field.addr = none := regionOf_lane (tandemLane j) (x := 0x40) rfl (by decide)
    simpa using ⟨by decide, by decide, by decide, regionOf_tandemStatus j, regionOf_tandemStatus j, hevt⟩
  · rw [State.get_settle _ (by decide), State.state_unlinked]

/-- A lane that fails in UP takes the link down with one message. -/
theorem tandemLaneFail_up : ∀ j : Fin 8, ∀ cause : Fin 5, s.flag Fld.TDM_CFG_EN = true → s.flag (Fld.LANE_STATUS_FAILED (256 + j.val)) = false → s.get Fld.TDM_LINK_STATE = 3 →
    Answers (.tandemLaneFail j cause) s fun t => t.get Fld.TDM_LINK_STATE = 0 ∧ t.flag (Fld.LANE_STATUS_FAILED (256 + j.val)) = true ∧
    t.get (Fld.LANE_STATUS_FAIL_CAUSE (256 + j.val)) = cause.val + 1 ∧ t.get (Evt.LANE_LANE_FAIL (256 + j.val)).field = 1 ∧
    t.counter (Ctr.LANE (256 + j.val) 7) = s.counter (Ctr.LANE (256 + j.val) 7) + 1 ∧ t.get Evt.TDM_LINK_DOWN.field = 1 ∧
    t.flt.net = s.flt.net ++ [s.message Kind.TLANE_FAIL 1 (0x200 + j.val) 0 8 (Party.lane (256 + j.val)) none] := by
  intro j cause hen hf hst
  obtain ⟨hup, hheld, -⟩ := State.fabricRuns_iff.mp hrun
  obtain ⟨f, he, hf⟩ := tandemLaneFail_effect (cause := cause) hen hf
  have hlow : (s.begin.tandemFailed j.val (cause.val + 1)).get Fld.TDM_LINK_STATE = 3 := (State.get_tandemFailed _ j _ (by decide) (by decide)).trans hst
  have hfx := hf.trans (if_pos hst)
  rw [State.linkTo_down_up hlow] at hfx
  change f s.begin = (s.begin.tandemLost j.val (cause.val + 1)).sendFault ((s.begin.tandemLost j.val (cause.val + 1)).message Kind.TLANE_FAIL 1 (0x200 + j.val) 0 8
    (Party.lane (256 + j.val)) none) at hfx
  have hclk : (s.begin.tandemLost j.val (cause.val + 1)).clk = s.clk := by simp [State.tandemLost, State.tandemFailed, State.relinked, State.unlinked]
  have hflt : (s.begin.tandemLost j.val (cause.val + 1)).flt = s.flt := by simp [State.tandemLost, State.tandemFailed, State.relinked, State.unlinked]
  have hsrc : ¬ (0x600 ≤ 0x200 + j.val ∧ 0x200 + j.val ≤ 0x605) := by omega
  have hcap : ∀ {g : Field}, (g.addr < 0x2000000 ∨ g.addr % 0x10000 < 0x80 ∨ 0x98 ≤ g.addr % 0x10000) → g.addr < (0x200 + j.val) * 0x10000 + 0x80 ∨ (0x200 + j.val) * 0x10000 + 0x98 ≤ g.addr :=
    fun h => by omega
  have hdown : (s.begin.tandemLost j.val (cause.val + 1)).get Evt.TDM_LINK_DOWN.field = 1 :=
    State.get_raise_fabric (by simpa [State.tandemFailed, State.relinked, State.unlinked] using hup) (by simpa [State.tandemFailed, State.relinked, State.unlinked] using hheld) rfl
      (by decide) (by decide)
  have hbase := (State.failShown_tandemFailed (s := s.begin) hrun j cause).unlinked
  have hshown := (hbase.of_eq (u := s.begin.tandemLost j.val (cause.val + 1)) (fun c => State.counter_raise _ c _)
    fun g hg _ hw => State.get_raise_clear _ (Field.clearOf_of_addr hw (Nat.ne_of_gt (Nat.lt_of_lt_of_le (by decide) hg)))).of_eq (fun c => State.counter_sendFault _ c _)
    (fun g _ ho _ => State.get_sendMessage _ (s.begin.tandemLost j.val (cause.val + 1)) Kind.TLANE_FAIL 1 (0x200 + j.val) 0 8 (Party.lane (256 + j.val)) none (hcap (Or.inr ho)))
  refine answers_quiet he hrun hfx ((s.quiet_tandemFailed j _).sendMessage _ _ _ _ _ _ _ _ hsrc) ⟨?_, hshown.settle.failed, hshown.settle.cause, hshown.settle.event, hshown.settle.counter, ?_, ?_⟩
  · rw [State.get_settle _ (by decide), State.get_sendMessage _ _ _ _ _ _ _ _ _ (hcap (Or.inl (by decide))), State.tandemLost, State.get_raise_clear _ (by decide), State.state_unlinked]
  · rw [State.get_settle _ (by decide), State.get_sendMessage _ _ _ _ _ _ _ _ _ (hcap (Or.inl (by decide)))]
    exact hdown
  · have hmsg : (s.begin.tandemLost j.val (cause.val + 1)).message Kind.TLANE_FAIL 1 (0x200 + j.val) 0 8 (Party.lane (256 + j.val)) none =
        s.message Kind.TLANE_FAIL 1 (0x200 + j.val) 0 8 (Party.lane (256 + j.val)) none := State.message_congr hclk _ _ _ _ _ _ _
    rw [State.settle_flt, State.sendFault_flt_of_up _ (by rw [hclk]; exact hup), hmsg, hflt]

/-- An alignment block goes out in place of a frame. -/
theorem alignPeriodic_sends : s.get Fld.TDM_LINK_STATE = 3 → Answers .tandemAlignPeriodic s fun t => t.out = [.align ((List.range 8).map alignBlock)] ∧ Frame [.out] [] s t := by
  intro hst
  have hfx : (if s.begin.get Fld.TDM_LINK_STATE == 3 then s.begin.emit (.align (tabulate 8 alignBlock)) else s.begin) = s.begin.emit (.align ((List.range 8).map alignBlock)) :=
    if_pos (by simp [hst])
  exact answers_fabric rfl hrun hfx ((Frame.begin s).andEmit _) rfl (by simp) fun hfr => ⟨by simp, hfr⟩

/-- A check of the credits shows the window. -/
theorem creditCheck_shows : s.get Fld.TDM_LINK_STATE = 3 → s.get Fld.TDM_CREDIT_FLOOR ≤ min 2047 (s.fab.pair.peerCredits - s.fab.pair.leaked) → Answers .tandemCreditCheck s fun t =>
    t.get Fld.TDM_CREDIT_WINDOW = min 2047 (s.fab.pair.peerCredits - s.fab.pair.leaked) ∧
    t.counter (Ctr.PAIR 0 2) = s.counter (Ctr.PAIR 0 2) + BitVec.ofNat 64 (s.fab.pair.leaked - (s.fab.pair.peerCredits - s.get Fld.TDM_CREDIT_WINDOW)) ∧
    Frame [.pair, .ctrs] [Fld.TDM_CREDIT_WINDOW] s t := by
  intro hst hfl
  obtain ⟨f, he, hf⟩ := creditCheck_effect hst
  have hframe : Frame [.pair, .ctrs] [Fld.TDM_CREDIT_WINDOW] s (s.begin.windowShown) := s.frame_windowShown (by simp) (by simp) (by simp)
  refine answers_fabric he hrun (hf.trans (if_neg (Nat.not_lt.mpr hfl))) hframe (hframe.home_dir (by simp)) (by decide) fun hfr => ⟨?_, ?_, hfr⟩
  · rw [State.get_settle _ (by decide)]
    exact State.window_windowShown s.begin
  · rw [State.counter_settle]
    exact State.counter_windowShown s.begin

/-- A window below its floor retrains the link. -/
theorem creditCheck_retrains : s.get Fld.TDM_LINK_STATE = 3 → min 2047 (s.fab.pair.peerCredits - s.fab.pair.leaked) < s.get Fld.TDM_CREDIT_FLOOR → Answers .tandemCreditCheck s fun t =>
    t.get Fld.TDM_CREDIT_WINDOW = min 2047 (s.fab.pair.peerCredits - s.fab.pair.leaked) ∧
    t.counter (Ctr.PAIR 0 2) = s.counter (Ctr.PAIR 0 2) + BitVec.ofNat 64 (s.fab.pair.leaked - (s.fab.pair.peerCredits - s.get Fld.TDM_CREDIT_WINDOW)) ∧
    t.get Fld.TDM_LINK_STATE = 1 ∧ t.get Evt.TDM_CREDIT_RETRAIN.field = 1 ∧ t.get Evt.TDM_LINK_DOWN.field = 1 ∧
    (∀ j : Fin 9, t.word (Addr.LANE_TX_COEF (256 + j.val)) = s.word (Addr.LANE_TX_CFG (256 + j.val))) ∧
    Frame [.pair, .ctrs] ([Fld.TDM_CREDIT_WINDOW, Fld.TDM_LINK_STATE, Fld.TDM_LINK_MISMATCH, Fld.TDM_LINK_MPV, Evt.TDM_CREDIT_RETRAIN.field,
    Evt.TDM_LINK_DOWN.field] ++ (List.range 9).map fun j => Field.all (Addr.LANE_TX_COEF (256 + j))) s t := by
  intro hst hfl
  obtain ⟨hup, hheld, -⟩ := State.fabricRuns_iff.mp hrun
  obtain ⟨f, he, hf⟩ := creditCheck_effect hst
  have hst' : (s.begin.windowShown.raise Evt.TDM_CREDIT_RETRAIN).get Fld.TDM_LINK_STATE = 3 := by
    rw [State.get_raise_clear _ (by decide), State.get_windowShown _ (by decide)]
    exact hst
  have hframe : Frame [.pair, .ctrs] ([Fld.TDM_CREDIT_WINDOW, Fld.TDM_LINK_STATE, Fld.TDM_LINK_MISMATCH, Fld.TDM_LINK_MPV, Evt.TDM_CREDIT_RETRAIN.field, Evt.TDM_LINK_DOWN.field] ++
      coefRegs) s ((s.begin.windowShown.raise Evt.TDM_CREDIT_RETRAIN).linkTo 1) :=
    ((s.frame_windowShown (by simp) (by simp) (by simp)).andRaise (by simp)).andLinkAlignUp hst' (hf := mem_linkCoefs (by simp [linkFields]))
  have hals := (s.begin.windowShown.raise Evt.TDM_CREDIT_RETRAIN).aligns_linkTo.settle
  refine answers_fabric he hrun (hf.trans (if_pos hfl)) hframe (hframe.home_dir (by simp)) (regionOf_linkCoefs (by decide)) fun hfr =>
    ⟨?_, ?_, hals.state, ?_, ?_, fun j => (hals.coefs j).trans ?_, hfr⟩
  · rw [State.get_settle _ (by decide), State.get_linkTo_align _ (by decide) fun k => by simp only [Fld.TDM_CREDIT_WINDOW, Addr.TDM_CREDIT, Addr.LANE_TX_COEF, lanePage_tandem]; omega,
      State.get_raise_clear _ (by decide)]
    exact State.window_windowShown s.begin
  · rw [State.counter_settle, State.counter_linkTo_align hst', if_neg (by decide), State.counter_raise]
    exact State.counter_windowShown s.begin
  · rw [State.get_settle _ (by decide), State.get_linkTo_align _ (by decide) fun k => by simp only [Evt.TDM_CREDIT_RETRAIN, Event.field, evtPendAddr, Addr.LANE_TX_COEF, lanePage_tandem]; omega]
    exact State.get_raise_fabric (by simpa [State.windowShown] using hup) (by simpa [State.windowShown] using hheld) rfl (by decide) (by decide)
  · rw [State.get_settle _ (by decide)]
    exact State.down_linkTo_align hst' (by simpa [State.windowShown] using hup) (by simpa [State.windowShown] using hheld)
  · have hcfg : ∀ a, a < 0x2000000 → Addr.LANE_TX_CFG (256 + j.val) ≠ a := fun a ha => by simp only [Addr.LANE_TX_CFG, lanePage_tandem]; omega
    rw [State.word_raise_other _ (hcfg _ (by decide))]
    exact State.word_put_other (f := Fld.TDM_CREDIT_WINDOW) _ _ (hcfg _ (by decide))

/-- A damaged frame is dropped and counted. -/
theorem idleRx_damaged : ∀ h : TdmHeader, s.tandemOn = true → s.get Fld.TDM_LINK_STATE = 3 → (h.intact = false ∨ 3 ≤ h.kind.toNat) → s.fab.pair.train = none → Answers (.tandemIdleRx h) s fun t =>
    t.counter (Ctr.PAIR 1 1) = s.counter (Ctr.PAIR 1 1) + 1 ∧ t.fab.pair.cretIn = s.fab.pair.cretIn ∧ t.fab.pair.rxcntIn = s.fab.pair.rxcntIn ∧ Frame [.pair, .ctrs] [] s t := by
  intro h hon hst hbad ht
  have hframe : Frame [.pair, .ctrs] [] s s.begin.frameMissed := (((Frame.begin s).andModPair _).andCount _ _).andModPair _
  refine answers_fabric rfl hrun (State.frame_damaged (s := s.begin) hon hst hbad ht) hframe (hframe.home_dir (by simp)) (by simp) fun hfr => ⟨?_, ?_, ?_, hfr⟩
  · simp [State.frameMissed]
  · simp [State.frameMissed, Pair.untrained, Pair.framed]
  · simp [State.frameMissed, Pair.untrained, Pair.framed]

/-- An intact frame brings its credits. -/
theorem idleRx_intact : ∀ h : TdmHeader, s.tandemOn = true → s.get Fld.TDM_LINK_STATE = 3 → h.intact = true → h.kind.toNat ≤ 2 → s.fab.pair.journal = [] → s.fab.pair.ackDue = false →
    s.fab.pair.reqDue = false → s.fab.pair.bulk = none → Answers (.tandemIdleRx h) s fun t => t.counter (Ctr.PAIR 1 0) = s.counter (Ctr.PAIR 1 0) + 1 ∧
    t.fab.pair.cretIn = h.cret.toNat ∧ t.fab.pair.rxcntIn = h.rxcnt.toNat ∧ Frame [.pair, .ctrs] [] s t := by
  intro h hon hst hi hk hj ha hr hb
  obtain ⟨hup, hheld, -⟩ := State.fabricRuns_iff.mp hrun
  have hidle : (s.begin.frameTaken h).StreamIdle := State.StreamIdle.of_eq (s := s) ⟨hj, ha, hr, hb⟩ rfl rfl rfl rfl
  have hup' : (s.begin.frameTaken h).get Fld.TDM_LINK_STATE = 3 := hst
  have hfx : s.begin.frame h State.notTrain = s.begin.frameTaken h := by
    rw [State.frame_intact (s := s.begin) hon hst hi hk, State.notTrain_up (by rw [hup']; decide), hidle.pump, hidle.resync]
  have hframe : Frame [.pair, .ctrs] [] s (s.begin.frameTaken h) := (((Frame.begin s).andModPair _).andCount _ _).andModPair _
  refine answers_fabric rfl hrun hfx hframe (hframe.home_dir (by simp)) (by simp) fun hfr => ⟨?_, ?_, ?_, hfr⟩
  · simp [State.frameTaken]
  · simp [State.frameTaken, Pair.credited]
  · simp [State.frameTaken, Pair.credited]

/-- Outside TRAIN and UP no frame counts. -/
theorem idleRx_off : ∀ h : TdmHeader, s.get Fld.TDM_LINK_STATE < 2 → Answers (.tandemIdleRx h) s fun t => Frame [] [] s t := by
  intro h hst
  exact answers_fabric rfl hrun (State.frame_off (s := s.begin) hst) (Frame.begin s) rfl (by simp) fun hfr => hfr

/-- A MIRROR frame in order returns its credit. -/
theorem mirrorRx_next : ∀ h : TdmHeader, ∀ fseq : Word, ∀ r : Bool, s.tandemOn = true → s.get Fld.TDM_LINK_STATE = 3 → h.intact = true → h.kind.toNat ≤ 2 → fseq.toNat = s.fab.pair.fseqIn →
    s.fab.pair.rxcnt < 65535 → s.fab.pair.cretOut < 65535 → s.fab.pair.journal = [] → s.fab.pair.ackDue = false → s.fab.pair.reqDue = false → s.fab.pair.bulk = none →
    Answers (.tandemMirrorRx h fseq r) s fun t => t.counter (Ctr.PAIR 1 0) = s.counter (Ctr.PAIR 1 0) + 1 ∧ t.fab.pair.cretIn = h.cret.toNat ∧
    t.fab.pair.rxcntIn = h.rxcnt.toNat ∧ t.fab.pair.rxcnt = s.fab.pair.rxcnt + 1 ∧ t.fab.pair.cretOut = s.fab.pair.cretOut + 1 ∧ t.fab.pair.fseqIn = (fseq.toNat + 1) % 2 ^ 32 ∧
    Frame [.pair, .ctrs] [] s t := by
  intro h fseq r hon hst hi hk hseq hrx hcr hj ha hr hb
  obtain ⟨hup, hheld, -⟩ := State.fabricRuns_iff.mp hrun
  have hup' : (s.begin.frameTaken h).get Fld.TDM_LINK_STATE = 3 := hst
  have hidle : ((s.begin.frameTaken h).modPair fun p => p.mirrored fseq.toNat r).StreamIdle := State.StreamIdle.of_eq (s := s) ⟨hj, ha, hr, hb⟩ rfl rfl rfl rfl
  have hfx : (s.begin.frame h fun s => s.mirrorFrame fseq.toNat r) = (s.begin.frameTaken h).modPair fun p => p.mirrored fseq.toNat r := by
    rw [State.frame_intact (s := s.begin) hon hst hi hk, State.mirrorFrame_next (s := s.begin.frameTaken h) r hup' hseq, hidle.pump, hidle.resync]
  have hframe : Frame [.pair, .ctrs] [] s ((s.begin.frameTaken h).modPair fun p => p.mirrored fseq.toNat r) :=
    ((((Frame.begin s).andModPair _).andCount _ _).andModPair _).andModPair _
  refine answers_fabric rfl hrun hfx hframe (hframe.home_dir (by simp)) (by simp) fun hfr => ⟨?_, ?_, ?_, ?_, ?_, ?_, hfr⟩
  · simp [State.frameTaken]
  · simp [State.frameTaken, Pair.credited, Pair.mirrored]
  · simp [State.frameTaken, Pair.credited, Pair.mirrored]
  · have hlt : (s.fab.pair.rxcnt + 1) % 65536 = s.fab.pair.rxcnt + 1 := Nat.mod_eq_of_lt (by omega)
    simp [State.frameTaken, Pair.credited, Pair.mirrored, Pair.framed, hlt]
  · have hlt : (s.fab.pair.cretOut + 1) % 65536 = s.fab.pair.cretOut + 1 := Nat.mod_eq_of_lt (by omega)
    simp [State.frameTaken, Pair.credited, Pair.mirrored, Pair.framed, hlt]
  · simp [Pair.mirrored]

/-- A gap in the order is told, and the missing records are requested. -/
theorem mirrorRx_gap : ∀ h : TdmHeader, ∀ fseq : Word, ∀ r : Bool, s.tandemOn = true → s.get Fld.TDM_LINK_STATE = 3 → s.get Fld.TDM_LINK_MPV ≠ 0 → h.intact = true → h.kind.toNat ≤ 2 →
    fseq.toNat ≠ s.fab.pair.fseqIn → s.isStandby = true → s.fab.pair.adopt = false → s.fab.pair.gap = false →
    (s.fab.pair.sent + 65536 - h.cret.toNat) % 65536 < s.fab.pair.peerCredits → s.fab.pair.journal = [] → s.fab.pair.ackDue = false → s.fab.pair.reqDue = false →
    s.fab.pair.bulk = none → Answers (.tandemMirrorRx h fseq r) s fun t => t.get Evt.TDM_GAP.field = 1 ∧ t.fab.pair.gap = true ∧
    t.out = [.ackRec false ((s.get Fld.TDM_HSEQ_SEQ + 1) % 2 ^ 32) 0] ∧ t.counter (Ctr.PAIR 1 3) = s.counter (Ctr.PAIR 1 3) + 1 ∧
    Frame [.pair, .ctrs, .out] [Evt.TDM_GAP.field] s t := by
  intro h fseq r hon hst hmpv hi hk hseq hsb had hgap hcred hj ha hr hb
  obtain ⟨hup, hheld, -⟩ := State.fabricRuns_iff.mp hrun
  have hup' : (s.begin.frameTaken h).get Fld.TDM_LINK_STATE = 3 := hst
  have hgot : (s.begin.frameTaken h).mirrorFrame fseq.toNat r = (s.begin.frameTaken h).gapAsked fseq.toNat r := by
    rw [State.mirrorFrame_gap (s := s.begin.frameTaken h) r hup' hseq hsb had hgap]
    exact State.gapSeen_asked (s := (s.begin.frameTaken h).modPair fun p => p.mirrored fseq.toNat r) hj ha (State.canSend_one hst hmpv hcred)
  have hpair : ((s.begin.frameTaken h).gapAsked fseq.toNat r).fab.pair = (((s.fab.pair.framed 3).credited h).mirrored fseq.toNat r).asked := State.pair_gapAsked _ _ _
  have hidle : ((s.begin.frameTaken h).gapAsked fseq.toNat r).StreamIdle := ⟨by rw [hpair]; exact hj, by rw [hpair]; exact ha, by rw [hpair]; rfl, by rw [hpair]; exact hb⟩
  have hfx : (s.begin.frame h fun s => s.mirrorFrame fseq.toNat r) = (s.begin.frameTaken h).gapAsked fseq.toNat r := by
    rw [State.frame_intact (s := s.begin) hon hst hi hk, hgot, hidle.pump, hidle.resync]
  have hframe : Frame [.pair, .ctrs, .out] [Evt.TDM_GAP.field] s ((s.begin.frameTaken h).gapAsked fseq.toNat r) :=
    ((((((((((((((Frame.begin s).andModPair _).andCount _ _).andModPair _).andModPair _).andRaise).andCount _ _).andModPair _).andModPair _).andCount _ _).andCount _ _).andModPair _).andEmit _).andCount _ _)
  have hseqNow : (((s.begin.frameTaken h).modPair fun p => p.mirrored fseq.toNat r).gapTold.get Fld.TDM_HSEQ_SEQ) = s.get Fld.TDM_HSEQ_SEQ := State.get_raise_clear _ (by decide)
  refine answers_fabric rfl hrun hfx hframe (hframe.home_dir (by simp)) (by decide) fun hfr => ⟨?_, ?_, ?_, ?_, hfr⟩
  · rw [State.get_settle _ (by decide), State.get_gapAsked]
    exact State.get_raise_fabric (s := (s.begin.frameTaken h).modPair fun p => p.mirrored fseq.toNat r) hup hheld rfl (by decide) (by decide)
  · rw [State.settle_fab, hpair]
    rfl
  · rw [State.settle_out, State.gapAsked, State.resendAsked, hseqNow]
    simp [State.gapTold, State.sendFrames, State.frameTaken]
  · rw [State.counter_settle, State.counter_gapAsked, State.frameTaken, State.counter_modPair, State.counter_count_other _ _ (by decide), State.counter_modPair, State.counter_begin]

/-- A damaged MIRROR frame is dropped and counted. -/
theorem mirrorRx_damaged : ∀ h : TdmHeader, ∀ fseq : Word, ∀ r : Bool, s.tandemOn = true → s.get Fld.TDM_LINK_STATE = 3 → (h.intact = false ∨ 3 ≤ h.kind.toNat) → s.fab.pair.train = none →
    Answers (.tandemMirrorRx h fseq r) s fun t => t.counter (Ctr.PAIR 1 1) = s.counter (Ctr.PAIR 1 1) + 1 ∧ t.fab.pair.rxcnt = s.fab.pair.rxcnt ∧
    t.fab.pair.fseqIn = s.fab.pair.fseqIn ∧ Frame [.pair, .ctrs] [] s t := by
  intro h fseq r hon hst hbad ht
  have hframe : Frame [.pair, .ctrs] [] s s.begin.frameMissed := (((Frame.begin s).andModPair _).andCount _ _).andModPair _
  refine answers_fabric rfl hrun (State.frame_damaged (s := s.begin) hon hst hbad ht) hframe (hframe.home_dir (by simp)) (by simp) fun hfr => ⟨?_, ?_, ?_, hfr⟩
  · simp [State.frameMissed]
  · simp [State.frameMissed, Pair.untrained, Pair.framed]
  · simp [State.frameMissed, Pair.untrained, Pair.framed]

/-- A payload that does not fit the pair is a mismatch. -/
theorem trainRx_mismatch : ∀ h : TdmHeader, ∀ q : TrainPayload, s.tandemOn = true → s.get Fld.TDM_LINK_STATE = 2 → h.intact = true → h.kind.toNat ≤ 2 → s.flag Fld.TDM_LINK_MISMATCH = false →
    (q.modId ≠ s.get Fld.CLK_STRAPS_MOD_ID ∨ q.strap = s.strapB) → s.fab.pair.journal = [] → s.fab.pair.ackDue = false → s.fab.pair.reqDue = false → s.fab.pair.bulk = none →
    Answers (.tandemTrainRx h q) s fun t => t.get Fld.TDM_LINK_PEER_MOD_ID = q.modId % 8 ∧ t.flag Fld.TDM_LINK_PEER_STRAP = q.strap ∧ t.flag Fld.TDM_LINK_MISMATCH = true ∧
    t.get Evt.TDM_MISMATCH.field = 1 ∧ t.get Fld.TDM_LINK_STATE = 2 ∧ t.out = [.train s.ownTrain] ∧
    Frame [.pair, .ctrs, .out] [Fld.TDM_LINK_PEER_MOD_ID, Fld.TDM_LINK_PEER_STRAP, Fld.TDM_LINK_MISMATCH, Evt.TDM_MISMATCH.field] s t := by
  intro h q hon hst hi hk hm hbad hj ha hr hb
  obtain ⟨hup, hheld, -⟩ := State.fabricRuns_iff.mp hrun
  have hst' : s.begin.frameTrained.get Fld.TDM_LINK_STATE = 2 := hst
  have hfx : (s.begin.frame h fun s => s.trainFrame q) = ((s.begin.frameTrained.raise Evt.TDM_MISMATCH).peerShown true q).modPair fun p => p.trained q := by
    have hidle : (((s.begin.frameTrained.raise Evt.TDM_MISMATCH).peerShown true q).modPair fun p => p.trained q).StreamIdle := State.idle_trained (t := s) ⟨hj, ha, hr, hb⟩ (by
      simp [State.frameTrained, State.peerShown])
    rw [State.frame_training (s := s.begin) hon hst hi hk, State.trainFrame_bad (s := s.begin.frameTrained) hst' hm hbad, hidle.pump, hidle.resync]
  have hframe : Frame [.pair, .ctrs, .out] [Fld.TDM_LINK_PEER_MOD_ID, Fld.TDM_LINK_PEER_STRAP, Fld.TDM_LINK_MISMATCH, Evt.TDM_MISMATCH.field] s
      (((s.begin.frameTrained.raise Evt.TDM_MISMATCH).peerShown true q).modPair fun p => p.trained q) :=
    (((((((((Frame.begin s).andModPair _).andEmit _).andCount _ _).andRaise).andPut _).andPut _).andPut _).andModPair _)
  obtain ⟨hmis, hmod, hstrap⟩ := State.shows_peerShown (s.begin.frameTrained.raise Evt.TDM_MISMATCH) true q
  refine answers_fabric rfl hrun hfx hframe (hframe.home_dir (by simp)) (by decide) fun hfr => ⟨?_, ?_, ?_, ?_, ?_, ?_, hfr⟩
  · rw [State.get_settle _ (by decide), State.get_modPair, hmod]
  · rw [State.flag, State.get_settle _ (by decide)]
    exact hstrap
  · rw [State.flag, State.get_settle _ (by decide)]
    exact hmis
  · rw [State.get_settle _ (by decide), State.get_modPair, State.get_peerShown _ _ _ (by decide)]
    exact State.get_raise_fabric (s := s.begin.frameTrained) hup hheld rfl (by decide) (by decide)
  · rw [State.get_settle _ (by decide), State.get_modPair, State.get_peerShown _ _ _ (by decide), State.get_raise_clear _ (by decide)]
    exact hst
  · rw [State.settle_out]
    simp [State.peerShown, State.frameTrained]
    rfl

/-- A first payload starts a run of eight. -/
theorem trainRx_first : ∀ h : TdmHeader, ∀ q : TrainPayload, s.tandemOn = true → s.get Fld.TDM_LINK_STATE = 2 → h.intact = true → h.kind.toNat ≤ 2 → q.modId = s.get Fld.CLK_STRAPS_MOD_ID →
    q.strap ≠ s.strapB → s.fab.pair.train ≠ some q → s.fab.pair.journal = [] → s.fab.pair.ackDue = false → s.fab.pair.reqDue = false → s.fab.pair.bulk = none →
    Answers (.tandemTrainRx h q) s fun t => t.get Fld.TDM_LINK_PEER_MOD_ID = q.modId % 8 ∧ t.flag Fld.TDM_LINK_PEER_STRAP = q.strap ∧ t.flag Fld.TDM_LINK_MISMATCH = false ∧
    t.fab.pair.train = some q ∧ t.fab.pair.trainRx = 1 ∧ t.fab.pair.trainTx = 0 ∧ t.get Fld.TDM_LINK_STATE = 2 ∧ t.out = [.train s.ownTrain] ∧
    Frame [.pair, .ctrs, .out] [Fld.TDM_LINK_PEER_MOD_ID, Fld.TDM_LINK_PEER_STRAP, Fld.TDM_LINK_MISMATCH] s t := by
  intro h q hon hst hi hk hid hs ht hj ha hr hb
  have hst' : s.begin.frameTrained.get Fld.TDM_LINK_STATE = 2 := hst
  have hpair : (s.begin.frameTrained.trainShown q).fab.pair = (s.fab.pair.framed 2).trained q := s.pair_trainShown q
  have hnew : (s.fab.pair.framed 2).trained q = { s.fab.pair.framed 2 with train := some q, trainRx := 1, trainTx := 0 } := if_neg ht
  have hfx : (s.begin.frame h fun s => s.trainFrame q) = s.begin.frameTrained.trainShown q := by
    have hidle : (s.begin.frameTrained.trainShown q).StreamIdle := State.idle_trained (t := s) ⟨hj, ha, hr, hb⟩ (by
      simp [State.frameTrained, State.peerShown])
    rw [State.frame_training (s := s.begin) hon hst hi hk, State.trainFrame_good (s := s.begin.frameTrained) hst' hid hs,
      State.trainCheck_of_short (Or.inl (by rw [hpair, hnew]; exact Nat.one_lt_succ_succ 6)), hidle.pump, hidle.resync]
  have hframe : Frame [.pair, .ctrs, .out] [Fld.TDM_LINK_PEER_MOD_ID, Fld.TDM_LINK_PEER_STRAP, Fld.TDM_LINK_MISMATCH] s
      (s.begin.frameTrained.trainShown q) :=
    ((((((((Frame.begin s).andModPair _).andEmit _).andCount _ _).andPut _).andPut _).andPut _).andModPair _)
  obtain ⟨hmis, hmod, hstrap⟩ := State.shows_peerShown s.begin.frameTrained false q
  refine answers_fabric rfl hrun hfx hframe (hframe.home_dir (by simp)) (by decide) fun hfr => ⟨?_, ?_, ?_, ?_, ?_, ?_, ?_, ?_, hfr⟩
  · rw [State.get_settle _ (by decide), State.get_trainShown, hmod]
  · rw [State.flag, State.get_settle _ (by decide)]
    exact hstrap
  · rw [State.flag, State.get_settle _ (by decide)]
    exact hmis
  · rw [State.settle_fab, hpair, hnew]
  · rw [State.settle_fab, hpair, hnew]
  · rw [State.settle_fab, hpair, hnew]
  · rw [State.get_settle _ (by decide), State.get_trainShown, State.get_peerShown _ _ _ (by decide)]
    exact hst
  · rw [State.settle_out]
    simp [State.trainShown, State.peerShown, State.frameTrained]
    rfl

/-- The eighth identical payload each way brings the link up. -/
theorem trainRx_up : ∀ h : TdmHeader, ∀ q : TrainPayload, s.tandemOn = true → s.get Fld.TDM_LINK_STATE = 2 → h.intact = true → h.kind.toNat ≤ 2 → q.modId = s.get Fld.CLK_STRAPS_MOD_ID →
    q.strap ≠ s.strapB → s.fab.pair.train = some q → s.fab.pair.trainRx = 7 → 7 ≤ s.fab.pair.trainTx → s.role = 2 → s.partner = none → s.get Fld.TIME_STATUS_SRC = 0 →
    s.flag Fld.TIME_CFG_FOLLOW_EN = false → s.fab.pair.journal = [] → s.fab.pair.ackDue = false → s.fab.pair.reqDue = false → s.fab.pair.bulk = none →
    Answers (.tandemTrainRx h q) s fun t => t.get Fld.TDM_LINK_STATE = 3 ∧ t.get Evt.TDM_LINK_UP.field = 1 ∧ t.get Fld.TDM_LINK_MPV = s.commonVersion q ∧ (s.commonVersion q = 0 →
    t.get Evt.TDM_VERSION.field = 1) ∧ t.get Fld.TDM_CREDIT_WINDOW = min 2047 q.credits ∧ t.fab.pair.sent = 0 ∧ t.fab.pair.peerCredits = q.credits ∧ t.fab.pair.rxcnt = 0 ∧
    t.fab.pair.cretOut = 0 ∧ t.fab.pair.fseqIn = 0 ∧ Frame [.pair, .ctrs, .out] [Fld.TDM_LINK_PEER_MOD_ID, Fld.TDM_LINK_PEER_STRAP, Fld.TDM_LINK_MISMATCH, Fld.TDM_LINK_STATE,
    Fld.TDM_LINK_MPV, Fld.TDM_CREDIT_WINDOW, Evt.TDM_LINK_UP.field, Evt.TDM_VERSION.field] s t := by
  intro h q hon hst hi hk hid hs ht hrx htx hrole hp hsrc hfo hj ha hr hb
  obtain ⟨hup, hheld, -⟩ := State.fabricRuns_iff.mp hrun
  have hst' : s.begin.frameTrained.get Fld.TDM_LINK_STATE = 2 := hst
  have hpair : (s.begin.frameTrained.trainShown q).fab.pair = (s.fab.pair.framed 2).trained q := State.pair_trainShown _ _
  have hrun8 : ((s.fab.pair.framed 2).trained q).train = some q ∧ 8 ≤ ((s.fab.pair.framed 2).trained q).trainRx ∧ 8 ≤ ((s.fab.pair.framed 2).trained q).trainTx := by
    have hnew : (s.fab.pair.framed 2).trained q = { s.fab.pair.framed 2 with trainRx := min 8 ((s.fab.pair.framed 2).trainRx + 1) } := if_pos ht
    have hrx' : (s.fab.pair.framed 2).trainRx = 7 := hrx
    have htx' : (s.fab.pair.framed 2).trainTx = min 8 (s.fab.pair.trainTx + 1) := rfl
    rw [hnew]
    exact ⟨ht, by simp only [hrx']; decide, by simp only [htx']; omega⟩
  obtain ⟨ht8, hrx8, htx8⟩ := hrun8
  have hkeep : ∀ {g : Field}, (∀ f ∈ [Fld.TDM_LINK_MISMATCH, Fld.TDM_LINK_PEER_MOD_ID, Fld.TDM_LINK_PEER_STRAP], g.clearOf f = true) → (s.begin.frameTrained.trainShown q).get g = s.get g :=
    fun hg => State.get_peerShown s.begin.frameTrained false q hg
  obtain ⟨hmis, hmod, hstrap⟩ := State.shows_peerShown s.begin.frameTrained false q
  have hidle : (s.begin.frameTrained.trainShown q).StreamIdle := State.idle_trained (t := s) ⟨hj, ha, hr, hb⟩ (by simp [State.frameTrained, State.peerShown])
  have hup3 : (s.begin.frameTrained.trainShown q).linkUpNow q = ((s.begin.frameTrained.trainShown q).upShown q).modPair Pair.alone := by
    refine State.linkUpNow_solo hidle ((hkeep (by decide)).trans hrole) ?_ ((hkeep (by decide)).trans hsrc) ?_
    · rw [State.partner_trainShown, hp]
    · rw [State.flag, hkeep (by decide)]
      exact hfo
  have hpairUp : (((s.begin.frameTrained.trainShown q).upShown q).modPair Pair.alone).fab.pair = (((s.fab.pair.framed 2).trained q).relinked.fresh q).alone := by
    rw [State.modPair_fab]
    exact congrArg Pair.alone ((State.pair_upShown _ q).trans (by rw [hpair]))
  have hidleUp : (((s.begin.frameTrained.trainShown q).upShown q).modPair Pair.alone).StreamIdle := by
    have hkept : ∀ p : Pair, (p.relinked.fresh q).alone.journal = p.journal ∧ (p.relinked.fresh q).alone.ackDue = p.ackDue ∧ (p.relinked.fresh q).alone.reqDue = p.reqDue ∧
        (p.relinked.fresh q).alone.bulk = p.bulk := fun _ => ⟨rfl, rfl, rfl, rfl⟩
    obtain ⟨h1, h2, h3, h4⟩ := hkept ((s.fab.pair.framed 2).trained q)
    rw [← hpair] at h1 h2 h3 h4
    exact hidle.of_eq (by rw [hpairUp, ← hpair]; exact h1) (by rw [hpairUp, ← hpair]; exact h2) (by rw [hpairUp, ← hpair]; exact h3) (by rw [hpairUp, ← hpair]; exact h4)
  have hfx : (s.begin.frame h fun s => s.trainFrame q) = ((s.begin.frameTrained.trainShown q).upShown q).modPair Pair.alone := by
    have hm : (s.begin.frameTrained.trainShown q).flag Fld.TDM_LINK_MISMATCH = false := hmis
    rw [State.frame_training (s := s.begin) hon hst hi hk, State.trainFrame_good (s := s.begin.frameTrained) hst' hid hs,
      State.trainCheck_complete (by rw [hpair]; exact ht8) (by rw [hpair]; exact hrx8) (by rw [hpair]; exact htx8) hm, hup3, hidleUp.pump, hidleUp.resync]
  have hframe : Frame [.pair, .ctrs, .out] [Fld.TDM_LINK_PEER_MOD_ID, Fld.TDM_LINK_PEER_STRAP, Fld.TDM_LINK_MISMATCH, Fld.TDM_LINK_STATE, Fld.TDM_LINK_MPV, Fld.TDM_CREDIT_WINDOW,
      Evt.TDM_LINK_UP.field, Evt.TDM_VERSION.field] s (((s.begin.frameTrained.trainShown q).upShown q).modPair Pair.alone) :=
    (Frame.andUpShown (((((((Frame.begin s).andModPair _).andEmit _).andCount _ _).andPut _).andPut _).andPut _ |>.andModPair _) q (by simp [upFields])).andModPair _
  have hver : (s.begin.frameTrained.trainShown q).commonVersion q = s.commonVersion q := by simp only [State.commonVersion, hkeep (g := Fld.DEV_FW_VER_VER) (by decide)]
  have hclk : (s.begin.frameTrained.trainShown q).clk = s.clk := by simp [State.trainShown, State.frameTrained, State.peerShown]
  have hshows := State.upShows_upShown (s := s.begin.frameTrained.trainShown q) q (by rw [hclk]; exact hup) (by rw [hclk]; exact hheld)
  obtain ⟨hstate, hevt, hmpv, hno, hwin⟩ := hshows
  rw [hver] at hmpv hno
  refine answers_fabric rfl hrun hfx hframe (hframe.home_dir (by simp)) (by decide) fun hfr => ⟨?_, ?_, ?_, fun hz => ?_, ?_, ?_, ?_, ?_, ?_, ?_, hfr⟩
  · rw [State.get_settle _ (by decide), State.get_modPair, hstate]
  · rw [State.get_settle _ (by decide), State.get_modPair, hevt]
  · rw [State.get_settle _ (by decide), State.get_modPair, hmpv]
  · rw [State.get_settle _ (by decide), State.get_modPair, hno hz]
  · rw [State.get_settle _ (by decide), State.get_modPair, hwin]
  all_goals
    rw [State.settle_fab, hpairUp]
    rfl

end

/-- Settles O41, clause by clause. -/
theorem tandemLink : Obligations.TandemLink := by
  unfold Obligations.TandemLink
  exact fun s hrun => ⟨alignBlock_completes hrun, alignBlock_counted hrun, alignBlock_broken hrun, alignBlock_retrains hrun, trainTimeout_aligns hrun, trainTimeout_mismatched hrun, downExpire_aligns hrun, tandemLaneFail_down hrun, tandemLaneFail_up hrun, alignPeriodic_sends hrun, creditCheck_shows hrun, creditCheck_retrains hrun, idleRx_damaged hrun, idleRx_intact hrun, idleRx_off hrun, mirrorRx_next hrun, mirrorRx_gap hrun, mirrorRx_damaged hrun, trainRx_mismatch hrun, trainRx_first hrun, trainRx_up hrun⟩

end Sys2Proof.Machine
end

section
/-! PROOFS. Refutation of the statement on the Ehrurn link (O20). -/
namespace Sys2Proof.Machine
open Sys2Proof
set_option Elab.async false

/-! ### A request at the management endpoint when a slot is arbitrated (O20, R181) -/

/-- The link of tile 0 is UP, nothing waits for admission, and a read for the management endpoint stands in its input. -/
def readAtManagement : State :=
  ({ State.reset with
      clk := { Clk.reset with mgmtUp := true, fabricHeld := false },
      fab := { Fabric.reset with sw := { Fabric.reset.sw with iep := [(3, [{ kind := .ioNp }])] } } } : State).put (Fld.EHR_STATUS_STATE 0) 2

theorem readAtManagement_due : readAtManagement.fabricRuns = true ∧ readAtManagement.slotFree 0 (2 * 0) = true ∧ readAtManagement.freeCtr = 0 := by
  decide

/-- The endpoint serves the read after the slot, with data the model leaves open. -/
theorem readAtManagement_served (t : State) (h : exec (.ehrurnSlotArbitrate 0 false) readAtManagement = .next t) : t.freeCtr = 1 := by
  obtain rfl : _ = t := Host.Outcome.next.inj h
  decide

/-- Refutes O20: its clause on a slot of the tile-to-hub direction changes the switch and the counters alone, whatever stands in the input of the management endpoint, which serves
that input after the slot. -/
theorem not_ehrurnLink : ¬ Obligations.EhrurnLink := by
  unfold Obligations.EhrurnLink
  intro h
  obtain ⟨hruns, hfree, hzero⟩ := readAtManagement_due
  obtain ⟨-, hup, -⟩ := h readAtManagement 0 hruns
  obtain ⟨t, ht, -, -, -, hframe⟩ := hup hfree rfl
  have hkept : t.freeCtr = readAtManagement.freeCtr := hframe.1 .free (by decide)
  rw [readAtManagement_served t ht, hzero] at hkept
  exact absurd hkept (by decide)

end Sys2Proof.Machine
end

section
/-! PROOFS. Rules and their commit (O23, R280 to R283, R309). -/
namespace Sys2Proof.Machine
open Sys2Proof
set_option Elab.async false

/-! ### Operations on the switch alone -/

/-- Two states differ in the switch, the counters and the values left open, and in nothing else. -/
def State.SwitchOnly (s t : State) : Prop := ∃ w c n, t = { s with ctrs := c, freeCtr := n, fab := { s.fab with sw := w } }

namespace State.SwitchOnly
variable {s t u : State}

theorem refl (s : State) : s.SwitchOnly s := ⟨_, _, _, rfl⟩

theorem trans (h : s.SwitchOnly t) (h' : t.SwitchOnly u) : s.SwitchOnly u := by
  obtain ⟨w, c, n, rfl⟩ := h
  obtain ⟨w', c', n', rfl⟩ := h'
  exact ⟨w', c', n', rfl⟩

theorem modSw (h : s.SwitchOnly t) (f : Switch → Switch) : s.SwitchOnly (t.modSw f) := h.trans ⟨_, _, _, rfl⟩
theorem count (h : s.SwitchOnly t) (c n : Nat) : s.SwitchOnly (t.count c n) := h.trans ⟨_, _, _, rfl⟩
theorem used (h : s.SwitchOnly t) (n : Nat) : s.SwitchOnly (t.used n) := h.trans ⟨_, _, _, rfl⟩

theorem foldl {α : Type} (f : State → α → State) (hf : ∀ (t : State) (x : α), t.SwitchOnly (f t x)) (l : List α) : ∀ {t : State}, s.SwitchOnly t → s.SwitchOnly (l.foldl f t) := by
  induction l with
  | nil => exact fun h => h
  | cons x l ih => exact fun h => ih (h.trans (hf _ x))

theorem track {m m' : Msg} (h : s.SwitchOnly t) (ht : t.track m = some (u, m')) : s.SwitchOnly u := by
  unfold State.track at ht
  split at ht
  · obtain ⟨rfl, -⟩ := Prod.mk.inj (Option.some.inj ht)
    exact h
  · split at ht
    · obtain ⟨rfl, -⟩ := Prod.mk.inj (Option.some.inj ht)
      exact h
    · dsimp only at ht
      split at ht
      · cases ht
      · obtain ⟨rfl, -⟩ := Prod.mk.inj (Option.some.inj ht)
        exact ((h.used 1).modSw _).modSw _

theorem queueMsg (h : s.SwitchOnly t) (m : Msg) : s.SwitchOnly (t.queueMsg m) := by
  unfold State.queueMsg
  dsimp only
  split
  · next heq => exact (h.track heq).modSw _
  · exact (h.count _ _).modSw _

theorem freeSlotOf (h : s.SwitchOnly t) (m : Msg) : s.SwitchOnly (t.freeSlotOf m) := by
  unfold State.freeSlotOf
  split
  · exact h.modSw _
  · exact h

theorem freeCells (h : s.SwitchOnly t) (l : List Nat) : s.SwitchOnly (t.freeCells l) := foldl _ (fun t _ => (refl t).modSw _) l h

theorem unref (h : s.SwitchOnly t) (l : List Nat) : s.SwitchOnly (t.unref l) := by
  refine foldl _ (fun t k => ?_) l h
  split
  · split
    · exact ((refl t).modSw _).freeCells _
    · exact (refl t).modSw _
  · exact refl t

theorem unlink (h : s.SwitchOnly t) (f : Nat → Msg → Bool) : s.SwitchOnly (t.unlink f) := by
  unfold State.unlink State.deactivate
  exact (((h.modSw _).freeCells _).unref _).modSw _

theorem regs (h : s.SwitchOnly t) : t.regs = s.regs := by obtain ⟨_, _, _, rfl⟩ := h; rfl
theorem get (h : s.SwitchOnly t) (g : Field) : t.get g = s.get g := State.get_congr h.regs g
theorem clk (h : s.SwitchOnly t) : t.clk = s.clk := by obtain ⟨_, _, _, rfl⟩ := h; rfl
theorem hs (h : s.SwitchOnly t) : t.hs = s.hs := by obtain ⟨_, _, _, rfl⟩ := h; rfl
theorem hat (h : s.SwitchOnly t) : t.fab.hat = s.fab.hat := by obtain ⟨_, _, _, rfl⟩ := h; rfl
theorem home (h : s.SwitchOnly t) : t.fab.home = s.fab.home := by obtain ⟨_, _, _, rfl⟩ := h; rfl
theorem dlog (h : s.SwitchOnly t) : t.fab.dlog = s.fab.dlog := by obtain ⟨_, _, _, rfl⟩ := h; rfl

end State.SwitchOnly

/-! ### A message that nothing picks stays where it is -/

/-- What waits for admission, the strands and the inputs of the endpoints are the same. -/
structure State.QueuesKept (s t : State) : Prop where
  iep : t.fab.sw.iep = s.fab.sw.iep
  strands : t.fab.sw.strands = s.fab.sw.strands
  waiting : t.fab.sw.waiting = s.fab.sw.waiting

namespace State.QueuesKept
variable {s t u : State}

theorem refl (s : State) : s.QueuesKept s := ⟨rfl, rfl, rfl⟩
theorem trans (h : s.QueuesKept t) (h' : t.QueuesKept u) : s.QueuesKept u := ⟨h'.iep.trans h.iep, h'.strands.trans h.strands, h'.waiting.trans h.waiting⟩

theorem foldl {α : Type} (f : State → α → State) (hf : ∀ (t : State) (x : α), t.QueuesKept (f t x)) (l : List α) : ∀ {t : State}, s.QueuesKept t → s.QueuesKept (l.foldl f t) := by
  induction l with
  | nil => exact fun h => h
  | cons x l ih => exact fun h => ih (h.trans (hf _ x))

theorem freeCells (h : s.QueuesKept t) (l : List Nat) : s.QueuesKept (t.freeCells l) := by
  refine foldl _ (fun t k => ?_) l h
  exact ⟨rfl, rfl, rfl⟩

theorem unref (h : s.QueuesKept t) (l : List Nat) : s.QueuesKept (t.unref l) := by
  refine foldl _ (fun t k => ?_) l h
  split
  · split
    · refine freeCells ?_ _
      exact ⟨rfl, rfl, rfl⟩
    · exact ⟨rfl, rfl, rfl⟩
  · exact refl t

theorem deactivate (h : s.QueuesKept t) : s.QueuesKept t.deactivate := h.trans ⟨rfl, rfl, rfl⟩

end State.QueuesKept

/-- The strands without the messages that f picks. -/
def Switch.without (w : Switch) (f : Nat → Msg → Bool) : Switch :=
  { w with strands := ((w.strands.map fun x => (x.1, { x.2 with msgs := x.2.msgs.filter fun e => !f (x.1 / 4096 / 8) e.msg })).map fun x => (x.1, x.2.release)).filter fun x =>
             !x.2.msgs.isEmpty
           waiting := w.waiting.filter fun m => !f m.dst m }

theorem State.queuesKept_unlink (s : State) (f : Nat → Msg → Bool) : (s.modSw fun w => w.without f).QueuesKept (s.unlink f) := by
  unfold State.unlink
  exact (((State.QueuesKept.refl _).freeCells _).unref _).deactivate

/-- What is picked after messages have been removed was there before. -/
theorem State.caught_unlink {s : State} {f g : Nat → Msg → Bool} (h : s.caught g = []) : (s.unlink f).caught g = [] := by
  obtain ⟨hiep, hstr, hwait⟩ := s.queuesKept_unlink f
  obtain ⟨h1, h2⟩ := List.append_eq_nil_iff.mp h
  refine List.append_eq_nil_iff.mpr ⟨?_, ?_⟩
  · rw [hstr, List.flatten_eq_nil_iff]
    rw [List.flatten_eq_nil_iff] at h1
    intro l hl
    obtain ⟨x, hx, rfl⟩ := List.mem_map.mp hl
    obtain ⟨hx, -⟩ := List.mem_filter.mp hx
    obtain ⟨y, hy, rfl⟩ := List.mem_map.mp hx
    obtain ⟨z, hz, rfl⟩ := List.mem_map.mp hy
    have hnone := List.map_eq_nil_iff.mp (h1 _ (List.mem_map.mpr ⟨z, hz, rfl⟩))
    refine List.map_eq_nil_iff.mpr (List.filter_eq_nil_iff.mpr fun e he => ?_)
    exact List.filter_eq_nil_iff.mp hnone e (List.mem_of_mem_filter he)
  · rw [hwait]
    exact List.filter_eq_nil_iff.mpr fun m hm => List.filter_eq_nil_iff.mp h2 m (List.mem_of_mem_filter hm)

/-! ### Retiring an epoch (R282) -/

/-- The messages under an epoch other than the one in force. -/
def oldEpoch (e : Nat) (m : Msg) : Bool := match m.epoch with | some e' => e' != e | none => false

theorem State.retireEpoch_due {s : State} (hc : s.flag Fld.HAT_STATUS_COMMIT_DONE = false) (hr : s.fab.hat.refilled = true) (ht : s.fab.hat.tilesOld = []) (ho : s.oldMsgs = []) :
    s.retireEpoch = (s.put Fld.HAT_STATUS_COMMIT_DONE 1).raise Evt.HAT_COMMIT_DONE := if_pos (by simp [hc, hr, ht, ho])

theorem State.retireEpoch_cases (s : State) : s.retireEpoch = s ∨ s.retireEpoch = (s.put Fld.HAT_STATUS_COMMIT_DONE 1).raise Evt.HAT_COMMIT_DONE := by
  unfold State.retireEpoch
  split
  · exact .inr rfl
  · exact .inl rfl

theorem Frame.andRetireEpoch {ps : List Part} {fs : List Field} {s t : State} (h : Frame ps fs s t) (h1 : Fld.HAT_STATUS_COMMIT_DONE ∈ fs := by simp)
    (h2 : Evt.HAT_COMMIT_DONE.field ∈ fs := by simp) : Frame ps fs s t.retireEpoch := by
  rcases t.retireEpoch_cases with h' | h' <;> rw [h']
  · exact h
  · exact (h.andPut 1 h1).andRaise h2

theorem State.retireEpoch_fab (s : State) : s.retireEpoch.fab = s.fab := by
  rcases s.retireEpoch_cases with h | h <;> rw [h]
  simp

theorem State.get_retireEpoch (s : State) {g : Field} (h1 : g.clearOf Fld.HAT_STATUS_COMMIT_DONE = true) (h2 : g.clearOf Evt.HAT_COMMIT_DONE.field = true) :
    s.retireEpoch.get g = s.get g := by
  rcases s.retireEpoch_cases with h | h <;> rw [h]
  rw [State.get_raise_clear _ h2, State.get_put_clear _ _ h1]

/-- A commit that is complete says so. -/
theorem State.shows_retireEpoch {s : State} (hup : s.clk.mgmtUp = true) (hheld : s.clk.fabricHeld = false) (hc : s.flag Fld.HAT_STATUS_COMMIT_DONE = false)
    (hr : s.fab.hat.refilled = true) (ht : s.fab.hat.tilesOld = []) (ho : s.oldMsgs = []) :
    s.retireEpoch.get Fld.HAT_STATUS_COMMIT_DONE = 1 ∧ s.retireEpoch.get Evt.HAT_COMMIT_DONE.field = 1 := by
  rw [State.retireEpoch_due hc hr ht ho]
  refine ⟨?_, State.get_raise_fabric (by simpa using hup) (by simpa using hheld) rfl (by decide) (by decide)⟩
  rw [State.get_raise_clear _ (by decide), State.get_put_lit _ (by decide) (by decide)]

/-! ### Commits (R280, R281) -/

/-- The shadow is in force under the next epoch, and every tile is to swap. -/
def State.ruleCommitted (s : State) : State :=
  (((s.modHat fun h => { h with active := s.shadow, old := s.fab.hat.active, tilesOld := [0, 1, 2, 3], refilled := false }).put Fld.HAT_STATUS_COMMIT_DONE 0).put
    Fld.HAT_STATUS_REFUSED 0).put Fld.HAT_STATUS_EPOCH ((s.get Fld.HAT_STATUS_EPOCH + 1) % 65536)

theorem State.commitRules_active {s : State} (ha : s.isActive = true) (hc : s.flag Fld.HAT_STATUS_COMMIT_DONE = true) (hb : s.badRules = []) :
    ∃ b, s.commitRules = s.ruleCommitted.issue 17 b := by
  refine ⟨_, (if_neg (by simp [ha, hc])).trans (if_neg (by simp [hb]))⟩

theorem State.commitRules_refused {s : State} (ha : s.isActive = true) (hc : s.flag Fld.HAT_STATUS_COMMIT_DONE = true) (hb : s.badRules ≠ []) :
    s.commitRules = (s.put Fld.HAT_STATUS_REFUSED 1).raise Evt.HAT_COMMIT_REFUSED :=
  (if_neg (by simp [ha, hc])).trans (if_pos (by simpa using hb))

theorem State.commitRules_ignored {s : State} (h : s.isActive = false ∨ s.flag Fld.HAT_STATUS_COMMIT_DONE = false) : s.commitRules = s.raise Evt.HAT_WRITE_IGNORED :=
  if_pos (by rcases h with h | h <;> simp [h])

/-! ### Aborting what is left of an old epoch (R282) -/

/-- What an abort leaves: all of the rules, and every register but those that count and tell of aborts. -/
structure State.AbortKept (s t : State) : Prop where
  hat : t.fab.hat = s.fab.hat
  clk : t.clk = s.clk
  get : ∀ g : Field, g.clearOf Fld.HAT_ABORTS_COUNT = true → g.clearOf Evt.HAT_COMMIT_ABORT.field = true → t.get g = s.get g

theorem State.AbortKept.trans {s t u : State} (h : s.AbortKept t) (h' : t.AbortKept u) : s.AbortKept u :=
  ⟨h'.hat.trans h.hat, h'.clk.trans h.clk, fun g h1 h2 => (h'.get g h1 h2).trans (h.get g h1 h2)⟩

theorem State.SwitchOnly.abortKept {s t : State} (h : s.SwitchOnly t) : s.AbortKept t := ⟨h.hat, h.clk, fun g _ _ => h.get g⟩

/-- An aborted access is counted before its answers are queued. -/
def State.abortCounted (s : State) (m : Msg) : State := ((s.freeSlotOf m).count (Ctr.SUB m.sub 7)).addSat Fld.HAT_ABORTS_COUNT 1

theorem State.switchOnly_abort (s : State) (m : Msg) : (s.abortCounted m).SwitchOnly (m.faulted.foldl State.queueMsg (s.abortCounted m)) :=
  State.SwitchOnly.foldl _ (fun t x => (State.SwitchOnly.refl t).queueMsg x) _ (State.SwitchOnly.refl _)

theorem State.abortKept_abortAccess (s : State) (m : Msg) : s.AbortKept (s.abortAccess m) := by
  have hfree : s.SwitchOnly ((s.freeSlotOf m).count (Ctr.SUB m.sub 7)) := ((State.SwitchOnly.refl s).freeSlotOf m).count _ _
  have hcount : ((s.freeSlotOf m).count (Ctr.SUB m.sub 7)).AbortKept (s.abortCounted m) := ⟨by simp [State.abortCounted, State.addSat], by simp [State.abortCounted, State.addSat],
    fun g h1 _ => State.get_put_clear _ _ h1⟩
  refine ((hfree.abortKept.trans hcount).trans (s.switchOnly_abort m).abortKept).trans ⟨?_, ?_, fun g _ h2 => State.get_raise_clear _ h2⟩
  · exact congrArg Fabric.hat (State.raise_fab _ _)
  · exact State.raise_clk _ _

theorem State.aborts_abortAccess (s : State) (m : Msg) : (s.abortAccess m).get Fld.HAT_ABORTS_COUNT = min (2 ^ 32 - 1) (s.get Fld.HAT_ABORTS_COUNT + 1) := by
  have hfree : s.SwitchOnly ((s.freeSlotOf m).count (Ctr.SUB m.sub 7)) := ((State.SwitchOnly.refl s).freeSlotOf m).count _ _
  refine (State.get_raise_clear _ (by decide)).trans (((s.switchOnly_abort m).get _).trans ((State.get_addSat _ 1 (by decide)).trans ?_))
  rw [hfree.get]
  rfl

theorem State.abort_abortAccess {s : State} (hup : s.clk.mgmtUp = true) (hheld : s.clk.fabricHeld = false) (m : Msg) : (s.abortAccess m).get Evt.HAT_COMMIT_ABORT.field = 1 := by
  have hclk : (m.faulted.foldl State.queueMsg (s.abortCounted m)).clk = s.clk := by
    rw [(s.switchOnly_abort m).clk]
    exact (State.put_clk _ _ _).trans (((State.SwitchOnly.refl s).freeSlotOf m).count _ _).clk
  exact State.get_raise_fabric (s := m.faulted.foldl State.queueMsg (s.abortCounted m)) (by rw [hclk]; exact hup) (by rw [hclk]; exact hheld) rfl (by decide) (by decide)

theorem min_add_min (k c n : Nat) : min k (min k c + n) = min k (c + n) := by omega

/-- Every message of a list is aborted. -/
theorem State.abort_foldl (l : List Msg) : ∀ s : State, s.AbortKept (l.foldl State.abortAccess s) ∧
    (l.foldl State.abortAccess s).get Fld.HAT_ABORTS_COUNT = min (2 ^ 32 - 1) (s.get Fld.HAT_ABORTS_COUNT + l.length) ∧
    (s.clk.mgmtUp = true → s.clk.fabricHeld = false → l ≠ [] → (l.foldl State.abortAccess s).get Evt.HAT_COMMIT_ABORT.field = 1) := by
  induction l with
  | nil =>
    intro s
    refine ⟨(State.SwitchOnly.refl s).abortKept, ?_, fun _ _ h => absurd rfl h⟩
    have hlt := s.get_lt Fld.HAT_ABORTS_COUNT
    exact (Nat.min_eq_right (Nat.le_sub_one_of_lt hlt)).symm
  | cons m l ih =>
    intro s
    obtain ⟨hkept, hcount, hevt⟩ := ih (s.abortAccess m)
    have hone := s.abortKept_abortAccess m
    refine ⟨hone.trans hkept, ?_, fun hup hheld _ => ?_⟩
    · rw [List.foldl_cons, hcount, State.aborts_abortAccess, min_add_min, List.length_cons, Nat.add_assoc, Nat.add_comm 1]
    · by_cases hl : l = []
      · subst hl
        exact State.abort_abortAccess hup hheld m
      · exact hevt (by rw [hone.clk]; exact hup) (by rw [hone.clk]; exact hheld) hl

/-- A transaction of the home whose request is aborted. -/
def Txn.withoutOld (l : List Msg) (t : Txn) : Txn :=
  match t.kind with
  | .request m => if !t.forwarded && !t.answered && l.contains m then { t with kind := .aborted } else t
  | _ => t

/-- The switch without the messages of a list. -/
def State.switchWithout (s : State) (l : List Msg) : State :=
  [0, 1].foldl (fun s k => s.modSw fun w => { w with iep := mput [] w.iep k ((mget [] w.iep k).filter fun m => !l.contains m) }) (s.unlink fun _ m => l.contains m)

/-- The home without them. -/
def Home.without (h : Home) (l : List Msg) : Home :=
  { h with queue := h.queue.filter (fun m => !l.contains m), lookups := h.lookups.filter (fun m => !l.contains m), txns := h.txns.map (Txn.withoutOld l) }

/-- The dirty logs without them. -/
def Dlog.without (d : Dlog) (l : List Msg) : Dlog := { d with waiting := d.waiting.filter fun x => !l.contains x.1 }

/-- The accesses of an old epoch are taken from wherever they wait. -/
def State.oldRemoved (s : State) (l : List Msg) : State :=
  let s := (s.switchWithout l).modHome fun h => h.without l
  { s with fab := { s.fab with dlog := s.fab.dlog.without l } }

theorem hatCommitTimeout_effect {s : State} (hc : s.flag Fld.HAT_STATUS_COMMIT_DONE = false) : ∃ f, exec .hatCommitTimeout s = done (s.begin.whenFabric f) ∧
    f s.begin = ((s.oldMsgs.foldl State.abortAccess (s.begin.oldRemoved s.oldMsgs)).modHat fun h => { h with tilesOld := [], refilled := true }).retireEpoch :=
  ⟨_, rfl, if_neg (ne_true_of_eq_false hc)⟩

theorem State.switchOnly_without (s : State) (l : List Msg) : s.SwitchOnly (s.switchWithout l) :=
  State.SwitchOnly.foldl _ (fun t _ => (State.SwitchOnly.refl t).modSw _) _ ((State.SwitchOnly.refl s).unlink _)

theorem State.abortKept_oldRemoved (s : State) (l : List Msg) : s.AbortKept (s.oldRemoved l) := by
  refine (s.switchOnly_without l).abortKept.trans ?_
  unfold State.oldRemoved
  generalize s.switchWithout l = t
  exact ⟨rfl, rfl, fun _ _ _ => rfl⟩

/-- The messages that f picks of those that are subject to a commit. -/
def State.accesses (s : State) (f : Msg → Bool) : List Msg :=
  (s.caught fun _ m => f m) ++ (mget [] s.fab.sw.iep 0).filter f ++ (mget [] s.fab.sw.iep 1).filter f ++ s.fab.home.queue.filter f ++ s.fab.home.lookups.filter f
    ++ (s.fab.dlog.waiting.map (·.1)).filter f
    ++ s.fab.home.txns.filterMap fun t => match t.kind with | .request m => if !t.forwarded && !t.answered && f m then some m else none | _ => none

theorem State.oldMsgs_eq (s : State) : s.oldMsgs = s.accesses (oldEpoch (s.get Fld.HAT_STATUS_EPOCH)) := rfl

theorem Txn.withoutOld_nil (t : Txn) : Txn.withoutOld [] t = t := by
  unfold Txn.withoutOld
  split
  · exact if_neg (by simp)
  · rfl

theorem Home.without_nil (h : Home) : h.without [] = h := by
  have hid : Txn.withoutOld [] = id := funext Txn.withoutOld_nil
  simp [Home.without, hid]

theorem Dlog.without_nil (d : Dlog) : d.without [] = d := by simp [Dlog.without]

theorem State.sw_oldRemoved (s : State) (l : List Msg) : (s.oldRemoved l).fab.sw = (s.switchWithout l).fab.sw := by
  unfold State.oldRemoved
  generalize s.switchWithout l = t
  rfl

theorem State.rest_oldRemoved (s : State) (l : List Msg) : (s.oldRemoved l).fab.home = s.fab.home.without l ∧ (s.oldRemoved l).fab.dlog = s.fab.dlog.without l := by
  have hsw := s.switchOnly_without l
  rw [← hsw.home, ← hsw.dlog]
  unfold State.oldRemoved
  generalize s.switchWithout l = t
  exact ⟨rfl, rfl⟩

/-- The inputs of the endpoints lose the messages; the strands are those that the messages left. -/
theorem State.queues_switchWithout (s : State) (l : List Msg) : (s.switchWithout l).fab.sw.strands = (s.unlink fun _ m => l.contains m).fab.sw.strands ∧
    (s.switchWithout l).fab.sw.waiting = (s.unlink fun _ m => l.contains m).fab.sw.waiting ∧
    ∀ k, mget [] (s.switchWithout l).fab.sw.iep k = if k < 2 then (mget [] s.fab.sw.iep k).filter fun m => !l.contains m else mget [] s.fab.sw.iep k := by
  have hiep : (s.unlink fun _ m => l.contains m).fab.sw.iep = s.fab.sw.iep := (s.queuesKept_unlink fun _ m => l.contains m).iep
  rw [← hiep]
  unfold State.switchWithout
  generalize (s.unlink fun _ m => l.contains m) = t
  refine ⟨rfl, rfl, fun k => ?_⟩
  simp only [List.foldl_cons, List.foldl_nil, State.modSw]
  by_cases h1 : k = 1
  · subst h1
    rw [mget_mput_same, mget_mput_other _ _ _ (by decide)]
    rfl
  · rw [mget_mput_other _ _ _ h1]
    by_cases h0 : k = 0
    · subst h0
      rw [mget_mput_same]
      rfl
    · rw [mget_mput_other _ _ _ h0, if_neg (by omega)]

theorem State.caught_congr {s t : State} (hs : t.fab.sw.strands = s.fab.sw.strands) (hw : t.fab.sw.waiting = s.fab.sw.waiting) (f : Nat → Msg → Bool) : t.caught f = s.caught f := by
  simp only [State.caught, hs, hw]

theorem State.accesses_oldRemoved {s : State} {f : Msg → Bool} (h : s.accesses f = []) : (s.oldRemoved []).accesses f = [] := by
  have hsw := s.sw_oldRemoved []
  obtain ⟨hstr, hwait, hin⟩ := s.queues_switchWithout []
  have hiep : ∀ k, mget [] (s.oldRemoved []).fab.sw.iep k = mget [] s.fab.sw.iep k := by
    intro k
    rw [hsw, hin k]
    simp
  have hcaught : (s.oldRemoved []).caught (fun _ m => f m) = (s.unlink fun _ m => [].contains m).caught fun _ m => f m :=
    State.caught_congr (by rw [hsw, hstr]) (by rw [hsw, hwait]) _
  obtain ⟨hhome, hdlog⟩ := s.rest_oldRemoved []
  rw [Home.without_nil] at hhome
  rw [Dlog.without_nil] at hdlog
  unfold State.accesses at h ⊢
  rw [hiep, hiep, hhome, hdlog, hcaught]
  simp only [List.append_eq_nil_iff] at h ⊢
  obtain ⟨⟨⟨⟨⟨⟨h1, h2⟩, h3⟩, h4⟩, h5⟩, h6⟩, h7⟩ := h
  exact ⟨⟨⟨⟨⟨⟨State.caught_unlink h1, h2⟩, h3⟩, h4⟩, h5⟩, h6⟩, h7⟩

@[simp] theorem State.get_modHat (s : State) (f : Hat → Hat) (g : Field) : (s.modHat f).get g = s.get g := rfl

/-! ### Records leave the copies of the tiles -/

theorem State.lag_sendFrames (s : State) (n : Nat) : (s.sendFrames n).fab.lag = s.fab.lag := rfl

theorem State.lag_pumpRecords (l : List Rec) : ∀ s : State, (s.pumpRecords l).fab.lag = s.fab.lag := by
  induction l with
  | nil => exact fun _ => rfl
  | cons r rest ih =>
    intro s
    simp only [State.pumpRecords]
    split
    · exact ih s
    · split
      · exact (ih _).trans rfl
      · split <;> rfl

theorem State.lag_pump (s : State) : s.pump.fab.lag = s.fab.lag := by
  unfold State.pump
  rw [State.lag_pumpRecords]
  split <;> split <;> simp [State.sendFrames]

theorem State.lag_appendOne (s : State) (g : Nat) (b : RecBody) : (s.appendOne g b).fab.lag = s.fab.lag := by
  unfold State.appendOne State.showFill
  rw [State.lag_pump]
  split <;> simp

theorem State.lag_append (s : State) (g : Nat) (b : RecBody) : (s.append g b).fab.lag = s.fab.lag := by
  unfold State.append State.closeEpoch
  dsimp only
  split
  · split
    · exact (State.lag_appendOne _ _ _).trans (State.lag_appendOne _ _ _)
    · rw [State.raise_fab, State.lag_appendOne]
  · exact State.lag_appendOne s g b

theorem State.lag_issue (s : State) (g : Nat) (b : RecBody) : (s.issue g b).fab.lag = s.fab.lag := by
  unfold State.issue
  split
  · rfl
  · split
    · exact State.lag_append s g b
    · simp [State.setRsync]

theorem OnlyPair.hat {s t : State} (h : OnlyPair s t) : t.fab.hat = s.fab.hat := by rw [h.1]
theorem OnlyPair.home_dir {s t : State} (h : OnlyPair s t) : t.fab.home.dir = s.fab.home.dir := by rw [h.1]

/-- A part that is as before need not be listed. -/
theorem Frame.withoutPart {p : Part} {ps : List Part} {fs : List Field} {s t : State} (h : Frame (p :: ps) fs s t) (hp : s.Same t p) : Frame ps fs s t := by
  refine ⟨fun q hq => ?_, h.2⟩
  by_cases hqp : q = p
  · rw [hqp]
    exact hp
  · exact h.1 q (by simp [hqp, hq])

theorem State.aborts_oldRemoved (s : State) (l : List Msg) : (s.oldRemoved l).get Fld.HAT_ABORTS_COUNT = s.get Fld.HAT_ABORTS_COUNT := by
  refine Eq.trans ?_ ((s.switchOnly_without l).get _)
  unfold State.oldRemoved
  generalize s.switchWithout l = t
  rfl

theorem State.oldMsgs_oldRemoved {s : State} (h : s.oldMsgs = []) : ((s.begin.oldRemoved []).modHat fun h => { h with tilesOld := [], refilled := true }).oldMsgs = [] := by
  have hepoch : (s.begin.oldRemoved []).get Fld.HAT_STATUS_EPOCH = s.get Fld.HAT_STATUS_EPOCH := (s.begin.abortKept_oldRemoved []).get _ (by decide) (by decide)
  rw [State.oldMsgs_eq, State.get_modHat, hepoch]
  exact State.accesses_oldRemoved (s := s.begin) h

/-! ### Writes of rules (R280, R283) -/

theorem State.writeRule_ctl {s : State} {n : Nat} {v : Word} (ha : s.isActive = true) (hc : s.flag Fld.HAT_STATUS_COMMIT_DONE = true) :
    s.writeRule n (.ctl v) = s.setWord (Addr.RULE_CTL n) (v &&& 0x003FFFFF) := (if_neg (by simp [ha])).trans (if_neg (by simp [hc]))

theorem State.writeRule_busy {s : State} {n : Nat} {w : RuleWord} (ha : s.isActive = true) (hc : s.flag Fld.HAT_STATUS_COMMIT_DONE = false) :
    s.writeRule n w = s.raise Evt.HAT_WRITE_IGNORED := (if_neg (by simp [ha])).trans (if_pos (by simp [hc]))

theorem rulePage_bounds (n : Rule) : 0x500 ≤ 0x500 + n.val / 1024 ∧ 0x500 + n.val / 1024 < 0x540 := by
  have h := n.isLt
  omega

theorem regionOf_rule (n : Rule) : regionOf (Addr.RULE_CTL n.val) = none := by
  have hpg : Addr.RULE_CTL n.val / 0x10000 = 0x500 + n.val / 1024 := by simp only [Addr.RULE_CTL]; omega
  exact regionOf_page (by rw [hpg]; have h := rulePage_bounds n; omega)

theorem pageDomain_rule (n : Rule) : pageDomain (0x500 + n.val / 1024) = .fabric := by
  have h : ∀ k : Fin 64, pageDomain (0x500 + k.val) = .fabric := by decide
  exact h ⟨n.val / 1024, by have hn := n.isLt; omega⟩

theorem odd_of_getLsbD {v : Word} (h : v.getLsbD 0 = true) : v.toNat % 2 = 1 := by
  rw [BitVec.getLsbD, Nat.testBit_zero] at h
  simpa using h

/-- What a write answers that is ignored and told. -/
theorem answers_ignored {c : Instr} {s : State} {m : Master} {pg : Nat} {f : State → State} (he : exec c s = done (s.begin.guard m pg f)) (htk : s.takes m pg = true)
    (hd : pageDomain pg = .fabric) (hf : f s.begin = s.begin.raise Evt.HAT_WRITE_IGNORED) :
    Answers c s fun t => t.get Evt.HAT_WRITE_IGNORED.field = 1 ∧ Frame [] [Evt.HAT_WRITE_IGNORED.field] s t := by
  have hlive : s.live 0x50 = true := by
    have h := State.live_of_takes htk
    have h50 : pageDomain 0x50 = .fabric := by decide
    simpa [State.live, hd, h50] using h
  refine answers_guard he htk hf ((Frame.begin s).andRaise) (by simp) (by decide) fun hfr => ⟨?_, hfr⟩
  rw [State.get_settle _ (by decide)]
  exact State.get_raise_same (s := s.begin) hlive (by decide) (by decide)

/-! ### The clauses -/

section
variable {s : State}

/-- Between commits an active module takes the control word of a rule. -/
theorem ruleCtl_written : ∀ m : Master, ∀ n : Rule, ∀ v : Word, s.takes m (0x500 + n.val / 1024) = true → s.isActive = true → s.flag Fld.HAT_STATUS_COMMIT_DONE = true →
    Answers (.hatRuleWrite m n (.ctl v)) s fun t => t.word (Addr.RULE_CTL n.val) = v &&& 0x003FFFFF ∧ Frame [] [Field.all (Addr.RULE_CTL n.val)] s t := by
  intro m n v htk hact hdone
  have hlow : v.toNat = v.toNat := rfl
  have hreg : regionOf (Addr.RULE_CTL n.val) = none := regionOf_rule n
  have hfx : s.begin.writeRule n.val (.ctl v) = s.begin.setWord (Addr.RULE_CTL n.val) (v &&& 0x003FFFFF) := State.writeRule_ctl (s := s.begin) hact hdone
  refine answers_guard rfl htk hfx ((Frame.begin s).andSetWord _) rfl (by simpa [Field.all] using hreg) fun hfr => ⟨?_, hfr⟩
  rw [State.word_settle _ (by simp only [Addr.RULE_CTL]; omega), State.word_setWord_same]

/-- While a commit runs a write is ignored and told. -/
theorem ruleWrite_ignored : ∀ m : Master, ∀ n : Rule, ∀ w : RuleWord, s.takes m (0x500 + n.val / 1024) = true → s.isActive = true → s.flag Fld.HAT_STATUS_COMMIT_DONE = false →
    Answers (.hatRuleWrite m n w) s fun t => t.get Evt.HAT_WRITE_IGNORED.field = 1 ∧ Frame [] [Evt.HAT_WRITE_IGNORED.field] s t := by
  intro m n w htk hact hdone
  have hfx : s.begin.writeRule n.val w = s.begin.raise Evt.HAT_WRITE_IGNORED := State.writeRule_busy (s := s.begin) hact hdone
  exact answers_ignored rfl htk (pageDomain_rule n) hfx

/-- A commit of valid rules puts the shadow in force under the next epoch. -/
theorem hatCommit_commits : ∀ m : Master, ∀ value : Word, s.takes m 0x50 = true → value.getLsbD 0 = true → s.isActive = true → s.flag Fld.HAT_STATUS_COMMIT_DONE = true → s.badRules = [] →
    Answers (.hatCommit m value) s fun t => t.fab.hat = { s.fab.hat with active := s.shadow, old := s.fab.hat.active, tilesOld := [0, 1, 2, 3], refilled := false } ∧
    t.get Fld.HAT_STATUS_COMMIT_DONE = 0 ∧ t.get Fld.HAT_STATUS_EPOCH = (s.get Fld.HAT_STATUS_EPOCH + 1) % 65536 ∧
    Frame [.fab, .ctrs, .pair, .out] ([Fld.HAT_STATUS_COMMIT_DONE, Fld.HAT_STATUS_REFUSED, Fld.HAT_STATUS_EPOCH] ++ mirrorFields) s t := by
  intro m value htk hbit hact hdone hbad
  obtain ⟨b, hb⟩ := State.commitRules_active (s := s.begin) hact hdone hbad
  have hfx : (if value.toNat % 2 = 1 then s.begin.commitRules else s.begin) = s.begin.ruleCommitted.issue 17 b := (if_pos (odd_of_getLsbD hbit)).trans hb
  have honly := (OnlyPair.refl s.begin.ruleCommitted).issue 17 b
  have hcommitted : Frame [.tiles, .fab, .ctrs, .pair, .out] ([Fld.HAT_STATUS_COMMIT_DONE, Fld.HAT_STATUS_REFUSED, Fld.HAT_STATUS_EPOCH] ++ mirrorFields) s s.begin.ruleCommitted := by
    unfold State.ruleCommitted
    exact ((((Frame.begin s).andModHat _).andPut 0).andPut 0).andPut _
  have hlag : (s.begin.ruleCommitted.issue 17 b).fab.lag = s.fab.lag := by
    rw [State.lag_issue]
    simp [State.ruleCommitted]
  have hframe := (hcommitted.issue 17 b (by decide) (fun g hg => List.mem_append_right _ hg)).withoutPart hlag
  have hget : ∀ g : Field, g.addr / 0x10000 ≠ 0xA0 → (s.begin.ruleCommitted.issue 17 b).get g = s.begin.ruleCommitted.get g := fun g hg => by
    rw [State.get, State.get, honly.2 _ hg]
  have hhat : (s.begin.ruleCommitted.issue 17 b).fab.hat = s.begin.ruleCommitted.fab.hat := honly.hat
  have hepoch : (s.begin.get Fld.HAT_STATUS_EPOCH + 1) % 65536 < 65536 := Nat.mod_lt _ (by decide)
  refine answers_guard rfl htk hfx hframe (honly.home_dir.trans (by simp [State.ruleCommitted])) (by decide) fun hfr => ⟨?_, ?_, ?_, hfr⟩
  · rw [State.settle_fab, hhat]
    simp [State.ruleCommitted, State.shadow]
  · rw [State.get_settle _ (by decide), hget _ (by decide), State.ruleCommitted, State.get_put_clear _ _ (by decide), State.get_put_clear _ _ (by decide), State.get_put_lit _ (by decide) (by decide)]
  · rw [State.get_settle _ (by decide), hget _ (by decide), State.ruleCommitted, State.get_put_lit _ (by decide) hepoch, State.get_begin]

/-- A commit with an invalid rule is refused. -/
theorem hatCommit_refused : ∀ m : Master, ∀ value : Word, s.takes m 0x50 = true → value.getLsbD 0 = true → s.isActive = true → s.flag Fld.HAT_STATUS_COMMIT_DONE = true → s.badRules ≠ [] →
    Answers (.hatCommit m value) s fun t => t.get Fld.HAT_STATUS_REFUSED = 1 ∧ t.get Evt.HAT_COMMIT_REFUSED.field = 1 ∧
    Frame [] [Fld.HAT_STATUS_REFUSED, Evt.HAT_COMMIT_REFUSED.field] s t := by
  intro m value htk hbit hact hdone hbad
  have hfx : (if value.toNat % 2 = 1 then s.begin.commitRules else s.begin) = (s.begin.put Fld.HAT_STATUS_REFUSED 1).raise Evt.HAT_COMMIT_REFUSED :=
    (if_pos (odd_of_getLsbD hbit)).trans (State.commitRules_refused (s := s.begin) hact hdone hbad)
  have hlive : s.live 0x50 = true := State.live_of_takes htk
  refine answers_guard rfl htk hfx (((Frame.begin s).andPut 1).andRaise) (by simp) (by decide) fun hfr => ⟨?_, ?_, hfr⟩
  · rw [State.get_settle _ (by decide), State.get_raise_clear _ (by decide), State.get_put_lit _ (by decide) (by decide)]
  · rw [State.get_settle _ (by decide)]
    exact State.get_raise_same ((State.live_congr (s := s) (by simp) (by simp) _).trans hlive) (by decide) (by decide)

/-- A commit on a passive module or beside another is ignored and told. -/
theorem hatCommit_ignored : ∀ m : Master, ∀ value : Word, s.takes m 0x50 = true → value.getLsbD 0 = true → (s.isActive = false ∨ s.flag Fld.HAT_STATUS_COMMIT_DONE = false) →
    Answers (.hatCommit m value) s fun t => t.get Evt.HAT_WRITE_IGNORED.field = 1 ∧ Frame [] [Evt.HAT_WRITE_IGNORED.field] s t := by
  intro m value htk hbit hno
  have hfx : (if value.toNat % 2 = 1 then s.begin.commitRules else s.begin) = s.begin.raise Evt.HAT_WRITE_IGNORED :=
    (if_pos (odd_of_getLsbD hbit)).trans (State.commitRules_ignored (s := s.begin) hno)
  exact answers_ignored rfl htk (by decide) hfx

/-- A tile swaps to the new bank. -/
theorem hatTileSwap_swaps : ∀ k : Tile, s.fabricRuns = true → Answers (.hatTileSwap k) s fun t => t.fab.hat = { s.fab.hat with tilesOld := s.fab.hat.tilesOld.filter fun x => x != k.val } ∧
    Frame [.fab] [] s t := by
  intro k hrun
  exact answers_fabric rfl hrun rfl ((Frame.begin s).andModHat _) rfl (by simp) fun hfr => ⟨by simp, hfr⟩

/-- The refill is done, and with all else done the commit is. -/
theorem hatRefillDone_shows : s.fabricRuns = true → s.flag Fld.HAT_STATUS_COMMIT_DONE = false → Answers .hatRefillDone s fun t => t.fab.hat = { s.fab.hat with refilled := true } ∧
    (s.fab.hat.tilesOld = [] → s.oldMsgs = [] → t.get Fld.HAT_STATUS_COMMIT_DONE = 1 ∧ t.get Evt.HAT_COMMIT_DONE.field = 1) ∧
    Frame [.fab] [Fld.HAT_STATUS_COMMIT_DONE, Evt.HAT_COMMIT_DONE.field] s t := by
  intro hrun hc
  obtain ⟨hup, hheld, -⟩ := State.fabricRuns_iff.mp hrun
  have hframe : Frame [.fab] [Fld.HAT_STATUS_COMMIT_DONE, Evt.HAT_COMMIT_DONE.field] s (s.begin.modHat fun h => { h with refilled := true }).retireEpoch :=
    ((Frame.begin s).andModHat _).andRetireEpoch
  refine answers_fabric rfl hrun rfl hframe (by rw [State.retireEpoch_fab]; simp) (by decide) fun hfr => ⟨?_, fun ht ho => ?_, hfr⟩
  · rw [State.settle_fab, State.retireEpoch_fab]
    simp
  · rw [State.get_settle _ (by decide), State.get_settle _ (by decide)]
    exact State.shows_retireEpoch (s := s.begin.modHat fun h => { h with refilled := true }) hup hheld hc rfl ht ho

/-- With the last access of the old epoch the commit is done. -/
theorem oldEpochRetire_shows : s.fabricRuns = true → s.flag Fld.HAT_STATUS_COMMIT_DONE = false → s.fab.hat.tilesOld = [] → s.fab.hat.refilled = true → s.oldMsgs = [] → Answers .oldEpochRetire s fun t =>
    t.get Fld.HAT_STATUS_COMMIT_DONE = 1 ∧ t.get Evt.HAT_COMMIT_DONE.field = 1 ∧ Frame [] [Fld.HAT_STATUS_COMMIT_DONE, Evt.HAT_COMMIT_DONE.field] s t := by
  intro hrun hc ht hr ho
  obtain ⟨hup, hheld, -⟩ := State.fabricRuns_iff.mp hrun
  obtain ⟨h1, h2⟩ := State.shows_retireEpoch (s := s.begin) hup hheld hc hr ht ho
  refine answers_fabric rfl hrun rfl (Frame.begin s).andRetireEpoch (by rw [State.retireEpoch_fab]; simp) (by decide) fun hfr => ⟨?_, ?_, hfr⟩
  · rw [State.get_settle _ (by decide), h1]
  · rw [State.get_settle _ (by decide), h2]

/-- The time-out aborts what is left of the old epoch. -/
theorem hatCommitTimeout_aborts : s.fabricRuns = true → s.flag Fld.HAT_STATUS_COMMIT_DONE = false → Answers .hatCommitTimeout s fun t => t.fab.hat = { s.fab.hat with tilesOld := [], refilled := true } ∧
    t.get Fld.HAT_ABORTS_COUNT = min (2 ^ 32 - 1) (s.get Fld.HAT_ABORTS_COUNT + s.oldMsgs.length) ∧ (s.oldMsgs = [] → t.get Fld.HAT_STATUS_COMMIT_DONE = 1 ∧
    t.get Evt.HAT_COMMIT_DONE.field = 1) ∧ (s.oldMsgs ≠ [] → t.get Evt.HAT_COMMIT_ABORT.field = 1) := by
  intro hrun hc
  obtain ⟨hup, hheld, -⟩ := State.fabricRuns_iff.mp hrun
  obtain ⟨f, he, hf⟩ := hatCommitTimeout_effect hc
  obtain ⟨hkept, hcount, hevt⟩ := State.abort_foldl s.oldMsgs (s.begin.oldRemoved s.oldMsgs)
  have hrem := s.begin.abortKept_oldRemoved s.oldMsgs
  have hall := hrem.trans hkept
  have hclk : (s.oldMsgs.foldl State.abortAccess (s.begin.oldRemoved s.oldMsgs)).clk = s.clk := hall.clk
  refine answers_of_eq (he.trans (done_whenFabric f hrun)) ?_
  rw [hf]
  refine ⟨?_, ?_, fun ho => ?_, fun ho => ?_⟩
  · rw [State.settle_fab, State.mirror_fab_hat, State.retireEpoch_fab, State.modHat_fab]
    exact congrArg (fun h : Hat => { h with tilesOld := [], refilled := true }) hall.hat
  · rw [State.get_mirror_settle _ _ (by decide) (by decide), State.get_retireEpoch _ (by decide) (by decide)]
    exact hcount.trans (by rw [State.aborts_oldRemoved]; rfl)
  · rw [State.get_mirror_settle _ _ (by decide) (by decide), State.get_mirror_settle _ _ (by decide) (by decide), ho]
    have hc' : (s.begin.oldRemoved []).get Fld.HAT_STATUS_COMMIT_DONE = s.get Fld.HAT_STATUS_COMMIT_DONE := (s.begin.abortKept_oldRemoved []).get _ (by decide) (by decide)
    refine State.shows_retireEpoch (s := (s.begin.oldRemoved []).modHat fun h => { h with tilesOld := [], refilled := true }) ?_ ?_ ?_ rfl rfl ?_
    · rw [State.modHat_clk, (s.begin.abortKept_oldRemoved []).clk]
      exact hup
    · rw [State.modHat_clk, (s.begin.abortKept_oldRemoved []).clk]
      exact hheld
    · rw [State.flag, State.get_modHat, hc']
      exact hc
    · exact State.oldMsgs_oldRemoved ho
  · rw [State.get_mirror_settle _ _ (by decide) (by decide), State.get_retireEpoch _ (by decide) (by decide)]
    refine hevt ?_ ?_ ho
    · rw [hrem.clk]
      exact hup
    · rw [hrem.clk]
      exact hheld

end

/-- Settles O23, clause by clause. -/
theorem ruleCommits : Obligations.RuleCommits := by
  unfold Obligations.RuleCommits
  exact fun s => ⟨ruleCtl_written, ruleWrite_ignored, hatCommit_commits, hatCommit_refused, hatCommit_ignored, hatTileSwap_swaps, hatRefillDone_shows, oldEpochRetire_shows, hatCommitTimeout_aborts⟩

end Sys2Proof.Machine
end

section
/-! PROOFS. Doorbells, results and resets of the mailbox boxes (O32, R385, R389). -/
namespace Sys2Proof.Machine
open Sys2Proof
set_option Elab.async false

/-! ### A box and its registers -/

@[simp] theorem State.box_modBox (s : State) (k : Nat) (f : Box → Box) : (s.modBox k f).box k = f (s.box k) := mget_mput_same _ _ _ _

theorem State.box_congr {s t : State} (h : t.mbx.boxes = s.mbx.boxes) (k : Nat) : t.box k = s.box k := by simp only [State.box, h]

/-- A vector of a VCS is signalled or waits; the boxes stay. -/
theorem State.signalVcs_cases (s : State) (v j : Nat) :
    ((s.mbx.msixWord v j 3).toNat % 2 = 0 ∧ s.signalVcs v j = s.emit (.msix v j)) ∨
    ((s.mbx.msixWord v j 3).toNat % 2 = 1 ∧
      s.signalVcs v j = { s with mbx := { s.mbx with pba := if s.mbx.pba.contains (2048 * v + j) then s.mbx.pba else s.mbx.pba ++ [2048 * v + j] } }) := by
  rcases Nat.mod_two_eq_zero_or_one (s.mbx.msixWord v j 3).toNat with h | h
  · exact .inl ⟨h, if_pos h⟩
  · exact .inr ⟨h, if_neg (by omega)⟩

theorem State.boxes_signalVcs (s : State) (v j : Nat) : (s.signalVcs v j).mbx.boxes = s.mbx.boxes := by
  rcases s.signalVcs_cases v j with ⟨-, h⟩ | ⟨-, h⟩ <;> rw [h]
  rfl

theorem State.regs_signalVcs (s : State) (v j : Nat) : (s.signalVcs v j).regs = s.regs := by
  rcases s.signalVcs_cases v j with ⟨-, h⟩ | ⟨-, h⟩ <;> rw [h]
  rfl

theorem Frame.andSignalVcs {ps : List Part} {fs : List Field} {s t : State} (h : Frame ps fs s t) (v j : Nat) (hm : Part.mbx ∈ ps := by simp) (ho : Part.out ∈ ps := by simp) :
    Frame ps fs s (t.signalVcs v j) := by
  rcases t.signalVcs_cases v j with ⟨-, he⟩ | ⟨-, he⟩ <;> rw [he]
  · exact h.andEmit _ ho
  · exact h.andMbx _ hm

theorem State.get_signalVcs (s : State) (v j : Nat) (g : Field) : (s.signalVcs v j).get g = s.get g := State.get_congr (s.regs_signalVcs v j) g

/-! ### The pending bit of a source (R377, R384) -/

/-- The pending bit of source n. -/
def pendingBit (n : Nat) : Field := bitField (Addr.INTC_PEND_SET 0) n

/-- What setting a pending bit can do. -/
theorem State.setPending_cases (s : State) (n : Nat) : s.setPending n = s ∨ s.setPending n = s.putPending n true ∨
    ∃ v, s.setPending n = (s.putPending n true).signalVcs v (16 + n) ∨ s.setPending n = ((s.putPending n true).signalVcs v (16 + n)).putPending n false := by
  unfold State.setPending
  split
  · exact .inl rfl
  · dsimp only
    split
    · refine .inr (.inr ⟨(s.putPending n true).get Fld.MBX_CFG_FM_VCS, ?_⟩)
      split
      · exact .inr rfl
      · exact .inl rfl
    · exact .inr (.inl rfl)

theorem Frame.andSetPending {ps : List Part} {fs : List Field} {s t : State} (h : Frame ps fs s t) (n : Nat) (hf : pendingBit n ∈ fs := by simp) (hm : Part.mbx ∈ ps := by simp)
    (ho : Part.out ∈ ps := by simp) : Frame ps fs s (t.setPending n) := by
  have hset : Frame ps fs s (t.putPending n true) := h.andPutFlag true hf
  rcases t.setPending_cases n with he | he | ⟨v, he | he⟩ <;> rw [he]
  · exact h
  · exact hset
  · exact hset.andSignalVcs _ _ hm ho
  · exact (hset.andSignalVcs _ _ hm ho).andPutFlag false hf

theorem State.get_setPending (s : State) (n : Nat) {g : Field} (h : g.clearOf (pendingBit n) = true) : (s.setPending n).get g = s.get g := by
  have hput : ∀ (t : State) (b : Bool), (t.putPending n b).get g = t.get g := fun t b => State.get_put_clear t _ h
  rcases s.setPending_cases n with he | he | ⟨v, he | he⟩ <;> rw [he]
  · rw [hput]
  · rw [State.get_signalVcs, hput]
  · rw [hput, State.get_signalVcs, hput]

theorem State.boxes_setPending (s : State) (n : Nat) : (s.setPending n).mbx.boxes = s.mbx.boxes := by
  have hput : ∀ (t : State) (b : Bool), (t.putPending n b).mbx = t.mbx := fun t b => State.put_mbx _ _ _
  rcases s.setPending_cases n with he | he | ⟨v, he | he⟩ <;> rw [he]
  · rw [hput]
  · rw [State.boxes_signalVcs, hput]
  · rw [hput, State.boxes_signalVcs, hput]

/-! ### Doorbells (R389) -/

/-- A box takes the command of a doorbell. -/
def State.boxTaken (s : State) (k opcode : Nat) (payload : List Byte) (irq : Bool) : State :=
  (((s.modBox k fun b => { b with opcode := opcode, payload := payload, fm := s.boxIsFm k, irq := irq, pendingResult := none, result := none }).put (Fld.MBX_BOX_STATE_STATE k) 1).put
    (Fld.MBX_BOX_STATE_OPCODE k) opcode).count (Ctr.MBOX k 0)

theorem State.box_boxTaken (s : State) (k opcode : Nat) (payload : List Byte) (irq : Bool) : (s.boxTaken k opcode payload irq).box k =
    { s.box k with opcode := opcode, payload := payload, fm := s.boxIsFm k, irq := irq, pendingResult := none, result := none } := by
  refine Eq.trans (State.box_congr ?_ k) (s.box_modBox k fun b =>
    { b with opcode := opcode, payload := payload, fm := s.boxIsFm k, irq := irq, pendingResult := none, result := none })
  simp [State.boxTaken]

section
variable {s : State} {k opcode : Nat} {payload : List Byte} {irq : Bool} (hstop : s.clk.mgmtStopped = false) (hears : s.boxHears k = true)
include hstop hears

theorem State.doorbell_idle (hst : s.get (Fld.MBX_BOX_STATE_STATE k) ≠ 1) : s.doorbell k opcode payload irq = (s.boxTaken k opcode payload irq).pulseDoorbell k :=
  (if_neg (by simp [hstop, hears])).trans (if_neg hst)

theorem State.doorbell_busy (hst : s.get (Fld.MBX_BOX_STATE_STATE k) = 1) :
    s.doorbell k opcode payload irq = if k = 64 ∨ k = 65 then (s.count (Ctr.MBOX k 2)).emit (.mbxResponse k .busy []) else s.ignoreInput k :=
  (if_neg (by simp [hstop, hears])).trans (if_pos hst)

end

/-! ### Results (R389) -/

/-- The result of a command is stored in its box. -/
def State.resultStored (s : State) (k : Nat) (r : MbxResult) : State :=
  (((s.modBox k fun b => { b with pendingResult := none, result := some r }).put (Fld.MBX_BOX_STATE_STATE k) 2).put (Fld.MBX_BOX_SEQ_RESULT_SEQ k)
    (s.get (Fld.MBX_BOX_SEQ_RESULT_SEQ k) + 1)).count (Ctr.MBOX k r.code.counter)

theorem State.boxDone_eq (s : State) (k : Nat) (r : MbxResult) : s.boxDone k r =
    if k < 64 then (s.resultStored k r).boxVector k else (s.resultStored k r).emit (.mbxResponse k r.code r.data) := rfl

/-- What a stored result shows. -/
structure State.ResultShown (s t : State) (k : Nat) (r : MbxResult) : Prop where
  done : t.get (Fld.MBX_BOX_STATE_STATE k) = 2
  seq : t.get (Fld.MBX_BOX_SEQ_RESULT_SEQ k) = (s.get (Fld.MBX_BOX_SEQ_RESULT_SEQ k) + 1) % 65536
  result : (t.box k).result = some r

theorem State.shown_resultStored (s : State) (k : Nat) (r : MbxResult) : s.ResultShown (s.resultStored k r) k r := by
  refine ⟨?_, ?_, ?_⟩
  · rw [State.resultStored, State.get_count, State.get_put_clear _ _ (Field.clearOf_of_addr (show 0 + 2 ≤ 32 by decide) (by simp only [Fld.MBX_BOX_STATE_STATE, Fld.MBX_BOX_SEQ_RESULT_SEQ, Addr.MBX_BOX_STATE, Addr.MBX_BOX_SEQ]; omega)),
      State.get_put_fits _ (Field.fits_of rfl)]
  · rw [State.resultStored, State.get_count]
    exact State.get_put_same _ _ _ (show 0 + 16 ≤ 32 by decide)
  · have hbox : (s.resultStored k r).box k = { s.box k with pendingResult := none, result := some r } :=
      (State.box_congr (s := s.modBox k fun b => { b with pendingResult := none, result := some r }) (by simp [State.resultStored]) k).trans (s.box_modBox k _)
    rw [hbox]

theorem State.ResultShown.of_eq {s t u : State} {k : Nat} {r : MbxResult} (h : s.ResultShown t k r) (hr : u.regs = t.regs) (hb : u.mbx.boxes = t.mbx.boxes) : s.ResultShown u k r :=
  ⟨(State.get_congr hr _).trans h.done, (State.get_congr hr _).trans h.seq, by rw [State.box_congr hb]; exact h.result⟩

theorem State.ResultShown.settle {s t : State} {k : Nat} {r : MbxResult} (h : s.ResultShown t k r) : s.ResultShown t.settle k r := by
  refine ⟨?_, ?_, ?_⟩
  · rw [State.get_settle _ (by simp only [Fld.MBX_BOX_STATE_STATE, Addr.MBX_BOX_STATE]; omega), h.done]
  · rw [State.get_settle _ (by simp only [Fld.MBX_BOX_SEQ_RESULT_SEQ, Addr.MBX_BOX_SEQ]; omega), h.seq]
  · rw [State.box_congr (s := t) (by simp), h.result]

theorem State.ResultShown.of_begin {s t : State} {k : Nat} {r : MbxResult} (h : s.begin.ResultShown t k r) : s.ResultShown t k r :=
  ⟨h.done, h.seq.trans (by rw [State.get_begin]), h.result⟩

theorem State.irq_resultStored (s : State) (k : Nat) (r : MbxResult) : ((s.begin.resultStored k r).box k).irq = (s.box k).irq := by
  have hbox : (s.begin.resultStored k r).box k = { s.begin.box k with pendingResult := none, result := some r } :=
    (State.box_congr (s := s.begin.modBox k fun b => { b with pendingResult := none, result := some r }) (by simp [State.resultStored]) k).trans (s.begin.box_modBox k _)
  rw [hbox]
  rfl

theorem State.boxVector_cases (s : State) (k : Nat) : s.boxVector k = s ∨ s.boxVector k = s.signalVcs k 0 := by
  unfold State.boxVector
  split
  · exact .inr rfl
  · exact .inl rfl

theorem State.shown_boxDone (s : State) (k : Nat) (r : MbxResult) : s.ResultShown (s.boxDone k r) k r := by
  have h := s.shown_resultStored k r
  rw [State.boxDone_eq]
  split
  · rcases (s.resultStored k r).boxVector_cases k with he | he <;> rw [he]
    · exact h
    · exact h.of_eq (State.regs_signalVcs _ _ _) (State.boxes_signalVcs _ _ _)
  · exact h.of_eq (by simp) (by simp)

theorem Frame.andResultStored {ps : List Part} {fs : List Field} {s t : State} (h : Frame ps fs s t) (k : Nat) (r : MbxResult) (hm : Part.mbx ∈ ps := by simp)
    (hc : Part.ctrs ∈ ps := by simp) (h1 : Fld.MBX_BOX_STATE_STATE k ∈ fs := by simp) (h2 : Fld.MBX_BOX_SEQ_RESULT_SEQ k ∈ fs := by simp) : Frame ps fs s (t.resultStored k r) :=
  (((h.andModBox _ _ hm).andPut _ h1).andPut _ h2).andCount _ _ hc

theorem Frame.andBoxDone {s t : State} {k : Nat} (h : Frame [.mbx, .ctrs, .out] [Fld.MBX_BOX_STATE_STATE k, Fld.MBX_BOX_SEQ_RESULT_SEQ k] s t) (r : MbxResult) :
    Frame [.mbx, .ctrs, .out] [Fld.MBX_BOX_STATE_STATE k, Fld.MBX_BOX_SEQ_RESULT_SEQ k] s (t.boxDone k r) := by
  have hs := h.andResultStored k r
  rw [State.boxDone_eq]
  split
  · rcases (t.resultStored k r).boxVector_cases k with he | he <;> rw [he]
    · exact hs
    · exact hs.andSignalVcs _ _
  · exact hs.andEmit _

/-- A command that completes with r. -/
theorem answers_boxDone {s : State} {k : BoxIx} {r : MbxResult} {P : State → Prop} (hrun : s.mgmtRuns = true)
    (hf : ∃ f, exec (.mbxCommandDone k) s = done (s.begin.whenMgmt f) ∧ f s.begin = s.begin.boxDone k.val r)
    (hp : s.ResultShown (s.begin.boxDone k.val r).settle k.val r →
      Frame [.mbx, .ctrs, .out] [Fld.MBX_BOX_STATE_STATE k.val, Fld.MBX_BOX_SEQ_RESULT_SEQ k.val] s (s.begin.boxDone k.val r).settle → P (s.begin.boxDone k.val r).settle) :
    Answers (.mbxCommandDone k) s P := by
  obtain ⟨hup, -⟩ := State.mgmtRuns_iff.mp hrun
  obtain ⟨f, he, hfx⟩ := hf
  exact answers_mgmt he hup hfx (hp ((State.shown_boxDone s.begin k.val r).settle.of_begin) ((Frame.begin s).andBoxDone r).settle)

/-- The command has a result, or its opcode is not one of the module's. -/
theorem mbxCommandDone_effect {s : State} {k : BoxIx} {r : MbxResult} (hrun : s.mgmtRuns = true) (hst : s.get (Fld.MBX_BOX_STATE_STATE k.val) = 1)
    (hr : (s.box k.val).pendingResult = some r ∨ ((s.box k.val).pendingResult = none ∧ (s.box k.val).opcode ∉ supportedOpcodes ∧ r = ⟨.unsupported, []⟩)) :
    ∃ f, exec (.mbxCommandDone k) s = done (s.begin.whenMgmt f) ∧ f s.begin = s.begin.boxDone k.val r := by
  obtain ⟨-, hstop⟩ := State.mgmtRuns_iff.mp hrun
  refine ⟨_, rfl, ?_⟩
  have hgo : ¬ (s.begin.clk.mgmtStopped || s.begin.get (Fld.MBX_BOX_STATE_STATE k.val) != 1) = true := by
    simp [hst, hstop]
  refine (if_neg hgo).trans ?_
  rcases hr with hr | ⟨hr, hop, rfl⟩
  · have hr' : (s.begin.box k.val).pendingResult = some r := hr
    rw [hr']
  · have hr' : (s.begin.box k.val).pendingResult = none := hr
    rw [hr']
    have hop' : (s.begin.box k.val).opcode ∉ supportedOpcodes := hop
    exact if_neg (by simpa using hop')

/-! ### Resets (R389) -/

theorem State.get_boxIdle (s : State) (k : Nat) : (s.boxIdle k).get (Fld.MBX_BOX_STATE_STATE k) = 0 := State.get_put_fits _ (Field.fits_of rfl)

/-- What a reset leaves of a box. -/
def Box.idled (b : Box) (run : Bool) : Box := { b.toIdle with orphan := if run then some (b.opcode, b.payload, b.fm) else b.orphan }

theorem State.box_boxIdle (s : State) (k : Nat) : (s.boxIdle k).box k = (s.box k).idled (s.get (Fld.MBX_BOX_STATE_STATE k) == 1 && (s.box k).pendingResult.isNone) := by
  refine Eq.trans (State.box_congr ?_ k) (s.box_modBox k fun b => b.idled (s.get (Fld.MBX_BOX_STATE_STATE k) == 1 && (s.box k).pendingResult.isNone))
  unfold State.boxIdle State.clearVcsMsix
  simp [Box.idled]

/-- A command runs while its box is BUSY without a result. -/
theorem Box.idled_eq (b : Box) (st : Nat) : b.idled (st == 1 && b.pendingResult.isNone) =
    { b.toIdle with orphan := if st = 1 ∧ b.pendingResult = none then some (b.opcode, b.payload, b.fm) else b.orphan } := by
  simp [Box.idled]

theorem Frame.andBoxIdle {ps : List Part} {fs : List Field} {s t : State} (h : Frame ps fs s t) (k : Nat) (hm : Part.mbx ∈ ps := by simp)
    (hf : Fld.MBX_BOX_STATE_STATE k ∈ fs := by simp) : Frame ps fs s (t.boxIdle k) := ((h.andModBox _ _ hm).andPut 0 hf).andMbx _ hm

/-! ### MBX_CFG (R385) -/

theorem State.writeMbxCfg_taken {s : State} {m : Master} {v : Nat} (hm : m.keeperOrBoard = true) (hl : s.locked 6 = false) :
    s.writeMbxCfg m v = ((s.put Fld.MBX_CFG_FM_EN v).put Fld.MBX_CFG_FM_VCS (v / 2)).raiseIf
      (((s.put Fld.MBX_CFG_FM_EN v).put Fld.MBX_CFG_FM_VCS (v / 2)).word Addr.MBX_CFG != s.word Addr.MBX_CFG) Evt.MBX_FM_CHANGED := if_neg (by simp [hm, hl])

theorem State.takes_keeperOrBoard {s : State} {m : Master} {pg : Nat} (hrun : s.mgmtRuns = true) (hm : m.keeperOrBoard = true) (h5 : (pg != 5) = true) (hl : s.live pg = true) :
    s.takes m pg = true := by
  obtain ⟨hup, hstop⟩ := State.mgmtRuns_iff.mp hrun
  cases m <;> simp_all [State.takes, State.pathWrites, Master.keeperOrBoard]

/-! ### The pulse of a doorbell's source (R376) -/

theorem State.pulseDoorbell_cases (s : State) (k : Nat) : s.pulseDoorbell k = s ∨ s.pulseDoorbell k = s.setPending (1792 + k) := by
  unfold State.pulseDoorbell
  split
  · exact .inr rfl
  · exact .inl rfl

theorem State.boxes_pulseDoorbell (s : State) (k : Nat) : (s.pulseDoorbell k).mbx.boxes = s.mbx.boxes := by
  rcases s.pulseDoorbell_cases k with h | h <;> rw [h]
  exact State.boxes_setPending _ _

theorem State.get_pulseDoorbell (s : State) (k : BoxIx) {g : Field} (hw : g.lo + g.width ≤ 32) (hg : 0x60000 ≤ g.addr) : (s.pulseDoorbell k.val).get g = s.get g := by
  rcases s.pulseDoorbell_cases k.val with h | h <;> rw [h]
  refine State.get_setPending _ _ (Field.clearOf_of_addr hw ?_)
  have hk := k.isLt
  simp only [pendingBit, bitField, Addr.INTC_PEND_SET]
  omega

/-- What a doorbell that is taken may change. -/
theorem State.frame_doorbell (s : State) (k : BoxIx) (opcode : Nat) (payload : List Byte) (irq : Bool) :
    Frame [.mbx, .ctrs, .out] [Fld.MBX_BOX_STATE_STATE k.val, Fld.MBX_BOX_STATE_OPCODE k.val, Field.all (Addr.INTC_PEND_SET (56 + k.val / 32))] s
      ((s.begin.boxTaken k.val opcode payload irq).pulseDoorbell k.val) := by
  have htaken : Frame [.mbx, .ctrs, .out] [Fld.MBX_BOX_STATE_STATE k.val, Fld.MBX_BOX_STATE_OPCODE k.val, pendingBit (1792 + k.val)] s (s.begin.boxTaken k.val opcode payload irq) :=
    ((((Frame.begin s).andModBox _ _).andPut _).andPut _).andCount _ _
  have hfine : Frame [.mbx, .ctrs, .out] [Fld.MBX_BOX_STATE_STATE k.val, Fld.MBX_BOX_STATE_OPCODE k.val, pendingBit (1792 + k.val)] s
      ((s.begin.boxTaken k.val opcode payload irq).pulseDoorbell k.val) := by
    rcases (s.begin.boxTaken k.val opcode payload irq).pulseDoorbell_cases k.val with h | h <;> rw [h]
    · exact htaken
    · exact htaken.andSetPending _
  have hpend : (pendingBit (1792 + k.val)).addr = Addr.INTC_PEND_SET (56 + k.val / 32) := by simp only [pendingBit, bitField, Addr.INTC_PEND_SET]; omega
  refine hfine.widen fun f hf => ?_
  simp only [List.mem_cons, List.not_mem_nil, or_false] at hf
  rcases hf with rfl | rfl | rfl
  · exact .inl (by simp)
  · exact .inl (by simp)
  · refine .inr ⟨by simp [hpend], ?_⟩
    simp only [pendingBit, bitField]
    omega

/-! ### The clauses -/

section
variable {s : State} {k : BoxIx} (hrun : s.mgmtRuns = true)
include hrun

/-- A doorbell at a box that is not BUSY takes the command. -/
theorem mbxDoorbell_taken : ∀ opcode : BitVec 16, ∀ payload : List Byte, ∀ irq : Bool, s.boxHears k.val = true → s.get (Fld.MBX_BOX_STATE_STATE k.val) ≠ 1 →
    Answers (.mbxDoorbell k opcode payload irq) s fun t => t.get (Fld.MBX_BOX_STATE_STATE k.val) = 1 ∧ t.get (Fld.MBX_BOX_STATE_OPCODE k.val) = opcode.toNat ∧
    t.box k.val = { s.box k.val with opcode := opcode.toNat, payload := payload, fm := s.boxIsFm k.val, irq := irq, pendingResult := none, result := none } ∧
    Frame [.mbx, .ctrs, .out] [Fld.MBX_BOX_STATE_STATE k.val, Fld.MBX_BOX_STATE_OPCODE k.val, Field.all (Addr.INTC_PEND_SET (56 + k.val / 32))] s t := by
  intro opcode payload irq hears hst
  obtain ⟨hup, hstop⟩ := State.mgmtRuns_iff.mp hrun
  have hfx := State.doorbell_idle (s := s.begin) (opcode := opcode.toNat) (payload := payload) (irq := irq) hstop hears hst
  have hst0 : Addr.MBX_BOX_STATE k.val ≠ 0x40040 ∧ 0x60000 ≤ Addr.MBX_BOX_STATE k.val := by simp only [Addr.MBX_BOX_STATE]; omega
  refine answers_mgmt rfl hup hfx ⟨?_, ?_, ?_, (s.frame_doorbell k opcode.toNat payload irq).settle⟩
  · refine (State.get_settle _ hst0.1).trans ((State.get_pulseDoorbell _ _ (show 0 + 2 ≤ 32 by decide) hst0.2).trans ?_)
    rw [State.boxTaken, State.get_count, State.get_put_clear _ _ (Field.clearOf_of_offset rfl rfl rfl), State.get_put_fits _ (Field.fits_of rfl)]
  · have hop : opcode.toNat < 2 ^ 16 := opcode.isLt
    refine (State.get_settle _ hst0.1).trans ((State.get_pulseDoorbell _ _ (show 16 + 16 ≤ 32 by decide) hst0.2).trans ?_)
    rw [State.boxTaken, State.get_count]
    exact State.get_put_lit _ (show 16 + 16 ≤ 32 by decide) hop
  · rw [State.box_congr (s := s.begin.boxTaken k.val opcode.toNat payload irq) (by rw [State.settle_mbx, State.boxes_pulseDoorbell]), State.box_boxTaken]
    rfl

/-- A BUSY box ignores and counts a doorbell. -/
theorem mbxDoorbell_ignored : ∀ opcode : BitVec 16, ∀ payload : List Byte, ∀ irq : Bool, s.boxHears k.val = true → s.get (Fld.MBX_BOX_STATE_STATE k.val) = 1 → k.val ≠ 64 → k.val ≠ 65 →
    Answers (.mbxDoorbell k opcode payload irq) s fun t => t.counter (Ctr.MBOX k.val 6) = s.counter (Ctr.MBOX k.val 6) + 1 ∧ Frame [.ctrs] [Fld.MBX_BOX_SEQ_IGNORED k.val] s t := by
  intro opcode payload irq hears hst h64 h65
  obtain ⟨hup, hstop⟩ := State.mgmtRuns_iff.mp hrun
  have hfx : s.begin.doorbell k.val opcode.toNat payload irq = s.begin.ignoreInput k.val :=
    (State.doorbell_busy (s := s.begin) hstop hears hst).trans (if_neg (by omega))
  have hframe : Frame [.ctrs] [Fld.MBX_BOX_SEQ_IGNORED k.val] s (s.begin.ignoreInput k.val) := ((Frame.begin s).andAddSat _).andCount _ _
  refine answers_mgmt rfl hup hfx ⟨?_, hframe.settle⟩
  simp [State.ignoreInput, State.addSat]

/-- A request at a BUSY box of the management link is answered Busy. -/
theorem mbxDoorbell_answeredBusy : ∀ opcode : BitVec 16, ∀ payload : List Byte, ∀ irq : Bool, s.boxHears k.val = true → s.get (Fld.MBX_BOX_STATE_STATE k.val) = 1 → (k.val = 64 ∨ k.val = 65) →
    Answers (.mbxDoorbell k opcode payload irq) s fun t => t.out = [.mbxResponse k.val .busy []] ∧ Frame [.ctrs, .out] [] s t := by
  intro opcode payload irq hears hst hk
  obtain ⟨hup, hstop⟩ := State.mgmtRuns_iff.mp hrun
  have hfx : s.begin.doorbell k.val opcode.toNat payload irq = (s.begin.count (Ctr.MBOX k.val 2)).emit (.mbxResponse k.val .busy []) :=
    (State.doorbell_busy (s := s.begin) hstop hears hst).trans (if_pos hk)
  exact answers_mgmt rfl hup hfx ⟨by simp, (((Frame.begin s).andCount _ _).andEmit _).settle⟩

/-- A finished command stores its result. -/
theorem mbxCommandDone_stores : ∀ r : MbxResult, s.get (Fld.MBX_BOX_STATE_STATE k.val) = 1 → (s.box k.val).pendingResult = some r → Answers (.mbxCommandDone k) s fun t =>
    t.get (Fld.MBX_BOX_STATE_STATE k.val) = 2 ∧ t.get (Fld.MBX_BOX_SEQ_RESULT_SEQ k.val) = (s.get (Fld.MBX_BOX_SEQ_RESULT_SEQ k.val) + 1) % 65536 ∧
    (t.box k.val).result = some r ∧ (64 ≤ k.val → t.out = [.mbxResponse k.val r.code r.data]) ∧ (k.val < 64 → (s.box k.val).irq = false → t.out = []) ∧
    Frame [.mbx, .ctrs, .out] [Fld.MBX_BOX_STATE_STATE k.val, Fld.MBX_BOX_SEQ_RESULT_SEQ k.val] s t := by
  intro r hst hr
  refine answers_boxDone hrun (mbxCommandDone_effect hrun hst (.inl hr)) fun hs hfr => ⟨hs.done, hs.seq, hs.result, fun h64 => ?_, fun h64 hirq => ?_, hfr⟩
  · rw [State.settle_out, State.boxDone_eq, if_neg (by omega)]
    simp [State.resultStored]
  · have hvec : (s.begin.resultStored k.val r).boxVector k.val = s.begin.resultStored k.val r := if_neg (by rw [State.irq_resultStored]; simpa using fun _ => hirq)
    rw [State.settle_out, State.boxDone_eq, if_pos h64, hvec]
    simp [State.resultStored]

/-- A finished command of a host signals its vector, or leaves it waiting. -/
theorem mbxCommandDone_signals : ∀ r : MbxResult, k.val < 64 → (s.box k.val).irq = true → s.get (Fld.MBX_BOX_STATE_STATE k.val) = 1 → (s.box k.val).pendingResult = some r →
    Answers (.mbxCommandDone k) s fun t => t.get (Fld.MBX_BOX_STATE_STATE k.val) = 2 ∧
    t.get (Fld.MBX_BOX_SEQ_RESULT_SEQ k.val) = (s.get (Fld.MBX_BOX_SEQ_RESULT_SEQ k.val) + 1) % 65536 ∧ (t.box k.val).result = some r ∧
    ((s.mbx.msixWord k.val 0 3).toNat % 2 = 0 → t.out = [.msix k.val 0]) ∧ ((s.mbx.msixWord k.val 0 3).toNat % 2 = 1 → t.out = [] ∧ 2048 * k.val ∈ t.mbx.pba) ∧
    Frame [.mbx, .ctrs, .out] [Fld.MBX_BOX_STATE_STATE k.val, Fld.MBX_BOX_SEQ_RESULT_SEQ k.val] s t := by
  intro r h64 hirq hst hr
  have hvec : (s.begin.resultStored k.val r).boxVector k.val = (s.begin.resultStored k.val r).signalVcs k.val 0 :=
    if_pos (by rw [State.irq_resultStored]; simpa using ⟨h64, hirq⟩)
  have hmsix : (s.begin.resultStored k.val r).mbx.msixWord k.val 0 3 = s.mbx.msixWord k.val 0 3 := by simp [State.resultStored, State.modBox, Mbx.msixWord]
  refine answers_boxDone hrun (mbxCommandDone_effect hrun hst (.inl hr)) fun hs hfr => ⟨hs.done, hs.seq, hs.result, fun hodd => ?_, fun hodd => ?_, hfr⟩
  · rcases (s.begin.resultStored k.val r).signalVcs_cases k.val 0 with ⟨-, he⟩ | ⟨hm, -⟩
    · rw [State.settle_out, State.boxDone_eq, if_pos h64, hvec, he]
      simp [State.resultStored]
    · rw [hmsix, hodd] at hm
      cases hm
  · rcases (s.begin.resultStored k.val r).signalVcs_cases k.val 0 with ⟨hm, -⟩ | ⟨-, he⟩
    · rw [hmsix, hodd] at hm
      cases hm
    · rw [State.settle_out, State.settle_mbx, State.boxDone_eq, if_pos h64, hvec, he]
      refine ⟨by simp [State.resultStored], ?_⟩
      by_cases hin : (s.begin.resultStored k.val r).mbx.pba.contains (2048 * k.val + 0)
      · rw [if_pos hin]
        simpa using hin
      · rw [if_neg hin]
        simp

/-- A command the module does not support completes with Unsupported. -/
theorem mbxCommandDone_unsupported : s.get (Fld.MBX_BOX_STATE_STATE k.val) = 1 → (s.box k.val).pendingResult = none → ((s.box k.val).opcode ∉ supportedOpcodes) → Answers (.mbxCommandDone k) s fun t =>
    t.get (Fld.MBX_BOX_STATE_STATE k.val) = 2 ∧ (t.box k.val).result = some ⟨.unsupported, []⟩ ∧
    Frame [.mbx, .ctrs, .out] [Fld.MBX_BOX_STATE_STATE k.val, Fld.MBX_BOX_SEQ_RESULT_SEQ k.val] s t := by
  intro hst hr hop
  exact answers_boxDone hrun (mbxCommandDone_effect hrun hst (.inr ⟨hr, hop, rfl⟩)) fun hs hfr => ⟨hs.done, hs.result, hfr⟩

/-- A reset of FABRIC returns a box to IDLE. -/
theorem mbxBoxReset_fabric : s.clk.fabricHeld = true → Answers (.mbxBoxReset k .fabricReset) s fun t => t.get (Fld.MBX_BOX_STATE_STATE k.val) = 0 ∧ t.get (Fld.MBX_BOX_SEQ_RESULT_SEQ k.val) = 0 ∧
    t.box k.val = { (s.box k.val).toIdle with orphan := if s.get (Fld.MBX_BOX_STATE_STATE k.val) = 1 ∧ (s.box k.val).pendingResult = none then some ((s.box k.val).opcode, (s.box k.val).payload, (s.box k.val).fm) else (s.box k.val).orphan } ∧
    Frame [.mbx] [Fld.MBX_BOX_STATE_STATE k.val, Fld.MBX_BOX_SEQ_RESULT_SEQ k.val] s t := by
  intro hheld
  obtain ⟨hup, -⟩ := State.mgmtRuns_iff.mp hrun
  have hfx : (if s.begin.clk.fabricHeld then (s.begin.boxIdle k.val).put (Fld.MBX_BOX_SEQ_RESULT_SEQ k.val) 0 else s.begin) =
      (s.begin.boxIdle k.val).put (Fld.MBX_BOX_SEQ_RESULT_SEQ k.val) 0 := if_pos hheld
  have hframe : Frame [.mbx] [Fld.MBX_BOX_STATE_STATE k.val, Fld.MBX_BOX_SEQ_RESULT_SEQ k.val] s ((s.begin.boxIdle k.val).put (Fld.MBX_BOX_SEQ_RESULT_SEQ k.val) 0) :=
    ((Frame.begin s).andBoxIdle k.val).andPut 0
  have hapart : (Fld.MBX_BOX_STATE_STATE k.val).clearOf (Fld.MBX_BOX_SEQ_RESULT_SEQ k.val) = true :=
    Field.clearOf_of_addr (show 0 + 2 ≤ 32 by decide) (by simp only [Fld.MBX_BOX_STATE_STATE, Fld.MBX_BOX_SEQ_RESULT_SEQ, Addr.MBX_BOX_STATE, Addr.MBX_BOX_SEQ]; omega)
  refine answers_mgmt rfl hup hfx ⟨?_, ?_, ?_, hframe.settle⟩
  · rw [State.get_settle _ (by simp only [Fld.MBX_BOX_STATE_STATE, Addr.MBX_BOX_STATE]; omega), State.get_put_clear _ _ hapart, State.get_boxIdle]
  · rw [State.get_settle _ (by simp only [Fld.MBX_BOX_SEQ_RESULT_SEQ, Addr.MBX_BOX_SEQ]; omega), State.get_put_fits _ (Field.fits_of rfl)]
  · rw [State.box_congr (s := s.begin.boxIdle k.val) (by simp)]
    exact (State.box_boxIdle s.begin k.val).trans (Box.idled_eq _ _)

/-- A function-level reset returns a box to IDLE. -/
theorem mbxBoxReset_flr : k.val < 64 → s.boxHears k.val = true → Answers (.mbxBoxReset k .flr) s fun t => t.get (Fld.MBX_BOX_STATE_STATE k.val) = 0 ∧
    t.box k.val = { (s.box k.val).toIdle with orphan := if s.get (Fld.MBX_BOX_STATE_STATE k.val) = 1 ∧ (s.box k.val).pendingResult = none then some ((s.box k.val).opcode, (s.box k.val).payload, (s.box k.val).fm) else (s.box k.val).orphan } ∧
    Frame [.mbx] [Fld.MBX_BOX_STATE_STATE k.val] s t := by
  intro h64 hears
  obtain ⟨hup, -⟩ := State.mgmtRuns_iff.mp hrun
  have hreach : s.begin.vcsReached k.val = true := (Bool.and_eq_true_iff.mp ((if_pos h64).symm.trans hears)).2
  have hfx : (if k.val < 64 && s.begin.vcsReached k.val then s.begin.boxIdle k.val else s.begin) = s.begin.boxIdle k.val := if_pos (by simp [h64, hreach])
  have hframe : Frame [.mbx] [Fld.MBX_BOX_STATE_STATE k.val] s (s.begin.boxIdle k.val) := (Frame.begin s).andBoxIdle k.val
  refine answers_mgmt rfl hup hfx ⟨?_, ?_, hframe.settle⟩
  · rw [State.get_settle _ (by simp only [Fld.MBX_BOX_STATE_STATE, Addr.MBX_BOX_STATE]; omega), State.get_boxIdle]
  · rw [State.box_congr (s := s.begin.boxIdle k.val) (by simp)]
    exact (State.box_boxIdle s.begin k.val).trans (Box.idled_eq _ _)

/-- A keeper core or the board designates the fabric manager. -/
theorem mbxCfgWrite_taken : ∀ m : Master, ∀ value : Word, m.keeperOrBoard = true → s.locked 6 = false → Answers (.mbxCfgWrite m value) s fun t => t.flag Fld.MBX_CFG_FM_EN = value.getLsbD 0 ∧
    t.get Fld.MBX_CFG_FM_VCS = bitsOf value.toNat 1 6 ∧ (t.word Addr.MBX_CFG ≠ s.word Addr.MBX_CFG → t.get Evt.MBX_FM_CHANGED.field = 1) ∧
    Frame [] [Fld.MBX_CFG_FM_EN, Fld.MBX_CFG_FM_VCS, Evt.MBX_FM_CHANGED.field] s t := by
  intro m value hm hl
  obtain ⟨hup, -⟩ := State.mgmtRuns_iff.mp hrun
  have hlive : s.live 6 = true := State.live_of_mgmtUp hup (by decide)
  have hfx := State.writeMbxCfg_taken (s := s.begin) (v := value.toNat) hm hl
  have hframe : Frame [] [Fld.MBX_CFG_FM_EN, Fld.MBX_CFG_FM_VCS, Evt.MBX_FM_CHANGED.field] s (((s.begin.put Fld.MBX_CFG_FM_EN value.toNat).put Fld.MBX_CFG_FM_VCS (value.toNat / 2)).raiseIf
      (((s.begin.put Fld.MBX_CFG_FM_EN value.toNat).put Fld.MBX_CFG_FM_VCS (value.toNat / 2)).word Addr.MBX_CFG != s.begin.word Addr.MBX_CFG) Evt.MBX_FM_CHANGED) :=
    (((Frame.begin s).andPut _).andPut _).andRaiseIf _
  refine answers_guard rfl (State.takes_keeperOrBoard hrun hm (by decide) hlive) hfx hframe (hframe.home_dir (by simp)) (by decide) fun hfr => ⟨?_, ?_, fun hne => ?_, hfr⟩
  · have hen : (s.begin.put Fld.MBX_CFG_FM_EN value.toNat).get Fld.MBX_CFG_FM_EN = value.toNat % 2 := State.get_put_same _ _ _ (by decide)
    rw [State.flag, State.get_settle _ (by decide), State.get_raiseIf_clear _ (by decide), State.get_put_clear _ _ (by decide), hen, BitVec.getLsbD, Nat.testBit_zero]
    rfl
  · rw [State.get_settle _ (by decide), State.get_raiseIf_clear _ (by decide)]
    exact State.get_put_same _ _ _ (by decide)
  · have hdiff : (((s.begin.put Fld.MBX_CFG_FM_EN value.toNat).put Fld.MBX_CFG_FM_VCS (value.toNat / 2)).word Addr.MBX_CFG != s.begin.word Addr.MBX_CFG) = true := by
      rw [State.word_settle _ (by decide), State.word_raiseIf_other _ (by decide)] at hne
      simpa using hne
    rw [State.get_settle _ (by decide), hdiff]
    exact State.get_raise_same ((State.live_congr (s := s) (by simp) (by simp) _).trans hlive) (by decide) (by decide)

omit hrun in
/-- No other master designates it. -/
theorem mbxCfgWrite_ignored : ∀ m : Master, ∀ value : Word, m.keeperOrBoard = false → m ≠ .policy → Answers (.mbxCfgWrite m value) s fun t => Frame [] [] s t := by
  intro m value hm hpol
  have hno : s.begin.writeMbxCfg m value.toNat = s.begin := if_pos (by simp [hm])
  exact answers_done (congrArg done (State.guard_of_noEffect hpol hno)) (Frame.begin s).settle

end

/-- Settles O32, clause by clause. -/
theorem mailboxProtocol : Obligations.MailboxProtocol := by
  unfold Obligations.MailboxProtocol
  exact fun s k hrun => ⟨mbxDoorbell_taken hrun, mbxDoorbell_ignored hrun, mbxDoorbell_answeredBusy hrun, mbxCommandDone_stores hrun, mbxCommandDone_signals hrun, mbxCommandDone_unsupported hrun, mbxBoxReset_fabric hrun, mbxBoxReset_flr hrun, mbxCfgWrite_taken hrun, mbxCfgWrite_ignored⟩

end Sys2Proof.Machine
end

section
/-! PROOFS. Transfers of Fixon and firmware images into the slots of the NV store (O35, R79, R387, R391, R402). -/
namespace Sys2Proof.Machine
open Sys2Proof
set_option Elab.async false

/-! ### A command a box runs (R386) -/

theorem answers_command {ci : Instr} {s x : State} {k op : Nat} {c : CmdClass} {f : State → State} {P : State → Prop} (hrun : s.runs k op c = true)
    (he : exec ci s = done (s.begin.command k op c f)) (hfx : f s.begin = x) (hp : P x.settle) : Answers ci s P := by
  simp only [State.runs, Bool.and_eq_true, State.mgmtRuns_iff, Option.isNone_iff_eq_none, beq_iff_eq] at hrun
  obtain ⟨⟨⟨⟨⟨⟨hup, hstop⟩, horphan⟩, hstate⟩, hop⟩, hres⟩, hmay⟩ := hrun
  subst hfx
  refine answers_done (he.trans (congrArg done ?_)) hp
  have horphan' : (s.begin.box k).orphan = none := horphan
  have hop' : (s.begin.box k).opcode = op := hop
  have hres' : (s.begin.box k).pendingResult = none := hres
  have hmay' : s.begin.boxMay k c = true := by cases c <;> exact hmay
  simp [State.command, hup, hstop, horphan', hop', hres', hmay', hstate]

/-! ### The result, and the start and end of a background operation (R391) -/

@[simp] theorem State.box_answerBox (s : State) (k : Nat) (c : RetCode) (d : List Nat) : (s.answerBox k c d).box k = { s.box k with pendingResult := some ⟨c, d⟩ } :=
  s.box_modBox k _

theorem Frame.andAnswerBox {ps : List Part} {fs : List Field} {s t : State} (h : Frame ps fs s t) (k : Nat) (c : RetCode) (hm : Part.mbx ∈ ps := by simp) :
    Frame ps fs s (t.answerBox k c) := h.andModBox _ _ hm

theorem Frame.andBoxVector {ps : List Part} {fs : List Field} {s t : State} (h : Frame ps fs s t) (k : Nat) (hm : Part.mbx ∈ ps := by simp) (ho : Part.out ∈ ps := by simp) :
    Frame ps fs s (t.boxVector k) := by
  rcases t.boxVector_cases k with he | he <;> rw [he]
  · exact h
  · exact h.andSignalVcs _ _ hm ho

theorem Frame.andBgStart {ps : List Part} {fs : List Field} {s t : State} (h : Frame ps fs s t) (k : Nat) (hm : Part.mbx ∈ ps := by simp) (hc : Part.ctrs ∈ ps := by simp)
    (hf : Fld.MBX_BOX_STATE_BG k ∈ fs := by simp) : Frame ps fs s (t.bgStart k) := ((((h.andAnswerBox k _ hm).andPut 1 hf).andCount _ _ hc).andModBox _ _ hm)

theorem Frame.andBgEnd {ps : List Part} {fs : List Field} {s t : State} (h : Frame ps fs s t) (k : Nat) (c : RetCode) (hm : Part.mbx ∈ ps := by simp) (ho : Part.out ∈ ps := by simp)
    (hf : Fld.MBX_BOX_STATE_BG k ∈ fs := by simp) : Frame ps fs s (t.bgEnd k c) := ((h.andPut 0 hf).andModBox _ _ hm).andBoxVector k hm ho

/-! ### The slots (R79, R387) -/

/-- The byte a slot holds at an address. -/
theorem FixonSlot.byte_eq (f : FixonSlot) (a : Nat) : f.byte a = (sparseGet (fun _ => (0 : Byte)) f.data a).toNat := by
  unfold FixonSlot.byte sparseGet
  cases assoc f.data a <;> rfl

/-- Data written in ascending order stand where they were written. -/
theorem sparseGet_putAll (m : List Host.Cell) (data : List Byte) (off : Nat) : ∀ n i, i < n →
    sparseGet (fun _ => (0 : Byte)) ((List.range n).foldl (fun d j => sparsePut (fun _ => (0 : Byte)) d (off + j) (data.getD j 0)) m) (off + i) = data.getD i 0
  | n + 1, i, hi => by
    rw [List.range_succ, List.foldl_append, List.foldl_cons, List.foldl_nil]
    by_cases h : i = n
    · rw [h, sparseGet_sparsePut_same]
    · rw [sparseGet_sparsePut_other _ _ _ (by omega)]
      exact sparseGet_putAll m data off n i (by omega)

/-- A Fixon slot put in place of another. -/
def State.withFixon (s : State) (slot : Bool) (f : FixonSlot) : State := { s with nv := if slot then { s.nv with fixB := f } else { s.nv with fixA := f } }

@[simp] theorem State.fixSlot_withFixon (s : State) (slot : Bool) (f : FixonSlot) : (s.withFixon slot f).fixSlot slot = f := by cases slot <;> rfl
@[simp] theorem State.fixSlot_withFixon_other (s : State) (slot : Bool) (f : FixonSlot) : (s.withFixon slot f).fixSlot (!slot) = s.fixSlot (!slot) := by cases slot <;> rfl
@[simp] theorem State.withFixon_mbx (s : State) (slot : Bool) (f : FixonSlot) : (s.withFixon slot f).mbx = s.mbx := rfl
@[simp] theorem State.get_withFixon (s : State) (slot : Bool) (f : FixonSlot) (g : Field) : (s.withFixon slot f).get g = s.get g := rfl
theorem Frame.andWithFixon {ps : List Part} {fs : List Field} {s t : State} (h : Frame ps fs s t) (slot : Bool) (f : FixonSlot) (hp : Part.nv ∈ ps := by simp) :
    Frame ps fs s (t.withFixon slot f) := h.andNv _ hp

/-- The data of a part written into a slot. -/
def FixonSlot.written (f : FixonSlot) (off : Nat) (data : List Byte) : FixonSlot :=
  { f with data := (List.range data.length).foldl (fun d i => sparsePut (fun _ => (0 : Byte)) d (off + i) (data.getD i 0)) f.data }

theorem State.putFixon_eq (s : State) (slot : Bool) (off : Nat) (data : List Byte) : s.putFixon slot off data = s.withFixon slot ((s.fixSlot slot).written off data) := by
  cases slot <;> rfl

theorem FixonSlot.byte_written (f : FixonSlot) (off : Nat) (data : List Byte) {i : Nat} (hi : i < data.length) : (f.written off data).byte (off + i) = (data.getD i 0).toNat := by
  rw [FixonSlot.byte_eq, FixonSlot.written, sparseGet_putAll f.data data off _ i hi]

theorem State.fixSlot_congr {s t : State} (ha : t.nv.fixA = s.nv.fixA) (hb : t.nv.fixB = s.nv.fixB) (slot : Bool) : t.fixSlot slot = s.fixSlot slot := by
  cases slot
  · exact ha
  · exact hb

theorem State.fixSlot_nvWrote (s : State) (n : Nat) (slot : Bool) : (s.nvWrote n).fixSlot slot = s.fixSlot slot :=
  State.fixSlot_congr (by rw [State.nvWrote_nv]) (by rw [State.nvWrote_nv]) slot

/-! ### A slot made invalid (R84, R387) -/

theorem validField_width (fixon slot : Bool) : (validField fixon slot).lo + (validField fixon slot).width ≤ 32 := by cases fixon <;> cases slot <;> decide

theorem validField_clear_bg (fixon slot : Bool) (k : Nat) : (validField fixon slot).clearOf (Fld.MBX_BOX_STATE_BG k) = true :=
  Field.clearOf_of_addr (validField_width fixon slot) (by simp only [validField, Fld.MBX_BOX_STATE_BG, Addr.BOOT_SLOTS, Addr.MBX_BOX_STATE]; omega)

theorem State.get_put_valid (s : State) (fixon slot v : Bool) : (s.put (validField fixon slot) (bit v)).get (validField fixon slot) = bit v :=
  State.get_put_lit s (validField_width fixon slot) (show bit v < 2 ^ 1 by cases v <;> decide)

theorem State.get_put_validated (s : State) (fixon slot : Bool) : (s.put (validField fixon slot) 1).get (validField fixon slot) = 1 := State.get_put_valid s fixon slot true

@[simp] theorem State.dropSlot_mbx (s : State) (fixon slot : Bool) : (s.dropSlot fixon slot).mbx = s.mbx := State.put_mbx _ _ _
@[simp] theorem State.get_dropSlot (s : State) (fixon slot : Bool) : (s.dropSlot fixon slot).get (validField fixon slot) = 0 := State.get_put_valid _ fixon slot false

theorem Frame.andDropSlot {ps : List Part} {fs : List Field} {s t : State} (h : Frame ps fs s t) (fixon slot : Bool) (hp : Part.nv ∈ ps := by simp)
    (hf : validField fixon slot ∈ fs := by simp) : Frame ps fs s (t.dropSlot fixon slot) := (h.andNv _ hp).andPut 0 hf

theorem State.bad_dropSlot (s : State) (slot : Bool) : ((s.dropSlot true slot).fixSlot slot).bad = true := by
  cases slot <;> simp [State.dropSlot, State.fixSlot]

theorem State.fixSlot_dropSlot_other (s : State) (slot : Bool) : (s.dropSlot true slot).fixSlot (!slot) = s.fixSlot (!slot) := by
  cases slot <;> simp [State.dropSlot, State.fixSlot]

/-- The firmware image a slot holds, whether it verifies or not. -/
def Nv.fwImage (n : Nv) (slot : Bool) : Option SignedImage := if slot then n.fwB else n.fwA

theorem State.fwImage_dropSlot (s : State) (slot : Bool) : (s.dropSlot false slot).nv.fwImage slot = none := by
  cases slot <;> simp [State.dropSlot, Nv.fwImage]

theorem State.fwImage_nvWrote (s : State) (n : Nat) (slot : Bool) : (s.nvWrote n).nv.fwImage slot = s.nv.fwImage slot := by
  rw [State.nvWrote_nv]
  rfl

/-! ### A background operation's registers -/

@[simp] theorem State.bgStart_nv (s : State) (k : Nat) : (s.bgStart k).nv = s.nv := by simp [State.bgStart, State.answerBox]
theorem State.box_bgStart (s : State) (k : Nat) : ((s.bgStart k).box k).pendingResult = some ⟨.background, []⟩ := by
  have hbox : (s.bgStart k).box k = { s.answerBox k .background |>.box k with bgCode := none, bgOp := ((s.answerBox k .background).box k).opcode } :=
    (State.box_modBox _ k _).trans (by rw [State.box_congr (s := s.answerBox k .background) (by simp)])
  rw [hbox, State.box_answerBox]

theorem State.get_bgStart (s : State) (k : Nat) : (s.bgStart k).get (Fld.MBX_BOX_STATE_BG k) = 1 := by
  rw [show (s.bgStart k).get (Fld.MBX_BOX_STATE_BG k) = (((s.answerBox k .background).put (Fld.MBX_BOX_STATE_BG k) 1).count (Ctr.MBOX k 7)).get (Fld.MBX_BOX_STATE_BG k) from rfl,
    State.get_count, State.get_put_fits _ (Field.fits_of rfl)]

theorem State.get_bgStart_valid (s : State) (k : Nat) (fixon slot : Bool) : (s.bgStart k).get (validField fixon slot) = s.get (validField fixon slot) := by
  rw [show (s.bgStart k).get (validField fixon slot) = (((s.answerBox k .background).put (Fld.MBX_BOX_STATE_BG k) 1).count (Ctr.MBOX k 7)).get (validField fixon slot) from rfl,
    State.get_count, State.get_put_clear _ _ (validField_clear_bg fixon slot k)]
  rfl

/-- A box after a background operation has ended, before its vector. -/
def State.bgOver (s : State) (k : Nat) (c : RetCode) : State := (s.put (Fld.MBX_BOX_STATE_BG k) 0).modBox k fun b => { b with bgCode := some c }

theorem State.bgEnd_eq (s : State) (k : Nat) (c : RetCode) : s.bgEnd k c = (s.bgOver k c).boxVector k := rfl

theorem State.regs_boxVector (s : State) (k : Nat) : (s.boxVector k).regs = s.regs := by
  rcases s.boxVector_cases k with h | h <;> rw [h]
  exact s.regs_signalVcs k 0

theorem State.boxes_boxVector (s : State) (k : Nat) : (s.boxVector k).mbx.boxes = s.mbx.boxes := by
  rcases s.boxVector_cases k with h | h <;> rw [h]
  exact s.boxes_signalVcs k 0

theorem State.transfer_boxVector (s : State) (k : Nat) : (s.boxVector k).mbx.transfer = s.mbx.transfer := by
  rcases s.boxVector_cases k with h | h <;> rw [h]
  rcases s.signalVcs_cases k 0 with ⟨-, h⟩ | ⟨-, h⟩ <;> rw [h]
  rfl

theorem State.boxVector_nv (s : State) (k : Nat) : (s.boxVector k).nv = s.nv := by
  rcases s.boxVector_cases k with h | h <;> rw [h]
  rcases s.signalVcs_cases k 0 with ⟨-, h⟩ | ⟨-, h⟩ <;> rw [h]
  rfl

theorem State.boxVector_sec (s : State) (k : Nat) : (s.boxVector k).sec = s.sec := by
  rcases s.boxVector_cases k with h | h <;> rw [h]
  rcases s.signalVcs_cases k 0 with ⟨-, h⟩ | ⟨-, h⟩ <;> rw [h]
  rfl

theorem State.bgOver_parts (s : State) (k : Nat) (c : RetCode) :
    (s.bgOver k c).nv = s.nv ∧ (s.bgOver k c).sec = s.sec ∧ (s.bgOver k c).mbx.transfer = s.mbx.transfer := by
  refine ⟨by simp [State.bgOver], by simp [State.bgOver], ?_⟩
  rw [show (s.bgOver k c).mbx.transfer = (s.put (Fld.MBX_BOX_STATE_BG k) 0).mbx.transfer from rfl, State.put_mbx]

theorem State.bgEnd_nv (s : State) (k : Nat) (c : RetCode) : (s.bgEnd k c).nv = s.nv := by rw [State.bgEnd_eq, State.boxVector_nv, (s.bgOver_parts k c).1]
theorem State.bgEnd_sec (s : State) (k : Nat) (c : RetCode) : (s.bgEnd k c).sec = s.sec := by rw [State.bgEnd_eq, State.boxVector_sec, (s.bgOver_parts k c).2.1]
theorem State.transfer_bgEnd (s : State) (k : Nat) (c : RetCode) : (s.bgEnd k c).mbx.transfer = s.mbx.transfer := by
  rw [State.bgEnd_eq, State.transfer_boxVector, (s.bgOver_parts k c).2.2]

theorem State.bgCode_bgEnd (s : State) (k : Nat) (c : RetCode) : ((s.bgEnd k c).box k).bgCode = some c := by
  rw [State.bgEnd_eq, State.box_congr (State.boxes_boxVector _ k), State.bgOver, State.box_modBox]

theorem State.get_bgEnd (s : State) (k : Nat) (c : RetCode) : (s.bgEnd k c).get (Fld.MBX_BOX_STATE_BG k) = 0 :=
  (State.get_congr (State.regs_boxVector _ k) _).trans (State.get_put_fits s (f := Fld.MBX_BOX_STATE_BG k) (v := 0) (Field.fits_of rfl))

theorem State.get_bgEnd_other (s : State) (k : Nat) (c : RetCode) {g : Field} (h : g.clearOf (Fld.MBX_BOX_STATE_BG k) = true) : (s.bgEnd k c).get g = s.get g :=
  (State.get_congr (State.regs_boxVector _ k) _).trans (State.get_put_clear s 0 h)

theorem State.word_bgEnd_other (s : State) (k : Nat) (c : RetCode) {a : Nat} (h : a ≠ Addr.MBX_BOX_STATE k) : (s.bgEnd k c).word a = s.word a :=
  (State.word_congr (State.regs_boxVector _ k) _).trans (State.word_put_other s 0 h)

/-! ### Transfers (R387, R402) -/

/-- A transfer into a slot has started: the slot is invalid. -/
def State.transferStarted (s : State) (k : Nat) (fixon slot : Bool) : State :=
  (({ s with mbx := { s.mbx with transfer := some ⟨k, fixon, slot⟩ } }.dropSlot fixon slot).nvWrote (8 + 2 * bit (!fixon) + bit slot)).bgStart k

theorem State.startTransfer_free {s : State} {k : Nat} {fixon slot : Bool} (huse : s.slotInUse fixon slot = false) (hfree : s.mbx.transfer = none)
    (hbg : s.flag (Fld.MBX_BOX_STATE_BG k) = false) : s.startTransfer k fixon slot = s.transferStarted k fixon slot := by
  rw [State.startTransfer, huse, hfree, hbg]
  rfl

theorem State.startTransfer_used {s : State} {k : Nat} {fixon slot : Bool} (huse : s.slotInUse fixon slot = true) : s.startTransfer k fixon slot = s.answerBox k .invalidInput :=
  if_pos huse

theorem State.startTransfer_busy {s : State} {k : Nat} {fixon slot : Bool} (huse : s.slotInUse fixon slot = false) (hbusy : s.mbx.transfer ≠ none) :
    s.startTransfer k fixon slot = s.answerBox k .busy := by
  rw [State.startTransfer, huse, Option.isSome_iff_ne_none.mpr hbusy]
  rfl

theorem State.ownTransfer_own {s : State} {k : Nat} {fixon slot : Bool} (h : s.mbx.transfer = some ⟨k, fixon, slot⟩) : s.ownTransfer k fixon slot = .ok ⟨k, fixon, slot⟩ := by
  simp [State.ownTransfer, h]

theorem State.transfer_started (s : State) (k : Nat) (fixon slot : Bool) : (s.transferStarted k fixon slot).mbx.transfer = some ⟨k, fixon, slot⟩ := by
  rw [State.transferStarted, State.bgStart]
  simp [State.modBox, State.answerBox]

theorem State.get_started_valid (s : State) (k : Nat) (fixon slot : Bool) : (s.transferStarted k fixon slot).get (validField fixon slot) = 0 := by
  rw [State.transferStarted, State.get_bgStart_valid, State.get_nvWrote (show Addr.BOOT_SLOTS ≠ _ by decide) (show Addr.BOOT_SLOTS ≠ _ by decide), State.get_dropSlot]

theorem Frame.andTransferStarted {ps : List Part} {fs : List Field} {s t : State} (h : Frame ps fs s t) (k : Nat) (fixon slot : Bool) (hm : Part.mbx ∈ ps := by simp)
    (hn : Part.nv ∈ ps := by simp) (hc : Part.ctrs ∈ ps := by simp) (h1 : Fld.MBX_BOX_STATE_BG k ∈ fs := by simp) (h2 : validField fixon slot ∈ fs := by simp)
    (h3 : Fld.NVS_WEAR_UNITS ∈ fs := by simp) (h4 : Evt.NVS_WEAR_HIGH.field ∈ fs := by simp) : Frame ps fs s (t.transferStarted k fixon slot) :=
  (((h.andMbx _ hm).andDropSlot fixon slot hn h2).andNvWrote _ hn h3 h4).andBgStart k hm hc h1

/-- What the end of a transfer shows in its box, with the result of the part that ended it. -/
structure State.TransferOver (t : State) (k : Nat) (fixon slot : Bool) (c bg : RetCode) (valid : Nat) : Prop where
  result : (t.box k).pendingResult = some ⟨c, []⟩
  transfer : t.mbx.transfer = none
  valid : t.get (validField fixon slot) = valid
  ended : t.get (Fld.MBX_BOX_STATE_BG k) = 0
  code : (t.box k).bgCode = some bg

theorem State.transferOver (u : State) {k : Nat} {fixon slot : Bool} (c bg : RetCode) (hfree : u.mbx.transfer = none) :
    (((u.bgEnd k bg).answerBox k c).settle).TransferOver k fixon slot c bg (u.get (validField fixon slot)) := by
  have hbox : (((u.bgEnd k bg).answerBox k c).settle).box k = { (u.bgEnd k bg).box k with pendingResult := some ⟨c, []⟩ } :=
    (State.box_congr (by simp) k).trans (State.box_answerBox _ k c [])
  refine ⟨?_, ?_, ?_, ?_, ?_⟩
  · rw [hbox]
  · rw [State.settle_mbx, show ((u.bgEnd k bg).answerBox k c).mbx.transfer = (u.bgEnd k bg).mbx.transfer from rfl, State.transfer_bgEnd, hfree]
  · rw [State.get_settle _ (show Addr.BOOT_SLOTS ≠ 0x40040 by decide)]
    exact State.get_bgEnd_other u k bg (validField_clear_bg fixon slot k)
  · rw [State.get_settle _ (by simp only [Fld.MBX_BOX_STATE_BG, Addr.MBX_BOX_STATE]; omega)]
    exact State.get_bgEnd u k bg
  · rw [hbox]
    exact State.bgCode_bgEnd u k bg

theorem Frame.andEndTransfer {ps : List Part} {fs : List Field} {s t : State} (h : Frame ps fs s t) (k : Nat) (fixon slot : Bool) (c : RetCode) (hm : Part.mbx ∈ ps := by simp)
    (hn : Part.nv ∈ ps := by simp) (ho : Part.out ∈ ps := by simp) (h1 : Fld.MBX_BOX_STATE_BG k ∈ fs := by simp) (h2 : validField fixon slot ∈ fs := by simp) :
    Frame ps fs s (t.endTransfer ⟨k, fixon, slot⟩ c) := ((h.andMbx _ hm).andDropSlot fixon slot hn h2).andBgEnd k c hm ho h1

/-- A transfer dropped with its slot, before the box learns of it. -/
def State.transferDropped (s : State) (fixon slot : Bool) : State := { s with mbx := { s.mbx with transfer := none } }.dropSlot fixon slot

theorem State.endTransfer_eq (s : State) (k : Nat) (fixon slot : Bool) (c : RetCode) : s.endTransfer ⟨k, fixon, slot⟩ c = (s.transferDropped fixon slot).bgEnd k c := rfl

theorem State.transferOver_endTransfer (s : State) (k : Nat) (fixon slot : Bool) (c bg : RetCode) :
    (((s.endTransfer ⟨k, fixon, slot⟩ bg).answerBox k c).settle).TransferOver k fixon slot c bg 0 := by
  rw [State.endTransfer_eq, ← State.get_dropSlot { s with mbx := { s.mbx with transfer := none } } fixon slot]
  exact State.transferOver (s.transferDropped fixon slot) c bg (by rw [State.transferDropped, State.dropSlot_mbx])

theorem State.nv_transferEnded (s : State) (k : Nat) (fixon slot : Bool) (c bg : RetCode) :
    (((s.endTransfer ⟨k, fixon, slot⟩ bg).answerBox k c).settle).nv = (s.dropSlot fixon slot).nv := by
  rw [State.settle_nv, show ((s.endTransfer ⟨k, fixon, slot⟩ bg).answerBox k c).nv = (s.endTransfer ⟨k, fixon, slot⟩ bg).nv from rfl, State.endTransfer_eq, State.bgEnd_nv]
  cases fixon <;> cases slot <;> simp [State.transferDropped, State.dropSlot]

theorem State.bad_transferEnded (s : State) (k : Nat) (slot : Bool) (c bg : RetCode) :
    ((((s.endTransfer ⟨k, true, slot⟩ bg).answerBox k c).settle).fixSlot slot).bad = true := by
  have hnv := s.nv_transferEnded k true slot c bg
  rw [State.fixSlot_congr (s := s.dropSlot true slot) (by rw [hnv]) (by rw [hnv])]
  exact s.bad_dropSlot slot

theorem State.fwImage_transferEnded (s : State) (k : Nat) (slot : Bool) (c bg : RetCode) :
    (((s.endTransfer ⟨k, false, slot⟩ bg).answerBox k c).settle).nv.fwImage slot = none := by
  rw [s.nv_transferEnded, s.fwImage_dropSlot]

theorem State.fwImage_started (s : State) (k : Nat) (slot : Bool) : (s.transferStarted k false slot).nv.fwImage slot = none := by
  rw [State.transferStarted, State.bgStart_nv, State.fwImage_nvWrote]
  exact State.fwImage_dropSlot _ slot

/-- A firmware slot whose image verified, with the transfer ended. -/
def State.fwAccepted (s : State) (slot : Bool) (img : SignedImage) : State :=
  { s with nv := (if slot then { s.nv with fwB := some img } else { s.nv with fwA := some img }), mbx := { s.mbx with transfer := none } }

theorem Frame.andFwAccepted {ps : List Part} {fs : List Field} {s t : State} (h : Frame ps fs s t) (slot : Bool) (img : SignedImage) (hn : Part.nv ∈ ps := by simp)
    (hm : Part.mbx ∈ ps := by simp) : Frame ps fs s (t.fwAccepted slot img) :=
  (h.andNv (if slot then { t.nv with fwB := some img } else { t.nv with fwA := some img }) hn).andMbx { t.mbx with transfer := none } hm

theorem State.fwImage_accepted (s : State) (k : Nat) (slot : Bool) (img : SignedImage) :
    ((((s.fwAccepted slot img).put (validField false slot) 1).bgEnd k .success).answerBox k .success).nv.fwImage slot = some img := by
  rw [show ((((s.fwAccepted slot img).put (validField false slot) 1).bgEnd k .success).answerBox k .success).nv
    = (((s.fwAccepted slot img).put (validField false slot) 1).bgEnd k .success).nv from rfl, State.bgEnd_nv, State.put_nv]
  cases slot <;> rfl

/-! ### The validity of a Fixon slot (R79) -/

theorem State.fixonValid_congr {s t : State} (slot : Bool) (hf : t.fixSlot slot = s.fixSlot slot) (hver : t.get Fld.DEV_FW_VER_VER = s.get Fld.DEV_FW_VER_VER)
    (hsec : t.secWord = s.secWord) (hotp : t.nv.otp = s.nv.otp) : t.fixonValid slot = s.fixonValid slot := by
  have hkey : ∀ n, t.keyUsable n = s.keyUsable n := fun n => by rw [State.keyUsable, State.keyUsable, hsec]
  have hsig : ∀ f : FixonSlot, f.sigOk t = f.sigOk s := fun f => by simp only [FixonSlot.sigOk, hkey, hotp]
  rw [State.fixonValid, State.fixonValid, hf, State.fixonImage, State.fixonImage, hsig, hver, hsec]

/-- A Fixon slot whose image passed its checks, with the transfer ended. -/
def State.fixonAccepted (s : State) (slot : Bool) : State :=
  { s with nv := (if slot then { s.nv with fixB := { s.nv.fixB with bad := false } } else { s.nv with fixA := { s.nv.fixA with bad := false } }),
           mbx := { s.mbx with transfer := none } }

theorem Frame.andFixonAccepted {ps : List Part} {fs : List Field} {s t : State} (h : Frame ps fs s t) (slot : Bool) (hn : Part.nv ∈ ps := by simp)
    (hm : Part.mbx ∈ ps := by simp) : Frame ps fs s (t.fixonAccepted slot) :=
  (h.andNv (if slot then { t.nv with fixB := { t.nv.fixB with bad := false } } else { t.nv with fixA := { t.nv.fixA with bad := false } }) hn).andMbx
    { t.mbx with transfer := none } hm

/-- Validity outlives what the end of a transfer writes. -/
theorem State.fixonValid_ended (s : State) (slot : Bool) {k : Nat} (hk : k < 67) (c bg : RetCode) :
    (((s.put (validField true slot) 1).bgEnd k bg).answerBox k c).settle.fixonValid slot = s.fixonValid slot := by
  have hnv : (((s.put (validField true slot) 1).bgEnd k bg).answerBox k c).settle.nv = s.nv := by
    rw [State.settle_nv, show (((s.put (validField true slot) 1).bgEnd k bg).answerBox k c).nv = ((s.put (validField true slot) 1).bgEnd k bg).nv from rfl, State.bgEnd_nv, State.put_nv]
  have hword : ∀ a, a ≠ 0x40040 → a ≠ Addr.MBX_BOX_STATE k → a ≠ Addr.BOOT_SLOTS →
      (((s.put (validField true slot) 1).bgEnd k bg).answerBox k c).settle.word a = s.word a := fun a h1 h2 h3 => by
    rw [State.word_settle _ h1]
    exact (State.word_bgEnd_other _ k bg h2).trans (State.word_put_other s 1 h3)
  have hsec : (((s.put (validField true slot) 1).bgEnd k bg).answerBox k c).settle.sec = s.sec := by
    rw [State.settle_sec, show (((s.put (validField true slot) 1).bgEnd k bg).answerBox k c).sec = ((s.put (validField true slot) 1).bgEnd k bg).sec from rfl, State.bgEnd_sec, State.put_sec]
  refine State.fixonValid_congr slot (State.fixSlot_congr (by rw [hnv]) (by rw [hnv]) slot) ?_ ?_ (by rw [hnv])
  · exact State.get_of_word (hword Addr.DEV_FW_VER (by decide) (by simp only [Addr.DEV_FW_VER, Addr.MBX_BOX_STATE]; omega) (by decide))
  · rw [State.secWord, State.secWord, hsec, hword Addr.SEC_STATUS (by decide) (by simp only [Addr.SEC_STATUS, Addr.MBX_BOX_STATE]; omega) (by decide)]

/-! ### Transfer Fixon Image (R387) -/

theorem answers_part {ci : Instr} {s x : State} {k : BoxIx} {action : Nat} {slot : Bool} {f : State → Box → Bool → State} {P : State → Prop}
    (hrun : s.runs k.val Opc.fixonXfer .b = true) (he : exec ci s = done (s.begin.fixonPart k.val action f)) (harg : (s.box k.val).arg 0 1 = action)
    (hslot : (s.box k.val).arg 1 1 = bit slot) (hpart : action ≤ 2 → (s.box k.val).part.2.2 = true) (hfx : f s.begin (s.box k.val) slot = x) (hp : P x.settle) :
    Answers ci s P := by
  refine answers_command hrun he (x := x) ?_ hp
  have hbox : s.begin.box k.val = s.box k.val := rfl
  have hin : ¬ ((decide (2 ≤ (s.box k.val).arg 1 1) || decide (action ≤ 2) && !(s.box k.val).part.2.2) = true) := by
    rw [hslot, show decide (2 ≤ bit slot) = false by cases slot <;> rfl, Bool.false_or]
    intro h
    obtain ⟨h1, h2⟩ := Bool.and_eq_true_iff.mp h
    rw [hpart (of_decide_eq_true h1)] at h2
    exact absurd h2 (by decide)
  have hbit : (bit slot == 1) = slot := by cases slot <;> rfl
  simp only [hbox]
  rw [if_neg (not_not.mpr harg), if_neg hin, hslot, hbit, hfx]

/-- A Fixon transfer started, with the data of its first part. -/
def State.fixonStarted (s : State) (k : Nat) (slot : Bool) (off : Nat) (data : List Byte) : State :=
  ((s.transferStarted k true slot).withFixon slot ⟨[], true⟩).putFixon slot off data

theorem State.fixonStarted_eq (s : State) (k : Nat) (slot : Bool) (off : Nat) (data : List Byte) :
    s.fixonStarted k slot off data = (s.transferStarted k true slot).withFixon slot (FixonSlot.written ⟨[], true⟩ off data) := by
  rw [State.fixonStarted, State.putFixon_eq, State.fixSlot_withFixon]
  cases slot <;> rfl

theorem State.fixSlot_started_other (s : State) (k : Nat) (slot : Bool) : (s.transferStarted k true slot).fixSlot (!slot) = s.fixSlot (!slot) := by
  rw [State.transferStarted, State.fixSlot_congr (s := State.nvWrote _ _) (by rw [State.bgStart_nv]) (by rw [State.bgStart_nv]), State.fixSlot_nvWrote, State.fixSlot_dropSlot_other]
  rfl

section
variable {s : State} {k : BoxIx} {slot : Bool} (hrun : s.runs k.val Opc.fixonXfer .b = true)
include hrun

/-- The start erases the slot and writes the data of the first part. -/
theorem fixon_start : (s.box k.val).arg 0 1 = 1 → (s.box k.val).arg 1 1 = bit slot → (s.box k.val).part.2.2 = true →
    s.slotInUse true slot = false → s.mbx.transfer = none → s.flag (Fld.MBX_BOX_STATE_BG k.val) = false → Answers (.fixonXferStart k) s fun t =>
    (t.box k.val).pendingResult = some ⟨.background, []⟩ ∧ t.mbx.transfer = some ⟨k.val, true, slot⟩ ∧ t.get (Fld.MBX_BOX_STATE_BG k.val) = 1 ∧ t.get (validField true slot) = 0 ∧
    (t.fixSlot slot).bad = true ∧ (∀ i < (s.box k.val).part.2.1.length, (t.fixSlot slot).byte ((s.box k.val).part.1 + i) = ((s.box k.val).part.2.1.getD i 0).toNat) ∧
    t.fixSlot (!slot) = s.fixSlot (!slot) ∧ Frame [.mbx, .nv, .ctrs] [Fld.MBX_BOX_STATE_BG k.val, validField true slot, Fld.NVS_WEAR_UNITS, Evt.NVS_WEAR_HIGH.field] s t := by
  intro harg hslot hpart huse hfree hbg
  refine answers_part hrun rfl harg hslot (fun _ => hpart) (x := s.begin.fixonStarted k.val slot (s.box k.val).part.1 (s.box k.val).part.2.1) ?_ ?_
  · dsimp only
    rw [State.startTransfer_free (s := s.begin) huse hfree hbg, State.ownTransfer_own (State.transfer_started s.begin k.val true slot)]
    exact if_pos (congrArg (Option.map MbxResult.code) (State.box_bgStart _ k.val))
  · rw [State.fixonStarted_eq]
    have hslots : ∀ b, (((s.begin.transferStarted k.val true slot).withFixon slot (FixonSlot.written ⟨[], true⟩ (s.box k.val).part.1 (s.box k.val).part.2.1)).settle).fixSlot b
        = ((s.begin.transferStarted k.val true slot).withFixon slot (FixonSlot.written ⟨[], true⟩ (s.box k.val).part.1 (s.box k.val).part.2.1)).fixSlot b :=
      fun b => State.fixSlot_congr (by rw [State.settle_nv]) (by rw [State.settle_nv]) b
    refine ⟨?_, ?_, ?_, ?_, ?_, fun i hi => ?_, ?_, ?_⟩
    · rw [State.box_congr (s := s.begin.transferStarted k.val true slot) (by rw [State.settle_mbx]; rfl)]
      exact State.box_bgStart _ k.val
    · rw [State.settle_mbx, State.withFixon_mbx, State.transfer_started]
    · rw [State.get_settle _ (by simp only [Fld.MBX_BOX_STATE_BG, Addr.MBX_BOX_STATE]; omega)]
      exact State.get_bgStart _ k.val
    · rw [State.get_settle _ (show Addr.BOOT_SLOTS ≠ 0x40040 by decide), State.get_withFixon, State.get_started_valid]
    · rw [hslots, State.fixSlot_withFixon]
      rfl
    · rw [hslots, State.fixSlot_withFixon, FixonSlot.byte_written _ _ _ hi]
    · rw [hslots, State.fixSlot_withFixon_other, State.fixSlot_started_other]
      rfl
    · exact (((Frame.begin s).andTransferStarted k.val true slot).andWithFixon slot _).settle

/-- While another transfer runs the start is answered Busy. -/
theorem fixon_start_busy : (s.box k.val).arg 0 1 = 1 → (s.box k.val).arg 1 1 = bit slot → (s.box k.val).part.2.2 = true →
    s.slotInUse true slot = false → s.mbx.transfer ≠ none → Answers (.fixonXferStart k) s fun t => (t.box k.val).pendingResult = some ⟨.busy, []⟩ ∧ Frame [.mbx] [] s t := by
  intro harg hslot hpart huse hbusy
  refine answers_part hrun rfl harg hslot (fun _ => hpart) (x := s.begin.answerBox k.val .busy) ?_ ⟨?_, ((Frame.begin s).andAnswerBox _ _).settle⟩
  · have hres : ¬ (((s.begin.answerBox k.val .busy).box k.val).pendingResult.map (·.code)) = some .background := by
      rw [State.box_answerBox]
      exact fun h => nomatch Option.some.inj h
    dsimp only
    rw [State.startTransfer_busy (s := s.begin) huse hbusy]
    split
    · exact if_neg hres
    · rfl
  · rw [State.box_congr (s := s.begin.answerBox k.val .busy) (by rw [State.settle_mbx]), State.box_answerBox]

/-- A part goes into the slot. -/
theorem fixon_continue : (s.box k.val).arg 0 1 = 2 → (s.box k.val).arg 1 1 = bit slot → (s.box k.val).part.2.2 = true →
    s.mbx.transfer = some ⟨k.val, true, slot⟩ → Answers (.fixonXferContinue k) s fun t => (t.box k.val).pendingResult = some ⟨.success, []⟩ ∧
    (∀ i < (s.box k.val).part.2.1.length, (t.fixSlot slot).byte ((s.box k.val).part.1 + i) = ((s.box k.val).part.2.1.getD i 0).toNat) ∧ t.fixSlot (!slot) = s.fixSlot (!slot) ∧
    Frame [.mbx, .nv] [Fld.NVS_WEAR_UNITS, Evt.NVS_WEAR_HIGH.field] s t := by
  intro harg hslot hpart hown
  refine answers_part hrun rfl harg hslot (fun _ => hpart)
    (x := ((s.begin.putFixon slot (s.box k.val).part.1 (s.box k.val).part.2.1).nvWrote (8 + bit slot)).answerBox k.val .success) ?_ ?_
  · rw [State.ownTransfer_own (s := s.begin) hown]
  · rw [State.putFixon_eq]
    have hslots : ∀ b, ((((s.begin.withFixon slot ((s.begin.fixSlot slot).written (s.box k.val).part.1 (s.box k.val).part.2.1)).nvWrote (8 + bit slot)).answerBox k.val .success).settle).fixSlot b
        = (s.begin.withFixon slot ((s.begin.fixSlot slot).written (s.box k.val).part.1 (s.box k.val).part.2.1)).fixSlot b :=
      fun b => (State.fixSlot_congr (s := (s.begin.withFixon slot ((s.begin.fixSlot slot).written (s.box k.val).part.1 (s.box k.val).part.2.1)).nvWrote (8 + bit slot))
        (by rw [State.settle_nv]; rfl) (by rw [State.settle_nv]; rfl) b).trans (State.fixSlot_nvWrote _ _ b)
    refine ⟨?_, fun i hi => ?_, ?_, ((((Frame.begin s).andWithFixon slot _).andNvWrote _).andAnswerBox _ _).settle⟩
    · rw [State.box_congr (s := State.answerBox _ k.val .success) (by rw [State.settle_mbx]), State.box_answerBox]
    · rw [hslots, State.fixSlot_withFixon, FixonSlot.byte_written _ _ _ hi]
    · rw [hslots, State.fixSlot_withFixon_other]
      rfl

/-- An image that passes its checks makes the slot valid. -/
theorem fixon_end_valid : (s.box k.val).arg 0 1 = 3 → (s.box k.val).arg 1 1 = bit slot → s.mbx.transfer = some ⟨k.val, true, slot⟩ →
    ({ s with nv := (if slot then { s.nv with fixB := { s.nv.fixB with bad := false } } else { s.nv with fixA := { s.nv.fixA with bad := false } }) }).fixonValid slot = true →
    Answers (.fixonXferEnd k) s fun t => (t.box k.val).pendingResult = some ⟨.success, []⟩ ∧ t.mbx.transfer = none ∧ t.fixonValid slot = true ∧ t.get (validField true slot) = 1 ∧
    t.get (Fld.MBX_BOX_STATE_BG k.val) = 0 ∧ (t.box k.val).bgCode = some .success ∧
    Frame [.mbx, .nv, .out] [Fld.MBX_BOX_STATE_BG k.val, validField true slot, Fld.NVS_WEAR_UNITS, Evt.NVS_WEAR_HIGH.field] s t := by
  intro harg hslot hown hvalid
  have hvalid' : (s.begin.fixonAccepted slot).fixonValid slot = true := hvalid
  refine answers_part hrun rfl harg hslot (fun h => absurd h (by decide))
    (x := (((s.begin.fixonAccepted slot).put (validField true slot) 1).bgEnd k.val .success).answerBox k.val .success) ?_ ?_
  · dsimp only
    rw [State.ownTransfer_own (s := s.begin) hown]
    exact if_pos hvalid'
  · have hover := State.transferOver ((s.begin.fixonAccepted slot).put (validField true slot) 1) (k := k.val) (fixon := true) (slot := slot) .success .success (by rw [State.put_mbx]; rfl)
    rw [State.get_put_validated] at hover
    exact ⟨hover.result, hover.transfer, (State.fixonValid_ended _ slot k.isLt _ _).trans hvalid', hover.valid, hover.ended, hover.code,
      (((((Frame.begin s).andFixonAccepted slot).andPut 1).andBgEnd k.val _).andAnswerBox _ _).settle⟩

/-- An image that fails its checks leaves the slot invalid. -/
theorem fixon_end_invalid : (s.box k.val).arg 0 1 = 3 → (s.box k.val).arg 1 1 = bit slot → s.mbx.transfer = some ⟨k.val, true, slot⟩ →
    ({ s with nv := (if slot then { s.nv with fixB := { s.nv.fixB with bad := false } } else { s.nv with fixA := { s.nv.fixA with bad := false } }) }).fixonValid slot = false →
    Answers (.fixonXferEnd k) s fun t => (t.box k.val).pendingResult = some ⟨.invalidInput, []⟩ ∧ t.mbx.transfer = none ∧ (t.fixSlot slot).bad = true ∧
    t.get (validField true slot) = 0 ∧ (t.box k.val).bgCode = some .invalidInput ∧
    Frame [.mbx, .nv, .out] [Fld.MBX_BOX_STATE_BG k.val, validField true slot, Fld.NVS_WEAR_UNITS, Evt.NVS_WEAR_HIGH.field] s t := by
  intro harg hslot hown hinvalid
  have hinvalid' : (s.begin.fixonAccepted slot).fixonValid slot = false := hinvalid
  refine answers_part hrun rfl harg hslot (fun h => absurd h (by decide))
    (x := (s.begin.endTransfer ⟨k.val, true, slot⟩ .invalidInput).answerBox k.val .invalidInput) ?_ ?_
  · dsimp only
    rw [State.ownTransfer_own (s := s.begin) hown]
    exact if_neg (fun h => Bool.false_ne_true (hinvalid'.symm.trans h))
  · have hover := s.begin.transferOver_endTransfer k.val true slot .invalidInput .invalidInput
    exact ⟨hover.result, hover.transfer, s.begin.bad_transferEnded k.val slot _ _, hover.valid, hover.code,
      (((Frame.begin s).andEndTransfer k.val true slot _).andAnswerBox _ _).settle⟩

/-- An abort leaves the slot invalid. -/
theorem fixon_abort : (s.box k.val).arg 0 1 = 4 → (s.box k.val).arg 1 1 = bit slot → s.mbx.transfer = some ⟨k.val, true, slot⟩ →
    Answers (.fixonXferAbort k) s fun t => (t.box k.val).pendingResult = some ⟨.success, []⟩ ∧ t.mbx.transfer = none ∧ (t.fixSlot slot).bad = true ∧
    t.get (validField true slot) = 0 ∧ (t.box k.val).bgCode = some .aborted ∧
    Frame [.mbx, .nv, .out] [Fld.MBX_BOX_STATE_BG k.val, validField true slot, Fld.NVS_WEAR_UNITS, Evt.NVS_WEAR_HIGH.field] s t := by
  intro harg hslot hown
  refine answers_part hrun rfl harg hslot (fun h => absurd h (by decide)) (x := (s.begin.endTransfer ⟨k.val, true, slot⟩ .aborted).answerBox k.val .success) ?_ ?_
  · rw [State.ownTransfer_own (s := s.begin) hown]
  · have hover := s.begin.transferOver_endTransfer k.val true slot .success .aborted
    exact ⟨hover.result, hover.transfer, s.begin.bad_transferEnded k.val slot _ _, hover.valid, hover.code,
      (((Frame.begin s).andEndTransfer k.val true slot _).andAnswerBox _ _).settle⟩

end

/-! ### Transfer FW (R402) -/

section
variable {s : State} {k : BoxIx} {slot : Bool} {img : SignedImage} (hrun : s.runs k.val Opc.transferFw .b = true)
include hrun

/-- The start erases the slot. -/
theorem fw_start : s.slotInUse false slot = false → s.mbx.transfer = none →
    s.flag (Fld.MBX_BOX_STATE_BG k.val) = false → Answers (.transferFw k .start slot img) s fun t => (t.box k.val).pendingResult = some ⟨.background, []⟩ ∧
    t.mbx.transfer = some ⟨k.val, false, slot⟩ ∧ (if slot then t.nv.fwB else t.nv.fwA) = none ∧ t.get (validField false slot) = 0 ∧
    Frame [.mbx, .nv, .ctrs] [Fld.MBX_BOX_STATE_BG k.val, validField false slot, Fld.NVS_WEAR_UNITS, Evt.NVS_WEAR_HIGH.field] s t := by
  intro huse hfree hbg
  refine answers_command hrun rfl (x := s.begin.transferStarted k.val false slot) (State.startTransfer_free (s := s.begin) huse hfree hbg) ⟨?_, ?_, ?_, ?_, ?_⟩
  · rw [State.box_congr (s := s.begin.transferStarted k.val false slot) (by rw [State.settle_mbx])]
    exact State.box_bgStart _ k.val
  · rw [State.settle_mbx, State.transfer_started]
  · rw [State.settle_nv]
    exact s.begin.fwImage_started k.val slot
  · rw [State.get_settle _ (show Addr.BOOT_SLOTS ≠ 0x40040 by decide), State.get_started_valid]
  · exact ((Frame.begin s).andTransferStarted k.val false slot).settle

/-- The slot the firmware runs from is refused. -/
theorem fw_start_used : s.slotInUse false slot = true → Answers (.transferFw k .start slot img) s fun t =>
    (t.box k.val).pendingResult = some ⟨.invalidInput, []⟩ ∧ Frame [.mbx] [] s t := by
  intro huse
  refine answers_command hrun rfl (x := s.begin.answerBox k.val .invalidInput) (State.startTransfer_used (s := s.begin) huse) ⟨?_, ((Frame.begin s).andAnswerBox _ _).settle⟩
  rw [State.box_congr (s := s.begin.answerBox k.val .invalidInput) (by rw [State.settle_mbx]), State.box_answerBox]

/-- A part is taken. -/
theorem fw_continue : s.mbx.transfer = some ⟨k.val, false, slot⟩ → Answers (.transferFw k .continue slot img) s fun t =>
    (t.box k.val).pendingResult = some ⟨.success, []⟩ ∧ Frame [.mbx] [] s t := by
  intro hown
  refine answers_command hrun rfl (x := s.begin.answerBox k.val .success) ?_ ⟨?_, ((Frame.begin s).andAnswerBox _ _).settle⟩
  · dsimp only
    rw [State.ownTransfer_own (s := s.begin) hown]
  · rw [State.box_congr (s := s.begin.answerBox k.val .success) (by rw [State.settle_mbx]), State.box_answerBox]

/-- An image that verifies makes the slot valid. -/
theorem fw_finish_valid : s.mbx.transfer = some ⟨k.val, false, slot⟩ → img.fwOk s = true →
    Answers (.transferFw k .finish slot img) s fun t => (t.box k.val).pendingResult = some ⟨.success, []⟩ ∧ t.mbx.transfer = none ∧
    (if slot then t.nv.fwB else t.nv.fwA) = some img ∧ t.get (validField false slot) = 1 ∧
    Frame [.mbx, .nv, .out] [Fld.MBX_BOX_STATE_BG k.val, validField false slot, Fld.NVS_WEAR_UNITS, Evt.NVS_WEAR_HIGH.field] s t := by
  intro hown hok
  have hok' : img.fwOk s.begin = true := hok
  refine answers_command hrun rfl (x := (((s.begin.fwAccepted slot img).put (validField false slot) 1).bgEnd k.val .success).answerBox k.val .success) ?_ ?_
  · dsimp only
    rw [State.ownTransfer_own (s := s.begin) hown]
    dsimp only
    rw [State.finishFw, hok']
    rfl
  · have hover := State.transferOver ((s.begin.fwAccepted slot img).put (validField false slot) 1) (k := k.val) (fixon := false) (slot := slot) .success .success (by rw [State.put_mbx]; rfl)
    rw [State.get_put_validated] at hover
    refine ⟨hover.result, hover.transfer, ?_, hover.valid, (((((Frame.begin s).andFwAccepted slot img).andPut 1).andBgEnd k.val _).andAnswerBox _ _).settle⟩
    rw [State.settle_nv]
    exact s.begin.fwImage_accepted k.val slot img

/-- An image that does not verify leaves the slot invalid. -/
theorem fw_finish_invalid : s.mbx.transfer = some ⟨k.val, false, slot⟩ → img.fwOk s = false →
    Answers (.transferFw k .finish slot img) s fun t => (t.box k.val).pendingResult = some ⟨.invalidInput, []⟩ ∧ t.mbx.transfer = none ∧
    (if slot then t.nv.fwB else t.nv.fwA) = none ∧ t.get (validField false slot) = 0 ∧
    Frame [.mbx, .nv, .out] [Fld.MBX_BOX_STATE_BG k.val, validField false slot, Fld.NVS_WEAR_UNITS, Evt.NVS_WEAR_HIGH.field] s t := by
  intro hown hbad
  have hbad' : img.fwOk s.begin = false := hbad
  refine answers_command hrun rfl (x := (s.begin.endTransfer ⟨k.val, false, slot⟩ .invalidInput).answerBox k.val .invalidInput) ?_ ?_
  · dsimp only
    rw [State.ownTransfer_own (s := s.begin) hown]
    dsimp only
    rw [State.finishFw, hbad']
    rfl
  · have hover := s.begin.transferOver_endTransfer k.val false slot .invalidInput .invalidInput
    exact ⟨hover.result, hover.transfer, s.begin.fwImage_transferEnded k.val slot _ _, hover.valid,
      (((Frame.begin s).andEndTransfer k.val false slot _).andAnswerBox _ _).settle⟩

/-- An abort leaves the slot invalid. -/
theorem fw_abort : s.mbx.transfer = some ⟨k.val, false, slot⟩ → Answers (.transferFw k .abort slot img) s fun t =>
    (t.box k.val).pendingResult = some ⟨.success, []⟩ ∧ t.mbx.transfer = none ∧ (if slot then t.nv.fwB else t.nv.fwA) = none ∧ (t.box k.val).bgCode = some .aborted ∧
    Frame [.mbx, .nv, .out] [Fld.MBX_BOX_STATE_BG k.val, validField false slot, Fld.NVS_WEAR_UNITS, Evt.NVS_WEAR_HIGH.field] s t := by
  intro hown
  refine answers_command hrun rfl (x := (s.begin.endTransfer ⟨k.val, false, slot⟩ .aborted).answerBox k.val .success) ?_ ?_
  · dsimp only
    rw [State.ownTransfer_own (s := s.begin) hown]
  · have hover := s.begin.transferOver_endTransfer k.val false slot .success .aborted
    exact ⟨hover.result, hover.transfer, s.begin.fwImage_transferEnded k.val slot _ _, hover.code,
      (((Frame.begin s).andEndTransfer k.val false slot _).andAnswerBox _ _).settle⟩

end

/-- Settles O35: each part of a transfer of an image answers with the slot's new contents and validity. -/
theorem imageTransfers : Obligations.ImageTransfers := by
  unfold Obligations.ImageTransfers
  exact fun s k =>
    ⟨fun _ hrun => fixon_start hrun, fun _ hrun => fixon_start_busy hrun, fun _ hrun => fixon_continue hrun, fun _ hrun => fixon_end_valid hrun,
      fun _ hrun => fixon_end_invalid hrun, fun _ hrun => fixon_abort hrun, fun _ _ hrun => fw_start hrun, fun _ _ hrun => fw_start_used hrun,
      fun _ _ hrun => fw_continue hrun, fun _ _ hrun => fw_finish_valid hrun, fun _ _ hrun => fw_finish_invalid hrun, fun _ _ hrun => fw_abort hrun⟩

end Sys2Proof.Machine
end

section
/-! PROOFS. Pending, enabled, claimed and completed interrupts (O14, R377 to R382, R392). -/
namespace Sys2Proof.Machine
open Sys2Proof
set_option Elab.async false

/-! ### Bits of the arrays -/

theorem bitField_width (a n : Nat) : (bitField a n).lo + (bitField a n).width ≤ 32 := by
  simp only [bitField]
  omega

theorem bitField_clear_addr {a n : Nat} {f : Field} (h : a + 4 * (n / 32) ≠ f.addr) : (bitField a n).clearOf f = true := Field.clearOf_of_addr (bitField_width a n) h

theorem bitField_clear {a m n : Nat} (h : m ≠ n) : (bitField a m).clearOf (bitField a n) = true := by
  refine Field.clearOf_iff.mpr ⟨bitField_width a m, ?_⟩
  simp only [Field.apart, bitField]
  omega

theorem State.flag_putFlag_same (s : State) (a n : Nat) (b : Bool) : (s.putFlag (bitField a n) b).flag (bitField a n) = b := by
  rw [State.putFlag, State.flag_put_same _ _ _ (bitField_width a n)]
  cases b <;> rfl

theorem State.flag_put_clear (s : State) {f g : Field} (v : Nat) (h : g.clearOf f = true) : (s.put f v).flag g = s.flag g := by
  rw [State.flag, State.flag, State.get_put_clear s v h]

theorem State.intPending_putPending (s : State) (n m : Nat) (b : Bool) : (s.putPending n b).intPending m = if m = n then b else s.intPending m := by
  split
  · next h => rw [h]; exact s.flag_putFlag_same _ n b
  · next h => exact s.flag_put_clear _ (bitField_clear h)

theorem State.intPending_settle (s : State) (n : Nat) : s.settle.intPending n = s.intPending n :=
  State.flag_settle s (by simp only [bitField, Addr.INTC_PEND_SET]; omega)

theorem State.intActive_settle (s : State) (n : Nat) : s.settle.intActive n = s.intActive n :=
  State.flag_settle s (by simp only [bitField, Addr.INTC_ACTIVE]; omega)

theorem State.inService_settle (s : State) : s.settle.keeper.inService = s.keeper.inService := by rw [State.settle_keeper]

/-! ### Pending bits with no host to forward to (R377) -/

theorem State.setPending_local {s : State} (n : Nat) (hfm : s.flag Fld.MBX_CFG_FM_EN = false) : s.setPending n = if s.intPending n then s else s.putPending n true := by
  unfold State.setPending
  split
  · rfl
  · dsimp only
    refine if_neg ?_
    have hoff : (s.putPending n true).flag Fld.MBX_CFG_FM_EN = true → Fld.MBX_CFG_FM_EN.addr = Addr.INTC_PEND_SET 0 + 4 * (n / 32) := fun h => by
      by_contra hne
      rw [State.putPending, State.putFlag, State.flag_put_addr s _ hne, hfm] at h
      exact absurd h (by decide)
    intro h
    obtain ⟨h1, h2⟩ := Bool.and_eq_true_iff.mp h
    have hn : n < 1920 := of_decide_eq_true (Bool.and_eq_true_iff.mp h1).1
    have := hoff h2
    simp only [Fld.MBX_CFG_FM_EN, Addr.MBX_CFG, Addr.INTC_PEND_SET] at this
    omega

theorem State.flag_putPending_fm (s : State) {n : Nat} (hn : n < 2048) (b : Bool) : (s.putPending n b).flag Fld.MBX_CFG_FM_EN = s.flag Fld.MBX_CFG_FM_EN :=
  State.flag_put_addr s _ (by simp only [bitField, Fld.MBX_CFG_FM_EN, Addr.MBX_CFG, Addr.INTC_PEND_SET]; omega)

theorem State.intPending_setPending {s : State} (n m : Nat) (hfm : s.flag Fld.MBX_CFG_FM_EN = false) :
    (s.setPending n).intPending m = (s.intPending m || decide (m = n)) := by
  rw [State.setPending_local n hfm]
  split
  · next h =>
    by_cases hm : m = n
    · rw [hm, h, Bool.true_or]
    · rw [decide_eq_false hm, Bool.or_false]
  · rw [State.intPending_putPending]
    by_cases hm : m = n
    · rw [if_pos hm, decide_eq_true hm, Bool.or_true]
    · rw [if_neg hm, decide_eq_false hm, Bool.or_false]

theorem State.flag_setPending_fm {s : State} {n : Nat} (hn : n < 2048) (hfm : s.flag Fld.MBX_CFG_FM_EN = false) : (s.setPending n).flag Fld.MBX_CFG_FM_EN = false := by
  rw [State.setPending_local n hfm]
  split
  · exact hfm
  · rw [s.flag_putPending_fm hn, hfm]

theorem Frame.andSetPendingLocal {ps : List Part} {fs : List Field} {s t : State} (h : Frame ps fs s t) (n : Nat) (hfm : t.flag Fld.MBX_CFG_FM_EN = false)
    (hf : pendingBit n ∈ fs) : Frame ps fs s (t.setPending n) := by
  rw [State.setPending_local n hfm]
  exact Frame.ite h (h.andPutFlag true hf)

/-- Each source of a list is pending after its setting. -/
theorem State.intPending_setAll (m : Nat) : ∀ (l : List Nat) (s : State), s.flag Fld.MBX_CFG_FM_EN = false → (∀ n ∈ l, n < 2048) →
    (l.foldl State.setPending s).intPending m = (s.intPending m || decide (m ∈ l))
  | [], s, _, _ => by simp
  | n :: l, s, hfm, hl => by
    have hn : n < 2048 := hl n List.mem_cons_self
    rw [List.foldl_cons, State.intPending_setAll m l _ (State.flag_setPending_fm hn hfm) fun k hk => hl k (List.mem_cons_of_mem _ hk), State.intPending_setPending n m hfm]
    simp only [List.mem_cons, Bool.decide_or, Bool.or_assoc]

theorem Frame.andSetAll {ps : List Part} {fs : List Field} {s : State} : ∀ (l : List Nat) {t : State}, Frame ps fs s t → t.flag Fld.MBX_CFG_FM_EN = false → (∀ n ∈ l, n < 2048) →
    (∀ n ∈ l, pendingBit n ∈ fs) → Frame ps fs s (l.foldl State.setPending t)
  | [], _, h, _, _, _ => h
  | n :: l, _, h, hfm, hl, hf =>
    Frame.andSetAll l (h.andSetPendingLocal n hfm (hf n List.mem_cons_self)) (State.flag_setPending_fm (hl n List.mem_cons_self) hfm)
      (fun k hk => hl k (List.mem_cons_of_mem _ hk)) fun k hk => hf k (List.mem_cons_of_mem _ hk)

theorem State.dir_setAll : ∀ (l : List Nat) (s : State), (l.foldl State.setPending s).fab = s.fab
  | [], _ => rfl
  | n :: l, s => by
    rw [List.foldl_cons, State.dir_setAll l]
    have hput : ∀ (t : State) (b : Bool), (t.putPending n b).fab = t.fab := fun t b => State.put_fab _ _ _
    have hsig : ∀ (t : State) (v j : Nat), (t.signalVcs v j).fab = t.fab := fun t v j => by
      rcases t.signalVcs_cases v j with ⟨-, h⟩ | ⟨-, h⟩ <;> rw [h]
      rfl
    rcases s.setPending_cases n with h | h | ⟨v, h | h⟩ <;> rw [h]
    · rw [hput]
    · rw [hsig, hput]
    · rw [hput, hsig, hput]

theorem mem_sourcesOf {w v n : Nat} : n ∈ sourcesOf w v ↔ ∃ i < 32, v.testBit i = true ∧ 32 * w + i = n := by
  simp [sourcesOf, and_assoc]

/-- A state with a source held as seen high. -/
def State.sampledHigh (s : State) (n : Nat) : State := { s with keeper := { s.keeper with sampled := n :: s.keeper.sampled } }

/-! ### What a level depends on (R376) -/

/-- The level of a source depends on the event registers of the pages alone. -/
theorem State.level_congr {s t : State} (h : ∀ pg, t.word (evtPendAddr pg) = s.word (evtPendAddr pg) ∧ t.word (evtEnAddr pg) = s.word (evtEnAddr pg)) (n : Nat) :
    t.level n = s.level n := by
  have hpend : ∀ pg, t.pend pg = s.pend pg := fun pg => by rw [State.pend, State.pend, (h pg).1, (h 0x208).1, (h 0x208).2]
  unfold State.level
  split
  · rw [State.pageLevel, State.pageLevel, hpend, (h _).2]
  · rfl

theorem State.level_setPendingLocal {s : State} {n : Nat} (hn : n < 2048) (hfm : s.flag Fld.MBX_CFG_FM_EN = false) {m : Nat} : (s.setPending n).level m = s.level m := by
  rw [State.setPending_local n hfm]
  split
  · rfl
  · refine State.level_congr (fun pg => ⟨State.word_put_other _ _ ?_, State.word_put_other _ _ ?_⟩) m
    all_goals
      simp only [evtPendAddr, evtEnAddr, bitField, Addr.INTC_PEND_SET]
      omega

/-- A level outlives the setting of event bits. -/
theorem State.level_setPend {s : State} {n : Nat} (pg x : Nat) (h208 : pg ≠ 0x208) (h : s.level n = true) :
    (s.setWord (evtPendAddr pg) (BitVec.ofNat 32 ((s.word (evtPendAddr pg)).toNat ||| x))).level n = true := by
  set t := s.setWord (evtPendAddr pg) (BitVec.ofNat 32 ((s.word (evtPendAddr pg)).toNat ||| x)) with ht
  have hen : ∀ p, t.word (evtEnAddr p) = s.word (evtEnAddr p) := fun p => State.word_setWord_other _ _ (by simp only [evtEnAddr, evtPendAddr]; omega)
  have hother : ∀ p, p ≠ pg → t.word (evtPendAddr p) = s.word (evtPendAddr p) := fun p hp => State.word_setWord_other _ _ (by simp only [evtPendAddr]; omega)
  have hpend : ∀ p, ∃ y, t.pend p = s.pend p ||| y := fun p => by
    simp only [State.pend, hen 0x208, hother 0x208 h208.symm]
    by_cases hp : p = pg
    · refine ⟨(BitVec.ofNat 32 x).toNat, ?_⟩
      rw [hp, ht, State.word_setWord_same, BitVec.ofNat_toNat_or, BitVec.toNat_or]
      split
      · rw [Nat.or_right_comm]
      · rfl
    · exact ⟨0, by rw [hother p hp, Nat.or_zero]⟩
  unfold State.level at h ⊢
  split
  · next p mask hsrc =>
    rw [hsrc] at h
    simp only [State.pageLevel, bne_iff_ne] at h ⊢
    obtain ⟨y, hy⟩ := hpend p
    rw [hy, hen, Nat.and_or_distrib_right, Nat.and_or_distrib_right]
    exact fun h0 => h (Nat.or_eq_zero_iff.mp h0).1
  · next hsrc =>
    rw [hsrc] at h
    exact h

theorem State.level_driveAlert {s : State} {n : Nat} (h : s.level n = true) : s.driveAlert.level n = true := by
  have hregs : ∀ u : State, u.regs = s.driveAlert.regs → s.driveAlert.level n = u.level n := fun u hu =>
    State.level_congr (fun pg => ⟨State.word_congr hu.symm _, State.word_congr hu.symm _⟩) n
  rw [hregs (s.raiseIf (s.alertLevel && !s.flt.alert) Evt.FLT_ALERT) rfl, State.raiseIf]
  split
  · rw [State.raise]
    split
    · exact State.level_setPend _ _ (by decide) h
    · exact h
  · exact h

/-! ### The source presented to a core (R378) -/

/-- The best of a rising list of candidates: the highest priority, the lowest number among equals. -/
theorem State.foldl_better (s : State) : ∀ (l : List Nat) (b : Nat), (b :: l).Pairwise (· < ·) → ∃ r, l.foldl s.better (some b) = some r ∧ r ∈ b :: l ∧
    ∀ k ∈ b :: l, s.get (Fld.INTC_SRC_PRIO k) < s.get (Fld.INTC_SRC_PRIO r) ∨ (s.get (Fld.INTC_SRC_PRIO k) = s.get (Fld.INTC_SRC_PRIO r) ∧ r ≤ k)
  | [], b, _ => ⟨b, rfl, by simp, fun k hk => by rw [List.mem_singleton.mp hk]; exact .inr ⟨rfl, le_refl _⟩⟩
  | n :: l, b, hl => by
    obtain ⟨hb, hnl⟩ := List.pairwise_cons.mp hl
    obtain ⟨-, hll⟩ := List.pairwise_cons.mp hnl
    have hbn : b < n := hb n List.mem_cons_self
    rw [List.foldl_cons]
    by_cases hp : s.get (Fld.INTC_SRC_PRIO b) < s.get (Fld.INTC_SRC_PRIO n)
    · rw [show s.better (some b) n = some n from if_pos hp]
      obtain ⟨r, hr, hmem, hbest⟩ := State.foldl_better s l n hnl
      refine ⟨r, hr, List.mem_cons_of_mem _ hmem, fun k hk => ?_⟩
      rcases List.mem_cons.mp hk with rfl | hk
      · have := hbest n List.mem_cons_self
        exact .inl (by omega)
      · exact hbest k hk
    · rw [show s.better (some b) n = some b from if_neg hp]
      obtain ⟨r, hr, hmem, hbest⟩ := State.foldl_better s l b (List.pairwise_cons.mpr ⟨fun k hk => hb k (List.mem_cons_of_mem _ hk), hll⟩)
      refine ⟨r, hr, ?_, fun k hk => ?_⟩
      · rcases List.mem_cons.mp hmem with h | h
        · simp [h]
        · simp [h]
      · rcases List.mem_cons.mp hk with rfl | hk
        · exact hbest k List.mem_cons_self
        · rcases List.mem_cons.mp hk with rfl | hk
          · have := hbest b List.mem_cons_self
            omega
          · exact hbest k (List.mem_cons_of_mem _ hk)

theorem State.presents_cases (s : State) (c : Nat) :
    (s.presents c = none ∧ ∀ k < 2048, s.candidate c k = false) ∨
    ∃ r, s.presents c = some r ∧ s.candidate c r = true ∧ ∀ k < 2048, s.candidate c k = true →
      s.get (Fld.INTC_SRC_PRIO k) < s.get (Fld.INTC_SRC_PRIO r) ∨ (s.get (Fld.INTC_SRC_PRIO k) = s.get (Fld.INTC_SRC_PRIO r) ∧ r ≤ k) := by
  have hmem : ∀ k, k ∈ (List.range 2048).filter (s.candidate c) ↔ k < 2048 ∧ s.candidate c k = true := fun k => by rw [List.mem_filter, List.mem_range]
  have hsorted : ((List.range 2048).filter (s.candidate c)).Pairwise (· < ·) := List.pairwise_lt_range.filter _
  unfold State.presents
  rcases hl : (List.range 2048).filter (s.candidate c) with _ | ⟨b, l⟩
  · refine .inl ⟨rfl, fun k hk => ?_⟩
    by_contra hc
    have := (hmem k).mpr ⟨hk, (Bool.not_eq_false _).mp hc⟩
    rw [hl] at this
    exact List.not_mem_nil this
  · rw [hl] at hsorted hmem
    obtain ⟨r, hr, hin, hbest⟩ := s.foldl_better l b hsorted
    exact .inr ⟨r, hr, ((hmem r).mp hin).2, fun k hk hc => hbest k ((hmem k).mpr ⟨hk, hc⟩)⟩

theorem State.presents_ne {s : State} {c n : Nat} (h : s.intPending n = false) : s.presents c ≠ some n := by
  intro hp
  rcases s.presents_cases c with ⟨h0, -⟩ | ⟨r, hr, hc, -⟩
  · rw [h0] at hp
    exact nomatch hp
  · rw [hr] at hp
    obtain rfl : r = n := Option.some.inj hp
    simp [State.candidate, h] at hc

/-! ### Claims and completions (R379, R380) -/

/-- A core claims a source. -/
def State.claimWritten (s : State) (c n : Nat) : State := ((s.putPending n false).putActive n true).put (Fld.INTC_CLAIM_SOURCE c) n

theorem State.claimWritten_keeper (s : State) (c n : Nat) : (s.claimWritten c n).keeper = s.keeper := by
  rw [State.claimWritten, State.put_keeper, State.putActive, State.putFlag, State.put_keeper, State.putPending, State.putFlag, State.put_keeper]

section
variable {c n : Nat} (hc : c < 4) (hn : n < 2048)
include hc hn

theorem State.prio_claimWritten (s : State) : (s.claimWritten c n).get (Fld.INTC_SRC_PRIO n) = s.get (Fld.INTC_SRC_PRIO n) := by
  rw [State.claimWritten, State.get_put_clear, State.putActive, State.putFlag, State.get_put_clear, State.putPending, State.putFlag, State.get_put_clear]
  all_goals
    refine Field.clearOf_of_addr (show 0 + 4 ≤ 32 by decide) ?_
    simp only [Fld.INTC_SRC_PRIO, Fld.INTC_CLAIM_SOURCE, bitField, Addr.INTC_SRC, Addr.INTC_CLAIM, Addr.INTC_ACTIVE, Addr.INTC_PEND_SET]
    omega

theorem State.shown_claimWritten (s : State) : (s.claimWritten c n).intPending n = false ∧ (s.claimWritten c n).intActive n = true ∧
    (s.claimWritten c n).get (Fld.INTC_CLAIM_SOURCE c) = n := by
  refine ⟨?_, ?_, State.get_put_lit _ (show 0 + 16 ≤ 32 by decide) (show n < 2 ^ 16 by omega)⟩
  · rw [State.claimWritten, State.intPending, State.flag_put_addr, State.putActive, State.putFlag, State.flag_put_addr]
    · exact State.flag_putFlag_same s _ n false
    all_goals
      simp only [Fld.INTC_CLAIM_SOURCE, bitField, Addr.INTC_CLAIM, Addr.INTC_ACTIVE, Addr.INTC_PEND_SET]
      omega
  · rw [State.claimWritten, State.intActive, State.flag_put_addr]
    · exact State.flag_putFlag_same _ _ n true
    · simp only [Fld.INTC_CLAIM_SOURCE, bitField, Addr.INTC_CLAIM, Addr.INTC_ACTIVE]
      omega

end

theorem State.get_putStack (s : State) (c : Nat) (st : List (Nat × Nat)) {g : Field} (hg : g.lo + g.width ≤ 32) (h : g.addr ≠ Addr.INTC_RUN c) : (s.putStack c st).get g = s.get g :=
  (State.get_put_clear _ _ (Field.clearOf_of_addr hg h)).trans (State.get_put_clear _ _ (Field.clearOf_of_addr hg h))

theorem State.inService_putStack (s : State) (c : Nat) (st : List (Nat × Nat)) : (s.putStack c st).keeper.inService = mput [] s.keeper.inService c st := by
  simp [State.putStack]

theorem State.depth_putStack (s : State) (c : Nat) (st : List (Nat × Nat)) : (s.putStack c st).get (Fld.INTC_RUN_DEPTH c) = st.length % 2 ^ (Fld.INTC_RUN_DEPTH c).width :=
  State.get_put_same _ (Fld.INTC_RUN_DEPTH c) _ (show 4 + 4 ≤ 32 by decide)

theorem State.word_putStack (s : State) (c : Nat) (st : List (Nat × Nat)) {a : Nat} (h : a ≠ Addr.INTC_RUN c) : (s.putStack c st).word a = s.word a :=
  (State.word_put_other _ _ h).trans (State.word_put_other _ _ h)

theorem Frame.andPutStack {ps : List Part} {fs : List Field} {s t : State} (h : Frame ps fs s t) (c : Nat) (st : List (Nat × Nat)) (hp : Part.keeper ∈ ps := by simp)
    (h1 : Fld.INTC_RUN_RUNPRIO c ∈ fs := by simp) (h2 : Fld.INTC_RUN_DEPTH c ∈ fs := by simp) : Frame ps fs s (t.putStack c st) :=
  ((h.andPut _ h1).andPut _ h2).andKeeper _ hp

/-- The source innermost on the stack of a core with its priority. -/
def State.claimStack (s : State) (c n : Nat) : List (Nat × Nat) := (n, s.get (Fld.INTC_SRC_PRIO n)) :: mget [] s.keeper.inService c

/-- A source claimed: in service, innermost on the stack of the core. -/
def State.claimed (s : State) (c n : Nat) : State := (s.claimWritten c n).putStack c (s.claimStack c n)

/-! ### The clauses -/

section
variable {s : State}

/-- INTC_PEND_SET sets the bits that are 1. -/
theorem pendSet_sets : ∀ m : Master, ∀ w : Fin 64, ∀ bits : Word, s.flag Fld.MBX_CFG_FM_EN = false → s.takes m 5 = true → m.isKeeper = true → Answers (.intcPendSet m w bits) s fun t =>
    (∀ i : Fin 32, t.intPending (32 * w.val + i.val) = (s.intPending (32 * w.val + i.val) || bits.getLsbD i.val)) ∧ Frame [] ((List.range 32).map fun i =>
    bitField (Addr.INTC_PEND_SET 0) (32 * w.val + i)) s t := by
  intro m w bits hfm htk hm
  have hl : ∀ n ∈ sourcesOf w.val bits.toNat, n < 2048 := fun n hn => by
    obtain ⟨i, hi, -, rfl⟩ := mem_sourcesOf.mp hn
    omega
  have hframe : Frame [] ((List.range 32).map fun i => bitField (Addr.INTC_PEND_SET 0) (32 * w.val + i)) s ((sourcesOf w.val bits.toNat).foldl State.setPending s.begin) := by
    refine Frame.andSetAll _ (Frame.begin s) hfm hl fun n hn => ?_
    obtain ⟨i, hi, -, rfl⟩ := mem_sourcesOf.mp hn
    exact List.mem_map.mpr ⟨i, List.mem_range.mpr hi, rfl⟩
  refine answers_guard rfl htk (if_pos hm) hframe (by rw [State.dir_setAll]; rfl) ?_ fun hfr => ⟨fun i => ?_, hfr⟩
  · intro g hg
    obtain ⟨i, hi, rfl⟩ := List.mem_map.mp hg
    have := List.mem_range.mp hi
    exact regionOf_intc (by simp only [bitField, Addr.INTC_PEND_SET]; omega)
  · rw [State.intPending_settle, State.intPending_setAll _ _ s.begin hfm hl, ← BitVec.testBit_toNat]
    congr 1
    rw [Bool.eq_iff_iff, decide_eq_true_iff, mem_sourcesOf]
    exact ⟨fun ⟨j, hj, hbit, he⟩ => (show j = i.val by omega) ▸ hbit, fun hbit => ⟨i.val, i.isLt, hbit, rfl⟩⟩

/-- INTC_PEND_CLR clears the bits that are 1. -/
theorem pendClr_clears : ∀ m : Master, ∀ w : Fin 64, ∀ bits : Word, s.flag Fld.MBX_CFG_FM_EN = false → s.takes m 5 = true → m.isKeeper = true → Answers (.intcPendClr m w bits) s fun t =>
    t.word (Addr.INTC_PEND_SET w.val) = s.word (Addr.INTC_PEND_SET w.val) &&& ~~~ bits ∧ Frame [] [Field.all (Addr.INTC_PEND_SET w.val)] s t := by
  intro m w bits _ htk hm
  have hfx : State.writePendClr s.begin m w.val bits.toNat = s.begin.setWord (Addr.INTC_PEND_SET w.val) (s.word (Addr.INTC_PEND_SET w.val) &&& ~~~ bits) := by
    rw [State.writePendClr, if_pos hm, BitVec.ofNat_toNat, BitVec.setWidth_eq]
    rfl
  have hframe : Frame [] [Field.all (Addr.INTC_PEND_SET w.val)] s (s.begin.setWord (Addr.INTC_PEND_SET w.val) (s.word (Addr.INTC_PEND_SET w.val) &&& ~~~ bits)) := (Frame.begin s).andSetWord _
  refine answers_guard rfl htk hfx hframe rfl ?_ fun hfr => ⟨?_, hfr⟩
  · intro g hg
    rw [List.mem_singleton.mp hg]
    exact regionOf_intc (by simp only [Field.all, Addr.INTC_PEND_SET]; omega)
  · rw [State.word_settle _ (by simp only [Addr.INTC_PEND_SET]; omega), State.word_setWord_same]

/-- INTC_EN_SET sets the bits that are 1. -/
theorem enSet_sets : ∀ m : Master, ∀ w : Fin 64, ∀ bits : Word, s.flag Fld.MBX_CFG_FM_EN = false → s.takes m 5 = true → m.isKeeper = true → Answers (.intcEnSet m w bits) s fun t =>
    t.word (Addr.INTC_EN_SET w.val) = s.word (Addr.INTC_EN_SET w.val) ||| bits ∧ Frame [] [Field.all (Addr.INTC_EN_SET w.val)] s t := by
  intro m w bits _ htk hm
  have hfx : State.writeEnSet s.begin m w.val bits.toNat = s.begin.setWord (Addr.INTC_EN_SET w.val) (s.word (Addr.INTC_EN_SET w.val) ||| bits) := by
    rw [State.writeEnSet, if_pos hm, BitVec.ofNat_toNat, BitVec.setWidth_eq]
    rfl
  have hframe : Frame [] [Field.all (Addr.INTC_EN_SET w.val)] s (s.begin.setWord (Addr.INTC_EN_SET w.val) (s.word (Addr.INTC_EN_SET w.val) ||| bits)) := (Frame.begin s).andSetWord _
  refine answers_guard rfl htk hfx hframe rfl ?_ fun hfr => ⟨?_, hfr⟩
  · intro g hg
    rw [List.mem_singleton.mp hg]
    exact regionOf_intc (by simp only [Field.all, Addr.INTC_EN_SET]; omega)
  · rw [State.word_settle _ (by simp only [Addr.INTC_EN_SET]; omega), State.word_setWord_same]

/-- INTC_EN_CLR clears the bits that are 1. -/
theorem enClr_clears : ∀ m : Master, ∀ w : Fin 64, ∀ bits : Word, s.flag Fld.MBX_CFG_FM_EN = false → s.takes m 5 = true → m.isKeeper = true → Answers (.intcEnClr m w bits) s fun t =>
    t.word (Addr.INTC_EN_SET w.val) = s.word (Addr.INTC_EN_SET w.val) &&& ~~~ bits ∧ Frame [] [Field.all (Addr.INTC_EN_SET w.val)] s t := by
  intro m w bits _ htk hm
  have hfx : State.writeEnClr s.begin m w.val bits.toNat = s.begin.setWord (Addr.INTC_EN_SET w.val) (s.word (Addr.INTC_EN_SET w.val) &&& ~~~ bits) := by
    rw [State.writeEnClr, if_pos hm, BitVec.ofNat_toNat, BitVec.setWidth_eq]
    rfl
  have hframe : Frame [] [Field.all (Addr.INTC_EN_SET w.val)] s (s.begin.setWord (Addr.INTC_EN_SET w.val) (s.word (Addr.INTC_EN_SET w.val) &&& ~~~ bits)) := (Frame.begin s).andSetWord _
  refine answers_guard rfl htk hfx hframe rfl ?_ fun hfr => ⟨?_, hfr⟩
  · intro g hg
    rw [List.mem_singleton.mp hg]
    exact regionOf_intc (by simp only [Field.all, Addr.INTC_EN_SET]; omega)
  · rw [State.word_settle _ (by simp only [Addr.INTC_EN_SET]; omega), State.word_setWord_same]

/-- A level that has risen sets its pending bit and is held as seen high. -/
theorem levelRise_pends : ∀ n : Fin 2048, s.flag Fld.MBX_CFG_FM_EN = false → s.clk.mgmtUp = true → s.level n.val = true → (n.val ∉ s.keeper.sampled) → Answers (.intcLevelRise n) s fun t =>
    t.intPending n.val = true ∧ (n.val ∈ t.keeper.sampled) ∧ Frame [] [bitField (Addr.INTC_PEND_SET 0) n.val] s t := by
  intro n hfm hup hlevel hnew
  have hframe : Frame [] [bitField (Addr.INTC_PEND_SET 0) n.val] s (s.begin.sampledHigh n.val) :=
    (Frame.begin s).upd rfl rfl fun p _ hp => by cases p <;> simp_all [State.Same, State.sampledHigh]
  have hfm' : (s.begin.sampledHigh n.val).flag Fld.MBX_CFG_FM_EN = false := hfm
  refine answers_mgmt rfl hup (x := (s.begin.sampledHigh n.val).setPending n.val) ?_ ⟨?_, ?_, (hframe.andSetPendingLocal n.val hfm' (by simp [pendingBit])).settle⟩
  · refine if_pos (Bool.and_eq_true_iff.mpr ⟨hlevel, ?_⟩)
    rw [Bool.not_eq_true', List.contains_eq_mem]
    exact decide_eq_false hnew
  · rw [State.intPending_settle, State.intPending_setPending _ _ hfm', decide_eq_true rfl, Bool.or_true]
  · rw [State.settle_keeper]
    refine List.mem_filter.mpr ⟨?_, State.level_driveAlert ?_⟩
    · rw [State.setPending_local _ hfm']
      split
      · exact List.mem_cons_self
      · rw [State.putPending, State.putFlag, State.put_keeper]
        exact List.mem_cons_self
    · rw [State.level_setPendingLocal n.isLt hfm']
      exact hlevel

/-- A write of INTC_BAD clears both counts. -/
theorem intcBad_clears : ∀ m : Master, ∀ value : Word, s.flag Fld.MBX_CFG_FM_EN = false → s.takes m 5 = true → m.isKeeper = true → Answers (.intcBadClear m value) s fun t =>
    t.get Fld.INTC_BAD_BAD_COMPLETE = 0 ∧ t.get Fld.INTC_BAD_SPURIOUS = 0 ∧ Frame [] [Fld.INTC_BAD_BAD_COMPLETE, Fld.INTC_BAD_SPURIOUS] s t := by
  intro m value _ htk hm
  have hframe : Frame [] [Fld.INTC_BAD_BAD_COMPLETE, Fld.INTC_BAD_SPURIOUS] s ((s.begin.put Fld.INTC_BAD_BAD_COMPLETE 0).put Fld.INTC_BAD_SPURIOUS 0) :=
    ((Frame.begin s).andPut 0).andPut 0
  have hfx : s.begin.writeIntcBad m = (s.begin.put Fld.INTC_BAD_BAD_COMPLETE 0).put Fld.INTC_BAD_SPURIOUS 0 := if_pos hm
  refine answers_guard rfl htk hfx hframe (by rw [State.put_fab, State.put_fab]; rfl) (by decide) fun hfr => ⟨?_, ?_, hfr⟩
  · rw [State.get_settle _ (by decide), State.get_put_clear _ _ (by decide), State.get_put_fits _ (Field.fits_of rfl)]
  · rw [State.get_settle _ (by decide), State.get_put_fits _ (Field.fits_of rfl)]

/-- What a fetch that claims its source answers. -/
theorem fetch_claimed {c : Core} {n : Fin 2048} (hup : s.clk.mgmtUp = true) (hpend : s.intPending n.val = true) (hen : s.intEnabled n.val = true) (hact : s.intActive n.val = false) :
    Answers (.intcVectorFetch c n) s fun t =>     t.intPending n.val = false ∧ t.intActive n.val = true ∧ t.get (Fld.INTC_CLAIM_SOURCE c.val) = n.val ∧
    t.keeper.inService = mput [] s.keeper.inService c.val ((n.val, s.get (Fld.INTC_SRC_PRIO n.val)) :: mget [] s.keeper.inService c.val) ∧
    t.counter (Ctr.ICLAIM n.val 0) = s.counter (Ctr.ICLAIM n.val 0) + 1 ∧ t.out = [.vector c.val (s.get64 (Addr.INTC_VEC_LO c.val) + 8 * n.val)] ∧
    Frame [.keeper, .ctrs, .out] [bitField (Addr.INTC_PEND_SET 0) n.val, bitField (Addr.INTC_ACTIVE 0) n.val, Fld.INTC_CLAIM_SOURCE c.val, Fld.INTC_RUN_RUNPRIO c.val,
    Fld.INTC_RUN_DEPTH c.val] s t := by
  have hfx : (s.begin.intPending n.val && s.begin.intEnabled n.val && !s.begin.intActive n.val) = true := by
    rw [show s.begin.intPending n.val = true from hpend, show s.begin.intEnabled n.val = true from hen, show s.begin.intActive n.val = false from hact]
    rfl
  have hstack : (s.begin.claimWritten c.val n.val).claimStack c.val n.val = (n.val, s.get (Fld.INTC_SRC_PRIO n.val)) :: mget [] s.keeper.inService c.val := by
    rw [State.claimStack, State.prio_claimWritten c.isLt n.isLt, State.claimWritten_keeper]
    rfl
  obtain ⟨hoff, hon, hclaim⟩ := State.shown_claimWritten c.isLt n.isLt s.begin
  have hget : ∀ g : Field, g.lo + g.width ≤ 32 → g.addr ≠ Addr.INTC_RUN c.val → g.addr ≠ 0x40040 →
      ((((s.begin.claimWritten c.val n.val).putStack c.val ((s.begin.claimWritten c.val n.val).claimStack c.val n.val)).count (Ctr.ICLAIM n.val 0)).emit
        (.vector c.val (s.begin.get64 (Addr.INTC_VEC_LO c.val) + 8 * n.val))).settle.get g = (s.begin.claimWritten c.val n.val).get g := fun g hw hr h4 => by
    rw [State.get_settle _ h4, State.get_emit, State.get_count, State.get_putStack _ _ _ hw hr]
  refine answers_mgmt rfl hup (x := (((s.begin.claimWritten c.val n.val).putStack c.val ((s.begin.claimWritten c.val n.val).claimStack c.val n.val)).count (Ctr.ICLAIM n.val 0)).emit
    (.vector c.val (s.begin.get64 (Addr.INTC_VEC_LO c.val) + 8 * n.val))) (if_pos hfx) ⟨?_, ?_, ?_, ?_, ?_, ?_, ?_⟩
  · rw [State.intPending, State.flag]
    exact (congrArg (· == 1) (hget _ (bitField_width _ _) (by simp only [bitField, Addr.INTC_PEND_SET, Addr.INTC_RUN]; omega) (by simp only [bitField, Addr.INTC_PEND_SET]; omega))).trans hoff
  · rw [State.intActive, State.flag]
    exact (congrArg (· == 1) (hget _ (bitField_width _ _) (by simp only [bitField, Addr.INTC_ACTIVE, Addr.INTC_RUN]; omega) (by simp only [bitField, Addr.INTC_ACTIVE]; omega))).trans hon
  · exact (hget _ (show 0 + 16 ≤ 32 by decide) (by simp only [Fld.INTC_CLAIM_SOURCE, Addr.INTC_CLAIM, Addr.INTC_RUN]; omega)
      (by simp only [Fld.INTC_CLAIM_SOURCE, Addr.INTC_CLAIM]; omega)).trans hclaim
  · rw [State.inService_settle, State.emit_keeper, State.count_keeper]
    exact (State.inService_putStack _ c.val _).trans (by rw [hstack, State.claimWritten_keeper]; rfl)
  · rw [State.counter_settle, State.counter_emit, State.counter_count_same]
    exact congrArg (· + 1) (State.counter_congr (by simp [State.claimWritten, State.putStack, State.putActive, State.putPending, State.putFlag]) _)
  · rw [State.settle_out, State.emit_out, State.count_out]
    have hout : (State.putStack (s.begin.claimWritten c.val n.val) c.val ((s.begin.claimWritten c.val n.val).claimStack c.val n.val)).out = [] := by
      simp [State.claimWritten, State.putStack, State.putActive, State.putPending, State.putFlag]
    exact congrArg (· ++ [_]) hout
  · exact ((((((Frame.begin s).andPutFlag false).andPutFlag true).andPut _).andPutStack c.val _).andCount _ _).andEmit _ |>.settle

/-- A fetch for a source that is pending, enabled and not in service claims it. -/
theorem vectorFetch_claims : ∀ c : Core, ∀ n : Fin 2048, s.clk.mgmtUp = true → s.intPending n.val = true → s.intEnabled n.val = true → s.intActive n.val = false → Answers (.intcVectorFetch c n) s fun t =>
    t.intPending n.val = false ∧ t.intActive n.val = true ∧ t.get (Fld.INTC_CLAIM_SOURCE c.val) = n.val ∧
    t.keeper.inService = mput [] s.keeper.inService c.val ((n.val, s.get (Fld.INTC_SRC_PRIO n.val)) :: mget [] s.keeper.inService c.val) ∧
    t.counter (Ctr.ICLAIM n.val 0) = s.counter (Ctr.ICLAIM n.val 0) + 1 ∧ t.out = [.vector c.val (s.get64 (Addr.INTC_VEC_LO c.val) + 8 * n.val)] ∧
    Frame [.keeper, .ctrs, .out] [bitField (Addr.INTC_PEND_SET 0) n.val, bitField (Addr.INTC_ACTIVE 0) n.val, Fld.INTC_CLAIM_SOURCE c.val, Fld.INTC_RUN_RUNPRIO c.val,
    Fld.INTC_RUN_DEPTH c.val] s t := by
  intro c n hup hpend hen hact
  exact fetch_claimed hup hpend hen hact

/-- A fetch for another source gets the spurious vector. -/
theorem vectorFetch_spurious : ∀ c : Core, ∀ n : Fin 2048, s.clk.mgmtUp = true → (s.intPending n.val = false ∨ s.intEnabled n.val = false ∨ s.intActive n.val = true) →
    Answers (.intcVectorFetch c n) s fun t => t.get (Fld.INTC_CLAIM_SOURCE c.val) = 0xFFFF ∧ t.counter (Ctr.ICLAIM n.val 1) = s.counter (Ctr.ICLAIM n.val 1) + 1 ∧
    t.out = [.vector c.val (s.get64 (Addr.INTC_VEC_LO c.val) + 8 * 2048)] ∧ Frame [.ctrs, .out] [Fld.INTC_CLAIM_SOURCE c.val, Fld.INTC_BAD_SPURIOUS] s t := by
  intro c n hup hnot
  have hx : ¬ ((s.begin.intPending n.val && s.begin.intEnabled n.val && !s.begin.intActive n.val) = true) := by
    intro h
    have hp : s.intPending n.val = true := (Bool.and_eq_true_iff.mp (Bool.and_eq_true_iff.mp h).1).1
    have he : s.intEnabled n.val = true := (Bool.and_eq_true_iff.mp (Bool.and_eq_true_iff.mp h).1).2
    have ha : (!s.intActive n.val) = true := (Bool.and_eq_true_iff.mp h).2
    rw [hp, he] at hnot
    rcases hnot with h | h | h
    · exact nomatch h
    · exact nomatch h
    · rw [h] at ha
      exact nomatch ha
  refine answers_mgmt rfl hup (if_neg hx) ⟨?_, ?_, ?_, (((((Frame.begin s).andPut _).andAddSat _).andCount _ _).andEmit _).settle⟩
  · rw [State.get_settle _ (by simp only [Fld.INTC_CLAIM_SOURCE, Addr.INTC_CLAIM]; omega), State.get_emit, State.get_count, State.addSat,
      State.get_put_clear _ _ (Field.clearOf_of_addr (show 0 + 16 ≤ 32 by decide) (by simp only [Fld.INTC_CLAIM_SOURCE, Addr.INTC_CLAIM, Fld.INTC_BAD_SPURIOUS, Addr.INTC_BAD]; omega)),
      State.get_put_lit _ (show 0 + 16 ≤ 32 by decide) (show 0xFFFF < 2 ^ 16 by decide)]
  · rw [State.counter_settle, State.counter_emit, State.counter_count_same, State.addSat, State.counter_put, State.counter_put]
    rfl
  · rw [State.settle_out, State.emit_out, State.count_out, State.addSat_out, State.put_out]
    rfl

/-- A core that fetches the source presented to it claims the best candidate, which is presented no more. -/
theorem vectorFetch_presented : ∀ c : Core, ∀ n : Fin 2048, s.clk.mgmtUp = true → s.presents c.val = some n.val → Answers (.intcVectorFetch c n) s fun t => t.intActive n.val = true ∧
    t.intPending n.val = false ∧ t.out = [.vector c.val (s.get64 (Addr.INTC_VEC_LO c.val) + 8 * n.val)] ∧ s.candidate c.val n.val = true ∧
    (∀ k : Fin 2048, s.candidate c.val k.val = true →
    s.get (Fld.INTC_SRC_PRIO k.val) < s.get (Fld.INTC_SRC_PRIO n.val) ∨ (s.get (Fld.INTC_SRC_PRIO k.val) = s.get (Fld.INTC_SRC_PRIO n.val) ∧ n.val ≤ k.val)) ∧
    t.presents c.val ≠ some n.val := by
  intro c n hup hpres
  rcases s.presents_cases c.val with ⟨hnone, -⟩ | ⟨r, hr, hcand, hbest⟩
  · rw [hnone] at hpres
    exact nomatch hpres
  · rw [hr] at hpres
    obtain rfl : r = n.val := Option.some.inj hpres
    have h := hcand
    simp only [State.candidate, Bool.and_eq_true, Bool.not_eq_true'] at h
    obtain ⟨⟨⟨⟨⟨hpend, hen⟩, hact⟩, -⟩, -⟩, -⟩ := h
    obtain ⟨t, ht, hoff, hon, -, -, -, hout, -⟩ := fetch_claimed (c := c) hup hpend hen hact
    exact ⟨t, ht, hon, hoff, hout, hcand, fun k hk => hbest k.val k.isLt hk, State.presents_ne hoff⟩

/-- With nothing presented there is no candidate. -/
theorem vectorFetch_none : ∀ c : Core, ∀ n : Fin 2048, s.clk.mgmtUp = true → s.presents c.val = none → Answers (.intcVectorFetch c n) s fun _ => (∀ k : Fin 2048, s.candidate c.val k.val = false) := by
  intro c n _ hnone
  rcases s.presents_cases c.val with ⟨-, hall⟩ | ⟨r, hr, -, -⟩
  · exact ⟨_, rfl, fun k => hall k.val k.isLt⟩
  · rw [hnone] at hr
    exact nomatch hr

/-- The core that completes its innermost source ends its service. -/
theorem complete_innermost : ∀ c : Core, ∀ value : Word, ∀ n : Nat, ∀ p : Nat, ∀ l : List (Nat × Nat), s.takes (.keeper c) 5 = true → mget [] s.keeper.inService c.val = (n, p) :: l →
    value.toNat % 4096 = n → s.level n = false → Answers (.intcComplete (.keeper c) c value) s fun t => t.intActive n = false ∧
    t.keeper.inService = mput [] s.keeper.inService c.val l ∧ t.get (Fld.INTC_RUN_DEPTH c.val) = l.length % 2 ^ (Fld.INTC_RUN_DEPTH c.val).width ∧
    t.get Fld.INTC_BAD_BAD_COMPLETE = s.get Fld.INTC_BAD_BAD_COMPLETE := by
  intro c value n p l htk hstack hval hlevel
  have hn : n < 4096 := by omega
  have hstack' : mget [] s.begin.keeper.inService c.val = (n, p) :: l := hstack
  have hlevel' : ((s.begin.putActive n false).putStack c.val l).level n = false := by
    rw [State.level_congr (s := s) (fun pg => ?_) n, hlevel]
    have hword : ∀ a, a ≠ Addr.INTC_RUN c.val → a ≠ Addr.INTC_ACTIVE 0 + 4 * (n / 32) → ((s.begin.putActive n false).putStack c.val l).word a = s.word a := fun a h1 h2 =>
      (State.word_putStack _ _ _ h1).trans (State.word_put_other _ _ h2)
    constructor
    all_goals
      refine hword _ ?_ ?_
      all_goals
        simp only [evtPendAddr, evtEnAddr, Addr.INTC_RUN, Addr.INTC_ACTIVE]
        omega
  have hfx : s.begin.writeComplete (.keeper c) c.val value.toNat = (s.begin.putActive n false).putStack c.val l := by
    simp only [State.writeComplete]
    rw [if_neg (not_not.mpr rfl), hstack']
    dsimp only
    rw [if_pos hval]
    exact if_neg (by rw [hlevel']; decide)
  have hframe : Frame [.keeper] [bitField (Addr.INTC_ACTIVE 0) n, Fld.INTC_RUN_RUNPRIO c.val, Fld.INTC_RUN_DEPTH c.val] s ((s.begin.putActive n false).putStack c.val l) :=
    ((Frame.begin s).andPutFlag false).andPutStack c.val l
  refine answers_guard rfl htk hfx hframe (hframe.home_dir (by simp)) ?_ fun hfr => ⟨?_, ?_, ?_, ?_⟩
  · intro g hg
    simp only [List.mem_cons, List.not_mem_nil, or_false] at hg
    rcases hg with rfl | rfl | rfl
    all_goals exact regionOf_intc (by simp only [bitField, Addr.INTC_ACTIVE, Fld.INTC_RUN_RUNPRIO, Fld.INTC_RUN_DEPTH, Addr.INTC_RUN]; omega)
  · rw [State.intActive_settle, State.intActive, State.flag,
      State.get_putStack _ _ _ (bitField_width _ n) (by simp only [bitField, Addr.INTC_ACTIVE, Addr.INTC_RUN]; omega)]
    exact s.begin.flag_putFlag_same (Addr.INTC_ACTIVE 0) n false
  · rw [State.inService_settle]
    exact (State.inService_putStack _ c.val l).trans (by rw [State.putActive, State.putFlag, State.put_keeper]; rfl)
  · rw [State.get_settle _ (by simp only [Fld.INTC_RUN_DEPTH, Addr.INTC_RUN]; omega), State.depth_putStack]
  · refine hfr.2 _ (by decide) (.inl (by decide)) fun f hf => ?_
    simp only [List.mem_cons, List.not_mem_nil, or_false] at hf
    rcases hf with rfl | rfl | rfl
    all_goals
      refine .inl ?_
      simp only [Fld.INTC_BAD_BAD_COMPLETE, Addr.INTC_BAD, bitField, Addr.INTC_ACTIVE, Fld.INTC_RUN_RUNPRIO, Fld.INTC_RUN_DEPTH, Addr.INTC_RUN]
      omega

/-- Any other completion is only counted. -/
theorem complete_bad : ∀ c : Core, ∀ value : Word, s.takes (.keeper c) 5 = true → (mget [] s.keeper.inService c.val).head?.map (·.1) ≠ some (value.toNat % 4096) →
    Answers (.intcComplete (.keeper c) c value) s fun t => t.keeper.inService = s.keeper.inService ∧
    t.get Fld.INTC_BAD_BAD_COMPLETE = min (2 ^ Fld.INTC_BAD_BAD_COMPLETE.width - 1) (s.get Fld.INTC_BAD_BAD_COMPLETE + 1) ∧ Frame [] [Fld.INTC_BAD_BAD_COMPLETE] s t := by
  intro c value htk hbad
  have hfx : s.begin.writeComplete (.keeper c) c.val value.toNat = s.begin.addSat Fld.INTC_BAD_BAD_COMPLETE 1 := by
    simp only [State.writeComplete]
    rw [if_neg (not_not.mpr rfl)]
    split
    · next n p l hstack =>
      refine if_neg fun h => hbad ?_
      rw [show mget [] s.keeper.inService c.val = (n, p) :: l from hstack, h]
      rfl
    · rfl
  have hframe : Frame [] [Fld.INTC_BAD_BAD_COMPLETE] s (s.begin.addSat Fld.INTC_BAD_BAD_COMPLETE 1) := (Frame.begin s).andAddSat 1
  refine answers_guard rfl htk hfx hframe (hframe.home_dir (by simp)) (by decide) fun hfr => ⟨?_, ?_, hfr⟩
  · rw [State.inService_settle, State.addSat_keeper]
    rfl
  · rw [State.get_settle _ (by decide), State.get_addSat _ _ (by decide)]
    rfl

end

/-- Settles O14: each write acts on the bits it names, and a fetch claims what the controller presents. -/
theorem interrupts : Obligations.Interrupts := by
  unfold Obligations.Interrupts
  exact fun s => ⟨pendSet_sets, pendClr_clears, enSet_sets, enClr_clears, levelRise_pends, intcBad_clears, vectorFetch_claims, vectorFetch_spurious, vectorFetch_presented,
    vectorFetch_none, complete_innermost, complete_bad⟩

end Sys2Proof.Machine
end

section
/-! PROOFS. What the ingress pipeline does with a message (O46, R16, R143, R152, R216, R274, R275, R284, R285, R309). -/
namespace Sys2Proof.Machine
open Sys2Proof
set_option Elab.async false

/-! ### What stage 1 takes in (R16) -/

/-- The message as the ingress pipeline takes it in. -/
def State.receivedMsg (s : State) (p : Nat) (m : Msg) : Msg :=
  let sub := match s.arrivalVppb p m.ld with
      | some n => s.get (Fld.VPPB_SUBID_SUBID n)
      | none => 0
  { m with src := p, dst := p, sub := sub, slot := none, vppb := none, gen := 0, epoch := none, colour := 0, counted := false, targets := [], vcs := none, vf := none,
           hive := 0, hslot := none, off := 0, mover := none, orphan := false, flush := none, looked := false, lent := false,
           devLoad := if m.kind.isAnswer then m.devLoad else 0, writeBack := m.writeBack && s.roleIs p 2 }

/-- The state with a message counted at its port. -/
def State.arrived (s : State) (p : Nat) (m : Msg) : State := s.begin.count (Ctr.PORT p 2) m.slotBytes

section
variable {s : State} {p : Nat} {m : Msg} {f : State → Msg → State} (hup : s.linkUp p = true) (hroom : s.tileRoom p m.kind.service = true) (hptm : m.kind ≠ .ptmReq)
include hup hroom hptm

theorem State.receive_serves (hrole : s.isActive = true ∨ s.roleIs p 0 = true) : s.begin.receive p m f =
    match s.spoofField p m with
    | some k => (s.arrived p m).spoof p k (s.receivedMsg p m)
    | none => f (s.arrived p m) (s.receivedMsg p m) := by
  have hspoof : (s.arrived p m).spoofField p (s.receivedMsg p m) = s.spoofField p m := rfl
  rw [← hspoof]
  have hup' : s.begin.linkUp p = true := hup
  have hroom' : s.begin.tileRoom p m.kind.service = true := hroom
  have hact : ¬ ((!s.begin.isActive && !s.begin.roleIs p 0) = true) := by
    rcases hrole with h | h
    · rw [show s.begin.isActive = true from h]
      simp
    · rw [show s.begin.roleIs p 0 = true from h]
      simp
  unfold State.receive
  rw [hup', hroom', if_neg (by simp), if_neg (by simpa using hptm), if_neg hact]
  rfl

theorem State.receive_passive (ha : s.isActive = false) (hr : s.roleIs p 0 = false) : s.begin.receive p m f = s.begin.count (Ctr.PORT p 28) := by
  have hup' : s.begin.linkUp p = true := hup
  have hroom' : s.begin.tileRoom p m.kind.service = true := hroom
  have ha' : s.begin.isActive = false := ha
  have hr' : s.begin.roleIs p 0 = false := hr
  unfold State.receive
  rw [hup', hroom', if_neg (by simp), if_neg (by simpa using hptm), ha', hr']
  rfl

end

/-- A tile with no earlier words of its tables works on the registers. -/
theorem State.atTile_settled {s : State} {t : Nat} {f : State → State} (h : ∀ o ∈ s.fab.lag, o.tile ≠ t ∨ o.since + 200 ≤ s.now) : s.begin.atTile t f = f s.begin := by
  have hnone : (s.begin.fab.lag.filter fun o => o.tile == t && decide (s.begin.now < o.since + 200)) = [] := by
    refine List.filter_eq_nil_iff.mpr fun o ho => ?_
    have hnow : s.begin.now = s.now := rfl
    rcases h o ho with h | h
    · simp [h]
    · simp [hnow, h]
  unfold State.atTile
  rw [hnone]
  rfl

/-! ### The capture of a policy event (R300) -/

/-- The first-error registers of the HAT page. -/
def hatRegs : List Field :=
  [Field.all (Addr.ERR_FIRST_ADDR_LO 0x50), Field.all (Addr.ERR_FIRST_ADDR_LO 0x50 + 4), Field.all (Addr.ERR_FIRST_MASTER 0x50), Field.all (Addr.ERR_FIRST_ATYPE 0x50),
   Field.all (Addr.ERR_FIRST_TS_LO 0x50), Field.all (Addr.ERR_FIRST_TS_LO 0x50 + 4)]

theorem Frame.andCaptureHat {ps : List Part} {fs : List Field} {s t : State} (h : Frame ps fs s t) (a k acc f sub port vf : Nat) (hf : ∀ g ∈ hatRegs, g ∈ fs) :
    Frame ps fs s (t.captureHat a k acc f sub port vf) := by
  unfold State.captureHat
  split
  · exact h
  · exact ((((h.andSetWord (a := Addr.ERR_FIRST_ADDR_LO 0x50) _ (hf _ (by simp [hatRegs]))).andSetWord (a := Addr.ERR_FIRST_ADDR_LO 0x50 + 4) _ (hf _ (by simp [hatRegs]))).andSetWord _
      (hf _ (by simp [hatRegs]))).andSetWord _ (hf _ (by simp [hatRegs]))).andPut64 _ (hf _ (by simp [hatRegs])) (hf _ (by simp [hatRegs]))

@[simp] theorem State.captureHat_ctrs (s : State) (a k acc f sub port vf : Nat) : (s.captureHat a k acc f sub port vf).ctrs = s.ctrs := by
  unfold State.captureHat
  split <;> simp

@[simp] theorem State.captureHat_clk (s : State) (a k acc f sub port vf : Nat) : (s.captureHat a k acc f sub port vf).clk = s.clk := by
  unfold State.captureHat
  split <;> simp

@[simp] theorem State.captureHat_fab (s : State) (a k acc f sub port vf : Nat) : (s.captureHat a k acc f sub port vf).fab = s.fab := by
  unfold State.captureHat
  split <;> simp

/-- A capture taken shows its address and is valid. -/
theorem State.get_captureHat {s : State} (a k : Nat) {acc f : Nat} (sub port vf : Nat) (hclear : s.get (Fld.ERR_FIRST_ATYPE_VALID 0x50) = 0)
    (hcode : k + acc * 2 ^ 4 + f * 2 ^ 8 < 2 ^ 31) : (s.captureHat a k acc f sub port vf).get (Fld.ERR_FIRST_ATYPE_VALID 0x50) = 1 ∧
      (s.captureHat a k acc f sub port vf).get (Fld.ERR_FIRST_ADDR_LO_ADDR 0x50) = a % 2 ^ 32 := by
  have hflag : ¬ (s.flag (Fld.ERR_FIRST_ATYPE_VALID 0x50) = true) := by
    rw [State.flag, hclear]
    decide
  unfold State.captureHat
  rw [if_neg hflag]
  constructor
  · rw [State.get, State.word_put64_other _ _ (by decide) (by decide), show (Fld.ERR_FIRST_ATYPE_VALID 0x50).addr = Addr.ERR_FIRST_ATYPE 0x50 from rfl, State.word_setWord_same,
      BitVec.toNat_ofNat, bitsOf, show (Fld.ERR_FIRST_ATYPE_VALID 0x50).lo = 31 from rfl, show (Fld.ERR_FIRST_ATYPE_VALID 0x50).width = 1 from rfl]
    omega
  · rw [State.get_of_word (g := Fld.ERR_FIRST_ADDR_LO_ADDR 0x50) (State.word_put64_other _ _ (by decide) (by decide)), State.get_of_word (g := Fld.ERR_FIRST_ADDR_LO_ADDR 0x50)
      (State.word_setWord_other _ _ (by decide)), State.get_of_word (g := Fld.ERR_FIRST_ADDR_LO_ADDR 0x50) (State.word_setWord_other _ _ (by decide)),
      State.get_put_clear _ _ (by decide), State.get_put_same _ _ _ (by decide)]
    rfl

/-! ### Spoof checks (R285) -/

theorem spoofField_lt {s : State} {p k : Nat} {m : Msg} (h : s.spoofField p m = some k) : k < 5 := by
  unfold State.spoofField at h
  dsimp only at h
  repeat' split at h
  all_goals
    simp only [Option.some.injEq, reduceCtorEq] at h
    try omega

theorem Msg.access_lt (m : Msg) : m.access < 8 := by
  unfold Msg.access
  repeat' split
  all_goals decide

/-- What a message that fails a spoof check leaves. -/
structure State.SpoofTold (s t : State) (p k : Nat) : Prop where
  counter : t.counter (Ctr.SPOOF p k) = s.counter (Ctr.SPOOF p k) + 1
  told : t.get Evt.HAT_SPOOF.field = 1
  captured : s.get (Fld.ERR_FIRST_ATYPE_VALID 0x50) = 0 → t.get (Fld.ERR_FIRST_ATYPE_VALID 0x50) = 1 ∧ t.get (Fld.ERR_FIRST_ADDR_LO_ADDR 0x50) = 0

theorem State.frame_spoof (s : State) (p k : Nat) (m : Msg) (n : Msg) : Frame [.ctrs] (hatRegs ++ [Evt.HAT_SPOOF.field]) s ((s.arrived p m).spoof p k n) :=
  (((((Frame.begin s).andCount _ _).andCount _ _).andCaptureHat _ _ _ _ _ _ _ fun g hg => List.mem_append_left _ hg).andRaise)

theorem State.told_spoof {s : State} {p k : Nat} (m n : Msg) (hrun : s.fabricRuns = true) (hk : k < 5) : s.SpoofTold ((s.arrived p m).spoof p k n).settle p k := by
  obtain ⟨hup, hheld, -⟩ := State.fabricRuns_iff.mp hrun
  have hget : ∀ g : Field, g.addr ≠ 0x40040 → g.clearOf Evt.HAT_SPOOF.field = true →
      ((s.arrived p m).spoof p k n).settle.get g = (((s.arrived p m).count (Ctr.SPOOF p k)).captureHat 0 2 n.access k n.sub p 0).get g := fun g h4 hc => by
    rw [State.get_settle _ h4, State.spoof, State.get_raise_clear _ hc]
  refine ⟨?_, ?_, fun hclear => ?_⟩
  · rw [State.counter_settle, State.spoof, State.counter_raise, State.counter_congr (State.captureHat_ctrs _ _ _ _ _ _ _ _), State.counter_count_same, State.arrived,
      State.counter_count_other _ _ (by simp only [Ctr.SPOOF, Ctr.PORT, perfAddr]; omega), State.counter_begin]
    rfl
  · rw [State.get_settle _ (by decide), State.spoof]
    refine State.get_raise_fabric ?_ ?_ rfl (by decide) (by decide)
    · rw [State.captureHat_clk]
      exact hup
    · rw [State.captureHat_clk]
      exact hheld
  · have hcode : 2 + n.access * 2 ^ 4 + k * 2 ^ 8 < 2 ^ 31 := by
      have := n.access_lt
      omega
    have hcap := State.get_captureHat (s := (s.arrived p m).count (Ctr.SPOOF p k)) 0 2 n.sub p 0 (by rw [State.get_count, State.arrived, State.get_count, State.get_begin, hclear]) hcode
    exact ⟨(hget _ (by decide) (by decide)).trans hcap.1, (hget _ (by decide) (by decide)).trans hcap.2⟩

/-! ### Answers queued toward a requester (R153, R275) -/

theorem State.queueAll_untracked : ∀ (l : List Msg) (s : State), (∀ x ∈ l, x.kind.trackClass = none) →
    l.foldl State.queueMsg s = s.modSw fun w => { w with waiting := w.waiting ++ l.map fun x => { x with svc := x.kind.service } }
  | [], s, _ => by simp [State.modSw]
  | x :: l, s, h => by
    rw [List.foldl_cons, State.queueMsg_of_untracked (h x List.mem_cons_self), State.queueAll_untracked l _ fun y hy => h y (List.mem_cons_of_mem _ hy)]
    simp [State.modSw]

/-- What a read is answered where it reaches nothing: each answer goes to the requester under its tag. -/
theorem Msg.flushed_read {m : Msg} (hk : m.kind = .memRd) (hsrc : m.src ≠ 66) :
    m.flushed ≠ [] ∧ ∀ x ∈ m.flushed, x.dst = m.src ∧ x.kind.isAnswer = true ∧ x.tag = m.tag ∧ x.kind.trackClass = none := by
  have hndr : ∀ k, readNdr m.mem m.mv = some k → k.isAnswer = true ∧ k.trackClass = none := fun k h => by
    unfold readNdr at h
    split at h <;> simp only [Option.some.injEq, reduceCtorEq] at h
    all_goals
      subst h
      exact ⟨rfl, rfl⟩
  unfold Msg.flushed
  rw [hk, if_neg hsrc]
  dsimp only
  refine ⟨List.cons_ne_nil _ _, fun x hx => ?_⟩
  rcases List.mem_cons.mp hx with rfl | hx
  · exact ⟨rfl, rfl, rfl, rfl⟩
  · split at hx
    · next k hndr' =>
      rw [if_neg (by decide), List.mem_singleton] at hx
      obtain ⟨ha, ht⟩ := hndr k hndr'
      subst hx
      exact ⟨rfl, ha, rfl, ht⟩
    · exact absurd hx List.not_mem_nil

/-- The buffer after answers to a requester have been queued. -/
structure State.Answered (s t : State) (dst tag : Nat) : Prop where
  answers : ∀ x ∈ t.fab.sw.waiting.drop s.fab.sw.waiting.length, x.dst = dst ∧ x.kind.isAnswer = true ∧ x.tag = tag
  kept : t.fab.sw.waiting.take s.fab.sw.waiting.length = s.fab.sw.waiting
  more : s.fab.sw.waiting.length < t.fab.sw.waiting.length

/-- The answers of a read that reaches nothing, as the buffer takes them. -/
def State.flushedQueued (s : State) (m : Msg) : State := s.modSw fun w => { w with waiting := w.waiting ++ m.flushed.map fun x => { x with svc := x.kind.service } }

theorem State.get_flushedQueued (s : State) (m : Msg) (g : Field) : (s.flushedQueued m).get g = s.get g := State.get_congr rfl g
theorem State.counter_flushedQueued (s : State) (m : Msg) (c : Nat) : (s.flushedQueued m).counter c = s.counter c := rfl

theorem State.queueFlushed {m : Msg} (s : State) (hk : m.kind = .memRd) (hsrc : m.src ≠ 66) : m.flushed.foldl State.queueMsg s = s.flushedQueued m :=
  State.queueAll_untracked _ s fun x hx => ((Msg.flushed_read hk hsrc).2 x hx).2.2.2

theorem State.answered_flushed {s t : State} {m : Msg} (hk : m.kind = .memRd) (hsrc : m.src ≠ 66) (hw : t.fab.sw.waiting = s.fab.sw.waiting) :
    s.Answered (t.flushedQueued m).settle m.src m.tag := by
  obtain ⟨hne, hall⟩ := Msg.flushed_read hk hsrc
  have hwait : (t.flushedQueued m).settle.fab.sw.waiting = s.fab.sw.waiting ++ m.flushed.map fun x => { x with svc := x.kind.service } := by
    rw [State.settle_fab, ← hw]
    rfl
  refine ⟨fun x hx => ?_, ?_, ?_⟩
  · rw [hwait, List.drop_left] at hx
    obtain ⟨y, hy, rfl⟩ := List.mem_map.mp hx
    obtain ⟨h1, h2, h3, -⟩ := hall y hy
    exact ⟨h1, h2, h3⟩
  · rw [hwait, List.take_left]
  · rw [hwait, List.length_append, List.length_map]
    have := List.length_pos_iff.mpr hne
    omega

theorem Frame.andFlushedQueued {ps : List Part} {fs : List Field} {s t : State} (h : Frame ps fs s t) (m : Msg) (hp : Part.fab ∈ ps := by simp) : Frame ps fs s (t.flushedQueued m) :=
  h.andModSw _ hp

/-! ### Rule faults (R275, R360) -/

theorem State.aerFault_cases (s : State) (v : Nat) : s.aerFault v = s ∨ ∃ f o, s.aerFault v = (s.modHat f).emit o := by
  unfold State.aerFault
  split
  · split
    · exact .inl rfl
    · exact .inr ⟨_, _, rfl⟩
  · exact .inr ⟨_, _, rfl⟩

/-- A rule fault of a host's read, before its report. -/
def State.faultTold (s : State) (p : Nat) (m : Msg) : State := ((s.count (Ctr.SUB m.sub 6)).captureHat m.addr 1 m.access 0 m.sub p 0).raise Evt.HAT_RULE_FAULT

theorem State.failRule_read (s : State) {p v : Nat} {m : Msg} (hk : m.kind = .memRd) (hsrc : m.src ≠ 66) (hv : m.vcs = some v) :
    s.failRule m p = ((s.faultTold p m).aerFault v).flushedQueued m := by
  have hfault : s.ruleFault m p = (s.faultTold p m).aerFault v := by
    unfold State.ruleFault
    rw [hv, show (m.src == 66) = false from beq_false_of_ne hsrc]
    rfl
  have hans : m.faulted = m.flushed := by
    unfold Msg.faulted
    rw [hk]
    rfl
  rw [State.failRule, hans, hfault, State.queueFlushed _ hk hsrc]

theorem State.aerFault_parts (s : State) (v : Nat) : (s.aerFault v).regs = s.regs ∧ (s.aerFault v).ctrs = s.ctrs ∧ (s.aerFault v).fab.sw = s.fab.sw ∧
    (s.aerFault v).fab.home = s.fab.home := by
  rcases s.aerFault_cases v with h | ⟨f, o, h⟩ <;> rw [h]
  · exact ⟨rfl, rfl, rfl, rfl⟩
  · exact ⟨rfl, rfl, rfl, rfl⟩

theorem Frame.andAerFault {ps : List Part} {fs : List Field} {s t : State} (h : Frame ps fs s t) (v : Nat) (hp : Part.fab ∈ ps := by simp) (ho : Part.out ∈ ps := by simp) :
    Frame ps fs s (t.aerFault v) := by
  rcases t.aerFault_cases v with he | ⟨f, o, he⟩ <;> rw [he]
  · exact h
  · exact (h.andModHat f hp).andEmit o ho

/-- What a read that fails its rule leaves. -/
structure State.FaultShown (s t : State) (p : Nat) (m : Msg) : Prop where
  answered : s.Answered t p m.tag
  told : t.get Evt.HAT_RULE_FAULT.field = 1
  counter : t.counter (Ctr.SUB m.sub 6) = s.counter (Ctr.SUB m.sub 6) + 1
  home : t.fab.home = s.fab.home
  frame : Frame [.fab, .ctrs, .out] (hatRegs ++ [Evt.HAT_RULE_FAULT.field]) s t

/-- A read refused at the rules, as it leaves the pipeline. -/
def State.readRefused (s : State) (p v : Nat) (m n : Msg) : State := (((s.arrived p m).faultTold p n).aerFault v).flushedQueued n

theorem State.frame_readRefused (s : State) (p v : Nat) (m n : Msg) : Frame [.fab, .ctrs, .out] (hatRegs ++ [Evt.HAT_RULE_FAULT.field]) s (s.readRefused p v m n) :=
  ((((((Frame.begin s).andCount _ _).andCount _ _).andCaptureHat _ _ _ _ _ _ _ fun _ hg => List.mem_append_left _ hg).andRaise).andAerFault v).andFlushedQueued n

theorem State.faultTold_fab (s : State) (p : Nat) (m : Msg) : (s.faultTold p m).fab = s.fab := by rw [State.faultTold, State.raise_fab, State.captureHat_fab, State.count_fab]

theorem State.dir_readRefused (s : State) (p v : Nat) (m n : Msg) : (s.readRefused p v m n).fab.home = s.fab.home :=
  (((s.arrived p m).faultTold p n).aerFault_parts v).2.2.2.trans (by rw [State.faultTold_fab]; rfl)

theorem State.shown_readRefused {s : State} {p v : Nat} (m : Msg) {n : Msg} (hrun : s.fabricRuns = true) (hp : p < 64) (hk : n.kind = .memRd) (hsrc : n.src = p) :
    s.FaultShown (s.readRefused p v m n).settle p n := by
  obtain ⟨hup, hheld, -⟩ := State.fabricRuns_iff.mp hrun
  obtain ⟨hregs, hctrs, hsw, hhome⟩ := ((s.arrived p m).faultTold p n).aerFault_parts v
  have hsrc66 : n.src ≠ 66 := by omega
  refine ⟨?_, ?_, ?_, ?_, (s.frame_readRefused p v m n).settle⟩
  · have hans := State.answered_flushed (s := s) (t := ((s.arrived p m).faultTold p n).aerFault v) hk hsrc66 (by rw [hsw, State.faultTold_fab]; rfl)
    rw [hsrc] at hans
    exact hans
  · rw [State.get_settle _ (by decide)]
    refine (State.get_congr (s := (s.arrived p m).faultTold p n) hregs _).trans ?_
    refine State.get_raise_fabric ?_ ?_ rfl (by decide) (by decide)
    · rw [State.captureHat_clk]
      exact hup
    · rw [State.captureHat_clk]
      exact hheld
  · rw [State.counter_settle]
    refine (State.counter_congr (s := (s.arrived p m).faultTold p n) hctrs _).trans ?_
    rw [State.faultTold, State.counter_raise, State.counter_congr (State.captureHat_ctrs _ _ _ _ _ _ _ _), State.counter_count_same, State.arrived,
      State.counter_count_other _ _ (by simp only [Ctr.SUB, Ctr.PORT, perfAddr]; omega), State.counter_begin]
    rfl
  · rw [State.settle_fab]
    exact hhome.trans (by rw [State.faultTold_fab]; rfl)

/-! ### A read of a host (R216, R274) -/

/-- The addresses of a host lead where they led while only the counters change. -/
theorem State.destOf_arrived (s : State) (p v a : Nat) (m : Msg) : (s.arrived p m).destOf v a true = s.destOf v a true := by
  have hspan : (s.arrived p m).vcsSpan v a = s.vcsSpan v a := by
    unfold State.vcsSpan State.spanOf
    exact congrArg (fun q => List.find? q (List.range 1024)) (funext fun _ => rfl)
  have hpool : (s.arrived p m).poolWindow v a = s.poolWindow v a := rfl
  have hremote : (s.arrived p m).remoteSpan v a = s.remoteSpan v a := rfl
  have hdec : (s.arrived p m).decoderOf v a = s.decoderOf v a := rfl
  unfold State.destOf
  rw [hspan, hpool, hremote, hdec]
  generalize s.vcsSpan v a = x
  generalize s.poolWindow v a = y
  generalize s.remoteSpan v a = z
  generalize s.decoderOf v a = w
  rfl

/-- A request of the host of a VCS after stage 2. -/
def State.hostMsg (s : State) (p v : Nat) (m : Msg) : Msg :=
  { s.receivedMsg p m with writeBack := false, lent := false, sub := s.get (Fld.VPPB_SUBID_SUBID (s.upstreamVppb v)), vcs := some v, vppb := some (s.upstreamVppb v),
                           gen := s.vppbGen (s.upstreamVppb v) }

/-- The message of a host as stage 2 takes it in. -/
def State.takenMsg (s : State) (p : Nat) (m : Msg) : Msg := { s.receivedMsg p m with writeBack := false, lent := false }

/-- A read of a host at stage 2, outside a swap: to the stages of its VCS, or answered where the port has none. -/
theorem State.requestIn_read {s : State} {p : Nat} {m : Msg} (ha : s.isActive = true) (hr : s.role ≠ 8) (hu : s.roleIs p 0 = true) (hk : m.kind = .memRd) :
    (s.arrived p m).requestIn p (s.receivedMsg p m) =
      match s.vcsOn p with
      | none => (s.takenMsg p m).flushed.foldl State.queueMsg ((s.arrived p m).count (Ctr.PORT p 29))
      | some v => (s.arrived p m).hostMem p v (s.hostMsg p v m) := by
  have hk' : (s.receivedMsg p m).kind = .memRd := hk
  have hu' : (s.arrived p m).roleIs p 0 = true := hu
  have ha' : (s.arrived p m).isActive = true := ha
  have hv' : (s.arrived p m).vcsOn p = s.vcsOn p := rfl
  have h8 : ((s.arrived p m).role == 8) = false := beq_false_of_ne hr
  have hlent : (s.receivedMsg p m).lent = false := rfl
  have hwb : ∀ n : Msg, n.kind = .memRd → (s.arrived p m).isWriteBack p n = false := fun n hn => by
    rw [State.isWriteBack, hn]
    rfl
  have hswap : ∀ n : Msg, (s.arrived p m).swapWithholds p n = false := fun n => by
    rw [State.swapWithholds, h8]
    rfl
  have hnote : ∀ n : Msg, n.kind = .memRd → (s.arrived p m).noteBack p n = s.arrived p m := fun n hn => by
    rw [State.noteBack, hwb n hn]
    rfl
  unfold State.requestIn
  rw [hk', if_neg (by decide), if_pos hu']
  unfold State.fromHost
  dsimp only
  rw [hwb _ hk', h8, hlent, hswap, if_neg (by decide), hnote]
  · rw [hv']
    rcases s.vcsOn p with _ | v
    · rfl
    · dsimp only
      rw [if_pos ha']
      unfold State.hostRequest
      dsimp only
      rw [if_pos (show (s.receivedMsg p m).kind.isMem = true from congrArg MsgKind.isMem hk')]
      rfl
  · exact hk'

theorem Frame.andPolice {ps : List Part} {fs : List Field} {s t : State} (h : Frame ps fs s t) (n u l : Nat) (hp : Part.fab ∈ ps := by simp) (hc : Part.ctrs ∈ ps := by simp)
    (hf : Evt.SCHED_RED.field ∈ fs := by simp) : Frame ps fs s (t.police n u l).1 := (((h.andModSw _ hp).andCount _ _ hc).andRaiseIf _ hf)

theorem State.waiting_police (s : State) (n u l : Nat) : (s.police n u l).1.fab.sw.waiting = s.fab.sw.waiting := by
  rw [State.police, State.raiseIf_fab]
  rfl

theorem State.dir_police (s : State) (n u l : Nat) : (s.police n u l).1.fab.home = s.fab.home := by
  rw [State.police, State.raiseIf_fab]
  rfl

theorem State.queueMsg_internal {s : State} {m : Msg} (h : 64 ≤ m.dst) :
    s.queueMsg m = s.modSw fun w => { w with waiting := w.waiting ++ [{ m with svc := m.kind.service }] } := by
  unfold State.queueMsg State.track
  dsimp only
  split
  · next s' m' heq =>
    split at heq
    · cases heq
      rfl
    · rw [if_pos (by simp [h])] at heq
      cases heq
      rfl
  · next heq =>
    split at heq
    · cases heq
    · rw [if_pos (by simp [h])] at heq
      cases heq

/-- A read of a host on its way to the home, under the epoch of its tile (R281). -/
def State.homeRead (s : State) (p v : Nat) (m : Msg) : Msg := { s.hostMsg p v m with mem := .hdmDB, epoch := some (s.ruleEpoch (p / 16)) }

/-- The state once a read of a host has been policed. -/
def State.readPoliced (s : State) (p v : Nat) (m : Msg) : State × Msg := (s.arrived p m).colour p (s.homeRead p v m)

section
variable {s : State} {p v : Nat} {m : Msg} (hk : m.kind = .memRd) (hmv : m.mv = .a)
include hk hmv

theorem State.checked_read (f : State → Msg → State) : (s.arrived p m).checked p { s.hostMsg p v m with mem := .hdmDB } f =
    if ruleGrants (s.bank (p / 16)) (s.get (Fld.VPPB_SUBID_SUBID (s.upstreamVppb v))) 0 m.addr (Perm.r + Perm.cs) = true then f (s.readPoliced p v m).1 (s.readPoliced p v m).2
    else (s.arrived p m).failRule { s.hostMsg p v m with mem := .hdmDB } p := by
  have hneeds : ({ s.hostMsg p v m with mem := .hdmDB } : Msg).needs = some (Perm.r + Perm.cs) := by
    unfold Msg.needs
    rw [show ({ s.hostMsg p v m with mem := .hdmDB } : Msg).kind = .memRd from hk, show ({ s.hostMsg p v m with mem := .hdmDB } : Msg).mv = .a from hmv]
    rfl
  have hallow : (s.arrived p m).ruleAllows p { s.hostMsg p v m with mem := .hdmDB } =
      ruleGrants (s.bank (p / 16)) (s.get (Fld.VPPB_SUBID_SUBID (s.upstreamVppb v))) 0 m.addr (Perm.r + Perm.cs) := by
    unfold State.ruleAllows
    rw [hneeds]
    rfl
  unfold State.checked
  rw [hallow, hneeds]
  by_cases hg : ruleGrants (s.bank (p / 16)) (s.get (Fld.VPPB_SUBID_SUBID (s.upstreamVppb v))) 0 m.addr (Perm.r + Perm.cs) = true
  · rw [if_pos hg, hg]
    rfl
  · rw [if_neg hg, Bool.not_eq_true _ |>.mp hg]
    rfl

end

theorem State.hostMem_home {s : State} {p v h i off : Nat} {m : Msg} (hd : s.destOf v m.addr true = .home h i off) : (s.arrived p m).hostMem p v (s.hostMsg p v m) =
    (s.arrived p m).checked p { s.hostMsg p v m with mem := .hdmDB } fun s m => s.queueMsg (m.atHome h (some i) off) := by
  unfold State.hostMem
  rw [show (s.arrived p m).destOf v (s.hostMsg p v m).addr true = .home h i off from (s.destOf_arrived p v m.addr m).trans hd]

theorem State.hostMem_nowhere {s : State} {p v : Nat} {m : Msg} (hd : s.destOf v m.addr true = .nowhere) :
    (s.arrived p m).hostMem p v (s.hostMsg p v m) = (s.arrived p m).failRule (s.hostMsg p v m) p := by
  unfold State.hostMem
  rw [show (s.arrived p m).destOf v (s.hostMsg p v m).addr true = .nowhere from (s.destOf_arrived p v m.addr m).trans hd]

theorem State.hostMem_unbound {s : State} {p v n : Nat} {m : Msg} (hd : s.destOf v m.addr true = .unbound n) :
    (s.arrived p m).hostMem p v (s.hostMsg p v m) = (s.arrived p m).unboundAccess (s.hostMsg p v m) n := by
  unfold State.hostMem
  rw [show (s.arrived p m).destOf v (s.hostMsg p v m).addr true = .unbound n from (s.destOf_arrived p v m.addr m).trans hd]

/-- A read of a host that goes to the home. -/
def State.readToHome (s : State) (p v h i off : Nat) (m : Msg) : State := (s.readPoliced p v m).1.queueMsg ((s.readPoliced p v m).2.atHome h (some i) off)

theorem State.readToHome_eq (s : State) (p v h i off : Nat) (m : Msg) : s.readToHome p v h i off m = (s.readPoliced p v m).1.modSw fun w =>
    { w with waiting := w.waiting ++ [{ (s.readPoliced p v m).2.atHome h (some i) off with svc := m.kind.service }] } :=
  State.queueMsg_internal (m := (s.readPoliced p v m).2.atHome h (some i) off) (show 64 ≤ 64 by decide)

/-! ### Answers and their slots (R150, R152) -/

theorem State.answerIn_device {s : State} {p : Nat} {m : Msg} (h2 : s.roleIs p 2 = false) (h0 : s.roleIs p 0 = false) (hk : m.kind = .memData)
    (hw : s.isWindowTarget p m.ld = false) : (s.arrived p m).answerIn p (s.receivedMsg p m) = (s.arrived p m).checkAnswer p 0 (s.receivedMsg p m) := by
  have hk' : (s.receivedMsg p m).kind = .memData := hk
  have h2' : ¬ ((s.arrived p m).roleIs p 2 = true) := fun h => Bool.false_ne_true (h2.symm.trans h)
  have h0' : ¬ ((s.arrived p m).roleIs p 0 = true) := fun h => Bool.false_ne_true (h0.symm.trans h)
  have hw' : (s.arrived p m).isWindowTarget p (s.receivedMsg p m).ld = false := hw
  unfold State.answerIn
  rw [if_neg h2', if_neg h0']
  unfold State.deviceAnswer
  rw [hw', hk', if_neg (by simp), if_neg (by decide)]
  rfl

/-- The answer a slot passes on, to the requester under its tag. -/
def State.delivered (s : State) (p : Nat) (e : TSlot) (a : Msg) : Msg :=
  { a with src := p, dst := e.msg.src, tag := e.msg.tag, sub := e.msg.sub, colour := e.msg.colour, devLoad := max a.devLoad e.msg.devLoad, vppb := e.msg.vppb, gen := e.gen,
           addr := e.msg.addr, vcs := e.msg.vcs, spid := e.msg.dpid, dpid := e.msg.spid, slot := none, bus := e.msg.bus,
           ld := if s.roleIs e.msg.src 1 then (e.msg.vppb.map s.vppbLd).getD 0 else 0 }

/-- A slot freed by its last answer, which the buffer takes. -/
def State.slotAnswered (s : State) (p k : Nat) (e : TSlot) (a : Msg) : State :=
  (s.setSlots p 0 (assocDel (s.slots p 0) k)).modSw fun w => { w with waiting := w.waiting ++ [{ s.delivered p e a with svc := a.kind.service }] }

section
variable {s : State} {p k : Nat} {e : TSlot} {m : Msg} (hslot : s.tagSlot p 0 m.tag = k) (he : assoc (s.slots p 0) k = some e)
include hslot he

theorem State.checkAnswer_last (htag : m.tag = s.trackTag p 0 e.gen k) (hstale : e.stale = false) (hgen : s.vppbGen e.vppb = e.gen) (hndr : e.owesNdr = false)
    (hk : m.kind = .memData) (hfinal : m.final = true) : (s.arrived p m).checkAnswer p 0 (s.receivedMsg p m) = (s.arrived p m).slotAnswered p k e (s.receivedMsg p m) := by
  have hslot' : (s.arrived p m).tagSlot p 0 (s.receivedMsg p m).tag = k := hslot
  have he' : assoc ((s.arrived p m).slots p 0) k = some e := he
  have htag' : ((s.receivedMsg p m).tag != (s.arrived p m).trackTag p 0 e.gen k) = false := by
    rw [show (s.receivedMsg p m).tag = m.tag from rfl, show (s.arrived p m).trackTag p 0 e.gen k = s.trackTag p 0 e.gen k from rfl, ← htag]
    simp
  have hgen' : ((s.arrived p m).vppbGen e.vppb != e.gen) = false := by
    rw [show (s.arrived p m).vppbGen e.vppb = s.vppbGen e.vppb from rfl, hgen]
    simp
  have hk' : (s.receivedMsg p m).kind = .memData := hk
  have hlast : e.answered (s.receivedMsg p m) = none := by
    unfold TSlot.answered
    rw [hk', show (s.receivedMsg p m).final = true from hfinal, hndr]
    simp
  have hun : (s.receivedMsg p m).kind.trackClass = none := by rw [hk']; rfl
  unfold State.checkAnswer
  dsimp only
  rw [hslot', he']
  dsimp only
  rw [hstale, htag', hgen', if_neg (by simp), hlast]
  exact State.queueMsg_of_untracked hun

theorem State.checkAnswer_late (hlate : e.stale = true ∨ s.vppbGen e.vppb ≠ e.gen) (hv : e.vppb < 4096) :
    (s.arrived p m).checkAnswer p 0 (s.receivedMsg p m) = ((s.arrived p m).count (Ctr.VPPB e.vppb 0)).raise Evt.VCS_GEN_DISCARD := by
  have hslot' : (s.arrived p m).tagSlot p 0 (s.receivedMsg p m).tag = k := hslot
  have he' : assoc ((s.arrived p m).slots p 0) k = some e := he
  have hgen' : (s.arrived p m).vppbGen e.vppb = s.vppbGen e.vppb := rfl
  unfold State.checkAnswer
  dsimp only
  rw [hslot', he']
  dsimp only
  rw [hgen', if_pos (by rcases hlate with h | h <;> simp [h, hv]), State.genDiscard]
  simp [hv, State.countVppb, Option.filter]

end

/-! ### The clauses -/

section
variable {s : State} {p : Port} {m : Msg} (hrun : s.fabricRuns = true) (hup : s.linkUp p.val = true)
  (hlag : ∀ o ∈ s.fab.lag, o.tile ≠ p.val / 16 ∨ o.since + 200 ≤ s.now) (hroom : s.tileRoom p.val m.kind.service = true) (hptm : m.kind ≠ .ptmReq)
include hrun hup hlag hroom hptm

theorem answers_request {ps : List Part} {fs : List Field} {x : State} {P : State → Prop} (hrole : s.isActive = true ∨ s.roleIs p.val 0 = true) (hspoof : s.spoofField p.val m = none)
    (hfx : (s.arrived p.val m).requestIn p.val (s.receivedMsg p.val m) = x) (hx : Frame ps fs s x) (hd : x.fab.home.dir = s.fab.home.dir)
    (hf : ∀ g ∈ fs, regionOf g.addr = none) (hp : P x.settle) : Answers (.requestIngress p m) s P := by
  refine answers_fabric rfl hrun ((State.atTile_settled hlag).trans ((State.receive_serves hup hroom hptm hrole).trans ?_)) hx hd hf fun _ => hp
  rw [hspoof]
  exact hfx

theorem answers_answer {ps : List Part} {fs : List Field} {x : State} {P : State → Prop} (ha : s.isActive = true) (hk : m.kind.isAnswer = true) (hspoof : s.spoofField p.val m = none)
    (hfx : (s.arrived p.val m).answerIn p.val (s.receivedMsg p.val m) = x) (hx : Frame ps fs s x) (hd : x.fab.home.dir = s.fab.home.dir)
    (hf : ∀ g ∈ fs, regionOf g.addr = none) (hp : P x.settle) : Answers (.answerReceive p m) s P := by
  refine answers_fabric rfl hrun ((if_pos hk).trans ((State.atTile_settled hlag).trans ((State.receive_serves hup hroom hptm (.inl ha)).trans ?_))) hx hd hf fun _ => hp
  rw [hspoof]
  exact (if_pos (by rw [show (s.arrived p.val m).isActive = true from ha]; rfl)).trans hfx

/-- A request that fails a spoof check is discarded and counted. -/
theorem request_spoofed : ∀ k : Nat, (s.isActive = true ∨ s.roleIs p.val 0 = true) → s.spoofField p.val m = some k → Answers (.requestIngress p m) s fun t =>
    t.counter (Ctr.SPOOF p.val k) = s.counter (Ctr.SPOOF p.val k) + 1 ∧ t.get Evt.HAT_SPOOF.field = 1 ∧ (s.get (Fld.ERR_FIRST_ATYPE_VALID 0x50) = 0 →
    t.get (Fld.ERR_FIRST_ATYPE_VALID 0x50) = 1 ∧ t.get (Fld.ERR_FIRST_ADDR_LO_ADDR 0x50) = 0) ∧
    Frame [.ctrs] [Field.all (Addr.ERR_FIRST_ADDR_LO 0x50), Field.all (Addr.ERR_FIRST_ADDR_LO 0x50 + 4), Field.all (Addr.ERR_FIRST_MASTER 0x50),
    Field.all (Addr.ERR_FIRST_ATYPE 0x50), Field.all (Addr.ERR_FIRST_TS_LO 0x50), Field.all (Addr.ERR_FIRST_TS_LO 0x50 + 4), Evt.HAT_SPOOF.field] s t := by
  intro k hrole hspoof
  have hx := s.frame_spoof p.val k m (s.receivedMsg p.val m)
  have htold := State.told_spoof (p := p.val) m (s.receivedMsg p.val m) hrun (spoofField_lt hspoof)
  refine answers_fabric rfl hrun ((State.atTile_settled hlag).trans ((State.receive_serves hup hroom hptm hrole).trans ?_)) hx (hx.home_dir (by decide)) (by decide) fun hfr =>
    ⟨htold.counter, htold.told, htold.captured, hfr⟩
  rw [hspoof]

/-- So is an answer. -/
theorem answer_spoofed : ∀ k : Nat, (s.isActive = true ∨ s.roleIs p.val 0 = true) → s.spoofField p.val m = some k → m.kind.isAnswer = true → Answers (.answerReceive p m) s fun t =>
    t.counter (Ctr.SPOOF p.val k) = s.counter (Ctr.SPOOF p.val k) + 1 ∧ t.get Evt.HAT_SPOOF.field = 1 ∧ (s.get (Fld.ERR_FIRST_ATYPE_VALID 0x50) = 0 →
    t.get (Fld.ERR_FIRST_ATYPE_VALID 0x50) = 1 ∧ t.get (Fld.ERR_FIRST_ADDR_LO_ADDR 0x50) = 0) ∧
    Frame [.ctrs] [Field.all (Addr.ERR_FIRST_ADDR_LO 0x50), Field.all (Addr.ERR_FIRST_ADDR_LO 0x50 + 4), Field.all (Addr.ERR_FIRST_MASTER 0x50),
    Field.all (Addr.ERR_FIRST_ATYPE 0x50), Field.all (Addr.ERR_FIRST_TS_LO 0x50), Field.all (Addr.ERR_FIRST_TS_LO 0x50 + 4), Evt.HAT_SPOOF.field] s t := by
  intro k hrole hspoof hk
  have hx := s.frame_spoof p.val k m (s.receivedMsg p.val m)
  have htold := State.told_spoof (p := p.val) m (s.receivedMsg p.val m) hrun (spoofField_lt hspoof)
  refine answers_fabric rfl hrun ((if_pos hk).trans ((State.atTile_settled hlag).trans ((State.receive_serves hup hroom hptm hrole).trans ?_))) hx (hx.home_dir (by decide)) (by decide)
    fun hfr => ⟨htold.counter, htold.told, htold.captured, hfr⟩
  rw [hspoof]

/-- A passive module discards what devices and other modules send. -/
theorem request_passive : s.isActive = false → s.roleIs p.val 0 = false → Answers (.requestIngress p m) s fun t => t.counter (Ctr.PORT p.val 28) = s.counter (Ctr.PORT p.val 28) + 1 ∧
    Frame [.ctrs] [] s t := by
  intro ha hr
  refine answers_fabric rfl hrun ((State.atTile_settled hlag).trans (State.receive_passive hup hroom hptm ha hr)) (ps := [.ctrs]) (fs := []) ((Frame.begin s).andCount _ _) rfl (by simp)
    fun hfr => ⟨?_, hfr⟩
  rw [State.counter_settle, State.counter_count_same]
  rfl

/-- Answers among them. -/
theorem answer_passive : s.isActive = false → s.roleIs p.val 0 = false → m.kind.isAnswer = true → Answers (.answerReceive p m) s fun t =>
    t.counter (Ctr.PORT p.val 28) = s.counter (Ctr.PORT p.val 28) + 1 ∧ Frame [.ctrs] [] s t := by
  intro ha hr hk
  refine answers_fabric rfl hrun ((if_pos hk).trans ((State.atTile_settled hlag).trans (State.receive_passive hup hroom hptm ha hr))) (ps := [.ctrs]) (fs := [])
    ((Frame.begin s).andCount _ _) rfl (by simp) fun hfr => ⟨?_, hfr⟩
  rw [State.counter_settle, State.counter_count_same]
  rfl

/-- A read that its rule grants goes to the home of its window. -/
theorem request_home : ∀ v : Nat, ∀ u : Nat, ∀ h : Nat, ∀ i : Nat, ∀ off : Nat, s.isActive = true → s.role ≠ 8 → s.roleIs p.val 0 = true → s.spoofField p.val m = none → s.vcsOn p.val = some v →
    m.kind = .memRd → m.mv = .a → u = s.get (Fld.VPPB_SUBID_SUBID (s.upstreamVppb v)) → s.destOf v m.addr true = .home h i off →
    ruleGrants (s.bank (p.val / 16)) u 0 m.addr (Perm.r + Perm.cs) = true → Answers (.requestIngress p m) s fun t => t.fab.sw.waiting.dropLast = s.fab.sw.waiting ∧
    t.fab.sw.waiting.getLast?.map (fun x => (x.kind, x.dst, x.hive, x.hslot, x.off)) = some (.memRd, 64, h, some i, off) ∧ t.fab.sw.waiting.getLast?.map (fun x =>
    (x.sub, x.tag, x.src, x.epoch)) = some (u, m.tag, p.val, some (s.ruleEpoch (p.val / 16))) ∧ Frame [.fab, .ctrs] [Evt.SCHED_RED.field] s t := by
  intro v u h i off ha hr hu hspoof hv hk hmv hsub hd hg
  subst hsub
  have hfx : (s.arrived p.val m).requestIn p.val (s.receivedMsg p.val m) = s.readToHome p.val v h i off m := by
    rw [State.requestIn_read ha hr hu hk, hv]
    exact (State.hostMem_home hd).trans ((State.checked_read hk hmv _).trans (if_pos hg))
  have hx : Frame [.fab, .ctrs] [Evt.SCHED_RED.field] s (s.readToHome p.val v h i off m) := by
    rw [State.readToHome_eq]
    exact ((((Frame.begin s).andCount _ _).andPolice _ _ _).andModSw _)
  have hwait : (s.readToHome p.val v h i off m).settle.fab.sw.waiting =
      s.fab.sw.waiting ++ [{ (s.readPoliced p.val v m).2.atHome h (some i) off with svc := m.kind.service }] := by
    rw [State.settle_fab, State.readToHome_eq]
    exact congrArg (· ++ _) (State.waiting_police (s.arrived p.val m) _ _ _)
  refine answers_request hrun hup hlag hroom hptm (.inl ha) hspoof hfx hx ?_ (by decide) ⟨?_, ?_, ?_, hx.settle⟩
  · rw [State.readToHome_eq]
    exact congrArg Home.dir (State.dir_police (s.arrived p.val m) _ _ _)
  · rw [hwait, List.dropLast_concat]
  · rw [hwait, List.getLast?_concat]
    exact congrArg some (congrArg (·, 64, h, some i, off) hk)
  · rw [hwait, List.getLast?_concat]
    rfl

/-- A read that no rule grants is a rule fault, answered to its sender. -/
theorem request_refused : ∀ v : Nat, ∀ u : Nat, ∀ h : Nat, ∀ i : Nat, ∀ off : Nat, s.isActive = true → s.role ≠ 8 → s.roleIs p.val 0 = true → s.spoofField p.val m = none → s.vcsOn p.val = some v →
    m.kind = .memRd → m.mv = .a → u = s.get (Fld.VPPB_SUBID_SUBID (s.upstreamVppb v)) → s.destOf v m.addr true = .home h i off →
    ruleGrants (s.bank (p.val / 16)) u 0 m.addr (Perm.r + Perm.cs) = false → Answers (.requestIngress p m) s fun t =>
    (∀ x ∈ t.fab.sw.waiting.drop s.fab.sw.waiting.length, x.dst = p.val ∧ x.kind.isAnswer = true ∧ x.tag = m.tag) ∧
    t.fab.sw.waiting.take s.fab.sw.waiting.length = s.fab.sw.waiting ∧ s.fab.sw.waiting.length < t.fab.sw.waiting.length ∧ t.get Evt.HAT_RULE_FAULT.field = 1 ∧
    t.counter (Ctr.SUB u 6) = s.counter (Ctr.SUB u 6) + 1 ∧ t.fab.home = s.fab.home ∧
    Frame [.fab, .ctrs, .out] [Field.all (Addr.ERR_FIRST_ADDR_LO 0x50), Field.all (Addr.ERR_FIRST_ADDR_LO 0x50 + 4), Field.all (Addr.ERR_FIRST_MASTER 0x50),
    Field.all (Addr.ERR_FIRST_ATYPE 0x50), Field.all (Addr.ERR_FIRST_TS_LO 0x50), Field.all (Addr.ERR_FIRST_TS_LO 0x50 + 4), Evt.HAT_RULE_FAULT.field] s t := by
  intro v u h i off ha hr hu hspoof hv hk hmv hsub hd hg
  subst hsub
  have hfx : (s.arrived p.val m).requestIn p.val (s.receivedMsg p.val m) = s.readRefused p.val v m { s.hostMsg p.val v m with mem := .hdmDB } := by
    rw [State.requestIn_read ha hr hu hk, hv]
    exact (State.hostMem_home hd).trans ((State.checked_read hk hmv _).trans ((if_neg (by rw [hg]; decide)).trans
      (State.failRule_read _ (v := v) hk (show p.val ≠ 66 by omega) rfl)))
  have hshown := State.shown_readRefused (v := v) m (n := { s.hostMsg p.val v m with mem := .hdmDB }) hrun p.isLt hk rfl
  refine answers_request hrun hup hlag hroom hptm (.inl ha) hspoof hfx (s.frame_readRefused p.val v m _) (by rw [State.dir_readRefused]) (by decide)
    ⟨hshown.answered.answers, hshown.answered.kept, hshown.answered.more, hshown.told, hshown.counter, hshown.home, hshown.frame⟩

/-- A read of an address that leads nowhere is one too. -/
theorem request_nowhere : ∀ v : Nat, ∀ u : Nat, s.isActive = true → s.role ≠ 8 → s.roleIs p.val 0 = true → s.spoofField p.val m = none → s.vcsOn p.val = some v → m.kind = .memRd → m.mv = .a →
    u = s.get (Fld.VPPB_SUBID_SUBID (s.upstreamVppb v)) → s.destOf v m.addr true = .nowhere → Answers (.requestIngress p m) s fun t =>
    (∀ x ∈ t.fab.sw.waiting.drop s.fab.sw.waiting.length, x.dst = p.val ∧ x.kind.isAnswer = true ∧ x.tag = m.tag) ∧ s.fab.sw.waiting.length < t.fab.sw.waiting.length ∧
    t.get Evt.HAT_RULE_FAULT.field = 1 ∧ Frame [.fab, .ctrs, .out] [Field.all (Addr.ERR_FIRST_ADDR_LO 0x50), Field.all (Addr.ERR_FIRST_ADDR_LO 0x50 + 4),
    Field.all (Addr.ERR_FIRST_MASTER 0x50), Field.all (Addr.ERR_FIRST_ATYPE 0x50), Field.all (Addr.ERR_FIRST_TS_LO 0x50), Field.all (Addr.ERR_FIRST_TS_LO 0x50 + 4),
    Evt.HAT_RULE_FAULT.field] s t := by
  intro v u ha hr hu hspoof hv hk _ _ hd
  have hfx : (s.arrived p.val m).requestIn p.val (s.receivedMsg p.val m) = s.readRefused p.val v m (s.hostMsg p.val v m) := by
    rw [State.requestIn_read ha hr hu hk, hv]
    exact (State.hostMem_nowhere hd).trans (State.failRule_read _ (v := v) hk (show p.val ≠ 66 by omega) rfl)
  have hshown := State.shown_readRefused (v := v) m (n := s.hostMsg p.val v m) hrun p.isLt hk rfl
  refine answers_request hrun hup hlag hroom hptm (.inl ha) hspoof hfx (s.frame_readRefused p.val v m _) (by rw [State.dir_readRefused]) (by decide)
    ⟨hshown.answered.answers, hshown.answered.more, hshown.told, hshown.frame⟩

/-- A read for a vPPB that does not forward is answered and counted. -/
theorem request_unbound : ∀ v : Nat, ∀ u : Nat, ∀ n : Nat, s.isActive = true → s.role ≠ 8 → s.roleIs p.val 0 = true → s.spoofField p.val m = none → s.vcsOn p.val = some v → m.kind = .memRd →
    m.mv = .a → u = s.get (Fld.VPPB_SUBID_SUBID (s.upstreamVppb v)) → s.destOf v m.addr true = .unbound n → Answers (.requestIngress p m) s fun t =>
    (∀ x ∈ t.fab.sw.waiting.drop s.fab.sw.waiting.length, x.dst = p.val ∧ x.kind.isAnswer = true ∧ x.tag = m.tag) ∧ s.fab.sw.waiting.length < t.fab.sw.waiting.length ∧
    t.get Evt.VCS_UNBOUND_ACCESS.field = 1 ∧ t.counter (Ctr.VPPB n 1) = s.counter (Ctr.VPPB n 1) + 1 ∧ Frame [.fab, .ctrs] [Evt.VCS_UNBOUND_ACCESS.field] s t := by
  intro v u n ha hr hu hspoof hv hk _ _ hd
  obtain ⟨hmgmt, hheld, -⟩ := State.fabricRuns_iff.mp hrun
  have hsrc : (s.hostMsg p.val v m).src ≠ 66 := show p.val ≠ 66 by omega
  have hfx : (s.arrived p.val m).requestIn p.val (s.receivedMsg p.val m) =
      (((s.arrived p.val m).raise Evt.VCS_UNBOUND_ACCESS).count (Ctr.VPPB n 1)).flushedQueued (s.hostMsg p.val v m) := by
    rw [State.requestIn_read ha hr hu hk, hv]
    exact (State.hostMem_unbound hd).trans (State.queueFlushed _ hk hsrc)
  have hx : Frame [.fab, .ctrs] [Evt.VCS_UNBOUND_ACCESS.field] s
      ((((s.arrived p.val m).raise Evt.VCS_UNBOUND_ACCESS).count (Ctr.VPPB n 1)).flushedQueued (s.hostMsg p.val v m)) :=
    ((((Frame.begin s).andCount _ _).andRaise).andCount _ _).andFlushedQueued _
  have hans := State.answered_flushed (s := s) (t := ((s.arrived p.val m).raise Evt.VCS_UNBOUND_ACCESS).count (Ctr.VPPB n 1)) (m := s.hostMsg p.val v m) hk hsrc
    (by rw [State.count_fab, State.raise_fab]; rfl)
  refine answers_request hrun hup hlag hroom hptm (.inl ha) hspoof hfx hx ?_ (by decide) ⟨hans.answers, hans.more, ?_, ?_, hx.settle⟩
  · rw [show ((((s.arrived p.val m).raise Evt.VCS_UNBOUND_ACCESS).count (Ctr.VPPB n 1)).flushedQueued (s.hostMsg p.val v m)).fab.home =
      (((s.arrived p.val m).raise Evt.VCS_UNBOUND_ACCESS).count (Ctr.VPPB n 1)).fab.home from rfl, State.count_fab, State.raise_fab]
    rfl
  · rw [State.get_settle _ (by decide), State.get_flushedQueued, State.get_count]
    exact State.get_raise_fabric hmgmt hheld rfl (by decide) (by decide)
  · rw [State.counter_settle, State.counter_flushedQueued, State.counter_count_same, State.counter_raise, State.arrived, State.counter_count_other _ _ (by simp only [Ctr.VPPB, Ctr.PORT, perfAddr]; omega)]
    rfl

/-- A read at a port without a VCS is answered and counted. -/
theorem request_noVcs : s.isActive = true → s.roleIs p.val 0 = true → s.role ≠ 8 → s.spoofField p.val m = none → s.vcsOn p.val = none → m.kind = .memRd → Answers (.requestIngress p m) s fun t =>
    t.counter (Ctr.PORT p.val 29) = s.counter (Ctr.PORT p.val 29) + 1 ∧ (∀ x ∈ t.fab.sw.waiting.drop s.fab.sw.waiting.length, x.dst = p.val ∧ x.kind.isAnswer = true ∧
    x.tag = m.tag) ∧ Frame [.fab, .ctrs] [] s t := by
  intro ha hu hr hspoof hv hk
  have hsrc : (s.takenMsg p.val m).src ≠ 66 := show p.val ≠ 66 by omega
  have hfx : (s.arrived p.val m).requestIn p.val (s.receivedMsg p.val m) = ((s.arrived p.val m).count (Ctr.PORT p.val 29)).flushedQueued (s.takenMsg p.val m) := by
    rw [State.requestIn_read ha hr hu hk, hv]
    exact State.queueFlushed _ hk hsrc
  have hx : Frame [.fab, .ctrs] [] s (((s.arrived p.val m).count (Ctr.PORT p.val 29)).flushedQueued (s.takenMsg p.val m)) :=
    (((Frame.begin s).andCount _ _).andCount _ _).andFlushedQueued _
  have hans := State.answered_flushed (s := s) (t := (s.arrived p.val m).count (Ctr.PORT p.val 29)) (m := s.takenMsg p.val m) hk hsrc rfl
  refine answers_request hrun hup hlag hroom hptm (.inl ha) hspoof hfx hx rfl (by simp) ⟨?_, hans.answers, hx.settle⟩
  rw [State.counter_settle, State.counter_flushedQueued, State.counter_count_same, State.arrived, State.counter_count_other _ _ (by simp only [Ctr.PORT, perfAddr]; omega)]
  rfl

/-- The last answer that a slot expects goes to the requester and frees the slot. -/
theorem answer_last : ∀ k : Nat, ∀ e : TSlot, s.isActive = true → s.roleIs p.val 0 = false → s.roleIs p.val 2 = false → s.spoofField p.val m = none → m.kind = .memData →
    s.isWindowTarget p.val m.ld = false → s.tagSlot p.val 0 m.tag = k → assoc (s.slots p.val 0) k = some e → m.tag = s.trackTag p.val 0 e.gen k → e.stale = false →
    e.vppb < 4096 → s.vppbGen e.vppb = e.gen → e.owesData = true → e.owesNdr = false → m.final = true → m.spid = none → m.dpid = none → Answers (.answerReceive p m) s fun t =>
    assoc (t.slots p.val 0) k = none ∧ t.fab.sw.waiting.dropLast = s.fab.sw.waiting ∧ t.fab.sw.waiting.getLast?.map (fun x =>
    (x.kind, x.dst, x.tag, x.sub, x.data)) = some (.memData, e.msg.src, e.msg.tag, e.msg.sub, m.data) ∧ Frame [.fab, .ctrs, .free] [] s t := by
  intro k e ha h0 h2 hspoof hk hw hslot he htag hstale _ hgen _ hndr hfinal _ _
  have hfx : (s.arrived p.val m).answerIn p.val (s.receivedMsg p.val m) = (s.arrived p.val m).slotAnswered p.val k e (s.receivedMsg p.val m) :=
    (State.answerIn_device h2 h0 hk hw).trans (State.checkAnswer_last hslot he htag hstale hgen hndr hk hfinal)
  have hx : Frame [.fab, .ctrs, .free] [] s ((s.arrived p.val m).slotAnswered p.val k e (s.receivedMsg p.val m)) :=
    (((Frame.begin s).andCount _ _).andModSw _).andModSw _
  have hwait : ((s.arrived p.val m).slotAnswered p.val k e (s.receivedMsg p.val m)).settle.fab.sw.waiting =
      s.fab.sw.waiting ++ [{ (s.arrived p.val m).delivered p.val e (s.receivedMsg p.val m) with svc := m.kind.service }] := by
    rw [State.settle_fab]
    rfl
  refine answers_answer hrun hup hlag hroom hptm ha (by rw [hk]; rfl) hspoof hfx hx rfl (by simp) ⟨?_, ?_, ?_, hx.settle⟩
  · have hslots : ((s.arrived p.val m).slotAnswered p.val k e (s.receivedMsg p.val m)).settle.slots p.val 0 = assocDel (s.slots p.val 0) k := by
      rw [State.slots, State.settle_fab]
      exact mget_mput_same _ _ _ _
    rw [hslots, assoc_assocDel_same]
  · rw [hwait, List.dropLast_concat]
  · rw [hwait, List.getLast?_concat]
    exact congrArg some (congrArg (·, e.msg.src, e.msg.tag, e.msg.sub, m.data) hk)

/-- An answer that its slot does not expect is discarded and raised. -/
theorem answer_late : ∀ k : Nat, ∀ e : TSlot, s.isActive = true → s.roleIs p.val 0 = false → s.roleIs p.val 2 = false → s.spoofField p.val m = none → m.kind = .memData →
    s.isWindowTarget p.val m.ld = false → s.tagSlot p.val 0 m.tag = k → assoc (s.slots p.val 0) k = some e → (e.stale = true ∨ s.vppbGen e.vppb ≠ e.gen) → e.vppb < 4096 →
    Answers (.answerReceive p m) s fun t => t.fab = s.fab ∧ t.get Evt.VCS_GEN_DISCARD.field = 1 ∧ t.counter (Ctr.VPPB e.vppb 0) = s.counter (Ctr.VPPB e.vppb 0) + 1 ∧
    Frame [.ctrs] [Evt.VCS_GEN_DISCARD.field] s t := by
  intro k e ha h0 h2 hspoof hk hw hslot he hlate hv
  obtain ⟨hmgmt, hheld, -⟩ := State.fabricRuns_iff.mp hrun
  have hfx : (s.arrived p.val m).answerIn p.val (s.receivedMsg p.val m) = ((s.arrived p.val m).count (Ctr.VPPB e.vppb 0)).raise Evt.VCS_GEN_DISCARD :=
    (State.answerIn_device h2 h0 hk hw).trans (State.checkAnswer_late hslot he hlate hv)
  have hx : Frame [.ctrs] [Evt.VCS_GEN_DISCARD.field] s (((s.arrived p.val m).count (Ctr.VPPB e.vppb 0)).raise Evt.VCS_GEN_DISCARD) :=
    (((Frame.begin s).andCount _ _).andCount _ _).andRaise
  refine answers_answer hrun hup hlag hroom hptm ha (by rw [hk]; rfl) hspoof hfx hx (hx.home_dir (by decide)) (by decide) ⟨?_, ?_, ?_, hx.settle⟩
  · rw [State.settle_fab, State.raise_fab]
    rfl
  · rw [State.get_settle _ (by decide)]
    exact State.get_raise_fabric hmgmt hheld rfl (by decide) (by decide)
  · rw [State.counter_settle, State.counter_raise, State.counter_count_same, State.arrived, State.counter_count_other _ _ (by simp only [Ctr.VPPB, Ctr.PORT, perfAddr]; omega)]
    rfl

end

/-- Settles O46: each message goes where its checks lead it. -/
theorem ingressChecks : Obligations.IngressChecks := by
  unfold Obligations.IngressChecks
  exact fun s p m hrun hup hlag hroom hptm =>
    ⟨request_spoofed hrun hup hlag hroom hptm, answer_spoofed hrun hup hlag hroom hptm, request_passive hrun hup hlag hroom hptm, answer_passive hrun hup hlag hroom hptm,
      request_home hrun hup hlag hroom hptm, request_refused hrun hup hlag hroom hptm, request_nowhere hrun hup hlag hroom hptm, request_unbound hrun hup hlag hroom hptm,
      request_noVcs hrun hup hlag hroom hptm, answer_last hrun hup hlag hroom hptm, answer_late hrun hup hlag hroom hptm⟩

end Sys2Proof.Machine
end

section
/-! PROOFS. Counters, snapshots, samplers and the telemetry ring (O19, R420 to R429). -/
namespace Sys2Proof.Machine
open Sys2Proof
set_option Elab.async false

/-! ### 64-bit registers -/

theorem State.get64_put64 (s : State) (a v : Nat) : (s.put64 a v).get64 a = v % 2 ^ 64 := by
  rw [State.get64, State.put64, State.word_setWord_other _ _ (by omega), State.word_setWord_same, State.word_setWord_same, BitVec.toNat_ofNat, BitVec.toNat_ofNat]
  omega

theorem State.get64_settle (s : State) {a : Nat} (h : 0x40040 < a) : s.settle.get64 a = s.get64 a := by
  rw [State.get64, State.get64, State.word_settle _ (by omega), State.word_settle _ (by omega)]

theorem State.get64_lt (s : State) (a : Nat) : s.get64 a < 2 ^ 64 := by
  have h1 := (s.word a).isLt
  have h2 := (s.word (a + 4)).isLt
  rw [State.get64]
  omega

theorem State.liveCounter_lt (s : State) (g c : Nat) : s.liveCounter g c < 2 ^ 64 := by
  unfold State.liveCounter
  split
  · exact BitVec.isLt _
  · decide

theorem State.liveCounter_begin (s : State) (g c : Nat) : s.begin.liveCounter g c = s.liveCounter g c := rfl

/-- The registers of the PERF pages are of no mirrored region. -/
theorem regionOf_perf {a : Nat} (h : 0xA0000 ≤ a ∧ a < 0xB0000) : regionOf a = none := regionOf_page (by omega)

/-! ### Snapshots (R420) -/

/-- The registers of a snapshot started. -/
def State.snapWritten (s : State) (k first last : Nat) : State :=
  (((s.put (Fld.PERF_SNAP_CTL_FIRST k) first).put (Fld.PERF_SNAP_CTL_LAST k) last).put (Fld.PERF_SNAP_CTL_BUSY k) 1).put64 (Addr.PERF_SNAP_TS_LO k) s.now

/-- The counters of the pages first to last at this instant. -/
def State.snapOf (s : State) (first last : Nat) : Snap :=
  ⟨first, last, s.now, s.ctrs.filter fun e => decide (0x800 + first ≤ e.1 / 0x10000) && decide (e.1 / 0x10000 ≤ 0x800 + last)⟩

/-- A snapshot of the pages first to last taken in slot k. -/
def State.snapTaken (s : State) (k first last : Nat) : State :=
  { s.snapWritten k first last with perf := { s.perf with snaps := assocPut s.perf.snaps k (s.snapOf first last) } }

theorem State.regs_snapTaken (s : State) (k first last : Nat) : (s.snapTaken k first last).regs = (s.snapWritten k first last).regs := rfl

theorem State.busy_snapTaken (s : State) (k first last : Nat) : (s.snapTaken k first last).get (Fld.PERF_SNAP_CTL_BUSY k) = 1 := by
  rw [State.get_congr (s.regs_snapTaken k first last), State.snapWritten, State.get_put64_other, State.get_put_fits _ (Field.fits_of rfl)]
  all_goals
    simp only [Fld.PERF_SNAP_CTL_BUSY, Addr.PERF_SNAP_CTL, Addr.PERF_SNAP_TS_LO]
    omega

theorem State.time_snapTaken (s : State) (k first last : Nat) : (s.snapTaken k first last).get64 (Addr.PERF_SNAP_TS_LO k) = s.now % 2 ^ 64 := by
  rw [State.get64_congr (s.regs_snapTaken k first last), State.snapWritten, State.get64_put64]

theorem State.snaps_snapTaken (s : State) (k first last : Nat) : assoc (s.snapTaken k first last).perf.snaps k = some (s.snapOf first last) := assoc_assocPut_same _ _ _

theorem State.writeSnapCtl_take {s : State} {k v : Nat} (h16 : bitsOf v 16 1 = 1) (hbusy : s.flag (Fld.PERF_SNAP_CTL_BUSY k) = false) (hle : bitsOf v 0 8 ≤ bitsOf v 8 8) :
    s.writeSnapCtl k v = s.snapTaken k (bitsOf v 0 8) (bitsOf v 8 8) := by
  unfold State.writeSnapCtl
  dsimp only
  rw [if_neg (by rw [h16]; decide), if_neg (by rw [hbusy]; simpa using hle)]
  simp only [State.puts, List.foldl_cons, List.foldl_nil, State.snapTaken, State.snapWritten, State.snapOf, State.put64_ctrs, State.put_ctrs, State.put64_perf, State.put_perf, State.now, State.put_clk, State.put64_clk]

theorem Frame.andSnapTaken {ps : List Part} {fs : List Field} {s t : State} (h : Frame ps fs s t) (k first last : Nat) (hp : Part.perf ∈ ps := by simp)
    (h1 : Fld.PERF_SNAP_CTL_FIRST k ∈ fs := by simp) (h2 : Fld.PERF_SNAP_CTL_LAST k ∈ fs := by simp) (h3 : Fld.PERF_SNAP_CTL_BUSY k ∈ fs := by simp)
    (h4 : Field.all (Addr.PERF_SNAP_TS_LO k) ∈ fs := by simp) (h5 : Field.all (Addr.PERF_SNAP_TS_LO k + 4) ∈ fs := by simp) : Frame ps fs s (t.snapTaken k first last) :=
  ((((h.andPut _ h1).andPut _ h2).andPut _ h3).andPut64 _ h4 h5).andPerf _ hp

/-! ### Overflow samplers (R423) -/

/-- A sampler that has fired: the value taken, the threshold moved on. -/
def State.sampleTaken (s : State) (k : Nat) : State :=
  ((s.raise (Evt.PERF_SAMPLE k)).put64 (Addr.PERF_OVF_VAL_LO k) (s.liveCounter (s.get (Fld.PERF_OVF_SEL_PAGE k)) (s.get (Fld.PERF_OVF_SEL_INDEX k)))).put64
    (Addr.PERF_OVF_THR_LO k) (s.get64 (Addr.PERF_OVF_THR_LO k) + s.get64 (Addr.PERF_OVF_PERIOD_LO k))

/-- A sampler disarmed where its period is 0. -/
def State.disarmedIf (s : State) (period k : Nat) : State := if period = 0 then { s with perf := { s.perf with disarmed := k :: s.perf.disarmed } } else s

theorem State.disarmedIf_regs (s : State) (period k : Nat) : (s.disarmedIf period k).regs = s.regs := by
  unfold State.disarmedIf
  split <;> rfl

theorem Frame.andDisarmedIf {ps : List Part} {fs : List Field} {s t : State} (h : Frame ps fs s t) (period k : Nat) (hp : Part.perf ∈ ps := by simp) :
    Frame ps fs s (t.disarmedIf period k) := Frame.ite (h.andPerf _ hp) h

/-! ### Histograms (R424) -/

theorem latencyBin_lt (base shift l : Nat) : latencyBin base shift l < 32 := by
  unfold latencyBin
  split <;> omega

theorem State.histMatches_congr {s t : State} {h : Nat} (hw : t.word (Addr.PERF_HIST_CFG h) = s.word (Addr.PERF_HIST_CFG h)) (x : LatSample) : t.histMatches h x = s.histMatches h x := by
  have hget : ∀ lo w, t.get ⟨Addr.PERF_HIST_CFG h, lo, w⟩ = s.get ⟨Addr.PERF_HIST_CFG h, lo, w⟩ := fun lo w => State.get_of_word hw
  simp only [State.histMatches, State.flag, Fld.PERF_HIST_CFG_EN, Fld.PERF_HIST_CFG_IN_ANY, Fld.PERF_HIST_CFG_IN_PORT, Fld.PERF_HIST_CFG_OUT_ANY, Fld.PERF_HIST_CFG_OUT_PORT,
    Fld.PERF_HIST_CFG_SVC, hget]

/-- What one sample changes in histogram h, as far as the other histograms see it. -/
structure State.HistStep (s t : State) (h : Nat) (x : LatSample) : Prop where
  word : ∀ a, a ≠ Addr.PERF_HIST_MAX h → t.word a = s.word a
  max : s.histMatches h x = false → t.word (Addr.PERF_HIST_MAX h) = s.word (Addr.PERF_HIST_MAX h)
  counter : ∀ j < 64, t.counter (Ctr.HSTAT j 0) = s.counter (Ctr.HSTAT j 0) + (if j = h ∧ s.histMatches h x = true then 1 else 0)

theorem State.histStep {s : State} {h : Nat} {x : LatSample} (hh : h < 64) (hx : x.skipped = false) : s.HistStep (s.histAdd h x) h x := by
  unfold State.histAdd
  cases hm : s.histMatches h x
  · rw [Bool.not_false, if_pos rfl]
    exact ⟨fun _ _ => rfl, fun _ => rfl, fun j _ => by simp [hm]⟩
  · rw [hx]
    simp only [Bool.not_true, Bool.false_eq_true, if_false]
    generalize (if s.flag (Fld.PERF_HIST_CFG_MODE h) = true then x.roundTrip else x.oneWay) = l
    have hbin := latencyBin_lt (s.get (Fld.PERF_HIST_BASE_BASE h)) (s.get (Fld.PERF_HIST_CFG_SHIFT h)) l
    generalize latencyBin (s.get (Fld.PERF_HIST_BASE_BASE h)) (s.get (Fld.PERF_HIST_CFG_SHIFT h)) l = b at hbin ⊢
    refine ⟨fun a ha => ?_, fun h0 => ?_, fun j hj => ?_⟩
    · rw [State.word_put_other _ _ ha, State.word_count, State.word_count, State.word_count]
    · rw [hm] at h0
      exact nomatch h0
    · rw [State.counter_put, State.counter_count_other _ _ (by simp only [Ctr.HSTAT, perfAddr]; omega)]
      by_cases hjh : j = h
      · rw [if_pos ⟨hjh, hm⟩, hjh, State.counter_count_same, State.counter_count_other _ _ (by simp only [Ctr.HSTAT, Ctr.HIST, perfAddr]; omega)]
        rfl
      · rw [if_neg fun hn => hjh hn.1, State.counter_count_other _ _ (by simp only [Ctr.HSTAT, perfAddr]; omega),
          State.counter_count_other _ _ (by simp only [Ctr.HSTAT, Ctr.HIST, perfAddr]; omega)]
        simp

/-- Each histogram that a sample matches counts it once. -/
theorem State.counter_histAll {x : LatSample} (hx : x.skipped = false) {j : Nat} (hj : j < 64) : ∀ (l : List Nat) (s : State), l.Nodup → (∀ h ∈ l, h < 64) →
    (l.foldl (fun s h => s.histAdd h x) s).counter (Ctr.HSTAT j 0) = s.counter (Ctr.HSTAT j 0) + (if j ∈ l ∧ s.histMatches j x = true then 1 else 0)
  | [], s, _, _ => by simp
  | h :: l, s, hn, hl => by
    obtain ⟨hnot, hnl⟩ := List.nodup_cons.mp hn
    have hstep := State.histStep (s := s) (hl h List.mem_cons_self) hx
    have hmatch : (s.histAdd h x).histMatches j x = s.histMatches j x :=
      State.histMatches_congr (hstep.word _ (by simp only [Addr.PERF_HIST_CFG, Addr.PERF_HIST_MAX]; omega)) x
    rw [List.foldl_cons, State.counter_histAll hx hj l _ hnl fun k hk => hl k (List.mem_cons_of_mem _ hk), hstep.counter j hj, hmatch]
    by_cases hjh : j = h
    · subst hjh
      simp [hnot]
    · simp [hjh]

theorem State.max_histAll {x : LatSample} (hx : x.skipped = false) {j : Nat} : ∀ (l : List Nat) (s : State), (∀ h ∈ l, h < 64) → s.histMatches j x = false →
    (l.foldl (fun s h => s.histAdd h x) s).word (Addr.PERF_HIST_MAX j) = s.word (Addr.PERF_HIST_MAX j)
  | [], _, _, _ => rfl
  | h :: l, s, hl, hm => by
    have hstep := State.histStep (s := s) (hl h List.mem_cons_self) hx
    have hmatch : (s.histAdd h x).histMatches j x = s.histMatches j x :=
      State.histMatches_congr (hstep.word _ (by simp only [Addr.PERF_HIST_CFG, Addr.PERF_HIST_MAX]; omega)) x
    rw [List.foldl_cons, State.max_histAll hx l _ (fun k hk => hl k (List.mem_cons_of_mem _ hk)) (hmatch.trans hm)]
    by_cases hjh : j = h
    · rw [hjh] at hm ⊢
      exact hstep.max hm
    · exact hstep.word _ (by simp only [Addr.PERF_HIST_MAX]; omega)

/-! ### The staging buffer (R426) -/

/-- The state with records staged. -/
def State.staged (s : State) (l : List TelRecord) : State := { s with fab := { s.fab with stage := s.fab.stage ++ l } }

theorem State.staged_staged (s : State) (l l' : List TelRecord) : (s.staged l).staged l' = s.staged (l ++ l') := by simp [State.staged]
theorem State.staged_nil (s : State) : s.staged [] = s := by simp [State.staged]
theorem State.stage_staged (s : State) (l : List TelRecord) : (s.staged l).fab.stage = s.fab.stage ++ l := rfl
theorem Frame.andStaged {ps : List Part} {fs : List Field} {s t : State} (h : Frame ps fs s t) (l : List TelRecord) (hp : Part.fab ∈ ps := by simp) : Frame ps fs s (t.staged l) :=
  h.fab _ rfl rfl hp

/-- What staging a record can do. -/
theorem State.stageRecord_cases (s : State) (r : TelRecord) : s.stageRecord r = s ∨ s.stageRecord r = (s.addSat Fld.PERF_RING_DROP_COUNT 1).raise Evt.PERF_RING_DROP ∨
    s.stageRecord r = s.staged [r] := by
  unfold State.stageRecord
  split
  · exact .inl rfl
  · split
    · exact .inr (.inl rfl)
    · exact .inr (.inr rfl)

theorem State.stageRecord_room {s : State} {r : TelRecord} (hen : s.flag Fld.PERF_RING_CFG_EN = true) (hheld : s.clk.fabricHeld = false) (hroom : s.fab.stage.length < 1024) :
    s.stageRecord r = s.staged [r] := by
  rw [State.stageRecord, hen, hheld]
  exact (if_neg (by decide)).trans (if_neg (by omega))

theorem State.stageRecord_full {s : State} {r : TelRecord} (hen : s.flag Fld.PERF_RING_CFG_EN = true) (hheld : s.clk.fabricHeld = false) (hfull : 1024 ≤ s.fab.stage.length) :
    s.stageRecord r = (s.addSat Fld.PERF_RING_DROP_COUNT 1).raise Evt.PERF_RING_DROP := by
  rw [State.stageRecord, hen, hheld]
  exact (if_neg (by decide)).trans (if_pos hfull)

theorem State.counter_stageRecord (s : State) (r : TelRecord) (c : Nat) : (s.stageRecord r).counter c = s.counter c := by
  rcases s.stageRecord_cases r with h | h | h <;> rw [h]
  · rw [State.counter_raise, State.addSat, State.counter_put]
  · rfl

theorem State.get_stageRecord (s : State) (r : TelRecord) {g : Field} (h1 : g.clearOf Fld.PERF_RING_DROP_COUNT = true) (h2 : g.clearOf Evt.PERF_RING_DROP.field = true) :
    (s.stageRecord r).get g = s.get g := by
  rcases s.stageRecord_cases r with h | h | h <;> rw [h]
  · rw [State.get_raise_clear _ h2, State.addSat, State.get_put_clear _ _ h1]
  · rfl

/-- Records that fit are staged in order. -/
theorem State.stageAll : ∀ (l : List TelRecord) (s : State), s.flag Fld.PERF_RING_CFG_EN = true → s.clk.fabricHeld = false → s.fab.stage.length + l.length ≤ 1024 →
    l.foldl State.stageRecord s = s.staged l
  | [], s, _, _, _ => s.staged_nil.symm
  | r :: l, s, hen, hheld, hroom => by
    rw [List.length_cons] at hroom
    rw [List.foldl_cons, State.stageRecord_room hen hheld (by omega), State.stageAll l (s.staged [r]) hen hheld (by rw [State.stage_staged]; simp; omega), State.staged_staged]
    rfl

/-! ### The export of counters (R427) -/

/-- The last of the numbers below n that a predicate holds of. -/
theorem getLast?_filter_range {n j : Nat} {q : Nat → Bool} (hj : j < n) (hq : q j = true) (hlast : ∀ i, j < i → i < n → q i = false) : ((List.range n).filter q).getLast? = some j := by
  obtain ⟨d, rfl⟩ : ∃ d, n = (j + 1) + d := ⟨n - (j + 1), by omega⟩
  rw [List.range_add, List.filter_append, List.range_succ, List.filter_append]
  have hrest : ((List.range d).map (j + 1 + ·)).filter q = [] := by
    refine List.filter_eq_nil_iff.mpr fun i hi => ?_
    obtain ⟨k, hk, rfl⟩ := List.mem_map.mp hi
    rw [hlast _ (by omega) (by have := List.mem_range.mp hk; omega)]
    decide
  have hone : [j].filter q = [j] := by simp [hq]
  rw [hrest, List.append_nil, hone, List.getLast?_concat]

/-! ### The window of the ring (R428) -/

/-- The words of the window written. -/
def State.windowWritten (s : State) (l : List (Nat × Nat)) : State := s.puts (l.map fun e => (Fld.PERF_RING_WIN_WORD e.1, e.2))

theorem State.get_windowWritten (s : State) (l : List (Nat × Nat)) {g : Field} (hw : g.lo + g.width ≤ 32) (h : g.addr < 0xAA000) : (s.windowWritten l).get g = s.get g := by
  refine State.get_puts_clear _ s (List.all_eq_true.mpr fun e he => ?_)
  obtain ⟨x, -, rfl⟩ := List.mem_map.mp he
  exact Field.clearOf_of_addr hw (by simp only [Fld.PERF_RING_WIN_WORD, Addr.PERF_RING_WIN]; omega)

/-- A read position that has been overwritten moved on to the oldest record held. -/
def State.lostTold (s : State) (lost oldest : Nat) : State :=
  if lost = 0 then s else ((s.put Fld.PERF_RING_RD_SEQ oldest).addSat Fld.PERF_RING_LOST_COUNT lost).raise Evt.PERF_RING_LOST

theorem State.lostTold_perf (s : State) (lost oldest : Nat) : (s.lostTold lost oldest).perf = s.perf ∧ (s.lostTold lost oldest).clk = s.clk := by
  unfold State.lostTold
  split
  · exact ⟨rfl, rfl⟩
  · exact ⟨by rw [State.raise_perf, State.addSat_perf, State.put_perf], by rw [State.raise_clk, State.addSat_clk, State.put_clk]⟩

/-- A window fetched. -/
def State.windowReady (s : State) (l : List (Nat × Nat)) : State :=
  (({ s.windowWritten l with perf := { (s.windowWritten l).perf with fetching := false } } : State).put Fld.PERF_RING_STATUS_WIN_READY 1).raise Evt.PERF_WIN_READY

theorem State.regs_writeRingRd (s : State) (v : Nat) : (s.writeRingRd v).regs = ((s.put Fld.PERF_RING_RD_SEQ v).put Fld.PERF_RING_STATUS_WIN_READY 0).regs := rfl

/-- The oldest record the ring holds, and how many have been lost before it (R428). -/
def State.ringOldest (s : State) : Nat := max 1 (s.get Fld.PERF_RING_WR_SEQ + 1 - s.ringCapacity)
def State.ringLost (s : State) : Nat := if 1 < s.ringOldest then s.ringOldest - s.get Fld.PERF_RING_RD_SEQ else 0

/-- The words of the window from a record on. -/
def State.windowWords (s : State) (rd oldest last : Nat) : List (Nat × Nat) := (List.range 1024).zip ((List.range 64).flatMap fun i => s.ringRecord (rd + i) oldest last)

theorem State.execWinReady {s : State} (h : s.perf.fetching = true) (hup : s.clk.mgmtUp = true) :
    ∃ l, exec .perfRingWinReady s = done ((s.begin.lostTold s.begin.ringLost s.begin.ringOldest).windowReady l) := by
  refine ⟨(s.begin.lostTold s.begin.ringLost s.begin.ringOldest).windowWords (if s.begin.ringLost = 0 then s.begin.get Fld.PERF_RING_RD_SEQ else s.begin.ringOldest) s.begin.ringOldest
    (s.begin.get Fld.PERF_RING_WR_SEQ), ?_⟩
  refine (done_whenMgmt _ hup).trans (congrArg done ?_)
  rw [if_neg (by rw [show s.begin.perf.fetching = true from h]; decide)]
  unfold State.windowReady State.windowWritten State.puts State.windowWords
  rw [List.foldl_map]
  generalize List.range 1024 = numbers
  rfl

/-! ### The clauses -/

section
variable {s : State}

/-- A snapshot copies the counters of its pages at one instant and is BUSY. -/
theorem snapTake_copies : ∀ m : Master, ∀ k : Fin 4, ∀ value : Word, s.takes m 0x0A = true → value.getLsbD 16 = true → s.flag (Fld.PERF_SNAP_CTL_BUSY k.val) = false →
    bitsOf value.toNat 0 8 ≤ bitsOf value.toNat 8 8 → Answers (.perfSnapTake m k value) s fun t => t.flag (Fld.PERF_SNAP_CTL_BUSY k.val) = true ∧
    t.get64 (Addr.PERF_SNAP_TS_LO k.val) = s.now % 2 ^ 64 ∧ assoc t.perf.snaps k.val = some ⟨(bitsOf value.toNat 0 8), (bitsOf value.toNat 8 8), s.now, s.ctrs.filter fun e =>
    decide (0x800 + (bitsOf value.toNat 0 8) ≤ e.1 / 0x10000) && decide (e.1 / 0x10000 ≤ 0x800 + (bitsOf value.toNat 8 8))⟩ ∧
    Frame [.perf] [Fld.PERF_SNAP_CTL_FIRST k.val, Fld.PERF_SNAP_CTL_LAST k.val, Fld.PERF_SNAP_CTL_BUSY k.val, Field.all (Addr.PERF_SNAP_TS_LO k.val),
    Field.all (Addr.PERF_SNAP_TS_LO k.val + 4)] s t := by
  intro m k value htk h16 hbusy hle
  have hx : Frame [.perf] [Fld.PERF_SNAP_CTL_FIRST k.val, Fld.PERF_SNAP_CTL_LAST k.val, Fld.PERF_SNAP_CTL_BUSY k.val, Field.all (Addr.PERF_SNAP_TS_LO k.val),
      Field.all (Addr.PERF_SNAP_TS_LO k.val + 4)] s (s.begin.snapTaken k.val (bitsOf value.toNat 0 8) (bitsOf value.toNat 8 8)) := (Frame.begin s).andSnapTaken _ _ _
  refine answers_guard rfl htk (State.writeSnapCtl_take (s := s.begin) (bitsOf_one_of_getLsbD h16) hbusy hle) hx (hx.home_dir (by decide)) ?_ fun hfr => ⟨?_, ?_, ?_, hfr⟩
  · intro g hg
    simp only [List.mem_cons, List.not_mem_nil, or_false] at hg
    rcases hg with rfl | rfl | rfl | rfl | rfl
    all_goals
      refine regionOf_perf ?_
      simp only [Fld.PERF_SNAP_CTL_FIRST, Fld.PERF_SNAP_CTL_LAST, Fld.PERF_SNAP_CTL_BUSY, Field.all, Addr.PERF_SNAP_CTL, Addr.PERF_SNAP_TS_LO]
      omega
  · rw [State.flag, State.get_settle _ (by simp only [Fld.PERF_SNAP_CTL_BUSY, Addr.PERF_SNAP_CTL]; omega)]
    exact beq_iff_eq.mpr (State.busy_snapTaken _ _ _ _)
  · rw [State.get64_settle _ (by simp only [Addr.PERF_SNAP_TS_LO]; omega)]
    exact State.time_snapTaken _ _ _ _
  · rw [State.settle_perf]
    exact State.snaps_snapTaken _ _ _ _

/-- It ends with its event. -/
theorem snapDone_shown : ∀ k : Fin 4, s.clk.mgmtUp = true → s.flag (Fld.PERF_SNAP_CTL_BUSY k.val) = true → Answers (.perfSnapDone k) s fun t => t.flag (Fld.PERF_SNAP_CTL_BUSY k.val) = false ∧
    t.flag (Fld.PERF_SNAP_CTL_VALID k.val) = true ∧ t.get Evt.PERF_SNAP_DONE.field = 1 ∧
    Frame [] [Fld.PERF_SNAP_CTL_BUSY k.val, Fld.PERF_SNAP_CTL_VALID k.val, Evt.PERF_SNAP_DONE.field] s t := by
  intro k hup hbusy
  have hctl : ∀ g : Field, g.addr = Addr.PERF_SNAP_CTL k.val → g.lo + g.width ≤ 32 → ∀ u : State, (u.raise Evt.PERF_SNAP_DONE).settle.get g = u.get g := fun g hg hw u => by
    rw [State.get_settle _ (by rw [hg]; simp only [Addr.PERF_SNAP_CTL]; omega),
      State.get_raise_clear _ (Field.clearOf_of_addr hw (by rw [hg]; simp only [Addr.PERF_SNAP_CTL, Event.field, Evt.PERF_SNAP_DONE, evtPendAddr]; omega))]
  refine answers_mgmt rfl hup (x := ((s.begin.put (Fld.PERF_SNAP_CTL_BUSY k.val) 0).put (Fld.PERF_SNAP_CTL_VALID k.val) 1).raise Evt.PERF_SNAP_DONE) (if_pos hbusy)
    ⟨?_, ?_, ?_, ((((Frame.begin s).andPut _).andPut _).andRaise).settle⟩
  · rw [State.flag, hctl _ rfl (show 17 + 1 ≤ 32 by decide), 
      State.get_put_clear (f := Fld.PERF_SNAP_CTL_VALID k.val) _ _ (Field.clearOf_of_base (b := Addr.PERF_SNAP_CTL k.val) (x := 0) (y := 0) rfl rfl rfl),
      State.get_put_fits _ (Field.fits_of rfl)]
    rfl
  · rw [State.flag, hctl _ rfl (show 18 + 1 ≤ 32 by decide), State.get_put_fits _ (Field.fits_of rfl)]
    rfl
  · rw [State.get_settle _ (by decide)]
    exact State.get_raise_mgmt (by rw [State.put_clk, State.put_clk]; exact hup) rfl (by decide) (by decide)

/-- A host reads its counters where its VCS is enabled for it, and zero else. -/
theorem userRead_answers : ∀ v : Vcs, ∀ off : Nat, s.clk.mgmtUp = true → s.userReached v.val = true → off % 8 = 0 → Answers (.userCounterRead v off 8) s fun t =>
    t.out = [.userRead v.val (if bitsOf (s.get64 Addr.PERF_CNT_USER_EN_LO) v.val 1 = 1 then s.begin.userValue v.val off else 0)] ∧ Frame [.out] [] s t := by
  intro v off hup hreach hoff
  have hexec : exec (.userCounterRead v off 8) s = done (s.begin.emit (.userRead v.val (if (bitsOf (s.begin.get64 Addr.PERF_CNT_USER_EN_LO) v.val 1 == 1 && s.begin.clk.mgmtUp) = true
      then s.begin.userValue v.val off else 0))) := by
    refine congrArg done ((if_neg ?_).trans (if_pos (by simp [hoff])))
    rw [show s.begin.userReached v.val = true from hreach]
    decide
  refine answers_done hexec ⟨?_, ((Frame.begin s).andEmit _).settle⟩
  rw [State.settle_out, State.emit_out, show s.begin.clk.mgmtUp = true from hup, Bool.and_true, State.get64_congr (State.begin_regs s)]
  simp only [State.begin_out, List.nil_append, beq_iff_eq]

/-- Any other access of the host is refused. -/
theorem userRead_refused : ∀ v : Vcs, ∀ off : Nat, ∀ n : Nat, ((n = 8 ∧ off % 8 ≠ 0) ∨ (n = 4 ∧ off % 4 ≠ 0) ∨ (n ≠ 4 ∧ n ≠ 8) ∨ s.userReached v.val = false) →
    Answers (.userCounterRead v off n) s fun t => t.out = [.unsupported (.host v)] ∧ Frame [.out] [] s t := by
  intro v off n hbad
  have hexec : exec (.userCounterRead v off n) s = done (s.begin.emit (.unsupported (.host v))) := by
    refine congrArg done ?_
    by_cases hreach : s.userReached v.val = true
    · have hreach' : s.begin.userReached v.val = true := hreach
      rw [hreach'] at *
      refine (if_neg (by decide)).trans ((if_neg ?_).trans (if_neg ?_))
      · simp only [hreach, Bool.true_eq_false, or_false] at hbad
        simp only [Bool.and_eq_true, decide_eq_true_eq]
        omega
      · simp only [hreach, Bool.true_eq_false, or_false] at hbad
        simp only [Bool.and_eq_true, decide_eq_true_eq]
        omega
    · refine if_pos ?_
      rw [show s.begin.userReached v.val = false from (Bool.not_eq_true _).mp hreach]
      rfl
  refine answers_done hexec ⟨?_, ((Frame.begin s).andEmit _).settle⟩
  rw [State.settle_out, State.emit_out]
  rfl

/-- A sampler whose counter has reached its threshold takes its value and moves the threshold by PERIOD. -/
theorem ovfTrigger_samples : ∀ k : Fin 16, s.clk.mgmtUp = true → s.flag (Fld.PERF_OVF_SEL_EN k.val) = true → (k.val ∉ s.perf.disarmed) →
    (s.liveCounter (s.get (Fld.PERF_OVF_SEL_PAGE k.val)) (s.get (Fld.PERF_OVF_SEL_INDEX k.val)) + 2 ^ 64 - s.get64 (Addr.PERF_OVF_THR_LO k.val)) % 2 ^ 64 < 2 ^ 63 →
    s.get (Evt.PERF_SAMPLE k.val).field = 0 → Answers (.perfOvfTrigger k) s fun t =>
    t.get64 (Addr.PERF_OVF_VAL_LO k.val) = s.liveCounter (s.get (Fld.PERF_OVF_SEL_PAGE k.val)) (s.get (Fld.PERF_OVF_SEL_INDEX k.val)) ∧ t.get (Evt.PERF_SAMPLE k.val).field = 1 ∧
    t.get64 (Addr.PERF_OVF_THR_LO k.val) = (s.get64 (Addr.PERF_OVF_THR_LO k.val) + s.get64 (Addr.PERF_OVF_PERIOD_LO k.val)) % 2 ^ 64 ∧
    Frame [.perf] [Field.all (Addr.PERF_OVF_VAL_LO k.val), Field.all (Addr.PERF_OVF_VAL_LO k.val + 4), Field.all (Addr.PERF_OVF_THR_LO k.val),
    Field.all (Addr.PERF_OVF_THR_LO k.val + 4), (Evt.PERF_SAMPLE k.val).field] s t := by
  intro k hup hen harm hreach hclear
  have hpend : (s.begin.pend 0x0A).testBit k.val = false := by
    have hbit : s.get (Evt.PERF_SAMPLE k.val).field = ((s.word (evtPendAddr 0x0A)).toNat.testBit k.val).toNat := bitsOf_one _ _
    rw [hclear] at hbit
    rw [show s.begin.pend 0x0A = (s.word (evtPendAddr 0x0A)).toNat from by rw [State.pend, if_neg (by simp)]; rfl]
    cases hb : (s.word (evtPendAddr 0x0A)).toNat.testBit k.val
    · rfl
    · rw [hb] at hbit
      exact absurd hbit (by decide)
  have hfires : (s.begin.flag (Fld.PERF_OVF_SEL_EN k.val) && !s.begin.perf.disarmed.contains k.val &&
      decide ((s.begin.liveCounter (s.begin.get (Fld.PERF_OVF_SEL_PAGE k.val)) (s.begin.get (Fld.PERF_OVF_SEL_INDEX k.val)) + 2 ^ 64 -
        s.begin.get64 (Addr.PERF_OVF_THR_LO k.val)) % 2 ^ 64 < 2 ^ 63)) = true := by
    rw [State.flag_begin, State.begin_perf, State.get_begin, State.get_begin, State.liveCounter_begin, State.get64_congr (State.begin_regs s), hen, List.contains_eq_mem,
      decide_eq_false harm, decide_eq_true hreach]
    rfl
  have hget64 : ∀ a, 0x40040 < a → ((s.begin.sampleTaken k.val).disarmedIf (s.begin.get64 (Addr.PERF_OVF_PERIOD_LO k.val)) k.val).settle.get64 a = (s.begin.sampleTaken k.val).get64 a :=
    fun a ha => by rw [State.get64_settle _ ha, State.get64_congr (State.disarmedIf_regs _ _ _)]
  refine answers_mgmt rfl hup (x := (s.begin.sampleTaken k.val).disarmedIf (s.begin.get64 (Addr.PERF_OVF_PERIOD_LO k.val)) k.val) ?_ ⟨?_, ?_, ?_, ?_⟩
  · dsimp only
    rw [if_pos hfires, hpend, if_neg Bool.false_ne_true]
    rfl
  · rw [hget64 _ (by simp only [Addr.PERF_OVF_VAL_LO]; omega), State.sampleTaken, State.get64_put64_other _ _ (by simp only [Addr.PERF_OVF_VAL_LO, Addr.PERF_OVF_THR_LO]; omega),
      State.get64_put64, Nat.mod_eq_of_lt (State.liveCounter_lt _ _ _), State.get_begin, State.get_begin, State.liveCounter_begin]
  · rw [State.get_settle _ (show evtPendAddr 0x0A ≠ 0x40040 by decide), State.get_congr (State.disarmedIf_regs _ _ _), State.sampleTaken,
      State.get_put64_other _ _ (by simp only [Event.field, Evt.PERF_SAMPLE, evtPendAddr, Addr.PERF_OVF_THR_LO]; omega)
        (by simp only [Event.field, Evt.PERF_SAMPLE, evtPendAddr, Addr.PERF_OVF_THR_LO]; omega),
      State.get_put64_other _ _ (by simp only [Event.field, Evt.PERF_SAMPLE, evtPendAddr, Addr.PERF_OVF_VAL_LO]; omega)
        (by simp only [Event.field, Evt.PERF_SAMPLE, evtPendAddr, Addr.PERF_OVF_VAL_LO]; omega)]
    refine State.get_raise_mgmt hup rfl ?_ (show k.val < 32 by omega)
    exact (by decide : ∀ j : Fin 16, (pageEvtMask 0x00A).testBit j.val = true) k
  · rw [hget64 _ (by simp only [Addr.PERF_OVF_THR_LO]; omega), State.sampleTaken, State.get64_put64, State.get64_congr (State.begin_regs s), State.get64_congr (State.begin_regs s)]
  · exact (((((Frame.begin s).andRaise).andPut64 _).andPut64 _).andDisarmedIf _ _).settle

/-- A timed request enters every histogram that matches it. -/
theorem latencySample_counts : ∀ x : LatSample, s.clk.mgmtUp = true → s.flag Fld.PERF_LAT_CFG_EN = true → x.discarded = false → x.skipped = false → Answers (.latencySample x) s fun t =>
    (∀ h : Fin 64, t.counter (Ctr.HSTAT h.val 0) = s.counter (Ctr.HSTAT h.val 0) + (if s.histMatches h.val x then 1 else 0)) ∧ (∀ h : Fin 64, s.histMatches h.val x = false →
    t.get (Fld.PERF_HIST_MAX_NS h.val) = s.get (Fld.PERF_HIST_MAX_NS h.val)) := by
  intro x hup hen hdis hskip
  have hcond : ¬ ((!s.begin.flag Fld.PERF_LAT_CFG_EN || x.discarded) = true) := by
    rw [show s.begin.flag Fld.PERF_LAT_CFG_EN = true from hen, hdis]
    decide
  have hrange : ∀ h ∈ List.range 64, h < 64 := fun h hh => List.mem_range.mp hh
  refine answers_mgmt rfl hup (if_neg hcond) ⟨fun h => ?_, fun h hm => ?_⟩
  · rw [State.counter_settle]
    have hcount := State.counter_histAll hskip h.isLt (List.range 64) s.begin List.nodup_range hrange
    rw [show s.begin.counter (Ctr.HSTAT h.val 0) = s.counter (Ctr.HSTAT h.val 0) from rfl, show s.begin.histMatches h.val x = s.histMatches h.val x from rfl] at hcount
    simp only [List.mem_range, h.isLt, true_and] at hcount
    rw [← hcount]
    dsimp only
    split
    · rw [State.counter_stageRecord]
      split
      · rw [State.counter_stageRecord]
      · rfl
    · split
      · rw [State.counter_stageRecord]
      · rfl
  · have hmax : (Fld.PERF_HIST_MAX_NS h.val).clearOf Fld.PERF_RING_DROP_COUNT = true :=
      Field.clearOf_of_addr (show 0 + 32 ≤ 32 by decide) (by simp only [Fld.PERF_HIST_MAX_NS, Addr.PERF_HIST_MAX, Fld.PERF_RING_DROP_COUNT, Addr.PERF_RING_DROP]; omega)
    have hevt : (Fld.PERF_HIST_MAX_NS h.val).clearOf Evt.PERF_RING_DROP.field = true :=
      Field.clearOf_of_addr (show 0 + 32 ≤ 32 by decide) (by simp only [Fld.PERF_HIST_MAX_NS, Addr.PERF_HIST_MAX, Event.field, Evt.PERF_RING_DROP, evtPendAddr]; omega)
    have hkept : ((List.range 64).foldl (fun s h => s.histAdd h x) s.begin).get (Fld.PERF_HIST_MAX_NS h.val) = s.get (Fld.PERF_HIST_MAX_NS h.val) :=
      State.get_of_word (State.max_histAll hskip (List.range 64) s.begin hrange hm)
    rw [State.get_settle _ (by simp only [Fld.PERF_HIST_MAX_NS, Addr.PERF_HIST_MAX]; omega), ← hkept]
    dsimp only
    split
    · rw [State.get_stageRecord _ _ hmax hevt]
      split
      · rw [State.get_stageRecord _ _ hmax hevt]
      · rfl
    · split
      · rw [State.get_stageRecord _ _ hmax hevt]
      · rfl

/-- A write clears a maximum. -/
theorem histMax_cleared : ∀ m : Master, ∀ h : Fin 64, ∀ value : Word, s.takes m 0x0A = true → Answers (.perfHistMaxClear m h value) s fun t => t.get (Fld.PERF_HIST_MAX_NS h.val) = 0 ∧
    Frame [] [Fld.PERF_HIST_MAX_NS h.val] s t := by
  intro m h value htk
  have hx : Frame [] [Fld.PERF_HIST_MAX_NS h.val] s (s.begin.put (Fld.PERF_HIST_MAX_NS h.val) 0) := (Frame.begin s).andPut 0
  refine answers_guard rfl htk rfl hx (hx.home_dir (by simp)) ?_ fun hfr => ⟨?_, hfr⟩
  · intro g hg
    rw [List.mem_singleton.mp hg]
    exact regionOf_perf (by simp only [Fld.PERF_HIST_MAX_NS, Addr.PERF_HIST_MAX]; omega)
  · rw [State.get_settle _ (by simp only [Fld.PERF_HIST_MAX_NS, Addr.PERF_HIST_MAX]; omega), State.get_put_fits _ (Field.fits_of rfl)]

/-- A write clears a missed count. -/
theorem ovfMissed_cleared : ∀ m : Master, ∀ k : Fin 16, ∀ value : Word, s.takes m 0x0A = true → Answers (.perfOvfMissedClear m k value) s fun t => t.get (Fld.PERF_OVF_MISSED_COUNT k.val) = 0 ∧
    Frame [] [Fld.PERF_OVF_MISSED_COUNT k.val] s t := by
  intro m k value htk
  have hx : Frame [] [Fld.PERF_OVF_MISSED_COUNT k.val] s (s.begin.put (Fld.PERF_OVF_MISSED_COUNT k.val) 0) := (Frame.begin s).andPut 0
  refine answers_guard rfl htk rfl hx (hx.home_dir (by simp)) ?_ fun hfr => ⟨?_, hfr⟩
  · intro g hg
    rw [List.mem_singleton.mp hg]
    exact regionOf_perf (by simp only [Fld.PERF_OVF_MISSED_COUNT, Addr.PERF_OVF_MISSED]; omega)
  · rw [State.get_settle _ (by simp only [Fld.PERF_OVF_MISSED_COUNT, Addr.PERF_OVF_MISSED]; omega), State.get_put_fits _ (Field.fits_of rfl)]

/-- A mark is staged where there is room. -/
theorem ringMark_staged : ∀ m : Master, ∀ value : Word, s.takes m 0x0A = true → s.flag Fld.PERF_RING_CFG_EN = true → s.clk.fabricHeld = false → s.fab.stage.length < 1024 →
    Answers (.perfRingMark m value) s fun t => t.fab.stage = s.fab.stage ++ [⟨4, 0, s.now, [value.toNat]⟩] ∧ Frame [.fab] [] s t := by
  intro m value htk hen hheld hroom
  have hx : Frame [.fab] [] s (s.begin.staged [⟨4, 0, s.now, [value.toNat]⟩]) := (Frame.begin s).andStaged _
  refine answers_guard rfl htk (State.stageRecord_room (s := s.begin) hen hheld hroom) hx rfl (by simp) fun hfr => ⟨?_, hfr⟩
  rw [State.settle_fab]
  rfl

/-- With the buffer full it is dropped. -/
theorem ringMark_dropped : ∀ m : Master, ∀ value : Word, s.takes m 0x0A = true → s.flag Fld.PERF_RING_CFG_EN = true → s.clk.fabricHeld = false → 1024 ≤ s.fab.stage.length →
    Answers (.perfRingMark m value) s fun t => t.get Evt.PERF_RING_DROP.field = 1 ∧ Frame [] [Fld.PERF_RING_DROP_COUNT, Evt.PERF_RING_DROP.field] s t := by
  intro m value htk hen hheld hfull
  have hx : Frame [] [Fld.PERF_RING_DROP_COUNT, Evt.PERF_RING_DROP.field] s ((s.begin.addSat Fld.PERF_RING_DROP_COUNT 1).raise Evt.PERF_RING_DROP) :=
    ((Frame.begin s).andAddSat 1).andRaise
  refine answers_guard rfl htk (State.stageRecord_full (s := s.begin) hen hheld hfull) hx (hx.home_dir (by simp)) (by decide) fun hfr => ⟨?_, hfr⟩
  rw [State.get_settle _ (by decide)]
  refine State.get_raise_same ?_ (by decide) (by decide)
  rw [State.live_congr (s := s) (by rw [State.addSat_clk]; rfl) (by rw [State.addSat_hs]; rfl)]
  exact State.live_of_takes htk

/-- An export stages its counters, six to a record. -/
theorem exportTimer_stages : ∀ j : Fin 48, s.clk.mgmtUp = true → s.flag Fld.PERF_RING_CFG_EN = true → s.clk.fabricHeld = false → s.flag Fld.PERF_RING_CFG_EXPORT = true →
    bitsOf (s.word (Addr.PERF_EXP j.val)).toNat 31 1 = 1 → (∀ i : Fin 48, j < i → bitsOf (s.word (Addr.PERF_EXP i.val)).toNat 31 1 = 0) → s.fab.stage.length + 8 ≤ 1024 →
    Answers .perfExportTimer s fun t => t.fab.stage.length = s.fab.stage.length + (j.val / 6 + 1) ∧ (∀ r ∈ t.fab.stage.drop s.fab.stage.length, r.type = 3 ∧ r.time = s.now) ∧
    Frame [.fab] [] s t := by
  intro j hup hen hheld hexp hj hlast hroom
  have hcond : (s.begin.flag Fld.PERF_RING_CFG_EN && s.begin.flag Fld.PERF_RING_CFG_EXPORT) = true := Bool.and_eq_true_iff.mpr ⟨hen, hexp⟩
  have hn : (((List.range 48).filter fun i => bitsOf (s.begin.word (Addr.PERF_EXP i)).toNat 31 1 == 1).getLast?.map (· + 1)).getD 0 = j.val + 1 := by
    rw [getLast?_filter_range (q := fun i => bitsOf (s.begin.word (Addr.PERF_EXP i)).toNat 31 1 == 1) (j := j.val) j.isLt (beq_iff_eq.mpr hj) fun i hi h48 => by
      have h0 : bitsOf (s.begin.word (Addr.PERF_EXP i)).toNat 31 1 = 0 := hlast ⟨i, h48⟩ hi
      rw [h0]
      rfl]
    rfl
  obtain ⟨l, hl, hlen, htype⟩ : ∃ l : List TelRecord, exec .perfExportTimer s = done (l.foldl State.stageRecord s.begin) ∧ l.length = j.val / 6 + 1 ∧ ∀ r ∈ l, r.type = 3 ∧ r.time = s.now := by
    refine ⟨_, (done_whenMgmt _ hup).trans (congrArg done (if_pos hcond)), ?_, fun r hr => ?_⟩
    · rw [List.length_map, List.length_range]
      rw [hn]
      omega
    · obtain ⟨i, -, rfl⟩ := List.mem_map.mp hr
      exact ⟨rfl, rfl⟩
  rw [State.stageAll l s.begin hen hheld (by rw [State.begin_fab]; omega)] at hl
  refine answers_done hl ⟨?_, fun r hr => htype r ?_, ((Frame.begin s).andStaged l).settle⟩
  · rw [State.settle_fab, State.stage_staged, List.length_append, hlen]
    rfl
  · rw [State.settle_fab, State.stage_staged] at hr
    exact List.drop_left (l₁ := s.fab.stage) (l₂ := l) ▸ hr

/-- A write of PERF_RING_RD starts the fetch of the window. -/
theorem ringRd_fetches : ∀ m : Master, ∀ value : Word, s.takes m 0x0A = true → Answers (.perfRingRd m value) s fun t => t.get Fld.PERF_RING_RD_SEQ = value.toNat ∧
    t.get Fld.PERF_RING_STATUS_WIN_READY = 0 ∧ t.perf = { s.perf with fetching := true } ∧ Frame [.perf] [Fld.PERF_RING_RD_SEQ, Fld.PERF_RING_STATUS_WIN_READY] s t := by
  intro m value htk
  have hx : Frame [.perf] [Fld.PERF_RING_RD_SEQ, Fld.PERF_RING_STATUS_WIN_READY] s (s.begin.writeRingRd value.toNat) := (((Frame.begin s).andPut _).andPut _).andPerf _
  refine answers_guard rfl htk rfl hx (hx.home_dir (by decide)) (by decide) fun hfr => ⟨?_, ?_, ?_, hfr⟩
  · rw [State.get_settle _ (by decide), State.get_congr (s.begin.regs_writeRingRd value.toNat), State.get_put_clear _ _ (by decide), State.get_put_lit _ (by decide) (show value.toNat < 2 ^ 32 from value.isLt)]
  · rw [State.get_settle _ (by decide), State.get_congr (s.begin.regs_writeRingRd value.toNat), State.get_put_fits _ (Field.fits_of rfl)]
  · rw [State.settle_perf]
    simp [State.writeRingRd, State.puts]

/-- When the window is ready this is shown and raised. -/
theorem winReady_shown : s.clk.mgmtUp = true → s.perf.fetching = true → Answers .perfRingWinReady s fun t => t.get Fld.PERF_RING_STATUS_WIN_READY = 1 ∧ t.get Evt.PERF_WIN_READY.field = 1 ∧
    t.perf = { s.perf with fetching := false } ∧ (s.get Fld.PERF_RING_WR_SEQ < s.ringCapacity → t.get Fld.PERF_RING_RD_SEQ = s.get Fld.PERF_RING_RD_SEQ) := by
  intro hup hfetch
  obtain ⟨l, hexec⟩ := State.execWinReady hfetch hup
  obtain ⟨hperf, hclk⟩ := s.begin.lostTold_perf s.begin.ringLost s.begin.ringOldest
  refine answers_done hexec ⟨?_, ?_, ?_, fun hlt => ?_⟩
  · rw [State.get_settle _ (by decide), State.windowReady, State.get_raise_clear _ (by decide), State.get_put_fits _ (Field.fits_of rfl)]
  · rw [State.get_settle _ (by decide), State.windowReady]
    refine State.get_raise_mgmt ?_ rfl (by decide) (by decide)
    rw [State.put_clk]
    refine (congrArg Clk.mgmtUp ((State.puts_clk _ _).trans hclk)).trans hup
  · rw [State.settle_perf, State.windowReady, State.raise_perf, State.put_perf]
    exact congrArg (fun x : Perf => { x with fetching := false }) ((State.puts_perf _ _).trans hperf)
  · rw [State.get_settle _ (by decide), State.windowReady, State.get_raise_clear _ (by decide), State.get_put_clear _ _ (by decide)]
    refine (State.get_windowWritten _ l (by decide) (by decide)).trans ?_
    have hlost : s.begin.ringLost = 0 := if_neg (by
      rw [State.ringOldest, State.get_begin, show s.begin.ringCapacity = s.ringCapacity from rfl]
      omega)
    rw [hlost, State.lostTold, if_pos rfl, State.get_begin]

end

/-- Settles O19: each command leaves the counters, captures and records its part of the manual names. -/
theorem countersAndTelemetry : Obligations.CountersAndTelemetry := by
  unfold Obligations.CountersAndTelemetry
  exact fun s => ⟨snapTake_copies, snapDone_shown, userRead_answers, userRead_refused, ovfTrigger_samples, latencySample_counts, histMax_cleared, ovfMissed_cleared,
    ringMark_staged, ringMark_dropped, exportTimer_stages, ringRd_fetches, winReady_shown⟩

end Sys2Proof.Machine
end

section
/-! PROOFS. What a lost port leaves alone (R120, R148, R156, R234 to R236): the clocks, the ports that are up, the registers and events of the CLK page, of the security island
but for its sessions, of the ports and of the lanes, and the counters of the lanes (for O5, O39 and O50). -/
namespace Sys2Proof.Machine
open Sys2Proof
set_option Elab.async false

/-- A register that the loss of a port does not reach: of the CLK page, of the island but for SEC_SESSIONS, of a port group but for its header, or of a lane. -/
def Spared (a : Nat) : Prop :=
  a / 0x10000 = 1 ∨ a / 0x10000 = 7 ∧ a ≠ Addr.SEC_SESSIONS ∨ 0x10 ≤ a / 0x10000 ∧ a / 0x10000 < 0x20 ∧ 0x1000 ≤ a % 0x10000 ∨ 0x100 ≤ a / 0x10000 ∧ a / 0x10000 < 0x300

theorem not_spared_of_page {a : Nat} (h : a / 0x10000 ≠ 1 ∧ a / 0x10000 ≠ 7 ∧ ¬ (0x10 ≤ a / 0x10000 ∧ a / 0x10000 < 0x20) ∧ ¬ (0x100 ≤ a / 0x10000 ∧ a / 0x10000 < 0x300)) :
    ¬ Spared a := by
  unfold Spared
  omega

/-- What some steps of the switch and of the home are to keep: registers and counters that none of these steps writes, and the pair where that is asked for. -/
structure Kept where
  addr : Nat → Prop
  counter : Nat → Prop
  pair : Prop
  home : ∀ a, addr a → a / 0x10000 ≠ 0x70
  perf : ∀ c, counter c → c < 0x8010000 ∨ c = Ctr.PAIR 1 2

theorem Kept.not_home (K : Kept) {a : Nat} (h : a / 0x10000 = 0x70) : ¬ K.addr a := fun ha => K.home a ha h

/-- What the loss of a port keeps: the CLK page, the island, the ports and the lanes. -/
def Kept.port : Kept where
  addr := Spared
  counter c := c < 0x8010000
  pair := False
  home a h := by
    unfold Spared at h
    omega
  perf _ h := .inl h

/-- The kept registers, counters and pair are as before, and so are the clocks and the ports that are up. -/
structure State.Spares (K : Kept) (s t : State) : Prop where
  clk : t.clk = s.clk
  up : t.fab.up = s.fab.up
  word : ∀ a, K.addr a → t.word a = s.word a
  counter : ∀ c, K.counter c → t.counter c = s.counter c
  pair : K.pair → t.fab.pair = s.fab.pair

namespace State.Spares
variable {K : Kept} {s t u : State}

theorem refl (s : State) : s.Spares K s := ⟨rfl, rfl, fun _ _ => rfl, fun _ _ => rfl, fun _ => rfl⟩

theorem trans (h : s.Spares K t) (h' : t.Spares K u) : s.Spares K u :=
  ⟨h'.clk.trans h.clk, h'.up.trans h.up, fun a ha => (h'.word a ha).trans (h.word a ha), fun c hc => (h'.counter c hc).trans (h.counter c hc),
    fun hp => (h'.pair hp).trans (h.pair hp)⟩

/-- An update of other parts of the state. -/
theorem upd (h : s.Spares K t) (hr : u.regs = t.regs := by rfl) (hc : u.ctrs = t.ctrs := by rfl) (hk : u.clk = t.clk := by rfl) (hu : u.fab.up = t.fab.up := by rfl)
    (hp : K.pair → u.fab.pair = t.fab.pair := by exact fun _ => rfl) : s.Spares K u :=
  h.trans ⟨hk, hu, fun a _ => State.word_congr hr a, fun c _ => State.counter_congr hc c, hp⟩

theorem setWord (h : s.Spares K t) {a : Nat} (w : Word) (ha : ¬ K.addr a) : s.Spares K (t.setWord a w) :=
  h.trans ⟨rfl, rfl, fun _ hb => State.word_setWord_other _ _ fun hba => ha (hba ▸ hb), fun _ _ => rfl, fun _ => rfl⟩

theorem put (h : s.Spares K t) {f : Field} (v : Nat) (hf : ¬ K.addr f.addr := by exact not_spared_of_page (by decide)) : s.Spares K (t.put f v) := h.setWord _ hf

/-- A register of the HOME page. -/
theorem putHome (h : s.Spares K t) {f : Field} (v : Nat) (hf : f.addr / 0x10000 = 0x70 := by decide) : s.Spares K (t.put f v) := h.put v (K.not_home hf)

theorem puts (l : List (Field × Nat)) : ∀ {t : State}, s.Spares K t → (∀ e ∈ l, ¬ K.addr e.1.addr) → s.Spares K (t.puts l) := by
  induction l with
  | nil => exact fun h _ => h
  | cons e l ih => exact fun h hl => ih (h.put _ (hl e List.mem_cons_self)) fun x hx => hl x (List.mem_cons_of_mem _ hx)

theorem ite {c : Prop} [Decidable c] (h : s.Spares K t) (hu : s.Spares K u) : s.Spares K (if c then t else u) := by
  split
  · exact h
  · exact hu

theorem raise (h : s.Spares K t) (e : Event) (he : ¬ K.addr (evtPendAddr e.page) := by exact not_spared_of_page (by decide)) : s.Spares K (t.raise e) := by
  unfold State.raise
  exact .ite (h.setWord _ he) h

theorem raiseIf (h : s.Spares K t) (c : Bool) (e : Event) (he : ¬ K.addr (evtPendAddr e.page) := by exact not_spared_of_page (by decide)) : s.Spares K (t.raiseIf c e) :=
  .ite (h.raise e he) h

/-- An event of the HOME page. -/
theorem raiseHome (h : s.Spares K t) (e : Event) (he : e.page = 0x70 := by rfl) : s.Spares K (t.raise e) :=
  h.raise e (K.not_home (by rw [he]; decide))

/-- A count on a page of counters past that of the lanes. -/
theorem count (h : s.Spares K t) (c n : Nat) (hc : 0x8010000 ≤ c ∧ c ≠ Ctr.PAIR 1 2) : s.Spares K (t.count c n) :=
  h.trans ⟨rfl, rfl, fun _ _ => rfl, fun d hd => State.counter_count_other _ _ (by have := K.perf d hd; omega), fun _ => rfl⟩

theorem countPort (h : s.Spares K t) (p e n : Nat) (he : e % 32 ≠ 10 := by decide) : s.Spares K (t.count (Ctr.PORT p e) n) :=
  h.count _ _ (by simp only [Ctr.PORT, Ctr.PAIR, perfAddr]; omega)
theorem countHome (h : s.Spares K t) (k e n : Nat) (he : e % 16 ≠ 10 := by decide) : s.Spares K (t.count (Ctr.HOME k e) n) :=
  h.count _ _ (by simp only [Ctr.HOME, Ctr.PAIR, perfAddr]; omega)
theorem countMover (h : s.Spares K t) (k e n : Nat) : s.Spares K (t.count (Ctr.MOVER k e) n) := h.count _ _ (by simp only [Ctr.MOVER, Ctr.PAIR, perfAddr]; omega)
theorem countVppbEntry (h : s.Spares K t) (k e n : Nat) : s.Spares K (t.count (Ctr.VPPB k e) n) := h.count _ _ (by simp only [Ctr.VPPB, Ctr.PAIR, perfAddr]; omega)

theorem emit (h : s.Spares K t) (x : Output) : s.Spares K (t.emit x) := h.upd
theorem used (h : s.Spares K t) (n : Nat) : s.Spares K (t.used n) := h.upd
theorem modSw (h : s.Spares K t) (f : Switch → Switch) : s.Spares K (t.modSw f) := h.upd
theorem modHome (h : s.Spares K t) (f : Home → Home) : s.Spares K (t.modHome f) := h.upd
theorem modMover (h : s.Spares K t) (f : Mover → Mover) : s.Spares K (t.modMover f) := h.upd
theorem modDlog (h : s.Spares K t) (f : Dlog → Dlog) : s.Spares K (t.modDlog f) := h.upd
theorem modHat (h : s.Spares K t) (f : Hat → Hat) : s.Spares K (t.modHat f) := h.upd

theorem foldl {α : Type} (f : State → α → State) (hf : ∀ (t : State) (x : α), t.Spares K (f t x)) (l : List α) : ∀ {t : State}, s.Spares K t → s.Spares K (l.foldl f t) := by
  induction l with
  | nil => exact fun h => h
  | cons x l ih => exact fun h => ih (h.trans (hf _ x))

/-- As foldl, over a list whose elements meet what the step asks of them. -/
theorem foldl_mem {α : Type} (f : State → α → State) (l : List α) : ∀ {t : State}, (∀ (t : State), ∀ x ∈ l, t.Spares K (f t x)) → s.Spares K t → s.Spares K (l.foldl f t) := by
  induction l with
  | nil => exact fun _ h => h
  | cons x l ih => exact fun hf h => ih (fun t y hy => hf t y (List.mem_cons_of_mem _ hy)) (h.trans (hf _ x List.mem_cons_self))

/-! ### Messages queued and removed (R153, R170, R186) -/

theorem track {m m' : Msg} (h : s.Spares K t) (ht : t.track m = some (u, m')) : s.Spares K u := by
  unfold State.track at ht
  split at ht
  · obtain ⟨rfl, -⟩ := Prod.mk.inj (Option.some.inj ht)
    exact h
  · split at ht
    · obtain ⟨rfl, -⟩ := Prod.mk.inj (Option.some.inj ht)
      exact h
    · dsimp only at ht
      split at ht
      · cases ht
      · obtain ⟨rfl, -⟩ := Prod.mk.inj (Option.some.inj ht)
        exact ((h.used 1).modSw _).modSw _

theorem queueMsg (h : s.Spares K t) (m : Msg) : s.Spares K (t.queueMsg m) := by
  unfold State.queueMsg
  dsimp only
  split
  · next heq => exact (h.track heq).modSw _
  · exact (h.countPort _ _ _).modSw _

theorem queueAll (h : s.Spares K t) (l : List Msg) : s.Spares K (l.foldl State.queueMsg t) := foldl _ (fun t m => (refl t).queueMsg m) l h

theorem countVppb (h : s.Spares K t) (v : Option Nat) (e : Nat) : s.Spares K (t.countVppb v e) := by
  unfold State.countVppb
  split
  · exact h.countVppbEntry _ _ _
  · exact h

theorem answerFlushed (h : s.Spares K t) (m : Msg) : s.Spares K (t.answerFlushed m) := by
  unfold State.answerFlushed
  have h1 : s.Spares K (if m.kind == .ioPosted || m.kind == .d2hReq then t.countVppb m.vppb 3 else t) := .ite (h.countVppb _ _) h
  exact (State.Spares.ite h1 (h1.countVppb _ _)).queueAll _

theorem answerDown (h : s.Spares K t) (m : Msg) : s.Spares K (t.answerDown m) := by
  unfold State.answerDown
  split
  · exact (State.Spares.ite h (h.countVppbEntry _ _ _)).queueAll _
  · exact h.queueAll _

theorem freeCells (h : s.Spares K t) (l : List Nat) : s.Spares K (t.freeCells l) := foldl _ (fun t _ => (refl t).modSw _) l h

theorem unref (h : s.Spares K t) (l : List Nat) : s.Spares K (t.unref l) := by
  refine foldl _ (fun t k => ?_) l h
  split
  · split
    · exact ((refl t).modSw _).freeCells _
    · exact (refl t).modSw _
  · exact refl t

theorem unlink (h : s.Spares K t) (f : Nat → Msg → Bool) : s.Spares K (t.unlink f) := by
  unfold State.unlink State.deactivate
  exact (((h.modSw _).freeCells _).unref _).modSw _

/-! ### Writes that a dirty log marks, and the directory (R17, R219, R220) -/

theorem sendLogged (h : s.Spares K t) (orig m : Msg) : s.Spares K (t.sendLogged orig m) := by
  unfold State.sendLogged
  dsimp only
  split
  · exact (foldl _ (fun t _ => ((refl t).modDlog _).countMover _ _ _) _ h).queueMsg _
  · exact h.modDlog _

theorem spill (h : s.Spares K t) (k x : Nat) : s.Spares K (t.spill k x) := by
  unfold State.spill
  dsimp only
  split
  · exact h
  · split
    · exact h.modHome _
    · exact h

theorem dropHint (h : s.Spares K t) (k x : Nat) : s.Spares K (t.dropHint k x) := by
  unfold State.dropHint
  dsimp only
  split
  · exact h
  · split
    · exact h.modHome _
    · exact h

theorem writeDir (h : s.Spares K t) (k x : Nat) (e : DirEntry) : s.Spares K (t.writeDir k x e) := ((h.modHome _).spill k x).dropHint k x

theorem applyEntry (h : s.Spares K t) (k x : Nat) (e : DirEntry) : s.Spares K (t.applyEntry k x e) := .ite h (h.writeDir _ _ _)

theorem tidy (h : s.Spares K t) (k x : Nat) : s.Spares K (t.tidy k x) := by
  unfold State.tidy
  split
  · exact .ite (h.modHome _) h
  · exact h

/-! ### Transactions of the home (R221 to R224) -/

theorem setTxn (h : s.Spares K t) (x : Txn) : s.Spares K (t.setTxn x) := h.modHome _
theorem delTxn (h : s.Spares K t) (x : Txn) : s.Spares K (t.delTxn x) := (h.modHome _).tidy _ _

theorem issueSnoop (h : s.Spares K t) (x : Txn) (j : Nat) (inv : Bool) (l : List Nat) : s.Spares K (t.issueSnoop x j inv l).1 := by
  unfold State.issueSnoop
  split
  · exact h
  · exact (((h.used 1).modHome _).modSw _).countHome _ _ _ (by split <;> decide)

/-- The snoops of a transaction issued one after the other. -/
theorem issueSnoops (x : Txn) (l : List (Nat × Bool × List Nat)) : ∀ {a : State × List Nat}, s.Spares K a.1 →
    s.Spares K (l.foldl (fun (a : State × List Nat) y => let b := a.1.issueSnoop x y.1 y.2.1 y.2.2; (b.1, a.2 ++ b.2.toList)) a).1 := by
  induction l with
  | nil => exact fun h => h
  | cons y l ih => exact fun h => ih (a := ((_ : State × Option Nat).1, _)) (h.issueSnoop x _ _ _)

theorem launch (h : s.Spares K t) (x : Txn) : s.Spares K (t.launch x).1 := by
  unfold State.launch
  dsimp only
  split
  · exact h.setTxn _
  · exact (issueSnoops x _ (a := (t, [])) h).setTxn _

theorem forward {m : Msg} {ndr : MsgKind} {wb : Bool} {x : Option Nat} (h : s.Spares K t) (hf : t.forward m ndr wb x = some u) : s.Spares K u := by
  unfold State.forward at hf
  split at hf
  · cases hf
  · split at hf
    · cases hf
    · obtain rfl := Option.some.inj hf
      exact ((h.used 1).modHome _).sendLogged _ _

theorem countGrant (h : s.Spares K t) (m : Msg) : s.Spares K (t.countGrant m) := .ite (h.countHome _ _ _) (.ite (h.countHome _ _ _) h)

theorem resnoop (h : s.Spares K t) (x : Txn) (l : List Nat) : s.Spares K (t.resnoop x l) := by
  unfold State.resnoop
  have h1 : s.Spares K (if x.snooped.isEmpty then t else t.applyEntry x.hive x.sector (afterSnoops x.kept x.snooped (t.entryOr x.hive x.sector)).norm) :=
    .ite h (h.applyEntry _ _ _)
  exact .ite (h1.setTxn _) (h1.launch _)

theorem finish (h : s.Spares K t) (x : Txn) : s.Spares K (t.finish x) := by
  unfold State.finish
  split
  · next m _ =>
    dsimp only
    split
    · exact h.resnoop _ _
    · split
      · split
        · exact h
        · next heq => exact (((h.forward heq).applyEntry _ _ _).countGrant _).setTxn _
      · exact (((h.applyEntry _ _ _).countGrant _).queueMsg _).setTxn _
  · exact ((h.writeDir _ _ _).countHome _ _ _).delTxn _
  · exact (h.modHome _).delTxn _
  · exact (h.applyEntry _ _ _).delTxn _
  · exact (h.applyEntry _ _ _).delTxn _

theorem advance (h : s.Spares K t) (x : Txn) : s.Spares K (t.advance x) := .ite h (h.finish x)

theorem clearTarget (h : s.Spares K t) (k : Nat) (n : SnoopSlot) (i : Nat) (kept : Bool) : s.Spares K (t.clearTarget k n i kept) := by
  have h1 : s.Spares K (match t.entry n.hive n.sector with
      | some e => if !kept && e.owns n.line (some i) then t.writeDir n.hive n.sector (e.setLine n.line 0) else t
      | none => t) := by
    split
    · exact .ite (h.writeDir _ _ _) h
    · exact h
  unfold State.clearTarget
  dsimp only
  split
  · exact h1.modHome _
  · exact ((h1.modHome _).setTxn _).advance _

/-! ### Flushes (R153, R154) -/

theorem flushScope (h : s.Spares K t) (f : FlushScope) (g a : Nat → Nat → TSlot → Bool) (q : Nat → Msg → Bool) : s.Spares K (t.flushScope f g a q) :=
  foldl _ (fun t _ => (refl t).answerFlushed _) _ ((h.modSw _).unlink _)

theorem flushMover (h : s.Spares K t) (x : FlushScope) (f : Msg → Bool) : s.Spares K (t.flushMover x f) :=
  foldl _ (fun t _ => (refl t).queueAll _) _ (h.modMover _)

theorem homePortLost (h : s.Spares K t) (p : Nat) : s.Spares K (t.homePortLost p) := by
  refine foldl _ (fun t e => ?_) _ h
  have h1 : t.Spares K (if e.2.passed then t.modHome fun o => { o with fwd := assocPut o.fwd e.1 { e.2 with stale := true } }
      else e.2.msg.flushed.foldl State.queueMsg (t.modHome fun o => { o with fwd := assocPut o.fwd e.1 { e.2 with stale := true } })) :=
    .ite ((refl t).modHome _) (((refl t).modHome _).queueAll _)
  dsimp only
  split
  · exact .ite ((h1.setTxn _).advance _) (h1.setTxn _)
  · exact h1

theorem dropToward (h : s.Spares K t) (p : Nat) : s.Spares K (t.dropToward p) := by
  unfold State.dropToward
  exact (h.unlink _).modSw _

theorem dropFrom (h : s.Spares K t) (p : Nat) : s.Spares K (t.dropFrom p) := by
  unfold State.dropFrom
  exact (h.modSw _).modHome _
theorem orphanFrom (h : s.Spares K t) (p : Nat) : s.Spares K (t.orphanFrom p) := h.modSw _
theorem beginFlush (h : s.Spares K t) (f : FlushScope) : s.Spares K (t.beginFlush f) := h.modSw _

theorem flushPort (h : s.Spares K t) (p : Nat) : s.Spares K (t.flushPort p) := by
  unfold State.flushPort
  dsimp only
  have h1 := fun f g a q n => (((((h.flushScope f g a q).countPort p 26 1).countPort p 27 n).dropToward p).homePortLost p).flushMover f fun m => m.dst == p
  exact State.Spares.beginFlush (.ite ((h1 _ _ _ _ _).dropFrom p) ((h1 _ _ _ _ _).orphanFrom p)) _

/-! ### vPPBs (R141, R146, R148) -/

theorem not_spared_vppb (n : Nat) : ¬ Kept.port.addr (Addr.VPPB_STATE n) := not_spared_of_page (by simp only [Addr.VPPB_STATE]; omega)

theorem modVcfg (h : s.Spares K t) (n : Nat) (f : VppbCfg → VppbCfg) : s.Spares K (t.modVcfg n f) := h.modSw _
theorem hotPlugIrq (h : s.Spares K t) (n : Nat) : s.Spares K (t.hotPlugIrq n) := .ite (h.emit _) h
theorem slotFollows (h : s.Spares K t) (old : State) (n : Nat) : s.Spares K (t.slotFollows old n) := .ite h ((h.modVcfg _ _).hotPlugIrq _)

theorem surpriseDown (h : s.Spares .port t) (n : Nat) : s.Spares .port (t.surpriseDown n) := .ite ((h.emit _).put _ (not_spared_vppb n)) (h.emit _)

theorem flushVppb (h : s.Spares K t) (n gen : Nat) : s.Spares K (t.flushVppb n gen) := by
  unfold State.flushVppb
  exact ((h.flushScope _ _ _ _).flushMover _ _).beginFlush _

theorem toFlushing (h : s.Spares .port t) (n : Nat) : s.Spares .port (t.toFlushing n) :=
  (((h.put _ (not_spared_vppb n)).put _ (not_spared_vppb n)).slotFollows _ _).flushVppb _ _

theorem checkUnbind (h : s.Spares .port t) (n : Nat) : s.Spares .port (t.checkUnbind n) := .ite (h.toFlushing _) h

/-! ### Hives and their hosts (R234 to R236) -/

theorem hive_home {h : Nat} (hh : h < 16) : Addr.HIVE_STATUS h / 0x10000 = 0x70 := by simp only [Addr.HIVE_STATUS]; omega
theorem hostStatus_home {k : Nat} (hk : k < 1024) : Addr.HOST_STATUS k / 0x10000 = 0x70 := by simp only [Addr.HOST_STATUS]; omega
theorem hostCfg_home {k : Nat} (hk : k < 1024) : Addr.HOST_CFG k / 0x10000 = 0x70 := by simp only [Addr.HOST_CFG]; omega

theorem bumpHgen (h : s.Spares K t) {k : Nat} (hk : k < 16) : s.Spares K (t.bumpHgen k) :=
  .ite (h.modHome _) ((h.putHome _ (hive_home hk)).modHome _)

theorem setSlotState (h : s.Spares K t) {k i : Nat} (v : Nat) (hk : 64 * k + i < 1024) : s.Spares K (t.setSlotState k i v) := h.putHome _ (hostStatus_home hk)

theorem slotLeft (h : s.Spares K t) {k i : Nat} (hk : 64 * k + i < 1024) : s.Spares K (t.slotLeft k i) :=
  ((h.setSlotState _ hk).putHome _ (hostCfg_home hk)).raiseHome _

theorem leaveAll (h : s.Spares K t) {k : Nat} (hk : k < 16) : s.Spares K (t.leaveAll k) := by
  refine foldl_mem _ _ (fun t i hi => (refl t).slotLeft ?_) h
  have := List.mem_range.mp (List.mem_of_mem_filter hi)
  omega

theorem aerFault (h : s.Spares K t) (v : Nat) : s.Spares K (t.aerFault v) := by
  rcases t.aerFault_cases v with he | ⟨f, o, he⟩
  · rw [he]
    exact h
  · rw [he]
    exact (h.modHat f).emit o

theorem signalVcs (h : s.Spares K t) (v j : Nat) : s.Spares K (t.signalVcs v j) := .ite (h.emit _) h.upd

theorem fmEvent (h : s.Spares K t) (k : FmEventKind) (p i : Nat) : s.Spares K (t.fmEvent k p i) := .ite (State.Spares.signalVcs h.upd _ _) h.upd

/-- A fault message of a page: only its capture is written. -/
theorem sendFault (h : s.Spares K t) {m : FaultMsg} (hm : ∀ k, 0x80 ≤ k → k < 0x98 → ¬ K.addr (m.source * 0x10000 + k)) : s.Spares K (t.sendFault m) := by
  refine h.trans ⟨State.sendFault_clk _ _, by rw [State.sendFault_fab], fun a ha => State.word_sendFault _ _ ?_, fun c _ => State.counter_congr (State.sendFault_ctrs _ _) c,
    fun _ => by rw [State.sendFault_fab]⟩
  by_contra hne
  refine hm (a - m.source * 0x10000) (by omega) (by omega) ?_
  rwa [Nat.add_sub_cancel' (by omega)]

theorem unwithhold (h : s.Spares K t) : s.Spares K t.unwithhold := .ite (h.modSw _) h

theorem hiveForget (h : s.Spares K t) (k : Nat) : s.Spares K (t.hiveForget k) := h.modHome _
theorem clearSets (h : s.Spares K t) (k : Nat) : s.Spares K (t.clearSets k) := h.modHome _

/-- The state and the cause shown, the next HGEN, the event and the count of a hive that goes down. -/
theorem hiveDownShown (h : s.Spares K t) {k : Nat} (hk : k < 16) (cause slot : Nat) :
    s.Spares K ((((t.puts [(Fld.HIVE_STATUS_STATE k, 4), (Fld.HIVE_STATUS_DOWN_CAUSE k, cause), (Fld.HIVE_STATUS_DOWN_SLOT k, slot)]).bumpHgen k).raise
      (Evt.HOME_HIVE_DOWN k)).count (Ctr.HOME k 15)) := by
  have h1 : s.Spares K (t.puts [(Fld.HIVE_STATUS_STATE k, 4), (Fld.HIVE_STATUS_DOWN_CAUSE k, cause), (Fld.HIVE_STATUS_DOWN_SLOT k, slot)]) := by
    refine puts _ h fun e he => ?_
    simp only [List.mem_cons, List.not_mem_nil, or_false] at he
    rcases he with rfl | rfl | rfl
    all_goals exact K.not_home (hive_home hk)
  exact ((h1.bumpHgen hk).raiseHome (Evt.HOME_HIVE_DOWN k)).countHome k 15 1

/-- A message of the HOME page. -/
theorem sendHome (h : s.Spares K t) (v : State) (kind cls unit atype party : Nat) (addr : Option Nat) : s.Spares K (t.sendFault (v.message kind cls 0x070 unit atype party addr)) :=
  h.sendFault fun j _ _ => K.not_home (by simp only [State.message]; omega)

theorem hiveDown (h : s.Spares K t) {k : Nat} (hk : k < 16) (cause slot : Nat) : s.Spares K (t.hiveDown k cause slot) := by
  unfold State.hiveDown
  have h1 := (foldl State.answerDown (fun t m => (refl t).answerDown m) (t.hiveWaiting k) ((h.hiveDownShown hk cause slot).hiveForget k)).clearSets k
  refine State.Spares.unwithhold (State.Spares.putHome ?_ _)
  exact (((foldl _ (fun t _ => (refl t).aerFault _) _ (h1.modSw _)).fmEvent _ _ _).sendHome _ _ _ _ _ _ _).leaveAll hk

theorem lostSnoops (h : s.Spares K t) (k i : Nat) : s.Spares K (t.lostSnoops k i) := by
  refine foldl _ (fun t e => ?_) _ h
  split
  · exact (refl t).clearTarget _ _ _ _
  · exact refl t

theorem sweepOver (h : s.Spares K t) (k : Nat) : s.Spares K (t.sweepOver k) := .ite (h.putHome _) h

theorem slotLost (h : s.Spares K t) {k i : Nat} (hk : k < 16) (hi : i < 64) : s.Spares K (t.slotLost k i) :=
  .ite h (.ite (h.hiveDown hk _ _) ((((h.setSlotState _ (by omega)).raiseHome _).lostSnoops _ _).sweepOver _))

theorem slotsLost (c : State → Nat → Bool) (h : s.Spares K t) :
    s.Spares K ((List.range 1024).foldl (fun s k => if c s k then s.slotLost (k / 64) (k % 64) else s) t) := by
  refine foldl_mem _ _ (fun t k hk => ?_) h
  have := List.mem_range.mp hk
  exact .ite ((refl t).slotLost (by omega) (by omega)) (refl t)

theorem hostLost (h : s.Spares K t) (v : Nat) : s.Spares K (t.hostLost v) := slotsLost _ h
theorem pidLost (h : s.Spares K t) (v : Nat) : s.Spares K (t.pidLost v) := slotsLost _ h

/-! ### Channels, sessions and reachability (R293, R335, R405) -/

theorem stopChannel (h : s.Spares .port t) {c : Nat} (hc : c < 256) : s.Spares .port (t.stopChannel c) := by
  refine .ite h (puts _ (h.modMover _) ?_)
  intro e he
  simp only [List.mem_cons, List.not_mem_nil, or_false] at he
  rcases he with rfl | rfl
  all_goals exact not_spared_of_page (by simp only [Fld.CH_STATUS_INFLIGHT, Fld.CH_CTL_ENABLE, Addr.CH_STATUS, Addr.CH_CTL]; omega)

theorem stopVf (h : s.Spares .port t) (v : Nat) : s.Spares .port (t.stopVf v) := by
  refine .ite (foldl_mem _ _ (fun w c hc => (refl w).stopChannel ?_) h) h
  obtain ⟨j, hj, rfl⟩ := List.mem_map.mp hc
  have h1 := List.mem_range.mp hj
  have h2 : t.get (Fld.VF_RES_COUNT v) < 2 ^ 7 := State.get_lt _ _
  have h3 : t.get (Fld.VF_RES_FIRST v) < 2 ^ 6 := State.get_lt _ _
  omega

theorem stopVcsChannels (h : s.Spares .port t) (v : Nat) : s.Spares .port (t.stopVcsChannels v) := foldl _ (fun t u => (refl t).stopVf u) _ h

theorem endDoe (h : s.Spares .port t) (v : Nat) : s.Spares .port (t.endDoe v) := by
  have h1 : s.Spares .port { t with sec := { t.sec with sessions := t.sec.sessions.filter fun x => !(match x.transport with | .doe u => u.val == v | _ => false) } } := h.upd
  exact h1.put _ (show ¬ Spared Fld.SEC_SESSIONS_ACTIVE.addr by unfold Spared; decide)

theorem modPair (h : s.Spares .port t) (f : Pair → Pair) : s.Spares .port (t.modPair f) := h.upd (hp := False.elim)

theorem countPair (h : s.Spares .port t) (k e n : Nat) : s.Spares .port (t.count (Ctr.PAIR k e) n) :=
  h.trans ⟨rfl, rfl, fun _ _ => rfl, fun d (hd : d < 0x8010000) => State.counter_count_other _ _ (by simp only [Ctr.PAIR, perfAddr]; omega), False.elim⟩

theorem updateReach (h : s.Spares .port t) : s.Spares .port t.updateReach :=
  foldl _ (fun t i => (refl t).pidLost i) _ (((h.modPair _).raiseIf _ _).raiseIf _ _)

/-! ### Mirroring (R306) -/

theorem sendFrames (h : s.Spares .port t) (n : Nat) : s.Spares .port (t.sendFrames n) := ((h.modPair _).countPair _ _ _).countPair _ _ _

theorem pumpRecords (l : List Rec) : ∀ {t : State}, s.Spares .port t → s.Spares .port (t.pumpRecords l) := by
  induction l with
  | nil => exact fun h => h
  | cons r rest ih =>
    intro t h
    simp only [State.pumpRecords]
    split
    · exact ih h
    · split
      · exact ih (((h.sendFrames _).emit _).modPair _)
      · exact .ite ((h.sendFrames _).modPair _) h

theorem pump (h : s.Spares .port t) : s.Spares .port t.pump := by
  unfold State.pump
  refine pumpRecords _ ?_
  have h1 : s.Spares .port (if t.fab.pair.ackDue && t.canSend 1 then
      ((t.sendFrames 1).modPair fun p => { p with ackDue := false }).emit (.ackRec true (t.get Fld.TDM_ACKSEQ_SEQ) t.fab.pair.mepoch) else t) :=
    .ite (((h.sendFrames _).modPair _).emit _) h
  exact .ite ((((h1.sendFrames _).modPair _).emit _).countPair _ _ _) h1

theorem appendOne (h : s.Spares .port t) (g : Nat) (b : RecBody) : s.Spares .port (t.appendOne g b) := by
  unfold State.appendOne
  refine pump (State.Spares.put (State.Spares.countPair (State.Spares.modPair ?_ _) _ _ _) _)
  exact .ite ((h.put _).put _) (h.put _)

theorem closeEpoch (h : s.Spares .port t) : s.Spares .port t.closeEpoch := .ite (((h.modPair _).appendOne _ _).modPair _) (h.raise _)
theorem append (h : s.Spares .port t) (g : Nat) (b : RecBody) : s.Spares .port (t.append g b) := .ite (h.appendOne g b).closeEpoch (h.appendOne g b)
theorem issue (h : s.Spares .port t) (g : Nat) (b : RecBody) : s.Spares .port (t.issue g b) := .ite h (.ite (h.append g b) ((h.put _).raise _))

theorem issueEntry (h : s.Spares .port t) (regs : List Nat) (e : Nat) : s.Spares .port (t.issueEntry regs e) := by
  unfold State.issueEntry
  split
  · exact h
  · exact h.issue _ _

theorem lagTiles (h : s.Spares .port t) (old : State) : s.Spares .port (t.lagTiles old) := .ite h h.upd

theorem mirror (h : s.Spares .port t) (old : State) : s.Spares .port (t.mirror old) := by
  unfold State.mirror
  have h1 := h.lagTiles old
  exact .ite h1 (foldl _ (fun t _ => (refl t).issue _ _) _ (foldl _ (fun t _ => (refl t).issueEntry _ _) _ h1))

/-! ### What is read of it -/

theorem get (h : s.Spares K t) {f : Field} (hf : K.addr f.addr) : t.get f = s.get f := State.get_of_word (h.word _ hf)
theorem flag (h : s.Spares K t) {f : Field} (hf : K.addr f.addr) : t.flag f = s.flag f := by rw [State.flag, State.flag, h.get hf]

end State.Spares
end Sys2Proof.Machine
end

section
/-! PROOFS. A port that is held (R120 to R122, R138): what a hold shows, and what it leaves alone (for O5, O39 and O50). -/
namespace Sys2Proof.Machine
open Sys2Proof
set_option Elab.async false

/-! ### What the end of a port's link leaves alone -/

/-- The fields of a lane that go down with its port. -/
def laneStilled (i : Nat) : List Field :=
  [Fld.LANE_STATUS_RATE i, Fld.LANE_STATUS_POL_INV i, Fld.LANE_STATUS_SIG_DET i, Fld.LANE_STATUS_CDR_LOCK i, Fld.LANE_EYE_STATUS_STATE i, (Evt.LANE_EYE_DONE i).field]

/-- The fields of a port that end with its link. -/
def portStilled (p : Nat) : List Field :=
  [Fld.PORT_DSX_STATUS_NEG p, Fld.PORT_DSX_STATUS_TX p, Fld.PORT_DSX_STATUS_RX p, Fld.PORT_DSX_STATUS_UPSTREAM p, Fld.PORT_DSX_STATUS_VER p, Fld.PORT_STATUS_RATE p,
    Fld.PORT_STATUS_FLIT p, Fld.PORT_STATUS_CXL p, Fld.PORT_STATUS_CACHE p, Fld.PORT_STATUS_MEM p, Fld.PORT_STATUS_REVERSED p]

/-- A field that the end of no port's link changes. -/
structure Field.Enduring (g : Field) : Prop where
  spared : Spared g.addr
  lane : ∀ i, ∀ f ∈ laneStilled i, g.clearOf f = true
  port : ∀ p, ∀ f ∈ portStilled p, g.clearOf f = true

theorem lanePage_eq (i : Nat) : lanePage i = 0x100 + i := by
  unfold lanePage
  split <;> omega

theorem laneStilled_addr {i : Nat} {f : Field} (h : f ∈ laneStilled i) : f.addr / 0x10000 = 0x100 + i ∧ (f.addr % 0x10000 = 0x40 ∧ f.lo = 3 ∧ f.width = 1 ∨
    f.addr % 0x10000 = 0x1000 ∧ (f.lo + f.width ≤ 5 ∨ 7 ≤ f.lo ∧ f.lo + f.width ≤ 8) ∨ f.addr % 0x10000 = 0x1208) := by
  simp only [laneStilled, List.mem_cons, List.not_mem_nil, or_false] at h
  have hst : Addr.LANE_STATUS i / 0x10000 = 0x100 + i ∧ Addr.LANE_STATUS i % 0x10000 = 0x1000 := by
    simp only [Addr.LANE_STATUS, lanePage_eq]
    omega
  rcases h with rfl | rfl | rfl | rfl | rfl | rfl
  · exact ⟨hst.1, .inr (.inl ⟨hst.2, .inl (show 0 + 3 ≤ 5 by decide)⟩)⟩
  · exact ⟨hst.1, .inr (.inl ⟨hst.2, .inr ⟨show 7 ≤ 7 by decide, show 7 + 1 ≤ 8 by decide⟩⟩)⟩
  · exact ⟨hst.1, .inr (.inl ⟨hst.2, .inl (show 3 + 1 ≤ 5 by decide)⟩)⟩
  · exact ⟨hst.1, .inr (.inl ⟨hst.2, .inl (show 4 + 1 ≤ 5 by decide)⟩)⟩
  · simp only [Fld.LANE_EYE_STATUS_STATE, Addr.LANE_EYE_STATUS, lanePage_eq]
    omega
  · have ha : (Evt.LANE_EYE_DONE i).field.addr = (0x100 + i) * 0x10000 + 0x40 := by
      rw [← lanePage_eq]
      rfl
    exact ⟨by omega, .inl ⟨by omega, rfl, rfl⟩⟩

theorem portStilled_addr {p : Nat} {f : Field} (h : f ∈ portStilled p) : f.addr = Addr.PORT_STATUS p ∧ f.lo + f.width ≤ 20 ∨ f.addr = Addr.PORT_DSX_STATUS p := by
  simp only [portStilled, List.mem_cons, List.not_mem_nil, or_false] at h
  rcases h with rfl | rfl | rfl | rfl | rfl | rfl | rfl | rfl | rfl | rfl | rfl
  · exact .inr rfl
  · exact .inr rfl
  · exact .inr rfl
  · exact .inr rfl
  · exact .inr rfl
  · exact .inl ⟨rfl, show 9 + 3 ≤ 20 by decide⟩
  · exact .inl ⟨rfl, show 12 + 2 ≤ 20 by decide⟩
  · exact .inl ⟨rfl, show 14 + 1 ≤ 20 by decide⟩
  · exact .inl ⟨rfl, show 15 + 1 ≤ 20 by decide⟩
  · exact .inl ⟨rfl, show 16 + 1 ≤ 20 by decide⟩
  · exact .inl ⟨rfl, show 19 + 1 ≤ 20 by decide⟩

/-- A field of a register that no link's end writes. -/
theorem Field.enduring_of_addr {g : Field} (hw : g.lo + g.width ≤ 32) (hs : Spared g.addr)
    (hl : g.addr / 0x10000 < 0x100 ∨ g.addr % 0x10000 ≠ 0x40 ∧ g.addr % 0x10000 ≠ 0x1000 ∧ g.addr % 0x10000 ≠ 0x1208)
    (hp : g.addr / 0x10000 < 0x10 ∨ g.addr % 0x100 ≠ 8 ∧ g.addr % 0x100 ≠ 0x18) : g.Enduring := by
  refine ⟨hs, fun i f hf => Field.clearOf_of_addr hw ?_, fun p f hf => Field.clearOf_of_addr hw ?_⟩
  · obtain ⟨h1, h2⟩ := laneStilled_addr hf
    omega
  · rcases portStilled_addr hf with ⟨h, -⟩ | h
    all_goals
      rw [h]
      simp only [Addr.PORT_STATUS, Addr.PORT_DSX_STATUS]
      omega

/-- A field of the CLK page or of the island, sessions aside. -/
theorem Field.enduring_of_page {g : Field} (hw : g.lo + g.width ≤ 32) (h : g.addr / 0x10000 = 1 ∨ g.addr / 0x10000 = 7 ∧ g.addr ≠ Addr.SEC_SESSIONS) : g.Enduring :=
  Field.enduring_of_addr hw (h.elim .inl fun h => .inr (.inl h)) (.inl (by omega)) (.inl (by omega))

/-- A field of PORT_CFG or PORT_CTL, or of the registers of a port group. -/
theorem Field.enduring_of_group {g : Field} {p x : Nat} (hp : p < 64) (hg : g.addr = (0x10 + p / 4) * 0x10000 + x) (hw : g.lo + g.width ≤ 32) (hx : 0x1000 ≤ x) (hx' : x < 0x2000)
    (h : x % 0x100 < 8) : g.Enduring :=
  Field.enduring_of_addr hw (.inr (.inr (.inl (by omega)))) (.inl (by omega)) (.inr (by omega))

/-- What the end of a port's link keeps. -/
structure State.Stills (s t : State) : Prop where
  clk : t.clk = s.clk
  up : t.fab.up = s.fab.up
  get : ∀ g : Field, g.Enduring → t.get g = s.get g
  counter : ∀ c, c < 0x8010000 → t.counter c = s.counter c

theorem State.Spares.stills {s t : State} (h : s.Spares .port t) : s.Stills t := ⟨h.clk, h.up, fun _ hg => h.get hg.spared, h.counter⟩

namespace State.Stills
variable {s t u : State}

theorem refl (s : State) : s.Stills s := ⟨rfl, rfl, fun _ _ => rfl, fun _ _ => rfl⟩

theorem trans (h : s.Stills t) (h' : t.Stills u) : s.Stills u :=
  ⟨h'.clk.trans h.clk, h'.up.trans h.up, fun g hg => (h'.get g hg).trans (h.get g hg), fun c hc => (h'.counter c hc).trans (h.counter c hc)⟩

theorem spares (h : s.Stills t) (h' : t.Spares .port u) : s.Stills u := h.trans h'.stills

theorem put (h : s.Stills t) {f : Field} (v : Nat) (hf : ∀ g : Field, g.Enduring → g.clearOf f = true) : s.Stills (t.put f v) :=
  h.trans ⟨rfl, rfl, fun g hg => State.get_put_clear _ _ (hf g hg), fun _ _ => rfl⟩

theorem putLane (h : s.Stills t) (i : Nat) {f : Field} (v : Nat) (hf : f ∈ laneStilled i := by simp [laneStilled]) : s.Stills (t.put f v) := h.put v fun _ hg => hg.lane i f hf
theorem putPort (h : s.Stills t) (p : Nat) {f : Field} (v : Nat) (hf : f ∈ portStilled p := by simp [portStilled]) : s.Stills (t.put f v) := h.put v fun _ hg => hg.port p f hf

theorem ite {c : Prop} [Decidable c] (h : s.Stills t) (hu : s.Stills u) : s.Stills (if c then t else u) := by
  split
  · exact h
  · exact hu

theorem foldl {α : Type} (f : State → α → State) (hf : ∀ (t : State) (x : α), t.Stills (f t x)) (l : List α) : ∀ {t : State}, s.Stills t → s.Stills (l.foldl f t) := by
  induction l with
  | nil => exact fun h => h
  | cons x l ih => exact fun h => ih (h.trans (hf _ x))

theorem modLanes (h : s.Stills t) (f : Lanes → Lanes) : s.Stills (t.modLanes f) := h.trans ⟨rfl, rfl, fun _ _ => rfl, fun _ _ => rfl⟩

theorem abortEye (h : s.Stills t) (i : Nat) : s.Stills (t.abortEye i) := by
  refine .ite ((h.putLane i (f := Fld.LANE_EYE_STATUS_STATE i) 4).trans ⟨State.raise_clk _ _, by rw [State.raise_fab], fun g hg => ?_, fun c _ => State.counter_congr (State.raise_ctrs _ _) c⟩) h
  exact State.get_raise_clear _ (hg.lane i _ (by simp [laneStilled]))

theorem laneSignal (h : s.Stills t) (i : Nat) (on : Bool) : s.Stills (t.laneSignal i on) := by
  rw [State.laneSignal_eq]
  exact .ite (((h.putLane i _).putLane i _).putLane i _) ((h.putLane i _).putLane i _)

theorem laneDown (h : s.Stills t) (i : Nat) : s.Stills (t.laneDown i) := by
  rw [State.laneDown_eq]
  exact ((((h.modLanes _).abortEye i).putLane i _).putLane i _).laneSignal i false

theorem dsxSlept (h : s.Stills t) (p : Nat) : s.Stills (t.dsxSlept p) := by
  have h1 : s.Stills (if t.dsxTx p = 3 then t.count (Ctr.PORT p 13) (t.now - (t.portX p).txSince) else t) := .ite (h.spares ((State.Spares.refl t).countPort p 13 _)) h
  exact .ite (h1.spares ((State.Spares.refl _).countPort p 14 _)) h1

/-- Directional sleep ends without a wake. -/
theorem dsxOff (h : s.Stills t) (p : Nat) : s.Stills (t.dsxOff p false) :=
  ((((((h.dsxSlept p).modLanes _).putPort p _).putPort p _).putPort p _).putPort p _).putPort p _

theorem portStops (h : s.Stills t) (p : Nat) : s.Stills (t.portStops p) := by
  have h1 := (foldl State.laneDown (fun t i => (refl t).laneDown i) (t.portLanes p) h).dsxOff p
  exact ((((((h1.modLanes _).putPort p _).putPort p _).putPort p _).putPort p _).putPort p _).putPort p _

end State.Stills

/-! ### A link that is lost -/

/-- A port is not up. -/
def State.withoutLink (s : State) (p : Nat) : State := { s with fab := { s.fab with up := s.fab.up.filter fun q => q != p } }

theorem State.linkUp_withoutLink (s : State) (p : Nat) : (s.withoutLink p).linkUp p = false := by
  simp [State.linkUp, State.withoutLink]

theorem State.linkUp_congr {s t : State} (h : t.fab.up = s.fab.up) (p : Nat) : t.linkUp p = s.linkUp p := by rw [State.linkUp, State.linkUp, h]

/-- The end of a port that was up tells vPPBs, hosts and homes (R148, R149, R153, R236). -/
theorem State.spares_portDown (s : State) (p : Nat) : (s.withoutLink p).Spares .port (s.portDown p) := by
  have h1 : (s.withoutLink p).Spares .port ((((s.withoutLink p).flushPort p).boundTo p).foldl (fun u n => if u.vppbState n = 1 then (u.surpriseDown n).slotFollows s n else u.checkUnbind n)
      ((s.withoutLink p).flushPort p)) :=
    State.Spares.foldl _ (fun u _ => .ite (((State.Spares.refl u).surpriseDown _).slotFollows _ _) ((State.Spares.refl u).checkUnbind _)) _ ((State.Spares.refl _).flushPort p)
  unfold State.portDown
  dsimp only
  split
  · exact .ite ((((h1.raise _).hostLost _).stopVcsChannels _)) h1
  · exact h1

theorem State.spares_portLost (s : State) {p : Nat} (hp : p < 64) : (s.withoutLink p).Spares .port (s.portLost p) := by
  unfold State.portLost
  split
  · have hev : ¬ Spared (evtPendAddr (Evt.PORT_LINK_DOWN p).page) := by
      simp only [Spared, evtPendAddr, Evt.PORT_LINK_DOWN, Addr.SEC_SESSIONS]
      omega
    have h0 : s.Spares .port ((s.raise (Evt.PORT_LINK_DOWN p)).count (Ctr.PORT p 7)) := ((State.Spares.refl s).raise _ hev).countPort p 7 1
    have h1 : (s.withoutLink p).Spares .port (((s.raise (Evt.PORT_LINK_DOWN p)).count (Ctr.PORT p 7)).withoutLink p) :=
      ⟨h0.clk, congrArg (fun l : List Nat => l.filter fun q => q != p) h0.up, h0.word, h0.counter, False.elim⟩
    have h2 := h1.trans (State.spares_portDown _ p)
    have h3 : (s.withoutLink p).Spares .port (match (((s.raise (Evt.PORT_LINK_DOWN p)).count (Ctr.PORT p 7)).portDown p).vcsOn p with
        | some v => if (((s.raise (Evt.PORT_LINK_DOWN p)).count (Ctr.PORT p 7)).portDown p).roleIs p 0 then
            (((s.raise (Evt.PORT_LINK_DOWN p)).count (Ctr.PORT p 7)).portDown p).endDoe v else ((s.raise (Evt.PORT_LINK_DOWN p)).count (Ctr.PORT p 7)).portDown p
        | none => ((s.raise (Evt.PORT_LINK_DOWN p)).count (Ctr.PORT p 7)).portDown p) := by
      split
      · exact .ite (h2.endDoe _) h2
      · exact h2
    exact .ite h3.updateReach h3
  · next h =>
    refine ⟨rfl, ?_, fun _ _ => rfl, fun _ _ => rfl, False.elim⟩
    refine (List.filter_eq_self.mpr fun q hq => ?_).symm
    simp only [State.linkUp, List.contains_eq_mem, decide_eq_true_eq] at h
    exact bne_iff_ne.mpr fun hqp => h (hqp ▸ hq)

/-! ### A hold (R120, R138) -/

/-- The fields a hold writes beside those that end with the link. -/
def holdFields (p : Nat) : List Field := [Fld.PORT_CTL_HOLD p, Fld.PORT_STATUS_HOLD_REASON p, Fld.PORT_STATUS_LINK p, (Evt.PORT_HELD p).field]

/-- A port held with a reason; everything else but what ends with its link is as before. -/
structure State.Holds (s t : State) (p reason : Nat) : Prop where
  held : t.portHeld p = true
  reason : t.get (Fld.PORT_STATUS_HOLD_REASON p) = reason
  down : t.linkUp p = false
  clk : t.clk = s.clk
  get : ∀ g : Field, g.Enduring → (∀ f ∈ holdFields p, g.clearOf f = true) → t.get g = s.get g
  counter : ∀ c, c < 0x8010000 → t.counter c = s.counter c

theorem enduring_hold {p : Nat} (hp : p < 64) : (Fld.PORT_CTL_HOLD p).Enduring :=
  Field.enduring_of_group (x := 0x1104 + 0x100 * (p % 4)) hp (Nat.add_assoc _ _ _) (show 0 + 1 ≤ 32 by decide) (by omega) (by omega) (by omega)

theorem enduring_en {p : Nat} (hp : p < 64) : (Fld.PORT_CFG_EN p).Enduring :=
  Field.enduring_of_group (x := 0x1100 + 0x100 * (p % 4)) hp (Nat.add_assoc _ _ _) (show 0 + 1 ≤ 32 by decide) (by omega) (by omega) (by omega)

theorem enduring_present {p : Nat} (hp : p < 64) : (Fld.PORTG_STATUS_PRESENT (p / 4)).Enduring :=
  Field.enduring_of_group (x := 0x1004) hp rfl (show 4 + 4 ≤ 32 by decide) (by decide) (by decide) (by decide)

theorem enduring_bifur {p : Nat} (hp : p < 64) : (Fld.PORTG_STATUS_BIFUR_ACT (p / 4)).Enduring :=
  Field.enduring_of_group (x := 0x1004) hp rfl (show 0 + 2 ≤ 32 by decide) (by decide) (by decide) (by decide)

theorem enduring_reason {p : Nat} (hp : p < 64) : (Fld.PORT_STATUS_HOLD_REASON p).Enduring := by
  have hw : (Fld.PORT_STATUS_HOLD_REASON p).lo + (Fld.PORT_STATUS_HOLD_REASON p).width ≤ 32 := (show 20 + 4 ≤ 32 by decide)
  refine ⟨.inr (.inr (.inl (by simp only [Fld.PORT_STATUS_HOLD_REASON, Addr.PORT_STATUS]; omega))), fun i f hf => Field.clearOf_of_addr hw ?_, fun q f hf => ?_⟩
  · obtain ⟨h1, h2⟩ := laneStilled_addr hf
    simp only [Fld.PORT_STATUS_HOLD_REASON, Addr.PORT_STATUS]
    omega
  · rcases portStilled_addr hf with ⟨-, h⟩ | h
    · exact Field.clearOf_iff.mpr ⟨hw, .inr (.inr h)⟩
    · refine Field.clearOf_of_addr hw ?_
      rw [h]
      simp only [Fld.PORT_STATUS_HOLD_REASON, Addr.PORT_STATUS, Addr.PORT_DSX_STATUS]
      omega

/-- A field of LANE_STATUS that is not of the lane's signal. -/
theorem Field.enduring_of_lane {g : Field} {i : Nat} (hi : i < 265) (hg : g.addr = Addr.LANE_STATUS i) (hw : g.lo + g.width ≤ 32) (h : 5 ≤ g.lo ∧ g.lo + g.width ≤ 7 ∨ 8 ≤ g.lo) :
    g.Enduring := by
  have ha : g.addr = (0x100 + i) * 0x10000 + 0x1000 := by rw [hg, Addr.LANE_STATUS, lanePage_eq]
  refine ⟨.inr (.inr (.inr (by omega))), fun j f hf => Field.clearOf_iff.mpr ⟨hw, ?_⟩, fun p f hf => Field.clearOf_of_addr hw ?_⟩
  · obtain ⟨h1, h2⟩ := laneStilled_addr hf
    unfold Field.apart
    omega
  · rcases portStilled_addr hf with ⟨h1, -⟩ | h1
    all_goals
      rw [h1, ha]
      simp only [Addr.PORT_STATUS, Addr.PORT_DSX_STATUS]
      omega

theorem enduring_failed {i : Nat} (hi : i < 265) : (Fld.LANE_STATUS_FAILED i).Enduring := Field.enduring_of_lane hi rfl (show 10 + 1 ≤ 32 by decide) (.inr (show 8 ≤ 10 by decide))
theorem enduring_cause {i : Nat} (hi : i < 265) : (Fld.LANE_STATUS_FAIL_CAUSE i).Enduring := Field.enduring_of_lane hi rfl (show 16 + 4 ≤ 32 by decide) (.inr (show 8 ≤ 16 by decide))
theorem enduring_calDone {i : Nat} (hi : i < 265) : (Fld.LANE_STATUS_CAL_DONE i).Enduring :=
  Field.enduring_of_lane hi rfl (show 5 + 1 ≤ 32 by decide) (.inl ⟨show 5 ≤ 5 by decide, show 5 + 1 ≤ 7 by decide⟩)

theorem enduring_laneFail {i : Nat} (hi : i < 265) : (Evt.LANE_LANE_FAIL i).field.Enduring := by
  have hw : (Evt.LANE_LANE_FAIL i).field.lo + (Evt.LANE_LANE_FAIL i).field.width ≤ 32 := (show 1 + 1 ≤ 32 by decide)
  have ha : (Evt.LANE_LANE_FAIL i).field.addr = (0x100 + i) * 0x10000 + 0x40 := by
    rw [← lanePage_eq]
    rfl
  refine ⟨.inr (.inr (.inr (by omega))), fun j f hf => Field.clearOf_iff.mpr ⟨hw, ?_⟩, fun p f hf => Field.clearOf_of_addr hw ?_⟩
  · obtain ⟨h1, h2⟩ := laneStilled_addr hf
    unfold Field.apart
    simp only [Event.field, Evt.LANE_LANE_FAIL] at ha ⊢
    omega
  · rcases portStilled_addr hf with ⟨h1, -⟩ | h1
    all_goals
      rw [h1, ha]
      simp only [Addr.PORT_STATUS, Addr.PORT_DSX_STATUS]
      omega

/-- The registers as the hold shows it, before the link goes (R120). -/
def State.holdShown (s : State) (p reason : Nat) : State :=
  ((((s.put (Fld.PORT_CTL_HOLD p) 1).put (Fld.PORT_STATUS_HOLD_REASON p) reason).put (Fld.PORT_STATUS_LINK p) (bit (s.portEn p))).raise (Evt.PORT_HELD p))

theorem State.holdPort_eq {s : State} {p : Nat} (r : Nat) (h : s.portHeld p = false) : s.holdPort p r = ((s.holdShown p r).portLost p).portStops p := by
  rw [State.holdPort, if_neg (by rw [h]; decide)]
  rfl

theorem State.get_holdShown (s : State) (p r : Nat) {g : Field} (hg : ∀ f ∈ holdFields p, g.clearOf f = true) : (s.holdShown p r).get g = s.get g := by
  simp only [holdFields, List.forall_mem_cons, List.not_mem_nil, false_imp_iff, implies_true, and_true] at hg
  obtain ⟨h1, h2, h3, h4⟩ := hg
  rw [State.holdShown, State.get_raise_clear _ h4, State.get_put_clear _ _ h3, State.get_put_clear _ _ h2, State.get_put_clear _ _ h1]

theorem State.holdPort_holds {s : State} {p r : Nat} (hp : p < 64) (hr : r < 16) (h : s.portHeld p = false) : s.Holds (s.holdPort p r) p r := by
  rw [State.holdPort_eq r h]
  have hst := (State.spares_portLost (s.holdShown p r) hp).stills.trans ((State.Stills.refl _).portStops p)
  have hev : ∀ g : Field, g.lo + g.width ≤ 32 → 0x1000 ≤ g.addr % 0x10000 → g.clearOf (Evt.PORT_HELD p).field = true := fun g hw ha =>
    Field.clearOf_of_addr hw (by simp only [Event.field, Evt.PORT_HELD, evtPendAddr]; omega)
  have hctl : Addr.PORT_CTL p ≠ Addr.PORT_STATUS p := by simp only [Addr.PORT_CTL, Addr.PORT_STATUS]; omega
  refine ⟨?_, ?_, ?_, ?_, fun g hg hcl => (hst.get g hg).trans (State.get_holdShown s p r hcl), fun c hc => ?_⟩
  · rw [State.portHeld, State.flag, hst.get _ (enduring_hold hp)]
    refine beq_iff_eq.mpr ?_
    show (s.holdShown p r).get (Fld.PORT_CTL_HOLD p) = 1
    rw [State.holdShown, State.get_raise_clear _ (hev _ (show 0 + 1 ≤ 32 by decide) (by simp only [Fld.PORT_CTL_HOLD, Addr.PORT_CTL]; omega)),
      State.get_put_clear _ _ (Field.clearOf_of_addr (show 0 + 1 ≤ 32 by decide) hctl), State.get_put_clear _ _ (Field.clearOf_of_addr (show 0 + 1 ≤ 32 by decide) hctl),
      State.get_put_fits _ (Field.fits_of rfl)]
  · rw [hst.get _ (enduring_reason hp)]
    show (s.holdShown p r).get (Fld.PORT_STATUS_HOLD_REASON p) = r
    rw [State.holdShown, State.get_raise_clear _ (hev _ (show 20 + 4 ≤ 32 by decide) (by simp only [Fld.PORT_STATUS_HOLD_REASON, Addr.PORT_STATUS]; omega)),
      State.get_put_clear _ _ (Field.clearOf_iff.mpr ⟨show 20 + 4 ≤ 32 by decide, .inr (.inr (show 0 + 4 ≤ 20 by decide))⟩), State.get_put_same _ _ _ (show 20 + 4 ≤ 32 by decide)]
    exact Nat.mod_eq_of_lt hr
  · rw [State.linkUp_congr hst.up]
    exact State.linkUp_withoutLink _ _
  · rw [hst.clk]
    show (s.holdShown p r).clk = s.clk
    rw [State.holdShown, State.raise_clk, State.put_clk, State.put_clk, State.put_clk]
  · rw [hst.counter c hc]
    refine State.counter_congr ?_ c
    show (s.holdShown p r).ctrs = s.ctrs
    rw [State.holdShown, State.raise_ctrs, State.put_ctrs, State.put_ctrs, State.put_ctrs]

/-- Anything spared may follow a hold. -/
theorem State.Holds.stills {s t u : State} {p r : Nat} (hp : p < 64) (h : s.Holds t p r) (h' : t.Stills u) : s.Holds u p r :=
  ⟨by rw [State.portHeld, State.flag, h'.get _ (enduring_hold hp)]; exact h.held, (h'.get _ (enduring_reason hp)).trans h.reason, (State.linkUp_congr h'.up p).trans h.down,
    h'.clk.trans h.clk, fun g hg hc => (h'.get g hg).trans (h.get g hg hc), fun c hc => (h'.counter c hc).trans (h.counter c hc)⟩

/-- The hardware's hold of a port that is not held (R121). -/
theorem State.hwHold_holds {s : State} {p r : Nat} (party : Nat) (hp : p < 64) (hr : r < 16) (h : s.portHeld p = false) : s.Holds (s.hwHold p r party) p r := by
  rw [State.hwHold, if_neg (by rw [h]; decide)]
  refine (State.holdPort_holds hp hr h).stills hp (State.Spares.stills (((State.Spares.refl _).countPort p 8 1).sendFault fun k h1 h2 => ?_))
  show ¬ Spared _
  simp only [State.message, Spared, Addr.SEC_SESSIONS]
  omega
end Sys2Proof.Machine
end

section
/-! PROOFS. The IDE streams of a port (O50, R407 to R409). -/
namespace Sys2Proof.Machine
open Sys2Proof
set_option Elab.async false

/-! ### A field written as it was -/

theorem insertBits_bitsOf (w lo width : Nat) : insertBits w lo width (bitsOf w lo width) = w := by
  refine Nat.eq_of_testBit_eq fun i => ?_
  rw [testBit_insertBits]
  split
  · next h =>
    rw [testBit_bitsOf, Nat.add_sub_cancel' h.1, decide_eq_true (by omega), Bool.true_and]
  · rfl

theorem State.word_put_get (s : State) (f : Field) (a : Nat) : (s.put f (s.get f)).word a = s.word a := by
  by_cases ha : a = f.addr
  · subst ha
    rw [State.put, State.word_setWord_same, State.get, insertBits_bitsOf, BitVec.ofNat_toNat, BitVec.setWidth_eq]
  · exact State.word_put_other _ _ ha

theorem Frame.andPutGet {ps : List Part} {fs : List Field} {s t : State} (h : Frame ps fs s t) {f : Field} {v : Nat} (hv : t.get f = v) : Frame ps fs s (t.put f v) := by
  subst hv
  exact h.regs (t.put_eq f _) fun _ _ _ _ => State.get_of_word (State.word_put_get t f _)

theorem Field.clearOf_below {g f : Field} (hw : g.lo + g.width ≤ 32) (h : g.lo + g.width ≤ f.lo) : g.clearOf f = true := Field.clearOf_iff.mpr ⟨hw, .inr (.inl h)⟩
theorem Field.clearOf_above {g f : Field} (hw : g.lo + g.width ≤ 32) (h : f.lo + f.width ≤ g.lo) : g.clearOf f = true := Field.clearOf_iff.mpr ⟨hw, .inr (.inr h)⟩

/-! ### The fields of a stream -/

theorem ideField_addr (p : Nat) (cm : Bool) : (ideField p cm).addr = 0x71100 + 4 * p := by cases cm <;> rfl
theorem ideKset_addr (p : Nat) (cm : Bool) : (ideKset p cm).addr = 0x71100 + 4 * p := by cases cm <;> rfl
theorem ideField_bits (p : Nat) (cm : Bool) : (ideField p cm).lo + (ideField p cm).width ≤ 4 ∧ (ideField p cm).width = 2 := by cases cm <;> exact ⟨by simp [ideField, Fld.SEC_IDE_PORT_CM, Fld.SEC_IDE_PORT_IO], rfl⟩
theorem ideKset_bits (p : Nat) (cm : Bool) : 4 ≤ (ideKset p cm).lo ∧ (ideKset p cm).lo + (ideKset p cm).width ≤ 6 ∧ (ideKset p cm).width = 1 := by
  cases cm <;> exact ⟨by simp [ideKset, Fld.SEC_IDE_PORT_CM_KSET, Fld.SEC_IDE_PORT_IO_KSET], by simp [ideKset, Fld.SEC_IDE_PORT_CM_KSET, Fld.SEC_IDE_PORT_IO_KSET], rfl⟩

theorem ideField_clear_kset (p : Nat) (cm : Bool) : (ideField p cm).clearOf (ideKset p cm) = true := by
  obtain ⟨h1, -⟩ := ideField_bits p cm
  obtain ⟨h2, -⟩ := ideKset_bits p cm
  exact Field.clearOf_below (by omega) (by omega)

theorem ideKset_clear_field (p : Nat) (cm : Bool) : (ideKset p cm).clearOf (ideField p cm) = true := by
  obtain ⟨h1, -⟩ := ideField_bits p cm
  obtain ⟨h2, h3, -⟩ := ideKset_bits p cm
  exact Field.clearOf_above (by omega) (by omega)

/-- A field of SEC_IDE_PORT below the count of rekeys. -/
theorem ide_clear_rekeys (p : Nat) {g : Field} (h : g.lo + g.width ≤ 6) : g.clearOf (Fld.SEC_IDE_PORT_REKEYS p) = true :=
  Field.clearOf_below (by omega) (show g.lo + g.width ≤ 16 by omega)

/-- The events of the island lie outside SEC_IDE_PORT. -/
theorem ide_clear_event {g : Field} {e : Event} {p : Nat} (ha : g.addr = 0x71100 + 4 * p) (hw : g.lo + g.width ≤ 32) (he : e.page = 7) : g.clearOf e.field = true :=
  Field.clearOf_of_addr hw (by rw [ha]; simp only [Event.field, evtPendAddr, he]; omega)

theorem event_clear_ide {f : Field} {e : Event} {p : Nat} (ha : f.addr = 0x71100 + 4 * p) (hw : e.field.lo + e.field.width ≤ 32) (he : e.page = 7) : e.field.clearOf f = true :=
  Field.clearOf_of_addr hw (by rw [ha]; simp only [Event.field, evtPendAddr, he]; omega)

theorem State.get_ideField_put (s : State) (p : Nat) (cm : Bool) {v : Nat} (hv : v < 4) : (s.put (ideField p cm) v).get (ideField p cm) = v := by
  obtain ⟨h1, h2⟩ := ideField_bits p cm
  exact State.get_put_lit _ (by omega) (by rw [h2]; exact hv)

theorem State.flag_ideKset_putFlag (s : State) (p : Nat) (cm k : Bool) : (s.putFlag (ideKset p cm) k).flag (ideKset p cm) = k := by
  obtain ⟨-, h1, h2⟩ := ideKset_bits p cm
  rw [State.putFlag, State.flag_put_same _ _ _ (by omega), h2]
  cases k <;> rfl

/-- Both fields of a stream as they are written last. -/
theorem State.stream_written (s : State) (p : Nat) (cm k : Bool) {v : Nat} (hv : v < 4) :
    ((s.put (ideField p cm) v).putFlag (ideKset p cm) k).settle.get (ideField p cm) = v ∧ ((s.put (ideField p cm) v).putFlag (ideKset p cm) k).settle.flag (ideKset p cm) = k := by
  refine ⟨?_, ?_⟩
  · rw [State.get_settle _ (by rw [ideField_addr]; omega), State.putFlag, State.get_put_clear _ _ (ideField_clear_kset p cm), State.get_ideField_put _ _ _ hv]
  · rw [State.flag_settle _ (by rw [ideKset_addr]; omega), State.flag_ideKset_putFlag]

/-- The registers a stream writes are of no mirrored region. -/
theorem regionOf_sec {a : Nat} (h : 0x70000 ≤ a ∧ a < 0x80000) : regionOf a = none := regionOf_page (by omega)

/-! ### Keys and key sets -/

/-- The keys of a set programmed by the requester. -/
def State.ideDrawn (s : State) (p : Nat) (cm k : Bool) : State := (s.ideMessages p).drawIdeKeys p cm k

theorem State.regs_ideDrawn (s : State) (p : Nat) (cm k : Bool) : (s.ideDrawn p cm k).regs = s.regs := rfl
theorem State.clk_ideDrawn (s : State) (p : Nat) (cm k : Bool) : (s.ideDrawn p cm k).clk = s.clk := rfl

theorem Frame.andIdeMessages {ps : List Part} {fs : List Field} {s t : State} (h : Frame ps fs s t) (p : Nat) (hc : Part.ctrs ∈ ps := by simp) (hf : Part.free ∈ ps := by simp) :
    Frame ps fs s (t.ideMessages p) := (((h.andCount _ _ hc).andUsed _ hf).andCount _ _ hc).andUsed _ hf

theorem Frame.andIdeDrawn {ps : List Part} {fs : List Field} {s t : State} (h : Frame ps fs s t) (p : Nat) (cm k : Bool) (hc : Part.ctrs ∈ ps := by simp)
    (hf : Part.free ∈ ps := by simp) (hs : Part.sec ∈ ps := by simp) : Frame ps fs s (t.ideDrawn p cm k) :=
  (((h.andIdeMessages p hc hf).andUsed _ hf).andSec _ hs).andUsed _ hf

/-- A key set that comes into use for the first time. -/
def State.ideSecured (s : State) (p : Nat) (cm k : Bool) : State := ((s.raise Evt.SEC_IDE_SECURE).put (ideField p cm) 2).putFlag (ideKset p cm) k

/-- A key set that comes into use in place of another. -/
def State.ideRekeyed (s : State) (p : Nat) (cm k : Bool) : State :=
  (((s.addSat (Fld.SEC_IDE_PORT_REKEYS p) 1).raise Evt.SEC_REKEY_DONE).put (ideField p cm) 2).putFlag (ideKset p cm) k

theorem State.ideUse_first {s : State} {p : Nat} {cm : Bool} (k : Bool) (h : s.get (ideField p cm) ≠ 2) : s.ideUse p cm k = s.ideSecured p cm k := by
  rw [State.ideUse, if_neg h]
  rfl

theorem State.ideUse_again {s : State} {p : Nat} {cm : Bool} (k : Bool) (h : s.get (ideField p cm) = 2) : s.ideUse p cm k = s.ideRekeyed p cm k := by
  rw [State.ideUse, if_pos h]
  rfl

theorem Frame.andIdeSecured {ps : List Part} {fs : List Field} {s t : State} (h : Frame ps fs s t) (p : Nat) (cm k : Bool) (h1 : ideField p cm ∈ fs := by simp)
    (h2 : ideKset p cm ∈ fs := by simp) (h3 : Evt.SEC_IDE_SECURE.field ∈ fs := by simp) : Frame ps fs s (t.ideSecured p cm k) := ((h.andRaise h3).andPut _ h1).andPutFlag _ h2

/-- A rekey leaves the state of the stream SECURE. -/
theorem Frame.andIdeRekeyed {ps : List Part} {fs : List Field} {s t : State} (h : Frame ps fs s t) (p : Nat) (cm k : Bool) (hst : t.get (ideField p cm) = 2)
    (h1 : Fld.SEC_IDE_PORT_REKEYS p ∈ fs := by simp) (h2 : ideKset p cm ∈ fs := by simp) (h3 : Evt.SEC_REKEY_DONE.field ∈ fs := by simp) :
    Frame ps fs s (t.ideRekeyed p cm k) := by
  obtain ⟨hb, -⟩ := ideField_bits p cm
  refine (((h.andAddSat 1 h1).andRaise h3).andPutGet ?_).andPutFlag _ h2
  rw [State.get_raise_clear _ (ide_clear_event (ideField_addr p cm) (by omega) rfl), State.addSat, State.get_put_clear _ _ (ide_clear_rekeys p (by omega)), hst]

theorem State.event_ideSecured {s : State} (p : Nat) (cm k : Bool) (h : s.clk.mgmtUp = true) : (s.ideSecured p cm k).settle.get Evt.SEC_IDE_SECURE.field = 1 := by
  rw [State.get_settle _ (by decide), State.ideSecured, State.putFlag, State.get_put_clear _ _ (event_clear_ide (ideKset_addr p cm) (by decide) rfl),
    State.get_put_clear _ _ (event_clear_ide (ideField_addr p cm) (by decide) rfl)]
  exact State.get_raise_mgmt h rfl (by decide) (by decide)

theorem State.event_ideRekeyed {s : State} (p : Nat) (cm k : Bool) (h : s.clk.mgmtUp = true) : (s.ideRekeyed p cm k).settle.get Evt.SEC_REKEY_DONE.field = 1 := by
  rw [State.get_settle _ (by decide), State.ideRekeyed, State.putFlag, State.get_put_clear _ _ (event_clear_ide (ideKset_addr p cm) (by decide) rfl),
    State.get_put_clear _ _ (event_clear_ide (ideField_addr p cm) (by decide) rfl)]
  exact State.get_raise_mgmt ((congrArg Clk.mgmtUp (State.put_clk _ _ _)).trans h) rfl (by decide) (by decide)

theorem State.inL0_congr {s t : State} {p : Nat} (h : t.get (Fld.PORT_STATUS_LINK p) = s.get (Fld.PORT_STATUS_LINK p)) : t.inL0 p = s.inL0 p := by
  rw [State.inL0, State.inL0, h]

/-- In L0 the idle key set is drawn and comes into use at once. -/
theorem State.ideRekey_now {s : State} {p : Nat} {cm : Bool} (h : s.get (ideField p cm) = 2) (hl : s.inL0 p = true) :
    s.ideRekey p cm = (s.ideDrawn p cm (!s.flag (ideKset p cm))).ideRekeyed p cm (!s.flag (ideKset p cm)) := by
  rw [State.ideRekey, if_pos h, State.ideGo, if_pos (show ((s.ideMessages p).drawIdeKeys p cm (!s.flag (ideKset p cm))).inL0 p = true from hl), ← State.ideUse_again _ (by rw [State.get_congr (State.regs_ideDrawn _ _ _ _), h])]
  rfl

/-! ### Commands of the requester side (R407, R414) -/

theorem State.secUp_mgmt {s : State} (h : s.secUp = true) : s.clk.mgmtUp = true := by
  simp only [State.secUp, Bool.and_eq_true] at h
  exact h.1.1

theorem State.ideBusy_iff {s : State} {p : Nat} : s.ideBusy p = true ↔ ∃ w ∈ s.sec.waiting, w.port = p := by
  simp [State.ideBusy]

theorem State.ideBusy_eq_false {s : State} {p : Nat} (h : ∀ w ∈ s.sec.waiting, w.port ≠ p) : s.ideBusy p = false :=
  Bool.eq_false_iff.mpr fun hb => let ⟨w, hw, hp⟩ := State.ideBusy_iff.mp hb; h w hw hp

section
variable {s : State} {m : Master} {p : Nat}

/-- What a command that nothing refuses does (R409, R414). -/
def State.ideRun (s : State) (p op : Nat) (cm : Bool) : State :=
  if s.ideBusy p then s.addSat (Fld.SEC_IDE_PORT_IGNORED p) 1
  else if op = 1 then
    (if s.get (ideField p cm) = 2 then s else ((((s.ideMessages p).drawIdeKeys p cm false).put (ideField p cm) 1).putFlag (ideKset p cm) false).ideGo p cm false)
  else if op = 2 then s.ideRekey p cm
  else if s.get (ideField p cm) = 0 then s
  else (s.ideMessages p).ideEnd p cm 0

theorem State.writeIdeCmd_allowed {op : Nat} (cm : Bool) (hm : m.keeperOrBoard = true) (hup : s.secUp = true) (hl : s.live 0x10 = true) (hen : s.portEn p = true)
    (hr : s.roleIs p 0 = false) (hop : op ≠ 0) : s.writeIdeCmd m p op cm = s.ideRun p op cm := by
  unfold State.writeIdeCmd
  dsimp only
  rw [if_neg (by simp [hm, hup, hl, hen, hr, hop])]
  rfl

/-- The stream of an ESTABLISH with its first key set drawn. -/
def State.ideProgrammed (s : State) (p : Nat) (cm : Bool) : State := ((s.ideDrawn p cm false).put (ideField p cm) 1).putFlag (ideKset p cm) false

theorem State.writeIdeCmd_establish {cm : Bool} (hm : m.keeperOrBoard = true) (hup : s.secUp = true) (hl : s.live 0x10 = true) (hen : s.portEn p = true)
    (hr : s.roleIs p 0 = false) (hb : s.ideBusy p = false) (hst : s.get (ideField p cm) ≠ 2) : s.writeIdeCmd m p 1 cm = (s.ideProgrammed p cm).ideGo p cm false :=
  (State.writeIdeCmd_allowed cm hm hup hl hen hr (by decide)).trans ((if_neg (by rw [hb]; decide)).trans ((if_pos rfl).trans (if_neg hst)))

theorem State.writeIdeCmd_rekey (cm : Bool) (hm : m.keeperOrBoard = true) (hup : s.secUp = true) (hl : s.live 0x10 = true) (hen : s.portEn p = true)
    (hr : s.roleIs p 0 = false) (hb : s.ideBusy p = false) : s.writeIdeCmd m p 2 cm = s.ideRekey p cm :=
  (State.writeIdeCmd_allowed cm hm hup hl hen hr (by decide)).trans ((if_neg (by rw [hb]; decide)).trans ((if_neg (by decide)).trans (if_pos rfl)))

theorem State.writeIdeCmd_stop {cm : Bool} (hm : m.keeperOrBoard = true) (hup : s.secUp = true) (hl : s.live 0x10 = true) (hen : s.portEn p = true)
    (hr : s.roleIs p 0 = false) (hb : s.ideBusy p = false) (hst : s.get (ideField p cm) ≠ 0) : s.writeIdeCmd m p 3 cm = (s.ideMessages p).ideEnd p cm 0 :=
  (State.writeIdeCmd_allowed cm hm hup hl hen hr (by decide)).trans ((if_neg (by rw [hb]; decide)).trans ((if_neg (by decide)).trans ((if_neg (by decide)).trans (if_neg hst))))

end

theorem Frame.andIdeProgrammed {ps : List Part} {fs : List Field} {s t : State} (h : Frame ps fs s t) (p : Nat) (cm : Bool) (h1 : ideField p cm ∈ fs := by simp)
    (h2 : ideKset p cm ∈ fs := by simp) (hc : Part.ctrs ∈ ps := by simp) (hf : Part.free ∈ ps := by simp) (hs : Part.sec ∈ ps := by simp) :
    Frame ps fs s (t.ideProgrammed p cm) := ((h.andIdeDrawn p cm false hc hf hs).andPut _ h1).andPutFlag _ h2

theorem State.inL0_ideProgrammed (s : State) (p : Nat) (cm : Bool) : (s.ideProgrammed p cm).inL0 p = s.inL0 p := by
  have hclear : ∀ f : Field, f.addr = 0x71100 + 4 * p → (Fld.PORT_STATUS_LINK p).clearOf f = true := fun f hf =>
    Field.clearOf_of_addr (show 0 + 4 ≤ 32 by decide) (by rw [hf]; simp only [Fld.PORT_STATUS_LINK, Addr.PORT_STATUS]; omega)
  refine State.inL0_congr ?_
  rw [State.ideProgrammed, State.putFlag, State.get_put_clear _ _ (hclear _ (ideKset_addr p cm)), State.get_put_clear _ _ (hclear _ (ideField_addr p cm)),
    State.get_congr (State.regs_ideDrawn _ _ _ _)]

/-! ### A stream that ends (R408) -/

/-- What an end leaves of the island's lists. -/
def Sec.without (x : Sec) (p : Nat) (cm : Bool) : Sec :=
  { x with programmed := x.programmed.filter fun w => !(w.port == p && w.cm == cm), waiting := x.waiting.filter fun w => !(w.port == p && w.cm == cm),
           rekeyDue := x.rekeyDue.filter fun w => !(w.port == p && w.cm == cm), ideKeys := x.ideKeys.filter fun k => !(k.1.port == p && k.1.cm == cm) }

theorem State.ideEnd_eq (s : State) (p : Nat) (cm : Bool) (v : Nat) : s.ideEnd p cm v =
    ((({ s with sec := s.sec.without p cm } : State).raiseIf (v == 3 && s.get (ideField p cm) != 3) Evt.SEC_IDE_INSECURE).put (ideField p cm) v).putFlag (ideKset p cm) false := rfl

/-- An end that is no failure tells nothing. -/
theorem State.ideEnd_quiet (s : State) (p : Nat) (cm : Bool) :
    s.ideEnd p cm 0 = (({ s with sec := s.sec.without p cm } : State).put (ideField p cm) 0).putFlag (ideKset p cm) false := by
  rw [State.ideEnd_eq, show (((0 : Nat) == 3) && s.get (ideField p cm) != 3) = false from rfl]
  rfl

theorem Frame.andIdeEnd {ps : List Part} {fs : List Field} {s t : State} (h : Frame ps fs s t) (p : Nat) (cm : Bool) (h1 : ideField p cm ∈ fs := by simp)
    (h2 : ideKset p cm ∈ fs := by simp) (hs : Part.sec ∈ ps := by simp) : Frame ps fs s (t.ideEnd p cm 0) := by
  rw [State.ideEnd_quiet]
  exact ((h.andSec _ hs).andPut _ h1).andPutFlag _ h2

/-- A failure of a stream that is not insecure yet raises the event, and one raised stays. -/
theorem State.insecure_ideEnd {s : State} (p : Nat) (cm : Bool) (hup : s.clk.mgmtUp = true) (h : s.get Evt.SEC_IDE_INSECURE.field = 1 ∨ s.get (ideField p cm) ≠ 3) :
    (s.ideEnd p cm 3).get Evt.SEC_IDE_INSECURE.field = 1 := by
  rw [State.ideEnd_eq, State.putFlag, State.get_put_clear _ _ (event_clear_ide (ideKset_addr p cm) (by decide) rfl),
    State.get_put_clear _ _ (event_clear_ide (ideField_addr p cm) (by decide) rfl)]
  by_cases hst : s.get (ideField p cm) = 3
  · rw [State.raiseIf, if_neg (by rw [hst]; decide)]
    exact h.resolve_right fun hne => hne hst
  · rw [State.raiseIf, if_pos (by simpa using hst)]
    exact State.get_raise_mgmt hup rfl (by decide) (by decide)

theorem State.get_ideEnd (s : State) (p : Nat) (cm : Bool) (v : Nat) {g : Field} (h1 : g.clearOf Evt.SEC_IDE_INSECURE.field = true) (h2 : g.clearOf (ideField p cm) = true)
    (h3 : g.clearOf (ideKset p cm) = true) : (s.ideEnd p cm v).get g = s.get g := by
  rw [State.ideEnd_eq, State.putFlag, State.get_put_clear _ _ h3, State.get_put_clear _ _ h2, State.get_raiseIf_clear _ h1]
  rfl

theorem State.clk_ideEnd (s : State) (p : Nat) (cm : Bool) (v : Nat) : (s.ideEnd p cm v).clk = s.clk := by
  rw [State.ideEnd_eq, State.putFlag_clk, State.put_clk, State.raiseIf_clk]

/-- The two streams of a port share no bit. -/
theorem ide_clear_other (p : Nat) (cm : Bool) : (ideField p cm).clearOf (ideField p (!cm)) = true ∧ (ideKset p cm).clearOf (ideKset p (!cm)) = true ∧
    (ideField p cm).clearOf (ideKset p (!cm)) = true ∧ (ideKset p cm).clearOf (ideField p (!cm)) = true := by
  obtain ⟨h1, -⟩ := ideField_bits p cm
  obtain ⟨h2, -⟩ := ideField_bits p (!cm)
  obtain ⟨h3, h4, -⟩ := ideKset_bits p cm
  obtain ⟨h5, h6, -⟩ := ideKset_bits p (!cm)
  refine ⟨?_, ?_, Field.clearOf_below (by omega) (by omega), Field.clearOf_above (by omega) (by omega)⟩
  · cases cm
    · exact Field.clearOf_below (by omega) (show 0 + 2 ≤ 2 by decide)
    · exact Field.clearOf_above (by omega) (show 0 + 2 ≤ 2 by decide)
  · cases cm
    · exact Field.clearOf_below (by omega) (show 4 + 1 ≤ 5 by decide)
    · exact Field.clearOf_above (by omega) (show 4 + 1 ≤ 5 by decide)

/-! ### A failed check (R408) -/

/-- Both streams of a port made insecure, the second where it was in use. -/
def State.ideFailed (s : State) (p : Nat) (cm : Bool) : State := if s.get (ideField p (!cm)) = 0 then s.ideEnd p cm 3 else (s.ideEnd p cm 3).ideEnd p (!cm) 3

theorem State.clk_ideFailed (s : State) (p : Nat) (cm : Bool) : (s.ideFailed p cm).clk = s.clk := by
  unfold State.ideFailed
  split
  · exact State.clk_ideEnd _ _ _ _
  · rw [State.clk_ideEnd, State.clk_ideEnd]

/-- A field outside the island's streams and events. -/
theorem State.get_ideFailed (s : State) (p : Nat) (cm : Bool) {g : Field} (hw : g.lo + g.width ≤ 32) (h1 : g.addr ≠ 0x71100 + 4 * p) (h2 : g.addr ≠ 0x70040) :
    (s.ideFailed p cm).get g = s.get g := by
  have hone : ∀ (u : State) (c : Bool), (u.ideEnd p c 3).get g = u.get g := fun u c =>
    State.get_ideEnd u p c 3 (Field.clearOf_of_addr hw h2) (Field.clearOf_of_addr hw (by rw [ideField_addr]; exact h1)) (Field.clearOf_of_addr hw (by rw [ideKset_addr]; exact h1))
  unfold State.ideFailed
  split
  · exact hone _ _
  · rw [hone, hone]

/-- The stream that failed shows INSECURE without a key set, and the event is raised. -/
theorem State.ideFailed_shown {s : State} (p : Nat) (cm : Bool) (hup : s.clk.mgmtUp = true) (hst : s.get (ideField p cm) ≠ 3) :
    (s.ideFailed p cm).get (ideField p cm) = 3 ∧ (s.ideFailed p cm).flag (ideKset p cm) = false ∧ (s.ideFailed p cm).get Evt.SEC_IDE_INSECURE.field = 1 := by
  have hf : (s.ideEnd p cm 3).get (ideField p cm) = 3 := by
    rw [State.ideEnd_eq, State.putFlag, State.get_put_clear _ _ (ideField_clear_kset p cm), State.get_ideField_put _ _ _ (by decide)]
  have hk : (s.ideEnd p cm 3).flag (ideKset p cm) = false := by
    rw [State.ideEnd_eq, State.flag_ideKset_putFlag]
  have he := State.insecure_ideEnd p cm hup (.inr hst)
  obtain ⟨hff, hkk, hfk, hkf⟩ := ide_clear_other p cm
  obtain ⟨hb1, -⟩ := ideField_bits p cm
  obtain ⟨-, hb2, -⟩ := ideKset_bits p cm
  unfold State.ideFailed
  split
  · exact ⟨hf, hk, he⟩
  · refine ⟨?_, ?_, State.insecure_ideEnd p (!cm) ((congrArg Clk.mgmtUp (State.clk_ideEnd _ _ _ _)).trans hup) (.inl he)⟩
    · rw [State.get_ideEnd _ _ _ _ (ide_clear_event (ideField_addr p cm) (by omega) rfl) hff hfk, hf]
    · rw [State.flag, State.get_ideEnd _ _ _ _ (ide_clear_event (ideKset_addr p cm) (by omega) rfl) hkf hkk]
      exact hk

theorem Sec.mem_without_programmed {x : Sec} {p : Nat} {cm : Bool} {w : IdePending} (h : w ∈ (x.without p cm).programmed) : w.port ≠ p ∨ w.cm ≠ cm := by
  have h1 := (List.mem_filter.mp h).2
  simp only [Bool.not_eq_true', Bool.and_eq_false_iff, beq_eq_false_iff_ne] at h1
  exact h1

theorem Sec.mem_without_ideKeys {x : Sec} {p : Nat} {cm : Bool} {k : IdePending × Nat × Nat} (h : k ∈ (x.without p cm).ideKeys) : k.1.port ≠ p ∨ k.1.cm ≠ cm := by
  have h1 := (List.mem_filter.mp h).2
  simp only [Bool.not_eq_true', Bool.and_eq_false_iff, beq_eq_false_iff_ne] at h1
  exact h1

/-! ### The responder side (R407, R409) -/

section
variable {c : Instr} {s u : State} {p : Nat} {cm : Bool} {f : State → Option State} {P : State → Prop}

/-- A message that finds no error is counted and acknowledged. -/
theorem answers_ideKm (he : exec c s = done (s.begin.ideKm p cm f)) (hup : s.secUp = true) (hl : s.live 0x10 = true) (hen : s.portEn p = true) (hr : s.roleIs p 0 = true)
    (hf : f (s.begin.count (Ctr.SECC (4 + p) 1)) = some u) (hp : P ((u.count (Ctr.SECC (4 + p) 0)).emit (.ideKm p cm 0)).settle) : Answers c s P := by
  refine answers_done (he.trans (congrArg done ((if_pos (show s.begin.secUp = true from hup)).trans ((if_pos (Bool.and_eq_true_iff.mpr ⟨hl, hen⟩)).trans ?_)))) hp
  dsimp only
  rw [if_pos (show (s.begin.count (Ctr.SECC (4 + p) 1)).roleIs p 0 = true from hr), hf]

/-- One that finds an error is answered with an error status. -/
theorem answers_ideKm_error (he : exec c s = done (s.begin.ideKm p cm f)) (hup : s.secUp = true) (hl : s.live 0x10 = true) (hen : s.portEn p = true) (hr : s.roleIs p 0 = true)
    (hf : f (s.begin.count (Ctr.SECC (4 + p) 1)) = none)
    (hp : P ((((s.begin.count (Ctr.SECC (4 + p) 1)).count (Ctr.SECC (4 + p) 0)).count (Ctr.SECC (4 + p) 2)).emit (.ideKm p cm 1)).settle) : Answers c s P := by
  refine answers_done (he.trans (congrArg done ((if_pos (show s.begin.secUp = true from hup)).trans ((if_pos (Bool.and_eq_true_iff.mpr ⟨hl, hen⟩)).trans ?_)))) hp
  dsimp only
  rw [if_pos (show (s.begin.count (Ctr.SECC (4 + p) 1)).roleIs p 0 = true from hr), hf]

end

/-- The key set of a responder's stream programmed by its partner. -/
def State.keySetTaken (s : State) (e : IdePending) (tx rx : Nat) : State :=
  { s with sec := { s.sec with programmed := s.sec.programmed.filter (· != e) ++ [e], ideKeys := s.sec.ideKeys.filter (fun k => k.1 != e) ++ [(e, tx, rx)] } }

/-- A programmed key set that is about to come into use. -/
def State.keySetGone (s : State) (e : IdePending) : State :=
  { s with sec := { s.sec with programmed := s.sec.programmed.filter (· != e), waiting := s.sec.waiting.filter (· != e) } }

theorem holdFields_addr {p : Nat} {f : Field} (hp : p < 64) (hf : f ∈ holdFields p) : 0x10 ≤ f.addr / 0x10000 ∧ f.addr / 0x10000 < 0x20 := by
  simp only [holdFields, List.mem_cons, List.not_mem_nil, or_false] at hf
  rcases hf with rfl | rfl | rfl | rfl
  all_goals
    simp only [Fld.PORT_CTL_HOLD, Fld.PORT_STATUS_HOLD_REASON, Fld.PORT_STATUS_LINK, Event.field, Evt.PORT_HELD, evtPendAddr, Addr.PORT_CTL, Addr.PORT_STATUS]
    omega

/-! ### The clauses -/

section
variable {s : State} {p : Port} {cm : Bool}

/-- An ESTABLISH in L0 makes the stream SECURE at once. -/
theorem establish_inL0 : ∀ m : Master, s.takes m 7 = true → m.keeperOrBoard = true → s.secUp = true → s.live 0x10 = true → s.portEn p.val = true → s.roleIs p.val 0 = false →
    (∀ w ∈ s.sec.waiting, w.port ≠ p.val) → s.inL0 p.val = true → s.get (ideField p.val cm) ≠ 2 → Answers (.ideEstablish m p cm) s fun t => t.get (ideField p.val cm) = 2 ∧
    t.flag (ideKset p.val cm) = false ∧ t.get Evt.SEC_IDE_SECURE.field = 1 ∧ Frame [.ctrs, .free, .sec] [(ideField p.val cm), (ideKset p.val cm), Evt.SEC_IDE_SECURE.field] s t := by
  intro m htk hm hup hl hen hr hw hl0 hst
  have hx : Frame [.ctrs, .free, .sec] [(ideField p.val cm), (ideKset p.val cm), Evt.SEC_IDE_SECURE.field] s ((s.begin.ideProgrammed p.val cm).ideSecured p.val cm false) :=
    ((Frame.begin s).andIdeProgrammed _ _).andIdeSecured _ _ _
  have hone : (s.begin.ideProgrammed p.val cm).get (ideField p.val cm) = 1 := by
    rw [State.ideProgrammed, State.putFlag, State.get_put_clear _ _ (ideField_clear_kset _ _), State.get_ideField_put _ _ _ (by decide)]
  refine answers_guard rfl htk ((State.writeIdeCmd_establish (s := s.begin) hm hup hl hen hr (State.ideBusy_eq_false hw) hst).trans ((if_pos ?_).trans
    (State.ideUse_first _ (by rw [hone]; decide)))) hx (hx.home_dir (by decide))
    (by simp only [List.forall_mem_cons, List.not_mem_nil, false_imp_iff, implies_true, and_true]; exact ⟨regionOf_sec (by rw [ideField_addr]; omega), regionOf_sec (by rw [ideKset_addr]; omega), regionOf_sec (by decide)⟩) fun hfr => ?_
  · rw [State.inL0_ideProgrammed]
    exact hl0
  · obtain ⟨h1, h2⟩ := State.stream_written ((s.begin.ideProgrammed p.val cm).raise Evt.SEC_IDE_SECURE) p.val cm false (show 2 < 4 by decide)
    refine ⟨h1, h2, State.event_ideSecured _ _ _ ?_, hfr⟩
    rw [State.ideProgrammed, State.putFlag_clk, State.put_clk]
    exact State.secUp_mgmt hup

/-- One out of L0 waits for the next entry to L0. -/
theorem establish_later : ∀ m : Master, s.takes m 7 = true → m.keeperOrBoard = true → s.secUp = true → s.live 0x10 = true → s.portEn p.val = true → s.roleIs p.val 0 = false →
    (∀ w ∈ s.sec.waiting, w.port ≠ p.val) → s.inL0 p.val = false → s.get (ideField p.val cm) ≠ 2 → Answers (.ideEstablish m p cm) s fun t => t.get (ideField p.val cm) = 1 ∧
    (⟨p.val, cm, false⟩ ∈ t.sec.waiting) ∧ Frame [.ctrs, .free, .sec] [(ideField p.val cm), (ideKset p.val cm)] s t := by
  intro m htk hm hup hl hen hr hw hl0 hst
  have hx : Frame [.ctrs, .free, .sec] [(ideField p.val cm), (ideKset p.val cm)] s
      { s.begin.ideProgrammed p.val cm with sec := { (s.begin.ideProgrammed p.val cm).sec with waiting := (s.begin.ideProgrammed p.val cm).sec.waiting ++ [⟨p.val, cm, false⟩] } } :=
    ((Frame.begin s).andIdeProgrammed _ _).andSec _
  refine answers_guard rfl htk ((State.writeIdeCmd_establish (s := s.begin) hm hup hl hen hr (State.ideBusy_eq_false hw) hst).trans (if_neg ?_)) hx (hx.home_dir (by decide))
    (by simp only [List.forall_mem_cons, List.not_mem_nil, false_imp_iff, implies_true, and_true]; exact ⟨regionOf_sec (by rw [ideField_addr]; omega), regionOf_sec (by rw [ideKset_addr]; omega)⟩) fun hfr => ⟨?_, ?_, hfr⟩
  · rw [State.inL0_ideProgrammed, show s.begin.inL0 p.val = false from hl0]
    decide
  · have h1 := (State.stream_written (s.begin.ideDrawn p.val cm false) p.val cm false (show 1 < 4 by decide)).1
    rw [State.get_settle _ (by rw [ideField_addr]; omega)] at h1 ⊢
    exact h1
  · rw [State.settle_sec]
    exact List.mem_append_right _ (List.mem_singleton.mpr rfl)

/-- A command while one runs is ignored and counted. -/
theorem establish_ignored : ∀ m : Master, s.takes m 7 = true → m.keeperOrBoard = true → s.secUp = true → s.live 0x10 = true → s.portEn p.val = true → s.roleIs p.val 0 = false →
    (∃ w ∈ s.sec.waiting, w.port = p.val) → Answers (.ideEstablish m p cm) s fun t => t.sec = s.sec ∧ Frame [] [Fld.SEC_IDE_PORT_IGNORED p.val] s t := by
  intro m htk hm hup hl hen hr hw
  have hx : Frame [] [Fld.SEC_IDE_PORT_IGNORED p.val] s (s.begin.addSat (Fld.SEC_IDE_PORT_IGNORED p.val) 1) := (Frame.begin s).andAddSat 1
  refine answers_guard rfl htk ((State.writeIdeCmd_allowed (s := s.begin) cm hm hup hl hen hr (by decide)).trans (if_pos (State.ideBusy_iff.mpr hw))) hx (hx.home_dir (by decide))
    (by simp only [List.forall_mem_cons, List.not_mem_nil, false_imp_iff, implies_true, and_true]; exact regionOf_sec (by simp only [Fld.SEC_IDE_PORT_IGNORED, Addr.SEC_IDE_PORT]; omega)) fun hfr => ⟨?_, hfr⟩
  rw [State.settle_sec, State.addSat_sec, State.begin_sec]

/-- A REKEY in L0 puts the idle key set in use at once. -/
theorem rekey_inL0 : ∀ m : Master, s.takes m 7 = true → m.keeperOrBoard = true → s.secUp = true → s.live 0x10 = true → s.portEn p.val = true → s.roleIs p.val 0 = false →
    (∀ w ∈ s.sec.waiting, w.port ≠ p.val) → s.inL0 p.val = true → s.get (ideField p.val cm) = 2 → Answers (.ideRekey m p cm) s fun t => t.get (ideField p.val cm) = 2 ∧
    t.flag (ideKset p.val cm) = !s.flag (ideKset p.val cm) ∧ t.get Evt.SEC_REKEY_DONE.field = 1 ∧
    Frame [.ctrs, .free, .sec] [(ideKset p.val cm), Fld.SEC_IDE_PORT_REKEYS p.val, Evt.SEC_REKEY_DONE.field] s t := by
  intro m htk hm hup hl hen hr hw hl0 hst
  have hst' : (s.begin.ideDrawn p.val cm (!s.begin.flag (ideKset p.val cm))).get (ideField p.val cm) = 2 := (State.get_congr (State.regs_ideDrawn _ _ _ _) _).trans hst
  have hx : Frame [.ctrs, .free, .sec] [(ideKset p.val cm), Fld.SEC_IDE_PORT_REKEYS p.val, Evt.SEC_REKEY_DONE.field] s
      ((s.begin.ideDrawn p.val cm (!s.begin.flag (ideKset p.val cm))).ideRekeyed p.val cm (!s.begin.flag (ideKset p.val cm))) :=
    ((Frame.begin s).andIdeDrawn _ _ _).andIdeRekeyed _ _ _ hst'
  refine answers_guard rfl htk ((State.writeIdeCmd_rekey (s := s.begin) cm hm hup hl hen hr (State.ideBusy_eq_false hw)).trans (State.ideRekey_now (s := s.begin) hst hl0)) hx
    (hx.home_dir (by decide))
    (by simp only [List.forall_mem_cons, List.not_mem_nil, false_imp_iff, implies_true, and_true]; exact ⟨regionOf_sec (by rw [ideKset_addr]; omega), regionOf_sec (by simp only [Fld.SEC_IDE_PORT_REKEYS, Addr.SEC_IDE_PORT]; omega), regionOf_sec (by decide)⟩) fun hfr => ?_
  obtain ⟨h1, h2⟩ := State.stream_written (((s.begin.ideDrawn p.val cm (!s.begin.flag (ideKset p.val cm))).addSat (Fld.SEC_IDE_PORT_REKEYS p.val) 1).raise Evt.SEC_REKEY_DONE) p.val cm
    (!s.begin.flag (ideKset p.val cm)) (show 2 < 4 by decide)
  exact ⟨h1, h2, State.event_ideRekeyed _ _ _ (State.secUp_mgmt (s := s) hup), hfr⟩

/-- A REKEY of a stream that is not SECURE changes nothing. -/
theorem rekey_notSecure : ∀ m : Master, s.takes m 7 = true → m.keeperOrBoard = true → s.secUp = true → s.live 0x10 = true → s.portEn p.val = true → s.roleIs p.val 0 = false →
    (∀ w ∈ s.sec.waiting, w.port ≠ p.val) → s.get (ideField p.val cm) ≠ 2 → Answers (.ideRekey m p cm) s fun t => Frame [] [] s t := by
  intro m htk hm hup hl hen hr hw hst
  exact answers_guard rfl htk ((State.writeIdeCmd_rekey (s := s.begin) cm hm hup hl hen hr (State.ideBusy_eq_false hw)).trans (if_neg hst)) (Frame.begin (ps := []) (fs := []) s) rfl
    (by simp) fun hfr => hfr

/-- A STOP ends the stream with its keys. -/
theorem stop_ends : ∀ m : Master, s.takes m 7 = true → m.keeperOrBoard = true → s.secUp = true → s.live 0x10 = true → s.portEn p.val = true → s.roleIs p.val 0 = false →
    (∀ w ∈ s.sec.waiting, w.port ≠ p.val) → s.get (ideField p.val cm) ≠ 0 → Answers (.ideStop m p cm) s fun t => t.get (ideField p.val cm) = 0 ∧
    t.flag (ideKset p.val cm) = false ∧ (∀ w ∈ t.sec.programmed, w.port ≠ p.val ∨ w.cm ≠ cm) ∧ (∀ k ∈ t.sec.ideKeys, k.1.port ≠ p.val ∨ k.1.cm ≠ cm) ∧
    Frame [.ctrs, .free, .sec] [(ideField p.val cm), (ideKset p.val cm)] s t := by
  intro m htk hm hup hl hen hr hw hst
  have hx : Frame [.ctrs, .free, .sec] [(ideField p.val cm), (ideKset p.val cm)] s ((s.begin.ideMessages p.val).ideEnd p.val cm 0) := Frame.andIdeEnd ((Frame.begin s).andIdeMessages _) _ _
  have hsec : ((s.begin.ideMessages p.val).ideEnd p.val cm 0).sec = s.sec.without p.val cm := rfl
  refine answers_guard rfl htk (State.writeIdeCmd_stop (s := s.begin) hm hup hl hen hr (State.ideBusy_eq_false hw) hst) hx (hx.home_dir (by decide))
    (by simp only [List.forall_mem_cons, List.not_mem_nil, false_imp_iff, implies_true, and_true]; exact ⟨regionOf_sec (by rw [ideField_addr]; omega), regionOf_sec (by rw [ideKset_addr]; omega)⟩) fun hfr => ?_
  obtain ⟨h1, h2⟩ := State.stream_written ({ s.begin.ideMessages p.val with sec := s.sec.without p.val cm } : State) p.val cm false (show 0 < 4 by decide)
  refine ⟨h1, h2, fun w hw => ?_, fun k hk => ?_, hfr⟩
  · rw [State.settle_sec, hsec] at hw
    exact Sec.mem_without_programmed hw
  · rw [State.settle_sec, hsec] at hk
    exact Sec.mem_without_ideKeys hk

/-- A rekey that falls due in L0 runs at once. -/
theorem autoRekey_inL0 : s.secUp = true → s.live 0x10 = true → s.portEn p.val = true → s.roleIs p.val 0 = false → s.get (ideField p.val cm) = 2 → (∀ w ∈ s.sec.waiting, w.port ≠ p.val) →
    s.inL0 p.val = true → Answers (.ideAutoRekey p cm) s fun t => t.flag (ideKset p.val cm) = !s.flag (ideKset p.val cm) ∧ t.get Evt.SEC_REKEY_DONE.field = 1 ∧
    Frame [.ctrs, .free, .sec] [(ideKset p.val cm), Fld.SEC_IDE_PORT_REKEYS p.val, Evt.SEC_REKEY_DONE.field] s t := by
  intro hup hl hen hr hst hw hl0
  have hst' : (s.begin.ideDrawn p.val cm (!s.begin.flag (ideKset p.val cm))).get (ideField p.val cm) = 2 := (State.get_congr (State.regs_ideDrawn _ _ _ _) _).trans hst
  have hx : Frame [.ctrs, .free, .sec] [(ideKset p.val cm), Fld.SEC_IDE_PORT_REKEYS p.val, Evt.SEC_REKEY_DONE.field] s
      ((s.begin.ideDrawn p.val cm (!s.begin.flag (ideKset p.val cm))).ideRekeyed p.val cm (!s.begin.flag (ideKset p.val cm))) :=
    ((Frame.begin s).andIdeDrawn _ _ _).andIdeRekeyed _ _ _ hst'
  have hcond : ¬ ((!s.begin.live 0x10 || !s.begin.portEn p.val || s.begin.roleIs p.val 0 || s.begin.get (ideField p.val cm) != 2) = true) := by
    rw [State.live_begin, hl, show s.begin.portEn p.val = true from hen, show s.begin.roleIs p.val 0 = false from hr, State.get_begin, hst]
    decide
  have hexec : exec (.ideAutoRekey p cm) s = done ((s.begin.ideDrawn p.val cm (!s.begin.flag (ideKset p.val cm))).ideRekeyed p.val cm (!s.begin.flag (ideKset p.val cm))) := by
    refine congrArg done ((if_pos (show s.begin.secUp = true from hup)).trans ((if_neg hcond).trans ((if_neg ?_).trans (State.ideRekey_now (s := s.begin) hst hl0))))
    rw [show s.begin.ideBusy p.val = false from State.ideBusy_eq_false hw]
    decide
  obtain ⟨-, h2⟩ := State.stream_written (((s.begin.ideDrawn p.val cm (!s.begin.flag (ideKset p.val cm))).addSat (Fld.SEC_IDE_PORT_REKEYS p.val) 1).raise Evt.SEC_REKEY_DONE) p.val cm
    (!s.begin.flag (ideKset p.val cm)) (show 2 < 4 by decide)
  exact answers_done hexec ⟨h2, State.event_ideRekeyed _ _ _ (State.secUp_mgmt (s := s) hup), hx.settle⟩

/-- One that falls due while a rekey runs waits for it. -/
theorem autoRekey_due : s.secUp = true → s.live 0x10 = true → s.portEn p.val = true → s.roleIs p.val 0 = false → s.get (ideField p.val cm) = 2 → (∃ w ∈ s.sec.waiting, w.port = p.val) →
    Answers (.ideAutoRekey p cm) s fun t => (⟨p.val, cm, false⟩ ∈ t.sec.rekeyDue) ∧ Frame [.sec] [] s t := by
  intro hup hl hen hr hst hw
  have hcond : ¬ ((!s.begin.live 0x10 || !s.begin.portEn p.val || s.begin.roleIs p.val 0 || s.begin.get (ideField p.val cm) != 2) = true) := by
    rw [State.live_begin, hl, show s.begin.portEn p.val = true from hen, show s.begin.roleIs p.val 0 = false from hr, State.get_begin, hst]
    decide
  have hexec : exec (.ideAutoRekey p cm) s = done { s.begin with sec := { s.begin.sec with
      rekeyDue := s.begin.sec.rekeyDue.filter (fun w => !(w.port == p.val && w.cm == cm)) ++ [⟨p.val, cm, false⟩] } } :=
    congrArg done ((if_pos (show s.begin.secUp = true from hup)).trans ((if_neg hcond).trans (if_pos (show s.begin.ideBusy p.val = true from State.ideBusy_iff.mpr hw))))
  refine answers_done hexec ⟨?_, ((Frame.begin s).andSec _).settle⟩
  rw [State.settle_sec]
  exact List.mem_append_right _ (List.mem_singleton.mpr rfl)

/-- Keys of a set that is not in use go into the key registers. -/
theorem keyProg_taken : ∀ k : Bool, ∀ tx : BitVec 256, ∀ rx : BitVec 256, s.secUp = true → s.live 0x10 = true → s.portEn p.val = true → s.roleIs p.val 0 = true → s.get (ideField p.val cm) ≠ 2 →
    Answers (.ideKeyProg p cm k tx rx) s fun t => t.out = [.ideKm p.val cm 0] ∧ (⟨p.val, cm, k⟩ ∈ t.sec.programmed) ∧ ((⟨p.val, cm, k⟩, tx.toNat, rx.toNat) ∈ t.sec.ideKeys) ∧
    t.get (ideField p.val cm) = 1 ∧ Frame [.ctrs, .out, .sec] [(ideField p.val cm)] s t := by
  intro k tx rx hup hl hen hr hst
  have hst' : ((s.begin.count (Ctr.SECC (4 + p.val) 1)).keySetTaken ⟨p.val, cm, k⟩ tx.toNat rx.toNat).get (ideField p.val cm) ≠ 2 := hst
  refine answers_ideKm rfl hup hl hen hr ((if_neg fun h => hst h.1).trans (congrArg some (if_neg hst'))) ⟨?_, ?_, ?_, ?_, ?_⟩
  · rw [State.settle_out, State.emit_out, State.count_out, State.put_out]
    rfl
  · rw [State.settle_sec, State.emit_sec, State.count_sec, State.put_sec]
    exact List.mem_append_right _ (List.mem_singleton.mpr rfl)
  · rw [State.settle_sec, State.emit_sec, State.count_sec, State.put_sec]
    exact List.mem_append_right _ (List.mem_singleton.mpr rfl)
  · rw [State.get_settle _ (by rw [ideField_addr]; omega), State.get_emit, State.get_count, State.get_ideField_put _ _ _ (by decide)]
  · exact ((((((Frame.begin s).andCount _ _).andSec _).andPut _).andCount _ _).andEmit _).settle

/-- The key set in use is not programmed. -/
theorem keyProg_inUse : ∀ k : Bool, ∀ tx : BitVec 256, ∀ rx : BitVec 256, s.secUp = true → s.live 0x10 = true → s.portEn p.val = true → s.roleIs p.val 0 = true → s.get (ideField p.val cm) = 2 →
    s.flag (ideKset p.val cm) = k → Answers (.ideKeyProg p cm k tx rx) s fun t => t.out = [.ideKm p.val cm 1] ∧ t.sec = s.sec ∧ Frame [.ctrs, .out] [] s t := by
  intro k tx rx hup hl hen hr hst hk
  refine answers_ideKm_error rfl hup hl hen hr (if_pos ⟨hst, hk⟩) ⟨?_, ?_, ((((Frame.begin s).andCount _ _).andCount _ _).andCount _ _ |>.andEmit _).settle⟩
  · rw [State.settle_out, State.emit_out, State.count_out, State.count_out, State.count_out]
    rfl
  · rw [State.settle_sec, State.emit_sec, State.count_sec, State.count_sec, State.count_sec]
    rfl

/-- A programmed key set comes into use. -/
theorem kSetGo_used : ∀ k : Bool, s.secUp = true → s.live 0x10 = true → s.portEn p.val = true → s.roleIs p.val 0 = true → (⟨p.val, cm, k⟩ ∈ s.sec.programmed) → s.inL0 p.val = true →
    s.get (ideField p.val cm) = 1 → Answers (.ideKSetGo p cm k) s fun t => t.out = [.ideKm p.val cm 0] ∧ t.get (ideField p.val cm) = 2 ∧ t.flag (ideKset p.val cm) = k ∧
    t.get Evt.SEC_IDE_SECURE.field = 1 ∧ (⟨p.val, cm, k⟩ ∉ t.sec.programmed) ∧
    Frame [.ctrs, .out, .sec] [(ideField p.val cm), (ideKset p.val cm), Evt.SEC_IDE_SECURE.field] s t := by
  intro k hup hl hen hr hmem hl0 hst
  have hst' : ((s.begin.count (Ctr.SECC (4 + p.val) 1)).keySetGone ⟨p.val, cm, k⟩).get (ideField p.val cm) ≠ 2 := by
    rw [show ((s.begin.count (Ctr.SECC (4 + p.val) 1)).keySetGone ⟨p.val, cm, k⟩).get (ideField p.val cm) = s.get (ideField p.val cm) from rfl, hst]
    decide
  have hgo : ((s.begin.count (Ctr.SECC (4 + p.val) 1)).keySetGone ⟨p.val, cm, k⟩).ideGo p.val cm k =
      ((s.begin.count (Ctr.SECC (4 + p.val) 1)).keySetGone ⟨p.val, cm, k⟩).ideSecured p.val cm k := (if_pos hl0).trans (State.ideUse_first _ hst')
  obtain ⟨h1, h2⟩ := State.stream_written (((s.begin.count (Ctr.SECC (4 + p.val) 1)).keySetGone ⟨p.val, cm, k⟩).raise Evt.SEC_IDE_SECURE) p.val cm k (show 2 < 4 by decide)
  have hsec : (((s.begin.count (Ctr.SECC (4 + p.val) 1)).keySetGone ⟨p.val, cm, k⟩).ideSecured p.val cm k).sec = (s.keySetGone ⟨p.val, cm, k⟩).sec := by
    rw [State.ideSecured, State.putFlag_sec, State.put_sec, State.raise_sec]
    rfl
  refine answers_ideKm rfl hup hl hen hr ((if_pos (List.contains_iff_mem.mpr hmem)).trans (congrArg some hgo)) ⟨?_, ?_, ?_, ?_, ?_, ?_⟩
  · rw [State.settle_out, State.emit_out, State.count_out, State.ideSecured, State.putFlag_out, State.put_out, State.raise_out]
    rfl
  · rw [State.get_settle _ (by rw [ideField_addr]; omega)] at h1 ⊢
    exact h1
  · rw [State.flag_settle _ (by rw [ideKset_addr]; omega)] at h2 ⊢
    exact h2
  · have h3 := State.event_ideSecured (s := (s.begin.count (Ctr.SECC (4 + p.val) 1)).keySetGone ⟨p.val, cm, k⟩) p.val cm k (State.secUp_mgmt (s := s) hup)
    rw [State.get_settle _ (by decide)] at h3 ⊢
    exact h3
  · rw [State.settle_sec, State.emit_sec, State.count_sec, hsec]
    exact fun h => absurd (List.mem_filter.mp h).2 (by simp)
  · exact (((((Frame.begin s).andCount _ _).andSec _).andIdeSecured _ _ _).andCount _ _ |>.andEmit _).settle

/-- A key set that is not programmed is refused. -/
theorem kSetGo_unprogrammed : ∀ k : Bool, s.secUp = true → s.live 0x10 = true → s.portEn p.val = true → s.roleIs p.val 0 = true → (⟨p.val, cm, k⟩ ∉ s.sec.programmed) → Answers (.ideKSetGo p cm k) s fun t =>
    t.out = [.ideKm p.val cm 1] ∧ Frame [.ctrs, .out] [] s t := by
  intro k hup hl hen hr hmem
  refine answers_ideKm_error rfl hup hl hen hr (if_neg fun h => hmem (List.contains_iff_mem.mp h)) ⟨?_, ((((Frame.begin s).andCount _ _).andCount _ _).andCount _ _ |>.andEmit _).settle⟩
  rw [State.settle_out, State.emit_out, State.count_out, State.count_out, State.count_out]
  rfl

/-- The stream ends at the stop of its partner. -/
theorem kSetStop_ends : s.secUp = true → s.live 0x10 = true → s.portEn p.val = true → s.roleIs p.val 0 = true → Answers (.ideKSetStop p cm) s fun t => t.out = [.ideKm p.val cm 0] ∧
    t.get (ideField p.val cm) = 0 ∧ t.flag (ideKset p.val cm) = false ∧ Frame [.ctrs, .out, .sec] [(ideField p.val cm), (ideKset p.val cm)] s t := by
  intro hup hl hen hr
  obtain ⟨h1, h2⟩ := State.stream_written ({ s.begin.count (Ctr.SECC (4 + p.val) 1) with sec := s.sec.without p.val cm } : State) p.val cm false (show 0 < 4 by decide)
  refine answers_ideKm rfl hup hl hen hr rfl ⟨?_, ?_, ?_, (((Frame.andIdeEnd ((Frame.begin s).andCount _ _) _ _).andCount _ _).andEmit _).settle⟩
  · rw [State.settle_out, State.emit_out, State.count_out, State.ideEnd_eq, State.putFlag_out, State.put_out]
    rfl
  · rw [State.get_settle _ (by rw [ideField_addr]; omega)] at h1 ⊢
    exact h1
  · rw [State.flag_settle _ (by rw [ideKset_addr]; omega)] at h2 ⊢
    exact h2

/-- A failed check makes the stream insecure and holds the port. -/
theorem checkFail_holds : s.fabricRuns = true → s.get (ideField p.val cm) = 2 → s.portHeld p.val = false → Answers (.ideCheckFail p cm) s fun t => t.get (ideField p.val cm) = 3 ∧
    t.get Evt.SEC_IDE_INSECURE.field = 1 ∧ t.portHeld p.val = true ∧ t.get (Fld.PORT_STATUS_HOLD_REASON p.val) = 1 ∧ t.flag (ideKset p.val cm) = false := by
  intro hrun hst hheld
  obtain ⟨hup, -, -⟩ := State.fabricRuns_iff.mp hrun
  obtain ⟨hf, hk, he⟩ := State.ideFailed_shown (s := s.begin) p.val cm hup (by rw [State.get_begin, hst]; decide)
  have hctl : ((s.begin.ideFailed p.val cm).sendFault ((s.begin.ideFailed p.val cm).message Kind.IDE_CHECK 1 (0x10 + p.val / 4) (p.val % 4) 8 Party.none none)).portHeld p.val = false := by
    rw [State.portHeld, State.flag, State.get_sendMessage _ _ _ _ _ _ _ _ _ (by simp only [Fld.PORT_CTL_HOLD, Addr.PORT_CTL]; omega),
      State.get_ideFailed _ _ _ (show 0 + 1 ≤ 32 by decide) (by simp only [Fld.PORT_CTL_HOLD, Addr.PORT_CTL]; omega) (by simp only [Fld.PORT_CTL_HOLD, Addr.PORT_CTL]; omega)]
    exact hheld
  have hh := State.holdPort_holds (r := 1) p.isLt (by decide) hctl
  have hkept : ∀ g : Field, g.lo + g.width ≤ 32 → g.addr / 0x10000 = 7 → g.addr ≠ Addr.SEC_SESSIONS →
      ((((s.begin.ideFailed p.val cm).sendFault ((s.begin.ideFailed p.val cm).message Kind.IDE_CHECK 1 (0x10 + p.val / 4) (p.val % 4) 8 Party.none none)).holdPort p.val 1).mirror
        s.begin).settle.get g = (s.begin.ideFailed p.val cm).get g := fun g hw hpg hne => by
    rw [State.get_mirror_settle _ _ (by omega) (by omega), hh.get g (Field.enduring_of_page hw (.inr ⟨hpg, hne⟩)) fun f hf => ?_, State.get_sendMessage _ _ _ _ _ _ _ _ _ (by omega)]
    have ha := holdFields_addr p.isLt hf
    exact Field.clearOf_of_addr hw (by omega)
  have hfa := ideField_addr p.val cm
  have hka := ideKset_addr p.val cm
  obtain ⟨hfb, -⟩ := ideField_bits p.val cm
  obtain ⟨-, hkb, -⟩ := ideKset_bits p.val cm
  refine answers_of_eq ((done_whenFabric _ hrun).trans (congrArg (fun u : State => Host.Outcome.next (u.mirror s.begin).settle) (if_pos hst))) ⟨?_, ?_, ?_, ?_, ?_⟩
  · exact (hkept _ (by omega) (by omega) (by rw [hfa, Addr.SEC_SESSIONS]; omega)).trans hf
  · exact (hkept _ (by decide) (by decide) (by decide)).trans he
  · rw [State.portHeld, State.flag, State.get_mirror_settle _ _ (by simp only [Fld.PORT_CTL_HOLD, Addr.PORT_CTL]; omega) (by simp only [Fld.PORT_CTL_HOLD, Addr.PORT_CTL]; omega)]
    exact hh.held
  · rw [State.get_mirror_settle _ _ (by simp only [Fld.PORT_STATUS_HOLD_REASON, Addr.PORT_STATUS]; omega) (by simp only [Fld.PORT_STATUS_HOLD_REASON, Addr.PORT_STATUS]; omega)]
    exact hh.reason
  · exact (congrArg (· == 1) (hkept _ (by omega) (by omega) (by rw [hka, Addr.SEC_SESSIONS]; omega))).trans hk

end

/-- Settles O50: a stream follows the commands of its port, the messages of its partner and its checks. -/
theorem ideStreams : Obligations.IdeStreams := by
  unfold Obligations.IdeStreams
  exact fun s p cm => ⟨establish_inL0, establish_later, establish_ignored, rekey_inL0, rekey_notSecure, stop_ends, autoRekey_inL0, autoRekey_due, keyProg_taken, keyProg_inUse,
    kSetGo_used, kSetGo_unprogrammed, kSetStop_ends, checkFail_holds⟩

end Sys2Proof.Machine
end

section
/-! PROOFS. Clock sources, lock and straps (O5, R21, R30, R61, R62). -/
namespace Sys2Proof.Machine
open Sys2Proof
set_option Elab.async false

/-! ### The return to REFCLK (R62) -/

theorem State.refBack_clk {s : State} (h : s.clk.refPresent = true) : s.refBack.clk = { s.clk with refSrcTcxo := false } := by
  unfold State.refBack
  rw [h, Bool.and_true]
  split
  · exact State.raise_clk _ _
  · next hsrc => rw [← Bool.eq_false_of_not_eq_true hsrc]

theorem Frame.andRefBack {ps : List Part} {fs : List Field} {s t : State} (h : Frame ps fs s t) (hp : Part.clk ∈ ps := by simp)
    (hf : Evt.CLK_REF_SWITCH.field ∈ fs := by simp) : Frame ps fs s t.refBack := by
  unfold State.refBack
  split
  · exact (h.andClk _ hp).andRaise hf
  · exact h

theorem State.get_refBack (s : State) {g : Field} (h : g.clearOf Evt.CLK_REF_SWITCH.field = true) : s.refBack.get g = s.get g := by
  unfold State.refBack
  split
  · exact State.get_raise_clear _ h
  · rfl

/-- REFCLK counts as present and tells so (R61). -/
def State.refclkShown (s : State) : State := ({ s with clk := { s.clk with refPresent := true } } : State).raise Evt.CLK_REFCLK_BACK

theorem refclkSettleExpire_effect {s : State} (haux : s.hs.auxUp = true) (he : s.clk.refEdges = true) (hp : s.clk.refPresent = false) :
    exec .refclkSettleExpire s = done (if s.clk.mgmtUp && s.flag Fld.CLK_REF_CFG_AUTO_REVERT then s.begin.refclkShown.refBack else s.begin.refclkShown) := by
  have harm : exec .refclkSettleExpire s = execRefclkSettleExpire s := rfl
  have hflag : s.begin.refclkShown.flag Fld.CLK_REF_CFG_AUTO_REVERT = s.flag Fld.CLK_REF_CFG_AUTO_REVERT := by
    rw [State.flag, State.refclkShown, State.get_raise_clear _ (by decide)]
    rfl
  have hclk : s.begin.refclkShown.clk = { s.clk with refPresent := true } := State.raise_clk _ _
  have hcond : (s.begin.clk.refEdges && !s.begin.clk.refPresent) = true := by rw [State.begin_clk, he, hp]; rfl
  rw [harm, execRefclkSettleExpire, State.whenAux_of_up _ haux]
  dsimp only
  rw [if_pos hcond]
  change done (if s.begin.refclkShown.clk.mgmtUp && s.begin.refclkShown.flag Fld.CLK_REF_CFG_AUTO_REVERT then _ else _) = _
  rw [hclk, hflag]
  rfl

/-! ### Loss of REFCLK (R62) -/

/-- What a hold leaves of the clocks and of the event that tells of the loss. -/
theorem State.refLost_hwHold (s : State) {p r : Nat} (party : Nat) (hp : p < 64) (hr : r < 16) :
    (s.hwHold p r party).clk = s.clk ∧ (s.hwHold p r party).get Evt.CLK_REFCLK_LOST.field = s.get Evt.CLK_REFCLK_LOST.field := by
  by_cases h : s.portHeld p = true
  · rw [State.hwHold, if_pos h]
    exact ⟨rfl, rfl⟩
  · have hh := State.hwHold_holds party hp hr (Bool.eq_false_of_not_eq_true h)
    refine ⟨hh.clk, hh.get _ (Field.enduring_of_page (by decide) (.inl (by decide))) fun f hf => Field.clearOf_of_addr (by decide) ?_⟩
    have ha := holdFields_addr hp hf
    simp only [Event.field, Evt.CLK_REFCLK_LOST, evtPendAddr]
    omega

/-- The holds of the ports in common clock with SSC. -/
def State.holdCommonClock (s : State) : State :=
  (List.range 64).foldl (fun s p => if s.portEn p && !s.flag (Fld.PORT_CFG_SRIS p) then s.hwHold p 8 Party.none else s) s

theorem State.refLost_holdCommonClock (s : State) :
    s.holdCommonClock.clk = s.clk ∧ s.holdCommonClock.get Evt.CLK_REFCLK_LOST.field = s.get Evt.CLK_REFCLK_LOST.field := by
  refine List.foldlRecOn (motive := fun t : State => t.clk = s.clk ∧ t.get Evt.CLK_REFCLK_LOST.field = s.get Evt.CLK_REFCLK_LOST.field) _ _ ⟨rfl, rfl⟩ fun t ht p hp => ?_
  split
  · obtain ⟨hc, hg⟩ := t.refLost_hwHold (r := 8) Party.none (List.mem_range.mp hp) (by decide)
    exact ⟨hc.trans ht.1, hg.trans ht.2⟩
  · exact ht

/-- The PLLs on the TCXO, with the loss told (R62). -/
def State.refclkGone (s : State) : State :=
  let t := ({ s with clk := { s.clk with refEdges := false, refPresent := false, refSrcTcxo := true } } : State).raise Evt.CLK_REFCLK_LOST
  t.sendFault (t.message Kind.REFCLK_LOST 0 0x001 0 8 Party.none none)

theorem refclkLoss_effect {s : State} (hrun : s.mgmtRuns = true) (hp : s.clk.refPresent = true) :
    exec .refclkLoss s = done (if s.begin.refclkGone.flag Fld.CLK_REF_CFG_SSC && s.begin.refclkGone.live 0x10 then s.begin.refclkGone.holdCommonClock else s.begin.refclkGone) := by
  have harm : exec .refclkLoss s = execRefclkLoss s := rfl
  obtain ⟨hup, hstop⟩ := State.mgmtRuns_iff.mp hrun
  have hcond : (s.begin.clk.refPresent && s.begin.clk.mgmtUp && !s.begin.clk.mgmtStopped) = true := by rw [State.begin_clk, hp, hup, hstop]; rfl
  rw [harm, execRefclkLoss, if_pos hcond]
  rfl

theorem State.refclkGone_clk (s : State) : s.refclkGone.clk = { s.clk with refEdges := false, refPresent := false, refSrcTcxo := true } := by
  rw [State.refclkGone, State.sendFault_clk, State.raise_clk]

theorem State.get_refclkGone {s : State} (hup : s.clk.mgmtUp = true) : s.refclkGone.get Evt.CLK_REFCLK_LOST.field = 1 := by
  have hsend : ∀ u : State, (u.sendFault (u.message Kind.REFCLK_LOST 0 0x001 0 8 Party.none none)).get Evt.CLK_REFCLK_LOST.field = u.get Evt.CLK_REFCLK_LOST.field :=
    fun u => State.get_sendFault _ _ (.inl (by simp only [State.message]; decide))
  rw [State.refclkGone, hsend]
  exact State.get_raise_mgmt (by simpa using hup) rfl (by decide) (by decide)

/-! ### Loss of a lock (R21, R366) -/

/-- The clocks with the PLLs of the mask out of lock. -/
def Clk.unlocked (c : Clk) (mask : Nat) : Clk :=
  { c with pllLock := c.pllLock &&& (0x1FF ^^^ mask), mgmtStopped := c.mgmtStopped || mask &&& (Pll.mgmt ||| Pll.keeper) != 0 }

/-- What a stop leaves of FABRIC and the clocks, whether or not MGMT is up (R361). -/
theorem State.fatal_stops {s : State} (m : FaultMsg) (hh : s.clk.stopHeld = false) (hf : s.clk.startFail = false) :
    (s.fatal m).clk = { s.clk with fabricHeld := true, pllLock := s.clk.pllLock &&& 0x1E0, stopHeld := true } ∧ (s.fatal m).fab = Fabric.reset ∧
    (s.fatal m).flt.stop.map (·.cls) = some 2 := by
  unfold State.fatal State.stopNow
  rw [State.sendFault_clk, hh, hf, if_neg Bool.false_ne_true, if_neg Bool.false_ne_true]
  dsimp only
  split <;> simp [State.capture]

theorem State.settle_fatal_stops {s : State} (m : FaultMsg) (hh : s.clk.stopHeld = false) (hf : s.clk.startFail = false) :
    (s.fatal m).settle.clk = { s.clk with fabricHeld := true, pllLock := s.clk.pllLock &&& 0x1E0, stopHeld := true } ∧ (s.fatal m).settle.fab = Fabric.reset ∧
    (s.fatal m).settle.flt.stop.map (·.cls) = some 2 := by
  obtain ⟨hclk, hfab, hstop⟩ := State.fatal_stops m hh hf
  refine ⟨(State.settle_clk _).trans hclk, (State.settle_fab _).trans hfab, ?_⟩
  rw [State.settle_flt]
  exact hstop

theorem testBit_unlocked (n : Nat) (pll : Fin 9) : (n &&& (0x1FF ^^^ 2 ^ pll.val)).testBit pll.val = false := by
  have h : (0x1FF : Nat).testBit pll.val = true := by revert pll; decide
  rw [Nat.testBit_and, Nat.testBit_xor, h, Nat.testBit_two_pow_self, Bool.xor_self, Bool.and_false]

/-! ### The obligation -/

section
variable {s : State}

theorem answers_refclkEdgesSeen (haux : s.hs.auxUp = true) : Answers .refclkEdgesSeen s fun t => t.clk = { s.clk with refEdges := true } ∧ Frame [.clk] [] s t :=
  answers_done (congrArg done (State.whenAux_of_up _ haux)) ⟨State.settle_clk _, ((Frame.begin s).andClk _).settle⟩

theorem answers_refclkSettleExpire (haux : s.hs.auxUp = true) (he : s.clk.refEdges = true) (hp : s.clk.refPresent = false) : Answers .refclkSettleExpire s fun t =>
    t.clk.refPresent = true ∧ (s.clk.mgmtUp = true → t.get Evt.CLK_REFCLK_BACK.field = 1) ∧
    t.clk.refSrcTcxo = (s.clk.refSrcTcxo && !(s.clk.mgmtUp && s.flag Fld.CLK_REF_CFG_AUTO_REVERT)) ∧
    Frame [.clk] [Evt.CLK_REFCLK_BACK.field, Evt.CLK_REF_SWITCH.field] s t := by
  have hclk : s.begin.refclkShown.clk = { s.clk with refPresent := true } := State.raise_clk _ _
  have hevt : s.clk.mgmtUp = true → s.begin.refclkShown.get Evt.CLK_REFCLK_BACK.field = 1 := fun hup => State.get_raise_mgmt (by simpa using hup) rfl (by decide) (by decide)
  have hfr : Frame [.clk] [Evt.CLK_REFCLK_BACK.field, Evt.CLK_REF_SWITCH.field] s s.begin.refclkShown := ((Frame.begin s).andClk _).andRaise
  refine answers_done (refclkSettleExpire_effect haux he hp) ?_
  by_cases hback : (s.clk.mgmtUp && s.flag Fld.CLK_REF_CFG_AUTO_REVERT) = true
  · have hclk' : s.begin.refclkShown.refBack.clk = { s.clk with refPresent := true, refSrcTcxo := false } := by rw [State.refBack_clk (by rw [hclk]), hclk]
    rw [if_pos hback]
    refine ⟨?_, fun hup => ?_, ?_, hfr.andRefBack.settle⟩
    · rw [State.settle_clk, hclk']
    · rw [State.get_settle _ (by decide), State.get_refBack _ (by decide), hevt hup]
    · rw [State.settle_clk, hclk', hback, Bool.not_true, Bool.and_false]
  · rw [if_neg hback]
    refine ⟨?_, fun hup => ?_, ?_, hfr.settle⟩
    · rw [State.settle_clk, hclk]
    · rw [State.get_settle _ (by decide), hevt hup]
    · rw [State.settle_clk, hclk, Bool.eq_false_of_not_eq_true hback, Bool.not_false, Bool.and_true]

theorem answers_autoRevertSet {m : Master} {value : Word} (htk : s.takes m 1 = true) (hlock : s.flag Fld.CLK_LOCK_LOCK = false)
    (hold : s.flag Fld.CLK_REF_CFG_AUTO_REVERT = false) (hbit : value.getLsbD 1 = true) (hp : s.clk.refPresent = true) (hsrc : s.clk.refSrcTcxo = true) :
    Answers (.autoRevertSet m value) s fun t => t.get Fld.CLK_REF_CFG_AUTO_REVERT = 1 ∧ t.clk = { s.clk with refSrcTcxo := false } ∧ t.get Evt.CLK_REF_SWITCH.field = 1 ∧
    Frame [.clk] [Fld.CLK_REF_CFG_SSC, Fld.CLK_REF_CFG_AUTO_REVERT, Evt.CLK_REF_SWITCH.field] s t := by
  have hodd : value.toNat / 2 % 2 = 1 := by
    have h := Nat.toNat_testBit value.toNat 1
    rw [show value.toNat.testBit 1 = true from hbit] at h
    exact h.symm
  have hset : ((s.begin.put Fld.CLK_REF_CFG_SSC value.toNat).put Fld.CLK_REF_CFG_AUTO_REVERT (value.toNat / 2)).get Fld.CLK_REF_CFG_AUTO_REVERT = 1 :=
    (State.get_put_same _ _ _ (by decide)).trans hodd
  have hfx : s.begin.writeRefCfg value.toNat = ((s.begin.put Fld.CLK_REF_CFG_SSC value.toNat).put Fld.CLK_REF_CFG_AUTO_REVERT (value.toNat / 2)).refBack := by
    have hl : s.begin.flag Fld.CLK_LOCK_LOCK = false := hlock
    have ho : s.begin.flag Fld.CLK_REF_CFG_AUTO_REVERT = false := hold
    have hn : ((s.begin.put Fld.CLK_REF_CFG_SSC value.toNat).put Fld.CLK_REF_CFG_AUTO_REVERT (value.toNat / 2)).flag Fld.CLK_REF_CFG_AUTO_REVERT = true := beq_iff_eq.mpr hset
    unfold State.writeRefCfg
    rw [hl, if_neg Bool.false_ne_true]
    dsimp only [State.puts, List.foldl_cons, List.foldl_nil]
    rw [ho, hn, if_pos (by decide)]
  have hback : ((s.begin.put Fld.CLK_REF_CFG_SSC value.toNat).put Fld.CLK_REF_CFG_AUTO_REVERT (value.toNat / 2)).refBack.clk = { s.clk with refSrcTcxo := false } :=
    (State.refBack_clk (by simpa using hp)).trans (by simp)
  have hup : s.clk.mgmtUp = true := by
    obtain ⟨⟨⟨hrun, -⟩, -⟩, -⟩ : ((s.mgmtRuns = true ∧ _) ∧ _) ∧ _ := by simpa only [State.takes, Bool.and_eq_true] using htk
    exact (State.mgmtRuns_iff.mp hrun).1
  have hevt : ((s.begin.put Fld.CLK_REF_CFG_SSC value.toNat).put Fld.CLK_REF_CFG_AUTO_REVERT (value.toNat / 2)).refBack.get Evt.CLK_REF_SWITCH.field = 1 := by
    rw [State.refBack, if_pos (by simp [hp, hsrc])]
    exact State.get_raise_mgmt (by simpa using hup) rfl (by decide) (by decide)
  refine answers_guard rfl htk hfx ((((Frame.begin s).andPut value.toNat).andPut (value.toNat / 2)).andRefBack) ?_ (by decide) fun hfr => ⟨?_, ?_, ?_, hfr⟩
  · unfold State.refBack
    split <;> simp
  · rw [State.get_settle _ (by decide), State.get_refBack _ (by decide), hset]
  · exact (State.settle_clk _).trans hback
  · rw [State.get_settle _ (by decide), hevt]

theorem answers_refclkLoss (hrun : s.mgmtRuns = true) (hp : s.clk.refPresent = true) : Answers .refclkLoss s fun t => t.clk.refPresent = false ∧ t.clk.refEdges = false ∧
    t.clk.refSrcTcxo = true ∧ t.get Evt.CLK_REFCLK_LOST.field = 1 := by
  obtain ⟨hup, -⟩ := State.mgmtRuns_iff.mp hrun
  have hgone := State.get_refclkGone (s := s.begin) (by simpa using hup)
  have hclk := s.begin.refclkGone_clk
  obtain ⟨hc, hg⟩ := s.begin.refclkGone.refLost_holdCommonClock
  refine answers_done (refclkLoss_effect hrun hp) ?_
  rw [State.settle_clk, State.get_settle _ (by decide)]
  split
  · rw [hc, hg, hclk]
    exact ⟨rfl, rfl, rfl, hgone⟩
  · rw [hclk]
    exact ⟨rfl, rfl, rfl, hgone⟩

theorem answers_pllUnlock (pll : Fin 9) (hup : s.clk.mgmtUp = true) (hh : s.clk.stopHeld = false) (hf : s.clk.startFail = false) : Answers (.pllUnlock pll) s fun t =>
    t.clk.pllLock.testBit pll.val = false ∧ t.clk.stopHeld = true ∧ t.clk.fabricHeld = true ∧ t.fab = Fabric.reset ∧ t.flt.stop.map (·.cls) = some 2 := by
  refine answers_mgmt rfl hup rfl ?_
  obtain ⟨hclk, hfab, hstop⟩ := State.settle_fatal_stops (s := { s.begin with clk := s.clk.unlocked (2 ^ pll.val) })
    (State.message { s.begin with clk := s.clk.unlocked (2 ^ pll.val) } Kind.PLL_UNLOCK 2 0x001 (8 + pll.val) 8 Party.none none) hh hf
  refine ⟨?_, ?_, ?_, hfab, hstop⟩
  · refine (congrArg (fun c : Clk => c.pllLock.testBit pll.val) hclk).trans ?_
    dsimp only [Clk.unlocked]
    rw [Nat.testBit_and, testBit_unlocked, Bool.false_and]
  · exact congrArg Clk.stopHeld hclk
  · exact congrArg Clk.fabricHeld hclk

theorem answers_tcxoLoss (hh : s.clk.stopHeld = false) (hf : s.clk.startFail = false) : Answers .tcxoLoss s fun t => t.clk.tcxoOk = false ∧ t.clk.stopHeld = true ∧
    t.clk.mgmtStopped = true ∧ t.clk.fabricHeld = true ∧ t.fab = Fabric.reset := by
  refine answers_done rfl ?_
  generalize hmask : (Pll.hbm ||| Pll.keeper ||| Pll.mgmt ||| (if s.clk.refSrcTcxo then Pll.hub ||| Pll.tiles else 0) ||| (if s.flag Fld.TIME_STATUS_SRC then 0 else Pll.time)) = mask
  have hmgmt : (mask &&& (Pll.mgmt ||| Pll.keeper) != 0) = true := by
    subst hmask
    cases s.clk.refSrcTcxo <;> cases s.flag Fld.TIME_STATUS_SRC <;> decide
  obtain ⟨hclk, hfab, -⟩ := State.settle_fatal_stops (s := { s.begin with clk := { s.clk with tcxoOk := false }.unlocked mask })
    (State.message { s.begin with clk := { s.clk with tcxoOk := false }.unlocked mask } Kind.TCXO_LOST 2 0x001 0 8 Party.none none) hh hf
  subst hmask
  refine ⟨congrArg Clk.tcxoOk hclk, congrArg Clk.stopHeld hclk, (congrArg Clk.mgmtStopped hclk).trans ?_, congrArg Clk.fabricHeld hclk, hfab⟩
  dsimp only [Clk.unlocked]
  rw [hmgmt, Bool.or_true]

theorem answers_strapChange (pins : Straps) (hup : s.clk.mgmtUp = true) : Answers (.strapChange pins) s fun t => t.clk = { s.clk with strapPins := pins } ∧
    (pins ≠ s.clk.straps → t.get Evt.CLK_STRAP_CHG.field = 1) ∧ Frame [.clk] [Evt.CLK_STRAP_CHG.field] s t := by
  refine answers_done rfl ⟨?_, fun hne => ?_, (((Frame.begin s).andClk _).andRaiseIf _).settle⟩
  · rw [State.settle_clk, State.raiseIf_clk]
    rfl
  · have hcond : (s.clk.mgmtUp && pins != s.clk.straps) = true := by rw [hup, Bool.true_and]; exact bne_iff_ne.mpr hne
    rw [State.get_settle _ (by decide), State.raiseIf]
    refine (congrArg (State.get · _) (if_pos hcond)).trans ?_
    exact State.get_raise_mgmt hup rfl (by decide) (by decide)

end

/-- Settles O5. -/
theorem clockSources : Obligations.ClockSources := by
  unfold Obligations.ClockSources
  exact fun s haux => ⟨answers_refclkEdgesSeen haux, answers_refclkSettleExpire haux, fun _ _ htk hlock hold hbit hp hsrc => answers_autoRevertSet htk hlock hold hbit hp hsrc,
    answers_refclkLoss, answers_pllUnlock, answers_tcxoLoss, answers_strapChange⟩

end Sys2Proof.Machine
end

section
/-! PROOFS. Lanes that fail and lanes that are calibrated (O39, R90 to R92, R96 to R98, R104). -/
namespace Sys2Proof.Machine
open Sys2Proof
set_option Elab.async false

/-! ### A fold that changes the state at one place -/

theorem foldl_stays {α : Type} {f : State → α → State} {s : State} {l : List α} (h : ∀ x ∈ l, f s x = s) : l.foldl f s = s := by
  induction l with
  | nil => rfl
  | cons x l ih =>
    rw [List.foldl_cons, h x List.mem_cons_self]
    exact ih fun y hy => h y (List.mem_cons_of_mem _ hy)

theorem foldl_once {α : Type} {f : State → α → State} {s : State} {l : List α} {x : α} (hl : l.Nodup) (hx : x ∈ l) (h : ∀ y ∈ l, y ≠ x → f s y = s)
    (h' : ∀ y ∈ l, y ≠ x → f (f s x) y = f s x) : l.foldl f s = f s x := by
  induction l with
  | nil => cases hx
  | cons z l ih =>
    obtain ⟨hz, hl⟩ := List.nodup_cons.mp hl
    rw [List.foldl_cons]
    by_cases hzx : z = x
    · subst hzx
      exact foldl_stays fun y hy => h' y (List.mem_cons_of_mem _ hy) fun hyz => hz (hyz ▸ hy)
    · rw [h z List.mem_cons_self hzx]
      exact ih hl ((List.mem_cons.mp hx).resolve_left (Ne.symm hzx)) (fun y hy => h y (List.mem_cons_of_mem _ hy)) fun y hy => h' y (List.mem_cons_of_mem _ hy)

/-! ### Operations on a lane keep what says which port holds it -/

namespace State.SameBelow
variable {s t u : State}

theorem raiseIf (h : s.SameBelow t) (c : Bool) {e : Event} (he : 0x100 ≤ e.page) : s.SameBelow (t.raiseIf c e) := by
  unfold State.raiseIf
  split
  · exact h.raise he
  · exact h

theorem laneSignal (h : s.SameBelow t) (i : Nat) (on : Bool) : s.SameBelow (t.laneSignal i on) := fun a ha => by
  have hp := lanePage_eq i
  exact (State.word_laneSignal _ _ _ (by simp only [Addr.LANE_STATUS]; omega) (by simp only [Addr.LANE_EYE_STATUS]; omega)).trans (h a ha)

theorem portLanes (h : s.SameBelow t) {p : Nat} (hp : p < 64) : t.portLanes p = s.portLanes p := by rw [State.portLanes, State.portLanes, h.portWidth hp]

theorem portEn (h : s.SameBelow t) {p : Nat} (hp : p < 64) : t.portEn p = s.portEn p := by
  rw [State.portEn, State.portEn, h.present hp, State.flag, State.flag, h.get (by simp only [Fld.PORT_CFG_EN, Addr.PORT_CFG]; omega)]

theorem portHeld (h : s.SameBelow t) {p : Nat} (hp : p < 64) : t.portHeld p = s.portHeld p := by
  rw [State.portHeld, State.portHeld, State.flag, State.flag, h.get (by simp only [Fld.PORT_CTL_HOLD, Addr.PORT_CTL]; omega)]

end State.SameBelow

theorem laneStatus_above (i : Nat) : 0x1000000 ≤ Addr.LANE_STATUS i := by
  rw [Addr.LANE_STATUS, lanePage_eq]
  omega

theorem lanePage_above (i : Nat) : 0x100 ≤ lanePage i := by
  rw [lanePage_eq]
  omega

/-! ### Lanes that fail (R97, R98) -/

/-- A main lane that can fail: live in the one configured port that holds it, which is not held. -/
structure State.Failing (s : State) (i : LaneIx) (p : Nat) : Prop where
  main : i.val < 256
  unfailed : s.flag (Fld.LANE_STATUS_FAILED i.val) = false
  port : s.portOfLane i.val = some p
  lt : p < 64
  mem : i.val ∈ s.portLanes p
  alone : ∀ q : Fin 64, q.val ≠ p → i.val ∈ s.portLanes q.val → s.portEn q.val = false
  en : s.portEn p = true
  free : s.portHeld p = false

/-- An operation on lanes that leaves the lane unfailed. -/
theorem State.Failing.of_sameBelow {s t : State} {i : LaneIx} {p : Nat} (h : s.Failing i p) (hb : s.SameBelow t)
    (hf : t.get (Fld.LANE_STATUS_FAILED i.val) = s.get (Fld.LANE_STATUS_FAILED i.val)) : t.Failing i p :=
  { main := h.main, lt := h.lt
    unfailed := by rw [State.flag, hf]; exact h.unfailed
    port := (hb.portOfLane _).trans h.port
    mem := by rw [hb.portLanes h.lt]; exact h.mem
    alone := fun q hq hm => by
      rw [hb.portLanes q.isLt] at hm
      exact (hb.portEn q.isLt).trans (h.alone q hq hm)
    en := (hb.portEn h.lt).trans h.en
    free := (hb.portHeld h.lt).trans h.free }

theorem State.Failing.live {s : State} {i : LaneIx} {p : Nat} (h : s.Failing i p) : s.laneLive i.val = true := by
  rw [State.laneLive, if_pos h.main, h.port]
  dsimp only
  rw [h.en, h.free]
  rfl

theorem State.Failing.canFail {s : State} {i : LaneIx} {p : Nat} (h : s.Failing i p) : s.canFail [i] = [i.val] := by
  have hl : ([i].map (·.val)).eraseDups = [i.val] := rfl
  rw [State.canFail, hl, List.filter_cons_of_pos (by rw [h.live, h.unfailed]; rfl), List.filter_nil]

/-- No lane that is not live fails. -/
theorem State.canFail_of_not_live {s : State} {l : List LaneIx} (h : ∀ j ∈ l, s.laneLive j.val = false) : s.canFail l = [] := by
  refine List.filter_eq_nil_iff.mpr fun x hx => ?_
  obtain ⟨j, hj, rfl⟩ := List.mem_map.mp (List.mem_eraseDups.mp hx)
  rw [h j hj]
  exact Bool.false_ne_true

/-- The part of a failure that concerns one port: it is held where a failed lane is its own. -/
def State.failPort (main : List Nat) (s : State) (p : Nat) : State :=
  match main.filter (fun i => (s.portLanes p).contains i && s.portEn p) with
  | [] => s
  | i :: r => s.hwHold p 6 (Party.lane (r.foldl min i))

/-- The part of a failure that concerns the Tandem link and the Waggle lane. -/
def State.failPairLanes (s : State) (l : List Nat) (cause : Nat) : State :=
  let s := (l.filter fun i => decide (256 ≤ i) && decide (i < 264)).foldl (fun s i => s.tandemLaneFail (i - 256) cause) s
  if l.contains 264 then
    let s := (s.markFailed 264 cause).sendFault (s.message Kind.WAGGLE_FAIL 1 0x208 0 8 (Party.lane 264) none)
    let s := s.raiseIf (s.flag Fld.WAGGLE_STATUS_LOCK) Evt.WAGGLE_LOCK
    (s.puts [(Fld.WAGGLE_STATUS_ALIVE, 0), (Fld.WAGGLE_STATUS_LOCK, 0)]).updateFollow
  else s

/-- The ports hold, after the main lanes are marked. -/
def State.failMain (s : State) (main : List Nat) (cause : Nat) : State :=
  (List.range 64).foldl (State.failPort main) (main.foldl (fun s i => s.markFailed i cause) s)

theorem State.failLanes_parts (s : State) (l : List LaneIx) (cause : Nat) :
    s.failLanes l cause = (s.failMain ((s.canFail l).filter fun i => decide (i < 256)) cause).failPairLanes (s.canFail l) cause := rfl

theorem State.failPairLanes_nil (s : State) (cause : Nat) : s.failPairLanes [] cause = s := by
  unfold State.failPairLanes
  rw [List.filter_nil, List.foldl_nil, if_neg (by simp)]

theorem State.failLanes_eq_self {s : State} {l : List LaneIx} (cause : Nat) (h : s.canFail l = []) : s.failLanes l cause = s := by
  rw [State.failLanes_parts, h, List.filter_nil, State.failPairLanes_nil]
  exact foldl_stays (f := State.failPort []) fun p _ => rfl

theorem State.failPort_other {s : State} {i q : Nat} (h : i ∈ s.portLanes q → s.portEn q = false) : s.failPort [i] q = s := by
  have hf : ((s.portLanes q).contains i && s.portEn q) = false := by
    by_cases hm : i ∈ s.portLanes q
    · rw [h hm, Bool.and_false]
    · rw [Bool.eq_false_of_not_eq_true (mt List.contains_iff_mem.mp hm), Bool.false_and]
  unfold State.failPort
  rw [List.filter_cons_of_neg (by rw [hf]; exact Bool.false_ne_true), List.filter_nil]

theorem State.failPort_own {s : State} {i p : Nat} (h : i ∈ s.portLanes p) (he : s.portEn p = true) : s.failPort [i] p = s.hwHold p 6 (Party.lane i) := by
  unfold State.failPort
  rw [List.filter_cons_of_pos (by rw [he, List.contains_iff_mem.mpr h]; rfl), List.filter_nil]
  rfl

/-- The hold of one port leaves each port's configuration. -/
theorem State.Holds.portCfg {s t : State} {p r : Nat} (h : s.Holds t p r) {q : Nat} (hq : q < 64) : t.present q = s.present q ∧ t.portWidth q = s.portWidth q ∧ t.portEn q = s.portEn q := by
  have hclear : ∀ {g : Field}, g.lo + g.width ≤ 32 → (∀ k : Nat, g.addr ≠ Addr.PORT_CTL k ∧ g.addr ≠ Addr.PORT_STATUS k ∧ g.addr ≠ (Evt.PORT_HELD k).field.addr) →
      ∀ f ∈ holdFields p, g.clearOf f = true := fun {g} hw ha f hf => by
    obtain ⟨h1, h2, h3⟩ := ha p
    simp only [holdFields, List.mem_cons, List.not_mem_nil, or_false] at hf
    rcases hf with rfl | rfl | rfl | rfl
    · exact Field.clearOf_of_addr hw h1
    · exact Field.clearOf_of_addr hw h2
    · exact Field.clearOf_of_addr hw h2
    · exact Field.clearOf_of_addr hw h3
  have hev : ∀ k, (Evt.PORT_HELD k).field.addr = (0x10 + k / 4) * 0x10000 + 0x40 := fun _ => rfl
  have hb := h.get _ (enduring_bifur hq) (hclear (show 0 + 2 ≤ 32 by decide) fun k => by
    rw [hev]
    simp only [Fld.PORTG_STATUS_BIFUR_ACT, Addr.PORTG_STATUS, Addr.PORT_CTL, Addr.PORT_STATUS]
    omega)
  have hp := h.get _ (enduring_present hq) (hclear (show 4 + 4 ≤ 32 by decide) fun k => by
    rw [hev]
    simp only [Fld.PORTG_STATUS_PRESENT, Addr.PORTG_STATUS, Addr.PORT_CTL, Addr.PORT_STATUS]
    omega)
  have he := h.get _ (enduring_en hq) (hclear (show 0 + 1 ≤ 32 by decide) fun k => by
    rw [hev]
    simp only [Fld.PORT_CFG_EN, Addr.PORT_CFG, Addr.PORT_CTL, Addr.PORT_STATUS]
    omega)
  exact ⟨by rw [State.present, State.present, hp], by rw [State.portWidth, State.portWidth, hb],
    by rw [State.portEn, State.portEn, State.present, State.present, State.flag, State.flag, hp, he]⟩

theorem State.portOfLane_congr {s t : State} (h : ∀ q < 64, t.present q = s.present q ∧ t.portWidth q = s.portWidth q) (i : Nat) : t.portOfLane i = s.portOfLane i := by
  unfold State.portOfLane
  split
  · rfl
  · next hi =>
    obtain ⟨p0, w0⟩ := h (4 * (i / 16) + 0) (by omega)
    obtain ⟨p1, w1⟩ := h (4 * (i / 16) + 1) (by omega)
    obtain ⟨p2, w2⟩ := h (4 * (i / 16) + 2) (by omega)
    obtain ⟨p3, w3⟩ := h (4 * (i / 16) + 3) (by omega)
    simp only [List.range_succ, List.range_zero, List.nil_append, List.cons_append, List.findSome?_cons, List.findSome?_nil, p0, w0, p1, w1, p2, w2, p3, w3]

theorem State.Holds.portOfLane {s t : State} {p r : Nat} (h : s.Holds t p r) (i : Nat) : t.portOfLane i = s.portOfLane i :=
  State.portOfLane_congr (fun _ hq => ⟨(h.portCfg hq).1, (h.portCfg hq).2.1⟩) i

theorem State.sameBelow_markFailed (s : State) (i cause : Nat) : s.SameBelow (s.markFailed i cause) :=
  ((((State.SameBelow.refl s).put (f := Fld.LANE_STATUS_FAILED i) 1 (laneStatus_above i)).put (f := Fld.LANE_STATUS_FAIL_CAUSE i) cause (laneStatus_above i)).raise
    (e := Evt.LANE_LANE_FAIL i) (lanePage_above i)).regs rfl

/-- The port that holds a failed lane is held with reason 6. -/
theorem State.failLanes_eq {s : State} {i : LaneIx} {p : Nat} (h : s.Failing i p) (cause : Nat) :
    s.failLanes [i] cause = (s.markFailed i.val cause).hwHold p 6 (Party.lane i.val) := by
  have hb := s.sameBelow_markFailed i.val cause
  have hown : (s.markFailed i.val cause).failPort [i.val] p = (s.markFailed i.val cause).hwHold p 6 (Party.lane i.val) :=
    State.failPort_own (by rw [hb.portLanes h.lt]; exact h.mem) ((hb.portEn h.lt).trans h.en)
  have hfold : (List.range 64).foldl (State.failPort [i.val]) (s.markFailed i.val cause) = (s.markFailed i.val cause).failPort [i.val] p := by
    refine foldl_once List.nodup_range (List.mem_range.mpr h.lt) (fun q hq hne => State.failPort_other ?_) fun q hq hne => ?_
    · rw [hb.portLanes (List.mem_range.mp hq), hb.portEn (List.mem_range.mp hq)]
      exact h.alone ⟨q, List.mem_range.mp hq⟩ hne
    · rw [hown]
      obtain ⟨-, hl, he⟩ := (State.hwHold_holds (Party.lane i.val) h.lt (show 6 < 16 by decide) ((hb.portHeld h.lt).trans h.free)).portCfg (List.mem_range.mp hq)
      refine State.failPort_other ?_
      rw [State.portLanes, hl, ← State.portLanes, he, hb.portLanes (List.mem_range.mp hq), hb.portEn (List.mem_range.mp hq)]
      exact h.alone ⟨q, List.mem_range.mp hq⟩ hne
  have hmain : [i.val].filter (fun i => decide (i < 256)) = [i.val] := List.filter_cons_of_pos (by simpa using h.main)
  have htile : [i.val].filter (fun i => decide (256 ≤ i) && decide (i < 264)) = [] := List.filter_cons_of_neg (by simpa using fun hge => absurd h.main (by omega))
  have hwag : [i.val].contains 264 = false := by simpa using fun he : 264 = i.val => absurd h.main (by omega)
  have hpair : ∀ u : State, u.failPairLanes [i.val] cause = u := fun u => by
    unfold State.failPairLanes
    rw [htile, hwag]
    rfl
  rw [State.failLanes_parts, h.canFail, hmain, hpair]
  exact hfold.trans hown

/-- What the failure of a lane shows (R98). -/
structure State.ShowsFailure (s t : State) (i : LaneIx) (p cause : Nat) : Prop where
  failed : t.get (Fld.LANE_STATUS_FAILED i.val) = 1
  cause : t.get (Fld.LANE_STATUS_FAIL_CAUSE i.val) = cause
  told : t.get (Evt.LANE_LANE_FAIL i.val).field = 1
  held : t.portHeld p = true
  reason : t.get (Fld.PORT_STATUS_HOLD_REASON p) = 6
  down : t.linkUp p = false
  counted : t.counter (Ctr.LANE i.val 7) = s.counter (Ctr.LANE i.val 7) + 1
  others : ∀ e < 7, t.counter (Ctr.LANE i.val e) = s.counter (Ctr.LANE i.val e)

theorem laneCounter_lt (i : LaneIx) {e : Nat} (h : e < 8) : Ctr.LANE i.val e < 0x8010000 := by
  have hi := i.isLt
  simp only [Ctr.LANE, perfAddr]
  omega

theorem laneCounter_ne (i : Nat) {e d : Nat} (h : e ≠ d) : Ctr.LANE i e ≠ Ctr.LANE i d := by
  simp only [Ctr.LANE, perfAddr]
  omega

/-- A field of a lane is of no port. -/
theorem clearOf_holdFields (i : Nat) {g : Field} {p x : Nat} (hp : p < 64) (hg : g.addr = lanePage i * 0x10000 + x) (hw : g.lo + g.width ≤ 32) :
    ∀ f ∈ holdFields p, g.clearOf f = true := fun f hf => by
  have ha := holdFields_addr hp hf
  rw [lanePage_eq] at hg
  exact Field.clearOf_of_addr hw (by omega)

theorem State.get_mirror_settle_port (s old : State) {g : Field} (hg : 0x10 ≤ g.addr / 0x10000 ∧ g.addr / 0x10000 < 0x20) :
    (s.mirror old).settle.get g = s.get g := State.get_mirror_settle _ _ (by omega) (by omega)

theorem State.counter_mirror_settle (s old : State) {c : Nat} (h : c < 0x8010000) : (s.mirror old).settle.counter c = s.counter c :=
  (State.counter_settle _ _).trans (((State.Spares.refl s).mirror old).counter c h)

theorem State.linkUp_mirror_settle (s old : State) (p : Nat) : (s.mirror old).settle.linkUp p = s.linkUp p :=
  State.linkUp_congr (by rw [State.settle_fab, State.mirror_fab_up]) p

theorem State.portHeld_mirror_settle (s old : State) {p : Nat} (hp : p < 64) : (s.mirror old).settle.portHeld p = s.portHeld p := by
  rw [State.portHeld, State.portHeld, State.flag, State.flag, State.get_mirror_settle_port _ _ (by simp only [Fld.PORT_CTL_HOLD, Addr.PORT_CTL]; omega)]

theorem State.showsFailure {s : State} {i : LaneIx} {p cause : Nat} (old : State) (h : s.Failing i p) (hl : s.live (lanePage i.val) = true) (hc : cause < 16) :
    s.ShowsFailure ((s.failLanes [i] cause).mirror old).settle i p cause := by
  have hb := s.sameBelow_markFailed i.val cause
  have hh := State.hwHold_holds (Party.lane i.val) h.lt (show 6 < 16 by decide) ((hb.portHeld h.lt).trans h.free)
  rw [State.failLanes_eq h]
  have hlane : ∀ {g : Field} {x : Nat}, g.Enduring → g.addr = lanePage i.val * 0x10000 + x → x < 0x10000 → g.lo + g.width ≤ 32 →
      ((((s.markFailed i.val cause).hwHold p 6 (Party.lane i.val)).mirror old).settle).get g = (s.markFailed i.val cause).get g := fun hg ha hx hw => by
    rw [State.get_mirror_settle_lane _ _ i ha hx, hh.get _ hg (clearOf_holdFields _ h.lt ha hw)]
  refine ⟨?_, ?_, ?_, ?_, ?_, ?_, ?_, fun e he => ?_⟩
  · rw [hlane (enduring_failed i.isLt) rfl (by decide) (show 10 + 1 ≤ 32 by decide)]
    show (((s.put (Fld.LANE_STATUS_FAILED i.val) 1).put (Fld.LANE_STATUS_FAIL_CAUSE i.val) cause).raise (Evt.LANE_LANE_FAIL i.val)).get (Fld.LANE_STATUS_FAILED i.val) = 1
    rw [State.get_raise_clear _ (Field.clearOf_of_base rfl rfl rfl), State.get_put_clear _ _ (Field.clearOf_of_base rfl rfl rfl), State.get_put_fits _ (Field.fits_of rfl)]
  · rw [hlane (enduring_cause i.isLt) rfl (by decide) (show 16 + 4 ≤ 32 by decide)]
    show (((s.put (Fld.LANE_STATUS_FAILED i.val) 1).put (Fld.LANE_STATUS_FAIL_CAUSE i.val) cause).raise (Evt.LANE_LANE_FAIL i.val)).get (Fld.LANE_STATUS_FAIL_CAUSE i.val) = cause
    rw [State.get_raise_clear _ (Field.clearOf_of_base rfl rfl rfl), State.get_put_fits _ ⟨show 16 + 4 ≤ 32 by decide, hc⟩]
  · rw [hlane (enduring_laneFail i.isLt) rfl (by decide) (show 1 + 1 ≤ 32 by decide)]
    exact State.get_raise_lane i rfl ((State.live_congr (by simp) (by simp) _).trans hl) (show 1 < 6 by decide)
  · rw [State.portHeld_mirror_settle _ _ h.lt, hh.held]
  · have ht := h.lt
    rw [State.get_mirror_settle_port _ _ (by simp only [Fld.PORT_STATUS_HOLD_REASON, Addr.PORT_STATUS]; omega), hh.reason]
  · rw [State.linkUp_mirror_settle, hh.down]
  · rw [State.counter_mirror_settle _ _ (laneCounter_lt i (by decide)), hh.counter _ (laneCounter_lt i (by decide)), State.markFailed, State.counter_count_same]
    rw [State.counter_congr (t := ((s.puts _).raise _)) (State.raise_ctrs _ _), State.counter_congr (State.puts_ctrs _ _)]
    rfl
  · rw [State.counter_mirror_settle _ _ (laneCounter_lt i (by omega)), hh.counter _ (laneCounter_lt i (by omega)), State.markFailed, State.counter_count_other _ _ (laneCounter_ne _ (by omega))]
    rw [State.counter_congr (t := ((s.puts _).raise _)) (State.raise_ctrs _ _), State.counter_congr (State.puts_ctrs _ _)]

end Sys2Proof.Machine
end

section
/-! PROOFS. What the errors of a lane count, and what fails it (O39, R87 to R89, R92, R97, R98). -/
namespace Sys2Proof.Machine
open Sys2Proof
set_option Elab.async false

/-! ### Lanes as they are while registers of lanes change -/

theorem State.SameBelow.laneLive {s t : State} (h : s.SameBelow t) (i : LaneIx) : t.laneLive i.val = s.laneLive i.val := by
  have hflag : ∀ f : Field, f.addr < 0x1000000 → t.flag f = s.flag f := fun f hf => by rw [State.flag, State.flag, h.get hf]
  unfold State.laneLive
  rw [h.portOfLane, hflag _ (show Fld.TDM_CFG_EN.addr < 0x1000000 by decide), hflag _ (show Fld.WAGGLE_CFG_EN.addr < 0x1000000 by decide)]
  cases hp : s.portOfLane i.val with
  | none => rfl
  | some p => simp only [h.portEn (State.portOfLane_lt hp), h.portHeld (State.portOfLane_lt hp)]

theorem State.Failing.begin {s : State} {i : LaneIx} {p : Nat} (h : s.Failing i p) : s.begin.Failing i p :=
  h.of_sameBelow ((State.SameBelow.refl s).regs rfl) (State.get_congr rfl _)

/-! ### Errors counted -/

/-- The lanes with n error events in a lane's window and its running disparity. -/
def Lanes.withErrors (l : Lanes) (i n : Nat) (positive : Bool) : Lanes :=
  { l with errs := mput 0 l.errs i n, disparity := (l.disparity.filter fun x => x != i) ++ if positive then [i] else [] }

/-- The state with a lane's errors counted and its symbols passed upward, before ERR_HALF. -/
def State.errorsTaken (s : State) (i : Nat) (e : LaneErrors) : State :=
  let t := ((((s.count (Ctr.LANE i 0) (s.decoded i e).violations).count (Ctr.LANE i 1) (s.decoded i e).disparities).count (Ctr.LANE i 2) (s.syncErrors i e)).count (Ctr.LANE i 3)
    (if s.fecInUse i then e.fec else 0)).modLanes fun l => l.withErrors i (mget 0 s.fab.lanes.errs i + s.errorEvents i e) (s.decoded i e).positive
  if (s.decoded i e).syms.isEmpty then t else t.emit (.symbols i (s.decoded i e).syms)

theorem State.addErrors_eq (s : State) (i : Nat) (e : LaneErrors) : s.addErrors i e = (s.errorsTaken i e).raiseIf
    (decide (2 * mget 0 s.fab.lanes.errs i ≤ s.errorLimit i) && decide (s.errorLimit i < 2 * (mget 0 s.fab.lanes.errs i + s.errorEvents i e))) (Evt.LANE_ERR_HALF i) := rfl

theorem State.errorsTaken_regs (s : State) (i : Nat) (e : LaneErrors) : (s.errorsTaken i e).regs = s.regs := by
  unfold State.errorsTaken
  dsimp only
  split <;> rfl

theorem State.addErrors_lanes (s : State) (i : Nat) (e : LaneErrors) : (s.addErrors i e).fab = { s.fab with
    lanes := s.fab.lanes.withErrors i (mget 0 s.fab.lanes.errs i + s.errorEvents i e) (s.decoded i e).positive } := by
  rw [State.addErrors_eq, State.raiseIf_fab, State.errorsTaken]
  dsimp only
  split <;> rfl

theorem State.errs_addErrors (s : State) (i : Nat) (e : LaneErrors) : mget 0 (s.addErrors i e).fab.lanes.errs i = mget 0 s.fab.lanes.errs i + s.errorEvents i e := by
  rw [State.addErrors_lanes]
  exact mget_mput_same _ _ _ _

theorem State.disparity_addErrors (s : State) (i : Nat) (e : LaneErrors) : i ∈ (s.addErrors i e).fab.lanes.disparity ↔ (s.decoded i e).positive = true := by
  rw [State.addErrors_lanes]
  cases (s.decoded i e).positive <;> simp [Lanes.withErrors]

theorem State.out_addErrors (s : State) (i : Nat) (e : LaneErrors) :
    (s.addErrors i e).out = s.out ++ if (s.decoded i e).syms = [] then [] else [.symbols i (s.decoded i e).syms] := by
  rw [State.addErrors_eq, State.raiseIf_out, State.errorsTaken]
  by_cases h : (s.decoded i e).syms = []
  · rw [if_pos (List.isEmpty_iff.mpr h), if_pos h, List.append_nil]
    rfl
  · rw [if_neg (mt List.isEmpty_iff.mp h), if_neg h]
    rfl

theorem State.counter_addErrors (s : State) (i c : Nat) (e : LaneErrors) : (s.addErrors i e).counter c =
    ((((s.count (Ctr.LANE i 0) (s.decoded i e).violations).count (Ctr.LANE i 1) (s.decoded i e).disparities).count (Ctr.LANE i 2) (s.syncErrors i e)).count (Ctr.LANE i 3)
      (if s.fecInUse i then e.fec else 0)).counter c := by
  refine State.counter_congr ?_ c
  rw [State.addErrors_eq, State.raiseIf_ctrs, State.errorsTaken]
  split <;> rfl

section
variable (s : State) (i : Nat) (e : LaneErrors)

theorem State.counter_addErrors_violations : (s.addErrors i e).counter (Ctr.LANE i 0) = s.counter (Ctr.LANE i 0) + BitVec.ofNat 64 (s.decoded i e).violations := by
  rw [State.counter_addErrors, State.counter_count_other _ _ (laneCounter_ne i (by decide)), State.counter_count_other _ _ (laneCounter_ne i (by decide)),
    State.counter_count_other _ _ (laneCounter_ne i (by decide)), State.counter_count_same]

theorem State.counter_addErrors_disparities : (s.addErrors i e).counter (Ctr.LANE i 1) = s.counter (Ctr.LANE i 1) + BitVec.ofNat 64 (s.decoded i e).disparities := by
  rw [State.counter_addErrors, State.counter_count_other _ _ (laneCounter_ne i (by decide)), State.counter_count_other _ _ (laneCounter_ne i (by decide)), State.counter_count_same,
    State.counter_count_other _ _ (laneCounter_ne i (by decide))]

theorem State.counter_addErrors_sync : (s.addErrors i e).counter (Ctr.LANE i 2) = s.counter (Ctr.LANE i 2) + BitVec.ofNat 64 (s.syncErrors i e) := by
  rw [State.counter_addErrors, State.counter_count_other _ _ (laneCounter_ne i (by decide)), State.counter_count_same, State.counter_count_other _ _ (laneCounter_ne i (by decide)),
    State.counter_count_other _ _ (laneCounter_ne i (by decide))]

theorem State.counter_addErrors_fec : (s.addErrors i e).counter (Ctr.LANE i 3) = s.counter (Ctr.LANE i 3) + if s.fecInUse i then BitVec.ofNat 64 e.fec else 0 := by
  rw [State.counter_addErrors, State.counter_count_same, State.counter_count_other _ _ (laneCounter_ne i (by decide)), State.counter_count_other _ _ (laneCounter_ne i (by decide)),
    State.counter_count_other _ _ (laneCounter_ne i (by decide))]
  split <;> rfl

theorem State.counter_addErrors_fails : (s.addErrors i e).counter (Ctr.LANE i 7) = s.counter (Ctr.LANE i 7) := by
  rw [State.counter_addErrors, State.counter_count_other _ _ (laneCounter_ne i (by decide)), State.counter_count_other _ _ (laneCounter_ne i (by decide)),
    State.counter_count_other _ _ (laneCounter_ne i (by decide)), State.counter_count_other _ _ (laneCounter_ne i (by decide))]

theorem State.sameBelow_addErrors : s.SameBelow (s.addErrors i e) := by
  rw [State.addErrors_eq]
  exact ((State.SameBelow.refl s).regs (s.errorsTaken_regs i e)).raiseIf _ (lanePage_above i)

theorem State.get_addErrors {g : Field} (h : g.clearOf (Evt.LANE_ERR_HALF i).field = true) : (s.addErrors i e).get g = s.get g := by
  rw [State.addErrors_eq, State.get_raiseIf_clear _ h, State.get_congr (s.errorsTaken_regs i e)]

end

theorem Frame.andErrors {ps : List Part} {fs : List Field} {s t : State} (h : Frame ps fs s t) (i : Nat) (e : LaneErrors) (h1 : Part.fab ∈ ps := by simp) (h2 : Part.ctrs ∈ ps := by simp)
    (h3 : Part.out ∈ ps := by simp) (hf : (Evt.LANE_ERR_HALF i).field ∈ fs := by simp) : Frame ps fs s (t.addErrors i e) := by
  have hc := ((((h.andCount (Ctr.LANE i 0) (t.decoded i e).violations h2).andCount (Ctr.LANE i 1) (t.decoded i e).disparities h2).andCount (Ctr.LANE i 2) (t.syncErrors i e) h2).andCount
    (Ctr.LANE i 3) (if t.fecInUse i then e.fec else 0) h2).andModLanes (fun l => l.withErrors i (mget 0 t.fab.lanes.errs i + t.errorEvents i e) (t.decoded i e).positive) h1
  rw [State.addErrors_eq]
  exact (Frame.ite hc (hc.andEmit _ h3)).andRaiseIf _ hf

theorem State.errorLimit_addErrors (s : State) (i : LaneIx) (e : LaneErrors) : (s.addErrors i.val e).errorLimit i.val = s.errorLimit i.val := by
  have hget : ∀ g : Field, g.clearOf (Evt.LANE_ERR_HALF i.val).field = true → (s.addErrors i.val e).get g = s.get g := fun g => s.get_addErrors i.val e
  have hrate : (s.addErrors i.val e).laneRate i.val = s.laneRate i.val := by
    rw [State.laneRate, State.laneRate, (s.sameBelow_addErrors i.val e).laneLive i, hget _ (Field.clearOf_of_base rfl rfl rfl)]
  have hfec : (s.addErrors i.val e).fecInUse i.val = s.fecInUse i.val := by rw [State.fecInUse, State.fecInUse, hrate]
  rw [State.errorLimit, State.errorLimit, hfec, hget (Fld.LANE_FAIL_CFG_WIN i.val) (Field.clearOf_of_base rfl rfl rfl),
    hget (Fld.LANE_FAIL_CFG_LIMIT_FEC i.val) (Field.clearOf_of_base rfl rfl rfl), hget (Fld.LANE_FAIL_CFG_LIMIT_NRZ i.val) (Field.clearOf_of_base rfl rfl rfl)]

theorem State.live_addErrors (s : State) (i : Nat) (e : LaneErrors) (pg : Nat) : (s.addErrors i e).live pg = s.live pg := by
  refine State.live_congr ?_ ?_ pg <;> rw [State.addErrors_eq]
  · rw [State.raiseIf_clk, State.errorsTaken]
    split <;> rfl
  · rw [State.raiseIf_hs, State.errorsTaken]
    split <;> rfl

/-- A lane's signal is of its registers alone. -/
theorem State.laneSignal_regs (s : State) (i : Nat) (on : Bool) : ∃ r, s.laneSignal i on = { s with regs := r } := by
  rw [State.laneSignal_eq]
  rcases ((s.put (Fld.LANE_STATUS_SIG_DET i) (bit on)).put (Fld.LANE_STATUS_CDR_LOCK i) (bit on)).suspendEye_cases i with h | ⟨v, -, h⟩
  · rw [h]
    exact ⟨_, rfl⟩
  · rw [h]
    exact ⟨_, rfl⟩

theorem State.counter_laneSignal (s : State) (i : Nat) (on : Bool) (c : Nat) : (s.laneSignal i on).counter c = s.counter c := by
  obtain ⟨r, h⟩ := s.laneSignal_regs i on
  rw [h]
  rfl

theorem State.live_laneSignal (s : State) (i : Nat) (on : Bool) (pg : Nat) : (s.laneSignal i on).live pg = s.live pg := by
  obtain ⟨r, h⟩ := s.laneSignal_regs i on
  rw [h]
  rfl

theorem mget_assocDel_same (m : NMap Nat) (k : Nat) : mget 0 (assocDel m k) k = 0 := by rw [mget, sparseGet, assoc_assocDel_same]

/-! ### Commands by which a lane fails -/

section
variable {s u : State} {c : Instr} {f : State → State} {P : State → Prop} {i : LaneIx} {p cause : Nat} {e : LaneErrors}

theorem answers_failing (he : exec c s = done (s.begin.whenFabric f)) (hrun : s.fabricRuns = true) (hfx : f s.begin = u.failLanes [i] cause) (hu : u.Failing i p)
    (hl : u.live (lanePage i.val) = s.live (lanePage i.val)) (hc : cause < 16) (hp : ∀ t, u.ShowsFailure t i p cause → P t) : Answers c s P :=
  answers_of_eq ((he.trans (done_whenFabric f hrun)).trans (congrArg (fun x => Host.Outcome.next (State.mirror x s.begin).settle) hfx))
    (hp _ (State.showsFailure _ hu (hl.trans (State.live_lanePage i hrun)) hc))

/-- No lane fails: the command does what it did before it looked for failures. -/
theorem answers_unfailing (he : exec c s = done (s.begin.whenFabric f)) (hrun : s.fabricRuns = true) (hfx : f s.begin = s.begin) (hp : Frame [] [] s s.begin.settle → P s.begin.settle) :
    Answers c s P := answers_fabric he hrun hfx (Frame.begin s) rfl (by simp) hp

theorem singleton_filter {α : Type} {q : α → Bool} {x : α} (h : q x = true) : [x].filter q = [x] := List.filter_cons_of_pos h
theorem singleton_filter_none {α : Type} {q : α → Bool} {x : α} (h : q x = false) : [x].filter q = [] := List.filter_cons_of_neg (by rw [h]; exact Bool.false_ne_true)

/-- The body of LANE_SIGNAL_LOSS on the lanes that carry symbols. -/
def State.signalLost (s : State) (lanes : List LaneIx) : State := ((s.canFail lanes).foldl (fun s i => (s.count (Ctr.LANE i 4)).laneSignal i false) s).failLanes lanes 1

/-- The body of LANE_CDR_UNLOCK. -/
def State.lockLost (s : State) (lanes : List LaneIx) : State := ((s.canFail lanes).foldl (fun s i => (s.count (Ctr.LANE i 5)).put (Fld.LANE_STATUS_CDR_LOCK i) 0) s).failLanes lanes 2

theorem State.signalLost_none {l : List LaneIx} (h : s.canFail l = []) : s.signalLost l = s := by
  rw [State.signalLost, h, List.foldl_nil, State.failLanes_eq_self _ h]

theorem State.lockLost_none {l : List LaneIx} (h : s.canFail l = []) : s.lockLost l = s := by
  rw [State.lockLost, h, List.foldl_nil, State.failLanes_eq_self _ h]

theorem State.signalLost_failing (h : s.Failing i p) : s.signalLost [i] = ((s.count (Ctr.LANE i.val 4)).laneSignal i.val false).failLanes [i] 1 := by
  rw [State.signalLost, h.canFail]
  rfl

theorem State.lockLost_failing (h : s.Failing i p) : s.lockLost [i] = ((s.count (Ctr.LANE i.val 5)).put (Fld.LANE_STATUS_CDR_LOCK i.val) 0).failLanes [i] 2 := by
  rw [State.lockLost, h.canFail]
  rfl

theorem answers_signalLoss (hrun : s.fabricRuns = true) (h : s.Failing i p) (hcar : s.carries i.val = true) : Answers (.laneSignalLoss [i]) s fun t =>
    t.get (Fld.LANE_STATUS_FAILED i.val) = 1 ∧ t.get (Fld.LANE_STATUS_FAIL_CAUSE i.val) = 1 ∧ t.get (Evt.LANE_LANE_FAIL i.val).field = 1 ∧ t.portHeld p = true ∧
    t.get (Fld.PORT_STATUS_HOLD_REASON p) = 6 ∧ t.linkUp p = false ∧ t.counter (Ctr.LANE i.val 7) = s.counter (Ctr.LANE i.val 7) + 1 ∧
    t.counter (Ctr.LANE i.val 4) = s.counter (Ctr.LANE i.val 4) + 1 := by
  have he : exec (.laneSignalLoss [i]) s = done (s.begin.whenFabric fun s => s.signalLost ([i].filter fun i => s.carries i.val)) := rfl
  have hbelow : s.begin.SameBelow ((s.begin.count (Ctr.LANE i.val 4)).laneSignal i.val false) := ((State.SameBelow.refl s.begin).regs (u := s.begin.count (Ctr.LANE i.val 4)) rfl).laneSignal _ _
  have hkept : ((s.begin.count (Ctr.LANE i.val 4)).laneSignal i.val false).get (Fld.LANE_STATUS_FAILED i.val) = s.begin.get (Fld.LANE_STATUS_FAILED i.val) :=
    State.get_laneSignal _ _ _ (Field.clearOf_of_base rfl rfl rfl) (Field.clearOf_of_base rfl rfl rfl) (Field.clearOf_of_base rfl rfl rfl)
  have hcount : ∀ d, ((s.begin.count (Ctr.LANE i.val 4)).laneSignal i.val false).counter d = (s.begin.count (Ctr.LANE i.val 4)).counter d := State.counter_laneSignal _ _ _
  have hfx : s.begin.signalLost ([i].filter fun i => s.begin.carries i.val) = ((s.begin.count (Ctr.LANE i.val 4)).laneSignal i.val false).failLanes [i] 1 := by
    rw [singleton_filter (q := fun j : LaneIx => s.begin.carries j.val) (x := i) hcar, State.signalLost_failing h.begin]
  refine answers_failing he hrun hfx (h.begin.of_sameBelow hbelow hkept) (State.live_laneSignal _ _ _ _) (by decide) fun t ht =>
    ⟨ht.failed, ht.cause, ht.told, ht.held, ht.reason, ht.down, ?_, ?_⟩
  · rw [ht.counted, hcount, State.counter_count_other _ _ (laneCounter_ne _ (by decide))]
    rfl
  · rw [ht.others 4 (by decide), hcount, State.counter_count_same]
    rfl

theorem answers_cdrUnlock (hrun : s.fabricRuns = true) (h : s.Failing i p) : Answers (.laneCdrUnlock [i]) s fun t =>
    t.get (Fld.LANE_STATUS_FAILED i.val) = 1 ∧ t.get (Fld.LANE_STATUS_FAIL_CAUSE i.val) = 2 ∧ t.get (Evt.LANE_LANE_FAIL i.val).field = 1 ∧ t.portHeld p = true ∧
    t.get (Fld.PORT_STATUS_HOLD_REASON p) = 6 ∧ t.linkUp p = false ∧ t.counter (Ctr.LANE i.val 7) = s.counter (Ctr.LANE i.val 7) + 1 ∧
    t.counter (Ctr.LANE i.val 5) = s.counter (Ctr.LANE i.val 5) + 1 := by
  have he : exec (.laneCdrUnlock [i]) s = done (s.begin.whenFabric fun s => s.lockLost [i]) := rfl
  have hbelow : s.begin.SameBelow ((s.begin.count (Ctr.LANE i.val 5)).put (Fld.LANE_STATUS_CDR_LOCK i.val) 0) :=
    ((State.SameBelow.refl s.begin).regs (u := s.begin.count (Ctr.LANE i.val 5)) rfl).put (f := Fld.LANE_STATUS_CDR_LOCK i.val) 0 (laneStatus_above i.val)
  have hkept : ((s.begin.count (Ctr.LANE i.val 5)).put (Fld.LANE_STATUS_CDR_LOCK i.val) 0).get (Fld.LANE_STATUS_FAILED i.val) = s.begin.get (Fld.LANE_STATUS_FAILED i.val) :=
    State.get_put_clear _ _ (Field.clearOf_of_base rfl rfl rfl)
  refine answers_failing he hrun (State.lockLost_failing h.begin) (h.begin.of_sameBelow hbelow hkept) (State.live_congr (by simp) (by simp) _) (by decide) fun t ht =>
    ⟨ht.failed, ht.cause, ht.told, ht.held, ht.reason, ht.down, ?_, ?_⟩
  · rw [ht.counted, State.counter_put, State.counter_count_other _ _ (laneCounter_ne _ (by decide))]
    rfl
  · rw [ht.others 5 (by decide), State.counter_put, State.counter_count_same]
    rfl

theorem answers_eqDiverge (hrun : s.fabricRuns = true) (h : s.Failing i p) (hlow : s.snrLow i.val = true) : Answers (.laneEqDiverge [i]) s fun t =>
    t.get (Fld.LANE_STATUS_FAILED i.val) = 1 ∧ t.get (Fld.LANE_STATUS_FAIL_CAUSE i.val) = 3 ∧ t.get (Evt.LANE_LANE_FAIL i.val).field = 1 ∧ t.portHeld p = true ∧
    t.get (Fld.PORT_STATUS_HOLD_REASON p) = 6 ∧ t.linkUp p = false ∧ t.counter (Ctr.LANE i.val 7) = s.counter (Ctr.LANE i.val 7) + 1 := by
  have he : exec (.laneEqDiverge [i]) s = done (s.begin.whenFabric fun s => s.failLanes ([i].filter fun i => s.snrLow i.val) 3) := rfl
  have hfx : s.begin.failLanes ([i].filter fun i => s.begin.snrLow i.val) 3 = s.begin.failLanes [i] 3 := by rw [singleton_filter (q := fun j : LaneIx => s.begin.snrLow j.val) (x := i) hlow]
  exact answers_failing he hrun hfx h.begin rfl (by decide) fun t ht => ⟨ht.failed, ht.cause, ht.told, ht.held, ht.reason, ht.down, ht.counted⟩

/-- A lane that carries nothing, whose SNR suffices or that is not live does not fail. -/
theorem answers_signalLoss_unmet (hrun : s.fabricRuns = true) (h : s.carries i.val = false ∨ s.laneLive i.val = false) : Answers (.laneSignalLoss [i]) s fun t => Frame [] [] s t := by
  have he : exec (.laneSignalLoss [i]) s = done (s.begin.whenFabric fun s => s.signalLost ([i].filter fun i => s.carries i.val)) := rfl
  refine answers_unfailing he hrun (State.signalLost_none ?_) id
  rcases h with h | h
  · rw [singleton_filter_none (q := fun j : LaneIx => s.begin.carries j.val) (x := i) h]
    rfl
  · exact State.canFail_of_not_live fun j hj => by rw [List.mem_singleton.mp (List.mem_filter.mp hj).1]; exact h

theorem answers_cdrUnlock_unmet (hrun : s.fabricRuns = true) (h : s.laneLive i.val = false) : Answers (.laneCdrUnlock [i]) s fun t => Frame [] [] s t :=
  answers_unfailing (f := fun s => s.lockLost [i]) rfl hrun (State.lockLost_none (State.canFail_of_not_live fun j hj => by rw [List.mem_singleton.mp hj]; exact h)) id

theorem answers_eqDiverge_unmet (hrun : s.fabricRuns = true) (h : s.snrLow i.val = false ∨ s.laneLive i.val = false) : Answers (.laneEqDiverge [i]) s fun t => Frame [] [] s t := by
  have he : exec (.laneEqDiverge [i]) s = done (s.begin.whenFabric fun s => s.failLanes ([i].filter fun i => s.snrLow i.val) 3) := rfl
  refine answers_unfailing he hrun (State.failLanes_eq_self _ ?_) id
  rcases h with h | h
  · rw [singleton_filter_none (q := fun j : LaneIx => s.begin.snrLow j.val) (x := i) h]
    rfl
  · exact State.canFail_of_not_live fun j hj => by rw [List.mem_singleton.mp (List.mem_filter.mp hj).1]; exact h

/-! ### Errors within a window and beyond it (R97) -/

/-- What errors within the limit show. -/
structure State.CountsErrors (s t : State) (i : LaneIx) (e : LaneErrors) : Prop where
  violations : t.counter (Ctr.LANE i.val 0) = s.counter (Ctr.LANE i.val 0) + BitVec.ofNat 64 (s.decoded i.val e).violations
  disparities : t.counter (Ctr.LANE i.val 1) = s.counter (Ctr.LANE i.val 1) + BitVec.ofNat 64 (s.decoded i.val e).disparities
  sync : t.counter (Ctr.LANE i.val 2) = s.counter (Ctr.LANE i.val 2) + BitVec.ofNat 64 (s.syncErrors i.val e)
  fec : t.counter (Ctr.LANE i.val 3) = s.counter (Ctr.LANE i.val 3) + if s.fecInUse i.val then BitVec.ofNat 64 e.fec else 0
  disparity : i.val ∈ t.fab.lanes.disparity ↔ (s.decoded i.val e).positive = true
  out : t.out = if (s.decoded i.val e).syms = [] then [] else [.symbols i.val (s.decoded i.val e).syms]

theorem State.countsErrors {t : State} (hc : t.ctrs = (s.begin.addErrors i.val e).ctrs) (hd : t.fab.lanes.disparity = (s.begin.addErrors i.val e).fab.lanes.disparity)
    (ho : t.out = (s.begin.addErrors i.val e).out) : s.CountsErrors t.settle i e :=
  { violations := by rw [State.counter_settle, State.counter_congr hc, State.counter_addErrors_violations]; rfl
    disparities := by rw [State.counter_settle, State.counter_congr hc, State.counter_addErrors_disparities]; rfl
    sync := by rw [State.counter_settle, State.counter_congr hc, State.counter_addErrors_sync]; rfl
    fec := by rw [State.counter_settle, State.counter_congr hc, State.counter_addErrors_fec]; rfl
    disparity := by rw [State.settle_fab, hd, State.disparity_addErrors]; rfl
    out := by rw [State.settle_out, ho, State.out_addErrors]; rfl }

/-- The body of LANE_ERROR_LIMIT for the errors of one live lane. -/
theorem errorLimit_effect (hlive : s.laneLive i.val = true) : ∃ f : State → State, exec (.laneErrorLimit [(i, e)] []) s = done (s.begin.whenFabric f) ∧
    f s.begin = (s.begin.addErrors i.val e).failLanes ([i].filter fun j => decide ((s.begin.addErrors i.val e).errorLimit j.val < mget 0 (s.begin.addErrors i.val e).fab.lanes.errs j.val)) 4 := by
  refine ⟨_, rfl, ?_⟩
  dsimp only [List.foldl_nil]
  rw [singleton_filter (x := (i, e)) (show s.begin.laneLive i.val = true from hlive)]
  rfl

/-- The body of LANE_WINDOW_END for a live lane. -/
theorem windowEnd_effect (hlive : s.laneLive i.val = true) : ∃ f : State → State, exec (.laneWindowEnd i e) s = done (s.begin.whenFabric f) ∧
    f s.begin = if decide ((s.begin.addErrors i.val e).errorLimit i.val < mget 0 (s.begin.addErrors i.val e).fab.lanes.errs i.val) then
        ((s.begin.addErrors i.val e).modLanes fun l => { l with errs := assocDel l.errs i.val }).failLanes [i] 4
      else (s.begin.addErrors i.val e).modLanes fun l => { l with errs := assocDel l.errs i.val } :=
  ⟨_, rfl, if_pos hlive⟩

theorem exceeds_iff : ((s.begin.addErrors i.val e).errorLimit i.val < mget 0 (s.begin.addErrors i.val e).fab.lanes.errs i.val) ↔
    s.errorLimit i.val < mget 0 s.fab.lanes.errs i.val + s.errorEvents i.val e := by
  rw [State.errorLimit_addErrors, State.errs_addErrors]
  exact Iff.rfl

theorem answers_errorLimit (hrun : s.fabricRuns = true) (h : s.Failing i p) (hx : s.errorLimit i.val < mget 0 s.fab.lanes.errs i.val + s.errorEvents i.val e) :
    Answers (.laneErrorLimit [(i, e)] []) s fun t => t.get (Fld.LANE_STATUS_FAILED i.val) = 1 ∧ t.get (Fld.LANE_STATUS_FAIL_CAUSE i.val) = 4 ∧
    t.get (Evt.LANE_LANE_FAIL i.val).field = 1 ∧ t.portHeld p = true ∧ t.get (Fld.PORT_STATUS_HOLD_REASON p) = 6 ∧ t.linkUp p = false ∧
    t.counter (Ctr.LANE i.val 7) = s.counter (Ctr.LANE i.val 7) + 1 := by
  obtain ⟨f, he, hf⟩ := errorLimit_effect (e := e) h.live
  rw [singleton_filter (q := fun j : LaneIx => decide ((s.begin.addErrors i.val e).errorLimit j.val < mget 0 (s.begin.addErrors i.val e).fab.lanes.errs j.val)) (x := i)
    (decide_eq_true (exceeds_iff.mpr hx))] at hf
  refine answers_failing he hrun hf (h.begin.of_sameBelow (State.sameBelow_addErrors _ _ _) (State.get_addErrors _ _ _ (Field.clearOf_of_base rfl rfl rfl))) (State.live_addErrors _ _ _ _)
    (by decide) fun t ht => ⟨ht.failed, ht.cause, ht.told, ht.held, ht.reason, ht.down, ?_⟩
  rw [ht.counted, State.counter_addErrors_fails]
  rfl

theorem answers_windowEnd_exceeded (hrun : s.fabricRuns = true) (h : s.Failing i p) (hx : s.errorLimit i.val < mget 0 s.fab.lanes.errs i.val + s.errorEvents i.val e) :
    Answers (.laneWindowEnd i e) s fun t => t.get (Fld.LANE_STATUS_FAILED i.val) = 1 ∧ t.get (Fld.LANE_STATUS_FAIL_CAUSE i.val) = 4 ∧
    t.get (Evt.LANE_LANE_FAIL i.val).field = 1 ∧ t.portHeld p = true ∧ t.get (Fld.PORT_STATUS_HOLD_REASON p) = 6 ∧ t.linkUp p = false ∧
    t.counter (Ctr.LANE i.val 7) = s.counter (Ctr.LANE i.val 7) + 1 := by
  obtain ⟨f, he, hf⟩ := windowEnd_effect (e := e) h.live
  rw [if_pos (decide_eq_true (exceeds_iff.mpr hx))] at hf
  refine answers_failing he hrun hf (h.begin.of_sameBelow ((State.sameBelow_addErrors _ _ _).modLanes _) (State.get_addErrors _ _ _ (Field.clearOf_of_base rfl rfl rfl)))
    (State.live_addErrors s.begin i.val e (lanePage i.val)) (by decide) fun t ht => ⟨ht.failed, ht.cause, ht.told, ht.held, ht.reason, ht.down, ?_⟩
  rw [ht.counted]
  exact congrArg (· + 1) (State.counter_addErrors_fails s.begin i.val e)

theorem answers_errorLimit_within (hrun : s.fabricRuns = true) (hlive : s.laneLive i.val = true) (hx : mget 0 s.fab.lanes.errs i.val + s.errorEvents i.val e ≤ s.errorLimit i.val) :
    Answers (.laneErrorLimit [(i, e)] []) s fun t => mget 0 t.fab.lanes.errs i.val = mget 0 s.fab.lanes.errs i.val + s.errorEvents i.val e ∧ s.CountsErrors t i e ∧
    Frame [.fab, .ctrs, .out] [(Evt.LANE_ERR_HALF i.val).field] s t := by
  obtain ⟨f, he, hf⟩ := errorLimit_effect (e := e) hlive
  rw [singleton_filter_none (q := fun j : LaneIx => decide ((s.begin.addErrors i.val e).errorLimit j.val < mget 0 (s.begin.addErrors i.val e).fab.lanes.errs j.val)) (x := i)
    (decide_eq_false (mt exceeds_iff.mp (by omega))), State.failLanes_eq_self _ rfl] at hf
  refine answers_fabric he hrun hf ((Frame.begin s).andErrors i.val e) (by rw [State.addErrors_lanes]; rfl) (List.forall_mem_singleton.mpr (regionOf_lane i rfl (by decide))) fun hfr =>
    ⟨?_, State.countsErrors rfl rfl rfl, hfr⟩
  rw [State.settle_fab, State.errs_addErrors]
  rfl

theorem answers_windowEnd_within (hrun : s.fabricRuns = true) (hlive : s.laneLive i.val = true) (hx : mget 0 s.fab.lanes.errs i.val + s.errorEvents i.val e ≤ s.errorLimit i.val) :
    Answers (.laneWindowEnd i e) s fun t => mget 0 t.fab.lanes.errs i.val = 0 ∧ s.CountsErrors t i e ∧ Frame [.fab, .ctrs, .out] [(Evt.LANE_ERR_HALF i.val).field] s t := by
  obtain ⟨f, he, hf⟩ := windowEnd_effect (e := e) hlive
  rw [decide_eq_false (mt exceeds_iff.mp (by omega)), if_neg Bool.false_ne_true] at hf
  refine answers_fabric he hrun hf (((Frame.begin s).andErrors i.val e).andModLanes _) (by rw [State.modLanes, State.addErrors_lanes]; rfl)
    (List.forall_mem_singleton.mpr (regionOf_lane i rfl (by decide))) fun hfr => ⟨?_, State.countsErrors rfl rfl rfl, hfr⟩
  rw [State.settle_fab]
  exact mget_assocDel_same _ _

/-- Uncorrectable flits are counted for a configured port. -/
theorem answers_flits (hrun : s.fabricRuns = true) (q : Port) (n : Nat) (hen : s.portEn q.val = true) : Answers (.laneErrorLimit [] [(q, n)]) s fun t =>
    t.counter (Ctr.PORT q.val 4) = s.counter (Ctr.PORT q.val 4) + BitVec.ofNat 64 n ∧ Frame [.ctrs] [] s t := by
  have hfx : ((if s.begin.portEn q.val then s.begin.count (Ctr.PORT q.val 4) n else s.begin).failLanes [] 4) = s.begin.count (Ctr.PORT q.val 4) n := by
    rw [if_pos (show s.begin.portEn q.val = true from hen), State.failLanes_eq_self _ rfl]
  refine answers_fabric rfl hrun hfx ((Frame.begin s).andCount _ _) rfl (by simp) fun hfr => ⟨?_, hfr⟩
  rw [State.counter_settle, State.counter_count_same]
  rfl

end

end Sys2Proof.Machine
end

section
/-! PROOFS. Adaptation and calibration of a lane, and its signal (O39, R90 to R92, R96, R104). -/
namespace Sys2Proof.Machine
open Sys2Proof
set_option Elab.async false

/-! ### Adaptation (R91) -/

section
variable {s : State} {i : LaneIx} {x : Byte} {k : Nat} {up : Bool}

theorem State.get_eqRail (s : State) (i : Nat) (rail : Bool) {g : Field} (h : g.clearOf (Evt.LANE_EQ_RAIL i).field = true) : (s.eqRail i rail).get g = s.get g := by
  unfold State.eqRail
  split
  · exact (State.get_congr rfl _).trans (State.get_raise_clear _ h)
  · rfl

theorem Frame.andEqRail {ps : List Part} {fs : List Field} {s t : State} (h : Frame ps fs s t) (i : Nat) (rail : Bool) (hp : Part.ctrs ∈ ps := by simp)
    (hf : (Evt.LANE_EQ_RAIL i).field ∈ fs := by simp) : Frame ps fs s (t.eqRail i rail) := by
  unfold State.eqRail
  exact Frame.ite ((h.andRaise hf).andCount _ _ hp) h

theorem State.eqRail_fab (s : State) (i : Nat) (rail : Bool) : (s.eqRail i rail).fab = s.fab := by
  unfold State.eqRail
  split
  · exact (State.count_fab _ _ _).trans (State.raise_fab _ _)
  · rfl

/-- The SNR shown and a tap stepped. -/
def State.tapStepped (s : State) (i : Nat) (x : Byte) (f : Field) (up : Bool) : State :=
  ((s.put (Fld.LANE_EQ_STATUS_SNR i) x.toNat).put f (stepCoef (s.get f) up).1).eqRail i (stepCoef (s.get f) up).2

theorem stepCoef_lt (c : Nat) (up : Bool) : (stepCoef c up).1 < 256 := Nat.mod_lt _ (by decide)

/-- A register of eight bits of a lane past the ones that tell of it. -/
structure Tap (i : LaneIx) (f : Field) : Prop where
  addr : ∃ y, f.addr = lanePage i.val * 0x10000 + y ∧ 0x1040 ≤ y ∧ y < 0x10000
  lo : f.lo = 0
  width : f.width = 8

theorem Tap.fits {f : Field} (h : Tap i f) {v : Nat} (hv : v < 256) : f.Fits v := by
  refine ⟨?_, ?_⟩
  · rw [h.lo, h.width]
    decide
  · rw [h.width]
    exact hv

theorem Tap.bits {f : Field} (h : Tap i f) : f.lo + f.width ≤ 32 := (h.fits (v := 0) (by decide)).1

theorem Tap.snr {f : Field} (h : Tap i f) : f.clearOf (Fld.LANE_EQ_STATUS_SNR i.val) = true ∧ (Fld.LANE_EQ_STATUS_SNR i.val).clearOf f = true := by
  obtain ⟨y, hy, hlo, -⟩ := h.addr
  have hne : f.addr ≠ Addr.LANE_EQ_STATUS i.val := by
    rw [hy, Addr.LANE_EQ_STATUS]
    omega
  exact ⟨Field.clearOf_of_addr h.bits hne, Field.clearOf_of_addr (show 8 + 8 ≤ 32 by decide) hne.symm⟩

theorem Tap.rail {f : Field} (h : Tap i f) : f.clearOf (Evt.LANE_EQ_RAIL i.val).field = true := by
  obtain ⟨y, hy, hlo, -⟩ := h.addr
  have he : (Evt.LANE_EQ_RAIL i.val).field.addr = lanePage i.val * 0x10000 + 0x40 := rfl
  exact Field.clearOf_of_addr h.bits (by rw [hy, he]; omega)

theorem tap_dfe (i : LaneIx) (k : Fin 4) : Tap i (Fld.LANE_DFE_COEF i.val k.val) := by
  refine ⟨⟨0x1080 + 4 * k.val, Nat.add_assoc _ _ _, ?_, ?_⟩, rfl, rfl⟩ <;> omega

theorem tap_ffe (i : LaneIx) (k : Fin 16) : Tap i (Fld.LANE_FFE_COEF i.val k.val) := by
  refine ⟨⟨0x1040 + 4 * k.val, Nat.add_assoc _ _ _, ?_, ?_⟩, rfl, rfl⟩ <;> omega

theorem State.tapStepped_shows {f : Field} (h : Tap i f) (hl : s.live (lanePage i.val) = true) : (s.tapStepped i.val x f up).settle.get (Fld.LANE_EQ_STATUS_SNR i.val) = x.toNat ∧
    (s.tapStepped i.val x f up).settle.get f = (stepCoef (s.get f) up).1 ∧
    ((stepCoef (s.get f) up).2 = true → (s.tapStepped i.val x f up).settle.get (Evt.LANE_EQ_RAIL i.val).field = 1) := by
  obtain ⟨y, hy, -⟩ := h.addr
  refine ⟨?_, ?_, fun hr => ?_⟩
  · rw [State.get_settle_lane _ i rfl, State.tapStepped, State.get_eqRail _ _ _ (Field.clearOf_of_base rfl rfl rfl), State.get_put_clear _ _ h.snr.2,
      State.get_put_fits _ ⟨show 8 + 8 ≤ 32 by decide, x.isLt⟩]
  · rw [State.get_settle_lane _ i hy, State.tapStepped, State.get_eqRail _ _ _ h.rail, State.get_put_fits _ (h.fits (stepCoef_lt _ _))]
  · rw [State.get_settle_lane _ i rfl, State.tapStepped, hr, State.eqRail, if_pos rfl]
    exact (State.get_congr rfl _).trans (State.get_raise_lane i rfl ((State.live_congr (by simp) (by simp) _).trans hl) (show 4 < 6 by decide))

/-- A command that steps one tap of a lane. -/
theorem answers_stepTap {a : AdaptStep} {f : Field} {g : State → State} {P : State → Prop} (he : exec (.adaptUpdate i a x) s = done (s.begin.whenFabric g)) (hrun : s.fabricRuns = true)
    (hf : Tap i f) (hfx : g s.begin = s.begin.tapStepped i.val x f up) (hp : ∀ t, t.get (Fld.LANE_EQ_STATUS_SNR i.val) = x.toNat → t.get f = (stepCoef (s.get f) up).1 →
      ((stepCoef (s.get f) up).2 = true → t.get (Evt.LANE_EQ_RAIL i.val).field = 1) →
      Frame [.ctrs] [Fld.LANE_EQ_STATUS_SNR i.val, f, (Evt.LANE_EQ_RAIL i.val).field] s t → P t) : Answers (.adaptUpdate i a x) s P := by
  obtain ⟨y, hy, -, hy'⟩ := hf.addr
  obtain ⟨h1, h2, h3⟩ := State.tapStepped_shows (s := s.begin) (x := x) (up := up) hf (State.live_lanePage i hrun)
  exact answers_fabric he hrun hfx ((((Frame.begin s).andPut x.toNat).andPut _).andEqRail _ _) (by rw [State.tapStepped, State.eqRail_fab]; simp)
    (List.forall_mem_cons.mpr ⟨regionOf_lane i rfl (by decide), List.forall_mem_cons.mpr ⟨regionOf_lane i hy hy', List.forall_mem_singleton.mpr (regionOf_lane i rfl (by decide))⟩⟩)
    (hp _ h1 h2 h3)

/-- What ADAPT_UPDATE does for a tap of a lane that receives symbols above 5.0 GT/s and is not frozen. -/
theorem State.adapts_tap {u : State} (hsig : u.flag (Fld.LANE_STATUS_SIG_DET i.val) = true) (hr : 2 < u.laneRate i.val) :
    (!u.flag (Fld.LANE_STATUS_SIG_DET i.val) || decide (u.laneRate i.val = 0)) = false := by
  rw [hsig, decide_eq_false (by omega)]
  rfl

theorem State.freeze_snrShown (u : State) (v : Nat) : (u.put (Fld.LANE_EQ_STATUS_SNR i.val) v).flag (Fld.LANE_CFG_ADAPT_FREEZE i.val) = u.flag (Fld.LANE_CFG_ADAPT_FREEZE i.val) := by
  rw [State.flag, State.flag, State.get_put_clear _ _ (Field.clearOf_of_base rfl rfl rfl)]

theorem State.stepTap_snrShown {f : Field} (hf : Tap i f) (u : State) : (u.put (Fld.LANE_EQ_STATUS_SNR i.val) x.toNat).stepTap i.val f up = u.tapStepped i.val x f up := by
  rw [State.stepTap, State.get_put_clear _ _ hf.snr.1]
  rfl

section
variable (hrun : s.fabricRuns = true) (hsig : s.flag (Fld.LANE_STATUS_SIG_DET i.val) = true) (hr : 2 < s.laneRate i.val)
include hrun hsig hr

theorem answers_adaptDfe (k : Fin 4) (hz : s.flag (Fld.LANE_CFG_ADAPT_FREEZE i.val) = false) : Answers (.adaptUpdate i (.dfe k up) x) s fun t =>
    t.get (Fld.LANE_EQ_STATUS_SNR i.val) = x.toNat ∧ t.get (Fld.LANE_DFE_COEF i.val k.val) = (stepCoef (s.get (Fld.LANE_DFE_COEF i.val k.val)) up).1 ∧
    Frame [.ctrs] [Fld.LANE_EQ_STATUS_SNR i.val, Fld.LANE_DFE_COEF i.val k.val, (Evt.LANE_EQ_RAIL i.val).field] s t := by
  have hfrozen : (s.begin.put (Fld.LANE_EQ_STATUS_SNR i.val) x.toNat).flag (Fld.LANE_CFG_ADAPT_FREEZE i.val) = false := (State.freeze_snrShown _ _).trans hz
  have hslow : ¬ s.begin.laneRate i.val ≤ 2 := Nat.not_le.mpr hr
  refine answers_stepTap rfl hrun (tap_dfe i k) ?_ fun t h1 h2 _ hfr => ⟨h1, h2, hfr⟩
  dsimp only
  rw [State.adapts_tap (u := s.begin) hsig hr, if_neg Bool.false_ne_true, hfrozen, if_neg Bool.false_ne_true, if_neg hslow, State.stepTap_snrShown (tap_dfe i k)]

theorem answers_adaptFfe (k : Fin 16) (hz : s.flag (Fld.LANE_CFG_ADAPT_FREEZE i.val) = false) (hk : k.val ≠ 3) : Answers (.adaptUpdate i (.ffe k up) x) s fun t =>
    t.get (Fld.LANE_FFE_COEF i.val k.val) = (stepCoef (s.get (Fld.LANE_FFE_COEF i.val k.val)) up).1 ∧
    ((stepCoef (s.get (Fld.LANE_FFE_COEF i.val k.val)) up).2 = true → t.get (Evt.LANE_EQ_RAIL i.val).field = 1) ∧
    Frame [.ctrs] [Fld.LANE_EQ_STATUS_SNR i.val, Fld.LANE_FFE_COEF i.val k.val, (Evt.LANE_EQ_RAIL i.val).field] s t := by
  have hfrozen : (s.begin.put (Fld.LANE_EQ_STATUS_SNR i.val) x.toNat).flag (Fld.LANE_CFG_ADAPT_FREEZE i.val) = false := (State.freeze_snrShown _ _).trans hz
  have hslow : ¬ s.begin.laneRate i.val ≤ 2 := Nat.not_le.mpr hr
  have hskip : (decide (k.val = 3) || decide (s.begin.laneRate i.val ≤ 2)) = false := by rw [decide_eq_false hk, decide_eq_false hslow]; rfl
  refine answers_stepTap rfl hrun (tap_ffe i k) ?_ fun t _ h2 h3 hfr => ⟨h2, h3, hfr⟩
  dsimp only
  rw [State.adapts_tap (u := s.begin) hsig hr, if_neg Bool.false_ne_true, hfrozen, if_neg Bool.false_ne_true, hskip, if_neg Bool.false_ne_true, State.stepTap_snrShown (tap_ffe i k)]

theorem answers_adaptFrozen (a : AdaptStep) (hz : s.flag (Fld.LANE_CFG_ADAPT_FREEZE i.val) = true) : Answers (.adaptUpdate i a x) s fun t =>
    t.get (Fld.LANE_EQ_STATUS_SNR i.val) = x.toNat ∧ Frame [] [Fld.LANE_EQ_STATUS_SNR i.val] s t := by
  have hfrozen : (s.begin.put (Fld.LANE_EQ_STATUS_SNR i.val) x.toNat).flag (Fld.LANE_CFG_ADAPT_FREEZE i.val) = true := (State.freeze_snrShown _ _).trans hz
  refine answers_fabric (x := s.begin.put (Fld.LANE_EQ_STATUS_SNR i.val) x.toNat) rfl hrun ?_ ((Frame.begin s).andPut _) rfl
    (List.forall_mem_singleton.mpr (regionOf_lane i rfl (by decide))) fun hfr => ⟨?_, hfr⟩
  · dsimp only
    rw [State.adapts_tap (u := s.begin) hsig hr, if_neg Bool.false_ne_true, hfrozen, if_pos rfl]
  · rw [State.get_settle_lane _ i rfl, State.get_put_fits _ ⟨show 8 + 8 ≤ 32 by decide, x.isLt⟩]

end

/-! ### Signal (R92, R96) -/

theorem State.cdrLock_laneSignal (s : State) (i : Nat) (on : Bool) : (s.laneSignal i on).get (Fld.LANE_STATUS_CDR_LOCK i) = bit on := by
  rw [State.laneSignal_eq, State.get_suspendEye _ _ (Field.clearOf_of_base rfl rfl rfl)]
  exact State.get_put_lit _ (show 4 + 1 ≤ 32 by decide) (bit_lt_two on)

theorem answers_signalReturn_calibrating (hrun : s.fabricRuns = true) (h : s.calibrating i.val = true) : Answers (.signalReturn i) s fun t => Frame [] [] s t :=
  answers_unfailing rfl hrun (if_pos h) id

theorem answers_signalReturn (hrun : s.fabricRuns = true) (h : s.calibrating i.val = false) : Answers (.signalReturn i) s fun t => t.get (Fld.LANE_STATUS_SIG_DET i.val) = 1 ∧
    t.get (Fld.LANE_STATUS_CDR_LOCK i.val) = 1 ∧ Frame [] [Fld.LANE_STATUS_SIG_DET i.val, Fld.LANE_STATUS_CDR_LOCK i.val, Fld.LANE_EYE_STATUS_STATE i.val] s t := by
  refine answers_fabric rfl hrun (if_neg (by rw [show s.begin.calibrating i.val = false from h]; exact Bool.false_ne_true)) ((Frame.begin s).andLaneSignal i.val true)
    (by rw [State.laneSignal_fab]; rfl) (List.forall_mem_cons.mpr ⟨regionOf_lane i rfl (by decide), List.forall_mem_cons.mpr ⟨regionOf_lane i rfl (by decide),
      List.forall_mem_singleton.mpr (regionOf_lane i rfl (by decide))⟩⟩) fun hfr => ⟨?_, ?_, hfr⟩
  · rw [State.get_settle_lane _ i rfl, State.sigDet_laneSignal]
    rfl
  · rw [State.get_settle_lane _ i rfl, State.cdrLock_laneSignal]
    rfl

/-! ### The end of a calibration (R96, R75, R104) -/

/-- CAL_DONE shown and told, the lane no longer in calibration. -/
def State.calShown (s : State) (i : Nat) (ok : Bool) : State :=
  ((s.modLanes fun l => { l with cal := l.cal.filter fun x => x != i }).put (Fld.LANE_STATUS_CAL_DONE i) (bit ok)).raise (Evt.LANE_CAL_DONE i)

/-- Training of the port of a lane, where it waits for its lanes. -/
def State.readyAt (s : State) (i : Nat) : State :=
  match s.portOfLane i with
  | some p => s.lanesReady p
  | none => s

theorem laneCalDone_effect (ok : Bool) (hmem : i.val ∈ s.fab.lanes.cal) (hop : s.testOp i.val = none) : ∃ f : State → State,
    exec (.laneCalDone i ok) s = done (s.begin.whenFabric f) ∧ f s.begin = (if ok then s.begin.calShown i.val ok else (s.begin.calShown i.val ok).calFail i.val).readyAt i.val := by
  refine ⟨_, rfl, ?_⟩
  have hop' : (s.begin.testOp i.val == some 1) = false := by rw [show s.begin.testOp i.val = none from hop]; rfl
  have hcal : (!s.begin.fab.lanes.cal.contains i.val && !false) = false := by rw [show s.begin.fab.lanes.cal.contains i.val = true from List.contains_iff_mem.mpr hmem]; rfl
  dsimp only
  rw [hop', hcal, if_neg Bool.false_ne_true, if_neg Bool.false_ne_true]
  rfl

theorem State.sameBelow_calShown (s : State) (i : Nat) (ok : Bool) : s.SameBelow (s.calShown i ok) :=
  (((State.SameBelow.refl s).modLanes _).put (f := Fld.LANE_STATUS_CAL_DONE i) _ (laneStatus_above i)).raise (lanePage_above i)

theorem State.cal_calShown (s : State) (i : Nat) (ok : Bool) : (s.calShown i ok).fab = (s.modLanes fun l => { l with cal := l.cal.filter fun x => x != i }).fab := by
  rw [State.calShown, State.raise_fab, State.put_fab]

theorem State.mem_cal_calShown (s : State) (i j : Nat) (ok : Bool) : j ∈ (s.calShown i ok).fab.lanes.cal ↔ j ∈ s.fab.lanes.cal ∧ j ≠ i := by
  rw [State.cal_calShown]
  simp [State.modLanes]

theorem State.testOp_calShown (s : State) (i j : Nat) (ok : Bool) : (s.calShown i ok).testOp j = s.testOp j := by
  rw [State.testOp, State.cal_calShown]
  rfl

theorem State.calDone_calShown (s : State) (i : Nat) (ok : Bool) : (s.calShown i ok).get (Fld.LANE_STATUS_CAL_DONE i) = bit ok := by
  rw [State.calShown, State.get_raise_clear _ (Field.clearOf_of_base rfl rfl rfl)]
  exact State.get_put_lit _ (show 5 + 1 ≤ 32 by decide) (bit_lt_two ok)

theorem State.told_calShown (s : State) (ok : Bool) (hl : s.live (lanePage i.val) = true) : (s.calShown i.val ok).get (Evt.LANE_CAL_DONE i.val).field = 1 :=
  State.get_raise_lane i rfl ((State.live_congr (s := s) (by simp [State.modLanes]) (by simp [State.modLanes]) _).trans hl) (show 0 < 6 by decide)

theorem Frame.andCalShown {ps : List Part} {fs : List Field} {s t : State} (h : Frame ps fs s t) (i : Nat) (ok : Bool) (hp : Part.fab ∈ ps := by simp)
    (h1 : Fld.LANE_STATUS_CAL_DONE i ∈ fs := by simp) (h2 : (Evt.LANE_CAL_DONE i).field ∈ fs := by simp) : Frame ps fs s (t.calShown i ok) :=
  ((h.andModLanes _ hp).andPut _ h1).andRaise h2

/-- The FAILED bits of lanes cleared. -/
theorem State.clearFailed_regs (s : State) (l : List Nat) : ∃ r, l.foldl State.clearFailed s = { s with regs := r } := by
  refine List.foldlRecOn (motive := fun t : State => ∃ r, t = { s with regs := r }) l State.clearFailed ⟨_, rfl⟩ fun t ht j _ => ?_
  obtain ⟨r, rfl⟩ := ht
  exact ⟨_, rfl⟩

theorem State.get_clearFaileds {g : Field} (l : List Nat) (h : ∀ j, g.clearOf (Fld.LANE_STATUS_FAILED j) = true ∧ g.clearOf (Fld.LANE_STATUS_FAIL_CAUSE j) = true) (s : State) :
    (l.foldl State.clearFailed s).get g = s.get g := by
  refine List.foldlRecOn (motive := fun t : State => t.get g = s.get g) l State.clearFailed rfl fun t ht j _ => ?_
  obtain ⟨h1, h2⟩ := h j
  rw [State.clearFailed, State.puts_cons, State.puts_cons, State.puts_nil, State.get_put_clear _ _ h2, State.get_put_clear _ _ h1, ht]

theorem Frame.andClearFaileds {ps : List Part} {fs : List Field} {s t : State} (h : Frame ps fs s t) {l : List Nat}
    (hl : ∀ j ∈ l, Fld.LANE_STATUS_FAILED j ∈ fs ∧ Fld.LANE_STATUS_FAIL_CAUSE j ∈ fs) : Frame ps fs s (l.foldl State.clearFailed t) := by
  refine List.foldlRecOn (motive := fun u : State => Frame ps fs s u) l State.clearFailed h fun u hu j hj => ?_
  obtain ⟨h1, h2⟩ := hl j hj
  exact (hu.andPut 0 h1).andPut 0 h2

/-- A port whose lanes are ready trains (R104). -/
def State.trained (s : State) (p : Nat) : State :=
  (((s.portLanes p).foldl State.clearFailed s).modPort p fun x => { x with first := false, reached := false }).put (Fld.PORT_STATUS_LINK p) 2

theorem State.lanesReady_trains {p : Nat} (hk : s.get (Fld.PORT_STATUS_LINK p) = 9) (hen : s.portEn p = true) (hheld : s.portHeld p = false) (hbusy : s.lanesBusy p = false) :
    s.lanesReady p = s.trained p := by
  have hready : (s.get (Fld.PORT_STATUS_LINK p) == 9 && !s.lanesBusy p) = true := by rw [hk, hbusy]; rfl
  have hopen : (!s.portEn p || s.portHeld p) = false := by rw [hen, hheld]; rfl
  rw [State.lanesReady, if_pos hready, State.enableTraining, hopen, if_neg Bool.false_ne_true, hbusy, if_neg Bool.false_ne_true]
  rfl

theorem State.lanesReady_busy {p : Nat} (h : s.lanesBusy p = true) : s.lanesReady p = s := by
  rw [State.lanesReady, h, Bool.not_true, Bool.and_false, if_neg Bool.false_ne_true]

theorem State.lanesReady_held {p : Nat} (h : s.portHeld p = true) : s.lanesReady p = s := by
  have hclosed : (!s.portEn p || s.portHeld p) = true := by rw [h, Bool.or_true]
  rw [State.lanesReady, State.enableTraining, hclosed, if_pos rfl, ite_self]

theorem State.mem_portLanes {p j : Nat} (h : j ∈ s.portLanes p) : 4 * p ≤ j ∧ j < 4 * p + 16 := by
  obtain ⟨k, hk, rfl⟩ := List.mem_map.mp h
  have hk' := List.mem_range.mp hk
  have hw : s.portWidth p ≤ 16 := by
    unfold State.portWidth bifurWidth
    split
    · exact Nat.le_refl _
    · split <;> decide
  omega

/-- What training writes beside the calibration of one lane (R104). -/
def trainingRegs (s : State) (i : LaneIx) (p : Nat) : List Field :=
  [Fld.LANE_STATUS_CAL_DONE i.val, (Evt.LANE_CAL_DONE i.val).field, Fld.PORT_STATUS_LINK p] ++
    (s.portLanes p).flatMap fun j => [Fld.LANE_STATUS_FAILED j, Fld.LANE_STATUS_FAIL_CAUSE j]

theorem regionOf_trainingRegs {p : Nat} (hp : p < 64) : ∀ g ∈ trainingRegs s i p, regionOf g.addr = none := by
  intro g hg
  rcases List.mem_append.mp hg with hg | hg
  · simp only [List.mem_cons, List.not_mem_nil, or_false] at hg
    rcases hg with rfl | rfl | rfl
    · exact regionOf_lane i rfl (by decide)
    · exact regionOf_lane i rfl (by decide)
    · exact regionOf_page (by simp only [Fld.PORT_STATUS_LINK, Addr.PORT_STATUS]; omega)
  · obtain ⟨j, hj, hg⟩ := List.mem_flatMap.mp hg
    have hlt := State.mem_portLanes hj
    have hpage : Addr.LANE_STATUS j / 0x10000 = 0x100 + j := by
      rw [Addr.LANE_STATUS, lanePage_eq]
      omega
    have hnone : regionOf (Addr.LANE_STATUS j) = none := regionOf_page (by omega)
    rcases List.mem_pair.mp hg with rfl | rfl
    · exact hnone
    · exact hnone

theorem answers_calDone_trains {p : Nat} (hrun : s.fabricRuns = true) (hmem : i.val ∈ s.fab.lanes.cal) (hop : s.testOp i.val = none) (hport : s.portOfLane i.val = some p)
    (hk : s.get (Fld.PORT_STATUS_LINK p) = 9) (hen : s.portEn p = true) (hheld : s.portHeld p = false)
    (hall : ∀ j ∈ s.portLanes p, (j ∈ s.fab.lanes.cal → j = i.val) ∧ s.testOp j = none) : Answers (.laneCalDone i true) s fun t => t.get (Fld.LANE_STATUS_CAL_DONE i.val) = 1 ∧
    t.get (Evt.LANE_CAL_DONE i.val).field = 1 ∧ (i.val ∉ t.fab.lanes.cal) ∧ t.get (Fld.PORT_STATUS_LINK p) = 2 ∧ Frame [.fab] (trainingRegs s i p) s t := by
  have hlt := State.portOfLane_lt hport
  have hb := s.begin.sameBelow_calShown i.val true
  have hlanes : (s.begin.calShown i.val true).portLanes p = s.portLanes p := hb.portLanes hlt
  have hbusy : (s.begin.calShown i.val true).lanesBusy p = false := by
    unfold State.lanesBusy
    rw [hlanes, List.any_eq_false]
    intro j hj
    obtain ⟨h1, h2⟩ := hall j hj
    have hcal : ((s.begin.calShown i.val true).fab.lanes.cal.contains j) = false := Bool.eq_false_of_not_eq_true fun hc => by
      obtain ⟨hm, hne⟩ := (State.mem_cal_calShown _ _ _ _).mp (List.contains_iff_mem.mp hc)
      exact hne (h1 hm)
    rw [State.testOp_calShown, show s.begin.testOp j = none from h2, hcal]
    decide
  have hlink : (s.begin.calShown i.val true).get (Fld.PORT_STATUS_LINK p) = 9 := (hb.get (by simp only [Fld.PORT_STATUS_LINK, Addr.PORT_STATUS]; omega)).trans hk
  obtain ⟨f, he, hf⟩ := laneCalDone_effect true hmem hop
  rw [if_pos rfl, State.readyAt, (hb.portOfLane i.val).trans hport] at hf
  replace hf := hf.trans (State.lanesReady_trains hlink ((hb.portEn hlt).trans hen) ((hb.portHeld hlt).trans hheld) hbusy)
  obtain ⟨r, hregs⟩ := (s.begin.calShown i.val true).clearFailed_regs (s.portLanes p)
  have hfab : ((s.begin.calShown i.val true).trained p).fab.lanes.cal = (s.begin.calShown i.val true).fab.lanes.cal := by
    rw [State.trained, hlanes, hregs, State.put_fab]
    rfl
  have hkept : ∀ g : Field, g.clearOf (Fld.PORT_STATUS_LINK p) = true → (∀ j, g.clearOf (Fld.LANE_STATUS_FAILED j) = true ∧ g.clearOf (Fld.LANE_STATUS_FAIL_CAUSE j) = true) →
      ((s.begin.calShown i.val true).trained p).get g = (s.begin.calShown i.val true).get g := fun g h1 h2 =>
    (State.get_put_clear _ _ h1).trans (State.get_clearFaileds _ h2 _)
  have hpl : Addr.PORT_STATUS p < 0x200000 := by
    rw [Addr.PORT_STATUS]
    omega
  have hia := laneStatus_above i.val
  have hea : 0x1000000 ≤ (Evt.LANE_CAL_DONE i.val).field.addr := lane_addr_above i (x := 0x40) rfl
  refine answers_fabric he hrun hf ((((Frame.begin s).andCalShown i.val true (h1 := by simp [trainingRegs]) (h2 := by simp [trainingRegs])).andClearFaileds fun j hj => ?_).andModLanes _ |>.andPut 2
    (by simp [trainingRegs])) ?_ (regionOf_trainingRegs hlt) fun hfr => ⟨?_, ?_, ?_, ?_, hfr⟩
  · rw [hlanes] at hj
    exact ⟨List.mem_append_right _ (List.mem_flatMap.mpr ⟨j, hj, List.mem_cons_self⟩), List.mem_append_right _ (List.mem_flatMap.mpr ⟨j, hj, by simp⟩)⟩
  · rw [State.trained, hlanes, hregs, State.put_fab]
    show (s.begin.calShown i.val true).fab.home.dir = s.fab.home.dir
    rw [State.cal_calShown]
    rfl
  · rw [State.get_settle_lane _ i rfl, hkept _ (Field.clearOf_of_addr (show 5 + 1 ≤ 32 by decide) (show Addr.LANE_STATUS i.val ≠ Addr.PORT_STATUS p by omega))
      fun j => ⟨Field.clearOf_below (show 5 + 1 ≤ 32 by decide) (show 5 + 1 ≤ 10 by decide), Field.clearOf_below (show 5 + 1 ≤ 32 by decide) (show 5 + 1 ≤ 16 by decide)⟩,
      State.calDone_calShown]
    rfl
  · rw [State.get_settle_lane _ i rfl, hkept _ (Field.clearOf_of_addr (show 0 + 1 ≤ 32 by decide) (by simp only [Fld.PORT_STATUS_LINK]; omega))
      fun j => ⟨Field.clearOf_below (show 0 + 1 ≤ 32 by decide) (show 0 + 1 ≤ 10 by decide), Field.clearOf_below (show 0 + 1 ≤ 32 by decide) (show 0 + 1 ≤ 16 by decide)⟩]
    exact State.told_calShown s.begin _ (State.live_lanePage i hrun)
  · rw [State.settle_fab, hfab, State.mem_cal_calShown]
    exact fun h => h.2 rfl
  · rw [State.get_settle _ (by simp only [Fld.PORT_STATUS_LINK, Addr.PORT_STATUS]; omega)]
    exact State.get_put_fits _ ⟨show 0 + 4 ≤ 32 by decide, show 2 < 2 ^ 4 by decide⟩

theorem answers_calDone_waits {p j : Nat} (hrun : s.fabricRuns = true) (hmem : i.val ∈ s.fab.lanes.cal) (hop : s.testOp i.val = none) (hport : s.portOfLane i.val = some p)
    (hj : j ∈ s.portLanes p) (hcal : j ∈ s.fab.lanes.cal) (hne : j ≠ i.val) : Answers (.laneCalDone i true) s fun t => t.get (Fld.LANE_STATUS_CAL_DONE i.val) = 1 ∧
    t.get (Evt.LANE_CAL_DONE i.val).field = 1 ∧ t.get (Fld.PORT_STATUS_LINK p) = s.get (Fld.PORT_STATUS_LINK p) ∧
    Frame [.fab] [Fld.LANE_STATUS_CAL_DONE i.val, (Evt.LANE_CAL_DONE i.val).field] s t := by
  have hlt := State.portOfLane_lt hport
  have hb := s.begin.sameBelow_calShown i.val true
  have hbusy : (s.begin.calShown i.val true).lanesBusy p = true := by
    have hc : (s.begin.calShown i.val true).fab.lanes.cal.contains j = true := List.contains_iff_mem.mpr ((State.mem_cal_calShown _ _ _ _).mpr ⟨hcal, hne⟩)
    exact List.any_eq_true.mpr ⟨j, by rw [hb.portLanes hlt]; exact hj, by rw [hc]; rfl⟩
  obtain ⟨f, he, hf⟩ := laneCalDone_effect true hmem hop
  rw [if_pos rfl, State.readyAt, (hb.portOfLane i.val).trans hport] at hf
  refine answers_fabric he hrun (hf.trans (State.lanesReady_busy hbusy)) ((Frame.begin s).andCalShown i.val true) (by rw [State.cal_calShown]; rfl)
    (List.forall_mem_cons.mpr ⟨regionOf_lane i rfl (by decide), List.forall_mem_singleton.mpr (regionOf_lane i rfl (by decide))⟩) fun hfr => ⟨?_, ?_, ?_, hfr⟩
  · rw [State.get_settle_lane _ i rfl, State.calDone_calShown]
    rfl
  · rw [State.get_settle_lane _ i rfl]
    exact State.told_calShown s.begin _ (State.live_lanePage i hrun)
  · rw [State.get_settle _ (by simp only [Fld.PORT_STATUS_LINK, Addr.PORT_STATUS]; omega)]
    exact hb.get (by simp only [Fld.PORT_STATUS_LINK, Addr.PORT_STATUS]; omega)

/-- The lane shown as failed in its calibration. -/
def State.calFailed (s : State) (i : Nat) : State := ((s.calShown i false).put (Fld.LANE_STATUS_FAILED i) 1).put (Fld.LANE_STATUS_FAIL_CAUSE i) 5

theorem answers_calDone_fails {p : Nat} (hrun : s.fabricRuns = true) (hmem : i.val ∈ s.fab.lanes.cal) (hop : s.testOp i.val = none) (hport : s.portOfLane i.val = some p)
    (hen : s.portEn p = true) (hheld : s.portHeld p = false) : Answers (.laneCalDone i false) s fun t => t.get (Fld.LANE_STATUS_CAL_DONE i.val) = 0 ∧
    t.get (Fld.LANE_STATUS_FAILED i.val) = 1 ∧ t.get (Fld.LANE_STATUS_FAIL_CAUSE i.val) = 5 ∧ t.portHeld p = true ∧ t.get (Fld.PORT_STATUS_HOLD_REASON p) = 7 := by
  have hlt := State.portOfLane_lt hport
  have hmain : i.val < 256 := by
    by_contra hge
    rw [State.portOfLane, if_pos (by omega)] at hport
    cases hport
  have hb : s.begin.SameBelow (s.begin.calFailed i.val) :=
    ((s.begin.sameBelow_calShown i.val false).put (f := Fld.LANE_STATUS_FAILED i.val) 1 (laneStatus_above _)).put (f := Fld.LANE_STATUS_FAIL_CAUSE i.val) 5 (laneStatus_above _)
  have hown : (s.begin.calFailed i.val).portOfLane i.val = some p := (hb.portOfLane _).trans hport
  have hfail : (s.begin.calShown i.val false).calFail i.val = (s.begin.calFailed i.val).hwHold p 7 (Party.lane i.val) := by
    unfold State.calFail
    rw [State.puts_cons, State.puts_cons, State.puts_nil]
    dsimp only
    rw [if_pos hmain, ← State.calFailed, hown]
    exact if_pos ((hb.portEn hlt).trans hen)
  have hh := State.hwHold_holds (Party.lane i.val) hlt (show 7 < 16 by decide) ((hb.portHeld hlt).trans hheld)
  obtain ⟨f, he, hf⟩ := laneCalDone_effect false hmem hop
  rw [if_neg Bool.false_ne_true, hfail, State.readyAt, (hh.portOfLane _).trans hown] at hf
  replace hf := hf.trans (State.lanesReady_held hh.held)
  have hlane : ∀ g : Field, g.Enduring → g.addr = lanePage i.val * 0x10000 + 0x1000 → g.lo + g.width ≤ 32 →
      ((((s.begin.calFailed i.val).hwHold p 7 (Party.lane i.val)).mirror s.begin).settle).get g = (s.begin.calFailed i.val).get g := fun g hg ha hw => by
    rw [State.get_mirror_settle_lane _ _ i ha (by decide), hh.get _ hg (clearOf_holdFields _ hlt ha hw)]
  refine answers_of_eq ((he.trans (done_whenFabric f hrun)).trans (congrArg (fun x => Host.Outcome.next (State.mirror x s.begin).settle) hf)) ⟨?_, ?_, ?_, ?_, ?_⟩
  · rw [hlane _ (enduring_calDone i.isLt) rfl (show 5 + 1 ≤ 32 by decide), State.calFailed, State.get_put_clear _ _ (Field.clearOf_of_base rfl rfl rfl),
      State.get_put_clear _ _ (Field.clearOf_of_base rfl rfl rfl), State.calDone_calShown]
    rfl
  · rw [hlane _ (enduring_failed i.isLt) rfl (show 10 + 1 ≤ 32 by decide), State.calFailed, State.get_put_clear _ _ (Field.clearOf_of_base rfl rfl rfl),
      State.get_put_fits _ (Field.fits_of rfl)]
  · rw [hlane _ (enduring_cause i.isLt) rfl (show 16 + 4 ≤ 32 by decide), State.calFailed, State.get_put_fits _ (Field.fits_of rfl)]
  · rw [State.portHeld_mirror_settle _ _ hlt, hh.held]
  · rw [State.get_mirror_settle_port _ _ (by simp only [Fld.PORT_STATUS_HOLD_REASON, Addr.PORT_STATUS]; omega), hh.reason]

end

/-! ### The obligation -/

/-- Settles O39. -/
theorem laneFailureAndCalibration : Obligations.LaneFailureAndCalibration := by
  unfold Obligations.LaneFailureAndCalibration
  refine fun s i hrun => ⟨?_, ?_, ?_, fun h => answers_signalLoss_unmet hrun (.inl h), fun h => answers_eqDiverge_unmet hrun (.inl h), fun h => answers_signalLoss_unmet hrun (.inr h),
    answers_cdrUnlock_unmet hrun, fun h => answers_eqDiverge_unmet hrun (.inr h), ?_, fun e hlive hx => ?_, answers_flits hrun, fun e hlive hx => ?_, ?_,
    answers_signalReturn_calibrating hrun, answers_signalReturn hrun, fun p h1 h2 h3 h4 h5 h6 h7 => answers_calDone_trains hrun h1 h2 h3 h4 h5 h6 h7,
    fun p j h1 h2 h3 h4 h5 h6 => answers_calDone_waits hrun h1 h2 h3 h4 h5 h6, fun p h1 h2 h3 _ h5 h6 _ => answers_calDone_fails hrun h1 h2 h3 h5 h6,
    fun x k up hs hr hz => answers_adaptDfe hrun hs hr k hz, fun x k up hs hr hz hk => answers_adaptFfe hrun hs hr k hz hk, fun x a hs hr hz => answers_adaptFrozen hrun hs hr a hz⟩
  · exact fun p h1 _ h3 h4 h5 h6 h7 h8 h9 => answers_signalLoss hrun ⟨h1, h3, h4, h5, h6, h7, h8, h9⟩
  · exact fun p h1 _ h3 h4 h5 h6 h7 h8 h9 => answers_cdrUnlock hrun ⟨h1, h3, h4, h5, h6, h7, h8, h9⟩
  · exact fun p h1 _ h3 h4 h5 h6 h7 h8 h9 => answers_eqDiverge hrun ⟨h1, h3, h4, h5, h6, h7, h8, h9⟩
  · exact fun e p h1 _ h3 h4 h5 h6 h7 h8 h9 => answers_errorLimit hrun ⟨h1, h3, h4, h5, h6, h7, h8, h9⟩
  · obtain ⟨t, ht, h1, h2, h3⟩ := answers_errorLimit_within hrun hlive hx
    exact ⟨t, ht, h1, h2.violations, h2.disparities, h2.sync, h2.disparity, h2.out, h3⟩
  · obtain ⟨t, ht, h1, h2, h3⟩ := answers_windowEnd_within hrun hlive hx
    exact ⟨t, ht, h1, h2.fec, h2.violations, h2.disparities, h2.sync, h2.disparity, h2.out, h3⟩
  · exact fun e p h1 _ h3 h4 h5 h6 h7 h8 h9 => answers_windowEnd_exceeded hrun ⟨h1, h3, h4, h5, h6, h7, h8, h9⟩

end Sys2Proof.Machine
end

section
/-! PROOFS. What a standby's roles and its reach leave alone as it takes the stream (for O42, R326 to R328, R335). -/
namespace Sys2Proof.Machine
open Sys2Proof
set_option Elab.async false

/-! ### Hosts that become lost (R236, R335) -/

/-- What the loss of remote hosts keeps: the time base, the pair and the binding tables. -/
def Kept.standby : Kept where
  addr a := a / 0x10000 = 8 ∨ a / 0x10000 = 0xA0 ∨ 0x600 ≤ a / 0x10000 ∧ a / 0x10000 ≤ 0x605
  counter c := c = Ctr.PAIR 1 2
  pair := True
  home a h := by omega
  perf _ h := .inr h

/-- The PIDs that are in use and not reachable, as the last look found them. -/
def Pair.seen (p : Pair) (l : List Nat) : Pair := { p with unreachable := l }

theorem State.spares_updateReach (s : State) : (s.modPair fun p => p.seen (s.pidsInUse.filter fun i => !s.pidReachable i)).Spares .standby s.updateReach := by
  have hev : ¬ Kept.standby.addr (evtPendAddr 0xA2) := by
    show ¬ (_ ∨ _ ∨ _ ∧ _)
    decide
  exact State.Spares.foldl _ (fun t i => (State.Spares.refl t).pidLost i) _ (((State.Spares.refl _).raiseIf _ Evt.SWARM_UNREACHABLE hev).raiseIf _ Evt.SWARM_REACHABLE hev)

/-! ### The roles of a standby whose partner is silent (R327, R328) -/

/-- A module in STANDBY that has heard no block, follows no time and holds its partner neither failed nor silent. -/
structure State.Standing (s : State) : Prop where
  role : s.role = 5
  peer : s.fab.pair.peer = none
  failed : s.fab.pair.failed = 0
  src : s.get Fld.TIME_STATUS_SRC = 0
  follow : s.flag Fld.TIME_CFG_FOLLOW_EN = false

section
variable {s t : State}

theorem State.Standing.of (h : s.Standing) (hr : t.get Fld.TDM_ROLE_STATE = s.get Fld.TDM_ROLE_STATE) (hs : t.get Fld.TIME_STATUS_SRC = s.get Fld.TIME_STATUS_SRC)
    (hf : t.get Fld.TIME_CFG_FOLLOW_EN = s.get Fld.TIME_CFG_FOLLOW_EN) (hp : t.fab.pair.peer = s.fab.pair.peer) (hx : t.fab.pair.failed = s.fab.pair.failed) : t.Standing :=
  ⟨hr.trans h.role, hp.trans h.peer, hx.trans h.failed, hs.trans h.src, by rw [State.flag, hf]; exact h.follow⟩

theorem State.Standing.partner (h : s.Standing) : s.partner = none := by rw [State.partner, h.failed, if_pos rfl, h.peer]

theorem State.Standing.unknown (h : s.Standing) : s.unknownRegions = s.fab.pair.begun := by
  rw [State.unknownRegions, h.peer]
  exact Nat.or_zero _

theorem State.Standing.rule (h : s.Standing) : s.rule = s.standbyUnknown := by
  have h1 : ¬ s.fab.pair.failed = 1 := by rw [h.failed]; decide
  have h2 : ¬ s.fab.pair.failed = 2 := by rw [h.failed]; decide
  rw [State.rule, h.role, State.ruleStandby, if_neg h1, h.partner]
  exact if_neg h2

/-- The module does not follow its partner. -/
theorem State.updateFollow_alone (hs : s.get Fld.TIME_STATUS_SRC = 0) (hf : s.flag Fld.TIME_CFG_FOLLOW_EN = false) : s.updateFollow = s := by
  have hsrc : s.flag Fld.TIME_STATUS_SRC = false := by rw [State.flag, hs]; rfl
  rw [State.updateFollow, State.mayFollow, hf, Bool.false_and, Bool.false_and, if_neg Bool.false_ne_true, State.stopFollow, hsrc, if_neg Bool.false_ne_true]

/-- With none of regions 16 to 19 unknown the standby stays in STANDBY. -/
theorem State.Standing.roles_stay (h : s.Standing) (hb : s.fab.pair.begun ≤ 0xFFFF) : s.roles = s.put Fld.TDM_UNKNOWN_REGIONS s.fab.pair.begun := by
  have hrule : s.rule = s := by rw [h.rule, State.standbyUnknown, h.unknown, if_neg (by omega)]
  have hsteps : s.roleSteps 6 = s := by rw [State.roleSteps, hrule, if_pos (beq_self_eq_true _)]
  have hstandby : (s.isStandby || s.role == 6) = true := by rw [State.isStandby, h.role]; rfl
  rw [State.roles, hsteps, State.showUnknown, if_pos hstandby, h.unknown, State.updateFollow_alone]
  · rw [State.get_put_clear _ _ (by decide), h.src]
  · rw [State.flag, State.get_put_clear _ _ (by decide)]
    exact h.follow

/-- The module synchronizes anew. -/
def State.resyncing (s : State) : State := (s.modPair fun p => { p with ended := 0 }).setRole 4

/-- The role shown as STANDBY_SYNC, with its event; a SWAP_REQ ends. -/
def State.syncShown (s : State) : State :=
  let t := ((s.modPair fun p => { p with ended := 0 }).put Fld.TDM_ROLE_STATE 4).raise Evt.TDM_ROLE_CHG
  if t.fab.pair.msgOut == 1 then t.modPair fun p => { p with msgOut := 0 } else t

theorem State.Standing.resyncing_eq (h : s.Standing) : s.resyncing = s.syncShown.passiveEntry := by
  have hr : (s.modPair fun p => { p with ended := 0 }).role = 5 := h.role
  unfold State.resyncing State.setRole
  rw [hr, if_neg (by decide)]
  rfl

/-- The dirty logs disabled, all of them stopped. -/
def State.logsStopped (s : State) : State := (List.range 64).foldl (fun u n => (u.put (Fld.LOG_CFG_EN n) 0).put (Fld.LOG_STATUS_ACTIVE n) 0) s

theorem State.passiveEntry_logs (s : State) : s.passiveEntry = s.logsStopped.modComb fun c => { c with poisonAll := true, poison := [] } := by
  unfold State.passiveEntry State.logsStopped
  rfl

theorem State.logsStopped_eq (s : State) : ∃ r, s.logsStopped = { s with regs := r } := by
  unfold State.logsStopped
  refine List.foldlRecOn (motive := fun u : State => ∃ r, u = { s with regs := r }) (List.range 64) _ ⟨s.regs, rfl⟩ fun u hu n _ => ?_
  obtain ⟨r, rfl⟩ := hu
  exact ⟨_, rfl⟩

theorem State.passiveEntry_eq (s : State) : ∃ r, s.passiveEntry = ({ s with regs := r } : State).modComb fun c => { c with poisonAll := true, poison := [] } := by
  obtain ⟨r, hr⟩ := s.logsStopped_eq
  exact ⟨r, by rw [State.passiveEntry_logs, hr]⟩

theorem State.word_modComb (s : State) (f : Comb → Comb) (a : Nat) : (s.modComb f).word a = s.word a := rfl

theorem State.word_passiveEntry (s : State) {a : Nat} (h : a / 0x10000 ≠ 0x91) : s.passiveEntry.word a = s.word a := by
  rw [State.passiveEntry_logs, State.word_modComb]
  unfold State.logsStopped
  refine List.foldlRecOn (motive := fun u : State => u.word a = s.word a) (List.range 64) _ rfl fun u hu n hn => ?_
  have hlt := List.mem_range.mp hn
  rw [State.word_put_other _ _ (by simp only [Fld.LOG_STATUS_ACTIVE, Addr.LOG_STATUS]; omega), State.word_put_other _ _ (by simp only [Fld.LOG_CFG_EN, Addr.LOG_CFG]; omega), hu]

/-- The fields of the dirty logs that entry to a passive role clears. -/
def logFields : List Field := (List.range 64).flatMap fun n => [Fld.LOG_CFG_EN n, Fld.LOG_STATUS_ACTIVE n]

theorem mem_logFields {g : Field} (h : g ∈ logFields) : g.addr / 0x10000 = 0x91 := by
  obtain ⟨n, hn, hg⟩ := List.mem_flatMap.mp h
  have hlt := List.mem_range.mp hn
  rcases List.mem_pair.mp hg with rfl | rfl
  · simp only [Fld.LOG_CFG_EN, Addr.LOG_CFG]
    omega
  · simp only [Fld.LOG_STATUS_ACTIVE, Addr.LOG_STATUS]
    omega

theorem Frame.andPassiveEntry {ps : List Part} {fs : List Field} {s t : State} (h : Frame ps fs s t) (hp : Part.fab ∈ ps) (hf : ∀ g ∈ logFields, g ∈ fs) :
    Frame ps fs s t.passiveEntry := by
  rw [State.passiveEntry_logs]
  refine Frame.andModComb ?_ _ hp
  unfold State.logsStopped
  refine List.foldlRecOn (motive := fun u : State => Frame ps fs s u) (List.range 64) _ h fun u hu n hn => ?_
  exact (hu.andPut 0 (hf _ (List.mem_flatMap.mpr ⟨n, hn, List.mem_cons_self⟩))).andPut 0 (hf _ (List.mem_flatMap.mpr ⟨n, hn, by simp⟩))

theorem State.raise_modPair (s : State) (g : Pair → Pair) (e : Event) : (s.modPair g).raise e = (s.raise e).modPair g := by
  have hl : (s.modPair g).live e.page = s.live e.page := rfl
  rw [State.raise, State.raise, hl]
  split <;> rfl

theorem State.syncShown_cases (s : State) : ∃ p : Pair, (p.peer = s.fab.pair.peer ∧ p.failed = s.fab.pair.failed ∧ p.begun = s.fab.pair.begun ∧ p.mepoch = s.fab.pair.mepoch ∧
    p.openEpoch = s.fab.pair.openEpoch) ∧ s.syncShown = ((s.put Fld.TDM_ROLE_STATE 4).raise Evt.TDM_ROLE_CHG).modPair fun _ => p := by
  have hraise : ∀ u : State, ∀ g : Pair → Pair, (((u.modPair g).put Fld.TDM_ROLE_STATE 4).raise Evt.TDM_ROLE_CHG) = ((u.put Fld.TDM_ROLE_STATE 4).raise Evt.TDM_ROLE_CHG).modPair g :=
    fun u g => State.raise_modPair (u.put Fld.TDM_ROLE_STATE 4) g _
  have hfab : ((s.put Fld.TDM_ROLE_STATE 4).raise Evt.TDM_ROLE_CHG).fab = s.fab := (State.raise_fab _ _).trans (State.put_fab _ _ _)
  unfold State.syncShown
  dsimp only
  rw [hraise]
  split
  · refine ⟨{ s.fab.pair with ended := 0, msgOut := 0 }, ⟨rfl, rfl, rfl, rfl, rfl⟩, ?_⟩
    rw [State.modPair, State.modPair, State.modPair, hfab]
  · refine ⟨{ s.fab.pair with ended := 0 }, ⟨rfl, rfl, rfl, rfl, rfl⟩, ?_⟩
    rw [State.modPair, State.modPair, hfab]

theorem Frame.andSyncShown {ps : List Part} {fs : List Field} {s t : State} (h : Frame ps fs s t) (hp : Part.pair ∈ ps) (h1 : Fld.TDM_ROLE_STATE ∈ fs)
    (h2 : Evt.TDM_ROLE_CHG.field ∈ fs) : Frame ps fs s t.syncShown := by
  obtain ⟨p, -, hs⟩ := t.syncShown_cases
  rw [hs]
  exact ((h.andPut 4 h1).andRaise h2).andModPair _ hp

/-- What entry to STANDBY_SYNC keeps. -/
structure State.ResyncKeeps (s t : State) : Prop where
  role : t.role = 4
  word : ∀ a, a ≠ Addr.TDM_ROLE → a ≠ evtPendAddr 0xA0 → a / 0x10000 ≠ 0x91 → t.word a = s.word a
  peer : t.fab.pair.peer = s.fab.pair.peer
  failed : t.fab.pair.failed = s.fab.pair.failed
  begun : t.fab.pair.begun = s.fab.pair.begun
  mepoch : t.fab.pair.mepoch = s.fab.pair.mepoch
  openEpoch : t.fab.pair.openEpoch = s.fab.pair.openEpoch
  home : t.fab.home = s.fab.home
  ctrs : t.ctrs = s.ctrs
  out : t.out = s.out

theorem State.Standing.resyncKeeps (h : s.Standing) : s.ResyncKeeps s.resyncing := by
  obtain ⟨p, ⟨h1, h2, h3, h4, h5⟩, hs⟩ := s.syncShown_cases
  obtain ⟨r, hr⟩ := (((s.put Fld.TDM_ROLE_STATE 4).raise Evt.TDM_ROLE_CHG).modPair fun _ => p).passiveEntry_eq
  have hw : ∀ {a : Nat}, a / 0x10000 ≠ 0x91 → s.resyncing.word a = ((s.put Fld.TDM_ROLE_STATE 4).raise Evt.TDM_ROLE_CHG).word a := fun ha => by
    rw [h.resyncing_eq, hs, State.word_passiveEntry _ ha, State.word_modPair]
  have heq := h.resyncing_eq
  rw [hs, hr] at heq
  have hrole : s.resyncing.get Fld.TDM_ROLE_STATE = _ := State.get_of_word (g := Fld.TDM_ROLE_STATE) (hw (a := Addr.TDM_ROLE) (by decide))
  refine ⟨?_, fun a hr' he ha => ?_, ?_, ?_, ?_, ?_, ?_, ?_, ?_, ?_⟩
  · rw [State.role, hrole, State.get_raise_clear _ (by decide), State.get_put_fits _ (Field.fits_of rfl)]
  · rw [hw ha, State.word_raise_other (e := Evt.TDM_ROLE_CHG) _ he, State.word_put_other (f := Fld.TDM_ROLE_STATE) _ _ hr']
  · rw [heq]; exact h1
  · rw [heq]; exact h2
  · rw [heq]; exact h3
  · rw [heq]; exact h4
  · rw [heq]; exact h5
  · rw [heq]
    show ((s.put Fld.TDM_ROLE_STATE 4).raise Evt.TDM_ROLE_CHG).fab.home = s.fab.home
    rw [State.raise_fab, State.put_fab]
  · rw [heq]
    show ((s.put Fld.TDM_ROLE_STATE 4).raise Evt.TDM_ROLE_CHG).ctrs = s.ctrs
    rw [State.raise_ctrs, State.put_ctrs]
  · rw [heq]
    show ((s.put Fld.TDM_ROLE_STATE 4).raise Evt.TDM_ROLE_CHG).out = s.out
    rw [State.raise_out, State.put_out]

/-- With one of regions 16 to 19 unknown the standby is in STANDBY_SYNC. -/
theorem State.Standing.roles_sync (h : s.Standing) (hb : 0xFFFF < s.fab.pair.begun) : s.roles = s.resyncing.put Fld.TDM_UNKNOWN_REGIONS s.fab.pair.begun := by
  have hk := h.resyncKeeps
  have hget : ∀ g : Field, g.addr ≠ Addr.TDM_ROLE → g.addr ≠ evtPendAddr 0xA0 → g.addr / 0x10000 ≠ 0x91 → s.resyncing.get g = s.get g := fun g h1 h2 h3 =>
    State.get_of_word (hk.word _ h1 h2 h3)
  have hrule : s.rule = s.resyncing := by rw [h.rule, State.standbyUnknown, h.unknown, if_pos hb]; rfl
  have hunk : s.resyncing.unknownRegions = s.fab.pair.begun := by
    rw [State.unknownRegions, hk.peer, h.peer, hk.begun]
    exact Nat.or_zero _
  have hsync : s.resyncing.rule = s.resyncing := by
    have h1 : ¬ s.resyncing.fab.pair.failed ≠ 0 := by rw [hk.failed, h.failed]; exact fun hn => hn rfl
    have h2 : decide (s.resyncing.unknownRegions = 0) = false := decide_eq_false (by rw [hunk]; omega)
    rw [State.rule, hk.role, State.ruleSync, if_neg h1, h2, Bool.false_and, if_neg Bool.false_ne_true]
    rfl
  have hsteps : s.roleSteps 6 = s.resyncing := by
    rw [State.roleSteps, hrule, if_neg (by rw [hk.role, h.role]; decide), State.roleSteps, hsync, if_pos (beq_self_eq_true _)]
  have hstandby : (s.resyncing.isStandby || s.resyncing.role == 6) = true := by rw [State.isStandby, hk.role]; rfl
  rw [State.roles, hsteps, State.showUnknown, if_pos hstandby, hunk, State.updateFollow_alone]
  · rw [State.get_put_clear _ _ (by decide), hget _ (by decide) (by decide) (by decide), h.src]
  · rw [State.flag, State.get_put_clear _ _ (by decide), hget _ (by decide) (by decide) (by decide)]
    exact h.follow

/-- What the roles of a standby whose partner is silent keep. -/
structure State.RolesKeep (s t : State) : Prop where
  passive : t.issues = false
  word : ∀ a, a ≠ Addr.TDM_ROLE → a ≠ Addr.TDM_UNKNOWN → a ≠ evtPendAddr 0xA0 → a / 0x10000 ≠ 0x91 → t.word a = s.word a
  mepoch : t.fab.pair.mepoch = s.fab.pair.mepoch
  openEpoch : t.fab.pair.openEpoch = s.fab.pair.openEpoch
  home : t.fab.home = s.fab.home
  ctrs : t.ctrs = s.ctrs
  out : t.out = s.out

theorem State.issues_of_standby (h : s.role = 4 ∨ s.role = 5) : s.issues = false := by
  rcases h with h | h <;> rw [State.issues, State.isActive, h] <;> rfl

theorem State.Standing.rolesKeep (h : s.Standing) : s.RolesKeep s.roles := by
  have hrole : ∀ u : State, (u.put Fld.TDM_UNKNOWN_REGIONS s.fab.pair.begun).role = u.role := fun u => State.get_put_clear _ _ (by decide)
  by_cases hb : s.fab.pair.begun ≤ 0xFFFF
  · rw [h.roles_stay hb]
    exact ⟨State.issues_of_standby (.inr ((hrole s).trans h.role)), fun a _ hu _ _ => State.word_put_other _ _ hu, by rw [State.put_fab], by rw [State.put_fab], by rw [State.put_fab],
      State.put_ctrs _ _ _, State.put_out _ _ _⟩
  · have hk := h.resyncKeeps
    rw [h.roles_sync (Nat.lt_of_not_le hb)]
    exact ⟨State.issues_of_standby (.inl ((hrole _).trans hk.role)), fun a hr hu he hl => (State.word_put_other _ _ hu).trans (hk.word a hr he hl),
      by rw [State.put_fab, hk.mepoch], by rw [State.put_fab, hk.openEpoch], by rw [State.put_fab, hk.home], (State.put_ctrs _ _ _).trans hk.ctrs, (State.put_out _ _ _).trans hk.out⟩

end

/-- The copies of the tiles follow: nothing of a passive module changes but the copies (R158, R306). -/
theorem State.mirror_passive {s : State} (old : State) (h : s.issues = false) : ∃ l, s.mirror old = { s with fab := { s.fab with lag := l } } := by
  rw [State.mirror_of_not_issues h, State.lagTiles]
  dsimp only
  split
  · exact ⟨s.fab.lag, rfl⟩
  · exact ⟨_, rfl⟩

end Sys2Proof.Machine
end

section
/-! PROOFS. What a standby does with a record (O42, R320 to R323, R326). -/
namespace Sys2Proof.Machine
open Sys2Proof
set_option Elab.async false

/-! ### A record taken in order (R321, R323) -/

/-- The pair with the next record in the open epoch. -/
def Pair.joined (p : Pair) (r : Rec) : Pair :=
  { p with adopt := false, gap := false, reqDue := false, openEpoch := p.openEpoch ++ [r], blocks := p.blocks.filter fun b => seqAfter b.1 r.seq, restartIn := false }

/-- The next record moves R and joins the open epoch. -/
def State.joined (s : State) (r : Rec) : State := (s.put Fld.TDM_HSEQ_SEQ r.seq).modPair fun p => p.joined r

/-- The RESTART flag of the frame has been seen. -/
def State.received (s : State) : State := s.modPair fun p => { p with restartIn := false }

/-- A module in STANDBY whose stream is up and that has taken the stream up. -/
structure State.Streams (s : State) : Prop extends s.Standing where
  up : s.get Fld.TDM_LINK_STATE = 3
  version : s.get Fld.TDM_LINK_MPV ≠ 0
  taken : s.fab.pair.adopt = false

section
variable {s : State} {r : Rec}

/-- What a standby does with a record, by its SEQ. -/
theorem State.Streams.receiveRec (h : s.Streams) (hs : r.seq < 2 ^ 32) (ht : r.sent = true) : s.receiveRec r =
    if s.fab.pair.gap then (if s.fab.pair.restartIn && r.seq == (s.get Fld.TDM_HSEQ_SEQ + 1) % 2 ^ 32 then s.received.acceptRec r else s.received)
    else if r.seq == (s.get Fld.TDM_HSEQ_SEQ + 1) % 2 ^ 32 then s.received.acceptRec r
    else if seqAfter r.seq ((s.get Fld.TDM_HSEQ_SEQ + 1) % 2 ^ 32) then s.received.gapSeen else s.received := by
  obtain ⟨n, rg, b, z⟩ := r
  obtain rfl : z = true := ht
  have hc : (!s.isStandby || s.get Fld.TDM_LINK_STATE != 3 || s.get Fld.TDM_LINK_MPV == 0) = false := by
    have hsb : s.isStandby = true := by rw [State.isStandby, h.role]; rfl
    rw [hsb, h.up, beq_eq_false_iff_ne.mpr h.version]
    rfl
  unfold State.receiveRec
  dsimp only
  rw [hc, if_neg Bool.false_ne_true, h.taken, if_neg Bool.false_ne_true, Nat.mod_eq_of_lt hs]
  rfl

theorem State.Streams.accepts (h : s.Streams) (hq : r.seq = (s.get Fld.TDM_HSEQ_SEQ + 1) % 2 ^ 32) (ht : r.sent = true) (hg : s.fab.pair.gap = true → s.fab.pair.restartIn = true) :
    s.receiveRec r = s.received.acceptRec r := by
  rw [h.receiveRec (by omega) ht, beq_iff_eq.mpr hq, Bool.and_true]
  split
  · next hgap => rw [if_pos (hg hgap)]
  · rw [if_pos rfl]

theorem State.get_joined {g : Field} (hg : g.clearOf Fld.TDM_HSEQ_SEQ = true) : (s.joined r).get g = s.get g := by
  rw [State.joined, State.get_modPair, State.get_put_clear _ _ hg]

theorem State.pair_joined : (s.joined r).fab.pair = s.fab.pair.joined r := by simp [State.joined]

theorem State.Standing.joined (h : s.Standing) : (s.joined r).Standing :=
  h.of (State.get_joined (by decide)) (State.get_joined (by decide)) (State.get_joined (by decide)) (by rw [State.pair_joined]; rfl) (by rw [State.pair_joined]; rfl)

theorem State.get_hseq_joined (hs : r.seq < 2 ^ 32) : (s.joined r).get Fld.TDM_HSEQ_SEQ = r.seq := by
  rw [State.joined, State.get_modPair]
  exact State.get_put_fits _ ⟨by decide, hs⟩

theorem Frame.joined (s : State) : Frame [.pair] [Fld.TDM_HSEQ_SEQ, Fld.TDM_UNKNOWN_REGIONS] s (s.begin.joined r) := ((Frame.begin s).andPut _).andModPair _

end

/-! ### What a record in order does now, by its body -/

section
variable (s : State) (n rg a k : Nat) (b : Bool)

theorem State.acceptRec_dir (e : Option DirEntry) : s.received.acceptRec ⟨n, rg, .dir k a e, b⟩ = s.joined ⟨n, rg, .dir k a e, b⟩ := rfl
theorem State.acceptRec_reg (ws : List Nat) : s.received.acceptRec ⟨n, rg, .reg a ws, b⟩ = s.joined ⟨n, rg, .reg a ws, b⟩ := rfl
theorem State.acceptRec_commit (full : Bool) (l : List (Nat × List Nat)) : s.received.acceptRec ⟨n, rg, .commit a full l, b⟩ = s.joined ⟨n, rg, .commit a full l, b⟩ := rfl
theorem State.acceptRec_bulkDir (g : Nat) (es : List (Nat × DirEntry)) : s.received.acceptRec ⟨n, rg, .bulkDir k g a es, b⟩ = s.joined ⟨n, rg, .bulkDir k g a es, b⟩ := rfl

end

theorem exec_recDir (s : State) (seq : Word) (h : Hive) (x : Nat) (e : Option DirEntry) :
    exec (.recDir seq h x e) s = done (s.begin.whenFabric fun u => (u.receiveRec ⟨seq.toNat, h.val, .dir h.val x e, true⟩).roles) := rfl
theorem exec_recReg (s : State) (seq : Word) (rg : Fin 20) (a : Word) (ws : List Word) :
    exec (.recReg seq rg a ws) s = done (s.begin.whenFabric fun u => (u.receiveRec ⟨seq.toNat, rg.val, .reg a.toNat (ws.map fun w => w.toNat), true⟩).roles) := rfl
theorem exec_recCommit (s : State) (seq : Word) (ep : BitVec 16) (full : Bool) (l : List (Nat × List Nat)) :
    exec (.recCommit seq ep full l) s = done (s.begin.whenFabric fun u => (u.receiveRec ⟨seq.toNat, 17, .commit ep.toNat full l, true⟩).roles) := rfl
theorem exec_recBulkDir (s : State) (seq : Word) (h : Hive) (g n : Nat) (es : List (Nat × DirEntry)) :
    exec (.recBulkDir seq h g n es) s = done (s.begin.whenFabric fun u => (u.receiveRec ⟨seq.toNat, h.val, .bulkDir h.val g n es, true⟩).roles) := rfl

/-! ### Answers to a record -/

section
variable {s x : State} {c : Instr} {r : Rec} {ps : List Part} {fs : List Field} {P : State → Prop}

/-- The answer to a record that leaves the module in STANDBY. -/
theorem answers_record (he : exec c s = done (s.begin.whenFabric fun u => (u.receiveRec r).roles)) (hrun : s.fabricRuns = true) (hx : s.begin.receiveRec r = x) (hstd : x.Standing)
    (hb : x.fab.pair.begun ≤ 0xFFFF) (hfr : Frame ps fs s x) (hu : Fld.TDM_UNKNOWN_REGIONS ∈ fs) (hp : Part.fab ∉ ps) (hf : ∀ g ∈ fs, regionOf g.addr = none)
    (h : Frame ps fs s (x.put Fld.TDM_UNKNOWN_REGIONS x.fab.pair.begun).settle → P (x.put Fld.TDM_UNKNOWN_REGIONS x.fab.pair.begun).settle) : Answers c s P := by
  have hfr' : Frame ps fs s (x.put Fld.TDM_UNKNOWN_REGIONS x.fab.pair.begun) := hfr.andPut _ hu
  exact answers_fabric he hrun (by rw [hx, hstd.roles_stay hb]) hfr' (hfr'.home_dir hp) hf h

/-- A record in order moves R and joins the open epoch, and does no more where its body says no more now. -/
theorem answers_joined (he : exec c s = done (s.begin.whenFabric fun u => (u.receiveRec r).roles)) (hrun : s.fabricRuns = true) (hstr : s.begin.Streams) (ht : r.sent = true)
    (hq : r.seq = (s.get Fld.TDM_HSEQ_SEQ + 1) % 2 ^ 32) (hg : s.fab.pair.gap = true → s.fab.pair.restartIn = true) (hb : s.fab.pair.begun = 0)
    (hbody : s.begin.received.acceptRec r = s.begin.joined r)
    (h : ∀ t : State, t.get Fld.TDM_HSEQ_SEQ = r.seq → t.fab.pair.openEpoch = s.fab.pair.openEpoch ++ [r] → t.fab.pair.gap = false → Frame [.pair] [Fld.TDM_HSEQ_SEQ, Fld.TDM_UNKNOWN_REGIONS] s t → P t) :
    Answers c s P := by
  have hbegun : (s.begin.joined r).fab.pair.begun = 0 := by
    rw [State.pair_joined]
    exact hb
  refine answers_record he hrun ((hstr.accepts hq ht hg).trans hbody) hstr.toStanding.joined (by rw [hbegun]; decide) (Frame.joined s) (by simp) (by simp) (by decide)
    fun hfr => h _ ?_ ?_ ?_ hfr
  · rw [State.get_settle _ (by decide), State.get_put_clear _ _ (by decide), State.get_hseq_joined (by omega)]
  · rw [State.settle_fab, State.put_fab, State.pair_joined]
    rfl
  · rw [State.settle_fab, State.put_fab, State.pair_joined]
    rfl

end

section
variable {s : State} {seq : Word} (hrun : s.fabricRuns = true) (hstr : s.begin.Streams)
include hrun hstr

theorem recDir_next : ∀ h : Hive, ∀ x : Nat, ∀ e : Option DirEntry, s.fab.pair.gap = false → seq.toNat = (s.get Fld.TDM_HSEQ_SEQ + 1) % 2 ^ 32 → s.fab.pair.begun = 0 →
    Answers (.recDir seq h x e) s fun t => t.get Fld.TDM_HSEQ_SEQ = seq.toNat ∧ t.fab.pair.openEpoch = s.fab.pair.openEpoch ++ [⟨seq.toNat, h.val, .dir h.val x e, true⟩] ∧
    t.fab.home.dir = s.fab.home.dir ∧ Frame [.pair] [Fld.TDM_HSEQ_SEQ, Fld.TDM_UNKNOWN_REGIONS] s t := by
  intro h x e hg hq hb
  exact answers_joined (exec_recDir _ _ _ _ _) hrun hstr rfl hq (by simp [hg]) hb (State.acceptRec_dir _ _ _ _ _ _ _)
    fun t ht hp _ hfr => ⟨ht, hp, hfr.home_dir (by simp), hfr⟩

theorem recReg_next : ∀ rg : Fin 20, ∀ a : Word, ∀ ws : List Word, s.fab.pair.gap = false → seq.toNat = (s.get Fld.TDM_HSEQ_SEQ + 1) % 2 ^ 32 → s.fab.pair.begun = 0 →
    Answers (.recReg seq rg a ws) s fun t => t.get Fld.TDM_HSEQ_SEQ = seq.toNat ∧ t.fab.pair.openEpoch = s.fab.pair.openEpoch ++ [⟨seq.toNat, rg.val, .reg a.toNat (ws.map fun w =>
    w.toNat), true⟩] ∧ Frame [.pair] [Fld.TDM_HSEQ_SEQ, Fld.TDM_UNKNOWN_REGIONS] s t := by
  intro rg a ws hg hq hb
  exact answers_joined (exec_recReg _ _ _ _ _) hrun hstr rfl hq (by simp [hg]) hb (State.acceptRec_reg _ _ _ _ _ _)
    fun t ht hp _ hfr => ⟨ht, hp, hfr⟩

theorem recCommit_next : ∀ ep : BitVec 16, ∀ full : Bool, ∀ rules : List (Nat × List Nat), s.fab.pair.gap = false → seq.toNat = (s.get Fld.TDM_HSEQ_SEQ + 1) % 2 ^ 32 →
    s.fab.pair.begun = 0 → Answers (.recCommit seq ep full rules) s fun t => t.get Fld.TDM_HSEQ_SEQ = seq.toNat ∧
    t.fab.pair.openEpoch = s.fab.pair.openEpoch ++ [⟨seq.toNat, 17, .commit ep.toNat full rules, true⟩] ∧ t.fab.hat = s.fab.hat ∧
    Frame [.pair] [Fld.TDM_HSEQ_SEQ, Fld.TDM_UNKNOWN_REGIONS] s t := by
  intro ep full rules hg hq hb
  exact answers_joined (exec_recCommit _ _ _ _ _) hrun hstr rfl hq (by simp [hg]) hb (State.acceptRec_commit _ _ _ _ _ _ _)
    fun t ht hp _ hfr => ⟨ht, hp, congrArg (·.hat) (hfr.1 .fab (by simp)), hfr⟩

theorem recBulkDir_next : ∀ h : Hive, ∀ gr : Nat, ∀ n : Nat, ∀ es : List (Nat × DirEntry), s.fab.pair.gap = false → seq.toNat = (s.get Fld.TDM_HSEQ_SEQ + 1) % 2 ^ 32 →
    s.fab.pair.begun = 0 → Answers (.recBulkDir seq h gr n es) s fun t => t.get Fld.TDM_HSEQ_SEQ = seq.toNat ∧
    t.fab.pair.openEpoch = s.fab.pair.openEpoch ++ [⟨seq.toNat, h.val, .bulkDir h.val gr n es, true⟩] ∧ t.fab.home.dir = s.fab.home.dir ∧
    Frame [.pair] [Fld.TDM_HSEQ_SEQ, Fld.TDM_UNKNOWN_REGIONS] s t := by
  intro h gr n es hg hq hb
  exact answers_joined (exec_recBulkDir _ _ _ _ _ _) hrun hstr rfl hq (by simp [hg]) hb (State.acceptRec_bulkDir _ _ _ _ _ _ _ _)
    fun t ht hp _ hfr => ⟨ht, hp, hfr.home_dir (by simp), hfr⟩

/-- The RESTART with R + 1 ends a gap. -/
theorem recReg_restart : ∀ rg : Fin 20, ∀ a : Word, ∀ ws : List Word, s.fab.pair.gap = true → s.fab.pair.restartIn = true → s.fab.pair.begun = 0 →
    seq.toNat = (s.get Fld.TDM_HSEQ_SEQ + 1) % 2 ^ 32 → Answers (.recReg seq rg a ws) s fun t => t.get Fld.TDM_HSEQ_SEQ = seq.toNat ∧ t.fab.pair.gap = false ∧
    t.fab.pair.openEpoch.length = s.fab.pair.openEpoch.length + 1 ∧ Frame [.pair] [Fld.TDM_HSEQ_SEQ, Fld.TDM_UNKNOWN_REGIONS] s t := by
  intro rg a ws _ hre hb hq
  refine answers_joined (exec_recReg _ _ _ _ _) hrun hstr rfl hq (fun _ => hre) hb (State.acceptRec_reg _ _ _ _ _ _)
    fun t ht hp hgap hfr => ⟨ht, hgap, ?_, hfr⟩
  rw [hp, List.length_append]
  rfl

end

/-! ### Bulk resynchronization (R326) -/

/-- The bit of a region. -/
def regionBit (n : Nat) : Nat := if n < 20 then 2 ^ n else 0

def Pair.regionBegun (p : Pair) (n : Nat) : Pair := { p with begun := p.begun ||| regionBit n }
def Pair.regionEnded (p : Pair) (n : Nat) : Pair := { p with begun := p.begun &&& (allRegions ^^^ regionBit n), ended := p.ended ||| regionBit n }

theorem regionBit_fin (rg : Fin 20) : regionBit rg.val = 2 ^ rg.val := if_pos rg.isLt

theorem regionBit_le (rg : Fin 20) (h : rg.val < 16) : regionBit rg.val ≤ 0xFFFF := by
  rw [regionBit_fin]
  exact (Nat.pow_le_pow_right (by decide) (Nat.le_sub_one_of_lt h)).trans (by decide)

theorem lt_regionBit (rg : Fin 20) (h : 16 ≤ rg.val) : 0xFFFF < regionBit rg.val := by
  rw [regionBit_fin]
  exact Nat.lt_of_lt_of_le (by decide) (Nat.pow_le_pow_right (n := 2) (by decide) h)

theorem regionBit_lt (rg : Fin 20) : regionBit rg.val < 2 ^ 20 := by
  rw [regionBit_fin]
  exact Nat.pow_lt_pow_right (by decide) rg.isLt

theorem regionBit_cleared : ∀ rg : Fin 20, 2 ^ rg.val &&& (allRegions ^^^ regionBit rg.val) = 0 := by decide

theorem State.acceptRec_bulkBegin (s : State) (n rg : Nat) (b : Bool) :
    s.received.acceptRec ⟨n, rg, .bulkBegin, b⟩ = (s.joined ⟨n, rg, .bulkBegin, b⟩).modPair fun p => p.regionBegun rg := rfl
theorem State.acceptRec_bulkEnd (s : State) (n rg : Nat) (b : Bool) :
    s.received.acceptRec ⟨n, rg, .bulkEnd, b⟩ = (s.joined ⟨n, rg, .bulkEnd, b⟩).modPair fun p => p.regionEnded rg := rfl

theorem exec_recBulkBegin (s : State) (seq : Word) (rg : Fin 20) :
    exec (.recBulkBegin seq rg) s = done (s.begin.whenFabric fun u => (u.receiveRec ⟨seq.toNat, rg.val, .bulkBegin, true⟩).roles) := rfl
theorem exec_recBulkEnd (s : State) (seq : Word) (rg : Fin 20) :
    exec (.recBulkEnd seq rg) s = done (s.begin.whenFabric fun u => (u.receiveRec ⟨seq.toNat, rg.val, .bulkEnd, true⟩).roles) := rfl

theorem State.Standing.modPair {s : State} (h : s.Standing) {f : Pair → Pair} (hp : (f s.fab.pair).peer = s.fab.pair.peer) (hf : (f s.fab.pair).failed = s.fab.pair.failed) :
    (s.modPair f).Standing :=
  h.of (State.get_modPair _ _ _) (State.get_modPair _ _ _) (State.get_modPair _ _ _) hp hf

/-- The change of role is told. -/
theorem State.Standing.get_roleChg {s : State} (h : s.Standing) (hup : s.clk.mgmtUp = true) (hheld : s.clk.fabricHeld = false) : s.resyncing.get Evt.TDM_ROLE_CHG.field = 1 := by
  obtain ⟨p, -, hs⟩ := s.syncShown_cases
  rw [h.resyncing_eq, State.get_of_word (State.word_passiveEntry _ (by decide)), hs, State.get_modPair]
  exact State.get_raise_fabric (by rw [State.put_clk]; exact hup) (by rw [State.put_clk]; exact hheld) rfl (by decide) (by decide)

section
variable {s : State} {seq : Word} (hrun : s.fabricRuns = true) (hstr : s.begin.Streams)
include hrun hstr

theorem recBulkBegin_hive : ∀ rg : Fin 20, s.fab.pair.gap = false → seq.toNat = (s.get Fld.TDM_HSEQ_SEQ + 1) % 2 ^ 32 → s.fab.pair.begun = 0 → rg.val < 16 →
    Answers (.recBulkBegin seq rg) s fun t => t.get Fld.TDM_HSEQ_SEQ = seq.toNat ∧ t.fab.pair.openEpoch = s.fab.pair.openEpoch ++ [⟨seq.toNat, rg.val, .bulkBegin, true⟩] ∧
    t.get Fld.TDM_UNKNOWN_REGIONS = 2 ^ rg.val ∧ t.role = 5 ∧ Frame [.pair] [Fld.TDM_HSEQ_SEQ, Fld.TDM_UNKNOWN_REGIONS] s t := by
  intro rg hg hq hb hrg
  have hpair : ((s.begin.joined ⟨seq.toNat, rg.val, .bulkBegin, true⟩).modPair fun p => p.regionBegun rg.val).fab.pair =
      (s.fab.pair.joined ⟨seq.toNat, rg.val, .bulkBegin, true⟩).regionBegun rg.val := by
    rw [State.modPair_fab, State.pair_joined, State.begin_fab]
  have hbegun : ((s.fab.pair.joined ⟨seq.toNat, rg.val, .bulkBegin, true⟩).regionBegun rg.val).begun = regionBit rg.val := by
    show s.fab.pair.begun ||| regionBit rg.val = _
    rw [hb, Nat.zero_or]
  have hstd := (hstr.toStanding.joined (r := ⟨seq.toNat, rg.val, .bulkBegin, true⟩)).modPair (f := fun p => p.regionBegun rg.val) rfl rfl
  refine answers_record (exec_recBulkBegin _ _ _) hrun ((hstr.accepts hq rfl (by simp [hg])).trans (State.acceptRec_bulkBegin _ _ _ _)) hstd (by rw [hpair, hbegun]; exact regionBit_le rg hrg)
    ((Frame.joined s).andModPair _) (by simp) (by simp) (by decide) fun hfr => ⟨?_, ?_, ?_, ?_, hfr⟩
  · rw [State.get_settle _ (by decide), State.get_put_clear _ _ (by decide), State.get_modPair, State.get_hseq_joined (by exact seq.isLt)]
  · rw [State.settle_fab, State.put_fab, hpair]
    rfl
  · rw [State.get_settle _ (by decide), hpair, hbegun, State.get_put_fits _ ⟨by decide, regionBit_lt rg⟩, regionBit_fin]
  · rw [State.role, State.get_settle _ (by decide), State.get_put_clear _ _ (by decide)]
    exact hstd.role

theorem recBulkEnd_hive : ∀ rg : Fin 20, s.fab.pair.gap = false → seq.toNat = (s.get Fld.TDM_HSEQ_SEQ + 1) % 2 ^ 32 → s.fab.pair.begun = 2 ^ rg.val → rg.val < 16 →
    Answers (.recBulkEnd seq rg) s fun t => t.get Fld.TDM_HSEQ_SEQ = seq.toNat ∧ t.fab.pair.openEpoch = s.fab.pair.openEpoch ++ [⟨seq.toNat, rg.val, .bulkEnd, true⟩] ∧
    t.get Fld.TDM_UNKNOWN_REGIONS = 0 ∧ t.fab.pair.begun = 0 ∧ Frame [.pair] [Fld.TDM_HSEQ_SEQ, Fld.TDM_UNKNOWN_REGIONS] s t := by
  intro rg hg hq hb _
  have hpair : ((s.begin.joined ⟨seq.toNat, rg.val, .bulkEnd, true⟩).modPair fun p => p.regionEnded rg.val).fab.pair =
      (s.fab.pair.joined ⟨seq.toNat, rg.val, .bulkEnd, true⟩).regionEnded rg.val := by
    rw [State.modPair_fab, State.pair_joined, State.begin_fab]
  have hbegun : ((s.fab.pair.joined ⟨seq.toNat, rg.val, .bulkEnd, true⟩).regionEnded rg.val).begun = 0 := by
    show s.fab.pair.begun &&& (allRegions ^^^ regionBit rg.val) = _
    rw [hb, regionBit_cleared]
  have hstd := (hstr.toStanding.joined (r := ⟨seq.toNat, rg.val, .bulkEnd, true⟩)).modPair (f := fun p => p.regionEnded rg.val) rfl rfl
  refine answers_record (exec_recBulkEnd _ _ _) hrun ((hstr.accepts hq rfl (by simp [hg])).trans (State.acceptRec_bulkEnd _ _ _ _)) hstd (by rw [hpair, hbegun]; decide)
    ((Frame.joined s).andModPair _) (by simp) (by simp) (by decide) fun hfr => ⟨?_, ?_, ?_, ?_, hfr⟩
  · rw [State.get_settle _ (by decide), State.get_put_clear _ _ (by decide), State.get_modPair, State.get_hseq_joined (by exact seq.isLt)]
  · rw [State.settle_fab, State.put_fab, hpair]
    rfl
  · rw [State.get_settle _ (by decide), hpair, hbegun, State.get_put_fits _ (Field.fits_of rfl)]
  · rw [State.settle_fab, State.put_fab, hpair, hbegun]

/-- With a region past those of the hives unknown the standby synchronizes anew (R328). -/
theorem recBulkBegin_sync : ∀ rg : Fin 20, s.fab.pair.gap = false → seq.toNat = (s.get Fld.TDM_HSEQ_SEQ + 1) % 2 ^ 32 → s.fab.pair.begun = 0 → 16 ≤ rg.val →
    Answers (.recBulkBegin seq rg) s fun t =>
    t.get Fld.TDM_HSEQ_SEQ = seq.toNat ∧ t.fab.pair.openEpoch = s.fab.pair.openEpoch ++ [⟨seq.toNat, rg.val, .bulkBegin, true⟩] ∧ t.get Fld.TDM_UNKNOWN_REGIONS = 2 ^ rg.val ∧
    t.role = 4 ∧ t.get Evt.TDM_ROLE_CHG.field = 1 ∧ Frame [.pair, .fab] ([Fld.TDM_HSEQ_SEQ, Fld.TDM_UNKNOWN_REGIONS, Fld.TDM_ROLE_STATE, Evt.TDM_ROLE_CHG.field] ++ logFields) s t := by
  intro rg hg hq hb hrg
  obtain ⟨hup, hheld, -⟩ := State.fabricRuns_iff.mp hrun
  obtain ⟨x, hxe⟩ : ∃ x, x = (s.begin.joined ⟨seq.toNat, rg.val, .bulkBegin, true⟩).modPair fun p => p.regionBegun rg.val := ⟨_, rfl⟩
  have hpair : x.fab.pair = (s.fab.pair.joined ⟨seq.toNat, rg.val, .bulkBegin, true⟩).regionBegun rg.val := by
    rw [hxe, State.modPair_fab, State.pair_joined, State.begin_fab]
  have hbegun : x.fab.pair.begun = regionBit rg.val := by
    rw [hpair]
    show s.fab.pair.begun ||| regionBit rg.val = _
    rw [hb, Nat.zero_or]
  have hstd : x.Standing := by
    rw [hxe]
    exact (hstr.toStanding.joined (r := ⟨seq.toNat, rg.val, .bulkBegin, true⟩)).modPair (f := fun p => p.regionBegun rg.val) rfl rfl
  have hseq : x.get Fld.TDM_HSEQ_SEQ = seq.toNat := by
    rw [hxe, State.get_modPair, State.get_hseq_joined (by exact seq.isLt)]
  have hclk : x.clk = s.clk := by rw [hxe, State.modPair_clk, State.joined, State.modPair_clk, State.put_clk, State.begin_clk]
  have hx : s.begin.receiveRec ⟨seq.toNat, rg.val, .bulkBegin, true⟩ = x := by
    rw [hstr.accepts hq rfl (by simp [hg]), State.acceptRec_bulkBegin, hxe]
  have hkeep := hstd.resyncKeeps
  have hroles : x.roles = x.resyncing.put Fld.TDM_UNKNOWN_REGIONS (regionBit rg.val) := by
    rw [hstd.roles_sync (by rw [hbegun]; exact lt_regionBit rg hrg), hbegun]
  have hfr : Frame [.pair, .fab] ([Fld.TDM_HSEQ_SEQ, Fld.TDM_UNKNOWN_REGIONS, Fld.TDM_ROLE_STATE, Evt.TDM_ROLE_CHG.field] ++ logFields) s
      (x.resyncing.put Fld.TDM_UNKNOWN_REGIONS (regionBit rg.val)) := by
    rw [hstd.resyncing_eq]
    refine Frame.andPut (Frame.andPassiveEntry (Frame.andSyncShown ?_ (by simp) (by simp) (by simp)) (by simp) fun g hg => List.mem_append_right _ hg) _ (by simp)
    rw [hxe]
    exact (((Frame.begin s).andPut _ (by simp)).andModPair _).andModPair _
  have hregion : ∀ g ∈ [Fld.TDM_HSEQ_SEQ, Fld.TDM_UNKNOWN_REGIONS, Fld.TDM_ROLE_STATE, Evt.TDM_ROLE_CHG.field] ++ logFields, regionOf g.addr = none := fun g hg => by
    rcases List.mem_append.mp hg with hg | hg
    · exact (by decide : ∀ g ∈ [Fld.TDM_HSEQ_SEQ, Fld.TDM_UNKNOWN_REGIONS, Fld.TDM_ROLE_STATE, Evt.TDM_ROLE_CHG.field], regionOf g.addr = none) g hg
    · rw [regionOf, mem_logFields hg]
      rfl
  refine answers_fabric (exec_recBulkBegin _ _ _) hrun (by rw [hx, hroles]) hfr ?_ hregion fun hfr => ⟨?_, ?_, ?_, ?_, ?_, hfr⟩
  · rw [State.put_fab, hkeep.home, hxe, State.modPair_fab, State.joined, State.modPair_fab, State.put_fab, State.begin_fab]
  · rw [State.get_settle _ (by decide), State.get_put_clear _ _ (by decide), State.get_of_word (hkeep.word _ (by decide) (by decide) (by decide)), hseq]
  · rw [State.settle_fab, State.put_fab, hkeep.openEpoch, hpair]
    rfl
  · rw [State.get_settle _ (by decide), State.get_put_fits _ ⟨by decide, regionBit_lt rg⟩, regionBit_fin]
  · rw [State.role, State.get_settle _ (by decide), State.get_put_clear _ _ (by decide)]
    exact hkeep.role
  · rw [State.get_settle _ (by decide), State.get_put_clear _ _ (by decide)]
    exact hstd.get_roleChg (by rw [hclk]; exact hup) (by rw [hclk]; exact hheld)

end

/-! ### Records that are not taken (R323) -/

section
variable {s : State}

theorem State.get_resendAsked (g : Field) : s.resendAsked.get g = s.get g := by
  rw [State.resendAsked, State.get_count, State.get_emit, State.get_modPair, State.get_sendFrames]

theorem State.get_gapTold {g : Field} (h : g.clearOf Evt.TDM_GAP.field = true) : s.gapTold.get g = s.get g := by
  rw [State.gapTold, State.get_modPair, State.get_count, State.get_raise_clear _ h]

theorem State.pair_gapTold_resendAsked : s.gapTold.resendAsked.fab.pair = s.fab.pair.asked := by
  simp [State.resendAsked, State.gapTold, State.sendFrames, Pair.asked]

theorem State.out_resendAsked : s.resendAsked.out = s.out ++ [.ackRec false ((s.get Fld.TDM_HSEQ_SEQ + 1) % 2 ^ 32) 0] := by
  simp [State.resendAsked]

theorem State.Standing.gapAsked (h : s.Standing) : s.gapTold.resendAsked.Standing := by
  have hget : ∀ {g : Field}, g.clearOf Evt.TDM_GAP.field = true → s.gapTold.resendAsked.get g = s.get g := fun hg => (State.get_resendAsked _).trans (State.get_gapTold hg)
  exact h.of (hget (by decide)) (hget (by decide)) (hget (by decide)) (by rw [State.pair_gapTold_resendAsked]; rfl) (by rw [State.pair_gapTold_resendAsked]; rfl)

theorem Frame.andResendAsked {ps : List Part} {fs : List Field} {t : State} (h : Frame ps fs s t) (hp : Part.pair ∈ ps := by simp) (hc : Part.ctrs ∈ ps := by simp)
    (ho : Part.out ∈ ps := by simp) : Frame ps fs s t.resendAsked :=
  (((((h.andModPair _ hp).andCount _ _ hc).andCount _ _ hc).andModPair _ hp).andEmit _ ho).andCount _ _ hc

end

section
variable {s : State} {seq : Word} (hrun : s.fabricRuns = true) (hstr : s.begin.Streams)
include hrun hstr

/-- A record that is not taken changes neither R nor the open epoch nor what it waits for. -/
theorem recReg_dropped (rg : Fin 20) (a : Word) (ws : List Word) (hb : s.fab.pair.begun = 0)
    (hx : s.begin.receiveRec ⟨seq.toNat, rg.val, .reg a.toNat (ws.map fun w => w.toNat), true⟩ = s.begin.received) :
    Answers (.recReg seq rg a ws) s fun t => t.get Fld.TDM_HSEQ_SEQ = s.get Fld.TDM_HSEQ_SEQ ∧ t.fab.pair.gap = s.fab.pair.gap ∧ t.fab.pair.openEpoch = s.fab.pair.openEpoch ∧
    Frame [.pair] [Fld.TDM_UNKNOWN_REGIONS] s t := by
  have hpair : s.begin.received.fab.pair = { s.fab.pair with restartIn := false } := by rw [State.received, State.modPair_fab, State.begin_fab]
  refine answers_record (exec_recReg _ _ _ _ _) hrun hx (hstr.toStanding.modPair rfl rfl) (by rw [hpair]; exact hb ▸ Nat.zero_le _) ((Frame.begin s).andModPair _) (by simp) (by simp)
    (by decide) fun hfr => ⟨?_, ?_, ?_, hfr⟩
  · rw [State.get_settle _ (by decide), State.get_put_clear _ _ (by decide), State.received, State.get_modPair, State.get_begin]
  · rw [State.settle_fab, State.put_fab, hpair]
  · rw [State.settle_fab, State.put_fab, hpair]

/-- A record at or below R is discarded. -/
theorem recReg_below : ∀ rg : Fin 20, ∀ a : Word, ∀ ws : List Word, s.fab.pair.begun = 0 → seq.toNat ≠ (s.get Fld.TDM_HSEQ_SEQ + 1) % 2 ^ 32 →
    seqAfter seq.toNat ((s.get Fld.TDM_HSEQ_SEQ + 1) % 2 ^ 32) = false → Answers (.recReg seq rg a ws) s fun t => t.get Fld.TDM_HSEQ_SEQ = s.get Fld.TDM_HSEQ_SEQ ∧
    t.fab.pair.openEpoch = s.fab.pair.openEpoch ∧ Frame [.pair] [Fld.TDM_UNKNOWN_REGIONS] s t := by
  intro rg a ws hb hne hold
  have hne' : (seq.toNat == (s.begin.get Fld.TDM_HSEQ_SEQ + 1) % 2 ^ 32) = false := beq_eq_false_iff_ne.mpr hne
  have hold' : seqAfter seq.toNat ((s.begin.get Fld.TDM_HSEQ_SEQ + 1) % 2 ^ 32) = false := hold
  obtain ⟨t, he, h1, -, h2, h3⟩ := recReg_dropped hrun hstr rg a ws hb (by
    rw [hstr.receiveRec seq.isLt rfl, hne', hold', Bool.and_false]
    simp only [Bool.false_eq_true, if_false, ite_self])
  exact ⟨t, he, h1, h2, h3⟩

/-- While a gap waits for its RESTART nothing is taken. -/
theorem recReg_waiting : ∀ rg : Fin 20, ∀ a : Word, ∀ ws : List Word, s.fab.pair.gap = true → s.fab.pair.restartIn = false → s.fab.pair.begun = 0 →
    Answers (.recReg seq rg a ws) s fun t => t.get Fld.TDM_HSEQ_SEQ = s.get Fld.TDM_HSEQ_SEQ ∧ t.fab.pair.gap = true ∧ t.fab.pair.openEpoch = s.fab.pair.openEpoch ∧
    Frame [.pair] [Fld.TDM_UNKNOWN_REGIONS] s t := by
  intro rg a ws hg hre hb
  have hg' : s.begin.fab.pair.gap = true := hg
  have hre' : s.begin.fab.pair.restartIn = false := hre
  rw [← hg]
  exact recReg_dropped hrun hstr rg a ws hb (by rw [hstr.receiveRec seq.isLt rfl, if_pos hg', hre', Bool.false_and, if_neg Bool.false_ne_true])

/-- A record beyond R + 1 is a gap, and the missing records are requested. -/
theorem recReg_beyond : ∀ rg : Fin 20, ∀ a : Word, ∀ ws : List Word, s.fab.pair.gap = false → s.fab.pair.begun = 0 → s.fab.pair.ackDue = false →
    seqAfter seq.toNat ((s.get Fld.TDM_HSEQ_SEQ + 1) % 2 ^ 32) = true → s.fab.pair.hasCredit 1 = true → s.fab.pair.reqDue = false → s.fab.pair.journal = [] →
    Answers (.recReg seq rg a ws) s fun t => t.get Evt.TDM_GAP.field = 1 ∧ t.fab.pair.gap = true ∧ t.get Fld.TDM_HSEQ_SEQ = s.get Fld.TDM_HSEQ_SEQ ∧
    t.fab.pair.openEpoch = s.fab.pair.openEpoch ∧ t.out = [.ackRec false ((s.get Fld.TDM_HSEQ_SEQ + 1) % 2 ^ 32) 0] ∧
    Frame [.pair, .ctrs, .out] [Fld.TDM_UNKNOWN_REGIONS, Evt.TDM_GAP.field] s t := by
  intro rg a ws hg hb ha hgap hc _ hj
  obtain ⟨hup, hheld, -⟩ := State.fabricRuns_iff.mp hrun
  have hg' : ¬ s.begin.fab.pair.gap = true := by rw [State.begin_fab, hg]; exact Bool.false_ne_true
  have hgap' : seqAfter seq.toNat ((s.begin.get Fld.TDM_HSEQ_SEQ + 1) % 2 ^ 32) = true := hgap
  have hne : (seq.toNat == (s.begin.get Fld.TDM_HSEQ_SEQ + 1) % 2 ^ 32) = false := beq_eq_false_iff_ne.mpr fun h => by
    rw [← h] at hgap'
    simp [seqAfter] at hgap'
  have hsend : s.begin.received.canSend 1 = true := State.canSend_one hstr.up hstr.version (Nat.lt_of_succ_le (of_decide_eq_true hc))
  have hx : s.begin.receiveRec ⟨seq.toNat, rg.val, .reg a.toNat (ws.map fun w => w.toNat), true⟩ = s.begin.received.gapTold.resendAsked := by
    rw [hstr.receiveRec seq.isLt rfl, if_neg hg', hne, if_neg Bool.false_ne_true, if_pos hgap']
    exact State.gapSeen_asked (s := s.begin.received) hj ha hsend
  have hpair : s.begin.received.gapTold.resendAsked.fab.pair = ({ s.fab.pair with restartIn := false } : Pair).asked := by
    rw [State.pair_gapTold_resendAsked, State.received, State.modPair_fab, State.begin_fab]
  have hseq : s.begin.received.gapTold.get Fld.TDM_HSEQ_SEQ = s.get Fld.TDM_HSEQ_SEQ := State.get_gapTold (by decide)
  have hfr : Frame [.pair, .ctrs, .out] [Fld.TDM_UNKNOWN_REGIONS, Evt.TDM_GAP.field] s s.begin.received.gapTold.resendAsked :=
    ((((Frame.begin s).andModPair _).andRaise.andCount _ _).andModPair _).andResendAsked
  refine answers_record (exec_recReg _ _ _ _ _) hrun hx (hstr.toStanding.modPair rfl rfl).gapAsked (by rw [hpair]; exact hb ▸ Nat.zero_le _) hfr (by simp) (by simp) (by decide)
    fun hfr => ⟨?_, ?_, ?_, ?_, ?_, hfr⟩
  · rw [State.get_settle _ (by decide), State.get_put_clear _ _ (by decide), State.get_resendAsked, State.gapTold, State.get_modPair, State.get_count]
    exact State.get_raise_fabric (s := s.begin.received) hup hheld rfl (by decide) (by decide)
  · rw [State.settle_fab, State.put_fab, hpair]
    rfl
  · rw [State.get_settle _ (by decide), State.get_put_clear _ _ (by decide), State.get_resendAsked, hseq]
  · rw [State.settle_fab, State.put_fab, hpair]
    rfl
  · rw [State.settle_out, State.put_out, State.out_resendAsked, hseq]
    simp [State.gapTold, State.received]

/-- A RESEND that found no answer is repeated. -/
theorem resendRepeat_gap : s.fab.pair.gap = true → s.fab.pair.ackDue = false → s.fab.pair.hasCredit 1 = true → s.fab.pair.journal = [] → Answers .resendRepeat s fun t =>
    t.out = [.ackRec false ((s.get Fld.TDM_HSEQ_SEQ + 1) % 2 ^ 32) 0] ∧ t.counter (Ctr.PAIR 1 4) = s.counter (Ctr.PAIR 1 4) + 1 ∧ Frame [.pair, .ctrs, .out] [] s t := by
  intro hg ha hc hj
  have hsb : (s.begin.isStandby && s.begin.fab.pair.gap) = true := by
    have hgap : s.begin.fab.pair.gap = true := hg
    rw [State.isStandby, hstr.role, hgap]
    rfl
  have hsend : (s.begin.modPair fun p => { p with reqDue := true }).canSend 1 = true := State.canSend_one hstr.up hstr.version (Nat.lt_of_succ_le (of_decide_eq_true hc))
  have hpump := State.pump_request (s := s.begin.modPair fun p => { p with reqDue := true }) hj ha rfl hsend
  have hfr : Frame [.pair, .ctrs, .out] [] s (s.begin.modPair fun p => { p with reqDue := true }).resendAsked := ((Frame.begin s).andModPair _).andResendAsked
  refine answers_fabric rfl hrun ((if_pos hsb).trans hpump) hfr (hfr.home_dir (by simp)) (by decide) fun hfr => ⟨?_, ?_, hfr⟩
  · rw [State.settle_out, State.out_resendAsked]
    simp
  · rw [State.counter_settle, State.resendAsked, State.counter_count_same, State.counter_emit, State.counter_modPair, State.counter_sendFrames _ _ (by decide) (by decide),
      State.counter_modPair, State.counter_begin]
    rfl

omit hstr in
theorem resendRepeat_still : s.fab.pair.gap = false → Answers .resendRepeat s fun t => Frame [] [] s t := by
  intro hg
  have hno : ¬ (s.begin.isStandby && s.begin.fab.pair.gap) = true := by
    have hgap : s.begin.fab.pair.gap = false := hg
    rw [hgap, Bool.and_false]
    exact Bool.false_ne_true
  exact answers_fabric rfl hrun (if_neg hno) (Frame.begin s) rfl (by decide) fun hfr => hfr

end

theorem recPad_skipped (s : State) : Answers .recPad s fun t => Frame [] [] s t := answers_done rfl (Frame.begin s).settle

end Sys2Proof.Machine
end

section
/-! PROOFS. What a standby does with the record that closes an epoch (O42, R320, R321, R326). -/
namespace Sys2Proof.Machine
open Sys2Proof
set_option Elab.async false

/-! ### A standby that may answer (R313, R321) -/

/-- A standby that has a credit for its answer, nothing else to send and no record to apply. -/
structure State.Answering (s : State) : Prop extends s.Streams where
  credit : s.fab.pair.hasCredit 1 = true
  asked : s.fab.pair.reqDue = false
  journal : s.fab.pair.journal = []
  empty : s.fab.pair.openEpoch = []

/-- The pair with an epoch applied. -/
def Pair.applied (p : Pair) (m : Nat) : Pair := { p with mepoch := m }

theorem State.Answering.of {s t : State} (h : s.Answering) (hw : ∀ a, a / 0x10000 = 8 ∨ a / 0x10000 = 0xA0 → t.word a = s.word a) {m : Nat} (hp : t.fab.pair = s.fab.pair.applied m) :
    t.Answering := by
  have hget : ∀ g : Field, g.addr / 0x10000 = 8 ∨ g.addr / 0x10000 = 0xA0 → t.get g = s.get g := fun g hg => State.get_of_word (hw _ hg)
  refine ⟨⟨h.toStanding.of (hget _ (by decide)) (hget _ (by decide)) (hget _ (by decide)) (by rw [hp]; rfl) (by rw [hp]; rfl), (hget _ (by decide)).trans h.up, ?_, ?_⟩, ?_, ?_, ?_, ?_⟩
  · rw [hget _ (by decide)]
    exact h.version
  · rw [hp]
    exact h.taken
  · rw [hp]
    exact h.credit
  · rw [hp]
    exact h.asked
  · rw [hp]
    exact h.journal
  · rw [hp]
    exact h.empty

/-- The open epoch is taken out to be applied. -/
def State.emptied (s : State) (r : Rec) : State := (s.joined r).modPair fun p => { p with openEpoch := [] }

theorem State.Streams.answering {s : State} {r : Rec} (h : s.Streams) (hc : s.fab.pair.hasCredit 1 = true) (hj : s.fab.pair.journal = []) : (s.emptied r).Answering := by
  have hget : ∀ {g : Field}, g.clearOf Fld.TDM_HSEQ_SEQ = true → (s.emptied r).get g = s.get g := fun hg => (State.get_modPair _ _ _).trans (State.get_joined hg)
  have hp : (s.emptied r).fab.pair = { s.fab.pair.joined r with openEpoch := [] } := by rw [State.emptied, State.modPair_fab, State.pair_joined]
  refine ⟨⟨h.toStanding.joined.modPair rfl rfl, (hget (by decide)).trans h.up, ?_, ?_⟩, ?_, ?_, ?_, ?_⟩
  · rw [hget (by decide)]
    exact h.version
  · rw [hp]
    rfl
  · rw [hp]
    exact hc
  · rw [hp]
    rfl
  · rw [hp]
    exact hj
  · rw [hp]

/-! ### The records of an epoch (R320) -/

/-- The EPOCH record applied. -/
def State.closed (s : State) (m : Nat) : State := (s.count (Ctr.PAIR 1 2)).modPair fun p => p.applied m

theorem State.applyRec_epoch (s : State) (n rg m x : Nat) (b : Bool) : s.applyRec false ⟨n, rg, .epoch m x, b⟩ = s.closed m := rfl

theorem State.Answering.setWord {s : State} (h : s.Answering) {a : Nat} (w : Word) (ha : 0x600 ≤ a / 0x10000) : (s.setWord a w).Answering :=
  h.of (m := s.fab.pair.mepoch) (fun b hb => State.word_setWord_other _ _ (by rintro rfl; omega)) rfl
theorem State.Answering.count {s : State} (h : s.Answering) (c n : Nat) : (s.count c n).Answering := h.of (m := s.fab.pair.mepoch) (fun _ _ => rfl) rfl
theorem State.Answering.modHome {s : State} (h : s.Answering) (f : Home → Home) : (s.modHome f).Answering := h.of (m := s.fab.pair.mepoch) (fun _ _ => rfl) rfl

theorem State.Answering.closed {s : State} (h : s.Answering) (m : Nat) : (s.closed m).Answering := h.of (fun _ _ => rfl) (m := m) rfl

theorem State.counter_closed (s : State) (m : Nat) : (s.closed m).counter (Ctr.PAIR 1 2) = s.counter (Ctr.PAIR 1 2) + 1 := by
  rw [State.closed, State.counter_modPair, State.counter_count_same]
  rfl

/-- One word of region 16 written, as a REG record tells. -/
theorem State.applyRec_word {s : State} {a : Nat} (w sq : Nat) (h : 0x600 ≤ a / 0x10000 ∧ a / 0x10000 ≤ 0x605) :
    s.applyRec false ⟨sq, 16, .reg a [w], true⟩ = (s.count (Ctr.PAIR 1 2)).setWord a (BitVec.ofNat 32 w) := by
  have hr : regionOf a = some 16 := by
    have h70 : ¬ a / 0x10000 = 0x70 := by omega
    have hsub : (decide (0x600 ≤ a / 0x10000) && decide (a / 0x10000 ≤ 0x605)) = true := by simp [h]
    rw [regionOf, if_neg h70, if_pos hsub]
  show (s.count (Ctr.PAIR 1 2)).applyRegs a [w] = _
  rw [State.applyRegs, hr]
  rfl

/-- An entry of a directory written, as a DIR record tells. -/
theorem State.applyRec_entry (s : State) (sq hv x : Nat) (e : DirEntry) : s.applyRec false ⟨sq, hv, .dir hv x (some e), true⟩ =
    (s.count (Ctr.PAIR 1 2)).modHome fun o => { o with dir := assocPut o.dir (dirKey hv x) { e := e, onDie := !(s.count (Ctr.PAIR 1 2)).hasBuckets hv, stamp := 0 } } := rfl

/-! ### The epoch is acknowledged (R321) -/

/-- What follows the records of an epoch: lost hosts, and the acknowledgement. -/
def State.epochTaken (s : State) (n : Nat) : State := ((s.updateReach.put Fld.TDM_ACKSEQ_SEQ n).modPair fun p => { p with ackDue := true }).pump

theorem State.acceptRec_epoch (s : State) (n rg m x : Nat) (b : Bool) : s.received.acceptRec ⟨n, rg, .epoch m x, b⟩ =
    ((s.joined ⟨n, rg, .epoch m x, b⟩).fab.pair.openEpoch.foldl (State.applyRec false) (s.emptied ⟨n, rg, .epoch m x, b⟩)).epochTaken n := rfl

/-- The acknowledgement goes out where a credit is left. -/
def State.ackSent (s : State) : State := ((s.sendFrames 1).modPair fun p => { p with ackDue := false }).emit (.ackRec true (s.get Fld.TDM_ACKSEQ_SEQ) s.fab.pair.mepoch)

theorem State.word_ackSent (s : State) (a : Nat) : s.ackSent.word a = s.word a := rfl
theorem State.ackSent_home (s : State) : s.ackSent.fab.home = s.fab.home := rfl

theorem State.pump_ack {s : State} (hj : s.fab.pair.journal = []) (ha : s.fab.pair.ackDue = true) (hr : s.fab.pair.reqDue = false) (hc : s.canSend 1 = true) : s.pump = s.ackSent := by
  simp [State.pump, ha, hr, hc, hj, State.sendFrames, State.pumpRecords, State.ackSent]

/-- The epoch of s is acknowledged up to n. -/
structure State.Acked (s t : State) (n : Nat) : Prop where
  ack : t.get Fld.TDM_ACKSEQ_SEQ = n
  hseq : t.get Fld.TDM_HSEQ_SEQ = s.get Fld.TDM_HSEQ_SEQ
  mepoch : t.fab.pair.mepoch = s.fab.pair.mepoch
  openEpoch : t.fab.pair.openEpoch = s.fab.pair.openEpoch
  out : .ackRec true n s.fab.pair.mepoch ∈ t.out
  counter : t.counter (Ctr.PAIR 1 2) = s.counter (Ctr.PAIR 1 2)
  word : ∀ a, 0x600 ≤ a / 0x10000 ∧ a / 0x10000 ≤ 0x605 → t.word a = s.word a
  dir : s.fab.pair.unreachable = [] → s.pidsInUse = [] → t.fab.home.dir = s.fab.home.dir

/-- With no PID in use no host is lost. -/
theorem State.updateReach_unused {s : State} (h : s.fab.pair.unreachable = []) (hp : s.pidsInUse = []) : s.updateReach = s.modPair fun p => p.seen [] := by
  unfold State.updateReach
  rw [h, hp]
  rfl

theorem mem_sparsePut {α : Type} [DecidableEq α] {d : Nat → α} {m : List (Nat × α)} {a : Nat} {x : α} {e : Nat × α} (h : e ∈ sparsePut d m a x) : e = (a, x) ∨ e ∈ m := by
  unfold sparsePut at h
  split at h
  · exact .inr (List.mem_filter.mp h).1
  · exact mem_assocPut _ _ _ _ h

/-- A register outside the routes of PIDs brings no PID into use. -/
theorem State.pidsInUse_put {s : State} {f : Field} {v : Nat} (h : s.pidsInUse = []) (hf : ¬ (Addr.SWARM_RT 0 ≤ f.addr ∧ f.addr ≤ Addr.SWARM_RT 4095)) : (s.put f v).pidsInUse = [] := by
  refine List.filterMap_eq_nil_iff.mpr fun x hx => ?_
  rcases mem_sparsePut hx with rfl | hx
  · exact if_neg fun hn => hf ⟨hn.1, hn.2.1⟩
  · exact List.filterMap_eq_nil_iff.mp h x hx

theorem State.Answering.epochTaken {s : State} (h : s.Answering) {n : Nat} (hn : n < 2 ^ 32) : (s.epochTaken n).Standing ∧ s.Acked (s.epochTaken n) n := by
  obtain ⟨z, hz⟩ : ∃ z, z = (s.updateReach.put Fld.TDM_ACKSEQ_SEQ n).modPair fun p => { p with ackDue := true } := ⟨_, rfl⟩
  have hsp := s.spares_updateReach
  have hpair : z.fab.pair = { s.fab.pair.seen (s.pidsInUse.filter fun i => !s.pidReachable i) with ackDue := true } := by
    rw [hz, State.modPair_fab, State.put_fab, hsp.pair trivial]
    rfl
  have hword : ∀ a, Kept.standby.addr a → a ≠ Addr.TDM_ACKSEQ → z.word a = s.word a := fun a ha hne => by
    rw [hz, State.word_modPair, State.word_put_other (f := Fld.TDM_ACKSEQ_SEQ) _ _ hne, hsp.word a ha, State.word_modPair]
  have hget : ∀ g : Field, (g.addr / 0x10000 = 8 ∨ g.addr / 0x10000 = 0xA0) ∧ g.addr ≠ Addr.TDM_ACKSEQ → z.get g = s.get g := fun g hg =>
    State.get_of_word (hword _ (hg.1.imp_right .inl) hg.2)
  have hack : z.get Fld.TDM_ACKSEQ_SEQ = n := by
    rw [hz, State.get_modPair, State.get_put_fits _ ⟨by decide, hn⟩]
  have hsend : z.canSend 1 = true := by
    rw [State.canSend, hget _ (by decide), hget _ (by decide), hpair, h.up, bne_iff_ne.mpr h.version]
    exact h.credit
  have heq : s.epochTaken n = z.ackSent := by
    rw [State.epochTaken, ← hz]
    exact State.pump_ack (by rw [hpair]; exact h.journal) (by rw [hpair]) (by rw [hpair]; exact h.asked) hsend
  have hgot : ∀ g : Field, z.ackSent.get g = z.get g := fun g => by rw [State.ackSent, State.get_emit, State.get_modPair, State.get_sendFrames]
  have hsent : z.ackSent.fab.pair = { z.fab.pair with sent := (z.fab.pair.sent + 1) % 65536, ackDue := false } := by simp [State.ackSent]
  rw [heq]
  refine ⟨h.toStanding.of ?_ ?_ ?_ ?_ ?_, ?_, ?_, ?_, ?_, ?_, ?_, fun a ha => ?_, fun hu hp => ?_⟩
  · rw [hgot, hget _ (by decide)]
  · rw [hgot, hget _ (by decide)]
  · rw [hgot, hget _ (by decide)]
  · rw [hsent, hpair]
    rfl
  · rw [hsent, hpair]
    rfl
  · rw [hgot, hack]
  · rw [hgot, hget _ (by decide)]
  · rw [hsent, hpair]
    rfl
  · rw [hsent, hpair]
    rfl
  · rw [State.ackSent, hack, hpair]
    exact List.mem_append_right _ List.mem_cons_self
  · rw [State.ackSent, State.counter_emit, State.counter_modPair, State.counter_sendFrames _ _ (by decide) (by decide), hz, State.counter_modPair, State.counter_put,
      hsp.counter _ rfl, State.counter_modPair]
  · refine (State.word_ackSent z a).trans (hword a (.inr (.inr ha)) fun h => ?_)
    rw [h] at ha
    revert ha
    decide
  · rw [State.updateReach_unused hu hp] at hz
    rw [State.ackSent_home, hz, State.modPair_fab, State.put_fab, State.modPair_fab]

/-! ### Answers to the record that closes an epoch -/

theorem exec_recEpoch (s : State) (seq me : Word) (tm : Word64) :
    exec (.recEpoch seq me tm) s = done (s.begin.whenFabric fun u => (u.receiveRec ⟨seq.toNat, 20, .epoch me.toNat tm.toNat, true⟩).roles) := rfl

/-- The roles and the copies of the tiles leave what the epoch shows. -/
theorem State.Acked.shown {w y : State} {n : Nat} (h : w.Acked y n) (hy : y.Standing) (old : State) : w.Acked (y.roles.mirror old).settle n := by
  have hr := hy.rolesKeep
  obtain ⟨l, hl⟩ := State.mirror_passive old hr.passive
  have hword : ∀ a, a ≠ 0x40040 ∧ a ≠ Addr.TDM_ROLE ∧ a ≠ Addr.TDM_UNKNOWN ∧ a ≠ evtPendAddr 0xA0 ∧ a / 0x10000 ≠ 0x91 → (y.roles.mirror old).settle.word a = y.word a :=
    fun a ⟨h1, h2, h3, h4, h5⟩ => by rw [State.word_settle _ h1, ← hr.word a h2 h3 h4 h5, hl]; rfl
  have hfab : (y.roles.mirror old).settle.fab = { y.roles.fab with lag := l } := by rw [State.settle_fab, hl]
  refine ⟨?_, ?_, ?_, ?_, ?_, ?_, fun a ha => ?_, fun hu hp => ?_⟩
  · exact (State.get_of_word (hword _ (by decide))).trans h.ack
  · exact (State.get_of_word (hword _ (by decide))).trans h.hseq
  · rw [hfab]
    exact hr.mepoch.trans h.mepoch
  · rw [hfab]
    exact hr.openEpoch.trans h.openEpoch
  · rw [State.settle_out, hl]
    exact hr.out ▸ h.out
  · rw [State.counter_settle, hl]
    exact (State.counter_congr hr.ctrs _).trans h.counter
  · refine (hword a ⟨?_, ?_, ?_, ?_, by omega⟩).trans (h.word a ha) <;>
    · rintro rfl
      revert ha
      decide
  · rw [hfab]
    exact (congrArg Home.dir hr.home).trans (h.dir hu hp)

section
variable {s : State} {seq : Word} (hrun : s.fabricRuns = true) (hstr : s.begin.Streams)
include hrun hstr

/-- The next EPOCH record applies the open epoch and is acknowledged. -/
theorem answers_epoch {me : Word} {tm : Word64} {w : State} {P : State → Prop} (hg : s.fab.pair.gap = false) (hq : seq.toNat = (s.get Fld.TDM_HSEQ_SEQ + 1) % 2 ^ 32)
    (hw : s.fab.pair.openEpoch.foldl (State.applyRec false) (s.begin.emptied ⟨seq.toNat, 20, .epoch me.toNat tm.toNat, true⟩) = w) (hans : w.Answering)
    (h : ∀ t : State, (w.closed me.toNat).Acked t seq.toNat → P t) : Answers (.recEpoch seq me tm) s P := by
  have hopen : (s.begin.joined ⟨seq.toNat, 20, .epoch me.toNat tm.toNat, true⟩).fab.pair.openEpoch = s.fab.pair.openEpoch ++ [⟨seq.toNat, 20, .epoch me.toNat tm.toNat, true⟩] := by
    rw [State.pair_joined]
    rfl
  have hx : s.begin.receiveRec ⟨seq.toNat, 20, .epoch me.toNat tm.toNat, true⟩ = (w.closed me.toNat).epochTaken seq.toNat := by
    rw [hstr.accepts hq rfl (by simp [hg]), State.acceptRec_epoch, hopen, List.foldl_append, hw]
    rfl
  obtain ⟨hstd, hacked⟩ := (hans.closed me.toNat).epochTaken seq.isLt
  refine answers_of_eq ((exec_recEpoch _ _ _ _).trans (done_whenFabric _ hrun)) (h _ ?_)
  rw [hx]
  exact hacked.shown hstd s.begin

theorem recEpoch_empty : ∀ me : Word, ∀ tm : Word64, s.fab.pair.gap = false → seq.toNat = (s.get Fld.TDM_HSEQ_SEQ + 1) % 2 ^ 32 → s.fab.pair.hasCredit 1 = true →
    s.fab.pair.reqDue = false → s.fab.pair.journal = [] → s.fab.pair.openEpoch = [] → Answers (.recEpoch seq me tm) s fun t => t.get Fld.TDM_HSEQ_SEQ = seq.toNat ∧
    t.get Fld.TDM_ACKSEQ_SEQ = seq.toNat ∧ t.fab.pair.mepoch = me.toNat ∧ t.fab.pair.openEpoch = [] ∧ (.ackRec true seq.toNat me.toNat ∈ t.out) ∧
    t.counter (Ctr.PAIR 1 2) = s.counter (Ctr.PAIR 1 2) + 1 := by
  intro me tm hg hq hc _ hj ho
  have hans := hstr.answering (r := ⟨seq.toNat, 20, .epoch me.toNat tm.toNat, true⟩) hc hj
  refine answers_epoch hrun hstr hg hq (by rw [ho]; rfl) hans fun t ht => ⟨?_, ht.ack, ht.mepoch, ht.openEpoch.trans hans.empty, ht.out, ?_⟩
  · exact ht.hseq.trans (State.get_hseq_joined (s := s.begin) seq.isLt)
  · rw [ht.counter, State.counter_closed, State.emptied, State.joined, State.counter_modPair, State.counter_modPair, State.counter_put, State.counter_begin]

/-- A REG record of the epoch writes its word. -/
theorem recEpoch_word : ∀ me : Word, ∀ tm : Word64, ∀ sq : Nat, ∀ a : Nat, ∀ w : Nat, s.fab.pair.gap = false → seq.toNat = (s.get Fld.TDM_HSEQ_SEQ + 1) % 2 ^ 32 →
    s.fab.pair.hasCredit 1 = true → s.fab.pair.reqDue = false → s.fab.pair.journal = [] → s.fab.pair.openEpoch = [⟨sq, 16, .reg a [w], true⟩] → 0x6000000 ≤ a → a < 0x6060000 →
    4 ∣ a → w < 2 ^ 32 → Answers (.recEpoch seq me tm) s fun t => t.get Fld.TDM_HSEQ_SEQ = seq.toNat ∧ t.get Fld.TDM_ACKSEQ_SEQ = seq.toNat ∧ t.fab.pair.mepoch = me.toNat ∧
    t.fab.pair.openEpoch = [] ∧ (.ackRec true seq.toNat me.toNat ∈ t.out) ∧ (t.word a).toNat = w := by
  intro me tm sq a w hg hq hc _ hj ho hlo hhi _ hlt
  have ha : 0x600 ≤ a / 0x10000 ∧ a / 0x10000 ≤ 0x605 := by omega
  obtain ⟨u, hu⟩ : ∃ u, u = (s.begin.emptied ⟨seq.toNat, 20, .epoch me.toNat tm.toNat, true⟩).count (Ctr.PAIR 1 2) := ⟨_, rfl⟩
  have hans : (u.setWord a (BitVec.ofNat 32 w)).Answering := by
    rw [hu]
    exact ((hstr.answering hc hj).count _ _).setWord _ ha.1
  have hseq : u.get Fld.TDM_HSEQ_SEQ = seq.toNat := by
    rw [hu, State.get_count, State.emptied, State.get_modPair, State.get_hseq_joined seq.isLt]
  refine answers_epoch hrun hstr hg hq (by rw [ho, hu]; exact State.applyRec_word w sq ha) hans fun t ht => ⟨?_, ht.ack, ht.mepoch, ht.openEpoch.trans hans.empty, ht.out, ?_⟩
  · refine ht.hseq.trans ((State.get_of_word (State.word_setWord_other _ _ fun h => ?_)).trans hseq)
    rw [← h] at ha
    revert ha
    decide
  · rw [ht.word a ha, State.closed, State.word_modPair, State.word_count, State.word_setWord_same, BitVec.toNat_ofNat, Nat.mod_eq_of_lt hlt]

/-- A DIR record of the epoch writes its entry. -/
theorem recEpoch_entry : ∀ me : Word, ∀ tm : Word64, ∀ sq : Nat, ∀ hv : Nat, ∀ x : Nat, ∀ e : DirEntry, s.fab.pair.gap = false → seq.toNat = (s.get Fld.TDM_HSEQ_SEQ + 1) % 2 ^ 32 →
    s.fab.pair.hasCredit 1 = true → s.fab.pair.reqDue = false → s.fab.pair.journal = [] → s.fab.pair.openEpoch = [⟨sq, hv, .dir hv x (some e), true⟩] →
    s.fab.pair.unreachable = [] → s.pidsInUse = [] → Answers (.recEpoch seq me tm) s fun t => t.get Fld.TDM_HSEQ_SEQ = seq.toNat ∧ t.get Fld.TDM_ACKSEQ_SEQ = seq.toNat ∧
    t.fab.pair.mepoch = me.toNat ∧ t.fab.pair.openEpoch = [] ∧ (.ackRec true seq.toNat me.toNat ∈ t.out) ∧ (assoc t.fab.home.dir (dirKey hv x)).map (·.e) = some e := by
  intro me tm sq hv x e hg hq hc _ hj ho hu hp
  obtain ⟨u, hue⟩ : ∃ u, u = (s.begin.emptied ⟨seq.toNat, 20, .epoch me.toNat tm.toNat, true⟩).count (Ctr.PAIR 1 2) := ⟨_, rfl⟩
  obtain ⟨f, hf⟩ : ∃ f : Home → Home, f = fun o => { o with dir := assocPut o.dir (dirKey hv x) { e := e, onDie := !u.hasBuckets hv, stamp := 0 } } := ⟨_, rfl⟩
  have hw : s.fab.pair.openEpoch.foldl (State.applyRec false) (s.begin.emptied ⟨seq.toNat, 20, .epoch me.toNat tm.toNat, true⟩) = u.modHome f := by
    rw [ho, hf, hue]
    exact State.applyRec_entry _ sq _ _ _
  have hans : (u.modHome f).Answering := by
    rw [hue]
    exact ((hstr.answering hc hj).count _ _).modHome _
  have hseq : u.get Fld.TDM_HSEQ_SEQ = seq.toNat := by
    rw [hue, State.get_count, State.emptied, State.get_modPair, State.get_hseq_joined seq.isLt]
  have hunr : u.fab.pair.unreachable = [] := by
    rw [hue, State.count_fab, State.emptied, State.modPair_fab, State.pair_joined, State.begin_fab]
    exact hu
  have hpids : u.pidsInUse = [] := by
    rw [hue, State.emptied, State.joined]
    exact State.pidsInUse_put (s := s.begin) hp (by decide)
  refine answers_epoch hrun hstr hg hq hw hans fun t ht => ⟨?_, ht.ack, ht.mepoch, ht.openEpoch.trans hans.empty, ht.out, ?_⟩
  · exact ht.hseq.trans hseq
  · have hdir : ((u.modHome f).closed me.toNat).fab.home = f u.fab.home := rfl
    rw [ht.dir hunr hpids, hdir, hf]
    simp

end

/-- Settles O42: a record in order joins the open epoch, the EPOCH record applies and acknowledges it, and any other is dropped or asked for again. -/
theorem mirrorReceived : Obligations.MirrorReceived := by
  unfold Obligations.MirrorReceived
  intro s seq hrun hrole hup hmpv hpeer hfailed hsrc hfollow hadopt
  have hstr : s.begin.Streams := ⟨⟨hrole, hpeer, hfailed, hsrc, hfollow⟩, hup, hmpv, hadopt⟩
  exact ⟨recDir_next hrun hstr, recReg_next hrun hstr, recCommit_next hrun hstr, recBulkDir_next hrun hstr, recBulkBegin_hive hrun hstr, recBulkBegin_sync hrun hstr,
    recBulkEnd_hive hrun hstr, recEpoch_empty hrun hstr, recEpoch_word hrun hstr, recEpoch_entry hrun hstr, recReg_beyond hrun hstr, recReg_below hrun hstr,
    recReg_waiting hrun hstr, recReg_restart hrun hstr, resendRepeat_gap hrun hstr, resendRepeat_still hrun, recPad_skipped s⟩

end Sys2Proof.Machine
end
